-- ==== Sys2Proof/Word.lean ====
section
/-! DEFINITION. The word types of the block and their plainest arithmetic. A register word at the bus is a `Word`; the
fields inside it, counts, ticks and codes are numbers, masked to their width where they are stored. -/

namespace Sys2Proof

/-- A register word at the configuration port. -/
abbrev Word := BitVec 32

/-- A number read as a two's-complement value of `w` bits. -/
def toSigned (w v : Nat) : Int :=
  let m := v % 2 ^ w
  if m < 2 ^ (w - 1) then (m : Int) else (m : Int) - (2 ^ w : Nat)

/-- The low `w` bits of an integer in two's complement. -/
def ofSigned (w : Nat) (v : Int) : Nat :=
  (v % (2 ^ w : Nat)).toNat

/-- Bits `[hi:lo]` of a number. -/
def bits (hi lo v : Nat) : Nat :=
  v / 2 ^ lo % 2 ^ (hi + 1 - lo)

/-- Bit `i` of a number. -/
def bitAt (i v : Nat) : Bool :=
  v / 2 ^ i % 2 == 1

def b2n (b : Bool) : Nat :=
  if b then 1 else 0

/-- Serial comparison in `w` bits: `a` is newer than `b` when 0 < (a − b) mod 2^w < 2^(w−1) (R24, R240, R246, R339). -/
def serialNewer (w a b : Nat) : Bool :=
  let d := (a + 2 ^ w - b % 2 ^ w) % 2 ^ w
  0 < d && d < 2 ^ (w - 1)

end Sys2Proof
end

