-- ==== Sys2Proof/Syntax.lean ====
section
/-! DEFINITION. The commands of the governor (one constructor of `Instr` for each row of the table of operations and
events) and the data they carry: what the surroundings present at the ports when the step happens. -/

namespace Sys2Proof

/-- One AXI4-Lite access (R379, R380): AxPROT[1], the ID and the byte strobes; beside a write, the offset of a read of the same
AxPROT[1] and ID that reaches the hub clock domain in the same hub cycle (R378). -/
structure Access where
  ns : Bool := false
  id : Nat := 0
  strb : Nat := 15
  also : Option Nat := none
  deriving DecidableEq, Repr

/-- What the boot self-test meets (Table 17.7): one bit for each of the tests 0 to 3 that fails, whether an unrepairable SRAM word
lies in the firmware, log or staging SRAM, and one bit for each link whose pad loop-back failed. -/
structure SelfTest where
  bits : Nat := 0
  sramFw : Bool := false
  links : Nat := 0xFFFFFF
  deriving DecidableEq, Repr

/-- What one slice of a domestique task meets outside the governor: the gain correction of a converter in 1/10,000, the
fitted IMON gain and offset, the error of each comparator in 0.05 mV (what it adds to its trip level before trim), the
source cycles each cell has counted when the slice runs, an uncorrectable word found by scrub, and an error response of a
device-memory write. -/
structure SliceIn where
  corr : Int := 0
  zero : Int := 0
  gain : Nat := 0
  offs : Nat := 0
  errs : List Int := []
  src : List Nat := []
  ue : Option Nat := none
  busErr : Bool := false
  deriving DecidableEq, Repr

/-- What a tick boundary samples: the time in hub cycles, the CAP_SET code (R211), the hub cycles of recovery work in
the tick (R36), the surroundings of the slices of the promotion slot in the order they run, the source cycles each cell
has counted (R435), and for each cell its smallest path captures of the ending tick, in taps, with the taps in one source
period (R65). -/
structure TickIn where
  now : Nat
  capSet : Nat := 0
  recCycles : Nat := 0
  slot : List SliceIn := []
  src : List Nat := []
  taps : List (Nat × List Nat × Nat) := []
  deriving DecidableEq, Repr

/-- The three copies of VR_ALERT_N at the cells, true = asserted (R54, R55). -/
structure Copies where
  a : Bool
  b : Bool
  c : Bool
  deriving DecidableEq, Repr

/-- VR_ALERT_N as it comes off the trees: the copies of every cell, those of the cells that differ from them, and the
source cycles each cell has counted. -/
structure AlertIn where
  v : Copies
  own : List (Nat × Copies) := []
  src : List Nat := []
  deriving DecidableEq, Repr

/-- A frame of a spoke bus: the running activity counts at the cell's taps, and the bits the bus gets wrong, word by word;
none for a frame that does not come (R70 to R72). -/
structure FrameIn where
  act : List Nat := []
  err : Option (List Nat) := some []
  deriving DecidableEq, Repr

/-- What a sub-tick samples: the twelve IMON codes (R77), and the source cycles each cell has counted (R435). -/
structure SubtickIn where
  codes : List Nat
  src : List Nat := []
  deriving DecidableEq, Repr

/-- The frame whose ACK has not come: its link, and whether it is an SSC frame or a SETV (R110). -/
structure TimeoutIn where
  link : Nat
  ssc : Bool := false
  deriving DecidableEq, Repr

/-- One remote-diode conversion: the two differences in nV, and V_be at 16 I and at I in mV (R194, R199). -/
structure DiodeIn where
  dv1 : Int
  dv2 : Int
  vbeHi : Nat
  vbeLo : Nat
  deriving DecidableEq, Repr

/-- The memory faults an engine instruction meets in each lane (R155): stall cycles from corrected errors and scrub
conflicts, and the address of an uncorrectable error. -/
structure EngErr where
  stallA : Nat := 0
  stallB : Nat := 0
  ueA : Option Nat := none
  ueB : Option Nat := none
  deriving DecidableEq, Repr

/-- One meter sample after calibration: voltage in µV and current in µA of both pairs, and the meter's temperature in
1/16 °C (R309, R317). -/
structure MeterIn where
  v0 : Int
  i0 : Int
  v1 : Int
  i1 : Int
  temp : Int := 400
  deriving DecidableEq, Repr

/-- What the test port programs into OTP (Table 17.5). -/
inductive OtpField where
  | keyDigest (d : Nat)
  | bootSrc (v : Nat)
  | bootAddr (v : Nat)
  | provCrc (v : Nat)
  | provLock
  deriving DecidableEq, Repr

/-- The scheduling data of one loop set in an engine image (R156, R174, R177): the band counts, the thresholds, the
schedule channels, the eight region bases, and the set's data range and coefficient range. -/
structure SetBands where
  nt : Nat := 1
  nf : Nat := 1
  tthr : List Int := []
  fthr : List Nat := []
  chans : List Nat := []
  bases : List Nat := []
  dataLo : Nat := 0
  dataHi : Nat := 0
  coefLo : Nat := 0
  coefHi : Nat := 0
  deriving DecidableEq, Repr

/-- Full-scale value of each input kind (R164): current, voltage, input voltage, temperature, power. -/
structure FullScale where
  current : Nat := 1
  voltage : Nat := 1
  vin : Nat := 1
  temp : Nat := 1
  power : Nat := 1
  deriving DecidableEq, Repr

/-- An engine image (R156): program and coefficient words, maps, scales, identifier and STATE_KEEP; `setpts` are the
current set-points of R180 and `vinNom` the nominal input voltages behind words 0x0E0. -/
structure EngImage where
  id : Nat := 0
  keep : Bool := false
  program : List Nat := []
  coef : List (Nat × Nat) := []
  bands : List SetBands := []
  intMap : List (Option (Nat × Nat)) := []
  feMap : List (Option (Nat × Option Nat)) := []
  estMap : List (Nat × Nat) := []
  scale : FullScale := {}
  setpts : List Nat := []
  vinNom : Nat := 48000
  deriving DecidableEq, Repr

/-- The static table of a rail group (R133): 16 voltage breakpoints, 15 temperature bounds, energies by band. -/
structure StaticTable where
  v : List Nat := []
  t : List Int := []
  e : List (List Nat) := []
  deriving DecidableEq, Repr

/-- The reciprocal-efficiency map of a rail-group type (R140): power bounds, input-voltage bounds, Q2.14 values. -/
structure EffMap where
  p : List Nat := []
  v : List Nat := []
  r : List (List Nat) := []
  deriving DecidableEq, Repr

/-- A model image (R130): the 16 seeds (MANT, EXP, RAIL), static tables by group, efficiency maps by type, and the
cluster-peak value. -/
structure ModelImage where
  id : Nat := 0
  seeds : List (Nat × Nat × Nat) := []
  static : List (Nat × StaticTable) := []
  eff : List (Nat × EffMap) := []
  peak : Nat := 0
  deriving DecidableEq, Repr

/-- A margin image (R264, R269, R272, R430): the voltage tables, the frequency table in MHz, the normalisation constants
and the targets of groups other than core. -/
structure MarginImage where
  id : Nat := 0
  own : List Nat := []
  common : List Nat := []
  fr : List Nat := []
  kv : Rat := 0
  kt : Rat := 0
  vref : Rat := 0
  tref : Rat := 0
  vsens : Rat := 0
  targets : List (Nat × Nat) := []
  regs : List (Nat × Nat) := []
  deriving DecidableEq, Repr

/-- A budget image (R215, R228, R230, R231): prices in 0.25 W (per sector and point for one cluster ON, per step, per
level of each link group), hint profiles, peak quanta, load lines in mV per 0.125 A. -/
structure BudgetImage where
  id : Nat := 0
  comp : List (List Rat) := []
  mem : List Rat := []
  link : List (List Rat) := []
  profiles : List (List Nat) := []
  quanta : List Nat := []
  rll : List Rat := []
  regs : List (Nat × Nat) := []
  deriving DecidableEq, Repr

/-- A Tinte table image body, by IMG_LOAD KIND (R349). `rim` and `thermal` list register words by offset; `thermal` also
carries the 33-point thermistor tables (R195). -/
inductive ImageBody where
  | engine (e : EngImage)
  | set (id set : Nat) (coef : List (Nat × Nat))
  | model (m : ModelImage)
  | rim (id : Nat) (regs : List (Nat × Nat))
  | thermal (id : Nat) (regs : List (Nat × Nat)) (tables : List (Nat × List Int))
  | margin (m : MarginImage)
  | budget (b : BudgetImage)
  deriving DecidableEq, Repr

/-- A table image as read: its bytes from the header on (Table 16.1), the engine read-back of R156, and what the format of
Tinte images, which the manual leaves to Tinte, makes of the bytes behind the header. -/
structure ImageFile where
  bytes : List Nat
  readBack : Bool := true
  body : ImageBody
  deriving DecidableEq, Repr

/-- The commands of the block: one constructor for each row of the table of operations and events. -/
inductive Instr where
  /-- POR (R425): Power-on reset release starts the cold-start sequence: domains OFF, engine IDLE, locks clear, TICK counting from the first tooth. -/
  | por (t : SelfTest)
  /-- BOOT_FIRMWARE_LOAD (R427): The boot ROM finishes obtaining a firmware image into slot A, or waits for firmware with NO_FW set. -/
  | bootFirmwareLoad (f : Option (List Nat))
  /-- OTP_PROGRAM (R424): The integrator programs provisioning fields and PROV_LOCK through the IEEE 1149.1 port. -/
  | otpProgram (f : OtpField)
  /-- TOOTH (R18): A REFCLK divider tooth arrives and is accepted as the tick or discarded as noise, according to the validation window or relock rule. -/
  | tooth (i : TickIn)
  /-- LOCKED (R16): At the 64th tooth after POR the governor loads P with the mean period and sets CAD_STAT.LOCKED. -/
  | locked
  /-- SYNTHESISED_TICK (R19): The validation window closes with no accepted tooth, and the governor synthesises the tick at E + W while keeping phase. -/
  | synthesisedTick (i : TickIn)
  /-- CADENCE_LOST (R21): SYNTH_RUN reaches 16, so the governor sets CADENCE_LOST, raises the event and reports the die dragging. -/
  | cadenceLost
  /-- RELOCK (R22): Nine consecutive teeth with in-tolerance spacings after CADENCE_LOST set RELOCKING, and the next valid tooth ends the relock. -/
  | relock (i : TickIn)
  /-- FW_PUBLISH (R31): The foreground handler reaches its publish point and its staged outputs are published for the next tick. -/
  | fwPublish (cycles : Nat)
  /-- FW_OVERRUN (R31): The firmware publish gate closes at cycle 600, so late outputs are discarded, the last outputs are held and an overrun is counted. -/
  | fwOverrun
  /-- ENGINE_OVERRUN (R30): Neither lane has reached END at cycle 700, so the program is stopped, its results are discarded and an engine overrun is counted. -/
  | engineOverrun
  /-- HUB_FAULT_ESC (R33): A third overrun of one program within 1,000 ticks raises a hub fault and triggers a warm restart. -/
  | hubFaultEsc
  /-- DOM_RELEASE (R38): A domestique task is released by its period or trigger, starting a run or merging into a pending one. -/
  | domRelease (n : Nat)
  /-- DOM_PROMOTE (R34): A task's age reaches D − floor(D/4), and the task is promoted until its run completes. -/
  | domPromote (n : Nat)
  /-- DOM_OVERDUE (R35): A run's age reaches its deadline, so an OVERDUE record is logged, the event raised and the counter incremented. -/
  | domOverdue (n : Nat)
  /-- DOM_SLICE (R37): A slice of a released domestique task starts in the slack and runs to completion. -/
  | domSlice (n : Nat) (x : SliceIn)
  /-- FEATHER_TRIGGER (R51): A rising edge of a sentinel's trip signal starts a feather or reloads the hold and escalates the step. -/
  | featherTrigger (n : Nat) (k : Nat) (lvl : Nat) (cyc : Nat)
  /-- TRIP_CLEAR (R50): The trip signal clears and the feather hold counter begins to count down. -/
  | tripClear (n : Nat) (cyc : Nat)
  /-- FEATHER_HOLD_EXPIRY (R52): The feather hold expires and the shaper begins its return through the shallower steps. -/
  | featherHoldExpiry (n : Nat) (cyc : Nat)
  /-- FEATHER_RETURN_STEP (R52): After 16 source cycles at a return step, the shaper moves to the next shallower step or to the unshaped clock. -/
  | featherReturnStep (n : Nat) (cyc : Nat)
  /-- BRAKE (R55): The voted VR_ALERT_N asserts, so every cluster clock goes to divide-by-8 within 50 ns and a brake entry is counted. -/
  | brake (v : AlertIn)
  /-- VR_ALERT_DEASSERT (R58): The voted VR_ALERT_N deasserts, and the hardware quiet count starts from 0. -/
  | vrAlertDeassert (v : AlertIn)
  /-- BRAKE_RELEASE_STEP (R58): The hub requests a release step after the quiet time, and the spoke level steps the brake divider towards 1 if still quiet. -/
  | brakeReleaseStep
  /-- ALERT_SOURCE_TIMEOUT (R123): No link has reported a source within 10 ticks, so ALERT_UNKNOWN is raised and the ceiling is kept on every sector. -/
  | alertSourceTimeout
  /-- ALERT_HOLD_EXPIRY (R124): ALERT_HOLD ms after BRK_RELEASED, the ALERT_PT ceiling is removed. -/
  | alertHoldExpiry
  /-- SPOKE_FRAME (R70): A sentinel's 13-word frame is latched and checked, activity deltas are formed, and tree and feather states are updated. -/
  | spokeFrame (n : Nat) (f : FrameIn)
  /-- SPOKE_FAULT (R72): A sentinel's frames fail for 3 consecutive ticks, so SPOKE_FAULT is raised and the cluster's activity is marked unknown. -/
  | spokeFault (n : Nat)
  /-- SUBTICK (R436): In each rim sub-tick, every IMON is sampled, the short, mid and long windows are updated and drives lower the ceilings. -/
  | subtick (x : SubtickIn) (coolLow : Bool)
  /-- CEIL_RISE (R85): RISE ticks pass with no window over its limit, so the ceiling rises one level and is released above the hub level. -/
  | ceilRise (g : Nat)
  /-- IMON_FAULT (R80): Ten consecutive IMON codes at a rail make the input invalid and raise IMON_FAULT. -/
  | imonFault (g : Nat)
  /-- IMON_VALID (R80): After 1,000 consecutive in-range codes, an IMON input becomes valid again. -/
  | imonValid (g : Nat)
  /-- DOMAIN_RAMP_EVENT (R87): A scheduled class-1 event fires and requests the named domains at that boundary. -/
  | domainRampEvent
  /-- RAMP_UP_START (R90): At a tick boundary, a domain in OFF with PEND = on, 5 µs elapsed, a free slot and no inhibit enters RAMP_UP. -/
  | rampUpStart (n : Nat)
  /-- RAMP_UP_END (R90): After 2 µs of RAMP_UP the domain enters SETTLE and releases its slot. -/
  | rampUpEnd (n : Nat)
  /-- SETTLE_END (R90): After 0.5 µs of SETTLE the domain enters ON if power is good, or else is forced off with RAMP_FAULT. -/
  | settleEnd (n : Nat) (pg : Bool)
  /-- DRAIN_START (R90): At a tick boundary, an ON domain with an off request enters DRAIN and its agent is told to quiesce. -/
  | drainStart (n : Nat)
  /-- DRAIN_END (R90): After one tick of DRAIN, the clock is gated and isolation is applied. -/
  | drainEnd (n : Nat)
  /-- RAMP_DOWN_START (R90): A gated DRAIN domain takes a free slot and enters RAMP_DOWN. -/
  | rampDownStart (n : Nat)
  /-- RAMP_DOWN_END (R90): After 2 µs of RAMP_DOWN the domain enters OFF, releases its slot and starts its off timer. -/
  | rampDownEnd (n : Nat)
  /-- COOL_STOP (R92): Two consecutive low COOL_FAULT_N samples latch COOL_STOP, gate the cluster clocks, force off cluster and link domains and request stack self-refresh. -/
  | coolStop
  /-- SELF_REFRESH_ACK (R417): A stack controller answers STK_SR_REQ with STK_SR_ACK, confirming self-refresh. -/
  | selfRefreshAck (j : Nat)
  /-- SR_FAULT (R92): A stack has not confirmed self-refresh by its deadline, so SR_FAULT is raised and the stack is handled per context. -/
  | srFault (j : Nat)
  /-- FLOW_GOOD_1S (R93): FLOW_GOOD_TICKS reaches 1,000,000, which sets FLOW_GOOD_1S. -/
  | flowGood1s
  /-- REST_ENTRY_START (R94): At the first boundary with every cluster ON or OFF, Rest entry records the wake set and starts DRAIN and lane-idle. -/
  | restEntryStart
  /-- REST_ENTRY_WAVE (R94): At its scheduled time in Rest entry, a wave of clusters ramps down or the stacks are told to self-refresh. -/
  | restEntryWave (k : Nat)
  /-- REST_ENTERED (R94): At 12 µs, REST_STATE becomes REST and REST_ENTERED is raised. -/
  | restEntered
  /-- REST_WAKE_START (R95): Wake begins once a wake request is held and the wake set has been OFF for 5 µs, starting wave 0 and waking stacks and links. -/
  | restWakeStart
  /-- REST_WAKE_WAVE (R96): A class-1 wake-wave event starts RAMP_UP of that wave's clusters. -/
  | restWakeWave (k : Nat)
  /-- REST_EXITED (R96): At 40 µs, REST_STATE becomes RUN and the cluster clock gates open. -/
  | restExited
  /-- ACK (R110): A regulator ACK of a SETV or SSC frame is received and the attempt succeeds. -/
  | ack (n : Nat) (w : Nat)
  /-- ACK_TIMEOUT (R110): No ACK arrives 400 ns after the frame, so the attempt fails, the frame is resent, and after three failures the link enters FAULT. -/
  | ackTimeout (x : TimeoutIn)
  /-- NAK (R111): A NAK is received: REASON 0 is retried, otherwise the transition is ended and the other links are returned to the previous target. -/
  | nak (n : Nat) (w : Nat)
  /-- DONE (R112): A DONE frame updates VDONE if its SEQ matches, and may end the group's transition and send the pending request. -/
  | done (n : Nat) (w : Nat)
  /-- DONE_DEADLINE (R112): A link's DONE is late at the deadline, so it is counted, DONE_LATE is raised and QUERY item 3 is sent. -/
  | doneDeadline (n : Nat)
  /-- TELEM (R117): A TELEM frame stores current, temperature, input voltage or a query reply. -/
  | telem (n : Nat) (w : Nat) (late : Bool)
  /-- WARN (R121): A WARN frame sets or clears the link warning and starts or resumes the regulator-warning ceilings. -/
  | warn (n : Nat) (w : Nat)
  /-- TRAIN_DONE (R102): The 256-slot phase sweep ends, and the governor selects SMP_PH and sends QUERY items 0, 1 and 3. -/
  | trainDone (n : Nat) (pass : List Bool)
  /-- QUERY_TIMEOUT (R102): A training query reply is missing after its deadline, and the link enters FAULT. -/
  | queryTimeout (n : Nat)
  /-- LINK_SUSPECT (R114): Two consecutive received slots fail CRC, and an UP link enters SUSPECT. -/
  | linkSuspect (n : Nat)
  /-- LINK_RECOVER (R114): Eight consecutive good slots return a SUSPECT link to UP and resume its waiting transition. -/
  | linkRecover (n : Nat)
  /-- LINK_FAULT (R114): Eight consecutive failed slots in SUSPECT put the link in FAULT and raise LINK_FAULT. -/
  | linkFault (n : Nat)
  /-- FAULT_RETRAIN (R114): 100,000 ticks in FAULT elapse, and the link re-enters TRAIN. -/
  | faultRetrain (n : Nat)
  /-- DIODE_CONVERSION (R194): A remote-diode conversion completes, giving the raw value, VALUE update, open and short checks, zones and WR_OK. -/
  | diodeConversion (n : Nat) (d : DiodeIn)
  /-- THERMISTOR_CONVERSION (R195): A thermistor conversion completes, giving the interpolated raw value, VALUE update, open and short checks and zones. -/
  | thermistorConversion (n : Nat) (q : Nat)
  /-- DRIFT_CHECK (R200): At TICK mod 1,000 = 0, each channel's VALUE is compared with EST and the drift counts advance. -/
  | driftCheck
  /-- THERMAL_STOP (R204): STOP_MS after entering HIGH_STOP, or after a domain enters ON in the zone, the hub forces off the sectors' cluster domains. -/
  | thermalStop (n : Nat)
  /-- VRW_DROP (R206): While a regulator WARN persists, every VRW_MS ms the ceilings drop by a further VRW_DROP, one level or one step. -/
  | vrwDrop (g : Nat)
  /-- VRW_REMOVE (R206): 100 ms after a group's last WARN clears, the regulator-warning ceilings are removed. -/
  | vrwRemove (g : Nat)
  /-- OTP_DEFERRED_WRITE (R208): Once WR_OK is set, the governor writes one OTP record for each pending key, in order. -/
  | otpDeferredWrite
  /-- CAP_PWM_EDGE (R211): An edge of CAP_PWM is timed, and a completed in-range period updates the PWM cap value. -/
  | capPwmEdge (rise : Bool) (now : Nat)
  /-- BUDGET_PERIOD (R216): Every 10 ticks the firmware prices and allocates the classes, sets the limits and evaluates H for class drops. -/
  | budgetPeriod
  /-- CLASS_RESTORE (R225): H has been false for RESTORE_MS, so the highest dropped class is restored. -/
  | classRestore
  /-- IDLE_GATE (R218): A cluster of an idle-gated partition with no activity and no hint for IDLE_MS is requested off. -/
  | idleGate (c : Nat)
  /-- WAIT_TIMEOUT (R235): A power-up request has not acquired its resources within TIMEOUT ticks, so it releases them and backs off, or fails after RETRIES. -/
  | waitTimeout (n : Nat)
  /-- BACKOFF_RETRY (R235): The LFSR backoff ends, and the request retries acquisition in token, slot, request order. -/
  | backoffRetry (n : Nat)
  /-- HINT_PRESTAGE (R231): A hint's class-4 event sets the hint ceilings, requests OFF hint clusters on and pre-raises the sector voltage. -/
  | hintPrestage
  /-- HINT_EXPIRY (R233): By start + 50 no tick has met the begin energy, so the hint expires and is withdrawn. -/
  | hintExpiry (e : Nat)
  /-- HINT_END (R233): At start + DURATION the hint is withdrawn, its ceilings and ramp reset and the voltage returned. -/
  | hintEnd (e : Nat)
  /-- MODEL_IMAGE_TAKE (R130): A model image takes effect at a class-5 event: the seeds are copied, calibration windows are discarded and the state becomes CONVERGING. -/
  | modelImageTake
  /-- BANK_SWITCH_FIRE (R176): A class-5 bank switch makes the inactive engine bank active, optionally zeroes state and starts release ramps. -/
  | bankSwitchFire
  /-- REGION_SWITCH (R175): After DWELL ticks as the computed region, a class-5 event makes the new gain-schedule region take effect. -/
  | regionSwitch
  /-- OPEN_TIMEOUT (R178): A loop set open for OPEN_MAX ms is closed by the governor, with a release ramp. -/
  | openTimeout (n : Nat)
  /-- NOT_FOLLOWING (R184): A following-error count reaches FE_TIME, so NOT_FOLLOWING is raised, logged and an FE_PT ceiling is added. -/
  | notFollowing (k : Nat)
  /-- NF_CLEAR (R184): After 1,000 committed ticks within FE_LIM, the NF bit and its ceiling clear. -/
  | nfClear (l : Nat) (u : Nat)
  /-- NODE_DUMP_FIRE (R190): A class-7 node-dump event captures the node value of both lanes on the named tick. -/
  | nodeDumpFire
  /-- NOP (R162): Engine instruction doing nothing for one cycle. -/
  | nop (x : EngErr)
  /-- LDA (R160): Engine instruction loading data words into accumulators shifted left by 15. -/
  | lda (x : EngErr)
  /-- MVM (R158): Engine matrix-vector multiply into accumulators, with optional accumulate and HNEG. -/
  | mvm (x : EngErr)
  /-- VMUL (R158): Engine elementwise multiply of coefficients and data into accumulators. -/
  | vmul (x : EngErr)
  /-- ADDI (R161): Engine instruction adding integrator entries to accumulators. -/
  | addi (x : EngErr)
  /-- RND (R159): Engine instruction rounding accumulators to Q1.15 data words with scale SH. -/
  | rnd (x : EngErr)
  /-- SUB (R160): Engine saturating subtraction of two data vectors. -/
  | sub (x : EngErr)
  /-- CLMP (R162): Engine instruction clamping data words between coefficient limits. -/
  | clmp (x : EngErr)
  /-- INTG (R172): Engine conditional integrator update gated by the latched selection codes. -/
  | intg (x : EngErr)
  /-- CVT (R171): Engine conversion of Q1.15 values to point, lane level or bandwidth step. -/
  | cvt (x : EngErr)
  /-- MINSEL (R173): Engine minimum selector forming sector points and codes, or link and stack outputs. -/
  | minsel (x : EngErr)
  /-- MOV (R162): Engine instruction copying data words. -/
  | mov (x : EngErr)
  /-- END (R185): Engine END compares the lane signatures and output areas, and commits or discards the tick and counts disagreements. -/
  | engEnd (x : EngErr)
  /-- KEEP_SEND (R239): A pace lane idle for 10 ticks sends a KEEP message. -/
  | keepSend (l : Nat)
  /-- PACE_LINK_DOWN (R239): A pace link receives no valid message for 30 ticks, so it goes DOWN and raises LINK_DOWN. -/
  | paceLinkDown (l : Nat)
  /-- KEEP (R239): A KEEP message is received on a pace link, counting towards link UP. -/
  | keep (l : Nat) (ws : List Nat)
  /-- REPORT_SEND (R251): At TICK mod 100 = 0 a carrier-enabled governor floods its REPORT. -/
  | reportSend
  /-- REPORT (R245): A flooded REPORT is acted on or forwarded, and updates the live set and stored reports. -/
  | report (l : Nat) (ws : List Nat)
  /-- CARRIER_PERIOD (R252): At TICK mod 10 = 0 a steward computes the carrier split and floods SHARE. -/
  | carrierPeriod
  /-- SHARE (R253): A SHARE is acted on: the die derives its share, obeys the lowest, updates offsets and may yield. -/
  | share (l : Nat) (ws : List Nat) (frac : Nat)
  /-- SHARE_TIMEOUT (R253): No usable SHARE for SHARE_TMO carrier periods makes source 4 invalid. -/
  | shareTimeout
  /-- MEMBER_LOST (R245): A die's REPORT is missing for 3 report intervals, so it leaves the live set. -/
  | memberLost (d : Nat)
  /-- TAKEOVER (R250): A shadow hears no SHARE for 3 carrier periods, so it requests stewardship. -/
  | takeover
  /-- LEASE_EXPIRY (R248): An unrenewed lease expires, so the governor returns to MEMBER and stops SHARE. -/
  | leaseExpiry
  /-- OFFER_SEND (R255): At TICK mod 100 = 0 a steward broadcasts its carrier OFFER on the sideband. -/
  | offerSend
  /-- OFFER (R256): A received OFFER updates carrier liveness and the root's candidate point. -/
  | offer (ws : List Nat)
  /-- CARRIER_LOST (R256): A carrier's OFFER is missing for 3 peloton periods, so it is no longer live. -/
  | carrierLost (c : Nat)
  /-- POINT_SEND (R256): At TICK mod 100 = 0 the root sends POINT with the mode and the APPLY tick. -/
  | pointSend
  /-- POINT (R258): A steward acts on a POINT from its root, schedules the application and floods CPOINT. -/
  | pelPoint (ws : List Nat)
  /-- CPOINT (R258): A member translates a CPOINT into its own tick and schedules a class-2 application. -/
  | cpoint (l : Nat) (ws : List Nat)
  /-- PELOTON_APPLY (R258): A class-2 event makes POINT the target of slew limiter 2. -/
  | pelotonApply
  /-- PSYNC_REQ_SEND (R257): At TICK mod 100 = 50 a steward sends PSYNC_REQ to the root carrier. -/
  | psyncReqSend (frac : Nat)
  /-- PSYNC_REQ (R257): The root answers a PSYNC_REQ with PSYNC_RSP carrying T1, T2 and T3. -/
  | psyncReq (ws : List Nat) (frac2 : Nat) (frac3 : Nat)
  /-- PSYNC_RSP (R257): A steward takes a PSYNC_RSP and computes the offset and delay to the root. -/
  | psyncRsp (ws : List Nat) (frac : Nat)
  /-- DRAG (R259): A received DRAG message updates the member's drag and CANT_FOLLOW state at its steward. -/
  | drag (l : Nat) (ws : List Nat)
  /-- DRAG_RISE (R259): DRAG sets after DRAG_TICKS + 1 drag ticks or on CADENCE_LOST, flooding a DRAG message. -/
  | dragRise
  /-- DRAG_CLEAR (R259): DRAG clears after DRAG_TICKS clean ticks, flooding a DRAG message. -/
  | dragClear
  /-- CANT_FOLLOW (R260): DRAG persists for NOFOLLOW periods, so CANT_FOLLOW is set and flooded. -/
  | cantFollow
  /-- PACELINE_RETURN (R261): RETURN_MS pass without a DRAG rise or CANT_FOLLOW, and the root returns the peloton to tandem. -/
  | pacelineReturn
  /-- ORPHAN (R262): A member with no CPOINT for 3 peloton periods sets ORPHAN and keeps its point. -/
  | orphan
  /-- ABORT (R298): A matching received ABORT is stored, logged and posted as an abort notice to the DMP. -/
  | abort (ws : List Nat)
  /-- APPL_STEP (R266): A cluster offset rises one 2.5 mV step via a SETV and advances on confirmation, at most once per second. -/
  | applStep (c : Nat)
  /-- FENCE_POLL (R375): Once per ms the governor reads the outbound block to detect the FENCE_REQ acknowledgement. -/
  | fencePoll (k : Nat) (ctl : Option Nat)
  /-- FENCE_WAIT_EXPIRY (R277): FENCE_WAIT ms after the fence post, the governor asserts the core's fence and then gates it. -/
  | fenceWaitExpiry
  /-- OMB_POST (R374): Once per tick the governor tries to post the oldest queued outbound message to an agent mailbox. -/
  | ombPost (k : Nat) (ctl : Option Nat) (ok : Bool)
  /-- RC_HB (R285): A write to RC_HB with a new COUNT is a heartbeat that restarts the heartbeat interval. -/
  | rcHb (v : Nat) (a : Access)
  /-- HB_MISS (R286): An HB_MS period without a heartbeat counts a miss, and the second miss opens the ladder. -/
  | hbMiss
  /-- NOTICE_EXPIRY (R291): NOTICE_MS after the escalation notice, the ladder enters DIE with a DMP_HB code. -/
  | noticeExpiry
  /-- PARTITION_STEP_DONE (R293): Every restore-set domain has reached ON or left the set, so the step completes. -/
  | partitionStepDone
  /-- DIE_STEP_DONE (R294): Core resets are released after restore-set clusters are ON, and the ladder enters BOOT. -/
  | dieStepDone
  /-- BOOT_EXPIRY (R291): BOOT_MS without a heartbeat after a die step sends the ladder to POWER. -/
  | bootExpiry
  /-- WDOG_KICK (R287): The hub firmware kicks the watchdog from its foreground handler. -/
  | wdogKick
  /-- WDOG_EXPIRY (R287): 2,000 ticks without a kick trigger a warm restart with source HUB_WDOG. -/
  | wdogExpiry
  /-- ENG_FAULT_TIMEOUT (R288): The engine remains in FAULT for ENG_MS without a bank switch, triggering a warm restart. -/
  | engFaultTimeout
  /-- GOV_RST_N_FALL (R288): A falling edge of GOV_RST_N triggers a governor warm restart and holds holdover while low. -/
  | govRstNFall
  /-- FIRST_PUBLICATION (R300): The restarted or switched firmware publishes for the first time, so holdover ends, release ramps start and READY is announced. -/
  | firstPublication
  /-- FW_SWITCHOVER (R402): A class-6 event makes the inactive firmware slot active and tentative, and holds outputs. -/
  | fwSwitchover
  /-- SW_FAIL (R403): No first publication within SW_MAX ticks, so the switch is abandoned and a warm restart is made into the old slot. -/
  | swFail
  /-- FW_LOAD_DONE (R401): A firmware load finishes copying and checking, leaving the inactive slot VALID or EMPTY, and replies. -/
  | fwLoadDone (f : Option (List Nat))
  /-- IMG_LOAD_DONE (R349): An image load finishes reading and validating, and replies with the image identifier or a refusal. -/
  | imgLoadDone (f : Option ImageFile)
  /-- METER_SAMPLE (R309): Every 250 µs both meter ADC pairs sample, and the mean energy accumulates into E_IN. -/
  | meterSample (m : MeterIn)
  /-- METER_WINDOW (R311): At each 1 s window end the meter compares the pair energies, checks the ROM CRC and applies fault and calibration changes. -/
  | meterWindow (crc : Nat)
  /-- METER_PUBLISH (R312): Every 1 ms the meter sends a publication on the publication lane. -/
  | meterPublish
  /-- PUBLICATION (R313): The mirror receives a publication, checks its CRC, counts gaps and updates the mirror at the next boundary. -/
  | publication (ws : List Nat)
  /-- PUBLICATION_MISSING (R313): 1,100 ticks, then each further 1,000, without a good publication count a missing publication. -/
  | publicationMissing
  /-- METER_CHECKPOINT (R315): Every 100 ms the meter captures a checkpoint and writes its 17 records to the older slot. -/
  | meterCheckpoint
  /-- PFW (R318): A PFW_N falling edge puts the meter in PFW mode with a PFW checkpoint and tail records. -/
  | pfw
  /-- PFW_END (R318): PFW_N high for 10 ms ends PFW mode. -/
  | pfwEnd
  /-- VMTR_LOSS (R319): VMTR falls below its minimum and the meter goes off. -/
  | vmtrLoss (torn : Option (Nat × Nat))
  /-- METER_POWER_UP (R316): At power-up the meter restores the newest complete state or tail, journals any GAP, or enters UNCAL. -/
  | meterPowerUp (crc : Nat) (device : Option (List (Nat × List Nat)))
  /-- SEAL_BREAK (R320): METSEAL_N low for 10 ms counts a seal break, journals it and sets SEAL_OPEN. -/
  | sealBreak
  /-- SEAL_RESTORE (R320): METSEAL_N high for 10 ms clears SEAL_OPEN. -/
  | sealRestore
  /-- INHIBIT_ENTRY (R317): The meter temperature leaves +1 °C to +84 °C, so the meter journals INHIBIT_ENTRY and closes its window. -/
  | inhibitEntry
  /-- INHIBIT_EXIT (R317): The meter temperature returns to +2 °C to +83 °C, so the meter journals INHIBIT_EXIT and the newest checkpoint. -/
  | inhibitExit
  /-- SHARE_CHECKPOINT (R324): A class-3 event forms a share record in hardware and places it in the share buffer. -/
  | shareCheckpoint
  /-- SHARE_RECORD (R325): The meter reads a new share record and apportions metered energy and breach ticks. -/
  | shareRecord
  /-- SUBMISSION_ENTRY (R364): The governor reads a submission ring entry when the handler is ready, checks its CRC and passes the packet to arrival. -/
  | submissionEntry (r : Nat) (e : Option (List Nat))
  /-- COMPLETION_ENTRY (R365): After a completion entry's write response, CQ_TAIL advances and the doorbell bit is set. -/
  | completionEntry (r : Nat) (ok : Bool)
  /-- MAILBOX_TAKE (R369): The handler takes a GO packet from an inbound mailbox, clears GO and the packet arrives. -/
  | mailboxTake (n : Nat)
  /-- PUT (R353): A service-port PUT transaction delivers a packet to the inbound queue, or is discarded. -/
  | put (bs : List Nat)
  /-- GET (R353): A service-port GET transaction returns the oldest reply and removes it on a clean end. -/
  | get (clean : Bool)
  /-- STAT (R354): A service-port STAT transaction returns the status byte and clears LAST_REJ. -/
  | stat
  /-- DOMAIN_READ (R344): Command returning a domain's configuration and status. -/
  | domainRead
  /-- HINT_PHASE (R229): Command checking and accepting a load-shape hint and scheduling its pre-stage. -/
  | hintPhase
  /-- HINT_CANCEL (R233): Command withdrawing a held hint. -/
  | hintCancel
  /-- LOOP_OPEN (R177): Command opening an open-first loop set at the next boundary. -/
  | loopOpen
  /-- LOOP_CLOSE (R178): Command closing an open loop set with a release ramp. -/
  | loopClose
  /-- BANK_SWITCH (R176): Command scheduling a class-5 engine bank switch. -/
  | bankSwitch
  /-- TRACE_ARM (R189): Command setting ENG_TR_CTRL.ARM. -/
  | traceArm
  /-- ENG_READ (R344): Command returning a sector's candidates, outputs and selection. -/
  | engRead
  /-- LEASE (R247): Command granting, renewing or withdrawing a steward or shadow lease. -/
  | lease
  /-- CARRIER_CAP (R345): Command writing CAR_CAP and CAR_RSV. -/
  | carrierCap
  /-- PEL_SET (R345): Command writing PEL_CTRL and the peloton masks. -/
  | pelSet
  /-- PEL_READ (R344): Command returning peloton status, root and share. -/
  | pelRead
  /-- SNAPSHOT (R394): Command requesting a partition-window snapshot at the next boundary. -/
  | snapshot
  /-- ATT_CLEAR (R150): Command clearing attribution entries at the next boundary. -/
  | attClear
  /-- ENERGY_READ (R344): Command returning a partition, die or metered energy total. -/
  | energyRead
  /-- RECOVERY_REPORT (R292): Command logging an accelerator context or engine step. -/
  | recoveryReport
  /-- RECOVERY_STEP (R347): Command requesting a partition, die or power step of the ladder. -/
  | recoveryStep
  /-- WARM_RESTART (R288): Service-port command triggering a governor warm restart. -/
  | warmRestart
  /-- ERR_READ (R344): Command returning the error codes and their tick. -/
  | errRead
  /-- ERR_CLEAR (R345): Command clearing the error-code registers as RC_CLR.ERR does. -/
  | errClear
  /-- SUSPECT_REPORT (R275): Command reporting a classified residue or check failure, driving the core state table. -/
  | suspectReport
  /-- SUSPECT_CLEAR (R280): Command clearing a cluster's suspect offset and slowed cores, with a state record. -/
  | suspectClear
  /-- CORE_CTRL (R348): Command setting a core's divider, gate, reset or fence. -/
  | coreCtrl
  /-- MARGIN_READ (R344): Command returning a cluster's margin registers. -/
  | marginRead
  /-- FW_LOAD (R401): Command loading a firmware image into the inactive slot. -/
  | fwLoad
  /-- FW_SWITCH (R401): Command scheduling a class-6 firmware slot switchover. -/
  | fwSwitch
  /-- IMG_LOAD (R349): Command loading a signed table image of the selected KIND. -/
  | imgLoad
  /-- STAGE_WRITE (R350): Command writing data words into the staging area. -/
  | stageWrite
  /-- LOCK_SET (R357): Command setting LOCK0 and LOCK1 bits. -/
  | lockSet
  /-- LOCK_READ (R344): Command returning LOCK0 and LOCK1. -/
  | lockRead
  /-- METER_IDENT (R323): Meter command returning serial, ROM CRC, calibration generation, breaks and state. -/
  | meterIdent (m : Option (List Nat))
  /-- METER_READ (R323): Meter command returning metered energy, means and flags. -/
  | meterRead (m : Option (List Nat))
  /-- METER_ACCOUNT (R323): Meter-port command returning a partition's apportioned energy and breach totals. -/
  | meterAccount (m : Option (List Nat))
  /-- METER_EVENT (R352): Meter-port command returning one event-ring record. -/
  | meterEvent (m : Option (List Nat))
  /-- CAL_WRITE (R352): Seal-time meter command staging one calibration item. -/
  | calWrite (m : Option (List Nat))
  /-- CAL_COMMIT (R321): Seal-time meter command committing staged calibration to the journal. -/
  | calCommit (m : Option (List Nat))
  /-- SET_SERIAL (R321): Seal-time meter command setting the serial once. -/
  | setSerial (m : Option (List Nat))
  /-- SET_TOL (R323): Seal-time meter command staging the share tolerance. -/
  | setTol (m : Option (List Nat))
  /-- NODE_DUMP (R190): Command scheduling a class-7 node dump. -/
  | nodeDump
  /-- REG_READ (R351): Service-port command making secure register reads. -/
  | regRead
  /-- REG_WRITE (R351): Service-port command making secure register writes. -/
  | regWrite
  /-- GO (R369): Setting MBn_CTL.GO submits the mailbox packet for taking. -/
  | go (n : Nat) (a : Access)
  /-- FETCH (R370): Setting MBn_CTL.FETCH copies the oldest queued reply into the data registers and sets RDY. -/
  | fetch (n : Nat) (a : Access)
  /-- SQ_TAIL_WRITE (R363): A write to RING_SQ_r.TAIL advances the submission tail if within free space. -/
  | sqTailWrite (r : Nat) (v : Nat) (a : Access)
  /-- CQ_HEAD_WRITE (R363): A write to RING_CQ_r.HEAD consumes completion entries if within occupancy. -/
  | cqHeadWrite (r : Nat) (v : Nat) (a : Access)
  /-- RING_ENABLE (R362): Setting RING_CFG_r.EN applies the configuration, zeroes the indices and clears the sequence state. -/
  | ringEnable (r : Nat) (v : Nat) (a : Access)
  /-- RING_DISABLE (R362): Clearing RING_CFG_r.EN stops the pair and discards owed replies. -/
  | ringDisable (r : Nat) (v : Nat) (a : Access)
  /-- TRANSPORT_MODE (R360): A write to TRANSPORT.MODE selects mailbox or ring transport from the next boundary. -/
  | transportMode (v : Nat) (a : Access)
  /-- PERM_EFF_WRITE (R337): A secure write to PERM_n.EFF stores the value ANDed with FIXED unless PERM is locked. -/
  | permEffWrite (n : Nat) (v : Nat) (a : Access)
  /-- LOCK_CFG (R355): Setting LOCK0.CFG freezes RWL fields and loads the in-force copies at boundaries. -/
  | lockCfg (a : Access)
  /-- LOCK_PERM (R338): Setting LOCK1.PERM freezes the effective permission masks. -/
  | lockPerm (a : Access)
  /-- LOCK_TRANSPORT (R356): Setting LOCK1.TRANSPORT freezes the transport selection. -/
  | lockTransport (a : Access)
  /-- LOCK_FW (R356): Setting LOCK1.FW refuses firmware load, switch and staging. -/
  | lockFw (a : Access)
  /-- LOCK_DIAG (R356): Setting LOCK1.DIAG refuses REG_WRITE. -/
  | lockDiag (a : Access)
  /-- PEAK_CLR (R40): Setting CAD_CTRL.PEAK_CLR clears CAD_BUDGET_PEAK at the next boundary. -/
  | peakClr (a : Access)
  /-- SSC_APPLY (R118): Setting GL_CTRL.SSC_APPLY sends the spread-spectrum profile to every UP link. -/
  | sscApply (a : Access)
  /-- RETRAIN (R114): Setting GL_CTRL.RETRAIN sends every FAULT link to TRAIN. -/
  | retrain (a : Access)
  /-- EM_ATT_CLR (R150): Setting EM_ATT_CTRL.CLR clears attribution entries at the next boundary. -/
  | emAttClr (v : Nat) (a : Access)
  /-- ARM (R189): Setting ENG_TR_CTRL.ARM restarts every enabled trace channel with its status cleared. -/
  | arm (v : Nat) (a : Access)
  /-- RC_CLR_ERR (R290): Setting RC_CLR.ERR clears the error-code registers at the next boundary. -/
  | rcClrErr (a : Access)
  /-- PW_SNAP (R394): Setting PW_CTRL.SNAP requests a partition-window snapshot at the next boundary. -/
  | pwSnap (p : Nat) (a : Access)
  /-- FLUSH (R407): Setting LOG_CTRL.FLUSH releases the log flush task. -/
  | flush (v : Nat) (a : Access)
  /-- TAKE (R412): Setting HS_CTRL.TAKE captures a hang snapshot or counts a miss. -/
  | take (v : Nat) (a : Access)
  /-- REARM (R412): Setting HS_CTRL.REARM clears FROZEN and MISSED. -/
  | rearm (v : Nat) (a : Access)
  /-- SNAP_LO_READ (R390): A read of a SNAP pair's _LO half loads the shadow and arms the pair for the reader's ID. -/
  | snapLoRead (off : Nat) (a : Access)
  /-- SNAP_HI_READ (R390): A read of a SNAP pair's _HI half returns the shadow, disarming or setting SNAP_STALE. -/
  | snapHiRead (off : Nat) (a : Access)
  /-- PAIR_LO_WRITE (R391): A write to a writable pair's _LO half is staged. -/
  | pairLoWrite (off : Nat) (v : Nat) (a : Access)
  /-- PAIR_HI_WRITE (R391): A write to a writable pair's _HI half updates both halves at once. -/
  | pairHiWrite (off : Nat) (v : Nat) (a : Access)
  /-- REGISTER_WRITE (R381): A write to a register without its own row is checked against the access outcomes and applied by field type. -/
  | registerWrite (off : Nat) (v : Nat) (a : Access)
  /-- GOV_RST_N_RISE (R300): The rising edge of GOV_RST_N releases the firmware from reset and starts the warm-restart timeline of Table 11.4. -/
  | govRstNRise
  /-- RECEIVE_ERROR (R105): A Gleub frame that fails its CRC, has a wrong-direction type or an undefined type is discarded and counted in GL_ERR_n.RXERR. -/
  | receiveError (n : Nat) (w : Nat)
  /-- MESSAGE_DISCARDED (R244): A pace-link or sideband message of wrong length, undefined MTYPE or with an 8b/10b code violation is discarded and counted in CAR_ERR.CRC. -/
  | messageDiscarded (link : Option Nat)
  /-- CAP_PWM_NO_EDGE (R211): CAP_PWM shows no edge for 2 ms, so the PWM cap source becomes invalid and CAP_FAULT is raised if it is enabled. -/
  | capPwmNoEdge
  /-- METER_PORT_BYTE_GAP (R322): A gap of more than 2 ms between the bytes of a meter-port packet discards the partial packet without reply. -/
  | meterPortByteGap
  /-- IDENT (R344): Command returning IDENT, VERSION and the firmware word. -/
  | ident
  /-- STATUS (R344): Command returning five status registers. -/
  | status
  /-- ECHO (R344): Command returning its parameter words. -/
  | echo
  /-- READ_TICK (R344): Command returning TICK at execution. -/
  | readTick
  /-- SVC_CAP (R345): Command setting the target of the service-port cap slew limiter. -/
  | svcCap
  /-- SET_PART (R227): Command setting a partition's class, idle gate and floor, which take effect at the next boundary. -/
  | setPart
  /-- ASSIGN (R219): Command assigning a range of clusters to a partition. -/
  | assign
  /-- BUDGET_READ (R344): Command returning cap, status and allocations. -/
  | budgetRead
  /-- PART_READ (R344): Command returning a partition's registers. -/
  | partRead
  /-- DOMAIN_ON (R346): Command requesting named domains on, immediately or at a stamp, completing when all are ON or one fails. -/
  | domainOn
  /-- DOMAIN_OFF (R346): Command requesting named domains off, immediately or at a stamp. -/
  | domainOff
  /-- REST_ENTER (R94): Command requesting Rest entry, completing at REST. -/
  | restEnter
  /-- REST_EXIT (R95): Command requesting wake from Rest, completing at RUN. -/
  | restExit
  deriving DecidableEq, Repr

end Sys2Proof
end

