-- ==== Sys2Proof/WellFormed.lean ====
section
/-! DEFINITION. Which commands are well formed: every operand inside the range that the manual rates (Table 0.2) or that
the width of its word admits.  A command outside it names no unit or word of the governor. -/

namespace Sys2Proof

/-- Every word fits `b` bits. -/
def wordsOk (b : Nat) : List Nat → Bool
  | [] => true
  | w :: ws => decide (w < 2 ^ b) && wordsOk b ws

def optWordsOk (b : Nat) : Option (List Nat) → Bool
  | none => true
  | some ws => wordsOk b ws

def optNatOk (lim : Nat) : Option Nat → Bool
  | none => true
  | some v => decide (v < lim)

/-- An 8-bit ID and four byte strobes (R379 to R382). -/
def accessOk (a : Access) : Bool :=
  decide (a.id < 256) && decide (a.strb < 16) && a.also.all (fun o => decide (o < 2 ^ 18))

/-- The provisioning fields of Table 17.5 by width. -/
def otpOk : OtpField → Bool
  | .keyDigest d => decide (d < 2 ^ 384)
  | .bootSrc v => decide (v < 4)
  | .bootAddr v => decide (v < 2 ^ 64)
  | .provCrc v => decide (v < 2 ^ 32)
  | .provLock => true

/-- A word fits its width. -/
def natOk (b w : Nat) : Bool :=
  decide (w < 2 ^ b)

/-- The self-test outcome: four tests and 24 links (Table 17.7, R102). -/
def SelfTest.wf (t : SelfTest) : Bool :=
  natOk 4 t.bits && natOk 24 t.links

/-- What a tick samples: the 10-bit CAP_SET code (R211) and at most 4,000 cycles of recovery work. -/
def TickIn.wf (i : TickIn) : Bool :=
  decide (i.capSet < 1024)

/-- What four converters of 24 bits can read (R309): unsigned codes of the voltages, signed codes of the currents. -/
def MeterIn.wf (m : MeterIn) : Bool :=
  decide (0 ≤ m.v0) && decide (m.v0 < 2 ^ 24) && decide (0 ≤ m.v1) && decide (m.v1 < 2 ^ 24) &&
    decide (-2 ^ 23 ≤ m.i0) && decide (m.i0 < 2 ^ 23) && decide (-2 ^ 23 ≤ m.i1) && decide (m.i1 < 2 ^ 23)

/-- A record of a journal device: its number and its 64 bytes (R314). -/
def recordOk (r : Nat × List Nat) : Bool :=
  decide (r.1 < 2048) && r.2.length == 64 && wordsOk 8 r.2

/-- A table image by its bytes (R349). -/
def ImageFile.wf (f : ImageFile) : Bool :=
  wordsOk 8 f.bytes

/-- An operand that the surroundings may fail to deliver. -/
def optOk {α : Type} (p : α → Bool) : Option α → Bool
  | none => true
  | some a => p a

/-- A well-formed command: unit numbers and words inside their rated ranges. -/
def Instr.wf : Instr → Bool
  | .por t => t.wf
  | .bootFirmwareLoad f => optOk (wordsOk 8) f
  | .otpProgram f => otpOk f
  | .tooth i => i.wf
  | .locked => true
  | .synthesisedTick i => i.wf
  | .cadenceLost => true
  | .relock i => i.wf
  | .fwPublish _ => true
  | .fwOverrun => true
  | .engineOverrun => true
  | .hubFaultEsc => true
  | .domRelease n => decide (n < 10)
  | .domPromote n => decide (n < 10)
  | .domOverdue n => decide (n < 10)
  | .domSlice n _ => decide (n < 10)
  | .featherTrigger n k _ _ => decide (n < 192) && decide (k < 4)
  | .tripClear n _ => decide (n < 192)
  | .featherHoldExpiry n _ => decide (n < 192)
  | .featherReturnStep n _ => decide (n < 192)
  | .brake v => v.own.all (fun e => decide (e.1 < 192))
  | .vrAlertDeassert v => v.own.all (fun e => decide (e.1 < 192))
  | .brakeReleaseStep => true
  | .alertSourceTimeout => true
  | .alertHoldExpiry => true
  | .spokeFrame n f => decide (n < 192) && wordsOk 32 f.act && optWordsOk 32 f.err
  | .spokeFault n => decide (n < 192)
  | .subtick x _ => x.codes.length == 12 && wordsOk 10 x.codes
  | .ceilRise g => decide (g < 12)
  | .imonFault g => decide (g < 12)
  | .imonValid g => decide (g < 12)
  | .domainRampEvent => true
  | .rampUpStart n => decide (n < 248)
  | .rampUpEnd n => decide (n < 248)
  | .settleEnd n _ => decide (n < 248)
  | .drainStart n => decide (n < 248)
  | .drainEnd n => decide (n < 248)
  | .rampDownStart n => decide (n < 248)
  | .rampDownEnd n => decide (n < 248)
  | .coolStop => true
  | .selfRefreshAck j => decide (j < 8)
  | .srFault j => decide (j < 8)
  | .flowGood1s => true
  | .restEntryStart => true
  | .restEntryWave k => decide (k < 24)
  | .restEntered => true
  | .restWakeStart => true
  | .restWakeWave k => decide (k < 24)
  | .restExited => true
  | .ack n w => decide (n < 24) && decide (w < 2 ^ 32)
  | .ackTimeout x => decide (x.link < 24)
  | .nak n w => decide (n < 24) && decide (w < 2 ^ 32)
  | .done n w => decide (n < 24) && decide (w < 2 ^ 32)
  | .doneDeadline n => decide (n < 24)
  | .telem n w _ => decide (n < 24) && decide (w < 2 ^ 32)
  | .warn n w => decide (n < 24) && decide (w < 2 ^ 32)
  | .trainDone n pass => decide (n < 24) && (pass.length == 16)
  | .queryTimeout n => decide (n < 24)
  | .linkSuspect n => decide (n < 24)
  | .linkRecover n => decide (n < 24)
  | .linkFault n => decide (n < 24)
  | .faultRetrain n => decide (n < 24)
  | .diodeConversion n _ => decide (n < 25)
  | .thermistorConversion n _ => decide (n < 25)
  | .driftCheck => true
  | .thermalStop n => decide (n < 25)
  | .vrwDrop g => decide (g < 12)
  | .vrwRemove g => decide (g < 12)
  | .otpDeferredWrite => true
  | .capPwmEdge _ _ => true
  | .budgetPeriod => true
  | .classRestore => true
  | .idleGate c => decide (c < 192)
  | .waitTimeout n => decide (n < 248)
  | .backoffRetry n => decide (n < 248)
  | .hintPrestage => true
  | .hintExpiry e => decide (e < 8)
  | .hintEnd e => decide (e < 8)
  | .modelImageTake => true
  | .bankSwitchFire => true
  | .regionSwitch => true
  | .openTimeout n => decide (n < 4)
  | .notFollowing k => decide (k < 32)
  | .nfClear l u => decide (l < 5) && decide (u < 7)
  | .nodeDumpFire => true
  | .nop _ => true
  | .lda _ => true
  | .mvm _ => true
  | .vmul _ => true
  | .addi _ => true
  | .rnd _ => true
  | .sub _ => true
  | .clmp _ => true
  | .intg _ => true
  | .cvt _ => true
  | .minsel _ => true
  | .mov _ => true
  | .engEnd _ => true
  | .keepSend l => decide (l < 4)
  | .paceLinkDown l => decide (l < 4)
  | .keep l ws => decide (l < 4) && wordsOk 32 ws
  | .reportSend => true
  | .report l ws => decide (l < 4) && wordsOk 32 ws
  | .carrierPeriod => true
  | .share l ws frac => decide (l < 4) && wordsOk 32 ws && decide (frac < 1024)
  | .shareTimeout => true
  | .memberLost d => decide (d < 64)
  | .takeover => true
  | .leaseExpiry => true
  | .offerSend => true
  | .offer ws => wordsOk 32 ws
  | .carrierLost c => decide (c < 256)
  | .pointSend => true
  | .pelPoint ws => wordsOk 32 ws
  | .cpoint l ws => decide (l < 4) && wordsOk 32 ws
  | .pelotonApply => true
  | .psyncReqSend frac => decide (frac < 1024)
  | .psyncReq ws frac2 frac3 => wordsOk 32 ws && decide (frac2 < 1024) && decide (frac3 < 1024)
  | .psyncRsp ws frac => wordsOk 32 ws && decide (frac < 1024)
  | .drag l ws => decide (l < 4) && wordsOk 32 ws
  | .dragRise => true
  | .dragClear => true
  | .cantFollow => true
  | .pacelineReturn => true
  | .orphan => true
  | .abort ws => wordsOk 32 ws
  | .applStep c => decide (c < 192)
  | .fencePoll k ctl => decide (k < 8) && optNatOk (2 ^ 32) ctl
  | .fenceWaitExpiry => true
  | .ombPost k ctl _ => decide (k < 8) && optNatOk (2 ^ 32) ctl
  | .rcHb v a => decide (v < 2 ^ 32) && accessOk a
  | .hbMiss => true
  | .noticeExpiry => true
  | .partitionStepDone => true
  | .dieStepDone => true
  | .bootExpiry => true
  | .wdogKick => true
  | .wdogExpiry => true
  | .engFaultTimeout => true
  | .govRstNFall => true
  | .firstPublication => true
  | .fwSwitchover => true
  | .swFail => true
  | .fwLoadDone f => optOk (wordsOk 8) f
  | .imgLoadDone f => optOk ImageFile.wf f
  | .meterSample m => m.wf
  | .meterWindow crc => decide (crc < 2 ^ 32)
  | .meterPublish => true
  | .publication ws => wordsOk 32 ws
  | .publicationMissing => true
  | .meterCheckpoint => true
  | .pfw => true
  | .pfwEnd => true
  | .vmtrLoss t => t.all (fun t => decide (t.1 < 24) && decide (t.2 ≤ 64))
  | .meterPowerUp crc d => decide (crc < 2 ^ 32) && d.all (fun l => l.all recordOk)
  | .sealBreak => true
  | .sealRestore => true
  | .inhibitEntry => true
  | .inhibitExit => true
  | .shareCheckpoint => true
  | .shareRecord => true
  | .submissionEntry r e => decide (r < 15) && optWordsOk 32 e
  | .completionEntry r _ => decide (r < 15)
  | .mailboxTake n => decide (n < 16)
  | .put bs => wordsOk 8 bs
  | .get _ => true
  | .stat => true
  | .ident => true
  | .status => true
  | .echo => true
  | .readTick => true
  | .svcCap => true
  | .setPart => true
  | .assign => true
  | .budgetRead => true
  | .partRead => true
  | .domainOn => true
  | .domainOff => true
  | .restEnter => true
  | .restExit => true
  | .domainRead => true
  | .hintPhase => true
  | .hintCancel => true
  | .loopOpen => true
  | .loopClose => true
  | .bankSwitch => true
  | .traceArm => true
  | .engRead => true
  | .lease => true
  | .carrierCap => true
  | .pelSet => true
  | .pelRead => true
  | .snapshot => true
  | .attClear => true
  | .energyRead => true
  | .recoveryReport => true
  | .recoveryStep => true
  | .warmRestart => true
  | .errRead => true
  | .errClear => true
  | .suspectReport => true
  | .suspectClear => true
  | .coreCtrl => true
  | .marginRead => true
  | .fwLoad => true
  | .fwSwitch => true
  | .imgLoad => true
  | .stageWrite => true
  | .lockSet => true
  | .lockRead => true
  | .meterIdent m => optWordsOk 8 m
  | .meterRead m => optWordsOk 8 m
  | .meterAccount m => optWordsOk 8 m
  | .meterEvent m => optWordsOk 8 m
  | .calWrite m => optWordsOk 8 m
  | .calCommit m => optWordsOk 8 m
  | .setSerial m => optWordsOk 8 m
  | .setTol m => optWordsOk 8 m
  | .nodeDump => true
  | .regRead => true
  | .regWrite => true
  | .go n a => decide (n < 16) && accessOk a
  | .fetch n a => decide (n < 16) && accessOk a
  | .sqTailWrite r v a => decide (r < 15) && decide (v < 2 ^ 32) && accessOk a
  | .cqHeadWrite r v a => decide (r < 15) && decide (v < 2 ^ 32) && accessOk a
  | .ringEnable r v a => decide (r < 15) && decide (v < 2 ^ 32) && accessOk a
  | .ringDisable r v a => decide (r < 15) && decide (v < 2 ^ 32) && accessOk a
  | .transportMode v a => decide (v < 2 ^ 32) && accessOk a
  | .permEffWrite n v a => decide (n < 256) && decide (v < 2 ^ 32) && accessOk a
  | .lockCfg a => accessOk a
  | .lockPerm a => accessOk a
  | .lockTransport a => accessOk a
  | .lockFw a => accessOk a
  | .lockDiag a => accessOk a
  | .peakClr a => accessOk a
  | .sscApply a => accessOk a
  | .retrain a => accessOk a
  | .emAttClr v a => decide (v < 2 ^ 32) && accessOk a
  | .arm v a => decide (v < 2 ^ 32) && accessOk a
  | .rcClrErr a => accessOk a
  | .pwSnap p a => decide (p < 32) && accessOk a
  | .flush v a => decide (v < 2 ^ 32) && accessOk a
  | .take v a => decide (v < 2 ^ 32) && accessOk a
  | .rearm v a => decide (v < 2 ^ 32) && accessOk a
  | .snapLoRead off a => decide (off < 2 ^ 18) && accessOk a
  | .snapHiRead off a => decide (off < 2 ^ 18) && accessOk a
  | .pairLoWrite off v a => decide (off < 2 ^ 18) && decide (v < 2 ^ 32) && accessOk a
  | .pairHiWrite off v a => decide (off < 2 ^ 18) && decide (v < 2 ^ 32) && accessOk a
  | .registerWrite off v a => decide (off < 2 ^ 18) && decide (v < 2 ^ 32) && accessOk a
  | .govRstNRise => true
  | .receiveError n w => decide (n < 24) && decide (w < 2 ^ 32)
  | .messageDiscarded link => optNatOk 8 link
  | .capPwmNoEdge => true
  | .meterPortByteGap => true

end Sys2Proof
end

