-- ==== Sys2Proof/Config.lean ====
section
/-! DEFINITION. What an implementation fixes, and the values the manual leaves free. A free value has no body: nothing in
Lean can evaluate it, and a statement about it holds whatever it is. -/

namespace Sys2Proof

/-- The n-th free value: any number, narrowed by the reader to the width it needs. The step that uses one reads and
advances `State.free` (log entry 3). -/
opaque Config.freeValue : Nat → Nat

end Sys2Proof
end

