-- ==== Sys2Proof/Machine/Opcodes.lean ====
section
/-! DEFINITION. The opcode table (Table 13.5): the fixed permission mask of every opcode, the parameter counts it allows,
and the opcode numbers. -/

namespace Sys2Proof.Machine

/-- `PERM_n.FIXED`: bit 3 M, bit 2 S, bit 1 HS, bit 0 H; 0 for an undefined opcode (R337, R358). -/
def fixedMask (op : Nat) : Nat :=
  match op with
  | 0x00 => 7
  | 0x01 => 7
  | 0x02 => 7
  | 0x03 => 7
  | 0x10 => 4
  | 0x11 => 6
  | 0x12 => 6
  | 0x13 => 7
  | 0x14 => 6
  | 0x20 => 7
  | 0x21 => 7
  | 0x22 => 7
  | 0x23 => 7
  | 0x24 => 7
  | 0x30 => 7
  | 0x31 => 7
  | 0x40 => 6
  | 0x41 => 6
  | 0x42 => 6
  | 0x43 => 7
  | 0x44 => 7
  | 0x50 => 4
  | 0x51 => 6
  | 0x52 => 6
  | 0x53 => 7
  | 0x60 => 7
  | 0x61 => 6
  | 0x62 => 6
  | 0x70 => 3
  | 0x71 => 6
  | 0x72 => 4
  | 0x73 => 7
  | 0x74 => 6
  | 0x80 => 3
  | 0x81 => 6
  | 0x82 => 6
  | 0x83 => 7
  | 0x90 => 6
  | 0x91 => 6
  | 0x92 => 6
  | 0x93 => 4
  | 0x94 => 6
  | 0x95 => 7
  | 0xA0 => 15
  | 0xA1 => 15
  | 0xA2 => 8
  | 0xA3 => 8
  | 0xA8 => 8
  | 0xA9 => 8
  | 0xAA => 8
  | 0xAB => 8
  | 0xF0 => 7
  | 0xF1 => 4
  | 0xF2 => 4
  | _ => 0

/-- An opcode of Table 13.5 (R333 step 3). -/
def opDefined (op : Nat) : Bool :=
  fixedMask op != 0

/-- PCNT allowed for the opcode (R333 step 5, R344). -/
def pcntOk (op n : Nat) : Bool :=
  match op with
  | 0x00 => decide (n = 0)
  | 0x01 => decide (n = 0)
  | 0x02 => decide (0 ≤ n ∧ n ≤ 14)
  | 0x03 => decide (n = 0)
  | 0x10 => decide (n = 1)
  | 0x11 => decide (n = 1)
  | 0x12 => decide (n = 1)
  | 0x13 => decide (n = 0)
  | 0x14 => decide (n = 1)
  | 0x20 => decide (n = 1 ∨ n = 3)
  | 0x21 => decide (n = 1 ∨ n = 3)
  | 0x22 => decide (n = 0)
  | 0x23 => decide (n = 0)
  | 0x24 => decide (n = 1)
  | 0x30 => decide (4 ≤ n ∧ n ≤ 11)
  | 0x31 => decide (n = 1)
  | 0x40 => decide (n = 1)
  | 0x41 => decide (n = 1)
  | 0x42 => decide (n = 0 ∨ n = 2)
  | 0x43 => decide (n = 0)
  | 0x44 => decide (n = 1)
  | 0x50 => decide (n = 2)
  | 0x51 => decide (n = 2)
  | 0x52 => decide (n = 9)
  | 0x53 => decide (n = 0)
  | 0x60 => decide (n = 1)
  | 0x61 => decide (n = 1)
  | 0x62 => decide (n = 1)
  | 0x70 => decide (n = 1)
  | 0x71 => decide (n = 1)
  | 0x72 => decide (n = 0)
  | 0x73 => decide (n = 0)
  | 0x74 => decide (n = 0)
  | 0x80 => decide (n = 2)
  | 0x81 => decide (n = 1)
  | 0x82 => decide (n = 2)
  | 0x83 => decide (n = 1)
  | 0x90 => decide (n = 4)
  | 0x91 => decide (n = 0 ∨ n = 2)
  | 0x92 => decide (n = 4)
  | 0x93 => decide (2 ≤ n ∧ n ≤ 14)
  | 0x94 => decide (n = 1)
  | 0x95 => decide (n = 0)
  | 0xA0 => decide (n = 0)
  | 0xA1 => decide (n = 0)
  | 0xA2 => decide (n = 1)
  | 0xA3 => decide (n = 1)
  | 0xA8 => decide (n = 2)
  | 0xA9 => decide (n = 0)
  | 0xAA => decide (n = 1)
  | 0xAB => decide (n = 1)
  | 0xF0 => decide (n = 3)
  | 0xF1 => decide (1 ≤ n ∧ n ≤ 14)
  | 0xF2 => decide (2 ≤ n ∧ n ≤ 14 ∧ n % 2 = 0)
  | _ => false

end Sys2Proof.Machine
end

