-- ==== Sys2Proof/Machine/Store.lean ====
section
/-! DEFINITION. Sparse stores: lists of (key, value) with rising keys that never list the value an unlisted key reads as.
The register fields, the per-instance records and the memories of the block are all held in this one form. -/

namespace Sys2Proof.Machine

/-- A sparse table: what an unlisted key reads as is given by the reader. -/
abbrev Table (α : Type) := List (Nat × α)

/-- The value at key `i`, `d` where none is listed. -/
def Table.get {α : Type} (d : α) : Table α → Nat → α
  | [], _ => d
  | (k, v) :: t, i => if k = i then v else Table.get d t i

/-- List `v` at key `i`, in key order. -/
def Table.put {α : Type} : Table α → Nat → α → Table α
  | [], i, v => [(i, v)]
  | (k, w) :: t, i, v =>
    if i = k then (i, v) :: t else if i < k then (i, v) :: (k, w) :: t else (k, w) :: Table.put t i v

/-- Unlist key `i`. -/
def Table.del {α : Type} : Table α → Nat → Table α
  | [], _ => []
  | (k, w) :: t, i => if k = i then Table.del t i else (k, w) :: Table.del t i

/-- Write `v` at key `i` of a table whose unlisted keys read `d`; the canonical form lists no `d`. -/
def Table.set {α : Type} [DecidableEq α] (d : α) (t : Table α) (i : Nat) (v : α) : Table α :=
  if v = d then t.del i else t.put i v

/-- The canonical form: keys strictly rising, no entry equal to what an unlisted key reads as. -/
def Table.wf {α : Type} [DecidableEq α] (d : Nat → α) : Table α → Bool
  | [] => true
  | [(k, v)] => decide (v ≠ d k)
  | (k, v) :: (k', v') :: t => decide (v ≠ d k) && decide (k < k') && Table.wf d ((k', v') :: t)

/-- A register field: the bit address of its least significant bit in instance 0, the bits from one instance to the
next, its width, its reset value by instance, and whether it is RWL frozen by `LOCK0.CFG` (R388). -/
structure Fld where
  base : Nat
  stride : Nat
  width : Nat
  reset : Nat → Nat
  rwl : Bool

def fld (base stride width : Nat) (reset : Nat → Nat) : Fld :=
  ⟨base, stride, width, reset, false⟩

def rfld (base stride width : Nat) (reset : Nat → Nat) : Fld :=
  ⟨base, stride, width, reset, true⟩

/-- The key of instance `i` of a field: its bit address in the register window. -/
def Fld.key (F : Fld) (i : Nat) : Nat :=
  F.base + F.stride * i

end Sys2Proof.Machine
end

