-- ==== Sys2Proof/Machine/Regs.lean ====
section
/-! DEFINITION. Every register field the spec lists, as one `Fld` each: the bit address of its least significant
bit in instance 0 (8 × offset + lsb), the bits between instances, its width and its reset value, from the register
tables of every chapter.  A field written with `r*` is RWL frozen by `LOCK0.CFG` and has an in-force copy (R388).
A 64-bit pair is one 64-bit field at its _LO half (R11).  Fields at offsets from 0x10_0000 up are the words reached
through `SNT_DATA_n` (Table 2.10), which have no offset of their own in the window. -/

namespace Sys2Proof.Machine

/-! ### cadence (Tables 1.5–1.10, R40) -/

def CAD_CTRL.PEAK_CLR : Fld := fld (8 * 0x400 + 0) 0 1 (fun _ => 0)
def CAD_STAT.EVQ_FILL : Fld := fld (8 * 0x404 + 16) 0 7 (fun _ => 0)
def CAD_STAT.SYNTH_RUN : Fld := fld (8 * 0x404 + 8) 0 5 (fun _ => 0)
def CAD_STAT.RELOCKING : Fld := fld (8 * 0x404 + 3) 0 1 (fun _ => 0)
def CAD_STAT.CADENCE_LOST : Fld := fld (8 * 0x404 + 2) 0 1 (fun _ => 0)
def CAD_STAT.LAST_SYNTH : Fld := fld (8 * 0x404 + 1) 0 1 (fun _ => 0)
def CAD_STAT.LOCKED : Fld := fld (8 * 0x404 + 0) 0 1 (fun _ => 0)
def CAD_EVT.HUB_FAULT_ESC : Fld := fld (8 * 0x408 + 9) 0 1 (fun _ => 0)
def CAD_EVT.OVERDUE : Fld := fld (8 * 0x408 + 8) 0 1 (fun _ => 0)
def CAD_EVT.FW_OVR : Fld := fld (8 * 0x408 + 7) 0 1 (fun _ => 0)
def CAD_EVT.ENG_OVR : Fld := fld (8 * 0x408 + 6) 0 1 (fun _ => 0)
def CAD_EVT.LATE : Fld := fld (8 * 0x408 + 5) 0 1 (fun _ => 0)
def CAD_EVT.DEFER : Fld := fld (8 * 0x408 + 4) 0 1 (fun _ => 0)
def CAD_EVT.RELOCK : Fld := fld (8 * 0x408 + 3) 0 1 (fun _ => 0)
def CAD_EVT.LOST : Fld := fld (8 * 0x408 + 2) 0 1 (fun _ => 0)
def CAD_EVT.NOISE : Fld := fld (8 * 0x408 + 1) 0 1 (fun _ => 0)
def CAD_EVT.SYNTH : Fld := fld (8 * 0x408 + 0) 0 1 (fun _ => 0)
def CAD_EVT_EN.HUB_FAULT_ESC : Fld := fld (8 * 0x40c + 9) 0 1 (fun _ => 1)
def CAD_EVT_EN.OVERDUE : Fld := fld (8 * 0x40c + 8) 0 1 (fun _ => 0)
def CAD_EVT_EN.FW_OVR : Fld := fld (8 * 0x40c + 7) 0 1 (fun _ => 0)
def CAD_EVT_EN.ENG_OVR : Fld := fld (8 * 0x40c + 6) 0 1 (fun _ => 0)
def CAD_EVT_EN.LATE : Fld := fld (8 * 0x40c + 5) 0 1 (fun _ => 0)
def CAD_EVT_EN.DEFER : Fld := fld (8 * 0x40c + 4) 0 1 (fun _ => 0)
def CAD_EVT_EN.RELOCK : Fld := fld (8 * 0x40c + 3) 0 1 (fun _ => 0)
def CAD_EVT_EN.LOST : Fld := fld (8 * 0x40c + 2) 0 1 (fun _ => 1)
def CAD_EVT_EN.NOISE : Fld := fld (8 * 0x40c + 1) 0 1 (fun _ => 0)
def CAD_EVT_EN.SYNTH : Fld := fld (8 * 0x40c + 0) 0 1 (fun _ => 0)
def CAD_PERIOD.PERIOD : Fld := fld (8 * 0x410 + 0) 0 24 (fun _ => 0x3e800)
def CAD_TICK.TICK : Fld := fld (8 * 0x418 + 0) 0 64 (fun _ => 0)
def CAD_SYNTH_CNT.SYNTH : Fld := fld (8 * 0x420 + 0) 0 32 (fun _ => 0)
def CAD_NOISE_CNT.NOISE : Fld := fld (8 * 0x424 + 0) 0 32 (fun _ => 0)
def CAD_DEFER_CNT.LATE : Fld := fld (8 * 0x428 + 16) 0 16 (fun _ => 0)
def CAD_DEFER_CNT.DEFER : Fld := fld (8 * 0x428 + 0) 0 16 (fun _ => 0)
def CAD_RELOCK_CNT.LOST : Fld := fld (8 * 0x42c + 16) 0 16 (fun _ => 0)
def CAD_RELOCK_CNT.RELOCK : Fld := fld (8 * 0x42c + 0) 0 16 (fun _ => 0)
def CAD_BUDGET.ENG_LAST : Fld := fld (8 * 0x430 + 16) 0 16 (fun _ => 0)
def CAD_BUDGET.FW_LAST : Fld := fld (8 * 0x430 + 0) 0 16 (fun _ => 0)
def CAD_BUDGET_PEAK.ENG_PEAK : Fld := fld (8 * 0x434 + 16) 0 16 (fun _ => 0)
def CAD_BUDGET_PEAK.FW_PEAK : Fld := fld (8 * 0x434 + 0) 0 16 (fun _ => 0)
def CAD_OVERRUN.ENG : Fld := fld (8 * 0x438 + 16) 0 16 (fun _ => 0)
def CAD_OVERRUN.FW : Fld := fld (8 * 0x438 + 0) 0 16 (fun _ => 0)
def DOM_CTRL.SELFTEST_EN : Fld := rfld (8 * 0x440 + 15) 0 1 (fun _ => 1)
def DOM_CTRL.TELEM_MS : Fld := fld (8 * 0x440 + 0) 0 7 (fun _ => 10)
def DOM_AGE.AGE : Fld := fld (8 * 0x480 + 0) 64 32 (fun _ => 0)
def DOM_STAT.OVERDUE : Fld := fld (8 * 0x484 + 16) 64 16 (fun _ => 0)
def DOM_STAT.MERGED : Fld := fld (8 * 0x484 + 8) 64 8 (fun _ => 0)
def DOM_STAT.PROMOTED : Fld := fld (8 * 0x484 + 1) 64 1 (fun _ => 0)
def DOM_STAT.PENDING : Fld := fld (8 * 0x484 + 0) 64 1 (fun _ => 0)
/-! ### spoke (Tables 2.6–2.10, R73) -/

def SPK_CTRL.BRK_QUIET : Fld := rfld (8 * 0x2300 + 24) 0 8 (fun _ => 10)
def SPK_CTRL.BRK_STEP : Fld := rfld (8 * 0x2300 + 20) 0 4 (fun _ => 2)
def SPK_CTRL.FAIL_DIV : Fld := rfld (8 * 0x2300 + 18) 0 2 (fun _ => 1)
def SPK_STAT.BRAKE : Fld := fld (8 * 0x2304 + 31) 0 1 (fun _ => 0)
def SPK_STAT.BRK_DIV : Fld := fld (8 * 0x2304 + 29) 0 2 (fun _ => 0)
def SPK_STAT.ALERT_ABC : Fld := fld (8 * 0x2304 + 26) 0 3 (fun _ => 0)
def SPK_STAT.BUS_OK : Fld := fld (8 * 0x2304 + 12) 0 12 (fun _ => 0)
def SPK_STAT.FEATHER_ACT : Fld := fld (8 * 0x2304 + 0) 0 8 (fun _ => 0)
def SPK_EVT.TRIM_FAIL : Fld := fld (8 * 0x2308 + 7) 0 1 (fun _ => 0)
def SPK_EVT.SPOKE_FAULT : Fld := fld (8 * 0x2308 + 6) 0 1 (fun _ => 0)
def SPK_EVT.TREE_FAULT : Fld := fld (8 * 0x2308 + 5) 0 1 (fun _ => 0)
def SPK_EVT.INJ_FAIL : Fld := fld (8 * 0x2308 + 4) 0 1 (fun _ => 0)
def SPK_EVT.BRK_RELEASED : Fld := fld (8 * 0x2308 + 3) 0 1 (fun _ => 0)
def SPK_EVT.BRAKE : Fld := fld (8 * 0x2308 + 2) 0 1 (fun _ => 0)
def SPK_EVT.FEATHER_SKIP : Fld := fld (8 * 0x2308 + 1) 0 1 (fun _ => 0)
def SPK_EVT.FEATHER : Fld := fld (8 * 0x2308 + 0) 0 1 (fun _ => 0)
def SPK_EVT_EN.TRIM_FAIL : Fld := fld (8 * 0x230c + 7) 0 1 (fun _ => 1)
def SPK_EVT_EN.SPOKE_FAULT : Fld := fld (8 * 0x230c + 6) 0 1 (fun _ => 1)
def SPK_EVT_EN.TREE_FAULT : Fld := fld (8 * 0x230c + 5) 0 1 (fun _ => 1)
def SPK_EVT_EN.INJ_FAIL : Fld := fld (8 * 0x230c + 4) 0 1 (fun _ => 1)
def SPK_EVT_EN.BRK_RELEASED : Fld := fld (8 * 0x230c + 3) 0 1 (fun _ => 0)
def SPK_EVT_EN.BRAKE : Fld := fld (8 * 0x230c + 2) 0 1 (fun _ => 1)
def SPK_EVT_EN.FEATHER_SKIP : Fld := fld (8 * 0x230c + 1) 0 1 (fun _ => 0)
def SPK_EVT_EN.FEATHER : Fld := fld (8 * 0x230c + 0) 0 1 (fun _ => 0)
def SPK_BRK_CNT.BRAKES : Fld := fld (8 * 0x2310 + 0) 0 32 (fun _ => 0)
def SPK_BUS_ERR.FRAMES : Fld := fld (8 * 0x2314 + 0) 0 32 (fun _ => 0)
def SPK_PRESENT.PRESENT : Fld := fld (8 * 0x2320 + 0) 32 32 (fun k => if k < 4 then 0xFFFFFFFF else if k = 4 then 0xFFFF else 0)
def SNT_CFG.SENSE_EN : Fld := rfld (8 * 0x2400 + 24) 128 4 (fun _ => 15)
def SNT_CFG.THR : Fld := rfld (8 * 0x2400 + 16) 128 5 (fun _ => 0)
def SNT_CFG.FSTEP : Fld := rfld (8 * 0x2400 + 12) 128 2 (fun _ => 2)
def SNT_CFG.FSTEP_MAX : Fld := rfld (8 * 0x2400 + 10) 128 2 (fun _ => 3)
def SNT_CFG.ESC : Fld := rfld (8 * 0x2400 + 9) 128 1 (fun _ => 1)
def SNT_CFG.FHOLD : Fld := rfld (8 * 0x2400 + 4) 128 4 (fun _ => 4)
def SNT_STAT.FTH_TICK : Fld := fld (8 * 0x2404 + 16) 128 16 (fun _ => 0)
def SNT_STAT.FTH_EVT_TICK : Fld := fld (8 * 0x2404 + 8) 128 8 (fun _ => 0)
def SNT_STAT.STEP : Fld := fld (8 * 0x2404 + 6) 128 2 (fun _ => 0)
def SNT_STAT.FEATHER : Fld := fld (8 * 0x2404 + 5) 128 1 (fun _ => 0)
def SNT_STAT.ARMED : Fld := fld (8 * 0x2404 + 4) 128 1 (fun _ => 0)
def SNT_STAT.INJ_FAIL : Fld := fld (8 * 0x2404 + 0) 128 4 (fun _ => 0)
def SNT_IDX.AINC : Fld := fld (8 * 0x2408 + 4) 128 1 (fun _ => 0)
def SNT_IDX.IDX : Fld := fld (8 * 0x2408 + 0) 128 4 (fun _ => 0)
def CORE_DIV.DIV : Fld := fld (8 * 0x100000 + 0) 2 2 (fun _ => 0)
def CORE_GATE.GATE : Fld := fld (8 * 0x110000 + 0) 64 64 (fun _ => 0)
def CORE_RST.RST : Fld := fld (8 * 0x120000 + 0) 64 64 (fun _ => 0)
def CORE_FENCE.FENCE : Fld := fld (8 * 0x130000 + 0) 64 64 (fun _ => 0)
def PDM.VALID : Fld := fld (8 * 0x140000 + 15) 16 1 (fun _ => 0)
def PDM.VIOL : Fld := fld (8 * 0x140000 + 14) 16 1 (fun _ => 0)
def PDM.SLACK : Fld := fld (8 * 0x140000 + 0) 16 9 (fun _ => 0)
def SNT_CNT.FTH_EVT : Fld := fld (8 * 0x150000 + 0) 128 32 (fun _ => 0)
def SNT_CNT.FTH_CYC : Fld := fld (8 * 0x150000 + 32) 128 32 (fun _ => 0)
def SNT_CNT.INJ_DONE : Fld := fld (8 * 0x150000 + 112) 128 16 (fun _ => 0)
def SNT_CNT.INJ_FAILED : Fld := fld (8 * 0x150000 + 96) 128 16 (fun _ => 0)
/-! ### rim (Tables 3.8–3.11, R99) -/

def SWD_CFG.RG : Fld := fld (8 * 0x800 + 24) 64 4 (fun n => if n < 192 then (if n < 144 then n / 24 else 0) else if n < 200 then 10 else if n < 208 then 8 else if n < 216 then 9 else if n < 224 then 8 else if n < 232 then 9 else 11)
def SWD_CFG.KIND : Fld := fld (8 * 0x800 + 22) 64 2 (fun n => if n < 192 then 0 else if n < 200 then 1 else if n < 232 then 2 else 3)
def SWD_CFG.PRESENT : Fld := fld (8 * 0x800 + 21) 64 1 (fun n => if n < 144 ∨ (192 ≤ n ∧ n < 196) ∨ (200 ≤ n ∧ n < 216) ∨ (232 ≤ n ∧ n < 240) then 1 else 0)
def SWD_STAT.STATE : Fld := fld (8 * 0x804 + 29) 64 3 (fun _ => 0)
def SWD_STAT.PEND : Fld := fld (8 * 0x804 + 27) 64 2 (fun _ => 0)
def SWD_STAT.FORCED : Fld := fld (8 * 0x804 + 26) 64 1 (fun _ => 0)
def SWD_STAT.WAIT_SLOT : Fld := fld (8 * 0x804 + 25) 64 1 (fun _ => 0)
def SWD_STAT.MINOFF : Fld := fld (8 * 0x804 + 24) 64 1 (fun _ => 0)
def SWD_STAT.ONS : Fld := fld (8 * 0x804 + 0) 64 16 (fun _ => 0)
def RIM_STAT.REST_STATE : Fld := fld (8 * 0xfc0 + 30) 0 2 (fun _ => 0)
def RIM_STAT.COOL_STOP : Fld := fld (8 * 0xfc0 + 29) 0 1 (fun _ => 0)
def RIM_STAT.COOL_FAULT : Fld := fld (8 * 0xfc0 + 28) 0 1 (fun _ => 0)
def RIM_STAT.FLOW_GOOD_1S : Fld := fld (8 * 0xfc0 + 27) 0 1 (fun _ => 0)
def RIM_STAT.PWR_INHIBIT : Fld := fld (8 * 0xfc0 + 26) 0 1 (fun _ => 1)
def RIM_STAT.LOCK_WAIT : Fld := fld (8 * 0xfc0 + 25) 0 1 (fun _ => 1)
def RIM_STAT.REST_TICK : Fld := fld (8 * 0xfc0 + 16) 0 6 (fun _ => 0)
def RIM_STAT.OVER : Fld := fld (8 * 0xfc0 + 0) 0 12 (fun _ => 0)
def RIM_EVT.RAMP_FAULT : Fld := fld (8 * 0xfc4 + 10) 0 1 (fun _ => 0)
def RIM_EVT.SR_FAULT : Fld := fld (8 * 0xfc4 + 9) 0 1 (fun _ => 0)
def RIM_EVT.REST_EXITED : Fld := fld (8 * 0xfc4 + 8) 0 1 (fun _ => 0)
def RIM_EVT.REST_ENTERED : Fld := fld (8 * 0xfc4 + 7) 0 1 (fun _ => 0)
def RIM_EVT.COOL_STOP : Fld := fld (8 * 0xfc4 + 6) 0 1 (fun _ => 0)
def RIM_EVT.FORCED_OFF : Fld := fld (8 * 0xfc4 + 5) 0 1 (fun _ => 0)
def RIM_EVT.CANCELLED : Fld := fld (8 * 0xfc4 + 4) 0 1 (fun _ => 0)
def RIM_EVT.SLOT_WAIT : Fld := fld (8 * 0xfc4 + 3) 0 1 (fun _ => 0)
def RIM_EVT.IMON_FAULT : Fld := fld (8 * 0xfc4 + 2) 0 1 (fun _ => 0)
def RIM_EVT.AT_FLOOR : Fld := fld (8 * 0xfc4 + 1) 0 1 (fun _ => 0)
def RIM_EVT.ILIMIT : Fld := fld (8 * 0xfc4 + 0) 0 1 (fun _ => 0)
def RIM_EVT_EN.RAMP_FAULT : Fld := fld (8 * 0xfc8 + 10) 0 1 (fun _ => 1)
def RIM_EVT_EN.SR_FAULT : Fld := fld (8 * 0xfc8 + 9) 0 1 (fun _ => 1)
def RIM_EVT_EN.REST_EXITED : Fld := fld (8 * 0xfc8 + 8) 0 1 (fun _ => 0)
def RIM_EVT_EN.REST_ENTERED : Fld := fld (8 * 0xfc8 + 7) 0 1 (fun _ => 0)
def RIM_EVT_EN.COOL_STOP : Fld := fld (8 * 0xfc8 + 6) 0 1 (fun _ => 1)
def RIM_EVT_EN.FORCED_OFF : Fld := fld (8 * 0xfc8 + 5) 0 1 (fun _ => 0)
def RIM_EVT_EN.CANCELLED : Fld := fld (8 * 0xfc8 + 4) 0 1 (fun _ => 0)
def RIM_EVT_EN.SLOT_WAIT : Fld := fld (8 * 0xfc8 + 3) 0 1 (fun _ => 0)
def RIM_EVT_EN.IMON_FAULT : Fld := fld (8 * 0xfc8 + 2) 0 1 (fun _ => 1)
def RIM_EVT_EN.AT_FLOOR : Fld := fld (8 * 0xfc8 + 1) 0 1 (fun _ => 1)
def RIM_EVT_EN.ILIMIT : Fld := fld (8 * 0xfc8 + 0) 0 1 (fun _ => 0)
def REST_MASK.WAKE : Fld := fld (8 * 0xfd0 + 0) 32 32 (fun _ => 0)
def COOL_CNT.STOPS : Fld := fld (8 * 0xfe8 + 0) 0 32 (fun _ => 0)
def FLOW_GOOD_TICKS.TICKS : Fld := fld (8 * 0xfec + 0) 0 32 (fun _ => 0)
def RG_CFG.SRC : Fld := rfld (8 * 0x2000 + 30) 512 2 (fun _ => 0)
def RG_CFG.SLOTS : Fld := rfld (8 * 0x2000 + 24) 512 4 (fun _ => 8)
def RG_CFG.RISE : Fld := rfld (8 * 0x2000 + 16) 512 8 (fun _ => 10)
def RG_CFG.FAULT_PT : Fld := rfld (8 * 0x2000 + 8) 512 8 (fun _ => 0)
def RG_CFG.TYPE : Fld := fld (8 * 0x2000 + 4) 512 4 (fun g => if g < 6 then 0 else if g < 8 then 1 else if g < 10 then 2 else if g = 10 then 3 else 4)
def RG_LIM_SM.I_SHORT : Fld := rfld (8 * 0x2004 + 16) 512 16 (fun _ => 0xffff)
def RG_LIM_SM.I_MID : Fld := rfld (8 * 0x2004 + 0) 512 16 (fun _ => 0xffff)
def RG_LIM_L.I_LONG : Fld := rfld (8 * 0x2008 + 0) 512 16 (fun _ => 0xffff)
def RG_IMON_CAL.GAIN : Fld := fld (8 * 0x200c + 16) 512 16 (fun _ => 0x640)
def RG_IMON_CAL.OFFSET : Fld := fld (8 * 0x200c + 0) 512 10 (fun _ => 0)
def RG_STAT.CEIL : Fld := fld (8 * 0x2010 + 24) 512 8 (fun _ => 255)
def RG_STAT.OVER_S : Fld := fld (8 * 0x2010 + 23) 512 1 (fun _ => 0)
def RG_STAT.OVER_M : Fld := fld (8 * 0x2010 + 22) 512 1 (fun _ => 0)
def RG_STAT.OVER_L : Fld := fld (8 * 0x2010 + 21) 512 1 (fun _ => 0)
def RG_STAT.AT_FLOOR : Fld := fld (8 * 0x2010 + 20) 512 1 (fun _ => 0)
def RG_STAT.IMON_FAULT : Fld := fld (8 * 0x2010 + 19) 512 1 (fun _ => 0)
def RG_STAT.ACT_UNKNOWN : Fld := fld (8 * 0x2010 + 18) 512 1 (fun _ => 0)
def RG_STAT.RAMPS : Fld := fld (8 * 0x2010 + 12) 512 4 (fun _ => 0)
def RG_STAT.IMON_CODE : Fld := fld (8 * 0x2010 + 0) 512 10 (fun _ => 0)
def RG_I_SM.I_S : Fld := fld (8 * 0x2014 + 16) 512 16 (fun _ => 0)
def RG_I_SM.I_M : Fld := fld (8 * 0x2014 + 0) 512 16 (fun _ => 0)
def RG_I_L.I_ACT : Fld := fld (8 * 0x2018 + 16) 512 16 (fun _ => 0)
def RG_I_L.I_L : Fld := fld (8 * 0x2018 + 0) 512 16 (fun _ => 0)
def RG_LIMITED.TICKS : Fld := fld (8 * 0x201c + 0) 512 32 (fun _ => 0)
def RG_OVER_CNT.SHORT : Fld := fld (8 * 0x2020 + 20) 512 10 (fun _ => 0)
def RG_OVER_CNT.MID : Fld := fld (8 * 0x2020 + 10) 512 10 (fun _ => 0)
def RG_OVER_CNT.LONG : Fld := fld (8 * 0x2020 + 0) 512 10 (fun _ => 0)
/-! ### Gleub (Tables 4.7–4.9, R125) -/

def GL_CFG.RG : Fld := fld (8 * 0x3000 + 28) 512 4 (fun n => if n < 12 then n / 2 else if n < 14 then n - 6 else if n < 16 then n - 6 else if n < 18 then 10 else if n < 20 then 11 else 0)
def GL_CFG.PHASES : Fld := fld (8 * 0x3000 + 24) 512 4 (fun n => if n < 12 then 4 else if n < 18 then 2 else if n < 20 then 1 else 0)
def GL_CFG.PRESENT : Fld := fld (8 * 0x3000 + 23) 512 1 (fun n => if n < 20 then 1 else 0)
def GL_CFG.SMP_PH : Fld := fld (8 * 0x3000 + 16) 512 4 (fun _ => 0)
def GL_VLIM.VMAX : Fld := rfld (8 * 0x3004 + 16) 512 11 (fun _ => 0x708)
def GL_VLIM.VMIN : Fld := rfld (8 * 0x3004 + 0) 512 11 (fun _ => 0x44c)
def GL_SSC_A.FC : Fld := fld (8 * 0x3008 + 20) 512 12 (fun _ => 0x320)
def GL_SSC_A.SPREAD : Fld := fld (8 * 0x3008 + 13) 512 7 (fun _ => 0)
def GL_SSC_A.RATE : Fld := fld (8 * 0x3008 + 6) 512 7 (fun _ => 32)
def GL_SSC_B.BASE : Fld := fld (8 * 0x300c + 22) 512 10 (fun _ => 0)
def GL_SSC_B.PSTEP : Fld := fld (8 * 0x300c + 12) 512 10 (fun _ => 0)
def GL_STAT.LSTATE : Fld := fld (8 * 0x3010 + 29) 512 3 (fun _ => 0)
def GL_STAT.WARN : Fld := fld (8 * 0x3010 + 28) 512 1 (fun _ => 0)
def GL_STAT.OUTSTANDING : Fld := fld (8 * 0x3010 + 27) 512 1 (fun _ => 0)
def GL_STAT.SEQ : Fld := fld (8 * 0x3010 + 25) 512 2 (fun _ => 0)
def GL_STAT.VDONE : Fld := fld (8 * 0x3010 + 11) 512 11 (fun _ => 0)
def GL_STAT.VREQ : Fld := fld (8 * 0x3010 + 0) 512 11 (fun _ => 0)
def GL_TEL0.I_SUM : Fld := fld (8 * 0x3014 + 16) 512 16 (fun _ => 0)
def GL_TEL0.TEMP : Fld := fld (8 * 0x3014 + 0) 512 16 (fun _ => 0)
def GL_TEL1.VIN : Fld := fld (8 * 0x3018 + 0) 512 32 (fun _ => 0)
def GL_ERR.RXERR : Fld := fld (8 * 0x301c + 24) 512 8 (fun _ => 0)
def GL_ERR.NOACK : Fld := fld (8 * 0x301c + 16) 512 8 (fun _ => 0)
def GL_ERR.NAK : Fld := fld (8 * 0x301c + 8) 512 8 (fun _ => 0)
def GL_ERR.DONE_LATE : Fld := fld (8 * 0x301c + 0) 512 8 (fun _ => 0)
def GL_FAULT_CNT.FAULTS : Fld := fld (8 * 0x3020 + 16) 512 16 (fun _ => 0)
def GL_FAULT_CNT.WARNS : Fld := fld (8 * 0x3020 + 0) 512 16 (fun _ => 0)
def GL_CTRL.ALERT_PT : Fld := rfld (8 * 0x3600 + 24) 0 8 (fun _ => 64)
def GL_CTRL.ALERT_HOLD : Fld := rfld (8 * 0x3600 + 16) 0 8 (fun _ => 100)
def GL_CTRL.DONE_MARGIN : Fld := rfld (8 * 0x3600 + 8) 0 8 (fun _ => 20)
def GL_CTRL.SSC_APPLY : Fld := fld (8 * 0x3600 + 1) 0 1 (fun _ => 0)
def GL_CTRL.RETRAIN : Fld := fld (8 * 0x3600 + 0) 0 1 (fun _ => 0)
def GL_EVT.LINK_FAULT : Fld := fld (8 * 0x3604 + 6) 0 1 (fun _ => 0)
def GL_EVT.NAK : Fld := fld (8 * 0x3604 + 5) 0 1 (fun _ => 0)
def GL_EVT.DONE_LATE : Fld := fld (8 * 0x3604 + 4) 0 1 (fun _ => 0)
def GL_EVT.WARN : Fld := fld (8 * 0x3604 + 3) 0 1 (fun _ => 0)
def GL_EVT.ALERT_SRC : Fld := fld (8 * 0x3604 + 2) 0 1 (fun _ => 0)
def GL_EVT.ALERT_UNKNOWN : Fld := fld (8 * 0x3604 + 1) 0 1 (fun _ => 0)
def GL_EVT.RXERR : Fld := fld (8 * 0x3604 + 0) 0 1 (fun _ => 0)
def GL_EVT_EN.LINK_FAULT : Fld := fld (8 * 0x3608 + 6) 0 1 (fun _ => 1)
def GL_EVT_EN.NAK : Fld := fld (8 * 0x3608 + 5) 0 1 (fun _ => 1)
def GL_EVT_EN.DONE_LATE : Fld := fld (8 * 0x3608 + 4) 0 1 (fun _ => 0)
def GL_EVT_EN.WARN : Fld := fld (8 * 0x3608 + 3) 0 1 (fun _ => 1)
def GL_EVT_EN.ALERT_SRC : Fld := fld (8 * 0x3608 + 2) 0 1 (fun _ => 1)
def GL_EVT_EN.ALERT_UNKNOWN : Fld := fld (8 * 0x3608 + 1) 0 1 (fun _ => 1)
def GL_EVT_EN.RXERR : Fld := fld (8 * 0x3608 + 0) 0 1 (fun _ => 0)
def GL_FAULT.FAULT : Fld := fld (8 * 0x360c + 0) 0 24 (fun _ => 0)
def GL_WARN.WARN : Fld := fld (8 * 0x3610 + 0) 0 24 (fun _ => 0)
/-! ### energy model (Tables 5.5–5.8, R152) -/

def EM_CTRL.ATT_EN : Fld := fld (8 * 0x6000 + 2) 0 1 (fun _ => 1)
def EM_CTRL.SLOW_EN : Fld := fld (8 * 0x6000 + 1) 0 1 (fun _ => 1)
def EM_CTRL.FAST_EN : Fld := fld (8 * 0x6000 + 0) 0 1 (fun _ => 1)
def EM_STAT.CAL_STATE : Fld := fld (8 * 0x6004 + 30) 0 2 (fun _ => 0)
def EM_STAT.GAIN_CLAMP : Fld := fld (8 * 0x6004 + 16) 0 12 (fun _ => 0)
def EM_STAT.UNKNOWN_CL : Fld := fld (8 * 0x6004 + 8) 0 8 (fun _ => 0)
def EM_EVT.GAIN_CLAMP : Fld := fld (8 * 0x6008 + 5) 0 1 (fun _ => 0)
def EM_EVT.COEF_CLAMP : Fld := fld (8 * 0x6008 + 4) 0 1 (fun _ => 0)
def EM_EVT.UNKNOWN : Fld := fld (8 * 0x6008 + 3) 0 1 (fun _ => 0)
def EM_EVT.ATT_FULL : Fld := fld (8 * 0x6008 + 2) 0 1 (fun _ => 0)
def EM_EVT.SLOW_SKIP : Fld := fld (8 * 0x6008 + 1) 0 1 (fun _ => 0)
def EM_EVT.CAL_DONE : Fld := fld (8 * 0x6008 + 0) 0 1 (fun _ => 0)
def EM_EVT_EN.GAIN_CLAMP : Fld := fld (8 * 0x600c + 5) 0 1 (fun _ => 1)
def EM_EVT_EN.COEF_CLAMP : Fld := fld (8 * 0x600c + 4) 0 1 (fun _ => 1)
def EM_EVT_EN.UNKNOWN : Fld := fld (8 * 0x600c + 3) 0 1 (fun _ => 1)
def EM_EVT_EN.ATT_FULL : Fld := fld (8 * 0x600c + 2) 0 1 (fun _ => 0)
def EM_EVT_EN.SLOW_SKIP : Fld := fld (8 * 0x600c + 1) 0 1 (fun _ => 0)
def EM_EVT_EN.CAL_DONE : Fld := fld (8 * 0x600c + 0) 0 1 (fun _ => 0)
def EM_EDIE.EDIE : Fld := fld (8 * 0x6010 + 0) 0 64 (fun _ => 0)
def EM_EIN.EIN : Fld := fld (8 * 0x6018 + 0) 0 64 (fun _ => 0)
def EM_UNATT.UNATT : Fld := fld (8 * 0x6020 + 0) 0 64 (fun _ => 0)
def EM_PDIE.P_TICK : Fld := fld (8 * 0x6028 + 16) 0 16 (fun _ => 0)
def EM_PDIE.P_1MS : Fld := fld (8 * 0x6028 + 0) 0 16 (fun _ => 0)
def EM_SPARSITY.S_1MS : Fld := fld (8 * 0x602c + 16) 0 16 (fun _ => 0)
def EM_SPARSITY.S_TICK : Fld := fld (8 * 0x602c + 0) 0 16 (fun _ => 0)
def EM_RESID.FAST_RES : Fld := fld (8 * 0x6030 + 16) 0 16 (fun _ => 0)
def EM_RESID.SLOW_RES : Fld := fld (8 * 0x6030 + 0) 0 16 (fun _ => 0)
def EM_CAL_TIME.SLOW_SKIPS : Fld := fld (8 * 0x6034 + 24) 0 8 (fun _ => 0)
def EM_CAL_TIME.SLOW_OK : Fld := fld (8 * 0x6034 + 16) 0 8 (fun _ => 0)
def EM_CAL_TIME.FAST_OK : Fld := fld (8 * 0x6034 + 0) 0 16 (fun _ => 0)
def EM_UNKNOWN_CNT.CL_TICKS : Fld := fld (8 * 0x6038 + 0) 0 32 (fun _ => 0)
def EM_ATT_CTRL.CLR : Fld := fld (8 * 0x603c + 31) 0 1 (fun _ => 0)
def EM_ATT_CTRL.CLR_ALL : Fld := fld (8 * 0x603c + 30) 0 1 (fun _ => 0)
def EM_ATT_CTRL.CLR_PART : Fld := fld (8 * 0x603c + 24) 0 5 (fun _ => 0)
def EM_ATT_CTRL.PAGE : Fld := fld (8 * 0x603c + 0) 0 2 (fun _ => 0)
def EM_ATT_STAT.OVERFLOW : Fld := fld (8 * 0x6040 + 16) 0 16 (fun _ => 0)
def EM_ATT_STAT.USED : Fld := fld (8 * 0x6040 + 0) 0 13 (fun _ => 0)
def EM_COEF.MANT : Fld := fld (8 * 0x6080 + 16) 32 16 (fun _ => 0)
def EM_COEF.EXP : Fld := fld (8 * 0x6080 + 11) 32 5 (fun _ => 0)
def EM_COEF.RAIL : Fld := fld (8 * 0x6080 + 10) 32 1 (fun _ => 0)
def EM_SEED.MANT : Fld := fld (8 * 0x60c0 + 16) 32 16 (fun _ => 0)
def EM_SEED.EXP : Fld := fld (8 * 0x60c0 + 11) 32 5 (fun _ => 0)
def EM_SEED.RAIL : Fld := fld (8 * 0x60c0 + 10) 32 1 (fun _ => 0)
def EM_GAIN.GAIN : Fld := fld (8 * 0x6100 + 0) 128 32 (fun _ => 0x40000000)
def EM_RG_E.E : Fld := fld (8 * 0x6104 + 0) 128 32 (fun _ => 0)
def EM_RG_S.S : Fld := fld (8 * 0x6108 + 0) 128 32 (fun _ => 0)
def EM_RG_P.P_EST : Fld := fld (8 * 0x610c + 16) 128 16 (fun _ => 0)
def EM_RG_P.P_MEAS : Fld := fld (8 * 0x610c + 0) 128 16 (fun _ => 0)
def EM_CL_E.E : Fld := fld (8 * 0x6200 + 0) 32 32 (fun _ => 0)
def EM_TAG.LAYER : Fld := fld (8 * 0x6500 + 16) 32 16 (fun _ => 0)
def EM_TAG.OPER : Fld := fld (8 * 0x6500 + 0) 32 16 (fun _ => 0)
def EM_PART_E.ENERGY : Fld := fld (8 * 0x6800 + 0) 64 64 (fun _ => 0)
def EM_OTHER.ENERGY : Fld := fld (8 * 0x6900 + 0) 64 64 (fun _ => 0)
/-! ### cadence engine (Tables 6.8–6.12, R191) -/

def ENG_CTRL.SAFE_PT : Fld := rfld (8 * 0x5000 + 24) 0 8 (fun _ => 64)
def ENG_CTRL.LD_LIMIT : Fld := rfld (8 * 0x5000 + 21) 0 3 (fun _ => 3)
def ENG_CTRL.REL_STEP : Fld := rfld (8 * 0x5000 + 8) 0 8 (fun _ => 4)
def ENG_CTRL.FE_PT : Fld := rfld (8 * 0x5000 + 0) 0 8 (fun _ => 64)
def ENG_STAT.STATE : Fld := fld (8 * 0x5004 + 30) 0 2 (fun _ => 0)
def ENG_STAT.BANK : Fld := fld (8 * 0x5004 + 29) 0 1 (fun _ => 0)
def ENG_STAT.SWITCH_PEND : Fld := fld (8 * 0x5004 + 28) 0 1 (fun _ => 0)
def ENG_STAT.OPEN : Fld := fld (8 * 0x5004 + 24) 0 4 (fun _ => 0)
def ENG_STAT.LD_RUN : Fld := fld (8 * 0x5004 + 21) 0 3 (fun _ => 0)
def ENG_STAT.INACT_VALID : Fld := fld (8 * 0x5004 + 20) 0 1 (fun _ => 0)
def ENG_EVT.IMG_REJ : Fld := fld (8 * 0x5008 + 7) 0 1 (fun _ => 0)
def ENG_EVT.OPEN_TIMEOUT : Fld := fld (8 * 0x5008 + 6) 0 1 (fun _ => 0)
def ENG_EVT.REGION : Fld := fld (8 * 0x5008 + 5) 0 1 (fun _ => 0)
def ENG_EVT.BANK_SW : Fld := fld (8 * 0x5008 + 4) 0 1 (fun _ => 0)
def ENG_EVT.NOT_FOLLOWING : Fld := fld (8 * 0x5008 + 3) 0 1 (fun _ => 0)
def ENG_EVT.ENGINE_FAULT : Fld := fld (8 * 0x5008 + 2) 0 1 (fun _ => 0)
def ENG_EVT.LANE_DIS : Fld := fld (8 * 0x5008 + 1) 0 1 (fun _ => 0)
def ENG_EVT.SAT : Fld := fld (8 * 0x5008 + 0) 0 1 (fun _ => 0)
def ENG_EVT_EN.IMG_REJ : Fld := fld (8 * 0x500c + 7) 0 1 (fun _ => 1)
def ENG_EVT_EN.OPEN_TIMEOUT : Fld := fld (8 * 0x500c + 6) 0 1 (fun _ => 1)
def ENG_EVT_EN.REGION : Fld := fld (8 * 0x500c + 5) 0 1 (fun _ => 0)
def ENG_EVT_EN.BANK_SW : Fld := fld (8 * 0x500c + 4) 0 1 (fun _ => 0)
def ENG_EVT_EN.NOT_FOLLOWING : Fld := fld (8 * 0x500c + 3) 0 1 (fun _ => 1)
def ENG_EVT_EN.ENGINE_FAULT : Fld := fld (8 * 0x500c + 2) 0 1 (fun _ => 1)
def ENG_EVT_EN.LANE_DIS : Fld := fld (8 * 0x500c + 1) 0 1 (fun _ => 1)
def ENG_EVT_EN.SAT : Fld := fld (8 * 0x500c + 0) 0 1 (fun _ => 0)
def ENG_IMAGE.IMAGE_ID : Fld := fld (8 * 0x5010 + 16) 0 16 (fun _ => 0)
def ENG_IMAGE.KEEP : Fld := fld (8 * 0x5010 + 12) 0 1 (fun _ => 0)
def ENG_IMAGE.CYCLES : Fld := fld (8 * 0x5010 + 0) 0 12 (fun _ => 0)
def ENG_CNT.LDIS : Fld := fld (8 * 0x5014 + 16) 0 16 (fun _ => 0)
def ENG_CNT.SAT : Fld := fld (8 * 0x5014 + 0) 0 16 (fun _ => 0)
def ENG_NF.NF : Fld := fld (8 * 0x5018 + 16) 0 5 (fun _ => 0)
def ENG_NF.NF_CNT : Fld := fld (8 * 0x5018 + 0) 0 16 (fun _ => 0)
def ENG_SEL.STK : Fld := fld (8 * 0x501c + 20) 0 1 (fun _ => 0)
def ENG_SEL.LNK : Fld := fld (8 * 0x501c + 18) 0 2 (fun _ => 0)
def ENG_SEL.SEC : Fld := fld (8 * 0x501c + 0) 0 18 (fun _ => 0x3ffff)
def ENG_SET.MODE : Fld := rfld (8 * 0x5020 + 31) 64 1 (fun _ => 0)
def ENG_SET.OPEN_PT : Fld := rfld (8 * 0x5020 + 16) 64 8 (fun _ => 64)
def ENG_SET.OPEN_MAX : Fld := rfld (8 * 0x5020 + 8) 64 8 (fun _ => 100)
def ENG_SET.DWELL : Fld := rfld (8 * 0x5020 + 0) 64 8 (fun _ => 10)
def ENG_SETST.REGION : Fld := fld (8 * 0x5024 + 29) 64 3 (fun _ => 0)
def ENG_SETST.NEXT : Fld := fld (8 * 0x5024 + 26) 64 3 (fun _ => 0)
def ENG_SETST.NT : Fld := fld (8 * 0x5024 + 20) 64 4 (fun _ => 1)
def ENG_SETST.NF : Fld := fld (8 * 0x5024 + 16) 64 4 (fun _ => 1)
def ENG_SETST.DWELL_CNT : Fld := fld (8 * 0x5024 + 8) 64 8 (fun _ => 0)
def ENG_SETST.OPEN_MS : Fld := fld (8 * 0x5024 + 0) 64 8 (fun _ => 0)
def ENG_SLEW.UP : Fld := rfld (8 * 0x5040 + 16) 64 16 (fun k => if k < 2 then 0x0400 else 0x0010)
def ENG_SLEW.DN : Fld := rfld (8 * 0x5040 + 0) 64 16 (fun _ => 0)
def ENG_SLEWV.OUT : Fld := fld (8 * 0x5044 + 16) 64 16 (fun _ => 0)
def ENG_SLEWV.TARGET : Fld := fld (8 * 0x5044 + 0) 64 16 (fun _ => 0)
def ENG_FE.FE_LIM : Fld := rfld (8 * 0x5060 + 16) 32 16 (fun _ => 0x800)
def ENG_FE.FE_TIME : Fld := rfld (8 * 0x5060 + 4) 32 12 (fun _ => 0x3e8)
def ENG_CAND.CUR : Fld := fld (8 * 0x5100 + 24) 64 8 (fun _ => 64)
def ENG_CAND.THM : Fld := fld (8 * 0x5100 + 16) 64 8 (fun _ => 64)
def ENG_CAND.CAP : Fld := fld (8 * 0x5100 + 8) 64 8 (fun _ => 64)
def ENG_CAND.HINT : Fld := fld (8 * 0x5100 + 0) 64 8 (fun _ => 255)
def ENG_OUT.OUT : Fld := fld (8 * 0x5104 + 24) 64 8 (fun _ => 0)
def ENG_OUT.SAFE : Fld := fld (8 * 0x5104 + 16) 64 8 (fun _ => 0)
def ENG_OUT.PERF : Fld := fld (8 * 0x5104 + 8) 64 8 (fun _ => 0)
def ENG_OUT.FLOOR : Fld := fld (8 * 0x5104 + 0) 64 8 (fun _ => 0)
def ENG_LCAND.LINK8 : Fld := fld (8 * 0x5130 + 24) 0 8 (fun _ => 4)
def ENG_LCAND.LINK9 : Fld := fld (8 * 0x5130 + 16) 0 8 (fun _ => 4)
def ENG_LCAND.STACK : Fld := fld (8 * 0x5130 + 8) 0 8 (fun _ => 0)
def ENG_TR_CTRL.ARM : Fld := fld (8 * 0x5200 + 31) 0 1 (fun _ => 0)
def ENG_TR_CTRL.PAGE : Fld := fld (8 * 0x5200 + 0) 0 3 (fun _ => 0)
def ENG_TR_CH.SRC : Fld := fld (8 * 0x5210 + 30) 128 2 (fun _ => 0)
def ENG_TR_CH.NODE : Fld := fld (8 * 0x5210 + 16) 128 12 (fun _ => 0)
def ENG_TR_CH.TRIG : Fld := fld (8 * 0x5210 + 13) 128 3 (fun _ => 0)
def ENG_TR_CH.EN : Fld := fld (8 * 0x5210 + 12) 128 1 (fun _ => 0)
def ENG_TR_CH.POST : Fld := fld (8 * 0x5210 + 0) 128 12 (fun _ => 0x800)
def ENG_TR_THR.THR : Fld := fld (8 * 0x5214 + 16) 128 16 (fun _ => 0)
def ENG_TR_THR.EVMASK : Fld := fld (8 * 0x5214 + 0) 128 8 (fun _ => 0)
def ENG_TR_STAT.STOPPED : Fld := fld (8 * 0x5218 + 31) 128 1 (fun _ => 0)
def ENG_TR_STAT.TRIGGERED : Fld := fld (8 * 0x5218 + 30) 128 1 (fun _ => 0)
def ENG_TR_STAT.HALF : Fld := fld (8 * 0x5218 + 29) 128 1 (fun _ => 0)
def ENG_TR_STAT.TRIG_IDX : Fld := fld (8 * 0x5218 + 12) 128 12 (fun _ => 0)
def ENG_TR_STAT.WPTR : Fld := fld (8 * 0x5218 + 0) 128 12 (fun _ => 0)
def ENG_DUMP_CFG.SRC : Fld := fld (8 * 0x5300 + 30) 0 2 (fun _ => 0)
def ENG_DUMP_CFG.NODE : Fld := fld (8 * 0x5300 + 16) 0 12 (fun _ => 0)
def ENG_DUMP_VAL.VAL_A : Fld := fld (8 * 0x5304 + 16) 0 16 (fun _ => 0)
def ENG_DUMP_VAL.VAL_B : Fld := fld (8 * 0x5304 + 0) 0 16 (fun _ => 0)
def ENG_DUMP_STAT.DONE : Fld := fld (8 * 0x5308 + 31) 0 1 (fun _ => 0)
def ENG_DUMP_STAT.DIFF : Fld := fld (8 * 0x5308 + 30) 0 1 (fun _ => 0)
def ENG_DUMP_STAT.HELD : Fld := fld (8 * 0x5308 + 29) 0 1 (fun _ => 0)
def ENG_DUMP_STAT.NOWRITE : Fld := fld (8 * 0x5308 + 28) 0 1 (fun _ => 0)
def ENG_DUMP_TICK.TICK : Fld := fld (8 * 0x5310 + 0) 0 64 (fun _ => 0)
/-! ### temperature (Tables 7.4–7.6, R210) -/

def TH_CFG.EN : Fld := rfld (8 * 0x3800 + 31) 256 1 (fun n => if n = 24 then 1 else 0)
def TH_CFG.ROLE : Fld := rfld (8 * 0x3800 + 28) 256 3 (fun n => if n < 16 then 0 else if n < 24 then 1 else 5)
def TH_CFG.STOP_ACT : Fld := rfld (8 * 0x3800 + 26) 256 2 (fun _ => 1)
def TH_CFG.SECT : Fld := rfld (8 * 0x3800 + 0) 256 6 (fun _ => 0)
def TH_LOW.LOW_STOP : Fld := rfld (8 * 0x3804 + 16) 256 16 (fun _ => 80)
def TH_LOW.LOW_WARN : Fld := rfld (8 * 0x3804 + 0) 256 16 (fun _ => 160)
def TH_HIGH.HIGH_WARN : Fld := rfld (8 * 0x3808 + 16) 256 16 (fun _ => 0x550)
def TH_HIGH.HIGH_TARGET : Fld := rfld (8 * 0x3808 + 0) 256 16 (fun _ => 0x5f0)
def TH_STOP.HIGH_STOP : Fld := rfld (8 * 0x380c + 16) 256 16 (fun _ => 0x690)
def TH_CAL.IDEAL : Fld := rfld (8 * 0x3810 + 16) 256 16 (fun _ => 0x4083)
def TH_CAL.OFFSET : Fld := rfld (8 * 0x3810 + 0) 256 16 (fun _ => 0)
def TH_VAL.VALUE : Fld := fld (8 * 0x3814 + 16) 256 16 (fun _ => 0)
def TH_VAL.EST : Fld := fld (8 * 0x3814 + 0) 256 16 (fun _ => 0)
def TH_CHSTAT.VALID : Fld := fld (8 * 0x3818 + 31) 256 1 (fun _ => 0)
def TH_CHSTAT.OPEN : Fld := fld (8 * 0x3818 + 30) 256 1 (fun _ => 0)
def TH_CHSTAT.SHORT : Fld := fld (8 * 0x3818 + 29) 256 1 (fun _ => 0)
def TH_CHSTAT.DRIFT : Fld := fld (8 * 0x3818 + 28) 256 1 (fun _ => 0)
def TH_CHSTAT.CALIB : Fld := fld (8 * 0x3818 + 27) 256 1 (fun _ => 0)
def TH_CHSTAT.RS : Fld := fld (8 * 0x3818 + 16) 256 8 (fun _ => 0)
def TH_CHSTAT.HIGH_STOP : Fld := fld (8 * 0x3818 + 4) 256 1 (fun _ => 0)
def TH_CHSTAT.ABOVE_TGT : Fld := fld (8 * 0x3818 + 3) 256 1 (fun _ => 0)
def TH_CHSTAT.HIGH_WARN : Fld := fld (8 * 0x3818 + 2) 256 1 (fun _ => 0)
def TH_CHSTAT.LOW_WARN : Fld := fld (8 * 0x3818 + 1) 256 1 (fun _ => 0)
def TH_CHSTAT.LOW_STOP : Fld := fld (8 * 0x3818 + 0) 256 1 (fun _ => 0)
def TH_FLT_CNT.FAULTS : Fld := fld (8 * 0x381c + 16) 256 16 (fun _ => 0)
def TH_FLT_CNT.STOPS : Fld := fld (8 * 0x381c + 0) 256 16 (fun _ => 0)
def TH_CTRL.STOP_PT : Fld := rfld (8 * 0x3c00 + 24) 0 8 (fun _ => 32)
def TH_CTRL.FAULT_PT : Fld := rfld (8 * 0x3c00 + 16) 0 8 (fun _ => 64)
def TH_CTRL.STOP_MS : Fld := rfld (8 * 0x3c00 + 8) 0 8 (fun _ => 10)
def TH_CTRL.HYST : Fld := rfld (8 * 0x3c00 + 0) 0 8 (fun _ => 32)
def TH_CTRL2.DRIFT_LIM : Fld := rfld (8 * 0x3c04 + 24) 0 8 (fun _ => 16)
def TH_CTRL2.FAULT_GUARD : Fld := rfld (8 * 0x3c04 + 16) 0 8 (fun _ => 20)
def TH_CTRL2.VRW_DROP : Fld := rfld (8 * 0x3c04 + 8) 0 8 (fun _ => 8)
def TH_CTRL2.VRW_MS : Fld := rfld (8 * 0x3c04 + 0) 0 8 (fun _ => 10)
def TH_STAT.WR_OK : Fld := fld (8 * 0x3c08 + 31) 0 1 (fun _ => 0)
def TH_STAT.METER_WR_OK : Fld := fld (8 * 0x3c08 + 30) 0 1 (fun _ => 0)
def TH_STAT.PWR_INHIBIT : Fld := fld (8 * 0x3c08 + 29) 0 1 (fun _ => 1)
def TH_STAT.NO_COOL_REF : Fld := fld (8 * 0x3c08 + 28) 0 1 (fun _ => 1)
def TH_STAT.OTP_PEND : Fld := fld (8 * 0x3c08 + 27) 0 1 (fun _ => 0)
def TH_STAT.INVALID : Fld := fld (8 * 0x3c08 + 0) 0 25 (fun _ => 0x1ffffff)
def TH_EVT.LOW_STOP : Fld := fld (8 * 0x3c0c + 8) 0 1 (fun _ => 0)
def TH_EVT.VRWARN_ACT : Fld := fld (8 * 0x3c0c + 7) 0 1 (fun _ => 0)
def TH_EVT.WR_INHIBIT : Fld := fld (8 * 0x3c0c + 6) 0 1 (fun _ => 0)
def TH_EVT.CAL_FAIL : Fld := fld (8 * 0x3c0c + 5) 0 1 (fun _ => 0)
def TH_EVT.DRIFT : Fld := fld (8 * 0x3c0c + 4) 0 1 (fun _ => 0)
def TH_EVT.OPEN_SHORT : Fld := fld (8 * 0x3c0c + 3) 0 1 (fun _ => 0)
def TH_EVT.HIGH_STOP : Fld := fld (8 * 0x3c0c + 2) 0 1 (fun _ => 0)
def TH_EVT.HIGH_WARN : Fld := fld (8 * 0x3c0c + 1) 0 1 (fun _ => 0)
def TH_EVT.LOW_WARN : Fld := fld (8 * 0x3c0c + 0) 0 1 (fun _ => 0)
def TH_EVT_EN.LOW_STOP : Fld := fld (8 * 0x3c10 + 8) 0 1 (fun _ => 1)
def TH_EVT_EN.VRWARN_ACT : Fld := fld (8 * 0x3c10 + 7) 0 1 (fun _ => 0)
def TH_EVT_EN.WR_INHIBIT : Fld := fld (8 * 0x3c10 + 6) 0 1 (fun _ => 1)
def TH_EVT_EN.CAL_FAIL : Fld := fld (8 * 0x3c10 + 5) 0 1 (fun _ => 1)
def TH_EVT_EN.DRIFT : Fld := fld (8 * 0x3c10 + 4) 0 1 (fun _ => 1)
def TH_EVT_EN.OPEN_SHORT : Fld := fld (8 * 0x3c10 + 3) 0 1 (fun _ => 1)
def TH_EVT_EN.HIGH_STOP : Fld := fld (8 * 0x3c10 + 2) 0 1 (fun _ => 1)
def TH_EVT_EN.HIGH_WARN : Fld := fld (8 * 0x3c10 + 1) 0 1 (fun _ => 0)
def TH_EVT_EN.LOW_WARN : Fld := fld (8 * 0x3c10 + 0) 0 1 (fun _ => 0)
def TH_WR_CNT.DEFERRED : Fld := fld (8 * 0x3c14 + 16) 0 16 (fun _ => 0)
def TH_WR_CNT.SUPERSEDED : Fld := fld (8 * 0x3c14 + 0) 0 16 (fun _ => 0)
/-! ### budget (Tables 8.6–8.9, R237) -/

def BG_CTRL.RESTORE_MS : Fld := rfld (8 * 0x4000 + 24) 0 8 (fun _ => 100)
def BG_CTRL.DROP_WAIT : Fld := rfld (8 * 0x4000 + 16) 0 8 (fun _ => 2)
def BG_CTRL.IDLE_MS : Fld := rfld (8 * 0x4000 + 8) 0 8 (fun _ => 10)
def BG_CTRL.ORDER : Fld := rfld (8 * 0x4000 + 0) 0 6 (fun _ => 6)
def BG_STAT.CAP_SRC : Fld := fld (8 * 0x4004 + 29) 0 3 (fun _ => 0)
def BG_STAT.IN_FORCE : Fld := fld (8 * 0x4004 + 26) 0 3 (fun _ => 7)
def BG_STAT.DROP_HOLD : Fld := fld (8 * 0x4004 + 25) 0 1 (fun _ => 0)
def BG_STAT.CAP_BELOW_MIN : Fld := fld (8 * 0x4004 + 24) 0 1 (fun _ => 0)
def BG_EVT.WAIT_FAIL : Fld := fld (8 * 0x4008 + 5) 0 1 (fun _ => 0)
def BG_EVT.HINT_EXPIRED : Fld := fld (8 * 0x4008 + 4) 0 1 (fun _ => 0)
def BG_EVT.RESTORE : Fld := fld (8 * 0x4008 + 3) 0 1 (fun _ => 0)
def BG_EVT.DROP : Fld := fld (8 * 0x4008 + 2) 0 1 (fun _ => 0)
def BG_EVT.CAP_BELOW_MIN : Fld := fld (8 * 0x4008 + 1) 0 1 (fun _ => 0)
def BG_EVT.CAP_FAULT : Fld := fld (8 * 0x4008 + 0) 0 1 (fun _ => 0)
def BG_EVT_EN.WAIT_FAIL : Fld := fld (8 * 0x400c + 5) 0 1 (fun _ => 1)
def BG_EVT_EN.HINT_EXPIRED : Fld := fld (8 * 0x400c + 4) 0 1 (fun _ => 0)
def BG_EVT_EN.RESTORE : Fld := fld (8 * 0x400c + 3) 0 1 (fun _ => 1)
def BG_EVT_EN.DROP : Fld := fld (8 * 0x400c + 2) 0 1 (fun _ => 1)
def BG_EVT_EN.CAP_BELOW_MIN : Fld := fld (8 * 0x400c + 1) 0 1 (fun _ => 1)
def BG_EVT_EN.CAP_FAULT : Fld := fld (8 * 0x400c + 0) 0 1 (fun _ => 1)
def BG_CAP_SRC.VALID : Fld := fld (8 * 0x4010 + 4) 0 4 (fun _ => 0)
def BG_CAP_SRC.SHARE_EN : Fld := rfld (8 * 0x4010 + 3) 0 1 (fun _ => 0)
def BG_CAP_SRC.SVC_EN : Fld := rfld (8 * 0x4010 + 2) 0 1 (fun _ => 0)
def BG_CAP_SRC.PWM_EN : Fld := rfld (8 * 0x4010 + 1) 0 1 (fun _ => 0)
def BG_CAP_SRC.SET_EN : Fld := rfld (8 * 0x4010 + 0) 0 1 (fun _ => 0)
def BG_CAP.P_CAP : Fld := fld (8 * 0x4014 + 16) 0 16 (fun _ => 0x1900)
def BG_CAP.FAULT_CAP : Fld := rfld (8 * 0x4014 + 0) 0 16 (fun _ => 0xc80)
def BG_CAP_FS.SET_FS : Fld := rfld (8 * 0x4018 + 16) 0 16 (fun _ => 0x1900)
def BG_CAP_FS.PWM_FS : Fld := rfld (8 * 0x4018 + 0) 0 16 (fun _ => 0x1900)
def BG_CAP_IN.SET_VAL : Fld := fld (8 * 0x401c + 16) 0 16 (fun _ => 0)
def BG_CAP_IN.PWM_VAL : Fld := fld (8 * 0x401c + 0) 0 16 (fun _ => 0)
def BG_HARD.P_SAFE : Fld := rfld (8 * 0x4020 + 16) 0 16 (fun _ => 0x1900)
def BG_HARD.P_METER : Fld := rfld (8 * 0x4020 + 0) 0 16 (fun _ => 0x1f40)
def BG_CLASS.MEM_MIN : Fld := rfld (8 * 0x4024 + 8) 0 4 (fun _ => 2)
def BG_CLASS.LINK_MIN : Fld := rfld (8 * 0x4024 + 0) 0 5 (fun _ => 4)
def BG_ALLOC_CM.COMP : Fld := fld (8 * 0x4028 + 16) 0 16 (fun _ => 0)
def BG_ALLOC_CM.MEM : Fld := fld (8 * 0x4028 + 0) 0 16 (fun _ => 0)
def BG_ALLOC_L.LINK : Fld := fld (8 * 0x402c + 16) 0 16 (fun _ => 0)
def BG_LIMIT.LNK8 : Fld := fld (8 * 0x4030 + 24) 0 8 (fun _ => 16)
def BG_LIMIT.LNK9 : Fld := fld (8 * 0x4030 + 16) 0 8 (fun _ => 16)
def BG_LIMIT.BW : Fld := fld (8 * 0x4030 + 8) 0 8 (fun _ => 15)
def BG_HINT_CFG.LEAD : Fld := rfld (8 * 0x4034 + 24) 0 8 (fun _ => 20)
def BG_HINT_CFG.ABSORB : Fld := rfld (8 * 0x4034 + 16) 0 8 (fun _ => 128)
def BG_HINT_CFG.VPRE_MAX : Fld := rfld (8 * 0x4034 + 8) 0 8 (fun _ => 30)
def BG_HINT_CFG.BEGIN : Fld := rfld (8 * 0x4034 + 0) 0 8 (fun _ => 128)
def BG_HINT_STAT.ACTIVE : Fld := fld (8 * 0x4038 + 8) 0 8 (fun _ => 0)
def BG_HINT_STAT.HELD : Fld := fld (8 * 0x4038 + 0) 0 8 (fun _ => 0)
def BG_HINT_CNT.ACCEPTED : Fld := fld (8 * 0x403c + 24) 0 8 (fun _ => 0)
def BG_HINT_CNT.EXPIRED : Fld := fld (8 * 0x403c + 16) 0 8 (fun _ => 0)
def BG_HINT_CNT.REJECTED : Fld := fld (8 * 0x403c + 8) 0 8 (fun _ => 0)
def BG_HINT_CNT.MISMATCH : Fld := fld (8 * 0x403c + 0) 0 8 (fun _ => 0)
def BG_WAIT.TIMEOUT : Fld := rfld (8 * 0x4040 + 16) 0 16 (fun _ => 0x3e8)
def BG_WAIT.RETRIES : Fld := rfld (8 * 0x4040 + 8) 0 8 (fun _ => 8)
def BG_WAIT_CNT.TIMEOUTS : Fld := fld (8 * 0x4044 + 16) 0 16 (fun _ => 0)
def BG_WAIT_CNT.FAILS : Fld := fld (8 * 0x4044 + 0) 0 16 (fun _ => 0)
def BG_DROP_CNT.A : Fld := fld (8 * 0x4048 + 20) 0 10 (fun _ => 0)
def BG_DROP_CNT.B : Fld := fld (8 * 0x4048 + 10) 0 10 (fun _ => 0)
def BG_DROP_CNT.C : Fld := fld (8 * 0x4048 + 0) 0 10 (fun _ => 0)
def BG_SECT.FLOOR : Fld := fld (8 * 0x4080 + 24) 32 8 (fun _ => 0)
def BG_SECT.HINT : Fld := fld (8 * 0x4080 + 16) 32 8 (fun _ => 255)
def BG_SECT.PT_D : Fld := fld (8 * 0x4080 + 8) 32 8 (fun _ => 0)
def BG_PART.CLASS : Fld := fld (8 * 0x4200 + 30) 128 2 (fun _ => 0)
def BG_PART.IDLE_GATE : Fld := fld (8 * 0x4200 + 29) 128 1 (fun _ => 0)
def BG_PART.FLOOR : Fld := fld (8 * 0x4200 + 0) 128 8 (fun _ => 0)
def BG_PSTAT.BREACH : Fld := fld (8 * 0x4204 + 31) 128 1 (fun _ => 0)
def BG_PSTAT.CAUSE : Fld := fld (8 * 0x4204 + 29) 128 2 (fun _ => 0)
def BG_PSTAT.ON : Fld := fld (8 * 0x4204 + 16) 128 8 (fun _ => 0)
def BG_BREACH.TICKS : Fld := fld (8 * 0x4208 + 0) 128 32 (fun _ => 0)
def BG_CLPART.VALID : Fld := fld (8 * 0x4100 + 7) 8 1 (fun _ => 0)
def BG_CLPART.PART : Fld := fld (8 * 0x4100 + 0) 8 5 (fun _ => 0)
/-! ### carrier and peloton (Tables 9.5–9.7, R263) -/

def CAR_CFG.CARRIER : Fld := fld (8 * 0xa000 + 24) 0 8 (fun _ => 0)
def CAR_CFG.DIE : Fld := fld (8 * 0xa000 + 16) 0 6 (fun _ => 0)
def CAR_CFG.RANK : Fld := rfld (8 * 0xa000 + 10) 0 6 (fun _ => 0)
def CAR_CFG.ELIG : Fld := rfld (8 * 0xa000 + 9) 0 1 (fun _ => 0)
def CAR_CFG.EN : Fld := rfld (8 * 0xa000 + 8) 0 1 (fun _ => 0)
def CAR_CFG.LINK_EN : Fld := rfld (8 * 0xa000 + 4) 0 4 (fun _ => 15)
def CAR_CTRL.SHARE_TMO : Fld := rfld (8 * 0xa004 + 24) 0 8 (fun _ => 10)
def CAR_CAP.CAP : Fld := fld (8 * 0xa008 + 0) 0 32 (fun _ => 0xffffffff)
def CAR_RSV.RESERVE : Fld := fld (8 * 0xa00c + 0) 0 16 (fun _ => 0)
def CAR_STAT.ROLE : Fld := fld (8 * 0xa010 + 30) 0 2 (fun _ => 0)
def CAR_STAT.LEASE_VALID : Fld := fld (8 * 0xa010 + 29) 0 1 (fun _ => 0)
def CAR_STAT.SHARE_VALID : Fld := fld (8 * 0xa010 + 28) 0 1 (fun _ => 0)
def CAR_STAT.CLAIMANTS : Fld := fld (8 * 0xa010 + 26) 0 2 (fun _ => 0)
def CAR_STAT.OBEY_DIE : Fld := fld (8 * 0xa010 + 20) 0 6 (fun _ => 0)
def CAR_STAT.LINK_UP : Fld := fld (8 * 0xa010 + 16) 0 4 (fun _ => 0)
def CAR_STAT.DESIGNATED : Fld := fld (8 * 0xa010 + 14) 0 2 (fun _ => 0)
def CAR_STAT.LIVE : Fld := fld (8 * 0xa010 + 7) 0 7 (fun _ => 0)
def CAR_EVT.LEASE_LOST : Fld := fld (8 * 0xa014 + 9) 0 1 (fun _ => 0)
def CAR_EVT.YIELD : Fld := fld (8 * 0xa014 + 8) 0 1 (fun _ => 0)
def CAR_EVT.TAKEOVER : Fld := fld (8 * 0xa014 + 7) 0 1 (fun _ => 0)
def CAR_EVT.CLAIM_CONFLICT : Fld := fld (8 * 0xa014 + 6) 0 1 (fun _ => 0)
def CAR_EVT.SHARE_INVALID : Fld := fld (8 * 0xa014 + 5) 0 1 (fun _ => 0)
def CAR_EVT.MEMBER_LOST : Fld := fld (8 * 0xa014 + 4) 0 1 (fun _ => 0)
def CAR_EVT.MEMBER_JOIN : Fld := fld (8 * 0xa014 + 3) 0 1 (fun _ => 0)
def CAR_EVT.LINK_DOWN : Fld := fld (8 * 0xa014 + 2) 0 1 (fun _ => 0)
def CAR_EVT.ROLE_CHANGE : Fld := fld (8 * 0xa014 + 1) 0 1 (fun _ => 0)
def CAR_EVT.OVER : Fld := fld (8 * 0xa014 + 0) 0 1 (fun _ => 0)
def CAR_EVT_EN.LEASE_LOST : Fld := fld (8 * 0xa018 + 9) 0 1 (fun _ => 1)
def CAR_EVT_EN.YIELD : Fld := fld (8 * 0xa018 + 8) 0 1 (fun _ => 1)
def CAR_EVT_EN.TAKEOVER : Fld := fld (8 * 0xa018 + 7) 0 1 (fun _ => 1)
def CAR_EVT_EN.CLAIM_CONFLICT : Fld := fld (8 * 0xa018 + 6) 0 1 (fun _ => 1)
def CAR_EVT_EN.SHARE_INVALID : Fld := fld (8 * 0xa018 + 5) 0 1 (fun _ => 1)
def CAR_EVT_EN.MEMBER_LOST : Fld := fld (8 * 0xa018 + 4) 0 1 (fun _ => 1)
def CAR_EVT_EN.MEMBER_JOIN : Fld := fld (8 * 0xa018 + 3) 0 1 (fun _ => 0)
def CAR_EVT_EN.LINK_DOWN : Fld := fld (8 * 0xa018 + 2) 0 1 (fun _ => 1)
def CAR_EVT_EN.ROLE_CHANGE : Fld := fld (8 * 0xa018 + 1) 0 1 (fun _ => 0)
def CAR_EVT_EN.OVER : Fld := fld (8 * 0xa018 + 0) 0 1 (fun _ => 1)
def CAR_LEASE.REQ : Fld := fld (8 * 0xa01c + 30) 0 2 (fun _ => 0)
def CAR_LEASE.TAKEOVER : Fld := fld (8 * 0xa01c + 29) 0 1 (fun _ => 0)
def CAR_LEASE.LEFT : Fld := fld (8 * 0xa01c + 0) 0 8 (fun _ => 0)
def CAR_EPOCH_HELD.EPOCH : Fld := fld (8 * 0xa020 + 0) 0 32 (fun _ => 0)
def CAR_EPOCH_SEEN.EPOCH : Fld := fld (8 * 0xa024 + 0) 0 32 (fun _ => 0)
def CAR_SHARE.OBEYED : Fld := fld (8 * 0xa028 + 16) 0 16 (fun _ => 0)
def CAR_SHARE.AGE : Fld := fld (8 * 0xa028 + 8) 0 8 (fun _ => 0)
def CAR_SHARE.MODE : Fld := fld (8 * 0xa028 + 0) 0 2 (fun _ => 0)
def CAR_SPLIT.MODE : Fld := fld (8 * 0xa02c + 30) 0 2 (fun _ => 0)
def CAR_SPLIT.PARAM : Fld := fld (8 * 0xa02c + 0) 0 30 (fun _ => 0)
def CAR_BUDGET.BUDGET : Fld := fld (8 * 0xa030 + 0) 0 32 (fun _ => 0)
def CAR_LIVE.LIVE : Fld := fld (8 * 0xa034 + 0) 0 64 (fun _ => 0)
def CAR_OFS.OFS : Fld := fld (8 * 0xa040 + 0) 0 64 (fun _ => 0)
def CAR_ERR.CRC : Fld := fld (8 * 0xa048 + 24) 0 8 (fun _ => 0)
def CAR_ERR.STALE : Fld := fld (8 * 0xa048 + 16) 0 8 (fun _ => 0)
def CAR_ERR.LINKDOWN : Fld := fld (8 * 0xa048 + 8) 0 8 (fun _ => 0)
def CAR_ERR.REJECT : Fld := fld (8 * 0xa048 + 0) 0 8 (fun _ => 0)
def CAR_RXMSG.MSGS : Fld := fld (8 * 0xa04c + 0) 0 32 (fun _ => 0)
def PEL_CTRL.PEL_ID : Fld := fld (8 * 0xa100 + 16) 0 16 (fun _ => 0)
def PEL_CTRL.JOIN : Fld := fld (8 * 0xa100 + 0) 0 1 (fun _ => 0)
def PEL_CFG.DRAG_TICKS : Fld := rfld (8 * 0xa104 + 24) 0 8 (fun _ => 20)
def PEL_CFG.FALLBACK_N : Fld := rfld (8 * 0xa104 + 16) 0 8 (fun _ => 8)
def PEL_CFG.RETURN_MS : Fld := rfld (8 * 0xa104 + 8) 0 8 (fun _ => 100)
def PEL_CFG.PERSIST : Fld := rfld (8 * 0xa104 + 4) 0 4 (fun _ => 3)
def PEL_CFG.NOFOLLOW : Fld := rfld (8 * 0xa104 + 0) 0 4 (fun _ => 6)
def PEL_LEAD.LEAD : Fld := rfld (8 * 0xa108 + 0) 0 16 (fun _ => 0x190)
def PEL_STAT.MODE : Fld := fld (8 * 0xa10c + 30) 0 2 (fun _ => 0)
def PEL_STAT.ROOT : Fld := fld (8 * 0xa10c + 29) 0 1 (fun _ => 0)
def PEL_STAT.DRAG : Fld := fld (8 * 0xa10c + 28) 0 1 (fun _ => 0)
def PEL_STAT.CANT_FOLLOW : Fld := fld (8 * 0xa10c + 27) 0 1 (fun _ => 0)
def PEL_STAT.ORPHAN : Fld := fld (8 * 0xa10c + 26) 0 1 (fun _ => 0)
def PEL_STAT.OFS_VALID : Fld := fld (8 * 0xa10c + 25) 0 1 (fun _ => 0)
def PEL_STAT.POINT : Fld := fld (8 * 0xa10c + 16) 0 8 (fun _ => 255)
def PEL_STAT.OFFER : Fld := fld (8 * 0xa10c + 8) 0 8 (fun _ => 255)
def PEL_STAT.ROOT_CARRIER : Fld := fld (8 * 0xa10c + 0) 0 8 (fun _ => 0)
def PEL_EVT.ROOT_CHANGE : Fld := fld (8 * 0xa110 + 8) 0 1 (fun _ => 0)
def PEL_EVT.ORPHAN : Fld := fld (8 * 0xa110 + 7) 0 1 (fun _ => 0)
def PEL_EVT.LATE_APPLY : Fld := fld (8 * 0xa110 + 6) 0 1 (fun _ => 0)
def PEL_EVT.CARRIER_LOST : Fld := fld (8 * 0xa110 + 5) 0 1 (fun _ => 0)
def PEL_EVT.RETURN : Fld := fld (8 * 0xa110 + 4) 0 1 (fun _ => 0)
def PEL_EVT.FALLBACK : Fld := fld (8 * 0xa110 + 3) 0 1 (fun _ => 0)
def PEL_EVT.CANT_FOLLOW : Fld := fld (8 * 0xa110 + 2) 0 1 (fun _ => 0)
def PEL_EVT.DRAG_CLR : Fld := fld (8 * 0xa110 + 1) 0 1 (fun _ => 0)
def PEL_EVT.DRAG : Fld := fld (8 * 0xa110 + 0) 0 1 (fun _ => 0)
def PEL_EVT_EN.ROOT_CHANGE : Fld := fld (8 * 0xa114 + 8) 0 1 (fun _ => 0)
def PEL_EVT_EN.ORPHAN : Fld := fld (8 * 0xa114 + 7) 0 1 (fun _ => 1)
def PEL_EVT_EN.LATE_APPLY : Fld := fld (8 * 0xa114 + 6) 0 1 (fun _ => 1)
def PEL_EVT_EN.CARRIER_LOST : Fld := fld (8 * 0xa114 + 5) 0 1 (fun _ => 1)
def PEL_EVT_EN.RETURN : Fld := fld (8 * 0xa114 + 4) 0 1 (fun _ => 0)
def PEL_EVT_EN.FALLBACK : Fld := fld (8 * 0xa114 + 3) 0 1 (fun _ => 1)
def PEL_EVT_EN.CANT_FOLLOW : Fld := fld (8 * 0xa114 + 2) 0 1 (fun _ => 1)
def PEL_EVT_EN.DRAG_CLR : Fld := fld (8 * 0xa114 + 1) 0 1 (fun _ => 0)
def PEL_EVT_EN.DRAG : Fld := fld (8 * 0xa114 + 0) 0 1 (fun _ => 1)
def PEL_CNT.ABSORBED : Fld := fld (8 * 0xa118 + 16) 0 16 (fun _ => 0)
def PEL_CNT.DRAGS : Fld := fld (8 * 0xa118 + 0) 0 16 (fun _ => 0)
def PEL_ROOT.LIVE_CAR : Fld := fld (8 * 0xa11c + 16) 0 9 (fun _ => 0)
def PEL_ROOT.RISES : Fld := fld (8 * 0xa11c + 8) 0 8 (fun _ => 0)
def PEL_ROOT.RETURN_LEFT : Fld := fld (8 * 0xa11c + 0) 0 8 (fun _ => 0)
def PEL_OFS.OFS : Fld := fld (8 * 0xa120 + 0) 0 64 (fun _ => 0)
def PEL_DELAY.DELAY : Fld := fld (8 * 0xa128 + 0) 0 32 (fun _ => 0)
def PEL_NEXT.TICK : Fld := fld (8 * 0xa130 + 0) 0 64 (fun _ => 0)
def PEL_MASK.MASK : Fld := fld (8 * 0xa140 + 0) 32 32 (fun _ => 0)
def PEL_LIVE.LIVE : Fld := fld (8 * 0xa160 + 0) 32 32 (fun _ => 0)
/-! ### margins (Tables 10.5–10.7, R284) -/

def MG_CTRL.MODE : Fld := rfld (8 * 0x7000 + 31) 0 1 (fun _ => 0)
def MG_CTRL.AUTO : Fld := rfld (8 * 0x7000 + 30) 0 1 (fun _ => 1)
def MG_CTRL.SUS_EN : Fld := rfld (8 * 0x7000 + 29) 0 1 (fun _ => 1)
def MG_CTRL.HORIZON : Fld := rfld (8 * 0x7000 + 16) 0 8 (fun _ => 30)
def MG_STAT.ABOVE_COMMON : Fld := fld (8 * 0x7004 + 31) 0 1 (fun _ => 0)
def MG_STAT.OTP_FULL : Fld := fld (8 * 0x7004 + 30) 0 1 (fun _ => 0)
def MG_STAT.SUS_OVF : Fld := fld (8 * 0x7004 + 29) 0 1 (fun _ => 0)
def MG_STAT.FENCE_WAIT : Fld := fld (8 * 0x7004 + 28) 0 1 (fun _ => 0)
def MG_STAT.WORN : Fld := fld (8 * 0x7004 + 16) 0 8 (fun _ => 0)
def MG_STAT.RETIRED : Fld := fld (8 * 0x7004 + 8) 0 8 (fun _ => 0)
def MG_STAT.SLEWING : Fld := fld (8 * 0x7004 + 0) 0 8 (fun _ => 0)
def MG_EVT.VIOL : Fld := fld (8 * 0x7008 + 8) 0 1 (fun _ => 0)
def MG_EVT.OTP_FULL : Fld := fld (8 * 0x7008 + 7) 0 1 (fun _ => 0)
def MG_EVT.CL_RETIRED : Fld := fld (8 * 0x7008 + 6) 0 1 (fun _ => 0)
def MG_EVT.CORE_RETIRED : Fld := fld (8 * 0x7008 + 5) 0 1 (fun _ => 0)
def MG_EVT.CORE_SLOWED : Fld := fld (8 * 0x7008 + 4) 0 1 (fun _ => 0)
def MG_EVT.SUS_STEP : Fld := fld (8 * 0x7008 + 3) 0 1 (fun _ => 0)
def MG_EVT.WORN : Fld := fld (8 * 0x7008 + 2) 0 1 (fun _ => 0)
def MG_EVT.REPLAN : Fld := fld (8 * 0x7008 + 1) 0 1 (fun _ => 0)
def MG_EVT.NO_MEDIAN : Fld := fld (8 * 0x7008 + 0) 0 1 (fun _ => 0)
def MG_EVT_EN.VIOL : Fld := fld (8 * 0x700c + 8) 0 1 (fun _ => 1)
def MG_EVT_EN.OTP_FULL : Fld := fld (8 * 0x700c + 7) 0 1 (fun _ => 1)
def MG_EVT_EN.CL_RETIRED : Fld := fld (8 * 0x700c + 6) 0 1 (fun _ => 1)
def MG_EVT_EN.CORE_RETIRED : Fld := fld (8 * 0x700c + 5) 0 1 (fun _ => 1)
def MG_EVT_EN.CORE_SLOWED : Fld := fld (8 * 0x700c + 4) 0 1 (fun _ => 1)
def MG_EVT_EN.SUS_STEP : Fld := fld (8 * 0x700c + 3) 0 1 (fun _ => 0)
def MG_EVT_EN.WORN : Fld := fld (8 * 0x700c + 2) 0 1 (fun _ => 1)
def MG_EVT_EN.REPLAN : Fld := fld (8 * 0x700c + 1) 0 1 (fun _ => 0)
def MG_EVT_EN.NO_MEDIAN : Fld := fld (8 * 0x700c + 0) 0 1 (fun _ => 0)
def MG_AGE_CFG.QUIET : Fld := rfld (8 * 0x7010 + 24) 0 8 (fun _ => 16)
def MG_AGE_CFG.MIN_VALID : Fld := rfld (8 * 0x7010 + 16) 0 8 (fun _ => 24)
def MG_SUS_CFG.TR_LIM : Fld := rfld (8 * 0x7014 + 29) 0 3 (fun _ => 3)
def MG_SUS_CFG.FENCE_WAIT : Fld := rfld (8 * 0x7014 + 16) 0 8 (fun _ => 10)
def MG_SUS_CFG.CL_RETIRE : Fld := rfld (8 * 0x7014 + 0) 0 7 (fun _ => 8)
def MG_EPOCH.EPOCH : Fld := fld (8 * 0x7018 + 12) 0 20 (fun _ => 0)
def MG_OTP.FREE : Fld := fld (8 * 0x701c + 16) 0 12 (fun _ => 0x800)
def MG_OTP.USED : Fld := fld (8 * 0x701c + 0) 0 12 (fun _ => 0)
def MG_CNT.TRANS : Fld := fld (8 * 0x7020 + 16) 0 16 (fun _ => 0)
def MG_CNT.PERM : Fld := fld (8 * 0x7020 + 0) 0 16 (fun _ => 0)
def MG_SUS_IDX.IDX : Fld := fld (8 * 0x7024 + 0) 0 8 (fun _ => 0)
def MG_SUS_DATA.VALID : Fld := fld (8 * 0x7028 + 31) 0 1 (fun _ => 0)
def MG_SUS_DATA.SLOWED : Fld := fld (8 * 0x7028 + 30) 0 1 (fun _ => 0)
def MG_SUS_DATA.N : Fld := fld (8 * 0x7028 + 27) 0 3 (fun _ => 0)
def MG_SUS_DATA.CORE : Fld := fld (8 * 0x7028 + 0) 0 14 (fun _ => 0)
def MG_CL.STATE : Fld := fld (8 * 0x7200 + 30) 64 2 (fun _ => 0)
def MG_CL.REQ : Fld := fld (8 * 0x7200 + 24) 64 6 (fun _ => 0)
def MG_CL.AGE : Fld := fld (8 * 0x7200 + 19) 64 5 (fun _ => 0)
def MG_CL.SUS : Fld := fld (8 * 0x7200 + 15) 64 4 (fun _ => 0)
def MG_CL.APPL : Fld := fld (8 * 0x7200 + 10) 64 5 (fun _ => 0)
def MG_CL.RET_CORES : Fld := fld (8 * 0x7200 + 0) 64 7 (fun _ => 0)
def MG_DLY.BASE : Fld := fld (8 * 0x7204 + 20) 64 12 (fun _ => 0)
def MG_DLY.PROJ : Fld := fld (8 * 0x7204 + 8) 64 12 (fun _ => 0)
def MG_DLY.MEDIANS : Fld := fld (8 * 0x7204 + 3) 64 5 (fun _ => 0)
/-! ### recovery (Tables 11.6, 11.7, R304) -/

def RC_CTRL.HOLD_MODE : Fld := rfld (8 * 0xb000 + 31) 0 1 (fun _ => 0)
def RC_CTRL.ABORT_EN : Fld := rfld (8 * 0xb000 + 30) 0 1 (fun _ => 1)
def RC_CTRL.AUTO_PWR : Fld := rfld (8 * 0xb000 + 29) 0 1 (fun _ => 1)
def RC_CTRL.HB_EN : Fld := fld (8 * 0xb000 + 28) 0 1 (fun _ => 0)
def RC_CTRL.HOLDOVER_POINT : Fld := rfld (8 * 0xb000 + 16) 0 8 (fun _ => 64)
def RC_CFG.HB_MS : Fld := rfld (8 * 0xb004 + 24) 0 8 (fun _ => 5)
def RC_CFG.NOTICE_MS : Fld := rfld (8 * 0xb004 + 16) 0 8 (fun _ => 20)
def RC_CFG.BOOT_MS : Fld := rfld (8 * 0xb004 + 0) 0 16 (fun _ => 0x7d0)
def RC_CFG2.ENG_MS : Fld := rfld (8 * 0xb008 + 24) 0 8 (fun _ => 100)
def RC_CFG2.WR_MAX : Fld := rfld (8 * 0xb008 + 20) 0 4 (fun _ => 3)
def RC_CFG2.DIE_MAX : Fld := rfld (8 * 0xb008 + 16) 0 4 (fun _ => 3)
def RC_STAT.LADDER : Fld := fld (8 * 0xb00c + 29) 0 3 (fun _ => 0)
def RC_STAT.HOLDOVER : Fld := fld (8 * 0xb00c + 28) 0 1 (fun _ => 0)
def RC_STAT.HB_ARMED : Fld := fld (8 * 0xb00c + 27) 0 1 (fun _ => 0)
def RC_STAT.TRAY_REQ : Fld := fld (8 * 0xb00c + 26) 0 1 (fun _ => 0)
def RC_STAT.PWR_HELD : Fld := fld (8 * 0xb00c + 25) 0 1 (fun _ => 0)
def RC_STAT.MISSES : Fld := fld (8 * 0xb00c + 23) 0 2 (fun _ => 0)
def RC_STAT.WR_COUNT : Fld := fld (8 * 0xb00c + 19) 0 4 (fun _ => 0)
def RC_STAT.DIE_RECENT : Fld := fld (8 * 0xb00c + 15) 0 4 (fun _ => 0)
def RC_STAT.STEP_PART : Fld := fld (8 * 0xb00c + 8) 0 5 (fun _ => 0)
def RC_STAT.HB_AGE : Fld := fld (8 * 0xb00c + 0) 0 8 (fun _ => 0)
def RC_EVT.PEER_ABORT : Fld := fld (8 * 0xb010 + 9) 0 1 (fun _ => 0)
def RC_EVT.ABORT_SENT : Fld := fld (8 * 0xb010 + 8) 0 1 (fun _ => 0)
def RC_EVT.TRAY_REQ : Fld := fld (8 * 0xb010 + 7) 0 1 (fun _ => 0)
def RC_EVT.WARM_RESTART : Fld := fld (8 * 0xb010 + 6) 0 1 (fun _ => 0)
def RC_EVT.STEP_DONE : Fld := fld (8 * 0xb010 + 5) 0 1 (fun _ => 0)
def RC_EVT.STEP_START : Fld := fld (8 * 0xb010 + 4) 0 1 (fun _ => 0)
def RC_EVT.LADDER_OPEN : Fld := fld (8 * 0xb010 + 3) 0 1 (fun _ => 0)
def RC_EVT.HB_RESUMED : Fld := fld (8 * 0xb010 + 2) 0 1 (fun _ => 0)
def RC_EVT.HB_MISS : Fld := fld (8 * 0xb010 + 1) 0 1 (fun _ => 0)
def RC_EVT.ACCEL_STEP : Fld := fld (8 * 0xb010 + 0) 0 1 (fun _ => 0)
def RC_EVT_EN.PEER_ABORT : Fld := fld (8 * 0xb014 + 9) 0 1 (fun _ => 1)
def RC_EVT_EN.ABORT_SENT : Fld := fld (8 * 0xb014 + 8) 0 1 (fun _ => 0)
def RC_EVT_EN.TRAY_REQ : Fld := fld (8 * 0xb014 + 7) 0 1 (fun _ => 1)
def RC_EVT_EN.WARM_RESTART : Fld := fld (8 * 0xb014 + 6) 0 1 (fun _ => 1)
def RC_EVT_EN.STEP_DONE : Fld := fld (8 * 0xb014 + 5) 0 1 (fun _ => 1)
def RC_EVT_EN.STEP_START : Fld := fld (8 * 0xb014 + 4) 0 1 (fun _ => 1)
def RC_EVT_EN.LADDER_OPEN : Fld := fld (8 * 0xb014 + 3) 0 1 (fun _ => 1)
def RC_EVT_EN.HB_RESUMED : Fld := fld (8 * 0xb014 + 2) 0 1 (fun _ => 1)
def RC_EVT_EN.HB_MISS : Fld := fld (8 * 0xb014 + 1) 0 1 (fun _ => 0)
def RC_EVT_EN.ACCEL_STEP : Fld := fld (8 * 0xb014 + 0) 0 1 (fun _ => 0)
def RC_HB.COUNT : Fld := fld (8 * 0xb018 + 16) 0 16 (fun _ => 0)
def RC_HB_CNT.MISSES : Fld := fld (8 * 0xb01c + 16) 0 16 (fun _ => 0)
def RC_HB_CNT.REPEAT : Fld := fld (8 * 0xb01c + 0) 0 16 (fun _ => 0)
def RC_WDOG.AGE : Fld := fld (8 * 0xb020 + 0) 0 16 (fun _ => 0)
def RC_ERRCODE.CODE : Fld := fld (8 * 0xb024 + 0) 0 32 (fun _ => 0)
def RC_ERRLAST.CODE : Fld := fld (8 * 0xb028 + 0) 0 32 (fun _ => 0)
def RC_ERR_TICK.TICK : Fld := fld (8 * 0xb02c + 0) 0 64 (fun _ => 0)
def RC_CLR.ERR : Fld := fld (8 * 0xb034 + 0) 0 1 (fun _ => 0)
def RC_CNT.PART : Fld := fld (8 * 0xb038 + 24) 0 8 (fun _ => 0)
def RC_CNT.DIE : Fld := fld (8 * 0xb038 + 16) 0 8 (fun _ => 0)
def RC_CNT.POWER : Fld := fld (8 * 0xb038 + 8) 0 8 (fun _ => 0)
def RC_CNT.WARM : Fld := fld (8 * 0xb038 + 0) 0 8 (fun _ => 0)
def RC_PEER_DMASK.DMASK : Fld := fld (8 * 0xb03c + 0) 0 64 (fun _ => 0xffffffffffffffff)
def RC_PEER_ABORT.CODE : Fld := fld (8 * 0xb044 + 0) 0 32 (fun _ => 0)
def RC_PEER_SRC.CARRIER : Fld := fld (8 * 0xb048 + 8) 0 8 (fun _ => 0)
def RC_PEER_SRC.DIE : Fld := fld (8 * 0xb048 + 0) 0 6 (fun _ => 0)
/-! ### meter mirror (Tables 12.7, 12.8, R327) -/

def MTR_STAT.VALID : Fld := fld (8 * 0xe000 + 31) 0 1 (fun _ => 0)
def MTR_STAT.FAULT : Fld := fld (8 * 0xe000 + 30) 0 1 (fun _ => 0)
def MTR_STAT.GAP : Fld := fld (8 * 0xe000 + 29) 0 1 (fun _ => 0)
def MTR_STAT.SEAL_OPEN : Fld := fld (8 * 0xe000 + 28) 0 1 (fun _ => 0)
def MTR_STAT.WR_OK : Fld := fld (8 * 0xe000 + 27) 0 1 (fun _ => 0)
def MTR_STAT.PFW : Fld := fld (8 * 0xe000 + 26) 0 1 (fun _ => 0)
def MTR_STAT.UNCAL : Fld := fld (8 * 0xe000 + 25) 0 1 (fun _ => 0)
def MTR_STAT.ROM_FAULT : Fld := fld (8 * 0xe000 + 24) 0 1 (fun _ => 0)
def MTR_STAT.MISSING : Fld := fld (8 * 0xe000 + 23) 0 1 (fun _ => 1)
def MTR_EVT.UNCAL : Fld := fld (8 * 0xe004 + 7) 0 1 (fun _ => 0)
def MTR_EVT.SHARE_UNATT : Fld := fld (8 * 0xe004 + 6) 0 1 (fun _ => 0)
def MTR_EVT.SHARE_TOL : Fld := fld (8 * 0xe004 + 5) 0 1 (fun _ => 0)
def MTR_EVT.WR_INHIBIT : Fld := fld (8 * 0xe004 + 4) 0 1 (fun _ => 0)
def MTR_EVT.SEAL_OPEN : Fld := fld (8 * 0xe004 + 3) 0 1 (fun _ => 0)
def MTR_EVT.GAP : Fld := fld (8 * 0xe004 + 2) 0 1 (fun _ => 0)
def MTR_EVT.FAULT : Fld := fld (8 * 0xe004 + 1) 0 1 (fun _ => 0)
def MTR_EVT.MISSING : Fld := fld (8 * 0xe004 + 0) 0 1 (fun _ => 0)
def MTR_EVT_EN.UNCAL : Fld := fld (8 * 0xe008 + 7) 0 1 (fun _ => 1)
def MTR_EVT_EN.SHARE_UNATT : Fld := fld (8 * 0xe008 + 6) 0 1 (fun _ => 1)
def MTR_EVT_EN.SHARE_TOL : Fld := fld (8 * 0xe008 + 5) 0 1 (fun _ => 1)
def MTR_EVT_EN.WR_INHIBIT : Fld := fld (8 * 0xe008 + 4) 0 1 (fun _ => 1)
def MTR_EVT_EN.SEAL_OPEN : Fld := fld (8 * 0xe008 + 3) 0 1 (fun _ => 1)
def MTR_EVT_EN.GAP : Fld := fld (8 * 0xe008 + 2) 0 1 (fun _ => 1)
def MTR_EVT_EN.FAULT : Fld := fld (8 * 0xe008 + 1) 0 1 (fun _ => 1)
def MTR_EVT_EN.MISSING : Fld := fld (8 * 0xe008 + 0) 0 1 (fun _ => 0)
def MTR_PSEQ.PSEQ : Fld := fld (8 * 0xe00c + 0) 0 32 (fun _ => 0)
def MTR_E.E_IN : Fld := fld (8 * 0xe010 + 0) 0 64 (fun _ => 0)
def MTR_IP.I_MEAN : Fld := fld (8 * 0xe018 + 16) 0 16 (fun _ => 0)
def MTR_IP.P_MEAN : Fld := fld (8 * 0xe018 + 0) 0 16 (fun _ => 0)
def MTR_V.V_MEAN : Fld := fld (8 * 0xe01c + 0) 0 32 (fun _ => 0)
def MTR_SEAL.BREAKS : Fld := fld (8 * 0xe020 + 16) 0 16 (fun _ => 0)
def MTR_SEAL.CAL_GEN : Fld := fld (8 * 0xe020 + 0) 0 16 (fun _ => 0)
def MTR_ROMCRC.ROMCRC : Fld := fld (8 * 0xe024 + 0) 0 32 (fun _ => 0)
def MTR_SERIAL.SERIAL : Fld := fld (8 * 0xe028 + 0) 0 32 (fun _ => 0)
def MTR_MISS.CRC : Fld := fld (8 * 0xe02c + 16) 0 16 (fun _ => 0)
def MTR_MISS.MISSING : Fld := fld (8 * 0xe02c + 0) 0 16 (fun _ => 0)
def MTR_SHARE.RES : Fld := fld (8 * 0xe030 + 16) 0 2 (fun _ => 0)
def MTR_SHARE.CKSEQ : Fld := fld (8 * 0xe030 + 0) 0 16 (fun _ => 0)
/-! ### commands and locks (Tables 13.7, 13.8, R358) -/

def LOCK0.CFG : Fld := fld (8 * 0x110 + 0) 0 1 (fun _ => 0)
def LOCK1.DIAG : Fld := fld (8 * 0x114 + 3) 0 1 (fun _ => 0)
def LOCK1.FW : Fld := fld (8 * 0x114 + 2) 0 1 (fun _ => 0)
def LOCK1.TRANSPORT : Fld := fld (8 * 0x114 + 1) 0 1 (fun _ => 0)
def LOCK1.PERM : Fld := fld (8 * 0x114 + 0) 0 1 (fun _ => 0)
def PERM.FIXED : Fld := fld (8 * 0xd000 + 8) 32 5 (fixedMask)
def PERM.EFF : Fld := fld (8 * 0xd000 + 0) 32 5 (fixedMask)
def CMD_CNT.EXEC : Fld := fld (8 * 0xd400 + 16) 0 16 (fun _ => 0)
def CMD_CNT.DUP : Fld := fld (8 * 0xd400 + 8) 0 8 (fun _ => 0)
def CMD_CNT.STALE : Fld := fld (8 * 0xd400 + 0) 0 8 (fun _ => 0)
def CMD_REFUSED.BADOP : Fld := fld (8 * 0xd404 + 24) 0 8 (fun _ => 0)
def CMD_REFUSED.NOPERM : Fld := fld (8 * 0xd404 + 16) 0 8 (fun _ => 0)
def CMD_REFUSED.BADPARAM : Fld := fld (8 * 0xd404 + 8) 0 8 (fun _ => 0)
def CMD_REFUSED.VERSION : Fld := fld (8 * 0xd404 + 0) 0 8 (fun _ => 0)
def CMD_LAST.OPCODE : Fld := fld (8 * 0xd408 + 24) 0 8 (fun _ => 0)
def CMD_LAST.STATUS : Fld := fld (8 * 0xd408 + 16) 0 8 (fun _ => 0)
def CMD_LAST.SEQ : Fld := fld (8 * 0xd408 + 4) 0 12 (fun _ => 0)
def CMD_LAST_SRC.CLASS : Fld := fld (8 * 0xd40c + 5) 0 3 (fun _ => 0)
def CMD_LAST_SRC.INSTANCE : Fld := fld (8 * 0xd40c + 0) 0 5 (fun _ => 0)
def SVC_CNT.PKTS : Fld := fld (8 * 0xd410 + 16) 0 16 (fun _ => 0)
def SVC_CNT.CRC : Fld := fld (8 * 0xd410 + 8) 0 8 (fun _ => 0)
def SVC_CNT.OVERFLOW : Fld := fld (8 * 0xd410 + 0) 0 8 (fun _ => 0)
def SVC_STAT.STATUS : Fld := fld (8 * 0xd414 + 0) 0 8 (fun _ => 128)
/-! ### transport (Tables 14.8, 14.9, R377) -/

def TRANSPORT.IN_FORCE : Fld := fld (8 * 0x118 + 2) 0 2 (fun _ => 1)
def TRANSPORT.MODE : Fld := fld (8 * 0x118 + 0) 0 2 (fun _ => 1)
def DB_STAT_NS.STAT : Fld := fld (8 * 0x1400 + 0) 0 16 (fun _ => 0)
def DB_MASK_NS.MASK : Fld := fld (8 * 0x1404 + 0) 0 16 (fun _ => 0xffff)
def DB_STAT_S.STAT : Fld := fld (8 * 0x1408 + 0) 0 16 (fun _ => 0)
def DB_MASK_S.MASK : Fld := fld (8 * 0x140c + 0) 0 16 (fun _ => 0xffff)
def TEL_HDR.HDR : Fld := fld (8 * 0x1440 + 0) 0 32 (fun _ => 0)
def TEL.WORD : Fld := fld (8 * 0x1444 + 0) 32 32 (fun _ => 0)
def OMB_CFG.EN : Fld := rfld (8 * 0x1600 + 31) 128 1 (fun _ => 0)
def OMB_CFG.PART : Fld := rfld (8 * 0x1600 + 8) 128 5 (fun _ => 0)
def OMB_CFG.DOMAIN : Fld := fld (8 * 0x1600 + 0) 128 8 (fun _ => 0xFF)
def OMB_ADDR.ADDR : Fld := rfld (8 * 0x1604 + 0) 128 64 (fun _ => 0)
def OMB_STAT.AWAIT : Fld := fld (8 * 0x160c + 31) 128 1 (fun _ => 0)
def OMB_STAT.QUEUED : Fld := fld (8 * 0x160c + 24) 128 4 (fun _ => 0)
def OMB_STAT.DROP : Fld := fld (8 * 0x160c + 8) 128 8 (fun _ => 0)
def OMB_STAT.DOMOFF : Fld := fld (8 * 0x160c + 0) 128 8 (fun _ => 0)
def RING_CFG.EN : Fld := fld (8 * 0x1800 + 31) 512 1 (fun _ => 0)
def RING_CFG.SEC : Fld := fld (8 * 0x1800 + 30) 512 1 (fun _ => 0)
def RING_CFG.TELEM : Fld := fld (8 * 0x1800 + 29) 512 1 (fun _ => 0)
def RING_CFG.DB : Fld := fld (8 * 0x1800 + 20) 512 3 (fun _ => 0)
def RING_CFG.LOG2SZ : Fld := fld (8 * 0x1800 + 16) 512 4 (fun _ => 3)
def RING_SQ_BASE.ADDR : Fld := fld (8 * 0x1804 + 0) 512 64 (fun _ => 0)
def RING_CQ_BASE.ADDR : Fld := fld (8 * 0x180c + 0) 512 64 (fun _ => 0)
def RING_SQ.TAIL : Fld := fld (8 * 0x1814 + 16) 512 16 (fun _ => 0)
def RING_SQ.HEAD : Fld := fld (8 * 0x1814 + 0) 512 16 (fun _ => 0)
def RING_CQ.HEAD : Fld := fld (8 * 0x1818 + 16) 512 16 (fun _ => 0)
def RING_CQ.TAIL : Fld := fld (8 * 0x1818 + 0) 512 16 (fun _ => 0)
def RING_STAT.TAIL_ERR : Fld := fld (8 * 0x181c + 31) 512 1 (fun _ => 0)
def RING_STAT.HEAD_ERR : Fld := fld (8 * 0x181c + 30) 512 1 (fun _ => 0)
def RING_STAT.CFG_ERR : Fld := fld (8 * 0x181c + 29) 512 1 (fun _ => 0)
def RING_STAT.RD_ERR : Fld := fld (8 * 0x181c + 28) 512 1 (fun _ => 0)
def RING_STAT.WR_ERR : Fld := fld (8 * 0x181c + 27) 512 1 (fun _ => 0)
def RING_STAT.OWED : Fld := fld (8 * 0x181c + 0) 512 5 (fun _ => 0)
def RING_CNT.CRC : Fld := fld (8 * 0x1820 + 24) 512 8 (fun _ => 0)
def RING_CNT.LOST : Fld := fld (8 * 0x1820 + 16) 512 8 (fun _ => 0)
def RING_CNT.TEL_DROP : Fld := fld (8 * 0x1820 + 0) 512 16 (fun _ => 0)
def MB_CTL.GO : Fld := fld (8 * 0x103c + 31) 512 1 (fun _ => 0)
def MB_CTL.FETCH : Fld := fld (8 * 0x103c + 30) 512 1 (fun _ => 0)
def MB_CTL.RDY : Fld := fld (8 * 0x103c + 29) 512 1 (fun _ => 0)
def MB_CTL.BUSY : Fld := fld (8 * 0x103c + 28) 512 1 (fun _ => 0)
def MB_CTL.WIGN : Fld := fld (8 * 0x103c + 27) 512 1 (fun _ => 0)
def MB_CTL.ACTIVE : Fld := fld (8 * 0x103c + 26) 512 1 (fun _ => 1)
def MB_CTL.RQ : Fld := fld (8 * 0x103c + 16) 512 5 (fun _ => 0)
def MB_CTL.OWED : Fld := fld (8 * 0x103c + 0) 512 4 (fun _ => 0)
def MB_D.DATA : Fld := fld (8 * 0x1000 + 0) 32 32 (fun _ => 0)
/-! ### global and windows (Tables 15.4–15.8, R393, R397) -/

def PW_ID.CLASS : Fld := fld (8 * 0x10000 + 30) 32768 2 (fun _ => 0)
def PW_ID.IDLE_GATE : Fld := fld (8 * 0x10000 + 29) 32768 1 (fun _ => 0)
def PW_ID.PART : Fld := fld (8 * 0x10000 + 16) 32768 5 (fun p => p)
def PW_ID.FLOOR : Fld := fld (8 * 0x10000 + 8) 32768 8 (fun _ => 0)
def PW_ID.ON : Fld := fld (8 * 0x10000 + 0) 32768 8 (fun _ => 0)
def PW_CTRL.SNAP : Fld := fld (8 * 0x10004 + 31) 32768 1 (fun _ => 0)
def PW_STAT.PEND : Fld := fld (8 * 0x10008 + 31) 32768 1 (fun _ => 0)
def PW_STAT.BREACH : Fld := fld (8 * 0x10008 + 30) 32768 1 (fun _ => 0)
def PW_STAT.CAUSE : Fld := fld (8 * 0x10008 + 28) 32768 2 (fun _ => 0)
def PW_SNAP_TICK.TICK : Fld := fld (8 * 0x10010 + 0) 32768 64 (fun _ => 0)
def PW_ENERGY.ENERGY : Fld := fld (8 * 0x10018 + 0) 32768 64 (fun _ => 0)
def PW_OTHER.OTHER : Fld := fld (8 * 0x10020 + 0) 32768 64 (fun _ => 0)
def PW_BREACH.TICKS : Fld := fld (8 * 0x10028 + 0) 32768 32 (fun _ => 0)
def PW_CLMASK0.MASK : Fld := fld (8 * 0x10040 + 0) 32768 32 (fun _ => 0)
def PW_CLMASK1.MASK : Fld := fld (8 * 0x10044 + 0) 32768 32 (fun _ => 0)
def PW_CLMASK2.MASK : Fld := fld (8 * 0x10048 + 0) 32768 32 (fun _ => 0)
def PW_CLMASK3.MASK : Fld := fld (8 * 0x1004c + 0) 32768 32 (fun _ => 0)
def PW_CLMASK4.MASK : Fld := fld (8 * 0x10050 + 0) 32768 32 (fun _ => 0)
def PW_CLMASK5.MASK : Fld := fld (8 * 0x10054 + 0) 32768 32 (fun _ => 0)
def IDENT.ID : Fld := fld (8 * 0x0 + 0) 0 32 (fun _ => 0x50470007)
def VERSION.MAJOR : Fld := fld (8 * 0x4 + 16) 0 8 (fun _ => 7)
def VERSION.MINOR : Fld := fld (8 * 0x4 + 8) 0 8 (fun _ => 1)
def VERSION.PATCH : Fld := fld (8 * 0x4 + 0) 0 8 (fun _ => 0)
def CAPS.CLUSTERS : Fld := fld (8 * 0x8 + 24) 0 8 (fun _ => 144)
def CAPS.DOMAINS : Fld := fld (8 * 0x8 + 16) 0 8 (fun _ => 172)
def CAPS.GLEUB : Fld := fld (8 * 0x8 + 11) 0 5 (fun _ => 20)
def CAPS.RAILS : Fld := fld (8 * 0x8 + 7) 0 4 (fun _ => 12)
def CAPS.THERMAL : Fld := fld (8 * 0x8 + 2) 0 5 (fun _ => 25)
def CAPS2.STACKS : Fld := fld (8 * 0xc + 28) 0 4 (fun _ => 4)
def CAPS2.LINKS : Fld := fld (8 * 0xc + 22) 0 6 (fun _ => 16)
def CAPS2.AUX : Fld := fld (8 * 0xc + 17) 0 5 (fun _ => 8)
def GSTAT.READY : Fld := fld (8 * 0x100 + 31) 0 1 (fun _ => 0)
def GSTAT.HOLDOVER : Fld := fld (8 * 0x100 + 30) 0 1 (fun _ => 0)
def GSTAT.GO_BUSY : Fld := fld (8 * 0x100 + 3) 0 1 (fun _ => 0)
def GSTAT.LOCK_IGN : Fld := fld (8 * 0x100 + 2) 0 1 (fun _ => 0)
def GSTAT.SNAP_STALE : Fld := fld (8 * 0x100 + 1) 0 1 (fun _ => 0)
def GSTAT.ACCESS_ERR : Fld := fld (8 * 0x100 + 0) 0 1 (fun _ => 0)
def ACC_ERR_ADDR.ADDR : Fld := fld (8 * 0x104 + 0) 0 18 (fun _ => 0)
def ACC_ERR_INFO.COUNT : Fld := fld (8 * 0x108 + 24) 0 8 (fun _ => 0)
def ACC_ERR_INFO.SVC : Fld := fld (8 * 0x108 + 16) 0 1 (fun _ => 0)
def ACC_ERR_INFO.ID : Fld := fld (8 * 0x108 + 8) 0 8 (fun _ => 0)
def ACC_ERR_INFO.NS : Fld := fld (8 * 0x108 + 7) 0 1 (fun _ => 0)
def ACC_ERR_INFO.WRITE : Fld := fld (8 * 0x108 + 6) 0 1 (fun _ => 0)
def ACC_ERR_INFO.CAUSE : Fld := fld (8 * 0x108 + 0) 0 3 (fun _ => 0)
def PWIN_EN.EN : Fld := fld (8 * 0x120 + 0) 0 32 (fun _ => 0)
def PWIN_NS.NS : Fld := fld (8 * 0x124 + 0) 0 32 (fun _ => 0)
/-! ### firmware and log (Tables 16.6–16.9, R414) -/

def FW_CTRL.SW_MAX : Fld := rfld (8 * 0xc000 + 0) 0 8 (fun _ => 250)
def FW_STAT.ACTIVE : Fld := fld (8 * 0xc004 + 31) 0 1 (fun _ => 0)
def FW_STAT.TENTATIVE : Fld := fld (8 * 0xc004 + 30) 0 1 (fun _ => 0)
def FW_STAT.SW_PEND : Fld := fld (8 * 0xc004 + 29) 0 1 (fun _ => 0)
def FW_STAT.KEY_SET : Fld := fld (8 * 0xc004 + 28) 0 1 (fun _ => 0)
def FW_STAT.NO_FW : Fld := fld (8 * 0xc004 + 27) 0 1 (fun _ => 0)
def FW_STAT.GEN : Fld := fld (8 * 0xc004 + 0) 0 16 (fun _ => 0)
def FW_EVT.HSNAP : Fld := fld (8 * 0xc008 + 7) 0 1 (fun _ => 0)
def FW_EVT.TRD_LOST : Fld := fld (8 * 0xc008 + 6) 0 1 (fun _ => 0)
def FW_EVT.TRD_BLOCK : Fld := fld (8 * 0xc008 + 5) 0 1 (fun _ => 0)
def FW_EVT.LOG_WM : Fld := fld (8 * 0xc008 + 4) 0 1 (fun _ => 0)
def FW_EVT.LOG_DROP : Fld := fld (8 * 0xc008 + 3) 0 1 (fun _ => 0)
def FW_EVT.LOAD_REJ : Fld := fld (8 * 0xc008 + 2) 0 1 (fun _ => 0)
def FW_EVT.SW_FAIL : Fld := fld (8 * 0xc008 + 1) 0 1 (fun _ => 0)
def FW_EVT.SW_DONE : Fld := fld (8 * 0xc008 + 0) 0 1 (fun _ => 0)
def FW_EVT_EN.HSNAP : Fld := fld (8 * 0xc00c + 7) 0 1 (fun _ => 1)
def FW_EVT_EN.TRD_LOST : Fld := fld (8 * 0xc00c + 6) 0 1 (fun _ => 0)
def FW_EVT_EN.TRD_BLOCK : Fld := fld (8 * 0xc00c + 5) 0 1 (fun _ => 0)
def FW_EVT_EN.LOG_WM : Fld := fld (8 * 0xc00c + 4) 0 1 (fun _ => 1)
def FW_EVT_EN.LOG_DROP : Fld := fld (8 * 0xc00c + 3) 0 1 (fun _ => 1)
def FW_EVT_EN.LOAD_REJ : Fld := fld (8 * 0xc00c + 2) 0 1 (fun _ => 1)
def FW_EVT_EN.SW_FAIL : Fld := fld (8 * 0xc00c + 1) 0 1 (fun _ => 1)
def FW_EVT_EN.SW_DONE : Fld := fld (8 * 0xc00c + 0) 0 1 (fun _ => 0)
def FW_SLOT_A.STATE : Fld := fld (8 * 0xc010 + 30) 0 2 (fun _ => 0)
def FW_SLOT_A.GEN : Fld := fld (8 * 0xc010 + 0) 0 16 (fun _ => 0)
def FW_SLOT_B.STATE : Fld := fld (8 * 0xc014 + 30) 0 2 (fun _ => 0)
def FW_SLOT_B.GEN : Fld := fld (8 * 0xc014 + 0) 0 16 (fun _ => 0)
def LOG_CTRL.STOP : Fld := fld (8 * 0xc020 + 31) 0 1 (fun _ => 0)
def LOG_CTRL.MSG_REC : Fld := fld (8 * 0xc020 + 30) 0 1 (fun _ => 0)
def LOG_CTRL.MIN_SEV : Fld := fld (8 * 0xc020 + 27) 0 3 (fun _ => 1)
def LOG_CTRL.FLUSH : Fld := fld (8 * 0xc020 + 26) 0 1 (fun _ => 0)
def LOG_CTRL.PAGE : Fld := fld (8 * 0xc020 + 24) 0 1 (fun _ => 0)
def LOG_CTRL.WM : Fld := fld (8 * 0xc020 + 0) 0 13 (fun _ => 0x800)
def LOG_STAT.NEXT : Fld := fld (8 * 0xc024 + 16) 0 16 (fun _ => 0)
def LOG_STAT.STAGED : Fld := fld (8 * 0xc024 + 0) 0 9 (fun _ => 0)
def LOG_RD.RD : Fld := fld (8 * 0xc028 + 0) 0 16 (fun _ => 0)
def LOG_CNT.DROP : Fld := fld (8 * 0xc02c + 0) 0 32 (fun _ => 0)
def TP_EN.EN : Fld := fld (8 * 0xc030 + 0) 0 32 (fun _ => 0)
def TRD_CTRL.EN : Fld := fld (8 * 0xc040 + 31) 0 1 (fun _ => 0)
def TRD_CTRL.LOG2N : Fld := fld (8 * 0xc040 + 24) 0 4 (fun _ => 4)
def TRD_CTRL.STREAM : Fld := fld (8 * 0xc040 + 16) 0 8 (fun _ => 0)
def TRD_CTRL.CH : Fld := fld (8 * 0xc040 + 0) 0 8 (fun _ => 0)
def TRD_BASE.ADDR : Fld := fld (8 * 0xc044 + 0) 0 64 (fun _ => 0)
def TRD_STAT.BLOCK : Fld := fld (8 * 0xc04c + 16) 0 16 (fun _ => 0)
def TRD_STAT.LOST : Fld := fld (8 * 0xc04c + 0) 0 16 (fun _ => 0)
def HS_CTRL.TAKE : Fld := fld (8 * 0xc100 + 31) 0 1 (fun _ => 0)
def HS_CTRL.REARM : Fld := fld (8 * 0xc100 + 30) 0 1 (fun _ => 0)
def HS_CTRL.FROZEN : Fld := fld (8 * 0xc100 + 29) 0 1 (fun _ => 0)
def HS_CTRL.MISSED : Fld := fld (8 * 0xc100 + 0) 0 8 (fun _ => 0)
def PC_THR.TICKS : Fld := fld (8 * 0xc400 + 0) 64 32 (fun _ => 0)
def PC_FTH.CYC256 : Fld := fld (8 * 0xc404 + 0) 64 32 (fun _ => 0)
def HS_W.WORD : Fld := fld (8 * 0xc104 + 0) 32 32 (fun _ => 0)

end Sys2Proof.Machine
end

