-- ==== Sys2Proof/Machine/Events.lean ====
section
/-! DEFINITION. Every event bit of the event registers: its status field, its enable field, its block number in a log
record (Table 16.4), its bit number, its doorbell bit (Table 14.7), and whether its enable resets to 1 (the severity of
R405). -/

namespace Sys2Proof.Machine

/-- One event of a block: a bit of its `*_EVT` register and the matching bit of its `*_EVT_EN` register. -/
structure Evt where
  st : Fld
  en : Fld
  block : Nat
  bit : Nat
  db : Nat

def Evt.CAD_HUB_FAULT_ESC : Evt := ⟨CAD_EVT.HUB_FAULT_ESC, CAD_EVT_EN.HUB_FAULT_ESC, 0, 9, 8⟩
def Evt.CAD_OVERDUE : Evt := ⟨CAD_EVT.OVERDUE, CAD_EVT_EN.OVERDUE, 0, 8, 8⟩
def Evt.CAD_FW_OVR : Evt := ⟨CAD_EVT.FW_OVR, CAD_EVT_EN.FW_OVR, 0, 7, 8⟩
def Evt.CAD_ENG_OVR : Evt := ⟨CAD_EVT.ENG_OVR, CAD_EVT_EN.ENG_OVR, 0, 6, 8⟩
def Evt.CAD_LATE : Evt := ⟨CAD_EVT.LATE, CAD_EVT_EN.LATE, 0, 5, 8⟩
def Evt.CAD_DEFER : Evt := ⟨CAD_EVT.DEFER, CAD_EVT_EN.DEFER, 0, 4, 8⟩
def Evt.CAD_RELOCK : Evt := ⟨CAD_EVT.RELOCK, CAD_EVT_EN.RELOCK, 0, 3, 8⟩
def Evt.CAD_LOST : Evt := ⟨CAD_EVT.LOST, CAD_EVT_EN.LOST, 0, 2, 8⟩
def Evt.CAD_NOISE : Evt := ⟨CAD_EVT.NOISE, CAD_EVT_EN.NOISE, 0, 1, 8⟩
def Evt.CAD_SYNTH : Evt := ⟨CAD_EVT.SYNTH, CAD_EVT_EN.SYNTH, 0, 0, 8⟩
def Evt.SPK_TRIM_FAIL : Evt := ⟨SPK_EVT.TRIM_FAIL, SPK_EVT_EN.TRIM_FAIL, 1, 7, 9⟩
def Evt.SPK_SPOKE_FAULT : Evt := ⟨SPK_EVT.SPOKE_FAULT, SPK_EVT_EN.SPOKE_FAULT, 1, 6, 9⟩
def Evt.SPK_TREE_FAULT : Evt := ⟨SPK_EVT.TREE_FAULT, SPK_EVT_EN.TREE_FAULT, 1, 5, 9⟩
def Evt.SPK_INJ_FAIL : Evt := ⟨SPK_EVT.INJ_FAIL, SPK_EVT_EN.INJ_FAIL, 1, 4, 9⟩
def Evt.SPK_BRK_RELEASED : Evt := ⟨SPK_EVT.BRK_RELEASED, SPK_EVT_EN.BRK_RELEASED, 1, 3, 9⟩
def Evt.SPK_BRAKE : Evt := ⟨SPK_EVT.BRAKE, SPK_EVT_EN.BRAKE, 1, 2, 9⟩
def Evt.SPK_FEATHER_SKIP : Evt := ⟨SPK_EVT.FEATHER_SKIP, SPK_EVT_EN.FEATHER_SKIP, 1, 1, 9⟩
def Evt.SPK_FEATHER : Evt := ⟨SPK_EVT.FEATHER, SPK_EVT_EN.FEATHER, 1, 0, 9⟩
def Evt.RIM_RAMP_FAULT : Evt := ⟨RIM_EVT.RAMP_FAULT, RIM_EVT_EN.RAMP_FAULT, 2, 10, 10⟩
def Evt.RIM_SR_FAULT : Evt := ⟨RIM_EVT.SR_FAULT, RIM_EVT_EN.SR_FAULT, 2, 9, 10⟩
def Evt.RIM_REST_EXITED : Evt := ⟨RIM_EVT.REST_EXITED, RIM_EVT_EN.REST_EXITED, 2, 8, 10⟩
def Evt.RIM_REST_ENTERED : Evt := ⟨RIM_EVT.REST_ENTERED, RIM_EVT_EN.REST_ENTERED, 2, 7, 10⟩
def Evt.RIM_COOL_STOP : Evt := ⟨RIM_EVT.COOL_STOP, RIM_EVT_EN.COOL_STOP, 2, 6, 10⟩
def Evt.RIM_FORCED_OFF : Evt := ⟨RIM_EVT.FORCED_OFF, RIM_EVT_EN.FORCED_OFF, 2, 5, 10⟩
def Evt.RIM_CANCELLED : Evt := ⟨RIM_EVT.CANCELLED, RIM_EVT_EN.CANCELLED, 2, 4, 10⟩
def Evt.RIM_SLOT_WAIT : Evt := ⟨RIM_EVT.SLOT_WAIT, RIM_EVT_EN.SLOT_WAIT, 2, 3, 10⟩
def Evt.RIM_IMON_FAULT : Evt := ⟨RIM_EVT.IMON_FAULT, RIM_EVT_EN.IMON_FAULT, 2, 2, 10⟩
def Evt.RIM_AT_FLOOR : Evt := ⟨RIM_EVT.AT_FLOOR, RIM_EVT_EN.AT_FLOOR, 2, 1, 10⟩
def Evt.RIM_ILIMIT : Evt := ⟨RIM_EVT.ILIMIT, RIM_EVT_EN.ILIMIT, 2, 0, 10⟩
def Evt.GL_LINK_FAULT : Evt := ⟨GL_EVT.LINK_FAULT, GL_EVT_EN.LINK_FAULT, 3, 6, 11⟩
def Evt.GL_NAK : Evt := ⟨GL_EVT.NAK, GL_EVT_EN.NAK, 3, 5, 11⟩
def Evt.GL_DONE_LATE : Evt := ⟨GL_EVT.DONE_LATE, GL_EVT_EN.DONE_LATE, 3, 4, 11⟩
def Evt.GL_WARN : Evt := ⟨GL_EVT.WARN, GL_EVT_EN.WARN, 3, 3, 11⟩
def Evt.GL_ALERT_SRC : Evt := ⟨GL_EVT.ALERT_SRC, GL_EVT_EN.ALERT_SRC, 3, 2, 11⟩
def Evt.GL_ALERT_UNKNOWN : Evt := ⟨GL_EVT.ALERT_UNKNOWN, GL_EVT_EN.ALERT_UNKNOWN, 3, 1, 11⟩
def Evt.GL_RXERR : Evt := ⟨GL_EVT.RXERR, GL_EVT_EN.RXERR, 3, 0, 11⟩
def Evt.EM_GAIN_CLAMP : Evt := ⟨EM_EVT.GAIN_CLAMP, EM_EVT_EN.GAIN_CLAMP, 5, 5, 13⟩
def Evt.EM_COEF_CLAMP : Evt := ⟨EM_EVT.COEF_CLAMP, EM_EVT_EN.COEF_CLAMP, 5, 4, 13⟩
def Evt.EM_UNKNOWN : Evt := ⟨EM_EVT.UNKNOWN, EM_EVT_EN.UNKNOWN, 5, 3, 13⟩
def Evt.EM_ATT_FULL : Evt := ⟨EM_EVT.ATT_FULL, EM_EVT_EN.ATT_FULL, 5, 2, 13⟩
def Evt.EM_SLOW_SKIP : Evt := ⟨EM_EVT.SLOW_SKIP, EM_EVT_EN.SLOW_SKIP, 5, 1, 13⟩
def Evt.EM_CAL_DONE : Evt := ⟨EM_EVT.CAL_DONE, EM_EVT_EN.CAL_DONE, 5, 0, 13⟩
def Evt.ENG_IMG_REJ : Evt := ⟨ENG_EVT.IMG_REJ, ENG_EVT_EN.IMG_REJ, 6, 7, 14⟩
def Evt.ENG_OPEN_TIMEOUT : Evt := ⟨ENG_EVT.OPEN_TIMEOUT, ENG_EVT_EN.OPEN_TIMEOUT, 6, 6, 14⟩
def Evt.ENG_REGION : Evt := ⟨ENG_EVT.REGION, ENG_EVT_EN.REGION, 6, 5, 14⟩
def Evt.ENG_BANK_SW : Evt := ⟨ENG_EVT.BANK_SW, ENG_EVT_EN.BANK_SW, 6, 4, 14⟩
def Evt.ENG_NOT_FOLLOWING : Evt := ⟨ENG_EVT.NOT_FOLLOWING, ENG_EVT_EN.NOT_FOLLOWING, 6, 3, 14⟩
def Evt.ENG_ENGINE_FAULT : Evt := ⟨ENG_EVT.ENGINE_FAULT, ENG_EVT_EN.ENGINE_FAULT, 6, 2, 14⟩
def Evt.ENG_LANE_DIS : Evt := ⟨ENG_EVT.LANE_DIS, ENG_EVT_EN.LANE_DIS, 6, 1, 14⟩
def Evt.ENG_SAT : Evt := ⟨ENG_EVT.SAT, ENG_EVT_EN.SAT, 6, 0, 14⟩
def Evt.TH_LOW_STOP : Evt := ⟨TH_EVT.LOW_STOP, TH_EVT_EN.LOW_STOP, 4, 8, 12⟩
def Evt.TH_VRWARN_ACT : Evt := ⟨TH_EVT.VRWARN_ACT, TH_EVT_EN.VRWARN_ACT, 4, 7, 12⟩
def Evt.TH_WR_INHIBIT : Evt := ⟨TH_EVT.WR_INHIBIT, TH_EVT_EN.WR_INHIBIT, 4, 6, 12⟩
def Evt.TH_CAL_FAIL : Evt := ⟨TH_EVT.CAL_FAIL, TH_EVT_EN.CAL_FAIL, 4, 5, 12⟩
def Evt.TH_DRIFT : Evt := ⟨TH_EVT.DRIFT, TH_EVT_EN.DRIFT, 4, 4, 12⟩
def Evt.TH_OPEN_SHORT : Evt := ⟨TH_EVT.OPEN_SHORT, TH_EVT_EN.OPEN_SHORT, 4, 3, 12⟩
def Evt.TH_HIGH_STOP : Evt := ⟨TH_EVT.HIGH_STOP, TH_EVT_EN.HIGH_STOP, 4, 2, 12⟩
def Evt.TH_HIGH_WARN : Evt := ⟨TH_EVT.HIGH_WARN, TH_EVT_EN.HIGH_WARN, 4, 1, 12⟩
def Evt.TH_LOW_WARN : Evt := ⟨TH_EVT.LOW_WARN, TH_EVT_EN.LOW_WARN, 4, 0, 12⟩
def Evt.BG_WAIT_FAIL : Evt := ⟨BG_EVT.WAIT_FAIL, BG_EVT_EN.WAIT_FAIL, 7, 5, 24⟩
def Evt.BG_HINT_EXPIRED : Evt := ⟨BG_EVT.HINT_EXPIRED, BG_EVT_EN.HINT_EXPIRED, 7, 4, 24⟩
def Evt.BG_RESTORE : Evt := ⟨BG_EVT.RESTORE, BG_EVT_EN.RESTORE, 7, 3, 24⟩
def Evt.BG_DROP : Evt := ⟨BG_EVT.DROP, BG_EVT_EN.DROP, 7, 2, 24⟩
def Evt.BG_CAP_BELOW_MIN : Evt := ⟨BG_EVT.CAP_BELOW_MIN, BG_EVT_EN.CAP_BELOW_MIN, 7, 1, 24⟩
def Evt.BG_CAP_FAULT : Evt := ⟨BG_EVT.CAP_FAULT, BG_EVT_EN.CAP_FAULT, 7, 0, 24⟩
def Evt.CAR_LEASE_LOST : Evt := ⟨CAR_EVT.LEASE_LOST, CAR_EVT_EN.LEASE_LOST, 8, 9, 25⟩
def Evt.CAR_YIELD : Evt := ⟨CAR_EVT.YIELD, CAR_EVT_EN.YIELD, 8, 8, 25⟩
def Evt.CAR_TAKEOVER : Evt := ⟨CAR_EVT.TAKEOVER, CAR_EVT_EN.TAKEOVER, 8, 7, 25⟩
def Evt.CAR_CLAIM_CONFLICT : Evt := ⟨CAR_EVT.CLAIM_CONFLICT, CAR_EVT_EN.CLAIM_CONFLICT, 8, 6, 25⟩
def Evt.CAR_SHARE_INVALID : Evt := ⟨CAR_EVT.SHARE_INVALID, CAR_EVT_EN.SHARE_INVALID, 8, 5, 25⟩
def Evt.CAR_MEMBER_LOST : Evt := ⟨CAR_EVT.MEMBER_LOST, CAR_EVT_EN.MEMBER_LOST, 8, 4, 25⟩
def Evt.CAR_MEMBER_JOIN : Evt := ⟨CAR_EVT.MEMBER_JOIN, CAR_EVT_EN.MEMBER_JOIN, 8, 3, 25⟩
def Evt.CAR_LINK_DOWN : Evt := ⟨CAR_EVT.LINK_DOWN, CAR_EVT_EN.LINK_DOWN, 8, 2, 25⟩
def Evt.CAR_ROLE_CHANGE : Evt := ⟨CAR_EVT.ROLE_CHANGE, CAR_EVT_EN.ROLE_CHANGE, 8, 1, 25⟩
def Evt.CAR_OVER : Evt := ⟨CAR_EVT.OVER, CAR_EVT_EN.OVER, 8, 0, 25⟩
def Evt.PEL_ROOT_CHANGE : Evt := ⟨PEL_EVT.ROOT_CHANGE, PEL_EVT_EN.ROOT_CHANGE, 9, 8, 26⟩
def Evt.PEL_ORPHAN : Evt := ⟨PEL_EVT.ORPHAN, PEL_EVT_EN.ORPHAN, 9, 7, 26⟩
def Evt.PEL_LATE_APPLY : Evt := ⟨PEL_EVT.LATE_APPLY, PEL_EVT_EN.LATE_APPLY, 9, 6, 26⟩
def Evt.PEL_CARRIER_LOST : Evt := ⟨PEL_EVT.CARRIER_LOST, PEL_EVT_EN.CARRIER_LOST, 9, 5, 26⟩
def Evt.PEL_RETURN : Evt := ⟨PEL_EVT.RETURN, PEL_EVT_EN.RETURN, 9, 4, 26⟩
def Evt.PEL_FALLBACK : Evt := ⟨PEL_EVT.FALLBACK, PEL_EVT_EN.FALLBACK, 9, 3, 26⟩
def Evt.PEL_CANT_FOLLOW : Evt := ⟨PEL_EVT.CANT_FOLLOW, PEL_EVT_EN.CANT_FOLLOW, 9, 2, 26⟩
def Evt.PEL_DRAG_CLR : Evt := ⟨PEL_EVT.DRAG_CLR, PEL_EVT_EN.DRAG_CLR, 9, 1, 26⟩
def Evt.PEL_DRAG : Evt := ⟨PEL_EVT.DRAG, PEL_EVT_EN.DRAG, 9, 0, 26⟩
def Evt.MG_VIOL : Evt := ⟨MG_EVT.VIOL, MG_EVT_EN.VIOL, 10, 8, 27⟩
def Evt.MG_OTP_FULL : Evt := ⟨MG_EVT.OTP_FULL, MG_EVT_EN.OTP_FULL, 10, 7, 27⟩
def Evt.MG_CL_RETIRED : Evt := ⟨MG_EVT.CL_RETIRED, MG_EVT_EN.CL_RETIRED, 10, 6, 27⟩
def Evt.MG_CORE_RETIRED : Evt := ⟨MG_EVT.CORE_RETIRED, MG_EVT_EN.CORE_RETIRED, 10, 5, 27⟩
def Evt.MG_CORE_SLOWED : Evt := ⟨MG_EVT.CORE_SLOWED, MG_EVT_EN.CORE_SLOWED, 10, 4, 27⟩
def Evt.MG_SUS_STEP : Evt := ⟨MG_EVT.SUS_STEP, MG_EVT_EN.SUS_STEP, 10, 3, 27⟩
def Evt.MG_WORN : Evt := ⟨MG_EVT.WORN, MG_EVT_EN.WORN, 10, 2, 27⟩
def Evt.MG_REPLAN : Evt := ⟨MG_EVT.REPLAN, MG_EVT_EN.REPLAN, 10, 1, 27⟩
def Evt.MG_NO_MEDIAN : Evt := ⟨MG_EVT.NO_MEDIAN, MG_EVT_EN.NO_MEDIAN, 10, 0, 27⟩
def Evt.RC_PEER_ABORT : Evt := ⟨RC_EVT.PEER_ABORT, RC_EVT_EN.PEER_ABORT, 11, 9, 28⟩
def Evt.RC_ABORT_SENT : Evt := ⟨RC_EVT.ABORT_SENT, RC_EVT_EN.ABORT_SENT, 11, 8, 28⟩
def Evt.RC_TRAY_REQ : Evt := ⟨RC_EVT.TRAY_REQ, RC_EVT_EN.TRAY_REQ, 11, 7, 28⟩
def Evt.RC_WARM_RESTART : Evt := ⟨RC_EVT.WARM_RESTART, RC_EVT_EN.WARM_RESTART, 11, 6, 28⟩
def Evt.RC_STEP_DONE : Evt := ⟨RC_EVT.STEP_DONE, RC_EVT_EN.STEP_DONE, 11, 5, 28⟩
def Evt.RC_STEP_START : Evt := ⟨RC_EVT.STEP_START, RC_EVT_EN.STEP_START, 11, 4, 28⟩
def Evt.RC_LADDER_OPEN : Evt := ⟨RC_EVT.LADDER_OPEN, RC_EVT_EN.LADDER_OPEN, 11, 3, 28⟩
def Evt.RC_HB_RESUMED : Evt := ⟨RC_EVT.HB_RESUMED, RC_EVT_EN.HB_RESUMED, 11, 2, 28⟩
def Evt.RC_HB_MISS : Evt := ⟨RC_EVT.HB_MISS, RC_EVT_EN.HB_MISS, 11, 1, 28⟩
def Evt.RC_ACCEL_STEP : Evt := ⟨RC_EVT.ACCEL_STEP, RC_EVT_EN.ACCEL_STEP, 11, 0, 28⟩
def Evt.MTR_UNCAL : Evt := ⟨MTR_EVT.UNCAL, MTR_EVT_EN.UNCAL, 14, 7, 29⟩
def Evt.MTR_SHARE_UNATT : Evt := ⟨MTR_EVT.SHARE_UNATT, MTR_EVT_EN.SHARE_UNATT, 14, 6, 29⟩
def Evt.MTR_SHARE_TOL : Evt := ⟨MTR_EVT.SHARE_TOL, MTR_EVT_EN.SHARE_TOL, 14, 5, 29⟩
def Evt.MTR_WR_INHIBIT : Evt := ⟨MTR_EVT.WR_INHIBIT, MTR_EVT_EN.WR_INHIBIT, 14, 4, 29⟩
def Evt.MTR_SEAL_OPEN : Evt := ⟨MTR_EVT.SEAL_OPEN, MTR_EVT_EN.SEAL_OPEN, 14, 3, 29⟩
def Evt.MTR_GAP : Evt := ⟨MTR_EVT.GAP, MTR_EVT_EN.GAP, 14, 2, 29⟩
def Evt.MTR_FAULT : Evt := ⟨MTR_EVT.FAULT, MTR_EVT_EN.FAULT, 14, 1, 29⟩
def Evt.MTR_MISSING : Evt := ⟨MTR_EVT.MISSING, MTR_EVT_EN.MISSING, 14, 0, 29⟩
def Evt.FW_HSNAP : Evt := ⟨FW_EVT.HSNAP, FW_EVT_EN.HSNAP, 13, 7, 31⟩
def Evt.FW_TRD_LOST : Evt := ⟨FW_EVT.TRD_LOST, FW_EVT_EN.TRD_LOST, 13, 6, 31⟩
def Evt.FW_TRD_BLOCK : Evt := ⟨FW_EVT.TRD_BLOCK, FW_EVT_EN.TRD_BLOCK, 13, 5, 31⟩
def Evt.FW_LOG_WM : Evt := ⟨FW_EVT.LOG_WM, FW_EVT_EN.LOG_WM, 13, 4, 31⟩
def Evt.FW_LOG_DROP : Evt := ⟨FW_EVT.LOG_DROP, FW_EVT_EN.LOG_DROP, 13, 3, 31⟩
def Evt.FW_LOAD_REJ : Evt := ⟨FW_EVT.LOAD_REJ, FW_EVT_EN.LOAD_REJ, 13, 2, 31⟩
def Evt.FW_SW_FAIL : Evt := ⟨FW_EVT.SW_FAIL, FW_EVT_EN.SW_FAIL, 13, 1, 31⟩
def Evt.FW_SW_DONE : Evt := ⟨FW_EVT.SW_DONE, FW_EVT_EN.SW_DONE, 13, 0, 31⟩

end Sys2Proof.Machine
end

