-- ==== Sys2Proof/Machine/RegTable.lean ====
section
/-! DEFINITION. The register map as the configuration port sees it (Tables 15.1 and 15.6): for every register its offset,
its instances, its security, its pair rule, and for every field its access type (Table 0.7), the lock that freezes it
and the clamp of R386. -/

namespace Sys2Proof.Machine

/-- Field access types of Table 0.7; RWL is `rw` with a lock. -/
inductive Acc where
  | rw | ro | w1c | w1s | go | wo | cnt | snap
  deriving DecidableEq, Repr

/-- The lock bit that freezes an RWL field (R355, R356). -/
inductive LockBy where
  | none | cfg | perm | transport
  deriving DecidableEq, Repr

/-- Who may reach a register: anyone, secure accesses only, by mailbox number, by the ring pair's SEC, by window. -/
inductive SecKind where
  | open | sec | mailbox | ring | window
  deriving DecidableEq, Repr

/-- One word, a 64-bit pair with a shadow (R390), a writable pair (R391), or a read-only two-word value. -/
inductive PairKind where
  | word | snap | wpair | rowide
  deriving DecidableEq, Repr

structure FieldDesc where
  fld : Fld
  acc : Acc
  lock : LockBy := .none
  clamp : Nat → Nat := id

structure RegDesc where
  off : Nat
  stride : Nat
  count : Nat
  sec : SecKind
  pair : PairKind
  fields : List FieldDesc

/-- A two's-complement 16-bit clamp to ±lim, on the 16-bit code. -/
def clampS16 (lim v : Nat) : Nat :=
  if v < 32768 then min v lim else max v (65536 - lim)

/-- Registers of cadence (Tables 1.5–1.10, R40). -/
def regs01_0 : List RegDesc :=
  [
    ⟨0x400, 0, 1, .open, .word, [⟨CAD_CTRL.PEAK_CLR, .go, .none, id⟩]⟩ /- CAD_CTRL -/,
    ⟨0x404, 0, 1, .open, .word, [⟨CAD_STAT.EVQ_FILL, .ro, .none, id⟩,
      ⟨CAD_STAT.SYNTH_RUN, .ro, .none, id⟩,
      ⟨CAD_STAT.RELOCKING, .ro, .none, id⟩,
      ⟨CAD_STAT.CADENCE_LOST, .ro, .none, id⟩,
      ⟨CAD_STAT.LAST_SYNTH, .ro, .none, id⟩,
      ⟨CAD_STAT.LOCKED, .ro, .none, id⟩]⟩ /- CAD_STAT -/,
    ⟨0x408, 0, 1, .open, .word, [⟨CAD_EVT.HUB_FAULT_ESC, .w1c, .none, id⟩,
      ⟨CAD_EVT.OVERDUE, .w1c, .none, id⟩,
      ⟨CAD_EVT.FW_OVR, .w1c, .none, id⟩,
      ⟨CAD_EVT.ENG_OVR, .w1c, .none, id⟩,
      ⟨CAD_EVT.LATE, .w1c, .none, id⟩,
      ⟨CAD_EVT.DEFER, .w1c, .none, id⟩,
      ⟨CAD_EVT.RELOCK, .w1c, .none, id⟩,
      ⟨CAD_EVT.LOST, .w1c, .none, id⟩,
      ⟨CAD_EVT.NOISE, .w1c, .none, id⟩,
      ⟨CAD_EVT.SYNTH, .w1c, .none, id⟩]⟩ /- CAD_EVT -/,
    ⟨0x40c, 0, 1, .open, .word, [⟨CAD_EVT_EN.HUB_FAULT_ESC, .rw, .none, id⟩,
      ⟨CAD_EVT_EN.OVERDUE, .rw, .none, id⟩,
      ⟨CAD_EVT_EN.FW_OVR, .rw, .none, id⟩,
      ⟨CAD_EVT_EN.ENG_OVR, .rw, .none, id⟩,
      ⟨CAD_EVT_EN.LATE, .rw, .none, id⟩,
      ⟨CAD_EVT_EN.DEFER, .rw, .none, id⟩,
      ⟨CAD_EVT_EN.RELOCK, .rw, .none, id⟩,
      ⟨CAD_EVT_EN.LOST, .rw, .none, id⟩,
      ⟨CAD_EVT_EN.NOISE, .rw, .none, id⟩,
      ⟨CAD_EVT_EN.SYNTH, .rw, .none, id⟩]⟩ /- CAD_EVT_EN -/,
    ⟨0x410, 0, 1, .open, .word, [⟨CAD_PERIOD.PERIOD, .ro, .none, id⟩]⟩ /- CAD_PERIOD -/,
    ⟨0x418, 0, 1, .open, .snap, [⟨CAD_TICK.TICK, .snap, .none, id⟩]⟩ /- CAD_TICK -/,
    ⟨0x420, 0, 1, .open, .word, [⟨CAD_SYNTH_CNT.SYNTH, .cnt, .none, id⟩]⟩ /- CAD_SYNTH_CNT -/,
    ⟨0x424, 0, 1, .open, .word, [⟨CAD_NOISE_CNT.NOISE, .cnt, .none, id⟩]⟩ /- CAD_NOISE_CNT -/ ]

/-- Registers of cadence (Tables 1.5–1.10, R40). -/
def regs01_1 : List RegDesc :=
  [
    ⟨0x428, 0, 1, .open, .word, [⟨CAD_DEFER_CNT.LATE, .cnt, .none, id⟩,
      ⟨CAD_DEFER_CNT.DEFER, .cnt, .none, id⟩]⟩ /- CAD_DEFER_CNT -/,
    ⟨0x42c, 0, 1, .open, .word, [⟨CAD_RELOCK_CNT.LOST, .cnt, .none, id⟩,
      ⟨CAD_RELOCK_CNT.RELOCK, .cnt, .none, id⟩]⟩ /- CAD_RELOCK_CNT -/,
    ⟨0x430, 0, 1, .open, .word, [⟨CAD_BUDGET.ENG_LAST, .ro, .none, id⟩,
      ⟨CAD_BUDGET.FW_LAST, .ro, .none, id⟩]⟩ /- CAD_BUDGET -/,
    ⟨0x434, 0, 1, .open, .word, [⟨CAD_BUDGET_PEAK.ENG_PEAK, .ro, .none, id⟩,
      ⟨CAD_BUDGET_PEAK.FW_PEAK, .ro, .none, id⟩]⟩ /- CAD_BUDGET_PEAK -/,
    ⟨0x438, 0, 1, .open, .word, [⟨CAD_OVERRUN.ENG, .cnt, .none, id⟩,
      ⟨CAD_OVERRUN.FW, .cnt, .none, id⟩]⟩ /- CAD_OVERRUN -/,
    ⟨0x440, 0, 1, .open, .word, [⟨DOM_CTRL.SELFTEST_EN, .rw, .cfg, id⟩,
      ⟨DOM_CTRL.TELEM_MS, .rw, .none, fun v => max 1 (min 100 v)⟩]⟩ /- DOM_CTRL -/,
    ⟨0x480, 8, 10, .open, .word, [⟨DOM_AGE.AGE, .ro, .none, id⟩]⟩ /- DOM_AGE -/,
    ⟨0x484, 8, 10, .open, .word, [⟨DOM_STAT.OVERDUE, .cnt, .none, id⟩,
      ⟨DOM_STAT.MERGED, .cnt, .none, id⟩,
      ⟨DOM_STAT.PROMOTED, .ro, .none, id⟩,
      ⟨DOM_STAT.PENDING, .ro, .none, id⟩]⟩ /- DOM_STAT -/ ]

/-- Registers of spoke (Tables 2.6–2.10, R73). -/
def regs02_0 : List RegDesc :=
  [
    ⟨0x2300, 0, 1, .open, .word, [⟨SPK_CTRL.BRK_QUIET, .rw, .cfg, max 1⟩,
      ⟨SPK_CTRL.BRK_STEP, .rw, .cfg, max 1⟩,
      ⟨SPK_CTRL.FAIL_DIV, .rw, .cfg, id⟩]⟩ /- SPK_CTRL -/,
    ⟨0x2304, 0, 1, .open, .word, [⟨SPK_STAT.BRAKE, .ro, .none, id⟩,
      ⟨SPK_STAT.BRK_DIV, .ro, .none, id⟩,
      ⟨SPK_STAT.ALERT_ABC, .ro, .none, id⟩,
      ⟨SPK_STAT.BUS_OK, .ro, .none, id⟩,
      ⟨SPK_STAT.FEATHER_ACT, .ro, .none, id⟩]⟩ /- SPK_STAT -/,
    ⟨0x2308, 0, 1, .open, .word, [⟨SPK_EVT.TRIM_FAIL, .w1c, .none, id⟩,
      ⟨SPK_EVT.SPOKE_FAULT, .w1c, .none, id⟩,
      ⟨SPK_EVT.TREE_FAULT, .w1c, .none, id⟩,
      ⟨SPK_EVT.INJ_FAIL, .w1c, .none, id⟩,
      ⟨SPK_EVT.BRK_RELEASED, .w1c, .none, id⟩,
      ⟨SPK_EVT.BRAKE, .w1c, .none, id⟩,
      ⟨SPK_EVT.FEATHER_SKIP, .w1c, .none, id⟩,
      ⟨SPK_EVT.FEATHER, .w1c, .none, id⟩]⟩ /- SPK_EVT -/,
    ⟨0x230c, 0, 1, .open, .word, [⟨SPK_EVT_EN.TRIM_FAIL, .rw, .none, id⟩,
      ⟨SPK_EVT_EN.SPOKE_FAULT, .rw, .none, id⟩,
      ⟨SPK_EVT_EN.TREE_FAULT, .rw, .none, id⟩,
      ⟨SPK_EVT_EN.INJ_FAIL, .rw, .none, id⟩,
      ⟨SPK_EVT_EN.BRK_RELEASED, .rw, .none, id⟩,
      ⟨SPK_EVT_EN.BRAKE, .rw, .none, id⟩,
      ⟨SPK_EVT_EN.FEATHER_SKIP, .rw, .none, id⟩,
      ⟨SPK_EVT_EN.FEATHER, .rw, .none, id⟩]⟩ /- SPK_EVT_EN -/,
    ⟨0x2310, 0, 1, .open, .word, [⟨SPK_BRK_CNT.BRAKES, .cnt, .none, id⟩]⟩ /- SPK_BRK_CNT -/,
    ⟨0x2314, 0, 1, .open, .word, [⟨SPK_BUS_ERR.FRAMES, .cnt, .none, id⟩]⟩ /- SPK_BUS_ERR -/,
    ⟨0x2320, 4, 6, .open, .word, [⟨SPK_PRESENT.PRESENT, .ro, .none, id⟩]⟩ /- SPK_PRESENT -/,
    ⟨0x2400, 16, 192, .open, .word, [⟨SNT_CFG.SENSE_EN, .rw, .cfg, id⟩,
      ⟨SNT_CFG.THR, .rw, .cfg, min 24⟩,
      ⟨SNT_CFG.FSTEP, .rw, .cfg, id⟩,
      ⟨SNT_CFG.FSTEP_MAX, .rw, .cfg, id⟩,
      ⟨SNT_CFG.ESC, .rw, .cfg, id⟩,
      ⟨SNT_CFG.FHOLD, .rw, .cfg, min 8⟩]⟩ /- SNT_CFG -/ ]

/-- Registers of spoke (Tables 2.6–2.10, R73). -/
def regs02_1 : List RegDesc :=
  [
    ⟨0x2404, 16, 192, .open, .word, [⟨SNT_STAT.FTH_TICK, .ro, .none, id⟩,
      ⟨SNT_STAT.FTH_EVT_TICK, .ro, .none, id⟩,
      ⟨SNT_STAT.STEP, .ro, .none, id⟩,
      ⟨SNT_STAT.FEATHER, .ro, .none, id⟩,
      ⟨SNT_STAT.ARMED, .ro, .none, id⟩,
      ⟨SNT_STAT.INJ_FAIL, .ro, .none, id⟩]⟩ /- SNT_STAT -/,
    ⟨0x2408, 16, 192, .open, .word, [⟨SNT_IDX.AINC, .rw, .none, id⟩,
      ⟨SNT_IDX.IDX, .rw, .none, id⟩]⟩ /- SNT_IDX -/,
    ⟨0x240c, 16, 192, .open, .word, []⟩ /- SNT_DATA -/ ]

/-- Registers of rim (Tables 3.8–3.11, R99). -/
def regs03_0 : List RegDesc :=
  [
    ⟨0x800, 8, 248, .open, .word, [⟨SWD_CFG.RG, .ro, .none, id⟩,
      ⟨SWD_CFG.KIND, .ro, .none, id⟩,
      ⟨SWD_CFG.PRESENT, .ro, .none, id⟩]⟩ /- SWD_CFG -/,
    ⟨0x804, 8, 248, .open, .word, [⟨SWD_STAT.STATE, .ro, .none, id⟩,
      ⟨SWD_STAT.PEND, .ro, .none, id⟩,
      ⟨SWD_STAT.FORCED, .ro, .none, id⟩,
      ⟨SWD_STAT.WAIT_SLOT, .ro, .none, id⟩,
      ⟨SWD_STAT.MINOFF, .ro, .none, id⟩,
      ⟨SWD_STAT.ONS, .cnt, .none, id⟩]⟩ /- SWD_STAT -/,
    ⟨0xfc0, 0, 1, .open, .word, [⟨RIM_STAT.REST_STATE, .ro, .none, id⟩,
      ⟨RIM_STAT.COOL_STOP, .ro, .none, id⟩,
      ⟨RIM_STAT.COOL_FAULT, .ro, .none, id⟩,
      ⟨RIM_STAT.FLOW_GOOD_1S, .ro, .none, id⟩,
      ⟨RIM_STAT.PWR_INHIBIT, .ro, .none, id⟩,
      ⟨RIM_STAT.LOCK_WAIT, .ro, .none, id⟩,
      ⟨RIM_STAT.REST_TICK, .ro, .none, id⟩,
      ⟨RIM_STAT.OVER, .ro, .none, id⟩]⟩ /- RIM_STAT -/,
    ⟨0xfc4, 0, 1, .open, .word, [⟨RIM_EVT.RAMP_FAULT, .w1c, .none, id⟩,
      ⟨RIM_EVT.SR_FAULT, .w1c, .none, id⟩,
      ⟨RIM_EVT.REST_EXITED, .w1c, .none, id⟩,
      ⟨RIM_EVT.REST_ENTERED, .w1c, .none, id⟩,
      ⟨RIM_EVT.COOL_STOP, .w1c, .none, id⟩,
      ⟨RIM_EVT.FORCED_OFF, .w1c, .none, id⟩,
      ⟨RIM_EVT.CANCELLED, .w1c, .none, id⟩,
      ⟨RIM_EVT.SLOT_WAIT, .w1c, .none, id⟩,
      ⟨RIM_EVT.IMON_FAULT, .w1c, .none, id⟩,
      ⟨RIM_EVT.AT_FLOOR, .w1c, .none, id⟩,
      ⟨RIM_EVT.ILIMIT, .w1c, .none, id⟩]⟩ /- RIM_EVT -/,
    ⟨0xfc8, 0, 1, .open, .word, [⟨RIM_EVT_EN.RAMP_FAULT, .rw, .none, id⟩,
      ⟨RIM_EVT_EN.SR_FAULT, .rw, .none, id⟩,
      ⟨RIM_EVT_EN.REST_EXITED, .rw, .none, id⟩,
      ⟨RIM_EVT_EN.REST_ENTERED, .rw, .none, id⟩,
      ⟨RIM_EVT_EN.COOL_STOP, .rw, .none, id⟩,
      ⟨RIM_EVT_EN.FORCED_OFF, .rw, .none, id⟩,
      ⟨RIM_EVT_EN.CANCELLED, .rw, .none, id⟩,
      ⟨RIM_EVT_EN.SLOT_WAIT, .rw, .none, id⟩,
      ⟨RIM_EVT_EN.IMON_FAULT, .rw, .none, id⟩,
      ⟨RIM_EVT_EN.AT_FLOOR, .rw, .none, id⟩,
      ⟨RIM_EVT_EN.ILIMIT, .rw, .none, id⟩]⟩ /- RIM_EVT_EN -/,
    ⟨0xfd0, 4, 6, .open, .word, [⟨REST_MASK.WAKE, .ro, .none, id⟩]⟩ /- REST_MASK -/,
    ⟨0xfe8, 0, 1, .open, .word, [⟨COOL_CNT.STOPS, .cnt, .none, id⟩]⟩ /- COOL_CNT -/,
    ⟨0xfec, 0, 1, .open, .word, [⟨FLOW_GOOD_TICKS.TICKS, .ro, .none, id⟩]⟩ /- FLOW_GOOD_TICKS -/ ]

/-- Registers of rim (Tables 3.8–3.11, R99). -/
def regs03_1 : List RegDesc :=
  [
    ⟨0x2000, 64, 12, .open, .word, [⟨RG_CFG.SRC, .rw, .cfg, id⟩,
      ⟨RG_CFG.SLOTS, .rw, .cfg, fun v => max 1 (min 8 v)⟩,
      ⟨RG_CFG.RISE, .rw, .cfg, max 1⟩,
      ⟨RG_CFG.FAULT_PT, .rw, .cfg, id⟩,
      ⟨RG_CFG.TYPE, .ro, .none, id⟩]⟩ /- RG_CFG -/,
    ⟨0x2004, 64, 12, .open, .word, [⟨RG_LIM_SM.I_SHORT, .rw, .cfg, id⟩,
      ⟨RG_LIM_SM.I_MID, .rw, .cfg, id⟩]⟩ /- RG_LIM_SM -/,
    ⟨0x2008, 64, 12, .open, .word, [⟨RG_LIM_L.I_LONG, .rw, .cfg, id⟩]⟩ /- RG_LIM_L -/,
    ⟨0x200c, 64, 12, .open, .word, [⟨RG_IMON_CAL.GAIN, .rw, .none, id⟩,
      ⟨RG_IMON_CAL.OFFSET, .rw, .none, id⟩]⟩ /- RG_IMON_CAL -/,
    ⟨0x2010, 64, 12, .open, .word, [⟨RG_STAT.CEIL, .ro, .none, id⟩,
      ⟨RG_STAT.OVER_S, .ro, .none, id⟩,
      ⟨RG_STAT.OVER_M, .ro, .none, id⟩,
      ⟨RG_STAT.OVER_L, .ro, .none, id⟩,
      ⟨RG_STAT.AT_FLOOR, .ro, .none, id⟩,
      ⟨RG_STAT.IMON_FAULT, .ro, .none, id⟩,
      ⟨RG_STAT.ACT_UNKNOWN, .ro, .none, id⟩,
      ⟨RG_STAT.RAMPS, .ro, .none, id⟩,
      ⟨RG_STAT.IMON_CODE, .ro, .none, id⟩]⟩ /- RG_STAT -/,
    ⟨0x2014, 64, 12, .open, .word, [⟨RG_I_SM.I_S, .ro, .none, id⟩,
      ⟨RG_I_SM.I_M, .ro, .none, id⟩]⟩ /- RG_I_SM -/,
    ⟨0x2018, 64, 12, .open, .word, [⟨RG_I_L.I_ACT, .ro, .none, id⟩,
      ⟨RG_I_L.I_L, .ro, .none, id⟩]⟩ /- RG_I_L -/,
    ⟨0x201c, 64, 12, .open, .word, [⟨RG_LIMITED.TICKS, .cnt, .none, id⟩]⟩ /- RG_LIMITED -/ ]

/-- Registers of rim (Tables 3.8–3.11, R99). -/
def regs03_2 : List RegDesc :=
  [
    ⟨0x2020, 64, 12, .open, .word, [⟨RG_OVER_CNT.SHORT, .cnt, .none, id⟩,
      ⟨RG_OVER_CNT.MID, .cnt, .none, id⟩,
      ⟨RG_OVER_CNT.LONG, .cnt, .none, id⟩]⟩ /- RG_OVER_CNT -/ ]

/-- Registers of Gleub (Tables 4.7–4.9, R125). -/
def regs04_0 : List RegDesc :=
  [
    ⟨0x3000, 64, 24, .open, .word, [⟨GL_CFG.RG, .ro, .none, id⟩,
      ⟨GL_CFG.PHASES, .ro, .none, id⟩,
      ⟨GL_CFG.PRESENT, .ro, .none, id⟩,
      ⟨GL_CFG.SMP_PH, .ro, .none, id⟩]⟩ /- GL_CFG -/,
    ⟨0x3004, 64, 24, .open, .word, [⟨GL_VLIM.VMAX, .rw, .cfg, id⟩,
      ⟨GL_VLIM.VMIN, .rw, .cfg, id⟩]⟩ /- GL_VLIM -/,
    ⟨0x3008, 64, 24, .open, .word, [⟨GL_SSC_A.FC, .rw, .none, id⟩,
      ⟨GL_SSC_A.SPREAD, .rw, .none, min 100⟩,
      ⟨GL_SSC_A.RATE, .rw, .none, fun v => max 16 (min 64 v)⟩]⟩ /- GL_SSC_A -/,
    ⟨0x300c, 64, 24, .open, .word, [⟨GL_SSC_B.BASE, .rw, .none, id⟩,
      ⟨GL_SSC_B.PSTEP, .rw, .none, id⟩]⟩ /- GL_SSC_B -/,
    ⟨0x3010, 64, 24, .open, .word, [⟨GL_STAT.LSTATE, .ro, .none, id⟩,
      ⟨GL_STAT.WARN, .ro, .none, id⟩,
      ⟨GL_STAT.OUTSTANDING, .ro, .none, id⟩,
      ⟨GL_STAT.SEQ, .ro, .none, id⟩,
      ⟨GL_STAT.VDONE, .ro, .none, id⟩,
      ⟨GL_STAT.VREQ, .ro, .none, id⟩]⟩ /- GL_STAT -/,
    ⟨0x3014, 64, 24, .open, .word, [⟨GL_TEL0.I_SUM, .ro, .none, id⟩,
      ⟨GL_TEL0.TEMP, .ro, .none, id⟩]⟩ /- GL_TEL0 -/,
    ⟨0x3018, 64, 24, .open, .word, [⟨GL_TEL1.VIN, .ro, .none, id⟩]⟩ /- GL_TEL1 -/,
    ⟨0x301c, 64, 24, .open, .word, [⟨GL_ERR.RXERR, .cnt, .none, id⟩,
      ⟨GL_ERR.NOACK, .cnt, .none, id⟩,
      ⟨GL_ERR.NAK, .cnt, .none, id⟩,
      ⟨GL_ERR.DONE_LATE, .cnt, .none, id⟩]⟩ /- GL_ERR -/ ]

/-- Registers of Gleub (Tables 4.7–4.9, R125). -/
def regs04_1 : List RegDesc :=
  [
    ⟨0x3020, 64, 24, .open, .word, [⟨GL_FAULT_CNT.FAULTS, .cnt, .none, id⟩,
      ⟨GL_FAULT_CNT.WARNS, .cnt, .none, id⟩]⟩ /- GL_FAULT_CNT -/,
    ⟨0x3600, 0, 1, .open, .word, [⟨GL_CTRL.ALERT_PT, .rw, .cfg, id⟩,
      ⟨GL_CTRL.ALERT_HOLD, .rw, .cfg, max 1⟩,
      ⟨GL_CTRL.DONE_MARGIN, .rw, .cfg, max 1⟩,
      ⟨GL_CTRL.SSC_APPLY, .go, .none, id⟩,
      ⟨GL_CTRL.RETRAIN, .go, .none, id⟩]⟩ /- GL_CTRL -/,
    ⟨0x3604, 0, 1, .open, .word, [⟨GL_EVT.LINK_FAULT, .w1c, .none, id⟩,
      ⟨GL_EVT.NAK, .w1c, .none, id⟩,
      ⟨GL_EVT.DONE_LATE, .w1c, .none, id⟩,
      ⟨GL_EVT.WARN, .w1c, .none, id⟩,
      ⟨GL_EVT.ALERT_SRC, .w1c, .none, id⟩,
      ⟨GL_EVT.ALERT_UNKNOWN, .w1c, .none, id⟩,
      ⟨GL_EVT.RXERR, .w1c, .none, id⟩]⟩ /- GL_EVT -/,
    ⟨0x3608, 0, 1, .open, .word, [⟨GL_EVT_EN.LINK_FAULT, .rw, .none, id⟩,
      ⟨GL_EVT_EN.NAK, .rw, .none, id⟩,
      ⟨GL_EVT_EN.DONE_LATE, .rw, .none, id⟩,
      ⟨GL_EVT_EN.WARN, .rw, .none, id⟩,
      ⟨GL_EVT_EN.ALERT_SRC, .rw, .none, id⟩,
      ⟨GL_EVT_EN.ALERT_UNKNOWN, .rw, .none, id⟩,
      ⟨GL_EVT_EN.RXERR, .rw, .none, id⟩]⟩ /- GL_EVT_EN -/,
    ⟨0x360c, 0, 1, .open, .word, [⟨GL_FAULT.FAULT, .ro, .none, id⟩]⟩ /- GL_FAULT -/,
    ⟨0x3610, 0, 1, .open, .word, [⟨GL_WARN.WARN, .ro, .none, id⟩]⟩ /- GL_WARN -/ ]

/-- Registers of energy model (Tables 5.5–5.8, R152). -/
def regs05_0 : List RegDesc :=
  [
    ⟨0x6000, 0, 1, .open, .word, [⟨EM_CTRL.ATT_EN, .rw, .none, id⟩,
      ⟨EM_CTRL.SLOW_EN, .rw, .none, id⟩,
      ⟨EM_CTRL.FAST_EN, .rw, .none, id⟩]⟩ /- EM_CTRL -/,
    ⟨0x6004, 0, 1, .open, .word, [⟨EM_STAT.CAL_STATE, .ro, .none, id⟩,
      ⟨EM_STAT.GAIN_CLAMP, .ro, .none, id⟩,
      ⟨EM_STAT.UNKNOWN_CL, .ro, .none, id⟩]⟩ /- EM_STAT -/,
    ⟨0x6008, 0, 1, .open, .word, [⟨EM_EVT.GAIN_CLAMP, .w1c, .none, id⟩,
      ⟨EM_EVT.COEF_CLAMP, .w1c, .none, id⟩,
      ⟨EM_EVT.UNKNOWN, .w1c, .none, id⟩,
      ⟨EM_EVT.ATT_FULL, .w1c, .none, id⟩,
      ⟨EM_EVT.SLOW_SKIP, .w1c, .none, id⟩,
      ⟨EM_EVT.CAL_DONE, .w1c, .none, id⟩]⟩ /- EM_EVT -/,
    ⟨0x600c, 0, 1, .open, .word, [⟨EM_EVT_EN.GAIN_CLAMP, .rw, .none, id⟩,
      ⟨EM_EVT_EN.COEF_CLAMP, .rw, .none, id⟩,
      ⟨EM_EVT_EN.UNKNOWN, .rw, .none, id⟩,
      ⟨EM_EVT_EN.ATT_FULL, .rw, .none, id⟩,
      ⟨EM_EVT_EN.SLOW_SKIP, .rw, .none, id⟩,
      ⟨EM_EVT_EN.CAL_DONE, .rw, .none, id⟩]⟩ /- EM_EVT_EN -/,
    ⟨0x6010, 0, 1, .open, .snap, [⟨EM_EDIE.EDIE, .snap, .none, id⟩]⟩ /- EM_EDIE -/,
    ⟨0x6018, 0, 1, .open, .snap, [⟨EM_EIN.EIN, .snap, .none, id⟩]⟩ /- EM_EIN -/,
    ⟨0x6020, 0, 1, .open, .snap, [⟨EM_UNATT.UNATT, .snap, .none, id⟩]⟩ /- EM_UNATT -/,
    ⟨0x6028, 0, 1, .open, .word, [⟨EM_PDIE.P_TICK, .ro, .none, id⟩,
      ⟨EM_PDIE.P_1MS, .ro, .none, id⟩]⟩ /- EM_PDIE -/ ]

/-- Registers of energy model (Tables 5.5–5.8, R152). -/
def regs05_1 : List RegDesc :=
  [
    ⟨0x602c, 0, 1, .open, .word, [⟨EM_SPARSITY.S_1MS, .ro, .none, id⟩,
      ⟨EM_SPARSITY.S_TICK, .ro, .none, id⟩]⟩ /- EM_SPARSITY -/,
    ⟨0x6030, 0, 1, .open, .word, [⟨EM_RESID.FAST_RES, .ro, .none, id⟩,
      ⟨EM_RESID.SLOW_RES, .ro, .none, id⟩]⟩ /- EM_RESID -/,
    ⟨0x6034, 0, 1, .open, .word, [⟨EM_CAL_TIME.SLOW_SKIPS, .ro, .none, id⟩,
      ⟨EM_CAL_TIME.SLOW_OK, .ro, .none, id⟩,
      ⟨EM_CAL_TIME.FAST_OK, .ro, .none, id⟩]⟩ /- EM_CAL_TIME -/,
    ⟨0x6038, 0, 1, .open, .word, [⟨EM_UNKNOWN_CNT.CL_TICKS, .cnt, .none, id⟩]⟩ /- EM_UNKNOWN_CNT -/,
    ⟨0x603c, 0, 1, .sec, .word, [⟨EM_ATT_CTRL.CLR, .go, .none, id⟩,
      ⟨EM_ATT_CTRL.CLR_ALL, .rw, .none, id⟩,
      ⟨EM_ATT_CTRL.CLR_PART, .rw, .none, id⟩,
      ⟨EM_ATT_CTRL.PAGE, .rw, .none, id⟩]⟩ /- EM_ATT_CTRL -/,
    ⟨0x6040, 0, 1, .open, .word, [⟨EM_ATT_STAT.OVERFLOW, .cnt, .none, id⟩,
      ⟨EM_ATT_STAT.USED, .ro, .none, id⟩]⟩ /- EM_ATT_STAT -/,
    ⟨0x6080, 4, 16, .open, .word, [⟨EM_COEF.MANT, .ro, .none, id⟩,
      ⟨EM_COEF.EXP, .ro, .none, id⟩,
      ⟨EM_COEF.RAIL, .ro, .none, id⟩]⟩ /- EM_COEF -/,
    ⟨0x60c0, 4, 16, .open, .word, [⟨EM_SEED.MANT, .ro, .none, id⟩,
      ⟨EM_SEED.EXP, .ro, .none, id⟩,
      ⟨EM_SEED.RAIL, .ro, .none, id⟩]⟩ /- EM_SEED -/ ]

/-- Registers of energy model (Tables 5.5–5.8, R152). -/
def regs05_2 : List RegDesc :=
  [
    ⟨0x6100, 16, 12, .open, .word, [⟨EM_GAIN.GAIN, .ro, .none, id⟩]⟩ /- EM_GAIN -/,
    ⟨0x6104, 16, 12, .open, .word, [⟨EM_RG_E.E, .ro, .none, id⟩]⟩ /- EM_RG_E -/,
    ⟨0x6108, 16, 12, .open, .word, [⟨EM_RG_S.S, .ro, .none, id⟩]⟩ /- EM_RG_S -/,
    ⟨0x610c, 16, 12, .open, .word, [⟨EM_RG_P.P_EST, .ro, .none, id⟩,
      ⟨EM_RG_P.P_MEAS, .ro, .none, id⟩]⟩ /- EM_RG_P -/,
    ⟨0x6200, 4, 192, .sec, .word, [⟨EM_CL_E.E, .ro, .none, id⟩]⟩ /- EM_CL_E -/,
    ⟨0x6500, 4, 192, .open, .word, [⟨EM_TAG.LAYER, .rw, .none, id⟩,
      ⟨EM_TAG.OPER, .rw, .none, id⟩]⟩ /- EM_TAG -/,
    ⟨0x6800, 8, 32, .sec, .snap, [⟨EM_PART_E.ENERGY, .snap, .none, id⟩]⟩ /- EM_PART_E -/,
    ⟨0x6900, 8, 32, .sec, .snap, [⟨EM_OTHER.ENERGY, .snap, .none, id⟩]⟩ /- EM_OTHER -/ ]

/-- Registers of cadence engine (Tables 6.8–6.12, R191). -/
def regs06_0 : List RegDesc :=
  [
    ⟨0x5000, 0, 1, .open, .word, [⟨ENG_CTRL.SAFE_PT, .rw, .cfg, id⟩,
      ⟨ENG_CTRL.LD_LIMIT, .rw, .cfg, max 1⟩,
      ⟨ENG_CTRL.REL_STEP, .rw, .cfg, max 1⟩,
      ⟨ENG_CTRL.FE_PT, .rw, .cfg, id⟩]⟩ /- ENG_CTRL -/,
    ⟨0x5004, 0, 1, .open, .word, [⟨ENG_STAT.STATE, .ro, .none, id⟩,
      ⟨ENG_STAT.BANK, .ro, .none, id⟩,
      ⟨ENG_STAT.SWITCH_PEND, .ro, .none, id⟩,
      ⟨ENG_STAT.OPEN, .ro, .none, id⟩,
      ⟨ENG_STAT.LD_RUN, .ro, .none, id⟩,
      ⟨ENG_STAT.INACT_VALID, .ro, .none, id⟩]⟩ /- ENG_STAT -/,
    ⟨0x5008, 0, 1, .open, .word, [⟨ENG_EVT.IMG_REJ, .w1c, .none, id⟩,
      ⟨ENG_EVT.OPEN_TIMEOUT, .w1c, .none, id⟩,
      ⟨ENG_EVT.REGION, .w1c, .none, id⟩,
      ⟨ENG_EVT.BANK_SW, .w1c, .none, id⟩,
      ⟨ENG_EVT.NOT_FOLLOWING, .w1c, .none, id⟩,
      ⟨ENG_EVT.ENGINE_FAULT, .w1c, .none, id⟩,
      ⟨ENG_EVT.LANE_DIS, .w1c, .none, id⟩,
      ⟨ENG_EVT.SAT, .w1c, .none, id⟩]⟩ /- ENG_EVT -/,
    ⟨0x500c, 0, 1, .open, .word, [⟨ENG_EVT_EN.IMG_REJ, .rw, .none, id⟩,
      ⟨ENG_EVT_EN.OPEN_TIMEOUT, .rw, .none, id⟩,
      ⟨ENG_EVT_EN.REGION, .rw, .none, id⟩,
      ⟨ENG_EVT_EN.BANK_SW, .rw, .none, id⟩,
      ⟨ENG_EVT_EN.NOT_FOLLOWING, .rw, .none, id⟩,
      ⟨ENG_EVT_EN.ENGINE_FAULT, .rw, .none, id⟩,
      ⟨ENG_EVT_EN.LANE_DIS, .rw, .none, id⟩,
      ⟨ENG_EVT_EN.SAT, .rw, .none, id⟩]⟩ /- ENG_EVT_EN -/,
    ⟨0x5010, 0, 1, .open, .word, [⟨ENG_IMAGE.IMAGE_ID, .ro, .none, id⟩,
      ⟨ENG_IMAGE.KEEP, .ro, .none, id⟩,
      ⟨ENG_IMAGE.CYCLES, .ro, .none, id⟩]⟩ /- ENG_IMAGE -/,
    ⟨0x5014, 0, 1, .open, .word, [⟨ENG_CNT.LDIS, .cnt, .none, id⟩,
      ⟨ENG_CNT.SAT, .cnt, .none, id⟩]⟩ /- ENG_CNT -/,
    ⟨0x5018, 0, 1, .open, .word, [⟨ENG_NF.NF, .ro, .none, id⟩,
      ⟨ENG_NF.NF_CNT, .cnt, .none, id⟩]⟩ /- ENG_NF -/,
    ⟨0x501c, 0, 1, .open, .word, [⟨ENG_SEL.STK, .ro, .none, id⟩,
      ⟨ENG_SEL.LNK, .ro, .none, id⟩,
      ⟨ENG_SEL.SEC, .ro, .none, id⟩]⟩ /- ENG_SEL -/ ]

/-- Registers of cadence engine (Tables 6.8–6.12, R191). -/
def regs06_1 : List RegDesc :=
  [
    ⟨0x5020, 8, 4, .open, .word, [⟨ENG_SET.MODE, .rw, .cfg, id⟩,
      ⟨ENG_SET.OPEN_PT, .rw, .cfg, id⟩,
      ⟨ENG_SET.OPEN_MAX, .rw, .cfg, max 1⟩,
      ⟨ENG_SET.DWELL, .rw, .cfg, max 1⟩]⟩ /- ENG_SET -/,
    ⟨0x5024, 8, 4, .open, .word, [⟨ENG_SETST.REGION, .ro, .none, id⟩,
      ⟨ENG_SETST.NEXT, .ro, .none, id⟩,
      ⟨ENG_SETST.NT, .ro, .none, id⟩,
      ⟨ENG_SETST.NF, .ro, .none, id⟩,
      ⟨ENG_SETST.DWELL_CNT, .ro, .none, id⟩,
      ⟨ENG_SETST.OPEN_MS, .ro, .none, id⟩]⟩ /- ENG_SETST -/,
    ⟨0x5040, 8, 3, .open, .word, [⟨ENG_SLEW.UP, .rw, .cfg, id⟩,
      ⟨ENG_SLEW.DN, .rw, .cfg, id⟩]⟩ /- ENG_SLEW -/,
    ⟨0x5044, 8, 3, .open, .word, [⟨ENG_SLEWV.OUT, .ro, .none, id⟩,
      ⟨ENG_SLEWV.TARGET, .ro, .none, id⟩]⟩ /- ENG_SLEWV -/,
    ⟨0x5060, 4, 5, .open, .word, [⟨ENG_FE.FE_LIM, .rw, .cfg, id⟩,
      ⟨ENG_FE.FE_TIME, .rw, .cfg, max 1⟩]⟩ /- ENG_FE -/,
    ⟨0x5100, 8, 6, .open, .word, [⟨ENG_CAND.CUR, .ro, .none, id⟩,
      ⟨ENG_CAND.THM, .ro, .none, id⟩,
      ⟨ENG_CAND.CAP, .ro, .none, id⟩,
      ⟨ENG_CAND.HINT, .ro, .none, id⟩]⟩ /- ENG_CAND -/,
    ⟨0x5104, 8, 6, .open, .word, [⟨ENG_OUT.OUT, .ro, .none, id⟩,
      ⟨ENG_OUT.SAFE, .ro, .none, id⟩,
      ⟨ENG_OUT.PERF, .ro, .none, id⟩,
      ⟨ENG_OUT.FLOOR, .ro, .none, id⟩]⟩ /- ENG_OUT -/,
    ⟨0x5130, 0, 1, .open, .word, [⟨ENG_LCAND.LINK8, .ro, .none, id⟩,
      ⟨ENG_LCAND.LINK9, .ro, .none, id⟩,
      ⟨ENG_LCAND.STACK, .ro, .none, id⟩]⟩ /- ENG_LCAND -/ ]

/-- Registers of cadence engine (Tables 6.8–6.12, R191). -/
def regs06_2 : List RegDesc :=
  [
    ⟨0x5200, 0, 1, .open, .word, [⟨ENG_TR_CTRL.ARM, .go, .none, id⟩,
      ⟨ENG_TR_CTRL.PAGE, .rw, .none, id⟩]⟩ /- ENG_TR_CTRL -/,
    ⟨0x5210, 16, 8, .open, .word, [⟨ENG_TR_CH.SRC, .rw, .none, id⟩,
      ⟨ENG_TR_CH.NODE, .rw, .none, id⟩,
      ⟨ENG_TR_CH.TRIG, .rw, .none, id⟩,
      ⟨ENG_TR_CH.EN, .rw, .none, id⟩,
      ⟨ENG_TR_CH.POST, .rw, .none, id⟩]⟩ /- ENG_TR_CH -/,
    ⟨0x5214, 16, 8, .open, .word, [⟨ENG_TR_THR.THR, .rw, .none, id⟩,
      ⟨ENG_TR_THR.EVMASK, .rw, .none, id⟩]⟩ /- ENG_TR_THR -/,
    ⟨0x5218, 16, 8, .open, .word, [⟨ENG_TR_STAT.STOPPED, .ro, .none, id⟩,
      ⟨ENG_TR_STAT.TRIGGERED, .ro, .none, id⟩,
      ⟨ENG_TR_STAT.HALF, .ro, .none, id⟩,
      ⟨ENG_TR_STAT.TRIG_IDX, .ro, .none, id⟩,
      ⟨ENG_TR_STAT.WPTR, .ro, .none, id⟩]⟩ /- ENG_TR_STAT -/,
    ⟨0x5300, 0, 1, .open, .word, [⟨ENG_DUMP_CFG.SRC, .rw, .none, id⟩,
      ⟨ENG_DUMP_CFG.NODE, .rw, .none, id⟩]⟩ /- ENG_DUMP_CFG -/,
    ⟨0x5304, 0, 1, .open, .word, [⟨ENG_DUMP_VAL.VAL_A, .ro, .none, id⟩,
      ⟨ENG_DUMP_VAL.VAL_B, .ro, .none, id⟩]⟩ /- ENG_DUMP_VAL -/,
    ⟨0x5308, 0, 1, .open, .word, [⟨ENG_DUMP_STAT.DONE, .ro, .none, id⟩,
      ⟨ENG_DUMP_STAT.DIFF, .ro, .none, id⟩,
      ⟨ENG_DUMP_STAT.HELD, .ro, .none, id⟩,
      ⟨ENG_DUMP_STAT.NOWRITE, .ro, .none, id⟩]⟩ /- ENG_DUMP_STAT -/,
    ⟨0x5310, 0, 1, .open, .snap, [⟨ENG_DUMP_TICK.TICK, .snap, .none, id⟩]⟩ /- ENG_DUMP_TICK -/ ]

/-- Registers of temperature (Tables 7.4–7.6, R210). -/
def regs07_0 : List RegDesc :=
  [
    ⟨0x3800, 32, 25, .open, .word, [⟨TH_CFG.EN, .rw, .cfg, id⟩,
      ⟨TH_CFG.ROLE, .rw, .cfg, id⟩,
      ⟨TH_CFG.STOP_ACT, .rw, .cfg, id⟩,
      ⟨TH_CFG.SECT, .rw, .cfg, id⟩]⟩ /- TH_CFG -/,
    ⟨0x3804, 32, 25, .open, .word, [⟨TH_LOW.LOW_STOP, .rw, .cfg, id⟩,
      ⟨TH_LOW.LOW_WARN, .rw, .cfg, id⟩]⟩ /- TH_LOW -/,
    ⟨0x3808, 32, 25, .open, .word, [⟨TH_HIGH.HIGH_WARN, .rw, .cfg, id⟩,
      ⟨TH_HIGH.HIGH_TARGET, .rw, .cfg, id⟩]⟩ /- TH_HIGH -/,
    ⟨0x380c, 32, 25, .open, .word, [⟨TH_STOP.HIGH_STOP, .rw, .cfg, id⟩]⟩ /- TH_STOP -/,
    ⟨0x3810, 32, 25, .open, .word, [⟨TH_CAL.IDEAL, .rw, .cfg, fun v => max 0x399A (min 0x4666 v)⟩,
      ⟨TH_CAL.OFFSET, .rw, .cfg, clampS16 128⟩]⟩ /- TH_CAL -/,
    ⟨0x3814, 32, 25, .open, .word, [⟨TH_VAL.VALUE, .ro, .none, id⟩,
      ⟨TH_VAL.EST, .ro, .none, id⟩]⟩ /- TH_VAL -/,
    ⟨0x3818, 32, 25, .open, .word, [⟨TH_CHSTAT.VALID, .ro, .none, id⟩,
      ⟨TH_CHSTAT.OPEN, .ro, .none, id⟩,
      ⟨TH_CHSTAT.SHORT, .ro, .none, id⟩,
      ⟨TH_CHSTAT.DRIFT, .ro, .none, id⟩,
      ⟨TH_CHSTAT.CALIB, .ro, .none, id⟩,
      ⟨TH_CHSTAT.RS, .ro, .none, id⟩,
      ⟨TH_CHSTAT.HIGH_STOP, .ro, .none, id⟩,
      ⟨TH_CHSTAT.ABOVE_TGT, .ro, .none, id⟩,
      ⟨TH_CHSTAT.HIGH_WARN, .ro, .none, id⟩,
      ⟨TH_CHSTAT.LOW_WARN, .ro, .none, id⟩,
      ⟨TH_CHSTAT.LOW_STOP, .ro, .none, id⟩]⟩ /- TH_CHSTAT -/,
    ⟨0x381c, 32, 25, .open, .word, [⟨TH_FLT_CNT.FAULTS, .cnt, .none, id⟩,
      ⟨TH_FLT_CNT.STOPS, .cnt, .none, id⟩]⟩ /- TH_FLT_CNT -/ ]

/-- Registers of temperature (Tables 7.4–7.6, R210). -/
def regs07_1 : List RegDesc :=
  [
    ⟨0x3c00, 0, 1, .open, .word, [⟨TH_CTRL.STOP_PT, .rw, .cfg, id⟩,
      ⟨TH_CTRL.FAULT_PT, .rw, .cfg, id⟩,
      ⟨TH_CTRL.STOP_MS, .rw, .cfg, max 1⟩,
      ⟨TH_CTRL.HYST, .rw, .cfg, id⟩]⟩ /- TH_CTRL -/,
    ⟨0x3c04, 0, 1, .open, .word, [⟨TH_CTRL2.DRIFT_LIM, .rw, .cfg, id⟩,
      ⟨TH_CTRL2.FAULT_GUARD, .rw, .cfg, id⟩,
      ⟨TH_CTRL2.VRW_DROP, .rw, .cfg, max 1⟩,
      ⟨TH_CTRL2.VRW_MS, .rw, .cfg, max 1⟩]⟩ /- TH_CTRL2 -/,
    ⟨0x3c08, 0, 1, .open, .word, [⟨TH_STAT.WR_OK, .ro, .none, id⟩,
      ⟨TH_STAT.METER_WR_OK, .ro, .none, id⟩,
      ⟨TH_STAT.PWR_INHIBIT, .ro, .none, id⟩,
      ⟨TH_STAT.NO_COOL_REF, .ro, .none, id⟩,
      ⟨TH_STAT.OTP_PEND, .ro, .none, id⟩,
      ⟨TH_STAT.INVALID, .ro, .none, id⟩]⟩ /- TH_STAT -/,
    ⟨0x3c0c, 0, 1, .open, .word, [⟨TH_EVT.LOW_STOP, .w1c, .none, id⟩,
      ⟨TH_EVT.VRWARN_ACT, .w1c, .none, id⟩,
      ⟨TH_EVT.WR_INHIBIT, .w1c, .none, id⟩,
      ⟨TH_EVT.CAL_FAIL, .w1c, .none, id⟩,
      ⟨TH_EVT.DRIFT, .w1c, .none, id⟩,
      ⟨TH_EVT.OPEN_SHORT, .w1c, .none, id⟩,
      ⟨TH_EVT.HIGH_STOP, .w1c, .none, id⟩,
      ⟨TH_EVT.HIGH_WARN, .w1c, .none, id⟩,
      ⟨TH_EVT.LOW_WARN, .w1c, .none, id⟩]⟩ /- TH_EVT -/,
    ⟨0x3c10, 0, 1, .open, .word, [⟨TH_EVT_EN.LOW_STOP, .rw, .none, id⟩,
      ⟨TH_EVT_EN.VRWARN_ACT, .rw, .none, id⟩,
      ⟨TH_EVT_EN.WR_INHIBIT, .rw, .none, id⟩,
      ⟨TH_EVT_EN.CAL_FAIL, .rw, .none, id⟩,
      ⟨TH_EVT_EN.DRIFT, .rw, .none, id⟩,
      ⟨TH_EVT_EN.OPEN_SHORT, .rw, .none, id⟩,
      ⟨TH_EVT_EN.HIGH_STOP, .rw, .none, id⟩,
      ⟨TH_EVT_EN.HIGH_WARN, .rw, .none, id⟩,
      ⟨TH_EVT_EN.LOW_WARN, .rw, .none, id⟩]⟩ /- TH_EVT_EN -/,
    ⟨0x3c14, 0, 1, .open, .word, [⟨TH_WR_CNT.DEFERRED, .cnt, .none, id⟩,
      ⟨TH_WR_CNT.SUPERSEDED, .cnt, .none, id⟩]⟩ /- TH_WR_CNT -/ ]

/-- Registers of budget (Tables 8.6–8.9, R237). -/
def regs08_0 : List RegDesc :=
  [
    ⟨0x4000, 0, 1, .open, .word, [⟨BG_CTRL.RESTORE_MS, .rw, .cfg, max 1⟩,
      ⟨BG_CTRL.DROP_WAIT, .rw, .cfg, max 2⟩,
      ⟨BG_CTRL.IDLE_MS, .rw, .cfg, id⟩,
      ⟨BG_CTRL.ORDER, .rw, .cfg, id⟩]⟩ /- BG_CTRL -/,
    ⟨0x4004, 0, 1, .open, .word, [⟨BG_STAT.CAP_SRC, .ro, .none, id⟩,
      ⟨BG_STAT.IN_FORCE, .ro, .none, id⟩,
      ⟨BG_STAT.DROP_HOLD, .ro, .none, id⟩,
      ⟨BG_STAT.CAP_BELOW_MIN, .ro, .none, id⟩]⟩ /- BG_STAT -/,
    ⟨0x4008, 0, 1, .open, .word, [⟨BG_EVT.WAIT_FAIL, .w1c, .none, id⟩,
      ⟨BG_EVT.HINT_EXPIRED, .w1c, .none, id⟩,
      ⟨BG_EVT.RESTORE, .w1c, .none, id⟩,
      ⟨BG_EVT.DROP, .w1c, .none, id⟩,
      ⟨BG_EVT.CAP_BELOW_MIN, .w1c, .none, id⟩,
      ⟨BG_EVT.CAP_FAULT, .w1c, .none, id⟩]⟩ /- BG_EVT -/,
    ⟨0x400c, 0, 1, .open, .word, [⟨BG_EVT_EN.WAIT_FAIL, .rw, .none, id⟩,
      ⟨BG_EVT_EN.HINT_EXPIRED, .rw, .none, id⟩,
      ⟨BG_EVT_EN.RESTORE, .rw, .none, id⟩,
      ⟨BG_EVT_EN.DROP, .rw, .none, id⟩,
      ⟨BG_EVT_EN.CAP_BELOW_MIN, .rw, .none, id⟩,
      ⟨BG_EVT_EN.CAP_FAULT, .rw, .none, id⟩]⟩ /- BG_EVT_EN -/,
    ⟨0x4010, 0, 1, .open, .word, [⟨BG_CAP_SRC.VALID, .ro, .none, id⟩,
      ⟨BG_CAP_SRC.SHARE_EN, .rw, .cfg, id⟩,
      ⟨BG_CAP_SRC.SVC_EN, .rw, .cfg, id⟩,
      ⟨BG_CAP_SRC.PWM_EN, .rw, .cfg, id⟩,
      ⟨BG_CAP_SRC.SET_EN, .rw, .cfg, id⟩]⟩ /- BG_CAP_SRC -/,
    ⟨0x4014, 0, 1, .open, .word, [⟨BG_CAP.P_CAP, .ro, .none, id⟩,
      ⟨BG_CAP.FAULT_CAP, .rw, .cfg, id⟩]⟩ /- BG_CAP -/,
    ⟨0x4018, 0, 1, .open, .word, [⟨BG_CAP_FS.SET_FS, .rw, .cfg, id⟩,
      ⟨BG_CAP_FS.PWM_FS, .rw, .cfg, id⟩]⟩ /- BG_CAP_FS -/,
    ⟨0x401c, 0, 1, .open, .word, [⟨BG_CAP_IN.SET_VAL, .ro, .none, id⟩,
      ⟨BG_CAP_IN.PWM_VAL, .ro, .none, id⟩]⟩ /- BG_CAP_IN -/ ]

/-- Registers of budget (Tables 8.6–8.9, R237). -/
def regs08_1 : List RegDesc :=
  [
    ⟨0x4020, 0, 1, .open, .word, [⟨BG_HARD.P_SAFE, .rw, .cfg, id⟩,
      ⟨BG_HARD.P_METER, .rw, .cfg, id⟩]⟩ /- BG_HARD -/,
    ⟨0x4024, 0, 1, .open, .word, [⟨BG_CLASS.MEM_MIN, .rw, .cfg, id⟩,
      ⟨BG_CLASS.LINK_MIN, .rw, .cfg, id⟩]⟩ /- BG_CLASS -/,
    ⟨0x4028, 0, 1, .open, .word, [⟨BG_ALLOC_CM.COMP, .ro, .none, id⟩,
      ⟨BG_ALLOC_CM.MEM, .ro, .none, id⟩]⟩ /- BG_ALLOC_CM -/,
    ⟨0x402c, 0, 1, .open, .word, [⟨BG_ALLOC_L.LINK, .ro, .none, id⟩]⟩ /- BG_ALLOC_L -/,
    ⟨0x4030, 0, 1, .open, .word, [⟨BG_LIMIT.LNK8, .ro, .none, id⟩,
      ⟨BG_LIMIT.LNK9, .ro, .none, id⟩,
      ⟨BG_LIMIT.BW, .ro, .none, id⟩]⟩ /- BG_LIMIT -/,
    ⟨0x4034, 0, 1, .open, .word, [⟨BG_HINT_CFG.LEAD, .rw, .cfg, max 20⟩,
      ⟨BG_HINT_CFG.ABSORB, .rw, .cfg, id⟩,
      ⟨BG_HINT_CFG.VPRE_MAX, .rw, .cfg, id⟩,
      ⟨BG_HINT_CFG.BEGIN, .rw, .cfg, id⟩]⟩ /- BG_HINT_CFG -/,
    ⟨0x4038, 0, 1, .open, .word, [⟨BG_HINT_STAT.ACTIVE, .ro, .none, id⟩,
      ⟨BG_HINT_STAT.HELD, .ro, .none, id⟩]⟩ /- BG_HINT_STAT -/,
    ⟨0x403c, 0, 1, .open, .word, [⟨BG_HINT_CNT.ACCEPTED, .cnt, .none, id⟩,
      ⟨BG_HINT_CNT.EXPIRED, .cnt, .none, id⟩,
      ⟨BG_HINT_CNT.REJECTED, .cnt, .none, id⟩,
      ⟨BG_HINT_CNT.MISMATCH, .cnt, .none, id⟩]⟩ /- BG_HINT_CNT -/ ]

/-- Registers of budget (Tables 8.6–8.9, R237). -/
def regs08_2 : List RegDesc :=
  [
    ⟨0x4040, 0, 1, .open, .word, [⟨BG_WAIT.TIMEOUT, .rw, .cfg, max 1⟩,
      ⟨BG_WAIT.RETRIES, .rw, .cfg, max 1⟩]⟩ /- BG_WAIT -/,
    ⟨0x4044, 0, 1, .open, .word, [⟨BG_WAIT_CNT.TIMEOUTS, .cnt, .none, id⟩,
      ⟨BG_WAIT_CNT.FAILS, .cnt, .none, id⟩]⟩ /- BG_WAIT_CNT -/,
    ⟨0x4048, 0, 1, .open, .word, [⟨BG_DROP_CNT.A, .cnt, .none, id⟩,
      ⟨BG_DROP_CNT.B, .cnt, .none, id⟩,
      ⟨BG_DROP_CNT.C, .cnt, .none, id⟩]⟩ /- BG_DROP_CNT -/,
    ⟨0x4080, 4, 6, .open, .word, [⟨BG_SECT.FLOOR, .ro, .none, id⟩,
      ⟨BG_SECT.HINT, .ro, .none, id⟩,
      ⟨BG_SECT.PT_D, .ro, .none, id⟩]⟩ /- BG_SECT -/,
    ⟨0x4200, 16, 32, .sec, .word, [⟨BG_PART.CLASS, .rw, .none, id⟩,
      ⟨BG_PART.IDLE_GATE, .rw, .none, id⟩,
      ⟨BG_PART.FLOOR, .rw, .none, id⟩]⟩ /- BG_PART -/,
    ⟨0x4204, 16, 32, .sec, .word, [⟨BG_PSTAT.BREACH, .ro, .none, id⟩,
      ⟨BG_PSTAT.CAUSE, .ro, .none, id⟩,
      ⟨BG_PSTAT.ON, .ro, .none, id⟩]⟩ /- BG_PSTAT -/,
    ⟨0x4208, 16, 32, .sec, .word, [⟨BG_BREACH.TICKS, .cnt, .none, id⟩]⟩ /- BG_BREACH -/,
    ⟨0x4100, 4, 48, .sec, .word, [⟨BG_CLPART.VALID, .rw, .none, id⟩,
      ⟨BG_CLPART.PART, .rw, .none, id⟩]⟩ /- BG_CLPART -/ ]

/-- Registers of carrier and peloton (Tables 9.5–9.7, R263). -/
def regs09_0 : List RegDesc :=
  [
    ⟨0xa000, 0, 1, .open, .word, [⟨CAR_CFG.CARRIER, .ro, .none, id⟩,
      ⟨CAR_CFG.DIE, .ro, .none, id⟩,
      ⟨CAR_CFG.RANK, .rw, .cfg, id⟩,
      ⟨CAR_CFG.ELIG, .rw, .cfg, id⟩,
      ⟨CAR_CFG.EN, .rw, .cfg, id⟩,
      ⟨CAR_CFG.LINK_EN, .rw, .cfg, id⟩]⟩ /- CAR_CFG -/,
    ⟨0xa004, 0, 1, .open, .word, [⟨CAR_CTRL.SHARE_TMO, .rw, .cfg, max 4⟩]⟩ /- CAR_CTRL -/,
    ⟨0xa008, 0, 1, .sec, .word, [⟨CAR_CAP.CAP, .rw, .none, id⟩]⟩ /- CAR_CAP -/,
    ⟨0xa00c, 0, 1, .sec, .word, [⟨CAR_RSV.RESERVE, .rw, .none, id⟩]⟩ /- CAR_RSV -/,
    ⟨0xa010, 0, 1, .open, .word, [⟨CAR_STAT.ROLE, .ro, .none, id⟩,
      ⟨CAR_STAT.LEASE_VALID, .ro, .none, id⟩,
      ⟨CAR_STAT.SHARE_VALID, .ro, .none, id⟩,
      ⟨CAR_STAT.CLAIMANTS, .ro, .none, id⟩,
      ⟨CAR_STAT.OBEY_DIE, .ro, .none, id⟩,
      ⟨CAR_STAT.LINK_UP, .ro, .none, id⟩,
      ⟨CAR_STAT.DESIGNATED, .ro, .none, id⟩,
      ⟨CAR_STAT.LIVE, .ro, .none, id⟩]⟩ /- CAR_STAT -/,
    ⟨0xa014, 0, 1, .open, .word, [⟨CAR_EVT.LEASE_LOST, .w1c, .none, id⟩,
      ⟨CAR_EVT.YIELD, .w1c, .none, id⟩,
      ⟨CAR_EVT.TAKEOVER, .w1c, .none, id⟩,
      ⟨CAR_EVT.CLAIM_CONFLICT, .w1c, .none, id⟩,
      ⟨CAR_EVT.SHARE_INVALID, .w1c, .none, id⟩,
      ⟨CAR_EVT.MEMBER_LOST, .w1c, .none, id⟩,
      ⟨CAR_EVT.MEMBER_JOIN, .w1c, .none, id⟩,
      ⟨CAR_EVT.LINK_DOWN, .w1c, .none, id⟩,
      ⟨CAR_EVT.ROLE_CHANGE, .w1c, .none, id⟩,
      ⟨CAR_EVT.OVER, .w1c, .none, id⟩]⟩ /- CAR_EVT -/,
    ⟨0xa018, 0, 1, .open, .word, [⟨CAR_EVT_EN.LEASE_LOST, .rw, .none, id⟩,
      ⟨CAR_EVT_EN.YIELD, .rw, .none, id⟩,
      ⟨CAR_EVT_EN.TAKEOVER, .rw, .none, id⟩,
      ⟨CAR_EVT_EN.CLAIM_CONFLICT, .rw, .none, id⟩,
      ⟨CAR_EVT_EN.SHARE_INVALID, .rw, .none, id⟩,
      ⟨CAR_EVT_EN.MEMBER_LOST, .rw, .none, id⟩,
      ⟨CAR_EVT_EN.MEMBER_JOIN, .rw, .none, id⟩,
      ⟨CAR_EVT_EN.LINK_DOWN, .rw, .none, id⟩,
      ⟨CAR_EVT_EN.ROLE_CHANGE, .rw, .none, id⟩,
      ⟨CAR_EVT_EN.OVER, .rw, .none, id⟩]⟩ /- CAR_EVT_EN -/,
    ⟨0xa01c, 0, 1, .open, .word, [⟨CAR_LEASE.REQ, .ro, .none, id⟩,
      ⟨CAR_LEASE.TAKEOVER, .ro, .none, id⟩,
      ⟨CAR_LEASE.LEFT, .ro, .none, id⟩]⟩ /- CAR_LEASE -/ ]

/-- Registers of carrier and peloton (Tables 9.5–9.7, R263). -/
def regs09_1 : List RegDesc :=
  [
    ⟨0xa020, 0, 1, .open, .word, [⟨CAR_EPOCH_HELD.EPOCH, .ro, .none, id⟩]⟩ /- CAR_EPOCH_HELD -/,
    ⟨0xa024, 0, 1, .open, .word, [⟨CAR_EPOCH_SEEN.EPOCH, .ro, .none, id⟩]⟩ /- CAR_EPOCH_SEEN -/,
    ⟨0xa028, 0, 1, .open, .word, [⟨CAR_SHARE.OBEYED, .ro, .none, id⟩,
      ⟨CAR_SHARE.AGE, .ro, .none, id⟩,
      ⟨CAR_SHARE.MODE, .ro, .none, id⟩]⟩ /- CAR_SHARE -/,
    ⟨0xa02c, 0, 1, .open, .word, [⟨CAR_SPLIT.MODE, .ro, .none, id⟩,
      ⟨CAR_SPLIT.PARAM, .ro, .none, id⟩]⟩ /- CAR_SPLIT -/,
    ⟨0xa030, 0, 1, .open, .word, [⟨CAR_BUDGET.BUDGET, .ro, .none, id⟩]⟩ /- CAR_BUDGET -/,
    ⟨0xa034, 0, 1, .open, .rowide, [⟨CAR_LIVE.LIVE, .ro, .none, id⟩]⟩ /- CAR_LIVE -/,
    ⟨0xa040, 0, 1, .open, .snap, [⟨CAR_OFS.OFS, .snap, .none, id⟩]⟩ /- CAR_OFS -/,
    ⟨0xa048, 0, 1, .open, .word, [⟨CAR_ERR.CRC, .cnt, .none, id⟩,
      ⟨CAR_ERR.STALE, .cnt, .none, id⟩,
      ⟨CAR_ERR.LINKDOWN, .cnt, .none, id⟩,
      ⟨CAR_ERR.REJECT, .cnt, .none, id⟩]⟩ /- CAR_ERR -/ ]

/-- Registers of carrier and peloton (Tables 9.5–9.7, R263). -/
def regs09_2 : List RegDesc :=
  [
    ⟨0xa04c, 0, 1, .open, .word, [⟨CAR_RXMSG.MSGS, .cnt, .none, id⟩]⟩ /- CAR_RXMSG -/,
    ⟨0xa100, 0, 1, .sec, .word, [⟨PEL_CTRL.PEL_ID, .rw, .none, id⟩,
      ⟨PEL_CTRL.JOIN, .rw, .none, id⟩]⟩ /- PEL_CTRL -/,
    ⟨0xa104, 0, 1, .open, .word, [⟨PEL_CFG.DRAG_TICKS, .rw, .cfg, max 1⟩,
      ⟨PEL_CFG.FALLBACK_N, .rw, .cfg, id⟩,
      ⟨PEL_CFG.RETURN_MS, .rw, .cfg, max 1⟩,
      ⟨PEL_CFG.PERSIST, .rw, .cfg, fun v => max 1 (min 14 v)⟩,
      ⟨PEL_CFG.NOFOLLOW, .rw, .cfg, id⟩]⟩ /- PEL_CFG -/,
    ⟨0xa108, 0, 1, .open, .word, [⟨PEL_LEAD.LEAD, .rw, .cfg, max 400⟩]⟩ /- PEL_LEAD -/,
    ⟨0xa10c, 0, 1, .open, .word, [⟨PEL_STAT.MODE, .ro, .none, id⟩,
      ⟨PEL_STAT.ROOT, .ro, .none, id⟩,
      ⟨PEL_STAT.DRAG, .ro, .none, id⟩,
      ⟨PEL_STAT.CANT_FOLLOW, .ro, .none, id⟩,
      ⟨PEL_STAT.ORPHAN, .ro, .none, id⟩,
      ⟨PEL_STAT.OFS_VALID, .ro, .none, id⟩,
      ⟨PEL_STAT.POINT, .ro, .none, id⟩,
      ⟨PEL_STAT.OFFER, .ro, .none, id⟩,
      ⟨PEL_STAT.ROOT_CARRIER, .ro, .none, id⟩]⟩ /- PEL_STAT -/,
    ⟨0xa110, 0, 1, .open, .word, [⟨PEL_EVT.ROOT_CHANGE, .w1c, .none, id⟩,
      ⟨PEL_EVT.ORPHAN, .w1c, .none, id⟩,
      ⟨PEL_EVT.LATE_APPLY, .w1c, .none, id⟩,
      ⟨PEL_EVT.CARRIER_LOST, .w1c, .none, id⟩,
      ⟨PEL_EVT.RETURN, .w1c, .none, id⟩,
      ⟨PEL_EVT.FALLBACK, .w1c, .none, id⟩,
      ⟨PEL_EVT.CANT_FOLLOW, .w1c, .none, id⟩,
      ⟨PEL_EVT.DRAG_CLR, .w1c, .none, id⟩,
      ⟨PEL_EVT.DRAG, .w1c, .none, id⟩]⟩ /- PEL_EVT -/,
    ⟨0xa114, 0, 1, .open, .word, [⟨PEL_EVT_EN.ROOT_CHANGE, .rw, .none, id⟩,
      ⟨PEL_EVT_EN.ORPHAN, .rw, .none, id⟩,
      ⟨PEL_EVT_EN.LATE_APPLY, .rw, .none, id⟩,
      ⟨PEL_EVT_EN.CARRIER_LOST, .rw, .none, id⟩,
      ⟨PEL_EVT_EN.RETURN, .rw, .none, id⟩,
      ⟨PEL_EVT_EN.FALLBACK, .rw, .none, id⟩,
      ⟨PEL_EVT_EN.CANT_FOLLOW, .rw, .none, id⟩,
      ⟨PEL_EVT_EN.DRAG_CLR, .rw, .none, id⟩,
      ⟨PEL_EVT_EN.DRAG, .rw, .none, id⟩]⟩ /- PEL_EVT_EN -/,
    ⟨0xa118, 0, 1, .open, .word, [⟨PEL_CNT.ABSORBED, .cnt, .none, id⟩,
      ⟨PEL_CNT.DRAGS, .cnt, .none, id⟩]⟩ /- PEL_CNT -/ ]

/-- Registers of carrier and peloton (Tables 9.5–9.7, R263). -/
def regs09_3 : List RegDesc :=
  [
    ⟨0xa11c, 0, 1, .open, .word, [⟨PEL_ROOT.LIVE_CAR, .ro, .none, id⟩,
      ⟨PEL_ROOT.RISES, .ro, .none, id⟩,
      ⟨PEL_ROOT.RETURN_LEFT, .ro, .none, id⟩]⟩ /- PEL_ROOT -/,
    ⟨0xa120, 0, 1, .open, .snap, [⟨PEL_OFS.OFS, .snap, .none, id⟩]⟩ /- PEL_OFS -/,
    ⟨0xa128, 0, 1, .open, .word, [⟨PEL_DELAY.DELAY, .ro, .none, id⟩]⟩ /- PEL_DELAY -/,
    ⟨0xa130, 0, 1, .open, .snap, [⟨PEL_NEXT.TICK, .snap, .none, id⟩]⟩ /- PEL_NEXT -/,
    ⟨0xa140, 4, 8, .sec, .word, [⟨PEL_MASK.MASK, .rw, .none, id⟩]⟩ /- PEL_MASK -/,
    ⟨0xa160, 4, 8, .open, .word, [⟨PEL_LIVE.LIVE, .ro, .none, id⟩]⟩ /- PEL_LIVE -/ ]

/-- Registers of margins (Tables 10.5–10.7, R284). -/
def regs10_0 : List RegDesc :=
  [
    ⟨0x7000, 0, 1, .open, .word, [⟨MG_CTRL.MODE, .rw, .cfg, id⟩,
      ⟨MG_CTRL.AUTO, .rw, .cfg, id⟩,
      ⟨MG_CTRL.SUS_EN, .rw, .cfg, id⟩,
      ⟨MG_CTRL.HORIZON, .rw, .cfg, max 1⟩]⟩ /- MG_CTRL -/,
    ⟨0x7004, 0, 1, .open, .word, [⟨MG_STAT.ABOVE_COMMON, .ro, .none, id⟩,
      ⟨MG_STAT.OTP_FULL, .ro, .none, id⟩,
      ⟨MG_STAT.SUS_OVF, .ro, .none, id⟩,
      ⟨MG_STAT.FENCE_WAIT, .ro, .none, id⟩,
      ⟨MG_STAT.WORN, .ro, .none, id⟩,
      ⟨MG_STAT.RETIRED, .ro, .none, id⟩,
      ⟨MG_STAT.SLEWING, .ro, .none, id⟩]⟩ /- MG_STAT -/,
    ⟨0x7008, 0, 1, .open, .word, [⟨MG_EVT.VIOL, .w1c, .none, id⟩,
      ⟨MG_EVT.OTP_FULL, .w1c, .none, id⟩,
      ⟨MG_EVT.CL_RETIRED, .w1c, .none, id⟩,
      ⟨MG_EVT.CORE_RETIRED, .w1c, .none, id⟩,
      ⟨MG_EVT.CORE_SLOWED, .w1c, .none, id⟩,
      ⟨MG_EVT.SUS_STEP, .w1c, .none, id⟩,
      ⟨MG_EVT.WORN, .w1c, .none, id⟩,
      ⟨MG_EVT.REPLAN, .w1c, .none, id⟩,
      ⟨MG_EVT.NO_MEDIAN, .w1c, .none, id⟩]⟩ /- MG_EVT -/,
    ⟨0x700c, 0, 1, .open, .word, [⟨MG_EVT_EN.VIOL, .rw, .none, id⟩,
      ⟨MG_EVT_EN.OTP_FULL, .rw, .none, id⟩,
      ⟨MG_EVT_EN.CL_RETIRED, .rw, .none, id⟩,
      ⟨MG_EVT_EN.CORE_RETIRED, .rw, .none, id⟩,
      ⟨MG_EVT_EN.CORE_SLOWED, .rw, .none, id⟩,
      ⟨MG_EVT_EN.SUS_STEP, .rw, .none, id⟩,
      ⟨MG_EVT_EN.WORN, .rw, .none, id⟩,
      ⟨MG_EVT_EN.REPLAN, .rw, .none, id⟩,
      ⟨MG_EVT_EN.NO_MEDIAN, .rw, .none, id⟩]⟩ /- MG_EVT_EN -/,
    ⟨0x7010, 0, 1, .open, .word, [⟨MG_AGE_CFG.QUIET, .rw, .cfg, id⟩,
      ⟨MG_AGE_CFG.MIN_VALID, .rw, .cfg, fun v => max 1 (min 144 v)⟩]⟩ /- MG_AGE_CFG -/,
    ⟨0x7014, 0, 1, .open, .word, [⟨MG_SUS_CFG.TR_LIM, .rw, .cfg, max 1⟩,
      ⟨MG_SUS_CFG.FENCE_WAIT, .rw, .cfg, max 1⟩,
      ⟨MG_SUS_CFG.CL_RETIRE, .rw, .cfg, fun v => max 1 (min 64 v)⟩]⟩ /- MG_SUS_CFG -/,
    ⟨0x7018, 0, 1, .open, .word, [⟨MG_EPOCH.EPOCH, .ro, .none, id⟩]⟩ /- MG_EPOCH -/,
    ⟨0x701c, 0, 1, .open, .word, [⟨MG_OTP.FREE, .ro, .none, id⟩,
      ⟨MG_OTP.USED, .ro, .none, id⟩]⟩ /- MG_OTP -/ ]

/-- Registers of margins (Tables 10.5–10.7, R284). -/
def regs10_1 : List RegDesc :=
  [
    ⟨0x7020, 0, 1, .open, .word, [⟨MG_CNT.TRANS, .cnt, .none, id⟩,
      ⟨MG_CNT.PERM, .cnt, .none, id⟩]⟩ /- MG_CNT -/,
    ⟨0x7024, 0, 1, .open, .word, [⟨MG_SUS_IDX.IDX, .rw, .none, id⟩]⟩ /- MG_SUS_IDX -/,
    ⟨0x7028, 0, 1, .open, .word, [⟨MG_SUS_DATA.VALID, .ro, .none, id⟩,
      ⟨MG_SUS_DATA.SLOWED, .ro, .none, id⟩,
      ⟨MG_SUS_DATA.N, .ro, .none, id⟩,
      ⟨MG_SUS_DATA.CORE, .ro, .none, id⟩]⟩ /- MG_SUS_DATA -/,
    ⟨0x7200, 8, 192, .open, .word, [⟨MG_CL.STATE, .ro, .none, id⟩,
      ⟨MG_CL.REQ, .ro, .none, id⟩,
      ⟨MG_CL.AGE, .ro, .none, id⟩,
      ⟨MG_CL.SUS, .ro, .none, id⟩,
      ⟨MG_CL.APPL, .ro, .none, id⟩,
      ⟨MG_CL.RET_CORES, .ro, .none, id⟩]⟩ /- MG_CL -/,
    ⟨0x7204, 8, 192, .open, .word, [⟨MG_DLY.BASE, .ro, .none, id⟩,
      ⟨MG_DLY.PROJ, .ro, .none, id⟩,
      ⟨MG_DLY.MEDIANS, .ro, .none, id⟩]⟩ /- MG_DLY -/ ]

/-- Registers of recovery (Tables 11.6, 11.7, R304). -/
def regs11_0 : List RegDesc :=
  [
    ⟨0xb000, 0, 1, .open, .word, [⟨RC_CTRL.HOLD_MODE, .rw, .cfg, id⟩,
      ⟨RC_CTRL.ABORT_EN, .rw, .cfg, id⟩,
      ⟨RC_CTRL.AUTO_PWR, .rw, .cfg, id⟩,
      ⟨RC_CTRL.HB_EN, .rw, .none, id⟩,
      ⟨RC_CTRL.HOLDOVER_POINT, .rw, .cfg, id⟩]⟩ /- RC_CTRL -/,
    ⟨0xb004, 0, 1, .open, .word, [⟨RC_CFG.HB_MS, .rw, .cfg, max 1⟩,
      ⟨RC_CFG.NOTICE_MS, .rw, .cfg, max 1⟩,
      ⟨RC_CFG.BOOT_MS, .rw, .cfg, max 1⟩]⟩ /- RC_CFG -/,
    ⟨0xb008, 0, 1, .open, .word, [⟨RC_CFG2.ENG_MS, .rw, .cfg, max 1⟩,
      ⟨RC_CFG2.WR_MAX, .rw, .cfg, max 1⟩,
      ⟨RC_CFG2.DIE_MAX, .rw, .cfg, max 1⟩]⟩ /- RC_CFG2 -/,
    ⟨0xb00c, 0, 1, .open, .word, [⟨RC_STAT.LADDER, .ro, .none, id⟩,
      ⟨RC_STAT.HOLDOVER, .ro, .none, id⟩,
      ⟨RC_STAT.HB_ARMED, .ro, .none, id⟩,
      ⟨RC_STAT.TRAY_REQ, .ro, .none, id⟩,
      ⟨RC_STAT.PWR_HELD, .ro, .none, id⟩,
      ⟨RC_STAT.MISSES, .ro, .none, id⟩,
      ⟨RC_STAT.WR_COUNT, .ro, .none, id⟩,
      ⟨RC_STAT.DIE_RECENT, .ro, .none, id⟩,
      ⟨RC_STAT.STEP_PART, .ro, .none, id⟩,
      ⟨RC_STAT.HB_AGE, .ro, .none, id⟩]⟩ /- RC_STAT -/,
    ⟨0xb010, 0, 1, .open, .word, [⟨RC_EVT.PEER_ABORT, .w1c, .none, id⟩,
      ⟨RC_EVT.ABORT_SENT, .w1c, .none, id⟩,
      ⟨RC_EVT.TRAY_REQ, .w1c, .none, id⟩,
      ⟨RC_EVT.WARM_RESTART, .w1c, .none, id⟩,
      ⟨RC_EVT.STEP_DONE, .w1c, .none, id⟩,
      ⟨RC_EVT.STEP_START, .w1c, .none, id⟩,
      ⟨RC_EVT.LADDER_OPEN, .w1c, .none, id⟩,
      ⟨RC_EVT.HB_RESUMED, .w1c, .none, id⟩,
      ⟨RC_EVT.HB_MISS, .w1c, .none, id⟩,
      ⟨RC_EVT.ACCEL_STEP, .w1c, .none, id⟩]⟩ /- RC_EVT -/,
    ⟨0xb014, 0, 1, .open, .word, [⟨RC_EVT_EN.PEER_ABORT, .rw, .none, id⟩,
      ⟨RC_EVT_EN.ABORT_SENT, .rw, .none, id⟩,
      ⟨RC_EVT_EN.TRAY_REQ, .rw, .none, id⟩,
      ⟨RC_EVT_EN.WARM_RESTART, .rw, .none, id⟩,
      ⟨RC_EVT_EN.STEP_DONE, .rw, .none, id⟩,
      ⟨RC_EVT_EN.STEP_START, .rw, .none, id⟩,
      ⟨RC_EVT_EN.LADDER_OPEN, .rw, .none, id⟩,
      ⟨RC_EVT_EN.HB_RESUMED, .rw, .none, id⟩,
      ⟨RC_EVT_EN.HB_MISS, .rw, .none, id⟩,
      ⟨RC_EVT_EN.ACCEL_STEP, .rw, .none, id⟩]⟩ /- RC_EVT_EN -/,
    ⟨0xb018, 0, 1, .open, .word, [⟨RC_HB.COUNT, .wo, .none, id⟩]⟩ /- RC_HB -/,
    ⟨0xb01c, 0, 1, .open, .word, [⟨RC_HB_CNT.MISSES, .cnt, .none, id⟩,
      ⟨RC_HB_CNT.REPEAT, .cnt, .none, id⟩]⟩ /- RC_HB_CNT -/ ]

/-- Registers of recovery (Tables 11.6, 11.7, R304). -/
def regs11_1 : List RegDesc :=
  [
    ⟨0xb020, 0, 1, .open, .word, [⟨RC_WDOG.AGE, .ro, .none, id⟩]⟩ /- RC_WDOG -/,
    ⟨0xb024, 0, 1, .open, .word, [⟨RC_ERRCODE.CODE, .ro, .none, id⟩]⟩ /- RC_ERRCODE -/,
    ⟨0xb028, 0, 1, .open, .word, [⟨RC_ERRLAST.CODE, .ro, .none, id⟩]⟩ /- RC_ERRLAST -/,
    ⟨0xb02c, 0, 1, .open, .snap, [⟨RC_ERR_TICK.TICK, .snap, .none, id⟩]⟩ /- RC_ERR_TICK -/,
    ⟨0xb034, 0, 1, .sec, .word, [⟨RC_CLR.ERR, .w1s, .none, id⟩]⟩ /- RC_CLR -/,
    ⟨0xb038, 0, 1, .open, .word, [⟨RC_CNT.PART, .cnt, .none, id⟩,
      ⟨RC_CNT.DIE, .cnt, .none, id⟩,
      ⟨RC_CNT.POWER, .cnt, .none, id⟩,
      ⟨RC_CNT.WARM, .cnt, .none, id⟩]⟩ /- RC_CNT -/,
    ⟨0xb03c, 0, 1, .sec, .wpair, [⟨RC_PEER_DMASK.DMASK, .rw, .none, id⟩]⟩ /- RC_PEER_DMASK -/,
    ⟨0xb044, 0, 1, .open, .word, [⟨RC_PEER_ABORT.CODE, .ro, .none, id⟩]⟩ /- RC_PEER_ABORT -/ ]

/-- Registers of recovery (Tables 11.6, 11.7, R304). -/
def regs11_2 : List RegDesc :=
  [
    ⟨0xb048, 0, 1, .open, .word, [⟨RC_PEER_SRC.CARRIER, .ro, .none, id⟩,
      ⟨RC_PEER_SRC.DIE, .ro, .none, id⟩]⟩ /- RC_PEER_SRC -/ ]

/-- Registers of meter mirror (Tables 12.7, 12.8, R327). -/
def regs12_0 : List RegDesc :=
  [
    ⟨0xe000, 0, 1, .open, .word, [⟨MTR_STAT.VALID, .ro, .none, id⟩,
      ⟨MTR_STAT.FAULT, .ro, .none, id⟩,
      ⟨MTR_STAT.GAP, .ro, .none, id⟩,
      ⟨MTR_STAT.SEAL_OPEN, .ro, .none, id⟩,
      ⟨MTR_STAT.WR_OK, .ro, .none, id⟩,
      ⟨MTR_STAT.PFW, .ro, .none, id⟩,
      ⟨MTR_STAT.UNCAL, .ro, .none, id⟩,
      ⟨MTR_STAT.ROM_FAULT, .ro, .none, id⟩,
      ⟨MTR_STAT.MISSING, .ro, .none, id⟩]⟩ /- MTR_STAT -/,
    ⟨0xe004, 0, 1, .open, .word, [⟨MTR_EVT.UNCAL, .w1c, .none, id⟩,
      ⟨MTR_EVT.SHARE_UNATT, .w1c, .none, id⟩,
      ⟨MTR_EVT.SHARE_TOL, .w1c, .none, id⟩,
      ⟨MTR_EVT.WR_INHIBIT, .w1c, .none, id⟩,
      ⟨MTR_EVT.SEAL_OPEN, .w1c, .none, id⟩,
      ⟨MTR_EVT.GAP, .w1c, .none, id⟩,
      ⟨MTR_EVT.FAULT, .w1c, .none, id⟩,
      ⟨MTR_EVT.MISSING, .w1c, .none, id⟩]⟩ /- MTR_EVT -/,
    ⟨0xe008, 0, 1, .open, .word, [⟨MTR_EVT_EN.UNCAL, .rw, .none, id⟩,
      ⟨MTR_EVT_EN.SHARE_UNATT, .rw, .none, id⟩,
      ⟨MTR_EVT_EN.SHARE_TOL, .rw, .none, id⟩,
      ⟨MTR_EVT_EN.WR_INHIBIT, .rw, .none, id⟩,
      ⟨MTR_EVT_EN.SEAL_OPEN, .rw, .none, id⟩,
      ⟨MTR_EVT_EN.GAP, .rw, .none, id⟩,
      ⟨MTR_EVT_EN.FAULT, .rw, .none, id⟩,
      ⟨MTR_EVT_EN.MISSING, .rw, .none, id⟩]⟩ /- MTR_EVT_EN -/,
    ⟨0xe00c, 0, 1, .open, .word, [⟨MTR_PSEQ.PSEQ, .ro, .none, id⟩]⟩ /- MTR_PSEQ -/,
    ⟨0xe010, 0, 1, .open, .snap, [⟨MTR_E.E_IN, .snap, .none, id⟩]⟩ /- MTR_E -/,
    ⟨0xe018, 0, 1, .open, .word, [⟨MTR_IP.I_MEAN, .ro, .none, id⟩,
      ⟨MTR_IP.P_MEAN, .ro, .none, id⟩]⟩ /- MTR_IP -/,
    ⟨0xe01c, 0, 1, .open, .word, [⟨MTR_V.V_MEAN, .ro, .none, id⟩]⟩ /- MTR_V -/,
    ⟨0xe020, 0, 1, .open, .word, [⟨MTR_SEAL.BREAKS, .ro, .none, id⟩,
      ⟨MTR_SEAL.CAL_GEN, .ro, .none, id⟩]⟩ /- MTR_SEAL -/ ]

/-- Registers of meter mirror (Tables 12.7, 12.8, R327). -/
def regs12_1 : List RegDesc :=
  [
    ⟨0xe024, 0, 1, .open, .word, [⟨MTR_ROMCRC.ROMCRC, .ro, .none, id⟩]⟩ /- MTR_ROMCRC -/,
    ⟨0xe028, 0, 1, .open, .word, [⟨MTR_SERIAL.SERIAL, .ro, .none, id⟩]⟩ /- MTR_SERIAL -/,
    ⟨0xe02c, 0, 1, .open, .word, [⟨MTR_MISS.CRC, .cnt, .none, id⟩,
      ⟨MTR_MISS.MISSING, .cnt, .none, id⟩]⟩ /- MTR_MISS -/,
    ⟨0xe030, 0, 1, .open, .word, [⟨MTR_SHARE.RES, .ro, .none, id⟩,
      ⟨MTR_SHARE.CKSEQ, .ro, .none, id⟩]⟩ /- MTR_SHARE -/ ]

/-- Registers of commands and locks (Tables 13.7, 13.8, R358). -/
def regs13_0 : List RegDesc :=
  [
    ⟨0x110, 0, 1, .sec, .word, [⟨LOCK0.CFG, .w1s, .none, id⟩]⟩ /- LOCK0 -/,
    ⟨0x114, 0, 1, .sec, .word, [⟨LOCK1.DIAG, .w1s, .none, id⟩,
      ⟨LOCK1.FW, .w1s, .none, id⟩,
      ⟨LOCK1.TRANSPORT, .w1s, .none, id⟩,
      ⟨LOCK1.PERM, .w1s, .none, id⟩]⟩ /- LOCK1 -/,
    ⟨0xd000, 4, 256, .open, .word, [⟨PERM.FIXED, .ro, .none, id⟩,
      ⟨PERM.EFF, .rw, .perm, id⟩]⟩ /- PERM -/,
    ⟨0xd400, 0, 1, .open, .word, [⟨CMD_CNT.EXEC, .cnt, .none, id⟩,
      ⟨CMD_CNT.DUP, .cnt, .none, id⟩,
      ⟨CMD_CNT.STALE, .cnt, .none, id⟩]⟩ /- CMD_CNT -/,
    ⟨0xd404, 0, 1, .open, .word, [⟨CMD_REFUSED.BADOP, .cnt, .none, id⟩,
      ⟨CMD_REFUSED.NOPERM, .cnt, .none, id⟩,
      ⟨CMD_REFUSED.BADPARAM, .cnt, .none, id⟩,
      ⟨CMD_REFUSED.VERSION, .cnt, .none, id⟩]⟩ /- CMD_REFUSED -/,
    ⟨0xd408, 0, 1, .open, .word, [⟨CMD_LAST.OPCODE, .ro, .none, id⟩,
      ⟨CMD_LAST.STATUS, .ro, .none, id⟩,
      ⟨CMD_LAST.SEQ, .ro, .none, id⟩]⟩ /- CMD_LAST -/,
    ⟨0xd40c, 0, 1, .open, .word, [⟨CMD_LAST_SRC.CLASS, .ro, .none, id⟩,
      ⟨CMD_LAST_SRC.INSTANCE, .ro, .none, id⟩]⟩ /- CMD_LAST_SRC -/,
    ⟨0xd410, 0, 1, .open, .word, [⟨SVC_CNT.PKTS, .cnt, .none, id⟩,
      ⟨SVC_CNT.CRC, .cnt, .none, id⟩,
      ⟨SVC_CNT.OVERFLOW, .cnt, .none, id⟩]⟩ /- SVC_CNT -/ ]

/-- Registers of commands and locks (Tables 13.7, 13.8, R358). -/
def regs13_1 : List RegDesc :=
  [
    ⟨0xd414, 0, 1, .open, .word, [⟨SVC_STAT.STATUS, .ro, .none, id⟩]⟩ /- SVC_STAT -/ ]

/-- Registers of transport (Tables 14.8, 14.9, R377). -/
def regs14_0 : List RegDesc :=
  [
    ⟨0x118, 0, 1, .sec, .word, [⟨TRANSPORT.IN_FORCE, .ro, .none, id⟩,
      ⟨TRANSPORT.MODE, .rw, .transport, id⟩]⟩ /- TRANSPORT -/,
    ⟨0x1400, 0, 1, .open, .word, [⟨DB_STAT_NS.STAT, .w1c, .none, id⟩]⟩ /- DB_STAT_NS -/,
    ⟨0x1404, 0, 1, .open, .word, [⟨DB_MASK_NS.MASK, .rw, .none, id⟩]⟩ /- DB_MASK_NS -/,
    ⟨0x1408, 0, 1, .sec, .word, [⟨DB_STAT_S.STAT, .w1c, .none, id⟩]⟩ /- DB_STAT_S -/,
    ⟨0x140c, 0, 1, .sec, .word, [⟨DB_MASK_S.MASK, .rw, .none, id⟩]⟩ /- DB_MASK_S -/,
    ⟨0x1440, 0, 1, .open, .word, [⟨TEL_HDR.HDR, .ro, .none, id⟩]⟩ /- TEL_HDR -/,
    ⟨0x1444, 4, 14, .open, .word, [⟨TEL.WORD, .ro, .none, id⟩]⟩ /- TEL -/,
    ⟨0x1600, 16, 8, .open, .word, [⟨OMB_CFG.EN, .rw, .cfg, id⟩,
      ⟨OMB_CFG.PART, .rw, .cfg, id⟩,
      ⟨OMB_CFG.DOMAIN, .ro, .none, id⟩]⟩ /- OMB_CFG -/ ]

/-- Registers of transport (Tables 14.8, 14.9, R377). -/
def regs14_1 : List RegDesc :=
  [
    ⟨0x1604, 16, 8, .sec, .wpair, [⟨OMB_ADDR.ADDR, .rw, .cfg, id⟩]⟩ /- OMB_ADDR -/,
    ⟨0x160c, 16, 8, .open, .word, [⟨OMB_STAT.AWAIT, .ro, .none, id⟩,
      ⟨OMB_STAT.QUEUED, .ro, .none, id⟩,
      ⟨OMB_STAT.DROP, .cnt, .none, id⟩,
      ⟨OMB_STAT.DOMOFF, .cnt, .none, id⟩]⟩ /- OMB_STAT -/,
    ⟨0x1800, 64, 15, .sec, .word, [⟨RING_CFG.EN, .rw, .none, id⟩,
      ⟨RING_CFG.SEC, .rw, .none, id⟩,
      ⟨RING_CFG.TELEM, .rw, .none, id⟩,
      ⟨RING_CFG.DB, .rw, .none, id⟩,
      ⟨RING_CFG.LOG2SZ, .rw, .none, fun v => max 3 (min 12 v)⟩]⟩ /- RING_CFG -/,
    ⟨0x1804, 64, 15, .sec, .wpair, [⟨RING_SQ_BASE.ADDR, .rw, .none, id⟩]⟩ /- RING_SQ_BASE -/,
    ⟨0x180c, 64, 15, .sec, .wpair, [⟨RING_CQ_BASE.ADDR, .rw, .none, id⟩]⟩ /- RING_CQ_BASE -/,
    ⟨0x1814, 64, 15, .ring, .word, [⟨RING_SQ.TAIL, .rw, .none, id⟩,
      ⟨RING_SQ.HEAD, .ro, .none, id⟩]⟩ /- RING_SQ -/,
    ⟨0x1818, 64, 15, .ring, .word, [⟨RING_CQ.HEAD, .rw, .none, id⟩,
      ⟨RING_CQ.TAIL, .ro, .none, id⟩]⟩ /- RING_CQ -/,
    ⟨0x181c, 64, 15, .ring, .word, [⟨RING_STAT.TAIL_ERR, .w1c, .none, id⟩,
      ⟨RING_STAT.HEAD_ERR, .w1c, .none, id⟩,
      ⟨RING_STAT.CFG_ERR, .w1c, .none, id⟩,
      ⟨RING_STAT.RD_ERR, .w1c, .none, id⟩,
      ⟨RING_STAT.WR_ERR, .w1c, .none, id⟩,
      ⟨RING_STAT.OWED, .ro, .none, id⟩]⟩ /- RING_STAT -/ ]

/-- Registers of transport (Tables 14.8, 14.9, R377). -/
def regs14_2 : List RegDesc :=
  [
    ⟨0x1820, 64, 15, .sec, .word, [⟨RING_CNT.CRC, .cnt, .none, id⟩,
      ⟨RING_CNT.LOST, .cnt, .none, id⟩,
      ⟨RING_CNT.TEL_DROP, .cnt, .none, id⟩]⟩ /- RING_CNT -/,
    ⟨0x103c, 64, 16, .mailbox, .word, [⟨MB_CTL.GO, .go, .none, id⟩,
      ⟨MB_CTL.FETCH, .go, .none, id⟩,
      ⟨MB_CTL.RDY, .ro, .none, id⟩,
      ⟨MB_CTL.BUSY, .w1c, .none, id⟩,
      ⟨MB_CTL.WIGN, .w1c, .none, id⟩,
      ⟨MB_CTL.ACTIVE, .ro, .none, id⟩,
      ⟨MB_CTL.RQ, .ro, .none, id⟩,
      ⟨MB_CTL.OWED, .ro, .none, id⟩]⟩ /- MB_CTL -/,
    ⟨0x1000, 4, 256, .mailbox, .word, [⟨MB_D.DATA, .rw, .none, id⟩]⟩ /- MB_D -/ ]

/-- Registers of global and windows (Tables 15.4–15.8, R393, R397). -/
def regs15_0 : List RegDesc :=
  [
    ⟨0x10000, 4096, 32, .window, .word, [⟨PW_ID.CLASS, .ro, .none, id⟩,
      ⟨PW_ID.IDLE_GATE, .ro, .none, id⟩,
      ⟨PW_ID.PART, .ro, .none, id⟩,
      ⟨PW_ID.FLOOR, .ro, .none, id⟩,
      ⟨PW_ID.ON, .ro, .none, id⟩]⟩ /- PW_ID -/,
    ⟨0x10004, 4096, 32, .window, .word, [⟨PW_CTRL.SNAP, .go, .none, id⟩]⟩ /- PW_CTRL -/,
    ⟨0x10008, 4096, 32, .window, .word, [⟨PW_STAT.PEND, .ro, .none, id⟩,
      ⟨PW_STAT.BREACH, .ro, .none, id⟩,
      ⟨PW_STAT.CAUSE, .ro, .none, id⟩]⟩ /- PW_STAT -/,
    ⟨0x10010, 4096, 32, .window, .snap, [⟨PW_SNAP_TICK.TICK, .snap, .none, id⟩]⟩ /- PW_SNAP_TICK -/,
    ⟨0x10018, 4096, 32, .window, .snap, [⟨PW_ENERGY.ENERGY, .snap, .none, id⟩]⟩ /- PW_ENERGY -/,
    ⟨0x10020, 4096, 32, .window, .snap, [⟨PW_OTHER.OTHER, .snap, .none, id⟩]⟩ /- PW_OTHER -/,
    ⟨0x10028, 4096, 32, .window, .word, [⟨PW_BREACH.TICKS, .snap, .none, id⟩]⟩ /- PW_BREACH -/,
    ⟨0x10040, 4096, 32, .window, .word, [⟨PW_CLMASK0.MASK, .ro, .none, id⟩]⟩ /- PW_CLMASK0 -/ ]

/-- Registers of global and windows (Tables 15.4–15.8, R393, R397). -/
def regs15_1 : List RegDesc :=
  [
    ⟨0x10044, 4096, 32, .window, .word, [⟨PW_CLMASK1.MASK, .ro, .none, id⟩]⟩ /- PW_CLMASK1 -/,
    ⟨0x10048, 4096, 32, .window, .word, [⟨PW_CLMASK2.MASK, .ro, .none, id⟩]⟩ /- PW_CLMASK2 -/,
    ⟨0x1004c, 4096, 32, .window, .word, [⟨PW_CLMASK3.MASK, .ro, .none, id⟩]⟩ /- PW_CLMASK3 -/,
    ⟨0x10050, 4096, 32, .window, .word, [⟨PW_CLMASK4.MASK, .ro, .none, id⟩]⟩ /- PW_CLMASK4 -/,
    ⟨0x10054, 4096, 32, .window, .word, [⟨PW_CLMASK5.MASK, .ro, .none, id⟩]⟩ /- PW_CLMASK5 -/,
    ⟨0x0, 0, 1, .open, .word, [⟨IDENT.ID, .ro, .none, id⟩]⟩ /- IDENT -/,
    ⟨0x4, 0, 1, .open, .word, [⟨VERSION.MAJOR, .ro, .none, id⟩,
      ⟨VERSION.MINOR, .ro, .none, id⟩,
      ⟨VERSION.PATCH, .ro, .none, id⟩]⟩ /- VERSION -/,
    ⟨0x8, 0, 1, .open, .word, [⟨CAPS.CLUSTERS, .ro, .none, id⟩,
      ⟨CAPS.DOMAINS, .ro, .none, id⟩,
      ⟨CAPS.GLEUB, .ro, .none, id⟩,
      ⟨CAPS.RAILS, .ro, .none, id⟩,
      ⟨CAPS.THERMAL, .ro, .none, id⟩]⟩ /- CAPS -/ ]

/-- Registers of global and windows (Tables 15.4–15.8, R393, R397). -/
def regs15_2 : List RegDesc :=
  [
    ⟨0xc, 0, 1, .open, .word, [⟨CAPS2.STACKS, .ro, .none, id⟩,
      ⟨CAPS2.LINKS, .ro, .none, id⟩,
      ⟨CAPS2.AUX, .ro, .none, id⟩]⟩ /- CAPS2 -/,
    ⟨0x100, 0, 1, .open, .word, [⟨GSTAT.READY, .ro, .none, id⟩,
      ⟨GSTAT.HOLDOVER, .ro, .none, id⟩,
      ⟨GSTAT.GO_BUSY, .w1c, .none, id⟩,
      ⟨GSTAT.LOCK_IGN, .w1c, .none, id⟩,
      ⟨GSTAT.SNAP_STALE, .w1c, .none, id⟩,
      ⟨GSTAT.ACCESS_ERR, .w1c, .none, id⟩]⟩ /- GSTAT -/,
    ⟨0x104, 0, 1, .open, .word, [⟨ACC_ERR_ADDR.ADDR, .ro, .none, id⟩]⟩ /- ACC_ERR_ADDR -/,
    ⟨0x108, 0, 1, .open, .word, [⟨ACC_ERR_INFO.COUNT, .cnt, .none, id⟩,
      ⟨ACC_ERR_INFO.SVC, .ro, .none, id⟩,
      ⟨ACC_ERR_INFO.ID, .ro, .none, id⟩,
      ⟨ACC_ERR_INFO.NS, .ro, .none, id⟩,
      ⟨ACC_ERR_INFO.WRITE, .ro, .none, id⟩,
      ⟨ACC_ERR_INFO.CAUSE, .ro, .none, id⟩]⟩ /- ACC_ERR_INFO -/,
    ⟨0x120, 0, 1, .sec, .word, [⟨PWIN_EN.EN, .rw, .none, id⟩]⟩ /- PWIN_EN -/,
    ⟨0x124, 0, 1, .sec, .word, [⟨PWIN_NS.NS, .rw, .none, id⟩]⟩ /- PWIN_NS -/ ]

/-- Registers of firmware and log (Tables 16.6–16.9, R414). -/
def regs16_0 : List RegDesc :=
  [
    ⟨0xc000, 0, 1, .sec, .word, [⟨FW_CTRL.SW_MAX, .rw, .cfg, id⟩]⟩ /- FW_CTRL -/,
    ⟨0xc004, 0, 1, .sec, .word, [⟨FW_STAT.ACTIVE, .ro, .none, id⟩,
      ⟨FW_STAT.TENTATIVE, .ro, .none, id⟩,
      ⟨FW_STAT.SW_PEND, .ro, .none, id⟩,
      ⟨FW_STAT.KEY_SET, .ro, .none, id⟩,
      ⟨FW_STAT.NO_FW, .ro, .none, id⟩,
      ⟨FW_STAT.GEN, .ro, .none, id⟩]⟩ /- FW_STAT -/,
    ⟨0xc008, 0, 1, .sec, .word, [⟨FW_EVT.HSNAP, .w1c, .none, id⟩,
      ⟨FW_EVT.TRD_LOST, .w1c, .none, id⟩,
      ⟨FW_EVT.TRD_BLOCK, .w1c, .none, id⟩,
      ⟨FW_EVT.LOG_WM, .w1c, .none, id⟩,
      ⟨FW_EVT.LOG_DROP, .w1c, .none, id⟩,
      ⟨FW_EVT.LOAD_REJ, .w1c, .none, id⟩,
      ⟨FW_EVT.SW_FAIL, .w1c, .none, id⟩,
      ⟨FW_EVT.SW_DONE, .w1c, .none, id⟩]⟩ /- FW_EVT -/,
    ⟨0xc00c, 0, 1, .sec, .word, [⟨FW_EVT_EN.HSNAP, .rw, .none, id⟩,
      ⟨FW_EVT_EN.TRD_LOST, .rw, .none, id⟩,
      ⟨FW_EVT_EN.TRD_BLOCK, .rw, .none, id⟩,
      ⟨FW_EVT_EN.LOG_WM, .rw, .none, id⟩,
      ⟨FW_EVT_EN.LOG_DROP, .rw, .none, id⟩,
      ⟨FW_EVT_EN.LOAD_REJ, .rw, .none, id⟩,
      ⟨FW_EVT_EN.SW_FAIL, .rw, .none, id⟩,
      ⟨FW_EVT_EN.SW_DONE, .rw, .none, id⟩]⟩ /- FW_EVT_EN -/,
    ⟨0xc010, 0, 1, .sec, .word, [⟨FW_SLOT_A.STATE, .ro, .none, id⟩,
      ⟨FW_SLOT_A.GEN, .ro, .none, id⟩]⟩ /- FW_SLOT_A -/,
    ⟨0xc014, 0, 1, .sec, .word, [⟨FW_SLOT_B.STATE, .ro, .none, id⟩,
      ⟨FW_SLOT_B.GEN, .ro, .none, id⟩]⟩ /- FW_SLOT_B -/,
    ⟨0xc020, 0, 1, .sec, .word, [⟨LOG_CTRL.STOP, .rw, .none, id⟩,
      ⟨LOG_CTRL.MSG_REC, .rw, .none, id⟩,
      ⟨LOG_CTRL.MIN_SEV, .rw, .none, id⟩,
      ⟨LOG_CTRL.FLUSH, .go, .none, id⟩,
      ⟨LOG_CTRL.PAGE, .rw, .none, id⟩,
      ⟨LOG_CTRL.WM, .rw, .none, fun v => max 1 (min 4096 v)⟩]⟩ /- LOG_CTRL -/,
    ⟨0xc024, 0, 1, .sec, .word, [⟨LOG_STAT.NEXT, .ro, .none, id⟩,
      ⟨LOG_STAT.STAGED, .ro, .none, id⟩]⟩ /- LOG_STAT -/ ]

/-- Registers of firmware and log (Tables 16.6–16.9, R414). -/
def regs16_1 : List RegDesc :=
  [
    ⟨0xc028, 0, 1, .sec, .word, [⟨LOG_RD.RD, .rw, .none, id⟩]⟩ /- LOG_RD -/,
    ⟨0xc02c, 0, 1, .sec, .word, [⟨LOG_CNT.DROP, .cnt, .none, id⟩]⟩ /- LOG_CNT -/,
    ⟨0xc030, 0, 1, .sec, .word, [⟨TP_EN.EN, .rw, .none, id⟩]⟩ /- TP_EN -/,
    ⟨0xc040, 0, 1, .sec, .word, [⟨TRD_CTRL.EN, .rw, .none, id⟩,
      ⟨TRD_CTRL.LOG2N, .rw, .none, min 10⟩,
      ⟨TRD_CTRL.STREAM, .rw, .none, id⟩,
      ⟨TRD_CTRL.CH, .rw, .none, id⟩]⟩ /- TRD_CTRL -/,
    ⟨0xc044, 0, 1, .sec, .wpair, [⟨TRD_BASE.ADDR, .rw, .none, id⟩]⟩ /- TRD_BASE -/,
    ⟨0xc04c, 0, 1, .sec, .word, [⟨TRD_STAT.BLOCK, .ro, .none, id⟩,
      ⟨TRD_STAT.LOST, .cnt, .none, id⟩]⟩ /- TRD_STAT -/,
    ⟨0xc100, 0, 1, .sec, .word, [⟨HS_CTRL.TAKE, .go, .none, id⟩,
      ⟨HS_CTRL.REARM, .go, .none, id⟩,
      ⟨HS_CTRL.FROZEN, .ro, .none, id⟩,
      ⟨HS_CTRL.MISSED, .ro, .none, id⟩]⟩ /- HS_CTRL -/,
    ⟨0xc400, 8, 32, .sec, .word, [⟨PC_THR.TICKS, .cnt, .none, id⟩]⟩ /- PC_THR -/ ]

/-- Registers of firmware and log (Tables 16.6–16.9, R414). -/
def regs16_2 : List RegDesc :=
  [
    ⟨0xc404, 8, 32, .sec, .word, [⟨PC_FTH.CYC256, .cnt, .none, id⟩]⟩ /- PC_FTH -/,
    ⟨0xc104, 4, 14, .sec, .word, [⟨HS_W.WORD, .ro, .none, id⟩]⟩ /- HS_W -/ ]

/-- The whole register map (R396). -/
def regMap : List RegDesc :=
  regs01_0 ++
  regs01_1 ++
  regs02_0 ++
  regs02_1 ++
  regs03_0 ++
  regs03_1 ++
  regs03_2 ++
  regs04_0 ++
  regs04_1 ++
  regs05_0 ++
  regs05_1 ++
  regs05_2 ++
  regs06_0 ++
  regs06_1 ++
  regs06_2 ++
  regs07_0 ++
  regs07_1 ++
  regs08_0 ++
  regs08_1 ++
  regs08_2 ++
  regs09_0 ++
  regs09_1 ++
  regs09_2 ++
  regs09_3 ++
  regs10_0 ++
  regs10_1 ++
  regs11_0 ++
  regs11_1 ++
  regs11_2 ++
  regs12_0 ++
  regs12_1 ++
  regs13_0 ++
  regs13_1 ++
  regs14_0 ++
  regs14_1 ++
  regs14_2 ++
  regs15_0 ++
  regs15_1 ++
  regs15_2 ++
  regs16_0 ++
  regs16_1 ++
  regs16_2

end Sys2Proof.Machine
end

