-- ==== Sys2Proof/Machine/Blocks.lean ====
section
/-! DEFINITION. What the governor holds beside its register fields: queues, buffers, sequencers, timers and shadow
copies, block by block.  A record of which there is one for each cluster, domain, link, channel or partition stands in a
`Table` whose unlisted instances hold the record's initial value. -/

namespace Sys2Proof.Machine

/-! ### Records and what the ports drive -/

/-- A log record before it is packed into four words (Table 16.3). -/
structure LogRec where
  lseq : Nat := 0
  hw : Bool := false
  sev : Nat := 0
  block : Nat := 0
  event : Nat := 0
  tick : Nat := 0
  arg0 : Nat := 0
  arg1 : Nat := 0
  deriving DecidableEq, Repr

/-- What the governor drove at its ports during the last command. -/
inductive Emission where
  /-- a downstream Gleub frame on a link (R105) -/
  | frame (link w : Nat)
  /-- a message on one pace lane (R239); a forwarded copy that failed its CRC, ended with K30.7 (R240) -/
  | pace (lane : Nat) (ws : List Nat)
  | paceAborted (lane : Nat) (ws : List Nat)
  /-- a message on the fabric sideband with its TDEST (R242) -/
  | sideband (dest : Nat) (ws : List Nat)
  /-- a write of the host master port: address, AxPROT[1] and 32-bit words (R361, R374, R411) -/
  | hostWrite (addr : Nat) (ns : Bool) (ws : List Nat)
  /-- a read of the host master port: address, AxPROT[1], bytes (R361, R374, R375) -/
  | hostRead (addr : Nat) (ns : Bool) (n : Nat)
  /-- a one-byte write of the host master port (R374) -/
  | hostByte (addr : Nat) (b : Nat)
  /-- the response of the configuration port: data and OKAY -/
  | busRead (data : Nat) (okay : Bool)
  | busWrite (okay : Bool)
  /-- bytes sent on the service port and on the meter port (R322, R353) -/
  | service (bs : List Nat)
  | meter (bs : List Nat)
  /-- one transaction of the meter with its journal device, chip select low to high (R314) -/
  | mspi (bs : List Nat)
  /-- a publication on the meter's publication lane (R312) -/
  | publish (ws : List Nat)
  /-- an agent told to quiesce or a stack told to enter or leave self-refresh (R90, R94) -/
  | quiesce (domain : Nat)
  | selfRefresh (stack : Nat) (on : Bool)
  /-- ENTER_IDLE (on) or wake (off) of the lanes of a link domain (R94 to R96) -/
  | laneIdle (domain : Nat) (on : Bool)
  /-- the brake divider driven to every cluster (R55, R58) -/
  | brake (divider : Nat)
  /-- 16 cycles of the source clock divided by 8 for the gated cores in a mask of a cluster (R63) -/
  | resetClock (cluster mask : Nat)
  /-- READY announced (R300, R425) -/
  | ready
  /-- a path-delay launch on a sentinel (R268) -/
  | delayLaunch (cluster monitor : Nat)
  /-- the trim source, injection source or converter calibration driven for a unit (R47, R67, R198) -/
  | calibrate (unit : Nat)
  /-- every armed sentinel injects on a sense point (R67) -/
  | inject (point : Nat)
  deriving DecidableEq, Repr

/-! ### Cadence -/

/-- What a scheduled event does when it fires (Table 1.1). -/
inductive EvAct where
  /-- class 1: a stamped or hub-started request for domains, on or off; `pkt` is the index of the outstanding command -/
  | domains (first count : Nat) (on : Bool) (cmd : Option Nat)
  /-- class 2: the application of a peloton point (R258) -/
  | point (car p mode : Nat)
  /-- class 3 (R324) -/
  | share
  /-- class 4: the pre-stage of a hint (R231) -/
  | prestage (entry : Nat)
  /-- class 5: model image (R130), bank switch (R176), region switch (R175) -/
  | model
  | bank
  | region (set reg : Nat)
  /-- class 6 (R402) -/
  | switch
  /-- class 7 (R190) -/
  | dump (src node : Nat)
  deriving DecidableEq, Repr

/-- The class of an event (Table 1.1). -/
def EvAct.cls : EvAct → Nat
  | .domains _ _ _ _ => 1
  | .point _ _ _ => 2
  | .share => 3
  | .prestage _ => 4
  | .model => 5
  | .bank => 5
  | .region _ _ => 5
  | .switch => 6
  | .dump _ _ => 7

/-- Classes 1 to 3 are sync-critical (Table 1.1). -/
def syncCritical (cls : Nat) : Bool :=
  decide (cls ≤ 3)

/-- One entry of the event queue, in the order in which entries were scheduled (R26 to R29). -/
structure QEvent where
  target : Nat
  /-- the tick at which it falls due: the target, the next tick for a LATE event, one more after a deferral -/
  fire : Nat
  act : EvAct
  late : Bool := false
  deferred : Bool := false
  due : Bool := false
  deriving DecidableEq, Repr

/-- One domestique task beside its registers: releases not yet taken, slices left of the run, a counter of the task's own,
the tick of the last periodic release, whether the run has been logged OVERDUE (R34 to R38). -/
structure Task where
  due : Nat := 0
  left : Nat := 0
  pos : Nat := 0
  released : Option Nat := none
  overdue : Bool := false
  deriving DecidableEq, Repr

/-- The cadence block beside its registers.  Times are hub cycles × 256 where P enters them, hub cycles elsewhere. -/
structure Cad where
  /-- teeth since POR, and the times of the first and the last of them (R16, R20) -/
  teeth : Nat := 0
  firstTooth : Nat := 0
  lastTooth : Nat := 0
  tooth64 : Nat := 0
  /-- the expected time of the last tick and the time of its boundary, × 256 (R17, R19, R22) -/
  exp : Nat := 0
  boundary : Nat := 0
  /-- teeth of the relock run and the last of them (R22) -/
  relRun : Nat := 0
  relLast : Nat := 0
  /-- SYNTH_RUN reached 16 and CADENCE_LOST is to be raised -/
  lostDue : Bool := false
  queue : List QEvent := []
  /-- ticks of the latest overruns of each program, newest first (R33) -/
  engOvr : List Nat := []
  fwOvr : List Nat := []
  hubFault : Bool := false
  /-- cycles used in the tick that runs: engine (to END) and firmware (to the publish point), and whether each ended -/
  engCyc : Nat := 0
  fwCyc : Nat := 0
  fwDone : Bool := false
  /-- the handler met the publish gate and abandoned this tick (R31) -/
  abandoned : Bool := false
  /-- hub cycles that domestique slices have used of this tick's slack (R37) -/
  slackUsed : Nat := 0
  tasks : Table Task := []
  /-- events of classes 2 and 4 to 7 dropped in holdover and not yet logged: class and target (R301) -/
  dropped : List (Nat × Nat) := []
  deriving DecidableEq, Repr

/-! ### Commands, ports and transport -/

/-- A command packet: header and parameter words (Table 13.1). -/
structure Packet where
  hdr : Nat := 0
  params : List Nat := []
  deriving DecidableEq, Repr

/-- A reply: header and reply words (Table 13.2). -/
structure Reply where
  hdr : Nat := 0
  words : List Nat := []
  deriving DecidableEq, Repr

/-- The sequence state and cache of one port instance (R339, R340); `reply` is the reply of the cached packet once
formed, whether or not R331 sends it. -/
structure PortState where
  seen : Bool := false
  last : Nat := 0
  cache : Packet := {}
  reply : Option Reply := none
  deriving DecidableEq, Repr

/-- What a command that replies at completion waits for (R346, R349, R401). -/
inductive Waiting where
  | domains (first count : Nat) (on : Bool) (scheduled : Bool)
  | restEnter
  | restExit
  | fwLoad (src : Nat) (addr len : Nat)
  | imgLoad (kind set src : Nat) (addr len : Nat)
  deriving DecidableEq, Repr

/-- A command outstanding on a port instance: its identity in this list, its packet and what it waits for. -/
structure Outstanding where
  id : Nat
  inst : Nat
  pkt : Packet
  wait : Waiting
  /-- the first domain to fail and the status it gave (R346) -/
  failed : Option (Nat × Nat) := none
  /-- the domains that have reached the requested state -/
  reached : List Nat := []
  deriving DecidableEq, Repr

/-- A record waiting to be written to a completion ring (R365). -/
structure CEntry where
  reply : Reply
  tel : Bool := false
  deriving DecidableEq, Repr

/-- Commands: packets that have arrived, in arrival order, and commands outstanding. -/
structure Cmd where
  ports : Table PortState := []
  queue : List (Nat × Packet) := []
  out : List Outstanding := []
  nextId : Nat := 0
  /-- the service port's reply queue of 4, the replies formed while it was full, and LAST_REJ (R342, R353, R354) -/
  svcReplies : List Reply := []
  svcHeld : List Reply := []
  lastRej : Bool := false
  deriving DecidableEq, Repr

/-- An outbound message (Table 14.5). -/
structure OmbMsg where
  mtype : Nat := 0
  oseq : Nat := 0
  words : List Nat := []
  deriving DecidableEq, Repr

/-- One outbound mailbox beside its registers (R373 to R375). -/
structure Omb where
  queue : List OmbMsg := []
  oseq : Nat := 0
  /-- tick of the last attempt to post, and of the last poll for an acknowledgement -/
  tried : Option Nat := none
  polled : Nat := 0
  /-- the last read of word 15 found FULL -/
  full : Bool := false
  deriving DecidableEq, Repr

/-- The shadow of a SNAP pair: its _HI half and the armed ID (R390). -/
structure Shadow where
  hi : Nat := 0
  armed : Option Nat := none
  deriving DecidableEq, Repr

/-- Transport and register access. -/
structure Bus where
  shadows : Table Shadow := []
  /-- staged _LO halves of writable pairs (R391) -/
  staged : Table (Option Nat) := []
  mbReplies : Table (List Reply) := []
  ringOut : Table (List CEntry) := []
  /-- telemetry records dropped on a pair since the last one delivered to it (Table 14.2 word 14) -/
  telDropped : Table Nat := []
  telSeq : Nat := 0
  /-- a telemetry record of task 5 waits for the next tick boundary (R367) -/
  telDue : Bool := false
  omb : Table Omb := []
  deriving DecidableEq, Repr

/-! ### Spoke level -/

/-- What a cell latched at the last tick boundary for its frame (Table 2.5): domain state, flags, word 11, payload of
word 12. -/
structure CellLatch where
  st : Nat := 0
  flags : Nat := 0
  w11 : Nat := 0
  w12 : Nat := 0
  deriving DecidableEq, Repr

/-- A path-delay measurement that runs (R65, R66): source cycle and tick of its start, whether something overlapped it,
the smallest capture of each path and the taps in one source period. -/
structure CellMeas where
  start : Nat
  since : Nat
  bad : Bool := false
  taps : List Nat := [255, 255, 255, 255]
  per : Nat := 0
  deriving DecidableEq, Repr

/-- One sentinel cell and what the hub keeps of its frames (R42 to R72). -/
structure Sent where
  /-- comparator trim codes, 0–63, mid-range at POR (R47) -/
  trims : List Nat := [32, 32, 32, 32]
  /-- the trip signal, the step in force (0 unshaped, code + 1 otherwise), in the return of R52, the source cycle at which
  the hold began to count or the return step began -/
  trip : Bool := false
  step : Nat := 0
  returning : Bool := false
  mark : Nat := 0
  /-- source cycle from which the step in force is still to be counted, feathered source cycles and triggers of this tick,
  and the deepest step of this tick (R53) -/
  fthFrom : Nat := 0
  fthCyc : Nat := 0
  trigs : Nat := 0
  deep : Nat := 0
  /-- the cell's own copies of VR_ALERT_N where they differ from the other cells', and the divider code it reached on its
  own vote (R55) -/
  own : Option Copies := none
  brk : Nat := 0
  /-- the injection that runs (sense point, source cycle), whether its comparator has tripped, the results not yet latched:
  performed in bits 3–0, failed in bits 7–4 (R67) -/
  inj : Option (Nat × Nat) := none
  injTrip : Bool := false
  injRes : Nat := 0
  /-- the comparator on the trim source, and since which source cycle (R47) -/
  trimAt : Option (Nat × Nat) := none
  /-- the measurement that runs, and result pairs that wait for a frame (R65) -/
  meas : Option CellMeas := none
  results : List Nat := []
  /-- gated cores whose reset is being clocked, and since which source cycle (R63) -/
  rstMask : Nat := 0
  rstFrom : Nat := 0
  lat : CellLatch := {}
  /-- running activity counts of the last good frame, the deltas of the last tick, and whether a good frame came -/
  act : List Nat := []
  delta : List Nat := []
  good : Bool := false
  seenFrame : Bool := false
  /-- stand-in quanta applied since the last good frame (R127) -/
  stand : List Nat := []
  miss : Nat := 0
  unknown : Bool := false
  /-- consecutive frames in which copy A, B or C disagreed (R60) -/
  disA : Nat := 0
  disB : Nat := 0
  disC : Nat := 0
  /-- consecutive passing injections of each sense point (R68) -/
  pass : List Nat := [0, 0, 0, 0]
  deriving DecidableEq, Repr

structure Spk where
  sents : Table Sent := []
  /-- the copies of VR_ALERT_N at the cells (R54) -/
  copies : Copies := ⟨false, false, false⟩
  /-- source cycles each cell had counted when last told (R435), and TICK[7:0] of the last latching boundary (R70) -/
  src : List Nat := []
  latTick : Nat := 0
  /-- the voted VR_ALERT_N, quiet ticks since it deasserted, the tick of the last release step -/
  voted : Bool := false
  quiet : Nat := 0
  relAt : Nat := 0
  /-- ticks at which FEATHER and FEATHER_SKIP were last set (R53) -/
  fthAt : Option Nat := none
  skipAt : Option Nat := none
  /-- the brake entry not yet answered by the hub (R122), and its tick -/
  respond : Bool := false
  deriving DecidableEq, Repr

/-! ### Rim level -/

/-- One rail group beside its registers (R77 to R85). -/
structure Grp where
  /-- the last 10 samples, 10 and 100 block sums, newest last, and their sums -/
  ring : List Nat := []
  blk : List Nat := []
  blkL : List Nat := []
  s : Nat := 0
  m : Nat := 0
  l : Nat := 0
  /-- ticks to the next rise of the ceiling, and a rise that is due (R85) -/
  riseWait : Nat := 0
  riseDue : Bool := false
  /-- consecutive codes at the low rail, at the high rail and in range, and the validity of the input (R80) -/
  low : Nat := 0
  high : Nat := 0
  good : Nat := 0
  valid : Bool := false
  /-- the activity current in force is valid (R78, R80) -/
  actValid : Bool := false
  deriving DecidableEq, Repr

/-- One switched domain beside its registers (R86 to R91, R234, R235). -/
structure Dom where
  /-- sub-tick of entry to the state; clock gated and isolation applied; ramp slot held -/
  since : Nat := 0
  gated : Bool := true
  slot : Bool := false
  /-- a ramp of a Rest wave: no slot is used -/
  wave : Bool := false
  /-- switch stages closed when RAMP_DOWN began (R417) -/
  stages : Nat := 4
  /-- the request: tick it was made, tick of the first attempt of this try, tries ended, end of the backoff -/
  reqTick : Nat := 0
  /-- the tick of an on request made while the domain powers down, which orders it once it is OFF (R88) -/
  nextReq : Nat := 0
  /-- the boundary that takes the request (R87) -/
  bound : Nat := 0
  first : Nat := 0
  tries : Nat := 0
  backoff : Option Nat := none
  /-- budget token held and its price; a request of a recovery step -/
  token : Option Nat := none
  recovery : Bool := false
  /-- requested off by idle gating (R218) -/
  idleOff : Bool := false
  deriving DecidableEq, Repr

/-- A stack controller's self-refresh handshake (R92, R94, R417): STK_SR_REQ, whether it was answered, the sub-tick by which
an answer is due (none once judged), and whether a coolant stop asked. -/
structure Stk where
  asked : Bool := false
  confirmed : Bool := false
  deadline : Option Nat := none
  cool : Bool := false
  deriving DecidableEq, Repr

structure Rim where
  /-- sub-ticks begun in this tick, and since POR (R436) -/
  sub : Nat := 0
  now : Nat := 0
  codes : List Nat := []
  groups : Table Grp := []
  doms : Table Dom := []
  /-- domains forced off in the current sub-tick, RAMP_DOWN in the next -/
  forcing : List Nat := []
  /-- consecutive low samples of COOL_FAULT_N, a low sample in this tick -/
  lowRun : Nat := 0
  lowSeen : Bool := false
  /-- FLOW_GOOD_1S has been set once (R429) -/
  flowSeen : Bool := false
  hbm : Table Stk := []
  /-- link domains whose LNK_IDLE_REQ is asserted (R417) -/
  laneIdle : List Nat := []
  /-- a coolant stop in a Rest state whose actions are not complete (R98) -/
  coolRest : Bool := false
  /-- the Rest request held: none, enter (some true) or exit (some false) -/
  restHeld : Option Bool := none
  /-- tick of the entry or wake, the next wave, ticks by which deferred waves have moved the wake -/
  restAt : Nat := 0
  nextWave : Nat := 0
  shift : Nat := 0
  waveDeferred : Bool := false
  /-- the wake set in the order of R96 when wake began -/
  wakeList : List Nat := []
  deriving DecidableEq, Repr

/-! ### Gleub link -/

/-- A frame that awaits its acknowledgement: the frame and the attempts made (R110). -/
structure Await where
  frame : Nat
  tries : Nat
  deriving DecidableEq, Repr

/-- One regulator link beside its registers. -/
structure Lnk where
  setv : Option Await := none
  /-- the last SETV was acknowledged, and its DONE has arrived or its deadline has passed -/
  acked : Bool := false
  done : Bool := true
  late : Bool := false
  lateRun : Nat := 0
  /-- spread-spectrum frames still to be acknowledged, the first of them sent; the profile waits for UP -/
  ssc : List Nat := []
  sscTries : Nat := 0
  sscDue : Bool := false
  sscMember : Bool := false
  /-- QUERY items that await a reply; training stage: items answered -/
  query : List Nat := []
  ident : Nat := 0
  training : Bool := false
  /-- consecutive failed slots, consecutive good slots (R114) -/
  bad : Nat := 0
  good : Nat := 0
  faultAt : Nat := 0
  /-- SHUT reported and not yet reported clear (R124) -/
  shut : Bool := false
  /-- a current value has come since the link was last in FAULT; the last one was too old (R115, R117) -/
  heardI : Bool := false
  stale : Bool := false
  /-- tick boundaries since the last current value (R117) -/
  iAge : Nat := 0
  /-- its part of the transition has ended in a NAK (R111) -/
  ended : Bool := false
  /-- the temperature of its warning while it reports WARN (R121) -/
  warnT : Option Int := none
  /-- a SETV, an SSC frame waits until it may be sent (R114, R301) -/
  waits : Bool := false
  sscWaits : Bool := false
  /-- a return SETV is owed once the last SETV is acknowledged (R111) -/
  giveBack : Bool := false
  deriving DecidableEq, Repr

/-- A request to change a rail group's voltage (R109, R231). -/
structure VReq where
  code : Nat
  slew : Nat
  pre : Nat
  deriving DecidableEq, Repr

/-- One rail group's voltage (R43, R109, R112, R113). -/
structure VGrp where
  sent : Bool := false
  seq : Nat := 0
  /-- target last sent, the pre-raise it holds, the target before it and that one's pre-raise -/
  target : Nat := 0
  pre : Nat := 0
  prev : Nat := 0
  prevPre : Nat := 0
  /-- the target left by the transition outstanding, for the sentinels' reference (R43) -/
  old : Nat := 0
  out : Bool := false
  doneAll : Bool := true
  /-- a link has rejected the target; the transition outstanding is the return from it (R111) -/
  rejected : Bool := false
  back : Bool := false
  sentTick : Nat := 0
  deadline : Nat := 0
  slew : Nat := 2
  held : Option VReq := none
  /-- the code the hub last asked for, before the clamp (R113, R264) -/
  asked : Option Nat := none
  /-- lowest VDONE before the last link of the group failed -/
  confLast : Nat := 0
  /-- after SHUT has cleared: 1, a new SETV is owed; 2, it has been sent and its DONE is awaited; 0 otherwise (R124) -/
  reconfirm : Nat := 0
  deriving DecidableEq, Repr

/-- The hub's response to a regulator alert (R122 to R124). -/
structure Alert where
  active : Bool := false
  asked : Nat := 0
  sources : List Nat := []
  unknown : Bool := false
  /-- tick at which the brake was last released -/
  released : Option Nat := none
  /-- domains forced off for a SHUT source, to be requested on again -/
  shutDoms : List Nat := []
  deriving DecidableEq, Repr

structure Gl where
  links : Table Lnk := []
  /-- the frames of an SSC_APPLY are on their way (R118) -/
  sscRun : Bool := false
  groups : Table VGrp := []
  alert : Alert := {}
  deriving DecidableEq, Repr

/-! ### Energy -/

/-- What the model keeps of a cluster: its last known core and SRAM sums in 2^-16 nJ, its peaks in 2^-46 nJ over the
current and the last complete 1 ms window (R128), and the tags captured at the last two boundaries (Table 5.2). -/
structure ClEm where
  core : Nat := 0
  sram : Nat := 0
  peakCur : Option Nat := none
  peakLast : Option Nat := none
  tag0 : Nat := 0
  tag1 : Nat := 0
  deriving DecidableEq, Repr

/-- The result of the attribution unit for one tick, which takes effect at the next boundary (Table 5.2): group energies
and static terms in nJ, I_act with its validity, cluster energies, partition energies, keys (partition, layer, operator)
with their energies, unattributed energy, sparsity. -/
structure EmRes where
  e : List Nat := []
  st : List Nat := []
  iact : List (Nat × Bool) := []
  clusters : List (Nat × Nat) := []
  parts : List (Nat × Nat) := []
  keys : List ((Nat × Nat × Nat) × Nat) := []
  unatt : Nat := 0
  sparsity : Nat := 0
  deriving DecidableEq, Repr

/-- Sums over a 1 ms window for one rail group: raw activity in 2^-16 nJ, static terms and group energy in nJ, telemetry
in 1/16 nJ, and whether the gain fit may use the window (R137, R138). -/
structure EmWin where
  a : Nat := 0
  st : Nat := 0
  e : Nat := 0
  m : Nat := 0
  ok : Bool := true
  deriving DecidableEq, Repr

/-- The window of a meter fit (R141, R143): publications, class sums in nJ × 2^-30, input-referred static and telemetry
energy in nJ × 2^-18, metered energy in nJ, whether it must be skipped. -/
structure EmFit where
  pubs : Nat := 0
  c : List Nat := []
  sIn : Nat := 0
  eM : Nat := 0
  skip : Bool := false
  deriving DecidableEq, Repr

/-- One attribution entry (Table 5.4): its key and its energy in nJ. -/
structure AttEnt where
  part : Nat
  layer : Nat
  oper : Nat
  nj : Nat
  deriving DecidableEq, Repr

structure Em where
  image : ModelImage := {}
  /-- the model image to take effect at its class-5 event -/
  next : Option ModelImage := none
  res : EmRes := {}
  cls : Table ClEm := []
  carry : Table Nat := []
  /-- the most recent valid current sum of a group (R134) -/
  lastI : Table (Option Nat) := []
  /-- reciprocal efficiency in force by group, Q2.14 (R140) -/
  rEff : Table Nat := []
  win : Table EmWin := []
  /-- class energy by 6 × class + sector over the 1 ms window, 2^-16 nJ -/
  classWin : Table Nat := []
  classLast : Table Nat := []
  n8 : Nat := 0
  nMac : Nat := 0
  /-- die energy of the 1 ms window in nJ -/
  die : Nat := 0
  /-- the last complete 1 ms window, and whether the gain fit has used it (by group) -/
  last : Table EmWin := []
  fresh : Table Bool := []
  fit : EmFit := {}
  done : Option EmFit := none
  /-- gain-fit windows accepted since CONVERGING, by group -/
  fastOk : Table Nat := []
  /-- remainders below 1 µJ of EDIE, EIN (in 2^-14 nJ), UNATT, partitions and OTHER accounts -/
  remDie : Nat := 0
  remIn : Nat := 0
  remUnatt : Nat := 0
  remPart : Table Nat := []
  remOther : Table Nat := []
  att : Table (Option AttEnt) := []
  /-- the attribution clear requested: every partition or one -/
  clrAll : Bool := false
  clrParts : List Nat := []
  deriving DecidableEq, Repr

/-! ### Temperature channels -/

/-- One temperature channel beside its registers (R196 to R204). -/
structure Chan where
  /-- enabled, as its in-force copy last said -/
  on : Bool := false
  /-- the last four raw conversions free of open and short, newest last -/
  raws : List Int := []
  opens : Nat := 0
  shorts : Nat := 0
  /-- consecutive conversions free of open and short; 16 of them since it was enabled -/
  clean : Nat := 0
  started : Bool := false
  /-- consecutive checks above and at or below DRIFT_LIM -/
  above : Nat := 0
  below : Nat := 0
  /-- the last VALUE held while valid since it was enabled -/
  lastValid : Option Int := none
  converted : Bool := false
  /-- tick of entry to HIGH_STOP, and the stop action has been taken since -/
  stopAt : Nat := 0
  stopped : Bool := false
  /-- gain and offset of its converter path (R198): a part in 10,000, and a reading's own unit -/
  corr : Int := 0
  zero : Int := 0
  deriving DecidableEq, Repr

/-- The ceilings of a rail group whose regulator warns (R206): points of the sectors at entry, level or step at entry,
further drops taken, the tick of the next one, the tick at which the last WARN cleared. -/
structure Vrw where
  base : List Nat := []
  lvl : Nat := 0
  k : Nat := 0
  next : Nat := 0
  clr : Option Nat := none
  deriving DecidableEq, Repr

structure Th where
  /-- channel 24 is enabled from POR (Table 7.5) -/
  chans : Table Chan := [(24, { on := true })]
  /-- the tick of the last drift check -/
  checked : Option Nat := none
  vrw : Table (Option Vrw) := []
  /-- the thermistor tables of the thermal image (R195) -/
  tables : Table (List Int) := []
  imageId : Nat := 0
  /-- the channel each converter served last (R192) -/
  diodeAt : Nat := 24
  thermAt : Nat := 23
  deriving DecidableEq, Repr

/-! ### Budget -/

/-- Sparsity over a set of clusters (R146): class-8 quanta and quanta of classes 1 to 7 in the open millisecond, the value of
the last tick and that of the last whole millisecond. -/
structure Spars where
  n8 : Nat := 0
  nMac : Nat := 0
  tick : Nat := 0
  ms : Option Nat := none
  deriving DecidableEq, Repr

/-- A held hint (R228 to R233). -/
structure Hint where
  id : Nat := 0
  start : Nat := 0
  duration : Nat := 0
  sparsity : Nat := 0
  ramp : Nat := 1
  /-- first, count, profile, level of each group word -/
  groups : List (Nat × Nat × Nat × Nat) := []
  active : Bool := false
  begun : Bool := false
  mismatch : Bool := false
  /-- from the pre-stage, by sector: ceiling, ΔI in 0.125 A, pre-raise sent in 0.5 mV -/
  ceil : List Nat := []
  deltaI : List Rat := []
  vpre : List Nat := []
  /-- the sparsity of its clusters and of each of its group words, and whether it has been held since the open millisecond
  began (R146, R233) -/
  spars : Spars := {}
  groupSpars : List Spars := []
  whole : Bool := false
  deriving DecidableEq, Repr

/-- A partition's contract as in force (R220, R227). -/
structure Part where
  cls : Nat := 0
  gate : Bool := false
  floor : Nat := 0
  deriving DecidableEq, Repr

/-- Breaching ticks since the last checkpoint by cause: SAFETY, DROP_SAFE, DROP_METER (R226). -/
structure Breach where
  safety : Nat := 0
  dropSafe : Nat := 0
  dropMeter : Nat := 0
  deriving DecidableEq, Repr

structure Bg where
  image : Option BudgetImage := none
  /-- CAP_SET samples, newest last; consecutive open and good samples; validity -/
  setRing : List Nat := []
  setOpen : Nat := 0
  setGood : Nat := 0
  setValid : Bool := true
  /-- CAP_PWM: the last rising edge and the high time in hub cycles, the tick of the last edge, bad periods in a row, validity,
  and high time and period of the last good period -/
  pwmRise : Option Nat := none
  pwmHigh : Nat := 0
  pwmEdge : Nat := 0
  pwmBad : Nat := 0
  pwmValid : Bool := false
  pwmLast : Nat × Nat := (0, 1)
  hints : Table (Option Hint) := []
  parts : Table Part := []
  assign : Table (Option Nat) := []
  breach : Table Breach := []
  /-- consecutive idle ticks of a cluster (R218) -/
  idle : Table Nat := []
  /-- tick of the last budget period; prices at the levels in force summed over the millisecond, and those of the last one -/
  periodAt : Option Nat := none
  priceSum : List Rat := [0, 0, 0]
  priceLast : List Rat := [0, 0, 0]
  /-- tick of the last drop; since when H has been false; whether class A, B, C was dropped under the meter term -/
  dropAt : Option Nat := none
  quietAt : Option Nat := none
  meterDrop : List Bool := [false, false, false]
  lfsr : Nat := 0x8001
  deriving DecidableEq, Repr

/-- The firmware outputs of one tick (R31, R167): safety ceilings, voltage-supported points, floors, hint ceilings, hint
ramps, limits of link groups 8 and 9 and of the stack group, and the die cap (R213). -/
structure FwOut where
  safe : List Nat := [255, 255, 255, 255, 255, 255]
  vsup : List Nat := [0, 0, 0, 0, 0, 0]
  floor : List Nat := [0, 0, 0, 0, 0, 0]
  hint : List Nat := [255, 255, 255, 255, 255, 255]
  ramp : List Rat := [0, 0, 0, 0, 0, 0]
  lnk8 : Nat := 16
  lnk9 : Nat := 16
  bw : Nat := 15
  cap : Nat := 0x1900
  deriving DecidableEq, Repr

/-! ### Cadence engine -/

/-- One lane: data memory, integrators, accumulators, write buffers, signature (R153, R163, R185).  Lane B holds every word
of its memories inverted (R154). -/
structure Lane where
  data : Table Nat := []
  integ : Table Nat := []
  acc : Table Int := []
  wdata : Table (Option Nat) := []
  hdata : Table (Option Nat) := []
  winteg : Table (Option Nat) := []
  sig : Nat := 0xFFFFFFFF
  cycles : Nat := 0
  ended : Bool := false
  deriving DecidableEq, Repr

/-- A coefficient bank as loaded: what the image declares, and the program and coefficient words of each lane, lane B's
inverted (R153, R154, R156). -/
structure Bank where
  valid : Bool := false
  image : EngImage := {}
  cycles : Nat := 0
  progA : List Nat := []
  progB : List Nat := []
  coefA : Table Nat := []
  coefB : Table Nat := []
  deriving DecidableEq, Repr

/-- A slew limiter: output in 1/256 units, none until its first target (R181). -/
structure Slew where
  out : Option Nat := none
  deriving DecidableEq, Repr

/-- A release ramp of one candidate: its base and its start (R179). -/
structure Ramp where
  base : Nat := 0
  start : Nat := 0
  deriving DecidableEq, Repr

/-- Selector outputs: points and codes of the sectors, levels of link groups 8 and 9, step, their codes (R173). -/
structure SelOut where
  pts : List Nat := [0, 0, 0, 0, 0, 0]
  codes : List Nat := [7, 7, 7, 7, 7, 7]
  lnk8 : Nat := 4
  lnk9 : Nat := 4
  bw : Nat := 0
  lcodes : List Nat := [4, 4, 4]
  deriving DecidableEq, Repr

/-- One trace channel beside its registers (R188, R189): its samples, the previous value, samples left after the trigger,
samples since it was armed. -/
structure Trace where
  mem : Table Nat := []
  prev : Option Int := none
  left : Option Nat := none
  count : Nat := 0
  deriving DecidableEq, Repr

structure Eng where
  laneA : Lane := {}
  laneB : Lane := {}
  bank0 : Bank := {}
  bank1 : Bank := {}
  /-- the instruction about to run; the program runs in this tick; the tick was committed; its result is settled -/
  pc : Nat := 0
  running : Bool := false
  committed : Bool := false
  settled : Bool := false
  /-- lane that met an uncorrectable error in this tick, and its address (R155) -/
  ue : Option (Nat × Nat) := none
  /-- saturations of the program in this tick -/
  sat : Nat := 0
  /-- selector outputs in force in this tick, and those published for the next one (R167) -/
  force : SelOut := {}
  next : SelOut := {}
  /-- firmware outputs staged in this tick and last published (R31) -/
  staged : Option FwOut := none
  pub : FwOut := {}
  slews : Table Slew := []
  ramps : Table (Option Ramp) := []
  /-- consecutive ticks above FE_LIM of each slot, consecutive clean ticks of each loop and unit, units not following -/
  feRun : Table Nat := []
  feClean : Table Nat := []
  nf : Table Bool := []
  /-- sets to open and to close at the next boundary, and the tick at which each open set was opened -/
  openReq : List Nat := []
  closeReq : List Nat := []
  openAt : Table Nat := []
  /-- temperature and frequency band of each set (R174) -/
  tband : Table Nat := []
  fband : Table Nat := []
  /-- consecutive ticks the computed region of each set has been what it is (R175) -/
  regionRun : Table Nat := []
  regionPend : Table Bool := []
  /-- a node dump of this tick: source and node; the last value each lane wrote -/
  dump : Option (Nat × Nat) := none
  trace : Table Trace := []
  /-- EVMASK sources of this tick; a class-7 event of this tick; channel 0 triggered in this tick -/
  trEvents : Nat := 0
  trSched : Bool := false
  /-- tick of entry to FAULT and the address its code carries -/
  faultAt : Nat := 0
  faultAddr : Nat := 0
  deriving DecidableEq, Repr

/-! ### Firmware, log, trace drain -/

/-- One firmware slot: its bytes, the entry offset, the length, and whether the CRC-32 recorded when it became VALID
still matches (R398, R404). -/
structure Slot where
  mem : Table Nat := []
  entry : Nat := 0
  length : Nat := 0
  crc : Nat := 0
  deriving DecidableEq, Repr

/-- A block of the trace drain: channel, first sample index, bytes copied (R411). -/
structure DrainJob where
  chan : Nat
  start : Nat
  copied : Nat := 0
  deriving DecidableEq, Repr

structure Fw where
  slotA : Slot := {}
  slotB : Slot := {}
  staging : List LogRec := []
  ring : Table LogRec := []
  /-- records dropped since the last DROPPED record (R406) -/
  dropPend : Nat := 0
  /-- LSEQ after the newest ring record -/
  ringNext : Nat := 0
  drain : List DrainJob := []
  /-- block number j of the next block -/
  drainBlock : Nat := 0
  /-- the hub core has been entered since POR; the firmware has published since POR or the last restart -/
  entered : Bool := false
  published : Bool := false
  /-- READY of a warm restart waits for LOCKED (R16, R300) -/
  readyOwed : Bool := false
  /-- a self-test failure that enters no firmware (R426) -/
  bootFail : Bool := false
  /-- an unrepairable word outside the firmware, log and staging SRAM: the engine stays IDLE (R426) -/
  sramFail : Bool := false
  /-- the tick of a switch boundary while TENTATIVE (R403) -/
  switchAt : Nat := 0
  /-- OTP provisioning fields (Table 17.5) -/
  otpDigest : Option Nat := none
  otpBootSrc : Nat := 0
  otpBootAddr : Nat := 0
  otpProvCrc : Nat := 0
  otpProvLock : Bool := false
  /-- feathered source cycles below one unit of PC_FTH_p (R413) -/
  fthRem : Table Nat := []
  deriving DecidableEq, Repr

/-! ### Carrier and peloton -/

/-- A REPORT held for a die (R245, R251, R253). -/
structure Rep where
  seq : Nat := 0
  epoch : Nat := 0
  demand : Nat := 0
  minimum : Nat := 0
  safe : Nat := 0
  meas : Nat := 0
  offer : Nat := 255
  dragPt : Nat := 255
  rank : Nat := 0
  elig : Bool := false
  role : Nat := 0
  flags : Nat := 0
  /-- the tick at which it was acted on or sent -/
  tick : Nat := 0
  deriving DecidableEq, Repr

/-- One pace link: the tick of the last valid message and of the last one sent, valid messages since it went DOWN (R239). -/
structure Pace where
  heard : Option Nat := none
  sent : Nat := 0
  good : Nat := 0
  deriving DecidableEq, Repr

/-- What a receiver keeps for a sender and a type (R241); a copy being forwarded has completed within its command. -/
structure SeqKeep where
  acted : Option Nat := none
  fwd : Option Nat := none
  tick : Nat := 0
  deriving DecidableEq, Repr

/-- A SHARE acted on: its tick, claimant and epoch, and the share this die derives from it with its MODE (R253). -/
structure Heard where
  tick : Nat
  die : Nat
  epoch : Nat
  mode : Nat := 0
  share : Option Nat := none
  deriving DecidableEq, Repr

structure Car where
  links : Table Pace := []
  /-- next SEQ of each message type sent, and what is kept for each sender and type (key 16 × (64 carrier + die) + type) -/
  seqOut : Table Nat := []
  keeps : Table SeqKeep := []
  /-- REPORTs held of each die of the carrier, newest first, at most four -/
  reports : Table (List Rep) := []
  /-- SHAREs acted on in the last three carrier periods, newest first -/
  shares : List Heard := []
  usableAt : Nat := 0
  /-- epoch of the share obeyed, none before the first one -/
  obeyEpoch : Option Nat := none
  /-- end of the lease; the shadowed steward's epoch was last heard at -/
  leaseEnd : Option Nat := none
  shadowHeard : Nat := 0
  /-- θc to each steward die whose SHARE was acted on, 1/1,024 tick (R258) -/
  ofs : Table (Option Int) := []
  /-- ticks at which the periodic messages of this tick were already sent -/
  reportAt : Option Nat := none
  periodAt : Option Nat := none
  /-- the priced demand and minimum of the last budget period, 0.25 W, with the always-on group (R251) -/
  demand : Nat := 0
  minimum : Nat := 0
  deriving DecidableEq, Repr

/-- The last OFFER acted on from a carrier (R256). -/
structure OfferIn where
  offer : Nat := 255
  cant : Bool := false
  tick : Nat := 0
  deriving DecidableEq, Repr

structure Pel where
  offers : Table (Option OfferIn) := []
  /-- DRAG rises counted by the root: tick and number (R261); the tick of the last rise or CANT_FOLLOW seen -/
  rises : List (Nat × Nat) := []
  unrestAt : Nat := 0
  /-- the mode the root sends, 1 tandem, 2 paceline -/
  rootMode : Nat := 1
  /-- the last eight PSYNC samples with the root, newest first: θ and δ in 1/1,024 tick; exchanges since the root changed -/
  samples : List (Int × Int) := []
  exchanges : Nat := 0
  /-- applications scheduled: root carrier and RSEQ, newest first, at most eight (R258) -/
  known : List (Nat × Nat) := []
  root : Option Nat := none
  /-- ticks at which OFFER, POINT and PSYNC_REQ were last sent -/
  offerSent : Option Nat := none
  pointSent : Option Nat := none
  psyncSent : Option Nat := none
  /-- a root that has acted on a POINT of a lower-numbered carrier (R256) -/
  ceded : Bool := false
  /-- tick of the last CPOINT acted on, or of joining -/
  heardAt : Nat := 0
  joined : Bool := false
  /-- drag ticks in a row, ticks without drag in a row, lowest point over this period's drag ticks, periods with DRAG set -/
  dragRun : Nat := 0
  cleanRun : Nat := 0
  lowPt : Option Nat := none
  dragPt : Nat := 255
  periods : Nat := 0
  /-- the DRAG flag each die of the carrier last reported, DRAG rises among members in this period, CANT_FOLLOW flags -/
  memberDrag : Table Bool := []
  memberCant : Table Bool := []
  memberRises : Nat := 0
  deriving DecidableEq, Repr

/-! ### Margins and suspects -/

/-- A cluster's margin state beside `MG_CL` and `MG_DLY` (R266 to R274). -/
structure MgCl where
  /-- measurements of the epoch in 1/1,000 ps; medians with their epoch, newest first, at most 16; baseline known -/
  meas : List Rat := []
  medians : List (Nat × Rat) := []
  base : Bool := false
  /-- the last 16 ticks: quanta of classes 1 to 15 and whether FEATHER was reported -/
  quiet : List (Nat × Bool) := []
  /-- measurement launched and awaited; its results have come; measured in this run -/
  launched : Bool := false
  got : Bool := false
  measured : Bool := false
  /-- AGE, SUS or state changed in this epoch -/
  changed : Bool := false
  deriving DecidableEq, Repr

/-- A rise of the applied offset in a sector: the steps awaited and the tick of the last step (R266). -/
structure MgSect where
  stepAt : Option Nat := none
  /-- the pending rise is a step of SLEW 0 -/
  step : Bool := false
  /-- clusters whose APPL is to take these values once the group has confirmed `code` -/
  pending : List (Nat × Nat) := []
  code : Nat := 0
  deriving DecidableEq, Repr

/-- A suspect entry (R276): core, millisecond stamps newest first, SLOWED. -/
structure Sus where
  core : Nat
  stamps : List Nat := []
  slowed : Bool := false
  deriving DecidableEq, Repr

/-- A retired core: its number, the context of the deciding report, its fence and gate (R277). -/
structure Retired where
  core : Nat
  ctx : Nat := 0
  /-- tick at which its FENCE_REQ was queued; its OSEQ once written and until acknowledged; fence asserted at -/
  posted : Option Nat := none
  oseq : Option Nat := none
  fenced : Option Nat := none
  gated : Bool := false
  /-- its post failed while only the recovery sequencer might change the fence (R62) -/
  failed : Bool := false
  deriving DecidableEq, Repr

structure Mg where
  image : Option MarginImage := none
  cls : Table MgCl := []
  sects : Table MgSect := []
  sus : Table (Option Sus) := []
  retired : List Retired := []
  /-- contexts of the slowed cores, by core -/
  slowCtx : Table Nat := []
  /-- the ageing area of OTP: pairs of words in the order written (R281) -/
  otp : List (Nat × Nat) := []
  /-- records that wait for WR_OK (R208), by key 2^14 × order + 64 × cluster + core, with CLR -/
  marks : Table (Option Bool) := []
  /-- the command that runs has had a record deferred -/
  deferred : Bool := false
  /-- triggers that wait for the re-plan of this tick (R273): core and context, or cluster and none -/
  waiting : List (Nat × Option Nat) := []
  /-- the ageing epoch in which task 2 last began a run -/
  epoch : Nat := 0
  /-- the post of the list of retired cores is owed at the next heartbeat (R278) -/
  postRetired : Bool := false
  deriving DecidableEq, Repr

/-! ### Recovery -/

/-- A partition or die step in progress (R293, R294). -/
structure Step where
  /-- the partition, or none for a die step -/
  part : Option Nat := none
  /-- the restore set -/
  restore : List Nat := []
  /-- die step: the tick A, forced off done; the kind whose turn it is (0 auxiliary, 1 stack, 2 link, 3 cluster), asked -/
  atA : Nat := 0
  begun : Bool := false
  kind : Nat := 0
  asked : List Nat := []
  cleared : Bool := false
  code : Nat := 0
  deriving DecidableEq, Repr

structure Rc where
  /-- COUNT of the previous write of RC_HB, tick of the last valid heartbeat, the end of the miss period -/
  hbCount : Option Nat := none
  hbAt : Option Nat := none
  missAt : Nat := 0
  noticeAt : Nat := 0
  bootAt : Nat := 0
  step : Option Step := none
  /-- clusters whose reset lines a partition step has asserted -/
  held : List Nat := []
  /-- a second miss fell during a partition step -/
  missed : Bool := false
  /-- ticks of the die steps of the last 600 s, of the warm restarts of the last 1,000 ms -/
  dieAt : List Nat := []
  warmAt : List Nat := []
  storm : Bool := false
  /-- watchdog armed, tick of the last kick -/
  wdog : Bool := false
  kickAt : Nat := 0
  /-- GOV_RST_N low; the code of the warm restart is still to be logged by the restarted firmware -/
  rstLow : Bool := false
  owed : Bool := false
  deriving DecidableEq, Repr

/-! ### The sealed meter -/

/-- A journaled event: ring sequence number, type, MTIME, CSEQ and three data words (R323, R352). -/
structure JEvent where
  seq : Nat := 0
  type : Nat := 0
  mtime : Nat := 0
  cseq : Nat := 0
  data0 : Nat := 0
  data1 : Nat := 0
  data2 : Nat := 0
  deriving DecidableEq, Repr

/-- One partition account: apportioned energy in µJ, breach totals by cause (SAFETY, DROP_SAFE, DROP_METER), in ticks in the
meter and in ms in a checkpoint. -/
structure Acct where
  energy : Nat := 0
  safety : Nat := 0
  dropSafe : Nat := 0
  dropMeter : Nat := 0
  deriving DecidableEq, Repr

/-- A checkpoint: the die record of Table 12.4 and the accounts (R315). -/
structure Ckpt where
  cseq : Nat := 0
  mtime : Nat := 0
  eIn : Nat := 0
  unatt : Nat := 0
  eRef : Nat := 0
  pseqRef : Nat := 0
  breaks : Nat := 0
  ckseq : Nat := 0
  pfw : Bool := false
  faulted : Bool := false
  sealOpen : Bool := false
  uncal : Bool := false
  st : Nat := 0
  pMean : Nat := 0
  bootLast : Nat := 0
  accts : Table Acct := []
  deriving DecidableEq, Repr

/-- One share record (R324). -/
structure ShareRec where
  boot : Nat := 0
  ckseq : Nat := 0
  tick : Nat := 0
  pseqLast : Nat := 0
  dDie : Nat := 0
  dIn : Nat := 0
  dUnatt : Nat := 0
  dPart : List Nat := []
  breach : List Breach := []
  /-- the CRC-32 over its words -/
  crc : Nat := 0
  deriving DecidableEq, Repr

/-- Calibration values: gains and offsets by channel, shunt value, TOL in 0.1% (R321, R323). -/
structure Cal where
  items : Table Nat := []
  tol : Nat := 60
  deriving DecidableEq, Repr

/-- 64 bytes of 0: a record of the journal device that nothing has written. -/
def blankRecord : List Nat :=
  List.replicate 64 0

/-- The journal device (R314, Table 12.3): its records 0 to 2,047 of 64 bytes, those that are not blank. -/
structure Journal where
  mem : Table (List Nat) := []
  deriving DecidableEq, Repr

/-- The meter macro (chapter 12).  State: 0 off, 1 UNCAL, 2 RUN, 3 FAULT, 4 ROM_FAULT. -/
structure Mtr where
  st : Nat := 0
  journal : Journal := {}
  /-- the slot that holds the newest complete checkpoint (0 A, 1 B), the tail location to be written next, the sequence
  number of the next event record -/
  ckLast : Nat := 1
  tailNext : Nat := 0
  ringNext : Nat := 0
  /-- the record writes of the last command of the meter, in order: record, bytes before and bytes after -/
  writes : List (Nat × List Nat × List Nat) := []
  /-- E_IN in 1/(8 × 10^9) µJ, exact -/
  acc : Int := 0
  mtime : Nat := 0
  /-- samples since power-up; samples and sums of the current millisecond: current µA, power pW, voltage µV of both pairs -/
  samples : Nat := 0
  msN : Nat := 0
  sumI : Int := 0
  sumP : Int := 0
  sumV : Int := 0
  /-- means of the last publication -/
  meanI : Nat := 0
  meanP : Nat := 0
  meanV : Nat := 0
  /-- the window's energies of pairs 0 and 1 in pW samples, samples in it, agreeing windows in a row, faulted window -/
  e0 : Int := 0
  e1 : Int := 0
  winN : Nat := 0
  agree : Nat := 0
  faulted : Bool := false
  /-- PSEQ of the last publication, and E_IN of the last 256 publications, newest first -/
  pseq : Nat := 0
  held : List (Nat × Nat) := []
  eRef : Nat := 0
  pseqRef : Nat := 0
  unatt : Nat := 0
  accts : Table Acct := []
  ckseqLast : Nat := 0
  bootLast : Nat := 0
  shrRes : Nat := 0
  /-- CSEQ of the last checkpoint captured; power summed since it, and the samples -/
  cseq : Nat := 0
  ckP : Int := 0
  ckN : Nat := 0
  /-- the newest captured checkpoint that has not been written -/
  captured : Option Ckpt := none
  pfw : Bool := false
  pfwTail : Bool := false
  sealOpen : Bool := false
  breaks : Nat := 0
  /-- the journal window; events and calibration that wait for it -/
  window : Bool := true
  waiting : List JEvent := []
  calDue : Bool := false
  /-- the MTIME of a commissioning whose journal is to be initialised when the window opens -/
  initDue : Option Nat := none
  temp : Int := 400
  romCrc : Nat := 0
  serial : Nat := 0
  calGen : Nat := 0
  /-- calibration in force, staged, and committed for the next window -/
  cal : Cal := {}
  staged : Cal := {}
  commit : Option Cal := none
  /-- publications that still carry GAP -/
  gapLeft : Nat := 0
  /-- bytes of a packet begun on the meter port -/
  rx : List Nat := []
  deriving DecidableEq, Repr

/-- The governor's side: mirror receiver and share buffer (R313, R324). -/
structure Mirror where
  /-- a good publication to be shown at the next boundary, the tick of the last good one, misses counted since it -/
  next : Option (List Nat) := none
  lastGood : Option Nat := none
  missed : Nat := 0
  /-- a publication was missing since the last one shown -/
  lost : Bool := false
  boot : Option Nat := none
  /-- a good publication has been written into the mirror registers since POR (R324) -/
  shown : Bool := false
  /-- CKSEQ of the next share record; the share buffer, oldest first -/
  ckseq : Nat := 0
  buffer : List ShareRec := []
  /-- totals at the last share record: EM_EDIE, EM_EIN, EM_UNATT, EM_PART_E -/
  eDie : Nat := 0
  eIn : Nat := 0
  eUnatt : Nat := 0
  ePart : Table Nat := []
  deriving DecidableEq, Repr

end Sys2Proof.Machine
end

