-- ==== Sys2Proof/Machine/State.lean ====
section
/-! DEFINITION. The state of the governor: its register fields, what each block holds beside them, the tick, the lock
bits, and the queue of commands that wait. -/

namespace Sys2Proof.Machine

/-- No command of this block ends in a fault: the manual answers every access, packet, frame and event with an effect, a
status or a discard. -/
inductive Fault where
  deriving DecidableEq, Repr

/-- A command without a meaning in this model. -/
inductive Refusal where
  /-- Raised by an arm of `exec` whose command has no meaning yet; the mnemonic is the row's.  Safe: nothing is claimed
  of such a command. -/
  | notModelled (mnemonic : String)
  deriving DecidableEq, Repr

/-- The lock bits `LOCK0.CFG` and `LOCK1` (R355, R356). -/
structure Locks where
  cfg : Bool := false
  perm : Bool := false
  transport : Bool := false
  fw : Bool := false
  diag : Bool := false
  deriving DecidableEq, Repr

/-- The governor.  `fields`, `rwl` and `inForce` hold register fields by bit address: fields without an in-force copy,
fields frozen by `LOCK0.CFG`, and the in-force copies of those (R388). -/
structure State where
  tick : Nat := 0
  locks : Locks := {}
  fields : Table Nat := []
  rwl : Table Nat := []
  inForce : Table Nat := []
  cad : Cad := {}
  spk : Spk := {}
  rim : Rim := {}
  gl : Gl := {}
  eng : Eng := {}
  em : Em := {}
  th : Th := {}
  bg : Bg := {}
  car : Car := {}
  pel : Pel := {}
  mg : Mg := {}
  rc : Rc := {}
  mtr : Mtr := {}
  mir : Mirror := {}
  cmd : Cmd := {}
  bus : Bus := {}
  fw : Fw := {}
  /-- free values used so far (the model's own counter) -/
  free : Nat := 0
  /-- what the ports drove during the last command (the model's own record) -/
  emit : List Emission := []
  /-- the commands that wait, first in, first out -/
  pending : List Instr := []
  deriving DecidableEq, Repr

/-- The governor at POR: every register field at its reset value, every buffer and queue empty. -/
def State.reset : State := {}

end Sys2Proof.Machine
end

