-- ==== Sys2Proof/Machine/Ops.lean ====
section
/-! DEFINITION. The named operations over the state that every command uses: register fields and their in-force copies,
emissions, free values, doorbells, log records, events, tick stamps and the event queue. -/

namespace Sys2Proof.Machine

/-! ### Iteration and records -/

/-- Apply `f` to 0, …, n − 1 in order. -/
def upTo {α : Type} : Nat → (Nat → α → α) → α → α
  | 0, _, a => a
  | n + 1, f, a => f n (upTo n f a)

/-- The naturals below `n` that satisfy `p`, rising. -/
def idx (n : Nat) (p : Nat → Bool) : List Nat :=
  (List.range n).filter p

/-- Change the record of instance `i` of a table. -/
def Table.upd {α : Type} [DecidableEq α] (d : α) (t : Table α) (i : Nat) (f : α → α) : Table α :=
  Table.set d t i (f (Table.get d t i))

/-- Change every listed record of a table whose unlisted records `f` leaves alone. -/
def Table.mapAll {α : Type} [DecidableEq α] (d : α) (f : α → α) (t : Table α) : Table α :=
  (t.map (fun e => (e.1, f e.2))).filter (fun e => e.2 != d)

/-- Change the records of instances 0, …, n − 1 of a table that lists no other. -/
def Table.remap {α : Type} [DecidableEq α] (d : α) (n : Nat) (f : Nat → α → α) (t : Table α) : Table α :=
  (List.range n).filterMap (fun i =>
    let x := f i (Table.get d t i)
    if x = d then none else some (i, x))

def sumOf (l : List Nat) : Nat :=
  l.foldl (· + ·) 0

/-- Element `i` of a list of numbers, 0 beyond its end. -/
def at0 (l : List Nat) (i : Nat) : Nat :=
  l.getD i 0

/-! ### The parts of the state -/

def State.setCad (s : State) (f : Cad → Cad) : State :=
  { s with cad := f s.cad }

def State.setSpk (s : State) (f : Spk → Spk) : State :=
  { s with spk := f s.spk }

def State.setRim (s : State) (f : Rim → Rim) : State :=
  { s with rim := f s.rim }

def State.setGl (s : State) (f : Gl → Gl) : State :=
  { s with gl := f s.gl }

def State.setEng (s : State) (f : Eng → Eng) : State :=
  { s with eng := f s.eng }

def State.setEm (s : State) (f : Em → Em) : State :=
  { s with em := f s.em }

def State.setTh (s : State) (f : Th → Th) : State :=
  { s with th := f s.th }

def State.setBg (s : State) (f : Bg → Bg) : State :=
  { s with bg := f s.bg }

def State.setCar (s : State) (f : Car → Car) : State :=
  { s with car := f s.car }

def State.setPel (s : State) (f : Pel → Pel) : State :=
  { s with pel := f s.pel }

def State.setMg (s : State) (f : Mg → Mg) : State :=
  { s with mg := f s.mg }

def State.setRc (s : State) (f : Rc → Rc) : State :=
  { s with rc := f s.rc }

def State.setMtr (s : State) (f : Mtr → Mtr) : State :=
  { s with mtr := f s.mtr }

def State.setMir (s : State) (f : Mirror → Mirror) : State :=
  { s with mir := f s.mir }

def State.setCmd (s : State) (f : Cmd → Cmd) : State :=
  { s with cmd := f s.cmd }

def State.setBus (s : State) (f : Bus → Bus) : State :=
  { s with bus := f s.bus }

def State.setFw (s : State) (f : Fw → Fw) : State :=
  { s with fw := f s.fw }

/-! ### Register fields -/

/-- The value a register field holds. -/
def State.rd (s : State) (F : Fld) (i : Nat := 0) : Nat :=
  Table.get (F.reset i) (if F.rwl then s.rwl else s.fields) (F.key i)

/-- Write a register field, masked to its width. -/
def State.wr (s : State) (F : Fld) (i v : Nat) : State :=
  if F.rwl then { s with rwl := Table.set (F.reset i) s.rwl (F.key i) (v % 2 ^ F.width) }
  else { s with fields := Table.set (F.reset i) s.fields (F.key i) (v % 2 ^ F.width) }

/-- The in-force copy of a field frozen by `LOCK0.CFG` (R388). -/
def State.inf (s : State) (F : Fld) (i : Nat := 0) : Nat :=
  Table.get (F.reset i) s.inForce (F.key i)

/-- A one-bit field is set. -/
def State.on (s : State) (F : Fld) (i : Nat := 0) : Bool :=
  s.rd F i == 1

def State.infOn (s : State) (F : Fld) (i : Nat := 0) : Bool :=
  s.inf F i == 1

def State.wrB (s : State) (F : Fld) (i : Nat) (b : Bool) : State :=
  s.wr F i (b2n b)

/-- Advance a counter that wraps at its width. -/
def State.inc (s : State) (F : Fld) (i : Nat := 0) : State :=
  s.wr F i (s.rd F i + 1)

/-- Advance a counter by `k`, saturating at its width. -/
def State.incSat (s : State) (F : Fld) (i k : Nat) : State :=
  s.wr F i (min (s.rd F i + k) (2 ^ F.width - 1))

/-- The `Nat` in field `F` read as two's complement. -/
def State.rdS (s : State) (F : Fld) (i : Nat := 0) : Int :=
  toSigned F.width (s.rd F i)

def State.wrS (s : State) (F : Fld) (i : Nat) (v : Int) : State :=
  s.wr F i (ofSigned F.width v)

/-- Bit `b` of a field. -/
def State.bit (s : State) (F : Fld) (b : Nat) (i : Nat := 0) : Bool :=
  (s.rd F i).testBit b

/-- Set or clear bit `b` of a field. -/
def State.wrBit (s : State) (F : Fld) (i b : Nat) (v : Bool) : State :=
  let x := s.rd F i
  if x.testBit b == v then s else s.wr F i (if v then x + 2 ^ b else x - 2 ^ b)

/-! ### Ports and free values -/

/-- Nothing has been driven yet in this command. -/
def State.quiet (s : State) : State :=
  { s with emit := [] }

def State.drive (s : State) (e : Emission) : State :=
  { s with emit := s.emit ++ [e] }

/-- Take one free value below `2 ^ w` (log entry 3). -/
def State.takeFree (s : State) (w : Nat) : Nat × State :=
  (Config.freeValue s.free % 2 ^ w, { s with free := s.free + 1 })

/-! ### Doorbells, log records and events (R376, R405, R406) -/

/-- Set doorbell bit `b` (Table 14.7). -/
def State.doorbell (s : State) (b : Nat) : State :=
  if b < 16 then s.wrBit DB_STAT_NS.STAT 0 b true else s.wrBit DB_STAT_S.STAT 0 (b - 16) true

/-- Staging has a free entry for a record of severity `sev`: eight of the 256 are kept for SEV 5 (R406). -/
def State.stagingRoom (s : State) (sev : Nat) : Bool :=
  decide (s.fw.staging.length < (if sev = 5 then 256 else 248))

/-- MIN_SEV as it reads: 6 and 7 are read as 5 (Table 16.8). -/
def State.minSev (s : State) : Nat :=
  min (s.rd LOG_CTRL.MIN_SEV) 5

/-- A run of domestique task `n` is to be released by its trigger. -/
def State.trigger (s : State) (n : Nat) : State :=
  s.setCad (fun c => { c with tasks := Table.upd {} c.tasks n (fun t => { t with due := t.due + 1 }) })

/-- Enter a record that has room: it takes its LSEQ and TICK; staging at 50% releases the log flush task (R405 to R407). -/
def State.enterRec (s : State) (r : LogRec) : State :=
  let lseq := s.rd LOG_STAT.NEXT
  let st := s.fw.staging ++ [{ r with lseq := lseq, tick := s.tick }]
  let s := s.setFw (fun f => { f with staging := st })
  let s := s.wr LOG_STAT.NEXT 0 (lseq + 1)
  if st.length = 128 then s.trigger 6 else s

/-- The DROPPED record that goes before the first record entered after a drop, once an entry that is not kept for SEV 5 is
free (R406; SEV and BLOCK: log entry 10). -/
def State.enterDropped (s : State) : State :=
  if s.fw.dropPend = 0 || !s.stagingRoom 3 then s
  else
    let n := s.fw.dropPend
    let s := s.setFw (fun f => { f with dropPend := 0 })
    s.enterRec { hw := true, sev := 3, block := 13, event := 0x82, arg1 := n }

/-- A dropped record counts (R406). -/
def State.countDrop (s : State) : State :=
  (s.inc LOG_CNT.DROP).setFw (fun f => { f with dropPend := f.dropPend + 1 })

/-- Enter a record, or count it as dropped and raise nothing: the record of LOG_DROP itself (DESIGN CHOICE, log entry 10). -/
def State.tryRec (s : State) (r : LogRec) : State :=
  if r.sev < s.minSev && r.sev != 5 || !s.stagingRoom r.sev then s.countDrop
  else
    let s := s.enterDropped
    if s.stagingRoom r.sev then s.enterRec r else s.countDrop

/-- A record that is dropped: counted, and LOG_DROP raised (R406). -/
def State.dropRec (s : State) : State :=
  let s := s.countDrop
  let s := s.wr FW_EVT.LOG_DROP 0 1
  if s.on FW_EVT_EN.LOG_DROP then
    (s.doorbell 31).tryRec { hw := true, sev := 3, block := 13, event := 3 }
  else s

/-- Write one log record (R406). -/
def State.logRec (s : State) (r : LogRec) : State :=
  if r.sev < s.minSev && r.sev != 5 || !s.stagingRoom r.sev then s.dropRec
  else
    let s := s.enterDropped
    if s.stagingRoom r.sev then s.enterRec r else s.dropRec

/-- No foreground handler runs: holdover (R301), or firmware not entered since POR (R425, R427). -/
def State.holdover (s : State) : Bool :=
  s.on RC_STAT.HOLDOVER || !s.fw.entered

/-- The foreground handler runs and publishes: neither held (R301) nor rebuilding in a switch (R402). -/
def State.hubRuns (s : State) : Bool :=
  !s.holdover && !s.on FW_STAT.TENTATIVE

/-- Write the record of a rule that logs: the firmware's (HW 0); hardware's (HW 1) while no firmware may write one, in
holdover and before the first publication after a switch (R405, R409; log entry 114). -/
def State.fwRec (s : State) (r : LogRec) : State :=
  s.logRec { r with hw := !s.hubRuns }

/-- ARG0 with a first and a second instance (Table 16.3). -/
def arg0 (a b : Nat) : Nat :=
  a % 256 * 65536 + b % 65536

/-- Raise an event: its bit is set whatever its enable holds; an enabled event writes a record and rings the doorbell of
its block (R376, R405). -/
def State.raise (s : State) (e : Evt) (a0 : Nat := 0) (a1 : Nat := 0) : State :=
  let s := s.wr e.st 0 1
  if s.on e.en then
    (s.doorbell e.db).logRec { hw := true, sev := if e.en.reset 0 = 1 then 3 else 1, block := e.block, event := e.bit,
                               arg0 := a0, arg1 := a1 }
  else s

/-- Raise an event of a rule that logs: one record of SEV 3, whatever the enable bit holds (R405, log entry 9). -/
def State.raiseLog (s : State) (e : Evt) (a0 : Nat := 0) (a1 : Nat := 0) : State :=
  let s := s.wr e.st 0 1
  let s := if s.on e.en then s.doorbell e.db else s
  s.fwRec { sev := 3, block := e.block, event := e.bit, arg0 := a0, arg1 := a1 }

/-- The record a rule requires of an event it does not raise. -/
def State.logOnly (s : State) (e : Evt) (a0 : Nat := 0) (a1 : Nat := 0) : State :=
  s.fwRec { sev := 3, block := e.block, event := e.bit, arg0 := a0, arg1 := a1 }

/-- An ERRCODE record of an error code, by hardware or by the restarted firmware (R290, Table 16.4). -/
def State.errRecord (s : State) (code : Nat) (hw : Bool := true) : State :=
  s.logRec { hw := hw, sev := 5, block := 11, event := 0x80, arg1 := code }

/-- An event of Table 6.12's EVMASK, by its bit, in this tick. -/
def State.traceEvent (s : State) (b : Nat) : State :=
  s.setEng (fun e => { e with trEvents := Nat.lor e.trEvents (2 ^ b) })

/-! ### Time -/

/-- TICK[39:0] (R24). -/
def State.stamp (s : State) : Nat :=
  s.tick % 2 ^ 40

/-- Extend a 40-bit stamp to a tick (R24, R25).  A past distance greater than TICK extends to 0: DESIGN CHOICE, the manual
does not say (log entry 108). -/
def State.extend (s : State) (st : Nat) : Nat :=
  let d := (st % 2 ^ 40 + 2 ^ 40 - s.tick % 2 ^ 40) % 2 ^ 40
  if d < 2 ^ 39 then s.tick + d else s.tick + d - 2 ^ 40

/-- `n` ticks have passed since tick `t`. -/
def State.past (s : State) (t n : Nat) : Bool :=
  decide (t + n ≤ s.tick)

/-! ### The event queue (R26 to R29) -/

/-- Status codes of Table 13.4. -/
abbrev stOK : Nat := 0
abbrev stBUSY : Nat := 1
abbrev stBADOP : Nat := 2
abbrev stBADPARAM : Nat := 3
abbrev stNOPERM : Nat := 4
abbrev stLOCKED : Nat := 5
abbrev stDOMOFF : Nat := 6
abbrev stTIMEOUT : Nat := 7
abbrev stCONFLICT : Nat := 8
abbrev stDEFERRED : Nat := 9
abbrev stVERSION : Nat := 10
abbrev stTEMP : Nat := 11
abbrev stFLOOR : Nat := 12

/-- Occupied entries of the event queue; the share checkpoint of R324 is hardware's own and takes no entry. -/
def State.evqFill (s : State) : Nat :=
  (s.cad.queue.filter (fun e => e.act != .share)).length

/-- The checks of R27 on a target tick. -/
def State.scheduleStatus (s : State) (target : Nat) : Nat :=
  if !s.on CAD_STAT.LOCKED then stCONFLICT
  else if s.tick + 2 ^ 38 < target then stBADPARAM
  else if 64 ≤ s.evqFill then stBUSY
  else stOK

/-- Queue an event: a target at or before the current tick fires at the next boundary and is marked LATE (R27). -/
def State.enqueueEvent (s : State) (target : Nat) (a : EvAct) : State :=
  let late := decide (target ≤ s.tick)
  let e : QEvent := { target := target, fire := if late then s.tick + 1 else target, act := a, late := late }
  s.setCad (fun c => { c with queue := c.queue ++ [e] })

/-- A request to schedule an event: its status, and the state with the event queued if it is accepted (R27). -/
def State.schedule (s : State) (target : Nat) (a : EvAct) : Nat × State :=
  let st := s.scheduleStatus target
  (st, if st = stOK then s.enqueueEvent target a else s)

/-- Events due fire in class order, then in the order they were scheduled (R29): the first one due. -/
def firstDue : List QEvent → Option QEvent
  | [] => none
  | e :: t =>
    match firstDue t with
    | none => if e.due then some e else none
    | some f => if e.due && decide (e.act.cls ≤ f.act.cls) then some e else some f

/-- Remove the first entry equal to `e`. -/
def removeEvent (e : QEvent) : List QEvent → List QEvent
  | [] => []
  | f :: t => if f = e then t else f :: removeEvent e t

/-- Take the first event due, if its action is one that `p` accepts.  A LATE event is counted as it fires (R27). -/
def State.takeEvent (s : State) (p : EvAct → Bool) : Option (EvAct × State) :=
  match firstDue s.cad.queue with
  | none => none
  | some e =>
    if p e.act then
      let s := s.setCad (fun c => { c with queue := removeEvent e c.queue })
      let s := if e.late then (s.inc CAD_DEFER_CNT.LATE).raise .CAD_LATE else s
      some (e.act, s)
    else none

end Sys2Proof.Machine
end

