-- ==== Sys2Proof/Machine/Domains.lean ====
section
/-! DEFINITION. Levels in force (R76, R301), and the switched domains: requests, inhibits, tokens, slots, ramps, drains and
forced offs (R86 to R91, R234, R235). -/

namespace Sys2Proof.Machine

/-! ### Levels in force -/

/-- The point the hub has published for sector `s`, as held in holdover (R301, R303). -/
def State.hubPoint (s : State) (k : Nat) : Nat :=
  let p := at0 s.eng.force.pts k
  if s.on RC_STAT.HOLDOVER && (s.infOn RC_CTRL.HOLD_MODE || s.rc.storm) then min p (s.inf RC_CTRL.HOLDOVER_POINT) else p

/-- The rim ceiling of rail group `g` (R75); the always-on group always reads 0xFF (R76). -/
def State.ceil (s : State) (g : Nat) : Nat :=
  if s.rd RG_CFG.TYPE g = 4 then 255 else s.rd RG_STAT.CEIL g

/-- The lower of the core and SRAM ceilings of a sector (R76, word 0x070). -/
def State.rimCeil (s : State) (k : Nat) : Nat :=
  min (s.ceil k) (s.ceil (if k < 3 then 6 else 7))

/-- The point at which sector `k` runs (R76). -/
def State.pointInForce (s : State) (k : Nat) : Nat :=
  min (s.hubPoint k) (s.rimCeil k)

/-- The lane level of link group 8 or 9, or the bandwidth step of the stack group, as published. -/
def State.hubLevelOf (s : State) (g : Nat) : Nat :=
  if g = 8 then s.eng.force.lnk8 else if g = 9 then s.eng.force.lnk9 else s.eng.force.bw

def State.levelInForce (s : State) (g : Nat) : Nat :=
  min (s.hubLevelOf g) (s.ceil g)

/-- The sectors an SRAM group feeds (Table 3.1). -/
def sramSectors (g : Nat) : List Nat :=
  if g = 6 then [0, 1, 2] else [3, 4, 5]

def maxOf (l : List Nat) : Nat :=
  l.foldl max 0

/-- The level the actuator of group `g` applies at the moment (R82); an SRAM group acts on the highest of its sectors. -/
def State.inForceLevel (s : State) (g : Nat) : Nat :=
  let t := s.rd RG_CFG.TYPE g
  if t = 0 then s.pointInForce g
  else if t = 1 then maxOf ((sramSectors g).map s.pointInForce)
  else if t = 4 then 255
  else s.levelInForce g

/-- The level the hub requests of group `g` (R85). -/
def State.hubRequest (s : State) (g : Nat) : Nat :=
  let t := s.rd RG_CFG.TYPE g
  if t = 0 then s.hubPoint g
  else if t = 1 then maxOf ((sramSectors g).map s.hubPoint)
  else if t = 4 then 255
  else s.hubLevelOf g

/-- The floor of a rail group's ceiling (Table 3.1). -/
def State.floorOf (s : State) (g : Nat) : Nat :=
  if s.rd RG_CFG.TYPE g = 2 then 4 else 0

/-! ### Domain records -/

/-- States of a domain (Table 3.11). -/
abbrev dOFF : Nat := 0
abbrev dUP : Nat := 1
abbrev dSETTLE : Nat := 2
abbrev dON : Nat := 3
abbrev dDRAIN : Nat := 4
abbrev dDOWN : Nat := 5

def State.dom (s : State) (n : Nat) : Dom :=
  Table.get {} s.rim.doms n

def State.setDom (s : State) (n : Nat) (f : Dom → Dom) : State :=
  s.setRim (fun r => { r with doms := Table.upd {} r.doms n f })

def State.dstate (s : State) (n : Nat) : Nat :=
  s.rd SWD_STAT.STATE n

def State.present (s : State) (n : Nat) : Bool :=
  decide (n < 248) && s.on SWD_CFG.PRESENT n

def isCluster (n : Nat) : Bool := decide (n < 192)
def isStack (n : Nat) : Bool := decide (192 ≤ n) && decide (n < 200)
def isLink (n : Nat) : Bool := decide (200 ≤ n) && decide (n < 232)

/-- Present clusters, rising. -/
def State.clusters (s : State) : List Nat :=
  idx 192 s.present

/-- The clusters of sector `k`, in order (R86). -/
def State.sectorClusters (s : State) (k : Nat) : List Nat :=
  s.clusters.filter (fun n => s.rd SWD_CFG.RG n == k)

/-- The switched domains of a rail group. -/
def State.groupDomains (s : State) (g : Nat) : List Nat :=
  idx 248 (fun n => s.present n && s.rd SWD_CFG.RG n == g)

/-- A tick boundary has passed and no sub-tick of the tick has begun (R87). -/
def State.atBoundary (s : State) : Bool :=
  s.rim.sub == 0

/-! ### Requests -/

/-- The first refusal of an on request, in the order of R91, R279 and R429. -/
def State.onRefusal (s : State) (n : Nat) : Option Nat :=
  let cool := s.on RIM_STAT.COOL_STOP
  let rest := s.rd RIM_STAT.REST_STATE != 0
  if isCluster n then
    if cool then some stCONFLICT
    else if s.on RIM_STAT.PWR_INHIBIT then some stTEMP
    else if !s.locks.cfg then some stCONFLICT
    else if rest then some stCONFLICT
    else if s.rd MG_CL.STATE n = 2 then some stCONFLICT
    else if !s.rim.flowSeen then some stCONFLICT
    else none
  else if isLink n then
    if cool || !s.rim.flowSeen then some stCONFLICT else none
  else if isStack n then
    if rest then some stCONFLICT else none
  else none

/-- The refusal of an off request: a stack domain outside RUN (R91). -/
def State.offRefusal (s : State) (n : Nat) : Option Nat :=
  if isStack n && s.rd RIM_STAT.REST_STATE != 0 then some stCONFLICT else none

/-- The inhibits of R91 that cancel a pending on of a cluster domain. -/
def State.inhibited (s : State) : Bool :=
  s.on RIM_STAT.COOL_STOP || s.on RIM_STAT.PWR_INHIBIT || !s.locks.cfg || s.rd RIM_STAT.REST_STATE != 0

/-- The outstanding command waits for domain `n` to reach ON (`on`) or OFF, and has not failed. -/
def waitsFor (n : Nat) (on : Bool) (o : Outstanding) : Bool :=
  match o.wait with
  | .domains f c b _ => b == on && decide (f ≤ n) && decide (n < f + c) && !o.reached.contains n && o.failed.isNone
  | _ => false

/-- The request of domain `n` for ON (`on`) or OFF ends without effect: commands that wait for it fail with `st` (R346). -/
def State.failRequest (s : State) (n st : Nat) (on : Bool := true) : State :=
  s.setCmd (fun c => { c with out := c.out.map (fun o => if waitsFor n on o then { o with failed := some (n, st) } else o) })

/-- Domain `n` has reached ON (`on`) or OFF. -/
def State.reach (s : State) (n : Nat) (on : Bool) : State :=
  s.setCmd (fun c => { c with
    out := c.out.map (fun o => if waitsFor n on o then { o with reached := o.reached ++ [n] } else o) })

/-- The request of domain `n` is abandoned or met: its token returns and its tries are forgotten (R234). -/
def State.endRequest (s : State) (n : Nat) : State :=
  s.setDom n (fun d => { d with token := none, tries := 0, backoff := none, recovery := false })

/-- The state in which domain `n` meets a request: one that was forced off in this sub-tick is on its way down. -/
def State.seqState (s : State) (n : Nat) : Nat :=
  if s.rim.forcing.contains n then dDOWN else s.dstate n

/-- An on request for domain `n`, taken at the next tick boundary (R87, Table 3.3).  A recovery step requests at the boundary
itself, ends the backoff of a request that waits and frees it of the headroom test (R234, R293). -/
def State.requestOn (s : State) (n : Nat) (recovery : Bool := false) : State :=
  let t := if recovery then s.tick else s.tick + 1
  match s.seqState n with
  | 0 =>
    if s.rd SWD_STAT.PEND n = 1 || (s.dom n).backoff.isSome then
      if recovery then s.setDom n (fun d => { d with bound := t, first := t, tries := 0, backoff := none, recovery := true }) else s
    else (s.wr SWD_STAT.PEND n 1).setDom n
      (fun d => { d with reqTick := s.tick, bound := t, first := t, tries := 0, recovery := recovery, idleOff := false })
  | 4 | 5 =>
    (s.wr SWD_STAT.PEND n 1).setDom n
      (fun d => { d with nextReq := s.tick, bound := t, first := t, tries := 0, recovery := recovery, idleOff := false })
  | _ =>
    let s := (if s.rd SWD_STAT.PEND n = 2 then s.failRequest n stCONFLICT false else s).wr SWD_STAT.PEND n 0
    s.setDom n (fun d => { d with idleOff := false })

/-- An off request for domain `n`, taken at the next tick boundary (R87, Table 3.3). -/
def State.requestOff (s : State) (n : Nat) : State :=
  match s.seqState n with
  | 1 | 2 | 3 => (s.wr SWD_STAT.PEND n 2).setDom n (fun d => { d with reqTick := s.tick, bound := s.tick + 1, idleOff := false })
  | 0 =>
    let s := if s.rd SWD_STAT.PEND n = 1 then s.failRequest n stCONFLICT else s
    (((s.wr SWD_STAT.PEND n 0).wr SWD_STAT.WAIT_SLOT n 0).endRequest n).setDom n (fun d => { d with idleOff := false })
  | _ =>
    let s := if s.rd SWD_STAT.PEND n = 1 then s.failRequest n stCONFLICT else s
    (s.wr SWD_STAT.PEND n 0).endRequest n

/-! ### Tokens and slots (R88, R234) -/

/-- The partition of a cluster, as assigned at the last boundary (R219). -/
def State.partOf (s : State) (c : Nat) : Option Nat :=
  Table.get none s.bg.assign c

def State.part (s : State) (p : Nat) : Part :=
  Table.get {} s.bg.parts p

/-- The class of partition `p` is in force: bit 2 A, bit 1 B, bit 0 C. -/
def State.classInForce (s : State) (cls : Nat) : Bool :=
  decide (1 ≤ cls) && decide (cls ≤ 3) && (s.rd BG_STAT.IN_FORCE).testBit (3 - cls)

/-- The price of a cluster at its sector's point, 0.25 W, rounded up; the manual prices no other domain (log entry 24). -/
def State.price (s : State) (n : Nat) : Nat :=
  match s.bg.image with
  | none => 0
  | some im =>
    if isCluster n then
      let k := s.rd SWD_CFG.RG n
      (((im.comp.getD k []).getD (s.pointInForce k) 0).ceil).toNat
    else 0

/-- Tokens outstanding, 0.25 W. -/
def State.tokensOut (s : State) : Nat :=
  (s.rim.doms.map (fun d => d.2.token.getD 0)).foldl (· + ·) 0

/-- A token without the headroom test (R234). -/
def State.tokenExempt (s : State) (n : Nat) : Bool :=
  (s.dom n).recovery ||
    (isCluster n && match s.partOf n with
      | some p => s.classInForce (s.part p).cls
      | none => false)

/-- A budget token can be had for domain `n`. -/
def State.tokenFree (s : State) (n : Nat) : Bool :=
  (s.dom n).token.isSome || s.tokenExempt n ||
    decide (s.rd EM_PDIE.P_1MS + s.tokensOut + s.price n ≤ s.rd BG_CAP.P_CAP)

def State.takeToken (s : State) (n : Nat) : State :=
  if (s.dom n).token.isSome then s else s.setDom n (fun d => { d with token := some (s.price n) })

/-- Five microseconds in OFF have passed (R89). -/
def State.offElapsed (s : State) (n : Nat) : Bool :=
  !s.on SWD_STAT.MINOFF n || decide ((s.dom n).since + 50 ≤ s.rim.now)

/-- Domain `n` could start a ramp at this boundary if a slot were free. -/
def State.wantsSlot (s : State) (n : Nat) : Bool :=
  let d := s.dom n
  (s.dstate n == dOFF && s.rd SWD_STAT.PEND n == 1 && decide (d.bound ≤ s.tick) && s.offElapsed n && d.backoff.isNone
      && s.tokenFree n
      && !(isCluster n && s.inhibited))
    || (s.dstate n == dDRAIN && d.gated && !d.wave && decide (d.since + 10 ≤ s.rim.now) && !s.rim.forcing.contains n)

/-- Domain `m` is served before domain `n`: by request tick, then by number (R88). -/
def State.before (s : State) (m n : Nat) : Bool :=
  decide ((s.dom m).reqTick < (s.dom n).reqTick) || ((s.dom m).reqTick == (s.dom n).reqTick && decide (m < n))

/-- A ramp slot of the group of `n` is free for `n` at this boundary (R88). -/
def State.slotFree (s : State) (n : Nat) : Bool :=
  let g := s.rd SWD_CFG.RG n
  let ahead := (s.groupDomains g).filter (fun m => m != n && s.wantsSlot m && s.before m n)
  decide (s.rd RG_STAT.RAMPS g + ahead.length < s.inf RG_CFG.SLOTS g)

def State.takeSlot (s : State) (n : Nat) : State :=
  let g := s.rd SWD_CFG.RG n
  ((s.inc RG_STAT.RAMPS g).wr SWD_STAT.WAIT_SLOT n 0).setDom n (fun d => { d with slot := true })

def State.freeSlot (s : State) (n : Nat) : State :=
  if (s.dom n).slot then
    let g := s.rd SWD_CFG.RG n
    (s.wr RG_STAT.RAMPS g (s.rd RG_STAT.RAMPS g - 1)).setDom n (fun d => { d with slot := false })
  else s

/-- A ramp that cannot start for want of a slot waits (R88). -/
def State.waitSlot (s : State) (n : Nat) : State :=
  if s.on SWD_STAT.WAIT_SLOT n then s else (s.wr SWD_STAT.WAIT_SLOT n 1).raise .RIM_SLOT_WAIT (arg0 n 0)

/-- Enter a state at this sub-tick. -/
def State.enter (s : State) (n st : Nat) : State :=
  (s.wr SWD_STAT.STATE n st).setDom n (fun d => { d with since := s.rim.now })

/-- `k` sub-ticks have passed since domain `n` entered its state. -/
def State.spent (s : State) (n k : Nat) : Bool :=
  decide ((s.dom n).since + k ≤ s.rim.now) && !s.rim.forcing.contains n

/-- A cluster forced off in ENTRY or WAKE leaves the wake set (R98). -/
def State.dropWake (s : State) (n : Nat) : State :=
  let r := s.rd RIM_STAT.REST_STATE
  if isCluster n && (r == 1 || r == 3) then s.wrBit REST_MASK.WAKE (n / 32) (n % 32) false else s

/-- The shaper of a cell takes step `st` at source cycle `cyc`; the cycles of a feather that ends are counted (R48, R53). -/
def Sent.shape (x : Sent) (cyc st : Nat) : Sent :=
  { x with
    fthFrom := if st = 0 then 0 else if x.step = 0 then cyc else x.fthFrom,
    fthCyc := if st = 0 && decide (0 < x.step) then x.fthCyc + (cyc - x.fthFrom) else x.fthCyc,
    step := st,
    deep := max x.deep st }

/-- A feather ends at once, its hold and its return discarded (R42, R57). -/
def Sent.unshape (x : Sent) (cyc : Nat) : Sent :=
  { x.shape cyc 0 with returning := false }

/-- The comparators of a cell are disarmed: any feather and any injection of it ends (R42). -/
def State.disarm (s : State) (n : Nat) : State :=
  if isCluster n then
    (s.wr SNT_STAT.ARMED n 0).setSpk (fun k => { k with
      sents := Table.upd {} k.sents n (fun x => { x.unshape (at0 k.src n) with trip := false, inj := none }) })
  else s

/-- A forced off (Table 3.3): clock gated and isolation applied now, RAMP_DOWN in the next sub-tick, no slot. -/
def State.forceOff (s : State) (n : Nat) : State :=
  let s := s.dropWake n
  match s.seqState n with
  | 0 =>
    let s := if s.rd SWD_STAT.PEND n = 1 then s.failRequest n stCONFLICT else s
    ((s.wr SWD_STAT.PEND n 0).wr SWD_STAT.WAIT_SLOT n 0).endRequest n
  | 5 =>
    let s := s.failRequest n stCONFLICT
    (((s.wr SWD_STAT.PEND n 0).wr SWD_STAT.FORCED n 1).endRequest n).raise .RIM_FORCED_OFF (arg0 n 0)
  | st =>
    let s := if st = dON then s else s.failRequest n stCONFLICT
    let s := (s.freeSlot n).endRequest n
    let s := ((s.wr SWD_STAT.PEND n 0).wr SWD_STAT.FORCED n 1).wr SWD_STAT.WAIT_SLOT n 0
    let s := s.setDom n (fun d => { d with gated := true, wave := false, idleOff := false })
    (s.setRim (fun r => { r with forcing := r.forcing ++ [n] })).raise .RIM_FORCED_OFF (arg0 n 0)

def State.forceOffAll (s : State) (l : List Nat) : State :=
  l.foldl State.forceOff s

/-- Cancel the pending on of cluster `n` when an inhibit arises (R91). -/
def State.cancelOn (s : State) (n : Nat) : State :=
  if s.rd SWD_STAT.PEND n = 1 then
    let s := ((s.wr SWD_STAT.PEND n 0).wr SWD_STAT.WAIT_SLOT n 0).failRequest n stCONFLICT
    (s.endRequest n).raiseLog .RIM_CANCELLED (arg0 n 0)
  else s

def State.cancelInhibited (s : State) : State :=
  if s.inhibited then s.clusters.foldl State.cancelOn s else s

/-! ### Switch, isolation and quiesce outputs (R417) -/

/-- The stages of DOM_SW_n that are closed, counted from stage 0. -/
def State.switchStages (s : State) (n : Nat) : Nat :=
  let k := (s.rim.now - (s.dom n).since) / 5
  match s.dstate n with
  | 0 => 0
  | 1 => min 4 (k + 1)
  | 5 => min (s.dom n).stages (3 - k)
  | _ => 4

/-- DOM_ISO_n: applied after the tick of DRAIN, and by a forced off at once (Table 3.3). -/
def State.isolated (s : State) (n : Nat) : Bool :=
  match s.dstate n with
  | 3 => s.rim.forcing.contains n
  | 4 => s.rim.forcing.contains n || ((s.dom n).gated && decide ((s.dom n).since + 10 ≤ s.rim.now))
  | _ => true

/-- DOM_QSC_n: asserted for the tick of DRAIN. -/
def State.quiesced (s : State) (n : Nat) : Bool :=
  s.dstate n == dDRAIN && !s.isolated n

end Sys2Proof.Machine
end

