-- ==== Sys2Proof/Machine/RimLevel.lean ====
section
/-! DEFINITION. The rim level (chapter 3): the current windows and ceilings of every sub-tick, the domain sequencer, the
coolant stop and Rest. -/

namespace Sys2Proof.Machine

/-! ### Samples and windows (R77 to R85) -/

def State.grp (s : State) (g : Nat) : Grp :=
  Table.get {} s.rim.groups g

def State.setGrp (s : State) (g : Nat) (f : Grp → Grp) : State :=
  s.setRim (fun r => { r with groups := Table.upd {} r.groups g f })

/-- Append to a ring of at most `n` entries, newest last. -/
def pushRing (n : Nat) (l : List Nat) (x : Nat) : List Nat :=
  let l := l ++ [x]
  if n < l.length then l.drop (l.length - n) else l

/-- I_imon from a code (R77). -/
def State.imonCurrent (s : State) (g c : Nat) : Nat :=
  let v : Int := ((c : Int) - s.rdS RG_IMON_CAL.OFFSET g) * (s.rd RG_IMON_CAL.GAIN g : Int)
  if v < 0 then 0 else min (v.toNat / 512) 0xFFFF

/-- Run counts of a code (R80). -/
def countCode (c : Nat) (x : Grp) : Grp :=
  if c ≤ 1 then { x with low := x.low + 1, high := 0, good := 0 }
  else if 1022 ≤ c then { x with low := 0, high := x.high + 1, good := 0 }
  else { x with low := 0, high := 0, good := x.good + 1 }

/-- The input counts as valid in this sub-tick (R80). -/
def Grp.imonOk (x : Grp) : Bool :=
  if x.valid then decide (x.low < 10) && decide (x.high < 10) else decide (1000 ≤ x.good)

/-- The sample that SRC selects, none if both sources are invalid (R79). -/
def State.sample (s : State) (g c : Nat) : Option Nat :=
  let x := s.grp g
  let i := s.imonCurrent g c
  let a := s.rd RG_I_L.I_ACT g
  match x.imonOk, x.actValid with
  | false, false => none
  | true, false => some i
  | false, true => some a
  | true, true =>
    let src := s.inf RG_CFG.SRC g
    if src = 1 then some i else if src = 2 then some a else some (max i a)

/-- Advance the windows with one sample; block sums are taken at the end of sub-tick 9 (R81). -/
def advance (last : Bool) (x : Nat) (w : Grp) : Grp :=
  let ring := pushRing 10 w.ring x
  let sS := sumOf ring
  if last then
    let blk := pushRing 10 w.blk sS
    let blkL := pushRing 100 w.blkL sS
    { w with ring := ring, s := sS, blk := blk, m := sumOf blk, blkL := blkL, l := sumOf blkL }
  else { w with ring := ring, s := sS }

/-- FAULT_PT in force: for link groups a value below 4 is read as 4 (Table 3.9). -/
def State.faultPt (s : State) (g : Nat) : Nat :=
  let v := s.inf RG_CFG.FAULT_PT g
  if s.rd RG_CFG.TYPE g = 2 then max v 4 else v

/-- One over-limit flag: an onset counts and raises ILIMIT (Table 3.9). -/
def State.overFlag (s : State) (F C : Fld) (g : Nat) (o : Bool) : State :=
  let s := if o && !s.on F g then (s.inc C g).raise .RIM_ILIMIT (arg0 g 0) else s
  s.wrB F g o

/-- A group's windows, drive and rise count in one sub-tick (R79 to R85).  RIM_EVT.AT_FLOOR is raised once, where a drive first
meets the floor, and not again in each of its sub-ticks: DESIGN CHOICE, the manual does not say (log entry 110). -/
def State.groupSubtick (s : State) (last first : Bool) (g c : Nat) : State :=
  let s := s.wr RG_STAT.IMON_CODE g c
  let s := s.setGrp g (countCode c)
  let x := s.sample g c
  let s := match x with
    | some v => s.setGrp g (advance last v)
    | none => s
  let w := s.grp g
  let ls := s.inf RG_LIM_SM.I_SHORT g
  let lm := s.inf RG_LIM_SM.I_MID g
  let ll := s.inf RG_LIM_L.I_LONG g
  let overS := decide (10 * ls < w.s)
  let overM := decide (100 * lm < w.m)
  let overL := decide (1000 * ll < w.l)
  let s := s.overFlag RG_STAT.OVER_S RG_OVER_CNT.SHORT g overS
  let s := s.overFlag RG_STAT.OVER_M RG_OVER_CNT.MID g overM
  let s := s.overFlag RG_STAT.OVER_L RG_OVER_CNT.LONG g overL
  let tooHigh := overS || overM || overL
  let s := s.wrBit RIM_STAT.OVER 0 g tooHigh
  let s := s.wr RG_I_SM.I_S g (w.s / 10)
  let s := s.wr RG_I_SM.I_M g (w.m / 100)
  let s := s.wr RG_I_L.I_L g (w.l / 1000)
  if s.rd RG_CFG.TYPE g = 4 then s
  else
    let s := if x.isNone && decide (s.faultPt g < s.rd RG_STAT.CEIL g) then
        let free := s.rd RG_STAT.CEIL g == 255
        (s.wr RG_STAT.CEIL g (s.faultPt g)).setGrp g (fun y => { y with
          riseWait := if free then s.inf RG_CFG.RISE g else y.riseWait, riseDue := false })
      else s
    let drive := overS || (overM && decide (10 * lm ≤ w.s)) || (overL && decide (10 * ll ≤ w.s))
    let s :=
      if drive then
        let s := if s.rd RG_STAT.CEIL g = 255 then s.wr RG_STAT.CEIL g (s.inForceLevel g) else s
        let s := s.setGrp g (fun y => { y with riseWait := s.inf RG_CFG.RISE g, riseDue := false })
        if s.floorOf g < s.rd RG_STAT.CEIL g then s.wr RG_STAT.CEIL g (s.rd RG_STAT.CEIL g - 1)
        else if s.on RG_STAT.AT_FLOOR g then s
        else (s.wr RG_STAT.AT_FLOOR g 1).raise .RIM_AT_FLOOR (arg0 g 0)
      else
        let s := s.wr RG_STAT.AT_FLOOR g 0
        if !tooHigh && s.rd RG_STAT.CEIL g != 255 && first then
          let r := (s.grp g).riseWait
          if r ≤ 1 then s.setGrp g (fun y => { y with riseWait := s.inf RG_CFG.RISE g, riseDue := true })
          else s.setGrp g (fun y => { y with riseWait := r - 1 })
        else s
    if last && s.rd RG_STAT.CEIL g != 255 then s.inc RG_LIMITED.TICKS g else s

def State.stk (s : State) (j : Nat) : Stk :=
  Table.get {} s.rim.hbm j

def State.setStk (s : State) (j : Nat) (f : Stk → Stk) : State :=
  s.setRim (fun r => { r with hbm := Table.upd {} r.hbm j f })

/-- STK_SR_REQ falls (R417). -/
def State.dropSelfRefresh (s : State) (j : Nat) : State :=
  if (s.stk j).asked then (s.setStk j (fun _ => {})).drive (.selfRefresh j false) else s

/-- A domain enters RAMP_DOWN: a cluster's comparators are disarmed (R42), a stack's self-refresh request falls (R417). -/
def State.enterDown (s : State) (n : Nat) : State :=
  let s := s.disarm n
  let c := s.switchStages n
  let s := (s.setDom n (fun d => { d with stages := c })).enter n dDOWN
  if isStack n then s.dropSelfRefresh (n - 192) else s

/-- Domains forced off in the last sub-tick enter RAMP_DOWN (Table 3.3). -/
def State.forcedDown (s : State) : State :=
  let l := s.rim.forcing
  let s := s.setRim (fun r => { r with forcing := [] })
  l.foldl State.enterDown s

/-- One sample of COOL_FAULT_N (R92, R93). -/
def State.coolSample (s : State) (low : Bool) : State :=
  let run := if low then s.rim.lowRun + 1 else 0
  let s := s.setRim (fun r => { r with lowRun := run, lowSeen := r.lowSeen || low })
  let known := decide (2 ≤ run)
  let s := s.wrB RIM_STAT.COOL_FAULT 0 known
  if known then (s.wr FLOW_GOOD_TICKS.TICKS 0 0).wr RIM_STAT.FLOW_GOOD_1S 0 0 else s

/-- One sub-tick (R436): samples, windows, ceilings, the coolant sample and the forced offs of the one before. -/
def State.runSubtick (s : State) (codes : List Nat) (low : Bool) (src : List Nat) : State :=
  let k := s.rim.sub
  let s := (s.setSpk (fun k => { k with src := src })).forcedDown
  let s := upTo 12 (fun g s => s.groupSubtick (k == 9) (k == 0) g (at0 codes g % 1024)) s
  let s := s.coolSample low
  s.setRim (fun r => { r with sub := k + 1, now := r.now + 1, codes := codes })

/-- The sub-ticks of the ending tick not yet begun run at once with the latest codes (R436).  The stretch from POR to the first
tooth counts as a tick here, with code 0 and a high coolant sample until others are taken: DESIGN CHOICE, the manual does
not say (log entry 110). -/
def State.flushSubticks (s : State) (src : List Nat) : State :=
  upTo (10 - s.rim.sub) (fun _ s => s.runSubtick s.rim.codes (decide (0 < s.rim.lowRun)) src) s

/-! ### Commands of the windows -/

/-- SUBTICK (R436, R77 to R85, R92): one sub-tick of the tick; no eleventh sample is taken. -/
def execSubtick (x : SubtickIn) (coolLow : Bool) (s : State) : Host.Outcome State Fault Refusal :=
  let s := s.quiet
  .next (if s.rim.sub < 10 then s.runSubtick x.codes coolLow x.src else s)

/-- CEIL_RISE (R85): the ceiling rises one level and is released above the level the hub requests. -/
def execCeilRise (g : Nat) (s : State) : Host.Outcome State Fault Refusal :=
  let s := s.quiet
  .next (if 12 ≤ g then s else if (s.grp g).riseDue && s.rd RG_STAT.CEIL g != 255 && !s.bit RIM_STAT.OVER g then
      let s := s.setGrp g (fun y => { y with riseDue := false })
      let c := s.rd RG_STAT.CEIL g + 1
      let c := if s.hubRequest g < c then 255 else c
      s.wr RG_STAT.CEIL g (if (s.sample g (s.rd RG_STAT.IMON_CODE g)).isNone then min c (s.faultPt g) else c)
    else s)

/-- IMON_FAULT (R80): ten consecutive codes at a rail make a valid input invalid. -/
def execImonFault (g : Nat) (s : State) : Host.Outcome State Fault Refusal :=
  let s := s.quiet
  let x := s.grp g
  .next (if 12 ≤ g then s else if x.valid && (decide (10 ≤ x.low) || decide (10 ≤ x.high)) then
      ((s.setGrp g (fun y => { y with valid := false })).wr RG_STAT.IMON_FAULT g 1).raise .RIM_IMON_FAULT (arg0 g 0)
    else s)

/-- IMON_VALID (R80): 1,000 consecutive in-range codes make the input valid. -/
def execImonValid (g : Nat) (s : State) : Host.Outcome State Fault Refusal :=
  let s := s.quiet
  let x := s.grp g
  .next (if 12 ≤ g then s else if !x.valid && decide (1000 ≤ x.good) then
      (s.setGrp g (fun y => { y with valid := true })).wr RG_STAT.IMON_FAULT g 0
    else s)

/-! ### The domain sequencer (Table 3.3) -/

/-- DOMAIN_RAMP_EVENT (R87): the class-1 event due requests its domains at this boundary. -/
def execDomainRampEvent (s : State) : Host.Outcome State Fault Refusal :=
  let s := s.quiet
  .next (match s.takeEvent (fun a => match a with | .domains _ _ _ _ => true | _ => false) with
    | some (.domains f c on id, s) =>
      let l := ((List.range c).map (· + f)).filter s.present
      let bad := l.filter (fun n => (if on then s.onRefusal n else s.offRefusal n).isSome)
      match bad with
      | n :: _ =>
        let st := ((if on then s.onRefusal n else s.offRefusal n).getD stCONFLICT)
        s.setCmd (fun q => { q with out := q.out.map (fun o =>
          if some o.id == id then { o with failed := some (n, st), wait := .domains f c on false } else o) })
      | [] =>
        let met := l.filter (fun n => s.dstate n == if on then dON else dOFF)
        let s := s.setCmd (fun q => { q with out := q.out.map (fun o =>
          if some o.id == id then { o with wait := .domains f c on false, reached := met } else o) })
        l.foldl (fun s n => (if on then s.requestOn n else s.requestOff n).setDom n (fun d => { d with bound := s.tick })) s
    | _ => s)

/-- RAMP_UP_START (R88 to R90, R234): token, slot and request entry, in that order, or the wait for a slot. -/
def execRampUpStart (n : Nat) (s : State) : Host.Outcome State Fault Refusal :=
  let s := s.quiet
  .next (if 248 ≤ n then s else if s.atBoundary && s.present n && s.dstate n == dOFF && s.rd SWD_STAT.PEND n == 1 && s.offElapsed n
        && decide ((s.dom n).bound ≤ s.tick) && (s.dom n).backoff.isNone && !(isCluster n && s.inhibited) then
      if !s.tokenFree n then s
      else
        let s := s.takeToken n
        if s.slotFree n then (((s.takeSlot n).wr SWD_STAT.PEND n 0).wr SWD_STAT.MINOFF n 0).enter n dUP
        else s.waitSlot n
    else s)

/-- RAMP_UP_END (R90): SETTLE, and the slot is released. -/
def execRampUpEnd (n : Nat) (s : State) : Host.Outcome State Fault Refusal :=
  let s := s.quiet
  .next (if 248 ≤ n then s else if s.dstate n == dUP && s.spent n 20 then (s.freeSlot n).enter n dSETTLE else s)

/-- SETTLE_END (R90): ON with power good, PEND kept; otherwise forced off with RAMP_FAULT. -/
def execSettleEnd (n : Nat) (pg : Bool) (s : State) : Host.Outcome State Fault Refusal :=
  let s := s.quiet
  .next (if 248 ≤ n then s else if s.dstate n == dSETTLE && s.spent n 5 then
      if pg then
        let held := (s.dom n).wave && s.rd RIM_STAT.REST_STATE == 3
        let s := (s.enter n dON).setDom n (fun d => { d with gated := held, wave := held })
        let s := ((s.wr SWD_STAT.FORCED n 0).inc SWD_STAT.ONS n).endRequest n
        let s := if isCluster n then s.wr SNT_STAT.ARMED n 1 else s
        s.reach n true
      else (s.forceOff n).raiseLog .RIM_RAMP_FAULT (arg0 n 0)
    else s)

/-- DRAIN_START (R90): an ON domain with an off request enters DRAIN and its agent is told to quiesce; a domain of a wake
leaves its wave, its clock gate held closed. -/
def execDrainStart (n : Nat) (s : State) : Host.Outcome State Fault Refusal :=
  let s := s.quiet
  .next (if 248 ≤ n then s else if s.atBoundary && s.dstate n == dON && s.rd SWD_STAT.PEND n == 2 && decide ((s.dom n).bound ≤ s.tick) then
      let s := (s.wr SWD_STAT.PEND n 0).setDom n (fun d => { d with wave := false })
      (s.enter n dDRAIN).drive (.quiesce n)
    else s)

/-- DRAIN_END (R90): after one tick of DRAIN the clock is gated and isolation applied. -/
def execDrainEnd (n : Nat) (s : State) : Host.Outcome State Fault Refusal :=
  let s := s.quiet
  .next (if 248 ≤ n then s else if s.dstate n == dDRAIN && s.spent n 10 && !(s.dom n).gated then s.setDom n (fun d => { d with gated := true })
    else s)

/-- RAMP_DOWN_START (R88, R90): a gated DRAIN domain, its tick of DRAIN over, takes a free slot and enters RAMP_DOWN, or waits
for a slot. -/
def execRampDownStart (n : Nat) (s : State) : Host.Outcome State Fault Refusal :=
  let s := s.quiet
  .next (if 248 ≤ n then s else if s.dstate n == dDRAIN && (s.dom n).gated && !(s.dom n).wave && s.spent n 10 then
      if s.slotFree n then (s.takeSlot n).enterDown n else s.waitSlot n
    else s)

/-- The end of RAMP_DOWN (R90): OFF, the slot released, the off timer started (R89). -/
def State.rampDownEnd (s : State) (n : Nat) : State :=
  if 248 ≤ n then s
  else if s.dstate n == dDOWN && s.spent n 20 then
    let s := ((s.freeSlot n).enter n dOFF).wr SWD_STAT.MINOFF n 1
    (s.setDom n (fun d => { d with wave := false, reqTick := d.nextReq })).reach n false
  else s

/-! ### Rest commands that wait (R97, R98, R346) -/

/-- The command waits for REST (`enter`) or for RUN. -/
def waitsRest (enter : Bool) (o : Outstanding) : Bool :=
  match o.wait with
  | .restEnter => enter && o.failed.isNone
  | .restExit => !enter && o.failed.isNone
  | _ => false

/-- The Rest state that REST_ENTER (`enter`) or REST_EXIT waits for is reached. -/
def State.restDone (s : State) (enter : Bool) : State :=
  s.setCmd (fun c => { c with out := c.out.map (fun o => if waitsRest enter o then { o with reached := [0] } else o) })

/-- The Rest requests of one kind that have not been met end without effect. -/
def State.restFail (s : State) (enter : Bool) : State :=
  s.setCmd (fun c => { c with out := c.out.map (fun o =>
    if waitsRest enter o && o.reached.isEmpty then { o with failed := some (0, stCONFLICT) } else o) })

/-! ### Coolant stop (R92, R93) -/

/-- Stack controllers whose domains are powered are told to enter self-refresh, to be confirmed within `k` sub-ticks. -/
def State.askSelfRefresh (s : State) (cool : Bool) (k : Nat) : State :=
  (idx 8 (fun j => s.present (192 + j) && s.seqState (192 + j) != dOFF && s.seqState (192 + j) != dDOWN)).foldl (fun s j =>
    (s.setStk j (fun x => { asked := true, confirmed := x.confirmed, deadline := some (s.rim.now + k),
                            cool := x.cool || cool })).drive (.selfRefresh j true)) s

/-- Stack controllers told to leave self-refresh (R95). -/
def State.endSelfRefresh (s : State) : State :=
  (List.range 8).foldl State.dropSelfRefresh s

/-- COOL_STOP (R92, R98, Table 3.4): latched on two consecutive low samples. -/
def execCoolStop (s : State) : Host.Outcome State Fault Refusal :=
  let s := s.quiet
  .next (if decide (2 ≤ s.rim.lowRun) && !s.on RIM_STAT.COOL_STOP then
      let s := ((s.wr RIM_STAT.COOL_STOP 0 1).inc COOL_CNT.STOPS).raise .RIM_COOL_STOP
      let s := (s.traceEvent 5).errRecord 0x02000000
      let s := s.clusters.foldl (fun s n => s.setDom n (fun d => { d with gated := true })) s
      let s := s.cancelInhibited
      let s := s.forceOffAll (idx 232 (fun n => s.present n && (isCluster n || isLink n)))
      let s := s.askSelfRefresh true 48
      ((s.restFail true).restFail false).setRim (fun r => { r with
        restHeld := none, coolRest := s.rd RIM_STAT.REST_STATE != 0 })
    else s)

/-- The actions of Table 3.4 are complete: clusters and links OFF, every stack that was told has been judged. -/
def State.coolDone (s : State) : Bool :=
  (idx 232 (fun n => s.present n && (isCluster n || isLink n))).all (fun n => s.dstate n == dOFF)
    && (List.range 8).all (fun j => !(s.stk j).asked || (s.stk j).confirmed || (s.stk j).deadline.isNone)

/-- After a coolant stop in a Rest state: RUN once its actions are complete, and the wake set cleared (R98). -/
def State.coolRestEnd (s : State) : State :=
  if s.rim.coolRest && s.coolDone then
    let s := upTo 6 (fun k s => s.wr REST_MASK.WAKE k 0) (s.wr RIM_STAT.REST_STATE 0 0)
    ((s.restFail true).restFail false).setRim (fun r => { r with coolRest := false, wakeList := [], restHeld := none })
  else s

/-- FLOW_GOOD_TICKS at the end of a tick (R93), the minimum off time and REST_TICK, then sub-tick 0 of the new tick.  A request
that the minimum off time held makes its first attempt at this boundary (R235). -/
def State.rimBoundary (s : State) : State :=
  let s := if s.rim.lowSeen then s else s.incSat FLOW_GOOD_TICKS.TICKS 0 1
  let s := upTo 248 (fun n s =>
    if s.on SWD_STAT.MINOFF n && decide ((s.dom n).since + 50 ≤ s.rim.now) then
      (s.wr SWD_STAT.MINOFF n 0).setDom n (fun d => { d with first := max d.first s.tick })
    else s) s
  let rs := s.rd RIM_STAT.REST_STATE
  let s := if rs = 1 ∨ rs = 3 then s.wr RIM_STAT.REST_TICK 0 (min 63 (s.tick - s.rim.restAt)) else s
  s.coolRestEnd.setRim (fun r => { r with sub := 0, lowSeen := false })

/-- SELF_REFRESH_ACK (R417): a stack controller confirms self-refresh. -/
def execSelfRefreshAck (j : Nat) (s : State) : Host.Outcome State Fault Refusal :=
  let s := s.quiet
  .next (if 8 ≤ j then s else if (s.stk j).asked then s.setStk j (fun x => { x with confirmed := true }) else s)

/-- SR_FAULT (R92, R94): a stack has not confirmed by its deadline; after a coolant stop its domain is forced off, in Rest
entry it stays in normal operation. -/
def execSrFault (j : Nat) (s : State) : Host.Outcome State Fault Refusal :=
  let s := s.quiet
  let x := s.stk j
  let expired := match x.deadline with
    | some d => decide (d ≤ s.rim.now)
    | none => false
  .next (if 8 ≤ j then s else if x.asked && !x.confirmed && expired then
      let s := (s.setStk j (fun x => { x with deadline := none })).raise .RIM_SR_FAULT (arg0 (192 + j) 0)
      if x.cool then s.forceOff (192 + j) else s
    else s)

/-- FLOW_GOOD_1S (R93, R429): FLOW_GOOD_TICKS has reached 1,000,000. -/
def execFlowGood1s (s : State) : Host.Outcome State Fault Refusal :=
  let s := s.quiet
  .next (if decide (1000000 ≤ s.rd FLOW_GOOD_TICKS.TICKS) && !s.on RIM_STAT.FLOW_GOOD_1S then
      (s.wr RIM_STAT.FLOW_GOOD_1S 0 1).setRim (fun r => { r with flowSeen := true })
    else s)

/-! ### Rest (R94 to R98) -/

/-- Cluster `n` is in the wake set. -/
def State.inWakeSet (s : State) (n : Nat) : Bool :=
  s.bit REST_MASK.WAKE (n % 32) (n / 32)

def State.linksOn (s : State) : List Nat :=
  idx 232 (fun n => isLink n && s.present n && s.dstate n == dON)

/-- REST_ENTRY_START (R94, Table 3.5). -/
def execRestEntryStart (s : State) : Host.Outcome State Fault Refusal :=
  let s := s.quiet
  .next (if s.atBoundary && s.rim.restHeld == some true && s.rd RIM_STAT.REST_STATE == 0 && s.rim.forcing.isEmpty
        && s.clusters.all (fun n => s.dstate n == dON || s.dstate n == dOFF) then
      let s := ((s.wr RIM_STAT.REST_STATE 0 1).wr RIM_STAT.REST_TICK 0 0).cancelInhibited
      let s := s.clusters.foldl (fun s n => ((s.failRequest n stCONFLICT false).wr SWD_STAT.PEND n 0).endRequest n) s
      let s := upTo 6 (fun k s => s.wr REST_MASK.WAKE k 0) s
      let s := (s.clusters.filter (fun n => s.dstate n == dON)).foldl (fun s n =>
        let s := (s.wrBit REST_MASK.WAKE (n / 32) (n % 32) true).enter n dDRAIN
        (s.setDom n (fun d => { d with wave := true })).drive (.quiesce n)) s
      let l := s.linksOn
      let s := l.foldl (fun s n => s.drive (.laneIdle n true)) s
      s.setRim (fun r => { r with laneIdle := l, restHeld := none, restAt := s.tick, nextWave := 1, shift := 0 })
    else s)

/-- The clusters of wave `k` (1 to 4) of Rest entry: the next eight of each sector (R94). -/
def State.entryWave (s : State) (k : Nat) : List Nat :=
  (List.range 6).flatMap (fun g => ((s.sectorClusters g).drop (8 * (k - 1))).take 8)

/-- REST_ENTRY_WAVE (R94): waves 1 to 4 ramp down at 1, 3, 5 and 7 µs; at 9 µs the stacks are told to self-refresh. -/
def execRestEntryWave (k : Nat) (s : State) : Host.Outcome State Fault Refusal :=
  let s := s.quiet
  .next (if s.rd RIM_STAT.REST_STATE == 1 && k == s.rim.nextWave && decide (1 ≤ k) && decide (k ≤ 5)
        && decide (s.rim.restAt + 2 * k - 1 ≤ s.tick) then
      let s := s.setRim (fun r => { r with nextWave := k + 1 })
      if k = 5 then s.askSelfRefresh false 20
      else ((s.entryWave k).filter (fun n => s.dstate n == dDRAIN && (s.dom n).wave)).foldl (fun s n =>
        (s.setDom n (fun d => { d with gated := true })).enterDown n) s
    else s)

/-- REST_ENTERED (R94): at 12 µs. -/
def execRestEntered (s : State) : Host.Outcome State Fault Refusal :=
  let s := s.quiet
  .next (if s.rd RIM_STAT.REST_STATE == 1 && s.rim.nextWave == 6 && decide (s.rim.restAt + 12 ≤ s.tick) then
      ((s.wr RIM_STAT.REST_STATE 0 2).restDone true).raise .RIM_REST_ENTERED
    else s)

/-- The wake set in the round-robin order of R96: the i-th member of each sector in turn. -/
def State.wakeOrder (s : State) : List Nat :=
  (List.range 32).flatMap (fun i => (List.range 6).flatMap (fun g =>
    match ((s.sectorClusters g).filter s.inWakeSet)[i]? with
    | some n => [n]
    | none => []))

/-- Members of wave `k`: member j of N goes to wave floor(18 j / N) (R96). -/
def waveMembers (l : List Nat) (k : Nat) : List Nat :=
  ((List.range l.length).filter (fun j => j * 18 / l.length == k)).map (at0 l)

def State.startWave (s : State) (k : Nat) : State :=
  ((waveMembers s.rim.wakeList k).filter (fun n => s.inWakeSet n && s.dstate n == dOFF)).foldl (fun s n =>
    ((((s.setDom n (fun d => { d with wave := true })).wr SWD_STAT.PEND n 0).wr SWD_STAT.MINOFF n 0).enter n dUP)) s

/-- The next wave is due on a tick that is synthesised, and has not been deferred. -/
def State.waveLate (s : State) : Bool :=
  let k := s.rim.nextWave
  s.rd RIM_STAT.REST_STATE == 3 && decide (k ≤ 17) && !s.rim.waveDeferred && s.on CAD_STAT.LAST_SYNTH
    && s.tick == s.rim.restAt + 2 * k + s.rim.shift

/-- At a boundary of a wake: a wave due on a synthesised tick is deferred once, and every later wave with it (R28, R96). -/
def State.deferWave (s : State) : State :=
  if s.waveLate then
    let s := s.setRim (fun r => { r with waveDeferred := true, shift := r.shift + 1 })
    (s.inc CAD_DEFER_CNT.DEFER).raiseLog .CAD_DEFER (arg0 1 0) (s.tick % 2 ^ 32)
  else s

/-- REST_WAKE_WAVE (R96): the class-1 event of wave `k` fires. -/
def execRestWakeWave (k : Nat) (s : State) : Host.Outcome State Fault Refusal :=
  let s := s.quiet
  .next (if s.rd RIM_STAT.REST_STATE == 3 && k == s.rim.nextWave && decide (k ≤ 17)
        && decide (s.rim.restAt + 2 * k + s.rim.shift ≤ s.tick) then
      (s.setRim (fun r => { r with nextWave := k + 1, waveDeferred := false })).startWave k
    else s)

/-- REST_EXITED (R96): at 40 µs the cluster clock gates open. -/
def execRestExited (s : State) : Host.Outcome State Fault Refusal :=
  let s := s.quiet
  .next (if s.rd RIM_STAT.REST_STATE == 3 && decide (18 ≤ s.rim.nextWave)
        && decide (s.rim.restAt + 40 + s.rim.shift ≤ s.tick) then
      let s := s.wr RIM_STAT.REST_STATE 0 0
      let s := (s.clusters.filter (fun n => s.dstate n == dON && (s.dom n).wave)).foldl (fun s n =>
        s.setDom n (fun d => { d with gated := false, wave := false })) s
      (s.restDone false).raise .RIM_REST_EXITED
    else s)

end Sys2Proof.Machine
end

