-- ==== Sys2Proof/Machine/Flags.lean ====
section
/-! DEFINITION. The check values of the manual: CRC-8 over bits (R70, R105) and CRC-32 over bytes (R434), and the byte
order of words. -/

namespace Sys2Proof.Machine

/-- One bit into a CRC-8 of polynomial 0x07. -/
def crc8Bit (c : Nat) (b : Bool) : Nat :=
  let top := decide (128 ≤ c) != b
  let c := c * 2 % 256
  if top then Nat.xor c 7 else c

/-- The bits of `v` from bit `n − 1` down to bit 0 into a CRC-8. -/
def crc8Bits : Nat → Nat → Nat → Nat
  | 0, _, c => c
  | n + 1, v, c => crc8Bits n v (crc8Bit c (v.testBit n))

/-- CRC-8 over 32-bit words, most significant bit first, from 0 (log entry 13). -/
def crc8Words : List Nat → Nat → Nat
  | [], c => c
  | w :: ws, c => crc8Words ws (crc8Bits 32 w c)

/-- One byte into the reflected CRC-32 register. -/
def crc32Byte (c b : Nat) : Nat :=
  let step := fun x => if x % 2 = 1 then Nat.xor (x / 2) 0xEDB88320 else x / 2
  step (step (step (step (step (step (step (step (Nat.xor c (b % 256)))))))))

def crc32Run : List Nat → Nat → Nat
  | [], c => c
  | b :: bs, c => crc32Run bs (crc32Byte c b)

/-- CRC-32 of IEEE 802.3 over bytes (R434). -/
def crc32 (bs : List Nat) : Nat :=
  Nat.xor (crc32Run bs 0xFFFFFFFF) 0xFFFFFFFF

/-- The `n` bytes of `v`, least significant first. -/
def bytesLE : Nat → Nat → List Nat
  | 0, _ => []
  | n + 1, v => v % 256 :: bytesLE n (v / 256)

/-- The `n` bytes of `v`, most significant first. -/
def bytesBE (n v : Nat) : List Nat :=
  (bytesLE n v).reverse

def wordsLE (ws : List Nat) : List Nat :=
  ws.flatMap (bytesLE 4)

def wordsBE (ws : List Nat) : List Nat :=
  ws.flatMap (bytesBE 4)

/-- The number whose bytes, least significant first, are `bs`. -/
def ofBytesLE : List Nat → Nat
  | [] => 0
  | b :: bs => b % 256 + 256 * ofBytesLE bs

/-- Bytes to 32-bit words, least significant byte first; an incomplete word is dropped. -/
def toWordsLE : List Nat → List Nat
  | a :: b :: c :: d :: t => ofBytesLE [a, b, c, d] :: toWordsLE t
  | _ => []

end Sys2Proof.Machine
end

