-- ==== Sys2Proof/Machine/Spoke.lean ====
section
/-! DEFINITION. The spoke level (chapter 2): droop trips and feather, brake and its release, the frames of the spoke buses,
detector self-test results and comparator trim. -/

namespace Sys2Proof.Machine

/-! ### Regulator voltages that the comparators refer to (R43, R113) -/

def State.lnk (s : State) (n : Nat) : Lnk :=
  Table.get {} s.gl.links n

def State.setLnk (s : State) (n : Nat) (f : Lnk → Lnk) : State :=
  s.setGl (fun g => { g with links := Table.upd {} g.links n f })

def State.vgrp (s : State) (g : Nat) : VGrp :=
  Table.get {} s.gl.groups g

def State.setVgrp (s : State) (g : Nat) (f : VGrp → VGrp) : State :=
  s.setGl (fun x => { x with groups := Table.upd {} x.groups g f })

/-- The present links of a rail group (R100). -/
def State.groupLinks (s : State) (g : Nat) : List Nat :=
  idx 24 (fun n => s.on GL_CFG.PRESENT n && s.rd GL_CFG.RG n == g)

/-- The confirmed voltage of a rail group: the lowest VDONE over its links not in FAULT (R113). -/
def State.confirmed (s : State) (g : Nat) : Nat :=
  match (s.groupLinks g).filter (fun n => s.rd GL_STAT.LSTATE n != 4) with
  | [] => (s.vgrp g).confLast
  | n :: t => t.foldl (fun v m => min v (s.rd GL_STAT.VDONE m)) (s.rd GL_STAT.VDONE n)

/-- The sentinel reference of a core group, 0.5 mV (R43). -/
def State.reference (s : State) (g : Nat) : Nat :=
  let v := s.vgrp g
  if !v.sent then s.confirmed g
  else if !v.doneAll && decide (s.tick < v.sentTick + 20) then min v.old v.target
  else v.target

/-! ### Sentinels -/

def State.sent (s : State) (n : Nat) : Sent :=
  Table.get {} s.spk.sents n

def State.setSent (s : State) (n : Nat) (f : Sent → Sent) : State :=
  s.setSpk (fun k => { k with sents := Table.upd {} k.sents n f })

def State.sentinelPresent (s : State) (n : Nat) : Bool :=
  decide (n < 192) && s.bit SPK_PRESENT.PRESENT (n % 32) (n / 32)

/-- The comparators are armed from ON until RAMP_DOWN (R42). -/
def State.armed (s : State) (n : Nat) : Bool :=
  s.sentinelPresent n && (s.dstate n == dON || s.dstate n == dDRAIN)

/-- The threshold in 0.1 mV (R44). -/
def State.threshold (s : State) (n : Nat) : Nat :=
  200 + 25 * min (s.inf SNT_CFG.THR n) 24

/-- What the trim code of comparator `k` adds to its trip level, 0.05 mV (R47). -/
def State.trimOf (s : State) (n k : Nat) : Int :=
  5 * ((at0 (s.sent n).trims k : Int) - 32)

/-- Sense point `k` of sentinel `n` at `lvl` (0.1 mV, less the comparator's own error) trips its comparator: it lies below
the reference minus the threshold, as trimmed (R43, R44, R46, R47). -/
def State.trips (s : State) (n k lvl : Nat) : Bool :=
  s.armed n && decide (k < 4) && (s.inf SNT_CFG.SENSE_EN n).testBit k
    && decide (2 * ((lvl : Int) + s.threshold n) < 10 * (s.reference (s.rd SWD_CFG.RG n) : Int) + s.trimOf n k)

/-- Comparator `k` is in a window of `len` source cycles at cycle `cyc`. -/
def inSpan (w : Option (Nat × Nat)) (k len cyc : Nat) : Bool :=
  match w with
  | some (j, c) => j == k && decide (cyc < c + len)
  | none => false

/-- At source cycle `cyc` comparator `k` is on the trim source (R47) or in an injection (R67), and does not act on the
shaper. -/
def Sent.switched (x : Sent) (k cyc : Nat) : Bool :=
  inSpan x.trimAt k 256 cyc || inSpan x.inj k 64 cyc

/-- Comparator `k` trips under injection: its level is 20 mV above the reference (R67). -/
def State.injTrips (s : State) (n k lvl cyc : Nat) : Bool :=
  s.armed n && inSpan (s.sent n).inj k 64 cyc
    && decide (2 * (lvl : Int) < 10 * (s.reference (s.rd SWD_CFG.RG n) : Int) + 400 + s.trimOf n k)

/-- The brake divider is 8 (R57). -/
def State.braked (s : State) : Bool :=
  s.rd SPK_STAT.BRK_DIV == 3

/-- The copies of VR_ALERT_N at cell `n` (R54). -/
def State.cellCopies (s : State) (n : Nat) : Copies :=
  (s.sent n).own.getD s.spk.copies

/-- The brake divider code of cell `n` (R55): the die's, or its own where its copies differ. -/
def State.cellDiv (s : State) (n : Nat) : Nat :=
  let x := s.sent n
  if x.own.isSome then x.brk else max (s.rd SPK_STAT.BRK_DIV) x.brk

/-- The first step, the deepest step (clamped to FSTEP, R51) and the hold in source cycles (R50), in force. -/
def State.fstep (s : State) (n : Nat) : Nat := s.inf SNT_CFG.FSTEP n
def State.fstepMax (s : State) (n : Nat) : Nat := max (s.fstep n) (s.inf SNT_CFG.FSTEP_MAX n)
def State.fhold (s : State) (n : Nat) : Nat := 16 * 2 ^ min (s.inf SNT_CFG.FHOLD n) 8

/-- The step after a rising edge of the trip signal: codes 0–3 stand as 1–4, 0 is unshaped (R48, R51, R52). -/
def State.stepOnTrip (s : State) (n : Nat) : Nat :=
  let x := (s.sent n).step
  if x = 0 then s.fstep n + 1
  else if s.infOn SNT_CFG.ESC n then max x (min (x + 1) (s.fstepMax n + 1))
  else x

/-- The period of the shaped clock in source periods, by the step in force (Table 2.1). -/
def stretch (step : Nat) : Rat :=
  match step with
  | 0 => 1
  | 1 => 9 / 8
  | 2 => 5 / 4
  | 3 => 3 / 2
  | _ => 2

/-- FEATHER_TRIGGER (R45 to R53, R57, R67): sense point `k` falls to `lvl`; a rising edge of the trip signal, or the trip
of an injection, which drives the test result only. -/
def execFeatherTrigger (n k lvl cyc : Nat) (s : State) : Host.Outcome State Fault Refusal :=
  let s := s.quiet
  .next (if 192 ≤ n then s
    else if s.injTrips n k lvl cyc then s.setSent n (fun x => { x with injTrip := true })
    else if s.trips n k lvl && !(s.sent n).switched k cyc && !(s.sent n).trip then
      let s := s.inc SNT_CNT.FTH_EVT n
      if s.cellDiv n = 3 then s.setSent n (fun x => { x with trip := true, trigs := x.trigs + 1 })
      else
        let st := s.stepOnTrip n
        s.setSent n (fun x => { x.shape cyc st with trip := true, trigs := x.trigs + 1, returning := false, mark := cyc })
    else s)

/-- TRIP_CLEAR (R50): the hold begins to count down. -/
def execTripClear (n cyc : Nat) (s : State) : Host.Outcome State Fault Refusal :=
  let s := s.quiet
  .next (if 192 ≤ n then s else if (s.sent n).trip then s.setSent n (fun x => { x with trip := false, mark := cyc }) else s)

/-- FEATHER_HOLD_EXPIRY (R52): the return through the shallower steps begins. -/
def execFeatherHoldExpiry (n cyc : Nat) (s : State) : Host.Outcome State Fault Refusal :=
  let s := s.quiet
  let x := s.sent n
  .next (if 192 ≤ n then s else if !x.trip && decide (0 < x.step) && !x.returning && decide (x.mark + s.fhold n ≤ cyc) then
      s.setSent n (fun x => { x.shape cyc (x.step - 1) with returning := decide (1 < x.step), mark := cyc })
    else s)

/-- FEATHER_RETURN_STEP (R52): after 16 source cycles, the next shallower step or the unshaped clock. -/
def execFeatherReturnStep (n cyc : Nat) (s : State) : Host.Outcome State Fault Refusal :=
  let s := s.quiet
  let x := s.sent n
  .next (if 192 ≤ n then s else if x.returning && !x.trip && decide (x.mark + 16 ≤ cyc) then
      s.setSent n (fun x => { x.shape cyc (x.step - 1) with returning := decide (1 < x.step), mark := cyc })
    else s)

/-! ### Brake (R54 to R59) -/

/-- At least two of three copies (R55). -/
def vote (v : Copies) : Bool :=
  (v.a && v.b) || (v.a && v.c) || (v.b && v.c)

/-- The copies that cell `n` has for itself, if they differ from those of the other cells. -/
def ownCopies (a : AlertIn) (n : Nat) : Option Copies :=
  (a.own.find? (fun e => e.1 == n)).map (·.2)

/-- Cell `n` as the copies `a` reach it, with `div` the die's divider code until then; `entry` tells that it goes to 8 now.
A cell whose own copies differ votes for itself; a feather ends where the cell's divider becomes 8 (R55, R57). -/
def Sent.alert (a : AlertIn) (div : Nat) (entry : Bool) (n : Nat) (x : Sent) : Sent :=
  let own := ownCopies a n
  let before := if x.own.isSome then x.brk else max div x.brk
  let brk := match own with
    | some v => if vote v then 3 else before
    | none => x.brk
  let hit := match own with
    | some v => vote v && before != 3
    | none => entry
  let x := { x with own := own, brk := brk }
  if hit then x.unshape (at0 a.src n) else x

/-- VR_ALERT_N as it reaches the cells (R54, R55). -/
def State.alertIn (s : State) (a : AlertIn) (entry : Bool) : State :=
  let div := s.rd SPK_STAT.BRK_DIV
  s.setSpk (fun k => { k with copies := a.v, src := a.src, sents := Table.remap {} 192 (Sent.alert a div entry) k.sents })

/-- BRAKE (R55 to R57, R59): VR_ALERT_N asserts on the trees; the die brakes on the vote of the copies that reach every
cell, a cell whose copies differ on its own vote. -/
def execBrake (v : AlertIn) (s : State) : Host.Outcome State Fault Refusal :=
  let s := s.quiet
  .next (if vote v.v then
      let entry := !s.braked
      let s := (s.alertIn v entry).setSpk (fun k => { k with voted := true, quiet := 0 })
      if entry then
        let s := ((s.wr SPK_STAT.BRK_DIV 0 3).wr SPK_STAT.BRAKE 0 1).drive (.brake 8)
        let s := s.setSpk (fun k => { k with respond := true })
        ((s.inc SPK_BRK_CNT.BRAKES).raise .SPK_BRAKE).traceEvent 3
      else s
    else s.alertIn v false)

/-- VR_ALERT_DEASSERT (R58): the quiet count starts from 0. -/
def execVrAlertDeassert (v : AlertIn) (s : State) : Host.Outcome State Fault Refusal :=
  let s := s.quiet
  .next (if s.spk.voted && vote v.v then s
    else
      let s := s.alertIn v false
      if s.spk.voted then s.setSpk (fun k => { k with voted := false, quiet := 0 }) else s)

/-- The quiet count at a tick boundary (R58). -/
def State.quietTick (s : State) : State :=
  if s.spk.voted then s else s.setSpk (fun k => { k with quiet := k.quiet + 1 })

/-- Cell `x` has a divider of its own to release: its own vote has deasserted (R55, R58). -/
def Sent.toRelease (c : Copies) (x : Sent) : Bool :=
  decide (0 < x.brk) && !vote (x.own.getD c)

/-- A release step can be taken (R58): quiet for BRK_QUIET ticks, BRK_STEP ticks after the last step, the hub running. -/
def State.releaseReady (s : State) : Bool :=
  (decide (0 < s.rd SPK_STAT.BRK_DIV) || s.spk.sents.any (fun e => e.2.toRelease s.spk.copies)) && !s.spk.voted && decide (s.inf SPK_CTRL.BRK_QUIET ≤ s.spk.quiet)
    && (s.braked || s.past s.spk.relAt (s.inf SPK_CTRL.BRK_STEP)) && !s.holdover

/-- The dividers that cells reached on their own vote take a release step. -/
def State.releaseCells (s : State) : State :=
  let f : Nat → Sent → Sent := fun _ x => if x.toRelease s.spk.copies then { x with brk := x.brk - 1 } else x
  s.setSpk (fun k => { k with relAt := s.tick, sents := Table.remap {} 192 f k.sents })

/-- BRAKE_RELEASE_STEP (R58, R124): the divider steps 8, 4, 2, 1. -/
def execBrakeReleaseStep (s : State) : Host.Outcome State Fault Refusal :=
  let s := s.quiet
  .next (if s.releaseReady then
      let div := s.rd SPK_STAT.BRK_DIV
      let d := div - 1
      let s := s.releaseCells
      if div = 0 then s
      else
      let s := (s.wr SPK_STAT.BRK_DIV 0 d).drive (.brake (2 ^ d))
      if d = 0 then
        let s := (s.wr SPK_STAT.BRAKE 0 0).raise .SPK_BRK_RELEASED
        s.setGl (fun g => { g with alert := { g.alert with released := some s.tick } })
      else s
    else s)

/-! ### The cell at a tick boundary (R53, R63, R65 to R67, R70) -/

/-- One path result (Table 2.10): VALID, VIOL and the slack in 2 ps of a smallest capture of `taps`, where one source period of
`f` MHz spans `per` taps (R65). -/
def pathResult (valid : Bool) (f per taps : Nat) : Nat :=
  let slack := if taps = 0 then 0 else min 511 (taps * 1000000 / (2 * f * per))
  b2n (valid && decide (0 < f * per)) * 1024 + b2n (taps == 0) * 512 + slack

/-- The payloads of word 12 that carry the four results of a measurement: a selector and two results (log entry 15). -/
def pathPairs (r : List Nat) : List Nat :=
  [2 ^ 22 + at0 r 1 * 2 ^ 11 + at0 r 0, 2 * 2 ^ 22 + at0 r 3 * 2 ^ 11 + at0 r 2]

/-- A measurement at a boundary: the captures of the ending tick, what overlapped it (R66), and its results once 4,096 source
cycles have passed (R65). -/
def Sent.measure (x : Sent) (cyc f : Nat) (bad : Bool) (t : List Nat × Nat) : Sent :=
  match x.meas with
  | none => x
  | some m =>
    let m := { m with bad := m.bad || bad || decide (0 < x.deep),
                      taps := (List.range 4).map (fun k => min (at0 m.taps k) (t.1.getD k 255)), per := t.2 }
    if m.start + 4096 ≤ cyc then
      { x with meas := none, results := x.results ++ pathPairs (m.taps.map (pathResult (!m.bad) f m.per)) }
    else { x with meas := some m }

/-- An injection that has run its 64 source cycles: performed, and failed unless its comparator tripped (R67). -/
def Sent.endInjection (x : Sent) (cyc : Nat) : Sent :=
  match x.inj with
  | some (k, c) =>
    if c + 64 ≤ cyc then
      { x with inj := none, injTrip := false, injRes := x.injRes + 2 ^ k + (if x.injTrip then 0 else 2 ^ (4 + k)) }
    else x
  | none => x

/-- The cell latches what its next frame reports and counts the new tick from here (R53, R70). -/
def Sent.latch (x : Sent) (cyc st : Nat) (armed voted : Bool) (c : Copies) : Sent :=
  let fth := x.fthCyc + (if 0 < x.step then cyc - x.fthFrom else 0)
  let flags := b2n armed * 128 + b2n (decide (0 < x.deep)) * 64 + (x.deep - 1) * 16 + b2n voted * 8 + b2n c.a * 4
    + b2n c.b * 2 + b2n c.c
  { x with
    fthFrom := if 0 < x.step then cyc else 0, fthCyc := 0, trigs := 0, deep := x.step, injRes := 0,
    results := x.results.drop 1,
    rstMask := if x.rstFrom + 128 ≤ cyc then 0 else x.rstMask,
    rstFrom := if x.rstFrom + 128 ≤ cyc then 0 else x.rstFrom,
    lat := { st := st, flags := flags, w11 := min fth 0xFFFF * 65536 + min x.trigs 255 * 256 + x.injRes,
             w12 := x.results.headD 0 } }

/-- The taps of cell `n` in the ending tick: its captures and the taps in one source period. -/
def tapsOf (l : List (Nat × List Nat × Nat)) (n : Nat) : List Nat × Nat :=
  match l.find? (fun e => e.1 == n) with
  | some e => e.2
  | none => ([], 0)

/-- What overlaps a measurement of cell `n` at this boundary: a brake, a domain transition, a SETV transition since its start
(R66). -/
def State.measureSpoilt (s : State) (n since : Nat) : Bool :=
  let v := s.vgrp (s.rd SWD_CFG.RG n)
  s.dstate n != dON || decide (0 < s.cellDiv n) || v.out || (v.sent && decide (since ≤ v.sentTick))

/-- Cell `n` at a tick boundary. -/
def State.cellBoundary (s : State) (taps : List (Nat × List Nat × Nat)) (n : Nat) (x : Sent) : Sent :=
  let cyc := at0 s.spk.src n
  let x := x.endInjection cyc
  let x := match x.meas with
    | some m =>
      let f := match s.mg.image with
        | some im => at0 im.fr (s.pointInForce (s.rd SWD_CFG.RG n))
        | none => 0
      x.measure cyc f (s.measureSpoilt n m.since) (tapsOf taps n)
    | none => x
  let c := s.cellCopies n
  x.latch cyc (s.dstate n) (s.armed n) (vote c) c

/-- At each tick boundary every present cell latches its counters (R70). -/
def State.latchCells (s : State) (src : List Nat) (taps : List (Nat × List Nat × Nat)) : State :=
  let s := s.setSpk (fun k => { k with src := src, latTick := s.tick % 256 })
  let sents := Table.remap {} 192 (fun n x => if s.sentinelPresent n then s.cellBoundary taps n x else x) s.spk.sents
  s.setSpk (fun k => { k with sents := sents })

/-- The sixteen 20-bit activity fields in words 1 to 10 (Table 2.5). -/
def packActivity (act : List Nat) : List Nat :=
  let v := sumOf ((List.range 16).map (fun k => at0 act k % 2 ^ 20 * 2 ^ (20 * k)))
  (List.range 10).map (fun k => v / 2 ^ (32 * k) % 2 ^ 32)

/-- The frame that cell `n` sends: what it latched, with the running activity counts `act` at its taps (Table 2.5). -/
def State.cellFrame (s : State) (n : Nat) (act : List Nat) : List Nat :=
  let l := (s.sent n).lat
  let ws := (n * 2 ^ 24 + s.spk.latTick * 2 ^ 16 + l.st * 2 ^ 8 + l.flags) :: (packActivity act ++ [l.w11])
  ws ++ [l.w12 * 256 + crc8Bits 24 l.w12 (crc8Words ws 0)]

/-- A frame as a bus delivers it: `err` lists the bits in error, word by word. -/
def busErrors : List Nat → List Nat → List Nat
  | [], _ => []
  | w :: ws, e => Nat.xor w (e.headD 0) :: busErrors ws e.tail

/-- What the hub receives of cell `n`, none where the frame is missing. -/
def State.received (s : State) (n : Nat) (act : List Nat) (err : Option (List Nat)) : Option (List Nat) :=
  err.map (busErrors (s.cellFrame n act))

/-! ### Frames (R60, R68, R70 to R72) -/

/-- The sixteen 20-bit activity fields of words 1 to 10 (Table 2.5). -/
def frameActivity (ws : List Nat) : List Nat :=
  let v := ofBytesLE ((((ws.drop 1).take 10).map (bytesLE 4)).flatten)
  (List.range 16).map (fun k => v / 2 ^ (20 * k) % 2 ^ 20)

/-- A frame passes its CRC over words 0 to 11 and word 12 [31:8] (Table 2.5). -/
def frameOk (ws : List Nat) : Bool :=
  ws.length == 13 && crc8Bits 24 (at0 ws 12 / 256) (crc8Words (ws.take 12) 0) == at0 ws 12 % 256

/-- Deltas modulo 2^20 from the last good frame, less the stand-in quanta already applied (R71, R126, R127). -/
def activityDelta (old new stand : List Nat) : List Nat :=
  (List.range 16).map (fun k => (at0 new k + 2 ^ 20 - at0 old k) % 2 ^ 20 - at0 stand k)

/-- A copy that disagrees with the other two in a frame: 0 A, 1 B, 2 C (R60). -/
def oddCopy (a b c : Bool) : Option Nat :=
  if a != b && a != c then some 0 else if b != a && b != c then some 1 else if c != a && c != b then some 2 else none

/-- The disagreement runs after a frame; a run of two raises TREE_FAULT and logs the tree (R60).  A run that goes on raises it
no more until the copies have agreed in a frame: DESIGN CHOICE, the manual does not say (log entry 109). -/
def State.treeCheck (s : State) (n : Nat) (a b c : Bool) : State :=
  let o := oddCopy a b c
  let run := fun (x : Nat) (i : Nat) => if o == some i then x + 1 else 0
  let x := s.sent n
  let dA := run x.disA 0
  let dB := run x.disB 1
  let dC := run x.disC 2
  let s := s.setSent n (fun x => { x with disA := dA, disB := dB, disC := dC })
  match o with
  | some i => if (dA == 2 || dB == 2 || dC == 2) then s.raiseLog .SPK_TREE_FAULT (arg0 n i) i else s
  | none => s

/-- One injection result: sense point `k` performed and failed or passed (R67, R68). -/
def State.injection (s : State) (n k : Nat) (failed : Bool) : State :=
  let s := s.inc SNT_CNT.INJ_DONE n
  let setPass := fun (s : State) (v : Nat) => s.setSent n (fun x => { x with pass := x.pass.set k v })
  if failed then
    let s := (s.inc SNT_CNT.INJ_FAILED n).wrBit SNT_STAT.INJ_FAIL n k true
    (setPass s 0).raiseLog .SPK_INJ_FAIL (arg0 n k)
  else
    let p := at0 (s.sent n).pass k + 1
    let s := setPass s (min p 16)
    if 16 ≤ p then s.wrBit SNT_STAT.INJ_FAIL n k false else s

def State.injections (s : State) (n perf fail : Nat) : State :=
  upTo 4 (fun k s => if perf.testBit k then s.injection n k (fail.testBit k) else s) s

/-- The path-monitor result pair of word 12 (layout: log entry 15): [31:30] selector, 1 monitors 0 and 1, 2 monitors 2
and 3; two results of VALID, VIOL, slack. -/
def State.monitorResult (s : State) (n w12 : Nat) : State :=
  let sel := bits 31 30 w12
  let put := fun (s : State) (m r : Nat) =>
    ((s.wr PDM.VALID (4 * n + m) (bits 10 10 r)).wr PDM.VIOL (4 * n + m) (bits 9 9 r)).wr PDM.SLACK (4 * n + m) (bits 8 0 r)
  if sel = 1 ∨ sel = 2 then put (put s (2 * (sel - 1)) (bits 18 8 w12)) (2 * (sel - 1) + 1) (bits 29 19 w12) else s

/-- A good frame of sentinel `n` (R53, R60, R68, R70, R71).  ALERT_ABC is one field for all sentinels and takes the copies of
the frame that came last: DESIGN CHOICE, the manual does not say how differing cells combine (log entry 109). -/
def State.goodFrame (s : State) (n : Nat) (ws : List Nat) : State :=
  let w0 := at0 ws 0
  let w11 := at0 ws 11
  let fl := bits 7 0 w0
  let new := frameActivity ws
  let x := s.sent n
  let counts := bits 15 8 w0 == dON || bits 15 8 w0 == dDRAIN
  let delta := if counts && x.seenFrame && !x.unknown then activityDelta x.act new x.stand else []
  let was := s.rd SNT_STAT.FEATHER n
  let s := s.setSent n (fun x => { x with act := new, delta := delta, good := true, seenFrame := counts, stand := [],
                                          miss := 0, unknown := false })
  let s := (s.wr SNT_STAT.FTH_TICK n (bits 31 16 w11)).wr SNT_STAT.FTH_EVT_TICK n (bits 15 8 w11)
  let s := (s.wr SNT_STAT.FEATHER n (bits 6 6 fl)).wr SNT_STAT.STEP n (bits 5 4 fl)
  let s := s.wr SPK_STAT.FEATHER_ACT 0 (s.rd SPK_STAT.FEATHER_ACT + bits 6 6 fl - was)
  let s := s.wr SNT_CNT.FTH_CYC n (s.rd SNT_CNT.FTH_CYC n + bits 31 16 w11)
  let s := s.wr SPK_STAT.ALERT_ABC 0 (bits 2 0 fl)
  let s := s.treeCheck n (fl.testBit 2) (fl.testBit 1) (fl.testBit 0)
  let s := s.injections n (bits 3 0 w11) (bits 7 4 w11)
  let s := s.monitorResult n (at0 ws 12)
  let s := if decide (0 < bits 15 8 w11) && s.spk.fthAt != some s.tick then
      (s.setSpk (fun k => { k with fthAt := some s.tick })).raise .SPK_FEATHER else s
  if bits 6 6 fl = 1 && bits 5 4 fl = 3 && s.spk.skipAt != some s.tick then
    (s.setSpk (fun k => { k with skipAt := some s.tick })).raise .SPK_FEATHER_SKIP
  else s

/-- A frame that failed or is missing (R72). -/
def State.badFrame (s : State) (n : Nat) : State :=
  (s.inc SPK_BUS_ERR.FRAMES).setSent n (fun x => { x with miss := x.miss + 1, good := false })

/-- SPOKE_FAULT (R72, R128): frames have failed for three consecutive ticks. -/
def execSpokeFault (n : Nat) (s : State) : Host.Outcome State Fault Refusal :=
  let s := s.quiet
  .next (if 192 ≤ n then s else if decide (3 ≤ (s.sent n).miss) && !(s.sent n).unknown then
      let s := s.setSent n (fun x => { x with unknown := true, seenFrame := false, delta := [], stand := [] })
      (s.raise .SPK_SPOKE_FAULT (arg0 n 0)).raise .EM_UNKNOWN (arg0 n 0)
    else s)

/-- `SPK_STAT.BUS_OK` at a boundary: every present sentinel of a bus sent a good frame in the last tick (R69). -/
def State.busOk (s : State) : State :=
  let ok := fun b => (idx 192 (fun n => n % 12 == b && s.sentinelPresent n)).all (fun n => (s.sent n).good)
  s.wr SPK_STAT.BUS_OK 0 (sumOf ((List.range 12).map (fun b => if ok b then 2 ^ b else 0)))

/-- Frames of the new tick have not come yet. -/
def State.clearFrames (s : State) : State :=
  let f : Sent → Sent := fun x => { x with good := false }
  s.setSpk (fun k => { k with sents := Table.mapAll {} f k.sents })

/-! ### Comparator trim (R47) -/

/-- The first trim code at which a comparator with error `err` (0.05 mV) trips on the trim source, which stands at its
nominal trip level; none where it trips at the lowest code already or at no code, and so never changes state. -/
def trimCode (err : Int) : Option Nat :=
  match (List.range 64).find? (fun (c : Nat) => decide (0 < err + 5 * ((c : Int) - 32))) with
  | some 0 => none
  | c => c

/-- Comparator `k` of sentinel `n` goes onto the trim source. -/
def State.trimStart (s : State) (n k : Nat) : State :=
  let c := at0 s.spk.src n
  s.setSent n (fun x => { x with trimAt := some (k, c) })

/-- The trim of comparator `k` ends: its new code, or the failure, which keeps the code and is logged. -/
def State.trimEnd (s : State) (n k : Nat) (err : Int) : State :=
  let s := s.setSent n (fun x => { x with trimAt := none })
  match trimCode err with
  | some c => s.setSent n (fun x => { x with trims := x.trims.set k c })
  | none => s.raiseLog .SPK_TRIM_FAIL (arg0 n k)

/-! ### Injection (R67) -/

/-- Every armed cell injects on sense point `k`. -/
def State.injectAll (s : State) (k : Nat) : State :=
  let f : Nat → Sent → Sent := fun n x =>
    if s.armed n then { x with inj := some (k, at0 s.spk.src n), injTrip := false } else x
  (s.drive (.inject k)).setSpk (fun q => { q with sents := Table.remap {} 192 f q.sents })

/-! ### Core lines (R61 to R64) -/

/-- Assert the reset lines of the cores of cluster `n` in `mask`.  A core whose clock is gated when its line is asserted is
clocked for 16 cycles of the source clock divided by 8 and gated again (R63). -/
def State.assertReset (s : State) (n mask : Nat) : State :=
  let old := s.rd CORE_RST.RST n
  let new := Nat.lor old mask
  let clocked := Nat.land (new - old) (s.rd CORE_GATE.GATE n)
  let s := s.wr CORE_RST.RST n new
  if clocked = 0 then s
  else
    let c := at0 s.spk.src n
    (s.setSent n (fun x => { x with rstMask := Nat.lor x.rstMask clocked, rstFrom := c })).drive (.resetClock n clocked)

end Sys2Proof.Machine
end

