-- ==== Sys2Proof/Machine/Gleub.lean ====
section
/-! DEFINITION. The Gleub regulator link (chapter 4): frames, voltage transitions and their acknowledgements, link states,
training, spread spectrum, telemetry and the hub's response to a regulator alert. -/

namespace Sys2Proof.Machine

/-! ### Frames (R105, R106) -/

/-- A frame from its type and the payload placed at [27:8], with its CRC. -/
def mkFrame (ty payload : Nat) : Nat :=
  let hi := ty * 2 ^ 20 + payload % 2 ^ 20
  hi * 256 + crc8Bits 24 hi 0

def frameGood (w : Nat) : Bool :=
  crc8Bits 24 (w / 256) 0 == w % 256 && decide (w < 2 ^ 32)

def frameType (w : Nat) : Nat := bits 31 28 w

/-- A good frame of type `t` from the regulator of a present link. -/
def State.heard (s : State) (n w t : Nat) : Bool :=
  decide (n < 24) && s.on GL_CFG.PRESENT n && frameGood w && frameType w == t

/-- SETV, SSC and QUERY payloads (Table 4.3). -/
def setvFrame (code slew seq : Nat) : Nat :=
  mkFrame 1 (code * 2 ^ 9 + slew * 2 ^ 6 + seq * 2 ^ 4)

def sscFrame (sel rest : Nat) : Nat :=
  mkFrame 2 (sel * 2 ^ 18 + rest)

def queryFrame (item : Nat) : Nat :=
  mkFrame 3 (item * 2 ^ 16)

/-- The frame of a slot that has no other to carry (R104). -/
def idleFrame : Nat :=
  mkFrame 0 0x5A5A5

/-- The order of the frames that wait for one slot: SETV, QUERY, SSC, IDLE (R104). -/
def slotRank (w : Nat) : Nat :=
  match frameType w with
  | 1 => 0
  | 3 => 1
  | 2 => 2
  | _ => 3

/-- A frame among the emissions of this command, ahead of the frames of its link that yield the slot to it. -/
def putFrame (n w : Nat) : List Emission → List Emission
  | [] => [.frame n w]
  | .frame m v :: t => if m = n ∧ slotRank w < slotRank v then .frame n w :: .frame m v :: t else .frame m v :: putFrame n w t
  | e :: t => e :: putFrame n w t

def State.send (s : State) (n w : Nat) : State :=
  { s with emit := putFrame n w s.emit }

/-- The frame that a present link carries in the first slot after this command: the first that waits, else IDLE (R104). -/
def State.slotFrame (s : State) (n : Nat) : Nat :=
  (s.emit.findSome? (fun e => match e with
    | .frame m w => if m = n then some w else none
    | _ => none)).getD idleFrame

def State.sendQuery (s : State) (n item : Nat) : State :=
  (s.setLnk n (fun l => { l with query := l.query ++ [item] })).send n (queryFrame item)

/-! ### Voltage transitions (R109 to R115) -/

/-- The link is UP. -/
def State.up (s : State) (n : Nat) : Bool :=
  s.rd GL_STAT.LSTATE n == 2

/-- A SETV or SSC frame may be sent on link `n`: the link is UP (R114), the governor not in holdover (R301). -/
def State.maySend (s : State) (n : Nat) : Bool :=
  s.up n && !s.holdover

/-- A received slot passed its CRC (R114). -/
def State.goodSlot (s : State) (n : Nat) : State :=
  s.setLnk n (fun l => { l with bad := 0, good := l.good + 1 })

/-- VCODE clamped to VMIN to VMAX of the group's links (R109). -/
def State.clampCode (s : State) (g code : Nat) : Nat :=
  (s.groupLinks g).foldl (fun c n => max (min (s.inf GL_VLIM.VMIN n) (s.inf GL_VLIM.VMAX n)) (min c (s.inf GL_VLIM.VMAX n))) code

/-- Ticks of a transition of `d` codes of 0.5 mV at a slew code: ceil(|ΔV| / slew) (R112). -/
def slewTicks (d slew : Nat) : Nat :=
  let u := 5 * 2 ^ slew
  (2 * d + u - 1) / u

/-- Send the group's target to one of its links: a first attempt, at once or when a SETV may be sent. -/
def State.setvTo (s : State) (g n : Nat) : State :=
  let v := s.vgrp g
  let w := setvFrame v.target v.slew v.seq
  let go := s.maySend n
  let s := ((s.wr GL_STAT.VREQ n v.target).wr GL_STAT.SEQ n v.seq).wr GL_STAT.OUTSTANDING n 1
  let s := s.setLnk n (fun l => { l with setv := some { frame := w, tries := b2n go }, acked := false, done := false,
                                         late := false, ended := false, waits := !go, giveBack := false })
  if go then s.send n w else s

/-- Send a new target to every present link of the group in one slot (R109). -/
def State.sendTarget (s : State) (g code slew pre : Nat) : State :=
  let code := s.clampCode g code
  let v := s.vgrp g
  let base := if v.sent then v.target else s.confirmed g
  let d := if code < base then base - code else code - base
  let s := s.setVgrp g (fun v => { v with
    sent := true, seq := (v.seq + 1) % 4, prev := base, prevPre := if v.sent then v.pre else 0, old := base, target := code,
    pre := pre, out := true, doneAll := false, rejected := false, back := false, sentTick := s.tick, slew := slew,
    deadline := s.tick + slewTicks d slew + s.inf GL_CTRL.DONE_MARGIN,
    reconfirm := min 2 (2 * v.reconfirm) })
  (s.groupLinks g).foldl (fun s n => s.setvTo g n) s

/-- A request for a voltage (R109, R115): sent, held while a transition is outstanding or a link is SUSPECT, not accepted
while a link of the group is not usable or in holdover (R301). -/
def State.requestVoltage (s : State) (g code slew pre : Nat) : State :=
  let ls := s.groupLinks g
  if s.holdover || ls.isEmpty then s
  else if (s.vgrp g).out then s.setVgrp g (fun v => { v with held := some ⟨code, slew, pre⟩ })
  else if ls.all s.up then s.sendTarget g code slew pre
  else if ls.all (fun n => s.up n || s.rd GL_STAT.LSTATE n == 3) then
    s.setVgrp g (fun v => { v with held := some ⟨code, slew, pre⟩ })
  else s

/-- The pending request of a group is sent once no transition is outstanding (R109); in holdover it goes on waiting (R301). -/
def State.sendHeld (s : State) (g : Nat) : State :=
  match (s.vgrp g).held with
  | some r =>
    if (s.vgrp g).out || s.holdover then s
    else (s.setVgrp g (fun v => { v with held := none })).requestVoltage g r.code r.slew r.pre
  | none => s

/-- The outstanding transition of a group ends once every link of it not in FAULT is done, late or has rejected it; the
pending request is sent (R109, R111, R112).  A target is confirmed anew for R124 by a DONE of every such link. -/
def State.checkEnd (s : State) (g : Nat) : State :=
  let ls := (s.groupLinks g).filter (fun n => s.rd GL_STAT.LSTATE n != 4)
  if (s.vgrp g).out && ls.all (fun n => (s.lnk n).done || (s.lnk n).late || (s.lnk n).ended) then
    let met := !ls.isEmpty && ls.all (fun n => (s.lnk n).done || (s.lnk n).ended)
    let all := !ls.isEmpty && ls.all (fun n => (s.lnk n).done)
    let s := (s.groupLinks g).foldl (fun s n => s.wr GL_STAT.OUTSTANDING n 0) s
    let s := s.setVgrp g (fun v => { v with out := false, doneAll := met, rejected := false, back := false,
                                            reconfirm := if all && v.reconfirm == 2 then 0 else v.reconfirm })
    s.sendHeld g
  else s

/-- The lowest VDONE of a group's links. -/
def State.lowestDone (s : State) (g : Nat) : Nat :=
  match s.groupLinks g with
  | [] => 0
  | n :: t => t.foldl (fun v m => min v (s.rd GL_STAT.VDONE m)) (s.rd GL_STAT.VDONE n)

/-- Send the first SSC frame that waits on a link, at once or when one may be sent. -/
def State.sscHead (s : State) (n : Nat) : State :=
  match (s.lnk n).ssc with
  | [] => s
  | w :: _ =>
    if s.maySend n then (s.setLnk n (fun l => { l with sscTries := 1, sscWaits := false })).send n w
    else s.setLnk n (fun l => { l with sscTries := 0, sscWaits := true })

/-- Every link of the apply set has acknowledged its profile: commit in one common slot and clear SSC_APPLY (R118). -/
def State.sscCommit (s : State) : State :=
  let ms := idx 24 (fun n => (s.lnk n).sscMember)
  if s.gl.sscRun && ms.all (fun n => (s.lnk n).ssc.isEmpty && s.maySend n) then
    let s := ms.foldl (fun s n => (s.setLnk n (fun l => { l with sscMember := false, ssc := [sscFrame 3 0] })).sscHead n) s
    (s.wr GL_CTRL.SSC_APPLY 0 0).setGl (fun x => { x with sscRun := false })
  else s

/-- A link enters FAULT (R110, R112, R114). -/
def State.linkFault (s : State) (n : Nat) : State :=
  let g := s.rd GL_CFG.RG n
  let s := (s.wr GL_STAT.LSTATE n 4).wrBit GL_FAULT.FAULT 0 n true
  let s := (s.inc GL_FAULT_CNT.FAULTS n).wr GL_STAT.OUTSTANDING n 0
  let s := s.setLnk n (fun l => { l with
    setv := none, ssc := [], sscMember := false, sscDue := l.sscDue || l.sscMember,
    query := [], training := false, waits := false, sscWaits := false, giveBack := false, late := true, lateRun := 0,
    heardI := false, iAge := 0, bad := 0, good := 0,
    faultAt := s.tick })
  let s := if (s.groupLinks g).all (fun m => s.rd GL_STAT.LSTATE m == 4) then
      s.setVgrp g (fun v => { v with confLast := s.lowestDone g }) else s
  let s := (s.raiseLog .GL_LINK_FAULT (arg0 n 0)).traceEvent 4
  (s.checkEnd g).sscCommit

/-- A link enters TRAIN: its clock runs and IDLE is sent (Table 4.5). -/
def State.enterTrain (s : State) (n : Nat) : State :=
  let s := (s.wr GL_STAT.LSTATE n 1).wrBit GL_FAULT.FAULT 0 n false
  (s.setLnk n (fun l => { l with training := true, query := [], bad := 0, good := 0 })).send n idleFrame

/-- RETRAIN clears when training has ended on every link. -/
def State.trainEnd (s : State) : State :=
  if s.on GL_CTRL.RETRAIN && (idx 24 (fun n => s.rd GL_STAT.LSTATE n == 1)).isEmpty then s.wr GL_CTRL.RETRAIN 0 0 else s

/-! ### Spread spectrum (R118, R120) -/

/-- The profile of link `n`: centre, spread and rate, one phase offset for each phase. -/
def State.sscProfile (s : State) (n : Nat) : List Nat :=
  let offs := fun j => (s.rd GL_SSC_B.BASE n + j * s.rd GL_SSC_B.PSTEP n) % 1024
  [sscFrame 0 (s.rd GL_SSC_A.FC n * 2 ^ 6), sscFrame 1 (s.rd GL_SSC_A.SPREAD n * 2 ^ 11 + s.rd GL_SSC_A.RATE n * 2 ^ 4)]
    ++ (List.range (s.rd GL_CFG.PHASES n)).map (fun j => sscFrame 2 (j * 2 ^ 15 + offs j * 2 ^ 5))

/-- The next SSC frame of a link, or the commit once none is left. -/
def State.sscNext (s : State) (n : Nat) : State :=
  if (s.lnk n).ssc.isEmpty then s.sscCommit else s.sscHead n

/-- SSC_APPLY: every UP link gets its profile; a link not UP gets it when it next enters UP (R118). -/
def State.sscApply (s : State) : State :=
  let ps := idx 24 (fun n => s.on GL_CFG.PRESENT n)
  let s := ps.foldl (fun s n =>
    if s.up n then s.setLnk n (fun l => { l with ssc := s.sscProfile n, sscMember := true, sscDue := false })
    else s.setLnk n (fun l => { l with sscDue := true })) (s.setGl (fun x => { x with sscRun := true }))
  let s := (ps.filter s.up).foldl (fun s n => s.sscNext n) s
  s.sscCommit

/-- A profile that waits for the link to enter UP is sent, with an individual commit (R118). -/
def State.sscIfDue (s : State) (n : Nat) : State :=
  if (s.lnk n).sscDue then
    (s.setLnk n (fun l => { l with sscDue := false, ssc := s.sscProfile n ++ [sscFrame 3 0] })).sscHead n
  else s

/-- A link enters UP from TRAIN: the hub asks for its group's voltage anew. -/
def State.linkUp (s : State) (n : Nat) : State :=
  let s := (s.wr GL_STAT.LSTATE n 2).trainEnd
  (s.setVgrp (s.rd GL_CFG.RG n) (fun v => { v with asked := none })).sscIfDue n

/-! ### Acknowledgements -/

/-- A rejected target that another link has accepted: the return transition to the previous target opens, for every link
that has accepted it; one that has not answered is sent it once it accepts (R111).  The manual gives the return no slew,
and it takes that of the rejected SETV: DESIGN CHOICE (log entry 112). -/
def State.openReturn (s : State) (g : Nat) : State :=
  let v := s.vgrp g
  if !v.rejected || v.back then s
  else
    let ls := (s.groupLinks g).filter (fun m => s.rd GL_STAT.LSTATE m != 4)
    let acc := ls.filter (fun m => (s.lnk m).acked && !(s.lnk m).ended)
    if acc.isEmpty then s
    else
      let d := if v.target < v.old then v.old - v.target else v.target - v.old
      let s := s.setVgrp g (fun v => { v with
        seq := (v.seq + 1) % 4, out := true, doneAll := false, back := true, sentTick := s.tick,
        deadline := s.tick + slewTicks d v.slew + s.inf GL_CTRL.DONE_MARGIN })
      let s := ls.foldl (fun s m => if (s.lnk m).setv.isSome then s.setLnk m (fun l => { l with giveBack := true }) else s) s
      acc.foldl (fun s m => s.setvTo g m) s

/-- ACK (R110, R111): the attempt succeeds; an SSC acknowledgement moves the profile on. -/
def execAck (n w : Nat) (s : State) : Host.Outcome State Fault Refusal :=
  let s := s.quiet
  .next (if 24 ≤ n then s else if s.heard n w 8 then
      let s := s.goodSlot n
      if bits 27 24 w = 1 then
        if (s.lnk n).setv.isSome && bits 23 22 w = s.rd GL_STAT.SEQ n then
          let g := s.rd GL_CFG.RG n
          let back := (s.lnk n).giveBack
          let s := s.setLnk n (fun l => { l with setv := none, acked := true, waits := false })
          if back then s.setvTo g n else s.openReturn g
        else s
      else if bits 27 24 w = 2 then
        match (s.lnk n).ssc with
        | _ :: t => (s.setLnk n (fun l => { l with ssc := t })).sscNext n
        | [] => s
      else s
    else s)

/-- The SETV of a link is sent once more, if it may be: a first attempt that waited needs no holdover, a retry belongs to a
transition that completes in the link layer (R114, R301). -/
def State.resendSetv (s : State) (n : Nat) : State :=
  match (s.lnk n).setv with
  | some a =>
    if s.up n && (decide (0 < a.tries) || !s.holdover) then
      (s.setLnk n (fun l => { l with setv := some { a with tries := a.tries + 1 }, waits := false })).send n a.frame
    else s.setLnk n (fun l => { l with waits := true })
  | none => s

/-- The SSC frame of a link is sent once more, if it may be. -/
def State.resendSsc (s : State) (n : Nat) : State :=
  match (s.lnk n).ssc with
  | f :: _ =>
    if s.maySend n then (s.setLnk n (fun l => { l with sscTries := l.sscTries + 1, sscWaits := false })).send n f
    else s.setLnk n (fun l => { l with sscWaits := true })
  | [] => s

/-- A failed attempt of a SETV or of an SSC frame: counted, and the frame is resent; after three attempts the link enters
FAULT (R110). -/
def State.attemptFailed (s : State) (n : Nat) (ssc : Bool) : State :=
  let s := s.inc GL_ERR.NOACK n
  if ssc then (if 3 ≤ (s.lnk n).sscTries then s.linkFault n else s.resendSsc n)
  else
    match (s.lnk n).setv with
    | some a => if 3 ≤ a.tries then s.linkFault n else s.resendSetv n
    | none => s

/-- A SETV (`ssc` false) or an SSC frame awaits its acknowledgement on a link. -/
def State.awaits (s : State) (n : Nat) (ssc : Bool) : Bool :=
  let l := s.lnk n
  if ssc then !l.ssc.isEmpty && !l.sscWaits else l.setv.isSome && !l.waits

/-- ACK_TIMEOUT (R110): no ACK within 400 ns of the end of a SETV or of an SSC frame. -/
def execAckTimeout (x : TimeoutIn) (s : State) : Host.Outcome State Fault Refusal :=
  let s := s.quiet
  .next (if 24 ≤ x.link then s else if s.awaits x.link x.ssc then s.attemptFailed x.link x.ssc else s)

/-- Frames of a link that waited are sent, now that they may be (R114, R301). -/
def State.resumeLink (s : State) (n : Nat) : State :=
  let s := if (s.lnk n).waits then s.resendSetv n else s
  if (s.lnk n).sscWaits then s.resendSsc n else s

/-- The first publication after a warm restart ends the wait of SETV and SSC frames (R301). -/
def State.resumeLinks (s : State) : State :=
  let s := (List.range 24).foldl State.resumeLink s
  ((List.range 12).foldl State.sendHeld s).sscCommit

/-- A SETV rejected for good ends the link's transition; its target is no base target, and the links that accepted it
return to the previous one (R111). -/
def State.setvRejected (s : State) (n reason : Nat) : State :=
  let g := s.rd GL_CFG.RG n
  let s := s.raiseLog .GL_NAK (arg0 n 0) reason
  let s := (s.setLnk n (fun l => { l with setv := none, ended := true, waits := false, giveBack := false })).wr
    GL_STAT.OUTSTANDING n 0
  let v := s.vgrp g
  let s := if v.back || v.rejected then s
    else s.setVgrp g (fun v => { v with target := v.prev, pre := v.prevPre, old := v.target, rejected := true })
  (s.openReturn g).checkEnd g

/-- NAK (R110, R111): REASON 0 is a failed attempt; the others are not retried.  REASON 5 to 15, which Table 4.3 does not
define, act as 1 to 4, and a rejected SSC frame takes its link out of the profile that is applied: DESIGN CHOICE (log
entry 112). -/
def execNak (n w : Nat) (s : State) : Host.Outcome State Fault Refusal :=
  let s := s.quiet
  .next (if 24 ≤ n then s else if s.heard n w 0xC then
      let s := (s.goodSlot n).inc GL_ERR.NAK n
      let reason := bits 21 18 w
      let isSetv := bits 27 24 w == 1
      if isSetv && !((s.lnk n).setv.isSome && bits 23 22 w == s.rd GL_STAT.SEQ n) then s
      else if reason = 0 then (if s.awaits n (!isSetv) then s.attemptFailed n (!isSetv) else s)
      else if isSetv then s.setvRejected n reason
      else
        let s := s.raiseLog .GL_NAK (arg0 n 0) reason
        (s.setLnk n (fun l => { l with ssc := [], sscMember := false, sscWaits := false })).sscCommit
    else s)

/-- DONE (R112): the target reached, if its SEQ is that of the last SETV sent to the link. -/
def execDone (n w : Nat) (s : State) : Host.Outcome State Fault Refusal :=
  let s := s.quiet
  .next (if 24 ≤ n then s else if s.heard n w 9 then
      let s := s.goodSlot n
      let g := s.rd GL_CFG.RG n
      if bits 27 26 w = s.rd GL_STAT.SEQ n then
        let s := s.wr GL_STAT.VDONE n (bits 25 15 w)
        let s := s.setLnk n (fun l => { l with done := true, lateRun := if l.late then l.lateRun else 0 })
        let ls := (s.groupLinks g).filter (fun m => s.rd GL_STAT.LSTATE m != 4)
        if (s.vgrp g).out then s.checkEnd g
        else if !ls.isEmpty && ls.all (fun m => (s.lnk m).done) then
          s.setVgrp g (fun v => { v with doneAll := true, reconfirm := if v.reconfirm = 2 then 0 else v.reconfirm })
        else s
      else s
    else s)

/-- DONE_DEADLINE (R112): a late link is counted, asked for its target, and after three in a row enters FAULT. -/
def execDoneDeadline (n : Nat) (s : State) : Host.Outcome State Fault Refusal :=
  let s := s.quiet
  let g := s.rd GL_CFG.RG n
  let l := s.lnk n
  .next (if 24 ≤ n then s else if (s.vgrp g).out && s.on GL_STAT.OUTSTANDING n && !l.done && !l.late && decide ((s.vgrp g).deadline ≤ s.tick) then
      let s := (s.inc GL_ERR.DONE_LATE n).raise .GL_DONE_LATE (arg0 n 0)
      let s := s.setLnk n (fun l => { l with late := true, lateRun := l.lateRun + 1, setv := none, waits := false })
      let s := s.sendQuery n 3
      if 3 ≤ (s.lnk n).lateRun then (s.linkFault n).setLnk n (fun l => { l with query := [3] }) else s.checkEnd g
    else s)

/-! ### Telemetry, queries and the alert (R102, R117, R121 to R124) -/

/-- Present sectors fed by a source's rail group (R123): the core sector, the SRAM group's three, all for the always-on
group. -/
def State.sourceSectors (s : State) (g : Nat) : List Nat :=
  let t := s.rd RG_CFG.TYPE g
  if t = 0 then [g] else if t = 1 then sramSectors g else if t = 4 then List.range 6 else []

/-- The ALERT_PT ceiling lies on sector `k` (R122, R123). -/
def State.alertOn (s : State) (k : Nat) : Bool :=
  let a := s.gl.alert
  a.active && (a.unknown || a.sources.isEmpty || a.sources.any (fun n => (s.sourceSectors (s.rd GL_CFG.RG n)).contains k))

/-- A source lies on rail group `g` (R123). -/
def State.alertGroup (s : State) (g : Nat) : Bool :=
  s.gl.alert.active && s.gl.alert.sources.any (fun n => s.rd GL_CFG.RG n == g)

/-- The status reply of a link (R107, R123, R124). -/
def State.statusReply (s : State) (n v : Nat) : State :=
  let shut := v.testBit 12
  let src := shut || v.testBit 11 || v.testBit 10
  let g := s.rd GL_CFG.RG n
  let was := (s.lnk n).shut
  let s := s.setLnk n (fun l => { l with shut := shut })
  let s := if was && !shut then s.setVgrp g (fun x => { x with reconfirm := 1 }) else s
  let new := !s.gl.alert.sources.contains n
  if s.gl.alert.active && src then
    let s := if new then
        (s.raiseLog .GL_ALERT_SRC (arg0 n 0) v).setGl (fun x => { x with
          alert := { x.alert with sources := x.alert.sources ++ [n] } })
      else s
    if shut && (new || !was) then
      let ds := (s.groupDomains g).filter (fun m => s.dstate m != dOFF || s.rd SWD_STAT.PEND m == 1)
      let s := s.setGl (fun x => { x with alert := { x.alert with shutDoms := x.alert.shutDoms ++ ds } })
      s.forceOffAll (s.groupDomains g)
    else s
  else s

/-- A query reply (R102, R112, R123). -/
def State.queryReply (s : State) (n item v : Nat) : State :=
  let s := s.setLnk n (fun l => { l with query := l.query.erase item })
  if s.rd GL_STAT.LSTATE n = 1 then
    if (s.lnk n).training then s
    else if item = 0 then (s.setLnk n (fun l => { l with ident := v })).sendQuery n 1
    else if item = 1 then if v = s.rd GL_CFG.PHASES n then s.sendQuery n 3 else (s.linkFault n).trainEnd
    else if item = 3 then (s.wr GL_STAT.VDONE n v).linkUp n
    else s
  else if item = 2 then s.statusReply n v
  else if item = 3 && (s.lnk n).late && !(s.lnk n).done then s.wr GL_STAT.VDONE n v
  else s

/-- TELEM (R117): a value stored, or a query reply; `late` marks a current value too old for its predecessor. -/
def execTelem (n w : Nat) (late : Bool) (s : State) : Host.Outcome State Fault Refusal :=
  let s := s.quiet
  .next (if 24 ≤ n then s else if s.heard n w 0xA then
      let s := s.goodSlot n
      let v := bits 24 8 w
      match bits 27 25 w with
      | 0 =>
        let s := s.wr GL_TEL0.I_SUM n (min v 0xFFFF)
        let missed := decide (4 ≤ (s.lnk n).iAge)
        let s := s.setLnk n (fun l => { l with heardI := true, stale := late || missed, iAge := 0 })
        if late && !missed then (s.inc GL_ERR.RXERR n).raise .GL_RXERR (arg0 n 0) else s
      | 1 => s.wr GL_TEL0.TEMP n (bits 23 8 w)
      | 2 => s.wr GL_TEL1.VIN n v
      | 3 => if (s.lnk n).query.contains (bits 24 21 w) then s.queryReply n (bits 24 21 w) (bits 20 8 w) else s
      | _ => s
    else s)

/-- A current value that has not come for more than 2 µs and two slots is missing: counted once, and the group's sum is
invalid (R117).  At a tick boundary its age is known to the tick (log entry 112). -/
def State.telemTick (s : State) : State :=
  (idx 24 (fun n => (s.lnk n).heardI && decide (2 ≤ s.rd GL_STAT.LSTATE n) && decide (s.rd GL_STAT.LSTATE n ≤ 3))).foldl (fun s n =>
    let s := s.setLnk n (fun l => { l with iAge := l.iAge + 1, stale := l.stale || decide (3 ≤ l.iAge) })
    if (s.lnk n).iAge = 4 then (s.inc GL_ERR.RXERR n).raise .GL_RXERR (arg0 n 0) else s) s

/-- The current sum of a rail group in 0.125 A over its links not in FAULT (R115); none while one of them has sent no value
or one too old (R117), and where no link is left. -/
def State.groupCurrent (s : State) (g : Nat) : Option Nat :=
  let ls := (s.groupLinks g).filter (fun n => s.rd GL_STAT.LSTATE n != 4)
  if ls.isEmpty || ls.any (fun n => (s.lnk n).stale || !(s.lnk n).heardI) then none
  else some (sumOf (ls.map (fun n => s.rd GL_TEL0.I_SUM n)))

/-- The hub's response in the first tick after a brake (R122). -/
def State.alertResponse (s : State) : State :=
  if s.spk.respond then
    let s := s.setSpk (fun k => { k with respond := false })
    let s := s.setGl (fun x => { x with alert := { x.alert with
      active := true, asked := s.tick, sources := [], unknown := false, released := none } })
    (idx 24 s.up).foldl (fun s n => s.sendQuery n 2) s
  else s

/-- ALERT_SOURCE_TIMEOUT (R123): no source reported within 10 ticks. -/
def execAlertSourceTimeout (s : State) : Host.Outcome State Fault Refusal :=
  let s := s.quiet
  let a := s.gl.alert
  .next (if a.active && a.sources.isEmpty && !a.unknown && s.past a.asked 10 && !s.spk.respond then
      (s.setGl (fun x => { x with alert := { x.alert with unknown := true } })).raise .GL_ALERT_UNKNOWN
    else s)

/-- ALERT_HOLD_EXPIRY (R124): ALERT_HOLD ms after BRK_RELEASED the ceiling is removed. -/
def execAlertHoldExpiry (s : State) : Host.Outcome State Fault Refusal :=
  let s := s.quiet
  .next (match s.gl.alert.released with
    | some t =>
      if s.gl.alert.active && s.past t (1000 * s.inf GL_CTRL.ALERT_HOLD) && !s.braked then
        s.setGl (fun x => { x with alert := { x.alert with active := false, sources := [], unknown := false, released := none } })
      else s
    | none => s)

/-- Once each millisecond: links that reported SHUT are asked again, and domains whose source is clear and whose group has
confirmed a new target are requested on (R124); one that an inhibit of R91 refuses then is not asked for again: DESIGN
CHOICE (log entry 112). -/
def State.shutRecovery (s : State) : State :=
  if s.tick % 1000 != 0 || s.holdover then s
  else
    let s := (idx 24 (fun n => (s.lnk n).shut && s.up n)).foldl (fun s n => s.sendQuery n 2) s
    let ready := s.gl.alert.shutDoms.filter (fun d =>
      let g := s.rd SWD_CFG.RG d
      (s.groupLinks g).all (fun n => !(s.lnk n).shut) && (s.vgrp g).reconfirm == 0 && (s.vgrp g).doneAll)
    let s := s.setGl (fun x => { x with alert := { x.alert with
      shutDoms := x.alert.shutDoms.filter (fun d => !ready.contains d) } })
    ready.foldl (fun s d => if (s.onRefusal d).isNone then s.requestOn d else s) s

/-! ### Training and link states (R102, R114) -/

/-- The longest run of passing phases: its start and its length; the lowest start wins (R102). -/
def longestRun : List Bool → Nat → Nat × Nat → Nat × Nat → Nat × Nat
  | [], _, _, best => best
  | true :: t, i, (st, len), best =>
    let cur := if len = 0 then (i, 1) else (st, len + 1)
    longestRun t (i + 1) cur (if best.2 < cur.2 then cur else best)
  | false :: t, i, _, best => longestRun t (i + 1) (0, 0) best

/-- TRAIN_DONE (R102): the sweep ends. -/
def execTrainDone (n : Nat) (pass : List Bool) (s : State) : Host.Outcome State Fault Refusal :=
  let s := s.quiet
  .next (if 24 ≤ n then s else if s.rd GL_STAT.LSTATE n == 1 && (s.lnk n).training then
      let r := longestRun (pass.take 16) 0 (0, 0) (0, 0)
      let s := s.setLnk n (fun l => { l with training := false })
      if r.2 < 4 then (s.linkFault n).trainEnd
      else (s.wr GL_CFG.SMP_PH n (r.1 + (r.2 - 1) / 2)).sendQuery n 0
    else s)

/-- QUERY_TIMEOUT (R102): a training reply is missing. -/
def execQueryTimeout (n : Nat) (s : State) : Host.Outcome State Fault Refusal :=
  let s := s.quiet
  .next (if 24 ≤ n then s else if s.rd GL_STAT.LSTATE n == 1 && !(s.lnk n).query.isEmpty then (s.linkFault n).trainEnd else s)

/-- LINK_SUSPECT (R114): two consecutive received slots failed. -/
def execLinkSuspect (n : Nat) (s : State) : Host.Outcome State Fault Refusal :=
  let s := s.quiet
  .next (if 24 ≤ n then s else if s.up n && decide (2 ≤ (s.lnk n).bad) then
      (s.wr GL_STAT.LSTATE n 3).setLnk n (fun l => { l with bad := 0, good := 0 })
    else s)

/-- LINK_RECOVER (R114, R118): eight consecutive good slots; what waited is sent. -/
def execLinkRecover (n : Nat) (s : State) : Host.Outcome State Fault Refusal :=
  let s := s.quiet
  .next (if 24 ≤ n then s else if s.rd GL_STAT.LSTATE n == 3 && decide (8 ≤ (s.lnk n).good) then
      let s := (s.wr GL_STAT.LSTATE n 2).setLnk n (fun l => { l with bad := 0 })
      (((s.resumeLink n).sscIfDue n).sscCommit).sendHeld (s.rd GL_CFG.RG n)
    else s)

/-- LINK_FAULT (R114): eight failed slots in SUSPECT. -/
def execLinkFault (n : Nat) (s : State) : Host.Outcome State Fault Refusal :=
  let s := s.quiet
  .next (if 24 ≤ n then s else if s.rd GL_STAT.LSTATE n == 3 && decide (8 ≤ (s.lnk n).bad) then s.linkFault n else s)

/-- FAULT_RETRAIN (R114): 100,000 ticks in FAULT. -/
def execFaultRetrain (n : Nat) (s : State) : Host.Outcome State Fault Refusal :=
  let s := s.quiet
  .next (if 24 ≤ n then s else if s.rd GL_STAT.LSTATE n == 4 && s.past (s.lnk n).faultAt 100000 then s.enterTrain n else s)

/-- RETRAIN set: every FAULT link goes to TRAIN (R114, Table 4.9). -/
def State.retrain (s : State) : State :=
  ((idx 24 (fun n => s.on GL_CFG.PRESENT n && s.rd GL_STAT.LSTATE n == 4)).foldl (fun s n => s.enterTrain n) s).trainEnd

/-- RECEIVE_ERROR (R105, R114): a frame that fails its CRC, or of a type the regulator does not send, is discarded and
counted; an IDLE frame in the slot is none of these and makes a good slot. -/
def execReceiveError (n w : Nat) (s : State) : Host.Outcome State Fault Refusal :=
  let s := s.quiet
  let bad := !frameGood w
  .next (if !s.on GL_CFG.PRESENT n || decide (24 ≤ n) then s
    else if bad || !(([0, 8, 9, 0xA, 0xB, 0xC] : List Nat).contains (frameType w)) then
      let s := (s.inc GL_ERR.RXERR n).raise .GL_RXERR (arg0 n 0)
      if bad then s.setLnk n (fun l => { l with bad := l.bad + 1, good := 0 }) else s.goodSlot n
    else if frameType w = 0 then s.goodSlot n
    else s)

end Sys2Proof.Machine
end

