-- ==== Sys2Proof/Machine/Engine.lean ====
section
/-! DEFINITION. The cadence engine (chapter 6): the arithmetic and the instructions of the two lanes, the commit and the
lane comparison, supervision of following errors, trace and node dump. -/

namespace Sys2Proof.Machine

/-! ### Instructions (Tables 6.1 and 6.2) -/

/-- An instruction split into the fields of Table 6.1; `m` and `n` are counts. -/
structure Ins where
  op : Nat
  mod : Nat
  rel : Bool
  set : Nat
  m : Nat
  n : Nat
  sh : Nat
  d : Nat
  s : Nat
  c : Nat
  deriving DecidableEq, Repr

def insOf (w : Nat) : Ins :=
  { op := bits 63 58 w, mod := bits 57 56 w, rel := bitAt 55 w, set := bits 54 52 w, m := bits 51 44 w + 1,
    n := bits 43 36 w + 1, sh := bits 38 36 w, d := bits 35 24 w, s := bits 23 12 w, c := bits 11 0 w }

def ceilDiv (a b : Nat) : Nat :=
  (a + b - 1) / b

/-- The cycles of Table 6.2. -/
def Ins.cycles (i : Ins) : Nat :=
  match i.op with
  | 0 => 1
  | 0x3F => 4
  | 2 => ceilDiv (i.m * (8 * ceilDiv i.n 8)) 32 + 2
  | 0xA => i.m + 2
  | _ => ceilDiv i.m 32 + 1

/-- Opcodes of Table 6.2. -/
def opInTable (op : Nat) : Bool :=
  decide (op ≤ 0xB) || op == 0x3F

/-- The instructions from 0 to the first END, if there is one. -/
def toEnd : List Nat → Option (List Ins)
  | [] => none
  | w :: ws =>
    let i := insOf w
    if i.op = 0x3F then some [i] else
      match toEnd ws with
      | some l => some (i :: l)
      | none => none

/-! ### Arithmetic (R157 to R161, R171) -/

def clampI (lo hi v : Int) : Int :=
  if v < lo then lo else if hi < v then hi else v

/-- Saturation to the 40-bit range; the second part is 1 if it acted (R158). -/
def sat40 (v : Int) : Int × Nat :=
  let r := clampI (-2 ^ 39) (2 ^ 39 - 1) v
  (r, if r = v then 0 else 1)

/-- Saturation to Q1.15 (R159, R160). -/
def sat16 (v : Int) : Int × Nat :=
  let r := clampI (-32768) 32767 v
  (r, if r = v then 0 else 1)

/-- Rounding of an accumulator at scale `sh`: half towards plus infinity (R159). -/
def roundAcc (a : Int) (sh : Nat) : Int × Nat :=
  let h := 15 - sh
  sat16 ((a + 2 ^ (h - 1)) / 2 ^ h)

/-- CVT of a Q1.15 value (R171); MOD 3 is in no accepted image. -/
def cvtLevel (mod : Nat) (v : Int) : Int :=
  if mod = 0 then (if v < 0 then 0 else v / 128)
  else if mod = 1 then min 16 (4 + max v 0 * 13 / 32768)
  else max v 0 / 2048

/-! ### Lane memories (R153, R154, R163) -/

/-- A stored word of lane B is bit-inverted (R154). -/
def inv (L width v : Nat) : Nat :=
  if L = 0 then v else 2 ^ width - 1 - v

/-- A committed data word of lane `L`. -/
def Lane.heldD (x : Lane) (L a : Nat) : Int :=
  toSigned 16 (inv L 16 (Table.get (inv L 16 0) x.data a))

/-- A data word as the program reads it: this tick's write or the committed word (R163). -/
def Lane.d (x : Lane) (L a : Nat) : Int :=
  match Table.get none x.wdata a with
  | some v => toSigned 16 v
  | none => x.heldD L a

def Lane.heldW (x : Lane) (L i : Nat) : Int :=
  toSigned 40 (inv L 40 (Table.get (inv L 40 0) x.integ i))

/-- An integrator entry as the program reads it. -/
def Lane.w (x : Lane) (L i : Nat) : Int :=
  match Table.get none x.winteg i with
  | some v => toSigned 40 v
  | none => x.heldW L i

def Lane.a (x : Lane) (i : Nat) : Int :=
  Table.get 0 x.acc i

/-- The signature after the record of one write (R185): address, 1 for the integrator file, value. -/
def sigRecord (sig addr kind : Nat) (v : Int) : Nat :=
  crc32Run (bytesLE 8 (addr + kind * 2 ^ 12 + ofSigned 40 v * 2 ^ 24)) sig

/-- Write accumulators from `d` on. -/
def Lane.putA : Lane → Nat → List Int → Lane
  | x, _, [] => x
  | x, d, v :: vs => Lane.putA { x with acc := Table.set 0 x.acc d v } (d + 1) vs

/-- Write data words from `d` on; a write to a word that `held` keeps is never committed (R177), but a dump shows it (R190). -/
def Lane.putD (held : Nat → Bool) : Lane → Nat → List Int → Lane
  | x, _, [] => x
  | x, d, v :: vs =>
    let sig := sigRecord x.sig d 0 v
    let t := fun (t : Table (Option Nat)) => Table.set none t d (some (ofSigned 16 v))
    let x := if held d then { x with hdata := t x.hdata } else { x with wdata := t x.wdata }
    Lane.putD held { x with sig := sig } (d + 1) vs

def Lane.putW : Lane → List (Nat × Int) → Lane
  | x, [] => x
  | x, (i, v) :: vs =>
    let sig := sigRecord x.sig i 1 v
    let wi := Table.set none x.winteg i (some (ofSigned 40 v))
    Lane.putW { x with winteg := wi, sig := sig } vs

/-! ### The active bank, sets and their regions -/

def State.lane (s : State) (L : Nat) : Lane :=
  if L = 0 then s.eng.laneA else s.eng.laneB

def State.setLane (s : State) (L : Nat) (f : Lane → Lane) : State :=
  s.setEng (fun e => if L = 0 then { e with laneA := f e.laneA } else { e with laneB := f e.laneB })

def State.bankOf (s : State) (b : Nat) : Bank :=
  if b = 0 then s.eng.bank0 else s.eng.bank1

def State.setBank (s : State) (b : Nat) (f : Bank → Bank) : State :=
  s.setEng (fun e => if b = 0 then { e with bank0 := f e.bank0 } else { e with bank1 := f e.bank1 })

/-- The active bank. -/
def State.bank (s : State) : Bank :=
  s.bankOf (s.rd ENG_STAT.BANK)

/-- Instruction `i` of the active bank as lane `L` reads it. -/
def State.insAt (s : State) (L i : Nat) : Ins :=
  insOf (if L = 0 then at0 s.bank.progA i else inv 1 64 (s.bank.progB.getD i (2 ^ 64 - 1)))

/-- A coefficient of the active bank as lane `L` reads it. -/
def State.coef (s : State) (L a : Nat) : Int :=
  toSigned 16 (inv L 16 (Table.get (inv L 16 0) (if L = 0 then s.bank.coefA else s.bank.coefB) a))

def State.bands (s : State) (n : Nat) : SetBands :=
  s.bank.image.bands.getD n {}

/-- The base that a REL instruction of set `n` adds to C (R174). -/
def State.regionBase (s : State) (i : Ins) : Nat :=
  if i.rel then at0 (s.bands i.set).bases (s.rd ENG_SETST.REGION i.set) else 0

/-- Set `n` is open (R177). -/
def State.isOpen (s : State) (n : Nat) : Bool :=
  s.bit ENG_STAT.OPEN n

/-- The set of a loop (R166). -/
def setOfLoop (l : Nat) : Nat :=
  match l with
  | 0 => 0
  | 2 => 0
  | 1 => 1
  | 4 => 2
  | _ => 3

/-- A candidate word of the output area that belongs to an open set (R177). -/
def State.heldWord (s : State) (a : Nat) : Bool :=
  if 0xF00 ≤ a ∧ a < 0xF18 then
    let k := (a - 0xF00) % 4
    ((k == 0 || k == 2) && s.isOpen 0) || (k == 1 && s.isOpen 1)
  else if a = 0xF18 ∨ a = 0xF19 then s.isOpen 3
  else if a = 0xF1A then s.isOpen 2
  else false

/-- A word of the data range of an open set: its writes are not committed (R177). -/
def State.heldRange (s : State) (a : Nat) : Bool :=
  (List.range 4).any (fun n => s.isOpen n && decide ((s.bands n).dataLo ≤ a) && decide (a < (s.bands n).dataHi))

/-- Loop and unit of an integrator entry (R156). -/
def State.intMapOf (s : State) (j : Nat) : Option (Nat × Nat) :=
  s.bank.image.intMap.getD j none

/-- Selection codes as latched: words 0x0F0 to 0x0F8 (Table 6.3). -/
def codeWord (loop unit : Nat) : Nat :=
  if loop ≤ 2 then 0x0F0 + unit else if loop = 3 then 0x0F6 + unit else 0x0F8

def loopCode (loop : Nat) : Int :=
  if loop = 0 then 2 else if loop = 1 then 3 else 6

/-- Entry `j` is updated in this tick (R172). -/
def State.integrates (s : State) (x : Lane) (L j : Nat) : Bool :=
  match s.intMapOf j with
  | some (l, u) => x.d L (codeWord l u) == loopCode l && !s.isOpen (setOfLoop l)
  | none => false

/-! ### Release ramps and the minimum selector (R173, R179) -/

/-- The release-ramp key of candidate `c` (0 current, 1 thermal, 2 cap) of sector `k`; 18 and 19 are the link groups, 20
the stack group. -/
def rampKey (k c : Nat) : Nat :=
  3 * k + c

/-- The bound of a candidate under a release ramp at tick `t` (R179). -/
def State.rampBoundAt (s : State) (t key : Nat) : Option Nat :=
  match Table.get none s.eng.ramps key with
  | some r => some (r.base + (t - r.start) / max 1 (s.inf ENG_CTRL.REL_STEP))
  | none => none

def State.rampBound (s : State) (key : Nat) : Option Nat :=
  s.rampBoundAt s.tick key

/-- A candidate as the selector takes it at tick `t`, and whether a ramp holds it down. -/
def State.rampedAt (s : State) (t key : Nat) (v : Int) : Int × Bool :=
  match s.rampBoundAt t key with
  | some b => if v ≤ b then (v, false) else ((b : Int), true)
  | none => (v, false)

def State.ramped (s : State) (key : Nat) (v : Int) : Int × Bool :=
  s.rampedAt s.tick key v

/-- The engine's own ceiling of sector `k`: an open set 0 or 1 (R177) and loops that do not follow (R184). -/
def State.ownCeiling (s : State) (k : Nat) : Nat :=
  let opened := ([0, 1].filter s.isOpen).map (fun n => s.inf ENG_SET.OPEN_PT n)
  let nf := (List.range 5).any (fun l => Table.get false s.eng.nf (7 * l + k) || Table.get false s.eng.nf (7 * l + 6))
  (if nf then s.inf ENG_CTRL.FE_PT :: opened else opened).foldl min 255

/-- What the selector gives for a sector: point, code, safe term, performance term. -/
structure Sel where
  pt : Int
  code : Nat
  safe : Int
  perf : Int
  deriving DecidableEq, Repr

/-- The formula of R173 and the codes of Table 6.6: three candidates (each with whether a ramp holds it down and whether an
open set holds it), then v_sup, fw_safe, floor, hint, peloton and the rim ceiling. -/
def selectPoint (cur thm cap : Int × Bool × Bool) (vsup fws floor hint pel rim : Int) : Sel :=
  let safe := min (min cur.1 thm.1) (min vsup fws)
  let perf := min cap.1 (min pel hint)
  let pt := min safe (max floor perf)
  let ramp := [cur, thm, cap].any (fun c => c.2.1 && c.1 == pt)
  let held := [cur, thm, cap].any (fun c => c.2.2 && c.1 == pt)
  let code :=
    if rim < pt then 0
    else if pt = vsup ∨ pt = fws ∨ ramp then 1
    else if held then 7
    else if pt = cur.1 then 2
    else if pt = thm.1 then 3
    else if pt = floor ∧ perf ≤ floor then 4
    else if pt = pel ∨ pt = hint then 5
    else 6
  { pt := pt, code := code, safe := safe, perf := perf }

/-- The selector of sector `k` over words that `rd` reads (R173). -/
def State.sectorSel (s : State) (rd : Nat → Int) (k : Nat) : Sel :=
  let cand := fun c => s.ramped (rampKey k c) (rd (0xF00 + 4 * k + c))
  let one := fun c => ((cand c).1, (cand c).2, s.isOpen (setOfLoop c))
  selectPoint (one 0) (one 1) (one 2) (rd (0x0C0 + k)) (min (rd (0x0C6 + k)) (s.ownCeiling k)) (rd (0x0CC + k))
    (rd (0x0D2 + k)) (rd 0x0D8) (rd (0x070 + k))

/-- The selector of link group `u` (0, 1) or of the stack group (2): the lower of candidate and budget limit. -/
def State.levelSel (s : State) (rd : Nat → Int) (u : Nat) : Int × Nat :=
  let c := (s.ramped (18 + u) (rd (0xF18 + u))).1
  let lim := rd (0x0D9 + u)
  (min c lim, if c < lim then 6 else 4)

/-! ### One instruction in one lane -/

/-- Indices 0 … n − 1 mapped. -/
def each {α : Type} (n : Nat) (f : Nat → α) : List α :=
  (List.range n).map f

/-- The sum of coefficients from `k` on times data words from `a` on. -/
def State.dot (s : State) (L : Nat) (x : Lane) (k a n : Nat) : Int :=
  (each n (fun j => s.coef L (k + j) * x.d L (a + j))).foldl (· + ·) 0

/-- The effect of instruction `i` on lane `L` and the number of its saturations (Table 6.2). -/
def State.laneExec (s : State) (L : Nat) (i : Ins) (x : Lane) : Lane × Nat :=
  let k := 16 * (i.c + s.regionBase i)
  let addA := fun (p : List (Int × Nat)) => (x.putA i.d (p.map (·.1)), sumOf (p.map (·.2)))
  let addD := fun (p : List (Int × Nat)) => (x.putD s.heldWord i.d (p.map (·.1)), sumOf (p.map (·.2)))
  let base := fun j => if i.mod % 2 = 1 then x.a (i.d + j) else 0
  match i.op with
  | 1 => (x.putA i.d (each i.m (fun j => x.d L (i.s + j) * 2 ^ 15)), 0)
  | 2 => addA (each i.m (fun j =>
      let q := s.dot L x (k + i.n * j) i.s i.n
      sat40 (base j + (if 2 ≤ i.mod then min q 0 else q))))
  | 3 => addA (each i.m (fun j => sat40 (base j + s.coef L (k + j) * x.d L (i.s + j))))
  | 4 => addA (each i.m (fun j => sat40 (x.a (i.d + j) + x.w L (i.s + j))))
  | 5 => addD (each i.m (fun j => roundAcc (x.a (i.s + j)) i.sh))
  | 6 => addD (each i.m (fun j => sat16 (x.d L (i.s + j) - x.d L (i.c + j))))
  | 7 => (x.putD s.heldWord i.d (each i.m (fun j =>
      min (max (x.d L (i.s + j)) (s.coef L (k + 2 * j))) (s.coef L (k + 2 * j + 1)))), 0)
  | 8 => (x.putW (((List.range i.m).filter (fun j => s.integrates x L (i.d + j))).map (fun j =>
      (i.d + j, clampI (s.coef L (k + 3 * j + 1) * 2 ^ 15) (s.coef L (k + 3 * j + 2) * 2 ^ 15)
        (x.w L (i.d + j) + s.coef L (k + 3 * j) * x.d L (i.s + j))))), 0)
  | 9 => (x.putD s.heldWord i.d (each i.m (fun j => cvtLevel i.mod (x.d L (i.s + j)))), 0)
  | 0xA =>
    let pair := fun u => if i.mod = 0 then ((s.sectorSel (x.d L) u).pt, ((s.sectorSel (x.d L) u).code : Int))
      else let r := s.levelSel (x.d L) (if i.mod = 1 then u else 2); (r.1, (r.2 : Int))
    (x.putD s.heldWord i.d ((List.range i.m).flatMap (fun u => [(pair u).1, (pair u).2])), 0)
  | 0xB => (x.putD s.heldWord i.d (each i.m (fun j => x.d L (i.s + j))), 0)
  | _ => (x, 0)

/-! ### Publication of a tick (R164, R168, R183) -/

/-- The committed data word `a`. -/
def State.word (s : State) (a : Nat) : Int :=
  s.eng.laneA.heldD 0 a

def satN (lo hi : Nat) (v : Int) : Nat :=
  (clampI (lo : Int) (hi : Int) v).toNat

/-- The ENG_SEL register from nine codes. -/
def State.showCodes (s : State) (o : SelOut) : State :=
  let sec := sumOf (each 6 (fun k => at0 o.codes k % 8 * 8 ^ k))
  let lnk := sumOf (each 2 (fun u => if at0 o.lcodes u = 6 then 2 ^ u else 0))
  ((s.wr ENG_SEL.SEC 0 sec).wr ENG_SEL.LNK 0 lnk).wrB ENG_SEL.STK 0 (at0 o.lcodes 2 == 6)

/-- Publish selector outputs for the next boundary (R167). -/
def State.publishSel (s : State) (o : SelOut) : State :=
  (s.setEng (fun e => { e with next := o })).showCodes o

/-- The terms of one sector as shown in `ENG_OUT_s` and `ENG_CAND_s`. -/
def State.showSector (s : State) (rd : Nat → Int) (pt : Nat) (c : Nat → Nat) (x : Sel) (k : Nat) : State :=
  let s := ((s.wr ENG_OUT.OUT k pt).wr ENG_OUT.SAFE k (satN 0 255 x.safe)).wr ENG_OUT.PERF k (satN 0 255 x.perf)
  let s := s.wr ENG_OUT.FLOOR k (satN 0 255 (rd (0x0CC + k)))
  let s := ((s.wr ENG_CAND.CUR k (c 0)).wr ENG_CAND.THM k (c 1)).wr ENG_CAND.CAP k (c 2)
  s.wr ENG_CAND.HINT k (satN 0 255 (rd (0x0D2 + k)))

/-- The output area of the committed tick becomes the published outputs (R164). -/
def State.publishArea (s : State) : State :=
  let w := s.word
  let o : SelOut :=
    { pts := each 6 (fun k => satN 0 255 (w (0xF50 + 2 * k))),
      codes := each 6 (fun k => (w (0xF51 + 2 * k) % 8).toNat),
      lnk8 := satN 4 16 (w 0xF5C),
      lnk9 := satN 4 16 (w 0xF5E),
      bw := satN 0 15 (w 0xF60),
      lcodes := [(w 0xF5D % 8).toNat, (w 0xF5F % 8).toNat, (w 0xF61 % 8).toNat] }
  let s := upTo 6 (fun k s =>
    s.showSector w (at0 o.pts k) (fun c => satN 0 255 (w (0xF00 + 4 * k + c))) (s.sectorSel w k) k) s
  let s := ((s.wr ENG_LCAND.LINK8 0 (satN 4 16 (w 0xF18))).wr ENG_LCAND.LINK9 0 (satN 4 16 (w 0xF19))).wr
    ENG_LCAND.STACK 0 (satN 0 15 (w 0xF1A))
  let s := s.bank.image.estMap.foldl (fun s e =>
    s.wrS TH_VAL.EST e.1 ((w e.2 * (s.bank.image.scale.temp : Int) * 2 + 32768) / 65536)) s
  s.publishSel o

/-- Candidates and codes as they read while the engine is IDLE or FAULT (R168); the outputs published in holdover are R301's. -/
def State.safeCands (s : State) : State :=
  let p := s.inf ENG_CTRL.SAFE_PT
  let s := upTo 6 (fun k s => ((s.wr ENG_CAND.CUR k p).wr ENG_CAND.THM k p).wr ENG_CAND.CAP k p) s
  let s := ((s.wr ENG_LCAND.LINK8 0 4).wr ENG_LCAND.LINK9 0 4).wr ENG_LCAND.STACK 0 0
  s.showCodes { lcodes := [7, 7, 7] }

/-- The selector as hardware evaluates it while the engine is IDLE or FAULT (R168). -/
def State.safeSel (s : State) : State :=
  let p := s.inf ENG_CTRL.SAFE_PT
  let c : Int × Bool × Bool := ((p : Int), false, false)
  let w := s.word
  let sel := fun k => selectPoint c c c (w (0x0C0 + k)) (min (w (0x0C6 + k)) (s.ownCeiling k)) (w (0x0CC + k)) (w (0x0D2 + k))
    (w 0x0D8) (w (0x070 + k))
  let o : SelOut :=
    { pts := each 6 (fun k => satN 0 255 (sel k).pt),
      codes := List.replicate 6 7,
      lnk8 := satN 4 16 (min 4 (w 0x0D9)),
      lnk9 := satN 4 16 (min 4 (w 0x0DA)),
      bw := satN 0 15 (min 0 (w 0x0DB)),
      lcodes := List.replicate 3 7 }
  let s := upTo 6 (fun k s => s.showSector w (at0 o.pts k) (fun _ => p) (sel k) k) s
  let s := ((s.wr ENG_LCAND.LINK8 0 4).wr ENG_LCAND.LINK9 0 4).wr ENG_LCAND.STACK 0 0
  s.publishSel o

/-- Loop and unit of a following-error slot: unit 6 is the die (R156, R183). -/
def State.feMapOf (s : State) (k : Nat) : Option (Nat × Nat) :=
  match s.bank.image.feMap.getD k none with
  | some (l, some u) => some (l, u)
  | some (l, none) => some (l, 6)
  | none => none

/-- Slot `k` is above its loop's FE_LIM in the committed outputs. -/
def State.feAbove (s : State) (k : Nat) : Bool :=
  match s.feMapOf k with
  | some (l, _) => decide ((s.inf ENG_FE.FE_LIM l % 2 ^ 15 : Nat) < s.word (0xF20 + k))
  | none => false

/-- Following errors after a commit (R183, R184).  A count of 0x10000 and above has been reported. -/
def State.followErrors (s : State) : State :=
  let s := upTo 32 (fun k s =>
    if (s.feMapOf k).isSome then
      let n := if s.feAbove k then Table.get 0 s.eng.feRun k + 1 else 0
      s.setEng (fun e => { e with feRun := Table.set 0 e.feRun k n })
    else s) s
  upTo 35 (fun key s =>
    if Table.get false s.eng.nf key then
      let slots := idx 32 (fun k => s.feMapOf k == some (key / 7, key % 7))
      let n := if slots.any s.feAbove then 0 else Table.get 0 s.eng.feClean key + 1
      s.setEng (fun e => { e with feClean := Table.set 0 e.feClean key n })
    else s) s

/-! ### Trace and node dump (R188 to R190) -/

/-- The value of a node in a lane: a data word, or bits [39:24] of an integrator entry. -/
def Lane.node (x : Lane) (L src node : Nat) : Int :=
  if src = 1 then toSigned 16 (ofSigned 40 (x.heldW L (node % 64)) / 2 ^ 24) else x.heldD L node

/-- The trigger condition of channel `n` (Table 6.12). -/
def State.traceHit (s : State) (n : Nat) (v : Int) (prev : Option Int) (ev : Nat) (sched ch0 : Bool) : Bool :=
  let thr := s.rdS ENG_TR_THR.THR n
  match s.rd ENG_TR_CH.TRIG n with
  | 1 => decide (thr < v)
  | 2 => decide (v < thr)
  | 3 => match prev with
    | some p => decide (p < thr) && decide (thr ≤ v)
    | none => false
  | 4 => match prev with
    | some p => decide (thr ≤ p) && decide (v < thr)
    | none => false
  | 5 => decide (0 < Nat.land ev (s.rd ENG_TR_THR.EVMASK n))
  | 6 => sched
  | 7 => ch0
  | _ => false

def State.setTrace (s : State) (n : Nat) (f : Trace → Trace) : State :=
  s.setEng (fun e => { e with trace := Table.upd {} e.trace n f })

/-- A block of a channel to be drained (R411). -/
def State.drainBlockOf (s : State) (n start : Nat) : State :=
  s.setFw (fun f => { f with drain := f.drain ++ [{ chan := n, start := start }] })

/-- A half that sample `i` of channel `n` overwrites before it was copied is abandoned (R411). -/
def State.abandonHalf (s : State) (n i : Nat) : State :=
  let lost := fun (j : DrainJob) => j.chan == n && decide ((i + 4096 - j.start) % 4096 < 2048)
    && decide (j.copied < 4 * ((i + 4096 - j.start) % 4096) + 4)
  let k := (s.fw.drain.filter lost).length
  if k = 0 then s
  else
    let s := s.setFw (fun f => { f with drain := f.drain.filter (fun j => !lost j) })
    (upTo k (fun _ s => s.inc TRD_STAT.LOST) s).raise .FW_TRD_LOST (arg0 n 0)

/-- The channel stops: its last 2,048 samples are drained (R189, R411, Table 1.3). -/
def State.traceStop (s : State) (n : Nat) : State :=
  let s := s.wr ENG_TR_STAT.STOPPED n 1
  let s := if s.on TRD_CTRL.EN && s.bit TRD_CTRL.CH n then
      s.drainBlockOf n ((s.rd ENG_TR_STAT.WPTR n + 2048) % 4096) else s
  s.trigger 7

/-- One sample of channel `n`; `held` says that the tick was not committed. -/
def State.traceSample (s : State) (held : Bool) (ev : Nat) (sched : Bool) (ch0 : Bool) (n : Nat) : State :=
  let v := s.eng.laneA.node 0 (s.rd ENG_TR_CH.SRC n) (s.rd ENG_TR_CH.NODE n)
  let i := s.rd ENG_TR_STAT.WPTR n
  let t := Table.get {} s.eng.trace n
  let s := s.abandonHalf n i
  let x := ofSigned 16 v * 2 ^ 16 + b2n held * 2 ^ 15 + s.tick % 2 ^ 15
  let s := s.setTrace n (fun t => { t with mem := Table.set 0 t.mem i x, prev := some v, count := t.count + 1 })
  let s := s.wr ENG_TR_STAT.WPTR n ((i + 1) % 4096)
  let s := if t.count + 1 = 2048 then s.wr ENG_TR_STAT.HALF n 1 else s
  let s := if (i + 1) % 2048 = 0 then
      let s := if s.on TRD_CTRL.EN && s.bit TRD_CTRL.CH n && s.bit TRD_CTRL.STREAM n then
          s.drainBlockOf n ((i + 4096 - 2047) % 4096) else s
      s.trigger 7
    else s
  match t.left with
  | some k => (s.setTrace n (fun t => { t with left := some (k - 1) })) |> fun s => if k ≤ 1 then s.traceStop n else s
  | none =>
    if s.traceHit n v t.prev ev sched ch0 then
      let post := s.rd ENG_TR_CH.POST n
      let s := ((s.wr ENG_TR_STAT.TRIGGERED n 1).wr ENG_TR_STAT.TRIG_IDX n i).setTrace n (fun t => { t with left := some post })
      if post = 0 then s.traceStop n else s
    else s

/-- The samples of one tick, at the commit point or when no commit occurs (R188). -/
def State.traceTick (s : State) (held : Bool) : State :=
  let ev := s.eng.trEvents
  let sched := s.eng.trSched
  let runs := fun (s : State) n => s.on ENG_TR_CH.EN n && !s.on ENG_TR_STAT.STOPPED n
  let was := s.on ENG_TR_STAT.TRIGGERED 0
  let s := if runs s 0 then s.traceSample held ev sched false 0 else s
  let ch0 := !was && s.on ENG_TR_STAT.TRIGGERED 0
  let s := (List.range 7).foldl (fun s i => if runs s (i + 1) then s.traceSample held ev sched ch0 (i + 1) else s) s
  s.setEng (fun e => { e with trEvents := 0, trSched := false })

/-- The last value that lane `L` wrote to a node in this tick (R190). -/
def Lane.wrote (x : Lane) (src node : Nat) : Option Nat :=
  if src = 1 then (Table.get none x.winteg (node % 64)).map (fun v => v / 2 ^ 24)
  else match Table.get none x.wdata node with
    | some v => some v
    | none => Table.get none x.hdata node

/-- Complete the node dump of this tick (R190); the write buffers still stand. -/
def State.dumpEnd (s : State) (held : Bool) : State :=
  match s.eng.dump with
  | none => s
  | some (src, node) =>
    let a := s.eng.laneA.wrote src node
    let b := s.eng.laneB.wrote src node
    let va := a.getD (ofSigned 16 (s.eng.laneA.node 0 src node))
    let vb := b.getD (ofSigned 16 (s.eng.laneB.node 1 src node))
    let s := (s.wr ENG_DUMP_VAL.VAL_A 0 va).wr ENG_DUMP_VAL.VAL_B 0 vb
    let s := ((s.wr ENG_DUMP_STAT.DONE 0 1).wrB ENG_DUMP_STAT.DIFF 0 (va != vb)).wrB ENG_DUMP_STAT.HELD 0 held
    let s := (s.wrB ENG_DUMP_STAT.NOWRITE 0 (a.isNone || b.isNone)).wr ENG_DUMP_TICK.TICK 0 s.tick
    s.setEng (fun e => { e with dump := none })

/-! ### The end of a tick's program (R30, R185 to R187) -/

/-- Drop the write buffers of a lane. -/
def Lane.drop (x : Lane) : Lane :=
  { x with wdata := [], hdata := [], winteg := [], acc := [] }

/-- Move the write buffers of lane `L` to its memories, except the data ranges of open sets. -/
def State.commitLane (s : State) (L : Nat) : State :=
  let held := s.heldRange
  s.setLane L (fun x =>
    let data := x.wdata.foldl (fun t e => match e.2 with
      | some v => if held e.1 then t else Table.set (inv L 16 0) t e.1 (inv L 16 v)
      | none => t) x.data
    let integ := x.winteg.foldl (fun t e => match e.2 with
      | some v => Table.set (inv L 40 0) t e.1 (inv L 40 v)
      | none => t) x.integ
    { x with data := data, integ := integ, wdata := [], hdata := [], winteg := [], acc := [] })

/-- The program of the tick is over: `used` cycles, trace samples of an uncommitted tick, buffers dropped. -/
def State.engineOver (s : State) (used : Nat) : State :=
  let s := s.dumpEnd true
  let s := s.setEng (fun e => { e with
    laneA := e.laneA.drop, laneB := e.laneB.drop, running := false, settled := true, committed := false, ue := none })
  (s.traceTick true).setCad (fun c => { c with engCyc := used })

/-- The engine enters FAULT (R187); `a` is the address its code carries. -/
def State.engineFault (s : State) (a : Nat) : State :=
  let s := (s.wr ENG_STAT.STATE 0 2).setEng (fun e => { e with running := false, faultAt := s.tick, faultAddr := a })
  let s := (s.raise .ENG_ENGINE_FAULT).errRecord (0x12 * 2 ^ 20 + a % 4096)
  s.safeSel

/-- A lane disagreement (R186, R187): `a` is the first differing output word or the address of the error. -/
def State.disagree (s : State) (lane a : Nat) : State :=
  let used := min 700 (max s.eng.laneA.cycles s.eng.laneB.cycles)
  let s := ((s.inc ENG_CNT.LDIS).raiseLog .ENG_LANE_DIS (arg0 lane 0) a).traceEvent 0
  let s := s.engineOver used
  let run := min 7 (s.rd ENG_STAT.LD_RUN + 1)
  let s := s.wr ENG_STAT.LD_RUN 0 run
  if s.inf ENG_CTRL.LD_LIMIT ≤ run then s.engineFault a else s

/-- An engine overrun (R30). -/
def State.engineOverrun (s : State) : State :=
  let s := ((s.inc CAD_OVERRUN.ENG).raise .CAD_ENG_OVR).traceEvent 2
  let s := s.setCad (fun c => { c with engOvr := s.tick :: c.engOvr })
  s.engineOver 700

/-- Candidates at or below their bound leave the ramp (R179). -/
def State.leaveRamps (s : State) : State :=
  upTo 21 (fun key s =>
    let v := if key < 18 then s.word (0xF00 + 4 * (key / 3) + key % 3) else s.word (0xF18 + (key - 18))
    match s.rampBound key with
    | some b => if v ≤ b then s.setEng (fun e => { e with ramps := Table.set none e.ramps key none }) else s
    | none => s) s

/-- The tick is committed in both lanes (R185): outputs published, supervision, trace. -/
def State.engineCommit (s : State) : State :=
  let used := max s.eng.laneA.cycles s.eng.laneB.cycles
  let s := s.dumpEnd false
  let s := (s.commitLane 0).commitLane 1
  let s := s.publishArea
  let s := s.leaveRamps
  let s := s.wr ENG_STAT.LD_RUN 0 0
  let s := s.setEng (fun e => { e with running := false, settled := true, committed := true, ue := none })
  let s := s.followErrors
  (s.traceTick false).setCad (fun c => { c with engCyc := used })

/-- The first word of the output area in which the lanes differ (R185). -/
def State.firstDiff (s : State) : Option Nat :=
  ((List.range 256).map (· + 0xF00)).find? (fun a => s.eng.laneA.d 0 a != s.eng.laneB.d 1 a)

/-- The comparison at END (R30, R185, R186). -/
def State.engineCompare (s : State) : State :=
  let e := s.eng
  match e.ue with
  | some (l, a) => s.disagree l a
  | none =>
    if !e.laneA.ended && !e.laneB.ended then s.engineOverrun
    else if e.laneA.ended != e.laneB.ended then s.disagree 0 (s.firstDiff.getD 0)
    else
      match s.firstDiff with
      | some a => s.disagree 0 a
      | none => if e.laneA.sig != e.laneB.sig then s.disagree 0 0 else s.engineCommit

/-! ### The instruction commands -/

/-- One instruction in lane `L`, with its stall cycles (R155). -/
def State.runLane (s : State) (L stall : Nat) : State :=
  let i := s.insAt L s.eng.pc
  let r := s.laneExec L i (s.lane L)
  let cyc := (s.lane L).cycles + i.cycles + stall
  let s := s.setLane L (fun _ => { r.1 with cycles := cyc, ended := (i.op == 0x3F) && decide (cyc ≤ 700) })
  if L = 0 ∧ 0 < r.2 then
    (upTo r.2 (fun _ s => (s.inc ENG_CNT.SAT).raise .ENG_SAT) s).traceEvent 7
  else s

/-- An uncorrectable error met by an instruction (R155). -/
def firstError (u : Option (Nat × Nat)) (x : EngErr) : Option (Nat × Nat) :=
  match u with
  | some p => some p
  | none => match x.ueA with
    | some a => some (0, a)
    | none => x.ueB.map (fun a => (1, a))

/-- The instruction at the program counter runs in both lanes, if it has opcode `op` and the program runs (R162). -/
def State.engineStep (s : State) (op : Nat) (x : EngErr) : State :=
  if s.eng.running && (s.insAt 0 s.eng.pc).op == op then
    let s := (s.runLane 0 x.stallA).runLane 1 x.stallB
    let u := firstError s.eng.ue x
    s.setEng (fun e => { e with pc := e.pc + 1, ue := u })
  else s

/-- NOP (R162). -/
def execNop (x : EngErr) (s : State) : Host.Outcome State Fault Refusal :=
  .next (s.quiet.engineStep 0x00 x)

/-- LDA (R160, R162). -/
def execLda (x : EngErr) (s : State) : Host.Outcome State Fault Refusal :=
  .next (s.quiet.engineStep 0x01 x)

/-- MVM (R157, R158, R169, R170). -/
def execMvm (x : EngErr) (s : State) : Host.Outcome State Fault Refusal :=
  .next (s.quiet.engineStep 0x02 x)

/-- VMUL (R157, R158). -/
def execVmul (x : EngErr) (s : State) : Host.Outcome State Fault Refusal :=
  .next (s.quiet.engineStep 0x03 x)

/-- ADDI (R158, R161). -/
def execAddi (x : EngErr) (s : State) : Host.Outcome State Fault Refusal :=
  .next (s.quiet.engineStep 0x04 x)

/-- RND (R159). -/
def execRnd (x : EngErr) (s : State) : Host.Outcome State Fault Refusal :=
  .next (s.quiet.engineStep 0x05 x)

/-- SUB (R160). -/
def execSub (x : EngErr) (s : State) : Host.Outcome State Fault Refusal :=
  .next (s.quiet.engineStep 0x06 x)

/-- CLMP (R162). -/
def execClmp (x : EngErr) (s : State) : Host.Outcome State Fault Refusal :=
  .next (s.quiet.engineStep 0x07 x)

/-- INTG (R172). -/
def execIntg (x : EngErr) (s : State) : Host.Outcome State Fault Refusal :=
  .next (s.quiet.engineStep 0x08 x)

/-- CVT (R171). -/
def execCvt (x : EngErr) (s : State) : Host.Outcome State Fault Refusal :=
  .next (s.quiet.engineStep 0x09 x)

/-- MINSEL (R173). -/
def execMinsel (x : EngErr) (s : State) : Host.Outcome State Fault Refusal :=
  .next (s.quiet.engineStep 0x0A x)

/-- MOV (R162, R163). -/
def execMov (x : EngErr) (s : State) : Host.Outcome State Fault Refusal :=
  .next (s.quiet.engineStep 0x0B x)

/-- END (R185, R186): comparison and commit. -/
def execEnd (x : EngErr) (s : State) : Host.Outcome State Fault Refusal :=
  let s := s.quiet
  .next (if s.eng.running && (s.insAt 0 s.eng.pc).op == 0x3F then (s.engineStep 0x3F x).engineCompare else s)

/-- ENGINE_OVERRUN (R30): cycle 700 arrives with neither lane at END; an uncorrectable error makes the tick a lane
disagreement instead (R155, R186). -/
def execEngineOverrun (s : State) : Host.Outcome State Fault Refusal :=
  let s := s.quiet
  .next (if s.eng.running && !s.eng.laneA.ended && !s.eng.laneB.ended then
      match s.eng.ue with
      | some (l, a) => s.disagree l a
      | none => s.engineOverrun
    else s)

/-- NOT_FOLLOWING (R184): the count of slot `k` has reached FE_TIME. -/
def execNotFollowing (k : Nat) (s : State) : Host.Outcome State Fault Refusal :=
  let s := s.quiet
  .next (if 32 ≤ k then s else match s.feMapOf k with
    | some (l, u) =>
      let n := Table.get 0 s.eng.feRun k
      if s.inf ENG_FE.FE_TIME l ≤ n ∧ n < 0x10000 then
        let s := ((s.wrBit ENG_NF.NF 0 l true).inc ENG_NF.NF_CNT).traceEvent 1
        let s := s.setEng (fun e => { e with
          feRun := Table.set 0 e.feRun k 0x10000, nf := Table.set false e.nf (7 * l + u) true,
          feClean := Table.set 0 e.feClean (7 * l + u) 0 })
        let code := 0x13 * 2 ^ 20 + l * 2 ^ 16 + k * 2 ^ 8 + (if u = 6 then 7 else u)
        (s.raiseLog .ENG_NOT_FOLLOWING (arg0 k 0) code).errRecord code
      else s
    | none => s)

/-- NF_CLEAR (R184): 1,000 committed ticks at or below FE_LIM. -/
def execNfClear (l u : Nat) (s : State) : Host.Outcome State Fault Refusal :=
  let s := s.quiet
  .next (if 5 ≤ l ∨ 7 ≤ u then s else if Table.get false s.eng.nf (7 * l + u) && decide (1000 ≤ Table.get 0 s.eng.feClean (7 * l + u)) then
      let s := s.setEng (fun e => { e with nf := Table.set false e.nf (7 * l + u) false })
      if (List.range 7).any (fun v => Table.get false s.eng.nf (7 * l + v)) then s else s.wrBit ENG_NF.NF 0 l false
    else s)

/-- NODE_DUMP_FIRE (R190): the class-7 event captures a node in this tick. -/
def execNodeDumpFire (s : State) : Host.Outcome State Fault Refusal :=
  let s := s.quiet
  .next (match s.takeEvent (fun a => match a with | .dump _ _ => true | _ => false) with
    | some (.dump src node, s) =>
      let s := s.setEng (fun e => { e with dump := some (src, node), trSched := true })
      if s.rd ENG_STAT.STATE = 1 then s
      else ((s.dumpEnd true).wr ENG_DUMP_STAT.NOWRITE 0 1).wr ENG_DUMP_STAT.HELD 0 1
    | _ => s)

/-- TRACE_ARM and ENG_TR_CTRL.ARM at the next boundary (R189): every enabled channel restarts. -/
def State.traceArm (s : State) : State :=
  if s.on ENG_TR_CTRL.ARM then
    let s := (idx 8 (fun n => s.on ENG_TR_CH.EN n)).foldl (fun s n =>
      let s := ((s.wr ENG_TR_STAT.STOPPED n 0).wr ENG_TR_STAT.TRIGGERED n 0).wr ENG_TR_STAT.HALF n 0
      let s := (s.wr ENG_TR_STAT.TRIG_IDX n 0).wr ENG_TR_STAT.WPTR n 0
      s.setTrace n (fun t => { t with prev := none, left := none, count := 0 })) s
    s.wr ENG_TR_CTRL.ARM 0 0
  else s

end Sys2Proof.Machine
end

