-- ==== Sys2Proof/Machine/Thermal.lean ====
section
/-! DEFINITION. Temperature channels and thermal limits (chapter 7): conversions, values, faults, zones, the stop action,
the inhibits and regulator warnings. -/

namespace Sys2Proof.Machine

def State.chan (s : State) (n : Nat) : Chan :=
  Table.get {} s.th.chans n

def State.setChan (s : State) (n : Nat) (f : Chan → Chan) : State :=
  s.setTh (fun t => { t with chans := Table.upd {} t.chans n f })

/-- Channel `n` is enabled (R193). -/
def State.chanOn (s : State) (n : Nat) : Bool :=
  s.infOn TH_CFG.EN n

/-- The role of a channel (R193): 5 is channel 24's; other codes above 4 read 4. -/
def State.role (s : State) (n : Nat) : Nat :=
  let r := s.inf TH_CFG.ROLE n
  if n = 24 then 5 else min r 4

/-- The sectors a channel acts on: its SECT, or every sector for roles 3 to 5 (R201, R204). -/
def State.chanSector (s : State) (n k : Nat) : Bool :=
  decide (3 ≤ s.role n) || (s.inf TH_CFG.SECT n).testBit k

def State.infS (s : State) (F : Fld) (i : Nat := 0) : Int :=
  toSigned F.width (s.inf F i)

/-- The effective thresholds (R202): LOW_STOP, LOW_WARN, HIGH_WARN, HIGH_TARGET, HIGH_STOP made monotone. -/
def State.thresholds (s : State) (n : Nat) : Int × Int × Int × Int × Int :=
  let a := s.infS TH_LOW.LOW_STOP n
  let b := max a (s.infS TH_LOW.LOW_WARN n)
  let c := max b (s.infS TH_HIGH.HIGH_WARN n)
  let d := max c (s.infS TH_HIGH.HIGH_TARGET n)
  (a, b, c, d, max d (s.infS TH_STOP.HIGH_STOP n))

def State.valid (s : State) (n : Nat) : Bool :=
  s.on TH_CHSTAT.VALID n

/-- The output word that the active image maps to channel `n` (R200). -/
def State.mapped (s : State) (n : Nat) : Bool :=
  s.bank.image.estMap.any (fun e => e.1 == n)

/-- The engine runs its program (R200). -/
def State.engineRuns (s : State) : Bool :=
  s.rd ENG_STAT.STATE == 1

/-- The value of channel `n` that the latch and the thresholds take: VALUE or the substitute of R201. -/
def State.temp (s : State) (n : Nat) : Int :=
  let guardT : Int := 4 * (s.inf TH_CTRL2.FAULT_GUARD : Int)
  if !s.chanOn n then 0
  else if s.valid n then s.rdS TH_VAL.VALUE n
  else
    match (s.chan n).lastValid with
    | some v => if s.engineRuns && s.mapped n then s.rdS TH_VAL.EST n + guardT else v + guardT
    | none => (s.thresholds n).2.2.2.1

/-- The sectors fed by a rail group (R197, Table 3.1): none for the link, stack and always-on groups. -/
def State.fedSectors (s : State) (g : Nat) : List Nat :=
  if s.rd RG_CFG.TYPE g = 4 then [] else s.sourceSectors g

/-- The temperature of a rail group by its channels (R197). -/
def State.channelTemp (s : State) (g : Nat) : Int :=
  let cs := idx 25 (fun n => s.chanOn n && s.role n == 0
    && (s.fedSectors g).any (fun k => (s.inf TH_CFG.SECT n).testBit k))
  match cs with
  | [] => s.temp 24
  | n :: t => t.foldl (fun v m => max v (s.temp m)) (s.temp n)

/-- The temperature of a rail group (R197): its channels', or that of a warning of one of its links where that is higher
(R121; how the two combine is a DESIGN CHOICE, log entry 112). -/
def State.groupTemp (s : State) (g : Nat) : Int :=
  (s.groupLinks g).foldl (fun t n => match (s.lnk n).warnT with
    | some w => max t w
    | none => t) (s.channelTemp g)

/-! ### Inhibits (R205, R207) -/

/-- Both PWR_INHIBIT bits, NO_COOL_REF, INVALID and WR_OK after a change of a channel. -/
def State.thermalStatus (s : State) : State :=
  let ons := idx 25 s.chanOn
  let noRef := !ons.any (fun n => (s.role n == 1 || s.role n == 2) && s.valid n)
  let cold := ons.any (fun n => s.valid n && s.on TH_CHSTAT.LOW_STOP n)
  let inh := noRef || cold
  let s := (s.wrB TH_STAT.NO_COOL_REF 0 noRef).wrB TH_STAT.PWR_INHIBIT 0 inh
  let s := s.wrB RIM_STAT.PWR_INHIBIT 0 inh
  let s := s.wr TH_STAT.INVALID 0
    (sumOf ((idx 25 (fun n => (s.chanOn n && !s.valid n) || !(s.chan n).converted)).map (2 ^ ·)))
  let v := s.rdS TH_VAL.VALUE 24
  let ok := s.on TH_STAT.WR_OK
  let s := if ok && !(s.valid 24 && decide (0 ≤ v) && decide (v ≤ 0x550)) then
      (s.wr TH_STAT.WR_OK 0 0).raise .TH_WR_INHIBIT
    else if !ok && s.valid 24 && decide (32 ≤ v) && decide (v ≤ 83 * 16) then s.wr TH_STAT.WR_OK 0 1
    else s
  s.cancelInhibited

/-! ### Zones (R203, Table 7.2) -/

/-- A zone bit after a value: a high zone sets at its threshold, a low zone below it. -/
def zoneNext (high was : Bool) (v thr : Int) (hyst : Nat) : Bool :=
  if high then (if was then decide (thr - hyst ≤ v) else decide (thr ≤ v))
  else (if was then decide (v < thr + hyst) else decide (v < thr))

/-- The zones of a channel at a conversion; none under the third substitute of R201. -/
def State.zones (s : State) (n : Nat) : State :=
  if !s.valid n && (s.chan n).lastValid.isNone then s
  else
    let v := s.temp n
    let h := s.inf TH_CTRL.HYST
    let (t0, t1, t2, t3, t4) := s.thresholds n
    let z0 := zoneNext false (s.on TH_CHSTAT.LOW_STOP n) v t0 h
    let z1 := zoneNext false (s.on TH_CHSTAT.LOW_WARN n) v t1 h
    let z2 := zoneNext true (s.on TH_CHSTAT.HIGH_WARN n) v t2 h
    let z3 := zoneNext true (s.on TH_CHSTAT.ABOVE_TGT n) v t3 h
    let z4 := zoneNext true (s.on TH_CHSTAT.HIGH_STOP n) v t4 h
    let w0 := s.on TH_CHSTAT.LOW_STOP n
    let w1 := s.on TH_CHSTAT.LOW_WARN n
    let w2 := s.on TH_CHSTAT.HIGH_WARN n
    let w4 := s.on TH_CHSTAT.HIGH_STOP n
    let s := ((s.wrB TH_CHSTAT.LOW_STOP n z0).wrB TH_CHSTAT.LOW_WARN n z1).wrB TH_CHSTAT.HIGH_WARN n z2
    let s := (s.wrB TH_CHSTAT.ABOVE_TGT n z3).wrB TH_CHSTAT.HIGH_STOP n z4
    let s := if z0 && !w0 then s.raiseLog .TH_LOW_STOP (arg0 n 0) else s
    let s := if z1 && !w1 then s.raise .TH_LOW_WARN (arg0 n 0) else s
    let s := if z2 && !w2 then s.raiseLog .TH_HIGH_WARN (arg0 n 0) else s
    if z4 && !w4 then
      let s := (s.inc TH_FLT_CNT.STOPS n).setChan n (fun c => { c with stopAt := s.tick, stopped := false })
      s.raiseLog .TH_HIGH_STOP (arg0 n 0)
    else s

/-! ### Channel faults (R199) -/

/-- A fault is found on channel `n`. -/
def State.chanFault (s : State) (n : Nat) (F : Fld) (e : Evt) : State :=
  let s := ((s.wr F n 1).wr TH_CHSTAT.VALID n 0).inc TH_FLT_CNT.FAULTS n
  s.raiseLog e (arg0 n 0)

/-- Channel `n` is valid again once started and free of faults. -/
def State.revalidate (s : State) (n : Nat) : State :=
  if (s.chan n).started && !s.on TH_CHSTAT.OPEN n && !s.on TH_CHSTAT.SHORT n && !s.on TH_CHSTAT.DRIFT n then
    let v := s.rdS TH_VAL.VALUE n
    (s.wr TH_CHSTAT.VALID n 1).setChan n (fun c => { c with lastValid := some v })
  else s

/-- The mean of raw conversions, rounded half up (R196). -/
def meanRaw (l : List Int) : Int :=
  let k : Int := l.length
  (2 * l.foldl (· + ·) 0 + k) / (2 * k)

/-- A conversion of channel `n`: open and short condition, raw value (R196, R199, R203). -/
def State.conversion (s : State) (n : Nat) (isOpen isShort : Bool) (raw : Int) : State :=
  let bad := isOpen || isShort
  let c := s.chan n
  let raws := if bad then c.raws else
    let l := c.raws ++ [raw]
    l.drop (l.length - 4)
  let opens := if isOpen then c.opens + 1 else 0
  let shorts := if isShort then c.shorts + 1 else 0
  let clean := if bad then 0 else c.clean + 1
  let s := s.setChan n (fun c => { c with
    raws := raws, opens := opens, shorts := shorts, clean := clean, started := c.started || decide (16 ≤ clean),
    converted := true })
  let s := if bad then s else s.wrS TH_VAL.VALUE n (meanRaw raws)
  let s := if opens = 4 && !s.on TH_CHSTAT.OPEN n then s.chanFault n TH_CHSTAT.OPEN .TH_OPEN_SHORT else s
  let s := if shorts = 4 && !s.on TH_CHSTAT.SHORT n then s.chanFault n TH_CHSTAT.SHORT .TH_OPEN_SHORT else s
  let s := if 16 ≤ clean then (s.wr TH_CHSTAT.OPEN n 0).wr TH_CHSTAT.SHORT n 0 else s
  ((s.revalidate n).zones n).thermalStatus

/-- The diode constant of R194: 10^9 × 8.617333 × 10^-5 × ln 4 in nV per kelvin. -/
def diodeSlope : Rat :=
  (8617333 / 100 : Rat) * (13862943611198906 / 10000000000000000)

/-- Half up rounding of a rational. -/
def roundQ (q : Rat) : Int :=
  (q + 1 / 2).floor

/-- The raw value of a diode conversion (R194), before the offset. -/
def diodeRaw (dv1 dv2 : Int) (ideal : Nat) : Int :=
  let dv : Rat := (4 * dv1 - dv2 : Int) / 3
  let tk : Rat := dv / ((ideal : Rat) / 16384 * diodeSlope)
  roundQ (16 * (tk - 27315 / 100))

/-- The series resistance in ohms (R194), saturating at 255. -/
def diodeRs (dv1 dv2 : Int) : Nat :=
  satN 0 255 (roundQ ((dv2 - dv1 : Int) / 72000))

/-- A channel is converted now: enabled, and no calibration run lasts (R193, R198). -/
def State.converts (s : State) (n : Nat) : Bool :=
  s.chanOn n && !s.on TH_CHSTAT.CALIB n

/-- The channels of each converter in the order it serves them (R192). -/
def diodeOrder : List Nat :=
  List.range 16 ++ [24]

def thermOrder : List Nat :=
  (List.range 8).map (· + 16)

/-- The channel that a converter serves after channel `last`: the next in ascending order, the lowest after the highest, of
those that are converted (R192). -/
def State.nextChannel (s : State) (order : List Nat) (last : Nat) : Option Nat :=
  (order.filter (last < ·) ++ order.filter (· ≤ last)).find? s.converts

/-- A reading with the gain of its converter path, rounded half up (R198; the form is a DESIGN CHOICE, log entry 113). -/
def Chan.scaled (c : Chan) (v : Int) : Int :=
  (2 * (v * (10000 + c.corr)) + 10000) / 20000

/-- A reading with gain and offset of its converter path. -/
def Chan.calibrated (c : Chan) (v : Int) : Int :=
  c.scaled v + c.zero

/-- DIODE_CONVERSION (R192, R194, R196, R198, R199, R203): the offset of the path cancels in the differences. -/
def execDiodeConversion (n : Nat) (d : DiodeIn) (s : State) : Host.Outcome State Fault Refusal :=
  let s := s.quiet
  .next (if s.nextChannel diodeOrder s.th.diodeAt == some n then
      let c := s.chan n
      let s := s.setTh (fun t => { t with diodeAt := n })
      let dv1 := c.scaled d.dv1
      let dv2 := c.scaled d.dv2
      let raw := diodeRaw dv1 dv2 (s.inf TH_CAL.IDEAL n) + s.infS TH_CAL.OFFSET n
      (s.wr TH_CHSTAT.RS n (diodeRs dv1 dv2)).conversion n (decide (950 < c.calibrated d.vbeHi))
        (decide (c.calibrated d.vbeLo < 150)) raw
    else s)

/-- The interpolation of a 33-point table at ratio code `q`, rounded half up (R195); an empty table reads 0. -/
def interpolate (t : List Int) (q : Nat) : Int :=
  let i := min (q / 2048) 31
  let a := t.getD i 0
  let b := t.getD (i + 1) 0
  a + (2 * (b - a) * ((q : Int) - 2048 * i) + 2048) / 4096

/-- THERMISTOR_CONVERSION (R192, R195, R196, R198, R199, R203). -/
def execThermistorConversion (n q : Nat) (s : State) : Host.Outcome State Fault Refusal :=
  let s := s.quiet
  .next (if s.nextChannel thermOrder s.th.thermAt == some n then
      let q := satN 0 65535 ((s.chan n).calibrated q)
      let s := s.setTh (fun t => { t with thermAt := n })
      let raw := interpolate (Table.get [] s.th.tables n) q + s.infS TH_CAL.OFFSET n
      s.conversion n (decide (65000 ≤ q)) (decide (q ≤ 536)) raw
    else s)

/-- The drift check of one channel (R199, R200). -/
def State.driftOf (s : State) (n : Nat) : State :=
  if !s.chanOn n || !s.mapped n || s.on TH_CHSTAT.CALIB n then s
  else
    let d := s.rdS TH_VAL.VALUE n - s.rdS TH_VAL.EST n
    let wide := decide (4 * s.inf TH_CTRL2.DRIFT_LIM < d.natAbs)
    let c := s.chan n
    let above := if wide then c.above + 1 else 0
    let below := if wide then 0 else c.below + 1
    let s := s.setChan n (fun c => { c with above := above, below := below })
    if above = 1000 && !s.on TH_CHSTAT.DRIFT n then s.chanFault n TH_CHSTAT.DRIFT .TH_DRIFT
    else if 1000 ≤ below && s.on TH_CHSTAT.DRIFT n then (s.wr TH_CHSTAT.DRIFT n 0).revalidate n
    else s

/-- DRIFT_CHECK (R200): at TICK mod 1,000 = 0, while the engine runs. -/
def execDriftCheck (s : State) : Host.Outcome State Fault Refusal :=
  let s := s.quiet
  .next (if s.tick % 1000 == 0 && s.th.checked != some s.tick && s.engineRuns then
      let s := s.setTh (fun t => { t with checked := some s.tick })
      ((List.range 25).foldl (fun s n => s.driftOf n) s).thermalStatus
    else s)

/-- Channels enabled or disabled since the last boundary start afresh (R196, R199). -/
def State.thermalBoundary (s : State) : State :=
  (idx 25 (fun n => s.chanOn n != (s.chan n).on)).foldl (fun s n =>
    let on := s.chanOn n
    let s := s.setChan n (fun c => { on := on, corr := c.corr, zero := c.zero, converted := c.converted })
    let s := ((s.wr TH_CHSTAT.VALID n 0).wr TH_CHSTAT.OPEN n 0).wr TH_CHSTAT.SHORT n 0
    let s := ((s.wr TH_CHSTAT.DRIFT n 0).wr TH_CHSTAT.LOW_STOP n 0).wr TH_CHSTAT.LOW_WARN n 0
    let s := ((s.wr TH_CHSTAT.HIGH_WARN n 0).wr TH_CHSTAT.ABOVE_TGT n 0).wr TH_CHSTAT.HIGH_STOP n 0
    (s.wr TH_VAL.VALUE n 0).thermalStatus) s

/-! ### The stop action (R204) -/

/-- THERMAL_STOP (R204): the zone has stood STOP_MS ms, or a domain has been ON in it that long.  A forced off ends the on
request of a domain in OFF too (Table 3.3).  The hub acts, so nothing is forced in holdover. -/
def execThermalStop (n : Nat) (s : State) : Host.Outcome State Fault Refusal :=
  let s := s.quiet
  let ms := s.inf TH_CTRL.STOP_MS
  .next (if 25 ≤ n || s.holdover then s else if s.chanOn n && s.on TH_CHSTAT.HIGH_STOP n && s.inf TH_CFG.STOP_ACT n != 0 && s.past (s.chan n).stopAt (1000 * ms) then
      let again := (s.chan n).stopped
      let hit := s.clusters.filter (fun d => s.chanSector n (s.rd SWD_CFG.RG d) &&
        ((!again && (s.dstate d != dOFF || s.rd SWD_STAT.PEND d == 1)) || (s.dstate d == dON && decide ((s.dom d).since + 10000 * ms ≤ s.rim.now))))
      (s.forceOffAll hit).setChan n (fun c => { c with stopped := true })
    else s)

/-! ### Regulator warnings (R121, R206) -/

def State.vrw (s : State) (g : Nat) : Option Vrw :=
  Table.get none s.th.vrw g

def State.setVrw (s : State) (g : Nat) (v : Option Vrw) : State :=
  s.setTh (fun t => { t with vrw := Table.set none t.vrw g v })

/-- A link of group `g` reports WARN. -/
def State.warning (s : State) (g : Nat) : Bool :=
  (s.groupLinks g).any (fun n => s.on GL_STAT.WARN n)

/-- WARN (R121, R206): a warning raised or cleared.  STATE 0b10 and 0b11, which Table 4.3 does not define, do neither: DESIGN
CHOICE (log entry 112). -/
def execWarn (n w : Nat) (s : State) : Host.Outcome State Fault Refusal :=
  let s := s.quiet
  .next (if 24 ≤ n then s else if s.heard n w 0xB then
      let g := s.rd GL_CFG.RG n
      let s := s.goodSlot n
      let st := bits 27 26 w
      if st = 1 then
        let s := ((s.wr GL_STAT.WARN n 1).wrBit GL_WARN.WARN 0 n true).inc GL_FAULT_CNT.WARNS n
        let s := s.setLnk n (fun l => { l with warnT := some (toSigned 16 (bits 23 8 w)) })
        let s := (s.wr GL_TEL0.TEMP n (bits 23 8 w)).raise .GL_WARN (arg0 n 0)
        let next := s.tick + 1000 * s.inf TH_CTRL2.VRW_MS
        match s.vrw g with
        | none =>
          let v : Vrw := { base := each 6 s.pointInForce, lvl := s.inForceLevel g, next := next }
          (s.setVrw g (some v)).raise .TH_VRWARN_ACT (arg0 g 0)
        | some v => if v.clr.isSome then s.setVrw g (some { v with clr := none, next := next }) else s
      else if st = 0 then
        let s := (s.wr GL_STAT.WARN n 0).wrBit GL_WARN.WARN 0 n false
        let s := s.setLnk n (fun l => { l with warnT := none })
        match s.vrw g with
        | some v => if s.warning g then s else s.setVrw g (some { v with clr := some (v.clr.getD s.tick) })
        | none => s
      else s
    else s)

/-- VRW_DROP (R206): a further drop. -/
def execVrwDrop (g : Nat) (s : State) : Host.Outcome State Fault Refusal :=
  let s := s.quiet
  .next (if 12 ≤ g then s else match s.vrw g with
    | some v =>
      if v.clr.isNone && decide (v.next ≤ s.tick) then
        s.setVrw g (some { v with k := v.k + 1, next := v.next + 1000 * s.inf TH_CTRL2.VRW_MS })
      else s
    | none => s)

/-- VRW_REMOVE (R206): 100 ms after the last WARN cleared. -/
def execVrwRemove (g : Nat) (s : State) : Host.Outcome State Fault Refusal :=
  let s := s.quiet
  .next (if 12 ≤ g then s else match s.vrw g with
    | some v =>
      match v.clr with
      | some t => if s.past t 100000 then s.setVrw g none else s
      | none => s
    | none => s)

/-- The regulator-warning ceiling of sector `k`. -/
def State.vrwCeiling (s : State) (k : Nat) : Nat :=
  let drop := s.inf TH_CTRL2.VRW_DROP
  (List.range 12).foldl (fun m g =>
    match s.vrw g with
    | some v => if (s.sourceSectors g).contains k then min m (at0 v.base k - drop * (v.k + 1)) else m
    | none => m) 255

/-- The regulator-warning ceiling of a link or stack group: a level or a step. -/
def State.vrwLevel (s : State) (g top : Nat) : Nat :=
  match s.vrw g with
  | some v => max (s.floorOf g) (v.lvl - (v.k + 1))
  | none => top

/-- The ceilings that the channels put in fw_safe of sector `k` (R201, R204). -/
def State.thermalCeiling (s : State) (k : Nat) : Nat :=
  (List.range 25).foldl (fun m n =>
    if s.chanOn n && s.chanSector n k then
      let m := if s.valid n then m else min m (s.inf TH_CTRL.FAULT_PT)
      if s.on TH_CHSTAT.HIGH_STOP n then min m (s.inf TH_CTRL.STOP_PT) else m
    else m) 255

end Sys2Proof.Machine
end

