-- ==== Sys2Proof/Machine/Energy.lean ====
section
/-! DEFINITION. Knowing the power (chapter 5): activity energies, the attribution unit, the running totals, the gain fit and
the meter fit, and the attribution table. -/

namespace Sys2Proof.Machine

def State.clEm (s : State) (c : Nat) : ClEm :=
  Table.get {} s.em.cls c

def State.setClEm (s : State) (c : Nat) (f : ClEm → ClEm) : State :=
  s.setEm (fun e => { e with cls := Table.upd {} e.cls c f })

/-! ### Coefficients and activity energy (R129, R131) -/

def State.mant (s : State) (k : Nat) : Nat :=
  (max 0 (s.rdS EM_COEF.MANT k)).toNat

/-- The energy of `n` quanta of class `k` in 2^-16 nJ, rounded half up (R131). -/
def State.classEnergy (s : State) (k n : Nat) : Nat :=
  let p := n * s.mant k
  let e := s.rd EM_COEF.EXP k
  if 11 ≤ e then p * 2 ^ (e - 11) else (p + 2 ^ (10 - e)) / 2 ^ (11 - e)

/-- Core and SRAM sums of one cluster's deltas. -/
def State.clusterSums (s : State) (d : List Nat) : Nat × Nat :=
  if d.isEmpty then (0, 0)
  else upTo 16 (fun k (p : Nat × Nat) =>
    let x := s.classEnergy k (at0 d k)
    if s.on EM_COEF.RAIL k then (p.1, p.2 + x) else (p.1 + x, p.2)) (0, 0)

/-- The SRAM group of a sector (Table 3.1). -/
def sramOf (k : Nat) : Nat :=
  if k < 3 then 6 else 7

def State.coreGroup (s : State) (c : Nat) : Nat :=
  s.rd SWD_CFG.RG c

def State.gain (s : State) (g : Nat) : Nat :=
  s.rd EM_GAIN.GAIN g

/-- The clusters whose activity is unknown (R72, R128). -/
def State.unknownClusters (s : State) : List Nat :=
  s.clusters.filter (fun c => (s.sent c).unknown)

/-- The clusters that a core or SRAM group feeds. -/
def State.fedClusters (s : State) (g : Nat) : List Nat :=
  s.clusters.filter (fun c => s.coreGroup c == g || sramOf (s.coreGroup c) == g)

/-- The substitute energy of an unknown cluster in 2^-46 nJ (R128). -/
def State.substitute (s : State) (c : Nat) : Nat :=
  let x := s.clEm c
  match x.peakCur, x.peakLast with
  | some a, some b => max a b
  | some a, none => a
  | none, some b => b
  | none, none => s.em.image.peak * 2 ^ 46

/-! ### Group terms (R132 to R135) -/

/-- The confirmed voltage of a group is defined. -/
def State.voltageDefined (s : State) (g : Nat) : Bool :=
  s.confirmed g != 0

/-- Linear interpolation between breakpoints; outside them the end entries (R133). -/
def interpolateV (vs es : List Nat) (v : Nat) : Nat :=
  let below := (vs.filter (· ≤ v)).length
  if below = 0 then at0 es 0
  else if vs.length ≤ below then at0 es (vs.length - 1)
  else
    let i := below - 1
    let a := at0 es i
    let b := at0 es (i + 1)
    let x := at0 vs i
    let d := at0 vs (i + 1) - x
    let y : Int := (a : Int) + ((2 * ((b : Int) - a) * (v - x : Nat) + d) / (2 * d : Nat))
    y.toNat

/-- The domains whose number scales a group's static term. -/
def State.scaleDomains (s : State) (g : Nat) : List Nat :=
  if s.rd RG_CFG.TYPE g ≤ 1 then s.fedClusters g else s.groupDomains g

/-- The static term of a group in nJ (R133). -/
def State.staticTerm (s : State) (g : Nat) : Nat :=
  match s.em.image.static.find? (fun e => e.1 == g) with
  | none => 0
  | some (_, t) =>
    let temp := s.groupTemp g
    let row := t.e.getD ((t.t.filter (· ≤ temp)).length) []
    let v := if s.voltageDefined g then interpolateV t.v row (s.confirmed g) else at0 row (row.length - 1)
    if s.rd RG_CFG.TYPE g = 4 then v
    else
      let ds := s.scaleDomains g
      let on := (ds.filter (fun n => s.dstate n != dOFF)).length
      if ds.isEmpty then v else (2 * v * on + ds.length) / (2 * ds.length)

/-- The running sums of one tick while the clusters are gone through. -/
structure EmAcc where
  a : Table Nat := []
  u : Table Nat := []
  /-- activity energy of each cluster: core and SRAM parts in 2^-46 nJ -/
  cl : List (Nat × Nat × Nat) := []
  n8 : Nat := 0
  nMac : Nat := 0
  deriving DecidableEq, Repr

def addAt (t : Table Nat) (i x : Nat) : Table Nat :=
  Table.upd 0 t i (· + x)

/-- One cluster in the attribution unit (R127, R128, R131, R132, R146). -/
def State.attribCluster (p : State × EmAcc) (c : Nat) : State × EmAcc :=
  let s := p.1
  let acc := p.2
  let k := s.coreGroup c
  let r := sramOf k
  let x := s.sent c
  if x.unknown then
    let s := s.inc EM_UNKNOWN_CNT.CL_TICKS
    let sub := s.substitute c
    let y := s.clEm c
    let uc := if y.core + y.sram = 0 then sub else sub * y.core / (y.core + y.sram)
    (s, { acc with u := addAt (addAt acc.u k uc) r (sub - uc), cl := acc.cl ++ [(c, uc, sub - uc)] })
  else
    let s := if x.good || x.delta.isEmpty then s
      else s.setSent c (fun x => { x with stand := each 16 (fun k => at0 x.stand k + at0 x.delta k) })
    let sums := s.clusterSums x.delta
    let gc := s.gain k * sums.1
    let gs := s.gain r * sums.2
    let s := s.setClEm c (fun y => { y with
      core := sums.1, sram := sums.2, peakCur := some (max (y.peakCur.getD 0) (gc + gs)) })
    let s := if x.delta.isEmpty then s
      else s.setEm (fun e => { e with classWin := upTo 16 (fun i t => addAt t (6 * i + k) (s.classEnergy i (at0 x.delta i)))
                                        e.classWin })
    (s, { acc with
      a := addAt (addAt acc.a k sums.1) r sums.2, cl := acc.cl ++ [(c, gc, gs)],
      n8 := acc.n8 + at0 x.delta 8, nMac := acc.nMac + sumOf ((x.delta.drop 1).take 7) })

/-- The energy of group `g` this tick: whole nJ and the carry (R132, R134), with the telemetry product i × v.  The fraction of
i × v / 16 nJ below 1 nJ of a link, stack or always-on group is carried as R132 carries that of a core or SRAM group:
DESIGN CHOICE, R134 does not say (log entry 111). -/
def State.groupEnergy (s : State) (acc : EmAcc) (g : Nat) : Nat × Nat × Nat × Nat :=
  let st := s.staticTerm g
  let i := Table.get none s.em.lastI g
  let iv := (i.getD 0) * s.confirmed g
  let c := Table.get 0 s.em.carry g
  let t := s.rd RG_CFG.TYPE g
  let x :=
    if t ≤ 1 then s.gain g * Table.get 0 acc.a g + st * 2 ^ 46 + Table.get 0 acc.u g
    else if 4 < t then 0
    else if i.isSome && s.voltageDefined g then iv * 2 ^ 42
    else st * 2 ^ 46
  let y := x + c
  (min (y / 2 ^ 46) (2 ^ 40 - 1), y % 2 ^ 46, st, iv)

/-- I_act of a group (R135, R80). -/
def State.actCurrent (s : State) (g e : Nat) : Nat × Bool :=
  let v := s.confirmed g
  if s.voltageDefined g then
    (min ((32 * e + v) / (2 * v)) 0xFFFF, (s.fedClusters g).all (fun c => !(s.sent c).unknown))
  else (0, false)

/-- The unit's work in one tick (Table 5.2, R131 to R135, R146, R148). -/
def State.attribute (s : State) : State :=
  let s := (List.range 12).foldl (fun s g =>
    match s.groupCurrent g with
    | some i => s.setEm (fun e => { e with lastI := Table.set none e.lastI g (some i) })
    | none => s) s
  let cs := s.clusters
  let (s, acc) := cs.foldl State.attribCluster (s, {})
  let ge := each 12 (s.groupEnergy acc)
  let es := ge.map (·.1)
  let ia := each 12 (fun g => s.actCurrent g (at0 es g))
  let tot := sumOf es
  let on := cs.filter (fun c => s.dstate c != dOFF)
  let onIn := fun g => (on.filter (fun c => s.coreGroup c == g || sramOf (s.coreGroup c) == g)).length
  let nOn := each 8 onIn
  let share := fun g => if at0 nOn g = 0 then 0 else (ge.getD g (0, 0, 0, 0)).2.2.1 / at0 nOn g
  let sh := each 8 share
  let e1 := acc.cl.map (fun p =>
    let k := s.coreGroup p.1
    let st := if s.dstate p.1 = dOFF then 0 else at0 sh k + at0 sh (sramOf k)
    (p.1, p.2.1 / 2 ^ 46 + p.2.2 / 2 ^ 46 + st))
  let tot1 := sumOf (e1.map (·.2))
  let others := sumOf (each 12 (fun g => if 2 ≤ s.rd RG_CFG.TYPE g then at0 es g else 0))
  let full := e1.map (fun p => (p.1, if tot1 = 0 then p.2 else p.2 + others * p.2 / tot1))
  let owned := full.filterMap (fun p => (s.partOf p.1).map (fun q => (q, p.1, p.2)))
  let parts := (List.range 32).filterMap (fun q =>
    let e := sumOf ((owned.filter (fun o => o.1 == q)).map (·.2.2))
    if e = 0 then none else some (q, e))
  let keyOf := fun (o : Nat × Nat × Nat) => let t := (s.clEm o.2.1).tag1; (o.1, t / 2 ^ 16, t % 2 ^ 16)
  let keys := owned.foldl (fun (l : List ((Nat × Nat × Nat) × Nat)) o =>
    if l.any (fun e => e.1 == keyOf o) then l.map (fun e => if e.1 == keyOf o then (e.1, e.2 + o.2.2) else e)
    else l ++ [(keyOf o, o.2.2)]) []
  let r : EmRes :=
    { e := es,
      st := ge.map (·.2.2.1),
      iact := ia,
      clusters := e1,
      parts := parts,
      keys := keys,
      unatt := tot - sumOf (parts.map (·.2)),
      sparsity := if acc.n8 + acc.nMac = 0 then 0
        else min 0x7FFF ((2 * 32768 * acc.n8 + (acc.n8 + acc.nMac)) / (2 * (acc.n8 + acc.nMac))) }
  let s := s.wr EM_STAT.UNKNOWN_CL 0 s.unknownClusters.length
  let win := upTo 12 (fun g (w : Table EmWin) =>
    let x := ge.getD g (0, 0, 0, 0)
    let ok := (s.groupCurrent g).isSome && (s.fedClusters g).all (fun c => !(s.sent c).unknown) && (ia.getD g (0, false)).2
    Table.upd {} w g (fun y =>
      { a := y.a + Table.get 0 acc.a g, st := y.st + x.2.2.1, e := y.e + x.1, m := y.m + x.2.2.2, ok := y.ok && ok })) s.em.win
  let skip := !s.unknownClusters.isEmpty
  s.setEm (fun e => { e with
    res := r, win := win, n8 := e.n8 + acc.n8, nMac := e.nMac + acc.nMac, die := e.die + tot,
    carry := upTo 12 (fun g t => Table.set 0 t g (ge.getD g (0, 0, 0, 0)).2.1) e.carry,
    fit := { e.fit with skip := e.fit.skip || skip } })

/-! ### Windows of 1 ms (R128, R136, R140, R141, R146) -/

/-- Power in 0.25 W from nJ over `n` µs, rounded half up and saturated (R136). -/
def power (nj n : Nat) : Nat :=
  min ((2 * nj + 250 * n) / (500 * n)) 0xFFFF

/-- R_g from the efficiency map at an output power and an input voltage (R140). -/
def State.efficiency (s : State) (g p v : Nat) : Nat :=
  match s.em.image.eff.find? (fun e => e.1 == s.rd RG_CFG.TYPE g) with
  | none => 0
  | some (_, m) => at0 (m.r.getD ((m.p.filter (· ≤ p)).length) []) ((m.v.filter (· ≤ v)).length)

def State.rEff (s : State) (g : Nat) : Nat :=
  Table.get 0 s.em.rEff g

/-- The class sums of the closed window, input-referred (R141). -/
def State.classInput (s : State) (k : Nat) : Nat :=
  sumOf (each 6 (fun x =>
    Table.get 0 s.em.classWin (6 * k + x) * s.rEff (if s.on EM_COEF.RAIL k then sramOf x else x)))

/-- The 1 ms windows end at TICK mod 1,000 = 0. -/
def State.energyWindow (s : State) : State :=
  let w := fun g => Table.get {} s.em.win g
  let s := upTo 12 (fun g s => (s.wr EM_RG_P.P_EST g (power (w g).e 1000)).wr EM_RG_P.P_MEAS g (power ((w g).m / 16) 1000)) s
  let s := s.wr EM_PDIE.P_1MS 0 (power s.em.die 1000)
  let n := s.em.n8 + s.em.nMac
  let s := s.wr EM_SPARSITY.S_1MS 0 (if n = 0 then 0 else min 0x7FFF ((2 * 32768 * s.em.n8 + n) / (2 * n)))
  let gs := [0, 1, 2, 3, 4, 5, 6, 7]
  let m := sumOf (gs.map (fun g => (w g).m))
  let e := sumOf (gs.map (fun g => (w g).e))
  let s := if m = 0 then s
    else s.wrS EM_RESID.FAST_RES 0 (clampI (-32768) 32767 (roundQ (((m : Int) - 16 * (e : Int) : Int) * 32768 / (m : Rat))))
  let cAdd := each 16 s.classInput
  let sIn := sumOf (each 12 (fun g =>
    (if s.rd RG_CFG.TYPE g ≤ 1 then 16 * (w g).st else 16 * (w g).e) * s.rEff g))
  let rs := each 12 (fun g => s.efficiency g (power (w g).e 1000) (s.rd MTR_V.V_MEAN))
  let next : ClEm → ClEm := fun x => { x with peakLast := x.peakCur, peakCur := none }
  s.setEm (fun e => { e with
    last := e.win, fresh := upTo 12 (fun g t => Table.set false t g true) e.fresh, win := [], n8 := 0, nMac := 0, die := 0,
    classLast := e.classWin, classWin := [], rEff := upTo 12 (fun g t => Table.set 0 t g (at0 rs g)) e.rEff,
    cls := Table.mapAll {} next e.cls,
    fit := { e.fit with c := each 16 (fun k => at0 e.fit.c k + at0 cAdd k), sIn := e.fit.sIn + sIn } })

/-! ### The attribution table (R149 to R151) -/

def rotl16 (x n : Nat) : Nat :=
  (x * 2 ^ n + x / 2 ^ (16 - n)) % 2 ^ 16

/-- The set of a key (R149). -/
def attSet (part layer oper : Nat) : Nat :=
  let h := Nat.xor (Nat.xor layer (rotl16 oper 5)) (part * 0x0421 % 2 ^ 16)
  Nat.xor h (h / 2 ^ 10) % 2 ^ 10

def State.attEntry (s : State) (i : Nat) : Option AttEnt :=
  Table.get none s.em.att i

def State.setAtt (s : State) (i : Nat) (x : Option AttEnt) : State :=
  s.setEm (fun e => { e with att := Table.set none e.att i x })

/-- Add nJ to a total in 1 µJ whose remainder is `rem`: the new remainder and the whole µJ added. -/
def addUj (rem nj : Nat) : Nat × Nat :=
  ((rem + nj) % 1000, (rem + nj) / 1000)

def State.addOther (s : State) (p nj : Nat) : State :=
  let r := addUj (Table.get 0 s.em.remOther p) nj
  (s.wr EM_OTHER.ENERGY p (s.rd EM_OTHER.ENERGY p + r.2)).setEm (fun e => { e with remOther := Table.set 0 e.remOther p r.1 })

/-- Place the energy of one key (R149).  While ATT_EN is clear no entry is updated or taken, and a key whose set is full still
goes to its OTHER account: DEDUCED (log entry 111). -/
def State.addKey (s : State) (k : (Nat × Nat × Nat) × Nat) : State :=
  let (p, l, o) := k.1
  let base := 4 * attSet p l o
  let ways := [base, base + 1, base + 2, base + 3]
  match ways.find? (fun i => match s.attEntry i with
      | some x => x.part == p && x.layer == l && x.oper == o
      | none => false) with
  | some i => if !s.on EM_CTRL.ATT_EN then s else s.setAtt i ((s.attEntry i).map (fun x => { x with nj := x.nj + k.2 }))
  | none =>
    match ways.find? (fun i => (s.attEntry i).isNone) with
    | some i => if !s.on EM_CTRL.ATT_EN then s else (s.setAtt i (some ⟨p, l, o, k.2⟩)).wr EM_ATT_STAT.USED 0 (s.rd EM_ATT_STAT.USED + 1)
    | none => ((s.addOther p k.2).inc EM_ATT_STAT.OVERFLOW).raise .EM_ATT_FULL (arg0 p 0)

/-- The clear requested through `EM_ATT_CTRL.CLR` or ATT_CLEAR, before the tick's additions (R150). -/
def State.attClear (s : State) : State :=
  if !s.em.clrAll && s.em.clrParts.isEmpty then s
  else
    let hit := fun p => s.em.clrAll || s.em.clrParts.contains p
    let keep := s.em.att.filter (fun e => match e.2 with
      | some x => !hit x.part
      | none => false)
    let s := (List.range 32).foldl (fun s p => if hit p then s.wr EM_OTHER.ENERGY p 0 else s) s
    let s := s.setEm (fun e => { e with
      att := keep, clrAll := false, clrParts := [],
      remOther := e.remOther.filter (fun x => !hit x.1) })
    (s.wr EM_ATT_STAT.USED 0 keep.length).wr EM_ATT_CTRL.CLR 0 0

/-! ### Results take effect (Table 5.2, R135, R136, R148) -/

def State.addPart (s : State) (p : Nat × Nat) : State :=
  let r := addUj (Table.get 0 s.em.remPart p.1) p.2
  (s.wr EM_PART_E.ENERGY p.1 (s.rd EM_PART_E.ENERGY p.1 + r.2)).setEm (fun e => { e with
    remPart := Table.set 0 e.remPart p.1 r.1 })

/-- The results of the last tick take effect at this boundary. -/
def State.energyApply (s : State) : State :=
  let r := s.em.res
  let s := upTo 12 (fun g s =>
    let s := (s.wr EM_RG_E.E g (min (at0 r.e g) 0xFFFFFFFF)).wr EM_RG_S.S g (min (at0 r.st g) 0xFFFFFFFF)
    let ia := r.iact.getD g (0, false)
    let known := ia.2 && (s.fedClusters g).all (fun c => !(s.sent c).unknown)
    let s := (s.wr RG_I_L.I_ACT g ia.1).setGrp g (fun x => { x with actValid := known })
    s.wrB RG_STAT.ACT_UNKNOWN g (!known)) s
  let s := r.clusters.foldl (fun s p => s.wr EM_CL_E.E p.1 (min p.2 0xFFFFFFFF)) s
  let tot := sumOf r.e
  let d := addUj s.em.remDie tot
  let inn := s.em.remIn + sumOf (each 12 (fun g => at0 r.e g * s.rEff g))
  let un := addUj s.em.remUnatt r.unatt
  let s := s.wr EM_EDIE.EDIE 0 (s.rd EM_EDIE.EDIE + d.2)
  let s := s.wr EM_EIN.EIN 0 (s.rd EM_EIN.EIN + inn / (1000 * 2 ^ 14))
  let s := s.wr EM_UNATT.UNATT 0 (s.rd EM_UNATT.UNATT + un.2)
  let s := s.setEm (fun e => { e with remDie := d.1, remIn := inn % (1000 * 2 ^ 14), remUnatt := un.1 })
  let s := (s.wr EM_PDIE.P_TICK 0 (power tot 1)).wr EM_SPARSITY.S_TICK 0 r.sparsity
  let s := r.parts.foldl State.addPart s
  r.keys.foldl State.addKey s.attClear

/-- The tags of the interval that begins at this boundary (R147). -/
def State.captureTags (s : State) : State :=
  s.clusters.foldl (fun s c =>
    let t := s.rd EM_TAG.LAYER c * 2 ^ 16 + s.rd EM_TAG.OPER c
    let x := s.clEm c
    if x.tag0 = t && x.tag1 = t then s else s.setClEm c (fun x => { x with tag1 := x.tag0, tag0 := t })) s

/-- The energy model at a tick boundary: results of the last tick, the window end, this tick's work, the tags. -/
def State.energyBoundary (s : State) : State :=
  let s := s.energyApply
  let s := if s.tick % 1000 = 0 then s.energyWindow else s
  (s.attribute.captureTags).clearFrames

/-! ### The gain fit (R137 to R139, R142, R144) -/

/-- A group that the gain fit fits: a core or SRAM group with a regulator. -/
def State.fitted (s : State) (g : Nat) : Bool :=
  decide (s.rd RG_CFG.TYPE g ≤ 1) && !(s.groupLinks g).isEmpty

/-- Entry to CONVERGING (R130, R139). -/
def State.converging (s : State) : State :=
  let s := ((s.wr EM_STAT.CAL_STATE 0 1).wr EM_CAL_TIME.FAST_OK 0 0).wr EM_CAL_TIME.SLOW_OK 0 0
  s.setEm (fun e => { e with fastOk := [] })

/-- CALIBRATED once enough windows have been accepted (R144). -/
def State.calibrated (s : State) : State :=
  let ns := ((List.range 12).filter s.fitted).map (fun g => Table.get 0 s.em.fastOk g)
  let low := ns.foldl min 0xFFFF
  let s := s.wr EM_CAL_TIME.FAST_OK 0 low
  if s.rd EM_STAT.CAL_STATE = 1 && decide (10000 ≤ low) && decide (10 ≤ s.rd EM_CAL_TIME.SLOW_OK) then
    (s.wr EM_STAT.CAL_STATE 0 2).raise .EM_CAL_DONE
  else s

/-- One gain step in Q2.30 before the clamp (R138); A in 2^-16 nJ, S in nJ, M in 1/16 nJ. -/
def gainStep (g a st m : Nat) : Int :=
  let num : Rat := ((m : Int) : Rat) / 16 - ((st : Int) : Rat)
  let ar : Rat := ((a : Int) : Rat) / 65536
  roundQ (((g : Int) : Rat) + (num / ar * 2 ^ 30 - ((g : Int) : Rat)) / 1024)

/-- The gain fit of group `g` over the last complete window, if it has not been used (R138, R139). -/
def State.gainFit (s : State) (g : Nat) : State :=
  let w := Table.get {} s.em.last g
  if !s.fitted g || !Table.get false s.em.fresh g then s
  else
    let s := s.setEm (fun e => { e with fresh := Table.set false e.fresh g false })
    if !w.ok || !s.on EM_CTRL.FAST_EN || w.a = 0 || decide (512 * w.a < 65536 * w.m) then s
    else
      let v := gainStep (s.gain g) w.a w.st w.m
      let lim := clampI 0x20000000 0x80000000 v
      let s := s.wr EM_GAIN.GAIN g lim.toNat
      let s := s.setEm (fun e => { e with fastOk := Table.upd 0 e.fastOk g (fun n => min (n + 1) 0xFFFF) })
      if lim = v then (s.wrBit EM_STAT.GAIN_CLAMP 0 g false).calibrated
      else ((s.wrBit EM_STAT.GAIN_CLAMP 0 g true).raise .EM_GAIN_CLAMP (arg0 g 0)).converging

/-! ### The meter fit (R141 to R143) -/

/-- A good or flagged publication with `nj` metered since the last one (R141, R143). -/
def State.fitPublication (s : State) (nj : Nat) (skip : Bool) : State :=
  let f := s.em.fit
  let f : EmFit := { f with pubs := f.pubs + 1, eM := f.eM + nj, skip := f.skip || skip }
  if f.pubs = 1000 then s.setEm (fun e => { e with done := some f, fit := {} }) else s.setEm (fun e => { e with fit := f })

/-- The smallest exponent at which a coefficient of value `v` × 2^-27 nJ fits its mantissa, and the mantissa (R141). -/
def normalise (v : Rat) : Nat × Nat :=
  let m := fun (e : Nat) => (roundQ (v / 2 ^ e)).toNat
  match (List.range 32).find? (fun e => m e ≤ 32767) with
  | some e => (m e, e)
  | none => (32767, 31)

def State.coefValue (s : State) (M E : Fld) (k : Nat) : Rat :=
  ((max 0 (s.rdS M k) : Int) : Rat) * 2 ^ s.rd E k

/-- The new value of coefficient `k`, and whether it was clamped (R141). -/
def State.coefStep (s : State) (c : List Nat) (e : Int) (k : Nat) : Rat × Bool :=
  let cOf := fun j => ((at0 c j : Int) : Rat)
  let sq : Rat := (each 16 (fun j => cOf j * cOf j)).foldl (· + ·) 0
  let old := s.coefValue EM_COEF.MANT EM_COEF.EXP k
  let seed := s.coefValue EM_SEED.MANT EM_SEED.EXP k
  if at0 c k * 128 < sumOf c || sq = 0 then (old, false)
  else
    let v := old * (1 + (e : Rat) * cOf k / (8 * sq))
    let lo := seed * 3 / 4
    let hi := seed * 5 / 4
    if v < lo then (lo, true) else if hi < v then (hi, true) else (v, false)

/-- Gains are rescaled so that the gained estimate does not step (R142), within the range of R139 (log entry 105). -/
def State.rescaleGains (s : State) (ratio : Nat → Rat) : State :=
  upTo 8 (fun g s =>
    let terms := each 16 (fun k =>
      let rail := s.on EM_COEF.RAIL k
      let ks := if g < 6 then [g] else sramSectors g
      let own := if rail then decide (6 ≤ g) else decide (g < 6)
      if own then (sumOf (ks.map (fun x => Table.get 0 s.em.classLast (6 * k + x))), ratio k) else (0, 1))
    let old : Rat := (terms.map (fun p => ((p.1 : Int) : Rat))).foldl (· + ·) 0
    let new : Rat := (terms.map (fun p => ((p.1 : Int) : Rat) * p.2)).foldl (· + ·) 0
    if new = 0 then s
    else s.wr EM_GAIN.GAIN g (clampI 0x20000000 0x80000000 (roundQ (((s.gain g : Int) : Rat) * old / new))).toNat) s

/-- The meter fit over a complete window (R141 to R143). -/
def State.meterFit (s : State) : State :=
  match s.em.done with
  | none => s
  | some f =>
    let s := s.setEm (fun e => { e with done := none })
    if f.skip || !s.on EM_CTRL.SLOW_EN || decide (f.eM < 80000000000) then
      (s.incSat EM_CAL_TIME.SLOW_SKIPS 0 1).raise .EM_SLOW_SKIP
    else
      let e : Int := (f.eM : Int) * 2 ^ 30 - (sumOf f.c : Int) - (f.sIn : Int) * 2 ^ 12
      let old := each 16 (fun k => s.coefValue EM_COEF.MANT EM_COEF.EXP k)
      let new := each 16 (s.coefStep f.c e)
      let s := upTo 16 (fun k s =>
        let v := new.getD k (0, false)
        let s := if v.1 = old.getD k 0 then s
          else
            let p := normalise v.1
            (s.wr EM_COEF.MANT k p.1).wr EM_COEF.EXP k p.2
        if v.2 then s.raise .EM_COEF_CLAMP (arg0 k 0) else s) s
      let ratio := fun k =>
        let o := old.getD k 0
        if o = 0 then 1 else s.coefValue EM_COEF.MANT EM_COEF.EXP k / o
      let s := s.rescaleGains ratio
      let s := s.wrS EM_RESID.SLOW_RES 0 (clampI (-32768) 32767 (roundQ ((e : Rat) * 32768 / ((f.eM : Int) * 2 ^ 30 : Int))))
      (s.incSat EM_CAL_TIME.SLOW_OK 0 1).calibrated

/-- Windows in progress are discarded (R130, R136). -/
def State.discardWindows (s : State) (image : Bool) : State :=
  let off : EmWin → EmWin := fun w => { w with ok := false }
  s.setEm (fun e => { e with
    win := upTo 12 (fun g t => Table.upd {} t g off) e.win, fresh := [], done := none,
    fit := if image then { e.fit with skip := true } else {} })

/-- MODEL_IMAGE_TAKE (R130, R144): the class-5 event of a model image. -/
def execModelImageTake (s : State) : Host.Outcome State Fault Refusal :=
  let s := s.quiet
  .next (match s.takeEvent (fun a => match a with | .model => true | _ => false) with
    | some (_, s) =>
      match s.em.next with
      | none => s
      | some im =>
        let s := s.setEm (fun e => { e with image := im, next := none })
        let s := upTo 16 (fun k s =>
          let (m, x, r) := im.seeds.getD k (0, 0, 0)
          let s := ((s.wr EM_SEED.MANT k m).wr EM_SEED.EXP k x).wr EM_SEED.RAIL k r
          ((s.wr EM_COEF.MANT k m).wr EM_COEF.EXP k x).wr EM_COEF.RAIL k r) s
        (s.discardWindows true).converging
    | none => s)

end Sys2Proof.Machine
end

