-- ==== Sys2Proof/Machine/Voltage.lean ====
section
/-! DEFINITION. Required and supporting voltages (R113, R264 to R266, R430): the voltage-supported point of a sector and the
SETVs by which the hub follows the points. -/

namespace Sys2Proof.Machine

def State.mgCl (s : State) (c : Nat) : MgCl :=
  Table.get {} s.mg.cls c

def State.setMgCl (s : State) (c : Nat) (f : MgCl → MgCl) : State :=
  s.setMg (fun m => { m with cls := Table.upd {} m.cls c f })

def State.mgSect (s : State) (k : Nat) : MgSect :=
  Table.get {} s.mg.sects k

def State.setMgSect (s : State) (k : Nat) (f : MgSect → MgSect) : State :=
  s.setMg (fun m => { m with sects := Table.upd {} m.sects k f })

/-- M_s: the largest applied offset among the sector's present clusters in state NORMAL (R264). -/
def State.sectorOffset (s : State) (k : Nat) : Nat :=
  maxOf (((s.sectorClusters k).filter (fun c => s.rd MG_CL.STATE c == 0)).map (fun c => s.rd MG_CL.APPL c))

/-- The required voltage at point `p` with an offset of `m` steps (R264). -/
def State.vreqWith (s : State) (im : MarginImage) (p m : Nat) : Nat :=
  let o := at0 im.own p + 5 * m
  if s.infOn MG_CTRL.MODE then max (at0 im.common p) o else o

/-- V_req(s, p) in 0.5 mV; undefined without a margin image. -/
def State.vreq (s : State) (k p : Nat) : Option Nat :=
  s.mg.image.map (fun im => s.vreqWith im p (s.sectorOffset k))

/-- The supporting voltage of a core group (R113). -/
def State.supporting (s : State) (g : Nat) : Nat :=
  let v := s.vgrp g
  if v.sent then min (s.confirmed g) (v.target - v.pre) else s.confirmed g

/-- The voltage-supported point of a sector (R113): point 0 without a margin image, and where no point is supported. -/
def State.supportedPoint (s : State) (k : Nat) : Nat :=
  match s.mg.image with
  | none => 0
  | some im =>
    let m := s.sectorOffset k
    let v := s.supporting k
    maxOf ((List.range 256).filter (fun p => decide (s.vreqWith im p m ≤ v)))

/-- The offset that the hub's target counts: M_s, or the step being confirmed (R266). -/
def State.targetOffset (s : State) (k : Nat) : Nat :=
  max (s.sectorOffset k) (maxOf ((s.mgSect k).pending.map (·.2)))

/-- The hint pre-raise that stands on sector `k`, 0.5 mV (R231). -/
def State.hintPre (s : State) (k : Nat) : Nat :=
  maxOf (s.bg.hints.map (fun e => match e.2 with
    | some h => if h.active then at0 h.vpre k else 0
    | none => 0))

/-- The point that the last tick's selector terms ask for without the voltage-supported ceiling, no lower than the point in
force (log entry 40). -/
def State.wantedPoint (s : State) (k : Nat) : Nat :=
  let perf := max (s.rd ENG_OUT.FLOOR k) (s.rd ENG_OUT.PERF k)
  let safe := min (min (s.rd ENG_CAND.CUR k) (s.rd ENG_CAND.THM k)) (at0 s.eng.pub.safe k)
  max (min (min safe perf) (s.rimCeil k)) (s.pointInForce k)

/-- The hub asks group `g` for `code`, of which `pre` is a pre-raise. -/
def State.askVoltage (s : State) (g code slew pre : Nat) : State :=
  (s.requestVoltage g code slew pre).setVgrp g (fun v => { v with asked := some code })

/-- The links of a group accept a request now. -/
def State.canAsk (s : State) (g : Nat) : Bool :=
  let ls := s.groupLinks g
  !s.holdover && !ls.isEmpty && ls.all (fun n => s.up n || s.rd GL_STAT.LSTATE n == 3)

/-- The code the hub wants of a group: the first SETV of a core group is V_req at its point in force (R430); later ones
follow the point and its pre-raise; another group takes the image's target. -/
def State.wantedCode (s : State) (g : Nat) : Option Nat :=
  match s.mg.image with
  | none => none
  | some im =>
    if g < 6 then
      let p := if (s.vgrp g).sent then s.wantedPoint g else s.pointInForce g
      some (s.vreqWith im p (s.targetOffset g) + s.hintPre g)
    else (im.targets.find? (fun e => e.1 == g)).map (·.2)

/-- The SETVs of a tick boundary (R113, R124, R264, R430).  The manual gives a SETV of the hub's own no slew; it takes code 2,
5 mV/µs: DESIGN CHOICE (log entry 112). -/
def State.hubVoltage (s : State) : State :=
  upTo 12 (fun g s =>
    match s.wantedCode g with
    | some v =>
      if s.canAsk g && ((s.vgrp g).asked != some v || ((s.vgrp g).reconfirm != 0 && !(s.vgrp g).out && (s.vgrp g).held.isNone)) then
        s.askVoltage g v 2 (if g < 6 then s.hintPre g else 0)
      else s
    | none =>
      if s.mg.image.isSome && s.canAsk g && (s.vgrp g).reconfirm != 0 && !(s.vgrp g).out && (s.vgrp g).held.isNone then
        s.askVoltage g (if (s.vgrp g).sent then (s.vgrp g).target else s.confirmed g) 2 0
      else s) s

end Sys2Proof.Machine
end

