-- ==== Sys2Proof/Machine/Budget.lean ====
section
/-! DEFINITION. Budget (chapter 8): the cap in force, class prices and allocation, partitions and floors, class drops, hints,
waits and backoff. -/

namespace Sys2Proof.Machine

/-! ### Cap sources (R211 to R213) -/

/-- P in 1/256 hub cycles: the measured tick period (R16, R20). -/
def State.period (s : State) : Nat :=
  s.rd CAD_PERIOD.PERIOD

/-- One CAP_SET sample at a tick boundary (R211). -/
def State.sampleCapSet (s : State) (c : Nat) : State :=
  let isOpen := decide (1000 ≤ c)
  s.setBg (fun b =>
    let o := if isOpen then b.setOpen + 1 else 0
    let g := if isOpen then 0 else b.setGood + 1
    { b with
      setRing := pushRing 16 b.setRing c, setOpen := min o 16, setGood := min g 16,
      setValid := if 16 ≤ o then false else if 16 ≤ g then true else b.setValid })

/-- CAP_SET in 0.25 W (R211). -/
def State.capSetValue (s : State) : Nat :=
  let l := s.bg.setRing
  let c := (2 * sumOf l + l.length) / (2 * max 1 l.length)
  min c 930 * s.inf BG_CAP_FS.SET_FS / 930

/-- CAP_PWM in 0.25 W, of the last good period (R211). -/
def State.capPwmValue (s : State) : Nat :=
  s.bg.pwmLast.1 * s.inf BG_CAP_FS.PWM_FS / s.bg.pwmLast.2

/-- A limiter has been given a target (R181). -/
def State.slewed (s : State) (k : Nat) : Bool :=
  (Table.get {} s.eng.slews k).out.isSome

/-- The sources: code, enabled, valid, value (Table 8.1). -/
def State.capSources (s : State) : List (Nat × Bool × Bool × Nat) :=
  [(1, s.infOn BG_CAP_SRC.SET_EN, s.bg.setValid, s.capSetValue),
   (2, s.infOn BG_CAP_SRC.PWM_EN, s.bg.pwmValid, s.capPwmValue),
   (3, s.infOn BG_CAP_SRC.SVC_EN, s.slewed 1, s.rd ENG_SLEWV.OUT 1),
   (4, s.infOn BG_CAP_SRC.SHARE_EN, s.on CAR_STAT.SHARE_VALID && s.slewed 0, s.rd ENG_SLEWV.OUT 0)]

/-- The lowest of P_SAFE and the enabled sources, an invalid one counting FAULT_CAP; ties to the lower code (R212). -/
def lowestCap (psafe fault : Nat) (l : List (Nat × Bool × Bool × Nat)) : Nat × Nat :=
  l.foldl (fun (p : Nat × Nat) x =>
    let v := if x.2.2.1 then x.2.2.2 else fault
    if x.2.1 && decide (v < p.1) then (v, x.1) else p) (psafe, 0)

/-- P_CAP, its source, validity and the fault events (R212). -/
def State.capBoundary (s : State) : State :=
  let l := s.capSources
  let lost := l.filter (fun x => x.2.1 && !x.2.2.1 && s.bit BG_CAP_SRC.VALID (x.1 - 1))
  let s := lost.foldl (fun s x => s.raiseLog .BG_CAP_FAULT (arg0 x.1 0) x.1) s
  let s := s.wr BG_CAP_SRC.VALID 0 (sumOf (l.map (fun x => if x.2.2.1 then 2 ^ (x.1 - 1) else 0)))
  let s := (s.wr BG_CAP_IN.SET_VAL 0 s.capSetValue).wr BG_CAP_IN.PWM_VAL 0 s.capPwmValue
  let c := lowestCap (s.inf BG_HARD.P_SAFE) (s.inf BG_CAP.FAULT_CAP) l
  (s.wr BG_CAP.P_CAP 0 c.1).wr BG_STAT.CAP_SRC 0 c.2

/-- CAP_PWM_EDGE (R211): an edge is timed; a rising edge completes a period. -/
def execCapPwmEdge (rise : Bool) (now : Nat) (s : State) : Host.Outcome State Fault Refusal :=
  let s := s.quiet
  .next (if rise then
      match s.bg.pwmRise with
      | none => s.setBg (fun b => { b with pwmRise := some now, pwmEdge := s.tick })
      | some t =>
        let per := now - t
        let good := decide (10 * s.period ≤ 256 * per) && decide (256 * per ≤ 1000 * s.period)
        s.setBg (fun b =>
          let bad := if good then 0 else b.pwmBad + 1
          { b with
            pwmRise := some now, pwmEdge := s.tick, pwmBad := bad,
            pwmValid := good || (b.pwmValid && decide (bad < 4)),
            pwmLast := if good then (b.pwmHigh, per) else b.pwmLast })
    else
      match s.bg.pwmRise with
      | none => s.setBg (fun b => { b with pwmEdge := s.tick })
      | some t => s.setBg (fun b => { b with pwmHigh := now - t, pwmEdge := s.tick }))

/-- CAP_PWM_NO_EDGE (R211): no edge for 2 ms. -/
def execCapPwmNoEdge (s : State) : Host.Outcome State Fault Refusal :=
  let s := s.quiet
  .next (if s.past s.bg.pwmEdge 2000 then s.setBg (fun b => { b with pwmValid := false }) else s)

/-! ### Partitions, floors and breaches (R219 to R221, R226, R227) -/

/-- Partition settings and assignments take effect (R219, R227). -/
def State.takeParts (s : State) : State :=
  let parts := upTo 32 (fun p (t : Table Part) =>
    Table.set {} t p { cls := s.rd BG_PART.CLASS p, gate := s.on BG_PART.IDLE_GATE p, floor := s.rd BG_PART.FLOOR p }) []
  let assign := upTo 192 (fun c (t : Table (Option Nat)) =>
    if s.on BG_CLPART.VALID c then Table.set none t c (some (s.rd BG_CLPART.PART c)) else t) []
  s.setBg (fun b => { b with parts := parts, assign := assign })

/-- The present clusters of partition `p` that are ON. -/
def State.partOn (s : State) (p : Nat) : List Nat :=
  s.clusters.filter (fun c => s.partOf c == some p && s.dstate c == dON)

/-- The effective floor of sector `k` (R221). -/
def State.effectiveFloor (s : State) (k : Nat) : Nat :=
  maxOf (((s.sectorClusters k).filter (fun c => s.dstate c == dON)).map (fun c =>
    match s.partOf c with
    | some p => if s.classInForce (s.part p).cls then (s.part p).floor else 0
    | none => 0))

/-- Partition `p` breaches in the tick that ends (R226). -/
def State.breaching (s : State) (p : Nat) : Bool :=
  let x := s.part p
  x.cls != 0 && decide (0 < x.floor) && (s.partOn p).any (fun c => decide (s.pointInForce (s.rd SWD_CFG.RG c) < x.floor))

/-- The cause of a breach of class `cls`: 1 SAFETY, 2 DROP_SAFE, 3 DROP_METER (R226). -/
def State.breachCause (s : State) (cls : Nat) : Nat :=
  if s.classInForce cls then 1 else if s.bg.meterDrop.getD (cls - 1) false then 3 else 2

/-- Breaching ticks of the tick that ends are counted (R226). -/
def State.countBreaches (s : State) : State :=
  upTo 32 (fun p s =>
    let s := s.wr BG_PSTAT.ON p (s.partOn p).length
    if s.breaching p then
      let c := s.breachCause (s.part p).cls
      let s := ((s.inc BG_BREACH.TICKS p).wr BG_PSTAT.BREACH p 1).wr BG_PSTAT.CAUSE p c
      s.setBg (fun b => { b with breach := Table.upd {} b.breach p (fun x =>
        if c = 1 then { x with safety := x.safety + 1 }
        else if c = 2 then { x with dropSafe := x.dropSafe + 1 } else { x with dropMeter := x.dropMeter + 1 }) })
    else (s.wr BG_PSTAT.BREACH p 0).wr BG_PSTAT.CAUSE p 0) s

/-! ### Prices, allocation, limits (R214 to R217) -/

def ratAt (l : List Rat) (i : Nat) : Rat :=
  l.getD i 0

/-- The order of the classes; an order that repeats a class or uses code 3 is read as 0x06. -/
def State.classOrder (s : State) : List Nat :=
  let v := s.inf BG_CTRL.ORDER
  let l := [v / 16 % 4, v / 4 % 4, v % 4]
  if l.contains 0 && l.contains 1 && l.contains 2 then l else [0, 1, 2]

def State.linkMin (s : State) : Nat :=
  max 4 (min 16 (s.inf BG_CLASS.LINK_MIN))

/-- The price of COMPUTE with sector `k` at `p k`, of MEMORY at a step, of one link group at a level, 0.25 W (R215). -/
def State.priceCompute (s : State) (im : BudgetImage) (p : Nat → Nat) : Rat :=
  (each 6 (fun k => ratAt (im.comp.getD k []) (p k) *
    (((s.sectorClusters k).filter (fun c => s.dstate c == dON)).length : Int))).foldl (· + ·) 0

def priceLink (im : BudgetImage) (u l : Nat) : Rat :=
  ratAt (im.link.getD u []) l

def State.budgetImage (s : State) : BudgetImage :=
  s.bg.image.getD {}

/-- The class prices at the points, step and levels in force. -/
def State.priceNow (s : State) : List Rat :=
  let im := s.budgetImage
  [s.priceCompute im s.pointInForce, ratAt im.mem (s.levelInForce 10),
   priceLink im 0 (s.levelInForce 8) + priceLink im 1 (s.levelInForce 9)]

/-- The prices of the millisecond, for the ratios of R215. -/
def State.priceTick (s : State) : State :=
  let p := s.priceNow
  s.setBg (fun b =>
    let sum := each 3 (fun k => ratAt b.priceSum k + ratAt p k)
    if s.tick % 1000 = 0 then { b with priceLast := sum.map (· / 1000), priceSum := [0, 0, 0] } else { b with priceSum := sum })

/-- The rail groups of a class. -/
def State.classGroups (s : State) (k : Nat) : List Nat :=
  idx 12 (fun g =>
    let t := s.rd RG_CFG.TYPE g
    if k = 0 then decide (t ≤ 1) else if k = 1 then t == 3 else t == 2)

/-- Measured over priced power of a class, clamped to 0.5 to 2.0; with a price of 0 the ratio is a free value in that range. -/
def State.classRatio (s : State) (k : Nat) : Rat × State :=
  let m := sumOf ((s.classGroups k).map (fun g => s.rd EM_RG_P.P_MEAS g))
  let p := ratAt s.bg.priceLast k
  if p = 0 then
    let f := s.takeFree 16
    ((1 : Rat) / 2 + ((f.1 % 385 : Nat) : Int) / 256, f.2)
  else (max (1 / 2) (min 2 (((m : Int) : Rat) / p)), s)

/-- The always-on group's power over the last millisecond. -/
def State.alwaysOnPower (s : State) : Nat :=
  sumOf ((idx 12 (fun g => s.rd RG_CFG.TYPE g == 4)).map (fun g => s.rd EM_RG_P.P_MEAS g))

/-- The allocation of R216: minimums, demands, order, what is left of the cap; allocations, and whether the cap is below the
minimums. -/
def allocate (mn dem : List Int) (order : List Nat) (avail : Int) : List Int × Bool :=
  let left0 := avail - mn.foldl (· + ·) 0
  let below := decide (left0 < 0)
  let r := order.foldl (fun (p : List Int × Int) k =>
    let give := min (max (dem.getD k 0 - mn.getD k 0) 0) p.2
    (p.1.set k (mn.getD k 0 + give), p.2 - give)) (mn, if below then 0 else left0)
  (r.1, below)

/-- The highest level in `lo … hi` whose price is at or below `a`, and `lo` where none is (R217). -/
def highestWithin (price : Nat → Rat) (lo hi : Nat) (a : Rat) : Nat :=
  max lo (maxOf ((List.range (hi + 1)).filter (fun l => decide (price l ≤ a))))

/-- Condition H: its two terms (R224). -/
def State.overSafe (s : State) : Bool :=
  decide (s.inf BG_HARD.P_SAFE < s.rd EM_PDIE.P_1MS)

def State.overMeter (s : State) : Bool :=
  !s.on MTR_STAT.MISSING && !s.on MTR_STAT.FAULT && decide (s.inf BG_HARD.P_METER < s.rd MTR_IP.P_MEAN)

/-- A drop stands within DROP_WAIT ms (R224). -/
def State.dropHold (s : State) : Bool :=
  match s.bg.dropAt with
  | some t => !s.past t (1000 * s.inf BG_CTRL.DROP_WAIT)
  | none => false

/-- The lowest class in force: 3 C, 2 B, 1 A. -/
def State.lowestClass (s : State) : Option Nat :=
  [3, 2, 1].find? s.classInForce

/-- CLASS_DROP (R224). -/
def State.classDrop (s : State) : State :=
  match s.lowestClass with
  | none => s
  | some c =>
    if s.dropHold then s
    else
      let meter := !s.overSafe
      let s := s.wrBit BG_STAT.IN_FORCE 0 (3 - c) false
      let s := s.setBg (fun b => { b with dropAt := some s.tick, meterDrop := b.meterDrop.set (c - 1) meter })
      let s := if c = 1 then s.inc BG_DROP_CNT.A else if c = 2 then s.inc BG_DROP_CNT.B else s.inc BG_DROP_CNT.C
      s.raiseLog .BG_DROP (arg0 c 0) (if meter then 2 else 1)

/-- The condition H of a budget period. -/
def State.evaluateH (s : State) : State :=
  if s.overSafe || s.overMeter then (s.setBg (fun b => { b with quietAt := none })).classDrop
  else s.setBg (fun b => { b with quietAt := some (b.quietAt.getD s.tick) })

/-- BUDGET_PERIOD (R214 to R217, R224, R251). -/
def execBudgetPeriod (s : State) : Host.Outcome State Fault Refusal :=
  let s := s.quiet
  .next (if s.tick % 10 == 0 && s.bg.periodAt != some s.tick && !s.holdover then
      let s := s.setBg (fun b => { b with periodAt := some s.tick })
      let im := s.budgetImage
      let (r0, s) := s.classRatio 0
      let (r1, s) := s.classRatio 1
      let (r2, s) := s.classRatio 2
      let ptd := fun k => min (s.rd ENG_OUT.SAFE k) (min (s.rd ENG_SLEWV.OUT 2) (s.rd BG_SECT.HINT k))
      let s := upTo 6 (fun k s => s.wr BG_SECT.PT_D k (ptd k)) s
      let lp := fun u l => r2 * priceLink im u l
      let dl := [lp 0 (s.rd ENG_LCAND.LINK8), lp 1 (s.rd ENG_LCAND.LINK9)]
      let memMin := s.inf BG_CLASS.MEM_MIN
      let dem := [roundQ (r0 * s.priceCompute im ptd), roundQ (r1 * ratAt im.mem (s.rd ENG_LCAND.STACK)),
                  roundQ (ratAt dl 0 + ratAt dl 1)]
      let mn := [roundQ (r0 * s.priceCompute im (fun _ => 0)), roundQ (r1 * ratAt im.mem memMin),
                 roundQ (lp 0 s.linkMin + lp 1 s.linkMin)]
      let ao := s.alwaysOnPower
      let (al, below) := allocate mn dem s.classOrder ((s.rd BG_CAP.P_CAP : Int) - ao)
      let a := fun k => (al.getD k 0).toNat
      let s := ((s.wr BG_ALLOC_CM.COMP 0 (min (a 0) 0xFFFF)).wr BG_ALLOC_CM.MEM 0 (min (a 1) 0xFFFF)).wr
        BG_ALLOC_L.LINK 0 (min (a 2) 0xFFFF)
      let tot := ratAt dl 0 + ratAt dl 1
      let part := fun u => if tot = 0 then 0 else ((a 2 : Int) : Rat) * ratAt dl u / tot
      let s := s.wr BG_LIMIT.BW 0 (highestWithin (fun l => r1 * ratAt im.mem l) memMin 15 (a 1 : Int))
      let s := (s.wr BG_LIMIT.LNK8 0 (highestWithin (lp 0) s.linkMin 16 (part 0))).wr
        BG_LIMIT.LNK9 0 (highestWithin (lp 1) s.linkMin 16 (part 1))
      let s := s.wrB BG_STAT.CAP_BELOW_MIN 0 below
      let s := if below then s.raise .BG_CAP_BELOW_MIN else s
      let tmin := (mn.foldl (· + ·) 0).toNat + ao
      let tdem := (dem.foldl (· + ·) 0).toNat + ao
      let s := s.setCar (fun c => { c with minimum := tmin, demand := min (s.inf BG_HARD.P_SAFE) (max tmin tdem) })
      s.evaluateH
    else s)

/-- CLASS_RESTORE (R225): H has been false for RESTORE_MS ms. -/
def execClassRestore (s : State) : Host.Outcome State Fault Refusal :=
  let s := s.quiet
  .next (match s.bg.quietAt, [1, 2, 3].find? (fun c => !s.classInForce c) with
    | some t, some c =>
      if s.past t (1000 * s.inf BG_CTRL.RESTORE_MS) && !s.holdover then
        let s := s.wrBit BG_STAT.IN_FORCE 0 (3 - c) true
        (s.setBg (fun b => { b with quietAt := some s.tick })).raise .BG_RESTORE (arg0 c 0)
      else s
    | _, _ => s)

/-! ### Hints (R228 to R233) -/

def State.hint (s : State) (e : Nat) : Option Hint :=
  Table.get none s.bg.hints e

def State.setHint (s : State) (e : Nat) (h : Option Hint) : State :=
  s.setBg (fun b => { b with hints := Table.set none b.hints e h })

/-- The group word of a hint that applies to cluster `c`: the last that names it (R228). -/
def Hint.groupOf (h : Hint) (c : Nat) : Option (Nat × Nat × Nat × Nat) :=
  h.groups.reverse.find? (fun g => decide (g.1 ≤ c) && decide (c < g.1 + g.2.1))

/-- The clusters of a hint. -/
def State.hintClusters (s : State) (h : Hint) : List Nat :=
  s.clusters.filter (fun c => (h.groupOf c).isSome)

/-- A hint covers cluster `c`. -/
def State.hinted (s : State) (c : Nat) : Bool :=
  s.bg.hints.any (fun e => match e.2 with
    | some h => (h.groupOf c).isSome
    | none => false)

/-- The energy of one quantum of class `k` on cluster `c` in nJ: coefficient and gain of its rail. -/
def State.quantum (s : State) (c k : Nat) : Rat :=
  let g := s.coreGroup c
  let gain : Rat := ((s.gain (if s.on EM_COEF.RAIL k then sramOf g else g) : Int) : Rat) / 2 ^ 30
  s.coefValue EM_COEF.MANT EM_COEF.EXP k / 2 ^ 27 * gain

/-- The predicted energy of hint cluster `c` at point `p` in nJ (R230). -/
def State.predict (s : State) (h : Hint) (c p : Nat) : Rat :=
  match h.groupOf c with
  | none => 0
  | some g =>
    let im := s.budgetImage
    let prof := im.profiles.getD g.2.2.1 []
    let fr := fun (q : Nat) => (((s.mg.image.getD {}).fr.getD q 0 : Nat) : Int)
    let ratio : Rat := if fr 255 = 0 then 0 else (fr p : Rat) / (fr 255 : Rat)
    let sig : Rat := (((if h.mismatch then h.spars.ms.getD h.sparsity else h.sparsity) : Nat) : Int) / 32768
    let r := (List.range 16).foldl (fun (x : Rat × Rat) k =>
      if k = 8 then x
      else
        let a : Rat := ((at0 im.quanta k : Int) : Rat) * ((at0 prof k : Int) : Rat) / 256 * ((g.2.2.2 : Int) : Rat) / 255 * ratio
        let slot := decide (1 ≤ k) && decide (k ≤ 7)
        let mac := if slot then x.1 + a * sig else x.1
        let a := if slot then a * (1 - sig) else a
        (mac, x.2 + a * s.quantum c k)) (0, 0)
    r.2 + r.1 * s.quantum c 8

/-- The current of `nj` nJ per tick at the confirmed voltage of sector `k`, 0.125 A. -/
def State.currentOf (s : State) (k : Nat) (nj : Rat) : Rat :=
  let v := s.confirmed k
  if v = 0 then 0 else 16 * nj / ((v : Int) : Rat)

/-- I_pred(s, p) in 0.125 A (R230). -/
def State.predicted (s : State) (h : Hint) (k p : Nat) : Rat :=
  let cs := (s.hintClusters h).filter (fun c => s.rd SWD_CFG.RG c == k)
  let last := s.currentOf k (((sumOf (cs.map (fun c => s.rd EM_CL_E.E c)) : Int)) : Rat)
  let e := (cs.map (fun c => s.predict h c p)).foldl (· + ·) 0
  ((s.rd RG_I_L.I_ACT k : Int) : Rat) - last + s.currentOf k e

/-- The hint table as its registers show it: ceilings, HELD and ACTIVE. -/
def State.showHints (s : State) : State :=
  let hs := (List.range 8).map (fun e => (e, s.hint e))
  let bitsOf := fun (p : Hint → Bool) => sumOf (hs.map (fun e => match e.2 with
    | some h => if p h then 2 ^ e.1 else 0
    | none => 0))
  let s := (s.wr BG_HINT_STAT.HELD 0 (bitsOf (fun _ => true))).wr BG_HINT_STAT.ACTIVE 0 (bitsOf (·.active))
  upTo 6 (fun k s =>
    s.wr BG_SECT.HINT k ((hs.map (fun e => match e.2 with
      | some h => if h.active then h.ceil.getD k 255 else 255
      | none => 255)).foldl min 255)) s

/-- The ramp term of sector `k` for tick `t`, 0.125 A per tick (R232). -/
def State.hintRamp (s : State) (k t : Nat) : Rat :=
  (s.bg.hints.map (fun e => match e.2 with
    | some h => if h.active && decide (h.start ≤ t) && decide (t < h.start + h.ramp) then
        ratAt h.deltaI k / ((h.ramp : Int) : Rat) else 0
    | none => 0)).foldl (· + ·) 0

/-- The hint ceilings and ramp terms of the next tick, as staged, and as published where the handler has published them in this
tick (R31, R232, R233). -/
def State.restageHints (s : State) : State :=
  let put : FwOut → FwOut := fun o => { o with
    hint := each 6 (fun k => s.rd BG_SECT.HINT k), ramp := each 6 (fun k => s.hintRamp k (s.tick + 1)) }
  let late := s.cad.fwDone && !s.cad.abandoned
  s.setEng (fun e => { e with staged := e.staged.map put, pub := if late then put e.pub else e.pub })

/-- A hint is withdrawn: ceilings and ramp end, the voltage goes back to what the point in force requires (R233). -/
def State.withdraw (s : State) (e : Nat) : State :=
  match s.hint e with
  | none => s
  | some h =>
    let q := s.cad.queue.filter (fun x => x.act != .prestage e)
    let s := ((s.setHint e none).setCad (fun c => { c with queue := q })).showHints.restageHints
    upTo 6 (fun k s =>
      if at0 h.vpre k = 0 then s
      else match s.vreq k (s.pointInForce k) with
        | some v => s.askVoltage k (v + s.hintPre k) 2 (s.hintPre k)
        | none => s) s

/-- The pre-raise of sector `k` for a current step, 0.5 mV (R231). -/
def State.preRaise (s : State) (k : Nat) (d : Rat) : Nat :=
  let mv := min ((s.inf BG_HINT_CFG.VPRE_MAX : Int) : Rat) (d * ratAt s.budgetImage.rll k * ((s.inf BG_HINT_CFG.ABSORB : Int) : Rat) / 256)
  (2 * mv).floor.toNat

/-- HINT_PRESTAGE (R231): the class-4 event of a hint. -/
def execHintPrestage (s : State) : Host.Outcome State Fault Refusal :=
  let s := s.quiet
  .next (match s.takeEvent (fun a => match a with | .prestage _ => true | _ => false) with
    | some (.prestage e, s) =>
      match s.hint e with
      | none => s
      | some h =>
        let cs := s.hintClusters h
        let has := fun k => cs.any (fun c => s.rd SWD_CFG.RG c == k)
        let ceil := each 6 (fun k =>
          if has k then
            maxOf ((List.range 256).filter (fun p => decide (s.predicted h k p ≤ ((s.inf RG_LIM_SM.I_MID k : Int) : Rat))))
          else 255)
        let d := each 6 (fun k =>
          if has k then max 0 (s.predicted h k (s.pointInForce k) - ((s.rd RG_I_L.I_ACT k : Int) : Rat)) else 0)
        let pre := each 6 (fun k =>
          let v := s.vgrp k
          let code := s.clampCode k (v.target + s.preRaise k (ratAt d k))
          if has k && v.sent && s.mg.image.isSome then code - v.target else 0)
        let s := (s.setHint e (some { h with active := true, ceil := ceil, deltaI := d, vpre := pre })).showHints
        let s := (cs.filter (fun c => s.dstate c == dOFF && (s.dom c).idleOff && (s.onRefusal c).isNone)).foldl (fun s c => s.requestOn c) s
        upTo 6 (fun k s =>
          if at0 pre k = 0 then s
          else let v := s.vgrp k; s.askVoltage k (v.target + at0 pre k) 3 (v.pre + at0 pre k)) s
    | _ => s)

/-- Measured and predicted energy of a hint's clusters at the points in force. -/
def State.hintBegun (s : State) (h : Hint) : Bool :=
  let cs := s.hintClusters h
  let m := sumOf (cs.map (fun c => s.rd EM_CL_E.E c))
  let p := (cs.map (fun c => s.predict h c (s.pointInForce (s.rd SWD_CFG.RG c)))).foldl (· + ·) 0
  decide (((s.inf BG_HINT_CFG.BEGIN : Int) : Rat) / 256 * p ≤ ((m : Int) : Rat))

/-- Q1.15 sparsity of `a` skipped slots and `b` MACs (R146). -/
def sparsity (a b : Nat) : Nat :=
  if a + b = 0 then 0 else min 0x7FFF ((2 * 32768 * a + (a + b)) / (2 * (a + b)))

/-- One tick's deltas of a set of clusters; a window that closes and was whole gives its value (R146). -/
def Spars.add (x : Spars) (close whole : Bool) (ds : List (List Nat)) : Spars :=
  let a := sumOf (ds.map (at0 · 8))
  let b := sumOf (ds.map (fun d => sumOf ((d.drop 1).take 7)))
  let n := x.n8 + a
  let m := x.nMac + b
  if close then { tick := sparsity a b, ms := if whole then some (sparsity n m) else x.ms }
  else { n8 := n, nMac := m, tick := sparsity a b, ms := x.ms }

/-- Cluster `c` is in a group word of a hint. -/
def inGroup (g : Nat × Nat × Nat × Nat) (c : Nat) : Bool :=
  decide (g.1 ≤ c) && decide (c < g.1 + g.2.1)

/-- The sparsity of each hint's known clusters, and of those of each of its group words, in the tick and over the millisecond
(R146): the deltas of the tick that ends are added, and the window closes at TICK mod 1,000 = 0. -/
def State.hintWindow (s : State) : State :=
  upTo 8 (fun e s =>
    match s.hint e with
    | none => s
    | some h =>
      let cs := (s.hintClusters h).filter (fun c => !(s.sent c).unknown)
      let close := s.tick % 1000 == 0
      let del := fun (c : Nat) => (s.sent c).delta
      let each := fun (j : Nat) (g : Nat × Nat × Nat × Nat) =>
        (h.groupSpars.getD j {}).add close h.whole ((cs.filter (inGroup g)).map del)
      s.setHint e (some { h with
        spars := h.spars.add close h.whole (cs.map del),
        groupSpars := h.groups.mapIdx each,
        whole := h.whole || close })) s

/-- A difference of more than 0.25 between the expected and the measured sparsity of the hint's clusters (R233). -/
def sparsityOff (h : Hint) : Bool :=
  let m := h.spars.ms.getD h.sparsity
  decide (8192 < (if m < h.sparsity then h.sparsity - m else m - h.sparsity))

/-- Active hints at a tick boundary: the begin check and the sparsity check (R233). -/
def State.hintTick (s : State) : State :=
  upTo 8 (fun e s =>
    match s.hint e with
    | some h =>
      if h.active then
        let off := s.tick % 1000 == 0 && !h.mismatch && sparsityOff h
        let s := if off then s.inc BG_HINT_CNT.MISMATCH else s
        s.setHint e (some { h with begun := h.begun || s.hintBegun h, mismatch := h.mismatch || off })
      else s
    | none => s) s

/-- HINT_EXPIRY (R233): by start + 50 no tick has met the begin energy. -/
def execHintExpiry (e : Nat) (s : State) : Host.Outcome State Fault Refusal :=
  let s := s.quiet
  .next (if 8 ≤ e then s else match s.hint e with
    | some h =>
      if h.active && !h.begun && decide (h.start + 50 ≤ s.tick) && !s.holdover then
        ((s.withdraw e).inc BG_HINT_CNT.EXPIRED).raise .BG_HINT_EXPIRED (arg0 e 0)
      else s
    | none => s)

/-- HINT_END (R233): at start + DURATION. -/
def execHintEnd (e : Nat) (s : State) : Host.Outcome State Fault Refusal :=
  let s := s.quiet
  .next (if 8 ≤ e then s else match s.hint e with
    | some h => if decide (h.start + h.duration ≤ s.tick) && !s.holdover then s.withdraw e else s
    | none => s)

/-! ### Idle gating (R218) -/

/-- Idle ticks of each cluster. -/
def State.idleTick (s : State) : State :=
  s.clusters.foldl (fun s c =>
    let x := s.sent c
    let quiet := sumOf (x.delta.drop 1) == 0 && !x.unknown && !s.hinted c
    s.setBg (fun b => { b with idle := Table.upd 0 b.idle c (fun n => if quiet then min (n + 1) 255000 else 0) })) s

/-- IDLE_GATE (R218). -/
def execIdleGate (c : Nat) (s : State) : Host.Outcome State Fault Refusal :=
  let s := s.quiet
  let ms := s.inf BG_CTRL.IDLE_MS
  let gate := match s.partOf c with
    | some p => (s.part p).gate
    | none => false
  .next (if 192 ≤ c then s else if isCluster c && s.present c && gate && decide (0 < ms) && decide (1000 * ms ≤ Table.get 0 s.bg.idle c)
        && s.dstate c == dON && s.rd SWD_STAT.PEND c != 2 && !s.holdover then
      (s.requestOff c).setDom c (fun d => { d with idleOff := true })
    else s)

/-! ### Waits and backoff (R234, R235) -/

/-- The next state of the 16-bit LFSR with taps 16, 14, 13 and 11 (log entry 41). -/
def lfsrNext (x : Nat) : Nat :=
  let b := (x + x / 4 + x / 8 + x / 32) % 2
  x / 2 + b * 0x8000

/-- A request of domain `n` waits for its resources. -/
def State.waits (s : State) (n : Nat) : Bool :=
  s.present n && s.dstate n == dOFF && s.rd SWD_STAT.PEND n == 1

/-- WAIT_TIMEOUT (R235). -/
def execWaitTimeout (n : Nat) (s : State) : Host.Outcome State Fault Refusal :=
  let s := s.quiet
  let d := s.dom n
  .next (if 248 ≤ n then s else if s.waits n && d.backoff.isNone && s.past d.first (s.inf BG_WAIT.TIMEOUT) then
      let s := (s.inc BG_WAIT_CNT.TIMEOUTS).wr SWD_STAT.WAIT_SLOT n 0
      if s.inf BG_WAIT.RETRIES ≤ d.tries + 1 then
        let s := ((s.wr SWD_STAT.PEND n 0).failRequest n stTIMEOUT).endRequest n
        (s.inc BG_WAIT_CNT.FAILS).raise .BG_WAIT_FAIL (arg0 n 0)
      else
        let x := lfsrNext s.bg.lfsr
        let s := s.setBg (fun b => { b with lfsr := x })
        s.setDom n (fun d => { d with token := none, tries := d.tries + 1, backoff := some (s.tick + 1 + x % 32) })
    else s)

/-- BACKOFF_RETRY (R235). -/
def execBackoffRetry (n : Nat) (s : State) : Host.Outcome State Fault Refusal :=
  let s := s.quiet
  .next (if 248 ≤ n then s else match (s.dom n).backoff with
    | some t =>
      if s.waits n && decide (t ≤ s.tick) then s.setDom n (fun d => { d with backoff := none, first := s.tick }) else s
    | none => s)

/-! ### The budget's work of a tick -/

/-- Hardware part, in every tick: breaching ticks of the tick that ended, then the settings of the new tick. -/
def State.budgetHardware (s : State) : State :=
  let s := (s.countBreaches.takeParts).idleTick.hintWindow
  s.wrB BG_STAT.DROP_HOLD 0 s.dropHold

/-- Firmware part: cap, floors, hints. -/
def State.budgetFirmware (s : State) : State :=
  let s := s.capBoundary
  let s := upTo 6 (fun k s => s.wr BG_SECT.FLOOR k (s.effectiveFloor k)) s
  s.priceTick.hintTick

end Sys2Proof.Machine
end

