-- ==== Sys2Proof/Machine/EngineCtl.lean ====
section
/-! DEFINITION. Control of the cadence engine (chapter 6): slew limiters, the input latch, regions, open sets, release ramps,
bank switches, the start and the end of a tick's program, and the checks of an engine image. -/

namespace Sys2Proof.Machine

/-! ### Slew limiters (R181) -/

def State.setSlew (s : State) (k v : Nat) : State :=
  (s.setEng (fun e => { e with slews := Table.set {} e.slews k { out := some v } })).wr ENG_SLEWV.OUT k (v / 256)

/-- A source gives a target; the first one is taken at once. -/
def State.giveTarget (s : State) (k v : Nat) : State :=
  let s := s.wr ENG_SLEWV.TARGET k v
  if s.slewed k then s else s.setSlew k (256 * v)

/-- One step of a limiter towards `t`: up by at most `up` (0 holds), down by at most `dn` (0 takes the target). -/
def slewStep (up dn out t : Nat) : Nat :=
  if out < t then min t (out + up) else if dn = 0 then t else max t (out - dn)

def State.slewTick (s : State) : State :=
  let s := if !s.on PEL_CTRL.JOIN || !s.slewed 2 then s.giveTarget 2 (if s.on PEL_CTRL.JOIN then s.rd PEL_STAT.POINT else 255) else s
  upTo 3 (fun k s =>
    match (Table.get {} s.eng.slews k).out with
    | some v => s.setSlew k (slewStep (s.inf ENG_SLEW.UP k) (s.inf ENG_SLEW.DN k) v (256 * s.rd ENG_SLEWV.TARGET k))
    | none => s) s

/-! ### The input latch (R164, Table 6.3) -/

/-- A quantity in Q1.15 of its full scale, rounded half up and saturated. -/
def q15 (v : Rat) (full : Nat) : Int :=
  clampI (-32768) 32767 (roundQ (v * 32768 / ((full : Int) : Rat)))

def ratOf (n : Nat) : Rat := ((n : Int) : Rat)

/-- The input voltage of a group: the mean over its links not in FAULT (R115, log entry 42). -/
def State.groupVin (s : State) (g : Nat) : Rat :=
  let ls := (s.groupLinks g).filter (fun n => s.rd GL_STAT.LSTATE n != 4)
  if ls.isEmpty then 0 else ratOf (sumOf (ls.map (fun n => s.rd GL_TEL1.VIN n))) / ratOf ls.length

/-- Word `a` of the latch; `cur` are the group current sums and `codes` the selection codes of the tick that ended. -/
def State.latchWord (s : State) (cur codes : List Nat) (a : Nat) : Int :=
  let fs := s.bank.image.scale
  let o := s.eng.pub
  let i := a % 16
  if a < 0x00C then q15 (ratOf (at0 cur a)) fs.current
  else if 0x010 ≤ a ∧ a < 0x01C then q15 (ratOf (s.rd RG_I_L.I_ACT i)) fs.current
  else if 0x020 ≤ a ∧ a < 0x02C then q15 (ratOf (s.confirmed i)) fs.voltage
  else if 0x030 ≤ a ∧ a < 0x03C then q15 (s.groupVin i) fs.vin
  else if 0x040 ≤ a ∧ a < 0x059 then q15 (s.temp (a - 0x040)) fs.temp
  else if 0x060 ≤ a ∧ a < 0x066 then (s.pointInForce i : Nat)
  else if a = 0x066 then (s.levelInForce 8 : Nat)
  else if a = 0x067 then (s.levelInForce 9 : Nat)
  else if a = 0x068 then (s.levelInForce 10 : Nat)
  else if 0x070 ≤ a ∧ a < 0x076 then (s.rimCeil i : Nat)
  else if 0x080 ≤ a ∧ a < 0x08C then q15 (ratOf (at0 s.bank.image.setpts i)) fs.current
  else if 0x090 ≤ a ∧ a < 0x0A9 then q15 ((s.thresholds (a - 0x090)).2.2.2.1) fs.temp
  else if a = 0x0B0 then q15 (ratOf o.cap) fs.power
  else if a = 0x0B1 then q15 (ratOf (s.rd EM_PDIE.P_TICK)) fs.power
  else if 0x0C0 ≤ a ∧ a < 0x0C6 then (at0 o.vsup (a - 0x0C0) : Nat)
  else if 0x0C6 ≤ a ∧ a < 0x0CC then (at0 o.safe (a - 0x0C6) : Nat)
  else if 0x0CC ≤ a ∧ a < 0x0D2 then (at0 o.floor (a - 0x0CC) : Nat)
  else if 0x0D2 ≤ a ∧ a < 0x0D8 then (at0 o.hint (a - 0x0D2) : Nat)
  else if a = 0x0D8 then (s.rd ENG_SLEWV.OUT 2 : Nat)
  else if a = 0x0D9 then (o.lnk8 : Nat)
  else if a = 0x0DA then (o.lnk9 : Nat)
  else if a = 0x0DB then (o.bw : Nat)
  else if 0x0E0 ≤ a ∧ a < 0x0E6 then q15 (s.groupVin i - ratOf s.bank.image.vinNom) fs.vin
  else if 0x0E6 ≤ a ∧ a < 0x0EC then q15 (ratAt o.ramp (a - 0x0E6)) fs.current
  else if 0x0F0 ≤ a ∧ a < 0x0F9 then (at0 codes (a - 0x0F0) : Nat)
  else 0

/-- The group current sums of the latch: 0 for a group without regulators (Table 6.3), and a free value where the sum is
invalid in this period (R117). -/
def State.latchCurrents (s : State) : List Nat × State :=
  (List.range 12).foldl (fun (p : List Nat × State) g =>
    if (p.2.groupLinks g).isEmpty then (p.1 ++ [0], p.2)
    else match p.2.groupCurrent g with
    | some i => (p.1 ++ [i], p.2)
    | none => let f := p.2.takeFree 16; (p.1 ++ [f.1], f.2)) ([], s)

/-- Write the latch into both lanes' data memories. -/
def State.writeLatch (s : State) (codes : List Nat) : State :=
  let (cur, s) := s.latchCurrents
  let ws := (each 256 (fun a => (a, ofSigned 16 (s.latchWord cur codes a)))).filter (fun e => e.2 != 0)
  let upper := fun (t : Table Nat) => t.filter (fun e => decide (0x100 ≤ e.1))
  s.setEng (fun e => { e with
    laneA := { e.laneA with data := ws ++ upper e.laneA.data },
    laneB := { e.laneB with data := ws.map (fun x => (x.1, inv 1 16 x.2)) ++ upper e.laneB.data } })

/-! ### Regions (R174, R175) -/

/-- A band after a value: it rises at a threshold and falls `h` below it. -/
def bandStep (thr : List Int) (h : Int) (v : Int) (b : Nat) : Nat :=
  let up := thr.length - ((thr.drop b).dropWhile (fun t => decide (t ≤ v))).length
  let b := max b (min up thr.length)
  (List.range thr.length).foldl (fun b _ => if 0 < b && decide (v < thr.getD (b - 1) 0 - h) then b - 1 else b) b

/-- The temperature and frequency bands of set `n`. -/
def State.bandsOf (s : State) (n : Nat) : Nat × Nat :=
  let b := s.bands n
  let top := maxOf (each 6 s.pointInForce)
  let tb := Table.get 0 s.eng.tband n
  let t := match b.chans with
    | [] => tb
    | c :: l => bandStep b.tthr 32 (l.foldl (fun m c => max m (s.temp c)) (s.temp c)) tb
  (t, bandStep (b.fthr.map Int.ofNat) 4 (top : Int) (Table.get 0 s.eng.fband n))

/-- The computed region of scheduled set `n`; one that has been computed for DWELL consecutive ticks and is not in force is
queued as a class-5 event.  `fresh` starts the count anew. -/
def State.regionStep (fresh : Bool) (n : Nat) (s : State) : State :=
  if s.infOn ENG_SET.MODE n then s
  else
    let (tb, fb) := s.bandsOf n
    let r := (tb * (s.bands n).nf + fb) % 8
    let run := if !fresh && r = s.rd ENG_SETST.NEXT n then min 255 (Table.get 0 s.eng.regionRun n + 1) else 1
    let s := s.setEng (fun e => { e with
      tband := Table.set 0 e.tband n tb, fband := Table.set 0 e.fband n fb, regionRun := Table.set 0 e.regionRun n run })
    let s := s.wr ENG_SETST.NEXT n r
    if r = s.rd ENG_SETST.REGION n then s.wr ENG_SETST.DWELL_CNT n 0
    else
      let s := s.wr ENG_SETST.DWELL_CNT n (min 255 (s.rd ENG_SETST.DWELL_CNT n + 1))
      if s.inf ENG_SET.DWELL n ≤ run && !Table.get false s.eng.regionPend n then
        let q := s.schedule (s.tick + 1) (.region n r)
        if q.1 = stOK then q.2.setEng (fun e => { e with regionPend := Table.set false e.regionPend n true }) else q.2
      else s

/-- The computed regions of a tick. -/
def State.regionTick (s : State) : State :=
  upTo 4 (State.regionStep false) s

/-- REGION_SWITCH (R175): the class-5 event of a region. -/
def execRegionSwitch (s : State) : Host.Outcome State Fault Refusal :=
  let s := s.quiet
  .next (match s.takeEvent (fun a => match a with | .region _ _ => true | _ => false) with
    | some (.region n r, s) =>
      if Table.get false s.eng.regionPend n then
        let s := s.setEng (fun e => { e with regionPend := Table.set false e.regionPend n false })
        (((s.wr ENG_SETST.REGION n r).wr ENG_SETST.DWELL_CNT n 0).raise .ENG_REGION (arg0 n r)).traceEvent 6
      else s
    | _ => s)

/-! ### Release ramps and open sets (R177 to R179) -/

/-- The keys of a set's candidates. -/
def setKeys (n : Nat) : List Nat :=
  if n = 0 then (List.range 6).flatMap (fun k => [rampKey k 0, rampKey k 2])
  else if n = 1 then (List.range 6).map (fun k => rampKey k 1)
  else if n = 2 then [20] else [18, 19]

/-- A release ramp starts on these candidates from what is in force (R179). -/
def State.startRamp (s : State) (keys : List Nat) : State :=
  keys.foldl (fun s key =>
    let b := if key < 18 then s.pointInForce (key / 3) else s.levelInForce (key - 10)
    s.setEng (fun e => { e with ramps := Table.set none e.ramps key (some { base := b, start := s.tick }) })) s

/-- The release ramp of every candidate (R176, R300). -/
def State.startAllRamps (s : State) : State :=
  s.startRamp (List.range 21)

/-- Set `n` closes; its release ramp starts (R178). -/
def State.closeSet (s : State) (n : Nat) : State :=
  if s.isOpen n then ((s.wrBit ENG_STAT.OPEN 0 n false).wr ENG_SETST.OPEN_MS n 0).startRamp (setKeys n) else s

/-- Open and close requests take effect; open times are shown (R177). -/
def State.setsTick (s : State) : State :=
  let s := s.eng.closeReq.foldl State.closeSet s
  let s := s.eng.openReq.foldl (fun s n =>
    if s.isOpen n then s
    else (s.wrBit ENG_STAT.OPEN 0 n true).setEng (fun e => { e with openAt := Table.set 0 e.openAt n s.tick })) s
  let s := s.setEng (fun e => { e with openReq := [], closeReq := [] })
  upTo 4 (fun n s =>
    if s.isOpen n then s.wr ENG_SETST.OPEN_MS n (min 255 ((s.tick - Table.get 0 s.eng.openAt n) / 1000)) else s) s

/-- OPEN_TIMEOUT (R178): the set has stayed open for OPEN_MAX ms. -/
def execOpenTimeout (n : Nat) (s : State) : Host.Outcome State Fault Refusal :=
  let s := s.quiet
  .next (if decide (n < 4) && s.isOpen n && s.past (Table.get 0 s.eng.openAt n) (1000 * s.inf ENG_SET.OPEN_MAX n) then
      (s.closeSet n).raiseLog .ENG_OPEN_TIMEOUT (arg0 n 0)
    else s)

/-! ### Start and end of a tick's program (R30, R163, R167, R168) -/

/-- A lane at the start of a program: accumulators and write buffers clear. -/
def Lane.fresh (x : Lane) : Lane :=
  { x with acc := [], wdata := [], hdata := [], winteg := [], sig := 0xFFFFFFFF, cycles := 0, ended := false }

/-- The program starts if the engine runs and the governor is not in holdover. -/
def State.engStart (s : State) : State :=
  let go := s.engineRuns && !s.holdover
  s.setEng (fun e => { e with
    laneA := e.laneA.fresh, laneB := e.laneB.fresh, pc := 0, running := go, committed := false, settled := false, ue := none,
    sat := 0 })

/-- The end of a program that neither ended nor overran, uncommitted: a lane disagreement where it met an uncorrectable error
(R155), else dropped.  A tick without a program writes its trace samples as HELD (R188). -/
def State.settleProgram (s : State) : State :=
  if s.eng.settled then s
  else
    match s.eng.running, s.eng.ue with
    | true, some (l, a) => s.disagree l a
    | true, none => s.engineOver (min 700 (max s.eng.laneA.cycles s.eng.laneB.cycles))
    | false, _ => s.engineOver 0

/-- The tick ends: its program is settled, its cycles are shown, and channels are armed for the next tick. -/
def State.engTickEnd (s : State) : State :=
  let s := s.settleProgram
  let s := s.wr CAD_BUDGET.ENG_LAST 0 s.cad.engCyc
  (s.wr CAD_BUDGET_PEAK.ENG_PEAK 0 (max (s.rd CAD_BUDGET_PEAK.ENG_PEAK) s.cad.engCyc)).traceArm

/-- The nine selection codes of selector outputs. -/
def SelOut.nine (o : SelOut) : List Nat :=
  each 6 (fun k => o.codes.getD k 7) ++ each 3 (fun k => o.lcodes.getD k 4)

/-- Published outputs take effect (Table 1.2). -/
def State.applyOutputs (s : State) : State :=
  s.setEng (fun e => { e with force := e.next })

/-- The engine at a tick boundary; `codes` are those of the tick that ended. -/
def State.engineBoundary (s : State) (codes : List Nat) : State :=
  let s := (s.slewTick.setsTick).regionTick
  let s := (s.writeLatch codes).engStart
  if s.holdover then s.safeCands else if s.engineRuns then s else s.safeSel

/-! ### Bank switch (R176, R187) -/

/-- Zero addresses 0x100 to 0xFFF and every integrator. -/
def Lane.clear (x : Lane) : Lane :=
  { x with data := x.data.filter (fun e => decide (e.1 < 0x100)), integ := [] }

/-- The switch itself. -/
def State.bankSwitch (s : State) : State :=
  let b := 1 - s.rd ENG_STAT.BANK
  let new := s.bankOf b
  let old := s.bankOf (1 - b)
  let codes := each 9 (fun i => (s.eng.laneA.heldD 0 (0x0F0 + i)).toNat)
  let s := (s.wr ENG_STAT.BANK 0 b).wrB ENG_STAT.INACT_VALID 0 old.valid
  let s := if new.image.keep then s
    else s.setEng (fun e => { e with laneA := e.laneA.clear, laneB := e.laneB.clear })
  let s := ((s.wr ENG_STAT.STATE 0 (if s.fw.sramFail then 0 else 1)).wr ENG_STAT.LD_RUN 0 0).startAllRamps
  let isRegion : EvAct → Bool := fun a => match a with
    | .region _ _ => true
    | _ => false
  let s := s.setEng (fun e => { e with tband := [], fband := [], regionPend := [] })
  let s := s.setCad (fun c => { c with queue := c.queue.filter (fun q => !isRegion q.act) })
  let s := upTo 4 (fun n s =>
    let x := s.bands n
    let s := ((s.wr ENG_SETST.REGION n 0).wr ENG_SETST.NEXT n 0).wr ENG_SETST.DWELL_CNT n 0
    ((s.wr ENG_SETST.NT n x.nt).wr ENG_SETST.NF n x.nf).regionStep true n) s
  let s := (s.wr ENG_IMAGE.IMAGE_ID 0 new.image.id).wrB ENG_IMAGE.KEEP 0 new.image.keep
  let s := (s.wr ENG_IMAGE.CYCLES 0 new.cycles).raise .ENG_BANK_SW
  if s.eng.settled then s else (s.writeLatch codes).engStart

/-- BANK_SWITCH_FIRE (R176): the class-5 event of a bank switch. -/
def execBankSwitchFire (s : State) : Host.Outcome State Fault Refusal :=
  let s := s.quiet
  .next (match s.takeEvent (fun a => match a with | .bank => true | _ => false) with
    | some (_, s) =>
      let s := s.wr ENG_STAT.SWITCH_PEND 0 0
      if (s.bankOf (1 - s.rd ENG_STAT.BANK)).valid then s.bankSwitch else s
    | none => s)

/-! ### Engine images (R156, R165) -/

/-- The ranges of an instruction: destination kind (0 data, 1 accumulators, 2 integrators) and length, sources, coefficients. -/
def Ins.ranges (i : Ins) : Option ((Nat × Nat) × List (Nat × Nat × Nat) × Nat) :=
  match i.op with
  | 1 => some ((1, i.m), [(0, i.s, i.m)], 0)
  | 2 => some ((1, i.m), [(0, i.s, i.n)], i.m * i.n)
  | 3 => some ((1, i.m), [(0, i.s, i.m)], i.m)
  | 4 => some ((1, i.m), [(2, i.s, i.m)], 0)
  | 5 => some ((0, i.m), [(1, i.s, i.m)], 0)
  | 6 => some ((0, i.m), [(0, i.s, i.m), (0, i.c, i.m)], 0)
  | 7 => some ((0, i.m), [(0, i.s, i.m)], 2 * i.m)
  | 8 => some ((2, i.m), [(0, i.s, i.m)], 3 * i.m)
  | 9 => some ((0, i.m), [(0, i.s, i.m)], 0)
  | 0xA => some ((0, 2 * i.m),
      if i.mod = 0 then [(0, 0xF00, 4 * i.m - 1), (0, 0x070, i.m), (0, 0x0C0, i.m), (0, 0x0C6, i.m), (0, 0x0CC, i.m), (0, 0x0D2, i.m)]
      else if i.mod = 1 then [(0, 0xF18, i.m), (0, 0x0D9, i.m)] else [(0, 0xF1A, 1), (0, 0x0DB, 1)], 0)
  | 0xB => some ((0, i.m), [(0, i.s, i.m)], 0)
  | _ => none

def limitOf (kind : Nat) : Nat :=
  if kind = 0 then 4096 else if kind = 1 then 256 else 64

/-- One instruction meets R165; `bases` are the region bases of its set. -/
def Ins.okay (i : Ins) (bases : List Nat) : Bool :=
  opInTable i.op && !((i.op == 9 || i.op == 0xA) && i.mod == 3) && !(i.rel && decide (3 < i.set)) &&
  match i.ranges with
  | none => true
  | some ((k, n), src, coef) =>
    decide (i.d + n ≤ limitOf k) && !(k == 0 && decide (i.d < 0x100)) &&
    src.all (fun r => decide (r.2.1 + r.2.2 ≤ limitOf r.1) &&
      !(r.1 == 0 && decide (r.2.1 < 0x0EC) && decide (0x0E6 < r.2.1 + r.2.2) && !(i.op == 2 && decide (2 ≤ i.mod)))) &&
    (coef == 0 || (if i.rel then bases else [0]).all (fun b =>
      let a := 16 * (i.c + b)
      decide (4096 ≤ a) && decide (a + coef ≤ 65536)))

/-- The program of an image meets R165: its static cycle count, or none. -/
def engCheck (im : EngImage) : Option Nat :=
  match toEnd im.program with
  | none => none
  | some is =>
    let cyc := sumOf (is.map Ins.cycles)
    if decide (im.program.length ≤ 1024) && decide (cyc ≤ 680)
        && is.all (fun i => i.okay (((im.bands.getD i.set {}).bases).take 8)) then some cyc else none

/-- The bank that an accepted image fills: lane B's words inverted (R154, R156). -/
def engBank (im : EngImage) (cyc : Nat) : Bank :=
  let ks := im.coef.filter (fun e => decide (4096 ≤ e.1) && decide (e.1 < 65536))
  { valid := true,
    image := im,
    cycles := cyc,
    progA := im.program,
    progB := im.program.map (inv 1 64),
    coefA := ks.foldl (fun t e => Table.set 0 t e.1 (e.2 % 2 ^ 16)) [],
    coefB := ks.foldl (fun t e => Table.set (inv 1 16 0) t e.1 (inv 1 16 (e.2 % 2 ^ 16))) [] }

/-- An engine image is written into the inactive bank, or rejected and the bank left empty (R156). -/
def State.loadEngine (s : State) (im : EngImage) (readBack : Bool) : Bool × State :=
  let b := 1 - s.rd ENG_STAT.BANK
  match engCheck im, readBack with
  | some cyc, true => (true, (s.setBank b (fun _ => engBank im cyc)).wr ENG_STAT.INACT_VALID 0 1)
  | _, _ => (false, ((s.setBank b (fun _ => {})).wr ENG_STAT.INACT_VALID 0 0).raise .ENG_IMG_REJ)

/-- A set image is written into the set's coefficient area of the active bank of both lanes (R177). -/
def State.loadSet (s : State) (n : Nat) (ks : List (Nat × Nat)) : State :=
  let x := s.bands n
  let ks := ks.filter (fun e => decide (x.coefLo ≤ e.1) && decide (e.1 < x.coefHi) && decide (4096 ≤ e.1) && decide (e.1 < 65536))
  s.setBank (s.rd ENG_STAT.BANK) (fun b => { b with
    coefA := ks.foldl (fun t e => Table.set 0 t e.1 (e.2 % 2 ^ 16)) b.coefA,
    coefB := ks.foldl (fun t e => Table.set (inv 1 16 0) t e.1 (inv 1 16 (e.2 % 2 ^ 16))) b.coefB })

end Sys2Proof.Machine
end

