-- ==== Sys2Proof/Machine/Messages.lean ====
section
/-! DEFINITION. Messages on the pace links and on the fabric sideband: header, check value, sending, flooding, sequence
numbers and link supervision (R239 to R244, R410). -/

namespace Sys2Proof.Machine

/-! ### Words (Tables 9.1 to 9.3) -/

abbrev mKEEP : Nat := 0
abbrev mREPORT : Nat := 1
abbrev mSHARE : Nat := 2
abbrev mCPOINT : Nat := 3
abbrev mDRAG : Nat := 4
abbrev mOFFER : Nat := 8
abbrev mPOINT : Nat := 9
abbrev mPSYNCREQ : Nat := 10
abbrev mPSYNCRSP : Nat := 11
abbrev mABORT : Nat := 12

/-- The words of a message of each type, none for an undefined type (Table 9.2). -/
def messageWords (ty : Nat) : Option Nat :=
  match ty with
  | 0 => some 2
  | 1 => some 6
  | 2 => some 12
  | 3 => some 5
  | 4 => some 3
  | 8 => some 4
  | 9 => some 6
  | 10 => some 6
  | 11 => some 10
  | 12 => some 6
  | _ => none

def mkHeader (ty hops die car seq : Nat) : Nat :=
  ty * 2 ^ 28 + hops * 2 ^ 24 + die * 2 ^ 16 + car * 2 ^ 8 + seq

def hdrType (h : Nat) : Nat := bits 31 28 h
def hdrHops (h : Nat) : Nat := bits 27 24 h
def hdrDie (h : Nat) : Nat := bits 23 16 h
def hdrCar (h : Nat) : Nat := bits 15 8 h
def hdrSeq (h : Nat) : Nat := bits 7 0 h

/-- The header with the HOPS field `k`. -/
def withHops (h k : Nat) : Nat :=
  h - hdrHops h * 2 ^ 24 + k * 2 ^ 24

/-- The CRC word of a message: over every earlier word, most significant byte first, HOPS taken as 0 (R239). -/
def messageCrc (ws : List Nat) : Nat :=
  match ws with
  | [] => crc32 []
  | h :: t => crc32 (wordsBE (withHops h 0 :: t))

/-- The last word of a message is its CRC. -/
def messageOk (ws : List Nat) : Bool :=
  match ws.getLast? with
  | some c => messageCrc ws.dropLast == c
  | none => false

/-- A message of type `ty` and of that type's length (R244). -/
def shaped (ty : Nat) (ws : List Nat) : Bool :=
  hdrType (at0 ws 0) == ty && messageWords ty == some ws.length

/-- The two words of a stamp: TICK[31:0]; TICK[39:32] and a fraction in 1/1,024 tick (R244). -/
def stampWords (t frac : Nat) : List Nat :=
  [t % 2 ^ 32, t / 2 ^ 32 % 256 * 2 ^ 24 + frac % 1024 * 2 ^ 14]

/-- A stamp in 1/1,024 tick, modulo 2^50. -/
def stampOf (lo hi : Nat) : Nat :=
  (bits 31 24 hi * 2 ^ 32 + lo) * 1024 + bits 23 14 hi

/-- This governor's time, in 1/1,024 tick modulo 2^50. -/
def State.now50 (s : State) (frac : Nat) : Nat :=
  s.stamp * 1024 + frac % 1024

/-- A value modulo 2^50 as a signed one (R257). -/
def signed50 (v : Int) : Int :=
  toSigned 50 (ofSigned 50 v)

/-! ### Lane framing (R416) -/

/-- An 8b/10b character: a control character Kx.y or a data byte. -/
inductive LaneSym where
  | k (x y : Nat)
  | byte (b : Nat)
  deriving DecidableEq, Repr

/-- The ordered set K28.5, D16.2 that a transmitter repeats between messages. -/
def laneIdle : List LaneSym :=
  [.k 28 5, .byte (2 * 32 + 16)]

/-- A message as the characters of its lane: K27.7, the words most significant byte first, K29.7; a forwarded copy that failed
its CRC ends with K30.7 (R240). -/
def laneFrame (ws : List Nat) (good : Bool) : List LaneSym :=
  .k 27 7 :: ((wordsBE ws).map LaneSym.byte ++ [if good then .k 29 7 else .k 30 7])

/-- What an emission puts on a pace lane: the lane and its characters. -/
def Emission.onLane : Emission → Option (Nat × List LaneSym)
  | .pace l ws => some (l, laneFrame ws true)
  | .paceAborted l ws => some (l, laneFrame ws false)
  | _ => none

/-- The message that characters from one lane spell: K27.7 … K29.7 around whole words; none for any other sequence. -/
def laneWords (l : List LaneSym) : Option (List Nat) :=
  match l with
  | .k 27 7 :: t =>
    let bs := t.dropLast.filterMap (fun c => match c with
      | .byte b => if b < 256 then some b else none
      | .k _ _ => none)
    if t.getLast? == some (.k 29 7) && bs.length + 1 == t.length && bs.length % 4 == 0 then
      some ((List.range (bs.length / 4)).map (fun i =>
        at0 bs (4 * i) * 2 ^ 24 + at0 bs (4 * i + 1) * 2 ^ 16 + at0 bs (4 * i + 2) * 2 ^ 8 + at0 bs (4 * i + 3)))
    else none
  | _ => none

/-! ### This die and its links -/

def State.die (s : State) : Nat := s.rd CAR_CFG.DIE
def State.carrier (s : State) : Nat := s.rd CAR_CFG.CARRIER

/-- Lanes 0 to 3 are N, E, S, W: bits 3 to 0 of LINK_EN and LINK_UP. -/
def State.laneEnabled (s : State) (l : Nat) : Bool :=
  decide (l < 4) && (s.inf CAR_CFG.LINK_EN).testBit (3 - l)

def State.laneUp (s : State) (l : Nat) : Bool :=
  s.laneEnabled l && s.bit CAR_STAT.LINK_UP (3 - l)

def State.pace (s : State) (l : Nat) : Pace :=
  Table.get {} s.car.links l

def State.setPace (s : State) (l : Nat) (f : Pace → Pace) : State :=
  s.setCar (fun c => { c with links := Table.upd {} c.links l f })

/-! ### Sequence numbers (R240, R241) -/

/-- The key of a sender and a type. -/
def seqKey (h : Nat) : Nat :=
  16 * (64 * hdrCar h + hdrDie h) + hdrType h

def State.keepOf (s : State) (h : Nat) : SeqKeep :=
  Table.get {} s.car.keeps (seqKey h)

def State.setKeep (s : State) (h : Nat) (f : SeqKeep → SeqKeep) : State :=
  s.setCar (fun c => { c with keeps := Table.upd {} c.keeps (seqKey h) f })

/-- Nothing of this sender and type has been acted on within the last 300 ticks (R241). -/
def State.seqFree (s : State) (h : Nat) : Bool :=
  (s.keepOf h).acted.isNone || decide ((s.keepOf h).tick + 300 < s.tick)

/-- The message is acted on, by its SEQ. -/
def State.seqNew (s : State) (h : Nat) : Bool :=
  s.seqFree h || match (s.keepOf h).acted with
    | some q => serialNewer 8 (hdrSeq h) q
    | none => true

/-- The message is forwarded, by its header. -/
def State.forwards (s : State) (h : Nat) : Bool :=
  decide (1 < hdrHops h) && (s.seqFree h || match (s.keepOf h).fwd with
    | some q => serialNewer 8 (hdrSeq h) q
    | none => true)

/-- A MSG record of a message sent (`sent`) or received (R410). -/
def State.msgRecord (s : State) (sent side : Bool) (h frac : Nat) : State :=
  if s.on LOG_CTRL.MSG_REC && [mSHARE, mCPOINT, mOFFER, mPOINT, mPSYNCREQ, mPSYNCRSP, mABORT].contains (hdrType h) then
    s.fwRec { sev := 1, block := if side then 9 else 8, event := 0x81,
               arg0 := hdrType h * 2 ^ 20 + hdrDie h % 64 * 2 ^ 14 + hdrCar h * 2 ^ 6,
               arg1 := frac % 1024 * 2 ^ 22 + b2n sent * 2 ^ 21 + hdrSeq h }
  else s

/-! ### Sending -/

/-- Take the next SEQ of a type and form the header of a message this governor originates. -/
def State.newHeader (s : State) (ty hops : Nat) : Nat × State :=
  let q := Table.get 0 s.car.seqOut ty
  (mkHeader ty hops s.die s.carrier q, s.setCar (fun c => { c with seqOut := Table.set 0 c.seqOut ty ((q + 1) % 256) }))

/-- Put a message on a lane. -/
def State.putLane (s : State) (e : Emission) (l : Nat) : State :=
  (s.drive e).setPace l (fun p => { p with sent := s.tick })

/-- A message that this governor has sent counts as acted on by itself, so that a copy that comes back is a repeat. -/
def State.ownSeq (s : State) (h : Nat) : State :=
  s.setKeep h (fun _ => { acted := some (hdrSeq h), fwd := some (hdrSeq h), tick := s.tick })

/-- Flood a message of type `ty` with the words `body` between header and CRC (R240); the header sent. -/
def State.flood (s : State) (ty : Nat) (body : List Nat) (frac : Nat) : Nat × State :=
  let (h, s) := s.newHeader ty 15
  let ws := h :: body
  let ws := ws ++ [messageCrc ws]
  let s := ([0, 1, 2, 3].filter s.laneUp).foldl (fun s l => s.putLane (.pace l ws) l) s
  (h, (s.ownSeq h).msgRecord true false h frac)

/-- Send a sideband message to `dest` (R242): 256 broadcasts to the peloton. -/
def State.sideband (s : State) (ty : Nat) (body : List Nat) (dest frac : Nat) : Nat × State :=
  let (h, s) := s.newHeader ty 0
  let ws := h :: body
  (h, (((s.drive (.sideband dest (ws ++ [messageCrc ws]))).ownSeq h).msgRecord true true h frac))

/-! ### Receiving -/

/-- A message discarded for CRC, length or type. -/
def State.badMessage (s : State) : State :=
  s.inc CAR_ERR.CRC

/-- A valid message has come on a lane: the fourth since the link went DOWN brings it UP (R239). -/
def State.laneValid (s : State) (l : Nat) : State :=
  let n := (s.pace l).good + 1
  let s := s.setPace l (fun p => { p with heard := some s.tick, good := n })
  if s.bit CAR_STAT.LINK_UP (3 - l) || n < 4 then s else s.wrBit CAR_STAT.LINK_UP 0 (3 - l) true

/-- The header of a message acted on: its SEQ, the count, the record. -/
def State.actOn (s : State) (side : Bool) (h frac : Nat) (free : Bool) : State :=
  let s := s.setKeep h (fun k => { acted := some (hdrSeq h), fwd := if free then some (hdrSeq h) else k.fwd, tick := s.tick })
  (s.inc CAR_RXMSG.MSGS).msgRecord false side h frac

/-- The copies of a forwarded message (R240). -/
def State.forwardCopies (s : State) (l : Nat) (ws : List Nat) (good : Bool) : State :=
  let h := at0 ws 0
  let c := withHops h (hdrHops h - 1) :: ws.drop 1
  let s := (([0, 1, 2, 3].filter s.laneUp).filter (fun m => m != l)).foldl (fun s m =>
    s.putLane (if good then .pace m c else .paceAborted m c) m) s
  if good then s.setKeep h (fun k => { k with fwd := some (hdrSeq h) }) else s

/-- A flooded message of type `ty` on lane `l` (R240, R241, R244): forwarded by its header, acted on with `act` if its CRC is
good, its SEQ is newer and `can` holds. -/
def State.paceIn (s : State) (l ty : Nat) (ws : List Nat) (frac : Nat) (can : State → Bool) (act : State → State) : State :=
  if !s.laneEnabled l then s
  else if hdrType (at0 ws 0) != ty || (messageWords ty).isNone then s.badMessage
  else
    let h := at0 ws 0
    let good := messageOk ws
    let free := s.seqFree h
    let new := s.seqNew h
    let s := if s.forwards h then s.forwardCopies l ws good else s
    if !good || !shaped ty ws then s.badMessage
    else
      let s := s.laneValid l
      if !new then s.inc CAR_ERR.STALE
      else if can s then act (s.actOn false h frac free)
      else s

/-- A sideband message of type `ty` (R241, R242, R244): acted on with `act` if its SEQ is newer and `can` holds. -/
def State.sidebandIn (s : State) (ty : Nat) (ws : List Nat) (frac : Nat) (can : State → Bool) (act : State → State) : State :=
  if !shaped ty ws || !messageOk ws then s.badMessage
  else
    let h := at0 ws 0
    if !s.seqNew h then s.inc CAR_ERR.STALE
    else if can s then act (s.actOn true h frac true)
    else s

/-! ### Commands of the link layer -/

/-- KEEP_SEND (R239): a lane that has carried nothing for 10 ticks. -/
def execKeepSend (l : Nat) (s : State) : Host.Outcome State Fault Refusal :=
  let s := s.quiet
  .next (if 4 ≤ l then s else if s.laneEnabled l && s.past (s.pace l).sent 10 && !s.holdover then
      let f := s.takeFree 4
      let (h, s) := f.2.newHeader mKEEP f.1
      s.putLane (.pace l [h, messageCrc [h]]) l
    else s)

/-- PACE_LINK_DOWN (R239): no valid message for 30 ticks, on a link that is UP, be it still enabled or not. -/
def execPaceLinkDown (l : Nat) (s : State) : Host.Outcome State Fault Refusal :=
  let s := s.quiet
  .next (if 4 ≤ l then s else if s.bit CAR_STAT.LINK_UP (3 - l) && s.past ((s.pace l).heard.getD 0) 30 then
      let s := (s.wrBit CAR_STAT.LINK_UP 0 (3 - l) false).setPace l (fun p => { p with good := 0 })
      (s.inc CAR_ERR.LINKDOWN).raise .CAR_LINK_DOWN (arg0 l 0)
    else s)

/-- KEEP (R239): never forwarded, acted on in nothing but the supervision of its link. -/
def execKeep (l : Nat) (ws : List Nat) (s : State) : Host.Outcome State Fault Refusal :=
  let s := s.quiet
  .next (if 4 ≤ l then s else if !s.laneEnabled l then s
    else if shaped mKEEP ws && messageOk ws then s.laneValid l
    else s.badMessage)

/-- MESSAGE_DISCARDED (R244): a message of the wrong length, of an undefined type or with a code violation, on a pace link
(`some l`) or on the sideband. -/
def execMessageDiscarded (link : Option Nat) (s : State) : Host.Outcome State Fault Refusal :=
  let s := s.quiet
  .next (match link with
    | some l => if s.laneEnabled l then s.badMessage else s
    | none => s.badMessage)

end Sys2Proof.Machine
end

