-- ==== Sys2Proof/Machine/Carrier.lean ====
section
/-! DEFINITION. Carrier stewardship (R245 to R254): reports and the live set, leases, the carrier split, shares. -/

namespace Sys2Proof.Machine

/-! ### Live set and designation (R245) -/

abbrev rMEMBER : Nat := 0
abbrev rSHADOW : Nat := 1
abbrev rSTEWARD : Nat := 2

def State.carrierOn (s : State) : Bool := s.infOn CAR_CFG.EN
def State.carRole (s : State) : Nat := s.rd CAR_STAT.ROLE
def State.steward (s : State) : Bool := s.carRole == rSTEWARD

def State.reportsOf (s : State) (d : Nat) : List Rep :=
  Table.get [] s.car.reports d

/-- The most recent report of a die. -/
def State.reportOf (s : State) (d : Nat) : Option Rep :=
  (s.reportsOf d).head?

def State.isLive (s : State) (d : Nat) : Bool :=
  s.bit CAR_LIVE.LIVE d || d == s.die

/-- The live dies, rising. -/
def State.liveDies (s : State) : List Nat :=
  idx 64 s.isLive

/-- Eligibility and rank of a die, the governor's own from its registers. -/
def State.election (s : State) (d : Nat) : Option Nat :=
  if d = s.die then (if s.infOn CAR_CFG.ELIG then some (s.inf CAR_CFG.RANK) else none)
  else match s.reportOf d with
    | some r => if r.elig then some r.rank else none
    | none => none

/-- The first of a list by (rank, die), dies being listed rising. -/
def firstRanked : List (Nat × Nat) → Option (Nat × Nat)
  | [] => none
  | x :: t =>
    match firstRanked t with
    | none => some x
    | some y => if x.2 ≤ y.2 then some x else some y

/-- The governor's designation: 2 steward, 1 shadow, 0 none. -/
def State.designation (s : State) : Nat :=
  let l := (s.liveDies.map (fun d => (d, s.election d))).filterMap (fun p => p.2.map (fun r => (p.1, r)))
  match firstRanked l with
  | none => 0
  | some x =>
    if x.1 = s.die then 2
    else match firstRanked (l.filter (fun y => y.1 != x.1)) with
      | some y => if y.1 = s.die then 1 else 0
      | none => 0

/-- Show the live set and the designation. -/
def State.showLive (s : State) : State :=
  let s := if s.carrierOn then s.wrBit CAR_LIVE.LIVE 0 s.die true else s
  (s.wr CAR_STAT.LIVE 0 (idx 64 (fun d => s.bit CAR_LIVE.LIVE d)).length).wr CAR_STAT.DESIGNATED 0
    (if s.carrierOn then s.designation else 0)

/-! ### Roles and leases (R247, R248, R250) -/

/-- A change of role (R247); who is no steward is no root (R256). -/
def State.setRole (s : State) (r : Nat) : State :=
  if s.carRole = r then s
  else
    let s := if r = rSTEWARD then s else s.wr PEL_STAT.ROOT 0 0
    (s.wr CAR_STAT.ROLE 0 r).raise .CAR_ROLE_CHANGE

/-- The lease ends. -/
def State.dropLease (s : State) : State :=
  ((s.wr CAR_STAT.LEASE_VALID 0 0).wr CAR_LEASE.LEFT 0 0).setCar (fun c => { c with leaseEnd := none })

/-- A newer epoch that the governor accepts or hears (R247). -/
def State.seeEpoch (s : State) (e : Nat) : State :=
  if serialNewer 32 e (s.rd CAR_EPOCH_SEEN.EPOCH) then s.wr CAR_EPOCH_SEEN.EPOCH 0 e else s

/-- A lease granted or renewed: 50,000 ticks from receipt. -/
def State.takeLease (s : State) (role e : Nat) : State :=
  let s := ((s.setRole role).seeEpoch e).wr CAR_EPOCH_HELD.EPOCH 0 e
  let s := ((s.wr CAR_STAT.LEASE_VALID 0 1).wr CAR_LEASE.REQ 0 0).wr CAR_LEASE.TAKEOVER 0 0
  (s.wr CAR_LEASE.LEFT 0 50).setCar (fun c => { c with leaseEnd := some (s.tick + 50000), shadowHeard := s.tick })

/-- The lease command (R247): status and state; ROLE 1 steward, 2 shadow, 3 withdraw. -/
def State.leaseCommand (s : State) (role e : Nat) : Nat × State :=
  if !s.carrierOn then (stCONFLICT, s)
  else if role = 3 then
    (stOK, ((s.setRole rMEMBER).dropLease.wr CAR_LEASE.REQ 0 0).wr CAR_LEASE.TAKEOVER 0 0)
  else if role = 1 && (serialNewer 32 e (s.rd CAR_EPOCH_SEEN.EPOCH) || (s.steward && e == s.rd CAR_EPOCH_HELD.EPOCH)) then
    (stOK, s.takeLease rSTEWARD e)
  else if role = 2 && s.car.obeyEpoch == some e then (stOK, s.takeLease rSHADOW e)
  else (stCONFLICT, s.inc CAR_ERR.REJECT)

/-- Ask the tray controller for a lease: 1 renewal, 2 steward, 3 shadow; IRQ_SVC follows from REQ (R354). -/
def State.requestLease (s : State) (req : Nat) : State :=
  s.wr CAR_LEASE.REQ 0 req

/-- Domestique task 8 (R248): a steward or shadow asks for renewal. -/
def State.renewLease (s : State) : State :=
  if s.carRole = rMEMBER then s else s.requestLease 1

/-- LEASE_EXPIRY (R248). -/
def execLeaseExpiry (s : State) : Host.Outcome State Fault Refusal :=
  let s := s.quiet
  .next (match s.car.leaseEnd with
    | some e =>
      if e ≤ s.tick then ((s.setRole rMEMBER).dropLease.requestLease 0).raise .CAR_LEASE_LOST else s
    | none => s)

/-- TAKEOVER (R250): a shadow that has heard no SHARE of the epoch it shadows for three carrier periods. -/
def execTakeover (s : State) : Host.Outcome State Fault Refusal :=
  let s := s.quiet
  .next (if s.carRole == rSHADOW && s.past s.car.shadowHeard 30 && !s.on CAR_LEASE.TAKEOVER && !s.holdover then
      ((s.wr CAR_LEASE.TAKEOVER 0 1).requestLease 2).raise .CAR_TAKEOVER
    else s)

/-! ### Reports (R245, R251) -/

/-- Keep a report of die `d`: the newest four. -/
def State.storeReport (s : State) (d : Nat) (r : Rep) : State :=
  s.setCar (fun c => { c with reports := Table.upd [] c.reports d (fun l => (r :: l).take 4) })

/-- DRAG and CANT_FOLLOW of a member as its steward knows them; a rise of DRAG is counted (R255, R259). -/
def State.memberFlags (s : State) (d flags : Nat) : State :=
  let drag := flags.testBit 2
  s.setPel (fun p => { p with
    memberRises := if drag && !Table.get false p.memberDrag d then p.memberRises + 1 else p.memberRises,
    memberDrag := Table.set false p.memberDrag d drag,
    memberCant := Table.set false p.memberCant d (flags.testBit 1) })

/-- A REPORT acted on. -/
def State.actReport (ws : List Nat) (s : State) : State :=
  let h := at0 ws 0
  let w4 := at0 ws 4
  let d := hdrDie h % 64
  let r : Rep :=
    { seq := hdrSeq h, epoch := at0 ws 1, demand := bits 31 16 (at0 ws 2), minimum := bits 15 0 (at0 ws 2),
      safe := bits 31 16 (at0 ws 3), meas := bits 15 0 (at0 ws 3), offer := bits 31 24 w4, dragPt := bits 23 16 w4,
      rank := bits 15 10 w4, elig := bits 9 9 w4 == 1, role := bits 8 7 w4, flags := bits 6 4 w4, tick := s.tick }
  let was := s.isLive d
  let s := ((s.storeReport d r).wrBit CAR_LIVE.LIVE 0 d true).memberFlags d r.flags
  let s := s.showLive
  if was then s else s.raise .CAR_MEMBER_JOIN (arg0 d 0)

/-- REPORT (R240, R245). -/
def execReport (l : Nat) (ws : List Nat) (s : State) : Host.Outcome State Fault Refusal :=
  let s := s.quiet
  .next (if 4 ≤ l then s else s.paceIn l mREPORT ws 0 (fun _ => true) (State.actReport ws))

/-- DRAG, CANT_FOLLOW and CADENCE_LOST as a REPORT and a DRAG message carry them. -/
def State.ownFlags (s : State) : Nat :=
  4 * s.rd PEL_STAT.DRAG + 2 * s.rd PEL_STAT.CANT_FOLLOW + s.rd CAD_STAT.CADENCE_LOST

def sat16n (v : Nat) : Nat := min v 0xFFFF

/-- REPORT_SEND (R251): at TICK mod 100 = 0. -/
def execReportSend (s : State) : Host.Outcome State Fault Refusal :=
  let s := s.quiet
  .next (if s.tick % 100 == 0 && s.carrierOn && !s.holdover && s.car.reportAt != some s.tick then
      let r : Rep :=
        { epoch := if s.carRole = rMEMBER then s.car.obeyEpoch.getD 0 else s.rd CAR_EPOCH_HELD.EPOCH,
          demand := sat16n s.car.demand, minimum := sat16n s.car.minimum, safe := sat16n (s.inf BG_HARD.P_SAFE),
          meas := sat16n (s.rd EM_PDIE.P_1MS), offer := s.rd PEL_STAT.OFFER, dragPt := s.pel.dragPt,
          rank := s.inf CAR_CFG.RANK, elig := s.infOn CAR_CFG.ELIG, role := s.carRole, flags := s.ownFlags, tick := s.tick }
      let w4 := r.offer * 2 ^ 24 + r.dragPt * 2 ^ 16 + r.rank * 2 ^ 10 + b2n r.elig * 2 ^ 9 + r.role * 2 ^ 7 + r.flags * 2 ^ 4
      let s := s.setCar (fun c => { c with reportAt := some s.tick })
      let (h, s) := s.flood mREPORT [r.epoch, r.demand * 2 ^ 16 + r.minimum, r.safe * 2 ^ 16 + r.meas, w4] 0
      ((s.storeReport s.die { r with seq := hdrSeq h }).memberFlags s.die r.flags).showLive
    else s)

/-- MEMBER_LOST (R245, R262): the REPORT of die `d` is missing for three report intervals. -/
def execMemberLost (d : Nat) (s : State) : Host.Outcome State Fault Refusal :=
  let s := s.quiet
  .next (if decide (d < 64) && d != s.die && s.bit CAR_LIVE.LIVE d
        && (match s.reportOf d with | some r => s.past r.tick 300 | none => true) then
      let s := (s.wrBit CAR_LIVE.LIVE 0 d false).setCar (fun c => { c with reports := Table.set [] c.reports d [] })
      let s := s.setPel (fun p => { p with memberDrag := Table.set false p.memberDrag d false,
                                           memberCant := Table.set false p.memberCant d false })
      s.showLive.raise .CAR_MEMBER_LOST (arg0 d 0)
    else s)

/-! ### Shares (R253, R254) -/

/-- The share that a report gives (Table of R253). -/
def shareOf (mode param : Nat) (r : Rep) : Nat :=
  if mode = 0 then min r.demand (max r.minimum param)
  else if mode = 1 then r.minimum * param / 2 ^ 16
  else min r.safe (r.demand + param)

/-- The share this die derives from a SHARE, none if the SHARE is not usable by it. -/
def State.derive (s : State) (ws : List Nat) : Option Nat :=
  let d := s.die
  let mode := bits 31 30 (at0 ws 4)
  let used := bits (2 * (d % 16) + 1) (2 * (d % 16)) (at0 ws (7 + d / 16))
  let incl := (at0 ws (5 + d / 32)).testBit (d % 32)
  if !incl || mode = 3 then none
  else ((s.reportsOf d).find? (fun r => r.seq % 4 == used)).map (shareOf mode (bits 29 0 (at0 ws 4)))

/-- The SHAREs of the window: acted on within the last three carrier periods. -/
def State.window (s : State) : List Heard :=
  s.car.shares.filter (fun h => decide (s.tick < h.tick + 30))

/-- The entry with the lowest share. -/
def lowestShare : List Heard → Option (Nat × Heard)
  | [] => none
  | h :: t =>
    match h.share, lowestShare t with
    | some v, some w => if v ≤ w.1 then some (v, h) else some w
    | some v, none => some (v, h)
    | none, r => r

/-- Obey the lowest share of the window (R253); a window without one keeps the share obeyed last. -/
def State.obey (s : State) : State :=
  let w := s.window
  let s := s.setCar (fun c => { c with shares := w })
  let s := s.wr CAR_STAT.CLAIMANTS 0 (min 3 ((w.map (fun h => h.die)).eraseDups).length)
  match lowestShare w with
  | none => s
  | some (v, h) =>
    let s := ((s.wr CAR_SHARE.OBEYED 0 v).wr CAR_SHARE.MODE 0 h.mode).wr CAR_STAT.OBEY_DIE 0 h.die
    let s := (s.wr CAR_OFS.OFS 0 (ofSigned 64 ((Table.get none s.car.ofs h.die).getD 0))).wr CAR_STAT.SHARE_VALID 0 1
    (s.setCar (fun c => { c with obeyEpoch := some h.epoch })).giveTarget 0 v

/-- A claimant that acts on a SHARE of a newer epoch yields; its lease lapses by itself (R254). -/
def State.yieldTo (s : State) (e : Nat) : State :=
  if s.steward && serialNewer 32 e (s.rd CAR_EPOCH_HELD.EPOCH) then (s.setRole rMEMBER).raise .CAR_YIELD else s

/-- A SHARE acted on, of this governor or of another: `ofs` is the carrier offset it gives. -/
def State.actShare (ws : List Nat) (ofs : Int) (s : State) : State :=
  let d := hdrDie (at0 ws 0) % 64
  let e := at0 ws 1
  let v := s.derive ws
  let other := s.window.any (fun h => h.die != d)
  let s := s.setCar (fun c => { c with
    shares := { tick := s.tick, die := d, epoch := e, mode := bits 31 30 (at0 ws 4), share := v } :: c.shares,
    ofs := Table.set none c.ofs d (some ofs),
    usableAt := if v.isSome then s.tick else c.usableAt,
    shadowHeard := if e = s.rd CAR_EPOCH_HELD.EPOCH then s.tick else c.shadowHeard })
  let s := (s.seeEpoch e).yieldTo e
  let s := if other then s.raise .CAR_CLAIM_CONFLICT (arg0 d 0) else s
  (if v.isSome then s.wr CAR_SHARE.AGE 0 0 else s).obey

/-- SHARE (R240, R253, R254, R258): θc = SEND + (15 − HOPS) × 0.5 µs − the local arrival of the header. -/
def execShare (l : Nat) (ws : List Nat) (frac : Nat) (s : State) : Host.Outcome State Fault Refusal :=
  let s := s.quiet
  let send : Int := (stampOf (at0 ws 2) (at0 ws 3) : Nat)
  let ofs := signed50 (send + 512 * (15 - (hdrHops (at0 ws 0) : Int)) - (s.now50 frac : Nat))
  .next (if 4 ≤ l then s else s.paceIn l mSHARE ws frac (fun _ => true) (State.actShare ws ofs))

/-- SHARE_TIMEOUT (R253): no usable SHARE for SHARE_TMO carrier periods; a value below 4 is clamped to 4. -/
def execShareTimeout (s : State) : Host.Outcome State Fault Refusal :=
  let s := s.quiet
  .next (if s.on CAR_STAT.SHARE_VALID && s.past s.car.usableAt (10 * max 4 (s.inf CAR_CTRL.SHARE_TMO)) then
      (s.wr CAR_STAT.SHARE_VALID 0 0).raise .CAR_SHARE_INVALID
    else s)

/-! ### The carrier split (R252) -/

/-- The split: mode, parameter, budget, whether the carrier is over its cap.  `rs` are the reports used, `n` the live dies. -/
def carrierSplit (rs : List Rep) (n cap reserve : Nat) : Nat × Nat × Nat × Bool :=
  let excess := sumOf (rs.map (fun r => r.meas)) - 4 * cap
  let budget := 4 * (cap - reserve) - excess
  let mn := sumOf (rs.map (fun r => r.minimum))
  let dem := sumOf (rs.map (fun r => r.demand))
  let total := fun l => sumOf (rs.map (fun r => min r.demand (max r.minimum l)))
  if budget ≤ mn then (1, if mn = 0 then 0 else min 0x10000 (budget * 65536 / mn), budget, decide (0 < excess))
  else if dem ≤ budget then (2, (budget - dem) / n, budget, decide (0 < excess))
  else
    let l := ((List.range 17).reverse).foldl (fun l b => if total (l + 2 ^ b) ≤ budget then l + 2 ^ b else l) 0
    (0, l, budget, decide (0 < excess))

/-- A value that its field can hold; beyond it the manual states none, and a free one stands (log entry 43). -/
def State.fits (s : State) (w v : Nat) : Nat × State :=
  if v < 2 ^ w then (v, s) else s.takeFree w

/-- A steward computes the split and floods SHARE. -/
def State.sendShare (s : State) : State :=
  let live := s.liveDies.filterMap (fun d => (s.reportOf d).map (fun r => (d, r)))
  let x := carrierSplit (live.map (fun p => p.2)) s.liveDies.length (s.rd CAR_CAP.CAP) (s.rd CAR_RSV.RESERVE)
  let (param, s) := s.fits 30 x.2.1
  let (budget, s) := s.fits 32 x.2.2.1
  let s := ((s.wr CAR_SPLIT.MODE 0 x.1).wr CAR_SPLIT.PARAM 0 param).wr CAR_BUDGET.BUDGET 0 budget
  let s := if x.2.2.2 then s.raise .CAR_OVER else s
  let (frac, s) := s.takeFree 10
  let incl := fun lo => sumOf ((live.filter (fun p => decide (lo ≤ p.1) && decide (p.1 < lo + 32))).map (fun p => 2 ^ (p.1 - lo)))
  let used := fun lo =>
    sumOf ((live.filter (fun p => decide (lo ≤ p.1) && decide (p.1 < lo + 16))).map (fun p => p.2.seq % 4 * 4 ^ (p.1 - lo)))
  let body := s.rd CAR_EPOCH_HELD.EPOCH :: (stampWords s.stamp frac ++
    [x.1 * 2 ^ 30 + param, incl 0, incl 32, used 0, used 16, used 32, used 48])
  let (h, s) := s.flood mSHARE body frac
  State.actShare (h :: body) 0 s

/-- CARRIER_PERIOD (R248, R252): at TICK mod 10 = 0 a steward splits; a designated governor without a lease asks for one. -/
def execCarrierPeriod (s : State) : Host.Outcome State Fault Refusal :=
  let s := s.quiet
  .next (if s.tick % 10 == 0 && s.carrierOn && !s.holdover && s.car.periodAt != some s.tick then
      let s := s.setCar (fun c => { c with periodAt := some s.tick })
      if s.steward then s.sendShare
      else if s.on CAR_STAT.LEASE_VALID then s
      else s.requestLease (match s.rd CAR_STAT.DESIGNATED with
        | 2 => 2
        | 1 => 3
        | _ => 0)
    else s)

/-! ### At a tick boundary -/

/-- Lease time left in ms, the age of the last usable SHARE, the window and the live set. -/
def State.carrierBoundary (s : State) : State :=
  let s := match s.car.leaseEnd with
    | some e => s.wr CAR_LEASE.LEFT 0 (min 255 ((e - s.tick) / 1000))
    | none => s
  let s := if s.tick % 10 = 0 && s.car.obeyEpoch.isSome then s.wr CAR_SHARE.AGE 0 (min 255 ((s.tick - s.car.usableAt) / 10)) else s
  let s := if s.car.shares.isEmpty then s else s.obey
  if s.carrierOn then s.showLive else s

end Sys2Proof.Machine
end

