-- ==== Sys2Proof/Machine/Peloton.lean ====
section
/-! DEFINITION. The peloton (R255 to R262): offers, the root and its points, the offset to the root, drag and paceline. -/

namespace Sys2Proof.Machine

/-! ### Membership, offers and drag (R255, R259, R260) -/

def State.joined (s : State) : Bool := s.on PEL_CTRL.JOIN

/-- The sectors that hold ON clusters. -/
def State.onSectors (s : State) : List Nat :=
  (List.range 6).filter (fun k => (s.sectorClusters k).any (fun n => s.dstate n == dON))

/-- The lowest in-force point over sectors that hold ON clusters, 255 where none does. -/
def State.lowestPoint (s : State) : Nat :=
  (s.onSectors.map s.pointInForce).foldl min 255

/-- The selector terms of sector `k` that bound an offer, as the selector took them in the tick that ended: c_cap, c_thm, the
voltage-supported point, fw_safe. -/
def State.offerTerm (s : State) (k : Nat) : Int :=
  let thm := (s.rampedAt (s.tick - 1) (rampKey k 1) (s.rd ENG_CAND.THM k)).1
  let cap := (s.rampedAt (s.tick - 1) (rampKey k 2) (s.rd ENG_CAND.CAP k)).1
  min (min cap thm) (min (s.word (0x0C0 + k)) (min (s.word (0x0C6 + k)) (s.ownCeiling k)))

/-- PERSIST: 1 to 14, the ends taken for values beyond them; NOFOLLOW above PERSIST (Table 9.7). -/
def State.persist (s : State) : Nat := max 1 (min 14 (s.inf PEL_CFG.PERSIST))

def State.noFollow (s : State) : Nat :=
  let n := s.inf PEL_CFG.NOFOLLOW
  if n ≤ s.persist then s.persist + 1 else n

def State.dragTicks (s : State) : Nat := max 1 (s.inf PEL_CFG.DRAG_TICKS)

/-- The member's offer (R255), limited to DRAG_PT after PERSIST periods of DRAG (R260). -/
def State.computeOffer (s : State) : Nat :=
  let o := satN 0 255 ((s.onSectors.map s.offerTerm).foldl min 255)
  if s.onSectors.isEmpty then 255
  else if s.on PEL_STAT.DRAG && s.persist ≤ s.pel.periods then min o s.pel.dragPt else o

/-- The tick that ended was a drag tick (R259). -/
def State.dragTick (s : State) : Bool :=
  decide (s.lowestPoint < min (s.rd ENG_SLEWV.OUT 2) (s.rd PEL_STAT.OFFER))
    || s.clusters.any (fun n => s.dstate n == dON && s.on SNT_STAT.FEATHER n)
    || s.braked || s.on CAD_STAT.CADENCE_LOST

/-- Flood a DRAG message (R259, Table 9.2: any member); the governor's own steward state takes it as well. -/
def State.sendDrag (s : State) : State :=
  let s := s.memberFlags s.die s.ownFlags
  if s.holdover then s
  else (s.flood mDRAG [s.lowestPoint * 2 ^ 24 + s.ownFlags * 2 ^ 21] 0).2

/-- DRAG rises: a message, the event, the count (R259). -/
def State.dragRise (s : State) : State :=
  let s := (s.wr PEL_STAT.DRAG 0 1).inc PEL_CNT.DRAGS
  s.sendDrag.raise .PEL_DRAG

/-- DRAG_RISE (R259): the (DRAG_TICKS + 1)-th consecutive drag tick. -/
def execDragRise (s : State) : Host.Outcome State Fault Refusal :=
  let s := s.quiet
  .next (if s.joined && !s.on PEL_STAT.DRAG && (decide (s.dragTicks < s.pel.dragRun) || s.on CAD_STAT.CADENCE_LOST) then
      s.dragRise
    else s)

/-- DRAG_CLEAR (R259, R260): DRAG_TICKS consecutive ticks without drag; CANT_FOLLOW clears with it. -/
def execDragClear (s : State) : Host.Outcome State Fault Refusal :=
  let s := s.quiet
  .next (if s.joined && s.on PEL_STAT.DRAG && decide (s.dragTicks ≤ s.pel.cleanRun) then
      let s := (s.wr PEL_STAT.DRAG 0 0).wr PEL_STAT.CANT_FOLLOW 0 0
      ((s.setPel (fun p => { p with periods := 0 })).sendDrag).raise .PEL_DRAG_CLR
    else s)

/-- CANT_FOLLOW (R260): DRAG set for NOFOLLOW consecutive peloton periods; DRAGS counts rises of DRAG alone (log entry 49). -/
def execCantFollow (s : State) : Host.Outcome State Fault Refusal :=
  let s := s.quiet
  .next (if s.joined && s.on PEL_STAT.DRAG && !s.on PEL_STAT.CANT_FOLLOW && decide (s.noFollow ≤ s.pel.periods) then
      (((s.wr PEL_STAT.CANT_FOLLOW 0 1).sendDrag).raise .PEL_DRAG).raise .PEL_CANT_FOLLOW
    else s)

/-- A DRAG message acted on: the member's state at its steward. -/
def State.actDrag (ws : List Nat) (s : State) : State :=
  s.memberFlags (hdrDie (at0 ws 0) % 64) (bits 23 21 (at0 ws 1))

/-- DRAG (R240, R259). -/
def execDrag (l : Nat) (ws : List Nat) (s : State) : Host.Outcome State Fault Refusal :=
  let s := s.quiet
  .next (if 4 ≤ l then s else s.paceIn l mDRAG ws 0 (fun _ => true) (State.actDrag ws))

/-- ORPHAN (R262): no CPOINT acted on for three peloton periods. -/
def execOrphan (s : State) : Host.Outcome State Fault Refusal :=
  let s := s.quiet
  .next (if s.joined && !s.on PEL_STAT.ORPHAN && s.past s.pel.heardAt 300 then
      (s.wr PEL_STAT.ORPHAN 0 1).raise .PEL_ORPHAN
    else s)

/-! ### Carriers, the root and the mode (R255, R256, R261) -/

def State.offerOf (s : State) (c : Nat) : Option OfferIn :=
  Table.get none s.pel.offers c

/-- The live carriers at a steward, rising. -/
def State.liveCarriers (s : State) : List Nat :=
  idx 256 (fun c => c == s.carrier || (s.offerOf c).isSome)

/-- DRAG rises counted in the last 10 ms. -/
def State.risesNow (s : State) : Nat :=
  sumOf ((s.pel.rises.filter (fun r => decide (s.tick < r.1 + 10000))).map (fun r => r.2))

/-- A live carrier reports CANT_FOLLOW. -/
def State.carrierCant (s : State) : Bool :=
  s.liveCarriers.any (fun c => match s.offerOf c with
    | some o => o.cant
    | none => false)

def State.isRoot (s : State) : Bool :=
  s.steward && s.joined && s.pel.root == some s.carrier

def State.returnTicks (s : State) : Nat := 1000 * max 1 (s.inf PEL_CFG.RETURN_MS)

/-- Show the root, the live carriers, the rises and the time to the return. -/
def State.showRoot (s : State) : State :=
  let l := s.liveCarriers
  let s := upTo 8 (fun k s =>
    s.wr PEL_LIVE.LIVE k (sumOf ((l.filter (fun c => c / 32 == k)).map (fun c => 2 ^ (c % 32))))) s
  let s := (s.wr PEL_ROOT.LIVE_CAR 0 l.length).wr PEL_ROOT.RISES 0 (min 255 s.risesNow)
  let left := if s.isRoot && s.pel.rootMode == 2 then (s.pel.unrestAt + s.returnTicks - s.tick + 999) / 1000 else 0
  (s.wr PEL_ROOT.RETURN_LEFT 0 (min 255 left)).wrB PEL_STAT.ROOT 0 s.isRoot

/-- The root is the lowest-numbered live carrier; a change of root drops the offset (R256, R257). -/
def State.findRoot (s : State) : State :=
  let r := s.liveCarriers.head?.getD s.carrier
  if s.pel.root = some r then s.showRoot
  else
    let was := s.pel.root
    let s := s.setPel (fun p => { p with root := some r, samples := [], exchanges := 0, ceded := false })
    let s := (s.wr PEL_STAT.ROOT_CARRIER 0 r).wr PEL_STAT.OFS_VALID 0 0
    (if was.isSome then s.raise .PEL_ROOT_CHANGE (arg0 r 0) else s).showRoot

/-- The PEL_ID of a sideband message is this governor's. -/
def State.inPeloton (ws : List Nat) (s : State) : Bool :=
  bits 31 16 (at0 ws 1) == s.rd PEL_CTRL.PEL_ID

/-- An OFFER is acted on by a member of its peloton. -/
def State.takesOffer (ws : List Nat) (s : State) : Bool :=
  s.joined && s.inPeloton ws

/-- An OFFER acted on, of this carrier or of another; a member that is no steward keeps it for the day it becomes one. -/
def State.actOffer (ws : List Nat) (s : State) : State :=
  let c := hdrCar (at0 ws 0)
  let w := at0 ws 1
  let n := bits 6 0 w
  let cant := bits 7 7 w == 1
  let s := s.setPel (fun p => { p with
    offers := Table.set none p.offers c (some { offer := bits 15 8 w, cant := cant, tick := s.tick }),
    rises := ((s.tick, n) :: p.rises).filter (fun r => decide (s.tick < r.1 + 10000) && r.2 != 0),
    unrestAt := if n = 0 && !cant then p.unrestAt else s.tick })
  if s.steward then s.findRoot else s

/-- OFFER (R242, R256). -/
def execOffer (ws : List Nat) (s : State) : Host.Outcome State Fault Refusal :=
  let s := s.quiet
  let f := s.takeFree 10
  .next (f.2.sidebandIn mOFFER ws f.1 (State.takesOffer ws) (State.actOffer ws))

/-- OFFER_SEND (R255): the lowest offer in the reports of the live members. -/
def execOfferSend (s : State) : Host.Outcome State Fault Refusal :=
  let s := s.quiet
  .next (if s.tick % 100 == 0 && s.steward && s.joined && !s.holdover && s.pel.offerSent != some s.tick then
      let rs := s.liveDies.filterMap s.reportOf
      let o := (rs.map (fun r => r.offer)).foldl min 255
      let cant := s.liveDies.any (fun d => Table.get false s.pel.memberCant d)
      let w := s.rd PEL_CTRL.PEL_ID * 2 ^ 16 + o * 2 ^ 8 + b2n cant * 2 ^ 7 + min 127 s.pel.memberRises
      let s := s.setPel (fun p => { p with memberRises := 0, offerSent := some s.tick })
      let (frac, s) := s.takeFree 10
      let (h, s) := s.sideband mOFFER [w, s.liveDies.length] 256 frac
      s.actOffer [h, w]
    else s)

/-- CARRIER_LOST (R256, R262): no OFFER of carrier `c` for three peloton periods. -/
def execCarrierLost (c : Nat) (s : State) : Host.Outcome State Fault Refusal :=
  let s := s.quiet
  .next (if 256 ≤ c then s else match s.offerOf c with
    | some o =>
      if s.steward && c != s.carrier && s.past o.tick 300 then
        let s := s.setPel (fun p => { p with offers := Table.set none p.offers c none })
        s.findRoot.raise .PEL_CARRIER_LOST (arg0 c 0)
      else s
    | none => s)

/-- PACELINE_RETURN (R261): RETURN_MS without a DRAG rise and without CANT_FOLLOW. -/
def execPacelineReturn (s : State) : Host.Outcome State Fault Refusal :=
  let s := s.quiet
  .next (if s.isRoot && s.pel.rootMode == 2 && s.past s.pel.unrestAt s.returnTicks && !s.carrierCant then
      ((s.setPel (fun p => { p with rootMode := 1 })).raise .PEL_RETURN).showRoot
    else s)

/-! ### Points (R256, R258) -/

/-- Show the next pending application. -/
def State.showNext (s : State) : State :=
  let l := s.cad.queue.filter (fun e => match e.act with | .point _ _ _ => true | _ => false)
  s.wr PEL_NEXT.TICK 0 (match l with
    | [] => 0
    | e :: t => t.foldl (fun m f => min m f.fire) e.fire)

/-- A value in 1/1,024 tick as the nearest tick, halves upward, modulo 2^40. -/
def nearestTick (v : Int) : Nat :=
  ofSigned 40 ((v + 512) / 1024)

/-- Schedule an application once for each POINT of a root; a new root cancels the pending ones of any other (R258). -/
def State.scheduleApply (s : State) (root rseq p mode : Nat) (stamp : Nat) : State :=
  if s.pel.known.contains (root, rseq) then s
  else
    let newRoot := match s.pel.known with
      | [] => false
      | x :: _ => x.1 != root
    let keep : QEvent → Bool := fun e => match e.act with
      | .point c _ _ => c == root
      | _ => true
    let s := if newRoot then s.setCad (fun c => { c with queue := c.queue.filter keep }) else s
    let q := s.schedule (s.extend stamp) (.point root p mode)
    (if q.1 = stOK then q.2.setPel (fun q => { q with known := ((root, rseq) :: q.known).take 8 }) else q.2).showNext

/-- A root that receives the POINT of a lower carrier gives way to it (R256). -/
def State.cedesTo (ws : List Nat) (s : State) : Bool :=
  s.isRoot && decide (hdrCar (at0 ws 0) < s.carrier)

/-- A POINT is acted on by a steward of its peloton: it gives way to it, or has an offset to its root. -/
def State.takesPoint (ws : List Nat) (s : State) : Bool :=
  let c := hdrCar (at0 ws 0)
  s.steward && s.joined && s.inPeloton ws &&
    (s.cedesTo ws || s.pel.root == some c && (c == s.carrier || s.on PEL_STAT.OFS_VALID))

/-- A POINT acted on by a steward with an offset to its root: applied here, and flooded as a CPOINT (R258). -/
def State.actPoint (ws : List Nat) (s : State) : State :=
  let h := at0 ws 0
  let w := at0 ws 1
  let c := hdrCar h
  if !s.takesPoint ws then s
  else if s.cedesTo ws then s.setPel (fun p => { p with ceded := true })
  else
    let ofs : Int := if c = s.carrier then 0 else toSigned 64 (s.rd PEL_OFS.OFS)
    let t := nearestTick ((stampOf (at0 ws 2) (at0 ws 3) : Nat) - ofs)
    let p := bits 15 8 w
    let m := bits 7 6 w
    let s := s.scheduleApply c (hdrSeq h) p m t
    let s := (s.wr PEL_STAT.ORPHAN 0 0).setPel (fun q => { q with heardAt := s.tick })
    if s.holdover then s
    else
      let (frac, s) := s.takeFree 10
      (s.flood mCPOINT ((c * 2 ^ 24 + p * 2 ^ 16 + m * 2 ^ 14 + hdrSeq h) :: stampWords t 0) frac).2

/-- POINT (R256, R258). -/
def execPoint (ws : List Nat) (s : State) : Host.Outcome State Fault Refusal :=
  let s := s.quiet
  let f := s.takeFree 10
  .next (f.2.sidebandIn mPOINT ws f.1 (State.takesPoint ws) (State.actPoint ws))

/-- POINT_SEND (R256, R261): the root sends mode and point, to be applied LEAD ticks from now; a LEAD below 400 is 400. -/
def execPointSend (s : State) : Host.Outcome State Fault Refusal :=
  let s := s.quiet
  .next (if s.tick % 100 == 0 && s.isRoot && !s.pel.ceded && !s.holdover && s.pel.pointSent != some s.tick then
      let s := s.setPel (fun p => { p with pointSent := some s.tick })
      let s := if s.pel.rootMode == 1 && (decide (s.inf PEL_CFG.FALLBACK_N < s.risesNow) || s.carrierCant) then
          (s.setPel (fun p => { p with rootMode := 2, unrestAt := s.tick })).raise .PEL_FALLBACK
        else s
      let p := if s.pel.rootMode = 2 then 255
        else (s.liveCarriers.filterMap s.offerOf).foldl (fun m o => min m o.offer) 255
      let w := s.rd PEL_CTRL.PEL_ID * 2 ^ 16 + p * 2 ^ 8 + s.pel.rootMode * 2 ^ 6
      let st := stampWords ((s.tick + max 400 (s.inf PEL_LEAD.LEAD)) % 2 ^ 40) 0
      let (frac, s) := s.takeFree 10
      let (h, s) := s.sideband mPOINT (w :: (st ++ [0])) 256 frac
      (State.actPoint (h :: w :: st) s).showRoot
    else s)

/-- A CPOINT acted on: the application at APPLY − θc (R258). -/
def State.actCpoint (ws : List Nat) (s : State) : State :=
  let w := at0 ws 1
  let ofs := (Table.get none s.car.ofs (hdrDie (at0 ws 0) % 64)).getD 0
  let t := nearestTick ((stampOf (at0 ws 2) (at0 ws 3) : Nat) - ofs)
  let s := s.scheduleApply (bits 31 24 w) (bits 7 0 w) (bits 23 16 w) (bits 15 14 w) t
  (s.wr PEL_STAT.ORPHAN 0 0).setPel (fun q => { q with heardAt := s.tick })

/-- CPOINT (R240, R258): acted on by a member with a carrier offset to the relaying steward. -/
def execCpoint (l : Nat) (ws : List Nat) (s : State) : Host.Outcome State Fault Refusal :=
  let s := s.quiet
  let f := s.takeFree 10
  .next (if 4 ≤ l then s else f.2.paceIn l mCPOINT ws f.1
    (fun s => s.joined && (Table.get none s.car.ofs (hdrDie (at0 ws 0) % 64)).isSome) (State.actCpoint ws))

/-- PELOTON_APPLY (R258, R181): the class-2 event makes the point the target of limiter 2. -/
def execPelotonApply (s : State) : Host.Outcome State Fault Refusal :=
  let s := s.quiet
  let late := match firstDue s.cad.queue with
    | some e => e.late
    | none => false
  .next (match s.takeEvent (fun a => match a with | .point _ _ _ => true | _ => false) with
    | some (.point c p m, s) =>
      let s := if late then s.raise .PEL_LATE_APPLY (arg0 c 0) else s
      let s := if s.joined then
          ((s.wr PEL_STAT.POINT 0 p).wr PEL_STAT.MODE 0 (if m = 2 then 2 else 1)).giveTarget 2 p
        else s
      s.showNext
    | _ => s)

/-! ### PSYNC (R257) -/

/-- PSYNC_REQ_SEND: at TICK mod 100 = 50 a steward asks the root carrier. -/
def execPsyncReqSend (frac : Nat) (s : State) : Host.Outcome State Fault Refusal :=
  let s := s.quiet
  .next (match s.pel.root with
    | some r =>
      if s.tick % 100 == 50 && s.steward && s.joined && r != s.carrier && !s.holdover && s.pel.psyncSent != some s.tick then
        let s := s.setPel (fun p => { p with psyncSent := some s.tick })
        (s.sideband mPSYNCREQ ((s.rd PEL_CTRL.PEL_ID * 2 ^ 16) :: (stampWords s.stamp frac ++ [0])) r frac).2
      else s
    | none => s)

/-- A PSYNC_REQ is acted on by the root of its peloton. -/
def State.takesPsyncReq (ws : List Nat) (s : State) : Bool :=
  s.isRoot && s.inPeloton ws && !s.holdover

/-- PSYNC_REQ: the root answers with T1, T2 at its receipt and T3 at its send. -/
def State.actPsyncReq (ws : List Nat) (frac2 frac3 : Nat) (s : State) : State :=
  (s.sideband mPSYNCRSP ((s.rd PEL_CTRL.PEL_ID * 2 ^ 16) :: at0 ws 2 :: at0 ws 3 ::
    (stampWords s.stamp frac2 ++ stampWords s.stamp frac3 ++ [0])) (hdrCar (at0 ws 0)) frac3).2

def execPsyncReq (ws : List Nat) (frac2 frac3 : Nat) (s : State) : Host.Outcome State Fault Refusal :=
  let s := s.quiet
  .next (s.sidebandIn mPSYNCREQ ws frac2 (State.takesPsyncReq ws) (State.actPsyncReq ws frac2 frac3))

/-- The sample with the smallest delay, the newest of equals. -/
def bestSample : List (Int × Int) → Option (Int × Int)
  | [] => none
  | x :: t =>
    match bestSample t with
    | none => some x
    | some y => if x.2 ≤ y.2 then some x else some y

/-- A PSYNC_RSP is acted on by a steward whose root sent it. -/
def State.takesPsyncRsp (ws : List Nat) (s : State) : Bool :=
  s.steward && s.joined && s.inPeloton ws && s.pel.root == some (hdrCar (at0 ws 0))

/-- PSYNC_RSP: offset and delay of one exchange; the sample of the smallest delay among the last eight is in use. -/
def State.actPsyncRsp (ws : List Nat) (frac : Nat) (s : State) : State :=
  let t1 : Int := (stampOf (at0 ws 2) (at0 ws 3) : Nat)
  let t2 : Int := (stampOf (at0 ws 4) (at0 ws 5) : Nat)
  let t3 : Int := (stampOf (at0 ws 6) (at0 ws 7) : Nat)
  let t4 : Int := (s.now50 frac : Nat)
  let theta := (signed50 (t2 - t1) + signed50 (t3 - t4)) / 2
  let delta := signed50 ((t4 - t1) - (t3 - t2))
  let s := s.setPel (fun p => { p with samples := ((theta, delta) :: p.samples).take 8, exchanges := p.exchanges + 1 })
  match bestSample s.pel.samples with
  | some x =>
    let s := (s.wr PEL_OFS.OFS 0 (ofSigned 64 x.1)).wr PEL_DELAY.DELAY 0 (ofSigned 32 x.2)
    if 4 ≤ s.pel.exchanges then s.wr PEL_STAT.OFS_VALID 0 1 else s
  | none => s

def execPsyncRsp (ws : List Nat) (frac : Nat) (s : State) : Host.Outcome State Fault Refusal :=
  let s := s.quiet
  .next (s.sidebandIn mPSYNCRSP ws frac (State.takesPsyncRsp ws) (State.actPsyncRsp ws frac))

/-! ### At a tick boundary -/

/-- Drag bookkeeping of the tick that ended. -/
def State.dragBoundary (s : State) : State :=
  if s.dragTick then
    let p := s.lowestPoint
    s.setPel (fun q => { q with
      dragRun := q.dragRun + 1, cleanRun := 0,
      lowPt := some (match q.lowPt with
        | some v => min v p
        | none => p) })
  else
    let n := s.pel.dragRun
    let s := s.setPel (fun q => { q with dragRun := 0, cleanRun := q.cleanRun + 1 })
    if 1 ≤ n && n ≤ s.dragTicks && !s.on PEL_STAT.DRAG then s.inc PEL_CNT.ABSORBED else s

/-- The end of a peloton period: DRAG_PT, periods with DRAG set, the offer (R255, R259, R260). -/
def State.periodEnd (s : State) : State :=
  let force := s.rd ENG_SLEWV.OUT 2
  let s := s.setPel (fun q => { q with
    dragPt := (match q.lowPt with
      | some v => if v = force then v - 1 else v
      | none => 255),
    lowPt := none,
    periods := if s.on PEL_STAT.DRAG then q.periods + 1 else 0 })
  s.wr PEL_STAT.OFFER 0 s.computeOffer

/-- A member that is no steward forgets OFFERs older than three peloton periods (R256). -/
def State.ageOffers (s : State) : State :=
  let fresh : Nat × Option OfferIn → Bool := fun e => match e.2 with
    | some o => !s.past o.tick 300
    | none => false
  s.setPel (fun p => { p with offers := p.offers.filter fresh })

/-- The peloton at a tick boundary; a governor that is not a member offers and drags nothing: on leaving, DRAG and CANT_FOLLOW
fall. -/
def State.pelotonBoundary (s : State) : State :=
  if s.joined then
    let s := if s.pel.joined then s
      else ((s.setPel (fun q => { q with joined := true, heardAt := s.tick })).wr PEL_STAT.MODE 0 1)
    let s := s.dragBoundary
    let s := if s.tick % 100 = 0 then s.periodEnd else s
    let s := if s.steward then s.findRoot else s.ageOffers
    s.showNext
  else if s.pel.joined then
    let s := s.setPel (fun q => { q with joined := false, dragRun := 0, cleanRun := 0, periods := 0, lowPt := none, dragPt := 255 })
    let fall := s.on PEL_STAT.DRAG || s.on PEL_STAT.CANT_FOLLOW
    let s := ((s.wr PEL_STAT.MODE 0 0).wr PEL_STAT.DRAG 0 0).wr PEL_STAT.CANT_FOLLOW 0 0
    let s := if fall then s.sendDrag.raise .PEL_DRAG_CLR else s
    ((s.wr PEL_STAT.ORPHAN 0 0).wr PEL_STAT.OFFER 0 255).wr PEL_STAT.ROOT 0 0
  else s

end Sys2Proof.Machine
end

