-- ==== Sys2Proof/Machine/Outbound.lean ====
section
/-! DEFINITION. Outbound agent mailboxes (R373 to R375): the messages queued for each agent and their posts. -/

namespace Sys2Proof.Machine

/-! ### Message types (Table 14.6) -/

abbrev oESCALATION : Nat := 1
abbrev oFENCEREQ : Nat := 2
abbrev oRETIRED : Nat := 3
abbrev oABORT : Nat := 4
abbrev oSTEP : Nat := 5

def State.omb (s : State) (k : Nat) : Omb :=
  Table.get {} s.bus.omb k

def State.setOmb (s : State) (k : Nat) (f : Omb → Omb) : State :=
  let s := s.setBus (fun b => { b with omb := Table.upd {} b.omb k f })
  s.wr OMB_STAT.QUEUED k (s.omb k).queue.length

/-- Queue a message for mailbox `k` (R374): discarded while the mailbox is disabled, dropped and counted where eight wait. -/
def State.post (s : State) (k ty : Nat) (ws : List Nat) : State :=
  if !s.infOn OMB_CFG.EN k then s
  else if 8 ≤ (s.omb k).queue.length then s.inc OMB_STAT.DROP k
  else s.setOmb k (fun o => { o with queue := o.queue ++ [{ mtype := ty, oseq := o.oseq, words := ws }],
                                     oseq := (o.oseq + 1) % 4096 })

/-! ### Fences of retired cores (R64, R277, R278) -/

def State.setRetired (s : State) (f : Retired → Retired) : State :=
  s.setMg (fun m => { m with retired := m.retired.map f })

/-- A FENCE_REQ awaits its acknowledgement. -/
def Retired.awaits (r : Retired) : Bool :=
  r.oseq.isSome && r.fenced.isNone

/-- Show that an acknowledgement is awaited (Table 10.6, Table 14.9). -/
def State.showAwait (s : State) : State :=
  let b := s.mg.retired.any Retired.awaits
  (s.wrB MG_STAT.FENCE_WAIT 0 b).wrB OMB_STAT.AWAIT 0 b

/-- Assert the fences of the retired cores that `p` picks; their gates close in the next tick. -/
def State.fence (s : State) (p : Retired → Bool) : State :=
  let l := s.mg.retired.filter (fun r => p r && r.fenced.isNone)
  let s := l.foldl (fun s r => s.wrBit CORE_FENCE.FENCE (r.core / 64) (r.core % 64) true) s
  (s.setRetired (fun r => if p r && r.fenced.isNone then { r with fenced := some s.tick, oseq := none } else r)).showAwait

/-! ### Posts -/

/-- A post ends in DOMAIN_OFF (R374): counted, logged, doorbell bit 30, and reported to the rule that posted it; in holdover
only the recovery sequencer changes a fence line, so the fence follows once it ends (R62). -/
def State.failDomainOff (s : State) (k : Nat) (m : OmbMsg) : State :=
  let s := (s.setOmb k (fun o => { o with queue := o.queue.drop 1 })).inc OMB_STAT.DOMOFF k
  let s := s.fwRec { sev := 3, block := 12, event := 0x84, arg0 := arg0 k 0, arg1 := m.mtype * 2 ^ 24 + m.oseq }
  let s := s.doorbell 30
  if m.mtype != oFENCEREQ then s
  else if s.holdover then s.setRetired (fun r => if m.words.contains r.core then { r with failed := true } else r)
  else s.fence (fun r => m.words.contains r.core)

/-- The address of mailbox `k`'s block. -/
def State.ombAddr (s : State) (k : Nat) : Nat :=
  s.inf OMB_ADDR.ADDR k / 64 * 64

/-- The read of word 15 of mailbox `k`'s block; AxPROT[1] is a free value. -/
def State.readCtl (s : State) (k : Nat) : State :=
  let (ns, s) := s.takeFree 1
  s.drive (.hostRead (s.ombAddr k + 60) (ns == 1) 4)

/-- The write of words 0 to NW of a message. -/
def State.writeMsg (s : State) (k : Nat) (m : OmbMsg) : State :=
  let (ns, s) := s.takeFree 1
  s.drive (.hostWrite (s.ombAddr k) (ns == 1) ((m.mtype * 2 ^ 24 + m.oseq * 16 + m.words.length) :: m.words))

/-- A message has been written: FULL is set. -/
def State.posted (s : State) (k : Nat) (m : OmbMsg) : State :=
  let s := s.drive (.hostByte (s.ombAddr k + 63) 0x80)
  let s := s.setOmb k (fun o => { o with queue := o.queue.drop 1 })
  if m.mtype = oFENCEREQ then
    (s.setRetired (fun r => if m.words.contains r.core && r.fenced.isNone then { r with oseq := some m.oseq } else r)).showAwait
  else s

/-- OMB_POST (R374): one attempt in a tick to post the oldest message; `ctl` is word 15 as read, `ok` the writes' response. -/
def execOmbPost (k : Nat) (ctl : Option Nat) (ok : Bool) (s : State) : Host.Outcome State Fault Refusal :=
  let s := s.quiet
  .next (if 8 ≤ k then s else match (s.omb k).queue with
    | [] => s
    | m :: _ =>
      if (s.omb k).tried == some s.tick then s
      else
        let s := s.setOmb k (fun o => { o with tried := some s.tick })
        let d := s.rd OMB_CFG.DOMAIN k
        if d != 255 && s.dstate d != dON then s.failDomainOff k m
        else
          let s := s.readCtl k
          match ctl with
          | none => s.failDomainOff k m
          | some w =>
            let s := s.setOmb k (fun o => { o with full := w.testBit 31 })
            if w.testBit 31 then s
            else
              let s := s.writeMsg k m
              if ok then s.posted k m else s.failDomainOff k m)

/-- FENCE_POLL (R375): once in a millisecond word 15 is read; an error ends the wait as DOMAIN_OFF. -/
def execFencePoll (k : Nat) (ctl : Option Nat) (s : State) : Host.Outcome State Fault Refusal :=
  let s := s.quiet
  .next (if k == 0 && s.mg.retired.any Retired.awaits && s.past (s.omb 0).polled 1000 && !s.holdover then
      let s := (s.setOmb 0 (fun o => { o with polled := s.tick })).readCtl 0
      match ctl with
      | none =>
        let q := (s.mg.retired.filter Retired.awaits).head?.bind (fun r => r.oseq)
        let s := (s.inc OMB_STAT.DOMOFF 0).fwRec { sev := 3, block := 12, event := 0x84, arg0 := arg0 0 0,
                                                   arg1 := oFENCEREQ * 2 ^ 24 + q.getD 0 }
        (s.doorbell 30).fence Retired.awaits
      | some w => (s.setOmb 0 (fun o => { o with full := w.testBit 31 })).fence (fun r => match r.oseq with
        | some q => decide ((bits 15 4 w + 4096 - q) % 4096 < 2048)
        | none => false)
    else s)

/-- FENCE_WAIT_EXPIRY (R277): FENCE_WAIT ms after the post, or after a post that failed, the fence is asserted without an
acknowledgement. -/
def execFenceWaitExpiry (s : State) : Host.Outcome State Fault Refusal :=
  let s := s.quiet
  .next (if s.holdover then s
    else s.fence (fun r => r.failed || match r.posted with
      | some t => s.past t (1000 * max 1 (s.inf MG_SUS_CFG.FENCE_WAIT))
      | none => false))

end Sys2Proof.Machine
end

