-- ==== Sys2Proof/Machine/Margins.lean ====
section
/-! DEFINITION. Margins, ageing and suspect units (R264 to R281): offsets, ageing measurement and epochs, suspect cores,
retirement, and the ageing records of OTP with their deferral (R208). -/

namespace Sys2Proof.Machine

/-! ### Ageing records (R208, R281) -/

/-- The order of record types in R208: baseline, retired core, slowed core, state. -/
def recordType (order : Nat) : Nat :=
  match order with
  | 0 => 1
  | 1 => 3
  | 2 => 4
  | _ => 2

def markKey (order core : Nat) : Nat := 16384 * order + core

def recordCrc (w0 w1 : Nat) : Nat :=
  crc8Bits 32 w1 (crc8Bits 24 (w0 / 256) 0)

/-- The record of a key as the state in force gives it (Table 10.4). -/
def State.ageingRecord (s : State) (order core : Nat) (clr : Bool) : Nat × Nat :=
  let c := core / 64
  let data :=
    if order = 0 then s.rd MG_DLY.BASE c
    else if order = 3 then s.rd MG_CL.AGE c * 128 + s.rd MG_CL.SUS c * 8 + s.rd MG_CL.STATE c * 2 + b2n clr
    else core % 64 * 64
  let ctx :=
    if order = 1 then (match s.mg.retired.find? (fun r => r.core == core) with | some r => r.ctx | none => 0)
    else if order = 2 then Table.get 0 s.mg.slowCtx core
    else 0
  let w0 := recordType order * 2 ^ 28 + c * 2 ^ 20 + data * 2 ^ 8
  let w1 := ctx * 2 ^ 16
  (w0 + recordCrc w0 w1, w1)

/-- Write one record; without a free slot nothing is written (R281). -/
def State.writeRecord (s : State) (order core : Nat) (clr : Bool) : State :=
  let n := s.mg.otp.length
  if 2048 ≤ n then
    if s.on MG_STAT.OTP_FULL then s else (s.wr MG_STAT.OTP_FULL 0 1).raise .MG_OTP_FULL
  else
    let s := s.setMg (fun m => { m with otp := m.otp ++ [s.ageingRecord order core clr] })
    (s.wr MG_OTP.USED 0 (n + 1)).wr MG_OTP.FREE 0 (2048 - (n + 1))

/-- A record falls due: written under WR_OK, else its key is marked (R208). True if it was deferred. -/
def State.recordDue (s : State) (order core : Nat) (clr : Bool := false) : Bool × State :=
  if s.on TH_STAT.WR_OK then (false, s.writeRecord order core clr)
  else
    let k := markKey order core
    let was := Table.get none s.mg.marks k
    let s := s.setMg (fun m => { m with marks := Table.set none m.marks k (some (clr || was.getD false)), deferred := true })
    let s := s.wr TH_STAT.OTP_PEND 0 1
    (true, if was.isSome then s.inc TH_WR_CNT.SUPERSEDED else s.inc TH_WR_CNT.DEFERRED)

def State.record (s : State) (order core : Nat) (clr : Bool := false) : State :=
  (s.recordDue order core clr).2

/-- OTP_DEFERRED_WRITE (R208): the record of the first marked key in the order of the keys, and its mark is cleared; the next
command writes the next one, so that writing stops after the record in progress once WR_OK is clear. -/
def execOtpDeferredWrite (s : State) : Host.Outcome State Fault Refusal :=
  let s := s.quiet
  .next (match s.mg.marks with
    | [] => s
    | e :: rest =>
      if s.on TH_STAT.WR_OK then
        let s := s.writeRecord (e.1 / 16384) (e.1 % 16384) (e.2.getD false)
        (s.setMg (fun m => { m with marks := rest })).wrB TH_STAT.OTP_PEND 0 (!rest.isEmpty)
      else s)

/-! ### Cluster states and offsets (R265, R266, R273, R274, R279) -/

abbrev cNORMAL : Nat := 0
abbrev cWORN : Nat := 1
abbrev cRETIRED : Nat := 2

/-- The target offset of a cluster (R265). -/
def State.offsetTarget (s : State) (c : Nat) : Nat :=
  s.rd MG_CL.AGE c + s.rd MG_CL.SUS c

/-- A fall of the target takes the applied offset with it (R266). -/
def State.fallOffset (s : State) (c : Nat) : State :=
  if s.offsetTarget c < s.rd MG_CL.APPL c then s.wr MG_CL.APPL c (s.offsetTarget c) else s

def State.markChanged (s : State) (c : Nat) : State :=
  s.setMgCl c (fun x => { x with changed := true })

def State.showStates (s : State) : State :=
  let n := fun st => (idx 192 (fun c => s.rd MG_CL.STATE c == st)).length
  (s.wr MG_STAT.WORN 0 (n cWORN)).wr MG_STAT.RETIRED 0 (n cRETIRED)

/-- A cluster becomes WORN (R274). -/
def State.wear (s : State) (c : Nat) : State :=
  (((s.wr MG_CL.STATE c cWORN).markChanged c).showStates).raiseLog .MG_WORN (arg0 c 0)

/-- A cluster is retired (R279); it leaves the wake set, since no wake returns it to service. -/
def State.retireCluster (s : State) (c : Nat) : State :=
  if s.rd MG_CL.STATE c = cRETIRED then s
  else
    let s := (((s.wr MG_CL.STATE c cRETIRED).markChanged c).showStates).requestOff c
    let s := s.wrBit REST_MASK.WAKE (c / 32) (c % 32) false
    (s.raise .MG_CL_RETIRED (arg0 c 0)).record 3 (64 * c)

/-! ### Suspect cores (R275 to R277) -/

/-- Ticks of an ageing epoch (R271). -/
abbrev epochTicks : Nat := 86400000000

def State.suspect (s : State) (i : Nat) : Option Sus :=
  Table.get none s.mg.sus i

def State.setSuspect (s : State) (i : Nat) (x : Option Sus) : State :=
  s.setMg (fun m => { m with sus := Table.set none m.sus i x })

/-- The entry of a core. -/
def State.entryOf (s : State) (core : Nat) : Option (Nat × Sus) :=
  (List.range 256).findSome? (fun i => match s.suspect i with
    | some x => if x.core == core then some (i, x) else none
    | none => none)

def State.isSlowed (s : State) (core : Nat) : Bool :=
  match s.entryOf core with
  | some x => x.2.slowed
  | none => false

/-- Core `c` of cluster `n` is clocked for its reset behind a closed gate (R61, R63). -/
def State.resetClocked (s : State) (n c : Nat) : Bool :=
  (s.sent n).rstMask.testBit c

/-- The division ratio of core `c` of cluster `n`, 0 when the clock is off (R61); 8 while a gated core is clocked for its
reset (R63). -/
def State.coreRatio (s : State) (n c : Nat) : Nat :=
  if s.bit CORE_GATE.GATE c n then (if s.resetClocked n c then 8 else 0)
  else
    let fail := if s.rd SNT_STAT.INJ_FAIL n = 0 then 1 else 2 ^ s.inf SPK_CTRL.FAIL_DIV
    let slow := if s.isSlowed (64 * n + c) || s.rd MG_CL.STATE n == cWORN then 2 else 1
    max (max (2 ^ s.rd CORE_DIV.DIV (64 * n + c)) (2 ^ s.cellDiv n)) (max fail slow)

/-- The period of the effective clock of core `c` of cluster `n` in source periods, none when the clock is off (R61): the
shaper acts ahead of the divider, and is bypassed while the brake divider is 8 (R57). -/
def State.corePeriod (s : State) (n c : Nat) : Option Rat :=
  let r := s.coreRatio n c
  if r = 0 then none else some ((if s.cellDiv n = 3 then 1 else stretch (s.sent n).step) * ratOf r)

def State.isRetiredCore (s : State) (core : Nat) : Bool :=
  s.mg.retired.any (fun r => r.core == core)

/-- Free an entry; SUS_OVF clears (Table 10.6). -/
def State.freeEntry (s : State) (core : Nat) : State :=
  match s.entryOf core with
  | some x => (s.setSuspect x.1 none).wr MG_STAT.SUS_OVF 0 0
  | none => s

/-- The entry that a core without one takes: a free one, else that of a core not SLOWED whose newest stamp is the oldest. -/
def State.roomFor (s : State) : Option Nat :=
  match (List.range 256).find? (fun i => (s.suspect i).isNone) with
  | some i => some i
  | none =>
    ((List.range 256).foldl (fun (best : Option (Nat × Nat)) i =>
      match s.suspect i with
      | some x =>
        if x.slowed then best
        else
          let age := (s.tick / 1000 + 2 ^ 32 - x.stamps.headD 0) % 2 ^ 32
          match best with
          | some b => if b.2 < age then some (i, age) else best
          | none => some (i, age)
      | none => best) none).map (·.1)

/-- Permanent handling of a core (R277): steps 1 and 2; the fence and the gate follow. -/
def State.retireCore (s : State) (core ctx : Nat) : State :=
  if s.isRetiredCore core then s
  else
    let s := (s.freeEntry core).raise .MG_CORE_RETIRED (arg0 (core / 64) (core % 64))
    let s := s.setMg (fun m => { m with retired := m.retired ++ [{ core := core, ctx := ctx, posted := some s.tick }] })
    (s.record 1 core).post 0 oFENCEREQ [core]

/-- A run of task 2 that begins now closes an epoch (R271). -/
def State.epochDue (s : State) : Bool :=
  decide (s.mg.epoch < s.tick / epochTicks)

/-- A trigger of a NORMAL cluster below the top of its suspect offset: SUS rises, or the cluster wears (Table 10.3). -/
def State.stepSus (s : State) (c : Nat) : State :=
  if s.offsetTarget c < 24 then
    ((s.wr MG_CL.SUS c (s.rd MG_CL.SUS c + 1)).markChanged c).raise .MG_SUS_STEP (arg0 c 0)
  else s.wear c

/-- A trigger that could precede the re-plan of its tick waits for it, or for the end of the tick (R273). -/
def State.awaitPlan (s : State) (x : Nat × Option Nat) : State :=
  s.setMg (fun m => { m with waiting := m.waiting ++ [x] })

/-- A path monitor's violation, a trigger from TRACKED with no stamps (R270): it changes no core. -/
def State.violNow (s : State) (c : Nat) : State :=
  if s.rd MG_CL.STATE c = cNORMAL && s.rd MG_CL.SUS c < 8 then s.stepSus c else s

def State.violTrigger (s : State) (c : Nat) : State :=
  if s.epochDue then s.awaitPlan (c, none) else s.violNow c

/-- A transient report of a core (Table 10.3). -/
def State.transientNow (s : State) (core ctx : Nat) : State :=
  let now := s.tick / 1000 % 2 ^ 32
  let c := core / 64
  if s.isRetiredCore core then s
  else match s.entryOf core with
    | none =>
      match s.roomFor with
      | some i => s.setSuspect i (some { core := core, stamps := [now] })
      | none => s.wr MG_STAT.SUS_OVF 0 1
    | some (i, x) =>
      let recent := (x.stamps.filter (fun t => decide ((now + 2 ^ 32 - t) % 2 ^ 32 < 3600000))).length
      let keep := s.setSuspect i (some { x with stamps := (now :: x.stamps).take 7 })
      let clear := s.setSuspect i (some { x with stamps := [] })
      if recent < max 1 (s.inf MG_SUS_CFG.TR_LIM) then keep
      else if x.slowed then s.retireCore core ctx
      else if s.rd MG_CL.STATE c = cWORN then s.retireCore core ctx
      else if s.rd MG_CL.STATE c = cRETIRED then keep
      else if s.rd MG_CL.SUS c < 8 then clear.stepSus c
      else
        let s := s.setSuspect i (some { x with stamps := [], slowed := true })
        let s := s.setMg (fun m => { m with slowCtx := Table.set 0 m.slowCtx core ctx })
        (s.record 2 core).raise .MG_CORE_SLOWED (arg0 c (core % 64))

def State.transient (s : State) (core ctx : Nat) : State :=
  if s.epochDue then s.awaitPlan (core, some ctx) else s.transientNow core ctx

/-- The triggers that waited, in the order they came (R273). -/
def State.applyWaiting (s : State) : State :=
  let l := s.mg.waiting
  l.foldl (fun s x => match x.2 with
    | some ctx => s.transientNow x.1 ctx
    | none => s.violNow x.1) (s.setMg (fun m => { m with waiting := [] }))

/-- The suspect report command (R275): status and state; DEFERRED where a record of it waits (R208). -/
def State.suspectCommand (s : State) (w0 w1 : Nat) : Nat × State :=
  let verdict := bits 31 30 w0
  let core := bits 13 0 w0
  let ctx := bits 31 16 w1
  if verdict = 0 || verdict = 3 || !s.present (core / 64) || !isCluster (core / 64) then (stBADPARAM, s)
  else
    let (ev, s) := s.takeFree 8
    let s := s.fwRec { sev := 3, block := 10, event := ev, arg0 := arg0 (core / 64) (core % 64),
                        arg1 := bits 31 24 w0 * 2 ^ 24 + ctx }
    let s := if verdict = 1 then s.inc MG_CNT.TRANS else s.inc MG_CNT.PERM
    let s := s.setMg (fun m => { m with deferred := false })
    let s := if !s.infOn MG_CTRL.SUS_EN then s else if verdict = 1 then s.transient core ctx else s.retireCore core ctx
    (if s.mg.deferred then stDEFERRED else stOK, s)

/-- The suspect clear command (R280): OK, or DEFERRED where its record waits. -/
def State.suspectClear (s : State) (c : Nat) : Nat × State :=
  let cores := (s.mg.sus.filterMap (fun e => e.2)).filter (fun x => x.core / 64 == c)
  let s := cores.foldl (fun s x => s.freeEntry x.core) s
  let s := if s.rd MG_CL.SUS c = 0 then s else s.markChanged c
  let s := (s.wr MG_CL.SUS c 0).fallOffset c
  let (d, s) := s.recordDue 3 (64 * c) true
  (if d then stDEFERRED else stOK, s)

/-! ### Offsets applied (R266) -/

/-- A sector holds an ON cluster. -/
def State.sectorOn (s : State) (k : Nat) : Bool :=
  (s.sectorClusters k).any (fun n => s.dstate n == dON)

/-- Ask the group of sector `k` for V_req with the applied offsets `l` (cluster, steps). -/
def State.askOffsets (s : State) (k slew : Nat) (l : List (Nat × Nat)) : State :=
  match s.mg.image with
  | none => s
  | some im =>
    let m := max (s.sectorOffset k) (maxOf (l.map (·.2)))
    let pre := s.hintPre k
    let code := s.vreqWith im (s.pointInForce k) m + pre
    (s.setMgSect k (fun x => { x with
      stepAt := if slew = 0 then some s.tick else x.stepAt, step := slew == 0, pending := l, code := code })).askVoltage k code slew pre

/-- A cluster's applied offset is to rise. -/
def State.rises (s : State) (c : Nat) : Bool :=
  decide (c < 192) && s.present c && s.rd MG_CL.STATE c == cNORMAL && decide (s.rd MG_CL.APPL c < s.offsetTarget c)

/-- APPL_STEP (R266): one step with SLEW 0 at most once in 1,000,000 ticks, or the whole rise with SLEW 3 while no cluster of
the sector is ON. -/
def execApplStep (c : Nat) (s : State) : Host.Outcome State Fault Refusal :=
  let s := s.quiet
  let k := s.rd SWD_CFG.RG c
  let x := s.mgSect k
  .next (if 192 ≤ c then s else if s.rises c && decide (k < 6) && x.pending.isEmpty && s.canAsk k then
      if s.sectorOn k then
        if x.stepAt.isNone || s.past (x.stepAt.getD 0) 1000000 then s.askOffsets k 0 [(c, s.rd MG_CL.APPL c + 1)] else s
      else s.askOffsets k 3 [(c, s.offsetTarget c)]
    else s)

/-- At the wake of a Rest the offsets that rose meanwhile are sent (R266). -/
def State.wakeOffsets (s : State) : State :=
  upTo 6 (fun k s =>
    let l := ((s.sectorClusters k).filter s.rises).map (fun c => (c, s.offsetTarget c))
    if l.isEmpty || !s.canAsk k then s else s.askOffsets k 3 l) s

/-- REST_WAKE_START (R95, R266, Table 3.6). -/
def execRestWakeStart (s : State) : Host.Outcome State Fault Refusal :=
  let s := s.quiet
  .next (if s.atBoundary && s.rd RIM_STAT.REST_STATE == 2 && s.rim.restHeld == some false && !s.rim.coolRest
        && (s.clusters.filter s.inWakeSet).all (fun n => s.dstate n == dOFF && s.offElapsed n) then
      let s := (s.wr RIM_STAT.REST_STATE 0 3).wr RIM_STAT.REST_TICK 0 0
      let s := s.endSelfRefresh
      let s := s.rim.laneIdle.foldl (fun s n => s.drive (.laneIdle n false)) s
      let l := s.wakeOrder
      let s := s.setRim (fun r => { r with laneIdle := [], restHeld := none, restAt := s.tick, nextWave := 0, shift := 0,
                                           waveDeferred := false, wakeList := l })
      (if s.waveLate then s.deferWave else (s.setRim (fun r => { r with nextWave := 1 })).startWave 0).wakeOffsets
    else s)

/-- A step whose transition has ended: applied, as far as the target still asks for it, if the group has confirmed it, else
given up (R266).  The time between steps counts from the SETV, so a step that is still held has not begun. -/
def State.confirmOffsets (s : State) : State :=
  upTo 6 (fun k s =>
    let x := s.mgSect k
    let v := s.vgrp k
    if x.pending.isEmpty then s
    else if v.out || v.held.isSome then
      if x.step && v.held.isSome then s.setMgSect k (fun x => { x with stepAt := some s.tick }) else s
    else
      let s := if x.code ≤ s.confirmed k then
          x.pending.foldl (fun s e => s.wr MG_CL.APPL e.1 (min e.2 (s.offsetTarget e.1))) s
        else s
      s.setMgSect k (fun x => { x with pending := [] })) s

/-! ### Ageing measurement (R268 to R270) -/

/-- The low-activity window of a cluster (R268). -/
def State.quietWindow (s : State) (c : Nat) : Bool :=
  let x := s.mgCl c
  s.dstate c == dON && !(s.vgrp (s.rd SWD_CFG.RG c)).out && x.quiet.length == 16
    && decide (sumOf (x.quiet.map (·.1)) ≤ s.inf MG_AGE_CFG.QUIET) && x.quiet.all (fun e => !e.2)

/-- Start a measurement on cluster `c`, if its window holds. -/
def State.launch (s : State) (c : Nat) : State :=
  if s.present c && s.quietWindow c then
    let s := upTo 4 (fun m s => s.wr PDM.VALID (4 * c + m) 0) s
    let s := s.setSent c (fun x => { x with meas := some { start := at0 s.spk.src c, since := s.tick } })
    ((s.setMgCl c (fun x => { x with launched := true, got := false })).drive (.delayLaunch c 4))
  else s

/-- The normalised delay of a monitor (R269), in ps. -/
def State.normalised (s : State) (im : MarginImage) (c m : Nat) : Option Rat :=
  let k := s.rd SWD_CFG.RG c
  let f := at0 im.fr (s.pointInForce k)
  if s.rd PDM.VALID (4 * c + m) = 0 || f = 0 then none
  else
    let slack := if s.on PDM.VIOL (4 * c + m) then 0 else s.rd PDM.SLACK (4 * c + m)
    let d := (1000000 : Rat) / ratOf f - 2 * ratOf slack
    some (d - im.kv * (ratOf (s.confirmed k) / 2 - im.vref) - im.kt * ((s.groupTemp k : Rat) / 16 - im.tref))

def largest (l : List Rat) : Option Rat :=
  l.foldl (fun b x => match b with
    | some y => some (max x y)
    | none => some x) none

/-- Collect the results that have come. -/
def State.collect (s : State) : State :=
  (idx 192 (fun c => (s.mgCl c).launched && (s.mgCl c).got)).foldl (fun s c =>
    let d := match s.mg.image with
      | some im => largest ((List.range 4).filterMap (s.normalised im c))
      | none => none
    match d with
    | some v => s.setMgCl c (fun x => { x with launched := false, got := false, measured := true, meas := v :: x.meas })
    | none => s.setMgCl c (fun x => { x with launched := false, got := false })) s

/-- A valid result with VIOL is a trigger of its cluster at once (R270); a second result pair ends the measurement. -/
def State.frameResults (s : State) (n w12 : Nat) : State :=
  let sel := bits 31 30 w12
  if sel = 1 ∨ sel = 2 then
    let s := ([2 * (sel - 1), 2 * (sel - 1) + 1]).foldl (fun s m =>
      if s.on PDM.VALID (4 * n + m) && s.on PDM.VIOL (4 * n + m) then (s.violTrigger n).raiseLog .MG_VIOL (arg0 n m) else s) s
    if sel = 2 then s.setMgCl n (fun x => { x with got := x.launched }) else s
  else s

/-- SPOKE_FRAME (R70 to R72, R270): the hub latches the frame of sentinel `n`. -/
def execSpokeFrame (n : Nat) (f : FrameIn) (s : State) : Host.Outcome State Fault Refusal :=
  let s := s.quiet
  .next (if s.sentinelPresent n then
      match s.received n f.act f.err with
      | some ws => if frameOk ws then (s.goodFrame n ws).frameResults n (at0 ws 12) else s.badFrame n
      | none => s.badFrame n
    else s)

/-! ### Epochs (R271 to R274) -/

/-- Insertion into a rising list. -/
def insertRat (x : Rat) : List Rat → List Rat
  | [] => [x]
  | y :: t => if x ≤ y then x :: y :: t else y :: insertRat x t

/-- The median, the lower middle value of an even count (R271). -/
def medianOf (l : List Rat) : Option Rat :=
  (l.foldr insertRat [])[(l.length - 1) / 2]?

def sumRat (l : List Rat) : Rat :=
  l.foldl (· + ·) 0

/-- Slope and value at `now` of the least-squares line through (epoch, median). -/
def fitLine (l : List (Nat × Rat)) (now : Nat) : Rat × Rat :=
  let n := ratOf l.length
  let mx := sumRat (l.map (fun p => ratOf p.1)) / n
  let my := sumRat (l.map (·.2)) / n
  let sxx := sumRat (l.map (fun p => (ratOf p.1 - mx) * (ratOf p.1 - mx)))
  let sxy := sumRat (l.map (fun p => (ratOf p.1 - mx) * (p.2 - my)))
  let b := sxy / sxx
  (b, my + b * (ratOf now - mx))

/-- PROJ (R272). -/
def State.projection (s : State) (l : List (Nat × Rat)) (now : Nat) : Option Rat :=
  match l with
  | [] => none
  | x :: _ =>
    if l.length < 4 then some x.2
    else
      let f := fitLine l now
      some (f.2 + max 0 f.1 * ratOf (max 1 (s.inf MG_CTRL.HORIZON)))

/-- A delay in 0.5 ps, half up, saturating at 12 bits. -/
def halfPs (d : Rat) : Nat :=
  satN 0 0xFFF (roundQ (2 * d))

/-- REQ and the re-plan of a cluster at the close of epoch `e`. -/
def State.replan (s : State) (e c : Nat) : State :=
  match s.projection (s.mgCl c).medians e, s.mg.image with
  | some p, some im =>
    let base := ratOf (s.rd MG_DLY.BASE c) / 2
    let req := min 63 ((max 0 (p - base) * im.vsens / (5 / 2)).ceil).toNat
    let s := (s.wr MG_DLY.PROJ c (halfPs p)).wr MG_CL.REQ c req
    if s.rd MG_CL.STATE c = cNORMAL then
      if s.infOn MG_CTRL.AUTO && s.rd MG_CL.AGE c < req then
        let s := if 24 < req + s.rd MG_CL.SUS c then s.wear c else (s.wr MG_CL.AGE c req).markChanged c
        s.raise .MG_REPLAN (arg0 c 0)
      else s
    else if s.rd MG_CL.STATE c = cWORN && 48 < req then s.retireCluster c
    else s
  | _, _ => s

/-- The close of an epoch for one cluster. -/
def State.closeCluster (s : State) (e c : Nat) : State :=
  let x := s.mgCl c
  let min' := max 1 (min 144 (s.inf MG_AGE_CFG.MIN_VALID))
  let s := match (if min' ≤ x.meas.length then medianOf x.meas else none) with
    | some m =>
      let s := s.setMgCl c (fun x => { x with medians := ((e, m) :: x.medians).take 16, base := true })
      let s := s.wr MG_DLY.MEDIANS c (s.mgCl c).medians.length
      if x.base then s else (s.wr MG_DLY.BASE c (halfPs m)).record 0 (64 * c)
    | none => s.raise .MG_NO_MEDIAN (arg0 c 0)
  let s := (s.setMgCl c (fun x => { x with meas := [] })).replan e c
  if (s.mgCl c).changed then (s.setMgCl c (fun x => { x with changed := false })).record 3 (64 * c) else s

/-- The first run of task 2 in a new epoch closes the one before (R271). -/
def State.epochClose (s : State) : State :=
  if s.epochDue then
    let s := s.clusters.foldl (fun s c => s.closeCluster s.mg.epoch c) s
    ((s.setMg (fun m => { m with epoch := s.tick / epochTicks })).inc MG_EPOCH.EPOCH).applyWaiting
  else s

/-- Slice `i` of domestique task 2 (R268). -/
def State.ageingSlice (s : State) (i : Nat) : State :=
  let s := if i = 0 then
      s.epochClose.setMg (fun m => { m with cls := Table.mapAll {} (fun (x : MgCl) => { x with launched := false, got := false,
                                                                                               measured := false }) m.cls })
    else s.collect
  let s := if i < 48 then upTo 4 (fun j s => s.launch (4 * i + j)) s
    else ((s.clusters.filter (fun c => !(s.mgCl c).measured && !(s.mgCl c).launched)).take 4).foldl State.launch s
  s

/-! ### Retired cores (R277, R278), start-up (R267) and the tick boundary -/

/-- The gate of a fenced core closes and counts against its cluster (R277, R279). -/
def State.gateRetired (s : State) (r : Retired) : State :=
  let c := r.core / 64
  let s := (s.wrBit CORE_GATE.GATE (r.core / 64) (r.core % 64) true).wr MG_CL.RET_CORES c (s.rd MG_CL.RET_CORES c + 1)
  if min 64 (max 1 (s.inf MG_SUS_CFG.CL_RETIRE)) < s.rd MG_CL.RET_CORES c then s.retireCluster c else s

/-- Gates of cores fenced in an earlier tick. -/
def State.closeGates (s : State) : State :=
  let due : Retired → Bool := fun r => !r.gated && match r.fenced with
    | some t => decide (t < s.tick)
    | none => false
  let l := s.mg.retired.filter due
  let s := s.setRetired (fun r => if due r then { r with gated := true } else r)
  l.foldl State.gateRetired s

/-- After a die step and after start-up: fence and gate of every retired core (R278). -/
def State.reassertRetired (s : State) : State :=
  let l := s.mg.retired
  let s := l.foldl (fun s r => s.wrBit CORE_FENCE.FENCE (r.core / 64) (r.core % 64) true) s
  let s := s.setRetired (fun r => { r with fenced := some (r.fenced.getD s.tick), oseq := none, gated := true })
  let s := l.foldl (fun s r => if r.gated then s.wrBit CORE_GATE.GATE (r.core / 64) (r.core % 64) true else s.gateRetired r) s
  (s.setMg (fun m => { m with postRetired := true })).showAwait

/-- The messages of the list of retired cores: at most 13 cores each, the number still to follow first (Table 14.6). -/
def retiredMessages : Nat → List Nat → List (List Nat)
  | 0, _ => []
  | n + 1, l => (l.length - 13) :: l.take 13 |> fun m => m :: (if l.length ≤ 13 then [] else retiredMessages n (l.drop 13))

/-- Post the list of retired cores (R278). -/
def State.postRetired (s : State) : State :=
  let l := s.mg.retired.map (fun r => r.core)
  let s := (retiredMessages (l.length + 1) l).foldl (fun s m => s.post 0 oRETIRED m) s
  s.setMg (fun m => { m with postRetired := false })

/-- One record of OTP at start-up (R267, R281). -/
def State.restoreRecord (s : State) (r : Nat × Nat) : State :=
  let w := r.1
  let c := bits 27 20 w
  let core := 64 * c + bits 19 14 w
  if recordCrc w r.2 != w % 256 || 192 ≤ c then s
  else match bits 31 28 w with
    | 1 => (s.wr MG_DLY.BASE c (bits 19 8 w)).setMgCl c (fun x => { x with base := true })
    | 2 =>
      let s := ((s.wr MG_CL.AGE c (bits 19 15 w)).wr MG_CL.SUS c (bits 14 11 w)).wr MG_CL.STATE c (bits 10 9 w)
      if w.testBit 8 then
        ((s.mg.sus.filterMap (fun e => e.2)).filter (fun x => x.core / 64 == c)).foldl (fun s x => s.freeEntry x.core) s
      else s
    | 3 =>
      if s.isRetiredCore core then s
      else (s.freeEntry core).setMg (fun m => { m with retired := m.retired ++ [{ core := core, ctx := r.2 / 2 ^ 16 }] })
    | 4 =>
      if s.isRetiredCore core || s.isSlowed core then s
      else match s.roomFor with
        | some i => (s.setSuspect i (some { core := core, slowed := true })).setMg
            (fun m => { m with slowCtx := Table.set 0 m.slowCtx core (r.2 / 2 ^ 16) })
        | none => s
    | _ => s

/-- Start-up (R267, R278): the records of OTP, the applied offsets, the fences of retired cores. -/
def State.restoreAgeing (s : State) : State :=
  let n := s.mg.otp.length
  let s := s.mg.otp.foldl State.restoreRecord s
  let s := (s.wr MG_OTP.USED 0 n).wr MG_OTP.FREE 0 (2048 - n)
  let s := upTo 192 (fun c s => if s.rd MG_CL.STATE c = cNORMAL then s.wr MG_CL.APPL c (s.offsetTarget c) else s) s
  s.showStates.reassertRetired

/-- ABOVE_COMMON (R282) and SLEWING (Table 10.6). -/
def State.showMargins (s : State) : State :=
  let above := match s.mg.image with
    | some im => (List.range 6).any (fun k =>
        let p := s.pointInForce k
        decide (at0 im.common p < at0 im.own p + 5 * s.sectorOffset k))
    | none => false
  (s.wrB MG_STAT.ABOVE_COMMON 0 above).wr MG_STAT.SLEWING 0 (s.clusters.filter s.rises).length

/-- The margin block at a tick boundary. -/
def State.marginBoundary (s : State) : State :=
  let s := s.clusters.foldl (fun s c =>
    let q := (sumOf ((s.sent c).delta.drop 1), s.on SNT_STAT.FEATHER c)
    s.setMgCl c (fun x => { x with quiet := (q :: x.quiet).take 16 })) s
  let s := if s.holdover then s else s.closeGates
  s.confirmOffsets.showMargins

end Sys2Proof.Machine
end

