-- ==== Sys2Proof/Machine/Recovery.lean ====
section
/-! DEFINITION. Hang detection and recovery (chapter 11): heartbeats, error codes, the escalation ladder, partition, die and
power steps, governor warm restarts, and the hang snapshot (R412). -/

namespace Sys2Proof.Machine

/-! ### Ladder states (Table 11.2) and error codes (R289, Table 11.1) -/

abbrev lIDLE : Nat := 0
abbrev lNOTICE : Nat := 1
abbrev lPARTITION : Nat := 2
abbrev lDIE : Nat := 3
abbrev lBOOT : Nat := 4
abbrev lPOWER : Nat := 5

abbrev srcDMPHB : Nat := 0x01
abbrev srcDMPBOOT : Nat := 0x02
abbrev srcHOST : Nat := 0x03
abbrev srcSVC : Nat := 0x04
abbrev srcPIN : Nat := 0x05
abbrev srcWDOG : Nat := 0x10
abbrev srcOVERRUN : Nat := 0x11
abbrev srcENGINE : Nat := 0x12
abbrev srcSTORM : Nat := 0x14
abbrev srcDIEREPEAT : Nat := 0x21

/-- An error code from LEVEL, SOURCE and DETAIL. -/
def errCode (level source detail : Nat) : Nat :=
  level * 2 ^ 28 + source % 256 * 2 ^ 20 + detail % 2 ^ 20

def State.ladder (s : State) : Nat :=
  s.rd RC_STAT.LADDER

/-- Collect one code (R290): the running firmware logs it at once, a restarted one as its first act. -/
def State.collectCode (s : State) (code : Nat) : State :=
  let s := s.wr RC_ERRLAST.CODE 0 code
  let s := if s.rd RC_ERRCODE.CODE = 0 then (s.wr RC_ERRCODE.CODE 0 code).wr RC_ERR_TICK.TICK 0 s.tick else s
  if s.holdover then s.setRc (fun r => { r with owed := true }) else s.errRecord code

/-! ### The hang snapshot (R412, Table 16.9) -/

/-- One bit for each of the naturals below `n` that satisfy `p`. -/
def bitsOf (n : Nat) (p : Nat → Bool) : Nat :=
  sumOf ((idx n p).map (fun i => 2 ^ i))

/-- Commands outstanding on an instance that reply at completion. -/
def State.outstanding (s : State) (inst : Nat) : Nat :=
  (s.cmd.out.filter (fun o => o.inst == inst)).length

/-- The words of a capture; `pc` is the program counter of the hub core. -/
def State.snapshotWords (s : State) (code cause pc : Nat) : List Nat :=
  let doms := idx 248 s.present
  let cnt := fun (p : Nat → Bool) => min 255 (doms.filter p).length
  [code,
   s.tick % 2 ^ 32,
   s.tick / 2 ^ 32 % 256 * 2 ^ 24 + cause * 2 ^ 16 + s.rd RC_WDOG.AGE,
   s.rd CAD_BUDGET.ENG_LAST * 2 ^ 16 + s.rd CAD_BUDGET.FW_LAST,
   s.rd FW_STAT.ACTIVE * 2 ^ 31 + pc,
   min 4 (s.cmd.queue.filter (fun e => e.1 == 31)).length * 2 ^ 29 + min 4 s.cmd.svcReplies.length * 2 ^ 26
     + min 8 (s.outstanding 31) * 2 ^ 22,
   bitsOf 16 (fun n => s.rd MB_CTL.RQ n != 0) * 2 ^ 16 + bitsOf 16 (fun n => s.on MB_CTL.GO n),
   bitsOf 15 (fun r => s.rd RING_STAT.OWED r != 0) * 2 ^ 16
     + bitsOf 15 (fun r => s.rd RING_SQ.HEAD r != s.rd RING_SQ.TAIL r),
   bitsOf 8 (fun k => (s.omb k).full) * 2 ^ 16 + bitsOf 8 (fun k => s.on OMB_STAT.AWAIT k) * 2 ^ 8
     + bitsOf 8 (fun k => s.rd OMB_STAT.QUEUED k != 0),
   s.tokensOut % 2 ^ 16 * 2 ^ 16 + cnt (fun n => s.on SWD_STAT.WAIT_SLOT n) * 2 ^ 8
     + cnt (fun n => (s.dom n).backoff.isSome),
   bitsOf 12 (fun g => (Table.get {} s.gl.groups g).out) * 2 ^ 16
     + bitsOf 12 (fun g => (s.groupDomains g).any (fun n => s.on SWD_STAT.WAIT_SLOT n)),
   bitsOf 10 (fun n => s.on DOM_STAT.PENDING n) * 2 ^ 16 + s.evqFill,
   s.ladder * 2 ^ 29 + s.rd RC_STAT.HOLDOVER * 2 ^ 28 + s.rd CAR_STAT.ROLE * 2 ^ 26,
   s.rd ENG_STAT.STATE * 2 ^ 30 + s.rd ENG_STAT.LD_RUN * 2 ^ 27 + s.rd ENG_STAT.OPEN * 2 ^ 23]

/-- One capture, or a miss while the words are frozen.  The program counter of the hub core is a free value. -/
def State.hangSnapshot (s : State) (code cause : Nat) : State :=
  if s.on HS_CTRL.FROZEN then s.incSat HS_CTRL.MISSED 0 1
  else
    let (pc, s) := s.takeFree 18
    let ws := s.snapshotWords code cause pc
    let s := upTo 14 (fun i s => s.wr HS_W.WORD i (at0 ws i)) s
    (s.wr HS_CTRL.FROZEN 0 1).raise .FW_HSNAP

/-! ### The power step (R295) -/

/-- Entry to POWER with `code`; a request of the service port asserts TRAY_REQ_N whatever AUTO_PWR holds. -/
def State.enterPower (s : State) (code : Nat) (svc : Bool := false) : State :=
  let s := ((s.collectCode code).hangSnapshot code 4).inc RC_CNT.POWER
  let s := (s.wr RC_STAT.LADDER 0 lPOWER).wr RC_STAT.STEP_PART 0 0
  let s := s.setRc (fun r => { r with step := none })
  if s.infOn RC_CTRL.AUTO_PWR || svc then (s.wr RC_STAT.TRAY_REQ 0 1).raise .RC_TRAY_REQ
  else s.wr RC_STAT.PWR_HELD 0 1

/-! ### Partition and die steps (R293, R294, R297) -/

/-- ABORT to every carrier of the peloton, in ascending number (R297). -/
def State.sendAborts (s : State) (code : Nat) : State :=
  if s.infOn RC_CTRL.ABORT_EN && s.on PEL_CTRL.JOIN then
    let m := s.rd RC_PEER_DMASK.DMASK
    let body := [s.rd PEL_CTRL.PEL_ID * 2 ^ 16, code, m % 2 ^ 32, m / 2 ^ 32]
    let cs := idx 256 (fun c => s.bit PEL_MASK.MASK (c % 32) (c / 32))
    let s := cs.foldl (fun s c =>
      let (f, s) := s.takeFree 10
      (s.sideband mABORT body c f).2) s
    s.raise .RC_ABORT_SENT
  else s

/-- The domains of a restore set among `l` (R293): ON, RAMP_UP, SETTLE or PEND = on, retired clusters excluded. -/
def State.restoreSet (s : State) (l : List Nat) : List Nat :=
  l.filter (fun n =>
    let st := s.dstate n
    (st == dON || st == dUP || st == dSETTLE || s.rd SWD_STAT.PEND n == 1)
      && !(isCluster n && s.rd MG_CL.STATE n == cRETIRED))

/-- STEP_NOTICE to the DMP and to the partition's controllers (Table 14.6). -/
def State.stepNotice (s : State) (code : Nat) (part : Option Nat) : State :=
  let ks := (List.range 8).filter (fun k => k == 0 || (match part with
    | some p => s.inf OMB_CFG.PART k == p
    | none => false))
  ks.foldl (fun s k => s.post k oSTEP [code]) s

/-- Assert the reset lines of every core of these clusters (R62). -/
def State.assertResets (s : State) (l : List Nat) : State :=
  l.foldl (fun s c => s.assertReset c (2 ^ 64 - 1)) s

def State.releaseResets (s : State) (l : List Nat) : State :=
  l.foldl (fun s c => s.wr CORE_RST.RST c 0) s

/-- Every domain of `l` that is not OFF is forced off. -/
def State.forceOffOn (s : State) (l : List Nat) : State :=
  s.forceOffAll (l.filter (fun n => s.dstate n != dOFF))

/-- Heartbeat supervision is disarmed (R286). -/
def State.disarmHb (s : State) : State :=
  (s.wr RC_STAT.HB_ARMED 0 0).wr RC_STAT.MISSES 0 0

/-- A die step (R294), or the power step in its place (R296). -/
def State.dieStep (s : State) (code : Nat) : State :=
  let recent := s.rc.dieAt.filter (fun t => decide (s.tick < t + 600000000))
  if s.inf RC_CFG2.DIE_MAX < recent.length + 1 then
    s.enterPower (errCode 5 srcDIEREPEAT (min recent.length 15 * 2 ^ 16))
  else
    let s := ((s.collectCode code).hangSnapshot code 3).inc RC_CNT.DIE
    let old := match s.rc.step with
      | some x => x.restore
      | none => []
    let set := s.restoreSet (idx 248 s.present)
    let set := set ++ old.filter (fun n => !set.contains n)
    let s := s.setRc (fun r => { r with
      dieAt := s.tick :: recent, held := [],
      step := some { part := none, restore := set, atA := s.tick + 1, code := code } })
    let s := ((s.wr RC_STAT.DIE_RECENT 0 (min 15 (recent.length + 1))).wr RC_STAT.LADDER 0 lDIE).wr RC_STAT.STEP_PART 0 0
    (((s.disarmHb).raise .RC_STEP_START).stepNotice code none).sendAborts code

/-- The clusters assigned to partition `p` (R219). -/
def State.clustersOf (s : State) (p : Nat) : List Nat :=
  s.clusters.filter (fun c => s.partOf c == some p)

/-- A partition step (R293). -/
def State.partitionStep (s : State) (p code : Nat) : State :=
  let cl := s.clustersOf p
  let s := ((s.collectCode code).hangSnapshot code 2).inc RC_CNT.PART
  let set := s.restoreSet cl
  let s := s.setRc (fun r => { r with
    missed := false, held := r.held ++ cl.filter (fun c => !r.held.contains c),
    step := some { part := some p, restore := set, begun := true, code := code } })
  let s := ((s.wr RC_STAT.LADDER 0 lPARTITION).wr RC_STAT.STEP_PART 0 p).raise .RC_STEP_START (arg0 p 0)
  let s := (s.stepNotice code (some p)).sendAborts code
  (s.assertResets cl).forceOffOn cl

/-- A request for a step with its code (R292, R347, Table 11.2). -/
def State.requestStep (s : State) (level code : Nat) (svc : Bool) : Nat × State :=
  let l := s.ladder
  if l = lPOWER then (stCONFLICT, s)
  else if level = 5 then (stOK, s.enterPower code svc)
  else if level = 4 then
    if l = lDIE then (stBUSY, s) else (stOK, s.dieStep code)
  else if l = lIDLE ∨ l = lNOTICE then
    if (s.clustersOf (code % 32)).isEmpty then (stCONFLICT, s) else (stOK, s.partitionStep (code % 32) code)
  else (stBUSY, s)

/-- The kind of a domain in the order of power-up (R294). -/
def powerKind (n : Nat) : Nat :=
  if isCluster n then 3 else if isLink n then 2 else if isStack n then 1 else 0

/-- A domain of the restore set leaves it; an inhibit's refusal is logged (R293). -/
def State.leaveSet (s : State) (n : Nat) : State :=
  let s := s.setRc (fun r => { r with step := r.step.map (fun x => { x with restore := x.restore.filter (· != n) }) })
  match s.onRefusal n with
  | some st => s.fwRec { sev := 3, block := 11, event := 0x85, arg0 := arg0 n 0, arg1 := st }
  | none => s

/-- The sequencer requests on domain `n` once its 5 µs in OFF have passed; a refused or cancelled domain leaves the set. -/
def State.restore1 (s : State) (n : Nat) : State :=
  match s.rc.step with
  | none => s
  | some x =>
    if x.asked.contains n then
      if s.dstate n == dOFF && s.rd SWD_STAT.PEND n != 1 && (s.dom n).backoff.isNone then s.leaveSet n else s
    else if s.dstate n == dOFF && s.offElapsed n then
      if (s.onRefusal n).isSome then s.leaveSet n
      else (s.setRc (fun r => { r with step := some { x with asked := n :: x.asked } })).requestOn n true
    else s

/-- Every domain of the restore set that `p` picks has entered ON after its request. -/
def Step.restored (x : Step) (s : State) (p : Nat → Bool) : Bool :=
  (x.restore.filter p).all (fun n => x.asked.contains n && s.dstate n == dON)

/-- At A: reset lines and forced offs (Table 11.3). -/
def State.dieBegin (s : State) (x : Step) : State :=
  let s := (s.assertResets s.clusters).forceOffOn (idx 248 s.present)
  s.setRc (fun r => { r with step := some { x with begun := true } })

/-- Every domain is OFF: fences, gates and COOL_STOP (Table 11.3). -/
def State.dieCleared (s : State) (x : Step) : State :=
  let s := s.clusters.foldl (fun s c => s.wr CORE_FENCE.FENCE c 0) s
  let s := s.reassertRetired
  let s := if s.on RIM_STAT.FLOW_GOOD_1S then s.wr RIM_STAT.COOL_STOP 0 0 else s
  s.setRc (fun r => { r with step := some { x with cleared := true } })

/-- The kinds in order: each starts once the one before it is ON (R294). -/
def State.dieKinds : Nat → State → State
  | 0, s => s
  | f + 1, s =>
    match s.rc.step with
    | none => s
    | some x =>
      if x.kind = 4 then s
      else
        let s := (x.restore.filter (fun n => powerKind n == x.kind)).foldl State.restore1 s
        match s.rc.step with
        | none => s
        | some x =>
          if x.restored s (fun n => powerKind n == x.kind) then
            State.dieKinds f (s.setRc (fun r => { r with step := some { x with kind := x.kind + 1 } }))
          else s

/-- The last domain of a die step has gone OFF: fences, gates and COOL_STOP follow at once (Table 11.3). -/
def State.allOff (s : State) : State :=
  match s.rc.step with
  | none => s
  | some x =>
    if x.part.isNone && x.begun && !x.cleared && (idx 248 s.present).all (fun n => s.dstate n == dOFF) then s.dieCleared x else s

/-- RAMP_DOWN_END (R89, R90, R294): OFF, and the slot is released. -/
def execRampDownEnd (n : Nat) (s : State) : Host.Outcome State Fault Refusal :=
  .next ((s.quiet.rampDownEnd n).allOff)

/-- The sequencer at a tick boundary. -/
def State.sequence (s : State) : State :=
  match s.rc.step with
  | none => s
  | some x =>
    match x.part with
    | some _ => x.restore.foldl State.restore1 s
    | none =>
      if !x.begun then (if x.atA ≤ s.tick then (s.dieBegin x).allOff else s)
      else if x.cleared then s.dieKinds 5
      else s

/-- A domain has been ON for one tick at this boundary. -/
def State.onForTick (s : State) (n : Nat) : Bool :=
  s.dstate n == dON && decide ((s.dom n).since + 10 ≤ s.rim.now)

/-- Reset lines asserted by a partition step are released one tick after their cluster enters ON (R293). -/
def State.releaseHeld (s : State) : State :=
  let l := s.rc.held.filter s.onForTick
  (s.releaseResets l).setRc (fun r => { r with held := r.held.filter (fun c => !l.contains c) })

/-- The notice of Table 11.2: the code the ladder would collect next, at the end of NOTICE_MS. -/
def State.openNotice (s : State) (at_ : Nat) : State :=
  let ms := (at_ + 1000 * s.inf RC_CFG.NOTICE_MS - s.rc.hbAt.getD 0) / 1000
  let s := (s.wr RC_STAT.LADDER 0 lNOTICE).setRc (fun r => { r with noticeAt := at_, missed := false })
  (s.post 0 oESCALATION [errCode 4 srcDMPHB (min ms 0xFFFFF)]).raise .RC_LADDER_OPEN

/-- PARTITION_STEP_DONE (R293): every domain of the restore set has reached ON or left the set. -/
def execPartitionStepDone (s : State) : Host.Outcome State Fault Refusal :=
  let s := s.quiet
  .next (match s.rc.step with
    | some x =>
      if x.part.isSome && x.restored s (fun _ => true) then
        let s := (s.setRc (fun r => { r with step := none })).wr RC_STAT.STEP_PART 0 0
        let s := if s.rc.missed then
            (s.wr RC_STAT.LADDER 0 lNOTICE).setRc (fun r => { r with noticeAt := s.tick, missed := false })
          else s.wr RC_STAT.LADDER 0 lIDLE
        s.raise .RC_STEP_DONE
      else s
    | none => s)

/-- DIE_STEP_DONE (R294, Table 11.3): every restore-set cluster has been ON for one tick. -/
def execDieStepDone (s : State) : Host.Outcome State Fault Refusal :=
  let s := s.quiet
  .next (match s.rc.step with
    | some x =>
      if x.part.isNone && x.cleared && x.kind == 4 && (x.restore.filter isCluster).all s.onForTick then
        let s := s.releaseResets s.clusters
        let s := (s.wr RC_STAT.LADDER 0 lBOOT).setRc (fun r => { r with step := none, bootAt := s.tick })
        s.raise .RC_STEP_DONE
      else s
    | none => s)

/-! ### Heartbeats (R285, R286) -/

/-- A write of RC_HB with `count`. -/
def State.heartbeat (s : State) (count : Nat) : State :=
  if s.rc.hbCount = some count then s.inc RC_HB_CNT.REPEAT
  else
    let s := s.setRc (fun r => { r with hbCount := some count, hbAt := some s.tick, missAt := s.tick, missed := false })
    let s := (s.wr RC_STAT.MISSES 0 0).wr RC_STAT.HB_AGE 0 0
    let l := s.ladder
    let s := if s.on RC_CTRL.HB_EN && l != lDIE then s.wr RC_STAT.HB_ARMED 0 1 else s
    let s := if l = lNOTICE then (s.wr RC_STAT.LADDER 0 lIDLE).raise .RC_HB_RESUMED
      else if l = lBOOT then s.wr RC_STAT.LADDER 0 lIDLE
      else s
    if s.mg.postRetired && l != lDIE then s.postRetired else s

/-- HB_MISS (R286): HB_MS without a valid heartbeat while supervision is armed; the second miss opens the ladder. -/
def execHbMiss (s : State) : Host.Outcome State Fault Refusal :=
  let s := s.quiet
  let due := s.rc.missAt + 1000 * s.inf RC_CFG.HB_MS
  .next (if s.on RC_STAT.HB_ARMED && decide (due ≤ s.tick) then
      let n := min 3 (s.rd RC_STAT.MISSES + 1)
      let first := decide (s.rd RC_STAT.MISSES = 1)
      let s := (s.wr RC_STAT.MISSES 0 n).inc RC_HB_CNT.MISSES
      let s := (s.setRc (fun r => { r with missAt := due })).raise .RC_HB_MISS
      if first && s.ladder == lIDLE then s.openNotice s.tick
      else if first && s.ladder == lPARTITION then s.setRc (fun r => { r with missed := true })
      else s
    else s)

/-- NOTICE_EXPIRY (R291): the die step, with the code of the silent DMP. -/
def execNoticeExpiry (s : State) : Host.Outcome State Fault Refusal :=
  let s := s.quiet
  .next (if s.ladder = lNOTICE ∧ s.rc.noticeAt + 1000 * s.inf RC_CFG.NOTICE_MS ≤ s.tick then
      s.dieStep (errCode 4 srcDMPHB (min ((s.tick - s.rc.hbAt.getD 0) / 1000) 0xFFFFF))
    else s)

/-- BOOT_EXPIRY (R291): no heartbeat within BOOT_MS of the die step. -/
def execBootExpiry (s : State) : Host.Outcome State Fault Refusal :=
  let s := s.quiet
  .next (if s.ladder = lBOOT ∧ s.rc.bootAt + 1000 * s.inf RC_CFG.BOOT_MS ≤ s.tick then
      s.enterPower (errCode 5 srcDMPBOOT (min ((s.tick - s.rc.bootAt) / 1000) 0xFFFFF))
    else s)

/-! ### Governor warm restart (R288, R300 to R303) -/

def State.slot (s : State) (k : Nat) : Slot :=
  if k = 0 then s.fw.slotA else s.fw.slotB

def State.setSlot (s : State) (k : Nat) (f : Slot → Slot) : State :=
  s.setFw (fun w => if k = 0 then { w with slotA := f w.slotA } else { w with slotB := f w.slotB })

def State.slotState (s : State) (k : Nat) : Nat :=
  if k = 0 then s.rd FW_SLOT_A.STATE else s.rd FW_SLOT_B.STATE

def State.slotGen (s : State) (k : Nat) : Nat :=
  if k = 0 then s.rd FW_SLOT_A.GEN else s.rd FW_SLOT_B.GEN

/-- Show a slot's state and the generation it holds: 0 EMPTY, 1 LOADING, 2 VALID. -/
def State.showSlot (s : State) (k st gen : Nat) : State :=
  if k = 0 then (s.wr FW_SLOT_A.STATE 0 st).wr FW_SLOT_A.GEN 0 gen
  else (s.wr FW_SLOT_B.STATE 0 st).wr FW_SLOT_B.GEN 0 gen

def Slot.bytes (x : Slot) : List Nat :=
  (List.range x.length).map (Table.get 0 x.mem)

/-- A slot the boot ROM's warm path may enter (R404): VALID, and its CRC-32 as recorded. -/
def State.slotPasses (s : State) (k : Nat) : Bool :=
  s.slotState k == 2 && crc32 (s.slot k).bytes == (s.slot k).crc

/-- The slot a warm restart enters (R404). -/
def State.selectSlot (s : State) : State :=
  let a := s.rd FW_STAT.ACTIVE
  let a := if s.on FW_STAT.TENTATIVE then 1 - a else a
  let s := s.wr FW_STAT.TENTATIVE 0 0
  let pick := if s.slotPasses a then some a else if s.slotPasses (1 - a) then some (1 - a) else none
  match pick with
  | some k => ((s.wr FW_STAT.ACTIVE 0 k).wr FW_STAT.GEN 0 (s.slotGen k)).wr FW_STAT.NO_FW 0 0
  | none => (s.wr FW_STAT.ACTIVE 0 a).wr FW_STAT.NO_FW 0 1

/-- What a warm restart clears (R302). -/
def State.clearForRestart (s : State) : State :=
  let s := { s with locks := {} }
  let s := (s.setRole 0).dropLease
  let s := ((s.wr PEL_OFS.OFS 0 0).wr PEL_STAT.OFS_VALID 0 0).setPel (fun p => { p with samples := [], exchanges := 0 })
  let s := upTo 10 (fun n s => ((s.wr DOM_AGE.AGE n 0).wr DOM_STAT.PENDING n 0).wr DOM_STAT.PROMOTED n 0) s
  let keepPos : Task → Task := fun t => { pos := t.pos }
  let s := s.setCad (fun c => { c with
    tasks := Table.mapAll {} keepPos c.tasks, engOvr := [], fwOvr := [], hubFault := false, fwCyc := 0, fwDone := false,
    abandoned := false, slackUsed := 0 })
  (s.setBg (fun b => { b with hints := [] })).showHints

/-- Loads in progress end at a warm restart: the slot or bank they were to fill is empty, and their commands are to be
answered with BUSY (R372, R401). -/
def State.abortLoads (s : State) : State :=
  let load : Outstanding → Bool := fun o => match o.wait with
    | .fwLoad _ _ _ => true
    | .imgLoad _ _ _ _ _ => true
    | _ => false
  let bank : Outstanding → Bool := fun o => match o.wait with
    | .imgLoad 0 _ _ _ _ => true
    | _ => false
  let img := s.cmd.out.any bank
  let s := s.setCmd (fun c => { c with out := c.out.map (fun o => if load o then { o with failed := some (0, stBUSY) } else o) })
  let s := upTo 2 (fun k s => if s.slotState k = 1 then s.showSlot k 0 0 else s) s
  if img then (s.setBank (1 - s.rd ENG_STAT.BANK) (fun _ => {})).wr ENG_STAT.INACT_VALID 0 0 else s

/-- A warm restart begins (R300). -/
def State.beginRestart (s : State) (source detail : Nat) : State :=
  let code := errCode 6 source detail
  let ts := s.tick :: s.rc.warmAt.filter (fun t => decide (s.tick < t + 1000000))
  let s := (s.hangSnapshot code 1).wr RC_STAT.HOLDOVER 0 1
  let s := s.collectCode code
  let s := (s.inc RC_CNT.WARM).wr RC_STAT.WR_COUNT 0 (min 15 ts.length)
  let storm := decide (s.inf RC_CFG2.WR_MAX < ts.length)
  let s := s.setRc (fun r => { r with warmAt := ts, storm := storm, wdog := false })
  let s := (s.wr GSTAT.READY 0 0).wr GSTAT.HOLDOVER 0 1
  let s := (s.wr ENG_STAT.STATE 0 0).safeCands
  let s := s.setEng (fun e => { e with running := false, staged := none })
  let s := s.setCmd (fun c => { c with ports := [] })
  let s := s.setFw (fun f => { f with published := false, readyOwed := false })
  let s := s.abortLoads.clearForRestart.cancelInhibited.selectSlot
  if storm && s.ladder != lPOWER then s.enterPower (errCode 5 srcSTORM (min ts.length 15 * 2 ^ 16)) else s

/-- WDOG_KICK (R287): the running firmware kicks the watchdog; the first kick arms it. -/
def execWdogKick (s : State) : Host.Outcome State Fault Refusal :=
  let s := s.quiet
  .next (if s.holdover then s
    else (s.setRc (fun r => { r with wdog := true, kickAt := s.tick })).wr RC_WDOG.AGE 0 0)

/-- WDOG_EXPIRY (R287). -/
def execWdogExpiry (s : State) : Host.Outcome State Fault Refusal :=
  let s := s.quiet
  .next (if s.rc.wdog && s.past s.rc.kickAt 2000 then s.beginRestart srcWDOG (s.rc.kickAt % 2 ^ 20) else s)

/-- ENG_FAULT_TIMEOUT (R187, R288): the engine has stayed in FAULT for ENG_MS. -/
def execEngFaultTimeout (s : State) : Host.Outcome State Fault Refusal :=
  let s := s.quiet
  .next (if s.rd ENG_STAT.STATE = 2 ∧ s.past s.eng.faultAt (1000 * s.inf RC_CFG2.ENG_MS) then
      s.beginRestart srcENGINE (s.eng.faultAddr % 4096)
    else s)

/-- HUB_FAULT_ESC (R33): the third overrun of one program within 1,000 ticks. -/
def execHubFaultEsc (s : State) : Host.Outcome State Fault Refusal :=
  let s := s.quiet
  let many := fun (l : List Nat) => decide (3 ≤ (l.filter (fun t => decide (s.tick < t + 1000))).length)
  let eng := many s.cad.engOvr
  .next (if eng || many s.cad.fwOvr then
      (s.raise .CAD_HUB_FAULT_ESC).beginRestart srcOVERRUN (if eng then 2 ^ 19 else 0)
    else s)

/-- GOV_RST_N_FALL (R288, R300): the firmware is held in reset while the pin stays low. -/
def execGovRstNFall (s : State) : Host.Outcome State Fault Refusal :=
  let s := s.quiet
  .next (if s.rc.rstLow then s else (s.setRc (fun r => { r with rstLow := true })).beginRestart srcPIN 0)

/-- GOV_RST_N_RISE (R300): the firmware is released. -/
def execGovRstNRise (s : State) : Host.Outcome State Fault Refusal :=
  .next (s.quiet.setRc (fun r => { r with rstLow := false }))

/-! ### Peer aborts (R298) -/

/-- The conditions for acting on an ABORT. -/
def State.takesAbort (ws : List Nat) (s : State) : Bool :=
  let h := at0 ws 0
  let mask := at0 ws 3 + at0 ws 4 * 2 ^ 32
  at0 ws 1 / 2 ^ 16 == s.rd PEL_CTRL.PEL_ID && s.on PEL_CTRL.JOIN && mask.testBit s.die &&
    !(hdrCar h == s.carrier && hdrDie h == s.die)

/-- An ABORT acted on. -/
def State.actAbort (ws : List Nat) (s : State) : State :=
  let h := at0 ws 0
  let code := at0 ws 2
  let s := ((s.wr RC_PEER_ABORT.CODE 0 code).wr RC_PEER_SRC.CARRIER 0 (hdrCar h)).wr RC_PEER_SRC.DIE 0 (hdrDie h)
  let s := s.post 0 oABORT [code, hdrCar h * 2 ^ 8 + hdrDie h]
  s.raiseLog .RC_PEER_ABORT (arg0 (hdrCar h) (hdrDie h)) code

/-- ABORT received on the sideband. -/
def execAbort (ws : List Nat) (s : State) : Host.Outcome State Fault Refusal :=
  let (f, s) := s.quiet.takeFree 10
  .next (s.sidebandIn mABORT ws f (State.takesAbort ws) (State.actAbort ws))

/-! ### The tick boundary -/

/-- Counts of the recovery block and the sequencer, at a tick boundary. -/
def State.rcBoundary (s : State) : State :=
  let s := if s.on RC_CLR.ERR then
      (((s.wr RC_ERRCODE.CODE 0 0).wr RC_ERRLAST.CODE 0 0).wr RC_ERR_TICK.TICK 0 0).wr RC_CLR.ERR 0 0
    else s
  let s := match s.rc.hbAt with
    | some t => s.wr RC_STAT.HB_AGE 0 (min 255 ((s.tick - t) / 1000))
    | none => s
  let s := s.wr RC_WDOG.AGE 0 (min 65535 (s.tick - s.rc.kickAt))
  let s := s.setRc (fun r => { r with
    dieAt := r.dieAt.filter (fun t => decide (s.tick < t + 600000000)),
    warmAt := r.warmAt.filter (fun t => decide (s.tick < t + 1000000)) })
  let s := (s.wr RC_STAT.DIE_RECENT 0 (min 15 s.rc.dieAt.length)).wr RC_STAT.WR_COUNT 0 (min 15 s.rc.warmAt.length)
  s.releaseHeld.sequence

end Sys2Proof.Machine
end

