-- ==== Sys2Proof/Machine/Meter.lean ====
section
/-! DEFINITION. The sealed meter (chapter 12): measurement, windows, publications, journal, power loss, seal, shares; and on the
governor's side the mirror receiver and the share buffer. -/

namespace Sys2Proof.Machine

/-! ### Quantities -/

/-- E_IN in µJ as the u64 the meter records (R309). -/
def Mtr.eIn (m : Mtr) : Nat :=
  ofSigned 64 (m.acc / 8000000000)

/-- The meter measures: VMTR is in range. -/
def Mtr.alive (m : Mtr) : Bool :=
  m.st != 0

abbrev mUNCAL : Nat := 1
abbrev mRUN : Nat := 2
abbrev mFAULT : Nat := 3
abbrev mROMFAULT : Nat := 4

/-- The ROM CRC-32 of release 7.1.0 (R308). -/
abbrev romCrc710 : Nat := 0x3C7A1E95

/-! ### The journal (R314 to R317) -/

/-- Event types of R352. -/
abbrev eSEALBREAK : Nat := 1
abbrev eCALCOMMIT : Nat := 2
abbrev eFAULT : Nat := 3
abbrev eFAULTCLEAR : Nat := 4
abbrev eROMFAULT : Nat := 5
abbrev eGAP : Nat := 6
abbrev eINHENTRY : Nat := 7
abbrev eINHEXIT : Nat := 8
abbrev eSHARETOL : Nat := 9
abbrev eSHAREUNATT : Nat := 10

/-- A record: 60 bytes, and their CRC-32 in bytes 60 to 63, least significant byte first (R314). -/
def sealRecord (bs : List Nat) : List Nat :=
  let b := (bs ++ List.replicate 60 0).take 60
  b ++ bytesLE 4 (crc32 b)

/-- The 64 bytes of record `r`. -/
def Journal.bytes (j : Journal) (r : Nat) : List Nat :=
  Table.get blankRecord j.mem r

def Journal.put (j : Journal) (r : Nat) (bs : List Nat) : Journal :=
  { j with mem := Table.set blankRecord j.mem r bs }

/-- The 60 bytes of a record that passes its CRC. -/
def Journal.read (j : Journal) (r : Nat) : Option (List Nat) :=
  let b := j.bytes r
  if ofBytesLE (b.drop 60) = crc32 (b.take 60) then some (b.take 60) else none

/-- `n` bytes of a record from byte `off`, least significant first. -/
def leAt (bs : List Nat) (off n : Nat) : Nat :=
  ofBytesLE ((bs.drop off).take n)

/-- Write one record: WREN, then WRITE with the address and the bytes (R314). -/
def Mtr.put (m : Mtr) (r : Nat) (bs : List Nat) : Mtr :=
  { m with journal := m.journal.put r bs, writes := m.writes ++ [(r, m.journal.bytes r, bs)] }

/-- The two transactions of a record write on the MSPI pins. -/
def mspiWrite (r : Nat) (bs : List Nat) : List Emission :=
  [.mspi [0x06], .mspi (0x02 :: bytesBE 3 (64 * r) ++ bs)]

/-- A step of the meter, and what its record writes drive on the MSPI pins. -/
def State.meter (s : State) (f : Mtr → Mtr) : State :=
  let s := s.setMtr (fun m => f { m with writes := [] })
  (s.mtr.writes.flatMap (fun w => mspiWrite w.1 w.2.2)).foldl State.drive s

/-! The layouts of the partition, header, calibration and event records are the model's (DESIGN CHOICE, log entry 116);
that of the die record is Table 12.4's. -/

/-- The event record with sequence number `seq`. -/
def JEvent.bytes (e : JEvent) : List Nat :=
  bytesLE 4 e.seq ++ bytesLE 4 e.type ++ bytesLE 8 e.mtime ++ bytesLE 4 e.cseq ++ bytesLE 4 e.data0 ++ bytesLE 4 e.data1 ++
    bytesLE 4 e.data2

def JEvent.ofBytes (bs : List Nat) : JEvent :=
  { seq := leAt bs 0 4, type := leAt bs 4 4, mtime := leAt bs 8 8, cseq := leAt bs 16 4, data0 := leAt bs 20 4,
    data1 := leAt bs 24 4, data2 := leAt bs 28 4 }

/-- The record of the ring that sequence number `seq` takes. -/
def ringRecord (seq : Nat) : Nat :=
  64 + seq % 1984

/-- Write an event into the ring. -/
def Mtr.writeEvent (m : Mtr) (e : JEvent) : Mtr :=
  { m.put (ringRecord m.ringNext) (sealRecord { e with seq := m.ringNext }.bytes) with
    ringNext := (m.ringNext + 1) % 2 ^ 32 }

/-- Journal an event: at once while the window is open, when it opens again otherwise. -/
def Mtr.event (m : Mtr) (type : Nat) (d0 d1 d2 : Nat := 0) : Mtr :=
  let e : JEvent := { type := type, mtime := m.mtime, cseq := m.cseq, data0 := d0, data1 := d1, data2 := d2 }
  if m.window then m.writeEvent e else { m with waiting := m.waiting ++ [e] }

/-- The event at an index, 0 the newest, if its record holds it. -/
def Mtr.eventAt (m : Mtr) (i : Nat) : Option JEvent :=
  let seq := (m.ringNext + 2 ^ 32 - 1 - i) % 2 ^ 32
  (m.journal.read (ringRecord seq)).bind (fun bs =>
    let e := JEvent.ofBytes bs
    if e.seq = seq then some e else none)

/-- The mean power of the interval since the last checkpoint, 0.25 W (Table 12.4). -/
def Mtr.ckMean (m : Mtr) : Nat :=
  let d : Int := ((2 * m.ckN * 250000000000 : Nat) : Int)
  if m.ckN = 0 then 0 else ofSigned 16 ((2 * m.ckP + d) / (2 * d))

/-- An account as a partition record holds it: breach totals in ms, modulo 2^32. -/
def Acct.stored (a : Acct) : Acct :=
  { a with safety := a.safety / 1000 % 2 ^ 32, dropSafe := a.dropSafe / 1000 % 2 ^ 32,
           dropMeter := a.dropMeter / 1000 % 2 ^ 32 }

def Acct.restored (a : Acct) : Acct :=
  { a with safety := a.safety * 1000, dropSafe := a.dropSafe * 1000, dropMeter := a.dropMeter * 1000 }

/-- The die record and the accounts as they stand. -/
def Mtr.record (m : Mtr) (cseq : Nat) (pfw : Bool) : Ckpt :=
  { cseq := cseq, mtime := m.mtime, eIn := m.eIn, unatt := m.unatt, eRef := m.eRef, pseqRef := m.pseqRef,
    breaks := m.breaks, ckseq := m.ckseqLast, pfw := pfw, faulted := m.faulted, sealOpen := m.sealOpen,
    uncal := m.st == mUNCAL, st := m.st, pMean := m.ckMean, bootLast := m.bootLast,
    accts := m.accts.map (fun e => (e.1, e.2.stored)) }

/-- The die record of a checkpoint (Table 12.4). -/
def Ckpt.dieBytes (c : Ckpt) : List Nat :=
  bytesLE 4 c.cseq ++ bytesLE 8 c.mtime ++ bytesLE 8 c.eIn ++ bytesLE 8 c.unatt ++ bytesLE 8 c.eRef ++ bytesLE 4 c.pseqRef ++
    bytesLE 4 c.breaks ++ bytesLE 2 c.ckseq ++
    [b2n c.pfw + 2 * b2n c.faulted + 4 * b2n c.sealOpen + 8 * b2n c.uncal, c.st % 256] ++
    bytesLE 8 c.pMean ++ bytesLE 4 c.bootLast

def Ckpt.ofDie (bs : List Nat) : Ckpt :=
  let f := leAt bs 46 1
  { cseq := leAt bs 0 4, mtime := leAt bs 4 8, eIn := leAt bs 12 8, unatt := leAt bs 20 8, eRef := leAt bs 28 8,
    pseqRef := leAt bs 36 4, breaks := leAt bs 40 4, ckseq := leAt bs 44 2, pfw := f.testBit 0, faulted := f.testBit 1,
    sealOpen := f.testBit 2, uncal := f.testBit 3, st := leAt bs 47 1, pMean := leAt bs 48 2, bootLast := leAt bs 56 4 }

def Acct.bytes (a : Acct) : List Nat :=
  bytesLE 8 a.energy ++ bytesLE 4 a.safety ++ bytesLE 4 a.dropSafe ++ bytesLE 4 a.dropMeter

def Acct.ofBytes (bs : List Nat) : Acct :=
  { energy := leAt bs 0 8, safety := leAt bs 8 4, dropSafe := leAt bs 12 4, dropMeter := leAt bs 16 4 }

/-- Partition record `q`: CSEQ, and the accounts of partitions 2q and 2q + 1. -/
def Ckpt.partBytes (c : Ckpt) (q : Nat) : List Nat :=
  bytesLE 4 c.cseq ++ (Table.get {} c.accts (2 * q)).bytes ++ (Table.get {} c.accts (2 * q + 1)).bytes

/-- The first record of a state slot: A (0) or B (1). -/
def slotBase (k : Nat) : Nat :=
  if k = 0 then 8 else 32

/-- Write a captured checkpoint into the slot that does not hold the newest complete one, the partition records first and the
die record last (R315). -/
def Mtr.writeSlot (m : Mtr) (c : Ckpt) : Mtr :=
  let k := 1 - m.ckLast
  let m := upTo 16 (fun q m => m.put (slotBase k + q) (sealRecord (c.partBytes q))) m
  { m.put (slotBase k + 16) (sealRecord c.dieBytes) with ckLast := k }

/-- The checkpoint of a slot whose 17 records pass their CRC and carry one CSEQ (R316). -/
def Journal.slot (j : Journal) (k : Nat) : Option Ckpt :=
  match j.read (slotBase k + 16), (List.range 16).mapM (fun q => j.read (slotBase k + q)) with
  | some d, some ps =>
    if ps.all (fun b => leAt b 0 4 == leAt d 0 4) then
      let accts := ps.flatMap (fun b => [Acct.ofBytes ((b.drop 4).take 20), Acct.ofBytes ((b.drop 24).take 20)])
      some { Ckpt.ofDie d with accts := upTo 32 (fun p t => Table.set {} t p (accts.getD p {})) [] }
    else none
  | _, _ => none

/-- The tail record in location 0 or 1 (records 56 and 57), if it passes its CRC. -/
def Journal.tail (j : Journal) (k : Nat) : Option Ckpt :=
  (j.read (56 + k)).map Ckpt.ofDie

/-- Capture a checkpoint, and write it while the window is open (R315, R317). -/
def Mtr.checkpoint (m : Mtr) (pfw : Bool) : Mtr :=
  let n := (m.cseq + 1) % 2 ^ 32
  let c := m.record n pfw
  let m := { m with cseq := n, ckP := 0, ckN := 0 }
  if m.window then { m.writeSlot c with captured := none } else { m with captured := some c }

/-- A tail record into the older of the two tail locations (R318). -/
def Mtr.tail (m : Mtr) : Mtr :=
  if !m.window then m
  else { m.put (56 + m.tailNext) (sealRecord (m.record m.cseq true).dieBytes) with tailNext := 1 - m.tailNext }

/-! ### Calibration (R321, R352) -/

/-- What a calibration item holds that nothing has written: gain 1, offset 0, a shunt of 0.5 mΩ (DESIGN CHOICE, log
entry 116). -/
def calDefault (k : Nat) : Nat :=
  if k = 8 then 500000 else if k % 2 = 0 then 2 ^ 30 else 0

def Cal.item (c : Cal) (k : Nat) : Nat :=
  Table.get (calDefault k) c.items k

def Cal.set (c : Cal) (k v : Nat) : Cal :=
  { c with items := Table.set (calDefault k) c.items k v }

/-- A converter's reading with its offset taken off and its gain applied, in 2^-30 codes; channel 0 voltage, 1 current. -/
def Cal.reading (c : Cal) (pair ch : Nat) (code : Int) : Int :=
  (code - toSigned 32 (c.item (4 * pair + 2 * ch + 1))) * c.item (4 * pair + 2 * ch)

/-- The voltage in µV: 2^24 codes are 64 V. -/
def Cal.volts (c : Cal) (pair : Nat) (code : Int) : Int :=
  c.reading pair 0 code * 64000000 / 2 ^ 54

/-- The current in µA through the shunt: 2^24 codes are 62.5 mV. -/
def Cal.amps (c : Cal) (pair : Nat) (code : Int) : Int :=
  c.reading pair 1 code * 62500000000000 / (2 ^ 54 * (c.item 8 : Int))

/-- Record `i` (0 or 1) of a calibration copy: the gains and offsets of pair `i`, the shunt value, TOL and CAL_GEN. -/
def Cal.bytes (c : Cal) (gen i : Nat) : List Nat :=
  (List.range 4).flatMap (fun q => bytesLE 4 (c.item (4 * i + q))) ++ bytesLE 4 (c.item 8) ++ bytesLE 2 c.tol ++ bytesLE 2 gen

/-- Both calibration copies, A then B (R321). -/
def Mtr.writeCal (m : Mtr) (c : Cal) : Mtr :=
  { upTo 4 (fun r m => m.put (1 + r) (sealRecord (c.bytes m.calGen (r % 2)))) m with calDue := false }

/-- The calibration copy whose two records lie at `r`, with its CAL_GEN, if both pass their CRC and carry one CAL_GEN. -/
def Journal.calCopy (j : Journal) (r : Nat) : Option (Cal × Nat) :=
  match j.read r, j.read (r + 1) with
  | some a, some b =>
    if leAt a 22 2 = leAt b 22 2 then
      let c : Cal := { tol := leAt a 20 2 }
      let c := upTo 4 (fun q c => (c.set q (leAt a (4 * q) 4)).set (4 + q) (leAt b (4 * q) 4)) c
      some (c.set 8 (leAt a 16 4), leAt a 22 2)
    else none
  | _, _ => none

/-- The calibration the journal holds: copy A, else copy B. -/
def Journal.cal (j : Journal) : Option (Cal × Nat) :=
  match j.calCopy 1 with
  | some c => some c
  | none => j.calCopy 3

/-- The serial number of a header that passes its CRC. -/
def Journal.header (j : Journal) : Option Nat :=
  (j.read 0).map (fun b => leAt b 0 4)

/-- The journal of a commissioned meter (R321): the header, and no checkpoint or tail of before. -/
def Mtr.initJournal (m : Mtr) (mtime : Nat) : Mtr :=
  let m := m.put 0 (sealRecord (bytesLE 4 m.serial ++ bytesLE 4 1 ++ bytesLE 8 mtime))
  { [24, 40, 56, 57].foldl (fun m r => m.put r blankRecord) m with initDue := none }

/-! ### Measurement (R309, R311) -/

/-- The current of a converter code in µA; a shunt value of 0, which CAL_WRITE admits, gives none: a free value. -/
def State.meterAmps (s : State) (pair : Nat) (code : Int) : Int × State :=
  if s.mtr.cal.item 8 = 0 then
    let (v, s) := s.takeFree 27
    (v, s)
  else (s.mtr.cal.amps pair code, s)

/-- A sample in which the pairs read `v0`, `v1` µV and `i0`, `i1` µA, at `temp`; in PFW mode the checkpoint and the tail records
follow samples (R318). -/
def Mtr.sample (x : Mtr) (v0 i0 v1 i1 temp : Int) : Mtr :=
  let p := v0 * i0 + v1 * i1
  let x := { x with
    acc := x.acc + p, sumI := x.sumI + i0 + i1, sumP := x.sumP + p, sumV := x.sumV + v0 + v1,
    e0 := x.e0 + v0 * i0, e1 := x.e1 + v1 * i1, ckP := x.ckP + p, samples := x.samples + 1,
    msN := x.msN + 1, winN := x.winN + 1, ckN := x.ckN + 1, temp := temp }
  if !x.pfw then x
  else if x.pfwTail then x.tail
  else { x.checkpoint true with pfwTail := true }

/-- METER_SAMPLE (R309): every 250 µs, the codes of the four converters. -/
def execMeterSample (m : MeterIn) (s : State) : Host.Outcome State Fault Refusal :=
  let s := s.quiet
  .next (if s.mtr.alive then
      let c := s.mtr.cal
      let (i0, s) := s.meterAmps 0 m.i0
      let (i1, s) := s.meterAmps 1 m.i1
      s.meter (fun x => x.sample (c.volts 0 m.v0) i0 (c.volts 1 m.v1) i1 m.temp)
    else s)

/-- The pairs disagree over a window: |E0 − E1| > 0.2% of the largest of E0, E1 and 120 J (R311). -/
def Mtr.disagrees (m : Mtr) : Bool :=
  decide (max (max m.e0 m.e1) 480000000000000000 < 500 * ((m.e0 - m.e1).natAbs : Int))

/-- Initialise the journal: at once while the window is open, when it opens again otherwise (R317). -/
def Mtr.initOnce (m : Mtr) (mtime : Nat) : Mtr :=
  if m.window then m.initJournal mtime else { m with initDue := some mtime }

/-- A committed calibration takes effect; from UNCAL the journal is initialised and E_IN starts from 0 (R321, Table 12.1). -/
def Mtr.applyCommit (m : Mtr) : Mtr :=
  match m.commit with
  | none => m
  | some c =>
    let m := { m with cal := c, commit := none, agree := 0 }
    if m.st = mUNCAL then
      { m with
        st := mRUN, acc := 0, mtime := 0, unatt := 0, accts := [], eRef := 0, pseqRef := m.pseq, held := [(m.pseq, 0)],
        ckP := 0, ckN := 0, captured := none }.initOnce m.mtime
    else m

/-- The state after a window's comparison and ROM check (Table 12.1). -/
def Mtr.windowState (m : Mtr) (crc : Nat) : Mtr :=
  let bad := m.disagrees
  let m := { m with e0 := 0, e1 := 0, winN := 0, faulted := bad, romCrc := crc }
  let m := if bad then
      let m := { m with agree := 0 }
      if m.st = mRUN then { m with st := mFAULT }.event eFAULT else m
    else
      let m := { m with agree := m.agree + 1 }
      if m.st = mFAULT ∧ 10 ≤ m.agree then { m with st := mRUN }.event eFAULTCLEAR else m
  if crc ≠ romCrc710 ∧ m.st ≠ mROMFAULT then { m with st := mROMFAULT }.event eROMFAULT else m

/-- METER_WINDOW (R311): the end of a 1 s window. -/
def execMeterWindow (crc : Nat) (s : State) : Host.Outcome State Fault Refusal :=
  let s := s.quiet
  .next (if s.mtr.alive && decide (4000 ≤ s.mtr.winN) then s.meter (fun m => (m.windowState crc).applyCommit) else s)

/-! ### Publications (R312) -/

/-- Publication word 5. -/
def Mtr.flags (m : Mtr) : Nat :=
  let f := fun (b : Bool) (i : Nat) => if b then 2 ^ i else 0
  f (m.st == mRUN) 31 + f (m.st == mFAULT || (m.faulted && m.samples % 4000 == 0)) 30 + f (m.gapLeft != 0) 29
    + f m.sealOpen 28 + f m.window 27 + f m.pfw 26 + f (m.st == mUNCAL) 25 + f (m.st == mROMFAULT) 24
    + m.shrRes % 4 * 2 ^ 22 + m.ckseqLast % 2 ^ 16

/-- Words 0 to 8 of the publication with sequence number `m.pseq`. -/
def Mtr.words (m : Mtr) : List Nat :=
  let e := m.eIn
  [m.pseq, e % 2 ^ 32, e / 2 ^ 32, m.meanI * 2 ^ 16 + m.meanP, m.meanV, m.flags,
   min m.breaks 0xFFFF * 2 ^ 16 + m.calGen % 2 ^ 16, m.romCrc, m.serial]

/-- A mean in its field's unit; a value the field has no code for is a free value (log entry 45). -/
def State.meterMean (s : State) (sum : Int) (n unit w : Nat) : Nat × State :=
  let d : Int := ((2 * n * unit : Nat) : Int)
  let v := (2 * sum + d) / (2 * d)
  if 0 ≤ v ∧ v < 2 ^ w then (v.toNat, s) else s.takeFree w

/-- METER_PUBLISH (R312): the end of a millisecond of meter time. -/
def execMeterPublish (s : State) : Host.Outcome State Fault Refusal :=
  let s := s.quiet
  let m := s.mtr
  .next (if m.alive && decide (4 ≤ m.msN) then
      let (i, s) := s.meterMean m.sumI m.msN 125000 16
      let (p, s) := s.meterMean m.sumP m.msN 250000000000 16
      let (v, s) := s.meterMean m.sumV m.msN 1000 32
      let n := (m.pseq + 1) % 2 ^ 32
      let s := s.meter (fun m => { m with
        meanI := i, meanP := p, meanV := v, sumI := 0, sumP := 0, sumV := 0, msN := 0, mtime := m.mtime + 1, pseq := n,
        held := ((n, m.eIn) :: m.held).take 256 })
      let ws := s.mtr.words
      (s.drive (.publish (ws ++ [crc32 (wordsLE ws)]))).setMtr (fun m => { m with gapLeft := m.gapLeft - 1 })
    else s)

/-! ### Checkpoints, power loss and power-up (R315 to R319) -/

/-- METER_CHECKPOINT (R315): every 400th sample, but for PFW mode. -/
def execMeterCheckpoint (s : State) : Host.Outcome State Fault Refusal :=
  let s := s.quiet
  .next (if s.mtr.alive && !s.mtr.pfw && s.mtr.samples % 400 == 0 && s.mtr.ckN != 0 then
      s.meter (fun m => m.checkpoint false)
    else s)

/-- PFW (R318): PFW_N has fallen. -/
def execPfw (s : State) : Host.Outcome State Fault Refusal :=
  let s := s.quiet
  .next (if s.mtr.alive && !s.mtr.pfw then s.meter (fun m => { m with pfw := true, pfwTail := false }) else s)

/-- PFW_END (R318): PFW_N has been high for 10 ms. -/
def execPfwEnd (s : State) : Host.Outcome State Fault Refusal :=
  .next (s.quiet.meter (fun m => { m with pfw := false, pfwTail := false }))

/-- The journal where the power was lost in the last command's writes, after `k` records and `n` bytes of the next one: the
writes from there on have not happened, but for those bytes (R316, R319). -/
def Mtr.torn (m : Mtr) (k n : Nat) : Journal :=
  let j := ((m.writes.drop k).reverse).foldl (fun j w => j.put w.1 w.2.1) m.journal
  match (m.writes.drop k) with
  | [] => j
  | w :: _ => j.put w.1 (w.2.2.take n ++ w.2.1.drop n)

/-- VMTR_LOSS (R319): the meter goes off; the journal device and the serial remain.  `torn` says how far the writes of the
meter's last command have come, if the loss interrupts them. -/
def execVmtrLoss (torn : Option (Nat × Nat)) (s : State) : Host.Outcome State Fault Refusal :=
  let s := s.quiet
  .next (if s.mtr.alive then
      s.setMtr (fun m =>
        { journal := (match torn with
            | some t => m.torn t.1 t.2
            | none => m.journal), serial := m.serial })
    else s)

/-- `a` is the newer of two checkpoints by CSEQ (Table 12.4). -/
def Ckpt.newer (a b : Ckpt) : Bool :=
  serialNewer 32 a.cseq b.cseq

/-- `a` is the later of two tail records: by MTIME, and within one millisecond by E_IN (DEDUCED, log entry 116). -/
def Ckpt.later (a b : Ckpt) : Bool :=
  decide (b.mtime < a.mtime) || (a.mtime == b.mtime && serialNewer 64 a.eIn b.eIn)

/-- The slot to be restored: the newer complete one (R316). -/
def Journal.newestSlot (j : Journal) : Option Nat :=
  match j.slot 0, j.slot 1 with
  | none, none => none
  | some _, none => some 0
  | none, some _ => some 1
  | some a, some b => some (if b.newer a then 1 else 0)

/-- The newest complete state, and whether a tail record replaces its E_IN and MTIME (R316). -/
def Journal.restore (j : Journal) : Option (Ckpt × Bool) :=
  (j.newestSlot.bind j.slot).map (fun c =>
    let fits := fun (x : Option Ckpt) => x.filter (fun t => t.cseq == c.cseq && decide (c.mtime < t.mtime))
    let t := match fits (j.tail 0), fits (j.tail 1) with
      | some a, some b => some (if a.later b then a else b)
      | some a, none => some a
      | none, b => b
    match t with
    | some t => ({ c with eIn := t.eIn, mtime := t.mtime }, true)
    | none => (c, false))

/-- The seal-break count of the newest readable die record (R316). -/
def Journal.breaks (j : Journal) : Nat :=
  match ([24, 40, 56, 57].filterMap (fun r => (j.read r).map Ckpt.ofDie)) with
  | [] => 0
  | c :: l => (l.foldl (fun a b => if b.newer a || (b.cseq == a.cseq && b.later a) then b else a) c).breaks

/-- The event records that pass their CRC. -/
def Journal.events (j : Journal) : List JEvent :=
  j.mem.filterMap (fun r => if 64 ≤ r.1 then (j.read r.1).map JEvent.ofBytes else none)

/-- The newest of the events that `p` picks, by ring sequence number. -/
def Journal.newest (j : Journal) (p : JEvent → Bool) : Option JEvent :=
  j.events.foldl (fun a e => if !p e then a else match a with
    | none => some e
    | some x => if serialNewer 32 e.seq x.seq then some e else a) none

/-- The ring's newest inhibit event is an INHIBIT_ENTRY. -/
def Journal.inhibited (j : Journal) : Bool :=
  match j.newest (fun e => e.type == eINHENTRY || e.type == eINHEXIT) with
  | some e => e.type == eINHENTRY
  | none => false

/-- The meter with its restored state (R316). -/
def Mtr.restored (m : Mtr) (c : Ckpt) : Mtr :=
  { m with acc := (c.eIn : Int) * 8000000000, mtime := c.mtime, unatt := c.unatt, eRef := c.eRef, pseqRef := c.pseqRef,
           ckseqLast := c.ckseq, bootLast := c.bootLast, cseq := c.cseq, breaks := c.breaks, accts := c.accts.map (fun e => (e.1, e.2.restored)) }

/-- A GAP event unless the state restored is a PFW checkpoint or a tail record (R319). -/
def Mtr.gap (m : Mtr) (c : Ckpt) (tail : Bool) : Mtr :=
  if c.pfw || tail then m
  else { m.event eGAP 400000000 (25000 * c.pMean) (b2n m.journal.inhibited) with gapLeft := 1000 }

/-- The meter as power-up finds it: UNCAL, with what its journal device `j` says of its ring, slots, tails and calibration. -/
def Mtr.started (j : Journal) (serial pseq crc : Nat) : Mtr :=
  let cal := j.cal
  { journal := j, serial := serial, pseq := pseq, romCrc := crc, st := mUNCAL, breaks := j.breaks, window := !j.inhibited,
    ckLast := j.newestSlot.getD 1,
    tailNext := (match j.tail 0, j.tail 1 with
      | some a, some b => if a.later b then 1 else 0
      | some _, none => 1
      | none, _ => 0),
    ringNext := (match j.newest (fun _ => true) with
      | some e => (e.seq + 1) % 2 ^ 32
      | none => 0),
    staged := (cal.map (·.1)).getD {}, cal := (cal.map (·.1)).getD {}, calGen := (cal.map (·.2)).getD 0 }

/-- METER_POWER_UP (R316, Table 12.1): `crc` is the ROM CRC; `device` the content of another journal device fitted while the
meter was off.  PSEQ and the type of the event for a lost state are free values. -/
def execMeterPowerUp (crc : Nat) (device : Option (List (Nat × List Nat))) (s : State) : Host.Outcome State Fault Refusal :=
  let s := s.quiet
  .next (if s.mtr.alive then s
    else
      let (pseq, s) := s.takeFree 32
      let (ty, s) := s.takeFree 32
      let j : Journal := match device with
        | some l => l.foldl (fun j r => j.put r.1 r.2) {}
        | none => s.mtr.journal
      let m := Mtr.started j s.mtr.serial pseq crc
      s.meter (fun _ =>
        let m := match j.header with
          | none => m
          | some h =>
            if h ≠ m.serial then { m with breaks := min (m.breaks + 1) 0xFFFFFFFF }
            else match j.restore with
              | none => m.event ty
              | some (c, tail) =>
                let m := (m.restored c).gap c tail
                if j.cal.isSome then { m with st := mRUN } else m
        if crc = romCrc710 then m else { m with st := mROMFAULT }.event eROMFAULT))

/-! ### Seal and journal window (R317, R320) -/

/-- SEAL_BREAK (R320): METSEAL_N has been low for 10 ms. -/
def execSealBreak (s : State) : Host.Outcome State Fault Refusal :=
  let s := s.quiet
  .next (if s.mtr.alive && !s.mtr.sealOpen then
      s.meter (fun m => { m with breaks := min (m.breaks + 1) 0xFFFFFFFF, sealOpen := true }.event eSEALBREAK)
    else s)

/-- SEAL_RESTORE (R320): METSEAL_N has been high for 10 ms. -/
def execSealRestore (s : State) : Host.Outcome State Fault Refusal :=
  .next (s.quiet.meter (fun m => { m with sealOpen := false }))

/-- INHIBIT_ENTRY (R317): the temperature has left +1 °C to +84 °C; the event is the last journal write. -/
def execInhibitEntry (s : State) : Host.Outcome State Fault Refusal :=
  let s := s.quiet
  .next (if s.mtr.alive && s.mtr.window && (decide (s.mtr.temp < 16) || decide (1344 < s.mtr.temp)) then
      s.meter (fun m => { m.event eINHENTRY with window := false })
    else s)

/-- INHIBIT_EXIT (R317): the temperature is back in +2 °C to +83 °C; the event, then a commissioning that waited, the newest
captured checkpoint, and what else waited. -/
def execInhibitExit (s : State) : Host.Outcome State Fault Refusal :=
  let s := s.quiet
  .next (if s.mtr.alive && !s.mtr.window && decide (32 ≤ s.mtr.temp) && decide (s.mtr.temp ≤ 1328) then
      s.meter (fun m =>
        let m := { m with window := true }.event eINHEXIT
        let m := match m.initDue with
          | some t => m.initJournal t
          | none => m
        let m := match m.captured with
          | some c => { m.writeSlot c with captured := none }
          | none => m
        let m := { m.waiting.foldl Mtr.writeEvent m with waiting := [] }
        if m.calDue then m.writeCal (m.commit.getD m.cal) else m)
    else s)

/-! ### Apportioned shares (R324 to R326) -/

/-- The words of a share record in the order in which R324 lists them, wider values low half first (log entry 116). -/
def ShareRec.words (r : ShareRec) : List Nat :=
  let d := fun (v : Nat) => [v % 2 ^ 32, v / 2 ^ 32 % 2 ^ 32]
  [r.boot, r.ckseq] ++ d r.tick ++ [r.pseqLast] ++ d r.dDie ++ d r.dIn ++
    (List.range 32).flatMap (fun p => d (at0 r.dPart p)) ++ d r.dUnatt ++
    (List.range 32).flatMap (fun p =>
      let b := r.breach.getD p {}
      [b.safety, b.dropSafe, b.dropMeter])

/-- The CRC-32 over a record's words, each least significant byte first. -/
def ShareRec.crcOf (r : ShareRec) : Nat :=
  crc32 (wordsLE r.words)

def ShareRec.sealed (r : ShareRec) : ShareRec :=
  { r with crc := r.crcOf }

/-- SHARE_CHECKPOINT (R324): the class-3 event forms a share record in hardware. -/
def execShareCheckpoint (s : State) : Host.Outcome State Fault Refusal :=
  let s := s.quiet
  .next (match s.takeEvent (fun a => match a with | .share => true | _ => false) with
    | some (_, s) =>
      match if s.mir.shown then s.mir.boot else none with
      | none => s
      | some boot =>
        let m := s.mir
        let d := fun (a b : Nat) => (a + 2 ^ 64 - b) % 2 ^ 64
        let r := ShareRec.sealed
          { boot := boot, ckseq := m.ckseq, tick := s.tick, pseqLast := s.rd MTR_PSEQ.PSEQ,
            dDie := d (s.rd EM_EDIE.EDIE) m.eDie, dIn := d (s.rd EM_EIN.EIN) m.eIn, dUnatt := d (s.rd EM_UNATT.UNATT) m.eUnatt,
            dPart := (List.range 32).map (fun p => d (s.rd EM_PART_E.ENERGY p) (Table.get 0 m.ePart p)),
            breach := (List.range 32).map (fun p => Table.get {} s.bg.breach p) }
        let parts := (List.range 32).map (fun p => (p, s.rd EM_PART_E.ENERGY p))
        let s := s.setMir (fun m => { m with
          ckseq := (m.ckseq + 1) % 2 ^ 16, buffer := (m.buffer ++ [r]).drop (m.buffer.length + 1 - 4),
          eDie := s.rd EM_EDIE.EDIE, eIn := s.rd EM_EIN.EIN, eUnatt := s.rd EM_UNATT.UNATT,
          ePart := parts.foldl (fun t e => Table.set 0 t e.1 e.2) [] })
        s.setBg (fun b => { b with breach := [] })
    | none => s)

/-- A share record is new to the meter (R325). -/
def Mtr.newRecord (m : Mtr) (r : ShareRec) : Bool :=
  r.boot != m.bootLast || serialNewer 16 r.ckseq m.ckseqLast

/-- E_IN at a publication the meter holds. -/
def Mtr.eInAt (m : Mtr) (p : Nat) : Option Nat :=
  (m.held.find? (fun e => e.1 == p)).map (·.2)

/-- The breaching ticks of a record, added in full. -/
def Mtr.addBreaches (m : Mtr) (r : ShareRec) : Mtr :=
  { m with accts := upTo 32 (fun p t =>
      let b := r.breach.getD p {}
      Table.upd {} t p (fun a => { a with
        safety := a.safety + b.safety, dropSafe := a.dropSafe + b.dropSafe, dropMeter := a.dropMeter + b.dropMeter })) m.accts }

def addU64 (a : Nat) (b : Int) : Nat :=
  ofSigned 64 ((a : Int) + b)

/-- The apportionment of `dem` µJ over the record's partitions; the rest is unattributed. -/
def Mtr.apportion (m : Mtr) (r : ShareRec) (dem sum : Int) : Mtr :=
  let part := fun p => Int.tdiv (dem * (at0 r.dPart p : Int)) sum
  let left := (List.range 32).foldl (fun d p => d - part p) dem
  { m with accts := upTo 32 (fun p t => Table.upd {} t p (fun a => { a with energy := addU64 a.energy (part p) })) m.accts,
           unatt := addU64 m.unatt left }

/-- One share record (R325). -/
def Mtr.handle (m : Mtr) (r : ShareRec) : Mtr :=
  let first := r.boot != m.bootLast
  let next := (m.ckseqLast + 1) % 2 ^ 16
  let m := m.addBreaches r
  let m := match m.eInAt r.pseqLast with
    | some e =>
      if serialNewer 32 r.pseqLast m.pseqRef then
        let dem := (e : Int) - (m.eRef : Int)
        let sum := sumOf r.dPart + r.dUnatt
        let ok := !first && r.ckseq == next && decide (((sum : Int) - (r.dDie : Int)).natAbs ≤ 33) && sum != 0
        let m := if ok then
            let tol := decide ((m.cal.tol : Int) * dem < 1000 * (((r.dIn : Int) - dem).natAbs : Int))
            { m.apportion r dem sum with shrRes := if tol then 2 else 1 }
          else { m with unatt := addU64 m.unatt dem, shrRes := 3 }
        { m with eRef := e, pseqRef := r.pseqLast }
      else { m with shrRes := 3 }
    | none => { m with shrRes := 3 }
  let m := { m with ckseqLast := r.ckseq, bootLast := r.boot }
  if m.shrRes = 2 then m.event eSHARETOL r.ckseq else if m.shrRes = 3 then m.event eSHAREUNATT r.ckseq else m

/-- SHARE_RECORD (R325): the meter reads the oldest buffered record that is new to it.  A record that fails its CRC is not
handled (DEDUCED, log entry 116). -/
def execShareRecord (s : State) : Host.Outcome State Fault Refusal :=
  let s := s.quiet
  .next (if s.mtr.alive then
      match s.mir.buffer.find? s.mtr.newRecord with
      | some r => if r.crc = r.crcOf then s.meter (fun m => m.handle r) else s
      | none => s
    else s)

/-! ### The mirror (R313) -/

/-- PUBLICATION (R313): a publication that passes its CRC is shown at the next boundary. -/
def execPublication (ws : List Nat) (s : State) : Host.Outcome State Fault Refusal :=
  let s := s.quiet
  .next (if ws.length = 10 ∧ at0 ws 9 = crc32 (wordsLE (ws.take 9)) then
      let prev := match s.mir.next with
        | some w => some (at0 w 0)
        | none => if s.mir.boot.isSome then some (s.rd MTR_PSEQ.PSEQ) else none
      let n := match prev with
        | some p => (at0 ws 0 + 2 ^ 32 - p) % 2 ^ 32
        | none => 1
      let s := if 1 < n then s.wr MTR_MISS.MISSING 0 (s.rd MTR_MISS.MISSING + (n - 1)) else s
      s.setMir (fun m => { m with
        next := some ws, lastGood := some s.tick, missed := 0, lost := m.lost || decide (1 < n),
        boot := some (m.boot.getD (at0 ws 0)) })
    else s.inc MTR_MISS.CRC)

/-- PUBLICATION_MISSING (R313): 1,100 ticks without a good publication, then every further 1,000. -/
def execPublicationMissing (s : State) : Host.Outcome State Fault Refusal :=
  let s := s.quiet
  .next (if (s.mir.lastGood.getD 0) + 1100 + 1000 * s.mir.missed ≤ s.tick then
      let s := ((s.inc MTR_MISS.MISSING).wr MTR_STAT.MISSING 0 1).setMir
        (fun m => { m with missed := m.missed + 1, lost := true })
      s.raise .MTR_MISSING
    else s)

/-- A mirrored flag: its event is raised when it takes the value `v`. -/
def State.mirrorFlag (s : State) (F : Fld) (b v : Bool) (e : Evt) : State :=
  let was := s.on F
  let s := s.wrB F 0 b
  if b == v && was != v then s.raise e else s

/-- A good publication is written into the mirror registers, and taken by the meter fit (R141, R143). -/
def State.mirrorBoundary (s : State) : State :=
  match s.mir.next with
  | none => s
  | some ws =>
    let w5 := at0 ws 5
    let eIn := at0 ws 1 + at0 ws 2 * 2 ^ 32
    let nj := 1000 * ((eIn + 2 ^ 64 - s.rd MTR_E.E_IN) % 2 ^ 64)
    let skip := s.mir.lost || s.on MTR_STAT.MISSING || w5.testBit 30 || w5.testBit 29
    let s := s.setMir (fun m => { m with next := none, lost := false, shown := true })
    let sets := (!s.on MTR_STAT.FAULT && w5.testBit 30) || (!s.on MTR_STAT.ROM_FAULT && w5.testBit 24)
    let s := s.wrB MTR_STAT.VALID 0 (w5.testBit 31)
    let s := (s.wrB MTR_STAT.FAULT 0 (w5.testBit 30)).wrB MTR_STAT.ROM_FAULT 0 (w5.testBit 24)
    let s := if sets then s.raise .MTR_FAULT else s
    let s := s.mirrorFlag MTR_STAT.GAP (w5.testBit 29) true .MTR_GAP
    let s := s.mirrorFlag MTR_STAT.SEAL_OPEN (w5.testBit 28) true .MTR_SEAL_OPEN
    let s := s.mirrorFlag MTR_STAT.WR_OK (w5.testBit 27) false .MTR_WR_INHIBIT
    let s := (s.wrB TH_STAT.METER_WR_OK 0 (w5.testBit 27)).wrB MTR_STAT.PFW 0 (w5.testBit 26)
    let s := s.mirrorFlag MTR_STAT.UNCAL (w5.testBit 25) true .MTR_UNCAL
    let s := s.wr MTR_STAT.MISSING 0 0
    let res := w5 / 2 ^ 22 % 4
    let was := s.rd MTR_SHARE.RES
    let s := (s.wr MTR_SHARE.RES 0 res).wr MTR_SHARE.CKSEQ 0 w5
    let s := if res = 2 ∧ was ≠ 2 then s.raise .MTR_SHARE_TOL
      else if res = 3 ∧ was ≠ 3 then s.raise .MTR_SHARE_UNATT else s
    let s := (s.wr MTR_PSEQ.PSEQ 0 (at0 ws 0)).wr MTR_E.E_IN 0 eIn
    let s := ((s.wr MTR_IP.I_MEAN 0 (at0 ws 3 / 2 ^ 16)).wr MTR_IP.P_MEAN 0 (at0 ws 3)).wr MTR_V.V_MEAN 0 (at0 ws 4)
    let s := (s.wr MTR_SEAL.BREAKS 0 (at0 ws 6 / 2 ^ 16)).wr MTR_SEAL.CAL_GEN 0 (at0 ws 6)
    let s := (s.wr MTR_ROMCRC.ROMCRC 0 (at0 ws 7)).wr MTR_SERIAL.SERIAL 0 (at0 ws 8)
    s.fitPublication nj skip

/-! ### The meter port (R322, R323, R352) -/

/-- The first packet of the bytes that have come, in the framing of R322. -/
inductive Framing where
  /-- an incomplete packet: the bytes kept -/
  | partly (bs : List Nat)
  /-- a packet that failed its CRC, and the bytes behind it -/
  | broken (rest : List Nat)
  | packet (ws rest : List Nat)
  deriving DecidableEq, Repr

def frameOf (bs : List Nat) : Framing :=
  match bs.dropWhile (fun b => b != 0xA5) with
  | [] => .partly []
  | [a] => .partly [a]
  | a :: l :: t =>
    if t.length < 4 * l + 4 then .partly (a :: l :: t)
    else
      let ws := t.take (4 * l)
      let rest := t.drop (4 * l + 4)
      if ofBytesLE ((t.drop (4 * l)).take 4) = crc32 (l :: ws) then .packet (toWordsLE ws) rest else .broken rest

/-- The reply of the meter on MTX. -/
def meterFrame (ws : List Nat) : List Nat :=
  let body := ws.length :: wordsLE ws
  0xA5 :: body ++ bytesLE 4 (crc32 body)

/-- A reply header (Table 13.2). -/
def replyHdr (hdr status rcnt : Nat) : Nat :=
  bits 31 24 hdr * 2 ^ 24 + status * 2 ^ 16 + bits 15 4 hdr * 16 + rcnt

/-- Opcodes the meter implements (Table 12.6). -/
def meterOp (op : Nat) : Bool :=
  (fixedMask op).testBit 3

/-- A whole packet with header `h` and parameters `ps` is checked and answered; one that no meter opcode answers is refused
(R333, R352). -/
def State.meterAnswer (s : State) (h : Nat) (ps : List Nat) (act : State → List Nat → Nat × List Nat × State) : State :=
  let o := bits 31 24 h
  let (st, ws, s) : Nat × List Nat × State :=
    if bits 23 20 h != 3 then (stVERSION, [], s)
    else if !opDefined o then (stBADOP, [], s)
    else if !meterOp o then (stNOPERM, [], s)
    else if !pcntOk o (bits 19 16 h) || bits 19 16 h != ps.length then (stBADPARAM, [], s)
    else if 0xA8 ≤ o ∧ !s.mtr.sealOpen then (stLOCKED, [], s)
    else act s ps
  let ws := if st = stOK then ws else []
  s.drive (.meter (meterFrame (replyHdr h st ws.length :: ws)))

/-- Packets among the bytes that have come are answered one at a time, in order of arrival, up to one of another meter opcode,
which waits for its own command. -/
def State.meterServe (op : Nat) (act : State → List Nat → Nat × List Nat × State) : Nat → State → State
  | 0, s => s
  | n + 1, s =>
    match frameOf s.mtr.rx with
    | .partly r => s.setMtr (fun m => { m with rx := r })
    | .broken r => State.meterServe op act n (s.setMtr (fun m => { m with rx := r }))
    | .packet [] r => State.meterServe op act n (s.setMtr (fun m => { m with rx := r }))
    | .packet (h :: ps) r =>
      if bits 23 20 h == 3 && bits 31 24 h != op && meterOp (bits 31 24 h) then s
      else State.meterServe op act n ((s.setMtr (fun m => { m with rx := r })).meterAnswer h ps act)

/-- Bytes on MRX for a command of opcode `op` (R322). -/
def State.meterPort (s : State) (op : Nat) (bs : List Nat) (act : State → List Nat → Nat × List Nat × State) : State :=
  if !s.mtr.alive then s
  else
    let s := s.setMtr (fun m => { m with rx := m.rx ++ bs })
    State.meterServe op act (s.mtr.rx.length + 1) s

/-- METER_PORT_BYTE_GAP (R322): the partial packet is discarded. -/
def execMeterPortByteGap (s : State) : Host.Outcome State Fault Refusal :=
  .next (s.quiet.setMtr (fun m => { m with rx := [] }))

/-- 0xA0 on the meter port. -/
def actMeterIdent (s : State) (_ : List Nat) : Nat × List Nat × State :=
  let m := s.mtr
  (stOK, [m.serial, m.romCrc, min m.breaks 0xFFFF * 2 ^ 16 + m.calGen % 2 ^ 16, m.st - 1], s)

/-- 0xA1 on the meter port. -/
def actMeterRead (s : State) (_ : List Nat) : Nat × List Nat × State :=
  let m := s.mtr
  let e := m.eIn
  (stOK, [m.mtime % 2 ^ 32, m.mtime / 2 ^ 32, e % 2 ^ 32, e / 2 ^ 32, m.meanV, m.meanI * 2 ^ 16 + m.meanP, m.flags], s)

/-- 0xA2. -/
def actMeterAccount (s : State) (ps : List Nat) : Nat × List Nat × State :=
  let p := at0 ps 0
  if p < 32 then
    let a := Table.get {} s.mtr.accts p
    let b := a.stored
    (stOK, [a.energy % 2 ^ 32, a.energy / 2 ^ 32, b.safety, b.dropSafe, b.dropMeter], s)
  else if p = 32 then (stOK, [s.mtr.unatt % 2 ^ 32, s.mtr.unatt / 2 ^ 32, 0, 0, 0], s)
  else (stBADPARAM, [], s)

/-- 0xA3: the event at an index, 0 newest. -/
def actMeterEvent (s : State) (ps : List Nat) : Nat × List Nat × State :=
  match (if at0 ps 0 < 1984 then s.mtr.eventAt (at0 ps 0) else none) with
  | some e => (stOK, [e.seq, e.type, e.mtime % 2 ^ 32, e.mtime / 2 ^ 32 % 2 ^ 32, e.cseq, e.data0, e.data1, e.data2], s)
  | none => (stBADPARAM, [], s)

/-- 0xA8: one calibration item is staged. -/
def actCalWrite (s : State) (ps : List Nat) : Nat × List Nat × State :=
  if 8 < at0 ps 0 then (stBADPARAM, [], s)
  else (stOK, [], s.setMtr (fun m => { m with staged := m.staged.set (at0 ps 0) (at0 ps 1) }))

/-- 0xA9 (R321): the copies are written, CAL_GEN advances, the event is journaled; effect at the next window. -/
def actCalCommit (s : State) (_ : List Nat) : Nat × List Nat × State :=
  if s.mtr.serial = 0 then (stCONFLICT, [], s)
  else
    let s := s.meter (fun m =>
      let m := { m with calGen := (m.calGen + 1) % 2 ^ 16, commit := some m.staged }
      let m := if m.window then m.writeCal m.staged else { m with calDue := true }
      m.event eCALCOMMIT)
    (stOK, [s.mtr.calGen], s)

/-- 0xAA: once, while the serial is 0. -/
def actSetSerial (s : State) (ps : List Nat) : Nat × List Nat × State :=
  if at0 ps 0 = 0 then (stBADPARAM, [], s)
  else if s.mtr.serial ≠ 0 then (stCONFLICT, [], s)
  else (stOK, [], s.setMtr (fun m => { m with serial := at0 ps 0 }))

/-- 0xAB: the share tolerance is staged. -/
def actSetTol (s : State) (ps : List Nat) : Nat × List Nat × State :=
  if at0 ps 0 < 10 ∨ 250 < at0 ps 0 then (stBADPARAM, [], s)
  else (stOK, [], s.setMtr (fun m => { m with staged := { m.staged with tol := at0 ps 0 } }))

end Sys2Proof.Machine
end

