-- ==== Sys2Proof/Machine/Transport.lean ====
section
/-! DEFINITION. Packets and replies, their arrival on a port instance (R328 to R343), and the transports that carry them:
inbound mailboxes, rings, the service port (R353, R354, R359 to R372). -/

namespace Sys2Proof.Machine

/-! ### Packets (Table 13.1) -/

def Packet.op (p : Packet) : Nat := bits 31 24 p.hdr
def Packet.ver (p : Packet) : Nat := bits 23 20 p.hdr
def Packet.pcnt (p : Packet) : Nat := bits 19 16 p.hdr
def Packet.seq (p : Packet) : Nat := bits 15 4 p.hdr
def Packet.urgent (p : Packet) : Bool := p.hdr.testBit 1
def Packet.wants (p : Packet) : Bool := p.hdr.testBit 0

/-- Parameter word `i`. -/
def Packet.par (p : Packet) (i : Nat) : Nat := at0 p.params i

/-- The packet in the words of a mailbox, an entry or a PUT: the header and its PCNT parameters, at most 14. -/
def packetOf (ws : List Nat) : Packet :=
  let h := at0 ws 0
  { hdr := h, params := (ws.drop 1).take (min 14 (bits 19 16 h)) }

def Reply.status (r : Reply) : Nat := bits 23 16 r.hdr

/-! ### Port instances (Table 13.3) -/

abbrev iSVC : Nat := 31

/-- The instance of ring pair `r`; a pair that has been disabled keeps its packets on `goneInst`, whose replies are lost. -/
def ringInst (r : Nat) : Nat := 16 + r
def goneInst (n : Nat) : Nat := n + 32

/-- The port class of an instance: 0 H, 1 HS, 2 S (R335). -/
def State.instClass (s : State) (n : Nat) : Nat :=
  if n = iSVC then 2
  else if n < 8 then 1
  else if n < 16 then 0
  else b2n (s.on RING_CFG.SEC (n % 32 - 16))

def State.port (s : State) (n : Nat) : PortState :=
  Table.get {} s.cmd.ports n

def State.setPort (s : State) (n : Nat) (f : PortState → PortState) : State :=
  s.setCmd (fun c => { c with ports := Table.upd {} c.ports n f })

/-! ### Replies owed and sent (R331, R365, R369, R370) -/

/-- Add one reply owed to a mailbox or a ring pair. -/
def State.owe (s : State) (n : Nat) : State :=
  if n < 16 then s.wr MB_CTL.OWED n (s.rd MB_CTL.OWED n + 1)
  else if n < iSVC then s.wr RING_STAT.OWED (n - 16) (s.rd RING_STAT.OWED (n - 16) + 1)
  else s

/-- One reply less is owed. -/
def State.settle (s : State) (n : Nat) : State :=
  if n < 16 then s.wr MB_CTL.OWED n (s.rd MB_CTL.OWED n - 1)
  else if n < iSVC then s.wr RING_STAT.OWED (n - 16) (s.rd RING_STAT.OWED (n - 16) - 1)
  else s

def State.mbReplies (s : State) (n : Nat) : List Reply :=
  Table.get [] s.bus.mbReplies n

def State.setMbReplies (s : State) (n : Nat) (l : List Reply) : State :=
  (s.setBus (fun b => { b with mbReplies := Table.set [] b.mbReplies n l })).wr MB_CTL.RQ n l.length

def State.ringOut (s : State) (r : Nat) : List CEntry :=
  Table.get [] s.bus.ringOut r

def State.setRingOut (s : State) (r : Nat) (l : List CEntry) : State :=
  s.setBus (fun b => { b with ringOut := Table.set [] b.ringOut r l })

/-- Send a reply on its instance: into the mailbox's queue, towards the completion ring, into the service port's queue of 4;
where that is full the reply waits for room (R342; DEDUCED, log entry 117). -/
def State.deliver (s : State) (n : Nat) (r : Reply) : State :=
  if n < 16 then
    ((s.setMbReplies n (s.mbReplies n ++ [r])).settle n).doorbell (if 8 ≤ n then n - 8 else 16 + n)
  else if n < iSVC then s.setRingOut (n - 16) (s.ringOut (n - 16) ++ [{ reply := r }])
  else if n = iSVC then s.setCmd (fun c =>
    if c.svcReplies.length < 4 then { c with svcReplies := c.svcReplies ++ [r] } else { c with svcHeld := c.svcHeld ++ [r] })
  else s

/-- R331: a reply is sent if it was requested or its status is not OK; WARM_RESTART never replies. -/
def replySent (p : Packet) (st : Nat) : Bool :=
  (p.wants || st != stOK) && !(p.op == 0x72 && p.ver == 3)

/-- The words of a reply: those of Table 13.5 for OK, FLOOR_BREACH and DEFERRED, none for another status but for DOMAIN_ON
and DOMAIN_OFF, whose word names no domain where none was requested (R329). -/
def replyWords (op st : Nat) (ws : List Nat) : List Nat :=
  if op = 0x20 || op = 0x21 then (if ws.isEmpty then [0xFF] else ws)
  else if st = stOK || st = stFLOOR || st = stDEFERRED then ws
  else []

/-- The counter of a refusal (Table 13.8). -/
def State.countRefusal (s : State) (st : Nat) : State :=
  if st = stBADOP then s.inc CMD_REFUSED.BADOP
  else if st = stNOPERM then s.inc CMD_REFUSED.NOPERM
  else if st = stBADPARAM then s.inc CMD_REFUSED.BADPARAM
  else if st = stVERSION then s.inc CMD_REFUSED.VERSION
  else s

/-- The last packet answered with a status other than OK. -/
def State.noteLast (s : State) (n : Nat) (p : Packet) (st : Nat) : State :=
  if st = stOK then s
  else
    let s := ((s.wr CMD_LAST.OPCODE 0 p.op).wr CMD_LAST.STATUS 0 st).wr CMD_LAST.SEQ 0 p.seq
    (s.wr CMD_LAST_SRC.CLASS 0 (s.instClass n)).wr CMD_LAST_SRC.INSTANCE 0 (n % 32)

/-- A packet ends with a status and reply words: its reply is formed, cached for its instance (R340) and sent under R331. -/
def State.answer (s : State) (n : Nat) (p : Packet) (st : Nat) (ws : List Nat := []) : State :=
  let ws := if p.ver = 3 then replyWords p.op st ws else []
  let r : Reply := { hdr := replyHdr p.hdr st ws.length, words := ws }
  let s := s.countRefusal st
  let s := s.setPort n (fun q => if q.seen && q.cache == p then { q with reply := some r } else q)
  if replySent p st then (s.noteLast n p st).deliver n r else s.settle n

/-! ### Arrival (R330, R339, R340) -/

/-- A packet arrives on instance `n`.  One that is accepted joins the packets that wait for the handler. -/
def State.arrive (s : State) (n : Nat) (p : Packet) : State :=
  if p.ver != 3 then s.answer n p stVERSION
  else
    let q := s.port n
    let d := (p.seq + 4096 - q.last) % 4096
    if q.seen && d == 0 then
      if p == q.cache then
        let s := s.inc CMD_CNT.DUP
        match q.reply with
        | some r => if replySent p r.status then s.deliver n r else s.settle n
        | none => s.settle n
      else s.answer n p stCONFLICT
    else if q.seen && 2048 ≤ d then (s.inc CMD_CNT.STALE).answer n p stCONFLICT
    else
      let s := s.setPort n (fun _ => { seen := true, last := p.seq, cache := p, reply := none })
      s.setCmd (fun c => { c with queue := c.queue ++ [(n, p)] })

/-! ### Who is served, and the order (R341, R342, R404, R427) -/

/-- The boot ROM waits for firmware after POR (R427). -/
def State.bootWait (s : State) : Bool :=
  !s.fw.entered && s.on FW_STAT.NO_FW && !s.fw.bootFail

/-- The handler takes packets: it runs, has published, and has not abandoned the tick (R31, R341, R428). -/
def State.handlerTakes (s : State) : Bool :=
  s.hubRuns && s.fw.published && !s.cad.abandoned

/-- Packets of opcode `op` on instance `n` are taken now: by the handler; by the boot ROM while it waits after POR; by the
boot ROM in the wait of R404, a FW_LOAD of the service port only.  A full reply queue holds the service port back. -/
def State.serves (s : State) (n op : Nat) : Bool :=
  (n != iSVC || decide (s.cmd.svcReplies.length < 4)) &&
  (s.handlerTakes || (s.bootWait && (decide (n < 8) || n == iSVC)) ||
   (s.fw.entered && s.on RC_STAT.HOLDOVER && s.on FW_STAT.NO_FW && n == iSVC && op == 0x90))

/-- The order in which packets are taken: URGENT first, then S, HS, H, then by instance code. -/
def State.rankOf (s : State) (n : Nat) (urgent : Bool) : Nat :=
  (if urgent then 0 else 1000) + (2 - s.instClass n) * 100 + n

def State.takeRank (s : State) (e : Nat × Packet) : Nat :=
  s.rankOf e.1 e.2.urgent

/-- The first of the packets of least rank. -/
def State.leastOf (s : State) : List (Nat × Packet) → Option (Nat × Packet)
  | [] => none
  | e :: t =>
    match s.leastOf t with
    | none => some e
    | some f => if s.takeRank e ≤ s.takeRank f then some e else some f

/-- The words of the data registers of mailbox `n`. -/
def State.mbWords (s : State) (n : Nat) : List Nat :=
  (List.range 15).map (fun i => s.rd MB_D.DATA (16 * n + i))

/-- The packet of mailbox `n` may be taken (R369): GO, an active mailbox that is served, room for its reply. -/
def State.mbReady (s : State) (n : Nat) : Bool :=
  s.on MB_CTL.GO n && s.on MB_CTL.ACTIVE n && s.serves n (packetOf (s.mbWords n)).op &&
    decide (s.rd MB_CTL.RQ n + s.rd MB_CTL.OWED n < 16)

def State.ringSize (s : State) (r : Nat) : Nat :=
  2 ^ s.rd RING_CFG.LOG2SZ r

/-- (tail − head) mod 65,536 of the completion ring. -/
def State.cqFill (s : State) (r : Nat) : Nat :=
  (s.rd RING_CQ.TAIL r + 65536 - s.rd RING_CQ.HEAD r) % 65536

/-- Free completion entries, those that formed telemetry records will take left out. -/
def State.cqFree (s : State) (r : Nat) : Nat :=
  s.ringSize r - s.cqFill r - ((s.ringOut r).filter CEntry.tel).length

/-- Rings are read in the mode in force (R359, R360). -/
def State.ringMode (s : State) : Bool :=
  s.rd TRANSPORT.IN_FORCE == 2

/-- An entry of ring pair `r` may be read (R364): the pair is active, it has one, and the completion ring has more free entries
than OWED, which counts to 16 (Table 14.9). -/
def State.ringReady (s : State) (r : Nat) : Bool :=
  s.ringMode && s.on RING_CFG.EN r && s.rd RING_SQ.HEAD r != s.rd RING_SQ.TAIL r &&
    decide (s.rd RING_STAT.OWED r < min 16 (s.cqFree r)) && s.handlerTakes

/-- No packet of a mailbox or a ring has been taken and not yet executed: the handler takes one at a time. -/
def State.noneTaken (s : State) : Bool :=
  s.cmd.queue.all (fun e => e.1 == iSVC || !s.serves e.1 e.2.op)

/-- The ranks of all that waits to be taken: packets of the service port, mailboxes, and ring entries, which the governor has not
read and which therefore count as not URGENT (DEDUCED, log entry 60). -/
def State.waitRanks (s : State) : List Nat :=
  (s.cmd.queue.filter (fun e => s.serves e.1 e.2.op)).map s.takeRank ++
    (idx 16 s.mbReady).map (fun n => s.rankOf n (packetOf (s.mbWords n)).urgent) ++
    (idx 15 s.ringReady).map (fun r => s.rankOf (ringInst r) false)

/-- Nothing that waits comes before rank `k`. -/
def State.comesFirst (s : State) (k : Nat) : Bool :=
  s.waitRanks.all (fun r => decide (k ≤ r))

/-- The packet that the handler executes next: one it has taken from a mailbox or a ring, else the first of the service port
unless another instance's packet comes before it. -/
def State.nextPacket (s : State) : Option (Nat × Packet) :=
  let l := s.cmd.queue.filter (fun e => s.serves e.1 e.2.op)
  match s.leastOf (l.filter (fun e => e.1 != iSVC)) with
  | some e => some e
  | none => (s.leastOf l).filter (fun e => s.comesFirst (s.takeRank e))

def dropFirst (e : Nat × Packet) : List (Nat × Packet) → List (Nat × Packet)
  | [] => []
  | f :: t => if f = e then t else f :: dropFirst e t

def State.popPacket (s : State) (e : Nat × Packet) : State :=
  s.setCmd (fun c => { c with queue := dropFirst e c.queue })

/-- Packets of an opcode that Table 13.5 does not define have no command of their own: they are answered as soon as the
handler comes to them, with BAD_OPCODE; by the boot ROM with BUSY (R333, R427). -/
def State.answerUndefined (s : State) : State :=
  upTo s.cmd.queue.length (fun _ s =>
    match s.nextPacket with
    | some (n, p) =>
      if opDefined p.op then s
      else (s.popPacket (n, p)).answer n p (if s.bootWait then stBUSY else stBADOP)
    | none => s) s

/-! ### Inbound mailboxes (R369 to R371) -/

/-- MAILBOX_TAKE (R341, R369): the handler takes the packet of a mailbox whose GO is set, in its turn. -/
def execMailboxTake (n : Nat) (s : State) : Host.Outcome State Fault Refusal :=
  let s := s.quiet
  let p := packetOf (s.mbWords n)
  .next (if n < 16 && s.mbReady n && s.noneTaken && s.comesFirst (s.rankOf n p.urgent) then
      (((s.wr MB_CTL.GO n 0).owe n).arrive n p).answerUndefined
    else s)

/-- FETCH set (R370): the oldest reply into the data registers. -/
def State.mbFetch (s : State) (n : Nat) : State :=
  let s := s.wr MB_CTL.RDY n 0
  match s.mbReplies n with
  | [] => s
  | r :: t =>
    let ws := r.hdr :: r.words
    let s := upTo 15 (fun i s => s.wr MB_D.DATA (16 * n + i) (at0 ws i)) s
    (s.setMbReplies n t).wr MB_CTL.RDY n 1

/-- A write of `MBn_CTL` (Table 14.4, R371). -/
def State.mbCtlWrite (s : State) (n v : Nat) : State :=
  let s := if v.testBit 28 then s.wr MB_CTL.BUSY n 0 else s
  let s := if v.testBit 27 then s.wr MB_CTL.WIGN n 0 else s
  let go := v.testBit 31
  let fetch := v.testBit 30
  let s := if go && !s.on MB_CTL.ACTIVE n then s.wr MB_CTL.WIGN n 1 else s
  let take := go && s.on MB_CTL.ACTIVE n
  if !go && !fetch then s
  else if s.on MB_CTL.GO n || s.on MB_CTL.FETCH n then
    if take || fetch then s.wr MB_CTL.BUSY n 1 else s
  else if go then
    let s := if take then (s.wr MB_CTL.GO n 1).wr MB_CTL.RDY n 0 else s
    if fetch then s.wr MB_CTL.BUSY n 1 else s
  else s.mbFetch n

/-- The bytes of `new` whose strobe is set, the others of `old` (R382). -/
def strobed (strb old new : Nat) : Nat :=
  sumOf ((List.range 4).map (fun k =>
    (if strb.testBit k then bits (8 * k + 7) (8 * k) new else bits (8 * k + 7) (8 * k) old) * 2 ^ (8 * k)))

/-- A write of a mailbox data register (R371, R382). -/
def State.mbDataWrite (s : State) (i strb v : Nat) : State :=
  let n := i / 16
  if s.on MB_CTL.GO n || s.on MB_CTL.FETCH n || !s.on MB_CTL.ACTIVE n then s.wr MB_CTL.WIGN n 1
  else (s.wr MB_D.DATA i (strobed strb (s.rd MB_D.DATA i) v)).wr MB_CTL.RDY n 0

/-- A change of TRANSPORT.MODE takes effect at a tick boundary (R360). -/
def State.transportBoundary (s : State) : State :=
  let m := s.rd TRANSPORT.MODE
  if m = s.rd TRANSPORT.IN_FORCE then s
  else
    let s := s.wr TRANSPORT.IN_FORCE 0 m
    upTo 8 (fun k s =>
      let n := 8 + k
      let s := s.wrB MB_CTL.ACTIVE n (m == 1)
      if m != 1 && s.on MB_CTL.GO n then (s.wr MB_CTL.GO n 0).wr MB_CTL.WIGN n 1 else s) s

/-! ### Rings (R361 to R368) -/

/-- (tail − head) mod 65,536 of the submission ring. -/
def State.sqFill (s : State) (r : Nat) : Nat :=
  (s.rd RING_SQ.TAIL r + 65536 - s.rd RING_SQ.HEAD r) % 65536

/-- Clearing EN stops the pair: replies owed are discarded and counted, and what its packets still answer is lost (R362). -/
def State.ringStop (s : State) (r : Nat) : State :=
  let s := (s.wr RING_CFG.EN r 0).wr RING_CNT.LOST r (s.rd RING_CNT.LOST r + s.rd RING_STAT.OWED r)
  let s := (s.wr RING_STAT.OWED r 0).setRingOut r []
  let move := fun n => if n = ringInst r then goneInst n else n
  s.setCmd (fun c => { c with queue := c.queue.map (fun e => (move e.1, e.2)),
                              out := c.out.map (fun o => { o with inst := move o.inst }) })

/-- A write of `RING_CFG_r` (R362). -/
def State.ringCfgWrite (s : State) (r v : Nat) : State :=
  if s.on RING_CFG.EN r then
    let s := s.wr RING_STAT.CFG_ERR r 1
    if v.testBit 31 then s else s.ringStop r
  else
    let s := ((s.wrB RING_CFG.SEC r (v.testBit 30)).wrB RING_CFG.TELEM r (v.testBit 29)).wr RING_CFG.DB r (bits 22 20 v)
    let s := s.wr RING_CFG.LOG2SZ r (max 3 (min 12 (bits 19 16 v)))
    if v.testBit 31 then
      let s := ((s.wr RING_SQ.TAIL r 0).wr RING_SQ.HEAD r 0).wr RING_CQ.HEAD r 0
      let s := ((s.wr RING_CQ.TAIL r 0).wr RING_STAT.OWED r 0).wr RING_CFG.EN r 1
      s.setPort (ringInst r) (fun _ => {})
    else s

/-- A write of `RING_SQ_r.TAIL` (R363). -/
def State.sqTailWrite (s : State) (r v : Nat) : State :=
  if (v + 65536 - s.rd RING_SQ.TAIL r) % 65536 ≤ s.ringSize r - s.sqFill r then s.wr RING_SQ.TAIL r v
  else s.wr RING_STAT.TAIL_ERR r 1

/-- A write of `RING_CQ_r.HEAD` (R363). -/
def State.cqHeadWrite (s : State) (r v : Nat) : State :=
  if (v + 65536 - s.rd RING_CQ.HEAD r) % 65536 ≤ s.cqFill r then s.wr RING_CQ.HEAD r v
  else s.wr RING_STAT.HEAD_ERR r 1

/-- SUBMISSION_ENTRY (R341, R361, R364, R368): the handler takes from pair `r` in its turn; the entry as read, or an error
response. -/
def execSubmissionEntry (r : Nat) (e : Option (List Nat)) (s : State) : Host.Outcome State Fault Refusal :=
  let s := s.quiet
  .next (if r < 15 && s.ringReady r && s.noneTaken && s.comesFirst (s.rankOf (ringInst r) false) then
      let a := s.rd RING_SQ_BASE.ADDR r / 64 * 64 + 64 * (s.rd RING_SQ.HEAD r % s.ringSize r)
      let s := s.drive (.hostRead a (!s.on RING_CFG.SEC r) 64)
      match e with
      | none => ((s.wr RING_STAT.RD_ERR r 1).ringStop r).doorbell 30
      | some ws =>
        let i := s.rd RING_SQ.HEAD r
        let s := (s.wr RING_SQ.HEAD r (i + 1)).owe (ringInst r)
        if crc32 (wordsLE ((List.range 15).map (at0 ws))) != at0 ws 15 then
          let rec0 : Reply := { hdr := 0xFF * 2 ^ 24 + stBADPARAM * 2 ^ 16 + i % 4096 * 16 }
          (s.inc RING_CNT.CRC r).deliver (ringInst r) rec0
        else (s.arrive (ringInst r) (packetOf ws)).answerUndefined
    else s)

/-- The sixteen words of a completion entry (R365). -/
def entryWords (p : Reply) : List Nat :=
  let ws := (List.range 15).map (at0 (p.hdr :: p.words))
  ws ++ [crc32 (wordsLE ws)]

/-- COMPLETION_ENTRY (R365, R368): the oldest record for pair `r` is written as one burst; `ok` its write response. -/
def execCompletionEntry (r : Nat) (ok : Bool) (s : State) : Host.Outcome State Fault Refusal :=
  let s := s.quiet
  .next (if 15 ≤ r then s else match s.ringOut r with
    | [] => s
    | e :: t =>
      if !s.on RING_CFG.EN r then s
      else
        let tail := s.rd RING_CQ.TAIL r
        let sec := s.on RING_CFG.SEC r
        let a := s.rd RING_CQ_BASE.ADDR r / 64 * 64 + 64 * (tail % s.ringSize r)
        let s := s.drive (.hostWrite a (!sec) (entryWords e.reply))
        if ok then
          let s := (s.setRingOut r t).wr RING_CQ.TAIL r (tail + 1)
          let s := s.doorbell (s.rd RING_CFG.DB r + if sec then 16 else 0)
          if e.tel then s else s.settle (ringInst r)
        else ((s.wr RING_STAT.WR_ERR r 1).ringStop r).doorbell 30)

/-! ### The service port (R353, R354) -/

def State.svcQueued (s : State) : Nat :=
  (s.cmd.queue.filter (fun e => e.1 == iSVC)).length

/-- The status byte (R354). -/
def State.svcStatus (s : State) : Nat :=
  let attn := s.rd CAR_LEASE.REQ != 0 || s.on RC_STAT.TRAY_REQ || s.on RC_STAT.PWR_HELD
  (4 - s.svcQueued) * 32 + s.rd RC_STAT.HOLDOVER * 16 + b2n s.cmd.lastRej * 4 + b2n attn * 2 +
    b2n (!s.cmd.svcReplies.isEmpty)

/-! ### Interrupt lines (R354, R376, R404, R419) -/

/-- IRQ_NS and IRQ_S: a doorbell bit stands that is not masked. -/
def State.irqNS (s : State) : Bool :=
  Nat.land (s.rd DB_STAT_NS.STAT) (Nat.xor (s.rd DB_MASK_NS.MASK) 0xFFFF) != 0

def State.irqS (s : State) : Bool :=
  Nat.land (s.rd DB_STAT_S.STAT) (Nat.xor (s.rd DB_MASK_S.MASK) 0xFFFF) != 0

/-- IRQ_SVC: REPLY_READY or ATTN of the status byte, or no firmware can be entered. -/
def State.irqSVC (s : State) : Bool :=
  Nat.land s.svcStatus 3 != 0 || s.on FW_STAT.NO_FW

/-- A PUT or GET frame: the length byte, the words and their CRC-32, least significant byte first. -/
def svcFrame (ws : List Nat) : List Nat :=
  let bs := ws.length :: wordsLE ws
  bs ++ bytesLE 4 (crc32 bs)

/-- A PUT that is discarded. -/
def State.putRejected (s : State) : State :=
  s.setCmd (fun c => { c with lastRej := true })

/-- PUT (R353): the bytes sent after the command byte.  A transaction cut short has no effect. -/
def execPut (bs : List Nat) (s : State) : Host.Outcome State Fault Refusal :=
  let s := s.quiet
  let l := at0 bs 0
  let ws := toWordsLE ((bs.drop 1).take (4 * l))
  .next (if bs.length < 4 * l + 5 then s
    else if bs.take (4 * l + 5) != svcFrame ws || l != bits 19 16 (at0 ws 0) + 1 || l < 1 || 15 < l then
      (s.inc SVC_CNT.CRC).putRejected
    else if 4 ≤ s.svcQueued then (s.inc SVC_CNT.OVERFLOW).putRejected
    else (((s.inc SVC_CNT.PKTS).arrive iSVC (packetOf ws))).answerUndefined)

/-- GET (R353): the oldest reply; removed only if the transaction ends after the last CRC byte. -/
def execGet (clean : Bool) (s : State) : Host.Outcome State Fault Refusal :=
  let s := s.quiet
  .next (match s.cmd.svcReplies with
    | [] => s.drive (.service [0, 0])
    | r :: t =>
      let s := s.drive (.service (0 :: svcFrame (r.hdr :: r.words)))
      if clean then (s.setCmd (fun c => { c with
        svcReplies := t ++ c.svcHeld.take 1, svcHeld := c.svcHeld.drop 1 })).answerUndefined else s)

/-- STAT (R353, R354): the status byte; LAST_REJ clears when read. -/
def execStat (s : State) : Host.Outcome State Fault Refusal :=
  let s := s.quiet
  .next ((s.drive (.service [0, s.svcStatus])).setCmd (fun c => { c with lastRej := false }))

end Sys2Proof.Machine
end

