-- ==== Sys2Proof/Machine/Registers.lean ====
section
/-! DEFINITION. The configuration port: which register an offset names, the outcome of an access, what a read returns and
what a write does to every field (chapter 15), and the commands that are writes and reads of single registers. -/

namespace Sys2Proof.Machine

/-! ### The map (R396) -/

/-- Instance and half of a register at an offset: the second word of a pair is the high half. -/
def RegDesc.hit (d : RegDesc) (off : Nat) : Option (Nat × Bool) :=
  let w := if d.pair = .word then 4 else 8
  if off < d.off then none
  else
    let r := if d.stride = 0 then 0 else (off - d.off) / d.stride
    let b := off - d.off - d.stride * r
    if r < d.count && b < w then some (r, 4 ≤ b) else none

/-- The register at an offset of the window. -/
def findIn (off : Nat) : List RegDesc → Option (RegDesc × Nat × Bool)
  | [] => none
  | d :: t =>
    match d.hit off with
    | some (r, h) => some (d, r, h)
    | none => findIn off t

def findReg (off : Nat) : Option (RegDesc × Nat × Bool) :=
  findIn off regMap

/-- The apertures: trace, log and attribution. -/
def inAperture (off : Nat) : Bool :=
  decide (0x30000 ≤ off ∧ off < 0x40000)

/-- One access: AxPROT[1], its ID, its strobes, and whether it is a REG_READ or REG_WRITE of the service port, whose ID no AXI
access carries (R380, R351). -/
structure BusAcc where
  ns : Bool
  id : Nat
  strb : Nat
  svc : Bool

def accOf (a : Access) : BusAcc :=
  ⟨a.ns, a.id, a.strb, false⟩

/-- The service port's accesses: secure, full words (R351). -/
def svcAcc : BusAcc :=
  ⟨false, 256, 15, true⟩

/-! ### Access outcomes (Table 15.1) -/

/-- The window of an offset. -/
def windowOf (off : Nat) : Nat := (off - 0x10000) / 0x1000

/-- A non-secure access is refused at this register (row 4). -/
def State.secured (s : State) (d : RegDesc) (r off : Nat) : Bool :=
  match d.sec with
  | .open => false
  | .sec => true
  | .mailbox => decide ((off - 0x1000) / 64 < 8)
  | .ring => s.on RING_CFG.SEC r
  | .window => !s.bit PWIN_NS.NS (windowOf off)

/-- The CAUSE of a refusal by rows 1 to 5 and 7, in row order; row 6 comes before row 7. -/
def State.accessCause (s : State) (a : BusAcc) (write : Bool) (off : Nat) : Option Nat :=
  if off % 4 != 0 then some 1
  else if inAperture off then (if a.ns then some 3 else if write then some 5 else none)
  else match findReg off with
    | none => some 2
    | some (d, r, _) =>
      if d.sec = .window && !s.bit PWIN_EN.EN (windowOf off) then some 6
      else if a.ns && s.secured d r off then some 3
      else if write && a.strb != 0 && a.strb != 15 && d.off != 0x1000 then some 4
      else none

/-- An access error: counted, and captured unless a capture is held (R384). -/
def State.accessError (s : State) (a : BusAcc) (write : Bool) (off cause : Nat) : State :=
  let held := s.on GSTAT.ACCESS_ERR
  let s := s.incSat ACC_ERR_INFO.COUNT 0 1
  if held then s
  else
    let s := ((s.wr ACC_ERR_ADDR.ADDR 0 off).wrB ACC_ERR_INFO.SVC 0 a.svc).wr ACC_ERR_INFO.ID 0 a.id
    let s := ((s.wrB ACC_ERR_INFO.NS 0 a.ns).wrB ACC_ERR_INFO.WRITE 0 write).wr ACC_ERR_INFO.CAUSE 0 cause
    s.wr GSTAT.ACCESS_ERR 0 1

/-! ### What a field reads as -/

/-- Clusters of a bank of 32 that are assigned to partition `p`. -/
def State.clMask (s : State) (k p : Nat) : Nat :=
  bitsOf 32 (fun i => s.partOf (32 * k + i) == some p)

/-- Fields that show a value held elsewhere, live. -/
def State.liveField (s : State) (b i : Nat) : Option Nat :=
  if b = CAD_TICK.TICK.base then some s.tick
  else if b = CAD_STAT.EVQ_FILL.base then some s.evqFill
  else if b = LOCK0.CFG.base then some (b2n s.locks.cfg)
  else if b = SWD_STAT.MINOFF.key i then some (b2n (!s.offElapsed i))
  else if b = RIM_STAT.LOCK_WAIT.base then some (b2n (!s.locks.cfg))
  else if b = LOCK1.PERM.base then some (b2n s.locks.perm)
  else if b = LOCK1.TRANSPORT.base then some (b2n s.locks.transport)
  else if b = LOCK1.FW.base then some (b2n s.locks.fw)
  else if b = LOCK1.DIAG.base then some (b2n s.locks.diag)
  else if b = SVC_STAT.STATUS.base then some s.svcStatus
  else if b = LOG_STAT.STAGED.base then some s.fw.staging.length
  else if b = PW_ID.CLASS.base + PW_ID.CLASS.stride * i then some (s.rd BG_PART.CLASS i)
  else if b = PW_ID.IDLE_GATE.base + PW_ID.IDLE_GATE.stride * i then some (s.rd BG_PART.IDLE_GATE i)
  else if b = PW_ID.FLOOR.base + PW_ID.FLOOR.stride * i then some (s.rd BG_PART.FLOOR i)
  else if b = PW_ID.ON.base + PW_ID.ON.stride * i then some (s.partOn i).length
  else if b = PW_STAT.BREACH.base + PW_STAT.BREACH.stride * i then some (s.rd BG_PSTAT.BREACH i)
  else if b = PW_STAT.CAUSE.base + PW_STAT.CAUSE.stride * i then some (s.rd BG_PSTAT.CAUSE i)
  else if b = PW_CLMASK0.MASK.base + PW_CLMASK0.MASK.stride * i then some (s.clMask 0 i)
  else if b = PW_CLMASK1.MASK.base + PW_CLMASK1.MASK.stride * i then some (s.clMask 1 i)
  else if b = PW_CLMASK2.MASK.base + PW_CLMASK2.MASK.stride * i then some (s.clMask 2 i)
  else if b = PW_CLMASK3.MASK.base + PW_CLMASK3.MASK.stride * i then some (s.clMask 3 i)
  else if b = PW_CLMASK4.MASK.base + PW_CLMASK4.MASK.stride * i then some (s.clMask 4 i)
  else if b = PW_CLMASK5.MASK.base + PW_CLMASK5.MASK.stride * i then some (s.clMask 5 i)
  else none

/-- The suspect entry that `MG_SUS_IDX` selects (Table 10.6). -/
def State.susField (s : State) (b : Nat) : Option Nat :=
  let e := Table.get none s.mg.sus (s.rd MG_SUS_IDX.IDX)
  if b = MG_SUS_DATA.VALID.base then some (b2n e.isSome)
  else if b = MG_SUS_DATA.SLOWED.base then some (b2n (e.any Sus.slowed))
  else if b = MG_SUS_DATA.N.base then some (min 7 ((e.map (fun x => x.stamps.length)).getD 0))
  else if b = MG_SUS_DATA.CORE.base then some ((e.map Sus.core).getD 0)
  else none

/-- An order of the classes that repeats one or uses code 3 reads as 0x06. -/
def orderRead (v : Nat) : Nat :=
  let l := [v / 16 % 4, v / 4 % 4, v % 4]
  if l.contains 0 && l.contains 1 && l.contains 2 then v else 6

/-- Values out of range that read as a substitute (R386): `v` is the stored value. -/
def State.readAs (s : State) (F : Fld) (i v : Nat) : Nat :=
  let b := F.base
  if b = RG_CFG.FAULT_PT.base then (if 8 ≤ i && i < 10 then max 4 v else v)
  else if b = ENG_FE.FE_LIM.base then v % 32768
  else if b = ENG_TR_CH.SRC.base || b = ENG_DUMP_CFG.SRC.base then (if 2 ≤ v then 0 else v)
  else if b = TH_CFG.ROLE.base then (if i = 24 then 5 else if 5 ≤ v then 4 else v)
  else if b = TH_CFG.STOP_ACT.base then (if 2 ≤ v then 1 else v)
  else if b = BG_CTRL.ORDER.base then orderRead v
  else if b = BG_CLASS.LINK_MIN.base then max 4 (min 16 v)
  else if b = PEL_CFG.NOFOLLOW.base then (let p := s.rd PEL_CFG.PERSIST; if v ≤ p then p + 1 else v)
  else if b = OMB_ADDR.ADDR.base || b = RING_SQ_BASE.ADDR.base || b = RING_CQ_BASE.ADDR.base then v / 64 * 64
  else if b = TRD_BASE.ADDR.base then v / 8192 * 8192
  else if b = FW_CTRL.SW_MAX.base then max 16 v
  else if b = LOG_CTRL.MIN_SEV.base then min 5 v
  else v

/-- What field `F` of instance `i` reads as. -/
def State.fieldRead (s : State) (F : Fld) (i : Nat) : Nat :=
  match s.liveField (F.key i) i with
  | some v => v % 2 ^ F.width
  | none =>
    match s.susField F.base with
    | some v => v % 2 ^ F.width
    | none => s.readAs F i (s.rd F i)

/-- The instances of a field in instance `r` of its register: four clusters share a word of `BG_CLPART`. -/
def FieldDesc.insts (f : FieldDesc) (r : Nat) : List Nat :=
  if f.fld.stride = 0 then [0]
  else if f.fld.stride < 32 then (List.range (32 / f.fld.stride)).map (fun k => 32 / f.fld.stride * r + k)
  else [r]

/-- The lowest bit of a field's instance in its register. -/
def FieldDesc.lsb (f : FieldDesc) (d : RegDesc) (r i : Nat) : Nat :=
  f.fld.key i - 8 * (d.off + d.stride * r)

/-- The fields of a register in an open register that only secure accesses reach (row 8). -/
def FieldDesc.secOnly (f : FieldDesc) : Bool :=
  f.fld.base == PERM.EFF.base || f.fld.base == OMB_CFG.EN.base || f.fld.base == OMB_CFG.PART.base

/-- The value of a register, both words of a pair; write-only and GO fields read as they stand. -/
def State.regValue (s : State) (d : RegDesc) (r : Nat) (ns : Bool) : Nat :=
  sumOf (d.fields.map (fun f =>
    if f.acc = .wo || (ns && f.secOnly) then 0
    else sumOf ((f.insts r).map (fun i => s.fieldRead f.fld i * 2 ^ f.lsb d r i))))

/-! ### Words that are no fields of their own -/

/-- The four words of a log record (Table 16.3). -/
def LogRec.words (r : LogRec) : List Nat :=
  [r.lseq % 65536 * 65536 + b2n r.hw * 32768 + r.sev % 8 * 4096 + r.block % 16 * 256 + r.event % 256,
   r.tick % 2 ^ 32, r.tick / 2 ^ 32 % 256 * 2 ^ 24 + r.arg0 % 2 ^ 24, r.arg1 % 2 ^ 32]

/-- The words of an attribution entry (Table 5.4); words 2 and 3 as one 64-bit value. -/
def attWord0 (e : Option AttEnt) : Nat :=
  (e.map (fun x => x.layer % 65536 * 65536 + x.oper % 65536)).getD 0

def attWord1 (e : Option AttEnt) : Nat :=
  (e.map (fun x => 2 ^ 31 + x.part % 32 * 2 ^ 24 + x.nj % 1000)).getD 0

def attEnergy (e : Option AttEnt) : Nat :=
  (e.map (fun x => x.nj / 1000)).getD 0

/-- The word selected by `SNT_IDX_n` (Table 2.10). -/
def State.sntData (s : State) (n k : Nat) : Nat :=
  if k < 4 then sumOf ((List.range 16).map (fun j => s.rd CORE_DIV.DIV (64 * n + 16 * k + j) * 2 ^ (2 * j)))
  else if k = 4 then s.rd CORE_GATE.GATE n % 2 ^ 32
  else if k = 5 then s.rd CORE_GATE.GATE n / 2 ^ 32
  else if k = 6 then s.rd CORE_RST.RST n % 2 ^ 32
  else if k = 7 then s.rd CORE_RST.RST n / 2 ^ 32
  else if k = 8 then s.rd CORE_FENCE.FENCE n % 2 ^ 32
  else if k = 9 then s.rd CORE_FENCE.FENCE n / 2 ^ 32
  else if k = 10 || k = 11 then
    let pdm := fun m => s.rd PDM.VALID m * 32768 + s.rd PDM.VIOL m * 16384 + s.rd PDM.SLACK m
    let m := 4 * n + 2 * (k - 10)
    pdm (m + 1) * 65536 + pdm m
  else if k = 12 then s.rd SNT_CNT.FTH_EVT n
  else if k = 13 then s.rd SNT_CNT.FTH_CYC n
  else if k = 14 then s.rd SNT_CNT.INJ_DONE n * 65536 + s.rd SNT_CNT.INJ_FAILED n
  else 0

/-- A write of the selected word: its counters are loaded. -/
def State.sntWrite (s : State) (n k v : Nat) : State :=
  if k = 12 then s.wr SNT_CNT.FTH_EVT n v
  else if k = 13 then s.wr SNT_CNT.FTH_CYC n v
  else if k = 14 then (s.wr SNT_CNT.INJ_DONE n (bits 31 16 v)).wr SNT_CNT.INJ_FAILED n (bits 15 0 v)
  else s

/-- IDX advances after an access of `SNT_DATA_n` while AINC is set. -/
def State.sntAdvance (s : State) (n : Nat) : State :=
  if s.on SNT_IDX.AINC n then s.wr SNT_IDX.IDX n (s.rd SNT_IDX.IDX n + 1) else s

/-! ### Reads -/

/-- The half of a 64-bit value that a word shows. -/
def half (hi : Bool) (v : Nat) : Nat :=
  if hi then v / 2 ^ 32 % 2 ^ 32 else v % 2 ^ 32

/-- A read of a half of a SNAP pair: `key` names the pair, `v` is the current value (R390). -/
def State.snapRead (s : State) (key id : Nat) (hi : Bool) (v : Nat) : Nat × State :=
  let sh := Table.get {} s.bus.shadows key
  let put := fun (x : Shadow) => s.setBus (fun b => { b with shadows := Table.set {} b.shadows key x })
  if hi then
    if sh.armed = some id then (sh.hi, put { sh with armed := none })
    else (sh.hi, s.wr GSTAT.SNAP_STALE 0 1)
  else (v % 2 ^ 32, put { hi := v / 2 ^ 32 % 2 ^ 32, armed := some id })

/-- A read that Table 15.1 lets through. -/
def State.readWord (s : State) (a : BusAcc) (off : Nat) : Nat × State :=
  if inAperture off then
    if off < 0x34000 then (Table.get 0 (Table.get {} s.eng.trace (s.rd ENG_TR_CTRL.PAGE)).mem ((off - 0x30000) / 4), s)
    else if off < 0x3C000 then
      let i := 2048 * s.rd LOG_CTRL.PAGE + (off - 0x34000) / 16
      (at0 (Table.get {} s.fw.ring i).words (off / 4 % 4), s)
    else
      let i := 1024 * s.rd EM_ATT_CTRL.PAGE + (off - 0x3C000) / 16
      let e := Table.get none s.em.att i
      match off / 4 % 4 with
      | 0 => (attWord0 e, s)
      | 1 => (attWord1 e, s)
      | 2 => s.snapRead off a.id false (attEnergy e)
      | _ => s.snapRead (off - 4) a.id true (attEnergy e)
  else match findReg off with
    | none => (0, s)
    | some (d, r, hi) =>
      if d.off = 0x240C then (s.sntData r (s.rd SNT_IDX.IDX r), s.sntAdvance r)
      else
        let v := s.regValue d r a.ns
        if d.pair = .snap then s.snapRead (d.off + d.stride * r) a.id hi v
        else (half hi v, s)

/-- A read at the configuration port: data, OKAY, and the state. -/
def State.busRead (s : State) (a : BusAcc) (off : Nat) : Nat × Bool × State :=
  match s.accessCause a false off with
  | some c => (0, false, s.accessError a false off c)
  | none =>
    let (v, s) := s.readWord a off
    (v, true, s)

/-! ### Writes -/

/-- The lock that freezes a field is set. -/
def State.lockedBy (s : State) : LockBy → Bool
  | .none => false
  | .cfg => s.locks.cfg
  | .perm => s.locks.perm
  | .transport => s.locks.transport

/-- A GO bit is written 1: a new request, or ignored with GO_BUSY while it is set (R389). -/
def State.goSet (s : State) (F : Fld) (i : Nat) : State :=
  if s.on F i then s.wr GSTAT.GO_BUSY 0 1 else s.wr F i 1

/-- A field instance that is RO where the field is otherwise writable: ROLE of channel 24 (Table 7.5). -/
def roInst (F : Fld) (i : Nat) : Bool :=
  F.base == TH_CFG.ROLE.base && i == 24

/-- One field instance of a register write, by its access type (Table 0.7, R385 to R387). -/
def State.writeField (s : State) (ns : Bool) (f : FieldDesc) (i v : Nat) : State :=
  let v := v % 2 ^ f.fld.width
  match f.acc with
  | .ro => s
  | .snap => s
  | .wo => s
  | .cnt => s.wr f.fld i v
  | .w1c => s.wr f.fld i (s.rd f.fld i - Nat.land (s.rd f.fld i) v)
  | .w1s => s.wr f.fld i (Nat.lor (s.rd f.fld i) v)
  | .go => if v = 1 then s.goSet f.fld i else s
  | .rw =>
    if (ns && f.secOnly) || roInst f.fld i then s
    else if s.lockedBy f.lock then s.wr GSTAT.LOCK_IGN 0 1
    else s.wr f.fld i (f.clamp v)

/-- Every field of a register from the bits of `v`. -/
def State.writeFields (s : State) (ns : Bool) (d : RegDesc) (r v : Nat) : State :=
  d.fields.foldl (fun s f => (f.insts r).foldl (fun s i => s.writeField ns f i (v / 2 ^ f.lsb d r i)) s) s

/-- A write of a half of a writable pair (R391): _LO is staged, _HI updates both halves. -/
def State.pairWrite (s : State) (d : RegDesc) (r : Nat) (hi : Bool) (v : Nat) : State :=
  let key := d.off + d.stride * r
  match d.fields with
  | [] => s
  | f :: _ =>
    if s.lockedBy f.lock then s.wr GSTAT.LOCK_IGN 0 1
    else if !hi then s.setBus (fun b => { b with staged := Table.set none b.staged key (some (v % 2 ^ 32)) })
    else
      let lo := (Table.get none s.bus.staged key).getD (s.rd f.fld r % 2 ^ 32)
      let s := s.setBus (fun b => { b with staged := Table.set none b.staged key none })
      s.wr f.fld r (lo + v % 2 ^ 32 * 2 ^ 32)

/-- Lock bits are set by a 1 and by nothing else cleared here (R357). -/
def Locks.join (a b : Locks) : Locks :=
  ⟨a.cfg || b.cfg, a.perm || b.perm, a.transport || b.transport, a.fw || b.fw, a.diag || b.diag⟩

def State.setLocks (s : State) (l : Locks) : State :=
  { s with locks := s.locks.join l }

def lock1Of (v : Nat) : Locks :=
  ⟨false, v.testBit 0, v.testBit 1, v.testBit 2, v.testBit 3⟩

/-- Opcodes whose S bit cannot be narrowed (R337). -/
def sFixed (op : Nat) : Bool :=
  [0x00, 0x01, 0x72, 0x73, 0x94, 0x95, 0xF1].contains op

/-- A secure write of `PERM_n.EFF` (R337, R338). -/
def State.permWrite (s : State) (ns : Bool) (op v : Nat) : State :=
  if ns then s
  else if s.locks.perm then s.wr GSTAT.LOCK_IGN 0 1
  else
    let keep := 8 + if sFixed op then 4 else 0
    s.wr PERM.EFF op (Nat.land (fixedMask op) (Nat.lor (v % 32) keep))

/-- A capture by TAKE, after REARM (R412). -/
def State.hsCtrl (s : State) (v : Nat) : State :=
  let s := if v.testBit 30 then (s.wr HS_CTRL.FROZEN 0 0).wr HS_CTRL.MISSED 0 0 else s
  if v.testBit 31 then s.hangSnapshot 0 0 else s

/-- Clamps of one field against another: FSTEP_MAX is no shallower than FSTEP, VMIN not above VMAX. -/
def State.crossClamp (s : State) (off r : Nat) : State :=
  if off = 0x2400 then s.wr SNT_CFG.FSTEP_MAX r (max (s.rd SNT_CFG.FSTEP_MAX r) (s.rd SNT_CFG.FSTEP r))
  else if off = 0x3004 then s.wr GL_VLIM.VMIN r (min (s.rd GL_VLIM.VMIN r) (s.rd GL_VLIM.VMAX r))
  else s

/-- The attribution clear that a newly set CLR asks for (R150). -/
def State.askClear (s : State) (all : Bool) (p : Nat) : State :=
  s.setEm (fun e => { e with clrAll := e.clrAll || all, clrParts := if all then e.clrParts else p :: e.clrParts })

/-- A write of a register with effects beyond its fields, or of any other register, after Table 15.1. -/
def State.writeWord (s : State) (a : BusAcc) (off v : Nat) : State :=
  match findReg off with
  | none => s
  | some (d, r, hi) =>
    if d.off = 0x103C then s.mbCtlWrite r v
    else if d.off = 0x1000 then s.mbDataWrite r a.strb v
    else if d.off = 0x1800 then s.ringCfgWrite r v
    else if (d.off = 0x1804 || d.off = 0x180C) && s.on RING_CFG.EN r then s.wr RING_STAT.CFG_ERR r 1
    else if d.off = 0x1814 then s.sqTailWrite r (bits 31 16 v)
    else if d.off = 0x1818 then s.cqHeadWrite r (bits 31 16 v)
    else if d.off = 0x110 then s.setLocks { cfg := v.testBit 0 }
    else if d.off = 0x114 then s.setLocks (lock1Of v)
    else if d.off = 0x118 then
      if s.locks.transport then s.wr GSTAT.LOCK_IGN 0 1
      else if v % 4 = 1 || v % 4 = 2 then s.wr TRANSPORT.MODE 0 v else s
    else if d.off = 0xD000 then s.permWrite a.ns r v
    else if d.off = 0xB018 then s.heartbeat (v / 2 ^ 16 % 2 ^ RC_HB.COUNT.width)
    else if d.off = 0xC100 then s.hsCtrl v
    else if d.off = 0x240C then (s.sntWrite r (s.rd SNT_IDX.IDX r) v).sntAdvance r
    else if d.off = 0x10004 then
      if !v.testBit 31 then s
      else if s.on PW_STAT.PEND r then s.wr GSTAT.GO_BUSY 0 1
      else (s.wr PW_CTRL.SNAP r 1).wr PW_STAT.PEND r 1
    else if d.pair = .wpair then s.pairWrite d r hi v
    else
      let clr := s.on EM_ATT_CTRL.CLR
      let ssc := s.on GL_CTRL.SSC_APPLY
      let ret := s.on GL_CTRL.RETRAIN
      let flu := s.on LOG_CTRL.FLUSH
      let s := (s.writeFields a.ns d r v).crossClamp d.off r
      if d.off = 0x603C && !clr && s.on EM_ATT_CTRL.CLR then
        s.askClear (s.on EM_ATT_CTRL.CLR_ALL) (s.rd EM_ATT_CTRL.CLR_PART)
      else if d.off = 0x3600 then
        let s := if !ret && s.on GL_CTRL.RETRAIN then s.retrain else s
        if !ssc && s.on GL_CTRL.SSC_APPLY && !s.holdover then s.sscApply else s
      else if d.off = 0xC020 && !flu && s.on LOG_CTRL.FLUSH then s.trigger 6
      else if d.off = 0xB000 && !s.on RC_CTRL.HB_EN then s.disarmHb
      else s

/-- A write at the configuration port: OKAY, and the state. -/
def State.busWrite (s : State) (a : BusAcc) (off v : Nat) : Bool × State :=
  match s.accessCause a true off with
  | some c => (false, s.accessError a true off c)
  | none => (true, if a.strb = 0 then s else s.writeWord a off (v % 2 ^ 32))

/-! ### The commands -/

/-- One AXI read and its response. -/
def State.axiRead (s : State) (a : Access) (off : Nat) : State :=
  let (v, ok, s) := s.busRead (accOf a) off
  s.drive (.busRead v ok)

/-- A read in the hub cycle of a write (R378, R389): it sees the write; an access error of its own keeps ACCESS_ERR set, and
with it the earlier capture, where the write has just cleared the bit.  `held` says that it stood before the write. -/
def State.sameCycleRead (s : State) (a : Access) (held : Bool) (off : Nat) : State :=
  let wins := held && !s.on GSTAT.ACCESS_ERR && (s.accessCause (accOf a) false off).isSome
  (if wins then s.wr GSTAT.ACCESS_ERR 0 1 else s).axiRead a off

/-- One AXI write and its response, and those of a read in the same hub cycle. -/
def State.axiWrite (s : State) (a : Access) (off v : Nat) : State :=
  let held := s.on GSTAT.ACCESS_ERR
  let (ok, s) := s.busWrite (accOf a) off v
  let s := s.drive (.busWrite ok)
  match a.also with
  | some o => s.sameCycleRead a held o
  | none => s

/-- GO (R369, R371): a write of 1 to GO of mailbox `n`. -/
def execGo (n : Nat) (a : Access) (s : State) : Host.Outcome State Fault Refusal :=
  .next (if 16 ≤ n then s.quiet else (s.quiet).axiWrite a (0x103C + 64 * n) (2 ^ 31))

/-- FETCH (R370): a write of 1 to FETCH of mailbox `n`. -/
def execFetch (n : Nat) (a : Access) (s : State) : Host.Outcome State Fault Refusal :=
  .next (if 16 ≤ n then s.quiet else (s.quiet).axiWrite a (0x103C + 64 * n) (2 ^ 30))

/-- SQ_TAIL_WRITE (R363): `v` is the TAIL written. -/
def execSqTailWrite (r v : Nat) (a : Access) (s : State) : Host.Outcome State Fault Refusal :=
  .next (if 15 ≤ r then s.quiet else (s.quiet).axiWrite a (0x1814 + 64 * r) (v % 65536 * 65536))

/-- CQ_HEAD_WRITE (R363): `v` is the HEAD written. -/
def execCqHeadWrite (r v : Nat) (a : Access) (s : State) : Host.Outcome State Fault Refusal :=
  .next (if 15 ≤ r then s.quiet else (s.quiet).axiWrite a (0x1818 + 64 * r) (v % 65536 * 65536))

/-- RING_ENABLE (R362): a write of `RING_CFG_r` with EN set; `v` holds the other bits. -/
def execRingEnable (r v : Nat) (a : Access) (s : State) : Host.Outcome State Fault Refusal :=
  .next (if 15 ≤ r then s.quiet else (s.quiet).axiWrite a (0x1800 + 64 * r) (v % 2 ^ 31 + 2 ^ 31))

/-- RING_DISABLE (R362): a write of `RING_CFG_r` with EN clear. -/
def execRingDisable (r v : Nat) (a : Access) (s : State) : Host.Outcome State Fault Refusal :=
  .next (if 15 ≤ r then s.quiet else (s.quiet).axiWrite a (0x1800 + 64 * r) (v % 2 ^ 31))

/-- TRANSPORT_MODE (R359, R360): a write of `TRANSPORT`. -/
def execTransportMode (v : Nat) (a : Access) (s : State) : Host.Outcome State Fault Refusal :=
  .next ((s.quiet).axiWrite a 0x118 v)

/-- PERM_EFF_WRITE (R337, R338): a write of `PERM_n`. -/
def execPermEffWrite (n v : Nat) (a : Access) (s : State) : Host.Outcome State Fault Refusal :=
  .next (if 256 ≤ n then s.quiet else (s.quiet).axiWrite a (0xD000 + 4 * n) v)

/-- LOCK_CFG (R355, R357): a write of 1 to `LOCK0.CFG`. -/
def execLockCfg (a : Access) (s : State) : Host.Outcome State Fault Refusal :=
  .next ((s.quiet).axiWrite a 0x110 1)

/-- LOCK_PERM (R356). -/
def execLockPerm (a : Access) (s : State) : Host.Outcome State Fault Refusal :=
  .next ((s.quiet).axiWrite a 0x114 1)

/-- LOCK_TRANSPORT (R356). -/
def execLockTransport (a : Access) (s : State) : Host.Outcome State Fault Refusal :=
  .next ((s.quiet).axiWrite a 0x114 2)

/-- LOCK_FW (R356). -/
def execLockFw (a : Access) (s : State) : Host.Outcome State Fault Refusal :=
  .next ((s.quiet).axiWrite a 0x114 4)

/-- LOCK_DIAG (R356). -/
def execLockDiag (a : Access) (s : State) : Host.Outcome State Fault Refusal :=
  .next ((s.quiet).axiWrite a 0x114 8)

/-- PEAK_CLR (R40): a write of 1 to `CAD_CTRL.PEAK_CLR`. -/
def execPeakClr (a : Access) (s : State) : Host.Outcome State Fault Refusal :=
  .next ((s.quiet).axiWrite a 0x400 1)

/-- EM_ATT_CLR (R150): a write of `EM_ATT_CTRL` with CLR set; `v` holds the other bits. -/
def execEmAttClr (v : Nat) (a : Access) (s : State) : Host.Outcome State Fault Refusal :=
  .next ((s.quiet).axiWrite a 0x603C (v % 2 ^ 31 + 2 ^ 31))

/-- ARM (R189): a write of `ENG_TR_CTRL` with ARM set; `v` holds the other bits. -/
def execArm (v : Nat) (a : Access) (s : State) : Host.Outcome State Fault Refusal :=
  .next ((s.quiet).axiWrite a 0x5200 (v % 2 ^ 31 + 2 ^ 31))

/-- RC_CLR_ERR (R290): a write of 1 to `RC_CLR.ERR`. -/
def execRcClrErr (a : Access) (s : State) : Host.Outcome State Fault Refusal :=
  .next ((s.quiet).axiWrite a 0xB034 1)

/-- PW_SNAP (R394, R395): a write of 1 to `PW_CTRL.SNAP` of window `p`. -/
def execPwSnap (p : Nat) (a : Access) (s : State) : Host.Outcome State Fault Refusal :=
  .next (if 32 ≤ p then s.quiet else (s.quiet).axiWrite a (0x10004 + 0x1000 * p) (2 ^ 31))

/-- FLUSH (R407): a write of `LOG_CTRL` with FLUSH set; `v` holds the other bits. -/
def execFlush (v : Nat) (a : Access) (s : State) : Host.Outcome State Fault Refusal :=
  .next ((s.quiet).axiWrite a 0xC020 (Nat.lor v (2 ^ 26)))

/-- TAKE (R412): a write of `HS_CTRL` with TAKE set. -/
def execTake (v : Nat) (a : Access) (s : State) : Host.Outcome State Fault Refusal :=
  .next ((s.quiet).axiWrite a 0xC100 (v % 2 ^ 31 + 2 ^ 31))

/-- REARM (R412): a write of `HS_CTRL` with REARM set. -/
def execRearm (v : Nat) (a : Access) (s : State) : Host.Outcome State Fault Refusal :=
  .next ((s.quiet).axiWrite a 0xC100 (Nat.lor v (2 ^ 30)))

/-- PAIR_LO_WRITE (R391): a write of the _LO word at `off`. -/
def execPairLoWrite (off v : Nat) (a : Access) (s : State) : Host.Outcome State Fault Refusal :=
  .next ((s.quiet).axiWrite a off v)

/-- PAIR_HI_WRITE (R391): a write of the _HI word at `off`. -/
def execPairHiWrite (off v : Nat) (a : Access) (s : State) : Host.Outcome State Fault Refusal :=
  .next ((s.quiet).axiWrite a off v)

/-- REGISTER_WRITE (R381, R385): any other register write at the configuration port. -/
def execRegisterWrite (off v : Nat) (a : Access) (s : State) : Host.Outcome State Fault Refusal :=
  .next ((s.quiet).axiWrite a off v)

/-- RC_HB (R285): a write of `RC_HB`. -/
def execRcHb (v : Nat) (a : Access) (s : State) : Host.Outcome State Fault Refusal :=
  .next ((s.quiet).axiWrite a 0xB018 v)

/-- GL_CTRL written with the limits that stand and one GO bit set. -/
def State.glCtrlWord (s : State) (go : Nat) : Nat :=
  s.rd GL_CTRL.ALERT_PT * 2 ^ 24 + s.rd GL_CTRL.ALERT_HOLD * 2 ^ 16 + s.rd GL_CTRL.DONE_MARGIN * 2 ^ 8 + go

/-- SSC_APPLY (R118): `GL_CTRL.SSC_APPLY` written 1, the other fields written as they stand. -/
def execSscApply (a : Access) (s : State) : Host.Outcome State Fault Refusal :=
  .next ((s.quiet).axiWrite a 0x3600 (s.glCtrlWord 2))

/-- RETRAIN (R114): `GL_CTRL.RETRAIN` written 1, the other fields written as they stand. -/
def execRetrain (a : Access) (s : State) : Host.Outcome State Fault Refusal :=
  .next ((s.quiet).axiWrite a 0x3600 (s.glCtrlWord 1))

/-- SNAP_LO_READ (R390): a read of the _LO word at `off`. -/
def execSnapLoRead (off : Nat) (a : Access) (s : State) : Host.Outcome State Fault Refusal :=
  .next ((s.quiet).axiRead a off)

/-- SNAP_HI_READ (R390): a read of the _HI word at `off`. -/
def execSnapHiRead (off : Nat) (a : Access) (s : State) : Host.Outcome State Fault Refusal :=
  .next ((s.quiet).axiRead a off)

end Sys2Proof.Machine
end

