-- ==== Sys2Proof/Machine/Commands.lean ====
section
/-! DEFINITION. The opcodes of Table 13.5 other than the firmware and image loads: the checks of R333, and what each command
does (R344 to R352). -/

namespace Sys2Proof.Machine

/-! ### The checks (R332, R333, R344) -/

abbrev ones32 : Nat := 0xFFFFFFFF

/-- The bits that Table 13.5 defines in each parameter word of an opcode; words beyond the list are whole. -/
def paramMask (op : Nat) : List Nat :=
  match op with
  | 0x10 => [0xFFFF]
  | 0x11 => [0xFF0000FF]
  | 0x12 => [0x9FFF00FF]
  | 0x14 => [0x1F]
  | 0x20 => [0xFFFF, ones32, 0xFF]
  | 0x21 => [0xFFFF, ones32, 0xFF]
  | 0x24 => [0xFF]
  | 0x31 => [0xF]
  | 0x40 => [3]
  | 0x41 => [3]
  | 0x42 => [ones32, 0xFF]
  | 0x44 => [7]
  | 0x50 => [3]
  | 0x51 => [ones32, 0xFFFF]
  | 0x52 => [0xFFFF0001]
  | 0x60 => [0x1F]
  | 0x61 => [0x8000001F]
  | 0x62 => [0x3F]
  | 0x80 => [0xEF003FFF, 0xFFFF0000]
  | 0x81 => [0xFF]
  | 0x82 => [0x3FFF, 0xF0000603]
  | 0x83 => [0xFF]
  | 0x90 => [0x100]
  | 0x91 => [ones32, 0xFF]
  | 0x92 => [0x13F]
  | 0x93 => [0x3FFFF]
  | 0x94 => [0xF01]
  | 0xF0 => [0xCFFF0000, ones32, 0xFF]
  | _ => []

/-- Every reserved parameter bit is 0. -/
def reservedClear (op : Nat) (ps : List Nat) : Bool :=
  (List.range ps.length).all (fun i => Nat.land (at0 ps i) (Nat.xor ((paramMask op).getD i ones32) ones32) == 0)

/-- A lock bit refuses the packet (R355, R356). -/
def State.lockRefuses (s : State) (p : Packet) : Bool :=
  let op := p.op
  if op = 0x92 then s.locks.cfg && decide (3 ≤ p.par 0 % 16) && decide (p.par 0 % 16 ≤ 6)
  else if op = 0x90 || op = 0x91 || op = 0x93 then s.locks.fw
  else op == 0xF2 && s.locks.diag

/-- Opcodes that reply at completion. -/
def atCompletion (op : Nat) : Bool :=
  [0x20, 0x21, 0x22, 0x23, 0x90, 0x92].contains op

/-- What the boot ROM serves while it waits for firmware after POR (R427). -/
def bootServed (op : Nat) : Bool :=
  [0x00, 0x01, 0x73, 0x95, 0x90, 0x93].contains op

/-- The checks of R333 from step 4 on that do not depend on the opcode's own chapter: the first that fails. -/
def State.precheck (s : State) (n : Nat) (p : Packet) : Option Nat :=
  if s.bootWait && !bootServed p.op then some stBUSY
  else if !(s.rd PERM.EFF p.op).testBit (s.instClass n) then some stNOPERM
  else if !pcntOk p.op p.pcnt then some stBADPARAM
  else if s.lockRefuses p then some stLOCKED
  else if atCompletion p.op && decide (8 ≤ s.outstanding n) then some stBUSY
  else if !reservedClear p.op p.params then some stBADPARAM
  else none

/-- The result of a command: a status with its reply words, or none while it is outstanding. -/
abbrev Result := Option (Nat × List Nat)

/-- What a command does on instance `n`. -/
abbrev Act := State → Nat → Packet → Result × State

def replied (st : Nat) (s : State) (ws : List Nat := []) : Result × State :=
  (some (st, ws), s)

/-- A packet counts in `CMD_CNT.EXEC`: it was executed, or its execution has begun. -/
def executed : Result → Bool
  | none => true
  | some (st, _) => st == stOK || st == stFLOOR || st == stDEFERRED

/-- A hint whose parameter count or reserved bits are refused counts as rejected (R229): `op` is the packet's opcode. -/
def State.hintRefused (s : State) (op st : Nat) : State :=
  if op = 0x30 && st == stBADPARAM then s.inc BG_HINT_CNT.REJECTED else s

/-- The handler takes the next packet, if it carries opcode `op`: it is checked and executed, or refused (R333, R341). -/
def State.runOp (s : State) (op : Nat) (act : Act) : State :=
  match s.nextPacket with
  | none => s
  | some (n, p) =>
    if p.op != op then s
    else
      let s := s.popPacket (n, p)
      match s.precheck n p with
      | some st => ((s.hintRefused op st).answer n p st).answerUndefined
      | none =>
        let (r, s) := act s n p
        let s := if executed r then s.inc CMD_CNT.EXEC else s
        match r with
        | some (st, ws) => (s.answer n p st ws).answerUndefined
        | none => s.answerUndefined

/-! ### Identification and state -/

/-- A register word as a secure read shows it. -/
def State.regWord (s : State) (off : Nat) : Nat :=
  match findReg off with
  | some (d, r, hi) => half hi (s.regValue d r false)
  | none => 0

/-- A command that reads registers. -/
def actRead (offs : List Nat) : Act := fun s _ _ =>
  replied stOK s (offs.map s.regWord)

/-- IDENT (0x00). -/
def execIdent (s : State) : Host.Outcome State Fault Refusal :=
  .next (s.quiet.runOp 0x00 (fun s _ _ =>
    replied stOK s [s.regWord 0, s.regWord 4, s.rd FW_STAT.GEN * 65536 + s.rd FW_STAT.ACTIVE]))

/-- STATUS (0x01): CAD_STAT, RIM_STAT, ENG_STAT, BG_STAT, RC_STAT. -/
def execStatus (s : State) : Host.Outcome State Fault Refusal :=
  .next (s.quiet.runOp 0x01 (actRead [0x404, 0xFC0, 0x5004, 0x4004, 0xB00C]))

/-- ECHO (0x02). -/
def execEcho (s : State) : Host.Outcome State Fault Refusal :=
  .next (s.quiet.runOp 0x02 (fun s _ p => replied stOK s p.params))

/-- READ_TICK (0x03). -/
def execReadTick (s : State) : Host.Outcome State Fault Refusal :=
  .next (s.quiet.runOp 0x03 (fun s _ _ => replied stOK s [half false s.tick, half true s.tick]))

/-! ### Budget (R219, R227, R345) -/

/-- SVC_CAP (0x10): the target of limiter 1. -/
def execSvcCap (s : State) : Host.Outcome State Fault Refusal :=
  .next (s.quiet.runOp 0x10 (fun s _ p => replied stOK (s.giveTarget 1 (p.par 0))))

/-- SET_PART (0x11, R227). -/
def actSetPart : Act := fun s _ p =>
  let w := p.par 0
  let q := bits 28 24 w
  let st := if s.breaching q then stFLOOR else stOK
  replied st (((s.wr BG_PART.CLASS q (bits 31 30 w)).wr BG_PART.IDLE_GATE q (bits 29 29 w)).wr BG_PART.FLOOR q (bits 7 0 w))

def execSetPart (s : State) : Host.Outcome State Fault Refusal :=
  .next (s.quiet.runOp 0x11 actSetPart)

/-- `count` numbers from `first`. -/
def span (first count : Nat) : List Nat :=
  (List.range count).map (· + first)

/-- Every cluster of a range is present; an empty range is none. -/
def State.clusterRange (s : State) (first count : Nat) : Bool :=
  decide (1 ≤ count) && (span first count).all (fun c => isCluster c && s.present c)

/-- ASSIGN (0x12, R219). -/
def actAssign : Act := fun s _ p =>
  let w := p.par 0
  let first := bits 7 0 w
  let count := bits 23 16 w
  if !s.clusterRange first count then replied stBADPARAM s
  else replied stOK ((span first count).foldl (fun s c =>
    (s.wr BG_CLPART.VALID c (bits 31 31 w)).wr BG_CLPART.PART c (bits 28 24 w)) s)

def execAssign (s : State) : Host.Outcome State Fault Refusal :=
  .next (s.quiet.runOp 0x12 actAssign)

/-- BUDGET_READ (0x13). -/
def execBudgetRead (s : State) : Host.Outcome State Fault Refusal :=
  .next (s.quiet.runOp 0x13 (actRead [0x4014, 0x4004, 0x4028, 0x402C]))

/-- PART_READ (0x14). -/
def execPartRead (s : State) : Host.Outcome State Fault Refusal :=
  .next (s.quiet.runOp 0x14 (fun s n p =>
    let o := 0x4200 + 16 * p.par 0
    actRead [o, o + 4, o + 8] s n p))

/-! ### Domains and Rest (R86 to R98, R345, R346) -/

/-- A command becomes outstanding. -/
def State.putOut (s : State) (n : Nat) (p : Packet) (w : Waiting) (reached : List Nat := []) : State :=
  s.setCmd (fun c => { c with
    out := c.out ++ [{ id := c.nextId, inst := n, pkt := p, wait := w, reached := reached }], nextId := c.nextId + 1 })

/-- The stamp in two parameter words from word `i`. -/
def Packet.stamp (p : Packet) (i : Nat) : Nat :=
  p.par (i + 1) % 256 * 2 ^ 32 + p.par i % 2 ^ 32

/-- The reply word of DOMAIN_ON and DOMAIN_OFF: domains that reached the state, the first that did not. -/
def domainWord (reached failed : Nat) : Nat :=
  reached % 256 * 256 + failed % 256

/-- DOMAIN_ON and DOMAIN_OFF (R346). -/
def actDomains (on : Bool) : Act := fun s n p =>
  let first := bits 7 0 (p.par 0)
  let count := bits 15 8 (p.par 0)
  let l := span first count
  if count = 0 || !l.all s.present then replied stBADPARAM s
  else if p.pcnt = 3 then
    let q := s.schedule (s.extend (p.stamp 1)) (.domains first count on (some s.cmd.nextId))
    if q.1 = stOK then (none, q.2.putOut n p (.domains first count on true)) else replied q.1 s
  else match l.find? (fun d => (if on then s.onRefusal d else s.offRefusal d).isSome) with
    | some d => replied ((if on then s.onRefusal d else s.offRefusal d).getD stCONFLICT) s [domainWord 0 d]
    | none =>
      let met := l.filter (fun d => s.dstate d == if on then dON else dOFF)
      let s := l.foldl (fun s d => if on then s.requestOn d else s.requestOff d) s
      if met.length = count then replied stOK s [domainWord count 0xFF]
      else (none, s.putOut n p (.domains first count on false) met)

/-- DOMAIN_ON (0x20). -/
def execDomainOn (s : State) : Host.Outcome State Fault Refusal :=
  .next (s.quiet.runOp 0x20 (actDomains true))

/-- DOMAIN_OFF (0x21). -/
def execDomainOff (s : State) : Host.Outcome State Fault Refusal :=
  .next (s.quiet.runOp 0x21 (actDomains false))

def State.holdRest (s : State) (v : Option Bool) : State :=
  s.setRim (fun r => { r with restHeld := v })

/-- REST_ENTER (R94, R97): held in RUN and in a wake, which completes its own request; of no effect in REST. -/
def actRestEnter : Act := fun s n p =>
  match s.rd RIM_STAT.REST_STATE with
  | 0 => (none, (s.holdRest (some true)).putOut n p .restEnter)
  | 1 => (none, ((s.restFail false).holdRest none).putOut n p .restEnter)
  | 2 => replied stOK s
  | _ => (none, (s.holdRest (some true)).putOut n p .restEnter)

/-- REST_EXIT (R95, R97, R98): held in an entry and in REST; of no effect in RUN; CONFLICT while COOL_STOP is set. -/
def actRestExit : Act := fun s n p =>
  if s.on RIM_STAT.COOL_STOP then replied stCONFLICT s
  else match s.rd RIM_STAT.REST_STATE with
    | 0 => replied stOK s
    | 1 => (none, (s.holdRest (some false)).putOut n p .restExit)
    | 2 => (none, (s.holdRest (some false)).putOut n p .restExit)
    | _ => (none, ((s.restFail true).holdRest none).putOut n p .restExit)

/-- REST_ENTER (0x22). -/
def execRestEnter (s : State) : Host.Outcome State Fault Refusal :=
  .next (s.quiet.runOp 0x22 actRestEnter)

/-- REST_EXIT (0x23). -/
def execRestExit (s : State) : Host.Outcome State Fault Refusal :=
  .next (s.quiet.runOp 0x23 actRestExit)

/-- DOMAIN_READ (0x24). -/
def execDomainRead (s : State) : Host.Outcome State Fault Refusal :=
  .next (s.quiet.runOp 0x24 (fun s n p =>
    let d := p.par 0
    if s.present d then actRead [0x800 + 8 * d, 0x804 + 8 * d] s n p else replied stBADPARAM s))

/-- The status and the reply words of an outstanding command that has ended (R346). -/
def Outstanding.ended (o : Outstanding) : Option (Nat × List Nat) :=
  match o.wait with
  | .domains _ c _ sched =>
    match o.failed with
    | some (d, st) => some (st, [domainWord o.reached.length d])
    | none => if !sched && o.reached.length == c then some (stOK, [domainWord c 0xFF]) else none
  | .restEnter | .restExit =>
    match o.failed with
    | some (_, st) => some (st, [])
    | none => if o.reached.isEmpty then none else some (stOK, [])
  | .fwLoad _ _ _ | .imgLoad _ _ _ _ _ => o.failed.map (fun f => (f.2, []))

/-- Commands that have ended are answered, in the order in which they were taken. -/
def State.completeCommands (s : State) : State :=
  let l := s.cmd.out
  let s := s.setCmd (fun c => { c with out := c.out.filter (fun o => o.ended.isNone) })
  l.foldl (fun s o => match o.ended with
    | some (st, ws) => s.answer o.inst o.pkt st ws
    | none => s) s

/-! ### Hints (R228, R229, R233) -/

/-- The hint of a HINT_PHASE packet. -/
def State.hintOf (s : State) (p : Packet) : Hint :=
  let w1 := p.par 1
  let w2 := p.par 2
  { id := bits 3 0 w2,
    start := s.extend (bits 31 24 w1 * 2 ^ 32 + p.par 0 % 2 ^ 32),
    duration := bits 23 0 w1,
    sparsity := bits 31 16 w2,
    ramp := max 1 (bits 15 8 w2),
    groups := (p.params.drop 3).map (fun w => (bits 31 24 w, bits 23 16 w, bits 15 8 w, bits 7 0 w)) }

/-- The checks of R229 on a hint, but for the room in the table. -/
def State.hintOk (s : State) (p : Packet) (h : Hint) : Bool :=
  let ngrp := bits 7 4 (p.par 2)
  decide (1 ≤ ngrp) && decide (ngrp ≤ 8) && p.pcnt == 3 + ngrp && decide (1 ≤ h.duration) && decide (h.sparsity ≤ 0x7FFF)
    && decide (s.tick + s.inf BG_HINT_CFG.LEAD ≤ h.start) && decide (h.start ≤ s.tick + 2 ^ 38)
    && h.groups.all (fun g => s.clusterRange g.1 g.2.1 && decide (g.2.2.1 < s.budgetImage.profiles.length))

/-- The entry of a held hint. -/
def State.hintEntry (s : State) (id : Nat) : Option Nat :=
  (List.range 8).find? (fun e => match s.hint e with
    | some h => h.id == id
    | none => false)

/-- A hint refused at its command: counted (R229). -/
def hintReject (st : Nat) (s : State) : Result × State :=
  replied st (s.inc BG_HINT_CNT.REJECTED)

/-- HINT_PHASE (R229). -/
def actHintPhase : Act := fun s _ p =>
  let h := s.hintOf p
  if !s.hintOk p h then hintReject stBADPARAM s
  else
    let t := match s.hintEntry h.id with
      | some e => s.withdraw e
      | none => s
    match (List.range 8).find? (fun e => (t.hint e).isNone) with
    | none => hintReject stBUSY s
    | some e =>
      let q := t.schedule (h.start - s.inf BG_HINT_CFG.LEAD) (.prestage e)
      if q.1 != stOK then hintReject q.1 s
      else replied stOK (((q.2.setHint e (some h)).showHints).inc BG_HINT_CNT.ACCEPTED) [e]

/-- HINT_PHASE (0x30). -/
def execHintPhase (s : State) : Host.Outcome State Fault Refusal :=
  .next (s.quiet.runOp 0x30 actHintPhase)

/-- HINT_CANCEL (0x31, R233). -/
def execHintCancel (s : State) : Host.Outcome State Fault Refusal :=
  .next (s.quiet.runOp 0x31 (fun s _ p =>
    match s.hintEntry (p.par 0) with
    | some e => replied stOK (s.withdraw e)
    | none => replied stBADPARAM s))

/-! ### The engine (R176 to R178, R189, R190) -/

/-- LOOP_OPEN (R177): CONFLICT while a switch is pending and in scheduled mode; else from the next boundary. -/
def actLoopOpen : Act := fun s _ p =>
  let n := p.par 0
  if s.on ENG_STAT.SWITCH_PEND || !s.infOn ENG_SET.MODE n then replied stCONFLICT s
  else replied stOK (s.setEng (fun e => { e with
    closeReq := e.closeReq.filter (· != n), openReq := e.openReq.filter (· != n) ++ [n] }))

/-- LOOP_OPEN (0x40). -/
def execLoopOpen (s : State) : Host.Outcome State Fault Refusal :=
  .next (s.quiet.runOp 0x40 actLoopOpen)

/-- LOOP_CLOSE (R178, R345): a set that is not open stays as it is. -/
def actLoopClose : Act := fun s _ p =>
  let n := p.par 0
  replied stOK (s.setEng (fun e => { e with
    openReq := e.openReq.filter (· != n), closeReq := e.closeReq.filter (· != n) ++ [n] }))

/-- LOOP_CLOSE (0x41). -/
def execLoopClose (s : State) : Host.Outcome State Fault Refusal :=
  .next (s.quiet.runOp 0x41 actLoopClose)

/-- The target of a command with an optional stamp: without one, the next boundary (R344). -/
def State.targetOf (s : State) (p : Packet) : Nat :=
  if p.pcnt = 2 then s.extend (p.stamp 0) else s.tick + 1

/-- BANK_SWITCH (R176). -/
def actBankSwitch : Act := fun s _ p =>
  if s.rd ENG_STAT.OPEN != 0 || !s.eng.openReq.isEmpty || s.on ENG_STAT.SWITCH_PEND then replied stCONFLICT s
  else if !(s.bankOf (1 - s.rd ENG_STAT.BANK)).valid then replied stBADPARAM s
  else
    let q := s.schedule (s.targetOf p) .bank
    if q.1 = stOK then replied stOK (q.2.wr ENG_STAT.SWITCH_PEND 0 1) else replied q.1 s

/-- BANK_SWITCH (0x42). -/
def execBankSwitch (s : State) : Host.Outcome State Fault Refusal :=
  .next (s.quiet.runOp 0x42 actBankSwitch)

/-- TRACE_ARM (0x43). -/
def execTraceArm (s : State) : Host.Outcome State Fault Refusal :=
  .next (s.quiet.runOp 0x43 (fun s _ _ => replied stOK (s.wr ENG_TR_CTRL.ARM 0 1)))

/-- ENG_READ (0x44). -/
def execEngRead (s : State) : Host.Outcome State Fault Refusal :=
  .next (s.quiet.runOp 0x44 (fun s n p =>
    let k := p.par 0
    if k < 6 then actRead [0x5100 + 8 * k, 0x5104 + 8 * k, 0x501C] s n p else replied stBADPARAM s))

/-- NODE_DUMP (0xF0, R190): a class-7 event. -/
def execNodeDump (s : State) : Host.Outcome State Fault Refusal :=
  .next (s.quiet.runOp 0xF0 (fun s _ p =>
    let src := if bits 31 30 (p.par 0) = 1 then 1 else 0
    let node := bits 27 16 (p.par 0)
    let q := s.schedule (s.extend (p.stamp 1)) (.dump src node)
    if q.1 = stOK then
      replied stOK (((q.2.wr ENG_DUMP_CFG.SRC 0 src).wr ENG_DUMP_CFG.NODE 0 node).wr ENG_DUMP_STAT.DONE 0 0)
    else replied q.1 s))

/-! ### Carrier and peloton (R247, R345) -/

/-- LEASE (0x50, R247). -/
def execLease (s : State) : Host.Outcome State Fault Refusal :=
  .next (s.quiet.runOp 0x50 (fun s _ p =>
    if p.par 0 = 0 then replied stBADPARAM s
    else
      let q := s.leaseCommand (p.par 0) (p.par 1)
      replied q.1 q.2 [q.2.regWord 0xA010]))

/-- CARRIER_CAP (0x51). -/
def execCarrierCap (s : State) : Host.Outcome State Fault Refusal :=
  .next (s.quiet.runOp 0x51 (fun s _ p => replied stOK ((s.wr CAR_CAP.CAP 0 (p.par 0)).wr CAR_RSV.RESERVE 0 (p.par 1))))

/-- PEL_SET (0x52). -/
def execPelSet (s : State) : Host.Outcome State Fault Refusal :=
  .next (s.quiet.runOp 0x52 (fun s _ p =>
    let s := (s.wr PEL_CTRL.PEL_ID 0 (bits 31 16 (p.par 0))).wr PEL_CTRL.JOIN 0 (p.par 0)
    replied stOK (upTo 8 (fun k s => s.wr PEL_MASK.MASK k (p.par (k + 1))) s)))

/-- PEL_READ (0x53). -/
def execPelRead (s : State) : Host.Outcome State Fault Refusal :=
  .next (s.quiet.runOp 0x53 (actRead [0xA10C, 0xA11C, 0xA028]))

/-! ### Counters and energy (R150, R394, R395) -/

/-- SNAPSHOT (0x60): taken at the next boundary, whose tick is the reply. -/
def execSnapshot (s : State) : Host.Outcome State Fault Refusal :=
  .next (s.quiet.runOp 0x60 (fun s _ p =>
    replied stOK (s.wr PW_STAT.PEND (p.par 0) 1) [half false (s.tick + 1), half true (s.tick + 1)]))

/-- ATT_CLEAR (0x61). -/
def execAttClear (s : State) : Host.Outcome State Fault Refusal :=
  .next (s.quiet.runOp 0x61 (fun s _ p => replied stOK (s.askClear ((p.par 0).testBit 31) (bits 4 0 (p.par 0)))))

/-- ENERGY_READ (0x62). -/
def actEnergyRead : Act := fun s _ p =>
  let words := fun v => replied stOK s [half false v, half true v]
  let n := p.par 0
  if n < 32 then words (s.rd EM_PART_E.ENERGY n)
  else if n = 32 then words (s.rd EM_EDIE.EDIE)
  else if n = 33 then words (s.rd EM_EIN.EIN)
  else if n = 34 then words (s.rd MTR_E.E_IN)
  else replied stBADPARAM s

def execEnergyRead (s : State) : Host.Outcome State Fault Refusal :=
  .next (s.quiet.runOp 0x62 actEnergyRead)

/-! ### Recovery (R290, R292, R295, R347) -/

/-- SOURCE of an error code lies in the accelerator's range. -/
def accelSource (code : Nat) : Bool :=
  decide (0x40 ≤ bits 27 20 code) && decide (bits 27 20 code ≤ 0x7F)

/-- RECOVERY_REPORT (0x70, R292): logged and collected. -/
def execRecoveryReport (s : State) : Host.Outcome State Fault Refusal :=
  .next (s.quiet.runOp 0x70 (fun s _ p =>
    let code := p.par 0
    if (bits 31 28 code = 1 || bits 31 28 code = 2) && accelSource code then
      replied stOK ((s.collectCode code).raise .RC_ACCEL_STEP 0 code)
    else replied stBADPARAM s))

/-- RECOVERY_STEP (R292, R347). -/
def actRecoveryStep : Act := fun s n p =>
  let code := p.par 0
  let level := bits 31 28 code
  let svc := s.instClass n == 2
  let own := errCode level (if svc then srcSVC else srcHOST) (if level = 3 then code % 32 else 0)
  if level < 3 || 5 < level then replied stBADPARAM s
  else if accelSource code || bits 27 20 code = 0 then
    let q := s.requestStep level (if accelSource code then code else own) svc
    replied q.1 q.2
  else replied stBADPARAM s

/-- RECOVERY_STEP (0x71). -/
def execRecoveryStep (s : State) : Host.Outcome State Fault Refusal :=
  .next (s.quiet.runOp 0x71 actRecoveryStep)

/-- WARM_RESTART (0x72, R288): no reply. -/
def execWarmRestart (s : State) : Host.Outcome State Fault Refusal :=
  .next (s.quiet.runOp 0x72 (fun s _ _ => (none, s.beginRestart srcSVC 0)))

/-- ERR_READ (0x73). -/
def execErrRead (s : State) : Host.Outcome State Fault Refusal :=
  .next (s.quiet.runOp 0x73 (fun s _ _ =>
    let t := s.rd RC_ERR_TICK.TICK
    replied stOK s [s.rd RC_ERRCODE.CODE, s.rd RC_ERRLAST.CODE, half false t, half true t]))

/-- ERR_CLEAR (0x74): acts as `RC_CLR.ERR`. -/
def execErrClear (s : State) : Host.Outcome State Fault Refusal :=
  .next (s.quiet.runOp 0x74 (fun s _ _ => replied stOK (s.wr RC_CLR.ERR 0 1)))

/-! ### Suspects and cores (R62, R275, R280, R348) -/

/-- SUSPECT_REPORT (0x80). -/
def execSuspectReport (s : State) : Host.Outcome State Fault Refusal :=
  .next (s.quiet.runOp 0x80 (fun s _ p =>
    let q := s.suspectCommand (p.par 0) (p.par 1)
    replied q.1 q.2))

/-- SUSPECT_CLEAR (0x81). -/
def execSuspectClear (s : State) : Host.Outcome State Fault Refusal :=
  .next (s.quiet.runOp 0x81 (fun s _ p =>
    let c := p.par 0
    if isCluster c && s.present c then
      let q := s.suspectClear c
      replied q.1 q.2
    else replied stBADPARAM s))

/-- CORE_CTRL (R348). -/
def actCoreCtrl : Act := fun s _ p =>
  let core := p.par 0
  let w := p.par 1
  let c := core / 64
  let k := core % 64
  if !(isCluster c && s.present c) then replied stBADPARAM s
  else if w.testBit 30 && !w.testBit 9 && s.isRetiredCore core then replied stCONFLICT s
  else
    let s := if w.testBit 31 then s.wr CORE_DIV.DIV core (w % 4) else s
    let s := if w.testBit 30 then s.wrBit CORE_GATE.GATE c k (w.testBit 9) else s
    let s := if w.testBit 29 then
        (if w.testBit 10 then s.assertReset c (2 ^ k) else s.wrBit CORE_RST.RST c k false)
      else s
    replied stOK (if w.testBit 28 then s.wrBit CORE_FENCE.FENCE c k true else s)

/-- CORE_CTRL (0x82). -/
def execCoreCtrl (s : State) : Host.Outcome State Fault Refusal :=
  .next (s.quiet.runOp 0x82 actCoreCtrl)

/-- MARGIN_READ (0x83). -/
def execMarginRead (s : State) : Host.Outcome State Fault Refusal :=
  .next (s.quiet.runOp 0x83 (fun s n p =>
    let c := p.par 0
    if isCluster c && s.present c then actRead [0x7200 + 8 * c, 0x7204 + 8 * c] s n p else replied stBADPARAM s))

/-! ### Locks and registers (R351, R357) -/

/-- The words of LOCK0 and LOCK1. -/
def State.lockWords (s : State) : List Nat :=
  [b2n s.locks.cfg,
   b2n s.locks.diag * 8 + b2n s.locks.fw * 4 + b2n s.locks.transport * 2 + b2n s.locks.perm]

/-- LOCK_SET (0x94): a 1 sets a lock bit, a 0 leaves it. -/
def execLockSet (s : State) : Host.Outcome State Fault Refusal :=
  .next (s.quiet.runOp 0x94 (fun s _ p =>
    let w := p.par 0
    let s := s.setLocks { lock1Of (w / 256) with cfg := w.testBit 0 }
    replied stOK s s.lockWords))

/-- LOCK_READ (0x95). -/
def execLockRead (s : State) : Host.Outcome State Fault Refusal :=
  .next (s.quiet.runOp 0x95 (fun s _ _ => replied stOK s s.lockWords))

/-- Secure reads in parameter order: the values, whether all were OKAY, and the state. -/
def State.readAll (s : State) : List Nat → List Nat × Bool × State
  | [] => ([], true, s)
  | off :: t =>
    let (v, ok, s) := s.busRead svcAcc off
    let (vs, oks, s) := s.readAll t
    (v :: vs, ok && oks, s)

/-- Secure writes of offset and value pairs in parameter order. -/
def State.writeAll (s : State) : List Nat → Bool × State
  | off :: v :: t =>
    let (ok, s) := s.busWrite svcAcc off v
    let (oks, s) := s.writeAll t
    (ok && oks, s)
  | _ => (true, s)

/-- REG_READ (0xF1, R351). -/
def execRegRead (s : State) : Host.Outcome State Fault Refusal :=
  .next (s.quiet.runOp 0xF1 (fun s _ p =>
    let (vs, ok, s) := s.readAll p.params
    replied (if ok then stOK else stBADPARAM) s vs))

/-- REG_WRITE (0xF2, R351). -/
def execRegWrite (s : State) : Host.Outcome State Fault Refusal :=
  .next (s.quiet.runOp 0xF2 (fun s _ p =>
    let (ok, s) := s.writeAll p.params
    replied (if ok then stOK else stBADPARAM) s))

/-! ### Meter opcodes: on the meter port, or on a port of the governor, which answers two of them from its mirror (R323) -/

/-- A meter opcode: bytes of the meter port, or a packet the handler takes. -/
def State.meterOpcode (s : State) (op : Nat) (m : Option (List Nat)) (act : State → List Nat → Nat × List Nat × State)
    (mirror : Act) : State :=
  match m with
  | some bs => s.meterPort op bs act
  | none => s.runOp op mirror

/-- A meter opcode that the governor refuses. -/
def actMeterOnly : Act := fun s _ _ => replied stNOPERM s

/-- The meter's state as the mirror shows it: 0 UNCAL, 1 RUN, 2 FAULT, 3 ROM_FAULT. -/
def State.mirrorState (s : State) : Nat :=
  if s.on MTR_STAT.ROM_FAULT then 3 else if s.on MTR_STAT.VALID then 1 else if s.on MTR_STAT.UNCAL then 0
  else if s.on MTR_STAT.FAULT then 2 else 0

/-- Word 5 of the last good publication. -/
def State.mirrorWord5 (s : State) : Nat :=
  s.rd MTR_STAT.VALID * 2 ^ 31 + s.rd MTR_STAT.FAULT * 2 ^ 30 + s.rd MTR_STAT.GAP * 2 ^ 29 + s.rd MTR_STAT.SEAL_OPEN * 2 ^ 28
    + s.rd MTR_STAT.WR_OK * 2 ^ 27 + s.rd MTR_STAT.PFW * 2 ^ 26 + s.rd MTR_STAT.UNCAL * 2 ^ 25
    + s.rd MTR_STAT.ROM_FAULT * 2 ^ 24 + s.rd MTR_SHARE.RES * 2 ^ 22 + s.rd MTR_SHARE.CKSEQ

def actMirrorIdent : Act := fun s _ _ =>
  replied stOK s [s.rd MTR_SERIAL.SERIAL, s.rd MTR_ROMCRC.ROMCRC,
    s.rd MTR_SEAL.BREAKS * 65536 + s.rd MTR_SEAL.CAL_GEN, s.mirrorState]

def actMirrorRead : Act := fun s _ _ =>
  let e := s.rd MTR_E.E_IN
  replied stOK s [0, 0, half false e, half true e, s.rd MTR_V.V_MEAN,
    s.rd MTR_IP.I_MEAN * 65536 + s.rd MTR_IP.P_MEAN, s.mirrorWord5]

/-- METER_IDENT (0xA0). -/
def execMeterIdent (m : Option (List Nat)) (s : State) : Host.Outcome State Fault Refusal :=
  .next (s.quiet.meterOpcode 0xA0 m actMeterIdent actMirrorIdent)

/-- METER_READ (0xA1). -/
def execMeterRead (m : Option (List Nat)) (s : State) : Host.Outcome State Fault Refusal :=
  .next (s.quiet.meterOpcode 0xA1 m actMeterRead actMirrorRead)

/-- METER_ACCOUNT (0xA2). -/
def execMeterAccount (m : Option (List Nat)) (s : State) : Host.Outcome State Fault Refusal :=
  .next (s.quiet.meterOpcode 0xA2 m actMeterAccount actMeterOnly)

/-- METER_EVENT (0xA3). -/
def execMeterEvent (m : Option (List Nat)) (s : State) : Host.Outcome State Fault Refusal :=
  .next (s.quiet.meterOpcode 0xA3 m actMeterEvent actMeterOnly)

/-- CAL_WRITE (0xA8). -/
def execCalWrite (m : Option (List Nat)) (s : State) : Host.Outcome State Fault Refusal :=
  .next (s.quiet.meterOpcode 0xA8 m actCalWrite actMeterOnly)

/-- CAL_COMMIT (0xA9). -/
def execCalCommit (m : Option (List Nat)) (s : State) : Host.Outcome State Fault Refusal :=
  .next (s.quiet.meterOpcode 0xA9 m actCalCommit actMeterOnly)

/-- SET_SERIAL (0xAA). -/
def execSetSerial (m : Option (List Nat)) (s : State) : Host.Outcome State Fault Refusal :=
  .next (s.quiet.meterOpcode 0xAA m actSetSerial actMeterOnly)

/-- SET_TOL (0xAB). -/
def execSetTol (m : Option (List Nat)) (s : State) : Host.Outcome State Fault Refusal :=
  .next (s.quiet.meterOpcode 0xAB m actSetTol actMeterOnly)

end Sys2Proof.Machine
end

