-- ==== Sys2Proof/Machine/Crypto.lean ====
section
/-! DEFINITION. The checks of a signature (R399): the SHA-384 digest and the ECDSA P-384 verification of FIPS 186-5.  The
manual names the two standards; their constants are the standards' own (log entry 28). -/

namespace Sys2Proof.Machine

/-- `k n`, with `n` evaluated first. -/
def forceNat {α : Type} (n : Nat) (k : Nat → α) : α :=
  match n with
  | 0 => k 0
  | m + 1 => k (m + 1)

/-! ### SHA-384 -/

/-- The round constants. -/
def shaK : List Nat :=
  [0x428a2f98d728ae22, 0x7137449123ef65cd, 0xb5c0fbcfec4d3b2f, 0xe9b5dba58189dbbc,
   0x3956c25bf348b538, 0x59f111f1b605d019, 0x923f82a4af194f9b, 0xab1c5ed5da6d8118,
   0xd807aa98a3030242, 0x12835b0145706fbe, 0x243185be4ee4b28c, 0x550c7dc3d5ffb4e2,
   0x72be5d74f27b896f, 0x80deb1fe3b1696b1, 0x9bdc06a725c71235, 0xc19bf174cf692694] ++
  [0xe49b69c19ef14ad2, 0xefbe4786384f25e3, 0x0fc19dc68b8cd5b5, 0x240ca1cc77ac9c65,
   0x2de92c6f592b0275, 0x4a7484aa6ea6e483, 0x5cb0a9dcbd41fbd4, 0x76f988da831153b5,
   0x983e5152ee66dfab, 0xa831c66d2db43210, 0xb00327c898fb213f, 0xbf597fc7beef0ee4,
   0xc6e00bf33da88fc2, 0xd5a79147930aa725, 0x06ca6351e003826f, 0x142929670a0e6e70] ++
  [0x27b70a8546d22ffc, 0x2e1b21385c26c926, 0x4d2c6dfc5ac42aed, 0x53380d139d95b3df,
   0x650a73548baf63de, 0x766a0abb3c77b2a8, 0x81c2c92e47edaee6, 0x92722c851482353b,
   0xa2bfe8a14cf10364, 0xa81a664bbc423001, 0xc24b8b70d0f89791, 0xc76c51a30654be30,
   0xd192e819d6ef5218, 0xd69906245565a910, 0xf40e35855771202a, 0x106aa07032bbd1b8] ++
  [0x19a4c116b8d2d0c8, 0x1e376c085141ab53, 0x2748774cdf8eeb99, 0x34b0bcb5e19b48a8,
   0x391c0cb3c5c95a63, 0x4ed8aa4ae3418acb, 0x5b9cca4f7763e373, 0x682e6ff3d6b2b8a3,
   0x748f82ee5defb2fc, 0x78a5636f43172f60, 0x84c87814a1f0ab72, 0x8cc702081a6439ec,
   0x90befffa23631e28, 0xa4506cebde82bde9, 0xbef9a3f7b2c67915, 0xc67178f2e372532b] ++
  [0xca273eceea26619c, 0xd186b8c721c0c207, 0xeada7dd6cde0eb1e, 0xf57d4f7fee6ed178,
   0x06f067aa72176fba, 0x0a637dc5a2c898a6, 0x113f9804bef90dae, 0x1b710b35131c471b,
   0x28db77f523047d84, 0x32caab7b40c72493, 0x3c9ebe0a15c9bebc, 0x431d67c49c100d4c,
   0x4cc5d4becb3e42b6, 0x597f299cfc657e2a, 0x5fcb6fab3ad6faec, 0x6c44198c4a475817]

/-- The eight words of a hash in progress. -/
structure Sha where
  a : Nat
  b : Nat
  c : Nat
  d : Nat
  e : Nat
  f : Nat
  g : Nat
  h : Nat
  deriving DecidableEq, Repr

def shaInit : Sha :=
  let w := [0xcbbb9d5dc1059ed8, 0x629a292a367cd507, 0x9159015a3070dd17, 0x152fecd8f70e5939, 0x67332667ffc00b31, 0x8eb44a8768581511, 0xdb0c2e0d64f98fa7, 0x47b5481dbefa4fa4]
  { a := w.getD 0 0, b := w.getD 1 0, c := w.getD 2 0, d := w.getD 3 0,
    e := w.getD 4 0, f := w.getD 5 0, g := w.getD 6 0, h := w.getD 7 0 }

/-- A 64-bit word rotated right by `n`. -/
def rotr (n x : Nat) : Nat :=
  x / 2 ^ n + x % 2 ^ n * 2 ^ (64 - n)

def shaS0 (x : Nat) : Nat := Nat.xor (rotr 28 x) (Nat.xor (rotr 34 x) (rotr 39 x))
def shaS1 (x : Nat) : Nat := Nat.xor (rotr 14 x) (Nat.xor (rotr 18 x) (rotr 41 x))
def shaR0 (x : Nat) : Nat := Nat.xor (rotr 1 x) (Nat.xor (rotr 8 x) (x / 2 ^ 7))
def shaR1 (x : Nat) : Nat := Nat.xor (rotr 19 x) (Nat.xor (rotr 61 x) (x / 2 ^ 6))

def shaCh (x y z : Nat) : Nat :=
  Nat.xor (Nat.land x y) (Nat.land (2 ^ 64 - 1 - x) z)

def shaMaj (x y z : Nat) : Nat :=
  Nat.xor (Nat.land x y) (Nat.xor (Nat.land x z) (Nat.land y z))

/-- The rounds of the constants `ks`; `w` holds the next sixteen words of the message schedule. -/
def shaRounds : List Nat → List Nat → Sha → Sha
  | [], _, s => s
  | k :: ks, w, s =>
    forceNat ((s.h + shaS1 s.e + shaCh s.e s.f s.g + k + w.getD 0 0) % 2 ^ 64) fun t =>
    forceNat ((t + shaS0 s.a + shaMaj s.a s.b s.c) % 2 ^ 64) fun a =>
    forceNat ((s.d + t) % 2 ^ 64) fun e =>
    forceNat ((shaR1 (w.getD 14 0) + w.getD 9 0 + shaR0 (w.getD 1 0) + w.getD 0 0) % 2 ^ 64) fun v =>
    shaRounds ks (w.drop 1 ++ [v]) { a := a, b := s.a, c := s.b, d := s.c, e := e, f := s.e, g := s.f, h := s.g }

/-- One block of sixteen words. -/
def shaBlock (w : List Nat) (s : Sha) : Sha :=
  let r := shaRounds shaK w s
  { a := (s.a + r.a) % 2 ^ 64, b := (s.b + r.b) % 2 ^ 64, c := (s.c + r.c) % 2 ^ 64, d := (s.d + r.d) % 2 ^ 64,
    e := (s.e + r.e) % 2 ^ 64, f := (s.f + r.f) % 2 ^ 64, g := (s.g + r.g) % 2 ^ 64, h := (s.h + r.h) % 2 ^ 64 }

/-- The number whose bytes, most significant first, are `bs`. -/
def ofBytesBE (bs : List Nat) : Nat :=
  bs.foldl (fun n b => n * 256 + b % 256) 0

/-- The message with its padding, in bytes. -/
def shaPad (bs : List Nat) : List Nat :=
  bs ++ 128 :: List.replicate ((239 - bs.length % 128) % 128) 0 ++ bytesBE 16 (8 * bs.length)

/-- `n` blocks of 128 bytes. -/
def shaBlocks : Nat → List Nat → Sha → Sha
  | 0, _, s => s
  | n + 1, bs, s =>
    shaBlocks n (bs.drop 128) (shaBlock ((List.range 16).map (fun i => ofBytesBE ((bs.drop (8 * i)).take 8))) s)

/-- The SHA-384 digest of a sequence of bytes, as a number of 384 bits. -/
def sha384 (bs : List Nat) : Nat :=
  let m := shaPad bs
  let s := shaBlocks (m.length / 128) m shaInit
  [s.a, s.b, s.c, s.d, s.e, s.f].foldl (fun n w => n * 2 ^ 64 + w) 0

/-! ### ECDSA P-384 -/

abbrev p384 : Nat := 2 ^ 384 - 2 ^ 128 - 2 ^ 96 + 2 ^ 32 - 1
abbrev p384N : Nat := 0xffffffffffffffffffffffffffffffffffffffffffffffffc7634d81f4372ddf581a0db248b0a77aecec196accc52973
abbrev p384B : Nat := 0xb3312fa7e23ee7e4988e056be3f82d19181d9c6efe8141120314088f5013875ac656398d8a2ed19d2a85c8edd3ec2aef
abbrev p384Gx : Nat := 0xaa87ca22be8b05378eb1c71ef320ad746e1d3b628ba79b9859f741e082542a385502f25dbf55296c3a545e3872760ab7
abbrev p384Gy : Nat := 0x3617de4a96262c6f5d9e98bf9292dc29f8f41dbd289a147ce9da3113b5f0b8c00a60b1ce1d7e819d7a431d7c90ea0e5f

/-- A point in Jacobian coordinates: (x / z², y / z³); z = 0 is the point at infinity. -/
structure ECPoint where
  x : Nat
  y : Nat
  z : Nat
  deriving DecidableEq, Repr

def ECPoint.inf : ECPoint := ⟨1, 1, 0⟩

/-- `a − b` modulo `p`. -/
def subP (a b : Nat) : Nat :=
  (a + (p384 - b)) % p384

/-- Twice a point (a = −3). -/
def ECPoint.double (q : ECPoint) : ECPoint :=
  forceNat (q.z * q.z % p384) fun zz =>
  forceNat (3 * ((q.x + zz) * subP q.x zz) % p384) fun m =>
  forceNat (q.y * q.y % p384) fun yy =>
  forceNat (4 * (q.x * yy) % p384) fun v =>
  forceNat (subP (m * m) (2 * v % p384)) fun x =>
  forceNat (subP (m * subP v x) (8 * (yy * yy) % p384)) fun y =>
  forceNat (2 * (q.y * q.z) % p384) fun z =>
  ⟨x, y, z⟩

/-- The sum of a point and the affine point (`x2`, `y2`). -/
def ECPoint.add (q : ECPoint) (x2 y2 : Nat) : ECPoint :=
  if q.z = 0 then ⟨x2, y2, 1⟩
  else
    forceNat (q.z * q.z % p384) fun zz =>
    forceNat (subP (x2 * zz) q.x) fun h =>
    forceNat (subP (y2 * (q.z * zz)) q.y) fun r =>
    if h = 0 then (if r = 0 then q.double else .inf)
    else
      forceNat (h * h % p384) fun hh =>
      forceNat (h * hh % p384) fun hhh =>
      forceNat (q.x * hh % p384) fun v =>
      forceNat (subP (r * r) ((hhh + 2 * v) % p384)) fun x =>
      forceNat (subP (r * subP v x) (q.y * hhh % p384)) fun y =>
      forceNat (h * q.z % p384) fun z =>
      ⟨x, y, z⟩

/-- `b` to the power of `e` modulo `m`, over the low `n` bits of `e`, the highest first; `acc` is the power so far. -/
def powMod (m b e : Nat) : Nat → Nat → Nat
  | 0, acc => acc
  | n + 1, acc => forceNat (if e.testBit n then acc * acc % m * b % m else acc * acc % m) fun a => powMod m b e n a

/-- The inverse of `a` modulo a prime `m` of 384 bits. -/
def invMod (m a : Nat) : Nat :=
  powMod m a (m - 2) 384 1

/-- u1 G + u2 Q over the low `n` bits of the two numbers, the highest first. -/
def mulAdd (u1 u2 x y : Nat) : Nat → ECPoint → ECPoint
  | 0, q => q
  | n + 1, q =>
    let q := q.double
    let q := if u1.testBit n then q.add p384Gx p384Gy else q
    mulAdd u1 u2 x y n (if u2.testBit n then q.add x y else q)

/-- The point (x, y) is one of the curve, in range. -/
def onCurve (x y : Nat) : Bool :=
  decide (x < p384) && decide (y < p384) && y * y % p384 == (subP (x * (x * x % p384)) (3 * x % p384) + p384B) % p384

/-- The signature (r, s) over the digest `e` verifies against the public key (x, y). -/
def ecdsaOk (x y r s e : Nat) : Bool :=
  onCurve x y && decide (0 < r) && decide (r < p384N) && decide (0 < s) && decide (s < p384N) &&
    forceNat (invMod p384N s) fun w =>
    forceNat (e * w % p384N) fun u1 =>
    forceNat (r * w % p384N) fun u2 =>
    let q := mulAdd u1 u2 x y 384 .inf
    q.z != 0 && (
      forceNat (invMod p384 q.z) fun i =>
      q.x * (i * i % p384) % p384 % p384N == r)

end Sys2Proof.Machine
end

