-- ==== Sys2Proof/Machine/Firmware.lean ====
section
/-! DEFINITION. Firmware slots, loads and switches, the firmware outputs of a tick, the log ring, the trace drain, telemetry,
window snapshots and the counters of a partition (chapter 16, R349, R350, R367, R394). -/

namespace Sys2Proof.Machine

/-! ### The firmware outputs of a tick (R31, R122, R173, R201, R204, R206, R217, R232) -/

/-- The limit of a link group or of the stack group: the budget's, under the ceilings of a warning and of an alert. -/
def State.limitOut (s : State) (g budget top : Nat) : Nat :=
  if s.alertGroup g then s.floorOf g else min budget (s.vrwLevel g top)

/-- What the firmware computes from the state of this tick. -/
def State.fwOutputs (s : State) : FwOut :=
  { safe := each 6 (fun k =>
      min (min (s.thermalCeiling k) (s.vrwCeiling k)) (if s.alertOn k then s.inf GL_CTRL.ALERT_PT else 255)),
    vsup := each 6 s.supportedPoint,
    floor := each 6 (fun k => s.rd BG_SECT.FLOOR k),
    hint := each 6 (fun k => s.rd BG_SECT.HINT k),
    ramp := each 6 (fun k => s.hintRamp k (s.tick + 1)),
    lnk8 := s.limitOut 8 (s.rd BG_LIMIT.LNK8) 16,
    lnk9 := s.limitOut 9 (s.rd BG_LIMIT.LNK9) 16,
    bw := s.limitOut 10 (s.rd BG_LIMIT.BW) 15,
    cap := s.rd BG_CAP.P_CAP }

/-! ### Slots and staging (R350, R398, R399) -/

/-- Bytes from byte `off` of a slot's memory. -/
def Slot.store (x : Slot) (off : Nat) (bs : List Nat) : Slot :=
  { x with mem := (List.range bs.length).foldl (fun t i => Table.set 0 t (off + i) (at0 bs i % 256)) x.mem }

/-- The first `n` bytes of a slot. -/
def Slot.first (x : Slot) (n : Nat) : List Nat :=
  (List.range n).map (Table.get 0 x.mem)

/-! ### Signed images (R399, Table 16.1) -/

/-- `n` bytes of an image from byte `off`. -/
def slice (bs : List Nat) (off n : Nat) : List Nat :=
  (bs.drop off).take n

def imageMagic (bs : List Nat) : Nat := ofBytesLE (slice bs 0 4)
def imageGen (bs : List Nat) : Nat := ofBytesLE (slice bs 4 2)
def imageLength (bs : List Nat) : Nat := ofBytesLE (slice bs 8 4)
def imageEntry (bs : List Nat) : Nat := ofBytesLE (slice bs 12 4)

/-- The digest of the 96 bytes of KEY. -/
def imageKeyDigest (bs : List Nat) : Nat :=
  sha384 (slice bs 16 96)

/-- The signature over bytes 0 to 111 followed by bytes 256 to LENGTH − 1 verifies against KEY. -/
def imageSigned (bs : List Nat) : Bool :=
  ecdsaOk (ofBytesBE (slice bs 16 48)) (ofBytesBE (slice bs 64 48)) (ofBytesBE (slice bs 112 48)) (ofBytesBE (slice bs 160 48))
    (sha384 (slice bs 0 112 ++ slice bs 256 (imageLength bs - 256)))

/-- The checks of R399 on the bytes read of an image of kind `magic` for a destination of `room` bytes.  An image shorter than
its header, or of which fewer than LENGTH bytes were read, is refused (DEDUCED, log entry 28). -/
def State.signedOk (s : State) (magic room : Nat) (bs : List Nat) : Bool :=
  s.on FW_STAT.KEY_SET && imageMagic bs == magic && decide (imageLength bs ≤ room) && decide (256 ≤ imageLength bs) &&
    decide (imageLength bs ≤ bs.length) && s.fw.otpDigest == some (imageKeyDigest bs) && imageSigned bs

/-- The inactive slot. -/
def State.inactiveSlot (s : State) : Nat :=
  1 - s.rd FW_STAT.ACTIVE

/-- The checks of R399 on a firmware image. -/
def State.imageOk (s : State) (bs : List Nat) : Bool :=
  s.signedOk 0x50474657 196608 bs

/-- A slot takes an image: VALID, with its generation and the CRC-32 recorded (R398, R404). -/
def State.fillSlot (s : State) (k : Nat) (bs : List Nat) : State :=
  let n := imageLength bs
  let x : Slot := ({ entry := imageEntry bs, length := n } : Slot).store 0 (bs.take n)
  (s.setSlot k (fun _ => { x with crc := crc32 x.bytes })).showSlot k 2 (imageGen bs)

/-! ### FW_LOAD (R400, R401) -/

/-- FW_LOAD: the inactive slot is LOADING until FW_LOAD_DONE. -/
def actFwLoad : Act := fun s n p =>
  let k := s.inactiveSlot
  if s.on FW_STAT.SW_PEND then replied stCONFLICT s
  else if s.slotState k = 1 then replied stBUSY s
  else (none, (s.showSlot k 1 0).putOut n p (.fwLoad (bits 8 8 (p.par 0)) (p.par 1 + p.par 2 * 2 ^ 32) (p.par 3)))

/-- FW_LOAD (0x90). -/
def execFwLoad (s : State) : Host.Outcome State Fault Refusal :=
  .next (s.quiet.runOp 0x90 actFwLoad)

/-- An outstanding command leaves the list and is answered. -/
def State.endOut (s : State) (o : Outstanding) (st : Nat) (ws : List Nat := []) : State :=
  (s.setCmd (fun c => { c with out := c.out.filter (fun x => x.id != o.id) })).answer o.inst o.pkt st ws

/-- The status of a loaded firmware image: R399, then the generation against a VALID active slot (R400). -/
def State.loadStatus (s : State) (inst : Nat) (f : Option (List Nat)) : Nat :=
  match f with
  | none => stBADPARAM
  | some f =>
    let a := s.rd FW_STAT.ACTIVE
    if !s.imageOk f then stBADPARAM
    else if inst != iSVC && s.slotState a == 2 && serialNewer 16 (s.slotGen a) (imageGen f) then stCONFLICT
    else if inst != iSVC && s.slotState a == 2 && (imageGen f + 2 ^ 16 - s.slotGen a) % 2 ^ 16 == 2 ^ 15 then stCONFLICT
    else stOK

/-- Firmware is entered from slot `k` after a wait of the boot ROM (R404, R427). -/
def State.enterFirmware (s : State) (k : Nat) : State :=
  let s := ((s.wr FW_STAT.ACTIVE 0 k).wr FW_STAT.GEN 0 (s.slotGen k)).wr FW_STAT.NO_FW 0 0
  s.setFw (fun f => { f with entered := true })

/-- The boot ROM waits for firmware: after POR, or in a warm restart that found none. -/
def State.waitsForFw (s : State) : Bool :=
  s.bootWait || (s.fw.entered && s.on RC_STAT.HOLDOVER && s.on FW_STAT.NO_FW)

/-- The first load that has not been ended by a restart. -/
def State.fwLoadOut (s : State) : Option (Outstanding × Nat) :=
  s.cmd.out.findSome? (fun o => match o.wait with
    | .fwLoad src _ _ => if o.failed.isNone then some (o, src) else none
    | _ => none)

/-- The bytes a load asked for: w3 of the request. -/
def Outstanding.loadBytes (o : Outstanding) : Nat :=
  match o.wait with
  | .fwLoad _ _ n => n
  | .imgLoad _ _ _ _ n => n
  | _ => 0

/-- FW_LOAD_DONE (R401): the bytes that its reads delivered, `f`, or a read ended in error.  From staging the bytes are those
of the slot. -/
def execFwLoadDone (f : Option (List Nat)) (s : State) : Host.Outcome State Fault Refusal :=
  let s := s.quiet
  .next (match s.fwLoadOut with
    | some (o, src) =>
      if s.holdover && !s.waitsForFw then s
      else
        let k := s.inactiveSlot
        let n := o.loadBytes
        let f := if src = 1 then some ((s.slot k).first (min n 262144)) else f.map (List.take n)
        let st := s.loadStatus o.inst f
        match f with
        | some f =>
          if st = stOK then
            let s := s.fillSlot k f
            let s := if s.waitsForFw then s.enterFirmware k else s
            (s.endOut o stOK [imageGen f]).answerUndefined
          else
            let s := if s.imageOk f then s else s.raise .FW_LOAD_REJ (arg0 k 0)
            ((s.showSlot k 0 0).endOut o st).answerUndefined
        | none => ((s.showSlot k 0 0).endOut o st).answerUndefined
    | none => s)

/-! ### STAGE_WRITE (R350, R401) -/

/-- STAGE_WRITE. -/
def actStageWrite : Act := fun s _ p =>
  let off := p.par 0
  let ws := p.params.drop 1
  let k := s.inactiveSlot
  if off % 4 != 0 || decide (262144 < off + 4 * ws.length) then replied stBADPARAM s
  else if s.on FW_STAT.SW_PEND then replied stCONFLICT s
  else
    let s := if s.slotState k = 2 then s.showSlot k 0 0 else s
    replied stOK (s.setSlot k (fun x => x.store off (wordsLE ws)))

/-- STAGE_WRITE (0x93). -/
def execStageWrite (s : State) : Host.Outcome State Fault Refusal :=
  .next (s.quiet.runOp 0x93 actStageWrite)

/-! ### FW_SWITCH (R401 to R403) -/

/-- FW_SWITCH: a class-6 event. -/
def actFwSwitch : Act := fun s _ p =>
  let st := s.slotState s.inactiveSlot
  if st = 0 then replied stBADPARAM s
  else if st = 1 || s.on FW_STAT.SW_PEND || s.carRole != rMEMBER then replied stCONFLICT s
  else
    let q := s.schedule (s.targetOf p) .switch
    if q.1 = stOK then replied stOK (q.2.wr FW_STAT.SW_PEND 0 1) else replied q.1 s

/-- FW_SWITCH (0x91). -/
def execFwSwitch (s : State) : Host.Outcome State Fault Refusal :=
  .next (s.quiet.runOp 0x91 actFwSwitch)

/-- FW_SWITCHOVER (R402): the class-6 event; outputs are held until the new firmware publishes. -/
def execFwSwitchover (s : State) : Host.Outcome State Fault Refusal :=
  let s := s.quiet
  .next (match s.takeEvent (fun a => match a with | .switch => true | _ => false) with
    | some (_, s) =>
      let k := s.inactiveSlot
      let s := s.wr FW_STAT.SW_PEND 0 0
      if s.slotState k != 2 then s
      else
        let s := (s.wr FW_STAT.ACTIVE 0 k).wr FW_STAT.TENTATIVE 0 1
        (s.setFw (fun f => { f with switchAt := s.tick })).setEng (fun e => { e with staged := none })
    | none => s)

/-- SW_FAIL (R403): no first publication within SW_MAX ticks of the switch. -/
def execSwFail (s : State) : Host.Outcome State Fault Refusal :=
  let s := s.quiet
  .next (if s.on FW_STAT.TENTATIVE && s.past s.fw.switchAt (max 16 (s.inf FW_CTRL.SW_MAX)) then
      let k := s.rd FW_STAT.ACTIVE
      let s := (s.raise .FW_SW_FAIL (arg0 k 0)).showSlot k 0 0
      let s := ((s.wr FW_STAT.TENTATIVE 0 0).wr FW_STAT.ACTIVE 0 (1 - k)).wr FW_STAT.GEN 0 (s.slotGen (1 - k))
      s.beginRestart srcSVC 0
    else s)

/-! ### The first publication (R300, R403, R409, R410) -/

/-- The records a restarted firmware writes first: the code of the restart, then the events dropped in holdover. -/
def State.firstRecords (s : State) : State :=
  let s := if s.rc.owed then (s.setRc (fun r => { r with owed := false })).errRecord (s.rd RC_ERRLAST.CODE) false else s
  let l := s.cad.dropped
  let s := s.setCad (fun c => { c with dropped := [] })
  l.foldl (fun s e => s.logRec { sev := 3, block := 0, event := 0x83, arg0 := arg0 e.1 0, arg1 := e.2 % 2 ^ 32 }) s

/-- The outputs of this tick's handler are published. -/
def State.publishOutputs (s : State) : State :=
  let o := s.fwOutputs
  s.setEng (fun e => { e with pub := o, staged := none })

/-- The points held in holdover are the points in force and published until the engine's next result (R300, R301). -/
def State.keepHeld (s : State) : State :=
  let p := each 6 s.hubPoint
  s.setEng (fun e => { e with force := { e.force with pts := p }, next := { e.next with pts := p } })

/-- FIRST_PUBLICATION: of firmware restarted in holdover (R300), or of firmware switched to.  READY waits for LOCKED (R16). -/
def execFirstPublication (s : State) : Host.Outcome State Fault Refusal :=
  let s := s.quiet
  .next (if s.fw.entered && s.on RC_STAT.HOLDOVER then
      if s.rc.rstLow || s.rc.storm || s.on FW_STAT.NO_FW then s
      else
        let s := (s.startAllRamps.keepHeld.wr RC_STAT.HOLDOVER 0 0).wr GSTAT.HOLDOVER 0 0
        let s := s.firstRecords.resumeLinks.discardWindows false
        let s := if (s.bankOf (s.rd ENG_STAT.BANK)).valid && !s.fw.sramFail then
            (s.wr ENG_STAT.STATE 0 1).wr ENG_STAT.LD_RUN 0 0 else s
        let s := (s.publishOutputs).setFw (fun f => { f with published := true })
        let s := s.raise .RC_WARM_RESTART
        if s.on CAD_STAT.LOCKED then (s.wr GSTAT.READY 0 1).drive .ready else s.setFw (fun f => { f with readyOwed := true })
    else if s.fw.entered && s.on FW_STAT.TENTATIVE then
      let k := s.rd FW_STAT.ACTIVE
      let s := ((s.wr FW_STAT.TENTATIVE 0 0).wr FW_STAT.GEN 0 (s.slotGen k)).firstRecords
      s.publishOutputs.raise .FW_SW_DONE (arg0 k 0)
    else s)

/-! ### IMG_LOAD (R349, R350, R355, R388, R399) -/

/-- The refusals of an image load by the governor's state, at the request and again when it ends. -/
def State.imgRefusal (s : State) (kind set src : Nat) : Option Nat :=
  if 7 ≤ kind then some stBADPARAM
  else if 3 ≤ kind ∧ s.locks.cfg then some stLOCKED
  else if kind = 0 ∧ s.on ENG_STAT.SWITCH_PEND then some stCONFLICT
  else if kind = 1 ∧ !s.isOpen set then some stCONFLICT
  else if src = 1 ∧ s.on FW_STAT.SW_PEND then some stCONFLICT
  else none

/-- IMG_LOAD. -/
def actImgLoad : Act := fun s n p =>
  let w := p.par 0
  match s.imgRefusal (bits 3 0 w) (bits 5 4 w) (bits 8 8 w) with
  | some st => replied st s
  | none => (none, s.putOut n p
      (.imgLoad (bits 3 0 w) (bits 5 4 w) (bits 8 8 w) (p.par 1 + p.par 2 * 2 ^ 32) (p.par 3)))

/-- IMG_LOAD (0x92). -/
def execImgLoad (s : State) : Host.Outcome State Fault Refusal :=
  .next (s.quiet.runOp 0x92 actImgLoad)

/-- Register words of an image: the fields frozen by `LOCK0.CFG`, written as software writes them (R388). -/
def State.imageRegs (s : State) (l : List (Nat × Nat)) : State :=
  l.foldl (fun s e =>
    match findReg e.1 with
    | some (d, r, false) =>
      let fs := d.fields.filter (fun f => f.acc == .rw && f.lock == .cfg)
      let s := fs.foldl (fun s f => (f.insts r).foldl (fun s i => s.writeField false f i (e.2 / 2 ^ f.lsb d r i)) s) s
      s.crossClamp d.off r
    | _ => s) s

/-- The identifier of an image. -/
def imageIdOf : ImageBody → Nat
  | .engine e => e.id
  | .set id _ _ => id
  | .model m => m.id
  | .rim id _ => id
  | .thermal id _ _ => id
  | .margin m => m.id
  | .budget b => b.id

/-- The body fits the KIND and SET of its load. -/
def bodyFits (kind set : Nat) : ImageBody → Bool
  | .engine _ => kind == 0
  | .set _ n _ => kind == 1 && n == set
  | .model _ => kind == 2
  | .rim _ _ => kind == 3
  | .thermal _ _ _ => kind == 4
  | .margin _ => kind == 5
  | .budget _ => kind == 6

/-- The image takes its place: a status and the state (R349). -/
def State.takeImage (s : State) (readBack : Bool) : ImageBody → Nat × State
  | .engine e =>
    let q := s.loadEngine e readBack
    (if q.1 then stOK else stBADPARAM, q.2)
  | .set _ n ks => (stOK, s.loadSet n ks)
  | .model m =>
    let q := s.schedule (s.tick + 1) .model
    (q.1, if q.1 = stOK then q.2.setEm (fun e => { e with next := some m }) else s)
  | .rim _ l => (stOK, s.imageRegs l)
  | .thermal id l ts =>
    (stOK, (s.imageRegs l).setTh (fun t => { t with
      imageId := id, tables := ts.foldl (fun t e => Table.set [] t e.1 e.2) t.tables }))
  | .margin m => (stOK, (s.imageRegs m.regs).setMg (fun x => { x with image := some m }))
  | .budget b => (stOK, (s.imageRegs b.regs).setBg (fun x => { x with image := some b }))

/-- The checks of R399 on a table image. -/
def State.tableOk (s : State) (kind set : Nat) (f : ImageFile) : Bool :=
  s.signedOk 0x50475442 262144 f.bytes && bodyFits kind set f.body

/-- The first image load that has not been ended by a restart. -/
def State.imgLoadOut (s : State) : Option (Outstanding × Nat × Nat × Nat) :=
  s.cmd.out.findSome? (fun o => match o.wait with
    | .imgLoad kind set src _ _ => if o.failed.isNone then some (o, kind, set, src) else none
    | _ => none)

/-- IMG_LOAD_DONE (R349): the image has been read, `f`, or a read ended in error.  From staging the bytes are those of the
slot. -/
def execImgLoadDone (f : Option ImageFile) (s : State) : Host.Outcome State Fault Refusal :=
  let s := s.quiet
  .next (match s.imgLoadOut with
    | some (o, kind, set, src) =>
      if s.holdover then s
      else
        let n := o.loadBytes
        let staged := (s.slot s.inactiveSlot).first (min n 262144)
        let f := f.map (fun f => { f with bytes := if src = 1 then staged else f.bytes.take n })
        let s := if src = 1 then s.showSlot s.inactiveSlot 0 0 else s
        match s.imgRefusal kind set src, f with
        | some st, _ => s.endOut o st
        | none, none => s.endOut o stBADPARAM
        | none, some f =>
          if !s.tableOk kind set f then (s.raise .FW_LOAD_REJ).endOut o stBADPARAM
          else
            let q := s.takeImage f.readBack f.body
            q.2.endOut o q.1 [imageIdOf f.body]
    | none => s)

/-! ### The log ring (R407, R408) -/

/-- The oldest staged record goes into the ring, unless STOP holds it back; the watermark is checked. -/
def State.flushOne (s : State) : State :=
  match s.fw.staging with
  | [] => s
  | r :: t =>
    let rd := s.rd LOG_RD.RD
    if s.on LOG_CTRL.STOP && decide (4096 ≤ (r.lseq + 65536 - rd) % 65536) then s
    else
      let s := s.setFw (fun f => { f with
        staging := t, ring := Table.set {} f.ring (r.lseq % 4096) r, ringNext := (r.lseq + 1) % 65536 })
      let wm := s.rd LOG_CTRL.WM
      if decide ((r.lseq + 65536 - rd) % 65536 < wm) && decide (wm ≤ (r.lseq + 1 + 65536 - rd) % 65536) then
        s.raise .FW_LOG_WM
      else s

/-- One slice of task 6: eight records. -/
def State.logSlice (s : State) : State :=
  upTo 8 (fun _ s => s.flushOne) s

/-- Nothing is left for task 6 to copy. -/
def State.logDrained (s : State) : Bool :=
  match s.fw.staging with
  | [] => true
  | r :: _ => s.on LOG_CTRL.STOP && decide (4096 ≤ (r.lseq + 65536 - s.rd LOG_RD.RD) % 65536)

/-! ### The trace drain (R411) -/

/-- One slice of task 7: 128 bytes of the first block; `busErr` is an error response. -/
def State.drainSlice (s : State) (busErr : Bool) : State :=
  match s.fw.drain with
  | [] => s
  | j :: t =>
    if !s.on TRD_CTRL.EN then s.setFw (fun f => { f with drain := [] })
    else
      let n := 2 ^ min 10 (s.rd TRD_CTRL.LOG2N)
      let a := s.rd TRD_BASE.ADDR / 8192 * 8192 + 8192 * (s.fw.drainBlock % n) + j.copied
      let mem := (Table.get {} s.eng.trace j.chan).mem
      let ws := (List.range 32).map (fun i => Table.get 0 mem ((j.start + j.copied / 4 + i) % 4096))
      let (ns, s) := s.takeFree 1
      let s := s.drive (.hostWrite a (ns == 1) ws)
      if busErr then ((s.setFw (fun f => { f with drain := [] })).wr TRD_CTRL.EN 0 0).doorbell 30
      else if j.copied + 128 < 8192 then s.setFw (fun f => { f with drain := { j with copied := j.copied + 128 } :: t })
      else
        let b := s.fw.drainBlock
        let s := s.setFw (fun f => { f with drain := t, drainBlock := b + 1 })
        (s.wr TRD_STAT.BLOCK 0 (b + 1)).raiseLog .FW_TRD_BLOCK (arg0 j.chan 0) (b % 2 ^ 32)

/-! ### Telemetry (R366, R367, Table 14.2) -/

/-- Words 1 to 13 of a record. -/
def State.telemetryWords (s : State) : List Nat :=
  [half false s.tick, half true s.tick] ++
    ([0x6028, 0x4014, 0x4004, 0xE018, 0xE000, 0x404, 0xFC0, 0xB00C, 0xA10C, 0xA028, 0x501C].map s.regWord)

/-- The record for ring pair `r`, or its drop. -/
def State.telemetryRing (s : State) (hdr : Nat) (ws : List Nat) (r : Nat) : State :=
  if !(s.on RING_CFG.EN r && s.on RING_CFG.TELEM r) then s
  else if s.rd RING_STAT.OWED r < s.cqFree r then
    let e : CEntry := { reply := { hdr := hdr, words := ws ++ [Table.get 0 s.bus.telDropped r] }, tel := true }
    let s := s.setRingOut r (s.ringOut r ++ [e])
    s.setBus (fun b => { b with telDropped := Table.set 0 b.telDropped r 0 })
  else
    (s.inc RING_CNT.TEL_DROP r).setBus (fun b => { b with
      telDropped := Table.upd 0 b.telDropped r (fun n => min (n + 1) 0xFFFFFFFF) })

/-- The record of task 5, at a tick boundary. -/
def State.telemetry (s : State) : State :=
  if !s.bus.telDue then s
  else
    let hdr := 0xFE * 2 ^ 24 + s.bus.telSeq % 4096 * 16 + 14
    let ws := s.telemetryWords
    let s := s.setBus (fun b => { b with telDue := false, telSeq := (b.telSeq + 1) % 4096 })
    let s := if s.ringMode then upTo 15 (fun r s => s.telemetryRing hdr ws r) s
      else upTo 14 (fun i s => s.wr TEL.WORD i (at0 ws i)) (s.wr TEL_HDR.HDR 0 hdr)
    s.doorbell 15

/-! ### Window snapshots and the counters of a partition (R394, R413) -/

/-- The snapshots requested before this boundary. -/
def State.takeSnapshots (s : State) : State :=
  upTo 32 (fun p s =>
    if s.on PW_STAT.PEND p then
      let s := (s.wr PW_ENERGY.ENERGY p (s.rd EM_PART_E.ENERGY p)).wr PW_OTHER.OTHER p (s.rd EM_OTHER.ENERGY p)
      let s := (s.wr PW_BREACH.TICKS p (s.rd BG_BREACH.TICKS p)).wr PW_SNAP_TICK.TICK p s.tick
      (s.wr PW_STAT.PEND p 0).wr PW_CTRL.SNAP p 0
    else s) s

/-- Throttled ticks and feathered cycles of the tick that ends. -/
def State.partCounters (s : State) : State :=
  upTo 32 (fun p s =>
    let thr := (s.partOn p).any (fun c =>
      let k := s.rd SWD_CFG.RG c
      decide (s.pointInForce k < s.rd BG_SECT.PT_D k))
    let s := if thr then s.inc PC_THR.TICKS p else s
    let cyc := sumOf ((s.clustersOf p).map (fun c => if (s.sent c).good then s.rd SNT_STAT.FTH_TICK c else 0))
    if cyc = 0 then s
    else
      let n := Table.get 0 s.fw.fthRem p + cyc
      (s.setFw (fun f => { f with fthRem := Table.set 0 f.fthRem p (n % 256) })).incSat PC_FTH.CYC256 p (n / 256)) s

end Sys2Proof.Machine
end

