-- ==== Sys2Proof/Machine/Domestique.lean ====
section
/-! DEFINITION. Domestique tasks (R34 to R39, Tables 1.3 and 1.10): release, age, promotion, deadline and slices. -/

namespace Sys2Proof.Machine

/-! ### The tasks (Table 1.3) -/

def State.task (s : State) (n : Nat) : Task :=
  Table.get {} s.cad.tasks n

def State.setTask (s : State) (n : Nat) (f : Task → Task) : State :=
  s.setCad (fun c => { c with tasks := Table.upd {} c.tasks n f })

/-- The deadline of task `n` in ticks. -/
def State.deadline (s : State) (n : Nat) : Nat :=
  match n with
  | 1 => 1000000
  | 2 => 600000000
  | 4 => 1000000
  | 5 => 1000 * max 1 (s.rd DOM_CTRL.TELEM_MS)
  | 7 => 10000
  | 8 => 10000
  | _ => 1000

/-- The age at which task `n` is promoted (R34). -/
def State.promoteAt (s : State) (n : Nat) : Nat :=
  s.deadline n - s.deadline n / 4

/-- Slices of a full run. -/
def slicesOf (n : Nat) : Nat :=
  at0 [52, 40, 64, 12, 32, 8, 16, 64, 2, 4] n

/-- Hub cycles of one slice. -/
def sliceCycles (n : Nat) : Nat :=
  at0 [64, 128, 128, 120, 128, 128, 96, 128, 120, 80] n

def State.taskPending (s : State) (n : Nat) : Bool :=
  s.on DOM_STAT.PENDING n

/-- The period of a periodic task has come round in this tick and has not yet been taken. -/
def State.periodDue (s : State) (n period : Nat) : Bool :=
  s.tick % period == n && (s.task n).released != some s.tick

/-- Task `n` is released now: by its period, or by its trigger. -/
def State.releasedNow (s : State) (n : Nat) : Bool :=
  match n with
  | 6 =>
    decide (0 < (s.task 6).due) ||
      (!s.taskPending 6 && (s.on LOG_CTRL.FLUSH || decide (128 ≤ s.fw.staging.length)) && !s.logDrained)
  | 7 => decide (0 < (s.task 7).due) || (!s.taskPending 7 && !s.fw.drain.isEmpty)
  | 8 => (s.carRole == rSTEWARD || s.carRole == rSHADOW) && s.periodDue 8 10000
  | 9 => s.infOn DOM_CTRL.SELFTEST_EN && s.periodDue 9 1000
  | _ => decide (n < 6) && s.periodDue n (s.deadline n)

/-! ### What the slices do -/

/-- One slice of task 0: 256 bytes (R155).  An uncorrectable word of the engine memories makes the tick a lane disagreement:
at END while the program runs, at once when the tick is settled. -/
def State.scrubSlice (s : State) (ue : Option Nat) : State :=
  match ue with
  | none => s
  | some a =>
    let (lane, s) := s.takeFree 1
    if s.eng.running then s.setEng (fun e => { e with ue := some (e.ue.getD (lane, a)) })
    else if s.engineRuns then
      let s := ((s.inc ENG_CNT.LDIS).raiseLog .ENG_LANE_DIS (arg0 lane 0) a).traceEvent 0
      let run := min 7 (s.rd ENG_STAT.LD_RUN + 1)
      let s := s.wr ENG_STAT.LD_RUN 0 run
      if s.inf ENG_CTRL.LD_LIMIT ≤ run then s.engineFault a else s
    else s.logOnly .ENG_LANE_DIS (arg0 lane 0) a

/-- The units of task 1 in turn: 0 to 24 thermal channels, 25 to 36 IMON converters, 37 + n the present sentinel n. -/
def State.calUnits (s : State) : List Nat :=
  List.range 37 ++ (idx 192 s.sentinelPresent).map (· + 37)

/-- The unit that the run of task 1 calibrates. -/
def State.calUnit (s : State) : Nat :=
  at0 s.calUnits ((s.task 1).pos % s.calUnits.length)

/-- The end of a calibration run of channel or converter `u` (R77, R198). -/
def State.calEnd (s : State) (u : Nat) (x : SliceIn) : State :=
  if u < 25 then
    let s := s.wr TH_CHSTAT.CALIB u 0
    if x.corr.natAbs ≤ 200 then s.setChan u (fun c => { c with corr := x.corr, zero := x.zero })
    else s.raiseLog .TH_CAL_FAIL (arg0 u 0)
  else (s.wr RG_IMON_CAL.GAIN (u - 25) x.gain).wr RG_IMON_CAL.OFFSET (u - 25) x.offs

/-- One slice of task 1; the four comparators of a sentinel are trimmed one at a time, ten slices each (R47). -/
def State.calSlice (s : State) (i : Nat) (x : SliceIn) : State :=
  let u := s.calUnit
  let k := i / 10
  let s := if i = 0 then
      let s := s.drive (.calibrate u)
      if u < 25 then s.wr TH_CHSTAT.CALIB u 1 else s
    else s
  if u < 37 then (if i = 39 then s.calEnd u x else s)
  else if i % 10 = 0 then s.trimStart (u - 37) k
  else if i % 10 = 9 then s.trimEnd (u - 37) k (x.errs.getD k 0)
  else s

/-- Slice `i` of a run of task `n`. -/
def State.sliceEffect (s : State) (n i : Nat) (x : SliceIn) : State :=
  match n with
  | 0 => s.scrubSlice x.ue
  | 1 => s.calSlice i x
  | 2 => s.ageingSlice i
  | 3 => s.gainFit i
  | 4 => if i = 31 then s.meterFit else s
  | 5 => if i = 7 then s.setBus (fun b => { b with telDue := true }) else s
  | 6 => s.logSlice
  | 7 => s.drainSlice x.busErr
  | 8 => if i = 1 then s.renewLease else s
  | _ => s.injectAll i

/-- The run has no more to do before all its slices have run. -/
def State.runEmpty (s : State) (n : Nat) : Bool :=
  match n with
  | 0 => (s.task 0).pos == 0
  | 6 => s.logDrained
  | 7 => s.fw.drain.isEmpty
  | _ => false

/-- The slice or the run of task `n` counted: the place in a scrub pass, the unit of the next calibration. -/
def State.advance (s : State) (n left : Nat) : State :=
  match n with
  | 0 => s.setTask 0 (fun t => { t with left := left, pos := (t.pos + 1) % 5120 })
  | 1 => s.setTask 1 (fun t => { t with left := left, pos := if left = 0 then t.pos + 1 else t.pos })
  | _ => s.setTask n (fun t => { t with left := left })

/-- The run of task `n` completes. -/
def State.endRun (s : State) (n : Nat) : State :=
  let s := s.setTask n (fun t => { t with left := 0, overdue := false })
  let s := ((s.wr DOM_STAT.PENDING n 0).wr DOM_STAT.PROMOTED n 0).wr DOM_AGE.AGE n 0
  if n = 6 then s.wr LOG_CTRL.FLUSH 0 0 else s

/-- One slice of task `n` runs to completion. -/
def State.runSlice (s : State) (n : Nat) (x : SliceIn) : State :=
  let left := (s.task n).left - 1
  let s := s.setSpk (fun k => { k with src := if x.src.isEmpty then k.src else x.src })
  let s := (s.sliceEffect n (slicesOf n - (s.task n).left) x).advance n left
  if left = 0 || s.runEmpty n then s.endRun n else s

/-! ### Order (R36, R37) -/

/-- Ticks left to the deadline of the run of task `n`; negative once overdue. -/
def State.slackOf (s : State) (n : Nat) : Int :=
  (s.deadline n : Int) - (s.rd DOM_AGE.AGE n : Int)

/-- The task that `p` accepts with the earliest deadline; ties go to the lower number. -/
def State.earliest (s : State) (p : Nat → Bool) : Option Nat :=
  (idx 10 p).foldl (fun b n => match b with
    | none => some n
    | some m => if s.slackOf n < s.slackOf m then some n else some m) none

/-- Task `n` is promoted in this tick (R34). -/
def State.promoted (s : State) (n : Nat) : Bool :=
  s.taskPending n && (s.on DOM_STAT.PROMOTED n || decide (s.promoteAt n ≤ s.rd DOM_AGE.AGE n))

/-- The promotion slot (R36): whole slices of promoted tasks while `room` cycles hold the next one. -/
def State.promotionSlot : Nat → Nat → List SliceIn → State → State
  | 0, _, _, s => s
  | f + 1, room, xs, s =>
    match s.earliest s.promoted with
    | some n =>
      if sliceCycles n ≤ room then State.promotionSlot f (room - sliceCycles n) xs.tail (s.runSlice n (xs.headD {}))
      else s
    | none => s

/-- The ages of the runs that have not completed, at a tick boundary. -/
def State.ageTasks (s : State) : State :=
  upTo 10 (fun n s => if s.taskPending n then s.incSat DOM_AGE.AGE n 1 else s) s

/-! ### The commands -/

/-- DOM_RELEASE (R38, R39, R407): a run starts, or the release merges into the run that is pending. -/
def execDomRelease (n : Nat) (s : State) : Host.Outcome State Fault Refusal :=
  let s := s.quiet
  .next (if decide (n < 10) && !s.holdover && s.releasedNow n then
      let s' := s.setTask n (fun t => { t with due := t.due - 1, released := some s.tick })
      if s.taskPending n then s'.inc DOM_STAT.MERGED n
      else
        let s := s'.setTask n (fun t => { t with left := slicesOf n, overdue := false })
        ((s.wr DOM_STAT.PENDING n 1).wr DOM_STAT.PROMOTED n 0).wr DOM_AGE.AGE n 1
    else s)

/-- DOM_PROMOTE (R34). -/
def execDomPromote (n : Nat) (s : State) : Host.Outcome State Fault Refusal :=
  let s := s.quiet
  .next (if decide (n < 10) && s.promoted n then s.wr DOM_STAT.PROMOTED n 1 else s)

/-- DOM_OVERDUE (R35): once for each run. -/
def execDomOverdue (n : Nat) (s : State) : Host.Outcome State Fault Refusal :=
  let s := s.quiet
  .next (if decide (n < 10) && s.taskPending n && decide (s.deadline n ≤ s.rd DOM_AGE.AGE n) && !(s.task n).overdue then
      let s := (s.setTask n (fun t => { t with overdue := true })).inc DOM_STAT.OVERDUE n
      s.raiseLog .CAD_OVERDUE (arg0 n 0)
    else s)

/-- The slack of this tick, from the publish gate to cycle C = P, has room for a slice of task `n` (R37, Table 1.2). -/
def State.slackHolds (s : State) (n : Nat) : Bool :=
  decide (600 + s.cad.slackUsed + sliceCycles n ≤ s.period / 256)

/-- DOM_SLICE (R37): a slice starts in the slack, in the order of R36, while the slack has room for it. -/
def execDomSlice (n : Nat) (x : SliceIn) (s : State) : Host.Outcome State Fault Refusal :=
  let s := s.quiet
  .next (if s.hubRuns && s.earliest s.taskPending == some n && s.slackHolds n then
      (s.setCad (fun c => { c with slackUsed := c.slackUsed + sliceCycles n })).runSlice n x
    else s)

end Sys2Proof.Machine
end

