-- ==== Sys2Proof/Machine/Tick.lean ====
section
/-! DEFINITION. Cadence (chapter 1): teeth, synthesised ticks and relock, the tick boundary, and the firmware publish point. -/

namespace Sys2Proof.Machine

/-! ### Events that fall due (R26 to R29, R301) -/

/-- What a class-4 to class-7 event dropped in holdover leaves behind (R301). -/
def State.dropPending (s : State) : EvAct → State
  | .model => s.setEm (fun e => { e with next := none })
  | .bank => s.wr ENG_STAT.SWITCH_PEND 0 0
  | .region n _ => s.setEng (fun e => { e with regionPend := Table.set false e.regionPend n false })
  | .switch => s.wr FW_STAT.SW_PEND 0 0
  | _ => s

/-- One entry of the queue at a boundary: it waits, is deferred (R28; a LATE event's target is the boundary at which it
first falls due), is dropped in holdover (R301), or falls due. -/
def State.markOne (s : State) (e : QEvent) : State :=
  let keep : State → QEvent → State := fun s e => s.setCad (fun c => { c with queue := c.queue ++ [e] })
  if e.due || decide (s.tick < e.fire) then keep s e
  else if s.on CAD_STAT.LAST_SYNTH && syncCritical e.act.cls && !e.deferred then
    let s := (s.inc CAD_DEFER_CNT.DEFER).raiseLog .CAD_DEFER (arg0 e.act.cls 0) (e.fire % 2 ^ 32)
    keep s { e with deferred := true, fire := s.tick + 1 }
  else if s.holdover && e.act.cls != 1 && e.act.cls != 3 then
    (s.setCad (fun c => { c with dropped := c.dropped ++ [(e.act.cls, e.target)] })).dropPending e.act
  else keep s { e with due := true }

/-- The entries of the queue at a tick boundary, with the share checkpoint of R324 (class 3) at TICK mod 100,000 = 0. -/
def State.markDue (s : State) : State :=
  let l := s.cad.queue
  let l := if s.tick % 100000 = 0 then l ++ [{ target := s.tick, fire := s.tick, act := .share }] else l
  l.foldl State.markOne (s.setCad (fun c => { c with queue := [] }))

/-! ### The tick boundary (R23, R30 to R32, R36, R388, R428, R436) -/

/-- The firmware's use of the tick that ends (Table 1.9). -/
def State.fwTickEnd (s : State) : State :=
  let s := s.wr CAD_BUDGET.FW_LAST 0 s.cad.fwCyc
  let s := s.wr CAD_BUDGET_PEAK.FW_PEAK 0 (max (s.rd CAD_BUDGET_PEAK.FW_PEAK) s.cad.fwCyc)
  let s := s.setCad (fun c => { c with fwCyc := 0, fwDone := false, abandoned := false, slackUsed := 0 })
  if s.on CAD_CTRL.PEAK_CLR then
    ((s.wr CAD_BUDGET_PEAK.FW_PEAK 0 0).wr CAD_BUDGET_PEAK.ENG_PEAK 0 0).wr CAD_CTRL.PEAK_CLR 0 0
  else s

/-- TICK advances by one (R23). -/
def State.nextTick (s : State) : State :=
  { s with tick := s.tick + 1 }

/-- The in-force copies of the fields frozen by `LOCK0.CFG` are loaded while it is set (R14, R388). -/
def State.loadInForce (s : State) : State :=
  if s.locks.cfg then { s with inForce := s.rwl } else s

/-- The handler's work at a boundary in the order of R32: safety, the promotion slot, then the rest; its outputs are staged.
`room` is the promotion slot: 128 cycles, or what recovery work leaves of the handler's 600 where that is less. -/
def State.handlerBoundary (s : State) (room : Nat) (xs : List SliceIn) : State :=
  if !s.hubRuns then s
  else
    let s := s.alertResponse.shutRecovery
    let s := State.promotionSlot 2 room xs s
    let s := s.budgetFirmware.hubVoltage
    let s := if s.on GL_CTRL.SSC_APPLY && !s.gl.sscRun then s.sscApply else s
    let o := s.fwOutputs
    s.setEng (fun e => { e with staged := some o })

/-- READY at cold start (R428): published, LOCKED and `LOCK0.CFG` set; the EVENT byte of its record is a free value.  After a
warm restart whose first publication came before LOCKED, READY follows at LOCKED (R16, R300). -/
def State.readyBoundary (s : State) : State :=
  if s.fw.readyOwed && s.hubRuns && s.on CAD_STAT.LOCKED then
    ((s.wr GSTAT.READY 0 1).setFw (fun f => { f with readyOwed := false })).drive .ready
  else if s.hubRuns && s.fw.published && s.on CAD_STAT.LOCKED && s.locks.cfg && !s.on GSTAT.READY then
    let (ev, s) := s.takeFree 8
    let s := (s.wr GSTAT.READY 0 1).fwRec { sev := 2, block := 13, event := ev }
    (s.doorbell 31).drive .ready
  else s

/-- The end of the tick: what the engine, the rim, the firmware and the counters of a partition make of it. -/
def State.endTick (s : State) (src : List Nat) : State :=
  (((((s.engTickEnd).applyWaiting).flushSubticks src).fwTickEnd).partCounters).busOk

/-- What hardware does at the start of a tick, from the in-force copies on. -/
def State.hardwareBoundary (s : State) (capSet : Nat) : State :=
  let codes := s.eng.force.nine
  let s := (((s.telemTick).sampleCapSet capSet).pelotonBoundary).budgetHardware
  let s := (s.applyOutputs).mirrorBoundary
  let s := ((s.thermalBoundary).marginBoundary).energyBoundary
  let s := ((s.rimBoundary).quietTick).carrierBoundary
  let s := (s.rcBoundary).deferWave
  ((s.engineBoundary codes).transportBoundary).markDue

/-- The tick boundary: `synth` tells a synthesised tick from an accepted one. -/
def State.boundary (s : State) (i : TickIn) (synth : Bool) : State :=
  let s := ((s.endTick i.src).nextTick).latchCells i.src i.taps
  let s := s.setCad (fun c => { c with boundary := 256 * i.now })
  let s := (s.wrB CAD_STAT.LAST_SYNTH 0 synth).loadInForce
  let s := s.hardwareBoundary i.capSet
  let s := if s.holdover then s else s.ageTasks
  let s := s.handlerBoundary (min 128 (600 - i.recCycles)) i.slot
  let s := (s.readyBoundary).takeSnapshots
  let s := if s.hubRuns then s.telemetry else s
  if s.handlerTakes then s.completeCommands.answerUndefined else s

/-! ### Teeth (R16 to R22) -/

/-- W in 1/256 hub cycles: floor(3P/100) cycles (R17). -/
def State.halfWidth (s : State) : Nat :=
  256 * (3 * s.period / 25600)

/-- A tooth at `now` lies in the validation window of the next tick (R17). -/
def State.inWindow (s : State) (now : Nat) : Bool :=
  let e := s.cad.exp + s.period
  decide (e ≤ 256 * now + s.halfWidth) && decide (256 * now ≤ e + s.halfWidth)

/-- A tooth that is discarded counts as noise (R18). -/
def State.noise (s : State) : State :=
  (s.inc CAD_NOISE_CNT.NOISE).raise .CAD_NOISE

/-- P after an accepted tooth that follows an accepted one (R20), in 1/256 cycle, the quotient truncated. -/
def nextPeriod (p gap : Nat) : Nat :=
  ((p : Int) + Int.tdiv ((gap : Int) - p) 64).toNat

/-- The tooth at `now` becomes the tick (R18, R21): the next E counts from it. -/
def State.acceptTooth (s : State) (i : TickIn) : State :=
  let s := s.setCad (fun c => { c with exp := 256 * i.now, lastTooth := i.now })
  (s.wr CAD_STAT.SYNTH_RUN 0 0).boundary i false

/-- A tooth between 0.5 P and 1.5 P after the last tick (R22). -/
def State.inRelock (s : State) (now : Nat) : Bool :=
  decide (s.cad.boundary + s.period / 2 ≤ 256 * now) && decide (256 * now ≤ s.cad.boundary + 3 * s.period / 2)

/-- The tooth that ends a relock becomes the tick (R22). -/
def State.endRelock (s : State) (i : TickIn) : State :=
  let s := ((s.wr CAD_STAT.CADENCE_LOST 0 0).wr CAD_STAT.RELOCKING 0 0).inc CAD_RELOCK_CNT.RELOCK
  ((s.setCad (fun c => { c with relRun := 0 })).raise .CAD_RELOCK).acceptTooth i

/-- The spacing of a tooth seen while CADENCE_LOST is set; the ninth in a row sets RELOCKING (R22). -/
def State.relockSpacing (s : State) (now : Nat) : State :=
  if !s.on CAD_STAT.CADENCE_LOST || s.on CAD_STAT.RELOCKING then s
  else
    let gap := 256 * (now - s.cad.relLast)
    let good := decide (s.period ≤ gap + s.halfWidth) && decide (gap ≤ s.period + s.halfWidth)
    let run := if s.cad.relRun = 0 then 1 else if good then s.cad.relRun + 1 else 1
    let s := s.setCad (fun c => { c with relRun := run, relLast := now })
    if 9 ≤ run then s.wr CAD_STAT.RELOCKING 0 1 else s

/-- A tooth before LOCKED: accepted without validation (R16). -/
def State.learnTooth (s : State) (i : TickIn) : State :=
  let n := s.cad.teeth + 1
  let s := s.setCad (fun c => { c with
    teeth := n, firstTooth := if n = 1 then i.now else c.firstTooth, tooth64 := if n = 64 then i.now else c.tooth64 })
  s.acceptTooth i

/-- A tooth while LOCKED, outside relock (R17 to R20). -/
def State.validateTooth (s : State) (i : TickIn) : State :=
  let s := if s.inWindow i.now then
      let s := if s.on CAD_STAT.LAST_SYNTH then s
        else s.wr CAD_PERIOD.PERIOD 0 (nextPeriod s.period (256 * (i.now - s.cad.lastTooth)))
      s.acceptTooth i
    else s.noise
  s.relockSpacing i.now

/-- TOOTH (R16 to R18, R20 to R23). -/
def execTooth (i : TickIn) (s : State) : Host.Outcome State Fault Refusal :=
  let s := s.quiet
  .next (if !s.on CAD_STAT.LOCKED then s.learnTooth i
    else if s.on CAD_STAT.RELOCKING then (if s.inRelock i.now then s.endRelock i else s.noise)
    else s.validateTooth i)

/-- LOCKED (R16): after the 64th tooth P is the mean of the 63 intervals. -/
def execLocked (s : State) : Host.Outcome State Fault Refusal :=
  let s := s.quiet
  .next (if !s.on CAD_STAT.LOCKED && decide (64 ≤ s.cad.teeth) then
      (s.wr CAD_PERIOD.PERIOD 0 (256 * (s.cad.tooth64 - s.cad.firstTooth) / 63)).wr CAD_STAT.LOCKED 0 1
    else s)

/-- `now` is the hub cycle of the moment `t`, given in 1/256 cycle. -/
def atCycle (t now : Nat) : Bool :=
  decide (t < 256 * now + 256) && decide (256 * now < t + 256)

/-- A tick is synthesised (R19, R21). -/
def State.synthesise (s : State) (i : TickIn) (e : Nat) : State :=
  let run := min 31 (s.rd CAD_STAT.SYNTH_RUN + 1)
  let s := ((s.wr CAD_STAT.SYNTH_RUN 0 run).inc CAD_SYNTH_CNT.SYNTH).raise .CAD_SYNTH
  let s := s.setCad (fun c => { c with exp := e, lostDue := c.lostDue || decide (run = 16) })
  s.boundary i true

/-- SYNTHESISED_TICK: the window closes at E + W (R19), or 1.5 P pass in relock (R22). -/
def execSynthesisedTick (i : TickIn) (s : State) : Host.Outcome State Fault Refusal :=
  let s := s.quiet
  let e := s.cad.exp + s.period
  .next (if !s.on CAD_STAT.LOCKED then s
    else if s.on CAD_STAT.RELOCKING then
      (if atCycle (s.cad.boundary + 3 * s.period / 2) i.now then s.synthesise i (256 * i.now) else s)
    else if atCycle (e + s.halfWidth) i.now then s.synthesise i e
    else s)

/-- CADENCE_LOST (R21): SYNTH_RUN has reached 16. -/
def execCadenceLost (s : State) : Host.Outcome State Fault Refusal :=
  let s := s.quiet
  .next (if s.cad.lostDue then
      let s := s.setCad (fun c => { c with lostDue := false, relRun := 0 })
      ((s.wr CAD_STAT.CADENCE_LOST 0 1).inc CAD_RELOCK_CNT.LOST).raise .CAD_LOST
    else s)

/-- RELOCK (R22): the next valid tooth ends the relock. -/
def execRelock (i : TickIn) (s : State) : Host.Outcome State Fault Refusal :=
  let s := s.quiet
  .next (if s.on CAD_STAT.RELOCKING && s.inRelock i.now then s.endRelock i else s)

/-! ### The firmware publish point (R31) -/

/-- The trace points the firmware writes in a tick, of the groups TP_EN enables (R409): which, and their arguments, are the
image's, so free values. -/
def State.tracePoints (s : State) : State :=
  (idx 32 (s.bit TP_EN.EN)).foldl (fun s _ =>
    let (b, s) := s.takeFree 1
    let (a, s) := s.takeFree 24
    let (v, s) := s.takeFree 32
    if b = 1 then s.logRec { sev := 0, block := 15, event := 0x86, arg0 := a, arg1 := v } else s) s

/-- FW_PUBLISH (R31, R425): the staged outputs are published for the next tick. -/
def execFwPublish (cycles : Nat) (s : State) : Host.Outcome State Fault Refusal :=
  let s := s.quiet
  .next (if s.hubRuns && !s.rc.rstLow && !s.cad.fwDone && decide (cycles ≤ 600) then
      let o := s.eng.staged.getD s.fwOutputs
      let s := s.tracePoints.setEng (fun e => { e with pub := o, staged := none })
      (s.setCad (fun c => { c with fwCyc := cycles, fwDone := true })).setFw (fun f => { f with published := true })
    else s)

/-- FW_OVERRUN (R31, R33): the gate closes at cycle 600, and the handler abandons the tick. -/
def execFwOverrun (s : State) : Host.Outcome State Fault Refusal :=
  let s := s.quiet
  .next (if s.hubRuns && s.fw.published && !s.cad.fwDone then
      let s := s.setEng (fun e => { e with staged := none })
      let s := s.setCad (fun c => { c with
        fwCyc := 600, fwDone := true, abandoned := true, fwOvr := s.tick :: c.fwOvr.filter (fun t => decide (s.tick < t + 1000)) })
      (s.inc CAD_OVERRUN.FW).raise .CAD_FW_OVR
    else s)

end Sys2Proof.Machine
end

