-- ==== Sys2Proof/Machine/Boot.lean ====
section
/-! DEFINITION. Power-on reset, the boot ROM and OTP provisioning (R422 to R427). -/

namespace Sys2Proof.Machine

/-- The bit addresses of the fields that the integrator ties off. -/
def tieKeys : List Nat :=
  (List.range 6).map SPK_PRESENT.PRESENT.key
    ++ (List.range 12).map RG_CFG.TYPE.key
    ++ (List.range 248).flatMap (fun n => [SWD_CFG.RG.key n, SWD_CFG.KIND.key n, SWD_CFG.PRESENT.key n])
    ++ (List.range 24).flatMap (fun n => [GL_CFG.RG.key n, GL_CFG.PHASES.key n, GL_CFG.PRESENT.key n])
    ++ [CAR_CFG.CARRIER.key 0, CAR_CFG.DIE.key 0]
    ++ (List.range 8).map OMB_CFG.DOMAIN.key
    ++ [CAPS.CLUSTERS.key 0, CAPS.DOMAINS.key 0, CAPS.GLEUB.key 0, CAPS.RAILS.key 0, CAPS2.STACKS.key 0,
        CAPS2.LINKS.key 0, CAPS2.AUX.key 0]

/-- The seed of the backoff LFSR (R235). -/
def State.lfsrSeed (s : State) : Nat :=
  Nat.lor 0x8001 (Nat.lor (s.rd CAR_CFG.CARRIER * 2 ^ 7) (s.rd CAR_CFG.DIE * 2))

/-- What a POR leaves (R422): the meter macro, OTP, the tie-offs, the pin GOV_RST_N; the queue and the count of free values
are the model's own. -/
def State.cleared (s : State) : State :=
  { State.reset with
    fields := s.fields.filter (fun e => tieKeys.contains e.1),
    mtr := s.mtr,
    bg := { lfsr := s.lfsrSeed },
    mg := { otp := s.mg.otp },
    rc := { rstLow := s.rc.rstLow },
    fw := {
      otpDigest := s.fw.otpDigest, otpBootSrc := s.fw.otpBootSrc, otpBootAddr := s.fw.otpBootAddr,
      otpProvCrc := s.fw.otpProvCrc, otpProvLock := s.fw.otpProvLock },
    free := s.free,
    pending := s.pending }

/-- A present link leaves DOWN: TRAIN, or FAULT where its pad loop-back failed (R114, R426). -/
def State.startLink (s : State) (failed : Bool) (n : Nat) : State :=
  let s := s.enterTrain n
  if failed then s.linkFault n else s

/-- The provisioning fields as bytes: the digest most significant byte first, BOOT_SRC in one byte, BOOT_ADDR least
significant byte first (log entry 115). -/
def State.provBytes (s : State) : List Nat :=
  bytesBE 48 (s.fw.otpDigest.getD 0) ++ s.fw.otpBootSrc :: bytesLE 8 s.fw.otpBootAddr

/-- The PROV_CRC test of the self-test fails (R424, R426). -/
def State.provBad (s : State) : Bool :=
  crc32 s.provBytes != s.fw.otpProvCrc

/-- The boot self-test (R426): one record with the failing tests, and what each failure brings. -/
def State.selfTest (s : State) (t : SelfTest) : State :=
  let bits := t.bits % 16 + (if s.provBad then 16 else 0)
  let noFw := bits.testBit 0 || (bits.testBit 1 && t.sramFw)
  let s := if bits = 0 then s
    else s.logRec { sev := 4, block := 11, event := 0x80, arg1 := 0x30 * 2 ^ 20 + bits }
  let s := if noFw then (s.wr FW_STAT.NO_FW 0 1).setFw (fun f => { f with bootFail := true }) else s
  let s := if bits.testBit 1 && !t.sramFw then s.setFw (fun f => { f with sramFail := true }) else s
  let s := if bits.testBit 2 then
      let (a, s) := s.takeFree 12
      s.engineFault a
    else s
  (idx 24 (fun n => s.on GL_CFG.PRESENT n)).foldl (fun s n => s.startLink (bits.testBit 3 && t.links.testBit n) n) s

/-- POR (R422, R425, R426): the cold start up to the boot ROM's search for firmware. -/
def execPor (t : SelfTest) (s : State) : Host.Outcome State Fault Refusal :=
  let s := s.cleared.selfTest t
  let s := s.wrB FW_STAT.KEY_SET 0 (s.fw.otpDigest.isSome && !s.provBad)
  .next s.restoreAgeing

/-- BOOT_FIRMWARE_LOAD (R427): the bytes read from BOOT_ADDR, `f`, or its reads ended in error; without an accepted
image the boot ROM waits for firmware. -/
def execBootFirmwareLoad (f : Option (List Nat)) (s : State) : Host.Outcome State Fault Refusal :=
  let s := s.quiet
  .next (if s.fw.entered || s.fw.bootFail || s.on FW_STAT.NO_FW then s
    else
      match (if s.fw.otpBootSrc = 0 then f else none) with
      | some im =>
        if s.imageOk im then (s.fillSlot 0 im).enterFirmware 0
        else (s.raise .FW_LOAD_REJ).wr FW_STAT.NO_FW 0 1
      | none => s.wr FW_STAT.NO_FW 0 1)

/-- OTP_PROGRAM (R423, R424): a provisioning field through the test port; nothing once PROV_LOCK is set. -/
def execOtpProgram (f : OtpField) (s : State) : Host.Outcome State Fault Refusal :=
  let s := s.quiet
  .next (if s.fw.otpProvLock then s
    else s.setFw (fun w => match f with
      | .keyDigest d => { w with otpDigest := some (d % 2 ^ 384) }
      | .bootSrc v => { w with otpBootSrc := v % 4 }
      | .bootAddr v => { w with otpBootAddr := v % 2 ^ 64 }
      | .provCrc v => { w with otpProvCrc := v % 2 ^ 32 }
      | .provLock => { w with otpProvLock := true }))

end Sys2Proof.Machine
end

