-- ==== Sys2Proof/Machine/Dispatch.lean ====
section
/-! DEFINITION. One arm for each command: a direct call of its meaning. -/

namespace Sys2Proof.Machine

/-- What command `i` does to everything but the queue. -/
def exec (i : Instr) (s : State) : Host.Outcome State Fault Refusal :=
  match i with
  | .por t => Sys2Proof.Machine.execPor t s
  | .bootFirmwareLoad f => Sys2Proof.Machine.execBootFirmwareLoad f s
  | .otpProgram f => Sys2Proof.Machine.execOtpProgram f s
  | .tooth ti => Sys2Proof.Machine.execTooth ti s
  | .locked => Sys2Proof.Machine.execLocked s
  | .synthesisedTick ti => Sys2Proof.Machine.execSynthesisedTick ti s
  | .cadenceLost => Sys2Proof.Machine.execCadenceLost s
  | .relock ti => Sys2Proof.Machine.execRelock ti s
  | .fwPublish cycles => Sys2Proof.Machine.execFwPublish cycles s
  | .fwOverrun => Sys2Proof.Machine.execFwOverrun s
  | .engineOverrun => Sys2Proof.Machine.execEngineOverrun s
  | .hubFaultEsc => Sys2Proof.Machine.execHubFaultEsc s
  | .domRelease n => Sys2Proof.Machine.execDomRelease n s
  | .domPromote n => Sys2Proof.Machine.execDomPromote n s
  | .domOverdue n => Sys2Proof.Machine.execDomOverdue n s
  | .domSlice n x => Sys2Proof.Machine.execDomSlice n x s
  | .featherTrigger n k lvl cyc => Sys2Proof.Machine.execFeatherTrigger n k lvl cyc s
  | .tripClear n cyc => Sys2Proof.Machine.execTripClear n cyc s
  | .featherHoldExpiry n cyc => Sys2Proof.Machine.execFeatherHoldExpiry n cyc s
  | .featherReturnStep n cyc => Sys2Proof.Machine.execFeatherReturnStep n cyc s
  | .brake v => Sys2Proof.Machine.execBrake v s
  | .vrAlertDeassert v => Sys2Proof.Machine.execVrAlertDeassert v s
  | .brakeReleaseStep => Sys2Proof.Machine.execBrakeReleaseStep s
  | .alertSourceTimeout => Sys2Proof.Machine.execAlertSourceTimeout s
  | .alertHoldExpiry => Sys2Proof.Machine.execAlertHoldExpiry s
  | .spokeFrame n f => Sys2Proof.Machine.execSpokeFrame n f s
  | .spokeFault n => Sys2Proof.Machine.execSpokeFault n s
  | .subtick x coolLow => Sys2Proof.Machine.execSubtick x coolLow s
  | .ceilRise g => Sys2Proof.Machine.execCeilRise g s
  | .imonFault g => Sys2Proof.Machine.execImonFault g s
  | .imonValid g => Sys2Proof.Machine.execImonValid g s
  | .domainRampEvent => Sys2Proof.Machine.execDomainRampEvent s
  | .rampUpStart n => Sys2Proof.Machine.execRampUpStart n s
  | .rampUpEnd n => Sys2Proof.Machine.execRampUpEnd n s
  | .settleEnd n pg => Sys2Proof.Machine.execSettleEnd n pg s
  | .drainStart n => Sys2Proof.Machine.execDrainStart n s
  | .drainEnd n => Sys2Proof.Machine.execDrainEnd n s
  | .rampDownStart n => Sys2Proof.Machine.execRampDownStart n s
  | .rampDownEnd n => Sys2Proof.Machine.execRampDownEnd n s
  | .coolStop => Sys2Proof.Machine.execCoolStop s
  | .selfRefreshAck j => Sys2Proof.Machine.execSelfRefreshAck j s
  | .srFault j => Sys2Proof.Machine.execSrFault j s
  | .flowGood1s => Sys2Proof.Machine.execFlowGood1s s
  | .restEntryStart => Sys2Proof.Machine.execRestEntryStart s
  | .restEntryWave k => Sys2Proof.Machine.execRestEntryWave k s
  | .restEntered => Sys2Proof.Machine.execRestEntered s
  | .restWakeStart => Sys2Proof.Machine.execRestWakeStart s
  | .restWakeWave k => Sys2Proof.Machine.execRestWakeWave k s
  | .restExited => Sys2Proof.Machine.execRestExited s
  | .ack n w => Sys2Proof.Machine.execAck n w s
  | .ackTimeout x => Sys2Proof.Machine.execAckTimeout x s
  | .nak n w => Sys2Proof.Machine.execNak n w s
  | .done n w => Sys2Proof.Machine.execDone n w s
  | .doneDeadline n => Sys2Proof.Machine.execDoneDeadline n s
  | .telem n w late => Sys2Proof.Machine.execTelem n w late s
  | .warn n w => Sys2Proof.Machine.execWarn n w s
  | .trainDone n pass => Sys2Proof.Machine.execTrainDone n pass s
  | .queryTimeout n => Sys2Proof.Machine.execQueryTimeout n s
  | .linkSuspect n => Sys2Proof.Machine.execLinkSuspect n s
  | .linkRecover n => Sys2Proof.Machine.execLinkRecover n s
  | .linkFault n => Sys2Proof.Machine.execLinkFault n s
  | .faultRetrain n => Sys2Proof.Machine.execFaultRetrain n s
  | .diodeConversion n d => Sys2Proof.Machine.execDiodeConversion n d s
  | .thermistorConversion n q => Sys2Proof.Machine.execThermistorConversion n q s
  | .driftCheck => Sys2Proof.Machine.execDriftCheck s
  | .thermalStop n => Sys2Proof.Machine.execThermalStop n s
  | .vrwDrop g => Sys2Proof.Machine.execVrwDrop g s
  | .vrwRemove g => Sys2Proof.Machine.execVrwRemove g s
  | .otpDeferredWrite => Sys2Proof.Machine.execOtpDeferredWrite s
  | .capPwmEdge rise now => Sys2Proof.Machine.execCapPwmEdge rise now s
  | .budgetPeriod => Sys2Proof.Machine.execBudgetPeriod s
  | .classRestore => Sys2Proof.Machine.execClassRestore s
  | .idleGate c => Sys2Proof.Machine.execIdleGate c s
  | .waitTimeout n => Sys2Proof.Machine.execWaitTimeout n s
  | .backoffRetry n => Sys2Proof.Machine.execBackoffRetry n s
  | .hintPrestage => Sys2Proof.Machine.execHintPrestage s
  | .hintExpiry e => Sys2Proof.Machine.execHintExpiry e s
  | .hintEnd e => Sys2Proof.Machine.execHintEnd e s
  | .modelImageTake => Sys2Proof.Machine.execModelImageTake s
  | .bankSwitchFire => Sys2Proof.Machine.execBankSwitchFire s
  | .regionSwitch => Sys2Proof.Machine.execRegionSwitch s
  | .openTimeout n => Sys2Proof.Machine.execOpenTimeout n s
  | .notFollowing k => Sys2Proof.Machine.execNotFollowing k s
  | .nfClear l u => Sys2Proof.Machine.execNfClear l u s
  | .nodeDumpFire => Sys2Proof.Machine.execNodeDumpFire s
  | .nop x => Sys2Proof.Machine.execNop x s
  | .lda x => Sys2Proof.Machine.execLda x s
  | .mvm x => Sys2Proof.Machine.execMvm x s
  | .vmul x => Sys2Proof.Machine.execVmul x s
  | .addi x => Sys2Proof.Machine.execAddi x s
  | .rnd x => Sys2Proof.Machine.execRnd x s
  | .sub x => Sys2Proof.Machine.execSub x s
  | .clmp x => Sys2Proof.Machine.execClmp x s
  | .intg x => Sys2Proof.Machine.execIntg x s
  | .cvt x => Sys2Proof.Machine.execCvt x s
  | .minsel x => Sys2Proof.Machine.execMinsel x s
  | .mov x => Sys2Proof.Machine.execMov x s
  | .engEnd x => Sys2Proof.Machine.execEnd x s
  | .keepSend l => Sys2Proof.Machine.execKeepSend l s
  | .paceLinkDown l => Sys2Proof.Machine.execPaceLinkDown l s
  | .keep l ws => Sys2Proof.Machine.execKeep l ws s
  | .reportSend => Sys2Proof.Machine.execReportSend s
  | .report l ws => Sys2Proof.Machine.execReport l ws s
  | .carrierPeriod => Sys2Proof.Machine.execCarrierPeriod s
  | .share l ws frac => Sys2Proof.Machine.execShare l ws frac s
  | .shareTimeout => Sys2Proof.Machine.execShareTimeout s
  | .memberLost d => Sys2Proof.Machine.execMemberLost d s
  | .takeover => Sys2Proof.Machine.execTakeover s
  | .leaseExpiry => Sys2Proof.Machine.execLeaseExpiry s
  | .offerSend => Sys2Proof.Machine.execOfferSend s
  | .offer ws => Sys2Proof.Machine.execOffer ws s
  | .carrierLost c => Sys2Proof.Machine.execCarrierLost c s
  | .pointSend => Sys2Proof.Machine.execPointSend s
  | .pelPoint ws => Sys2Proof.Machine.execPoint ws s
  | .cpoint l ws => Sys2Proof.Machine.execCpoint l ws s
  | .pelotonApply => Sys2Proof.Machine.execPelotonApply s
  | .psyncReqSend frac => Sys2Proof.Machine.execPsyncReqSend frac s
  | .psyncReq ws frac2 frac3 => Sys2Proof.Machine.execPsyncReq ws frac2 frac3 s
  | .psyncRsp ws frac => Sys2Proof.Machine.execPsyncRsp ws frac s
  | .drag l ws => Sys2Proof.Machine.execDrag l ws s
  | .dragRise => Sys2Proof.Machine.execDragRise s
  | .dragClear => Sys2Proof.Machine.execDragClear s
  | .cantFollow => Sys2Proof.Machine.execCantFollow s
  | .pacelineReturn => Sys2Proof.Machine.execPacelineReturn s
  | .orphan => Sys2Proof.Machine.execOrphan s
  | .abort ws => Sys2Proof.Machine.execAbort ws s
  | .applStep c => Sys2Proof.Machine.execApplStep c s
  | .fencePoll k ctl => Sys2Proof.Machine.execFencePoll k ctl s
  | .fenceWaitExpiry => Sys2Proof.Machine.execFenceWaitExpiry s
  | .ombPost k ctl ok => Sys2Proof.Machine.execOmbPost k ctl ok s
  | .rcHb v a => Sys2Proof.Machine.execRcHb v a s
  | .hbMiss => Sys2Proof.Machine.execHbMiss s
  | .noticeExpiry => Sys2Proof.Machine.execNoticeExpiry s
  | .partitionStepDone => Sys2Proof.Machine.execPartitionStepDone s
  | .dieStepDone => Sys2Proof.Machine.execDieStepDone s
  | .bootExpiry => Sys2Proof.Machine.execBootExpiry s
  | .wdogKick => Sys2Proof.Machine.execWdogKick s
  | .wdogExpiry => Sys2Proof.Machine.execWdogExpiry s
  | .engFaultTimeout => Sys2Proof.Machine.execEngFaultTimeout s
  | .govRstNFall => Sys2Proof.Machine.execGovRstNFall s
  | .firstPublication => Sys2Proof.Machine.execFirstPublication s
  | .fwSwitchover => Sys2Proof.Machine.execFwSwitchover s
  | .swFail => Sys2Proof.Machine.execSwFail s
  | .fwLoadDone f => Sys2Proof.Machine.execFwLoadDone f s
  | .imgLoadDone f => Sys2Proof.Machine.execImgLoadDone f s
  | .meterSample m => Sys2Proof.Machine.execMeterSample m s
  | .meterWindow crc => Sys2Proof.Machine.execMeterWindow crc s
  | .meterPublish => Sys2Proof.Machine.execMeterPublish s
  | .publication ws => Sys2Proof.Machine.execPublication ws s
  | .publicationMissing => Sys2Proof.Machine.execPublicationMissing s
  | .meterCheckpoint => Sys2Proof.Machine.execMeterCheckpoint s
  | .pfw => Sys2Proof.Machine.execPfw s
  | .pfwEnd => Sys2Proof.Machine.execPfwEnd s
  | .vmtrLoss torn => Sys2Proof.Machine.execVmtrLoss torn s
  | .meterPowerUp crc device => Sys2Proof.Machine.execMeterPowerUp crc device s
  | .sealBreak => Sys2Proof.Machine.execSealBreak s
  | .sealRestore => Sys2Proof.Machine.execSealRestore s
  | .inhibitEntry => Sys2Proof.Machine.execInhibitEntry s
  | .inhibitExit => Sys2Proof.Machine.execInhibitExit s
  | .shareCheckpoint => Sys2Proof.Machine.execShareCheckpoint s
  | .shareRecord => Sys2Proof.Machine.execShareRecord s
  | .submissionEntry r e => Sys2Proof.Machine.execSubmissionEntry r e s
  | .completionEntry r ok => Sys2Proof.Machine.execCompletionEntry r ok s
  | .mailboxTake n => Sys2Proof.Machine.execMailboxTake n s
  | .put bs => Sys2Proof.Machine.execPut bs s
  | .get clean => Sys2Proof.Machine.execGet clean s
  | .stat => Sys2Proof.Machine.execStat s
  | .ident => Sys2Proof.Machine.execIdent s
  | .status => Sys2Proof.Machine.execStatus s
  | .echo => Sys2Proof.Machine.execEcho s
  | .readTick => Sys2Proof.Machine.execReadTick s
  | .svcCap => Sys2Proof.Machine.execSvcCap s
  | .setPart => Sys2Proof.Machine.execSetPart s
  | .assign => Sys2Proof.Machine.execAssign s
  | .budgetRead => Sys2Proof.Machine.execBudgetRead s
  | .partRead => Sys2Proof.Machine.execPartRead s
  | .domainOn => Sys2Proof.Machine.execDomainOn s
  | .domainOff => Sys2Proof.Machine.execDomainOff s
  | .restEnter => Sys2Proof.Machine.execRestEnter s
  | .restExit => Sys2Proof.Machine.execRestExit s
  | .domainRead => Sys2Proof.Machine.execDomainRead s
  | .hintPhase => Sys2Proof.Machine.execHintPhase s
  | .hintCancel => Sys2Proof.Machine.execHintCancel s
  | .loopOpen => Sys2Proof.Machine.execLoopOpen s
  | .loopClose => Sys2Proof.Machine.execLoopClose s
  | .bankSwitch => Sys2Proof.Machine.execBankSwitch s
  | .traceArm => Sys2Proof.Machine.execTraceArm s
  | .engRead => Sys2Proof.Machine.execEngRead s
  | .lease => Sys2Proof.Machine.execLease s
  | .carrierCap => Sys2Proof.Machine.execCarrierCap s
  | .pelSet => Sys2Proof.Machine.execPelSet s
  | .pelRead => Sys2Proof.Machine.execPelRead s
  | .snapshot => Sys2Proof.Machine.execSnapshot s
  | .attClear => Sys2Proof.Machine.execAttClear s
  | .energyRead => Sys2Proof.Machine.execEnergyRead s
  | .recoveryReport => Sys2Proof.Machine.execRecoveryReport s
  | .recoveryStep => Sys2Proof.Machine.execRecoveryStep s
  | .warmRestart => Sys2Proof.Machine.execWarmRestart s
  | .errRead => Sys2Proof.Machine.execErrRead s
  | .errClear => Sys2Proof.Machine.execErrClear s
  | .suspectReport => Sys2Proof.Machine.execSuspectReport s
  | .suspectClear => Sys2Proof.Machine.execSuspectClear s
  | .coreCtrl => Sys2Proof.Machine.execCoreCtrl s
  | .marginRead => Sys2Proof.Machine.execMarginRead s
  | .fwLoad => Sys2Proof.Machine.execFwLoad s
  | .fwSwitch => Sys2Proof.Machine.execFwSwitch s
  | .imgLoad => Sys2Proof.Machine.execImgLoad s
  | .stageWrite => Sys2Proof.Machine.execStageWrite s
  | .lockSet => Sys2Proof.Machine.execLockSet s
  | .lockRead => Sys2Proof.Machine.execLockRead s
  | .meterIdent m => Sys2Proof.Machine.execMeterIdent m s
  | .meterRead m => Sys2Proof.Machine.execMeterRead m s
  | .meterAccount m => Sys2Proof.Machine.execMeterAccount m s
  | .meterEvent m => Sys2Proof.Machine.execMeterEvent m s
  | .calWrite m => Sys2Proof.Machine.execCalWrite m s
  | .calCommit m => Sys2Proof.Machine.execCalCommit m s
  | .setSerial m => Sys2Proof.Machine.execSetSerial m s
  | .setTol m => Sys2Proof.Machine.execSetTol m s
  | .nodeDump => Sys2Proof.Machine.execNodeDump s
  | .regRead => Sys2Proof.Machine.execRegRead s
  | .regWrite => Sys2Proof.Machine.execRegWrite s
  | .go n a => Sys2Proof.Machine.execGo n a s
  | .fetch n a => Sys2Proof.Machine.execFetch n a s
  | .sqTailWrite r v a => Sys2Proof.Machine.execSqTailWrite r v a s
  | .cqHeadWrite r v a => Sys2Proof.Machine.execCqHeadWrite r v a s
  | .ringEnable r v a => Sys2Proof.Machine.execRingEnable r v a s
  | .ringDisable r v a => Sys2Proof.Machine.execRingDisable r v a s
  | .transportMode v a => Sys2Proof.Machine.execTransportMode v a s
  | .permEffWrite n v a => Sys2Proof.Machine.execPermEffWrite n v a s
  | .lockCfg a => Sys2Proof.Machine.execLockCfg a s
  | .lockPerm a => Sys2Proof.Machine.execLockPerm a s
  | .lockTransport a => Sys2Proof.Machine.execLockTransport a s
  | .lockFw a => Sys2Proof.Machine.execLockFw a s
  | .lockDiag a => Sys2Proof.Machine.execLockDiag a s
  | .peakClr a => Sys2Proof.Machine.execPeakClr a s
  | .sscApply a => Sys2Proof.Machine.execSscApply a s
  | .retrain a => Sys2Proof.Machine.execRetrain a s
  | .emAttClr v a => Sys2Proof.Machine.execEmAttClr v a s
  | .arm v a => Sys2Proof.Machine.execArm v a s
  | .rcClrErr a => Sys2Proof.Machine.execRcClrErr a s
  | .pwSnap p a => Sys2Proof.Machine.execPwSnap p a s
  | .flush v a => Sys2Proof.Machine.execFlush v a s
  | .take v a => Sys2Proof.Machine.execTake v a s
  | .rearm v a => Sys2Proof.Machine.execRearm v a s
  | .snapLoRead off a => Sys2Proof.Machine.execSnapLoRead off a s
  | .snapHiRead off a => Sys2Proof.Machine.execSnapHiRead off a s
  | .pairLoWrite off v a => Sys2Proof.Machine.execPairLoWrite off v a s
  | .pairHiWrite off v a => Sys2Proof.Machine.execPairHiWrite off v a s
  | .registerWrite off v a => Sys2Proof.Machine.execRegisterWrite off v a s
  | .govRstNRise => Sys2Proof.Machine.execGovRstNRise s
  | .receiveError n w => Sys2Proof.Machine.execReceiveError n w s
  | .messageDiscarded link => Sys2Proof.Machine.execMessageDiscarded link s
  | .capPwmNoEdge => Sys2Proof.Machine.execCapPwmNoEdge s
  | .meterPortByteGap => Sys2Proof.Machine.execMeterPortByteGap s

end Sys2Proof.Machine
end

