-- ==== Sys2Proof/Safety.lean ====
section
/-! DEFINITION. What counts as a safe run: every step answers a next state, and the register stores keep their form. -/

namespace Sys2Proof

open Sys2Proof.Machine

namespace Machine

/-- The keys of a store rise strictly, so no key is listed twice. -/
def Rising {α : Type} (t : Table α) : Prop :=
  (t.map Prod.fst).Pairwise (· < ·)

/-- What holds in every state of the governor: the three stores of register fields keep their form, the log's staging
holds at most its 256 records (R406), and the event queue at most its 64 events (R26). -/
structure State.Inv (s : State) : Prop where
  fields : Rising s.fields
  rwl : Rising s.rwl
  inForce : Rising s.inForce
  staging : s.fw.staging.length ≤ 256
  events : s.evqFill ≤ 64

/-- The parts of the state beside the register fields, the tick, the lock bits and the queue: `cad` is the cadence block
but for the releases of the domestique tasks, which are `tasks`; `fw` the firmware block but for the log's staging and
drop count, which are `log`. -/
inductive Region where
  | inForce | cad | tasks | spk | rim | gl | eng | em | th | bg | car | pel | mg | rc | mtr | mir | cmd | bus | fw | log
  | free | emit
  deriving DecidableEq, Repr

/-- The part is the same in both states. -/
def Region.same (s t : State) : Region → Prop
  | .inForce => t.inForce = s.inForce
  | .cad => { t.cad with tasks := [] } = { s.cad with tasks := [] }
  | .tasks => t.cad.tasks = s.cad.tasks
  | .spk => t.spk = s.spk
  | .rim => t.rim = s.rim
  | .gl => t.gl = s.gl
  | .eng => t.eng = s.eng
  | .em => t.em = s.em
  | .th => t.th = s.th
  | .bg => t.bg = s.bg
  | .car => t.car = s.car
  | .pel => t.pel = s.pel
  | .mg => t.mg = s.mg
  | .rc => t.rc = s.rc
  | .mtr => t.mtr = s.mtr
  | .mir => t.mir = s.mir
  | .cmd => t.cmd = s.cmd
  | .bus => t.bus = s.bus
  | .fw => { t.fw with staging := [], dropPend := 0 } = { s.fw with staging := [], dropPend := 0 }
  | .log => t.fw.staging = s.fw.staging ∧ t.fw.dropPend = s.fw.dropPend
  | .free => t.free = s.free
  | .emit => t.emit = s.emit

/-- What a command leaves alone: the tick, the lock bits and the queue, every part that `ps` does not name, and every
register field, at every instance, that lies at no bit address of a field that `fs` names. -/
structure Frame (ps : Region → Prop) (fs : Fld → Prop) (s t : State) : Prop where
  tick : t.tick = s.tick
  locks : t.locks = s.locks
  pending : t.pending = s.pending
  part : ∀ q, ¬ ps q → q.same s t
  reg : ∀ G j, (∀ F, fs F → ∀ i, G.key j ≠ F.key i) → t.rd G j = s.rd G j

/-- The register fields that logging and doorbells write. -/
def logFields : List Fld :=
  [LOG_STAT.NEXT, LOG_CNT.DROP, FW_EVT.LOG_DROP, DB_STAT_NS.STAT, DB_STAT_S.STAT]

end Machine

/-- The step of `s` answers a next state. -/
def Completes (s : State) : Prop :=
  ∃ t, Machine.step s = .next t

/-- Every one of the next `k` steps answers a next state. -/
def SafeFor : Nat → State → Prop
  | 0, _ => True
  | k + 1, s => ∃ t, Machine.step s = .next t ∧ SafeFor k t

end Sys2Proof
end

