-- ==== Sys2Proof/Certificates/Slice0/Obligations.lean ====
section
/-! DEFINITION. The statements for the provers.  `Leaves` states what a command leaves alone; the families of the table
follow chapter by chapter. -/

namespace Sys2Proof

open Sys2Proof.Machine

/-- In every state the command answers a next state that differs from it in the parts `ps` and in the register fields `fs`
at most (and keeps the tick, the lock bits and the queue). -/
def Leaves (c : Instr) (ps : List Region) (fs : List Fld) : Prop :=
  ∀ s, ∃ t, exec c s = .next t ∧ Frame (· ∈ ps) (· ∈ fs) s t

/-- The command answers `.next t` for a `t` with the property. -/
def Answers (c : Instr) (s : State) (P : State → Prop) : Prop :=
  ∃ t, exec c s = .next t ∧ P t

/-- Every lock bit set in `a` is set in `b`. -/
def LocksKept (a b : Locks) : Prop :=
  (a.cfg → b.cfg) ∧ (a.perm → b.perm) ∧ (a.transport → b.transport) ∧ (a.fw → b.fw) ∧ (a.diag → b.diag)

/-- The commands that start a governor warm restart, and POR. -/
def Restarts : Instr → Prop
  | .por _ | .hubFaultEsc | .wdogExpiry | .engFaultTimeout | .govRstNFall | .swFail | .warmRestart => True
  | _ => False

/-- The stored value of a channel after a conversion with raw value `raw` that is neither open nor short: the mean of the
last four (R196). -/
def valueAfter (s : State) (n : Nat) (raw : Int) : Nat :=
  ofSigned TH_VAL.VALUE.width
    (meanRaw (((s.chan n).raws ++ [raw]).drop (((s.chan n).raws ++ [raw]).length - 4))) % 2 ^ TH_VAL.VALUE.width

/-- The program runs, and the instruction `i` that lane A reads at the program counter has opcode `op`. -/
abbrev AtInstruction (s : State) (op : Nat) (i : Ins) : Prop :=
  s.eng.running = true ∧ s.insAt 0 s.eng.pc = i ∧ i.op = op

/-- The register fields of one unit that a command of that unit writes: the unit, how many units there are, and the fields. -/
def unitFields : Instr → Option (Nat × Nat × List Fld)
  | .domPromote n => some (n, 10, [DOM_STAT.PROMOTED])
  | .domOverdue n => some (n, 10, [DOM_STAT.OVERDUE])
  | .featherTrigger n _ _ _ => some (n, 192, [SNT_CNT.FTH_EVT])
  | .ceilRise g => some (g, 12, [RG_STAT.CEIL])
  | .imonFault g => some (g, 12, [RG_STAT.IMON_FAULT])
  | .imonValid g => some (g, 12, [RG_STAT.IMON_FAULT])
  | .rampUpEnd n => some (n, 248, [SWD_STAT.STATE])
  | .drainStart n => some (n, 248, [SWD_STAT.STATE, SWD_STAT.PEND])
  | .rampDownEnd n => some (n, 248, [SWD_STAT.STATE])
  | .idleGate n => some (n, 248, [SWD_STAT.PEND])
  | .waitTimeout n => some (n, 248, [SWD_STAT.PEND, SWD_STAT.WAIT_SLOT])
  | .linkSuspect n => some (n, 24, [GL_STAT.LSTATE])
  | .faultRetrain n => some (n, 24, [GL_STAT.LSTATE])
  | .receiveError n _ => some (n, 24, [GL_ERR.RXERR])
  | .warn n _ => some (n, 24, [GL_STAT.WARN, GL_TEL0.TEMP, GL_FAULT_CNT.WARNS])
  | .openTimeout n => some (n, 4, [ENG_SETST.OPEN_MS])
  | .mailboxTake n => some (n, 16, [MB_CTL.GO])
  | .go n _ => some (n, 16, [MB_CTL.GO])
  | .fetch n _ => some (n, 16, [MB_CTL.RDY])
  | .sqTailWrite r _ _ => some (r, 15, [RING_SQ.TAIL])
  | .cqHeadWrite r _ _ => some (r, 15, [RING_CQ.HEAD])
  | .permEffWrite n _ _ => some (n, 256, [PERM.EFF])
  | .pwSnap p _ => some (p, 32, [PW_STAT.PEND])
  | _ => none

/-- A message of type `ty` comes in on lane `l` (R239, R240, R244): enabled lane, the type's length, good CRC, newer SEQ. -/
abbrev PaceGood (s : State) (l ty : Nat) (ws : List Nat) : Prop :=
  s.laneEnabled l = true ∧ shaped ty ws = true ∧ messageOk ws = true ∧ s.seqNew (at0 ws 0) = true

/-- The same on the fabric sideband (R242). -/
abbrev SidebandGood (s : State) (ty : Nat) (ws : List Nat) : Prop :=
  shaped ty ws = true ∧ messageOk ws = true ∧ s.seqNew (at0 ws 0) = true

/-- The words of a message that this governor originates: header with the type's next SEQ, body, CRC (R239, R244). -/
def ownWords (s : State) (ty hops : Nat) (body : List Nat) : List Nat :=
  let ws := mkHeader ty hops s.die s.carrier (Table.get 0 s.car.seqOut ty) :: body
  ws ++ [messageCrc ws]

/-- Nothing has been driven but one message of this governor, with HOPS 15, on every lane that is up (R240). -/
def Flooded (s t : State) (ty : Nat) (body : List Nat) : Prop :=
  t.emit = ([0, 1, 2, 3].filter s.laneUp).map (fun l => .pace l (ownWords s ty 15 body))

/-- Nothing has been driven but one message of this governor to `dest` on the sideband; 256 is a broadcast (R242). -/
def SentTo (s t : State) (dest ty : Nat) (body : List Nat) : Prop :=
  t.emit = [.sideband dest (ownWords s ty 0 body)]

/-- One more message counts as acted on. -/
def ActedOn (s t : State) : Prop :=
  t.rd CAR_RXMSG.MSGS = (s.rd CAR_RXMSG.MSGS + 1) % 2 ^ CAR_RXMSG.MSGS.width

/-- A message has been counted in CAR_ERR.CRC as discarded. -/
def CountedBad (s t : State) : Prop :=
  t.rd CAR_ERR.CRC = (s.rd CAR_ERR.CRC + 1) % 2 ^ CAR_ERR.CRC.width

/-- What a REPORT of words `ws` says (Table 9.2), acted on at tick `k`. -/
def reportWords (ws : List Nat) (k : Nat) : Rep :=
  { seq := bits 7 0 (at0 ws 0), epoch := at0 ws 1, demand := bits 31 16 (at0 ws 2), minimum := bits 15 0 (at0 ws 2),
    safe := bits 31 16 (at0 ws 3), meas := bits 15 0 (at0 ws 3), offer := bits 31 24 (at0 ws 4),
    dragPt := bits 23 16 (at0 ws 4), rank := bits 15 10 (at0 ws 4), elig := bits 9 9 (at0 ws 4) == 1,
    role := bits 8 7 (at0 ws 4), flags := bits 6 4 (at0 ws 4), tick := k }

/-- The body of this governor's REPORT (R245, R251): EPOCH; DEMAND and MIN; P_SAFE and P_1MS; OFFER, DRAG_PT, RANK, ELIG,
ROLE and the flags DRAG, CANT_FOLLOW and CADENCE_LOST. -/
def reportBody (s : State) : List Nat :=
  [if s.rd CAR_STAT.ROLE = 0 then s.car.obeyEpoch.getD 0 else s.rd CAR_EPOCH_HELD.EPOCH,
   min s.car.demand 0xFFFF * 2 ^ 16 + min s.car.minimum 0xFFFF,
   min (s.inf BG_HARD.P_SAFE) 0xFFFF * 2 ^ 16 + min (s.rd EM_PDIE.P_1MS) 0xFFFF,
   s.rd PEL_STAT.OFFER * 2 ^ 24 + s.pel.dragPt * 2 ^ 16 + s.inf CAR_CFG.RANK * 2 ^ 10 + b2n (s.infOn CAR_CFG.ELIG) * 2 ^ 9
     + s.rd CAR_STAT.ROLE * 2 ^ 7
     + (4 * s.rd PEL_STAT.DRAG + 2 * s.rd PEL_STAT.CANT_FOLLOW + s.rd CAD_STAT.CADENCE_LOST) * 2 ^ 4]

/-- The live dies with their latest reports, and the split that a steward makes of the cap (R252). -/
def liveReports (s : State) : List (Nat × Rep) :=
  s.liveDies.filterMap (fun d => (s.reportOf d).map (fun r => (d, r)))

def splitOf (s : State) : Nat × Nat × Nat × Bool :=
  carrierSplit ((liveReports s).map (fun p => p.2)) s.liveDies.length (s.rd CAR_CAP.CAP) (s.rd CAR_RSV.RESERVE)

/-- One bit, or two, for each live die of `[lo, lo + n)` whose report the split uses: INCLUDED and USED of a SHARE. -/
def includedBits (s : State) (lo : Nat) : Nat :=
  sumOf (((liveReports s).filter (fun p => decide (lo ≤ p.1) && decide (p.1 < lo + 32))).map (fun p => 2 ^ (p.1 - lo)))

def usedBits (s : State) (lo : Nat) : Nat :=
  sumOf (((liveReports s).filter (fun p => decide (lo ≤ p.1) && decide (p.1 < lo + 16))).map
    (fun p => p.2.seq % 4 * 4 ^ (p.1 - lo)))

/-- The root and SEQ `k`, applied with point `p` and mode `m` at target tick `g`, is queued as a class-2 event (R258). -/
def AppliesAt (s t : State) (k : Nat × Nat) (p m g : Nat) : Prop :=
  k ∈ t.pel.known ∧ ∃ e ∈ t.cad.queue, e.act = .point k.1 p m ∧ e.target = g ∧ e.fire = if g ≤ s.tick then s.tick + 1 else g

/-- The event queue takes an event for target tick `g` (R27). -/
abbrev QueueTakes (s : State) (g : Nat) : Prop :=
  s.rd CAD_STAT.LOCKED = 1 ∧ s.evqFill < 64 ∧ g ≤ s.tick + 2 ^ 38

/-- The point applies at the tick nearest to APPLY less the offset `o` to its sender (R258). -/
abbrev applyTick (s : State) (ws : List Nat) (o : Int) : Nat :=
  s.extend (nearestTick ((stampOf (at0 ws 2) (at0 ws 3) : Nat) - o))

/-- What every warm restart leaves (R300 to R302): holdover, READY clear, the lock bits clear, the engine idle, no lease and
the restart counted. -/
def Restarted (s t : State) : Prop :=
  t.rd RC_STAT.HOLDOVER = 1 ∧ t.rd GSTAT.READY = 0 ∧ t.locks = {} ∧ t.rd ENG_STAT.STATE = 0 ∧ t.rd CAR_STAT.LEASE_VALID = 0 ∧
    t.rd RC_CNT.WARM = (s.rd RC_CNT.WARM + 1) % 2 ^ RC_CNT.WARM.width

/-- The bytes `bs` begin with the packet of header `h` and parameters `ps`, with opcode `op`, VER 3 and an allowed PCNT
(R322, R352); `rest` follows it. -/
abbrev Framed (bs : List Nat) (op h : Nat) (ps rest : List Nat) : Prop :=
  frameOf bs = .packet (h :: ps) rest ∧ bits 31 24 h = op ∧ bits 23 20 h = 3 ∧ bits 19 16 h = ps.length ∧
    pcntOk op ps.length = true

/-- The bytes `bs` complete one packet on the meter port. -/
abbrev PortPacket (s : State) (bs : List Nat) (op h : Nat) (ps : List Nat) : Prop :=
  s.mtr.alive = true ∧ Framed (s.mtr.rx ++ bs) op h ps []

/-- What the meter drives on MTX for a reply. -/
def portReply (h st : Nat) (ws : List Nat) : Emission :=
  .meter (meterFrame (replyHdr h st ws.length :: ws))

/-- The meter has answered on MTX with a status and reply words, and has dropped the packet's bytes. -/
def PortReply (t : State) (h st : Nat) (ws : List Nat) : Prop :=
  t.mtr.rx = [] ∧ t.emit = [portReply h st ws]

/-- A secure access with full strobes: rows 1 to 5 of Table 15.1 do not refuse it where the offset names a register. -/
abbrev Secure (a : Access) : Prop :=
  a.ns = false ∧ a.strb = 15

/-- Registers whose write does more than write their fields, or does it otherwise. -/
def specialOffs : List Nat :=
  [0x110, 0x114, 0x118, 0x1000, 0x103C, 0x1800, 0x1804, 0x180C, 0x1814, 0x1818, 0x2400, 0x240C, 0x3004, 0x3600, 0x603C,
   0xB000, 0xB018, 0xC020, 0xC100, 0xD000, 0x10004]

/-- A packet that instance `n` of `s` accepts (R330, R333, R339): VER 3, an opcode of Table 13.5, a SEQ newer than the last. -/
abbrev Accepts (s : State) (n : Nat) (p : Packet) : Prop :=
  p.ver = 3 ∧ opDefined p.op = true ∧
    ((s.port n).seen = false ∨
      (1 ≤ (p.seq + 4096 - (s.port n).last) % 4096 ∧ (p.seq + 4096 - (s.port n).last) % 4096 < 2048))

/-- The packet waits for the handler on instance `n`, whose last SEQ it is. -/
def Waits (t : State) (n : Nat) (p : Packet) : Prop :=
  (n, p) ∈ t.cmd.queue ∧ (t.port n).seen = true ∧ (t.port n).last = p.seq ∧ (t.port n).cache = p

/-- The handler comes to mailbox `n`, whose GO is set (R369), in the order of R341. -/
abbrev MailboxDue (s : State) (n : Nat) : Prop :=
  n < 16 ∧ s.rd MB_CTL.GO n = 1 ∧ s.rd MB_CTL.ACTIVE n = 1 ∧ s.serves n (packetOf (s.mbWords n)).op = true ∧
    s.rd MB_CTL.RQ n + s.rd MB_CTL.OWED n < 16 ∧ s.noneTaken = true ∧
    s.comesFirst (s.rankOf n (packetOf (s.mbWords n)).urgent) = true

/-- The handler comes to ring pair `r`, which has an entry (R364), in the order of R341. -/
abbrev RingDue (s : State) (r : Nat) : Prop :=
  r < 15 ∧ s.ringMode = true ∧ s.rd RING_CFG.EN r = 1 ∧ s.rd RING_SQ.HEAD r ≠ s.rd RING_SQ.TAIL r ∧
    s.rd RING_STAT.OWED r < min 16 (s.cqFree r) ∧ s.handlerTakes = true ∧ s.noneTaken = true ∧
    s.comesFirst (s.rankOf (16 + r) false) = true

/-- The read of the submission entry of pair `r` on the host port (R361). -/
def entryRead (s : State) (r : Nat) : Emission :=
  .hostRead (s.rd RING_SQ_BASE.ADDR r / 64 * 64 + 64 * (s.rd RING_SQ.HEAD r % s.ringSize r)) (!s.on RING_CFG.SEC r) 64

/-- The next packet is `p` of instance `n`, with opcode `op`, and passes the checks of R333. -/
abbrev Taken (s : State) (n : Nat) (p : Packet) (op : Nat) : Prop :=
  s.nextPacket = some (n, p) ∧ p.op = op ∧ s.precheck n p = none

/-- The state when the packet has left the queue. -/
def taking (s : State) (n : Nat) (p : Packet) : State :=
  s.quiet.popPacket (n, p)

/-- The packet's reply is formed with a status and words, and kept for a repetition while it is the last of its instance
(R329, R340). -/
def Replied (s t : State) (n : Nat) (p : Packet) (st : Nat) (ws : List Nat) : Prop :=
  p.ver = 3 → (s.port n).seen = true → (s.port n).cache = p →
    (t.port n).reply = some { hdr := replyHdr p.hdr st ws.length, words := ws }

/-- The packet has been executed and counted. -/
def Executed (s t : State) : Prop :=
  t.rd CMD_CNT.EXEC = (s.rd CMD_CNT.EXEC + 1) % 2 ^ CMD_CNT.EXEC.width

/-- The packet is outstanding. -/
def Outstands (t : State) (n : Nat) (p : Packet) : Prop :=
  ∃ o ∈ t.cmd.out, o.inst = n ∧ o.pkt = p

/-- The opcode of a command that is a packet of Table 13.5. -/
def opcodeOf : Instr → Option Nat
  | .ident => some 0x00 | .status => some 0x01 | .echo => some 0x02 | .readTick => some 0x03
  | .svcCap => some 0x10 | .setPart => some 0x11 | .assign => some 0x12 | .budgetRead => some 0x13
  | .partRead => some 0x14 | .domainOn => some 0x20 | .domainOff => some 0x21 | .restEnter => some 0x22
  | .restExit => some 0x23 | .domainRead => some 0x24 | .hintPhase => some 0x30 | .hintCancel => some 0x31
  | .loopOpen => some 0x40 | .loopClose => some 0x41 | .bankSwitch => some 0x42 | .traceArm => some 0x43
  | .engRead => some 0x44 | .lease => some 0x50 | .carrierCap => some 0x51 | .pelSet => some 0x52
  | .pelRead => some 0x53 | .snapshot => some 0x60 | .attClear => some 0x61 | .energyRead => some 0x62
  | .recoveryReport => some 0x70 | .recoveryStep => some 0x71 | .warmRestart => some 0x72 | .errRead => some 0x73
  | .errClear => some 0x74 | .suspectReport => some 0x80 | .suspectClear => some 0x81 | .coreCtrl => some 0x82
  | .marginRead => some 0x83 | .fwLoad => some 0x90 | .fwSwitch => some 0x91 | .imgLoad => some 0x92
  | .stageWrite => some 0x93 | .lockSet => some 0x94 | .lockRead => some 0x95
  | .meterIdent none => some 0xA0 | .meterRead none => some 0xA1 | .meterAccount none => some 0xA2
  | .meterEvent none => some 0xA3 | .calWrite none => some 0xA8 | .calCommit none => some 0xA9
  | .setSerial none => some 0xAA | .setTol none => some 0xAB
  | .nodeDump => some 0xF0 | .regRead => some 0xF1 | .regWrite => some 0xF2
  | _ => none

/-- The fields that the answer of a packet may write: the counters and the last refusal, replies owed and queued. -/
def answerFields : List Fld :=
  [CMD_CNT.EXEC, CMD_LAST.OPCODE, CMD_LAST.SEQ, CMD_LAST.STATUS, CMD_LAST_SRC.CLASS, CMD_LAST_SRC.INSTANCE,
   CMD_REFUSED.BADOP, CMD_REFUSED.BADPARAM, CMD_REFUSED.NOPERM, CMD_REFUSED.VERSION, MB_CTL.OWED, MB_CTL.RQ,
   RING_STAT.OWED]

/-- The fields that a warm restart may write. -/
def restartFields : List Fld :=
  [Evt.st .CAR_ROLE_CHANGE, Evt.st .FW_HSNAP, Evt.st .RC_TRAY_REQ, Evt.st .RIM_CANCELLED, BG_HINT_STAT.ACTIVE,
   BG_HINT_STAT.HELD, BG_SECT.HINT, CAR_LEASE.LEFT, CAR_STAT.LEASE_VALID, CAR_STAT.ROLE, DOM_AGE.AGE,
   DOM_STAT.PENDING, DOM_STAT.PROMOTED, ENG_CAND.CAP, ENG_CAND.CUR, ENG_CAND.THM, ENG_LCAND.LINK8, ENG_LCAND.LINK9,
   ENG_LCAND.STACK, ENG_SEL.LNK, ENG_SEL.SEC, ENG_SEL.STK, ENG_STAT.INACT_VALID, ENG_STAT.STATE, FW_SLOT_A.GEN,
   FW_SLOT_A.STATE, FW_SLOT_B.GEN, FW_SLOT_B.STATE, FW_STAT.ACTIVE, FW_STAT.GEN, FW_STAT.NO_FW, FW_STAT.TENTATIVE, GSTAT.HOLDOVER,
   GSTAT.READY, HS_CTRL.FROZEN, HS_CTRL.MISSED, HS_W.WORD, PEL_OFS.OFS, PEL_STAT.OFS_VALID, PEL_STAT.ROOT, RC_CNT.POWER,
   RC_CNT.WARM, RC_ERRCODE.CODE, RC_ERRLAST.CODE, RC_ERR_TICK.TICK, RC_STAT.HOLDOVER, RC_STAT.LADDER,
   RC_STAT.PWR_HELD, RC_STAT.STEP_PART, RC_STAT.TRAY_REQ, RC_STAT.WR_COUNT, SWD_STAT.PEND, SWD_STAT.WAIT_SLOT]

/-- What a command may change, whatever the state: parts of the state and register fields. -/
def footprint : Instr → Option (List Region × List Fld)
  | .bootFirmwareLoad _ => some ([.emit, .fw, .log, .tasks], 
      [Evt.st .FW_LOAD_REJ, FW_SLOT_A.GEN, FW_SLOT_A.STATE, FW_SLOT_B.GEN, FW_SLOT_B.STATE, FW_STAT.ACTIVE, FW_STAT.GEN,
      FW_STAT.NO_FW] ++ logFields)
  | .otpProgram _ => some ([.emit, .fw, .log], [])
  | .locked => some ([.emit], [CAD_PERIOD.PERIOD, CAD_STAT.LOCKED])
  | .cadenceLost => some ([.cad, .emit, .tasks, .log], 
      [Evt.st .CAD_LOST, CAD_RELOCK_CNT.LOST, CAD_STAT.CADENCE_LOST] ++ logFields)
  | .fwPublish _ => some ([.cad, .emit, .eng, .free, .fw, .log, .tasks], logFields)
  | .fwOverrun => some ([.cad, .emit, .eng, .tasks, .log], [Evt.st .CAD_FW_OVR, CAD_OVERRUN.FW] ++ logFields)
  | .engineOverrun => some ([.cad, .emit, .eng, .fw, .log, .tasks],
      [Evt.st .CAD_ENG_OVR, Evt.st .ENG_ENGINE_FAULT, Evt.st .ENG_LANE_DIS, Evt.st .FW_TRD_LOST, CAD_OVERRUN.ENG,
      ENG_CAND.CAP, ENG_CAND.CUR, ENG_CAND.HINT, ENG_CAND.THM, ENG_CNT.LDIS, ENG_DUMP_STAT.DIFF, ENG_DUMP_STAT.DONE,
      ENG_DUMP_STAT.HELD, ENG_DUMP_STAT.NOWRITE, ENG_DUMP_TICK.TICK, ENG_DUMP_VAL.VAL_A, ENG_DUMP_VAL.VAL_B,
      ENG_LCAND.LINK8, ENG_LCAND.LINK9, ENG_LCAND.STACK, ENG_OUT.FLOOR, ENG_OUT.OUT, ENG_OUT.PERF, ENG_OUT.SAFE,
      ENG_SEL.LNK, ENG_SEL.SEC, ENG_SEL.STK, ENG_STAT.LD_RUN, ENG_STAT.STATE, ENG_TR_STAT.HALF, ENG_TR_STAT.STOPPED,
      ENG_TR_STAT.TRIGGERED, ENG_TR_STAT.TRIG_IDX, ENG_TR_STAT.WPTR, TRD_STAT.LOST] ++ logFields)
  | .domRelease _ => some ([.emit, .tasks], [DOM_AGE.AGE, DOM_STAT.MERGED, DOM_STAT.PENDING, DOM_STAT.PROMOTED])
  | .domPromote _ => some ([.emit], [DOM_STAT.PROMOTED])
  | .domOverdue _ => some ([.emit, .tasks, .log], [Evt.st .CAD_OVERDUE, DOM_STAT.OVERDUE] ++ logFields)
  | .domSlice _ _ => some ([.bus, .cad, .cmd, .em, .emit, .eng, .free, .fw, .log, .mg, .rim, .spk, .tasks, .th],
      [Evt.st .EM_CAL_DONE, Evt.st .EM_COEF_CLAMP, Evt.st .EM_GAIN_CLAMP, Evt.st .EM_SLOW_SKIP,
      Evt.st .ENG_ENGINE_FAULT, Evt.st .ENG_LANE_DIS, Evt.st .FW_LOG_WM, Evt.st .FW_TRD_BLOCK, Evt.st .MG_CL_RETIRED,
      Evt.st .MG_CORE_RETIRED, Evt.st .MG_CORE_SLOWED, Evt.st .MG_NO_MEDIAN, Evt.st .MG_OTP_FULL, Evt.st .MG_REPLAN,
      Evt.st .MG_SUS_STEP, Evt.st .MG_WORN, Evt.st .SPK_TRIM_FAIL, Evt.st .TH_CAL_FAIL, CAR_LEASE.REQ, DOM_AGE.AGE,
      DOM_STAT.PENDING, DOM_STAT.PROMOTED, EM_CAL_TIME.FAST_OK, EM_CAL_TIME.SLOW_OK, EM_CAL_TIME.SLOW_SKIPS,
      EM_COEF.EXP, EM_COEF.MANT, EM_GAIN.GAIN, EM_RESID.SLOW_RES, EM_STAT.CAL_STATE, EM_STAT.GAIN_CLAMP, ENG_CAND.CAP,
      ENG_CAND.CUR, ENG_CAND.HINT, ENG_CAND.THM, ENG_CNT.LDIS, ENG_LCAND.LINK8, ENG_LCAND.LINK9, ENG_LCAND.STACK,
      ENG_OUT.FLOOR, ENG_OUT.OUT, ENG_OUT.PERF, ENG_OUT.SAFE, ENG_SEL.LNK, ENG_SEL.SEC, ENG_SEL.STK, ENG_STAT.LD_RUN,
      ENG_STAT.STATE, LOG_CTRL.FLUSH, MG_CL.AGE, MG_CL.REQ, MG_CL.STATE, MG_CL.SUS, MG_DLY.BASE, MG_DLY.MEDIANS,
      MG_DLY.PROJ, MG_EPOCH.EPOCH, MG_OTP.FREE, MG_OTP.USED, MG_STAT.OTP_FULL, MG_STAT.RETIRED, MG_STAT.SUS_OVF,
      MG_STAT.WORN, OMB_STAT.DROP, OMB_STAT.QUEUED, PDM.VALID, REST_MASK.WAKE, RG_IMON_CAL.GAIN, RG_IMON_CAL.OFFSET,
      SWD_STAT.PEND, SWD_STAT.WAIT_SLOT, TH_CHSTAT.CALIB, TH_STAT.OTP_PEND, TH_WR_CNT.DEFERRED, TH_WR_CNT.SUPERSEDED,
      TRD_CTRL.EN, TRD_STAT.BLOCK] ++ logFields)
  | .featherTrigger _ _ _ _ => some ([.emit, .spk], [SNT_CNT.FTH_EVT])
  | .tripClear _ _ => some ([.emit, .spk], [])
  | .featherHoldExpiry _ _ => some ([.emit, .spk], [])
  | .featherReturnStep _ _ => some ([.emit, .spk], [])
  | .brake _ => some ([.emit, .eng, .spk, .tasks, .log], 
      [Evt.st .SPK_BRAKE, SPK_BRK_CNT.BRAKES, SPK_STAT.BRAKE, SPK_STAT.BRK_DIV] ++ logFields)
  | .vrAlertDeassert _ => some ([.emit, .spk], [])
  | .brakeReleaseStep => some ([.emit, .gl, .spk, .tasks, .log], 
      [Evt.st .SPK_BRK_RELEASED, SPK_STAT.BRAKE, SPK_STAT.BRK_DIV] ++ logFields)
  | .alertSourceTimeout => some ([.emit, .gl, .tasks, .log], [Evt.st .GL_ALERT_UNKNOWN] ++ logFields)
  | .alertHoldExpiry => some ([.emit, .gl], [])
  | .spokeFrame _ _ => some ([.emit, .log, .mg, .spk, .tasks],
      [Evt.st .MG_SUS_STEP, Evt.st .MG_VIOL, Evt.st .MG_WORN, Evt.st .SPK_FEATHER, Evt.st .SPK_FEATHER_SKIP,
      Evt.st .SPK_INJ_FAIL, Evt.st .SPK_TREE_FAULT, MG_CL.STATE, MG_CL.SUS, MG_STAT.RETIRED, MG_STAT.WORN, PDM.SLACK,
      PDM.VALID, PDM.VIOL, SNT_CNT.FTH_CYC, SNT_CNT.INJ_DONE, SNT_CNT.INJ_FAILED, SNT_STAT.FEATHER,
      SNT_STAT.FTH_EVT_TICK, SNT_STAT.FTH_TICK, SNT_STAT.INJ_FAIL, SNT_STAT.STEP, SPK_BUS_ERR.FRAMES,
      SPK_STAT.ALERT_ABC, SPK_STAT.FEATHER_ACT] ++ logFields)
  | .spokeFault _ => some ([.emit, .spk, .tasks, .log], [Evt.st .EM_UNKNOWN, Evt.st .SPK_SPOKE_FAULT] ++ logFields)
  | .subtick _ _ => some ([.emit, .log, .rim, .spk, .tasks],
      [Evt.st .RIM_AT_FLOOR, Evt.st .RIM_ILIMIT, FLOW_GOOD_TICKS.TICKS, RG_I_L.I_L, RG_I_SM.I_M, RG_I_SM.I_S,
      RG_LIMITED.TICKS, RG_OVER_CNT.LONG, RG_OVER_CNT.MID, RG_OVER_CNT.SHORT, RG_STAT.AT_FLOOR, RG_STAT.CEIL,
      RG_STAT.IMON_CODE, RG_STAT.OVER_L, RG_STAT.OVER_M, RG_STAT.OVER_S, RIM_STAT.COOL_FAULT, RIM_STAT.FLOW_GOOD_1S,
      RIM_STAT.OVER, SNT_STAT.ARMED, SWD_STAT.STATE] ++ logFields)
  | .ceilRise _ => some ([.emit, .rim], [RG_STAT.CEIL])
  | .imonFault _ => some ([.emit, .rim, .tasks, .log], [Evt.st .RIM_IMON_FAULT, RG_STAT.IMON_FAULT] ++ logFields)
  | .imonValid _ => some ([.emit, .rim], [RG_STAT.IMON_FAULT])
  | .domainRampEvent => some ([.cad, .cmd, .emit, .rim, .tasks, .log], 
      [Evt.st .CAD_LATE, CAD_DEFER_CNT.LATE, SWD_STAT.PEND, SWD_STAT.WAIT_SLOT] ++ logFields)
  | .rampUpStart _ => some ([.emit, .rim, .tasks, .log], 
      [Evt.st .RIM_SLOT_WAIT, RG_STAT.RAMPS, SWD_STAT.MINOFF, SWD_STAT.PEND, SWD_STAT.STATE, SWD_STAT.WAIT_SLOT] ++ logFields)
  | .rampUpEnd _ => some ([.emit, .rim], [RG_STAT.RAMPS, SWD_STAT.STATE])
  | .settleEnd _ _ => some ([.cmd, .emit, .log, .rim, .tasks],
      [Evt.st .RIM_FORCED_OFF, Evt.st .RIM_RAMP_FAULT, REST_MASK.WAKE, RG_STAT.RAMPS, SNT_STAT.ARMED, SWD_STAT.FORCED,
      SWD_STAT.ONS, SWD_STAT.PEND, SWD_STAT.STATE, SWD_STAT.WAIT_SLOT] ++ logFields)
  | .drainStart _ => some ([.emit, .rim], [SWD_STAT.PEND, SWD_STAT.STATE])
  | .drainEnd _ => some ([.emit, .rim], [])
  | .rampDownStart _ => some ([.emit, .rim, .spk, .tasks, .log], 
      [Evt.st .RIM_SLOT_WAIT, RG_STAT.RAMPS, SNT_STAT.ARMED, SWD_STAT.STATE, SWD_STAT.WAIT_SLOT] ++ logFields)
  | .rampDownEnd _ => some ([.cmd, .emit, .log, .mg, .rc, .rim, .tasks],
      [Evt.st .MG_CL_RETIRED, Evt.st .MG_OTP_FULL, CORE_FENCE.FENCE, CORE_GATE.GATE, MG_CL.RET_CORES, MG_CL.STATE,
      MG_OTP.FREE, MG_OTP.USED, MG_STAT.FENCE_WAIT, MG_STAT.OTP_FULL, MG_STAT.RETIRED, MG_STAT.WORN, OMB_STAT.AWAIT,
      REST_MASK.WAKE, RG_STAT.RAMPS, RIM_STAT.COOL_STOP, SWD_STAT.MINOFF, SWD_STAT.PEND, SWD_STAT.STATE,
      SWD_STAT.WAIT_SLOT, TH_STAT.OTP_PEND, TH_WR_CNT.DEFERRED, TH_WR_CNT.SUPERSEDED] ++ logFields)
  | .coolStop => some ([.cmd, .emit, .eng, .log, .rim, .tasks],
      [Evt.st .RIM_CANCELLED, Evt.st .RIM_COOL_STOP, Evt.st .RIM_FORCED_OFF, COOL_CNT.STOPS, REST_MASK.WAKE,
      RG_STAT.RAMPS, RIM_STAT.COOL_STOP, SWD_STAT.FORCED, SWD_STAT.PEND, SWD_STAT.WAIT_SLOT] ++ logFields)
  | .selfRefreshAck _ => some ([.emit, .rim], [])
  | .srFault _ => some ([.cmd, .emit, .log, .rim, .tasks],
      [Evt.st .RIM_FORCED_OFF, Evt.st .RIM_SR_FAULT, REST_MASK.WAKE, RG_STAT.RAMPS, SWD_STAT.FORCED, SWD_STAT.PEND,
      SWD_STAT.WAIT_SLOT] ++ logFields)
  | .flowGood1s => some ([.emit, .rim], [RIM_STAT.FLOW_GOOD_1S])
  | .restEntryStart => some ([.cmd, .emit, .rim, .tasks, .log], 
      [Evt.st .RIM_CANCELLED, REST_MASK.WAKE, RIM_STAT.REST_STATE, RIM_STAT.REST_TICK, SWD_STAT.PEND, SWD_STAT.STATE,
      SWD_STAT.WAIT_SLOT] ++ logFields)
  | .restEntryWave _ => some ([.emit, .rim, .spk], [SNT_STAT.ARMED, SWD_STAT.STATE])
  | .restEntered => some ([.cmd, .emit, .tasks, .log], [Evt.st .RIM_REST_ENTERED, RIM_STAT.REST_STATE] ++ logFields)
  | .restWakeStart => some ([.emit, .gl, .mg, .rim, .tasks, .log], 
      [Evt.st .CAD_DEFER, CAD_DEFER_CNT.DEFER, GL_STAT.OUTSTANDING, GL_STAT.SEQ, GL_STAT.VREQ, RIM_STAT.REST_STATE,
      RIM_STAT.REST_TICK, SWD_STAT.MINOFF, SWD_STAT.PEND, SWD_STAT.STATE] ++ logFields)
  | .restWakeWave _ => some ([.emit, .rim], [SWD_STAT.MINOFF, SWD_STAT.PEND, SWD_STAT.STATE])
  | .restExited => some ([.cmd, .emit, .rim, .tasks, .log], 
      [Evt.st .RIM_REST_EXITED, RIM_STAT.REST_STATE] ++ logFields)
  | .ack _ _ => some ([.emit, .gl], [GL_CTRL.SSC_APPLY, GL_STAT.OUTSTANDING, GL_STAT.SEQ, GL_STAT.VREQ])
  | .ackTimeout _ => some ([.emit, .eng, .gl, .log, .tasks],
      [Evt.st .GL_LINK_FAULT, GL_CTRL.SSC_APPLY, GL_ERR.NOACK, GL_FAULT.FAULT, GL_FAULT_CNT.FAULTS, GL_STAT.LSTATE,
      GL_STAT.OUTSTANDING, GL_STAT.SEQ, GL_STAT.VREQ] ++ logFields)
  | .nak _ _ => some ([.emit, .eng, .gl, .log, .tasks],
      [Evt.st .GL_LINK_FAULT, Evt.st .GL_NAK, GL_CTRL.SSC_APPLY, GL_ERR.NAK, GL_ERR.NOACK, GL_FAULT.FAULT,
      GL_FAULT_CNT.FAULTS, GL_STAT.LSTATE, GL_STAT.OUTSTANDING, GL_STAT.SEQ, GL_STAT.VREQ] ++ logFields)
  | .done _ _ => some ([.emit, .gl], [GL_STAT.OUTSTANDING, GL_STAT.SEQ, GL_STAT.VDONE, GL_STAT.VREQ])
  | .doneDeadline _ => some ([.emit, .eng, .gl, .tasks, .log], 
      [Evt.st .GL_DONE_LATE, Evt.st .GL_LINK_FAULT, GL_CTRL.SSC_APPLY, GL_ERR.DONE_LATE, GL_FAULT.FAULT,
      GL_FAULT_CNT.FAULTS, GL_STAT.LSTATE, GL_STAT.OUTSTANDING, GL_STAT.SEQ, GL_STAT.VREQ] ++ logFields)
  | .telem _ _ _ => some ([.cmd, .emit, .eng, .gl, .log, .rim, .tasks],
      [Evt.st .GL_ALERT_SRC, Evt.st .GL_LINK_FAULT, Evt.st .GL_RXERR, Evt.st .RIM_FORCED_OFF, GL_CTRL.RETRAIN,
      GL_CTRL.SSC_APPLY, GL_ERR.RXERR, GL_FAULT.FAULT, GL_FAULT_CNT.FAULTS, GL_STAT.LSTATE, GL_STAT.OUTSTANDING,
      GL_STAT.SEQ, GL_STAT.VDONE, GL_STAT.VREQ, GL_TEL0.I_SUM, GL_TEL0.TEMP, GL_TEL1.VIN, REST_MASK.WAKE,
      RG_STAT.RAMPS, SWD_STAT.FORCED, SWD_STAT.PEND, SWD_STAT.WAIT_SLOT] ++ logFields)
  | .warn _ _ => some ([.emit, .gl, .th, .tasks, .log], 
      [Evt.st .GL_WARN, Evt.st .TH_VRWARN_ACT, GL_FAULT_CNT.WARNS, GL_STAT.WARN, GL_TEL0.TEMP, GL_WARN.WARN] ++ logFields)
  | .trainDone _ _ => some ([.emit, .eng, .gl, .tasks, .log], 
      [Evt.st .GL_LINK_FAULT, GL_CFG.SMP_PH, GL_CTRL.RETRAIN, GL_CTRL.SSC_APPLY, GL_FAULT.FAULT, GL_FAULT_CNT.FAULTS,
      GL_STAT.LSTATE, GL_STAT.OUTSTANDING, GL_STAT.SEQ, GL_STAT.VREQ] ++ logFields)
  | .queryTimeout _ => some ([.emit, .eng, .gl, .tasks, .log], 
      [Evt.st .GL_LINK_FAULT, GL_CTRL.RETRAIN, GL_CTRL.SSC_APPLY, GL_FAULT.FAULT, GL_FAULT_CNT.FAULTS, GL_STAT.LSTATE,
      GL_STAT.OUTSTANDING, GL_STAT.SEQ, GL_STAT.VREQ] ++ logFields)
  | .linkSuspect _ => some ([.emit, .gl], [GL_STAT.LSTATE])
  | .linkRecover _ => some ([.emit, .gl],
      [GL_CTRL.SSC_APPLY, GL_STAT.LSTATE, GL_STAT.OUTSTANDING, GL_STAT.SEQ, GL_STAT.VREQ])
  | .linkFault _ => some ([.emit, .eng, .gl, .tasks, .log], 
      [Evt.st .GL_LINK_FAULT, GL_CTRL.SSC_APPLY, GL_FAULT.FAULT, GL_FAULT_CNT.FAULTS, GL_STAT.LSTATE, GL_STAT.OUTSTANDING,
      GL_STAT.SEQ, GL_STAT.VREQ] ++ logFields)
  | .faultRetrain _ => some ([.emit, .gl], [GL_FAULT.FAULT, GL_STAT.LSTATE])
  | .diodeConversion _ _ => some ([.cmd, .emit, .rim, .th, .tasks, .log], 
      [Evt.st .RIM_CANCELLED, Evt.st .TH_HIGH_STOP, Evt.st .TH_HIGH_WARN, Evt.st .TH_LOW_STOP, Evt.st .TH_LOW_WARN,
      Evt.st .TH_OPEN_SHORT, Evt.st .TH_WR_INHIBIT, RIM_STAT.PWR_INHIBIT, SWD_STAT.PEND, SWD_STAT.WAIT_SLOT,
      TH_CHSTAT.ABOVE_TGT, TH_CHSTAT.HIGH_STOP, TH_CHSTAT.HIGH_WARN, TH_CHSTAT.LOW_STOP, TH_CHSTAT.LOW_WARN,
      TH_CHSTAT.OPEN, TH_CHSTAT.RS, TH_CHSTAT.SHORT, TH_CHSTAT.VALID, TH_FLT_CNT.FAULTS, TH_FLT_CNT.STOPS,
      TH_STAT.INVALID, TH_STAT.NO_COOL_REF, TH_STAT.PWR_INHIBIT, TH_STAT.WR_OK, TH_VAL.VALUE] ++ logFields)
  | .thermistorConversion _ _ => some ([.cmd, .emit, .rim, .th, .tasks, .log], 
      [Evt.st .RIM_CANCELLED, Evt.st .TH_HIGH_STOP, Evt.st .TH_HIGH_WARN, Evt.st .TH_LOW_STOP, Evt.st .TH_LOW_WARN,
      Evt.st .TH_OPEN_SHORT, Evt.st .TH_WR_INHIBIT, RIM_STAT.PWR_INHIBIT, SWD_STAT.PEND, SWD_STAT.WAIT_SLOT,
      TH_CHSTAT.ABOVE_TGT, TH_CHSTAT.HIGH_STOP, TH_CHSTAT.HIGH_WARN, TH_CHSTAT.LOW_STOP, TH_CHSTAT.LOW_WARN,
      TH_CHSTAT.OPEN, TH_CHSTAT.SHORT, TH_CHSTAT.VALID, TH_FLT_CNT.FAULTS, TH_FLT_CNT.STOPS, TH_STAT.INVALID,
      TH_STAT.NO_COOL_REF, TH_STAT.PWR_INHIBIT, TH_STAT.WR_OK, TH_VAL.VALUE] ++ logFields)
  | .driftCheck => some ([.cmd, .emit, .rim, .th, .tasks, .log], 
      [Evt.st .RIM_CANCELLED, Evt.st .TH_DRIFT, Evt.st .TH_WR_INHIBIT, RIM_STAT.PWR_INHIBIT, SWD_STAT.PEND,
      SWD_STAT.WAIT_SLOT, TH_CHSTAT.DRIFT, TH_CHSTAT.VALID, TH_FLT_CNT.FAULTS, TH_STAT.INVALID, TH_STAT.NO_COOL_REF,
      TH_STAT.PWR_INHIBIT, TH_STAT.WR_OK] ++ logFields)
  | .thermalStop _ => some ([.cmd, .emit, .log, .rim, .tasks, .th],
      [Evt.st .RIM_FORCED_OFF, REST_MASK.WAKE, RG_STAT.RAMPS, SWD_STAT.FORCED, SWD_STAT.PEND, SWD_STAT.WAIT_SLOT] ++ logFields)
  | .vrwDrop _ => some ([.emit, .th], [])
  | .vrwRemove _ => some ([.emit, .th], [])
  | .otpDeferredWrite => some ([.emit, .mg, .tasks, .log], 
      [Evt.st .MG_OTP_FULL, MG_OTP.FREE, MG_OTP.USED, MG_STAT.OTP_FULL, TH_STAT.OTP_PEND] ++ logFields)
  | .capPwmEdge _ _ => some ([.bg, .emit], [])
  | .budgetPeriod => some ([.bg, .car, .emit, .free, .tasks, .log], 
      [Evt.st .BG_CAP_BELOW_MIN, Evt.st .BG_DROP, BG_ALLOC_CM.COMP, BG_ALLOC_CM.MEM, BG_ALLOC_L.LINK, BG_DROP_CNT.A,
      BG_DROP_CNT.B, BG_DROP_CNT.C, BG_LIMIT.BW, BG_LIMIT.LNK8, BG_LIMIT.LNK9, BG_SECT.PT_D, BG_STAT.CAP_BELOW_MIN,
      BG_STAT.IN_FORCE] ++ logFields)
  | .classRestore => some ([.bg, .emit, .tasks, .log], [Evt.st .BG_RESTORE, BG_STAT.IN_FORCE] ++ logFields)
  | .idleGate _ => some ([.cmd, .emit, .rim], [SWD_STAT.PEND, SWD_STAT.WAIT_SLOT])
  | .waitTimeout _ => some ([.bg, .cmd, .emit, .rim, .tasks, .log], 
      [Evt.st .BG_WAIT_FAIL, BG_WAIT_CNT.FAILS, BG_WAIT_CNT.TIMEOUTS, SWD_STAT.PEND, SWD_STAT.WAIT_SLOT] ++ logFields)
  | .backoffRetry _ => some ([.emit, .rim], [])
  | .hintPrestage => some ([.bg, .cad, .cmd, .emit, .gl, .rim, .tasks, .log], 
      [Evt.st .CAD_LATE, BG_HINT_STAT.ACTIVE, BG_HINT_STAT.HELD, BG_SECT.HINT, CAD_DEFER_CNT.LATE, GL_STAT.OUTSTANDING,
      GL_STAT.SEQ, GL_STAT.VREQ, SWD_STAT.PEND] ++ logFields)
  | .hintExpiry _ => some ([.bg, .cad, .emit, .eng, .gl, .log, .tasks],
      [Evt.st .BG_HINT_EXPIRED, BG_HINT_CNT.EXPIRED, BG_HINT_STAT.ACTIVE, BG_HINT_STAT.HELD, BG_SECT.HINT,
      GL_STAT.OUTSTANDING, GL_STAT.SEQ, GL_STAT.VREQ] ++ logFields)
  | .hintEnd _ => some ([.bg, .cad, .emit, .eng, .gl, .tasks],
      [BG_HINT_STAT.ACTIVE, BG_HINT_STAT.HELD, BG_SECT.HINT, GL_STAT.OUTSTANDING, GL_STAT.SEQ, GL_STAT.VREQ])
  | .modelImageTake => some ([.cad, .em, .emit, .tasks, .log], 
      [Evt.st .CAD_LATE, CAD_DEFER_CNT.LATE, EM_CAL_TIME.FAST_OK, EM_CAL_TIME.SLOW_OK, EM_COEF.EXP, EM_COEF.MANT,
      EM_COEF.RAIL, EM_SEED.EXP, EM_SEED.MANT, EM_SEED.RAIL, EM_STAT.CAL_STATE] ++ logFields)
  | .bankSwitchFire => some ([.cad, .emit, .eng, .free, .tasks, .log], 
      [Evt.st .CAD_LATE, Evt.st .ENG_BANK_SW, CAD_DEFER_CNT.LATE, ENG_IMAGE.CYCLES, ENG_IMAGE.IMAGE_ID, ENG_IMAGE.KEEP,
      ENG_SETST.DWELL_CNT, ENG_SETST.NEXT, ENG_SETST.NF, ENG_SETST.NT, ENG_SETST.REGION, ENG_STAT.BANK,
      ENG_STAT.INACT_VALID, ENG_STAT.LD_RUN, ENG_STAT.STATE, ENG_STAT.SWITCH_PEND] ++ logFields)
  | .regionSwitch => some ([.cad, .emit, .eng, .tasks, .log], 
      [Evt.st .CAD_LATE, Evt.st .ENG_REGION, CAD_DEFER_CNT.LATE, ENG_SETST.DWELL_CNT, ENG_SETST.REGION] ++ logFields)
  | .openTimeout _ => some ([.emit, .eng, .tasks, .log], 
      [Evt.st .ENG_OPEN_TIMEOUT, ENG_SETST.OPEN_MS, ENG_STAT.OPEN] ++ logFields)
  | .notFollowing _ => some ([.emit, .eng, .tasks, .log], 
      [Evt.st .ENG_NOT_FOLLOWING, ENG_NF.NF, ENG_NF.NF_CNT] ++ logFields)
  | .nfClear _ _ => some ([.emit, .eng], [ENG_NF.NF])
  | .nodeDumpFire => some ([.cad, .emit, .eng, .tasks, .log], 
      [Evt.st .CAD_LATE, CAD_DEFER_CNT.LATE, ENG_DUMP_STAT.DIFF, ENG_DUMP_STAT.DONE, ENG_DUMP_STAT.HELD,
      ENG_DUMP_STAT.NOWRITE, ENG_DUMP_TICK.TICK, ENG_DUMP_VAL.VAL_A, ENG_DUMP_VAL.VAL_B] ++ logFields)
  | .nop _ => some ([.emit, .eng, .tasks, .log], [Evt.st .ENG_SAT, ENG_CNT.SAT] ++ logFields)
  | .lda _ => some ([.emit, .eng, .tasks, .log], [Evt.st .ENG_SAT, ENG_CNT.SAT] ++ logFields)
  | .mvm _ => some ([.emit, .eng, .tasks, .log], [Evt.st .ENG_SAT, ENG_CNT.SAT] ++ logFields)
  | .vmul _ => some ([.emit, .eng, .tasks, .log], [Evt.st .ENG_SAT, ENG_CNT.SAT] ++ logFields)
  | .addi _ => some ([.emit, .eng, .tasks, .log], [Evt.st .ENG_SAT, ENG_CNT.SAT] ++ logFields)
  | .rnd _ => some ([.emit, .eng, .tasks, .log], [Evt.st .ENG_SAT, ENG_CNT.SAT] ++ logFields)
  | .sub _ => some ([.emit, .eng, .tasks, .log], [Evt.st .ENG_SAT, ENG_CNT.SAT] ++ logFields)
  | .clmp _ => some ([.emit, .eng, .tasks, .log], [Evt.st .ENG_SAT, ENG_CNT.SAT] ++ logFields)
  | .intg _ => some ([.emit, .eng, .tasks, .log], [Evt.st .ENG_SAT, ENG_CNT.SAT] ++ logFields)
  | .cvt _ => some ([.emit, .eng, .tasks, .log], [Evt.st .ENG_SAT, ENG_CNT.SAT] ++ logFields)
  | .minsel _ => some ([.emit, .eng, .tasks, .log], [Evt.st .ENG_SAT, ENG_CNT.SAT] ++ logFields)
  | .mov _ => some ([.emit, .eng, .tasks, .log], [Evt.st .ENG_SAT, ENG_CNT.SAT] ++ logFields)
  | .engEnd _ => some ([.cad, .emit, .eng, .fw, .log, .tasks], 
      [Evt.st .CAD_ENG_OVR, Evt.st .ENG_ENGINE_FAULT, Evt.st .ENG_LANE_DIS, Evt.st .ENG_SAT, Evt.st .FW_TRD_LOST,
      CAD_OVERRUN.ENG, ENG_CAND.CAP, ENG_CAND.CUR, ENG_CAND.HINT, ENG_CAND.THM, ENG_CNT.LDIS, ENG_CNT.SAT,
      ENG_DUMP_STAT.DIFF, ENG_DUMP_STAT.DONE, ENG_DUMP_STAT.HELD, ENG_DUMP_STAT.NOWRITE, ENG_DUMP_TICK.TICK,
      ENG_DUMP_VAL.VAL_A, ENG_DUMP_VAL.VAL_B, ENG_LCAND.LINK8, ENG_LCAND.LINK9, ENG_LCAND.STACK, ENG_OUT.FLOOR,
      ENG_OUT.OUT, ENG_OUT.PERF, ENG_OUT.SAFE, ENG_SEL.LNK, ENG_SEL.SEC, ENG_SEL.STK, ENG_STAT.LD_RUN,
      ENG_STAT.STATE, ENG_TR_STAT.HALF, ENG_TR_STAT.STOPPED, ENG_TR_STAT.TRIGGERED, ENG_TR_STAT.TRIG_IDX,
      ENG_TR_STAT.WPTR, TH_VAL.EST, TRD_STAT.LOST] ++ logFields)
  | .keepSend _ => some ([.car, .emit, .free], [])
  | .paceLinkDown _ => some ([.car, .emit, .tasks, .log], 
      [Evt.st .CAR_LINK_DOWN, CAR_ERR.LINKDOWN, CAR_STAT.LINK_UP] ++ logFields)
  | .keep _ _ => some ([.car, .emit], [CAR_ERR.CRC, CAR_STAT.LINK_UP])
  | .reportSend => some ([.car, .emit, .pel, .tasks, .log], 
      [CAR_LIVE.LIVE, CAR_STAT.DESIGNATED, CAR_STAT.LIVE] ++ logFields)
  | .report _ _ => some ([.car, .emit, .pel, .tasks, .log], 
      [Evt.st .CAR_MEMBER_JOIN, CAR_ERR.CRC, CAR_ERR.STALE, CAR_LIVE.LIVE, CAR_RXMSG.MSGS, CAR_STAT.DESIGNATED,
      CAR_STAT.LINK_UP, CAR_STAT.LIVE] ++ logFields)
  | .carrierPeriod => some ([.car, .emit, .eng, .free, .log, .tasks],
      [Evt.st .CAR_CLAIM_CONFLICT, Evt.st .CAR_OVER, Evt.st .CAR_ROLE_CHANGE, Evt.st .CAR_YIELD, CAR_BUDGET.BUDGET,
      CAR_EPOCH_SEEN.EPOCH, CAR_LEASE.REQ, CAR_OFS.OFS, CAR_SHARE.AGE, CAR_SHARE.MODE, CAR_SHARE.OBEYED,
      CAR_SPLIT.MODE, CAR_SPLIT.PARAM, CAR_STAT.CLAIMANTS, CAR_STAT.OBEY_DIE, CAR_STAT.ROLE, CAR_STAT.SHARE_VALID,
      ENG_SLEWV.OUT, ENG_SLEWV.TARGET, PEL_STAT.ROOT] ++ logFields)
  | .share _ _ _ => some ([.car, .emit, .eng, .log, .tasks],
      [Evt.st .CAR_CLAIM_CONFLICT, Evt.st .CAR_ROLE_CHANGE, Evt.st .CAR_YIELD, CAR_EPOCH_SEEN.EPOCH, CAR_ERR.CRC,
      CAR_ERR.STALE, CAR_OFS.OFS, CAR_RXMSG.MSGS, CAR_SHARE.AGE, CAR_SHARE.MODE, CAR_SHARE.OBEYED, CAR_STAT.CLAIMANTS,
      CAR_STAT.LINK_UP, CAR_STAT.OBEY_DIE, CAR_STAT.ROLE, CAR_STAT.SHARE_VALID, ENG_SLEWV.OUT, ENG_SLEWV.TARGET,
      PEL_STAT.ROOT] ++ logFields)
  | .shareTimeout => some ([.emit, .tasks, .log], [Evt.st .CAR_SHARE_INVALID, CAR_STAT.SHARE_VALID] ++ logFields)
  | .memberLost _ => some ([.car, .emit, .pel, .tasks, .log], 
      [Evt.st .CAR_MEMBER_LOST, CAR_LIVE.LIVE, CAR_STAT.DESIGNATED, CAR_STAT.LIVE] ++ logFields)
  | .takeover => some ([.emit, .tasks, .log], [Evt.st .CAR_TAKEOVER, CAR_LEASE.REQ, CAR_LEASE.TAKEOVER] ++ logFields)
  | .leaseExpiry => some ([.car, .emit, .log, .tasks],
      [Evt.st .CAR_LEASE_LOST, Evt.st .CAR_ROLE_CHANGE, CAR_LEASE.LEFT, CAR_LEASE.REQ, CAR_STAT.LEASE_VALID,
      CAR_STAT.ROLE, PEL_STAT.ROOT] ++ logFields)
  | .offerSend => some ([.car, .emit, .free, .pel, .tasks, .log], 
      [Evt.st .PEL_ROOT_CHANGE, PEL_LIVE.LIVE, PEL_ROOT.LIVE_CAR, PEL_ROOT.RETURN_LEFT, PEL_ROOT.RISES, PEL_STAT.OFS_VALID,
      PEL_STAT.ROOT, PEL_STAT.ROOT_CARRIER] ++ logFields)
  | .offer _ => some ([.car, .emit, .free, .pel, .tasks, .log], 
      [Evt.st .PEL_ROOT_CHANGE, CAR_ERR.CRC, CAR_ERR.STALE, CAR_RXMSG.MSGS, PEL_LIVE.LIVE, PEL_ROOT.LIVE_CAR,
      PEL_ROOT.RETURN_LEFT, PEL_ROOT.RISES, PEL_STAT.OFS_VALID, PEL_STAT.ROOT, PEL_STAT.ROOT_CARRIER] ++ logFields)
  | .carrierLost _ => some ([.emit, .pel, .tasks, .log], 
      [Evt.st .PEL_CARRIER_LOST, Evt.st .PEL_ROOT_CHANGE, PEL_LIVE.LIVE, PEL_ROOT.LIVE_CAR, PEL_ROOT.RETURN_LEFT,
      PEL_ROOT.RISES, PEL_STAT.OFS_VALID, PEL_STAT.ROOT, PEL_STAT.ROOT_CARRIER] ++ logFields)
  | .pointSend => some ([.cad, .car, .emit, .free, .pel, .tasks, .log], 
      [Evt.st .PEL_FALLBACK, PEL_LIVE.LIVE, PEL_NEXT.TICK, PEL_ROOT.LIVE_CAR, PEL_ROOT.RETURN_LEFT, PEL_ROOT.RISES,
      PEL_STAT.ORPHAN, PEL_STAT.ROOT] ++ logFields)
  | .pelPoint _ => some ([.cad, .car, .emit, .free, .pel, .tasks, .log], 
      [CAR_ERR.CRC, CAR_ERR.STALE, CAR_RXMSG.MSGS, PEL_NEXT.TICK, PEL_STAT.ORPHAN] ++ logFields)
  | .cpoint _ _ => some ([.cad, .car, .emit, .free, .pel, .tasks, .log], 
      [CAR_ERR.CRC, CAR_ERR.STALE, CAR_RXMSG.MSGS, CAR_STAT.LINK_UP, PEL_NEXT.TICK, PEL_STAT.ORPHAN] ++ logFields)
  | .pelotonApply => some ([.cad, .emit, .eng, .tasks, .log], 
      [Evt.st .CAD_LATE, Evt.st .PEL_LATE_APPLY, CAD_DEFER_CNT.LATE, ENG_SLEWV.OUT, ENG_SLEWV.TARGET, PEL_NEXT.TICK,
      PEL_STAT.MODE, PEL_STAT.POINT] ++ logFields)
  | .psyncReqSend _ => some ([.car, .emit, .pel, .tasks, .log], logFields)
  | .psyncReq _ _ _ => some ([.car, .emit, .tasks, .log], [CAR_ERR.CRC, CAR_ERR.STALE, CAR_RXMSG.MSGS] ++ logFields)
  | .psyncRsp _ _ => some ([.car, .emit, .pel, .tasks, .log], 
      [CAR_ERR.CRC, CAR_ERR.STALE, CAR_RXMSG.MSGS, PEL_DELAY.DELAY, PEL_OFS.OFS, PEL_STAT.OFS_VALID] ++ logFields)
  | .drag _ _ => some ([.car, .emit, .pel, .tasks, .log], 
      [CAR_ERR.CRC, CAR_ERR.STALE, CAR_RXMSG.MSGS, CAR_STAT.LINK_UP] ++ logFields)
  | .dragRise => some ([.car, .emit, .pel, .tasks, .log], 
      [Evt.st .PEL_DRAG, PEL_CNT.DRAGS, PEL_STAT.DRAG] ++ logFields)
  | .dragClear => some ([.car, .emit, .pel, .tasks, .log], 
      [Evt.st .PEL_DRAG_CLR, PEL_STAT.CANT_FOLLOW, PEL_STAT.DRAG] ++ logFields)
  | .cantFollow => some ([.car, .emit, .pel, .tasks, .log], 
      [Evt.st .PEL_CANT_FOLLOW, Evt.st .PEL_DRAG, PEL_STAT.CANT_FOLLOW] ++ logFields)
  | .pacelineReturn => some ([.emit, .pel, .tasks, .log], 
      [Evt.st .PEL_RETURN, PEL_LIVE.LIVE, PEL_ROOT.LIVE_CAR, PEL_ROOT.RETURN_LEFT, PEL_ROOT.RISES, PEL_STAT.ROOT] ++ logFields)
  | .orphan => some ([.emit, .tasks, .log], [Evt.st .PEL_ORPHAN, PEL_STAT.ORPHAN] ++ logFields)
  | .abort _ => some ([.bus, .car, .emit, .free, .tasks, .log], 
      [Evt.st .RC_PEER_ABORT, CAR_ERR.CRC, CAR_ERR.STALE, CAR_RXMSG.MSGS, OMB_STAT.DROP, OMB_STAT.QUEUED,
      RC_PEER_ABORT.CODE, RC_PEER_SRC.CARRIER, RC_PEER_SRC.DIE] ++ logFields)
  | .applStep _ => some ([.emit, .gl, .mg], [GL_STAT.OUTSTANDING, GL_STAT.SEQ, GL_STAT.VREQ])
  | .fencePoll _ _ => some ([.bus, .emit, .free, .log, .mg, .tasks],
      [CORE_FENCE.FENCE, MG_STAT.FENCE_WAIT, OMB_STAT.AWAIT, OMB_STAT.DOMOFF, OMB_STAT.QUEUED] ++ logFields)
  | .fenceWaitExpiry => some ([.bus, .emit, .mg],
      [CORE_FENCE.FENCE, MG_STAT.FENCE_WAIT, OMB_STAT.AWAIT, OMB_STAT.QUEUED])
  | .ombPost _ _ _ => some ([.bus, .emit, .free, .mg, .tasks, .log], 
      [CORE_FENCE.FENCE, MG_STAT.FENCE_WAIT, OMB_STAT.AWAIT, OMB_STAT.DOMOFF, OMB_STAT.QUEUED] ++ logFields)
  | .hbMiss => some ([.bus, .emit, .rc, .tasks, .log], 
      [Evt.st .RC_HB_MISS, Evt.st .RC_LADDER_OPEN, OMB_STAT.DROP, OMB_STAT.QUEUED, RC_HB_CNT.MISSES, RC_STAT.LADDER,
      RC_STAT.MISSES] ++ logFields)
  | .noticeExpiry => some ([.bus, .car, .emit, .free, .rc, .tasks, .log], 
      [Evt.st .FW_HSNAP, Evt.st .RC_ABORT_SENT, Evt.st .RC_STEP_START, Evt.st .RC_TRAY_REQ, HS_CTRL.FROZEN, HS_CTRL.MISSED,
      HS_W.WORD, OMB_STAT.DROP, OMB_STAT.QUEUED, RC_CNT.DIE, RC_CNT.POWER, RC_ERRCODE.CODE, RC_ERRLAST.CODE,
      RC_ERR_TICK.TICK, RC_STAT.DIE_RECENT, RC_STAT.HB_ARMED, RC_STAT.LADDER, RC_STAT.MISSES, RC_STAT.PWR_HELD,
      RC_STAT.STEP_PART, RC_STAT.TRAY_REQ] ++ logFields)
  | .partitionStepDone => some ([.emit, .rc, .tasks, .log], 
      [Evt.st .RC_STEP_DONE, RC_STAT.LADDER, RC_STAT.STEP_PART] ++ logFields)
  | .dieStepDone => some ([.emit, .rc, .tasks, .log], 
      [Evt.st .RC_STEP_DONE, CORE_RST.RST, RC_STAT.LADDER] ++ logFields)
  | .bootExpiry => some ([.emit, .free, .rc, .tasks, .log], 
      [Evt.st .FW_HSNAP, Evt.st .RC_TRAY_REQ, HS_CTRL.FROZEN, HS_CTRL.MISSED, HS_W.WORD, RC_CNT.POWER, RC_ERRCODE.CODE,
      RC_ERRLAST.CODE, RC_ERR_TICK.TICK, RC_STAT.LADDER, RC_STAT.PWR_HELD, RC_STAT.STEP_PART, RC_STAT.TRAY_REQ] ++ logFields)
  | .wdogKick => some ([.emit, .rc], [RC_WDOG.AGE])
  | .firstPublication => some ([.cad, .em, .emit, .eng, .fw, .gl, .log, .rc, .tasks],
      [Evt.st .FW_SW_DONE, Evt.st .RC_WARM_RESTART, ENG_STAT.LD_RUN, ENG_STAT.STATE, FW_STAT.GEN, FW_STAT.TENTATIVE,
      GL_CTRL.SSC_APPLY, GL_STAT.OUTSTANDING, GL_STAT.SEQ, GL_STAT.VREQ, GSTAT.HOLDOVER, GSTAT.READY,
      RC_STAT.HOLDOVER] ++ logFields)
  | .fwSwitchover => some ([.cad, .emit, .eng, .fw, .log, .tasks], 
      [Evt.st .CAD_LATE, CAD_DEFER_CNT.LATE, FW_STAT.ACTIVE, FW_STAT.SW_PEND, FW_STAT.TENTATIVE] ++ logFields)
  | .fwLoadDone _ => some ([.bus, .cmd, .emit, .fw, .log, .tasks], 
      [Evt.st .FW_LOAD_REJ, CMD_LAST.OPCODE, CMD_LAST.SEQ, CMD_LAST.STATUS, CMD_LAST_SRC.CLASS, CMD_LAST_SRC.INSTANCE,
      CMD_REFUSED.BADOP, CMD_REFUSED.BADPARAM, CMD_REFUSED.NOPERM, CMD_REFUSED.VERSION, FW_SLOT_A.GEN,
      FW_SLOT_A.STATE, FW_SLOT_B.GEN, FW_SLOT_B.STATE, FW_STAT.ACTIVE, FW_STAT.GEN, FW_STAT.NO_FW, MB_CTL.OWED,
      MB_CTL.RQ, RING_STAT.OWED] ++ logFields)
  | .meterSample _ => some ([.emit, .free, .mtr], [])
  | .meterWindow _ => some ([.emit, .mtr], [])
  | .meterPublish => some ([.emit, .free, .mtr], [])
  | .publication _ => some ([.emit, .mir], [MTR_MISS.CRC, MTR_MISS.MISSING])
  | .publicationMissing => some ([.emit, .mir, .tasks, .log], 
      [Evt.st .MTR_MISSING, MTR_MISS.MISSING, MTR_STAT.MISSING] ++ logFields)
  | .meterCheckpoint => some ([.emit, .mtr], [])
  | .pfw => some ([.emit, .mtr], [])
  | .pfwEnd => some ([.emit, .mtr], [])
  | .vmtrLoss _ => some ([.emit, .mtr], [])
  | .meterPowerUp _ _ => some ([.emit, .free, .mtr], [])
  | .sealBreak => some ([.emit, .mtr], [])
  | .sealRestore => some ([.emit, .mtr], [])
  | .inhibitEntry => some ([.emit, .mtr], [])
  | .inhibitExit => some ([.emit, .mtr], [])
  | .shareCheckpoint => some ([.bg, .cad, .emit, .mir, .tasks, .log], 
      [Evt.st .CAD_LATE, CAD_DEFER_CNT.LATE] ++ logFields)
  | .shareRecord => some ([.emit, .mtr], [])
  | .submissionEntry _ _ => some ([.bus, .cmd, .emit, .tasks, .log], 
      [CMD_CNT.DUP, CMD_CNT.STALE, CMD_LAST.OPCODE, CMD_LAST.SEQ, CMD_LAST.STATUS, CMD_LAST_SRC.CLASS,
      CMD_LAST_SRC.INSTANCE, CMD_REFUSED.BADOP, CMD_REFUSED.BADPARAM, CMD_REFUSED.NOPERM, CMD_REFUSED.VERSION,
      MB_CTL.OWED, MB_CTL.RQ, RING_CFG.EN, RING_CNT.CRC, RING_CNT.LOST, RING_SQ.HEAD, RING_STAT.OWED,
      RING_STAT.RD_ERR] ++ logFields)
  | .completionEntry _ _ => some ([.bus, .cmd, .emit, .tasks, .log], 
      [MB_CTL.OWED, RING_CFG.EN, RING_CNT.LOST, RING_CQ.TAIL, RING_STAT.OWED, RING_STAT.WR_ERR] ++ logFields)
  | .mailboxTake _ => some ([.bus, .cmd, .emit, .tasks, .log], 
      [CMD_CNT.DUP, CMD_CNT.STALE, CMD_LAST.OPCODE, CMD_LAST.SEQ, CMD_LAST.STATUS, CMD_LAST_SRC.CLASS,
      CMD_LAST_SRC.INSTANCE, CMD_REFUSED.BADOP, CMD_REFUSED.BADPARAM, CMD_REFUSED.NOPERM, CMD_REFUSED.VERSION,
      MB_CTL.GO, MB_CTL.OWED, MB_CTL.RQ, RING_STAT.OWED] ++ logFields)
  | .put _ => some ([.bus, .cmd, .emit, .tasks, .log], 
      [CMD_CNT.DUP, CMD_CNT.STALE, CMD_LAST.OPCODE, CMD_LAST.SEQ, CMD_LAST.STATUS, CMD_LAST_SRC.CLASS,
      CMD_LAST_SRC.INSTANCE, CMD_REFUSED.BADOP, CMD_REFUSED.BADPARAM, CMD_REFUSED.NOPERM, CMD_REFUSED.VERSION,
      MB_CTL.OWED, MB_CTL.RQ, RING_STAT.OWED, SVC_CNT.CRC, SVC_CNT.OVERFLOW, SVC_CNT.PKTS] ++ logFields)
  | .get _ => some ([.bus, .cmd, .emit, .tasks, .log], 
      [CMD_LAST.OPCODE, CMD_LAST.SEQ, CMD_LAST.STATUS, CMD_LAST_SRC.CLASS, CMD_LAST_SRC.INSTANCE, CMD_REFUSED.BADOP,
      CMD_REFUSED.BADPARAM, CMD_REFUSED.NOPERM, CMD_REFUSED.VERSION, MB_CTL.OWED, MB_CTL.RQ, RING_STAT.OWED] ++ logFields)
  | .stat => some ([.cmd, .emit], [])
  | .ident => some ([.bus, .cmd, .emit, .tasks, .log], answerFields ++ logFields)
  | .status => some ([.bus, .cmd, .emit, .tasks, .log], answerFields ++ logFields)
  | .echo => some ([.bus, .cmd, .emit, .tasks, .log], answerFields ++ logFields)
  | .readTick => some ([.bus, .cmd, .emit, .tasks, .log], answerFields ++ logFields)
  | .svcCap => some ([.bus, .cmd, .emit, .eng, .tasks, .log], 
      [ENG_SLEWV.OUT, ENG_SLEWV.TARGET] ++ answerFields ++ logFields)
  | .setPart => some ([.bus, .cmd, .emit, .tasks, .log], 
      [BG_PART.CLASS, BG_PART.FLOOR, BG_PART.IDLE_GATE] ++ answerFields ++ logFields)
  | .assign => some ([.bus, .cmd, .emit, .tasks, .log], 
      [BG_CLPART.PART, BG_CLPART.VALID] ++ answerFields ++ logFields)
  | .budgetRead => some ([.bus, .cmd, .emit, .tasks, .log], answerFields ++ logFields)
  | .partRead => some ([.bus, .cmd, .emit, .tasks, .log], answerFields ++ logFields)
  | .domainOn => some ([.bus, .cad, .cmd, .emit, .rim, .tasks, .log], 
      [SWD_STAT.PEND, SWD_STAT.WAIT_SLOT] ++ answerFields ++ logFields)
  | .domainOff => some ([.bus, .cad, .cmd, .emit, .rim, .tasks, .log], 
      [SWD_STAT.PEND, SWD_STAT.WAIT_SLOT] ++ answerFields ++ logFields)
  | .restEnter => some ([.bus, .cmd, .emit, .rim, .tasks, .log], answerFields ++ logFields)
  | .restExit => some ([.bus, .cmd, .emit, .rim, .tasks, .log], answerFields ++ logFields)
  | .domainRead => some ([.bus, .cmd, .emit, .tasks, .log], answerFields ++ logFields)
  | .hintPhase => some ([.bg, .bus, .cad, .cmd, .emit, .eng, .gl, .log, .tasks],
      [BG_HINT_CNT.ACCEPTED, BG_HINT_CNT.REJECTED, BG_HINT_STAT.ACTIVE, BG_HINT_STAT.HELD, BG_SECT.HINT,
      GL_STAT.OUTSTANDING, GL_STAT.SEQ, GL_STAT.VREQ] ++ answerFields ++ logFields)
  | .hintCancel => some ([.bg, .bus, .cad, .cmd, .emit, .eng, .gl, .log, .tasks],
      [BG_HINT_STAT.ACTIVE, BG_HINT_STAT.HELD, BG_SECT.HINT, GL_STAT.OUTSTANDING, GL_STAT.SEQ, GL_STAT.VREQ] ++ answerFields ++ logFields)
  | .loopOpen => some ([.bus, .cmd, .emit, .eng, .tasks, .log], answerFields ++ logFields)
  | .loopClose => some ([.bus, .cmd, .emit, .eng, .tasks, .log], answerFields ++ logFields)
  | .bankSwitch => some ([.bus, .cad, .cmd, .emit, .tasks, .log], 
      [ENG_STAT.SWITCH_PEND] ++ answerFields ++ logFields)
  | .traceArm => some ([.bus, .cmd, .emit, .tasks, .log], [ENG_TR_CTRL.ARM] ++ answerFields ++ logFields)
  | .engRead => some ([.bus, .cmd, .emit, .tasks, .log], answerFields ++ logFields)
  | .lease => some ([.bus, .car, .cmd, .emit, .log, .tasks],
      [Evt.st .CAR_ROLE_CHANGE, CAR_EPOCH_HELD.EPOCH, CAR_EPOCH_SEEN.EPOCH, CAR_ERR.REJECT, CAR_LEASE.LEFT,
      CAR_LEASE.REQ, CAR_LEASE.TAKEOVER, CAR_STAT.LEASE_VALID, CAR_STAT.ROLE, PEL_STAT.ROOT] ++ answerFields ++ logFields)
  | .carrierCap => some ([.bus, .cmd, .emit, .tasks, .log], 
      [CAR_CAP.CAP, CAR_RSV.RESERVE] ++ answerFields ++ logFields)
  | .pelSet => some ([.bus, .cmd, .emit, .tasks, .log], 
      [PEL_CTRL.JOIN, PEL_CTRL.PEL_ID, PEL_MASK.MASK] ++ answerFields ++ logFields)
  | .pelRead => some ([.bus, .cmd, .emit, .tasks, .log], answerFields ++ logFields)
  | .snapshot => some ([.bus, .cmd, .emit, .tasks, .log], [PW_STAT.PEND] ++ answerFields ++ logFields)
  | .attClear => some ([.bus, .cmd, .em, .emit, .tasks, .log], answerFields ++ logFields)
  | .energyRead => some ([.bus, .cmd, .emit, .tasks, .log], answerFields ++ logFields)
  | .recoveryReport => some ([.bus, .cmd, .emit, .rc, .tasks, .log], 
      [Evt.st .RC_ACCEL_STEP, RC_ERRCODE.CODE, RC_ERRLAST.CODE, RC_ERR_TICK.TICK] ++ answerFields ++ logFields)
  | .recoveryStep => some ([.bus, .car, .cmd, .emit, .free, .log, .rc, .rim, .spk, .tasks],
      [Evt.st .FW_HSNAP, Evt.st .RC_ABORT_SENT, Evt.st .RC_STEP_START, Evt.st .RC_TRAY_REQ, Evt.st .RIM_FORCED_OFF,
      CORE_RST.RST, HS_CTRL.FROZEN, HS_CTRL.MISSED, HS_W.WORD, OMB_STAT.DROP, OMB_STAT.QUEUED, RC_CNT.DIE,
      RC_CNT.PART, RC_CNT.POWER, RC_ERRCODE.CODE, RC_ERRLAST.CODE, RC_ERR_TICK.TICK, RC_STAT.DIE_RECENT,
      RC_STAT.HB_ARMED, RC_STAT.LADDER, RC_STAT.MISSES, RC_STAT.PWR_HELD, RC_STAT.STEP_PART, RC_STAT.TRAY_REQ,
      REST_MASK.WAKE, RG_STAT.RAMPS, SWD_STAT.FORCED, SWD_STAT.PEND, SWD_STAT.WAIT_SLOT] ++ answerFields ++ logFields)
  | .errRead => some ([.bus, .cmd, .emit, .tasks, .log], answerFields ++ logFields)
  | .errClear => some ([.bus, .cmd, .emit, .tasks, .log], [RC_CLR.ERR] ++ answerFields ++ logFields)
  | .suspectReport => some ([.bus, .cmd, .emit, .free, .mg, .tasks, .log], 
      [Evt.st .MG_CORE_RETIRED, Evt.st .MG_CORE_SLOWED, Evt.st .MG_OTP_FULL, Evt.st .MG_SUS_STEP, Evt.st .MG_WORN,
      MG_CL.STATE, MG_CL.SUS, MG_CNT.PERM, MG_CNT.TRANS, MG_OTP.FREE, MG_OTP.USED, MG_STAT.OTP_FULL, MG_STAT.RETIRED,
      MG_STAT.SUS_OVF, MG_STAT.WORN, OMB_STAT.DROP, OMB_STAT.QUEUED, TH_STAT.OTP_PEND, TH_WR_CNT.DEFERRED,
      TH_WR_CNT.SUPERSEDED] ++ answerFields ++ logFields)
  | .suspectClear => some ([.bus, .cmd, .emit, .mg, .tasks, .log], 
      [Evt.st .MG_OTP_FULL, MG_CL.APPL, MG_CL.SUS, MG_OTP.FREE, MG_OTP.USED, MG_STAT.OTP_FULL, MG_STAT.SUS_OVF,
      TH_STAT.OTP_PEND, TH_WR_CNT.DEFERRED, TH_WR_CNT.SUPERSEDED] ++ answerFields ++ logFields)
  | .coreCtrl => some ([.bus, .cmd, .emit, .log, .spk, .tasks],
      [CORE_DIV.DIV, CORE_FENCE.FENCE, CORE_GATE.GATE, CORE_RST.RST] ++ answerFields ++ logFields)
  | .marginRead => some ([.bus, .cmd, .emit, .tasks, .log], answerFields ++ logFields)
  | .fwLoad => some ([.bus, .cmd, .emit, .tasks, .log], 
      [FW_SLOT_A.GEN, FW_SLOT_A.STATE, FW_SLOT_B.GEN, FW_SLOT_B.STATE] ++ answerFields ++ logFields)
  | .fwSwitch => some ([.bus, .cad, .cmd, .emit, .tasks, .log], [FW_STAT.SW_PEND] ++ answerFields ++ logFields)
  | .imgLoad => some ([.bus, .cmd, .emit, .tasks, .log], answerFields ++ logFields)
  | .stageWrite => some ([.bus, .cmd, .emit, .fw, .log, .tasks], 
      [FW_SLOT_A.GEN, FW_SLOT_A.STATE, FW_SLOT_B.GEN, FW_SLOT_B.STATE] ++ answerFields ++ logFields)
  | .lockRead => some ([.bus, .cmd, .emit, .tasks, .log], answerFields ++ logFields)
  | .meterIdent _ => some ([.bus, .cmd, .emit, .mtr, .tasks, .log], answerFields ++ logFields)
  | .meterRead _ => some ([.bus, .cmd, .emit, .mtr, .tasks, .log], answerFields ++ logFields)
  | .meterAccount _ => some ([.bus, .cmd, .emit, .mtr, .tasks, .log], answerFields ++ logFields)
  | .meterEvent _ => some ([.bus, .cmd, .emit, .mtr, .tasks, .log], answerFields ++ logFields)
  | .calWrite _ => some ([.bus, .cmd, .emit, .mtr, .tasks, .log], answerFields ++ logFields)
  | .calCommit _ => some ([.bus, .cmd, .emit, .mtr, .tasks, .log], answerFields ++ logFields)
  | .setSerial _ => some ([.bus, .cmd, .emit, .mtr, .tasks, .log], answerFields ++ logFields)
  | .setTol _ => some ([.bus, .cmd, .emit, .mtr, .tasks, .log], answerFields ++ logFields)
  | .nodeDump => some ([.bus, .cad, .cmd, .emit, .tasks, .log], 
      [ENG_DUMP_CFG.NODE, ENG_DUMP_CFG.SRC, ENG_DUMP_STAT.DONE] ++ answerFields ++ logFields)
  | .regRead => some ([.bus, .cmd, .emit, .tasks, .log], 
      [ACC_ERR_ADDR.ADDR, ACC_ERR_INFO.CAUSE, ACC_ERR_INFO.COUNT, ACC_ERR_INFO.ID, ACC_ERR_INFO.NS, ACC_ERR_INFO.SVC,
      ACC_ERR_INFO.WRITE, GSTAT.ACCESS_ERR, GSTAT.SNAP_STALE, SNT_IDX.IDX] ++ answerFields ++ logFields)
  | .snapLoRead _ _ => some ([.bus, .emit], 
      [ACC_ERR_ADDR.ADDR, ACC_ERR_INFO.CAUSE, ACC_ERR_INFO.COUNT, ACC_ERR_INFO.ID, ACC_ERR_INFO.NS, ACC_ERR_INFO.SVC,
      ACC_ERR_INFO.WRITE, GSTAT.ACCESS_ERR, GSTAT.SNAP_STALE, SNT_IDX.IDX])
  | .snapHiRead _ _ => some ([.bus, .emit], 
      [ACC_ERR_ADDR.ADDR, ACC_ERR_INFO.CAUSE, ACC_ERR_INFO.COUNT, ACC_ERR_INFO.ID, ACC_ERR_INFO.NS, ACC_ERR_INFO.SVC,
      ACC_ERR_INFO.WRITE, GSTAT.ACCESS_ERR, GSTAT.SNAP_STALE, SNT_IDX.IDX])
  | .govRstNRise => some ([.emit, .rc], [])
  | .receiveError _ _ => some ([.emit, .gl, .tasks, .log], [Evt.st .GL_RXERR, GL_ERR.RXERR] ++ logFields)
  | .messageDiscarded _ => some ([.emit], [CAR_ERR.CRC])
  | .capPwmNoEdge => some ([.bg, .emit], [])
  | .meterPortByteGap => some ([.emit, .mtr], [])
  | _ => none

/-- What a command that starts a warm restart may change beside the lock bits. -/
def restartFootprint : Instr → Option (List Region × List Fld)
  | .hubFaultEsc => some ([.bg, .cad, .car, .cmd, .emit, .eng, .free, .fw, .log, .pel, .rc, .rim, .tasks], 
      [Evt.st .CAD_HUB_FAULT_ESC] ++ restartFields ++ logFields)
  | .wdogExpiry => some ([.bg, .cad, .car, .cmd, .emit, .eng, .free, .fw, .log, .pel, .rc, .rim, .tasks], 
      restartFields ++ logFields)
  | .engFaultTimeout => some ([.bg, .cad, .car, .cmd, .emit, .eng, .free, .fw, .log, .pel, .rc, .rim, .tasks], 
      restartFields ++ logFields)
  | .govRstNFall => some ([.bg, .cad, .car, .cmd, .emit, .eng, .free, .fw, .log, .pel, .rc, .rim, .tasks], 
      restartFields ++ logFields)
  | .swFail => some ([.bg, .cad, .car, .cmd, .emit, .eng, .free, .fw, .log, .pel, .rc, .rim, .tasks], 
      [Evt.st .FW_SW_FAIL] ++ restartFields ++ logFields)
  | .warmRestart => some ([.bg, .bus, .cad, .car, .cmd, .emit, .eng, .free, .fw, .log, .pel, .rc, .rim, .tasks], 
      restartFields ++ answerFields ++ logFields)
  | _ => none

/-- The fields that a refused access writes. -/
def refusalFields : List Fld :=
  [ACC_ERR_ADDR.ADDR, ACC_ERR_INFO.CAUSE, ACC_ERR_INFO.COUNT, ACC_ERR_INFO.ID, ACC_ERR_INFO.NS, ACC_ERR_INFO.SVC,
   ACC_ERR_INFO.WRITE, GSTAT.ACCESS_ERR]

/-- The access by which a register write reaches the configuration port. -/
def accessOf : Instr → Option Access
  | .go _ a | .fetch _ a | .sqTailWrite _ _ a | .cqHeadWrite _ _ a | .ringEnable _ _ a | .ringDisable _ _ a
  | .transportMode _ a | .permEffWrite _ _ a | .lockCfg a | .lockPerm a | .lockTransport a | .lockFw a | .lockDiag a
  | .peakClr a | .emAttClr _ a | .arm _ a | .rcClrErr a | .pwSnap _ a | .flush _ a | .take _ a | .rearm _ a
  | .rcHb _ a | .sscApply a | .retrain a | .registerWrite _ _ a | .pairLoWrite _ _ a | .pairHiWrite _ _ a => some a
  | _ => none

/-- A read comes in the same hub cycle as the write. -/
def readsToo (c : Instr) : Bool :=
  ((accessOf c).bind (fun a => a.also)).isSome

/-- What a read in the same hub cycle may change beside the write: pair shadows, and the fields that a read writes. -/
def readParts (c : Instr) : List Region :=
  if readsToo c then [.bus] else []

def readFields (c : Instr) : List Fld :=
  if readsToo c then [GSTAT.SNAP_STALE, SNT_IDX.IDX] else []

/-- What a write of one register with its own command may change, whoever writes and whatever the state. -/
def rowFootprint : Instr → Option (List Region × List Fld)
  | .go _ _ => some ([.bus, .emit], [MB_CTL.BUSY, MB_CTL.GO, MB_CTL.RDY, MB_CTL.RQ, MB_CTL.WIGN, MB_D.DATA])
  | .fetch _ _ => some ([.bus, .emit], [MB_CTL.BUSY, MB_CTL.GO, MB_CTL.RDY, MB_CTL.RQ, MB_CTL.WIGN, MB_D.DATA])
  | .sqTailWrite _ _ _ => some ([.emit], [RING_SQ.TAIL, RING_STAT.TAIL_ERR])
  | .cqHeadWrite _ _ _ => some ([.emit], [RING_CQ.HEAD, RING_STAT.HEAD_ERR])
  | .ringEnable _ _ _ => some ([.bus, .cmd, .emit], [RING_CFG.DB, RING_CFG.EN, RING_CFG.LOG2SZ, RING_CFG.SEC, RING_CFG.TELEM,
      RING_CQ.HEAD, RING_CQ.TAIL, RING_SQ.HEAD, RING_SQ.TAIL, RING_STAT.CFG_ERR, RING_STAT.OWED])
  | .ringDisable _ _ _ => some ([.bus, .cmd, .emit], [RING_CFG.DB, RING_CFG.EN, RING_CFG.LOG2SZ, RING_CFG.SEC,
      RING_CFG.TELEM, RING_CNT.LOST, RING_STAT.CFG_ERR, RING_STAT.OWED])
  | .transportMode _ _ => some ([.emit], [TRANSPORT.MODE, GSTAT.LOCK_IGN])
  | .permEffWrite _ _ _ => some ([.emit], [PERM.EFF, GSTAT.LOCK_IGN])
  | .peakClr _ => some ([.emit], [CAD_CTRL.PEAK_CLR, GSTAT.GO_BUSY])
  | .emAttClr _ _ => some ([.em, .emit], [EM_ATT_CTRL.CLR, EM_ATT_CTRL.CLR_ALL, EM_ATT_CTRL.CLR_PART, EM_ATT_CTRL.PAGE,
      GSTAT.GO_BUSY])
  | .arm _ _ => some ([.emit], [ENG_TR_CTRL.ARM, ENG_TR_CTRL.PAGE, GSTAT.GO_BUSY])
  | .rcClrErr _ => some ([.emit], [RC_CLR.ERR])
  | .pwSnap _ _ => some ([.emit], [PW_CTRL.SNAP, PW_STAT.PEND, GSTAT.GO_BUSY])
  | .flush _ _ => some ([.tasks, .emit], [LOG_CTRL.STOP, LOG_CTRL.MSG_REC, LOG_CTRL.MIN_SEV, LOG_CTRL.FLUSH, LOG_CTRL.PAGE,
      LOG_CTRL.WM, GSTAT.GO_BUSY])
  | .take _ _ => some ([.free, .tasks, .log, .emit], [Evt.st .FW_HSNAP, HS_CTRL.FROZEN, HS_CTRL.MISSED, HS_W.WORD] ++
      logFields)
  | .rearm _ _ => some ([.free, .tasks, .log, .emit], [Evt.st .FW_HSNAP, HS_CTRL.FROZEN, HS_CTRL.MISSED, HS_W.WORD] ++
      logFields)
  | .rcHb _ _ => some ([.bus, .mg, .rc, .tasks, .log, .emit], [Evt.st .RC_HB_RESUMED, OMB_STAT.DROP, OMB_STAT.QUEUED,
      RC_HB_CNT.REPEAT, RC_STAT.HB_AGE, RC_STAT.HB_ARMED, RC_STAT.LADDER, RC_STAT.MISSES] ++ logFields)
  | .sscApply _ => some ([.gl, .emit], [GL_CTRL.ALERT_PT, GL_CTRL.ALERT_HOLD, GL_CTRL.DONE_MARGIN, GL_CTRL.SSC_APPLY,
      GSTAT.GO_BUSY, GSTAT.LOCK_IGN])
  | .retrain _ => some ([.gl, .emit], [GL_CTRL.ALERT_PT, GL_CTRL.ALERT_HOLD, GL_CTRL.DONE_MARGIN, GL_CTRL.RETRAIN,
      GL_FAULT.FAULT, GL_STAT.LSTATE, GSTAT.GO_BUSY, GSTAT.LOCK_IGN])
  | _ => none

/-- The commands that set one lock bit. -/
def SetsLock : Instr → Prop
  | .lockCfg _ | .lockPerm _ | .lockTransport _ | .lockFw _ | .lockDiag _ => True
  | _ => False

/-- Any register write at the configuration port that has no command of its own. -/
def WritesWord (c : Instr) (off : Nat) : Prop :=
  ∃ v a, c = .registerWrite off v a ∨ c = .pairLoWrite off v a ∨ c = .pairHiWrite off v a

end Sys2Proof

open Sys2Proof Sys2Proof.Machine

/-! ### The machine as a whole -/

/-- O1.  A step takes the command at the front of the queue and runs it on the state with the queue's rest. -/
def Obligations.StepRunsFrontCommand : Prop :=
  ∀ (c : Instr) (q : List Instr) (s : State), s.pending = c :: q → Machine.step s = exec c (s.withPending q)

/-- O2.  Every command completes, and the queue is served first in, first out: a step on a queue with `c` in front answers a
next state whose queue is the rest, whatever `c` is; an empty queue stays empty and the state as it is (the model's own
choice, log entry 1). -/
def Obligations.QueueServedInOrder : Prop :=
  (∀ (c : Instr) (q : List Instr) (s : State), s.pending = c :: q → ∃ t, Machine.step s = .next t ∧ t.pending = q) ∧
    ∀ s : State, s.pending = [] → Machine.step s = .next s

/-- O3.  State.reset meets the invariant. -/
def Obligations.ResetMeetsInvariant : Prop :=
  State.reset.Inv

/-- O4.  Every step keeps the invariant: the stores of register fields keep their form, the event queue holds at most 64
events (R26) and the log's staging at most 256 records (R406). -/
def Obligations.StepKeepsInvariant : Prop :=
  ∀ s t : State, s.Inv → Machine.step s = .next t → t.Inv

/-- O5.  TICK advances by exactly one or not at all, and advances only with the commands that are ticks (TOOTH,
SYNTHESISED_TICK, RELOCK); POR alone returns it to 0 (R23). -/
def Obligations.TickAdvancesByOne : Prop :=
  ∀ (c : Instr) (s t : State), exec c s = .next t →
    (∃ x, c = .por x ∧ t.tick = 0) ∨
    ((∃ i, c = .tooth i ∨ c = .synthesisedTick i ∨ c = .relock i) ∧ (t.tick = s.tick ∨ t.tick = s.tick + 1)) ∨
    ((∀ x, c ≠ .por x) ∧ t.tick = s.tick)

/-- O6.  Lock bits are set-only: a command keeps every lock bit that is set, unless it starts a governor warm restart or is
POR, and then every lock bit clears (R13). -/
def Obligations.LockBitsOnlySet : Prop :=
  (∀ (c : Instr) (s t : State), exec c s = .next t → LocksKept s.locks t.locks ∨ (Restarts c ∧ t.locks = {})) ∧
  (∀ (s : State) (source detail : Nat), (s.beginRestart source detail).locks = {}) ∧
  (∀ (x : SelfTest) (s : State), Answers (.por x) s (fun t => t.locks = {}))

/-- O7.  What POR leaves: TICK 0, every lock bit clear (R13, R23), the meter macro and OTP untouched, no firmware entered;
and what reset leaves: the cadence period at 1,000 cycles, the permissions at the fixed mask (Table 13.4), the transport
mode MAILBOX, the telemetry period 10 ms, and every register field at the reset value its register table gives. -/
def Obligations.PorClears : Prop :=
  (∀ (x : SelfTest) (s : State), Answers (.por x) s (fun t => t.tick = 0 ∧ t.locks = {} ∧ t.mtr = s.mtr ∧
    t.fw.entered = false ∧ t.fw.otpDigest = s.fw.otpDigest ∧ t.fw.otpProvLock = s.fw.otpProvLock)) ∧
  State.reset.rd CAD_PERIOD.PERIOD 0 = 256000 ∧ (∀ n, State.reset.rd PERM.EFF n = fixedMask n) ∧
  State.reset.rd TRANSPORT.IN_FORCE 0 = 1 ∧ State.reset.rd DOM_CTRL.TELEM_MS 0 = 10 ∧
  (∀ (F : Fld) (n : Nat), State.reset.rd F n = F.reset n)

/-! ### Cold start and provisioning (chapter 17) -/

/-- O8.  OTP_PROGRAM writes its field while PROV_LOCK is clear, sets PROV_LOCK, and changes nothing in OTP once it is set
(R424). -/
def Obligations.ProvisioningLocks : Prop :=
  (∀ (d : Nat) (s : State), s.fw.otpProvLock = false →
    Answers (.otpProgram (.keyDigest d)) s (fun t => t.fw.otpDigest = some (d % 2 ^ 384))) ∧
  (∀ s : State, Answers (.otpProgram .provLock) s (fun t => t.fw.otpProvLock = true)) ∧
  (∀ (f : OtpField) (s : State), s.fw.otpProvLock = true → Answers (.otpProgram f) s (fun t => t = s.quiet))

/-- O9.  The boot ROM: without an image, or with BOOT_SRC 1 or 2, it waits with NO_FW set; an image that the image checks accept (R399) is
entered from slot A (R427); one that they refuse is reported with LOAD_REJ and NO_FW. -/
def Obligations.BootRomEntersOrWaits : Prop :=
  (∀ (f : Option (List Nat)) (s : State), s.fw.entered = false → s.fw.bootFail = false → s.rd FW_STAT.NO_FW = 0 →
    (f = none ∨ s.fw.otpBootSrc ≠ 0) →
    Answers (.bootFirmwareLoad f) s (fun t => t.rd FW_STAT.NO_FW = 1 ∧ t.fw.entered = false)) ∧
  (∀ (f : List Nat) (s : State), s.fw.entered = false → s.fw.bootFail = false → s.rd FW_STAT.NO_FW = 0 →
    s.fw.otpBootSrc = 0 → s.imageOk f = true →
    Answers (.bootFirmwareLoad (some f)) s (fun t => t.fw.entered = true ∧ t.rd FW_STAT.ACTIVE = 0 ∧
      t.rd FW_STAT.NO_FW = 0)) ∧
  (∀ (f : List Nat) (s : State), s.fw.entered = false → s.fw.bootFail = false → s.rd FW_STAT.NO_FW = 0 →
    s.fw.otpBootSrc = 0 → s.imageOk f = false →
    Answers (.bootFirmwareLoad (some f)) s (fun t => t.fw.entered = false ∧ t.rd FW_EVT.LOAD_REJ = 1 ∧
      t.rd FW_STAT.NO_FW = 1))

/-! ### Cadence (chapter 1) -/

/-- O10.  Before LOCKED every tooth becomes the tick (R16); while LOCKED the first tooth inside the window does (R18), and one
outside it is noise, counted, and no tick; without a tooth the tick is synthesised at E + W (R19).  On every tick, accepted
or synthesised, TICK advances by exactly one; it is 0 after POR and GOV_RST_N does not reset it (R23). -/
def Obligations.TeethAndSynthesis : Prop :=
  (∀ (i : TickIn) (s : State), s.rd CAD_STAT.LOCKED ≠ 1 →
    Answers (.tooth i) s (fun t => t.tick = s.tick + 1)) ∧
  (∀ (i : TickIn) (s : State), s.rd CAD_STAT.LOCKED = 1 → s.rd CAD_STAT.RELOCKING ≠ 1 → s.inWindow i.now = true →
    Answers (.tooth i) s (fun t => t.tick = s.tick + 1)) ∧
  (∀ (i : TickIn) (s : State), s.rd CAD_STAT.LOCKED = 1 → s.rd CAD_STAT.RELOCKING ≠ 1 → s.inWindow i.now = false →
    Answers (.tooth i) s (fun t => t.tick = s.tick ∧
      t.rd CAD_NOISE_CNT.NOISE = (s.rd CAD_NOISE_CNT.NOISE + 1) % 2 ^ CAD_NOISE_CNT.NOISE.width)) ∧
  (∀ (i : TickIn) (s : State), s.rd CAD_STAT.LOCKED = 1 → s.rd CAD_STAT.RELOCKING ≠ 1 →
    256 * i.now = s.cad.exp + s.period + s.halfWidth →
    Answers (.synthesisedTick i) s (fun t => t.tick = s.tick + 1)) ∧
  (∀ (i : TickIn) (s : State), s.rd CAD_STAT.RELOCKING = 1 → s.inRelock i.now = true →
    Answers (.relock i) s (fun t => t.tick = s.tick + 1)) ∧
  (∀ (s : State) (now : Nat), s.inWindow now = true ↔
    s.cad.exp + s.rd CAD_PERIOD.PERIOD ≤ 256 * now + 256 * (3 * s.rd CAD_PERIOD.PERIOD / 25600) ∧
    256 * now ≤ s.cad.exp + s.rd CAD_PERIOD.PERIOD + 256 * (3 * s.rd CAD_PERIOD.PERIOD / 25600)) ∧
  (∀ s : State, Answers .govRstNFall s (fun t => t.tick = s.tick)) ∧
  (∀ s : State, Answers .govRstNRise s (fun t => t.tick = s.tick)) ∧
  (∀ (x : SelfTest) (s : State), Answers (.por x) s (fun t => t.tick = 0))

/-- O11.  At the 64th tooth P is the time from the first to the 64th tooth divided by 63 and LOCKED is set (R16); when
SYNTH_RUN has reached 16, CADENCE_LOST is set and its event raised (R21). -/
def Obligations.LockAndLoss : Prop :=
  (∀ s : State, s.rd CAD_STAT.LOCKED ≠ 1 → 64 ≤ s.cad.teeth →
    Answers .locked s (fun t => t.rd CAD_STAT.LOCKED = 1 ∧
      t.rd CAD_PERIOD.PERIOD = 256 * (s.cad.tooth64 - s.cad.firstTooth) / 63 % 2 ^ CAD_PERIOD.PERIOD.width)) ∧
  (∀ s : State, s.cad.lostDue = true →
    Answers .cadenceLost s (fun t => t.rd CAD_STAT.CADENCE_LOST = 1 ∧ t.rd CAD_EVT.LOST = 1 ∧ t.cad.lostDue = false))

/-- O12.  The publish gate (R31): within 600 cycles the staged outputs become the published ones; at cycle 600 they are
discarded, the last published stay, a firmware overrun is counted, and the handler abandons the tick. -/
def Obligations.PublishGate : Prop :=
  (∀ (n : Nat) (s : State) (o : FwOut), s.hubRuns = true → s.rc.rstLow = false → s.cad.fwDone = false → n ≤ 600 →
    s.eng.staged = some o →
    Answers (.fwPublish n) s (fun t => t.eng.pub = o ∧ t.eng.staged = none ∧ t.cad.fwDone = true)) ∧
  (∀ s : State, s.hubRuns = true → s.fw.published = true → s.cad.fwDone = false →
    Answers .fwOverrun s (fun t => t.eng.pub = s.eng.pub ∧ t.eng.staged = none ∧ t.cad.fwDone = true ∧
      t.handlerTakes = false ∧
      t.rd CAD_OVERRUN.FW = (s.rd CAD_OVERRUN.FW + 1) % 2 ^ CAD_OVERRUN.FW.width))

/-! ### Domestique tasks (R34 to R38) -/

/-- O13.  A release starts a run with AGE 1 and all its slices, or merges into the pending run (R38); promotion (R34), overdue
(R35); the slice of DOM_SLICE is one of the task with the earliest deadline (R37), and there is none where the rest of the
slack does not hold it or another task is due. -/
def Obligations.DomestiqueRuns : Prop :=
  (∀ (n : Nat) (s : State), n < 10 → s.holdover = false → s.releasedNow n = true → s.taskPending n = false →
    Answers (.domRelease n) s (fun t => t.rd DOM_STAT.PENDING n = 1 ∧ t.rd DOM_STAT.PROMOTED n = 0 ∧
      t.rd DOM_AGE.AGE n = 1 ∧ (t.task n).left = slicesOf n)) ∧
  (∀ (n : Nat) (s : State), n < 10 → s.holdover = false → s.releasedNow n = true → s.taskPending n = true →
    Answers (.domRelease n) s (fun t => t.rd DOM_STAT.MERGED n = (s.rd DOM_STAT.MERGED n + 1) % 2 ^ DOM_STAT.MERGED.width ∧
      t.rd DOM_AGE.AGE n = s.rd DOM_AGE.AGE n)) ∧
  (∀ (n : Nat) (s : State), n < 10 → s.taskPending n = true → s.deadline n - s.deadline n / 4 ≤ s.rd DOM_AGE.AGE n →
    Answers (.domPromote n) s (fun t => t.rd DOM_STAT.PROMOTED n = 1)) ∧
  (∀ (n : Nat) (s : State), n < 10 → s.taskPending n = true → s.deadline n ≤ s.rd DOM_AGE.AGE n →
    (s.task n).overdue = false →
    Answers (.domOverdue n) s (fun t => t.rd CAD_EVT.OVERDUE = 1 ∧ (t.task n).overdue = true ∧
      t.rd DOM_STAT.OVERDUE n = (s.rd DOM_STAT.OVERDUE n + 1) % 2 ^ DOM_STAT.OVERDUE.width)) ∧
  (∀ (x : SliceIn) (s : State), s.hubRuns = true → s.slackHolds 5 = true → s.earliest s.taskPending = some 5 →
    (s.task 5).left = 1 →
    Answers (.domSlice 5 x) s (fun t => t.bus.telDue = true ∧ (t.task 5).left = 0 ∧ t.rd DOM_STAT.PENDING 5 = 0 ∧
      t.rd DOM_AGE.AGE 5 = 0)) ∧
  (∀ (x : SliceIn) (s : State), s.hubRuns = true → s.slackHolds 9 = true → s.earliest s.taskPending = some 9 →
    2 ≤ (s.task 9).left →
    Answers (.domSlice 9 x) s (fun t => t.emit = [.inject (4 - (s.task 9).left)] ∧ (t.task 9).left = (s.task 9).left - 1 ∧
      t.rd DOM_STAT.PENDING 9 = 1)) ∧
  (∀ (n : Nat) (x : SliceIn) (s : State), (s.slackHolds n = false ∨ s.earliest s.taskPending ≠ some n) →
    Answers (.domSlice n x) s (fun t => t = s.quiet))

/-! ### The spoke level (chapter 2) -/

/-- O14.  A comparator trips when the supply at its sense point lies below the sentinel reference by the threshold of
20 mV + 2.5 mV × THR (R43, R44), on an armed sentinel whose SENSE_EN has the point; units of 0.1 mV, the reference
being in 0.5 mV.  So at the mid-range trim code 32; each code away from it moves the level by 0.25 mV (R47). -/
def Obligations.ComparatorTrips : Prop :=
  (∀ (n k lvl : Nat) (s : State), k < 4 → s.armed n = true → (s.inf SNT_CFG.SENSE_EN n).testBit k = true →
    at0 (s.sent n).trims k = 32 →
    (s.trips n k lvl = true ↔
      lvl + 200 + 25 * min (s.inf SNT_CFG.THR n) 24 < 5 * s.reference (s.rd SWD_CFG.RG n))) ∧
  (∀ (n k lvl : Nat) (s : State), k < 4 → s.armed n = true → (s.inf SNT_CFG.SENSE_EN n).testBit k = true →
    (s.trips n k lvl = true ↔
      2 * (lvl + 200 + 25 * min (s.inf SNT_CFG.THR n) 24) + 160 <
        10 * s.reference (s.rd SWD_CFG.RG n) + 5 * at0 (s.sent n).trims k)) ∧
  (∀ (n k lvl : Nat) (s : State), (s.armed n = false ∨ (s.inf SNT_CFG.SENSE_EN n).testBit k = false) →
    s.trips n k lvl = false)

/-- O15.  Feather (R51, R50, R52): a rising edge of the trip signal from the unshaped clock starts at FSTEP and is counted; the
hold counts from the clearing of the signal; at its end, and after 16 cycles at each return step, the shaper moves one
step towards the unshaped clock.  In a cell whose divider is 8 it is counted and starts no feather (R57); the trip of an
injection does neither (R67). -/
def Obligations.FeatherSteps : Prop :=
  (∀ (n k lvl cyc : Nat) (s : State), n < 192 → s.trips n k lvl = true → s.injTrips n k lvl cyc = false →
    (s.sent n).switched k cyc = false → (s.sent n).trip = false → s.cellDiv n ≠ 3 → (s.sent n).step = 0 →
    Answers (.featherTrigger n k lvl cyc) s (fun t => (t.sent n).step = s.inf SNT_CFG.FSTEP n + 1 ∧
      (t.sent n).trip = true ∧ t.rd SNT_CNT.FTH_EVT n = (s.rd SNT_CNT.FTH_EVT n + 1) % 2 ^ SNT_CNT.FTH_EVT.width)) ∧
  (∀ (n k lvl cyc : Nat) (s : State), n < 192 → s.trips n k lvl = true → s.injTrips n k lvl cyc = false →
    (s.sent n).switched k cyc = false → (s.sent n).trip = false → s.cellDiv n = 3 →
    Answers (.featherTrigger n k lvl cyc) s (fun t => (t.sent n).step = (s.sent n).step ∧ (t.sent n).trip = true ∧
      t.rd SNT_CNT.FTH_EVT n = (s.rd SNT_CNT.FTH_EVT n + 1) % 2 ^ SNT_CNT.FTH_EVT.width)) ∧
  (∀ (n k lvl cyc : Nat) (s : State), n < 192 → s.injTrips n k lvl cyc = true →
    Answers (.featherTrigger n k lvl cyc) s (fun t => (t.sent n).injTrip = true ∧ (t.sent n).step = (s.sent n).step ∧
      (t.sent n).trip = (s.sent n).trip ∧ t.rd SNT_CNT.FTH_EVT n = s.rd SNT_CNT.FTH_EVT n)) ∧
  (∀ (n cyc : Nat) (s : State), n < 192 → (s.sent n).trip = true →
    Answers (.tripClear n cyc) s (fun t => (t.sent n).trip = false ∧ (t.sent n).mark = cyc ∧
      (t.sent n).step = (s.sent n).step)) ∧
  (∀ (n cyc : Nat) (s : State), n < 192 → (s.sent n).trip = false → 0 < (s.sent n).step → (s.sent n).returning = false →
    (s.sent n).mark + 16 * 2 ^ min (s.inf SNT_CFG.FHOLD n) 8 ≤ cyc →
    Answers (.featherHoldExpiry n cyc) s (fun t => (t.sent n).step = (s.sent n).step - 1)) ∧
  (∀ (n cyc : Nat) (s : State), n < 192 → (s.sent n).trip = false → (s.sent n).returning = true →
    (s.sent n).mark + 16 ≤ cyc →
    Answers (.featherReturnStep n cyc) s (fun t => (t.sent n).step = (s.sent n).step - 1))

/-- O16.  The brake (R55 to R59): two of the three copies divide the core clocks of every cell they reach by at least 8 and end
its feather, which is counted once per entry and raised; one copy does neither; a cell whose own copies differ brakes on
its own vote.  When the alert clears the quiet count starts from 0; a release step, once it can be taken, halves the
divider of the die and of the cells that braked alone, down to 1, which is raised; at any other time there is none. -/
def Obligations.BrakeAndRelease : Prop :=
  (∀ (v : AlertIn) (s : State), (v.v.a && v.v.b || v.v.a && v.v.c || v.v.b && v.v.c) = true → s.rd SPK_STAT.BRK_DIV ≠ 3 →
    Answers (.brake v) s (fun t => t.rd SPK_STAT.BRK_DIV = 3 ∧ t.rd SPK_STAT.BRAKE = 1 ∧ t.rd SPK_EVT.BRAKE = 1 ∧
      t.rd SPK_BRK_CNT.BRAKES = (s.rd SPK_BRK_CNT.BRAKES + 1) % 2 ^ SPK_BRK_CNT.BRAKES.width ∧ t.spk.voted = true ∧
      t.spk.quiet = 0 ∧ t.emit = [.brake 8] ∧
      ∀ n < 192, ownCopies v n = none → (t.sent n).step = 0 ∧ ∀ c < 64, t.bit CORE_GATE.GATE c n = false →
        8 ≤ t.coreRatio n c)) ∧
  (∀ (v : AlertIn) (s : State), (v.v.a && v.v.b || v.v.a && v.v.c || v.v.b && v.v.c) = true → s.rd SPK_STAT.BRK_DIV = 3 →
    Answers (.brake v) s (fun t => t.rd SPK_STAT.BRK_DIV = 3 ∧ t.rd SPK_BRK_CNT.BRAKES = s.rd SPK_BRK_CNT.BRAKES ∧
      t.spk.voted = true ∧ t.spk.quiet = 0 ∧ t.emit = [])) ∧
  (∀ (v : AlertIn) (s : State), (v.v.a && v.v.b || v.v.a && v.v.c || v.v.b && v.v.c) = false →
    Answers (.brake v) s (fun t => t.rd SPK_STAT.BRK_DIV = s.rd SPK_STAT.BRK_DIV ∧
      t.rd SPK_BRK_CNT.BRAKES = s.rd SPK_BRK_CNT.BRAKES ∧ t.spk.voted = s.spk.voted ∧ t.spk.quiet = s.spk.quiet ∧
      ∀ n < 192, ∀ w, ownCopies v n = some w →
        (vote w = true → t.cellDiv n = 3 ∧ ∀ c < 64, t.bit CORE_GATE.GATE c n = false → 8 ≤ t.coreRatio n c) ∧
        (vote w = false → t.cellDiv n = s.cellDiv n ∧ (t.sent n).step = (s.sent n).step))) ∧
  (∀ (v : AlertIn) (s : State), vote v.v = false → s.spk.voted = true →
    Answers (.vrAlertDeassert v) s (fun t => t.spk.voted = false ∧ t.spk.quiet = 0 ∧ t.spk.copies = v.v ∧
      t.rd SPK_STAT.BRK_DIV = s.rd SPK_STAT.BRK_DIV ∧ ∀ n < 192, ownCopies v n = none → (s.sent n).own = none →
        t.cellDiv n = s.cellDiv n)) ∧
  (∀ (v : AlertIn) (s : State), s.spk.voted = false →
    Answers (.vrAlertDeassert v) s (fun t => t.spk.voted = false ∧ t.spk.quiet = s.spk.quiet ∧ t.spk.copies = v.v ∧
      t.rd SPK_STAT.BRK_DIV = s.rd SPK_STAT.BRK_DIV)) ∧
  (∀ s : State, s.releaseReady = true → 2 ≤ s.rd SPK_STAT.BRK_DIV → s.rd SPK_STAT.BRK_DIV < 4 →
    Answers .brakeReleaseStep s (fun t => t.rd SPK_STAT.BRK_DIV = s.rd SPK_STAT.BRK_DIV - 1 ∧ t.spk.relAt = s.tick ∧
      t.rd SPK_STAT.BRAKE = s.rd SPK_STAT.BRAKE ∧ t.emit = [.brake (2 ^ (s.rd SPK_STAT.BRK_DIV - 1))])) ∧
  (∀ s : State, s.releaseReady = true → s.rd SPK_STAT.BRK_DIV = 1 →
    Answers .brakeReleaseStep s (fun t => t.rd SPK_STAT.BRK_DIV = 0 ∧ t.rd SPK_STAT.BRAKE = 0 ∧ t.spk.relAt = s.tick ∧
      t.rd SPK_EVT.BRK_RELEASED = 1 ∧ t.emit = [.brake 1])) ∧
  (∀ s : State, s.releaseReady = true →
    Answers .brakeReleaseStep s (fun t => ∀ n < 192, (s.sent n).toRelease s.spk.copies = true →
      (t.sent n).brk = (s.sent n).brk - 1)) ∧
  (∀ s : State, s.releaseReady = false → Answers .brakeReleaseStep s (fun t => t = s.quiet)) ∧
  (∀ s : State, s.releaseReady = true → s.spk.voted = false ∧ s.inf SPK_CTRL.BRK_QUIET ≤ s.spk.quiet ∧
    (s.rd SPK_STAT.BRK_DIV = 3 ∨ s.spk.relAt + s.inf SPK_CTRL.BRK_STEP ≤ s.tick))

/-- O17.  Frames of the spoke buses (R71, R72): a good frame with the sentinel's cluster counting forms the deltas modulo 2^20
and clears the run of failures; a failed or missing frame counts; three failures in a row mark the activity unknown.  A
frame in which the bus gets no bit wrong is a good one. -/
def Obligations.SpokeFrames : Prop :=
  (∀ (n : Nat) (act : List Nat) (s : State), ∃ ws, s.received n act (some []) = some ws ∧ frameOk ws = true) ∧
  (∀ (n : Nat) (act ws : List Nat) (err : Option (List Nat)) (s : State), s.sentinelPresent n = true →
    s.received n act err = some ws → frameOk ws = true →
    Answers (.spokeFrame n { act := act, err := err }) s (fun t => (t.sent n).miss = 0 ∧ (t.sent n).good = true ∧ (t.sent n).unknown = false ∧
      (t.sent n).act = frameActivity ws ∧
      ((bits 15 8 (at0 ws 0) = dON ∨ bits 15 8 (at0 ws 0) = dDRAIN) → (s.sent n).seenFrame = true →
        (s.sent n).unknown = false → (s.sent n).stand = [] → ∀ k < 16, at0 (t.sent n).delta k =
          (at0 (frameActivity ws) k + 2 ^ 20 - at0 (s.sent n).act k) % 2 ^ 20))) ∧
  (∀ (n : Nat) (act : List Nat) (err : Option (List Nat)) (s : State), s.sentinelPresent n = true →
    (∀ ws, s.received n act err = some ws → frameOk ws = false) →
    Answers (.spokeFrame n { act := act, err := err }) s (fun t => (t.sent n).miss = (s.sent n).miss + 1 ∧ (t.sent n).good = false ∧
      t.rd SPK_BUS_ERR.FRAMES = (s.rd SPK_BUS_ERR.FRAMES + 1) % 2 ^ SPK_BUS_ERR.FRAMES.width)) ∧
  (∀ (n : Nat) (s : State), n < 192 → 3 ≤ (s.sent n).miss → (s.sent n).unknown = false →
    Answers (.spokeFault n) s (fun t => (t.sent n).unknown = true ∧ t.rd SPK_EVT.SPOKE_FAULT = 1 ∧
      t.rd EM_EVT.UNKNOWN = 1))

/-! ### The rim level (chapter 3) -/

/-- O18.  A sub-tick (R436) stores each group's IMON code and judges the coolant input, known low at the second low sample in a
row (R92); a tick holds ten of them, and an eleventh changes nothing. -/
def Obligations.SubtickSamples : Prop :=
  (∀ (codes src : List Nat) (low : Bool) (s : State), s.rim.sub < 10 →
    Answers (.subtick { codes := codes, src := src } low) s (fun t => t.rim.sub = s.rim.sub + 1 ∧ t.rim.now = s.rim.now + 1 ∧
      (∀ g < 12, t.rd RG_STAT.IMON_CODE g = at0 codes g % 1024) ∧
      t.rd RIM_STAT.COOL_FAULT = (if low = true ∧ 1 ≤ s.rim.lowRun then 1 else 0))) ∧
  (∀ (codes src : List Nat) (low : Bool) (s : State), 10 ≤ s.rim.sub →
    Answers (.subtick { codes := codes, src := src } low) s (fun t => t = s.quiet))

/-- O19.  A ceiling whose rise is due rises one level and is released (0xFF) above the level the hub requests (R85); an input
turns invalid at ten codes in a row at a rail and valid after 1,000 in range (R80). -/
def Obligations.CeilingsAndInputs : Prop :=
  (∀ (g : Nat) (s : State), g < 12 → (s.grp g).riseDue = true → s.rd RG_STAT.CEIL g < 255 →
    s.bit RIM_STAT.OVER g = false → (s.sample g (s.rd RG_STAT.IMON_CODE g)).isSome = true →
    Answers (.ceilRise g) s (fun t => (t.grp g).riseDue = false ∧
      t.rd RG_STAT.CEIL g = if s.hubRequest g < s.rd RG_STAT.CEIL g + 1 then 255 else s.rd RG_STAT.CEIL g + 1)) ∧
  (∀ (g : Nat) (s : State), g < 12 → (s.grp g).valid = true → (10 ≤ (s.grp g).low ∨ 10 ≤ (s.grp g).high) →
    Answers (.imonFault g) s (fun t => (t.grp g).valid = false ∧ t.rd RG_STAT.IMON_FAULT g = 1 ∧
      t.rd RIM_EVT.IMON_FAULT = 1)) ∧
  (∀ (g : Nat) (s : State), g < 12 → (s.grp g).valid = false → 1000 ≤ (s.grp g).good →
    Answers (.imonValid g) s (fun t => (t.grp g).valid = true ∧ t.rd RG_STAT.IMON_FAULT g = 0))

/-- O20.  A domain's way up (R87 to R90, Table 3.3): the event's request, the ramp once token and slot are had (a wait for a
slot otherwise), SETTLE after 20 sub-ticks and ON after 5 more with power good, forced off without. -/
def Obligations.DomainRampsUp : Prop :=
  (∀ (e : QEvent) (n : Nat) (id : Option Nat) (s : State), firstDue s.cad.queue = some e → e.act = .domains n 1 true id →
    s.present n = true → s.onRefusal n = none → s.dstate n = dOFF → s.rd SWD_STAT.PEND n = 0 →
    (s.dom n).backoff = none →
    Answers .domainRampEvent s (fun t => t.rd SWD_STAT.PEND n = 1 ∧ (t.dom n).bound = s.tick ∧
      t.cad.queue = removeEvent e s.cad.queue)) ∧
  (∀ (n : Nat) (s : State), s.atBoundary = true → s.present n = true → s.dstate n = dOFF → s.rd SWD_STAT.PEND n = 1 →
    s.offElapsed n = true → (s.dom n).bound ≤ s.tick → (s.dom n).backoff = none → (isCluster n && s.inhibited) = false →
    s.tokenFree n = true → (s.takeToken n).slotFree n = true →
    Answers (.rampUpStart n) s (fun t => t.dstate n = dUP ∧ t.rd SWD_STAT.PEND n = 0 ∧ (t.dom n).slot = true ∧
      (t.dom n).since = s.rim.now)) ∧
  (∀ (n : Nat) (s : State), s.atBoundary = true → s.present n = true → s.dstate n = dOFF → s.rd SWD_STAT.PEND n = 1 →
    s.offElapsed n = true → (s.dom n).bound ≤ s.tick → (s.dom n).backoff = none → (isCluster n && s.inhibited) = false →
    s.tokenFree n = true → (s.takeToken n).slotFree n = false →
    Answers (.rampUpStart n) s (fun t => t.dstate n = dOFF ∧ t.rd SWD_STAT.PEND n = 1 ∧ t.rd SWD_STAT.WAIT_SLOT n = 1)) ∧
  (∀ (n : Nat) (s : State), n < 248 → s.dstate n = dUP → (s.dom n).since + 20 ≤ s.rim.now → n ∉ s.rim.forcing →
    Answers (.rampUpEnd n) s (fun t => t.dstate n = dSETTLE ∧ (t.dom n).slot = false ∧ (t.dom n).since = s.rim.now)) ∧
  (∀ (n : Nat) (s : State), n < 248 → s.dstate n = dSETTLE → (s.dom n).since + 5 ≤ s.rim.now → n ∉ s.rim.forcing →
    Answers (.settleEnd n true) s (fun t => t.dstate n = dON ∧ t.rd SWD_STAT.FORCED n = 0 ∧
      t.rd SWD_STAT.ONS n = (s.rd SWD_STAT.ONS n + 1) % 2 ^ SWD_STAT.ONS.width)) ∧
  (∀ (n : Nat) (s : State), n < 248 → s.dstate n = dSETTLE → (s.dom n).since + 5 ≤ s.rim.now → n ∉ s.rim.forcing →
    Answers (.settleEnd n false) s (fun t => t.rd SWD_STAT.FORCED n = 1 ∧ n ∈ t.rim.forcing ∧
      t.rd RIM_EVT.RAMP_FAULT = 1))

/-- O21.  A domain's way down (R89, R90): DRAIN with its agent told to quiesce, the clock gated after one tick, RAMP_DOWN in a
free slot (a wait otherwise), OFF after 20 sub-ticks with the off timer started. -/
def Obligations.DomainRampsDown : Prop :=
  (∀ (n : Nat) (s : State), n < 248 → s.atBoundary = true → s.dstate n = dON → s.rd SWD_STAT.PEND n = 2 →
    (s.dom n).bound ≤ s.tick →
    Answers (.drainStart n) s (fun t => t.dstate n = dDRAIN ∧ t.rd SWD_STAT.PEND n = 0 ∧ t.emit = [.quiesce n])) ∧
  (∀ (n : Nat) (s : State), n < 248 → s.dstate n = dDRAIN → (s.dom n).since + 10 ≤ s.rim.now → n ∉ s.rim.forcing →
    (s.dom n).gated = false →
    Answers (.drainEnd n) s (fun t => (t.dom n).gated = true ∧ t.dstate n = dDRAIN)) ∧
  (∀ (n : Nat) (s : State), n < 248 → s.dstate n = dDRAIN → (s.dom n).gated = true → (s.dom n).wave = false →
    (s.dom n).since + 10 ≤ s.rim.now → n ∉ s.rim.forcing → s.slotFree n = true →
    Answers (.rampDownStart n) s (fun t => t.dstate n = dDOWN ∧ (t.dom n).slot = true ∧ t.rd SWD_STAT.WAIT_SLOT n = 0)) ∧
  (∀ (n : Nat) (s : State), n < 248 → s.dstate n = dDRAIN → (s.dom n).gated = true → (s.dom n).wave = false →
    (s.dom n).since + 10 ≤ s.rim.now → n ∉ s.rim.forcing → s.slotFree n = false →
    Answers (.rampDownStart n) s (fun t => t.dstate n = dDRAIN ∧ t.rd SWD_STAT.WAIT_SLOT n = 1)) ∧
  (∀ (n : Nat) (s : State), n < 248 → s.dstate n = dDOWN → (s.dom n).since + 20 ≤ s.rim.now → n ∉ s.rim.forcing →
    Answers (.rampDownEnd n) s (fun t => t.dstate n = dOFF ∧ t.rd SWD_STAT.MINOFF n = 1 ∧ (t.dom n).slot = false ∧
      (t.dom n).since = s.rim.now))

/-- O22.  The coolant stop is latched and counted and drops a Rest request (R92, R98); a stack confirms self-refresh or faults at its
deadline (R92, R94, R417); FLOW_GOOD_1S sets when FLOW_GOOD_TICKS has reached 1,000,000 (R93). -/
def Obligations.CoolantStop : Prop :=
  (∀ s : State, 2 ≤ s.rim.lowRun → s.rd RIM_STAT.COOL_STOP ≠ 1 →
    Answers .coolStop s (fun t => t.rd RIM_STAT.COOL_STOP = 1 ∧ t.rd RIM_EVT.COOL_STOP = 1 ∧ t.rim.restHeld = none ∧
      t.rd COOL_CNT.STOPS = (s.rd COOL_CNT.STOPS + 1) % 2 ^ COOL_CNT.STOPS.width ∧
      ∀ n < 232, s.present n = true → (isCluster n || isLink n) = true → s.dstate n = dON → t.rd SWD_STAT.FORCED n = 1)) ∧
  (∀ (j : Nat) (s : State), j < 8 → (s.stk j).asked = true →
    Answers (.selfRefreshAck j) s (fun t => (t.stk j).confirmed = true)) ∧
  (∀ (j d : Nat) (s : State), j < 8 → (s.stk j).asked = true → (s.stk j).confirmed = false → (s.stk j).deadline = some d →
    d ≤ s.rim.now → Answers (.srFault j) s (fun t => (t.stk j).deadline = none ∧ t.rd RIM_EVT.SR_FAULT = 1)) ∧
  (∀ s : State, 1000000 ≤ s.rd FLOW_GOOD_TICKS.TICKS → s.rd RIM_STAT.FLOW_GOOD_1S ≠ 1 →
    Answers .flowGood1s s (fun t => t.rd RIM_STAT.FLOW_GOOD_1S = 1 ∧ t.rim.flowSeen = true))

/-- O23.  Rest (R94 to R96): entry with its waves at 1, 3, 5, 7 and 9 µs and REST at 12 µs; wake with its eighteen waves and
RUN at 40 µs, later by the deferrals, of which the first wave meets one where the tick is synthesised. -/
def Obligations.RestWaves : Prop :=
  (∀ s : State, s.atBoundary = true → s.rim.restHeld = some true → s.rd RIM_STAT.REST_STATE = 0 → s.rim.forcing = [] →
    (∀ n ∈ s.clusters, s.dstate n = dON ∨ s.dstate n = dOFF) →
    Answers .restEntryStart s (fun t => t.rd RIM_STAT.REST_STATE = 1 ∧ t.rim.restHeld = none ∧ t.rim.restAt = s.tick ∧
      t.rim.nextWave = 1 ∧ ∀ n ∈ s.clusters, s.dstate n = dON → t.dstate n = dDRAIN ∧ t.inWakeSet n = true)) ∧
  (∀ (k : Nat) (s : State), s.rd RIM_STAT.REST_STATE = 1 → k = s.rim.nextWave → 1 ≤ k → k ≤ 5 →
    s.rim.restAt + 2 * k - 1 ≤ s.tick →
    Answers (.restEntryWave k) s (fun t => t.rim.nextWave = k + 1 ∧
      ∀ n ∈ s.entryWave k, k ≠ 5 → s.dstate n = dDRAIN → (s.dom n).wave = true → t.dstate n = dDOWN)) ∧
  (∀ s : State, s.rd RIM_STAT.REST_STATE = 1 → s.rim.nextWave = 6 → s.rim.restAt + 12 ≤ s.tick →
    Answers .restEntered s (fun t => t.rd RIM_STAT.REST_STATE = 2 ∧ t.rd RIM_EVT.REST_ENTERED = 1)) ∧
  (∀ s : State, s.atBoundary = true → s.rd RIM_STAT.REST_STATE = 2 → s.rim.restHeld = some false → s.rim.coolRest = false →
    s.rd CAD_STAT.LAST_SYNTH = 0 → (∀ n ∈ s.clusters, s.inWakeSet n = true → s.dstate n = dOFF ∧ s.offElapsed n = true) →
    Answers .restWakeStart s (fun t => t.rd RIM_STAT.REST_STATE = 3 ∧ t.rim.restHeld = none ∧ t.rim.restAt = s.tick ∧
      t.rim.nextWave = 1 ∧ t.rim.wakeList = s.wakeOrder)) ∧
  (∀ s : State, s.atBoundary = true → s.rd RIM_STAT.REST_STATE = 2 → s.rim.restHeld = some false → s.rim.coolRest = false →
    s.rd CAD_STAT.LAST_SYNTH = 1 → (∀ n ∈ s.clusters, s.inWakeSet n = true → s.dstate n = dOFF ∧ s.offElapsed n = true) →
    Answers .restWakeStart s (fun t => t.rd RIM_STAT.REST_STATE = 3 ∧ t.rim.restHeld = none ∧ t.rim.restAt = s.tick ∧
      t.rim.nextWave = 0 ∧ t.rim.shift = 1 ∧ t.rim.wakeList = s.wakeOrder)) ∧
  (∀ (k : Nat) (s : State), s.rd RIM_STAT.REST_STATE = 3 → k = s.rim.nextWave → k ≤ 17 →
    s.rim.restAt + 2 * k + s.rim.shift ≤ s.tick →
    Answers (.restWakeWave k) s (fun t => t.rim.nextWave = k + 1 ∧
      ∀ n < 192, n ∈ waveMembers s.rim.wakeList k → s.inWakeSet n = true → s.dstate n = dOFF → t.dstate n = dUP)) ∧
  (∀ s : State, s.rd RIM_STAT.REST_STATE = 3 → 18 ≤ s.rim.nextWave → s.rim.restAt + 40 + s.rim.shift ≤ s.tick →
    Answers .restExited s (fun t => t.rd RIM_STAT.REST_STATE = 0 ∧ t.rd RIM_EVT.REST_EXITED = 1))

/-! ### The Gleub link (chapter 4) -/

/-- O24.  Acknowledgements (R110 to R112): an ACK with the last SEQ ends the attempt, or brings the SETV of the return that waited
for it; a missing one counts and the frame, SETV or SSC, is sent again up to three attempts, then the link faults; a NAK
with REASON 0 is a failed attempt, one with another REASON an event; DONE stores the confirmed code, and a late link is
asked for it. -/
def Obligations.VoltageAcknowledgements : Prop :=
  (∀ (n w : Nat) (s : State), n < 24 → s.heard n w 8 = true → bits 27 24 w = 1 → (s.lnk n).setv.isSome = true →
    bits 23 22 w = s.rd GL_STAT.SEQ n → (s.lnk n).giveBack = false →
    ((s.vgrp (s.rd GL_CFG.RG n)).rejected = false ∨ (s.vgrp (s.rd GL_CFG.RG n)).back = true) →
    Answers (.ack n w) s (fun t => (t.lnk n).setv = none ∧ (t.lnk n).acked = true)) ∧
  (∀ (n w : Nat) (s : State), n < 24 → s.heard n w 8 = true → bits 27 24 w = 1 → (s.lnk n).setv.isSome = true →
    bits 23 22 w = s.rd GL_STAT.SEQ n → (s.lnk n).giveBack = true →
    Answers (.ack n w) s (fun t => (t.lnk n).setv.isSome = true ∧ (t.lnk n).acked = false ∧
      t.rd GL_STAT.VREQ n = (s.vgrp (s.rd GL_CFG.RG n)).target % 2 ^ GL_STAT.VREQ.width)) ∧
  (∀ (n : Nat) (a : Await) (s : State), n < 24 → (s.lnk n).setv = some a → (s.lnk n).waits = false → a.tries < 3 →
    s.up n = true → (0 < a.tries ∨ s.holdover = false) →
    Answers (.ackTimeout { link := n }) s (fun t => (t.lnk n).setv = some { a with tries := a.tries + 1 } ∧
      t.emit = [.frame n a.frame] ∧ t.rd GL_ERR.NOACK n = (s.rd GL_ERR.NOACK n + 1) % 2 ^ GL_ERR.NOACK.width)) ∧
  (∀ (n f : Nat) (q : List Nat) (s : State), n < 24 → (s.lnk n).ssc = f :: q → (s.lnk n).sscWaits = false →
    (s.lnk n).sscTries < 3 → s.maySend n = true →
    Answers (.ackTimeout { link := n, ssc := true }) s (fun t => (t.lnk n).ssc = f :: q ∧ (t.lnk n).sscTries = (s.lnk n).sscTries + 1 ∧
      t.emit = [.frame n f] ∧ t.rd GL_ERR.NOACK n = (s.rd GL_ERR.NOACK n + 1) % 2 ^ GL_ERR.NOACK.width)) ∧
  (∀ (n : Nat) (a : Await) (s : State), n < 24 → (s.lnk n).setv = some a → (s.lnk n).waits = false → 3 ≤ a.tries →
    Answers (.ackTimeout { link := n }) s (fun t => t.rd GL_STAT.LSTATE n = 4 ∧ t.rd GL_EVT.LINK_FAULT = 1)) ∧
  (∀ (n : Nat) (s : State), n < 24 → (s.lnk n).ssc ≠ [] → (s.lnk n).sscWaits = false → 3 ≤ (s.lnk n).sscTries →
    Answers (.ackTimeout { link := n, ssc := true }) s (fun t => t.rd GL_STAT.LSTATE n = 4 ∧ t.rd GL_EVT.LINK_FAULT = 1)) ∧
  (∀ (n w : Nat) (a : Await) (s : State), n < 24 → s.heard n w 0xC = true → bits 27 24 w = 1 → bits 21 18 w = 0 →
    bits 23 22 w = s.rd GL_STAT.SEQ n → (s.lnk n).setv = some a → (s.lnk n).waits = false → a.tries < 3 →
    s.up n = true → (0 < a.tries ∨ s.holdover = false) →
    Answers (.nak n w) s (fun t => (t.lnk n).setv = some { a with tries := a.tries + 1 } ∧
      t.rd GL_ERR.NAK n = (s.rd GL_ERR.NAK n + 1) % 2 ^ GL_ERR.NAK.width ∧
      t.rd GL_ERR.NOACK n = (s.rd GL_ERR.NOACK n + 1) % 2 ^ GL_ERR.NOACK.width)) ∧
  (∀ (n w : Nat) (s : State), n < 24 → s.heard n w 0xC = true → bits 27 24 w = 1 → bits 21 18 w ≠ 0 →
    bits 23 22 w = s.rd GL_STAT.SEQ n → (s.lnk n).setv.isSome = true →
    Answers (.nak n w) s (fun t => t.rd GL_EVT.NAK = 1 ∧
      t.rd GL_ERR.NAK n = (s.rd GL_ERR.NAK n + 1) % 2 ^ GL_ERR.NAK.width ∧
      t.rd GL_ERR.NOACK n = s.rd GL_ERR.NOACK n)) ∧
  (∀ (n w : Nat) (s : State), n < 24 → s.heard n w 9 = true → bits 27 26 w = s.rd GL_STAT.SEQ n →
    Answers (.done n w) s (fun t => t.rd GL_STAT.VDONE n = bits 25 15 w ∧ (t.lnk n).bad = 0)) ∧
  (∀ (n : Nat) (s : State), n < 24 → (s.vgrp (s.rd GL_CFG.RG n)).out = true → s.rd GL_STAT.OUTSTANDING n = 1 →
    (s.lnk n).done = false → (s.lnk n).late = false → (s.vgrp (s.rd GL_CFG.RG n)).deadline ≤ s.tick →
    Answers (.doneDeadline n) s (fun t => t.rd GL_EVT.DONE_LATE = 1 ∧ .frame n (queryFrame 3) ∈ t.emit ∧
      t.rd GL_ERR.DONE_LATE n = (s.rd GL_ERR.DONE_LATE n + 1) % 2 ^ GL_ERR.DONE_LATE.width))

/-- O25.  Telemetry is stored by its SEL (R117); a source that does not report within 10 ticks of a brake makes the alert
unknown (R123); its ceiling is removed ALERT_HOLD ms after the release (R124); a WARN sets the link's bit; a bad frame is
discarded and counted (R105). -/
def Obligations.TelemetryAndAlert : Prop :=
  (∀ (n w : Nat) (late : Bool) (s : State), n < 24 → s.heard n w 0xA = true → bits 27 25 w = 0 →
    Answers (.telem n w late) s (fun t => t.rd GL_TEL0.I_SUM n = min (bits 24 8 w) 0xFFFF ∧
      ((t.lnk n).stale = true ↔ late = true ∨ 4 ≤ (s.lnk n).iAge))) ∧
  (∀ (n w : Nat) (late : Bool) (s : State), n < 24 → s.heard n w 0xA = true → bits 27 25 w = 1 →
    Answers (.telem n w late) s (fun t => t.rd GL_TEL0.TEMP n = bits 23 8 w)) ∧
  (∀ (n w : Nat) (late : Bool) (s : State), n < 24 → s.heard n w 0xA = true → bits 27 25 w = 2 →
    Answers (.telem n w late) s (fun t => t.rd GL_TEL1.VIN n = bits 24 8 w % 2 ^ GL_TEL1.VIN.width)) ∧
  (∀ s : State, s.gl.alert.active = true → s.gl.alert.sources = [] → s.gl.alert.unknown = false →
    s.gl.alert.asked + 10 ≤ s.tick → s.spk.respond = false →
    Answers .alertSourceTimeout s (fun t => t.gl.alert.unknown = true ∧ t.rd GL_EVT.ALERT_UNKNOWN = 1)) ∧
  (∀ (at' : Nat) (s : State), s.gl.alert.released = some at' → s.gl.alert.active = true →
    at' + 1000 * s.inf GL_CTRL.ALERT_HOLD ≤ s.tick → s.rd SPK_STAT.BRK_DIV ≠ 3 →
    Answers .alertHoldExpiry s (fun t => t.gl.alert.active = false ∧ ∀ k, t.alertOn k = false)) ∧
  (∀ (n w : Nat) (s : State), n < 24 → s.heard n w 0xB = true →
    (bits 27 26 w = 1 → Answers (.warn n w) s (fun t => t.rd GL_STAT.WARN n = 1 ∧ t.rd GL_EVT.WARN = 1 ∧
      t.rd GL_TEL0.TEMP n = bits 23 8 w)) ∧
    (bits 27 26 w = 0 → Answers (.warn n w) s (fun t => t.rd GL_STAT.WARN n = 0))) ∧
  (∀ (n w : Nat) (s : State), n < 24 → s.rd GL_CFG.PRESENT n = 1 → frameGood w = false →
    Answers (.receiveError n w) s (fun t => (t.lnk n).bad = (s.lnk n).bad + 1 ∧ t.rd GL_EVT.RXERR = 1 ∧
      t.rd GL_ERR.RXERR n = (s.rd GL_ERR.RXERR n + 1) % 2 ^ GL_ERR.RXERR.width))

/-- O26.  Link states (R102, R114): training picks the middle of the longest run of four or more passing phases and faults
below four, or on a missing reply; SUSPECT after two failed slots in a row, UP again after eight good ones, FAULT after
eight failed; a FAULT link trains again after 100,000 ticks. -/
def Obligations.LinkStates : Prop :=
  (∀ (n : Nat) (pass : List Bool) (s : State), n < 24 → s.rd GL_STAT.LSTATE n = 1 → (s.lnk n).training = true →
    4 ≤ (longestRun (pass.take 16) 0 (0, 0) (0, 0)).2 →
    Answers (.trainDone n pass) s (fun t => (t.lnk n).training = false ∧ t.rd GL_STAT.LSTATE n = 1 ∧
      t.rd GL_CFG.SMP_PH n = ((longestRun (pass.take 16) 0 (0, 0) (0, 0)).1 +
        ((longestRun (pass.take 16) 0 (0, 0) (0, 0)).2 - 1) / 2) % 2 ^ GL_CFG.SMP_PH.width)) ∧
  (∀ (n : Nat) (pass : List Bool) (s : State), n < 24 → s.rd GL_STAT.LSTATE n = 1 → (s.lnk n).training = true →
    (longestRun (pass.take 16) 0 (0, 0) (0, 0)).2 < 4 →
    Answers (.trainDone n pass) s (fun t => t.rd GL_STAT.LSTATE n = 4 ∧ t.rd GL_EVT.LINK_FAULT = 1)) ∧
  (∀ (n : Nat) (s : State), n < 24 → s.rd GL_STAT.LSTATE n = 1 → (s.lnk n).query ≠ [] →
    Answers (.queryTimeout n) s (fun t => t.rd GL_STAT.LSTATE n = 4 ∧ t.rd GL_EVT.LINK_FAULT = 1)) ∧
  (∀ (n : Nat) (s : State), n < 24 → s.rd GL_STAT.LSTATE n = 2 → 2 ≤ (s.lnk n).bad →
    Answers (.linkSuspect n) s (fun t => t.rd GL_STAT.LSTATE n = 3 ∧ (t.lnk n).bad = 0)) ∧
  (∀ (n : Nat) (s : State), n < 24 → s.rd GL_STAT.LSTATE n = 3 → 8 ≤ (s.lnk n).good →
    Answers (.linkRecover n) s (fun t => t.rd GL_STAT.LSTATE n = 2 ∧ (t.lnk n).bad = 0)) ∧
  (∀ (n : Nat) (s : State), n < 24 → s.rd GL_STAT.LSTATE n = 3 → 8 ≤ (s.lnk n).bad →
    Answers (.linkFault n) s (fun t => t.rd GL_STAT.LSTATE n = 4 ∧ t.rd GL_EVT.LINK_FAULT = 1)) ∧
  (∀ (n : Nat) (s : State), n < 24 → s.rd GL_STAT.LSTATE n = 4 → (s.lnk n).faultAt + 100000 ≤ s.tick →
    Answers (.faultRetrain n) s (fun t => t.rd GL_STAT.LSTATE n = 1 ∧ (t.lnk n).training = true))

/-! ### Temperature and margins (chapters 7 and 10) -/

/-- O27.  Conversions (R192 to R196): of the channel whose turn it is, a diode conversion stores the series resistance and the
mean of the last four raw values, a thermistor conversion the mean of its interpolated ones, from readings with the
path's gain and offset (R198; how they enter is the model's choice, log entry 113), which a gain of 1 and an offset of 0
leave as they are; the drift check makes a channel that has differed from its estimate in 1,000 checks invalid (R199,
R200). -/
def Obligations.Conversions : Prop :=
  (∀ (n : Nat) (d : DiodeIn) (s : State), s.nextChannel diodeOrder s.th.diodeAt = some n →
    (s.chan n).calibrated d.vbeHi ≤ 950 → 150 ≤ (s.chan n).calibrated d.vbeLo →
    Answers (.diodeConversion n d) s (fun t =>
      t.rd TH_CHSTAT.RS n = diodeRs ((s.chan n).scaled d.dv1) ((s.chan n).scaled d.dv2) % 2 ^ TH_CHSTAT.RS.width ∧
      t.rd TH_VAL.VALUE n = valueAfter s n
        (diodeRaw ((s.chan n).scaled d.dv1) ((s.chan n).scaled d.dv2) (s.inf TH_CAL.IDEAL n) + s.infS TH_CAL.OFFSET n) ∧
      t.th.diodeAt = n)) ∧
  (∀ (n q r : Nat) (s : State), s.nextChannel thermOrder s.th.thermAt = some n → (s.chan n).calibrated q = r →
    536 < r → r < 65000 →
    Answers (.thermistorConversion n q) s (fun t => t.th.thermAt = n ∧ t.rd TH_VAL.VALUE n =
      valueAfter s n (interpolate (Table.get [] s.th.tables n) r + s.infS TH_CAL.OFFSET n))) ∧
  (∀ (n q : Nat) (d : DiodeIn) (s : State),
    (s.nextChannel diodeOrder s.th.diodeAt ≠ some n → Answers (.diodeConversion n d) s (fun t => t = s.quiet)) ∧
    (s.nextChannel thermOrder s.th.thermAt ≠ some n → Answers (.thermistorConversion n q) s (fun t => t = s.quiet))) ∧
  (∀ (c : Chan) (v : Int), c.corr = 0 → c.zero = 0 → c.calibrated v = v) ∧
  (∀ s : State, s.tick % 1000 = 0 → s.th.checked ≠ some s.tick → s.engineRuns = true →
    Answers .driftCheck s (fun t => t.th.checked = some s.tick ∧
      ∀ n < 25, s.chanOn n = true → s.mapped n = true → s.rd TH_CHSTAT.CALIB n ≠ 1 → (s.chan n).above = 999 →
        s.rd TH_CHSTAT.DRIFT n ≠ 1 →
        4 * s.inf TH_CTRL2.DRIFT_LIM < (s.rdS TH_VAL.VALUE n - s.rdS TH_VAL.EST n).natAbs →
        t.rd TH_CHSTAT.DRIFT n = 1 ∧ t.rd TH_CHSTAT.VALID n = 0))

/-- O28.  The thermal stop forces the ON clusters of the channel's sectors off and ends the on requests of those in OFF (R204); a regulator warning drops a further
step every VRW_MS ms and is removed 100 ms after it cleared (R206). -/
def Obligations.ThermalActions : Prop :=
  (∀ (n : Nat) (s : State), n < 25 → s.chanOn n = true → s.rd TH_CHSTAT.HIGH_STOP n = 1 → s.inf TH_CFG.STOP_ACT n ≠ 0 →
    (s.chan n).stopAt + 1000 * s.inf TH_CTRL.STOP_MS ≤ s.tick → (s.chan n).stopped = false → s.holdover = false →
    Answers (.thermalStop n) s (fun t => (t.chan n).stopped = true ∧
      ∀ d ∈ s.clusters, s.chanSector n (s.rd SWD_CFG.RG d) = true → d ∉ s.rim.forcing →
        (s.dstate d = dON → t.rd SWD_STAT.FORCED d = 1 ∧ (t.dom d).gated = true) ∧
        (s.dstate d = dOFF → s.rd SWD_STAT.PEND d = 1 → t.rd SWD_STAT.PEND d = 0))) ∧
  (∀ (g : Nat) (v : Vrw) (s : State), g < 12 → s.vrw g = some v → v.clr = none → v.next ≤ s.tick →
    Answers (.vrwDrop g) s (fun t =>
      t.vrw g = some { v with k := v.k + 1, next := v.next + 1000 * s.inf TH_CTRL2.VRW_MS })) ∧
  (∀ (g at' : Nat) (v : Vrw) (s : State), g < 12 → s.vrw g = some v → v.clr = some at' → at' + 100000 ≤ s.tick →
    Answers (.vrwRemove g) s (fun t => t.vrw g = none))

/-- O29.  Ageing records deferred for a cold OTP are written, one for each marked key and command, while WR_OK is set (R208); while no
cluster of the sector is ON an offset rises at once, else one step at a time (R266). -/
def Obligations.MarginSteps : Prop :=
  (∀ (e : Nat × Option Bool) (q : Table (Option Bool)) (s : State), s.rd TH_STAT.WR_OK = 1 → s.mg.marks = e :: q →
    s.mg.otp.length < 2048 →
    Answers .otpDeferredWrite s (fun t => t.mg.marks = q ∧ t.rd TH_STAT.OTP_PEND = (if q = [] then 0 else 1) ∧
      t.mg.otp = s.mg.otp ++ [s.ageingRecord (e.1 / 16384) (e.1 % 16384) (e.2.getD false)])) ∧
  (∀ s : State, s.rd TH_STAT.WR_OK ≠ 1 → Answers .otpDeferredWrite s (fun t => t = s.quiet)) ∧
  (∀ (c : Nat) (s : State), s.rises c = true → s.rd SWD_CFG.RG c < 6 → (s.mgSect (s.rd SWD_CFG.RG c)).pending = [] →
    s.canAsk (s.rd SWD_CFG.RG c) = true → s.mg.image.isSome = true → s.sectorOn (s.rd SWD_CFG.RG c) = false →
    Answers (.applStep c) s (fun t => (t.mgSect (s.rd SWD_CFG.RG c)).pending = [(c, s.offsetTarget c)])) ∧
  (∀ (c : Nat) (s : State), s.rises c = true → s.rd SWD_CFG.RG c < 6 → (s.mgSect (s.rd SWD_CFG.RG c)).pending = [] →
    s.canAsk (s.rd SWD_CFG.RG c) = true → s.mg.image.isSome = true → s.sectorOn (s.rd SWD_CFG.RG c) = true →
    ((s.mgSect (s.rd SWD_CFG.RG c)).stepAt = none ∨
      ∃ a, (s.mgSect (s.rd SWD_CFG.RG c)).stepAt = some a ∧ a + 1000000 ≤ s.tick) →
    Answers (.applStep c) s (fun t => (t.mgSect (s.rd SWD_CFG.RG c)).pending = [(c, s.rd MG_CL.APPL c + 1)] ∧
      (t.mgSect (s.rd SWD_CFG.RG c)).stepAt = some s.tick))

/-! ### Budget, hints and waits (chapter 8) -/

/-- O30.  The PWM input (R211): a good period ends at a rising edge and is stored with its high time; without an edge for
2 ms the input is invalid. -/
def Obligations.PwmInput : Prop :=
  (∀ (now from' : Nat) (s : State), s.bg.pwmRise = some from' → 10 * s.period ≤ 256 * (now - from') →
    256 * (now - from') ≤ 1000 * s.period →
    Answers (.capPwmEdge true now) s (fun t => t.bg.pwmValid = true ∧ t.bg.pwmLast = (s.bg.pwmHigh, now - from') ∧
      t.bg.pwmRise = some now ∧ t.bg.pwmEdge = s.tick)) ∧
  (∀ (now from' : Nat) (s : State), s.bg.pwmRise = some from' →
    Answers (.capPwmEdge false now) s (fun t => t.bg.pwmHigh = now - from' ∧ t.bg.pwmRise = some from')) ∧
  (∀ s : State, s.bg.pwmEdge + 2000 ≤ s.tick → Answers .capPwmNoEdge s (fun t => t.bg.pwmValid = false))

/-- O31.  A budget period (R214, R224): the points of the demand, and the lowest class in force dropped while P_1MS is above
P_SAFE; a class is restored after RESTORE_MS ms of quiet (R225). -/
def Obligations.BudgetPeriods : Prop :=
  (∀ s : State, s.tick % 10 = 0 → s.bg.periodAt ≠ some s.tick → s.holdover = false →
    Answers .budgetPeriod s (fun t => t.bg.periodAt = some s.tick ∧
      ∀ k < 6, t.rd BG_SECT.PT_D k =
        min (s.rd ENG_OUT.SAFE k) (min (s.rd ENG_SLEWV.OUT 2) (s.rd BG_SECT.HINT k)) % 2 ^ BG_SECT.PT_D.width)) ∧
  (∀ (c : Nat) (s : State), s.tick % 10 = 0 → s.bg.periodAt ≠ some s.tick → s.holdover = false →
    s.inf BG_HARD.P_SAFE < s.rd EM_PDIE.P_1MS → s.lowestClass = some c → s.dropHold = false →
    Answers .budgetPeriod s (fun t => t.classInForce c = false ∧ t.rd BG_EVT.DROP = 1 ∧ t.bg.dropAt = some s.tick)) ∧
  (∀ (at' c : Nat) (s : State), s.bg.quietAt = some at' →
    (([1, 2, 3] : List Nat).find? (fun c => !s.classInForce c)) = some c →
    at' + 1000 * s.inf BG_CTRL.RESTORE_MS ≤ s.tick → s.holdover = false →
    Answers .classRestore s (fun t => t.classInForce c = true ∧ t.rd BG_EVT.RESTORE = 1 ∧ t.bg.quietAt = some s.tick))

/-- O32.  Hints (R231, R233): the class-4 event makes the hint active; one whose energy has not begun by start + 50 expires;
one ends at start + DURATION. -/
def Obligations.HintLife : Prop :=
  (∀ (e : QEvent) (k : Nat) (h : Hint) (s : State), firstDue s.cad.queue = some e → e.act = .prestage k →
    s.hint k = some h →
    Answers .hintPrestage s (fun t => t.cad.queue = removeEvent e s.cad.queue ∧
      ∃ h', t.hint k = some h' ∧ h'.active = true ∧ h'.start = h.start)) ∧
  (∀ (e : Nat) (h : Hint) (s : State), e < 8 → s.hint e = some h → h.active = true → h.begun = false →
    h.start + 50 ≤ s.tick → s.holdover = false →
    Answers (.hintExpiry e) s (fun t => t.hint e = none ∧ t.rd BG_EVT.HINT_EXPIRED = 1 ∧
      t.rd BG_HINT_CNT.EXPIRED = (s.rd BG_HINT_CNT.EXPIRED + 1) % 2 ^ BG_HINT_CNT.EXPIRED.width)) ∧
  (∀ (e : Nat) (h : Hint) (s : State), e < 8 → s.hint e = some h → h.start + h.duration ≤ s.tick → s.holdover = false →
    Answers (.hintEnd e) s (fun t => t.hint e = none))

/-- O33.  Idle gating asks an idle cluster off (R218); a request that has waited TIMEOUT ticks backs off by a tick and the
LFSR's lowest five bits, and fails when its retries are spent (R235). -/
def Obligations.IdleAndBackoff : Prop :=
  (∀ (c p : Nat) (s : State), c < 192 → s.present c = true → s.partOf c = some p → (s.part p).gate = true →
    0 < s.inf BG_CTRL.IDLE_MS → 1000 * s.inf BG_CTRL.IDLE_MS ≤ Table.get 0 s.bg.idle c → s.dstate c = dON → c ∉ s.rim.forcing →
    s.rd SWD_STAT.PEND c ≠ 2 → s.holdover = false →
    Answers (.idleGate c) s (fun t => t.rd SWD_STAT.PEND c = 2 ∧ (t.dom c).idleOff = true)) ∧
  (∀ (n : Nat) (s : State), s.waits n = true → (s.dom n).backoff = none → (s.dom n).first + s.inf BG_WAIT.TIMEOUT ≤ s.tick →
    (s.dom n).tries + 1 < s.inf BG_WAIT.RETRIES →
    Answers (.waitTimeout n) s (fun t => (t.dom n).tries = (s.dom n).tries + 1 ∧ t.rd SWD_STAT.PEND n = 1 ∧
      (t.dom n).backoff = some (s.tick + 1 + lfsrNext s.bg.lfsr % 32) ∧ (t.dom n).token = none)) ∧
  (∀ (n : Nat) (s : State), s.waits n = true → (s.dom n).backoff = none → (s.dom n).first + s.inf BG_WAIT.TIMEOUT ≤ s.tick →
    s.inf BG_WAIT.RETRIES ≤ (s.dom n).tries + 1 →
    Answers (.waitTimeout n) s (fun t => t.rd SWD_STAT.PEND n = 0 ∧ t.rd BG_EVT.WAIT_FAIL = 1)) ∧
  (∀ (n at' : Nat) (s : State), s.waits n = true → (s.dom n).backoff = some at' → at' ≤ s.tick →
    Answers (.backoffRetry n) s (fun t => (t.dom n).backoff = none ∧ (t.dom n).first = s.tick))

/-! ### The cadence engine (chapter 6) -/

/-- O34.  Instructions that write accumulators or nothing (R157, R158, R160, R162): what lane A's accumulators hold after LDA,
MVM, VMUL and ADDI; NOP writes nothing; each moves the program counter on. -/
def Obligations.AccumulatorInstructions : Prop :=
  (∀ (i : Ins) (x : EngErr) (s : State), AtInstruction s 0 i →
    Answers (.nop x) s (fun t => t.eng.pc = s.eng.pc + 1 ∧ t.eng.laneA.acc = s.eng.laneA.acc ∧
      t.eng.laneA.wdata = s.eng.laneA.wdata ∧ t.eng.laneA.winteg = s.eng.laneA.winteg ∧
      t.eng.laneA.cycles = s.eng.laneA.cycles + 1 + x.stallA)) ∧
  (∀ (i : Ins) (x : EngErr) (s : State), AtInstruction s 1 i →
    Answers (.lda x) s (fun t => t.eng.pc = s.eng.pc + 1 ∧
      ∀ j < i.m, t.eng.laneA.a (i.d + j) = s.eng.laneA.d 0 (i.s + j) * 2 ^ 15)) ∧
  (∀ (i : Ins) (x : EngErr) (s : State), AtInstruction s 2 i → i.mod = 0 → i.rel = false →
    Answers (.mvm x) s (fun t => t.eng.pc = s.eng.pc + 1 ∧
      ∀ j < i.m, t.eng.laneA.a (i.d + j) = clampI (-2 ^ 39) (2 ^ 39 - 1)
        ((each i.n (fun k => s.coef 0 (16 * i.c + i.n * j + k) * s.eng.laneA.d 0 (i.s + k))).foldl (· + ·) 0))) ∧
  (∀ (i : Ins) (x : EngErr) (s : State), AtInstruction s 3 i → i.mod = 0 → i.rel = false →
    Answers (.vmul x) s (fun t => t.eng.pc = s.eng.pc + 1 ∧
      ∀ j < i.m, t.eng.laneA.a (i.d + j) =
        clampI (-2 ^ 39) (2 ^ 39 - 1) (s.coef 0 (16 * i.c + j) * s.eng.laneA.d 0 (i.s + j)))) ∧
  (∀ (i : Ins) (x : EngErr) (s : State), AtInstruction s 4 i →
    Answers (.addi x) s (fun t => t.eng.pc = s.eng.pc + 1 ∧
      ∀ j < i.m, t.eng.laneA.a (i.d + j) =
        clampI (-2 ^ 39) (2 ^ 39 - 1) (s.eng.laneA.a (i.d + j) + s.eng.laneA.w 0 (i.s + j))))

/-- O35.  Instructions that write data words or integrators (R159 to R163, R171 to R173): what lane A reads afterwards, at words
that no open set holds; a stored word is the 16-bit (an integrator the 40-bit) two's complement value. -/
def Obligations.DataInstructions : Prop :=
  (∀ (i : Ins) (x : EngErr) (s : State), AtInstruction s 5 i →
    Answers (.rnd x) s (fun t => t.eng.pc = s.eng.pc + 1 ∧ ∀ j < i.m, s.heldWord (i.d + j) = false →
      t.eng.laneA.d 0 (i.d + j) =
        clampI (-32768) 32767 ((s.eng.laneA.a (i.s + j) + 2 ^ (14 - i.sh)) / 2 ^ (15 - i.sh)))) ∧
  (∀ (i : Ins) (x : EngErr) (s : State), AtInstruction s 6 i →
    Answers (.sub x) s (fun t => t.eng.pc = s.eng.pc + 1 ∧ ∀ j < i.m, s.heldWord (i.d + j) = false →
      t.eng.laneA.d 0 (i.d + j) = clampI (-32768) 32767 (s.eng.laneA.d 0 (i.s + j) - s.eng.laneA.d 0 (i.c + j)))) ∧
  (∀ (i : Ins) (x : EngErr) (s : State), AtInstruction s 7 i → i.rel = false →
    Answers (.clmp x) s (fun t => t.eng.pc = s.eng.pc + 1 ∧ ∀ j < i.m, s.heldWord (i.d + j) = false →
      t.eng.laneA.d 0 (i.d + j) = toSigned 16 (ofSigned 16
        (min (max (s.eng.laneA.d 0 (i.s + j)) (s.coef 0 (16 * i.c + 2 * j))) (s.coef 0 (16 * i.c + 2 * j + 1)))))) ∧
  (∀ (i : Ins) (x : EngErr) (s : State), AtInstruction s 8 i → i.rel = false →
    Answers (.intg x) s (fun t => t.eng.pc = s.eng.pc + 1 ∧ ∀ j < i.m,
      s.integrates s.eng.laneA 0 (i.d + j) = true → t.eng.laneA.w 0 (i.d + j) = toSigned 40 (ofSigned 40
        (clampI (s.coef 0 (16 * i.c + 3 * j + 1) * 2 ^ 15) (s.coef 0 (16 * i.c + 3 * j + 2) * 2 ^ 15)
          (s.eng.laneA.w 0 (i.d + j) + s.coef 0 (16 * i.c + 3 * j) * s.eng.laneA.d 0 (i.s + j)))))) ∧
  (∀ (i : Ins) (x : EngErr) (s : State), AtInstruction s 9 i →
    Answers (.cvt x) s (fun t => t.eng.pc = s.eng.pc + 1 ∧ ∀ j < i.m, s.heldWord (i.d + j) = false →
      t.eng.laneA.d 0 (i.d + j) = toSigned 16 (ofSigned 16 (cvtLevel i.mod (s.eng.laneA.d 0 (i.s + j)))))) ∧
  (∀ (i : Ins) (x : EngErr) (s : State), AtInstruction s 0xA i → i.mod = 0 →
    Answers (.minsel x) s (fun t => t.eng.pc = s.eng.pc + 1 ∧ ∀ j < i.m, s.heldWord (i.d + 2 * j) = false →
      t.eng.laneA.d 0 (i.d + 2 * j) = toSigned 16 (ofSigned 16 (s.sectorSel (s.eng.laneA.d 0) j).pt))) ∧
  (∀ (i : Ins) (x : EngErr) (s : State), AtInstruction s 0xB i →
    Answers (.mov x) s (fun t => t.eng.pc = s.eng.pc + 1 ∧ ∀ j < i.m, s.heldWord (i.d + j) = false →
      t.eng.laneA.d 0 (i.d + j) = toSigned 16 (ofSigned 16 (s.eng.laneA.d 0 (i.s + j)))))

/-- O36.  A command of one unit (a domain, a sentinel, a rail group, a link, a task, a loop set, a mailbox, a ring pair, an
opcode's permission, a power window) leaves the other units' fields of the same registers as they were. -/
def Obligations.UnitsKeptApart : Prop :=
  ∀ (c : Instr) (n m : Nat) (fs : List Fld) (s : State), unitFields c = some (n, m, fs) →
    Answers c s (fun t => ∀ F ∈ fs, ∀ j < m, j ≠ n → t.rd F j = s.rd F j)

/-- O37. END (R185, R186): with both lanes at END within 700 cycles, equal output words and signatures and no
uncorrectable word the tick is committed and LD_RUN clears; at a first differing word it is a counted lane disagreement
and nothing is committed; an engine overrun (R30) is counted and commits nothing, and is a lane disagreement where the tick
has met an uncorrectable word (R155, R186). The engine's scheduled events: a model
image is taken (R130), the bank switches (R176), a region is entered (R175), a node dump is armed or, with the engine
not running, completes as HELD and NOWRITE (R190). -/
def Obligations.EngineEvents : Prop :=
  (∀ (i : Ins) (x : EngErr) (s : State), AtInstruction s 0x3F i → (s.insAt 1 s.eng.pc).op = 0x3F →
    s.eng.laneA.cycles + 4 + x.stallA ≤ 700 → s.eng.laneB.cycles + 4 + x.stallB ≤ 700 →
    s.eng.ue = none → x.ueA = none → x.ueB = none → s.firstDiff = none → s.eng.laneA.sig = s.eng.laneB.sig →
    Answers (.engEnd x) s (fun t => t.eng.committed = true ∧ t.eng.running = false ∧ t.rd ENG_STAT.LD_RUN = 0 ∧
      t.cad.engCyc = max (s.eng.laneA.cycles + 4 + x.stallA) (s.eng.laneB.cycles + 4 + x.stallB))) ∧
  (∀ (i : Ins) (x : EngErr) (a : Nat) (s : State), AtInstruction s 0x3F i → (s.insAt 1 s.eng.pc).op = 0x3F →
    s.eng.laneA.cycles + 4 + x.stallA ≤ 700 → s.eng.laneB.cycles + 4 + x.stallB ≤ 700 →
    s.eng.ue = none → x.ueA = none → x.ueB = none → s.firstDiff = some a →
    Answers (.engEnd x) s (fun t => t.eng.committed = false ∧ t.eng.running = false ∧ t.rd ENG_EVT.LANE_DIS = 1 ∧
      t.rd ENG_CNT.LDIS = (s.rd ENG_CNT.LDIS + 1) % 2 ^ ENG_CNT.LDIS.width)) ∧
  (∀ s : State, s.eng.running = true → s.eng.laneA.ended = false → s.eng.laneB.ended = false → s.eng.ue = none →
    Answers .engineOverrun s (fun t => t.eng.committed = false ∧ t.eng.running = false ∧ t.rd CAD_EVT.ENG_OVR = 1 ∧
      t.rd CAD_OVERRUN.ENG = (s.rd CAD_OVERRUN.ENG + 1) % 2 ^ CAD_OVERRUN.ENG.width)) ∧
  (∀ (l a : Nat) (s : State), s.eng.running = true → s.eng.laneA.ended = false → s.eng.laneB.ended = false →
    s.eng.ue = some (l, a) →
    Answers .engineOverrun s (fun t => t.eng.committed = false ∧ t.eng.running = false ∧ t.rd ENG_EVT.LANE_DIS = 1 ∧
      t.rd ENG_CNT.LDIS = (s.rd ENG_CNT.LDIS + 1) % 2 ^ ENG_CNT.LDIS.width ∧
      t.rd CAD_OVERRUN.ENG = s.rd CAD_OVERRUN.ENG)) ∧
  (∀ (e : QEvent) (im : ModelImage) (s : State), firstDue s.cad.queue = some e → e.act = .model → s.em.next = some im →
    Answers .modelImageTake s (fun t => t.em.image = im ∧ t.em.next = none ∧ t.cad.queue = removeEvent e s.cad.queue)) ∧
  (∀ (e : QEvent) (s : State), firstDue s.cad.queue = some e → e.act = .bank →
    (s.bankOf (1 - s.rd ENG_STAT.BANK)).valid = true →
    Answers .bankSwitchFire s (fun t => t.rd ENG_STAT.BANK = 1 - s.rd ENG_STAT.BANK ∧ t.rd ENG_STAT.SWITCH_PEND = 0 ∧
      t.rd ENG_EVT.BANK_SW = 1 ∧ t.rd ENG_STAT.LD_RUN = 0)) ∧
  (∀ (e : QEvent) (n r : Nat) (s : State), firstDue s.cad.queue = some e → e.act = .region n r → n < 4 →
    Table.get false s.eng.regionPend n = true →
    Answers .regionSwitch s (fun t => t.rd ENG_SETST.REGION n = r % 2 ^ ENG_SETST.REGION.width ∧ t.rd ENG_EVT.REGION = 1 ∧
      t.rd ENG_SETST.DWELL_CNT n = 0)) ∧
  (∀ (e : QEvent) (src node : Nat) (s : State), firstDue s.cad.queue = some e → e.act = .dump src node →
    s.rd ENG_STAT.STATE = 1 →
    Answers .nodeDumpFire s (fun t => t.eng.dump = some (src, node) ∧ t.cad.queue = removeEvent e s.cad.queue)) ∧
  (∀ (e : QEvent) (src node : Nat) (s : State), firstDue s.cad.queue = some e → e.act = .dump src node →
    s.rd ENG_STAT.STATE ≠ 1 →
    Answers .nodeDumpFire s (fun t => t.eng.dump = none ∧ t.rd ENG_DUMP_STAT.DONE = 1 ∧ t.rd ENG_DUMP_STAT.HELD = 1 ∧
      t.rd ENG_DUMP_STAT.NOWRITE = 1))

/-- O38.  Supervision of the loops: an open set closes at OPEN_MAX ms and is logged (R178); a slot above FE_LIM for FE_TIME
ticks marks its loop as not following (R184) until it has been at or below FE_LIM for 1,000 committed ticks. -/
def Obligations.LoopSupervision : Prop :=
  (∀ (n : Nat) (s : State), n < 4 → s.isOpen n = true →
    Table.get 0 s.eng.openAt n + 1000 * s.inf ENG_SET.OPEN_MAX n ≤ s.tick →
    Answers (.openTimeout n) s (fun t => t.isOpen n = false ∧ t.rd ENG_EVT.OPEN_TIMEOUT = 1)) ∧
  (∀ (k l u : Nat) (s : State), k < 32 → l < 5 → s.feMapOf k = some (l, u) → s.inf ENG_FE.FE_TIME l ≤ Table.get 0 s.eng.feRun k →
    Table.get 0 s.eng.feRun k < 0x10000 →
    Answers (.notFollowing k) s (fun t => (t.rd ENG_NF.NF).testBit l = true ∧ Table.get false t.eng.nf (7 * l + u) = true ∧
      t.rd ENG_EVT.NOT_FOLLOWING = 1)) ∧
  (∀ (l u : Nat) (s : State), l < 5 → u < 7 → Table.get false s.eng.nf (7 * l + u) = true →
    1000 ≤ Table.get 0 s.eng.feClean (7 * l + u) →
    Answers (.nfClear l u) s (fun t => Table.get false t.eng.nf (7 * l + u) = false))

/-! ### Pace links, the carrier and the peloton (chapter 9) -/

/-- O39.  Supervision of the lanes (R239): KEEP, with this governor's own header, after ten silent ticks; DOWN thirty ticks after
the last valid message and no sooner, the other lanes as they were; a KEEP counts for its lane alone, is never forwarded,
and the fourth valid message since DOWN brings the link UP; a message of wrong length, type or check is counted and
dropped (R244). -/
def Obligations.PaceLinks : Prop :=
  (∀ (l : Nat) (s : State), s.laneEnabled l = true → (s.pace l).sent + 10 ≤ s.tick → s.holdover = false →
    Answers (.keepSend l) s (fun t => (t.pace l).sent = s.tick ∧
      Table.get 0 t.car.seqOut mKEEP = (Table.get 0 s.car.seqOut mKEEP + 1) % 256 ∧
      ∃ k < 16, t.emit = [.pace l (ownWords s mKEEP k [])])) ∧
  (∀ (l : Nat) (s : State), l < 4 → s.bit CAR_STAT.LINK_UP (3 - l) = true → (s.pace l).heard.getD 0 + 30 ≤ s.tick →
    Answers (.paceLinkDown l) s (fun t => (t.pace l).good = 0 ∧ t.rd CAR_EVT.LINK_DOWN = 1 ∧
      (∀ m < 4, t.bit CAR_STAT.LINK_UP (3 - m) = (s.bit CAR_STAT.LINK_UP (3 - m) && m != l)) ∧
      t.rd CAR_ERR.LINKDOWN = (s.rd CAR_ERR.LINKDOWN + 1) % 2 ^ CAR_ERR.LINKDOWN.width)) ∧
  (∀ (l : Nat) (s : State), s.tick < (s.pace l).heard.getD 0 + 30 → Answers (.paceLinkDown l) s (fun t => t = s.quiet)) ∧
  (∀ (l : Nat) (ws : List Nat) (s : State), s.laneEnabled l = true → shaped mKEEP ws = true → messageOk ws = true →
    Answers (.keep l ws) s (fun t => (t.pace l).heard = some s.tick ∧ (t.pace l).good = (s.pace l).good + 1 ∧ t.emit = [] ∧
      (∀ m < 4, m ≠ l → t.pace m = s.pace m) ∧
      ∀ m < 4, t.bit CAR_STAT.LINK_UP (3 - m) =
        (s.bit CAR_STAT.LINK_UP (3 - m) || m == l && decide (4 ≤ (s.pace l).good + 1)))) ∧
  (∀ (l : Nat) (ws : List Nat) (s : State), s.laneEnabled l = true → (shaped mKEEP ws = false ∨ messageOk ws = false) →
    Answers (.keep l ws) s (fun t => CountedBad s t ∧ t.car = s.car ∧ t.emit = [])) ∧
  (∀ s : State, Answers (.messageDiscarded none) s (fun t => CountedBad s t ∧ t.car = s.car ∧ t.emit = [])) ∧
  (∀ (l : Nat) (s : State), s.laneEnabled l = true →
    Answers (.messageDiscarded (some l)) s (fun t => CountedBad s t ∧ t.car = s.car ∧ t.emit = []))

/-- O40.  Reports and the live set (R240, R241, R244, R245, R251): a report with a newer SEQ is acted on: it is kept as its words
say and makes its die live; one whose HOPS allows it goes on to the other lanes with HOPS less one; a repeat is only
counted as stale.  Every 100 ticks a governor floods its own report.  A die silent for 300 ticks leaves, and its
reports with it. -/
def Obligations.ReportsAndLiveSet : Prop :=
  (∀ (l : Nat) (ws : List Nat) (s : State), PaceGood s l mREPORT ws →
    Answers (.report l ws) s (fun t => t.bit CAR_LIVE.LIVE (hdrDie (at0 ws 0) % 64) = true ∧ ActedOn s t ∧
      t.reportOf (hdrDie (at0 ws 0) % 64) = some (reportWords ws s.tick) ∧
      (s.isLive (hdrDie (at0 ws 0) % 64) = false → t.rd CAR_EVT.MEMBER_JOIN = 1))) ∧
  (∀ (l : Nat) (ws : List Nat) (s : State), PaceGood s l mREPORT ws → s.forwards (at0 ws 0) = true →
    Answers (.report l ws) s (fun t => t.emit = (([0, 1, 2, 3].filter s.laneUp).filter (· != l)).map
      (fun m => .pace m (withHops (at0 ws 0) (hdrHops (at0 ws 0) - 1) :: ws.drop 1)))) ∧
  (∀ (l : Nat) (ws : List Nat) (s : State), s.laneEnabled l = true → shaped mREPORT ws = true → messageOk ws = true →
    s.seqNew (at0 ws 0) = false →
    Answers (.report l ws) s (fun t => t.rd CAR_ERR.STALE = (s.rd CAR_ERR.STALE + 1) % 2 ^ CAR_ERR.STALE.width ∧
      t.car.reports = s.car.reports ∧ t.rd CAR_LIVE.LIVE = s.rd CAR_LIVE.LIVE)) ∧
  (∀ s : State, s.tick % 100 = 0 → s.carrierOn = true → s.holdover = false → s.car.reportAt ≠ some s.tick →
    Answers .reportSend s (fun t => t.car.reportAt = some s.tick ∧ Flooded s t mREPORT (reportBody s) ∧
      ∃ r, t.reportOf s.die = some r ∧ r.demand = min s.car.demand 0xFFFF ∧ r.minimum = min s.car.minimum 0xFFFF ∧
        r.tick = s.tick)) ∧
  (∀ (d : Nat) (s : State), d < 64 → d ≠ s.die → s.bit CAR_LIVE.LIVE d = true →
    (∀ r, s.reportOf d = some r → r.tick + 300 ≤ s.tick) →
    Answers (.memberLost d) s (fun t => t.bit CAR_LIVE.LIVE d = false ∧ t.reportOf d = none ∧ t.rd CAR_EVT.MEMBER_LOST = 1))

/-- O41.  Stewardship (R247 to R254): each carrier period a steward floods a SHARE with the split of its cap; without a lease a
governor asks for the role it is designated to; a SHARE acted on gives the carrier offset and, where this die can use
it, the share to obey; without a usable one for SHARE_TMO periods the share is invalid; a shadow that has not heard its
steward for 30 ticks asks to take over; a lease not renewed ends. -/
def Obligations.Stewardship : Prop :=
  (∀ s : State, s.tick % 10 = 0 → s.carrierOn = true → s.holdover = false → s.car.periodAt ≠ some s.tick → s.steward = true →
    (splitOf s).2.1 < 2 ^ 30 → (splitOf s).2.2.1 < 2 ^ 32 →
    Answers .carrierPeriod s (fun t => t.car.periodAt = some s.tick ∧
      t.rd CAR_SPLIT.MODE = (splitOf s).1 ∧ t.rd CAR_SPLIT.PARAM = (splitOf s).2.1 ∧
      t.rd CAR_BUDGET.BUDGET = (splitOf s).2.2.1 ∧
      ∃ frac < 1024, Flooded s t mSHARE (s.rd CAR_EPOCH_HELD.EPOCH :: (stampWords s.stamp frac ++
        [(splitOf s).1 * 2 ^ 30 + (splitOf s).2.1, includedBits s 0, includedBits s 32,
         usedBits s 0, usedBits s 16, usedBits s 32, usedBits s 48])))) ∧
  (∀ s : State, s.tick % 10 = 0 → s.carrierOn = true → s.holdover = false → s.car.periodAt ≠ some s.tick →
    s.steward = false → s.rd CAR_STAT.LEASE_VALID ≠ 1 →
    Answers .carrierPeriod s (fun t => t.car.periodAt = some s.tick ∧ t.emit = [] ∧
      t.rd CAR_LEASE.REQ = if s.rd CAR_STAT.DESIGNATED = 2 then 2 else if s.rd CAR_STAT.DESIGNATED = 1 then 3 else 0)) ∧
  (∀ (l : Nat) (ws : List Nat) (frac : Nat) (s : State), PaceGood s l mSHARE ws →
    Answers (.share l ws frac) s (fun t => ActedOn s t ∧
      Table.get none t.car.ofs (hdrDie (at0 ws 0) % 64) = some (signed50 ((stampOf (at0 ws 2) (at0 ws 3) : Int) +
        512 * (15 - (hdrHops (at0 ws 0) : Int)) - (s.now50 frac : Int))) ∧
      (s.derive ws ≠ none → t.rd CAR_STAT.SHARE_VALID = 1 ∧ t.car.usableAt = s.tick ∧ t.rd CAR_SHARE.AGE = 0))) ∧
  (∀ (l : Nat) (ws : List Nat) (frac v : Nat) (s : State), PaceGood s l mSHARE ws → s.derive ws = some v → s.window = [] →
    Answers (.share l ws frac) s (fun t => t.rd CAR_SHARE.OBEYED = v % 2 ^ CAR_SHARE.OBEYED.width ∧
      t.rd CAR_STAT.OBEY_DIE = hdrDie (at0 ws 0) % 64 ∧ t.car.obeyEpoch = some (at0 ws 1) ∧
      t.rd ENG_SLEWV.TARGET 0 = v % 2 ^ ENG_SLEWV.TARGET.width)) ∧
  (∀ s : State, s.rd CAR_STAT.SHARE_VALID = 1 → s.car.usableAt + 10 * max 4 (s.inf CAR_CTRL.SHARE_TMO) ≤ s.tick →
    Answers .shareTimeout s (fun t => t.rd CAR_STAT.SHARE_VALID = 0 ∧ t.rd CAR_EVT.SHARE_INVALID = 1)) ∧
  (∀ s : State, s.rd CAR_STAT.ROLE = 1 → s.car.shadowHeard + 30 ≤ s.tick → s.rd CAR_LEASE.TAKEOVER ≠ 1 → s.holdover = false →
    Answers .takeover s (fun t => t.rd CAR_LEASE.TAKEOVER = 1 ∧ t.rd CAR_LEASE.REQ = 2 ∧ t.rd CAR_EVT.TAKEOVER = 1)) ∧
  (∀ (e : Nat) (s : State), s.car.leaseEnd = some e → e ≤ s.tick →
    Answers .leaseExpiry s (fun t => t.rd CAR_STAT.ROLE = 0 ∧ t.rd CAR_STAT.LEASE_VALID = 0 ∧ t.car.leaseEnd = none ∧
      t.rd CAR_LEASE.REQ = 0 ∧ t.rd CAR_EVT.LEASE_LOST = 1 ∧ (s.rd CAR_STAT.ROLE ≠ 0 → t.rd CAR_EVT.ROLE_CHANGE = 1)))

/-- O42.  Offers, points and the offset to the root (R255 to R258).  A steward sends the lowest offer of its live members every 100
ticks; an OFFER of the peloton is kept, and the root is the lowest-numbered live carrier; one silent for 300 ticks is
lost.  The root sends its mode and point every 100 ticks, to be applied LEAD ticks later.  A POINT of the root schedules
its application at APPLY less the offset and goes on as a CPOINT; a CPOINT schedules it at APPLY less the carrier
offset; the class-2 event makes the point the target of limiter 2.  PSYNC is asked at TICK mod 100 = 50, answered by
the root, and gives one sample of offset and delay; after four of them the offset is valid. -/
def Obligations.OffersAndPoints : Prop :=
  (∀ s : State, s.tick % 100 = 0 → s.steward = true → s.joined = true → s.holdover = false → s.pel.offerSent ≠ some s.tick →
    Answers .offerSend s (fun t => t.pel.offerSent = some s.tick ∧ t.pel.memberRises = 0 ∧
      SentTo s t 256 mOFFER [s.rd PEL_CTRL.PEL_ID * 2 ^ 16
        + ((s.liveDies.filterMap s.reportOf).map (fun r => r.offer)).foldl min 255 * 2 ^ 8
        + b2n (s.liveDies.any (fun d => Table.get false s.pel.memberCant d)) * 2 ^ 7 + min 127 s.pel.memberRises,
        s.liveDies.length])) ∧
  (∀ (ws : List Nat) (s : State), SidebandGood s mOFFER ws → s.joined = true →
    bits 31 16 (at0 ws 1) = s.rd PEL_CTRL.PEL_ID →
    Answers (.offer ws) s (fun t => ActedOn s t ∧ t.offerOf (hdrCar (at0 ws 0)) =
      some { offer := bits 15 8 (at0 ws 1), cant := bits 7 7 (at0 ws 1) == 1, tick := s.tick } ∧
      (s.steward = true → t.pel.root = some (t.liveCarriers.head?.getD s.carrier)))) ∧
  (∀ (ws : List Nat) (s : State), SidebandGood s mOFFER ws →
    (s.joined = false ∨ bits 31 16 (at0 ws 1) ≠ s.rd PEL_CTRL.PEL_ID) →
    Answers (.offer ws) s (fun t => t.pel = s.pel ∧ t.car = s.car ∧ t.rd CAR_RXMSG.MSGS = s.rd CAR_RXMSG.MSGS)) ∧
  (∀ (c : Nat) (o : OfferIn) (s : State), c < 256 → s.offerOf c = some o → s.steward = true → c ≠ s.carrier →
    o.tick + 300 ≤ s.tick →
    Answers (.carrierLost c) s (fun t => t.offerOf c = none ∧ t.rd PEL_EVT.CARRIER_LOST = 1 ∧
      t.pel.root = some (t.liveCarriers.head?.getD s.carrier))) ∧
  (∀ s : State, s.tick % 100 = 0 → s.isRoot = true → s.pel.ceded = false → s.holdover = false →
    s.pel.pointSent ≠ some s.tick →
    Answers .pointSend s (fun t => t.pel.pointSent = some s.tick ∧
      (s.pel.rootMode = 1 → (s.inf PEL_CFG.FALLBACK_N < s.risesNow ∨ s.carrierCant = true) →
        t.pel.rootMode = 2 ∧ t.rd PEL_EVT.FALLBACK = 1) ∧
      (s.risesNow ≤ s.inf PEL_CFG.FALLBACK_N → s.carrierCant = false → t.pel.rootMode = s.pel.rootMode) ∧
      .sideband 256 (ownWords s mPOINT 0 ((s.rd PEL_CTRL.PEL_ID * 2 ^ 16
        + (if t.pel.rootMode = 2 then 255 else (s.liveCarriers.filterMap s.offerOf).foldl (fun m o => min m o.offer) 255) * 2 ^ 8
        + t.pel.rootMode * 2 ^ 6) ::
        (stampWords ((s.tick + max 400 (s.inf PEL_LEAD.LEAD)) % 2 ^ 40) 0 ++ [0]))) ∈ t.emit)) ∧
  (∀ (ws : List Nat) (o : Int) (s : State), SidebandGood s mPOINT ws → s.steward = true → s.joined = true →
    bits 31 16 (at0 ws 1) = s.rd PEL_CTRL.PEL_ID → s.pel.root = some (hdrCar (at0 ws 0)) →
    (hdrCar (at0 ws 0) = s.carrier ∧ o = 0 ∨
      hdrCar (at0 ws 0) ≠ s.carrier ∧ s.rd PEL_STAT.OFS_VALID = 1 ∧ o = toSigned 64 (s.rd PEL_OFS.OFS)) →
    Answers (.pelPoint ws) s (fun t => t.pel.heardAt = s.tick ∧ t.rd PEL_STAT.ORPHAN = 0 ∧ ActedOn s t ∧
      (s.pel.known.contains (hdrCar (at0 ws 0), hdrSeq (at0 ws 0)) = false → QueueTakes s (applyTick s ws o) →
        AppliesAt s t (hdrCar (at0 ws 0), hdrSeq (at0 ws 0)) (bits 15 8 (at0 ws 1)) (bits 7 6 (at0 ws 1))
          (applyTick s ws o)) ∧
      (s.holdover = false → ∃ frac < 1024, t.emit = ([0, 1, 2, 3].filter s.laneUp).map (fun l =>
        .pace l (ownWords s mCPOINT 15 ((hdrCar (at0 ws 0) * 2 ^ 24 + bits 15 8 (at0 ws 1) * 2 ^ 16
          + bits 7 6 (at0 ws 1) * 2 ^ 14 + hdrSeq (at0 ws 0)) ::
          stampWords (nearestTick ((stampOf (at0 ws 2) (at0 ws 3) : Nat) - o)) 0)))))) ∧
  (∀ (l : Nat) (ws : List Nat) (o : Int) (s : State), PaceGood s l mCPOINT ws → s.joined = true →
    Table.get none s.car.ofs (hdrDie (at0 ws 0) % 64) = some o →
    Answers (.cpoint l ws) s (fun t => t.pel.heardAt = s.tick ∧ t.rd PEL_STAT.ORPHAN = 0 ∧ ActedOn s t ∧
      (s.pel.known.contains (bits 31 24 (at0 ws 1), bits 7 0 (at0 ws 1)) = false → QueueTakes s (applyTick s ws o) →
        AppliesAt s t (bits 31 24 (at0 ws 1), bits 7 0 (at0 ws 1)) (bits 23 16 (at0 ws 1)) (bits 15 14 (at0 ws 1))
          (applyTick s ws o)))) ∧
  (∀ (e : QEvent) (c p m : Nat) (s : State), firstDue s.cad.queue = some e → e.act = .point c p m → s.joined = true →
    Answers .pelotonApply s (fun t => t.rd PEL_STAT.POINT = p % 2 ^ PEL_STAT.POINT.width ∧
      t.rd PEL_STAT.MODE = (if m = 2 then 2 else 1) ∧
      t.rd ENG_SLEWV.TARGET 2 = p % 2 ^ ENG_SLEWV.TARGET.width ∧ t.cad.queue = removeEvent e s.cad.queue ∧
      (e.late = true → t.rd PEL_EVT.LATE_APPLY = 1))) ∧
  (∀ (r frac : Nat) (s : State), s.pel.root = some r → s.tick % 100 = 50 → s.steward = true → s.joined = true → r ≠ s.carrier →
    s.holdover = false → s.pel.psyncSent ≠ some s.tick →
    Answers (.psyncReqSend frac) s (fun t => t.pel.psyncSent = some s.tick ∧
      SentTo s t r mPSYNCREQ ((s.rd PEL_CTRL.PEL_ID * 2 ^ 16) :: (stampWords s.stamp frac ++ [0])))) ∧
  (∀ (ws : List Nat) (f2 f3 : Nat) (s : State), SidebandGood s mPSYNCREQ ws → s.isRoot = true →
    bits 31 16 (at0 ws 1) = s.rd PEL_CTRL.PEL_ID → s.holdover = false →
    Answers (.psyncReq ws f2 f3) s (fun t => ActedOn s t ∧
      SentTo s t (hdrCar (at0 ws 0)) mPSYNCRSP ((s.rd PEL_CTRL.PEL_ID * 2 ^ 16) :: at0 ws 2 :: at0 ws 3 ::
        (stampWords s.stamp f2 ++ stampWords s.stamp f3 ++ [0])))) ∧
  (∀ (ws : List Nat) (frac : Nat) (s : State), SidebandGood s mPSYNCRSP ws → s.steward = true → s.joined = true →
    bits 31 16 (at0 ws 1) = s.rd PEL_CTRL.PEL_ID → s.pel.root = some (hdrCar (at0 ws 0)) →
    Answers (.psyncRsp ws frac) s (fun t => ActedOn s t ∧ t.pel.exchanges = s.pel.exchanges + 1 ∧
      (3 ≤ s.pel.exchanges → t.rd PEL_STAT.OFS_VALID = 1) ∧
      (∃ x, bestSample t.pel.samples = some x ∧ t.rd PEL_OFS.OFS = ofSigned 64 x.1 ∧ t.rd PEL_DELAY.DELAY = ofSigned 32 x.2) ∧
      t.pel.samples = (
        ((signed50 ((stampOf (at0 ws 4) (at0 ws 5) : Int) - (stampOf (at0 ws 2) (at0 ws 3) : Int))
            + signed50 ((stampOf (at0 ws 6) (at0 ws 7) : Int) - (s.now50 frac : Int))) / 2,
         signed50 (((s.now50 frac : Int) - (stampOf (at0 ws 2) (at0 ws 3) : Int))
            - ((stampOf (at0 ws 6) (at0 ws 7) : Int) - (stampOf (at0 ws 4) (at0 ws 5) : Int))))
        :: s.pel.samples).take 8))

/-- O43.  Drag and the paceline (R259 to R262, R298): DRAG rises after DRAG_TICKS + 1 drag ticks or when the cadence is lost, and
clears after DRAG_TICKS without, each with a DRAG message on every lane that is up; CANT_FOLLOW after NOFOLLOW periods; a member's flags are kept by its steward; the root returns after
RETURN_MS of rest; a member without points for 300 ticks is an orphan; an ABORT for this die is reported. -/
def Obligations.DragAndPaceline : Prop :=
  (∀ (l : Nat) (ws : List Nat) (s : State), PaceGood s l mDRAG ws →
    Answers (.drag l ws) s (fun t =>
      Table.get false t.pel.memberDrag (hdrDie (at0 ws 0) % 64) = (bits 23 21 (at0 ws 1)).testBit 2 ∧
      Table.get false t.pel.memberCant (hdrDie (at0 ws 0) % 64) = (bits 23 21 (at0 ws 1)).testBit 1)) ∧
  (∀ s : State, s.joined = true → s.rd PEL_STAT.DRAG ≠ 1 →
    (s.dragTicks < s.pel.dragRun ∨ s.rd CAD_STAT.CADENCE_LOST = 1) →
    Answers .dragRise s (fun t => t.rd PEL_STAT.DRAG = 1 ∧ t.rd PEL_EVT.DRAG = 1 ∧
      t.rd PEL_CNT.DRAGS = (s.rd PEL_CNT.DRAGS + 1) % 2 ^ PEL_CNT.DRAGS.width ∧
      (s.holdover = false → Flooded s t mDRAG [s.lowestPoint * 2 ^ 24 +
        (4 + 2 * s.rd PEL_STAT.CANT_FOLLOW + s.rd CAD_STAT.CADENCE_LOST) * 2 ^ 21]))) ∧
  (∀ s : State, s.joined = true → s.rd PEL_STAT.DRAG = 1 → s.dragTicks ≤ s.pel.cleanRun →
    Answers .dragClear s (fun t => t.rd PEL_STAT.DRAG = 0 ∧ t.rd PEL_STAT.CANT_FOLLOW = 0 ∧ t.rd PEL_EVT.DRAG_CLR = 1 ∧
      (s.holdover = false → Flooded s t mDRAG [s.lowestPoint * 2 ^ 24 + s.rd CAD_STAT.CADENCE_LOST * 2 ^ 21]))) ∧
  (∀ s : State, s.joined = true → s.rd PEL_STAT.DRAG = 1 → s.rd PEL_STAT.CANT_FOLLOW ≠ 1 → s.noFollow ≤ s.pel.periods →
    Answers .cantFollow s (fun t => t.rd PEL_STAT.CANT_FOLLOW = 1 ∧ t.rd PEL_EVT.CANT_FOLLOW = 1)) ∧
  (∀ s : State, s.isRoot = true → s.pel.rootMode = 2 → s.pel.unrestAt + s.returnTicks ≤ s.tick → s.carrierCant = false →
    Answers .pacelineReturn s (fun t => t.pel.rootMode = 1 ∧ t.rd PEL_EVT.RETURN = 1)) ∧
  (∀ s : State, s.joined = true → s.rd PEL_STAT.ORPHAN ≠ 1 → s.pel.heardAt + 300 ≤ s.tick →
    Answers .orphan s (fun t => t.rd PEL_STAT.ORPHAN = 1 ∧ t.rd PEL_EVT.ORPHAN = 1)) ∧
  (∀ (ws : List Nat) (s : State), SidebandGood s mABORT ws → at0 ws 1 / 2 ^ 16 = s.rd PEL_CTRL.PEL_ID →
    s.rd PEL_CTRL.JOIN = 1 → (at0 ws 3 + at0 ws 4 * 2 ^ 32).testBit s.die = true →
    (hdrCar (at0 ws 0) ≠ s.carrier ∨ hdrDie (at0 ws 0) ≠ s.die) →
    Answers (.abort ws) s (fun t => t.rd RC_PEER_ABORT.CODE = at0 ws 2 % 2 ^ RC_PEER_ABORT.CODE.width ∧
      t.rd RC_EVT.PEER_ABORT = 1))

/-! ### Recovery and the agents' mailboxes (chapters 11 and 14) -/

/-- O44.  Mailboxes to the agents (R374, R375, R277): the oldest message is posted once in a tick to an empty box whose domain
is ON; a read error ends it as DOMAIN_OFF; a fence asserts on its acknowledgement or FENCE_WAIT ms after its post. -/
def Obligations.OutboundPosts : Prop :=
  (∀ (k w : Nat) (m : OmbMsg) (q : List OmbMsg) (s : State), k < 8 → (s.omb k).queue = m :: q →
    (s.omb k).tried ≠ some s.tick → (s.rd OMB_CFG.DOMAIN k = 255 ∨ s.dstate (s.rd OMB_CFG.DOMAIN k) = dON) →
    w.testBit 31 = false →
    Answers (.ombPost k (some w) true) s (fun t => (t.omb k).queue = q ∧ (t.omb k).tried = some s.tick ∧
      ∃ ns ns', t.emit = [.hostRead (s.ombAddr k + 60) ns 4,
        .hostWrite (s.ombAddr k) ns' ((m.mtype * 2 ^ 24 + m.oseq * 16 + m.words.length) :: m.words),
        .hostByte (s.ombAddr k + 63) 0x80])) ∧
  (∀ (k w : Nat) (ok : Bool) (m : OmbMsg) (q : List OmbMsg) (s : State), k < 8 → (s.omb k).queue = m :: q →
    (s.omb k).tried ≠ some s.tick → (s.rd OMB_CFG.DOMAIN k = 255 ∨ s.dstate (s.rd OMB_CFG.DOMAIN k) = dON) →
    w.testBit 31 = true →
    Answers (.ombPost k (some w) ok) s (fun t => (t.omb k).queue = m :: q ∧ (t.omb k).full = true ∧
      ∃ ns, t.emit = [.hostRead (s.ombAddr k + 60) ns 4])) ∧
  (∀ (k : Nat) (ok : Bool) (m : OmbMsg) (q : List OmbMsg) (s : State), k < 8 → (s.omb k).queue = m :: q →
    (s.omb k).tried ≠ some s.tick →
    Answers (.ombPost k none ok) s (fun t => (t.omb k).queue = q ∧
      t.rd OMB_STAT.DOMOFF k = (s.rd OMB_STAT.DOMOFF k + 1) % 2 ^ OMB_STAT.DOMOFF.width)) ∧
  (∀ (w : Nat) (s : State), s.mg.retired.any Retired.awaits = true → (s.omb 0).polled + 1000 ≤ s.tick → s.holdover = false →
    Answers (.fencePoll 0 (some w)) s (fun t => (t.omb 0).polled = s.tick ∧
      ∀ r ∈ s.mg.retired, ∀ q, r.oseq = some q → r.fenced = none → (bits 15 4 w + 4096 - q) % 4096 < 2048 →
        ∃ r' ∈ t.mg.retired, r'.core = r.core ∧ r'.fenced = some s.tick)) ∧
  (∀ s : State, s.holdover = false →
    Answers .fenceWaitExpiry s (fun t => ∀ r ∈ s.mg.retired, ∀ a, r.posted = some a → r.fenced = none →
      a + 1000 * max 1 (s.inf MG_SUS_CFG.FENCE_WAIT) ≤ s.tick →
        ∃ r' ∈ t.mg.retired, r'.core = r.core ∧ r'.fenced = some s.tick))

/-- O45.  Heartbeats and the ladder (R285, R286, R291, R293, R294, R296): a miss is counted, the second opens NOTICE; NOTICE_MS
later the die step; steps end, and no heartbeat within BOOT_MS of a die step is the power step. -/
def Obligations.EscalationLadder : Prop :=
  (∀ s : State, s.rd RC_STAT.HB_ARMED = 1 → s.rc.missAt + 1000 * s.inf RC_CFG.HB_MS ≤ s.tick →
    Answers .hbMiss s (fun t => t.rd RC_STAT.MISSES = min 3 (s.rd RC_STAT.MISSES + 1) % 2 ^ RC_STAT.MISSES.width ∧
      t.rd RC_EVT.HB_MISS = 1 ∧ t.rc.missAt = s.rc.missAt + 1000 * s.inf RC_CFG.HB_MS)) ∧
  (∀ s : State, s.rd RC_STAT.HB_ARMED = 1 → s.rc.missAt + 1000 * s.inf RC_CFG.HB_MS ≤ s.tick → s.rd RC_STAT.MISSES = 1 →
    s.ladder = lIDLE →
    Answers .hbMiss s (fun t => t.ladder = lNOTICE ∧ t.rc.noticeAt = s.tick ∧ t.rd RC_EVT.LADDER_OPEN = 1)) ∧
  (∀ s : State, s.ladder = lNOTICE → s.rc.noticeAt + 1000 * s.inf RC_CFG.NOTICE_MS ≤ s.tick →
    (s.rc.dieAt.filter (fun a => decide (s.tick < a + 600000000))).length + 1 ≤ s.inf RC_CFG2.DIE_MAX →
    Answers .noticeExpiry s (fun t => t.ladder = lDIE ∧ t.rd RC_EVT.STEP_START = 1 ∧ t.rd RC_STAT.HB_ARMED = 0 ∧
      t.rd RC_CNT.DIE = (s.rd RC_CNT.DIE + 1) % 2 ^ RC_CNT.DIE.width)) ∧
  (∀ s : State, s.ladder = lNOTICE → s.rc.noticeAt + 1000 * s.inf RC_CFG.NOTICE_MS ≤ s.tick →
    s.inf RC_CFG2.DIE_MAX < (s.rc.dieAt.filter (fun a => decide (s.tick < a + 600000000))).length + 1 →
    Answers .noticeExpiry s (fun t => t.ladder = lPOWER)) ∧
  (∀ (x : Step) (s : State), s.rc.step = some x → x.part.isSome = true → x.restored s (fun _ => true) = true →
    Answers .partitionStepDone s (fun t => t.rc.step = none ∧ t.rd RC_EVT.STEP_DONE = 1 ∧
      t.ladder = if s.rc.missed = true then lNOTICE else lIDLE)) ∧
  (∀ (x : Step) (s : State), s.rc.step = some x → x.part = none → x.cleared = true → x.kind = 4 →
    (x.restore.filter isCluster).all s.onForTick = true →
    Answers .dieStepDone s (fun t => t.rc.step = none ∧ t.ladder = lBOOT ∧ t.rc.bootAt = s.tick ∧
      t.rd RC_EVT.STEP_DONE = 1)) ∧
  (∀ s : State, s.ladder = lBOOT → s.rc.bootAt + 1000 * s.inf RC_CFG.BOOT_MS ≤ s.tick →
    Answers .bootExpiry s (fun t => t.ladder = lPOWER ∧ t.rd RC_CNT.POWER = (s.rd RC_CNT.POWER + 1) % 2 ^ RC_CNT.POWER.width))

/-- O46.  The causes of a governor warm restart (R33, R187, R287, R288, R300), and the watchdog's kick. -/
def Obligations.WarmRestartCauses : Prop :=
  (∀ s : State, s.holdover = false →
    Answers .wdogKick s (fun t => t.rc.wdog = true ∧ t.rc.kickAt = s.tick ∧ t.rd RC_WDOG.AGE = 0)) ∧
  (∀ s : State, s.rc.wdog = true → s.rc.kickAt + 2000 ≤ s.tick → Answers .wdogExpiry s (Restarted s)) ∧
  (∀ s : State, s.rd ENG_STAT.STATE = 2 → s.eng.faultAt + 1000 * s.inf RC_CFG2.ENG_MS ≤ s.tick →
    Answers .engFaultTimeout s (Restarted s)) ∧
  (∀ s : State, 3 ≤ (s.cad.fwOvr.filter (fun a => decide (s.tick < a + 1000))).length →
    Answers .hubFaultEsc s (fun t => Restarted s t ∧ t.rd CAD_EVT.HUB_FAULT_ESC = 1)) ∧
  (∀ s : State, 3 ≤ (s.cad.engOvr.filter (fun a => decide (s.tick < a + 1000))).length →
    Answers .hubFaultEsc s (fun t => Restarted s t ∧ t.rd CAD_EVT.HUB_FAULT_ESC = 1)) ∧
  (∀ s : State, s.rc.rstLow = false → Answers .govRstNFall s (fun t => Restarted s t ∧ t.rc.rstLow = true)) ∧
  (∀ s : State, Answers .govRstNRise s (fun t => t.rc.rstLow = false))

/-! ### Firmware slots (chapter 16) -/

/-- The bytes an ended firmware load gives (R401): those its reads delivered, as many as it asked for, or the staged ones. -/
def loadedBytes (s : State) (o : Outstanding) (src : Nat) (f : Option (List Nat)) : Option (List Nat) :=
  if src = 1 then some ((s.slot (1 - s.rd FW_STAT.ACTIVE)).first (min o.loadBytes 262144)) else f.map (List.take o.loadBytes)

/-- An image load of KIND `kind` for set `set` ends without a refusal, and the checks of R399 on its bytes answer `ok`. -/
def ImageEnds (s : State) (o : Outstanding) (kind set src : Nat) (f : ImageFile) (ok : Bool) : Prop :=
  s.imgLoadOut = some (o, kind, set, src) ∧ s.holdover = false ∧ s.imgRefusal kind set src = none ∧
    s.tableOk kind set { f with bytes := if src = 1 then (s.slot (1 - s.rd FW_STAT.ACTIVE)).first (min o.loadBytes 262144)
                                         else f.bytes.take o.loadBytes } = ok

/-- O47.  Loads, switches and first publications (R16, R300, R349, R400 to R404, R409): what each leaves in the slots, in the
status, in the banks and images and in the events; READY is driven at the first publication if the cadence is locked,
and owed until it is. -/
def Obligations.FirmwareSlots : Prop :=
  (∀ s : State, s.fw.entered = true → s.rd RC_STAT.HOLDOVER = 1 → s.rc.rstLow = false → s.rc.storm = false →
    s.rd FW_STAT.NO_FW ≠ 1 →
    Answers .firstPublication s (fun t => t.rd RC_STAT.HOLDOVER = 0 ∧ t.rd RC_EVT.WARM_RESTART = 1 ∧ t.fw.published = true ∧
      (s.rd CAD_STAT.LOCKED = 1 → t.rd GSTAT.READY = 1 ∧ .ready ∈ t.emit) ∧
      (s.rd CAD_STAT.LOCKED ≠ 1 → t.rd GSTAT.READY = s.rd GSTAT.READY ∧ t.fw.readyOwed = true ∧ .ready ∉ t.emit))) ∧
  (∀ s : State, s.fw.entered = true → s.rd RC_STAT.HOLDOVER ≠ 1 → s.rd FW_STAT.TENTATIVE = 1 →
    Answers .firstPublication s (fun t => t.rd FW_STAT.TENTATIVE = 0 ∧ t.rd FW_EVT.SW_DONE = 1 ∧
      t.rd FW_STAT.ACTIVE = s.rd FW_STAT.ACTIVE)) ∧
  (∀ (e : QEvent) (s : State), firstDue s.cad.queue = some e → e.act = .switch → s.slotState (1 - s.rd FW_STAT.ACTIVE) = 2 →
    Answers .fwSwitchover s (fun t => t.rd FW_STAT.ACTIVE = 1 - s.rd FW_STAT.ACTIVE ∧ t.rd FW_STAT.TENTATIVE = 1 ∧
      t.rd FW_STAT.SW_PEND = 0 ∧ t.eng.staged = none ∧ t.eng.pub = s.eng.pub ∧ t.fw.switchAt = s.tick)) ∧
  (∀ s : State, s.rd FW_STAT.TENTATIVE = 1 → s.fw.switchAt + max 16 (s.inf FW_CTRL.SW_MAX) ≤ s.tick →
    Answers .swFail s (fun t => Restarted s t ∧ t.rd FW_EVT.SW_FAIL = 1)) ∧
  (∀ (o : Outstanding) (src : Nat) (f : Option (List Nat)) (b : List Nat) (s : State), s.fwLoadOut = some (o, src) →
    (s.holdover = false ∨ s.waitsForFw = true) → loadedBytes s o src f = some b → s.loadStatus o.inst (some b) = stOK →
    Answers (.fwLoadDone f) s (fun t => t.slotState (1 - s.rd FW_STAT.ACTIVE) = 2 ∧
      t.slotGen (1 - s.rd FW_STAT.ACTIVE) = imageGen b % 65536)) ∧
  (∀ (o : Outstanding) (src : Nat) (f : Option (List Nat)) (s : State), s.fwLoadOut = some (o, src) →
    (s.holdover = false ∨ s.waitsForFw = true) → s.loadStatus o.inst (loadedBytes s o src f) ≠ stOK →
    Answers (.fwLoadDone f) s (fun t => t.slotState (1 - s.rd FW_STAT.ACTIVE) = 0)) ∧
  (∀ (o : Outstanding) (kind set src : Nat) (f : ImageFile) (m : MarginImage) (s : State), ImageEnds s o kind set src f true →
    f.body = .margin m → Answers (.imgLoadDone (some f)) s (fun t => t.mg.image = some m)) ∧
  (∀ (o : Outstanding) (kind set src : Nat) (f : ImageFile) (b : BudgetImage) (s : State), ImageEnds s o kind set src f true →
    f.body = .budget b → Answers (.imgLoadDone (some f)) s (fun t => t.bg.image = some b)) ∧
  (∀ (o : Outstanding) (kind set src id : Nat) (f : ImageFile) (l : List (Nat × Nat)) (ts : List (Nat × List Int)) (s : State),
    ImageEnds s o kind set src f true → f.body = .thermal id l ts →
    Answers (.imgLoadDone (some f)) s (fun t => t.th.imageId = id)) ∧
  (∀ (o : Outstanding) (kind set src : Nat) (f : ImageFile) (m : ModelImage) (s : State), ImageEnds s o kind set src f true →
    f.body = .model m → s.rd CAD_STAT.LOCKED = 1 → s.evqFill < 64 →
    Answers (.imgLoadDone (some f)) s (fun t => t.em.next = some m ∧ t.em.image = s.em.image ∧
      ∃ e ∈ t.cad.queue, e.act = .model ∧ e.target = s.tick + 1)) ∧
  (∀ (o : Outstanding) (kind set src cyc : Nat) (f : ImageFile) (e : EngImage) (s : State), ImageEnds s o kind set src f true →
    f.body = .engine e → engCheck e = some cyc → f.readBack = true →
    Answers (.imgLoadDone (some f)) s (fun t => t.rd ENG_STAT.INACT_VALID = 1 ∧
      t.bankOf (1 - s.rd ENG_STAT.BANK) = engBank e cyc)) ∧
  (∀ (o : Outstanding) (kind set src : Nat) (f : ImageFile) (e : EngImage) (s : State), ImageEnds s o kind set src f true →
    f.body = .engine e → (engCheck e = none ∨ f.readBack = false) →
    Answers (.imgLoadDone (some f)) s (fun t => t.rd ENG_STAT.INACT_VALID = 0 ∧ t.rd ENG_EVT.IMG_REJ = 1)) ∧
  (∀ (o : Outstanding) (kind set src : Nat) (f : ImageFile) (s : State), ImageEnds s o kind set src f false →
    Answers (.imgLoadDone (some f)) s (fun t => t.rd FW_EVT.LOAD_REJ = 1 ∧ t.mg.image = s.mg.image ∧
      t.bg.image = s.bg.image ∧ t.em.next = s.em.next ∧ t.rd ENG_STAT.INACT_VALID = s.rd ENG_STAT.INACT_VALID))

/-! ### The sealed meter (chapter 12) -/

/-- O48.  What the meter measures (R309, R311, R312, R314, R315): a sample adds the power of its calibrated readings to E_IN; a
window compares the pairs; the end of a millisecond publishes ten words whose last is the CRC; a checkpoint goes into
the slot that does not hold the newest, as 16 partition records and a die record, each closed by its CRC. -/
def Obligations.MeterMeasures : Prop :=
  (∀ (m : MeterIn) (s : State), s.mtr.alive = true →
    Answers (.meterSample m) s (fun t => t.mtr.samples = s.mtr.samples + 1 ∧ t.mtr.temp = m.temp ∧
      (s.mtr.cal.item 8 ≠ 0 → t.mtr.acc = s.mtr.acc + (s.mtr.cal.volts 0 m.v0 * s.mtr.cal.amps 0 m.i0 +
        s.mtr.cal.volts 1 m.v1 * s.mtr.cal.amps 1 m.i1)))) ∧
  (∀ (crc : Nat) (s : State), s.mtr.alive = true → 4000 ≤ s.mtr.winN →
    Answers (.meterWindow crc) s (fun t => t.mtr.winN = 0 ∧ t.mtr.e0 = 0 ∧ t.mtr.e1 = 0 ∧ t.mtr.romCrc = crc ∧
      (t.mtr.faulted = true ↔
        max (max s.mtr.e0 s.mtr.e1) 480000000000000000 < 500 * ((s.mtr.e0 - s.mtr.e1).natAbs : Int)) ∧
      (crc ≠ 0x3C7A1E95 → t.mtr.st = 4))) ∧
  (∀ (crc : Nat) (s : State), s.mtr.st = 2 → 4000 ≤ s.mtr.winN → s.mtr.disagrees = true → crc = 0x3C7A1E95 →
    Answers (.meterWindow crc) s (fun t => t.mtr.st = 3)) ∧
  (∀ (crc : Nat) (s : State), s.mtr.st = 3 → 4000 ≤ s.mtr.winN → s.mtr.disagrees = false → 9 ≤ s.mtr.agree →
    crc = 0x3C7A1E95 → Answers (.meterWindow crc) s (fun t => t.mtr.st = 2)) ∧
  (∀ s : State, s.mtr.alive = true → 4 ≤ s.mtr.msN →
    Answers .meterPublish s (fun t => t.mtr.pseq = (s.mtr.pseq + 1) % 2 ^ 32 ∧ t.mtr.mtime = s.mtr.mtime + 1 ∧
      t.mtr.msN = 0 ∧ ∃ ws, t.emit = [.publish ws] ∧ ws.length = 10 ∧ at0 ws 0 = t.mtr.pseq ∧
        at0 ws 1 + at0 ws 2 * 2 ^ 32 = s.mtr.eIn ∧ at0 ws 8 = s.mtr.serial ∧
        at0 ws 9 = crc32 (wordsLE (ws.take 9)))) ∧
  (∀ s : State, s.mtr.alive = true → s.mtr.pfw = false → s.mtr.samples % 400 = 0 → s.mtr.ckN ≠ 0 → s.mtr.window = true →
    Answers .meterCheckpoint s (fun t => t.mtr.cseq = (s.mtr.cseq + 1) % 2 ^ 32 ∧ t.mtr.ckN = 0 ∧
      t.mtr.ckLast = 1 - s.mtr.ckLast ∧
      (∀ r, (r < slotBase t.mtr.ckLast ∨ slotBase t.mtr.ckLast + 16 < r) → t.mtr.journal.bytes r = s.mtr.journal.bytes r) ∧
      ∃ c : Ckpt, c.cseq = t.mtr.cseq ∧ c.eIn = s.mtr.eIn ∧ c.mtime = s.mtr.mtime ∧ c.pfw = false ∧
        t.mtr.journal.bytes (slotBase t.mtr.ckLast + 16) = sealRecord c.dieBytes ∧
        ∀ q < 16, t.mtr.journal.bytes (slotBase t.mtr.ckLast + q) = sealRecord (c.partBytes q))) ∧
  (∀ s : State, s.mtr.alive = true → s.mtr.pfw = false → s.mtr.samples % 400 = 0 → s.mtr.ckN ≠ 0 → s.mtr.window = false →
    Answers .meterCheckpoint s (fun t => t.mtr.journal = s.mtr.journal ∧ t.mtr.captured.isSome = true))

/-- O49.  Power and seal (R316 to R320): PFW mode, the loss of VMTR, power-up with the newest complete state, seal breaks, and
the journal's temperature window. -/
def Obligations.MeterPowerAndSeal : Prop :=
  (∀ s : State, s.mtr.alive = true → s.mtr.pfw = false → Answers .pfw s (fun t => t.mtr.pfw = true ∧ t.mtr.acc = s.mtr.acc)) ∧
  (∀ s : State, Answers .pfwEnd s (fun t => t.mtr.pfw = false ∧ t.mtr.acc = s.mtr.acc)) ∧
  (∀ s : State, s.mtr.alive = true →
    Answers (.vmtrLoss none) s (fun t => t.mtr.alive = false ∧ t.mtr.serial = s.mtr.serial ∧
      t.mtr.journal = s.mtr.journal)) ∧
  (∀ (k n r : Nat) (old new : List Nat) (s : State), s.mtr.alive = true → s.mtr.writes = [(r, old, new)] → k = 0 →
    Answers (.vmtrLoss (some (k, n))) s (fun t => t.mtr.alive = false ∧ t.mtr.serial = s.mtr.serial ∧
      t.mtr.journal.bytes r = new.take n ++ old.drop n ∧
      ∀ q, q ≠ r → t.mtr.journal.bytes q = s.mtr.journal.bytes q)) ∧
  (∀ (crc : Nat) (s : State), s.mtr.alive = false → s.mtr.journal.header = none →
    Answers (.meterPowerUp crc none) s (fun t => t.mtr.romCrc = crc ∧
      t.mtr.st = if crc = 0x3C7A1E95 then 1 else 4)) ∧
  (∀ (h : Nat) (s : State), s.mtr.alive = false → s.mtr.journal.header = some h → h ≠ s.mtr.serial →
    Answers (.meterPowerUp 0x3C7A1E95 none) s (fun t => t.mtr.st = 1 ∧
      t.mtr.breaks = min (s.mtr.journal.breaks + 1) 0xFFFFFFFF)) ∧
  (∀ (c : Ckpt) (tail : Bool) (s : State), s.mtr.alive = false → s.mtr.journal.header = some s.mtr.serial →
    s.mtr.journal.restore = some (c, tail) → s.mtr.journal.cal.isSome = true →
    Answers (.meterPowerUp 0x3C7A1E95 none) s (fun t => t.mtr.st = 2 ∧ t.mtr.acc = (c.eIn : Int) * 8000000000 ∧
      t.mtr.mtime = c.mtime ∧ t.mtr.cseq = c.cseq ∧ t.mtr.unatt = c.unatt ∧
      (t.mtr.gapLeft ≠ 0 ↔ c.pfw = false ∧ tail = false))) ∧
  (∀ s : State, s.mtr.alive = true → s.mtr.sealOpen = false →
    Answers .sealBreak s (fun t => t.mtr.sealOpen = true ∧ t.mtr.breaks = min (s.mtr.breaks + 1) 0xFFFFFFFF)) ∧
  (∀ s : State, Answers .sealRestore s (fun t => t.mtr.sealOpen = false ∧ t.mtr.breaks = s.mtr.breaks)) ∧
  (∀ s : State, s.mtr.alive = true → s.mtr.window = true → (s.mtr.temp < 16 ∨ 1344 < s.mtr.temp) →
    Answers .inhibitEntry s (fun t => t.mtr.window = false ∧ t.mtr.ringNext = (s.mtr.ringNext + 1) % 2 ^ 32 ∧
      ∃ e : JEvent, e.type = 7 ∧ e.seq = s.mtr.ringNext ∧ e.mtime = s.mtr.mtime ∧
        t.mtr.journal.bytes (ringRecord s.mtr.ringNext) = sealRecord e.bytes)) ∧
  (∀ s : State, s.mtr.alive = true → s.mtr.window = false → 32 ≤ s.mtr.temp → s.mtr.temp ≤ 1328 →
    Answers .inhibitExit s (fun t => t.mtr.window = true ∧ t.mtr.waiting = [] ∧ t.mtr.captured = none))

/-- O50.  Shares and the mirror (R313, R324, R325): the class-3 event buffers a record of at most four; the meter handles the
oldest new one; a publication with a good CRC is taken, one with a bad CRC counted; 1,100 ticks without one raise MISSING. -/
def Obligations.SharesAndMirror : Prop :=
  (∀ (e : QEvent) (b : Nat) (s : State), firstDue s.cad.queue = some e → e.act = .share → s.mir.shown = true → s.mir.boot = some b →
    Answers .shareCheckpoint s (fun t => t.mir.ckseq = (s.mir.ckseq + 1) % 2 ^ 16 ∧ t.mir.buffer.length ≤ 4 ∧
      t.bg.breach = [] ∧ ∃ r, t.mir.buffer.getLast? = some r ∧ r.boot = b ∧ r.ckseq = s.mir.ckseq ∧ r.tick = s.tick ∧ r.crc = r.crcOf ∧
        r.dDie = (s.rd EM_EDIE.EDIE + 2 ^ 64 - s.mir.eDie) % 2 ^ 64)) ∧
  (∀ (r : ShareRec) (s : State), s.mtr.alive = true → s.mir.buffer.find? s.mtr.newRecord = some r →
    r.crc = r.crcOf →
    Answers .shareRecord s (fun t => t.mtr.ckseqLast = r.ckseq ∧ t.mtr.bootLast = r.boot)) ∧
  (∀ (r : ShareRec) (s : State), s.mir.buffer.find? s.mtr.newRecord = some r → r.crc ≠ r.crcOf →
    Answers .shareRecord s (fun t => t = s.quiet)) ∧
  (∀ (ws : List Nat) (s : State), ws.length = 10 → at0 ws 9 = crc32 (wordsLE (ws.take 9)) →
    Answers (.publication ws) s (fun t => t.mir.next = some ws ∧ t.mir.lastGood = some s.tick ∧ t.mir.missed = 0)) ∧
  (∀ (ws : List Nat) (s : State), (ws.length ≠ 10 ∨ at0 ws 9 ≠ crc32 (wordsLE (ws.take 9))) →
    Answers (.publication ws) s (fun t => t.mir = s.mir ∧
      t.rd MTR_MISS.CRC = (s.rd MTR_MISS.CRC + 1) % 2 ^ MTR_MISS.CRC.width)) ∧
  (∀ s : State, s.mir.lastGood.getD 0 + 1100 + 1000 * s.mir.missed ≤ s.tick →
    Answers .publicationMissing s (fun t => t.rd MTR_STAT.MISSING = 1 ∧ t.rd MTR_EVT.MISSING = 1 ∧
      t.rd MTR_MISS.MISSING = (s.rd MTR_MISS.MISSING + 1) % 2 ^ MTR_MISS.MISSING.width))

/-- O51.  The meter port (R320 to R323, R352): reads answer from the meter's own state; calibration writes are LOCKED while the
seal is closed and take their place while it is open; two packets in one run of bytes are answered in their order; a gap
discards a partial packet. -/
def Obligations.MeterPort : Prop :=
  (∀ s : State, Answers .meterPortByteGap s (fun t => t.mtr.rx = [] ∧ t.mtr.acc = s.mtr.acc)) ∧
  (∀ (bs ps : List Nat) (h : Nat) (s : State), PortPacket s bs 0xA0 h ps →
    Answers (.meterIdent (some bs)) s (fun t => PortReply t h stOK
      [s.mtr.serial, s.mtr.romCrc, min s.mtr.breaks 0xFFFF * 2 ^ 16 + s.mtr.calGen % 2 ^ 16, s.mtr.st - 1])) ∧
  (∀ (bs ps : List Nat) (h : Nat) (s : State), PortPacket s bs 0xA1 h ps →
    Answers (.meterRead (some bs)) s (fun t => PortReply t h stOK
      [s.mtr.mtime % 2 ^ 32, s.mtr.mtime / 2 ^ 32, s.mtr.eIn % 2 ^ 32, s.mtr.eIn / 2 ^ 32, s.mtr.meanV,
       s.mtr.meanI * 2 ^ 16 + s.mtr.meanP, s.mtr.flags])) ∧
  (∀ (bs ps : List Nat) (h : Nat) (s : State), PortPacket s bs 0xA2 h ps → at0 ps 0 = 32 →
    Answers (.meterAccount (some bs)) s (fun t => PortReply t h stOK
      [s.mtr.unatt % 2 ^ 32, s.mtr.unatt / 2 ^ 32, 0, 0, 0])) ∧
  (∀ (bs ps : List Nat) (h : Nat) (s : State), PortPacket s bs 0xA2 h ps → 32 < at0 ps 0 →
    Answers (.meterAccount (some bs)) s (fun t => PortReply t h stBADPARAM [])) ∧
  (∀ (bs ps : List Nat) (h : Nat) (s : State), PortPacket s bs 0xA2 h ps → at0 ps 0 < 32 →
    Answers (.meterAccount (some bs)) s (fun t => ∃ ws, PortReply t h stOK ws ∧
      at0 ws 0 = (Table.get {} s.mtr.accts (at0 ps 0)).energy % 2 ^ 32 ∧
      at0 ws 1 = (Table.get {} s.mtr.accts (at0 ps 0)).energy / 2 ^ 32)) ∧
  (∀ (bs ps : List Nat) (h : Nat) (e : JEvent) (s : State), PortPacket s bs 0xA3 h ps → at0 ps 0 < 1984 →
    s.mtr.eventAt (at0 ps 0) = some e →
    Answers (.meterEvent (some bs)) s (fun t => PortReply t h stOK
      [e.seq, e.type, e.mtime % 2 ^ 32, e.mtime / 2 ^ 32 % 2 ^ 32, e.cseq, e.data0, e.data1, e.data2])) ∧
  (∀ (bs ps : List Nat) (h : Nat) (s : State), PortPacket s bs 0xA8 h ps → s.mtr.sealOpen = true → at0 ps 0 ≤ 8 →
    Answers (.calWrite (some bs)) s (fun t => PortReply t h stOK [] ∧
      Table.get 0 t.mtr.staged.items (at0 ps 0) = at0 ps 1 ∧ t.mtr.cal = s.mtr.cal)) ∧
  (∀ (bs ps : List Nat) (h : Nat) (s : State), PortPacket s bs 0xA8 h ps → s.mtr.sealOpen = false →
    Answers (.calWrite (some bs)) s (fun t => PortReply t h stLOCKED [] ∧ t.mtr.staged = s.mtr.staged)) ∧
  (∀ (bs ps : List Nat) (h : Nat) (s : State), PortPacket s bs 0xA9 h ps → s.mtr.sealOpen = true → s.mtr.serial ≠ 0 →
    Answers (.calCommit (some bs)) s (fun t => t.mtr.rx = [] ∧
      t.emit.getLast? = some (portReply h stOK [(s.mtr.calGen + 1) % 2 ^ 16]) ∧
      t.mtr.calGen = (s.mtr.calGen + 1) % 2 ^ 16 ∧ t.mtr.commit = some s.mtr.staged)) ∧
  (∀ (bs ps : List Nat) (h : Nat) (s : State), PortPacket s bs 0xA9 h ps → s.mtr.sealOpen = true → s.mtr.serial = 0 →
    Answers (.calCommit (some bs)) s (fun t => PortReply t h stCONFLICT [] ∧ t.mtr.calGen = s.mtr.calGen)) ∧
  (∀ (bs ps : List Nat) (h : Nat) (s : State), PortPacket s bs 0xAA h ps → s.mtr.sealOpen = true → s.mtr.serial = 0 →
    at0 ps 0 ≠ 0 →
    Answers (.setSerial (some bs)) s (fun t => PortReply t h stOK [] ∧ t.mtr.serial = at0 ps 0)) ∧
  (∀ (bs ps : List Nat) (h : Nat) (s : State), PortPacket s bs 0xAB h ps → s.mtr.sealOpen = true → 10 ≤ at0 ps 0 →
    at0 ps 0 ≤ 250 →
    Answers (.setTol (some bs)) s (fun t => PortReply t h stOK [] ∧ t.mtr.staged.tol = at0 ps 0)) ∧
  (∀ (bs r ps qs : List Nat) (h k : Nat) (s : State), s.mtr.alive = true → Framed (s.mtr.rx ++ bs) 0xA0 h ps r →
    Framed r 0xA0 k qs [] →
    Answers (.meterIdent (some bs)) s (fun t => t.mtr.rx = [] ∧ t.emit = [portReply h stOK
      [s.mtr.serial, s.mtr.romCrc, min s.mtr.breaks 0xFFFF * 2 ^ 16 + s.mtr.calGen % 2 ^ 16, s.mtr.st - 1],
      portReply k stOK
      [s.mtr.serial, s.mtr.romCrc, min s.mtr.breaks 0xFFFF * 2 ^ 16 + s.mtr.calGen % 2 ^ 16, s.mtr.st - 1]]))

/-! ### The configuration port (chapters 14 and 15) -/

/-- O52.  Mailboxes, rings and transport written through the port (R359 to R363, R369 to R371). -/
def Obligations.MailboxAndRingRegisters : Prop :=
  (∀ (n : Nat) (a : Access) (s : State), n < 16 → Secure a → s.rd MB_CTL.ACTIVE n = 1 → s.rd MB_CTL.GO n ≠ 1 →
    s.rd MB_CTL.FETCH n ≠ 1 →
    Answers (.go n a) s (fun t => t.rd MB_CTL.GO n = 1 ∧ t.rd MB_CTL.RDY n = 0 ∧
      (a.also = none → t.emit = [.busWrite true]))) ∧
  (∀ (n : Nat) (a : Access) (s : State), n < 16 → Secure a → s.rd MB_CTL.ACTIVE n = 1 →
    (s.rd MB_CTL.GO n = 1 ∨ s.rd MB_CTL.FETCH n = 1) →
    Answers (.go n a) s (fun t => t.rd MB_CTL.GO n = s.rd MB_CTL.GO n ∧ t.rd MB_CTL.BUSY n = 1)) ∧
  (∀ (n : Nat) (a : Access) (s : State), n < 16 → Secure a → (s.rd MB_CTL.GO n = 1 ∨ s.rd MB_CTL.FETCH n = 1) →
    Answers (.fetch n a) s (fun t => t.mbReplies n = s.mbReplies n ∧ t.rd MB_CTL.BUSY n = 1)) ∧
  (∀ (n : Nat) (a : Access) (s : State), n < 16 → Secure a → s.rd MB_CTL.ACTIVE n ≠ 1 →
    Answers (.go n a) s (fun t => t.rd MB_CTL.WIGN n = 1 ∧ t.rd MB_CTL.GO n = s.rd MB_CTL.GO n)) ∧
  (∀ (n : Nat) (r : Reply) (q : List Reply) (a : Access) (s : State), n < 16 → Secure a → s.rd MB_CTL.GO n ≠ 1 →
    s.rd MB_CTL.FETCH n ≠ 1 → s.mbReplies n = r :: q →
    Answers (.fetch n a) s (fun t => t.rd MB_CTL.RDY n = 1 ∧ t.mbReplies n = q ∧
      t.rd MB_CTL.RQ n = q.length % 2 ^ MB_CTL.RQ.width ∧
      ∀ i < 15, t.rd MB_D.DATA (16 * n + i) = at0 (r.hdr :: r.words) i % 2 ^ 32)) ∧
  (∀ (n : Nat) (a : Access) (s : State), n < 16 → Secure a → s.rd MB_CTL.GO n ≠ 1 → s.rd MB_CTL.FETCH n ≠ 1 →
    s.mbReplies n = [] →
    Answers (.fetch n a) s (fun t => t.rd MB_CTL.RDY n = 0)) ∧
  (∀ (r v : Nat) (a : Access) (s : State), r < 15 → Secure a →
    (v % 65536 + 65536 - s.rd RING_SQ.TAIL r) % 65536 ≤ s.ringSize r - s.sqFill r →
    Answers (.sqTailWrite r v a) s (fun t => t.rd RING_SQ.TAIL r = v % 65536)) ∧
  (∀ (r v : Nat) (a : Access) (s : State), r < 15 → Secure a →
    s.ringSize r - s.sqFill r < (v % 65536 + 65536 - s.rd RING_SQ.TAIL r) % 65536 →
    Answers (.sqTailWrite r v a) s (fun t => t.rd RING_SQ.TAIL r = s.rd RING_SQ.TAIL r ∧ t.rd RING_STAT.TAIL_ERR r = 1)) ∧
  (∀ (r v : Nat) (a : Access) (s : State), r < 15 → Secure a →
    (v % 65536 + 65536 - s.rd RING_CQ.HEAD r) % 65536 ≤ s.cqFill r →
    Answers (.cqHeadWrite r v a) s (fun t => t.rd RING_CQ.HEAD r = v % 65536)) ∧
  (∀ (r v : Nat) (a : Access) (s : State), r < 15 → Secure a →
    s.cqFill r < (v % 65536 + 65536 - s.rd RING_CQ.HEAD r) % 65536 →
    Answers (.cqHeadWrite r v a) s (fun t => t.rd RING_CQ.HEAD r = s.rd RING_CQ.HEAD r ∧ t.rd RING_STAT.HEAD_ERR r = 1)) ∧
  (∀ (r v : Nat) (a : Access) (s : State), r < 15 → Secure a → s.rd RING_CFG.EN r ≠ 1 →
    Answers (.ringEnable r v a) s (fun t => t.rd RING_CFG.EN r = 1 ∧ t.rd RING_SQ.TAIL r = 0 ∧ t.rd RING_SQ.HEAD r = 0 ∧
      t.rd RING_CQ.TAIL r = 0 ∧ t.rd RING_CQ.HEAD r = 0 ∧ t.rd RING_STAT.OWED r = 0 ∧
      t.rd RING_CFG.LOG2SZ r = max 3 (min 12 (bits 19 16 v)) ∧ t.rd RING_CFG.SEC r = v / 2 ^ 30 % 2)) ∧
  (∀ (r v : Nat) (a : Access) (s : State), r < 15 → Secure a → s.rd RING_CFG.EN r = 1 →
    Answers (.ringDisable r v a) s (fun t => t.rd RING_CFG.EN r = 0 ∧ t.rd RING_STAT.OWED r = 0 ∧ t.ringOut r = [] ∧
      t.rd RING_CNT.LOST r = (s.rd RING_CNT.LOST r + s.rd RING_STAT.OWED r) % 2 ^ RING_CNT.LOST.width)) ∧
  (∀ (v : Nat) (a : Access) (s : State), Secure a → s.locks.transport = false → v % 4 = 1 ∨ v % 4 = 2 →
    Answers (.transportMode v a) s (fun t => t.rd TRANSPORT.MODE = v % 4 ∧
      t.rd TRANSPORT.IN_FORCE = s.rd TRANSPORT.IN_FORCE)) ∧
  (∀ (v : Nat) (a : Access) (s : State), Secure a → s.locks.transport = true →
    Answers (.transportMode v a) s (fun t => t.rd TRANSPORT.MODE = s.rd TRANSPORT.MODE ∧ t.rd GSTAT.LOCK_IGN = 1))

/-- O53.  Locks, permissions and requests written through the port (R118, R114, R150, R189, R285, R290, R337, R355 to R357, R389,
R394, R407, R412). -/
def Obligations.LocksAndRequests : Prop :=
  (∀ (a : Access) (s : State), Secure a →
    Answers (.lockCfg a) s (fun t => t.locks = { s.locks with cfg := true } ∧
      (a.also = none → t = { s with emit := [.busWrite true], locks := t.locks })) ∧
    Answers (.lockPerm a) s (fun t => t.locks = { s.locks with perm := true } ∧
      (a.also = none → t = { s with emit := [.busWrite true], locks := t.locks })) ∧
    Answers (.lockTransport a) s (fun t => t.locks = { s.locks with transport := true } ∧
      (a.also = none → t = { s with emit := [.busWrite true], locks := t.locks })) ∧
    Answers (.lockFw a) s (fun t => t.locks = { s.locks with fw := true } ∧
      (a.also = none → t = { s with emit := [.busWrite true], locks := t.locks })) ∧
    Answers (.lockDiag a) s (fun t => t.locks = { s.locks with diag := true } ∧
      (a.also = none → t = { s with emit := [.busWrite true], locks := t.locks }))) ∧
  (∀ (n v : Nat) (a : Access) (s : State), n < 256 → Secure a → s.locks.perm = false →
    Answers (.permEffWrite n v a) s (fun t => t.rd PERM.EFF n =
      Nat.land (fixedMask n) (Nat.lor (v % 32) (8 + if sFixed n then 4 else 0)))) ∧
  (∀ (n v : Nat) (a : Access) (s : State), n < 256 → Secure a → s.locks.perm = true →
    Answers (.permEffWrite n v a) s (fun t => t.rd PERM.EFF n = s.rd PERM.EFF n ∧ t.rd GSTAT.LOCK_IGN = 1)) ∧
  (∀ (a : Access) (s : State), Secure a → s.rd CAD_CTRL.PEAK_CLR ≠ 1 →
    Answers (.peakClr a) s (fun t => t.rd CAD_CTRL.PEAK_CLR = 1 ∧ t.rd GSTAT.GO_BUSY = s.rd GSTAT.GO_BUSY)) ∧
  (∀ (a : Access) (s : State), Secure a → s.rd CAD_CTRL.PEAK_CLR = 1 →
    Answers (.peakClr a) s (fun t => t.rd CAD_CTRL.PEAK_CLR = 1 ∧ t.rd GSTAT.GO_BUSY = 1)) ∧
  (∀ (v : Nat) (a : Access) (s : State), Secure a → s.rd EM_ATT_CTRL.CLR ≠ 1 →
    Answers (.emAttClr v a) s (fun t => t.rd EM_ATT_CTRL.CLR = 1 ∧ t.em.clrAll = (s.em.clrAll || v.testBit 30) ∧
      (v.testBit 30 = false → t.em.clrParts = bits 28 24 v :: s.em.clrParts))) ∧
  (∀ (v : Nat) (a : Access) (s : State), Secure a → Answers (.arm v a) s (fun t => t.rd ENG_TR_CTRL.ARM = 1)) ∧
  (∀ (a : Access) (s : State), Secure a →
    Answers (.rcClrErr a) s (fun t => t.rd RC_CLR.ERR = 1 ∧ t.rd GSTAT.GO_BUSY = s.rd GSTAT.GO_BUSY)) ∧
  (∀ (p : Nat) (a : Access) (s : State), p < 32 → Secure a → s.bit PWIN_EN.EN p = true → s.rd PW_STAT.PEND p ≠ 1 →
    Answers (.pwSnap p a) s (fun t => t.rd PW_CTRL.SNAP p = 1 ∧ t.rd PW_STAT.PEND p = 1)) ∧
  (∀ (v : Nat) (a : Access) (s : State), Secure a → Answers (.flush v a) s (fun t => t.rd LOG_CTRL.FLUSH = 1)) ∧
  (∀ (v : Nat) (a : Access) (s : State), Secure a → s.rd HS_CTRL.FROZEN ≠ 1 →
    Answers (.take v a) s (fun t => t.rd HS_CTRL.FROZEN = 1 ∧ t.rd FW_EVT.HSNAP = 1)) ∧
  (∀ (v : Nat) (a : Access) (s : State), Secure a → v.testBit 31 = false →
    Answers (.rearm v a) s (fun t => t.rd HS_CTRL.FROZEN = 0 ∧ t.rd HS_CTRL.MISSED = 0)) ∧
  (∀ (v : Nat) (a : Access) (s : State), Secure a → s.rc.hbCount ≠ some (v / 2 ^ 16 % 2 ^ RC_HB.COUNT.width) →
    Answers (.rcHb v a) s (fun t => t.rc.hbCount = some (v / 2 ^ 16 % 2 ^ RC_HB.COUNT.width) ∧ t.rc.hbAt = some s.tick ∧
      t.rc.missAt = s.tick ∧ t.rd RC_STAT.MISSES = 0 ∧ (s.ladder = lNOTICE → t.ladder = lIDLE))) ∧
  (∀ (v : Nat) (a : Access) (s : State), Secure a → s.rc.hbCount = some (v / 2 ^ 16 % 2 ^ RC_HB.COUNT.width) →
    Answers (.rcHb v a) s (fun t => t.rc = s.rc ∧
      t.rd RC_HB_CNT.REPEAT = (s.rd RC_HB_CNT.REPEAT + 1) % 2 ^ RC_HB_CNT.REPEAT.width)) ∧
  (∀ (a : Access) (s : State), Secure a → s.rd GL_CTRL.SSC_APPLY ≠ 1 → s.holdover = false →
    Answers (.sscApply a) s (fun t => ∀ n < 24, s.rd GL_CFG.PRESENT n = 1 →
      (s.up n = true → (t.lnk n).sscMember = true ∧ (t.lnk n).ssc = s.sscProfile n) ∧
      (s.up n = false → (t.lnk n).sscDue = true))) ∧
  (∀ (a : Access) (s : State), Secure a → s.rd GL_CTRL.RETRAIN ≠ 1 →
    Answers (.retrain a) s (fun t => ∀ n < 24, s.rd GL_CFG.PRESENT n = 1 → s.rd GL_STAT.LSTATE n = 4 →
      t.rd GL_STAT.LSTATE n = 1 ∧ (t.lnk n).training = true))

/-- O54.  Accesses (R378, R381 to R391): a refused access answers an error and is counted; a read in the hub cycle of a write sees
the write, and a new access error in that cycle wins over the write that clears ACCESS_ERR and keeps the capture held; a writable pair is staged by its low word and
written by its high word; a read pair answers its high half from the shadow; a plain field takes what is written, in its
range and unless a lock freezes it; a 1 clears an event bit. -/
def Obligations.PortAccesses : Prop :=
  (∀ (off v c : Nat) (a : Access) (s : State), s.accessCause (accOf a) true off = some c →
    Answers (.registerWrite off v a) s (fun t => t.rd GSTAT.ACCESS_ERR = 1 ∧
      (a.also = none → t.emit = [.busWrite false] ∧
        t.rd ACC_ERR_INFO.COUNT = min (s.rd ACC_ERR_INFO.COUNT + 1) (2 ^ ACC_ERR_INFO.COUNT.width - 1)) ∧
      (s.rd GSTAT.ACCESS_ERR ≠ 1 → t.rd ACC_ERR_INFO.CAUSE = c % 2 ^ ACC_ERR_INFO.CAUSE.width ∧
        t.rd ACC_ERR_ADDR.ADDR = off % 2 ^ ACC_ERR_ADDR.ADDR.width))) ∧
  (∀ (off v o : Nat) (a : Access) (s u : State), exec (.registerWrite off v { a with also := none }) s = .next u →
    Answers (.registerWrite off v { a with also := some o }) s (fun t =>
      (u.accessCause (accOf a) false o = none → t.rd GSTAT.ACCESS_ERR = u.rd GSTAT.ACCESS_ERR ∧
        t.emit = u.emit ++ [.busRead (u.readWord (accOf a) o).1 true]) ∧
      (u.accessCause (accOf a) false o ≠ none → t.rd GSTAT.ACCESS_ERR = 1 ∧ t.emit = u.emit ++ [.busRead 0 false] ∧
        (s.rd GSTAT.ACCESS_ERR = 1 → t.rd ACC_ERR_ADDR.ADDR = u.rd ACC_ERR_ADDR.ADDR)))) ∧
  (∀ (off v r i : Nat) (hi : Bool) (d : RegDesc) (f : FieldDesc) (a : Access) (s : State),
    findReg off = some (d, r, hi) → d.off ∉ specialOffs → d.pair ≠ .wpair → d.fields = [f] → f.acc = .rw →
    f.insts r = [i] → s.lockedBy f.lock = false → (a.ns = false ∨ f.secOnly = false) →
    s.accessCause (accOf a) true off = none → a.strb ≠ 0 → roInst f.fld i = false →
    Answers (.registerWrite off v a) s (fun t => (a.also = none → t.emit = [.busWrite true]) ∧
      t.rd f.fld i = f.clamp (v % 2 ^ 32 / 2 ^ f.lsb d r i % 2 ^ f.fld.width) % 2 ^ f.fld.width)) ∧
  (∀ (v : Nat) (a : Access) (s : State), a.strb = 15 →
    Answers (.registerWrite 0x440 v a) s (fun t => t.rd DOM_CTRL.TELEM_MS = max 1 (min 100 (v % 128)) ∧
      (s.locks.cfg = false → t.rd DOM_CTRL.SELFTEST_EN = v / 2 ^ 15 % 2) ∧
      (s.locks.cfg = true → t.rd DOM_CTRL.SELFTEST_EN = s.rd DOM_CTRL.SELFTEST_EN ∧ t.rd GSTAT.LOCK_IGN = 1))) ∧
  (∀ (v : Nat) (a : Access) (s : State), a.strb = 15 →
    Answers (.registerWrite 0x408 v a) s (fun t => s.rd CAD_EVT.LOST = 1 → t.rd CAD_EVT.LOST = 1 - v / 4 % 2)) ∧
  (∀ (off v : Nat) (a : Access) (s : State), s.accessCause (accOf a) true off = none → a.strb = 0 →
    Answers (.registerWrite off v a) s (fun t => a.also = none → t = { s with emit := [.busWrite true] })) ∧
  (∀ (off v r : Nat) (d : RegDesc) (f : FieldDesc) (fs : List FieldDesc) (a : Access) (s : State),
    findReg off = some (d, r, false) → d.pair = .wpair → d.fields = f :: fs → s.lockedBy f.lock = false →
    (d.off = 0x1804 ∨ d.off = 0x180C → s.rd RING_CFG.EN r ≠ 1) →
    s.accessCause (accOf a) true off = none → a.strb ≠ 0 →
    Answers (.pairLoWrite off v a) s (fun t => Table.get none t.bus.staged (d.off + d.stride * r) = some (v % 2 ^ 32) ∧
      t.rd f.fld r = s.rd f.fld r)) ∧
  (∀ (off v r : Nat) (d : RegDesc) (f : FieldDesc) (fs : List FieldDesc) (a : Access) (s : State),
    findReg off = some (d, r, true) → d.pair = .wpair → d.fields = f :: fs → s.lockedBy f.lock = false →
    (d.off = 0x1804 ∨ d.off = 0x180C → s.rd RING_CFG.EN r ≠ 1) →
    s.accessCause (accOf a) true off = none → a.strb ≠ 0 →
    Answers (.pairHiWrite off v a) s (fun t => Table.get none t.bus.staged (d.off + d.stride * r) = none ∧
      t.rd f.fld r = ((Table.get none s.bus.staged (d.off + d.stride * r)).getD (s.rd f.fld r % 2 ^ 32) +
        v % 2 ^ 32 * 2 ^ 32) % 2 ^ f.fld.width)) ∧
  (∀ (off r : Nat) (d : RegDesc) (a : Access) (s : State),
    findReg off = some (d, r, false) → d.pair = .snap → inAperture off = false → s.accessCause (accOf a) false off = none →
    Answers (.snapLoRead off a) s (fun t => t.emit = [.busRead (s.quiet.regValue d r a.ns % 2 ^ 32) true] ∧
      Table.get {} t.bus.shadows (d.off + d.stride * r) =
        { hi := s.quiet.regValue d r a.ns / 2 ^ 32 % 2 ^ 32, armed := some a.id })) ∧
  (∀ (off r : Nat) (d : RegDesc) (a : Access) (s : State),
    findReg off = some (d, r, true) → d.pair = .snap → inAperture off = false → s.accessCause (accOf a) false off = none →
    Answers (.snapHiRead off a) s (fun t =>
      t.emit = [.busRead (Table.get {} s.bus.shadows (d.off + d.stride * r)).hi true] ∧
      ((Table.get {} s.bus.shadows (d.off + d.stride * r)).armed = some a.id →
        (Table.get {} t.bus.shadows (d.off + d.stride * r)).armed = none) ∧
      ((Table.get {} s.bus.shadows (d.off + d.stride * r)).armed ≠ some a.id → t.rd GSTAT.SNAP_STALE = 1)))

/-! ### Transports (chapters 13 and 14) -/

/-- O55.  Packets in and replies out (R330, R339, R340, R353, R354, R364, R365, R368, R369). -/
def Obligations.TransportsCarry : Prop :=
  (∀ (n : Nat) (s : State), MailboxDue s n → Accepts s n (packetOf (s.mbWords n)) →
    Answers (.mailboxTake n) s (fun t => t.rd MB_CTL.GO n = 0 ∧ Waits t n (packetOf (s.mbWords n)))) ∧
  (∀ (n : Nat) (s : State), MailboxDue s n → (packetOf (s.mbWords n)).ver ≠ 3 →
    Answers (.mailboxTake n) s (fun t => t.rd MB_CTL.GO n = 0 ∧
      t.rd CMD_REFUSED.VERSION = (s.rd CMD_REFUSED.VERSION + 1) % 2 ^ CMD_REFUSED.VERSION.width)) ∧
  (∀ (n : Nat) (s : State), MailboxDue s n → (packetOf (s.mbWords n)).ver = 3 → (s.port n).seen = true →
    (s.port n).cache = packetOf (s.mbWords n) → (s.port n).last = (packetOf (s.mbWords n)).seq →
    Answers (.mailboxTake n) s (fun t => t.rd MB_CTL.GO n = 0 ∧
      t.rd CMD_CNT.DUP = (s.rd CMD_CNT.DUP + 1) % 2 ^ CMD_CNT.DUP.width)) ∧
  (∀ (n : Nat) (s : State), MailboxDue s n → (packetOf (s.mbWords n)).ver = 3 → (s.port n).seen = true →
    2048 ≤ ((packetOf (s.mbWords n)).seq + 4096 - (s.port n).last) % 4096 →
    Answers (.mailboxTake n) s (fun t => t.rd MB_CTL.GO n = 0 ∧
      t.rd CMD_CNT.STALE = (s.rd CMD_CNT.STALE + 1) % 2 ^ CMD_CNT.STALE.width)) ∧
  (∀ (r : Nat) (ws : List Nat) (s : State), RingDue s r →
    crc32 (wordsLE ((List.range 15).map (at0 ws))) = at0 ws 15 → Accepts s (16 + r) (packetOf ws) →
    Answers (.submissionEntry r (some ws)) s (fun t => t.rd RING_SQ.HEAD r = (s.rd RING_SQ.HEAD r + 1) % 65536 ∧
      Waits t (16 + r) (packetOf ws) ∧ entryRead s r ∈ t.emit)) ∧
  (∀ (r : Nat) (ws : List Nat) (s : State), RingDue s r →
    crc32 (wordsLE ((List.range 15).map (at0 ws))) ≠ at0 ws 15 →
    Answers (.submissionEntry r (some ws)) s (fun t => t.rd RING_SQ.HEAD r = (s.rd RING_SQ.HEAD r + 1) % 65536 ∧
      t.rd RING_CNT.CRC r = (s.rd RING_CNT.CRC r + 1) % 2 ^ RING_CNT.CRC.width ∧
      t.emit = [entryRead s r] ∧
      ∃ e, t.ringOut r = s.ringOut r ++ [e] ∧ e.reply.hdr / 2 ^ 24 = 0xFF ∧ e.reply.status = stBADPARAM)) ∧
  (∀ (r : Nat) (s : State), RingDue s r →
    Answers (.submissionEntry r none) s (fun t => t.rd RING_STAT.RD_ERR r = 1 ∧ t.rd RING_CFG.EN r = 0 ∧
      t.emit = [entryRead s r])) ∧
  (∀ (r : Nat) (e : CEntry) (q : List CEntry) (s : State), r < 15 → s.rd RING_CFG.EN r = 1 → s.ringOut r = e :: q →
    Answers (.completionEntry r true) s (fun t => t.rd RING_CQ.TAIL r = (s.rd RING_CQ.TAIL r + 1) % 65536 ∧
      t.ringOut r = q ∧ t.emit = [.hostWrite (s.rd RING_CQ_BASE.ADDR r / 64 * 64 + 64 * (s.rd RING_CQ.TAIL r % s.ringSize r))
        (!s.on RING_CFG.SEC r) (entryWords e.reply)])) ∧
  (∀ (r : Nat) (e : CEntry) (q : List CEntry) (s : State), r < 15 → s.rd RING_CFG.EN r = 1 → s.ringOut r = e :: q →
    Answers (.completionEntry r false) s (fun t => t.rd RING_STAT.WR_ERR r = 1 ∧ t.rd RING_CFG.EN r = 0 ∧
      t.rd RING_CQ.TAIL r = s.rd RING_CQ.TAIL r)) ∧
  (∀ (ws : List Nat) (s : State), ws.length = bits 19 16 (at0 ws 0) + 1 → ws.length ≤ 15 → (∀ w ∈ ws, w < 2 ^ 32) →
    s.svcQueued < 4 → Accepts s 31 (packetOf ws) →
    Answers (.put (svcFrame ws)) s (fun t => t.rd SVC_CNT.PKTS = (s.rd SVC_CNT.PKTS + 1) % 2 ^ SVC_CNT.PKTS.width ∧
      Waits t 31 (packetOf ws))) ∧
  (∀ (ws : List Nat) (s : State), ws.length = bits 19 16 (at0 ws 0) + 1 → ws.length ≤ 15 → (∀ w ∈ ws, w < 2 ^ 32) →
    4 ≤ s.svcQueued →
    Answers (.put (svcFrame ws)) s (fun t => t.cmd.lastRej = true ∧ t.cmd.queue = s.cmd.queue ∧
      t.rd SVC_CNT.OVERFLOW = (s.rd SVC_CNT.OVERFLOW + 1) % 2 ^ SVC_CNT.OVERFLOW.width)) ∧
  (∀ (bs : List Nat) (s : State), 4 * at0 bs 0 + 5 ≤ bs.length →
    bs.take (4 * at0 bs 0 + 5) ≠ svcFrame (toWordsLE ((bs.drop 1).take (4 * at0 bs 0))) →
    Answers (.put bs) s (fun t => t.cmd.lastRej = true ∧ t.cmd.queue = s.cmd.queue ∧
      t.rd SVC_CNT.CRC = (s.rd SVC_CNT.CRC + 1) % 2 ^ SVC_CNT.CRC.width)) ∧
  (∀ (bs : List Nat) (s : State), bs.length < 4 * at0 bs 0 + 5 → Answers (.put bs) s (fun t => t = s.quiet)) ∧
  (∀ (clean : Bool) (s : State), s.cmd.svcReplies = [] →
    Answers (.get clean) s (fun t => t = { s with emit := [.service [0, 0]] })) ∧
  (∀ (r : Reply) (q : List Reply) (s : State), s.cmd.svcReplies = r :: q →
    Answers (.get false) s (fun t => t.emit = [.service (0 :: svcFrame (r.hdr :: r.words))] ∧ t.cmd.svcReplies = r :: q) ∧
    Answers (.get true) s (fun t => t.emit = [.service (0 :: svcFrame (r.hdr :: r.words))] ∧
      (q ++ s.cmd.svcHeld.take 1) <+: t.cmd.svcReplies)) ∧
  (∀ s : State, Answers .stat s (fun t => t.emit = [.service [0, s.svcStatus]] ∧ t.cmd.lastRej = false))

/-! ### The commands of Table 13.5 -/

/-- O56.  The checks of a packet (R333): a packet that one of them refuses is answered with that status and does nothing else; a command
leaves a packet of another opcode alone. -/
def Obligations.ChecksRefuse : Prop :=
  (∀ (c : Instr) (op n st : Nat) (p : Packet) (s : State), opcodeOf c = some op → s.nextPacket = some (n, p) →
    p.op = op → s.precheck n p = some st →
    Answers c s (fun t => t.rd CMD_CNT.EXEC = s.rd CMD_CNT.EXEC ∧ t.eng = s.eng ∧ t.rim = s.rim ∧ t.bg = s.bg ∧
      t.car = s.car ∧ t.pel = s.pel ∧ t.mg = s.mg ∧ t.rc = s.rc ∧ t.fw = s.fw ∧ t.em = s.em ∧ t.locks = s.locks ∧
      t.cmd.out = s.cmd.out ∧ Replied s t n p st (if op = 0x20 ∨ op = 0x21 then [0xFF] else []))) ∧
  (∀ (c : Instr) (op n : Nat) (p : Packet) (s : State), opcodeOf c = some op → s.nextPacket = some (n, p) →
    p.op ≠ op → Answers c s (fun t => t = s.quiet))

/-- O57.  The commands of identification, power and energy (R86 to R98, R150, R219, R227 to R233, R345, R346, R394). -/
def Obligations.PowerCommands : Prop :=
  (∀ (n : Nat) (p : Packet) (s : State), Taken s n p 0x00 →
    Answers .ident s (fun t => Executed s t ∧ Replied s t n p stOK
      [(taking s n p).regWord 0, (taking s n p).regWord 4, s.rd FW_STAT.GEN * 65536 + s.rd FW_STAT.ACTIVE])) ∧
  (∀ (n : Nat) (p : Packet) (s : State), Taken s n p 0x01 →
    Answers .status s (fun t => Executed s t ∧ Replied s t n p stOK
      ([0x404, 0xFC0, 0x5004, 0x4004, 0xB00C].map (taking s n p).regWord))) ∧
  (∀ (n : Nat) (p : Packet) (s : State), Taken s n p 0x02 →
    Answers .echo s (fun t => Executed s t ∧ Replied s t n p stOK p.params)) ∧
  (∀ (n : Nat) (p : Packet) (s : State), Taken s n p 0x03 →
    Answers .readTick s (fun t => Executed s t ∧ Replied s t n p stOK [s.tick % 2 ^ 32, s.tick / 2 ^ 32 % 2 ^ 32])) ∧
  (∀ (n : Nat) (p : Packet) (s : State), Taken s n p 0x10 →
    Answers .svcCap s (fun t => Executed s t ∧ Replied s t n p stOK [] ∧
      t.rd ENG_SLEWV.TARGET 1 = p.par 0 % 2 ^ ENG_SLEWV.TARGET.width)) ∧
  (∀ (n : Nat) (p : Packet) (s : State), Taken s n p 0x11 →
    Answers .setPart s (fun t => Executed s t ∧
      Replied s t n p (if s.breaching (bits 28 24 (p.par 0)) then stFLOOR else stOK) [] ∧
      t.rd BG_PART.CLASS (bits 28 24 (p.par 0)) = bits 31 30 (p.par 0) ∧
      t.rd BG_PART.IDLE_GATE (bits 28 24 (p.par 0)) = bits 29 29 (p.par 0) ∧
      t.rd BG_PART.FLOOR (bits 28 24 (p.par 0)) = bits 7 0 (p.par 0))) ∧
  (∀ (n : Nat) (p : Packet) (s : State), Taken s n p 0x12 →
    s.clusterRange (bits 7 0 (p.par 0)) (bits 23 16 (p.par 0)) = true →
    Answers .assign s (fun t => Executed s t ∧ Replied s t n p stOK [] ∧
      ∀ c, bits 7 0 (p.par 0) ≤ c → c < bits 7 0 (p.par 0) + bits 23 16 (p.par 0) →
        t.rd BG_CLPART.VALID c = bits 31 31 (p.par 0) ∧ t.rd BG_CLPART.PART c = bits 28 24 (p.par 0))) ∧
  (∀ (n : Nat) (p : Packet) (s : State), Taken s n p 0x12 →
    s.clusterRange (bits 7 0 (p.par 0)) (bits 23 16 (p.par 0)) = false →
    Answers .assign s (fun t => Replied s t n p stBADPARAM [] ∧ ∀ c < 192, t.rd BG_CLPART.PART c = s.rd BG_CLPART.PART c)) ∧
  (∀ (n : Nat) (p : Packet) (s : State), Taken s n p 0x13 →
    Answers .budgetRead s (fun t => Executed s t ∧ Replied s t n p stOK
      ([0x4014, 0x4004, 0x4028, 0x402C].map (taking s n p).regWord))) ∧
  (∀ (n : Nat) (p : Packet) (s : State), Taken s n p 0x14 →
    Answers .partRead s (fun t => Executed s t ∧ Replied s t n p stOK
      ([0x4200 + 16 * p.par 0, 0x4204 + 16 * p.par 0, 0x4208 + 16 * p.par 0].map (taking s n p).regWord))) ∧
  (∀ (n : Nat) (p : Packet) (s : State), Taken s n p 0x20 → p.pcnt = 1 → bits 15 8 (p.par 0) ≠ 0 →
    (∀ d ∈ span (bits 7 0 (p.par 0)) (bits 15 8 (p.par 0)), s.present d = true ∧ s.onRefusal d = none) →
    Answers .domainOn s (fun t => Executed s t ∧
      ((∀ d ∈ span (bits 7 0 (p.par 0)) (bits 15 8 (p.par 0)), s.dstate d = dON) →
        Replied s t n p stOK [bits 15 8 (p.par 0) * 256 + 0xFF]) ∧
      ((∃ d ∈ span (bits 7 0 (p.par 0)) (bits 15 8 (p.par 0)), s.dstate d ≠ dON) → Outstands t n p))) ∧
  (∀ (n : Nat) (p : Packet) (s : State), Taken s n p 0x21 → p.pcnt = 1 → bits 15 8 (p.par 0) ≠ 0 →
    (∀ d ∈ span (bits 7 0 (p.par 0)) (bits 15 8 (p.par 0)), s.present d = true ∧ s.offRefusal d = none) →
    Answers .domainOff s (fun t => Executed s t ∧
      ((∀ d ∈ span (bits 7 0 (p.par 0)) (bits 15 8 (p.par 0)), s.dstate d = dOFF) →
        Replied s t n p stOK [bits 15 8 (p.par 0) * 256 + 0xFF]) ∧
      ((∃ d ∈ span (bits 7 0 (p.par 0)) (bits 15 8 (p.par 0)), s.dstate d ≠ dOFF) → Outstands t n p))) ∧
  (∀ (n : Nat) (p : Packet) (s : State), Taken s n p 0x22 →
    Answers .restEnter s (fun t => Executed s t ∧
      (s.rd RIM_STAT.REST_STATE = 0 → t.rim.restHeld = some true ∧ Outstands t n p) ∧
      (s.rd RIM_STAT.REST_STATE = 2 → Replied s t n p stOK []))) ∧
  (∀ (n : Nat) (p : Packet) (s : State), Taken s n p 0x23 → s.rd RIM_STAT.COOL_STOP ≠ 1 →
    Answers .restExit s (fun t => Executed s t ∧
      (s.rd RIM_STAT.REST_STATE = 2 → t.rim.restHeld = some false ∧ Outstands t n p) ∧
      (s.rd RIM_STAT.REST_STATE = 0 → Replied s t n p stOK []))) ∧
  (∀ (n : Nat) (p : Packet) (s : State), Taken s n p 0x23 → s.rd RIM_STAT.COOL_STOP = 1 →
    Answers .restExit s (fun t => Replied s t n p stCONFLICT [] ∧ t.rim = s.rim)) ∧
  (∀ (n : Nat) (p : Packet) (s : State), Taken s n p 0x24 → s.present (p.par 0) = true →
    Answers .domainRead s (fun t => Executed s t ∧ Replied s t n p stOK
      ([0x800 + 8 * p.par 0, 0x804 + 8 * p.par 0].map (taking s n p).regWord))) ∧
  (∀ (n e : Nat) (p : Packet) (s : State), Taken s n p 0x30 → s.hintOk p (s.hintOf p) = true →
    s.hintEntry (s.hintOf p).id = none → (List.range 8).find? (fun e => (s.hint e).isNone) = some e →
    s.scheduleStatus ((s.hintOf p).start - s.inf BG_HINT_CFG.LEAD) = stOK →
    Answers .hintPhase s (fun t => Executed s t ∧ Replied s t n p stOK [e] ∧ t.hint e = some (s.hintOf p) ∧
      t.rd BG_HINT_CNT.ACCEPTED = (s.rd BG_HINT_CNT.ACCEPTED + 1) % 2 ^ BG_HINT_CNT.ACCEPTED.width)) ∧
  (∀ (n : Nat) (p : Packet) (s : State), Taken s n p 0x30 → s.hintOk p (s.hintOf p) = false →
    Answers .hintPhase s (fun t => Replied s t n p stBADPARAM [] ∧ t.bg = s.bg ∧
      t.rd BG_HINT_CNT.REJECTED = (s.rd BG_HINT_CNT.REJECTED + 1) % 2 ^ BG_HINT_CNT.REJECTED.width)) ∧
  (∀ (n e : Nat) (p : Packet) (s : State), Taken s n p 0x31 → s.hintEntry (p.par 0) = some e →
    Answers .hintCancel s (fun t => Executed s t ∧ Replied s t n p stOK [] ∧ t.hint e = none)) ∧
  (∀ (n : Nat) (p : Packet) (s : State), Taken s n p 0x31 → s.hintEntry (p.par 0) = none →
    Answers .hintCancel s (fun t => Replied s t n p stBADPARAM [] ∧ t.bg = s.bg)) ∧
  (∀ (n : Nat) (p : Packet) (s : State), Taken s n p 0x60 →
    Answers .snapshot s (fun t => Executed s t ∧ t.rd PW_STAT.PEND (p.par 0) = 1 ∧
      Replied s t n p stOK [(s.tick + 1) % 2 ^ 32, (s.tick + 1) / 2 ^ 32 % 2 ^ 32])) ∧
  (∀ (n : Nat) (p : Packet) (s : State), Taken s n p 0x61 →
    Answers .attClear s (fun t => Executed s t ∧ Replied s t n p stOK [] ∧
      ((p.par 0).testBit 31 = true → t.em.clrAll = true) ∧
      ((p.par 0).testBit 31 = false → t.em.clrParts = bits 4 0 (p.par 0) :: s.em.clrParts))) ∧
  (∀ (n : Nat) (p : Packet) (s : State), Taken s n p 0x62 → p.par 0 < 32 →
    Answers .energyRead s (fun t => Executed s t ∧ Replied s t n p stOK
      [s.rd EM_PART_E.ENERGY (p.par 0) % 2 ^ 32, s.rd EM_PART_E.ENERGY (p.par 0) / 2 ^ 32 % 2 ^ 32])) ∧
  (∀ (n : Nat) (p : Packet) (s : State), Taken s n p 0x62 → p.par 0 = 33 →
    Answers .energyRead s (fun t => Executed s t ∧ Replied s t n p stOK
      [s.rd EM_EIN.EIN % 2 ^ 32, s.rd EM_EIN.EIN / 2 ^ 32 % 2 ^ 32])) ∧
  (∀ (n : Nat) (p : Packet) (s : State), Taken s n p 0x62 → 34 < p.par 0 →
    Answers .energyRead s (fun t => Replied s t n p stBADPARAM []))

/-- O58.  The commands of the engine, the carrier, recovery, the suspects, firmware, locks and registers (R62, R176 to R178,
R189, R190, R247, R275, R280, R288, R290, R292, R295, R345, R347 to R351, R357, R400, R401). -/
def Obligations.ControlCommands : Prop :=
  (∀ (n : Nat) (p : Packet) (s : State), Taken s n p 0x40 → s.rd ENG_STAT.SWITCH_PEND ≠ 1 →
    s.inf ENG_SET.MODE (p.par 0) = 1 →
    Answers .loopOpen s (fun t => Executed s t ∧ Replied s t n p stOK [] ∧ p.par 0 ∈ t.eng.openReq ∧
      p.par 0 ∉ t.eng.closeReq)) ∧
  (∀ (n : Nat) (p : Packet) (s : State), Taken s n p 0x40 →
    (s.rd ENG_STAT.SWITCH_PEND = 1 ∨ s.inf ENG_SET.MODE (p.par 0) ≠ 1) →
    Answers .loopOpen s (fun t => Replied s t n p stCONFLICT [] ∧ t.eng = s.eng)) ∧
  (∀ (n : Nat) (p : Packet) (s : State), Taken s n p 0x41 →
    Answers .loopClose s (fun t => Executed s t ∧ Replied s t n p stOK [] ∧ p.par 0 ∈ t.eng.closeReq ∧
      p.par 0 ∉ t.eng.openReq)) ∧
  (∀ (n : Nat) (p : Packet) (s : State), Taken s n p 0x42 → s.rd ENG_STAT.OPEN = 0 → s.eng.openReq = [] →
    s.rd ENG_STAT.SWITCH_PEND ≠ 1 → (s.bankOf (1 - s.rd ENG_STAT.BANK)).valid = true →
    s.scheduleStatus (s.targetOf p) = stOK →
    Answers .bankSwitch s (fun t => Executed s t ∧ Replied s t n p stOK [] ∧ t.rd ENG_STAT.SWITCH_PEND = 1 ∧
      t.rd ENG_STAT.BANK = s.rd ENG_STAT.BANK)) ∧
  (∀ (n : Nat) (p : Packet) (s : State), Taken s n p 0x42 → s.rd ENG_STAT.OPEN ≠ 0 →
    Answers .bankSwitch s (fun t => Replied s t n p stCONFLICT [] ∧ t.cad = s.cad)) ∧
  (∀ (n : Nat) (p : Packet) (s : State), Taken s n p 0x43 →
    Answers .traceArm s (fun t => Executed s t ∧ Replied s t n p stOK [] ∧ t.rd ENG_TR_CTRL.ARM = 1)) ∧
  (∀ (n : Nat) (p : Packet) (s : State), Taken s n p 0x44 → p.par 0 < 6 →
    Answers .engRead s (fun t => Executed s t ∧ Replied s t n p stOK
      ([0x5100 + 8 * p.par 0, 0x5104 + 8 * p.par 0, 0x501C].map (taking s n p).regWord))) ∧
  (∀ (n : Nat) (p : Packet) (s : State), Taken s n p 0xF0 → s.scheduleStatus (s.extend (p.stamp 1)) = stOK →
    Answers .nodeDump s (fun t => Executed s t ∧ Replied s t n p stOK [] ∧ t.rd ENG_DUMP_STAT.DONE = 0 ∧
      t.rd ENG_DUMP_CFG.SRC = (if bits 31 30 (p.par 0) = 1 then 1 else 0) ∧
      t.rd ENG_DUMP_CFG.NODE = bits 27 16 (p.par 0) % 2 ^ ENG_DUMP_CFG.NODE.width)) ∧
  (∀ (n : Nat) (p : Packet) (s : State), Taken s n p 0x50 → s.carrierOn = true → p.par 0 = 3 →
    Answers .lease s (fun t => Executed s t ∧ t.rd CAR_STAT.ROLE = 0 ∧ t.car.leaseEnd = none ∧ t.rd CAR_LEASE.REQ = 0)) ∧
  (∀ (n : Nat) (p : Packet) (s : State), Taken s n p 0x50 → s.carrierOn = true → p.par 0 = 1 →
    serialNewer 32 (p.par 1) (s.rd CAR_EPOCH_SEEN.EPOCH) = true →
    Answers .lease s (fun t => Executed s t ∧ t.rd CAR_STAT.ROLE = 2 ∧ t.rd CAR_STAT.LEASE_VALID = 1)) ∧
  (∀ (n : Nat) (p : Packet) (s : State), Taken s n p 0x50 → s.carrierOn = false →
    Answers .lease s (fun t => t.car = s.car)) ∧
  (∀ (n : Nat) (p : Packet) (s : State), Taken s n p 0x51 →
    Answers .carrierCap s (fun t => Executed s t ∧ Replied s t n p stOK [] ∧
      t.rd CAR_CAP.CAP = p.par 0 % 2 ^ CAR_CAP.CAP.width ∧ t.rd CAR_RSV.RESERVE = p.par 1 % 2 ^ CAR_RSV.RESERVE.width)) ∧
  (∀ (n : Nat) (p : Packet) (s : State), Taken s n p 0x52 →
    Answers .pelSet s (fun t => Executed s t ∧ Replied s t n p stOK [] ∧ t.rd PEL_CTRL.PEL_ID = bits 31 16 (p.par 0) ∧
      t.rd PEL_CTRL.JOIN = p.par 0 % 2 ∧ ∀ k < 8, t.rd PEL_MASK.MASK k = p.par (k + 1) % 2 ^ 32)) ∧
  (∀ (n : Nat) (p : Packet) (s : State), Taken s n p 0x53 →
    Answers .pelRead s (fun t => Executed s t ∧ Replied s t n p stOK
      ([0xA10C, 0xA11C, 0xA028].map (taking s n p).regWord))) ∧
  (∀ (n : Nat) (p : Packet) (s : State), Taken s n p 0x70 → (bits 31 28 (p.par 0) = 1 ∨ bits 31 28 (p.par 0) = 2) →
    accelSource (p.par 0) = true →
    Answers .recoveryReport s (fun t => Executed s t ∧ Replied s t n p stOK [] ∧ t.rd RC_EVT.ACCEL_STEP = 1 ∧
      t.rd RC_ERRLAST.CODE = p.par 0 % 2 ^ 32)) ∧
  (∀ (n : Nat) (p : Packet) (s : State), Taken s n p 0x71 → bits 31 28 (p.par 0) = 4 → accelSource (p.par 0) = true →
    s.ladder ≠ lPOWER → s.ladder ≠ lDIE →
    (s.rc.dieAt.filter (fun a => decide (s.tick < a + 600000000))).length + 1 ≤ s.inf RC_CFG2.DIE_MAX →
    Answers .recoveryStep s (fun t => Executed s t ∧ Replied s t n p stOK [] ∧ t.ladder = lDIE)) ∧
  (∀ (n : Nat) (p : Packet) (s : State), Taken s n p 0x71 → bits 31 28 (p.par 0) = 5 → accelSource (p.par 0) = true →
    s.ladder ≠ lPOWER →
    Answers .recoveryStep s (fun t => Executed s t ∧ Replied s t n p stOK [] ∧ t.ladder = lPOWER)) ∧
  (∀ (n : Nat) (p : Packet) (s : State), Taken s n p 0x71 → s.ladder = lPOWER → 3 ≤ bits 31 28 (p.par 0) →
    bits 31 28 (p.par 0) ≤ 5 → accelSource (p.par 0) = true →
    Answers .recoveryStep s (fun t => Replied s t n p stCONFLICT [] ∧ t.rc = s.rc)) ∧
  (∀ (n : Nat) (p : Packet) (s : State), Taken s n p 0x72 → Answers .warmRestart s (fun t => Restarted s t)) ∧
  (∀ (n : Nat) (p : Packet) (s : State), Taken s n p 0x73 →
    Answers .errRead s (fun t => Executed s t ∧ Replied s t n p stOK
      [s.rd RC_ERRCODE.CODE, s.rd RC_ERRLAST.CODE, s.rd RC_ERR_TICK.TICK % 2 ^ 32, s.rd RC_ERR_TICK.TICK / 2 ^ 32 % 2 ^ 32])) ∧
  (∀ (n : Nat) (p : Packet) (s : State), Taken s n p 0x74 →
    Answers .errClear s (fun t => Executed s t ∧ Replied s t n p stOK [] ∧ t.rd RC_CLR.ERR = 1)) ∧
  (∀ (n : Nat) (p : Packet) (s : State), Taken s n p 0x80 → bits 31 30 (p.par 0) = 1 →
    s.present (bits 13 0 (p.par 0) / 64) = true → isCluster (bits 13 0 (p.par 0) / 64) = true →
    Answers .suspectReport s (fun t => Executed s t ∧
      Replied s t n p (if t.mg.deferred = true then stDEFERRED else stOK) [] ∧
      (s.infOn MG_CTRL.SUS_EN = false → t.mg.deferred = false) ∧
      t.rd MG_CNT.TRANS = (s.rd MG_CNT.TRANS + 1) % 2 ^ MG_CNT.TRANS.width)) ∧
  (∀ (n : Nat) (p : Packet) (s : State), Taken s n p 0x80 → bits 31 30 (p.par 0) = 2 →
    s.present (bits 13 0 (p.par 0) / 64) = true → isCluster (bits 13 0 (p.par 0) / 64) = true →
    Answers .suspectReport s (fun t => Executed s t ∧
      Replied s t n p (if t.mg.deferred = true then stDEFERRED else stOK) [] ∧
      t.rd MG_CNT.PERM = (s.rd MG_CNT.PERM + 1) % 2 ^ MG_CNT.PERM.width)) ∧
  (∀ (n : Nat) (p : Packet) (s : State), Taken s n p 0x80 → bits 31 30 (p.par 0) = 0 →
    Answers .suspectReport s (fun t => Replied s t n p stBADPARAM [] ∧ t.mg = s.mg)) ∧
  (∀ (n : Nat) (p : Packet) (s : State), Taken s n p 0x81 → isCluster (p.par 0) = true → s.present (p.par 0) = true →
    Answers .suspectClear s (fun t => Executed s t ∧ t.rd MG_CL.SUS (p.par 0) = 0)) ∧
  (∀ (n : Nat) (p : Packet) (s : State), Taken s n p 0x82 → isCluster (p.par 0 / 64) = true →
    s.present (p.par 0 / 64) = true → (p.par 1).testBit 31 = true → (p.par 1).testBit 30 = false →
    Answers .coreCtrl s (fun t => Executed s t ∧ Replied s t n p stOK [] ∧ t.rd CORE_DIV.DIV (p.par 0) = p.par 1 % 4)) ∧
  (∀ (n : Nat) (p : Packet) (s : State), Taken s n p 0x82 → isCluster (p.par 0 / 64) = true →
    s.present (p.par 0 / 64) = true → (p.par 1).testBit 30 = true → (p.par 1).testBit 9 = true →
    Answers .coreCtrl s (fun t => Executed s t ∧ t.bit CORE_GATE.GATE (p.par 0 % 64) (p.par 0 / 64) = true)) ∧
  (∀ (n : Nat) (p : Packet) (s : State), Taken s n p 0x83 → isCluster (p.par 0) = true → s.present (p.par 0) = true →
    Answers .marginRead s (fun t => Executed s t ∧ Replied s t n p stOK
      ([0x7200 + 8 * p.par 0, 0x7204 + 8 * p.par 0].map (taking s n p).regWord))) ∧
  (∀ (n : Nat) (p : Packet) (s : State), Taken s n p 0x90 → s.rd FW_STAT.SW_PEND ≠ 1 →
    s.slotState (1 - s.rd FW_STAT.ACTIVE) ≠ 1 →
    Answers .fwLoad s (fun t => Executed s t ∧ Outstands t n p ∧ t.slotState (1 - s.rd FW_STAT.ACTIVE) = 1)) ∧
  (∀ (n : Nat) (p : Packet) (s : State), Taken s n p 0x91 → s.slotState (1 - s.rd FW_STAT.ACTIVE) = 2 →
    s.rd FW_STAT.SW_PEND ≠ 1 → s.carRole = rMEMBER → s.scheduleStatus (s.targetOf p) = stOK →
    Answers .fwSwitch s (fun t => Executed s t ∧ Replied s t n p stOK [] ∧ t.rd FW_STAT.SW_PEND = 1 ∧
      t.rd FW_STAT.ACTIVE = s.rd FW_STAT.ACTIVE)) ∧
  (∀ (n : Nat) (p : Packet) (s : State), Taken s n p 0x91 → s.slotState (1 - s.rd FW_STAT.ACTIVE) = 0 →
    Answers .fwSwitch s (fun t => Replied s t n p stBADPARAM [] ∧ t.rd FW_STAT.SW_PEND = s.rd FW_STAT.SW_PEND)) ∧
  (∀ (n : Nat) (p : Packet) (s : State), Taken s n p 0x92 →
    s.imgRefusal (bits 3 0 (p.par 0)) (bits 5 4 (p.par 0)) (bits 8 8 (p.par 0)) = none →
    Answers .imgLoad s (fun t => Executed s t ∧ Outstands t n p)) ∧
  (∀ (n : Nat) (p : Packet) (s : State), Taken s n p 0x93 → p.par 0 % 4 = 0 →
    p.par 0 + 4 * (p.params.drop 1).length ≤ 262144 → s.rd FW_STAT.SW_PEND ≠ 1 →
    Answers .stageWrite s (fun t => Executed s t ∧ Replied s t n p stOK [] ∧
      t.slotState (1 - s.rd FW_STAT.ACTIVE) ≠ 2 ∧
      ∀ i < 4 * (p.params.drop 1).length, Table.get 0 (t.slot (1 - s.rd FW_STAT.ACTIVE)).mem (p.par 0 + i) =
        at0 (p.params.drop 1) (i / 4) / 256 ^ (i % 4) % 256)) ∧
  (∀ (n : Nat) (p : Packet) (s : State), Taken s n p 0x94 →
    Answers .lockSet s (fun t => Executed s t ∧ LocksKept s.locks t.locks ∧
      (t.locks.cfg = (s.locks.cfg || (p.par 0).testBit 0)) ∧ (t.locks.perm = (s.locks.perm || (p.par 0).testBit 8)) ∧
      (t.locks.transport = (s.locks.transport || (p.par 0).testBit 9)) ∧ (t.locks.fw = (s.locks.fw || (p.par 0).testBit 10)) ∧
      (t.locks.diag = (s.locks.diag || (p.par 0).testBit 11)))) ∧
  (∀ (n : Nat) (p : Packet) (s : State), Taken s n p 0x95 →
    Answers .lockRead s (fun t => Executed s t ∧ t.locks = s.locks ∧ Replied s t n p stOK s.lockWords)) ∧
  (∀ (n off : Nat) (p : Packet) (s : State), Taken s n p 0xF1 → p.params = [off] →
    s.accessCause svcAcc false off = none →
    Answers .regRead s (fun t => Executed s t ∧ Replied s t n p stOK [((taking s n p).readWord svcAcc off).1])) ∧
  (∀ (n off c : Nat) (p : Packet) (s : State), Taken s n p 0xF1 → p.params = [off] →
    s.accessCause svcAcc false off = some c →
    Answers .regRead s (fun t => Replied s t n p stBADPARAM [] ∧ t.rd GSTAT.ACCESS_ERR = 1)) ∧
  (∀ (n v : Nat) (p : Packet) (s : State), Taken s n p 0xF2 → p.params = [0x440, v] →
    Answers .regWrite s (fun t => Executed s t ∧ Replied s t n p stOK [] ∧
      t.rd DOM_CTRL.TELEM_MS = max 1 (min 100 (v % 128)))) ∧
  (∀ (n : Nat) (p : Packet) (s : State), Taken s n p 0xA0 →
    Answers (.meterIdent none) s (fun t => Executed s t ∧ Replied s t n p stOK
      [s.rd MTR_SERIAL.SERIAL, s.rd MTR_ROMCRC.ROMCRC, s.rd MTR_SEAL.BREAKS * 65536 + s.rd MTR_SEAL.CAL_GEN,
       s.mirrorState])) ∧
  (∀ (n : Nat) (p : Packet) (s : State), Taken s n p 0xA1 →
    Answers (.meterRead none) s (fun t => Executed s t ∧ ∃ ws, Replied s t n p stOK ws ∧ ws.length = 7 ∧
      at0 ws 2 = s.rd MTR_E.E_IN % 2 ^ 32 ∧ at0 ws 3 = s.rd MTR_E.E_IN / 2 ^ 32 % 2 ^ 32))

/-! ### Frames -/

/-- O59.  Frames.  Every command named in `footprint` leaves the tick, the lock bits, the queue, every part of the state and every
register field outside its footprint as they were; a warm restart so but for the lock bits, and LOCK_SET; a tick leaves
the meter, the lock bits and the queue, and an image load the parts named. -/
def Obligations.FootprintsHold : Prop :=
  (∀ (c : Instr) (ps : List Region) (fs : List Fld), footprint c = some (ps, fs) → Leaves c ps fs) ∧
  (∀ (c : Instr) (ps : List Region) (fs : List Fld) (s : State), restartFootprint c = some (ps, fs) →
    Answers c s (fun t => Frame (· ∈ ps) (· ∈ fs) { s with locks := t.locks } t)) ∧
  (∀ s : State, Answers .lockSet s (fun t => Frame (· ∈ [Region.bus, Region.cmd, Region.emit, Region.tasks, Region.log])
    (· ∈ answerFields ++ logFields) { s with locks := t.locks } t)) ∧
  (∀ (i : TickIn) (c : Instr) (s : State), c = .tooth i ∨ c = .synthesisedTick i ∨ c = .relock i →
    Answers c s (fun t => t.mtr = s.mtr ∧ t.locks = s.locks ∧ t.pending = s.pending)) ∧
  (∀ (f : Option ImageFile) (s : State),
    Answers (.imgLoadDone f) s (fun t => t.locks = s.locks ∧ t.tick = s.tick ∧ t.pending = s.pending ∧
      ∀ q : Region, q ∉ [Region.bg, Region.bus, Region.cad, Region.cmd, Region.em, Region.emit, Region.eng, Region.mg, Region.tasks, Region.th, Region.log] → q.same s t))

/-- O60.  Frames of the register writes: each changes the fields of its own register, what its request starts, and the record
of a refused access, and with a read in the same hub cycle what a read writes; REG_WRITE also what its answer writes. -/
def Obligations.RegisterFootprintsHold : Prop :=
  (∀ (c : Instr) (ps : List Region) (fs : List Fld), rowFootprint c = some (ps, fs) →
    Leaves c (ps ++ readParts c) (fs ++ refusalFields ++ readFields c)) ∧
  (∀ (c : Instr) (s : State), SetsLock c →
    Answers c s (fun t => Frame (· ∈ Region.emit :: readParts c) (· ∈ refusalFields ++ readFields c)
      { s with locks := t.locks } t)) ∧
  (∀ (c : Instr) (off r : Nat) (hi : Bool) (d : RegDesc) (s : State), WritesWord c off → findReg off = some (d, r, hi) →
    (d.off ∉ specialOffs ∨ d.pair = .wpair) →
    Answers c s (fun t => Frame (fun q => q = .bus ∨ q = .emit) (fun F => (∃ f ∈ d.fields, f.fld = F) ∨
      F ∈ [GSTAT.GO_BUSY, GSTAT.LOCK_IGN, RING_STAT.CFG_ERR] ++ refusalFields ++ readFields c) s t)) ∧
  (∀ (c : Instr) (off : Nat) (s : State), WritesWord c off → findReg off = none →
    Answers c s (fun t => Frame (· ∈ Region.emit :: readParts c) (· ∈ refusalFields ++ readFields c) s t)) ∧
  (∀ (n off v r : Nat) (hi : Bool) (p : Packet) (d : RegDesc) (s : State), s.nextPacket = some (n, p) →
    p.params = [off, v] → findReg off = some (d, r, hi) → (d.off ∉ specialOffs ∨ d.pair = .wpair) →
    Answers .regWrite s (fun t => Frame (· ∈ [Region.bus, Region.cmd, Region.emit, Region.tasks, Region.log])
      (fun F => (∃ f ∈ d.fields, f.fld = F) ∨
        F ∈ [GSTAT.GO_BUSY, GSTAT.LOCK_IGN, RING_STAT.CFG_ERR] ++ refusalFields ++ answerFields ++ logFields) s t))
end

