-- ==== Sys2Proof/Laws/State.lean ====
section
/-! SUPPORT. One lemma for each part of the state under each update of it, and what a register field reads after an
update: no later proof unfolds a record update. -/

namespace Sys2Proof.Machine

/-! ### `setCad` -/

@[simp] theorem setCad_tick (s : State) (f : Cad → Cad) : (s.setCad f).tick = s.tick := rfl
@[simp] theorem setCad_locks (s : State) (f : Cad → Cad) : (s.setCad f).locks = s.locks := rfl
@[simp] theorem setCad_fields (s : State) (f : Cad → Cad) : (s.setCad f).fields = s.fields := rfl
@[simp] theorem setCad_rwl (s : State) (f : Cad → Cad) : (s.setCad f).rwl = s.rwl := rfl
@[simp] theorem setCad_inForce (s : State) (f : Cad → Cad) : (s.setCad f).inForce = s.inForce := rfl
@[simp] theorem setCad_cad (s : State) (f : Cad → Cad) : (s.setCad f).cad = f s.cad := rfl
@[simp] theorem setCad_spk (s : State) (f : Cad → Cad) : (s.setCad f).spk = s.spk := rfl
@[simp] theorem setCad_rim (s : State) (f : Cad → Cad) : (s.setCad f).rim = s.rim := rfl
@[simp] theorem setCad_gl (s : State) (f : Cad → Cad) : (s.setCad f).gl = s.gl := rfl
@[simp] theorem setCad_eng (s : State) (f : Cad → Cad) : (s.setCad f).eng = s.eng := rfl
@[simp] theorem setCad_em (s : State) (f : Cad → Cad) : (s.setCad f).em = s.em := rfl
@[simp] theorem setCad_th (s : State) (f : Cad → Cad) : (s.setCad f).th = s.th := rfl
@[simp] theorem setCad_bg (s : State) (f : Cad → Cad) : (s.setCad f).bg = s.bg := rfl
@[simp] theorem setCad_car (s : State) (f : Cad → Cad) : (s.setCad f).car = s.car := rfl
@[simp] theorem setCad_pel (s : State) (f : Cad → Cad) : (s.setCad f).pel = s.pel := rfl
@[simp] theorem setCad_mg (s : State) (f : Cad → Cad) : (s.setCad f).mg = s.mg := rfl
@[simp] theorem setCad_rc (s : State) (f : Cad → Cad) : (s.setCad f).rc = s.rc := rfl
@[simp] theorem setCad_mtr (s : State) (f : Cad → Cad) : (s.setCad f).mtr = s.mtr := rfl
@[simp] theorem setCad_mir (s : State) (f : Cad → Cad) : (s.setCad f).mir = s.mir := rfl
@[simp] theorem setCad_cmd (s : State) (f : Cad → Cad) : (s.setCad f).cmd = s.cmd := rfl
@[simp] theorem setCad_bus (s : State) (f : Cad → Cad) : (s.setCad f).bus = s.bus := rfl
@[simp] theorem setCad_fw (s : State) (f : Cad → Cad) : (s.setCad f).fw = s.fw := rfl
@[simp] theorem setCad_free (s : State) (f : Cad → Cad) : (s.setCad f).free = s.free := rfl
@[simp] theorem setCad_emit (s : State) (f : Cad → Cad) : (s.setCad f).emit = s.emit := rfl
@[simp] theorem setCad_pending (s : State) (f : Cad → Cad) : (s.setCad f).pending = s.pending := rfl
@[simp] theorem setCad_rd (s : State) (f : Cad → Cad) (F : Fld) (i : Nat) : (s.setCad f).rd F i = s.rd F i := rfl
@[simp] theorem setCad_inf (s : State) (f : Cad → Cad) (F : Fld) (i : Nat) : (s.setCad f).inf F i = s.inf F i := rfl

/-! ### `setSpk` -/

@[simp] theorem setSpk_tick (s : State) (f : Spk → Spk) : (s.setSpk f).tick = s.tick := rfl
@[simp] theorem setSpk_locks (s : State) (f : Spk → Spk) : (s.setSpk f).locks = s.locks := rfl
@[simp] theorem setSpk_fields (s : State) (f : Spk → Spk) : (s.setSpk f).fields = s.fields := rfl
@[simp] theorem setSpk_rwl (s : State) (f : Spk → Spk) : (s.setSpk f).rwl = s.rwl := rfl
@[simp] theorem setSpk_inForce (s : State) (f : Spk → Spk) : (s.setSpk f).inForce = s.inForce := rfl
@[simp] theorem setSpk_cad (s : State) (f : Spk → Spk) : (s.setSpk f).cad = s.cad := rfl
@[simp] theorem setSpk_spk (s : State) (f : Spk → Spk) : (s.setSpk f).spk = f s.spk := rfl
@[simp] theorem setSpk_rim (s : State) (f : Spk → Spk) : (s.setSpk f).rim = s.rim := rfl
@[simp] theorem setSpk_gl (s : State) (f : Spk → Spk) : (s.setSpk f).gl = s.gl := rfl
@[simp] theorem setSpk_eng (s : State) (f : Spk → Spk) : (s.setSpk f).eng = s.eng := rfl
@[simp] theorem setSpk_em (s : State) (f : Spk → Spk) : (s.setSpk f).em = s.em := rfl
@[simp] theorem setSpk_th (s : State) (f : Spk → Spk) : (s.setSpk f).th = s.th := rfl
@[simp] theorem setSpk_bg (s : State) (f : Spk → Spk) : (s.setSpk f).bg = s.bg := rfl
@[simp] theorem setSpk_car (s : State) (f : Spk → Spk) : (s.setSpk f).car = s.car := rfl
@[simp] theorem setSpk_pel (s : State) (f : Spk → Spk) : (s.setSpk f).pel = s.pel := rfl
@[simp] theorem setSpk_mg (s : State) (f : Spk → Spk) : (s.setSpk f).mg = s.mg := rfl
@[simp] theorem setSpk_rc (s : State) (f : Spk → Spk) : (s.setSpk f).rc = s.rc := rfl
@[simp] theorem setSpk_mtr (s : State) (f : Spk → Spk) : (s.setSpk f).mtr = s.mtr := rfl
@[simp] theorem setSpk_mir (s : State) (f : Spk → Spk) : (s.setSpk f).mir = s.mir := rfl
@[simp] theorem setSpk_cmd (s : State) (f : Spk → Spk) : (s.setSpk f).cmd = s.cmd := rfl
@[simp] theorem setSpk_bus (s : State) (f : Spk → Spk) : (s.setSpk f).bus = s.bus := rfl
@[simp] theorem setSpk_fw (s : State) (f : Spk → Spk) : (s.setSpk f).fw = s.fw := rfl
@[simp] theorem setSpk_free (s : State) (f : Spk → Spk) : (s.setSpk f).free = s.free := rfl
@[simp] theorem setSpk_emit (s : State) (f : Spk → Spk) : (s.setSpk f).emit = s.emit := rfl
@[simp] theorem setSpk_pending (s : State) (f : Spk → Spk) : (s.setSpk f).pending = s.pending := rfl
@[simp] theorem setSpk_rd (s : State) (f : Spk → Spk) (F : Fld) (i : Nat) : (s.setSpk f).rd F i = s.rd F i := rfl
@[simp] theorem setSpk_inf (s : State) (f : Spk → Spk) (F : Fld) (i : Nat) : (s.setSpk f).inf F i = s.inf F i := rfl

/-! ### `setRim` -/

@[simp] theorem setRim_tick (s : State) (f : Rim → Rim) : (s.setRim f).tick = s.tick := rfl
@[simp] theorem setRim_locks (s : State) (f : Rim → Rim) : (s.setRim f).locks = s.locks := rfl
@[simp] theorem setRim_fields (s : State) (f : Rim → Rim) : (s.setRim f).fields = s.fields := rfl
@[simp] theorem setRim_rwl (s : State) (f : Rim → Rim) : (s.setRim f).rwl = s.rwl := rfl
@[simp] theorem setRim_inForce (s : State) (f : Rim → Rim) : (s.setRim f).inForce = s.inForce := rfl
@[simp] theorem setRim_cad (s : State) (f : Rim → Rim) : (s.setRim f).cad = s.cad := rfl
@[simp] theorem setRim_spk (s : State) (f : Rim → Rim) : (s.setRim f).spk = s.spk := rfl
@[simp] theorem setRim_rim (s : State) (f : Rim → Rim) : (s.setRim f).rim = f s.rim := rfl
@[simp] theorem setRim_gl (s : State) (f : Rim → Rim) : (s.setRim f).gl = s.gl := rfl
@[simp] theorem setRim_eng (s : State) (f : Rim → Rim) : (s.setRim f).eng = s.eng := rfl
@[simp] theorem setRim_em (s : State) (f : Rim → Rim) : (s.setRim f).em = s.em := rfl
@[simp] theorem setRim_th (s : State) (f : Rim → Rim) : (s.setRim f).th = s.th := rfl
@[simp] theorem setRim_bg (s : State) (f : Rim → Rim) : (s.setRim f).bg = s.bg := rfl
@[simp] theorem setRim_car (s : State) (f : Rim → Rim) : (s.setRim f).car = s.car := rfl
@[simp] theorem setRim_pel (s : State) (f : Rim → Rim) : (s.setRim f).pel = s.pel := rfl
@[simp] theorem setRim_mg (s : State) (f : Rim → Rim) : (s.setRim f).mg = s.mg := rfl
@[simp] theorem setRim_rc (s : State) (f : Rim → Rim) : (s.setRim f).rc = s.rc := rfl
@[simp] theorem setRim_mtr (s : State) (f : Rim → Rim) : (s.setRim f).mtr = s.mtr := rfl
@[simp] theorem setRim_mir (s : State) (f : Rim → Rim) : (s.setRim f).mir = s.mir := rfl
@[simp] theorem setRim_cmd (s : State) (f : Rim → Rim) : (s.setRim f).cmd = s.cmd := rfl
@[simp] theorem setRim_bus (s : State) (f : Rim → Rim) : (s.setRim f).bus = s.bus := rfl
@[simp] theorem setRim_fw (s : State) (f : Rim → Rim) : (s.setRim f).fw = s.fw := rfl
@[simp] theorem setRim_free (s : State) (f : Rim → Rim) : (s.setRim f).free = s.free := rfl
@[simp] theorem setRim_emit (s : State) (f : Rim → Rim) : (s.setRim f).emit = s.emit := rfl
@[simp] theorem setRim_pending (s : State) (f : Rim → Rim) : (s.setRim f).pending = s.pending := rfl
@[simp] theorem setRim_rd (s : State) (f : Rim → Rim) (F : Fld) (i : Nat) : (s.setRim f).rd F i = s.rd F i := rfl
@[simp] theorem setRim_inf (s : State) (f : Rim → Rim) (F : Fld) (i : Nat) : (s.setRim f).inf F i = s.inf F i := rfl

/-! ### `setGl` -/

@[simp] theorem setGl_tick (s : State) (f : Gl → Gl) : (s.setGl f).tick = s.tick := rfl
@[simp] theorem setGl_locks (s : State) (f : Gl → Gl) : (s.setGl f).locks = s.locks := rfl
@[simp] theorem setGl_fields (s : State) (f : Gl → Gl) : (s.setGl f).fields = s.fields := rfl
@[simp] theorem setGl_rwl (s : State) (f : Gl → Gl) : (s.setGl f).rwl = s.rwl := rfl
@[simp] theorem setGl_inForce (s : State) (f : Gl → Gl) : (s.setGl f).inForce = s.inForce := rfl
@[simp] theorem setGl_cad (s : State) (f : Gl → Gl) : (s.setGl f).cad = s.cad := rfl
@[simp] theorem setGl_spk (s : State) (f : Gl → Gl) : (s.setGl f).spk = s.spk := rfl
@[simp] theorem setGl_rim (s : State) (f : Gl → Gl) : (s.setGl f).rim = s.rim := rfl
@[simp] theorem setGl_gl (s : State) (f : Gl → Gl) : (s.setGl f).gl = f s.gl := rfl
@[simp] theorem setGl_eng (s : State) (f : Gl → Gl) : (s.setGl f).eng = s.eng := rfl
@[simp] theorem setGl_em (s : State) (f : Gl → Gl) : (s.setGl f).em = s.em := rfl
@[simp] theorem setGl_th (s : State) (f : Gl → Gl) : (s.setGl f).th = s.th := rfl
@[simp] theorem setGl_bg (s : State) (f : Gl → Gl) : (s.setGl f).bg = s.bg := rfl
@[simp] theorem setGl_car (s : State) (f : Gl → Gl) : (s.setGl f).car = s.car := rfl
@[simp] theorem setGl_pel (s : State) (f : Gl → Gl) : (s.setGl f).pel = s.pel := rfl
@[simp] theorem setGl_mg (s : State) (f : Gl → Gl) : (s.setGl f).mg = s.mg := rfl
@[simp] theorem setGl_rc (s : State) (f : Gl → Gl) : (s.setGl f).rc = s.rc := rfl
@[simp] theorem setGl_mtr (s : State) (f : Gl → Gl) : (s.setGl f).mtr = s.mtr := rfl
@[simp] theorem setGl_mir (s : State) (f : Gl → Gl) : (s.setGl f).mir = s.mir := rfl
@[simp] theorem setGl_cmd (s : State) (f : Gl → Gl) : (s.setGl f).cmd = s.cmd := rfl
@[simp] theorem setGl_bus (s : State) (f : Gl → Gl) : (s.setGl f).bus = s.bus := rfl
@[simp] theorem setGl_fw (s : State) (f : Gl → Gl) : (s.setGl f).fw = s.fw := rfl
@[simp] theorem setGl_free (s : State) (f : Gl → Gl) : (s.setGl f).free = s.free := rfl
@[simp] theorem setGl_emit (s : State) (f : Gl → Gl) : (s.setGl f).emit = s.emit := rfl
@[simp] theorem setGl_pending (s : State) (f : Gl → Gl) : (s.setGl f).pending = s.pending := rfl
@[simp] theorem setGl_rd (s : State) (f : Gl → Gl) (F : Fld) (i : Nat) : (s.setGl f).rd F i = s.rd F i := rfl
@[simp] theorem setGl_inf (s : State) (f : Gl → Gl) (F : Fld) (i : Nat) : (s.setGl f).inf F i = s.inf F i := rfl

/-! ### `setEng` -/

@[simp] theorem setEng_tick (s : State) (f : Eng → Eng) : (s.setEng f).tick = s.tick := rfl
@[simp] theorem setEng_locks (s : State) (f : Eng → Eng) : (s.setEng f).locks = s.locks := rfl
@[simp] theorem setEng_fields (s : State) (f : Eng → Eng) : (s.setEng f).fields = s.fields := rfl
@[simp] theorem setEng_rwl (s : State) (f : Eng → Eng) : (s.setEng f).rwl = s.rwl := rfl
@[simp] theorem setEng_inForce (s : State) (f : Eng → Eng) : (s.setEng f).inForce = s.inForce := rfl
@[simp] theorem setEng_cad (s : State) (f : Eng → Eng) : (s.setEng f).cad = s.cad := rfl
@[simp] theorem setEng_spk (s : State) (f : Eng → Eng) : (s.setEng f).spk = s.spk := rfl
@[simp] theorem setEng_rim (s : State) (f : Eng → Eng) : (s.setEng f).rim = s.rim := rfl
@[simp] theorem setEng_gl (s : State) (f : Eng → Eng) : (s.setEng f).gl = s.gl := rfl
@[simp] theorem setEng_eng (s : State) (f : Eng → Eng) : (s.setEng f).eng = f s.eng := rfl
@[simp] theorem setEng_em (s : State) (f : Eng → Eng) : (s.setEng f).em = s.em := rfl
@[simp] theorem setEng_th (s : State) (f : Eng → Eng) : (s.setEng f).th = s.th := rfl
@[simp] theorem setEng_bg (s : State) (f : Eng → Eng) : (s.setEng f).bg = s.bg := rfl
@[simp] theorem setEng_car (s : State) (f : Eng → Eng) : (s.setEng f).car = s.car := rfl
@[simp] theorem setEng_pel (s : State) (f : Eng → Eng) : (s.setEng f).pel = s.pel := rfl
@[simp] theorem setEng_mg (s : State) (f : Eng → Eng) : (s.setEng f).mg = s.mg := rfl
@[simp] theorem setEng_rc (s : State) (f : Eng → Eng) : (s.setEng f).rc = s.rc := rfl
@[simp] theorem setEng_mtr (s : State) (f : Eng → Eng) : (s.setEng f).mtr = s.mtr := rfl
@[simp] theorem setEng_mir (s : State) (f : Eng → Eng) : (s.setEng f).mir = s.mir := rfl
@[simp] theorem setEng_cmd (s : State) (f : Eng → Eng) : (s.setEng f).cmd = s.cmd := rfl
@[simp] theorem setEng_bus (s : State) (f : Eng → Eng) : (s.setEng f).bus = s.bus := rfl
@[simp] theorem setEng_fw (s : State) (f : Eng → Eng) : (s.setEng f).fw = s.fw := rfl
@[simp] theorem setEng_free (s : State) (f : Eng → Eng) : (s.setEng f).free = s.free := rfl
@[simp] theorem setEng_emit (s : State) (f : Eng → Eng) : (s.setEng f).emit = s.emit := rfl
@[simp] theorem setEng_pending (s : State) (f : Eng → Eng) : (s.setEng f).pending = s.pending := rfl
@[simp] theorem setEng_rd (s : State) (f : Eng → Eng) (F : Fld) (i : Nat) : (s.setEng f).rd F i = s.rd F i := rfl
@[simp] theorem setEng_inf (s : State) (f : Eng → Eng) (F : Fld) (i : Nat) : (s.setEng f).inf F i = s.inf F i := rfl

/-! ### `setEm` -/

@[simp] theorem setEm_tick (s : State) (f : Em → Em) : (s.setEm f).tick = s.tick := rfl
@[simp] theorem setEm_locks (s : State) (f : Em → Em) : (s.setEm f).locks = s.locks := rfl
@[simp] theorem setEm_fields (s : State) (f : Em → Em) : (s.setEm f).fields = s.fields := rfl
@[simp] theorem setEm_rwl (s : State) (f : Em → Em) : (s.setEm f).rwl = s.rwl := rfl
@[simp] theorem setEm_inForce (s : State) (f : Em → Em) : (s.setEm f).inForce = s.inForce := rfl
@[simp] theorem setEm_cad (s : State) (f : Em → Em) : (s.setEm f).cad = s.cad := rfl
@[simp] theorem setEm_spk (s : State) (f : Em → Em) : (s.setEm f).spk = s.spk := rfl
@[simp] theorem setEm_rim (s : State) (f : Em → Em) : (s.setEm f).rim = s.rim := rfl
@[simp] theorem setEm_gl (s : State) (f : Em → Em) : (s.setEm f).gl = s.gl := rfl
@[simp] theorem setEm_eng (s : State) (f : Em → Em) : (s.setEm f).eng = s.eng := rfl
@[simp] theorem setEm_em (s : State) (f : Em → Em) : (s.setEm f).em = f s.em := rfl
@[simp] theorem setEm_th (s : State) (f : Em → Em) : (s.setEm f).th = s.th := rfl
@[simp] theorem setEm_bg (s : State) (f : Em → Em) : (s.setEm f).bg = s.bg := rfl
@[simp] theorem setEm_car (s : State) (f : Em → Em) : (s.setEm f).car = s.car := rfl
@[simp] theorem setEm_pel (s : State) (f : Em → Em) : (s.setEm f).pel = s.pel := rfl
@[simp] theorem setEm_mg (s : State) (f : Em → Em) : (s.setEm f).mg = s.mg := rfl
@[simp] theorem setEm_rc (s : State) (f : Em → Em) : (s.setEm f).rc = s.rc := rfl
@[simp] theorem setEm_mtr (s : State) (f : Em → Em) : (s.setEm f).mtr = s.mtr := rfl
@[simp] theorem setEm_mir (s : State) (f : Em → Em) : (s.setEm f).mir = s.mir := rfl
@[simp] theorem setEm_cmd (s : State) (f : Em → Em) : (s.setEm f).cmd = s.cmd := rfl
@[simp] theorem setEm_bus (s : State) (f : Em → Em) : (s.setEm f).bus = s.bus := rfl
@[simp] theorem setEm_fw (s : State) (f : Em → Em) : (s.setEm f).fw = s.fw := rfl
@[simp] theorem setEm_free (s : State) (f : Em → Em) : (s.setEm f).free = s.free := rfl
@[simp] theorem setEm_emit (s : State) (f : Em → Em) : (s.setEm f).emit = s.emit := rfl
@[simp] theorem setEm_pending (s : State) (f : Em → Em) : (s.setEm f).pending = s.pending := rfl
@[simp] theorem setEm_rd (s : State) (f : Em → Em) (F : Fld) (i : Nat) : (s.setEm f).rd F i = s.rd F i := rfl
@[simp] theorem setEm_inf (s : State) (f : Em → Em) (F : Fld) (i : Nat) : (s.setEm f).inf F i = s.inf F i := rfl

/-! ### `setTh` -/

@[simp] theorem setTh_tick (s : State) (f : Th → Th) : (s.setTh f).tick = s.tick := rfl
@[simp] theorem setTh_locks (s : State) (f : Th → Th) : (s.setTh f).locks = s.locks := rfl
@[simp] theorem setTh_fields (s : State) (f : Th → Th) : (s.setTh f).fields = s.fields := rfl
@[simp] theorem setTh_rwl (s : State) (f : Th → Th) : (s.setTh f).rwl = s.rwl := rfl
@[simp] theorem setTh_inForce (s : State) (f : Th → Th) : (s.setTh f).inForce = s.inForce := rfl
@[simp] theorem setTh_cad (s : State) (f : Th → Th) : (s.setTh f).cad = s.cad := rfl
@[simp] theorem setTh_spk (s : State) (f : Th → Th) : (s.setTh f).spk = s.spk := rfl
@[simp] theorem setTh_rim (s : State) (f : Th → Th) : (s.setTh f).rim = s.rim := rfl
@[simp] theorem setTh_gl (s : State) (f : Th → Th) : (s.setTh f).gl = s.gl := rfl
@[simp] theorem setTh_eng (s : State) (f : Th → Th) : (s.setTh f).eng = s.eng := rfl
@[simp] theorem setTh_em (s : State) (f : Th → Th) : (s.setTh f).em = s.em := rfl
@[simp] theorem setTh_th (s : State) (f : Th → Th) : (s.setTh f).th = f s.th := rfl
@[simp] theorem setTh_bg (s : State) (f : Th → Th) : (s.setTh f).bg = s.bg := rfl
@[simp] theorem setTh_car (s : State) (f : Th → Th) : (s.setTh f).car = s.car := rfl
@[simp] theorem setTh_pel (s : State) (f : Th → Th) : (s.setTh f).pel = s.pel := rfl
@[simp] theorem setTh_mg (s : State) (f : Th → Th) : (s.setTh f).mg = s.mg := rfl
@[simp] theorem setTh_rc (s : State) (f : Th → Th) : (s.setTh f).rc = s.rc := rfl
@[simp] theorem setTh_mtr (s : State) (f : Th → Th) : (s.setTh f).mtr = s.mtr := rfl
@[simp] theorem setTh_mir (s : State) (f : Th → Th) : (s.setTh f).mir = s.mir := rfl
@[simp] theorem setTh_cmd (s : State) (f : Th → Th) : (s.setTh f).cmd = s.cmd := rfl
@[simp] theorem setTh_bus (s : State) (f : Th → Th) : (s.setTh f).bus = s.bus := rfl
@[simp] theorem setTh_fw (s : State) (f : Th → Th) : (s.setTh f).fw = s.fw := rfl
@[simp] theorem setTh_free (s : State) (f : Th → Th) : (s.setTh f).free = s.free := rfl
@[simp] theorem setTh_emit (s : State) (f : Th → Th) : (s.setTh f).emit = s.emit := rfl
@[simp] theorem setTh_pending (s : State) (f : Th → Th) : (s.setTh f).pending = s.pending := rfl
@[simp] theorem setTh_rd (s : State) (f : Th → Th) (F : Fld) (i : Nat) : (s.setTh f).rd F i = s.rd F i := rfl
@[simp] theorem setTh_inf (s : State) (f : Th → Th) (F : Fld) (i : Nat) : (s.setTh f).inf F i = s.inf F i := rfl

/-! ### `setBg` -/

@[simp] theorem setBg_tick (s : State) (f : Bg → Bg) : (s.setBg f).tick = s.tick := rfl
@[simp] theorem setBg_locks (s : State) (f : Bg → Bg) : (s.setBg f).locks = s.locks := rfl
@[simp] theorem setBg_fields (s : State) (f : Bg → Bg) : (s.setBg f).fields = s.fields := rfl
@[simp] theorem setBg_rwl (s : State) (f : Bg → Bg) : (s.setBg f).rwl = s.rwl := rfl
@[simp] theorem setBg_inForce (s : State) (f : Bg → Bg) : (s.setBg f).inForce = s.inForce := rfl
@[simp] theorem setBg_cad (s : State) (f : Bg → Bg) : (s.setBg f).cad = s.cad := rfl
@[simp] theorem setBg_spk (s : State) (f : Bg → Bg) : (s.setBg f).spk = s.spk := rfl
@[simp] theorem setBg_rim (s : State) (f : Bg → Bg) : (s.setBg f).rim = s.rim := rfl
@[simp] theorem setBg_gl (s : State) (f : Bg → Bg) : (s.setBg f).gl = s.gl := rfl
@[simp] theorem setBg_eng (s : State) (f : Bg → Bg) : (s.setBg f).eng = s.eng := rfl
@[simp] theorem setBg_em (s : State) (f : Bg → Bg) : (s.setBg f).em = s.em := rfl
@[simp] theorem setBg_th (s : State) (f : Bg → Bg) : (s.setBg f).th = s.th := rfl
@[simp] theorem setBg_bg (s : State) (f : Bg → Bg) : (s.setBg f).bg = f s.bg := rfl
@[simp] theorem setBg_car (s : State) (f : Bg → Bg) : (s.setBg f).car = s.car := rfl
@[simp] theorem setBg_pel (s : State) (f : Bg → Bg) : (s.setBg f).pel = s.pel := rfl
@[simp] theorem setBg_mg (s : State) (f : Bg → Bg) : (s.setBg f).mg = s.mg := rfl
@[simp] theorem setBg_rc (s : State) (f : Bg → Bg) : (s.setBg f).rc = s.rc := rfl
@[simp] theorem setBg_mtr (s : State) (f : Bg → Bg) : (s.setBg f).mtr = s.mtr := rfl
@[simp] theorem setBg_mir (s : State) (f : Bg → Bg) : (s.setBg f).mir = s.mir := rfl
@[simp] theorem setBg_cmd (s : State) (f : Bg → Bg) : (s.setBg f).cmd = s.cmd := rfl
@[simp] theorem setBg_bus (s : State) (f : Bg → Bg) : (s.setBg f).bus = s.bus := rfl
@[simp] theorem setBg_fw (s : State) (f : Bg → Bg) : (s.setBg f).fw = s.fw := rfl
@[simp] theorem setBg_free (s : State) (f : Bg → Bg) : (s.setBg f).free = s.free := rfl
@[simp] theorem setBg_emit (s : State) (f : Bg → Bg) : (s.setBg f).emit = s.emit := rfl
@[simp] theorem setBg_pending (s : State) (f : Bg → Bg) : (s.setBg f).pending = s.pending := rfl
@[simp] theorem setBg_rd (s : State) (f : Bg → Bg) (F : Fld) (i : Nat) : (s.setBg f).rd F i = s.rd F i := rfl
@[simp] theorem setBg_inf (s : State) (f : Bg → Bg) (F : Fld) (i : Nat) : (s.setBg f).inf F i = s.inf F i := rfl

/-! ### `setCar` -/

@[simp] theorem setCar_tick (s : State) (f : Car → Car) : (s.setCar f).tick = s.tick := rfl
@[simp] theorem setCar_locks (s : State) (f : Car → Car) : (s.setCar f).locks = s.locks := rfl
@[simp] theorem setCar_fields (s : State) (f : Car → Car) : (s.setCar f).fields = s.fields := rfl
@[simp] theorem setCar_rwl (s : State) (f : Car → Car) : (s.setCar f).rwl = s.rwl := rfl
@[simp] theorem setCar_inForce (s : State) (f : Car → Car) : (s.setCar f).inForce = s.inForce := rfl
@[simp] theorem setCar_cad (s : State) (f : Car → Car) : (s.setCar f).cad = s.cad := rfl
@[simp] theorem setCar_spk (s : State) (f : Car → Car) : (s.setCar f).spk = s.spk := rfl
@[simp] theorem setCar_rim (s : State) (f : Car → Car) : (s.setCar f).rim = s.rim := rfl
@[simp] theorem setCar_gl (s : State) (f : Car → Car) : (s.setCar f).gl = s.gl := rfl
@[simp] theorem setCar_eng (s : State) (f : Car → Car) : (s.setCar f).eng = s.eng := rfl
@[simp] theorem setCar_em (s : State) (f : Car → Car) : (s.setCar f).em = s.em := rfl
@[simp] theorem setCar_th (s : State) (f : Car → Car) : (s.setCar f).th = s.th := rfl
@[simp] theorem setCar_bg (s : State) (f : Car → Car) : (s.setCar f).bg = s.bg := rfl
@[simp] theorem setCar_car (s : State) (f : Car → Car) : (s.setCar f).car = f s.car := rfl
@[simp] theorem setCar_pel (s : State) (f : Car → Car) : (s.setCar f).pel = s.pel := rfl
@[simp] theorem setCar_mg (s : State) (f : Car → Car) : (s.setCar f).mg = s.mg := rfl
@[simp] theorem setCar_rc (s : State) (f : Car → Car) : (s.setCar f).rc = s.rc := rfl
@[simp] theorem setCar_mtr (s : State) (f : Car → Car) : (s.setCar f).mtr = s.mtr := rfl
@[simp] theorem setCar_mir (s : State) (f : Car → Car) : (s.setCar f).mir = s.mir := rfl
@[simp] theorem setCar_cmd (s : State) (f : Car → Car) : (s.setCar f).cmd = s.cmd := rfl
@[simp] theorem setCar_bus (s : State) (f : Car → Car) : (s.setCar f).bus = s.bus := rfl
@[simp] theorem setCar_fw (s : State) (f : Car → Car) : (s.setCar f).fw = s.fw := rfl
@[simp] theorem setCar_free (s : State) (f : Car → Car) : (s.setCar f).free = s.free := rfl
@[simp] theorem setCar_emit (s : State) (f : Car → Car) : (s.setCar f).emit = s.emit := rfl
@[simp] theorem setCar_pending (s : State) (f : Car → Car) : (s.setCar f).pending = s.pending := rfl
@[simp] theorem setCar_rd (s : State) (f : Car → Car) (F : Fld) (i : Nat) : (s.setCar f).rd F i = s.rd F i := rfl
@[simp] theorem setCar_inf (s : State) (f : Car → Car) (F : Fld) (i : Nat) : (s.setCar f).inf F i = s.inf F i := rfl

/-! ### `setPel` -/

@[simp] theorem setPel_tick (s : State) (f : Pel → Pel) : (s.setPel f).tick = s.tick := rfl
@[simp] theorem setPel_locks (s : State) (f : Pel → Pel) : (s.setPel f).locks = s.locks := rfl
@[simp] theorem setPel_fields (s : State) (f : Pel → Pel) : (s.setPel f).fields = s.fields := rfl
@[simp] theorem setPel_rwl (s : State) (f : Pel → Pel) : (s.setPel f).rwl = s.rwl := rfl
@[simp] theorem setPel_inForce (s : State) (f : Pel → Pel) : (s.setPel f).inForce = s.inForce := rfl
@[simp] theorem setPel_cad (s : State) (f : Pel → Pel) : (s.setPel f).cad = s.cad := rfl
@[simp] theorem setPel_spk (s : State) (f : Pel → Pel) : (s.setPel f).spk = s.spk := rfl
@[simp] theorem setPel_rim (s : State) (f : Pel → Pel) : (s.setPel f).rim = s.rim := rfl
@[simp] theorem setPel_gl (s : State) (f : Pel → Pel) : (s.setPel f).gl = s.gl := rfl
@[simp] theorem setPel_eng (s : State) (f : Pel → Pel) : (s.setPel f).eng = s.eng := rfl
@[simp] theorem setPel_em (s : State) (f : Pel → Pel) : (s.setPel f).em = s.em := rfl
@[simp] theorem setPel_th (s : State) (f : Pel → Pel) : (s.setPel f).th = s.th := rfl
@[simp] theorem setPel_bg (s : State) (f : Pel → Pel) : (s.setPel f).bg = s.bg := rfl
@[simp] theorem setPel_car (s : State) (f : Pel → Pel) : (s.setPel f).car = s.car := rfl
@[simp] theorem setPel_pel (s : State) (f : Pel → Pel) : (s.setPel f).pel = f s.pel := rfl
@[simp] theorem setPel_mg (s : State) (f : Pel → Pel) : (s.setPel f).mg = s.mg := rfl
@[simp] theorem setPel_rc (s : State) (f : Pel → Pel) : (s.setPel f).rc = s.rc := rfl
@[simp] theorem setPel_mtr (s : State) (f : Pel → Pel) : (s.setPel f).mtr = s.mtr := rfl
@[simp] theorem setPel_mir (s : State) (f : Pel → Pel) : (s.setPel f).mir = s.mir := rfl
@[simp] theorem setPel_cmd (s : State) (f : Pel → Pel) : (s.setPel f).cmd = s.cmd := rfl
@[simp] theorem setPel_bus (s : State) (f : Pel → Pel) : (s.setPel f).bus = s.bus := rfl
@[simp] theorem setPel_fw (s : State) (f : Pel → Pel) : (s.setPel f).fw = s.fw := rfl
@[simp] theorem setPel_free (s : State) (f : Pel → Pel) : (s.setPel f).free = s.free := rfl
@[simp] theorem setPel_emit (s : State) (f : Pel → Pel) : (s.setPel f).emit = s.emit := rfl
@[simp] theorem setPel_pending (s : State) (f : Pel → Pel) : (s.setPel f).pending = s.pending := rfl
@[simp] theorem setPel_rd (s : State) (f : Pel → Pel) (F : Fld) (i : Nat) : (s.setPel f).rd F i = s.rd F i := rfl
@[simp] theorem setPel_inf (s : State) (f : Pel → Pel) (F : Fld) (i : Nat) : (s.setPel f).inf F i = s.inf F i := rfl

/-! ### `setMg` -/

@[simp] theorem setMg_tick (s : State) (f : Mg → Mg) : (s.setMg f).tick = s.tick := rfl
@[simp] theorem setMg_locks (s : State) (f : Mg → Mg) : (s.setMg f).locks = s.locks := rfl
@[simp] theorem setMg_fields (s : State) (f : Mg → Mg) : (s.setMg f).fields = s.fields := rfl
@[simp] theorem setMg_rwl (s : State) (f : Mg → Mg) : (s.setMg f).rwl = s.rwl := rfl
@[simp] theorem setMg_inForce (s : State) (f : Mg → Mg) : (s.setMg f).inForce = s.inForce := rfl
@[simp] theorem setMg_cad (s : State) (f : Mg → Mg) : (s.setMg f).cad = s.cad := rfl
@[simp] theorem setMg_spk (s : State) (f : Mg → Mg) : (s.setMg f).spk = s.spk := rfl
@[simp] theorem setMg_rim (s : State) (f : Mg → Mg) : (s.setMg f).rim = s.rim := rfl
@[simp] theorem setMg_gl (s : State) (f : Mg → Mg) : (s.setMg f).gl = s.gl := rfl
@[simp] theorem setMg_eng (s : State) (f : Mg → Mg) : (s.setMg f).eng = s.eng := rfl
@[simp] theorem setMg_em (s : State) (f : Mg → Mg) : (s.setMg f).em = s.em := rfl
@[simp] theorem setMg_th (s : State) (f : Mg → Mg) : (s.setMg f).th = s.th := rfl
@[simp] theorem setMg_bg (s : State) (f : Mg → Mg) : (s.setMg f).bg = s.bg := rfl
@[simp] theorem setMg_car (s : State) (f : Mg → Mg) : (s.setMg f).car = s.car := rfl
@[simp] theorem setMg_pel (s : State) (f : Mg → Mg) : (s.setMg f).pel = s.pel := rfl
@[simp] theorem setMg_mg (s : State) (f : Mg → Mg) : (s.setMg f).mg = f s.mg := rfl
@[simp] theorem setMg_rc (s : State) (f : Mg → Mg) : (s.setMg f).rc = s.rc := rfl
@[simp] theorem setMg_mtr (s : State) (f : Mg → Mg) : (s.setMg f).mtr = s.mtr := rfl
@[simp] theorem setMg_mir (s : State) (f : Mg → Mg) : (s.setMg f).mir = s.mir := rfl
@[simp] theorem setMg_cmd (s : State) (f : Mg → Mg) : (s.setMg f).cmd = s.cmd := rfl
@[simp] theorem setMg_bus (s : State) (f : Mg → Mg) : (s.setMg f).bus = s.bus := rfl
@[simp] theorem setMg_fw (s : State) (f : Mg → Mg) : (s.setMg f).fw = s.fw := rfl
@[simp] theorem setMg_free (s : State) (f : Mg → Mg) : (s.setMg f).free = s.free := rfl
@[simp] theorem setMg_emit (s : State) (f : Mg → Mg) : (s.setMg f).emit = s.emit := rfl
@[simp] theorem setMg_pending (s : State) (f : Mg → Mg) : (s.setMg f).pending = s.pending := rfl
@[simp] theorem setMg_rd (s : State) (f : Mg → Mg) (F : Fld) (i : Nat) : (s.setMg f).rd F i = s.rd F i := rfl
@[simp] theorem setMg_inf (s : State) (f : Mg → Mg) (F : Fld) (i : Nat) : (s.setMg f).inf F i = s.inf F i := rfl

/-! ### `setRc` -/

@[simp] theorem setRc_tick (s : State) (f : Rc → Rc) : (s.setRc f).tick = s.tick := rfl
@[simp] theorem setRc_locks (s : State) (f : Rc → Rc) : (s.setRc f).locks = s.locks := rfl
@[simp] theorem setRc_fields (s : State) (f : Rc → Rc) : (s.setRc f).fields = s.fields := rfl
@[simp] theorem setRc_rwl (s : State) (f : Rc → Rc) : (s.setRc f).rwl = s.rwl := rfl
@[simp] theorem setRc_inForce (s : State) (f : Rc → Rc) : (s.setRc f).inForce = s.inForce := rfl
@[simp] theorem setRc_cad (s : State) (f : Rc → Rc) : (s.setRc f).cad = s.cad := rfl
@[simp] theorem setRc_spk (s : State) (f : Rc → Rc) : (s.setRc f).spk = s.spk := rfl
@[simp] theorem setRc_rim (s : State) (f : Rc → Rc) : (s.setRc f).rim = s.rim := rfl
@[simp] theorem setRc_gl (s : State) (f : Rc → Rc) : (s.setRc f).gl = s.gl := rfl
@[simp] theorem setRc_eng (s : State) (f : Rc → Rc) : (s.setRc f).eng = s.eng := rfl
@[simp] theorem setRc_em (s : State) (f : Rc → Rc) : (s.setRc f).em = s.em := rfl
@[simp] theorem setRc_th (s : State) (f : Rc → Rc) : (s.setRc f).th = s.th := rfl
@[simp] theorem setRc_bg (s : State) (f : Rc → Rc) : (s.setRc f).bg = s.bg := rfl
@[simp] theorem setRc_car (s : State) (f : Rc → Rc) : (s.setRc f).car = s.car := rfl
@[simp] theorem setRc_pel (s : State) (f : Rc → Rc) : (s.setRc f).pel = s.pel := rfl
@[simp] theorem setRc_mg (s : State) (f : Rc → Rc) : (s.setRc f).mg = s.mg := rfl
@[simp] theorem setRc_rc (s : State) (f : Rc → Rc) : (s.setRc f).rc = f s.rc := rfl
@[simp] theorem setRc_mtr (s : State) (f : Rc → Rc) : (s.setRc f).mtr = s.mtr := rfl
@[simp] theorem setRc_mir (s : State) (f : Rc → Rc) : (s.setRc f).mir = s.mir := rfl
@[simp] theorem setRc_cmd (s : State) (f : Rc → Rc) : (s.setRc f).cmd = s.cmd := rfl
@[simp] theorem setRc_bus (s : State) (f : Rc → Rc) : (s.setRc f).bus = s.bus := rfl
@[simp] theorem setRc_fw (s : State) (f : Rc → Rc) : (s.setRc f).fw = s.fw := rfl
@[simp] theorem setRc_free (s : State) (f : Rc → Rc) : (s.setRc f).free = s.free := rfl
@[simp] theorem setRc_emit (s : State) (f : Rc → Rc) : (s.setRc f).emit = s.emit := rfl
@[simp] theorem setRc_pending (s : State) (f : Rc → Rc) : (s.setRc f).pending = s.pending := rfl
@[simp] theorem setRc_rd (s : State) (f : Rc → Rc) (F : Fld) (i : Nat) : (s.setRc f).rd F i = s.rd F i := rfl
@[simp] theorem setRc_inf (s : State) (f : Rc → Rc) (F : Fld) (i : Nat) : (s.setRc f).inf F i = s.inf F i := rfl

/-! ### `setMtr` -/

@[simp] theorem setMtr_tick (s : State) (f : Mtr → Mtr) : (s.setMtr f).tick = s.tick := rfl
@[simp] theorem setMtr_locks (s : State) (f : Mtr → Mtr) : (s.setMtr f).locks = s.locks := rfl
@[simp] theorem setMtr_fields (s : State) (f : Mtr → Mtr) : (s.setMtr f).fields = s.fields := rfl
@[simp] theorem setMtr_rwl (s : State) (f : Mtr → Mtr) : (s.setMtr f).rwl = s.rwl := rfl
@[simp] theorem setMtr_inForce (s : State) (f : Mtr → Mtr) : (s.setMtr f).inForce = s.inForce := rfl
@[simp] theorem setMtr_cad (s : State) (f : Mtr → Mtr) : (s.setMtr f).cad = s.cad := rfl
@[simp] theorem setMtr_spk (s : State) (f : Mtr → Mtr) : (s.setMtr f).spk = s.spk := rfl
@[simp] theorem setMtr_rim (s : State) (f : Mtr → Mtr) : (s.setMtr f).rim = s.rim := rfl
@[simp] theorem setMtr_gl (s : State) (f : Mtr → Mtr) : (s.setMtr f).gl = s.gl := rfl
@[simp] theorem setMtr_eng (s : State) (f : Mtr → Mtr) : (s.setMtr f).eng = s.eng := rfl
@[simp] theorem setMtr_em (s : State) (f : Mtr → Mtr) : (s.setMtr f).em = s.em := rfl
@[simp] theorem setMtr_th (s : State) (f : Mtr → Mtr) : (s.setMtr f).th = s.th := rfl
@[simp] theorem setMtr_bg (s : State) (f : Mtr → Mtr) : (s.setMtr f).bg = s.bg := rfl
@[simp] theorem setMtr_car (s : State) (f : Mtr → Mtr) : (s.setMtr f).car = s.car := rfl
@[simp] theorem setMtr_pel (s : State) (f : Mtr → Mtr) : (s.setMtr f).pel = s.pel := rfl
@[simp] theorem setMtr_mg (s : State) (f : Mtr → Mtr) : (s.setMtr f).mg = s.mg := rfl
@[simp] theorem setMtr_rc (s : State) (f : Mtr → Mtr) : (s.setMtr f).rc = s.rc := rfl
@[simp] theorem setMtr_mtr (s : State) (f : Mtr → Mtr) : (s.setMtr f).mtr = f s.mtr := rfl
@[simp] theorem setMtr_mir (s : State) (f : Mtr → Mtr) : (s.setMtr f).mir = s.mir := rfl
@[simp] theorem setMtr_cmd (s : State) (f : Mtr → Mtr) : (s.setMtr f).cmd = s.cmd := rfl
@[simp] theorem setMtr_bus (s : State) (f : Mtr → Mtr) : (s.setMtr f).bus = s.bus := rfl
@[simp] theorem setMtr_fw (s : State) (f : Mtr → Mtr) : (s.setMtr f).fw = s.fw := rfl
@[simp] theorem setMtr_free (s : State) (f : Mtr → Mtr) : (s.setMtr f).free = s.free := rfl
@[simp] theorem setMtr_emit (s : State) (f : Mtr → Mtr) : (s.setMtr f).emit = s.emit := rfl
@[simp] theorem setMtr_pending (s : State) (f : Mtr → Mtr) : (s.setMtr f).pending = s.pending := rfl
@[simp] theorem setMtr_rd (s : State) (f : Mtr → Mtr) (F : Fld) (i : Nat) : (s.setMtr f).rd F i = s.rd F i := rfl
@[simp] theorem setMtr_inf (s : State) (f : Mtr → Mtr) (F : Fld) (i : Nat) : (s.setMtr f).inf F i = s.inf F i := rfl

/-! ### `setMir` -/

@[simp] theorem setMir_tick (s : State) (f : Mirror → Mirror) : (s.setMir f).tick = s.tick := rfl
@[simp] theorem setMir_locks (s : State) (f : Mirror → Mirror) : (s.setMir f).locks = s.locks := rfl
@[simp] theorem setMir_fields (s : State) (f : Mirror → Mirror) : (s.setMir f).fields = s.fields := rfl
@[simp] theorem setMir_rwl (s : State) (f : Mirror → Mirror) : (s.setMir f).rwl = s.rwl := rfl
@[simp] theorem setMir_inForce (s : State) (f : Mirror → Mirror) : (s.setMir f).inForce = s.inForce := rfl
@[simp] theorem setMir_cad (s : State) (f : Mirror → Mirror) : (s.setMir f).cad = s.cad := rfl
@[simp] theorem setMir_spk (s : State) (f : Mirror → Mirror) : (s.setMir f).spk = s.spk := rfl
@[simp] theorem setMir_rim (s : State) (f : Mirror → Mirror) : (s.setMir f).rim = s.rim := rfl
@[simp] theorem setMir_gl (s : State) (f : Mirror → Mirror) : (s.setMir f).gl = s.gl := rfl
@[simp] theorem setMir_eng (s : State) (f : Mirror → Mirror) : (s.setMir f).eng = s.eng := rfl
@[simp] theorem setMir_em (s : State) (f : Mirror → Mirror) : (s.setMir f).em = s.em := rfl
@[simp] theorem setMir_th (s : State) (f : Mirror → Mirror) : (s.setMir f).th = s.th := rfl
@[simp] theorem setMir_bg (s : State) (f : Mirror → Mirror) : (s.setMir f).bg = s.bg := rfl
@[simp] theorem setMir_car (s : State) (f : Mirror → Mirror) : (s.setMir f).car = s.car := rfl
@[simp] theorem setMir_pel (s : State) (f : Mirror → Mirror) : (s.setMir f).pel = s.pel := rfl
@[simp] theorem setMir_mg (s : State) (f : Mirror → Mirror) : (s.setMir f).mg = s.mg := rfl
@[simp] theorem setMir_rc (s : State) (f : Mirror → Mirror) : (s.setMir f).rc = s.rc := rfl
@[simp] theorem setMir_mtr (s : State) (f : Mirror → Mirror) : (s.setMir f).mtr = s.mtr := rfl
@[simp] theorem setMir_mir (s : State) (f : Mirror → Mirror) : (s.setMir f).mir = f s.mir := rfl
@[simp] theorem setMir_cmd (s : State) (f : Mirror → Mirror) : (s.setMir f).cmd = s.cmd := rfl
@[simp] theorem setMir_bus (s : State) (f : Mirror → Mirror) : (s.setMir f).bus = s.bus := rfl
@[simp] theorem setMir_fw (s : State) (f : Mirror → Mirror) : (s.setMir f).fw = s.fw := rfl
@[simp] theorem setMir_free (s : State) (f : Mirror → Mirror) : (s.setMir f).free = s.free := rfl
@[simp] theorem setMir_emit (s : State) (f : Mirror → Mirror) : (s.setMir f).emit = s.emit := rfl
@[simp] theorem setMir_pending (s : State) (f : Mirror → Mirror) : (s.setMir f).pending = s.pending := rfl
@[simp] theorem setMir_rd (s : State) (f : Mirror → Mirror) (F : Fld) (i : Nat) : (s.setMir f).rd F i = s.rd F i := rfl
@[simp] theorem setMir_inf (s : State) (f : Mirror → Mirror) (F : Fld) (i : Nat) : (s.setMir f).inf F i = s.inf F i := rfl

/-! ### `setCmd` -/

@[simp] theorem setCmd_tick (s : State) (f : Cmd → Cmd) : (s.setCmd f).tick = s.tick := rfl
@[simp] theorem setCmd_locks (s : State) (f : Cmd → Cmd) : (s.setCmd f).locks = s.locks := rfl
@[simp] theorem setCmd_fields (s : State) (f : Cmd → Cmd) : (s.setCmd f).fields = s.fields := rfl
@[simp] theorem setCmd_rwl (s : State) (f : Cmd → Cmd) : (s.setCmd f).rwl = s.rwl := rfl
@[simp] theorem setCmd_inForce (s : State) (f : Cmd → Cmd) : (s.setCmd f).inForce = s.inForce := rfl
@[simp] theorem setCmd_cad (s : State) (f : Cmd → Cmd) : (s.setCmd f).cad = s.cad := rfl
@[simp] theorem setCmd_spk (s : State) (f : Cmd → Cmd) : (s.setCmd f).spk = s.spk := rfl
@[simp] theorem setCmd_rim (s : State) (f : Cmd → Cmd) : (s.setCmd f).rim = s.rim := rfl
@[simp] theorem setCmd_gl (s : State) (f : Cmd → Cmd) : (s.setCmd f).gl = s.gl := rfl
@[simp] theorem setCmd_eng (s : State) (f : Cmd → Cmd) : (s.setCmd f).eng = s.eng := rfl
@[simp] theorem setCmd_em (s : State) (f : Cmd → Cmd) : (s.setCmd f).em = s.em := rfl
@[simp] theorem setCmd_th (s : State) (f : Cmd → Cmd) : (s.setCmd f).th = s.th := rfl
@[simp] theorem setCmd_bg (s : State) (f : Cmd → Cmd) : (s.setCmd f).bg = s.bg := rfl
@[simp] theorem setCmd_car (s : State) (f : Cmd → Cmd) : (s.setCmd f).car = s.car := rfl
@[simp] theorem setCmd_pel (s : State) (f : Cmd → Cmd) : (s.setCmd f).pel = s.pel := rfl
@[simp] theorem setCmd_mg (s : State) (f : Cmd → Cmd) : (s.setCmd f).mg = s.mg := rfl
@[simp] theorem setCmd_rc (s : State) (f : Cmd → Cmd) : (s.setCmd f).rc = s.rc := rfl
@[simp] theorem setCmd_mtr (s : State) (f : Cmd → Cmd) : (s.setCmd f).mtr = s.mtr := rfl
@[simp] theorem setCmd_mir (s : State) (f : Cmd → Cmd) : (s.setCmd f).mir = s.mir := rfl
@[simp] theorem setCmd_cmd (s : State) (f : Cmd → Cmd) : (s.setCmd f).cmd = f s.cmd := rfl
@[simp] theorem setCmd_bus (s : State) (f : Cmd → Cmd) : (s.setCmd f).bus = s.bus := rfl
@[simp] theorem setCmd_fw (s : State) (f : Cmd → Cmd) : (s.setCmd f).fw = s.fw := rfl
@[simp] theorem setCmd_free (s : State) (f : Cmd → Cmd) : (s.setCmd f).free = s.free := rfl
@[simp] theorem setCmd_emit (s : State) (f : Cmd → Cmd) : (s.setCmd f).emit = s.emit := rfl
@[simp] theorem setCmd_pending (s : State) (f : Cmd → Cmd) : (s.setCmd f).pending = s.pending := rfl
@[simp] theorem setCmd_rd (s : State) (f : Cmd → Cmd) (F : Fld) (i : Nat) : (s.setCmd f).rd F i = s.rd F i := rfl
@[simp] theorem setCmd_inf (s : State) (f : Cmd → Cmd) (F : Fld) (i : Nat) : (s.setCmd f).inf F i = s.inf F i := rfl

/-! ### `setBus` -/

@[simp] theorem setBus_tick (s : State) (f : Bus → Bus) : (s.setBus f).tick = s.tick := rfl
@[simp] theorem setBus_locks (s : State) (f : Bus → Bus) : (s.setBus f).locks = s.locks := rfl
@[simp] theorem setBus_fields (s : State) (f : Bus → Bus) : (s.setBus f).fields = s.fields := rfl
@[simp] theorem setBus_rwl (s : State) (f : Bus → Bus) : (s.setBus f).rwl = s.rwl := rfl
@[simp] theorem setBus_inForce (s : State) (f : Bus → Bus) : (s.setBus f).inForce = s.inForce := rfl
@[simp] theorem setBus_cad (s : State) (f : Bus → Bus) : (s.setBus f).cad = s.cad := rfl
@[simp] theorem setBus_spk (s : State) (f : Bus → Bus) : (s.setBus f).spk = s.spk := rfl
@[simp] theorem setBus_rim (s : State) (f : Bus → Bus) : (s.setBus f).rim = s.rim := rfl
@[simp] theorem setBus_gl (s : State) (f : Bus → Bus) : (s.setBus f).gl = s.gl := rfl
@[simp] theorem setBus_eng (s : State) (f : Bus → Bus) : (s.setBus f).eng = s.eng := rfl
@[simp] theorem setBus_em (s : State) (f : Bus → Bus) : (s.setBus f).em = s.em := rfl
@[simp] theorem setBus_th (s : State) (f : Bus → Bus) : (s.setBus f).th = s.th := rfl
@[simp] theorem setBus_bg (s : State) (f : Bus → Bus) : (s.setBus f).bg = s.bg := rfl
@[simp] theorem setBus_car (s : State) (f : Bus → Bus) : (s.setBus f).car = s.car := rfl
@[simp] theorem setBus_pel (s : State) (f : Bus → Bus) : (s.setBus f).pel = s.pel := rfl
@[simp] theorem setBus_mg (s : State) (f : Bus → Bus) : (s.setBus f).mg = s.mg := rfl
@[simp] theorem setBus_rc (s : State) (f : Bus → Bus) : (s.setBus f).rc = s.rc := rfl
@[simp] theorem setBus_mtr (s : State) (f : Bus → Bus) : (s.setBus f).mtr = s.mtr := rfl
@[simp] theorem setBus_mir (s : State) (f : Bus → Bus) : (s.setBus f).mir = s.mir := rfl
@[simp] theorem setBus_cmd (s : State) (f : Bus → Bus) : (s.setBus f).cmd = s.cmd := rfl
@[simp] theorem setBus_bus (s : State) (f : Bus → Bus) : (s.setBus f).bus = f s.bus := rfl
@[simp] theorem setBus_fw (s : State) (f : Bus → Bus) : (s.setBus f).fw = s.fw := rfl
@[simp] theorem setBus_free (s : State) (f : Bus → Bus) : (s.setBus f).free = s.free := rfl
@[simp] theorem setBus_emit (s : State) (f : Bus → Bus) : (s.setBus f).emit = s.emit := rfl
@[simp] theorem setBus_pending (s : State) (f : Bus → Bus) : (s.setBus f).pending = s.pending := rfl
@[simp] theorem setBus_rd (s : State) (f : Bus → Bus) (F : Fld) (i : Nat) : (s.setBus f).rd F i = s.rd F i := rfl
@[simp] theorem setBus_inf (s : State) (f : Bus → Bus) (F : Fld) (i : Nat) : (s.setBus f).inf F i = s.inf F i := rfl

/-! ### `setFw` -/

@[simp] theorem setFw_tick (s : State) (f : Fw → Fw) : (s.setFw f).tick = s.tick := rfl
@[simp] theorem setFw_locks (s : State) (f : Fw → Fw) : (s.setFw f).locks = s.locks := rfl
@[simp] theorem setFw_fields (s : State) (f : Fw → Fw) : (s.setFw f).fields = s.fields := rfl
@[simp] theorem setFw_rwl (s : State) (f : Fw → Fw) : (s.setFw f).rwl = s.rwl := rfl
@[simp] theorem setFw_inForce (s : State) (f : Fw → Fw) : (s.setFw f).inForce = s.inForce := rfl
@[simp] theorem setFw_cad (s : State) (f : Fw → Fw) : (s.setFw f).cad = s.cad := rfl
@[simp] theorem setFw_spk (s : State) (f : Fw → Fw) : (s.setFw f).spk = s.spk := rfl
@[simp] theorem setFw_rim (s : State) (f : Fw → Fw) : (s.setFw f).rim = s.rim := rfl
@[simp] theorem setFw_gl (s : State) (f : Fw → Fw) : (s.setFw f).gl = s.gl := rfl
@[simp] theorem setFw_eng (s : State) (f : Fw → Fw) : (s.setFw f).eng = s.eng := rfl
@[simp] theorem setFw_em (s : State) (f : Fw → Fw) : (s.setFw f).em = s.em := rfl
@[simp] theorem setFw_th (s : State) (f : Fw → Fw) : (s.setFw f).th = s.th := rfl
@[simp] theorem setFw_bg (s : State) (f : Fw → Fw) : (s.setFw f).bg = s.bg := rfl
@[simp] theorem setFw_car (s : State) (f : Fw → Fw) : (s.setFw f).car = s.car := rfl
@[simp] theorem setFw_pel (s : State) (f : Fw → Fw) : (s.setFw f).pel = s.pel := rfl
@[simp] theorem setFw_mg (s : State) (f : Fw → Fw) : (s.setFw f).mg = s.mg := rfl
@[simp] theorem setFw_rc (s : State) (f : Fw → Fw) : (s.setFw f).rc = s.rc := rfl
@[simp] theorem setFw_mtr (s : State) (f : Fw → Fw) : (s.setFw f).mtr = s.mtr := rfl
@[simp] theorem setFw_mir (s : State) (f : Fw → Fw) : (s.setFw f).mir = s.mir := rfl
@[simp] theorem setFw_cmd (s : State) (f : Fw → Fw) : (s.setFw f).cmd = s.cmd := rfl
@[simp] theorem setFw_bus (s : State) (f : Fw → Fw) : (s.setFw f).bus = s.bus := rfl
@[simp] theorem setFw_fw (s : State) (f : Fw → Fw) : (s.setFw f).fw = f s.fw := rfl
@[simp] theorem setFw_free (s : State) (f : Fw → Fw) : (s.setFw f).free = s.free := rfl
@[simp] theorem setFw_emit (s : State) (f : Fw → Fw) : (s.setFw f).emit = s.emit := rfl
@[simp] theorem setFw_pending (s : State) (f : Fw → Fw) : (s.setFw f).pending = s.pending := rfl
@[simp] theorem setFw_rd (s : State) (f : Fw → Fw) (F : Fld) (i : Nat) : (s.setFw f).rd F i = s.rd F i := rfl
@[simp] theorem setFw_inf (s : State) (f : Fw → Fw) (F : Fld) (i : Nat) : (s.setFw f).inf F i = s.inf F i := rfl

/-! ### `quiet` -/

@[simp] theorem quiet_tick (s : State) : (s.quiet).tick = s.tick := rfl
@[simp] theorem quiet_locks (s : State) : (s.quiet).locks = s.locks := rfl
@[simp] theorem quiet_fields (s : State) : (s.quiet).fields = s.fields := rfl
@[simp] theorem quiet_rwl (s : State) : (s.quiet).rwl = s.rwl := rfl
@[simp] theorem quiet_inForce (s : State) : (s.quiet).inForce = s.inForce := rfl
@[simp] theorem quiet_cad (s : State) : (s.quiet).cad = s.cad := rfl
@[simp] theorem quiet_spk (s : State) : (s.quiet).spk = s.spk := rfl
@[simp] theorem quiet_rim (s : State) : (s.quiet).rim = s.rim := rfl
@[simp] theorem quiet_gl (s : State) : (s.quiet).gl = s.gl := rfl
@[simp] theorem quiet_eng (s : State) : (s.quiet).eng = s.eng := rfl
@[simp] theorem quiet_em (s : State) : (s.quiet).em = s.em := rfl
@[simp] theorem quiet_th (s : State) : (s.quiet).th = s.th := rfl
@[simp] theorem quiet_bg (s : State) : (s.quiet).bg = s.bg := rfl
@[simp] theorem quiet_car (s : State) : (s.quiet).car = s.car := rfl
@[simp] theorem quiet_pel (s : State) : (s.quiet).pel = s.pel := rfl
@[simp] theorem quiet_mg (s : State) : (s.quiet).mg = s.mg := rfl
@[simp] theorem quiet_rc (s : State) : (s.quiet).rc = s.rc := rfl
@[simp] theorem quiet_mtr (s : State) : (s.quiet).mtr = s.mtr := rfl
@[simp] theorem quiet_mir (s : State) : (s.quiet).mir = s.mir := rfl
@[simp] theorem quiet_cmd (s : State) : (s.quiet).cmd = s.cmd := rfl
@[simp] theorem quiet_bus (s : State) : (s.quiet).bus = s.bus := rfl
@[simp] theorem quiet_fw (s : State) : (s.quiet).fw = s.fw := rfl
@[simp] theorem quiet_free (s : State) : (s.quiet).free = s.free := rfl
@[simp] theorem quiet_emit (s : State) : (s.quiet).emit = [] := rfl
@[simp] theorem quiet_pending (s : State) : (s.quiet).pending = s.pending := rfl
@[simp] theorem quiet_rd (s : State) (F : Fld) (i : Nat) : (s.quiet).rd F i = s.rd F i := rfl
@[simp] theorem quiet_inf (s : State) (F : Fld) (i : Nat) : (s.quiet).inf F i = s.inf F i := rfl

/-! ### `drive` -/

@[simp] theorem drive_tick (s : State) (e : Emission) : (s.drive e).tick = s.tick := rfl
@[simp] theorem drive_locks (s : State) (e : Emission) : (s.drive e).locks = s.locks := rfl
@[simp] theorem drive_fields (s : State) (e : Emission) : (s.drive e).fields = s.fields := rfl
@[simp] theorem drive_rwl (s : State) (e : Emission) : (s.drive e).rwl = s.rwl := rfl
@[simp] theorem drive_inForce (s : State) (e : Emission) : (s.drive e).inForce = s.inForce := rfl
@[simp] theorem drive_cad (s : State) (e : Emission) : (s.drive e).cad = s.cad := rfl
@[simp] theorem drive_spk (s : State) (e : Emission) : (s.drive e).spk = s.spk := rfl
@[simp] theorem drive_rim (s : State) (e : Emission) : (s.drive e).rim = s.rim := rfl
@[simp] theorem drive_gl (s : State) (e : Emission) : (s.drive e).gl = s.gl := rfl
@[simp] theorem drive_eng (s : State) (e : Emission) : (s.drive e).eng = s.eng := rfl
@[simp] theorem drive_em (s : State) (e : Emission) : (s.drive e).em = s.em := rfl
@[simp] theorem drive_th (s : State) (e : Emission) : (s.drive e).th = s.th := rfl
@[simp] theorem drive_bg (s : State) (e : Emission) : (s.drive e).bg = s.bg := rfl
@[simp] theorem drive_car (s : State) (e : Emission) : (s.drive e).car = s.car := rfl
@[simp] theorem drive_pel (s : State) (e : Emission) : (s.drive e).pel = s.pel := rfl
@[simp] theorem drive_mg (s : State) (e : Emission) : (s.drive e).mg = s.mg := rfl
@[simp] theorem drive_rc (s : State) (e : Emission) : (s.drive e).rc = s.rc := rfl
@[simp] theorem drive_mtr (s : State) (e : Emission) : (s.drive e).mtr = s.mtr := rfl
@[simp] theorem drive_mir (s : State) (e : Emission) : (s.drive e).mir = s.mir := rfl
@[simp] theorem drive_cmd (s : State) (e : Emission) : (s.drive e).cmd = s.cmd := rfl
@[simp] theorem drive_bus (s : State) (e : Emission) : (s.drive e).bus = s.bus := rfl
@[simp] theorem drive_fw (s : State) (e : Emission) : (s.drive e).fw = s.fw := rfl
@[simp] theorem drive_free (s : State) (e : Emission) : (s.drive e).free = s.free := rfl
@[simp] theorem drive_emit (s : State) (e : Emission) : (s.drive e).emit = s.emit ++ [e] := rfl
@[simp] theorem drive_pending (s : State) (e : Emission) : (s.drive e).pending = s.pending := rfl
@[simp] theorem drive_rd (s : State) (e : Emission) (F : Fld) (i : Nat) : (s.drive e).rd F i = s.rd F i := rfl
@[simp] theorem drive_inf (s : State) (e : Emission) (F : Fld) (i : Nat) : (s.drive e).inf F i = s.inf F i := rfl

/-! ### `withPending` -/

@[simp] theorem withPending_tick (s : State) (l : List Instr) : (s.withPending l).tick = s.tick := rfl
@[simp] theorem withPending_locks (s : State) (l : List Instr) : (s.withPending l).locks = s.locks := rfl
@[simp] theorem withPending_fields (s : State) (l : List Instr) : (s.withPending l).fields = s.fields := rfl
@[simp] theorem withPending_rwl (s : State) (l : List Instr) : (s.withPending l).rwl = s.rwl := rfl
@[simp] theorem withPending_inForce (s : State) (l : List Instr) : (s.withPending l).inForce = s.inForce := rfl
@[simp] theorem withPending_cad (s : State) (l : List Instr) : (s.withPending l).cad = s.cad := rfl
@[simp] theorem withPending_spk (s : State) (l : List Instr) : (s.withPending l).spk = s.spk := rfl
@[simp] theorem withPending_rim (s : State) (l : List Instr) : (s.withPending l).rim = s.rim := rfl
@[simp] theorem withPending_gl (s : State) (l : List Instr) : (s.withPending l).gl = s.gl := rfl
@[simp] theorem withPending_eng (s : State) (l : List Instr) : (s.withPending l).eng = s.eng := rfl
@[simp] theorem withPending_em (s : State) (l : List Instr) : (s.withPending l).em = s.em := rfl
@[simp] theorem withPending_th (s : State) (l : List Instr) : (s.withPending l).th = s.th := rfl
@[simp] theorem withPending_bg (s : State) (l : List Instr) : (s.withPending l).bg = s.bg := rfl
@[simp] theorem withPending_car (s : State) (l : List Instr) : (s.withPending l).car = s.car := rfl
@[simp] theorem withPending_pel (s : State) (l : List Instr) : (s.withPending l).pel = s.pel := rfl
@[simp] theorem withPending_mg (s : State) (l : List Instr) : (s.withPending l).mg = s.mg := rfl
@[simp] theorem withPending_rc (s : State) (l : List Instr) : (s.withPending l).rc = s.rc := rfl
@[simp] theorem withPending_mtr (s : State) (l : List Instr) : (s.withPending l).mtr = s.mtr := rfl
@[simp] theorem withPending_mir (s : State) (l : List Instr) : (s.withPending l).mir = s.mir := rfl
@[simp] theorem withPending_cmd (s : State) (l : List Instr) : (s.withPending l).cmd = s.cmd := rfl
@[simp] theorem withPending_bus (s : State) (l : List Instr) : (s.withPending l).bus = s.bus := rfl
@[simp] theorem withPending_fw (s : State) (l : List Instr) : (s.withPending l).fw = s.fw := rfl
@[simp] theorem withPending_free (s : State) (l : List Instr) : (s.withPending l).free = s.free := rfl
@[simp] theorem withPending_emit (s : State) (l : List Instr) : (s.withPending l).emit = s.emit := rfl
@[simp] theorem withPending_pending (s : State) (l : List Instr) : (s.withPending l).pending = l := rfl
@[simp] theorem withPending_rd (s : State) (l : List Instr) (F : Fld) (i : Nat) : (s.withPending l).rd F i = s.rd F i := rfl
@[simp] theorem withPending_inf (s : State) (l : List Instr) (F : Fld) (i : Nat) : (s.withPending l).inf F i = s.inf F i := rfl

/-! ### `takeFree` -/

@[simp] theorem takeFree_tick (s : State) (w : Nat) : (s.takeFree w).2.tick = s.tick := rfl
@[simp] theorem takeFree_locks (s : State) (w : Nat) : (s.takeFree w).2.locks = s.locks := rfl
@[simp] theorem takeFree_fields (s : State) (w : Nat) : (s.takeFree w).2.fields = s.fields := rfl
@[simp] theorem takeFree_rwl (s : State) (w : Nat) : (s.takeFree w).2.rwl = s.rwl := rfl
@[simp] theorem takeFree_inForce (s : State) (w : Nat) : (s.takeFree w).2.inForce = s.inForce := rfl
@[simp] theorem takeFree_cad (s : State) (w : Nat) : (s.takeFree w).2.cad = s.cad := rfl
@[simp] theorem takeFree_spk (s : State) (w : Nat) : (s.takeFree w).2.spk = s.spk := rfl
@[simp] theorem takeFree_rim (s : State) (w : Nat) : (s.takeFree w).2.rim = s.rim := rfl
@[simp] theorem takeFree_gl (s : State) (w : Nat) : (s.takeFree w).2.gl = s.gl := rfl
@[simp] theorem takeFree_eng (s : State) (w : Nat) : (s.takeFree w).2.eng = s.eng := rfl
@[simp] theorem takeFree_em (s : State) (w : Nat) : (s.takeFree w).2.em = s.em := rfl
@[simp] theorem takeFree_th (s : State) (w : Nat) : (s.takeFree w).2.th = s.th := rfl
@[simp] theorem takeFree_bg (s : State) (w : Nat) : (s.takeFree w).2.bg = s.bg := rfl
@[simp] theorem takeFree_car (s : State) (w : Nat) : (s.takeFree w).2.car = s.car := rfl
@[simp] theorem takeFree_pel (s : State) (w : Nat) : (s.takeFree w).2.pel = s.pel := rfl
@[simp] theorem takeFree_mg (s : State) (w : Nat) : (s.takeFree w).2.mg = s.mg := rfl
@[simp] theorem takeFree_rc (s : State) (w : Nat) : (s.takeFree w).2.rc = s.rc := rfl
@[simp] theorem takeFree_mtr (s : State) (w : Nat) : (s.takeFree w).2.mtr = s.mtr := rfl
@[simp] theorem takeFree_mir (s : State) (w : Nat) : (s.takeFree w).2.mir = s.mir := rfl
@[simp] theorem takeFree_cmd (s : State) (w : Nat) : (s.takeFree w).2.cmd = s.cmd := rfl
@[simp] theorem takeFree_bus (s : State) (w : Nat) : (s.takeFree w).2.bus = s.bus := rfl
@[simp] theorem takeFree_fw (s : State) (w : Nat) : (s.takeFree w).2.fw = s.fw := rfl
@[simp] theorem takeFree_free (s : State) (w : Nat) : (s.takeFree w).2.free = s.free + 1 := rfl
@[simp] theorem takeFree_emit (s : State) (w : Nat) : (s.takeFree w).2.emit = s.emit := rfl
@[simp] theorem takeFree_pending (s : State) (w : Nat) : (s.takeFree w).2.pending = s.pending := rfl
@[simp] theorem takeFree_rd (s : State) (w : Nat) (F : Fld) (i : Nat) : (s.takeFree w).2.rd F i = s.rd F i := rfl
@[simp] theorem takeFree_inf (s : State) (w : Nat) (F : Fld) (i : Nat) : (s.takeFree w).2.inf F i = s.inf F i := rfl

/-- A free value keeps the width asked for, and nothing else is known of it. -/
theorem takeFree_lt (s : State) (w : Nat) : (s.takeFree w).1 < 2 ^ w :=
  Nat.mod_lt _ (Nat.two_pow_pos w)

/-! ### `wr` -/

@[simp] theorem wr_tick (s : State) (F : Fld) (i v : Nat) : (s.wr F i v).tick = s.tick := by
  unfold State.wr; split <;> rfl
@[simp] theorem wr_locks (s : State) (F : Fld) (i v : Nat) : (s.wr F i v).locks = s.locks := by
  unfold State.wr; split <;> rfl
@[simp] theorem wr_inForce (s : State) (F : Fld) (i v : Nat) : (s.wr F i v).inForce = s.inForce := by
  unfold State.wr; split <;> rfl
@[simp] theorem wr_cad (s : State) (F : Fld) (i v : Nat) : (s.wr F i v).cad = s.cad := by
  unfold State.wr; split <;> rfl
@[simp] theorem wr_spk (s : State) (F : Fld) (i v : Nat) : (s.wr F i v).spk = s.spk := by
  unfold State.wr; split <;> rfl
@[simp] theorem wr_rim (s : State) (F : Fld) (i v : Nat) : (s.wr F i v).rim = s.rim := by
  unfold State.wr; split <;> rfl
@[simp] theorem wr_gl (s : State) (F : Fld) (i v : Nat) : (s.wr F i v).gl = s.gl := by
  unfold State.wr; split <;> rfl
@[simp] theorem wr_eng (s : State) (F : Fld) (i v : Nat) : (s.wr F i v).eng = s.eng := by
  unfold State.wr; split <;> rfl
@[simp] theorem wr_em (s : State) (F : Fld) (i v : Nat) : (s.wr F i v).em = s.em := by
  unfold State.wr; split <;> rfl
@[simp] theorem wr_th (s : State) (F : Fld) (i v : Nat) : (s.wr F i v).th = s.th := by
  unfold State.wr; split <;> rfl
@[simp] theorem wr_bg (s : State) (F : Fld) (i v : Nat) : (s.wr F i v).bg = s.bg := by
  unfold State.wr; split <;> rfl
@[simp] theorem wr_car (s : State) (F : Fld) (i v : Nat) : (s.wr F i v).car = s.car := by
  unfold State.wr; split <;> rfl
@[simp] theorem wr_pel (s : State) (F : Fld) (i v : Nat) : (s.wr F i v).pel = s.pel := by
  unfold State.wr; split <;> rfl
@[simp] theorem wr_mg (s : State) (F : Fld) (i v : Nat) : (s.wr F i v).mg = s.mg := by
  unfold State.wr; split <;> rfl
@[simp] theorem wr_rc (s : State) (F : Fld) (i v : Nat) : (s.wr F i v).rc = s.rc := by
  unfold State.wr; split <;> rfl
@[simp] theorem wr_mtr (s : State) (F : Fld) (i v : Nat) : (s.wr F i v).mtr = s.mtr := by
  unfold State.wr; split <;> rfl
@[simp] theorem wr_mir (s : State) (F : Fld) (i v : Nat) : (s.wr F i v).mir = s.mir := by
  unfold State.wr; split <;> rfl
@[simp] theorem wr_cmd (s : State) (F : Fld) (i v : Nat) : (s.wr F i v).cmd = s.cmd := by
  unfold State.wr; split <;> rfl
@[simp] theorem wr_bus (s : State) (F : Fld) (i v : Nat) : (s.wr F i v).bus = s.bus := by
  unfold State.wr; split <;> rfl
@[simp] theorem wr_fw (s : State) (F : Fld) (i v : Nat) : (s.wr F i v).fw = s.fw := by
  unfold State.wr; split <;> rfl
@[simp] theorem wr_free (s : State) (F : Fld) (i v : Nat) : (s.wr F i v).free = s.free := by
  unfold State.wr; split <;> rfl
@[simp] theorem wr_emit (s : State) (F : Fld) (i v : Nat) : (s.wr F i v).emit = s.emit := by
  unfold State.wr; split <;> rfl
@[simp] theorem wr_pending (s : State) (F : Fld) (i v : Nat) : (s.wr F i v).pending = s.pending := by
  unfold State.wr; split <;> rfl
@[simp] theorem wr_inf (s : State) (F G : Fld) (i j v : Nat) : (s.wr F i v).inf G j = s.inf G j := by
  simp [State.inf]

theorem wr_fields (s : State) (F : Fld) (i v : Nat) :
    (s.wr F i v).fields = if F.rwl then s.fields else Table.set (F.reset i) s.fields (F.key i) (v % 2 ^ F.width) := by
  unfold State.wr; split <;> rfl

theorem wr_rwl (s : State) (F : Fld) (i v : Nat) :
    (s.wr F i v).rwl = if F.rwl then Table.set (F.reset i) s.rwl (F.key i) (v % 2 ^ F.width) else s.rwl := by
  unfold State.wr; split <;> rfl

end Sys2Proof.Machine
end

