-- ==== Sys2Proof/Laws/Store.lean ====
section
/-! SUPPORT. The laws of sparse stores: a read after a write, and the canonical form that every store operation keeps. -/

namespace Sys2Proof.Machine

/-! ### Reading -/

@[simp] theorem Table.get_nil {α : Type} (d : α) (i : Nat) : Table.get d [] i = d := rfl

theorem Table.get_put {α : Type} (d : α) (t : Table α) (i j : Nat) (v : α) :
    Table.get d (t.put i v) j = if i = j then v else Table.get d t j := by
  induction t with
  | nil => simp [Table.put, Table.get]
  | cons e t ih =>
    obtain ⟨k, w⟩ := e
    simp only [Table.put]
    split
    · next h => subst h; by_cases hj : i = j <;> simp [Table.get, hj]
    · split
      · by_cases hj : i = j <;> simp [Table.get, hj]
      · next h _ =>
        by_cases hj : i = j
        · subst hj
          have hk : k ≠ i := fun h' => h h'.symm
          simp [Table.get, hk, ih]
        · simp [Table.get, ih, hj]

theorem Table.get_del {α : Type} (d : α) (t : Table α) (i j : Nat) :
    Table.get d (t.del i) j = if i = j then d else Table.get d t j := by
  induction t with
  | nil => simp [Table.del, Table.get]
  | cons e t ih =>
    obtain ⟨k, w⟩ := e
    simp only [Table.del]
    by_cases hk : k = i
    · subst hk
      by_cases hj : k = j
      · subst hj; simpa using ih
      · simp [Table.get, ih, hj]
    · by_cases hj : i = j
      · subst hj; simp [Table.get, hk, ih]
      · by_cases hkj : k = j <;> simp [Table.get, hk, hj, ih]

/-- A write with default `d`, read with default `e` at another key. -/
theorem Table.get_set_ne {α : Type} [DecidableEq α] (d e : α) (t : Table α) {i j : Nat} (v : α) (h : i ≠ j) :
    Table.get e (Table.set d t i v) j = Table.get e t j := by
  unfold Table.set
  split
  · rw [Table.get_del, if_neg h]
  · rw [Table.get_put, if_neg h]

@[simp] theorem Table.get_set_same {α : Type} [DecidableEq α] (d : α) (t : Table α) (i : Nat) (v : α) :
    Table.get d (Table.set d t i v) i = v := by
  unfold Table.set
  split
  · next h => rw [Table.get_del, if_pos rfl, h]
  · rw [Table.get_put, if_pos rfl]

theorem Table.get_set {α : Type} [DecidableEq α] (d : α) (t : Table α) (i j : Nat) (v : α) :
    Table.get d (Table.set d t i v) j = if i = j then v else Table.get d t j := by
  by_cases h : i = j
  · subst h; simp
  · rw [Table.get_set_ne _ _ _ _ h, if_neg h]

theorem Table.get_upd {α : Type} [DecidableEq α] (d : α) (t : Table α) (i j : Nat) (f : α → α) :
    Table.get d (Table.upd d t i f) j = if i = j then f (Table.get d t i) else Table.get d t j := by
  rw [Table.upd, Table.get_set]

@[simp] theorem Table.get_upd_same {α : Type} [DecidableEq α] (d : α) (t : Table α) (i : Nat) (f : α → α) :
    Table.get d (Table.upd d t i f) i = f (Table.get d t i) := by
  rw [Table.get_upd, if_pos rfl]

theorem Table.get_upd_ne {α : Type} [DecidableEq α] (d : α) (t : Table α) {i j : Nat} (f : α → α) (h : i ≠ j) :
    Table.get d (Table.upd d t i f) j = Table.get d t j := by
  rw [Table.get_upd, if_neg h]

/-! ### The canonical form -/

/-- Every key of the table is above `k`. -/
def Table.above {α : Type} (k : Nat) (t : Table α) : Prop :=
  ∀ e ∈ t, k < e.1

theorem Table.wf_cons {α : Type} [DecidableEq α] (d : Nat → α) (k : Nat) (v : α) (t : Table α) :
    Table.wf d ((k, v) :: t) = true ↔ v ≠ d k ∧ Table.above k t ∧ Table.wf d t = true := by
  induction t generalizing k v with
  | nil => simp [Table.wf, Table.above]
  | cons e t ih =>
    obtain ⟨k', v'⟩ := e
    simp only [Table.wf, Bool.and_eq_true, decide_eq_true_eq]
    constructor
    · rintro ⟨⟨h1, h2⟩, h3⟩
      refine ⟨h1, ?_, h3⟩
      intro e he
      rcases List.mem_cons.mp he with rfl | he
      · exact h2
      · exact lt_trans h2 (((ih k' v').mp h3).2.1 e he)
    · rintro ⟨h1, h2, h3⟩
      exact ⟨⟨h1, h2 (k', v') (List.mem_cons_self ..)⟩, h3⟩

theorem Table.mem_put {α : Type} {t : Table α} {i : Nat} {v : α} {e : Nat × α} (h : e ∈ t.put i v) :
    e = (i, v) ∨ e ∈ t := by
  induction t with
  | nil => simpa [Table.put] using h
  | cons a t ih =>
    obtain ⟨k, w⟩ := a
    simp only [Table.put] at h
    split at h
    · rcases List.mem_cons.mp h with h | h
      · exact .inl h
      · exact .inr (List.mem_cons_of_mem _ h)
    · split at h
      · rcases List.mem_cons.mp h with h | h
        · exact .inl h
        · exact .inr h
      · rcases List.mem_cons.mp h with h | h
        · exact .inr (h ▸ List.mem_cons_self ..)
        · rcases ih h with h | h
          · exact .inl h
          · exact .inr (List.mem_cons_of_mem _ h)

theorem Table.mem_del {α : Type} {t : Table α} {i : Nat} {e : Nat × α} (h : e ∈ t.del i) : e ∈ t := by
  induction t with
  | nil => simp [Table.del] at h
  | cons a t ih =>
    obtain ⟨k, w⟩ := a
    simp only [Table.del] at h
    split at h
    · exact List.mem_cons_of_mem _ (ih h)
    · rcases List.mem_cons.mp h with h | h
      · exact h ▸ List.mem_cons_self ..
      · exact List.mem_cons_of_mem _ (ih h)

theorem Table.wf_put {α : Type} [DecidableEq α] {d : Nat → α} {t : Table α} {i : Nat} {v : α}
    (h : Table.wf d t = true) (hv : v ≠ d i) : Table.wf d (t.put i v) = true := by
  induction t with
  | nil => simpa [Table.put, Table.wf] using hv
  | cons e t ih =>
    obtain ⟨k, w⟩ := e
    have hc := (Table.wf_cons d k w t).mp h
    simp only [Table.put]
    split
    · next hk => subst hk; exact (Table.wf_cons ..).mpr ⟨hv, hc.2.1, hc.2.2⟩
    · split
      · next hlt =>
        refine (Table.wf_cons ..).mpr ⟨hv, ?_, h⟩
        intro e he
        rcases List.mem_cons.mp he with rfl | he
        · exact hlt
        · exact lt_trans hlt (hc.2.1 e he)
      · next hne hnl =>
        refine (Table.wf_cons ..).mpr ⟨hc.1, ?_, ih hc.2.2⟩
        intro e he
        rcases Table.mem_put he with rfl | he
        · exact lt_of_le_of_ne (not_lt.mp hnl) (fun h' => hne h'.symm)
        · exact hc.2.1 e he

theorem Table.wf_del {α : Type} [DecidableEq α] {d : Nat → α} {t : Table α} {i : Nat}
    (h : Table.wf d t = true) : Table.wf d (t.del i) = true := by
  induction t with
  | nil => rfl
  | cons e t ih =>
    obtain ⟨k, w⟩ := e
    have hc := (Table.wf_cons d k w t).mp h
    simp only [Table.del]
    split
    · exact ih hc.2.2
    · exact (Table.wf_cons ..).mpr ⟨hc.1, fun e he => hc.2.1 e (Table.mem_del he), ih hc.2.2⟩

/-- A write at a key, against what that key reads as when unlisted, keeps the canonical form. -/
theorem Table.wf_set {α : Type} [DecidableEq α] {d : Nat → α} {t : Table α} {i : Nat} {v : α}
    (h : Table.wf d t = true) : Table.wf d (Table.set (d i) t i v) = true := by
  unfold Table.set
  split
  · exact Table.wf_del h
  · next hv => exact Table.wf_put h hv

theorem Table.wf_upd {α : Type} [DecidableEq α] {d : α} {t : Table α} {i : Nat} {f : α → α}
    (h : Table.wf (fun _ => d) t = true) : Table.wf (fun _ => d) (Table.upd d t i f) = true :=
  Table.wf_set (d := fun _ => d) h

/-- Two tables in canonical form that read alike at every key are equal data. -/
theorem Table.wf_ext {α : Type} [DecidableEq α] {d : Nat → α} {t u : Table α} (ht : Table.wf d t = true)
    (hu : Table.wf d u = true) (h : ∀ i, Table.get (d i) t i = Table.get (d i) u i) : t = u := by
  have hmin : ∀ (k : Nat) (w : Table α), Table.above k w → Table.get (d k) w k = d k := by
    intro k w
    induction w with
    | nil => intro _; rfl
    | cons e w ih =>
      obtain ⟨k', v'⟩ := e
      intro ha
      have : k' ≠ k := ne_of_gt (ha (k', v') (List.mem_cons_self ..))
      simpa [Table.get, this] using ih (fun e he => ha e (List.mem_cons_of_mem _ he))
  induction t generalizing u with
  | nil =>
    cases u with
    | nil => rfl
    | cons e u =>
      obtain ⟨k, v⟩ := e
      have := h k
      simp only [Table.get, if_true] at this
      exact absurd this.symm ((Table.wf_cons ..).mp hu).1
  | cons e t ih =>
    obtain ⟨k, v⟩ := e
    have ct := (Table.wf_cons ..).mp ht
    cases u with
    | nil =>
      have := h k
      simp only [Table.get, if_true] at this
      exact absurd this ct.1
    | cons e' u =>
      obtain ⟨k', v'⟩ := e'
      have cu := (Table.wf_cons ..).mp hu
      have hk : k = k' := by
        rcases Nat.lt_trichotomy k k' with hlt | heq | hgt
        · have h1 := h k
          have h2 : Table.get (d k) ((k', v') :: u) k = d k :=
            hmin k _ (fun e he => by
              rcases List.mem_cons.mp he with rfl | he
              · exact hlt
              · exact lt_trans hlt (cu.2.1 e he))
          rw [h2] at h1
          simp only [Table.get, if_true] at h1
          exact absurd h1 ct.1
        · exact heq
        · have h1 := h k'
          have h2 : Table.get (d k') ((k, v) :: t) k' = d k' :=
            hmin k' _ (fun e he => by
              rcases List.mem_cons.mp he with rfl | he
              · exact hgt
              · exact lt_trans hgt (ct.2.1 e he))
          rw [h2] at h1
          simp only [Table.get, if_true] at h1
          exact absurd h1.symm cu.1
      subst hk
      have hv : v = v' := by simpa [Table.get] using h k
      subst hv
      congr 1
      refine ih ct.2.2 cu.2.2 ?_
      intro i
      by_cases hi : k = i
      · subst hi; rw [hmin k t ct.2.1, hmin k u cu.2.1]
      · simpa [Table.get, hi] using h i

/-! ### Iteration -/

@[simp] theorem upTo_zero {α : Type} (f : Nat → α → α) (a : α) : upTo 0 f a = a := rfl

theorem upTo_succ {α : Type} (n : Nat) (f : Nat → α → α) (a : α) : upTo (n + 1) f a = f n (upTo n f a) := rfl

/-- What every turn keeps, the iteration keeps. -/
theorem upTo_keeps {α : Type} (P : α → Prop) {n : Nat} {f : Nat → α → α} {a : α} (ha : P a)
    (hf : ∀ i b, P b → P (f i b)) : P (upTo n f a) := by
  induction n with
  | zero => exact ha
  | succ n ih => exact hf n _ ih

theorem foldl_keeps {α β : Type} (P : α → Prop) {l : List β} {f : α → β → α} {a : α} (ha : P a)
    (hf : ∀ b x, P b → P (f b x)) : P (l.foldl f a) := by
  induction l generalizing a with
  | nil => exact ha
  | cons x l ih => exact ih (hf a x ha)

end Sys2Proof.Machine
end

