-- ==== Sys2Proof/Laws/Fields.lean ====
section
/-! SUPPORT. What a register field reads after a write of one, and everything that the operations which log, ring doorbells
and raise events can do. -/

namespace Sys2Proof.Machine

/-! ### Register fields -/

@[simp] theorem rd_wr_same (s : State) (F : Fld) (i v : Nat) : (s.wr F i v).rd F i = v % 2 ^ F.width := by
  unfold State.rd State.wr
  by_cases h : F.rwl = true <;> simp [h]

/-- A write of one field leaves what every other bit address reads. -/
theorem rd_wr_ne (s : State) (F G : Fld) (i j v : Nat) (h : G.key j ≠ F.key i) : (s.wr F i v).rd G j = s.rd G j := by
  unfold State.rd State.wr
  by_cases hF : F.rwl = true <;> by_cases hG : G.rwl = true <;> simp [hF, hG, Table.get_set_ne _ _ _ _ h.symm]

/-- `wrBit` writes the field or leaves it as it is. -/
theorem wrBit_cases (s : State) (F : Fld) (i b : Nat) (v : Bool) :
    s.wrBit F i b v = s ∨ ∃ x, s.wrBit F i b v = s.wr F i x := by
  unfold State.wrBit
  by_cases h : ((s.rd F i).testBit b == v) = true
  · exact .inl (by simp [h])
  · exact .inr ⟨_, by simp only [h]; rfl⟩

theorem rd_wrBit_ne (s : State) (F G : Fld) (i j b : Nat) (v : Bool) (h : G.key j ≠ F.key i) :
    (s.wrBit F i b v).rd G j = s.rd G j := by
  rcases wrBit_cases s F i b v with h' | ⟨x, h'⟩ <;> rw [h']
  exact rd_wr_ne _ _ _ _ _ _ h

@[simp] theorem wrBit_tick (s : State) (F : Fld) (i b : Nat) (v : Bool) : (s.wrBit F i b v).tick = s.tick := by
  rcases wrBit_cases s F i b v with h | ⟨x, h⟩ <;> simp [h]
@[simp] theorem wrBit_locks (s : State) (F : Fld) (i b : Nat) (v : Bool) : (s.wrBit F i b v).locks = s.locks := by
  rcases wrBit_cases s F i b v with h | ⟨x, h⟩ <;> simp [h]
@[simp] theorem wrBit_inForce (s : State) (F : Fld) (i b : Nat) (v : Bool) : (s.wrBit F i b v).inForce = s.inForce := by
  rcases wrBit_cases s F i b v with h | ⟨x, h⟩ <;> simp [h]
@[simp] theorem wrBit_cad (s : State) (F : Fld) (i b : Nat) (v : Bool) : (s.wrBit F i b v).cad = s.cad := by
  rcases wrBit_cases s F i b v with h | ⟨x, h⟩ <;> simp [h]
@[simp] theorem wrBit_spk (s : State) (F : Fld) (i b : Nat) (v : Bool) : (s.wrBit F i b v).spk = s.spk := by
  rcases wrBit_cases s F i b v with h | ⟨x, h⟩ <;> simp [h]
@[simp] theorem wrBit_rim (s : State) (F : Fld) (i b : Nat) (v : Bool) : (s.wrBit F i b v).rim = s.rim := by
  rcases wrBit_cases s F i b v with h | ⟨x, h⟩ <;> simp [h]
@[simp] theorem wrBit_gl (s : State) (F : Fld) (i b : Nat) (v : Bool) : (s.wrBit F i b v).gl = s.gl := by
  rcases wrBit_cases s F i b v with h | ⟨x, h⟩ <;> simp [h]
@[simp] theorem wrBit_eng (s : State) (F : Fld) (i b : Nat) (v : Bool) : (s.wrBit F i b v).eng = s.eng := by
  rcases wrBit_cases s F i b v with h | ⟨x, h⟩ <;> simp [h]
@[simp] theorem wrBit_em (s : State) (F : Fld) (i b : Nat) (v : Bool) : (s.wrBit F i b v).em = s.em := by
  rcases wrBit_cases s F i b v with h | ⟨x, h⟩ <;> simp [h]
@[simp] theorem wrBit_th (s : State) (F : Fld) (i b : Nat) (v : Bool) : (s.wrBit F i b v).th = s.th := by
  rcases wrBit_cases s F i b v with h | ⟨x, h⟩ <;> simp [h]
@[simp] theorem wrBit_bg (s : State) (F : Fld) (i b : Nat) (v : Bool) : (s.wrBit F i b v).bg = s.bg := by
  rcases wrBit_cases s F i b v with h | ⟨x, h⟩ <;> simp [h]
@[simp] theorem wrBit_car (s : State) (F : Fld) (i b : Nat) (v : Bool) : (s.wrBit F i b v).car = s.car := by
  rcases wrBit_cases s F i b v with h | ⟨x, h⟩ <;> simp [h]
@[simp] theorem wrBit_pel (s : State) (F : Fld) (i b : Nat) (v : Bool) : (s.wrBit F i b v).pel = s.pel := by
  rcases wrBit_cases s F i b v with h | ⟨x, h⟩ <;> simp [h]
@[simp] theorem wrBit_mg (s : State) (F : Fld) (i b : Nat) (v : Bool) : (s.wrBit F i b v).mg = s.mg := by
  rcases wrBit_cases s F i b v with h | ⟨x, h⟩ <;> simp [h]
@[simp] theorem wrBit_rc (s : State) (F : Fld) (i b : Nat) (v : Bool) : (s.wrBit F i b v).rc = s.rc := by
  rcases wrBit_cases s F i b v with h | ⟨x, h⟩ <;> simp [h]
@[simp] theorem wrBit_mtr (s : State) (F : Fld) (i b : Nat) (v : Bool) : (s.wrBit F i b v).mtr = s.mtr := by
  rcases wrBit_cases s F i b v with h | ⟨x, h⟩ <;> simp [h]
@[simp] theorem wrBit_mir (s : State) (F : Fld) (i b : Nat) (v : Bool) : (s.wrBit F i b v).mir = s.mir := by
  rcases wrBit_cases s F i b v with h | ⟨x, h⟩ <;> simp [h]
@[simp] theorem wrBit_cmd (s : State) (F : Fld) (i b : Nat) (v : Bool) : (s.wrBit F i b v).cmd = s.cmd := by
  rcases wrBit_cases s F i b v with h | ⟨x, h⟩ <;> simp [h]
@[simp] theorem wrBit_bus (s : State) (F : Fld) (i b : Nat) (v : Bool) : (s.wrBit F i b v).bus = s.bus := by
  rcases wrBit_cases s F i b v with h | ⟨x, h⟩ <;> simp [h]
@[simp] theorem wrBit_fw (s : State) (F : Fld) (i b : Nat) (v : Bool) : (s.wrBit F i b v).fw = s.fw := by
  rcases wrBit_cases s F i b v with h | ⟨x, h⟩ <;> simp [h]
@[simp] theorem wrBit_free (s : State) (F : Fld) (i b : Nat) (v : Bool) : (s.wrBit F i b v).free = s.free := by
  rcases wrBit_cases s F i b v with h | ⟨x, h⟩ <;> simp [h]
@[simp] theorem wrBit_emit (s : State) (F : Fld) (i b : Nat) (v : Bool) : (s.wrBit F i b v).emit = s.emit := by
  rcases wrBit_cases s F i b v with h | ⟨x, h⟩ <;> simp [h]
@[simp] theorem wrBit_pending (s : State) (F : Fld) (i b : Nat) (v : Bool) : (s.wrBit F i b v).pending = s.pending := by
  rcases wrBit_cases s F i b v with h | ⟨x, h⟩ <;> simp [h]
@[simp] theorem wrBit_inf (s : State) (F G : Fld) (i j b : Nat) (v : Bool) : (s.wrBit F i b v).inf G j = s.inf G j := by
  simp [State.inf]

theorem rd_wrB_ne (s : State) (F G : Fld) (i j : Nat) (v : Bool) (h : G.key j ≠ F.key i) :
    (s.wrB F i v).rd G j = s.rd G j :=
  rd_wr_ne _ _ _ _ _ _ h

theorem rd_inc_ne (s : State) (F G : Fld) (i j : Nat) (h : G.key j ≠ F.key i) : (s.inc F i).rd G j = s.rd G j :=
  rd_wr_ne _ _ _ _ _ _ h

@[simp] theorem rd_inc_same (s : State) (F : Fld) (i : Nat) : (s.inc F i).rd F i = (s.rd F i + 1) % 2 ^ F.width := by
  simp [State.inc]

@[simp] theorem wrB_tick (s : State) (F : Fld) (i : Nat) (b : Bool) : (s.wrB F i b).tick = s.tick := by simp [State.wrB]
@[simp] theorem wrB_locks (s : State) (F : Fld) (i : Nat) (b : Bool) : (s.wrB F i b).locks = s.locks := by simp [State.wrB]
@[simp] theorem wrB_inForce (s : State) (F : Fld) (i : Nat) (b : Bool) : (s.wrB F i b).inForce = s.inForce := by simp [State.wrB]
@[simp] theorem wrB_cad (s : State) (F : Fld) (i : Nat) (b : Bool) : (s.wrB F i b).cad = s.cad := by simp [State.wrB]
@[simp] theorem wrB_spk (s : State) (F : Fld) (i : Nat) (b : Bool) : (s.wrB F i b).spk = s.spk := by simp [State.wrB]
@[simp] theorem wrB_rim (s : State) (F : Fld) (i : Nat) (b : Bool) : (s.wrB F i b).rim = s.rim := by simp [State.wrB]
@[simp] theorem wrB_gl (s : State) (F : Fld) (i : Nat) (b : Bool) : (s.wrB F i b).gl = s.gl := by simp [State.wrB]
@[simp] theorem wrB_eng (s : State) (F : Fld) (i : Nat) (b : Bool) : (s.wrB F i b).eng = s.eng := by simp [State.wrB]
@[simp] theorem wrB_em (s : State) (F : Fld) (i : Nat) (b : Bool) : (s.wrB F i b).em = s.em := by simp [State.wrB]
@[simp] theorem wrB_th (s : State) (F : Fld) (i : Nat) (b : Bool) : (s.wrB F i b).th = s.th := by simp [State.wrB]
@[simp] theorem wrB_bg (s : State) (F : Fld) (i : Nat) (b : Bool) : (s.wrB F i b).bg = s.bg := by simp [State.wrB]
@[simp] theorem wrB_car (s : State) (F : Fld) (i : Nat) (b : Bool) : (s.wrB F i b).car = s.car := by simp [State.wrB]
@[simp] theorem wrB_pel (s : State) (F : Fld) (i : Nat) (b : Bool) : (s.wrB F i b).pel = s.pel := by simp [State.wrB]
@[simp] theorem wrB_mg (s : State) (F : Fld) (i : Nat) (b : Bool) : (s.wrB F i b).mg = s.mg := by simp [State.wrB]
@[simp] theorem wrB_rc (s : State) (F : Fld) (i : Nat) (b : Bool) : (s.wrB F i b).rc = s.rc := by simp [State.wrB]
@[simp] theorem wrB_mtr (s : State) (F : Fld) (i : Nat) (b : Bool) : (s.wrB F i b).mtr = s.mtr := by simp [State.wrB]
@[simp] theorem wrB_mir (s : State) (F : Fld) (i : Nat) (b : Bool) : (s.wrB F i b).mir = s.mir := by simp [State.wrB]
@[simp] theorem wrB_cmd (s : State) (F : Fld) (i : Nat) (b : Bool) : (s.wrB F i b).cmd = s.cmd := by simp [State.wrB]
@[simp] theorem wrB_bus (s : State) (F : Fld) (i : Nat) (b : Bool) : (s.wrB F i b).bus = s.bus := by simp [State.wrB]
@[simp] theorem wrB_fw (s : State) (F : Fld) (i : Nat) (b : Bool) : (s.wrB F i b).fw = s.fw := by simp [State.wrB]
@[simp] theorem wrB_free (s : State) (F : Fld) (i : Nat) (b : Bool) : (s.wrB F i b).free = s.free := by simp [State.wrB]
@[simp] theorem wrB_emit (s : State) (F : Fld) (i : Nat) (b : Bool) : (s.wrB F i b).emit = s.emit := by simp [State.wrB]
@[simp] theorem wrB_pending (s : State) (F : Fld) (i : Nat) (b : Bool) : (s.wrB F i b).pending = s.pending := by simp [State.wrB]
@[simp] theorem wrB_inf (s : State) (F : Fld) (i : Nat) (b : Bool) (G : Fld) (j : Nat) : (s.wrB F i b).inf G j = s.inf G j := by simp [State.wrB]
@[simp] theorem inc_tick (s : State) (F : Fld) (i : Nat) : (s.inc F i).tick = s.tick := by simp [State.inc]
@[simp] theorem inc_locks (s : State) (F : Fld) (i : Nat) : (s.inc F i).locks = s.locks := by simp [State.inc]
@[simp] theorem inc_inForce (s : State) (F : Fld) (i : Nat) : (s.inc F i).inForce = s.inForce := by simp [State.inc]
@[simp] theorem inc_cad (s : State) (F : Fld) (i : Nat) : (s.inc F i).cad = s.cad := by simp [State.inc]
@[simp] theorem inc_spk (s : State) (F : Fld) (i : Nat) : (s.inc F i).spk = s.spk := by simp [State.inc]
@[simp] theorem inc_rim (s : State) (F : Fld) (i : Nat) : (s.inc F i).rim = s.rim := by simp [State.inc]
@[simp] theorem inc_gl (s : State) (F : Fld) (i : Nat) : (s.inc F i).gl = s.gl := by simp [State.inc]
@[simp] theorem inc_eng (s : State) (F : Fld) (i : Nat) : (s.inc F i).eng = s.eng := by simp [State.inc]
@[simp] theorem inc_em (s : State) (F : Fld) (i : Nat) : (s.inc F i).em = s.em := by simp [State.inc]
@[simp] theorem inc_th (s : State) (F : Fld) (i : Nat) : (s.inc F i).th = s.th := by simp [State.inc]
@[simp] theorem inc_bg (s : State) (F : Fld) (i : Nat) : (s.inc F i).bg = s.bg := by simp [State.inc]
@[simp] theorem inc_car (s : State) (F : Fld) (i : Nat) : (s.inc F i).car = s.car := by simp [State.inc]
@[simp] theorem inc_pel (s : State) (F : Fld) (i : Nat) : (s.inc F i).pel = s.pel := by simp [State.inc]
@[simp] theorem inc_mg (s : State) (F : Fld) (i : Nat) : (s.inc F i).mg = s.mg := by simp [State.inc]
@[simp] theorem inc_rc (s : State) (F : Fld) (i : Nat) : (s.inc F i).rc = s.rc := by simp [State.inc]
@[simp] theorem inc_mtr (s : State) (F : Fld) (i : Nat) : (s.inc F i).mtr = s.mtr := by simp [State.inc]
@[simp] theorem inc_mir (s : State) (F : Fld) (i : Nat) : (s.inc F i).mir = s.mir := by simp [State.inc]
@[simp] theorem inc_cmd (s : State) (F : Fld) (i : Nat) : (s.inc F i).cmd = s.cmd := by simp [State.inc]
@[simp] theorem inc_bus (s : State) (F : Fld) (i : Nat) : (s.inc F i).bus = s.bus := by simp [State.inc]
@[simp] theorem inc_fw (s : State) (F : Fld) (i : Nat) : (s.inc F i).fw = s.fw := by simp [State.inc]
@[simp] theorem inc_free (s : State) (F : Fld) (i : Nat) : (s.inc F i).free = s.free := by simp [State.inc]
@[simp] theorem inc_emit (s : State) (F : Fld) (i : Nat) : (s.inc F i).emit = s.emit := by simp [State.inc]
@[simp] theorem inc_pending (s : State) (F : Fld) (i : Nat) : (s.inc F i).pending = s.pending := by simp [State.inc]
@[simp] theorem inc_inf (s : State) (F : Fld) (i : Nat) (G : Fld) (j : Nat) : (s.inc F i).inf G j = s.inf G j := by simp [State.inc]
@[simp] theorem incSat_tick (s : State) (F : Fld) (i k : Nat) : (s.incSat F i k).tick = s.tick := by simp [State.incSat]
@[simp] theorem incSat_locks (s : State) (F : Fld) (i k : Nat) : (s.incSat F i k).locks = s.locks := by simp [State.incSat]
@[simp] theorem incSat_inForce (s : State) (F : Fld) (i k : Nat) : (s.incSat F i k).inForce = s.inForce := by simp [State.incSat]
@[simp] theorem incSat_cad (s : State) (F : Fld) (i k : Nat) : (s.incSat F i k).cad = s.cad := by simp [State.incSat]
@[simp] theorem incSat_spk (s : State) (F : Fld) (i k : Nat) : (s.incSat F i k).spk = s.spk := by simp [State.incSat]
@[simp] theorem incSat_rim (s : State) (F : Fld) (i k : Nat) : (s.incSat F i k).rim = s.rim := by simp [State.incSat]
@[simp] theorem incSat_gl (s : State) (F : Fld) (i k : Nat) : (s.incSat F i k).gl = s.gl := by simp [State.incSat]
@[simp] theorem incSat_eng (s : State) (F : Fld) (i k : Nat) : (s.incSat F i k).eng = s.eng := by simp [State.incSat]
@[simp] theorem incSat_em (s : State) (F : Fld) (i k : Nat) : (s.incSat F i k).em = s.em := by simp [State.incSat]
@[simp] theorem incSat_th (s : State) (F : Fld) (i k : Nat) : (s.incSat F i k).th = s.th := by simp [State.incSat]
@[simp] theorem incSat_bg (s : State) (F : Fld) (i k : Nat) : (s.incSat F i k).bg = s.bg := by simp [State.incSat]
@[simp] theorem incSat_car (s : State) (F : Fld) (i k : Nat) : (s.incSat F i k).car = s.car := by simp [State.incSat]
@[simp] theorem incSat_pel (s : State) (F : Fld) (i k : Nat) : (s.incSat F i k).pel = s.pel := by simp [State.incSat]
@[simp] theorem incSat_mg (s : State) (F : Fld) (i k : Nat) : (s.incSat F i k).mg = s.mg := by simp [State.incSat]
@[simp] theorem incSat_rc (s : State) (F : Fld) (i k : Nat) : (s.incSat F i k).rc = s.rc := by simp [State.incSat]
@[simp] theorem incSat_mtr (s : State) (F : Fld) (i k : Nat) : (s.incSat F i k).mtr = s.mtr := by simp [State.incSat]
@[simp] theorem incSat_mir (s : State) (F : Fld) (i k : Nat) : (s.incSat F i k).mir = s.mir := by simp [State.incSat]
@[simp] theorem incSat_cmd (s : State) (F : Fld) (i k : Nat) : (s.incSat F i k).cmd = s.cmd := by simp [State.incSat]
@[simp] theorem incSat_bus (s : State) (F : Fld) (i k : Nat) : (s.incSat F i k).bus = s.bus := by simp [State.incSat]
@[simp] theorem incSat_fw (s : State) (F : Fld) (i k : Nat) : (s.incSat F i k).fw = s.fw := by simp [State.incSat]
@[simp] theorem incSat_free (s : State) (F : Fld) (i k : Nat) : (s.incSat F i k).free = s.free := by simp [State.incSat]
@[simp] theorem incSat_emit (s : State) (F : Fld) (i k : Nat) : (s.incSat F i k).emit = s.emit := by simp [State.incSat]
@[simp] theorem incSat_pending (s : State) (F : Fld) (i k : Nat) : (s.incSat F i k).pending = s.pending := by simp [State.incSat]
@[simp] theorem incSat_inf (s : State) (F : Fld) (i k : Nat) (G : Fld) (j : Nat) : (s.incSat F i k).inf G j = s.inf G j := by simp [State.incSat]
@[simp] theorem wrS_tick (s : State) (F : Fld) (i : Nat) (v : Int) : (s.wrS F i v).tick = s.tick := by simp [State.wrS]
@[simp] theorem wrS_locks (s : State) (F : Fld) (i : Nat) (v : Int) : (s.wrS F i v).locks = s.locks := by simp [State.wrS]
@[simp] theorem wrS_inForce (s : State) (F : Fld) (i : Nat) (v : Int) : (s.wrS F i v).inForce = s.inForce := by simp [State.wrS]
@[simp] theorem wrS_cad (s : State) (F : Fld) (i : Nat) (v : Int) : (s.wrS F i v).cad = s.cad := by simp [State.wrS]
@[simp] theorem wrS_spk (s : State) (F : Fld) (i : Nat) (v : Int) : (s.wrS F i v).spk = s.spk := by simp [State.wrS]
@[simp] theorem wrS_rim (s : State) (F : Fld) (i : Nat) (v : Int) : (s.wrS F i v).rim = s.rim := by simp [State.wrS]
@[simp] theorem wrS_gl (s : State) (F : Fld) (i : Nat) (v : Int) : (s.wrS F i v).gl = s.gl := by simp [State.wrS]
@[simp] theorem wrS_eng (s : State) (F : Fld) (i : Nat) (v : Int) : (s.wrS F i v).eng = s.eng := by simp [State.wrS]
@[simp] theorem wrS_em (s : State) (F : Fld) (i : Nat) (v : Int) : (s.wrS F i v).em = s.em := by simp [State.wrS]
@[simp] theorem wrS_th (s : State) (F : Fld) (i : Nat) (v : Int) : (s.wrS F i v).th = s.th := by simp [State.wrS]
@[simp] theorem wrS_bg (s : State) (F : Fld) (i : Nat) (v : Int) : (s.wrS F i v).bg = s.bg := by simp [State.wrS]
@[simp] theorem wrS_car (s : State) (F : Fld) (i : Nat) (v : Int) : (s.wrS F i v).car = s.car := by simp [State.wrS]
@[simp] theorem wrS_pel (s : State) (F : Fld) (i : Nat) (v : Int) : (s.wrS F i v).pel = s.pel := by simp [State.wrS]
@[simp] theorem wrS_mg (s : State) (F : Fld) (i : Nat) (v : Int) : (s.wrS F i v).mg = s.mg := by simp [State.wrS]
@[simp] theorem wrS_rc (s : State) (F : Fld) (i : Nat) (v : Int) : (s.wrS F i v).rc = s.rc := by simp [State.wrS]
@[simp] theorem wrS_mtr (s : State) (F : Fld) (i : Nat) (v : Int) : (s.wrS F i v).mtr = s.mtr := by simp [State.wrS]
@[simp] theorem wrS_mir (s : State) (F : Fld) (i : Nat) (v : Int) : (s.wrS F i v).mir = s.mir := by simp [State.wrS]
@[simp] theorem wrS_cmd (s : State) (F : Fld) (i : Nat) (v : Int) : (s.wrS F i v).cmd = s.cmd := by simp [State.wrS]
@[simp] theorem wrS_bus (s : State) (F : Fld) (i : Nat) (v : Int) : (s.wrS F i v).bus = s.bus := by simp [State.wrS]
@[simp] theorem wrS_fw (s : State) (F : Fld) (i : Nat) (v : Int) : (s.wrS F i v).fw = s.fw := by simp [State.wrS]
@[simp] theorem wrS_free (s : State) (F : Fld) (i : Nat) (v : Int) : (s.wrS F i v).free = s.free := by simp [State.wrS]
@[simp] theorem wrS_emit (s : State) (F : Fld) (i : Nat) (v : Int) : (s.wrS F i v).emit = s.emit := by simp [State.wrS]
@[simp] theorem wrS_pending (s : State) (F : Fld) (i : Nat) (v : Int) : (s.wrS F i v).pending = s.pending := by simp [State.wrS]
@[simp] theorem wrS_inf (s : State) (F : Fld) (i : Nat) (v : Int) (G : Fld) (j : Nat) : (s.wrS F i v).inf G j = s.inf G j := by simp [State.wrS]

/-! ### Records, doorbells and events -/

/-- The bit addresses that logging and doorbells write: the log's next number, its drop count and event, and the two
doorbell words. -/
def logKeys : List Nat :=
  [LOG_STAT.NEXT.key 0, LOG_CNT.DROP.key 0, FW_EVT.LOG_DROP.key 0, DB_STAT_NS.STAT.key 0, DB_STAT_S.STAT.key 0]

/-- Everything that logging and doorbells can do: the log's staging and drop count, the releases of domestique tasks, and
the fields at `logKeys`. -/
structure LogOnly (s t : State) : Prop where
  tick : t.tick = s.tick
  locks : t.locks = s.locks
  rwl : t.rwl = s.rwl
  inForce : t.inForce = s.inForce
  spk : t.spk = s.spk
  rim : t.rim = s.rim
  gl : t.gl = s.gl
  eng : t.eng = s.eng
  em : t.em = s.em
  th : t.th = s.th
  bg : t.bg = s.bg
  car : t.car = s.car
  pel : t.pel = s.pel
  mg : t.mg = s.mg
  rc : t.rc = s.rc
  mtr : t.mtr = s.mtr
  mir : t.mir = s.mir
  cmd : t.cmd = s.cmd
  bus : t.bus = s.bus
  free : t.free = s.free
  emit : t.emit = s.emit
  pending : t.pending = s.pending
  cad : ∃ ts, t.cad = { s.cad with tasks := ts }
  fw : ∃ st d, t.fw = { s.fw with staging := st, dropPend := d }
  rd : ∀ F i, F.key i ∉ logKeys → t.rd F i = s.rd F i

theorem LogOnly.refl (s : State) : LogOnly s s where
  tick := rfl
  locks := rfl
  rwl := rfl
  inForce := rfl
  spk := rfl
  rim := rfl
  gl := rfl
  eng := rfl
  em := rfl
  th := rfl
  bg := rfl
  car := rfl
  pel := rfl
  mg := rfl
  rc := rfl
  mtr := rfl
  mir := rfl
  cmd := rfl
  bus := rfl
  free := rfl
  emit := rfl
  pending := rfl
  cad := ⟨_, rfl⟩
  fw := ⟨_, _, rfl⟩
  rd := fun _ _ _ => rfl

theorem LogOnly.trans {s t u : State} (h : LogOnly s t) (k : LogOnly t u) : LogOnly s u where
  tick := k.tick.trans h.tick
  locks := k.locks.trans h.locks
  rwl := k.rwl.trans h.rwl
  inForce := k.inForce.trans h.inForce
  spk := k.spk.trans h.spk
  rim := k.rim.trans h.rim
  gl := k.gl.trans h.gl
  eng := k.eng.trans h.eng
  em := k.em.trans h.em
  th := k.th.trans h.th
  bg := k.bg.trans h.bg
  car := k.car.trans h.car
  pel := k.pel.trans h.pel
  mg := k.mg.trans h.mg
  rc := k.rc.trans h.rc
  mtr := k.mtr.trans h.mtr
  mir := k.mir.trans h.mir
  cmd := k.cmd.trans h.cmd
  bus := k.bus.trans h.bus
  free := k.free.trans h.free
  emit := k.emit.trans h.emit
  pending := k.pending.trans h.pending
  cad := by
    obtain ⟨a, ha⟩ := h.cad
    obtain ⟨b, hb⟩ := k.cad
    exact ⟨b, by rw [hb, ha]⟩
  fw := by
    obtain ⟨a, d, ha⟩ := h.fw
    obtain ⟨b, e, hb⟩ := k.fw
    exact ⟨b, e, by rw [hb, ha]⟩
  rd := fun F i hF => (k.rd F i hF).trans (h.rd F i hF)

/-- A write at one of `logKeys`. -/
theorem LogOnly.wr (s : State) (F : Fld) (v : Nat) (h : F.key 0 ∈ logKeys) (hr : F.rwl = false) :
    LogOnly s (s.wr F 0 v) where
  tick := by simp [State.wr, hr]
  locks := by simp [State.wr, hr]
  rwl := by simp [State.wr, hr]
  inForce := by simp [State.wr, hr]
  spk := by simp [State.wr, hr]
  rim := by simp [State.wr, hr]
  gl := by simp [State.wr, hr]
  eng := by simp [State.wr, hr]
  em := by simp [State.wr, hr]
  th := by simp [State.wr, hr]
  bg := by simp [State.wr, hr]
  car := by simp [State.wr, hr]
  pel := by simp [State.wr, hr]
  mg := by simp [State.wr, hr]
  rc := by simp [State.wr, hr]
  mtr := by simp [State.wr, hr]
  mir := by simp [State.wr, hr]
  cmd := by simp [State.wr, hr]
  bus := by simp [State.wr, hr]
  free := by simp [State.wr, hr]
  emit := by simp [State.wr, hr]
  pending := by simp [State.wr, hr]
  cad := ⟨s.cad.tasks, by simp⟩
  fw := ⟨s.fw.staging, s.fw.dropPend, by simp⟩
  rd := fun G i hG => rd_wr_ne _ _ _ _ _ _ (fun e => hG (e ▸ h))

theorem LogOnly.wrBit (s : State) (F : Fld) (b : Nat) (v : Bool) (h : F.key 0 ∈ logKeys) (hr : F.rwl = false) :
    LogOnly s (s.wrBit F 0 b v) := by
  rcases wrBit_cases s F 0 b v with h' | ⟨x, h'⟩ <;> rw [h']
  · exact LogOnly.refl s
  · exact LogOnly.wr s F x h hr

theorem LogOnly.setFw (s : State) (f : Fw → Fw) (h : ∀ w, ∃ st d, f w = { w with staging := st, dropPend := d }) :
    LogOnly s (s.setFw f) where
  tick := rfl
  locks := rfl
  rwl := rfl
  inForce := rfl
  spk := rfl
  rim := rfl
  gl := rfl
  eng := rfl
  em := rfl
  th := rfl
  bg := rfl
  car := rfl
  pel := rfl
  mg := rfl
  rc := rfl
  mtr := rfl
  mir := rfl
  cmd := rfl
  bus := rfl
  free := rfl
  emit := rfl
  pending := rfl
  cad := ⟨_, rfl⟩
  fw := h s.fw
  rd := fun _ _ _ => rfl

theorem LogOnly.doorbell (s : State) (b : Nat) : LogOnly s (s.doorbell b) := by
  unfold State.doorbell
  split
  · exact LogOnly.wrBit s _ _ _ (by decide) rfl
  · exact LogOnly.wrBit s _ _ _ (by decide) rfl

theorem LogOnly.trigger (s : State) (n : Nat) : LogOnly s (s.trigger n) where
  tick := rfl
  locks := rfl
  rwl := rfl
  inForce := rfl
  spk := rfl
  rim := rfl
  gl := rfl
  eng := rfl
  em := rfl
  th := rfl
  bg := rfl
  car := rfl
  pel := rfl
  mg := rfl
  rc := rfl
  mtr := rfl
  mir := rfl
  cmd := rfl
  bus := rfl
  free := rfl
  emit := rfl
  pending := rfl
  cad := ⟨_, rfl⟩
  fw := ⟨_, _, rfl⟩
  rd := fun _ _ _ => rfl

theorem LogOnly.enterRec (s : State) (r : LogRec) : LogOnly s (s.enterRec r) := by
  unfold State.enterRec
  have h1 : ∀ u : State, LogOnly u (u.wr LOG_STAT.NEXT 0 (s.rd LOG_STAT.NEXT + 1)) :=
    fun u => LogOnly.wr u _ _ (by decide) rfl
  have h2 : ∀ st, LogOnly s (s.setFw (fun f => { f with staging := st })) :=
    fun st => LogOnly.setFw s _ (fun w => ⟨st, w.dropPend, rfl⟩)
  simp only
  split
  · exact ((h2 _).trans (h1 _)).trans (LogOnly.trigger _ _)
  · exact (h2 _).trans (h1 _)

theorem LogOnly.enterDropped (s : State) : LogOnly s s.enterDropped := by
  unfold State.enterDropped
  split
  · exact LogOnly.refl s
  · exact (LogOnly.setFw s _ (fun w => ⟨w.staging, 0, rfl⟩)).trans (LogOnly.enterRec _ _)

theorem LogOnly.countDrop (s : State) : LogOnly s s.countDrop :=
  (LogOnly.wr s _ _ (by decide) rfl).trans (LogOnly.setFw _ _ (fun w => ⟨w.staging, _, rfl⟩))

theorem LogOnly.tryRec (s : State) (r : LogRec) : LogOnly s (s.tryRec r) := by
  unfold State.tryRec
  split
  · exact LogOnly.countDrop s
  · simp only
    split
    · exact (LogOnly.enterDropped s).trans (LogOnly.enterRec _ _)
    · exact (LogOnly.enterDropped s).trans (LogOnly.countDrop _)

theorem LogOnly.dropRec (s : State) : LogOnly s s.dropRec := by
  unfold State.dropRec
  have h1 := LogOnly.countDrop s
  have h2 := LogOnly.wr s.countDrop FW_EVT.LOG_DROP 1 (by decide) rfl
  simp only
  split
  · exact (h1.trans h2).trans ((LogOnly.doorbell _ _).trans (LogOnly.tryRec _ _))
  · exact h1.trans h2

theorem LogOnly.logRec (s : State) (r : LogRec) : LogOnly s (s.logRec r) := by
  unfold State.logRec
  split
  · exact LogOnly.dropRec s
  · simp only
    split
    · exact (LogOnly.enterDropped s).trans (LogOnly.enterRec _ _)
    · exact (LogOnly.enterDropped s).trans (LogOnly.dropRec _)

theorem LogOnly.fwRec (s : State) (r : LogRec) : LogOnly s (s.fwRec r) :=
  LogOnly.logRec s _

theorem LogOnly.logOnly (s : State) (e : Evt) (a b : Nat) : LogOnly s (s.logOnly e a b) :=
  LogOnly.fwRec s _

theorem LogOnly.errRecord (s : State) (c : Nat) (b : Bool) : LogOnly s (s.errRecord c b) :=
  LogOnly.logRec s _

/-- Raising an event sets its bit; all else it can do is logging and doorbells. -/
theorem LogOnly.raise (s : State) (e : Evt) (a b : Nat) : LogOnly (s.wr e.st 0 1) (s.raise e a b) := by
  unfold State.raise
  simp only
  split
  · exact (LogOnly.doorbell _ _).trans (LogOnly.logRec _ _)
  · exact LogOnly.refl _

theorem LogOnly.raiseLog (s : State) (e : Evt) (a b : Nat) : LogOnly (s.wr e.st 0 1) (s.raiseLog e a b) := by
  unfold State.raiseLog
  simp only
  split
  · exact (LogOnly.doorbell _ _).trans (LogOnly.fwRec _ _)
  · exact LogOnly.fwRec _ _

@[simp] theorem doorbell_tick (s : State) (b : Nat) : (s.doorbell b).tick = s.tick :=
  (LogOnly.doorbell s b).tick
@[simp] theorem doorbell_locks (s : State) (b : Nat) : (s.doorbell b).locks = s.locks :=
  (LogOnly.doorbell s b).locks
@[simp] theorem doorbell_rwl (s : State) (b : Nat) : (s.doorbell b).rwl = s.rwl :=
  (LogOnly.doorbell s b).rwl
@[simp] theorem doorbell_inForce (s : State) (b : Nat) : (s.doorbell b).inForce = s.inForce :=
  (LogOnly.doorbell s b).inForce
@[simp] theorem doorbell_spk (s : State) (b : Nat) : (s.doorbell b).spk = s.spk :=
  (LogOnly.doorbell s b).spk
@[simp] theorem doorbell_rim (s : State) (b : Nat) : (s.doorbell b).rim = s.rim :=
  (LogOnly.doorbell s b).rim
@[simp] theorem doorbell_gl (s : State) (b : Nat) : (s.doorbell b).gl = s.gl :=
  (LogOnly.doorbell s b).gl
@[simp] theorem doorbell_eng (s : State) (b : Nat) : (s.doorbell b).eng = s.eng :=
  (LogOnly.doorbell s b).eng
@[simp] theorem doorbell_em (s : State) (b : Nat) : (s.doorbell b).em = s.em :=
  (LogOnly.doorbell s b).em
@[simp] theorem doorbell_th (s : State) (b : Nat) : (s.doorbell b).th = s.th :=
  (LogOnly.doorbell s b).th
@[simp] theorem doorbell_bg (s : State) (b : Nat) : (s.doorbell b).bg = s.bg :=
  (LogOnly.doorbell s b).bg
@[simp] theorem doorbell_car (s : State) (b : Nat) : (s.doorbell b).car = s.car :=
  (LogOnly.doorbell s b).car
@[simp] theorem doorbell_pel (s : State) (b : Nat) : (s.doorbell b).pel = s.pel :=
  (LogOnly.doorbell s b).pel
@[simp] theorem doorbell_mg (s : State) (b : Nat) : (s.doorbell b).mg = s.mg :=
  (LogOnly.doorbell s b).mg
@[simp] theorem doorbell_rc (s : State) (b : Nat) : (s.doorbell b).rc = s.rc :=
  (LogOnly.doorbell s b).rc
@[simp] theorem doorbell_mtr (s : State) (b : Nat) : (s.doorbell b).mtr = s.mtr :=
  (LogOnly.doorbell s b).mtr
@[simp] theorem doorbell_mir (s : State) (b : Nat) : (s.doorbell b).mir = s.mir :=
  (LogOnly.doorbell s b).mir
@[simp] theorem doorbell_cmd (s : State) (b : Nat) : (s.doorbell b).cmd = s.cmd :=
  (LogOnly.doorbell s b).cmd
@[simp] theorem doorbell_bus (s : State) (b : Nat) : (s.doorbell b).bus = s.bus :=
  (LogOnly.doorbell s b).bus
@[simp] theorem doorbell_free (s : State) (b : Nat) : (s.doorbell b).free = s.free :=
  (LogOnly.doorbell s b).free
@[simp] theorem doorbell_emit (s : State) (b : Nat) : (s.doorbell b).emit = s.emit :=
  (LogOnly.doorbell s b).emit
@[simp] theorem doorbell_pending (s : State) (b : Nat) : (s.doorbell b).pending = s.pending :=
  (LogOnly.doorbell s b).pending
@[simp] theorem doorbell_inf (s : State) (b : Nat) (F : Fld) (i : Nat) : (s.doorbell b).inf F i = s.inf F i := by
  simp [State.inf]
theorem rd_doorbell (s : State) (b : Nat) (F : Fld) (i : Nat) (h : F.key i ∉ logKeys) :
    (s.doorbell b).rd F i = s.rd F i :=
  (LogOnly.doorbell s b).rd F i h

@[simp] theorem logRec_tick (s : State) (r : LogRec) : (s.logRec r).tick = s.tick :=
  (LogOnly.logRec s r).tick
@[simp] theorem logRec_locks (s : State) (r : LogRec) : (s.logRec r).locks = s.locks :=
  (LogOnly.logRec s r).locks
@[simp] theorem logRec_rwl (s : State) (r : LogRec) : (s.logRec r).rwl = s.rwl :=
  (LogOnly.logRec s r).rwl
@[simp] theorem logRec_inForce (s : State) (r : LogRec) : (s.logRec r).inForce = s.inForce :=
  (LogOnly.logRec s r).inForce
@[simp] theorem logRec_spk (s : State) (r : LogRec) : (s.logRec r).spk = s.spk :=
  (LogOnly.logRec s r).spk
@[simp] theorem logRec_rim (s : State) (r : LogRec) : (s.logRec r).rim = s.rim :=
  (LogOnly.logRec s r).rim
@[simp] theorem logRec_gl (s : State) (r : LogRec) : (s.logRec r).gl = s.gl :=
  (LogOnly.logRec s r).gl
@[simp] theorem logRec_eng (s : State) (r : LogRec) : (s.logRec r).eng = s.eng :=
  (LogOnly.logRec s r).eng
@[simp] theorem logRec_em (s : State) (r : LogRec) : (s.logRec r).em = s.em :=
  (LogOnly.logRec s r).em
@[simp] theorem logRec_th (s : State) (r : LogRec) : (s.logRec r).th = s.th :=
  (LogOnly.logRec s r).th
@[simp] theorem logRec_bg (s : State) (r : LogRec) : (s.logRec r).bg = s.bg :=
  (LogOnly.logRec s r).bg
@[simp] theorem logRec_car (s : State) (r : LogRec) : (s.logRec r).car = s.car :=
  (LogOnly.logRec s r).car
@[simp] theorem logRec_pel (s : State) (r : LogRec) : (s.logRec r).pel = s.pel :=
  (LogOnly.logRec s r).pel
@[simp] theorem logRec_mg (s : State) (r : LogRec) : (s.logRec r).mg = s.mg :=
  (LogOnly.logRec s r).mg
@[simp] theorem logRec_rc (s : State) (r : LogRec) : (s.logRec r).rc = s.rc :=
  (LogOnly.logRec s r).rc
@[simp] theorem logRec_mtr (s : State) (r : LogRec) : (s.logRec r).mtr = s.mtr :=
  (LogOnly.logRec s r).mtr
@[simp] theorem logRec_mir (s : State) (r : LogRec) : (s.logRec r).mir = s.mir :=
  (LogOnly.logRec s r).mir
@[simp] theorem logRec_cmd (s : State) (r : LogRec) : (s.logRec r).cmd = s.cmd :=
  (LogOnly.logRec s r).cmd
@[simp] theorem logRec_bus (s : State) (r : LogRec) : (s.logRec r).bus = s.bus :=
  (LogOnly.logRec s r).bus
@[simp] theorem logRec_free (s : State) (r : LogRec) : (s.logRec r).free = s.free :=
  (LogOnly.logRec s r).free
@[simp] theorem logRec_emit (s : State) (r : LogRec) : (s.logRec r).emit = s.emit :=
  (LogOnly.logRec s r).emit
@[simp] theorem logRec_pending (s : State) (r : LogRec) : (s.logRec r).pending = s.pending :=
  (LogOnly.logRec s r).pending
@[simp] theorem logRec_inf (s : State) (r : LogRec) (F : Fld) (i : Nat) : (s.logRec r).inf F i = s.inf F i := by
  simp [State.inf]
theorem rd_logRec (s : State) (r : LogRec) (F : Fld) (i : Nat) (h : F.key i ∉ logKeys) :
    (s.logRec r).rd F i = s.rd F i :=
  (LogOnly.logRec s r).rd F i h

@[simp] theorem logOnly_tick (s : State) (e : Evt) (a b : Nat) : (s.logOnly e a b).tick = s.tick :=
  (LogOnly.logOnly s e a b).tick
@[simp] theorem logOnly_locks (s : State) (e : Evt) (a b : Nat) : (s.logOnly e a b).locks = s.locks :=
  (LogOnly.logOnly s e a b).locks
@[simp] theorem logOnly_rwl (s : State) (e : Evt) (a b : Nat) : (s.logOnly e a b).rwl = s.rwl :=
  (LogOnly.logOnly s e a b).rwl
@[simp] theorem logOnly_inForce (s : State) (e : Evt) (a b : Nat) : (s.logOnly e a b).inForce = s.inForce :=
  (LogOnly.logOnly s e a b).inForce
@[simp] theorem logOnly_spk (s : State) (e : Evt) (a b : Nat) : (s.logOnly e a b).spk = s.spk :=
  (LogOnly.logOnly s e a b).spk
@[simp] theorem logOnly_rim (s : State) (e : Evt) (a b : Nat) : (s.logOnly e a b).rim = s.rim :=
  (LogOnly.logOnly s e a b).rim
@[simp] theorem logOnly_gl (s : State) (e : Evt) (a b : Nat) : (s.logOnly e a b).gl = s.gl :=
  (LogOnly.logOnly s e a b).gl
@[simp] theorem logOnly_eng (s : State) (e : Evt) (a b : Nat) : (s.logOnly e a b).eng = s.eng :=
  (LogOnly.logOnly s e a b).eng
@[simp] theorem logOnly_em (s : State) (e : Evt) (a b : Nat) : (s.logOnly e a b).em = s.em :=
  (LogOnly.logOnly s e a b).em
@[simp] theorem logOnly_th (s : State) (e : Evt) (a b : Nat) : (s.logOnly e a b).th = s.th :=
  (LogOnly.logOnly s e a b).th
@[simp] theorem logOnly_bg (s : State) (e : Evt) (a b : Nat) : (s.logOnly e a b).bg = s.bg :=
  (LogOnly.logOnly s e a b).bg
@[simp] theorem logOnly_car (s : State) (e : Evt) (a b : Nat) : (s.logOnly e a b).car = s.car :=
  (LogOnly.logOnly s e a b).car
@[simp] theorem logOnly_pel (s : State) (e : Evt) (a b : Nat) : (s.logOnly e a b).pel = s.pel :=
  (LogOnly.logOnly s e a b).pel
@[simp] theorem logOnly_mg (s : State) (e : Evt) (a b : Nat) : (s.logOnly e a b).mg = s.mg :=
  (LogOnly.logOnly s e a b).mg
@[simp] theorem logOnly_rc (s : State) (e : Evt) (a b : Nat) : (s.logOnly e a b).rc = s.rc :=
  (LogOnly.logOnly s e a b).rc
@[simp] theorem logOnly_mtr (s : State) (e : Evt) (a b : Nat) : (s.logOnly e a b).mtr = s.mtr :=
  (LogOnly.logOnly s e a b).mtr
@[simp] theorem logOnly_mir (s : State) (e : Evt) (a b : Nat) : (s.logOnly e a b).mir = s.mir :=
  (LogOnly.logOnly s e a b).mir
@[simp] theorem logOnly_cmd (s : State) (e : Evt) (a b : Nat) : (s.logOnly e a b).cmd = s.cmd :=
  (LogOnly.logOnly s e a b).cmd
@[simp] theorem logOnly_bus (s : State) (e : Evt) (a b : Nat) : (s.logOnly e a b).bus = s.bus :=
  (LogOnly.logOnly s e a b).bus
@[simp] theorem logOnly_free (s : State) (e : Evt) (a b : Nat) : (s.logOnly e a b).free = s.free :=
  (LogOnly.logOnly s e a b).free
@[simp] theorem logOnly_emit (s : State) (e : Evt) (a b : Nat) : (s.logOnly e a b).emit = s.emit :=
  (LogOnly.logOnly s e a b).emit
@[simp] theorem logOnly_pending (s : State) (e : Evt) (a b : Nat) : (s.logOnly e a b).pending = s.pending :=
  (LogOnly.logOnly s e a b).pending
@[simp] theorem logOnly_inf (s : State) (e : Evt) (a b : Nat) (F : Fld) (i : Nat) : (s.logOnly e a b).inf F i = s.inf F i := by
  simp [State.inf]
theorem rd_logOnly (s : State) (e : Evt) (a b : Nat) (F : Fld) (i : Nat) (h : F.key i ∉ logKeys) :
    (s.logOnly e a b).rd F i = s.rd F i :=
  (LogOnly.logOnly s e a b).rd F i h

@[simp] theorem errRecord_tick (s : State) (c : Nat) (b : Bool) : (s.errRecord c b).tick = s.tick :=
  (LogOnly.errRecord s c b).tick
@[simp] theorem errRecord_locks (s : State) (c : Nat) (b : Bool) : (s.errRecord c b).locks = s.locks :=
  (LogOnly.errRecord s c b).locks
@[simp] theorem errRecord_rwl (s : State) (c : Nat) (b : Bool) : (s.errRecord c b).rwl = s.rwl :=
  (LogOnly.errRecord s c b).rwl
@[simp] theorem errRecord_inForce (s : State) (c : Nat) (b : Bool) : (s.errRecord c b).inForce = s.inForce :=
  (LogOnly.errRecord s c b).inForce
@[simp] theorem errRecord_spk (s : State) (c : Nat) (b : Bool) : (s.errRecord c b).spk = s.spk :=
  (LogOnly.errRecord s c b).spk
@[simp] theorem errRecord_rim (s : State) (c : Nat) (b : Bool) : (s.errRecord c b).rim = s.rim :=
  (LogOnly.errRecord s c b).rim
@[simp] theorem errRecord_gl (s : State) (c : Nat) (b : Bool) : (s.errRecord c b).gl = s.gl :=
  (LogOnly.errRecord s c b).gl
@[simp] theorem errRecord_eng (s : State) (c : Nat) (b : Bool) : (s.errRecord c b).eng = s.eng :=
  (LogOnly.errRecord s c b).eng
@[simp] theorem errRecord_em (s : State) (c : Nat) (b : Bool) : (s.errRecord c b).em = s.em :=
  (LogOnly.errRecord s c b).em
@[simp] theorem errRecord_th (s : State) (c : Nat) (b : Bool) : (s.errRecord c b).th = s.th :=
  (LogOnly.errRecord s c b).th
@[simp] theorem errRecord_bg (s : State) (c : Nat) (b : Bool) : (s.errRecord c b).bg = s.bg :=
  (LogOnly.errRecord s c b).bg
@[simp] theorem errRecord_car (s : State) (c : Nat) (b : Bool) : (s.errRecord c b).car = s.car :=
  (LogOnly.errRecord s c b).car
@[simp] theorem errRecord_pel (s : State) (c : Nat) (b : Bool) : (s.errRecord c b).pel = s.pel :=
  (LogOnly.errRecord s c b).pel
@[simp] theorem errRecord_mg (s : State) (c : Nat) (b : Bool) : (s.errRecord c b).mg = s.mg :=
  (LogOnly.errRecord s c b).mg
@[simp] theorem errRecord_rc (s : State) (c : Nat) (b : Bool) : (s.errRecord c b).rc = s.rc :=
  (LogOnly.errRecord s c b).rc
@[simp] theorem errRecord_mtr (s : State) (c : Nat) (b : Bool) : (s.errRecord c b).mtr = s.mtr :=
  (LogOnly.errRecord s c b).mtr
@[simp] theorem errRecord_mir (s : State) (c : Nat) (b : Bool) : (s.errRecord c b).mir = s.mir :=
  (LogOnly.errRecord s c b).mir
@[simp] theorem errRecord_cmd (s : State) (c : Nat) (b : Bool) : (s.errRecord c b).cmd = s.cmd :=
  (LogOnly.errRecord s c b).cmd
@[simp] theorem errRecord_bus (s : State) (c : Nat) (b : Bool) : (s.errRecord c b).bus = s.bus :=
  (LogOnly.errRecord s c b).bus
@[simp] theorem errRecord_free (s : State) (c : Nat) (b : Bool) : (s.errRecord c b).free = s.free :=
  (LogOnly.errRecord s c b).free
@[simp] theorem errRecord_emit (s : State) (c : Nat) (b : Bool) : (s.errRecord c b).emit = s.emit :=
  (LogOnly.errRecord s c b).emit
@[simp] theorem errRecord_pending (s : State) (c : Nat) (b : Bool) : (s.errRecord c b).pending = s.pending :=
  (LogOnly.errRecord s c b).pending
@[simp] theorem errRecord_inf (s : State) (c : Nat) (b : Bool) (F : Fld) (i : Nat) : (s.errRecord c b).inf F i = s.inf F i := by
  simp [State.inf]
theorem rd_errRecord (s : State) (c : Nat) (b : Bool) (F : Fld) (i : Nat) (h : F.key i ∉ logKeys) :
    (s.errRecord c b).rd F i = s.rd F i :=
  (LogOnly.errRecord s c b).rd F i h

@[simp] theorem raise_tick (s : State) (e : Evt) (a b : Nat) : (s.raise e a b).tick = s.tick :=
  (LogOnly.raise s e a b).tick.trans (wr_tick ..)
@[simp] theorem raise_locks (s : State) (e : Evt) (a b : Nat) : (s.raise e a b).locks = s.locks :=
  (LogOnly.raise s e a b).locks.trans (wr_locks ..)
@[simp] theorem raise_inForce (s : State) (e : Evt) (a b : Nat) : (s.raise e a b).inForce = s.inForce :=
  (LogOnly.raise s e a b).inForce.trans (wr_inForce ..)
@[simp] theorem raise_spk (s : State) (e : Evt) (a b : Nat) : (s.raise e a b).spk = s.spk :=
  (LogOnly.raise s e a b).spk.trans (wr_spk ..)
@[simp] theorem raise_rim (s : State) (e : Evt) (a b : Nat) : (s.raise e a b).rim = s.rim :=
  (LogOnly.raise s e a b).rim.trans (wr_rim ..)
@[simp] theorem raise_gl (s : State) (e : Evt) (a b : Nat) : (s.raise e a b).gl = s.gl :=
  (LogOnly.raise s e a b).gl.trans (wr_gl ..)
@[simp] theorem raise_eng (s : State) (e : Evt) (a b : Nat) : (s.raise e a b).eng = s.eng :=
  (LogOnly.raise s e a b).eng.trans (wr_eng ..)
@[simp] theorem raise_em (s : State) (e : Evt) (a b : Nat) : (s.raise e a b).em = s.em :=
  (LogOnly.raise s e a b).em.trans (wr_em ..)
@[simp] theorem raise_th (s : State) (e : Evt) (a b : Nat) : (s.raise e a b).th = s.th :=
  (LogOnly.raise s e a b).th.trans (wr_th ..)
@[simp] theorem raise_bg (s : State) (e : Evt) (a b : Nat) : (s.raise e a b).bg = s.bg :=
  (LogOnly.raise s e a b).bg.trans (wr_bg ..)
@[simp] theorem raise_car (s : State) (e : Evt) (a b : Nat) : (s.raise e a b).car = s.car :=
  (LogOnly.raise s e a b).car.trans (wr_car ..)
@[simp] theorem raise_pel (s : State) (e : Evt) (a b : Nat) : (s.raise e a b).pel = s.pel :=
  (LogOnly.raise s e a b).pel.trans (wr_pel ..)
@[simp] theorem raise_mg (s : State) (e : Evt) (a b : Nat) : (s.raise e a b).mg = s.mg :=
  (LogOnly.raise s e a b).mg.trans (wr_mg ..)
@[simp] theorem raise_rc (s : State) (e : Evt) (a b : Nat) : (s.raise e a b).rc = s.rc :=
  (LogOnly.raise s e a b).rc.trans (wr_rc ..)
@[simp] theorem raise_mtr (s : State) (e : Evt) (a b : Nat) : (s.raise e a b).mtr = s.mtr :=
  (LogOnly.raise s e a b).mtr.trans (wr_mtr ..)
@[simp] theorem raise_mir (s : State) (e : Evt) (a b : Nat) : (s.raise e a b).mir = s.mir :=
  (LogOnly.raise s e a b).mir.trans (wr_mir ..)
@[simp] theorem raise_cmd (s : State) (e : Evt) (a b : Nat) : (s.raise e a b).cmd = s.cmd :=
  (LogOnly.raise s e a b).cmd.trans (wr_cmd ..)
@[simp] theorem raise_bus (s : State) (e : Evt) (a b : Nat) : (s.raise e a b).bus = s.bus :=
  (LogOnly.raise s e a b).bus.trans (wr_bus ..)
@[simp] theorem raise_free (s : State) (e : Evt) (a b : Nat) : (s.raise e a b).free = s.free :=
  (LogOnly.raise s e a b).free.trans (wr_free ..)
@[simp] theorem raise_emit (s : State) (e : Evt) (a b : Nat) : (s.raise e a b).emit = s.emit :=
  (LogOnly.raise s e a b).emit.trans (wr_emit ..)
@[simp] theorem raise_pending (s : State) (e : Evt) (a b : Nat) : (s.raise e a b).pending = s.pending :=
  (LogOnly.raise s e a b).pending.trans (wr_pending ..)
@[simp] theorem raise_inf (s : State) (e : Evt) (a b : Nat) (F : Fld) (i : Nat) : (s.raise e a b).inf F i = s.inf F i := by
  simp [State.inf]
theorem rd_raise (s : State) (e : Evt) (a b : Nat) (F : Fld) (i : Nat) (h : F.key i ∉ logKeys) (h' : F.key i ≠ e.st.key 0) :
    (s.raise e a b).rd F i = s.rd F i :=
  ((LogOnly.raise s e a b).rd F i h).trans (rd_wr_ne _ _ _ _ _ _ h')
theorem rd_raise_st (s : State) (e : Evt) (a b : Nat) (h : e.st.key 0 ∉ logKeys) : (s.raise e a b).rd e.st 0 = 1 % 2 ^ e.st.width :=
  ((LogOnly.raise s e a b).rd _ _ h).trans (rd_wr_same ..)

@[simp] theorem raiseLog_tick (s : State) (e : Evt) (a b : Nat) : (s.raiseLog e a b).tick = s.tick :=
  (LogOnly.raiseLog s e a b).tick.trans (wr_tick ..)
@[simp] theorem raiseLog_locks (s : State) (e : Evt) (a b : Nat) : (s.raiseLog e a b).locks = s.locks :=
  (LogOnly.raiseLog s e a b).locks.trans (wr_locks ..)
@[simp] theorem raiseLog_inForce (s : State) (e : Evt) (a b : Nat) : (s.raiseLog e a b).inForce = s.inForce :=
  (LogOnly.raiseLog s e a b).inForce.trans (wr_inForce ..)
@[simp] theorem raiseLog_spk (s : State) (e : Evt) (a b : Nat) : (s.raiseLog e a b).spk = s.spk :=
  (LogOnly.raiseLog s e a b).spk.trans (wr_spk ..)
@[simp] theorem raiseLog_rim (s : State) (e : Evt) (a b : Nat) : (s.raiseLog e a b).rim = s.rim :=
  (LogOnly.raiseLog s e a b).rim.trans (wr_rim ..)
@[simp] theorem raiseLog_gl (s : State) (e : Evt) (a b : Nat) : (s.raiseLog e a b).gl = s.gl :=
  (LogOnly.raiseLog s e a b).gl.trans (wr_gl ..)
@[simp] theorem raiseLog_eng (s : State) (e : Evt) (a b : Nat) : (s.raiseLog e a b).eng = s.eng :=
  (LogOnly.raiseLog s e a b).eng.trans (wr_eng ..)
@[simp] theorem raiseLog_em (s : State) (e : Evt) (a b : Nat) : (s.raiseLog e a b).em = s.em :=
  (LogOnly.raiseLog s e a b).em.trans (wr_em ..)
@[simp] theorem raiseLog_th (s : State) (e : Evt) (a b : Nat) : (s.raiseLog e a b).th = s.th :=
  (LogOnly.raiseLog s e a b).th.trans (wr_th ..)
@[simp] theorem raiseLog_bg (s : State) (e : Evt) (a b : Nat) : (s.raiseLog e a b).bg = s.bg :=
  (LogOnly.raiseLog s e a b).bg.trans (wr_bg ..)
@[simp] theorem raiseLog_car (s : State) (e : Evt) (a b : Nat) : (s.raiseLog e a b).car = s.car :=
  (LogOnly.raiseLog s e a b).car.trans (wr_car ..)
@[simp] theorem raiseLog_pel (s : State) (e : Evt) (a b : Nat) : (s.raiseLog e a b).pel = s.pel :=
  (LogOnly.raiseLog s e a b).pel.trans (wr_pel ..)
@[simp] theorem raiseLog_mg (s : State) (e : Evt) (a b : Nat) : (s.raiseLog e a b).mg = s.mg :=
  (LogOnly.raiseLog s e a b).mg.trans (wr_mg ..)
@[simp] theorem raiseLog_rc (s : State) (e : Evt) (a b : Nat) : (s.raiseLog e a b).rc = s.rc :=
  (LogOnly.raiseLog s e a b).rc.trans (wr_rc ..)
@[simp] theorem raiseLog_mtr (s : State) (e : Evt) (a b : Nat) : (s.raiseLog e a b).mtr = s.mtr :=
  (LogOnly.raiseLog s e a b).mtr.trans (wr_mtr ..)
@[simp] theorem raiseLog_mir (s : State) (e : Evt) (a b : Nat) : (s.raiseLog e a b).mir = s.mir :=
  (LogOnly.raiseLog s e a b).mir.trans (wr_mir ..)
@[simp] theorem raiseLog_cmd (s : State) (e : Evt) (a b : Nat) : (s.raiseLog e a b).cmd = s.cmd :=
  (LogOnly.raiseLog s e a b).cmd.trans (wr_cmd ..)
@[simp] theorem raiseLog_bus (s : State) (e : Evt) (a b : Nat) : (s.raiseLog e a b).bus = s.bus :=
  (LogOnly.raiseLog s e a b).bus.trans (wr_bus ..)
@[simp] theorem raiseLog_free (s : State) (e : Evt) (a b : Nat) : (s.raiseLog e a b).free = s.free :=
  (LogOnly.raiseLog s e a b).free.trans (wr_free ..)
@[simp] theorem raiseLog_emit (s : State) (e : Evt) (a b : Nat) : (s.raiseLog e a b).emit = s.emit :=
  (LogOnly.raiseLog s e a b).emit.trans (wr_emit ..)
@[simp] theorem raiseLog_pending (s : State) (e : Evt) (a b : Nat) : (s.raiseLog e a b).pending = s.pending :=
  (LogOnly.raiseLog s e a b).pending.trans (wr_pending ..)
@[simp] theorem raiseLog_inf (s : State) (e : Evt) (a b : Nat) (F : Fld) (i : Nat) : (s.raiseLog e a b).inf F i = s.inf F i := by
  simp [State.inf]
theorem rd_raiseLog (s : State) (e : Evt) (a b : Nat) (F : Fld) (i : Nat) (h : F.key i ∉ logKeys) (h' : F.key i ≠ e.st.key 0) :
    (s.raiseLog e a b).rd F i = s.rd F i :=
  ((LogOnly.raiseLog s e a b).rd F i h).trans (rd_wr_ne _ _ _ _ _ _ h')
theorem rd_raiseLog_st (s : State) (e : Evt) (a b : Nat) (h : e.st.key 0 ∉ logKeys) : (s.raiseLog e a b).rd e.st 0 = 1 % 2 ^ e.st.width :=
  ((LogOnly.raiseLog s e a b).rd _ _ h).trans (rd_wr_same ..)

end Sys2Proof.Machine
end

