-- ==== Sys2Proof/Laws/Kept.lean ====
section
/-! SUPPORT. What every operation keeps: the queue of commands, the tick, a property of the lock bits, and the invariant.
The lemmas of the files `Kept….lean` say it of each operation of the model in turn, so that what every command keeps
follows without unfolding any of them. -/

namespace Sys2Proof.Machine

/-- What a stretch of work may do: the queue and the tick it shows, a property of its lock bits, the state it started
from, and the parts and register fields it may change. -/
structure Bounds where
  pending : List Instr
  tick : Nat
  locks : Locks → Prop
  start : State
  part : Region → Prop
  fld : Fld → Prop

/-- Work within the bounds has led to `s`; the invariant holds if it held at the start. -/
structure Kept (W : Bounds) (s : State) : Prop where
  pending : s.pending = W.pending
  tick : s.tick = W.tick
  locks : W.locks s.locks
  inv : W.start.Inv → s.Inv
  part : ∀ q, ¬ W.part q → q.same W.start s
  reg : ∀ G j, (∀ F, W.fld F → ∀ i, G.key j ≠ F.key i) → s.rd G j = W.start.rd G j

/-- The bounds allow logging and doorbells. -/
structure Logs (W : Bounds) : Prop where
  tasks : W.part .tasks
  log : W.part .log
  fld : ∀ F ∈ logFields, W.fld F

variable {W : Bounds} {s : State}

structure Kept2 (W : Bounds) {α : Type} (r : α × State) : Prop where
  kept : Kept W r.2

structure Kept3 (W : Bounds) {α β : Type} (r : α × β × State) : Prop where
  kept : Kept W r.2.2

structure KeptF (W : Bounds) {α : Type} (r : State × α) : Prop where
  kept : Kept W r.1

structure KeptSome (W : Bounds) {α : Type} (r : Option (α × State)) : Prop where
  kept : ∀ a t, r = some (a, t) → Kept W t

structure KeptO (W : Bounds) (r : Host.Outcome State Fault Refusal) : Prop where
  kept : ∃ t, r = .next t ∧ Kept W t

theorem kept_cut {P G : Prop} (h : P) (k : P → G) : G := k h

theorem kept_ite {c : Prop} [Decidable c] {a b : State} (h : Kept W a) (k : Kept W b) :
    Kept W (if c then a else b) := by
  split
  · exact h
  · exact k

theorem keptO_next (h : Kept W s) : KeptO W (.next s) := ⟨s, rfl, h⟩

theorem kept2_mk {α : Type} {a : α} (h : Kept W s) : Kept2 W (a, s) := ⟨h⟩

theorem kept3_mk {α β : Type} {a : α} {b : β} (h : Kept W s) : Kept3 W (a, b, s) := ⟨h⟩

theorem keptF_mk {α : Type} {a : α} (h : Kept W s) : KeptF W (s, a) := ⟨h⟩

theorem kept2_snd {α : Type} {r : α × State} (h : Kept2 W r) : Kept W r.2 := h.kept

theorem kept3_snd {α β : Type} {r : α × β × State} (h : Kept3 W r) : Kept W r.2.2 := h.kept

theorem keptF_fst {α : Type} {r : State × α} (h : KeptF W r) : Kept W r.1 := h.kept

theorem keptSome_none {α : Type} : KeptSome W (none : Option (α × State)) := ⟨fun _ _ h => nomatch h⟩

theorem keptSome_mk {α : Type} {a : α} (h : Kept W s) : KeptSome W (some (a, s)) :=
  ⟨fun _ _ e => by cases e; exact h⟩

/-- The state of a pair that a match has taken apart. -/
theorem kept_of2 {α : Type} {r : α × State} {a : α} {t : State} (e : r = (a, t)) (h : Kept2 W r) :
    Kept W t := by
  subst e; exact h.kept

theorem kept_of3 {α β : Type} {r : α × β × State} {a : α} {b : β} {t : State} (e : r = (a, b, t))
    (h : Kept3 W r) : Kept W t := by
  subst e; exact h.kept

theorem kept_ofF {α : Type} {r : State × α} {a : α} {t : State} (e : r = (t, a)) (h : KeptF W r) :
    Kept W t := by
  subst e; exact h.kept

theorem kept_ofSome {α : Type} {r : Option (α × State)} {a : α} {t : State} (e : r = some (a, t))
    (h : KeptSome W r) : Kept W t :=
  h.kept a t e

theorem kept_upTo {n : Nat} {f : Nat → State → State} (h : Kept W s)
    (k : ∀ i b, Kept W b → Kept W (f i b)) : Kept W (upTo n f s) :=
  upTo_keeps (Kept W) h k

theorem kept_foldl {β : Type} {l : List β} {f : State → β → State} (h : Kept W s)
    (k : ∀ b x, Kept W b → Kept W (f b x)) : Kept W (l.foldl f s) :=
  foldl_keeps (Kept W) h k

theorem keptF_foldl {α β : Type} {l : List β} {f : State × α → β → State × α} {q : State × α} (h : KeptF W q)
    (k : ∀ b x, KeptF W b → KeptF W (f b x)) : KeptF W (l.foldl f q) :=
  foldl_keeps (KeptF W) h k

theorem kept_foldl_fst {α β : Type} {l : List β} {f : State × α → β → State × α} {q : State × α} (h : KeptF W q)
    (k : ∀ b x, KeptF W b → KeptF W (f b x)) : Kept W (l.foldl f q).1 :=
  (keptF_foldl h k).kept

theorem kept2_foldl {α β : Type} {l : List β} {f : α × State → β → α × State} {q : α × State} (h : Kept2 W q)
    (k : ∀ b x, Kept2 W b → Kept2 W (f b x)) : Kept2 W (l.foldl f q) :=
  foldl_keeps (Kept2 W) h k

/-! ### Stores -/

theorem rising_cons {α : Type} {k : Nat} {v : α} {t : Table α} :
    Rising ((k, v) :: t) ↔ (∀ e ∈ t, k < e.1) ∧ Rising t := by
  simp [Rising, List.pairwise_cons]

theorem rising_put {α : Type} {t : Table α} {i : Nat} {v : α} (h : Rising t) : Rising (t.put i v) := by
  induction t with
  | nil => simp [Table.put, Rising]
  | cons e t ih =>
    obtain ⟨k, w⟩ := e
    have hc := rising_cons.mp h
    simp only [Table.put]
    split
    · next hk => subst hk; exact rising_cons.mpr hc
    · split
      · next hlt =>
        refine rising_cons.mpr ⟨?_, h⟩
        intro e he
        rcases List.mem_cons.mp he with rfl | he
        · exact hlt
        · exact lt_trans hlt (hc.1 e he)
      · next hne hnl =>
        refine rising_cons.mpr ⟨?_, ih hc.2⟩
        intro e he
        rcases Table.mem_put he with rfl | he
        · exact lt_of_le_of_ne (not_lt.mp hnl) (fun h' => hne h'.symm)
        · exact hc.1 e he

theorem rising_del {α : Type} {t : Table α} {i : Nat} (h : Rising t) : Rising (t.del i) := by
  induction t with
  | nil => exact h
  | cons e t ih =>
    obtain ⟨k, w⟩ := e
    have hc := rising_cons.mp h
    simp only [Table.del]
    split
    · exact ih hc.2
    · exact rising_cons.mpr ⟨fun e he => hc.1 e (Table.mem_del he), ih hc.2⟩

theorem rising_set {α : Type} [DecidableEq α] {d : α} {t : Table α} {i : Nat} {v : α} (h : Rising t) :
    Rising (Table.set d t i v) := by
  unfold Table.set
  split
  · exact rising_del h
  · exact rising_put h

theorem rising_filter {α : Type} {t : Table α} {q : Nat × α → Bool} (h : Rising t) : Rising (t.filter q) :=
  List.Pairwise.sublist (List.Sublist.map _ List.filter_sublist) h

/-! ### The base operations -/

theorem evqFill_congr {s t : State} (h : t.cad.queue = s.cad.queue) : t.evqFill = s.evqFill := by
  unfold State.evqFill; rw [h]

theorem Region.same_refl (s : State) (q : Region) : q.same s s := by
  cases q <;> simp [Region.same]

theorem Region.same_trans {s t u : State} {q : Region} (h : q.same s t) (k : q.same t u) : q.same s u := by
  cases q <;> simp only [Region.same] at h k ⊢
  case log => exact ⟨k.1.trans h.1, k.2.trans h.2⟩
  all_goals exact k.trans h

/-- The bounds at the start. -/
theorem Kept.self (s : State) (ps : Region → Prop) (fs : Fld → Prop) :
    Kept ⟨s.pending, s.tick, (· = s.locks), s, ps, fs⟩ s :=
  ⟨rfl, rfl, rfl, id, fun q _ => q.same_refl s, fun _ _ _ => rfl⟩

/-- What a command within bounds leaves alone. -/
theorem Kept.frame {s t : State} {ps : Region → Prop} {fs : Fld → Prop}
    (h : Kept ⟨s.pending, s.tick, (· = s.locks), s, ps, fs⟩ t) : Frame ps fs s t :=
  ⟨h.tick, h.locks, h.pending, h.part, h.reg⟩

/-- An update within the bounds. -/
theorem Kept.next {s t : State} (h : Kept W s) (hp : t.pending = s.pending) (ht : t.tick = s.tick)
    (hl : t.locks = s.locks) (hi : s.Inv → t.Inv) (hq : ∀ q, ¬ W.part q → q.same s t)
    (hr : ∀ G j, (∀ F, W.fld F → ∀ i, G.key j ≠ F.key i) → t.rd G j = s.rd G j) : Kept W t where
  pending := hp.trans h.pending
  tick := ht.trans h.tick
  locks := hl ▸ h.locks
  inv := fun k => hi (h.inv k)
  part := fun q k => Region.same_trans (h.part q k) (hq q k)
  reg := fun G j k => (hr G j k).trans (h.reg G j k)

/-- An update of parts that the invariant does not name. -/
theorem Kept.of_eq {s t : State} (h : Kept W s) (hp : t.pending = s.pending) (ht : t.tick = s.tick)
    (hl : t.locks = s.locks) (hf : t.fields = s.fields) (hr : t.rwl = s.rwl) (hi : t.inForce = s.inForce)
    (hs : t.fw.staging = s.fw.staging) (hq : t.cad.queue = s.cad.queue) (k : ∀ q, ¬ W.part q → q.same s t) : Kept W t :=
  h.next hp ht hl
    (fun i => ⟨hf ▸ i.fields, hr ▸ i.rwl, hi ▸ i.inForce, hs ▸ i.staging, evqFill_congr hq ▸ i.events⟩) k
    (fun G j _ => by unfold State.rd; rw [hf, hr])

theorem kept_setSpk {f : Spk → Spk} (h : Kept W s) (a : W.part .spk) : Kept W (s.setSpk f) :=
  h.of_eq rfl rfl rfl rfl rfl rfl rfl rfl (fun q k => by
    cases q with
    | spk => exact absurd a k
    | _ => simp [Region.same])

theorem kept_setRim {f : Rim → Rim} (h : Kept W s) (a : W.part .rim) : Kept W (s.setRim f) :=
  h.of_eq rfl rfl rfl rfl rfl rfl rfl rfl (fun q k => by
    cases q with
    | rim => exact absurd a k
    | _ => simp [Region.same])

theorem kept_setGl {f : Gl → Gl} (h : Kept W s) (a : W.part .gl) : Kept W (s.setGl f) :=
  h.of_eq rfl rfl rfl rfl rfl rfl rfl rfl (fun q k => by
    cases q with
    | gl => exact absurd a k
    | _ => simp [Region.same])

theorem kept_setEng {f : Eng → Eng} (h : Kept W s) (a : W.part .eng) : Kept W (s.setEng f) :=
  h.of_eq rfl rfl rfl rfl rfl rfl rfl rfl (fun q k => by
    cases q with
    | eng => exact absurd a k
    | _ => simp [Region.same])

theorem kept_setEm {f : Em → Em} (h : Kept W s) (a : W.part .em) : Kept W (s.setEm f) :=
  h.of_eq rfl rfl rfl rfl rfl rfl rfl rfl (fun q k => by
    cases q with
    | em => exact absurd a k
    | _ => simp [Region.same])

theorem kept_setTh {f : Th → Th} (h : Kept W s) (a : W.part .th) : Kept W (s.setTh f) :=
  h.of_eq rfl rfl rfl rfl rfl rfl rfl rfl (fun q k => by
    cases q with
    | th => exact absurd a k
    | _ => simp [Region.same])

theorem kept_setBg {f : Bg → Bg} (h : Kept W s) (a : W.part .bg) : Kept W (s.setBg f) :=
  h.of_eq rfl rfl rfl rfl rfl rfl rfl rfl (fun q k => by
    cases q with
    | bg => exact absurd a k
    | _ => simp [Region.same])

theorem kept_setCar {f : Car → Car} (h : Kept W s) (a : W.part .car) : Kept W (s.setCar f) :=
  h.of_eq rfl rfl rfl rfl rfl rfl rfl rfl (fun q k => by
    cases q with
    | car => exact absurd a k
    | _ => simp [Region.same])

theorem kept_setPel {f : Pel → Pel} (h : Kept W s) (a : W.part .pel) : Kept W (s.setPel f) :=
  h.of_eq rfl rfl rfl rfl rfl rfl rfl rfl (fun q k => by
    cases q with
    | pel => exact absurd a k
    | _ => simp [Region.same])

theorem kept_setMg {f : Mg → Mg} (h : Kept W s) (a : W.part .mg) : Kept W (s.setMg f) :=
  h.of_eq rfl rfl rfl rfl rfl rfl rfl rfl (fun q k => by
    cases q with
    | mg => exact absurd a k
    | _ => simp [Region.same])

theorem kept_setRc {f : Rc → Rc} (h : Kept W s) (a : W.part .rc) : Kept W (s.setRc f) :=
  h.of_eq rfl rfl rfl rfl rfl rfl rfl rfl (fun q k => by
    cases q with
    | rc => exact absurd a k
    | _ => simp [Region.same])

theorem kept_setMtr {f : Mtr → Mtr} (h : Kept W s) (a : W.part .mtr) : Kept W (s.setMtr f) :=
  h.of_eq rfl rfl rfl rfl rfl rfl rfl rfl (fun q k => by
    cases q with
    | mtr => exact absurd a k
    | _ => simp [Region.same])

theorem kept_setMir {f : Mirror → Mirror} (h : Kept W s) (a : W.part .mir) : Kept W (s.setMir f) :=
  h.of_eq rfl rfl rfl rfl rfl rfl rfl rfl (fun q k => by
    cases q with
    | mir => exact absurd a k
    | _ => simp [Region.same])

theorem kept_setCmd {f : Cmd → Cmd} (h : Kept W s) (a : W.part .cmd) : Kept W (s.setCmd f) :=
  h.of_eq rfl rfl rfl rfl rfl rfl rfl rfl (fun q k => by
    cases q with
    | cmd => exact absurd a k
    | _ => simp [Region.same])

theorem kept_setBus {f : Bus → Bus} (h : Kept W s) (a : W.part .bus) : Kept W (s.setBus f) :=
  h.of_eq rfl rfl rfl rfl rfl rfl rfl rfl (fun q k => by
    cases q with
    | bus => exact absurd a k
    | _ => simp [Region.same])

/-- An update of the cadence block; `k` says what becomes of the event queue. -/
theorem kept_cadence {f : Cad → Cad} (h : Kept W s) (k : s.Inv → (s.setCad f).evqFill ≤ 64) (a : W.part .cad)
    (b : W.part .tasks) : Kept W (s.setCad f) :=
  h.next rfl rfl rfl (fun i => ⟨i.fields, i.rwl, i.inForce, i.staging, k i⟩)
    (fun q n => by
      cases q with
      | cad => exact absurd a n
      | tasks => exact absurd b n
      | _ => simp [Region.same])
    (fun _ _ _ => rfl)

theorem kept_setCad {f : Cad → Cad} (h : Kept W s) (k : ∀ c, (f c).queue = c.queue) (a : W.part .cad)
    (b : W.part .tasks) : Kept W (s.setCad f) :=
  kept_cadence h (fun i => (evqFill_congr (s := s) (t := s.setCad f) (k s.cad)) ▸ i.events) a b

/-- An update of the releases of the domestique tasks alone. -/
theorem kept_tasks {f : Table Task → Table Task} (h : Kept W s) (b : W.part .tasks) :
    Kept W (s.setCad (fun c => { c with tasks := f c.tasks })) :=
  h.of_eq rfl rfl rfl rfl rfl rfl rfl rfl (fun q k => by
    cases q with
    | tasks => exact absurd b k
    | _ => simp [Region.same])

/-- An update of the firmware block; `k` says what becomes of the log's staging. -/
theorem kept_firmware {f : Fw → Fw} (h : Kept W s) (k : s.Inv → (f s.fw).staging.length ≤ 256) (a : W.part .fw)
    (b : W.part .log) : Kept W (s.setFw f) :=
  h.next rfl rfl rfl (fun i => ⟨i.fields, i.rwl, i.inForce, k i, i.events⟩)
    (fun q n => by
      cases q with
      | fw => exact absurd a n
      | log => exact absurd b n
      | _ => simp [Region.same])
    (fun _ _ _ => rfl)

theorem kept_setFw {f : Fw → Fw} (h : Kept W s) (k : ∀ c, (f c).staging = c.staging) (a : W.part .fw)
    (b : W.part .log) : Kept W (s.setFw f) :=
  kept_firmware h (fun i => by rw [k]; exact i.staging) a b

/-- An update of the log's staging and drop count alone. -/
theorem kept_staging {st : List LogRec} {n : Fw → Nat} (h : Kept W s) (k : s.Inv → st.length ≤ 256) (b : W.part .log) :
    Kept W (s.setFw (fun f => { f with staging := st, dropPend := n f })) :=
  h.next rfl rfl rfl (fun i => ⟨i.fields, i.rwl, i.inForce, k i, i.events⟩)
    (fun q m => by
      cases q with
      | log => exact absurd b m
      | _ => simp [Region.same])
    (fun _ _ _ => rfl)

theorem kept_wr {F : Fld} {i v : Nat} (h : Kept W s) (a : W.fld F) : Kept W (s.wr F i v) := by
  refine h.next (wr_pending ..) (wr_tick ..) (wr_locks ..) (fun k => ⟨?_, ?_, ?_, ?_, ?_⟩) (fun q _ => ?_)
    (fun G j k => rd_wr_ne _ _ _ _ _ _ (k F a i))
  · rw [wr_fields]; split
    · exact k.fields
    · exact rising_set k.fields
  · rw [wr_rwl]; split
    · exact rising_set k.rwl
    · exact k.rwl
  · rw [wr_inForce]; exact k.inForce
  · rw [wr_fw]; exact k.staging
  · rw [evqFill_congr (congrArg Cad.queue (wr_cad ..))]; exact k.events
  · cases q <;> simp [Region.same]

theorem kept_wrB {F : Fld} {i : Nat} {b : Bool} (h : Kept W s) (a : W.fld F) : Kept W (s.wrB F i b) := kept_wr h a

theorem kept_inc {F : Fld} {i : Nat} (h : Kept W s) (a : W.fld F) : Kept W (s.inc F i) := kept_wr h a

theorem kept_incSat {F : Fld} {i k : Nat} (h : Kept W s) (a : W.fld F) : Kept W (s.incSat F i k) := kept_wr h a

theorem kept_wrS {F : Fld} {i : Nat} {v : Int} (h : Kept W s) (a : W.fld F) : Kept W (s.wrS F i v) := kept_wr h a

theorem kept_wrBit {F : Fld} {i b : Nat} {v : Bool} (h : Kept W s) (a : W.fld F) : Kept W (s.wrBit F i b v) := by
  rcases wrBit_cases s F i b v with e | ⟨x, e⟩ <;> rw [e]
  · exact h
  · exact kept_wr h a

theorem kept_quiet (h : Kept W s) (a : W.part .emit) : Kept W s.quiet :=
  h.of_eq rfl rfl rfl rfl rfl rfl rfl rfl (fun q k => by
    cases q with
    | emit => exact absurd a k
    | _ => simp [Region.same])

theorem kept_drive {e : Emission} (h : Kept W s) (a : W.part .emit) : Kept W (s.drive e) :=
  h.of_eq rfl rfl rfl rfl rfl rfl rfl rfl (fun q k => by
    cases q with
    | emit => exact absurd a k
    | _ => simp [Region.same])

theorem kept_takeFree {w : Nat} (h : Kept W s) (a : W.part .free) : Kept2 W (s.takeFree w) :=
  ⟨h.of_eq rfl rfl rfl rfl rfl rfl rfl rfl (fun q k => by
    cases q with
    | free => exact absurd a k
    | _ => simp [Region.same])⟩

theorem kept_doorbell {b : Nat} (h : Kept W s) (l : Logs W) : Kept W (s.doorbell b) := by
  unfold State.doorbell
  split
  · exact kept_wrBit h (l.fld _ (by simp [logFields]))
  · exact kept_wrBit h (l.fld _ (by simp [logFields]))

theorem kept_trigger {n : Nat} (h : Kept W s) (a : W.part .tasks) : Kept W (s.trigger n) :=
  kept_tasks (f := fun t => Table.upd {} t n (fun t => { t with due := t.due + 1 })) h a

/-- A record is entered only where staging has room. -/
theorem kept_enterRec {r : LogRec} {sev : Nat} (h : Kept W s) (l : Logs W) (k : s.stagingRoom sev = true) :
    Kept W (s.enterRec r) := by
  have hr : s.fw.staging.length < 256 := by
    unfold State.stagingRoom at k
    have := of_decide_eq_true k
    split at this <;> omega
  unfold State.enterRec
  extract_lets n st u v
  have hu : Kept W u := kept_staging (n := Fw.dropPend) h (fun _ => by
    simp only [st, List.length_append, List.length_singleton]; omega) l.log
  have hv : Kept W v := kept_wr hu (l.fld _ (by simp [logFields]))
  split
  · exact kept_trigger hv l.tasks
  · exact hv

theorem kept_dropPend {n : Fw → Nat} (h : Kept W s) (b : W.part .log) :
    Kept W (s.setFw (fun f => { f with dropPend := n f })) :=
  kept_staging (st := s.fw.staging) (n := n) h (fun i => i.staging) b

theorem kept_enterDropped (h : Kept W s) (l : Logs W) : Kept W s.enterDropped := by
  unfold State.enterDropped
  split
  · exact h
  · next hc =>
    simp only [Bool.or_eq_true, Bool.not_eq_true', not_or, Bool.not_eq_false] at hc
    exact kept_enterRec (sev := 3) (kept_dropPend (n := fun _ => 0) h l.log) l hc.2

theorem kept_countDrop (h : Kept W s) (l : Logs W) : Kept W s.countDrop :=
  kept_dropPend (n := fun f => f.dropPend + 1) (kept_inc h (l.fld _ (by simp [logFields]))) l.log

theorem kept_tryRec {r : LogRec} (h : Kept W s) (l : Logs W) : Kept W (s.tryRec r) := by
  unfold State.tryRec
  split
  · exact kept_countDrop h l
  · extract_lets u
    have hu : Kept W u := kept_enterDropped h l
    split
    · next hc => exact kept_enterRec hu l hc
    · exact kept_countDrop hu l

theorem kept_dropRec (h : Kept W s) (l : Logs W) : Kept W s.dropRec := by
  unfold State.dropRec
  extract_lets u w
  have hw : Kept W w := kept_wr (kept_countDrop h l) (l.fld _ (by simp [logFields]))
  split
  · exact kept_tryRec (kept_doorbell hw l) l
  · exact hw

theorem kept_logRec {r : LogRec} (h : Kept W s) (l : Logs W) : Kept W (s.logRec r) := by
  unfold State.logRec
  split
  · exact kept_dropRec h l
  · extract_lets u
    have hu : Kept W u := kept_enterDropped h l
    split
    · next hc => exact kept_enterRec hu l hc
    · exact kept_dropRec hu l

theorem kept_fwRec {r : LogRec} (h : Kept W s) (l : Logs W) : Kept W (s.fwRec r) := kept_logRec h l

theorem kept_raise {e : Evt} {a b : Nat} (h : Kept W s) (l : Logs W) (f : W.fld e.st) : Kept W (s.raise e a b) := by
  unfold State.raise
  extract_lets u
  have hu : Kept W u := kept_wr h f
  split
  · exact kept_logRec (kept_doorbell hu l) l
  · exact hu

theorem kept_raiseLog {e : Evt} {a b : Nat} (h : Kept W s) (l : Logs W) (f : W.fld e.st) :
    Kept W (s.raiseLog e a b) := by
  unfold State.raiseLog
  extract_lets u v
  have hu : Kept W u := kept_wr h f
  have hv : Kept W v := by
    simp only [v]
    split
    · exact kept_doorbell hu l
    · exact hu
  exact kept_fwRec hv l

theorem kept_logOnly {e : Evt} {a b : Nat} (h : Kept W s) (l : Logs W) : Kept W (s.logOnly e a b) := kept_fwRec h l

theorem kept_errRecord {c : Nat} {b : Bool} (h : Kept W s) (l : Logs W) : Kept W (s.errRecord c b) := kept_logRec h l

theorem kept_traceEvent {b : Nat} (h : Kept W s) (a : W.part .eng) : Kept W (s.traceEvent b) := kept_setEng h a

theorem scheduleStatus_ok {target : Nat} (h : s.scheduleStatus target = stOK) : s.evqFill < 64 := by
  unfold State.scheduleStatus at h
  split at h
  · cases h
  · split at h
    · cases h
    · split at h
      · cases h
      · omega

/-- An event is queued only where the queue has room. -/
theorem kept_schedule {target : Nat} {a : EvAct} (h : Kept W s) (b : W.part .cad) (c : W.part .tasks) :
    Kept2 W (s.schedule target a) := by
  constructor
  unfold State.schedule
  extract_lets st
  show Kept W (if st = stOK then s.enqueueEvent target a else s)
  split
  · next hs =>
    have hq : s.evqFill < 64 := scheduleStatus_ok hs
    unfold State.enqueueEvent
    refine kept_cadence h (fun _ => ?_) b c
    unfold State.evqFill at hq ⊢
    simp only [setCad_cad, List.filter_append, List.length_append]
    have : ∀ e : QEvent, (([e] : List QEvent).filter (fun e => e.act != .share)).length ≤ 1 := fun e => by
      have := List.length_filter_le (fun e : QEvent => e.act != .share) [e]
      simpa using this
    exact le_trans (Nat.add_le_add_left (this _) _) hq
  · exact h

theorem removeEvent_sublist (e : QEvent) (l : List QEvent) : (removeEvent e l).Sublist l := by
  induction l with
  | nil => exact List.Sublist.refl _
  | cons f t ih =>
    simp only [removeEvent]
    split
    · exact List.sublist_cons_self ..
    · exact ih.cons_cons _

/-- The queue made shorter. -/
theorem kept_unqueue {f : Cad → Cad} (h : Kept W s) (k : (f s.cad).queue.Sublist s.cad.queue) (a : W.part .cad)
    (b : W.part .tasks) : Kept W (s.setCad f) :=
  kept_cadence h (fun i => le_trans (k.filter _).length_le i.events) a b

theorem kept_takeEvent {q : EvAct → Bool} (h : Kept W s) (a : W.part .cad) (b : W.part .tasks) (l : Logs W)
    (c : W.fld CAD_DEFER_CNT.LATE) (d : W.fld (Evt.st .CAD_LATE)) : KeptSome W (s.takeEvent q) := by
  unfold State.takeEvent
  split
  · exact keptSome_none
  · split
    · refine keptSome_mk ?_
      have h1 : ∀ e, Kept W (s.setCad (fun c => { c with queue := removeEvent e c.queue })) :=
        fun e => kept_unqueue h (removeEvent_sublist e _) a b
      split
      · exact kept_raise (kept_inc (h1 _) c) l d
      · exact h1 _
    · exact keptSome_none

end Sys2Proof.Machine
end

