-- ==== Sys2Proof/Laws/KeptDomains.lean ====
section
/-! SUPPORT. What the operations of `Domains.lean` keep (see `Kept.lean`). -/

set_option linter.unusedVariables false
set_option linter.unusedTactic false
set_option linter.unreachableTactic false
set_option linter.tactic.unusedName false

namespace Sys2Proof.Machine

variable {W : Bounds} {s : State}

theorem kept_setDom {a2 : Nat} {a3 : Dom → Dom} (h : Kept W s) (_ : W.part .rim) : Kept W (State.setDom s a2 a3) := by
  unfold State.setDom
  repeat' first
    | with_reducible assumption
    | (extract_lets +onlyGivenNames x
       first
       | (refine kept_cut (P := Kept W x) ?_ ?_; (on_goal 1 => subst x); (on_goal 2 => (intro _; try clear_value x)))
       | (try clear_value x))
    | (with_reducible first | apply kept_setRim | (intro _; rfl) | apply kept_ite)
    | split | (clear_value *; split) | dsimp only

theorem kept_failRequest {a2 : Nat} {a3 : Nat} {a4 : optParam Bool true} (h : Kept W s) (_ : W.part .cmd) :
    Kept W (State.failRequest s a2 a3 a4) := by
  unfold State.failRequest
  repeat' first
    | with_reducible assumption
    | (extract_lets +onlyGivenNames x
       first
       | (refine kept_cut (P := Kept W x) ?_ ?_; (on_goal 1 => subst x); (on_goal 2 => (intro _; try clear_value x)))
       | (try clear_value x))
    | (with_reducible first | apply kept_setCmd | (intro _; rfl) | apply kept_ite)
    | split | (clear_value *; split) | dsimp only

theorem kept_reach {a2 : Nat} {a3 : Bool} (h : Kept W s) (_ : W.part .cmd) : Kept W (State.reach s a2 a3) := by
  unfold State.reach
  repeat' first
    | with_reducible assumption
    | (extract_lets +onlyGivenNames x
       first
       | (refine kept_cut (P := Kept W x) ?_ ?_; (on_goal 1 => subst x); (on_goal 2 => (intro _; try clear_value x)))
       | (try clear_value x))
    | (with_reducible first | apply kept_setCmd | (intro _; rfl) | apply kept_ite)
    | split | (clear_value *; split) | dsimp only

theorem kept_endRequest {a2 : Nat} (h : Kept W s) (_ : W.part .rim) : Kept W (State.endRequest s a2) := by
  unfold State.endRequest
  repeat' first
    | with_reducible assumption
    | (extract_lets +onlyGivenNames x
       first
       | (refine kept_cut (P := Kept W x) ?_ ?_; (on_goal 1 => subst x); (on_goal 2 => (intro _; try clear_value x)))
       | (try clear_value x))
    | (with_reducible first | apply kept_setDom | (intro _; rfl) | apply kept_ite)
    | split | (clear_value *; split) | dsimp only

theorem kept_requestOn {a2 : Nat} {a3 : optParam Bool false} (h : Kept W s) (_ : W.part .cmd) (_ : W.part .rim)
    (_ : W.fld SWD_STAT.PEND) : Kept W (State.requestOn s a2 a3) := by
  unfold State.requestOn
  repeat' first
    | with_reducible assumption
    | (extract_lets +onlyGivenNames x
       first
       | (refine kept_cut (P := Kept W x) ?_ ?_; (on_goal 1 => subst x); (on_goal 2 => (intro _; try clear_value x)))
       | (try clear_value x))
    | (with_reducible first | apply kept_setDom | apply kept_wr | apply kept_failRequest | (intro _; rfl))
    | (with_reducible first | apply kept_ite)
    | split | (clear_value *; split) | dsimp only

theorem kept_requestOff {a2 : Nat} (h : Kept W s) (_ : W.part .cmd) (_ : W.part .rim) (_ : W.fld SWD_STAT.PEND)
    (_ : W.fld SWD_STAT.WAIT_SLOT) : Kept W (State.requestOff s a2) := by
  unfold State.requestOff
  repeat' first
    | with_reducible assumption
    | (extract_lets +onlyGivenNames x
       first
       | (refine kept_cut (P := Kept W x) ?_ ?_; (on_goal 1 => subst x); (on_goal 2 => (intro _; try clear_value x)))
       | (try clear_value x))
    | (with_reducible first | apply kept_setDom | apply kept_wr | apply kept_failRequest | apply kept_endRequest)
    | (with_reducible first | (intro _; rfl) | apply kept_ite)
    | split | (clear_value *; split) | dsimp only

theorem kept_takeToken {a2 : Nat} (h : Kept W s) (_ : W.part .rim) : Kept W (State.takeToken s a2) := by
  unfold State.takeToken
  repeat' first
    | with_reducible assumption
    | (extract_lets +onlyGivenNames x
       first
       | (refine kept_cut (P := Kept W x) ?_ ?_; (on_goal 1 => subst x); (on_goal 2 => (intro _; try clear_value x)))
       | (try clear_value x))
    | (with_reducible first | apply kept_setDom | (intro _; rfl) | apply kept_ite)
    | split | (clear_value *; split) | dsimp only

theorem kept_takeSlot {a2 : Nat} (h : Kept W s) (_ : W.part .rim) (_ : W.fld RG_STAT.RAMPS)
    (_ : W.fld SWD_STAT.WAIT_SLOT) : Kept W (State.takeSlot s a2) := by
  unfold State.takeSlot
  repeat' first
    | with_reducible assumption
    | (extract_lets +onlyGivenNames x
       first
       | (refine kept_cut (P := Kept W x) ?_ ?_; (on_goal 1 => subst x); (on_goal 2 => (intro _; try clear_value x)))
       | (try clear_value x))
    | (with_reducible first | apply kept_setDom | apply kept_wr | apply kept_inc | (intro _; rfl) | apply kept_ite)
    | split | (clear_value *; split) | dsimp only

theorem kept_freeSlot {a2 : Nat} (h : Kept W s) (_ : W.part .rim) (_ : W.fld RG_STAT.RAMPS) :
    Kept W (State.freeSlot s a2) := by
  unfold State.freeSlot
  repeat' first
    | with_reducible assumption
    | (extract_lets +onlyGivenNames x
       first
       | (refine kept_cut (P := Kept W x) ?_ ?_; (on_goal 1 => subst x); (on_goal 2 => (intro _; try clear_value x)))
       | (try clear_value x))
    | (with_reducible first | apply kept_setDom | apply kept_wr | (intro _; rfl) | apply kept_ite)
    | split | (clear_value *; split) | dsimp only

theorem kept_waitSlot {a2 : Nat} (h : Kept W s) (_ : Logs W) (_ : W.fld (Evt.st .RIM_SLOT_WAIT))
    (_ : W.fld SWD_STAT.WAIT_SLOT) : Kept W (State.waitSlot s a2) := by
  unfold State.waitSlot
  repeat' first
    | with_reducible assumption
    | (extract_lets +onlyGivenNames x
       first
       | (refine kept_cut (P := Kept W x) ?_ ?_; (on_goal 1 => subst x); (on_goal 2 => (intro _; try clear_value x)))
       | (try clear_value x))
    | (with_reducible first | apply kept_raise | apply kept_wr | (intro _; rfl) | apply kept_ite)
    | split | (clear_value *; split) | dsimp only

theorem kept_enter {a2 : Nat} {a3 : Nat} (h : Kept W s) (_ : W.part .rim) (_ : W.fld SWD_STAT.STATE) :
    Kept W (State.enter s a2 a3) := by
  unfold State.enter
  repeat' first
    | with_reducible assumption
    | (extract_lets +onlyGivenNames x
       first
       | (refine kept_cut (P := Kept W x) ?_ ?_; (on_goal 1 => subst x); (on_goal 2 => (intro _; try clear_value x)))
       | (try clear_value x))
    | (with_reducible first | apply kept_setDom | apply kept_wr | (intro _; rfl) | apply kept_ite)
    | split | (clear_value *; split) | dsimp only

theorem kept_dropWake {a2 : Nat} (h : Kept W s) (_ : W.fld REST_MASK.WAKE) : Kept W (State.dropWake s a2) := by
  unfold State.dropWake
  repeat' first
    | with_reducible assumption
    | (extract_lets +onlyGivenNames x
       first
       | (refine kept_cut (P := Kept W x) ?_ ?_; (on_goal 1 => subst x); (on_goal 2 => (intro _; try clear_value x)))
       | (try clear_value x))
    | (with_reducible first | apply kept_wrBit | (intro _; rfl) | apply kept_ite)
    | split | (clear_value *; split) | dsimp only

theorem kept_disarm {a2 : Nat} (h : Kept W s) (_ : W.part .spk) (_ : W.fld SNT_STAT.ARMED) :
    Kept W (State.disarm s a2) := by
  unfold State.disarm
  repeat' first
    | with_reducible assumption
    | (extract_lets +onlyGivenNames x
       first
       | (refine kept_cut (P := Kept W x) ?_ ?_; (on_goal 1 => subst x); (on_goal 2 => (intro _; try clear_value x)))
       | (try clear_value x))
    | (with_reducible first | apply kept_setSpk | apply kept_wr | (intro _; rfl) | apply kept_ite)
    | split | (clear_value *; split) | dsimp only

theorem kept_forceOff {a2 : Nat} (h : Kept W s) (_ : W.part .cmd) (_ : W.part .rim) (_ : Logs W)
    (_ : W.fld (Evt.st .RIM_FORCED_OFF)) (_ : W.fld REST_MASK.WAKE) (_ : W.fld RG_STAT.RAMPS)
    (_ : W.fld SWD_STAT.FORCED) (_ : W.fld SWD_STAT.PEND) (_ : W.fld SWD_STAT.WAIT_SLOT) :
    Kept W (State.forceOff s a2) := by
  unfold State.forceOff
  repeat' first
    | with_reducible assumption
    | (extract_lets +onlyGivenNames x
       first
       | (refine kept_cut (P := Kept W x) ?_ ?_; (on_goal 1 => subst x); (on_goal 2 => (intro _; try clear_value x)))
       | (try clear_value x))
    | (with_reducible first | apply kept_dropWake | apply kept_failRequest | apply kept_wr | apply kept_endRequest)
    | (with_reducible first | apply kept_raise | apply kept_freeSlot | apply kept_setDom | apply kept_setRim)
    | (with_reducible first | (intro _; rfl) | apply kept_ite)
    | (intro _ _ _ _; try beta_reduce) | (intro _ _ _; try beta_reduce) | (intro _ _; try beta_reduce)
    | split | (clear_value *; split) | dsimp only

theorem kept_forceOffAll {a2 : List Nat} (h : Kept W s) (_ : W.part .cmd) (_ : W.part .rim) (_ : Logs W)
    (_ : W.fld (Evt.st .RIM_FORCED_OFF)) (_ : W.fld REST_MASK.WAKE) (_ : W.fld RG_STAT.RAMPS)
    (_ : W.fld SWD_STAT.FORCED) (_ : W.fld SWD_STAT.PEND) (_ : W.fld SWD_STAT.WAIT_SLOT) :
    Kept W (State.forceOffAll s a2) := by
  unfold State.forceOffAll
  repeat' first
    | with_reducible assumption
    | (extract_lets +onlyGivenNames x
       first
       | (refine kept_cut (P := Kept W x) ?_ ?_; (on_goal 1 => subst x); (on_goal 2 => (intro _; try clear_value x)))
       | (try clear_value x))
    | (with_reducible first | apply kept_forceOff | apply kept_foldl | (intro _; rfl) | apply kept_ite)
    | (intro _ _ _ _; try beta_reduce) | (intro _ _ _; try beta_reduce) | (intro _ _; try beta_reduce)
    | split | (clear_value *; split) | dsimp only

theorem kept_cancelOn {a2 : Nat} (h : Kept W s) (_ : W.part .cmd) (_ : W.part .rim) (_ : Logs W)
    (_ : W.fld (Evt.st .RIM_CANCELLED)) (_ : W.fld SWD_STAT.PEND) (_ : W.fld SWD_STAT.WAIT_SLOT) :
    Kept W (State.cancelOn s a2) := by
  unfold State.cancelOn
  repeat' first
    | with_reducible assumption
    | (extract_lets +onlyGivenNames x
       first
       | (refine kept_cut (P := Kept W x) ?_ ?_; (on_goal 1 => subst x); (on_goal 2 => (intro _; try clear_value x)))
       | (try clear_value x))
    | (with_reducible first | apply kept_failRequest | apply kept_wr | apply kept_raiseLog | apply kept_endRequest)
    | (with_reducible first | (intro _; rfl) | apply kept_ite)
    | split | (clear_value *; split) | dsimp only

theorem kept_cancelInhibited (h : Kept W s) (_ : W.part .cmd) (_ : W.part .rim) (_ : Logs W)
    (_ : W.fld (Evt.st .RIM_CANCELLED)) (_ : W.fld SWD_STAT.PEND) (_ : W.fld SWD_STAT.WAIT_SLOT) :
    Kept W (State.cancelInhibited s) := by
  unfold State.cancelInhibited
  repeat' first
    | with_reducible assumption
    | (extract_lets +onlyGivenNames x
       first
       | (refine kept_cut (P := Kept W x) ?_ ?_; (on_goal 1 => subst x); (on_goal 2 => (intro _; try clear_value x)))
       | (try clear_value x))
    | (with_reducible first | apply kept_cancelOn | apply kept_foldl | (intro _; rfl) | apply kept_ite)
    | (intro _ _ _ _; try beta_reduce) | (intro _ _ _; try beta_reduce) | (intro _ _; try beta_reduce)
    | split | (clear_value *; split) | dsimp only

end Sys2Proof.Machine
end

