-- ==== Sys2Proof/Laws/KeptRimLevel.lean ====
section
/-! SUPPORT. What the operations of `RimLevel.lean` keep (see `Kept.lean`). -/

set_option linter.unusedVariables false
set_option linter.unusedTactic false
set_option linter.unreachableTactic false
set_option linter.tactic.unusedName false

namespace Sys2Proof.Machine

variable {W : Bounds} {s : State}

theorem kept_setGrp {a2 : Nat} {a3 : Grp → Grp} (h : Kept W s) (_ : W.part .rim) : Kept W (State.setGrp s a2 a3) := by
  unfold State.setGrp
  repeat' first
    | with_reducible assumption
    | (extract_lets +onlyGivenNames x
       first
       | (refine kept_cut (P := Kept W x) ?_ ?_; (on_goal 1 => subst x); (on_goal 2 => (intro _; try clear_value x)))
       | (try clear_value x))
    | (with_reducible first | apply kept_setRim | (intro _; rfl) | apply kept_ite)
    | split | (clear_value *; split) | dsimp only

theorem kept_overFlag {a2 : Fld} {a3 : Fld} {a4 : Nat} {a5 : Bool} (h : Kept W s) (_ : Logs W) (_ : W.fld a2)
    (_ : W.fld a3) (_ : W.fld (Evt.st .RIM_ILIMIT)) : Kept W (State.overFlag s a2 a3 a4 a5) := by
  unfold State.overFlag
  repeat' first
    | with_reducible assumption
    | (extract_lets +onlyGivenNames x
       first
       | (refine kept_cut (P := Kept W x) ?_ ?_; (on_goal 1 => subst x); (on_goal 2 => (intro _; try clear_value x)))
       | (try clear_value x))
    | (with_reducible first | apply kept_raise | apply kept_inc | apply kept_wrB | (intro _; rfl) | apply kept_ite)
    | split | (clear_value *; split) | dsimp only

theorem kept_groupSubtick {a2 : Bool} {a3 : Bool} {a4 : Nat} {a5 : Nat} (h : Kept W s) (_ : W.part .rim) (_ : Logs W)
    (_ : W.fld (Evt.st .RIM_AT_FLOOR)) (_ : W.fld (Evt.st .RIM_ILIMIT)) (_ : W.fld RG_I_L.I_L) (_ : W.fld RG_I_SM.I_M)
    (_ : W.fld RG_I_SM.I_S) (_ : W.fld RG_LIMITED.TICKS) (_ : W.fld RG_OVER_CNT.LONG) (_ : W.fld RG_OVER_CNT.MID)
    (_ : W.fld RG_OVER_CNT.SHORT) (_ : W.fld RG_STAT.AT_FLOOR) (_ : W.fld RG_STAT.CEIL) (_ : W.fld RG_STAT.IMON_CODE)
    (_ : W.fld RG_STAT.OVER_L) (_ : W.fld RG_STAT.OVER_M) (_ : W.fld RG_STAT.OVER_S) (_ : W.fld RIM_STAT.OVER) :
    Kept W (State.groupSubtick s a2 a3 a4 a5) := by
  unfold State.groupSubtick
  repeat' first
    | with_reducible assumption
    | (extract_lets +onlyGivenNames x
       first
       | (refine kept_cut (P := Kept W x) ?_ ?_; (on_goal 1 => subst x); (on_goal 2 => (intro _; try clear_value x)))
       | (try clear_value x))
    | (with_reducible first | apply kept_wr | apply kept_setGrp | apply kept_overFlag | apply kept_wrBit)
    | (with_reducible first | apply kept_raise | apply kept_inc | (intro _; rfl) | apply kept_ite)
    | split | (clear_value *; split) | dsimp only

theorem kept_setStk {a2 : Nat} {a3 : Stk → Stk} (h : Kept W s) (_ : W.part .rim) : Kept W (State.setStk s a2 a3) := by
  unfold State.setStk
  repeat' first
    | with_reducible assumption
    | (extract_lets +onlyGivenNames x
       first
       | (refine kept_cut (P := Kept W x) ?_ ?_; (on_goal 1 => subst x); (on_goal 2 => (intro _; try clear_value x)))
       | (try clear_value x))
    | (with_reducible first | apply kept_setRim | (intro _; rfl) | apply kept_ite)
    | split | (clear_value *; split) | dsimp only

theorem kept_dropSelfRefresh {a2 : Nat} (h : Kept W s) (_ : W.part .emit) (_ : W.part .rim) :
    Kept W (State.dropSelfRefresh s a2) := by
  unfold State.dropSelfRefresh
  repeat' first
    | with_reducible assumption
    | (extract_lets +onlyGivenNames x
       first
       | (refine kept_cut (P := Kept W x) ?_ ?_; (on_goal 1 => subst x); (on_goal 2 => (intro _; try clear_value x)))
       | (try clear_value x))
    | (with_reducible first | apply kept_drive | apply kept_setStk | (intro _; rfl) | apply kept_ite)
    | split | (clear_value *; split) | dsimp only

theorem kept_enterDown {a2 : Nat} (h : Kept W s) (_ : W.part .emit) (_ : W.part .rim) (_ : W.part .spk)
    (_ : W.fld SNT_STAT.ARMED) (_ : W.fld SWD_STAT.STATE) : Kept W (State.enterDown s a2) := by
  unfold State.enterDown
  repeat' first
    | with_reducible assumption
    | (extract_lets +onlyGivenNames x
       first
       | (refine kept_cut (P := Kept W x) ?_ ?_; (on_goal 1 => subst x); (on_goal 2 => (intro _; try clear_value x)))
       | (try clear_value x))
    | (with_reducible first | apply kept_disarm | apply kept_setDom | apply kept_enter | apply kept_dropSelfRefresh)
    | (with_reducible first | (intro _; rfl) | apply kept_ite)
    | (intro _ _ _ _; try beta_reduce) | (intro _ _ _; try beta_reduce) | (intro _ _; try beta_reduce)
    | split | (clear_value *; split) | dsimp only

theorem kept_forcedDown (h : Kept W s) (_ : W.part .emit) (_ : W.part .rim) (_ : W.part .spk)
    (_ : W.fld SNT_STAT.ARMED) (_ : W.fld SWD_STAT.STATE) : Kept W (State.forcedDown s) := by
  unfold State.forcedDown
  repeat' first
    | with_reducible assumption
    | (extract_lets +onlyGivenNames x
       first
       | (refine kept_cut (P := Kept W x) ?_ ?_; (on_goal 1 => subst x); (on_goal 2 => (intro _; try clear_value x)))
       | (try clear_value x))
    | (with_reducible first | apply kept_setRim | apply kept_enterDown | apply kept_foldl | (intro _; rfl))
    | (with_reducible first | apply kept_ite)
    | (intro _ _ _ _; try beta_reduce) | (intro _ _ _; try beta_reduce) | (intro _ _; try beta_reduce)
    | split | (clear_value *; split) | dsimp only

theorem kept_coolSample {a2 : Bool} (h : Kept W s) (_ : W.part .rim) (_ : W.fld FLOW_GOOD_TICKS.TICKS)
    (_ : W.fld RIM_STAT.COOL_FAULT) (_ : W.fld RIM_STAT.FLOW_GOOD_1S) : Kept W (State.coolSample s a2) := by
  unfold State.coolSample
  repeat' first
    | with_reducible assumption
    | (extract_lets +onlyGivenNames x
       first
       | (refine kept_cut (P := Kept W x) ?_ ?_; (on_goal 1 => subst x); (on_goal 2 => (intro _; try clear_value x)))
       | (try clear_value x))
    | (with_reducible first | apply kept_setRim | apply kept_wrB | apply kept_wr | (intro _; rfl) | apply kept_ite)
    | split | (clear_value *; split) | dsimp only

theorem kept_runSubtick {a2 : List Nat} {a3 : Bool} {a4 : List Nat} (h : Kept W s) (_ : W.part .emit)
    (_ : W.part .rim) (_ : W.part .spk) (_ : Logs W) (_ : W.fld (Evt.st .RIM_AT_FLOOR))
    (_ : W.fld (Evt.st .RIM_ILIMIT)) (_ : W.fld FLOW_GOOD_TICKS.TICKS) (_ : W.fld RG_I_L.I_L) (_ : W.fld RG_I_SM.I_M)
    (_ : W.fld RG_I_SM.I_S) (_ : W.fld RG_LIMITED.TICKS) (_ : W.fld RG_OVER_CNT.LONG) (_ : W.fld RG_OVER_CNT.MID)
    (_ : W.fld RG_OVER_CNT.SHORT) (_ : W.fld RG_STAT.AT_FLOOR) (_ : W.fld RG_STAT.CEIL) (_ : W.fld RG_STAT.IMON_CODE)
    (_ : W.fld RG_STAT.OVER_L) (_ : W.fld RG_STAT.OVER_M) (_ : W.fld RG_STAT.OVER_S) (_ : W.fld RIM_STAT.COOL_FAULT)
    (_ : W.fld RIM_STAT.FLOW_GOOD_1S) (_ : W.fld RIM_STAT.OVER) (_ : W.fld SNT_STAT.ARMED) (_ : W.fld SWD_STAT.STATE)
    : Kept W (State.runSubtick s a2 a3 a4) := by
  unfold State.runSubtick
  repeat' first
    | with_reducible assumption
    | (extract_lets +onlyGivenNames x
       first
       | (refine kept_cut (P := Kept W x) ?_ ?_; (on_goal 1 => subst x); (on_goal 2 => (intro _; try clear_value x)))
       | (try clear_value x))
    | (with_reducible first | apply kept_setSpk | apply kept_forcedDown | apply kept_groupSubtick)
    | (with_reducible first | apply kept_coolSample | apply kept_setRim | apply kept_upTo | (intro _; rfl))
    | (with_reducible first | apply kept_ite)
    | (intro _ _ _ _; try beta_reduce) | (intro _ _ _; try beta_reduce) | (intro _ _; try beta_reduce)
    | split | (clear_value *; split) | dsimp only

theorem kept_flushSubticks {a2 : List Nat} (h : Kept W s) (_ : W.part .emit) (_ : W.part .rim) (_ : W.part .spk)
    (_ : Logs W) (_ : W.fld (Evt.st .RIM_AT_FLOOR)) (_ : W.fld (Evt.st .RIM_ILIMIT)) (_ : W.fld FLOW_GOOD_TICKS.TICKS)
    (_ : W.fld RG_I_L.I_L) (_ : W.fld RG_I_SM.I_M) (_ : W.fld RG_I_SM.I_S) (_ : W.fld RG_LIMITED.TICKS)
    (_ : W.fld RG_OVER_CNT.LONG) (_ : W.fld RG_OVER_CNT.MID) (_ : W.fld RG_OVER_CNT.SHORT)
    (_ : W.fld RG_STAT.AT_FLOOR) (_ : W.fld RG_STAT.CEIL) (_ : W.fld RG_STAT.IMON_CODE) (_ : W.fld RG_STAT.OVER_L)
    (_ : W.fld RG_STAT.OVER_M) (_ : W.fld RG_STAT.OVER_S) (_ : W.fld RIM_STAT.COOL_FAULT)
    (_ : W.fld RIM_STAT.FLOW_GOOD_1S) (_ : W.fld RIM_STAT.OVER) (_ : W.fld SNT_STAT.ARMED) (_ : W.fld SWD_STAT.STATE)
    : Kept W (State.flushSubticks s a2) := by
  unfold State.flushSubticks
  repeat' first
    | with_reducible assumption
    | (extract_lets +onlyGivenNames x
       first
       | (refine kept_cut (P := Kept W x) ?_ ?_; (on_goal 1 => subst x); (on_goal 2 => (intro _; try clear_value x)))
       | (try clear_value x))
    | (with_reducible first | apply kept_runSubtick | apply kept_upTo | (intro _; rfl) | apply kept_ite)
    | (intro _ _ _ _; try beta_reduce) | (intro _ _ _; try beta_reduce) | (intro _ _; try beta_reduce)
    | split | (clear_value *; split) | dsimp only

theorem kept_execSubtick {a1 : SubtickIn} {a2 : Bool} (h : Kept W s) (_ : W.part .emit)
    (_ : W.part .rim) (_ : W.part .spk) (_ : Logs W) (_ : W.fld (Evt.st .RIM_AT_FLOOR))
    (_ : W.fld (Evt.st .RIM_ILIMIT)) (_ : W.fld FLOW_GOOD_TICKS.TICKS) (_ : W.fld RG_I_L.I_L) (_ : W.fld RG_I_SM.I_M)
    (_ : W.fld RG_I_SM.I_S) (_ : W.fld RG_LIMITED.TICKS) (_ : W.fld RG_OVER_CNT.LONG) (_ : W.fld RG_OVER_CNT.MID)
    (_ : W.fld RG_OVER_CNT.SHORT) (_ : W.fld RG_STAT.AT_FLOOR) (_ : W.fld RG_STAT.CEIL) (_ : W.fld RG_STAT.IMON_CODE)
    (_ : W.fld RG_STAT.OVER_L) (_ : W.fld RG_STAT.OVER_M) (_ : W.fld RG_STAT.OVER_S) (_ : W.fld RIM_STAT.COOL_FAULT)
    (_ : W.fld RIM_STAT.FLOW_GOOD_1S) (_ : W.fld RIM_STAT.OVER) (_ : W.fld SNT_STAT.ARMED) (_ : W.fld SWD_STAT.STATE)
    : KeptO W (execSubtick a1 a2 s) := by
  unfold execSubtick
  repeat' first
    | with_reducible assumption
    | (extract_lets +onlyGivenNames x
       first
       | (refine kept_cut (P := Kept W x) ?_ ?_; (on_goal 1 => subst x); (on_goal 2 => (intro _; try clear_value x)))
       | (try clear_value x))
    | (with_reducible first | apply kept_quiet | apply kept_runSubtick | apply keptO_next | (intro _; rfl))
    | (with_reducible first | apply kept_ite)
    | split | (clear_value *; split) | dsimp only

theorem kept_execCeilRise {a1 : Nat} (h : Kept W s) (_ : W.part .emit) (_ : W.part .rim) (_ : W.fld RG_STAT.CEIL) :
    KeptO W (execCeilRise a1 s) := by
  unfold execCeilRise
  repeat' first
    | with_reducible assumption
    | (extract_lets +onlyGivenNames x
       first
       | (refine kept_cut (P := Kept W x) ?_ ?_; (on_goal 1 => subst x); (on_goal 2 => (intro _; try clear_value x)))
       | (try clear_value x))
    | (with_reducible first | apply kept_quiet | apply kept_setGrp | apply kept_wr | apply keptO_next)
    | (with_reducible first | (intro _; rfl) | apply kept_ite)
    | split | (clear_value *; split) | dsimp only

theorem kept_execImonFault {a1 : Nat} (h : Kept W s) (_ : W.part .emit) (_ : W.part .rim) (_ : Logs W)
    (_ : W.fld (Evt.st .RIM_IMON_FAULT)) (_ : W.fld RG_STAT.IMON_FAULT) : KeptO W (execImonFault a1 s) := by
  unfold execImonFault
  repeat' first
    | with_reducible assumption
    | (extract_lets +onlyGivenNames x
       first
       | (refine kept_cut (P := Kept W x) ?_ ?_; (on_goal 1 => subst x); (on_goal 2 => (intro _; try clear_value x)))
       | (try clear_value x))
    | (with_reducible first | apply kept_quiet | apply kept_raise | apply kept_wr | apply kept_setGrp)
    | (with_reducible first | apply keptO_next | (intro _; rfl) | apply kept_ite)
    | split | (clear_value *; split) | dsimp only

theorem kept_execImonValid {a1 : Nat} (h : Kept W s) (_ : W.part .emit) (_ : W.part .rim)
    (_ : W.fld RG_STAT.IMON_FAULT) : KeptO W (execImonValid a1 s) := by
  unfold execImonValid
  repeat' first
    | with_reducible assumption
    | (extract_lets +onlyGivenNames x
       first
       | (refine kept_cut (P := Kept W x) ?_ ?_; (on_goal 1 => subst x); (on_goal 2 => (intro _; try clear_value x)))
       | (try clear_value x))
    | (with_reducible first | apply kept_quiet | apply kept_wr | apply kept_setGrp | apply keptO_next)
    | (with_reducible first | (intro _; rfl) | apply kept_ite)
    | split | (clear_value *; split) | dsimp only

theorem kept_execDomainRampEvent (h : Kept W s) (_ : W.part .cad) (_ : W.part .cmd) (_ : W.part .emit)
    (_ : W.part .rim) (_ : W.part .tasks) (_ : Logs W) (_ : W.fld (Evt.st .CAD_LATE)) (_ : W.fld CAD_DEFER_CNT.LATE)
    (_ : W.fld SWD_STAT.PEND) (_ : W.fld SWD_STAT.WAIT_SLOT) : KeptO W (execDomainRampEvent s) := by
  unfold execDomainRampEvent
  repeat' first
    | with_reducible assumption
    | (extract_lets +onlyGivenNames x
       first
       | (refine kept_cut (P := Kept W x) ?_ ?_; (on_goal 1 => subst x); (on_goal 2 => (intro _; try clear_value x)))
       | (try clear_value x))
    | (with_reducible first | apply kept_quiet | apply kept_takeEvent | apply kept_setCmd | apply kept_setDom)
    | (with_reducible first | apply kept_requestOn | apply kept_requestOff | apply kept_foldl | apply keptO_next)
    | (with_reducible first | refine kept_ofSome (by assumption) ?_ | (intro _; rfl) | apply kept_ite)
    | (intro _ _ _ _; try beta_reduce) | (intro _ _ _; try beta_reduce) | (intro _ _; try beta_reduce)
    | split | (clear_value *; split) | dsimp only

theorem kept_execRampUpStart {a1 : Nat} (h : Kept W s) (_ : W.part .emit) (_ : W.part .rim) (_ : Logs W)
    (_ : W.fld (Evt.st .RIM_SLOT_WAIT)) (_ : W.fld RG_STAT.RAMPS) (_ : W.fld SWD_STAT.MINOFF)
    (_ : W.fld SWD_STAT.PEND) (_ : W.fld SWD_STAT.STATE) (_ : W.fld SWD_STAT.WAIT_SLOT) :
    KeptO W (execRampUpStart a1 s) := by
  unfold execRampUpStart
  repeat' first
    | with_reducible assumption
    | (extract_lets +onlyGivenNames x
       first
       | (refine kept_cut (P := Kept W x) ?_ ?_; (on_goal 1 => subst x); (on_goal 2 => (intro _; try clear_value x)))
       | (try clear_value x))
    | (with_reducible first | apply kept_quiet | apply kept_takeToken | apply kept_enter | apply kept_wr)
    | (with_reducible first | apply kept_takeSlot | apply kept_waitSlot | apply keptO_next | (intro _; rfl))
    | (with_reducible first | apply kept_ite)
    | split | (clear_value *; split) | dsimp only

theorem kept_execRampUpEnd {a1 : Nat} (h : Kept W s) (_ : W.part .emit) (_ : W.part .rim) (_ : W.fld RG_STAT.RAMPS)
    (_ : W.fld SWD_STAT.STATE) : KeptO W (execRampUpEnd a1 s) := by
  unfold execRampUpEnd
  repeat' first
    | with_reducible assumption
    | (extract_lets +onlyGivenNames x
       first
       | (refine kept_cut (P := Kept W x) ?_ ?_; (on_goal 1 => subst x); (on_goal 2 => (intro _; try clear_value x)))
       | (try clear_value x))
    | (with_reducible first | apply kept_quiet | apply kept_enter | apply kept_freeSlot | apply keptO_next)
    | (with_reducible first | (intro _; rfl) | apply kept_ite)
    | split | (clear_value *; split) | dsimp only

theorem kept_execSettleEnd {a1 : Nat} {a2 : Bool} (h : Kept W s) (_ : W.part .cmd) (_ : W.part .emit)
    (_ : W.part .rim) (_ : Logs W) (_ : W.fld (Evt.st .RIM_FORCED_OFF)) (_ : W.fld (Evt.st .RIM_RAMP_FAULT))
    (_ : W.fld REST_MASK.WAKE) (_ : W.fld RG_STAT.RAMPS) (_ : W.fld SNT_STAT.ARMED) (_ : W.fld SWD_STAT.FORCED)
    (_ : W.fld SWD_STAT.ONS) (_ : W.fld SWD_STAT.PEND) (_ : W.fld SWD_STAT.STATE) (_ : W.fld SWD_STAT.WAIT_SLOT) :
    KeptO W (execSettleEnd a1 a2 s) := by
  unfold execSettleEnd
  repeat' first
    | with_reducible assumption
    | (extract_lets +onlyGivenNames x
       first
       | (refine kept_cut (P := Kept W x) ?_ ?_; (on_goal 1 => subst x); (on_goal 2 => (intro _; try clear_value x)))
       | (try clear_value x))
    | (with_reducible first | apply kept_quiet | apply kept_enter | apply kept_setDom | apply kept_wr)
    | (with_reducible first | apply kept_inc | apply kept_endRequest | apply kept_reach | apply kept_forceOff)
    | (with_reducible first | apply kept_raiseLog | apply keptO_next | (intro _; rfl) | apply kept_ite)
    | (intro _ _ _ _; try beta_reduce) | (intro _ _ _; try beta_reduce) | (intro _ _; try beta_reduce)
    | split | (clear_value *; split) | dsimp only

theorem kept_execDrainStart {a1 : Nat} (h : Kept W s) (_ : W.part .emit) (_ : W.part .rim) (_ : W.fld SWD_STAT.PEND)
    (_ : W.fld SWD_STAT.STATE) : KeptO W (execDrainStart a1 s) := by
  unfold execDrainStart
  repeat' first
    | with_reducible assumption
    | (extract_lets +onlyGivenNames x
       first
       | (refine kept_cut (P := Kept W x) ?_ ?_; (on_goal 1 => subst x); (on_goal 2 => (intro _; try clear_value x)))
       | (try clear_value x))
    | (with_reducible first | apply kept_quiet | apply kept_wr | apply kept_setDom | apply kept_enter)
    | (with_reducible first | apply kept_drive | apply keptO_next | (intro _; rfl) | apply kept_ite)
    | (intro _ _ _ _; try beta_reduce) | (intro _ _ _; try beta_reduce) | (intro _ _; try beta_reduce)
    | split | (clear_value *; split) | dsimp only

theorem kept_execDrainEnd {a1 : Nat} (h : Kept W s) (_ : W.part .emit) (_ : W.part .rim) :
    KeptO W (execDrainEnd a1 s) := by
  unfold execDrainEnd
  repeat' first
    | with_reducible assumption
    | (extract_lets +onlyGivenNames x
       first
       | (refine kept_cut (P := Kept W x) ?_ ?_; (on_goal 1 => subst x); (on_goal 2 => (intro _; try clear_value x)))
       | (try clear_value x))
    | (with_reducible first | apply kept_quiet | apply kept_setDom | apply keptO_next | (intro _; rfl))
    | (with_reducible first | apply kept_ite)
    | split | (clear_value *; split) | dsimp only

theorem kept_execRampDownStart {a1 : Nat} (h : Kept W s) (_ : W.part .emit) (_ : W.part .rim) (_ : W.part .spk)
    (_ : Logs W) (_ : W.fld (Evt.st .RIM_SLOT_WAIT)) (_ : W.fld RG_STAT.RAMPS) (_ : W.fld SNT_STAT.ARMED)
    (_ : W.fld SWD_STAT.STATE) (_ : W.fld SWD_STAT.WAIT_SLOT) : KeptO W (execRampDownStart a1 s) := by
  unfold execRampDownStart
  repeat' first
    | with_reducible assumption
    | (extract_lets +onlyGivenNames x
       first
       | (refine kept_cut (P := Kept W x) ?_ ?_; (on_goal 1 => subst x); (on_goal 2 => (intro _; try clear_value x)))
       | (try clear_value x))
    | (with_reducible first | apply kept_quiet | apply kept_enterDown | apply kept_disarm | apply kept_takeSlot)
    | (with_reducible first | apply kept_waitSlot | apply keptO_next | (intro _; rfl) | apply kept_ite)
    | split | (clear_value *; split) | dsimp only

theorem kept_rampDownEnd {a2 : Nat} (h : Kept W s) (_ : W.part .cmd) (_ : W.part .rim) (_ : W.fld RG_STAT.RAMPS)
    (_ : W.fld SWD_STAT.MINOFF) (_ : W.fld SWD_STAT.STATE) : Kept W (State.rampDownEnd s a2) := by
  unfold State.rampDownEnd
  repeat' first
    | with_reducible assumption
    | (extract_lets +onlyGivenNames x
       first
       | (refine kept_cut (P := Kept W x) ?_ ?_; (on_goal 1 => subst x); (on_goal 2 => (intro _; try clear_value x)))
       | (try clear_value x))
    | (with_reducible first | apply kept_freeSlot | apply kept_enter | apply kept_wr | apply kept_setDom)
    | (with_reducible first | apply kept_reach | (intro _; rfl) | apply kept_ite)
    | (intro _ _ _ _; try beta_reduce) | (intro _ _ _; try beta_reduce) | (intro _ _; try beta_reduce)
    | split | (clear_value *; split) | dsimp only

theorem kept_restDone {a2 : Bool} (h : Kept W s) (_ : W.part .cmd) : Kept W (State.restDone s a2) := by
  unfold State.restDone
  repeat' first
    | with_reducible assumption
    | (extract_lets +onlyGivenNames x
       first
       | (refine kept_cut (P := Kept W x) ?_ ?_; (on_goal 1 => subst x); (on_goal 2 => (intro _; try clear_value x)))
       | (try clear_value x))
    | (with_reducible first | apply kept_setCmd | (intro _; rfl) | apply kept_ite)
    | split | (clear_value *; split) | dsimp only

theorem kept_restFail {a2 : Bool} (h : Kept W s) (_ : W.part .cmd) : Kept W (State.restFail s a2) := by
  unfold State.restFail
  repeat' first
    | with_reducible assumption
    | (extract_lets +onlyGivenNames x
       first
       | (refine kept_cut (P := Kept W x) ?_ ?_; (on_goal 1 => subst x); (on_goal 2 => (intro _; try clear_value x)))
       | (try clear_value x))
    | (with_reducible first | apply kept_setCmd | (intro _; rfl) | apply kept_ite)
    | split | (clear_value *; split) | dsimp only

theorem kept_askSelfRefresh {a2 : Bool} {a3 : Nat} (h : Kept W s) (_ : W.part .emit) (_ : W.part .rim) :
    Kept W (State.askSelfRefresh s a2 a3) := by
  unfold State.askSelfRefresh
  repeat' first
    | with_reducible assumption
    | (extract_lets +onlyGivenNames x
       first
       | (refine kept_cut (P := Kept W x) ?_ ?_; (on_goal 1 => subst x); (on_goal 2 => (intro _; try clear_value x)))
       | (try clear_value x))
    | (with_reducible first | apply kept_drive | apply kept_setStk | apply kept_foldl | (intro _; rfl))
    | (with_reducible first | apply kept_ite)
    | (intro _ _ _ _; try beta_reduce) | (intro _ _ _; try beta_reduce) | (intro _ _; try beta_reduce)
    | split | (clear_value *; split) | dsimp only

theorem kept_endSelfRefresh (h : Kept W s) (_ : W.part .emit) (_ : W.part .rim) :
    Kept W (State.endSelfRefresh s) := by
  unfold State.endSelfRefresh
  repeat' first
    | with_reducible assumption
    | (extract_lets +onlyGivenNames x
       first
       | (refine kept_cut (P := Kept W x) ?_ ?_; (on_goal 1 => subst x); (on_goal 2 => (intro _; try clear_value x)))
       | (try clear_value x))
    | (with_reducible first | apply kept_dropSelfRefresh | apply kept_foldl | (intro _; rfl) | apply kept_ite)
    | (intro _ _ _ _; try beta_reduce) | (intro _ _ _; try beta_reduce) | (intro _ _; try beta_reduce)
    | split | (clear_value *; split) | dsimp only

theorem kept_execCoolStop (h : Kept W s) (_ : W.part .cmd) (_ : W.part .emit) (_ : W.part .eng) (_ : W.part .rim)
    (_ : Logs W) (_ : W.fld (Evt.st .RIM_CANCELLED)) (_ : W.fld (Evt.st .RIM_COOL_STOP))
    (_ : W.fld (Evt.st .RIM_FORCED_OFF)) (_ : W.fld COOL_CNT.STOPS) (_ : W.fld REST_MASK.WAKE)
    (_ : W.fld RG_STAT.RAMPS) (_ : W.fld RIM_STAT.COOL_STOP) (_ : W.fld SWD_STAT.FORCED) (_ : W.fld SWD_STAT.PEND)
    (_ : W.fld SWD_STAT.WAIT_SLOT) : KeptO W (execCoolStop s) := by
  unfold execCoolStop
  repeat' first
    | with_reducible assumption
    | (extract_lets +onlyGivenNames x
       first
       | (refine kept_cut (P := Kept W x) ?_ ?_; (on_goal 1 => subst x); (on_goal 2 => (intro _; try clear_value x)))
       | (try clear_value x))
    | (with_reducible first | apply kept_quiet | apply kept_wr | apply kept_inc | apply kept_raise)
    | (with_reducible first | apply kept_traceEvent | apply kept_errRecord | apply kept_setDom)
    | (with_reducible first | apply kept_cancelInhibited | apply kept_forceOffAll | apply kept_askSelfRefresh)
    | (with_reducible first | apply kept_restFail | apply kept_setRim | apply kept_foldl | apply keptO_next)
    | (with_reducible first | (intro _; rfl) | apply kept_ite)
    | (intro _ _ _ _; try beta_reduce) | (intro _ _ _; try beta_reduce) | (intro _ _; try beta_reduce)
    | split | (clear_value *; split) | dsimp only

theorem kept_coolRestEnd (h : Kept W s) (_ : W.part .cmd) (_ : W.part .rim) (_ : W.fld REST_MASK.WAKE)
    (_ : W.fld RIM_STAT.REST_STATE) : Kept W (State.coolRestEnd s) := by
  unfold State.coolRestEnd
  repeat' first
    | with_reducible assumption
    | (extract_lets +onlyGivenNames x
       first
       | (refine kept_cut (P := Kept W x) ?_ ?_; (on_goal 1 => subst x); (on_goal 2 => (intro _; try clear_value x)))
       | (try clear_value x))
    | (with_reducible first | apply kept_wr | apply kept_setRim | apply kept_restFail | apply kept_upTo)
    | (with_reducible first | (intro _; rfl) | apply kept_ite)
    | (intro _ _ _ _; try beta_reduce) | (intro _ _ _; try beta_reduce) | (intro _ _; try beta_reduce)
    | split | (clear_value *; split) | dsimp only

theorem kept_rimBoundary (h : Kept W s) (_ : W.part .cmd) (_ : W.part .rim) (_ : W.fld FLOW_GOOD_TICKS.TICKS)
    (_ : W.fld REST_MASK.WAKE) (_ : W.fld RIM_STAT.REST_STATE) (_ : W.fld RIM_STAT.REST_TICK)
    (_ : W.fld SWD_STAT.MINOFF) : Kept W (State.rimBoundary s) := by
  unfold State.rimBoundary
  repeat' first
    | with_reducible assumption
    | (extract_lets +onlyGivenNames x
       first
       | (refine kept_cut (P := Kept W x) ?_ ?_; (on_goal 1 => subst x); (on_goal 2 => (intro _; try clear_value x)))
       | (try clear_value x))
    | (with_reducible first | apply kept_incSat | apply kept_wr | apply kept_setDom | apply kept_coolRestEnd)
    | (with_reducible first | apply kept_setRim | apply kept_upTo | (intro _; rfl) | apply kept_ite)
    | (intro _ _ _ _; try beta_reduce) | (intro _ _ _; try beta_reduce) | (intro _ _; try beta_reduce)
    | split | (clear_value *; split) | dsimp only

theorem kept_execSelfRefreshAck {a1 : Nat} (h : Kept W s) (_ : W.part .emit) (_ : W.part .rim) :
    KeptO W (execSelfRefreshAck a1 s) := by
  unfold execSelfRefreshAck
  repeat' first
    | with_reducible assumption
    | (extract_lets +onlyGivenNames x
       first
       | (refine kept_cut (P := Kept W x) ?_ ?_; (on_goal 1 => subst x); (on_goal 2 => (intro _; try clear_value x)))
       | (try clear_value x))
    | (with_reducible first | apply kept_quiet | apply kept_setStk | apply keptO_next | (intro _; rfl))
    | (with_reducible first | apply kept_ite)
    | split | (clear_value *; split) | dsimp only

theorem kept_execSrFault {a1 : Nat} (h : Kept W s) (_ : W.part .cmd) (_ : W.part .emit) (_ : W.part .rim) (_ : Logs W)
    (_ : W.fld (Evt.st .RIM_FORCED_OFF)) (_ : W.fld (Evt.st .RIM_SR_FAULT)) (_ : W.fld REST_MASK.WAKE)
    (_ : W.fld RG_STAT.RAMPS) (_ : W.fld SWD_STAT.FORCED) (_ : W.fld SWD_STAT.PEND) (_ : W.fld SWD_STAT.WAIT_SLOT) :
    KeptO W (execSrFault a1 s) := by
  unfold execSrFault
  repeat' first
    | with_reducible assumption
    | (extract_lets +onlyGivenNames x
       first
       | (refine kept_cut (P := Kept W x) ?_ ?_; (on_goal 1 => subst x); (on_goal 2 => (intro _; try clear_value x)))
       | (try clear_value x))
    | (with_reducible first | apply kept_quiet | apply kept_setStk | apply kept_raise | apply kept_forceOff)
    | (with_reducible first | apply keptO_next | (intro _; rfl) | apply kept_ite)
    | (intro _ _ _ _; try beta_reduce) | (intro _ _ _; try beta_reduce) | (intro _ _; try beta_reduce)
    | split | (clear_value *; split) | dsimp only

theorem kept_execFlowGood1s (h : Kept W s) (_ : W.part .emit) (_ : W.part .rim) (_ : W.fld RIM_STAT.FLOW_GOOD_1S) :
    KeptO W (execFlowGood1s s) := by
  unfold execFlowGood1s
  repeat' first
    | with_reducible assumption
    | (extract_lets +onlyGivenNames x
       first
       | (refine kept_cut (P := Kept W x) ?_ ?_; (on_goal 1 => subst x); (on_goal 2 => (intro _; try clear_value x)))
       | (try clear_value x))
    | (with_reducible first | apply kept_quiet | apply kept_setRim | apply kept_wr | apply keptO_next)
    | (with_reducible first | (intro _; rfl) | apply kept_ite)
    | split | (clear_value *; split) | dsimp only

theorem kept_execRestEntryStart (h : Kept W s) (_ : W.part .cmd) (_ : W.part .emit) (_ : W.part .rim) (_ : Logs W)
    (_ : W.fld (Evt.st .RIM_CANCELLED)) (_ : W.fld REST_MASK.WAKE) (_ : W.fld RIM_STAT.REST_STATE)
    (_ : W.fld RIM_STAT.REST_TICK) (_ : W.fld SWD_STAT.PEND) (_ : W.fld SWD_STAT.STATE) (_ : W.fld SWD_STAT.WAIT_SLOT)
    : KeptO W (execRestEntryStart s) := by
  unfold execRestEntryStart
  repeat' first
    | with_reducible assumption
    | (extract_lets +onlyGivenNames x
       first
       | (refine kept_cut (P := Kept W x) ?_ ?_; (on_goal 1 => subst x); (on_goal 2 => (intro _; try clear_value x)))
       | (try clear_value x))
    | (with_reducible first | apply kept_quiet | apply kept_cancelInhibited | apply kept_wr | apply kept_endRequest)
    | (with_reducible first | apply kept_failRequest | apply kept_enter | apply kept_wrBit | apply kept_drive)
    | (with_reducible first | apply kept_setDom | apply kept_setRim | apply kept_foldl | apply kept_upTo)
    | (with_reducible first | apply keptO_next | (intro _; rfl) | apply kept_ite)
    | (intro _ _ _ _; try beta_reduce) | (intro _ _ _; try beta_reduce) | (intro _ _; try beta_reduce)
    | split | (clear_value *; split) | dsimp only

theorem kept_execRestEntryWave {a1 : Nat} (h : Kept W s) (_ : W.part .emit) (_ : W.part .rim) (_ : W.part .spk)
    (_ : W.fld SNT_STAT.ARMED) (_ : W.fld SWD_STAT.STATE) : KeptO W (execRestEntryWave a1 s) := by
  unfold execRestEntryWave
  repeat' first
    | with_reducible assumption
    | (extract_lets +onlyGivenNames x
       first
       | (refine kept_cut (P := Kept W x) ?_ ?_; (on_goal 1 => subst x); (on_goal 2 => (intro _; try clear_value x)))
       | (try clear_value x))
    | (with_reducible first | apply kept_quiet | apply kept_setRim | apply kept_askSelfRefresh | apply kept_enterDown)
    | (with_reducible first | apply kept_disarm | apply kept_setDom | apply kept_foldl | apply keptO_next)
    | (with_reducible first | (intro _; rfl) | apply kept_ite)
    | (intro _ _ _ _; try beta_reduce) | (intro _ _ _; try beta_reduce) | (intro _ _; try beta_reduce)
    | split | (clear_value *; split) | dsimp only

theorem kept_execRestEntered (h : Kept W s) (_ : W.part .cmd) (_ : W.part .emit) (_ : Logs W)
    (_ : W.fld (Evt.st .RIM_REST_ENTERED)) (_ : W.fld RIM_STAT.REST_STATE) : KeptO W (execRestEntered s) := by
  unfold execRestEntered
  repeat' first
    | with_reducible assumption
    | (extract_lets +onlyGivenNames x
       first
       | (refine kept_cut (P := Kept W x) ?_ ?_; (on_goal 1 => subst x); (on_goal 2 => (intro _; try clear_value x)))
       | (try clear_value x))
    | (with_reducible first | apply kept_quiet | apply kept_raise | apply kept_restDone | apply kept_wr)
    | (with_reducible first | apply keptO_next | (intro _; rfl) | apply kept_ite)
    | split | (clear_value *; split) | dsimp only

theorem kept_startWave {a2 : Nat} (h : Kept W s) (_ : W.part .rim) (_ : W.fld SWD_STAT.MINOFF)
    (_ : W.fld SWD_STAT.PEND) (_ : W.fld SWD_STAT.STATE) : Kept W (State.startWave s a2) := by
  unfold State.startWave
  repeat' first
    | with_reducible assumption
    | (extract_lets +onlyGivenNames x
       first
       | (refine kept_cut (P := Kept W x) ?_ ?_; (on_goal 1 => subst x); (on_goal 2 => (intro _; try clear_value x)))
       | (try clear_value x))
    | (with_reducible first | apply kept_enter | apply kept_wr | apply kept_setDom | apply kept_foldl)
    | (with_reducible first | (intro _; rfl) | apply kept_ite)
    | (intro _ _ _ _; try beta_reduce) | (intro _ _ _; try beta_reduce) | (intro _ _; try beta_reduce)
    | split | (clear_value *; split) | dsimp only

theorem kept_deferWave (h : Kept W s) (_ : W.part .rim) (_ : Logs W) (_ : W.fld (Evt.st .CAD_DEFER))
    (_ : W.fld CAD_DEFER_CNT.DEFER) : Kept W (State.deferWave s) := by
  unfold State.deferWave
  repeat' first
    | with_reducible assumption
    | (extract_lets +onlyGivenNames x
       first
       | (refine kept_cut (P := Kept W x) ?_ ?_; (on_goal 1 => subst x); (on_goal 2 => (intro _; try clear_value x)))
       | (try clear_value x))
    | (with_reducible first | apply kept_setRim | apply kept_raiseLog | apply kept_inc | (intro _; rfl))
    | (with_reducible first | apply kept_ite)
    | split | (clear_value *; split) | dsimp only

theorem kept_execRestWakeWave {a1 : Nat} (h : Kept W s) (_ : W.part .emit) (_ : W.part .rim)
    (_ : W.fld SWD_STAT.MINOFF) (_ : W.fld SWD_STAT.PEND) (_ : W.fld SWD_STAT.STATE) :
    KeptO W (execRestWakeWave a1 s) := by
  unfold execRestWakeWave
  repeat' first
    | with_reducible assumption
    | (extract_lets +onlyGivenNames x
       first
       | (refine kept_cut (P := Kept W x) ?_ ?_; (on_goal 1 => subst x); (on_goal 2 => (intro _; try clear_value x)))
       | (try clear_value x))
    | (with_reducible first | apply kept_quiet | apply kept_startWave | apply kept_setRim | apply keptO_next)
    | (with_reducible first | (intro _; rfl) | apply kept_ite)
    | split | (clear_value *; split) | dsimp only

theorem kept_execRestExited (h : Kept W s) (_ : W.part .cmd) (_ : W.part .emit) (_ : W.part .rim) (_ : Logs W)
    (_ : W.fld (Evt.st .RIM_REST_EXITED)) (_ : W.fld RIM_STAT.REST_STATE) : KeptO W (execRestExited s) := by
  unfold execRestExited
  repeat' first
    | with_reducible assumption
    | (extract_lets +onlyGivenNames x
       first
       | (refine kept_cut (P := Kept W x) ?_ ?_; (on_goal 1 => subst x); (on_goal 2 => (intro _; try clear_value x)))
       | (try clear_value x))
    | (with_reducible first | apply kept_quiet | apply kept_wr | apply kept_setDom | apply kept_raise)
    | (with_reducible first | apply kept_restDone | apply kept_foldl | apply keptO_next | (intro _; rfl))
    | (with_reducible first | apply kept_ite)
    | (intro _ _ _ _; try beta_reduce) | (intro _ _ _; try beta_reduce) | (intro _ _; try beta_reduce)
    | split | (clear_value *; split) | dsimp only

end Sys2Proof.Machine
end

