-- ==== Sys2Proof/Laws/KeptSpoke.lean ====
section
/-! SUPPORT. What the operations of `Spoke.lean` keep (see `Kept.lean`). -/

set_option linter.unusedVariables false
set_option linter.unusedTactic false
set_option linter.unreachableTactic false
set_option linter.tactic.unusedName false

namespace Sys2Proof.Machine

variable {W : Bounds} {s : State}

theorem kept_setLnk {a2 : Nat} {a3 : Lnk → Lnk} (h : Kept W s) (_ : W.part .gl) : Kept W (State.setLnk s a2 a3) := by
  unfold State.setLnk
  repeat' first
    | with_reducible assumption
    | (extract_lets +onlyGivenNames x
       first
       | (refine kept_cut (P := Kept W x) ?_ ?_; (on_goal 1 => subst x); (on_goal 2 => (intro _; try clear_value x)))
       | (try clear_value x))
    | (with_reducible first | apply kept_setGl | (intro _; rfl) | apply kept_ite)
    | split | (clear_value *; split) | dsimp only

theorem kept_setVgrp {a2 : Nat} {a3 : VGrp → VGrp} (h : Kept W s) (_ : W.part .gl) :
    Kept W (State.setVgrp s a2 a3) := by
  unfold State.setVgrp
  repeat' first
    | with_reducible assumption
    | (extract_lets +onlyGivenNames x
       first
       | (refine kept_cut (P := Kept W x) ?_ ?_; (on_goal 1 => subst x); (on_goal 2 => (intro _; try clear_value x)))
       | (try clear_value x))
    | (with_reducible first | apply kept_setGl | (intro _; rfl) | apply kept_ite)
    | split | (clear_value *; split) | dsimp only

theorem kept_setSent {a2 : Nat} {a3 : Sent → Sent} (h : Kept W s) (_ : W.part .spk) :
    Kept W (State.setSent s a2 a3) := by
  unfold State.setSent
  repeat' first
    | with_reducible assumption
    | (extract_lets +onlyGivenNames x
       first
       | (refine kept_cut (P := Kept W x) ?_ ?_; (on_goal 1 => subst x); (on_goal 2 => (intro _; try clear_value x)))
       | (try clear_value x))
    | (with_reducible first | apply kept_setSpk | (intro _; rfl) | apply kept_ite)
    | split | (clear_value *; split) | dsimp only

theorem kept_execFeatherTrigger {a1 : Nat} {a2 : Nat} {a3 : Nat} {a4 : Nat} (h : Kept W s) (_ : W.part .emit)
    (_ : W.part .spk) (_ : W.fld SNT_CNT.FTH_EVT) : KeptO W (execFeatherTrigger a1 a2 a3 a4 s) := by
  unfold execFeatherTrigger
  repeat' first
    | with_reducible assumption
    | (extract_lets +onlyGivenNames x
       first
       | (refine kept_cut (P := Kept W x) ?_ ?_; (on_goal 1 => subst x); (on_goal 2 => (intro _; try clear_value x)))
       | (try clear_value x))
    | (with_reducible first | apply kept_quiet | apply kept_inc | apply kept_setSent | apply keptO_next)
    | (with_reducible first | (intro _; rfl) | apply kept_ite)
    | split | (clear_value *; split) | dsimp only

theorem kept_execTripClear {a1 : Nat} {a2 : Nat} (h : Kept W s) (_ : W.part .emit) (_ : W.part .spk) :
    KeptO W (execTripClear a1 a2 s) := by
  unfold execTripClear
  repeat' first
    | with_reducible assumption
    | (extract_lets +onlyGivenNames x
       first
       | (refine kept_cut (P := Kept W x) ?_ ?_; (on_goal 1 => subst x); (on_goal 2 => (intro _; try clear_value x)))
       | (try clear_value x))
    | (with_reducible first | apply kept_quiet | apply kept_setSent | apply keptO_next | (intro _; rfl))
    | (with_reducible first | apply kept_ite)
    | split | (clear_value *; split) | dsimp only

theorem kept_execFeatherHoldExpiry {a1 : Nat} {a2 : Nat} (h : Kept W s) (_ : W.part .emit) (_ : W.part .spk) :
    KeptO W (execFeatherHoldExpiry a1 a2 s) := by
  unfold execFeatherHoldExpiry
  repeat' first
    | with_reducible assumption
    | (extract_lets +onlyGivenNames x
       first
       | (refine kept_cut (P := Kept W x) ?_ ?_; (on_goal 1 => subst x); (on_goal 2 => (intro _; try clear_value x)))
       | (try clear_value x))
    | (with_reducible first | apply kept_quiet | apply kept_setSent | apply keptO_next | (intro _; rfl))
    | (with_reducible first | apply kept_ite)
    | split | (clear_value *; split) | dsimp only

theorem kept_execFeatherReturnStep {a1 : Nat} {a2 : Nat} (h : Kept W s) (_ : W.part .emit) (_ : W.part .spk) :
    KeptO W (execFeatherReturnStep a1 a2 s) := by
  unfold execFeatherReturnStep
  repeat' first
    | with_reducible assumption
    | (extract_lets +onlyGivenNames x
       first
       | (refine kept_cut (P := Kept W x) ?_ ?_; (on_goal 1 => subst x); (on_goal 2 => (intro _; try clear_value x)))
       | (try clear_value x))
    | (with_reducible first | apply kept_quiet | apply kept_setSent | apply keptO_next | (intro _; rfl))
    | (with_reducible first | apply kept_ite)
    | split | (clear_value *; split) | dsimp only

theorem kept_alertIn {a2 : AlertIn} {a3 : Bool} (h : Kept W s) (_ : W.part .spk) :
    Kept W (State.alertIn s a2 a3) := by
  unfold State.alertIn
  repeat' first
    | with_reducible assumption
    | (extract_lets +onlyGivenNames x
       first
       | (refine kept_cut (P := Kept W x) ?_ ?_; (on_goal 1 => subst x); (on_goal 2 => (intro _; try clear_value x)))
       | (try clear_value x))
    | (with_reducible first | apply kept_setSpk | (intro _; rfl) | apply kept_ite)
    | (intro _ _ _ _; try beta_reduce) | (intro _ _ _; try beta_reduce) | (intro _ _; try beta_reduce)
    | split | (clear_value *; split) | dsimp only

theorem kept_execBrake {a1 : AlertIn} (h : Kept W s) (_ : W.part .emit) (_ : W.part .eng) (_ : W.part .spk)
    (_ : Logs W) (_ : W.fld (Evt.st .SPK_BRAKE)) (_ : W.fld SPK_BRK_CNT.BRAKES) (_ : W.fld SPK_STAT.BRAKE)
    (_ : W.fld SPK_STAT.BRK_DIV) : KeptO W (execBrake a1 s) := by
  unfold execBrake
  repeat' first
    | with_reducible assumption
    | (extract_lets +onlyGivenNames x
       first
       | (refine kept_cut (P := Kept W x) ?_ ?_; (on_goal 1 => subst x); (on_goal 2 => (intro _; try clear_value x)))
       | (try clear_value x))
    | (with_reducible first | apply kept_quiet | apply kept_alertIn | apply kept_setSpk | apply kept_wr)
    | (with_reducible first | apply kept_drive | apply kept_inc | apply kept_raise | apply kept_traceEvent)
    | (with_reducible first | apply keptO_next | (intro _; rfl) | apply kept_ite)
    | (intro _ _ _ _; try beta_reduce) | (intro _ _ _; try beta_reduce) | (intro _ _; try beta_reduce)
    | split | (clear_value *; split) | dsimp only

theorem kept_execVrAlertDeassert {a1 : AlertIn} (h : Kept W s) (_ : W.part .emit) (_ : W.part .spk) :
    KeptO W (execVrAlertDeassert a1 s) := by
  unfold execVrAlertDeassert
  repeat' first
    | with_reducible assumption
    | (extract_lets +onlyGivenNames x
       first
       | (refine kept_cut (P := Kept W x) ?_ ?_; (on_goal 1 => subst x); (on_goal 2 => (intro _; try clear_value x)))
       | (try clear_value x))
    | (with_reducible first | apply kept_quiet | apply kept_alertIn | apply kept_setSpk | apply keptO_next)
    | (with_reducible first | (intro _; rfl) | apply kept_ite)
    | (intro _ _ _ _; try beta_reduce) | (intro _ _ _; try beta_reduce) | (intro _ _; try beta_reduce)
    | split | (clear_value *; split) | dsimp only

theorem kept_quietTick (h : Kept W s) (_ : W.part .emit) (_ : W.part .spk) : Kept W (State.quietTick s) := by
  unfold State.quietTick
  repeat' first
    | with_reducible assumption
    | (extract_lets +onlyGivenNames x
       first
       | (refine kept_cut (P := Kept W x) ?_ ?_; (on_goal 1 => subst x); (on_goal 2 => (intro _; try clear_value x)))
       | (try clear_value x))
    | (with_reducible first | apply kept_setSpk | apply kept_quiet | (intro _; rfl) | apply kept_ite)
    | (intro _ _ _ _; try beta_reduce) | (intro _ _ _; try beta_reduce) | (intro _ _; try beta_reduce)
    | split | (clear_value *; split) | dsimp only

theorem kept_releaseCells (h : Kept W s) (_ : W.part .spk) : Kept W (State.releaseCells s) := by
  unfold State.releaseCells
  repeat' first
    | with_reducible assumption
    | (extract_lets +onlyGivenNames x
       first
       | (refine kept_cut (P := Kept W x) ?_ ?_; (on_goal 1 => subst x); (on_goal 2 => (intro _; try clear_value x)))
       | (try clear_value x))
    | (with_reducible first | apply kept_setSpk | (intro _; rfl) | apply kept_ite)
    | (intro _ _ _ _; try beta_reduce) | (intro _ _ _; try beta_reduce) | (intro _ _; try beta_reduce)
    | split | (clear_value *; split) | dsimp only

theorem kept_execBrakeReleaseStep (h : Kept W s) (_ : W.part .emit) (_ : W.part .gl) (_ : W.part .spk) (_ : Logs W)
    (_ : W.fld (Evt.st .SPK_BRK_RELEASED)) (_ : W.fld SPK_STAT.BRAKE) (_ : W.fld SPK_STAT.BRK_DIV) :
    KeptO W (execBrakeReleaseStep s) := by
  unfold execBrakeReleaseStep
  repeat' first
    | with_reducible assumption
    | (extract_lets +onlyGivenNames x
       first
       | (refine kept_cut (P := Kept W x) ?_ ?_; (on_goal 1 => subst x); (on_goal 2 => (intro _; try clear_value x)))
       | (try clear_value x))
    | (with_reducible first | apply kept_quiet | apply kept_releaseCells | apply kept_wr | apply kept_drive)
    | (with_reducible first | apply kept_raise | apply kept_setGl | apply keptO_next | (intro _; rfl))
    | (with_reducible first | apply kept_ite)
    | (intro _ _ _ _; try beta_reduce) | (intro _ _ _; try beta_reduce) | (intro _ _; try beta_reduce)
    | split | (clear_value *; split) | dsimp only

theorem kept_latchCells {a2 : List Nat} {a3 : List (Nat × List Nat × Nat)} (h : Kept W s) (_ : W.part .spk) :
    Kept W (State.latchCells s a2 a3) := by
  unfold State.latchCells
  repeat' first
    | with_reducible assumption
    | (extract_lets +onlyGivenNames x
       first
       | (refine kept_cut (P := Kept W x) ?_ ?_; (on_goal 1 => subst x); (on_goal 2 => (intro _; try clear_value x)))
       | (try clear_value x))
    | (with_reducible first | apply kept_setSpk | (intro _; rfl) | apply kept_ite)
    | (intro _ _ _ _; try beta_reduce) | (intro _ _ _; try beta_reduce) | (intro _ _; try beta_reduce)
    | split | (clear_value *; split) | dsimp only

theorem kept_treeCheck {a2 : Nat} {a3 : Bool} {a4 : Bool} {a5 : Bool} (h : Kept W s) (_ : W.part .spk) (_ : Logs W)
    (_ : W.fld (Evt.st .SPK_TREE_FAULT)) : Kept W (State.treeCheck s a2 a3 a4 a5) := by
  unfold State.treeCheck
  repeat' first
    | with_reducible assumption
    | (extract_lets +onlyGivenNames x
       first
       | (refine kept_cut (P := Kept W x) ?_ ?_; (on_goal 1 => subst x); (on_goal 2 => (intro _; try clear_value x)))
       | (try clear_value x))
    | (with_reducible first | apply kept_setSent | apply kept_raiseLog | (intro _; rfl) | apply kept_ite)
    | split | (clear_value *; split) | dsimp only

theorem kept_injection {a2 : Nat} {a3 : Nat} {a4 : Bool} (h : Kept W s) (_ : W.part .spk) (_ : Logs W)
    (_ : W.fld (Evt.st .SPK_INJ_FAIL)) (_ : W.fld SNT_CNT.INJ_DONE) (_ : W.fld SNT_CNT.INJ_FAILED)
    (_ : W.fld SNT_STAT.INJ_FAIL) : Kept W (State.injection s a2 a3 a4) := by
  unfold State.injection
  repeat' first
    | with_reducible assumption
    | (extract_lets +onlyGivenNames x
       first
       | (refine kept_cut (P := Kept W x) ?_ ?_; (on_goal 1 => subst x); (on_goal 2 => (intro _; try clear_value x)))
       | (subst x))
    | (with_reducible first | apply kept_inc | apply kept_setSent | apply kept_wrBit | apply kept_raiseLog)
    | (with_reducible first | (intro _; rfl) | apply kept_ite)
    | split | (clear_value *; split) | dsimp only

theorem kept_injections {a2 : Nat} {a3 : Nat} {a4 : Nat} (h : Kept W s) (_ : W.part .spk) (_ : Logs W)
    (_ : W.fld (Evt.st .SPK_INJ_FAIL)) (_ : W.fld SNT_CNT.INJ_DONE) (_ : W.fld SNT_CNT.INJ_FAILED)
    (_ : W.fld SNT_STAT.INJ_FAIL) : Kept W (State.injections s a2 a3 a4) := by
  unfold State.injections
  repeat' first
    | with_reducible assumption
    | (extract_lets +onlyGivenNames x
       first
       | (refine kept_cut (P := Kept W x) ?_ ?_; (on_goal 1 => subst x); (on_goal 2 => (intro _; try clear_value x)))
       | (try clear_value x))
    | (with_reducible first | apply kept_injection | apply kept_upTo | (intro _; rfl) | apply kept_ite)
    | (intro _ _ _ _; try beta_reduce) | (intro _ _ _; try beta_reduce) | (intro _ _; try beta_reduce)
    | split | (clear_value *; split) | dsimp only

theorem kept_monitorResult {a2 : Nat} {a3 : Nat} (h : Kept W s) (_ : W.fld PDM.SLACK) (_ : W.fld PDM.VALID)
    (_ : W.fld PDM.VIOL) : Kept W (State.monitorResult s a2 a3) := by
  unfold State.monitorResult
  repeat' first
    | with_reducible assumption
    | (extract_lets +onlyGivenNames x
       first
       | (refine kept_cut (P := Kept W x) ?_ ?_; (on_goal 1 => subst x); (on_goal 2 => (intro _; try clear_value x)))
       | (subst x))
    | (with_reducible first | apply kept_wr | (intro _; rfl) | apply kept_ite)
    | split | (clear_value *; split) | dsimp only

theorem kept_goodFrame {a2 : Nat} {a3 : List Nat} (h : Kept W s) (_ : W.part .spk) (_ : Logs W)
    (_ : W.fld (Evt.st .SPK_FEATHER)) (_ : W.fld (Evt.st .SPK_FEATHER_SKIP)) (_ : W.fld (Evt.st .SPK_INJ_FAIL))
    (_ : W.fld (Evt.st .SPK_TREE_FAULT)) (_ : W.fld PDM.SLACK) (_ : W.fld PDM.VALID) (_ : W.fld PDM.VIOL)
    (_ : W.fld SNT_CNT.FTH_CYC) (_ : W.fld SNT_CNT.INJ_DONE) (_ : W.fld SNT_CNT.INJ_FAILED)
    (_ : W.fld SNT_STAT.FEATHER) (_ : W.fld SNT_STAT.FTH_EVT_TICK) (_ : W.fld SNT_STAT.FTH_TICK)
    (_ : W.fld SNT_STAT.INJ_FAIL) (_ : W.fld SNT_STAT.STEP) (_ : W.fld SPK_STAT.ALERT_ABC)
    (_ : W.fld SPK_STAT.FEATHER_ACT) : Kept W (State.goodFrame s a2 a3) := by
  unfold State.goodFrame
  repeat' first
    | with_reducible assumption
    | (extract_lets +onlyGivenNames x
       first
       | (refine kept_cut (P := Kept W x) ?_ ?_; (on_goal 1 => subst x); (on_goal 2 => (intro _; try clear_value x)))
       | (try clear_value x))
    | (with_reducible first | apply kept_setSent | apply kept_wr | apply kept_treeCheck | apply kept_injections)
    | (with_reducible first | apply kept_monitorResult | apply kept_raise | apply kept_setSpk | (intro _; rfl))
    | (with_reducible first | apply kept_ite)
    | split | (clear_value *; split) | dsimp only

theorem kept_badFrame {a2 : Nat} (h : Kept W s) (_ : W.part .spk) (_ : W.fld SPK_BUS_ERR.FRAMES) :
    Kept W (State.badFrame s a2) := by
  unfold State.badFrame
  repeat' first
    | with_reducible assumption
    | (extract_lets +onlyGivenNames x
       first
       | (refine kept_cut (P := Kept W x) ?_ ?_; (on_goal 1 => subst x); (on_goal 2 => (intro _; try clear_value x)))
       | (try clear_value x))
    | (with_reducible first | apply kept_setSent | apply kept_inc | (intro _; rfl) | apply kept_ite)
    | split | (clear_value *; split) | dsimp only

theorem kept_execSpokeFault {a1 : Nat} (h : Kept W s) (_ : W.part .emit) (_ : W.part .spk) (_ : Logs W)
    (_ : W.fld (Evt.st .EM_UNKNOWN)) (_ : W.fld (Evt.st .SPK_SPOKE_FAULT)) : KeptO W (execSpokeFault a1 s) := by
  unfold execSpokeFault
  repeat' first
    | with_reducible assumption
    | (extract_lets +onlyGivenNames x
       first
       | (refine kept_cut (P := Kept W x) ?_ ?_; (on_goal 1 => subst x); (on_goal 2 => (intro _; try clear_value x)))
       | (try clear_value x))
    | (with_reducible first | apply kept_quiet | apply kept_setSent | apply kept_raise | apply keptO_next)
    | (with_reducible first | (intro _; rfl) | apply kept_ite)
    | split | (clear_value *; split) | dsimp only

theorem kept_busOk (h : Kept W s) (_ : W.fld SPK_STAT.BUS_OK) : Kept W (State.busOk s) := by
  unfold State.busOk
  repeat' first
    | with_reducible assumption
    | (extract_lets +onlyGivenNames x
       first
       | (refine kept_cut (P := Kept W x) ?_ ?_; (on_goal 1 => subst x); (on_goal 2 => (intro _; try clear_value x)))
       | (try clear_value x))
    | (with_reducible first | apply kept_wr | (intro _; rfl) | apply kept_ite)
    | split | (clear_value *; split) | dsimp only

theorem kept_clearFrames (h : Kept W s) (_ : W.part .spk) : Kept W (State.clearFrames s) := by
  unfold State.clearFrames
  repeat' first
    | with_reducible assumption
    | (extract_lets +onlyGivenNames x
       first
       | (refine kept_cut (P := Kept W x) ?_ ?_; (on_goal 1 => subst x); (on_goal 2 => (intro _; try clear_value x)))
       | (try clear_value x))
    | (with_reducible first | apply kept_setSpk | (intro _; rfl) | apply kept_ite)
    | split | (clear_value *; split) | dsimp only

theorem kept_trimStart {a2 : Nat} {a3 : Nat} (h : Kept W s) (_ : W.part .spk) : Kept W (State.trimStart s a2 a3) := by
  unfold State.trimStart
  repeat' first
    | with_reducible assumption
    | (extract_lets +onlyGivenNames x
       first
       | (refine kept_cut (P := Kept W x) ?_ ?_; (on_goal 1 => subst x); (on_goal 2 => (intro _; try clear_value x)))
       | (try clear_value x))
    | (with_reducible first | apply kept_setSent | (intro _; rfl) | apply kept_ite)
    | (intro _ _ _ _; try beta_reduce) | (intro _ _ _; try beta_reduce) | (intro _ _; try beta_reduce)
    | split | (clear_value *; split) | dsimp only

theorem kept_trimEnd {a2 : Nat} {a3 : Nat} {a4 : Int} (h : Kept W s) (_ : W.part .spk) (_ : Logs W)
    (_ : W.fld (Evt.st .SPK_TRIM_FAIL)) : Kept W (State.trimEnd s a2 a3 a4) := by
  unfold State.trimEnd
  repeat' first
    | with_reducible assumption
    | (extract_lets +onlyGivenNames x
       first
       | (refine kept_cut (P := Kept W x) ?_ ?_; (on_goal 1 => subst x); (on_goal 2 => (intro _; try clear_value x)))
       | (try clear_value x))
    | (with_reducible first | apply kept_setSent | apply kept_raiseLog | (intro _; rfl) | apply kept_ite)
    | (intro _ _ _ _; try beta_reduce) | (intro _ _ _; try beta_reduce) | (intro _ _; try beta_reduce)
    | split | (clear_value *; split) | dsimp only

theorem kept_injectAll {a2 : Nat} (h : Kept W s) (_ : W.part .emit) (_ : W.part .spk) :
    Kept W (State.injectAll s a2) := by
  unfold State.injectAll
  repeat' first
    | with_reducible assumption
    | (extract_lets +onlyGivenNames x
       first
       | (refine kept_cut (P := Kept W x) ?_ ?_; (on_goal 1 => subst x); (on_goal 2 => (intro _; try clear_value x)))
       | (try clear_value x))
    | (with_reducible first | apply kept_drive | apply kept_setSpk | (intro _; rfl) | apply kept_ite)
    | (intro _ _ _ _; try beta_reduce) | (intro _ _ _; try beta_reduce) | (intro _ _; try beta_reduce)
    | split | (clear_value *; split) | dsimp only

theorem kept_assertReset {a2 : Nat} {a3 : Nat} (h : Kept W s) (_ : W.part .emit) (_ : W.part .spk)
    (_ : W.fld CORE_RST.RST) : Kept W (State.assertReset s a2 a3) := by
  unfold State.assertReset
  repeat' first
    | with_reducible assumption
    | (extract_lets +onlyGivenNames x
       first
       | (refine kept_cut (P := Kept W x) ?_ ?_; (on_goal 1 => subst x); (on_goal 2 => (intro _; try clear_value x)))
       | (try clear_value x))
    | (with_reducible first | apply kept_wr | apply kept_setSent | apply kept_drive | (intro _; rfl))
    | (with_reducible first | apply kept_ite)
    | (intro _ _ _ _; try beta_reduce) | (intro _ _ _; try beta_reduce) | (intro _ _; try beta_reduce)
    | split | (clear_value *; split) | dsimp only

end Sys2Proof.Machine
end

