-- ==== Sys2Proof/Laws/KeptGleub.lean ====
section
/-! SUPPORT. What the operations of `Gleub.lean` keep (see `Kept.lean`). -/

set_option linter.unusedVariables false
set_option linter.unusedTactic false
set_option linter.unreachableTactic false
set_option linter.tactic.unusedName false

namespace Sys2Proof.Machine

variable {W : Bounds} {s : State}

theorem kept_send {a2 a3 : Nat} (h : Kept W s) (a : W.part .emit) : Kept W (s.send a2 a3) :=
  h.of_eq rfl rfl rfl rfl rfl rfl rfl rfl (fun q k => by
    cases q with
    | emit => exact absurd a k
    | _ => simp [Region.same, State.send])

theorem kept_sendQuery {a2 : Nat} {a3 : Nat} (h : Kept W s) (_ : W.part .emit) (_ : W.part .gl) :
    Kept W (State.sendQuery s a2 a3) := by
  unfold State.sendQuery
  repeat' first
    | with_reducible assumption
    | (extract_lets +onlyGivenNames x
       first
       | (refine kept_cut (P := Kept W x) ?_ ?_; (on_goal 1 => subst x); (on_goal 2 => (intro _; try clear_value x)))
       | (try clear_value x))
    | (with_reducible first | apply kept_send | apply kept_setLnk | (intro _; rfl) | apply kept_ite)
    | split | (clear_value *; split) | dsimp only

theorem kept_goodSlot {a2 : Nat} (h : Kept W s) (_ : W.part .gl) : Kept W (State.goodSlot s a2) := by
  unfold State.goodSlot
  repeat' first
    | with_reducible assumption
    | (extract_lets +onlyGivenNames x
       first
       | (refine kept_cut (P := Kept W x) ?_ ?_; (on_goal 1 => subst x); (on_goal 2 => (intro _; try clear_value x)))
       | (try clear_value x))
    | (with_reducible first | apply kept_setLnk | (intro _; rfl) | apply kept_ite)
    | (intro _ _ _ _; try beta_reduce) | (intro _ _ _; try beta_reduce) | (intro _ _; try beta_reduce)
    | split | (clear_value *; split) | dsimp only

theorem kept_setvTo {a2 : Nat} {a3 : Nat} (h : Kept W s) (_ : W.part .emit) (_ : W.part .gl)
    (_ : W.fld GL_STAT.OUTSTANDING) (_ : W.fld GL_STAT.SEQ) (_ : W.fld GL_STAT.VREQ) :
    Kept W (State.setvTo s a2 a3) := by
  unfold State.setvTo
  repeat' first
    | with_reducible assumption
    | (extract_lets +onlyGivenNames x
       first
       | (refine kept_cut (P := Kept W x) ?_ ?_; (on_goal 1 => subst x); (on_goal 2 => (intro _; try clear_value x)))
       | (try clear_value x))
    | (with_reducible first | apply kept_wr | apply kept_send | apply kept_setLnk | (intro _; rfl) | apply kept_ite)
    | split | (clear_value *; split) | dsimp only

theorem kept_sendTarget {a2 : Nat} {a3 : Nat} {a4 : Nat} {a5 : Nat} (h : Kept W s) (_ : W.part .emit) (_ : W.part .gl)
    (_ : W.fld GL_STAT.OUTSTANDING) (_ : W.fld GL_STAT.SEQ) (_ : W.fld GL_STAT.VREQ) :
    Kept W (State.sendTarget s a2 a3 a4 a5) := by
  unfold State.sendTarget
  repeat' first
    | with_reducible assumption
    | (extract_lets +onlyGivenNames x
       first
       | (refine kept_cut (P := Kept W x) ?_ ?_; (on_goal 1 => subst x); (on_goal 2 => (intro _; try clear_value x)))
       | (try clear_value x))
    | (with_reducible first | apply kept_setVgrp | apply kept_setvTo | apply kept_foldl | (intro _; rfl))
    | (with_reducible first | apply kept_ite)
    | (intro _ _ _ _; try beta_reduce) | (intro _ _ _; try beta_reduce) | (intro _ _; try beta_reduce)
    | split | (clear_value *; split) | dsimp only

theorem kept_requestVoltage {a2 : Nat} {a3 : Nat} {a4 : Nat} {a5 : Nat} (h : Kept W s) (_ : W.part .emit)
    (_ : W.part .gl) (_ : W.fld GL_STAT.OUTSTANDING) (_ : W.fld GL_STAT.SEQ) (_ : W.fld GL_STAT.VREQ) :
    Kept W (State.requestVoltage s a2 a3 a4 a5) := by
  unfold State.requestVoltage
  repeat' first
    | with_reducible assumption
    | (extract_lets +onlyGivenNames x
       first
       | (refine kept_cut (P := Kept W x) ?_ ?_; (on_goal 1 => subst x); (on_goal 2 => (intro _; try clear_value x)))
       | (try clear_value x))
    | (with_reducible first | apply kept_setVgrp | apply kept_sendTarget | (intro _; rfl) | apply kept_ite)
    | split | (clear_value *; split) | dsimp only

theorem kept_sendHeld {a2 : Nat} (h : Kept W s) (_ : W.part .emit) (_ : W.part .gl) (_ : W.fld GL_STAT.OUTSTANDING)
    (_ : W.fld GL_STAT.SEQ) (_ : W.fld GL_STAT.VREQ) : Kept W (State.sendHeld s a2) := by
  unfold State.sendHeld
  repeat' first
    | with_reducible assumption
    | (extract_lets +onlyGivenNames x
       first
       | (refine kept_cut (P := Kept W x) ?_ ?_; (on_goal 1 => subst x); (on_goal 2 => (intro _; try clear_value x)))
       | (try clear_value x))
    | (with_reducible first | apply kept_setVgrp | apply kept_requestVoltage | (intro _; rfl) | apply kept_ite)
    | (intro _ _ _ _; try beta_reduce) | (intro _ _ _; try beta_reduce) | (intro _ _; try beta_reduce)
    | split | (clear_value *; split) | dsimp only

theorem kept_checkEnd {a2 : Nat} (h : Kept W s) (_ : W.part .emit) (_ : W.part .gl) (_ : W.fld GL_STAT.OUTSTANDING)
    (_ : W.fld GL_STAT.SEQ) (_ : W.fld GL_STAT.VREQ) : Kept W (State.checkEnd s a2) := by
  unfold State.checkEnd
  repeat' first
    | with_reducible assumption
    | (extract_lets +onlyGivenNames x
       first
       | (refine kept_cut (P := Kept W x) ?_ ?_; (on_goal 1 => subst x); (on_goal 2 => (intro _; try clear_value x)))
       | (try clear_value x))
    | (with_reducible first | apply kept_wr | apply kept_setVgrp | apply kept_sendHeld | apply kept_foldl)
    | (with_reducible first | (intro _; rfl) | apply kept_ite)
    | (intro _ _ _ _; try beta_reduce) | (intro _ _ _; try beta_reduce) | (intro _ _; try beta_reduce)
    | split | (clear_value *; split) | dsimp only

theorem kept_sscHead {a2 : Nat} (h : Kept W s) (_ : W.part .emit) (_ : W.part .gl) : Kept W (State.sscHead s a2) := by
  unfold State.sscHead
  repeat' first
    | with_reducible assumption
    | (extract_lets +onlyGivenNames x
       first
       | (refine kept_cut (P := Kept W x) ?_ ?_; (on_goal 1 => subst x); (on_goal 2 => (intro _; try clear_value x)))
       | (try clear_value x))
    | (with_reducible first | apply kept_setLnk | apply kept_send | (intro _; rfl) | apply kept_ite)
    | (intro _ _ _ _; try beta_reduce) | (intro _ _ _; try beta_reduce) | (intro _ _; try beta_reduce)
    | split | (clear_value *; split) | dsimp only

theorem kept_sscCommit (h : Kept W s) (_ : W.part .emit) (_ : W.part .gl) (_ : W.fld GL_CTRL.SSC_APPLY) :
    Kept W (State.sscCommit s) := by
  unfold State.sscCommit
  repeat' first
    | with_reducible assumption
    | (extract_lets +onlyGivenNames x
       first
       | (refine kept_cut (P := Kept W x) ?_ ?_; (on_goal 1 => subst x); (on_goal 2 => (intro _; try clear_value x)))
       | (try clear_value x))
    | (with_reducible first | apply kept_setLnk | apply kept_sscHead | apply kept_wr | apply kept_setGl)
    | (with_reducible first | apply kept_foldl | (intro _; rfl) | apply kept_ite)
    | (intro _ _ _ _; try beta_reduce) | (intro _ _ _; try beta_reduce) | (intro _ _; try beta_reduce)
    | split | (clear_value *; split) | dsimp only

theorem kept_linkFault {a2 : Nat} (h : Kept W s) (_ : W.part .emit) (_ : W.part .eng) (_ : W.part .gl) (_ : Logs W)
    (_ : W.fld (Evt.st .GL_LINK_FAULT)) (_ : W.fld GL_CTRL.SSC_APPLY) (_ : W.fld GL_FAULT.FAULT)
    (_ : W.fld GL_FAULT_CNT.FAULTS) (_ : W.fld GL_STAT.LSTATE) (_ : W.fld GL_STAT.OUTSTANDING) (_ : W.fld GL_STAT.SEQ)
    (_ : W.fld GL_STAT.VREQ) : Kept W (State.linkFault s a2) := by
  unfold State.linkFault
  repeat' first
    | with_reducible assumption
    | (extract_lets +onlyGivenNames x
       first
       | (refine kept_cut (P := Kept W x) ?_ ?_; (on_goal 1 => subst x); (on_goal 2 => (intro _; try clear_value x)))
       | (try clear_value x))
    | (with_reducible first | apply kept_wrBit | apply kept_wr | apply kept_inc | apply kept_setLnk)
    | (with_reducible first | apply kept_setVgrp | apply kept_traceEvent | apply kept_raiseLog | apply kept_sscCommit)
    | (with_reducible first | apply kept_checkEnd | (intro _; rfl) | apply kept_ite)
    | split | (clear_value *; split) | dsimp only

theorem kept_enterTrain {a2 : Nat} (h : Kept W s) (_ : W.part .emit) (_ : W.part .gl) (_ : W.fld GL_FAULT.FAULT)
    (_ : W.fld GL_STAT.LSTATE) : Kept W (State.enterTrain s a2) := by
  unfold State.enterTrain
  repeat' first
    | with_reducible assumption
    | (extract_lets +onlyGivenNames x
       first
       | (refine kept_cut (P := Kept W x) ?_ ?_; (on_goal 1 => subst x); (on_goal 2 => (intro _; try clear_value x)))
       | (try clear_value x))
    | (with_reducible first | apply kept_wr | apply kept_wrBit | apply kept_setLnk | apply kept_send)
    | (with_reducible first | (intro _; rfl) | apply kept_ite)
    | (intro _ _ _ _; try beta_reduce) | (intro _ _ _; try beta_reduce) | (intro _ _; try beta_reduce)
    | split | (clear_value *; split) | dsimp only

theorem kept_trainEnd (h : Kept W s) (_ : W.fld GL_CTRL.RETRAIN) : Kept W (State.trainEnd s) := by
  unfold State.trainEnd
  repeat' first
    | with_reducible assumption
    | (extract_lets +onlyGivenNames x
       first
       | (refine kept_cut (P := Kept W x) ?_ ?_; (on_goal 1 => subst x); (on_goal 2 => (intro _; try clear_value x)))
       | (try clear_value x))
    | (with_reducible first | apply kept_wr | (intro _; rfl) | apply kept_ite)
    | split | (clear_value *; split) | dsimp only

theorem kept_sscNext {a2 : Nat} (h : Kept W s) (_ : W.part .emit) (_ : W.part .gl) (_ : W.fld GL_CTRL.SSC_APPLY) :
    Kept W (State.sscNext s a2) := by
  unfold State.sscNext
  repeat' first
    | with_reducible assumption
    | (extract_lets +onlyGivenNames x
       first
       | (refine kept_cut (P := Kept W x) ?_ ?_; (on_goal 1 => subst x); (on_goal 2 => (intro _; try clear_value x)))
       | (try clear_value x))
    | (with_reducible first | apply kept_sscCommit | apply kept_sscHead | (intro _; rfl) | apply kept_ite)
    | split | (clear_value *; split) | dsimp only

theorem kept_sscApply (h : Kept W s) (_ : W.part .emit) (_ : W.part .gl) (_ : W.fld GL_CTRL.SSC_APPLY) :
    Kept W (State.sscApply s) := by
  unfold State.sscApply
  repeat' first
    | with_reducible assumption
    | (extract_lets +onlyGivenNames x
       first
       | (refine kept_cut (P := Kept W x) ?_ ?_; (on_goal 1 => subst x); (on_goal 2 => (intro _; try clear_value x)))
       | (try clear_value x))
    | (with_reducible first | apply kept_setLnk | apply kept_setGl | apply kept_sscNext | apply kept_sscCommit)
    | (with_reducible first | apply kept_foldl | (intro _; rfl) | apply kept_ite)
    | (intro _ _ _ _; try beta_reduce) | (intro _ _ _; try beta_reduce) | (intro _ _; try beta_reduce)
    | split | (clear_value *; split) | dsimp only

theorem kept_sscIfDue {a2 : Nat} (h : Kept W s) (_ : W.part .emit) (_ : W.part .gl) :
    Kept W (State.sscIfDue s a2) := by
  unfold State.sscIfDue
  repeat' first
    | with_reducible assumption
    | (extract_lets +onlyGivenNames x
       first
       | (refine kept_cut (P := Kept W x) ?_ ?_; (on_goal 1 => subst x); (on_goal 2 => (intro _; try clear_value x)))
       | (try clear_value x))
    | (with_reducible first | apply kept_setLnk | apply kept_sscHead | (intro _; rfl) | apply kept_ite)
    | (intro _ _ _ _; try beta_reduce) | (intro _ _ _; try beta_reduce) | (intro _ _; try beta_reduce)
    | split | (clear_value *; split) | dsimp only

theorem kept_linkUp {a2 : Nat} (h : Kept W s) (_ : W.part .emit) (_ : W.part .gl) (_ : W.fld GL_CTRL.RETRAIN)
    (_ : W.fld GL_STAT.LSTATE) : Kept W (State.linkUp s a2) := by
  unfold State.linkUp
  repeat' first
    | with_reducible assumption
    | (extract_lets +onlyGivenNames x
       first
       | (refine kept_cut (P := Kept W x) ?_ ?_; (on_goal 1 => subst x); (on_goal 2 => (intro _; try clear_value x)))
       | (try clear_value x))
    | (with_reducible first | apply kept_wr | apply kept_trainEnd | apply kept_setVgrp | apply kept_sscIfDue)
    | (with_reducible first | (intro _; rfl) | apply kept_ite)
    | (intro _ _ _ _; try beta_reduce) | (intro _ _ _; try beta_reduce) | (intro _ _; try beta_reduce)
    | split | (clear_value *; split) | dsimp only

theorem kept_openReturn {a2 : Nat} (h : Kept W s) (_ : W.part .emit) (_ : W.part .gl) (_ : W.fld GL_STAT.OUTSTANDING)
    (_ : W.fld GL_STAT.SEQ) (_ : W.fld GL_STAT.VREQ) : Kept W (State.openReturn s a2) := by
  unfold State.openReturn
  repeat' first
    | with_reducible assumption
    | (extract_lets +onlyGivenNames x
       first
       | (refine kept_cut (P := Kept W x) ?_ ?_; (on_goal 1 => subst x); (on_goal 2 => (intro _; try clear_value x)))
       | (try clear_value x))
    | (with_reducible first | apply kept_setVgrp | apply kept_setLnk | apply kept_setvTo | apply kept_foldl)
    | (with_reducible first | (intro _; rfl) | apply kept_ite)
    | (intro _ _ _ _; try beta_reduce) | (intro _ _ _; try beta_reduce) | (intro _ _; try beta_reduce)
    | split | (clear_value *; split) | dsimp only

theorem kept_execAck {a1 : Nat} {a2 : Nat} (h : Kept W s) (_ : W.part .emit) (_ : W.part .gl)
    (_ : W.fld GL_CTRL.SSC_APPLY) (_ : W.fld GL_STAT.OUTSTANDING) (_ : W.fld GL_STAT.SEQ) (_ : W.fld GL_STAT.VREQ) :
    KeptO W (execAck a1 a2 s) := by
  unfold execAck
  repeat' first
    | with_reducible assumption
    | (extract_lets +onlyGivenNames x
       first
       | (refine kept_cut (P := Kept W x) ?_ ?_; (on_goal 1 => subst x); (on_goal 2 => (intro _; try clear_value x)))
       | (try clear_value x))
    | (with_reducible first | apply kept_quiet | apply kept_goodSlot | apply kept_setLnk | apply kept_setvTo)
    | (with_reducible first | apply kept_openReturn | apply kept_sscNext | apply keptO_next | (intro _; rfl))
    | (with_reducible first | apply kept_ite)
    | (intro _ _ _ _; try beta_reduce) | (intro _ _ _; try beta_reduce) | (intro _ _; try beta_reduce)
    | split | (clear_value *; split) | dsimp only

theorem kept_resendSetv {a2 : Nat} (h : Kept W s) (_ : W.part .emit) (_ : W.part .gl) :
    Kept W (State.resendSetv s a2) := by
  unfold State.resendSetv
  repeat' first
    | with_reducible assumption
    | (extract_lets +onlyGivenNames x
       first
       | (refine kept_cut (P := Kept W x) ?_ ?_; (on_goal 1 => subst x); (on_goal 2 => (intro _; try clear_value x)))
       | (try clear_value x))
    | (with_reducible first | apply kept_setLnk | apply kept_send | (intro _; rfl) | apply kept_ite)
    | (intro _ _ _ _; try beta_reduce) | (intro _ _ _; try beta_reduce) | (intro _ _; try beta_reduce)
    | split | (clear_value *; split) | dsimp only

theorem kept_resendSsc {a2 : Nat} (h : Kept W s) (_ : W.part .emit) (_ : W.part .gl) :
    Kept W (State.resendSsc s a2) := by
  unfold State.resendSsc
  repeat' first
    | with_reducible assumption
    | (extract_lets +onlyGivenNames x
       first
       | (refine kept_cut (P := Kept W x) ?_ ?_; (on_goal 1 => subst x); (on_goal 2 => (intro _; try clear_value x)))
       | (try clear_value x))
    | (with_reducible first | apply kept_setLnk | apply kept_send | (intro _; rfl) | apply kept_ite)
    | (intro _ _ _ _; try beta_reduce) | (intro _ _ _; try beta_reduce) | (intro _ _; try beta_reduce)
    | split | (clear_value *; split) | dsimp only

theorem kept_attemptFailed {a2 : Nat} {a3 : Bool} (h : Kept W s) (_ : W.part .emit) (_ : W.part .eng) (_ : W.part .gl)
    (_ : Logs W) (_ : W.fld (Evt.st .GL_LINK_FAULT)) (_ : W.fld GL_CTRL.SSC_APPLY) (_ : W.fld GL_ERR.NOACK)
    (_ : W.fld GL_FAULT.FAULT) (_ : W.fld GL_FAULT_CNT.FAULTS) (_ : W.fld GL_STAT.LSTATE)
    (_ : W.fld GL_STAT.OUTSTANDING) (_ : W.fld GL_STAT.SEQ) (_ : W.fld GL_STAT.VREQ) :
    Kept W (State.attemptFailed s a2 a3) := by
  unfold State.attemptFailed
  repeat' first
    | with_reducible assumption
    | (extract_lets +onlyGivenNames x
       first
       | (refine kept_cut (P := Kept W x) ?_ ?_; (on_goal 1 => subst x); (on_goal 2 => (intro _; try clear_value x)))
       | (try clear_value x))
    | (with_reducible first | apply kept_inc | apply kept_linkFault | apply kept_resendSsc | apply kept_resendSetv)
    | (with_reducible first | (intro _; rfl) | apply kept_ite)
    | split | (clear_value *; split) | dsimp only

theorem kept_execAckTimeout {a1 : TimeoutIn} (h : Kept W s) (_ : W.part .emit) (_ : W.part .eng)
    (_ : W.part .gl) (_ : Logs W) (_ : W.fld (Evt.st .GL_LINK_FAULT)) (_ : W.fld GL_CTRL.SSC_APPLY)
    (_ : W.fld GL_ERR.NOACK) (_ : W.fld GL_FAULT.FAULT) (_ : W.fld GL_FAULT_CNT.FAULTS) (_ : W.fld GL_STAT.LSTATE)
    (_ : W.fld GL_STAT.OUTSTANDING) (_ : W.fld GL_STAT.SEQ) (_ : W.fld GL_STAT.VREQ) :
    KeptO W (execAckTimeout a1 s) := by
  unfold execAckTimeout
  repeat' first
    | with_reducible assumption
    | (extract_lets +onlyGivenNames x
       first
       | (refine kept_cut (P := Kept W x) ?_ ?_; (on_goal 1 => subst x); (on_goal 2 => (intro _; try clear_value x)))
       | (try clear_value x))
    | (with_reducible first | apply kept_quiet | apply kept_attemptFailed | apply keptO_next | (intro _; rfl))
    | (with_reducible first | apply kept_ite)
    | split | (clear_value *; split) | dsimp only

theorem kept_resumeLink {a2 : Nat} (h : Kept W s) (_ : W.part .emit) (_ : W.part .gl) :
    Kept W (State.resumeLink s a2) := by
  unfold State.resumeLink
  repeat' first
    | with_reducible assumption
    | (extract_lets +onlyGivenNames x
       first
       | (refine kept_cut (P := Kept W x) ?_ ?_; (on_goal 1 => subst x); (on_goal 2 => (intro _; try clear_value x)))
       | (try clear_value x))
    | (with_reducible first | apply kept_resendSetv | apply kept_resendSsc | (intro _; rfl) | apply kept_ite)
    | split | (clear_value *; split) | dsimp only

theorem kept_resumeLinks (h : Kept W s) (_ : W.part .emit) (_ : W.part .gl) (_ : W.fld GL_CTRL.SSC_APPLY)
    (_ : W.fld GL_STAT.OUTSTANDING) (_ : W.fld GL_STAT.SEQ) (_ : W.fld GL_STAT.VREQ) :
    Kept W (State.resumeLinks s) := by
  unfold State.resumeLinks
  repeat' first
    | with_reducible assumption
    | (extract_lets +onlyGivenNames x
       first
       | (refine kept_cut (P := Kept W x) ?_ ?_; (on_goal 1 => subst x); (on_goal 2 => (intro _; try clear_value x)))
       | (try clear_value x))
    | (with_reducible first | apply kept_resumeLink | apply kept_sendHeld | apply kept_sscCommit | apply kept_foldl)
    | (with_reducible first | (intro _; rfl) | apply kept_ite)
    | (intro _ _ _ _; try beta_reduce) | (intro _ _ _; try beta_reduce) | (intro _ _; try beta_reduce)
    | split | (clear_value *; split) | dsimp only

theorem kept_setvRejected {a2 : Nat} {a3 : Nat} (h : Kept W s) (_ : W.part .emit) (_ : W.part .gl) (_ : Logs W)
    (_ : W.fld (Evt.st .GL_NAK)) (_ : W.fld GL_STAT.OUTSTANDING) (_ : W.fld GL_STAT.SEQ) (_ : W.fld GL_STAT.VREQ) :
    Kept W (State.setvRejected s a2 a3) := by
  unfold State.setvRejected
  repeat' first
    | with_reducible assumption
    | (extract_lets +onlyGivenNames x
       first
       | (refine kept_cut (P := Kept W x) ?_ ?_; (on_goal 1 => subst x); (on_goal 2 => (intro _; try clear_value x)))
       | (try clear_value x))
    | (with_reducible first | apply kept_raiseLog | apply kept_setLnk | apply kept_wr | apply kept_setVgrp)
    | (with_reducible first | apply kept_openReturn | apply kept_checkEnd | (intro _; rfl) | apply kept_ite)
    | (intro _ _ _ _; try beta_reduce) | (intro _ _ _; try beta_reduce) | (intro _ _; try beta_reduce)
    | split | (clear_value *; split) | dsimp only

theorem kept_execNak {a1 : Nat} {a2 : Nat} (h : Kept W s) (_ : W.part .emit) (_ : W.part .eng) (_ : W.part .gl)
    (_ : Logs W) (_ : W.fld (Evt.st .GL_LINK_FAULT)) (_ : W.fld (Evt.st .GL_NAK)) (_ : W.fld GL_CTRL.SSC_APPLY)
    (_ : W.fld GL_ERR.NAK) (_ : W.fld GL_ERR.NOACK) (_ : W.fld GL_FAULT.FAULT) (_ : W.fld GL_FAULT_CNT.FAULTS)
    (_ : W.fld GL_STAT.LSTATE) (_ : W.fld GL_STAT.OUTSTANDING) (_ : W.fld GL_STAT.SEQ) (_ : W.fld GL_STAT.VREQ) :
    KeptO W (execNak a1 a2 s) := by
  unfold execNak
  repeat' first
    | with_reducible assumption
    | (extract_lets +onlyGivenNames x
       first
       | (refine kept_cut (P := Kept W x) ?_ ?_; (on_goal 1 => subst x); (on_goal 2 => (intro _; try clear_value x)))
       | (try clear_value x))
    | (with_reducible first | apply kept_quiet | apply kept_goodSlot | apply kept_inc | apply kept_attemptFailed)
    | (with_reducible first | apply kept_setvRejected | apply kept_raiseLog | apply kept_setLnk)
    | (with_reducible first | apply kept_sscCommit | apply keptO_next | (intro _; rfl) | apply kept_ite)
    | (intro _ _ _ _; try beta_reduce) | (intro _ _ _; try beta_reduce) | (intro _ _; try beta_reduce)
    | split | (clear_value *; split) | dsimp only

theorem kept_execDone {a1 : Nat} {a2 : Nat} (h : Kept W s) (_ : W.part .emit) (_ : W.part .gl)
    (_ : W.fld GL_STAT.OUTSTANDING) (_ : W.fld GL_STAT.SEQ) (_ : W.fld GL_STAT.VDONE) (_ : W.fld GL_STAT.VREQ) :
    KeptO W (execDone a1 a2 s) := by
  unfold execDone
  repeat' first
    | with_reducible assumption
    | (extract_lets +onlyGivenNames x
       first
       | (refine kept_cut (P := Kept W x) ?_ ?_; (on_goal 1 => subst x); (on_goal 2 => (intro _; try clear_value x)))
       | (try clear_value x))
    | (with_reducible first | apply kept_quiet | apply kept_goodSlot | apply kept_wr | apply kept_setLnk)
    | (with_reducible first | apply kept_checkEnd | apply kept_setVgrp | apply keptO_next | (intro _; rfl))
    | (with_reducible first | apply kept_ite)
    | (intro _ _ _ _; try beta_reduce) | (intro _ _ _; try beta_reduce) | (intro _ _; try beta_reduce)
    | split | (clear_value *; split) | dsimp only

theorem kept_execDoneDeadline {a1 : Nat} (h : Kept W s) (_ : W.part .emit) (_ : W.part .eng) (_ : W.part .gl)
    (_ : Logs W) (_ : W.fld (Evt.st .GL_DONE_LATE)) (_ : W.fld (Evt.st .GL_LINK_FAULT)) (_ : W.fld GL_CTRL.SSC_APPLY)
    (_ : W.fld GL_ERR.DONE_LATE) (_ : W.fld GL_FAULT.FAULT) (_ : W.fld GL_FAULT_CNT.FAULTS) (_ : W.fld GL_STAT.LSTATE)
    (_ : W.fld GL_STAT.OUTSTANDING) (_ : W.fld GL_STAT.SEQ) (_ : W.fld GL_STAT.VREQ) :
    KeptO W (execDoneDeadline a1 s) := by
  unfold execDoneDeadline
  repeat' first
    | with_reducible assumption
    | (extract_lets +onlyGivenNames x
       first
       | (refine kept_cut (P := Kept W x) ?_ ?_; (on_goal 1 => subst x); (on_goal 2 => (intro _; try clear_value x)))
       | (try clear_value x))
    | (with_reducible first | apply kept_quiet | apply kept_raise | apply kept_inc | apply kept_setLnk)
    | (with_reducible first | apply kept_linkFault | apply kept_checkEnd | apply kept_sendQuery | apply keptO_next)
    | (with_reducible first | (intro _; rfl) | apply kept_ite)
    | split | (clear_value *; split) | dsimp only

theorem kept_statusReply {a2 : Nat} {a3 : Nat} (h : Kept W s) (_ : W.part .cmd) (_ : W.part .gl) (_ : W.part .rim)
    (_ : Logs W) (_ : W.fld (Evt.st .GL_ALERT_SRC)) (_ : W.fld (Evt.st .RIM_FORCED_OFF)) (_ : W.fld REST_MASK.WAKE)
    (_ : W.fld RG_STAT.RAMPS) (_ : W.fld SWD_STAT.FORCED) (_ : W.fld SWD_STAT.PEND) (_ : W.fld SWD_STAT.WAIT_SLOT) :
    Kept W (State.statusReply s a2 a3) := by
  unfold State.statusReply
  repeat' first
    | with_reducible assumption
    | (extract_lets +onlyGivenNames x
       first
       | (refine kept_cut (P := Kept W x) ?_ ?_; (on_goal 1 => subst x); (on_goal 2 => (intro _; try clear_value x)))
       | (try clear_value x))
    | (with_reducible first | apply kept_setLnk | apply kept_setVgrp | apply kept_raiseLog | apply kept_setGl)
    | (with_reducible first | apply kept_forceOffAll | (intro _; rfl) | apply kept_ite)
    | (intro _ _ _ _; try beta_reduce) | (intro _ _ _; try beta_reduce) | (intro _ _; try beta_reduce)
    | split | (clear_value *; split) | dsimp only

theorem kept_queryReply {a2 : Nat} {a3 : Nat} {a4 : Nat} (h : Kept W s) (_ : W.part .cmd) (_ : W.part .emit)
    (_ : W.part .eng) (_ : W.part .gl) (_ : W.part .rim) (_ : Logs W) (_ : W.fld (Evt.st .GL_ALERT_SRC))
    (_ : W.fld (Evt.st .GL_LINK_FAULT)) (_ : W.fld (Evt.st .RIM_FORCED_OFF)) (_ : W.fld GL_CTRL.RETRAIN)
    (_ : W.fld GL_CTRL.SSC_APPLY) (_ : W.fld GL_FAULT.FAULT) (_ : W.fld GL_FAULT_CNT.FAULTS)
    (_ : W.fld GL_STAT.LSTATE) (_ : W.fld GL_STAT.OUTSTANDING) (_ : W.fld GL_STAT.SEQ) (_ : W.fld GL_STAT.VDONE)
    (_ : W.fld GL_STAT.VREQ) (_ : W.fld REST_MASK.WAKE) (_ : W.fld RG_STAT.RAMPS) (_ : W.fld SWD_STAT.FORCED)
    (_ : W.fld SWD_STAT.PEND) (_ : W.fld SWD_STAT.WAIT_SLOT) : Kept W (State.queryReply s a2 a3 a4) := by
  unfold State.queryReply
  repeat' first
    | with_reducible assumption
    | (extract_lets +onlyGivenNames x
       first
       | (refine kept_cut (P := Kept W x) ?_ ?_; (on_goal 1 => subst x); (on_goal 2 => (intro _; try clear_value x)))
       | (try clear_value x))
    | (with_reducible first | apply kept_setLnk | apply kept_sendQuery | apply kept_linkFault | apply kept_trainEnd)
    | (with_reducible first | apply kept_wr | apply kept_linkUp | apply kept_statusReply | (intro _; rfl))
    | (with_reducible first | apply kept_ite)
    | (intro _ _ _ _; try beta_reduce) | (intro _ _ _; try beta_reduce) | (intro _ _; try beta_reduce)
    | split | (clear_value *; split) | dsimp only

theorem kept_execTelem {a1 : Nat} {a2 : Nat} {a3 : Bool} (h : Kept W s) (_ : W.part .cmd) (_ : W.part .emit)
    (_ : W.part .eng) (_ : W.part .gl) (_ : W.part .rim) (_ : Logs W) (_ : W.fld (Evt.st .GL_ALERT_SRC))
    (_ : W.fld (Evt.st .GL_LINK_FAULT)) (_ : W.fld (Evt.st .GL_RXERR)) (_ : W.fld (Evt.st .RIM_FORCED_OFF))
    (_ : W.fld GL_CTRL.RETRAIN) (_ : W.fld GL_CTRL.SSC_APPLY) (_ : W.fld GL_ERR.RXERR) (_ : W.fld GL_FAULT.FAULT)
    (_ : W.fld GL_FAULT_CNT.FAULTS) (_ : W.fld GL_STAT.LSTATE) (_ : W.fld GL_STAT.OUTSTANDING) (_ : W.fld GL_STAT.SEQ)
    (_ : W.fld GL_STAT.VDONE) (_ : W.fld GL_STAT.VREQ) (_ : W.fld GL_TEL0.I_SUM) (_ : W.fld GL_TEL0.TEMP)
    (_ : W.fld GL_TEL1.VIN) (_ : W.fld REST_MASK.WAKE) (_ : W.fld RG_STAT.RAMPS) (_ : W.fld SWD_STAT.FORCED)
    (_ : W.fld SWD_STAT.PEND) (_ : W.fld SWD_STAT.WAIT_SLOT) : KeptO W (execTelem a1 a2 a3 s) := by
  unfold execTelem
  repeat' first
    | with_reducible assumption
    | (extract_lets +onlyGivenNames x
       first
       | (refine kept_cut (P := Kept W x) ?_ ?_; (on_goal 1 => subst x); (on_goal 2 => (intro _; try clear_value x)))
       | (try clear_value x))
    | (with_reducible first | apply kept_quiet | apply kept_goodSlot | apply kept_wr | apply kept_setLnk)
    | (with_reducible first | apply kept_inc | apply kept_raise | apply kept_queryReply | apply keptO_next)
    | (with_reducible first | (intro _; rfl) | apply kept_ite)
    | (intro _ _ _ _; try beta_reduce) | (intro _ _ _; try beta_reduce) | (intro _ _; try beta_reduce)
    | split | (clear_value *; split) | dsimp only

theorem kept_telemTick (h : Kept W s) (_ : W.part .gl) (_ : Logs W) (_ : W.fld (Evt.st .GL_RXERR))
    (_ : W.fld GL_ERR.RXERR) : Kept W (State.telemTick s) := by
  unfold State.telemTick
  repeat' first
    | with_reducible assumption
    | (extract_lets +onlyGivenNames x
       first
       | (refine kept_cut (P := Kept W x) ?_ ?_; (on_goal 1 => subst x); (on_goal 2 => (intro _; try clear_value x)))
       | (try clear_value x))
    | (with_reducible first | apply kept_setLnk | apply kept_inc | apply kept_raise | apply kept_foldl)
    | (with_reducible first | (intro _; rfl) | apply kept_ite)
    | (intro _ _ _ _; try beta_reduce) | (intro _ _ _; try beta_reduce) | (intro _ _; try beta_reduce)
    | split | (clear_value *; split) | dsimp only

theorem kept_alertResponse (h : Kept W s) (_ : W.part .emit) (_ : W.part .gl) (_ : W.part .spk) :
    Kept W (State.alertResponse s) := by
  unfold State.alertResponse
  repeat' first
    | with_reducible assumption
    | (extract_lets +onlyGivenNames x
       first
       | (refine kept_cut (P := Kept W x) ?_ ?_; (on_goal 1 => subst x); (on_goal 2 => (intro _; try clear_value x)))
       | (try clear_value x))
    | (with_reducible first | apply kept_setSpk | apply kept_setGl | apply kept_sendQuery | apply kept_foldl)
    | (with_reducible first | (intro _; rfl) | apply kept_ite)
    | (intro _ _ _ _; try beta_reduce) | (intro _ _ _; try beta_reduce) | (intro _ _; try beta_reduce)
    | split | (clear_value *; split) | dsimp only

theorem kept_execAlertSourceTimeout (h : Kept W s) (_ : W.part .emit) (_ : W.part .gl) (_ : Logs W)
    (_ : W.fld (Evt.st .GL_ALERT_UNKNOWN)) : KeptO W (execAlertSourceTimeout s) := by
  unfold execAlertSourceTimeout
  repeat' first
    | with_reducible assumption
    | (extract_lets +onlyGivenNames x
       first
       | (refine kept_cut (P := Kept W x) ?_ ?_; (on_goal 1 => subst x); (on_goal 2 => (intro _; try clear_value x)))
       | (try clear_value x))
    | (with_reducible first | apply kept_quiet | apply kept_raise | apply kept_setGl | apply keptO_next)
    | (with_reducible first | (intro _; rfl) | apply kept_ite)
    | split | (clear_value *; split) | dsimp only

theorem kept_execAlertHoldExpiry (h : Kept W s) (_ : W.part .emit) (_ : W.part .gl) :
    KeptO W (execAlertHoldExpiry s) := by
  unfold execAlertHoldExpiry
  repeat' first
    | with_reducible assumption
    | (extract_lets +onlyGivenNames x
       first
       | (refine kept_cut (P := Kept W x) ?_ ?_; (on_goal 1 => subst x); (on_goal 2 => (intro _; try clear_value x)))
       | (try clear_value x))
    | (with_reducible first | apply kept_quiet | apply kept_setGl | apply keptO_next | (intro _; rfl))
    | (with_reducible first | apply kept_ite)
    | split | (clear_value *; split) | dsimp only

theorem kept_shutRecovery (h : Kept W s) (_ : W.part .cmd) (_ : W.part .emit) (_ : W.part .gl) (_ : W.part .rim)
    (_ : W.fld SWD_STAT.PEND) : Kept W (State.shutRecovery s) := by
  unfold State.shutRecovery
  repeat' first
    | with_reducible assumption
    | (extract_lets +onlyGivenNames x
       first
       | (refine kept_cut (P := Kept W x) ?_ ?_; (on_goal 1 => subst x); (on_goal 2 => (intro _; try clear_value x)))
       | (try clear_value x))
    | (with_reducible first | apply kept_sendQuery | apply kept_setGl | apply kept_requestOn | apply kept_foldl)
    | (with_reducible first | (intro _; rfl) | apply kept_ite)
    | (intro _ _ _ _; try beta_reduce) | (intro _ _ _; try beta_reduce) | (intro _ _; try beta_reduce)
    | split | (clear_value *; split) | dsimp only

theorem kept_execTrainDone {a1 : Nat} {a2 : List Bool} (h : Kept W s) (_ : W.part .emit) (_ : W.part .eng)
    (_ : W.part .gl) (_ : Logs W) (_ : W.fld (Evt.st .GL_LINK_FAULT)) (_ : W.fld GL_CFG.SMP_PH)
    (_ : W.fld GL_CTRL.RETRAIN) (_ : W.fld GL_CTRL.SSC_APPLY) (_ : W.fld GL_FAULT.FAULT)
    (_ : W.fld GL_FAULT_CNT.FAULTS) (_ : W.fld GL_STAT.LSTATE) (_ : W.fld GL_STAT.OUTSTANDING) (_ : W.fld GL_STAT.SEQ)
    (_ : W.fld GL_STAT.VREQ) : KeptO W (execTrainDone a1 a2 s) := by
  unfold execTrainDone
  repeat' first
    | with_reducible assumption
    | (extract_lets +onlyGivenNames x
       first
       | (refine kept_cut (P := Kept W x) ?_ ?_; (on_goal 1 => subst x); (on_goal 2 => (intro _; try clear_value x)))
       | (try clear_value x))
    | (with_reducible first | apply kept_quiet | apply kept_setLnk | apply kept_trainEnd | apply kept_linkFault)
    | (with_reducible first | apply kept_sendQuery | apply kept_wr | apply keptO_next | (intro _; rfl))
    | (with_reducible first | apply kept_ite)
    | split | (clear_value *; split) | dsimp only

theorem kept_execQueryTimeout {a1 : Nat} (h : Kept W s) (_ : W.part .emit) (_ : W.part .eng) (_ : W.part .gl)
    (_ : Logs W) (_ : W.fld (Evt.st .GL_LINK_FAULT)) (_ : W.fld GL_CTRL.RETRAIN) (_ : W.fld GL_CTRL.SSC_APPLY)
    (_ : W.fld GL_FAULT.FAULT) (_ : W.fld GL_FAULT_CNT.FAULTS) (_ : W.fld GL_STAT.LSTATE)
    (_ : W.fld GL_STAT.OUTSTANDING) (_ : W.fld GL_STAT.SEQ) (_ : W.fld GL_STAT.VREQ) :
    KeptO W (execQueryTimeout a1 s) := by
  unfold execQueryTimeout
  repeat' first
    | with_reducible assumption
    | (extract_lets +onlyGivenNames x
       first
       | (refine kept_cut (P := Kept W x) ?_ ?_; (on_goal 1 => subst x); (on_goal 2 => (intro _; try clear_value x)))
       | (try clear_value x))
    | (with_reducible first | apply kept_quiet | apply kept_trainEnd | apply kept_linkFault | apply keptO_next)
    | (with_reducible first | (intro _; rfl) | apply kept_ite)
    | split | (clear_value *; split) | dsimp only

theorem kept_execLinkSuspect {a1 : Nat} (h : Kept W s) (_ : W.part .emit) (_ : W.part .gl) (_ : W.fld GL_STAT.LSTATE)
    : KeptO W (execLinkSuspect a1 s) := by
  unfold execLinkSuspect
  repeat' first
    | with_reducible assumption
    | (extract_lets +onlyGivenNames x
       first
       | (refine kept_cut (P := Kept W x) ?_ ?_; (on_goal 1 => subst x); (on_goal 2 => (intro _; try clear_value x)))
       | (try clear_value x))
    | (with_reducible first | apply kept_quiet | apply kept_setLnk | apply kept_wr | apply keptO_next)
    | (with_reducible first | (intro _; rfl) | apply kept_ite)
    | split | (clear_value *; split) | dsimp only

theorem kept_execLinkRecover {a1 : Nat} (h : Kept W s) (_ : W.part .emit) (_ : W.part .gl)
    (_ : W.fld GL_CTRL.SSC_APPLY) (_ : W.fld GL_STAT.LSTATE) (_ : W.fld GL_STAT.OUTSTANDING) (_ : W.fld GL_STAT.SEQ)
    (_ : W.fld GL_STAT.VREQ) : KeptO W (execLinkRecover a1 s) := by
  unfold execLinkRecover
  repeat' first
    | with_reducible assumption
    | (extract_lets +onlyGivenNames x
       first
       | (refine kept_cut (P := Kept W x) ?_ ?_; (on_goal 1 => subst x); (on_goal 2 => (intro _; try clear_value x)))
       | (try clear_value x))
    | (with_reducible first | apply kept_quiet | apply kept_wr | apply kept_setLnk | apply kept_resumeLink)
    | (with_reducible first | apply kept_sscIfDue | apply kept_sscCommit | apply kept_sendHeld | apply keptO_next)
    | (with_reducible first | (intro _; rfl) | apply kept_ite)
    | (intro _ _ _ _; try beta_reduce) | (intro _ _ _; try beta_reduce) | (intro _ _; try beta_reduce)
    | split | (clear_value *; split) | dsimp only

theorem kept_execLinkFault {a1 : Nat} (h : Kept W s) (_ : W.part .emit) (_ : W.part .eng) (_ : W.part .gl)
    (_ : Logs W) (_ : W.fld (Evt.st .GL_LINK_FAULT)) (_ : W.fld GL_CTRL.SSC_APPLY) (_ : W.fld GL_FAULT.FAULT)
    (_ : W.fld GL_FAULT_CNT.FAULTS) (_ : W.fld GL_STAT.LSTATE) (_ : W.fld GL_STAT.OUTSTANDING) (_ : W.fld GL_STAT.SEQ)
    (_ : W.fld GL_STAT.VREQ) : KeptO W (execLinkFault a1 s) := by
  unfold execLinkFault
  repeat' first
    | with_reducible assumption
    | (extract_lets +onlyGivenNames x
       first
       | (refine kept_cut (P := Kept W x) ?_ ?_; (on_goal 1 => subst x); (on_goal 2 => (intro _; try clear_value x)))
       | (try clear_value x))
    | (with_reducible first | apply kept_quiet | apply kept_linkFault | apply keptO_next | (intro _; rfl))
    | (with_reducible first | apply kept_ite)
    | split | (clear_value *; split) | dsimp only

theorem kept_execFaultRetrain {a1 : Nat} (h : Kept W s) (_ : W.part .emit) (_ : W.part .gl) (_ : W.fld GL_FAULT.FAULT)
    (_ : W.fld GL_STAT.LSTATE) : KeptO W (execFaultRetrain a1 s) := by
  unfold execFaultRetrain
  repeat' first
    | with_reducible assumption
    | (extract_lets +onlyGivenNames x
       first
       | (refine kept_cut (P := Kept W x) ?_ ?_; (on_goal 1 => subst x); (on_goal 2 => (intro _; try clear_value x)))
       | (try clear_value x))
    | (with_reducible first | apply kept_quiet | apply kept_enterTrain | apply keptO_next | (intro _; rfl))
    | (with_reducible first | apply kept_ite)
    | split | (clear_value *; split) | dsimp only

theorem kept_retrain (h : Kept W s) (_ : W.part .emit) (_ : W.part .gl) (_ : W.fld GL_CTRL.RETRAIN)
    (_ : W.fld GL_FAULT.FAULT) (_ : W.fld GL_STAT.LSTATE) : Kept W (State.retrain s) := by
  unfold State.retrain
  repeat' first
    | with_reducible assumption
    | (extract_lets +onlyGivenNames x
       first
       | (refine kept_cut (P := Kept W x) ?_ ?_; (on_goal 1 => subst x); (on_goal 2 => (intro _; try clear_value x)))
       | (try clear_value x))
    | (with_reducible first | apply kept_enterTrain | apply kept_trainEnd | apply kept_foldl | (intro _; rfl))
    | (with_reducible first | apply kept_ite)
    | (intro _ _ _ _; try beta_reduce) | (intro _ _ _; try beta_reduce) | (intro _ _; try beta_reduce)
    | split | (clear_value *; split) | dsimp only

theorem kept_execReceiveError {a1 : Nat} {a2 : Nat} (h : Kept W s) (_ : W.part .emit) (_ : W.part .gl) (_ : Logs W)
    (_ : W.fld (Evt.st .GL_RXERR)) (_ : W.fld GL_ERR.RXERR) : KeptO W (execReceiveError a1 a2 s) := by
  unfold execReceiveError
  repeat' first
    | with_reducible assumption
    | (extract_lets +onlyGivenNames x
       first
       | (refine kept_cut (P := Kept W x) ?_ ?_; (on_goal 1 => subst x); (on_goal 2 => (intro _; try clear_value x)))
       | (try clear_value x))
    | (with_reducible first | apply kept_quiet | apply kept_inc | apply kept_raise | apply kept_setLnk)
    | (with_reducible first | apply kept_goodSlot | apply keptO_next | (intro _; rfl) | apply kept_ite)
    | (intro _ _ _ _; try beta_reduce) | (intro _ _ _; try beta_reduce) | (intro _ _; try beta_reduce)
    | split | (clear_value *; split) | dsimp only

end Sys2Proof.Machine
end

