-- ==== Sys2Proof/Laws/KeptEngine.lean ====
section
/-! SUPPORT. What the operations of `Engine.lean` keep (see `Kept.lean`). -/

set_option linter.unusedVariables false
set_option linter.unusedTactic false
set_option linter.unreachableTactic false
set_option linter.tactic.unusedName false

namespace Sys2Proof.Machine

variable {W : Bounds} {s : State}

theorem kept_setLane {a2 : Nat} {a3 : Lane → Lane} (h : Kept W s) (_ : W.part .eng) :
    Kept W (State.setLane s a2 a3) := by
  unfold State.setLane
  repeat' first
    | with_reducible assumption
    | (extract_lets +onlyGivenNames x
       first
       | (refine kept_cut (P := Kept W x) ?_ ?_; (on_goal 1 => subst x); (on_goal 2 => (intro _; try clear_value x)))
       | (try clear_value x))
    | (with_reducible first | apply kept_setEng | (intro _; rfl) | apply kept_ite)
    | split | (clear_value *; split) | dsimp only

theorem kept_setBank {a2 : Nat} {a3 : Bank → Bank} (h : Kept W s) (_ : W.part .eng) :
    Kept W (State.setBank s a2 a3) := by
  unfold State.setBank
  repeat' first
    | with_reducible assumption
    | (extract_lets +onlyGivenNames x
       first
       | (refine kept_cut (P := Kept W x) ?_ ?_; (on_goal 1 => subst x); (on_goal 2 => (intro _; try clear_value x)))
       | (try clear_value x))
    | (with_reducible first | apply kept_setEng | (intro _; rfl) | apply kept_ite)
    | split | (clear_value *; split) | dsimp only

theorem kept_showCodes {a2 : SelOut} (h : Kept W s) (_ : W.fld ENG_SEL.LNK) (_ : W.fld ENG_SEL.SEC)
    (_ : W.fld ENG_SEL.STK) : Kept W (State.showCodes s a2) := by
  unfold State.showCodes
  repeat' first
    | with_reducible assumption
    | (extract_lets +onlyGivenNames x
       first
       | (refine kept_cut (P := Kept W x) ?_ ?_; (on_goal 1 => subst x); (on_goal 2 => (intro _; try clear_value x)))
       | (try clear_value x))
    | (with_reducible first | apply kept_wrB | apply kept_wr | (intro _; rfl) | apply kept_ite)
    | split | (clear_value *; split) | dsimp only

theorem kept_publishSel {a2 : SelOut} (h : Kept W s) (_ : W.part .eng) (_ : W.fld ENG_SEL.LNK) (_ : W.fld ENG_SEL.SEC)
    (_ : W.fld ENG_SEL.STK) : Kept W (State.publishSel s a2) := by
  unfold State.publishSel
  repeat' first
    | with_reducible assumption
    | (extract_lets +onlyGivenNames x
       first
       | (refine kept_cut (P := Kept W x) ?_ ?_; (on_goal 1 => subst x); (on_goal 2 => (intro _; try clear_value x)))
       | (try clear_value x))
    | (with_reducible first | apply kept_showCodes | apply kept_setEng | (intro _; rfl) | apply kept_ite)
    | split | (clear_value *; split) | dsimp only

theorem kept_showSector {a2 : Nat → Int} {a3 : Nat} {a4 : Nat → Nat} {a5 : Sel} {a6 : Nat} (h : Kept W s)
    (_ : W.fld ENG_CAND.CAP) (_ : W.fld ENG_CAND.CUR) (_ : W.fld ENG_CAND.HINT) (_ : W.fld ENG_CAND.THM)
    (_ : W.fld ENG_OUT.FLOOR) (_ : W.fld ENG_OUT.OUT) (_ : W.fld ENG_OUT.PERF) (_ : W.fld ENG_OUT.SAFE) :
    Kept W (State.showSector s a2 a3 a4 a5 a6) := by
  unfold State.showSector
  repeat' first
    | with_reducible assumption
    | (extract_lets +onlyGivenNames x
       first
       | (refine kept_cut (P := Kept W x) ?_ ?_; (on_goal 1 => subst x); (on_goal 2 => (intro _; try clear_value x)))
       | (try clear_value x))
    | (with_reducible first | apply kept_wr | (intro _; rfl) | apply kept_ite)
    | split | (clear_value *; split) | dsimp only

theorem kept_publishArea (h : Kept W s) (_ : W.part .eng) (_ : W.fld ENG_CAND.CAP) (_ : W.fld ENG_CAND.CUR)
    (_ : W.fld ENG_CAND.HINT) (_ : W.fld ENG_CAND.THM) (_ : W.fld ENG_LCAND.LINK8) (_ : W.fld ENG_LCAND.LINK9)
    (_ : W.fld ENG_LCAND.STACK) (_ : W.fld ENG_OUT.FLOOR) (_ : W.fld ENG_OUT.OUT) (_ : W.fld ENG_OUT.PERF)
    (_ : W.fld ENG_OUT.SAFE) (_ : W.fld ENG_SEL.LNK) (_ : W.fld ENG_SEL.SEC) (_ : W.fld ENG_SEL.STK)
    (_ : W.fld TH_VAL.EST) : Kept W (State.publishArea s) := by
  unfold State.publishArea
  repeat' first
    | with_reducible assumption
    | (extract_lets +onlyGivenNames x
       first
       | (refine kept_cut (P := Kept W x) ?_ ?_; (on_goal 1 => subst x); (on_goal 2 => (intro _; try clear_value x)))
       | (try clear_value x))
    | (with_reducible first | apply kept_showSector | apply kept_wr | apply kept_wrS | apply kept_publishSel)
    | (with_reducible first | apply kept_upTo | apply kept_foldl | (intro _; rfl) | apply kept_ite)
    | (intro _ _ _ _; try beta_reduce) | (intro _ _ _; try beta_reduce) | (intro _ _; try beta_reduce)
    | split | (clear_value *; split) | dsimp only

theorem kept_safeCands (h : Kept W s) (_ : W.fld ENG_CAND.CAP) (_ : W.fld ENG_CAND.CUR) (_ : W.fld ENG_CAND.THM)
    (_ : W.fld ENG_LCAND.LINK8) (_ : W.fld ENG_LCAND.LINK9) (_ : W.fld ENG_LCAND.STACK) (_ : W.fld ENG_SEL.LNK)
    (_ : W.fld ENG_SEL.SEC) (_ : W.fld ENG_SEL.STK) : Kept W (State.safeCands s) := by
  unfold State.safeCands
  repeat' first
    | with_reducible assumption
    | (extract_lets +onlyGivenNames x
       first
       | (refine kept_cut (P := Kept W x) ?_ ?_; (on_goal 1 => subst x); (on_goal 2 => (intro _; try clear_value x)))
       | (try clear_value x))
    | (with_reducible first | apply kept_wr | apply kept_showCodes | apply kept_upTo | (intro _; rfl))
    | (with_reducible first | apply kept_ite)
    | (intro _ _ _ _; try beta_reduce) | (intro _ _ _; try beta_reduce) | (intro _ _; try beta_reduce)
    | split | (clear_value *; split) | dsimp only

theorem kept_safeSel (h : Kept W s) (_ : W.part .eng) (_ : W.fld ENG_CAND.CAP) (_ : W.fld ENG_CAND.CUR)
    (_ : W.fld ENG_CAND.HINT) (_ : W.fld ENG_CAND.THM) (_ : W.fld ENG_LCAND.LINK8) (_ : W.fld ENG_LCAND.LINK9)
    (_ : W.fld ENG_LCAND.STACK) (_ : W.fld ENG_OUT.FLOOR) (_ : W.fld ENG_OUT.OUT) (_ : W.fld ENG_OUT.PERF)
    (_ : W.fld ENG_OUT.SAFE) (_ : W.fld ENG_SEL.LNK) (_ : W.fld ENG_SEL.SEC) (_ : W.fld ENG_SEL.STK) :
    Kept W (State.safeSel s) := by
  unfold State.safeSel
  repeat' first
    | with_reducible assumption
    | (extract_lets +onlyGivenNames x
       first
       | (refine kept_cut (P := Kept W x) ?_ ?_; (on_goal 1 => subst x); (on_goal 2 => (intro _; try clear_value x)))
       | (try clear_value x))
    | (with_reducible first | apply kept_showSector | apply kept_wr | apply kept_publishSel | apply kept_upTo)
    | (with_reducible first | (intro _; rfl) | apply kept_ite)
    | (intro _ _ _ _; try beta_reduce) | (intro _ _ _; try beta_reduce) | (intro _ _; try beta_reduce)
    | split | (clear_value *; split) | dsimp only

theorem kept_followErrors (h : Kept W s) (_ : W.part .eng) : Kept W (State.followErrors s) := by
  unfold State.followErrors
  repeat' first
    | with_reducible assumption
    | (extract_lets +onlyGivenNames x
       first
       | (refine kept_cut (P := Kept W x) ?_ ?_; (on_goal 1 => subst x); (on_goal 2 => (intro _; try clear_value x)))
       | (try clear_value x))
    | (with_reducible first | apply kept_setEng | apply kept_upTo | (intro _; rfl) | apply kept_ite)
    | (intro _ _ _ _; try beta_reduce) | (intro _ _ _; try beta_reduce) | (intro _ _; try beta_reduce)
    | split | (clear_value *; split) | dsimp only

theorem kept_setTrace {a2 : Nat} {a3 : Trace → Trace} (h : Kept W s) (_ : W.part .eng) :
    Kept W (State.setTrace s a2 a3) := by
  unfold State.setTrace
  repeat' first
    | with_reducible assumption
    | (extract_lets +onlyGivenNames x
       first
       | (refine kept_cut (P := Kept W x) ?_ ?_; (on_goal 1 => subst x); (on_goal 2 => (intro _; try clear_value x)))
       | (try clear_value x))
    | (with_reducible first | apply kept_setEng | (intro _; rfl) | apply kept_ite)
    | split | (clear_value *; split) | dsimp only

theorem kept_drainBlockOf {a2 : Nat} {a3 : Nat} (h : Kept W s) (_ : W.part .fw) (_ : W.part .log) :
    Kept W (State.drainBlockOf s a2 a3) := by
  unfold State.drainBlockOf
  repeat' first
    | with_reducible assumption
    | (extract_lets +onlyGivenNames x
       first
       | (refine kept_cut (P := Kept W x) ?_ ?_; (on_goal 1 => subst x); (on_goal 2 => (intro _; try clear_value x)))
       | (try clear_value x))
    | (with_reducible first | apply kept_setFw | (intro _; rfl) | apply kept_ite)
    | split | (clear_value *; split) | dsimp only

theorem kept_abandonHalf {a2 : Nat} {a3 : Nat} (h : Kept W s) (_ : W.part .fw) (_ : W.part .log) (_ : Logs W)
    (_ : W.fld (Evt.st .FW_TRD_LOST)) (_ : W.fld TRD_STAT.LOST) : Kept W (State.abandonHalf s a2 a3) := by
  unfold State.abandonHalf
  repeat' first
    | with_reducible assumption
    | (extract_lets +onlyGivenNames x
       first
       | (refine kept_cut (P := Kept W x) ?_ ?_; (on_goal 1 => subst x); (on_goal 2 => (intro _; try clear_value x)))
       | (try clear_value x))
    | (with_reducible first | apply kept_setFw | apply kept_raise | apply kept_inc | apply kept_upTo | (intro _; rfl))
    | (with_reducible first | apply kept_ite)
    | (intro _ _ _ _; try beta_reduce) | (intro _ _ _; try beta_reduce) | (intro _ _; try beta_reduce)
    | split | (clear_value *; split) | dsimp only

theorem kept_traceStop {a2 : Nat} (h : Kept W s) (_ : W.part .fw) (_ : W.part .log) (_ : W.part .tasks)
    (_ : W.fld ENG_TR_STAT.STOPPED) : Kept W (State.traceStop s a2) := by
  unfold State.traceStop
  repeat' first
    | with_reducible assumption
    | (extract_lets +onlyGivenNames x
       first
       | (refine kept_cut (P := Kept W x) ?_ ?_; (on_goal 1 => subst x); (on_goal 2 => (intro _; try clear_value x)))
       | (try clear_value x))
    | (with_reducible first | apply kept_wr | apply kept_drainBlockOf | apply kept_trigger | (intro _; rfl))
    | (with_reducible first | apply kept_ite)
    | split | (clear_value *; split) | dsimp only

theorem kept_traceSample {a2 : Bool} {a3 : Nat} {a4 : Bool} {a5 : Bool} {a6 : Nat} (h : Kept W s) (_ : W.part .eng)
    (_ : W.part .fw) (_ : W.part .log) (_ : W.part .tasks) (_ : Logs W) (_ : W.fld (Evt.st .FW_TRD_LOST))
    (_ : W.fld ENG_TR_STAT.HALF) (_ : W.fld ENG_TR_STAT.STOPPED) (_ : W.fld ENG_TR_STAT.TRIGGERED)
    (_ : W.fld ENG_TR_STAT.TRIG_IDX) (_ : W.fld ENG_TR_STAT.WPTR) (_ : W.fld TRD_STAT.LOST) :
    Kept W (State.traceSample s a2 a3 a4 a5 a6) := by
  unfold State.traceSample
  repeat' first
    | with_reducible assumption
    | (extract_lets +onlyGivenNames x
       first
       | (refine kept_cut (P := Kept W x) ?_ ?_; (on_goal 1 => subst x); (on_goal 2 => (intro _; try clear_value x)))
       | (try clear_value x))
    | (with_reducible first | apply kept_abandonHalf | apply kept_setTrace | apply kept_wr | apply kept_drainBlockOf)
    | (with_reducible first | apply kept_trigger | apply kept_traceStop | (intro _; rfl) | apply kept_ite)
    | split | (clear_value *; split) | dsimp only

theorem kept_traceTick {a2 : Bool} (h : Kept W s) (_ : W.part .eng) (_ : W.part .fw) (_ : W.part .log)
    (_ : W.part .tasks) (_ : Logs W) (_ : W.fld (Evt.st .FW_TRD_LOST)) (_ : W.fld ENG_TR_STAT.HALF)
    (_ : W.fld ENG_TR_STAT.STOPPED) (_ : W.fld ENG_TR_STAT.TRIGGERED) (_ : W.fld ENG_TR_STAT.TRIG_IDX)
    (_ : W.fld ENG_TR_STAT.WPTR) (_ : W.fld TRD_STAT.LOST) : Kept W (State.traceTick s a2) := by
  unfold State.traceTick
  repeat' first
    | with_reducible assumption
    | (extract_lets +onlyGivenNames x
       first
       | (refine kept_cut (P := Kept W x) ?_ ?_; (on_goal 1 => subst x); (on_goal 2 => (intro _; try clear_value x)))
       | (try clear_value x))
    | (with_reducible first | apply kept_traceSample | apply kept_setEng | apply kept_foldl | (intro _; rfl))
    | (with_reducible first | apply kept_ite)
    | (intro _ _ _ _; try beta_reduce) | (intro _ _ _; try beta_reduce) | (intro _ _; try beta_reduce)
    | split | (clear_value *; split) | dsimp only

theorem kept_dumpEnd {a2 : Bool} (h : Kept W s) (_ : W.part .eng) (_ : W.fld ENG_DUMP_STAT.DIFF)
    (_ : W.fld ENG_DUMP_STAT.DONE) (_ : W.fld ENG_DUMP_STAT.HELD) (_ : W.fld ENG_DUMP_STAT.NOWRITE)
    (_ : W.fld ENG_DUMP_TICK.TICK) (_ : W.fld ENG_DUMP_VAL.VAL_A) (_ : W.fld ENG_DUMP_VAL.VAL_B) :
    Kept W (State.dumpEnd s a2) := by
  unfold State.dumpEnd
  repeat' first
    | with_reducible assumption
    | (extract_lets +onlyGivenNames x
       first
       | (refine kept_cut (P := Kept W x) ?_ ?_; (on_goal 1 => subst x); (on_goal 2 => (intro _; try clear_value x)))
       | (try clear_value x))
    | (with_reducible first | apply kept_wr | apply kept_wrB | apply kept_setEng | (intro _; rfl) | apply kept_ite)
    | split | (clear_value *; split) | dsimp only

theorem kept_commitLane {a2 : Nat} (h : Kept W s) (_ : W.part .eng) : Kept W (State.commitLane s a2) := by
  unfold State.commitLane
  repeat' first
    | with_reducible assumption
    | (extract_lets +onlyGivenNames x
       first
       | (refine kept_cut (P := Kept W x) ?_ ?_; (on_goal 1 => subst x); (on_goal 2 => (intro _; try clear_value x)))
       | (try clear_value x))
    | (with_reducible first | apply kept_setLane | apply kept_foldl | (intro _; rfl) | apply kept_ite)
    | (intro _ _ _ _; try beta_reduce) | (intro _ _ _; try beta_reduce) | (intro _ _; try beta_reduce)
    | split | (clear_value *; split) | dsimp only

theorem kept_engineOver {a2 : Nat} (h : Kept W s) (_ : W.part .cad) (_ : W.part .eng) (_ : W.part .fw)
    (_ : W.part .log) (_ : W.part .tasks) (_ : Logs W) (_ : W.fld (Evt.st .FW_TRD_LOST))
    (_ : W.fld ENG_DUMP_STAT.DIFF) (_ : W.fld ENG_DUMP_STAT.DONE) (_ : W.fld ENG_DUMP_STAT.HELD)
    (_ : W.fld ENG_DUMP_STAT.NOWRITE) (_ : W.fld ENG_DUMP_TICK.TICK) (_ : W.fld ENG_DUMP_VAL.VAL_A)
    (_ : W.fld ENG_DUMP_VAL.VAL_B) (_ : W.fld ENG_TR_STAT.HALF) (_ : W.fld ENG_TR_STAT.STOPPED)
    (_ : W.fld ENG_TR_STAT.TRIGGERED) (_ : W.fld ENG_TR_STAT.TRIG_IDX) (_ : W.fld ENG_TR_STAT.WPTR)
    (_ : W.fld TRD_STAT.LOST) : Kept W (State.engineOver s a2) := by
  unfold State.engineOver
  repeat' first
    | with_reducible assumption
    | (extract_lets +onlyGivenNames x
       first
       | (refine kept_cut (P := Kept W x) ?_ ?_; (on_goal 1 => subst x); (on_goal 2 => (intro _; try clear_value x)))
       | (try clear_value x))
    | (with_reducible first | apply kept_dumpEnd | apply kept_setEng | apply kept_setCad | apply kept_traceTick)
    | (with_reducible first | (intro _; rfl) | apply kept_ite)
    | split | (clear_value *; split) | dsimp only

theorem kept_engineFault {a2 : Nat} (h : Kept W s) (_ : W.part .eng) (_ : Logs W)
    (_ : W.fld (Evt.st .ENG_ENGINE_FAULT)) (_ : W.fld ENG_CAND.CAP) (_ : W.fld ENG_CAND.CUR) (_ : W.fld ENG_CAND.HINT)
    (_ : W.fld ENG_CAND.THM) (_ : W.fld ENG_LCAND.LINK8) (_ : W.fld ENG_LCAND.LINK9) (_ : W.fld ENG_LCAND.STACK)
    (_ : W.fld ENG_OUT.FLOOR) (_ : W.fld ENG_OUT.OUT) (_ : W.fld ENG_OUT.PERF) (_ : W.fld ENG_OUT.SAFE)
    (_ : W.fld ENG_SEL.LNK) (_ : W.fld ENG_SEL.SEC) (_ : W.fld ENG_SEL.STK) (_ : W.fld ENG_STAT.STATE) :
    Kept W (State.engineFault s a2) := by
  unfold State.engineFault
  repeat' first
    | with_reducible assumption
    | (extract_lets +onlyGivenNames x
       first
       | (refine kept_cut (P := Kept W x) ?_ ?_; (on_goal 1 => subst x); (on_goal 2 => (intro _; try clear_value x)))
       | (try clear_value x))
    | (with_reducible first | apply kept_setEng | apply kept_wr | apply kept_errRecord | apply kept_raise)
    | (with_reducible first | apply kept_safeSel | (intro _; rfl) | apply kept_ite)
    | split | (clear_value *; split) | dsimp only

theorem kept_disagree {a2 : Nat} {a3 : Nat} (h : Kept W s) (_ : W.part .cad) (_ : W.part .eng) (_ : W.part .fw)
    (_ : W.part .log) (_ : W.part .tasks) (_ : Logs W) (_ : W.fld (Evt.st .ENG_ENGINE_FAULT))
    (_ : W.fld (Evt.st .ENG_LANE_DIS)) (_ : W.fld (Evt.st .FW_TRD_LOST)) (_ : W.fld ENG_CAND.CAP)
    (_ : W.fld ENG_CAND.CUR) (_ : W.fld ENG_CAND.HINT) (_ : W.fld ENG_CAND.THM) (_ : W.fld ENG_CNT.LDIS)
    (_ : W.fld ENG_DUMP_STAT.DIFF) (_ : W.fld ENG_DUMP_STAT.DONE) (_ : W.fld ENG_DUMP_STAT.HELD)
    (_ : W.fld ENG_DUMP_STAT.NOWRITE) (_ : W.fld ENG_DUMP_TICK.TICK) (_ : W.fld ENG_DUMP_VAL.VAL_A)
    (_ : W.fld ENG_DUMP_VAL.VAL_B) (_ : W.fld ENG_LCAND.LINK8) (_ : W.fld ENG_LCAND.LINK9) (_ : W.fld ENG_LCAND.STACK)
    (_ : W.fld ENG_OUT.FLOOR) (_ : W.fld ENG_OUT.OUT) (_ : W.fld ENG_OUT.PERF) (_ : W.fld ENG_OUT.SAFE)
    (_ : W.fld ENG_SEL.LNK) (_ : W.fld ENG_SEL.SEC) (_ : W.fld ENG_SEL.STK) (_ : W.fld ENG_STAT.LD_RUN)
    (_ : W.fld ENG_STAT.STATE) (_ : W.fld ENG_TR_STAT.HALF) (_ : W.fld ENG_TR_STAT.STOPPED)
    (_ : W.fld ENG_TR_STAT.TRIGGERED) (_ : W.fld ENG_TR_STAT.TRIG_IDX) (_ : W.fld ENG_TR_STAT.WPTR)
    (_ : W.fld TRD_STAT.LOST) : Kept W (State.disagree s a2 a3) := by
  unfold State.disagree
  repeat' first
    | with_reducible assumption
    | (extract_lets +onlyGivenNames x
       first
       | (refine kept_cut (P := Kept W x) ?_ ?_; (on_goal 1 => subst x); (on_goal 2 => (intro _; try clear_value x)))
       | (try clear_value x))
    | (with_reducible first | apply kept_traceEvent | apply kept_raiseLog | apply kept_inc | apply kept_engineOver)
    | (with_reducible first | apply kept_wr | apply kept_engineFault | (intro _; rfl) | apply kept_ite)
    | split | (clear_value *; split) | dsimp only

theorem kept_engineOverrun (h : Kept W s) (_ : W.part .cad) (_ : W.part .eng) (_ : W.part .fw) (_ : W.part .log)
    (_ : W.part .tasks) (_ : Logs W) (_ : W.fld (Evt.st .CAD_ENG_OVR)) (_ : W.fld (Evt.st .FW_TRD_LOST))
    (_ : W.fld CAD_OVERRUN.ENG) (_ : W.fld ENG_DUMP_STAT.DIFF) (_ : W.fld ENG_DUMP_STAT.DONE)
    (_ : W.fld ENG_DUMP_STAT.HELD) (_ : W.fld ENG_DUMP_STAT.NOWRITE) (_ : W.fld ENG_DUMP_TICK.TICK)
    (_ : W.fld ENG_DUMP_VAL.VAL_A) (_ : W.fld ENG_DUMP_VAL.VAL_B) (_ : W.fld ENG_TR_STAT.HALF)
    (_ : W.fld ENG_TR_STAT.STOPPED) (_ : W.fld ENG_TR_STAT.TRIGGERED) (_ : W.fld ENG_TR_STAT.TRIG_IDX)
    (_ : W.fld ENG_TR_STAT.WPTR) (_ : W.fld TRD_STAT.LOST) : Kept W (State.engineOverrun s) := by
  unfold State.engineOverrun
  repeat' first
    | with_reducible assumption
    | (extract_lets +onlyGivenNames x
       first
       | (refine kept_cut (P := Kept W x) ?_ ?_; (on_goal 1 => subst x); (on_goal 2 => (intro _; try clear_value x)))
       | (try clear_value x))
    | (with_reducible first | apply kept_traceEvent | apply kept_raise | apply kept_inc | apply kept_setCad)
    | (with_reducible first | apply kept_engineOver | (intro _; rfl) | apply kept_ite)
    | split | (clear_value *; split) | dsimp only

theorem kept_leaveRamps (h : Kept W s) (_ : W.part .eng) : Kept W (State.leaveRamps s) := by
  unfold State.leaveRamps
  repeat' first
    | with_reducible assumption
    | (extract_lets +onlyGivenNames x
       first
       | (refine kept_cut (P := Kept W x) ?_ ?_; (on_goal 1 => subst x); (on_goal 2 => (intro _; try clear_value x)))
       | (try clear_value x))
    | (with_reducible first | apply kept_setEng | apply kept_upTo | (intro _; rfl) | apply kept_ite)
    | (intro _ _ _ _; try beta_reduce) | (intro _ _ _; try beta_reduce) | (intro _ _; try beta_reduce)
    | split | (clear_value *; split) | dsimp only

theorem kept_engineCommit (h : Kept W s) (_ : W.part .cad) (_ : W.part .eng) (_ : W.part .fw) (_ : W.part .log)
    (_ : W.part .tasks) (_ : Logs W) (_ : W.fld (Evt.st .FW_TRD_LOST)) (_ : W.fld ENG_CAND.CAP)
    (_ : W.fld ENG_CAND.CUR) (_ : W.fld ENG_CAND.HINT) (_ : W.fld ENG_CAND.THM) (_ : W.fld ENG_DUMP_STAT.DIFF)
    (_ : W.fld ENG_DUMP_STAT.DONE) (_ : W.fld ENG_DUMP_STAT.HELD) (_ : W.fld ENG_DUMP_STAT.NOWRITE)
    (_ : W.fld ENG_DUMP_TICK.TICK) (_ : W.fld ENG_DUMP_VAL.VAL_A) (_ : W.fld ENG_DUMP_VAL.VAL_B)
    (_ : W.fld ENG_LCAND.LINK8) (_ : W.fld ENG_LCAND.LINK9) (_ : W.fld ENG_LCAND.STACK) (_ : W.fld ENG_OUT.FLOOR)
    (_ : W.fld ENG_OUT.OUT) (_ : W.fld ENG_OUT.PERF) (_ : W.fld ENG_OUT.SAFE) (_ : W.fld ENG_SEL.LNK)
    (_ : W.fld ENG_SEL.SEC) (_ : W.fld ENG_SEL.STK) (_ : W.fld ENG_STAT.LD_RUN) (_ : W.fld ENG_TR_STAT.HALF)
    (_ : W.fld ENG_TR_STAT.STOPPED) (_ : W.fld ENG_TR_STAT.TRIGGERED) (_ : W.fld ENG_TR_STAT.TRIG_IDX)
    (_ : W.fld ENG_TR_STAT.WPTR) (_ : W.fld TH_VAL.EST) (_ : W.fld TRD_STAT.LOST) :
    Kept W (State.engineCommit s) := by
  unfold State.engineCommit
  repeat' first
    | with_reducible assumption
    | (extract_lets +onlyGivenNames x
       first
       | (refine kept_cut (P := Kept W x) ?_ ?_; (on_goal 1 => subst x); (on_goal 2 => (intro _; try clear_value x)))
       | (try clear_value x))
    | (with_reducible first | apply kept_dumpEnd | apply kept_commitLane | apply kept_publishArea)
    | (with_reducible first | apply kept_leaveRamps | apply kept_wr | apply kept_setEng | apply kept_followErrors)
    | (with_reducible first | apply kept_setCad | apply kept_traceTick | (intro _; rfl) | apply kept_ite)
    | split | (clear_value *; split) | dsimp only

theorem kept_engineCompare (h : Kept W s) (_ : W.part .cad) (_ : W.part .eng) (_ : W.part .fw) (_ : W.part .log)
    (_ : W.part .tasks) (_ : Logs W) (_ : W.fld (Evt.st .CAD_ENG_OVR)) (_ : W.fld (Evt.st .ENG_ENGINE_FAULT))
    (_ : W.fld (Evt.st .ENG_LANE_DIS)) (_ : W.fld (Evt.st .FW_TRD_LOST)) (_ : W.fld CAD_OVERRUN.ENG)
    (_ : W.fld ENG_CAND.CAP) (_ : W.fld ENG_CAND.CUR) (_ : W.fld ENG_CAND.HINT) (_ : W.fld ENG_CAND.THM)
    (_ : W.fld ENG_CNT.LDIS) (_ : W.fld ENG_DUMP_STAT.DIFF) (_ : W.fld ENG_DUMP_STAT.DONE)
    (_ : W.fld ENG_DUMP_STAT.HELD) (_ : W.fld ENG_DUMP_STAT.NOWRITE) (_ : W.fld ENG_DUMP_TICK.TICK)
    (_ : W.fld ENG_DUMP_VAL.VAL_A) (_ : W.fld ENG_DUMP_VAL.VAL_B) (_ : W.fld ENG_LCAND.LINK8)
    (_ : W.fld ENG_LCAND.LINK9) (_ : W.fld ENG_LCAND.STACK) (_ : W.fld ENG_OUT.FLOOR) (_ : W.fld ENG_OUT.OUT)
    (_ : W.fld ENG_OUT.PERF) (_ : W.fld ENG_OUT.SAFE) (_ : W.fld ENG_SEL.LNK) (_ : W.fld ENG_SEL.SEC)
    (_ : W.fld ENG_SEL.STK) (_ : W.fld ENG_STAT.LD_RUN) (_ : W.fld ENG_STAT.STATE) (_ : W.fld ENG_TR_STAT.HALF)
    (_ : W.fld ENG_TR_STAT.STOPPED) (_ : W.fld ENG_TR_STAT.TRIGGERED) (_ : W.fld ENG_TR_STAT.TRIG_IDX)
    (_ : W.fld ENG_TR_STAT.WPTR) (_ : W.fld TH_VAL.EST) (_ : W.fld TRD_STAT.LOST) :
    Kept W (State.engineCompare s) := by
  unfold State.engineCompare
  repeat' first
    | with_reducible assumption
    | (extract_lets +onlyGivenNames x
       first
       | (refine kept_cut (P := Kept W x) ?_ ?_; (on_goal 1 => subst x); (on_goal 2 => (intro _; try clear_value x)))
       | (try clear_value x))
    | (with_reducible first | apply kept_disagree | apply kept_engineOverrun | apply kept_engineCommit)
    | (with_reducible first | (intro _; rfl) | apply kept_ite)
    | split | (clear_value *; split) | dsimp only

theorem kept_runLane {a2 : Nat} {a3 : Nat} (h : Kept W s) (_ : W.part .eng) (_ : Logs W) (_ : W.fld (Evt.st .ENG_SAT))
    (_ : W.fld ENG_CNT.SAT) : Kept W (State.runLane s a2 a3) := by
  unfold State.runLane
  repeat' first
    | with_reducible assumption
    | (extract_lets +onlyGivenNames x
       first
       | (refine kept_cut (P := Kept W x) ?_ ?_; (on_goal 1 => subst x); (on_goal 2 => (intro _; try clear_value x)))
       | (try clear_value x))
    | (with_reducible first | apply kept_setLane | apply kept_traceEvent | apply kept_raise | apply kept_inc)
    | (with_reducible first | apply kept_upTo | (intro _; rfl) | apply kept_ite)
    | (intro _ _ _ _; try beta_reduce) | (intro _ _ _; try beta_reduce) | (intro _ _; try beta_reduce)
    | split | (clear_value *; split) | dsimp only

theorem kept_engineStep {a2 : Nat} {a3 : EngErr} (h : Kept W s) (_ : W.part .eng) (_ : Logs W)
    (_ : W.fld (Evt.st .ENG_SAT)) (_ : W.fld ENG_CNT.SAT) : Kept W (State.engineStep s a2 a3) := by
  unfold State.engineStep
  repeat' first
    | with_reducible assumption
    | (extract_lets +onlyGivenNames x
       first
       | (refine kept_cut (P := Kept W x) ?_ ?_; (on_goal 1 => subst x); (on_goal 2 => (intro _; try clear_value x)))
       | (try clear_value x))
    | (with_reducible first | apply kept_runLane | apply kept_setEng | (intro _; rfl) | apply kept_ite)
    | split | (clear_value *; split) | dsimp only

theorem kept_execNop {a1 : EngErr} (h : Kept W s) (_ : W.part .emit) (_ : W.part .eng) (_ : Logs W)
    (_ : W.fld (Evt.st .ENG_SAT)) (_ : W.fld ENG_CNT.SAT) : KeptO W (execNop a1 s) := by
  unfold execNop
  repeat' first
    | with_reducible assumption
    | (extract_lets +onlyGivenNames x
       first
       | (refine kept_cut (P := Kept W x) ?_ ?_; (on_goal 1 => subst x); (on_goal 2 => (intro _; try clear_value x)))
       | (try clear_value x))
    | (with_reducible first | apply kept_engineStep | apply kept_quiet | apply keptO_next | (intro _; rfl))
    | (with_reducible first | apply kept_ite)
    | split | (clear_value *; split) | dsimp only

theorem kept_execLda {a1 : EngErr} (h : Kept W s) (_ : W.part .emit) (_ : W.part .eng) (_ : Logs W)
    (_ : W.fld (Evt.st .ENG_SAT)) (_ : W.fld ENG_CNT.SAT) : KeptO W (execLda a1 s) := by
  unfold execLda
  repeat' first
    | with_reducible assumption
    | (extract_lets +onlyGivenNames x
       first
       | (refine kept_cut (P := Kept W x) ?_ ?_; (on_goal 1 => subst x); (on_goal 2 => (intro _; try clear_value x)))
       | (try clear_value x))
    | (with_reducible first | apply kept_engineStep | apply kept_quiet | apply keptO_next | (intro _; rfl))
    | (with_reducible first | apply kept_ite)
    | split | (clear_value *; split) | dsimp only

theorem kept_execMvm {a1 : EngErr} (h : Kept W s) (_ : W.part .emit) (_ : W.part .eng) (_ : Logs W)
    (_ : W.fld (Evt.st .ENG_SAT)) (_ : W.fld ENG_CNT.SAT) : KeptO W (execMvm a1 s) := by
  unfold execMvm
  repeat' first
    | with_reducible assumption
    | (extract_lets +onlyGivenNames x
       first
       | (refine kept_cut (P := Kept W x) ?_ ?_; (on_goal 1 => subst x); (on_goal 2 => (intro _; try clear_value x)))
       | (try clear_value x))
    | (with_reducible first | apply kept_engineStep | apply kept_quiet | apply keptO_next | (intro _; rfl))
    | (with_reducible first | apply kept_ite)
    | split | (clear_value *; split) | dsimp only

theorem kept_execVmul {a1 : EngErr} (h : Kept W s) (_ : W.part .emit) (_ : W.part .eng) (_ : Logs W)
    (_ : W.fld (Evt.st .ENG_SAT)) (_ : W.fld ENG_CNT.SAT) : KeptO W (execVmul a1 s) := by
  unfold execVmul
  repeat' first
    | with_reducible assumption
    | (extract_lets +onlyGivenNames x
       first
       | (refine kept_cut (P := Kept W x) ?_ ?_; (on_goal 1 => subst x); (on_goal 2 => (intro _; try clear_value x)))
       | (try clear_value x))
    | (with_reducible first | apply kept_engineStep | apply kept_quiet | apply keptO_next | (intro _; rfl))
    | (with_reducible first | apply kept_ite)
    | split | (clear_value *; split) | dsimp only

theorem kept_execAddi {a1 : EngErr} (h : Kept W s) (_ : W.part .emit) (_ : W.part .eng) (_ : Logs W)
    (_ : W.fld (Evt.st .ENG_SAT)) (_ : W.fld ENG_CNT.SAT) : KeptO W (execAddi a1 s) := by
  unfold execAddi
  repeat' first
    | with_reducible assumption
    | (extract_lets +onlyGivenNames x
       first
       | (refine kept_cut (P := Kept W x) ?_ ?_; (on_goal 1 => subst x); (on_goal 2 => (intro _; try clear_value x)))
       | (try clear_value x))
    | (with_reducible first | apply kept_engineStep | apply kept_quiet | apply keptO_next | (intro _; rfl))
    | (with_reducible first | apply kept_ite)
    | split | (clear_value *; split) | dsimp only

theorem kept_execRnd {a1 : EngErr} (h : Kept W s) (_ : W.part .emit) (_ : W.part .eng) (_ : Logs W)
    (_ : W.fld (Evt.st .ENG_SAT)) (_ : W.fld ENG_CNT.SAT) : KeptO W (execRnd a1 s) := by
  unfold execRnd
  repeat' first
    | with_reducible assumption
    | (extract_lets +onlyGivenNames x
       first
       | (refine kept_cut (P := Kept W x) ?_ ?_; (on_goal 1 => subst x); (on_goal 2 => (intro _; try clear_value x)))
       | (try clear_value x))
    | (with_reducible first | apply kept_engineStep | apply kept_quiet | apply keptO_next | (intro _; rfl))
    | (with_reducible first | apply kept_ite)
    | split | (clear_value *; split) | dsimp only

theorem kept_execSub {a1 : EngErr} (h : Kept W s) (_ : W.part .emit) (_ : W.part .eng) (_ : Logs W)
    (_ : W.fld (Evt.st .ENG_SAT)) (_ : W.fld ENG_CNT.SAT) : KeptO W (execSub a1 s) := by
  unfold execSub
  repeat' first
    | with_reducible assumption
    | (extract_lets +onlyGivenNames x
       first
       | (refine kept_cut (P := Kept W x) ?_ ?_; (on_goal 1 => subst x); (on_goal 2 => (intro _; try clear_value x)))
       | (try clear_value x))
    | (with_reducible first | apply kept_engineStep | apply kept_quiet | apply keptO_next | (intro _; rfl))
    | (with_reducible first | apply kept_ite)
    | split | (clear_value *; split) | dsimp only

theorem kept_execClmp {a1 : EngErr} (h : Kept W s) (_ : W.part .emit) (_ : W.part .eng) (_ : Logs W)
    (_ : W.fld (Evt.st .ENG_SAT)) (_ : W.fld ENG_CNT.SAT) : KeptO W (execClmp a1 s) := by
  unfold execClmp
  repeat' first
    | with_reducible assumption
    | (extract_lets +onlyGivenNames x
       first
       | (refine kept_cut (P := Kept W x) ?_ ?_; (on_goal 1 => subst x); (on_goal 2 => (intro _; try clear_value x)))
       | (try clear_value x))
    | (with_reducible first | apply kept_engineStep | apply kept_quiet | apply keptO_next | (intro _; rfl))
    | (with_reducible first | apply kept_ite)
    | split | (clear_value *; split) | dsimp only

theorem kept_execIntg {a1 : EngErr} (h : Kept W s) (_ : W.part .emit) (_ : W.part .eng) (_ : Logs W)
    (_ : W.fld (Evt.st .ENG_SAT)) (_ : W.fld ENG_CNT.SAT) : KeptO W (execIntg a1 s) := by
  unfold execIntg
  repeat' first
    | with_reducible assumption
    | (extract_lets +onlyGivenNames x
       first
       | (refine kept_cut (P := Kept W x) ?_ ?_; (on_goal 1 => subst x); (on_goal 2 => (intro _; try clear_value x)))
       | (try clear_value x))
    | (with_reducible first | apply kept_engineStep | apply kept_quiet | apply keptO_next | (intro _; rfl))
    | (with_reducible first | apply kept_ite)
    | split | (clear_value *; split) | dsimp only

theorem kept_execCvt {a1 : EngErr} (h : Kept W s) (_ : W.part .emit) (_ : W.part .eng) (_ : Logs W)
    (_ : W.fld (Evt.st .ENG_SAT)) (_ : W.fld ENG_CNT.SAT) : KeptO W (execCvt a1 s) := by
  unfold execCvt
  repeat' first
    | with_reducible assumption
    | (extract_lets +onlyGivenNames x
       first
       | (refine kept_cut (P := Kept W x) ?_ ?_; (on_goal 1 => subst x); (on_goal 2 => (intro _; try clear_value x)))
       | (try clear_value x))
    | (with_reducible first | apply kept_engineStep | apply kept_quiet | apply keptO_next | (intro _; rfl))
    | (with_reducible first | apply kept_ite)
    | split | (clear_value *; split) | dsimp only

theorem kept_execMinsel {a1 : EngErr} (h : Kept W s) (_ : W.part .emit) (_ : W.part .eng) (_ : Logs W)
    (_ : W.fld (Evt.st .ENG_SAT)) (_ : W.fld ENG_CNT.SAT) : KeptO W (execMinsel a1 s) := by
  unfold execMinsel
  repeat' first
    | with_reducible assumption
    | (extract_lets +onlyGivenNames x
       first
       | (refine kept_cut (P := Kept W x) ?_ ?_; (on_goal 1 => subst x); (on_goal 2 => (intro _; try clear_value x)))
       | (try clear_value x))
    | (with_reducible first | apply kept_engineStep | apply kept_quiet | apply keptO_next | (intro _; rfl))
    | (with_reducible first | apply kept_ite)
    | split | (clear_value *; split) | dsimp only

theorem kept_execMov {a1 : EngErr} (h : Kept W s) (_ : W.part .emit) (_ : W.part .eng) (_ : Logs W)
    (_ : W.fld (Evt.st .ENG_SAT)) (_ : W.fld ENG_CNT.SAT) : KeptO W (execMov a1 s) := by
  unfold execMov
  repeat' first
    | with_reducible assumption
    | (extract_lets +onlyGivenNames x
       first
       | (refine kept_cut (P := Kept W x) ?_ ?_; (on_goal 1 => subst x); (on_goal 2 => (intro _; try clear_value x)))
       | (try clear_value x))
    | (with_reducible first | apply kept_engineStep | apply kept_quiet | apply keptO_next | (intro _; rfl))
    | (with_reducible first | apply kept_ite)
    | split | (clear_value *; split) | dsimp only

theorem kept_execEnd {a1 : EngErr} (h : Kept W s) (_ : W.part .cad) (_ : W.part .emit) (_ : W.part .eng)
    (_ : W.part .fw) (_ : W.part .log) (_ : W.part .tasks) (_ : Logs W) (_ : W.fld (Evt.st .CAD_ENG_OVR))
    (_ : W.fld (Evt.st .ENG_ENGINE_FAULT)) (_ : W.fld (Evt.st .ENG_LANE_DIS)) (_ : W.fld (Evt.st .ENG_SAT))
    (_ : W.fld (Evt.st .FW_TRD_LOST)) (_ : W.fld CAD_OVERRUN.ENG) (_ : W.fld ENG_CAND.CAP) (_ : W.fld ENG_CAND.CUR)
    (_ : W.fld ENG_CAND.HINT) (_ : W.fld ENG_CAND.THM) (_ : W.fld ENG_CNT.LDIS) (_ : W.fld ENG_CNT.SAT)
    (_ : W.fld ENG_DUMP_STAT.DIFF) (_ : W.fld ENG_DUMP_STAT.DONE) (_ : W.fld ENG_DUMP_STAT.HELD)
    (_ : W.fld ENG_DUMP_STAT.NOWRITE) (_ : W.fld ENG_DUMP_TICK.TICK) (_ : W.fld ENG_DUMP_VAL.VAL_A)
    (_ : W.fld ENG_DUMP_VAL.VAL_B) (_ : W.fld ENG_LCAND.LINK8) (_ : W.fld ENG_LCAND.LINK9) (_ : W.fld ENG_LCAND.STACK)
    (_ : W.fld ENG_OUT.FLOOR) (_ : W.fld ENG_OUT.OUT) (_ : W.fld ENG_OUT.PERF) (_ : W.fld ENG_OUT.SAFE)
    (_ : W.fld ENG_SEL.LNK) (_ : W.fld ENG_SEL.SEC) (_ : W.fld ENG_SEL.STK) (_ : W.fld ENG_STAT.LD_RUN)
    (_ : W.fld ENG_STAT.STATE) (_ : W.fld ENG_TR_STAT.HALF) (_ : W.fld ENG_TR_STAT.STOPPED)
    (_ : W.fld ENG_TR_STAT.TRIGGERED) (_ : W.fld ENG_TR_STAT.TRIG_IDX) (_ : W.fld ENG_TR_STAT.WPTR)
    (_ : W.fld TH_VAL.EST) (_ : W.fld TRD_STAT.LOST) : KeptO W (execEnd a1 s) := by
  unfold execEnd
  repeat' first
    | with_reducible assumption
    | (extract_lets +onlyGivenNames x
       first
       | (refine kept_cut (P := Kept W x) ?_ ?_; (on_goal 1 => subst x); (on_goal 2 => (intro _; try clear_value x)))
       | (try clear_value x))
    | (with_reducible first | apply kept_quiet | apply kept_engineCompare | apply kept_engineStep | apply keptO_next)
    | (with_reducible first | (intro _; rfl) | apply kept_ite)
    | split | (clear_value *; split) | dsimp only

theorem kept_execEngineOverrun (h : Kept W s) (_ : W.part .cad) (_ : W.part .emit) (_ : W.part .eng) (_ : W.part .fw)
    (_ : W.part .log) (_ : W.part .tasks) (_ : Logs W) (_ : W.fld (Evt.st .CAD_ENG_OVR))
    (_ : W.fld (Evt.st .ENG_ENGINE_FAULT)) (_ : W.fld (Evt.st .ENG_LANE_DIS)) (_ : W.fld (Evt.st .FW_TRD_LOST))
    (_ : W.fld CAD_OVERRUN.ENG) (_ : W.fld ENG_CAND.CAP) (_ : W.fld ENG_CAND.CUR) (_ : W.fld ENG_CAND.HINT)
    (_ : W.fld ENG_CAND.THM) (_ : W.fld ENG_CNT.LDIS) (_ : W.fld ENG_DUMP_STAT.DIFF) (_ : W.fld ENG_DUMP_STAT.DONE)
    (_ : W.fld ENG_DUMP_STAT.HELD) (_ : W.fld ENG_DUMP_STAT.NOWRITE) (_ : W.fld ENG_DUMP_TICK.TICK)
    (_ : W.fld ENG_DUMP_VAL.VAL_A) (_ : W.fld ENG_DUMP_VAL.VAL_B) (_ : W.fld ENG_LCAND.LINK8)
    (_ : W.fld ENG_LCAND.LINK9) (_ : W.fld ENG_LCAND.STACK) (_ : W.fld ENG_OUT.FLOOR) (_ : W.fld ENG_OUT.OUT)
    (_ : W.fld ENG_OUT.PERF) (_ : W.fld ENG_OUT.SAFE) (_ : W.fld ENG_SEL.LNK) (_ : W.fld ENG_SEL.SEC)
    (_ : W.fld ENG_SEL.STK) (_ : W.fld ENG_STAT.LD_RUN) (_ : W.fld ENG_STAT.STATE) (_ : W.fld ENG_TR_STAT.HALF)
    (_ : W.fld ENG_TR_STAT.STOPPED) (_ : W.fld ENG_TR_STAT.TRIGGERED) (_ : W.fld ENG_TR_STAT.TRIG_IDX)
    (_ : W.fld ENG_TR_STAT.WPTR) (_ : W.fld TRD_STAT.LOST) : KeptO W (execEngineOverrun s) := by
  unfold execEngineOverrun
  repeat' first
    | with_reducible assumption
    | (extract_lets +onlyGivenNames x
       first
       | (refine kept_cut (P := Kept W x) ?_ ?_; (on_goal 1 => subst x); (on_goal 2 => (intro _; try clear_value x)))
       | (try clear_value x))
    | (with_reducible first | apply kept_quiet | apply kept_disagree | apply kept_engineOverrun | apply keptO_next)
    | (with_reducible first | (intro _; rfl) | apply kept_ite)
    | split | (clear_value *; split) | dsimp only

theorem kept_execNotFollowing {a1 : Nat} (h : Kept W s) (_ : W.part .emit) (_ : W.part .eng) (_ : Logs W)
    (_ : W.fld (Evt.st .ENG_NOT_FOLLOWING)) (_ : W.fld ENG_NF.NF) (_ : W.fld ENG_NF.NF_CNT) :
    KeptO W (execNotFollowing a1 s) := by
  unfold execNotFollowing
  repeat' first
    | with_reducible assumption
    | (extract_lets +onlyGivenNames x
       first
       | (refine kept_cut (P := Kept W x) ?_ ?_; (on_goal 1 => subst x); (on_goal 2 => (intro _; try clear_value x)))
       | (try clear_value x))
    | (with_reducible first | apply kept_quiet | apply kept_traceEvent | apply kept_inc | apply kept_wrBit)
    | (with_reducible first | apply kept_setEng | apply kept_errRecord | apply kept_raiseLog | apply keptO_next)
    | (with_reducible first | (intro _; rfl) | apply kept_ite)
    | split | (clear_value *; split) | dsimp only

theorem kept_execNfClear {a1 : Nat} {a2 : Nat} (h : Kept W s) (_ : W.part .emit) (_ : W.part .eng)
    (_ : W.fld ENG_NF.NF) : KeptO W (execNfClear a1 a2 s) := by
  unfold execNfClear
  repeat' first
    | with_reducible assumption
    | (extract_lets +onlyGivenNames x
       first
       | (refine kept_cut (P := Kept W x) ?_ ?_; (on_goal 1 => subst x); (on_goal 2 => (intro _; try clear_value x)))
       | (try clear_value x))
    | (with_reducible first | apply kept_quiet | apply kept_setEng | apply kept_wrBit | apply keptO_next)
    | (with_reducible first | (intro _; rfl) | apply kept_ite)
    | split | (clear_value *; split) | dsimp only

theorem kept_execNodeDumpFire (h : Kept W s) (_ : W.part .cad) (_ : W.part .emit) (_ : W.part .eng)
    (_ : W.part .tasks) (_ : Logs W) (_ : W.fld (Evt.st .CAD_LATE)) (_ : W.fld CAD_DEFER_CNT.LATE)
    (_ : W.fld ENG_DUMP_STAT.DIFF) (_ : W.fld ENG_DUMP_STAT.DONE) (_ : W.fld ENG_DUMP_STAT.HELD)
    (_ : W.fld ENG_DUMP_STAT.NOWRITE) (_ : W.fld ENG_DUMP_TICK.TICK) (_ : W.fld ENG_DUMP_VAL.VAL_A)
    (_ : W.fld ENG_DUMP_VAL.VAL_B) : KeptO W (execNodeDumpFire s) := by
  unfold execNodeDumpFire
  repeat' first
    | with_reducible assumption
    | (extract_lets +onlyGivenNames x
       first
       | (refine kept_cut (P := Kept W x) ?_ ?_; (on_goal 1 => subst x); (on_goal 2 => (intro _; try clear_value x)))
       | (try clear_value x))
    | (with_reducible first | apply kept_quiet | apply kept_takeEvent | apply kept_setEng | apply kept_wr)
    | (with_reducible first | apply kept_dumpEnd | apply keptO_next | refine kept_ofSome (by assumption) ?_)
    | (with_reducible first | (intro _; rfl) | apply kept_ite)
    | split | (clear_value *; split) | dsimp only

theorem kept_traceArm (h : Kept W s) (_ : W.part .eng) (_ : W.fld ENG_TR_CTRL.ARM) (_ : W.fld ENG_TR_STAT.HALF)
    (_ : W.fld ENG_TR_STAT.STOPPED) (_ : W.fld ENG_TR_STAT.TRIGGERED) (_ : W.fld ENG_TR_STAT.TRIG_IDX)
    (_ : W.fld ENG_TR_STAT.WPTR) : Kept W (State.traceArm s) := by
  unfold State.traceArm
  repeat' first
    | with_reducible assumption
    | (extract_lets +onlyGivenNames x
       first
       | (refine kept_cut (P := Kept W x) ?_ ?_; (on_goal 1 => subst x); (on_goal 2 => (intro _; try clear_value x)))
       | (try clear_value x))
    | (with_reducible first | apply kept_wr | apply kept_setTrace | apply kept_foldl | (intro _; rfl))
    | (with_reducible first | apply kept_ite)
    | (intro _ _ _ _; try beta_reduce) | (intro _ _ _; try beta_reduce) | (intro _ _; try beta_reduce)
    | split | (clear_value *; split) | dsimp only

end Sys2Proof.Machine
end

