-- ==== Sys2Proof/Laws/KeptThermal.lean ====
section
/-! SUPPORT. What the operations of `Thermal.lean` keep (see `Kept.lean`). -/

set_option linter.unusedVariables false
set_option linter.unusedTactic false
set_option linter.unreachableTactic false
set_option linter.tactic.unusedName false

namespace Sys2Proof.Machine

variable {W : Bounds} {s : State}

theorem kept_setChan {a2 : Nat} {a3 : Chan → Chan} (h : Kept W s) (_ : W.part .th) :
    Kept W (State.setChan s a2 a3) := by
  unfold State.setChan
  repeat' first
    | with_reducible assumption
    | (extract_lets +onlyGivenNames x
       first
       | (refine kept_cut (P := Kept W x) ?_ ?_; (on_goal 1 => subst x); (on_goal 2 => (intro _; try clear_value x)))
       | (try clear_value x))
    | (with_reducible first | apply kept_setTh | (intro _; rfl) | apply kept_ite)
    | split | (clear_value *; split) | dsimp only

theorem kept_thermalStatus (h : Kept W s) (_ : W.part .cmd) (_ : W.part .rim) (_ : Logs W)
    (_ : W.fld (Evt.st .RIM_CANCELLED)) (_ : W.fld (Evt.st .TH_WR_INHIBIT)) (_ : W.fld RIM_STAT.PWR_INHIBIT)
    (_ : W.fld SWD_STAT.PEND) (_ : W.fld SWD_STAT.WAIT_SLOT) (_ : W.fld TH_STAT.INVALID)
    (_ : W.fld TH_STAT.NO_COOL_REF) (_ : W.fld TH_STAT.PWR_INHIBIT) (_ : W.fld TH_STAT.WR_OK) :
    Kept W (State.thermalStatus s) := by
  unfold State.thermalStatus
  repeat' first
    | with_reducible assumption
    | (extract_lets +onlyGivenNames x
       first
       | (refine kept_cut (P := Kept W x) ?_ ?_; (on_goal 1 => subst x); (on_goal 2 => (intro _; try clear_value x)))
       | (try clear_value x))
    | (with_reducible first | apply kept_wrB | apply kept_wr | apply kept_raise | apply kept_cancelInhibited)
    | (with_reducible first | (intro _; rfl) | apply kept_ite)
    | split | (clear_value *; split) | dsimp only

theorem kept_zones {a2 : Nat} (h : Kept W s) (_ : W.part .th) (_ : Logs W) (_ : W.fld (Evt.st .TH_HIGH_STOP))
    (_ : W.fld (Evt.st .TH_HIGH_WARN)) (_ : W.fld (Evt.st .TH_LOW_STOP)) (_ : W.fld (Evt.st .TH_LOW_WARN))
    (_ : W.fld TH_CHSTAT.ABOVE_TGT) (_ : W.fld TH_CHSTAT.HIGH_STOP) (_ : W.fld TH_CHSTAT.HIGH_WARN)
    (_ : W.fld TH_CHSTAT.LOW_STOP) (_ : W.fld TH_CHSTAT.LOW_WARN) (_ : W.fld TH_FLT_CNT.STOPS) :
    Kept W (State.zones s a2) := by
  unfold State.zones
  repeat' first
    | with_reducible assumption
    | (extract_lets +onlyGivenNames x
       first
       | (refine kept_cut (P := Kept W x) ?_ ?_; (on_goal 1 => subst x); (on_goal 2 => (intro _; try clear_value x)))
       | (try clear_value x))
    | (with_reducible first | apply kept_wrB | apply kept_raiseLog | apply kept_raise | apply kept_setChan)
    | (with_reducible first | apply kept_inc | (intro _; rfl) | apply kept_ite)
    | split | (clear_value *; split) | dsimp only

theorem kept_chanFault {a2 : Nat} {a3 : Fld} {a4 : Evt} (h : Kept W s) (_ : Logs W) (_ : W.fld a4.st) (_ : W.fld a3)
    (_ : W.fld TH_CHSTAT.VALID) (_ : W.fld TH_FLT_CNT.FAULTS) : Kept W (State.chanFault s a2 a3 a4) := by
  unfold State.chanFault
  repeat' first
    | with_reducible assumption
    | (extract_lets +onlyGivenNames x
       first
       | (refine kept_cut (P := Kept W x) ?_ ?_; (on_goal 1 => subst x); (on_goal 2 => (intro _; try clear_value x)))
       | (try clear_value x))
    | (with_reducible first | apply kept_inc | apply kept_wr | apply kept_raiseLog | (intro _; rfl) | apply kept_ite)
    | split | (clear_value *; split) | dsimp only

theorem kept_revalidate {a2 : Nat} (h : Kept W s) (_ : W.part .th) (_ : W.fld TH_CHSTAT.VALID) :
    Kept W (State.revalidate s a2) := by
  unfold State.revalidate
  repeat' first
    | with_reducible assumption
    | (extract_lets +onlyGivenNames x
       first
       | (refine kept_cut (P := Kept W x) ?_ ?_; (on_goal 1 => subst x); (on_goal 2 => (intro _; try clear_value x)))
       | (try clear_value x))
    | (with_reducible first | apply kept_setChan | apply kept_wr | (intro _; rfl) | apply kept_ite)
    | split | (clear_value *; split) | dsimp only

theorem kept_conversion {a2 : Nat} {a3 : Bool} {a4 : Bool} {a5 : Int} (h : Kept W s) (_ : W.part .cmd)
    (_ : W.part .rim) (_ : W.part .th) (_ : Logs W) (_ : W.fld (Evt.st .RIM_CANCELLED))
    (_ : W.fld (Evt.st .TH_HIGH_STOP)) (_ : W.fld (Evt.st .TH_HIGH_WARN)) (_ : W.fld (Evt.st .TH_LOW_STOP))
    (_ : W.fld (Evt.st .TH_LOW_WARN)) (_ : W.fld (Evt.st .TH_OPEN_SHORT)) (_ : W.fld (Evt.st .TH_WR_INHIBIT))
    (_ : W.fld RIM_STAT.PWR_INHIBIT) (_ : W.fld SWD_STAT.PEND) (_ : W.fld SWD_STAT.WAIT_SLOT)
    (_ : W.fld TH_CHSTAT.ABOVE_TGT) (_ : W.fld TH_CHSTAT.HIGH_STOP) (_ : W.fld TH_CHSTAT.HIGH_WARN)
    (_ : W.fld TH_CHSTAT.LOW_STOP) (_ : W.fld TH_CHSTAT.LOW_WARN) (_ : W.fld TH_CHSTAT.OPEN)
    (_ : W.fld TH_CHSTAT.SHORT) (_ : W.fld TH_CHSTAT.VALID) (_ : W.fld TH_FLT_CNT.FAULTS) (_ : W.fld TH_FLT_CNT.STOPS)
    (_ : W.fld TH_STAT.INVALID) (_ : W.fld TH_STAT.NO_COOL_REF) (_ : W.fld TH_STAT.PWR_INHIBIT)
    (_ : W.fld TH_STAT.WR_OK) (_ : W.fld TH_VAL.VALUE) : Kept W (State.conversion s a2 a3 a4 a5) := by
  unfold State.conversion
  repeat' first
    | with_reducible assumption
    | (extract_lets +onlyGivenNames x
       first
       | (refine kept_cut (P := Kept W x) ?_ ?_; (on_goal 1 => subst x); (on_goal 2 => (intro _; try clear_value x)))
       | (try clear_value x))
    | (with_reducible first | apply kept_setChan | apply kept_wrS | apply kept_chanFault | apply kept_wr)
    | (with_reducible first | apply kept_thermalStatus | apply kept_zones | apply kept_revalidate | (intro _; rfl))
    | (with_reducible first | apply kept_ite)
    | split | (clear_value *; split) | dsimp only

theorem kept_execDiodeConversion {a1 : Nat} {a2 : DiodeIn} (h : Kept W s) (_ : W.part .cmd) (_ : W.part .emit)
    (_ : W.part .rim) (_ : W.part .th) (_ : Logs W) (_ : W.fld (Evt.st .RIM_CANCELLED))
    (_ : W.fld (Evt.st .TH_HIGH_STOP)) (_ : W.fld (Evt.st .TH_HIGH_WARN)) (_ : W.fld (Evt.st .TH_LOW_STOP))
    (_ : W.fld (Evt.st .TH_LOW_WARN)) (_ : W.fld (Evt.st .TH_OPEN_SHORT)) (_ : W.fld (Evt.st .TH_WR_INHIBIT))
    (_ : W.fld RIM_STAT.PWR_INHIBIT) (_ : W.fld SWD_STAT.PEND) (_ : W.fld SWD_STAT.WAIT_SLOT)
    (_ : W.fld TH_CHSTAT.ABOVE_TGT) (_ : W.fld TH_CHSTAT.HIGH_STOP) (_ : W.fld TH_CHSTAT.HIGH_WARN)
    (_ : W.fld TH_CHSTAT.LOW_STOP) (_ : W.fld TH_CHSTAT.LOW_WARN) (_ : W.fld TH_CHSTAT.OPEN) (_ : W.fld TH_CHSTAT.RS)
    (_ : W.fld TH_CHSTAT.SHORT) (_ : W.fld TH_CHSTAT.VALID) (_ : W.fld TH_FLT_CNT.FAULTS) (_ : W.fld TH_FLT_CNT.STOPS)
    (_ : W.fld TH_STAT.INVALID) (_ : W.fld TH_STAT.NO_COOL_REF) (_ : W.fld TH_STAT.PWR_INHIBIT)
    (_ : W.fld TH_STAT.WR_OK) (_ : W.fld TH_VAL.VALUE) : KeptO W (execDiodeConversion a1 a2 s) := by
  unfold execDiodeConversion
  repeat' first
    | with_reducible assumption
    | (extract_lets +onlyGivenNames x
       first
       | (refine kept_cut (P := Kept W x) ?_ ?_; (on_goal 1 => subst x); (on_goal 2 => (intro _; try clear_value x)))
       | (try clear_value x))
    | (with_reducible first | apply kept_quiet | apply kept_setTh | apply kept_wr | apply kept_conversion)
    | (with_reducible first | apply keptO_next | (intro _; rfl) | apply kept_ite)
    | (intro _ _ _ _; try beta_reduce) | (intro _ _ _; try beta_reduce) | (intro _ _; try beta_reduce)
    | split | (clear_value *; split) | dsimp only

theorem kept_execThermistorConversion {a1 : Nat} {a2 : Nat} (h : Kept W s) (_ : W.part .cmd) (_ : W.part .emit)
    (_ : W.part .rim) (_ : W.part .th) (_ : Logs W) (_ : W.fld (Evt.st .RIM_CANCELLED))
    (_ : W.fld (Evt.st .TH_HIGH_STOP)) (_ : W.fld (Evt.st .TH_HIGH_WARN)) (_ : W.fld (Evt.st .TH_LOW_STOP))
    (_ : W.fld (Evt.st .TH_LOW_WARN)) (_ : W.fld (Evt.st .TH_OPEN_SHORT)) (_ : W.fld (Evt.st .TH_WR_INHIBIT))
    (_ : W.fld RIM_STAT.PWR_INHIBIT) (_ : W.fld SWD_STAT.PEND) (_ : W.fld SWD_STAT.WAIT_SLOT)
    (_ : W.fld TH_CHSTAT.ABOVE_TGT) (_ : W.fld TH_CHSTAT.HIGH_STOP) (_ : W.fld TH_CHSTAT.HIGH_WARN)
    (_ : W.fld TH_CHSTAT.LOW_STOP) (_ : W.fld TH_CHSTAT.LOW_WARN) (_ : W.fld TH_CHSTAT.OPEN)
    (_ : W.fld TH_CHSTAT.SHORT) (_ : W.fld TH_CHSTAT.VALID) (_ : W.fld TH_FLT_CNT.FAULTS) (_ : W.fld TH_FLT_CNT.STOPS)
    (_ : W.fld TH_STAT.INVALID) (_ : W.fld TH_STAT.NO_COOL_REF) (_ : W.fld TH_STAT.PWR_INHIBIT)
    (_ : W.fld TH_STAT.WR_OK) (_ : W.fld TH_VAL.VALUE) : KeptO W (execThermistorConversion a1 a2 s) := by
  unfold execThermistorConversion
  repeat' first
    | with_reducible assumption
    | (extract_lets +onlyGivenNames x
       first
       | (refine kept_cut (P := Kept W x) ?_ ?_; (on_goal 1 => subst x); (on_goal 2 => (intro _; try clear_value x)))
       | (try clear_value x))
    | (with_reducible first | apply kept_quiet | apply kept_setTh | apply kept_conversion | apply keptO_next)
    | (with_reducible first | (intro _; rfl) | apply kept_ite)
    | (intro _ _ _ _; try beta_reduce) | (intro _ _ _; try beta_reduce) | (intro _ _; try beta_reduce)
    | split | (clear_value *; split) | dsimp only

theorem kept_driftOf {a2 : Nat} (h : Kept W s) (_ : W.part .th) (_ : Logs W) (_ : W.fld (Evt.st .TH_DRIFT))
    (_ : W.fld TH_CHSTAT.DRIFT) (_ : W.fld TH_CHSTAT.VALID) (_ : W.fld TH_FLT_CNT.FAULTS) :
    Kept W (State.driftOf s a2) := by
  unfold State.driftOf
  repeat' first
    | with_reducible assumption
    | (extract_lets +onlyGivenNames x
       first
       | (refine kept_cut (P := Kept W x) ?_ ?_; (on_goal 1 => subst x); (on_goal 2 => (intro _; try clear_value x)))
       | (try clear_value x))
    | (with_reducible first | apply kept_setChan | apply kept_chanFault | apply kept_revalidate | apply kept_wr)
    | (with_reducible first | (intro _; rfl) | apply kept_ite)
    | split | (clear_value *; split) | dsimp only

theorem kept_execDriftCheck (h : Kept W s) (_ : W.part .cmd) (_ : W.part .emit) (_ : W.part .rim) (_ : W.part .th)
    (_ : Logs W) (_ : W.fld (Evt.st .RIM_CANCELLED)) (_ : W.fld (Evt.st .TH_DRIFT))
    (_ : W.fld (Evt.st .TH_WR_INHIBIT)) (_ : W.fld RIM_STAT.PWR_INHIBIT) (_ : W.fld SWD_STAT.PEND)
    (_ : W.fld SWD_STAT.WAIT_SLOT) (_ : W.fld TH_CHSTAT.DRIFT) (_ : W.fld TH_CHSTAT.VALID)
    (_ : W.fld TH_FLT_CNT.FAULTS) (_ : W.fld TH_STAT.INVALID) (_ : W.fld TH_STAT.NO_COOL_REF)
    (_ : W.fld TH_STAT.PWR_INHIBIT) (_ : W.fld TH_STAT.WR_OK) : KeptO W (execDriftCheck s) := by
  unfold execDriftCheck
  repeat' first
    | with_reducible assumption
    | (extract_lets +onlyGivenNames x
       first
       | (refine kept_cut (P := Kept W x) ?_ ?_; (on_goal 1 => subst x); (on_goal 2 => (intro _; try clear_value x)))
       | (try clear_value x))
    | (with_reducible first | apply kept_quiet | apply kept_setTh | apply kept_thermalStatus | apply kept_driftOf)
    | (with_reducible first | apply kept_foldl | apply keptO_next | (intro _; rfl) | apply kept_ite)
    | (intro _ _ _ _; try beta_reduce) | (intro _ _ _; try beta_reduce) | (intro _ _; try beta_reduce)
    | split | (clear_value *; split) | dsimp only

theorem kept_thermalBoundary (h : Kept W s) (_ : W.part .cmd) (_ : W.part .rim) (_ : W.part .th) (_ : Logs W)
    (_ : W.fld (Evt.st .RIM_CANCELLED)) (_ : W.fld (Evt.st .TH_WR_INHIBIT)) (_ : W.fld RIM_STAT.PWR_INHIBIT)
    (_ : W.fld SWD_STAT.PEND) (_ : W.fld SWD_STAT.WAIT_SLOT) (_ : W.fld TH_CHSTAT.ABOVE_TGT)
    (_ : W.fld TH_CHSTAT.DRIFT) (_ : W.fld TH_CHSTAT.HIGH_STOP) (_ : W.fld TH_CHSTAT.HIGH_WARN)
    (_ : W.fld TH_CHSTAT.LOW_STOP) (_ : W.fld TH_CHSTAT.LOW_WARN) (_ : W.fld TH_CHSTAT.OPEN)
    (_ : W.fld TH_CHSTAT.SHORT) (_ : W.fld TH_CHSTAT.VALID) (_ : W.fld TH_STAT.INVALID)
    (_ : W.fld TH_STAT.NO_COOL_REF) (_ : W.fld TH_STAT.PWR_INHIBIT) (_ : W.fld TH_STAT.WR_OK) (_ : W.fld TH_VAL.VALUE)
    : Kept W (State.thermalBoundary s) := by
  unfold State.thermalBoundary
  repeat' first
    | with_reducible assumption
    | (extract_lets +onlyGivenNames x
       first
       | (refine kept_cut (P := Kept W x) ?_ ?_; (on_goal 1 => subst x); (on_goal 2 => (intro _; try clear_value x)))
       | (try clear_value x))
    | (with_reducible first | apply kept_setChan | apply kept_wr | apply kept_thermalStatus | apply kept_foldl)
    | (with_reducible first | (intro _; rfl) | apply kept_ite)
    | (intro _ _ _ _; try beta_reduce) | (intro _ _ _; try beta_reduce) | (intro _ _; try beta_reduce)
    | split | (clear_value *; split) | dsimp only

theorem kept_execThermalStop {a1 : Nat} (h : Kept W s) (_ : W.part .cmd) (_ : W.part .emit) (_ : W.part .rim)
    (_ : W.part .th) (_ : Logs W) (_ : W.fld (Evt.st .RIM_FORCED_OFF)) (_ : W.fld REST_MASK.WAKE)
    (_ : W.fld RG_STAT.RAMPS) (_ : W.fld SWD_STAT.FORCED) (_ : W.fld SWD_STAT.PEND) (_ : W.fld SWD_STAT.WAIT_SLOT) :
    KeptO W (execThermalStop a1 s) := by
  unfold execThermalStop
  repeat' first
    | with_reducible assumption
    | (extract_lets +onlyGivenNames x
       first
       | (refine kept_cut (P := Kept W x) ?_ ?_; (on_goal 1 => subst x); (on_goal 2 => (intro _; try clear_value x)))
       | (try clear_value x))
    | (with_reducible first | apply kept_quiet | apply kept_forceOffAll | apply kept_setChan | apply keptO_next)
    | (with_reducible first | (intro _; rfl) | apply kept_ite)
    | (intro _ _ _ _; try beta_reduce) | (intro _ _ _; try beta_reduce) | (intro _ _; try beta_reduce)
    | split | (clear_value *; split) | dsimp only

theorem kept_setVrw {a2 : Nat} {a3 : Option Vrw} (h : Kept W s) (_ : W.part .th) : Kept W (State.setVrw s a2 a3) := by
  unfold State.setVrw
  repeat' first
    | with_reducible assumption
    | (extract_lets +onlyGivenNames x
       first
       | (refine kept_cut (P := Kept W x) ?_ ?_; (on_goal 1 => subst x); (on_goal 2 => (intro _; try clear_value x)))
       | (try clear_value x))
    | (with_reducible first | apply kept_setTh | (intro _; rfl) | apply kept_ite)
    | split | (clear_value *; split) | dsimp only

theorem kept_execWarn {a1 : Nat} {a2 : Nat} (h : Kept W s) (_ : W.part .emit) (_ : W.part .gl) (_ : W.part .th)
    (_ : Logs W) (_ : W.fld (Evt.st .GL_WARN)) (_ : W.fld (Evt.st .TH_VRWARN_ACT)) (_ : W.fld GL_FAULT_CNT.WARNS)
    (_ : W.fld GL_STAT.WARN) (_ : W.fld GL_TEL0.TEMP) (_ : W.fld GL_WARN.WARN) : KeptO W (execWarn a1 a2 s) := by
  unfold execWarn
  repeat' first
    | with_reducible assumption
    | (extract_lets +onlyGivenNames x
       first
       | (refine kept_cut (P := Kept W x) ?_ ?_; (on_goal 1 => subst x); (on_goal 2 => (intro _; try clear_value x)))
       | (try clear_value x))
    | (with_reducible first | apply kept_quiet | apply kept_goodSlot | apply kept_wr | apply kept_wrBit)
    | (with_reducible first | apply kept_inc | apply kept_setLnk | apply kept_raise | apply kept_setVrw)
    | (with_reducible first | apply keptO_next | (intro _; rfl) | apply kept_ite)
    | (intro _ _ _ _; try beta_reduce) | (intro _ _ _; try beta_reduce) | (intro _ _; try beta_reduce)
    | split | (clear_value *; split) | dsimp only

theorem kept_execVrwDrop {a1 : Nat} (h : Kept W s) (_ : W.part .emit) (_ : W.part .th) :
    KeptO W (execVrwDrop a1 s) := by
  unfold execVrwDrop
  repeat' first
    | with_reducible assumption
    | (extract_lets +onlyGivenNames x
       first
       | (refine kept_cut (P := Kept W x) ?_ ?_; (on_goal 1 => subst x); (on_goal 2 => (intro _; try clear_value x)))
       | (try clear_value x))
    | (with_reducible first | apply kept_quiet | apply kept_setVrw | apply keptO_next | (intro _; rfl))
    | (with_reducible first | apply kept_ite)
    | split | (clear_value *; split) | dsimp only

theorem kept_execVrwRemove {a1 : Nat} (h : Kept W s) (_ : W.part .emit) (_ : W.part .th) :
    KeptO W (execVrwRemove a1 s) := by
  unfold execVrwRemove
  repeat' first
    | with_reducible assumption
    | (extract_lets +onlyGivenNames x
       first
       | (refine kept_cut (P := Kept W x) ?_ ?_; (on_goal 1 => subst x); (on_goal 2 => (intro _; try clear_value x)))
       | (try clear_value x))
    | (with_reducible first | apply kept_quiet | apply kept_setVrw | apply keptO_next | (intro _; rfl))
    | (with_reducible first | apply kept_ite)
    | split | (clear_value *; split) | dsimp only

end Sys2Proof.Machine
end

