-- ==== Sys2Proof/Laws/KeptEnergy.lean ====
section
/-! SUPPORT. What the operations of `Energy.lean` keep (see `Kept.lean`). -/

set_option linter.unusedVariables false
set_option linter.unusedTactic false
set_option linter.unreachableTactic false
set_option linter.tactic.unusedName false

namespace Sys2Proof.Machine

variable {W : Bounds} {s : State}

theorem kept_setClEm {a2 : Nat} {a3 : ClEm → ClEm} (h : Kept W s) (_ : W.part .em) :
    Kept W (State.setClEm s a2 a3) := by
  unfold State.setClEm
  repeat' first
    | with_reducible assumption
    | (extract_lets +onlyGivenNames x
       first
       | (refine kept_cut (P := Kept W x) ?_ ?_; (on_goal 1 => subst x); (on_goal 2 => (intro _; try clear_value x)))
       | (try clear_value x))
    | (with_reducible first | apply kept_setEm | (intro _; rfl) | apply kept_ite)
    | split | (clear_value *; split) | dsimp only

theorem kept_attribCluster {q : State × EmAcc} {a2 : Nat} (h : KeptF W q) (_ : W.part .em) (_ : W.part .spk)
    (_ : W.fld EM_UNKNOWN_CNT.CL_TICKS) : KeptF W (State.attribCluster q a2) := by
  have h1 := h.kept
  unfold State.attribCluster
  repeat' first
    | with_reducible assumption
    | (extract_lets +onlyGivenNames x
       first
       | (refine kept_cut (P := Kept W x) ?_ ?_; (on_goal 1 => subst x); (on_goal 2 => (intro _; try clear_value x)))
       | (try clear_value x))
    | (with_reducible first | apply kept_inc | apply kept_setSent | apply kept_setClEm | apply kept_setEm)
    | (with_reducible first | apply kept_upTo | apply keptF_mk | (intro _; rfl) | apply kept_ite)
    | (intro _ _ _ _; try beta_reduce) | (intro _ _ _; try beta_reduce) | (intro _ _; try beta_reduce)
    | split | (clear_value *; split) | dsimp only

theorem kept_attribute (h : Kept W s) (_ : W.part .em) (_ : W.part .spk) (_ : W.fld EM_STAT.UNKNOWN_CL)
    (_ : W.fld EM_UNKNOWN_CNT.CL_TICKS) : Kept W (State.attribute s) := by
  unfold State.attribute
  repeat' first
    | with_reducible assumption
    | (extract_lets +onlyGivenNames x
       first
       | (refine kept_cut (P := Kept W x) ?_ ?_; (on_goal 1 => subst x); (on_goal 2 => (intro _; try clear_value x)))
       | (refine kept_cut (P := KeptF W x) ?_ ?_; (on_goal 1 => subst x); (on_goal 2 => (intro _; try clear_value x)))
       | (try clear_value x))
    | (with_reducible first | apply kept_setEm | apply kept_attribCluster | apply kept_wr | apply kept_foldl)
    | (with_reducible first | apply kept_upTo | apply kept_foldl_fst | apply keptF_mk | apply keptF_foldl)
    | (with_reducible first | refine kept_ofF (by assumption) ?_ | (intro _; rfl) | apply kept_ite)
    | (intro _ _ _ _; try beta_reduce) | (intro _ _ _; try beta_reduce) | (intro _ _; try beta_reduce)
    | split | (clear_value *; split) | dsimp only

theorem kept_energyWindow (h : Kept W s) (_ : W.part .em) (_ : W.fld EM_PDIE.P_1MS) (_ : W.fld EM_RESID.FAST_RES)
    (_ : W.fld EM_RG_P.P_EST) (_ : W.fld EM_RG_P.P_MEAS) (_ : W.fld EM_SPARSITY.S_1MS) :
    Kept W (State.energyWindow s) := by
  unfold State.energyWindow
  repeat' first
    | with_reducible assumption
    | (extract_lets +onlyGivenNames x
       first
       | (refine kept_cut (P := Kept W x) ?_ ?_; (on_goal 1 => subst x); (on_goal 2 => (intro _; try clear_value x)))
       | (try clear_value x))
    | (with_reducible first | apply kept_wr | apply kept_wrS | apply kept_setEm | apply kept_upTo | (intro _; rfl))
    | (with_reducible first | apply kept_ite)
    | (intro _ _ _ _; try beta_reduce) | (intro _ _ _; try beta_reduce) | (intro _ _; try beta_reduce)
    | split | (clear_value *; split) | dsimp only

theorem kept_setAtt {a2 : Nat} {a3 : Option AttEnt} (h : Kept W s) (_ : W.part .em) :
    Kept W (State.setAtt s a2 a3) := by
  unfold State.setAtt
  repeat' first
    | with_reducible assumption
    | (extract_lets +onlyGivenNames x
       first
       | (refine kept_cut (P := Kept W x) ?_ ?_; (on_goal 1 => subst x); (on_goal 2 => (intro _; try clear_value x)))
       | (try clear_value x))
    | (with_reducible first | apply kept_setEm | (intro _; rfl) | apply kept_ite)
    | split | (clear_value *; split) | dsimp only

theorem kept_addOther {a2 : Nat} {a3 : Nat} (h : Kept W s) (_ : W.part .em) (_ : W.fld EM_OTHER.ENERGY) :
    Kept W (State.addOther s a2 a3) := by
  unfold State.addOther
  repeat' first
    | with_reducible assumption
    | (extract_lets +onlyGivenNames x
       first
       | (refine kept_cut (P := Kept W x) ?_ ?_; (on_goal 1 => subst x); (on_goal 2 => (intro _; try clear_value x)))
       | (try clear_value x))
    | (with_reducible first | apply kept_setEm | apply kept_wr | (intro _; rfl) | apply kept_ite)
    | split | (clear_value *; split) | dsimp only

theorem kept_addKey {a2 : (Nat × Nat × Nat) × Nat} (h : Kept W s) (_ : W.part .em) (_ : Logs W)
    (_ : W.fld (Evt.st .EM_ATT_FULL)) (_ : W.fld EM_ATT_STAT.OVERFLOW) (_ : W.fld EM_ATT_STAT.USED)
    (_ : W.fld EM_OTHER.ENERGY) : Kept W (State.addKey s a2) := by
  unfold State.addKey
  repeat' first
    | with_reducible assumption
    | (extract_lets +onlyGivenNames x
       first
       | (refine kept_cut (P := Kept W x) ?_ ?_; (on_goal 1 => subst x); (on_goal 2 => (intro _; try clear_value x)))
       | (try clear_value x))
    | (with_reducible first | apply kept_setAtt | apply kept_wr | apply kept_raise | apply kept_inc)
    | (with_reducible first | apply kept_addOther | (intro _; rfl) | apply kept_ite)
    | split | (clear_value *; split) | dsimp only

theorem kept_attClear (h : Kept W s) (_ : W.part .em) (_ : W.fld EM_ATT_CTRL.CLR) (_ : W.fld EM_ATT_STAT.USED)
    (_ : W.fld EM_OTHER.ENERGY) : Kept W (State.attClear s) := by
  unfold State.attClear
  repeat' first
    | with_reducible assumption
    | (extract_lets +onlyGivenNames x
       first
       | (refine kept_cut (P := Kept W x) ?_ ?_; (on_goal 1 => subst x); (on_goal 2 => (intro _; try clear_value x)))
       | (try clear_value x))
    | (with_reducible first | apply kept_wr | apply kept_setEm | apply kept_foldl | (intro _; rfl) | apply kept_ite)
    | (intro _ _ _ _; try beta_reduce) | (intro _ _ _; try beta_reduce) | (intro _ _; try beta_reduce)
    | split | (clear_value *; split) | dsimp only

theorem kept_addPart {a2 : Nat × Nat} (h : Kept W s) (_ : W.part .em) (_ : W.fld EM_PART_E.ENERGY) :
    Kept W (State.addPart s a2) := by
  unfold State.addPart
  repeat' first
    | with_reducible assumption
    | (extract_lets +onlyGivenNames x
       first
       | (refine kept_cut (P := Kept W x) ?_ ?_; (on_goal 1 => subst x); (on_goal 2 => (intro _; try clear_value x)))
       | (try clear_value x))
    | (with_reducible first | apply kept_setEm | apply kept_wr | (intro _; rfl) | apply kept_ite)
    | split | (clear_value *; split) | dsimp only

theorem kept_energyApply (h : Kept W s) (_ : W.part .em) (_ : W.part .rim) (_ : Logs W)
    (_ : W.fld (Evt.st .EM_ATT_FULL)) (_ : W.fld EM_ATT_CTRL.CLR) (_ : W.fld EM_ATT_STAT.OVERFLOW)
    (_ : W.fld EM_ATT_STAT.USED) (_ : W.fld EM_CL_E.E) (_ : W.fld EM_EDIE.EDIE) (_ : W.fld EM_EIN.EIN)
    (_ : W.fld EM_OTHER.ENERGY) (_ : W.fld EM_PART_E.ENERGY) (_ : W.fld EM_PDIE.P_TICK) (_ : W.fld EM_RG_E.E)
    (_ : W.fld EM_RG_S.S) (_ : W.fld EM_SPARSITY.S_TICK) (_ : W.fld EM_UNATT.UNATT) (_ : W.fld RG_I_L.I_ACT)
    (_ : W.fld RG_STAT.ACT_UNKNOWN) : Kept W (State.energyApply s) := by
  unfold State.energyApply
  repeat' first
    | with_reducible assumption
    | (extract_lets +onlyGivenNames x
       first
       | (refine kept_cut (P := Kept W x) ?_ ?_; (on_goal 1 => subst x); (on_goal 2 => (intro _; try clear_value x)))
       | (try clear_value x))
    | (with_reducible first | apply kept_wr | apply kept_setGrp | apply kept_wrB | apply kept_setEm)
    | (with_reducible first | apply kept_addPart | apply kept_attClear | apply kept_addKey | apply kept_upTo)
    | (with_reducible first | apply kept_foldl | (intro _; rfl) | apply kept_ite)
    | (intro _ _ _ _; try beta_reduce) | (intro _ _ _; try beta_reduce) | (intro _ _; try beta_reduce)
    | split | (clear_value *; split) | dsimp only

theorem kept_captureTags (h : Kept W s) (_ : W.part .em) : Kept W (State.captureTags s) := by
  unfold State.captureTags
  repeat' first
    | with_reducible assumption
    | (extract_lets +onlyGivenNames x
       first
       | (refine kept_cut (P := Kept W x) ?_ ?_; (on_goal 1 => subst x); (on_goal 2 => (intro _; try clear_value x)))
       | (try clear_value x))
    | (with_reducible first | apply kept_setClEm | apply kept_foldl | (intro _; rfl) | apply kept_ite)
    | (intro _ _ _ _; try beta_reduce) | (intro _ _ _; try beta_reduce) | (intro _ _; try beta_reduce)
    | split | (clear_value *; split) | dsimp only

theorem kept_energyBoundary (h : Kept W s) (_ : W.part .em) (_ : W.part .rim) (_ : W.part .spk) (_ : Logs W)
    (_ : W.fld (Evt.st .EM_ATT_FULL)) (_ : W.fld EM_ATT_CTRL.CLR) (_ : W.fld EM_ATT_STAT.OVERFLOW)
    (_ : W.fld EM_ATT_STAT.USED) (_ : W.fld EM_CL_E.E) (_ : W.fld EM_EDIE.EDIE) (_ : W.fld EM_EIN.EIN)
    (_ : W.fld EM_OTHER.ENERGY) (_ : W.fld EM_PART_E.ENERGY) (_ : W.fld EM_PDIE.P_1MS) (_ : W.fld EM_PDIE.P_TICK)
    (_ : W.fld EM_RESID.FAST_RES) (_ : W.fld EM_RG_E.E) (_ : W.fld EM_RG_P.P_EST) (_ : W.fld EM_RG_P.P_MEAS)
    (_ : W.fld EM_RG_S.S) (_ : W.fld EM_SPARSITY.S_1MS) (_ : W.fld EM_SPARSITY.S_TICK) (_ : W.fld EM_STAT.UNKNOWN_CL)
    (_ : W.fld EM_UNATT.UNATT) (_ : W.fld EM_UNKNOWN_CNT.CL_TICKS) (_ : W.fld RG_I_L.I_ACT)
    (_ : W.fld RG_STAT.ACT_UNKNOWN) : Kept W (State.energyBoundary s) := by
  unfold State.energyBoundary
  repeat' first
    | with_reducible assumption
    | (extract_lets +onlyGivenNames x
       first
       | (refine kept_cut (P := Kept W x) ?_ ?_; (on_goal 1 => subst x); (on_goal 2 => (intro _; try clear_value x)))
       | (try clear_value x))
    | (with_reducible first | apply kept_energyApply | apply kept_energyWindow | apply kept_clearFrames)
    | (with_reducible first | apply kept_captureTags | apply kept_attribute | (intro _; rfl) | apply kept_ite)
    | split | (clear_value *; split) | dsimp only

theorem kept_converging (h : Kept W s) (_ : W.part .em) (_ : W.fld EM_CAL_TIME.FAST_OK)
    (_ : W.fld EM_CAL_TIME.SLOW_OK) (_ : W.fld EM_STAT.CAL_STATE) : Kept W (State.converging s) := by
  unfold State.converging
  repeat' first
    | with_reducible assumption
    | (extract_lets +onlyGivenNames x
       first
       | (refine kept_cut (P := Kept W x) ?_ ?_; (on_goal 1 => subst x); (on_goal 2 => (intro _; try clear_value x)))
       | (try clear_value x))
    | (with_reducible first | apply kept_wr | apply kept_setEm | (intro _; rfl) | apply kept_ite)
    | split | (clear_value *; split) | dsimp only

theorem kept_calibrated (h : Kept W s) (_ : Logs W) (_ : W.fld (Evt.st .EM_CAL_DONE)) (_ : W.fld EM_CAL_TIME.FAST_OK)
    (_ : W.fld EM_STAT.CAL_STATE) : Kept W (State.calibrated s) := by
  unfold State.calibrated
  repeat' first
    | with_reducible assumption
    | (extract_lets +onlyGivenNames x
       first
       | (refine kept_cut (P := Kept W x) ?_ ?_; (on_goal 1 => subst x); (on_goal 2 => (intro _; try clear_value x)))
       | (try clear_value x))
    | (with_reducible first | apply kept_wr | apply kept_raise | apply kept_foldl | (intro _; rfl) | apply kept_ite)
    | (intro _ _ _ _; try beta_reduce) | (intro _ _ _; try beta_reduce) | (intro _ _; try beta_reduce)
    | split | (clear_value *; split) | dsimp only

theorem kept_gainFit {a2 : Nat} (h : Kept W s) (_ : W.part .em) (_ : Logs W) (_ : W.fld (Evt.st .EM_CAL_DONE))
    (_ : W.fld (Evt.st .EM_GAIN_CLAMP)) (_ : W.fld EM_CAL_TIME.FAST_OK) (_ : W.fld EM_CAL_TIME.SLOW_OK)
    (_ : W.fld EM_GAIN.GAIN) (_ : W.fld EM_STAT.CAL_STATE) (_ : W.fld EM_STAT.GAIN_CLAMP) :
    Kept W (State.gainFit s a2) := by
  unfold State.gainFit
  repeat' first
    | with_reducible assumption
    | (extract_lets +onlyGivenNames x
       first
       | (refine kept_cut (P := Kept W x) ?_ ?_; (on_goal 1 => subst x); (on_goal 2 => (intro _; try clear_value x)))
       | (try clear_value x))
    | (with_reducible first | apply kept_setEm | apply kept_wr | apply kept_calibrated | apply kept_wrBit)
    | (with_reducible first | apply kept_converging | apply kept_raise | (intro _; rfl) | apply kept_ite)
    | split | (clear_value *; split) | dsimp only

theorem kept_fitPublication {a2 : Nat} {a3 : Bool} (h : Kept W s) (_ : W.part .em) :
    Kept W (State.fitPublication s a2 a3) := by
  unfold State.fitPublication
  repeat' first
    | with_reducible assumption
    | (extract_lets +onlyGivenNames x
       first
       | (refine kept_cut (P := Kept W x) ?_ ?_; (on_goal 1 => subst x); (on_goal 2 => (intro _; try clear_value x)))
       | (try clear_value x))
    | (with_reducible first | apply kept_setEm | (intro _; rfl) | apply kept_ite)
    | split | (clear_value *; split) | dsimp only

theorem kept_rescaleGains {a2 : Nat → Rat} (h : Kept W s) (_ : W.fld EM_GAIN.GAIN) :
    Kept W (State.rescaleGains s a2) := by
  unfold State.rescaleGains
  repeat' first
    | with_reducible assumption
    | (extract_lets +onlyGivenNames x
       first
       | (refine kept_cut (P := Kept W x) ?_ ?_; (on_goal 1 => subst x); (on_goal 2 => (intro _; try clear_value x)))
       | (try clear_value x))
    | (with_reducible first | apply kept_wr | apply kept_upTo | apply kept_foldl | (intro _; rfl) | apply kept_ite)
    | (intro _ _ _ _; try beta_reduce) | (intro _ _ _; try beta_reduce) | (intro _ _; try beta_reduce)
    | split | (clear_value *; split) | dsimp only

theorem kept_meterFit (h : Kept W s) (_ : W.part .em) (_ : Logs W) (_ : W.fld (Evt.st .EM_CAL_DONE))
    (_ : W.fld (Evt.st .EM_COEF_CLAMP)) (_ : W.fld (Evt.st .EM_SLOW_SKIP)) (_ : W.fld EM_CAL_TIME.FAST_OK)
    (_ : W.fld EM_CAL_TIME.SLOW_OK) (_ : W.fld EM_CAL_TIME.SLOW_SKIPS) (_ : W.fld EM_COEF.EXP)
    (_ : W.fld EM_COEF.MANT) (_ : W.fld EM_GAIN.GAIN) (_ : W.fld EM_RESID.SLOW_RES) (_ : W.fld EM_STAT.CAL_STATE) :
    Kept W (State.meterFit s) := by
  unfold State.meterFit
  repeat' first
    | with_reducible assumption
    | (extract_lets +onlyGivenNames x
       first
       | (refine kept_cut (P := Kept W x) ?_ ?_; (on_goal 1 => subst x); (on_goal 2 => (intro _; try clear_value x)))
       | (try clear_value x))
    | (with_reducible first | apply kept_setEm | apply kept_raise | apply kept_incSat | apply kept_wr)
    | (with_reducible first | apply kept_rescaleGains | apply kept_wrS | apply kept_calibrated | apply kept_upTo)
    | (with_reducible first | (intro _; rfl) | apply kept_ite)
    | (intro _ _ _ _; try beta_reduce) | (intro _ _ _; try beta_reduce) | (intro _ _; try beta_reduce)
    | split | (clear_value *; split) | dsimp only

theorem kept_discardWindows {a2 : Bool} (h : Kept W s) (_ : W.part .em) : Kept W (State.discardWindows s a2) := by
  unfold State.discardWindows
  repeat' first
    | with_reducible assumption
    | (extract_lets +onlyGivenNames x
       first
       | (refine kept_cut (P := Kept W x) ?_ ?_; (on_goal 1 => subst x); (on_goal 2 => (intro _; try clear_value x)))
       | (try clear_value x))
    | (with_reducible first | apply kept_setEm | apply kept_upTo | (intro _; rfl) | apply kept_ite)
    | (intro _ _ _ _; try beta_reduce) | (intro _ _ _; try beta_reduce) | (intro _ _; try beta_reduce)
    | split | (clear_value *; split) | dsimp only

theorem kept_execModelImageTake (h : Kept W s) (_ : W.part .cad) (_ : W.part .em) (_ : W.part .emit)
    (_ : W.part .tasks) (_ : Logs W) (_ : W.fld (Evt.st .CAD_LATE)) (_ : W.fld CAD_DEFER_CNT.LATE)
    (_ : W.fld EM_CAL_TIME.FAST_OK) (_ : W.fld EM_CAL_TIME.SLOW_OK) (_ : W.fld EM_COEF.EXP) (_ : W.fld EM_COEF.MANT)
    (_ : W.fld EM_COEF.RAIL) (_ : W.fld EM_SEED.EXP) (_ : W.fld EM_SEED.MANT) (_ : W.fld EM_SEED.RAIL)
    (_ : W.fld EM_STAT.CAL_STATE) : KeptO W (execModelImageTake s) := by
  unfold execModelImageTake
  repeat' first
    | with_reducible assumption
    | (extract_lets +onlyGivenNames x
       first
       | (refine kept_cut (P := Kept W x) ?_ ?_; (on_goal 1 => subst x); (on_goal 2 => (intro _; try clear_value x)))
       | (try clear_value x))
    | (with_reducible first | apply kept_quiet | apply kept_takeEvent | apply kept_setEm | apply kept_wr)
    | (with_reducible first | apply kept_converging | apply kept_discardWindows | apply kept_upTo | apply keptO_next)
    | (with_reducible first | refine kept_ofSome (by assumption) ?_ | (intro _; rfl) | apply kept_ite)
    | (intro _ _ _ _; try beta_reduce) | (intro _ _ _; try beta_reduce) | (intro _ _; try beta_reduce)
    | split | (clear_value *; split) | dsimp only

end Sys2Proof.Machine
end

