-- ==== Sys2Proof/Laws/KeptVoltage.lean ====
section
/-! SUPPORT. What the operations of `Voltage.lean` keep (see `Kept.lean`). -/

set_option linter.unusedVariables false
set_option linter.unusedTactic false
set_option linter.unreachableTactic false
set_option linter.tactic.unusedName false

namespace Sys2Proof.Machine

variable {W : Bounds} {s : State}

theorem kept_setMgCl {a2 : Nat} {a3 : MgCl → MgCl} (h : Kept W s) (_ : W.part .mg) :
    Kept W (State.setMgCl s a2 a3) := by
  unfold State.setMgCl
  repeat' first
    | with_reducible assumption
    | (extract_lets +onlyGivenNames x
       first
       | (refine kept_cut (P := Kept W x) ?_ ?_; (on_goal 1 => subst x); (on_goal 2 => (intro _; try clear_value x)))
       | (try clear_value x))
    | (with_reducible first | apply kept_setMg | (intro _; rfl) | apply kept_ite)
    | split | (clear_value *; split) | dsimp only

theorem kept_setMgSect {a2 : Nat} {a3 : MgSect → MgSect} (h : Kept W s) (_ : W.part .mg) :
    Kept W (State.setMgSect s a2 a3) := by
  unfold State.setMgSect
  repeat' first
    | with_reducible assumption
    | (extract_lets +onlyGivenNames x
       first
       | (refine kept_cut (P := Kept W x) ?_ ?_; (on_goal 1 => subst x); (on_goal 2 => (intro _; try clear_value x)))
       | (try clear_value x))
    | (with_reducible first | apply kept_setMg | (intro _; rfl) | apply kept_ite)
    | split | (clear_value *; split) | dsimp only

theorem kept_askVoltage {a2 : Nat} {a3 : Nat} {a4 : Nat} {a5 : Nat} (h : Kept W s) (_ : W.part .emit) (_ : W.part .gl)
    (_ : W.fld GL_STAT.OUTSTANDING) (_ : W.fld GL_STAT.SEQ) (_ : W.fld GL_STAT.VREQ) :
    Kept W (State.askVoltage s a2 a3 a4 a5) := by
  unfold State.askVoltage
  repeat' first
    | with_reducible assumption
    | (extract_lets +onlyGivenNames x
       first
       | (refine kept_cut (P := Kept W x) ?_ ?_; (on_goal 1 => subst x); (on_goal 2 => (intro _; try clear_value x)))
       | (try clear_value x))
    | (with_reducible first | apply kept_setVgrp | apply kept_requestVoltage | (intro _; rfl) | apply kept_ite)
    | split | (clear_value *; split) | dsimp only

theorem kept_hubVoltage (h : Kept W s) (_ : W.part .emit) (_ : W.part .gl) (_ : W.fld GL_STAT.OUTSTANDING)
    (_ : W.fld GL_STAT.SEQ) (_ : W.fld GL_STAT.VREQ) : Kept W (State.hubVoltage s) := by
  unfold State.hubVoltage
  repeat' first
    | with_reducible assumption
    | (extract_lets +onlyGivenNames x
       first
       | (refine kept_cut (P := Kept W x) ?_ ?_; (on_goal 1 => subst x); (on_goal 2 => (intro _; try clear_value x)))
       | (try clear_value x))
    | (with_reducible first | apply kept_askVoltage | apply kept_upTo | (intro _; rfl) | apply kept_ite)
    | (intro _ _ _ _; try beta_reduce) | (intro _ _ _; try beta_reduce) | (intro _ _; try beta_reduce)
    | split | (clear_value *; split) | dsimp only

end Sys2Proof.Machine
end

