-- ==== Sys2Proof/Laws/KeptBudget.lean ====
section
/-! SUPPORT. What the operations of `Budget.lean` keep (see `Kept.lean`). -/

set_option linter.unusedVariables false
set_option linter.unusedTactic false
set_option linter.unreachableTactic false
set_option linter.tactic.unusedName false

namespace Sys2Proof.Machine

variable {W : Bounds} {s : State}

theorem kept_sampleCapSet {a2 : Nat} (h : Kept W s) (_ : W.part .bg) : Kept W (State.sampleCapSet s a2) := by
  unfold State.sampleCapSet
  repeat' first
    | with_reducible assumption
    | (extract_lets +onlyGivenNames x
       first
       | (refine kept_cut (P := Kept W x) ?_ ?_; (on_goal 1 => subst x); (on_goal 2 => (intro _; try clear_value x)))
       | (try clear_value x))
    | (with_reducible first | apply kept_setBg | (intro _; rfl) | apply kept_ite)
    | (intro _ _ _ _; try beta_reduce) | (intro _ _ _; try beta_reduce) | (intro _ _; try beta_reduce)
    | split | (clear_value *; split) | dsimp only

theorem kept_capBoundary (h : Kept W s) (_ : Logs W) (_ : W.fld (Evt.st .BG_CAP_FAULT)) (_ : W.fld BG_CAP.P_CAP)
    (_ : W.fld BG_CAP_IN.PWM_VAL) (_ : W.fld BG_CAP_IN.SET_VAL) (_ : W.fld BG_CAP_SRC.VALID)
    (_ : W.fld BG_STAT.CAP_SRC) : Kept W (State.capBoundary s) := by
  unfold State.capBoundary
  repeat' first
    | with_reducible assumption
    | (extract_lets +onlyGivenNames x
       first
       | (refine kept_cut (P := Kept W x) ?_ ?_; (on_goal 1 => subst x); (on_goal 2 => (intro _; try clear_value x)))
       | (try clear_value x))
    | (with_reducible first | apply kept_raiseLog | apply kept_wr | apply kept_foldl | (intro _; rfl))
    | (with_reducible first | apply kept_ite)
    | (intro _ _ _ _; try beta_reduce) | (intro _ _ _; try beta_reduce) | (intro _ _; try beta_reduce)
    | split | (clear_value *; split) | dsimp only

theorem kept_execCapPwmEdge {a1 : Bool} {a2 : Nat} (h : Kept W s) (_ : W.part .bg) (_ : W.part .emit) :
    KeptO W (execCapPwmEdge a1 a2 s) := by
  unfold execCapPwmEdge
  repeat' first
    | with_reducible assumption
    | (extract_lets +onlyGivenNames x
       first
       | (refine kept_cut (P := Kept W x) ?_ ?_; (on_goal 1 => subst x); (on_goal 2 => (intro _; try clear_value x)))
       | (try clear_value x))
    | (with_reducible first | apply kept_quiet | apply kept_setBg | apply keptO_next | (intro _; rfl))
    | (with_reducible first | apply kept_ite)
    | (intro _ _ _ _; try beta_reduce) | (intro _ _ _; try beta_reduce) | (intro _ _; try beta_reduce)
    | split | (clear_value *; split) | dsimp only

theorem kept_execCapPwmNoEdge (h : Kept W s) (_ : W.part .bg) (_ : W.part .emit) : KeptO W (execCapPwmNoEdge s) := by
  unfold execCapPwmNoEdge
  repeat' first
    | with_reducible assumption
    | (extract_lets +onlyGivenNames x
       first
       | (refine kept_cut (P := Kept W x) ?_ ?_; (on_goal 1 => subst x); (on_goal 2 => (intro _; try clear_value x)))
       | (try clear_value x))
    | (with_reducible first | apply kept_quiet | apply kept_setBg | apply keptO_next | (intro _; rfl))
    | (with_reducible first | apply kept_ite)
    | (intro _ _ _ _; try beta_reduce) | (intro _ _ _; try beta_reduce) | (intro _ _; try beta_reduce)
    | split | (clear_value *; split) | dsimp only

theorem kept_takeParts (h : Kept W s) (_ : W.part .bg) : Kept W (State.takeParts s) := by
  unfold State.takeParts
  repeat' first
    | with_reducible assumption
    | (extract_lets +onlyGivenNames x
       first
       | (refine kept_cut (P := Kept W x) ?_ ?_; (on_goal 1 => subst x); (on_goal 2 => (intro _; try clear_value x)))
       | (try clear_value x))
    | (with_reducible first | apply kept_setBg | apply kept_upTo | (intro _; rfl) | apply kept_ite)
    | (intro _ _ _ _; try beta_reduce) | (intro _ _ _; try beta_reduce) | (intro _ _; try beta_reduce)
    | split | (clear_value *; split) | dsimp only

theorem kept_countBreaches (h : Kept W s) (_ : W.part .bg) (_ : W.fld BG_BREACH.TICKS) (_ : W.fld BG_PSTAT.BREACH)
    (_ : W.fld BG_PSTAT.CAUSE) (_ : W.fld BG_PSTAT.ON) : Kept W (State.countBreaches s) := by
  unfold State.countBreaches
  repeat' first
    | with_reducible assumption
    | (extract_lets +onlyGivenNames x
       first
       | (refine kept_cut (P := Kept W x) ?_ ?_; (on_goal 1 => subst x); (on_goal 2 => (intro _; try clear_value x)))
       | (try clear_value x))
    | (with_reducible first | apply kept_wr | apply kept_inc | apply kept_setBg | apply kept_upTo | (intro _; rfl))
    | (with_reducible first | apply kept_ite)
    | (intro _ _ _ _; try beta_reduce) | (intro _ _ _; try beta_reduce) | (intro _ _; try beta_reduce)
    | split | (clear_value *; split) | dsimp only

theorem kept_priceTick (h : Kept W s) (_ : W.part .bg) : Kept W (State.priceTick s) := by
  unfold State.priceTick
  repeat' first
    | with_reducible assumption
    | (extract_lets +onlyGivenNames x
       first
       | (refine kept_cut (P := Kept W x) ?_ ?_; (on_goal 1 => subst x); (on_goal 2 => (intro _; try clear_value x)))
       | (try clear_value x))
    | (with_reducible first | apply kept_setBg | (intro _; rfl) | apply kept_ite)
    | (intro _ _ _ _; try beta_reduce) | (intro _ _ _; try beta_reduce) | (intro _ _; try beta_reduce)
    | split | (clear_value *; split) | dsimp only

theorem kept_classRatio {a2 : Nat} (h : Kept W s) (_ : W.part .free) : Kept2 W (State.classRatio s a2) := by
  unfold State.classRatio
  repeat' first
    | with_reducible assumption
    | (extract_lets +onlyGivenNames x
       first
       | (refine kept_cut (P := Kept W x) ?_ ?_; (on_goal 1 => subst x); (on_goal 2 => (intro _; try clear_value x)))
       | (refine kept_cut (P := Kept2 W x) ?_ ?_; (on_goal 1 => subst x); (on_goal 2 => (intro _; try clear_value x)))
       | (try clear_value x))
    | (with_reducible first | apply kept_takeFree | apply kept2_mk | (apply kept2_snd; assumption))
    | (with_reducible first | (apply kept2_snd; apply kept_takeFree) | refine kept_of2 (by assumption) ?_)
    | (with_reducible first | (intro _; rfl) | apply kept_ite)
    | split | (clear_value *; split) | dsimp only

theorem kept_classDrop (h : Kept W s) (_ : W.part .bg) (_ : Logs W) (_ : W.fld (Evt.st .BG_DROP))
    (_ : W.fld BG_DROP_CNT.A) (_ : W.fld BG_DROP_CNT.B) (_ : W.fld BG_DROP_CNT.C) (_ : W.fld BG_STAT.IN_FORCE) :
    Kept W (State.classDrop s) := by
  unfold State.classDrop
  repeat' first
    | with_reducible assumption
    | (extract_lets +onlyGivenNames x
       first
       | (refine kept_cut (P := Kept W x) ?_ ?_; (on_goal 1 => subst x); (on_goal 2 => (intro _; try clear_value x)))
       | (try clear_value x))
    | (with_reducible first | apply kept_wrBit | apply kept_setBg | apply kept_inc | apply kept_raiseLog)
    | (with_reducible first | (intro _; rfl) | apply kept_ite)
    | (intro _ _ _ _; try beta_reduce) | (intro _ _ _; try beta_reduce) | (intro _ _; try beta_reduce)
    | split | (clear_value *; split) | dsimp only

theorem kept_evaluateH (h : Kept W s) (_ : W.part .bg) (_ : Logs W) (_ : W.fld (Evt.st .BG_DROP))
    (_ : W.fld BG_DROP_CNT.A) (_ : W.fld BG_DROP_CNT.B) (_ : W.fld BG_DROP_CNT.C) (_ : W.fld BG_STAT.IN_FORCE) :
    Kept W (State.evaluateH s) := by
  unfold State.evaluateH
  repeat' first
    | with_reducible assumption
    | (extract_lets +onlyGivenNames x
       first
       | (refine kept_cut (P := Kept W x) ?_ ?_; (on_goal 1 => subst x); (on_goal 2 => (intro _; try clear_value x)))
       | (try clear_value x))
    | (with_reducible first | apply kept_classDrop | apply kept_setBg | (intro _; rfl) | apply kept_ite)
    | (intro _ _ _ _; try beta_reduce) | (intro _ _ _; try beta_reduce) | (intro _ _; try beta_reduce)
    | split | (clear_value *; split) | dsimp only

theorem kept_execBudgetPeriod (h : Kept W s) (_ : W.part .bg) (_ : W.part .car) (_ : W.part .emit) (_ : W.part .free)
    (_ : Logs W) (_ : W.fld (Evt.st .BG_CAP_BELOW_MIN)) (_ : W.fld (Evt.st .BG_DROP)) (_ : W.fld BG_ALLOC_CM.COMP)
    (_ : W.fld BG_ALLOC_CM.MEM) (_ : W.fld BG_ALLOC_L.LINK) (_ : W.fld BG_DROP_CNT.A) (_ : W.fld BG_DROP_CNT.B)
    (_ : W.fld BG_DROP_CNT.C) (_ : W.fld BG_LIMIT.BW) (_ : W.fld BG_LIMIT.LNK8) (_ : W.fld BG_LIMIT.LNK9)
    (_ : W.fld BG_SECT.PT_D) (_ : W.fld BG_STAT.CAP_BELOW_MIN) (_ : W.fld BG_STAT.IN_FORCE) :
    KeptO W (execBudgetPeriod s) := by
  unfold execBudgetPeriod
  repeat' first
    | with_reducible assumption
    | (extract_lets +onlyGivenNames x
       first
       | (refine kept_cut (P := Kept W x) ?_ ?_; (on_goal 1 => subst x); (on_goal 2 => (intro _; try clear_value x)))
       | (refine kept_cut (P := Kept2 W x) ?_ ?_; (on_goal 1 => subst x); (on_goal 2 => (intro _; try clear_value x)))
       | (try clear_value x))
    | (with_reducible first | apply kept_quiet | apply kept_setBg | apply kept_classRatio | apply kept_wr)
    | (with_reducible first | apply kept_wrB | apply kept_raise | apply kept_setCar | apply kept_evaluateH)
    | (with_reducible first | apply kept_upTo | apply kept_foldl | apply keptO_next | (apply kept2_snd; assumption))
    | (with_reducible first | (apply kept2_snd; apply kept_classRatio) | refine kept_of2 (by assumption) ?_)
    | (with_reducible first | (intro _; rfl) | apply kept_ite)
    | (intro _ _ _ _; try beta_reduce) | (intro _ _ _; try beta_reduce) | (intro _ _; try beta_reduce)
    | split | (clear_value *; split) | dsimp only

theorem kept_execClassRestore (h : Kept W s) (_ : W.part .bg) (_ : W.part .emit) (_ : Logs W)
    (_ : W.fld (Evt.st .BG_RESTORE)) (_ : W.fld BG_STAT.IN_FORCE) : KeptO W (execClassRestore s) := by
  unfold execClassRestore
  repeat' first
    | with_reducible assumption
    | (extract_lets +onlyGivenNames x
       first
       | (refine kept_cut (P := Kept W x) ?_ ?_; (on_goal 1 => subst x); (on_goal 2 => (intro _; try clear_value x)))
       | (try clear_value x))
    | (with_reducible first | apply kept_quiet | apply kept_wrBit | apply kept_raise | apply kept_setBg)
    | (with_reducible first | apply keptO_next | (intro _; rfl) | apply kept_ite)
    | (intro _ _ _ _; try beta_reduce) | (intro _ _ _; try beta_reduce) | (intro _ _; try beta_reduce)
    | split | (clear_value *; split) | dsimp only

theorem kept_setHint {a2 : Nat} {a3 : Option Hint} (h : Kept W s) (_ : W.part .bg) :
    Kept W (State.setHint s a2 a3) := by
  unfold State.setHint
  repeat' first
    | with_reducible assumption
    | (extract_lets +onlyGivenNames x
       first
       | (refine kept_cut (P := Kept W x) ?_ ?_; (on_goal 1 => subst x); (on_goal 2 => (intro _; try clear_value x)))
       | (try clear_value x))
    | (with_reducible first | apply kept_setBg | (intro _; rfl) | apply kept_ite)
    | (intro _ _ _ _; try beta_reduce) | (intro _ _ _; try beta_reduce) | (intro _ _; try beta_reduce)
    | split | (clear_value *; split) | dsimp only

theorem kept_showHints (h : Kept W s) (_ : W.fld BG_HINT_STAT.ACTIVE) (_ : W.fld BG_HINT_STAT.HELD)
    (_ : W.fld BG_SECT.HINT) : Kept W (State.showHints s) := by
  unfold State.showHints
  repeat' first
    | with_reducible assumption
    | (extract_lets +onlyGivenNames x
       first
       | (refine kept_cut (P := Kept W x) ?_ ?_; (on_goal 1 => subst x); (on_goal 2 => (intro _; try clear_value x)))
       | (try clear_value x))
    | (with_reducible first | apply kept_wr | apply kept_upTo | apply kept_foldl | (intro _; rfl) | apply kept_ite)
    | (intro _ _ _ _; try beta_reduce) | (intro _ _ _; try beta_reduce) | (intro _ _; try beta_reduce)
    | split | (clear_value *; split) | dsimp only

theorem kept_restageHints (h : Kept W s) (_ : W.part .eng) : Kept W (State.restageHints s) := by
  unfold State.restageHints
  repeat' first
    | with_reducible assumption
    | (extract_lets +onlyGivenNames x
       first
       | (refine kept_cut (P := Kept W x) ?_ ?_; (on_goal 1 => subst x); (on_goal 2 => (intro _; try clear_value x)))
       | (try clear_value x))
    | (with_reducible first | apply kept_setEng | (intro _; rfl) | apply kept_ite)
    | (intro _ _ _ _; try beta_reduce) | (intro _ _ _; try beta_reduce) | (intro _ _; try beta_reduce)
    | split | (clear_value *; split) | dsimp only

theorem kept_withdraw {a2 : Nat} (h : Kept W s) (_ : W.part .bg) (_ : W.part .cad) (_ : W.part .emit)
    (_ : W.part .eng) (_ : W.part .gl) (_ : W.part .tasks) (_ : W.fld BG_HINT_STAT.ACTIVE)
    (_ : W.fld BG_HINT_STAT.HELD) (_ : W.fld BG_SECT.HINT) (_ : W.fld GL_STAT.OUTSTANDING) (_ : W.fld GL_STAT.SEQ)
    (_ : W.fld GL_STAT.VREQ) : Kept W (s.withdraw a2) := by
  unfold State.withdraw
  split
  · exact h
  · extract_lets q u
    have h1 : Kept W (s.setHint a2 none) := by
      apply kept_setHint h <;> assumption
    have h2 : Kept W ((s.setHint a2 none).setCad (fun c => { c with queue := q })) :=
      kept_unqueue h1 List.filter_sublist ‹_› ‹_›
    have h3 : Kept W ((s.setHint a2 none).setCad (fun c => { c with queue := q })).showHints := by
      apply kept_showHints h2 <;> assumption
    have h4 : Kept W u := by
      apply kept_restageHints h3 <;> assumption
    clear_value u
    repeat' first
      | with_reducible assumption
      | (extract_lets +onlyGivenNames x
         first
         | (refine kept_cut (P := Kept W x) ?_ ?_; (on_goal 1 => subst x); (on_goal 2 => (intro _; try clear_value x)))
         | (try clear_value x))
      | (with_reducible first | apply kept_upTo | apply kept_askVoltage | (intro _; rfl) | apply kept_ite)
      | (intro _ _ _ _; try beta_reduce) | (intro _ _ _; try beta_reduce) | (intro _ _; try beta_reduce)
      | split | (clear_value *; split) | dsimp only

theorem kept_execHintPrestage (h : Kept W s) (_ : W.part .bg) (_ : W.part .cad) (_ : W.part .cmd) (_ : W.part .emit)
    (_ : W.part .gl) (_ : W.part .rim) (_ : W.part .tasks) (_ : Logs W) (_ : W.fld (Evt.st .CAD_LATE))
    (_ : W.fld BG_HINT_STAT.ACTIVE) (_ : W.fld BG_HINT_STAT.HELD) (_ : W.fld BG_SECT.HINT)
    (_ : W.fld CAD_DEFER_CNT.LATE) (_ : W.fld GL_STAT.OUTSTANDING) (_ : W.fld GL_STAT.SEQ) (_ : W.fld GL_STAT.VREQ)
    (_ : W.fld SWD_STAT.PEND) : KeptO W (execHintPrestage s) := by
  unfold execHintPrestage
  repeat' first
    | with_reducible assumption
    | (extract_lets +onlyGivenNames x
       first
       | (refine kept_cut (P := Kept W x) ?_ ?_; (on_goal 1 => subst x); (on_goal 2 => (intro _; try clear_value x)))
       | (try clear_value x))
    | (with_reducible first | apply kept_quiet | apply kept_takeEvent | apply kept_showHints | apply kept_setHint)
    | (with_reducible first | apply kept_requestOn | apply kept_askVoltage | apply kept_foldl | apply kept_upTo)
    | (with_reducible first | apply keptO_next | refine kept_ofSome (by assumption) ?_ | (intro _; rfl))
    | (with_reducible first | apply kept_ite)
    | (intro _ _ _ _; try beta_reduce) | (intro _ _ _; try beta_reduce) | (intro _ _; try beta_reduce)
    | split | (clear_value *; split) | dsimp only

theorem kept_hintWindow (h : Kept W s) (_ : W.part .bg) : Kept W (State.hintWindow s) := by
  unfold State.hintWindow
  repeat' first
    | with_reducible assumption
    | (extract_lets +onlyGivenNames x
       first
       | (refine kept_cut (P := Kept W x) ?_ ?_; (on_goal 1 => subst x); (on_goal 2 => (intro _; try clear_value x)))
       | (try clear_value x))
    | (with_reducible first | apply kept_setHint | apply kept_upTo | (intro _; rfl) | apply kept_ite)
    | (intro _ _ _ _; try beta_reduce) | (intro _ _ _; try beta_reduce) | (intro _ _; try beta_reduce)
    | split | (clear_value *; split) | dsimp only

theorem kept_hintTick (h : Kept W s) (_ : W.part .bg) (_ : W.fld BG_HINT_CNT.MISMATCH) :
    Kept W (State.hintTick s) := by
  unfold State.hintTick
  repeat' first
    | with_reducible assumption
    | (extract_lets +onlyGivenNames x
       first
       | (refine kept_cut (P := Kept W x) ?_ ?_; (on_goal 1 => subst x); (on_goal 2 => (intro _; try clear_value x)))
       | (try clear_value x))
    | (with_reducible first | apply kept_inc | apply kept_setHint | apply kept_upTo | (intro _; rfl) | apply kept_ite)
    | (intro _ _ _ _; try beta_reduce) | (intro _ _ _; try beta_reduce) | (intro _ _; try beta_reduce)
    | split | (clear_value *; split) | dsimp only

theorem kept_execHintExpiry {a1 : Nat} (h : Kept W s) (_ : W.part .bg) (_ : W.part .cad) (_ : W.part .emit)
    (_ : W.part .eng) (_ : W.part .gl) (_ : W.part .tasks) (_ : Logs W) (_ : W.fld (Evt.st .BG_HINT_EXPIRED))
    (_ : W.fld BG_HINT_CNT.EXPIRED) (_ : W.fld BG_HINT_STAT.ACTIVE) (_ : W.fld BG_HINT_STAT.HELD)
    (_ : W.fld BG_SECT.HINT) (_ : W.fld GL_STAT.OUTSTANDING) (_ : W.fld GL_STAT.SEQ) (_ : W.fld GL_STAT.VREQ) :
    KeptO W (execHintExpiry a1 s) := by
  unfold execHintExpiry
  repeat' first
    | with_reducible assumption
    | (extract_lets +onlyGivenNames x
       first
       | (refine kept_cut (P := Kept W x) ?_ ?_; (on_goal 1 => subst x); (on_goal 2 => (intro _; try clear_value x)))
       | (try clear_value x))
    | (with_reducible first | apply kept_quiet | apply kept_withdraw | apply kept_inc | apply kept_raise)
    | (with_reducible first | apply keptO_next | (intro _; rfl) | apply kept_ite)
    | split | (clear_value *; split) | dsimp only

theorem kept_execHintEnd {a1 : Nat} (h : Kept W s) (_ : W.part .bg) (_ : W.part .cad) (_ : W.part .emit)
    (_ : W.part .eng) (_ : W.part .gl) (_ : W.part .tasks) (_ : W.fld BG_HINT_STAT.ACTIVE)
    (_ : W.fld BG_HINT_STAT.HELD) (_ : W.fld BG_SECT.HINT) (_ : W.fld GL_STAT.OUTSTANDING) (_ : W.fld GL_STAT.SEQ)
    (_ : W.fld GL_STAT.VREQ) : KeptO W (execHintEnd a1 s) := by
  unfold execHintEnd
  repeat' first
    | with_reducible assumption
    | (extract_lets +onlyGivenNames x
       first
       | (refine kept_cut (P := Kept W x) ?_ ?_; (on_goal 1 => subst x); (on_goal 2 => (intro _; try clear_value x)))
       | (try clear_value x))
    | (with_reducible first | apply kept_quiet | apply kept_withdraw | apply keptO_next | (intro _; rfl))
    | (with_reducible first | apply kept_ite)
    | split | (clear_value *; split) | dsimp only

theorem kept_idleTick (h : Kept W s) (_ : W.part .bg) : Kept W (State.idleTick s) := by
  unfold State.idleTick
  repeat' first
    | with_reducible assumption
    | (extract_lets +onlyGivenNames x
       first
       | (refine kept_cut (P := Kept W x) ?_ ?_; (on_goal 1 => subst x); (on_goal 2 => (intro _; try clear_value x)))
       | (try clear_value x))
    | (with_reducible first | apply kept_setBg | apply kept_foldl | (intro _; rfl) | apply kept_ite)
    | (intro _ _ _ _; try beta_reduce) | (intro _ _ _; try beta_reduce) | (intro _ _; try beta_reduce)
    | split | (clear_value *; split) | dsimp only

theorem kept_execIdleGate {a1 : Nat} (h : Kept W s) (_ : W.part .cmd) (_ : W.part .emit) (_ : W.part .rim)
    (_ : W.fld SWD_STAT.PEND) (_ : W.fld SWD_STAT.WAIT_SLOT) : KeptO W (execIdleGate a1 s) := by
  unfold execIdleGate
  repeat' first
    | with_reducible assumption
    | (extract_lets +onlyGivenNames x
       first
       | (refine kept_cut (P := Kept W x) ?_ ?_; (on_goal 1 => subst x); (on_goal 2 => (intro _; try clear_value x)))
       | (try clear_value x))
    | (with_reducible first | apply kept_quiet | apply kept_setDom | apply kept_requestOff | apply keptO_next)
    | (with_reducible first | (intro _; rfl) | apply kept_ite)
    | split | (clear_value *; split) | dsimp only

theorem kept_execWaitTimeout {a1 : Nat} (h : Kept W s) (_ : W.part .bg) (_ : W.part .cmd) (_ : W.part .emit)
    (_ : W.part .rim) (_ : Logs W) (_ : W.fld (Evt.st .BG_WAIT_FAIL)) (_ : W.fld BG_WAIT_CNT.FAILS)
    (_ : W.fld BG_WAIT_CNT.TIMEOUTS) (_ : W.fld SWD_STAT.PEND) (_ : W.fld SWD_STAT.WAIT_SLOT) :
    KeptO W (execWaitTimeout a1 s) := by
  unfold execWaitTimeout
  repeat' first
    | with_reducible assumption
    | (extract_lets +onlyGivenNames x
       first
       | (refine kept_cut (P := Kept W x) ?_ ?_; (on_goal 1 => subst x); (on_goal 2 => (intro _; try clear_value x)))
       | (try clear_value x))
    | (with_reducible first | apply kept_quiet | apply kept_wr | apply kept_inc | apply kept_endRequest)
    | (with_reducible first | apply kept_failRequest | apply kept_raise | apply kept_setBg | apply kept_setDom)
    | (with_reducible first | apply keptO_next | (intro _; rfl) | apply kept_ite)
    | (intro _ _ _ _; try beta_reduce) | (intro _ _ _; try beta_reduce) | (intro _ _; try beta_reduce)
    | split | (clear_value *; split) | dsimp only

theorem kept_execBackoffRetry {a1 : Nat} (h : Kept W s) (_ : W.part .emit) (_ : W.part .rim) :
    KeptO W (execBackoffRetry a1 s) := by
  unfold execBackoffRetry
  repeat' first
    | with_reducible assumption
    | (extract_lets +onlyGivenNames x
       first
       | (refine kept_cut (P := Kept W x) ?_ ?_; (on_goal 1 => subst x); (on_goal 2 => (intro _; try clear_value x)))
       | (try clear_value x))
    | (with_reducible first | apply kept_quiet | apply kept_setDom | apply keptO_next | (intro _; rfl))
    | (with_reducible first | apply kept_ite)
    | split | (clear_value *; split) | dsimp only

theorem kept_budgetHardware (h : Kept W s) (_ : W.part .bg) (_ : W.fld BG_BREACH.TICKS) (_ : W.fld BG_PSTAT.BREACH)
    (_ : W.fld BG_PSTAT.CAUSE) (_ : W.fld BG_PSTAT.ON) (_ : W.fld BG_STAT.DROP_HOLD) :
    Kept W (State.budgetHardware s) := by
  unfold State.budgetHardware
  repeat' first
    | with_reducible assumption
    | (extract_lets +onlyGivenNames x
       first
       | (refine kept_cut (P := Kept W x) ?_ ?_; (on_goal 1 => subst x); (on_goal 2 => (intro _; try clear_value x)))
       | (try clear_value x))
    | (with_reducible first | apply kept_hintWindow | apply kept_idleTick | apply kept_takeParts)
    | (with_reducible first | apply kept_countBreaches | apply kept_wrB | (intro _; rfl) | apply kept_ite)
    | split | (clear_value *; split) | dsimp only

theorem kept_budgetFirmware (h : Kept W s) (_ : W.part .bg) (_ : Logs W) (_ : W.fld (Evt.st .BG_CAP_FAULT))
    (_ : W.fld BG_CAP.P_CAP) (_ : W.fld BG_CAP_IN.PWM_VAL) (_ : W.fld BG_CAP_IN.SET_VAL) (_ : W.fld BG_CAP_SRC.VALID)
    (_ : W.fld BG_HINT_CNT.MISMATCH) (_ : W.fld BG_SECT.FLOOR) (_ : W.fld BG_STAT.CAP_SRC) :
    Kept W (State.budgetFirmware s) := by
  unfold State.budgetFirmware
  repeat' first
    | with_reducible assumption
    | (extract_lets +onlyGivenNames x
       first
       | (refine kept_cut (P := Kept W x) ?_ ?_; (on_goal 1 => subst x); (on_goal 2 => (intro _; try clear_value x)))
       | (try clear_value x))
    | (with_reducible first | apply kept_capBoundary | apply kept_wr | apply kept_hintTick | apply kept_priceTick)
    | (with_reducible first | apply kept_upTo | (intro _; rfl) | apply kept_ite)
    | (intro _ _ _ _; try beta_reduce) | (intro _ _ _; try beta_reduce) | (intro _ _; try beta_reduce)
    | split | (clear_value *; split) | dsimp only

end Sys2Proof.Machine
end

