-- ==== Sys2Proof/Laws/KeptEngineCtl.lean ====
section
/-! SUPPORT. What the operations of `EngineCtl.lean` keep (see `Kept.lean`). -/

set_option linter.unusedVariables false
set_option linter.unusedTactic false
set_option linter.unreachableTactic false
set_option linter.tactic.unusedName false

namespace Sys2Proof.Machine

variable {W : Bounds} {s : State}

theorem kept_setSlew {a2 : Nat} {a3 : Nat} (h : Kept W s) (_ : W.part .eng) (_ : W.fld ENG_SLEWV.OUT) :
    Kept W (State.setSlew s a2 a3) := by
  unfold State.setSlew
  repeat' first
    | with_reducible assumption
    | (extract_lets +onlyGivenNames x
       first
       | (refine kept_cut (P := Kept W x) ?_ ?_; (on_goal 1 => subst x); (on_goal 2 => (intro _; try clear_value x)))
       | (try clear_value x))
    | (with_reducible first | apply kept_wr | apply kept_setEng | (intro _; rfl) | apply kept_ite)
    | split | (clear_value *; split) | dsimp only

theorem kept_giveTarget {a2 : Nat} {a3 : Nat} (h : Kept W s) (_ : W.part .eng) (_ : W.fld ENG_SLEWV.OUT)
    (_ : W.fld ENG_SLEWV.TARGET) : Kept W (State.giveTarget s a2 a3) := by
  unfold State.giveTarget
  repeat' first
    | with_reducible assumption
    | (extract_lets +onlyGivenNames x
       first
       | (refine kept_cut (P := Kept W x) ?_ ?_; (on_goal 1 => subst x); (on_goal 2 => (intro _; try clear_value x)))
       | (try clear_value x))
    | (with_reducible first | apply kept_wr | apply kept_setSlew | (intro _; rfl) | apply kept_ite)
    | split | (clear_value *; split) | dsimp only

theorem kept_slewTick (h : Kept W s) (_ : W.part .eng) (_ : W.fld ENG_SLEWV.OUT) (_ : W.fld ENG_SLEWV.TARGET) :
    Kept W (State.slewTick s) := by
  unfold State.slewTick
  repeat' first
    | with_reducible assumption
    | (extract_lets +onlyGivenNames x
       first
       | (refine kept_cut (P := Kept W x) ?_ ?_; (on_goal 1 => subst x); (on_goal 2 => (intro _; try clear_value x)))
       | (try clear_value x))
    | (with_reducible first | apply kept_giveTarget | apply kept_setSlew | apply kept_upTo | (intro _; rfl))
    | (with_reducible first | apply kept_ite)
    | (intro _ _ _ _; try beta_reduce) | (intro _ _ _; try beta_reduce) | (intro _ _; try beta_reduce)
    | split | (clear_value *; split) | dsimp only

theorem kept_latchCurrents (h : Kept W s) (_ : W.part .free) : Kept2 W (State.latchCurrents s) := by
  unfold State.latchCurrents
  repeat' first
    | with_reducible assumption
    | (extract_lets +onlyGivenNames x
       first
       | (refine kept_cut (P := Kept W x) ?_ ?_; (on_goal 1 => subst x); (on_goal 2 => (intro _; try clear_value x)))
       | (refine kept_cut (P := Kept2 W x) ?_ ?_; (on_goal 1 => subst x); (on_goal 2 => (intro _; try clear_value x)))
       | (try clear_value x))
    | (with_reducible first | apply kept_takeFree | apply kept_foldl | apply kept2_foldl | apply kept2_mk)
    | (with_reducible first | (apply kept2_snd; assumption) | (apply kept2_snd; apply kept_takeFree))
    | (with_reducible first | refine kept_of2 (by assumption) ?_ | (intro _; rfl) | apply kept_ite)
    | (intro _ _ _ _; try beta_reduce) | (intro _ _ _; try beta_reduce) | (intro _ _; try beta_reduce)
    | split | (clear_value *; split) | dsimp only

theorem kept_writeLatch {a2 : List Nat} (h : Kept W s) (_ : W.part .eng) (_ : W.part .free) :
    Kept W (State.writeLatch s a2) := by
  unfold State.writeLatch
  repeat' first
    | with_reducible assumption
    | (extract_lets +onlyGivenNames x
       first
       | (refine kept_cut (P := Kept W x) ?_ ?_; (on_goal 1 => subst x); (on_goal 2 => (intro _; try clear_value x)))
       | (refine kept_cut (P := Kept2 W x) ?_ ?_; (on_goal 1 => subst x); (on_goal 2 => (intro _; try clear_value x)))
       | (try clear_value x))
    | (with_reducible first | apply kept_latchCurrents | apply kept_setEng | (apply kept2_snd; assumption))
    | (with_reducible first | (apply kept2_snd; apply kept_latchCurrents) | refine kept_of2 (by assumption) ?_)
    | (with_reducible first | (intro _; rfl) | apply kept_ite)
    | split | (clear_value *; split) | dsimp only

theorem kept_regionStep {a1 : Bool} {a2 : Nat} (h : Kept W s) (_ : W.part .cad) (_ : W.part .eng) (_ : W.part .tasks)
    (_ : W.fld ENG_SETST.DWELL_CNT) (_ : W.fld ENG_SETST.NEXT) : Kept W (State.regionStep a1 a2 s) := by
  unfold State.regionStep
  repeat' first
    | with_reducible assumption
    | (extract_lets +onlyGivenNames x
       first
       | (refine kept_cut (P := Kept W x) ?_ ?_; (on_goal 1 => subst x); (on_goal 2 => (intro _; try clear_value x)))
       | (refine kept_cut (P := Kept2 W x) ?_ ?_; (on_goal 1 => subst x); (on_goal 2 => (intro _; try clear_value x)))
       | (try clear_value x))
    | (with_reducible first | apply kept_setEng | apply kept_wr | apply kept_schedule | apply kept2_mk)
    | (with_reducible first | (apply kept2_snd; assumption) | (apply kept2_snd; apply kept_schedule))
    | (with_reducible first | refine kept_of2 (by assumption) ?_ | (intro _; rfl) | apply kept_ite)
    | (intro _ _ _ _; try beta_reduce) | (intro _ _ _; try beta_reduce) | (intro _ _; try beta_reduce)
    | split | (clear_value *; split) | dsimp only

theorem kept_regionTick (h : Kept W s) (_ : W.part .cad) (_ : W.part .eng) (_ : W.part .tasks)
    (_ : W.fld ENG_SETST.DWELL_CNT) (_ : W.fld ENG_SETST.NEXT) : Kept W (State.regionTick s) := by
  unfold State.regionTick
  repeat' first
    | with_reducible assumption
    | (extract_lets +onlyGivenNames x
       first
       | (refine kept_cut (P := Kept W x) ?_ ?_; (on_goal 1 => subst x); (on_goal 2 => (intro _; try clear_value x)))
       | (try clear_value x))
    | (with_reducible first | apply kept_regionStep | apply kept_upTo | (intro _; rfl) | apply kept_ite)
    | (intro _ _ _ _; try beta_reduce) | (intro _ _ _; try beta_reduce) | (intro _ _; try beta_reduce)
    | split | (clear_value *; split) | dsimp only

theorem kept_execRegionSwitch (h : Kept W s) (_ : W.part .cad) (_ : W.part .emit) (_ : W.part .eng)
    (_ : W.part .tasks) (_ : Logs W) (_ : W.fld (Evt.st .CAD_LATE)) (_ : W.fld (Evt.st .ENG_REGION))
    (_ : W.fld CAD_DEFER_CNT.LATE) (_ : W.fld ENG_SETST.DWELL_CNT) (_ : W.fld ENG_SETST.REGION) :
    KeptO W (execRegionSwitch s) := by
  unfold execRegionSwitch
  repeat' first
    | with_reducible assumption
    | (extract_lets +onlyGivenNames x
       first
       | (refine kept_cut (P := Kept W x) ?_ ?_; (on_goal 1 => subst x); (on_goal 2 => (intro _; try clear_value x)))
       | (try clear_value x))
    | (with_reducible first | apply kept_quiet | apply kept_takeEvent | apply kept_setEng | apply kept_traceEvent)
    | (with_reducible first | apply kept_raise | apply kept_wr | apply keptO_next)
    | (with_reducible first | refine kept_ofSome (by assumption) ?_ | (intro _; rfl) | apply kept_ite)
    | split | (clear_value *; split) | dsimp only

theorem kept_startRamp {a2 : List Nat} (h : Kept W s) (_ : W.part .eng) : Kept W (State.startRamp s a2) := by
  unfold State.startRamp
  repeat' first
    | with_reducible assumption
    | (extract_lets +onlyGivenNames x
       first
       | (refine kept_cut (P := Kept W x) ?_ ?_; (on_goal 1 => subst x); (on_goal 2 => (intro _; try clear_value x)))
       | (try clear_value x))
    | (with_reducible first | apply kept_setEng | apply kept_foldl | (intro _; rfl) | apply kept_ite)
    | (intro _ _ _ _; try beta_reduce) | (intro _ _ _; try beta_reduce) | (intro _ _; try beta_reduce)
    | split | (clear_value *; split) | dsimp only

theorem kept_startAllRamps (h : Kept W s) (_ : W.part .eng) : Kept W (State.startAllRamps s) := by
  unfold State.startAllRamps
  repeat' first
    | with_reducible assumption
    | (extract_lets +onlyGivenNames x
       first
       | (refine kept_cut (P := Kept W x) ?_ ?_; (on_goal 1 => subst x); (on_goal 2 => (intro _; try clear_value x)))
       | (try clear_value x))
    | (with_reducible first | apply kept_startRamp | (intro _; rfl) | apply kept_ite)
    | split | (clear_value *; split) | dsimp only

theorem kept_closeSet {a2 : Nat} (h : Kept W s) (_ : W.part .eng) (_ : W.fld ENG_SETST.OPEN_MS)
    (_ : W.fld ENG_STAT.OPEN) : Kept W (State.closeSet s a2) := by
  unfold State.closeSet
  repeat' first
    | with_reducible assumption
    | (extract_lets +onlyGivenNames x
       first
       | (refine kept_cut (P := Kept W x) ?_ ?_; (on_goal 1 => subst x); (on_goal 2 => (intro _; try clear_value x)))
       | (try clear_value x))
    | (with_reducible first | apply kept_startRamp | apply kept_wr | apply kept_wrBit | (intro _; rfl))
    | (with_reducible first | apply kept_ite)
    | split | (clear_value *; split) | dsimp only

theorem kept_setsTick (h : Kept W s) (_ : W.part .eng) (_ : W.fld ENG_SETST.OPEN_MS) (_ : W.fld ENG_STAT.OPEN) :
    Kept W (State.setsTick s) := by
  unfold State.setsTick
  repeat' first
    | with_reducible assumption
    | (extract_lets +onlyGivenNames x
       first
       | (refine kept_cut (P := Kept W x) ?_ ?_; (on_goal 1 => subst x); (on_goal 2 => (intro _; try clear_value x)))
       | (try clear_value x))
    | (with_reducible first | apply kept_closeSet | apply kept_setEng | apply kept_wrBit | apply kept_wr)
    | (with_reducible first | apply kept_foldl | apply kept_upTo | (intro _; rfl) | apply kept_ite)
    | (intro _ _ _ _; try beta_reduce) | (intro _ _ _; try beta_reduce) | (intro _ _; try beta_reduce)
    | split | (clear_value *; split) | dsimp only

theorem kept_execOpenTimeout {a1 : Nat} (h : Kept W s) (_ : W.part .emit) (_ : W.part .eng) (_ : Logs W)
    (_ : W.fld (Evt.st .ENG_OPEN_TIMEOUT)) (_ : W.fld ENG_SETST.OPEN_MS) (_ : W.fld ENG_STAT.OPEN) :
    KeptO W (execOpenTimeout a1 s) := by
  unfold execOpenTimeout
  repeat' first
    | with_reducible assumption
    | (extract_lets +onlyGivenNames x
       first
       | (refine kept_cut (P := Kept W x) ?_ ?_; (on_goal 1 => subst x); (on_goal 2 => (intro _; try clear_value x)))
       | (try clear_value x))
    | (with_reducible first | apply kept_quiet | apply kept_raiseLog | apply kept_closeSet | apply keptO_next)
    | (with_reducible first | (intro _; rfl) | apply kept_ite)
    | split | (clear_value *; split) | dsimp only

theorem kept_engStart (h : Kept W s) (_ : W.part .eng) : Kept W (State.engStart s) := by
  unfold State.engStart
  repeat' first
    | with_reducible assumption
    | (extract_lets +onlyGivenNames x
       first
       | (refine kept_cut (P := Kept W x) ?_ ?_; (on_goal 1 => subst x); (on_goal 2 => (intro _; try clear_value x)))
       | (try clear_value x))
    | (with_reducible first | apply kept_setEng | (intro _; rfl) | apply kept_ite)
    | split | (clear_value *; split) | dsimp only

theorem kept_settleProgram (h : Kept W s) (_ : W.part .cad) (_ : W.part .eng) (_ : W.part .fw) (_ : W.part .log)
    (_ : W.part .tasks) (_ : Logs W) (_ : W.fld (Evt.st .ENG_ENGINE_FAULT)) (_ : W.fld (Evt.st .ENG_LANE_DIS))
    (_ : W.fld (Evt.st .FW_TRD_LOST)) (_ : W.fld ENG_CAND.CAP) (_ : W.fld ENG_CAND.CUR) (_ : W.fld ENG_CAND.HINT)
    (_ : W.fld ENG_CAND.THM) (_ : W.fld ENG_CNT.LDIS) (_ : W.fld ENG_DUMP_STAT.DIFF) (_ : W.fld ENG_DUMP_STAT.DONE)
    (_ : W.fld ENG_DUMP_STAT.HELD) (_ : W.fld ENG_DUMP_STAT.NOWRITE) (_ : W.fld ENG_DUMP_TICK.TICK)
    (_ : W.fld ENG_DUMP_VAL.VAL_A) (_ : W.fld ENG_DUMP_VAL.VAL_B) (_ : W.fld ENG_LCAND.LINK8)
    (_ : W.fld ENG_LCAND.LINK9) (_ : W.fld ENG_LCAND.STACK) (_ : W.fld ENG_OUT.FLOOR) (_ : W.fld ENG_OUT.OUT)
    (_ : W.fld ENG_OUT.PERF) (_ : W.fld ENG_OUT.SAFE) (_ : W.fld ENG_SEL.LNK) (_ : W.fld ENG_SEL.SEC)
    (_ : W.fld ENG_SEL.STK) (_ : W.fld ENG_STAT.LD_RUN) (_ : W.fld ENG_STAT.STATE) (_ : W.fld ENG_TR_STAT.HALF)
    (_ : W.fld ENG_TR_STAT.STOPPED) (_ : W.fld ENG_TR_STAT.TRIGGERED) (_ : W.fld ENG_TR_STAT.TRIG_IDX)
    (_ : W.fld ENG_TR_STAT.WPTR) (_ : W.fld TRD_STAT.LOST) : Kept W (State.settleProgram s) := by
  unfold State.settleProgram
  repeat' first
    | with_reducible assumption
    | (extract_lets +onlyGivenNames x
       first
       | (refine kept_cut (P := Kept W x) ?_ ?_; (on_goal 1 => subst x); (on_goal 2 => (intro _; try clear_value x)))
       | (try clear_value x))
    | (with_reducible first | apply kept_disagree | apply kept_engineOver | (intro _; rfl) | apply kept_ite)
    | split | (clear_value *; split) | dsimp only

theorem kept_engTickEnd (h : Kept W s) (_ : W.part .cad) (_ : W.part .eng) (_ : W.part .fw) (_ : W.part .log)
    (_ : W.part .tasks) (_ : Logs W) (_ : W.fld (Evt.st .ENG_ENGINE_FAULT)) (_ : W.fld (Evt.st .ENG_LANE_DIS))
    (_ : W.fld (Evt.st .FW_TRD_LOST)) (_ : W.fld CAD_BUDGET.ENG_LAST) (_ : W.fld CAD_BUDGET_PEAK.ENG_PEAK)
    (_ : W.fld ENG_CAND.CAP) (_ : W.fld ENG_CAND.CUR) (_ : W.fld ENG_CAND.HINT) (_ : W.fld ENG_CAND.THM)
    (_ : W.fld ENG_CNT.LDIS) (_ : W.fld ENG_DUMP_STAT.DIFF) (_ : W.fld ENG_DUMP_STAT.DONE)
    (_ : W.fld ENG_DUMP_STAT.HELD) (_ : W.fld ENG_DUMP_STAT.NOWRITE) (_ : W.fld ENG_DUMP_TICK.TICK)
    (_ : W.fld ENG_DUMP_VAL.VAL_A) (_ : W.fld ENG_DUMP_VAL.VAL_B) (_ : W.fld ENG_LCAND.LINK8)
    (_ : W.fld ENG_LCAND.LINK9) (_ : W.fld ENG_LCAND.STACK) (_ : W.fld ENG_OUT.FLOOR) (_ : W.fld ENG_OUT.OUT)
    (_ : W.fld ENG_OUT.PERF) (_ : W.fld ENG_OUT.SAFE) (_ : W.fld ENG_SEL.LNK) (_ : W.fld ENG_SEL.SEC)
    (_ : W.fld ENG_SEL.STK) (_ : W.fld ENG_STAT.LD_RUN) (_ : W.fld ENG_STAT.STATE) (_ : W.fld ENG_TR_CTRL.ARM)
    (_ : W.fld ENG_TR_STAT.HALF) (_ : W.fld ENG_TR_STAT.STOPPED) (_ : W.fld ENG_TR_STAT.TRIGGERED)
    (_ : W.fld ENG_TR_STAT.TRIG_IDX) (_ : W.fld ENG_TR_STAT.WPTR) (_ : W.fld TRD_STAT.LOST) :
    Kept W (State.engTickEnd s) := by
  unfold State.engTickEnd
  repeat' first
    | with_reducible assumption
    | (extract_lets +onlyGivenNames x
       first
       | (refine kept_cut (P := Kept W x) ?_ ?_; (on_goal 1 => subst x); (on_goal 2 => (intro _; try clear_value x)))
       | (try clear_value x))
    | (with_reducible first | apply kept_settleProgram | apply kept_wr | apply kept_traceArm | (intro _; rfl))
    | (with_reducible first | apply kept_ite)
    | split | (clear_value *; split) | dsimp only

theorem kept_applyOutputs (h : Kept W s) (_ : W.part .eng) : Kept W (State.applyOutputs s) := by
  unfold State.applyOutputs
  repeat' first
    | with_reducible assumption
    | (extract_lets +onlyGivenNames x
       first
       | (refine kept_cut (P := Kept W x) ?_ ?_; (on_goal 1 => subst x); (on_goal 2 => (intro _; try clear_value x)))
       | (try clear_value x))
    | (with_reducible first | apply kept_setEng | (intro _; rfl) | apply kept_ite)
    | split | (clear_value *; split) | dsimp only

theorem kept_engineBoundary {a2 : List Nat} (h : Kept W s) (_ : W.part .cad) (_ : W.part .eng) (_ : W.part .free)
    (_ : W.part .tasks) (_ : W.fld ENG_CAND.CAP) (_ : W.fld ENG_CAND.CUR) (_ : W.fld ENG_CAND.HINT)
    (_ : W.fld ENG_CAND.THM) (_ : W.fld ENG_LCAND.LINK8) (_ : W.fld ENG_LCAND.LINK9) (_ : W.fld ENG_LCAND.STACK)
    (_ : W.fld ENG_OUT.FLOOR) (_ : W.fld ENG_OUT.OUT) (_ : W.fld ENG_OUT.PERF) (_ : W.fld ENG_OUT.SAFE)
    (_ : W.fld ENG_SEL.LNK) (_ : W.fld ENG_SEL.SEC) (_ : W.fld ENG_SEL.STK) (_ : W.fld ENG_SETST.DWELL_CNT)
    (_ : W.fld ENG_SETST.NEXT) (_ : W.fld ENG_SETST.OPEN_MS) (_ : W.fld ENG_SLEWV.OUT) (_ : W.fld ENG_SLEWV.TARGET)
    (_ : W.fld ENG_STAT.OPEN) : Kept W (State.engineBoundary s a2) := by
  unfold State.engineBoundary
  repeat' first
    | with_reducible assumption
    | (extract_lets +onlyGivenNames x
       first
       | (refine kept_cut (P := Kept W x) ?_ ?_; (on_goal 1 => subst x); (on_goal 2 => (intro _; try clear_value x)))
       | (try clear_value x))
    | (with_reducible first | apply kept_slewTick | apply kept_setsTick | apply kept_regionTick)
    | (with_reducible first | apply kept_writeLatch | apply kept_engStart | apply kept_safeCands | apply kept_safeSel)
    | (with_reducible first | (intro _; rfl) | apply kept_ite)
    | split | (clear_value *; split) | dsimp only

theorem kept_bankSwitch (h : Kept W s) (_ : W.part .cad) (_ : W.part .eng) (_ : W.part .free) (_ : W.part .tasks)
    (_ : Logs W) (_ : W.fld (Evt.st .ENG_BANK_SW)) (_ : W.fld ENG_IMAGE.CYCLES) (_ : W.fld ENG_IMAGE.IMAGE_ID)
    (_ : W.fld ENG_IMAGE.KEEP) (_ : W.fld ENG_SETST.DWELL_CNT) (_ : W.fld ENG_SETST.NEXT) (_ : W.fld ENG_SETST.NF)
    (_ : W.fld ENG_SETST.NT) (_ : W.fld ENG_SETST.REGION) (_ : W.fld ENG_STAT.BANK) (_ : W.fld ENG_STAT.INACT_VALID)
    (_ : W.fld ENG_STAT.LD_RUN) (_ : W.fld ENG_STAT.STATE) : Kept W (State.bankSwitch s) := by
  unfold State.bankSwitch
  repeat' first
    | with_reducible assumption
    | (extract_lets +onlyGivenNames x
       first
       | (refine kept_cut (P := Kept W x) ?_ ?_; (on_goal 1 => subst x); (on_goal 2 => (intro _; try clear_value x)))
       | (try clear_value x))
    | (with_reducible first | (refine kept_unqueue ?_ List.filter_sublist ?_ ?_) | apply kept_wr | apply kept_wrB)
    | (with_reducible first | apply kept_setEng | apply kept_startAllRamps | apply kept_setCad)
    | (with_reducible first | apply kept_regionStep | apply kept_raise | apply kept_writeLatch | apply kept_engStart)
    | (with_reducible first | apply kept_upTo | (intro _; rfl) | apply kept_ite)
    | (intro _ _ _ _; try beta_reduce) | (intro _ _ _; try beta_reduce) | (intro _ _; try beta_reduce)
    | split | (clear_value *; split) | dsimp only

theorem kept_execBankSwitchFire (h : Kept W s) (_ : W.part .cad) (_ : W.part .emit) (_ : W.part .eng)
    (_ : W.part .free) (_ : W.part .tasks) (_ : Logs W) (_ : W.fld (Evt.st .CAD_LATE))
    (_ : W.fld (Evt.st .ENG_BANK_SW)) (_ : W.fld CAD_DEFER_CNT.LATE) (_ : W.fld ENG_IMAGE.CYCLES)
    (_ : W.fld ENG_IMAGE.IMAGE_ID) (_ : W.fld ENG_IMAGE.KEEP) (_ : W.fld ENG_SETST.DWELL_CNT)
    (_ : W.fld ENG_SETST.NEXT) (_ : W.fld ENG_SETST.NF) (_ : W.fld ENG_SETST.NT) (_ : W.fld ENG_SETST.REGION)
    (_ : W.fld ENG_STAT.BANK) (_ : W.fld ENG_STAT.INACT_VALID) (_ : W.fld ENG_STAT.LD_RUN) (_ : W.fld ENG_STAT.STATE)
    (_ : W.fld ENG_STAT.SWITCH_PEND) : KeptO W (execBankSwitchFire s) := by
  unfold execBankSwitchFire
  repeat' first
    | with_reducible assumption
    | (extract_lets +onlyGivenNames x
       first
       | (refine kept_cut (P := Kept W x) ?_ ?_; (on_goal 1 => subst x); (on_goal 2 => (intro _; try clear_value x)))
       | (try clear_value x))
    | (with_reducible first | apply kept_quiet | apply kept_takeEvent | apply kept_wr | apply kept_bankSwitch)
    | (with_reducible first | apply keptO_next | refine kept_ofSome (by assumption) ?_ | (intro _; rfl))
    | (with_reducible first | apply kept_ite)
    | split | (clear_value *; split) | dsimp only

theorem kept_loadEngine {a2 : EngImage} {a3 : Bool} (h : Kept W s) (_ : W.part .eng) (_ : Logs W)
    (_ : W.fld (Evt.st .ENG_IMG_REJ)) (_ : W.fld ENG_STAT.INACT_VALID) : Kept2 W (State.loadEngine s a2 a3) := by
  unfold State.loadEngine
  repeat' first
    | with_reducible assumption
    | (extract_lets +onlyGivenNames x
       first
       | (refine kept_cut (P := Kept W x) ?_ ?_; (on_goal 1 => subst x); (on_goal 2 => (intro _; try clear_value x)))
       | (try clear_value x))
    | (with_reducible first | apply kept_wr | apply kept_setBank | apply kept_raise | apply kept2_mk | (intro _; rfl))
    | (with_reducible first | apply kept_ite)
    | split | (clear_value *; split) | dsimp only

theorem kept_loadSet {a2 : Nat} {a3 : List (Nat × Nat)} (h : Kept W s) (_ : W.part .eng) :
    Kept W (State.loadSet s a2 a3) := by
  unfold State.loadSet
  repeat' first
    | with_reducible assumption
    | (extract_lets +onlyGivenNames x
       first
       | (refine kept_cut (P := Kept W x) ?_ ?_; (on_goal 1 => subst x); (on_goal 2 => (intro _; try clear_value x)))
       | (try clear_value x))
    | (with_reducible first | apply kept_setBank | apply kept_foldl | (intro _; rfl) | apply kept_ite)
    | (intro _ _ _ _; try beta_reduce) | (intro _ _ _; try beta_reduce) | (intro _ _; try beta_reduce)
    | split | (clear_value *; split) | dsimp only

end Sys2Proof.Machine
end

