-- ==== Sys2Proof/Laws/KeptMessages.lean ====
section
/-! SUPPORT. What the operations of `Messages.lean` keep (see `Kept.lean`). -/

set_option linter.unusedVariables false
set_option linter.unusedTactic false
set_option linter.unreachableTactic false
set_option linter.tactic.unusedName false

namespace Sys2Proof.Machine

variable {W : Bounds} {s : State}

theorem kept_setPace {a2 : Nat} {a3 : Pace → Pace} (h : Kept W s) (_ : W.part .car) :
    Kept W (State.setPace s a2 a3) := by
  unfold State.setPace
  repeat' first
    | with_reducible assumption
    | (extract_lets +onlyGivenNames x
       first
       | (refine kept_cut (P := Kept W x) ?_ ?_; (on_goal 1 => subst x); (on_goal 2 => (intro _; try clear_value x)))
       | (try clear_value x))
    | (with_reducible first | apply kept_setCar | (intro _; rfl) | apply kept_ite)
    | split | (clear_value *; split) | dsimp only

theorem kept_setKeep {a2 : Nat} {a3 : SeqKeep → SeqKeep} (h : Kept W s) (_ : W.part .car) :
    Kept W (State.setKeep s a2 a3) := by
  unfold State.setKeep
  repeat' first
    | with_reducible assumption
    | (extract_lets +onlyGivenNames x
       first
       | (refine kept_cut (P := Kept W x) ?_ ?_; (on_goal 1 => subst x); (on_goal 2 => (intro _; try clear_value x)))
       | (try clear_value x))
    | (with_reducible first | apply kept_setCar | (intro _; rfl) | apply kept_ite)
    | split | (clear_value *; split) | dsimp only

theorem kept_msgRecord {a2 : Bool} {a3 : Bool} {a4 : Nat} {a5 : Nat} (h : Kept W s) (_ : Logs W) :
    Kept W (State.msgRecord s a2 a3 a4 a5) := by
  unfold State.msgRecord
  repeat' first
    | with_reducible assumption
    | (extract_lets +onlyGivenNames x
       first
       | (refine kept_cut (P := Kept W x) ?_ ?_; (on_goal 1 => subst x); (on_goal 2 => (intro _; try clear_value x)))
       | (try clear_value x))
    | (with_reducible first | apply kept_fwRec | (intro _; rfl) | apply kept_ite)
    | split | (clear_value *; split) | dsimp only

theorem kept_newHeader {a2 : Nat} {a3 : Nat} (h : Kept W s) (_ : W.part .car) :
    Kept2 W (State.newHeader s a2 a3) := by
  unfold State.newHeader
  repeat' first
    | with_reducible assumption
    | (extract_lets +onlyGivenNames x
       first
       | (refine kept_cut (P := Kept W x) ?_ ?_; (on_goal 1 => subst x); (on_goal 2 => (intro _; try clear_value x)))
       | (try clear_value x))
    | (with_reducible first | apply kept_setCar | apply kept2_mk | (intro _; rfl) | apply kept_ite)
    | split | (clear_value *; split) | dsimp only

theorem kept_putLane {a2 : Emission} {a3 : Nat} (h : Kept W s) (_ : W.part .car) (_ : W.part .emit) :
    Kept W (State.putLane s a2 a3) := by
  unfold State.putLane
  repeat' first
    | with_reducible assumption
    | (extract_lets +onlyGivenNames x
       first
       | (refine kept_cut (P := Kept W x) ?_ ?_; (on_goal 1 => subst x); (on_goal 2 => (intro _; try clear_value x)))
       | (try clear_value x))
    | (with_reducible first | apply kept_setPace | apply kept_drive | (intro _; rfl) | apply kept_ite)
    | split | (clear_value *; split) | dsimp only

theorem kept_ownSeq {a2 : Nat} (h : Kept W s) (_ : W.part .car) : Kept W (State.ownSeq s a2) := by
  unfold State.ownSeq
  repeat' first
    | with_reducible assumption
    | (extract_lets +onlyGivenNames x
       first
       | (refine kept_cut (P := Kept W x) ?_ ?_; (on_goal 1 => subst x); (on_goal 2 => (intro _; try clear_value x)))
       | (try clear_value x))
    | (with_reducible first | apply kept_setKeep | (intro _; rfl) | apply kept_ite)
    | split | (clear_value *; split) | dsimp only

theorem kept_flood {a2 : Nat} {a3 : List Nat} {a4 : Nat} (h : Kept W s) (_ : W.part .car) (_ : W.part .emit)
    (_ : Logs W) : Kept2 W (State.flood s a2 a3 a4) := by
  unfold State.flood
  repeat' first
    | with_reducible assumption
    | (extract_lets +onlyGivenNames x
       first
       | (refine kept_cut (P := Kept W x) ?_ ?_; (on_goal 1 => subst x); (on_goal 2 => (intro _; try clear_value x)))
       | (refine kept_cut (P := Kept2 W x) ?_ ?_; (on_goal 1 => subst x); (on_goal 2 => (intro _; try clear_value x)))
       | (try clear_value x))
    | (with_reducible first | apply kept_newHeader | apply kept_putLane | apply kept_msgRecord | apply kept_ownSeq)
    | (with_reducible first | apply kept_foldl | apply kept2_foldl | apply kept2_mk | (apply kept2_snd; assumption))
    | (with_reducible first | (apply kept2_snd; apply kept_newHeader) | refine kept_of2 (by assumption) ?_)
    | (with_reducible first | (intro _; rfl) | apply kept_ite)
    | (intro _ _ _ _; try beta_reduce) | (intro _ _ _; try beta_reduce) | (intro _ _; try beta_reduce)
    | split | (clear_value *; split) | dsimp only

theorem kept_sideband {a2 : Nat} {a3 : List Nat} {a4 : Nat} {a5 : Nat} (h : Kept W s) (_ : W.part .car)
    (_ : W.part .emit) (_ : Logs W) : Kept2 W (State.sideband s a2 a3 a4 a5) := by
  unfold State.sideband
  repeat' first
    | with_reducible assumption
    | (extract_lets +onlyGivenNames x
       first
       | (refine kept_cut (P := Kept W x) ?_ ?_; (on_goal 1 => subst x); (on_goal 2 => (intro _; try clear_value x)))
       | (refine kept_cut (P := Kept2 W x) ?_ ?_; (on_goal 1 => subst x); (on_goal 2 => (intro _; try clear_value x)))
       | (try clear_value x))
    | (with_reducible first | apply kept_newHeader | apply kept_msgRecord | apply kept_ownSeq | apply kept_drive)
    | (with_reducible first | apply kept2_mk | (apply kept2_snd; assumption))
    | (with_reducible first | (apply kept2_snd; apply kept_newHeader) | refine kept_of2 (by assumption) ?_)
    | (with_reducible first | (intro _; rfl) | apply kept_ite)
    | split | (clear_value *; split) | dsimp only

theorem kept_badMessage (h : Kept W s) (_ : W.fld CAR_ERR.CRC) : Kept W (State.badMessage s) := by
  unfold State.badMessage
  repeat' first
    | with_reducible assumption
    | (extract_lets +onlyGivenNames x
       first
       | (refine kept_cut (P := Kept W x) ?_ ?_; (on_goal 1 => subst x); (on_goal 2 => (intro _; try clear_value x)))
       | (try clear_value x))
    | (with_reducible first | apply kept_inc | (intro _; rfl) | apply kept_ite)
    | split | (clear_value *; split) | dsimp only

theorem kept_laneValid {a2 : Nat} (h : Kept W s) (_ : W.part .car) (_ : W.fld CAR_STAT.LINK_UP) :
    Kept W (State.laneValid s a2) := by
  unfold State.laneValid
  repeat' first
    | with_reducible assumption
    | (extract_lets +onlyGivenNames x
       first
       | (refine kept_cut (P := Kept W x) ?_ ?_; (on_goal 1 => subst x); (on_goal 2 => (intro _; try clear_value x)))
       | (try clear_value x))
    | (with_reducible first | apply kept_setPace | apply kept_wrBit | (intro _; rfl) | apply kept_ite)
    | split | (clear_value *; split) | dsimp only

theorem kept_actOn {a2 : Bool} {a3 : Nat} {a4 : Nat} {a5 : Bool} (h : Kept W s) (_ : W.part .car) (_ : Logs W)
    (_ : W.fld CAR_RXMSG.MSGS) : Kept W (State.actOn s a2 a3 a4 a5) := by
  unfold State.actOn
  repeat' first
    | with_reducible assumption
    | (extract_lets +onlyGivenNames x
       first
       | (refine kept_cut (P := Kept W x) ?_ ?_; (on_goal 1 => subst x); (on_goal 2 => (intro _; try clear_value x)))
       | (try clear_value x))
    | (with_reducible first | apply kept_setKeep | apply kept_msgRecord | apply kept_inc | (intro _; rfl))
    | (with_reducible first | apply kept_ite)
    | split | (clear_value *; split) | dsimp only

theorem kept_forwardCopies {a2 : Nat} {a3 : List Nat} {a4 : Bool} (h : Kept W s) (_ : W.part .car) (_ : W.part .emit)
    : Kept W (State.forwardCopies s a2 a3 a4) := by
  unfold State.forwardCopies
  repeat' first
    | with_reducible assumption
    | (extract_lets +onlyGivenNames x
       first
       | (refine kept_cut (P := Kept W x) ?_ ?_; (on_goal 1 => subst x); (on_goal 2 => (intro _; try clear_value x)))
       | (try clear_value x))
    | (with_reducible first | apply kept_putLane | apply kept_setKeep | apply kept_foldl | (intro _; rfl))
    | (with_reducible first | apply kept_ite)
    | (intro _ _ _ _; try beta_reduce) | (intro _ _ _; try beta_reduce) | (intro _ _; try beta_reduce)
    | split | (clear_value *; split) | dsimp only

theorem kept_paceIn {a2 : Nat} {a3 : Nat} {a4 : List Nat} {a5 : Nat} {a6 : State → Bool} {a7 : State → State}
    (h : Kept W s) (k7 : ∀ x, Kept W x → Kept W (a7 x)) (_ : W.part .car) (_ : W.part .emit) (_ : Logs W)
    (_ : W.fld CAR_ERR.CRC) (_ : W.fld CAR_ERR.STALE) (_ : W.fld CAR_RXMSG.MSGS) (_ : W.fld CAR_STAT.LINK_UP) :
    Kept W (State.paceIn s a2 a3 a4 a5 a6 a7) := by
  unfold State.paceIn
  repeat' first
    | with_reducible assumption
    | (extract_lets +onlyGivenNames x
       first
       | (refine kept_cut (P := Kept W x) ?_ ?_; (on_goal 1 => subst x); (on_goal 2 => (intro _; try clear_value x)))
       | (try clear_value x))
    | (with_reducible first | apply kept_badMessage | apply kept_forwardCopies | apply kept_laneValid)
    | (with_reducible first | apply kept_inc | apply kept_actOn | apply kept2_mk | apply k7 | (intro _; rfl))
    | (with_reducible first | apply kept_ite)
    | (intro _ _ _ _; try beta_reduce) | (intro _ _ _; try beta_reduce) | (intro _ _; try beta_reduce)
    | split | (clear_value *; split) | dsimp only

theorem kept_sidebandIn {a2 : Nat} {a3 : List Nat} {a4 : Nat} {a5 : State → Bool} {a6 : State → State} (h : Kept W s)
    (k6 : ∀ x, Kept W x → Kept W (a6 x)) (_ : W.part .car) (_ : Logs W) (_ : W.fld CAR_ERR.CRC)
    (_ : W.fld CAR_ERR.STALE) (_ : W.fld CAR_RXMSG.MSGS) : Kept W (State.sidebandIn s a2 a3 a4 a5 a6) := by
  unfold State.sidebandIn
  repeat' first
    | with_reducible assumption
    | (extract_lets +onlyGivenNames x
       first
       | (refine kept_cut (P := Kept W x) ?_ ?_; (on_goal 1 => subst x); (on_goal 2 => (intro _; try clear_value x)))
       | (try clear_value x))
    | (with_reducible first | apply kept_badMessage | apply kept_inc | apply kept_actOn | apply k6 | (intro _; rfl))
    | (with_reducible first | apply kept_ite)
    | (intro _ _ _ _; try beta_reduce) | (intro _ _ _; try beta_reduce) | (intro _ _; try beta_reduce)
    | split | (clear_value *; split) | dsimp only

theorem kept_execKeepSend {a1 : Nat} (h : Kept W s) (_ : W.part .car) (_ : W.part .emit) (_ : W.part .free) :
    KeptO W (execKeepSend a1 s) := by
  unfold execKeepSend
  repeat' first
    | with_reducible assumption
    | (extract_lets +onlyGivenNames x
       first
       | (refine kept_cut (P := Kept W x) ?_ ?_; (on_goal 1 => subst x); (on_goal 2 => (intro _; try clear_value x)))
       | (refine kept_cut (P := Kept2 W x) ?_ ?_; (on_goal 1 => subst x); (on_goal 2 => (intro _; try clear_value x)))
       | (try clear_value x))
    | (with_reducible first | apply kept_quiet | apply kept_takeFree | apply kept_newHeader | apply kept_putLane)
    | (with_reducible first | apply keptO_next | (apply kept2_snd; assumption))
    | (with_reducible first | (apply kept2_snd; apply kept_takeFree) | (apply kept2_snd; apply kept_newHeader))
    | (with_reducible first | refine kept_of2 (by assumption) ?_ | (intro _; rfl) | apply kept_ite)
    | split | (clear_value *; split) | dsimp only

theorem kept_execPaceLinkDown {a1 : Nat} (h : Kept W s) (_ : W.part .car) (_ : W.part .emit) (_ : Logs W)
    (_ : W.fld (Evt.st .CAR_LINK_DOWN)) (_ : W.fld CAR_ERR.LINKDOWN) (_ : W.fld CAR_STAT.LINK_UP) :
    KeptO W (execPaceLinkDown a1 s) := by
  unfold execPaceLinkDown
  repeat' first
    | with_reducible assumption
    | (extract_lets +onlyGivenNames x
       first
       | (refine kept_cut (P := Kept W x) ?_ ?_; (on_goal 1 => subst x); (on_goal 2 => (intro _; try clear_value x)))
       | (try clear_value x))
    | (with_reducible first | apply kept_quiet | apply kept_setPace | apply kept_wrBit | apply kept_raise)
    | (with_reducible first | apply kept_inc | apply keptO_next | (intro _; rfl) | apply kept_ite)
    | split | (clear_value *; split) | dsimp only

theorem kept_execKeep {a1 : Nat} {a2 : List Nat} (h : Kept W s) (_ : W.part .car) (_ : W.part .emit)
    (_ : W.fld CAR_ERR.CRC) (_ : W.fld CAR_STAT.LINK_UP) : KeptO W (execKeep a1 a2 s) := by
  unfold execKeep
  repeat' first
    | with_reducible assumption
    | (extract_lets +onlyGivenNames x
       first
       | (refine kept_cut (P := Kept W x) ?_ ?_; (on_goal 1 => subst x); (on_goal 2 => (intro _; try clear_value x)))
       | (try clear_value x))
    | (with_reducible first | apply kept_quiet | apply kept_laneValid | apply kept_badMessage | apply keptO_next)
    | (with_reducible first | (intro _; rfl) | apply kept_ite)
    | split | (clear_value *; split) | dsimp only

theorem kept_execMessageDiscarded {a1 : Option Nat} (h : Kept W s) (_ : W.part .emit) (_ : W.fld CAR_ERR.CRC) :
    KeptO W (execMessageDiscarded a1 s) := by
  unfold execMessageDiscarded
  repeat' first
    | with_reducible assumption
    | (extract_lets +onlyGivenNames x
       first
       | (refine kept_cut (P := Kept W x) ?_ ?_; (on_goal 1 => subst x); (on_goal 2 => (intro _; try clear_value x)))
       | (try clear_value x))
    | (with_reducible first | apply kept_quiet | apply kept_badMessage | apply keptO_next | (intro _; rfl))
    | (with_reducible first | apply kept_ite)
    | split | (clear_value *; split) | dsimp only

end Sys2Proof.Machine
end

