-- ==== Sys2Proof/Laws/KeptCarrier.lean ====
section
/-! SUPPORT. What the operations of `Carrier.lean` keep (see `Kept.lean`). -/

set_option linter.unusedVariables false
set_option linter.unusedTactic false
set_option linter.unreachableTactic false
set_option linter.tactic.unusedName false

namespace Sys2Proof.Machine

variable {W : Bounds} {s : State}

theorem kept_showLive (h : Kept W s) (_ : W.fld CAR_LIVE.LIVE) (_ : W.fld CAR_STAT.DESIGNATED)
    (_ : W.fld CAR_STAT.LIVE) : Kept W (State.showLive s) := by
  unfold State.showLive
  repeat' first
    | with_reducible assumption
    | (extract_lets +onlyGivenNames x
       first
       | (refine kept_cut (P := Kept W x) ?_ ?_; (on_goal 1 => subst x); (on_goal 2 => (intro _; try clear_value x)))
       | (try clear_value x))
    | (with_reducible first | apply kept_wrBit | apply kept_wr | (intro _; rfl) | apply kept_ite)
    | split | (clear_value *; split) | dsimp only

theorem kept_setRole {a2 : Nat} (h : Kept W s) (_ : Logs W) (_ : W.fld (Evt.st .CAR_ROLE_CHANGE))
    (_ : W.fld CAR_STAT.ROLE) (_ : W.fld PEL_STAT.ROOT) : Kept W (State.setRole s a2) := by
  unfold State.setRole
  repeat' first
    | with_reducible assumption
    | (extract_lets +onlyGivenNames x
       first
       | (refine kept_cut (P := Kept W x) ?_ ?_; (on_goal 1 => subst x); (on_goal 2 => (intro _; try clear_value x)))
       | (try clear_value x))
    | (with_reducible first | apply kept_wr | apply kept_raise | (intro _; rfl) | apply kept_ite)
    | split | (clear_value *; split) | dsimp only

theorem kept_dropLease (h : Kept W s) (_ : W.part .car) (_ : W.fld CAR_LEASE.LEFT) (_ : W.fld CAR_STAT.LEASE_VALID) :
    Kept W (State.dropLease s) := by
  unfold State.dropLease
  repeat' first
    | with_reducible assumption
    | (extract_lets +onlyGivenNames x
       first
       | (refine kept_cut (P := Kept W x) ?_ ?_; (on_goal 1 => subst x); (on_goal 2 => (intro _; try clear_value x)))
       | (try clear_value x))
    | (with_reducible first | apply kept_setCar | apply kept_wr | (intro _; rfl) | apply kept_ite)
    | split | (clear_value *; split) | dsimp only

theorem kept_seeEpoch {a2 : Nat} (h : Kept W s) (_ : W.fld CAR_EPOCH_SEEN.EPOCH) : Kept W (State.seeEpoch s a2) := by
  unfold State.seeEpoch
  repeat' first
    | with_reducible assumption
    | (extract_lets +onlyGivenNames x
       first
       | (refine kept_cut (P := Kept W x) ?_ ?_; (on_goal 1 => subst x); (on_goal 2 => (intro _; try clear_value x)))
       | (try clear_value x))
    | (with_reducible first | apply kept_wr | (intro _; rfl) | apply kept_ite)
    | split | (clear_value *; split) | dsimp only

theorem kept_takeLease {a2 : Nat} {a3 : Nat} (h : Kept W s) (_ : W.part .car) (_ : Logs W)
    (_ : W.fld (Evt.st .CAR_ROLE_CHANGE)) (_ : W.fld CAR_EPOCH_HELD.EPOCH) (_ : W.fld CAR_EPOCH_SEEN.EPOCH)
    (_ : W.fld CAR_LEASE.LEFT) (_ : W.fld CAR_LEASE.REQ) (_ : W.fld CAR_LEASE.TAKEOVER)
    (_ : W.fld CAR_STAT.LEASE_VALID) (_ : W.fld CAR_STAT.ROLE) (_ : W.fld PEL_STAT.ROOT) :
    Kept W (State.takeLease s a2 a3) := by
  unfold State.takeLease
  repeat' first
    | with_reducible assumption
    | (extract_lets +onlyGivenNames x
       first
       | (refine kept_cut (P := Kept W x) ?_ ?_; (on_goal 1 => subst x); (on_goal 2 => (intro _; try clear_value x)))
       | (try clear_value x))
    | (with_reducible first | apply kept_setRole | apply kept_seeEpoch | apply kept_wr | apply kept_setCar)
    | (with_reducible first | (intro _; rfl) | apply kept_ite)
    | (intro _ _ _ _; try beta_reduce) | (intro _ _ _; try beta_reduce) | (intro _ _; try beta_reduce)
    | split | (clear_value *; split) | dsimp only

theorem kept_leaseCommand {a2 : Nat} {a3 : Nat} (h : Kept W s) (_ : W.part .car) (_ : Logs W)
    (_ : W.fld (Evt.st .CAR_ROLE_CHANGE)) (_ : W.fld CAR_EPOCH_HELD.EPOCH) (_ : W.fld CAR_EPOCH_SEEN.EPOCH)
    (_ : W.fld CAR_ERR.REJECT) (_ : W.fld CAR_LEASE.LEFT) (_ : W.fld CAR_LEASE.REQ) (_ : W.fld CAR_LEASE.TAKEOVER)
    (_ : W.fld CAR_STAT.LEASE_VALID) (_ : W.fld CAR_STAT.ROLE) (_ : W.fld PEL_STAT.ROOT) :
    Kept2 W (State.leaseCommand s a2 a3) := by
  unfold State.leaseCommand
  repeat' first
    | with_reducible assumption
    | (extract_lets +onlyGivenNames x
       first
       | (refine kept_cut (P := Kept W x) ?_ ?_; (on_goal 1 => subst x); (on_goal 2 => (intro _; try clear_value x)))
       | (refine kept_cut (P := Kept2 W x) ?_ ?_; (on_goal 1 => subst x); (on_goal 2 => (intro _; try clear_value x)))
       | (try clear_value x))
    | (with_reducible first | apply kept_setRole | apply kept_dropLease | apply kept_wr | apply kept_takeLease)
    | (with_reducible first | apply kept_inc | apply kept2_mk | (apply kept2_snd; assumption))
    | (with_reducible first | refine kept_of2 (by assumption) ?_ | (intro _; rfl) | apply kept_ite)
    | split | (clear_value *; split) | dsimp only

theorem kept_requestLease {a2 : Nat} (h : Kept W s) (_ : W.fld CAR_LEASE.REQ) : Kept W (State.requestLease s a2) := by
  unfold State.requestLease
  repeat' first
    | with_reducible assumption
    | (extract_lets +onlyGivenNames x
       first
       | (refine kept_cut (P := Kept W x) ?_ ?_; (on_goal 1 => subst x); (on_goal 2 => (intro _; try clear_value x)))
       | (try clear_value x))
    | (with_reducible first | apply kept_wr | (intro _; rfl) | apply kept_ite)
    | split | (clear_value *; split) | dsimp only

theorem kept_renewLease (h : Kept W s) (_ : W.fld CAR_LEASE.REQ) : Kept W (State.renewLease s) := by
  unfold State.renewLease
  repeat' first
    | with_reducible assumption
    | (extract_lets +onlyGivenNames x
       first
       | (refine kept_cut (P := Kept W x) ?_ ?_; (on_goal 1 => subst x); (on_goal 2 => (intro _; try clear_value x)))
       | (try clear_value x))
    | (with_reducible first | apply kept_requestLease | (intro _; rfl) | apply kept_ite)
    | split | (clear_value *; split) | dsimp only

theorem kept_execLeaseExpiry (h : Kept W s) (_ : W.part .car) (_ : W.part .emit) (_ : Logs W)
    (_ : W.fld (Evt.st .CAR_LEASE_LOST)) (_ : W.fld (Evt.st .CAR_ROLE_CHANGE)) (_ : W.fld CAR_LEASE.LEFT)
    (_ : W.fld CAR_LEASE.REQ) (_ : W.fld CAR_STAT.LEASE_VALID) (_ : W.fld CAR_STAT.ROLE) (_ : W.fld PEL_STAT.ROOT) :
    KeptO W (execLeaseExpiry s) := by
  unfold execLeaseExpiry
  repeat' first
    | with_reducible assumption
    | (extract_lets +onlyGivenNames x
       first
       | (refine kept_cut (P := Kept W x) ?_ ?_; (on_goal 1 => subst x); (on_goal 2 => (intro _; try clear_value x)))
       | (try clear_value x))
    | (with_reducible first | apply kept_quiet | apply kept_setRole | apply kept_dropLease | apply kept_requestLease)
    | (with_reducible first | apply kept_raise | apply keptO_next | (intro _; rfl) | apply kept_ite)
    | split | (clear_value *; split) | dsimp only

theorem kept_execTakeover (h : Kept W s) (_ : W.part .emit) (_ : Logs W) (_ : W.fld (Evt.st .CAR_TAKEOVER))
    (_ : W.fld CAR_LEASE.REQ) (_ : W.fld CAR_LEASE.TAKEOVER) : KeptO W (execTakeover s) := by
  unfold execTakeover
  repeat' first
    | with_reducible assumption
    | (extract_lets +onlyGivenNames x
       first
       | (refine kept_cut (P := Kept W x) ?_ ?_; (on_goal 1 => subst x); (on_goal 2 => (intro _; try clear_value x)))
       | (try clear_value x))
    | (with_reducible first | apply kept_quiet | apply kept_raise | apply kept_requestLease | apply kept_wr)
    | (with_reducible first | apply keptO_next | (intro _; rfl) | apply kept_ite)
    | split | (clear_value *; split) | dsimp only

theorem kept_storeReport {a2 : Nat} {a3 : Rep} (h : Kept W s) (_ : W.part .car) :
    Kept W (State.storeReport s a2 a3) := by
  unfold State.storeReport
  repeat' first
    | with_reducible assumption
    | (extract_lets +onlyGivenNames x
       first
       | (refine kept_cut (P := Kept W x) ?_ ?_; (on_goal 1 => subst x); (on_goal 2 => (intro _; try clear_value x)))
       | (try clear_value x))
    | (with_reducible first | apply kept_setCar | (intro _; rfl) | apply kept_ite)
    | split | (clear_value *; split) | dsimp only

theorem kept_memberFlags {a2 : Nat} {a3 : Nat} (h : Kept W s) (_ : W.part .pel) :
    Kept W (State.memberFlags s a2 a3) := by
  unfold State.memberFlags
  repeat' first
    | with_reducible assumption
    | (extract_lets +onlyGivenNames x
       first
       | (refine kept_cut (P := Kept W x) ?_ ?_; (on_goal 1 => subst x); (on_goal 2 => (intro _; try clear_value x)))
       | (try clear_value x))
    | (with_reducible first | apply kept_setPel | (intro _; rfl) | apply kept_ite)
    | split | (clear_value *; split) | dsimp only

theorem kept_actReport {a1 : List Nat} (h : Kept W s) (_ : W.part .car) (_ : W.part .pel) (_ : Logs W)
    (_ : W.fld (Evt.st .CAR_MEMBER_JOIN)) (_ : W.fld CAR_LIVE.LIVE) (_ : W.fld CAR_STAT.DESIGNATED)
    (_ : W.fld CAR_STAT.LIVE) : Kept W (State.actReport a1 s) := by
  unfold State.actReport
  repeat' first
    | with_reducible assumption
    | (extract_lets +onlyGivenNames x
       first
       | (refine kept_cut (P := Kept W x) ?_ ?_; (on_goal 1 => subst x); (on_goal 2 => (intro _; try clear_value x)))
       | (try clear_value x))
    | (with_reducible first | apply kept_memberFlags | apply kept_wrBit | apply kept_storeReport)
    | (with_reducible first | apply kept_showLive | apply kept_raise | (intro _; rfl) | apply kept_ite)
    | split | (clear_value *; split) | dsimp only

theorem kept_execReport {a1 : Nat} {a2 : List Nat} (h : Kept W s) (_ : W.part .car) (_ : W.part .emit)
    (_ : W.part .pel) (_ : Logs W) (_ : W.fld (Evt.st .CAR_MEMBER_JOIN)) (_ : W.fld CAR_ERR.CRC)
    (_ : W.fld CAR_ERR.STALE) (_ : W.fld CAR_LIVE.LIVE) (_ : W.fld CAR_RXMSG.MSGS) (_ : W.fld CAR_STAT.DESIGNATED)
    (_ : W.fld CAR_STAT.LINK_UP) (_ : W.fld CAR_STAT.LIVE) : KeptO W (execReport a1 a2 s) := by
  unfold execReport
  repeat' first
    | with_reducible assumption
    | (extract_lets +onlyGivenNames x
       first
       | (refine kept_cut (P := Kept W x) ?_ ?_; (on_goal 1 => subst x); (on_goal 2 => (intro _; try clear_value x)))
       | (try clear_value x))
    | (with_reducible first | apply kept_quiet | apply kept_paceIn | apply kept_actReport | apply keptO_next)
    | (with_reducible first | (intro _; rfl) | apply kept_ite)
    | (intro _ _ _ _; try beta_reduce) | (intro _ _ _; try beta_reduce) | (intro _ _; try beta_reduce)
    | split | (clear_value *; split) | dsimp only

theorem kept_execReportSend (h : Kept W s) (_ : W.part .car) (_ : W.part .emit) (_ : W.part .pel) (_ : Logs W)
    (_ : W.fld CAR_LIVE.LIVE) (_ : W.fld CAR_STAT.DESIGNATED) (_ : W.fld CAR_STAT.LIVE) :
    KeptO W (execReportSend s) := by
  unfold execReportSend
  repeat' first
    | with_reducible assumption
    | (extract_lets +onlyGivenNames x
       first
       | (refine kept_cut (P := Kept W x) ?_ ?_; (on_goal 1 => subst x); (on_goal 2 => (intro _; try clear_value x)))
       | (refine kept_cut (P := Kept2 W x) ?_ ?_; (on_goal 1 => subst x); (on_goal 2 => (intro _; try clear_value x)))
       | (try clear_value x))
    | (with_reducible first | apply kept_quiet | apply kept_setCar | apply kept_flood | apply kept_showLive)
    | (with_reducible first | apply kept_memberFlags | apply kept_storeReport | apply keptO_next)
    | (with_reducible first | (apply kept2_snd; assumption) | (apply kept2_snd; apply kept_flood))
    | (with_reducible first | refine kept_of2 (by assumption) ?_ | (intro _; rfl) | apply kept_ite)
    | split | (clear_value *; split) | dsimp only

theorem kept_execMemberLost {a1 : Nat} (h : Kept W s) (_ : W.part .car) (_ : W.part .emit) (_ : W.part .pel)
    (_ : Logs W) (_ : W.fld (Evt.st .CAR_MEMBER_LOST)) (_ : W.fld CAR_LIVE.LIVE) (_ : W.fld CAR_STAT.DESIGNATED)
    (_ : W.fld CAR_STAT.LIVE) : KeptO W (execMemberLost a1 s) := by
  unfold execMemberLost
  repeat' first
    | with_reducible assumption
    | (extract_lets +onlyGivenNames x
       first
       | (refine kept_cut (P := Kept W x) ?_ ?_; (on_goal 1 => subst x); (on_goal 2 => (intro _; try clear_value x)))
       | (try clear_value x))
    | (with_reducible first | apply kept_quiet | apply kept_setCar | apply kept_wrBit | apply kept_setPel)
    | (with_reducible first | apply kept_raise | apply kept_showLive | apply keptO_next | (intro _; rfl))
    | (with_reducible first | apply kept_ite)
    | split | (clear_value *; split) | dsimp only

theorem kept_obey (h : Kept W s) (_ : W.part .car) (_ : W.part .eng) (_ : W.fld CAR_OFS.OFS)
    (_ : W.fld CAR_SHARE.MODE) (_ : W.fld CAR_SHARE.OBEYED) (_ : W.fld CAR_STAT.CLAIMANTS)
    (_ : W.fld CAR_STAT.OBEY_DIE) (_ : W.fld CAR_STAT.SHARE_VALID) (_ : W.fld ENG_SLEWV.OUT)
    (_ : W.fld ENG_SLEWV.TARGET) : Kept W (State.obey s) := by
  unfold State.obey
  repeat' first
    | with_reducible assumption
    | (extract_lets +onlyGivenNames x
       first
       | (refine kept_cut (P := Kept W x) ?_ ?_; (on_goal 1 => subst x); (on_goal 2 => (intro _; try clear_value x)))
       | (try clear_value x))
    | (with_reducible first | apply kept_setCar | apply kept_wr | apply kept_giveTarget | (intro _; rfl))
    | (with_reducible first | apply kept_ite)
    | split | (clear_value *; split) | dsimp only

theorem kept_yieldTo {a2 : Nat} (h : Kept W s) (_ : Logs W) (_ : W.fld (Evt.st .CAR_ROLE_CHANGE))
    (_ : W.fld (Evt.st .CAR_YIELD)) (_ : W.fld CAR_STAT.ROLE) (_ : W.fld PEL_STAT.ROOT) :
    Kept W (State.yieldTo s a2) := by
  unfold State.yieldTo
  repeat' first
    | with_reducible assumption
    | (extract_lets +onlyGivenNames x
       first
       | (refine kept_cut (P := Kept W x) ?_ ?_; (on_goal 1 => subst x); (on_goal 2 => (intro _; try clear_value x)))
       | (try clear_value x))
    | (with_reducible first | apply kept_setRole | apply kept_raise | (intro _; rfl) | apply kept_ite)
    | split | (clear_value *; split) | dsimp only

theorem kept_actShare {a1 : List Nat} {a2 : Int} (h : Kept W s) (_ : W.part .car) (_ : W.part .eng) (_ : Logs W)
    (_ : W.fld (Evt.st .CAR_CLAIM_CONFLICT)) (_ : W.fld (Evt.st .CAR_ROLE_CHANGE)) (_ : W.fld (Evt.st .CAR_YIELD))
    (_ : W.fld CAR_EPOCH_SEEN.EPOCH) (_ : W.fld CAR_OFS.OFS) (_ : W.fld CAR_SHARE.AGE) (_ : W.fld CAR_SHARE.MODE)
    (_ : W.fld CAR_SHARE.OBEYED) (_ : W.fld CAR_STAT.CLAIMANTS) (_ : W.fld CAR_STAT.OBEY_DIE)
    (_ : W.fld CAR_STAT.ROLE) (_ : W.fld CAR_STAT.SHARE_VALID) (_ : W.fld ENG_SLEWV.OUT) (_ : W.fld ENG_SLEWV.TARGET)
    (_ : W.fld PEL_STAT.ROOT) : Kept W (State.actShare a1 a2 s) := by
  unfold State.actShare
  repeat' first
    | with_reducible assumption
    | (extract_lets +onlyGivenNames x
       first
       | (refine kept_cut (P := Kept W x) ?_ ?_; (on_goal 1 => subst x); (on_goal 2 => (intro _; try clear_value x)))
       | (try clear_value x))
    | (with_reducible first | apply kept_setCar | apply kept_seeEpoch | apply kept_yieldTo | apply kept_raise)
    | (with_reducible first | apply kept_wr | apply kept_obey | (intro _; rfl) | apply kept_ite)
    | (intro _ _ _ _; try beta_reduce) | (intro _ _ _; try beta_reduce) | (intro _ _; try beta_reduce)
    | split | (clear_value *; split) | dsimp only

theorem kept_execShare {a1 : Nat} {a2 : List Nat} {a3 : Nat} (h : Kept W s) (_ : W.part .car) (_ : W.part .emit)
    (_ : W.part .eng) (_ : Logs W) (_ : W.fld (Evt.st .CAR_CLAIM_CONFLICT)) (_ : W.fld (Evt.st .CAR_ROLE_CHANGE))
    (_ : W.fld (Evt.st .CAR_YIELD)) (_ : W.fld CAR_EPOCH_SEEN.EPOCH) (_ : W.fld CAR_ERR.CRC) (_ : W.fld CAR_ERR.STALE)
    (_ : W.fld CAR_OFS.OFS) (_ : W.fld CAR_RXMSG.MSGS) (_ : W.fld CAR_SHARE.AGE) (_ : W.fld CAR_SHARE.MODE)
    (_ : W.fld CAR_SHARE.OBEYED) (_ : W.fld CAR_STAT.CLAIMANTS) (_ : W.fld CAR_STAT.LINK_UP)
    (_ : W.fld CAR_STAT.OBEY_DIE) (_ : W.fld CAR_STAT.ROLE) (_ : W.fld CAR_STAT.SHARE_VALID) (_ : W.fld ENG_SLEWV.OUT)
    (_ : W.fld ENG_SLEWV.TARGET) (_ : W.fld PEL_STAT.ROOT) : KeptO W (execShare a1 a2 a3 s) := by
  unfold execShare
  repeat' first
    | with_reducible assumption
    | (extract_lets +onlyGivenNames x
       first
       | (refine kept_cut (P := Kept W x) ?_ ?_; (on_goal 1 => subst x); (on_goal 2 => (intro _; try clear_value x)))
       | (try clear_value x))
    | (with_reducible first | apply kept_quiet | apply kept_paceIn | apply kept_actShare | apply keptO_next)
    | (with_reducible first | (intro _; rfl) | apply kept_ite)
    | (intro _ _ _ _; try beta_reduce) | (intro _ _ _; try beta_reduce) | (intro _ _; try beta_reduce)
    | split | (clear_value *; split) | dsimp only

theorem kept_execShareTimeout (h : Kept W s) (_ : W.part .emit) (_ : Logs W) (_ : W.fld (Evt.st .CAR_SHARE_INVALID))
    (_ : W.fld CAR_STAT.SHARE_VALID) : KeptO W (execShareTimeout s) := by
  unfold execShareTimeout
  repeat' first
    | with_reducible assumption
    | (extract_lets +onlyGivenNames x
       first
       | (refine kept_cut (P := Kept W x) ?_ ?_; (on_goal 1 => subst x); (on_goal 2 => (intro _; try clear_value x)))
       | (try clear_value x))
    | (with_reducible first | apply kept_quiet | apply kept_raise | apply kept_wr | apply keptO_next | (intro _; rfl))
    | (with_reducible first | apply kept_ite)
    | split | (clear_value *; split) | dsimp only

theorem kept_fits {a2 : Nat} {a3 : Nat} (h : Kept W s) (_ : W.part .free) : Kept2 W (State.fits s a2 a3) := by
  unfold State.fits
  repeat' first
    | with_reducible assumption
    | (extract_lets +onlyGivenNames x
       first
       | (refine kept_cut (P := Kept W x) ?_ ?_; (on_goal 1 => subst x); (on_goal 2 => (intro _; try clear_value x)))
       | (refine kept_cut (P := Kept2 W x) ?_ ?_; (on_goal 1 => subst x); (on_goal 2 => (intro _; try clear_value x)))
       | (try clear_value x))
    | (with_reducible first | apply kept_takeFree | apply kept2_mk | (apply kept2_snd; assumption))
    | (with_reducible first | (apply kept2_snd; apply kept_takeFree) | refine kept_of2 (by assumption) ?_)
    | (with_reducible first | (intro _; rfl) | apply kept_ite)
    | split | (clear_value *; split) | dsimp only

theorem kept_sendShare (h : Kept W s) (_ : W.part .car) (_ : W.part .emit) (_ : W.part .eng) (_ : W.part .free)
    (_ : Logs W) (_ : W.fld (Evt.st .CAR_CLAIM_CONFLICT)) (_ : W.fld (Evt.st .CAR_OVER))
    (_ : W.fld (Evt.st .CAR_ROLE_CHANGE)) (_ : W.fld (Evt.st .CAR_YIELD)) (_ : W.fld CAR_BUDGET.BUDGET)
    (_ : W.fld CAR_EPOCH_SEEN.EPOCH) (_ : W.fld CAR_OFS.OFS) (_ : W.fld CAR_SHARE.AGE) (_ : W.fld CAR_SHARE.MODE)
    (_ : W.fld CAR_SHARE.OBEYED) (_ : W.fld CAR_SPLIT.MODE) (_ : W.fld CAR_SPLIT.PARAM) (_ : W.fld CAR_STAT.CLAIMANTS)
    (_ : W.fld CAR_STAT.OBEY_DIE) (_ : W.fld CAR_STAT.ROLE) (_ : W.fld CAR_STAT.SHARE_VALID) (_ : W.fld ENG_SLEWV.OUT)
    (_ : W.fld ENG_SLEWV.TARGET) (_ : W.fld PEL_STAT.ROOT) : Kept W (State.sendShare s) := by
  unfold State.sendShare
  repeat' first
    | with_reducible assumption
    | (extract_lets +onlyGivenNames x
       first
       | (refine kept_cut (P := Kept W x) ?_ ?_; (on_goal 1 => subst x); (on_goal 2 => (intro _; try clear_value x)))
       | (refine kept_cut (P := Kept2 W x) ?_ ?_; (on_goal 1 => subst x); (on_goal 2 => (intro _; try clear_value x)))
       | (try clear_value x))
    | (with_reducible first | apply kept_fits | apply kept_wr | apply kept_raise | apply kept_takeFree)
    | (with_reducible first | apply kept_flood | apply kept_actShare | apply kept2_mk | (apply kept2_snd; assumption))
    | (with_reducible first | (apply kept2_snd; apply kept_fits) | (apply kept2_snd; apply kept_takeFree))
    | (with_reducible first | (apply kept2_snd; apply kept_flood) | refine kept_of2 (by assumption) ?_)
    | (with_reducible first | (intro _; rfl) | apply kept_ite)
    | (intro _ _ _ _; try beta_reduce) | (intro _ _ _; try beta_reduce) | (intro _ _; try beta_reduce)
    | split | (clear_value *; split) | dsimp only

theorem kept_execCarrierPeriod (h : Kept W s) (_ : W.part .car) (_ : W.part .emit) (_ : W.part .eng)
    (_ : W.part .free) (_ : Logs W) (_ : W.fld (Evt.st .CAR_CLAIM_CONFLICT)) (_ : W.fld (Evt.st .CAR_OVER))
    (_ : W.fld (Evt.st .CAR_ROLE_CHANGE)) (_ : W.fld (Evt.st .CAR_YIELD)) (_ : W.fld CAR_BUDGET.BUDGET)
    (_ : W.fld CAR_EPOCH_SEEN.EPOCH) (_ : W.fld CAR_LEASE.REQ) (_ : W.fld CAR_OFS.OFS) (_ : W.fld CAR_SHARE.AGE)
    (_ : W.fld CAR_SHARE.MODE) (_ : W.fld CAR_SHARE.OBEYED) (_ : W.fld CAR_SPLIT.MODE) (_ : W.fld CAR_SPLIT.PARAM)
    (_ : W.fld CAR_STAT.CLAIMANTS) (_ : W.fld CAR_STAT.OBEY_DIE) (_ : W.fld CAR_STAT.ROLE)
    (_ : W.fld CAR_STAT.SHARE_VALID) (_ : W.fld ENG_SLEWV.OUT) (_ : W.fld ENG_SLEWV.TARGET) (_ : W.fld PEL_STAT.ROOT)
    : KeptO W (execCarrierPeriod s) := by
  unfold execCarrierPeriod
  repeat' first
    | with_reducible assumption
    | (extract_lets +onlyGivenNames x
       first
       | (refine kept_cut (P := Kept W x) ?_ ?_; (on_goal 1 => subst x); (on_goal 2 => (intro _; try clear_value x)))
       | (try clear_value x))
    | (with_reducible first | apply kept_quiet | apply kept_setCar | apply kept_sendShare | apply kept_requestLease)
    | (with_reducible first | apply keptO_next | (intro _; rfl) | apply kept_ite)
    | (intro _ _ _ _; try beta_reduce) | (intro _ _ _; try beta_reduce) | (intro _ _; try beta_reduce)
    | split | (clear_value *; split) | dsimp only

theorem kept_carrierBoundary (h : Kept W s) (_ : W.part .car) (_ : W.part .eng) (_ : W.fld CAR_LEASE.LEFT)
    (_ : W.fld CAR_LIVE.LIVE) (_ : W.fld CAR_OFS.OFS) (_ : W.fld CAR_SHARE.AGE) (_ : W.fld CAR_SHARE.MODE)
    (_ : W.fld CAR_SHARE.OBEYED) (_ : W.fld CAR_STAT.CLAIMANTS) (_ : W.fld CAR_STAT.DESIGNATED)
    (_ : W.fld CAR_STAT.LIVE) (_ : W.fld CAR_STAT.OBEY_DIE) (_ : W.fld CAR_STAT.SHARE_VALID) (_ : W.fld ENG_SLEWV.OUT)
    (_ : W.fld ENG_SLEWV.TARGET) : Kept W (State.carrierBoundary s) := by
  unfold State.carrierBoundary
  repeat' first
    | with_reducible assumption
    | (extract_lets +onlyGivenNames x
       first
       | (refine kept_cut (P := Kept W x) ?_ ?_; (on_goal 1 => subst x); (on_goal 2 => (intro _; try clear_value x)))
       | (try clear_value x))
    | (with_reducible first | apply kept_wr | apply kept_obey | apply kept_showLive | (intro _; rfl) | apply kept_ite)
    | split | (clear_value *; split) | dsimp only

end Sys2Proof.Machine
end

