-- ==== Sys2Proof/Laws/KeptPeloton.lean ====
section
/-! SUPPORT. What the operations of `Peloton.lean` keep (see `Kept.lean`). -/

set_option linter.unusedVariables false
set_option linter.unusedTactic false
set_option linter.unreachableTactic false
set_option linter.tactic.unusedName false

namespace Sys2Proof.Machine

variable {W : Bounds} {s : State}

theorem kept_sendDrag (h : Kept W s) (_ : W.part .car) (_ : W.part .emit) (_ : W.part .pel) (_ : Logs W) :
    Kept W (State.sendDrag s) := by
  unfold State.sendDrag
  repeat' first
    | with_reducible assumption
    | (extract_lets +onlyGivenNames x
       first
       | (refine kept_cut (P := Kept W x) ?_ ?_; (on_goal 1 => subst x); (on_goal 2 => (intro _; try clear_value x)))
       | (refine kept_cut (P := Kept2 W x) ?_ ?_; (on_goal 1 => subst x); (on_goal 2 => (intro _; try clear_value x)))
       | (try clear_value x))
    | (with_reducible first | apply kept_memberFlags | apply kept_flood | (apply kept2_snd; assumption))
    | (with_reducible first | (apply kept2_snd; apply kept_flood) | refine kept_of2 (by assumption) ?_)
    | (with_reducible first | (intro _; rfl) | apply kept_ite)
    | split | (clear_value *; split) | dsimp only

theorem kept_dragRise (h : Kept W s) (_ : W.part .car) (_ : W.part .emit) (_ : W.part .pel) (_ : Logs W)
    (_ : W.fld (Evt.st .PEL_DRAG)) (_ : W.fld PEL_CNT.DRAGS) (_ : W.fld PEL_STAT.DRAG) :
    Kept W (State.dragRise s) := by
  unfold State.dragRise
  repeat' first
    | with_reducible assumption
    | (extract_lets +onlyGivenNames x
       first
       | (refine kept_cut (P := Kept W x) ?_ ?_; (on_goal 1 => subst x); (on_goal 2 => (intro _; try clear_value x)))
       | (try clear_value x))
    | (with_reducible first | apply kept_inc | apply kept_wr | apply kept_raise | apply kept_sendDrag)
    | (with_reducible first | (intro _; rfl) | apply kept_ite)
    | split | (clear_value *; split) | dsimp only

theorem kept_execDragRise (h : Kept W s) (_ : W.part .car) (_ : W.part .emit) (_ : W.part .pel) (_ : Logs W)
    (_ : W.fld (Evt.st .PEL_DRAG)) (_ : W.fld PEL_CNT.DRAGS) (_ : W.fld PEL_STAT.DRAG) :
    KeptO W (execDragRise s) := by
  unfold execDragRise
  repeat' first
    | with_reducible assumption
    | (extract_lets +onlyGivenNames x
       first
       | (refine kept_cut (P := Kept W x) ?_ ?_; (on_goal 1 => subst x); (on_goal 2 => (intro _; try clear_value x)))
       | (try clear_value x))
    | (with_reducible first | apply kept_quiet | apply kept_dragRise | apply keptO_next | (intro _; rfl))
    | (with_reducible first | apply kept_ite)
    | split | (clear_value *; split) | dsimp only

theorem kept_execDragClear (h : Kept W s) (_ : W.part .car) (_ : W.part .emit) (_ : W.part .pel) (_ : Logs W)
    (_ : W.fld (Evt.st .PEL_DRAG_CLR)) (_ : W.fld PEL_STAT.CANT_FOLLOW) (_ : W.fld PEL_STAT.DRAG) :
    KeptO W (execDragClear s) := by
  unfold execDragClear
  repeat' first
    | with_reducible assumption
    | (extract_lets +onlyGivenNames x
       first
       | (refine kept_cut (P := Kept W x) ?_ ?_; (on_goal 1 => subst x); (on_goal 2 => (intro _; try clear_value x)))
       | (try clear_value x))
    | (with_reducible first | apply kept_quiet | apply kept_wr | apply kept_raise | apply kept_sendDrag)
    | (with_reducible first | apply kept_setPel | apply keptO_next | (intro _; rfl) | apply kept_ite)
    | split | (clear_value *; split) | dsimp only

theorem kept_execCantFollow (h : Kept W s) (_ : W.part .car) (_ : W.part .emit) (_ : W.part .pel) (_ : Logs W)
    (_ : W.fld (Evt.st .PEL_CANT_FOLLOW)) (_ : W.fld (Evt.st .PEL_DRAG)) (_ : W.fld PEL_STAT.CANT_FOLLOW) :
    KeptO W (execCantFollow s) := by
  unfold execCantFollow
  repeat' first
    | with_reducible assumption
    | (extract_lets +onlyGivenNames x
       first
       | (refine kept_cut (P := Kept W x) ?_ ?_; (on_goal 1 => subst x); (on_goal 2 => (intro _; try clear_value x)))
       | (try clear_value x))
    | (with_reducible first | apply kept_quiet | apply kept_raise | apply kept_sendDrag | apply kept_wr)
    | (with_reducible first | apply keptO_next | (intro _; rfl) | apply kept_ite)
    | split | (clear_value *; split) | dsimp only

theorem kept_actDrag {a1 : List Nat} (h : Kept W s) (_ : W.part .pel) : Kept W (State.actDrag a1 s) := by
  unfold State.actDrag
  repeat' first
    | with_reducible assumption
    | (extract_lets +onlyGivenNames x
       first
       | (refine kept_cut (P := Kept W x) ?_ ?_; (on_goal 1 => subst x); (on_goal 2 => (intro _; try clear_value x)))
       | (try clear_value x))
    | (with_reducible first | apply kept_memberFlags | (intro _; rfl) | apply kept_ite)
    | split | (clear_value *; split) | dsimp only

theorem kept_execDrag {a1 : Nat} {a2 : List Nat} (h : Kept W s) (_ : W.part .car) (_ : W.part .emit) (_ : W.part .pel)
    (_ : Logs W) (_ : W.fld CAR_ERR.CRC) (_ : W.fld CAR_ERR.STALE) (_ : W.fld CAR_RXMSG.MSGS)
    (_ : W.fld CAR_STAT.LINK_UP) : KeptO W (execDrag a1 a2 s) := by
  unfold execDrag
  repeat' first
    | with_reducible assumption
    | (extract_lets +onlyGivenNames x
       first
       | (refine kept_cut (P := Kept W x) ?_ ?_; (on_goal 1 => subst x); (on_goal 2 => (intro _; try clear_value x)))
       | (try clear_value x))
    | (with_reducible first | apply kept_quiet | apply kept_paceIn | apply kept_actDrag | apply keptO_next)
    | (with_reducible first | (intro _; rfl) | apply kept_ite)
    | (intro _ _ _ _; try beta_reduce) | (intro _ _ _; try beta_reduce) | (intro _ _; try beta_reduce)
    | split | (clear_value *; split) | dsimp only

theorem kept_execOrphan (h : Kept W s) (_ : W.part .emit) (_ : Logs W) (_ : W.fld (Evt.st .PEL_ORPHAN))
    (_ : W.fld PEL_STAT.ORPHAN) : KeptO W (execOrphan s) := by
  unfold execOrphan
  repeat' first
    | with_reducible assumption
    | (extract_lets +onlyGivenNames x
       first
       | (refine kept_cut (P := Kept W x) ?_ ?_; (on_goal 1 => subst x); (on_goal 2 => (intro _; try clear_value x)))
       | (try clear_value x))
    | (with_reducible first | apply kept_quiet | apply kept_raise | apply kept_wr | apply keptO_next | (intro _; rfl))
    | (with_reducible first | apply kept_ite)
    | split | (clear_value *; split) | dsimp only

theorem kept_showRoot (h : Kept W s) (_ : W.fld PEL_LIVE.LIVE) (_ : W.fld PEL_ROOT.LIVE_CAR)
    (_ : W.fld PEL_ROOT.RETURN_LEFT) (_ : W.fld PEL_ROOT.RISES) (_ : W.fld PEL_STAT.ROOT) :
    Kept W (State.showRoot s) := by
  unfold State.showRoot
  repeat' first
    | with_reducible assumption
    | (extract_lets +onlyGivenNames x
       first
       | (refine kept_cut (P := Kept W x) ?_ ?_; (on_goal 1 => subst x); (on_goal 2 => (intro _; try clear_value x)))
       | (try clear_value x))
    | (with_reducible first | apply kept_wr | apply kept_wrB | apply kept_upTo | (intro _; rfl) | apply kept_ite)
    | (intro _ _ _ _; try beta_reduce) | (intro _ _ _; try beta_reduce) | (intro _ _; try beta_reduce)
    | split | (clear_value *; split) | dsimp only

theorem kept_findRoot (h : Kept W s) (_ : W.part .pel) (_ : Logs W) (_ : W.fld (Evt.st .PEL_ROOT_CHANGE))
    (_ : W.fld PEL_LIVE.LIVE) (_ : W.fld PEL_ROOT.LIVE_CAR) (_ : W.fld PEL_ROOT.RETURN_LEFT)
    (_ : W.fld PEL_ROOT.RISES) (_ : W.fld PEL_STAT.OFS_VALID) (_ : W.fld PEL_STAT.ROOT)
    (_ : W.fld PEL_STAT.ROOT_CARRIER) : Kept W (State.findRoot s) := by
  unfold State.findRoot
  repeat' first
    | with_reducible assumption
    | (extract_lets +onlyGivenNames x
       first
       | (refine kept_cut (P := Kept W x) ?_ ?_; (on_goal 1 => subst x); (on_goal 2 => (intro _; try clear_value x)))
       | (try clear_value x))
    | (with_reducible first | apply kept_showRoot | apply kept_setPel | apply kept_wr | apply kept_raise)
    | (with_reducible first | (intro _; rfl) | apply kept_ite)
    | split | (clear_value *; split) | dsimp only

theorem kept_actOffer {a1 : List Nat} (h : Kept W s) (_ : W.part .pel) (_ : Logs W)
    (_ : W.fld (Evt.st .PEL_ROOT_CHANGE)) (_ : W.fld PEL_LIVE.LIVE) (_ : W.fld PEL_ROOT.LIVE_CAR)
    (_ : W.fld PEL_ROOT.RETURN_LEFT) (_ : W.fld PEL_ROOT.RISES) (_ : W.fld PEL_STAT.OFS_VALID)
    (_ : W.fld PEL_STAT.ROOT) (_ : W.fld PEL_STAT.ROOT_CARRIER) : Kept W (State.actOffer a1 s) := by
  unfold State.actOffer
  repeat' first
    | with_reducible assumption
    | (extract_lets +onlyGivenNames x
       first
       | (refine kept_cut (P := Kept W x) ?_ ?_; (on_goal 1 => subst x); (on_goal 2 => (intro _; try clear_value x)))
       | (try clear_value x))
    | (with_reducible first | apply kept_setPel | apply kept_findRoot | (intro _; rfl) | apply kept_ite)
    | split | (clear_value *; split) | dsimp only

theorem kept_execOffer {a1 : List Nat} (h : Kept W s) (_ : W.part .car) (_ : W.part .emit) (_ : W.part .free)
    (_ : W.part .pel) (_ : Logs W) (_ : W.fld (Evt.st .PEL_ROOT_CHANGE)) (_ : W.fld CAR_ERR.CRC)
    (_ : W.fld CAR_ERR.STALE) (_ : W.fld CAR_RXMSG.MSGS) (_ : W.fld PEL_LIVE.LIVE) (_ : W.fld PEL_ROOT.LIVE_CAR)
    (_ : W.fld PEL_ROOT.RETURN_LEFT) (_ : W.fld PEL_ROOT.RISES) (_ : W.fld PEL_STAT.OFS_VALID)
    (_ : W.fld PEL_STAT.ROOT) (_ : W.fld PEL_STAT.ROOT_CARRIER) : KeptO W (execOffer a1 s) := by
  unfold execOffer
  repeat' first
    | with_reducible assumption
    | (extract_lets +onlyGivenNames x
       first
       | (refine kept_cut (P := Kept W x) ?_ ?_; (on_goal 1 => subst x); (on_goal 2 => (intro _; try clear_value x)))
       | (refine kept_cut (P := Kept2 W x) ?_ ?_; (on_goal 1 => subst x); (on_goal 2 => (intro _; try clear_value x)))
       | (try clear_value x))
    | (with_reducible first | apply kept_quiet | apply kept_takeFree | apply kept_sidebandIn | apply kept_actOffer)
    | (with_reducible first | apply keptO_next | (apply kept2_snd; assumption))
    | (with_reducible first | (apply kept2_snd; apply kept_takeFree) | refine kept_of2 (by assumption) ?_)
    | (with_reducible first | (intro _; rfl) | apply kept_ite)
    | (intro _ _ _ _; try beta_reduce) | (intro _ _ _; try beta_reduce) | (intro _ _; try beta_reduce)
    | split | (clear_value *; split) | dsimp only

theorem kept_execOfferSend (h : Kept W s) (_ : W.part .car) (_ : W.part .emit) (_ : W.part .free) (_ : W.part .pel)
    (_ : Logs W) (_ : W.fld (Evt.st .PEL_ROOT_CHANGE)) (_ : W.fld PEL_LIVE.LIVE) (_ : W.fld PEL_ROOT.LIVE_CAR)
    (_ : W.fld PEL_ROOT.RETURN_LEFT) (_ : W.fld PEL_ROOT.RISES) (_ : W.fld PEL_STAT.OFS_VALID)
    (_ : W.fld PEL_STAT.ROOT) (_ : W.fld PEL_STAT.ROOT_CARRIER) : KeptO W (execOfferSend s) := by
  unfold execOfferSend
  repeat' first
    | with_reducible assumption
    | (extract_lets +onlyGivenNames x
       first
       | (refine kept_cut (P := Kept W x) ?_ ?_; (on_goal 1 => subst x); (on_goal 2 => (intro _; try clear_value x)))
       | (refine kept_cut (P := Kept2 W x) ?_ ?_; (on_goal 1 => subst x); (on_goal 2 => (intro _; try clear_value x)))
       | (try clear_value x))
    | (with_reducible first | apply kept_quiet | apply kept_setPel | apply kept_takeFree | apply kept_sideband)
    | (with_reducible first | apply kept_actOffer | apply kept_foldl | apply keptO_next)
    | (with_reducible first | (apply kept2_snd; assumption) | (apply kept2_snd; apply kept_takeFree))
    | (with_reducible first | (apply kept2_snd; apply kept_sideband) | refine kept_of2 (by assumption) ?_)
    | (with_reducible first | (intro _; rfl) | apply kept_ite)
    | (intro _ _ _ _; try beta_reduce) | (intro _ _ _; try beta_reduce) | (intro _ _; try beta_reduce)
    | split | (clear_value *; split) | dsimp only

theorem kept_execCarrierLost {a1 : Nat} (h : Kept W s) (_ : W.part .emit) (_ : W.part .pel) (_ : Logs W)
    (_ : W.fld (Evt.st .PEL_CARRIER_LOST)) (_ : W.fld (Evt.st .PEL_ROOT_CHANGE)) (_ : W.fld PEL_LIVE.LIVE)
    (_ : W.fld PEL_ROOT.LIVE_CAR) (_ : W.fld PEL_ROOT.RETURN_LEFT) (_ : W.fld PEL_ROOT.RISES)
    (_ : W.fld PEL_STAT.OFS_VALID) (_ : W.fld PEL_STAT.ROOT) (_ : W.fld PEL_STAT.ROOT_CARRIER) :
    KeptO W (execCarrierLost a1 s) := by
  unfold execCarrierLost
  repeat' first
    | with_reducible assumption
    | (extract_lets +onlyGivenNames x
       first
       | (refine kept_cut (P := Kept W x) ?_ ?_; (on_goal 1 => subst x); (on_goal 2 => (intro _; try clear_value x)))
       | (try clear_value x))
    | (with_reducible first | apply kept_quiet | apply kept_setPel | apply kept_raise | apply kept_findRoot)
    | (with_reducible first | apply keptO_next | (intro _; rfl) | apply kept_ite)
    | split | (clear_value *; split) | dsimp only

theorem kept_execPacelineReturn (h : Kept W s) (_ : W.part .emit) (_ : W.part .pel) (_ : Logs W)
    (_ : W.fld (Evt.st .PEL_RETURN)) (_ : W.fld PEL_LIVE.LIVE) (_ : W.fld PEL_ROOT.LIVE_CAR)
    (_ : W.fld PEL_ROOT.RETURN_LEFT) (_ : W.fld PEL_ROOT.RISES) (_ : W.fld PEL_STAT.ROOT) :
    KeptO W (execPacelineReturn s) := by
  unfold execPacelineReturn
  repeat' first
    | with_reducible assumption
    | (extract_lets +onlyGivenNames x
       first
       | (refine kept_cut (P := Kept W x) ?_ ?_; (on_goal 1 => subst x); (on_goal 2 => (intro _; try clear_value x)))
       | (try clear_value x))
    | (with_reducible first | apply kept_quiet | apply kept_showRoot | apply kept_raise | apply kept_setPel)
    | (with_reducible first | apply keptO_next | (intro _; rfl) | apply kept_ite)
    | split | (clear_value *; split) | dsimp only

theorem kept_showNext (h : Kept W s) (_ : W.fld PEL_NEXT.TICK) : Kept W (State.showNext s) := by
  unfold State.showNext
  repeat' first
    | with_reducible assumption
    | (extract_lets +onlyGivenNames x
       first
       | (refine kept_cut (P := Kept W x) ?_ ?_; (on_goal 1 => subst x); (on_goal 2 => (intro _; try clear_value x)))
       | (try clear_value x))
    | (with_reducible first | apply kept_wr | apply kept_foldl | (intro _; rfl) | apply kept_ite)
    | (intro _ _ _ _; try beta_reduce) | (intro _ _ _; try beta_reduce) | (intro _ _; try beta_reduce)
    | split | (clear_value *; split) | dsimp only

theorem kept_scheduleApply {a2 a3 a4 a5 a6 : Nat} (h : Kept W s) (_ : W.part .cad) (_ : W.part .pel) (_ : W.part .tasks) (_ : W.fld PEL_NEXT.TICK) :
    Kept W (s.scheduleApply a2 a3 a4 a5 a6) := by
  unfold State.scheduleApply
  split
  · exact h
  · extract_lets newRoot keep t u
    have ht : Kept W t := by
      subst t
      split
      · exact kept_unqueue h List.filter_sublist ‹_› ‹_›
      · exact h
    have hu : Kept W u.2 := kept2_snd (kept_schedule ht ‹_› ‹_›)
    clear_value u
    repeat' first
      | with_reducible assumption
      | (extract_lets +onlyGivenNames x
         first
         | (refine kept_cut (P := Kept W x) ?_ ?_; (on_goal 1 => subst x); (on_goal 2 => (intro _; try clear_value x)))
         | (try clear_value x))
      | (with_reducible first | apply kept_showNext | apply kept_setPel | (intro _; rfl) | apply kept_ite)
      | (intro _ _ _ _; try beta_reduce) | (intro _ _ _; try beta_reduce) | (intro _ _; try beta_reduce)
      | split | (clear_value *; split) | dsimp only

theorem kept_actPoint {a1 : List Nat} (h : Kept W s) (_ : W.part .cad) (_ : W.part .car) (_ : W.part .emit)
    (_ : W.part .free) (_ : W.part .pel) (_ : W.part .tasks) (_ : Logs W) (_ : W.fld PEL_NEXT.TICK)
    (_ : W.fld PEL_STAT.ORPHAN) : Kept W (State.actPoint a1 s) := by
  unfold State.actPoint
  repeat' first
    | with_reducible assumption
    | (extract_lets +onlyGivenNames x
       first
       | (refine kept_cut (P := Kept W x) ?_ ?_; (on_goal 1 => subst x); (on_goal 2 => (intro _; try clear_value x)))
       | (refine kept_cut (P := Kept2 W x) ?_ ?_; (on_goal 1 => subst x); (on_goal 2 => (intro _; try clear_value x)))
       | (try clear_value x))
    | (with_reducible first | apply kept_setPel | apply kept_scheduleApply | apply kept_wr | apply kept_takeFree)
    | (with_reducible first | apply kept_flood | (apply kept2_snd; assumption))
    | (with_reducible first | (apply kept2_snd; apply kept_takeFree) | (apply kept2_snd; apply kept_flood))
    | (with_reducible first | refine kept_of2 (by assumption) ?_ | (intro _; rfl) | apply kept_ite)
    | split | (clear_value *; split) | dsimp only

theorem kept_execPoint {a1 : List Nat} (h : Kept W s) (_ : W.part .cad) (_ : W.part .car) (_ : W.part .emit)
    (_ : W.part .free) (_ : W.part .pel) (_ : W.part .tasks) (_ : Logs W) (_ : W.fld CAR_ERR.CRC)
    (_ : W.fld CAR_ERR.STALE) (_ : W.fld CAR_RXMSG.MSGS) (_ : W.fld PEL_NEXT.TICK) (_ : W.fld PEL_STAT.ORPHAN) :
    KeptO W (execPoint a1 s) := by
  unfold execPoint
  repeat' first
    | with_reducible assumption
    | (extract_lets +onlyGivenNames x
       first
       | (refine kept_cut (P := Kept W x) ?_ ?_; (on_goal 1 => subst x); (on_goal 2 => (intro _; try clear_value x)))
       | (refine kept_cut (P := Kept2 W x) ?_ ?_; (on_goal 1 => subst x); (on_goal 2 => (intro _; try clear_value x)))
       | (try clear_value x))
    | (with_reducible first | apply kept_quiet | apply kept_takeFree | apply kept_sidebandIn | apply kept_actPoint)
    | (with_reducible first | apply keptO_next | (apply kept2_snd; assumption))
    | (with_reducible first | (apply kept2_snd; apply kept_takeFree) | refine kept_of2 (by assumption) ?_)
    | (with_reducible first | (intro _; rfl) | apply kept_ite)
    | (intro _ _ _ _; try beta_reduce) | (intro _ _ _; try beta_reduce) | (intro _ _; try beta_reduce)
    | split | (clear_value *; split) | dsimp only

theorem kept_execPointSend (h : Kept W s) (_ : W.part .cad) (_ : W.part .car) (_ : W.part .emit) (_ : W.part .free)
    (_ : W.part .pel) (_ : W.part .tasks) (_ : Logs W) (_ : W.fld (Evt.st .PEL_FALLBACK)) (_ : W.fld PEL_LIVE.LIVE)
    (_ : W.fld PEL_NEXT.TICK) (_ : W.fld PEL_ROOT.LIVE_CAR) (_ : W.fld PEL_ROOT.RETURN_LEFT)
    (_ : W.fld PEL_ROOT.RISES) (_ : W.fld PEL_STAT.ORPHAN) (_ : W.fld PEL_STAT.ROOT) : KeptO W (execPointSend s) := by
  unfold execPointSend
  repeat' first
    | with_reducible assumption
    | (extract_lets +onlyGivenNames x
       first
       | (refine kept_cut (P := Kept W x) ?_ ?_; (on_goal 1 => subst x); (on_goal 2 => (intro _; try clear_value x)))
       | (refine kept_cut (P := Kept2 W x) ?_ ?_; (on_goal 1 => subst x); (on_goal 2 => (intro _; try clear_value x)))
       | (try clear_value x))
    | (with_reducible first | apply kept_quiet | apply kept_setPel | apply kept_raise | apply kept_takeFree)
    | (with_reducible first | apply kept_sideband | apply kept_showRoot | apply kept_actPoint | apply kept_foldl)
    | (with_reducible first | apply keptO_next | (apply kept2_snd; assumption))
    | (with_reducible first | (apply kept2_snd; apply kept_takeFree) | (apply kept2_snd; apply kept_sideband))
    | (with_reducible first | refine kept_of2 (by assumption) ?_ | (intro _; rfl) | apply kept_ite)
    | (intro _ _ _ _; try beta_reduce) | (intro _ _ _; try beta_reduce) | (intro _ _; try beta_reduce)
    | split | (clear_value *; split) | dsimp only

theorem kept_actCpoint {a1 : List Nat} (h : Kept W s) (_ : W.part .cad) (_ : W.part .pel) (_ : W.part .tasks)
    (_ : W.fld PEL_NEXT.TICK) (_ : W.fld PEL_STAT.ORPHAN) : Kept W (State.actCpoint a1 s) := by
  unfold State.actCpoint
  repeat' first
    | with_reducible assumption
    | (extract_lets +onlyGivenNames x
       first
       | (refine kept_cut (P := Kept W x) ?_ ?_; (on_goal 1 => subst x); (on_goal 2 => (intro _; try clear_value x)))
       | (try clear_value x))
    | (with_reducible first | apply kept_scheduleApply | apply kept_setPel | apply kept_wr | (intro _; rfl))
    | (with_reducible first | apply kept_ite)
    | split | (clear_value *; split) | dsimp only

theorem kept_execCpoint {a1 : Nat} {a2 : List Nat} (h : Kept W s) (_ : W.part .cad) (_ : W.part .car)
    (_ : W.part .emit) (_ : W.part .free) (_ : W.part .pel) (_ : W.part .tasks) (_ : Logs W) (_ : W.fld CAR_ERR.CRC)
    (_ : W.fld CAR_ERR.STALE) (_ : W.fld CAR_RXMSG.MSGS) (_ : W.fld CAR_STAT.LINK_UP) (_ : W.fld PEL_NEXT.TICK)
    (_ : W.fld PEL_STAT.ORPHAN) : KeptO W (execCpoint a1 a2 s) := by
  unfold execCpoint
  repeat' first
    | with_reducible assumption
    | (extract_lets +onlyGivenNames x
       first
       | (refine kept_cut (P := Kept W x) ?_ ?_; (on_goal 1 => subst x); (on_goal 2 => (intro _; try clear_value x)))
       | (refine kept_cut (P := Kept2 W x) ?_ ?_; (on_goal 1 => subst x); (on_goal 2 => (intro _; try clear_value x)))
       | (try clear_value x))
    | (with_reducible first | apply kept_quiet | apply kept_takeFree | apply kept_paceIn | apply kept_actCpoint)
    | (with_reducible first | apply keptO_next | (apply kept2_snd; assumption))
    | (with_reducible first | (apply kept2_snd; apply kept_takeFree) | refine kept_of2 (by assumption) ?_)
    | (with_reducible first | (intro _; rfl) | apply kept_ite)
    | (intro _ _ _ _; try beta_reduce) | (intro _ _ _; try beta_reduce) | (intro _ _; try beta_reduce)
    | split | (clear_value *; split) | dsimp only

theorem kept_execPelotonApply (h : Kept W s) (_ : W.part .cad) (_ : W.part .emit) (_ : W.part .eng)
    (_ : W.part .tasks) (_ : Logs W) (_ : W.fld (Evt.st .CAD_LATE)) (_ : W.fld (Evt.st .PEL_LATE_APPLY))
    (_ : W.fld CAD_DEFER_CNT.LATE) (_ : W.fld ENG_SLEWV.OUT) (_ : W.fld ENG_SLEWV.TARGET) (_ : W.fld PEL_NEXT.TICK)
    (_ : W.fld PEL_STAT.MODE) (_ : W.fld PEL_STAT.POINT) : KeptO W (execPelotonApply s) := by
  unfold execPelotonApply
  repeat' first
    | with_reducible assumption
    | (extract_lets +onlyGivenNames x
       first
       | (refine kept_cut (P := Kept W x) ?_ ?_; (on_goal 1 => subst x); (on_goal 2 => (intro _; try clear_value x)))
       | (try clear_value x))
    | (with_reducible first | apply kept_quiet | apply kept_takeEvent | apply kept_raise | apply kept_giveTarget)
    | (with_reducible first | apply kept_wr | apply kept_showNext | apply keptO_next)
    | (with_reducible first | refine kept_ofSome (by assumption) ?_ | (intro _; rfl) | apply kept_ite)
    | split | (clear_value *; split) | dsimp only

theorem kept_execPsyncReqSend {a1 : Nat} (h : Kept W s) (_ : W.part .car) (_ : W.part .emit) (_ : W.part .pel)
    (_ : Logs W) : KeptO W (execPsyncReqSend a1 s) := by
  unfold execPsyncReqSend
  repeat' first
    | with_reducible assumption
    | (extract_lets +onlyGivenNames x
       first
       | (refine kept_cut (P := Kept W x) ?_ ?_; (on_goal 1 => subst x); (on_goal 2 => (intro _; try clear_value x)))
       | (refine kept_cut (P := Kept2 W x) ?_ ?_; (on_goal 1 => subst x); (on_goal 2 => (intro _; try clear_value x)))
       | (try clear_value x))
    | (with_reducible first | apply kept_quiet | apply kept_setPel | apply kept_sideband | apply keptO_next)
    | (with_reducible first | (apply kept2_snd; assumption) | (apply kept2_snd; apply kept_sideband))
    | (with_reducible first | refine kept_of2 (by assumption) ?_ | (intro _; rfl) | apply kept_ite)
    | split | (clear_value *; split) | dsimp only

theorem kept_actPsyncReq {a1 : List Nat} {a2 : Nat} {a3 : Nat} (h : Kept W s) (_ : W.part .car) (_ : W.part .emit)
    (_ : Logs W) : Kept W (State.actPsyncReq a1 a2 a3 s) := by
  unfold State.actPsyncReq
  repeat' first
    | with_reducible assumption
    | (extract_lets +onlyGivenNames x
       first
       | (refine kept_cut (P := Kept W x) ?_ ?_; (on_goal 1 => subst x); (on_goal 2 => (intro _; try clear_value x)))
       | (refine kept_cut (P := Kept2 W x) ?_ ?_; (on_goal 1 => subst x); (on_goal 2 => (intro _; try clear_value x)))
       | (try clear_value x))
    | (with_reducible first | apply kept_sideband | (apply kept2_snd; assumption))
    | (with_reducible first | (apply kept2_snd; apply kept_sideband) | refine kept_of2 (by assumption) ?_)
    | (with_reducible first | (intro _; rfl) | apply kept_ite)
    | split | (clear_value *; split) | dsimp only

theorem kept_execPsyncReq {a1 : List Nat} {a2 : Nat} {a3 : Nat} (h : Kept W s) (_ : W.part .car) (_ : W.part .emit)
    (_ : Logs W) (_ : W.fld CAR_ERR.CRC) (_ : W.fld CAR_ERR.STALE) (_ : W.fld CAR_RXMSG.MSGS) :
    KeptO W (execPsyncReq a1 a2 a3 s) := by
  unfold execPsyncReq
  repeat' first
    | with_reducible assumption
    | (extract_lets +onlyGivenNames x
       first
       | (refine kept_cut (P := Kept W x) ?_ ?_; (on_goal 1 => subst x); (on_goal 2 => (intro _; try clear_value x)))
       | (try clear_value x))
    | (with_reducible first | apply kept_quiet | apply kept_sidebandIn | apply kept_actPsyncReq | apply keptO_next)
    | (with_reducible first | (intro _; rfl) | apply kept_ite)
    | (intro _ _ _ _; try beta_reduce) | (intro _ _ _; try beta_reduce) | (intro _ _; try beta_reduce)
    | split | (clear_value *; split) | dsimp only

theorem kept_actPsyncRsp {a1 : List Nat} {a2 : Nat} (h : Kept W s) (_ : W.part .pel) (_ : W.fld PEL_DELAY.DELAY)
    (_ : W.fld PEL_OFS.OFS) (_ : W.fld PEL_STAT.OFS_VALID) : Kept W (State.actPsyncRsp a1 a2 s) := by
  unfold State.actPsyncRsp
  repeat' first
    | with_reducible assumption
    | (extract_lets +onlyGivenNames x
       first
       | (refine kept_cut (P := Kept W x) ?_ ?_; (on_goal 1 => subst x); (on_goal 2 => (intro _; try clear_value x)))
       | (try clear_value x))
    | (with_reducible first | apply kept_setPel | apply kept_wr | (intro _; rfl) | apply kept_ite)
    | split | (clear_value *; split) | dsimp only

theorem kept_execPsyncRsp {a1 : List Nat} {a2 : Nat} (h : Kept W s) (_ : W.part .car) (_ : W.part .emit)
    (_ : W.part .pel) (_ : Logs W) (_ : W.fld CAR_ERR.CRC) (_ : W.fld CAR_ERR.STALE) (_ : W.fld CAR_RXMSG.MSGS)
    (_ : W.fld PEL_DELAY.DELAY) (_ : W.fld PEL_OFS.OFS) (_ : W.fld PEL_STAT.OFS_VALID) :
    KeptO W (execPsyncRsp a1 a2 s) := by
  unfold execPsyncRsp
  repeat' first
    | with_reducible assumption
    | (extract_lets +onlyGivenNames x
       first
       | (refine kept_cut (P := Kept W x) ?_ ?_; (on_goal 1 => subst x); (on_goal 2 => (intro _; try clear_value x)))
       | (try clear_value x))
    | (with_reducible first | apply kept_quiet | apply kept_sidebandIn | apply kept_actPsyncRsp | apply keptO_next)
    | (with_reducible first | (intro _; rfl) | apply kept_ite)
    | (intro _ _ _ _; try beta_reduce) | (intro _ _ _; try beta_reduce) | (intro _ _; try beta_reduce)
    | split | (clear_value *; split) | dsimp only

theorem kept_dragBoundary (h : Kept W s) (_ : W.part .pel) (_ : W.fld PEL_CNT.ABSORBED) :
    Kept W (State.dragBoundary s) := by
  unfold State.dragBoundary
  repeat' first
    | with_reducible assumption
    | (extract_lets +onlyGivenNames x
       first
       | (refine kept_cut (P := Kept W x) ?_ ?_; (on_goal 1 => subst x); (on_goal 2 => (intro _; try clear_value x)))
       | (try clear_value x))
    | (with_reducible first | apply kept_setPel | apply kept_inc | (intro _; rfl) | apply kept_ite)
    | split | (clear_value *; split) | dsimp only

theorem kept_periodEnd (h : Kept W s) (_ : W.part .pel) (_ : W.fld PEL_STAT.OFFER) : Kept W (State.periodEnd s) := by
  unfold State.periodEnd
  repeat' first
    | with_reducible assumption
    | (extract_lets +onlyGivenNames x
       first
       | (refine kept_cut (P := Kept W x) ?_ ?_; (on_goal 1 => subst x); (on_goal 2 => (intro _; try clear_value x)))
       | (try clear_value x))
    | (with_reducible first | apply kept_setPel | apply kept_wr | (intro _; rfl) | apply kept_ite)
    | split | (clear_value *; split) | dsimp only

theorem kept_ageOffers (h : Kept W s) (_ : W.part .pel) : Kept W (State.ageOffers s) := by
  unfold State.ageOffers
  repeat' first
    | with_reducible assumption
    | (extract_lets +onlyGivenNames x
       first
       | (refine kept_cut (P := Kept W x) ?_ ?_; (on_goal 1 => subst x); (on_goal 2 => (intro _; try clear_value x)))
       | (try clear_value x))
    | (with_reducible first | apply kept_setPel | (intro _; rfl) | apply kept_ite)
    | (intro _ _ _ _; try beta_reduce) | (intro _ _ _; try beta_reduce) | (intro _ _; try beta_reduce)
    | split | (clear_value *; split) | dsimp only

theorem kept_pelotonBoundary (h : Kept W s) (_ : W.part .car) (_ : W.part .emit) (_ : W.part .pel) (_ : Logs W)
    (_ : W.fld (Evt.st .PEL_DRAG_CLR)) (_ : W.fld (Evt.st .PEL_ROOT_CHANGE)) (_ : W.fld PEL_CNT.ABSORBED)
    (_ : W.fld PEL_LIVE.LIVE) (_ : W.fld PEL_NEXT.TICK) (_ : W.fld PEL_ROOT.LIVE_CAR) (_ : W.fld PEL_ROOT.RETURN_LEFT)
    (_ : W.fld PEL_ROOT.RISES) (_ : W.fld PEL_STAT.CANT_FOLLOW) (_ : W.fld PEL_STAT.DRAG) (_ : W.fld PEL_STAT.MODE)
    (_ : W.fld PEL_STAT.OFFER) (_ : W.fld PEL_STAT.OFS_VALID) (_ : W.fld PEL_STAT.ORPHAN) (_ : W.fld PEL_STAT.ROOT)
    (_ : W.fld PEL_STAT.ROOT_CARRIER) : Kept W (State.pelotonBoundary s) := by
  unfold State.pelotonBoundary
  repeat' first
    | with_reducible assumption
    | (extract_lets +onlyGivenNames x
       first
       | (refine kept_cut (P := Kept W x) ?_ ?_; (on_goal 1 => subst x); (on_goal 2 => (intro _; try clear_value x)))
       | (try clear_value x))
    | (with_reducible first | apply kept_setPel | apply kept_wr | apply kept_dragBoundary | apply kept_periodEnd)
    | (with_reducible first | apply kept_findRoot | apply kept_ageOffers | apply kept_showNext | apply kept_sendDrag)
    | (with_reducible first | apply kept_raise | (intro _; rfl) | apply kept_ite)
    | (intro _ _ _ _; try beta_reduce) | (intro _ _ _; try beta_reduce) | (intro _ _; try beta_reduce)
    | split | (clear_value *; split) | dsimp only

end Sys2Proof.Machine
end

