-- ==== Sys2Proof/Laws/KeptOutbound.lean ====
section
/-! SUPPORT. What the operations of `Outbound.lean` keep (see `Kept.lean`). -/

set_option linter.unusedVariables false
set_option linter.unusedTactic false
set_option linter.unreachableTactic false
set_option linter.tactic.unusedName false

namespace Sys2Proof.Machine

variable {W : Bounds} {s : State}

theorem kept_setOmb {a2 : Nat} {a3 : Omb → Omb} (h : Kept W s) (_ : W.part .bus) (_ : W.fld OMB_STAT.QUEUED) :
    Kept W (State.setOmb s a2 a3) := by
  unfold State.setOmb
  repeat' first
    | with_reducible assumption
    | (extract_lets +onlyGivenNames x
       first
       | (refine kept_cut (P := Kept W x) ?_ ?_; (on_goal 1 => subst x); (on_goal 2 => (intro _; try clear_value x)))
       | (try clear_value x))
    | (with_reducible first | apply kept_setBus | apply kept_wr | (intro _; rfl) | apply kept_ite)
    | split | (clear_value *; split) | dsimp only

theorem kept_post {a2 : Nat} {a3 : Nat} {a4 : List Nat} (h : Kept W s) (_ : W.part .bus) (_ : W.fld OMB_STAT.DROP)
    (_ : W.fld OMB_STAT.QUEUED) : Kept W (State.post s a2 a3 a4) := by
  unfold State.post
  repeat' first
    | with_reducible assumption
    | (extract_lets +onlyGivenNames x
       first
       | (refine kept_cut (P := Kept W x) ?_ ?_; (on_goal 1 => subst x); (on_goal 2 => (intro _; try clear_value x)))
       | (try clear_value x))
    | (with_reducible first | apply kept_inc | apply kept_setOmb | (intro _; rfl) | apply kept_ite)
    | split | (clear_value *; split) | dsimp only

theorem kept_setRetired {a2 : Retired → Retired} (h : Kept W s) (_ : W.part .mg) :
    Kept W (State.setRetired s a2) := by
  unfold State.setRetired
  repeat' first
    | with_reducible assumption
    | (extract_lets +onlyGivenNames x
       first
       | (refine kept_cut (P := Kept W x) ?_ ?_; (on_goal 1 => subst x); (on_goal 2 => (intro _; try clear_value x)))
       | (try clear_value x))
    | (with_reducible first | apply kept_setMg | (intro _; rfl) | apply kept_ite)
    | split | (clear_value *; split) | dsimp only

theorem kept_showAwait (h : Kept W s) (_ : W.fld MG_STAT.FENCE_WAIT) (_ : W.fld OMB_STAT.AWAIT) :
    Kept W (State.showAwait s) := by
  unfold State.showAwait
  repeat' first
    | with_reducible assumption
    | (extract_lets +onlyGivenNames x
       first
       | (refine kept_cut (P := Kept W x) ?_ ?_; (on_goal 1 => subst x); (on_goal 2 => (intro _; try clear_value x)))
       | (try clear_value x))
    | (with_reducible first | apply kept_wrB | (intro _; rfl) | apply kept_ite)
    | split | (clear_value *; split) | dsimp only

theorem kept_fence {a2 : Retired → Bool} (h : Kept W s) (_ : W.part .mg) (_ : W.fld CORE_FENCE.FENCE)
    (_ : W.fld MG_STAT.FENCE_WAIT) (_ : W.fld OMB_STAT.AWAIT) : Kept W (State.fence s a2) := by
  unfold State.fence
  repeat' first
    | with_reducible assumption
    | (extract_lets +onlyGivenNames x
       first
       | (refine kept_cut (P := Kept W x) ?_ ?_; (on_goal 1 => subst x); (on_goal 2 => (intro _; try clear_value x)))
       | (try clear_value x))
    | (with_reducible first | apply kept_wrBit | apply kept_showAwait | apply kept_setRetired | apply kept_foldl)
    | (with_reducible first | (intro _; rfl) | apply kept_ite)
    | (intro _ _ _ _; try beta_reduce) | (intro _ _ _; try beta_reduce) | (intro _ _; try beta_reduce)
    | split | (clear_value *; split) | dsimp only

theorem kept_failDomainOff {a2 : Nat} {a3 : OmbMsg} (h : Kept W s) (_ : W.part .bus) (_ : W.part .mg) (_ : Logs W)
    (_ : W.fld CORE_FENCE.FENCE) (_ : W.fld MG_STAT.FENCE_WAIT) (_ : W.fld OMB_STAT.AWAIT) (_ : W.fld OMB_STAT.DOMOFF)
    (_ : W.fld OMB_STAT.QUEUED) : Kept W (State.failDomainOff s a2 a3) := by
  unfold State.failDomainOff
  repeat' first
    | with_reducible assumption
    | (extract_lets +onlyGivenNames x
       first
       | (refine kept_cut (P := Kept W x) ?_ ?_; (on_goal 1 => subst x); (on_goal 2 => (intro _; try clear_value x)))
       | (try clear_value x))
    | (with_reducible first | apply kept_setOmb | apply kept_inc | apply kept_fwRec | apply kept_doorbell)
    | (with_reducible first | apply kept_setRetired | apply kept_fence | (intro _; rfl) | apply kept_ite)
    | (intro _ _ _ _; try beta_reduce) | (intro _ _ _; try beta_reduce) | (intro _ _; try beta_reduce)
    | split | (clear_value *; split) | dsimp only

theorem kept_readCtl {a2 : Nat} (h : Kept W s) (_ : W.part .emit) (_ : W.part .free) :
    Kept W (State.readCtl s a2) := by
  unfold State.readCtl
  repeat' first
    | with_reducible assumption
    | (extract_lets +onlyGivenNames x
       first
       | (refine kept_cut (P := Kept W x) ?_ ?_; (on_goal 1 => subst x); (on_goal 2 => (intro _; try clear_value x)))
       | (refine kept_cut (P := Kept2 W x) ?_ ?_; (on_goal 1 => subst x); (on_goal 2 => (intro _; try clear_value x)))
       | (try clear_value x))
    | (with_reducible first | apply kept_takeFree | apply kept_drive | apply kept2_mk)
    | (with_reducible first | (apply kept2_snd; assumption) | (apply kept2_snd; apply kept_takeFree))
    | (with_reducible first | refine kept_of2 (by assumption) ?_ | (intro _; rfl) | apply kept_ite)
    | split | (clear_value *; split) | dsimp only

theorem kept_writeMsg {a2 : Nat} {a3 : OmbMsg} (h : Kept W s) (_ : W.part .emit) (_ : W.part .free) :
    Kept W (State.writeMsg s a2 a3) := by
  unfold State.writeMsg
  repeat' first
    | with_reducible assumption
    | (extract_lets +onlyGivenNames x
       first
       | (refine kept_cut (P := Kept W x) ?_ ?_; (on_goal 1 => subst x); (on_goal 2 => (intro _; try clear_value x)))
       | (refine kept_cut (P := Kept2 W x) ?_ ?_; (on_goal 1 => subst x); (on_goal 2 => (intro _; try clear_value x)))
       | (try clear_value x))
    | (with_reducible first | apply kept_takeFree | apply kept_drive | apply kept2_mk)
    | (with_reducible first | (apply kept2_snd; assumption) | (apply kept2_snd; apply kept_takeFree))
    | (with_reducible first | refine kept_of2 (by assumption) ?_ | (intro _; rfl) | apply kept_ite)
    | split | (clear_value *; split) | dsimp only

theorem kept_posted {a2 : Nat} {a3 : OmbMsg} (h : Kept W s) (_ : W.part .bus) (_ : W.part .emit) (_ : W.part .mg)
    (_ : W.fld MG_STAT.FENCE_WAIT) (_ : W.fld OMB_STAT.AWAIT) (_ : W.fld OMB_STAT.QUEUED) :
    Kept W (State.posted s a2 a3) := by
  unfold State.posted
  repeat' first
    | with_reducible assumption
    | (extract_lets +onlyGivenNames x
       first
       | (refine kept_cut (P := Kept W x) ?_ ?_; (on_goal 1 => subst x); (on_goal 2 => (intro _; try clear_value x)))
       | (try clear_value x))
    | (with_reducible first | apply kept_drive | apply kept_setOmb | apply kept_setRetired | apply kept_showAwait)
    | (with_reducible first | (intro _; rfl) | apply kept_ite)
    | (intro _ _ _ _; try beta_reduce) | (intro _ _ _; try beta_reduce) | (intro _ _; try beta_reduce)
    | split | (clear_value *; split) | dsimp only

theorem kept_execOmbPost {a1 : Nat} {a2 : Option Nat} {a3 : Bool} (h : Kept W s) (_ : W.part .bus) (_ : W.part .emit)
    (_ : W.part .free) (_ : W.part .mg) (_ : Logs W) (_ : W.fld CORE_FENCE.FENCE) (_ : W.fld MG_STAT.FENCE_WAIT)
    (_ : W.fld OMB_STAT.AWAIT) (_ : W.fld OMB_STAT.DOMOFF) (_ : W.fld OMB_STAT.QUEUED) :
    KeptO W (execOmbPost a1 a2 a3 s) := by
  unfold execOmbPost
  repeat' first
    | with_reducible assumption
    | (extract_lets +onlyGivenNames x
       first
       | (refine kept_cut (P := Kept W x) ?_ ?_; (on_goal 1 => subst x); (on_goal 2 => (intro _; try clear_value x)))
       | (try clear_value x))
    | (with_reducible first | apply kept_quiet | apply kept_setOmb | apply kept_failDomainOff | apply kept_readCtl)
    | (with_reducible first | apply kept_writeMsg | apply kept_posted | apply keptO_next | (intro _; rfl))
    | (with_reducible first | apply kept_ite)
    | (intro _ _ _ _; try beta_reduce) | (intro _ _ _; try beta_reduce) | (intro _ _; try beta_reduce)
    | split | (clear_value *; split) | dsimp only

theorem kept_execFencePoll {a1 : Nat} {a2 : Option Nat} (h : Kept W s) (_ : W.part .bus) (_ : W.part .emit)
    (_ : W.part .free) (_ : W.part .mg) (_ : Logs W) (_ : W.fld CORE_FENCE.FENCE) (_ : W.fld MG_STAT.FENCE_WAIT)
    (_ : W.fld OMB_STAT.AWAIT) (_ : W.fld OMB_STAT.DOMOFF) (_ : W.fld OMB_STAT.QUEUED) :
    KeptO W (execFencePoll a1 a2 s) := by
  unfold execFencePoll
  repeat' first
    | with_reducible assumption
    | (extract_lets +onlyGivenNames x
       first
       | (refine kept_cut (P := Kept W x) ?_ ?_; (on_goal 1 => subst x); (on_goal 2 => (intro _; try clear_value x)))
       | (try clear_value x))
    | (with_reducible first | apply kept_quiet | apply kept_setOmb | apply kept_readCtl | apply kept_inc)
    | (with_reducible first | apply kept_fwRec | apply kept_doorbell | apply kept_fence | apply keptO_next)
    | (with_reducible first | (intro _; rfl) | apply kept_ite)
    | (intro _ _ _ _; try beta_reduce) | (intro _ _ _; try beta_reduce) | (intro _ _; try beta_reduce)
    | split | (clear_value *; split) | dsimp only

theorem kept_execFenceWaitExpiry (h : Kept W s) (_ : W.part .bus) (_ : W.part .emit) (_ : W.part .mg)
    (_ : W.fld CORE_FENCE.FENCE) (_ : W.fld MG_STAT.FENCE_WAIT) (_ : W.fld OMB_STAT.AWAIT) (_ : W.fld OMB_STAT.QUEUED)
    : KeptO W (execFenceWaitExpiry s) := by
  unfold execFenceWaitExpiry
  repeat' first
    | with_reducible assumption
    | (extract_lets +onlyGivenNames x
       first
       | (refine kept_cut (P := Kept W x) ?_ ?_; (on_goal 1 => subst x); (on_goal 2 => (intro _; try clear_value x)))
       | (try clear_value x))
    | (with_reducible first | apply kept_quiet | apply kept_fence | apply kept_posted | apply keptO_next)
    | (with_reducible first | (intro _; rfl) | apply kept_ite)
    | (intro _ _ _ _; try beta_reduce) | (intro _ _ _; try beta_reduce) | (intro _ _; try beta_reduce)
    | split | (clear_value *; split) | dsimp only

end Sys2Proof.Machine
end

