-- ==== Sys2Proof/Laws/KeptMargins.lean ====
section
/-! SUPPORT. What the operations of `Margins.lean` keep (see `Kept.lean`). -/

set_option linter.unusedVariables false
set_option linter.unusedTactic false
set_option linter.unreachableTactic false
set_option linter.tactic.unusedName false

namespace Sys2Proof.Machine

variable {W : Bounds} {s : State}

theorem kept_writeRecord {a2 : Nat} {a3 : Nat} {a4 : Bool} (h : Kept W s) (_ : W.part .mg) (_ : Logs W)
    (_ : W.fld (Evt.st .MG_OTP_FULL)) (_ : W.fld MG_OTP.FREE) (_ : W.fld MG_OTP.USED) (_ : W.fld MG_STAT.OTP_FULL) :
    Kept W (State.writeRecord s a2 a3 a4) := by
  unfold State.writeRecord
  repeat' first
    | with_reducible assumption
    | (extract_lets +onlyGivenNames x
       first
       | (refine kept_cut (P := Kept W x) ?_ ?_; (on_goal 1 => subst x); (on_goal 2 => (intro _; try clear_value x)))
       | (try clear_value x))
    | (with_reducible first | apply kept_raise | apply kept_wr | apply kept_setMg | (intro _; rfl) | apply kept_ite)
    | split | (clear_value *; split) | dsimp only

theorem kept_recordDue {a2 : Nat} {a3 : Nat} {a4 : optParam Bool false} (h : Kept W s) (_ : W.part .mg) (_ : Logs W)
    (_ : W.fld (Evt.st .MG_OTP_FULL)) (_ : W.fld MG_OTP.FREE) (_ : W.fld MG_OTP.USED) (_ : W.fld MG_STAT.OTP_FULL)
    (_ : W.fld TH_STAT.OTP_PEND) (_ : W.fld TH_WR_CNT.DEFERRED) (_ : W.fld TH_WR_CNT.SUPERSEDED) :
    Kept2 W (State.recordDue s a2 a3 a4) := by
  unfold State.recordDue
  repeat' first
    | with_reducible assumption
    | (extract_lets +onlyGivenNames x
       first
       | (refine kept_cut (P := Kept W x) ?_ ?_; (on_goal 1 => subst x); (on_goal 2 => (intro _; try clear_value x)))
       | (try clear_value x))
    | (with_reducible first | apply kept_writeRecord | apply kept_setMg | apply kept_wr | apply kept_inc)
    | (with_reducible first | apply kept2_mk | (intro _; rfl) | apply kept_ite)
    | split | (clear_value *; split) | dsimp only

theorem kept_record {a2 : Nat} {a3 : Nat} {a4 : optParam Bool false} (h : Kept W s) (_ : W.part .mg) (_ : Logs W)
    (_ : W.fld (Evt.st .MG_OTP_FULL)) (_ : W.fld MG_OTP.FREE) (_ : W.fld MG_OTP.USED) (_ : W.fld MG_STAT.OTP_FULL)
    (_ : W.fld TH_STAT.OTP_PEND) (_ : W.fld TH_WR_CNT.DEFERRED) (_ : W.fld TH_WR_CNT.SUPERSEDED) :
    Kept W (State.record s a2 a3 a4) := by
  unfold State.record
  repeat' first
    | with_reducible assumption
    | (extract_lets +onlyGivenNames x
       first
       | (refine kept_cut (P := Kept W x) ?_ ?_; (on_goal 1 => subst x); (on_goal 2 => (intro _; try clear_value x)))
       | (refine kept_cut (P := Kept2 W x) ?_ ?_; (on_goal 1 => subst x); (on_goal 2 => (intro _; try clear_value x)))
       | (try clear_value x))
    | (with_reducible first | apply kept_recordDue | (apply kept2_snd; assumption))
    | (with_reducible first | (apply kept2_snd; apply kept_recordDue) | refine kept_of2 (by assumption) ?_)
    | (with_reducible first | (intro _; rfl) | apply kept_ite)
    | split | (clear_value *; split) | dsimp only

theorem kept_execOtpDeferredWrite (h : Kept W s) (_ : W.part .emit) (_ : W.part .mg) (_ : Logs W)
    (_ : W.fld (Evt.st .MG_OTP_FULL)) (_ : W.fld MG_OTP.FREE) (_ : W.fld MG_OTP.USED) (_ : W.fld MG_STAT.OTP_FULL)
    (_ : W.fld TH_STAT.OTP_PEND) : KeptO W (execOtpDeferredWrite s) := by
  unfold execOtpDeferredWrite
  repeat' first
    | with_reducible assumption
    | (extract_lets +onlyGivenNames x
       first
       | (refine kept_cut (P := Kept W x) ?_ ?_; (on_goal 1 => subst x); (on_goal 2 => (intro _; try clear_value x)))
       | (try clear_value x))
    | (with_reducible first | apply kept_quiet | apply kept_writeRecord | apply kept_setMg | apply kept_wrB)
    | (with_reducible first | apply keptO_next | (intro _; rfl) | apply kept_ite)
    | (intro _ _ _ _; try beta_reduce) | (intro _ _ _; try beta_reduce) | (intro _ _; try beta_reduce)
    | split | (clear_value *; split) | dsimp only

theorem kept_fallOffset {a2 : Nat} (h : Kept W s) (_ : W.fld MG_CL.APPL) : Kept W (State.fallOffset s a2) := by
  unfold State.fallOffset
  repeat' first
    | with_reducible assumption
    | (extract_lets +onlyGivenNames x
       first
       | (refine kept_cut (P := Kept W x) ?_ ?_; (on_goal 1 => subst x); (on_goal 2 => (intro _; try clear_value x)))
       | (try clear_value x))
    | (with_reducible first | apply kept_wr | (intro _; rfl) | apply kept_ite)
    | split | (clear_value *; split) | dsimp only

theorem kept_markChanged {a2 : Nat} (h : Kept W s) (_ : W.part .mg) : Kept W (State.markChanged s a2) := by
  unfold State.markChanged
  repeat' first
    | with_reducible assumption
    | (extract_lets +onlyGivenNames x
       first
       | (refine kept_cut (P := Kept W x) ?_ ?_; (on_goal 1 => subst x); (on_goal 2 => (intro _; try clear_value x)))
       | (try clear_value x))
    | (with_reducible first | apply kept_setMgCl | (intro _; rfl) | apply kept_ite)
    | split | (clear_value *; split) | dsimp only

theorem kept_showStates (h : Kept W s) (_ : W.fld MG_STAT.RETIRED) (_ : W.fld MG_STAT.WORN) :
    Kept W (State.showStates s) := by
  unfold State.showStates
  repeat' first
    | with_reducible assumption
    | (extract_lets +onlyGivenNames x
       first
       | (refine kept_cut (P := Kept W x) ?_ ?_; (on_goal 1 => subst x); (on_goal 2 => (intro _; try clear_value x)))
       | (try clear_value x))
    | (with_reducible first | apply kept_wr | (intro _; rfl) | apply kept_ite)
    | split | (clear_value *; split) | dsimp only

theorem kept_wear {a2 : Nat} (h : Kept W s) (_ : W.part .mg) (_ : Logs W) (_ : W.fld (Evt.st .MG_WORN))
    (_ : W.fld MG_CL.STATE) (_ : W.fld MG_STAT.RETIRED) (_ : W.fld MG_STAT.WORN) : Kept W (State.wear s a2) := by
  unfold State.wear
  repeat' first
    | with_reducible assumption
    | (extract_lets +onlyGivenNames x
       first
       | (refine kept_cut (P := Kept W x) ?_ ?_; (on_goal 1 => subst x); (on_goal 2 => (intro _; try clear_value x)))
       | (try clear_value x))
    | (with_reducible first | apply kept_raiseLog | apply kept_showStates | apply kept_markChanged | apply kept_wr)
    | (with_reducible first | (intro _; rfl) | apply kept_ite)
    | split | (clear_value *; split) | dsimp only

theorem kept_retireCluster {a2 : Nat} (h : Kept W s) (_ : W.part .cmd) (_ : W.part .mg) (_ : W.part .rim) (_ : Logs W)
    (_ : W.fld (Evt.st .MG_CL_RETIRED)) (_ : W.fld (Evt.st .MG_OTP_FULL)) (_ : W.fld MG_CL.STATE)
    (_ : W.fld MG_OTP.FREE) (_ : W.fld MG_OTP.USED) (_ : W.fld MG_STAT.OTP_FULL) (_ : W.fld MG_STAT.RETIRED)
    (_ : W.fld MG_STAT.WORN) (_ : W.fld REST_MASK.WAKE) (_ : W.fld SWD_STAT.PEND) (_ : W.fld SWD_STAT.WAIT_SLOT)
    (_ : W.fld TH_STAT.OTP_PEND) (_ : W.fld TH_WR_CNT.DEFERRED) (_ : W.fld TH_WR_CNT.SUPERSEDED) :
    Kept W (State.retireCluster s a2) := by
  unfold State.retireCluster
  repeat' first
    | with_reducible assumption
    | (extract_lets +onlyGivenNames x
       first
       | (refine kept_cut (P := Kept W x) ?_ ?_; (on_goal 1 => subst x); (on_goal 2 => (intro _; try clear_value x)))
       | (try clear_value x))
    | (with_reducible first | apply kept_wr | apply kept_markChanged | apply kept_showStates | apply kept_requestOff)
    | (with_reducible first | apply kept_wrBit | apply kept_raise | apply kept_record | (intro _; rfl))
    | (with_reducible first | apply kept_ite)
    | split | (clear_value *; split) | dsimp only

theorem kept_setSuspect {a2 : Nat} {a3 : Option Sus} (h : Kept W s) (_ : W.part .mg) :
    Kept W (State.setSuspect s a2 a3) := by
  unfold State.setSuspect
  repeat' first
    | with_reducible assumption
    | (extract_lets +onlyGivenNames x
       first
       | (refine kept_cut (P := Kept W x) ?_ ?_; (on_goal 1 => subst x); (on_goal 2 => (intro _; try clear_value x)))
       | (try clear_value x))
    | (with_reducible first | apply kept_setMg | (intro _; rfl) | apply kept_ite)
    | split | (clear_value *; split) | dsimp only

theorem kept_freeEntry {a2 : Nat} (h : Kept W s) (_ : W.part .mg) (_ : W.fld MG_STAT.SUS_OVF) :
    Kept W (State.freeEntry s a2) := by
  unfold State.freeEntry
  repeat' first
    | with_reducible assumption
    | (extract_lets +onlyGivenNames x
       first
       | (refine kept_cut (P := Kept W x) ?_ ?_; (on_goal 1 => subst x); (on_goal 2 => (intro _; try clear_value x)))
       | (try clear_value x))
    | (with_reducible first | apply kept_wr | apply kept_setSuspect | (intro _; rfl) | apply kept_ite)
    | split | (clear_value *; split) | dsimp only

theorem kept_retireCore {a2 : Nat} {a3 : Nat} (h : Kept W s) (_ : W.part .bus) (_ : W.part .mg) (_ : Logs W)
    (_ : W.fld (Evt.st .MG_CORE_RETIRED)) (_ : W.fld (Evt.st .MG_OTP_FULL)) (_ : W.fld MG_OTP.FREE)
    (_ : W.fld MG_OTP.USED) (_ : W.fld MG_STAT.OTP_FULL) (_ : W.fld MG_STAT.SUS_OVF) (_ : W.fld OMB_STAT.DROP)
    (_ : W.fld OMB_STAT.QUEUED) (_ : W.fld TH_STAT.OTP_PEND) (_ : W.fld TH_WR_CNT.DEFERRED)
    (_ : W.fld TH_WR_CNT.SUPERSEDED) : Kept W (State.retireCore s a2 a3) := by
  unfold State.retireCore
  repeat' first
    | with_reducible assumption
    | (extract_lets +onlyGivenNames x
       first
       | (refine kept_cut (P := Kept W x) ?_ ?_; (on_goal 1 => subst x); (on_goal 2 => (intro _; try clear_value x)))
       | (try clear_value x))
    | (with_reducible first | apply kept_raise | apply kept_freeEntry | apply kept_setMg | apply kept_post)
    | (with_reducible first | apply kept_record | (intro _; rfl) | apply kept_ite)
    | split | (clear_value *; split) | dsimp only

theorem kept_stepSus {a2 : Nat} (h : Kept W s) (_ : W.part .mg) (_ : Logs W) (_ : W.fld (Evt.st .MG_SUS_STEP))
    (_ : W.fld (Evt.st .MG_WORN)) (_ : W.fld MG_CL.STATE) (_ : W.fld MG_CL.SUS) (_ : W.fld MG_STAT.RETIRED)
    (_ : W.fld MG_STAT.WORN) : Kept W (State.stepSus s a2) := by
  unfold State.stepSus
  repeat' first
    | with_reducible assumption
    | (extract_lets +onlyGivenNames x
       first
       | (refine kept_cut (P := Kept W x) ?_ ?_; (on_goal 1 => subst x); (on_goal 2 => (intro _; try clear_value x)))
       | (try clear_value x))
    | (with_reducible first | apply kept_raise | apply kept_markChanged | apply kept_wr | apply kept_wear)
    | (with_reducible first | (intro _; rfl) | apply kept_ite)
    | split | (clear_value *; split) | dsimp only

theorem kept_awaitPlan {a2 : Nat × Option Nat} (h : Kept W s) (_ : W.part .mg) : Kept W (State.awaitPlan s a2) := by
  unfold State.awaitPlan
  repeat' first
    | with_reducible assumption
    | (extract_lets +onlyGivenNames x
       first
       | (refine kept_cut (P := Kept W x) ?_ ?_; (on_goal 1 => subst x); (on_goal 2 => (intro _; try clear_value x)))
       | (try clear_value x))
    | (with_reducible first | apply kept_setMg | (intro _; rfl) | apply kept_ite)
    | (intro _ _ _ _; try beta_reduce) | (intro _ _ _; try beta_reduce) | (intro _ _; try beta_reduce)
    | split | (clear_value *; split) | dsimp only

theorem kept_violNow {a2 : Nat} (h : Kept W s) (_ : W.part .mg) (_ : Logs W) (_ : W.fld (Evt.st .MG_SUS_STEP))
    (_ : W.fld (Evt.st .MG_WORN)) (_ : W.fld MG_CL.STATE) (_ : W.fld MG_CL.SUS) (_ : W.fld MG_STAT.RETIRED)
    (_ : W.fld MG_STAT.WORN) : Kept W (State.violNow s a2) := by
  unfold State.violNow
  repeat' first
    | with_reducible assumption
    | (extract_lets +onlyGivenNames x
       first
       | (refine kept_cut (P := Kept W x) ?_ ?_; (on_goal 1 => subst x); (on_goal 2 => (intro _; try clear_value x)))
       | (try clear_value x))
    | (with_reducible first | apply kept_stepSus | (intro _; rfl) | apply kept_ite)
    | split | (clear_value *; split) | dsimp only

theorem kept_violTrigger {a2 : Nat} (h : Kept W s) (_ : W.part .mg) (_ : Logs W) (_ : W.fld (Evt.st .MG_SUS_STEP))
    (_ : W.fld (Evt.st .MG_WORN)) (_ : W.fld MG_CL.STATE) (_ : W.fld MG_CL.SUS) (_ : W.fld MG_STAT.RETIRED)
    (_ : W.fld MG_STAT.WORN) : Kept W (State.violTrigger s a2) := by
  unfold State.violTrigger
  repeat' first
    | with_reducible assumption
    | (extract_lets +onlyGivenNames x
       first
       | (refine kept_cut (P := Kept W x) ?_ ?_; (on_goal 1 => subst x); (on_goal 2 => (intro _; try clear_value x)))
       | (try clear_value x))
    | (with_reducible first | apply kept_awaitPlan | apply kept_violNow | (intro _; rfl) | apply kept_ite)
    | split | (clear_value *; split) | dsimp only

theorem kept_transientNow {a2 : Nat} {a3 : Nat} (h : Kept W s) (_ : W.part .bus) (_ : W.part .mg) (_ : Logs W)
    (_ : W.fld (Evt.st .MG_CORE_RETIRED)) (_ : W.fld (Evt.st .MG_CORE_SLOWED)) (_ : W.fld (Evt.st .MG_OTP_FULL))
    (_ : W.fld (Evt.st .MG_SUS_STEP)) (_ : W.fld (Evt.st .MG_WORN)) (_ : W.fld MG_CL.STATE) (_ : W.fld MG_CL.SUS)
    (_ : W.fld MG_OTP.FREE) (_ : W.fld MG_OTP.USED) (_ : W.fld MG_STAT.OTP_FULL) (_ : W.fld MG_STAT.RETIRED)
    (_ : W.fld MG_STAT.SUS_OVF) (_ : W.fld MG_STAT.WORN) (_ : W.fld OMB_STAT.DROP) (_ : W.fld OMB_STAT.QUEUED)
    (_ : W.fld TH_STAT.OTP_PEND) (_ : W.fld TH_WR_CNT.DEFERRED) (_ : W.fld TH_WR_CNT.SUPERSEDED) :
    Kept W (State.transientNow s a2 a3) := by
  unfold State.transientNow
  repeat' first
    | with_reducible assumption
    | (extract_lets +onlyGivenNames x
       first
       | (refine kept_cut (P := Kept W x) ?_ ?_; (on_goal 1 => subst x); (on_goal 2 => (intro _; try clear_value x)))
       | (try clear_value x))
    | (with_reducible first | apply kept_setSuspect | apply kept_wr | apply kept_retireCore | apply kept_stepSus)
    | (with_reducible first | apply kept_setMg | apply kept_record | apply kept_raise | (intro _; rfl))
    | (with_reducible first | apply kept_ite)
    | (intro _ _ _ _; try beta_reduce) | (intro _ _ _; try beta_reduce) | (intro _ _; try beta_reduce)
    | split | (clear_value *; split) | dsimp only

theorem kept_transient {a2 : Nat} {a3 : Nat} (h : Kept W s) (_ : W.part .bus) (_ : W.part .mg) (_ : Logs W)
    (_ : W.fld (Evt.st .MG_CORE_RETIRED)) (_ : W.fld (Evt.st .MG_CORE_SLOWED)) (_ : W.fld (Evt.st .MG_OTP_FULL))
    (_ : W.fld (Evt.st .MG_SUS_STEP)) (_ : W.fld (Evt.st .MG_WORN)) (_ : W.fld MG_CL.STATE) (_ : W.fld MG_CL.SUS)
    (_ : W.fld MG_OTP.FREE) (_ : W.fld MG_OTP.USED) (_ : W.fld MG_STAT.OTP_FULL) (_ : W.fld MG_STAT.RETIRED)
    (_ : W.fld MG_STAT.SUS_OVF) (_ : W.fld MG_STAT.WORN) (_ : W.fld OMB_STAT.DROP) (_ : W.fld OMB_STAT.QUEUED)
    (_ : W.fld TH_STAT.OTP_PEND) (_ : W.fld TH_WR_CNT.DEFERRED) (_ : W.fld TH_WR_CNT.SUPERSEDED) :
    Kept W (State.transient s a2 a3) := by
  unfold State.transient
  repeat' first
    | with_reducible assumption
    | (extract_lets +onlyGivenNames x
       first
       | (refine kept_cut (P := Kept W x) ?_ ?_; (on_goal 1 => subst x); (on_goal 2 => (intro _; try clear_value x)))
       | (try clear_value x))
    | (with_reducible first | apply kept_awaitPlan | apply kept_transientNow | (intro _; rfl) | apply kept_ite)
    | split | (clear_value *; split) | dsimp only

theorem kept_applyWaiting (h : Kept W s) (_ : W.part .bus) (_ : W.part .mg) (_ : Logs W)
    (_ : W.fld (Evt.st .MG_CORE_RETIRED)) (_ : W.fld (Evt.st .MG_CORE_SLOWED)) (_ : W.fld (Evt.st .MG_OTP_FULL))
    (_ : W.fld (Evt.st .MG_SUS_STEP)) (_ : W.fld (Evt.st .MG_WORN)) (_ : W.fld MG_CL.STATE) (_ : W.fld MG_CL.SUS)
    (_ : W.fld MG_OTP.FREE) (_ : W.fld MG_OTP.USED) (_ : W.fld MG_STAT.OTP_FULL) (_ : W.fld MG_STAT.RETIRED)
    (_ : W.fld MG_STAT.SUS_OVF) (_ : W.fld MG_STAT.WORN) (_ : W.fld OMB_STAT.DROP) (_ : W.fld OMB_STAT.QUEUED)
    (_ : W.fld TH_STAT.OTP_PEND) (_ : W.fld TH_WR_CNT.DEFERRED) (_ : W.fld TH_WR_CNT.SUPERSEDED) :
    Kept W (State.applyWaiting s) := by
  unfold State.applyWaiting
  repeat' first
    | with_reducible assumption
    | (extract_lets +onlyGivenNames x
       first
       | (refine kept_cut (P := Kept W x) ?_ ?_; (on_goal 1 => subst x); (on_goal 2 => (intro _; try clear_value x)))
       | (try clear_value x))
    | (with_reducible first | apply kept_transientNow | apply kept_violNow | apply kept_setMg | apply kept_foldl)
    | (with_reducible first | (intro _; rfl) | apply kept_ite)
    | (intro _ _ _ _; try beta_reduce) | (intro _ _ _; try beta_reduce) | (intro _ _; try beta_reduce)
    | split | (clear_value *; split) | dsimp only

theorem kept_suspectCommand {a2 : Nat} {a3 : Nat} (h : Kept W s) (_ : W.part .bus) (_ : W.part .free) (_ : W.part .mg)
    (_ : Logs W) (_ : W.fld (Evt.st .MG_CORE_RETIRED)) (_ : W.fld (Evt.st .MG_CORE_SLOWED))
    (_ : W.fld (Evt.st .MG_OTP_FULL)) (_ : W.fld (Evt.st .MG_SUS_STEP)) (_ : W.fld (Evt.st .MG_WORN))
    (_ : W.fld MG_CL.STATE) (_ : W.fld MG_CL.SUS) (_ : W.fld MG_CNT.PERM) (_ : W.fld MG_CNT.TRANS)
    (_ : W.fld MG_OTP.FREE) (_ : W.fld MG_OTP.USED) (_ : W.fld MG_STAT.OTP_FULL) (_ : W.fld MG_STAT.RETIRED)
    (_ : W.fld MG_STAT.SUS_OVF) (_ : W.fld MG_STAT.WORN) (_ : W.fld OMB_STAT.DROP) (_ : W.fld OMB_STAT.QUEUED)
    (_ : W.fld TH_STAT.OTP_PEND) (_ : W.fld TH_WR_CNT.DEFERRED) (_ : W.fld TH_WR_CNT.SUPERSEDED) :
    Kept2 W (State.suspectCommand s a2 a3) := by
  unfold State.suspectCommand
  repeat' first
    | with_reducible assumption
    | (extract_lets +onlyGivenNames x
       first
       | (refine kept_cut (P := Kept W x) ?_ ?_; (on_goal 1 => subst x); (on_goal 2 => (intro _; try clear_value x)))
       | (refine kept_cut (P := Kept2 W x) ?_ ?_; (on_goal 1 => subst x); (on_goal 2 => (intro _; try clear_value x)))
       | (try clear_value x))
    | (with_reducible first | apply kept_takeFree | apply kept_fwRec | apply kept_inc | apply kept_setMg)
    | (with_reducible first | apply kept_transient | apply kept_retireCore | apply kept2_mk)
    | (with_reducible first | (apply kept2_snd; assumption) | (apply kept2_snd; apply kept_takeFree))
    | (with_reducible first | refine kept_of2 (by assumption) ?_ | (intro _; rfl) | apply kept_ite)
    | (intro _ _ _ _; try beta_reduce) | (intro _ _ _; try beta_reduce) | (intro _ _; try beta_reduce)
    | split | (clear_value *; split) | dsimp only

theorem kept_suspectClear {a2 : Nat} (h : Kept W s) (_ : W.part .mg) (_ : Logs W) (_ : W.fld (Evt.st .MG_OTP_FULL))
    (_ : W.fld MG_CL.APPL) (_ : W.fld MG_CL.SUS) (_ : W.fld MG_OTP.FREE) (_ : W.fld MG_OTP.USED)
    (_ : W.fld MG_STAT.OTP_FULL) (_ : W.fld MG_STAT.SUS_OVF) (_ : W.fld TH_STAT.OTP_PEND)
    (_ : W.fld TH_WR_CNT.DEFERRED) (_ : W.fld TH_WR_CNT.SUPERSEDED) : Kept2 W (State.suspectClear s a2) := by
  unfold State.suspectClear
  repeat' first
    | with_reducible assumption
    | (extract_lets +onlyGivenNames x
       first
       | (refine kept_cut (P := Kept W x) ?_ ?_; (on_goal 1 => subst x); (on_goal 2 => (intro _; try clear_value x)))
       | (refine kept_cut (P := Kept2 W x) ?_ ?_; (on_goal 1 => subst x); (on_goal 2 => (intro _; try clear_value x)))
       | (try clear_value x))
    | (with_reducible first | apply kept_freeEntry | apply kept_markChanged | apply kept_wr | apply kept_fallOffset)
    | (with_reducible first | apply kept_recordDue | apply kept_foldl | apply kept2_foldl | apply kept2_mk)
    | (with_reducible first | (apply kept2_snd; assumption) | (apply kept2_snd; apply kept_recordDue))
    | (with_reducible first | refine kept_of2 (by assumption) ?_ | (intro _; rfl) | apply kept_ite)
    | (intro _ _ _ _; try beta_reduce) | (intro _ _ _; try beta_reduce) | (intro _ _; try beta_reduce)
    | split | (clear_value *; split) | dsimp only

theorem kept_askOffsets {a2 : Nat} {a3 : Nat} {a4 : List (Nat × Nat)} (h : Kept W s) (_ : W.part .emit)
    (_ : W.part .gl) (_ : W.part .mg) (_ : W.fld GL_STAT.OUTSTANDING) (_ : W.fld GL_STAT.SEQ) (_ : W.fld GL_STAT.VREQ)
    : Kept W (State.askOffsets s a2 a3 a4) := by
  unfold State.askOffsets
  repeat' first
    | with_reducible assumption
    | (extract_lets +onlyGivenNames x
       first
       | (refine kept_cut (P := Kept W x) ?_ ?_; (on_goal 1 => subst x); (on_goal 2 => (intro _; try clear_value x)))
       | (try clear_value x))
    | (with_reducible first | apply kept_askVoltage | apply kept_setMgSect | (intro _; rfl) | apply kept_ite)
    | split | (clear_value *; split) | dsimp only

theorem kept_execApplStep {a1 : Nat} (h : Kept W s) (_ : W.part .emit) (_ : W.part .gl) (_ : W.part .mg)
    (_ : W.fld GL_STAT.OUTSTANDING) (_ : W.fld GL_STAT.SEQ) (_ : W.fld GL_STAT.VREQ) :
    KeptO W (execApplStep a1 s) := by
  unfold execApplStep
  repeat' first
    | with_reducible assumption
    | (extract_lets +onlyGivenNames x
       first
       | (refine kept_cut (P := Kept W x) ?_ ?_; (on_goal 1 => subst x); (on_goal 2 => (intro _; try clear_value x)))
       | (try clear_value x))
    | (with_reducible first | apply kept_quiet | apply kept_askOffsets | apply keptO_next | (intro _; rfl))
    | (with_reducible first | apply kept_ite)
    | split | (clear_value *; split) | dsimp only

theorem kept_wakeOffsets (h : Kept W s) (_ : W.part .emit) (_ : W.part .gl) (_ : W.part .mg)
    (_ : W.fld GL_STAT.OUTSTANDING) (_ : W.fld GL_STAT.SEQ) (_ : W.fld GL_STAT.VREQ) :
    Kept W (State.wakeOffsets s) := by
  unfold State.wakeOffsets
  repeat' first
    | with_reducible assumption
    | (extract_lets +onlyGivenNames x
       first
       | (refine kept_cut (P := Kept W x) ?_ ?_; (on_goal 1 => subst x); (on_goal 2 => (intro _; try clear_value x)))
       | (try clear_value x))
    | (with_reducible first | apply kept_askOffsets | apply kept_upTo | (intro _; rfl) | apply kept_ite)
    | (intro _ _ _ _; try beta_reduce) | (intro _ _ _; try beta_reduce) | (intro _ _; try beta_reduce)
    | split | (clear_value *; split) | dsimp only

theorem kept_execRestWakeStart (h : Kept W s) (_ : W.part .emit) (_ : W.part .gl) (_ : W.part .mg) (_ : W.part .rim)
    (_ : Logs W) (_ : W.fld (Evt.st .CAD_DEFER)) (_ : W.fld CAD_DEFER_CNT.DEFER) (_ : W.fld GL_STAT.OUTSTANDING)
    (_ : W.fld GL_STAT.SEQ) (_ : W.fld GL_STAT.VREQ) (_ : W.fld RIM_STAT.REST_STATE) (_ : W.fld RIM_STAT.REST_TICK)
    (_ : W.fld SWD_STAT.MINOFF) (_ : W.fld SWD_STAT.PEND) (_ : W.fld SWD_STAT.STATE) :
    KeptO W (execRestWakeStart s) := by
  unfold execRestWakeStart
  repeat' first
    | with_reducible assumption
    | (extract_lets +onlyGivenNames x
       first
       | (refine kept_cut (P := Kept W x) ?_ ?_; (on_goal 1 => subst x); (on_goal 2 => (intro _; try clear_value x)))
       | (try clear_value x))
    | (with_reducible first | apply kept_quiet | apply kept_wr | apply kept_endSelfRefresh | apply kept_drive)
    | (with_reducible first | apply kept_setRim | apply kept_wakeOffsets | apply kept_deferWave)
    | (with_reducible first | apply kept_startWave | apply kept_foldl | apply keptO_next | (intro _; rfl))
    | (with_reducible first | apply kept_ite)
    | (intro _ _ _ _; try beta_reduce) | (intro _ _ _; try beta_reduce) | (intro _ _; try beta_reduce)
    | split | (clear_value *; split) | dsimp only

theorem kept_confirmOffsets (h : Kept W s) (_ : W.part .mg) (_ : W.fld MG_CL.APPL) :
    Kept W (State.confirmOffsets s) := by
  unfold State.confirmOffsets
  repeat' first
    | with_reducible assumption
    | (extract_lets +onlyGivenNames x
       first
       | (refine kept_cut (P := Kept W x) ?_ ?_; (on_goal 1 => subst x); (on_goal 2 => (intro _; try clear_value x)))
       | (try clear_value x))
    | (with_reducible first | apply kept_wr | apply kept_setMgSect | apply kept_upTo | apply kept_foldl)
    | (with_reducible first | (intro _; rfl) | apply kept_ite)
    | (intro _ _ _ _; try beta_reduce) | (intro _ _ _; try beta_reduce) | (intro _ _; try beta_reduce)
    | split | (clear_value *; split) | dsimp only

theorem kept_launch {a2 : Nat} (h : Kept W s) (_ : W.part .emit) (_ : W.part .mg) (_ : W.part .spk)
    (_ : W.fld PDM.VALID) : Kept W (State.launch s a2) := by
  unfold State.launch
  repeat' first
    | with_reducible assumption
    | (extract_lets +onlyGivenNames x
       first
       | (refine kept_cut (P := Kept W x) ?_ ?_; (on_goal 1 => subst x); (on_goal 2 => (intro _; try clear_value x)))
       | (try clear_value x))
    | (with_reducible first | apply kept_wr | apply kept_setSent | apply kept_setMgCl | apply kept_drive)
    | (with_reducible first | apply kept_upTo | (intro _; rfl) | apply kept_ite)
    | (intro _ _ _ _; try beta_reduce) | (intro _ _ _; try beta_reduce) | (intro _ _; try beta_reduce)
    | split | (clear_value *; split) | dsimp only

theorem kept_collect (h : Kept W s) (_ : W.part .mg) : Kept W (State.collect s) := by
  unfold State.collect
  repeat' first
    | with_reducible assumption
    | (extract_lets +onlyGivenNames x
       first
       | (refine kept_cut (P := Kept W x) ?_ ?_; (on_goal 1 => subst x); (on_goal 2 => (intro _; try clear_value x)))
       | (try clear_value x))
    | (with_reducible first | apply kept_setMgCl | apply kept_foldl | (intro _; rfl) | apply kept_ite)
    | (intro _ _ _ _; try beta_reduce) | (intro _ _ _; try beta_reduce) | (intro _ _; try beta_reduce)
    | split | (clear_value *; split) | dsimp only

theorem kept_frameResults {a2 : Nat} {a3 : Nat} (h : Kept W s) (_ : W.part .mg) (_ : Logs W)
    (_ : W.fld (Evt.st .MG_SUS_STEP)) (_ : W.fld (Evt.st .MG_VIOL)) (_ : W.fld (Evt.st .MG_WORN))
    (_ : W.fld MG_CL.STATE) (_ : W.fld MG_CL.SUS) (_ : W.fld MG_STAT.RETIRED) (_ : W.fld MG_STAT.WORN) :
    Kept W (State.frameResults s a2 a3) := by
  unfold State.frameResults
  repeat' first
    | with_reducible assumption
    | (extract_lets +onlyGivenNames x
       first
       | (refine kept_cut (P := Kept W x) ?_ ?_; (on_goal 1 => subst x); (on_goal 2 => (intro _; try clear_value x)))
       | (try clear_value x))
    | (with_reducible first | apply kept_raiseLog | apply kept_violTrigger | apply kept_setMgCl | apply kept_foldl)
    | (with_reducible first | (intro _; rfl) | apply kept_ite)
    | (intro _ _ _ _; try beta_reduce) | (intro _ _ _; try beta_reduce) | (intro _ _; try beta_reduce)
    | split | (clear_value *; split) | dsimp only

theorem kept_execSpokeFrame {a1 : Nat} {a2 : FrameIn} (h : Kept W s) (_ : W.part .emit)
    (_ : W.part .mg) (_ : W.part .spk) (_ : Logs W) (_ : W.fld (Evt.st .MG_SUS_STEP)) (_ : W.fld (Evt.st .MG_VIOL))
    (_ : W.fld (Evt.st .MG_WORN)) (_ : W.fld (Evt.st .SPK_FEATHER)) (_ : W.fld (Evt.st .SPK_FEATHER_SKIP))
    (_ : W.fld (Evt.st .SPK_INJ_FAIL)) (_ : W.fld (Evt.st .SPK_TREE_FAULT)) (_ : W.fld MG_CL.STATE)
    (_ : W.fld MG_CL.SUS) (_ : W.fld MG_STAT.RETIRED) (_ : W.fld MG_STAT.WORN) (_ : W.fld PDM.SLACK)
    (_ : W.fld PDM.VALID) (_ : W.fld PDM.VIOL) (_ : W.fld SNT_CNT.FTH_CYC) (_ : W.fld SNT_CNT.INJ_DONE)
    (_ : W.fld SNT_CNT.INJ_FAILED) (_ : W.fld SNT_STAT.FEATHER) (_ : W.fld SNT_STAT.FTH_EVT_TICK)
    (_ : W.fld SNT_STAT.FTH_TICK) (_ : W.fld SNT_STAT.INJ_FAIL) (_ : W.fld SNT_STAT.STEP)
    (_ : W.fld SPK_BUS_ERR.FRAMES) (_ : W.fld SPK_STAT.ALERT_ABC) (_ : W.fld SPK_STAT.FEATHER_ACT) :
    KeptO W (execSpokeFrame a1 a2 s) := by
  unfold execSpokeFrame
  repeat' first
    | with_reducible assumption
    | (extract_lets +onlyGivenNames x
       first
       | (refine kept_cut (P := Kept W x) ?_ ?_; (on_goal 1 => subst x); (on_goal 2 => (intro _; try clear_value x)))
       | (try clear_value x))
    | (with_reducible first | apply kept_quiet | apply kept_goodFrame | apply kept_frameResults)
    | (with_reducible first | apply kept_badFrame | apply keptO_next | (intro _; rfl) | apply kept_ite)
    | split | (clear_value *; split) | dsimp only

theorem kept_replan {a2 : Nat} {a3 : Nat} (h : Kept W s) (_ : W.part .cmd) (_ : W.part .mg) (_ : W.part .rim)
    (_ : Logs W) (_ : W.fld (Evt.st .MG_CL_RETIRED)) (_ : W.fld (Evt.st .MG_OTP_FULL)) (_ : W.fld (Evt.st .MG_REPLAN))
    (_ : W.fld (Evt.st .MG_WORN)) (_ : W.fld MG_CL.AGE) (_ : W.fld MG_CL.REQ) (_ : W.fld MG_CL.STATE)
    (_ : W.fld MG_DLY.PROJ) (_ : W.fld MG_OTP.FREE) (_ : W.fld MG_OTP.USED) (_ : W.fld MG_STAT.OTP_FULL)
    (_ : W.fld MG_STAT.RETIRED) (_ : W.fld MG_STAT.WORN) (_ : W.fld REST_MASK.WAKE) (_ : W.fld SWD_STAT.PEND)
    (_ : W.fld SWD_STAT.WAIT_SLOT) (_ : W.fld TH_STAT.OTP_PEND) (_ : W.fld TH_WR_CNT.DEFERRED)
    (_ : W.fld TH_WR_CNT.SUPERSEDED) : Kept W (State.replan s a2 a3) := by
  unfold State.replan
  repeat' first
    | with_reducible assumption
    | (extract_lets +onlyGivenNames x
       first
       | (refine kept_cut (P := Kept W x) ?_ ?_; (on_goal 1 => subst x); (on_goal 2 => (intro _; try clear_value x)))
       | (try clear_value x))
    | (with_reducible first | apply kept_wr | apply kept_wear | apply kept_markChanged | apply kept_raise)
    | (with_reducible first | apply kept_retireCluster | (intro _; rfl) | apply kept_ite)
    | split | (clear_value *; split) | dsimp only

theorem kept_closeCluster {a2 : Nat} {a3 : Nat} (h : Kept W s) (_ : W.part .cmd) (_ : W.part .mg) (_ : W.part .rim)
    (_ : Logs W) (_ : W.fld (Evt.st .MG_CL_RETIRED)) (_ : W.fld (Evt.st .MG_NO_MEDIAN))
    (_ : W.fld (Evt.st .MG_OTP_FULL)) (_ : W.fld (Evt.st .MG_REPLAN)) (_ : W.fld (Evt.st .MG_WORN))
    (_ : W.fld MG_CL.AGE) (_ : W.fld MG_CL.REQ) (_ : W.fld MG_CL.STATE) (_ : W.fld MG_DLY.BASE)
    (_ : W.fld MG_DLY.MEDIANS) (_ : W.fld MG_DLY.PROJ) (_ : W.fld MG_OTP.FREE) (_ : W.fld MG_OTP.USED)
    (_ : W.fld MG_STAT.OTP_FULL) (_ : W.fld MG_STAT.RETIRED) (_ : W.fld MG_STAT.WORN) (_ : W.fld REST_MASK.WAKE)
    (_ : W.fld SWD_STAT.PEND) (_ : W.fld SWD_STAT.WAIT_SLOT) (_ : W.fld TH_STAT.OTP_PEND)
    (_ : W.fld TH_WR_CNT.DEFERRED) (_ : W.fld TH_WR_CNT.SUPERSEDED) : Kept W (State.closeCluster s a2 a3) := by
  unfold State.closeCluster
  repeat' first
    | with_reducible assumption
    | (extract_lets +onlyGivenNames x
       first
       | (refine kept_cut (P := Kept W x) ?_ ?_; (on_goal 1 => subst x); (on_goal 2 => (intro _; try clear_value x)))
       | (try clear_value x))
    | (with_reducible first | apply kept_setMgCl | apply kept_wr | apply kept_record | apply kept_raise)
    | (with_reducible first | apply kept_replan | (intro _; rfl) | apply kept_ite)
    | (intro _ _ _ _; try beta_reduce) | (intro _ _ _; try beta_reduce) | (intro _ _; try beta_reduce)
    | split | (clear_value *; split) | dsimp only

theorem kept_epochClose (h : Kept W s) (_ : W.part .bus) (_ : W.part .cmd) (_ : W.part .mg) (_ : W.part .rim)
    (_ : Logs W) (_ : W.fld (Evt.st .MG_CL_RETIRED)) (_ : W.fld (Evt.st .MG_CORE_RETIRED))
    (_ : W.fld (Evt.st .MG_CORE_SLOWED)) (_ : W.fld (Evt.st .MG_NO_MEDIAN)) (_ : W.fld (Evt.st .MG_OTP_FULL))
    (_ : W.fld (Evt.st .MG_REPLAN)) (_ : W.fld (Evt.st .MG_SUS_STEP)) (_ : W.fld (Evt.st .MG_WORN))
    (_ : W.fld MG_CL.AGE) (_ : W.fld MG_CL.REQ) (_ : W.fld MG_CL.STATE) (_ : W.fld MG_CL.SUS) (_ : W.fld MG_DLY.BASE)
    (_ : W.fld MG_DLY.MEDIANS) (_ : W.fld MG_DLY.PROJ) (_ : W.fld MG_EPOCH.EPOCH) (_ : W.fld MG_OTP.FREE)
    (_ : W.fld MG_OTP.USED) (_ : W.fld MG_STAT.OTP_FULL) (_ : W.fld MG_STAT.RETIRED) (_ : W.fld MG_STAT.SUS_OVF)
    (_ : W.fld MG_STAT.WORN) (_ : W.fld OMB_STAT.DROP) (_ : W.fld OMB_STAT.QUEUED) (_ : W.fld REST_MASK.WAKE)
    (_ : W.fld SWD_STAT.PEND) (_ : W.fld SWD_STAT.WAIT_SLOT) (_ : W.fld TH_STAT.OTP_PEND)
    (_ : W.fld TH_WR_CNT.DEFERRED) (_ : W.fld TH_WR_CNT.SUPERSEDED) : Kept W (State.epochClose s) := by
  unfold State.epochClose
  repeat' first
    | with_reducible assumption
    | (extract_lets +onlyGivenNames x
       first
       | (refine kept_cut (P := Kept W x) ?_ ?_; (on_goal 1 => subst x); (on_goal 2 => (intro _; try clear_value x)))
       | (try clear_value x))
    | (with_reducible first | apply kept_closeCluster | apply kept_setMg | apply kept_inc | apply kept_applyWaiting)
    | (with_reducible first | apply kept_foldl | (intro _; rfl) | apply kept_ite)
    | (intro _ _ _ _; try beta_reduce) | (intro _ _ _; try beta_reduce) | (intro _ _; try beta_reduce)
    | split | (clear_value *; split) | dsimp only

theorem kept_ageingSlice {a2 : Nat} (h : Kept W s) (_ : W.part .bus) (_ : W.part .cmd) (_ : W.part .emit)
    (_ : W.part .mg) (_ : W.part .rim) (_ : W.part .spk) (_ : Logs W) (_ : W.fld (Evt.st .MG_CL_RETIRED))
    (_ : W.fld (Evt.st .MG_CORE_RETIRED)) (_ : W.fld (Evt.st .MG_CORE_SLOWED)) (_ : W.fld (Evt.st .MG_NO_MEDIAN))
    (_ : W.fld (Evt.st .MG_OTP_FULL)) (_ : W.fld (Evt.st .MG_REPLAN)) (_ : W.fld (Evt.st .MG_SUS_STEP))
    (_ : W.fld (Evt.st .MG_WORN)) (_ : W.fld MG_CL.AGE) (_ : W.fld MG_CL.REQ) (_ : W.fld MG_CL.STATE)
    (_ : W.fld MG_CL.SUS) (_ : W.fld MG_DLY.BASE) (_ : W.fld MG_DLY.MEDIANS) (_ : W.fld MG_DLY.PROJ)
    (_ : W.fld MG_EPOCH.EPOCH) (_ : W.fld MG_OTP.FREE) (_ : W.fld MG_OTP.USED) (_ : W.fld MG_STAT.OTP_FULL)
    (_ : W.fld MG_STAT.RETIRED) (_ : W.fld MG_STAT.SUS_OVF) (_ : W.fld MG_STAT.WORN) (_ : W.fld OMB_STAT.DROP)
    (_ : W.fld OMB_STAT.QUEUED) (_ : W.fld PDM.VALID) (_ : W.fld REST_MASK.WAKE) (_ : W.fld SWD_STAT.PEND)
    (_ : W.fld SWD_STAT.WAIT_SLOT) (_ : W.fld TH_STAT.OTP_PEND) (_ : W.fld TH_WR_CNT.DEFERRED)
    (_ : W.fld TH_WR_CNT.SUPERSEDED) : Kept W (State.ageingSlice s a2) := by
  unfold State.ageingSlice
  repeat' first
    | with_reducible assumption
    | (extract_lets +onlyGivenNames x
       first
       | (refine kept_cut (P := Kept W x) ?_ ?_; (on_goal 1 => subst x); (on_goal 2 => (intro _; try clear_value x)))
       | (try clear_value x))
    | (with_reducible first | apply kept_epochClose | apply kept_setMg | apply kept_collect | apply kept_launch)
    | (with_reducible first | apply kept_foldl | apply kept_upTo | (intro _; rfl) | apply kept_ite)
    | (intro _ _ _ _; try beta_reduce) | (intro _ _ _; try beta_reduce) | (intro _ _; try beta_reduce)
    | split | (clear_value *; split) | dsimp only

theorem kept_gateRetired {a2 : Retired} (h : Kept W s) (_ : W.part .cmd) (_ : W.part .mg) (_ : W.part .rim)
    (_ : Logs W) (_ : W.fld (Evt.st .MG_CL_RETIRED)) (_ : W.fld (Evt.st .MG_OTP_FULL)) (_ : W.fld CORE_GATE.GATE)
    (_ : W.fld MG_CL.RET_CORES) (_ : W.fld MG_CL.STATE) (_ : W.fld MG_OTP.FREE) (_ : W.fld MG_OTP.USED)
    (_ : W.fld MG_STAT.OTP_FULL) (_ : W.fld MG_STAT.RETIRED) (_ : W.fld MG_STAT.WORN) (_ : W.fld REST_MASK.WAKE)
    (_ : W.fld SWD_STAT.PEND) (_ : W.fld SWD_STAT.WAIT_SLOT) (_ : W.fld TH_STAT.OTP_PEND)
    (_ : W.fld TH_WR_CNT.DEFERRED) (_ : W.fld TH_WR_CNT.SUPERSEDED) : Kept W (State.gateRetired s a2) := by
  unfold State.gateRetired
  repeat' first
    | with_reducible assumption
    | (extract_lets +onlyGivenNames x
       first
       | (refine kept_cut (P := Kept W x) ?_ ?_; (on_goal 1 => subst x); (on_goal 2 => (intro _; try clear_value x)))
       | (try clear_value x))
    | (with_reducible first | apply kept_wrBit | apply kept_wr | apply kept_retireCluster | (intro _; rfl))
    | (with_reducible first | apply kept_ite)
    | split | (clear_value *; split) | dsimp only

theorem kept_closeGates (h : Kept W s) (_ : W.part .cmd) (_ : W.part .mg) (_ : W.part .rim) (_ : Logs W)
    (_ : W.fld (Evt.st .MG_CL_RETIRED)) (_ : W.fld (Evt.st .MG_OTP_FULL)) (_ : W.fld CORE_GATE.GATE)
    (_ : W.fld MG_CL.RET_CORES) (_ : W.fld MG_CL.STATE) (_ : W.fld MG_OTP.FREE) (_ : W.fld MG_OTP.USED)
    (_ : W.fld MG_STAT.OTP_FULL) (_ : W.fld MG_STAT.RETIRED) (_ : W.fld MG_STAT.WORN) (_ : W.fld REST_MASK.WAKE)
    (_ : W.fld SWD_STAT.PEND) (_ : W.fld SWD_STAT.WAIT_SLOT) (_ : W.fld TH_STAT.OTP_PEND)
    (_ : W.fld TH_WR_CNT.DEFERRED) (_ : W.fld TH_WR_CNT.SUPERSEDED) : Kept W (State.closeGates s) := by
  unfold State.closeGates
  repeat' first
    | with_reducible assumption
    | (extract_lets +onlyGivenNames x
       first
       | (refine kept_cut (P := Kept W x) ?_ ?_; (on_goal 1 => subst x); (on_goal 2 => (intro _; try clear_value x)))
       | (try clear_value x))
    | (with_reducible first | apply kept_setRetired | apply kept_gateRetired | apply kept_foldl | (intro _; rfl))
    | (with_reducible first | apply kept_ite)
    | (intro _ _ _ _; try beta_reduce) | (intro _ _ _; try beta_reduce) | (intro _ _; try beta_reduce)
    | split | (clear_value *; split) | dsimp only

theorem kept_reassertRetired (h : Kept W s) (_ : W.part .cmd) (_ : W.part .mg) (_ : W.part .rim) (_ : Logs W)
    (_ : W.fld (Evt.st .MG_CL_RETIRED)) (_ : W.fld (Evt.st .MG_OTP_FULL)) (_ : W.fld CORE_FENCE.FENCE)
    (_ : W.fld CORE_GATE.GATE) (_ : W.fld MG_CL.RET_CORES) (_ : W.fld MG_CL.STATE) (_ : W.fld MG_OTP.FREE)
    (_ : W.fld MG_OTP.USED) (_ : W.fld MG_STAT.FENCE_WAIT) (_ : W.fld MG_STAT.OTP_FULL) (_ : W.fld MG_STAT.RETIRED)
    (_ : W.fld MG_STAT.WORN) (_ : W.fld OMB_STAT.AWAIT) (_ : W.fld REST_MASK.WAKE) (_ : W.fld SWD_STAT.PEND)
    (_ : W.fld SWD_STAT.WAIT_SLOT) (_ : W.fld TH_STAT.OTP_PEND) (_ : W.fld TH_WR_CNT.DEFERRED)
    (_ : W.fld TH_WR_CNT.SUPERSEDED) : Kept W (State.reassertRetired s) := by
  unfold State.reassertRetired
  repeat' first
    | with_reducible assumption
    | (extract_lets +onlyGivenNames x
       first
       | (refine kept_cut (P := Kept W x) ?_ ?_; (on_goal 1 => subst x); (on_goal 2 => (intro _; try clear_value x)))
       | (try clear_value x))
    | (with_reducible first | apply kept_wrBit | apply kept_setRetired | apply kept_gateRetired | apply kept_setMg)
    | (with_reducible first | apply kept_showAwait | apply kept_foldl | (intro _; rfl) | apply kept_ite)
    | (intro _ _ _ _; try beta_reduce) | (intro _ _ _; try beta_reduce) | (intro _ _; try beta_reduce)
    | split | (clear_value *; split) | dsimp only

theorem kept_postRetired (h : Kept W s) (_ : W.part .bus) (_ : W.part .mg) (_ : W.fld OMB_STAT.DROP)
    (_ : W.fld OMB_STAT.QUEUED) : Kept W (State.postRetired s) := by
  unfold State.postRetired
  repeat' first
    | with_reducible assumption
    | (extract_lets +onlyGivenNames x
       first
       | (refine kept_cut (P := Kept W x) ?_ ?_; (on_goal 1 => subst x); (on_goal 2 => (intro _; try clear_value x)))
       | (try clear_value x))
    | (with_reducible first | apply kept_post | apply kept_setMg | apply kept_foldl | (intro _; rfl) | apply kept_ite)
    | (intro _ _ _ _; try beta_reduce) | (intro _ _ _; try beta_reduce) | (intro _ _; try beta_reduce)
    | split | (clear_value *; split) | dsimp only

theorem kept_restoreRecord {a2 : Nat × Nat} (h : Kept W s) (_ : W.part .mg) (_ : W.fld MG_CL.AGE)
    (_ : W.fld MG_CL.STATE) (_ : W.fld MG_CL.SUS) (_ : W.fld MG_DLY.BASE) (_ : W.fld MG_STAT.SUS_OVF) :
    Kept W (State.restoreRecord s a2) := by
  unfold State.restoreRecord
  repeat' first
    | with_reducible assumption
    | (extract_lets +onlyGivenNames x
       first
       | (refine kept_cut (P := Kept W x) ?_ ?_; (on_goal 1 => subst x); (on_goal 2 => (intro _; try clear_value x)))
       | (try clear_value x))
    | (with_reducible first | apply kept_setMgCl | apply kept_wr | apply kept_freeEntry | apply kept_setMg)
    | (with_reducible first | apply kept_setSuspect | apply kept_foldl | (intro _; rfl) | apply kept_ite)
    | (intro _ _ _ _; try beta_reduce) | (intro _ _ _; try beta_reduce) | (intro _ _; try beta_reduce)
    | split | (clear_value *; split) | dsimp only

theorem kept_restoreAgeing (h : Kept W s) (_ : W.part .cmd) (_ : W.part .mg) (_ : W.part .rim) (_ : Logs W)
    (_ : W.fld (Evt.st .MG_CL_RETIRED)) (_ : W.fld (Evt.st .MG_OTP_FULL)) (_ : W.fld CORE_FENCE.FENCE)
    (_ : W.fld CORE_GATE.GATE) (_ : W.fld MG_CL.AGE) (_ : W.fld MG_CL.APPL) (_ : W.fld MG_CL.RET_CORES)
    (_ : W.fld MG_CL.STATE) (_ : W.fld MG_CL.SUS) (_ : W.fld MG_DLY.BASE) (_ : W.fld MG_OTP.FREE)
    (_ : W.fld MG_OTP.USED) (_ : W.fld MG_STAT.FENCE_WAIT) (_ : W.fld MG_STAT.OTP_FULL) (_ : W.fld MG_STAT.RETIRED)
    (_ : W.fld MG_STAT.SUS_OVF) (_ : W.fld MG_STAT.WORN) (_ : W.fld OMB_STAT.AWAIT) (_ : W.fld REST_MASK.WAKE)
    (_ : W.fld SWD_STAT.PEND) (_ : W.fld SWD_STAT.WAIT_SLOT) (_ : W.fld TH_STAT.OTP_PEND)
    (_ : W.fld TH_WR_CNT.DEFERRED) (_ : W.fld TH_WR_CNT.SUPERSEDED) : Kept W (State.restoreAgeing s) := by
  unfold State.restoreAgeing
  repeat' first
    | with_reducible assumption
    | (extract_lets +onlyGivenNames x
       first
       | (refine kept_cut (P := Kept W x) ?_ ?_; (on_goal 1 => subst x); (on_goal 2 => (intro _; try clear_value x)))
       | (try clear_value x))
    | (with_reducible first | apply kept_restoreRecord | apply kept_wr | apply kept_showStates)
    | (with_reducible first | apply kept_reassertRetired | apply kept_foldl | apply kept_upTo | (intro _; rfl))
    | (with_reducible first | apply kept_ite)
    | (intro _ _ _ _; try beta_reduce) | (intro _ _ _; try beta_reduce) | (intro _ _; try beta_reduce)
    | split | (clear_value *; split) | dsimp only

theorem kept_showMargins (h : Kept W s) (_ : W.fld MG_STAT.ABOVE_COMMON) (_ : W.fld MG_STAT.SLEWING) :
    Kept W (State.showMargins s) := by
  unfold State.showMargins
  repeat' first
    | with_reducible assumption
    | (extract_lets +onlyGivenNames x
       first
       | (refine kept_cut (P := Kept W x) ?_ ?_; (on_goal 1 => subst x); (on_goal 2 => (intro _; try clear_value x)))
       | (try clear_value x))
    | (with_reducible first | apply kept_wr | apply kept_wrB | (intro _; rfl) | apply kept_ite)
    | split | (clear_value *; split) | dsimp only

theorem kept_marginBoundary (h : Kept W s) (_ : W.part .cmd) (_ : W.part .emit) (_ : W.part .mg) (_ : W.part .rim)
    (_ : Logs W) (_ : W.fld (Evt.st .MG_CL_RETIRED)) (_ : W.fld (Evt.st .MG_OTP_FULL)) (_ : W.fld CORE_GATE.GATE)
    (_ : W.fld MG_CL.APPL) (_ : W.fld MG_CL.RET_CORES) (_ : W.fld MG_CL.STATE) (_ : W.fld MG_OTP.FREE)
    (_ : W.fld MG_OTP.USED) (_ : W.fld MG_STAT.ABOVE_COMMON) (_ : W.fld MG_STAT.OTP_FULL) (_ : W.fld MG_STAT.RETIRED)
    (_ : W.fld MG_STAT.SLEWING) (_ : W.fld MG_STAT.WORN) (_ : W.fld REST_MASK.WAKE) (_ : W.fld SWD_STAT.PEND)
    (_ : W.fld SWD_STAT.WAIT_SLOT) (_ : W.fld TH_STAT.OTP_PEND) (_ : W.fld TH_WR_CNT.DEFERRED)
    (_ : W.fld TH_WR_CNT.SUPERSEDED) : Kept W (State.marginBoundary s) := by
  unfold State.marginBoundary
  repeat' first
    | with_reducible assumption
    | (extract_lets +onlyGivenNames x
       first
       | (refine kept_cut (P := Kept W x) ?_ ?_; (on_goal 1 => subst x); (on_goal 2 => (intro _; try clear_value x)))
       | (try clear_value x))
    | (with_reducible first | apply kept_setMgCl | apply kept_quiet | apply kept_closeGates)
    | (with_reducible first | apply kept_confirmOffsets | apply kept_showMargins | apply kept_foldl | (intro _; rfl))
    | (with_reducible first | apply kept_ite)
    | (intro _ _ _ _; try beta_reduce) | (intro _ _ _; try beta_reduce) | (intro _ _; try beta_reduce)
    | split | (clear_value *; split) | dsimp only

end Sys2Proof.Machine
end

