-- ==== Sys2Proof/Laws/KeptRecovery.lean ====
section
/-! SUPPORT. What the operations of `Recovery.lean` keep (see `Kept.lean`). -/

set_option linter.unusedVariables false
set_option linter.unusedTactic false
set_option linter.unreachableTactic false
set_option linter.tactic.unusedName false

namespace Sys2Proof.Machine

variable {W : Bounds} {s : State}

theorem kept_collectCode {a2 : Nat} (h : Kept W s) (_ : W.part .rc) (_ : Logs W) (_ : W.fld RC_ERRCODE.CODE)
    (_ : W.fld RC_ERRLAST.CODE) (_ : W.fld RC_ERR_TICK.TICK) : Kept W (State.collectCode s a2) := by
  unfold State.collectCode
  repeat' first
    | with_reducible assumption
    | (extract_lets +onlyGivenNames x
       first
       | (refine kept_cut (P := Kept W x) ?_ ?_; (on_goal 1 => subst x); (on_goal 2 => (intro _; try clear_value x)))
       | (try clear_value x))
    | (with_reducible first | apply kept_wr | apply kept_setRc | apply kept_errRecord | (intro _; rfl))
    | (with_reducible first | apply kept_ite)
    | split | (clear_value *; split) | dsimp only

theorem kept_hangSnapshot {a2 : Nat} {a3 : Nat} (h : Kept W s) (_ : W.part .free) (_ : Logs W)
    (_ : W.fld (Evt.st .FW_HSNAP)) (_ : W.fld HS_CTRL.FROZEN) (_ : W.fld HS_CTRL.MISSED) (_ : W.fld HS_W.WORD) :
    Kept W (State.hangSnapshot s a2 a3) := by
  unfold State.hangSnapshot
  repeat' first
    | with_reducible assumption
    | (extract_lets +onlyGivenNames x
       first
       | (refine kept_cut (P := Kept W x) ?_ ?_; (on_goal 1 => subst x); (on_goal 2 => (intro _; try clear_value x)))
       | (refine kept_cut (P := Kept2 W x) ?_ ?_; (on_goal 1 => subst x); (on_goal 2 => (intro _; try clear_value x)))
       | (try clear_value x))
    | (with_reducible first | apply kept_incSat | apply kept_takeFree | apply kept_wr | apply kept_raise)
    | (with_reducible first | apply kept_upTo | (apply kept2_snd; assumption))
    | (with_reducible first | (apply kept2_snd; apply kept_takeFree) | refine kept_of2 (by assumption) ?_)
    | (with_reducible first | (intro _; rfl) | apply kept_ite)
    | (intro _ _ _ _; try beta_reduce) | (intro _ _ _; try beta_reduce) | (intro _ _; try beta_reduce)
    | split | (clear_value *; split) | dsimp only

theorem kept_enterPower {a2 : Nat} {a3 : optParam Bool false} (h : Kept W s) (_ : W.part .free) (_ : W.part .rc)
    (_ : Logs W) (_ : W.fld (Evt.st .FW_HSNAP)) (_ : W.fld (Evt.st .RC_TRAY_REQ)) (_ : W.fld HS_CTRL.FROZEN)
    (_ : W.fld HS_CTRL.MISSED) (_ : W.fld HS_W.WORD) (_ : W.fld RC_CNT.POWER) (_ : W.fld RC_ERRCODE.CODE)
    (_ : W.fld RC_ERRLAST.CODE) (_ : W.fld RC_ERR_TICK.TICK) (_ : W.fld RC_STAT.LADDER) (_ : W.fld RC_STAT.PWR_HELD)
    (_ : W.fld RC_STAT.STEP_PART) (_ : W.fld RC_STAT.TRAY_REQ) : Kept W (State.enterPower s a2 a3) := by
  unfold State.enterPower
  repeat' first
    | with_reducible assumption
    | (extract_lets +onlyGivenNames x
       first
       | (refine kept_cut (P := Kept W x) ?_ ?_; (on_goal 1 => subst x); (on_goal 2 => (intro _; try clear_value x)))
       | (try clear_value x))
    | (with_reducible first | apply kept_inc | apply kept_hangSnapshot | apply kept_collectCode | apply kept_wr)
    | (with_reducible first | apply kept_setRc | apply kept_raise | (intro _; rfl) | apply kept_ite)
    | split | (clear_value *; split) | dsimp only

theorem kept_sendAborts {a2 : Nat} (h : Kept W s) (_ : W.part .car) (_ : W.part .emit) (_ : W.part .free) (_ : Logs W)
    (_ : W.fld (Evt.st .RC_ABORT_SENT)) : Kept W (State.sendAborts s a2) := by
  unfold State.sendAborts
  repeat' first
    | with_reducible assumption
    | (extract_lets +onlyGivenNames x
       first
       | (refine kept_cut (P := Kept W x) ?_ ?_; (on_goal 1 => subst x); (on_goal 2 => (intro _; try clear_value x)))
       | (refine kept_cut (P := Kept2 W x) ?_ ?_; (on_goal 1 => subst x); (on_goal 2 => (intro _; try clear_value x)))
       | (try clear_value x))
    | (with_reducible first | apply kept_takeFree | apply kept_sideband | apply kept_raise | apply kept_foldl)
    | (with_reducible first | (apply kept2_snd; assumption) | (apply kept2_snd; apply kept_takeFree))
    | (with_reducible first | (apply kept2_snd; apply kept_sideband) | refine kept_of2 (by assumption) ?_)
    | (with_reducible first | (intro _; rfl) | apply kept_ite)
    | (intro _ _ _ _; try beta_reduce) | (intro _ _ _; try beta_reduce) | (intro _ _; try beta_reduce)
    | split | (clear_value *; split) | dsimp only

theorem kept_stepNotice {a2 : Nat} {a3 : Option Nat} (h : Kept W s) (_ : W.part .bus) (_ : W.fld OMB_STAT.DROP)
    (_ : W.fld OMB_STAT.QUEUED) : Kept W (State.stepNotice s a2 a3) := by
  unfold State.stepNotice
  repeat' first
    | with_reducible assumption
    | (extract_lets +onlyGivenNames x
       first
       | (refine kept_cut (P := Kept W x) ?_ ?_; (on_goal 1 => subst x); (on_goal 2 => (intro _; try clear_value x)))
       | (try clear_value x))
    | (with_reducible first | apply kept_post | apply kept_foldl | (intro _; rfl) | apply kept_ite)
    | (intro _ _ _ _; try beta_reduce) | (intro _ _ _; try beta_reduce) | (intro _ _; try beta_reduce)
    | split | (clear_value *; split) | dsimp only

theorem kept_assertResets {a2 : List Nat} (h : Kept W s) (_ : W.part .emit) (_ : W.part .spk) (_ : W.fld CORE_RST.RST)
    : Kept W (State.assertResets s a2) := by
  unfold State.assertResets
  repeat' first
    | with_reducible assumption
    | (extract_lets +onlyGivenNames x
       first
       | (refine kept_cut (P := Kept W x) ?_ ?_; (on_goal 1 => subst x); (on_goal 2 => (intro _; try clear_value x)))
       | (try clear_value x))
    | (with_reducible first | apply kept_assertReset | apply kept_foldl | (intro _; rfl) | apply kept_ite)
    | (intro _ _ _ _; try beta_reduce) | (intro _ _ _; try beta_reduce) | (intro _ _; try beta_reduce)
    | split | (clear_value *; split) | dsimp only

theorem kept_releaseResets {a2 : List Nat} (h : Kept W s) (_ : W.fld CORE_RST.RST) :
    Kept W (State.releaseResets s a2) := by
  unfold State.releaseResets
  repeat' first
    | with_reducible assumption
    | (extract_lets +onlyGivenNames x
       first
       | (refine kept_cut (P := Kept W x) ?_ ?_; (on_goal 1 => subst x); (on_goal 2 => (intro _; try clear_value x)))
       | (try clear_value x))
    | (with_reducible first | apply kept_wr | apply kept_foldl | (intro _; rfl) | apply kept_ite)
    | (intro _ _ _ _; try beta_reduce) | (intro _ _ _; try beta_reduce) | (intro _ _; try beta_reduce)
    | split | (clear_value *; split) | dsimp only

theorem kept_forceOffOn {a2 : List Nat} (h : Kept W s) (_ : W.part .cmd) (_ : W.part .rim) (_ : Logs W)
    (_ : W.fld (Evt.st .RIM_FORCED_OFF)) (_ : W.fld REST_MASK.WAKE) (_ : W.fld RG_STAT.RAMPS)
    (_ : W.fld SWD_STAT.FORCED) (_ : W.fld SWD_STAT.PEND) (_ : W.fld SWD_STAT.WAIT_SLOT) :
    Kept W (State.forceOffOn s a2) := by
  unfold State.forceOffOn
  repeat' first
    | with_reducible assumption
    | (extract_lets +onlyGivenNames x
       first
       | (refine kept_cut (P := Kept W x) ?_ ?_; (on_goal 1 => subst x); (on_goal 2 => (intro _; try clear_value x)))
       | (try clear_value x))
    | (with_reducible first | apply kept_forceOffAll | (intro _; rfl) | apply kept_ite)
    | (intro _ _ _ _; try beta_reduce) | (intro _ _ _; try beta_reduce) | (intro _ _; try beta_reduce)
    | split | (clear_value *; split) | dsimp only

theorem kept_disarmHb (h : Kept W s) (_ : W.fld RC_STAT.HB_ARMED) (_ : W.fld RC_STAT.MISSES) :
    Kept W (State.disarmHb s) := by
  unfold State.disarmHb
  repeat' first
    | with_reducible assumption
    | (extract_lets +onlyGivenNames x
       first
       | (refine kept_cut (P := Kept W x) ?_ ?_; (on_goal 1 => subst x); (on_goal 2 => (intro _; try clear_value x)))
       | (try clear_value x))
    | (with_reducible first | apply kept_wr | (intro _; rfl) | apply kept_ite)
    | split | (clear_value *; split) | dsimp only

theorem kept_dieStep {a2 : Nat} (h : Kept W s) (_ : W.part .bus) (_ : W.part .car) (_ : W.part .emit)
    (_ : W.part .free) (_ : W.part .rc) (_ : Logs W) (_ : W.fld (Evt.st .FW_HSNAP))
    (_ : W.fld (Evt.st .RC_ABORT_SENT)) (_ : W.fld (Evt.st .RC_STEP_START)) (_ : W.fld (Evt.st .RC_TRAY_REQ))
    (_ : W.fld HS_CTRL.FROZEN) (_ : W.fld HS_CTRL.MISSED) (_ : W.fld HS_W.WORD) (_ : W.fld OMB_STAT.DROP)
    (_ : W.fld OMB_STAT.QUEUED) (_ : W.fld RC_CNT.DIE) (_ : W.fld RC_CNT.POWER) (_ : W.fld RC_ERRCODE.CODE)
    (_ : W.fld RC_ERRLAST.CODE) (_ : W.fld RC_ERR_TICK.TICK) (_ : W.fld RC_STAT.DIE_RECENT)
    (_ : W.fld RC_STAT.HB_ARMED) (_ : W.fld RC_STAT.LADDER) (_ : W.fld RC_STAT.MISSES) (_ : W.fld RC_STAT.PWR_HELD)
    (_ : W.fld RC_STAT.STEP_PART) (_ : W.fld RC_STAT.TRAY_REQ) : Kept W (State.dieStep s a2) := by
  unfold State.dieStep
  repeat' first
    | with_reducible assumption
    | (extract_lets +onlyGivenNames x
       first
       | (refine kept_cut (P := Kept W x) ?_ ?_; (on_goal 1 => subst x); (on_goal 2 => (intro _; try clear_value x)))
       | (try clear_value x))
    | (with_reducible first | apply kept_enterPower | apply kept_inc | apply kept_hangSnapshot)
    | (with_reducible first | apply kept_collectCode | apply kept_setRc | apply kept_wr | apply kept_sendAborts)
    | (with_reducible first | apply kept_stepNotice | apply kept_raise | apply kept_disarmHb | (intro _; rfl))
    | (with_reducible first | apply kept_ite)
    | split | (clear_value *; split) | dsimp only

theorem kept_partitionStep {a2 : Nat} {a3 : Nat} (h : Kept W s) (_ : W.part .bus) (_ : W.part .car) (_ : W.part .cmd)
    (_ : W.part .emit) (_ : W.part .free) (_ : W.part .rc) (_ : W.part .rim) (_ : W.part .spk) (_ : Logs W)
    (_ : W.fld (Evt.st .FW_HSNAP)) (_ : W.fld (Evt.st .RC_ABORT_SENT)) (_ : W.fld (Evt.st .RC_STEP_START))
    (_ : W.fld (Evt.st .RIM_FORCED_OFF)) (_ : W.fld CORE_RST.RST) (_ : W.fld HS_CTRL.FROZEN)
    (_ : W.fld HS_CTRL.MISSED) (_ : W.fld HS_W.WORD) (_ : W.fld OMB_STAT.DROP) (_ : W.fld OMB_STAT.QUEUED)
    (_ : W.fld RC_CNT.PART) (_ : W.fld RC_ERRCODE.CODE) (_ : W.fld RC_ERRLAST.CODE) (_ : W.fld RC_ERR_TICK.TICK)
    (_ : W.fld RC_STAT.LADDER) (_ : W.fld RC_STAT.STEP_PART) (_ : W.fld REST_MASK.WAKE) (_ : W.fld RG_STAT.RAMPS)
    (_ : W.fld SWD_STAT.FORCED) (_ : W.fld SWD_STAT.PEND) (_ : W.fld SWD_STAT.WAIT_SLOT) :
    Kept W (State.partitionStep s a2 a3) := by
  unfold State.partitionStep
  repeat' first
    | with_reducible assumption
    | (extract_lets +onlyGivenNames x
       first
       | (refine kept_cut (P := Kept W x) ?_ ?_; (on_goal 1 => subst x); (on_goal 2 => (intro _; try clear_value x)))
       | (try clear_value x))
    | (with_reducible first | apply kept_collectCode | apply kept_hangSnapshot | apply kept_inc | apply kept_setRc)
    | (with_reducible first | apply kept_wr | apply kept_raise | apply kept_stepNotice | apply kept_sendAborts)
    | (with_reducible first | apply kept_assertResets | apply kept_forceOffOn | (intro _; rfl) | apply kept_ite)
    | (intro _ _ _ _; try beta_reduce) | (intro _ _ _; try beta_reduce) | (intro _ _; try beta_reduce)
    | split | (clear_value *; split) | dsimp only

theorem kept_requestStep {a2 : Nat} {a3 : Nat} {a4 : Bool} (h : Kept W s) (_ : W.part .bus) (_ : W.part .car)
    (_ : W.part .cmd) (_ : W.part .emit) (_ : W.part .free) (_ : W.part .rc) (_ : W.part .rim) (_ : W.part .spk)
    (_ : Logs W) (_ : W.fld (Evt.st .FW_HSNAP)) (_ : W.fld (Evt.st .RC_ABORT_SENT))
    (_ : W.fld (Evt.st .RC_STEP_START)) (_ : W.fld (Evt.st .RC_TRAY_REQ)) (_ : W.fld (Evt.st .RIM_FORCED_OFF))
    (_ : W.fld CORE_RST.RST) (_ : W.fld HS_CTRL.FROZEN) (_ : W.fld HS_CTRL.MISSED) (_ : W.fld HS_W.WORD)
    (_ : W.fld OMB_STAT.DROP) (_ : W.fld OMB_STAT.QUEUED) (_ : W.fld RC_CNT.DIE) (_ : W.fld RC_CNT.PART)
    (_ : W.fld RC_CNT.POWER) (_ : W.fld RC_ERRCODE.CODE) (_ : W.fld RC_ERRLAST.CODE) (_ : W.fld RC_ERR_TICK.TICK)
    (_ : W.fld RC_STAT.DIE_RECENT) (_ : W.fld RC_STAT.HB_ARMED) (_ : W.fld RC_STAT.LADDER) (_ : W.fld RC_STAT.MISSES)
    (_ : W.fld RC_STAT.PWR_HELD) (_ : W.fld RC_STAT.STEP_PART) (_ : W.fld RC_STAT.TRAY_REQ) (_ : W.fld REST_MASK.WAKE)
    (_ : W.fld RG_STAT.RAMPS) (_ : W.fld SWD_STAT.FORCED) (_ : W.fld SWD_STAT.PEND) (_ : W.fld SWD_STAT.WAIT_SLOT) :
    Kept2 W (State.requestStep s a2 a3 a4) := by
  unfold State.requestStep
  repeat' first
    | with_reducible assumption
    | (extract_lets +onlyGivenNames x
       first
       | (refine kept_cut (P := Kept W x) ?_ ?_; (on_goal 1 => subst x); (on_goal 2 => (intro _; try clear_value x)))
       | (refine kept_cut (P := Kept2 W x) ?_ ?_; (on_goal 1 => subst x); (on_goal 2 => (intro _; try clear_value x)))
       | (try clear_value x))
    | (with_reducible first | apply kept_enterPower | apply kept_dieStep | apply kept_partitionStep | apply kept2_mk)
    | (with_reducible first | (apply kept2_snd; assumption) | refine kept_of2 (by assumption) ?_ | (intro _; rfl))
    | (with_reducible first | apply kept_ite)
    | split | (clear_value *; split) | dsimp only

theorem kept_leaveSet {a2 : Nat} (h : Kept W s) (_ : W.part .rc) (_ : Logs W) : Kept W (State.leaveSet s a2) := by
  unfold State.leaveSet
  repeat' first
    | with_reducible assumption
    | (extract_lets +onlyGivenNames x
       first
       | (refine kept_cut (P := Kept W x) ?_ ?_; (on_goal 1 => subst x); (on_goal 2 => (intro _; try clear_value x)))
       | (try clear_value x))
    | (with_reducible first | apply kept_setRc | apply kept_fwRec | (intro _; rfl) | apply kept_ite)
    | (intro _ _ _ _; try beta_reduce) | (intro _ _ _; try beta_reduce) | (intro _ _; try beta_reduce)
    | split | (clear_value *; split) | dsimp only

theorem kept_restore1 {a2 : Nat} (h : Kept W s) (_ : W.part .cmd) (_ : W.part .rc) (_ : W.part .rim) (_ : Logs W)
    (_ : W.fld SWD_STAT.PEND) : Kept W (State.restore1 s a2) := by
  unfold State.restore1
  repeat' first
    | with_reducible assumption
    | (extract_lets +onlyGivenNames x
       first
       | (refine kept_cut (P := Kept W x) ?_ ?_; (on_goal 1 => subst x); (on_goal 2 => (intro _; try clear_value x)))
       | (try clear_value x))
    | (with_reducible first | apply kept_leaveSet | apply kept_requestOn | apply kept_setRc | (intro _; rfl))
    | (with_reducible first | apply kept_ite)
    | split | (clear_value *; split) | dsimp only

theorem kept_dieBegin {a2 : Step} (h : Kept W s) (_ : W.part .cmd) (_ : W.part .emit) (_ : W.part .rc)
    (_ : W.part .rim) (_ : W.part .spk) (_ : Logs W) (_ : W.fld (Evt.st .RIM_FORCED_OFF)) (_ : W.fld CORE_RST.RST)
    (_ : W.fld REST_MASK.WAKE) (_ : W.fld RG_STAT.RAMPS) (_ : W.fld SWD_STAT.FORCED) (_ : W.fld SWD_STAT.PEND)
    (_ : W.fld SWD_STAT.WAIT_SLOT) : Kept W (State.dieBegin s a2) := by
  unfold State.dieBegin
  repeat' first
    | with_reducible assumption
    | (extract_lets +onlyGivenNames x
       first
       | (refine kept_cut (P := Kept W x) ?_ ?_; (on_goal 1 => subst x); (on_goal 2 => (intro _; try clear_value x)))
       | (try clear_value x))
    | (with_reducible first | apply kept_assertResets | apply kept_forceOffOn | apply kept_setRc | (intro _; rfl))
    | (with_reducible first | apply kept_ite)
    | (intro _ _ _ _; try beta_reduce) | (intro _ _ _; try beta_reduce) | (intro _ _; try beta_reduce)
    | split | (clear_value *; split) | dsimp only

theorem kept_dieCleared {a2 : Step} (h : Kept W s) (_ : W.part .cmd) (_ : W.part .mg) (_ : W.part .rc)
    (_ : W.part .rim) (_ : Logs W) (_ : W.fld (Evt.st .MG_CL_RETIRED)) (_ : W.fld (Evt.st .MG_OTP_FULL))
    (_ : W.fld CORE_FENCE.FENCE) (_ : W.fld CORE_GATE.GATE) (_ : W.fld MG_CL.RET_CORES) (_ : W.fld MG_CL.STATE)
    (_ : W.fld MG_OTP.FREE) (_ : W.fld MG_OTP.USED) (_ : W.fld MG_STAT.FENCE_WAIT) (_ : W.fld MG_STAT.OTP_FULL)
    (_ : W.fld MG_STAT.RETIRED) (_ : W.fld MG_STAT.WORN) (_ : W.fld OMB_STAT.AWAIT) (_ : W.fld REST_MASK.WAKE)
    (_ : W.fld RIM_STAT.COOL_STOP) (_ : W.fld SWD_STAT.PEND) (_ : W.fld SWD_STAT.WAIT_SLOT)
    (_ : W.fld TH_STAT.OTP_PEND) (_ : W.fld TH_WR_CNT.DEFERRED) (_ : W.fld TH_WR_CNT.SUPERSEDED) :
    Kept W (State.dieCleared s a2) := by
  unfold State.dieCleared
  repeat' first
    | with_reducible assumption
    | (extract_lets +onlyGivenNames x
       first
       | (refine kept_cut (P := Kept W x) ?_ ?_; (on_goal 1 => subst x); (on_goal 2 => (intro _; try clear_value x)))
       | (try clear_value x))
    | (with_reducible first | apply kept_wr | apply kept_reassertRetired | apply kept_setRc | apply kept_foldl)
    | (with_reducible first | (intro _; rfl) | apply kept_ite)
    | (intro _ _ _ _; try beta_reduce) | (intro _ _ _; try beta_reduce) | (intro _ _; try beta_reduce)
    | split | (clear_value *; split) | dsimp only

theorem kept_dieKinds {f : Nat} (h : Kept W s) (_ : W.part .cmd) (_ : W.part .rc) (_ : W.part .rim) (_ : Logs W) (_ : W.fld SWD_STAT.PEND) :
    Kept W (State.dieKinds f s) := by
  induction f generalizing s with
  | zero => exact h
  | succ f ih =>
    unfold State.dieKinds
    split
    · exact h
    · split
      · exact h
      · extract_lets u
        have h1 : Kept W u := by
          refine kept_foldl h (fun _ _ hb => ?_)
          apply kept_restore1 hb <;> assumption
        split
        · exact h1
        · split
          · refine ih (kept_setRc h1 ?_) <;> assumption
          · exact h1

theorem kept_allOff (h : Kept W s) (_ : W.part .cmd) (_ : W.part .mg) (_ : W.part .rc) (_ : W.part .rim) (_ : Logs W)
    (_ : W.fld (Evt.st .MG_CL_RETIRED)) (_ : W.fld (Evt.st .MG_OTP_FULL)) (_ : W.fld CORE_FENCE.FENCE)
    (_ : W.fld CORE_GATE.GATE) (_ : W.fld MG_CL.RET_CORES) (_ : W.fld MG_CL.STATE) (_ : W.fld MG_OTP.FREE)
    (_ : W.fld MG_OTP.USED) (_ : W.fld MG_STAT.FENCE_WAIT) (_ : W.fld MG_STAT.OTP_FULL) (_ : W.fld MG_STAT.RETIRED)
    (_ : W.fld MG_STAT.WORN) (_ : W.fld OMB_STAT.AWAIT) (_ : W.fld REST_MASK.WAKE) (_ : W.fld RIM_STAT.COOL_STOP)
    (_ : W.fld SWD_STAT.PEND) (_ : W.fld SWD_STAT.WAIT_SLOT) (_ : W.fld TH_STAT.OTP_PEND)
    (_ : W.fld TH_WR_CNT.DEFERRED) (_ : W.fld TH_WR_CNT.SUPERSEDED) : Kept W (State.allOff s) := by
  unfold State.allOff
  repeat' first
    | with_reducible assumption
    | (extract_lets +onlyGivenNames x
       first
       | (refine kept_cut (P := Kept W x) ?_ ?_; (on_goal 1 => subst x); (on_goal 2 => (intro _; try clear_value x)))
       | (try clear_value x))
    | (with_reducible first | apply kept_dieCleared | (intro _; rfl) | apply kept_ite)
    | (intro _ _ _ _; try beta_reduce) | (intro _ _ _; try beta_reduce) | (intro _ _; try beta_reduce)
    | split | (clear_value *; split) | dsimp only

theorem kept_execRampDownEnd {a1 : Nat} (h : Kept W s) (_ : W.part .cmd) (_ : W.part .emit) (_ : W.part .mg)
    (_ : W.part .rc) (_ : W.part .rim) (_ : Logs W) (_ : W.fld (Evt.st .MG_CL_RETIRED))
    (_ : W.fld (Evt.st .MG_OTP_FULL)) (_ : W.fld CORE_FENCE.FENCE) (_ : W.fld CORE_GATE.GATE)
    (_ : W.fld MG_CL.RET_CORES) (_ : W.fld MG_CL.STATE) (_ : W.fld MG_OTP.FREE) (_ : W.fld MG_OTP.USED)
    (_ : W.fld MG_STAT.FENCE_WAIT) (_ : W.fld MG_STAT.OTP_FULL) (_ : W.fld MG_STAT.RETIRED) (_ : W.fld MG_STAT.WORN)
    (_ : W.fld OMB_STAT.AWAIT) (_ : W.fld REST_MASK.WAKE) (_ : W.fld RG_STAT.RAMPS) (_ : W.fld RIM_STAT.COOL_STOP)
    (_ : W.fld SWD_STAT.MINOFF) (_ : W.fld SWD_STAT.PEND) (_ : W.fld SWD_STAT.STATE) (_ : W.fld SWD_STAT.WAIT_SLOT)
    (_ : W.fld TH_STAT.OTP_PEND) (_ : W.fld TH_WR_CNT.DEFERRED) (_ : W.fld TH_WR_CNT.SUPERSEDED) :
    KeptO W (execRampDownEnd a1 s) := by
  unfold execRampDownEnd
  repeat' first
    | with_reducible assumption
    | (extract_lets +onlyGivenNames x
       first
       | (refine kept_cut (P := Kept W x) ?_ ?_; (on_goal 1 => subst x); (on_goal 2 => (intro _; try clear_value x)))
       | (try clear_value x))
    | (with_reducible first | apply kept_quiet | apply kept_rampDownEnd | apply kept_allOff | apply keptO_next)
    | (with_reducible first | (intro _; rfl) | apply kept_ite)
    | split | (clear_value *; split) | dsimp only

theorem kept_sequence (h : Kept W s) (_ : W.part .cmd) (_ : W.part .emit) (_ : W.part .mg) (_ : W.part .rc)
    (_ : W.part .rim) (_ : W.part .spk) (_ : Logs W) (_ : W.fld (Evt.st .MG_CL_RETIRED))
    (_ : W.fld (Evt.st .MG_OTP_FULL)) (_ : W.fld (Evt.st .RIM_FORCED_OFF)) (_ : W.fld CORE_FENCE.FENCE)
    (_ : W.fld CORE_GATE.GATE) (_ : W.fld CORE_RST.RST) (_ : W.fld MG_CL.RET_CORES) (_ : W.fld MG_CL.STATE)
    (_ : W.fld MG_OTP.FREE) (_ : W.fld MG_OTP.USED) (_ : W.fld MG_STAT.FENCE_WAIT) (_ : W.fld MG_STAT.OTP_FULL)
    (_ : W.fld MG_STAT.RETIRED) (_ : W.fld MG_STAT.WORN) (_ : W.fld OMB_STAT.AWAIT) (_ : W.fld REST_MASK.WAKE)
    (_ : W.fld RG_STAT.RAMPS) (_ : W.fld RIM_STAT.COOL_STOP) (_ : W.fld SWD_STAT.FORCED) (_ : W.fld SWD_STAT.PEND)
    (_ : W.fld SWD_STAT.WAIT_SLOT) (_ : W.fld TH_STAT.OTP_PEND) (_ : W.fld TH_WR_CNT.DEFERRED)
    (_ : W.fld TH_WR_CNT.SUPERSEDED) : Kept W (State.sequence s) := by
  unfold State.sequence
  repeat' first
    | with_reducible assumption
    | (extract_lets +onlyGivenNames x
       first
       | (refine kept_cut (P := Kept W x) ?_ ?_; (on_goal 1 => subst x); (on_goal 2 => (intro _; try clear_value x)))
       | (try clear_value x))
    | (with_reducible first | apply kept_restore1 | apply kept_dieBegin | apply kept_allOff | apply kept_dieKinds)
    | (with_reducible first | apply kept_foldl | (intro _; rfl) | apply kept_ite)
    | (intro _ _ _ _; try beta_reduce) | (intro _ _ _; try beta_reduce) | (intro _ _; try beta_reduce)
    | split | (clear_value *; split) | dsimp only

theorem kept_releaseHeld (h : Kept W s) (_ : W.part .rc) (_ : W.fld CORE_RST.RST) : Kept W (State.releaseHeld s) := by
  unfold State.releaseHeld
  repeat' first
    | with_reducible assumption
    | (extract_lets +onlyGivenNames x
       first
       | (refine kept_cut (P := Kept W x) ?_ ?_; (on_goal 1 => subst x); (on_goal 2 => (intro _; try clear_value x)))
       | (try clear_value x))
    | (with_reducible first | apply kept_setRc | apply kept_releaseResets | (intro _; rfl) | apply kept_ite)
    | split | (clear_value *; split) | dsimp only

theorem kept_openNotice {a2 : Nat} (h : Kept W s) (_ : W.part .bus) (_ : W.part .rc) (_ : Logs W)
    (_ : W.fld (Evt.st .RC_LADDER_OPEN)) (_ : W.fld OMB_STAT.DROP) (_ : W.fld OMB_STAT.QUEUED)
    (_ : W.fld RC_STAT.LADDER) : Kept W (State.openNotice s a2) := by
  unfold State.openNotice
  repeat' first
    | with_reducible assumption
    | (extract_lets +onlyGivenNames x
       first
       | (refine kept_cut (P := Kept W x) ?_ ?_; (on_goal 1 => subst x); (on_goal 2 => (intro _; try clear_value x)))
       | (try clear_value x))
    | (with_reducible first | apply kept_setRc | apply kept_wr | apply kept_raise | apply kept_post | (intro _; rfl))
    | (with_reducible first | apply kept_ite)
    | split | (clear_value *; split) | dsimp only

theorem kept_execPartitionStepDone (h : Kept W s) (_ : W.part .emit) (_ : W.part .rc) (_ : Logs W)
    (_ : W.fld (Evt.st .RC_STEP_DONE)) (_ : W.fld RC_STAT.LADDER) (_ : W.fld RC_STAT.STEP_PART) :
    KeptO W (execPartitionStepDone s) := by
  unfold execPartitionStepDone
  repeat' first
    | with_reducible assumption
    | (extract_lets +onlyGivenNames x
       first
       | (refine kept_cut (P := Kept W x) ?_ ?_; (on_goal 1 => subst x); (on_goal 2 => (intro _; try clear_value x)))
       | (try clear_value x))
    | (with_reducible first | apply kept_quiet | apply kept_wr | apply kept_setRc | apply kept_raise)
    | (with_reducible first | apply keptO_next | (intro _; rfl) | apply kept_ite)
    | split | (clear_value *; split) | dsimp only

theorem kept_execDieStepDone (h : Kept W s) (_ : W.part .emit) (_ : W.part .rc) (_ : Logs W)
    (_ : W.fld (Evt.st .RC_STEP_DONE)) (_ : W.fld CORE_RST.RST) (_ : W.fld RC_STAT.LADDER) :
    KeptO W (execDieStepDone s) := by
  unfold execDieStepDone
  repeat' first
    | with_reducible assumption
    | (extract_lets +onlyGivenNames x
       first
       | (refine kept_cut (P := Kept W x) ?_ ?_; (on_goal 1 => subst x); (on_goal 2 => (intro _; try clear_value x)))
       | (try clear_value x))
    | (with_reducible first | apply kept_quiet | apply kept_releaseResets | apply kept_setRc | apply kept_wr)
    | (with_reducible first | apply kept_raise | apply keptO_next | (intro _; rfl) | apply kept_ite)
    | split | (clear_value *; split) | dsimp only

theorem kept_heartbeat {a2 : Nat} (h : Kept W s) (_ : W.part .bus) (_ : W.part .mg) (_ : W.part .rc) (_ : Logs W)
    (_ : W.fld (Evt.st .RC_HB_RESUMED)) (_ : W.fld OMB_STAT.DROP) (_ : W.fld OMB_STAT.QUEUED)
    (_ : W.fld RC_HB_CNT.REPEAT) (_ : W.fld RC_STAT.HB_AGE) (_ : W.fld RC_STAT.HB_ARMED) (_ : W.fld RC_STAT.LADDER)
    (_ : W.fld RC_STAT.MISSES) : Kept W (State.heartbeat s a2) := by
  unfold State.heartbeat
  repeat' first
    | with_reducible assumption
    | (extract_lets +onlyGivenNames x
       first
       | (refine kept_cut (P := Kept W x) ?_ ?_; (on_goal 1 => subst x); (on_goal 2 => (intro _; try clear_value x)))
       | (try clear_value x))
    | (with_reducible first | apply kept_inc | apply kept_setRc | apply kept_wr | apply kept_raise)
    | (with_reducible first | apply kept_postRetired | (intro _; rfl) | apply kept_ite)
    | split | (clear_value *; split) | dsimp only

theorem kept_execHbMiss (h : Kept W s) (_ : W.part .bus) (_ : W.part .emit) (_ : W.part .rc) (_ : Logs W)
    (_ : W.fld (Evt.st .RC_HB_MISS)) (_ : W.fld (Evt.st .RC_LADDER_OPEN)) (_ : W.fld OMB_STAT.DROP)
    (_ : W.fld OMB_STAT.QUEUED) (_ : W.fld RC_HB_CNT.MISSES) (_ : W.fld RC_STAT.LADDER) (_ : W.fld RC_STAT.MISSES) :
    KeptO W (execHbMiss s) := by
  unfold execHbMiss
  repeat' first
    | with_reducible assumption
    | (extract_lets +onlyGivenNames x
       first
       | (refine kept_cut (P := Kept W x) ?_ ?_; (on_goal 1 => subst x); (on_goal 2 => (intro _; try clear_value x)))
       | (try clear_value x))
    | (with_reducible first | apply kept_quiet | apply kept_inc | apply kept_wr | apply kept_raise | apply kept_setRc)
    | (with_reducible first | apply kept_openNotice | apply keptO_next | (intro _; rfl) | apply kept_ite)
    | split | (clear_value *; split) | dsimp only

theorem kept_execNoticeExpiry (h : Kept W s) (_ : W.part .bus) (_ : W.part .car) (_ : W.part .emit) (_ : W.part .free)
    (_ : W.part .rc) (_ : Logs W) (_ : W.fld (Evt.st .FW_HSNAP)) (_ : W.fld (Evt.st .RC_ABORT_SENT))
    (_ : W.fld (Evt.st .RC_STEP_START)) (_ : W.fld (Evt.st .RC_TRAY_REQ)) (_ : W.fld HS_CTRL.FROZEN)
    (_ : W.fld HS_CTRL.MISSED) (_ : W.fld HS_W.WORD) (_ : W.fld OMB_STAT.DROP) (_ : W.fld OMB_STAT.QUEUED)
    (_ : W.fld RC_CNT.DIE) (_ : W.fld RC_CNT.POWER) (_ : W.fld RC_ERRCODE.CODE) (_ : W.fld RC_ERRLAST.CODE)
    (_ : W.fld RC_ERR_TICK.TICK) (_ : W.fld RC_STAT.DIE_RECENT) (_ : W.fld RC_STAT.HB_ARMED)
    (_ : W.fld RC_STAT.LADDER) (_ : W.fld RC_STAT.MISSES) (_ : W.fld RC_STAT.PWR_HELD) (_ : W.fld RC_STAT.STEP_PART)
    (_ : W.fld RC_STAT.TRAY_REQ) : KeptO W (execNoticeExpiry s) := by
  unfold execNoticeExpiry
  repeat' first
    | with_reducible assumption
    | (extract_lets +onlyGivenNames x
       first
       | (refine kept_cut (P := Kept W x) ?_ ?_; (on_goal 1 => subst x); (on_goal 2 => (intro _; try clear_value x)))
       | (try clear_value x))
    | (with_reducible first | apply kept_quiet | apply kept_dieStep | apply keptO_next | (intro _; rfl))
    | (with_reducible first | apply kept_ite)
    | split | (clear_value *; split) | dsimp only

theorem kept_execBootExpiry (h : Kept W s) (_ : W.part .emit) (_ : W.part .free) (_ : W.part .rc) (_ : Logs W)
    (_ : W.fld (Evt.st .FW_HSNAP)) (_ : W.fld (Evt.st .RC_TRAY_REQ)) (_ : W.fld HS_CTRL.FROZEN)
    (_ : W.fld HS_CTRL.MISSED) (_ : W.fld HS_W.WORD) (_ : W.fld RC_CNT.POWER) (_ : W.fld RC_ERRCODE.CODE)
    (_ : W.fld RC_ERRLAST.CODE) (_ : W.fld RC_ERR_TICK.TICK) (_ : W.fld RC_STAT.LADDER) (_ : W.fld RC_STAT.PWR_HELD)
    (_ : W.fld RC_STAT.STEP_PART) (_ : W.fld RC_STAT.TRAY_REQ) : KeptO W (execBootExpiry s) := by
  unfold execBootExpiry
  repeat' first
    | with_reducible assumption
    | (extract_lets +onlyGivenNames x
       first
       | (refine kept_cut (P := Kept W x) ?_ ?_; (on_goal 1 => subst x); (on_goal 2 => (intro _; try clear_value x)))
       | (try clear_value x))
    | (with_reducible first | apply kept_quiet | apply kept_enterPower | apply keptO_next | (intro _; rfl))
    | (with_reducible first | apply kept_ite)
    | split | (clear_value *; split) | dsimp only

theorem kept_setSlot {a2 : Nat} {a3 : Slot → Slot} (h : Kept W s) (_ : W.part .fw) (_ : W.part .log) :
    Kept W (State.setSlot s a2 a3) := by
  unfold State.setSlot
  repeat' first
    | with_reducible assumption
    | (extract_lets +onlyGivenNames x
       first
       | (refine kept_cut (P := Kept W x) ?_ ?_; (on_goal 1 => subst x); (on_goal 2 => (intro _; try clear_value x)))
       | (try clear_value x))
    | (with_reducible first | apply kept_setFw | (intro _; rfl) | apply kept_ite)
    | split | (clear_value *; split) | dsimp only

theorem kept_showSlot {a2 : Nat} {a3 : Nat} {a4 : Nat} (h : Kept W s) (_ : W.fld FW_SLOT_A.GEN)
    (_ : W.fld FW_SLOT_A.STATE) (_ : W.fld FW_SLOT_B.GEN) (_ : W.fld FW_SLOT_B.STATE) :
    Kept W (State.showSlot s a2 a3 a4) := by
  unfold State.showSlot
  repeat' first
    | with_reducible assumption
    | (extract_lets +onlyGivenNames x
       first
       | (refine kept_cut (P := Kept W x) ?_ ?_; (on_goal 1 => subst x); (on_goal 2 => (intro _; try clear_value x)))
       | (try clear_value x))
    | (with_reducible first | apply kept_wr | (intro _; rfl) | apply kept_ite)
    | split | (clear_value *; split) | dsimp only

theorem kept_selectSlot (h : Kept W s) (_ : W.fld FW_STAT.ACTIVE) (_ : W.fld FW_STAT.GEN) (_ : W.fld FW_STAT.NO_FW)
    (_ : W.fld FW_STAT.TENTATIVE) : Kept W (State.selectSlot s) := by
  unfold State.selectSlot
  repeat' first
    | with_reducible assumption
    | (extract_lets +onlyGivenNames x
       first
       | (refine kept_cut (P := Kept W x) ?_ ?_; (on_goal 1 => subst x); (on_goal 2 => (intro _; try clear_value x)))
       | (try clear_value x))
    | (with_reducible first | apply kept_wr | (intro _; rfl) | apply kept_ite)
    | split | (clear_value *; split) | dsimp only

theorem kept_unlock (h : Kept W s) (h0 : W.locks {}) : Kept W { s with locks := {} } :=
  ⟨h.pending, h.tick, h0, fun i => ⟨(h.inv i).fields, (h.inv i).rwl, (h.inv i).inForce, (h.inv i).staging, (h.inv i).events⟩,
    fun q k => Region.same_trans (h.part q k) (by cases q <;> simp [Region.same]), h.reg⟩

theorem kept_clearForRestart (h : Kept W s) (_ : W.part .bg) (_ : W.part .cad) (_ : W.part .car) (_ : W.part .pel)
    (_ : W.part .tasks) (_ : Logs W) (_ : W.fld (Evt.st .CAR_ROLE_CHANGE)) (_ : W.fld BG_HINT_STAT.ACTIVE)
    (_ : W.fld BG_HINT_STAT.HELD) (_ : W.fld BG_SECT.HINT) (_ : W.fld CAR_LEASE.LEFT)
    (_ : W.fld CAR_STAT.LEASE_VALID) (_ : W.fld CAR_STAT.ROLE) (_ : W.fld DOM_AGE.AGE) (_ : W.fld DOM_STAT.PENDING)
    (_ : W.fld DOM_STAT.PROMOTED) (_ : W.fld PEL_OFS.OFS) (_ : W.fld PEL_STAT.OFS_VALID) (_ : W.fld PEL_STAT.ROOT)
    (_ : W.locks {}) : Kept W s.clearForRestart := by
  unfold State.clearForRestart
  have h1 := kept_unlock h ‹_›
  extract_lets u
  have h2 : Kept W u := h1
  clear_value u
  repeat' first
    | with_reducible assumption
    | (extract_lets +onlyGivenNames x
       first
       | (refine kept_cut (P := Kept W x) ?_ ?_; (on_goal 1 => subst x); (on_goal 2 => (intro _; try clear_value x)))
       | (try clear_value x))
    | (with_reducible first | apply kept_showHints | apply kept_setBg | apply kept_setCad | apply kept_setPel)
    | (with_reducible first | apply kept_dropLease | apply kept_setRole | apply kept_upTo | apply kept_wr)
    | (with_reducible first | (intro _; rfl) | apply kept_ite)
    | (intro _ _ _ _; try beta_reduce) | (intro _ _ _; try beta_reduce) | (intro _ _; try beta_reduce)
    | split | (clear_value *; split) | dsimp only

theorem kept_abortLoads (h : Kept W s) (_ : W.part .cmd) (_ : W.part .eng) (_ : W.fld ENG_STAT.INACT_VALID)
    (_ : W.fld FW_SLOT_A.GEN) (_ : W.fld FW_SLOT_A.STATE) (_ : W.fld FW_SLOT_B.GEN) (_ : W.fld FW_SLOT_B.STATE) :
    Kept W (State.abortLoads s) := by
  unfold State.abortLoads
  repeat' first
    | with_reducible assumption
    | (extract_lets +onlyGivenNames x
       first
       | (refine kept_cut (P := Kept W x) ?_ ?_; (on_goal 1 => subst x); (on_goal 2 => (intro _; try clear_value x)))
       | (try clear_value x))
    | (with_reducible first | apply kept_setCmd | apply kept_showSlot | apply kept_wr | apply kept_setBank)
    | (with_reducible first | apply kept_upTo | (intro _; rfl) | apply kept_ite)
    | (intro _ _ _ _; try beta_reduce) | (intro _ _ _; try beta_reduce) | (intro _ _; try beta_reduce)
    | split | (clear_value *; split) | dsimp only

theorem kept_beginRestart {a2 : Nat} {a3 : Nat} (h : Kept W s) (_ : W.part .bg) (_ : W.part .cad) (_ : W.part .car)
    (_ : W.part .cmd) (_ : W.part .eng) (_ : W.part .free) (_ : W.part .fw) (_ : W.part .log) (_ : W.part .pel)
    (_ : W.part .rc) (_ : W.part .rim) (_ : W.part .tasks) (_ : Logs W) (_ : W.fld (Evt.st .CAR_ROLE_CHANGE))
    (_ : W.fld (Evt.st .FW_HSNAP)) (_ : W.fld (Evt.st .RC_TRAY_REQ)) (_ : W.fld (Evt.st .RIM_CANCELLED))
    (_ : W.fld BG_HINT_STAT.ACTIVE) (_ : W.fld BG_HINT_STAT.HELD) (_ : W.fld BG_SECT.HINT) (_ : W.fld CAR_LEASE.LEFT)
    (_ : W.fld CAR_STAT.LEASE_VALID) (_ : W.fld CAR_STAT.ROLE) (_ : W.fld DOM_AGE.AGE) (_ : W.fld DOM_STAT.PENDING)
    (_ : W.fld DOM_STAT.PROMOTED) (_ : W.fld ENG_CAND.CAP) (_ : W.fld ENG_CAND.CUR) (_ : W.fld ENG_CAND.THM)
    (_ : W.fld ENG_LCAND.LINK8) (_ : W.fld ENG_LCAND.LINK9) (_ : W.fld ENG_LCAND.STACK) (_ : W.fld ENG_SEL.LNK)
    (_ : W.fld ENG_SEL.SEC) (_ : W.fld ENG_SEL.STK) (_ : W.fld ENG_STAT.INACT_VALID) (_ : W.fld ENG_STAT.STATE)
    (_ : W.fld FW_SLOT_A.GEN) (_ : W.fld FW_SLOT_A.STATE) (_ : W.fld FW_SLOT_B.GEN) (_ : W.fld FW_SLOT_B.STATE)
    (_ : W.fld FW_STAT.ACTIVE) (_ : W.fld FW_STAT.GEN) (_ : W.fld FW_STAT.NO_FW) (_ : W.fld FW_STAT.TENTATIVE)
    (_ : W.fld GSTAT.HOLDOVER) (_ : W.fld GSTAT.READY) (_ : W.fld HS_CTRL.FROZEN) (_ : W.fld HS_CTRL.MISSED)
    (_ : W.fld HS_W.WORD) (_ : W.fld PEL_OFS.OFS) (_ : W.fld PEL_STAT.OFS_VALID) (_ : W.fld PEL_STAT.ROOT)
    (_ : W.fld RC_CNT.POWER) (_ : W.fld RC_CNT.WARM) (_ : W.fld RC_ERRCODE.CODE) (_ : W.fld RC_ERRLAST.CODE)
    (_ : W.fld RC_ERR_TICK.TICK) (_ : W.fld RC_STAT.HOLDOVER) (_ : W.fld RC_STAT.LADDER) (_ : W.fld RC_STAT.PWR_HELD)
    (_ : W.fld RC_STAT.STEP_PART) (_ : W.fld RC_STAT.TRAY_REQ) (_ : W.fld RC_STAT.WR_COUNT) (_ : W.fld SWD_STAT.PEND)
    (_ : W.fld SWD_STAT.WAIT_SLOT) (_ : W.locks {}) : Kept W (State.beginRestart s a2 a3) := by
  unfold State.beginRestart
  repeat' first
    | with_reducible assumption
    | (extract_lets +onlyGivenNames x
       first
       | (refine kept_cut (P := Kept W x) ?_ ?_; (on_goal 1 => subst x); (on_goal 2 => (intro _; try clear_value x)))
       | (try clear_value x))
    | (with_reducible first | apply kept_hangSnapshot | apply kept_wr | apply kept_collectCode | apply kept_inc)
    | (with_reducible first | apply kept_setRc | apply kept_safeCands | apply kept_setEng | apply kept_setCmd)
    | (with_reducible first | apply kept_setFw | apply kept_abortLoads | apply kept_clearForRestart)
    | (with_reducible first | apply kept_cancelInhibited | apply kept_selectSlot | apply kept_enterPower)
    | (with_reducible first | (intro _; rfl) | apply kept_ite)
    | (intro _ _ _ _; try beta_reduce) | (intro _ _ _; try beta_reduce) | (intro _ _; try beta_reduce)
    | split | (clear_value *; split) | dsimp only

theorem kept_execWdogKick (h : Kept W s) (_ : W.part .emit) (_ : W.part .rc) (_ : W.fld RC_WDOG.AGE) :
    KeptO W (execWdogKick s) := by
  unfold execWdogKick
  repeat' first
    | with_reducible assumption
    | (extract_lets +onlyGivenNames x
       first
       | (refine kept_cut (P := Kept W x) ?_ ?_; (on_goal 1 => subst x); (on_goal 2 => (intro _; try clear_value x)))
       | (try clear_value x))
    | (with_reducible first | apply kept_quiet | apply kept_wr | apply kept_setRc | apply keptO_next | (intro _; rfl))
    | (with_reducible first | apply kept_ite)
    | split | (clear_value *; split) | dsimp only

theorem kept_execWdogExpiry (h : Kept W s) (_ : W.part .bg) (_ : W.part .cad) (_ : W.part .car) (_ : W.part .cmd)
    (_ : W.part .emit) (_ : W.part .eng) (_ : W.part .free) (_ : W.part .fw) (_ : W.part .log) (_ : W.part .pel)
    (_ : W.part .rc) (_ : W.part .rim) (_ : W.part .tasks) (_ : Logs W) (_ : W.fld (Evt.st .CAR_ROLE_CHANGE))
    (_ : W.fld (Evt.st .FW_HSNAP)) (_ : W.fld (Evt.st .RC_TRAY_REQ)) (_ : W.fld (Evt.st .RIM_CANCELLED))
    (_ : W.fld BG_HINT_STAT.ACTIVE) (_ : W.fld BG_HINT_STAT.HELD) (_ : W.fld BG_SECT.HINT) (_ : W.fld CAR_LEASE.LEFT)
    (_ : W.fld CAR_STAT.LEASE_VALID) (_ : W.fld CAR_STAT.ROLE) (_ : W.fld DOM_AGE.AGE) (_ : W.fld DOM_STAT.PENDING)
    (_ : W.fld DOM_STAT.PROMOTED) (_ : W.fld ENG_CAND.CAP) (_ : W.fld ENG_CAND.CUR) (_ : W.fld ENG_CAND.THM)
    (_ : W.fld ENG_LCAND.LINK8) (_ : W.fld ENG_LCAND.LINK9) (_ : W.fld ENG_LCAND.STACK) (_ : W.fld ENG_SEL.LNK)
    (_ : W.fld ENG_SEL.SEC) (_ : W.fld ENG_SEL.STK) (_ : W.fld ENG_STAT.INACT_VALID) (_ : W.fld ENG_STAT.STATE)
    (_ : W.fld FW_SLOT_A.GEN) (_ : W.fld FW_SLOT_A.STATE) (_ : W.fld FW_SLOT_B.GEN) (_ : W.fld FW_SLOT_B.STATE)
    (_ : W.fld FW_STAT.ACTIVE) (_ : W.fld FW_STAT.GEN) (_ : W.fld FW_STAT.NO_FW) (_ : W.fld FW_STAT.TENTATIVE)
    (_ : W.fld GSTAT.HOLDOVER) (_ : W.fld GSTAT.READY) (_ : W.fld HS_CTRL.FROZEN) (_ : W.fld HS_CTRL.MISSED)
    (_ : W.fld HS_W.WORD) (_ : W.fld PEL_OFS.OFS) (_ : W.fld PEL_STAT.OFS_VALID) (_ : W.fld PEL_STAT.ROOT)
    (_ : W.fld RC_CNT.POWER) (_ : W.fld RC_CNT.WARM) (_ : W.fld RC_ERRCODE.CODE) (_ : W.fld RC_ERRLAST.CODE)
    (_ : W.fld RC_ERR_TICK.TICK) (_ : W.fld RC_STAT.HOLDOVER) (_ : W.fld RC_STAT.LADDER) (_ : W.fld RC_STAT.PWR_HELD)
    (_ : W.fld RC_STAT.STEP_PART) (_ : W.fld RC_STAT.TRAY_REQ) (_ : W.fld RC_STAT.WR_COUNT) (_ : W.fld SWD_STAT.PEND)
    (_ : W.fld SWD_STAT.WAIT_SLOT) (_ : W.locks {}) : KeptO W (execWdogExpiry s) := by
  unfold execWdogExpiry
  repeat' first
    | with_reducible assumption
    | (extract_lets +onlyGivenNames x
       first
       | (refine kept_cut (P := Kept W x) ?_ ?_; (on_goal 1 => subst x); (on_goal 2 => (intro _; try clear_value x)))
       | (try clear_value x))
    | (with_reducible first | apply kept_quiet | apply kept_beginRestart | apply keptO_next | (intro _; rfl))
    | (with_reducible first | apply kept_ite)
    | split | (clear_value *; split) | dsimp only

theorem kept_execEngFaultTimeout (h : Kept W s) (_ : W.part .bg) (_ : W.part .cad) (_ : W.part .car) (_ : W.part .cmd)
    (_ : W.part .emit) (_ : W.part .eng) (_ : W.part .free) (_ : W.part .fw) (_ : W.part .log) (_ : W.part .pel)
    (_ : W.part .rc) (_ : W.part .rim) (_ : W.part .tasks) (_ : Logs W) (_ : W.fld (Evt.st .CAR_ROLE_CHANGE))
    (_ : W.fld (Evt.st .FW_HSNAP)) (_ : W.fld (Evt.st .RC_TRAY_REQ)) (_ : W.fld (Evt.st .RIM_CANCELLED))
    (_ : W.fld BG_HINT_STAT.ACTIVE) (_ : W.fld BG_HINT_STAT.HELD) (_ : W.fld BG_SECT.HINT) (_ : W.fld CAR_LEASE.LEFT)
    (_ : W.fld CAR_STAT.LEASE_VALID) (_ : W.fld CAR_STAT.ROLE) (_ : W.fld DOM_AGE.AGE) (_ : W.fld DOM_STAT.PENDING)
    (_ : W.fld DOM_STAT.PROMOTED) (_ : W.fld ENG_CAND.CAP) (_ : W.fld ENG_CAND.CUR) (_ : W.fld ENG_CAND.THM)
    (_ : W.fld ENG_LCAND.LINK8) (_ : W.fld ENG_LCAND.LINK9) (_ : W.fld ENG_LCAND.STACK) (_ : W.fld ENG_SEL.LNK)
    (_ : W.fld ENG_SEL.SEC) (_ : W.fld ENG_SEL.STK) (_ : W.fld ENG_STAT.INACT_VALID) (_ : W.fld ENG_STAT.STATE)
    (_ : W.fld FW_SLOT_A.GEN) (_ : W.fld FW_SLOT_A.STATE) (_ : W.fld FW_SLOT_B.GEN) (_ : W.fld FW_SLOT_B.STATE)
    (_ : W.fld FW_STAT.ACTIVE) (_ : W.fld FW_STAT.GEN) (_ : W.fld FW_STAT.NO_FW) (_ : W.fld FW_STAT.TENTATIVE)
    (_ : W.fld GSTAT.HOLDOVER) (_ : W.fld GSTAT.READY) (_ : W.fld HS_CTRL.FROZEN) (_ : W.fld HS_CTRL.MISSED)
    (_ : W.fld HS_W.WORD) (_ : W.fld PEL_OFS.OFS) (_ : W.fld PEL_STAT.OFS_VALID) (_ : W.fld PEL_STAT.ROOT)
    (_ : W.fld RC_CNT.POWER) (_ : W.fld RC_CNT.WARM) (_ : W.fld RC_ERRCODE.CODE) (_ : W.fld RC_ERRLAST.CODE)
    (_ : W.fld RC_ERR_TICK.TICK) (_ : W.fld RC_STAT.HOLDOVER) (_ : W.fld RC_STAT.LADDER) (_ : W.fld RC_STAT.PWR_HELD)
    (_ : W.fld RC_STAT.STEP_PART) (_ : W.fld RC_STAT.TRAY_REQ) (_ : W.fld RC_STAT.WR_COUNT) (_ : W.fld SWD_STAT.PEND)
    (_ : W.fld SWD_STAT.WAIT_SLOT) (_ : W.locks {}) : KeptO W (execEngFaultTimeout s) := by
  unfold execEngFaultTimeout
  repeat' first
    | with_reducible assumption
    | (extract_lets +onlyGivenNames x
       first
       | (refine kept_cut (P := Kept W x) ?_ ?_; (on_goal 1 => subst x); (on_goal 2 => (intro _; try clear_value x)))
       | (try clear_value x))
    | (with_reducible first | apply kept_quiet | apply kept_beginRestart | apply keptO_next | (intro _; rfl))
    | (with_reducible first | apply kept_ite)
    | split | (clear_value *; split) | dsimp only

theorem kept_execHubFaultEsc (h : Kept W s) (_ : W.part .bg) (_ : W.part .cad) (_ : W.part .car) (_ : W.part .cmd)
    (_ : W.part .emit) (_ : W.part .eng) (_ : W.part .free) (_ : W.part .fw) (_ : W.part .log) (_ : W.part .pel)
    (_ : W.part .rc) (_ : W.part .rim) (_ : W.part .tasks) (_ : Logs W) (_ : W.fld (Evt.st .CAD_HUB_FAULT_ESC))
    (_ : W.fld (Evt.st .CAR_ROLE_CHANGE)) (_ : W.fld (Evt.st .FW_HSNAP)) (_ : W.fld (Evt.st .RC_TRAY_REQ))
    (_ : W.fld (Evt.st .RIM_CANCELLED)) (_ : W.fld BG_HINT_STAT.ACTIVE) (_ : W.fld BG_HINT_STAT.HELD)
    (_ : W.fld BG_SECT.HINT) (_ : W.fld CAR_LEASE.LEFT) (_ : W.fld CAR_STAT.LEASE_VALID) (_ : W.fld CAR_STAT.ROLE)
    (_ : W.fld DOM_AGE.AGE) (_ : W.fld DOM_STAT.PENDING) (_ : W.fld DOM_STAT.PROMOTED) (_ : W.fld ENG_CAND.CAP)
    (_ : W.fld ENG_CAND.CUR) (_ : W.fld ENG_CAND.THM) (_ : W.fld ENG_LCAND.LINK8) (_ : W.fld ENG_LCAND.LINK9)
    (_ : W.fld ENG_LCAND.STACK) (_ : W.fld ENG_SEL.LNK) (_ : W.fld ENG_SEL.SEC) (_ : W.fld ENG_SEL.STK)
    (_ : W.fld ENG_STAT.INACT_VALID) (_ : W.fld ENG_STAT.STATE) (_ : W.fld FW_SLOT_A.GEN) (_ : W.fld FW_SLOT_A.STATE)
    (_ : W.fld FW_SLOT_B.GEN) (_ : W.fld FW_SLOT_B.STATE) (_ : W.fld FW_STAT.ACTIVE) (_ : W.fld FW_STAT.GEN)
    (_ : W.fld FW_STAT.NO_FW) (_ : W.fld FW_STAT.TENTATIVE) (_ : W.fld GSTAT.HOLDOVER) (_ : W.fld GSTAT.READY)
    (_ : W.fld HS_CTRL.FROZEN) (_ : W.fld HS_CTRL.MISSED) (_ : W.fld HS_W.WORD) (_ : W.fld PEL_OFS.OFS)
    (_ : W.fld PEL_STAT.OFS_VALID) (_ : W.fld PEL_STAT.ROOT) (_ : W.fld RC_CNT.POWER) (_ : W.fld RC_CNT.WARM)
    (_ : W.fld RC_ERRCODE.CODE) (_ : W.fld RC_ERRLAST.CODE) (_ : W.fld RC_ERR_TICK.TICK) (_ : W.fld RC_STAT.HOLDOVER)
    (_ : W.fld RC_STAT.LADDER) (_ : W.fld RC_STAT.PWR_HELD) (_ : W.fld RC_STAT.STEP_PART) (_ : W.fld RC_STAT.TRAY_REQ)
    (_ : W.fld RC_STAT.WR_COUNT) (_ : W.fld SWD_STAT.PEND) (_ : W.fld SWD_STAT.WAIT_SLOT) (_ : W.locks {}) :
    KeptO W (execHubFaultEsc s) := by
  unfold execHubFaultEsc
  repeat' first
    | with_reducible assumption
    | (extract_lets +onlyGivenNames x
       first
       | (refine kept_cut (P := Kept W x) ?_ ?_; (on_goal 1 => subst x); (on_goal 2 => (intro _; try clear_value x)))
       | (try clear_value x))
    | (with_reducible first | apply kept_quiet | apply kept_raise | apply kept_beginRestart | apply keptO_next)
    | (with_reducible first | (intro _; rfl) | apply kept_ite)
    | (intro _ _ _ _; try beta_reduce) | (intro _ _ _; try beta_reduce) | (intro _ _; try beta_reduce)
    | split | (clear_value *; split) | dsimp only

theorem kept_execGovRstNFall (h : Kept W s) (_ : W.part .bg) (_ : W.part .cad) (_ : W.part .car) (_ : W.part .cmd)
    (_ : W.part .emit) (_ : W.part .eng) (_ : W.part .free) (_ : W.part .fw) (_ : W.part .log) (_ : W.part .pel)
    (_ : W.part .rc) (_ : W.part .rim) (_ : W.part .tasks) (_ : Logs W) (_ : W.fld (Evt.st .CAR_ROLE_CHANGE))
    (_ : W.fld (Evt.st .FW_HSNAP)) (_ : W.fld (Evt.st .RC_TRAY_REQ)) (_ : W.fld (Evt.st .RIM_CANCELLED))
    (_ : W.fld BG_HINT_STAT.ACTIVE) (_ : W.fld BG_HINT_STAT.HELD) (_ : W.fld BG_SECT.HINT) (_ : W.fld CAR_LEASE.LEFT)
    (_ : W.fld CAR_STAT.LEASE_VALID) (_ : W.fld CAR_STAT.ROLE) (_ : W.fld DOM_AGE.AGE) (_ : W.fld DOM_STAT.PENDING)
    (_ : W.fld DOM_STAT.PROMOTED) (_ : W.fld ENG_CAND.CAP) (_ : W.fld ENG_CAND.CUR) (_ : W.fld ENG_CAND.THM)
    (_ : W.fld ENG_LCAND.LINK8) (_ : W.fld ENG_LCAND.LINK9) (_ : W.fld ENG_LCAND.STACK) (_ : W.fld ENG_SEL.LNK)
    (_ : W.fld ENG_SEL.SEC) (_ : W.fld ENG_SEL.STK) (_ : W.fld ENG_STAT.INACT_VALID) (_ : W.fld ENG_STAT.STATE)
    (_ : W.fld FW_SLOT_A.GEN) (_ : W.fld FW_SLOT_A.STATE) (_ : W.fld FW_SLOT_B.GEN) (_ : W.fld FW_SLOT_B.STATE)
    (_ : W.fld FW_STAT.ACTIVE) (_ : W.fld FW_STAT.GEN) (_ : W.fld FW_STAT.NO_FW) (_ : W.fld FW_STAT.TENTATIVE)
    (_ : W.fld GSTAT.HOLDOVER) (_ : W.fld GSTAT.READY) (_ : W.fld HS_CTRL.FROZEN) (_ : W.fld HS_CTRL.MISSED)
    (_ : W.fld HS_W.WORD) (_ : W.fld PEL_OFS.OFS) (_ : W.fld PEL_STAT.OFS_VALID) (_ : W.fld PEL_STAT.ROOT)
    (_ : W.fld RC_CNT.POWER) (_ : W.fld RC_CNT.WARM) (_ : W.fld RC_ERRCODE.CODE) (_ : W.fld RC_ERRLAST.CODE)
    (_ : W.fld RC_ERR_TICK.TICK) (_ : W.fld RC_STAT.HOLDOVER) (_ : W.fld RC_STAT.LADDER) (_ : W.fld RC_STAT.PWR_HELD)
    (_ : W.fld RC_STAT.STEP_PART) (_ : W.fld RC_STAT.TRAY_REQ) (_ : W.fld RC_STAT.WR_COUNT) (_ : W.fld SWD_STAT.PEND)
    (_ : W.fld SWD_STAT.WAIT_SLOT) (_ : W.locks {}) : KeptO W (execGovRstNFall s) := by
  unfold execGovRstNFall
  repeat' first
    | with_reducible assumption
    | (extract_lets +onlyGivenNames x
       first
       | (refine kept_cut (P := Kept W x) ?_ ?_; (on_goal 1 => subst x); (on_goal 2 => (intro _; try clear_value x)))
       | (try clear_value x))
    | (with_reducible first | apply kept_quiet | apply kept_setRc | apply kept_beginRestart | apply keptO_next)
    | (with_reducible first | (intro _; rfl) | apply kept_ite)
    | (intro _ _ _ _; try beta_reduce) | (intro _ _ _; try beta_reduce) | (intro _ _; try beta_reduce)
    | split | (clear_value *; split) | dsimp only

theorem kept_execGovRstNRise (h : Kept W s) (_ : W.part .emit) (_ : W.part .rc) : KeptO W (execGovRstNRise s) := by
  unfold execGovRstNRise
  repeat' first
    | with_reducible assumption
    | (extract_lets +onlyGivenNames x
       first
       | (refine kept_cut (P := Kept W x) ?_ ?_; (on_goal 1 => subst x); (on_goal 2 => (intro _; try clear_value x)))
       | (try clear_value x))
    | (with_reducible first | apply kept_setRc | apply kept_quiet | apply keptO_next | (intro _; rfl))
    | (with_reducible first | apply kept_ite)
    | split | (clear_value *; split) | dsimp only

theorem kept_actAbort {a1 : List Nat} (h : Kept W s) (_ : W.part .bus) (_ : Logs W)
    (_ : W.fld (Evt.st .RC_PEER_ABORT)) (_ : W.fld OMB_STAT.DROP) (_ : W.fld OMB_STAT.QUEUED)
    (_ : W.fld RC_PEER_ABORT.CODE) (_ : W.fld RC_PEER_SRC.CARRIER) (_ : W.fld RC_PEER_SRC.DIE) :
    Kept W (State.actAbort a1 s) := by
  unfold State.actAbort
  repeat' first
    | with_reducible assumption
    | (extract_lets +onlyGivenNames x
       first
       | (refine kept_cut (P := Kept W x) ?_ ?_; (on_goal 1 => subst x); (on_goal 2 => (intro _; try clear_value x)))
       | (try clear_value x))
    | (with_reducible first | apply kept_wr | apply kept_post | apply kept_raiseLog | (intro _; rfl))
    | (with_reducible first | apply kept_ite)
    | split | (clear_value *; split) | dsimp only

theorem kept_execAbort {a1 : List Nat} (h : Kept W s) (_ : W.part .bus) (_ : W.part .car) (_ : W.part .emit)
    (_ : W.part .free) (_ : Logs W) (_ : W.fld (Evt.st .RC_PEER_ABORT)) (_ : W.fld CAR_ERR.CRC)
    (_ : W.fld CAR_ERR.STALE) (_ : W.fld CAR_RXMSG.MSGS) (_ : W.fld OMB_STAT.DROP) (_ : W.fld OMB_STAT.QUEUED)
    (_ : W.fld RC_PEER_ABORT.CODE) (_ : W.fld RC_PEER_SRC.CARRIER) (_ : W.fld RC_PEER_SRC.DIE) :
    KeptO W (execAbort a1 s) := by
  unfold execAbort
  repeat' first
    | with_reducible assumption
    | (extract_lets +onlyGivenNames x
       first
       | (refine kept_cut (P := Kept W x) ?_ ?_; (on_goal 1 => subst x); (on_goal 2 => (intro _; try clear_value x)))
       | (refine kept_cut (P := Kept2 W x) ?_ ?_; (on_goal 1 => subst x); (on_goal 2 => (intro _; try clear_value x)))
       | (try clear_value x))
    | (with_reducible first | apply kept_quiet | apply kept_takeFree | apply kept_sidebandIn | apply kept_actAbort)
    | (with_reducible first | apply keptO_next | apply kept2_mk | (apply kept2_snd; assumption))
    | (with_reducible first | (apply kept2_snd; apply kept_takeFree) | refine kept_of2 (by assumption) ?_)
    | (with_reducible first | (intro _; rfl) | apply kept_ite)
    | (intro _ _ _ _; try beta_reduce) | (intro _ _ _; try beta_reduce) | (intro _ _; try beta_reduce)
    | split | (clear_value *; split) | dsimp only

theorem kept_rcBoundary (h : Kept W s) (_ : W.part .cmd) (_ : W.part .emit) (_ : W.part .mg) (_ : W.part .rc)
    (_ : W.part .rim) (_ : W.part .spk) (_ : Logs W) (_ : W.fld (Evt.st .MG_CL_RETIRED))
    (_ : W.fld (Evt.st .MG_OTP_FULL)) (_ : W.fld (Evt.st .RIM_FORCED_OFF)) (_ : W.fld CORE_FENCE.FENCE)
    (_ : W.fld CORE_GATE.GATE) (_ : W.fld CORE_RST.RST) (_ : W.fld MG_CL.RET_CORES) (_ : W.fld MG_CL.STATE)
    (_ : W.fld MG_OTP.FREE) (_ : W.fld MG_OTP.USED) (_ : W.fld MG_STAT.FENCE_WAIT) (_ : W.fld MG_STAT.OTP_FULL)
    (_ : W.fld MG_STAT.RETIRED) (_ : W.fld MG_STAT.WORN) (_ : W.fld OMB_STAT.AWAIT) (_ : W.fld RC_CLR.ERR)
    (_ : W.fld RC_ERRCODE.CODE) (_ : W.fld RC_ERRLAST.CODE) (_ : W.fld RC_ERR_TICK.TICK)
    (_ : W.fld RC_STAT.DIE_RECENT) (_ : W.fld RC_STAT.HB_AGE) (_ : W.fld RC_STAT.WR_COUNT) (_ : W.fld RC_WDOG.AGE)
    (_ : W.fld REST_MASK.WAKE) (_ : W.fld RG_STAT.RAMPS) (_ : W.fld RIM_STAT.COOL_STOP) (_ : W.fld SWD_STAT.FORCED)
    (_ : W.fld SWD_STAT.PEND) (_ : W.fld SWD_STAT.WAIT_SLOT) (_ : W.fld TH_STAT.OTP_PEND)
    (_ : W.fld TH_WR_CNT.DEFERRED) (_ : W.fld TH_WR_CNT.SUPERSEDED) : Kept W (State.rcBoundary s) := by
  unfold State.rcBoundary
  repeat' first
    | with_reducible assumption
    | (extract_lets +onlyGivenNames x
       first
       | (refine kept_cut (P := Kept W x) ?_ ?_; (on_goal 1 => subst x); (on_goal 2 => (intro _; try clear_value x)))
       | (try clear_value x))
    | (with_reducible first | apply kept_wr | apply kept_setRc | apply kept_releaseHeld | apply kept_sequence)
    | (with_reducible first | (intro _; rfl) | apply kept_ite)
    | (intro _ _ _ _; try beta_reduce) | (intro _ _ _; try beta_reduce) | (intro _ _; try beta_reduce)
    | split | (clear_value *; split) | dsimp only

end Sys2Proof.Machine
end

