-- ==== Sys2Proof/Laws/KeptMeter.lean ====
section
/-! SUPPORT. What the operations of `Meter.lean` keep (see `Kept.lean`). -/

set_option linter.unusedVariables false
set_option linter.unusedTactic false
set_option linter.unreachableTactic false
set_option linter.tactic.unusedName false

namespace Sys2Proof.Machine

variable {W : Bounds} {s : State}

theorem kept_meter {f : Mtr → Mtr} (h : Kept W s) (_ : W.part .emit) (_ : W.part .mtr) : Kept W (s.meter f) := by
  unfold State.meter
  exact kept_foldl (kept_setMtr h ‹_›) (fun _ _ hb => kept_drive hb ‹_›)

theorem kept_meterAmps {a2 : Nat} {a3 : Int} (h : Kept W s) (_ : W.part .free) :
    Kept2 W (State.meterAmps s a2 a3) := by
  unfold State.meterAmps
  repeat' first
    | with_reducible assumption
    | (extract_lets +onlyGivenNames x
       first
       | (refine kept_cut (P := Kept W x) ?_ ?_; (on_goal 1 => subst x); (on_goal 2 => (intro _; try clear_value x)))
       | (refine kept_cut (P := Kept2 W x) ?_ ?_; (on_goal 1 => subst x); (on_goal 2 => (intro _; try clear_value x)))
       | (try clear_value x))
    | (with_reducible first | apply kept_takeFree | apply kept2_mk | (apply kept2_snd; assumption))
    | (with_reducible first | (apply kept2_snd; apply kept_takeFree) | refine kept_of2 (by assumption) ?_)
    | (with_reducible first | (intro _; rfl) | apply kept_ite)
    | split | (clear_value *; split) | dsimp only

theorem kept_execMeterSample {a1 : MeterIn} (h : Kept W s) (_ : W.part .emit) (_ : W.part .free) (_ : W.part .mtr) :
    KeptO W (execMeterSample a1 s) := by
  unfold execMeterSample
  repeat' first
    | with_reducible assumption
    | (extract_lets +onlyGivenNames x
       first
       | (refine kept_cut (P := Kept W x) ?_ ?_; (on_goal 1 => subst x); (on_goal 2 => (intro _; try clear_value x)))
       | (refine kept_cut (P := Kept2 W x) ?_ ?_; (on_goal 1 => subst x); (on_goal 2 => (intro _; try clear_value x)))
       | (try clear_value x))
    | (with_reducible first | apply kept_quiet | apply kept_meterAmps | apply kept_meter | apply keptO_next)
    | (with_reducible first | apply kept2_mk | (apply kept2_snd; assumption))
    | (with_reducible first | (apply kept2_snd; apply kept_meterAmps) | refine kept_of2 (by assumption) ?_)
    | (with_reducible first | (intro _; rfl) | apply kept_ite)
    | (intro _ _ _ _; try beta_reduce) | (intro _ _ _; try beta_reduce) | (intro _ _; try beta_reduce)
    | split | (clear_value *; split) | dsimp only

theorem kept_execMeterWindow {a1 : Nat} (h : Kept W s) (_ : W.part .emit) (_ : W.part .mtr) :
    KeptO W (execMeterWindow a1 s) := by
  unfold execMeterWindow
  repeat' first
    | with_reducible assumption
    | (extract_lets +onlyGivenNames x
       first
       | (refine kept_cut (P := Kept W x) ?_ ?_; (on_goal 1 => subst x); (on_goal 2 => (intro _; try clear_value x)))
       | (try clear_value x))
    | (with_reducible first | apply kept_quiet | apply kept_meter | apply keptO_next | (intro _; rfl))
    | (with_reducible first | apply kept_ite)
    | (intro _ _ _ _; try beta_reduce) | (intro _ _ _; try beta_reduce) | (intro _ _; try beta_reduce)
    | split | (clear_value *; split) | dsimp only

theorem kept_meterMean {a2 : Int} {a3 : Nat} {a4 : Nat} {a5 : Nat} (h : Kept W s) (_ : W.part .free) :
    Kept2 W (State.meterMean s a2 a3 a4 a5) := by
  unfold State.meterMean
  repeat' first
    | with_reducible assumption
    | (extract_lets +onlyGivenNames x
       first
       | (refine kept_cut (P := Kept W x) ?_ ?_; (on_goal 1 => subst x); (on_goal 2 => (intro _; try clear_value x)))
       | (refine kept_cut (P := Kept2 W x) ?_ ?_; (on_goal 1 => subst x); (on_goal 2 => (intro _; try clear_value x)))
       | (try clear_value x))
    | (with_reducible first | apply kept_takeFree | apply kept2_mk | (apply kept2_snd; assumption))
    | (with_reducible first | (apply kept2_snd; apply kept_takeFree) | refine kept_of2 (by assumption) ?_)
    | (with_reducible first | (intro _; rfl) | apply kept_ite)
    | split | (clear_value *; split) | dsimp only

theorem kept_execMeterPublish (h : Kept W s) (_ : W.part .emit) (_ : W.part .free) (_ : W.part .mtr) :
    KeptO W (execMeterPublish s) := by
  unfold execMeterPublish
  repeat' first
    | with_reducible assumption
    | (extract_lets +onlyGivenNames x
       first
       | (refine kept_cut (P := Kept W x) ?_ ?_; (on_goal 1 => subst x); (on_goal 2 => (intro _; try clear_value x)))
       | (refine kept_cut (P := Kept2 W x) ?_ ?_; (on_goal 1 => subst x); (on_goal 2 => (intro _; try clear_value x)))
       | (try clear_value x))
    | (with_reducible first | apply kept_quiet | apply kept_meterMean | apply kept_meter | apply kept_drive)
    | (with_reducible first | apply kept_setMtr | apply keptO_next | apply kept2_mk | (apply kept2_snd; assumption))
    | (with_reducible first | (apply kept2_snd; apply kept_meterMean) | refine kept_of2 (by assumption) ?_)
    | (with_reducible first | (intro _; rfl) | apply kept_ite)
    | (intro _ _ _ _; try beta_reduce) | (intro _ _ _; try beta_reduce) | (intro _ _; try beta_reduce)
    | split | (clear_value *; split) | dsimp only

theorem kept_execMeterCheckpoint (h : Kept W s) (_ : W.part .emit) (_ : W.part .mtr) :
    KeptO W (execMeterCheckpoint s) := by
  unfold execMeterCheckpoint
  repeat' first
    | with_reducible assumption
    | (extract_lets +onlyGivenNames x
       first
       | (refine kept_cut (P := Kept W x) ?_ ?_; (on_goal 1 => subst x); (on_goal 2 => (intro _; try clear_value x)))
       | (try clear_value x))
    | (with_reducible first | apply kept_quiet | apply kept_meter | apply keptO_next | (intro _; rfl))
    | (with_reducible first | apply kept_ite)
    | (intro _ _ _ _; try beta_reduce) | (intro _ _ _; try beta_reduce) | (intro _ _; try beta_reduce)
    | split | (clear_value *; split) | dsimp only

theorem kept_execPfw (h : Kept W s) (_ : W.part .emit) (_ : W.part .mtr) : KeptO W (execPfw s) := by
  unfold execPfw
  repeat' first
    | with_reducible assumption
    | (extract_lets +onlyGivenNames x
       first
       | (refine kept_cut (P := Kept W x) ?_ ?_; (on_goal 1 => subst x); (on_goal 2 => (intro _; try clear_value x)))
       | (try clear_value x))
    | (with_reducible first | apply kept_quiet | apply kept_meter | apply keptO_next | (intro _; rfl))
    | (with_reducible first | apply kept_ite)
    | (intro _ _ _ _; try beta_reduce) | (intro _ _ _; try beta_reduce) | (intro _ _; try beta_reduce)
    | split | (clear_value *; split) | dsimp only

theorem kept_execPfwEnd (h : Kept W s) (_ : W.part .emit) (_ : W.part .mtr) : KeptO W (execPfwEnd s) := by
  unfold execPfwEnd
  repeat' first
    | with_reducible assumption
    | (extract_lets +onlyGivenNames x
       first
       | (refine kept_cut (P := Kept W x) ?_ ?_; (on_goal 1 => subst x); (on_goal 2 => (intro _; try clear_value x)))
       | (try clear_value x))
    | (with_reducible first | apply kept_quiet | apply kept_meter | apply keptO_next | (intro _; rfl))
    | (with_reducible first | apply kept_ite)
    | (intro _ _ _ _; try beta_reduce) | (intro _ _ _; try beta_reduce) | (intro _ _; try beta_reduce)
    | split | (clear_value *; split) | dsimp only

theorem kept_execVmtrLoss {a1 : Option (Nat × Nat)} (h : Kept W s) (_ : W.part .emit) (_ : W.part .mtr) :
    KeptO W (execVmtrLoss a1 s) := by
  unfold execVmtrLoss
  repeat' first
    | with_reducible assumption
    | (extract_lets +onlyGivenNames x
       first
       | (refine kept_cut (P := Kept W x) ?_ ?_; (on_goal 1 => subst x); (on_goal 2 => (intro _; try clear_value x)))
       | (try clear_value x))
    | (with_reducible first | apply kept_quiet | apply kept_setMtr | apply keptO_next | (intro _; rfl))
    | (with_reducible first | apply kept_ite)
    | (intro _ _ _ _; try beta_reduce) | (intro _ _ _; try beta_reduce) | (intro _ _; try beta_reduce)
    | split | (clear_value *; split) | dsimp only

theorem kept_execMeterPowerUp {a1 : Nat} {a2 : Option (List (Nat × List Nat))} (h : Kept W s) (_ : W.part .emit)
    (_ : W.part .free) (_ : W.part .mtr) : KeptO W (execMeterPowerUp a1 a2 s) := by
  unfold execMeterPowerUp
  repeat' first
    | with_reducible assumption
    | (extract_lets +onlyGivenNames x
       first
       | (refine kept_cut (P := Kept W x) ?_ ?_; (on_goal 1 => subst x); (on_goal 2 => (intro _; try clear_value x)))
       | (refine kept_cut (P := Kept2 W x) ?_ ?_; (on_goal 1 => subst x); (on_goal 2 => (intro _; try clear_value x)))
       | (try clear_value x))
    | (with_reducible first | apply kept_quiet | apply kept_takeFree | apply kept_meter | apply kept_foldl)
    | (with_reducible first | apply kept2_foldl | apply keptO_next | apply kept2_mk | (apply kept2_snd; assumption))
    | (with_reducible first | (apply kept2_snd; apply kept_takeFree) | refine kept_of2 (by assumption) ?_)
    | (with_reducible first | (intro _; rfl) | apply kept_ite)
    | (intro _ _ _ _; try beta_reduce) | (intro _ _ _; try beta_reduce) | (intro _ _; try beta_reduce)
    | split | (clear_value *; split) | dsimp only

theorem kept_execSealBreak (h : Kept W s) (_ : W.part .emit) (_ : W.part .mtr) : KeptO W (execSealBreak s) := by
  unfold execSealBreak
  repeat' first
    | with_reducible assumption
    | (extract_lets +onlyGivenNames x
       first
       | (refine kept_cut (P := Kept W x) ?_ ?_; (on_goal 1 => subst x); (on_goal 2 => (intro _; try clear_value x)))
       | (try clear_value x))
    | (with_reducible first | apply kept_quiet | apply kept_meter | apply keptO_next | (intro _; rfl))
    | (with_reducible first | apply kept_ite)
    | (intro _ _ _ _; try beta_reduce) | (intro _ _ _; try beta_reduce) | (intro _ _; try beta_reduce)
    | split | (clear_value *; split) | dsimp only

theorem kept_execSealRestore (h : Kept W s) (_ : W.part .emit) (_ : W.part .mtr) : KeptO W (execSealRestore s) := by
  unfold execSealRestore
  repeat' first
    | with_reducible assumption
    | (extract_lets +onlyGivenNames x
       first
       | (refine kept_cut (P := Kept W x) ?_ ?_; (on_goal 1 => subst x); (on_goal 2 => (intro _; try clear_value x)))
       | (try clear_value x))
    | (with_reducible first | apply kept_quiet | apply kept_meter | apply keptO_next | (intro _; rfl))
    | (with_reducible first | apply kept_ite)
    | (intro _ _ _ _; try beta_reduce) | (intro _ _ _; try beta_reduce) | (intro _ _; try beta_reduce)
    | split | (clear_value *; split) | dsimp only

theorem kept_execInhibitEntry (h : Kept W s) (_ : W.part .emit) (_ : W.part .mtr) : KeptO W (execInhibitEntry s) := by
  unfold execInhibitEntry
  repeat' first
    | with_reducible assumption
    | (extract_lets +onlyGivenNames x
       first
       | (refine kept_cut (P := Kept W x) ?_ ?_; (on_goal 1 => subst x); (on_goal 2 => (intro _; try clear_value x)))
       | (try clear_value x))
    | (with_reducible first | apply kept_quiet | apply kept_meter | apply keptO_next | (intro _; rfl))
    | (with_reducible first | apply kept_ite)
    | (intro _ _ _ _; try beta_reduce) | (intro _ _ _; try beta_reduce) | (intro _ _; try beta_reduce)
    | split | (clear_value *; split) | dsimp only

theorem kept_execInhibitExit (h : Kept W s) (_ : W.part .emit) (_ : W.part .mtr) : KeptO W (execInhibitExit s) := by
  unfold execInhibitExit
  repeat' first
    | with_reducible assumption
    | (extract_lets +onlyGivenNames x
       first
       | (refine kept_cut (P := Kept W x) ?_ ?_; (on_goal 1 => subst x); (on_goal 2 => (intro _; try clear_value x)))
       | (try clear_value x))
    | (with_reducible first | apply kept_quiet | apply kept_meter | apply kept_foldl | apply keptO_next)
    | (with_reducible first | (intro _; rfl) | apply kept_ite)
    | (intro _ _ _ _; try beta_reduce) | (intro _ _ _; try beta_reduce) | (intro _ _; try beta_reduce)
    | split | (clear_value *; split) | dsimp only

theorem kept_execShareCheckpoint (h : Kept W s) (_ : W.part .bg) (_ : W.part .cad) (_ : W.part .emit)
    (_ : W.part .mir) (_ : W.part .tasks) (_ : Logs W) (_ : W.fld (Evt.st .CAD_LATE)) (_ : W.fld CAD_DEFER_CNT.LATE) :
    KeptO W (execShareCheckpoint s) := by
  unfold execShareCheckpoint
  repeat' first
    | with_reducible assumption
    | (extract_lets +onlyGivenNames x
       first
       | (refine kept_cut (P := Kept W x) ?_ ?_; (on_goal 1 => subst x); (on_goal 2 => (intro _; try clear_value x)))
       | (try clear_value x))
    | (with_reducible first | apply kept_quiet | apply kept_takeEvent | apply kept_setMir | apply kept_setBg)
    | (with_reducible first | apply kept_foldl | apply keptO_next | refine kept_ofSome (by assumption) ?_)
    | (with_reducible first | (intro _; rfl) | apply kept_ite)
    | (intro _ _ _ _; try beta_reduce) | (intro _ _ _; try beta_reduce) | (intro _ _; try beta_reduce)
    | split | (clear_value *; split) | dsimp only

theorem kept_execShareRecord (h : Kept W s) (_ : W.part .emit) (_ : W.part .mtr) :
    KeptO W (execShareRecord s) := by
  unfold execShareRecord
  repeat' first
    | with_reducible assumption
    | (extract_lets +onlyGivenNames x
       first
       | (refine kept_cut (P := Kept W x) ?_ ?_; (on_goal 1 => subst x); (on_goal 2 => (intro _; try clear_value x)))
       | (try clear_value x))
    | (with_reducible first | apply kept_quiet | apply kept_meter | apply keptO_next | (intro _; rfl))
    | (with_reducible first | apply kept_ite)
    | (intro _ _ _ _; try beta_reduce) | (intro _ _ _; try beta_reduce) | (intro _ _; try beta_reduce)
    | split | (clear_value *; split) | dsimp only

theorem kept_execPublication {a1 : List Nat} (h : Kept W s) (_ : W.part .emit) (_ : W.part .mir)
    (_ : W.fld MTR_MISS.CRC) (_ : W.fld MTR_MISS.MISSING) : KeptO W (execPublication a1 s) := by
  unfold execPublication
  repeat' first
    | with_reducible assumption
    | (extract_lets +onlyGivenNames x
       first
       | (refine kept_cut (P := Kept W x) ?_ ?_; (on_goal 1 => subst x); (on_goal 2 => (intro _; try clear_value x)))
       | (try clear_value x))
    | (with_reducible first | apply kept_quiet | apply kept_wr | apply kept_setMir | apply kept_inc)
    | (with_reducible first | apply keptO_next | (intro _; rfl) | apply kept_ite)
    | split | (clear_value *; split) | dsimp only

theorem kept_execPublicationMissing (h : Kept W s) (_ : W.part .emit) (_ : W.part .mir) (_ : Logs W)
    (_ : W.fld (Evt.st .MTR_MISSING)) (_ : W.fld MTR_MISS.MISSING) (_ : W.fld MTR_STAT.MISSING) :
    KeptO W (execPublicationMissing s) := by
  unfold execPublicationMissing
  repeat' first
    | with_reducible assumption
    | (extract_lets +onlyGivenNames x
       first
       | (refine kept_cut (P := Kept W x) ?_ ?_; (on_goal 1 => subst x); (on_goal 2 => (intro _; try clear_value x)))
       | (try clear_value x))
    | (with_reducible first | apply kept_quiet | apply kept_setMir | apply kept_wr | apply kept_inc)
    | (with_reducible first | apply kept_raise | apply keptO_next | (intro _; rfl) | apply kept_ite)
    | split | (clear_value *; split) | dsimp only

theorem kept_mirrorFlag {a2 : Fld} {a3 : Bool} {a4 : Bool} {a5 : Evt} (h : Kept W s) (_ : Logs W) (_ : W.fld a5.st)
    (_ : W.fld a2) : Kept W (State.mirrorFlag s a2 a3 a4 a5) := by
  unfold State.mirrorFlag
  repeat' first
    | with_reducible assumption
    | (extract_lets +onlyGivenNames x
       first
       | (refine kept_cut (P := Kept W x) ?_ ?_; (on_goal 1 => subst x); (on_goal 2 => (intro _; try clear_value x)))
       | (try clear_value x))
    | (with_reducible first | apply kept_wrB | apply kept_raise | (intro _; rfl) | apply kept_ite)
    | split | (clear_value *; split) | dsimp only

theorem kept_mirrorBoundary (h : Kept W s) (_ : W.part .em) (_ : W.part .mir) (_ : Logs W)
    (_ : W.fld (Evt.st .MTR_FAULT)) (_ : W.fld (Evt.st .MTR_GAP)) (_ : W.fld (Evt.st .MTR_SEAL_OPEN))
    (_ : W.fld (Evt.st .MTR_SHARE_TOL)) (_ : W.fld (Evt.st .MTR_SHARE_UNATT)) (_ : W.fld (Evt.st .MTR_UNCAL))
    (_ : W.fld (Evt.st .MTR_WR_INHIBIT)) (_ : W.fld MTR_E.E_IN) (_ : W.fld MTR_IP.I_MEAN) (_ : W.fld MTR_IP.P_MEAN)
    (_ : W.fld MTR_PSEQ.PSEQ) (_ : W.fld MTR_ROMCRC.ROMCRC) (_ : W.fld MTR_SEAL.BREAKS) (_ : W.fld MTR_SEAL.CAL_GEN)
    (_ : W.fld MTR_SERIAL.SERIAL) (_ : W.fld MTR_SHARE.CKSEQ) (_ : W.fld MTR_SHARE.RES) (_ : W.fld MTR_STAT.FAULT)
    (_ : W.fld MTR_STAT.GAP) (_ : W.fld MTR_STAT.MISSING) (_ : W.fld MTR_STAT.PFW) (_ : W.fld MTR_STAT.ROM_FAULT)
    (_ : W.fld MTR_STAT.SEAL_OPEN) (_ : W.fld MTR_STAT.UNCAL) (_ : W.fld MTR_STAT.VALID) (_ : W.fld MTR_STAT.WR_OK)
    (_ : W.fld MTR_V.V_MEAN) (_ : W.fld TH_STAT.METER_WR_OK) : Kept W (State.mirrorBoundary s) := by
  unfold State.mirrorBoundary
  repeat' first
    | with_reducible assumption
    | (extract_lets +onlyGivenNames x
       first
       | (refine kept_cut (P := Kept W x) ?_ ?_; (on_goal 1 => subst x); (on_goal 2 => (intro _; try clear_value x)))
       | (try clear_value x))
    | (with_reducible first | apply kept_setMir | apply kept_wrB | apply kept_raise | apply kept_mirrorFlag)
    | (with_reducible first | apply kept_wr | apply kept_fitPublication | (intro _; rfl) | apply kept_ite)
    | split | (clear_value *; split) | dsimp only

theorem kept_meterAnswer {a2 : Nat} {a3 : List Nat} {a4 : State → List Nat → Nat × List Nat × State} (h : Kept W s)
    (k4 : ∀ x l0, Kept W x → Kept3 W (a4 x l0)) (_ : W.part .emit) : Kept W (State.meterAnswer s a2 a3 a4) := by
  unfold State.meterAnswer
  repeat' first
    | with_reducible assumption
    | (extract_lets +onlyGivenNames x
       first
       | (refine kept_cut (P := Kept W x) ?_ ?_; (on_goal 1 => subst x); (on_goal 2 => (intro _; try clear_value x)))
       | (refine kept_cut (P := Kept2 W x) ?_ ?_; (on_goal 1 => subst x); (on_goal 2 => (intro _; try clear_value x)))
       | (refine kept_cut (P := Kept3 W x) ?_ ?_; (on_goal 1 => subst x); (on_goal 2 => (intro _; try clear_value x)))
       | (try clear_value x))
    | (with_reducible first | apply kept_drive | apply k4 | apply kept2_mk | apply kept3_mk)
    | (with_reducible first | (apply kept2_snd; assumption) | (apply kept3_snd; assumption))
    | (with_reducible first | (apply kept3_snd; apply k4) | refine kept_of2 (by assumption) ?_)
    | (with_reducible first | refine kept_of3 (by assumption) ?_ | (intro _; rfl) | apply kept_ite)
    | (intro _ _ _ _; try beta_reduce) | (intro _ _ _; try beta_reduce) | (intro _ _; try beta_reduce)
    | split | (clear_value *; split) | dsimp only

theorem kept_meterServe {op n : Nat} {act : State → List Nat → Nat × List Nat × State} (h : Kept W s)
    (k : ∀ x l0, Kept W x → Kept3 W (act x l0)) (_ : W.part .emit) (_ : W.part .mtr) :
    Kept W (State.meterServe op act n s) := by
  induction n generalizing s with
  | zero => exact h
  | succ n ih =>
    unfold State.meterServe
    split
    · exact kept_setMtr h ‹_›
    · exact ih (kept_setMtr h ‹_›)
    · exact ih (kept_setMtr h ‹_›)
    · split
      · exact h
      · exact ih (kept_meterAnswer (kept_setMtr h ‹_›) k ‹_›)

theorem kept_meterPort {a2 : Nat} {a3 : List Nat} {a4 : State → List Nat → Nat × List Nat × State} (h : Kept W s)
    (k4 : ∀ x l0, Kept W x → Kept3 W (a4 x l0)) (_ : W.part .emit) (_ : W.part .mtr) :
    Kept W (State.meterPort s a2 a3 a4) := by
  unfold State.meterPort
  repeat' first
    | with_reducible assumption
    | (extract_lets +onlyGivenNames x
       first
       | (refine kept_cut (P := Kept W x) ?_ ?_; (on_goal 1 => subst x); (on_goal 2 => (intro _; try clear_value x)))
       | (refine kept_cut (P := Kept3 W x) ?_ ?_; (on_goal 1 => subst x); (on_goal 2 => (intro _; try clear_value x)))
       | (try clear_value x))
    | (with_reducible first | apply kept_setMtr | apply kept_meterServe | apply k4 | apply kept3_mk)
    | (with_reducible first | (apply kept3_snd; assumption) | (apply kept3_snd; apply k4))
    | (with_reducible first | refine kept_of3 (by assumption) ?_ | (intro _; rfl) | apply kept_ite)
    | (intro _ _ _ _; try beta_reduce) | (intro _ _ _; try beta_reduce) | (intro _ _; try beta_reduce)
    | split | (clear_value *; split) | dsimp only

theorem kept_execMeterPortByteGap (h : Kept W s) (_ : W.part .emit) (_ : W.part .mtr) :
    KeptO W (execMeterPortByteGap s) := by
  unfold execMeterPortByteGap
  repeat' first
    | with_reducible assumption
    | (extract_lets +onlyGivenNames x
       first
       | (refine kept_cut (P := Kept W x) ?_ ?_; (on_goal 1 => subst x); (on_goal 2 => (intro _; try clear_value x)))
       | (try clear_value x))
    | (with_reducible first | apply kept_setMtr | apply kept_quiet | apply keptO_next | (intro _; rfl))
    | (with_reducible first | apply kept_ite)
    | split | (clear_value *; split) | dsimp only

theorem kept_actMeterIdent {a2 : List Nat} (h : Kept W s) : Kept3 W (actMeterIdent s a2) := by
  unfold actMeterIdent
  repeat' first
    | with_reducible assumption
    | (extract_lets +onlyGivenNames x
       first
       | (refine kept_cut (P := Kept W x) ?_ ?_; (on_goal 1 => subst x); (on_goal 2 => (intro _; try clear_value x)))
       | (try clear_value x))
    | (with_reducible first | apply kept3_mk | (intro _; rfl) | apply kept_ite)
    | split | (clear_value *; split) | dsimp only

theorem kept_actMeterRead {a2 : List Nat} (h : Kept W s) : Kept3 W (actMeterRead s a2) := by
  unfold actMeterRead
  repeat' first
    | with_reducible assumption
    | (extract_lets +onlyGivenNames x
       first
       | (refine kept_cut (P := Kept W x) ?_ ?_; (on_goal 1 => subst x); (on_goal 2 => (intro _; try clear_value x)))
       | (try clear_value x))
    | (with_reducible first | apply kept3_mk | (intro _; rfl) | apply kept_ite)
    | split | (clear_value *; split) | dsimp only

theorem kept_actMeterAccount {a2 : List Nat} (h : Kept W s) : Kept3 W (actMeterAccount s a2) := by
  unfold actMeterAccount
  repeat' first
    | with_reducible assumption
    | (extract_lets +onlyGivenNames x
       first
       | (refine kept_cut (P := Kept W x) ?_ ?_; (on_goal 1 => subst x); (on_goal 2 => (intro _; try clear_value x)))
       | (try clear_value x))
    | (with_reducible first | apply kept3_mk | (intro _; rfl) | apply kept_ite)
    | split | (clear_value *; split) | dsimp only

theorem kept_actMeterEvent {a2 : List Nat} (h : Kept W s) : Kept3 W (actMeterEvent s a2) := by
  unfold actMeterEvent
  repeat' first
    | with_reducible assumption
    | (extract_lets +onlyGivenNames x
       first
       | (refine kept_cut (P := Kept W x) ?_ ?_; (on_goal 1 => subst x); (on_goal 2 => (intro _; try clear_value x)))
       | (try clear_value x))
    | (with_reducible first | apply kept3_mk | (intro _; rfl) | apply kept_ite)
    | split | (clear_value *; split) | dsimp only

theorem kept_actCalWrite {a2 : List Nat} (h : Kept W s) (_ : W.part .mtr) : Kept3 W (actCalWrite s a2) := by
  unfold actCalWrite
  repeat' first
    | with_reducible assumption
    | (extract_lets +onlyGivenNames x
       first
       | (refine kept_cut (P := Kept W x) ?_ ?_; (on_goal 1 => subst x); (on_goal 2 => (intro _; try clear_value x)))
       | (try clear_value x))
    | (with_reducible first | apply kept_setMtr | apply kept3_mk | (intro _; rfl) | apply kept_ite)
    | split | (clear_value *; split) | dsimp only

theorem kept_actCalCommit {a2 : List Nat} (h : Kept W s) (_ : W.part .emit) (_ : W.part .mtr) :
    Kept3 W (actCalCommit s a2) := by
  unfold actCalCommit
  repeat' first
    | with_reducible assumption
    | (extract_lets +onlyGivenNames x
       first
       | (refine kept_cut (P := Kept W x) ?_ ?_; (on_goal 1 => subst x); (on_goal 2 => (intro _; try clear_value x)))
       | (refine kept_cut (P := Kept3 W x) ?_ ?_; (on_goal 1 => subst x); (on_goal 2 => (intro _; try clear_value x)))
       | (try clear_value x))
    | (with_reducible first | apply kept_meter | apply kept3_mk | (apply kept3_snd; assumption))
    | (with_reducible first | refine kept_of3 (by assumption) ?_ | (intro _; rfl) | apply kept_ite)
    | (intro _ _ _ _; try beta_reduce) | (intro _ _ _; try beta_reduce) | (intro _ _; try beta_reduce)
    | split | (clear_value *; split) | dsimp only

theorem kept_actSetSerial {a2 : List Nat} (h : Kept W s) (_ : W.part .mtr) : Kept3 W (actSetSerial s a2) := by
  unfold actSetSerial
  repeat' first
    | with_reducible assumption
    | (extract_lets +onlyGivenNames x
       first
       | (refine kept_cut (P := Kept W x) ?_ ?_; (on_goal 1 => subst x); (on_goal 2 => (intro _; try clear_value x)))
       | (try clear_value x))
    | (with_reducible first | apply kept_setMtr | apply kept3_mk | (intro _; rfl) | apply kept_ite)
    | split | (clear_value *; split) | dsimp only

theorem kept_actSetTol {a2 : List Nat} (h : Kept W s) (_ : W.part .mtr) : Kept3 W (actSetTol s a2) := by
  unfold actSetTol
  repeat' first
    | with_reducible assumption
    | (extract_lets +onlyGivenNames x
       first
       | (refine kept_cut (P := Kept W x) ?_ ?_; (on_goal 1 => subst x); (on_goal 2 => (intro _; try clear_value x)))
       | (try clear_value x))
    | (with_reducible first | apply kept_setMtr | apply kept3_mk | (intro _; rfl) | apply kept_ite)
    | split | (clear_value *; split) | dsimp only

end Sys2Proof.Machine
end

