-- ==== Sys2Proof/Laws/KeptTransport.lean ====
section
/-! SUPPORT. What the operations of `Transport.lean` keep (see `Kept.lean`). -/

set_option linter.unusedVariables false
set_option linter.unusedTactic false
set_option linter.unreachableTactic false
set_option linter.tactic.unusedName false

namespace Sys2Proof.Machine

variable {W : Bounds} {s : State}

theorem kept_setPort {a2 : Nat} {a3 : PortState → PortState} (h : Kept W s) (_ : W.part .cmd) :
    Kept W (State.setPort s a2 a3) := by
  unfold State.setPort
  repeat' first
    | with_reducible assumption
    | (extract_lets +onlyGivenNames x
       first
       | (refine kept_cut (P := Kept W x) ?_ ?_; (on_goal 1 => subst x); (on_goal 2 => (intro _; try clear_value x)))
       | (try clear_value x))
    | (with_reducible first | apply kept_setCmd | (intro _; rfl) | apply kept_ite)
    | split | (clear_value *; split) | dsimp only

theorem kept_owe {a2 : Nat} (h : Kept W s) (_ : W.fld MB_CTL.OWED) (_ : W.fld RING_STAT.OWED) :
    Kept W (State.owe s a2) := by
  unfold State.owe
  repeat' first
    | with_reducible assumption
    | (extract_lets +onlyGivenNames x
       first
       | (refine kept_cut (P := Kept W x) ?_ ?_; (on_goal 1 => subst x); (on_goal 2 => (intro _; try clear_value x)))
       | (try clear_value x))
    | (with_reducible first | apply kept_wr | (intro _; rfl) | apply kept_ite)
    | split | (clear_value *; split) | dsimp only

theorem kept_settle {a2 : Nat} (h : Kept W s) (_ : W.fld MB_CTL.OWED) (_ : W.fld RING_STAT.OWED) :
    Kept W (State.settle s a2) := by
  unfold State.settle
  repeat' first
    | with_reducible assumption
    | (extract_lets +onlyGivenNames x
       first
       | (refine kept_cut (P := Kept W x) ?_ ?_; (on_goal 1 => subst x); (on_goal 2 => (intro _; try clear_value x)))
       | (try clear_value x))
    | (with_reducible first | apply kept_wr | (intro _; rfl) | apply kept_ite)
    | split | (clear_value *; split) | dsimp only

theorem kept_setMbReplies {a2 : Nat} {a3 : List Reply} (h : Kept W s) (_ : W.part .bus) (_ : W.fld MB_CTL.RQ) :
    Kept W (State.setMbReplies s a2 a3) := by
  unfold State.setMbReplies
  repeat' first
    | with_reducible assumption
    | (extract_lets +onlyGivenNames x
       first
       | (refine kept_cut (P := Kept W x) ?_ ?_; (on_goal 1 => subst x); (on_goal 2 => (intro _; try clear_value x)))
       | (try clear_value x))
    | (with_reducible first | apply kept_wr | apply kept_setBus | (intro _; rfl) | apply kept_ite)
    | split | (clear_value *; split) | dsimp only

theorem kept_setRingOut {a2 : Nat} {a3 : List CEntry} (h : Kept W s) (_ : W.part .bus) :
    Kept W (State.setRingOut s a2 a3) := by
  unfold State.setRingOut
  repeat' first
    | with_reducible assumption
    | (extract_lets +onlyGivenNames x
       first
       | (refine kept_cut (P := Kept W x) ?_ ?_; (on_goal 1 => subst x); (on_goal 2 => (intro _; try clear_value x)))
       | (try clear_value x))
    | (with_reducible first | apply kept_setBus | (intro _; rfl) | apply kept_ite)
    | split | (clear_value *; split) | dsimp only

theorem kept_deliver {a2 : Nat} {a3 : Reply} (h : Kept W s) (_ : W.part .bus) (_ : W.part .cmd) (_ : Logs W)
    (_ : W.fld MB_CTL.OWED) (_ : W.fld MB_CTL.RQ) (_ : W.fld RING_STAT.OWED) : Kept W (State.deliver s a2 a3) := by
  unfold State.deliver
  repeat' first
    | with_reducible assumption
    | (extract_lets +onlyGivenNames x
       first
       | (refine kept_cut (P := Kept W x) ?_ ?_; (on_goal 1 => subst x); (on_goal 2 => (intro _; try clear_value x)))
       | (try clear_value x))
    | (with_reducible first | apply kept_doorbell | apply kept_settle | apply kept_setMbReplies)
    | (with_reducible first | apply kept_setRingOut | apply kept_setCmd | (intro _; rfl) | apply kept_ite)
    | split | (clear_value *; split) | dsimp only

theorem kept_countRefusal {a2 : Nat} (h : Kept W s) (_ : W.fld CMD_REFUSED.BADOP) (_ : W.fld CMD_REFUSED.BADPARAM)
    (_ : W.fld CMD_REFUSED.NOPERM) (_ : W.fld CMD_REFUSED.VERSION) : Kept W (State.countRefusal s a2) := by
  unfold State.countRefusal
  repeat' first
    | with_reducible assumption
    | (extract_lets +onlyGivenNames x
       first
       | (refine kept_cut (P := Kept W x) ?_ ?_; (on_goal 1 => subst x); (on_goal 2 => (intro _; try clear_value x)))
       | (try clear_value x))
    | (with_reducible first | apply kept_inc | (intro _; rfl) | apply kept_ite)
    | split | (clear_value *; split) | dsimp only

theorem kept_noteLast {a2 : Nat} {a3 : Packet} {a4 : Nat} (h : Kept W s) (_ : W.fld CMD_LAST.OPCODE)
    (_ : W.fld CMD_LAST.SEQ) (_ : W.fld CMD_LAST.STATUS) (_ : W.fld CMD_LAST_SRC.CLASS)
    (_ : W.fld CMD_LAST_SRC.INSTANCE) : Kept W (State.noteLast s a2 a3 a4) := by
  unfold State.noteLast
  repeat' first
    | with_reducible assumption
    | (extract_lets +onlyGivenNames x
       first
       | (refine kept_cut (P := Kept W x) ?_ ?_; (on_goal 1 => subst x); (on_goal 2 => (intro _; try clear_value x)))
       | (try clear_value x))
    | (with_reducible first | apply kept_wr | (intro _; rfl) | apply kept_ite)
    | split | (clear_value *; split) | dsimp only

theorem kept_answer {a2 : Nat} {a3 : Packet} {a4 : Nat} {a5 : optParam (List Nat) []} (h : Kept W s) (_ : W.part .bus)
    (_ : W.part .cmd) (_ : Logs W) (_ : W.fld CMD_LAST.OPCODE) (_ : W.fld CMD_LAST.SEQ) (_ : W.fld CMD_LAST.STATUS)
    (_ : W.fld CMD_LAST_SRC.CLASS) (_ : W.fld CMD_LAST_SRC.INSTANCE) (_ : W.fld CMD_REFUSED.BADOP)
    (_ : W.fld CMD_REFUSED.BADPARAM) (_ : W.fld CMD_REFUSED.NOPERM) (_ : W.fld CMD_REFUSED.VERSION)
    (_ : W.fld MB_CTL.OWED) (_ : W.fld MB_CTL.RQ) (_ : W.fld RING_STAT.OWED) :
    Kept W (State.answer s a2 a3 a4 a5) := by
  unfold State.answer
  repeat' first
    | with_reducible assumption
    | (extract_lets +onlyGivenNames x
       first
       | (refine kept_cut (P := Kept W x) ?_ ?_; (on_goal 1 => subst x); (on_goal 2 => (intro _; try clear_value x)))
       | (try clear_value x))
    | (with_reducible first | apply kept_countRefusal | apply kept_setPort | apply kept_deliver | apply kept_noteLast)
    | (with_reducible first | apply kept_settle | (intro _; rfl) | apply kept_ite)
    | split | (clear_value *; split) | dsimp only

theorem kept_arrive {a2 : Nat} {a3 : Packet} (h : Kept W s) (_ : W.part .bus) (_ : W.part .cmd) (_ : Logs W)
    (_ : W.fld CMD_CNT.DUP) (_ : W.fld CMD_CNT.STALE) (_ : W.fld CMD_LAST.OPCODE) (_ : W.fld CMD_LAST.SEQ)
    (_ : W.fld CMD_LAST.STATUS) (_ : W.fld CMD_LAST_SRC.CLASS) (_ : W.fld CMD_LAST_SRC.INSTANCE)
    (_ : W.fld CMD_REFUSED.BADOP) (_ : W.fld CMD_REFUSED.BADPARAM) (_ : W.fld CMD_REFUSED.NOPERM)
    (_ : W.fld CMD_REFUSED.VERSION) (_ : W.fld MB_CTL.OWED) (_ : W.fld MB_CTL.RQ) (_ : W.fld RING_STAT.OWED) :
    Kept W (State.arrive s a2 a3) := by
  unfold State.arrive
  repeat' first
    | with_reducible assumption
    | (extract_lets +onlyGivenNames x
       first
       | (refine kept_cut (P := Kept W x) ?_ ?_; (on_goal 1 => subst x); (on_goal 2 => (intro _; try clear_value x)))
       | (try clear_value x))
    | (with_reducible first | apply kept_answer | apply kept_inc | apply kept_deliver | apply kept_settle)
    | (with_reducible first | apply kept_setPort | apply kept_setCmd | (intro _; rfl) | apply kept_ite)
    | split | (clear_value *; split) | dsimp only

theorem kept_popPacket {a2 : Nat × Packet} (h : Kept W s) (_ : W.part .cmd) : Kept W (State.popPacket s a2) := by
  unfold State.popPacket
  repeat' first
    | with_reducible assumption
    | (extract_lets +onlyGivenNames x
       first
       | (refine kept_cut (P := Kept W x) ?_ ?_; (on_goal 1 => subst x); (on_goal 2 => (intro _; try clear_value x)))
       | (try clear_value x))
    | (with_reducible first | apply kept_setCmd | (intro _; rfl) | apply kept_ite)
    | split | (clear_value *; split) | dsimp only

theorem kept_answerUndefined (h : Kept W s) (_ : W.part .bus) (_ : W.part .cmd) (_ : Logs W)
    (_ : W.fld CMD_LAST.OPCODE) (_ : W.fld CMD_LAST.SEQ) (_ : W.fld CMD_LAST.STATUS) (_ : W.fld CMD_LAST_SRC.CLASS)
    (_ : W.fld CMD_LAST_SRC.INSTANCE) (_ : W.fld CMD_REFUSED.BADOP) (_ : W.fld CMD_REFUSED.BADPARAM)
    (_ : W.fld CMD_REFUSED.NOPERM) (_ : W.fld CMD_REFUSED.VERSION) (_ : W.fld MB_CTL.OWED) (_ : W.fld MB_CTL.RQ)
    (_ : W.fld RING_STAT.OWED) : Kept W (State.answerUndefined s) := by
  unfold State.answerUndefined
  repeat' first
    | with_reducible assumption
    | (extract_lets +onlyGivenNames x
       first
       | (refine kept_cut (P := Kept W x) ?_ ?_; (on_goal 1 => subst x); (on_goal 2 => (intro _; try clear_value x)))
       | (try clear_value x))
    | (with_reducible first | apply kept_answer | apply kept_popPacket | apply kept_upTo | (intro _; rfl))
    | (with_reducible first | apply kept_ite)
    | (intro _ _ _ _; try beta_reduce) | (intro _ _ _; try beta_reduce) | (intro _ _; try beta_reduce)
    | split | (clear_value *; split) | dsimp only

theorem kept_execMailboxTake {a1 : Nat} (h : Kept W s) (_ : W.part .bus) (_ : W.part .cmd) (_ : W.part .emit)
    (_ : Logs W) (_ : W.fld CMD_CNT.DUP) (_ : W.fld CMD_CNT.STALE) (_ : W.fld CMD_LAST.OPCODE)
    (_ : W.fld CMD_LAST.SEQ) (_ : W.fld CMD_LAST.STATUS) (_ : W.fld CMD_LAST_SRC.CLASS)
    (_ : W.fld CMD_LAST_SRC.INSTANCE) (_ : W.fld CMD_REFUSED.BADOP) (_ : W.fld CMD_REFUSED.BADPARAM)
    (_ : W.fld CMD_REFUSED.NOPERM) (_ : W.fld CMD_REFUSED.VERSION) (_ : W.fld MB_CTL.GO) (_ : W.fld MB_CTL.OWED)
    (_ : W.fld MB_CTL.RQ) (_ : W.fld RING_STAT.OWED) : KeptO W (execMailboxTake a1 s) := by
  unfold execMailboxTake
  repeat' first
    | with_reducible assumption
    | (extract_lets +onlyGivenNames x
       first
       | (refine kept_cut (P := Kept W x) ?_ ?_; (on_goal 1 => subst x); (on_goal 2 => (intro _; try clear_value x)))
       | (try clear_value x))
    | (with_reducible first | apply kept_quiet | apply kept_answerUndefined | apply kept_arrive | apply kept_owe)
    | (with_reducible first | apply kept_wr | apply keptO_next | (intro _; rfl) | apply kept_ite)
    | split | (clear_value *; split) | dsimp only

theorem kept_mbFetch {a2 : Nat} (h : Kept W s) (_ : W.part .bus) (_ : W.fld MB_CTL.RDY) (_ : W.fld MB_CTL.RQ)
    (_ : W.fld MB_D.DATA) : Kept W (State.mbFetch s a2) := by
  unfold State.mbFetch
  repeat' first
    | with_reducible assumption
    | (extract_lets +onlyGivenNames x
       first
       | (refine kept_cut (P := Kept W x) ?_ ?_; (on_goal 1 => subst x); (on_goal 2 => (intro _; try clear_value x)))
       | (try clear_value x))
    | (with_reducible first | apply kept_wr | apply kept_setMbReplies | apply kept_upTo | (intro _; rfl))
    | (with_reducible first | apply kept_ite)
    | (intro _ _ _ _; try beta_reduce) | (intro _ _ _; try beta_reduce) | (intro _ _; try beta_reduce)
    | split | (clear_value *; split) | dsimp only

theorem kept_mbCtlWrite {a2 : Nat} {a3 : Nat} (h : Kept W s) (_ : W.part .bus) (_ : W.fld MB_CTL.BUSY)
    (_ : W.fld MB_CTL.GO) (_ : W.fld MB_CTL.RDY) (_ : W.fld MB_CTL.RQ) (_ : W.fld MB_CTL.WIGN) (_ : W.fld MB_D.DATA) :
    Kept W (State.mbCtlWrite s a2 a3) := by
  unfold State.mbCtlWrite
  repeat' first
    | with_reducible assumption
    | (extract_lets +onlyGivenNames x
       first
       | (refine kept_cut (P := Kept W x) ?_ ?_; (on_goal 1 => subst x); (on_goal 2 => (intro _; try clear_value x)))
       | (try clear_value x))
    | (with_reducible first | apply kept_wr | apply kept_mbFetch | (intro _; rfl) | apply kept_ite)
    | split | (clear_value *; split) | dsimp only

theorem kept_mbDataWrite {a2 : Nat} {a3 : Nat} {a4 : Nat} (h : Kept W s) (_ : W.fld MB_CTL.RDY)
    (_ : W.fld MB_CTL.WIGN) (_ : W.fld MB_D.DATA) : Kept W (State.mbDataWrite s a2 a3 a4) := by
  unfold State.mbDataWrite
  repeat' first
    | with_reducible assumption
    | (extract_lets +onlyGivenNames x
       first
       | (refine kept_cut (P := Kept W x) ?_ ?_; (on_goal 1 => subst x); (on_goal 2 => (intro _; try clear_value x)))
       | (try clear_value x))
    | (with_reducible first | apply kept_wr | (intro _; rfl) | apply kept_ite)
    | split | (clear_value *; split) | dsimp only

theorem kept_transportBoundary (h : Kept W s) (_ : W.fld MB_CTL.ACTIVE) (_ : W.fld MB_CTL.GO) (_ : W.fld MB_CTL.WIGN)
    (_ : W.fld TRANSPORT.IN_FORCE) : Kept W (State.transportBoundary s) := by
  unfold State.transportBoundary
  repeat' first
    | with_reducible assumption
    | (extract_lets +onlyGivenNames x
       first
       | (refine kept_cut (P := Kept W x) ?_ ?_; (on_goal 1 => subst x); (on_goal 2 => (intro _; try clear_value x)))
       | (try clear_value x))
    | (with_reducible first | apply kept_wr | apply kept_wrB | apply kept_upTo | (intro _; rfl) | apply kept_ite)
    | (intro _ _ _ _; try beta_reduce) | (intro _ _ _; try beta_reduce) | (intro _ _; try beta_reduce)
    | split | (clear_value *; split) | dsimp only

theorem kept_ringStop {a2 : Nat} (h : Kept W s) (_ : W.part .bus) (_ : W.part .cmd) (_ : W.fld RING_CFG.EN)
    (_ : W.fld RING_CNT.LOST) (_ : W.fld RING_STAT.OWED) : Kept W (State.ringStop s a2) := by
  unfold State.ringStop
  repeat' first
    | with_reducible assumption
    | (extract_lets +onlyGivenNames x
       first
       | (refine kept_cut (P := Kept W x) ?_ ?_; (on_goal 1 => subst x); (on_goal 2 => (intro _; try clear_value x)))
       | (try clear_value x))
    | (with_reducible first | apply kept_wr | apply kept_setRingOut | apply kept_setCmd | (intro _; rfl))
    | (with_reducible first | apply kept_ite)
    | split | (clear_value *; split) | dsimp only

theorem kept_ringCfgWrite {a2 : Nat} {a3 : Nat} (h : Kept W s) (_ : W.part .bus) (_ : W.part .cmd)
    (_ : W.fld RING_CFG.DB) (_ : W.fld RING_CFG.EN) (_ : W.fld RING_CFG.LOG2SZ) (_ : W.fld RING_CFG.SEC)
    (_ : W.fld RING_CFG.TELEM) (_ : W.fld RING_CNT.LOST) (_ : W.fld RING_CQ.HEAD) (_ : W.fld RING_CQ.TAIL)
    (_ : W.fld RING_SQ.HEAD) (_ : W.fld RING_SQ.TAIL) (_ : W.fld RING_STAT.CFG_ERR) (_ : W.fld RING_STAT.OWED) :
    Kept W (State.ringCfgWrite s a2 a3) := by
  unfold State.ringCfgWrite
  repeat' first
    | with_reducible assumption
    | (extract_lets +onlyGivenNames x
       first
       | (refine kept_cut (P := Kept W x) ?_ ?_; (on_goal 1 => subst x); (on_goal 2 => (intro _; try clear_value x)))
       | (try clear_value x))
    | (with_reducible first | apply kept_wr | apply kept_ringStop | apply kept_wrB | apply kept_setPort)
    | (with_reducible first | (intro _; rfl) | apply kept_ite)
    | split | (clear_value *; split) | dsimp only

theorem kept_sqTailWrite {a2 : Nat} {a3 : Nat} (h : Kept W s) (_ : W.fld RING_SQ.TAIL) (_ : W.fld RING_STAT.TAIL_ERR)
    : Kept W (State.sqTailWrite s a2 a3) := by
  unfold State.sqTailWrite
  repeat' first
    | with_reducible assumption
    | (extract_lets +onlyGivenNames x
       first
       | (refine kept_cut (P := Kept W x) ?_ ?_; (on_goal 1 => subst x); (on_goal 2 => (intro _; try clear_value x)))
       | (try clear_value x))
    | (with_reducible first | apply kept_wr | (intro _; rfl) | apply kept_ite)
    | split | (clear_value *; split) | dsimp only

theorem kept_cqHeadWrite {a2 : Nat} {a3 : Nat} (h : Kept W s) (_ : W.fld RING_CQ.HEAD) (_ : W.fld RING_STAT.HEAD_ERR)
    : Kept W (State.cqHeadWrite s a2 a3) := by
  unfold State.cqHeadWrite
  repeat' first
    | with_reducible assumption
    | (extract_lets +onlyGivenNames x
       first
       | (refine kept_cut (P := Kept W x) ?_ ?_; (on_goal 1 => subst x); (on_goal 2 => (intro _; try clear_value x)))
       | (try clear_value x))
    | (with_reducible first | apply kept_wr | (intro _; rfl) | apply kept_ite)
    | split | (clear_value *; split) | dsimp only

theorem kept_execSubmissionEntry {a1 : Nat} {a2 : Option (List Nat)} (h : Kept W s) (_ : W.part .bus)
    (_ : W.part .cmd) (_ : W.part .emit) (_ : Logs W) (_ : W.fld CMD_CNT.DUP) (_ : W.fld CMD_CNT.STALE)
    (_ : W.fld CMD_LAST.OPCODE) (_ : W.fld CMD_LAST.SEQ) (_ : W.fld CMD_LAST.STATUS) (_ : W.fld CMD_LAST_SRC.CLASS)
    (_ : W.fld CMD_LAST_SRC.INSTANCE) (_ : W.fld CMD_REFUSED.BADOP) (_ : W.fld CMD_REFUSED.BADPARAM)
    (_ : W.fld CMD_REFUSED.NOPERM) (_ : W.fld CMD_REFUSED.VERSION) (_ : W.fld MB_CTL.OWED) (_ : W.fld MB_CTL.RQ)
    (_ : W.fld RING_CFG.EN) (_ : W.fld RING_CNT.CRC) (_ : W.fld RING_CNT.LOST) (_ : W.fld RING_SQ.HEAD)
    (_ : W.fld RING_STAT.OWED) (_ : W.fld RING_STAT.RD_ERR) : KeptO W (execSubmissionEntry a1 a2 s) := by
  unfold execSubmissionEntry
  repeat' first
    | with_reducible assumption
    | (extract_lets +onlyGivenNames x
       first
       | (refine kept_cut (P := Kept W x) ?_ ?_; (on_goal 1 => subst x); (on_goal 2 => (intro _; try clear_value x)))
       | (try clear_value x))
    | (with_reducible first | apply kept_quiet | apply kept_drive | apply kept_wr | apply kept_ringStop)
    | (with_reducible first | apply kept_doorbell | apply kept_owe | apply kept_inc | apply kept_deliver)
    | (with_reducible first | apply kept_arrive | apply kept_answerUndefined | apply keptO_next | (intro _; rfl))
    | (with_reducible first | apply kept_ite)
    | split | (clear_value *; split) | dsimp only

theorem kept_execCompletionEntry {a1 : Nat} {a2 : Bool} (h : Kept W s) (_ : W.part .bus) (_ : W.part .cmd)
    (_ : W.part .emit) (_ : Logs W) (_ : W.fld MB_CTL.OWED) (_ : W.fld RING_CFG.EN) (_ : W.fld RING_CNT.LOST)
    (_ : W.fld RING_CQ.TAIL) (_ : W.fld RING_STAT.OWED) (_ : W.fld RING_STAT.WR_ERR) :
    KeptO W (execCompletionEntry a1 a2 s) := by
  unfold execCompletionEntry
  repeat' first
    | with_reducible assumption
    | (extract_lets +onlyGivenNames x
       first
       | (refine kept_cut (P := Kept W x) ?_ ?_; (on_goal 1 => subst x); (on_goal 2 => (intro _; try clear_value x)))
       | (try clear_value x))
    | (with_reducible first | apply kept_quiet | apply kept_drive | apply kept_wr | apply kept_setRingOut)
    | (with_reducible first | apply kept_doorbell | apply kept_settle | apply kept_ringStop | apply keptO_next)
    | (with_reducible first | (intro _; rfl) | apply kept_ite)
    | split | (clear_value *; split) | dsimp only

theorem kept_putRejected (h : Kept W s) (_ : W.part .cmd) : Kept W (State.putRejected s) := by
  unfold State.putRejected
  repeat' first
    | with_reducible assumption
    | (extract_lets +onlyGivenNames x
       first
       | (refine kept_cut (P := Kept W x) ?_ ?_; (on_goal 1 => subst x); (on_goal 2 => (intro _; try clear_value x)))
       | (try clear_value x))
    | (with_reducible first | apply kept_setCmd | (intro _; rfl) | apply kept_ite)
    | split | (clear_value *; split) | dsimp only

theorem kept_execPut {a1 : List Nat} (h : Kept W s) (_ : W.part .bus) (_ : W.part .cmd) (_ : W.part .emit)
    (_ : Logs W) (_ : W.fld CMD_CNT.DUP) (_ : W.fld CMD_CNT.STALE) (_ : W.fld CMD_LAST.OPCODE)
    (_ : W.fld CMD_LAST.SEQ) (_ : W.fld CMD_LAST.STATUS) (_ : W.fld CMD_LAST_SRC.CLASS)
    (_ : W.fld CMD_LAST_SRC.INSTANCE) (_ : W.fld CMD_REFUSED.BADOP) (_ : W.fld CMD_REFUSED.BADPARAM)
    (_ : W.fld CMD_REFUSED.NOPERM) (_ : W.fld CMD_REFUSED.VERSION) (_ : W.fld MB_CTL.OWED) (_ : W.fld MB_CTL.RQ)
    (_ : W.fld RING_STAT.OWED) (_ : W.fld SVC_CNT.CRC) (_ : W.fld SVC_CNT.OVERFLOW) (_ : W.fld SVC_CNT.PKTS) :
    KeptO W (execPut a1 s) := by
  unfold execPut
  repeat' first
    | with_reducible assumption
    | (extract_lets +onlyGivenNames x
       first
       | (refine kept_cut (P := Kept W x) ?_ ?_; (on_goal 1 => subst x); (on_goal 2 => (intro _; try clear_value x)))
       | (try clear_value x))
    | (with_reducible first | apply kept_quiet | apply kept_putRejected | apply kept_inc | apply kept_answerUndefined)
    | (with_reducible first | apply kept_arrive | apply keptO_next | (intro _; rfl) | apply kept_ite)
    | split | (clear_value *; split) | dsimp only

theorem kept_execGet {a1 : Bool} (h : Kept W s) (_ : W.part .bus) (_ : W.part .cmd) (_ : W.part .emit) (_ : Logs W)
    (_ : W.fld CMD_LAST.OPCODE) (_ : W.fld CMD_LAST.SEQ) (_ : W.fld CMD_LAST.STATUS) (_ : W.fld CMD_LAST_SRC.CLASS)
    (_ : W.fld CMD_LAST_SRC.INSTANCE) (_ : W.fld CMD_REFUSED.BADOP) (_ : W.fld CMD_REFUSED.BADPARAM)
    (_ : W.fld CMD_REFUSED.NOPERM) (_ : W.fld CMD_REFUSED.VERSION) (_ : W.fld MB_CTL.OWED) (_ : W.fld MB_CTL.RQ)
    (_ : W.fld RING_STAT.OWED) : KeptO W (execGet a1 s) := by
  unfold execGet
  repeat' first
    | with_reducible assumption
    | (extract_lets +onlyGivenNames x
       first
       | (refine kept_cut (P := Kept W x) ?_ ?_; (on_goal 1 => subst x); (on_goal 2 => (intro _; try clear_value x)))
       | (try clear_value x))
    | (with_reducible first | apply kept_quiet | apply kept_drive | apply kept_answerUndefined | apply kept_setCmd)
    | (with_reducible first | apply keptO_next | (intro _; rfl) | apply kept_ite)
    | split | (clear_value *; split) | dsimp only

theorem kept_execStat (h : Kept W s) (_ : W.part .cmd) (_ : W.part .emit) : KeptO W (execStat s) := by
  unfold execStat
  repeat' first
    | with_reducible assumption
    | (extract_lets +onlyGivenNames x
       first
       | (refine kept_cut (P := Kept W x) ?_ ?_; (on_goal 1 => subst x); (on_goal 2 => (intro _; try clear_value x)))
       | (try clear_value x))
    | (with_reducible first | apply kept_quiet | apply kept_setCmd | apply kept_drive | apply keptO_next)
    | (with_reducible first | (intro _; rfl) | apply kept_ite)
    | split | (clear_value *; split) | dsimp only

end Sys2Proof.Machine
end

