-- ==== Sys2Proof/Laws/KeptRegisters.lean ====
section
/-! SUPPORT. What the operations of `Registers.lean` keep (see `Kept.lean`). -/

set_option linter.unusedVariables false
set_option linter.unusedTactic false
set_option linter.unreachableTactic false
set_option linter.tactic.unusedName false

namespace Sys2Proof.Machine

variable {W : Bounds} {s : State}

theorem kept_accessError {a2 : BusAcc} {a3 : Bool} {a4 : Nat} {a5 : Nat} (h : Kept W s) (_ : W.fld ACC_ERR_ADDR.ADDR)
    (_ : W.fld ACC_ERR_INFO.CAUSE) (_ : W.fld ACC_ERR_INFO.COUNT) (_ : W.fld ACC_ERR_INFO.ID)
    (_ : W.fld ACC_ERR_INFO.NS) (_ : W.fld ACC_ERR_INFO.SVC) (_ : W.fld ACC_ERR_INFO.WRITE)
    (_ : W.fld GSTAT.ACCESS_ERR) : Kept W (State.accessError s a2 a3 a4 a5) := by
  unfold State.accessError
  repeat' first
    | with_reducible assumption
    | (extract_lets +onlyGivenNames x
       first
       | (refine kept_cut (P := Kept W x) ?_ ?_; (on_goal 1 => subst x); (on_goal 2 => (intro _; try clear_value x)))
       | (try clear_value x))
    | (with_reducible first | apply kept_incSat | apply kept_wr | apply kept_wrB | (intro _; rfl) | apply kept_ite)
    | split | (clear_value *; split) | dsimp only

theorem kept_sntWrite {a2 : Nat} {a3 : Nat} {a4 : Nat} (h : Kept W s) (_ : W.fld SNT_CNT.FTH_CYC)
    (_ : W.fld SNT_CNT.FTH_EVT) (_ : W.fld SNT_CNT.INJ_DONE) (_ : W.fld SNT_CNT.INJ_FAILED) :
    Kept W (State.sntWrite s a2 a3 a4) := by
  unfold State.sntWrite
  repeat' first
    | with_reducible assumption
    | (extract_lets +onlyGivenNames x
       first
       | (refine kept_cut (P := Kept W x) ?_ ?_; (on_goal 1 => subst x); (on_goal 2 => (intro _; try clear_value x)))
       | (try clear_value x))
    | (with_reducible first | apply kept_wr | (intro _; rfl) | apply kept_ite)
    | split | (clear_value *; split) | dsimp only

theorem kept_sntAdvance {a2 : Nat} (h : Kept W s) (_ : W.fld SNT_IDX.IDX) : Kept W (State.sntAdvance s a2) := by
  unfold State.sntAdvance
  repeat' first
    | with_reducible assumption
    | (extract_lets +onlyGivenNames x
       first
       | (refine kept_cut (P := Kept W x) ?_ ?_; (on_goal 1 => subst x); (on_goal 2 => (intro _; try clear_value x)))
       | (try clear_value x))
    | (with_reducible first | apply kept_wr | (intro _; rfl) | apply kept_ite)
    | split | (clear_value *; split) | dsimp only

theorem kept_snapRead {a2 : Nat} {a3 : Nat} {a4 : Bool} {a5 : Nat} (h : Kept W s) (_ : W.part .bus)
    (_ : W.fld GSTAT.SNAP_STALE) : Kept2 W (State.snapRead s a2 a3 a4 a5) := by
  unfold State.snapRead
  repeat' first
    | with_reducible assumption
    | (extract_lets +onlyGivenNames x
       first
       | (refine kept_cut (P := Kept W x) ?_ ?_; (on_goal 1 => subst x); (on_goal 2 => (intro _; try clear_value x)))
       | (subst x))
    | (with_reducible first | apply kept_setBus | apply kept_wr | apply kept2_mk | (intro _; rfl) | apply kept_ite)
    | split | (clear_value *; split) | dsimp only

theorem kept_readWord {a2 : BusAcc} {a3 : Nat} (h : Kept W s) (_ : W.part .bus) (_ : W.fld GSTAT.SNAP_STALE)
    (_ : W.fld SNT_IDX.IDX) : Kept2 W (State.readWord s a2 a3) := by
  unfold State.readWord
  repeat' first
    | with_reducible assumption
    | (extract_lets +onlyGivenNames x
       first
       | (refine kept_cut (P := Kept W x) ?_ ?_; (on_goal 1 => subst x); (on_goal 2 => (intro _; try clear_value x)))
       | (refine kept_cut (P := Kept2 W x) ?_ ?_; (on_goal 1 => subst x); (on_goal 2 => (intro _; try clear_value x)))
       | (try clear_value x))
    | (with_reducible first | apply kept_snapRead | apply kept_sntAdvance | apply kept2_mk)
    | (with_reducible first | (apply kept2_snd; assumption) | (apply kept2_snd; apply kept_snapRead))
    | (with_reducible first | refine kept_of2 (by assumption) ?_ | (intro _; rfl) | apply kept_ite)
    | split | (clear_value *; split) | dsimp only

theorem kept_busRead {a2 : BusAcc} {a3 : Nat} (h : Kept W s) (_ : W.part .bus) (_ : W.fld ACC_ERR_ADDR.ADDR)
    (_ : W.fld ACC_ERR_INFO.CAUSE) (_ : W.fld ACC_ERR_INFO.COUNT) (_ : W.fld ACC_ERR_INFO.ID)
    (_ : W.fld ACC_ERR_INFO.NS) (_ : W.fld ACC_ERR_INFO.SVC) (_ : W.fld ACC_ERR_INFO.WRITE)
    (_ : W.fld GSTAT.ACCESS_ERR) (_ : W.fld GSTAT.SNAP_STALE) (_ : W.fld SNT_IDX.IDX) :
    Kept3 W (State.busRead s a2 a3) := by
  unfold State.busRead
  repeat' first
    | with_reducible assumption
    | (extract_lets +onlyGivenNames x
       first
       | (refine kept_cut (P := Kept W x) ?_ ?_; (on_goal 1 => subst x); (on_goal 2 => (intro _; try clear_value x)))
       | (refine kept_cut (P := Kept2 W x) ?_ ?_; (on_goal 1 => subst x); (on_goal 2 => (intro _; try clear_value x)))
       | (try clear_value x))
    | (with_reducible first | apply kept_accessError | apply kept_readWord | apply kept3_mk)
    | (with_reducible first | (apply kept2_snd; assumption) | (apply kept2_snd; apply kept_readWord))
    | (with_reducible first | refine kept_of2 (by assumption) ?_ | (intro _; rfl) | apply kept_ite)
    | split | (clear_value *; split) | dsimp only

theorem kept_goSet {a2 : Fld} {a3 : Nat} (h : Kept W s) (_ : W.fld a2) (_ : W.fld GSTAT.GO_BUSY) :
    Kept W (State.goSet s a2 a3) := by
  unfold State.goSet
  repeat' first
    | with_reducible assumption
    | (extract_lets +onlyGivenNames x
       first
       | (refine kept_cut (P := Kept W x) ?_ ?_; (on_goal 1 => subst x); (on_goal 2 => (intro _; try clear_value x)))
       | (try clear_value x))
    | (with_reducible first | apply kept_wr | (intro _; rfl) | apply kept_ite)
    | split | (clear_value *; split) | dsimp only

theorem kept_writeField {a2 : Bool} {a3 : FieldDesc} {a4 : Nat} {a5 : Nat} (h : Kept W s) (ha : ∀ F, W.fld F) :
    Kept W (State.writeField s a2 a3 a4 a5) := by
  unfold State.writeField
  repeat' first
    | with_reducible assumption
    | (extract_lets +onlyGivenNames x
       first
       | (refine kept_cut (P := Kept W x) ?_ ?_; (on_goal 1 => subst x); (on_goal 2 => (intro _; try clear_value x)))
       | (try clear_value x))
    | (with_reducible first | apply kept_wr | apply kept_goSet | (intro _; rfl) | apply ha | apply kept_ite)
    | split | (clear_value *; split) | dsimp only

theorem kept_writeFields {a2 : Bool} {a3 : RegDesc} {a4 : Nat} {a5 : Nat} (h : Kept W s) (ha : ∀ F, W.fld F) :
    Kept W (State.writeFields s a2 a3 a4 a5) := by
  unfold State.writeFields
  repeat' first
    | with_reducible assumption
    | (extract_lets +onlyGivenNames x
       first
       | (refine kept_cut (P := Kept W x) ?_ ?_; (on_goal 1 => subst x); (on_goal 2 => (intro _; try clear_value x)))
       | (try clear_value x))
    | (with_reducible first | apply kept_writeField | apply kept_foldl | (intro _; rfl) | apply ha | apply kept_ite)
    | (intro _ _ _ _; try beta_reduce) | (intro _ _ _; try beta_reduce) | (intro _ _; try beta_reduce)
    | split | (clear_value *; split) | dsimp only

theorem kept_pairWrite {a2 : RegDesc} {a3 : Nat} {a4 : Bool} {a5 : Nat} (h : Kept W s) (_ : W.part .bus)
    (ha : ∀ F, W.fld F) : Kept W (State.pairWrite s a2 a3 a4 a5) := by
  unfold State.pairWrite
  repeat' first
    | with_reducible assumption
    | (extract_lets +onlyGivenNames x
       first
       | (refine kept_cut (P := Kept W x) ?_ ?_; (on_goal 1 => subst x); (on_goal 2 => (intro _; try clear_value x)))
       | (try clear_value x))
    | (with_reducible first | apply kept_wr | apply kept_setBus | (intro _; rfl) | apply ha | apply kept_ite)
    | split | (clear_value *; split) | dsimp only

theorem kept_setLocks {l : Locks} (h : Kept W s) (hj : ∀ a b : Locks, W.locks a → W.locks (a.join b)) :
    Kept W (s.setLocks l) :=
  ⟨h.pending, h.tick, hj _ _ h.locks, fun i => ⟨(h.inv i).fields, (h.inv i).rwl, (h.inv i).inForce, (h.inv i).staging,
    (h.inv i).events⟩, fun q k => Region.same_trans (h.part q k) (by cases q <;> simp [Region.same, State.setLocks]), h.reg⟩

theorem kept_permWrite {a2 : Bool} {a3 : Nat} {a4 : Nat} (h : Kept W s) (_ : W.fld GSTAT.LOCK_IGN)
    (_ : W.fld PERM.EFF) : Kept W (State.permWrite s a2 a3 a4) := by
  unfold State.permWrite
  repeat' first
    | with_reducible assumption
    | (extract_lets +onlyGivenNames x
       first
       | (refine kept_cut (P := Kept W x) ?_ ?_; (on_goal 1 => subst x); (on_goal 2 => (intro _; try clear_value x)))
       | (try clear_value x))
    | (with_reducible first | apply kept_wr | (intro _; rfl) | apply kept_ite)
    | split | (clear_value *; split) | dsimp only

theorem kept_hsCtrl {a2 : Nat} (h : Kept W s) (_ : W.part .free) (_ : Logs W) (_ : W.fld (Evt.st .FW_HSNAP))
    (_ : W.fld HS_CTRL.FROZEN) (_ : W.fld HS_CTRL.MISSED) (_ : W.fld HS_W.WORD) : Kept W (State.hsCtrl s a2) := by
  unfold State.hsCtrl
  repeat' first
    | with_reducible assumption
    | (extract_lets +onlyGivenNames x
       first
       | (refine kept_cut (P := Kept W x) ?_ ?_; (on_goal 1 => subst x); (on_goal 2 => (intro _; try clear_value x)))
       | (try clear_value x))
    | (with_reducible first | apply kept_wr | apply kept_hangSnapshot | (intro _; rfl) | apply kept_ite)
    | split | (clear_value *; split) | dsimp only

theorem kept_crossClamp {a2 : Nat} {a3 : Nat} (h : Kept W s) (_ : W.fld GL_VLIM.VMIN) (_ : W.fld SNT_CFG.FSTEP_MAX) :
    Kept W (State.crossClamp s a2 a3) := by
  unfold State.crossClamp
  repeat' first
    | with_reducible assumption
    | (extract_lets +onlyGivenNames x
       first
       | (refine kept_cut (P := Kept W x) ?_ ?_; (on_goal 1 => subst x); (on_goal 2 => (intro _; try clear_value x)))
       | (try clear_value x))
    | (with_reducible first | apply kept_wr | (intro _; rfl) | apply kept_ite)
    | split | (clear_value *; split) | dsimp only

theorem kept_askClear {a2 : Bool} {a3 : Nat} (h : Kept W s) (_ : W.part .em) : Kept W (State.askClear s a2 a3) := by
  unfold State.askClear
  repeat' first
    | with_reducible assumption
    | (extract_lets +onlyGivenNames x
       first
       | (refine kept_cut (P := Kept W x) ?_ ?_; (on_goal 1 => subst x); (on_goal 2 => (intro _; try clear_value x)))
       | (try clear_value x))
    | (with_reducible first | apply kept_setEm | (intro _; rfl) | apply kept_ite)
    | split | (clear_value *; split) | dsimp only

theorem kept_writeWord {a2 : BusAcc} {a3 : Nat} {a4 : Nat} (h : Kept W s) (_ : W.part .bus) (_ : W.part .cmd)
    (_ : W.part .em) (_ : W.part .emit) (_ : W.part .free) (_ : W.part .gl) (_ : W.part .mg) (_ : W.part .rc)
    (_ : W.part .tasks) (_ : Logs W) (ha : ∀ F, W.fld F) (hj : ∀ a b : Locks, W.locks a → W.locks (a.join b)) :
    Kept W (State.writeWord s a2 a3 a4) := by
  unfold State.writeWord
  repeat' first
    | with_reducible assumption
    | (extract_lets +onlyGivenNames x
       first
       | (refine kept_cut (P := Kept W x) ?_ ?_; (on_goal 1 => subst x); (on_goal 2 => (intro _; try clear_value x)))
       | (try clear_value x))
    | (with_reducible first | apply kept_mbCtlWrite | apply kept_mbDataWrite | apply kept_ringCfgWrite)
    | (with_reducible first | apply kept_wr | apply kept_sqTailWrite | apply kept_cqHeadWrite | apply kept_setLocks)
    | (with_reducible first | apply kept_permWrite | apply kept_heartbeat | apply kept_hsCtrl | apply kept_sntAdvance)
    | (with_reducible first | apply kept_sntWrite | apply kept_pairWrite | apply kept_crossClamp)
    | (with_reducible first | apply kept_writeFields | apply kept_askClear | apply kept_retrain | apply kept_sscApply)
    | (with_reducible first | apply kept_trigger | apply kept_disarmHb | (intro _; rfl) | (apply hj; assumption))
    | (with_reducible first | apply ha | apply kept_ite)
    | split | (clear_value *; split) | dsimp only

theorem kept_busWrite {a2 : BusAcc} {a3 : Nat} {a4 : Nat} (h : Kept W s) (_ : W.part .bus) (_ : W.part .cmd)
    (_ : W.part .em) (_ : W.part .emit) (_ : W.part .free) (_ : W.part .gl) (_ : W.part .mg) (_ : W.part .rc)
    (_ : W.part .tasks) (_ : Logs W) (ha : ∀ F, W.fld F) (hj : ∀ a b : Locks, W.locks a → W.locks (a.join b)) :
    Kept2 W (State.busWrite s a2 a3 a4) := by
  unfold State.busWrite
  repeat' first
    | with_reducible assumption
    | (extract_lets +onlyGivenNames x
       first
       | (refine kept_cut (P := Kept W x) ?_ ?_; (on_goal 1 => subst x); (on_goal 2 => (intro _; try clear_value x)))
       | (try clear_value x))
    | (with_reducible first | apply kept_accessError | apply kept_writeWord | apply kept2_mk | (intro _; rfl))
    | (with_reducible first | (apply hj; assumption) | apply ha | apply kept_ite)
    | split | (clear_value *; split) | dsimp only

theorem kept_axiRead {a2 : Access} {a3 : Nat} (h : Kept W s) (_ : W.part .bus) (_ : W.part .emit)
    (_ : W.fld ACC_ERR_ADDR.ADDR) (_ : W.fld ACC_ERR_INFO.CAUSE) (_ : W.fld ACC_ERR_INFO.COUNT)
    (_ : W.fld ACC_ERR_INFO.ID) (_ : W.fld ACC_ERR_INFO.NS) (_ : W.fld ACC_ERR_INFO.SVC)
    (_ : W.fld ACC_ERR_INFO.WRITE) (_ : W.fld GSTAT.ACCESS_ERR) (_ : W.fld GSTAT.SNAP_STALE) (_ : W.fld SNT_IDX.IDX) :
    Kept W (State.axiRead s a2 a3) := by
  unfold State.axiRead
  repeat' first
    | with_reducible assumption
    | (extract_lets +onlyGivenNames x
       first
       | (refine kept_cut (P := Kept W x) ?_ ?_; (on_goal 1 => subst x); (on_goal 2 => (intro _; try clear_value x)))
       | (refine kept_cut (P := Kept3 W x) ?_ ?_; (on_goal 1 => subst x); (on_goal 2 => (intro _; try clear_value x)))
       | (try clear_value x))
    | (with_reducible first | apply kept_busRead | apply kept_drive | (apply kept3_snd; assumption))
    | (with_reducible first | (apply kept3_snd; apply kept_busRead) | refine kept_of3 (by assumption) ?_)
    | (with_reducible first | (intro _; rfl) | apply kept_ite)
    | split | (clear_value *; split) | dsimp only

theorem kept_sameCycleRead {a2 : Access} {a3 : Bool} {a4 : Nat} (h : Kept W s) (_ : W.part .bus) (_ : W.part .emit)
    (_ : W.fld ACC_ERR_ADDR.ADDR) (_ : W.fld ACC_ERR_INFO.CAUSE) (_ : W.fld ACC_ERR_INFO.COUNT)
    (_ : W.fld ACC_ERR_INFO.ID) (_ : W.fld ACC_ERR_INFO.NS) (_ : W.fld ACC_ERR_INFO.SVC)
    (_ : W.fld ACC_ERR_INFO.WRITE) (_ : W.fld GSTAT.ACCESS_ERR) (_ : W.fld GSTAT.SNAP_STALE) (_ : W.fld SNT_IDX.IDX) :
    Kept W (State.sameCycleRead s a2 a3 a4) := by
  unfold State.sameCycleRead
  repeat' first
    | with_reducible assumption
    | (extract_lets +onlyGivenNames x
       first
       | (refine kept_cut (P := Kept W x) ?_ ?_; (on_goal 1 => subst x); (on_goal 2 => (intro _; try clear_value x)))
       | (try clear_value x))
    | (with_reducible first | apply kept_wr | apply kept_axiRead | (intro _; rfl) | apply kept_ite)
    | split | (clear_value *; split) | dsimp only

theorem kept_axiWrite {a2 : Access} {a3 : Nat} {a4 : Nat} (h : Kept W s) (_ : W.part .bus) (_ : W.part .cmd)
    (_ : W.part .em) (_ : W.part .emit) (_ : W.part .free) (_ : W.part .gl) (_ : W.part .mg) (_ : W.part .rc)
    (_ : W.part .tasks) (_ : Logs W) (ha : ∀ F, W.fld F) (hj : ∀ a b : Locks, W.locks a → W.locks (a.join b)) :
    Kept W (State.axiWrite s a2 a3 a4) := by
  unfold State.axiWrite
  repeat' first
    | with_reducible assumption
    | (extract_lets +onlyGivenNames x
       first
       | (refine kept_cut (P := Kept W x) ?_ ?_; (on_goal 1 => subst x); (on_goal 2 => (intro _; try clear_value x)))
       | (refine kept_cut (P := Kept2 W x) ?_ ?_; (on_goal 1 => subst x); (on_goal 2 => (intro _; try clear_value x)))
       | (try clear_value x))
    | (with_reducible first | apply kept_busWrite | apply kept_drive | apply kept_sameCycleRead | apply kept2_mk)
    | (with_reducible first | (apply kept2_snd; assumption) | (apply kept2_snd; apply kept_busWrite))
    | (with_reducible first | refine kept_of2 (by assumption) ?_ | apply ha | (apply hj; assumption) | (intro _; rfl))
    | (with_reducible first | apply kept_ite)
    | split | (clear_value *; split) | dsimp only

theorem kept_execGo {a1 : Nat} {a2 : Access} (h : Kept W s) (_ : W.part .bus) (_ : W.part .cmd) (_ : W.part .em)
    (_ : W.part .emit) (_ : W.part .free) (_ : W.part .gl) (_ : W.part .mg) (_ : W.part .rc) (_ : W.part .tasks)
    (_ : Logs W) (ha : ∀ F, W.fld F) (hj : ∀ a b : Locks, W.locks a → W.locks (a.join b)) :
    KeptO W (execGo a1 a2 s) := by
  unfold execGo
  repeat' first
    | with_reducible assumption
    | (extract_lets +onlyGivenNames x
       first
       | (refine kept_cut (P := Kept W x) ?_ ?_; (on_goal 1 => subst x); (on_goal 2 => (intro _; try clear_value x)))
       | (try clear_value x))
    | (with_reducible first | apply kept_quiet | apply kept_axiWrite | apply keptO_next | (intro _; rfl))
    | (with_reducible first | (apply hj; assumption) | apply ha | apply kept_ite)
    | split | (clear_value *; split) | dsimp only

theorem kept_execFetch {a1 : Nat} {a2 : Access} (h : Kept W s) (_ : W.part .bus) (_ : W.part .cmd) (_ : W.part .em)
    (_ : W.part .emit) (_ : W.part .free) (_ : W.part .gl) (_ : W.part .mg) (_ : W.part .rc) (_ : W.part .tasks)
    (_ : Logs W) (ha : ∀ F, W.fld F) (hj : ∀ a b : Locks, W.locks a → W.locks (a.join b)) :
    KeptO W (execFetch a1 a2 s) := by
  unfold execFetch
  repeat' first
    | with_reducible assumption
    | (extract_lets +onlyGivenNames x
       first
       | (refine kept_cut (P := Kept W x) ?_ ?_; (on_goal 1 => subst x); (on_goal 2 => (intro _; try clear_value x)))
       | (try clear_value x))
    | (with_reducible first | apply kept_quiet | apply kept_axiWrite | apply keptO_next | (intro _; rfl))
    | (with_reducible first | (apply hj; assumption) | apply ha | apply kept_ite)
    | split | (clear_value *; split) | dsimp only

theorem kept_execSqTailWrite {a1 : Nat} {a2 : Nat} {a3 : Access} (h : Kept W s) (_ : W.part .bus) (_ : W.part .cmd)
    (_ : W.part .em) (_ : W.part .emit) (_ : W.part .free) (_ : W.part .gl) (_ : W.part .mg) (_ : W.part .rc)
    (_ : W.part .tasks) (_ : Logs W) (ha : ∀ F, W.fld F) (hj : ∀ a b : Locks, W.locks a → W.locks (a.join b)) :
    KeptO W (execSqTailWrite a1 a2 a3 s) := by
  unfold execSqTailWrite
  repeat' first
    | with_reducible assumption
    | (extract_lets +onlyGivenNames x
       first
       | (refine kept_cut (P := Kept W x) ?_ ?_; (on_goal 1 => subst x); (on_goal 2 => (intro _; try clear_value x)))
       | (try clear_value x))
    | (with_reducible first | apply kept_quiet | apply kept_axiWrite | apply keptO_next | (intro _; rfl))
    | (with_reducible first | (apply hj; assumption) | apply ha | apply kept_ite)
    | split | (clear_value *; split) | dsimp only

theorem kept_execCqHeadWrite {a1 : Nat} {a2 : Nat} {a3 : Access} (h : Kept W s) (_ : W.part .bus) (_ : W.part .cmd)
    (_ : W.part .em) (_ : W.part .emit) (_ : W.part .free) (_ : W.part .gl) (_ : W.part .mg) (_ : W.part .rc)
    (_ : W.part .tasks) (_ : Logs W) (ha : ∀ F, W.fld F) (hj : ∀ a b : Locks, W.locks a → W.locks (a.join b)) :
    KeptO W (execCqHeadWrite a1 a2 a3 s) := by
  unfold execCqHeadWrite
  repeat' first
    | with_reducible assumption
    | (extract_lets +onlyGivenNames x
       first
       | (refine kept_cut (P := Kept W x) ?_ ?_; (on_goal 1 => subst x); (on_goal 2 => (intro _; try clear_value x)))
       | (try clear_value x))
    | (with_reducible first | apply kept_quiet | apply kept_axiWrite | apply keptO_next | (intro _; rfl))
    | (with_reducible first | (apply hj; assumption) | apply ha | apply kept_ite)
    | split | (clear_value *; split) | dsimp only

theorem kept_execRingEnable {a1 : Nat} {a2 : Nat} {a3 : Access} (h : Kept W s) (_ : W.part .bus) (_ : W.part .cmd)
    (_ : W.part .em) (_ : W.part .emit) (_ : W.part .free) (_ : W.part .gl) (_ : W.part .mg) (_ : W.part .rc)
    (_ : W.part .tasks) (_ : Logs W) (ha : ∀ F, W.fld F) (hj : ∀ a b : Locks, W.locks a → W.locks (a.join b)) :
    KeptO W (execRingEnable a1 a2 a3 s) := by
  unfold execRingEnable
  repeat' first
    | with_reducible assumption
    | (extract_lets +onlyGivenNames x
       first
       | (refine kept_cut (P := Kept W x) ?_ ?_; (on_goal 1 => subst x); (on_goal 2 => (intro _; try clear_value x)))
       | (try clear_value x))
    | (with_reducible first | apply kept_quiet | apply kept_axiWrite | apply keptO_next | (intro _; rfl))
    | (with_reducible first | (apply hj; assumption) | apply ha | apply kept_ite)
    | split | (clear_value *; split) | dsimp only

theorem kept_execRingDisable {a1 : Nat} {a2 : Nat} {a3 : Access} (h : Kept W s) (_ : W.part .bus) (_ : W.part .cmd)
    (_ : W.part .em) (_ : W.part .emit) (_ : W.part .free) (_ : W.part .gl) (_ : W.part .mg) (_ : W.part .rc)
    (_ : W.part .tasks) (_ : Logs W) (ha : ∀ F, W.fld F) (hj : ∀ a b : Locks, W.locks a → W.locks (a.join b)) :
    KeptO W (execRingDisable a1 a2 a3 s) := by
  unfold execRingDisable
  repeat' first
    | with_reducible assumption
    | (extract_lets +onlyGivenNames x
       first
       | (refine kept_cut (P := Kept W x) ?_ ?_; (on_goal 1 => subst x); (on_goal 2 => (intro _; try clear_value x)))
       | (try clear_value x))
    | (with_reducible first | apply kept_quiet | apply kept_axiWrite | apply keptO_next | (intro _; rfl))
    | (with_reducible first | (apply hj; assumption) | apply ha | apply kept_ite)
    | split | (clear_value *; split) | dsimp only

theorem kept_execTransportMode {a1 : Nat} {a2 : Access} (h : Kept W s) (_ : W.part .bus) (_ : W.part .cmd)
    (_ : W.part .em) (_ : W.part .emit) (_ : W.part .free) (_ : W.part .gl) (_ : W.part .mg) (_ : W.part .rc)
    (_ : W.part .tasks) (_ : Logs W) (ha : ∀ F, W.fld F) (hj : ∀ a b : Locks, W.locks a → W.locks (a.join b)) :
    KeptO W (execTransportMode a1 a2 s) := by
  unfold execTransportMode
  repeat' first
    | with_reducible assumption
    | (extract_lets +onlyGivenNames x
       first
       | (refine kept_cut (P := Kept W x) ?_ ?_; (on_goal 1 => subst x); (on_goal 2 => (intro _; try clear_value x)))
       | (try clear_value x))
    | (with_reducible first | apply kept_axiWrite | apply kept_quiet | apply keptO_next | (intro _; rfl))
    | (with_reducible first | (apply hj; assumption) | apply ha | apply kept_ite)
    | split | (clear_value *; split) | dsimp only

theorem kept_execPermEffWrite {a1 : Nat} {a2 : Nat} {a3 : Access} (h : Kept W s) (_ : W.part .bus) (_ : W.part .cmd)
    (_ : W.part .em) (_ : W.part .emit) (_ : W.part .free) (_ : W.part .gl) (_ : W.part .mg) (_ : W.part .rc)
    (_ : W.part .tasks) (_ : Logs W) (ha : ∀ F, W.fld F) (hj : ∀ a b : Locks, W.locks a → W.locks (a.join b)) :
    KeptO W (execPermEffWrite a1 a2 a3 s) := by
  unfold execPermEffWrite
  repeat' first
    | with_reducible assumption
    | (extract_lets +onlyGivenNames x
       first
       | (refine kept_cut (P := Kept W x) ?_ ?_; (on_goal 1 => subst x); (on_goal 2 => (intro _; try clear_value x)))
       | (try clear_value x))
    | (with_reducible first | apply kept_quiet | apply kept_axiWrite | apply keptO_next | (intro _; rfl))
    | (with_reducible first | (apply hj; assumption) | apply ha | apply kept_ite)
    | split | (clear_value *; split) | dsimp only

theorem kept_execLockCfg {a1 : Access} (h : Kept W s) (_ : W.part .bus) (_ : W.part .cmd) (_ : W.part .em)
    (_ : W.part .emit) (_ : W.part .free) (_ : W.part .gl) (_ : W.part .mg) (_ : W.part .rc) (_ : W.part .tasks)
    (_ : Logs W) (ha : ∀ F, W.fld F) (hj : ∀ a b : Locks, W.locks a → W.locks (a.join b)) :
    KeptO W (execLockCfg a1 s) := by
  unfold execLockCfg
  repeat' first
    | with_reducible assumption
    | (extract_lets +onlyGivenNames x
       first
       | (refine kept_cut (P := Kept W x) ?_ ?_; (on_goal 1 => subst x); (on_goal 2 => (intro _; try clear_value x)))
       | (try clear_value x))
    | (with_reducible first | apply kept_axiWrite | apply kept_quiet | apply keptO_next | (intro _; rfl))
    | (with_reducible first | (apply hj; assumption) | apply ha | apply kept_ite)
    | split | (clear_value *; split) | dsimp only

theorem kept_execLockPerm {a1 : Access} (h : Kept W s) (_ : W.part .bus) (_ : W.part .cmd) (_ : W.part .em)
    (_ : W.part .emit) (_ : W.part .free) (_ : W.part .gl) (_ : W.part .mg) (_ : W.part .rc) (_ : W.part .tasks)
    (_ : Logs W) (ha : ∀ F, W.fld F) (hj : ∀ a b : Locks, W.locks a → W.locks (a.join b)) :
    KeptO W (execLockPerm a1 s) := by
  unfold execLockPerm
  repeat' first
    | with_reducible assumption
    | (extract_lets +onlyGivenNames x
       first
       | (refine kept_cut (P := Kept W x) ?_ ?_; (on_goal 1 => subst x); (on_goal 2 => (intro _; try clear_value x)))
       | (try clear_value x))
    | (with_reducible first | apply kept_axiWrite | apply kept_quiet | apply keptO_next | (intro _; rfl))
    | (with_reducible first | (apply hj; assumption) | apply ha | apply kept_ite)
    | split | (clear_value *; split) | dsimp only

theorem kept_execLockTransport {a1 : Access} (h : Kept W s) (_ : W.part .bus) (_ : W.part .cmd) (_ : W.part .em)
    (_ : W.part .emit) (_ : W.part .free) (_ : W.part .gl) (_ : W.part .mg) (_ : W.part .rc) (_ : W.part .tasks)
    (_ : Logs W) (ha : ∀ F, W.fld F) (hj : ∀ a b : Locks, W.locks a → W.locks (a.join b)) :
    KeptO W (execLockTransport a1 s) := by
  unfold execLockTransport
  repeat' first
    | with_reducible assumption
    | (extract_lets +onlyGivenNames x
       first
       | (refine kept_cut (P := Kept W x) ?_ ?_; (on_goal 1 => subst x); (on_goal 2 => (intro _; try clear_value x)))
       | (try clear_value x))
    | (with_reducible first | apply kept_axiWrite | apply kept_quiet | apply keptO_next | (intro _; rfl))
    | (with_reducible first | (apply hj; assumption) | apply ha | apply kept_ite)
    | split | (clear_value *; split) | dsimp only

theorem kept_execLockFw {a1 : Access} (h : Kept W s) (_ : W.part .bus) (_ : W.part .cmd) (_ : W.part .em)
    (_ : W.part .emit) (_ : W.part .free) (_ : W.part .gl) (_ : W.part .mg) (_ : W.part .rc) (_ : W.part .tasks)
    (_ : Logs W) (ha : ∀ F, W.fld F) (hj : ∀ a b : Locks, W.locks a → W.locks (a.join b)) :
    KeptO W (execLockFw a1 s) := by
  unfold execLockFw
  repeat' first
    | with_reducible assumption
    | (extract_lets +onlyGivenNames x
       first
       | (refine kept_cut (P := Kept W x) ?_ ?_; (on_goal 1 => subst x); (on_goal 2 => (intro _; try clear_value x)))
       | (try clear_value x))
    | (with_reducible first | apply kept_axiWrite | apply kept_quiet | apply keptO_next | (intro _; rfl))
    | (with_reducible first | (apply hj; assumption) | apply ha | apply kept_ite)
    | split | (clear_value *; split) | dsimp only

theorem kept_execLockDiag {a1 : Access} (h : Kept W s) (_ : W.part .bus) (_ : W.part .cmd) (_ : W.part .em)
    (_ : W.part .emit) (_ : W.part .free) (_ : W.part .gl) (_ : W.part .mg) (_ : W.part .rc) (_ : W.part .tasks)
    (_ : Logs W) (ha : ∀ F, W.fld F) (hj : ∀ a b : Locks, W.locks a → W.locks (a.join b)) :
    KeptO W (execLockDiag a1 s) := by
  unfold execLockDiag
  repeat' first
    | with_reducible assumption
    | (extract_lets +onlyGivenNames x
       first
       | (refine kept_cut (P := Kept W x) ?_ ?_; (on_goal 1 => subst x); (on_goal 2 => (intro _; try clear_value x)))
       | (try clear_value x))
    | (with_reducible first | apply kept_axiWrite | apply kept_quiet | apply keptO_next | (intro _; rfl))
    | (with_reducible first | (apply hj; assumption) | apply ha | apply kept_ite)
    | split | (clear_value *; split) | dsimp only

theorem kept_execPeakClr {a1 : Access} (h : Kept W s) (_ : W.part .bus) (_ : W.part .cmd) (_ : W.part .em)
    (_ : W.part .emit) (_ : W.part .free) (_ : W.part .gl) (_ : W.part .mg) (_ : W.part .rc) (_ : W.part .tasks)
    (_ : Logs W) (ha : ∀ F, W.fld F) (hj : ∀ a b : Locks, W.locks a → W.locks (a.join b)) :
    KeptO W (execPeakClr a1 s) := by
  unfold execPeakClr
  repeat' first
    | with_reducible assumption
    | (extract_lets +onlyGivenNames x
       first
       | (refine kept_cut (P := Kept W x) ?_ ?_; (on_goal 1 => subst x); (on_goal 2 => (intro _; try clear_value x)))
       | (try clear_value x))
    | (with_reducible first | apply kept_axiWrite | apply kept_quiet | apply keptO_next | (intro _; rfl))
    | (with_reducible first | (apply hj; assumption) | apply ha | apply kept_ite)
    | split | (clear_value *; split) | dsimp only

theorem kept_execEmAttClr {a1 : Nat} {a2 : Access} (h : Kept W s) (_ : W.part .bus) (_ : W.part .cmd) (_ : W.part .em)
    (_ : W.part .emit) (_ : W.part .free) (_ : W.part .gl) (_ : W.part .mg) (_ : W.part .rc) (_ : W.part .tasks)
    (_ : Logs W) (ha : ∀ F, W.fld F) (hj : ∀ a b : Locks, W.locks a → W.locks (a.join b)) :
    KeptO W (execEmAttClr a1 a2 s) := by
  unfold execEmAttClr
  repeat' first
    | with_reducible assumption
    | (extract_lets +onlyGivenNames x
       first
       | (refine kept_cut (P := Kept W x) ?_ ?_; (on_goal 1 => subst x); (on_goal 2 => (intro _; try clear_value x)))
       | (try clear_value x))
    | (with_reducible first | apply kept_axiWrite | apply kept_quiet | apply keptO_next | (intro _; rfl))
    | (with_reducible first | (apply hj; assumption) | apply ha | apply kept_ite)
    | split | (clear_value *; split) | dsimp only

theorem kept_execArm {a1 : Nat} {a2 : Access} (h : Kept W s) (_ : W.part .bus) (_ : W.part .cmd) (_ : W.part .em)
    (_ : W.part .emit) (_ : W.part .free) (_ : W.part .gl) (_ : W.part .mg) (_ : W.part .rc) (_ : W.part .tasks)
    (_ : Logs W) (ha : ∀ F, W.fld F) (hj : ∀ a b : Locks, W.locks a → W.locks (a.join b)) :
    KeptO W (execArm a1 a2 s) := by
  unfold execArm
  repeat' first
    | with_reducible assumption
    | (extract_lets +onlyGivenNames x
       first
       | (refine kept_cut (P := Kept W x) ?_ ?_; (on_goal 1 => subst x); (on_goal 2 => (intro _; try clear_value x)))
       | (try clear_value x))
    | (with_reducible first | apply kept_axiWrite | apply kept_quiet | apply keptO_next | (intro _; rfl))
    | (with_reducible first | (apply hj; assumption) | apply ha | apply kept_ite)
    | split | (clear_value *; split) | dsimp only

theorem kept_execRcClrErr {a1 : Access} (h : Kept W s) (_ : W.part .bus) (_ : W.part .cmd) (_ : W.part .em)
    (_ : W.part .emit) (_ : W.part .free) (_ : W.part .gl) (_ : W.part .mg) (_ : W.part .rc) (_ : W.part .tasks)
    (_ : Logs W) (ha : ∀ F, W.fld F) (hj : ∀ a b : Locks, W.locks a → W.locks (a.join b)) :
    KeptO W (execRcClrErr a1 s) := by
  unfold execRcClrErr
  repeat' first
    | with_reducible assumption
    | (extract_lets +onlyGivenNames x
       first
       | (refine kept_cut (P := Kept W x) ?_ ?_; (on_goal 1 => subst x); (on_goal 2 => (intro _; try clear_value x)))
       | (try clear_value x))
    | (with_reducible first | apply kept_axiWrite | apply kept_quiet | apply keptO_next | (intro _; rfl))
    | (with_reducible first | (apply hj; assumption) | apply ha | apply kept_ite)
    | split | (clear_value *; split) | dsimp only

theorem kept_execPwSnap {a1 : Nat} {a2 : Access} (h : Kept W s) (_ : W.part .bus) (_ : W.part .cmd) (_ : W.part .em)
    (_ : W.part .emit) (_ : W.part .free) (_ : W.part .gl) (_ : W.part .mg) (_ : W.part .rc) (_ : W.part .tasks)
    (_ : Logs W) (ha : ∀ F, W.fld F) (hj : ∀ a b : Locks, W.locks a → W.locks (a.join b)) :
    KeptO W (execPwSnap a1 a2 s) := by
  unfold execPwSnap
  repeat' first
    | with_reducible assumption
    | (extract_lets +onlyGivenNames x
       first
       | (refine kept_cut (P := Kept W x) ?_ ?_; (on_goal 1 => subst x); (on_goal 2 => (intro _; try clear_value x)))
       | (try clear_value x))
    | (with_reducible first | apply kept_quiet | apply kept_axiWrite | apply keptO_next | (intro _; rfl))
    | (with_reducible first | (apply hj; assumption) | apply ha | apply kept_ite)
    | split | (clear_value *; split) | dsimp only

theorem kept_execFlush {a1 : Nat} {a2 : Access} (h : Kept W s) (_ : W.part .bus) (_ : W.part .cmd) (_ : W.part .em)
    (_ : W.part .emit) (_ : W.part .free) (_ : W.part .gl) (_ : W.part .mg) (_ : W.part .rc) (_ : W.part .tasks)
    (_ : Logs W) (ha : ∀ F, W.fld F) (hj : ∀ a b : Locks, W.locks a → W.locks (a.join b)) :
    KeptO W (execFlush a1 a2 s) := by
  unfold execFlush
  repeat' first
    | with_reducible assumption
    | (extract_lets +onlyGivenNames x
       first
       | (refine kept_cut (P := Kept W x) ?_ ?_; (on_goal 1 => subst x); (on_goal 2 => (intro _; try clear_value x)))
       | (try clear_value x))
    | (with_reducible first | apply kept_axiWrite | apply kept_quiet | apply keptO_next | (intro _; rfl))
    | (with_reducible first | (apply hj; assumption) | apply ha | apply kept_ite)
    | split | (clear_value *; split) | dsimp only

theorem kept_execTake {a1 : Nat} {a2 : Access} (h : Kept W s) (_ : W.part .bus) (_ : W.part .cmd) (_ : W.part .em)
    (_ : W.part .emit) (_ : W.part .free) (_ : W.part .gl) (_ : W.part .mg) (_ : W.part .rc) (_ : W.part .tasks)
    (_ : Logs W) (ha : ∀ F, W.fld F) (hj : ∀ a b : Locks, W.locks a → W.locks (a.join b)) :
    KeptO W (execTake a1 a2 s) := by
  unfold execTake
  repeat' first
    | with_reducible assumption
    | (extract_lets +onlyGivenNames x
       first
       | (refine kept_cut (P := Kept W x) ?_ ?_; (on_goal 1 => subst x); (on_goal 2 => (intro _; try clear_value x)))
       | (try clear_value x))
    | (with_reducible first | apply kept_axiWrite | apply kept_quiet | apply keptO_next | (intro _; rfl))
    | (with_reducible first | (apply hj; assumption) | apply ha | apply kept_ite)
    | split | (clear_value *; split) | dsimp only

theorem kept_execRearm {a1 : Nat} {a2 : Access} (h : Kept W s) (_ : W.part .bus) (_ : W.part .cmd) (_ : W.part .em)
    (_ : W.part .emit) (_ : W.part .free) (_ : W.part .gl) (_ : W.part .mg) (_ : W.part .rc) (_ : W.part .tasks)
    (_ : Logs W) (ha : ∀ F, W.fld F) (hj : ∀ a b : Locks, W.locks a → W.locks (a.join b)) :
    KeptO W (execRearm a1 a2 s) := by
  unfold execRearm
  repeat' first
    | with_reducible assumption
    | (extract_lets +onlyGivenNames x
       first
       | (refine kept_cut (P := Kept W x) ?_ ?_; (on_goal 1 => subst x); (on_goal 2 => (intro _; try clear_value x)))
       | (try clear_value x))
    | (with_reducible first | apply kept_axiWrite | apply kept_quiet | apply keptO_next | (intro _; rfl))
    | (with_reducible first | (apply hj; assumption) | apply ha | apply kept_ite)
    | split | (clear_value *; split) | dsimp only

theorem kept_execPairLoWrite {a1 : Nat} {a2 : Nat} {a3 : Access} (h : Kept W s) (_ : W.part .bus) (_ : W.part .cmd)
    (_ : W.part .em) (_ : W.part .emit) (_ : W.part .free) (_ : W.part .gl) (_ : W.part .mg) (_ : W.part .rc)
    (_ : W.part .tasks) (_ : Logs W) (ha : ∀ F, W.fld F) (hj : ∀ a b : Locks, W.locks a → W.locks (a.join b)) :
    KeptO W (execPairLoWrite a1 a2 a3 s) := by
  unfold execPairLoWrite
  repeat' first
    | with_reducible assumption
    | (extract_lets +onlyGivenNames x
       first
       | (refine kept_cut (P := Kept W x) ?_ ?_; (on_goal 1 => subst x); (on_goal 2 => (intro _; try clear_value x)))
       | (try clear_value x))
    | (with_reducible first | apply kept_axiWrite | apply kept_quiet | apply keptO_next | (intro _; rfl))
    | (with_reducible first | (apply hj; assumption) | apply ha | apply kept_ite)
    | split | (clear_value *; split) | dsimp only

theorem kept_execPairHiWrite {a1 : Nat} {a2 : Nat} {a3 : Access} (h : Kept W s) (_ : W.part .bus) (_ : W.part .cmd)
    (_ : W.part .em) (_ : W.part .emit) (_ : W.part .free) (_ : W.part .gl) (_ : W.part .mg) (_ : W.part .rc)
    (_ : W.part .tasks) (_ : Logs W) (ha : ∀ F, W.fld F) (hj : ∀ a b : Locks, W.locks a → W.locks (a.join b)) :
    KeptO W (execPairHiWrite a1 a2 a3 s) := by
  unfold execPairHiWrite
  repeat' first
    | with_reducible assumption
    | (extract_lets +onlyGivenNames x
       first
       | (refine kept_cut (P := Kept W x) ?_ ?_; (on_goal 1 => subst x); (on_goal 2 => (intro _; try clear_value x)))
       | (try clear_value x))
    | (with_reducible first | apply kept_axiWrite | apply kept_quiet | apply keptO_next | (intro _; rfl))
    | (with_reducible first | (apply hj; assumption) | apply ha | apply kept_ite)
    | split | (clear_value *; split) | dsimp only

theorem kept_execRegisterWrite {a1 : Nat} {a2 : Nat} {a3 : Access} (h : Kept W s) (_ : W.part .bus) (_ : W.part .cmd)
    (_ : W.part .em) (_ : W.part .emit) (_ : W.part .free) (_ : W.part .gl) (_ : W.part .mg) (_ : W.part .rc)
    (_ : W.part .tasks) (_ : Logs W) (ha : ∀ F, W.fld F) (hj : ∀ a b : Locks, W.locks a → W.locks (a.join b)) :
    KeptO W (execRegisterWrite a1 a2 a3 s) := by
  unfold execRegisterWrite
  repeat' first
    | with_reducible assumption
    | (extract_lets +onlyGivenNames x
       first
       | (refine kept_cut (P := Kept W x) ?_ ?_; (on_goal 1 => subst x); (on_goal 2 => (intro _; try clear_value x)))
       | (try clear_value x))
    | (with_reducible first | apply kept_axiWrite | apply kept_quiet | apply keptO_next | (intro _; rfl))
    | (with_reducible first | (apply hj; assumption) | apply ha | apply kept_ite)
    | split | (clear_value *; split) | dsimp only

theorem kept_execRcHb {a1 : Nat} {a2 : Access} (h : Kept W s) (_ : W.part .bus) (_ : W.part .cmd) (_ : W.part .em)
    (_ : W.part .emit) (_ : W.part .free) (_ : W.part .gl) (_ : W.part .mg) (_ : W.part .rc) (_ : W.part .tasks)
    (_ : Logs W) (ha : ∀ F, W.fld F) (hj : ∀ a b : Locks, W.locks a → W.locks (a.join b)) :
    KeptO W (execRcHb a1 a2 s) := by
  unfold execRcHb
  repeat' first
    | with_reducible assumption
    | (extract_lets +onlyGivenNames x
       first
       | (refine kept_cut (P := Kept W x) ?_ ?_; (on_goal 1 => subst x); (on_goal 2 => (intro _; try clear_value x)))
       | (try clear_value x))
    | (with_reducible first | apply kept_axiWrite | apply kept_quiet | apply keptO_next | (intro _; rfl))
    | (with_reducible first | (apply hj; assumption) | apply ha | apply kept_ite)
    | split | (clear_value *; split) | dsimp only

theorem kept_execSscApply {a1 : Access} (h : Kept W s) (_ : W.part .bus) (_ : W.part .cmd) (_ : W.part .em)
    (_ : W.part .emit) (_ : W.part .free) (_ : W.part .gl) (_ : W.part .mg) (_ : W.part .rc) (_ : W.part .tasks)
    (_ : Logs W) (ha : ∀ F, W.fld F) (hj : ∀ a b : Locks, W.locks a → W.locks (a.join b)) :
    KeptO W (execSscApply a1 s) := by
  unfold execSscApply
  repeat' first
    | with_reducible assumption
    | (extract_lets +onlyGivenNames x
       first
       | (refine kept_cut (P := Kept W x) ?_ ?_; (on_goal 1 => subst x); (on_goal 2 => (intro _; try clear_value x)))
       | (try clear_value x))
    | (with_reducible first | apply kept_axiWrite | apply kept_quiet | apply keptO_next | (intro _; rfl))
    | (with_reducible first | (apply hj; assumption) | apply ha | apply kept_ite)
    | split | (clear_value *; split) | dsimp only

theorem kept_execRetrain {a1 : Access} (h : Kept W s) (_ : W.part .bus) (_ : W.part .cmd) (_ : W.part .em)
    (_ : W.part .emit) (_ : W.part .free) (_ : W.part .gl) (_ : W.part .mg) (_ : W.part .rc) (_ : W.part .tasks)
    (_ : Logs W) (ha : ∀ F, W.fld F) (hj : ∀ a b : Locks, W.locks a → W.locks (a.join b)) :
    KeptO W (execRetrain a1 s) := by
  unfold execRetrain
  repeat' first
    | with_reducible assumption
    | (extract_lets +onlyGivenNames x
       first
       | (refine kept_cut (P := Kept W x) ?_ ?_; (on_goal 1 => subst x); (on_goal 2 => (intro _; try clear_value x)))
       | (try clear_value x))
    | (with_reducible first | apply kept_axiWrite | apply kept_quiet | apply keptO_next | (intro _; rfl))
    | (with_reducible first | (apply hj; assumption) | apply ha | apply kept_ite)
    | split | (clear_value *; split) | dsimp only

theorem kept_execSnapLoRead {a1 : Nat} {a2 : Access} (h : Kept W s) (_ : W.part .bus) (_ : W.part .emit)
    (_ : W.fld ACC_ERR_ADDR.ADDR) (_ : W.fld ACC_ERR_INFO.CAUSE) (_ : W.fld ACC_ERR_INFO.COUNT)
    (_ : W.fld ACC_ERR_INFO.ID) (_ : W.fld ACC_ERR_INFO.NS) (_ : W.fld ACC_ERR_INFO.SVC)
    (_ : W.fld ACC_ERR_INFO.WRITE) (_ : W.fld GSTAT.ACCESS_ERR) (_ : W.fld GSTAT.SNAP_STALE) (_ : W.fld SNT_IDX.IDX) :
    KeptO W (execSnapLoRead a1 a2 s) := by
  unfold execSnapLoRead
  repeat' first
    | with_reducible assumption
    | (extract_lets +onlyGivenNames x
       first
       | (refine kept_cut (P := Kept W x) ?_ ?_; (on_goal 1 => subst x); (on_goal 2 => (intro _; try clear_value x)))
       | (try clear_value x))
    | (with_reducible first | apply kept_axiRead | apply kept_quiet | apply keptO_next | (intro _; rfl))
    | (with_reducible first | apply kept_ite)
    | split | (clear_value *; split) | dsimp only

theorem kept_execSnapHiRead {a1 : Nat} {a2 : Access} (h : Kept W s) (_ : W.part .bus) (_ : W.part .emit)
    (_ : W.fld ACC_ERR_ADDR.ADDR) (_ : W.fld ACC_ERR_INFO.CAUSE) (_ : W.fld ACC_ERR_INFO.COUNT)
    (_ : W.fld ACC_ERR_INFO.ID) (_ : W.fld ACC_ERR_INFO.NS) (_ : W.fld ACC_ERR_INFO.SVC)
    (_ : W.fld ACC_ERR_INFO.WRITE) (_ : W.fld GSTAT.ACCESS_ERR) (_ : W.fld GSTAT.SNAP_STALE) (_ : W.fld SNT_IDX.IDX) :
    KeptO W (execSnapHiRead a1 a2 s) := by
  unfold execSnapHiRead
  repeat' first
    | with_reducible assumption
    | (extract_lets +onlyGivenNames x
       first
       | (refine kept_cut (P := Kept W x) ?_ ?_; (on_goal 1 => subst x); (on_goal 2 => (intro _; try clear_value x)))
       | (try clear_value x))
    | (with_reducible first | apply kept_axiRead | apply kept_quiet | apply keptO_next | (intro _; rfl))
    | (with_reducible first | apply kept_ite)
    | split | (clear_value *; split) | dsimp only

end Sys2Proof.Machine
end

