-- ==== Sys2Proof/Laws/KeptCommands.lean ====
section
/-! SUPPORT. What the operations of `Commands.lean` keep (see `Kept.lean`). -/

set_option linter.unusedVariables false
set_option linter.unusedTactic false
set_option linter.unreachableTactic false
set_option linter.tactic.unusedName false

namespace Sys2Proof.Machine

variable {W : Bounds} {s : State}

theorem kept_replied {a1 : Nat} {a3 : optParam (List Nat) []} (h : Kept W s) : Kept2 W (replied a1 s a3) := by
  unfold replied
  repeat' first
    | with_reducible assumption
    | (extract_lets +onlyGivenNames x
       first
       | (refine kept_cut (P := Kept W x) ?_ ?_; (on_goal 1 => subst x); (on_goal 2 => (intro _; try clear_value x)))
       | (try clear_value x))
    | (with_reducible first | apply kept2_mk | (intro _; rfl) | apply kept_ite)
    | split | (clear_value *; split) | dsimp only

theorem kept_hintRefused {op st : Nat} (h : Kept W s) (k : op = 0x30 → W.fld BG_HINT_CNT.REJECTED) :
    Kept W (State.hintRefused s op st) := by
  unfold State.hintRefused
  split
  · next hc => exact kept_inc h (k (by simp at hc; exact hc.1))
  · exact h

theorem kept_runOp {a2 : Nat} {a3 : State → Nat → Packet → Result × State} (h : Kept W s)
    (k3 : ∀ x l0 l1, Kept W x → Kept2 W (a3 x l0 l1)) (_ : W.part .bus) (_ : W.part .cmd) (_ : Logs W)
    (_ : a2 = 0x30 → W.fld BG_HINT_CNT.REJECTED) (_ : W.fld CMD_CNT.EXEC) (_ : W.fld CMD_LAST.OPCODE) (_ : W.fld CMD_LAST.SEQ)
    (_ : W.fld CMD_LAST.STATUS) (_ : W.fld CMD_LAST_SRC.CLASS) (_ : W.fld CMD_LAST_SRC.INSTANCE)
    (_ : W.fld CMD_REFUSED.BADOP) (_ : W.fld CMD_REFUSED.BADPARAM) (_ : W.fld CMD_REFUSED.NOPERM)
    (_ : W.fld CMD_REFUSED.VERSION) (_ : W.fld MB_CTL.OWED) (_ : W.fld MB_CTL.RQ) (_ : W.fld RING_STAT.OWED) :
    Kept W (State.runOp s a2 a3) := by
  unfold State.runOp
  repeat' first
    | with_reducible assumption
    | (extract_lets +onlyGivenNames x
       first
       | (refine kept_cut (P := Kept W x) ?_ ?_; (on_goal 1 => subst x); (on_goal 2 => (intro _; try clear_value x)))
       | (refine kept_cut (P := Kept2 W x) ?_ ?_; (on_goal 1 => subst x); (on_goal 2 => (intro _; try clear_value x)))
       | (try clear_value x))
    | (with_reducible first | apply kept_popPacket | apply kept_hintRefused | apply kept_answer)
    | (with_reducible first | apply kept_answerUndefined | apply kept_inc | apply k3 | apply kept2_mk)
    | (with_reducible first | (apply kept2_snd; assumption) | (apply kept2_snd; apply k3))
    | (with_reducible first | refine kept_of2 (by assumption) ?_ | (intro _; rfl) | apply kept_ite)
    | (intro _ _ _ _; try beta_reduce) | (intro _ _ _; try beta_reduce) | (intro _ _; try beta_reduce)
    | split | (clear_value *; split) | dsimp only

theorem kept_actRead {a1 : List Nat} {a3 : Nat} {a4 : Packet} (h : Kept W s) : Kept2 W (actRead a1 s a3 a4) := by
  unfold actRead
  repeat' first
    | with_reducible assumption
    | (extract_lets +onlyGivenNames x
       first
       | (refine kept_cut (P := Kept W x) ?_ ?_; (on_goal 1 => subst x); (on_goal 2 => (intro _; try clear_value x)))
       | (refine kept_cut (P := Kept2 W x) ?_ ?_; (on_goal 1 => subst x); (on_goal 2 => (intro _; try clear_value x)))
       | (try clear_value x))
    | (with_reducible first | apply kept_replied | apply kept2_mk | (apply kept2_snd; assumption))
    | (with_reducible first | (apply kept2_snd; apply kept_replied) | refine kept_of2 (by assumption) ?_)
    | (with_reducible first | (intro _; rfl) | apply kept_ite)
    | split | (clear_value *; split) | dsimp only

theorem kept_execIdent (h : Kept W s) (_ : W.part .bus) (_ : W.part .cmd) (_ : W.part .emit) (_ : Logs W)
    (_ : W.fld CMD_CNT.EXEC) (_ : W.fld CMD_LAST.OPCODE) (_ : W.fld CMD_LAST.SEQ) (_ : W.fld CMD_LAST.STATUS)
    (_ : W.fld CMD_LAST_SRC.CLASS) (_ : W.fld CMD_LAST_SRC.INSTANCE) (_ : W.fld CMD_REFUSED.BADOP)
    (_ : W.fld CMD_REFUSED.BADPARAM) (_ : W.fld CMD_REFUSED.NOPERM) (_ : W.fld CMD_REFUSED.VERSION)
    (_ : W.fld MB_CTL.OWED) (_ : W.fld MB_CTL.RQ) (_ : W.fld RING_STAT.OWED) : KeptO W (execIdent s) := by
  unfold execIdent
  repeat' first
    | with_reducible assumption
    | (extract_lets +onlyGivenNames x
       first
       | (refine kept_cut (P := Kept W x) ?_ ?_; (on_goal 1 => subst x); (on_goal 2 => (intro _; try clear_value x)))
       | (refine kept_cut (P := Kept2 W x) ?_ ?_; (on_goal 1 => subst x); (on_goal 2 => (intro _; try clear_value x)))
       | (try clear_value x))
    | (with_reducible first | apply kept_quiet | apply kept_runOp | apply kept_replied | apply keptO_next)
    | (with_reducible first | apply kept2_mk | (apply kept2_snd; assumption) | (apply kept2_snd; apply kept_replied))
    | (with_reducible first | refine kept_of2 (by assumption) ?_ | (intro e; exact absurd e (by decide)))
    | (with_reducible first | (intro _; assumption) | (intro _; rfl) | apply kept_ite)
    | (intro _ _ _ _; try beta_reduce) | (intro _ _ _; try beta_reduce) | (intro _ _; try beta_reduce)
    | split | (clear_value *; split) | dsimp only

theorem kept_execStatus (h : Kept W s) (_ : W.part .bus) (_ : W.part .cmd) (_ : W.part .emit) (_ : Logs W)
    (_ : W.fld CMD_CNT.EXEC) (_ : W.fld CMD_LAST.OPCODE) (_ : W.fld CMD_LAST.SEQ) (_ : W.fld CMD_LAST.STATUS)
    (_ : W.fld CMD_LAST_SRC.CLASS) (_ : W.fld CMD_LAST_SRC.INSTANCE) (_ : W.fld CMD_REFUSED.BADOP)
    (_ : W.fld CMD_REFUSED.BADPARAM) (_ : W.fld CMD_REFUSED.NOPERM) (_ : W.fld CMD_REFUSED.VERSION)
    (_ : W.fld MB_CTL.OWED) (_ : W.fld MB_CTL.RQ) (_ : W.fld RING_STAT.OWED) : KeptO W (execStatus s) := by
  unfold execStatus
  repeat' first
    | with_reducible assumption
    | (extract_lets +onlyGivenNames x
       first
       | (refine kept_cut (P := Kept W x) ?_ ?_; (on_goal 1 => subst x); (on_goal 2 => (intro _; try clear_value x)))
       | (refine kept_cut (P := Kept2 W x) ?_ ?_; (on_goal 1 => subst x); (on_goal 2 => (intro _; try clear_value x)))
       | (try clear_value x))
    | (with_reducible first | apply kept_quiet | apply kept_runOp | apply kept_actRead | apply keptO_next)
    | (with_reducible first | apply kept2_mk | (apply kept2_snd; assumption) | (apply kept2_snd; apply kept_actRead))
    | (with_reducible first | refine kept_of2 (by assumption) ?_ | (intro e; exact absurd e (by decide)))
    | (with_reducible first | (intro _; assumption) | (intro _; rfl) | apply kept_ite)
    | (intro _ _ _ _; try beta_reduce) | (intro _ _ _; try beta_reduce) | (intro _ _; try beta_reduce)
    | split | (clear_value *; split) | dsimp only

theorem kept_execEcho (h : Kept W s) (_ : W.part .bus) (_ : W.part .cmd) (_ : W.part .emit) (_ : Logs W)
    (_ : W.fld CMD_CNT.EXEC) (_ : W.fld CMD_LAST.OPCODE) (_ : W.fld CMD_LAST.SEQ) (_ : W.fld CMD_LAST.STATUS)
    (_ : W.fld CMD_LAST_SRC.CLASS) (_ : W.fld CMD_LAST_SRC.INSTANCE) (_ : W.fld CMD_REFUSED.BADOP)
    (_ : W.fld CMD_REFUSED.BADPARAM) (_ : W.fld CMD_REFUSED.NOPERM) (_ : W.fld CMD_REFUSED.VERSION)
    (_ : W.fld MB_CTL.OWED) (_ : W.fld MB_CTL.RQ) (_ : W.fld RING_STAT.OWED) : KeptO W (execEcho s) := by
  unfold execEcho
  repeat' first
    | with_reducible assumption
    | (extract_lets +onlyGivenNames x
       first
       | (refine kept_cut (P := Kept W x) ?_ ?_; (on_goal 1 => subst x); (on_goal 2 => (intro _; try clear_value x)))
       | (refine kept_cut (P := Kept2 W x) ?_ ?_; (on_goal 1 => subst x); (on_goal 2 => (intro _; try clear_value x)))
       | (try clear_value x))
    | (with_reducible first | apply kept_quiet | apply kept_runOp | apply kept_replied | apply keptO_next)
    | (with_reducible first | apply kept2_mk | (apply kept2_snd; assumption) | (apply kept2_snd; apply kept_replied))
    | (with_reducible first | refine kept_of2 (by assumption) ?_ | (intro e; exact absurd e (by decide)))
    | (with_reducible first | (intro _; assumption) | (intro _; rfl) | apply kept_ite)
    | (intro _ _ _ _; try beta_reduce) | (intro _ _ _; try beta_reduce) | (intro _ _; try beta_reduce)
    | split | (clear_value *; split) | dsimp only

theorem kept_execReadTick (h : Kept W s) (_ : W.part .bus) (_ : W.part .cmd) (_ : W.part .emit) (_ : Logs W)
    (_ : W.fld CMD_CNT.EXEC) (_ : W.fld CMD_LAST.OPCODE) (_ : W.fld CMD_LAST.SEQ) (_ : W.fld CMD_LAST.STATUS)
    (_ : W.fld CMD_LAST_SRC.CLASS) (_ : W.fld CMD_LAST_SRC.INSTANCE) (_ : W.fld CMD_REFUSED.BADOP)
    (_ : W.fld CMD_REFUSED.BADPARAM) (_ : W.fld CMD_REFUSED.NOPERM) (_ : W.fld CMD_REFUSED.VERSION)
    (_ : W.fld MB_CTL.OWED) (_ : W.fld MB_CTL.RQ) (_ : W.fld RING_STAT.OWED) : KeptO W (execReadTick s) := by
  unfold execReadTick
  repeat' first
    | with_reducible assumption
    | (extract_lets +onlyGivenNames x
       first
       | (refine kept_cut (P := Kept W x) ?_ ?_; (on_goal 1 => subst x); (on_goal 2 => (intro _; try clear_value x)))
       | (refine kept_cut (P := Kept2 W x) ?_ ?_; (on_goal 1 => subst x); (on_goal 2 => (intro _; try clear_value x)))
       | (try clear_value x))
    | (with_reducible first | apply kept_quiet | apply kept_runOp | apply kept_replied | apply keptO_next)
    | (with_reducible first | apply kept2_mk | (apply kept2_snd; assumption) | (apply kept2_snd; apply kept_replied))
    | (with_reducible first | refine kept_of2 (by assumption) ?_ | (intro e; exact absurd e (by decide)))
    | (with_reducible first | (intro _; assumption) | (intro _; rfl) | apply kept_ite)
    | (intro _ _ _ _; try beta_reduce) | (intro _ _ _; try beta_reduce) | (intro _ _; try beta_reduce)
    | split | (clear_value *; split) | dsimp only

theorem kept_execSvcCap (h : Kept W s) (_ : W.part .bus) (_ : W.part .cmd) (_ : W.part .emit) (_ : W.part .eng)
    (_ : Logs W) (_ : W.fld CMD_CNT.EXEC) (_ : W.fld CMD_LAST.OPCODE) (_ : W.fld CMD_LAST.SEQ)
    (_ : W.fld CMD_LAST.STATUS) (_ : W.fld CMD_LAST_SRC.CLASS) (_ : W.fld CMD_LAST_SRC.INSTANCE)
    (_ : W.fld CMD_REFUSED.BADOP) (_ : W.fld CMD_REFUSED.BADPARAM) (_ : W.fld CMD_REFUSED.NOPERM)
    (_ : W.fld CMD_REFUSED.VERSION) (_ : W.fld ENG_SLEWV.OUT) (_ : W.fld ENG_SLEWV.TARGET) (_ : W.fld MB_CTL.OWED)
    (_ : W.fld MB_CTL.RQ) (_ : W.fld RING_STAT.OWED) : KeptO W (execSvcCap s) := by
  unfold execSvcCap
  repeat' first
    | with_reducible assumption
    | (extract_lets +onlyGivenNames x
       first
       | (refine kept_cut (P := Kept W x) ?_ ?_; (on_goal 1 => subst x); (on_goal 2 => (intro _; try clear_value x)))
       | (refine kept_cut (P := Kept2 W x) ?_ ?_; (on_goal 1 => subst x); (on_goal 2 => (intro _; try clear_value x)))
       | (try clear_value x))
    | (with_reducible first | apply kept_quiet | apply kept_runOp | apply kept_replied | apply kept_giveTarget)
    | (with_reducible first | apply keptO_next | apply kept2_mk | (apply kept2_snd; assumption))
    | (with_reducible first | (apply kept2_snd; apply kept_replied) | refine kept_of2 (by assumption) ?_)
    | (with_reducible first | (intro e; exact absurd e (by decide)) | (intro _; assumption) | (intro _; rfl))
    | (with_reducible first | apply kept_ite)
    | (intro _ _ _ _; try beta_reduce) | (intro _ _ _; try beta_reduce) | (intro _ _; try beta_reduce)
    | split | (clear_value *; split) | dsimp only

theorem kept_actSetPart {a2 : Nat} {a3 : Packet} (h : Kept W s) (_ : W.fld BG_PART.CLASS) (_ : W.fld BG_PART.FLOOR)
    (_ : W.fld BG_PART.IDLE_GATE) : Kept2 W (actSetPart s a2 a3) := by
  unfold actSetPart
  repeat' first
    | with_reducible assumption
    | (extract_lets +onlyGivenNames x
       first
       | (refine kept_cut (P := Kept W x) ?_ ?_; (on_goal 1 => subst x); (on_goal 2 => (intro _; try clear_value x)))
       | (refine kept_cut (P := Kept2 W x) ?_ ?_; (on_goal 1 => subst x); (on_goal 2 => (intro _; try clear_value x)))
       | (try clear_value x))
    | (with_reducible first | apply kept_replied | apply kept_wr | apply kept2_mk | (apply kept2_snd; assumption))
    | (with_reducible first | (apply kept2_snd; apply kept_replied) | refine kept_of2 (by assumption) ?_)
    | (with_reducible first | (intro _; rfl) | apply kept_ite)
    | split | (clear_value *; split) | dsimp only

theorem kept_execSetPart (h : Kept W s) (_ : W.part .bus) (_ : W.part .cmd) (_ : W.part .emit) (_ : Logs W)
    (_ : W.fld BG_PART.CLASS) (_ : W.fld BG_PART.FLOOR) (_ : W.fld BG_PART.IDLE_GATE) (_ : W.fld CMD_CNT.EXEC)
    (_ : W.fld CMD_LAST.OPCODE) (_ : W.fld CMD_LAST.SEQ) (_ : W.fld CMD_LAST.STATUS) (_ : W.fld CMD_LAST_SRC.CLASS)
    (_ : W.fld CMD_LAST_SRC.INSTANCE) (_ : W.fld CMD_REFUSED.BADOP) (_ : W.fld CMD_REFUSED.BADPARAM)
    (_ : W.fld CMD_REFUSED.NOPERM) (_ : W.fld CMD_REFUSED.VERSION) (_ : W.fld MB_CTL.OWED) (_ : W.fld MB_CTL.RQ)
    (_ : W.fld RING_STAT.OWED) : KeptO W (execSetPart s) := by
  unfold execSetPart
  repeat' first
    | with_reducible assumption
    | (extract_lets +onlyGivenNames x
       first
       | (refine kept_cut (P := Kept W x) ?_ ?_; (on_goal 1 => subst x); (on_goal 2 => (intro _; try clear_value x)))
       | (refine kept_cut (P := Kept2 W x) ?_ ?_; (on_goal 1 => subst x); (on_goal 2 => (intro _; try clear_value x)))
       | (try clear_value x))
    | (with_reducible first | apply kept_quiet | apply kept_runOp | apply kept_actSetPart | apply keptO_next)
    | (with_reducible first | apply kept2_mk | (apply kept2_snd; assumption))
    | (with_reducible first | (apply kept2_snd; apply kept_actSetPart) | refine kept_of2 (by assumption) ?_)
    | (with_reducible first | (intro e; exact absurd e (by decide)) | (intro _; assumption) | (intro _; rfl))
    | (with_reducible first | apply kept_ite)
    | (intro _ _ _ _; try beta_reduce) | (intro _ _ _; try beta_reduce) | (intro _ _; try beta_reduce)
    | split | (clear_value *; split) | dsimp only

theorem kept_actAssign {a2 : Nat} {a3 : Packet} (h : Kept W s) (_ : W.fld BG_CLPART.PART) (_ : W.fld BG_CLPART.VALID)
    : Kept2 W (actAssign s a2 a3) := by
  unfold actAssign
  repeat' first
    | with_reducible assumption
    | (extract_lets +onlyGivenNames x
       first
       | (refine kept_cut (P := Kept W x) ?_ ?_; (on_goal 1 => subst x); (on_goal 2 => (intro _; try clear_value x)))
       | (refine kept_cut (P := Kept2 W x) ?_ ?_; (on_goal 1 => subst x); (on_goal 2 => (intro _; try clear_value x)))
       | (try clear_value x))
    | (with_reducible first | apply kept_replied | apply kept_wr | apply kept_foldl | apply kept2_foldl)
    | (with_reducible first | apply kept2_mk | (apply kept2_snd; assumption) | (apply kept2_snd; apply kept_replied))
    | (with_reducible first | refine kept_of2 (by assumption) ?_ | (intro _; rfl) | apply kept_ite)
    | (intro _ _ _ _; try beta_reduce) | (intro _ _ _; try beta_reduce) | (intro _ _; try beta_reduce)
    | split | (clear_value *; split) | dsimp only

theorem kept_execAssign (h : Kept W s) (_ : W.part .bus) (_ : W.part .cmd) (_ : W.part .emit) (_ : Logs W)
    (_ : W.fld BG_CLPART.PART) (_ : W.fld BG_CLPART.VALID) (_ : W.fld CMD_CNT.EXEC) (_ : W.fld CMD_LAST.OPCODE)
    (_ : W.fld CMD_LAST.SEQ) (_ : W.fld CMD_LAST.STATUS) (_ : W.fld CMD_LAST_SRC.CLASS)
    (_ : W.fld CMD_LAST_SRC.INSTANCE) (_ : W.fld CMD_REFUSED.BADOP) (_ : W.fld CMD_REFUSED.BADPARAM)
    (_ : W.fld CMD_REFUSED.NOPERM) (_ : W.fld CMD_REFUSED.VERSION) (_ : W.fld MB_CTL.OWED) (_ : W.fld MB_CTL.RQ)
    (_ : W.fld RING_STAT.OWED) : KeptO W (execAssign s) := by
  unfold execAssign
  repeat' first
    | with_reducible assumption
    | (extract_lets +onlyGivenNames x
       first
       | (refine kept_cut (P := Kept W x) ?_ ?_; (on_goal 1 => subst x); (on_goal 2 => (intro _; try clear_value x)))
       | (refine kept_cut (P := Kept2 W x) ?_ ?_; (on_goal 1 => subst x); (on_goal 2 => (intro _; try clear_value x)))
       | (try clear_value x))
    | (with_reducible first | apply kept_quiet | apply kept_runOp | apply kept_actAssign | apply keptO_next)
    | (with_reducible first | apply kept2_mk | (apply kept2_snd; assumption))
    | (with_reducible first | (apply kept2_snd; apply kept_actAssign) | refine kept_of2 (by assumption) ?_)
    | (with_reducible first | (intro e; exact absurd e (by decide)) | (intro _; assumption) | (intro _; rfl))
    | (with_reducible first | apply kept_ite)
    | (intro _ _ _ _; try beta_reduce) | (intro _ _ _; try beta_reduce) | (intro _ _; try beta_reduce)
    | split | (clear_value *; split) | dsimp only

theorem kept_execBudgetRead (h : Kept W s) (_ : W.part .bus) (_ : W.part .cmd) (_ : W.part .emit) (_ : Logs W)
    (_ : W.fld CMD_CNT.EXEC) (_ : W.fld CMD_LAST.OPCODE) (_ : W.fld CMD_LAST.SEQ) (_ : W.fld CMD_LAST.STATUS)
    (_ : W.fld CMD_LAST_SRC.CLASS) (_ : W.fld CMD_LAST_SRC.INSTANCE) (_ : W.fld CMD_REFUSED.BADOP)
    (_ : W.fld CMD_REFUSED.BADPARAM) (_ : W.fld CMD_REFUSED.NOPERM) (_ : W.fld CMD_REFUSED.VERSION)
    (_ : W.fld MB_CTL.OWED) (_ : W.fld MB_CTL.RQ) (_ : W.fld RING_STAT.OWED) : KeptO W (execBudgetRead s) := by
  unfold execBudgetRead
  repeat' first
    | with_reducible assumption
    | (extract_lets +onlyGivenNames x
       first
       | (refine kept_cut (P := Kept W x) ?_ ?_; (on_goal 1 => subst x); (on_goal 2 => (intro _; try clear_value x)))
       | (refine kept_cut (P := Kept2 W x) ?_ ?_; (on_goal 1 => subst x); (on_goal 2 => (intro _; try clear_value x)))
       | (try clear_value x))
    | (with_reducible first | apply kept_quiet | apply kept_runOp | apply kept_actRead | apply keptO_next)
    | (with_reducible first | apply kept2_mk | (apply kept2_snd; assumption) | (apply kept2_snd; apply kept_actRead))
    | (with_reducible first | refine kept_of2 (by assumption) ?_ | (intro e; exact absurd e (by decide)))
    | (with_reducible first | (intro _; assumption) | (intro _; rfl) | apply kept_ite)
    | (intro _ _ _ _; try beta_reduce) | (intro _ _ _; try beta_reduce) | (intro _ _; try beta_reduce)
    | split | (clear_value *; split) | dsimp only

theorem kept_execPartRead (h : Kept W s) (_ : W.part .bus) (_ : W.part .cmd) (_ : W.part .emit) (_ : Logs W)
    (_ : W.fld CMD_CNT.EXEC) (_ : W.fld CMD_LAST.OPCODE) (_ : W.fld CMD_LAST.SEQ) (_ : W.fld CMD_LAST.STATUS)
    (_ : W.fld CMD_LAST_SRC.CLASS) (_ : W.fld CMD_LAST_SRC.INSTANCE) (_ : W.fld CMD_REFUSED.BADOP)
    (_ : W.fld CMD_REFUSED.BADPARAM) (_ : W.fld CMD_REFUSED.NOPERM) (_ : W.fld CMD_REFUSED.VERSION)
    (_ : W.fld MB_CTL.OWED) (_ : W.fld MB_CTL.RQ) (_ : W.fld RING_STAT.OWED) : KeptO W (execPartRead s) := by
  unfold execPartRead
  repeat' first
    | with_reducible assumption
    | (extract_lets +onlyGivenNames x
       first
       | (refine kept_cut (P := Kept W x) ?_ ?_; (on_goal 1 => subst x); (on_goal 2 => (intro _; try clear_value x)))
       | (refine kept_cut (P := Kept2 W x) ?_ ?_; (on_goal 1 => subst x); (on_goal 2 => (intro _; try clear_value x)))
       | (try clear_value x))
    | (with_reducible first | apply kept_quiet | apply kept_runOp | apply kept_actRead | apply keptO_next)
    | (with_reducible first | apply kept2_mk | (apply kept2_snd; assumption) | (apply kept2_snd; apply kept_actRead))
    | (with_reducible first | refine kept_of2 (by assumption) ?_ | (intro e; exact absurd e (by decide)))
    | (with_reducible first | (intro _; assumption) | (intro _; rfl) | apply kept_ite)
    | (intro _ _ _ _; try beta_reduce) | (intro _ _ _; try beta_reduce) | (intro _ _; try beta_reduce)
    | split | (clear_value *; split) | dsimp only

theorem kept_putOut {a2 : Nat} {a3 : Packet} {a4 : Waiting} {a5 : optParam (List Nat) []} (h : Kept W s)
    (_ : W.part .cmd) : Kept W (State.putOut s a2 a3 a4 a5) := by
  unfold State.putOut
  repeat' first
    | with_reducible assumption
    | (extract_lets +onlyGivenNames x
       first
       | (refine kept_cut (P := Kept W x) ?_ ?_; (on_goal 1 => subst x); (on_goal 2 => (intro _; try clear_value x)))
       | (try clear_value x))
    | (with_reducible first | apply kept_setCmd | (intro _; rfl) | apply kept_ite)
    | split | (clear_value *; split) | dsimp only

theorem kept_actDomains {a1 : Bool} {a3 : Nat} {a4 : Packet} (h : Kept W s) (_ : W.part .cad) (_ : W.part .cmd)
    (_ : W.part .rim) (_ : W.part .tasks) (_ : W.fld SWD_STAT.PEND) (_ : W.fld SWD_STAT.WAIT_SLOT) :
    Kept2 W (actDomains a1 s a3 a4) := by
  unfold actDomains
  repeat' first
    | with_reducible assumption
    | (extract_lets +onlyGivenNames x
       first
       | (refine kept_cut (P := Kept W x) ?_ ?_; (on_goal 1 => subst x); (on_goal 2 => (intro _; try clear_value x)))
       | (refine kept_cut (P := Kept2 W x) ?_ ?_; (on_goal 1 => subst x); (on_goal 2 => (intro _; try clear_value x)))
       | (try clear_value x))
    | (with_reducible first | apply kept_replied | apply kept_schedule | apply kept_putOut | apply kept_requestOn)
    | (with_reducible first | apply kept_requestOff | apply kept_foldl | apply kept2_foldl | apply kept2_mk)
    | (with_reducible first | (apply kept2_snd; assumption) | (apply kept2_snd; apply kept_replied))
    | (with_reducible first | (apply kept2_snd; apply kept_schedule) | refine kept_of2 (by assumption) ?_)
    | (with_reducible first | (intro _; rfl) | apply kept_ite)
    | (intro _ _ _ _; try beta_reduce) | (intro _ _ _; try beta_reduce) | (intro _ _; try beta_reduce)
    | split | (clear_value *; split) | dsimp only

theorem kept_execDomainOn (h : Kept W s) (_ : W.part .bus) (_ : W.part .cad) (_ : W.part .cmd) (_ : W.part .emit)
    (_ : W.part .rim) (_ : W.part .tasks) (_ : Logs W) (_ : W.fld CMD_CNT.EXEC) (_ : W.fld CMD_LAST.OPCODE)
    (_ : W.fld CMD_LAST.SEQ) (_ : W.fld CMD_LAST.STATUS) (_ : W.fld CMD_LAST_SRC.CLASS)
    (_ : W.fld CMD_LAST_SRC.INSTANCE) (_ : W.fld CMD_REFUSED.BADOP) (_ : W.fld CMD_REFUSED.BADPARAM)
    (_ : W.fld CMD_REFUSED.NOPERM) (_ : W.fld CMD_REFUSED.VERSION) (_ : W.fld MB_CTL.OWED) (_ : W.fld MB_CTL.RQ)
    (_ : W.fld RING_STAT.OWED) (_ : W.fld SWD_STAT.PEND) (_ : W.fld SWD_STAT.WAIT_SLOT) :
    KeptO W (execDomainOn s) := by
  unfold execDomainOn
  repeat' first
    | with_reducible assumption
    | (extract_lets +onlyGivenNames x
       first
       | (refine kept_cut (P := Kept W x) ?_ ?_; (on_goal 1 => subst x); (on_goal 2 => (intro _; try clear_value x)))
       | (refine kept_cut (P := Kept2 W x) ?_ ?_; (on_goal 1 => subst x); (on_goal 2 => (intro _; try clear_value x)))
       | (try clear_value x))
    | (with_reducible first | apply kept_quiet | apply kept_runOp | apply kept_actDomains | apply keptO_next)
    | (with_reducible first | apply kept2_mk | (apply kept2_snd; assumption))
    | (with_reducible first | (apply kept2_snd; apply kept_actDomains) | refine kept_of2 (by assumption) ?_)
    | (with_reducible first | (intro e; exact absurd e (by decide)) | (intro _; assumption) | (intro _; rfl))
    | (with_reducible first | apply kept_ite)
    | (intro _ _ _ _; try beta_reduce) | (intro _ _ _; try beta_reduce) | (intro _ _; try beta_reduce)
    | split | (clear_value *; split) | dsimp only

theorem kept_execDomainOff (h : Kept W s) (_ : W.part .bus) (_ : W.part .cad) (_ : W.part .cmd) (_ : W.part .emit)
    (_ : W.part .rim) (_ : W.part .tasks) (_ : Logs W) (_ : W.fld CMD_CNT.EXEC) (_ : W.fld CMD_LAST.OPCODE)
    (_ : W.fld CMD_LAST.SEQ) (_ : W.fld CMD_LAST.STATUS) (_ : W.fld CMD_LAST_SRC.CLASS)
    (_ : W.fld CMD_LAST_SRC.INSTANCE) (_ : W.fld CMD_REFUSED.BADOP) (_ : W.fld CMD_REFUSED.BADPARAM)
    (_ : W.fld CMD_REFUSED.NOPERM) (_ : W.fld CMD_REFUSED.VERSION) (_ : W.fld MB_CTL.OWED) (_ : W.fld MB_CTL.RQ)
    (_ : W.fld RING_STAT.OWED) (_ : W.fld SWD_STAT.PEND) (_ : W.fld SWD_STAT.WAIT_SLOT) :
    KeptO W (execDomainOff s) := by
  unfold execDomainOff
  repeat' first
    | with_reducible assumption
    | (extract_lets +onlyGivenNames x
       first
       | (refine kept_cut (P := Kept W x) ?_ ?_; (on_goal 1 => subst x); (on_goal 2 => (intro _; try clear_value x)))
       | (refine kept_cut (P := Kept2 W x) ?_ ?_; (on_goal 1 => subst x); (on_goal 2 => (intro _; try clear_value x)))
       | (try clear_value x))
    | (with_reducible first | apply kept_quiet | apply kept_runOp | apply kept_actDomains | apply keptO_next)
    | (with_reducible first | apply kept2_mk | (apply kept2_snd; assumption))
    | (with_reducible first | (apply kept2_snd; apply kept_actDomains) | refine kept_of2 (by assumption) ?_)
    | (with_reducible first | (intro e; exact absurd e (by decide)) | (intro _; assumption) | (intro _; rfl))
    | (with_reducible first | apply kept_ite)
    | (intro _ _ _ _; try beta_reduce) | (intro _ _ _; try beta_reduce) | (intro _ _; try beta_reduce)
    | split | (clear_value *; split) | dsimp only

theorem kept_holdRest {a2 : Option Bool} (h : Kept W s) (_ : W.part .rim) : Kept W (State.holdRest s a2) := by
  unfold State.holdRest
  repeat' first
    | with_reducible assumption
    | (extract_lets +onlyGivenNames x
       first
       | (refine kept_cut (P := Kept W x) ?_ ?_; (on_goal 1 => subst x); (on_goal 2 => (intro _; try clear_value x)))
       | (try clear_value x))
    | (with_reducible first | apply kept_setRim | (intro _; rfl) | apply kept_ite)
    | split | (clear_value *; split) | dsimp only

theorem kept_actRestEnter {a2 : Nat} {a3 : Packet} (h : Kept W s) (_ : W.part .cmd) (_ : W.part .rim) :
    Kept2 W (actRestEnter s a2 a3) := by
  unfold actRestEnter
  repeat' first
    | with_reducible assumption
    | (extract_lets +onlyGivenNames x
       first
       | (refine kept_cut (P := Kept W x) ?_ ?_; (on_goal 1 => subst x); (on_goal 2 => (intro _; try clear_value x)))
       | (refine kept_cut (P := Kept2 W x) ?_ ?_; (on_goal 1 => subst x); (on_goal 2 => (intro _; try clear_value x)))
       | (try clear_value x))
    | (with_reducible first | apply kept_putOut | apply kept_holdRest | apply kept_restFail | apply kept_replied)
    | (with_reducible first | apply kept2_mk | (apply kept2_snd; assumption) | (apply kept2_snd; apply kept_replied))
    | (with_reducible first | refine kept_of2 (by assumption) ?_ | (intro _; rfl) | apply kept_ite)
    | split | (clear_value *; split) | dsimp only

theorem kept_actRestExit {a2 : Nat} {a3 : Packet} (h : Kept W s) (_ : W.part .cmd) (_ : W.part .rim) :
    Kept2 W (actRestExit s a2 a3) := by
  unfold actRestExit
  repeat' first
    | with_reducible assumption
    | (extract_lets +onlyGivenNames x
       first
       | (refine kept_cut (P := Kept W x) ?_ ?_; (on_goal 1 => subst x); (on_goal 2 => (intro _; try clear_value x)))
       | (refine kept_cut (P := Kept2 W x) ?_ ?_; (on_goal 1 => subst x); (on_goal 2 => (intro _; try clear_value x)))
       | (try clear_value x))
    | (with_reducible first | apply kept_replied | apply kept_putOut | apply kept_holdRest | apply kept_restFail)
    | (with_reducible first | apply kept2_mk | (apply kept2_snd; assumption) | (apply kept2_snd; apply kept_replied))
    | (with_reducible first | refine kept_of2 (by assumption) ?_ | (intro _; rfl) | apply kept_ite)
    | split | (clear_value *; split) | dsimp only

theorem kept_execRestEnter (h : Kept W s) (_ : W.part .bus) (_ : W.part .cmd) (_ : W.part .emit) (_ : W.part .rim)
    (_ : Logs W) (_ : W.fld CMD_CNT.EXEC) (_ : W.fld CMD_LAST.OPCODE) (_ : W.fld CMD_LAST.SEQ)
    (_ : W.fld CMD_LAST.STATUS) (_ : W.fld CMD_LAST_SRC.CLASS) (_ : W.fld CMD_LAST_SRC.INSTANCE)
    (_ : W.fld CMD_REFUSED.BADOP) (_ : W.fld CMD_REFUSED.BADPARAM) (_ : W.fld CMD_REFUSED.NOPERM)
    (_ : W.fld CMD_REFUSED.VERSION) (_ : W.fld MB_CTL.OWED) (_ : W.fld MB_CTL.RQ) (_ : W.fld RING_STAT.OWED) :
    KeptO W (execRestEnter s) := by
  unfold execRestEnter
  repeat' first
    | with_reducible assumption
    | (extract_lets +onlyGivenNames x
       first
       | (refine kept_cut (P := Kept W x) ?_ ?_; (on_goal 1 => subst x); (on_goal 2 => (intro _; try clear_value x)))
       | (refine kept_cut (P := Kept2 W x) ?_ ?_; (on_goal 1 => subst x); (on_goal 2 => (intro _; try clear_value x)))
       | (try clear_value x))
    | (with_reducible first | apply kept_quiet | apply kept_runOp | apply kept_actRestEnter | apply keptO_next)
    | (with_reducible first | apply kept2_mk | (apply kept2_snd; assumption))
    | (with_reducible first | (apply kept2_snd; apply kept_actRestEnter) | refine kept_of2 (by assumption) ?_)
    | (with_reducible first | (intro e; exact absurd e (by decide)) | (intro _; assumption) | (intro _; rfl))
    | (with_reducible first | apply kept_ite)
    | (intro _ _ _ _; try beta_reduce) | (intro _ _ _; try beta_reduce) | (intro _ _; try beta_reduce)
    | split | (clear_value *; split) | dsimp only

theorem kept_execRestExit (h : Kept W s) (_ : W.part .bus) (_ : W.part .cmd) (_ : W.part .emit) (_ : W.part .rim)
    (_ : Logs W) (_ : W.fld CMD_CNT.EXEC) (_ : W.fld CMD_LAST.OPCODE) (_ : W.fld CMD_LAST.SEQ)
    (_ : W.fld CMD_LAST.STATUS) (_ : W.fld CMD_LAST_SRC.CLASS) (_ : W.fld CMD_LAST_SRC.INSTANCE)
    (_ : W.fld CMD_REFUSED.BADOP) (_ : W.fld CMD_REFUSED.BADPARAM) (_ : W.fld CMD_REFUSED.NOPERM)
    (_ : W.fld CMD_REFUSED.VERSION) (_ : W.fld MB_CTL.OWED) (_ : W.fld MB_CTL.RQ) (_ : W.fld RING_STAT.OWED) :
    KeptO W (execRestExit s) := by
  unfold execRestExit
  repeat' first
    | with_reducible assumption
    | (extract_lets +onlyGivenNames x
       first
       | (refine kept_cut (P := Kept W x) ?_ ?_; (on_goal 1 => subst x); (on_goal 2 => (intro _; try clear_value x)))
       | (refine kept_cut (P := Kept2 W x) ?_ ?_; (on_goal 1 => subst x); (on_goal 2 => (intro _; try clear_value x)))
       | (try clear_value x))
    | (with_reducible first | apply kept_quiet | apply kept_runOp | apply kept_actRestExit | apply keptO_next)
    | (with_reducible first | apply kept2_mk | (apply kept2_snd; assumption))
    | (with_reducible first | (apply kept2_snd; apply kept_actRestExit) | refine kept_of2 (by assumption) ?_)
    | (with_reducible first | (intro e; exact absurd e (by decide)) | (intro _; assumption) | (intro _; rfl))
    | (with_reducible first | apply kept_ite)
    | (intro _ _ _ _; try beta_reduce) | (intro _ _ _; try beta_reduce) | (intro _ _; try beta_reduce)
    | split | (clear_value *; split) | dsimp only

theorem kept_execDomainRead (h : Kept W s) (_ : W.part .bus) (_ : W.part .cmd) (_ : W.part .emit) (_ : Logs W)
    (_ : W.fld CMD_CNT.EXEC) (_ : W.fld CMD_LAST.OPCODE) (_ : W.fld CMD_LAST.SEQ) (_ : W.fld CMD_LAST.STATUS)
    (_ : W.fld CMD_LAST_SRC.CLASS) (_ : W.fld CMD_LAST_SRC.INSTANCE) (_ : W.fld CMD_REFUSED.BADOP)
    (_ : W.fld CMD_REFUSED.BADPARAM) (_ : W.fld CMD_REFUSED.NOPERM) (_ : W.fld CMD_REFUSED.VERSION)
    (_ : W.fld MB_CTL.OWED) (_ : W.fld MB_CTL.RQ) (_ : W.fld RING_STAT.OWED) : KeptO W (execDomainRead s) := by
  unfold execDomainRead
  repeat' first
    | with_reducible assumption
    | (extract_lets +onlyGivenNames x
       first
       | (refine kept_cut (P := Kept W x) ?_ ?_; (on_goal 1 => subst x); (on_goal 2 => (intro _; try clear_value x)))
       | (refine kept_cut (P := Kept2 W x) ?_ ?_; (on_goal 1 => subst x); (on_goal 2 => (intro _; try clear_value x)))
       | (try clear_value x))
    | (with_reducible first | apply kept_quiet | apply kept_runOp | apply kept_actRead | apply kept_replied)
    | (with_reducible first | apply keptO_next | apply kept2_mk | (apply kept2_snd; assumption))
    | (with_reducible first | (apply kept2_snd; apply kept_actRead) | (apply kept2_snd; apply kept_replied))
    | (with_reducible first | refine kept_of2 (by assumption) ?_ | (intro e; exact absurd e (by decide)))
    | (with_reducible first | (intro _; assumption) | (intro _; rfl) | apply kept_ite)
    | (intro _ _ _ _; try beta_reduce) | (intro _ _ _; try beta_reduce) | (intro _ _; try beta_reduce)
    | split | (clear_value *; split) | dsimp only

theorem kept_completeCommands (h : Kept W s) (_ : W.part .bus) (_ : W.part .cmd) (_ : Logs W)
    (_ : W.fld CMD_LAST.OPCODE) (_ : W.fld CMD_LAST.SEQ) (_ : W.fld CMD_LAST.STATUS) (_ : W.fld CMD_LAST_SRC.CLASS)
    (_ : W.fld CMD_LAST_SRC.INSTANCE) (_ : W.fld CMD_REFUSED.BADOP) (_ : W.fld CMD_REFUSED.BADPARAM)
    (_ : W.fld CMD_REFUSED.NOPERM) (_ : W.fld CMD_REFUSED.VERSION) (_ : W.fld MB_CTL.OWED) (_ : W.fld MB_CTL.RQ)
    (_ : W.fld RING_STAT.OWED) : Kept W (State.completeCommands s) := by
  unfold State.completeCommands
  repeat' first
    | with_reducible assumption
    | (extract_lets +onlyGivenNames x
       first
       | (refine kept_cut (P := Kept W x) ?_ ?_; (on_goal 1 => subst x); (on_goal 2 => (intro _; try clear_value x)))
       | (try clear_value x))
    | (with_reducible first | apply kept_setCmd | apply kept_answer | apply kept_foldl | (intro _; rfl))
    | (with_reducible first | apply kept_ite)
    | (intro _ _ _ _; try beta_reduce) | (intro _ _ _; try beta_reduce) | (intro _ _; try beta_reduce)
    | split | (clear_value *; split) | dsimp only

theorem kept_hintReject {a1 : Nat} (h : Kept W s) (_ : W.fld BG_HINT_CNT.REJECTED) : Kept2 W (hintReject a1 s) := by
  unfold hintReject
  repeat' first
    | with_reducible assumption
    | (extract_lets +onlyGivenNames x
       first
       | (refine kept_cut (P := Kept W x) ?_ ?_; (on_goal 1 => subst x); (on_goal 2 => (intro _; try clear_value x)))
       | (refine kept_cut (P := Kept2 W x) ?_ ?_; (on_goal 1 => subst x); (on_goal 2 => (intro _; try clear_value x)))
       | (try clear_value x))
    | (with_reducible first | apply kept_replied | apply kept_inc | apply kept2_mk | (apply kept2_snd; assumption))
    | (with_reducible first | (apply kept2_snd; apply kept_replied) | refine kept_of2 (by assumption) ?_)
    | (with_reducible first | (intro _; rfl) | apply kept_ite)
    | split | (clear_value *; split) | dsimp only

theorem kept_actHintPhase {a2 : Nat} {a3 : Packet} (h : Kept W s) (_ : W.part .bg) (_ : W.part .cad)
    (_ : W.part .emit) (_ : W.part .eng) (_ : W.part .gl) (_ : W.part .tasks) (_ : W.fld BG_HINT_CNT.ACCEPTED)
    (_ : W.fld BG_HINT_CNT.REJECTED) (_ : W.fld BG_HINT_STAT.ACTIVE) (_ : W.fld BG_HINT_STAT.HELD)
    (_ : W.fld BG_SECT.HINT) (_ : W.fld GL_STAT.OUTSTANDING) (_ : W.fld GL_STAT.SEQ) (_ : W.fld GL_STAT.VREQ) :
    Kept2 W (actHintPhase s a2 a3) := by
  unfold actHintPhase
  repeat' first
    | with_reducible assumption
    | (extract_lets +onlyGivenNames x
       first
       | (refine kept_cut (P := Kept W x) ?_ ?_; (on_goal 1 => subst x); (on_goal 2 => (intro _; try clear_value x)))
       | (refine kept_cut (P := Kept2 W x) ?_ ?_; (on_goal 1 => subst x); (on_goal 2 => (intro _; try clear_value x)))
       | (try clear_value x))
    | (with_reducible first | apply kept_hintReject | apply kept_withdraw | apply kept_schedule | apply kept_replied)
    | (with_reducible first | apply kept_setHint | apply kept_showHints | apply kept_inc | apply kept2_mk)
    | (with_reducible first | (apply kept2_snd; assumption) | (apply kept2_snd; apply kept_hintReject))
    | (with_reducible first | (apply kept2_snd; apply kept_schedule) | (apply kept2_snd; apply kept_replied))
    | (with_reducible first | refine kept_of2 (by assumption) ?_ | (intro _; rfl) | apply kept_ite)
    | (intro _ _ _ _; try beta_reduce) | (intro _ _ _; try beta_reduce) | (intro _ _; try beta_reduce)
    | split | (clear_value *; split) | dsimp only

theorem kept_execHintPhase (h : Kept W s) (_ : W.part .bg) (_ : W.part .bus) (_ : W.part .cad) (_ : W.part .cmd)
    (_ : W.part .emit) (_ : W.part .eng) (_ : W.part .gl) (_ : W.part .tasks) (_ : Logs W)
    (_ : W.fld BG_HINT_CNT.ACCEPTED) (_ : W.fld BG_HINT_CNT.REJECTED) (_ : W.fld BG_HINT_STAT.ACTIVE)
    (_ : W.fld BG_HINT_STAT.HELD) (_ : W.fld BG_SECT.HINT) (_ : W.fld CMD_CNT.EXEC) (_ : W.fld CMD_LAST.OPCODE)
    (_ : W.fld CMD_LAST.SEQ) (_ : W.fld CMD_LAST.STATUS) (_ : W.fld CMD_LAST_SRC.CLASS)
    (_ : W.fld CMD_LAST_SRC.INSTANCE) (_ : W.fld CMD_REFUSED.BADOP) (_ : W.fld CMD_REFUSED.BADPARAM)
    (_ : W.fld CMD_REFUSED.NOPERM) (_ : W.fld CMD_REFUSED.VERSION) (_ : W.fld GL_STAT.OUTSTANDING)
    (_ : W.fld GL_STAT.SEQ) (_ : W.fld GL_STAT.VREQ) (_ : W.fld MB_CTL.OWED) (_ : W.fld MB_CTL.RQ)
    (_ : W.fld RING_STAT.OWED) : KeptO W (execHintPhase s) := by
  unfold execHintPhase
  repeat' first
    | with_reducible assumption
    | (extract_lets +onlyGivenNames x
       first
       | (refine kept_cut (P := Kept W x) ?_ ?_; (on_goal 1 => subst x); (on_goal 2 => (intro _; try clear_value x)))
       | (refine kept_cut (P := Kept2 W x) ?_ ?_; (on_goal 1 => subst x); (on_goal 2 => (intro _; try clear_value x)))
       | (try clear_value x))
    | (with_reducible first | apply kept_quiet | apply kept_runOp | apply kept_actHintPhase | apply keptO_next)
    | (with_reducible first | apply kept2_mk | (apply kept2_snd; assumption))
    | (with_reducible first | (apply kept2_snd; apply kept_actHintPhase) | refine kept_of2 (by assumption) ?_)
    | (with_reducible first | (intro e; exact absurd e (by decide)) | (intro _; assumption) | (intro _; rfl))
    | (with_reducible first | apply kept_ite)
    | (intro _ _ _ _; try beta_reduce) | (intro _ _ _; try beta_reduce) | (intro _ _; try beta_reduce)
    | split | (clear_value *; split) | dsimp only

theorem kept_execHintCancel (h : Kept W s) (_ : W.part .bg) (_ : W.part .bus) (_ : W.part .cad) (_ : W.part .cmd)
    (_ : W.part .emit) (_ : W.part .eng) (_ : W.part .gl) (_ : W.part .tasks) (_ : Logs W)
    (_ : W.fld BG_HINT_STAT.ACTIVE) (_ : W.fld BG_HINT_STAT.HELD) (_ : W.fld BG_SECT.HINT) (_ : W.fld CMD_CNT.EXEC)
    (_ : W.fld CMD_LAST.OPCODE) (_ : W.fld CMD_LAST.SEQ) (_ : W.fld CMD_LAST.STATUS) (_ : W.fld CMD_LAST_SRC.CLASS)
    (_ : W.fld CMD_LAST_SRC.INSTANCE) (_ : W.fld CMD_REFUSED.BADOP) (_ : W.fld CMD_REFUSED.BADPARAM)
    (_ : W.fld CMD_REFUSED.NOPERM) (_ : W.fld CMD_REFUSED.VERSION) (_ : W.fld GL_STAT.OUTSTANDING)
    (_ : W.fld GL_STAT.SEQ) (_ : W.fld GL_STAT.VREQ) (_ : W.fld MB_CTL.OWED) (_ : W.fld MB_CTL.RQ)
    (_ : W.fld RING_STAT.OWED) : KeptO W (execHintCancel s) := by
  unfold execHintCancel
  repeat' first
    | with_reducible assumption
    | (extract_lets +onlyGivenNames x
       first
       | (refine kept_cut (P := Kept W x) ?_ ?_; (on_goal 1 => subst x); (on_goal 2 => (intro _; try clear_value x)))
       | (refine kept_cut (P := Kept2 W x) ?_ ?_; (on_goal 1 => subst x); (on_goal 2 => (intro _; try clear_value x)))
       | (try clear_value x))
    | (with_reducible first | apply kept_quiet | apply kept_runOp | apply kept_replied | apply kept_withdraw)
    | (with_reducible first | apply keptO_next | apply kept2_mk | (apply kept2_snd; assumption))
    | (with_reducible first | (apply kept2_snd; apply kept_replied) | refine kept_of2 (by assumption) ?_)
    | (with_reducible first | (intro e; exact absurd e (by decide)) | (intro _; assumption) | (intro _; rfl))
    | (with_reducible first | apply kept_ite)
    | (intro _ _ _ _; try beta_reduce) | (intro _ _ _; try beta_reduce) | (intro _ _; try beta_reduce)
    | split | (clear_value *; split) | dsimp only

theorem kept_actLoopOpen {a2 : Nat} {a3 : Packet} (h : Kept W s) (_ : W.part .eng) :
    Kept2 W (actLoopOpen s a2 a3) := by
  unfold actLoopOpen
  repeat' first
    | with_reducible assumption
    | (extract_lets +onlyGivenNames x
       first
       | (refine kept_cut (P := Kept W x) ?_ ?_; (on_goal 1 => subst x); (on_goal 2 => (intro _; try clear_value x)))
       | (refine kept_cut (P := Kept2 W x) ?_ ?_; (on_goal 1 => subst x); (on_goal 2 => (intro _; try clear_value x)))
       | (try clear_value x))
    | (with_reducible first | apply kept_replied | apply kept_setEng | apply kept2_mk | (apply kept2_snd; assumption))
    | (with_reducible first | (apply kept2_snd; apply kept_replied) | refine kept_of2 (by assumption) ?_)
    | (with_reducible first | (intro _; rfl) | apply kept_ite)
    | split | (clear_value *; split) | dsimp only

theorem kept_execLoopOpen (h : Kept W s) (_ : W.part .bus) (_ : W.part .cmd) (_ : W.part .emit) (_ : W.part .eng)
    (_ : Logs W) (_ : W.fld CMD_CNT.EXEC) (_ : W.fld CMD_LAST.OPCODE) (_ : W.fld CMD_LAST.SEQ)
    (_ : W.fld CMD_LAST.STATUS) (_ : W.fld CMD_LAST_SRC.CLASS) (_ : W.fld CMD_LAST_SRC.INSTANCE)
    (_ : W.fld CMD_REFUSED.BADOP) (_ : W.fld CMD_REFUSED.BADPARAM) (_ : W.fld CMD_REFUSED.NOPERM)
    (_ : W.fld CMD_REFUSED.VERSION) (_ : W.fld MB_CTL.OWED) (_ : W.fld MB_CTL.RQ) (_ : W.fld RING_STAT.OWED) :
    KeptO W (execLoopOpen s) := by
  unfold execLoopOpen
  repeat' first
    | with_reducible assumption
    | (extract_lets +onlyGivenNames x
       first
       | (refine kept_cut (P := Kept W x) ?_ ?_; (on_goal 1 => subst x); (on_goal 2 => (intro _; try clear_value x)))
       | (refine kept_cut (P := Kept2 W x) ?_ ?_; (on_goal 1 => subst x); (on_goal 2 => (intro _; try clear_value x)))
       | (try clear_value x))
    | (with_reducible first | apply kept_quiet | apply kept_runOp | apply kept_actLoopOpen | apply keptO_next)
    | (with_reducible first | apply kept2_mk | (apply kept2_snd; assumption))
    | (with_reducible first | (apply kept2_snd; apply kept_actLoopOpen) | refine kept_of2 (by assumption) ?_)
    | (with_reducible first | (intro e; exact absurd e (by decide)) | (intro _; assumption) | (intro _; rfl))
    | (with_reducible first | apply kept_ite)
    | (intro _ _ _ _; try beta_reduce) | (intro _ _ _; try beta_reduce) | (intro _ _; try beta_reduce)
    | split | (clear_value *; split) | dsimp only

theorem kept_actLoopClose {a2 : Nat} {a3 : Packet} (h : Kept W s) (_ : W.part .eng) :
    Kept2 W (actLoopClose s a2 a3) := by
  unfold actLoopClose
  repeat' first
    | with_reducible assumption
    | (extract_lets +onlyGivenNames x
       first
       | (refine kept_cut (P := Kept W x) ?_ ?_; (on_goal 1 => subst x); (on_goal 2 => (intro _; try clear_value x)))
       | (refine kept_cut (P := Kept2 W x) ?_ ?_; (on_goal 1 => subst x); (on_goal 2 => (intro _; try clear_value x)))
       | (try clear_value x))
    | (with_reducible first | apply kept_replied | apply kept_setEng | apply kept2_mk | (apply kept2_snd; assumption))
    | (with_reducible first | (apply kept2_snd; apply kept_replied) | refine kept_of2 (by assumption) ?_)
    | (with_reducible first | (intro _; rfl) | apply kept_ite)
    | split | (clear_value *; split) | dsimp only

theorem kept_execLoopClose (h : Kept W s) (_ : W.part .bus) (_ : W.part .cmd) (_ : W.part .emit) (_ : W.part .eng)
    (_ : Logs W) (_ : W.fld CMD_CNT.EXEC) (_ : W.fld CMD_LAST.OPCODE) (_ : W.fld CMD_LAST.SEQ)
    (_ : W.fld CMD_LAST.STATUS) (_ : W.fld CMD_LAST_SRC.CLASS) (_ : W.fld CMD_LAST_SRC.INSTANCE)
    (_ : W.fld CMD_REFUSED.BADOP) (_ : W.fld CMD_REFUSED.BADPARAM) (_ : W.fld CMD_REFUSED.NOPERM)
    (_ : W.fld CMD_REFUSED.VERSION) (_ : W.fld MB_CTL.OWED) (_ : W.fld MB_CTL.RQ) (_ : W.fld RING_STAT.OWED) :
    KeptO W (execLoopClose s) := by
  unfold execLoopClose
  repeat' first
    | with_reducible assumption
    | (extract_lets +onlyGivenNames x
       first
       | (refine kept_cut (P := Kept W x) ?_ ?_; (on_goal 1 => subst x); (on_goal 2 => (intro _; try clear_value x)))
       | (refine kept_cut (P := Kept2 W x) ?_ ?_; (on_goal 1 => subst x); (on_goal 2 => (intro _; try clear_value x)))
       | (try clear_value x))
    | (with_reducible first | apply kept_quiet | apply kept_runOp | apply kept_actLoopClose | apply keptO_next)
    | (with_reducible first | apply kept2_mk | (apply kept2_snd; assumption))
    | (with_reducible first | (apply kept2_snd; apply kept_actLoopClose) | refine kept_of2 (by assumption) ?_)
    | (with_reducible first | (intro e; exact absurd e (by decide)) | (intro _; assumption) | (intro _; rfl))
    | (with_reducible first | apply kept_ite)
    | (intro _ _ _ _; try beta_reduce) | (intro _ _ _; try beta_reduce) | (intro _ _; try beta_reduce)
    | split | (clear_value *; split) | dsimp only

theorem kept_actBankSwitch {a2 : Nat} {a3 : Packet} (h : Kept W s) (_ : W.part .cad) (_ : W.part .tasks)
    (_ : W.fld ENG_STAT.SWITCH_PEND) : Kept2 W (actBankSwitch s a2 a3) := by
  unfold actBankSwitch
  repeat' first
    | with_reducible assumption
    | (extract_lets +onlyGivenNames x
       first
       | (refine kept_cut (P := Kept W x) ?_ ?_; (on_goal 1 => subst x); (on_goal 2 => (intro _; try clear_value x)))
       | (refine kept_cut (P := Kept2 W x) ?_ ?_; (on_goal 1 => subst x); (on_goal 2 => (intro _; try clear_value x)))
       | (try clear_value x))
    | (with_reducible first | apply kept_replied | apply kept_schedule | apply kept_wr | apply kept2_mk)
    | (with_reducible first | (apply kept2_snd; assumption) | (apply kept2_snd; apply kept_replied))
    | (with_reducible first | (apply kept2_snd; apply kept_schedule) | refine kept_of2 (by assumption) ?_)
    | (with_reducible first | (intro _; rfl) | apply kept_ite)
    | split | (clear_value *; split) | dsimp only

theorem kept_execBankSwitch (h : Kept W s) (_ : W.part .bus) (_ : W.part .cad) (_ : W.part .cmd) (_ : W.part .emit)
    (_ : W.part .tasks) (_ : Logs W) (_ : W.fld CMD_CNT.EXEC) (_ : W.fld CMD_LAST.OPCODE) (_ : W.fld CMD_LAST.SEQ)
    (_ : W.fld CMD_LAST.STATUS) (_ : W.fld CMD_LAST_SRC.CLASS) (_ : W.fld CMD_LAST_SRC.INSTANCE)
    (_ : W.fld CMD_REFUSED.BADOP) (_ : W.fld CMD_REFUSED.BADPARAM) (_ : W.fld CMD_REFUSED.NOPERM)
    (_ : W.fld CMD_REFUSED.VERSION) (_ : W.fld ENG_STAT.SWITCH_PEND) (_ : W.fld MB_CTL.OWED) (_ : W.fld MB_CTL.RQ)
    (_ : W.fld RING_STAT.OWED) : KeptO W (execBankSwitch s) := by
  unfold execBankSwitch
  repeat' first
    | with_reducible assumption
    | (extract_lets +onlyGivenNames x
       first
       | (refine kept_cut (P := Kept W x) ?_ ?_; (on_goal 1 => subst x); (on_goal 2 => (intro _; try clear_value x)))
       | (refine kept_cut (P := Kept2 W x) ?_ ?_; (on_goal 1 => subst x); (on_goal 2 => (intro _; try clear_value x)))
       | (try clear_value x))
    | (with_reducible first | apply kept_quiet | apply kept_runOp | apply kept_actBankSwitch | apply keptO_next)
    | (with_reducible first | apply kept2_mk | (apply kept2_snd; assumption))
    | (with_reducible first | (apply kept2_snd; apply kept_actBankSwitch) | refine kept_of2 (by assumption) ?_)
    | (with_reducible first | (intro e; exact absurd e (by decide)) | (intro _; assumption) | (intro _; rfl))
    | (with_reducible first | apply kept_ite)
    | (intro _ _ _ _; try beta_reduce) | (intro _ _ _; try beta_reduce) | (intro _ _; try beta_reduce)
    | split | (clear_value *; split) | dsimp only

theorem kept_execTraceArm (h : Kept W s) (_ : W.part .bus) (_ : W.part .cmd) (_ : W.part .emit) (_ : Logs W)
    (_ : W.fld CMD_CNT.EXEC) (_ : W.fld CMD_LAST.OPCODE) (_ : W.fld CMD_LAST.SEQ) (_ : W.fld CMD_LAST.STATUS)
    (_ : W.fld CMD_LAST_SRC.CLASS) (_ : W.fld CMD_LAST_SRC.INSTANCE) (_ : W.fld CMD_REFUSED.BADOP)
    (_ : W.fld CMD_REFUSED.BADPARAM) (_ : W.fld CMD_REFUSED.NOPERM) (_ : W.fld CMD_REFUSED.VERSION)
    (_ : W.fld ENG_TR_CTRL.ARM) (_ : W.fld MB_CTL.OWED) (_ : W.fld MB_CTL.RQ) (_ : W.fld RING_STAT.OWED) :
    KeptO W (execTraceArm s) := by
  unfold execTraceArm
  repeat' first
    | with_reducible assumption
    | (extract_lets +onlyGivenNames x
       first
       | (refine kept_cut (P := Kept W x) ?_ ?_; (on_goal 1 => subst x); (on_goal 2 => (intro _; try clear_value x)))
       | (refine kept_cut (P := Kept2 W x) ?_ ?_; (on_goal 1 => subst x); (on_goal 2 => (intro _; try clear_value x)))
       | (try clear_value x))
    | (with_reducible first | apply kept_quiet | apply kept_runOp | apply kept_replied | apply kept_wr)
    | (with_reducible first | apply keptO_next | apply kept2_mk | (apply kept2_snd; assumption))
    | (with_reducible first | (apply kept2_snd; apply kept_replied) | refine kept_of2 (by assumption) ?_)
    | (with_reducible first | (intro e; exact absurd e (by decide)) | (intro _; assumption) | (intro _; rfl))
    | (with_reducible first | apply kept_ite)
    | (intro _ _ _ _; try beta_reduce) | (intro _ _ _; try beta_reduce) | (intro _ _; try beta_reduce)
    | split | (clear_value *; split) | dsimp only

theorem kept_execEngRead (h : Kept W s) (_ : W.part .bus) (_ : W.part .cmd) (_ : W.part .emit) (_ : Logs W)
    (_ : W.fld CMD_CNT.EXEC) (_ : W.fld CMD_LAST.OPCODE) (_ : W.fld CMD_LAST.SEQ) (_ : W.fld CMD_LAST.STATUS)
    (_ : W.fld CMD_LAST_SRC.CLASS) (_ : W.fld CMD_LAST_SRC.INSTANCE) (_ : W.fld CMD_REFUSED.BADOP)
    (_ : W.fld CMD_REFUSED.BADPARAM) (_ : W.fld CMD_REFUSED.NOPERM) (_ : W.fld CMD_REFUSED.VERSION)
    (_ : W.fld MB_CTL.OWED) (_ : W.fld MB_CTL.RQ) (_ : W.fld RING_STAT.OWED) : KeptO W (execEngRead s) := by
  unfold execEngRead
  repeat' first
    | with_reducible assumption
    | (extract_lets +onlyGivenNames x
       first
       | (refine kept_cut (P := Kept W x) ?_ ?_; (on_goal 1 => subst x); (on_goal 2 => (intro _; try clear_value x)))
       | (refine kept_cut (P := Kept2 W x) ?_ ?_; (on_goal 1 => subst x); (on_goal 2 => (intro _; try clear_value x)))
       | (try clear_value x))
    | (with_reducible first | apply kept_quiet | apply kept_runOp | apply kept_actRead | apply kept_replied)
    | (with_reducible first | apply keptO_next | apply kept2_mk | (apply kept2_snd; assumption))
    | (with_reducible first | (apply kept2_snd; apply kept_actRead) | (apply kept2_snd; apply kept_replied))
    | (with_reducible first | refine kept_of2 (by assumption) ?_ | (intro e; exact absurd e (by decide)))
    | (with_reducible first | (intro _; assumption) | (intro _; rfl) | apply kept_ite)
    | (intro _ _ _ _; try beta_reduce) | (intro _ _ _; try beta_reduce) | (intro _ _; try beta_reduce)
    | split | (clear_value *; split) | dsimp only

theorem kept_execNodeDump (h : Kept W s) (_ : W.part .bus) (_ : W.part .cad) (_ : W.part .cmd) (_ : W.part .emit)
    (_ : W.part .tasks) (_ : Logs W) (_ : W.fld CMD_CNT.EXEC) (_ : W.fld CMD_LAST.OPCODE) (_ : W.fld CMD_LAST.SEQ)
    (_ : W.fld CMD_LAST.STATUS) (_ : W.fld CMD_LAST_SRC.CLASS) (_ : W.fld CMD_LAST_SRC.INSTANCE)
    (_ : W.fld CMD_REFUSED.BADOP) (_ : W.fld CMD_REFUSED.BADPARAM) (_ : W.fld CMD_REFUSED.NOPERM)
    (_ : W.fld CMD_REFUSED.VERSION) (_ : W.fld ENG_DUMP_CFG.NODE) (_ : W.fld ENG_DUMP_CFG.SRC)
    (_ : W.fld ENG_DUMP_STAT.DONE) (_ : W.fld MB_CTL.OWED) (_ : W.fld MB_CTL.RQ) (_ : W.fld RING_STAT.OWED) :
    KeptO W (execNodeDump s) := by
  unfold execNodeDump
  repeat' first
    | with_reducible assumption
    | (extract_lets +onlyGivenNames x
       first
       | (refine kept_cut (P := Kept W x) ?_ ?_; (on_goal 1 => subst x); (on_goal 2 => (intro _; try clear_value x)))
       | (refine kept_cut (P := Kept2 W x) ?_ ?_; (on_goal 1 => subst x); (on_goal 2 => (intro _; try clear_value x)))
       | (try clear_value x))
    | (with_reducible first | apply kept_quiet | apply kept_runOp | apply kept_schedule | apply kept_replied)
    | (with_reducible first | apply kept_wr | apply keptO_next | apply kept2_mk | (apply kept2_snd; assumption))
    | (with_reducible first | (apply kept2_snd; apply kept_schedule) | (apply kept2_snd; apply kept_replied))
    | (with_reducible first | refine kept_of2 (by assumption) ?_ | (intro e; exact absurd e (by decide)))
    | (with_reducible first | (intro _; assumption) | (intro _; rfl) | apply kept_ite)
    | (intro _ _ _ _; try beta_reduce) | (intro _ _ _; try beta_reduce) | (intro _ _; try beta_reduce)
    | split | (clear_value *; split) | dsimp only

theorem kept_execLease (h : Kept W s) (_ : W.part .bus) (_ : W.part .car) (_ : W.part .cmd) (_ : W.part .emit)
    (_ : Logs W) (_ : W.fld (Evt.st .CAR_ROLE_CHANGE)) (_ : W.fld CAR_EPOCH_HELD.EPOCH)
    (_ : W.fld CAR_EPOCH_SEEN.EPOCH) (_ : W.fld CAR_ERR.REJECT) (_ : W.fld CAR_LEASE.LEFT) (_ : W.fld CAR_LEASE.REQ)
    (_ : W.fld CAR_LEASE.TAKEOVER) (_ : W.fld CAR_STAT.LEASE_VALID) (_ : W.fld CAR_STAT.ROLE) (_ : W.fld CMD_CNT.EXEC)
    (_ : W.fld CMD_LAST.OPCODE) (_ : W.fld CMD_LAST.SEQ) (_ : W.fld CMD_LAST.STATUS) (_ : W.fld CMD_LAST_SRC.CLASS)
    (_ : W.fld CMD_LAST_SRC.INSTANCE) (_ : W.fld CMD_REFUSED.BADOP) (_ : W.fld CMD_REFUSED.BADPARAM)
    (_ : W.fld CMD_REFUSED.NOPERM) (_ : W.fld CMD_REFUSED.VERSION) (_ : W.fld MB_CTL.OWED) (_ : W.fld MB_CTL.RQ)
    (_ : W.fld PEL_STAT.ROOT) (_ : W.fld RING_STAT.OWED) : KeptO W (execLease s) := by
  unfold execLease
  repeat' first
    | with_reducible assumption
    | (extract_lets +onlyGivenNames x
       first
       | (refine kept_cut (P := Kept W x) ?_ ?_; (on_goal 1 => subst x); (on_goal 2 => (intro _; try clear_value x)))
       | (refine kept_cut (P := Kept2 W x) ?_ ?_; (on_goal 1 => subst x); (on_goal 2 => (intro _; try clear_value x)))
       | (try clear_value x))
    | (with_reducible first | apply kept_quiet | apply kept_runOp | apply kept_replied | apply kept_leaseCommand)
    | (with_reducible first | apply keptO_next | apply kept2_mk | (apply kept2_snd; assumption))
    | (with_reducible first | (apply kept2_snd; apply kept_replied) | (apply kept2_snd; apply kept_leaseCommand))
    | (with_reducible first | refine kept_of2 (by assumption) ?_ | (intro e; exact absurd e (by decide)))
    | (with_reducible first | (intro _; assumption) | (intro _; rfl) | apply kept_ite)
    | (intro _ _ _ _; try beta_reduce) | (intro _ _ _; try beta_reduce) | (intro _ _; try beta_reduce)
    | split | (clear_value *; split) | dsimp only

theorem kept_execCarrierCap (h : Kept W s) (_ : W.part .bus) (_ : W.part .cmd) (_ : W.part .emit) (_ : Logs W)
    (_ : W.fld CAR_CAP.CAP) (_ : W.fld CAR_RSV.RESERVE) (_ : W.fld CMD_CNT.EXEC) (_ : W.fld CMD_LAST.OPCODE)
    (_ : W.fld CMD_LAST.SEQ) (_ : W.fld CMD_LAST.STATUS) (_ : W.fld CMD_LAST_SRC.CLASS)
    (_ : W.fld CMD_LAST_SRC.INSTANCE) (_ : W.fld CMD_REFUSED.BADOP) (_ : W.fld CMD_REFUSED.BADPARAM)
    (_ : W.fld CMD_REFUSED.NOPERM) (_ : W.fld CMD_REFUSED.VERSION) (_ : W.fld MB_CTL.OWED) (_ : W.fld MB_CTL.RQ)
    (_ : W.fld RING_STAT.OWED) : KeptO W (execCarrierCap s) := by
  unfold execCarrierCap
  repeat' first
    | with_reducible assumption
    | (extract_lets +onlyGivenNames x
       first
       | (refine kept_cut (P := Kept W x) ?_ ?_; (on_goal 1 => subst x); (on_goal 2 => (intro _; try clear_value x)))
       | (refine kept_cut (P := Kept2 W x) ?_ ?_; (on_goal 1 => subst x); (on_goal 2 => (intro _; try clear_value x)))
       | (try clear_value x))
    | (with_reducible first | apply kept_quiet | apply kept_runOp | apply kept_replied | apply kept_wr)
    | (with_reducible first | apply keptO_next | apply kept2_mk | (apply kept2_snd; assumption))
    | (with_reducible first | (apply kept2_snd; apply kept_replied) | refine kept_of2 (by assumption) ?_)
    | (with_reducible first | (intro e; exact absurd e (by decide)) | (intro _; assumption) | (intro _; rfl))
    | (with_reducible first | apply kept_ite)
    | (intro _ _ _ _; try beta_reduce) | (intro _ _ _; try beta_reduce) | (intro _ _; try beta_reduce)
    | split | (clear_value *; split) | dsimp only

theorem kept_execPelSet (h : Kept W s) (_ : W.part .bus) (_ : W.part .cmd) (_ : W.part .emit) (_ : Logs W)
    (_ : W.fld CMD_CNT.EXEC) (_ : W.fld CMD_LAST.OPCODE) (_ : W.fld CMD_LAST.SEQ) (_ : W.fld CMD_LAST.STATUS)
    (_ : W.fld CMD_LAST_SRC.CLASS) (_ : W.fld CMD_LAST_SRC.INSTANCE) (_ : W.fld CMD_REFUSED.BADOP)
    (_ : W.fld CMD_REFUSED.BADPARAM) (_ : W.fld CMD_REFUSED.NOPERM) (_ : W.fld CMD_REFUSED.VERSION)
    (_ : W.fld MB_CTL.OWED) (_ : W.fld MB_CTL.RQ) (_ : W.fld PEL_CTRL.JOIN) (_ : W.fld PEL_CTRL.PEL_ID)
    (_ : W.fld PEL_MASK.MASK) (_ : W.fld RING_STAT.OWED) : KeptO W (execPelSet s) := by
  unfold execPelSet
  repeat' first
    | with_reducible assumption
    | (extract_lets +onlyGivenNames x
       first
       | (refine kept_cut (P := Kept W x) ?_ ?_; (on_goal 1 => subst x); (on_goal 2 => (intro _; try clear_value x)))
       | (refine kept_cut (P := Kept2 W x) ?_ ?_; (on_goal 1 => subst x); (on_goal 2 => (intro _; try clear_value x)))
       | (try clear_value x))
    | (with_reducible first | apply kept_quiet | apply kept_runOp | apply kept_wr | apply kept_replied)
    | (with_reducible first | apply kept_upTo | apply keptO_next | apply kept2_mk | (apply kept2_snd; assumption))
    | (with_reducible first | (apply kept2_snd; apply kept_replied) | refine kept_of2 (by assumption) ?_)
    | (with_reducible first | (intro e; exact absurd e (by decide)) | (intro _; assumption) | (intro _; rfl))
    | (with_reducible first | apply kept_ite)
    | (intro _ _ _ _; try beta_reduce) | (intro _ _ _; try beta_reduce) | (intro _ _; try beta_reduce)
    | split | (clear_value *; split) | dsimp only

theorem kept_execPelRead (h : Kept W s) (_ : W.part .bus) (_ : W.part .cmd) (_ : W.part .emit) (_ : Logs W)
    (_ : W.fld CMD_CNT.EXEC) (_ : W.fld CMD_LAST.OPCODE) (_ : W.fld CMD_LAST.SEQ) (_ : W.fld CMD_LAST.STATUS)
    (_ : W.fld CMD_LAST_SRC.CLASS) (_ : W.fld CMD_LAST_SRC.INSTANCE) (_ : W.fld CMD_REFUSED.BADOP)
    (_ : W.fld CMD_REFUSED.BADPARAM) (_ : W.fld CMD_REFUSED.NOPERM) (_ : W.fld CMD_REFUSED.VERSION)
    (_ : W.fld MB_CTL.OWED) (_ : W.fld MB_CTL.RQ) (_ : W.fld RING_STAT.OWED) : KeptO W (execPelRead s) := by
  unfold execPelRead
  repeat' first
    | with_reducible assumption
    | (extract_lets +onlyGivenNames x
       first
       | (refine kept_cut (P := Kept W x) ?_ ?_; (on_goal 1 => subst x); (on_goal 2 => (intro _; try clear_value x)))
       | (refine kept_cut (P := Kept2 W x) ?_ ?_; (on_goal 1 => subst x); (on_goal 2 => (intro _; try clear_value x)))
       | (try clear_value x))
    | (with_reducible first | apply kept_quiet | apply kept_runOp | apply kept_actRead | apply keptO_next)
    | (with_reducible first | apply kept2_mk | (apply kept2_snd; assumption) | (apply kept2_snd; apply kept_actRead))
    | (with_reducible first | refine kept_of2 (by assumption) ?_ | (intro e; exact absurd e (by decide)))
    | (with_reducible first | (intro _; assumption) | (intro _; rfl) | apply kept_ite)
    | (intro _ _ _ _; try beta_reduce) | (intro _ _ _; try beta_reduce) | (intro _ _; try beta_reduce)
    | split | (clear_value *; split) | dsimp only

theorem kept_execSnapshot (h : Kept W s) (_ : W.part .bus) (_ : W.part .cmd) (_ : W.part .emit) (_ : Logs W)
    (_ : W.fld CMD_CNT.EXEC) (_ : W.fld CMD_LAST.OPCODE) (_ : W.fld CMD_LAST.SEQ) (_ : W.fld CMD_LAST.STATUS)
    (_ : W.fld CMD_LAST_SRC.CLASS) (_ : W.fld CMD_LAST_SRC.INSTANCE) (_ : W.fld CMD_REFUSED.BADOP)
    (_ : W.fld CMD_REFUSED.BADPARAM) (_ : W.fld CMD_REFUSED.NOPERM) (_ : W.fld CMD_REFUSED.VERSION)
    (_ : W.fld MB_CTL.OWED) (_ : W.fld MB_CTL.RQ) (_ : W.fld PW_STAT.PEND) (_ : W.fld RING_STAT.OWED) :
    KeptO W (execSnapshot s) := by
  unfold execSnapshot
  repeat' first
    | with_reducible assumption
    | (extract_lets +onlyGivenNames x
       first
       | (refine kept_cut (P := Kept W x) ?_ ?_; (on_goal 1 => subst x); (on_goal 2 => (intro _; try clear_value x)))
       | (refine kept_cut (P := Kept2 W x) ?_ ?_; (on_goal 1 => subst x); (on_goal 2 => (intro _; try clear_value x)))
       | (try clear_value x))
    | (with_reducible first | apply kept_quiet | apply kept_runOp | apply kept_replied | apply kept_wr)
    | (with_reducible first | apply keptO_next | apply kept2_mk | (apply kept2_snd; assumption))
    | (with_reducible first | (apply kept2_snd; apply kept_replied) | refine kept_of2 (by assumption) ?_)
    | (with_reducible first | (intro e; exact absurd e (by decide)) | (intro _; assumption) | (intro _; rfl))
    | (with_reducible first | apply kept_ite)
    | (intro _ _ _ _; try beta_reduce) | (intro _ _ _; try beta_reduce) | (intro _ _; try beta_reduce)
    | split | (clear_value *; split) | dsimp only

theorem kept_execAttClear (h : Kept W s) (_ : W.part .bus) (_ : W.part .cmd) (_ : W.part .em) (_ : W.part .emit)
    (_ : Logs W) (_ : W.fld CMD_CNT.EXEC) (_ : W.fld CMD_LAST.OPCODE) (_ : W.fld CMD_LAST.SEQ)
    (_ : W.fld CMD_LAST.STATUS) (_ : W.fld CMD_LAST_SRC.CLASS) (_ : W.fld CMD_LAST_SRC.INSTANCE)
    (_ : W.fld CMD_REFUSED.BADOP) (_ : W.fld CMD_REFUSED.BADPARAM) (_ : W.fld CMD_REFUSED.NOPERM)
    (_ : W.fld CMD_REFUSED.VERSION) (_ : W.fld MB_CTL.OWED) (_ : W.fld MB_CTL.RQ) (_ : W.fld RING_STAT.OWED) :
    KeptO W (execAttClear s) := by
  unfold execAttClear
  repeat' first
    | with_reducible assumption
    | (extract_lets +onlyGivenNames x
       first
       | (refine kept_cut (P := Kept W x) ?_ ?_; (on_goal 1 => subst x); (on_goal 2 => (intro _; try clear_value x)))
       | (refine kept_cut (P := Kept2 W x) ?_ ?_; (on_goal 1 => subst x); (on_goal 2 => (intro _; try clear_value x)))
       | (try clear_value x))
    | (with_reducible first | apply kept_quiet | apply kept_runOp | apply kept_replied | apply kept_askClear)
    | (with_reducible first | apply keptO_next | apply kept2_mk | (apply kept2_snd; assumption))
    | (with_reducible first | (apply kept2_snd; apply kept_replied) | refine kept_of2 (by assumption) ?_)
    | (with_reducible first | (intro e; exact absurd e (by decide)) | (intro _; assumption) | (intro _; rfl))
    | (with_reducible first | apply kept_ite)
    | (intro _ _ _ _; try beta_reduce) | (intro _ _ _; try beta_reduce) | (intro _ _; try beta_reduce)
    | split | (clear_value *; split) | dsimp only

theorem kept_actEnergyRead {a2 : Nat} {a3 : Packet} (h : Kept W s) : Kept2 W (actEnergyRead s a2 a3) := by
  unfold actEnergyRead
  repeat' first
    | with_reducible assumption
    | (extract_lets +onlyGivenNames x
       first
       | (refine kept_cut (P := Kept W x) ?_ ?_; (on_goal 1 => subst x); (on_goal 2 => (intro _; try clear_value x)))
       | (refine kept_cut (P := Kept2 W x) ?_ ?_; (on_goal 1 => subst x); (on_goal 2 => (intro _; try clear_value x)))
       | (subst x))
    | (with_reducible first | apply kept_replied | apply kept2_mk | (apply kept2_snd; assumption))
    | (with_reducible first | (apply kept2_snd; apply kept_replied) | refine kept_of2 (by assumption) ?_)
    | (with_reducible first | (intro _; rfl) | apply kept_ite)
    | split | (clear_value *; split) | dsimp only

theorem kept_execEnergyRead (h : Kept W s) (_ : W.part .bus) (_ : W.part .cmd) (_ : W.part .emit) (_ : Logs W)
    (_ : W.fld CMD_CNT.EXEC) (_ : W.fld CMD_LAST.OPCODE) (_ : W.fld CMD_LAST.SEQ) (_ : W.fld CMD_LAST.STATUS)
    (_ : W.fld CMD_LAST_SRC.CLASS) (_ : W.fld CMD_LAST_SRC.INSTANCE) (_ : W.fld CMD_REFUSED.BADOP)
    (_ : W.fld CMD_REFUSED.BADPARAM) (_ : W.fld CMD_REFUSED.NOPERM) (_ : W.fld CMD_REFUSED.VERSION)
    (_ : W.fld MB_CTL.OWED) (_ : W.fld MB_CTL.RQ) (_ : W.fld RING_STAT.OWED) : KeptO W (execEnergyRead s) := by
  unfold execEnergyRead
  repeat' first
    | with_reducible assumption
    | (extract_lets +onlyGivenNames x
       first
       | (refine kept_cut (P := Kept W x) ?_ ?_; (on_goal 1 => subst x); (on_goal 2 => (intro _; try clear_value x)))
       | (refine kept_cut (P := Kept2 W x) ?_ ?_; (on_goal 1 => subst x); (on_goal 2 => (intro _; try clear_value x)))
       | (try clear_value x))
    | (with_reducible first | apply kept_quiet | apply kept_runOp | apply kept_actEnergyRead | apply keptO_next)
    | (with_reducible first | apply kept2_mk | (apply kept2_snd; assumption))
    | (with_reducible first | (apply kept2_snd; apply kept_actEnergyRead) | refine kept_of2 (by assumption) ?_)
    | (with_reducible first | (intro e; exact absurd e (by decide)) | (intro _; assumption) | (intro _; rfl))
    | (with_reducible first | apply kept_ite)
    | (intro _ _ _ _; try beta_reduce) | (intro _ _ _; try beta_reduce) | (intro _ _; try beta_reduce)
    | split | (clear_value *; split) | dsimp only

theorem kept_execRecoveryReport (h : Kept W s) (_ : W.part .bus) (_ : W.part .cmd) (_ : W.part .emit) (_ : W.part .rc)
    (_ : Logs W) (_ : W.fld (Evt.st .RC_ACCEL_STEP)) (_ : W.fld CMD_CNT.EXEC) (_ : W.fld CMD_LAST.OPCODE)
    (_ : W.fld CMD_LAST.SEQ) (_ : W.fld CMD_LAST.STATUS) (_ : W.fld CMD_LAST_SRC.CLASS)
    (_ : W.fld CMD_LAST_SRC.INSTANCE) (_ : W.fld CMD_REFUSED.BADOP) (_ : W.fld CMD_REFUSED.BADPARAM)
    (_ : W.fld CMD_REFUSED.NOPERM) (_ : W.fld CMD_REFUSED.VERSION) (_ : W.fld MB_CTL.OWED) (_ : W.fld MB_CTL.RQ)
    (_ : W.fld RC_ERRCODE.CODE) (_ : W.fld RC_ERRLAST.CODE) (_ : W.fld RC_ERR_TICK.TICK) (_ : W.fld RING_STAT.OWED) :
    KeptO W (execRecoveryReport s) := by
  unfold execRecoveryReport
  repeat' first
    | with_reducible assumption
    | (extract_lets +onlyGivenNames x
       first
       | (refine kept_cut (P := Kept W x) ?_ ?_; (on_goal 1 => subst x); (on_goal 2 => (intro _; try clear_value x)))
       | (refine kept_cut (P := Kept2 W x) ?_ ?_; (on_goal 1 => subst x); (on_goal 2 => (intro _; try clear_value x)))
       | (try clear_value x))
    | (with_reducible first | apply kept_quiet | apply kept_runOp | apply kept_replied | apply kept_collectCode)
    | (with_reducible first | apply kept_raise | apply keptO_next | apply kept2_mk | (apply kept2_snd; assumption))
    | (with_reducible first | (apply kept2_snd; apply kept_replied) | refine kept_of2 (by assumption) ?_)
    | (with_reducible first | (intro e; exact absurd e (by decide)) | (intro _; assumption) | (intro _; rfl))
    | (with_reducible first | apply kept_ite)
    | (intro _ _ _ _; try beta_reduce) | (intro _ _ _; try beta_reduce) | (intro _ _; try beta_reduce)
    | split | (clear_value *; split) | dsimp only

theorem kept_actRecoveryStep {a2 : Nat} {a3 : Packet} (h : Kept W s) (_ : W.part .bus) (_ : W.part .car)
    (_ : W.part .cmd) (_ : W.part .emit) (_ : W.part .free) (_ : W.part .rc) (_ : W.part .rim) (_ : W.part .spk)
    (_ : Logs W) (_ : W.fld (Evt.st .FW_HSNAP)) (_ : W.fld (Evt.st .RC_ABORT_SENT))
    (_ : W.fld (Evt.st .RC_STEP_START)) (_ : W.fld (Evt.st .RC_TRAY_REQ)) (_ : W.fld (Evt.st .RIM_FORCED_OFF))
    (_ : W.fld CORE_RST.RST) (_ : W.fld HS_CTRL.FROZEN) (_ : W.fld HS_CTRL.MISSED) (_ : W.fld HS_W.WORD)
    (_ : W.fld OMB_STAT.DROP) (_ : W.fld OMB_STAT.QUEUED) (_ : W.fld RC_CNT.DIE) (_ : W.fld RC_CNT.PART)
    (_ : W.fld RC_CNT.POWER) (_ : W.fld RC_ERRCODE.CODE) (_ : W.fld RC_ERRLAST.CODE) (_ : W.fld RC_ERR_TICK.TICK)
    (_ : W.fld RC_STAT.DIE_RECENT) (_ : W.fld RC_STAT.HB_ARMED) (_ : W.fld RC_STAT.LADDER) (_ : W.fld RC_STAT.MISSES)
    (_ : W.fld RC_STAT.PWR_HELD) (_ : W.fld RC_STAT.STEP_PART) (_ : W.fld RC_STAT.TRAY_REQ) (_ : W.fld REST_MASK.WAKE)
    (_ : W.fld RG_STAT.RAMPS) (_ : W.fld SWD_STAT.FORCED) (_ : W.fld SWD_STAT.PEND) (_ : W.fld SWD_STAT.WAIT_SLOT) :
    Kept2 W (actRecoveryStep s a2 a3) := by
  unfold actRecoveryStep
  repeat' first
    | with_reducible assumption
    | (extract_lets +onlyGivenNames x
       first
       | (refine kept_cut (P := Kept W x) ?_ ?_; (on_goal 1 => subst x); (on_goal 2 => (intro _; try clear_value x)))
       | (refine kept_cut (P := Kept2 W x) ?_ ?_; (on_goal 1 => subst x); (on_goal 2 => (intro _; try clear_value x)))
       | (try clear_value x))
    | (with_reducible first | apply kept_replied | apply kept_requestStep | apply kept2_mk)
    | (with_reducible first | (apply kept2_snd; assumption) | (apply kept2_snd; apply kept_replied))
    | (with_reducible first | (apply kept2_snd; apply kept_requestStep) | refine kept_of2 (by assumption) ?_)
    | (with_reducible first | (intro _; rfl) | apply kept_ite)
    | (intro _ _ _ _; try beta_reduce) | (intro _ _ _; try beta_reduce) | (intro _ _; try beta_reduce)
    | split | (clear_value *; split) | dsimp only

theorem kept_execRecoveryStep (h : Kept W s) (_ : W.part .bus) (_ : W.part .car) (_ : W.part .cmd) (_ : W.part .emit)
    (_ : W.part .free) (_ : W.part .rc) (_ : W.part .rim) (_ : W.part .spk) (_ : Logs W)
    (_ : W.fld (Evt.st .FW_HSNAP)) (_ : W.fld (Evt.st .RC_ABORT_SENT)) (_ : W.fld (Evt.st .RC_STEP_START))
    (_ : W.fld (Evt.st .RC_TRAY_REQ)) (_ : W.fld (Evt.st .RIM_FORCED_OFF)) (_ : W.fld CMD_CNT.EXEC)
    (_ : W.fld CMD_LAST.OPCODE) (_ : W.fld CMD_LAST.SEQ) (_ : W.fld CMD_LAST.STATUS) (_ : W.fld CMD_LAST_SRC.CLASS)
    (_ : W.fld CMD_LAST_SRC.INSTANCE) (_ : W.fld CMD_REFUSED.BADOP) (_ : W.fld CMD_REFUSED.BADPARAM)
    (_ : W.fld CMD_REFUSED.NOPERM) (_ : W.fld CMD_REFUSED.VERSION) (_ : W.fld CORE_RST.RST) (_ : W.fld HS_CTRL.FROZEN)
    (_ : W.fld HS_CTRL.MISSED) (_ : W.fld HS_W.WORD) (_ : W.fld MB_CTL.OWED) (_ : W.fld MB_CTL.RQ)
    (_ : W.fld OMB_STAT.DROP) (_ : W.fld OMB_STAT.QUEUED) (_ : W.fld RC_CNT.DIE) (_ : W.fld RC_CNT.PART)
    (_ : W.fld RC_CNT.POWER) (_ : W.fld RC_ERRCODE.CODE) (_ : W.fld RC_ERRLAST.CODE) (_ : W.fld RC_ERR_TICK.TICK)
    (_ : W.fld RC_STAT.DIE_RECENT) (_ : W.fld RC_STAT.HB_ARMED) (_ : W.fld RC_STAT.LADDER) (_ : W.fld RC_STAT.MISSES)
    (_ : W.fld RC_STAT.PWR_HELD) (_ : W.fld RC_STAT.STEP_PART) (_ : W.fld RC_STAT.TRAY_REQ) (_ : W.fld REST_MASK.WAKE)
    (_ : W.fld RG_STAT.RAMPS) (_ : W.fld RING_STAT.OWED) (_ : W.fld SWD_STAT.FORCED) (_ : W.fld SWD_STAT.PEND)
    (_ : W.fld SWD_STAT.WAIT_SLOT) : KeptO W (execRecoveryStep s) := by
  unfold execRecoveryStep
  repeat' first
    | with_reducible assumption
    | (extract_lets +onlyGivenNames x
       first
       | (refine kept_cut (P := Kept W x) ?_ ?_; (on_goal 1 => subst x); (on_goal 2 => (intro _; try clear_value x)))
       | (refine kept_cut (P := Kept2 W x) ?_ ?_; (on_goal 1 => subst x); (on_goal 2 => (intro _; try clear_value x)))
       | (try clear_value x))
    | (with_reducible first | apply kept_quiet | apply kept_runOp | apply kept_actRecoveryStep | apply keptO_next)
    | (with_reducible first | apply kept2_mk | (apply kept2_snd; assumption))
    | (with_reducible first | (apply kept2_snd; apply kept_actRecoveryStep) | refine kept_of2 (by assumption) ?_)
    | (with_reducible first | (intro e; exact absurd e (by decide)) | (intro _; assumption) | (intro _; rfl))
    | (with_reducible first | apply kept_ite)
    | (intro _ _ _ _; try beta_reduce) | (intro _ _ _; try beta_reduce) | (intro _ _; try beta_reduce)
    | split | (clear_value *; split) | dsimp only

theorem kept_execWarmRestart (h : Kept W s) (_ : W.part .bg) (_ : W.part .bus) (_ : W.part .cad) (_ : W.part .car)
    (_ : W.part .cmd) (_ : W.part .emit) (_ : W.part .eng) (_ : W.part .free) (_ : W.part .fw) (_ : W.part .log)
    (_ : W.part .pel) (_ : W.part .rc) (_ : W.part .rim) (_ : W.part .tasks) (_ : Logs W)
    (_ : W.fld (Evt.st .CAR_ROLE_CHANGE)) (_ : W.fld (Evt.st .FW_HSNAP)) (_ : W.fld (Evt.st .RC_TRAY_REQ))
    (_ : W.fld (Evt.st .RIM_CANCELLED)) (_ : W.fld BG_HINT_STAT.ACTIVE) (_ : W.fld BG_HINT_STAT.HELD)
    (_ : W.fld BG_SECT.HINT) (_ : W.fld CAR_LEASE.LEFT) (_ : W.fld CAR_STAT.LEASE_VALID) (_ : W.fld CAR_STAT.ROLE)
    (_ : W.fld CMD_CNT.EXEC) (_ : W.fld CMD_LAST.OPCODE) (_ : W.fld CMD_LAST.SEQ) (_ : W.fld CMD_LAST.STATUS)
    (_ : W.fld CMD_LAST_SRC.CLASS) (_ : W.fld CMD_LAST_SRC.INSTANCE) (_ : W.fld CMD_REFUSED.BADOP)
    (_ : W.fld CMD_REFUSED.BADPARAM) (_ : W.fld CMD_REFUSED.NOPERM) (_ : W.fld CMD_REFUSED.VERSION)
    (_ : W.fld DOM_AGE.AGE) (_ : W.fld DOM_STAT.PENDING) (_ : W.fld DOM_STAT.PROMOTED) (_ : W.fld ENG_CAND.CAP)
    (_ : W.fld ENG_CAND.CUR) (_ : W.fld ENG_CAND.THM) (_ : W.fld ENG_LCAND.LINK8) (_ : W.fld ENG_LCAND.LINK9)
    (_ : W.fld ENG_LCAND.STACK) (_ : W.fld ENG_SEL.LNK) (_ : W.fld ENG_SEL.SEC) (_ : W.fld ENG_SEL.STK)
    (_ : W.fld ENG_STAT.INACT_VALID) (_ : W.fld ENG_STAT.STATE) (_ : W.fld FW_SLOT_A.GEN) (_ : W.fld FW_SLOT_A.STATE)
    (_ : W.fld FW_SLOT_B.GEN) (_ : W.fld FW_SLOT_B.STATE) (_ : W.fld FW_STAT.ACTIVE) (_ : W.fld FW_STAT.GEN)
    (_ : W.fld FW_STAT.NO_FW) (_ : W.fld FW_STAT.TENTATIVE) (_ : W.fld GSTAT.HOLDOVER) (_ : W.fld GSTAT.READY)
    (_ : W.fld HS_CTRL.FROZEN) (_ : W.fld HS_CTRL.MISSED) (_ : W.fld HS_W.WORD) (_ : W.fld MB_CTL.OWED)
    (_ : W.fld MB_CTL.RQ) (_ : W.fld PEL_OFS.OFS) (_ : W.fld PEL_STAT.OFS_VALID) (_ : W.fld PEL_STAT.ROOT)
    (_ : W.fld RC_CNT.POWER) (_ : W.fld RC_CNT.WARM) (_ : W.fld RC_ERRCODE.CODE) (_ : W.fld RC_ERRLAST.CODE)
    (_ : W.fld RC_ERR_TICK.TICK) (_ : W.fld RC_STAT.HOLDOVER) (_ : W.fld RC_STAT.LADDER) (_ : W.fld RC_STAT.PWR_HELD)
    (_ : W.fld RC_STAT.STEP_PART) (_ : W.fld RC_STAT.TRAY_REQ) (_ : W.fld RC_STAT.WR_COUNT) (_ : W.fld RING_STAT.OWED)
    (_ : W.fld SWD_STAT.PEND) (_ : W.fld SWD_STAT.WAIT_SLOT) (_ : W.locks {}) : KeptO W (execWarmRestart s) := by
  unfold execWarmRestart
  repeat' first
    | with_reducible assumption
    | (extract_lets +onlyGivenNames x
       first
       | (refine kept_cut (P := Kept W x) ?_ ?_; (on_goal 1 => subst x); (on_goal 2 => (intro _; try clear_value x)))
       | (refine kept_cut (P := Kept2 W x) ?_ ?_; (on_goal 1 => subst x); (on_goal 2 => (intro _; try clear_value x)))
       | (try clear_value x))
    | (with_reducible first | apply kept_quiet | apply kept_runOp | apply kept_beginRestart | apply keptO_next)
    | (with_reducible first | apply kept2_mk | (apply kept2_snd; assumption) | refine kept_of2 (by assumption) ?_)
    | (with_reducible first | (intro e; exact absurd e (by decide)) | (intro _; assumption) | (intro _; rfl))
    | (with_reducible first | apply kept_ite)
    | (intro _ _ _ _; try beta_reduce) | (intro _ _ _; try beta_reduce) | (intro _ _; try beta_reduce)
    | split | (clear_value *; split) | dsimp only

theorem kept_execErrRead (h : Kept W s) (_ : W.part .bus) (_ : W.part .cmd) (_ : W.part .emit) (_ : Logs W)
    (_ : W.fld CMD_CNT.EXEC) (_ : W.fld CMD_LAST.OPCODE) (_ : W.fld CMD_LAST.SEQ) (_ : W.fld CMD_LAST.STATUS)
    (_ : W.fld CMD_LAST_SRC.CLASS) (_ : W.fld CMD_LAST_SRC.INSTANCE) (_ : W.fld CMD_REFUSED.BADOP)
    (_ : W.fld CMD_REFUSED.BADPARAM) (_ : W.fld CMD_REFUSED.NOPERM) (_ : W.fld CMD_REFUSED.VERSION)
    (_ : W.fld MB_CTL.OWED) (_ : W.fld MB_CTL.RQ) (_ : W.fld RING_STAT.OWED) : KeptO W (execErrRead s) := by
  unfold execErrRead
  repeat' first
    | with_reducible assumption
    | (extract_lets +onlyGivenNames x
       first
       | (refine kept_cut (P := Kept W x) ?_ ?_; (on_goal 1 => subst x); (on_goal 2 => (intro _; try clear_value x)))
       | (refine kept_cut (P := Kept2 W x) ?_ ?_; (on_goal 1 => subst x); (on_goal 2 => (intro _; try clear_value x)))
       | (try clear_value x))
    | (with_reducible first | apply kept_quiet | apply kept_runOp | apply kept_replied | apply keptO_next)
    | (with_reducible first | apply kept2_mk | (apply kept2_snd; assumption) | (apply kept2_snd; apply kept_replied))
    | (with_reducible first | refine kept_of2 (by assumption) ?_ | (intro e; exact absurd e (by decide)))
    | (with_reducible first | (intro _; assumption) | (intro _; rfl) | apply kept_ite)
    | (intro _ _ _ _; try beta_reduce) | (intro _ _ _; try beta_reduce) | (intro _ _; try beta_reduce)
    | split | (clear_value *; split) | dsimp only

theorem kept_execErrClear (h : Kept W s) (_ : W.part .bus) (_ : W.part .cmd) (_ : W.part .emit) (_ : Logs W)
    (_ : W.fld CMD_CNT.EXEC) (_ : W.fld CMD_LAST.OPCODE) (_ : W.fld CMD_LAST.SEQ) (_ : W.fld CMD_LAST.STATUS)
    (_ : W.fld CMD_LAST_SRC.CLASS) (_ : W.fld CMD_LAST_SRC.INSTANCE) (_ : W.fld CMD_REFUSED.BADOP)
    (_ : W.fld CMD_REFUSED.BADPARAM) (_ : W.fld CMD_REFUSED.NOPERM) (_ : W.fld CMD_REFUSED.VERSION)
    (_ : W.fld MB_CTL.OWED) (_ : W.fld MB_CTL.RQ) (_ : W.fld RC_CLR.ERR) (_ : W.fld RING_STAT.OWED) :
    KeptO W (execErrClear s) := by
  unfold execErrClear
  repeat' first
    | with_reducible assumption
    | (extract_lets +onlyGivenNames x
       first
       | (refine kept_cut (P := Kept W x) ?_ ?_; (on_goal 1 => subst x); (on_goal 2 => (intro _; try clear_value x)))
       | (refine kept_cut (P := Kept2 W x) ?_ ?_; (on_goal 1 => subst x); (on_goal 2 => (intro _; try clear_value x)))
       | (try clear_value x))
    | (with_reducible first | apply kept_quiet | apply kept_runOp | apply kept_replied | apply kept_wr)
    | (with_reducible first | apply keptO_next | apply kept2_mk | (apply kept2_snd; assumption))
    | (with_reducible first | (apply kept2_snd; apply kept_replied) | refine kept_of2 (by assumption) ?_)
    | (with_reducible first | (intro e; exact absurd e (by decide)) | (intro _; assumption) | (intro _; rfl))
    | (with_reducible first | apply kept_ite)
    | (intro _ _ _ _; try beta_reduce) | (intro _ _ _; try beta_reduce) | (intro _ _; try beta_reduce)
    | split | (clear_value *; split) | dsimp only

theorem kept_execSuspectReport (h : Kept W s) (_ : W.part .bus) (_ : W.part .cmd) (_ : W.part .emit)
    (_ : W.part .free) (_ : W.part .mg) (_ : Logs W) (_ : W.fld (Evt.st .MG_CORE_RETIRED))
    (_ : W.fld (Evt.st .MG_CORE_SLOWED)) (_ : W.fld (Evt.st .MG_OTP_FULL)) (_ : W.fld (Evt.st .MG_SUS_STEP))
    (_ : W.fld (Evt.st .MG_WORN)) (_ : W.fld CMD_CNT.EXEC) (_ : W.fld CMD_LAST.OPCODE) (_ : W.fld CMD_LAST.SEQ)
    (_ : W.fld CMD_LAST.STATUS) (_ : W.fld CMD_LAST_SRC.CLASS) (_ : W.fld CMD_LAST_SRC.INSTANCE)
    (_ : W.fld CMD_REFUSED.BADOP) (_ : W.fld CMD_REFUSED.BADPARAM) (_ : W.fld CMD_REFUSED.NOPERM)
    (_ : W.fld CMD_REFUSED.VERSION) (_ : W.fld MB_CTL.OWED) (_ : W.fld MB_CTL.RQ) (_ : W.fld MG_CL.STATE)
    (_ : W.fld MG_CL.SUS) (_ : W.fld MG_CNT.PERM) (_ : W.fld MG_CNT.TRANS) (_ : W.fld MG_OTP.FREE)
    (_ : W.fld MG_OTP.USED) (_ : W.fld MG_STAT.OTP_FULL) (_ : W.fld MG_STAT.RETIRED) (_ : W.fld MG_STAT.SUS_OVF)
    (_ : W.fld MG_STAT.WORN) (_ : W.fld OMB_STAT.DROP) (_ : W.fld OMB_STAT.QUEUED) (_ : W.fld RING_STAT.OWED)
    (_ : W.fld TH_STAT.OTP_PEND) (_ : W.fld TH_WR_CNT.DEFERRED) (_ : W.fld TH_WR_CNT.SUPERSEDED) :
    KeptO W (execSuspectReport s) := by
  unfold execSuspectReport
  repeat' first
    | with_reducible assumption
    | (extract_lets +onlyGivenNames x
       first
       | (refine kept_cut (P := Kept W x) ?_ ?_; (on_goal 1 => subst x); (on_goal 2 => (intro _; try clear_value x)))
       | (refine kept_cut (P := Kept2 W x) ?_ ?_; (on_goal 1 => subst x); (on_goal 2 => (intro _; try clear_value x)))
       | (try clear_value x))
    | (with_reducible first | apply kept_quiet | apply kept_runOp | apply kept_suspectCommand | apply kept_replied)
    | (with_reducible first | apply keptO_next | apply kept2_mk | (apply kept2_snd; assumption))
    | (with_reducible first | (apply kept2_snd; apply kept_suspectCommand) | (apply kept2_snd; apply kept_replied))
    | (with_reducible first | refine kept_of2 (by assumption) ?_ | (intro e; exact absurd e (by decide)))
    | (with_reducible first | (intro _; assumption) | (intro _; rfl) | apply kept_ite)
    | (intro _ _ _ _; try beta_reduce) | (intro _ _ _; try beta_reduce) | (intro _ _; try beta_reduce)
    | split | (clear_value *; split) | dsimp only

theorem kept_execSuspectClear (h : Kept W s) (_ : W.part .bus) (_ : W.part .cmd) (_ : W.part .emit) (_ : W.part .mg)
    (_ : Logs W) (_ : W.fld (Evt.st .MG_OTP_FULL)) (_ : W.fld CMD_CNT.EXEC) (_ : W.fld CMD_LAST.OPCODE)
    (_ : W.fld CMD_LAST.SEQ) (_ : W.fld CMD_LAST.STATUS) (_ : W.fld CMD_LAST_SRC.CLASS)
    (_ : W.fld CMD_LAST_SRC.INSTANCE) (_ : W.fld CMD_REFUSED.BADOP) (_ : W.fld CMD_REFUSED.BADPARAM)
    (_ : W.fld CMD_REFUSED.NOPERM) (_ : W.fld CMD_REFUSED.VERSION) (_ : W.fld MB_CTL.OWED) (_ : W.fld MB_CTL.RQ)
    (_ : W.fld MG_CL.APPL) (_ : W.fld MG_CL.SUS) (_ : W.fld MG_OTP.FREE) (_ : W.fld MG_OTP.USED)
    (_ : W.fld MG_STAT.OTP_FULL) (_ : W.fld MG_STAT.SUS_OVF) (_ : W.fld RING_STAT.OWED) (_ : W.fld TH_STAT.OTP_PEND)
    (_ : W.fld TH_WR_CNT.DEFERRED) (_ : W.fld TH_WR_CNT.SUPERSEDED) : KeptO W (execSuspectClear s) := by
  unfold execSuspectClear
  repeat' first
    | with_reducible assumption
    | (extract_lets +onlyGivenNames x
       first
       | (refine kept_cut (P := Kept W x) ?_ ?_; (on_goal 1 => subst x); (on_goal 2 => (intro _; try clear_value x)))
       | (refine kept_cut (P := Kept2 W x) ?_ ?_; (on_goal 1 => subst x); (on_goal 2 => (intro _; try clear_value x)))
       | (try clear_value x))
    | (with_reducible first | apply kept_quiet | apply kept_runOp | apply kept_suspectClear | apply kept_replied)
    | (with_reducible first | apply keptO_next | apply kept2_mk | (apply kept2_snd; assumption))
    | (with_reducible first | (apply kept2_snd; apply kept_suspectClear) | (apply kept2_snd; apply kept_replied))
    | (with_reducible first | refine kept_of2 (by assumption) ?_ | (intro e; exact absurd e (by decide)))
    | (with_reducible first | (intro _; assumption) | (intro _; rfl) | apply kept_ite)
    | (intro _ _ _ _; try beta_reduce) | (intro _ _ _; try beta_reduce) | (intro _ _; try beta_reduce)
    | split | (clear_value *; split) | dsimp only

theorem kept_actCoreCtrl {a2 : Nat} {a3 : Packet} (h : Kept W s) (_ : W.part .emit) (_ : W.part .spk)
    (_ : W.fld CORE_DIV.DIV) (_ : W.fld CORE_FENCE.FENCE) (_ : W.fld CORE_GATE.GATE) (_ : W.fld CORE_RST.RST) :
    Kept2 W (actCoreCtrl s a2 a3) := by
  unfold actCoreCtrl
  repeat' first
    | with_reducible assumption
    | (extract_lets +onlyGivenNames x
       first
       | (refine kept_cut (P := Kept W x) ?_ ?_; (on_goal 1 => subst x); (on_goal 2 => (intro _; try clear_value x)))
       | (refine kept_cut (P := Kept2 W x) ?_ ?_; (on_goal 1 => subst x); (on_goal 2 => (intro _; try clear_value x)))
       | (try clear_value x))
    | (with_reducible first | apply kept_replied | apply kept_wr | apply kept_wrBit | apply kept_assertReset)
    | (with_reducible first | apply kept2_mk | (apply kept2_snd; assumption) | (apply kept2_snd; apply kept_replied))
    | (with_reducible first | refine kept_of2 (by assumption) ?_ | (intro _; rfl) | apply kept_ite)
    | (intro _ _ _ _; try beta_reduce) | (intro _ _ _; try beta_reduce) | (intro _ _; try beta_reduce)
    | split | (clear_value *; split) | dsimp only

theorem kept_execCoreCtrl (h : Kept W s) (_ : W.part .bus) (_ : W.part .cmd) (_ : W.part .emit) (_ : W.part .spk)
    (_ : Logs W) (_ : W.fld CMD_CNT.EXEC) (_ : W.fld CMD_LAST.OPCODE) (_ : W.fld CMD_LAST.SEQ)
    (_ : W.fld CMD_LAST.STATUS) (_ : W.fld CMD_LAST_SRC.CLASS) (_ : W.fld CMD_LAST_SRC.INSTANCE)
    (_ : W.fld CMD_REFUSED.BADOP) (_ : W.fld CMD_REFUSED.BADPARAM) (_ : W.fld CMD_REFUSED.NOPERM)
    (_ : W.fld CMD_REFUSED.VERSION) (_ : W.fld CORE_DIV.DIV) (_ : W.fld CORE_FENCE.FENCE) (_ : W.fld CORE_GATE.GATE)
    (_ : W.fld CORE_RST.RST) (_ : W.fld MB_CTL.OWED) (_ : W.fld MB_CTL.RQ) (_ : W.fld RING_STAT.OWED) :
    KeptO W (execCoreCtrl s) := by
  unfold execCoreCtrl
  repeat' first
    | with_reducible assumption
    | (extract_lets +onlyGivenNames x
       first
       | (refine kept_cut (P := Kept W x) ?_ ?_; (on_goal 1 => subst x); (on_goal 2 => (intro _; try clear_value x)))
       | (refine kept_cut (P := Kept2 W x) ?_ ?_; (on_goal 1 => subst x); (on_goal 2 => (intro _; try clear_value x)))
       | (try clear_value x))
    | (with_reducible first | apply kept_quiet | apply kept_runOp | apply kept_actCoreCtrl | apply keptO_next)
    | (with_reducible first | apply kept2_mk | (apply kept2_snd; assumption))
    | (with_reducible first | (apply kept2_snd; apply kept_actCoreCtrl) | refine kept_of2 (by assumption) ?_)
    | (with_reducible first | (intro e; exact absurd e (by decide)) | (intro _; assumption) | (intro _; rfl))
    | (with_reducible first | apply kept_ite)
    | (intro _ _ _ _; try beta_reduce) | (intro _ _ _; try beta_reduce) | (intro _ _; try beta_reduce)
    | split | (clear_value *; split) | dsimp only

theorem kept_execMarginRead (h : Kept W s) (_ : W.part .bus) (_ : W.part .cmd) (_ : W.part .emit) (_ : Logs W)
    (_ : W.fld CMD_CNT.EXEC) (_ : W.fld CMD_LAST.OPCODE) (_ : W.fld CMD_LAST.SEQ) (_ : W.fld CMD_LAST.STATUS)
    (_ : W.fld CMD_LAST_SRC.CLASS) (_ : W.fld CMD_LAST_SRC.INSTANCE) (_ : W.fld CMD_REFUSED.BADOP)
    (_ : W.fld CMD_REFUSED.BADPARAM) (_ : W.fld CMD_REFUSED.NOPERM) (_ : W.fld CMD_REFUSED.VERSION)
    (_ : W.fld MB_CTL.OWED) (_ : W.fld MB_CTL.RQ) (_ : W.fld RING_STAT.OWED) : KeptO W (execMarginRead s) := by
  unfold execMarginRead
  repeat' first
    | with_reducible assumption
    | (extract_lets +onlyGivenNames x
       first
       | (refine kept_cut (P := Kept W x) ?_ ?_; (on_goal 1 => subst x); (on_goal 2 => (intro _; try clear_value x)))
       | (refine kept_cut (P := Kept2 W x) ?_ ?_; (on_goal 1 => subst x); (on_goal 2 => (intro _; try clear_value x)))
       | (try clear_value x))
    | (with_reducible first | apply kept_quiet | apply kept_runOp | apply kept_actRead | apply kept_replied)
    | (with_reducible first | apply keptO_next | apply kept2_mk | (apply kept2_snd; assumption))
    | (with_reducible first | (apply kept2_snd; apply kept_actRead) | (apply kept2_snd; apply kept_replied))
    | (with_reducible first | refine kept_of2 (by assumption) ?_ | (intro e; exact absurd e (by decide)))
    | (with_reducible first | (intro _; assumption) | (intro _; rfl) | apply kept_ite)
    | (intro _ _ _ _; try beta_reduce) | (intro _ _ _; try beta_reduce) | (intro _ _; try beta_reduce)
    | split | (clear_value *; split) | dsimp only

theorem kept_execLockSet (h : Kept W s) (_ : W.part .bus) (_ : W.part .cmd) (_ : W.part .emit) (_ : Logs W)
    (_ : W.fld CMD_CNT.EXEC) (_ : W.fld CMD_LAST.OPCODE) (_ : W.fld CMD_LAST.SEQ) (_ : W.fld CMD_LAST.STATUS)
    (_ : W.fld CMD_LAST_SRC.CLASS) (_ : W.fld CMD_LAST_SRC.INSTANCE) (_ : W.fld CMD_REFUSED.BADOP)
    (_ : W.fld CMD_REFUSED.BADPARAM) (_ : W.fld CMD_REFUSED.NOPERM) (_ : W.fld CMD_REFUSED.VERSION)
    (_ : W.fld MB_CTL.OWED) (_ : W.fld MB_CTL.RQ) (_ : W.fld RING_STAT.OWED)
    (hj : ∀ a b : Locks, W.locks a → W.locks (a.join b)) : KeptO W (execLockSet s) := by
  unfold execLockSet
  repeat' first
    | with_reducible assumption
    | (extract_lets +onlyGivenNames x
       first
       | (refine kept_cut (P := Kept W x) ?_ ?_; (on_goal 1 => subst x); (on_goal 2 => (intro _; try clear_value x)))
       | (refine kept_cut (P := Kept2 W x) ?_ ?_; (on_goal 1 => subst x); (on_goal 2 => (intro _; try clear_value x)))
       | (try clear_value x))
    | (with_reducible first | apply kept_quiet | apply kept_runOp | apply kept_setLocks | apply kept_replied)
    | (with_reducible first | apply keptO_next | apply kept2_mk | (apply kept2_snd; assumption))
    | (with_reducible first | (apply kept2_snd; apply kept_replied) | refine kept_of2 (by assumption) ?_)
    | (with_reducible first | (apply hj; assumption) | (intro e; exact absurd e (by decide)) | (intro _; assumption))
    | (with_reducible first | (intro _; rfl) | apply kept_ite)
    | (intro _ _ _ _; try beta_reduce) | (intro _ _ _; try beta_reduce) | (intro _ _; try beta_reduce)
    | split | (clear_value *; split) | dsimp only

theorem kept_execLockRead (h : Kept W s) (_ : W.part .bus) (_ : W.part .cmd) (_ : W.part .emit) (_ : Logs W)
    (_ : W.fld CMD_CNT.EXEC) (_ : W.fld CMD_LAST.OPCODE) (_ : W.fld CMD_LAST.SEQ) (_ : W.fld CMD_LAST.STATUS)
    (_ : W.fld CMD_LAST_SRC.CLASS) (_ : W.fld CMD_LAST_SRC.INSTANCE) (_ : W.fld CMD_REFUSED.BADOP)
    (_ : W.fld CMD_REFUSED.BADPARAM) (_ : W.fld CMD_REFUSED.NOPERM) (_ : W.fld CMD_REFUSED.VERSION)
    (_ : W.fld MB_CTL.OWED) (_ : W.fld MB_CTL.RQ) (_ : W.fld RING_STAT.OWED) : KeptO W (execLockRead s) := by
  unfold execLockRead
  repeat' first
    | with_reducible assumption
    | (extract_lets +onlyGivenNames x
       first
       | (refine kept_cut (P := Kept W x) ?_ ?_; (on_goal 1 => subst x); (on_goal 2 => (intro _; try clear_value x)))
       | (refine kept_cut (P := Kept2 W x) ?_ ?_; (on_goal 1 => subst x); (on_goal 2 => (intro _; try clear_value x)))
       | (try clear_value x))
    | (with_reducible first | apply kept_quiet | apply kept_runOp | apply kept_replied | apply keptO_next)
    | (with_reducible first | apply kept2_mk | (apply kept2_snd; assumption) | (apply kept2_snd; apply kept_replied))
    | (with_reducible first | refine kept_of2 (by assumption) ?_ | (intro e; exact absurd e (by decide)))
    | (with_reducible first | (intro _; assumption) | (intro _; rfl) | apply kept_ite)
    | (intro _ _ _ _; try beta_reduce) | (intro _ _ _; try beta_reduce) | (intro _ _; try beta_reduce)
    | split | (clear_value *; split) | dsimp only

theorem kept_readAll {l : List Nat} (h : Kept W s) (_ : W.part .bus) (_ : W.fld ACC_ERR_ADDR.ADDR) (_ : W.fld ACC_ERR_INFO.CAUSE) (_ : W.fld ACC_ERR_INFO.COUNT) (_ : W.fld ACC_ERR_INFO.ID) (_ : W.fld ACC_ERR_INFO.NS) (_ : W.fld ACC_ERR_INFO.SVC) (_ : W.fld ACC_ERR_INFO.WRITE) (_ : W.fld GSTAT.ACCESS_ERR) (_ : W.fld GSTAT.SNAP_STALE) (_ : W.fld SNT_IDX.IDX) :
    Kept3 W (s.readAll l) := by
  induction l generalizing s with
  | nil => exact kept3_mk h
  | cons off t ih =>
    have h1 : Kept3 W (s.busRead svcAcc off) := by
      apply kept_busRead h <;> assumption
    have h2 : Kept W (s.busRead svcAcc off).2.2 := h1.kept
    exact kept3_mk (ih h2).kept

theorem kept_writeAll (_ : W.part .bus) (_ : W.part .cmd) (_ : W.part .em) (_ : W.part .emit) (_ : W.part .free) (_ : W.part .gl) (_ : W.part .mg) (_ : W.part .rc) (_ : W.part .tasks) (_ : Logs W) (ha : ∀ F, W.fld F) (hj : ∀ a b : Locks, W.locks a → W.locks (a.join b)) :
    ∀ (l : List Nat) {s : State}, Kept W s → Kept2 W (s.writeAll l)
  | off :: v :: t, s, h => by
    have h1 : Kept2 W (s.busWrite svcAcc off v) := by
      apply kept_busWrite h <;> assumption
    have h2 : Kept W (s.busWrite svcAcc off v).2 := h1.kept
    have h3 : Kept2 W ((s.busWrite svcAcc off v).2.writeAll t) := by
      apply kept_writeAll <;> assumption
    exact kept2_mk h3.kept
  | [], _, h => kept2_mk h
  | [_], _, h => kept2_mk h

theorem kept_execRegRead (h : Kept W s) (_ : W.part .bus) (_ : W.part .cmd) (_ : W.part .emit) (_ : Logs W)
    (_ : W.fld ACC_ERR_ADDR.ADDR) (_ : W.fld ACC_ERR_INFO.CAUSE) (_ : W.fld ACC_ERR_INFO.COUNT)
    (_ : W.fld ACC_ERR_INFO.ID) (_ : W.fld ACC_ERR_INFO.NS) (_ : W.fld ACC_ERR_INFO.SVC)
    (_ : W.fld ACC_ERR_INFO.WRITE) (_ : W.fld CMD_CNT.EXEC) (_ : W.fld CMD_LAST.OPCODE) (_ : W.fld CMD_LAST.SEQ)
    (_ : W.fld CMD_LAST.STATUS) (_ : W.fld CMD_LAST_SRC.CLASS) (_ : W.fld CMD_LAST_SRC.INSTANCE)
    (_ : W.fld CMD_REFUSED.BADOP) (_ : W.fld CMD_REFUSED.BADPARAM) (_ : W.fld CMD_REFUSED.NOPERM)
    (_ : W.fld CMD_REFUSED.VERSION) (_ : W.fld GSTAT.ACCESS_ERR) (_ : W.fld GSTAT.SNAP_STALE) (_ : W.fld MB_CTL.OWED)
    (_ : W.fld MB_CTL.RQ) (_ : W.fld RING_STAT.OWED) (_ : W.fld SNT_IDX.IDX) : KeptO W (execRegRead s) := by
  unfold execRegRead
  repeat' first
    | with_reducible assumption
    | (extract_lets +onlyGivenNames x
       first
       | (refine kept_cut (P := Kept W x) ?_ ?_; (on_goal 1 => subst x); (on_goal 2 => (intro _; try clear_value x)))
       | (refine kept_cut (P := Kept2 W x) ?_ ?_; (on_goal 1 => subst x); (on_goal 2 => (intro _; try clear_value x)))
       | (refine kept_cut (P := Kept3 W x) ?_ ?_; (on_goal 1 => subst x); (on_goal 2 => (intro _; try clear_value x)))
       | (try clear_value x))
    | (with_reducible first | apply kept_quiet | apply kept_runOp | apply kept_readAll | apply kept_replied)
    | (with_reducible first | apply keptO_next | apply kept2_mk | apply kept3_mk | (apply kept2_snd; assumption))
    | (with_reducible first | (apply kept3_snd; assumption) | (apply kept2_snd; apply kept_replied))
    | (with_reducible first | (apply kept3_snd; apply kept_readAll) | refine kept_of2 (by assumption) ?_)
    | (with_reducible first | refine kept_of3 (by assumption) ?_ | (intro e; exact absurd e (by decide)))
    | (with_reducible first | (intro _; assumption) | (intro _; rfl) | apply kept_ite)
    | (intro _ _ _ _; try beta_reduce) | (intro _ _ _; try beta_reduce) | (intro _ _; try beta_reduce)
    | split | (clear_value *; split) | dsimp only

theorem kept_execRegWrite (h : Kept W s) (_ : W.part .bus) (_ : W.part .cmd) (_ : W.part .em) (_ : W.part .emit)
    (_ : W.part .free) (_ : W.part .gl) (_ : W.part .mg) (_ : W.part .rc) (_ : W.part .tasks) (_ : Logs W)
    (ha : ∀ F, W.fld F) (hj : ∀ a b : Locks, W.locks a → W.locks (a.join b)) : KeptO W (execRegWrite s) := by
  unfold execRegWrite
  repeat' first
    | with_reducible assumption
    | (extract_lets +onlyGivenNames x
       first
       | (refine kept_cut (P := Kept W x) ?_ ?_; (on_goal 1 => subst x); (on_goal 2 => (intro _; try clear_value x)))
       | (refine kept_cut (P := Kept2 W x) ?_ ?_; (on_goal 1 => subst x); (on_goal 2 => (intro _; try clear_value x)))
       | (try clear_value x))
    | (with_reducible first | apply kept_quiet | apply kept_runOp | apply kept_writeAll | apply kept_replied)
    | (with_reducible first | apply keptO_next | apply kept2_mk | (apply kept2_snd; assumption))
    | (with_reducible first | (apply kept2_snd; apply kept_writeAll) | (apply kept2_snd; apply kept_replied))
    | (with_reducible first | refine kept_of2 (by assumption) ?_ | apply ha | (apply hj; assumption))
    | (with_reducible first | (intro e; exact absurd e (by decide)) | (intro _; assumption) | (intro _; rfl))
    | (with_reducible first | apply kept_ite)
    | (intro _ _ _ _; try beta_reduce) | (intro _ _ _; try beta_reduce) | (intro _ _; try beta_reduce)
    | split | (clear_value *; split) | dsimp only

theorem kept_meterOpcode {a2 : Nat} {a3 : Option (List Nat)} {a4 : State → List Nat → Nat × List Nat × State}
    {a5 : State → Nat → Packet → Result × State} (h : Kept W s) (k4 : ∀ x l0, Kept W x → Kept3 W (a4 x l0))
    (k5 : ∀ x l0 l1, Kept W x → Kept2 W (a5 x l0 l1)) (_ : W.part .bus) (_ : W.part .cmd) (_ : W.part .emit)
    (_ : W.part .mtr) (_ : Logs W) (_ : a2 = 0x30 → W.fld BG_HINT_CNT.REJECTED) (_ : W.fld CMD_CNT.EXEC)
    (_ : W.fld CMD_LAST.OPCODE) (_ : W.fld CMD_LAST.SEQ) (_ : W.fld CMD_LAST.STATUS) (_ : W.fld CMD_LAST_SRC.CLASS)
    (_ : W.fld CMD_LAST_SRC.INSTANCE) (_ : W.fld CMD_REFUSED.BADOP) (_ : W.fld CMD_REFUSED.BADPARAM)
    (_ : W.fld CMD_REFUSED.NOPERM) (_ : W.fld CMD_REFUSED.VERSION) (_ : W.fld MB_CTL.OWED) (_ : W.fld MB_CTL.RQ)
    (_ : W.fld RING_STAT.OWED) : Kept W (State.meterOpcode s a2 a3 a4 a5) := by
  unfold State.meterOpcode
  repeat' first
    | with_reducible assumption
    | (extract_lets +onlyGivenNames x
       first
       | (refine kept_cut (P := Kept W x) ?_ ?_; (on_goal 1 => subst x); (on_goal 2 => (intro _; try clear_value x)))
       | (refine kept_cut (P := Kept2 W x) ?_ ?_; (on_goal 1 => subst x); (on_goal 2 => (intro _; try clear_value x)))
       | (refine kept_cut (P := Kept3 W x) ?_ ?_; (on_goal 1 => subst x); (on_goal 2 => (intro _; try clear_value x)))
       | (try clear_value x))
    | (with_reducible first | apply kept_meterPort | apply kept_runOp | apply k4 | apply k5 | apply kept2_mk)
    | (with_reducible first | apply kept3_mk | (apply kept2_snd; assumption) | (apply kept3_snd; assumption))
    | (with_reducible first | (apply kept2_snd; apply k5) | (apply kept3_snd; apply k4))
    | (with_reducible first | refine kept_of2 (by assumption) ?_ | refine kept_of3 (by assumption) ?_)
    | (with_reducible first | (intro _; rfl) | apply kept_ite)
    | (intro _ _ _ _; try beta_reduce) | (intro _ _ _; try beta_reduce) | (intro _ _; try beta_reduce)
    | split | (clear_value *; split) | dsimp only

theorem kept_actMeterOnly {a2 : Nat} {a3 : Packet} (h : Kept W s) : Kept2 W (actMeterOnly s a2 a3) := by
  unfold actMeterOnly
  repeat' first
    | with_reducible assumption
    | (extract_lets +onlyGivenNames x
       first
       | (refine kept_cut (P := Kept W x) ?_ ?_; (on_goal 1 => subst x); (on_goal 2 => (intro _; try clear_value x)))
       | (refine kept_cut (P := Kept2 W x) ?_ ?_; (on_goal 1 => subst x); (on_goal 2 => (intro _; try clear_value x)))
       | (try clear_value x))
    | (with_reducible first | apply kept_replied | apply kept2_mk | (apply kept2_snd; assumption))
    | (with_reducible first | (apply kept2_snd; apply kept_replied) | refine kept_of2 (by assumption) ?_)
    | (with_reducible first | (intro _; rfl) | apply kept_ite)
    | split | (clear_value *; split) | dsimp only

theorem kept_actMirrorIdent {a2 : Nat} {a3 : Packet} (h : Kept W s) : Kept2 W (actMirrorIdent s a2 a3) := by
  unfold actMirrorIdent
  repeat' first
    | with_reducible assumption
    | (extract_lets +onlyGivenNames x
       first
       | (refine kept_cut (P := Kept W x) ?_ ?_; (on_goal 1 => subst x); (on_goal 2 => (intro _; try clear_value x)))
       | (refine kept_cut (P := Kept2 W x) ?_ ?_; (on_goal 1 => subst x); (on_goal 2 => (intro _; try clear_value x)))
       | (try clear_value x))
    | (with_reducible first | apply kept_replied | apply kept2_mk | (apply kept2_snd; assumption))
    | (with_reducible first | (apply kept2_snd; apply kept_replied) | refine kept_of2 (by assumption) ?_)
    | (with_reducible first | (intro _; rfl) | apply kept_ite)
    | split | (clear_value *; split) | dsimp only

theorem kept_actMirrorRead {a2 : Nat} {a3 : Packet} (h : Kept W s) : Kept2 W (actMirrorRead s a2 a3) := by
  unfold actMirrorRead
  repeat' first
    | with_reducible assumption
    | (extract_lets +onlyGivenNames x
       first
       | (refine kept_cut (P := Kept W x) ?_ ?_; (on_goal 1 => subst x); (on_goal 2 => (intro _; try clear_value x)))
       | (refine kept_cut (P := Kept2 W x) ?_ ?_; (on_goal 1 => subst x); (on_goal 2 => (intro _; try clear_value x)))
       | (try clear_value x))
    | (with_reducible first | apply kept_replied | apply kept2_mk | (apply kept2_snd; assumption))
    | (with_reducible first | (apply kept2_snd; apply kept_replied) | refine kept_of2 (by assumption) ?_)
    | (with_reducible first | (intro _; rfl) | apply kept_ite)
    | split | (clear_value *; split) | dsimp only

theorem kept_execMeterIdent {a1 : Option (List Nat)} (h : Kept W s) (_ : W.part .bus) (_ : W.part .cmd)
    (_ : W.part .emit) (_ : W.part .mtr) (_ : Logs W) (_ : W.fld CMD_CNT.EXEC) (_ : W.fld CMD_LAST.OPCODE)
    (_ : W.fld CMD_LAST.SEQ) (_ : W.fld CMD_LAST.STATUS) (_ : W.fld CMD_LAST_SRC.CLASS)
    (_ : W.fld CMD_LAST_SRC.INSTANCE) (_ : W.fld CMD_REFUSED.BADOP) (_ : W.fld CMD_REFUSED.BADPARAM)
    (_ : W.fld CMD_REFUSED.NOPERM) (_ : W.fld CMD_REFUSED.VERSION) (_ : W.fld MB_CTL.OWED) (_ : W.fld MB_CTL.RQ)
    (_ : W.fld RING_STAT.OWED) : KeptO W (execMeterIdent a1 s) := by
  unfold execMeterIdent
  repeat' first
    | with_reducible assumption
    | (extract_lets +onlyGivenNames x
       first
       | (refine kept_cut (P := Kept W x) ?_ ?_; (on_goal 1 => subst x); (on_goal 2 => (intro _; try clear_value x)))
       | (refine kept_cut (P := Kept2 W x) ?_ ?_; (on_goal 1 => subst x); (on_goal 2 => (intro _; try clear_value x)))
       | (refine kept_cut (P := Kept3 W x) ?_ ?_; (on_goal 1 => subst x); (on_goal 2 => (intro _; try clear_value x)))
       | (try clear_value x))
    | (with_reducible first | apply kept_quiet | apply kept_meterOpcode | apply kept_actMeterIdent)
    | (with_reducible first | apply kept_actMirrorIdent | apply keptO_next | apply kept2_mk | apply kept3_mk)
    | (with_reducible first | (apply kept2_snd; assumption) | (apply kept3_snd; assumption))
    | (with_reducible first | (apply kept2_snd; apply kept_actMirrorIdent))
    | (with_reducible first | (apply kept3_snd; apply kept_actMeterIdent) | refine kept_of2 (by assumption) ?_)
    | (with_reducible first | refine kept_of3 (by assumption) ?_ | (intro e; exact absurd e (by decide)))
    | (with_reducible first | (intro _; assumption) | (intro _; rfl) | apply kept_ite)
    | (intro _ _ _ _; try beta_reduce) | (intro _ _ _; try beta_reduce) | (intro _ _; try beta_reduce)
    | split | (clear_value *; split) | dsimp only

theorem kept_execMeterRead {a1 : Option (List Nat)} (h : Kept W s) (_ : W.part .bus) (_ : W.part .cmd)
    (_ : W.part .emit) (_ : W.part .mtr) (_ : Logs W) (_ : W.fld CMD_CNT.EXEC) (_ : W.fld CMD_LAST.OPCODE)
    (_ : W.fld CMD_LAST.SEQ) (_ : W.fld CMD_LAST.STATUS) (_ : W.fld CMD_LAST_SRC.CLASS)
    (_ : W.fld CMD_LAST_SRC.INSTANCE) (_ : W.fld CMD_REFUSED.BADOP) (_ : W.fld CMD_REFUSED.BADPARAM)
    (_ : W.fld CMD_REFUSED.NOPERM) (_ : W.fld CMD_REFUSED.VERSION) (_ : W.fld MB_CTL.OWED) (_ : W.fld MB_CTL.RQ)
    (_ : W.fld RING_STAT.OWED) : KeptO W (execMeterRead a1 s) := by
  unfold execMeterRead
  repeat' first
    | with_reducible assumption
    | (extract_lets +onlyGivenNames x
       first
       | (refine kept_cut (P := Kept W x) ?_ ?_; (on_goal 1 => subst x); (on_goal 2 => (intro _; try clear_value x)))
       | (refine kept_cut (P := Kept2 W x) ?_ ?_; (on_goal 1 => subst x); (on_goal 2 => (intro _; try clear_value x)))
       | (refine kept_cut (P := Kept3 W x) ?_ ?_; (on_goal 1 => subst x); (on_goal 2 => (intro _; try clear_value x)))
       | (try clear_value x))
    | (with_reducible first | apply kept_quiet | apply kept_meterOpcode | apply kept_actMeterRead)
    | (with_reducible first | apply kept_actMirrorRead | apply keptO_next | apply kept2_mk | apply kept3_mk)
    | (with_reducible first | (apply kept2_snd; assumption) | (apply kept3_snd; assumption))
    | (with_reducible first | (apply kept2_snd; apply kept_actMirrorRead))
    | (with_reducible first | (apply kept3_snd; apply kept_actMeterRead) | refine kept_of2 (by assumption) ?_)
    | (with_reducible first | refine kept_of3 (by assumption) ?_ | (intro e; exact absurd e (by decide)))
    | (with_reducible first | (intro _; assumption) | (intro _; rfl) | apply kept_ite)
    | (intro _ _ _ _; try beta_reduce) | (intro _ _ _; try beta_reduce) | (intro _ _; try beta_reduce)
    | split | (clear_value *; split) | dsimp only

theorem kept_execMeterAccount {a1 : Option (List Nat)} (h : Kept W s) (_ : W.part .bus) (_ : W.part .cmd)
    (_ : W.part .emit) (_ : W.part .mtr) (_ : Logs W) (_ : W.fld CMD_CNT.EXEC) (_ : W.fld CMD_LAST.OPCODE)
    (_ : W.fld CMD_LAST.SEQ) (_ : W.fld CMD_LAST.STATUS) (_ : W.fld CMD_LAST_SRC.CLASS)
    (_ : W.fld CMD_LAST_SRC.INSTANCE) (_ : W.fld CMD_REFUSED.BADOP) (_ : W.fld CMD_REFUSED.BADPARAM)
    (_ : W.fld CMD_REFUSED.NOPERM) (_ : W.fld CMD_REFUSED.VERSION) (_ : W.fld MB_CTL.OWED) (_ : W.fld MB_CTL.RQ)
    (_ : W.fld RING_STAT.OWED) : KeptO W (execMeterAccount a1 s) := by
  unfold execMeterAccount
  repeat' first
    | with_reducible assumption
    | (extract_lets +onlyGivenNames x
       first
       | (refine kept_cut (P := Kept W x) ?_ ?_; (on_goal 1 => subst x); (on_goal 2 => (intro _; try clear_value x)))
       | (refine kept_cut (P := Kept2 W x) ?_ ?_; (on_goal 1 => subst x); (on_goal 2 => (intro _; try clear_value x)))
       | (refine kept_cut (P := Kept3 W x) ?_ ?_; (on_goal 1 => subst x); (on_goal 2 => (intro _; try clear_value x)))
       | (try clear_value x))
    | (with_reducible first | apply kept_quiet | apply kept_meterOpcode | apply kept_actMeterAccount)
    | (with_reducible first | apply kept_actMeterOnly | apply keptO_next | apply kept2_mk | apply kept3_mk)
    | (with_reducible first | (apply kept2_snd; assumption) | (apply kept3_snd; assumption))
    | (with_reducible first | (apply kept2_snd; apply kept_actMeterOnly))
    | (with_reducible first | (apply kept3_snd; apply kept_actMeterAccount) | refine kept_of2 (by assumption) ?_)
    | (with_reducible first | refine kept_of3 (by assumption) ?_ | (intro e; exact absurd e (by decide)))
    | (with_reducible first | (intro _; assumption) | (intro _; rfl) | apply kept_ite)
    | (intro _ _ _ _; try beta_reduce) | (intro _ _ _; try beta_reduce) | (intro _ _; try beta_reduce)
    | split | (clear_value *; split) | dsimp only

theorem kept_execMeterEvent {a1 : Option (List Nat)} (h : Kept W s) (_ : W.part .bus) (_ : W.part .cmd)
    (_ : W.part .emit) (_ : W.part .mtr) (_ : Logs W) (_ : W.fld CMD_CNT.EXEC) (_ : W.fld CMD_LAST.OPCODE)
    (_ : W.fld CMD_LAST.SEQ) (_ : W.fld CMD_LAST.STATUS) (_ : W.fld CMD_LAST_SRC.CLASS)
    (_ : W.fld CMD_LAST_SRC.INSTANCE) (_ : W.fld CMD_REFUSED.BADOP) (_ : W.fld CMD_REFUSED.BADPARAM)
    (_ : W.fld CMD_REFUSED.NOPERM) (_ : W.fld CMD_REFUSED.VERSION) (_ : W.fld MB_CTL.OWED) (_ : W.fld MB_CTL.RQ)
    (_ : W.fld RING_STAT.OWED) : KeptO W (execMeterEvent a1 s) := by
  unfold execMeterEvent
  repeat' first
    | with_reducible assumption
    | (extract_lets +onlyGivenNames x
       first
       | (refine kept_cut (P := Kept W x) ?_ ?_; (on_goal 1 => subst x); (on_goal 2 => (intro _; try clear_value x)))
       | (refine kept_cut (P := Kept2 W x) ?_ ?_; (on_goal 1 => subst x); (on_goal 2 => (intro _; try clear_value x)))
       | (refine kept_cut (P := Kept3 W x) ?_ ?_; (on_goal 1 => subst x); (on_goal 2 => (intro _; try clear_value x)))
       | (try clear_value x))
    | (with_reducible first | apply kept_quiet | apply kept_meterOpcode | apply kept_actMeterEvent)
    | (with_reducible first | apply kept_actMeterOnly | apply keptO_next | apply kept2_mk | apply kept3_mk)
    | (with_reducible first | (apply kept2_snd; assumption) | (apply kept3_snd; assumption))
    | (with_reducible first | (apply kept2_snd; apply kept_actMeterOnly))
    | (with_reducible first | (apply kept3_snd; apply kept_actMeterEvent) | refine kept_of2 (by assumption) ?_)
    | (with_reducible first | refine kept_of3 (by assumption) ?_ | (intro e; exact absurd e (by decide)))
    | (with_reducible first | (intro _; assumption) | (intro _; rfl) | apply kept_ite)
    | (intro _ _ _ _; try beta_reduce) | (intro _ _ _; try beta_reduce) | (intro _ _; try beta_reduce)
    | split | (clear_value *; split) | dsimp only

theorem kept_execCalWrite {a1 : Option (List Nat)} (h : Kept W s) (_ : W.part .bus) (_ : W.part .cmd)
    (_ : W.part .emit) (_ : W.part .mtr) (_ : Logs W) (_ : W.fld CMD_CNT.EXEC) (_ : W.fld CMD_LAST.OPCODE)
    (_ : W.fld CMD_LAST.SEQ) (_ : W.fld CMD_LAST.STATUS) (_ : W.fld CMD_LAST_SRC.CLASS)
    (_ : W.fld CMD_LAST_SRC.INSTANCE) (_ : W.fld CMD_REFUSED.BADOP) (_ : W.fld CMD_REFUSED.BADPARAM)
    (_ : W.fld CMD_REFUSED.NOPERM) (_ : W.fld CMD_REFUSED.VERSION) (_ : W.fld MB_CTL.OWED) (_ : W.fld MB_CTL.RQ)
    (_ : W.fld RING_STAT.OWED) : KeptO W (execCalWrite a1 s) := by
  unfold execCalWrite
  repeat' first
    | with_reducible assumption
    | (extract_lets +onlyGivenNames x
       first
       | (refine kept_cut (P := Kept W x) ?_ ?_; (on_goal 1 => subst x); (on_goal 2 => (intro _; try clear_value x)))
       | (refine kept_cut (P := Kept2 W x) ?_ ?_; (on_goal 1 => subst x); (on_goal 2 => (intro _; try clear_value x)))
       | (refine kept_cut (P := Kept3 W x) ?_ ?_; (on_goal 1 => subst x); (on_goal 2 => (intro _; try clear_value x)))
       | (try clear_value x))
    | (with_reducible first | apply kept_quiet | apply kept_meterOpcode | apply kept_actCalWrite)
    | (with_reducible first | apply kept_actMeterOnly | apply keptO_next | apply kept2_mk | apply kept3_mk)
    | (with_reducible first | (apply kept2_snd; assumption) | (apply kept3_snd; assumption))
    | (with_reducible first | (apply kept2_snd; apply kept_actMeterOnly) | (apply kept3_snd; apply kept_actCalWrite))
    | (with_reducible first | refine kept_of2 (by assumption) ?_ | refine kept_of3 (by assumption) ?_)
    | (with_reducible first | (intro e; exact absurd e (by decide)) | (intro _; assumption) | (intro _; rfl))
    | (with_reducible first | apply kept_ite)
    | (intro _ _ _ _; try beta_reduce) | (intro _ _ _; try beta_reduce) | (intro _ _; try beta_reduce)
    | split | (clear_value *; split) | dsimp only

theorem kept_execCalCommit {a1 : Option (List Nat)} (h : Kept W s) (_ : W.part .bus) (_ : W.part .cmd)
    (_ : W.part .emit) (_ : W.part .mtr) (_ : Logs W) (_ : W.fld CMD_CNT.EXEC) (_ : W.fld CMD_LAST.OPCODE)
    (_ : W.fld CMD_LAST.SEQ) (_ : W.fld CMD_LAST.STATUS) (_ : W.fld CMD_LAST_SRC.CLASS)
    (_ : W.fld CMD_LAST_SRC.INSTANCE) (_ : W.fld CMD_REFUSED.BADOP) (_ : W.fld CMD_REFUSED.BADPARAM)
    (_ : W.fld CMD_REFUSED.NOPERM) (_ : W.fld CMD_REFUSED.VERSION) (_ : W.fld MB_CTL.OWED) (_ : W.fld MB_CTL.RQ)
    (_ : W.fld RING_STAT.OWED) : KeptO W (execCalCommit a1 s) := by
  unfold execCalCommit
  repeat' first
    | with_reducible assumption
    | (extract_lets +onlyGivenNames x
       first
       | (refine kept_cut (P := Kept W x) ?_ ?_; (on_goal 1 => subst x); (on_goal 2 => (intro _; try clear_value x)))
       | (refine kept_cut (P := Kept2 W x) ?_ ?_; (on_goal 1 => subst x); (on_goal 2 => (intro _; try clear_value x)))
       | (refine kept_cut (P := Kept3 W x) ?_ ?_; (on_goal 1 => subst x); (on_goal 2 => (intro _; try clear_value x)))
       | (try clear_value x))
    | (with_reducible first | apply kept_quiet | apply kept_meterOpcode | apply kept_actCalCommit)
    | (with_reducible first | apply kept_actMeterOnly | apply keptO_next | apply kept2_mk | apply kept3_mk)
    | (with_reducible first | (apply kept2_snd; assumption) | (apply kept3_snd; assumption))
    | (with_reducible first | (apply kept2_snd; apply kept_actMeterOnly) | (apply kept3_snd; apply kept_actCalCommit))
    | (with_reducible first | refine kept_of2 (by assumption) ?_ | refine kept_of3 (by assumption) ?_)
    | (with_reducible first | (intro e; exact absurd e (by decide)) | (intro _; assumption) | (intro _; rfl))
    | (with_reducible first | apply kept_ite)
    | (intro _ _ _ _; try beta_reduce) | (intro _ _ _; try beta_reduce) | (intro _ _; try beta_reduce)
    | split | (clear_value *; split) | dsimp only

theorem kept_execSetSerial {a1 : Option (List Nat)} (h : Kept W s) (_ : W.part .bus) (_ : W.part .cmd)
    (_ : W.part .emit) (_ : W.part .mtr) (_ : Logs W) (_ : W.fld CMD_CNT.EXEC) (_ : W.fld CMD_LAST.OPCODE)
    (_ : W.fld CMD_LAST.SEQ) (_ : W.fld CMD_LAST.STATUS) (_ : W.fld CMD_LAST_SRC.CLASS)
    (_ : W.fld CMD_LAST_SRC.INSTANCE) (_ : W.fld CMD_REFUSED.BADOP) (_ : W.fld CMD_REFUSED.BADPARAM)
    (_ : W.fld CMD_REFUSED.NOPERM) (_ : W.fld CMD_REFUSED.VERSION) (_ : W.fld MB_CTL.OWED) (_ : W.fld MB_CTL.RQ)
    (_ : W.fld RING_STAT.OWED) : KeptO W (execSetSerial a1 s) := by
  unfold execSetSerial
  repeat' first
    | with_reducible assumption
    | (extract_lets +onlyGivenNames x
       first
       | (refine kept_cut (P := Kept W x) ?_ ?_; (on_goal 1 => subst x); (on_goal 2 => (intro _; try clear_value x)))
       | (refine kept_cut (P := Kept2 W x) ?_ ?_; (on_goal 1 => subst x); (on_goal 2 => (intro _; try clear_value x)))
       | (refine kept_cut (P := Kept3 W x) ?_ ?_; (on_goal 1 => subst x); (on_goal 2 => (intro _; try clear_value x)))
       | (try clear_value x))
    | (with_reducible first | apply kept_quiet | apply kept_meterOpcode | apply kept_actSetSerial)
    | (with_reducible first | apply kept_actMeterOnly | apply keptO_next | apply kept2_mk | apply kept3_mk)
    | (with_reducible first | (apply kept2_snd; assumption) | (apply kept3_snd; assumption))
    | (with_reducible first | (apply kept2_snd; apply kept_actMeterOnly) | (apply kept3_snd; apply kept_actSetSerial))
    | (with_reducible first | refine kept_of2 (by assumption) ?_ | refine kept_of3 (by assumption) ?_)
    | (with_reducible first | (intro e; exact absurd e (by decide)) | (intro _; assumption) | (intro _; rfl))
    | (with_reducible first | apply kept_ite)
    | (intro _ _ _ _; try beta_reduce) | (intro _ _ _; try beta_reduce) | (intro _ _; try beta_reduce)
    | split | (clear_value *; split) | dsimp only

theorem kept_execSetTol {a1 : Option (List Nat)} (h : Kept W s) (_ : W.part .bus) (_ : W.part .cmd) (_ : W.part .emit)
    (_ : W.part .mtr) (_ : Logs W) (_ : W.fld CMD_CNT.EXEC) (_ : W.fld CMD_LAST.OPCODE) (_ : W.fld CMD_LAST.SEQ)
    (_ : W.fld CMD_LAST.STATUS) (_ : W.fld CMD_LAST_SRC.CLASS) (_ : W.fld CMD_LAST_SRC.INSTANCE)
    (_ : W.fld CMD_REFUSED.BADOP) (_ : W.fld CMD_REFUSED.BADPARAM) (_ : W.fld CMD_REFUSED.NOPERM)
    (_ : W.fld CMD_REFUSED.VERSION) (_ : W.fld MB_CTL.OWED) (_ : W.fld MB_CTL.RQ) (_ : W.fld RING_STAT.OWED) :
    KeptO W (execSetTol a1 s) := by
  unfold execSetTol
  repeat' first
    | with_reducible assumption
    | (extract_lets +onlyGivenNames x
       first
       | (refine kept_cut (P := Kept W x) ?_ ?_; (on_goal 1 => subst x); (on_goal 2 => (intro _; try clear_value x)))
       | (refine kept_cut (P := Kept2 W x) ?_ ?_; (on_goal 1 => subst x); (on_goal 2 => (intro _; try clear_value x)))
       | (refine kept_cut (P := Kept3 W x) ?_ ?_; (on_goal 1 => subst x); (on_goal 2 => (intro _; try clear_value x)))
       | (try clear_value x))
    | (with_reducible first | apply kept_quiet | apply kept_meterOpcode | apply kept_actSetTol)
    | (with_reducible first | apply kept_actMeterOnly | apply keptO_next | apply kept2_mk | apply kept3_mk)
    | (with_reducible first | (apply kept2_snd; assumption) | (apply kept3_snd; assumption))
    | (with_reducible first | (apply kept2_snd; apply kept_actMeterOnly) | (apply kept3_snd; apply kept_actSetTol))
    | (with_reducible first | refine kept_of2 (by assumption) ?_ | refine kept_of3 (by assumption) ?_)
    | (with_reducible first | (intro e; exact absurd e (by decide)) | (intro _; assumption) | (intro _; rfl))
    | (with_reducible first | apply kept_ite)
    | (intro _ _ _ _; try beta_reduce) | (intro _ _ _; try beta_reduce) | (intro _ _; try beta_reduce)
    | split | (clear_value *; split) | dsimp only

end Sys2Proof.Machine
end

