-- ==== Sys2Proof/Laws/KeptFirmware.lean ====
section
/-! SUPPORT. What the operations of `Firmware.lean` keep (see `Kept.lean`). -/

set_option linter.unusedVariables false
set_option linter.unusedTactic false
set_option linter.unreachableTactic false
set_option linter.tactic.unusedName false

namespace Sys2Proof.Machine

variable {W : Bounds} {s : State}

theorem kept_fillSlot {a2 : Nat} {a3 : List Nat} (h : Kept W s) (_ : W.part .fw) (_ : W.part .log)
    (_ : W.fld FW_SLOT_A.GEN) (_ : W.fld FW_SLOT_A.STATE) (_ : W.fld FW_SLOT_B.GEN) (_ : W.fld FW_SLOT_B.STATE) :
    Kept W (State.fillSlot s a2 a3) := by
  unfold State.fillSlot
  repeat' first
    | with_reducible assumption
    | (extract_lets +onlyGivenNames x
       first
       | (refine kept_cut (P := Kept W x) ?_ ?_; (on_goal 1 => subst x); (on_goal 2 => (intro _; try clear_value x)))
       | (try clear_value x))
    | (with_reducible first | apply kept_setSlot | apply kept_showSlot | (intro _; rfl) | apply kept_ite)
    | (intro _ _ _ _; try beta_reduce) | (intro _ _ _; try beta_reduce) | (intro _ _; try beta_reduce)
    | split | (clear_value *; split) | dsimp only

theorem kept_actFwLoad {a2 : Nat} {a3 : Packet} (h : Kept W s) (_ : W.part .cmd) (_ : W.fld FW_SLOT_A.GEN)
    (_ : W.fld FW_SLOT_A.STATE) (_ : W.fld FW_SLOT_B.GEN) (_ : W.fld FW_SLOT_B.STATE) :
    Kept2 W (actFwLoad s a2 a3) := by
  unfold actFwLoad
  repeat' first
    | with_reducible assumption
    | (extract_lets +onlyGivenNames x
       first
       | (refine kept_cut (P := Kept W x) ?_ ?_; (on_goal 1 => subst x); (on_goal 2 => (intro _; try clear_value x)))
       | (refine kept_cut (P := Kept2 W x) ?_ ?_; (on_goal 1 => subst x); (on_goal 2 => (intro _; try clear_value x)))
       | (try clear_value x))
    | (with_reducible first | apply kept_replied | apply kept_putOut | apply kept_showSlot | apply kept2_mk)
    | (with_reducible first | (apply kept2_snd; assumption) | (apply kept2_snd; apply kept_replied))
    | (with_reducible first | refine kept_of2 (by assumption) ?_ | (intro _; rfl) | apply kept_ite)
    | split | (clear_value *; split) | dsimp only

theorem kept_execFwLoad (h : Kept W s) (_ : W.part .bus) (_ : W.part .cmd) (_ : W.part .emit) (_ : Logs W)
    (_ : W.fld CMD_CNT.EXEC) (_ : W.fld CMD_LAST.OPCODE) (_ : W.fld CMD_LAST.SEQ) (_ : W.fld CMD_LAST.STATUS)
    (_ : W.fld CMD_LAST_SRC.CLASS) (_ : W.fld CMD_LAST_SRC.INSTANCE) (_ : W.fld CMD_REFUSED.BADOP)
    (_ : W.fld CMD_REFUSED.BADPARAM) (_ : W.fld CMD_REFUSED.NOPERM) (_ : W.fld CMD_REFUSED.VERSION)
    (_ : W.fld FW_SLOT_A.GEN) (_ : W.fld FW_SLOT_A.STATE) (_ : W.fld FW_SLOT_B.GEN) (_ : W.fld FW_SLOT_B.STATE)
    (_ : W.fld MB_CTL.OWED) (_ : W.fld MB_CTL.RQ) (_ : W.fld RING_STAT.OWED) : KeptO W (execFwLoad s) := by
  unfold execFwLoad
  repeat' first
    | with_reducible assumption
    | (extract_lets +onlyGivenNames x
       first
       | (refine kept_cut (P := Kept W x) ?_ ?_; (on_goal 1 => subst x); (on_goal 2 => (intro _; try clear_value x)))
       | (refine kept_cut (P := Kept2 W x) ?_ ?_; (on_goal 1 => subst x); (on_goal 2 => (intro _; try clear_value x)))
       | (try clear_value x))
    | (with_reducible first | apply kept_quiet | apply kept_runOp | apply kept_actFwLoad | apply keptO_next)
    | (with_reducible first | apply kept2_mk | (apply kept2_snd; assumption))
    | (with_reducible first | (apply kept2_snd; apply kept_actFwLoad) | refine kept_of2 (by assumption) ?_)
    | (with_reducible first | (intro e; exact absurd e (by decide)) | (intro _; assumption) | (intro _; rfl))
    | (with_reducible first | apply kept_ite)
    | (intro _ _ _ _; try beta_reduce) | (intro _ _ _; try beta_reduce) | (intro _ _; try beta_reduce)
    | split | (clear_value *; split) | dsimp only

theorem kept_endOut {a2 : Outstanding} {a3 : Nat} {a4 : optParam (List Nat) []} (h : Kept W s) (_ : W.part .bus)
    (_ : W.part .cmd) (_ : Logs W) (_ : W.fld CMD_LAST.OPCODE) (_ : W.fld CMD_LAST.SEQ) (_ : W.fld CMD_LAST.STATUS)
    (_ : W.fld CMD_LAST_SRC.CLASS) (_ : W.fld CMD_LAST_SRC.INSTANCE) (_ : W.fld CMD_REFUSED.BADOP)
    (_ : W.fld CMD_REFUSED.BADPARAM) (_ : W.fld CMD_REFUSED.NOPERM) (_ : W.fld CMD_REFUSED.VERSION)
    (_ : W.fld MB_CTL.OWED) (_ : W.fld MB_CTL.RQ) (_ : W.fld RING_STAT.OWED) : Kept W (State.endOut s a2 a3 a4) := by
  unfold State.endOut
  repeat' first
    | with_reducible assumption
    | (extract_lets +onlyGivenNames x
       first
       | (refine kept_cut (P := Kept W x) ?_ ?_; (on_goal 1 => subst x); (on_goal 2 => (intro _; try clear_value x)))
       | (try clear_value x))
    | (with_reducible first | apply kept_answer | apply kept_setCmd | (intro _; rfl) | apply kept_ite)
    | split | (clear_value *; split) | dsimp only

theorem kept_enterFirmware {a2 : Nat} (h : Kept W s) (_ : W.part .fw) (_ : W.part .log) (_ : W.fld FW_STAT.ACTIVE)
    (_ : W.fld FW_STAT.GEN) (_ : W.fld FW_STAT.NO_FW) : Kept W (State.enterFirmware s a2) := by
  unfold State.enterFirmware
  repeat' first
    | with_reducible assumption
    | (extract_lets +onlyGivenNames x
       first
       | (refine kept_cut (P := Kept W x) ?_ ?_; (on_goal 1 => subst x); (on_goal 2 => (intro _; try clear_value x)))
       | (try clear_value x))
    | (with_reducible first | apply kept_wr | apply kept_setFw | (intro _; rfl) | apply kept_ite)
    | split | (clear_value *; split) | dsimp only

theorem kept_execFwLoadDone {a1 : Option (List Nat)} (h : Kept W s) (_ : W.part .bus) (_ : W.part .cmd)
    (_ : W.part .emit) (_ : W.part .fw) (_ : W.part .log) (_ : Logs W) (_ : W.fld (Evt.st .FW_LOAD_REJ))
    (_ : W.fld CMD_LAST.OPCODE) (_ : W.fld CMD_LAST.SEQ) (_ : W.fld CMD_LAST.STATUS) (_ : W.fld CMD_LAST_SRC.CLASS)
    (_ : W.fld CMD_LAST_SRC.INSTANCE) (_ : W.fld CMD_REFUSED.BADOP) (_ : W.fld CMD_REFUSED.BADPARAM)
    (_ : W.fld CMD_REFUSED.NOPERM) (_ : W.fld CMD_REFUSED.VERSION) (_ : W.fld FW_SLOT_A.GEN)
    (_ : W.fld FW_SLOT_A.STATE) (_ : W.fld FW_SLOT_B.GEN) (_ : W.fld FW_SLOT_B.STATE) (_ : W.fld FW_STAT.ACTIVE)
    (_ : W.fld FW_STAT.GEN) (_ : W.fld FW_STAT.NO_FW) (_ : W.fld MB_CTL.OWED) (_ : W.fld MB_CTL.RQ)
    (_ : W.fld RING_STAT.OWED) : KeptO W (execFwLoadDone a1 s) := by
  unfold execFwLoadDone
  repeat' first
    | with_reducible assumption
    | (extract_lets +onlyGivenNames x
       first
       | (refine kept_cut (P := Kept W x) ?_ ?_; (on_goal 1 => subst x); (on_goal 2 => (intro _; try clear_value x)))
       | (try clear_value x))
    | (with_reducible first | apply kept_quiet | apply kept_fillSlot | apply kept_enterFirmware | apply kept_endOut)
    | (with_reducible first | apply kept_answerUndefined | apply kept_raise | apply kept_showSlot | apply keptO_next)
    | (with_reducible first | (intro _; rfl) | apply kept_ite)
    | split | (clear_value *; split) | dsimp only

theorem kept_actStageWrite {a2 : Nat} {a3 : Packet} (h : Kept W s) (_ : W.part .fw) (_ : W.part .log)
    (_ : W.fld FW_SLOT_A.GEN) (_ : W.fld FW_SLOT_A.STATE) (_ : W.fld FW_SLOT_B.GEN) (_ : W.fld FW_SLOT_B.STATE) :
    Kept2 W (actStageWrite s a2 a3) := by
  unfold actStageWrite
  repeat' first
    | with_reducible assumption
    | (extract_lets +onlyGivenNames x
       first
       | (refine kept_cut (P := Kept W x) ?_ ?_; (on_goal 1 => subst x); (on_goal 2 => (intro _; try clear_value x)))
       | (refine kept_cut (P := Kept2 W x) ?_ ?_; (on_goal 1 => subst x); (on_goal 2 => (intro _; try clear_value x)))
       | (try clear_value x))
    | (with_reducible first | apply kept_replied | apply kept_showSlot | apply kept_setSlot | apply kept2_mk)
    | (with_reducible first | (apply kept2_snd; assumption) | (apply kept2_snd; apply kept_replied))
    | (with_reducible first | refine kept_of2 (by assumption) ?_ | (intro _; rfl) | apply kept_ite)
    | split | (clear_value *; split) | dsimp only

theorem kept_execStageWrite (h : Kept W s) (_ : W.part .bus) (_ : W.part .cmd) (_ : W.part .emit) (_ : W.part .fw)
    (_ : W.part .log) (_ : Logs W) (_ : W.fld CMD_CNT.EXEC) (_ : W.fld CMD_LAST.OPCODE) (_ : W.fld CMD_LAST.SEQ)
    (_ : W.fld CMD_LAST.STATUS) (_ : W.fld CMD_LAST_SRC.CLASS) (_ : W.fld CMD_LAST_SRC.INSTANCE)
    (_ : W.fld CMD_REFUSED.BADOP) (_ : W.fld CMD_REFUSED.BADPARAM) (_ : W.fld CMD_REFUSED.NOPERM)
    (_ : W.fld CMD_REFUSED.VERSION) (_ : W.fld FW_SLOT_A.GEN) (_ : W.fld FW_SLOT_A.STATE) (_ : W.fld FW_SLOT_B.GEN)
    (_ : W.fld FW_SLOT_B.STATE) (_ : W.fld MB_CTL.OWED) (_ : W.fld MB_CTL.RQ) (_ : W.fld RING_STAT.OWED) :
    KeptO W (execStageWrite s) := by
  unfold execStageWrite
  repeat' first
    | with_reducible assumption
    | (extract_lets +onlyGivenNames x
       first
       | (refine kept_cut (P := Kept W x) ?_ ?_; (on_goal 1 => subst x); (on_goal 2 => (intro _; try clear_value x)))
       | (refine kept_cut (P := Kept2 W x) ?_ ?_; (on_goal 1 => subst x); (on_goal 2 => (intro _; try clear_value x)))
       | (try clear_value x))
    | (with_reducible first | apply kept_quiet | apply kept_runOp | apply kept_actStageWrite | apply keptO_next)
    | (with_reducible first | apply kept2_mk | (apply kept2_snd; assumption))
    | (with_reducible first | (apply kept2_snd; apply kept_actStageWrite) | refine kept_of2 (by assumption) ?_)
    | (with_reducible first | (intro e; exact absurd e (by decide)) | (intro _; assumption) | (intro _; rfl))
    | (with_reducible first | apply kept_ite)
    | (intro _ _ _ _; try beta_reduce) | (intro _ _ _; try beta_reduce) | (intro _ _; try beta_reduce)
    | split | (clear_value *; split) | dsimp only

theorem kept_actFwSwitch {a2 : Nat} {a3 : Packet} (h : Kept W s) (_ : W.part .cad) (_ : W.part .tasks)
    (_ : W.fld FW_STAT.SW_PEND) : Kept2 W (actFwSwitch s a2 a3) := by
  unfold actFwSwitch
  repeat' first
    | with_reducible assumption
    | (extract_lets +onlyGivenNames x
       first
       | (refine kept_cut (P := Kept W x) ?_ ?_; (on_goal 1 => subst x); (on_goal 2 => (intro _; try clear_value x)))
       | (refine kept_cut (P := Kept2 W x) ?_ ?_; (on_goal 1 => subst x); (on_goal 2 => (intro _; try clear_value x)))
       | (try clear_value x))
    | (with_reducible first | apply kept_replied | apply kept_schedule | apply kept_wr | apply kept2_mk)
    | (with_reducible first | (apply kept2_snd; assumption) | (apply kept2_snd; apply kept_replied))
    | (with_reducible first | (apply kept2_snd; apply kept_schedule) | refine kept_of2 (by assumption) ?_)
    | (with_reducible first | (intro _; rfl) | apply kept_ite)
    | split | (clear_value *; split) | dsimp only

theorem kept_execFwSwitch (h : Kept W s) (_ : W.part .bus) (_ : W.part .cad) (_ : W.part .cmd) (_ : W.part .emit)
    (_ : W.part .tasks) (_ : Logs W) (_ : W.fld CMD_CNT.EXEC) (_ : W.fld CMD_LAST.OPCODE) (_ : W.fld CMD_LAST.SEQ)
    (_ : W.fld CMD_LAST.STATUS) (_ : W.fld CMD_LAST_SRC.CLASS) (_ : W.fld CMD_LAST_SRC.INSTANCE)
    (_ : W.fld CMD_REFUSED.BADOP) (_ : W.fld CMD_REFUSED.BADPARAM) (_ : W.fld CMD_REFUSED.NOPERM)
    (_ : W.fld CMD_REFUSED.VERSION) (_ : W.fld FW_STAT.SW_PEND) (_ : W.fld MB_CTL.OWED) (_ : W.fld MB_CTL.RQ)
    (_ : W.fld RING_STAT.OWED) : KeptO W (execFwSwitch s) := by
  unfold execFwSwitch
  repeat' first
    | with_reducible assumption
    | (extract_lets +onlyGivenNames x
       first
       | (refine kept_cut (P := Kept W x) ?_ ?_; (on_goal 1 => subst x); (on_goal 2 => (intro _; try clear_value x)))
       | (refine kept_cut (P := Kept2 W x) ?_ ?_; (on_goal 1 => subst x); (on_goal 2 => (intro _; try clear_value x)))
       | (try clear_value x))
    | (with_reducible first | apply kept_quiet | apply kept_runOp | apply kept_actFwSwitch | apply keptO_next)
    | (with_reducible first | apply kept2_mk | (apply kept2_snd; assumption))
    | (with_reducible first | (apply kept2_snd; apply kept_actFwSwitch) | refine kept_of2 (by assumption) ?_)
    | (with_reducible first | (intro e; exact absurd e (by decide)) | (intro _; assumption) | (intro _; rfl))
    | (with_reducible first | apply kept_ite)
    | (intro _ _ _ _; try beta_reduce) | (intro _ _ _; try beta_reduce) | (intro _ _; try beta_reduce)
    | split | (clear_value *; split) | dsimp only

theorem kept_execFwSwitchover (h : Kept W s) (_ : W.part .cad) (_ : W.part .emit) (_ : W.part .eng) (_ : W.part .fw)
    (_ : W.part .log) (_ : W.part .tasks) (_ : Logs W) (_ : W.fld (Evt.st .CAD_LATE)) (_ : W.fld CAD_DEFER_CNT.LATE)
    (_ : W.fld FW_STAT.ACTIVE) (_ : W.fld FW_STAT.SW_PEND) (_ : W.fld FW_STAT.TENTATIVE) :
    KeptO W (execFwSwitchover s) := by
  unfold execFwSwitchover
  repeat' first
    | with_reducible assumption
    | (extract_lets +onlyGivenNames x
       first
       | (refine kept_cut (P := Kept W x) ?_ ?_; (on_goal 1 => subst x); (on_goal 2 => (intro _; try clear_value x)))
       | (try clear_value x))
    | (with_reducible first | apply kept_quiet | apply kept_takeEvent | apply kept_wr | apply kept_setEng)
    | (with_reducible first | apply kept_setFw | apply keptO_next | refine kept_ofSome (by assumption) ?_)
    | (with_reducible first | (intro _; rfl) | apply kept_ite)
    | split | (clear_value *; split) | dsimp only

theorem kept_execSwFail (h : Kept W s) (_ : W.part .bg) (_ : W.part .cad) (_ : W.part .car) (_ : W.part .cmd)
    (_ : W.part .emit) (_ : W.part .eng) (_ : W.part .free) (_ : W.part .fw) (_ : W.part .log) (_ : W.part .pel)
    (_ : W.part .rc) (_ : W.part .rim) (_ : W.part .tasks) (_ : Logs W) (_ : W.fld (Evt.st .CAR_ROLE_CHANGE))
    (_ : W.fld (Evt.st .FW_HSNAP)) (_ : W.fld (Evt.st .FW_SW_FAIL)) (_ : W.fld (Evt.st .RC_TRAY_REQ))
    (_ : W.fld (Evt.st .RIM_CANCELLED)) (_ : W.fld BG_HINT_STAT.ACTIVE) (_ : W.fld BG_HINT_STAT.HELD)
    (_ : W.fld BG_SECT.HINT) (_ : W.fld CAR_LEASE.LEFT) (_ : W.fld CAR_STAT.LEASE_VALID) (_ : W.fld CAR_STAT.ROLE)
    (_ : W.fld DOM_AGE.AGE) (_ : W.fld DOM_STAT.PENDING) (_ : W.fld DOM_STAT.PROMOTED) (_ : W.fld ENG_CAND.CAP)
    (_ : W.fld ENG_CAND.CUR) (_ : W.fld ENG_CAND.THM) (_ : W.fld ENG_LCAND.LINK8) (_ : W.fld ENG_LCAND.LINK9)
    (_ : W.fld ENG_LCAND.STACK) (_ : W.fld ENG_SEL.LNK) (_ : W.fld ENG_SEL.SEC) (_ : W.fld ENG_SEL.STK)
    (_ : W.fld ENG_STAT.INACT_VALID) (_ : W.fld ENG_STAT.STATE) (_ : W.fld FW_SLOT_A.GEN) (_ : W.fld FW_SLOT_A.STATE)
    (_ : W.fld FW_SLOT_B.GEN) (_ : W.fld FW_SLOT_B.STATE) (_ : W.fld FW_STAT.ACTIVE) (_ : W.fld FW_STAT.GEN)
    (_ : W.fld FW_STAT.NO_FW) (_ : W.fld FW_STAT.TENTATIVE) (_ : W.fld GSTAT.HOLDOVER) (_ : W.fld GSTAT.READY)
    (_ : W.fld HS_CTRL.FROZEN) (_ : W.fld HS_CTRL.MISSED) (_ : W.fld HS_W.WORD) (_ : W.fld PEL_OFS.OFS)
    (_ : W.fld PEL_STAT.OFS_VALID) (_ : W.fld PEL_STAT.ROOT) (_ : W.fld RC_CNT.POWER) (_ : W.fld RC_CNT.WARM)
    (_ : W.fld RC_ERRCODE.CODE) (_ : W.fld RC_ERRLAST.CODE) (_ : W.fld RC_ERR_TICK.TICK) (_ : W.fld RC_STAT.HOLDOVER)
    (_ : W.fld RC_STAT.LADDER) (_ : W.fld RC_STAT.PWR_HELD) (_ : W.fld RC_STAT.STEP_PART) (_ : W.fld RC_STAT.TRAY_REQ)
    (_ : W.fld RC_STAT.WR_COUNT) (_ : W.fld SWD_STAT.PEND) (_ : W.fld SWD_STAT.WAIT_SLOT) (_ : W.locks {}) :
    KeptO W (execSwFail s) := by
  unfold execSwFail
  repeat' first
    | with_reducible assumption
    | (extract_lets +onlyGivenNames x
       first
       | (refine kept_cut (P := Kept W x) ?_ ?_; (on_goal 1 => subst x); (on_goal 2 => (intro _; try clear_value x)))
       | (try clear_value x))
    | (with_reducible first | apply kept_quiet | apply kept_raise | apply kept_showSlot | apply kept_wr)
    | (with_reducible first | apply kept_beginRestart | apply keptO_next | (intro _; rfl) | apply kept_ite)
    | split | (clear_value *; split) | dsimp only

theorem kept_firstRecords (h : Kept W s) (_ : W.part .cad) (_ : W.part .rc) (_ : W.part .tasks) (_ : Logs W) :
    Kept W (State.firstRecords s) := by
  unfold State.firstRecords
  repeat' first
    | with_reducible assumption
    | (extract_lets +onlyGivenNames x
       first
       | (refine kept_cut (P := Kept W x) ?_ ?_; (on_goal 1 => subst x); (on_goal 2 => (intro _; try clear_value x)))
       | (try clear_value x))
    | (with_reducible first | apply kept_errRecord | apply kept_setRc | apply kept_setCad | apply kept_logRec)
    | (with_reducible first | apply kept_foldl | (intro _; rfl) | apply kept_ite)
    | (intro _ _ _ _; try beta_reduce) | (intro _ _ _; try beta_reduce) | (intro _ _; try beta_reduce)
    | split | (clear_value *; split) | dsimp only

theorem kept_publishOutputs (h : Kept W s) (_ : W.part .eng) : Kept W (State.publishOutputs s) := by
  unfold State.publishOutputs
  repeat' first
    | with_reducible assumption
    | (extract_lets +onlyGivenNames x
       first
       | (refine kept_cut (P := Kept W x) ?_ ?_; (on_goal 1 => subst x); (on_goal 2 => (intro _; try clear_value x)))
       | (try clear_value x))
    | (with_reducible first | apply kept_setEng | (intro _; rfl) | apply kept_ite)
    | split | (clear_value *; split) | dsimp only

theorem kept_keepHeld (h : Kept W s) (_ : W.part .eng) : Kept W (State.keepHeld s) := by
  unfold State.keepHeld
  repeat' first
    | with_reducible assumption
    | (extract_lets +onlyGivenNames x
       first
       | (refine kept_cut (P := Kept W x) ?_ ?_; (on_goal 1 => subst x); (on_goal 2 => (intro _; try clear_value x)))
       | (try clear_value x))
    | (with_reducible first | apply kept_setEng | (intro _; rfl) | apply kept_ite)
    | (intro _ _ _ _; try beta_reduce) | (intro _ _ _; try beta_reduce) | (intro _ _; try beta_reduce)
    | split | (clear_value *; split) | dsimp only

theorem kept_execFirstPublication (h : Kept W s) (_ : W.part .cad) (_ : W.part .em) (_ : W.part .emit)
    (_ : W.part .eng) (_ : W.part .fw) (_ : W.part .gl) (_ : W.part .log) (_ : W.part .rc) (_ : W.part .tasks)
    (_ : Logs W) (_ : W.fld (Evt.st .FW_SW_DONE)) (_ : W.fld (Evt.st .RC_WARM_RESTART)) (_ : W.fld ENG_STAT.LD_RUN)
    (_ : W.fld ENG_STAT.STATE) (_ : W.fld FW_STAT.GEN) (_ : W.fld FW_STAT.TENTATIVE) (_ : W.fld GL_CTRL.SSC_APPLY)
    (_ : W.fld GL_STAT.OUTSTANDING) (_ : W.fld GL_STAT.SEQ) (_ : W.fld GL_STAT.VREQ) (_ : W.fld GSTAT.HOLDOVER)
    (_ : W.fld GSTAT.READY) (_ : W.fld RC_STAT.HOLDOVER) : KeptO W (execFirstPublication s) := by
  unfold execFirstPublication
  repeat' first
    | with_reducible assumption
    | (extract_lets +onlyGivenNames x
       first
       | (refine kept_cut (P := Kept W x) ?_ ?_; (on_goal 1 => subst x); (on_goal 2 => (intro _; try clear_value x)))
       | (try clear_value x))
    | (with_reducible first | apply kept_quiet | apply kept_startAllRamps | apply kept_keepHeld | apply kept_wr)
    | (with_reducible first | apply kept_firstRecords | apply kept_resumeLinks | apply kept_discardWindows)
    | (with_reducible first | apply kept_publishOutputs | apply kept_setFw | apply kept_raise | apply kept_drive)
    | (with_reducible first | apply keptO_next | (intro _; rfl) | apply kept_ite)
    | (intro _ _ _ _; try beta_reduce) | (intro _ _ _; try beta_reduce) | (intro _ _; try beta_reduce)
    | split | (clear_value *; split) | dsimp only

theorem kept_actImgLoad {a2 : Nat} {a3 : Packet} (h : Kept W s) (_ : W.part .cmd) : Kept2 W (actImgLoad s a2 a3) := by
  unfold actImgLoad
  repeat' first
    | with_reducible assumption
    | (extract_lets +onlyGivenNames x
       first
       | (refine kept_cut (P := Kept W x) ?_ ?_; (on_goal 1 => subst x); (on_goal 2 => (intro _; try clear_value x)))
       | (refine kept_cut (P := Kept2 W x) ?_ ?_; (on_goal 1 => subst x); (on_goal 2 => (intro _; try clear_value x)))
       | (try clear_value x))
    | (with_reducible first | apply kept_replied | apply kept_putOut | apply kept2_mk | (apply kept2_snd; assumption))
    | (with_reducible first | (apply kept2_snd; apply kept_replied) | refine kept_of2 (by assumption) ?_)
    | (with_reducible first | (intro _; rfl) | apply kept_ite)
    | split | (clear_value *; split) | dsimp only

theorem kept_execImgLoad (h : Kept W s) (_ : W.part .bus) (_ : W.part .cmd) (_ : W.part .emit) (_ : Logs W)
    (_ : W.fld CMD_CNT.EXEC) (_ : W.fld CMD_LAST.OPCODE) (_ : W.fld CMD_LAST.SEQ) (_ : W.fld CMD_LAST.STATUS)
    (_ : W.fld CMD_LAST_SRC.CLASS) (_ : W.fld CMD_LAST_SRC.INSTANCE) (_ : W.fld CMD_REFUSED.BADOP)
    (_ : W.fld CMD_REFUSED.BADPARAM) (_ : W.fld CMD_REFUSED.NOPERM) (_ : W.fld CMD_REFUSED.VERSION)
    (_ : W.fld MB_CTL.OWED) (_ : W.fld MB_CTL.RQ) (_ : W.fld RING_STAT.OWED) : KeptO W (execImgLoad s) := by
  unfold execImgLoad
  repeat' first
    | with_reducible assumption
    | (extract_lets +onlyGivenNames x
       first
       | (refine kept_cut (P := Kept W x) ?_ ?_; (on_goal 1 => subst x); (on_goal 2 => (intro _; try clear_value x)))
       | (refine kept_cut (P := Kept2 W x) ?_ ?_; (on_goal 1 => subst x); (on_goal 2 => (intro _; try clear_value x)))
       | (try clear_value x))
    | (with_reducible first | apply kept_quiet | apply kept_runOp | apply kept_actImgLoad | apply keptO_next)
    | (with_reducible first | apply kept2_mk | (apply kept2_snd; assumption))
    | (with_reducible first | (apply kept2_snd; apply kept_actImgLoad) | refine kept_of2 (by assumption) ?_)
    | (with_reducible first | (intro e; exact absurd e (by decide)) | (intro _; assumption) | (intro _; rfl))
    | (with_reducible first | apply kept_ite)
    | (intro _ _ _ _; try beta_reduce) | (intro _ _ _; try beta_reduce) | (intro _ _; try beta_reduce)
    | split | (clear_value *; split) | dsimp only

theorem kept_imageRegs {a2 : List (Nat × Nat)} (h : Kept W s) (ha : ∀ F, W.fld F) :
    Kept W (State.imageRegs s a2) := by
  unfold State.imageRegs
  repeat' first
    | with_reducible assumption
    | (extract_lets +onlyGivenNames x
       first
       | (refine kept_cut (P := Kept W x) ?_ ?_; (on_goal 1 => subst x); (on_goal 2 => (intro _; try clear_value x)))
       | (try clear_value x))
    | (with_reducible first | apply kept_writeField | apply kept_crossClamp | apply kept_foldl | (intro _; rfl))
    | (with_reducible first | apply ha | apply kept_ite)
    | (intro _ _ _ _; try beta_reduce) | (intro _ _ _; try beta_reduce) | (intro _ _; try beta_reduce)
    | split | (clear_value *; split) | dsimp only

theorem kept_takeImage {a2 : Bool} {a3 : ImageBody} (h : Kept W s) (_ : W.part .bg) (_ : W.part .cad) (_ : W.part .em)
    (_ : W.part .eng) (_ : W.part .mg) (_ : W.part .tasks) (_ : W.part .th) (_ : Logs W) (ha : ∀ F, W.fld F) :
    Kept2 W (State.takeImage s a2 a3) := by
  unfold State.takeImage
  repeat' first
    | with_reducible assumption
    | (extract_lets +onlyGivenNames x
       first
       | (refine kept_cut (P := Kept W x) ?_ ?_; (on_goal 1 => subst x); (on_goal 2 => (intro _; try clear_value x)))
       | (refine kept_cut (P := Kept2 W x) ?_ ?_; (on_goal 1 => subst x); (on_goal 2 => (intro _; try clear_value x)))
       | (try clear_value x))
    | (with_reducible first | apply kept_loadEngine | apply kept_loadSet | apply kept_schedule | apply kept_setEm)
    | (with_reducible first | apply kept_imageRegs | apply kept_setTh | apply kept_setMg | apply kept_setBg)
    | (with_reducible first | apply kept_foldl | apply kept2_foldl | apply kept2_mk | (apply kept2_snd; assumption))
    | (with_reducible first | (apply kept2_snd; apply kept_loadEngine) | (apply kept2_snd; apply kept_schedule))
    | (with_reducible first | refine kept_of2 (by assumption) ?_ | (intro _; rfl) | apply ha | apply kept_ite)
    | (intro _ _ _ _; try beta_reduce) | (intro _ _ _; try beta_reduce) | (intro _ _; try beta_reduce)
    | split | (clear_value *; split) | dsimp only

theorem kept_execImgLoadDone {a1 : Option ImageFile} (h : Kept W s) (_ : W.part .bg) (_ : W.part .bus)
    (_ : W.part .cad) (_ : W.part .cmd) (_ : W.part .em) (_ : W.part .emit) (_ : W.part .eng) (_ : W.part .mg)
    (_ : W.part .tasks) (_ : W.part .th) (_ : Logs W) (ha : ∀ F, W.fld F) : KeptO W (execImgLoadDone a1 s) := by
  unfold execImgLoadDone
  repeat' first
    | with_reducible assumption
    | (extract_lets +onlyGivenNames x
       first
       | (refine kept_cut (P := Kept W x) ?_ ?_; (on_goal 1 => subst x); (on_goal 2 => (intro _; try clear_value x)))
       | (refine kept_cut (P := Kept2 W x) ?_ ?_; (on_goal 1 => subst x); (on_goal 2 => (intro _; try clear_value x)))
       | (try clear_value x))
    | (with_reducible first | apply kept_quiet | apply kept_showSlot | apply kept_endOut | apply kept_raise)
    | (with_reducible first | apply kept_takeImage | apply keptO_next | (apply kept2_snd; assumption))
    | (with_reducible first | (apply kept2_snd; apply kept_takeImage) | refine kept_of2 (by assumption) ?_)
    | (with_reducible first | (intro _; rfl) | apply ha | apply kept_ite)
    | split | (clear_value *; split) | dsimp only

theorem kept_flushOne (h : Kept W s) (_ : W.part .fw) (_ : W.part .log) (_ : Logs W) (_ : W.fld (Evt.st .FW_LOG_WM)) : Kept W s.flushOne := by
  unfold State.flushOne
  split
  · exact h
  · next r t ht =>
    extract_lets rd u wm
    have hu : Kept W u := kept_firmware h (fun i => by
      have := i.staging
      rw [ht, List.length_cons] at this
      exact Nat.le_of_succ_le this) ‹_› ‹_›
    clear_value u
    repeat' first
      | with_reducible assumption
      | (extract_lets +onlyGivenNames x
         first
         | (refine kept_cut (P := Kept W x) ?_ ?_; (on_goal 1 => subst x); (on_goal 2 => (intro _; try clear_value x)))
         | (try clear_value x))
      | (with_reducible first | apply kept_raise | (intro _; rfl) | apply kept_ite)
      | (intro _ _ _ _; try beta_reduce) | (intro _ _ _; try beta_reduce) | (intro _ _; try beta_reduce)
      | split | (clear_value *; split) | dsimp only

theorem kept_logSlice (h : Kept W s) (_ : W.part .fw) (_ : W.part .log) (_ : Logs W) (_ : W.fld (Evt.st .FW_LOG_WM)) :
    Kept W (State.logSlice s) := by
  unfold State.logSlice
  repeat' first
    | with_reducible assumption
    | (extract_lets +onlyGivenNames x
       first
       | (refine kept_cut (P := Kept W x) ?_ ?_; (on_goal 1 => subst x); (on_goal 2 => (intro _; try clear_value x)))
       | (try clear_value x))
    | (with_reducible first | apply kept_flushOne | apply kept_upTo | (intro _; rfl) | apply kept_ite)
    | (intro _ _ _ _; try beta_reduce) | (intro _ _ _; try beta_reduce) | (intro _ _; try beta_reduce)
    | split | (clear_value *; split) | dsimp only

theorem kept_drainSlice {a2 : Bool} (h : Kept W s) (_ : W.part .emit) (_ : W.part .free) (_ : W.part .fw)
    (_ : W.part .log) (_ : Logs W) (_ : W.fld (Evt.st .FW_TRD_BLOCK)) (_ : W.fld TRD_CTRL.EN)
    (_ : W.fld TRD_STAT.BLOCK) : Kept W (State.drainSlice s a2) := by
  unfold State.drainSlice
  repeat' first
    | with_reducible assumption
    | (extract_lets +onlyGivenNames x
       first
       | (refine kept_cut (P := Kept W x) ?_ ?_; (on_goal 1 => subst x); (on_goal 2 => (intro _; try clear_value x)))
       | (refine kept_cut (P := Kept2 W x) ?_ ?_; (on_goal 1 => subst x); (on_goal 2 => (intro _; try clear_value x)))
       | (try clear_value x))
    | (with_reducible first | apply kept_setFw | apply kept_takeFree | apply kept_drive | apply kept_doorbell)
    | (with_reducible first | apply kept_wr | apply kept_raiseLog | (apply kept2_snd; assumption))
    | (with_reducible first | (apply kept2_snd; apply kept_takeFree) | refine kept_of2 (by assumption) ?_)
    | (with_reducible first | (intro _; rfl) | apply kept_ite)
    | split | (clear_value *; split) | dsimp only

theorem kept_telemetryRing {a2 : Nat} {a3 : List Nat} {a4 : Nat} (h : Kept W s) (_ : W.part .bus)
    (_ : W.fld RING_CNT.TEL_DROP) : Kept W (State.telemetryRing s a2 a3 a4) := by
  unfold State.telemetryRing
  repeat' first
    | with_reducible assumption
    | (extract_lets +onlyGivenNames x
       first
       | (refine kept_cut (P := Kept W x) ?_ ?_; (on_goal 1 => subst x); (on_goal 2 => (intro _; try clear_value x)))
       | (try clear_value x))
    | (with_reducible first | apply kept_setRingOut | apply kept_setBus | apply kept_inc | (intro _; rfl))
    | (with_reducible first | apply kept_ite)
    | split | (clear_value *; split) | dsimp only

theorem kept_telemetry (h : Kept W s) (_ : W.part .bus) (_ : Logs W) (_ : W.fld RING_CNT.TEL_DROP)
    (_ : W.fld TEL.WORD) (_ : W.fld TEL_HDR.HDR) : Kept W (State.telemetry s) := by
  unfold State.telemetry
  repeat' first
    | with_reducible assumption
    | (extract_lets +onlyGivenNames x
       first
       | (refine kept_cut (P := Kept W x) ?_ ?_; (on_goal 1 => subst x); (on_goal 2 => (intro _; try clear_value x)))
       | (try clear_value x))
    | (with_reducible first | apply kept_setBus | apply kept_telemetryRing | apply kept_wr | apply kept_doorbell)
    | (with_reducible first | apply kept_upTo | (intro _; rfl) | apply kept_ite)
    | (intro _ _ _ _; try beta_reduce) | (intro _ _ _; try beta_reduce) | (intro _ _; try beta_reduce)
    | split | (clear_value *; split) | dsimp only

theorem kept_takeSnapshots (h : Kept W s) (_ : W.fld PW_BREACH.TICKS) (_ : W.fld PW_CTRL.SNAP)
    (_ : W.fld PW_ENERGY.ENERGY) (_ : W.fld PW_OTHER.OTHER) (_ : W.fld PW_SNAP_TICK.TICK) (_ : W.fld PW_STAT.PEND) :
    Kept W (State.takeSnapshots s) := by
  unfold State.takeSnapshots
  repeat' first
    | with_reducible assumption
    | (extract_lets +onlyGivenNames x
       first
       | (refine kept_cut (P := Kept W x) ?_ ?_; (on_goal 1 => subst x); (on_goal 2 => (intro _; try clear_value x)))
       | (try clear_value x))
    | (with_reducible first | apply kept_wr | apply kept_upTo | (intro _; rfl) | apply kept_ite)
    | (intro _ _ _ _; try beta_reduce) | (intro _ _ _; try beta_reduce) | (intro _ _; try beta_reduce)
    | split | (clear_value *; split) | dsimp only

theorem kept_partCounters (h : Kept W s) (_ : W.part .fw) (_ : W.part .log) (_ : W.fld PC_FTH.CYC256)
    (_ : W.fld PC_THR.TICKS) : Kept W (State.partCounters s) := by
  unfold State.partCounters
  repeat' first
    | with_reducible assumption
    | (extract_lets +onlyGivenNames x
       first
       | (refine kept_cut (P := Kept W x) ?_ ?_; (on_goal 1 => subst x); (on_goal 2 => (intro _; try clear_value x)))
       | (try clear_value x))
    | (with_reducible first | apply kept_inc | apply kept_incSat | apply kept_setFw | apply kept_upTo)
    | (with_reducible first | (intro _; rfl) | apply kept_ite)
    | (intro _ _ _ _; try beta_reduce) | (intro _ _ _; try beta_reduce) | (intro _ _; try beta_reduce)
    | split | (clear_value *; split) | dsimp only

end Sys2Proof.Machine
end

