-- ==== Sys2Proof/Laws/KeptDomestique.lean ====
section
/-! SUPPORT. What the operations of `Domestique.lean` keep (see `Kept.lean`). -/

set_option linter.unusedVariables false
set_option linter.unusedTactic false
set_option linter.unreachableTactic false
set_option linter.tactic.unusedName false

namespace Sys2Proof.Machine

variable {W : Bounds} {s : State}

theorem kept_setTask {a2 : Nat} {a3 : Task → Task} (h : Kept W s) (_ : W.part .tasks) : Kept W (s.setTask a2 a3) :=
  kept_tasks (f := fun t => Table.upd {} t a2 a3) h ‹_›

theorem kept_scrubSlice {a2 : Option Nat} (h : Kept W s) (_ : W.part .eng) (_ : W.part .free) (_ : Logs W)
    (_ : W.fld (Evt.st .ENG_ENGINE_FAULT)) (_ : W.fld (Evt.st .ENG_LANE_DIS)) (_ : W.fld ENG_CAND.CAP)
    (_ : W.fld ENG_CAND.CUR) (_ : W.fld ENG_CAND.HINT) (_ : W.fld ENG_CAND.THM) (_ : W.fld ENG_CNT.LDIS)
    (_ : W.fld ENG_LCAND.LINK8) (_ : W.fld ENG_LCAND.LINK9) (_ : W.fld ENG_LCAND.STACK) (_ : W.fld ENG_OUT.FLOOR)
    (_ : W.fld ENG_OUT.OUT) (_ : W.fld ENG_OUT.PERF) (_ : W.fld ENG_OUT.SAFE) (_ : W.fld ENG_SEL.LNK)
    (_ : W.fld ENG_SEL.SEC) (_ : W.fld ENG_SEL.STK) (_ : W.fld ENG_STAT.LD_RUN) (_ : W.fld ENG_STAT.STATE) :
    Kept W (State.scrubSlice s a2) := by
  unfold State.scrubSlice
  repeat' first
    | with_reducible assumption
    | (extract_lets +onlyGivenNames x
       first
       | (refine kept_cut (P := Kept W x) ?_ ?_; (on_goal 1 => subst x); (on_goal 2 => (intro _; try clear_value x)))
       | (refine kept_cut (P := Kept2 W x) ?_ ?_; (on_goal 1 => subst x); (on_goal 2 => (intro _; try clear_value x)))
       | (try clear_value x))
    | (with_reducible first | apply kept_takeFree | apply kept_setEng | apply kept_traceEvent | apply kept_raiseLog)
    | (with_reducible first | apply kept_inc | apply kept_wr | apply kept_engineFault | apply kept_logOnly)
    | (with_reducible first | (apply kept2_snd; assumption) | (apply kept2_snd; apply kept_takeFree))
    | (with_reducible first | refine kept_of2 (by assumption) ?_ | (intro _; rfl) | apply kept_ite)
    | split | (clear_value *; split) | dsimp only

theorem kept_calEnd {a2 : Nat} {a3 : SliceIn} (h : Kept W s) (_ : W.part .th) (_ : Logs W)
    (_ : W.fld (Evt.st .TH_CAL_FAIL)) (_ : W.fld RG_IMON_CAL.GAIN) (_ : W.fld RG_IMON_CAL.OFFSET)
    (_ : W.fld TH_CHSTAT.CALIB) : Kept W (State.calEnd s a2 a3) := by
  unfold State.calEnd
  repeat' first
    | with_reducible assumption
    | (extract_lets +onlyGivenNames x
       first
       | (refine kept_cut (P := Kept W x) ?_ ?_; (on_goal 1 => subst x); (on_goal 2 => (intro _; try clear_value x)))
       | (try clear_value x))
    | (with_reducible first | apply kept_wr | apply kept_setChan | apply kept_raiseLog | (intro _; rfl))
    | (with_reducible first | apply kept_ite)
    | (intro _ _ _ _; try beta_reduce) | (intro _ _ _; try beta_reduce) | (intro _ _; try beta_reduce)
    | split | (clear_value *; split) | dsimp only

theorem kept_calSlice {a2 : Nat} {a3 : SliceIn} (h : Kept W s) (_ : W.part .emit) (_ : W.part .spk) (_ : W.part .th)
    (_ : Logs W) (_ : W.fld (Evt.st .SPK_TRIM_FAIL)) (_ : W.fld (Evt.st .TH_CAL_FAIL)) (_ : W.fld RG_IMON_CAL.GAIN)
    (_ : W.fld RG_IMON_CAL.OFFSET) (_ : W.fld TH_CHSTAT.CALIB) : Kept W (State.calSlice s a2 a3) := by
  unfold State.calSlice
  repeat' first
    | with_reducible assumption
    | (extract_lets +onlyGivenNames x
       first
       | (refine kept_cut (P := Kept W x) ?_ ?_; (on_goal 1 => subst x); (on_goal 2 => (intro _; try clear_value x)))
       | (try clear_value x))
    | (with_reducible first | apply kept_drive | apply kept_wr | apply kept_calEnd | apply kept_trimStart)
    | (with_reducible first | apply kept_trimEnd | (intro _; rfl) | apply kept_ite)
    | split | (clear_value *; split) | dsimp only

theorem kept_sliceEffect {a2 : Nat} {a3 : Nat} {a4 : SliceIn} (h : Kept W s) (_ : W.part .bus) (_ : W.part .cmd)
    (_ : W.part .em) (_ : W.part .emit) (_ : W.part .eng) (_ : W.part .free) (_ : W.part .fw) (_ : W.part .log)
    (_ : W.part .mg) (_ : W.part .rim) (_ : W.part .spk) (_ : W.part .th) (_ : Logs W)
    (_ : W.fld (Evt.st .EM_CAL_DONE)) (_ : W.fld (Evt.st .EM_COEF_CLAMP)) (_ : W.fld (Evt.st .EM_GAIN_CLAMP))
    (_ : W.fld (Evt.st .EM_SLOW_SKIP)) (_ : W.fld (Evt.st .ENG_ENGINE_FAULT)) (_ : W.fld (Evt.st .ENG_LANE_DIS))
    (_ : W.fld (Evt.st .FW_LOG_WM)) (_ : W.fld (Evt.st .FW_TRD_BLOCK)) (_ : W.fld (Evt.st .MG_CL_RETIRED))
    (_ : W.fld (Evt.st .MG_CORE_RETIRED)) (_ : W.fld (Evt.st .MG_CORE_SLOWED)) (_ : W.fld (Evt.st .MG_NO_MEDIAN))
    (_ : W.fld (Evt.st .MG_OTP_FULL)) (_ : W.fld (Evt.st .MG_REPLAN)) (_ : W.fld (Evt.st .MG_SUS_STEP))
    (_ : W.fld (Evt.st .MG_WORN)) (_ : W.fld (Evt.st .SPK_TRIM_FAIL)) (_ : W.fld (Evt.st .TH_CAL_FAIL))
    (_ : W.fld CAR_LEASE.REQ) (_ : W.fld EM_CAL_TIME.FAST_OK) (_ : W.fld EM_CAL_TIME.SLOW_OK)
    (_ : W.fld EM_CAL_TIME.SLOW_SKIPS) (_ : W.fld EM_COEF.EXP) (_ : W.fld EM_COEF.MANT) (_ : W.fld EM_GAIN.GAIN)
    (_ : W.fld EM_RESID.SLOW_RES) (_ : W.fld EM_STAT.CAL_STATE) (_ : W.fld EM_STAT.GAIN_CLAMP)
    (_ : W.fld ENG_CAND.CAP) (_ : W.fld ENG_CAND.CUR) (_ : W.fld ENG_CAND.HINT) (_ : W.fld ENG_CAND.THM)
    (_ : W.fld ENG_CNT.LDIS) (_ : W.fld ENG_LCAND.LINK8) (_ : W.fld ENG_LCAND.LINK9) (_ : W.fld ENG_LCAND.STACK)
    (_ : W.fld ENG_OUT.FLOOR) (_ : W.fld ENG_OUT.OUT) (_ : W.fld ENG_OUT.PERF) (_ : W.fld ENG_OUT.SAFE)
    (_ : W.fld ENG_SEL.LNK) (_ : W.fld ENG_SEL.SEC) (_ : W.fld ENG_SEL.STK) (_ : W.fld ENG_STAT.LD_RUN)
    (_ : W.fld ENG_STAT.STATE) (_ : W.fld MG_CL.AGE) (_ : W.fld MG_CL.REQ) (_ : W.fld MG_CL.STATE)
    (_ : W.fld MG_CL.SUS) (_ : W.fld MG_DLY.BASE) (_ : W.fld MG_DLY.MEDIANS) (_ : W.fld MG_DLY.PROJ)
    (_ : W.fld MG_EPOCH.EPOCH) (_ : W.fld MG_OTP.FREE) (_ : W.fld MG_OTP.USED) (_ : W.fld MG_STAT.OTP_FULL)
    (_ : W.fld MG_STAT.RETIRED) (_ : W.fld MG_STAT.SUS_OVF) (_ : W.fld MG_STAT.WORN) (_ : W.fld OMB_STAT.DROP)
    (_ : W.fld OMB_STAT.QUEUED) (_ : W.fld PDM.VALID) (_ : W.fld REST_MASK.WAKE) (_ : W.fld RG_IMON_CAL.GAIN)
    (_ : W.fld RG_IMON_CAL.OFFSET) (_ : W.fld SWD_STAT.PEND) (_ : W.fld SWD_STAT.WAIT_SLOT)
    (_ : W.fld TH_CHSTAT.CALIB) (_ : W.fld TH_STAT.OTP_PEND) (_ : W.fld TH_WR_CNT.DEFERRED)
    (_ : W.fld TH_WR_CNT.SUPERSEDED) (_ : W.fld TRD_CTRL.EN) (_ : W.fld TRD_STAT.BLOCK) :
    Kept W (State.sliceEffect s a2 a3 a4) := by
  unfold State.sliceEffect
  repeat' first
    | with_reducible assumption
    | (extract_lets +onlyGivenNames x
       first
       | (refine kept_cut (P := Kept W x) ?_ ?_; (on_goal 1 => subst x); (on_goal 2 => (intro _; try clear_value x)))
       | (try clear_value x))
    | (with_reducible first | apply kept_scrubSlice | apply kept_calSlice | apply kept_ageingSlice)
    | (with_reducible first | apply kept_gainFit | apply kept_meterFit | apply kept_setBus | apply kept_logSlice)
    | (with_reducible first | apply kept_drainSlice | apply kept_renewLease | apply kept_injectAll | (intro _; rfl))
    | (with_reducible first | apply kept_ite)
    | (intro _ _ _ _; try beta_reduce) | (intro _ _ _; try beta_reduce) | (intro _ _; try beta_reduce)
    | split | (clear_value *; split) | dsimp only

theorem kept_advance {a2 : Nat} {a3 : Nat} (h : Kept W s) (_ : W.part .tasks) : Kept W (State.advance s a2 a3) := by
  unfold State.advance
  repeat' first
    | with_reducible assumption
    | (extract_lets +onlyGivenNames x
       first
       | (refine kept_cut (P := Kept W x) ?_ ?_; (on_goal 1 => subst x); (on_goal 2 => (intro _; try clear_value x)))
       | (try clear_value x))
    | (with_reducible first | apply kept_setTask | (intro _; rfl) | apply kept_ite)
    | split | (clear_value *; split) | dsimp only

theorem kept_endRun {a2 : Nat} (h : Kept W s) (_ : W.part .tasks) (_ : W.fld DOM_AGE.AGE) (_ : W.fld DOM_STAT.PENDING)
    (_ : W.fld DOM_STAT.PROMOTED) (_ : W.fld LOG_CTRL.FLUSH) : Kept W (State.endRun s a2) := by
  unfold State.endRun
  repeat' first
    | with_reducible assumption
    | (extract_lets +onlyGivenNames x
       first
       | (refine kept_cut (P := Kept W x) ?_ ?_; (on_goal 1 => subst x); (on_goal 2 => (intro _; try clear_value x)))
       | (try clear_value x))
    | (with_reducible first | apply kept_setTask | apply kept_wr | (intro _; rfl) | apply kept_ite)
    | split | (clear_value *; split) | dsimp only

theorem kept_runSlice {a2 : Nat} {a3 : SliceIn} (h : Kept W s) (_ : W.part .bus) (_ : W.part .cmd) (_ : W.part .em)
    (_ : W.part .emit) (_ : W.part .eng) (_ : W.part .free) (_ : W.part .fw) (_ : W.part .log) (_ : W.part .mg)
    (_ : W.part .rim) (_ : W.part .spk) (_ : W.part .tasks) (_ : W.part .th) (_ : Logs W)
    (_ : W.fld (Evt.st .EM_CAL_DONE)) (_ : W.fld (Evt.st .EM_COEF_CLAMP)) (_ : W.fld (Evt.st .EM_GAIN_CLAMP))
    (_ : W.fld (Evt.st .EM_SLOW_SKIP)) (_ : W.fld (Evt.st .ENG_ENGINE_FAULT)) (_ : W.fld (Evt.st .ENG_LANE_DIS))
    (_ : W.fld (Evt.st .FW_LOG_WM)) (_ : W.fld (Evt.st .FW_TRD_BLOCK)) (_ : W.fld (Evt.st .MG_CL_RETIRED))
    (_ : W.fld (Evt.st .MG_CORE_RETIRED)) (_ : W.fld (Evt.st .MG_CORE_SLOWED)) (_ : W.fld (Evt.st .MG_NO_MEDIAN))
    (_ : W.fld (Evt.st .MG_OTP_FULL)) (_ : W.fld (Evt.st .MG_REPLAN)) (_ : W.fld (Evt.st .MG_SUS_STEP))
    (_ : W.fld (Evt.st .MG_WORN)) (_ : W.fld (Evt.st .SPK_TRIM_FAIL)) (_ : W.fld (Evt.st .TH_CAL_FAIL))
    (_ : W.fld CAR_LEASE.REQ) (_ : W.fld DOM_AGE.AGE) (_ : W.fld DOM_STAT.PENDING) (_ : W.fld DOM_STAT.PROMOTED)
    (_ : W.fld EM_CAL_TIME.FAST_OK) (_ : W.fld EM_CAL_TIME.SLOW_OK) (_ : W.fld EM_CAL_TIME.SLOW_SKIPS)
    (_ : W.fld EM_COEF.EXP) (_ : W.fld EM_COEF.MANT) (_ : W.fld EM_GAIN.GAIN) (_ : W.fld EM_RESID.SLOW_RES)
    (_ : W.fld EM_STAT.CAL_STATE) (_ : W.fld EM_STAT.GAIN_CLAMP) (_ : W.fld ENG_CAND.CAP) (_ : W.fld ENG_CAND.CUR)
    (_ : W.fld ENG_CAND.HINT) (_ : W.fld ENG_CAND.THM) (_ : W.fld ENG_CNT.LDIS) (_ : W.fld ENG_LCAND.LINK8)
    (_ : W.fld ENG_LCAND.LINK9) (_ : W.fld ENG_LCAND.STACK) (_ : W.fld ENG_OUT.FLOOR) (_ : W.fld ENG_OUT.OUT)
    (_ : W.fld ENG_OUT.PERF) (_ : W.fld ENG_OUT.SAFE) (_ : W.fld ENG_SEL.LNK) (_ : W.fld ENG_SEL.SEC)
    (_ : W.fld ENG_SEL.STK) (_ : W.fld ENG_STAT.LD_RUN) (_ : W.fld ENG_STAT.STATE) (_ : W.fld LOG_CTRL.FLUSH)
    (_ : W.fld MG_CL.AGE) (_ : W.fld MG_CL.REQ) (_ : W.fld MG_CL.STATE) (_ : W.fld MG_CL.SUS) (_ : W.fld MG_DLY.BASE)
    (_ : W.fld MG_DLY.MEDIANS) (_ : W.fld MG_DLY.PROJ) (_ : W.fld MG_EPOCH.EPOCH) (_ : W.fld MG_OTP.FREE)
    (_ : W.fld MG_OTP.USED) (_ : W.fld MG_STAT.OTP_FULL) (_ : W.fld MG_STAT.RETIRED) (_ : W.fld MG_STAT.SUS_OVF)
    (_ : W.fld MG_STAT.WORN) (_ : W.fld OMB_STAT.DROP) (_ : W.fld OMB_STAT.QUEUED) (_ : W.fld PDM.VALID)
    (_ : W.fld REST_MASK.WAKE) (_ : W.fld RG_IMON_CAL.GAIN) (_ : W.fld RG_IMON_CAL.OFFSET) (_ : W.fld SWD_STAT.PEND)
    (_ : W.fld SWD_STAT.WAIT_SLOT) (_ : W.fld TH_CHSTAT.CALIB) (_ : W.fld TH_STAT.OTP_PEND)
    (_ : W.fld TH_WR_CNT.DEFERRED) (_ : W.fld TH_WR_CNT.SUPERSEDED) (_ : W.fld TRD_CTRL.EN) (_ : W.fld TRD_STAT.BLOCK)
    : Kept W (State.runSlice s a2 a3) := by
  unfold State.runSlice
  repeat' first
    | with_reducible assumption
    | (extract_lets +onlyGivenNames x
       first
       | (refine kept_cut (P := Kept W x) ?_ ?_; (on_goal 1 => subst x); (on_goal 2 => (intro _; try clear_value x)))
       | (try clear_value x))
    | (with_reducible first | apply kept_setSpk | apply kept_sliceEffect | apply kept_advance | apply kept_endRun)
    | (with_reducible first | (intro _; rfl) | apply kept_ite)
    | (intro _ _ _ _; try beta_reduce) | (intro _ _ _; try beta_reduce) | (intro _ _; try beta_reduce)
    | split | (clear_value *; split) | dsimp only

theorem kept_promotionSlot {f room : Nat} {xs : List SliceIn} (h : Kept W s) (_ : W.part .bus)
    (_ : W.part .cmd) (_ : W.part .em) (_ : W.part .emit) (_ : W.part .eng) (_ : W.part .free) (_ : W.part .fw)
    (_ : W.part .log) (_ : W.part .mg) (_ : W.part .rim) (_ : W.part .spk) (_ : W.part .tasks) (_ : W.part .th)
    (_ : Logs W) (_ : W.fld (Evt.st .EM_CAL_DONE)) (_ : W.fld (Evt.st .EM_COEF_CLAMP))
    (_ : W.fld (Evt.st .EM_GAIN_CLAMP)) (_ : W.fld (Evt.st .EM_SLOW_SKIP)) (_ : W.fld (Evt.st .ENG_ENGINE_FAULT))
    (_ : W.fld (Evt.st .ENG_LANE_DIS)) (_ : W.fld (Evt.st .FW_LOG_WM)) (_ : W.fld (Evt.st .FW_TRD_BLOCK))
    (_ : W.fld (Evt.st .MG_CL_RETIRED)) (_ : W.fld (Evt.st .MG_CORE_RETIRED)) (_ : W.fld (Evt.st .MG_CORE_SLOWED))
    (_ : W.fld (Evt.st .MG_NO_MEDIAN)) (_ : W.fld (Evt.st .MG_OTP_FULL)) (_ : W.fld (Evt.st .MG_REPLAN))
    (_ : W.fld (Evt.st .MG_SUS_STEP)) (_ : W.fld (Evt.st .MG_WORN)) (_ : W.fld (Evt.st .SPK_TRIM_FAIL))
    (_ : W.fld (Evt.st .TH_CAL_FAIL)) (_ : W.fld CAR_LEASE.REQ) (_ : W.fld DOM_AGE.AGE) (_ : W.fld DOM_STAT.PENDING)
    (_ : W.fld DOM_STAT.PROMOTED) (_ : W.fld EM_CAL_TIME.FAST_OK) (_ : W.fld EM_CAL_TIME.SLOW_OK)
    (_ : W.fld EM_CAL_TIME.SLOW_SKIPS) (_ : W.fld EM_COEF.EXP) (_ : W.fld EM_COEF.MANT) (_ : W.fld EM_GAIN.GAIN)
    (_ : W.fld EM_RESID.SLOW_RES) (_ : W.fld EM_STAT.CAL_STATE) (_ : W.fld EM_STAT.GAIN_CLAMP)
    (_ : W.fld ENG_CAND.CAP) (_ : W.fld ENG_CAND.CUR) (_ : W.fld ENG_CAND.HINT) (_ : W.fld ENG_CAND.THM)
    (_ : W.fld ENG_CNT.LDIS) (_ : W.fld ENG_LCAND.LINK8) (_ : W.fld ENG_LCAND.LINK9) (_ : W.fld ENG_LCAND.STACK)
    (_ : W.fld ENG_OUT.FLOOR) (_ : W.fld ENG_OUT.OUT) (_ : W.fld ENG_OUT.PERF) (_ : W.fld ENG_OUT.SAFE)
    (_ : W.fld ENG_SEL.LNK) (_ : W.fld ENG_SEL.SEC) (_ : W.fld ENG_SEL.STK) (_ : W.fld ENG_STAT.LD_RUN)
    (_ : W.fld ENG_STAT.STATE) (_ : W.fld LOG_CTRL.FLUSH) (_ : W.fld MG_CL.AGE) (_ : W.fld MG_CL.REQ)
    (_ : W.fld MG_CL.STATE) (_ : W.fld MG_CL.SUS) (_ : W.fld MG_DLY.BASE) (_ : W.fld MG_DLY.MEDIANS)
    (_ : W.fld MG_DLY.PROJ) (_ : W.fld MG_EPOCH.EPOCH) (_ : W.fld MG_OTP.FREE) (_ : W.fld MG_OTP.USED)
    (_ : W.fld MG_STAT.OTP_FULL) (_ : W.fld MG_STAT.RETIRED) (_ : W.fld MG_STAT.SUS_OVF) (_ : W.fld MG_STAT.WORN)
    (_ : W.fld OMB_STAT.DROP) (_ : W.fld OMB_STAT.QUEUED) (_ : W.fld PDM.VALID) (_ : W.fld REST_MASK.WAKE)
    (_ : W.fld RG_IMON_CAL.GAIN) (_ : W.fld RG_IMON_CAL.OFFSET) (_ : W.fld SWD_STAT.PEND)
    (_ : W.fld SWD_STAT.WAIT_SLOT) (_ : W.fld TH_CHSTAT.CALIB) (_ : W.fld TH_STAT.OTP_PEND)
    (_ : W.fld TH_WR_CNT.DEFERRED) (_ : W.fld TH_WR_CNT.SUPERSEDED) (_ : W.fld TRD_CTRL.EN) (_ : W.fld TRD_STAT.BLOCK) :
    Kept W (State.promotionSlot f room xs s) := by
  induction f generalizing s room xs with
  | zero => exact h
  | succ f ih =>
    unfold State.promotionSlot
    split
    · split
      · refine ih ?_
        apply kept_runSlice h <;> assumption
      · exact h
    · exact h

theorem kept_ageTasks (h : Kept W s) (_ : W.fld DOM_AGE.AGE) : Kept W (State.ageTasks s) := by
  unfold State.ageTasks
  repeat' first
    | with_reducible assumption
    | (extract_lets +onlyGivenNames x
       first
       | (refine kept_cut (P := Kept W x) ?_ ?_; (on_goal 1 => subst x); (on_goal 2 => (intro _; try clear_value x)))
       | (try clear_value x))
    | (with_reducible first | apply kept_incSat | apply kept_upTo | (intro _; rfl) | apply kept_ite)
    | (intro _ _ _ _; try beta_reduce) | (intro _ _ _; try beta_reduce) | (intro _ _; try beta_reduce)
    | split | (clear_value *; split) | dsimp only

theorem kept_execDomRelease {a1 : Nat} (h : Kept W s) (_ : W.part .emit) (_ : W.part .tasks) (_ : W.fld DOM_AGE.AGE)
    (_ : W.fld DOM_STAT.MERGED) (_ : W.fld DOM_STAT.PENDING) (_ : W.fld DOM_STAT.PROMOTED) :
    KeptO W (execDomRelease a1 s) := by
  unfold execDomRelease
  repeat' first
    | with_reducible assumption
    | (extract_lets +onlyGivenNames x
       first
       | (refine kept_cut (P := Kept W x) ?_ ?_; (on_goal 1 => subst x); (on_goal 2 => (intro _; try clear_value x)))
       | (try clear_value x))
    | (with_reducible first | apply kept_quiet | apply kept_setTask | apply kept_inc | apply kept_wr)
    | (with_reducible first | apply keptO_next | (intro _; rfl) | apply kept_ite)
    | split | (clear_value *; split) | dsimp only

theorem kept_execDomPromote {a1 : Nat} (h : Kept W s) (_ : W.part .emit) (_ : W.fld DOM_STAT.PROMOTED) :
    KeptO W (execDomPromote a1 s) := by
  unfold execDomPromote
  repeat' first
    | with_reducible assumption
    | (extract_lets +onlyGivenNames x
       first
       | (refine kept_cut (P := Kept W x) ?_ ?_; (on_goal 1 => subst x); (on_goal 2 => (intro _; try clear_value x)))
       | (try clear_value x))
    | (with_reducible first | apply kept_quiet | apply kept_wr | apply keptO_next | (intro _; rfl) | apply kept_ite)
    | split | (clear_value *; split) | dsimp only

theorem kept_execDomOverdue {a1 : Nat} (h : Kept W s) (_ : W.part .emit) (_ : W.part .tasks) (_ : Logs W)
    (_ : W.fld (Evt.st .CAD_OVERDUE)) (_ : W.fld DOM_STAT.OVERDUE) : KeptO W (execDomOverdue a1 s) := by
  unfold execDomOverdue
  repeat' first
    | with_reducible assumption
    | (extract_lets +onlyGivenNames x
       first
       | (refine kept_cut (P := Kept W x) ?_ ?_; (on_goal 1 => subst x); (on_goal 2 => (intro _; try clear_value x)))
       | (try clear_value x))
    | (with_reducible first | apply kept_quiet | apply kept_inc | apply kept_setTask | apply kept_raiseLog)
    | (with_reducible first | apply keptO_next | (intro _; rfl) | apply kept_ite)
    | split | (clear_value *; split) | dsimp only

theorem kept_execDomSlice {a1 : Nat} {a2 : SliceIn} (h : Kept W s) (_ : W.part .bus) (_ : W.part .cad)
    (_ : W.part .cmd) (_ : W.part .em) (_ : W.part .emit) (_ : W.part .eng) (_ : W.part .free) (_ : W.part .fw)
    (_ : W.part .log) (_ : W.part .mg) (_ : W.part .rim) (_ : W.part .spk) (_ : W.part .tasks) (_ : W.part .th)
    (_ : Logs W) (_ : W.fld (Evt.st .EM_CAL_DONE)) (_ : W.fld (Evt.st .EM_COEF_CLAMP))
    (_ : W.fld (Evt.st .EM_GAIN_CLAMP)) (_ : W.fld (Evt.st .EM_SLOW_SKIP)) (_ : W.fld (Evt.st .ENG_ENGINE_FAULT))
    (_ : W.fld (Evt.st .ENG_LANE_DIS)) (_ : W.fld (Evt.st .FW_LOG_WM)) (_ : W.fld (Evt.st .FW_TRD_BLOCK))
    (_ : W.fld (Evt.st .MG_CL_RETIRED)) (_ : W.fld (Evt.st .MG_CORE_RETIRED)) (_ : W.fld (Evt.st .MG_CORE_SLOWED))
    (_ : W.fld (Evt.st .MG_NO_MEDIAN)) (_ : W.fld (Evt.st .MG_OTP_FULL)) (_ : W.fld (Evt.st .MG_REPLAN))
    (_ : W.fld (Evt.st .MG_SUS_STEP)) (_ : W.fld (Evt.st .MG_WORN)) (_ : W.fld (Evt.st .SPK_TRIM_FAIL))
    (_ : W.fld (Evt.st .TH_CAL_FAIL)) (_ : W.fld CAR_LEASE.REQ) (_ : W.fld DOM_AGE.AGE) (_ : W.fld DOM_STAT.PENDING)
    (_ : W.fld DOM_STAT.PROMOTED) (_ : W.fld EM_CAL_TIME.FAST_OK) (_ : W.fld EM_CAL_TIME.SLOW_OK)
    (_ : W.fld EM_CAL_TIME.SLOW_SKIPS) (_ : W.fld EM_COEF.EXP) (_ : W.fld EM_COEF.MANT) (_ : W.fld EM_GAIN.GAIN)
    (_ : W.fld EM_RESID.SLOW_RES) (_ : W.fld EM_STAT.CAL_STATE) (_ : W.fld EM_STAT.GAIN_CLAMP)
    (_ : W.fld ENG_CAND.CAP) (_ : W.fld ENG_CAND.CUR) (_ : W.fld ENG_CAND.HINT) (_ : W.fld ENG_CAND.THM)
    (_ : W.fld ENG_CNT.LDIS) (_ : W.fld ENG_LCAND.LINK8) (_ : W.fld ENG_LCAND.LINK9) (_ : W.fld ENG_LCAND.STACK)
    (_ : W.fld ENG_OUT.FLOOR) (_ : W.fld ENG_OUT.OUT) (_ : W.fld ENG_OUT.PERF) (_ : W.fld ENG_OUT.SAFE)
    (_ : W.fld ENG_SEL.LNK) (_ : W.fld ENG_SEL.SEC) (_ : W.fld ENG_SEL.STK) (_ : W.fld ENG_STAT.LD_RUN)
    (_ : W.fld ENG_STAT.STATE) (_ : W.fld LOG_CTRL.FLUSH) (_ : W.fld MG_CL.AGE) (_ : W.fld MG_CL.REQ)
    (_ : W.fld MG_CL.STATE) (_ : W.fld MG_CL.SUS) (_ : W.fld MG_DLY.BASE) (_ : W.fld MG_DLY.MEDIANS)
    (_ : W.fld MG_DLY.PROJ) (_ : W.fld MG_EPOCH.EPOCH) (_ : W.fld MG_OTP.FREE) (_ : W.fld MG_OTP.USED)
    (_ : W.fld MG_STAT.OTP_FULL) (_ : W.fld MG_STAT.RETIRED) (_ : W.fld MG_STAT.SUS_OVF) (_ : W.fld MG_STAT.WORN)
    (_ : W.fld OMB_STAT.DROP) (_ : W.fld OMB_STAT.QUEUED) (_ : W.fld PDM.VALID) (_ : W.fld REST_MASK.WAKE)
    (_ : W.fld RG_IMON_CAL.GAIN) (_ : W.fld RG_IMON_CAL.OFFSET) (_ : W.fld SWD_STAT.PEND)
    (_ : W.fld SWD_STAT.WAIT_SLOT) (_ : W.fld TH_CHSTAT.CALIB) (_ : W.fld TH_STAT.OTP_PEND)
    (_ : W.fld TH_WR_CNT.DEFERRED) (_ : W.fld TH_WR_CNT.SUPERSEDED) (_ : W.fld TRD_CTRL.EN) (_ : W.fld TRD_STAT.BLOCK)
    : KeptO W (execDomSlice a1 a2 s) := by
  unfold execDomSlice
  repeat' first
    | with_reducible assumption
    | (extract_lets +onlyGivenNames x
       first
       | (refine kept_cut (P := Kept W x) ?_ ?_; (on_goal 1 => subst x); (on_goal 2 => (intro _; try clear_value x)))
       | (try clear_value x))
    | (with_reducible first | apply kept_quiet | apply kept_setCad | apply kept_runSlice | apply keptO_next)
    | (with_reducible first | (intro _; rfl) | apply kept_ite)
    | (intro _ _ _ _; try beta_reduce) | (intro _ _ _; try beta_reduce) | (intro _ _; try beta_reduce)
    | split | (clear_value *; split) | dsimp only

end Sys2Proof.Machine
end

