-- ==== Sys2Proof/Laws/KeptTick.lean ====
section
/-! SUPPORT. What the operations of `Tick.lean` keep (see `Kept.lean`). -/

set_option linter.unusedVariables false
set_option linter.unusedTactic false
set_option linter.unreachableTactic false
set_option linter.tactic.unusedName false

namespace Sys2Proof.Machine

variable {W : Bounds} {s : State}

theorem kept_dropPending {a2 : EvAct} (h : Kept W s) (_ : W.part .em) (_ : W.part .eng)
    (_ : W.fld ENG_STAT.SWITCH_PEND) (_ : W.fld FW_STAT.SW_PEND) : Kept W (State.dropPending s a2) := by
  unfold State.dropPending
  repeat' first
    | with_reducible assumption
    | (extract_lets +onlyGivenNames x
       first
       | (refine kept_cut (P := Kept W x) ?_ ?_; (on_goal 1 => subst x); (on_goal 2 => (intro _; try clear_value x)))
       | (try clear_value x))
    | (with_reducible first | apply kept_setEm | apply kept_wr | apply kept_setEng | (intro _; rfl) | apply kept_ite)
    | split | (clear_value *; split) | dsimp only

/-- The entries of a list that take room in the event queue. -/
def taking (l : List QEvent) : Nat :=
  (l.filter (fun e => e.act != .share)).length

theorem dropPending_cad (s : State) (a : EvAct) : (s.dropPending a).cad = s.cad := by
  unfold State.dropPending
  split <;> simp

theorem raiseLog_queue (s : State) (e : Evt) (a b : Nat) : (s.raiseLog e a b).cad.queue = s.cad.queue := by
  obtain ⟨ts, h⟩ := (LogOnly.raiseLog s e a b).cad
  rw [h]
  simp

/-- The queue is within its bound while entries that take `N` places at most are still to come. -/
def Within (W : Bounds) (N : Nat) (s : State) : Prop :=
  W.start.Inv → s.evqFill ≤ N

theorem kept_requeue {e f : QEvent} {N : Nat} (h : Kept W s) (hN : W.start.Inv → s.evqFill + taking [e] ≤ N)
    (hM : W.start.Inv → N ≤ 64) (hf : f.act = e.act) (a : W.part .cad) (b : W.part .tasks) :
    Kept W (s.setCad (fun c => { c with queue := c.queue ++ [f] })) ∧
      Within W N (s.setCad (fun c => { c with queue := c.queue ++ [f] })) := by
  have hq : (s.setCad (fun c => { c with queue := c.queue ++ [f] })).evqFill = s.evqFill + taking [e] := by
    simp only [State.evqFill, taking, setCad_cad, List.filter_append, List.filter_cons, hf, List.length_append, List.filter_nil]
    split <;> rfl
  have hc : Kept W (s.setCad (fun c => { c with queue := c.queue ++ [f] })) := by
    refine ⟨h.pending, h.tick, h.locks, fun i => ⟨(h.inv i).fields, (h.inv i).rwl, (h.inv i).inForce,
      (h.inv i).staging, ?_⟩, fun q k => Region.same_trans (h.part q k) ?_, h.reg⟩
    · rw [hq]; exact le_trans (hN i) (hM i)
    · cases q with
      | cad => exact absurd a k
      | _ => simp [Region.same]
  exact ⟨hc, fun i => by rw [hq]; exact hN i⟩

theorem kept_markOne {e : QEvent} {N : Nat} (h : Kept W s) (hN : W.start.Inv → s.evqFill + taking [e] ≤ N)
    (hM : W.start.Inv → N ≤ 64) (_ : W.part .cad) (_ : W.part .em) (_ : W.part .eng) (_ : W.part .tasks) (_ : Logs W) (_ : W.fld (Evt.st .CAD_DEFER)) (_ : W.fld CAD_DEFER_CNT.DEFER) (_ : W.fld ENG_STAT.SWITCH_PEND) (_ : W.fld FW_STAT.SW_PEND) :
    Kept W (s.markOne e) ∧ Within W N (s.markOne e) := by
  unfold State.markOne
  extract_lets keep u
  split
  · exact kept_requeue (f := e) h hN hM rfl ‹_› ‹_›
  · split
    · have hu : Kept W u := by
        simp only [u]
        exact kept_raiseLog (kept_inc h ‹_›) ‹_› ‹_›
      have hq : u.evqFill = s.evqFill := evqFill_congr (by
        simp only [u]
        rw [raiseLog_queue, inc_cad])
      exact kept_requeue (e := e) hu (hq ▸ hN) hM rfl ‹_› ‹_›
    · split
      · have hd : Kept W (s.setCad (fun c => { c with dropped := c.dropped ++ [(e.act.cls, e.target)] })) :=
          kept_setCad h (fun _ => rfl) ‹_› ‹_›
        refine ⟨?_, fun i => ?_⟩
        · apply kept_dropPending hd <;> assumption
        · rw [evqFill_congr (congrArg Cad.queue (dropPending_cad _ _))]
          exact le_trans (Nat.le_add_right _ _) (hN i)
      · exact kept_requeue (e := e) h hN hM rfl ‹_› ‹_›

theorem taking_cons (e : QEvent) (l : List QEvent) : taking (e :: l) = taking [e] + taking l := by
  unfold taking
  rw [show e :: l = [e] ++ l from rfl, List.filter_append, List.length_append]

theorem kept_markAll {l : List QEvent} (h : Kept W s) (hN : W.start.Inv → s.evqFill + taking l ≤ 64) (_ : W.part .cad) (_ : W.part .em) (_ : W.part .eng) (_ : W.part .tasks) (_ : Logs W) (_ : W.fld (Evt.st .CAD_DEFER)) (_ : W.fld CAD_DEFER_CNT.DEFER) (_ : W.fld ENG_STAT.SWITCH_PEND) (_ : W.fld FW_STAT.SW_PEND) :
    Kept W (l.foldl State.markOne s) := by
  induction l generalizing s with
  | nil => exact h
  | cons e l ih =>
    have h12 : Kept W (s.markOne e) ∧ Within W (s.evqFill + taking [e]) (s.markOne e) := by
      apply kept_markOne (e := e) (N := s.evqFill + taking [e]) h (fun _ => le_refl _) (fun i => by
        have := hN i
        rw [taking_cons] at this
        omega) <;> assumption
    refine ih h12.1 (fun i => ?_)
    have h2 := h12.2 i
    have := hN i
    rw [taking_cons] at this
    omega

theorem kept_markDue (h : Kept W s) (_ : W.part .cad) (_ : W.part .em) (_ : W.part .eng) (_ : W.part .tasks) (_ : Logs W) (_ : W.fld (Evt.st .CAD_DEFER)) (_ : W.fld CAD_DEFER_CNT.DEFER) (_ : W.fld ENG_STAT.SWITCH_PEND) (_ : W.fld FW_STAT.SW_PEND) :
    Kept W s.markDue := by
  unfold State.markDue
  extract_lets l l'
  have ht : taking l' = taking l := by
    simp only [l']
    split
    · simp [taking, List.filter_append]
    · rfl
  have hq : Kept W (s.setCad (fun c => { c with queue := [] })) :=
    kept_unqueue h (List.nil_sublist _) ‹_› ‹_›
  have h0 : W.start.Inv → (s.setCad (fun c => { c with queue := [] })).evqFill + taking l' ≤ 64 := fun i => by
    rw [ht]
    have := (h.inv i).events
    simpa [State.evqFill, taking] using this
  apply kept_markAll hq h0 <;> assumption

theorem kept_fwTickEnd (h : Kept W s) (_ : W.part .cad) (_ : W.part .tasks) (_ : W.fld CAD_BUDGET.FW_LAST)
    (_ : W.fld CAD_BUDGET_PEAK.ENG_PEAK) (_ : W.fld CAD_BUDGET_PEAK.FW_PEAK) (_ : W.fld CAD_CTRL.PEAK_CLR) :
    Kept W (State.fwTickEnd s) := by
  unfold State.fwTickEnd
  repeat' first
    | with_reducible assumption
    | (extract_lets +onlyGivenNames x
       first
       | (refine kept_cut (P := Kept W x) ?_ ?_; (on_goal 1 => subst x); (on_goal 2 => (intro _; try clear_value x)))
       | (try clear_value x))
    | (with_reducible first | apply kept_wr | apply kept_setCad | (intro _; rfl) | apply kept_ite)
    | split | (clear_value *; split) | dsimp only

theorem kept_nextTick (h : Kept W s) : Kept { W with tick := W.tick + 1 } s.nextTick :=
  ⟨h.pending, congrArg (· + 1) h.tick, h.locks, fun i => ⟨(h.inv i).fields, (h.inv i).rwl, (h.inv i).inForce,
    (h.inv i).staging, (h.inv i).events⟩,
    fun q k => Region.same_trans (h.part q k) (by cases q <;> simp [Region.same, State.nextTick]), h.reg⟩

theorem kept_loadInForce (h : Kept W s) (a : W.part .inForce) : Kept W s.loadInForce := by
  unfold State.loadInForce
  split
  · exact h.next rfl rfl rfl (fun i => ⟨i.fields, i.rwl, i.rwl, i.staging, i.events⟩)
      (fun q k => by
        cases q with
        | inForce => exact absurd a k
        | _ => simp [Region.same])
      (fun _ _ _ => rfl)
  · exact h

theorem kept_handlerBoundary {a2 : Nat} {a3 : List SliceIn} (h : Kept W s) (_ : W.part .bg) (_ : W.part .bus)
    (_ : W.part .cmd) (_ : W.part .em) (_ : W.part .emit) (_ : W.part .eng) (_ : W.part .free) (_ : W.part .fw)
    (_ : W.part .gl) (_ : W.part .log) (_ : W.part .mg) (_ : W.part .rim) (_ : W.part .spk) (_ : W.part .tasks)
    (_ : W.part .th) (_ : Logs W) (ha : ∀ F, W.fld F) : Kept W (State.handlerBoundary s a2 a3) := by
  unfold State.handlerBoundary
  repeat' first
    | with_reducible assumption
    | (extract_lets +onlyGivenNames x
       first
       | (refine kept_cut (P := Kept W x) ?_ ?_; (on_goal 1 => subst x); (on_goal 2 => (intro _; try clear_value x)))
       | (try clear_value x))
    | (with_reducible first | apply kept_shutRecovery | apply kept_alertResponse | apply kept_promotionSlot)
    | (with_reducible first | apply kept_hubVoltage | apply kept_budgetFirmware | apply kept_sscApply)
    | (with_reducible first | apply kept_setEng | (intro _; rfl) | apply ha | apply kept_ite)
    | split | (clear_value *; split) | dsimp only

theorem kept_readyBoundary (h : Kept W s) (_ : W.part .emit) (_ : W.part .free) (_ : W.part .fw) (_ : W.part .log)
    (_ : Logs W) (_ : W.fld GSTAT.READY) : Kept W (State.readyBoundary s) := by
  unfold State.readyBoundary
  repeat' first
    | with_reducible assumption
    | (extract_lets +onlyGivenNames x
       first
       | (refine kept_cut (P := Kept W x) ?_ ?_; (on_goal 1 => subst x); (on_goal 2 => (intro _; try clear_value x)))
       | (refine kept_cut (P := Kept2 W x) ?_ ?_; (on_goal 1 => subst x); (on_goal 2 => (intro _; try clear_value x)))
       | (try clear_value x))
    | (with_reducible first | apply kept_wr | apply kept_setFw | apply kept_drive | apply kept_takeFree)
    | (with_reducible first | apply kept_fwRec | apply kept_doorbell | apply kept2_mk | (apply kept2_snd; assumption))
    | (with_reducible first | (apply kept2_snd; apply kept_takeFree) | refine kept_of2 (by assumption) ?_)
    | (with_reducible first | (intro _; rfl) | apply kept_ite)
    | (intro _ _ _ _; try beta_reduce) | (intro _ _ _; try beta_reduce) | (intro _ _; try beta_reduce)
    | split | (clear_value *; split) | dsimp only

theorem kept_endTick {a2 : List Nat} (h : Kept W s) (_ : W.part .bus) (_ : W.part .cad) (_ : W.part .emit)
    (_ : W.part .eng) (_ : W.part .fw) (_ : W.part .log) (_ : W.part .mg) (_ : W.part .rim) (_ : W.part .spk)
    (_ : W.part .tasks) (_ : Logs W) (_ : W.fld (Evt.st .ENG_ENGINE_FAULT)) (_ : W.fld (Evt.st .ENG_LANE_DIS))
    (_ : W.fld (Evt.st .FW_TRD_LOST)) (_ : W.fld (Evt.st .MG_CORE_RETIRED)) (_ : W.fld (Evt.st .MG_CORE_SLOWED))
    (_ : W.fld (Evt.st .MG_OTP_FULL)) (_ : W.fld (Evt.st .MG_SUS_STEP)) (_ : W.fld (Evt.st .MG_WORN))
    (_ : W.fld (Evt.st .RIM_AT_FLOOR)) (_ : W.fld (Evt.st .RIM_ILIMIT)) (_ : W.fld CAD_BUDGET.ENG_LAST)
    (_ : W.fld CAD_BUDGET.FW_LAST) (_ : W.fld CAD_BUDGET_PEAK.ENG_PEAK) (_ : W.fld CAD_BUDGET_PEAK.FW_PEAK)
    (_ : W.fld CAD_CTRL.PEAK_CLR) (_ : W.fld ENG_CAND.CAP) (_ : W.fld ENG_CAND.CUR) (_ : W.fld ENG_CAND.HINT)
    (_ : W.fld ENG_CAND.THM) (_ : W.fld ENG_CNT.LDIS) (_ : W.fld ENG_DUMP_STAT.DIFF) (_ : W.fld ENG_DUMP_STAT.DONE)
    (_ : W.fld ENG_DUMP_STAT.HELD) (_ : W.fld ENG_DUMP_STAT.NOWRITE) (_ : W.fld ENG_DUMP_TICK.TICK)
    (_ : W.fld ENG_DUMP_VAL.VAL_A) (_ : W.fld ENG_DUMP_VAL.VAL_B) (_ : W.fld ENG_LCAND.LINK8)
    (_ : W.fld ENG_LCAND.LINK9) (_ : W.fld ENG_LCAND.STACK) (_ : W.fld ENG_OUT.FLOOR) (_ : W.fld ENG_OUT.OUT)
    (_ : W.fld ENG_OUT.PERF) (_ : W.fld ENG_OUT.SAFE) (_ : W.fld ENG_SEL.LNK) (_ : W.fld ENG_SEL.SEC)
    (_ : W.fld ENG_SEL.STK) (_ : W.fld ENG_STAT.LD_RUN) (_ : W.fld ENG_STAT.STATE) (_ : W.fld ENG_TR_CTRL.ARM)
    (_ : W.fld ENG_TR_STAT.HALF) (_ : W.fld ENG_TR_STAT.STOPPED) (_ : W.fld ENG_TR_STAT.TRIGGERED)
    (_ : W.fld ENG_TR_STAT.TRIG_IDX) (_ : W.fld ENG_TR_STAT.WPTR) (_ : W.fld FLOW_GOOD_TICKS.TICKS)
    (_ : W.fld MG_CL.STATE) (_ : W.fld MG_CL.SUS) (_ : W.fld MG_OTP.FREE) (_ : W.fld MG_OTP.USED)
    (_ : W.fld MG_STAT.OTP_FULL) (_ : W.fld MG_STAT.RETIRED) (_ : W.fld MG_STAT.SUS_OVF) (_ : W.fld MG_STAT.WORN)
    (_ : W.fld OMB_STAT.DROP) (_ : W.fld OMB_STAT.QUEUED) (_ : W.fld PC_FTH.CYC256) (_ : W.fld PC_THR.TICKS)
    (_ : W.fld RG_I_L.I_L) (_ : W.fld RG_I_SM.I_M) (_ : W.fld RG_I_SM.I_S) (_ : W.fld RG_LIMITED.TICKS)
    (_ : W.fld RG_OVER_CNT.LONG) (_ : W.fld RG_OVER_CNT.MID) (_ : W.fld RG_OVER_CNT.SHORT)
    (_ : W.fld RG_STAT.AT_FLOOR) (_ : W.fld RG_STAT.CEIL) (_ : W.fld RG_STAT.IMON_CODE) (_ : W.fld RG_STAT.OVER_L)
    (_ : W.fld RG_STAT.OVER_M) (_ : W.fld RG_STAT.OVER_S) (_ : W.fld RIM_STAT.COOL_FAULT)
    (_ : W.fld RIM_STAT.FLOW_GOOD_1S) (_ : W.fld RIM_STAT.OVER) (_ : W.fld SNT_STAT.ARMED) (_ : W.fld SPK_STAT.BUS_OK)
    (_ : W.fld SWD_STAT.STATE) (_ : W.fld TH_STAT.OTP_PEND) (_ : W.fld TH_WR_CNT.DEFERRED)
    (_ : W.fld TH_WR_CNT.SUPERSEDED) (_ : W.fld TRD_STAT.LOST) : Kept W (State.endTick s a2) := by
  unfold State.endTick
  repeat' first
    | with_reducible assumption
    | (extract_lets +onlyGivenNames x
       first
       | (refine kept_cut (P := Kept W x) ?_ ?_; (on_goal 1 => subst x); (on_goal 2 => (intro _; try clear_value x)))
       | (try clear_value x))
    | (with_reducible first | apply kept_engTickEnd | apply kept_applyWaiting | apply kept_flushSubticks)
    | (with_reducible first | apply kept_fwTickEnd | apply kept_partCounters | apply kept_busOk | (intro _; rfl))
    | (with_reducible first | apply kept_ite)
    | split | (clear_value *; split) | dsimp only

theorem kept_hardwareBoundary {a2 : Nat} (h : Kept W s) (_ : W.part .bg) (_ : W.part .cad) (_ : W.part .car)
    (_ : W.part .cmd) (_ : W.part .em) (_ : W.part .emit) (_ : W.part .eng) (_ : W.part .free) (_ : W.part .gl)
    (_ : W.part .mg) (_ : W.part .mir) (_ : W.part .pel) (_ : W.part .rc) (_ : W.part .rim) (_ : W.part .spk)
    (_ : W.part .tasks) (_ : W.part .th) (_ : Logs W) (ha : ∀ F, W.fld F) : Kept W (State.hardwareBoundary s a2) := by
  unfold State.hardwareBoundary
  repeat' first
    | with_reducible assumption
    | (extract_lets +onlyGivenNames x
       first
       | (refine kept_cut (P := Kept W x) ?_ ?_; (on_goal 1 => subst x); (on_goal 2 => (intro _; try clear_value x)))
       | (try clear_value x))
    | (with_reducible first | apply kept_telemTick | apply kept_sampleCapSet | apply kept_pelotonBoundary)
    | (with_reducible first | apply kept_budgetHardware | apply kept_applyOutputs | apply kept_mirrorBoundary)
    | (with_reducible first | apply kept_thermalBoundary | apply kept_marginBoundary | apply kept_energyBoundary)
    | (with_reducible first | apply kept_rimBoundary | apply kept_quietTick | apply kept_carrierBoundary)
    | (with_reducible first | apply kept_rcBoundary | apply kept_deferWave | apply kept_engineBoundary)
    | (with_reducible first | apply kept_transportBoundary | apply kept_markDue | apply ha | (intro _; rfl))
    | (with_reducible first | apply kept_ite)
    | split | (clear_value *; split) | dsimp only

theorem kept_afterTick {i : TickIn} {b : Bool} (h : Kept W s) (_ : W.part .bg) (_ : W.part .bus) (_ : W.part .cad) (_ : W.part .car) (_ : W.part .cmd) (_ : W.part .em) (_ : W.part .emit) (_ : W.part .eng) (_ : W.part .free) (_ : W.part .fw) (_ : W.part .gl) (_ : W.part .inForce) (_ : W.part .log) (_ : W.part .mg) (_ : W.part .mir) (_ : W.part .pel) (_ : W.part .rc) (_ : W.part .rim) (_ : W.part .spk) (_ : W.part .tasks) (_ : W.part .th) (_ : Logs W) (ha : ∀ F, W.fld F) :
    Kept W (
      let s := s.setCad (fun c => { c with boundary := 256 * i.now })
      let s := (s.wrB CAD_STAT.LAST_SYNTH 0 b).loadInForce
      let s := s.hardwareBoundary i.capSet
      let s := if s.holdover then s else s.ageTasks
      let s := s.handlerBoundary (min 128 (600 - i.recCycles)) i.slot
      let s := (s.readyBoundary).takeSnapshots
      let s := if s.hubRuns then s.telemetry else s
      if s.handlerTakes then s.completeCommands.answerUndefined else s) := by
  repeat' first
    | with_reducible assumption
    | (extract_lets +onlyGivenNames x
       first
       | (refine kept_cut (P := Kept W x) ?_ ?_; (on_goal 1 => subst x); (on_goal 2 => (intro _; try clear_value x)))
       | (try clear_value x))
    | (with_reducible first | apply kept_loadInForce | apply kept_hardwareBoundary | apply kept_ageTasks)
    | (with_reducible first | apply kept_handlerBoundary | apply kept_takeSnapshots | apply kept_readyBoundary)
    | (with_reducible first | apply kept_telemetry | apply kept_answerUndefined | apply kept_completeCommands)
    | (with_reducible first | apply kept_wrB | apply kept_setCad | (intro _; rfl) | apply ha | apply kept_ite)
    | (intro _ _ _ _; try beta_reduce) | (intro _ _ _; try beta_reduce) | (intro _ _; try beta_reduce)
    | split | (clear_value *; split) | dsimp only

theorem kept_boundary {i : TickIn} {b : Bool} (h : Kept W s) (_ : W.part .bg) (_ : W.part .bus) (_ : W.part .cad) (_ : W.part .car) (_ : W.part .cmd) (_ : W.part .em) (_ : W.part .emit) (_ : W.part .eng) (_ : W.part .free) (_ : W.part .fw) (_ : W.part .gl) (_ : W.part .inForce) (_ : W.part .log) (_ : W.part .mg) (_ : W.part .mir) (_ : W.part .pel) (_ : W.part .rc) (_ : W.part .rim) (_ : W.part .spk) (_ : W.part .tasks) (_ : W.part .th) (_ : Logs W) (ha : ∀ F, W.fld F) :
    Kept { W with tick := W.tick + 1 } (s.boundary i b) := by
  have h0 : Kept W (s.endTick i.src) := by
    apply kept_endTick h <;> first | assumption | exact ha _
  have hl : Logs { W with tick := W.tick + 1 } := ⟨‹_›, ‹_›, fun F _ => ha F⟩
  unfold State.boundary
  extract_lets +onlyGivenNames t
  have ht : Kept { W with tick := W.tick + 1 } t := kept_latchCells (kept_nextTick h0) ‹_›
  clear_value t
  apply kept_afterTick ht <;> first | assumption | exact hl | exact ha

theorem kept_noise (h : Kept W s) (_ : Logs W) (_ : W.fld (Evt.st .CAD_NOISE)) (_ : W.fld CAD_NOISE_CNT.NOISE) :
    Kept W (State.noise s) := by
  unfold State.noise
  repeat' first
    | with_reducible assumption
    | (extract_lets +onlyGivenNames x
       first
       | (refine kept_cut (P := Kept W x) ?_ ?_; (on_goal 1 => subst x); (on_goal 2 => (intro _; try clear_value x)))
       | (try clear_value x))
    | (with_reducible first | apply kept_raise | apply kept_inc | (intro _; rfl) | apply kept_ite)
    | split | (clear_value *; split) | dsimp only

theorem kept_acceptTooth {i : TickIn} (h : Kept W s) (_ : W.part .bg) (_ : W.part .bus) (_ : W.part .cad) (_ : W.part .car) (_ : W.part .cmd) (_ : W.part .em) (_ : W.part .emit) (_ : W.part .eng) (_ : W.part .free) (_ : W.part .fw) (_ : W.part .gl) (_ : W.part .inForce) (_ : W.part .log) (_ : W.part .mg) (_ : W.part .mir) (_ : W.part .pel) (_ : W.part .rc) (_ : W.part .rim) (_ : W.part .spk) (_ : W.part .tasks) (_ : W.part .th) (_ : Logs W) (ha : ∀ F, W.fld F) :
    Kept { W with tick := W.tick + 1 } (s.acceptTooth i) := by
  unfold State.acceptTooth
  extract_lets u
  have hu : Kept W u := kept_setCad h (fun _ => rfl) ‹_› ‹_›
  apply kept_boundary (kept_wr hu (ha _)) <;> assumption

theorem kept_endRelock {i : TickIn} (h : Kept W s) (_ : W.part .bg) (_ : W.part .bus) (_ : W.part .cad) (_ : W.part .car) (_ : W.part .cmd) (_ : W.part .em) (_ : W.part .emit) (_ : W.part .eng) (_ : W.part .free) (_ : W.part .fw) (_ : W.part .gl) (_ : W.part .inForce) (_ : W.part .log) (_ : W.part .mg) (_ : W.part .mir) (_ : W.part .pel) (_ : W.part .rc) (_ : W.part .rim) (_ : W.part .spk) (_ : W.part .tasks) (_ : W.part .th) (_ : Logs W) (ha : ∀ F, W.fld F) :
    Kept { W with tick := W.tick + 1 } (s.endRelock i) := by
  unfold State.endRelock
  extract_lets u
  have hu : Kept W u := kept_inc (kept_wr (kept_wr h (ha _)) (ha _)) (ha _)
  clear_value u
  have hv : Kept W ((u.setCad (fun c => { c with relRun := 0 })).raise .CAD_RELOCK) :=
    kept_raise (kept_setCad hu (fun _ => rfl) ‹_› ‹_›) ‹_› (ha _)
  apply kept_acceptTooth hv <;> assumption

theorem kept_relockSpacing {a2 : Nat} (h : Kept W s) (_ : W.part .cad) (_ : W.part .tasks)
    (_ : W.fld CAD_STAT.RELOCKING) : Kept W (State.relockSpacing s a2) := by
  unfold State.relockSpacing
  repeat' first
    | with_reducible assumption
    | (extract_lets +onlyGivenNames x
       first
       | (refine kept_cut (P := Kept W x) ?_ ?_; (on_goal 1 => subst x); (on_goal 2 => (intro _; try clear_value x)))
       | (try clear_value x))
    | (with_reducible first | apply kept_setCad | apply kept_wr | (intro _; rfl) | apply kept_ite)
    | split | (clear_value *; split) | dsimp only

theorem kept_learnTooth {i : TickIn} (h : Kept W s) (_ : W.part .bg) (_ : W.part .bus) (_ : W.part .cad) (_ : W.part .car) (_ : W.part .cmd) (_ : W.part .em) (_ : W.part .emit) (_ : W.part .eng) (_ : W.part .free) (_ : W.part .fw) (_ : W.part .gl) (_ : W.part .inForce) (_ : W.part .log) (_ : W.part .mg) (_ : W.part .mir) (_ : W.part .pel) (_ : W.part .rc) (_ : W.part .rim) (_ : W.part .spk) (_ : W.part .tasks) (_ : W.part .th) (_ : Logs W) (ha : ∀ F, W.fld F) :
    Kept { W with tick := W.tick + 1 } (s.learnTooth i) := by
  unfold State.learnTooth
  extract_lets n u
  have hu : Kept W u := kept_setCad h (fun _ => rfl) ‹_› ‹_›
  apply kept_acceptTooth hu <;> assumption

theorem kept_validateTooth {i : TickIn} (h : Kept W s) (_ : W.part .bg) (_ : W.part .bus) (_ : W.part .cad) (_ : W.part .car) (_ : W.part .cmd) (_ : W.part .em) (_ : W.part .emit) (_ : W.part .eng) (_ : W.part .free) (_ : W.part .fw) (_ : W.part .gl) (_ : W.part .inForce) (_ : W.part .log) (_ : W.part .mg) (_ : W.part .mir) (_ : W.part .pel) (_ : W.part .rc) (_ : W.part .rim) (_ : W.part .spk) (_ : W.part .tasks) (_ : W.part .th) (_ : Logs W) (ha : ∀ F, W.fld F) :
    Kept W (s.validateTooth i) ∨ Kept { W with tick := W.tick + 1 } (s.validateTooth i) := by
  unfold State.validateTooth
  split
  · refine .inr ?_
    have h1 : ∀ u : State, Kept W u → Kept { W with tick := W.tick + 1 } ((u.acceptTooth i).relockSpacing i.now) := by
      intro u hu
      have h2 : Kept { W with tick := W.tick + 1 } (u.acceptTooth i) := by
        apply kept_acceptTooth hu <;> assumption
      exact kept_relockSpacing h2 ‹_› ‹_› (ha _)
    apply h1
    split
    · exact h
    · exact kept_wr h (ha _)
  · refine .inl ?_
    have h1 : Kept W s.noise := by
      apply kept_noise h <;> first | assumption | exact ha _
    exact kept_relockSpacing h1 ‹_› ‹_› (ha _)

theorem kept_execTooth {i : TickIn} (h : Kept W s) (_ : W.part .bg) (_ : W.part .bus) (_ : W.part .cad) (_ : W.part .car) (_ : W.part .cmd) (_ : W.part .em) (_ : W.part .emit) (_ : W.part .eng) (_ : W.part .free) (_ : W.part .fw) (_ : W.part .gl) (_ : W.part .inForce) (_ : W.part .log) (_ : W.part .mg) (_ : W.part .mir) (_ : W.part .pel) (_ : W.part .rc) (_ : W.part .rim) (_ : W.part .spk) (_ : W.part .tasks) (_ : W.part .th) (_ : Logs W) (ha : ∀ F, W.fld F) :
    KeptO W (execTooth i s) ∨ KeptO { W with tick := W.tick + 1 } (execTooth i s) := by
  have hq : Kept W s.quiet := kept_quiet h ‹_›
  have hn : Kept W s.quiet.noise := by
    apply kept_noise hq <;> first | assumption | exact ha _
  unfold execTooth
  extract_lets u
  split
  · exact .inr (keptO_next (by apply kept_learnTooth hq <;> assumption))
  · split
    · split
      · exact .inr (keptO_next (by apply kept_endRelock hq <;> assumption))
      · exact .inl (keptO_next hn)
    · have hv : Kept W (u.validateTooth i) ∨ Kept { W with tick := W.tick + 1 } (u.validateTooth i) := by
        apply kept_validateTooth hq <;> assumption
      exact hv.imp keptO_next keptO_next

theorem kept_execLocked (h : Kept W s) (_ : W.part .emit) (_ : W.fld CAD_PERIOD.PERIOD) (_ : W.fld CAD_STAT.LOCKED) :
    KeptO W (execLocked s) := by
  unfold execLocked
  repeat' first
    | with_reducible assumption
    | (extract_lets +onlyGivenNames x
       first
       | (refine kept_cut (P := Kept W x) ?_ ?_; (on_goal 1 => subst x); (on_goal 2 => (intro _; try clear_value x)))
       | (try clear_value x))
    | (with_reducible first | apply kept_quiet | apply kept_wr | apply keptO_next | (intro _; rfl) | apply kept_ite)
    | split | (clear_value *; split) | dsimp only

theorem kept_synthesise {i : TickIn} {e : Nat} (h : Kept W s) (_ : W.part .bg) (_ : W.part .bus) (_ : W.part .cad) (_ : W.part .car) (_ : W.part .cmd) (_ : W.part .em) (_ : W.part .emit) (_ : W.part .eng) (_ : W.part .free) (_ : W.part .fw) (_ : W.part .gl) (_ : W.part .inForce) (_ : W.part .log) (_ : W.part .mg) (_ : W.part .mir) (_ : W.part .pel) (_ : W.part .rc) (_ : W.part .rim) (_ : W.part .spk) (_ : W.part .tasks) (_ : W.part .th) (_ : Logs W) (ha : ∀ F, W.fld F) :
    Kept { W with tick := W.tick + 1 } (s.synthesise i e) := by
  unfold State.synthesise
  extract_lets run u v
  have hu : Kept W u := kept_raise (kept_inc (kept_wr h (ha _)) (ha _)) ‹_› (ha _)
  have hv : Kept W v := kept_setCad hu (fun _ => rfl) ‹_› ‹_›
  apply kept_boundary hv <;> assumption

theorem kept_execSynthesisedTick {i : TickIn} (h : Kept W s) (_ : W.part .bg) (_ : W.part .bus) (_ : W.part .cad) (_ : W.part .car) (_ : W.part .cmd) (_ : W.part .em) (_ : W.part .emit) (_ : W.part .eng) (_ : W.part .free) (_ : W.part .fw) (_ : W.part .gl) (_ : W.part .inForce) (_ : W.part .log) (_ : W.part .mg) (_ : W.part .mir) (_ : W.part .pel) (_ : W.part .rc) (_ : W.part .rim) (_ : W.part .spk) (_ : W.part .tasks) (_ : W.part .th) (_ : Logs W) (ha : ∀ F, W.fld F) :
    KeptO W (execSynthesisedTick i s) ∨ KeptO { W with tick := W.tick + 1 } (execSynthesisedTick i s) := by
  have hq : Kept W s.quiet := kept_quiet h ‹_›
  unfold execSynthesisedTick
  extract_lets u e
  have hs : ∀ e, Kept { W with tick := W.tick + 1 } (u.synthesise i e) := fun e => by
    apply kept_synthesise hq <;> assumption
  split
  · exact .inl (keptO_next hq)
  · split
    · split
      · exact .inr (keptO_next (hs _))
      · exact .inl (keptO_next hq)
    · split
      · exact .inr (keptO_next (hs _))
      · exact .inl (keptO_next hq)

theorem kept_execCadenceLost (h : Kept W s) (_ : W.part .cad) (_ : W.part .emit) (_ : W.part .tasks) (_ : Logs W)
    (_ : W.fld (Evt.st .CAD_LOST)) (_ : W.fld CAD_RELOCK_CNT.LOST) (_ : W.fld CAD_STAT.CADENCE_LOST) :
    KeptO W (execCadenceLost s) := by
  unfold execCadenceLost
  repeat' first
    | with_reducible assumption
    | (extract_lets +onlyGivenNames x
       first
       | (refine kept_cut (P := Kept W x) ?_ ?_; (on_goal 1 => subst x); (on_goal 2 => (intro _; try clear_value x)))
       | (try clear_value x))
    | (with_reducible first | apply kept_quiet | apply kept_setCad | apply kept_raise | apply kept_inc)
    | (with_reducible first | apply kept_wr | apply keptO_next | (intro _; rfl) | apply kept_ite)
    | split | (clear_value *; split) | dsimp only

theorem kept_execRelock {i : TickIn} (h : Kept W s) (_ : W.part .bg) (_ : W.part .bus) (_ : W.part .cad) (_ : W.part .car) (_ : W.part .cmd) (_ : W.part .em) (_ : W.part .emit) (_ : W.part .eng) (_ : W.part .free) (_ : W.part .fw) (_ : W.part .gl) (_ : W.part .inForce) (_ : W.part .log) (_ : W.part .mg) (_ : W.part .mir) (_ : W.part .pel) (_ : W.part .rc) (_ : W.part .rim) (_ : W.part .spk) (_ : W.part .tasks) (_ : W.part .th) (_ : Logs W) (ha : ∀ F, W.fld F) :
    KeptO W (execRelock i s) ∨ KeptO { W with tick := W.tick + 1 } (execRelock i s) := by
  have hq : Kept W s.quiet := kept_quiet h ‹_›
  unfold execRelock
  extract_lets u
  split
  · exact .inr (keptO_next (by apply kept_endRelock hq <;> assumption))
  · exact .inl (keptO_next hq)

theorem kept_tracePoints (h : Kept W s) (_ : W.part .free) (_ : Logs W) : Kept W (State.tracePoints s) := by
  unfold State.tracePoints
  repeat' first
    | with_reducible assumption
    | (extract_lets +onlyGivenNames x
       first
       | (refine kept_cut (P := Kept W x) ?_ ?_; (on_goal 1 => subst x); (on_goal 2 => (intro _; try clear_value x)))
       | (refine kept_cut (P := Kept2 W x) ?_ ?_; (on_goal 1 => subst x); (on_goal 2 => (intro _; try clear_value x)))
       | (try clear_value x))
    | (with_reducible first | apply kept_takeFree | apply kept_logRec | apply kept_foldl | apply kept2_foldl)
    | (with_reducible first | apply kept2_mk | (apply kept2_snd; assumption) | (apply kept2_snd; apply kept_takeFree))
    | (with_reducible first | refine kept_of2 (by assumption) ?_ | (intro _; rfl) | apply kept_ite)
    | (intro _ _ _ _; try beta_reduce) | (intro _ _ _; try beta_reduce) | (intro _ _; try beta_reduce)
    | split | (clear_value *; split) | dsimp only

theorem kept_execFwPublish {a1 : Nat} (h : Kept W s) (_ : W.part .cad) (_ : W.part .emit) (_ : W.part .eng)
    (_ : W.part .free) (_ : W.part .fw) (_ : W.part .log) (_ : W.part .tasks) (_ : Logs W) :
    KeptO W (execFwPublish a1 s) := by
  unfold execFwPublish
  repeat' first
    | with_reducible assumption
    | (extract_lets +onlyGivenNames x
       first
       | (refine kept_cut (P := Kept W x) ?_ ?_; (on_goal 1 => subst x); (on_goal 2 => (intro _; try clear_value x)))
       | (try clear_value x))
    | (with_reducible first | apply kept_quiet | apply kept_tracePoints | apply kept_setEng | apply kept_setCad)
    | (with_reducible first | apply kept_setFw | apply keptO_next | (intro _; rfl) | apply kept_ite)
    | (intro _ _ _ _; try beta_reduce) | (intro _ _ _; try beta_reduce) | (intro _ _; try beta_reduce)
    | split | (clear_value *; split) | dsimp only

theorem kept_execFwOverrun (h : Kept W s) (_ : W.part .cad) (_ : W.part .emit) (_ : W.part .eng) (_ : W.part .tasks)
    (_ : Logs W) (_ : W.fld (Evt.st .CAD_FW_OVR)) (_ : W.fld CAD_OVERRUN.FW) : KeptO W (execFwOverrun s) := by
  unfold execFwOverrun
  repeat' first
    | with_reducible assumption
    | (extract_lets +onlyGivenNames x
       first
       | (refine kept_cut (P := Kept W x) ?_ ?_; (on_goal 1 => subst x); (on_goal 2 => (intro _; try clear_value x)))
       | (try clear_value x))
    | (with_reducible first | apply kept_quiet | apply kept_setEng | apply kept_setCad | apply kept_raise)
    | (with_reducible first | apply kept_inc | apply keptO_next | (intro _; rfl) | apply kept_ite)
    | split | (clear_value *; split) | dsimp only

end Sys2Proof.Machine
end

