-- ==== Sys2Proof/Laws/KeptBoot.lean ====
section
/-! SUPPORT. What the operations of `Boot.lean` keep (see `Kept.lean`). -/

set_option linter.unusedVariables false
set_option linter.unusedTactic false
set_option linter.unreachableTactic false
set_option linter.tactic.unusedName false

namespace Sys2Proof.Machine

variable {W : Bounds} {s : State}

/-- POR clears the lock bits and the tick (R422). -/
theorem kept_cleared (s : State) :
    Kept ⟨s.pending, 0, (· = {}), s.cleared, fun _ => True, fun _ => True⟩ s.cleared :=
  ⟨rfl, rfl, rfl, id, fun q _ => q.same_refl _, fun _ _ _ => rfl⟩

theorem cleared_inv (h : s.Inv) : s.cleared.Inv :=
  ⟨rising_filter h.fields, List.Pairwise.nil, List.Pairwise.nil, Nat.zero_le _, Nat.zero_le _⟩

theorem kept_startLink {a2 : Bool} {a3 : Nat} (h : Kept W s) (_ : W.part .emit) (_ : W.part .eng) (_ : W.part .gl)
    (_ : Logs W) (_ : W.fld (Evt.st .GL_LINK_FAULT)) (_ : W.fld GL_CTRL.SSC_APPLY) (_ : W.fld GL_FAULT.FAULT)
    (_ : W.fld GL_FAULT_CNT.FAULTS) (_ : W.fld GL_STAT.LSTATE) (_ : W.fld GL_STAT.OUTSTANDING) (_ : W.fld GL_STAT.SEQ)
    (_ : W.fld GL_STAT.VREQ) : Kept W (State.startLink s a2 a3) := by
  unfold State.startLink
  repeat' first
    | with_reducible assumption
    | (extract_lets +onlyGivenNames x
       first
       | (refine kept_cut (P := Kept W x) ?_ ?_; (on_goal 1 => subst x); (on_goal 2 => (intro _; try clear_value x)))
       | (try clear_value x))
    | (with_reducible first | apply kept_enterTrain | apply kept_linkFault | (intro _; rfl) | apply kept_ite)
    | split | (clear_value *; split) | dsimp only

theorem kept_selfTest {a2 : SelfTest} (h : Kept W s) (_ : W.part .emit) (_ : W.part .eng) (_ : W.part .free)
    (_ : W.part .fw) (_ : W.part .gl) (_ : W.part .log) (_ : Logs W) (_ : W.fld (Evt.st .ENG_ENGINE_FAULT))
    (_ : W.fld (Evt.st .GL_LINK_FAULT)) (_ : W.fld ENG_CAND.CAP) (_ : W.fld ENG_CAND.CUR) (_ : W.fld ENG_CAND.HINT)
    (_ : W.fld ENG_CAND.THM) (_ : W.fld ENG_LCAND.LINK8) (_ : W.fld ENG_LCAND.LINK9) (_ : W.fld ENG_LCAND.STACK)
    (_ : W.fld ENG_OUT.FLOOR) (_ : W.fld ENG_OUT.OUT) (_ : W.fld ENG_OUT.PERF) (_ : W.fld ENG_OUT.SAFE)
    (_ : W.fld ENG_SEL.LNK) (_ : W.fld ENG_SEL.SEC) (_ : W.fld ENG_SEL.STK) (_ : W.fld ENG_STAT.STATE)
    (_ : W.fld FW_STAT.NO_FW) (_ : W.fld GL_CTRL.SSC_APPLY) (_ : W.fld GL_FAULT.FAULT) (_ : W.fld GL_FAULT_CNT.FAULTS)
    (_ : W.fld GL_STAT.LSTATE) (_ : W.fld GL_STAT.OUTSTANDING) (_ : W.fld GL_STAT.SEQ) (_ : W.fld GL_STAT.VREQ) :
    Kept W (State.selfTest s a2) := by
  unfold State.selfTest
  repeat' first
    | with_reducible assumption
    | (extract_lets +onlyGivenNames x
       first
       | (refine kept_cut (P := Kept W x) ?_ ?_; (on_goal 1 => subst x); (on_goal 2 => (intro _; try clear_value x)))
       | (refine kept_cut (P := Kept2 W x) ?_ ?_; (on_goal 1 => subst x); (on_goal 2 => (intro _; try clear_value x)))
       | (try clear_value x))
    | (with_reducible first | apply kept_logRec | apply kept_setFw | apply kept_wr | apply kept_takeFree)
    | (with_reducible first | apply kept_engineFault | apply kept_startLink | apply kept_foldl)
    | (with_reducible first | (apply kept2_snd; assumption) | (apply kept2_snd; apply kept_takeFree))
    | (with_reducible first | refine kept_of2 (by assumption) ?_ | (intro _; rfl) | apply kept_ite)
    | (intro _ _ _ _; try beta_reduce) | (intro _ _ _; try beta_reduce) | (intro _ _; try beta_reduce)
    | split | (clear_value *; split) | dsimp only

theorem kept_execPor {t : SelfTest} :
    KeptO ⟨s.pending, 0, (· = {}), s.cleared, fun _ => True, fun _ => True⟩ (execPor t s) := by
  unfold execPor
  have h0 := kept_cleared s
  have hl : Logs ⟨s.pending, 0, (· = {}), s.cleared, fun _ => True, fun _ => True⟩ :=
    ⟨trivial, trivial, fun _ _ => trivial⟩
  extract_lets u v
  have hu : Kept ⟨s.pending, 0, (· = {}), s.cleared, fun _ => True, fun _ => True⟩ u := by
    apply kept_selfTest h0 <;> first | assumption | exact trivial | exact fun _ => trivial
  have hv : Kept ⟨s.pending, 0, (· = {}), s.cleared, fun _ => True, fun _ => True⟩ v := kept_wrB hu trivial
  refine keptO_next ?_
  apply kept_restoreAgeing hv <;> first | assumption | exact trivial | exact fun _ => trivial

theorem kept_execBootFirmwareLoad {a1 : Option (List Nat)} (h : Kept W s) (_ : W.part .emit) (_ : W.part .fw)
    (_ : W.part .log) (_ : Logs W) (_ : W.fld (Evt.st .FW_LOAD_REJ)) (_ : W.fld FW_SLOT_A.GEN)
    (_ : W.fld FW_SLOT_A.STATE) (_ : W.fld FW_SLOT_B.GEN) (_ : W.fld FW_SLOT_B.STATE) (_ : W.fld FW_STAT.ACTIVE)
    (_ : W.fld FW_STAT.GEN) (_ : W.fld FW_STAT.NO_FW) : KeptO W (execBootFirmwareLoad a1 s) := by
  unfold execBootFirmwareLoad
  repeat' first
    | with_reducible assumption
    | (extract_lets +onlyGivenNames x
       first
       | (refine kept_cut (P := Kept W x) ?_ ?_; (on_goal 1 => subst x); (on_goal 2 => (intro _; try clear_value x)))
       | (try clear_value x))
    | (with_reducible first | apply kept_quiet | apply kept_fillSlot | apply kept_enterFirmware | apply kept_raise)
    | (with_reducible first | apply kept_wr | apply keptO_next | (intro _; rfl) | apply kept_ite)
    | split | (clear_value *; split) | dsimp only

theorem kept_execOtpProgram {a1 : OtpField} (h : Kept W s) (_ : W.part .emit) (_ : W.part .fw) (_ : W.part .log) :
    KeptO W (execOtpProgram a1 s) := by
  unfold execOtpProgram
  repeat' first
    | with_reducible assumption
    | (extract_lets +onlyGivenNames x
       first
       | (refine kept_cut (P := Kept W x) ?_ ?_; (on_goal 1 => subst x); (on_goal 2 => (intro _; try clear_value x)))
       | (try clear_value x))
    | (with_reducible first | apply kept_quiet | apply kept_setFw | apply keptO_next | (intro _; rfl))
    | (with_reducible first | apply kept_ite)
    | split | (clear_value *; split) | dsimp only

end Sys2Proof.Machine
end

