-- ==== Sys2Proof/Laws/Quiet.lean ====
section
/-! SUPPORT. What the ports drove is read by nothing: every operation that reads the state (but `slotFrame`, which says what a slot carries) answers the same after `quiet`. -/

namespace Sys2Proof.Machine
@[simp] theorem quiet_on (s : State) (a0 : Fld) (a1 : Nat) : s.quiet.on a0 a1 = s.on a0 a1 := rfl
@[simp] theorem quiet_infOn (s : State) (a0 : Fld) (a1 : Nat) : s.quiet.infOn a0 a1 = s.infOn a0 a1 := rfl
@[simp] theorem quiet_rdS (s : State) (a0 : Fld) (a1 : Nat) : s.quiet.rdS a0 a1 = s.rdS a0 a1 := rfl
@[simp] theorem quiet_bit (s : State) (a0 : Fld) (a1 : Nat) (a2 : Nat) : s.quiet.bit a0 a1 a2 = s.bit a0 a1 a2 := rfl
@[simp] theorem quiet_stagingRoom (s : State) (a0 : Nat) : s.quiet.stagingRoom a0 = s.stagingRoom a0 := rfl
@[simp] theorem quiet_minSev (s : State) : s.quiet.minSev = s.minSev := rfl
@[simp] theorem quiet_stamp (s : State) : s.quiet.stamp = s.stamp := rfl
@[simp] theorem quiet_extend (s : State) (a0 : Nat) : s.quiet.extend a0 = s.extend a0 := rfl
@[simp] theorem quiet_past (s : State) (a0 : Nat) (a1 : Nat) : s.quiet.past a0 a1 = s.past a0 a1 := rfl
@[simp] theorem quiet_holdover (s : State) : s.quiet.holdover = s.holdover := rfl
@[simp] theorem quiet_hubRuns (s : State) : s.quiet.hubRuns = s.hubRuns := rfl
@[simp] theorem quiet_evqFill (s : State) : s.quiet.evqFill = s.evqFill := rfl
@[simp] theorem quiet_scheduleStatus (s : State) (a0 : Nat) : s.quiet.scheduleStatus a0 = s.scheduleStatus a0 := rfl
@[simp] theorem quiet_hubPoint (s : State) (a0 : Nat) : s.quiet.hubPoint a0 = s.hubPoint a0 := rfl
@[simp] theorem quiet_ceil (s : State) (a0 : Nat) : s.quiet.ceil a0 = s.ceil a0 := rfl
@[simp] theorem quiet_rimCeil (s : State) (a0 : Nat) : s.quiet.rimCeil a0 = s.rimCeil a0 := rfl
@[simp] theorem quiet_pointInForce (s : State) (a0 : Nat) : s.quiet.pointInForce a0 = s.pointInForce a0 := rfl
@[simp] theorem quiet_hubLevelOf (s : State) (a0 : Nat) : s.quiet.hubLevelOf a0 = s.hubLevelOf a0 := rfl
@[simp] theorem quiet_levelInForce (s : State) (a0 : Nat) : s.quiet.levelInForce a0 = s.levelInForce a0 := rfl
@[simp] theorem quiet_inForceLevel (s : State) (a0 : Nat) : s.quiet.inForceLevel a0 = s.inForceLevel a0 := rfl
@[simp] theorem quiet_hubRequest (s : State) (a0 : Nat) : s.quiet.hubRequest a0 = s.hubRequest a0 := rfl
@[simp] theorem quiet_floorOf (s : State) (a0 : Nat) : s.quiet.floorOf a0 = s.floorOf a0 := rfl
@[simp] theorem quiet_dom (s : State) (a0 : Nat) : s.quiet.dom a0 = s.dom a0 := rfl
@[simp] theorem quiet_dstate (s : State) (a0 : Nat) : s.quiet.dstate a0 = s.dstate a0 := rfl
@[simp] theorem quiet_present (s : State) (a0 : Nat) : s.quiet.present a0 = s.present a0 := rfl
@[simp] theorem quiet_clusters (s : State) : s.quiet.clusters = s.clusters := rfl
@[simp] theorem quiet_sectorClusters (s : State) (a0 : Nat) : s.quiet.sectorClusters a0 = s.sectorClusters a0 := rfl
@[simp] theorem quiet_groupDomains (s : State) (a0 : Nat) : s.quiet.groupDomains a0 = s.groupDomains a0 := rfl
@[simp] theorem quiet_atBoundary (s : State) : s.quiet.atBoundary = s.atBoundary := rfl
@[simp] theorem quiet_onRefusal (s : State) (a0 : Nat) : s.quiet.onRefusal a0 = s.onRefusal a0 := rfl
@[simp] theorem quiet_offRefusal (s : State) (a0 : Nat) : s.quiet.offRefusal a0 = s.offRefusal a0 := rfl
@[simp] theorem quiet_inhibited (s : State) : s.quiet.inhibited = s.inhibited := rfl
@[simp] theorem quiet_seqState (s : State) (a0 : Nat) : s.quiet.seqState a0 = s.seqState a0 := rfl
@[simp] theorem quiet_partOf (s : State) (a0 : Nat) : s.quiet.partOf a0 = s.partOf a0 := rfl
@[simp] theorem quiet_part (s : State) (a0 : Nat) : s.quiet.part a0 = s.part a0 := rfl
@[simp] theorem quiet_classInForce (s : State) (a0 : Nat) : s.quiet.classInForce a0 = s.classInForce a0 := rfl
@[simp] theorem quiet_price (s : State) (a0 : Nat) : s.quiet.price a0 = s.price a0 := rfl
@[simp] theorem quiet_tokensOut (s : State) : s.quiet.tokensOut = s.tokensOut := rfl
@[simp] theorem quiet_tokenExempt (s : State) (a0 : Nat) : s.quiet.tokenExempt a0 = s.tokenExempt a0 := rfl
@[simp] theorem quiet_tokenFree (s : State) (a0 : Nat) : s.quiet.tokenFree a0 = s.tokenFree a0 := rfl
@[simp] theorem quiet_offElapsed (s : State) (a0 : Nat) : s.quiet.offElapsed a0 = s.offElapsed a0 := rfl
@[simp] theorem quiet_wantsSlot (s : State) (a0 : Nat) : s.quiet.wantsSlot a0 = s.wantsSlot a0 := rfl
@[simp] theorem quiet_before (s : State) (a0 : Nat) (a1 : Nat) : s.quiet.before a0 a1 = s.before a0 a1 := rfl
@[simp] theorem quiet_slotFree (s : State) (a0 : Nat) : s.quiet.slotFree a0 = s.slotFree a0 := rfl
@[simp] theorem quiet_spent (s : State) (a0 : Nat) (a1 : Nat) : s.quiet.spent a0 a1 = s.spent a0 a1 := rfl
@[simp] theorem quiet_switchStages (s : State) (a0 : Nat) : s.quiet.switchStages a0 = s.switchStages a0 := rfl
@[simp] theorem quiet_isolated (s : State) (a0 : Nat) : s.quiet.isolated a0 = s.isolated a0 := rfl
@[simp] theorem quiet_quiesced (s : State) (a0 : Nat) : s.quiet.quiesced a0 = s.quiesced a0 := rfl
@[simp] theorem quiet_grp (s : State) (a0 : Nat) : s.quiet.grp a0 = s.grp a0 := rfl
@[simp] theorem quiet_imonCurrent (s : State) (a0 : Nat) (a1 : Nat) : s.quiet.imonCurrent a0 a1 = s.imonCurrent a0 a1 := rfl
@[simp] theorem quiet_sample (s : State) (a0 : Nat) (a1 : Nat) : s.quiet.sample a0 a1 = s.sample a0 a1 := rfl
@[simp] theorem quiet_faultPt (s : State) (a0 : Nat) : s.quiet.faultPt a0 = s.faultPt a0 := rfl
@[simp] theorem quiet_stk (s : State) (a0 : Nat) : s.quiet.stk a0 = s.stk a0 := rfl
@[simp] theorem quiet_coolDone (s : State) : s.quiet.coolDone = s.coolDone := rfl
@[simp] theorem quiet_inWakeSet (s : State) (a0 : Nat) : s.quiet.inWakeSet a0 = s.inWakeSet a0 := rfl
@[simp] theorem quiet_linksOn (s : State) : s.quiet.linksOn = s.linksOn := rfl
@[simp] theorem quiet_entryWave (s : State) (a0 : Nat) : s.quiet.entryWave a0 = s.entryWave a0 := rfl
@[simp] theorem quiet_wakeOrder (s : State) : s.quiet.wakeOrder = s.wakeOrder := rfl
@[simp] theorem quiet_waveLate (s : State) : s.quiet.waveLate = s.waveLate := rfl
@[simp] theorem quiet_lnk (s : State) (a0 : Nat) : s.quiet.lnk a0 = s.lnk a0 := rfl
@[simp] theorem quiet_vgrp (s : State) (a0 : Nat) : s.quiet.vgrp a0 = s.vgrp a0 := rfl
@[simp] theorem quiet_groupLinks (s : State) (a0 : Nat) : s.quiet.groupLinks a0 = s.groupLinks a0 := rfl
@[simp] theorem quiet_confirmed (s : State) (a0 : Nat) : s.quiet.confirmed a0 = s.confirmed a0 := rfl
@[simp] theorem quiet_reference (s : State) (a0 : Nat) : s.quiet.reference a0 = s.reference a0 := rfl
@[simp] theorem quiet_sent (s : State) (a0 : Nat) : s.quiet.sent a0 = s.sent a0 := rfl
@[simp] theorem quiet_sentinelPresent (s : State) (a0 : Nat) : s.quiet.sentinelPresent a0 = s.sentinelPresent a0 := rfl
@[simp] theorem quiet_armed (s : State) (a0 : Nat) : s.quiet.armed a0 = s.armed a0 := rfl
@[simp] theorem quiet_threshold (s : State) (a0 : Nat) : s.quiet.threshold a0 = s.threshold a0 := rfl
@[simp] theorem quiet_trimOf (s : State) (a0 : Nat) (a1 : Nat) : s.quiet.trimOf a0 a1 = s.trimOf a0 a1 := rfl
@[simp] theorem quiet_trips (s : State) (a0 : Nat) (a1 : Nat) (a2 : Nat) : s.quiet.trips a0 a1 a2 = s.trips a0 a1 a2 := rfl
@[simp] theorem quiet_injTrips (s : State) (a0 : Nat) (a1 : Nat) (a2 : Nat) (a3 : Nat) : s.quiet.injTrips a0 a1 a2 a3 = s.injTrips a0 a1 a2 a3 := rfl
@[simp] theorem quiet_braked (s : State) : s.quiet.braked = s.braked := rfl
@[simp] theorem quiet_cellCopies (s : State) (a0 : Nat) : s.quiet.cellCopies a0 = s.cellCopies a0 := rfl
@[simp] theorem quiet_cellDiv (s : State) (a0 : Nat) : s.quiet.cellDiv a0 = s.cellDiv a0 := rfl
@[simp] theorem quiet_fstep (s : State) (a0 : Nat) : s.quiet.fstep a0 = s.fstep a0 := rfl
@[simp] theorem quiet_fstepMax (s : State) (a0 : Nat) : s.quiet.fstepMax a0 = s.fstepMax a0 := rfl
@[simp] theorem quiet_fhold (s : State) (a0 : Nat) : s.quiet.fhold a0 = s.fhold a0 := rfl
@[simp] theorem quiet_stepOnTrip (s : State) (a0 : Nat) : s.quiet.stepOnTrip a0 = s.stepOnTrip a0 := rfl
@[simp] theorem quiet_releaseReady (s : State) : s.quiet.releaseReady = s.releaseReady := rfl
@[simp] theorem quiet_measureSpoilt (s : State) (a0 : Nat) (a1 : Nat) : s.quiet.measureSpoilt a0 a1 = s.measureSpoilt a0 a1 := rfl
@[simp] theorem quiet_cellBoundary (s : State) (a0 : List (Nat × List Nat × Nat)) (a1 : Nat) (a2 : Sent) : s.quiet.cellBoundary a0 a1 a2 = s.cellBoundary a0 a1 a2 := rfl
@[simp] theorem quiet_cellFrame (s : State) (a0 : Nat) (a1 : List Nat) : s.quiet.cellFrame a0 a1 = s.cellFrame a0 a1 := rfl
@[simp] theorem quiet_received (s : State) (a0 : Nat) (a1 : List Nat) (a2 : Option (List Nat)) : s.quiet.received a0 a1 a2 = s.received a0 a1 a2 := rfl
@[simp] theorem quiet_heard (s : State) (a0 : Nat) (a1 : Nat) (a2 : Nat) : s.quiet.heard a0 a1 a2 = s.heard a0 a1 a2 := rfl
@[simp] theorem quiet_up (s : State) (a0 : Nat) : s.quiet.up a0 = s.up a0 := rfl
@[simp] theorem quiet_maySend (s : State) (a0 : Nat) : s.quiet.maySend a0 = s.maySend a0 := rfl
@[simp] theorem quiet_clampCode (s : State) (a0 : Nat) (a1 : Nat) : s.quiet.clampCode a0 a1 = s.clampCode a0 a1 := rfl
@[simp] theorem quiet_lowestDone (s : State) (a0 : Nat) : s.quiet.lowestDone a0 = s.lowestDone a0 := rfl
@[simp] theorem quiet_sscProfile (s : State) (a0 : Nat) : s.quiet.sscProfile a0 = s.sscProfile a0 := rfl
@[simp] theorem quiet_awaits (s : State) (a0 : Nat) (a1 : Bool) : s.quiet.awaits a0 a1 = s.awaits a0 a1 := rfl
@[simp] theorem quiet_sourceSectors (s : State) (a0 : Nat) : s.quiet.sourceSectors a0 = s.sourceSectors a0 := rfl
@[simp] theorem quiet_alertOn (s : State) (a0 : Nat) : s.quiet.alertOn a0 = s.alertOn a0 := rfl
@[simp] theorem quiet_alertGroup (s : State) (a0 : Nat) : s.quiet.alertGroup a0 = s.alertGroup a0 := rfl
@[simp] theorem quiet_groupCurrent (s : State) (a0 : Nat) : s.quiet.groupCurrent a0 = s.groupCurrent a0 := rfl
@[simp] theorem quiet_lane (s : State) (a0 : Nat) : s.quiet.lane a0 = s.lane a0 := rfl
@[simp] theorem quiet_bankOf (s : State) (a0 : Nat) : s.quiet.bankOf a0 = s.bankOf a0 := rfl
@[simp] theorem quiet_bank (s : State) : s.quiet.bank = s.bank := rfl
@[simp] theorem quiet_insAt (s : State) (a0 : Nat) (a1 : Nat) : s.quiet.insAt a0 a1 = s.insAt a0 a1 := rfl
@[simp] theorem quiet_coef (s : State) (a0 : Nat) (a1 : Nat) : s.quiet.coef a0 a1 = s.coef a0 a1 := rfl
@[simp] theorem quiet_bands (s : State) (a0 : Nat) : s.quiet.bands a0 = s.bands a0 := rfl
@[simp] theorem quiet_regionBase (s : State) (a0 : Ins) : s.quiet.regionBase a0 = s.regionBase a0 := rfl
@[simp] theorem quiet_isOpen (s : State) (a0 : Nat) : s.quiet.isOpen a0 = s.isOpen a0 := rfl
@[simp] theorem quiet_heldWord (s : State) (a0 : Nat) : s.quiet.heldWord a0 = s.heldWord a0 := rfl
@[simp] theorem quiet_heldRange (s : State) (a0 : Nat) : s.quiet.heldRange a0 = s.heldRange a0 := rfl
@[simp] theorem quiet_intMapOf (s : State) (a0 : Nat) : s.quiet.intMapOf a0 = s.intMapOf a0 := rfl
@[simp] theorem quiet_integrates (s : State) (a0 : Lane) (a1 : Nat) (a2 : Nat) : s.quiet.integrates a0 a1 a2 = s.integrates a0 a1 a2 := rfl
@[simp] theorem quiet_rampBoundAt (s : State) (a0 : Nat) (a1 : Nat) : s.quiet.rampBoundAt a0 a1 = s.rampBoundAt a0 a1 := rfl
@[simp] theorem quiet_rampBound (s : State) (a0 : Nat) : s.quiet.rampBound a0 = s.rampBound a0 := rfl
@[simp] theorem quiet_rampedAt (s : State) (a0 : Nat) (a1 : Nat) (a2 : Int) : s.quiet.rampedAt a0 a1 a2 = s.rampedAt a0 a1 a2 := rfl
@[simp] theorem quiet_ramped (s : State) (a0 : Nat) (a1 : Int) : s.quiet.ramped a0 a1 = s.ramped a0 a1 := rfl
@[simp] theorem quiet_ownCeiling (s : State) (a0 : Nat) : s.quiet.ownCeiling a0 = s.ownCeiling a0 := rfl
@[simp] theorem quiet_sectorSel (s : State) (a0 : Nat → Int) (a1 : Nat) : s.quiet.sectorSel a0 a1 = s.sectorSel a0 a1 := rfl
@[simp] theorem quiet_levelSel (s : State) (a0 : Nat → Int) (a1 : Nat) : s.quiet.levelSel a0 a1 = s.levelSel a0 a1 := rfl
@[simp] theorem quiet_dot (s : State) (a0 : Nat) (a1 : Lane) (a2 : Nat) (a3 : Nat) (a4 : Nat) : s.quiet.dot a0 a1 a2 a3 a4 = s.dot a0 a1 a2 a3 a4 := rfl
@[simp] theorem quiet_laneExec (s : State) (a0 : Nat) (a1 : Ins) (a2 : Lane) : s.quiet.laneExec a0 a1 a2 = s.laneExec a0 a1 a2 := rfl
@[simp] theorem quiet_word (s : State) (a0 : Nat) : s.quiet.word a0 = s.word a0 := rfl
@[simp] theorem quiet_feMapOf (s : State) (a0 : Nat) : s.quiet.feMapOf a0 = s.feMapOf a0 := rfl
@[simp] theorem quiet_feAbove (s : State) (a0 : Nat) : s.quiet.feAbove a0 = s.feAbove a0 := rfl
@[simp] theorem quiet_traceHit (s : State) (a0 : Nat) (a1 : Int) (a2 : Option Int) (a3 : Nat) (a4 : Bool) (a5 : Bool) : s.quiet.traceHit a0 a1 a2 a3 a4 a5 = s.traceHit a0 a1 a2 a3 a4 a5 := rfl
@[simp] theorem quiet_firstDiff (s : State) : s.quiet.firstDiff = s.firstDiff := rfl
@[simp] theorem quiet_chan (s : State) (a0 : Nat) : s.quiet.chan a0 = s.chan a0 := rfl
@[simp] theorem quiet_chanOn (s : State) (a0 : Nat) : s.quiet.chanOn a0 = s.chanOn a0 := rfl
@[simp] theorem quiet_role (s : State) (a0 : Nat) : s.quiet.role a0 = s.role a0 := rfl
@[simp] theorem quiet_chanSector (s : State) (a0 : Nat) (a1 : Nat) : s.quiet.chanSector a0 a1 = s.chanSector a0 a1 := rfl
@[simp] theorem quiet_infS (s : State) (a0 : Fld) (a1 : Nat) : s.quiet.infS a0 a1 = s.infS a0 a1 := rfl
@[simp] theorem quiet_thresholds (s : State) (a0 : Nat) : s.quiet.thresholds a0 = s.thresholds a0 := rfl
@[simp] theorem quiet_valid (s : State) (a0 : Nat) : s.quiet.valid a0 = s.valid a0 := rfl
@[simp] theorem quiet_mapped (s : State) (a0 : Nat) : s.quiet.mapped a0 = s.mapped a0 := rfl
@[simp] theorem quiet_engineRuns (s : State) : s.quiet.engineRuns = s.engineRuns := rfl
@[simp] theorem quiet_temp (s : State) (a0 : Nat) : s.quiet.temp a0 = s.temp a0 := rfl
@[simp] theorem quiet_fedSectors (s : State) (a0 : Nat) : s.quiet.fedSectors a0 = s.fedSectors a0 := rfl
@[simp] theorem quiet_channelTemp (s : State) (a0 : Nat) : s.quiet.channelTemp a0 = s.channelTemp a0 := rfl
@[simp] theorem quiet_groupTemp (s : State) (a0 : Nat) : s.quiet.groupTemp a0 = s.groupTemp a0 := rfl
@[simp] theorem quiet_converts (s : State) (a0 : Nat) : s.quiet.converts a0 = s.converts a0 := rfl
@[simp] theorem quiet_nextChannel (s : State) (a0 : List Nat) (a1 : Nat) : s.quiet.nextChannel a0 a1 = s.nextChannel a0 a1 := rfl
@[simp] theorem quiet_vrw (s : State) (a0 : Nat) : s.quiet.vrw a0 = s.vrw a0 := rfl
@[simp] theorem quiet_warning (s : State) (a0 : Nat) : s.quiet.warning a0 = s.warning a0 := rfl
@[simp] theorem quiet_vrwCeiling (s : State) (a0 : Nat) : s.quiet.vrwCeiling a0 = s.vrwCeiling a0 := rfl
@[simp] theorem quiet_vrwLevel (s : State) (a0 : Nat) (a1 : Nat) : s.quiet.vrwLevel a0 a1 = s.vrwLevel a0 a1 := rfl
@[simp] theorem quiet_thermalCeiling (s : State) (a0 : Nat) : s.quiet.thermalCeiling a0 = s.thermalCeiling a0 := rfl
@[simp] theorem quiet_clEm (s : State) (a0 : Nat) : s.quiet.clEm a0 = s.clEm a0 := rfl
@[simp] theorem quiet_mant (s : State) (a0 : Nat) : s.quiet.mant a0 = s.mant a0 := rfl
@[simp] theorem quiet_classEnergy (s : State) (a0 : Nat) (a1 : Nat) : s.quiet.classEnergy a0 a1 = s.classEnergy a0 a1 := rfl
@[simp] theorem quiet_clusterSums (s : State) (a0 : List Nat) : s.quiet.clusterSums a0 = s.clusterSums a0 := rfl
@[simp] theorem quiet_coreGroup (s : State) (a0 : Nat) : s.quiet.coreGroup a0 = s.coreGroup a0 := rfl
@[simp] theorem quiet_gain (s : State) (a0 : Nat) : s.quiet.gain a0 = s.gain a0 := rfl
@[simp] theorem quiet_unknownClusters (s : State) : s.quiet.unknownClusters = s.unknownClusters := rfl
@[simp] theorem quiet_fedClusters (s : State) (a0 : Nat) : s.quiet.fedClusters a0 = s.fedClusters a0 := rfl
@[simp] theorem quiet_substitute (s : State) (a0 : Nat) : s.quiet.substitute a0 = s.substitute a0 := rfl
@[simp] theorem quiet_voltageDefined (s : State) (a0 : Nat) : s.quiet.voltageDefined a0 = s.voltageDefined a0 := rfl
@[simp] theorem quiet_scaleDomains (s : State) (a0 : Nat) : s.quiet.scaleDomains a0 = s.scaleDomains a0 := rfl
@[simp] theorem quiet_staticTerm (s : State) (a0 : Nat) : s.quiet.staticTerm a0 = s.staticTerm a0 := rfl
@[simp] theorem quiet_groupEnergy (s : State) (a0 : EmAcc) (a1 : Nat) : s.quiet.groupEnergy a0 a1 = s.groupEnergy a0 a1 := rfl
@[simp] theorem quiet_actCurrent (s : State) (a0 : Nat) (a1 : Nat) : s.quiet.actCurrent a0 a1 = s.actCurrent a0 a1 := rfl
@[simp] theorem quiet_efficiency (s : State) (a0 : Nat) (a1 : Nat) (a2 : Nat) : s.quiet.efficiency a0 a1 a2 = s.efficiency a0 a1 a2 := rfl
@[simp] theorem quiet_rEff (s : State) (a0 : Nat) : s.quiet.rEff a0 = s.rEff a0 := rfl
@[simp] theorem quiet_classInput (s : State) (a0 : Nat) : s.quiet.classInput a0 = s.classInput a0 := rfl
@[simp] theorem quiet_attEntry (s : State) (a0 : Nat) : s.quiet.attEntry a0 = s.attEntry a0 := rfl
@[simp] theorem quiet_fitted (s : State) (a0 : Nat) : s.quiet.fitted a0 = s.fitted a0 := rfl
@[simp] theorem quiet_coefValue (s : State) (a0 : Fld) (a1 : Fld) (a2 : Nat) : s.quiet.coefValue a0 a1 a2 = s.coefValue a0 a1 a2 := rfl
@[simp] theorem quiet_coefStep (s : State) (a0 : List Nat) (a1 : Int) (a2 : Nat) : s.quiet.coefStep a0 a1 a2 = s.coefStep a0 a1 a2 := rfl
@[simp] theorem quiet_mgCl (s : State) (a0 : Nat) : s.quiet.mgCl a0 = s.mgCl a0 := rfl
@[simp] theorem quiet_mgSect (s : State) (a0 : Nat) : s.quiet.mgSect a0 = s.mgSect a0 := rfl
@[simp] theorem quiet_sectorOffset (s : State) (a0 : Nat) : s.quiet.sectorOffset a0 = s.sectorOffset a0 := rfl
@[simp] theorem quiet_vreqWith (s : State) (a0 : MarginImage) (a1 : Nat) (a2 : Nat) : s.quiet.vreqWith a0 a1 a2 = s.vreqWith a0 a1 a2 := rfl
@[simp] theorem quiet_vreq (s : State) (a0 : Nat) (a1 : Nat) : s.quiet.vreq a0 a1 = s.vreq a0 a1 := rfl
@[simp] theorem quiet_supporting (s : State) (a0 : Nat) : s.quiet.supporting a0 = s.supporting a0 := rfl
@[simp] theorem quiet_supportedPoint (s : State) (a0 : Nat) : s.quiet.supportedPoint a0 = s.supportedPoint a0 := rfl
@[simp] theorem quiet_targetOffset (s : State) (a0 : Nat) : s.quiet.targetOffset a0 = s.targetOffset a0 := rfl
@[simp] theorem quiet_hintPre (s : State) (a0 : Nat) : s.quiet.hintPre a0 = s.hintPre a0 := rfl
@[simp] theorem quiet_wantedPoint (s : State) (a0 : Nat) : s.quiet.wantedPoint a0 = s.wantedPoint a0 := rfl
@[simp] theorem quiet_canAsk (s : State) (a0 : Nat) : s.quiet.canAsk a0 = s.canAsk a0 := rfl
@[simp] theorem quiet_wantedCode (s : State) (a0 : Nat) : s.quiet.wantedCode a0 = s.wantedCode a0 := rfl
@[simp] theorem quiet_period (s : State) : s.quiet.period = s.period := rfl
@[simp] theorem quiet_capSetValue (s : State) : s.quiet.capSetValue = s.capSetValue := rfl
@[simp] theorem quiet_capPwmValue (s : State) : s.quiet.capPwmValue = s.capPwmValue := rfl
@[simp] theorem quiet_slewed (s : State) (a0 : Nat) : s.quiet.slewed a0 = s.slewed a0 := rfl
@[simp] theorem quiet_capSources (s : State) : s.quiet.capSources = s.capSources := rfl
@[simp] theorem quiet_partOn (s : State) (a0 : Nat) : s.quiet.partOn a0 = s.partOn a0 := rfl
@[simp] theorem quiet_effectiveFloor (s : State) (a0 : Nat) : s.quiet.effectiveFloor a0 = s.effectiveFloor a0 := rfl
@[simp] theorem quiet_breaching (s : State) (a0 : Nat) : s.quiet.breaching a0 = s.breaching a0 := rfl
@[simp] theorem quiet_breachCause (s : State) (a0 : Nat) : s.quiet.breachCause a0 = s.breachCause a0 := rfl
@[simp] theorem quiet_classOrder (s : State) : s.quiet.classOrder = s.classOrder := rfl
@[simp] theorem quiet_linkMin (s : State) : s.quiet.linkMin = s.linkMin := rfl
@[simp] theorem quiet_priceCompute (s : State) (a0 : BudgetImage) (a1 : Nat → Nat) : s.quiet.priceCompute a0 a1 = s.priceCompute a0 a1 := rfl
@[simp] theorem quiet_budgetImage (s : State) : s.quiet.budgetImage = s.budgetImage := rfl
@[simp] theorem quiet_priceNow (s : State) : s.quiet.priceNow = s.priceNow := rfl
@[simp] theorem quiet_classGroups (s : State) (a0 : Nat) : s.quiet.classGroups a0 = s.classGroups a0 := rfl
@[simp] theorem quiet_alwaysOnPower (s : State) : s.quiet.alwaysOnPower = s.alwaysOnPower := rfl
@[simp] theorem quiet_overSafe (s : State) : s.quiet.overSafe = s.overSafe := rfl
@[simp] theorem quiet_overMeter (s : State) : s.quiet.overMeter = s.overMeter := rfl
@[simp] theorem quiet_dropHold (s : State) : s.quiet.dropHold = s.dropHold := rfl
@[simp] theorem quiet_lowestClass (s : State) : s.quiet.lowestClass = s.lowestClass := rfl
@[simp] theorem quiet_hint (s : State) (a0 : Nat) : s.quiet.hint a0 = s.hint a0 := rfl
@[simp] theorem quiet_hintClusters (s : State) (a0 : Hint) : s.quiet.hintClusters a0 = s.hintClusters a0 := rfl
@[simp] theorem quiet_hinted (s : State) (a0 : Nat) : s.quiet.hinted a0 = s.hinted a0 := rfl
@[simp] theorem quiet_quantum (s : State) (a0 : Nat) (a1 : Nat) : s.quiet.quantum a0 a1 = s.quantum a0 a1 := rfl
@[simp] theorem quiet_predict (s : State) (a0 : Hint) (a1 : Nat) (a2 : Nat) : s.quiet.predict a0 a1 a2 = s.predict a0 a1 a2 := rfl
@[simp] theorem quiet_currentOf (s : State) (a0 : Nat) (a1 : Rat) : s.quiet.currentOf a0 a1 = s.currentOf a0 a1 := rfl
@[simp] theorem quiet_predicted (s : State) (a0 : Hint) (a1 : Nat) (a2 : Nat) : s.quiet.predicted a0 a1 a2 = s.predicted a0 a1 a2 := rfl
@[simp] theorem quiet_preRaise (s : State) (a0 : Nat) (a1 : Rat) : s.quiet.preRaise a0 a1 = s.preRaise a0 a1 := rfl
@[simp] theorem quiet_hintBegun (s : State) (a0 : Hint) : s.quiet.hintBegun a0 = s.hintBegun a0 := rfl
@[simp] theorem quiet_hintRamp (s : State) (a0 : Nat) (a1 : Nat) : s.quiet.hintRamp a0 a1 = s.hintRamp a0 a1 := rfl
@[simp] theorem quiet_waits (s : State) (a0 : Nat) : s.quiet.waits a0 = s.waits a0 := rfl
@[simp] theorem quiet_groupVin (s : State) (a0 : Nat) : s.quiet.groupVin a0 = s.groupVin a0 := rfl
@[simp] theorem quiet_latchWord (s : State) (a0 : List Nat) (a1 : List Nat) (a2 : Nat) : s.quiet.latchWord a0 a1 a2 = s.latchWord a0 a1 a2 := rfl
@[simp] theorem quiet_bandsOf (s : State) (a0 : Nat) : s.quiet.bandsOf a0 = s.bandsOf a0 := rfl
@[simp] theorem quiet_now50 (s : State) (a0 : Nat) : s.quiet.now50 a0 = s.now50 a0 := rfl
@[simp] theorem quiet_die (s : State) : s.quiet.die = s.die := rfl
@[simp] theorem quiet_carrier (s : State) : s.quiet.carrier = s.carrier := rfl
@[simp] theorem quiet_laneEnabled (s : State) (a0 : Nat) : s.quiet.laneEnabled a0 = s.laneEnabled a0 := rfl
@[simp] theorem quiet_laneUp (s : State) (a0 : Nat) : s.quiet.laneUp a0 = s.laneUp a0 := rfl
@[simp] theorem quiet_pace (s : State) (a0 : Nat) : s.quiet.pace a0 = s.pace a0 := rfl
@[simp] theorem quiet_keepOf (s : State) (a0 : Nat) : s.quiet.keepOf a0 = s.keepOf a0 := rfl
@[simp] theorem quiet_seqFree (s : State) (a0 : Nat) : s.quiet.seqFree a0 = s.seqFree a0 := rfl
@[simp] theorem quiet_seqNew (s : State) (a0 : Nat) : s.quiet.seqNew a0 = s.seqNew a0 := rfl
@[simp] theorem quiet_forwards (s : State) (a0 : Nat) : s.quiet.forwards a0 = s.forwards a0 := rfl
@[simp] theorem quiet_carrierOn (s : State) : s.quiet.carrierOn = s.carrierOn := rfl
@[simp] theorem quiet_carRole (s : State) : s.quiet.carRole = s.carRole := rfl
@[simp] theorem quiet_steward (s : State) : s.quiet.steward = s.steward := rfl
@[simp] theorem quiet_reportsOf (s : State) (a0 : Nat) : s.quiet.reportsOf a0 = s.reportsOf a0 := rfl
@[simp] theorem quiet_reportOf (s : State) (a0 : Nat) : s.quiet.reportOf a0 = s.reportOf a0 := rfl
@[simp] theorem quiet_isLive (s : State) (a0 : Nat) : s.quiet.isLive a0 = s.isLive a0 := rfl
@[simp] theorem quiet_liveDies (s : State) : s.quiet.liveDies = s.liveDies := rfl
@[simp] theorem quiet_election (s : State) (a0 : Nat) : s.quiet.election a0 = s.election a0 := rfl
@[simp] theorem quiet_designation (s : State) : s.quiet.designation = s.designation := rfl
@[simp] theorem quiet_ownFlags (s : State) : s.quiet.ownFlags = s.ownFlags := rfl
@[simp] theorem quiet_derive (s : State) (a0 : List Nat) : s.quiet.derive a0 = s.derive a0 := rfl
@[simp] theorem quiet_window (s : State) : s.quiet.window = s.window := rfl
@[simp] theorem quiet_joined (s : State) : s.quiet.joined = s.joined := rfl
@[simp] theorem quiet_onSectors (s : State) : s.quiet.onSectors = s.onSectors := rfl
@[simp] theorem quiet_lowestPoint (s : State) : s.quiet.lowestPoint = s.lowestPoint := rfl
@[simp] theorem quiet_offerTerm (s : State) (a0 : Nat) : s.quiet.offerTerm a0 = s.offerTerm a0 := rfl
@[simp] theorem quiet_persist (s : State) : s.quiet.persist = s.persist := rfl
@[simp] theorem quiet_noFollow (s : State) : s.quiet.noFollow = s.noFollow := rfl
@[simp] theorem quiet_dragTicks (s : State) : s.quiet.dragTicks = s.dragTicks := rfl
@[simp] theorem quiet_computeOffer (s : State) : s.quiet.computeOffer = s.computeOffer := rfl
@[simp] theorem quiet_dragTick (s : State) : s.quiet.dragTick = s.dragTick := rfl
@[simp] theorem quiet_offerOf (s : State) (a0 : Nat) : s.quiet.offerOf a0 = s.offerOf a0 := rfl
@[simp] theorem quiet_liveCarriers (s : State) : s.quiet.liveCarriers = s.liveCarriers := rfl
@[simp] theorem quiet_risesNow (s : State) : s.quiet.risesNow = s.risesNow := rfl
@[simp] theorem quiet_carrierCant (s : State) : s.quiet.carrierCant = s.carrierCant := rfl
@[simp] theorem quiet_isRoot (s : State) : s.quiet.isRoot = s.isRoot := rfl
@[simp] theorem quiet_returnTicks (s : State) : s.quiet.returnTicks = s.returnTicks := rfl
@[simp] theorem quiet_omb (s : State) (a0 : Nat) : s.quiet.omb a0 = s.omb a0 := rfl
@[simp] theorem quiet_ombAddr (s : State) (a0 : Nat) : s.quiet.ombAddr a0 = s.ombAddr a0 := rfl
@[simp] theorem quiet_ageingRecord (s : State) (a0 : Nat) (a1 : Nat) (a2 : Bool) : s.quiet.ageingRecord a0 a1 a2 = s.ageingRecord a0 a1 a2 := rfl
@[simp] theorem quiet_offsetTarget (s : State) (a0 : Nat) : s.quiet.offsetTarget a0 = s.offsetTarget a0 := rfl
@[simp] theorem quiet_suspect (s : State) (a0 : Nat) : s.quiet.suspect a0 = s.suspect a0 := rfl
@[simp] theorem quiet_entryOf (s : State) (a0 : Nat) : s.quiet.entryOf a0 = s.entryOf a0 := rfl
@[simp] theorem quiet_isSlowed (s : State) (a0 : Nat) : s.quiet.isSlowed a0 = s.isSlowed a0 := rfl
@[simp] theorem quiet_resetClocked (s : State) (a0 : Nat) (a1 : Nat) : s.quiet.resetClocked a0 a1 = s.resetClocked a0 a1 := rfl
@[simp] theorem quiet_coreRatio (s : State) (a0 : Nat) (a1 : Nat) : s.quiet.coreRatio a0 a1 = s.coreRatio a0 a1 := rfl
@[simp] theorem quiet_corePeriod (s : State) (a0 : Nat) (a1 : Nat) : s.quiet.corePeriod a0 a1 = s.corePeriod a0 a1 := rfl
@[simp] theorem quiet_isRetiredCore (s : State) (a0 : Nat) : s.quiet.isRetiredCore a0 = s.isRetiredCore a0 := rfl
@[simp] theorem quiet_roomFor (s : State) : s.quiet.roomFor = s.roomFor := rfl
@[simp] theorem quiet_epochDue (s : State) : s.quiet.epochDue = s.epochDue := rfl
@[simp] theorem quiet_sectorOn (s : State) (a0 : Nat) : s.quiet.sectorOn a0 = s.sectorOn a0 := rfl
@[simp] theorem quiet_rises (s : State) (a0 : Nat) : s.quiet.rises a0 = s.rises a0 := rfl
@[simp] theorem quiet_quietWindow (s : State) (a0 : Nat) : s.quiet.quietWindow a0 = s.quietWindow a0 := rfl
@[simp] theorem quiet_normalised (s : State) (a0 : MarginImage) (a1 : Nat) (a2 : Nat) : s.quiet.normalised a0 a1 a2 = s.normalised a0 a1 a2 := rfl
@[simp] theorem quiet_projection (s : State) (a0 : List (Nat × Rat)) (a1 : Nat) : s.quiet.projection a0 a1 = s.projection a0 a1 := rfl
@[simp] theorem quiet_ladder (s : State) : s.quiet.ladder = s.ladder := rfl
@[simp] theorem quiet_outstanding (s : State) (a0 : Nat) : s.quiet.outstanding a0 = s.outstanding a0 := rfl
@[simp] theorem quiet_snapshotWords (s : State) (a0 : Nat) (a1 : Nat) (a2 : Nat) : s.quiet.snapshotWords a0 a1 a2 = s.snapshotWords a0 a1 a2 := rfl
@[simp] theorem quiet_restoreSet (s : State) (a0 : List Nat) : s.quiet.restoreSet a0 = s.restoreSet a0 := rfl
@[simp] theorem quiet_clustersOf (s : State) (a0 : Nat) : s.quiet.clustersOf a0 = s.clustersOf a0 := rfl
@[simp] theorem quiet_onForTick (s : State) (a0 : Nat) : s.quiet.onForTick a0 = s.onForTick a0 := rfl
@[simp] theorem quiet_slot (s : State) (a0 : Nat) : s.quiet.slot a0 = s.slot a0 := rfl
@[simp] theorem quiet_slotState (s : State) (a0 : Nat) : s.quiet.slotState a0 = s.slotState a0 := rfl
@[simp] theorem quiet_slotGen (s : State) (a0 : Nat) : s.quiet.slotGen a0 = s.slotGen a0 := rfl
@[simp] theorem quiet_slotPasses (s : State) (a0 : Nat) : s.quiet.slotPasses a0 = s.slotPasses a0 := rfl
@[simp] theorem quiet_instClass (s : State) (a0 : Nat) : s.quiet.instClass a0 = s.instClass a0 := rfl
@[simp] theorem quiet_mbReplies (s : State) (a0 : Nat) : s.quiet.mbReplies a0 = s.mbReplies a0 := rfl
@[simp] theorem quiet_ringOut (s : State) (a0 : Nat) : s.quiet.ringOut a0 = s.ringOut a0 := rfl
@[simp] theorem quiet_bootWait (s : State) : s.quiet.bootWait = s.bootWait := rfl
@[simp] theorem quiet_handlerTakes (s : State) : s.quiet.handlerTakes = s.handlerTakes := rfl
@[simp] theorem quiet_serves (s : State) (a0 : Nat) (a1 : Nat) : s.quiet.serves a0 a1 = s.serves a0 a1 := rfl
@[simp] theorem quiet_rankOf (s : State) (a0 : Nat) (a1 : Bool) : s.quiet.rankOf a0 a1 = s.rankOf a0 a1 := rfl
@[simp] theorem quiet_takeRank (s : State) (a0 : Nat × Packet) : s.quiet.takeRank a0 = s.takeRank a0 := rfl
@[simp] theorem quiet_leastOf (s : State) (l : List (Nat × Packet)) : s.quiet.leastOf l = s.leastOf l := by
  induction l with
  | nil => rfl
  | cons e t ih => simp only [State.leastOf, ih]; rfl
@[simp] theorem quiet_mbWords (s : State) (a0 : Nat) : s.quiet.mbWords a0 = s.mbWords a0 := rfl
@[simp] theorem quiet_mbReady (s : State) (a0 : Nat) : s.quiet.mbReady a0 = s.mbReady a0 := rfl
@[simp] theorem quiet_ringSize (s : State) (a0 : Nat) : s.quiet.ringSize a0 = s.ringSize a0 := rfl
@[simp] theorem quiet_sqFill (s : State) (a0 : Nat) : s.quiet.sqFill a0 = s.sqFill a0 := rfl
@[simp] theorem quiet_cqFill (s : State) (a0 : Nat) : s.quiet.cqFill a0 = s.cqFill a0 := rfl
@[simp] theorem quiet_cqFree (s : State) (a0 : Nat) : s.quiet.cqFree a0 = s.cqFree a0 := rfl
@[simp] theorem quiet_ringMode (s : State) : s.quiet.ringMode = s.ringMode := rfl
@[simp] theorem quiet_ringReady (s : State) (a0 : Nat) : s.quiet.ringReady a0 = s.ringReady a0 := rfl
@[simp] theorem quiet_noneTaken (s : State) : s.quiet.noneTaken = s.noneTaken := rfl
@[simp] theorem quiet_waitRanks (s : State) : s.quiet.waitRanks = s.waitRanks := rfl
@[simp] theorem quiet_comesFirst (s : State) (a0 : Nat) : s.quiet.comesFirst a0 = s.comesFirst a0 := rfl
@[simp] theorem quiet_nextPacket (s : State) : s.quiet.nextPacket = s.nextPacket := by
  simp [State.nextPacket]
@[simp] theorem quiet_svcQueued (s : State) : s.quiet.svcQueued = s.svcQueued := rfl
@[simp] theorem quiet_svcStatus (s : State) : s.quiet.svcStatus = s.svcStatus := rfl
@[simp] theorem quiet_irqNS (s : State) : s.quiet.irqNS = s.irqNS := rfl
@[simp] theorem quiet_irqS (s : State) : s.quiet.irqS = s.irqS := rfl
@[simp] theorem quiet_irqSVC (s : State) : s.quiet.irqSVC = s.irqSVC := rfl
@[simp] theorem quiet_secured (s : State) (a0 : RegDesc) (a1 : Nat) (a2 : Nat) : s.quiet.secured a0 a1 a2 = s.secured a0 a1 a2 := rfl
@[simp] theorem quiet_accessCause (s : State) (a0 : BusAcc) (a1 : Bool) (a2 : Nat) : s.quiet.accessCause a0 a1 a2 = s.accessCause a0 a1 a2 := rfl
@[simp] theorem quiet_clMask (s : State) (a0 : Nat) (a1 : Nat) : s.quiet.clMask a0 a1 = s.clMask a0 a1 := rfl
@[simp] theorem quiet_liveField (s : State) (a0 : Nat) (a1 : Nat) : s.quiet.liveField a0 a1 = s.liveField a0 a1 := rfl
@[simp] theorem quiet_susField (s : State) (a0 : Nat) : s.quiet.susField a0 = s.susField a0 := rfl
@[simp] theorem quiet_readAs (s : State) (a0 : Fld) (a1 : Nat) (a2 : Nat) : s.quiet.readAs a0 a1 a2 = s.readAs a0 a1 a2 := rfl
@[simp] theorem quiet_fieldRead (s : State) (a0 : Fld) (a1 : Nat) : s.quiet.fieldRead a0 a1 = s.fieldRead a0 a1 := rfl
@[simp] theorem quiet_regValue (s : State) (a0 : RegDesc) (a1 : Nat) (a2 : Bool) : s.quiet.regValue a0 a1 a2 = s.regValue a0 a1 a2 := rfl
@[simp] theorem quiet_sntData (s : State) (a0 : Nat) (a1 : Nat) : s.quiet.sntData a0 a1 = s.sntData a0 a1 := rfl
@[simp] theorem quiet_lockedBy (s : State) (a0 : LockBy) : s.quiet.lockedBy a0 = s.lockedBy a0 := rfl
@[simp] theorem quiet_glCtrlWord (s : State) (a0 : Nat) : s.quiet.glCtrlWord a0 = s.glCtrlWord a0 := rfl
@[simp] theorem quiet_lockRefuses (s : State) (a0 : Packet) : s.quiet.lockRefuses a0 = s.lockRefuses a0 := rfl
@[simp] theorem quiet_precheck (s : State) (a0 : Nat) (a1 : Packet) : s.quiet.precheck a0 a1 = s.precheck a0 a1 := rfl
@[simp] theorem quiet_regWord (s : State) (a0 : Nat) : s.quiet.regWord a0 = s.regWord a0 := rfl
@[simp] theorem quiet_clusterRange (s : State) (a0 : Nat) (a1 : Nat) : s.quiet.clusterRange a0 a1 = s.clusterRange a0 a1 := rfl
@[simp] theorem quiet_hintOf (s : State) (a0 : Packet) : s.quiet.hintOf a0 = s.hintOf a0 := rfl
@[simp] theorem quiet_hintOk (s : State) (a0 : Packet) (a1 : Hint) : s.quiet.hintOk a0 a1 = s.hintOk a0 a1 := rfl
@[simp] theorem quiet_hintEntry (s : State) (a0 : Nat) : s.quiet.hintEntry a0 = s.hintEntry a0 := rfl
@[simp] theorem quiet_targetOf (s : State) (a0 : Packet) : s.quiet.targetOf a0 = s.targetOf a0 := rfl
@[simp] theorem quiet_lockWords (s : State) : s.quiet.lockWords = s.lockWords := rfl
@[simp] theorem quiet_mirrorState (s : State) : s.quiet.mirrorState = s.mirrorState := rfl
@[simp] theorem quiet_mirrorWord5 (s : State) : s.quiet.mirrorWord5 = s.mirrorWord5 := rfl
@[simp] theorem quiet_limitOut (s : State) (a0 : Nat) (a1 : Nat) (a2 : Nat) : s.quiet.limitOut a0 a1 a2 = s.limitOut a0 a1 a2 := rfl
@[simp] theorem quiet_fwOutputs (s : State) : s.quiet.fwOutputs = s.fwOutputs := rfl
@[simp] theorem quiet_signedOk (s : State) (a0 : Nat) (a1 : Nat) (a2 : List Nat) : s.quiet.signedOk a0 a1 a2 = s.signedOk a0 a1 a2 := rfl
@[simp] theorem quiet_inactiveSlot (s : State) : s.quiet.inactiveSlot = s.inactiveSlot := rfl
@[simp] theorem quiet_imageOk (s : State) (a0 : List Nat) : s.quiet.imageOk a0 = s.imageOk a0 := rfl
@[simp] theorem quiet_loadStatus (s : State) (a0 : Nat) (a1 : Option (List Nat)) : s.quiet.loadStatus a0 a1 = s.loadStatus a0 a1 := rfl
@[simp] theorem quiet_waitsForFw (s : State) : s.quiet.waitsForFw = s.waitsForFw := rfl
@[simp] theorem quiet_fwLoadOut (s : State) : s.quiet.fwLoadOut = s.fwLoadOut := rfl
@[simp] theorem quiet_imgRefusal (s : State) (a0 : Nat) (a1 : Nat) (a2 : Nat) : s.quiet.imgRefusal a0 a1 a2 = s.imgRefusal a0 a1 a2 := rfl
@[simp] theorem quiet_tableOk (s : State) (a0 : Nat) (a1 : Nat) (a2 : ImageFile) : s.quiet.tableOk a0 a1 a2 = s.tableOk a0 a1 a2 := rfl
@[simp] theorem quiet_imgLoadOut (s : State) : s.quiet.imgLoadOut = s.imgLoadOut := rfl
@[simp] theorem quiet_logDrained (s : State) : s.quiet.logDrained = s.logDrained := rfl
@[simp] theorem quiet_telemetryWords (s : State) : s.quiet.telemetryWords = s.telemetryWords := rfl
@[simp] theorem quiet_task (s : State) (a0 : Nat) : s.quiet.task a0 = s.task a0 := rfl
@[simp] theorem quiet_deadline (s : State) (a0 : Nat) : s.quiet.deadline a0 = s.deadline a0 := rfl
@[simp] theorem quiet_promoteAt (s : State) (a0 : Nat) : s.quiet.promoteAt a0 = s.promoteAt a0 := rfl
@[simp] theorem quiet_taskPending (s : State) (a0 : Nat) : s.quiet.taskPending a0 = s.taskPending a0 := rfl
@[simp] theorem quiet_periodDue (s : State) (a0 : Nat) (a1 : Nat) : s.quiet.periodDue a0 a1 = s.periodDue a0 a1 := rfl
@[simp] theorem quiet_releasedNow (s : State) (a0 : Nat) : s.quiet.releasedNow a0 = s.releasedNow a0 := rfl
@[simp] theorem quiet_calUnits (s : State) : s.quiet.calUnits = s.calUnits := rfl
@[simp] theorem quiet_calUnit (s : State) : s.quiet.calUnit = s.calUnit := rfl
@[simp] theorem quiet_runEmpty (s : State) (a0 : Nat) : s.quiet.runEmpty a0 = s.runEmpty a0 := rfl
@[simp] theorem quiet_slackOf (s : State) (a0 : Nat) : s.quiet.slackOf a0 = s.slackOf a0 := rfl
@[simp] theorem quiet_earliest (s : State) (a0 : Nat → Bool) : s.quiet.earliest a0 = s.earliest a0 := rfl
@[simp] theorem quiet_promoted (s : State) (a0 : Nat) : s.quiet.promoted a0 = s.promoted a0 := rfl
@[simp] theorem quiet_slackHolds (s : State) (a0 : Nat) : s.quiet.slackHolds a0 = s.slackHolds a0 := rfl
@[simp] theorem quiet_halfWidth (s : State) : s.quiet.halfWidth = s.halfWidth := rfl
@[simp] theorem quiet_inWindow (s : State) (a0 : Nat) : s.quiet.inWindow a0 = s.inWindow a0 := rfl
@[simp] theorem quiet_inRelock (s : State) (a0 : Nat) : s.quiet.inRelock a0 = s.inRelock a0 := rfl
@[simp] theorem quiet_lfsrSeed (s : State) : s.quiet.lfsrSeed = s.lfsrSeed := rfl
@[simp] theorem quiet_provBytes (s : State) : s.quiet.provBytes = s.provBytes := rfl
@[simp] theorem quiet_provBad (s : State) : s.quiet.provBad = s.provBad := rfl

end Sys2Proof.Machine
end

