-- ==== Sys2Proof/Tests/Slice0.lean ====
section
/-! SUPPORT. The author's own tests: ill-formed commands are refused; worked examples of the manual; and for every
obligation with hypotheses a concrete state and operands that meet them, clause by clause. -/

namespace Sys2Proof.Tests

open Sys2Proof.Machine

set_option Elab.async false
set_option maxRecDepth 100000
set_option exponentiation.threshold 400
set_option linter.unusedVariables false
set_option linter.style.whitespace false

/-- A state in which firmware runs and has published. -/
def live : State :=
  (State.reset.setFw (fun f => { f with entered := true, published := true })).wr CAD_STAT.LOCKED 0 1

/-- Register fields written over a state. -/
def made (l : List (Fld × Nat × Nat)) (s : State := live) : State :=
  l.foldl (fun s e => s.wr e.1 e.2.1 e.2.2) s

def later (n : Nat) (s : State := live) : State := { s with tick := n }

def dueEvent (a : EvAct) : QEvent := { target := 5, fire := 5, act := a, due := true }

/-- An event of the queue has fallen due. -/
def withDue (a : EvAct) (s : State := live) : State :=
  s.setCad (fun c => { c with queue := [dueEvent a] })

def pkt (op : Nat) (ps : List Nat) : Packet :=
  { hdr := op * 2 ^ 24 + 3 * 2 ^ 20 + ps.length * 2 ^ 16 + 5 * 16 + 1, params := ps }

/-- One packet of an instance waits for the handler. -/
def queued (n op : Nat) (ps : List Nat) (s : State := live) : State :=
  s.setCmd (fun c => { c with queue := [(n, pkt op ps)], ports := [(n, { seen := true, last := 5, cache := pkt op ps })] })

/-- A frame of the Gleub link with its CRC. -/
def gframe (w : Nat) : Nat := w * 256 + crc8Bits 24 w 0

/-- A message with its CRC word. -/
def msg (ws : List Nat) : List Nat := ws ++ [messageCrc ws]

/-- The words of a packet in the data registers of mailbox 15, GO set. -/
def mailed (h : Nat) (s : State := live) : State :=
  ((s.wr MB_CTL.ACTIVE 15 1).wr MB_CTL.GO 15 1).wr MB_D.DATA 240 h

def mrx (ws : List Nat) : List Nat := meterFrame ws

def meterOn (s : State := live) : State := s.setMtr (fun m => { m with st := 2, serial := 9 })

/-- The engine runs the program of bank 0. -/
def engineAt (i : Nat) (s : State := live) : State :=
  s.setEng (fun e => { e with running := true, bank0 := { e.bank0 with valid := true, progA := [i], progB := [2 ^ 64 - 1 - i] } })

/-- A field in force. -/
def inf (l : List (Fld × Nat × Nat)) (s : State := live) : State :=
  { s with inForce := l.foldl (fun t e => Table.set (e.1.reset e.2.1) t (e.1.key e.2.1) e.2.2) s.inForce }

/-- Clusters may ramp: the configuration is locked and the coolant has flowed. -/
def warm (s : State := live) : State :=
  ({ s.setRim (fun r => { r with flowSeen := true }) with locks := { s.locks with cfg := true } } : State).wr RIM_STAT.PWR_INHIBIT 0 0

/-- Cluster 0 is ON and its sentinel has a reference. -/
def armedCell : State :=
  (made [(GL_STAT.LSTATE, 0, 2), (SWD_STAT.STATE, 0, dON)]).setVgrp 0 (fun v => { v with sent := true, doneAll := true, target := 750 })

/-! A key pair of the tests, with an image of header only that it has signed, of each kind (Table 16.1). -/

def testKey : List Nat :=
  bytesBE 48 0xf99f39b8a956b12db23ac3991079e48255172ce8e80267242a09aed311814e4b9d69bcff35d77f84a75497c1db0ab927 ++
    bytesBE 48 0x54fb4fa01010d3e7b7222cc7d5312e1d92d22be73e40c63ebe6ecb2a50c79c87ee56fa2da4e792fb767c68e3cf57cfda

def signed (magic gen r s : Nat) : List Nat :=
  bytesLE 4 magic ++ bytesLE 4 gen ++ bytesLE 4 256 ++ bytesLE 4 0 ++ testKey ++ bytesBE 48 r ++ bytesBE 48 s ++ List.replicate 48 0

def fwImage : List Nat :=
  signed 0x50474657 3 0x5cf9875b48f76719676044c2cb267d168deef0f7ed9b6052ecb71972e4a9a54d1c3c83e10c82c271754924c9a43388c2
    0xc3b043a8693959ef2d2573fe5e2945ac3d41f0e28405c54054471d4e5e08fa9704a172c2901a376422871839b1055fe5

def tableImage : List Nat :=
  signed 0x50475442 0 0xed63f22143f10cae83d7286efe8f07eb0f5a30bf976cc008ae1d7d649285bd915192cda78a4be9e70676850065ffe067
    0xd249e658e080b55d10661eb875e135d493e322052111329a2169abe83d881e3d6be26d245a08b3521e8cbdc5fd1751e

/-- The key is provisioned. -/
def provisioned (s : State := live) : State :=
  (s.setFw (fun f => { f with
    otpDigest := some 0xa962f5a26006ff4dcbcf3a9426498abae4137deeb65523dd15cf9cfd234bd46a1bdf0ed6e10818eb43634eab54a577fd })).wr
      FW_STAT.KEY_SET 0 1

/-- A firmware load, or an image load of KIND `k`, is outstanding. -/
def loadOut (w : Waiting) : Outstanding :=
  { id := 0, inst := 31, pkt := {}, wait := w }

def fwLoading (n : Nat) : State :=
  provisioned (live.setCmd (fun c => { c with out := [loadOut (.fwLoad 0 0 n)] }))

def imgLoading (k : Nat) : State :=
  provisioned (live.setCmd (fun c => { c with out := [loadOut (.imgLoad k 0 0 0 256)] }))

/-- The meter off, its journal holding a commissioned meter and one checkpoint. -/
def meterOff : State :=
  meterOn.setMtr (fun m => { (((m.initJournal 0).writeCal {}).checkpoint false) with st := 0, writes := [] })

/-- A channel of the estimate that has drifted in 999 checks. -/
def drifting : State :=
  made [(ENG_STAT.STATE, 0, 1), (TH_VAL.VALUE, 24, 1360)] (inf [(TH_CFG.EN, 24, 1)]
    ((live.setTh (fun t => { t with chans := Table.upd {} t.chans 24 (fun c => { c with above := 999 }) })).setEng
      (fun x => { x with bank0 := { x.bank0 with image := { estMap := [(24, 0)] } } })))

/-- Every link of the regulators is up. -/
def linked (s : State := live) : State :=
  (List.range 24).foldl (fun s n => s.wr GL_STAT.LSTATE n 2) s

/-! ### Ill-formed commands are refused: one term for each check of `Instr.wf` -/

theorem test_wf_refuses_1 : ∀ c ∈ ([(Instr.por { bits := 32 }),
    (Instr.por { links := 2 ^ 24 }),
    (Instr.bootFirmwareLoad (some [256])),
    (Instr.otpProgram (.keyDigest (2 ^ 384))),
    (Instr.otpProgram (.bootSrc 4)),
    (Instr.otpProgram (.bootAddr (2 ^ 64))),
    (Instr.otpProgram (.provCrc (2 ^ 32))),
    (Instr.tooth { now := 0, capSet := 1024 }),
    (Instr.synthesisedTick { now := 0, capSet := 1024 }),
    (Instr.relock { now := 0, capSet := 1024 }),
    (Instr.domRelease 10),
    (Instr.domPromote 10),
    (Instr.domOverdue 10),
    (Instr.domSlice 10 {}),
    (Instr.featherTrigger 192 0 0 0),
    (Instr.featherTrigger 0 4 0 0),
    (Instr.tripClear 192 0),
    (Instr.brake { v := ⟨true, true, true⟩, own := [(192, ⟨true, true, true⟩)] }),
    (Instr.featherHoldExpiry 192 0),
    (Instr.featherReturnStep 192 0),
    (Instr.spokeFrame 192 {}),
    (Instr.spokeFrame 0 { act := [2 ^ 32] }),
    (Instr.spokeFrame 0 { err := some [2 ^ 32] }),
    (Instr.spokeFault 192),
    (Instr.subtick { codes := [] } false),
    (Instr.subtick { codes := List.replicate 12 (2 ^ 10) } false),
    (Instr.ceilRise 12),
    (Instr.imonFault 12)] : List Instr), c.wf = false := by decide

theorem test_wf_refuses_2 : ∀ c ∈ ([(Instr.imonValid 12),
    (Instr.rampUpStart 248),
    (Instr.rampUpEnd 248),
    (Instr.settleEnd 248 false),
    (Instr.drainStart 248),
    (Instr.drainEnd 248),
    (Instr.rampDownStart 248),
    (Instr.rampDownEnd 248),
    (Instr.selfRefreshAck 8),
    (Instr.srFault 8),
    (Instr.restEntryWave 24),
    (Instr.restWakeWave 24),
    (Instr.ack 24 0),
    (Instr.ack 0 (2 ^ 32)),
    (Instr.ackTimeout { link := 24 }),
    (Instr.nak 24 0),
    (Instr.nak 0 (2 ^ 32)),
    (Instr.done 24 0),
    (Instr.done 0 (2 ^ 32)),
    (Instr.doneDeadline 24),
    (Instr.telem 24 0 false),
    (Instr.telem 0 (2 ^ 32) false),
    (Instr.warn 24 0),
    (Instr.warn 0 (2 ^ 32)),
    (Instr.trainDone 24 {}),
    (Instr.trainDone 0 []),
    (Instr.queryTimeout 24),
    (Instr.linkSuspect 24),
    (Instr.linkRecover 24),
    (Instr.linkFault 24)] : List Instr), c.wf = false := by decide

theorem test_wf_refuses_3 : ∀ c ∈ ([(Instr.faultRetrain 24),
    (Instr.diodeConversion 25 ⟨0, 0, 0, 0⟩),
    (Instr.thermistorConversion 25 0),
    (Instr.thermalStop 25),
    (Instr.vrwDrop 12),
    (Instr.vrwRemove 12),
    (Instr.idleGate 192),
    (Instr.waitTimeout 248),
    (Instr.backoffRetry 248),
    (Instr.hintExpiry 8),
    (Instr.hintEnd 8),
    (Instr.openTimeout 4),
    (Instr.notFollowing 32),
    (Instr.nfClear 5 0),
    (Instr.nfClear 0 7),
    (Instr.keepSend 4),
    (Instr.paceLinkDown 4),
    (Instr.keep 4 {}),
    (Instr.keep 0 [2 ^ 32]),
    (Instr.report 4 {}),
    (Instr.report 0 [2 ^ 32]),
    (Instr.share 4 {} 0),
    (Instr.share 0 [2 ^ 32] 0),
    (Instr.share 0 {} 1024),
    (Instr.memberLost 64),
    (Instr.offer [2 ^ 32]),
    (Instr.carrierLost 256),
    (Instr.pelPoint [2 ^ 32]),
    (Instr.cpoint 4 {}),
    (Instr.cpoint 0 [2 ^ 32])] : List Instr), c.wf = false := by decide

theorem test_wf_refuses_4 : ∀ c ∈ ([(Instr.psyncReqSend 1024),
    (Instr.psyncReq [2 ^ 32] 0 0),
    (Instr.psyncReq {} 1024 0),
    (Instr.psyncReq {} 0 1024),
    (Instr.psyncRsp [2 ^ 32] 0),
    (Instr.psyncRsp {} 1024),
    (Instr.drag 4 {}),
    (Instr.drag 0 [2 ^ 32]),
    (Instr.abort [2 ^ 32]),
    (Instr.applStep 192),
    (Instr.fencePoll 8 none),
    (Instr.fencePoll 0 (some (2 ^ 32))),
    (Instr.ombPost 8 none false),
    (Instr.ombPost 0 (some (2 ^ 32)) false),
    (Instr.rcHb (2 ^ 32) {}),
    (Instr.rcHb 0 { id := 256 }),
    (Instr.rcHb 0 { strb := 16 }),
    (Instr.fwLoadDone (some [256])),
    (Instr.imgLoadDone (some { bytes := [256], body := .margin {} })),
    (Instr.meterSample { v0 := -1, i0 := 0, v1 := 0, i1 := 0 }),
    (Instr.meterSample { v0 := 0, i0 := 2 ^ 23, v1 := 0, i1 := 0 }),
    (Instr.meterWindow (2 ^ 32)),
    (Instr.publication [2 ^ 32]),
    (Instr.meterPowerUp (2 ^ 32) none),
    (Instr.meterPowerUp 0 (some [(2048, List.replicate 64 0)])),
    (Instr.meterPowerUp 0 (some [(0, [])])),
    (Instr.vmtrLoss (some (24, 0))),
    (Instr.vmtrLoss (some (0, 65))),
    (Instr.submissionEntry 15 none),
    (Instr.submissionEntry 0 (some [2 ^ 32])),
    (Instr.completionEntry 15 false)] : List Instr), c.wf = false := by decide

theorem test_wf_refuses_5 : ∀ c ∈ ([(Instr.mailboxTake 16),
    (Instr.put [2 ^ 8]),
    (Instr.meterIdent (some [2 ^ 8])),
    (Instr.meterRead (some [2 ^ 8])),
    (Instr.meterAccount (some [2 ^ 8])),
    (Instr.meterEvent (some [2 ^ 8])),
    (Instr.calWrite (some [2 ^ 8])),
    (Instr.calCommit (some [2 ^ 8])),
    (Instr.setSerial (some [2 ^ 8])),
    (Instr.setTol (some [2 ^ 8])),
    (Instr.go 16 {}),
    (Instr.go 0 { id := 256 }),
    (Instr.go 0 { strb := 16 }),
    (Instr.fetch 16 {}),
    (Instr.fetch 0 { id := 256 }),
    (Instr.fetch 0 { strb := 16 }),
    (Instr.sqTailWrite 15 0 {}),
    (Instr.sqTailWrite 0 (2 ^ 32) {}),
    (Instr.sqTailWrite 0 0 { id := 256 }),
    (Instr.sqTailWrite 0 0 { strb := 16 }),
    (Instr.cqHeadWrite 15 0 {}),
    (Instr.cqHeadWrite 0 (2 ^ 32) {}),
    (Instr.cqHeadWrite 0 0 { id := 256 }),
    (Instr.cqHeadWrite 0 0 { strb := 16 }),
    (Instr.ringEnable 15 0 {}),
    (Instr.ringEnable 0 (2 ^ 32) {}),
    (Instr.ringEnable 0 0 { id := 256 }),
    (Instr.ringEnable 0 0 { strb := 16 }),
    (Instr.ringDisable 15 0 {}),
    (Instr.ringDisable 0 (2 ^ 32) {})] : List Instr), c.wf = false := by decide

theorem test_wf_refuses_6 : ∀ c ∈ ([(Instr.ringDisable 0 0 { id := 256 }),
    (Instr.ringDisable 0 0 { strb := 16 }),
    (Instr.transportMode (2 ^ 32) {}),
    (Instr.transportMode 0 { id := 256 }),
    (Instr.transportMode 0 { strb := 16 }),
    (Instr.permEffWrite 256 0 {}),
    (Instr.permEffWrite 0 (2 ^ 32) {}),
    (Instr.permEffWrite 0 0 { id := 256 }),
    (Instr.permEffWrite 0 0 { strb := 16 }),
    (Instr.lockCfg { id := 256 }),
    (Instr.lockCfg { strb := 16 }),
    (Instr.lockCfg { also := some (2 ^ 18) }),
    (Instr.lockPerm { id := 256 }),
    (Instr.lockPerm { strb := 16 }),
    (Instr.lockTransport { id := 256 }),
    (Instr.lockTransport { strb := 16 }),
    (Instr.lockFw { id := 256 }),
    (Instr.lockFw { strb := 16 }),
    (Instr.lockDiag { id := 256 }),
    (Instr.lockDiag { strb := 16 }),
    (Instr.peakClr { id := 256 }),
    (Instr.peakClr { strb := 16 }),
    (Instr.sscApply { id := 256 }),
    (Instr.sscApply { strb := 16 }),
    (Instr.retrain { id := 256 }),
    (Instr.retrain { strb := 16 }),
    (Instr.emAttClr (2 ^ 32) {}),
    (Instr.emAttClr 0 { id := 256 }),
    (Instr.emAttClr 0 { strb := 16 }),
    (Instr.arm (2 ^ 32) {}),
    (Instr.arm 0 { id := 256 })] : List Instr), c.wf = false := by decide

theorem test_wf_refuses_7 : ∀ c ∈ ([(Instr.arm 0 { strb := 16 }),
    (Instr.rcClrErr { id := 256 }),
    (Instr.rcClrErr { strb := 16 }),
    (Instr.pwSnap 32 {}),
    (Instr.pwSnap 0 { id := 256 }),
    (Instr.pwSnap 0 { strb := 16 }),
    (Instr.flush (2 ^ 32) {}),
    (Instr.flush 0 { id := 256 }),
    (Instr.flush 0 { strb := 16 }),
    (Instr.take (2 ^ 32) {}),
    (Instr.take 0 { id := 256 }),
    (Instr.take 0 { strb := 16 }),
    (Instr.rearm (2 ^ 32) {}),
    (Instr.rearm 0 { id := 256 }),
    (Instr.rearm 0 { strb := 16 }),
    (Instr.snapLoRead (2 ^ 18) {}),
    (Instr.snapLoRead 0 { id := 256 }),
    (Instr.snapLoRead 0 { strb := 16 }),
    (Instr.snapHiRead (2 ^ 18) {}),
    (Instr.snapHiRead 0 { id := 256 }),
    (Instr.snapHiRead 0 { strb := 16 }),
    (Instr.pairLoWrite (2 ^ 18) 0 {}),
    (Instr.pairLoWrite 0 (2 ^ 32) {}),
    (Instr.pairLoWrite 0 0 { id := 256 }),
    (Instr.pairLoWrite 0 0 { strb := 16 }),
    (Instr.pairHiWrite (2 ^ 18) 0 {}),
    (Instr.pairHiWrite 0 (2 ^ 32) {}),
    (Instr.pairHiWrite 0 0 { id := 256 }),
    (Instr.pairHiWrite 0 0 { strb := 16 }),
    (Instr.registerWrite (2 ^ 18) 0 {})] : List Instr), c.wf = false := by decide

theorem test_wf_refuses_8 : ∀ c ∈ ([(Instr.registerWrite 0 (2 ^ 32) {}),
    (Instr.registerWrite 0 0 { id := 256 }),
    (Instr.registerWrite 0 0 { strb := 16 }),
    (Instr.receiveError 24 0),
    (Instr.receiveError 0 (2 ^ 32)),
    (Instr.messageDiscarded (some 8))] : List Instr), c.wf = false := by decide

theorem test_wf_accepts : ∀ c ∈ ([(Instr.tooth { now := 0 }),
    (Instr.tripClear 0 0),
    (Instr.imonValid 0),
    (Instr.selfRefreshAck 0),
    (Instr.doneDeadline 0),
    (Instr.faultRetrain 0),
    (Instr.backoffRetry 0),
    (Instr.keep 0 {}),
    (Instr.psyncReqSend 0),
    (Instr.rcHb 0 {}),
    (Instr.meterIdent none),
    (Instr.go 0 {}),
    (Instr.lockCfg {}),
    (Instr.emAttClr 0 {}),
    (Instr.snapHiRead 0 {})] : List Instr), c.wf = true := by decide
/-! ### Worked examples of the manual -/

/-- Chapter 4, a SETV frame: bits [31:8] 0x1BB890 give CRC-8 0x50. -/
theorem test_setv_frame_crc : gframe 0x1BB890 = 0x1BB89050 := by decide

/-- R43, R44: with THR = 8 at a sector target of 0.750 V a comparator trips below 0.710 V, and not at it. -/
theorem test_threshold_of_forty_millivolts :
    let s := made [(SWD_STAT.STATE, 0, dON)] (inf [(SNT_CFG.THR, 0, 8), (SNT_CFG.SENSE_EN, 0, 15)]
      (live.setVgrp 0 (fun v => { v with sent := true, target := 1500 })))
    s.trips 0 1 7099 = true ∧ s.trips 0 1 7100 = false := by decide +kernel

/-- Chapter 7: ΔV1 = 44.328 mV and ΔV2 = 47.928 mV with IDEAL 0x4083 read +85.0 °C (1,360) and 50 Ω. -/
theorem test_diode_hot_spot : diodeRaw 44328000 47928000 0x4083 = 1360 ∧ diodeRs 44328000 47928000 = 50 := by
  decide +kernel

/-- Table 13.6: SET_PART with header 0x1131_2A71 is answered 0x1104_2A70, 0x110C_2A70 and, stale, 0x1108_1A00. -/
theorem test_reply_headers :
    replyHdr 0x11312A71 4 0 = 0x11042A70 ∧ replyHdr 0x11312A71 0xC 0 = 0x110C2A70 ∧
      replyHdr 0x11311A01 8 0 = 0x11081A00 := by decide

/-- R18, Table 1.4: 1,004 cycles after the last tooth with P = 1,000 and so W = 30 a tooth lies in the window, 1,618 cycles
after it, 614 after the next, it does not. -/
theorem test_tooth_windows :
    let s := made [(CAD_PERIOD.PERIOD, 0, 256000)]
    s.inWindow 1004 = true ∧ (s.setCad (fun c => { c with exp := 256 * 1004 })).inWindow 1618 = false := by
  decide +kernel

/-- Table 15.3, step 4: agent A reads the high half after B has read the low half, and SNAP_STALE sets. -/
theorem test_snap_stale :
    (match exec (.snapLoRead 0x418 { id := 2 }) (later (2 ^ 33)) with
      | .next t => (match exec (.snapHiRead 0x41C { id := 1 }) t with
        | .next u => decide (u.emit = [.busRead 2 true] ∧ u.rd GSTAT.SNAP_STALE = 1)
        | _ => false)
      | _ => false) = true := by decide +kernel

/-- Chapter 9: 64 dies demanding 1,200 W each, CAP 72,000 W, RESERVE 1,600 W and no over-cap term split at L = 4,400. -/
theorem test_carrier_split :
    (carrierSplit (List.replicate 64 { demand := 4800, minimum := 400, meas := 4405 }) 64 72000 1600).2.1 = 4400 := by
  decide +kernel

/-- POR at any state: TICK 0 and the lock bits clear; END and an idle tick are left to the witnesses below. -/
theorem test_por : (match exec (.por {}) (later 77 { live with locks := { cfg := true } }) with
    | .next t => decide (t.tick = 0 ∧ t.locks = {} ∧ t.rd GSTAT.READY = 0)
    | _ => false) = true := by decide +kernel

/-- R399: the key's signature over an image verifies, and over another image it does not. -/
theorem test_signature : imageSigned tableImage = true ∧ imageSigned (tableImage.set 4 1) = false := by decide +kernel

theorem key_digest : imageKeyDigest tableImage =
    0xa962f5a26006ff4dcbcf3a9426498abae4137deeb65523dd15cf9cfd234bd46a1bdf0ed6e10818eb43634eab54a577fd := by decide +kernel

/-- The outstanding load of KIND `k` ends with the signed image, whose body is of that kind. -/
theorem imageEnds (k : Nat) (b : ImageBody) (ok : Bool) (hk : k < 7 ∧ k ≠ 1) (hb : bodyFits k 0 b = ok) :
    ImageEnds (imgLoading k) (loadOut (.imgLoad k 0 0 0 256)) k 0 0
      { bytes := tableImage, body := b } ok := by
  obtain ⟨hk, h1⟩ := hk
  have hs : (imgLoading k).signedOk 0x50475442 262144 tableImage = true := by
    have h0 : (imgLoading k).on FW_STAT.KEY_SET = true ∧ (imgLoading k).fw.otpDigest =
        some 0xa962f5a26006ff4dcbcf3a9426498abae4137deeb65523dd15cf9cfd234bd46a1bdf0ed6e10818eb43634eab54a577fd := ⟨rfl, rfl⟩
    simp only [State.signedOk, h0.1, h0.2, key_digest, test_signature.1]
    decide +kernel
  refine ⟨rfl, rfl, ?_, ?_⟩
  · interval_cases k <;> first | rfl | exact absurd rfl h1
  · show State.tableOk _ _ _ { bytes := tableImage.take 256, body := b } = ok
    rw [show tableImage.take 256 = tableImage by decide +kernel]
    simp only [State.tableOk, hs, hb, Bool.true_and]

/-! ### The statements about every command -/

theorem witness_StepRunsFrontCommand :
    ∃ (c : Instr) (q : List Instr) (s : State), s.pending = c :: q :=
  ⟨.locked, [], live.withPending [.locked], rfl⟩

theorem witness_QueueServedInOrder :
    (∃ (c : Instr) (q : List Instr) (s : State), s.pending = c :: q) ∧ ∃ s : State, s.pending = [] :=
  ⟨⟨.locked, [.ident], live.withPending [.locked, .ident], rfl⟩, ⟨live, rfl⟩⟩

theorem witness_StepKeepsInvariant : ∃ s t : State, s.Inv ∧ Machine.step s = .next t :=
  ⟨State.reset, State.reset, ⟨.nil, .nil, .nil, by decide, by decide⟩, rfl⟩

theorem witness_TickAdvancesByOne :
    (∃ (x : SelfTest) (s t : State), exec (.por x) s = .next t) ∧
      (∃ (i : TickIn) (s t : State), exec (.tooth i) s = .next t) ∧ ∃ s t : State, exec .locked s = .next t :=
  ⟨⟨{}, live, _, rfl⟩, ⟨{ now := 5 }, State.reset, _, rfl⟩, ⟨live, _, rfl⟩⟩

theorem witness_LockBitsOnlySet : ∃ (c : Instr) (s t : State), exec c s = .next t :=
  ⟨.locked, live, _, rfl⟩

theorem witness_FootprintsHold :
    (∃ (c : Instr) (ps : List Region) (fs : List Fld), footprint c = some (ps, fs)) ∧
      (∃ (c : Instr) (ps : List Region) (fs : List Fld) (s : State), restartFootprint c = some (ps, fs)) ∧
      ∃ (i : TickIn) (c : Instr), c = .tooth i ∨ c = .synthesisedTick i ∨ c = .relock i :=
  ⟨⟨.locked, _, _, rfl⟩, ⟨.wdogExpiry, _, _, live, rfl⟩, ⟨{ now := 5 }, _, .inl rfl⟩⟩

theorem witness_RegisterFootprintsHold :
    (∃ (c : Instr) (ps : List Region) (fs : List Fld), rowFootprint c = some (ps, fs)) ∧
      (∃ c : Instr, SetsLock c) ∧
      (∃ (c : Instr) (off r : Nat) (hi : Bool) (d : RegDesc), WritesWord c off ∧ findReg off = some (d, r, hi) ∧
        (d.off ∉ specialOffs ∨ d.pair = .wpair)) ∧
      (∃ (c : Instr) (off : Nat), WritesWord c off ∧ findReg off = none) ∧
      ∃ (n off v r : Nat) (hi : Bool) (p : Packet) (d : RegDesc) (s : State), s.nextPacket = some (n, p) ∧
        p.params = [off, v] ∧ findReg off = some (d, r, hi) ∧ (d.off ∉ specialOffs ∨ d.pair = .wpair) :=
  ⟨⟨.go 15 {}, _, _, rfl⟩, ⟨.lockDiag {}, trivial⟩,
   ⟨.registerWrite 8200 5 {}, 8200, 0, false, _, ⟨5, {}, .inl rfl⟩, rfl, by decide +kernel⟩,
   ⟨.registerWrite 0x3FFFC 5 {}, 0x3FFFC, ⟨5, {}, .inl rfl⟩, by decide +kernel⟩,
   ⟨31, 8200, 5, 0, false, pkt 0xF2 [8200, 5], _, queued 31 0xF2 [8200, 5], by decide +kernel, rfl, rfl,
    by decide +kernel⟩⟩

/-! ### The hypotheses of every clause are met: one witness theorem for each obligation -/

theorem witness_ProvisioningLocks :
    (∃ (d : Nat) (s : State), s.fw.otpProvLock = false) ∧
    (∃ (f : OtpField) (s : State), s.fw.otpProvLock = true) :=
  ⟨⟨5, State.reset, by decide +kernel⟩,
   ⟨.provLock, ((live).setFw (fun x => { x with otpProvLock := true })), by decide +kernel⟩⟩

theorem witness_BootRomEntersOrWaits :
    (∃ (f : Option (List Nat)) (s : State), s.fw.entered = false ∧ s.fw.bootFail = false ∧ s.rd FW_STAT.NO_FW = 0 ∧ ((f = none ∨ s.fw.otpBootSrc ≠ 0))) ∧
    (∃ (f : List Nat) (s : State), s.fw.entered = false ∧ s.fw.bootFail = false ∧ s.rd FW_STAT.NO_FW = 0 ∧ s.fw.otpBootSrc = 0 ∧ s.imageOk f = true) ∧
    (∃ (f : List Nat) (s : State), s.fw.entered = false ∧ s.fw.bootFail = false ∧ s.rd FW_STAT.NO_FW = 0 ∧ s.fw.otpBootSrc = 0 ∧ s.imageOk f = false) :=
  ⟨⟨none, State.reset, by decide +kernel⟩,
   ⟨fwImage, provisioned State.reset, by decide +kernel⟩,
   ⟨[], State.reset, by decide +kernel⟩⟩

theorem witness_TeethAndSynthesis :
    (∃ (i : TickIn) (s : State), s.rd CAD_STAT.LOCKED ≠ 1) ∧
    (∃ (i : TickIn) (s : State), s.rd CAD_STAT.LOCKED = 1 ∧ s.rd CAD_STAT.RELOCKING ≠ 1 ∧ s.inWindow i.now = true) ∧
    (∃ (i : TickIn) (s : State), s.rd CAD_STAT.LOCKED = 1 ∧ s.rd CAD_STAT.RELOCKING ≠ 1 ∧ s.inWindow i.now = false) ∧
    (∃ (i : TickIn) (s : State), s.rd CAD_STAT.LOCKED = 1 ∧ s.rd CAD_STAT.RELOCKING ≠ 1 ∧ 256 * i.now = s.cad.exp + s.period + s.halfWidth) ∧
    (∃ (i : TickIn) (s : State), s.rd CAD_STAT.RELOCKING = 1 ∧ s.inRelock i.now = true) :=
  ⟨⟨{ now := 0 }, State.reset, by decide +kernel⟩,
   ⟨{ now := 1030 }, (made [(CAD_STAT.LOCKED, 0, 1)] (State.reset)), by decide +kernel⟩,
   ⟨{ now := 1031 }, (made [(CAD_STAT.LOCKED, 0, 1)] (State.reset)), by decide +kernel⟩,
   ⟨{ now := 1030 }, (made [(CAD_STAT.LOCKED, 0, 1)] (State.reset)), by decide +kernel⟩,
   ⟨{ now := 1000 }, (made [(CAD_STAT.RELOCKING, 0, 1), (CAD_STAT.LOCKED, 0, 1), (CAD_PERIOD.PERIOD, 0, 256000)] (((State.reset).setCad (fun x => { x with relRun := 9, relLast := 1000 })))), by decide +kernel⟩⟩

theorem witness_LockAndLoss :
    (∃ (s : State), s.rd CAD_STAT.LOCKED ≠ 1 ∧ 64 ≤ s.cad.teeth) ∧
    (∃ (s : State), s.cad.lostDue = true) :=
  ⟨⟨((State.reset).setCad (fun x => { x with teeth := 64, firstTooth := 10, tooth64 := 63010 })), by decide +kernel⟩,
   ⟨((State.reset).setCad (fun x => { x with lostDue := true })), by decide +kernel⟩⟩

theorem witness_PublishGate :
    (∃ (n : Nat) (s : State) (o : FwOut), s.hubRuns = true ∧ s.rc.rstLow = false ∧ s.cad.fwDone = false ∧ n ≤ 600 ∧ s.eng.staged = some o) ∧
    (∃ (s : State), s.hubRuns = true ∧ s.fw.published = true ∧ s.cad.fwDone = false) :=
  ⟨⟨600, ((live).setEng (fun x => { x with staged := some { lnk8 := 7 } })), { lnk8 := 7 }, by decide +kernel⟩,
   ⟨live, by decide +kernel⟩⟩

theorem witness_DomestiqueRuns :
    (∃ (n : Nat) (s : State), n < 10 ∧ s.holdover = false ∧ s.releasedNow n = true ∧ s.taskPending n = false) ∧
    (∃ (n : Nat) (s : State), n < 10 ∧ s.holdover = false ∧ s.releasedNow n = true ∧ s.taskPending n = true) ∧
    (∃ (n : Nat) (s : State), n < 10 ∧ s.taskPending n = true ∧ s.deadline n - s.deadline n / 4 ≤ s.rd DOM_AGE.AGE n) ∧
    (∃ (n : Nat) (s : State), n < 10 ∧ s.taskPending n = true ∧ s.deadline n ≤ s.rd DOM_AGE.AGE n ∧ ((s.task n).overdue = false)) ∧
    (∃ (x : SliceIn) (s : State), s.hubRuns = true ∧ s.slackHolds 5 = true ∧ s.earliest s.taskPending = some 5 ∧ ((s.task 5).left = 1)) ∧
    (∃ (x : SliceIn) (s : State), s.hubRuns = true ∧ s.slackHolds 9 = true ∧ s.earliest s.taskPending = some 9 ∧ 2 ≤ (s.task 9).left) ∧
    (∃ (n : Nat) (x : SliceIn) (s : State), ((s.slackHolds n = false ∨ s.earliest s.taskPending ≠ some n))) :=
  ⟨⟨0, (later 1000 (live)), by decide +kernel⟩,
   ⟨0, (made [(DOM_STAT.PENDING, 0, 1)] ((later 1000 (live)))), by decide +kernel⟩,
   ⟨9, (made [(DOM_STAT.PENDING, 9, 1), (DOM_AGE.AGE, 9, 750)] (live)), by decide +kernel⟩,
   ⟨9, (made [(DOM_STAT.PENDING, 9, 1), (DOM_AGE.AGE, 9, 1000)] (live)), by decide +kernel⟩,
   ⟨{}, (made [(DOM_STAT.PENDING, 5, 1)] (live.setTask 5 (fun x => { x with left := 1 }))), by decide +kernel⟩,
   ⟨{}, (made [(DOM_STAT.PENDING, 9, 1)] (live.setTask 9 (fun x => { x with left := 2 }))), by decide +kernel⟩,
   ⟨3, {}, live, by decide +kernel⟩⟩

theorem witness_ComparatorTrips :
    (∃ (n k lvl : Nat) (s : State), k < 4 ∧ s.armed n = true ∧ ((s.inf SNT_CFG.SENSE_EN n).testBit k = true) ∧ at0 (s.sent n).trims k = 32) ∧
    (∃ (n k lvl : Nat) (s : State), k < 4 ∧ s.armed n = true ∧ ((s.inf SNT_CFG.SENSE_EN n).testBit k = true)) ∧
    (∃ (n k lvl : Nat) (s : State), ((s.armed n = false ∨ (s.inf SNT_CFG.SENSE_EN n).testBit k = false))) :=
  ⟨⟨0, 3, 7000, armedCell, by decide +kernel⟩,
   ⟨0, 3, 7000, armedCell.setSent 0 (fun x => { x with trims := [32, 32, 32, 63] }), by decide +kernel⟩,
   ⟨0, 3, 7000, live, by decide +kernel⟩⟩

theorem witness_FeatherSteps :
    (∃ (n k lvl cyc : Nat) (s : State), n < 192 ∧ s.trips n k lvl = true ∧ s.injTrips n k lvl cyc = false ∧ ((s.sent n).switched k cyc = false) ∧ ((s.sent n).trip = false) ∧ s.cellDiv n ≠ 3 ∧ ((s.sent n).step = 0)) ∧
    (∃ (n k lvl cyc : Nat) (s : State), n < 192 ∧ s.trips n k lvl = true ∧ s.injTrips n k lvl cyc = false ∧ ((s.sent n).switched k cyc = false) ∧ ((s.sent n).trip = false) ∧ s.cellDiv n = 3) ∧
    (∃ (n k lvl cyc : Nat) (s : State), n < 192 ∧ s.injTrips n k lvl cyc = true) ∧
    (∃ (n cyc : Nat) (s : State), n < 192 ∧ ((s.sent n).trip = true)) ∧
    (∃ (n cyc : Nat) (s : State), n < 192 ∧ ((s.sent n).trip = false) ∧ 0 < (s.sent n).step ∧ ((s.sent n).returning = false) ∧ ((s.sent n).mark + 16 * 2 ^ min (s.inf SNT_CFG.FHOLD n) 8 ≤ cyc)) ∧
    (∃ (n cyc : Nat) (s : State), n < 192 ∧ ((s.sent n).trip = false) ∧ ((s.sent n).returning = true) ∧ ((s.sent n).mark + 16 ≤ cyc)) :=
  ⟨⟨0, 3, 0, 40, armedCell, by decide +kernel⟩,
   ⟨0, 3, 0, 40, made [(SPK_STAT.BRK_DIV, 0, 3)] armedCell, by decide +kernel⟩,
   ⟨0, 3, 0, 40, armedCell.setSent 0 (fun x => { x with inj := some (3, 0) }), by decide +kernel⟩,
   ⟨191, 40, ((live).setSent 191 (fun x => { x with trip := true })), by decide +kernel⟩,
   ⟨191, 100000, ((live).setSent 191 (fun x => { x with step := 1 })), by decide +kernel⟩,
   ⟨191, 16, ((live).setSent 191 (fun x => { x with returning := true, step := 1 })), by decide +kernel⟩⟩

theorem witness_BrakeAndRelease :
    (∃ (v : AlertIn) (s : State), ((v.v.a && v.v.b || v.v.a && v.v.c || v.v.b && v.v.c) = true) ∧ s.rd SPK_STAT.BRK_DIV ≠ 3) ∧
    (∃ (v : AlertIn) (s : State), ((v.v.a && v.v.b || v.v.a && v.v.c || v.v.b && v.v.c) = true) ∧ s.rd SPK_STAT.BRK_DIV = 3) ∧
    (∃ (v : AlertIn) (s : State), ((v.v.a && v.v.b || v.v.a && v.v.c || v.v.b && v.v.c) = false)) ∧
    (∃ (v : AlertIn) (s : State), vote v.v = false ∧ s.spk.voted = true) ∧
    (∃ (v : AlertIn) (s : State), s.spk.voted = false) ∧
    (∃ (s : State), s.releaseReady = true ∧ 2 ≤ s.rd SPK_STAT.BRK_DIV ∧ s.rd SPK_STAT.BRK_DIV < 4) ∧
    (∃ (s : State), s.releaseReady = true ∧ s.rd SPK_STAT.BRK_DIV = 1) ∧
    (∃ (s : State), s.releaseReady = true) ∧
    (∃ (s : State), s.releaseReady = false) ∧
    (∃ (s : State), s.releaseReady = true) ∧
    (∃ (v : AlertIn) (n : Nat) (w : Copies) (s : State), vote v.v = false ∧ n < 192 ∧ ownCopies v n = some w ∧ vote w = true) ∧
    (∃ (n : Nat) (s : State), s.releaseReady = true ∧ n < 192 ∧ (s.sent n).toRelease s.spk.copies = true) :=
  ⟨⟨{ v := ⟨true, true, false⟩ }, live, by decide +kernel⟩,
   ⟨{ v := ⟨false, true, true⟩ }, made [(SPK_STAT.BRK_DIV, 0, 3)], by decide +kernel⟩,
   ⟨{ v := ⟨true, false, false⟩ }, live, by decide +kernel⟩,
   ⟨{ v := ⟨true, false, false⟩ }, live.setSpk (fun x => { x with voted := true }), by decide +kernel⟩,
   ⟨{ v := ⟨false, false, false⟩ }, live, by decide +kernel⟩,
   ⟨(made [(SPK_STAT.BRK_DIV, 0, 3)] ((((later 200000 (live))).setSpk (fun x => { x with quiet := 100000, relAt := 0 })))), by decide +kernel⟩,
   ⟨(made [(SPK_STAT.BRK_DIV, 0, 1)] ((((later 200000 (live))).setSpk (fun x => { x with quiet := 100000, relAt := 0 })))), by decide +kernel⟩,
   ⟨made [(SPK_STAT.BRK_DIV, 0, 3)] ((later 200000).setSpk (fun x => { x with quiet := 100000, relAt := 0 })), by decide +kernel⟩,
   ⟨live, by decide +kernel⟩,
   ⟨made [(SPK_STAT.BRK_DIV, 0, 3)] ((later 200000).setSpk (fun x => { x with quiet := 100000, relAt := 0 })), by decide +kernel⟩,
   ⟨{ v := ⟨true, false, false⟩, own := [(191, ⟨true, true, false⟩)] }, 191, ⟨true, true, false⟩, live, by decide +kernel⟩,
   ⟨191, ((later 200000).setSpk (fun x => { x with quiet := 100000 })).setSent 191 (fun x => { x with brk := 3 }), by decide +kernel⟩⟩

theorem witness_SpokeFrames :
    (∃ (n : Nat) (act ws : List Nat) (err : Option (List Nat)) (s : State), s.sentinelPresent n = true ∧ s.received n act err = some ws ∧ frameOk ws = true) ∧
    (∃ (n : Nat) (act : List Nat) (err : Option (List Nat)) (s : State), s.sentinelPresent n = true ∧ ((∀ ws, s.received n act err = some ws → frameOk ws = false))) ∧
    (∃ (n : Nat) (s : State), n < 192 ∧ 3 ≤ (s.sent n).miss ∧ ((s.sent n).unknown = false)) ∧
    (∃ (n : Nat) (ws : List Nat) (s : State), s.sentinelPresent n = true ∧ s.received n [] (some []) = some ws ∧ frameOk ws = true ∧ bits 15 8 (at0 ws 0) = dON ∧ (s.sent n).seenFrame = true ∧ (s.sent n).unknown = false ∧ (s.sent n).stand = []) :=
  ⟨⟨0, List.replicate 16 7, busErrors (live.cellFrame 0 (List.replicate 16 7)) [], some [], live, by decide +kernel⟩,
   ⟨0, [], none, live, by decide +kernel, fun _ h => nomatch h⟩,
   ⟨191, ((live).setSent 191 (fun x => { x with miss := 3 })), by decide +kernel⟩,
   ⟨0, busErrors ((armedCell.setSent 0 (fun x => { x with seenFrame := true, lat := { x.lat with st := dON } })).cellFrame 0 []) [], armedCell.setSent 0 (fun x => { x with seenFrame := true, lat := { x.lat with st := dON } }), by decide +kernel⟩⟩

theorem witness_SubtickSamples :
    (∃ (codes src : List Nat) (low : Bool) (s : State), s.rim.sub < 10) ∧
    (∃ (codes src : List Nat) (low : Bool) (s : State), 10 ≤ s.rim.sub) :=
  ⟨⟨[], [], false, live, by decide +kernel⟩,
   ⟨[], [], false, live.setRim (fun x => { x with sub := 10 }), by decide +kernel⟩⟩

theorem witness_CeilingsAndInputs :
    (∃ (g : Nat) (s : State), g < 12 ∧ (s.grp g).riseDue = true ∧ s.rd RG_STAT.CEIL g < 255 ∧ s.bit RIM_STAT.OVER g = false ∧ (s.sample g (s.rd RG_STAT.IMON_CODE g)).isSome = true) ∧
    (∃ (g : Nat) (s : State), g < 12 ∧ (s.grp g).valid = true ∧ ((10 ≤ (s.grp g).low ∨ 10 ≤ (s.grp g).high))) ∧
    (∃ (g : Nat) (s : State), g < 12 ∧ (s.grp g).valid = false ∧ 1000 ≤ (s.grp g).good) :=
  ⟨⟨0, (made [(RG_STAT.CEIL, 0, 100)] (live.setGrp 0 (fun x => { x with riseDue := true, valid := true, actValid := true }))), by decide +kernel⟩,
   ⟨11, live.setGrp 11 (fun x => { x with valid := true, low := 10 }), by decide +kernel⟩,
   ⟨11, live.setGrp 11 (fun x => { x with good := 1000 }), by decide +kernel⟩⟩

theorem witness_DomainRampsUp :
    (∃ (e : QEvent) (n : Nat) (id : Option Nat) (s : State), firstDue s.cad.queue = some e ∧ e.act = .domains n 1 true id ∧ s.present n = true ∧ s.onRefusal n = none ∧ s.dstate n = dOFF ∧ s.rd SWD_STAT.PEND n = 0 ∧ (s.dom n).backoff = none) ∧
    (∃ (n : Nat) (s : State), s.atBoundary = true ∧ s.present n = true ∧ s.dstate n = dOFF ∧ s.rd SWD_STAT.PEND n = 1 ∧ s.offElapsed n = true ∧ (s.dom n).bound ≤ s.tick ∧ (s.dom n).backoff = none ∧ (isCluster n && s.inhibited) = false ∧ s.tokenFree n = true ∧ (s.takeToken n).slotFree n = true) ∧
    (∃ (n : Nat) (s : State), s.atBoundary = true ∧ s.present n = true ∧ s.dstate n = dOFF ∧ s.rd SWD_STAT.PEND n = 1 ∧ s.offElapsed n = true ∧ (s.dom n).bound ≤ s.tick ∧ (s.dom n).backoff = none ∧ (isCluster n && s.inhibited) = false ∧ s.tokenFree n = true ∧ (s.takeToken n).slotFree n = false) ∧
    (∃ (n : Nat) (s : State), n < 248 ∧ s.dstate n = dUP ∧ (s.dom n).since + 20 ≤ s.rim.now ∧ n ∉ s.rim.forcing) ∧
    (∃ (n : Nat) (s : State), n < 248 ∧ s.dstate n = dSETTLE ∧ (s.dom n).since + 5 ≤ s.rim.now ∧ n ∉ s.rim.forcing) ∧
    (∃ (n : Nat) (s : State), n < 248 ∧ s.dstate n = dSETTLE ∧ (s.dom n).since + 5 ≤ s.rim.now ∧ n ∉ s.rim.forcing) :=
  ⟨⟨dueEvent (.domains 0 1 true none), 0, none, (withDue (.domains 0 1 true none) (warm)), by decide +kernel⟩,
   ⟨0, (inf [(RG_CFG.SLOTS, 0, 2)] ((made [(SWD_STAT.PEND, 0, 1), (BG_CAP.P_CAP, 0, 100000)] (warm)))), by decide +kernel⟩,
   ⟨0, (inf [(RG_CFG.SLOTS, 0, 0)] ((made [(SWD_STAT.PEND, 0, 1), (BG_CAP.P_CAP, 0, 100000)] (warm)))), by decide +kernel⟩,
   ⟨247, (made [(SWD_STAT.STATE, 247, dUP)] (((live).setRim (fun x => { x with now := 20 })))), by decide +kernel⟩,
   ⟨247, (made [(SWD_STAT.STATE, 247, dSETTLE)] (((live).setRim (fun x => { x with now := 5 })))), by decide +kernel⟩,
   ⟨247, (made [(SWD_STAT.STATE, 247, dSETTLE)] (((live).setRim (fun x => { x with now := 5 })))), by decide +kernel⟩⟩

theorem witness_DomainRampsDown :
    (∃ (n : Nat) (s : State), n < 248 ∧ s.atBoundary = true ∧ s.dstate n = dON ∧ s.rd SWD_STAT.PEND n = 2 ∧ ((s.dom n).bound ≤ s.tick)) ∧
    (∃ (n : Nat) (s : State), n < 248 ∧ s.dstate n = dDRAIN ∧ ((s.dom n).since + 10 ≤ s.rim.now) ∧ n ∉ s.rim.forcing ∧ ((s.dom n).gated = false)) ∧
    (∃ (n : Nat) (s : State), n < 248 ∧ s.dstate n = dDRAIN ∧ ((s.dom n).gated = true) ∧ ((s.dom n).wave = false) ∧ ((s.dom n).since + 10 ≤ s.rim.now) ∧ n ∉ s.rim.forcing ∧ s.slotFree n = true) ∧
    (∃ (n : Nat) (s : State), n < 248 ∧ s.dstate n = dDRAIN ∧ ((s.dom n).gated = true) ∧ ((s.dom n).wave = false) ∧ ((s.dom n).since + 10 ≤ s.rim.now) ∧ n ∉ s.rim.forcing ∧ s.slotFree n = false) ∧
    (∃ (n : Nat) (s : State), n < 248 ∧ s.dstate n = dDOWN ∧ ((s.dom n).since + 20 ≤ s.rim.now) ∧ n ∉ s.rim.forcing) :=
  ⟨⟨247, (made [(SWD_STAT.STATE, 247, dON), (SWD_STAT.PEND, 247, 2)] (live)), by decide +kernel⟩,
   ⟨247, (made [(SWD_STAT.STATE, 247, dDRAIN)] (((((live).setRim (fun x => { x with now := 10 }))).setDom 247 (fun x => { x with gated := false })))), by decide +kernel⟩,
   ⟨0, made [(SWD_STAT.STATE, 0, dDRAIN)] ((live.setRim (fun x => { x with now := 10 })).setDom 0 (fun x => { x with gated := true })), by decide +kernel⟩,
   ⟨0, inf [(RG_CFG.SLOTS, 0, 0)] (made [(SWD_STAT.STATE, 0, dDRAIN)] ((live.setRim (fun x => { x with now := 10 })).setDom 0 (fun x => { x with gated := true }))), by decide +kernel⟩,
   ⟨247, (made [(SWD_STAT.STATE, 247, dDOWN)] (((live).setRim (fun x => { x with now := 20 })))), by decide +kernel⟩⟩

theorem witness_CoolantStop :
    (∃ (s : State), 2 ≤ s.rim.lowRun ∧ s.rd RIM_STAT.COOL_STOP ≠ 1) ∧
    (∃ (j : Nat) (s : State), j < 8 ∧ (s.stk j).asked = true) ∧
    (∃ (j d : Nat) (s : State), j < 8 ∧ (s.stk j).asked = true ∧ (s.stk j).confirmed = false ∧ (s.stk j).deadline = some d ∧ d ≤ s.rim.now) ∧
    (∃ (s : State), 1000000 ≤ s.rd FLOW_GOOD_TICKS.TICKS ∧ s.rd RIM_STAT.FLOW_GOOD_1S ≠ 1) :=
  ⟨⟨((live).setRim (fun x => { x with lowRun := 2 })), by decide +kernel⟩,
   ⟨7, live.setStk 7 (fun x => { x with asked := true }), by decide +kernel⟩,
   ⟨7, 0, live.setStk 7 (fun x => { x with asked := true, deadline := some 0 }), by decide +kernel⟩,
   ⟨(made [(FLOW_GOOD_TICKS.TICKS, 0, 1000000)] (live)), by decide +kernel⟩⟩

theorem witness_RestWaves :
    (∃ (s : State), s.atBoundary = true ∧ s.rim.restHeld = some true ∧ s.rd RIM_STAT.REST_STATE = 0 ∧ s.rim.forcing = [] ∧ ((∀ n ∈ s.clusters, s.dstate n = dON ∨ s.dstate n = dOFF))) ∧
    (∃ (k : Nat) (s : State), s.rd RIM_STAT.REST_STATE = 1 ∧ k = s.rim.nextWave ∧ 1 ≤ k ∧ k ≤ 5 ∧ s.rim.restAt + 2 * k - 1 ≤ s.tick) ∧
    (∃ (s : State), s.rd RIM_STAT.REST_STATE = 1 ∧ s.rim.nextWave = 6 ∧ s.rim.restAt + 12 ≤ s.tick) ∧
    (∃ (s : State), s.atBoundary = true ∧ s.rd RIM_STAT.REST_STATE = 2 ∧ s.rim.restHeld = some false ∧ s.rim.coolRest = false ∧ s.rd CAD_STAT.LAST_SYNTH = 0 ∧ ((∀ n ∈ s.clusters, s.inWakeSet n = true → s.dstate n = dOFF ∧ s.offElapsed n = true))) ∧
    (∃ (s : State), s.atBoundary = true ∧ s.rd RIM_STAT.REST_STATE = 2 ∧ s.rim.restHeld = some false ∧ s.rim.coolRest = false ∧ s.rd CAD_STAT.LAST_SYNTH = 1 ∧ ((∀ n ∈ s.clusters, s.inWakeSet n = true → s.dstate n = dOFF ∧ s.offElapsed n = true))) ∧
    (∃ (k : Nat) (s : State), s.rd RIM_STAT.REST_STATE = 3 ∧ k = s.rim.nextWave ∧ k ≤ 17 ∧ s.rim.restAt + 2 * k + s.rim.shift ≤ s.tick) ∧
    (∃ (s : State), s.rd RIM_STAT.REST_STATE = 3 ∧ 18 ≤ s.rim.nextWave ∧ s.rim.restAt + 40 + s.rim.shift ≤ s.tick) :=
  ⟨⟨((live).setRim (fun x => { x with restHeld := some true })), by decide +kernel⟩,
   ⟨5, (made [(RIM_STAT.REST_STATE, 0, 1)] ((((later 9 (live))).setRim (fun x => { x with nextWave := 5 })))), by decide +kernel⟩,
   ⟨(made [(RIM_STAT.REST_STATE, 0, 1)] ((((later 12 (live))).setRim (fun x => { x with nextWave := 6 })))), by decide +kernel⟩,
   ⟨(made [(RIM_STAT.REST_STATE, 0, 2)] (((live).setRim (fun x => { x with restHeld := some false })))), by decide +kernel⟩,
   ⟨made [(RIM_STAT.REST_STATE, 0, 2), (CAD_STAT.LAST_SYNTH, 0, 1)] (live.setRim (fun x => { x with restHeld := some false })), by decide +kernel⟩,
   ⟨17, (made [(RIM_STAT.REST_STATE, 0, 3)] ((((later 34 (live))).setRim (fun x => { x with nextWave := 17 })))), by decide +kernel⟩,
   ⟨(made [(RIM_STAT.REST_STATE, 0, 3)] ((((later 40 (live))).setRim (fun x => { x with nextWave := 18 })))), by decide +kernel⟩⟩

theorem witness_VoltageAcknowledgements :
    (∃ (n w : Nat) (s : State), n < 24 ∧ s.heard n w 8 = true ∧ bits 27 24 w = 1 ∧ ((s.lnk n).setv.isSome = true) ∧ bits 23 22 w = s.rd GL_STAT.SEQ n ∧ ((s.lnk n).giveBack = false) ∧ (((s.vgrp (s.rd GL_CFG.RG n)).rejected = false ∨ (s.vgrp (s.rd GL_CFG.RG n)).back = true))) ∧
    (∃ (n w : Nat) (s : State), n < 24 ∧ s.heard n w 8 = true ∧ bits 27 24 w = 1 ∧ ((s.lnk n).setv.isSome = true) ∧ bits 23 22 w = s.rd GL_STAT.SEQ n ∧ ((s.lnk n).giveBack = true)) ∧
    (∃ (n : Nat) (a : Await) (s : State), n < 24 ∧ ((s.lnk n).setv = some a) ∧ ((s.lnk n).waits = false) ∧ a.tries < 3 ∧ s.up n = true ∧ ((0 < a.tries ∨ s.holdover = false))) ∧
    (∃ (n f : Nat) (q : List Nat) (s : State), n < 24 ∧ ((s.lnk n).ssc = f :: q) ∧ ((s.lnk n).sscWaits = false) ∧ ((s.lnk n).sscTries < 3) ∧ s.maySend n = true) ∧
    (∃ (n : Nat) (a : Await) (s : State), n < 24 ∧ ((s.lnk n).setv = some a) ∧ ((s.lnk n).waits = false) ∧ 3 ≤ a.tries) ∧
    (∃ (n : Nat) (s : State), n < 24 ∧ ((s.lnk n).ssc ≠ []) ∧ ((s.lnk n).sscWaits = false) ∧ 3 ≤ (s.lnk n).sscTries) ∧
    (∃ (n w : Nat) (a : Await) (s : State), n < 24 ∧ s.heard n w 0xC = true ∧ bits 27 24 w = 1 ∧ bits 21 18 w = 0 ∧ bits 23 22 w = s.rd GL_STAT.SEQ n ∧ ((s.lnk n).setv = some a) ∧ ((s.lnk n).waits = false) ∧ a.tries < 3 ∧ s.up n = true ∧ ((0 < a.tries ∨ s.holdover = false))) ∧
    (∃ (n w : Nat) (s : State), n < 24 ∧ s.heard n w 0xC = true ∧ bits 27 24 w = 1 ∧ bits 21 18 w ≠ 0 ∧ bits 23 22 w = s.rd GL_STAT.SEQ n ∧ ((s.lnk n).setv.isSome = true)) ∧
    (∃ (n w : Nat) (s : State), n < 24 ∧ s.heard n w 9 = true ∧ bits 27 26 w = s.rd GL_STAT.SEQ n) ∧
    (∃ (n : Nat) (s : State), n < 24 ∧ ((s.vgrp (s.rd GL_CFG.RG n)).out = true) ∧ s.rd GL_STAT.OUTSTANDING n = 1 ∧ ((s.lnk n).done = false) ∧ ((s.lnk n).late = false) ∧ ((s.vgrp (s.rd GL_CFG.RG n)).deadline ≤ s.tick)) :=
  ⟨⟨0, (gframe (8 * 2 ^ 20 + 1 * 2 ^ 16)), live.setLnk 0 (fun x => { x with setv := some ⟨5, 1⟩ }), by decide +kernel⟩,
   ⟨0, (gframe (8 * 2 ^ 20 + 1 * 2 ^ 16)), live.setLnk 0 (fun x => { x with setv := some ⟨5, 1⟩, giveBack := true }), by decide +kernel⟩,
   ⟨0, ⟨5, 2⟩, made [(GL_STAT.LSTATE, 0, 2)] (live.setLnk 0 (fun x => { x with setv := some ⟨5, 2⟩ })), by decide +kernel⟩,
   ⟨23, 7, [8], made [(GL_STAT.LSTATE, 23, 2)] (live.setLnk 23 (fun x => { x with ssc := [7, 8] })), by decide +kernel⟩,
   ⟨23, ⟨5, 3⟩, live.setLnk 23 (fun x => { x with setv := some ⟨5, 3⟩ }), by decide +kernel⟩,
   ⟨23, live.setLnk 23 (fun x => { x with ssc := [7], sscTries := 3 }), by decide +kernel⟩,
   ⟨0, (gframe (12 * 2 ^ 20 + 1 * 2 ^ 16)), ⟨5, 1⟩, made [(GL_STAT.LSTATE, 0, 2)] (live.setLnk 0 (fun x => { x with setv := some ⟨5, 1⟩ })), by decide +kernel⟩,
   ⟨0, (gframe (12 * 2 ^ 20 + 1 * 2 ^ 16 + 1 * 2 ^ 10)), live.setLnk 0 (fun x => { x with setv := some ⟨5, 1⟩ }), by decide +kernel⟩,
   ⟨0, (gframe (9 * 2 ^ 20 + 77 * 2 ^ 4)), live, by decide +kernel⟩,
   ⟨23, (made [(GL_STAT.OUTSTANDING, 23, 1)] (((live.setVgrp (live.rd GL_CFG.RG 23) (fun v => { v with out := true })).setLnk 23 (fun x => { x with done := false })))), by decide +kernel⟩⟩

theorem witness_TelemetryAndAlert :
    (∃ (n w : Nat) (late : Bool) (s : State), n < 24 ∧ s.heard n w 0xA = true ∧ bits 27 25 w = 0) ∧
    (∃ (n w : Nat) (late : Bool) (s : State), n < 24 ∧ s.heard n w 0xA = true ∧ bits 27 25 w = 1) ∧
    (∃ (n w : Nat) (late : Bool) (s : State), n < 24 ∧ s.heard n w 0xA = true ∧ bits 27 25 w = 2) ∧
    (∃ (s : State), s.gl.alert.active = true ∧ s.gl.alert.sources = [] ∧ s.gl.alert.unknown = false ∧ s.gl.alert.asked + 10 ≤ s.tick ∧ s.spk.respond = false) ∧
    (∃ (at' : Nat) (s : State), s.gl.alert.released = some at' ∧ s.gl.alert.active = true ∧ at' + 1000 * s.inf GL_CTRL.ALERT_HOLD ≤ s.tick ∧ s.rd SPK_STAT.BRK_DIV ≠ 3) ∧
    (∃ (n w : Nat) (s : State), n < 24 ∧ s.heard n w 0xB = true) ∧
    (∃ (n w : Nat) (s : State), n < 24 ∧ s.rd GL_CFG.PRESENT n = 1 ∧ frameGood w = false) ∧
    (∃ (n w : Nat) (s : State), n < 24 ∧ s.heard n w 0xB = true ∧ bits 27 26 w = 0) :=
  ⟨⟨0, (gframe (10 * 2 ^ 20 + 5)), false, live, by decide +kernel⟩,
   ⟨0, (gframe (10 * 2 ^ 20 + 1 * 2 ^ 17 + 5)), false, live, by decide +kernel⟩,
   ⟨0, (gframe (10 * 2 ^ 20 + 2 * 2 ^ 17 + 5)), false, live, by decide +kernel⟩,
   ⟨(((later 10 (live))).setGl (fun x => { x with alert := { active := true, asked := 0 } })), by decide +kernel⟩,
   ⟨0, (((later 10000000 (live))).setGl (fun x => { x with alert := { active := true, released := some 0 } })), by decide +kernel⟩,
   ⟨0, (gframe (11 * 2 ^ 20 + 1 * 2 ^ 18)), live, by decide +kernel⟩,
   ⟨0, 1, live, by decide +kernel⟩,
   ⟨0, (gframe (11 * 2 ^ 20)), live, by decide +kernel⟩⟩

theorem witness_LinkStates :
    (∃ (n : Nat) (pass : List Bool) (s : State), n < 24 ∧ s.rd GL_STAT.LSTATE n = 1 ∧ ((s.lnk n).training = true) ∧ 4 ≤ (longestRun (pass.take 16) 0 (0, 0) (0, 0)).2) ∧
    (∃ (n : Nat) (pass : List Bool) (s : State), n < 24 ∧ s.rd GL_STAT.LSTATE n = 1 ∧ ((s.lnk n).training = true) ∧ ((longestRun (pass.take 16) 0 (0, 0) (0, 0)).2 < 4)) ∧
    (∃ (n : Nat) (s : State), n < 24 ∧ s.rd GL_STAT.LSTATE n = 1 ∧ ((s.lnk n).query ≠ [])) ∧
    (∃ (n : Nat) (s : State), n < 24 ∧ s.rd GL_STAT.LSTATE n = 2 ∧ 2 ≤ (s.lnk n).bad) ∧
    (∃ (n : Nat) (s : State), n < 24 ∧ s.rd GL_STAT.LSTATE n = 3 ∧ 8 ≤ (s.lnk n).good) ∧
    (∃ (n : Nat) (s : State), n < 24 ∧ s.rd GL_STAT.LSTATE n = 3 ∧ 8 ≤ (s.lnk n).bad) ∧
    (∃ (n : Nat) (s : State), n < 24 ∧ s.rd GL_STAT.LSTATE n = 4 ∧ ((s.lnk n).faultAt + 100000 ≤ s.tick)) :=
  ⟨⟨23, [true, true, true, true], (made [(GL_STAT.LSTATE, 23, 1)] (((live).setLnk 23 (fun x => { x with training := true })))), by decide +kernel⟩,
   ⟨23, [true, true, true], (made [(GL_STAT.LSTATE, 23, 1)] (((live).setLnk 23 (fun x => { x with training := true })))), by decide +kernel⟩,
   ⟨23, (made [(GL_STAT.LSTATE, 23, 1)] (((live).setLnk 23 (fun x => { x with query := [1] })))), by decide +kernel⟩,
   ⟨23, (made [(GL_STAT.LSTATE, 23, 2)] (((live).setLnk 23 (fun x => { x with bad := 2 })))), by decide +kernel⟩,
   ⟨23, made [(GL_STAT.LSTATE, 23, 3)] (live.setLnk 23 (fun x => { x with good := 8 })), by decide +kernel⟩,
   ⟨23, (made [(GL_STAT.LSTATE, 23, 3)] (((live).setLnk 23 (fun x => { x with bad := 8 })))), by decide +kernel⟩,
   ⟨23, (made [(GL_STAT.LSTATE, 23, 4)] ((later 100000 (live)))), by decide +kernel⟩⟩

theorem witness_Conversions :
    (∃ (n : Nat) (d : DiodeIn) (s : State), s.nextChannel diodeOrder s.th.diodeAt = some n ∧ ((s.chan n).calibrated d.vbeHi ≤ 950) ∧ 150 ≤ (s.chan n).calibrated d.vbeLo) ∧
    (∃ (n q r : Nat) (s : State), s.nextChannel thermOrder s.th.thermAt = some n ∧ ((s.chan n).calibrated q = r) ∧ 536 < r ∧ r < 65000) ∧
    (∃ (c : Chan) (v : Int), c.corr = 0 ∧ c.zero = 0) ∧
    (∃ (s : State), s.tick % 1000 = 0 ∧ s.th.checked ≠ some s.tick ∧ s.engineRuns = true) ∧
    (∃ (n : Nat) (s : State), s.tick % 1000 = 0 ∧ s.th.checked ≠ some s.tick ∧ s.engineRuns = true ∧ n < 25 ∧ s.chanOn n = true ∧ s.mapped n = true ∧ s.rd TH_CHSTAT.CALIB n ≠ 1 ∧ (s.chan n).above = 999 ∧ s.rd TH_CHSTAT.DRIFT n ≠ 1 ∧ 4 * s.inf TH_CTRL2.DRIFT_LIM < (s.rdS TH_VAL.VALUE n - s.rdS TH_VAL.EST n).natAbs) :=
  ⟨⟨24, { dv1 := 30000000, dv2 := 40000000, vbeLo := 600, vbeHi := 660 }, inf [(TH_CFG.EN, 24, 1)], by decide +kernel⟩,
   ⟨23, 537, 537, inf [(TH_CFG.EN, 23, 1)], by decide +kernel⟩,
   ⟨{}, 5, by decide +kernel⟩,
   ⟨(made [(ENG_STAT.STATE, 0, 1)] (live)), by decide +kernel⟩,
   ⟨24, drifting, by decide +kernel⟩⟩

theorem witness_ThermalActions :
    (∃ (n : Nat) (s : State), n < 25 ∧ s.chanOn n = true ∧ s.rd TH_CHSTAT.HIGH_STOP n = 1 ∧ s.inf TH_CFG.STOP_ACT n ≠ 0 ∧ ((s.chan n).stopAt + 1000 * s.inf TH_CTRL.STOP_MS ≤ s.tick) ∧ ((s.chan n).stopped = false) ∧ s.holdover = false) ∧
    (∃ (g : Nat) (v : Vrw) (s : State), g < 12 ∧ s.vrw g = some v ∧ v.clr = none ∧ v.next ≤ s.tick) ∧
    (∃ (g at' : Nat) (v : Vrw) (s : State), g < 12 ∧ s.vrw g = some v ∧ v.clr = some at' ∧ at' + 100000 ≤ s.tick) :=
  ⟨⟨24, made [(TH_CHSTAT.HIGH_STOP, 24, 1)] (inf [(TH_CFG.EN, 24, 1), (TH_CFG.STOP_ACT, 24, 1)] (later 10000000)), by decide +kernel⟩,
   ⟨11, {}, live.setTh (fun x => { x with vrw := [(11, some {})] }), by decide +kernel⟩,
   ⟨11, 0, { clr := some 0 }, (later 100000 (live.setTh (fun x => { x with vrw := [(11, some { clr := some 0 })] }))), by decide +kernel⟩⟩

theorem witness_MarginSteps :
    (∃ (e : Nat × Option Bool) (q : Table (Option Bool)) (s : State), s.rd TH_STAT.WR_OK = 1 ∧ s.mg.marks = e :: q ∧ s.mg.otp.length < 2048) ∧
    (∃ (s : State), s.rd TH_STAT.WR_OK ≠ 1) ∧
    (∃ (c : Nat) (s : State), s.rises c = true ∧ s.rd SWD_CFG.RG c < 6 ∧ ((s.mgSect (s.rd SWD_CFG.RG c)).pending = []) ∧ s.canAsk (s.rd SWD_CFG.RG c) = true ∧ s.mg.image.isSome = true ∧ s.sectorOn (s.rd SWD_CFG.RG c) = false) ∧
    (∃ (c : Nat) (s : State), s.rises c = true ∧ s.rd SWD_CFG.RG c < 6 ∧ ((s.mgSect (s.rd SWD_CFG.RG c)).pending = []) ∧ s.canAsk (s.rd SWD_CFG.RG c) = true ∧ s.mg.image.isSome = true ∧ s.sectorOn (s.rd SWD_CFG.RG c) = true ∧ (((s.mgSect (s.rd SWD_CFG.RG c)).stepAt = none ∨ ∃ a, (s.mgSect (s.rd SWD_CFG.RG c)).stepAt = some a ∧ a + 1000000 ≤ s.tick))) :=
  ⟨⟨(1, some false), [], made [(TH_STAT.WR_OK, 0, 1)] (live.setMg (fun x => { x with marks := [(1, some false)] })), by decide +kernel⟩,
   ⟨made [(TH_STAT.WR_OK, 0, 0)], by decide +kernel⟩,
   ⟨0, (made [(MG_CL.AGE, 0, 3)] (((linked).setMg (fun x => { x with image := some {} })))), by decide +kernel⟩,
   ⟨0, (made [(MG_CL.AGE, 0, 3), (SWD_STAT.STATE, 0, dON)] (((linked).setMg (fun x => { x with image := some {} })))), by decide +kernel⟩⟩

theorem witness_PwmInput :
    (∃ (now from' : Nat) (s : State), s.bg.pwmRise = some from' ∧ 10 * s.period ≤ 256 * (now - from') ∧ 256 * (now - from') ≤ 1000 * s.period) ∧
    (∃ (now from' : Nat) (s : State), s.bg.pwmRise = some from') ∧
    (∃ (s : State), s.bg.pwmEdge + 2000 ≤ s.tick) :=
  ⟨⟨10000, 0, ((live).setBg (fun x => { x with pwmRise := some 0 })), by decide +kernel⟩,
   ⟨500, 0, ((live).setBg (fun x => { x with pwmRise := some 0 })), by decide +kernel⟩,
   ⟨(later 2000 (live)), by decide +kernel⟩⟩

theorem witness_BudgetPeriods :
    (∃ (s : State), s.tick % 10 = 0 ∧ s.bg.periodAt ≠ some s.tick ∧ s.holdover = false) ∧
    (∃ (c : Nat) (s : State), s.tick % 10 = 0 ∧ s.bg.periodAt ≠ some s.tick ∧ s.holdover = false ∧ s.inf BG_HARD.P_SAFE < s.rd EM_PDIE.P_1MS ∧ s.lowestClass = some c ∧ s.dropHold = false) ∧
    (∃ (at' c : Nat) (s : State), s.bg.quietAt = some at' ∧ (([1, 2, 3] : List Nat).find? (fun c => !s.classInForce c)) = some c ∧ at' + 1000 * s.inf BG_CTRL.RESTORE_MS ≤ s.tick ∧ s.holdover = false) :=
  ⟨⟨live, by decide +kernel⟩,
   ⟨3, (made [(EM_PDIE.P_1MS, 0, 100000), (BG_STAT.IN_FORCE, 0, 7)] (live)), by decide +kernel⟩,
   ⟨5, 3, (made [(BG_STAT.IN_FORCE, 0, 6)] ((((later 100000000 (live))).setBg (fun x => { x with quietAt := some 5 })))), by decide +kernel⟩⟩

theorem witness_HintLife :
    (∃ (e : QEvent) (k : Nat) (h : Hint) (s : State), firstDue s.cad.queue = some e ∧ e.act = .prestage k ∧ s.hint k = some h) ∧
    (∃ (e : Nat) (h : Hint) (s : State), e < 8 ∧ s.hint e = some h ∧ h.active = true ∧ h.begun = false ∧ h.start + 50 ≤ s.tick ∧ s.holdover = false) ∧
    (∃ (e : Nat) (h : Hint) (s : State), e < 8 ∧ s.hint e = some h ∧ h.start + h.duration ≤ s.tick ∧ s.holdover = false) :=
  ⟨⟨dueEvent (.prestage 7), 7, { id := 1, start := 100, duration := 10 }, ((withDue (.prestage 7)).setHint 7 (some { id := 1, start := 100, duration := 10 })), by decide +kernel⟩,
   ⟨7, { id := 1, start := 100, duration := 10, active := true }, (later 150 (live.setHint 7 (some { id := 1, start := 100, duration := 10, active := true }))), by decide +kernel⟩,
   ⟨7, { id := 1, start := 100, duration := 10, active := true }, (later 110 (live.setHint 7 (some { id := 1, start := 100, duration := 10, active := true }))), by decide +kernel⟩⟩

theorem witness_IdleAndBackoff :
    (∃ (c p : Nat) (s : State), c < 192 ∧ s.present c = true ∧ s.partOf c = some p ∧ (s.part p).gate = true ∧ 0 < s.inf BG_CTRL.IDLE_MS ∧ 1000 * s.inf BG_CTRL.IDLE_MS ≤ Table.get 0 s.bg.idle c ∧ s.dstate c = dON ∧ c ∉ s.rim.forcing ∧ s.rd SWD_STAT.PEND c ≠ 2 ∧ s.holdover = false) ∧
    (∃ (n : Nat) (s : State), s.waits n = true ∧ (s.dom n).backoff = none ∧ (s.dom n).first + s.inf BG_WAIT.TIMEOUT ≤ s.tick ∧ (s.dom n).tries + 1 < s.inf BG_WAIT.RETRIES) ∧
    (∃ (n : Nat) (s : State), s.waits n = true ∧ (s.dom n).backoff = none ∧ (s.dom n).first + s.inf BG_WAIT.TIMEOUT ≤ s.tick ∧ s.inf BG_WAIT.RETRIES ≤ (s.dom n).tries + 1) ∧
    (∃ (n at' : Nat) (s : State), s.waits n = true ∧ (s.dom n).backoff = some at' ∧ at' ≤ s.tick) :=
  ⟨⟨0, 1, (made [(SWD_STAT.STATE, 0, dON)] ((inf [(BG_CTRL.IDLE_MS, 0, 1)] (((live).setBg (fun x => { x with assign := [(0, some 1)], parts := [(1, { gate := true })], idle := [(0, 1000)] })))))), by decide +kernel⟩,
   ⟨0, (made [(SWD_STAT.PEND, 0, 1)] ((later 100000000 (live)))), by decide +kernel⟩,
   ⟨0, (((made [(SWD_STAT.PEND, 0, 1)] ((later 100000000 (live))))).setDom 0 (fun x => { x with tries := 100 })), by decide +kernel⟩,
   ⟨0, 5, (((made [(SWD_STAT.PEND, 0, 1)] ((later 100000000 (live))))).setDom 0 (fun x => { x with backoff := some 5 })), by decide +kernel⟩⟩

theorem witness_AccumulatorInstructions :
    (∃ (i : Ins) (x : EngErr) (s : State), AtInstruction s 0 i) ∧
    (∃ (i : Ins) (x : EngErr) (s : State), AtInstruction s 1 i) ∧
    (∃ (i : Ins) (x : EngErr) (s : State), AtInstruction s 2 i ∧ i.mod = 0 ∧ i.rel = false) ∧
    (∃ (i : Ins) (x : EngErr) (s : State), AtInstruction s 3 i ∧ i.mod = 0 ∧ i.rel = false) ∧
    (∃ (i : Ins) (x : EngErr) (s : State), AtInstruction s 4 i) :=
  ⟨⟨(insOf (0 * 2 ^ 58 + 3 * 2 ^ 24)), {}, (engineAt (0 * 2 ^ 58 + 3 * 2 ^ 24)), by decide +kernel⟩,
   ⟨(insOf (1 * 2 ^ 58 + 3 * 2 ^ 24)), {}, (engineAt (1 * 2 ^ 58 + 3 * 2 ^ 24)), by decide +kernel⟩,
   ⟨(insOf (2 * 2 ^ 58 + 3 * 2 ^ 24)), {}, (engineAt (2 * 2 ^ 58 + 3 * 2 ^ 24)), by decide +kernel⟩,
   ⟨(insOf (3 * 2 ^ 58 + 3 * 2 ^ 24)), {}, (engineAt (3 * 2 ^ 58 + 3 * 2 ^ 24)), by decide +kernel⟩,
   ⟨(insOf (4 * 2 ^ 58 + 3 * 2 ^ 24)), {}, (engineAt (4 * 2 ^ 58 + 3 * 2 ^ 24)), by decide +kernel⟩⟩

theorem witness_DataInstructions :
    (∃ (i : Ins) (x : EngErr) (s : State), AtInstruction s 5 i) ∧
    (∃ (i : Ins) (x : EngErr) (s : State), AtInstruction s 6 i) ∧
    (∃ (i : Ins) (x : EngErr) (s : State), AtInstruction s 7 i ∧ i.rel = false) ∧
    (∃ (i : Ins) (x : EngErr) (s : State), AtInstruction s 8 i ∧ i.rel = false) ∧
    (∃ (i : Ins) (x : EngErr) (s : State), AtInstruction s 9 i) ∧
    (∃ (i : Ins) (x : EngErr) (s : State), AtInstruction s 0xA i ∧ i.mod = 0) ∧
    (∃ (i : Ins) (x : EngErr) (s : State), AtInstruction s 0xB i) :=
  ⟨⟨(insOf (5 * 2 ^ 58 + 3 * 2 ^ 24)), {}, (engineAt (5 * 2 ^ 58 + 3 * 2 ^ 24)), by decide +kernel⟩,
   ⟨(insOf (6 * 2 ^ 58 + 3 * 2 ^ 24)), {}, (engineAt (6 * 2 ^ 58 + 3 * 2 ^ 24)), by decide +kernel⟩,
   ⟨(insOf (7 * 2 ^ 58 + 3 * 2 ^ 24)), {}, (engineAt (7 * 2 ^ 58 + 3 * 2 ^ 24)), by decide +kernel⟩,
   ⟨(insOf (8 * 2 ^ 58 + 3 * 2 ^ 24)), {}, (engineAt (8 * 2 ^ 58 + 3 * 2 ^ 24)), by decide +kernel⟩,
   ⟨(insOf (9 * 2 ^ 58 + 3 * 2 ^ 24)), {}, (engineAt (9 * 2 ^ 58 + 3 * 2 ^ 24)), by decide +kernel⟩,
   ⟨(insOf (10 * 2 ^ 58 + 3 * 2 ^ 24)), {}, (engineAt (10 * 2 ^ 58 + 3 * 2 ^ 24)), by decide +kernel⟩,
   ⟨(insOf (11 * 2 ^ 58 + 3 * 2 ^ 24)), {}, (engineAt (11 * 2 ^ 58 + 3 * 2 ^ 24)), by decide +kernel⟩⟩

theorem witness_UnitsKeptApart :
    ∃ (c : Instr) (n m : Nat) (fs : List Fld) (s : State), unitFields c = some (n, m, fs) :=
  ⟨.permEffWrite 255 31 {}, 255, 256, [PERM.EFF], live, rfl⟩

theorem witness_EngineEvents :
    (∃ (i : Ins) (x : EngErr) (s : State), AtInstruction s 0x3F i ∧ ((s.insAt 1 s.eng.pc).op = 0x3F) ∧ s.eng.laneA.cycles + 4 + x.stallA ≤ 700 ∧ s.eng.laneB.cycles + 4 + x.stallB ≤ 700 ∧ s.eng.ue = none ∧ x.ueA = none ∧ x.ueB = none ∧ s.firstDiff = none ∧ s.eng.laneA.sig = s.eng.laneB.sig) ∧
    (∃ (i : Ins) (x : EngErr) (a : Nat) (s : State), AtInstruction s 0x3F i ∧ ((s.insAt 1 s.eng.pc).op = 0x3F) ∧ s.eng.laneA.cycles + 4 + x.stallA ≤ 700 ∧ s.eng.laneB.cycles + 4 + x.stallB ≤ 700 ∧ s.eng.ue = none ∧ x.ueA = none ∧ x.ueB = none ∧ s.firstDiff = some a) ∧
    (∃ (s : State), s.eng.running = true ∧ s.eng.laneA.ended = false ∧ s.eng.laneB.ended = false ∧ s.eng.ue = none) ∧
    (∃ (l a : Nat) (s : State), s.eng.running = true ∧ s.eng.laneA.ended = false ∧ s.eng.laneB.ended = false ∧ s.eng.ue = some (l, a)) ∧
    (∃ (e : QEvent) (im : ModelImage) (s : State), firstDue s.cad.queue = some e ∧ e.act = .model ∧ s.em.next = some im) ∧
    (∃ (e : QEvent) (s : State), firstDue s.cad.queue = some e ∧ e.act = .bank ∧ ((s.bankOf (1 - s.rd ENG_STAT.BANK)).valid = true)) ∧
    (∃ (e : QEvent) (n r : Nat) (s : State), firstDue s.cad.queue = some e ∧ e.act = .region n r ∧ n < 4 ∧ Table.get false s.eng.regionPend n = true) ∧
    (∃ (e : QEvent) (src node : Nat) (s : State), firstDue s.cad.queue = some e ∧ e.act = .dump src node ∧ s.rd ENG_STAT.STATE = 1) ∧
    (∃ (e : QEvent) (src node : Nat) (s : State), firstDue s.cad.queue = some e ∧ e.act = .dump src node ∧ s.rd ENG_STAT.STATE ≠ 1) :=
  ⟨⟨(insOf (0x3F * 2 ^ 58)), {}, (engineAt (63 * 2 ^ 58 + 0)), by decide +kernel⟩,
   ⟨(insOf (0x3F * 2 ^ 58)), {}, 0xF00, (((engineAt (63 * 2 ^ 58 + 0))).setEng (fun x => { x with laneA := { data := [(0xF00, 5)] } })), by decide +kernel⟩,
   ⟨live.setEng (fun x => { x with running := true }), by decide +kernel⟩,
   ⟨1, 9, live.setEng (fun x => { x with running := true, ue := some (1, 9) }), by decide +kernel⟩,
   ⟨dueEvent .model, {}, ((withDue .model).setEm (fun x => { x with next := some {} })), by decide +kernel⟩,
   ⟨dueEvent .bank, ((withDue .bank).setEng (fun x => { x with bank1 := { valid := true } })), by decide +kernel⟩,
   ⟨dueEvent (.region 3 5), 3, 5, ((withDue (.region 3 5)).setEng (fun x => { x with regionPend := [(3, true)] })), by decide +kernel⟩,
   ⟨dueEvent (.dump 1 4), 1, 4, (made [(ENG_STAT.STATE, 0, 1)] (withDue (.dump 1 4))), by decide +kernel⟩,
   ⟨dueEvent (.dump 1 4), 1, 4, withDue (.dump 1 4), by decide +kernel⟩⟩

theorem witness_LoopSupervision :
    (∃ (n : Nat) (s : State), n < 4 ∧ s.isOpen n = true ∧ Table.get 0 s.eng.openAt n + 1000 * s.inf ENG_SET.OPEN_MAX n ≤ s.tick) ∧
    (∃ (k l u : Nat) (s : State), k < 32 ∧ l < 5 ∧ s.feMapOf k = some (l, u) ∧ s.inf ENG_FE.FE_TIME l ≤ Table.get 0 s.eng.feRun k ∧ Table.get 0 s.eng.feRun k < 0x10000) ∧
    (∃ (l u : Nat) (s : State), l < 5 ∧ u < 7 ∧ Table.get false s.eng.nf (7 * l + u) = true ∧ 1000 ≤ Table.get 0 s.eng.feClean (7 * l + u)) :=
  ⟨⟨3, (made [(ENG_STAT.OPEN, 0, 8)] ((later 1000000000 (live)))), by decide +kernel⟩,
   ⟨31, 4, 6, ((live).setEng (fun x => { x with bank0 := { x.bank0 with image := { feMap := List.replicate 31 none ++ [some (4, none)] } }, feRun := [(31, 5000)] })), by decide +kernel⟩,
   ⟨4, 6, ((live).setEng (fun x => { x with nf := [(34, true)], feClean := [(34, 1000)] })), by decide +kernel⟩⟩

theorem witness_PaceLinks :
    (∃ (l : Nat) (s : State), s.laneEnabled l = true ∧ ((s.pace l).sent + 10 ≤ s.tick) ∧ s.holdover = false) ∧
    (∃ (l : Nat) (s : State), l < 4 ∧ s.bit CAR_STAT.LINK_UP (3 - l) = true ∧ ((s.pace l).heard.getD 0 + 30 ≤ s.tick)) ∧
    (∃ (l : Nat) (s : State), s.tick < (s.pace l).heard.getD 0 + 30) ∧
    (∃ (l : Nat) (ws : List Nat) (s : State), s.laneEnabled l = true ∧ shaped mKEEP ws = true ∧ messageOk ws = true) ∧
    (∃ (l : Nat) (ws : List Nat) (s : State), s.laneEnabled l = true ∧ ((shaped mKEEP ws = false ∨ messageOk ws = false))) ∧
    (∃ (l : Nat) (s : State), s.laneEnabled l = true) :=
  ⟨⟨3, (later 10 ((inf [(CAR_CFG.LINK_EN, 0, 15), (CAR_CFG.EN, 0, 1)] (live)))), by decide +kernel⟩,
   ⟨3, later 30 (made [(CAR_STAT.LINK_UP, 0, 1)]), by decide +kernel⟩,
   ⟨3, live, by decide +kernel⟩,
   ⟨3, (msg [mkHeader 0 3 1 0 0]), (inf [(CAR_CFG.LINK_EN, 0, 15), (CAR_CFG.EN, 0, 1)] (live)), by decide +kernel⟩,
   ⟨3, [], (inf [(CAR_CFG.LINK_EN, 0, 15), (CAR_CFG.EN, 0, 1)] live), by decide +kernel⟩,
   ⟨3, (inf [(CAR_CFG.LINK_EN, 0, 15), (CAR_CFG.EN, 0, 1)] (live)), by decide +kernel⟩⟩

theorem witness_ReportsAndLiveSet :
    (∃ (l : Nat) (ws : List Nat) (s : State), PaceGood s l mREPORT ws) ∧
    (∃ (l : Nat) (ws : List Nat) (s : State), PaceGood s l mREPORT ws ∧ s.forwards (at0 ws 0) = true) ∧
    (∃ (l : Nat) (ws : List Nat) (s : State), s.laneEnabled l = true ∧ shaped mREPORT ws = true ∧ messageOk ws = true ∧ s.seqNew (at0 ws 0) = false) ∧
    (∃ (s : State), s.tick % 100 = 0 ∧ s.carrierOn = true ∧ s.holdover = false ∧ s.car.reportAt ≠ some s.tick) ∧
    (∃ (d : Nat) (s : State), d < 64 ∧ d ≠ s.die ∧ s.bit CAR_LIVE.LIVE d = true ∧ ((∀ r, s.reportOf d = some r → r.tick + 300 ≤ s.tick))) :=
  ⟨⟨3, (msg [mkHeader 1 3 5 0 9, 0, 7 * 2 ^ 16 + 3, 0, 0]), (inf [(CAR_CFG.LINK_EN, 0, 15), (CAR_CFG.EN, 0, 1)] (live)), by decide +kernel⟩,
   ⟨3, (msg [mkHeader 1 3 5 0 9, 0, 7 * 2 ^ 16 + 3, 0, 0]), (inf [(CAR_CFG.LINK_EN, 0, 15), (CAR_CFG.EN, 0, 1)] live), by decide +kernel⟩,
   ⟨3, (msg [mkHeader 1 3 5 0 9, 0, 7 * 2 ^ 16 + 3, 0, 0]), (inf [(CAR_CFG.LINK_EN, 0, 15), (CAR_CFG.EN, 0, 1)] live).setCar (fun c => { c with keeps := Table.upd {} c.keeps (seqKey (mkHeader 1 3 5 0 9)) (fun k => { k with acted := some 9 }) }), by decide +kernel⟩,
   ⟨(made [(CAR_STAT.LINK_UP, 0, 15)] ((inf [(CAR_CFG.LINK_EN, 0, 15), (CAR_CFG.EN, 0, 1)] (live)))), by decide +kernel⟩,
   ⟨63, (later 300 ((made [(CAR_LIVE.LIVE, 0, 2 ^ 63)] ((inf [(CAR_CFG.LINK_EN, 0, 15), (CAR_CFG.EN, 0, 1)] (live)))))), by decide +kernel⟩⟩

theorem witness_Stewardship :
    (∃ (s : State), s.tick % 10 = 0 ∧ s.carrierOn = true ∧ s.holdover = false ∧ s.car.periodAt ≠ some s.tick ∧ s.steward = true ∧ ((splitOf s).2.1 < 2 ^ 30) ∧ ((splitOf s).2.2.1 < 2 ^ 32)) ∧
    (∃ (s : State), s.tick % 10 = 0 ∧ s.carrierOn = true ∧ s.holdover = false ∧ s.car.periodAt ≠ some s.tick ∧ s.steward = false ∧ s.rd CAR_STAT.LEASE_VALID ≠ 1) ∧
    (∃ (l : Nat) (ws : List Nat) (frac : Nat) (s : State), PaceGood s l mSHARE ws) ∧
    (∃ (l : Nat) (ws : List Nat) (frac v : Nat) (s : State), PaceGood s l mSHARE ws ∧ s.derive ws = some v ∧ s.window = []) ∧
    (∃ (s : State), s.rd CAR_STAT.SHARE_VALID = 1 ∧ s.car.usableAt + 10 * max 4 (s.inf CAR_CTRL.SHARE_TMO) ≤ s.tick) ∧
    (∃ (s : State), s.rd CAR_STAT.ROLE = 1 ∧ s.car.shadowHeard + 30 ≤ s.tick ∧ s.rd CAR_LEASE.TAKEOVER ≠ 1 ∧ s.holdover = false) ∧
    (∃ (e : Nat) (s : State), s.car.leaseEnd = some e ∧ e ≤ s.tick) :=
  ⟨⟨made [(CAR_STAT.LINK_UP, 0, 15), (CAR_CAP.CAP, 0, 1000)] (made [(CAR_STAT.ROLE, 0, 2)] (inf [(CAR_CFG.LINK_EN, 0, 15), (CAR_CFG.EN, 0, 1)] live)), by decide +kernel⟩,
   ⟨(inf [(CAR_CFG.LINK_EN, 0, 15), (CAR_CFG.EN, 0, 1)] live), by decide +kernel⟩,
   ⟨3, (msg ([mkHeader 2 3 5 0 9] ++ List.replicate 10 0)), 0, (inf [(CAR_CFG.LINK_EN, 0, 15), (CAR_CFG.EN, 0, 1)] (live)), by decide +kernel⟩,
   ⟨3, (msg [mkHeader 2 3 5 0 9, 0, 0, 0, 100, 1, 0, 1, 0, 0, 0]), 0, ((((inf [(CAR_CFG.LINK_EN, 0, 15), (CAR_CFG.EN, 0, 1)] live).setCar (fun c => { c with reports := [(0, [{ seq := 1, demand := 9 }])] })).derive (msg [mkHeader 2 3 5 0 9, 0, 0, 0, 100, 1, 0, 1, 0, 0, 0])).getD 0), (inf [(CAR_CFG.LINK_EN, 0, 15), (CAR_CFG.EN, 0, 1)] live).setCar (fun c => { c with reports := [(0, [{ seq := 1, demand := 9 }])] }), by decide +kernel⟩,
   ⟨(made [(CAR_STAT.SHARE_VALID, 0, 1)] ((later 10000 (live)))), by decide +kernel⟩,
   ⟨(made [(CAR_STAT.ROLE, 0, 1)] ((later 30 (live)))), by decide +kernel⟩,
   ⟨5, (((later 5 (live))).setCar (fun x => { x with leaseEnd := some 5 })), by decide +kernel⟩⟩

theorem witness_OffersAndPoints :
    (∃ (s : State), s.tick % 100 = 0 ∧ s.steward = true ∧ s.joined = true ∧ s.holdover = false ∧ s.pel.offerSent ≠ some s.tick) ∧
    (∃ (ws : List Nat) (s : State), SidebandGood s mOFFER ws ∧ s.joined = true ∧ bits 31 16 (at0 ws 1) = s.rd PEL_CTRL.PEL_ID) ∧
    (∃ (ws : List Nat) (s : State), SidebandGood s mOFFER ws ∧ ((s.joined = false ∨ bits 31 16 (at0 ws 1) ≠ s.rd PEL_CTRL.PEL_ID))) ∧
    (∃ (c : Nat) (o : OfferIn) (s : State), c < 256 ∧ s.offerOf c = some o ∧ s.steward = true ∧ c ≠ s.carrier ∧ o.tick + 300 ≤ s.tick) ∧
    (∃ (s : State), s.tick % 100 = 0 ∧ s.isRoot = true ∧ s.pel.ceded = false ∧ s.holdover = false ∧ s.pel.pointSent ≠ some s.tick) ∧
    (∃ (ws : List Nat) (o : Int) (s : State), SidebandGood s mPOINT ws ∧ s.steward = true ∧ s.joined = true ∧ bits 31 16 (at0 ws 1) = s.rd PEL_CTRL.PEL_ID ∧ s.pel.root = some (hdrCar (at0 ws 0)) ∧ ((hdrCar (at0 ws 0) = s.carrier ∧ o = 0 ∨ hdrCar (at0 ws 0) ≠ s.carrier ∧ s.rd PEL_STAT.OFS_VALID = 1 ∧ o = toSigned 64 (s.rd PEL_OFS.OFS)))) ∧
    (∃ (l : Nat) (ws : List Nat) (o : Int) (s : State), PaceGood s l mCPOINT ws ∧ s.joined = true ∧ Table.get none s.car.ofs (hdrDie (at0 ws 0) % 64) = some o) ∧
    (∃ (e : QEvent) (c p m : Nat) (s : State), firstDue s.cad.queue = some e ∧ e.act = .point c p m ∧ s.joined = true) ∧
    (∃ (r frac : Nat) (s : State), s.pel.root = some r ∧ s.tick % 100 = 50 ∧ s.steward = true ∧ s.joined = true ∧ r ≠ s.carrier ∧ s.holdover = false ∧ s.pel.psyncSent ≠ some s.tick) ∧
    (∃ (ws : List Nat) (f2 f3 : Nat) (s : State), SidebandGood s mPSYNCREQ ws ∧ s.isRoot = true ∧ bits 31 16 (at0 ws 1) = s.rd PEL_CTRL.PEL_ID ∧ s.holdover = false) ∧
    (∃ (ws : List Nat) (frac : Nat) (s : State), SidebandGood s mPSYNCRSP ws ∧ s.steward = true ∧ s.joined = true ∧ bits 31 16 (at0 ws 1) = s.rd PEL_CTRL.PEL_ID ∧ s.pel.root = some (hdrCar (at0 ws 0))) ∧
    (∃ (ws : List Nat) (s : State), SidebandGood s mPOINT ws ∧ s.pel.known.contains (hdrCar (at0 ws 0), hdrSeq (at0 ws 0)) = false ∧ QueueTakes s (applyTick s ws 0)) :=
  ⟨⟨(made [(PEL_CTRL.JOIN, 0, 1)] ((made [(CAR_STAT.ROLE, 0, 2)] ((inf [(CAR_CFG.LINK_EN, 0, 15), (CAR_CFG.EN, 0, 1)] (live)))))), by decide +kernel⟩,
   ⟨(msg [mkHeader 8 0 1 3 9, 40 * 2 ^ 8, 0]), (made [(PEL_CTRL.JOIN, 0, 1)] (made [(CAR_STAT.ROLE, 0, 2)] (inf [(CAR_CFG.LINK_EN, 0, 15), (CAR_CFG.EN, 0, 1)] live))), by decide +kernel⟩,
   ⟨(msg [mkHeader 8 0 1 3 9, 40 * 2 ^ 8, 0]), live, by decide +kernel⟩,
   ⟨255, {}, (later 300 ((((made [(CAR_STAT.ROLE, 0, 2)] ((inf [(CAR_CFG.LINK_EN, 0, 15), (CAR_CFG.EN, 0, 1)] (live))))).setPel (fun x => { x with offers := [(255, some {})] })))), by decide +kernel⟩,
   ⟨(((made [(PEL_CTRL.JOIN, 0, 1)] ((made [(CAR_STAT.ROLE, 0, 2)] ((inf [(CAR_CFG.LINK_EN, 0, 15), (CAR_CFG.EN, 0, 1)] (live))))))).setPel (fun x => { x with root := some 0 })), by decide +kernel⟩,
   ⟨(msg [mkHeader 9 0 1 0 9, 0, 0, 0, 0]), 0, (made [(PEL_CTRL.JOIN, 0, 1)] (made [(CAR_STAT.ROLE, 0, 2)] (inf [(CAR_CFG.LINK_EN, 0, 15), (CAR_CFG.EN, 0, 1)] live))).setPel (fun x => { x with root := some 0 }), by decide +kernel⟩,
   ⟨3, (msg [mkHeader 3 3 1 0 9, 0, 0, 0]), 0, (made [(PEL_CTRL.JOIN, 0, 1)] (made [(CAR_STAT.ROLE, 0, 2)] (inf [(CAR_CFG.LINK_EN, 0, 15), (CAR_CFG.EN, 0, 1)] live))).setCar (fun x => { x with ofs := [(1, some 0)] }), by decide +kernel⟩,
   ⟨dueEvent (.point 1 200 1), 1, 200, 1, (made [(PEL_CTRL.JOIN, 0, 1)] (withDue (.point 1 200 1))), by decide +kernel⟩,
   ⟨7, 0, (later 50 ((((made [(PEL_CTRL.JOIN, 0, 1)] ((made [(CAR_STAT.ROLE, 0, 2)] ((inf [(CAR_CFG.LINK_EN, 0, 15), (CAR_CFG.EN, 0, 1)] (live))))))).setPel (fun x => { x with root := some 7 })))), by decide +kernel⟩,
   ⟨(msg [mkHeader 10 0 1 3 9, 0, 0, 0, 0]), 0, 0, (((made [(PEL_CTRL.JOIN, 0, 1)] ((made [(CAR_STAT.ROLE, 0, 2)] ((inf [(CAR_CFG.LINK_EN, 0, 15), (CAR_CFG.EN, 0, 1)] (live))))))).setPel (fun x => { x with root := some 0 })), by decide +kernel⟩,
   ⟨(msg ([mkHeader 11 0 1 7 9] ++ List.replicate 8 0)), 0, (((made [(PEL_CTRL.JOIN, 0, 1)] ((made [(CAR_STAT.ROLE, 0, 2)] ((inf [(CAR_CFG.LINK_EN, 0, 15), (CAR_CFG.EN, 0, 1)] (live))))))).setPel (fun x => { x with root := some 7 })), by decide +kernel⟩,
   ⟨(msg [mkHeader 9 0 1 0 9, 0, 0, 0, 0]), live, by decide +kernel⟩⟩

theorem witness_DragAndPaceline :
    (∃ (l : Nat) (ws : List Nat) (s : State), PaceGood s l mDRAG ws) ∧
    (∃ (s : State), s.joined = true ∧ s.rd PEL_STAT.DRAG ≠ 1 ∧ ((s.dragTicks < s.pel.dragRun ∨ s.rd CAD_STAT.CADENCE_LOST = 1))) ∧
    (∃ (s : State), s.joined = true ∧ s.rd PEL_STAT.DRAG = 1 ∧ s.dragTicks ≤ s.pel.cleanRun) ∧
    (∃ (s : State), s.joined = true ∧ s.rd PEL_STAT.DRAG = 1 ∧ s.rd PEL_STAT.CANT_FOLLOW ≠ 1 ∧ s.noFollow ≤ s.pel.periods) ∧
    (∃ (s : State), s.isRoot = true ∧ s.pel.rootMode = 2 ∧ s.pel.unrestAt + s.returnTicks ≤ s.tick ∧ s.carrierCant = false) ∧
    (∃ (s : State), s.joined = true ∧ s.rd PEL_STAT.ORPHAN ≠ 1 ∧ s.pel.heardAt + 300 ≤ s.tick) ∧
    (∃ (ws : List Nat) (s : State), SidebandGood s mABORT ws ∧ at0 ws 1 / 2 ^ 16 = s.rd PEL_CTRL.PEL_ID ∧ s.rd PEL_CTRL.JOIN = 1 ∧ ((at0 ws 3 + at0 ws 4 * 2 ^ 32).testBit s.die = true) ∧ ((hdrCar (at0 ws 0) ≠ s.carrier ∨ hdrDie (at0 ws 0) ≠ s.die))) :=
  ⟨⟨3, (msg [mkHeader 4 3 1 0 9, 6 * 2 ^ 21]), (inf [(CAR_CFG.LINK_EN, 0, 15), (CAR_CFG.EN, 0, 1)] (live)), by decide +kernel⟩,
   ⟨(made [(PEL_CTRL.JOIN, 0, 1)] (made [(CAR_STAT.ROLE, 0, 2)] (inf [(CAR_CFG.LINK_EN, 0, 15), (CAR_CFG.EN, 0, 1)] live))).setPel (fun x => { x with dragRun := 100000 }), by decide +kernel⟩,
   ⟨(made [(PEL_STAT.DRAG, 0, 1)] ((((made [(PEL_CTRL.JOIN, 0, 1)] ((made [(CAR_STAT.ROLE, 0, 2)] ((inf [(CAR_CFG.LINK_EN, 0, 15), (CAR_CFG.EN, 0, 1)] (live))))))).setPel (fun x => { x with cleanRun := 100000 })))), by decide +kernel⟩,
   ⟨(made [(PEL_STAT.DRAG, 0, 1)] ((((made [(PEL_CTRL.JOIN, 0, 1)] ((made [(CAR_STAT.ROLE, 0, 2)] ((inf [(CAR_CFG.LINK_EN, 0, 15), (CAR_CFG.EN, 0, 1)] (live))))))).setPel (fun x => { x with periods := 100000 })))), by decide +kernel⟩,
   ⟨(later 1000000000 ((((((made [(PEL_CTRL.JOIN, 0, 1)] ((made [(CAR_STAT.ROLE, 0, 2)] ((inf [(CAR_CFG.LINK_EN, 0, 15), (CAR_CFG.EN, 0, 1)] (live))))))).setPel (fun x => { x with root := some 0 }))).setPel (fun x => { x with rootMode := 2 })))), by decide +kernel⟩,
   ⟨(later 300 ((made [(PEL_CTRL.JOIN, 0, 1)] ((made [(CAR_STAT.ROLE, 0, 2)] ((inf [(CAR_CFG.LINK_EN, 0, 15), (CAR_CFG.EN, 0, 1)] (live)))))))), by decide +kernel⟩,
   ⟨(msg [mkHeader 12 0 1 3 9, 0, 77, 1, 0]), (made [(PEL_CTRL.JOIN, 0, 1)] ((made [(CAR_STAT.ROLE, 0, 2)] ((inf [(CAR_CFG.LINK_EN, 0, 15), (CAR_CFG.EN, 0, 1)] (live)))))), by decide +kernel⟩⟩

theorem witness_OutboundPosts :
    (∃ (k w : Nat) (m : OmbMsg) (q : List OmbMsg) (s : State), k < 8 ∧ (s.omb k).queue = m :: q ∧ (s.omb k).tried ≠ some s.tick ∧ ((s.rd OMB_CFG.DOMAIN k = 255 ∨ s.dstate (s.rd OMB_CFG.DOMAIN k) = dON)) ∧ w.testBit 31 = false) ∧
    (∃ (k w : Nat) (ok : Bool) (m : OmbMsg) (q : List OmbMsg) (s : State), k < 8 ∧ (s.omb k).queue = m :: q ∧ (s.omb k).tried ≠ some s.tick ∧ ((s.rd OMB_CFG.DOMAIN k = 255 ∨ s.dstate (s.rd OMB_CFG.DOMAIN k) = dON)) ∧ w.testBit 31 = true) ∧
    (∃ (k : Nat) (ok : Bool) (m : OmbMsg) (q : List OmbMsg) (s : State), k < 8 ∧ (s.omb k).queue = m :: q ∧ (s.omb k).tried ≠ some s.tick) ∧
    (∃ (w : Nat) (s : State), s.mg.retired.any Retired.awaits = true ∧ (s.omb 0).polled + 1000 ≤ s.tick ∧ s.holdover = false) ∧
    (∃ (s : State), s.holdover = false) :=
  ⟨⟨7, 0, {}, [], (made [(OMB_CFG.DOMAIN, 7, 255)] (live.setBus (fun b => { b with omb := [(7, { queue := [{}] })] }))), by decide +kernel⟩,
   ⟨7, 2 ^ 31, true, {}, [], (made [(OMB_CFG.DOMAIN, 7, 255)] (live.setBus (fun b => { b with omb := [(7, { queue := [{}] })] }))), by decide +kernel⟩,
   ⟨7, true, {}, [], (made [(OMB_CFG.DOMAIN, 7, 255)] (live.setBus (fun b => { b with omb := [(7, { queue := [{}] })] }))), by decide +kernel⟩,
   ⟨16, live.setMg (fun m => { m with retired := [{ core := 1, posted := some 0, oseq := some 1 }] }) |> later 1000, by decide +kernel⟩,
   ⟨live, by decide +kernel⟩⟩

theorem witness_EscalationLadder :
    (∃ (s : State), s.rd RC_STAT.HB_ARMED = 1 ∧ s.rc.missAt + 1000 * s.inf RC_CFG.HB_MS ≤ s.tick) ∧
    (∃ (s : State), s.rd RC_STAT.HB_ARMED = 1 ∧ s.rc.missAt + 1000 * s.inf RC_CFG.HB_MS ≤ s.tick ∧ s.rd RC_STAT.MISSES = 1 ∧ s.ladder = lIDLE) ∧
    (∃ (s : State), s.ladder = lNOTICE ∧ s.rc.noticeAt + 1000 * s.inf RC_CFG.NOTICE_MS ≤ s.tick ∧ (s.rc.dieAt.filter (fun a => decide (s.tick < a + 600000000))).length + 1 ≤ s.inf RC_CFG2.DIE_MAX) ∧
    (∃ (s : State), s.ladder = lNOTICE ∧ s.rc.noticeAt + 1000 * s.inf RC_CFG.NOTICE_MS ≤ s.tick ∧ s.inf RC_CFG2.DIE_MAX < (s.rc.dieAt.filter (fun a => decide (s.tick < a + 600000000))).length + 1) ∧
    (∃ (x : Step) (s : State), s.rc.step = some x ∧ x.part.isSome = true ∧ x.restored s (fun _ => true) = true) ∧
    (∃ (x : Step) (s : State), s.rc.step = some x ∧ x.part = none ∧ x.cleared = true ∧ x.kind = 4 ∧ (x.restore.filter isCluster).all s.onForTick = true) ∧
    (∃ (s : State), s.ladder = lBOOT ∧ s.rc.bootAt + 1000 * s.inf RC_CFG.BOOT_MS ≤ s.tick) :=
  ⟨⟨(made [(RC_STAT.HB_ARMED, 0, 1)] ((later 5000 (live)))), by decide +kernel⟩,
   ⟨(made [(RC_STAT.HB_ARMED, 0, 1), (RC_STAT.MISSES, 0, 1)] ((later 5000 (live)))), by decide +kernel⟩,
   ⟨(made [(RC_STAT.LADDER, 0, lNOTICE)] ((later 20000 (live)))), by decide +kernel⟩,
   ⟨(((made [(RC_STAT.LADDER, 0, lNOTICE)] ((later 20000 (live))))).setRc (fun x => { x with dieAt := [1, 2, 3] })), by decide +kernel⟩,
   ⟨{ part := some 0 }, ((live).setRc (fun x => { x with step := some { part := some 0 } })), by decide +kernel⟩,
   ⟨{ kind := 4, cleared := true }, ((live).setRc (fun x => { x with step := some { kind := 4, cleared := true } })), by decide +kernel⟩,
   ⟨(made [(RC_STAT.LADDER, 0, lBOOT)] ((later 100000000 (live)))), by decide +kernel⟩⟩

theorem witness_WarmRestartCauses :
    (∃ (s : State), s.holdover = false) ∧
    (∃ (s : State), s.rc.wdog = true ∧ s.rc.kickAt + 2000 ≤ s.tick) ∧
    (∃ (s : State), s.rd ENG_STAT.STATE = 2 ∧ s.eng.faultAt + 1000 * s.inf RC_CFG2.ENG_MS ≤ s.tick) ∧
    (∃ (s : State), 3 ≤ (s.cad.fwOvr.filter (fun a => decide (s.tick < a + 1000))).length) ∧
    (∃ (s : State), 3 ≤ (s.cad.engOvr.filter (fun a => decide (s.tick < a + 1000))).length) ∧
    (∃ (s : State), s.rc.rstLow = false) :=
  ⟨⟨live, by decide +kernel⟩,
   ⟨(((later 2000 (live))).setRc (fun x => { x with wdog := true })), by decide +kernel⟩,
   ⟨(made [(ENG_STAT.STATE, 0, 2)] ((later 100000000 (live)))), by decide +kernel⟩,
   ⟨(((later 10 (live))).setCad (fun x => { x with fwOvr := [1, 2, 3] })), by decide +kernel⟩,
   ⟨(((later 10 (live))).setCad (fun x => { x with engOvr := [1, 2, 3] })), by decide +kernel⟩,
   ⟨live, by decide +kernel⟩⟩

theorem witness_FirmwareSlots :
    (∃ (s : State), s.fw.entered = true ∧ s.rd RC_STAT.HOLDOVER = 1 ∧ s.rc.rstLow = false ∧ s.rc.storm = false ∧ s.rd FW_STAT.NO_FW ≠ 1) ∧
    (∃ (s : State), s.fw.entered = true ∧ s.rd RC_STAT.HOLDOVER ≠ 1 ∧ s.rd FW_STAT.TENTATIVE = 1) ∧
    (∃ (e : QEvent) (s : State), firstDue s.cad.queue = some e ∧ e.act = .switch ∧ s.slotState (1 - s.rd FW_STAT.ACTIVE) = 2) ∧
    (∃ (s : State), s.rd FW_STAT.TENTATIVE = 1 ∧ s.fw.switchAt + max 16 (s.inf FW_CTRL.SW_MAX) ≤ s.tick) ∧
    (∃ (o : Outstanding) (src : Nat) (f : Option (List Nat)) (b : List Nat) (s : State), s.fwLoadOut = some (o, src) ∧ ((s.holdover = false ∨ s.waitsForFw = true)) ∧ loadedBytes s o src f = some b ∧ s.loadStatus o.inst (some b) = stOK) ∧
    (∃ (o : Outstanding) (src : Nat) (f : Option (List Nat)) (s : State), s.fwLoadOut = some (o, src) ∧ ((s.holdover = false ∨ s.waitsForFw = true)) ∧ s.loadStatus o.inst (loadedBytes s o src f) ≠ stOK) ∧
    (∃ (o : Outstanding) (kind set src : Nat) (f : ImageFile) (m : MarginImage) (s : State), ImageEnds s o kind set src f true ∧ f.body = .margin m) ∧
    (∃ (o : Outstanding) (kind set src : Nat) (f : ImageFile) (b : BudgetImage) (s : State), ImageEnds s o kind set src f true ∧ f.body = .budget b) ∧
    (∃ (o : Outstanding) (kind set src id : Nat) (f : ImageFile) (l : List (Nat × Nat)) (ts : List (Nat × List Int)) (s : State), ImageEnds s o kind set src f true ∧ f.body = .thermal id l ts) ∧
    (∃ (o : Outstanding) (kind set src : Nat) (f : ImageFile) (m : ModelImage) (s : State), ImageEnds s o kind set src f true ∧ f.body = .model m ∧ s.rd CAD_STAT.LOCKED = 1 ∧ s.evqFill < 64) ∧
    (∃ (o : Outstanding) (kind set src cyc : Nat) (f : ImageFile) (e : EngImage) (s : State), ImageEnds s o kind set src f true ∧ f.body = .engine e ∧ engCheck e = some cyc ∧ f.readBack = true) ∧
    (∃ (o : Outstanding) (kind set src : Nat) (f : ImageFile) (e : EngImage) (s : State), ImageEnds s o kind set src f true ∧ f.body = .engine e ∧ ((engCheck e = none ∨ f.readBack = false))) ∧
    (∃ (o : Outstanding) (kind set src : Nat) (f : ImageFile) (s : State), ImageEnds s o kind set src f false) ∧
    (∃ (s : State), s.fw.entered = true ∧ s.rd RC_STAT.HOLDOVER = 1 ∧ s.rc.rstLow = false ∧ s.rc.storm = false ∧ s.rd FW_STAT.NO_FW ≠ 1 ∧ s.rd CAD_STAT.LOCKED ≠ 1) :=
  ⟨⟨(made [(RC_STAT.HOLDOVER, 0, 1)] (live)), by decide +kernel⟩,
   ⟨(made [(FW_STAT.TENTATIVE, 0, 1)] (live)), by decide +kernel⟩,
   ⟨dueEvent .switch, (made [(FW_SLOT_B.STATE, 0, 2)] (withDue .switch)), by decide +kernel⟩,
   ⟨(made [(FW_STAT.TENTATIVE, 0, 1)] ((later 1000000 (live)))), by decide +kernel⟩,
   ⟨loadOut (.fwLoad 0 0 256), 0, some fwImage, fwImage, fwLoading 256, by decide +kernel⟩,
   ⟨loadOut (.fwLoad 0 0 256), 0, none, fwLoading 256, by decide +kernel⟩,
   ⟨_, 5, 0, 0, _, {}, imgLoading 5, imageEnds 5 (.margin {}) true (by decide) (by decide), rfl⟩,
   ⟨_, 6, 0, 0, _, {}, imgLoading 6, imageEnds 6 (.budget {}) true (by decide) (by decide), rfl⟩,
   ⟨_, 4, 0, 0, 7, _, [], [], imgLoading 4, imageEnds 4 (.thermal 7 [] []) true (by decide) (by decide), rfl⟩,
   ⟨_, 2, 0, 0, _, {}, imgLoading 2, imageEnds 2 (.model {}) true (by decide) (by decide), rfl, by decide +kernel⟩,
   ⟨_, 0, 0, 0, 4, _, { program := [63 * 2 ^ 58] }, imgLoading 0,
    imageEnds 0 (.engine { program := [63 * 2 ^ 58] }) true (by decide) (by decide), rfl, by decide +kernel, rfl⟩,
   ⟨_, 0, 0, 0, _, {}, imgLoading 0, imageEnds 0 (.engine {}) true (by decide) (by decide), rfl, by decide +kernel⟩,
   ⟨_, 6, 0, 0, _, imgLoading 6, imageEnds 6 (.margin {}) false (by decide) (by decide)⟩,
   ⟨made [(RC_STAT.HOLDOVER, 0, 1), (CAD_STAT.LOCKED, 0, 0)], by decide +kernel⟩⟩

theorem witness_MeterMeasures :
    (∃ (m : MeterIn) (s : State), s.mtr.alive = true) ∧
    (∃ (crc : Nat) (s : State), s.mtr.alive = true ∧ 4000 ≤ s.mtr.winN) ∧
    (∃ (crc : Nat) (s : State), s.mtr.st = 2 ∧ 4000 ≤ s.mtr.winN ∧ s.mtr.disagrees = true ∧ crc = 0x3C7A1E95) ∧
    (∃ (crc : Nat) (s : State), s.mtr.st = 3 ∧ 4000 ≤ s.mtr.winN ∧ s.mtr.disagrees = false ∧ 9 ≤ s.mtr.agree ∧ crc = 0x3C7A1E95) ∧
    (∃ (s : State), s.mtr.alive = true ∧ 4 ≤ s.mtr.msN) ∧
    (∃ (s : State), s.mtr.alive = true ∧ s.mtr.pfw = false ∧ s.mtr.samples % 400 = 0 ∧ s.mtr.ckN ≠ 0 ∧ s.mtr.window = true) ∧
    (∃ (s : State), s.mtr.alive = true ∧ s.mtr.pfw = false ∧ s.mtr.samples % 400 = 0 ∧ s.mtr.ckN ≠ 0 ∧ s.mtr.window = false) :=
  ⟨⟨{ v0 := 5, i0 := 7, v1 := -5, i1 := 3 }, (meterOn), by decide +kernel⟩,
   ⟨5, ((meterOn).setMtr (fun x => { x with winN := 4000 })), by decide +kernel⟩,
   ⟨0x3C7A1E95, ((meterOn).setMtr (fun x => { x with winN := 4000, e0 := 480000000000000000 })), by decide +kernel⟩,
   ⟨0x3C7A1E95, ((meterOn).setMtr (fun x => { x with winN := 4000, st := 3, agree := 9 })), by decide +kernel⟩,
   ⟨((meterOn).setMtr (fun x => { x with msN := 4 })), by decide +kernel⟩,
   ⟨((meterOn).setMtr (fun x => { x with samples := 400, ckN := 400 })), by decide +kernel⟩,
   ⟨((meterOn).setMtr (fun x => { x with samples := 400, ckN := 400, window := false })), by decide +kernel⟩⟩

theorem witness_MeterPowerAndSeal :
    (∃ (s : State), s.mtr.alive = true ∧ s.mtr.pfw = false) ∧
    (∃ (s : State), s.mtr.alive = true) ∧
    (∃ (k n r : Nat) (old new : List Nat) (s : State), s.mtr.alive = true ∧ s.mtr.writes = [(r, old, new)] ∧ k = 0) ∧
    (∃ (crc : Nat) (s : State), s.mtr.alive = false ∧ s.mtr.journal.header = none) ∧
    (∃ (h : Nat) (s : State), s.mtr.alive = false ∧ s.mtr.journal.header = some h ∧ h ≠ s.mtr.serial) ∧
    (∃ (c : Ckpt) (tail : Bool) (s : State), s.mtr.alive = false ∧ s.mtr.journal.header = some s.mtr.serial ∧ s.mtr.journal.restore = some (c, tail) ∧ s.mtr.journal.cal.isSome = true) ∧
    (∃ (s : State), s.mtr.alive = true ∧ s.mtr.sealOpen = false) ∧
    (∃ (s : State), s.mtr.alive = true ∧ s.mtr.window = true ∧ ((s.mtr.temp < 16 ∨ 1344 < s.mtr.temp))) ∧
    (∃ (s : State), s.mtr.alive = true ∧ s.mtr.window = false ∧ 32 ≤ s.mtr.temp ∧ s.mtr.temp ≤ 1328) :=
  ⟨⟨(meterOn), by decide +kernel⟩,
   ⟨meterOn, by decide +kernel⟩,
   ⟨0, 10, 64, blankRecord, sealRecord [1], meterOn.setMtr (fun m => { m with writes := [(64, blankRecord, sealRecord [1])] }), by decide +kernel⟩,
   ⟨5, live, by decide +kernel⟩,
   ⟨9, (meterOn.setMtr (fun m => { m.initJournal 0 with st := 0, serial := 8 })), by decide +kernel⟩,
   ⟨(meterOff.mtr.journal.restore.getD ({}, false)).1, false, meterOff, by decide +kernel⟩,
   ⟨(meterOn), by decide +kernel⟩,
   ⟨((meterOn).setMtr (fun x => { x with temp := 15 })), by decide +kernel⟩,
   ⟨((meterOn).setMtr (fun x => { x with temp := 1328, window := false })), by decide +kernel⟩⟩

theorem witness_SharesAndMirror :
    (∃ (e : QEvent) (b : Nat) (s : State), firstDue s.cad.queue = some e ∧ e.act = .share ∧ s.mir.shown = true ∧ s.mir.boot = some b) ∧
    (∃ (r : ShareRec) (s : State), s.mtr.alive = true ∧ s.mir.buffer.find? s.mtr.newRecord = some r ∧ r.crc = r.crcOf) ∧
    (∃ (r : ShareRec) (s : State), s.mir.buffer.find? s.mtr.newRecord = some r ∧ r.crc ≠ r.crcOf) ∧
    (∃ (ws : List Nat) (s : State), ws.length = 10 ∧ at0 ws 9 = crc32 (wordsLE (ws.take 9))) ∧
    (∃ (ws : List Nat) (s : State), ((ws.length ≠ 10 ∨ at0 ws 9 ≠ crc32 (wordsLE (ws.take 9))))) ∧
    (∃ (s : State), s.mir.lastGood.getD 0 + 1100 + 1000 * s.mir.missed ≤ s.tick) :=
  ⟨⟨dueEvent .share, 3, ((withDue .share).setMir (fun x => { x with boot := some 3, shown := true })), by decide +kernel⟩,
   ⟨({ boot := 1 } : ShareRec).sealed, meterOn.setMir (fun x => { x with buffer := [({ boot := 1 } : ShareRec).sealed] }), by decide +kernel⟩,
   ⟨{ boot := 1 }, meterOn.setMir (fun x => { x with buffer := [{ boot := 1 }] }), by decide +kernel⟩,
   ⟨((List.replicate 9 1) ++ [crc32 (wordsLE (List.replicate 9 1))]), live, by decide +kernel⟩,
   ⟨[], live, by decide +kernel⟩,
   ⟨(later 1100 (live)), by decide +kernel⟩⟩

theorem witness_MeterPort :
    (∃ (bs ps : List Nat) (h : Nat) (s : State), PortPacket s bs 0xA0 h ps) ∧
    (∃ (bs ps : List Nat) (h : Nat) (s : State), PortPacket s bs 0xA1 h ps) ∧
    (∃ (bs ps : List Nat) (h : Nat) (s : State), PortPacket s bs 0xA2 h ps ∧ at0 ps 0 = 32) ∧
    (∃ (bs ps : List Nat) (h : Nat) (s : State), PortPacket s bs 0xA2 h ps ∧ 32 < at0 ps 0) ∧
    (∃ (bs ps : List Nat) (h : Nat) (s : State), PortPacket s bs 0xA2 h ps ∧ at0 ps 0 < 32) ∧
    (∃ (bs ps : List Nat) (h : Nat) (e : JEvent) (s : State), PortPacket s bs 0xA3 h ps ∧ at0 ps 0 < 1984 ∧ s.mtr.eventAt (at0 ps 0) = some e) ∧
    (∃ (bs ps : List Nat) (h : Nat) (s : State), PortPacket s bs 0xA8 h ps ∧ s.mtr.sealOpen = true ∧ at0 ps 0 ≤ 8) ∧
    (∃ (bs ps : List Nat) (h : Nat) (s : State), PortPacket s bs 0xA8 h ps ∧ s.mtr.sealOpen = false) ∧
    (∃ (bs ps : List Nat) (h : Nat) (s : State), PortPacket s bs 0xA9 h ps ∧ s.mtr.sealOpen = true ∧ s.mtr.serial ≠ 0) ∧
    (∃ (bs ps : List Nat) (h : Nat) (s : State), PortPacket s bs 0xA9 h ps ∧ s.mtr.sealOpen = true ∧ s.mtr.serial = 0) ∧
    (∃ (bs ps : List Nat) (h : Nat) (s : State), PortPacket s bs 0xAA h ps ∧ s.mtr.sealOpen = true ∧ s.mtr.serial = 0 ∧ at0 ps 0 ≠ 0) ∧
    (∃ (bs ps : List Nat) (h : Nat) (s : State), PortPacket s bs 0xAB h ps ∧ s.mtr.sealOpen = true ∧ 10 ≤ at0 ps 0 ∧ at0 ps 0 ≤ 250) ∧
    (∃ (bs r ps qs : List Nat) (h k : Nat) (s : State), s.mtr.alive = true ∧ Framed (s.mtr.rx ++ bs) 0xA0 h ps r ∧ Framed r 0xA0 k qs []) :=
  ⟨⟨(mrx ((160 * 2 ^ 24 + 3 * 2 ^ 20 + 0 * 2 ^ 16) :: [])), [], (160 * 2 ^ 24 + 3 * 2 ^ 20 + 0 * 2 ^ 16), (meterOn), by decide +kernel⟩,
   ⟨(mrx ((161 * 2 ^ 24 + 3 * 2 ^ 20 + 0 * 2 ^ 16) :: [])), [], (161 * 2 ^ 24 + 3 * 2 ^ 20 + 0 * 2 ^ 16), (meterOn), by decide +kernel⟩,
   ⟨(mrx ((162 * 2 ^ 24 + 3 * 2 ^ 20 + 1 * 2 ^ 16) :: [32])), [32], (162 * 2 ^ 24 + 3 * 2 ^ 20 + 1 * 2 ^ 16), (meterOn), by decide +kernel⟩,
   ⟨(mrx ((162 * 2 ^ 24 + 3 * 2 ^ 20 + 1 * 2 ^ 16) :: [33])), [33], (162 * 2 ^ 24 + 3 * 2 ^ 20 + 1 * 2 ^ 16), (meterOn), by decide +kernel⟩,
   ⟨(mrx ((162 * 2 ^ 24 + 3 * 2 ^ 20 + 1 * 2 ^ 16) :: [31])), [31], (162 * 2 ^ 24 + 3 * 2 ^ 20 + 1 * 2 ^ 16), (meterOn), by decide +kernel⟩,
   ⟨(mrx ((163 * 2 ^ 24 + 3 * 2 ^ 20 + 1 * 2 ^ 16) :: [0])), [0], (163 * 2 ^ 24 + 3 * 2 ^ 20 + 1 * 2 ^ 16), { type := 7 }, meterOn.setMtr (fun m => m.writeEvent { type := 7 }), by decide +kernel⟩,
   ⟨(mrx ((168 * 2 ^ 24 + 3 * 2 ^ 20 + 2 * 2 ^ 16) :: [8, 77])), [8, 77], (168 * 2 ^ 24 + 3 * 2 ^ 20 + 2 * 2 ^ 16), ((meterOn).setMtr (fun x => { x with sealOpen := true })), by decide +kernel⟩,
   ⟨(mrx ((168 * 2 ^ 24 + 3 * 2 ^ 20 + 2 * 2 ^ 16) :: [8, 77])), [8, 77], (168 * 2 ^ 24 + 3 * 2 ^ 20 + 2 * 2 ^ 16), (meterOn), by decide +kernel⟩,
   ⟨(mrx ((169 * 2 ^ 24 + 3 * 2 ^ 20 + 0 * 2 ^ 16) :: [])), [], (169 * 2 ^ 24 + 3 * 2 ^ 20 + 0 * 2 ^ 16), ((meterOn).setMtr (fun x => { x with sealOpen := true })), by decide +kernel⟩,
   ⟨(mrx ((169 * 2 ^ 24 + 3 * 2 ^ 20 + 0 * 2 ^ 16) :: [])), [], (169 * 2 ^ 24 + 3 * 2 ^ 20 + 0 * 2 ^ 16), ((meterOn).setMtr (fun x => { x with sealOpen := true, serial := 0 })), by decide +kernel⟩,
   ⟨(mrx ((170 * 2 ^ 24 + 3 * 2 ^ 20 + 1 * 2 ^ 16) :: [5])), [5], (170 * 2 ^ 24 + 3 * 2 ^ 20 + 1 * 2 ^ 16), ((meterOn).setMtr (fun x => { x with sealOpen := true, serial := 0 })), by decide +kernel⟩,
   ⟨(mrx ((171 * 2 ^ 24 + 3 * 2 ^ 20 + 1 * 2 ^ 16) :: [250])), [250], (171 * 2 ^ 24 + 3 * 2 ^ 20 + 1 * 2 ^ 16), ((meterOn).setMtr (fun x => { x with sealOpen := true })), by decide +kernel⟩,
   ⟨(mrx [160 * 2 ^ 24 + 3 * 2 ^ 20] ++ mrx [160 * 2 ^ 24 + 3 * 2 ^ 20]), (mrx [160 * 2 ^ 24 + 3 * 2 ^ 20]), [], [], 160 * 2 ^ 24 + 3 * 2 ^ 20, 160 * 2 ^ 24 + 3 * 2 ^ 20, meterOn, by decide +kernel⟩⟩

theorem witness_MailboxAndRingRegisters :
    (∃ (n : Nat) (a : Access) (s : State), n < 16 ∧ Secure a ∧ s.rd MB_CTL.ACTIVE n = 1 ∧ s.rd MB_CTL.GO n ≠ 1 ∧ s.rd MB_CTL.FETCH n ≠ 1) ∧
    (∃ (n : Nat) (a : Access) (s : State), n < 16 ∧ Secure a ∧ s.rd MB_CTL.ACTIVE n = 1 ∧ ((s.rd MB_CTL.GO n = 1 ∨ s.rd MB_CTL.FETCH n = 1))) ∧
    (∃ (n : Nat) (a : Access) (s : State), n < 16 ∧ Secure a ∧ ((s.rd MB_CTL.GO n = 1 ∨ s.rd MB_CTL.FETCH n = 1))) ∧
    (∃ (n : Nat) (a : Access) (s : State), n < 16 ∧ Secure a ∧ s.rd MB_CTL.ACTIVE n ≠ 1) ∧
    (∃ (n : Nat) (r : Reply) (q : List Reply) (a : Access) (s : State), n < 16 ∧ Secure a ∧ s.rd MB_CTL.GO n ≠ 1 ∧ s.rd MB_CTL.FETCH n ≠ 1 ∧ s.mbReplies n = r :: q) ∧
    (∃ (n : Nat) (a : Access) (s : State), n < 16 ∧ Secure a ∧ s.rd MB_CTL.GO n ≠ 1 ∧ s.rd MB_CTL.FETCH n ≠ 1 ∧ s.mbReplies n = []) ∧
    (∃ (r v : Nat) (a : Access) (s : State), r < 15 ∧ Secure a ∧ ((v % 65536 + 65536 - s.rd RING_SQ.TAIL r) % 65536 ≤ s.ringSize r - s.sqFill r)) ∧
    (∃ (r v : Nat) (a : Access) (s : State), r < 15 ∧ Secure a ∧ s.ringSize r - s.sqFill r < (v % 65536 + 65536 - s.rd RING_SQ.TAIL r) % 65536) ∧
    (∃ (r v : Nat) (a : Access) (s : State), r < 15 ∧ Secure a ∧ ((v % 65536 + 65536 - s.rd RING_CQ.HEAD r) % 65536 ≤ s.cqFill r)) ∧
    (∃ (r v : Nat) (a : Access) (s : State), r < 15 ∧ Secure a ∧ s.cqFill r < (v % 65536 + 65536 - s.rd RING_CQ.HEAD r) % 65536) ∧
    (∃ (r v : Nat) (a : Access) (s : State), r < 15 ∧ Secure a ∧ s.rd RING_CFG.EN r ≠ 1) ∧
    (∃ (r v : Nat) (a : Access) (s : State), r < 15 ∧ Secure a ∧ s.rd RING_CFG.EN r = 1) ∧
    (∃ (v : Nat) (a : Access) (s : State), Secure a ∧ s.locks.transport = false ∧ (v % 4 = 1 ∨ v % 4 = 2)) ∧
    (∃ (v : Nat) (a : Access) (s : State), Secure a ∧ s.locks.transport = true) :=
  ⟨⟨15, {}, made [(MB_CTL.ACTIVE, 15, 1)], by decide +kernel⟩,
   ⟨15, {}, made [(MB_CTL.ACTIVE, 15, 1), (MB_CTL.GO, 15, 1)], by decide +kernel⟩,
   ⟨15, {}, made [(MB_CTL.FETCH, 15, 1)], by decide +kernel⟩,
   ⟨15, {}, (made [(MB_CTL.ACTIVE, 15, 0)] (live)), by decide +kernel⟩,
   ⟨15, { hdr := 7, words := [8] }, [], {}, live.setBus (fun b => { b with mbReplies := [(15, [{ hdr := 7, words := [8] }])] }), by decide +kernel⟩,
   ⟨15, {}, live, by decide +kernel⟩,
   ⟨14, 8, {}, live, by decide +kernel⟩,
   ⟨14, 9, {}, live, by decide +kernel⟩,
   ⟨14, 3, {}, (made [(RING_CQ.TAIL, 14, 3)] (live)), by decide +kernel⟩,
   ⟨14, 4, {}, (made [(RING_CQ.TAIL, 14, 3)] (live)), by decide +kernel⟩,
   ⟨14, 2 ^ 30 + 15 * 2 ^ 16, {}, live, by decide +kernel⟩,
   ⟨14, 0, {}, (made [(RING_CFG.EN, 14, 1), (RING_STAT.OWED, 14, 3)] (live)), by decide +kernel⟩,
   ⟨2, {}, live, by decide +kernel⟩,
   ⟨2, {}, { live with locks := { transport := true } }, by decide +kernel⟩⟩

theorem witness_LocksAndRequests :
    (∃ (a : Access) (s : State), Secure a) ∧
    (∃ (n v : Nat) (a : Access) (s : State), n < 256 ∧ Secure a ∧ s.locks.perm = false) ∧
    (∃ (n v : Nat) (a : Access) (s : State), n < 256 ∧ Secure a ∧ s.locks.perm = true) ∧
    (∃ (a : Access) (s : State), Secure a ∧ s.rd CAD_CTRL.PEAK_CLR ≠ 1) ∧
    (∃ (a : Access) (s : State), Secure a ∧ s.rd CAD_CTRL.PEAK_CLR = 1) ∧
    (∃ (v : Nat) (a : Access) (s : State), Secure a ∧ s.rd EM_ATT_CTRL.CLR ≠ 1) ∧
    (∃ (v : Nat) (a : Access) (s : State), Secure a) ∧
    (∃ (a : Access) (s : State), Secure a) ∧
    (∃ (p : Nat) (a : Access) (s : State), p < 32 ∧ Secure a ∧ s.bit PWIN_EN.EN p = true ∧ s.rd PW_STAT.PEND p ≠ 1) ∧
    (∃ (v : Nat) (a : Access) (s : State), Secure a) ∧
    (∃ (v : Nat) (a : Access) (s : State), Secure a ∧ s.rd HS_CTRL.FROZEN ≠ 1) ∧
    (∃ (v : Nat) (a : Access) (s : State), Secure a ∧ v.testBit 31 = false) ∧
    (∃ (v : Nat) (a : Access) (s : State), Secure a ∧ s.rc.hbCount ≠ some (v / 2 ^ 16 % 2 ^ RC_HB.COUNT.width)) ∧
    (∃ (v : Nat) (a : Access) (s : State), Secure a ∧ s.rc.hbCount = some (v / 2 ^ 16 % 2 ^ RC_HB.COUNT.width)) ∧
    (∃ (a : Access) (s : State), Secure a ∧ s.rd GL_CTRL.SSC_APPLY ≠ 1 ∧ s.holdover = false) ∧
    (∃ (a : Access) (s : State), Secure a ∧ s.rd GL_CTRL.RETRAIN ≠ 1) :=
  ⟨⟨{}, live, by decide +kernel⟩,
   ⟨255, 31, {}, live, by decide +kernel⟩,
   ⟨0, 31, {}, { live with locks := { perm := true } }, by decide +kernel⟩,
   ⟨{}, live, by decide +kernel⟩,
   ⟨{}, (made [(CAD_CTRL.PEAK_CLR, 0, 1)] (live)), by decide +kernel⟩,
   ⟨5 * 2 ^ 24, {}, live, by decide +kernel⟩,
   ⟨3, {}, live, by decide +kernel⟩,
   ⟨{}, live, by decide +kernel⟩,
   ⟨31, {}, (made [(PWIN_EN.EN, 0, 2 ^ 31)] (live)), by decide +kernel⟩,
   ⟨3, {}, live, by decide +kernel⟩,
   ⟨2 ^ 30, {}, live, by decide +kernel⟩,
   ⟨5, {}, (made [(HS_CTRL.FROZEN, 0, 1)] (live)), by decide +kernel⟩,
   ⟨5 * 2 ^ 16, {}, (made [(RC_STAT.LADDER, 0, lNOTICE)] (live)), by decide +kernel⟩,
   ⟨5 * 2 ^ 16, {}, ((live).setRc (fun x => { x with hbCount := some 5 })), by decide +kernel⟩,
   ⟨{}, (made [(GL_STAT.LSTATE, 0, 2)] (live)), by decide +kernel⟩,
   ⟨{}, (made [(GL_STAT.LSTATE, 0, 4)] (live)), by decide +kernel⟩⟩

theorem witness_PortAccesses :
    (∃ (off v c : Nat) (a : Access) (s : State), s.accessCause (accOf a) true off = some c) ∧
    (∃ (off v o : Nat) (a : Access) (s u : State), exec (.registerWrite off v { a with also := none }) s = .next u) ∧
    (∃ (off v r i : Nat) (hi : Bool) (d : RegDesc) (f : FieldDesc) (a : Access) (s : State), findReg off = some (d, r, hi) ∧ d.off ∉ specialOffs ∧ d.pair ≠ .wpair ∧ d.fields = [f] ∧ f.acc = .rw ∧ f.insts r = [i] ∧ s.lockedBy f.lock = false ∧ ((a.ns = false ∨ f.secOnly = false)) ∧ s.accessCause (accOf a) true off = none ∧ a.strb ≠ 0 ∧ roInst f.fld i = false) ∧
    (∃ (v : Nat) (a : Access) (s : State), a.strb = 15) ∧
    (∃ (v : Nat) (a : Access) (s : State), a.strb = 15) ∧
    (∃ (off v : Nat) (a : Access) (s : State), s.accessCause (accOf a) true off = none ∧ a.strb = 0) ∧
    (∃ (off v r : Nat) (d : RegDesc) (f : FieldDesc) (fs : List FieldDesc) (a : Access) (s : State), findReg off = some (d, r, false) ∧ d.pair = .wpair ∧ d.fields = f :: fs ∧ s.lockedBy f.lock = false ∧ ((d.off = 0x1804 ∨ d.off = 0x180C → s.rd RING_CFG.EN r ≠ 1)) ∧ s.accessCause (accOf a) true off = none ∧ a.strb ≠ 0) ∧
    (∃ (off v r : Nat) (d : RegDesc) (f : FieldDesc) (fs : List FieldDesc) (a : Access) (s : State), findReg off = some (d, r, true) ∧ d.pair = .wpair ∧ d.fields = f :: fs ∧ s.lockedBy f.lock = false ∧ ((d.off = 0x1804 ∨ d.off = 0x180C → s.rd RING_CFG.EN r ≠ 1)) ∧ s.accessCause (accOf a) true off = none ∧ a.strb ≠ 0) ∧
    (∃ (off r : Nat) (d : RegDesc) (a : Access) (s : State), findReg off = some (d, r, false) ∧ d.pair = .snap ∧ inAperture off = false ∧ s.accessCause (accOf a) false off = none) ∧
    (∃ (off r : Nat) (d : RegDesc) (a : Access) (s : State), findReg off = some (d, r, true) ∧ d.pair = .snap ∧ inAperture off = false ∧ s.accessCause (accOf a) false off = none) ∧
    (∃ (off v o : Nat) (a : Access) (s u : State), exec (.registerWrite off v { a with also := none }) s = .next u ∧ u.accessCause (accOf a) false o = none) ∧
    (∃ (off v o : Nat) (a : Access) (s u : State), exec (.registerWrite off v { a with also := none }) s = .next u ∧ u.accessCause (accOf a) false o ≠ none ∧ s.rd GSTAT.ACCESS_ERR = 1) :=
  ⟨⟨0x2, 5, 1, {}, live, by decide +kernel⟩,
   ⟨8200, 5, 0x440, {}, live, _, rfl⟩,
   ⟨8200, 5, 0, 0, false, _, _, {}, live, rfl, by decide +kernel, by decide +kernel, rfl, rfl, by decide +kernel⟩,
   ⟨4, {}, (made [(CAD_EVT.LOST, 0, 1)] (live)), by decide +kernel⟩,
   ⟨4, {}, (made [(CAD_EVT.LOST, 0, 1)] (live)), by decide +kernel⟩,
   ⟨0x440, 5, { strb := 0 }, live, by decide +kernel⟩,
   ⟨0x1804, 5, 0, _, _, _, {}, live, rfl, by decide +kernel, rfl, by decide +kernel⟩,
   ⟨0x1808, 5, 0, _, _, _, {}, live, rfl, by decide +kernel, rfl, by decide +kernel⟩,
   ⟨0x418, 0, _, { id := 4 }, live, rfl, by decide +kernel⟩,
   ⟨0x41C, 0, _, { id := 4 }, live, rfl, by decide +kernel⟩,
   ⟨8200, 5, 0x440, {}, live, _, rfl, by decide +kernel⟩,
   ⟨8200, 5, 0x2, {}, made [(GSTAT.ACCESS_ERR, 0, 1)], _, rfl, by decide +kernel⟩⟩

theorem witness_TransportsCarry :
    (∃ (n : Nat) (s : State), MailboxDue s n ∧ Accepts s n (packetOf (s.mbWords n))) ∧
    (∃ (n : Nat) (s : State), MailboxDue s n ∧ (packetOf (s.mbWords n)).ver ≠ 3) ∧
    (∃ (n : Nat) (s : State), MailboxDue s n ∧ (packetOf (s.mbWords n)).ver = 3 ∧ (s.port n).seen = true ∧ (s.port n).cache = packetOf (s.mbWords n) ∧ (s.port n).last = (packetOf (s.mbWords n)).seq) ∧
    (∃ (n : Nat) (s : State), MailboxDue s n ∧ (packetOf (s.mbWords n)).ver = 3 ∧ (s.port n).seen = true ∧ 2048 ≤ ((packetOf (s.mbWords n)).seq + 4096 - (s.port n).last) % 4096) ∧
    (∃ (r : Nat) (ws : List Nat) (s : State), RingDue s r ∧ crc32 (wordsLE ((List.range 15).map (at0 ws))) = at0 ws 15 ∧ Accepts s (16 + r) (packetOf ws)) ∧
    (∃ (r : Nat) (ws : List Nat) (s : State), RingDue s r ∧ crc32 (wordsLE ((List.range 15).map (at0 ws))) ≠ at0 ws 15) ∧
    (∃ (r : Nat) (s : State), RingDue s r) ∧
    (∃ (r : Nat) (e : CEntry) (q : List CEntry) (s : State), r < 15 ∧ s.rd RING_CFG.EN r = 1 ∧ s.ringOut r = e :: q) ∧
    (∃ (r : Nat) (e : CEntry) (q : List CEntry) (s : State), r < 15 ∧ s.rd RING_CFG.EN r = 1 ∧ s.ringOut r = e :: q) ∧
    (∃ (ws : List Nat) (s : State), ws.length = bits 19 16 (at0 ws 0) + 1 ∧ ws.length ≤ 15 ∧ ((∀ w ∈ ws, w < 2 ^ 32)) ∧ s.svcQueued < 4 ∧ Accepts s 31 (packetOf ws)) ∧
    (∃ (ws : List Nat) (s : State), ws.length = bits 19 16 (at0 ws 0) + 1 ∧ ws.length ≤ 15 ∧ ((∀ w ∈ ws, w < 2 ^ 32)) ∧ 4 ≤ s.svcQueued) ∧
    (∃ (bs : List Nat) (s : State), 4 * at0 bs 0 + 5 ≤ bs.length ∧ bs.take (4 * at0 bs 0 + 5) ≠ svcFrame (toWordsLE ((bs.drop 1).take (4 * at0 bs 0)))) ∧
    (∃ (bs : List Nat) (s : State), bs.length < 4 * at0 bs 0 + 5) ∧
    (∃ (clean : Bool) (s : State), s.cmd.svcReplies = []) ∧
    (∃ (r : Reply) (q : List Reply) (s : State), s.cmd.svcReplies = r :: q) :=
  ⟨⟨15, (mailed (3 * 2 ^ 20 + 0x03 * 2 ^ 24 + 5 * 16)), by decide +kernel⟩,
   ⟨15, (mailed 0), by decide +kernel⟩,
   ⟨15, ((mailed (3 * 2 ^ 20 + 0x03 * 2 ^ 24 + 5 * 16)).setPort 15 (fun _ => { seen := true, last := 5, cache := { hdr := (3 * 2 ^ 20 + 0x03 * 2 ^ 24 + 5 * 16) } })), by decide +kernel⟩,
   ⟨15, ((mailed (3 * 2 ^ 20 + 0x03 * 2 ^ 24 + 5 * 16)).setPort 15 (fun _ => { seen := true, last := 6 })), by decide +kernel⟩,
   ⟨14, (([(3 * 2 ^ 20 + 0x03 * 2 ^ 24 + 5 * 16)] ++ List.replicate 14 0) ++ [crc32 (wordsLE ([(3 * 2 ^ 20 + 0x03 * 2 ^ 24 + 5 * 16)] ++ List.replicate 14 0))]), (made [(RING_CFG.EN, 14, 1), (RING_SQ.TAIL, 14, 1), (TRANSPORT.IN_FORCE, 0, 2)] (live)), by decide +kernel⟩,
   ⟨14, [], (made [(RING_CFG.EN, 14, 1), (RING_SQ.TAIL, 14, 1), (TRANSPORT.IN_FORCE, 0, 2)] (live)), by decide +kernel⟩,
   ⟨14, (made [(RING_CFG.EN, 14, 1), (RING_SQ.TAIL, 14, 1), (TRANSPORT.IN_FORCE, 0, 2)] (live)), by decide +kernel⟩,
   ⟨14, { reply := { hdr := 7 } }, [], (made [(RING_CFG.EN, 14, 1)] (live.setBus (fun b => { b with ringOut := [(14, [{ reply := { hdr := 7 } }])] }))), by decide +kernel⟩,
   ⟨14, { reply := { hdr := 7 } }, [], (made [(RING_CFG.EN, 14, 1)] (live.setBus (fun b => { b with ringOut := [(14, [{ reply := { hdr := 7 } }])] }))), by decide +kernel⟩,
   ⟨[(3 * 2 ^ 20 + 0x03 * 2 ^ 24 + 5 * 16)], live, by decide +kernel⟩,
   ⟨[(3 * 2 ^ 20 + 0x03 * 2 ^ 24 + 5 * 16)], live.setCmd (fun c => { c with queue := List.replicate 4 (31, {}) }), by decide +kernel⟩,
   ⟨[0, 0, 0, 0, 1], live, by decide +kernel⟩,
   ⟨[1, 0, 0, 0], live, by decide +kernel⟩,
   ⟨true, live, by decide +kernel⟩,
   ⟨{ hdr := 7 }, [{ hdr := 8 }], live.setCmd (fun c => { c with svcReplies := [{ hdr := 7 }, { hdr := 8 }] }), by decide +kernel⟩⟩

theorem witness_ChecksRefuse :
    (∃ (c : Instr) (op n st : Nat) (p : Packet) (s : State), opcodeOf c = some op ∧ s.nextPacket = some (n, p) ∧ p.op = op ∧ s.precheck n p = some st) ∧
    (∃ (c : Instr) (op n : Nat) (p : Packet) (s : State), opcodeOf c = some op ∧ s.nextPacket = some (n, p) ∧ p.op ≠ op) :=
  ⟨⟨.echo, 2, 0, stNOPERM, (pkt 2 [7]), (queued 0 2 [7] ((made [(PERM.EFF, 2, 0)] (live)))), by decide +kernel⟩,
   ⟨.ident, 0, 0, (pkt 2 [7]), (queued 0 2 [7] (live)), by decide +kernel⟩⟩

theorem witness_PowerCommands :
    (∃ (n : Nat) (p : Packet) (s : State), Taken s n p 0x00) ∧
    (∃ (n : Nat) (p : Packet) (s : State), Taken s n p 0x01) ∧
    (∃ (n : Nat) (p : Packet) (s : State), Taken s n p 0x02) ∧
    (∃ (n : Nat) (p : Packet) (s : State), Taken s n p 0x03) ∧
    (∃ (n : Nat) (p : Packet) (s : State), Taken s n p 0x10) ∧
    (∃ (n : Nat) (p : Packet) (s : State), Taken s n p 0x11) ∧
    (∃ (n : Nat) (p : Packet) (s : State), Taken s n p 0x12 ∧ s.clusterRange (bits 7 0 (p.par 0)) (bits 23 16 (p.par 0)) = true) ∧
    (∃ (n : Nat) (p : Packet) (s : State), Taken s n p 0x12 ∧ s.clusterRange (bits 7 0 (p.par 0)) (bits 23 16 (p.par 0)) = false) ∧
    (∃ (n : Nat) (p : Packet) (s : State), Taken s n p 0x13) ∧
    (∃ (n : Nat) (p : Packet) (s : State), Taken s n p 0x14) ∧
    (∃ (n : Nat) (p : Packet) (s : State), Taken s n p 0x20 ∧ p.pcnt = 1 ∧ bits 15 8 (p.par 0) ≠ 0 ∧ ((∀ d ∈ span (bits 7 0 (p.par 0)) (bits 15 8 (p.par 0)), s.present d = true ∧ s.onRefusal d = none))) ∧
    (∃ (n : Nat) (p : Packet) (s : State), Taken s n p 0x21 ∧ p.pcnt = 1 ∧ bits 15 8 (p.par 0) ≠ 0 ∧ ((∀ d ∈ span (bits 7 0 (p.par 0)) (bits 15 8 (p.par 0)), s.present d = true ∧ s.offRefusal d = none))) ∧
    (∃ (n : Nat) (p : Packet) (s : State), Taken s n p 0x22) ∧
    (∃ (n : Nat) (p : Packet) (s : State), Taken s n p 0x23 ∧ s.rd RIM_STAT.COOL_STOP ≠ 1) ∧
    (∃ (n : Nat) (p : Packet) (s : State), Taken s n p 0x23 ∧ s.rd RIM_STAT.COOL_STOP = 1) ∧
    (∃ (n : Nat) (p : Packet) (s : State), Taken s n p 0x24 ∧ s.present (p.par 0) = true) ∧
    (∃ (n e : Nat) (p : Packet) (s : State), Taken s n p 0x30 ∧ s.hintOk p (s.hintOf p) = true ∧ s.hintEntry (s.hintOf p).id = none ∧ (List.range 8).find? (fun e => (s.hint e).isNone) = some e ∧ s.scheduleStatus ((s.hintOf p).start - s.inf BG_HINT_CFG.LEAD) = stOK) ∧
    (∃ (n : Nat) (p : Packet) (s : State), Taken s n p 0x30 ∧ s.hintOk p (s.hintOf p) = false) ∧
    (∃ (n e : Nat) (p : Packet) (s : State), Taken s n p 0x31 ∧ s.hintEntry (p.par 0) = some e) ∧
    (∃ (n : Nat) (p : Packet) (s : State), Taken s n p 0x31 ∧ s.hintEntry (p.par 0) = none) ∧
    (∃ (n : Nat) (p : Packet) (s : State), Taken s n p 0x60) ∧
    (∃ (n : Nat) (p : Packet) (s : State), Taken s n p 0x61) ∧
    (∃ (n : Nat) (p : Packet) (s : State), Taken s n p 0x62 ∧ p.par 0 < 32) ∧
    (∃ (n : Nat) (p : Packet) (s : State), Taken s n p 0x62 ∧ p.par 0 = 33) ∧
    (∃ (n : Nat) (p : Packet) (s : State), Taken s n p 0x62 ∧ 34 < p.par 0) :=
  ⟨⟨31, (pkt 0 []), (queued 31 0 [] (live)), by decide +kernel⟩,
   ⟨31, (pkt 1 []), (queued 31 1 [] (live)), by decide +kernel⟩,
   ⟨31, (pkt 2 [7]), (queued 31 2 [7] (live)), by decide +kernel⟩,
   ⟨31, (pkt 3 []), (queued 31 3 [] ((later (2 ^ 32 + 7) (live)))), by decide +kernel⟩,
   ⟨31, (pkt 16 [200]), (queued 31 16 [200] (live)), by decide +kernel⟩,
   ⟨31, (pkt 17 [(31 * 2 ^ 24 + 2 ^ 31 + 9)]), (queued 31 17 [(31 * 2 ^ 24 + 2 ^ 31 + 9)] (live)), by decide +kernel⟩,
   ⟨31, (pkt 18 [(2 ^ 31 + 3 * 2 ^ 24 + 2 * 2 ^ 16)]), (queued 31 18 [(2 ^ 31 + 3 * 2 ^ 24 + 2 * 2 ^ 16)] (live)), by decide +kernel⟩,
   ⟨31, (pkt 18 [(2 ^ 31)]), (queued 31 18 [(2 ^ 31)] (live)), by decide +kernel⟩,
   ⟨31, (pkt 19 []), (queued 31 19 [] (live)), by decide +kernel⟩,
   ⟨31, (pkt 20 [31]), (queued 31 20 [31] (live)), by decide +kernel⟩,
   ⟨31, (pkt 32 [(2 * 256)]), (queued 31 32 [(2 * 256)] (warm)), by decide +kernel⟩,
   ⟨31, (pkt 33 [(2 * 256)]), (queued 31 33 [(2 * 256)] (warm)), by decide +kernel⟩,
   ⟨31, (pkt 34 []), (queued 31 34 [] (live)), by decide +kernel⟩,
   ⟨31, (pkt 35 []), (queued 31 35 [] ((made [(RIM_STAT.REST_STATE, 0, 2)] (live)))), by decide +kernel⟩,
   ⟨31, (pkt 35 []), (queued 31 35 [] ((made [(RIM_STAT.COOL_STOP, 0, 1)] (live)))), by decide +kernel⟩,
   ⟨31, (pkt 36 [192]), (queued 31 36 [192] (live)), by decide +kernel⟩,
   ⟨31, 0, (pkt 48 [500, 10, (1 * 2 ^ 4 + 3), (2 * 2 ^ 16)]), (queued 31 48 [500, 10, (1 * 2 ^ 4 + 3), (2 * 2 ^ 16)] ((((inf [(BG_HINT_CFG.LEAD, 0, 100)] (live))).setBg (fun x => { x with image := some { profiles := [[]] } })))), by decide +kernel⟩,
   ⟨31, (pkt 48 [0, 10, (1 * 2 ^ 4 + 3), 0]), (queued 31 48 [0, 10, (1 * 2 ^ 4 + 3), 0] (live)), by decide +kernel⟩,
   ⟨31, 7, (pkt 49 [3]), (queued 31 49 [3] (live.setHint 7 (some { id := 3 }))), by decide +kernel⟩,
   ⟨31, (pkt 49 [3]), (queued 31 49 [3] (live)), by decide +kernel⟩,
   ⟨31, (pkt 96 [31]), (queued 31 96 [31] (live)), by decide +kernel⟩,
   ⟨31, (pkt 97 [31]), (queued 31 97 [31] (live)), by decide +kernel⟩,
   ⟨31, (pkt 98 [31]), (queued 31 98 [31] (live)), by decide +kernel⟩,
   ⟨31, (pkt 98 [33]), (queued 31 98 [33] (live)), by decide +kernel⟩,
   ⟨31, (pkt 98 [35]), (queued 31 98 [35] (live)), by decide +kernel⟩⟩

theorem witness_ControlCommands :
    (∃ (n : Nat) (p : Packet) (s : State), Taken s n p 0x40 ∧ s.rd ENG_STAT.SWITCH_PEND ≠ 1 ∧ s.inf ENG_SET.MODE (p.par 0) = 1) ∧
    (∃ (n : Nat) (p : Packet) (s : State), Taken s n p 0x40 ∧ ((s.rd ENG_STAT.SWITCH_PEND = 1 ∨ s.inf ENG_SET.MODE (p.par 0) ≠ 1))) ∧
    (∃ (n : Nat) (p : Packet) (s : State), Taken s n p 0x41) ∧
    (∃ (n : Nat) (p : Packet) (s : State), Taken s n p 0x42 ∧ s.rd ENG_STAT.OPEN = 0 ∧ s.eng.openReq = [] ∧ s.rd ENG_STAT.SWITCH_PEND ≠ 1 ∧ ((s.bankOf (1 - s.rd ENG_STAT.BANK)).valid = true) ∧ s.scheduleStatus (s.targetOf p) = stOK) ∧
    (∃ (n : Nat) (p : Packet) (s : State), Taken s n p 0x42 ∧ s.rd ENG_STAT.OPEN ≠ 0) ∧
    (∃ (n : Nat) (p : Packet) (s : State), Taken s n p 0x43) ∧
    (∃ (n : Nat) (p : Packet) (s : State), Taken s n p 0x44 ∧ p.par 0 < 6) ∧
    (∃ (n : Nat) (p : Packet) (s : State), Taken s n p 0xF0 ∧ s.scheduleStatus (s.extend (p.stamp 1)) = stOK) ∧
    (∃ (n : Nat) (p : Packet) (s : State), Taken s n p 0x50 ∧ s.carrierOn = true ∧ p.par 0 = 3) ∧
    (∃ (n : Nat) (p : Packet) (s : State), Taken s n p 0x50 ∧ s.carrierOn = true ∧ p.par 0 = 1 ∧ serialNewer 32 (p.par 1) (s.rd CAR_EPOCH_SEEN.EPOCH) = true) ∧
    (∃ (n : Nat) (p : Packet) (s : State), Taken s n p 0x50 ∧ s.carrierOn = false) ∧
    (∃ (n : Nat) (p : Packet) (s : State), Taken s n p 0x51) ∧
    (∃ (n : Nat) (p : Packet) (s : State), Taken s n p 0x52) ∧
    (∃ (n : Nat) (p : Packet) (s : State), Taken s n p 0x53) ∧
    (∃ (n : Nat) (p : Packet) (s : State), Taken s n p 0x70 ∧ ((bits 31 28 (p.par 0) = 1 ∨ bits 31 28 (p.par 0) = 2)) ∧ accelSource (p.par 0) = true) ∧
    (∃ (n : Nat) (p : Packet) (s : State), Taken s n p 0x71 ∧ bits 31 28 (p.par 0) = 4 ∧ accelSource (p.par 0) = true ∧ s.ladder ≠ lPOWER ∧ s.ladder ≠ lDIE ∧ ((s.rc.dieAt.filter (fun a => decide (s.tick < a + 600000000))).length + 1 ≤ s.inf RC_CFG2.DIE_MAX)) ∧
    (∃ (n : Nat) (p : Packet) (s : State), Taken s n p 0x71 ∧ bits 31 28 (p.par 0) = 5 ∧ accelSource (p.par 0) = true ∧ s.ladder ≠ lPOWER) ∧
    (∃ (n : Nat) (p : Packet) (s : State), Taken s n p 0x71 ∧ s.ladder = lPOWER ∧ 3 ≤ bits 31 28 (p.par 0) ∧ bits 31 28 (p.par 0) ≤ 5 ∧ accelSource (p.par 0) = true) ∧
    (∃ (n : Nat) (p : Packet) (s : State), Taken s n p 0x72) ∧
    (∃ (n : Nat) (p : Packet) (s : State), Taken s n p 0x73) ∧
    (∃ (n : Nat) (p : Packet) (s : State), Taken s n p 0x74) ∧
    (∃ (n : Nat) (p : Packet) (s : State), Taken s n p 0x80 ∧ bits 31 30 (p.par 0) = 1 ∧ s.present (bits 13 0 (p.par 0) / 64) = true ∧ isCluster (bits 13 0 (p.par 0) / 64) = true) ∧
    (∃ (n : Nat) (p : Packet) (s : State), Taken s n p 0x80 ∧ bits 31 30 (p.par 0) = 2 ∧ s.present (bits 13 0 (p.par 0) / 64) = true ∧ isCluster (bits 13 0 (p.par 0) / 64) = true) ∧
    (∃ (n : Nat) (p : Packet) (s : State), Taken s n p 0x80 ∧ bits 31 30 (p.par 0) = 0) ∧
    (∃ (n : Nat) (p : Packet) (s : State), Taken s n p 0x81 ∧ isCluster (p.par 0) = true ∧ s.present (p.par 0) = true) ∧
    (∃ (n : Nat) (p : Packet) (s : State), Taken s n p 0x82 ∧ isCluster (p.par 0 / 64) = true ∧ s.present (p.par 0 / 64) = true ∧ ((p.par 1).testBit 31 = true) ∧ ((p.par 1).testBit 30 = false)) ∧
    (∃ (n : Nat) (p : Packet) (s : State), Taken s n p 0x82 ∧ isCluster (p.par 0 / 64) = true ∧ s.present (p.par 0 / 64) = true ∧ ((p.par 1).testBit 30 = true) ∧ ((p.par 1).testBit 9 = true)) ∧
    (∃ (n : Nat) (p : Packet) (s : State), Taken s n p 0x83 ∧ isCluster (p.par 0) = true ∧ s.present (p.par 0) = true) ∧
    (∃ (n : Nat) (p : Packet) (s : State), Taken s n p 0x90 ∧ s.rd FW_STAT.SW_PEND ≠ 1 ∧ s.slotState (1 - s.rd FW_STAT.ACTIVE) ≠ 1) ∧
    (∃ (n : Nat) (p : Packet) (s : State), Taken s n p 0x91 ∧ s.slotState (1 - s.rd FW_STAT.ACTIVE) = 2 ∧ s.rd FW_STAT.SW_PEND ≠ 1 ∧ s.carRole = rMEMBER ∧ s.scheduleStatus (s.targetOf p) = stOK) ∧
    (∃ (n : Nat) (p : Packet) (s : State), Taken s n p 0x91 ∧ s.slotState (1 - s.rd FW_STAT.ACTIVE) = 0) ∧
    (∃ (n : Nat) (p : Packet) (s : State), Taken s n p 0x92 ∧ s.imgRefusal (bits 3 0 (p.par 0)) (bits 5 4 (p.par 0)) (bits 8 8 (p.par 0)) = none) ∧
    (∃ (n : Nat) (p : Packet) (s : State), Taken s n p 0x93 ∧ p.par 0 % 4 = 0 ∧ p.par 0 + 4 * (p.params.drop 1).length ≤ 262144 ∧ s.rd FW_STAT.SW_PEND ≠ 1) ∧
    (∃ (n : Nat) (p : Packet) (s : State), Taken s n p 0x94) ∧
    (∃ (n : Nat) (p : Packet) (s : State), Taken s n p 0x95) ∧
    (∃ (n off : Nat) (p : Packet) (s : State), Taken s n p 0xF1 ∧ p.params = [off] ∧ s.accessCause svcAcc false off = none) ∧
    (∃ (n off c : Nat) (p : Packet) (s : State), Taken s n p 0xF1 ∧ p.params = [off] ∧ s.accessCause svcAcc false off = some c) ∧
    (∃ (n v : Nat) (p : Packet) (s : State), Taken s n p 0xF2 ∧ p.params = [0x440, v]) ∧
    (∃ (n : Nat) (p : Packet) (s : State), Taken s n p 0xA0) ∧
    (∃ (n : Nat) (p : Packet) (s : State), Taken s n p 0xA1) :=
  ⟨⟨31, (pkt 64 [3]), (queued 31 64 [3] ((inf [(ENG_SET.MODE, 3, 1)] (live)))), by decide +kernel⟩,
   ⟨31, (pkt 64 [3]), (queued 31 64 [3] ((made [(ENG_STAT.SWITCH_PEND, 0, 1)] (live)))), by decide +kernel⟩,
   ⟨31, (pkt 65 [3]), (queued 31 65 [3] (live)), by decide +kernel⟩,
   ⟨31, (pkt 66 []), (queued 31 66 [] (((live).setEng (fun x => { x with bank1 := { valid := true } })))), by decide +kernel⟩,
   ⟨31, (pkt 66 []), (queued 31 66 [] ((made [(ENG_STAT.OPEN, 0, 1)] (live)))), by decide +kernel⟩,
   ⟨31, (pkt 67 []), (queued 31 67 [] (live)), by decide +kernel⟩,
   ⟨31, (pkt 68 [5]), (queued 31 68 [5] (live)), by decide +kernel⟩,
   ⟨31, (pkt 240 [(2 ^ 30 + 5 * 2 ^ 16), 500, 0]), (queued 31 240 [(2 ^ 30 + 5 * 2 ^ 16), 500, 0] (live)), by decide +kernel⟩,
   ⟨31, (pkt 80 [3, 0]), (queued 31 80 [3, 0] ((inf [(CAR_CFG.LINK_EN, 0, 15), (CAR_CFG.EN, 0, 1)] (live)))), by decide +kernel⟩,
   ⟨31, (pkt 80 [1, 1]), (queued 31 80 [1, 1] ((inf [(CAR_CFG.LINK_EN, 0, 15), (CAR_CFG.EN, 0, 1)] (live)))), by decide +kernel⟩,
   ⟨31, (pkt 80 [1, 1]), (queued 31 80 [1, 1] (live)), by decide +kernel⟩,
   ⟨31, (pkt 81 [7, 8]), (queued 31 81 [7, 8] (live)), by decide +kernel⟩,
   ⟨31, (pkt 82 [(5 * 2 ^ 16 + 1), 7, 7, 7, 7, 7, 7, 7, 7]), (queued 31 82 [(5 * 2 ^ 16 + 1), 7, 7, 7, 7, 7, 7, 7, 7] (live)), by decide +kernel⟩,
   ⟨31, (pkt 83 []), (queued 31 83 [] (live)), by decide +kernel⟩,
   ⟨0, (pkt 112 [(2 ^ 28 + 0x40 * 2 ^ 20)]), (queued 0 112 [(2 ^ 28 + 0x40 * 2 ^ 20)] (live)), by decide +kernel⟩,
   ⟨31, (pkt 113 [(4 * 2 ^ 28 + 0x7F * 2 ^ 20)]), (queued 31 113 [(4 * 2 ^ 28 + 0x7F * 2 ^ 20)] (live)), by decide +kernel⟩,
   ⟨31, (pkt 113 [(5 * 2 ^ 28 + 0x40 * 2 ^ 20)]), (queued 31 113 [(5 * 2 ^ 28 + 0x40 * 2 ^ 20)] (live)), by decide +kernel⟩,
   ⟨31, (pkt 113 [(3 * 2 ^ 28 + 0x40 * 2 ^ 20)]), (queued 31 113 [(3 * 2 ^ 28 + 0x40 * 2 ^ 20)] ((made [(RC_STAT.LADDER, 0, lPOWER)] (live)))), by decide +kernel⟩,
   ⟨31, (pkt 114 []), (queued 31 114 [] (live)), by decide +kernel⟩,
   ⟨31, (pkt 115 []), (queued 31 115 [] (live)), by decide +kernel⟩,
   ⟨31, (pkt 116 []), (queued 31 116 [] (live)), by decide +kernel⟩,
   ⟨0, (pkt 128 [(2 ^ 30 + 64 + 3), 0]), (queued 0 128 [(2 ^ 30 + 64 + 3), 0] (live)), by decide +kernel⟩,
   ⟨0, (pkt 128 [2 ^ 31 + 64 + 3, 0]), (queued 0 128 [2 ^ 31 + 64 + 3, 0]), by decide +kernel⟩,
   ⟨0, (pkt 128 [0, 0]), (queued 0 128 [0, 0] (live)), by decide +kernel⟩,
   ⟨31, (pkt 129 [0]), (queued 31 129 [0] (live)), by decide +kernel⟩,
   ⟨31, (pkt 130 [64, (2 ^ 31 + 3)]), (queued 31 130 [64, (2 ^ 31 + 3)] (live)), by decide +kernel⟩,
   ⟨31, (pkt 130 [127, (2 ^ 30 + 2 ^ 9)]), (queued 31 130 [127, (2 ^ 30 + 2 ^ 9)] (live)), by decide +kernel⟩,
   ⟨31, (pkt 131 [0]), (queued 31 131 [0] (live)), by decide +kernel⟩,
   ⟨31, (pkt 144 [0, 0, 0, 8]), (queued 31 144 [0, 0, 0, 8] (live)), by decide +kernel⟩,
   ⟨31, (pkt 145 []), (queued 31 145 [] ((made [(FW_SLOT_B.STATE, 0, 2)] (live)))), by decide +kernel⟩,
   ⟨31, (pkt 145 []), (queued 31 145 [] (live)), by decide +kernel⟩,
   ⟨31, (pkt 146 [6, 0, 0, 8]), (queued 31 146 [6, 0, 0, 8] (live)), by decide +kernel⟩,
   ⟨31, (pkt 147 [8, 0x04030201]), (queued 31 147 [8, 0x04030201] (live)), by decide +kernel⟩,
   ⟨31, (pkt 148 [0x801]), (queued 31 148 [0x801] (live)), by decide +kernel⟩,
   ⟨31, (pkt 149 []), (queued 31 149 [] (live)), by decide +kernel⟩,
   ⟨31, 0x440, (pkt 241 [0x440]), (queued 31 241 [0x440] (live)), by decide +kernel⟩,
   ⟨31, 0x2, 1, (pkt 241 [0x2]), (queued 31 241 [0x2] (live)), by decide +kernel⟩,
   ⟨31, 200, (pkt 242 [0x440, 200]), (queued 31 242 [0x440, 200] (live)), by decide +kernel⟩,
   ⟨31, (pkt 160 []), (queued 31 160 [] (live)), by decide +kernel⟩,
   ⟨31, (pkt 161 []), (queued 31 161 [] (live)), by decide +kernel⟩⟩

end Sys2Proof.Tests
end

section
/-! PROOF. Lock bits are set-only (R13): every command keeps the lock bits that are set, but for POR and the commands
that start a governor warm restart, which may clear them all. What every command keeps is gathered once, in `exec_kept`,
from the laws of `Laws/Kept….lean`; the statement follows by a choice of what the lock bits are to keep. -/

namespace Sys2Proof.Machine

variable {W : Bounds} {s : State}

/-! ### Bounds that leave every part and register field open -/

/-- The bounds allow a change of every part and of every register field. -/
structure Bounds.Open (W : Bounds) : Prop where
  part : ∀ q, W.part q
  fld : ∀ F, W.fld F

theorem Bounds.Open.logs (o : W.Open) : Logs W :=
  ⟨o.part _, o.part _, fun F _ => o.fld F⟩

/-- Work on `s` that keeps the property `P` of the lock bits, and is free in every part and register field. -/
def Bounds.onLocks (s : State) (P : Locks → Prop) : Bounds :=
  ⟨s.pending, s.tick, P, s, fun _ => True, fun _ => True⟩

theorem Bounds.onLocks_open (s : State) (P : Locks → Prop) : (Bounds.onLocks s P).Open :=
  ⟨fun _ => trivial, fun _ => trivial⟩

theorem kept_onLocks {P : Locks → Prop} (h : P s.locks) : Kept (.onLocks s P) s :=
  ⟨rfl, rfl, h, id, fun q _ => q.same_refl s, fun _ _ _ => rfl⟩

/-! ### What every command keeps -/

/-- The commands that can neither begin a tick nor reset its count. -/
def KeepsTick : Instr → Prop
  | .por _ | .tooth _ | .synthesisedTick _ | .relock _ => False
  | _ => True

/-- A command that leaves the tick alone keeps what the bounds ask of the lock bits, where that survives a warm restart,
if the command starts one, and a set of further lock bits otherwise. -/
theorem exec_kept (c : Instr) (hc : KeepsTick c) (h : Kept W s) (o : W.Open) (hr : Restarts c → W.locks {})
    (hj : ¬ Restarts c → ∀ a b : Locks, W.locks a → W.locks (a.join b)) : KeptO W (exec c s) := by
  have hl := o.logs
  cases c
  case por | tooth | synthesisedTick | relock => exact hc.elim
  case' bootFirmwareLoad => apply kept_execBootFirmwareLoad h
  case' otpProgram => apply kept_execOtpProgram h
  case' locked => apply kept_execLocked h
  case' cadenceLost => apply kept_execCadenceLost h
  case' fwPublish => apply kept_execFwPublish h
  case' fwOverrun => apply kept_execFwOverrun h
  case' engineOverrun => apply kept_execEngineOverrun h
  case' hubFaultEsc => apply kept_execHubFaultEsc h
  case' domRelease => apply kept_execDomRelease h
  case' domPromote => apply kept_execDomPromote h
  case' domOverdue => apply kept_execDomOverdue h
  case' domSlice => apply kept_execDomSlice h
  case' featherTrigger => apply kept_execFeatherTrigger h
  case' tripClear => apply kept_execTripClear h
  case' featherHoldExpiry => apply kept_execFeatherHoldExpiry h
  case' featherReturnStep => apply kept_execFeatherReturnStep h
  case' brake => apply kept_execBrake h
  case' vrAlertDeassert => apply kept_execVrAlertDeassert h
  case' brakeReleaseStep => apply kept_execBrakeReleaseStep h
  case' alertSourceTimeout => apply kept_execAlertSourceTimeout h
  case' alertHoldExpiry => apply kept_execAlertHoldExpiry h
  case' spokeFrame => apply kept_execSpokeFrame h
  case' spokeFault => apply kept_execSpokeFault h
  case' subtick => apply kept_execSubtick h
  case' ceilRise => apply kept_execCeilRise h
  case' imonFault => apply kept_execImonFault h
  case' imonValid => apply kept_execImonValid h
  case' domainRampEvent => apply kept_execDomainRampEvent h
  case' rampUpStart => apply kept_execRampUpStart h
  case' rampUpEnd => apply kept_execRampUpEnd h
  case' settleEnd => apply kept_execSettleEnd h
  case' drainStart => apply kept_execDrainStart h
  case' drainEnd => apply kept_execDrainEnd h
  case' rampDownStart => apply kept_execRampDownStart h
  case' rampDownEnd => apply kept_execRampDownEnd h
  case' coolStop => apply kept_execCoolStop h
  case' selfRefreshAck => apply kept_execSelfRefreshAck h
  case' srFault => apply kept_execSrFault h
  case' flowGood1s => apply kept_execFlowGood1s h
  case' restEntryStart => apply kept_execRestEntryStart h
  case' restEntryWave => apply kept_execRestEntryWave h
  case' restEntered => apply kept_execRestEntered h
  case' restWakeStart => apply kept_execRestWakeStart h
  case' restWakeWave => apply kept_execRestWakeWave h
  case' restExited => apply kept_execRestExited h
  case' ack => apply kept_execAck h
  case' ackTimeout => apply kept_execAckTimeout h
  case' nak => apply kept_execNak h
  case' done => apply kept_execDone h
  case' doneDeadline => apply kept_execDoneDeadline h
  case' telem => apply kept_execTelem h
  case' warn => apply kept_execWarn h
  case' trainDone => apply kept_execTrainDone h
  case' queryTimeout => apply kept_execQueryTimeout h
  case' linkSuspect => apply kept_execLinkSuspect h
  case' linkRecover => apply kept_execLinkRecover h
  case' linkFault => apply kept_execLinkFault h
  case' faultRetrain => apply kept_execFaultRetrain h
  case' diodeConversion => apply kept_execDiodeConversion h
  case' thermistorConversion => apply kept_execThermistorConversion h
  case' driftCheck => apply kept_execDriftCheck h
  case' thermalStop => apply kept_execThermalStop h
  case' vrwDrop => apply kept_execVrwDrop h
  case' vrwRemove => apply kept_execVrwRemove h
  case' otpDeferredWrite => apply kept_execOtpDeferredWrite h
  case' capPwmEdge => apply kept_execCapPwmEdge h
  case' budgetPeriod => apply kept_execBudgetPeriod h
  case' classRestore => apply kept_execClassRestore h
  case' idleGate => apply kept_execIdleGate h
  case' waitTimeout => apply kept_execWaitTimeout h
  case' backoffRetry => apply kept_execBackoffRetry h
  case' hintPrestage => apply kept_execHintPrestage h
  case' hintExpiry => apply kept_execHintExpiry h
  case' hintEnd => apply kept_execHintEnd h
  case' modelImageTake => apply kept_execModelImageTake h
  case' bankSwitchFire => apply kept_execBankSwitchFire h
  case' regionSwitch => apply kept_execRegionSwitch h
  case' openTimeout => apply kept_execOpenTimeout h
  case' notFollowing => apply kept_execNotFollowing h
  case' nfClear => apply kept_execNfClear h
  case' nodeDumpFire => apply kept_execNodeDumpFire h
  case' nop => apply kept_execNop h
  case' lda => apply kept_execLda h
  case' mvm => apply kept_execMvm h
  case' vmul => apply kept_execVmul h
  case' addi => apply kept_execAddi h
  case' rnd => apply kept_execRnd h
  case' sub => apply kept_execSub h
  case' clmp => apply kept_execClmp h
  case' intg => apply kept_execIntg h
  case' cvt => apply kept_execCvt h
  case' minsel => apply kept_execMinsel h
  case' mov => apply kept_execMov h
  case' engEnd => apply kept_execEnd h
  case' keepSend => apply kept_execKeepSend h
  case' paceLinkDown => apply kept_execPaceLinkDown h
  case' keep => apply kept_execKeep h
  case' reportSend => apply kept_execReportSend h
  case' report => apply kept_execReport h
  case' carrierPeriod => apply kept_execCarrierPeriod h
  case' share => apply kept_execShare h
  case' shareTimeout => apply kept_execShareTimeout h
  case' memberLost => apply kept_execMemberLost h
  case' takeover => apply kept_execTakeover h
  case' leaseExpiry => apply kept_execLeaseExpiry h
  case' offerSend => apply kept_execOfferSend h
  case' offer => apply kept_execOffer h
  case' carrierLost => apply kept_execCarrierLost h
  case' pointSend => apply kept_execPointSend h
  case' pelPoint => apply kept_execPoint h
  case' cpoint => apply kept_execCpoint h
  case' pelotonApply => apply kept_execPelotonApply h
  case' psyncReqSend => apply kept_execPsyncReqSend h
  case' psyncReq => apply kept_execPsyncReq h
  case' psyncRsp => apply kept_execPsyncRsp h
  case' drag => apply kept_execDrag h
  case' dragRise => apply kept_execDragRise h
  case' dragClear => apply kept_execDragClear h
  case' cantFollow => apply kept_execCantFollow h
  case' pacelineReturn => apply kept_execPacelineReturn h
  case' orphan => apply kept_execOrphan h
  case' abort => apply kept_execAbort h
  case' applStep => apply kept_execApplStep h
  case' fencePoll => apply kept_execFencePoll h
  case' fenceWaitExpiry => apply kept_execFenceWaitExpiry h
  case' ombPost => apply kept_execOmbPost h
  case' rcHb => apply kept_execRcHb h
  case' hbMiss => apply kept_execHbMiss h
  case' noticeExpiry => apply kept_execNoticeExpiry h
  case' partitionStepDone => apply kept_execPartitionStepDone h
  case' dieStepDone => apply kept_execDieStepDone h
  case' bootExpiry => apply kept_execBootExpiry h
  case' wdogKick => apply kept_execWdogKick h
  case' wdogExpiry => apply kept_execWdogExpiry h
  case' engFaultTimeout => apply kept_execEngFaultTimeout h
  case' govRstNFall => apply kept_execGovRstNFall h
  case' firstPublication => apply kept_execFirstPublication h
  case' fwSwitchover => apply kept_execFwSwitchover h
  case' swFail => apply kept_execSwFail h
  case' fwLoadDone => apply kept_execFwLoadDone h
  case' imgLoadDone => apply kept_execImgLoadDone h
  case' meterSample => apply kept_execMeterSample h
  case' meterWindow => apply kept_execMeterWindow h
  case' meterPublish => apply kept_execMeterPublish h
  case' publication => apply kept_execPublication h
  case' publicationMissing => apply kept_execPublicationMissing h
  case' meterCheckpoint => apply kept_execMeterCheckpoint h
  case' pfw => apply kept_execPfw h
  case' pfwEnd => apply kept_execPfwEnd h
  case' vmtrLoss => apply kept_execVmtrLoss h
  case' meterPowerUp => apply kept_execMeterPowerUp h
  case' sealBreak => apply kept_execSealBreak h
  case' sealRestore => apply kept_execSealRestore h
  case' inhibitEntry => apply kept_execInhibitEntry h
  case' inhibitExit => apply kept_execInhibitExit h
  case' shareCheckpoint => apply kept_execShareCheckpoint h
  case' shareRecord => apply kept_execShareRecord h
  case' submissionEntry => apply kept_execSubmissionEntry h
  case' completionEntry => apply kept_execCompletionEntry h
  case' mailboxTake => apply kept_execMailboxTake h
  case' put => apply kept_execPut h
  case' get => apply kept_execGet h
  case' stat => apply kept_execStat h
  case' ident => apply kept_execIdent h
  case' status => apply kept_execStatus h
  case' echo => apply kept_execEcho h
  case' readTick => apply kept_execReadTick h
  case' svcCap => apply kept_execSvcCap h
  case' setPart => apply kept_execSetPart h
  case' assign => apply kept_execAssign h
  case' budgetRead => apply kept_execBudgetRead h
  case' partRead => apply kept_execPartRead h
  case' domainOn => apply kept_execDomainOn h
  case' domainOff => apply kept_execDomainOff h
  case' restEnter => apply kept_execRestEnter h
  case' restExit => apply kept_execRestExit h
  case' domainRead => apply kept_execDomainRead h
  case' hintPhase => apply kept_execHintPhase h
  case' hintCancel => apply kept_execHintCancel h
  case' loopOpen => apply kept_execLoopOpen h
  case' loopClose => apply kept_execLoopClose h
  case' bankSwitch => apply kept_execBankSwitch h
  case' traceArm => apply kept_execTraceArm h
  case' engRead => apply kept_execEngRead h
  case' lease => apply kept_execLease h
  case' carrierCap => apply kept_execCarrierCap h
  case' pelSet => apply kept_execPelSet h
  case' pelRead => apply kept_execPelRead h
  case' snapshot => apply kept_execSnapshot h
  case' attClear => apply kept_execAttClear h
  case' energyRead => apply kept_execEnergyRead h
  case' recoveryReport => apply kept_execRecoveryReport h
  case' recoveryStep => apply kept_execRecoveryStep h
  case' warmRestart => apply kept_execWarmRestart h
  case' errRead => apply kept_execErrRead h
  case' errClear => apply kept_execErrClear h
  case' suspectReport => apply kept_execSuspectReport h
  case' suspectClear => apply kept_execSuspectClear h
  case' coreCtrl => apply kept_execCoreCtrl h
  case' marginRead => apply kept_execMarginRead h
  case' fwLoad => apply kept_execFwLoad h
  case' fwSwitch => apply kept_execFwSwitch h
  case' imgLoad => apply kept_execImgLoad h
  case' stageWrite => apply kept_execStageWrite h
  case' lockSet => apply kept_execLockSet h
  case' lockRead => apply kept_execLockRead h
  case' meterIdent => apply kept_execMeterIdent h
  case' meterRead => apply kept_execMeterRead h
  case' meterAccount => apply kept_execMeterAccount h
  case' meterEvent => apply kept_execMeterEvent h
  case' calWrite => apply kept_execCalWrite h
  case' calCommit => apply kept_execCalCommit h
  case' setSerial => apply kept_execSetSerial h
  case' setTol => apply kept_execSetTol h
  case' nodeDump => apply kept_execNodeDump h
  case' regRead => apply kept_execRegRead h
  case' regWrite => apply kept_execRegWrite h
  case' go => apply kept_execGo h
  case' fetch => apply kept_execFetch h
  case' sqTailWrite => apply kept_execSqTailWrite h
  case' cqHeadWrite => apply kept_execCqHeadWrite h
  case' ringEnable => apply kept_execRingEnable h
  case' ringDisable => apply kept_execRingDisable h
  case' transportMode => apply kept_execTransportMode h
  case' permEffWrite => apply kept_execPermEffWrite h
  case' lockCfg => apply kept_execLockCfg h
  case' lockPerm => apply kept_execLockPerm h
  case' lockTransport => apply kept_execLockTransport h
  case' lockFw => apply kept_execLockFw h
  case' lockDiag => apply kept_execLockDiag h
  case' peakClr => apply kept_execPeakClr h
  case' sscApply => apply kept_execSscApply h
  case' retrain => apply kept_execRetrain h
  case' emAttClr => apply kept_execEmAttClr h
  case' arm => apply kept_execArm h
  case' rcClrErr => apply kept_execRcClrErr h
  case' pwSnap => apply kept_execPwSnap h
  case' flush => apply kept_execFlush h
  case' take => apply kept_execTake h
  case' rearm => apply kept_execRearm h
  case' snapLoRead => apply kept_execSnapLoRead h
  case' snapHiRead => apply kept_execSnapHiRead h
  case' pairLoWrite => apply kept_execPairLoWrite h
  case' pairHiWrite => apply kept_execPairHiWrite h
  case' registerWrite => apply kept_execRegisterWrite h
  case' govRstNRise => apply kept_execGovRstNRise h
  case' receiveError => apply kept_execReceiveError h
  case' messageDiscarded => apply kept_execMessageDiscarded h
  case' capPwmNoEdge => apply kept_execCapPwmNoEdge h
  case' meterPortByteGap => apply kept_execMeterPortByteGap h
  all_goals first
    | exact o.part _
    | exact o.fld _
    | exact hl
    | exact o.fld
    | exact hr trivial
    | exact hj id

/-- A tooth, a synthesised tick and a relock do the same, and may begin a tick. -/
theorem exec_kept_tick {i : TickIn} {c : Instr} (hc : c = .tooth i ∨ c = .synthesisedTick i ∨ c = .relock i)
    (h : Kept W s) (o : W.Open) : KeptO W (exec c s) ∨ KeptO { W with tick := W.tick + 1 } (exec c s) := by
  have hl := o.logs
  obtain rfl | rfl | rfl := hc
  case' inl => apply kept_execTooth h
  case' inr.inl => apply kept_execSynthesisedTick h
  case' inr.inr => apply kept_execRelock h
  all_goals first
    | exact o.part _
    | exact hl
    | exact o.fld

/-- Every command but POR answers a next state whose lock bits still have the property `P`, where `P` survives a warm
restart, if the command starts one, and a set of further lock bits otherwise. -/
theorem exec_keeps_locks {P : Locks → Prop} (c : Instr) (hp : ∀ x, c ≠ .por x) (h : P s.locks)
    (hr : Restarts c → P {}) (hj : ¬ Restarts c → ∀ a b : Locks, P a → P (a.join b)) :
    Answers c s (fun t => P t.locks) := by
  have hs : Kept (.onLocks s P) s := kept_onLocks h
  have ho := Bounds.onLocks_open s P
  have tick : ∀ {i : TickIn}, c = .tooth i ∨ c = .synthesisedTick i ∨ c = .relock i →
      Answers c s (fun t => P t.locks) := fun hc => by
    obtain ⟨t, e, k⟩ | ⟨t, e, k⟩ := exec_kept_tick hc hs ho
    · exact ⟨t, e, k.locks⟩
    · exact ⟨t, e, k.locks⟩
  by_cases hc : KeepsTick c
  · obtain ⟨t, e, k⟩ := exec_kept c hc hs ho hr hj
    exact ⟨t, e, k.locks⟩
  · cases c
    case por x => exact absurd rfl (hp x)
    case tooth => exact tick (.inl rfl)
    case synthesisedTick => exact tick (.inr (.inl rfl))
    case relock => exact tick (.inr (.inr rfl))
    all_goals exact absurd trivial hc

/-! ### POR and a warm restart clear every lock bit -/

theorem por_clears_locks (x : SelfTest) (s : State) : Answers (.por x) s (fun t => t.locks = {}) := by
  obtain ⟨t, e, k⟩ := kept_execPor (t := x) (s := s)
  exact ⟨t, e, k.locks⟩

/-- A warm restart clears the lock bits (R302), and what it cancels and the slot it selects do not set them again. -/
theorem restartCleared_locks (s : State) : s.clearForRestart.cancelInhibited.selectSlot.locks = {} := by
  have ho := Bounds.onLocks_open { s with locks := {} } (· = {})
  have hs : Kept (.onLocks { s with locks := {} } (· = {})) { s with locks := {} } := kept_onLocks rfl
  -- to clear the lock bits first makes no difference to `clearForRestart`
  have hc : Kept (.onLocks { s with locks := {} } (· = {})) s.clearForRestart := by
    apply kept_clearForRestart hs <;> first | exact ho.part _ | exact ho.fld _ | exact ho.logs | rfl
  have hi : Kept (.onLocks { s with locks := {} } (· = {})) s.clearForRestart.cancelInhibited := by
    apply kept_cancelInhibited hc <;> first | exact ho.part _ | exact ho.fld _ | exact ho.logs
  exact (kept_selectSlot hi (ho.fld _) (ho.fld _) (ho.fld _) (ho.fld _)).locks

/-- Step POWER, which a restart storm enters (R303), does not touch the lock bits. -/
theorem enterPower_locks (s : State) (code : Nat) : (s.enterPower code).locks = s.locks := by
  have ho := Bounds.onLocks_open s (· = s.locks)
  have hs : Kept (.onLocks s (· = s.locks)) s := kept_onLocks rfl
  have k : Kept (.onLocks s (· = s.locks)) (s.enterPower code) := by
    apply kept_enterPower hs <;> first | exact ho.part _ | exact ho.fld _ | exact ho.logs
  exact k.locks

theorem enterPowerIf_locks {storm : Prop} [Decidable storm] {code : Nat} (h : s.locks = {}) :
    (if storm then s.enterPower code else s).locks = {} := by
  split
  · exact (enterPower_locks s code).trans h
  · exact h

/-- Stated of the end of `beginRestart` and matched with it as a whole: unfolding its chain of `let`s first is too much
for the kernel. -/
theorem beginRestart_locks (s : State) (source detail : Nat) : (s.beginRestart source detail).locks = {} :=
  enterPowerIf_locks (restartCleared_locks _)

end Sys2Proof.Machine

namespace Sys2Proof

open Sys2Proof.Machine

/-! ### Lock bits that stay set -/

theorem LocksKept.refl (a : Locks) : LocksKept a a :=
  ⟨id, id, id, id, id⟩

theorem LocksKept.join {a b : Locks} (h : LocksKept a b) (c : Locks) : LocksKept a (b.join c) := by
  obtain ⟨hcfg, hperm, htransport, hfw, hdiag⟩ := h
  have left : ∀ {x y z : Bool}, (x → y) → x → (y || z) := fun f hx => by simp [f hx]
  exact ⟨left hcfg, left hperm, left htransport, left hfw, left hdiag⟩

/-- A command that starts no warm restart keeps the set lock bits; one that may, keeps them (where it starts none) or
clears them all. -/
theorem exec_locks (c : Instr) (s : State) :
    Answers c s (fun t => LocksKept s.locks t.locks ∨ (Restarts c ∧ t.locks = {})) := by
  by_cases hr : Restarts c
  · by_cases hp : ∃ x, c = .por x
    · obtain ⟨x, rfl⟩ := hp
      obtain ⟨t, e, ht⟩ := por_clears_locks x s
      exact ⟨t, e, .inr ⟨hr, ht⟩⟩
    · exact exec_keeps_locks c (fun x e => hp ⟨x, e⟩) (P := fun l => LocksKept s.locks l ∨ (Restarts c ∧ l = {}))
        (.inl (.refl _)) (fun _ => .inr ⟨hr, rfl⟩) (fun n => absurd hr n)
  · obtain ⟨t, e, ht⟩ := exec_keeps_locks c (fun x e => hr (e ▸ trivial)) (P := LocksKept s.locks) (.refl _)
      (fun k => absurd k hr) (fun _ _ b h => h.join b)
    exact ⟨t, e, .inl ht⟩

/-- Settles O6: what every command keeps (`exec_locks`), and the two places where the lock bits clear (R13). -/
theorem lockBitsOnlySet : Obligations.LockBitsOnlySet := by
  refine ⟨fun c s t h => ?_, beginRestart_locks, por_clears_locks⟩
  obtain ⟨u, e, hu⟩ := exec_locks c s
  rw [h] at e
  cases e
  exact hu

end Sys2Proof
end

section
/-! PROOF. Teeth and synthesised ticks (R16 to R23): whatever a boundary does, TICK advances by one in it (`boundary_tick`),
so it advances by one wherever a tooth is accepted or a tick is synthesised, and not where a tooth is noise. -/

namespace Sys2Proof.Machine

variable {s : State}

theorem on_iff {F : Fld} {n : Nat} : s.on F n = true ↔ s.rd F n = 1 := by
  simp [State.on]

theorem on_false_iff {F : Fld} {n : Nat} : s.on F n = false ↔ s.rd F n ≠ 1 := by
  simp [State.on]

/-! ### What the tick reads after each kind of tooth -/

@[simp] theorem boundary_tick (s : State) (i : TickIn) (synth : Bool) : (s.boundary i synth).tick = s.tick + 1 := by
  have o := Bounds.onLocks_open s (fun _ => True)
  have k : Kept { Bounds.onLocks s (fun _ => True) with tick := s.tick + 1 } (s.boundary i synth) := by
    apply kept_boundary (kept_onLocks trivial) <;> first | exact o.part _ | exact o.logs | exact o.fld
  exact k.tick

@[simp] theorem acceptTooth_tick (s : State) (i : TickIn) : (s.acceptTooth i).tick = s.tick + 1 := by
  simp [State.acceptTooth]

@[simp] theorem learnTooth_tick (s : State) (i : TickIn) : (s.learnTooth i).tick = s.tick + 1 := by
  simp [State.learnTooth]

@[simp] theorem endRelock_tick (s : State) (i : TickIn) : (s.endRelock i).tick = s.tick + 1 := by
  simp [State.endRelock]

@[simp] theorem synthesise_tick (s : State) (i : TickIn) (e : Nat) : (s.synthesise i e).tick = s.tick + 1 := by
  simp [State.synthesise]

@[simp] theorem noise_tick (s : State) : s.noise.tick = s.tick := by
  simp [State.noise]

/-- Beside the run of relock teeth, `relockSpacing` may set RELOCKING. -/
theorem relockSpacing_cases (s : State) (now : Nat) :
    s.relockSpacing now = s ∨ ∃ f, s.relockSpacing now = s.setCad f ∨
      s.relockSpacing now = (s.setCad f).wr CAD_STAT.RELOCKING 0 1 := by
  unfold State.relockSpacing
  split
  · exact .inl rfl
  · extract_lets gap good run u
    split
    · exact .inr ⟨_, .inr rfl⟩
    · exact .inr ⟨_, .inl rfl⟩

@[simp] theorem relockSpacing_tick (s : State) (now : Nat) : (s.relockSpacing now).tick = s.tick := by
  obtain h | ⟨f, h | h⟩ := relockSpacing_cases s now <;> simp [h]

/-! ### A tooth that is noise -/

theorem noise_rd_NOISE (s : State) :
    s.noise.rd CAD_NOISE_CNT.NOISE = (s.rd CAD_NOISE_CNT.NOISE + 1) % 2 ^ CAD_NOISE_CNT.NOISE.width := by
  unfold State.noise
  rw [rd_raise _ _ _ _ _ _ (by decide) (by decide), State.inc, rd_wr_same]

theorem rd_relockSpacing (s : State) (now : Nat) (F : Fld) (n : Nat) (h : F.key n ≠ CAD_STAT.RELOCKING.key 0) :
    (s.relockSpacing now).rd F n = s.rd F n := by
  obtain e | ⟨f, e | e⟩ := relockSpacing_cases s now <;> rw [e]
  · rfl
  · exact rd_wr_ne _ _ _ _ _ _ h

theorem validateTooth_tick_of_inWindow {i : TickIn} (h : s.inWindow i.now = true) :
    (s.validateTooth i).tick = s.tick + 1 := by
  unfold State.validateTooth
  simp only [h, if_true, relockSpacing_tick, acceptTooth_tick]
  split <;> simp

theorem validateTooth_of_not_inWindow {i : TickIn} (h : s.inWindow i.now = false) :
    s.validateTooth i = s.noise.relockSpacing i.now := by
  simp [State.validateTooth, h]

/-! ### Which of these a command does -/

theorem exec_tooth_learn {i : TickIn} (h : s.rd CAD_STAT.LOCKED ≠ 1) :
    exec (.tooth i) s = .next (s.quiet.learnTooth i) := by
  change execTooth i s = _
  simp [execTooth, on_false_iff.mpr h]

theorem exec_tooth_validate {i : TickIn} (h : s.rd CAD_STAT.LOCKED = 1) (hr : s.rd CAD_STAT.RELOCKING ≠ 1) :
    exec (.tooth i) s = .next (s.quiet.validateTooth i) := by
  change execTooth i s = _
  simp [execTooth, on_iff.mpr h, on_false_iff.mpr hr]

theorem atCycle_of_eq {t now : Nat} (h : 256 * now = t) : atCycle t now = true := by
  simp [atCycle, h]

theorem exec_synthesisedTick {i : TickIn} (h : s.rd CAD_STAT.LOCKED = 1) (hr : s.rd CAD_STAT.RELOCKING ≠ 1)
    (hc : 256 * i.now = s.cad.exp + s.period + s.halfWidth) :
    exec (.synthesisedTick i) s = .next (s.quiet.synthesise i (s.cad.exp + s.period)) := by
  change execSynthesisedTick i s = _
  simp [execSynthesisedTick, on_iff.mpr h, on_false_iff.mpr hr, atCycle_of_eq hc]

theorem exec_relock {i : TickIn} (hr : s.rd CAD_STAT.RELOCKING = 1) (hw : s.inRelock i.now = true) :
    exec (.relock i) s = .next (s.quiet.endRelock i) := by
  change execRelock i s = _
  simp [execRelock, on_iff.mpr hr, hw]

/-- TICK does not change with any command but the ticks and POR (R23). -/
theorem exec_keeps_tick (c : Instr) (hc : KeepsTick c) (s : State) : Answers c s (fun t => t.tick = s.tick) := by
  obtain ⟨t, e, k⟩ := (exec_kept c hc (kept_onLocks (P := fun _ => True) trivial) (Bounds.onLocks_open s _)
    (fun _ => trivial) (fun _ _ _ _ => trivial)).kept
  exact ⟨t, e, k.tick⟩

theorem por_tick (x : SelfTest) (s : State) : Answers (.por x) s (fun t => t.tick = 0) := by
  obtain ⟨t, e, k⟩ := kept_execPor (t := x) (s := s)
  exact ⟨t, e, k.tick⟩

end Sys2Proof.Machine

namespace Sys2Proof

open Sys2Proof.Machine

/-- Settles O10: each kind of tooth and the synthesised tick by the one boundary they end in (`boundary_tick`), the window
by its definition, and the commands that leave TICK alone by `exec_keeps_tick`. -/
theorem teethAndSynthesis : Obligations.TeethAndSynthesis := by
  refine ⟨fun i s h => ?_, fun i s h hr hw => ?_, fun i s h hr hw => ?_, fun i s h hr hc => ?_, fun i s hr hw => ?_,
    fun s now => ?_, exec_keeps_tick _ trivial, exec_keeps_tick _ trivial, por_tick⟩
  · exact ⟨_, exec_tooth_learn h, learnTooth_tick _ i⟩
  · exact ⟨_, exec_tooth_validate h hr, validateTooth_tick_of_inWindow (s := s.quiet) hw⟩
  · have hn : s.quiet.validateTooth i = s.quiet.noise.relockSpacing i.now := validateTooth_of_not_inWindow hw
    refine ⟨_, exec_tooth_validate h hr, ?_, ?_⟩ <;> rw [hn]
    · simp
    · rw [rd_relockSpacing _ _ _ _ (by decide), noise_rd_NOISE, quiet_rd]
  · exact ⟨_, exec_synthesisedTick h hr hc, synthesise_tick ..⟩
  · exact ⟨_, exec_relock hr hw, endRelock_tick ..⟩
  · simp only [State.inWindow, Bool.and_eq_true, decide_eq_true_eq]
    rfl

end Sys2Proof
end

section
/-! PROOF. Runs of domestique tasks (R34 to R38): what a release, a promotion and an overdue run write, that logging leaves
the run of every task as it is (`raiseLog_run`), and what one slice of tasks 5 and 9 does. -/

namespace Sys2Proof.Machine

variable {s : State}

/-! ### Tasks and their registers -/

/-- A task without its releases not yet taken. -/
def Task.run (t : Task) : Task :=
  { t with due := 0 }

@[simp] theorem setTask_task_same (s : State) (n : Nat) (f : Task → Task) : (s.setTask n f).task n = f (s.task n) := by
  simp [State.task, State.setTask]

@[simp] theorem setTask_rd (s : State) (n : Nat) (f : Task → Task) (F : Fld) (i : Nat) :
    (s.setTask n f).rd F i = s.rd F i := rfl

@[simp] theorem setTask_bus (s : State) (n : Nat) (f : Task → Task) : (s.setTask n f).bus = s.bus := rfl

@[simp] theorem setTask_emit (s : State) (n : Nat) (f : Task → Task) : (s.setTask n f).emit = s.emit := rfl

theorem task_congr {t : State} (h : t.cad = s.cad) (n : Nat) : t.task n = s.task n := by
  rw [State.task, State.task, h]

@[simp] theorem wr_task (s : State) (F : Fld) (i v n : Nat) : (s.wr F i v).task n = s.task n :=
  task_congr (wr_cad ..) n

/-- Two fields of one register array lie at different bit addresses of every element. -/
theorem Fld.key_ne {F G : Fld} (hs : F.stride = G.stride) (hb : F.base ≠ G.base) (n : Nat) : F.key n ≠ G.key n := by
  simp [Fld.key, hs, hb]

/-- The registers of the run of task `n` are written: what DOM_STAT and DOM_AGE hold of it. -/
def State.writeRun (s : State) (n pending age : Nat) : State :=
  ((s.wr DOM_STAT.PENDING n pending).wr DOM_STAT.PROMOTED n 0).wr DOM_AGE.AGE n age

theorem writeRun_rd_PENDING (s : State) (n p a : Nat) : (s.writeRun n p a).rd DOM_STAT.PENDING n = p % 2 := by
  unfold State.writeRun
  rw [rd_wr_ne, rd_wr_ne, rd_wr_same]
  · rfl
  · exact Fld.key_ne (by rfl) (by decide) n
  · exact Fld.key_ne (by rfl) (by decide) n

theorem writeRun_rd_PROMOTED (s : State) (n p a : Nat) : (s.writeRun n p a).rd DOM_STAT.PROMOTED n = 0 := by
  unfold State.writeRun
  rw [rd_wr_ne, rd_wr_same, Nat.zero_mod]
  exact Fld.key_ne (by rfl) (by decide) n

theorem writeRun_rd_AGE (s : State) (n p a : Nat) : (s.writeRun n p a).rd DOM_AGE.AGE n = a % 2 ^ 32 :=
  rd_wr_same ..

@[simp] theorem writeRun_task (s : State) (n p a m : Nat) : (s.writeRun n p a).task m = s.task m := by
  simp [State.writeRun]

@[simp] theorem writeRun_bus (s : State) (n p a : Nat) : (s.writeRun n p a).bus = s.bus := by
  simp [State.writeRun]

/-! ### Releases -/

/-- A release has been taken in this tick. -/
def State.takeRelease (s : State) (n : Nat) : State :=
  s.setTask n (fun t => { t with due := t.due - 1, released := some s.tick })

theorem exec_domRelease_starts {n : Nat} (hn : n < 10) (hh : s.holdover = false) (hr : s.releasedNow n = true)
    (hp : s.taskPending n = false) :
    exec (.domRelease n) s = .next (((s.quiet.takeRelease n).setTask n
      (fun t => { t with left := slicesOf n, overdue := false })).writeRun n 1 1) := by
  change execDomRelease n s = _
  simp [execDomRelease, hn, hh, hr, hp, State.takeRelease, State.writeRun]

theorem exec_domRelease_merges {n : Nat} (hn : n < 10) (hh : s.holdover = false) (hr : s.releasedNow n = true)
    (hp : s.taskPending n = true) :
    exec (.domRelease n) s = .next ((s.quiet.takeRelease n).inc DOM_STAT.MERGED n) := by
  change execDomRelease n s = _
  simp [execDomRelease, hn, hh, hr, hp, State.takeRelease]

/-! ### Promotion and deadline -/

theorem exec_domPromote {n : Nat} (hn : n < 10) (hp : s.taskPending n = true)
    (ha : s.deadline n - s.deadline n / 4 ≤ s.rd DOM_AGE.AGE n) :
    exec (.domPromote n) s = .next (s.quiet.wr DOM_STAT.PROMOTED n 1) := by
  change execDomPromote n s = _
  simp [execDomPromote, hn, State.promoted, State.promoteAt, hp, ha]

theorem exec_domOverdue {n : Nat} (hn : n < 10) (hp : s.taskPending n = true)
    (ha : s.deadline n ≤ s.rd DOM_AGE.AGE n) (ho : (s.task n).overdue = false) :
    exec (.domOverdue n) s = .next (((s.quiet.setTask n (fun t => { t with overdue := true })).inc
      DOM_STAT.OVERDUE n).raiseLog .CAD_OVERDUE (arg0 n 0)) := by
  change execDomOverdue n s = _
  simp [execDomOverdue, hn, hp, ha, ho]

/-! ### Logging may release a task and leaves its run as it is -/

theorem run_congr {t : State} (h : t.cad = s.cad) (n : Nat) : (t.task n).run = (s.task n).run :=
  congrArg Task.run (task_congr h n)

theorem trigger_run (s : State) (k n : Nat) : ((s.trigger k).task n).run = (s.task n).run := by
  by_cases h : k = n
  · subst h; simp [State.trigger, State.task, Task.run]
  · simp [State.trigger, State.task, Table.get_upd_ne _ _ _ h]

theorem doorbell_run (s : State) (b n : Nat) : ((s.doorbell b).task n).run = (s.task n).run := by
  unfold State.doorbell
  split <;> exact run_congr (wrBit_cad ..) n

theorem countDrop_run (s : State) (n : Nat) : (s.countDrop.task n).run = (s.task n).run :=
  run_congr (by simp [State.countDrop]) n

theorem enterRec_run (s : State) (r : LogRec) (n : Nat) : ((s.enterRec r).task n).run = (s.task n).run := by
  unfold State.enterRec
  dsimp only
  split
  · rw [trigger_run]
    exact run_congr (by simp) n
  · exact run_congr (by simp) n

theorem enterDropped_run (s : State) (n : Nat) : (s.enterDropped.task n).run = (s.task n).run := by
  unfold State.enterDropped
  split
  · rfl
  · exact (enterRec_run _ _ n).trans (run_congr rfl n)

theorem tryRec_run (s : State) (r : LogRec) (n : Nat) : ((s.tryRec r).task n).run = (s.task n).run := by
  unfold State.tryRec
  split
  · exact countDrop_run s n
  · dsimp only
    split
    · rw [enterRec_run, enterDropped_run]
    · rw [countDrop_run, enterDropped_run]

theorem dropRec_run (s : State) (n : Nat) : (s.dropRec.task n).run = (s.task n).run := by
  unfold State.dropRec
  dsimp only
  split
  · rw [tryRec_run, doorbell_run, wr_task, countDrop_run]
  · rw [wr_task, countDrop_run]

theorem logRec_run (s : State) (r : LogRec) (n : Nat) : ((s.logRec r).task n).run = (s.task n).run := by
  unfold State.logRec
  split
  · exact dropRec_run s n
  · dsimp only
    split
    · rw [enterRec_run, enterDropped_run]
    · rw [dropRec_run, enterDropped_run]

theorem raiseLog_run (s : State) (e : Evt) (a b n : Nat) : ((s.raiseLog e a b).task n).run = (s.task n).run := by
  unfold State.raiseLog State.fwRec
  dsimp only
  rw [logRec_run]
  split
  · rw [doorbell_run, wr_task]
  · rw [wr_task]

theorem raiseLog_overdue (s : State) (e : Evt) (a b n : Nat) :
    ((s.raiseLog e a b).task n).overdue = (s.task n).overdue := by
  have h := congrArg Task.overdue (raiseLog_run s e a b n)
  exact h

/-- No bit address of DOM_STAT's OVERDUE counts is one that logging or the event OVERDUE writes. -/
theorem key_OVERDUE_not_logged {n : Nat} (hn : n < 10) :
    DOM_STAT.OVERDUE.key n ∉ logKeys ∧ DOM_STAT.OVERDUE.key n ≠ CAD_EVT.OVERDUE.key 0 := by
  revert n
  decide

/-! ### Slices -/

/-- The task with the earliest deadline is one that the predicate accepts. -/
theorem earliest_accepts {p : Nat → Bool} {n : Nat} (h : s.earliest p = some n) : p n = true := by
  refine List.foldlRecOn (motive := fun b => ∀ m, b = some m → p m = true) _ _ (by simp)
    (fun b hb a ha m hm => ?_) n h
  have hpa : p a = true := (List.mem_filter.mp ha).2
  cases b with
  | none => cases hm; exact hpa
  | some k =>
    dsimp only at hm
    split at hm
    · cases hm; exact hpa
    · exact hb m hm

/-- The slack has been used for one slice of task `n`. -/
def State.useSlack (s : State) (n : Nat) : State :=
  s.setCad (fun c => { c with slackUsed := c.slackUsed + sliceCycles n })

@[simp] theorem useSlack_task (s : State) (n m : Nat) : (s.useSlack n).task m = s.task m := rfl

@[simp] theorem useSlack_rd (s : State) (n : Nat) (F : Fld) (i : Nat) : (s.useSlack n).rd F i = s.rd F i := rfl

@[simp] theorem useSlack_emit (s : State) (n : Nat) : (s.useSlack n).emit = s.emit := rfl

theorem exec_domSlice_runs {n : Nat} {x : SliceIn} (hh : s.hubRuns = true) (hs : s.slackHolds n = true)
    (he : s.earliest s.taskPending = some n) :
    exec (.domSlice n x) s = .next ((s.quiet.useSlack n).runSlice n x) := by
  have he' : s.quiet.earliest s.quiet.taskPending = some n := he
  change execDomSlice n x s = _
  simp only [execDomSlice, quiet_hubRuns, quiet_slackHolds, he', hh, hs, beq_self_eq_true, Bool.and_self, if_true]
  rfl

theorem exec_domSlice_idle {n : Nat} {x : SliceIn}
    (h : s.slackHolds n = false ∨ s.earliest s.taskPending ≠ some n) : exec (.domSlice n x) s = .next s.quiet := by
  change execDomSlice n x s = _
  unfold execDomSlice
  dsimp only
  rw [if_neg]
  simp only [Bool.and_eq_true, beq_iff_eq, quiet_slackHolds]
  rintro ⟨⟨-, he⟩, hs⟩
  exact h.elim (fun h => by simp [h] at hs) (fun h => h he)

/-- The surroundings of a slice are taken. -/
def State.takeSrc (s : State) (x : SliceIn) : State :=
  s.setSpk (fun k => { k with src := if x.src.isEmpty then k.src else x.src })

@[simp] theorem takeSrc_task (s : State) (x : SliceIn) (n : Nat) : (s.takeSrc x).task n = s.task n := rfl

@[simp] theorem takeSrc_rd (s : State) (x : SliceIn) (F : Fld) (i : Nat) : (s.takeSrc x).rd F i = s.rd F i := rfl

@[simp] theorem takeSrc_emit (s : State) (x : SliceIn) : (s.takeSrc x).emit = s.emit := rfl

theorem runSlice_eq (s : State) (n : Nat) (x : SliceIn) :
    s.runSlice n x =
      let u := ((s.takeSrc x).sliceEffect n (slicesOf n - (s.task n).left) x).advance n ((s.task n).left - 1)
      if (s.task n).left - 1 = 0 || u.runEmpty n then u.endRun n else u := rfl

theorem runSlice_last {n : Nat} {x : SliceIn} (h : (s.task n).left = 1) :
    s.runSlice n x = (((s.takeSrc x).sliceEffect n (slicesOf n - 1) x).advance n 0).endRun n := by
  simp [runSlice_eq, h]

theorem runSlice_9_goes_on {x : SliceIn} (h : 2 ≤ (s.task 9).left) :
    s.runSlice 9 x = ((s.takeSrc x).injectAll (4 - (s.task 9).left)).advance 9 ((s.task 9).left - 1) := by
  have hl : (s.task 9).left - 1 ≠ 0 := by omega
  simp [runSlice_eq, State.runEmpty, hl, State.sliceEffect, slicesOf, at0]

theorem endRun_eq {n : Nat} (h : n ≠ 6) :
    s.endRun n = (s.setTask n (fun t => { t with left := 0, overdue := false })).writeRun n 0 0 := by
  simp [State.endRun, h, State.writeRun]

@[simp] theorem injectAll_emit (s : State) (k : Nat) : (s.injectAll k).emit = s.emit ++ [.inject k] := rfl

@[simp] theorem injectAll_rd (s : State) (k : Nat) (F : Fld) (i : Nat) : (s.injectAll k).rd F i = s.rd F i := rfl

end Sys2Proof.Machine

namespace Sys2Proof

open Sys2Proof.Machine

/-- The last slice of task 5 makes a telemetry record due and ends the run (R37). -/
theorem telemetrySlice_ends_run {x : SliceIn} {s : State} (hh : s.hubRuns = true) (hs : s.slackHolds 5 = true)
    (he : s.earliest s.taskPending = some 5) (hl : (s.task 5).left = 1) :
    Answers (.domSlice 5 x) s (fun t => t.bus.telDue = true ∧ (t.task 5).left = 0 ∧ t.rd DOM_STAT.PENDING 5 = 0 ∧
      t.rd DOM_AGE.AGE 5 = 0) := by
  refine ⟨_, exec_domSlice_runs hh hs he, ?_⟩
  rw [runSlice_last (s := s.quiet.useSlack 5) hl, endRun_eq (by decide)]
  refine ⟨?_, ?_, writeRun_rd_PENDING .., writeRun_rd_AGE ..⟩
  · simp [State.sliceEffect, State.advance, slicesOf, at0]
  · simp

/-- A slice of task 9 before its last injects on the next sense point and leaves the run pending (R67). -/
theorem selfTestSlice_injects {x : SliceIn} {s : State} (hh : s.hubRuns = true) (hs : s.slackHolds 9 = true)
    (he : s.earliest s.taskPending = some 9) (hl : 2 ≤ (s.task 9).left) :
    Answers (.domSlice 9 x) s (fun t => t.emit = [.inject (4 - (s.task 9).left)] ∧
      (t.task 9).left = (s.task 9).left - 1 ∧ t.rd DOM_STAT.PENDING 9 = 1) := by
  refine ⟨_, exec_domSlice_runs hh hs he, ?_⟩
  rw [runSlice_9_goes_on (s := s.quiet.useSlack 9) hl]
  refine ⟨?_, ?_, ?_⟩
  · simp [State.advance]
  · simp [State.advance]
  · simpa [State.advance] using on_iff.mp (earliest_accepts he)

/-- Settles O13: what each command writes, by its equation (`exec_domRelease_starts` and the like); a slice runs only of the
task that `earliest` names. -/
theorem domestiqueRuns : Obligations.DomestiqueRuns := by
  refine ⟨fun n s hn hh hr hp => ?_, fun n s hn hh hr hp => ?_, fun n s hn hp ha => ?_, fun n s hn hp ha ho => ?_,
    fun x s => telemetrySlice_ends_run, fun x s => selfTestSlice_injects,
    fun n x s h => ⟨_, exec_domSlice_idle h, rfl⟩⟩
  · refine ⟨_, exec_domRelease_starts hn hh hr hp, writeRun_rd_PENDING .., writeRun_rd_PROMOTED ..,
      writeRun_rd_AGE .., ?_⟩
    simp
  · refine ⟨_, exec_domRelease_merges hn hh hr hp, rd_wr_same .., ?_⟩
    exact rd_wr_ne _ DOM_STAT.MERGED DOM_AGE.AGE _ _ _ (Fld.key_ne (by rfl) (by decide) n)
  · exact ⟨_, exec_domPromote hn hp ha, rd_wr_same ..⟩
  · obtain ⟨hlog, hevt⟩ := key_OVERDUE_not_logged hn
    refine ⟨_, exec_domOverdue hn hp ha ho, rd_raiseLog_st _ _ _ _ (by decide), ?_, ?_⟩
    · rw [raiseLog_overdue, State.inc, wr_task, setTask_task_same]
    · rw [rd_raiseLog _ _ _ _ _ _ hlog hevt, State.inc, rd_wr_same]
      rfl

end Sys2Proof
end

section
/-! PROOF. When a comparator trips (R43, R44, R46, R47): what `State.trips` tests, in one equivalence (`trips_iff`), and the
trip level of an armed comparator whose sense point is enabled, in whole units of 0.05 mV. -/

namespace Sys2Proof.Machine

variable {s : State} {n k lvl : Nat}

/-- Comparator `k` is armed and enabled, and its sense point lies below the reference, less the threshold, as trimmed. -/
theorem trips_iff : s.trips n k lvl = true ↔
    (s.armed n = true ∧ k < 4 ∧ (s.inf SNT_CFG.SENSE_EN n).testBit k = true) ∧
      2 * ((lvl : Int) + s.threshold n) < 10 * (s.reference (s.rd SWD_CFG.RG n) : Int) + s.trimOf n k := by
  simp only [State.trips, Bool.and_eq_true, decide_eq_true_eq, and_assoc]

/-- The trim code enters the level of `trips_iff` less its mid-range 32, at 5 units of 0.05 mV for each code (R47); the 160
brings the subtracted 5 × 32 to the other side. -/
theorem trips_iff_level (hk : k < 4) (ha : s.armed n = true) (he : (s.inf SNT_CFG.SENSE_EN n).testBit k = true) :
    s.trips n k lvl = true ↔
      2 * (lvl + s.threshold n) + 160 < 10 * s.reference (s.rd SWD_CFG.RG n) + 5 * at0 (s.sent n).trims k := by
  rw [trips_iff, and_iff_right ⟨ha, hk, he⟩, State.trimOf]
  omega

/-- At the mid-range trim code the level is the nominal one (R43, R44). -/
theorem trips_iff_nominal (hk : k < 4) (ha : s.armed n = true) (he : (s.inf SNT_CFG.SENSE_EN n).testBit k = true)
    (ht : at0 (s.sent n).trims k = 32) :
    s.trips n k lvl = true ↔ lvl + s.threshold n < 5 * s.reference (s.rd SWD_CFG.RG n) := by
  rw [trips_iff_level hk ha he, ht]
  omega

/-- A comparator that is not armed (R42), or whose sense point is not enabled (R46), does not trip. -/
theorem trips_eq_false (h : s.armed n = false ∨ (s.inf SNT_CFG.SENSE_EN n).testBit k = false) :
    s.trips n k lvl = false := by
  rw [Bool.eq_false_iff, Ne, trips_iff]
  rintro ⟨⟨ha, -, he⟩, -⟩
  rcases h with h | h
  · exact Bool.false_ne_true (h.symm.trans ha)
  · exact Bool.false_ne_true (h.symm.trans he)

theorem threshold_eq (s : State) (n : Nat) : s.threshold n = 200 + 25 * min (s.inf SNT_CFG.THR n) 24 := rfl

end Sys2Proof.Machine

namespace Sys2Proof

open Sys2Proof.Machine

/-- Settles O14: the level of an armed, enabled comparator at the mid-range trim code (`trips_iff_nominal`) and at any
(`trips_iff_level`), with the threshold of R44 written out. -/
theorem comparatorTrips : Obligations.ComparatorTrips := by
  refine ⟨fun n k lvl s hk ha he ht => ?_, fun n k lvl s hk ha he => ?_, fun n k lvl s => trips_eq_false⟩
  · rw [trips_iff_nominal hk ha he ht, threshold_eq, ← Nat.add_assoc]
  · rw [trips_iff_level hk ha he, threshold_eq, ← Nat.add_assoc]

end Sys2Proof
end

section
/-! PROOF. The machine as a whole: every command answers a next state with the queue, the tick and the invariant that
`exec_outcome` names, from which follow the order of service, the invariant of every step and the count of ticks. -/

namespace Sys2Proof.Machine

variable {s : State}

/-! ### What every command does to the queue, the tick and the invariant -/

/-- The commands that can begin a tick. -/
def BeginsTick (c : Instr) : Prop :=
  ∃ i, c = .tooth i ∨ c = .synthesisedTick i ∨ c = .relock i

/-- Bounds that ask nothing of the lock bits. -/
theorem kept_free (s : State) : Kept (.onLocks s fun _ => True) s :=
  kept_onLocks trivial

/-- `t` has the queue of `s`, and the invariant where `s` has it. -/
structure Carries (s t : State) : Prop where
  pending : t.pending = s.pending
  inv : s.Inv → t.Inv

theorem por_outcome (x : SelfTest) (s : State) : Answers (.por x) s (fun t => Carries s t ∧ t.tick = 0) := by
  obtain ⟨t, e, k⟩ := kept_execPor (t := x) (s := s)
  exact ⟨t, e, ⟨k.pending, fun h => k.inv (cleared_inv h)⟩, k.tick⟩

theorem tick_outcome {c : Instr} (hc : BeginsTick c) (s : State) :
    Answers c s (fun t => Carries s t ∧ (t.tick = s.tick ∨ t.tick = s.tick + 1)) := by
  obtain ⟨i, hc⟩ := hc
  obtain ⟨t, e, k⟩ | ⟨t, e, k⟩ := exec_kept_tick hc (kept_free s) (Bounds.onLocks_open s _)
  · exact ⟨t, e, ⟨k.pending, k.inv⟩, .inl k.tick⟩
  · exact ⟨t, e, ⟨k.pending, k.inv⟩, .inr k.tick⟩

theorem other_outcome {c : Instr} (hc : KeepsTick c) (s : State) :
    Answers c s (fun t => Carries s t ∧ t.tick = s.tick) := by
  obtain ⟨t, e, k⟩ := exec_kept c hc (kept_free s) (Bounds.onLocks_open s _) (fun _ => trivial)
    (fun _ _ _ _ => trivial)
  exact ⟨t, e, ⟨k.pending, k.inv⟩, k.tick⟩

/-- POR returns TICK to 0, a tick advances it by one or not at all, and no other command changes it (R23). -/
theorem exec_outcome (c : Instr) (s : State) : Answers c s (fun t => Carries s t ∧
    ((∃ x, c = .por x ∧ t.tick = 0) ∨ (BeginsTick c ∧ (t.tick = s.tick ∨ t.tick = s.tick + 1)) ∨
      ((∀ x, c ≠ .por x) ∧ t.tick = s.tick))) := by
  by_cases hp : ∃ x, c = .por x
  · obtain ⟨x, rfl⟩ := hp
    obtain ⟨t, e, h, ht⟩ := por_outcome x s
    exact ⟨t, e, h, .inl ⟨x, rfl, ht⟩⟩
  by_cases hb : BeginsTick c
  · obtain ⟨t, e, h, ht⟩ := tick_outcome hb s
    exact ⟨t, e, h, .inr (.inl ⟨hb, ht⟩)⟩
  have hk : KeepsTick c := by
    cases c
    case por x => exact hp ⟨x, rfl⟩
    case tooth i => exact hb ⟨i, .inl rfl⟩
    case synthesisedTick i => exact hb ⟨i, .inr (.inl rfl)⟩
    case relock i => exact hb ⟨i, .inr (.inr rfl)⟩
    all_goals trivial
  obtain ⟨t, e, h, ht⟩ := other_outcome hk s
  exact ⟨t, e, h, .inr (.inr ⟨fun x k => hp ⟨x, k⟩, ht⟩)⟩

theorem exec_carries {c : Instr} {s t : State} (e : exec c s = .next t) : Carries s t := by
  obtain ⟨u, hu, h, -⟩ := exec_outcome c s
  cases e.symm.trans hu
  exact h

/-! ### Steps -/

theorem step_front {c : Instr} {q : List Instr} (h : s.pending = c :: q) : step s = exec c (s.withPending q) := by
  rw [step, h]

theorem step_idle (h : s.pending = []) : step s = .next s := by
  rw [step, h]

theorem withPending_inv (h : s.Inv) (q : List Instr) : (s.withPending q).Inv :=
  ⟨h.fields, h.rwl, h.inForce, h.staging, h.events⟩

end Sys2Proof.Machine

namespace Sys2Proof

open Sys2Proof.Machine

/-- Settles O1, by the equation of a step on a queue that is not empty. -/
theorem stepRunsFrontCommand : Obligations.StepRunsFrontCommand :=
  fun _ _ _ h => step_front h

/-- Settles O2: the front command answers a next state and keeps the queue's rest (`exec_outcome`). -/
theorem queueServedInOrder : Obligations.QueueServedInOrder := by
  refine ⟨fun c q s h => ?_, fun s h => step_idle h⟩
  obtain ⟨t, e, k, -⟩ := exec_outcome c (s.withPending q)
  exact ⟨t, (step_front h).trans e, k.pending⟩

/-- Settles O3: every store of the reset state is empty. -/
theorem resetMeetsInvariant : Obligations.ResetMeetsInvariant :=
  ⟨List.Pairwise.nil, List.Pairwise.nil, List.Pairwise.nil, Nat.zero_le _, Nat.zero_le _⟩

/-- Settles O4: taking a command from the queue keeps the invariant, and so does the command (`exec_carries`). -/
theorem stepKeepsInvariant : Obligations.StepKeepsInvariant := by
  intro s t hs e
  cases hq : s.pending with
  | nil =>
    rw [step_idle hq] at e
    cases e
    exact hs
  | cons c q =>
    rw [step_front hq] at e
    exact (exec_carries e).inv (withPending_inv hs q)

/-- Settles O5, by what every command does to TICK (`exec_outcome`). -/
theorem tickAdvancesByOne : Obligations.TickAdvancesByOne := by
  intro c s t e
  obtain ⟨u, hu, -, h⟩ := exec_outcome c s
  cases e.symm.trans hu
  exact h

end Sys2Proof
end
section
/-! PROOF. Frames of the commands: with bounds that open exactly a command's footprint, the command stays within them (the
`kept_` lemma of each command), and what stays within bounds leaves everything else alone (`Kept.frame`). -/

namespace Sys2Proof.Machine

variable {W : Bounds} {s : State} {c : Instr} {ps : List Region} {fs : List Fld}

theorem logs_of_footprint (hp : ∀ q ∈ ps, W.part q) (hq : ∀ F ∈ fs, W.fld F)
    (h : Region.tasks ∈ ps ∧ Region.log ∈ ps ∧ ∀ F ∈ logFields, F ∈ fs) : Logs W :=
  ⟨hp _ h.1, hp _ h.2.1, fun F hF => hq F (h.2.2 F hF)⟩

/-! ### The commands named in `footprint`, a range of constructors at a time -/

/-- The commands of the cadence and the spoke level. -/
theorem footprint_kept_cadence_spoke (hc : (Nat.ble 0 c.ctorIdx && Nat.blt c.ctorIdx 27) = true)
    (hf : footprint c = some (ps, fs)) (h : Kept W s) (hp : ∀ q ∈ ps, W.part q) (hq : ∀ F ∈ fs, W.fld F) :
    KeptO W (exec c s) := by
  cases c
  case' bootFirmwareLoad => apply kept_execBootFirmwareLoad h
  case' otpProgram => apply kept_execOtpProgram h
  case' locked => apply kept_execLocked h
  case' cadenceLost => apply kept_execCadenceLost h
  case' fwPublish => apply kept_execFwPublish h
  case' fwOverrun => apply kept_execFwOverrun h
  case' engineOverrun => apply kept_execEngineOverrun h
  case' domRelease => apply kept_execDomRelease h
  case' domPromote => apply kept_execDomPromote h
  case' domOverdue => apply kept_execDomOverdue h
  case' domSlice => apply kept_execDomSlice h
  case' featherTrigger => apply kept_execFeatherTrigger h
  case' tripClear => apply kept_execTripClear h
  case' featherHoldExpiry => apply kept_execFeatherHoldExpiry h
  case' featherReturnStep => apply kept_execFeatherReturnStep h
  case' brake => apply kept_execBrake h
  case' vrAlertDeassert => apply kept_execVrAlertDeassert h
  case' brakeReleaseStep => apply kept_execBrakeReleaseStep h
  case' alertSourceTimeout => apply kept_execAlertSourceTimeout h
  case' alertHoldExpiry => apply kept_execAlertHoldExpiry h
  case' spokeFrame => apply kept_execSpokeFrame h
  case' spokeFault => apply kept_execSpokeFault h
  all_goals first
    | exact absurd hc Bool.false_ne_true
    | (cases hf <;> first
        | exact hp _ (by decide)
        | exact hq _ (by simp only [List.mem_append, List.mem_cons, true_or, or_true])
        | exact logs_of_footprint hp hq
            ⟨by decide, by decide, fun F hF => by simp only [List.mem_append, hF, or_true]⟩)

/-- Those of the rim level and the Gleub link. -/
theorem footprint_kept_rim_link (hc : (Nat.ble 27 c.ctorIdx && Nat.blt c.ctorIdx 62) = true)
    (hf : footprint c = some (ps, fs)) (h : Kept W s) (hp : ∀ q ∈ ps, W.part q) (hq : ∀ F ∈ fs, W.fld F) :
    KeptO W (exec c s) := by
  cases c
  case' subtick => apply kept_execSubtick h
  case' ceilRise => apply kept_execCeilRise h
  case' imonFault => apply kept_execImonFault h
  case' imonValid => apply kept_execImonValid h
  case' domainRampEvent => apply kept_execDomainRampEvent h
  case' rampUpStart => apply kept_execRampUpStart h
  case' rampUpEnd => apply kept_execRampUpEnd h
  case' settleEnd => apply kept_execSettleEnd h
  case' drainStart => apply kept_execDrainStart h
  case' drainEnd => apply kept_execDrainEnd h
  case' rampDownStart => apply kept_execRampDownStart h
  case' rampDownEnd => apply kept_execRampDownEnd h
  case' coolStop => apply kept_execCoolStop h
  case' selfRefreshAck => apply kept_execSelfRefreshAck h
  case' srFault => apply kept_execSrFault h
  case' flowGood1s => apply kept_execFlowGood1s h
  case' restEntryStart => apply kept_execRestEntryStart h
  case' restEntryWave => apply kept_execRestEntryWave h
  case' restEntered => apply kept_execRestEntered h
  case' restWakeStart => apply kept_execRestWakeStart h
  case' restWakeWave => apply kept_execRestWakeWave h
  case' restExited => apply kept_execRestExited h
  case' ack => apply kept_execAck h
  case' ackTimeout => apply kept_execAckTimeout h
  case' nak => apply kept_execNak h
  case' done => apply kept_execDone h
  case' doneDeadline => apply kept_execDoneDeadline h
  case' telem => apply kept_execTelem h
  case' warn => apply kept_execWarn h
  case' trainDone => apply kept_execTrainDone h
  case' queryTimeout => apply kept_execQueryTimeout h
  case' linkSuspect => apply kept_execLinkSuspect h
  case' linkRecover => apply kept_execLinkRecover h
  case' linkFault => apply kept_execLinkFault h
  case' faultRetrain => apply kept_execFaultRetrain h
  all_goals first
    | exact absurd hc Bool.false_ne_true
    | (cases hf <;> first
        | exact hp _ (by decide)
        | exact hq _ (by simp only [List.mem_append, List.mem_cons, true_or, or_true])
        | exact logs_of_footprint hp hq
            ⟨by decide, by decide, fun F hF => by simp only [List.mem_append, hF, or_true]⟩)

/-- Those of temperature, the budget and the cadence engine. -/
theorem footprint_kept_thermal_engine (hc : (Nat.ble 62 c.ctorIdx && Nat.blt c.ctorIdx 98) = true)
    (hf : footprint c = some (ps, fs)) (h : Kept W s) (hp : ∀ q ∈ ps, W.part q) (hq : ∀ F ∈ fs, W.fld F) :
    KeptO W (exec c s) := by
  cases c
  case' diodeConversion => apply kept_execDiodeConversion h
  case' thermistorConversion => apply kept_execThermistorConversion h
  case' driftCheck => apply kept_execDriftCheck h
  case' thermalStop => apply kept_execThermalStop h
  case' vrwDrop => apply kept_execVrwDrop h
  case' vrwRemove => apply kept_execVrwRemove h
  case' otpDeferredWrite => apply kept_execOtpDeferredWrite h
  case' capPwmEdge => apply kept_execCapPwmEdge h
  case' budgetPeriod => apply kept_execBudgetPeriod h
  case' classRestore => apply kept_execClassRestore h
  case' idleGate => apply kept_execIdleGate h
  case' waitTimeout => apply kept_execWaitTimeout h
  case' backoffRetry => apply kept_execBackoffRetry h
  case' hintPrestage => apply kept_execHintPrestage h
  case' hintExpiry => apply kept_execHintExpiry h
  case' hintEnd => apply kept_execHintEnd h
  case' modelImageTake => apply kept_execModelImageTake h
  case' bankSwitchFire => apply kept_execBankSwitchFire h
  case' regionSwitch => apply kept_execRegionSwitch h
  case' openTimeout => apply kept_execOpenTimeout h
  case' notFollowing => apply kept_execNotFollowing h
  case' nfClear => apply kept_execNfClear h
  case' nodeDumpFire => apply kept_execNodeDumpFire h
  case' nop => apply kept_execNop h
  case' lda => apply kept_execLda h
  case' mvm => apply kept_execMvm h
  case' vmul => apply kept_execVmul h
  case' addi => apply kept_execAddi h
  case' rnd => apply kept_execRnd h
  case' sub => apply kept_execSub h
  case' clmp => apply kept_execClmp h
  case' intg => apply kept_execIntg h
  case' cvt => apply kept_execCvt h
  case' minsel => apply kept_execMinsel h
  case' mov => apply kept_execMov h
  case' engEnd => apply kept_execEnd h
  all_goals first
    | exact absurd hc Bool.false_ne_true
    | (cases hf <;> first
        | exact hp _ (by decide)
        | exact hq _ (by simp only [List.mem_append, List.mem_cons, true_or, or_true])
        | exact logs_of_footprint hp hq
            ⟨by decide, by decide, fun F hF => by simp only [List.mem_append, hF, or_true]⟩)

/-- Those of the carrier, the peloton and the margins. -/
theorem footprint_kept_carrier (hc : (Nat.ble 98 c.ctorIdx && Nat.blt c.ctorIdx 131) = true)
    (hf : footprint c = some (ps, fs)) (h : Kept W s) (hp : ∀ q ∈ ps, W.part q) (hq : ∀ F ∈ fs, W.fld F) :
    KeptO W (exec c s) := by
  cases c
  case' keepSend => apply kept_execKeepSend h
  case' paceLinkDown => apply kept_execPaceLinkDown h
  case' keep => apply kept_execKeep h
  case' reportSend => apply kept_execReportSend h
  case' report => apply kept_execReport h
  case' carrierPeriod => apply kept_execCarrierPeriod h
  case' share => apply kept_execShare h
  case' shareTimeout => apply kept_execShareTimeout h
  case' memberLost => apply kept_execMemberLost h
  case' takeover => apply kept_execTakeover h
  case' leaseExpiry => apply kept_execLeaseExpiry h
  case' offerSend => apply kept_execOfferSend h
  case' offer => apply kept_execOffer h
  case' carrierLost => apply kept_execCarrierLost h
  case' pointSend => apply kept_execPointSend h
  case' pelPoint => apply kept_execPoint h
  case' cpoint => apply kept_execCpoint h
  case' pelotonApply => apply kept_execPelotonApply h
  case' psyncReqSend => apply kept_execPsyncReqSend h
  case' psyncReq => apply kept_execPsyncReq h
  case' psyncRsp => apply kept_execPsyncRsp h
  case' drag => apply kept_execDrag h
  case' dragRise => apply kept_execDragRise h
  case' dragClear => apply kept_execDragClear h
  case' cantFollow => apply kept_execCantFollow h
  case' pacelineReturn => apply kept_execPacelineReturn h
  case' orphan => apply kept_execOrphan h
  case' abort => apply kept_execAbort h
  case' applStep => apply kept_execApplStep h
  case' fencePoll => apply kept_execFencePoll h
  case' fenceWaitExpiry => apply kept_execFenceWaitExpiry h
  case' ombPost => apply kept_execOmbPost h
  all_goals first
    | exact absurd hc Bool.false_ne_true
    | (cases hf <;> first
        | exact hp _ (by decide)
        | exact hq _ (by simp only [List.mem_append, List.mem_cons, true_or, or_true])
        | exact logs_of_footprint hp hq
            ⟨by decide, by decide, fun F hF => by simp only [List.mem_append, hF, or_true]⟩)

/-- Those of recovery, firmware and the meter. -/
theorem footprint_kept_recovery_meter (hc : (Nat.ble 131 c.ctorIdx && Nat.blt c.ctorIdx 166) = true)
    (hf : footprint c = some (ps, fs)) (h : Kept W s) (hp : ∀ q ∈ ps, W.part q) (hq : ∀ F ∈ fs, W.fld F) :
    KeptO W (exec c s) := by
  cases c
  case' hbMiss => apply kept_execHbMiss h
  case' noticeExpiry => apply kept_execNoticeExpiry h
  case' partitionStepDone => apply kept_execPartitionStepDone h
  case' dieStepDone => apply kept_execDieStepDone h
  case' bootExpiry => apply kept_execBootExpiry h
  case' wdogKick => apply kept_execWdogKick h
  case' firstPublication => apply kept_execFirstPublication h
  case' fwSwitchover => apply kept_execFwSwitchover h
  case' fwLoadDone => apply kept_execFwLoadDone h
  case' meterSample => apply kept_execMeterSample h
  case' meterWindow => apply kept_execMeterWindow h
  case' meterPublish => apply kept_execMeterPublish h
  case' publication => apply kept_execPublication h
  case' publicationMissing => apply kept_execPublicationMissing h
  case' meterCheckpoint => apply kept_execMeterCheckpoint h
  case' pfw => apply kept_execPfw h
  case' pfwEnd => apply kept_execPfwEnd h
  case' vmtrLoss => apply kept_execVmtrLoss h
  case' meterPowerUp => apply kept_execMeterPowerUp h
  case' sealBreak => apply kept_execSealBreak h
  case' sealRestore => apply kept_execSealRestore h
  case' inhibitEntry => apply kept_execInhibitEntry h
  case' inhibitExit => apply kept_execInhibitExit h
  case' shareCheckpoint => apply kept_execShareCheckpoint h
  case' shareRecord => apply kept_execShareRecord h
  case' submissionEntry => apply kept_execSubmissionEntry h
  case' completionEntry => apply kept_execCompletionEntry h
  case' mailboxTake => apply kept_execMailboxTake h
  case' put => apply kept_execPut h
  case' get => apply kept_execGet h
  all_goals first
    | exact absurd hc Bool.false_ne_true
    | (cases hf <;> first
        | exact hp _ (by decide)
        | exact hq _ (by simp only [List.mem_append, List.mem_cons, true_or, or_true])
        | exact logs_of_footprint hp hq
            ⟨by decide, by decide, fun F hF => by simp only [List.mem_append, hF, or_true]⟩)

/-- Those of the transports and of packets. -/
theorem footprint_kept_packet (hc : Nat.ble 166 c.ctorIdx = true)
    (hf : footprint c = some (ps, fs)) (h : Kept W s) (hp : ∀ q ∈ ps, W.part q) (hq : ∀ F ∈ fs, W.fld F) :
    KeptO W (exec c s) := by
  cases c
  case' stat => apply kept_execStat h
  case' domainRead => apply kept_execDomainRead h
  case' hintPhase => apply kept_execHintPhase h
  case' hintCancel => apply kept_execHintCancel h
  case' loopOpen => apply kept_execLoopOpen h
  case' loopClose => apply kept_execLoopClose h
  case' bankSwitch => apply kept_execBankSwitch h
  case' traceArm => apply kept_execTraceArm h
  case' engRead => apply kept_execEngRead h
  case' lease => apply kept_execLease h
  case' carrierCap => apply kept_execCarrierCap h
  case' pelSet => apply kept_execPelSet h
  case' pelRead => apply kept_execPelRead h
  case' snapshot => apply kept_execSnapshot h
  case' attClear => apply kept_execAttClear h
  case' energyRead => apply kept_execEnergyRead h
  case' recoveryReport => apply kept_execRecoveryReport h
  case' recoveryStep => apply kept_execRecoveryStep h
  case' errRead => apply kept_execErrRead h
  case' errClear => apply kept_execErrClear h
  case' suspectReport => apply kept_execSuspectReport h
  case' suspectClear => apply kept_execSuspectClear h
  case' coreCtrl => apply kept_execCoreCtrl h
  case' marginRead => apply kept_execMarginRead h
  case' fwLoad => apply kept_execFwLoad h
  case' fwSwitch => apply kept_execFwSwitch h
  case' imgLoad => apply kept_execImgLoad h
  case' stageWrite => apply kept_execStageWrite h
  case' lockRead => apply kept_execLockRead h
  case' meterIdent => apply kept_execMeterIdent h
  case' meterRead => apply kept_execMeterRead h
  case' meterAccount => apply kept_execMeterAccount h
  case' meterEvent => apply kept_execMeterEvent h
  case' calWrite => apply kept_execCalWrite h
  case' calCommit => apply kept_execCalCommit h
  case' setSerial => apply kept_execSetSerial h
  case' setTol => apply kept_execSetTol h
  case' nodeDump => apply kept_execNodeDump h
  case' regRead => apply kept_execRegRead h
  case' snapLoRead => apply kept_execSnapLoRead h
  case' snapHiRead => apply kept_execSnapHiRead h
  case' govRstNRise => apply kept_execGovRstNRise h
  case' receiveError => apply kept_execReceiveError h
  case' messageDiscarded => apply kept_execMessageDiscarded h
  case' capPwmNoEdge => apply kept_execCapPwmNoEdge h
  case' meterPortByteGap => apply kept_execMeterPortByteGap h
  case' ident => apply kept_execIdent h
  case' status => apply kept_execStatus h
  case' echo => apply kept_execEcho h
  case' readTick => apply kept_execReadTick h
  case' svcCap => apply kept_execSvcCap h
  case' setPart => apply kept_execSetPart h
  case' assign => apply kept_execAssign h
  case' budgetRead => apply kept_execBudgetRead h
  case' partRead => apply kept_execPartRead h
  case' domainOn => apply kept_execDomainOn h
  case' domainOff => apply kept_execDomainOff h
  case' restEnter => apply kept_execRestEnter h
  case' restExit => apply kept_execRestExit h
  all_goals first
    | exact absurd hc Bool.false_ne_true
    | (cases hf <;> first
        | exact hp _ (by decide)
        | exact hq _ (by simp only [List.mem_append, List.mem_cons, true_or, or_true, answerFields])
        | exact logs_of_footprint hp hq
            ⟨by decide, by decide, fun F hF => by simp only [List.mem_append, hF, or_true]⟩)

theorem footprint_kept (hf : footprint c = some (ps, fs)) (h : Kept W s) (hp : ∀ q ∈ ps, W.part q)
    (hq : ∀ F ∈ fs, W.fld F) : KeptO W (exec c s) := by
  have range {a b : Nat} (h₁ : a ≤ c.ctorIdx) (h₂ : c.ctorIdx < b) :
      (Nat.ble a c.ctorIdx && Nat.blt c.ctorIdx b) = true := by
    simp [Nat.ble_eq, Nat.blt_eq, h₁, h₂]
  by_cases h₁ : c.ctorIdx < 27
  · exact footprint_kept_cadence_spoke (range (Nat.zero_le _) h₁) hf h hp hq
  by_cases h₂ : c.ctorIdx < 62
  · exact footprint_kept_rim_link (range (not_lt.1 h₁) h₂) hf h hp hq
  by_cases h₃ : c.ctorIdx < 98
  · exact footprint_kept_thermal_engine (range (not_lt.1 h₂) h₃) hf h hp hq
  by_cases h₄ : c.ctorIdx < 131
  · exact footprint_kept_carrier (range (not_lt.1 h₃) h₄) hf h hp hq
  by_cases h₅ : c.ctorIdx < 166
  · exact footprint_kept_recovery_meter (range (not_lt.1 h₄) h₅) hf h hp hq
  · exact footprint_kept_packet (by simpa using h₅) hf h hp hq

/-- A command stays within its own footprint. -/
theorem footprint_leaves (hf : footprint c = some (ps, fs)) : Leaves c ps fs := by
  intro s
  obtain ⟨t, e, k⟩ := footprint_kept hf (Kept.self s (· ∈ ps) (· ∈ fs)) (fun _ h => h) (fun _ h => h)
  exact ⟨t, e, k.frame⟩

/-! ### Commands that change the lock bits -/

/-- Bounds around `s` that ask nothing of the lock bits. -/
def Bounds.freeLocks (s : State) (ps : Region → Prop) (fs : Fld → Prop) : Bounds :=
  ⟨s.pending, s.tick, fun _ => True, s, ps, fs⟩

theorem kept_freeLocks (s : State) (P : Region → Prop) (R : Fld → Prop) : Kept (.freeLocks s P R) s :=
  ⟨rfl, rfl, trivial, id, fun q _ => q.same_refl s, fun _ _ _ => rfl⟩

theorem Region.withLocks_same (q : Region) (s : State) (l : Locks) : q.same { s with locks := l } s := by
  cases q
  case log => exact ⟨rfl, rfl⟩
  all_goals rfl

theorem Kept.frame_freeLocks {t : State} {P : Region → Prop} {R : Fld → Prop} (h : Kept (.freeLocks s P R) t) :
    Frame P R { s with locks := t.locks } t where
  tick := h.tick
  locks := rfl
  pending := h.pending
  part := fun q k => Region.same_trans (q.withLocks_same s _) (h.part q k)
  reg := h.reg

theorem restartFootprint_kept (hf : restartFootprint c = some (ps, fs)) (h : Kept W s) (hl : W.locks {})
    (hp : ∀ q ∈ ps, W.part q) (hq : ∀ F ∈ fs, W.fld F) : KeptO W (exec c s) := by
  cases c
  case' hubFaultEsc => apply kept_execHubFaultEsc h
  case' wdogExpiry => apply kept_execWdogExpiry h
  case' engFaultTimeout => apply kept_execEngFaultTimeout h
  case' govRstNFall => apply kept_execGovRstNFall h
  case' swFail => apply kept_execSwFail h
  case' warmRestart => apply kept_execWarmRestart h
  all_goals first
    | exact hl
    | (cases hf <;> first
        | exact hp _ (by decide)
        | exact hq _ (by simp only [List.mem_append, List.mem_cons, true_or, or_true, restartFields, answerFields])
        | exact logs_of_footprint hp hq
            ⟨by decide, by decide, fun F hF => by simp only [List.mem_append, hF, or_true]⟩)

theorem restartFootprint_frame (hf : restartFootprint c = some (ps, fs)) (s : State) :
    Answers c s (fun t => Frame (· ∈ ps) (· ∈ fs) { s with locks := t.locks } t) := by
  obtain ⟨t, e, k⟩ := restartFootprint_kept hf (kept_freeLocks s (· ∈ ps) (· ∈ fs)) trivial (fun _ h => h)
    (fun _ h => h)
  exact ⟨t, e, k.frame_freeLocks⟩

theorem lockSet_frame (s : State) :
    Answers .lockSet s (fun t => Frame (· ∈ [Region.bus, Region.cmd, Region.emit, Region.tasks, Region.log])
      (· ∈ answerFields ++ logFields) { s with locks := t.locks } t) := by
  have h : KeptO (.freeLocks s (· ∈ [Region.bus, Region.cmd, Region.emit, Region.tasks, Region.log])
      (· ∈ answerFields ++ logFields)) (exec .lockSet s) := by
    apply kept_execLockSet (kept_freeLocks s _ _)
    case hj => exact fun _ _ _ => trivial
    case _ : Logs _ => exact ⟨List.mem_of_elem_eq_true rfl, List.mem_of_elem_eq_true rfl, fun F hF => List.mem_append_right _ hF⟩
    all_goals first
      | exact List.mem_of_elem_eq_true rfl
      | exact (show _ ∈ answerFields ++ logFields by
          simp only [List.mem_append, List.mem_cons, true_or, or_true, answerFields])
  obtain ⟨t, e, k⟩ := h
  exact ⟨t, e, k.frame_freeLocks⟩

/-! ### Ticks and image loads -/

/-- Bounds around `s` that open every part but the meter, and every register field. -/
def Bounds.noMeter (s : State) : Bounds :=
  ⟨s.pending, s.tick, (· = s.locks), s, (· ≠ .mtr), fun _ => True⟩

theorem tick_keeps_meter {i : TickIn} (hc : c = .tooth i ∨ c = .synthesisedTick i ∨ c = .relock i) (s : State) :
    Answers c s (fun t => t.mtr = s.mtr ∧ t.locks = s.locks ∧ t.pending = s.pending) := by
  have hl : Logs (.noMeter s) := ⟨Region.noConfusion, Region.noConfusion, fun _ _ => trivial⟩
  have hs : Kept (.noMeter s) s := Kept.self s _ _
  have h : KeptO (.noMeter s) (exec c s) ∨
      KeptO { Bounds.noMeter s with tick := (Bounds.noMeter s).tick + 1 } (exec c s) := by
    obtain rfl | rfl | rfl := hc
    case' inl => apply kept_execTooth hs
    case' inr.inl => apply kept_execSynthesisedTick hs
    case' inr.inr => apply kept_execRelock hs
    all_goals first
      | exact Region.noConfusion
      | exact hl
      | exact fun _ => trivial
  have out {t : State} {n : Nat} (k : Kept { Bounds.noMeter s with tick := n } t) :
      t.mtr = s.mtr ∧ t.locks = s.locks ∧ t.pending = s.pending :=
    ⟨k.part .mtr fun h => h rfl, k.locks, k.pending⟩
  obtain ⟨t, e, k⟩ | ⟨t, e, k⟩ := h
  · exact ⟨t, e, out k⟩
  · exact ⟨t, e, out k⟩

/-- The parts that an image load may write. -/
def imageParts : List Region :=
  [.bg, .bus, .cad, .cmd, .em, .emit, .eng, .mg, .tasks, .th, .log]

theorem imgLoadDone_frame (f : Option ImageFile) (s : State) :
    Answers (.imgLoadDone f) s (Frame (· ∈ imageParts) (fun _ => True) s) := by
  have h : KeptO ⟨s.pending, s.tick, (· = s.locks), s, (· ∈ imageParts), fun _ => True⟩ (exec (.imgLoadDone f) s) := by
    apply kept_execImgLoadDone (Kept.self s _ _)
    case ha => exact fun _ => trivial
    case _ : Logs _ => exact ⟨List.mem_of_elem_eq_true rfl, List.mem_of_elem_eq_true rfl, fun _ _ => trivial⟩
    all_goals exact List.mem_of_elem_eq_true rfl
  obtain ⟨t, e, k⟩ := h
  exact ⟨t, e, k.frame⟩

end Sys2Proof.Machine

namespace Sys2Proof

open Sys2Proof.Machine

/-- Settles O59: each command stays within the bounds that its footprint opens. -/
theorem footprintsHold : Obligations.FootprintsHold := by
  refine ⟨fun c ps fs => footprint_leaves, fun c ps fs s h => restartFootprint_frame h s, lockSet_frame,
    fun i c s h => tick_keeps_meter h s, fun f s => ?_⟩
  obtain ⟨t, e, k⟩ := imgLoadDone_frame f s
  exact ⟨t, e, k.locks, k.tick, k.pending, k.part⟩

end Sys2Proof
end

section
/-! SUPPORT. When the instances of two register fields below given counts lie at different bit addresses: a test on the
fields alone, which `decide` runs, and what a field reads after a write of another, for every instance at once. -/

namespace Sys2Proof.Machine

variable {s : State} {F G : Fld} {N M i j : Nat}

/-- The first `N` instances of `F` and the first `M` of `G` lie apart: their bit addresses differ modulo the strides' greatest
common divisor, or all of one field lie below the other. -/
def Fld.apart (F G : Fld) (N M : Nat) : Bool :=
  F.base % Nat.gcd F.stride G.stride != G.base % Nat.gcd F.stride G.stride || decide (F.key (N - 1) < G.base) ||
    decide (G.key (M - 1) < F.base)

/-- The first `N` instances of `F` lie apart from the fields that logging and doorbells write. -/
def Fld.offLog (F : Fld) (N : Nat) : Bool :=
  logFields.all fun G => F.apart G N 1

theorem Fld.key_mod (F : Fld) {g : Nat} (h : g ∣ F.stride) (i : Nat) : F.key i % g = F.base % g := by
  obtain ⟨c, hc⟩ := h
  rw [Fld.key, hc, mul_assoc, Nat.add_mul_mod_self_left]

theorem Fld.key_le (F : Fld) (h : i < N) : F.key i ≤ F.key (N - 1) :=
  Nat.add_le_add_left (Nat.mul_le_mul_left _ (Nat.le_sub_one_of_lt h)) _

theorem Fld.base_le_key (F : Fld) (i : Nat) : F.base ≤ F.key i :=
  Nat.le_add_right _ _

theorem Fld.key_ne_of_apart (h : F.apart G N M = true) (hi : i < N) (hj : j < M) : F.key i ≠ G.key j := by
  intro e
  have hF := F.key_le hi
  have hG := G.key_le hj
  have hFb := F.base_le_key i
  have hGb := G.base_le_key j
  simp only [Fld.apart, Bool.or_eq_true, bne_iff_ne, decide_eq_true_eq] at h
  obtain (h | h) | h := h
  · rw [← F.key_mod (Nat.gcd_dvd_left _ _) i, ← G.key_mod (Nat.gcd_dvd_right F.stride _) j] at h
    exact h (congrArg (· % _) e)
  · omega
  · omega

theorem Fld.offLog_key (h : F.offLog N = true) (hi : i < N) : F.key i ∉ logKeys := by
  have hk : ∀ G ∈ logFields, F.key i ≠ G.key 0 := fun G hG =>
    F.key_ne_of_apart (List.all_eq_true.1 h G hG) hi Nat.one_pos
  have e : logKeys = logFields.map (·.key 0) := rfl
  rw [e, List.mem_map]
  rintro ⟨G, hG, k⟩
  exact hk G hG k.symm

theorem rd_wr_apart (N M : Nat) (h : F.apart G N M = true) (hi : i < N) (hj : j < M) (v : Nat) :
    (s.wr G j v).rd F i = s.rd F i :=
  rd_wr_ne _ _ _ _ _ _ (Fld.key_ne_of_apart h hi hj)

theorem rd_wrB_apart (N M : Nat) (h : F.apart G N M = true) (hi : i < N) (hj : j < M) (b : Bool) :
    (s.wrB G j b).rd F i = s.rd F i :=
  rd_wr_apart N M h hi hj _

theorem rd_wrBit_apart (N M : Nat) (h : F.apart G N M = true) (hi : i < N) (hj : j < M) (b : Nat) (v : Bool) :
    (s.wrBit G j b v).rd F i = s.rd F i :=
  rd_wrBit_ne _ _ _ _ _ _ _ (Fld.key_ne_of_apart h hi hj)

theorem rd_inc_apart (N M : Nat) (h : F.apart G N M = true) (hi : i < N) (hj : j < M) :
    (s.inc G j).rd F i = s.rd F i :=
  rd_inc_ne _ _ _ _ _ (Fld.key_ne_of_apart h hi hj)

theorem rd_doorbell_off (N : Nat) (h : F.offLog N = true) (hi : i < N) (b : Nat) :
    (s.doorbell b).rd F i = s.rd F i :=
  rd_doorbell _ _ _ _ (Fld.offLog_key h hi)

theorem rd_logRec_off (N : Nat) (h : F.offLog N = true) (hi : i < N) (r : LogRec) :
    (s.logRec r).rd F i = s.rd F i :=
  rd_logRec _ _ _ _ (Fld.offLog_key h hi)

theorem rd_logOnly_off (N : Nat) (h : F.offLog N = true) (hi : i < N) (e : Evt) (a b : Nat) :
    (s.logOnly e a b).rd F i = s.rd F i :=
  rd_logOnly _ _ _ _ _ _ (Fld.offLog_key h hi)

theorem rd_raise_off (N : Nat) {e : Evt} (h : F.offLog N = true) (h' : F.apart e.st N 1 = true) (hi : i < N) (a b : Nat) :
    (s.raise e a b).rd F i = s.rd F i :=
  rd_raise _ _ _ _ _ _ (Fld.offLog_key h hi) (Fld.key_ne_of_apart h' hi Nat.one_pos)

theorem rd_raiseLog_off (N : Nat) {e : Evt} (h : F.offLog N = true) (h' : F.apart e.st N 1 = true) (hi : i < N)
    (a b : Nat) : (s.raiseLog e a b).rd F i = s.rd F i :=
  rd_raiseLog _ _ _ _ _ _ (Fld.offLog_key h hi) (Fld.key_ne_of_apart h' hi Nat.one_pos)

/-- A one-bit field that reads 0 is not set. -/
theorem on_of_zero (h : s.rd F i = 0) : s.on F i = false := by
  simp [State.on, h]

theorem on_of_one (h : s.rd F i = 1) : s.on F i = true := by
  simp [State.on, h]

/-! ### Fields apart at every instance -/

/-- No instance of `F` lies at the bit address of one of `G`, as their residues modulo the strides' greatest common divisor
tell. -/
def Fld.off (F G : Fld) : Bool :=
  F.base % Nat.gcd F.stride G.stride != G.base % Nat.gcd F.stride G.stride

theorem Fld.key_ne_of_off (h : F.off G = true) (i j : Nat) : F.key i ≠ G.key j := by
  intro e
  rw [Fld.off, bne_iff_ne, ← F.key_mod (Nat.gcd_dvd_left _ _) i, ← G.key_mod (Nat.gcd_dvd_right F.stride _) j] at h
  exact h (congrArg (· % _) e)

theorem rd_wr_off (h : F.off G = true) (v : Nat) : (s.wr G j v).rd F i = s.rd F i :=
  rd_wr_ne _ _ _ _ _ _ (F.key_ne_of_off h i j)

theorem rd_wrB_off (h : F.off G = true) (b : Bool) : (s.wrB G j b).rd F i = s.rd F i :=
  rd_wr_off h _

theorem rd_wrBit_off (h : F.off G = true) (b : Nat) (v : Bool) : (s.wrBit G j b v).rd F i = s.rd F i :=
  rd_wrBit_ne _ _ _ _ _ _ _ (F.key_ne_of_off h i j)

theorem rd_inc_off (h : F.off G = true) : (s.inc G j).rd F i = s.rd F i :=
  rd_wr_off h _

/-- Another instance of the field that is written. -/
theorem rd_wr_other (hs : 0 < F.stride) (h : i ≠ j) (v : Nat) : (s.wr F j v).rd F i = s.rd F i :=
  rd_wr_ne _ _ _ _ _ _ fun e => h (Nat.eq_of_mul_eq_mul_left hs (Nat.add_left_cancel e))

theorem Fld.not_logKeys (h : logFields.all F.off = true) (i : Nat) : F.key i ∉ logKeys := by
  have e : logKeys = logFields.map (·.key 0) := rfl
  rw [e, List.mem_map]
  rintro ⟨G, hG, k⟩
  exact F.key_ne_of_off (List.all_eq_true.1 h G hG) i 0 k.symm

theorem rd_doorbell_all (h : logFields.all F.off = true) (b : Nat) : (s.doorbell b).rd F i = s.rd F i :=
  rd_doorbell _ _ _ _ (F.not_logKeys h i)

theorem rd_logRec_all (h : logFields.all F.off = true) (r : LogRec) : (s.logRec r).rd F i = s.rd F i :=
  rd_logRec _ _ _ _ (F.not_logKeys h i)

theorem rd_logOnly_all (h : logFields.all F.off = true) (e : Evt) (a b : Nat) : (s.logOnly e a b).rd F i = s.rd F i :=
  rd_logOnly _ _ _ _ _ _ (F.not_logKeys h i)

theorem rd_errRecord_all (h : logFields.all F.off = true) (c : Nat) (b : Bool) : (s.errRecord c b).rd F i = s.rd F i :=
  rd_errRecord _ _ _ _ _ (F.not_logKeys h i)

theorem rd_raise_all {e : Evt} (h : (e.st :: logFields).all F.off = true) (a b : Nat) :
    (s.raise e a b).rd F i = s.rd F i := by
  rw [List.all_cons, Bool.and_eq_true] at h
  exact rd_raise _ _ _ _ _ _ (F.not_logKeys h.2 i) (F.key_ne_of_off h.1 i 0)

theorem rd_raiseLog_all {e : Evt} (h : (e.st :: logFields).all F.off = true) (a b : Nat) :
    (s.raiseLog e a b).rd F i = s.rd F i := by
  rw [List.all_cons, Bool.and_eq_true] at h
  exact rd_raiseLog _ _ _ _ _ _ (F.not_logKeys h.2 i) (F.key_ne_of_off h.1 i 0)

/-- A field apart from every field that a frame opens reads as before. -/
theorem Frame.rd_off {ps : Region → Prop} {fs : List Fld} {t : State} (h : Frame ps (· ∈ fs) s t)
    (hF : fs.all F.off = true) : t.rd F i = s.rd F i :=
  h.reg F i fun G hG k => F.key_ne_of_off (List.all_eq_true.1 hF G hG) i k

/-! ### Work that leaves given parts and fields alone -/

/-- Bounds around `s` that open every part but those of `ps`, and every field apart from those of `Gs` at every instance. -/
def Bounds.guard (s : State) (ps : List Region) (Gs : List Fld) : Bounds :=
  ⟨s.pending, s.tick, (· = s.locks), s, fun q => ps.contains q = false, fun F => (Gs.all fun G => G.off F) = true⟩

theorem kept_guard (s : State) (ps : List Region) (Gs : List Fld) : Kept (.guard s ps Gs) s :=
  Kept.self s _ _

theorem logs_guard {ps : List Region} {Gs : List Fld} (ht : ps.contains .tasks = false) (hl : ps.contains .log = false)
    (hG : (logFields.all fun F => Gs.all fun G => G.off F) = true) : Logs (.guard s ps Gs) :=
  ⟨ht, hl, fun F hF => List.all_eq_true.1 hG F hF⟩

theorem Kept.guarded {t : State} {ps : List Region} {Gs : List Fld} (h : Kept (.guard s ps Gs) t) {G : Fld}
    (hG : G ∈ Gs) (i : Nat) : t.rd G i = s.rd G i :=
  h.reg G i fun F hF k => G.key_ne_of_off (List.all_eq_true.1 hF G hG) i k

theorem Kept.spared {t : State} {ps : List Region} {Gs : List Fld} (h : Kept (.guard s ps Gs) t) (q : Region)
    (hq : ps.contains q = true) : q.same s t :=
  h.part q fun k => Bool.false_ne_true (k.symm.trans hq)

theorem Kept.cad_spared {t : State} {ps : List Region} {Gs : List Fld} (h : Kept (.guard s ps Gs) t)
    (hq : ps.contains .cad = true) {α : Type} (f : Cad → α) (hf : ∀ c, f { c with tasks := [] } = f c) :
    f t.cad = f s.cad := by
  have e : { t.cad with tasks := [] } = { s.cad with tasks := [] } := h.spared .cad hq
  exact (hf _).symm.trans ((congrArg f e).trans (hf _))

theorem Kept.fw_spared {t : State} {ps : List Region} {Gs : List Fld} (h : Kept (.guard s ps Gs) t)
    (hq : ps.contains .fw = true) {α : Type} (f : Fw → α)
    (hf : ∀ w, f { w with staging := [], dropPend := 0 } = f w) : f t.fw = f s.fw := by
  have e : { t.fw with staging := [], dropPend := 0 } = { s.fw with staging := [], dropPend := 0 } := h.spared .fw hq
  exact (hf _).symm.trans ((congrArg f e).trans (hf _))

/-! ### The parts that logging shares with others -/

variable {t : State} {α : Type}

/-- What logging leaves of the cadence part: all that does not read its task list. -/
theorem LogOnly.cad_part (h : LogOnly s t) (f : Cad → α) (hf : ∀ c ts, f { c with tasks := ts } = f c) :
    f t.cad = f s.cad := by
  obtain ⟨ts, e⟩ := h.cad
  rw [e, hf]

/-- What logging leaves of the firmware part: all that does not read the log's staging. -/
theorem LogOnly.fw_part (h : LogOnly s t) (f : Fw → α)
    (hf : ∀ w st d, f { w with staging := st, dropPend := d } = f w) : f t.fw = f s.fw := by
  obtain ⟨st, d, e⟩ := h.fw
  rw [e, hf]

theorem raise_cad_part (s : State) (e : Evt) (a b : Nat) (f : Cad → α)
    (hf : ∀ c ts, f { c with tasks := ts } = f c) : f (s.raise e a b).cad = f s.cad :=
  ((LogOnly.raise s e a b).cad_part f hf).trans (congrArg f (wr_cad ..))

theorem raise_fw_part (s : State) (e : Evt) (a b : Nat) (f : Fw → α)
    (hf : ∀ w st d, f { w with staging := st, dropPend := d } = f w) : f (s.raise e a b).fw = f s.fw :=
  ((LogOnly.raise s e a b).fw_part f hf).trans (congrArg f (wr_fw ..))

end Sys2Proof.Machine
end

section
/-! PROOF. Provisioning and the boot ROM (R423 to R427), the 64th tooth and the loss of cadence (R16, R21), and the publish
gate (R31): each command's one branch, and what its fields read after it. -/

namespace Sys2Proof.Machine

variable {s : State}

theorem enterFirmware_ACTIVE (s : State) : (s.enterFirmware 0).rd FW_STAT.ACTIVE = 0 := by
  simp (disch := decide) [State.enterFirmware, rd_wr_ne]

theorem enterFirmware_NO_FW (s : State) (k : Nat) : (s.enterFirmware k).rd FW_STAT.NO_FW = 0 := by
  simp [State.enterFirmware]

/-- The boot ROM's search (R427), where it has neither entered firmware nor stopped. -/
theorem execBootFirmwareLoad_searches (f : Option (List Nat)) (he : s.fw.entered = false) (hb : s.fw.bootFail = false)
    (hn : s.rd FW_STAT.NO_FW = 0) : exec (.bootFirmwareLoad f) s = .next
      (match (if s.fw.otpBootSrc = 0 then f else none) with
      | some im =>
        if s.imageOk im then (s.quiet.fillSlot 0 im).enterFirmware 0
        else (s.quiet.raise .FW_LOAD_REJ).wr FW_STAT.NO_FW 0 1
      | none => s.quiet.wr FW_STAT.NO_FW 0 1) := by
  change execBootFirmwareLoad f s = _
  simp [execBootFirmwareLoad, he, hb, on_of_zero hn]
  rfl

/-- The loss of the cadence (R21), where the run has just reached 16. -/
def State.loseCadence (s : State) : State :=
  let s := s.quiet.setCad (fun c => { c with lostDue := false, relRun := 0 })
  ((s.wr CAD_STAT.CADENCE_LOST 0 1).inc CAD_RELOCK_CNT.LOST).raise .CAD_LOST

theorem execCadenceLost_loses (h : s.cad.lostDue = true) : exec .cadenceLost s = .next s.loseCadence := by
  change execCadenceLost s = _
  simp [execCadenceLost, h, State.loseCadence]

theorem loseCadence_sets (s : State) : s.loseCadence.rd CAD_STAT.CADENCE_LOST = 1 ∧ s.loseCadence.rd CAD_EVT.LOST = 1 ∧
    s.loseCadence.cad.lostDue = false := by
  refine ⟨?_, rd_raise_st _ .CAD_LOST _ _ (by decide), ?_⟩
  · simp +decide (disch := decide) [State.loseCadence, rd_raise, rd_inc_ne]
  · exact (raise_cad_part _ .CAD_LOST _ _ Cad.lostDue fun _ _ => rfl).trans (by simp)

/-- The handler's overrun (R31, R33): the gate closes and the handler abandons the tick. -/
def State.closeGate (s : State) : State :=
  let s := s.quiet.setEng (fun e => { e with staged := none })
  let s := s.setCad (fun c => { c with
    fwCyc := 600, fwDone := true, abandoned := true, fwOvr := s.tick :: c.fwOvr.filter (fun t => decide (s.tick < t + 1000)) })
  (s.inc CAD_OVERRUN.FW).raise .CAD_FW_OVR

theorem execFwOverrun_closes (h : s.hubRuns = true) (hp : s.fw.published = true) (hd : s.cad.fwDone = false) :
    exec .fwOverrun s = .next s.closeGate := by
  change execFwOverrun s = _
  simp [execFwOverrun, State.closeGate, h, hp, hd]

theorem closeGate_fwDone (s : State) : s.closeGate.cad.fwDone = true :=
  (raise_cad_part _ .CAD_FW_OVR _ _ Cad.fwDone fun _ _ => rfl).trans (by simp)

theorem closeGate_abandoned (s : State) : s.closeGate.cad.abandoned = true :=
  (raise_cad_part _ .CAD_FW_OVR _ _ Cad.abandoned fun _ _ => rfl).trans (by simp)

theorem closeGate_eng (s : State) : s.closeGate.eng = { s.eng with staged := none } := by
  simp [State.closeGate]

theorem closeGate_counts (s : State) :
    s.closeGate.rd CAD_OVERRUN.FW = (s.rd CAD_OVERRUN.FW + 1) % 2 ^ CAD_OVERRUN.FW.width := by
  simp (disch := decide) [State.closeGate, rd_raise]

theorem handlerTakes_of_abandoned (h : s.cad.abandoned = true) : s.handlerTakes = false := by
  simp [State.handlerTakes, h]

end Sys2Proof.Machine

namespace Sys2Proof

open Sys2Proof.Machine

/-- Settles O8, by the branch of PROV_LOCK. -/
theorem provisioningLocks : Obligations.ProvisioningLocks := by
  refine ⟨fun d s h => ⟨_, rfl, ?_⟩, fun s => ⟨_, rfl, ?_⟩, fun f s h => ⟨_, rfl, ?_⟩⟩
  · simp [h]
  · by_cases h : s.fw.otpProvLock = true <;> simp [h]
  · simp [h]

/-- Settles O9, by the cases of the search for firmware (`execBootFirmwareLoad_searches`). -/
theorem bootRomEntersOrWaits : Obligations.BootRomEntersOrWaits := by
  refine ⟨fun f s he hb hn hf => ⟨_, execBootFirmwareLoad_searches f he hb hn, ?_⟩,
    fun f s he hb hn h0 ho => ⟨_, execBootFirmwareLoad_searches (some f) he hb hn, ?_⟩,
    fun f s he hb hn h0 ho => ⟨_, execBootFirmwareLoad_searches (some f) he hb hn, ?_⟩⟩
  · have hw : (if s.fw.otpBootSrc = 0 then f else none) = none := by
      obtain rfl | h0 := hf
      · simp
      · simp [h0]
    simp +decide [hw, he]
  · simp only [h0, ho, if_true]
    exact ⟨rfl, enterFirmware_ACTIVE _, enterFirmware_NO_FW _ 0⟩
  · simp only [h0, ho, if_true, Bool.false_eq_true, if_false]
    refine ⟨?_, ?_, ?_⟩
    · rw [wr_fw]
      exact (raise_fw_part _ .FW_LOAD_REJ _ _ Fw.entered fun _ _ _ => rfl).trans he
    · rw [rd_wr_ne _ _ _ _ _ _ (by decide)]
      exact rd_raise_st _ .FW_LOAD_REJ _ _ (by decide)
    · exact rd_wr_same ..

/-- Settles O11, by the one branch of each of the two commands. -/
theorem lockAndLoss : Obligations.LockAndLoss := by
  refine ⟨fun s hl ht => ⟨_, rfl, ?_⟩, fun s hd => ⟨_, execCadenceLost_loses hd, loseCadence_sets s⟩⟩
  simp +decide (disch := decide) [on_false_iff.2 hl, ht, rd_wr_ne]

/-- Settles O12: a publication within the gate, and the gate's closing (`State.closeGate`). -/
theorem publishGate : Obligations.PublishGate := by
  refine ⟨fun n s o hr hl hd hn ho => ⟨_, rfl, ?_⟩, fun s hr hp hd => ⟨_, execFwOverrun_closes hr hp hd, ?_⟩⟩
  · simp [hr, hl, hd, hn, ho]
  · exact ⟨by rw [closeGate_eng], by rw [closeGate_eng], closeGate_fwDone s, handlerTakes_of_abandoned (closeGate_abandoned s),
      closeGate_counts s⟩

end Sys2Proof
end

section
/-! PROOF. The spoke level: steps of the feather shaper (R50 to R52, R57, R67), the brake and its release (R55 to R59), and
the frames of the spoke buses (R71, R72).  A cell is read after each update of the cells (`sent_` lemmas). -/

namespace Sys2Proof.Machine

variable {s : State}

/-! ### Tables -/

theorem Table.get_filterMap {α : Type} [DecidableEq α] (d : α) (x : Nat → α) (l : List Nat) (i : Nat) :
    Table.get d (l.filterMap fun j => if x j = d then none else some (j, x j)) i = if i ∈ l then x i else d := by
  induction l with
  | nil => simp
  | cons j l ih =>
    by_cases hj : x j = d
    · rw [List.filterMap_cons_none (by simp [hj]), ih]
      by_cases hi : i = j
      · simp [hi, hj]
      · simp [hi]
    · rw [List.filterMap_cons_some (b := (j, x j)) (by simp [hj]), Table.get, ih]
      by_cases hi : i = j
      · simp [hi]
      · simp [hi, Ne.symm hi]

theorem Table.get_remap {α : Type} [DecidableEq α] (d : α) (n : Nat) (f : Nat → α → α) (t : Table α) {i : Nat}
    (h : i < n) : Table.get d (Table.remap d n f t) i = f i (Table.get d t i) := by
  rw [Table.remap, Table.get_filterMap d (fun i => f i (Table.get d t i)), if_pos (List.mem_range.2 h)]

/-! ### The record of a cell -/

theorem sent_congr {t : State} (h : t.spk = s.spk) (n : Nat) : t.sent n = s.sent n := by
  rw [State.sent, State.sent, h]

@[simp] theorem sent_quiet (s : State) (n : Nat) : s.quiet.sent n = s.sent n := rfl

@[simp] theorem sent_wr (s : State) (F : Fld) (i v n : Nat) : (s.wr F i v).sent n = s.sent n :=
  sent_congr (wr_spk ..) n

@[simp] theorem sent_inc (s : State) (F : Fld) (i n : Nat) : (s.inc F i).sent n = s.sent n :=
  sent_wr ..

@[simp] theorem sent_raise (s : State) (e : Evt) (a b n : Nat) : (s.raise e a b).sent n = s.sent n :=
  sent_congr (raise_spk ..) n

@[simp] theorem sent_drive (s : State) (e : Emission) (n : Nat) : (s.drive e).sent n = s.sent n := rfl

@[simp] theorem sent_setSent (s : State) (n : Nat) (f : Sent → Sent) : (s.setSent n f).sent n = f (s.sent n) :=
  Table.get_upd_same ..

@[simp] theorem setSent_rd (s : State) (n : Nat) (f : Sent → Sent) (F : Fld) (i : Nat) :
    (s.setSent n f).rd F i = s.rd F i := rfl

theorem cellDiv_inc_FTH_EVT {i : Nat} (hi : i < 192) (n : Nat) : (s.inc SNT_CNT.FTH_EVT i).cellDiv n = s.cellDiv n := by
  simp (disch := first | assumption | decide) only [State.cellDiv, sent_inc, rd_inc_apart 1 192]

/-! ### The brake -/

@[simp] theorem sent_traceEvent (s : State) (b n : Nat) : (s.traceEvent b).sent n = s.sent n := rfl

@[simp] theorem traceEvent_rd (s : State) (b : Nat) (F : Fld) (i : Nat) : (s.traceEvent b).rd F i = s.rd F i := rfl

@[simp] theorem traceEvent_spk (s : State) (b : Nat) : (s.traceEvent b).spk = s.spk := rfl

@[simp] theorem traceEvent_emit (s : State) (b : Nat) : (s.traceEvent b).emit = s.emit := rfl

/-- Every cell as the copies reach it. -/
theorem alertIn_sent (s : State) (a : AlertIn) (entry : Bool) {n : Nat} (hn : n < 192) :
    (s.alertIn a entry).sent n = (s.sent n).alert a (s.rd SPK_STAT.BRK_DIV) entry n :=
  Table.get_remap ({} : Sent) 192 (Sent.alert a (s.rd SPK_STAT.BRK_DIV) entry) s.spk.sents hn

@[simp] theorem alertIn_rd (s : State) (a : AlertIn) (entry : Bool) (F : Fld) (i : Nat) :
    (s.alertIn a entry).rd F i = s.rd F i := rfl

@[simp] theorem alertIn_emit (s : State) (a : AlertIn) (entry : Bool) : (s.alertIn a entry).emit = s.emit := rfl

variable {a : AlertIn} {div n : Nat} {entry : Bool} {x : Sent} {w : Copies}

theorem Sent.unshape_own (x : Sent) (cyc : Nat) : (x.unshape cyc).own = x.own := rfl

theorem Sent.unshape_brk (x : Sent) (cyc : Nat) : (x.unshape cyc).brk = x.brk := rfl

@[simp] theorem Sent.alert_own : (x.alert a div entry n).own = ownCopies a n := by
  simp only [Sent.alert, apply_ite Sent.own, Sent.unshape_own, ite_self]

/-- A cell that the die's copies reach keeps its own divider code. -/
theorem Sent.alert_brk_of_none (h : ownCopies a n = none) : (x.alert a div entry n).brk = x.brk := by
  simp only [Sent.alert, h, apply_ite Sent.brk, Sent.unshape_brk, ite_self]

/-- A feather ends where the die's divider becomes 8. -/
theorem Sent.alert_step_of_none (h : ownCopies a n = none) : (x.alert a div true n).step = 0 := by
  simp [Sent.alert, h, Sent.unshape, Sent.shape]

/-- A cell that brakes on its own vote has the divider 8. -/
theorem Sent.alert_brk_of_vote (h : ownCopies a n = some w) (hw : vote w = true) : (x.alert a div entry n).brk = 3 := by
  simp only [Sent.alert, h, hw, if_true, apply_ite Sent.brk, Sent.unshape_brk, ite_self]

/-- A cell whose own copies do not brake it keeps its divider and its feather. -/
theorem Sent.alert_of_no_vote (h : ownCopies a n = some w) (hw : vote w = false) :
    (x.alert a div entry n).brk = (if x.own.isSome then x.brk else max div x.brk) ∧
      (x.alert a div entry n).step = x.step := by
  simp [Sent.alert, h, hw]

theorem cellDiv_of_own (h : (s.sent n).own = some w) : s.cellDiv n = (s.sent n).brk := by
  simp [State.cellDiv, h]

theorem cellDiv_of_no_own (h : (s.sent n).own = none) : s.cellDiv n = max (s.rd SPK_STAT.BRK_DIV) (s.sent n).brk := by
  simp [State.cellDiv, h]

/-- A core that is clocked runs no faster than its cell's divider lets it (R61). -/
theorem coreRatio_ge_eight {c : Nat} (hg : s.bit CORE_GATE.GATE c n = false) (h : 3 ≤ s.cellDiv n) :
    8 ≤ s.coreRatio n c := by
  have h8 : 2 ^ 3 ≤ 2 ^ s.cellDiv n := Nat.pow_le_pow_right (by decide) h
  simp only [State.coreRatio, hg, Bool.false_eq_true, if_false]
  omega

/-- The die enters the brake (R55, R57). -/
def State.enterBrake (s : State) (v : AlertIn) : State :=
  let s := (s.quiet.alertIn v true).setSpk (fun k => { k with voted := true, quiet := 0 })
  let s := ((s.wr SPK_STAT.BRK_DIV 0 3).wr SPK_STAT.BRAKE 0 1).drive (.brake 8)
  let s := s.setSpk (fun k => { k with respond := true })
  ((s.inc SPK_BRK_CNT.BRAKES).raise .SPK_BRAKE).traceEvent 3

theorem execBrake_enters {v : AlertIn} (hv : vote v.v = true) (hd : s.rd SPK_STAT.BRK_DIV ≠ 3) :
    exec (.brake v) s = .next (s.enterBrake v) := by
  change execBrake v s = _
  have hb : s.quiet.braked = false := by simp [State.braked, hd]
  simp only [execBrake, hv, hb, if_true, Bool.not_false, State.enterBrake]

theorem execBrake_stays {v : AlertIn} (hv : vote v.v = true) (hd : s.rd SPK_STAT.BRK_DIV = 3) :
    exec (.brake v) s = .next ((s.quiet.alertIn v false).setSpk (fun k => { k with voted := true, quiet := 0 })) := by
  change execBrake v s = _
  simp [execBrake, hv, State.braked, hd]

theorem execBrake_no_vote {v : AlertIn} (hv : vote v.v = false) :
    exec (.brake v) s = .next (s.quiet.alertIn v false) := by
  change execBrake v s = _
  simp [execBrake, hv]

theorem sent_setSpk_flags (s : State) (f : Spk → Spk) (h : (f s.spk).sents = s.spk.sents) (n : Nat) :
    (s.setSpk f).sent n = s.sent n := by
  rw [State.sent, setSpk_spk, h, State.sent]

theorem enterBrake_BRK_DIV (s : State) (v : AlertIn) : (s.enterBrake v).rd SPK_STAT.BRK_DIV = 3 := by
  simp +decide (disch := decide) [State.enterBrake, rd_raise, rd_inc_ne, rd_wr_ne]

theorem enterBrake_EVT (s : State) (v : AlertIn) : (s.enterBrake v).rd SPK_EVT.BRAKE = 1 := by
  rw [State.enterBrake, traceEvent_rd]
  exact rd_raise_st _ .SPK_BRAKE _ _ (by decide)

theorem enterBrake_spk (s : State) (v : AlertIn) : (s.enterBrake v).spk.voted = true ∧ (s.enterBrake v).spk.quiet = 0 := by
  simp [State.enterBrake]

theorem enterBrake_emit (s : State) (v : AlertIn) : (s.enterBrake v).emit = [.brake 8] := by
  simp [State.enterBrake]

theorem enterBrake_BRAKE (s : State) (v : AlertIn) : (s.enterBrake v).rd SPK_STAT.BRAKE = 1 := by
  simp +decide (disch := decide) [State.enterBrake, rd_raise, rd_inc_ne]

theorem enterBrake_counts (s : State) (v : AlertIn) : (s.enterBrake v).rd SPK_BRK_CNT.BRAKES =
    (s.rd SPK_BRK_CNT.BRAKES + 1) % 2 ^ SPK_BRK_CNT.BRAKES.width := by
  simp (disch := decide) [State.enterBrake, rd_raise, rd_wr_ne]

theorem enterBrake_sent (s : State) (v : AlertIn) (hn : n < 192) :
    (s.enterBrake v).sent n = (s.sent n).alert v (s.rd SPK_STAT.BRK_DIV) true n := by
  simp [State.enterBrake, sent_setSpk_flags, alertIn_sent, hn]

/-! ### The release of the brake -/

/-- The release step of one cell (R58). -/
def Sent.release (c : Copies) (x : Sent) : Sent :=
  if x.toRelease c then { x with brk := x.brk - 1 } else x

theorem Sent.release_brk {c : Copies} (h : x.toRelease c = true) : (x.release c).brk = x.brk - 1 := by
  rw [Sent.release, if_pos h]

theorem releaseCells_sent (s : State) (hn : n < 192) : s.releaseCells.sent n = (s.sent n).release s.spk.copies :=
  Table.get_remap ({} : Sent) 192 (fun _ x => x.release s.spk.copies) s.spk.sents hn

@[simp] theorem releaseCells_rd (s : State) (F : Fld) (i : Nat) : s.releaseCells.rd F i = s.rd F i := rfl

/-- The die's divider goes to code `d` (R58). -/
def State.releaseTo (s : State) (d : Nat) : State :=
  let s := (s.wr SPK_STAT.BRK_DIV 0 d).drive (.brake (2 ^ d))
  if d = 0 then
    let s := (s.wr SPK_STAT.BRAKE 0 0).raise .SPK_BRK_RELEASED
    s.setGl (fun g => { g with alert := { g.alert with released := some s.tick } })
  else s

theorem execBrakeReleaseStep_releases (h : s.releaseReady = true) : exec .brakeReleaseStep s = .next
    (if s.rd SPK_STAT.BRK_DIV = 0 then s.quiet.releaseCells
    else s.quiet.releaseCells.releaseTo (s.rd SPK_STAT.BRK_DIV - 1)) := by
  change execBrakeReleaseStep s = _
  simp [execBrakeReleaseStep, State.releaseTo, h]

theorem execBrakeReleaseStep_idle (h : s.releaseReady = false) : exec .brakeReleaseStep s = .next s.quiet := by
  change execBrakeReleaseStep s = _
  simp [execBrakeReleaseStep, h]

@[simp] theorem releaseTo_spk (s : State) (d : Nat) : (s.releaseTo d).spk = s.spk := by
  unfold State.releaseTo
  dsimp only
  split
  · simp
  · simp

theorem releaseTo_BRK_DIV (s : State) {d : Nat} (hd : d < 4) : (s.releaseTo d).rd SPK_STAT.BRK_DIV = d := by
  have hw : d % 2 ^ SPK_STAT.BRK_DIV.width = d := Nat.mod_eq_of_lt hd
  unfold State.releaseTo
  dsimp only
  split
  · simp (disch := decide) [rd_raise, rd_wr_ne, hw]
  · simp [hw]

theorem releaseTo_zero (s : State) : (s.releaseTo 0).rd SPK_STAT.BRAKE = 0 ∧
    (s.releaseTo 0).rd SPK_EVT.BRK_RELEASED = 1 ∧ (s.releaseTo 0).emit = s.emit ++ [.brake 1] := by
  rw [State.releaseTo, if_pos rfl]
  refine ⟨?_, rd_raise_st _ .SPK_BRK_RELEASED _ _ (by decide), ?_⟩
  · simp (disch := decide) [rd_raise]
  · simp

theorem releaseTo_pos (s : State) {d : Nat} (hd : d ≠ 0) : (s.releaseTo d).rd SPK_STAT.BRAKE = s.rd SPK_STAT.BRAKE ∧
    (s.releaseTo d).emit = s.emit ++ [.brake (2 ^ d)] := by
  simp (disch := decide) [State.releaseTo, hd, rd_wr_ne]

/-- The copies arrive where the die does not brake on them (R58). -/
theorem execVrAlertDeassert_takes {v : AlertIn} (h : s.spk.voted = false ∨ vote v.v = false) :
    exec (.vrAlertDeassert v) s = .next (if s.spk.voted then
      (s.quiet.alertIn v false).setSpk (fun k => { k with voted := false, quiet := 0 }) else s.quiet.alertIn v false) := by
  have hb : (s.spk.voted && vote v.v) = false := by
    obtain h | h := h
    · simp [h]
    · simp [h]
  change execVrAlertDeassert v s = _
  simp only [execVrAlertDeassert, quiet_spk, hb, Bool.false_eq_true, if_false]
  rfl

theorem releaseReady_voted (h : s.releaseReady = true) : s.spk.voted = false ∧
    s.inf SPK_CTRL.BRK_QUIET ≤ s.spk.quiet ∧
      (s.rd SPK_STAT.BRK_DIV = 3 ∨ s.spk.relAt + s.inf SPK_CTRL.BRK_STEP ≤ s.tick) := by
  simp only [State.releaseReady, State.braked, State.past, Bool.and_eq_true, Bool.not_eq_true', Bool.or_eq_true,
    beq_iff_eq, decide_eq_true_eq] at h
  obtain ⟨⟨⟨⟨-, hv⟩, hq⟩, hr⟩, -⟩ := h
  exact ⟨hv, hq, hr⟩

end Sys2Proof.Machine

namespace Sys2Proof

open Sys2Proof.Machine

/-- Settles O16: the entry into the brake (`State.enterBrake`), the copies as each cell takes them (`alertIn_sent`), and the
release step (`State.releaseTo`). -/
theorem brakeAndRelease : Obligations.BrakeAndRelease := by
  refine ⟨fun v s hv hd => ⟨_, execBrake_enters hv hd, ?_⟩, fun v s hv hd => ⟨_, execBrake_stays hv hd, ?_⟩,
    fun v s hv => ⟨_, execBrake_no_vote hv, ?_⟩, fun v s hv ho => ⟨_, execVrAlertDeassert_takes (.inr hv), ?_⟩,
    fun v s ho => ⟨_, execVrAlertDeassert_takes (.inl ho), ?_⟩,
    fun s hr h2 h4 => ⟨_, execBrakeReleaseStep_releases hr, ?_⟩, fun s hr h1 => ⟨_, execBrakeReleaseStep_releases hr, ?_⟩,
    fun s hr => ⟨_, execBrakeReleaseStep_releases hr, ?_⟩, fun s hr => ⟨_, execBrakeReleaseStep_idle hr, rfl⟩,
    fun s hr => releaseReady_voted hr⟩
  · refine ⟨enterBrake_BRK_DIV s v, enterBrake_BRAKE s v, enterBrake_EVT s v, enterBrake_counts s v,
      (enterBrake_spk s v).1, (enterBrake_spk s v).2, enterBrake_emit s v, fun n hn ho => ⟨?_, ?_⟩⟩
    · rw [enterBrake_sent s v hn, Sent.alert_step_of_none ho]
    · intro c _ hg
      have hown : ((s.enterBrake v).sent n).own = none := by rw [enterBrake_sent s v hn, Sent.alert_own, ho]
      refine coreRatio_ge_eight hg ?_
      rw [cellDiv_of_no_own hown, enterBrake_BRK_DIV]
      exact Nat.le_max_left _ _
  · simp [hd]
  · refine ⟨rfl, rfl, rfl, rfl, fun n hn w ho => ?_⟩
    have hs := alertIn_sent s.quiet v false hn
    have hown : ((s.quiet.alertIn v false).sent n).own = some w := by rw [hs, Sent.alert_own, ho]
    have hdiv := cellDiv_of_own hown
    rw [hs] at hdiv
    refine ⟨fun hw => ?_, fun hw => ?_⟩
    · rw [Sent.alert_brk_of_vote ho hw] at hdiv
      exact ⟨hdiv, fun c _ hg => coreRatio_ge_eight hg hdiv.ge⟩
    · obtain ⟨hb, hp⟩ := Sent.alert_of_no_vote (x := s.quiet.sent n) (div := s.quiet.rd SPK_STAT.BRK_DIV)
        (entry := false) ho hw
      exact ⟨hdiv.trans hb, by rw [hs]; exact hp⟩
  · have hsent (n : Nat) : ((s.quiet.alertIn v false).setSpk fun k => { k with voted := false, quiet := 0 }).sent n =
        (s.quiet.alertIn v false).sent n := sent_setSpk_flags _ _ (by rfl) n
    rw [ho, if_pos rfl]
    refine ⟨rfl, rfl, rfl, rfl, fun n hn hc hown => ?_⟩
    have hs := (hsent n).trans (alertIn_sent s.quiet v false hn)
    rw [cellDiv_of_no_own (by rw [hs, Sent.alert_own, hc]), cellDiv_of_no_own hown, hs, Sent.alert_brk_of_none hc]
    rfl
  · rw [ho, if_neg Bool.false_ne_true]
    exact ⟨ho, rfl, rfl, rfl⟩
  · have hd : s.rd SPK_STAT.BRK_DIV - 1 ≠ 0 := by omega
    obtain ⟨hb, he⟩ := releaseTo_pos s.quiet.releaseCells hd
    rw [if_neg (by omega)]
    exact ⟨releaseTo_BRK_DIV _ (by omega), congrArg Spk.relAt (releaseTo_spk ..), hb, he⟩
  · obtain ⟨hb, hv, he⟩ := releaseTo_zero s.quiet.releaseCells
    rw [h1, if_neg Nat.one_ne_zero]
    exact ⟨releaseTo_BRK_DIV _ (by decide), hb, congrArg Spk.relAt (releaseTo_spk ..), hv, he⟩
  · intro n hn ht
    have hs : s.quiet.releaseCells.sent n = (s.sent n).release s.spk.copies := releaseCells_sent s.quiet hn
    split
    · rw [hs, Sent.release_brk ht]
    · rw [sent_congr (releaseTo_spk ..) n, hs, Sent.release_brk ht]

/-- Settles O15: each command takes the branch that its hypotheses name. -/
theorem featherSteps : Obligations.FeatherSteps := by
  refine ⟨fun n k lvl cyc s hn ht hi hw hx hc h0 => ⟨_, rfl, ?_⟩, fun n k lvl cyc s hn ht hi hw hx hc => ⟨_, rfl, ?_⟩,
    fun n k lvl cyc s hn hi => ⟨_, rfl, ?_⟩, fun n cyc s hn hx => ⟨_, rfl, ?_⟩,
    fun n cyc s hn hx h0 hr hm => ⟨_, rfl, ?_⟩, fun n cyc s hn hx hr hm => ⟨_, rfl, ?_⟩⟩
  · simp [not_le.2 hn, hi, ht, hw, hx, cellDiv_inc_FTH_EVT hn, hc, h0, State.stepOnTrip, State.fstep, Sent.shape]
  · simp [not_le.2 hn, hi, ht, hw, hx, cellDiv_inc_FTH_EVT hn, hc]
  · simp [not_le.2 hn, hi]
  · simp [not_le.2 hn, hx]
  · simp [not_le.2 hn, hx, h0, hr, State.fhold, hm, Sent.shape]
  · simp [not_le.2 hn, hx, hr, hm, Sent.shape]

end Sys2Proof
end

section
/-! PROOF. The frames of the spoke buses (R71, R72): what a cell sends passes the frame's CRC, and what the hub keeps of a frame
in the cell's record (`Sent.frameRec`) comes from the frame alone, whatever its flags and results start. -/

namespace Sys2Proof.Machine

variable {s : State} {n : Nat}

/-! ### The CRC of a frame -/

theorem crc8Bit_lt (c : Nat) (b : Bool) : crc8Bit c b < 256 := by
  have h : c * 2 % 256 < 2 ^ 8 := Nat.mod_lt _ (by decide)
  unfold crc8Bit
  dsimp only
  split
  · exact Nat.xor_lt_two_pow h (by decide)
  · exact h

theorem crc8Bits_lt {c : Nat} (k v : Nat) (h : c < 256) : crc8Bits k v c < 256 := by
  induction k generalizing c with
  | zero => exact h
  | succ k ih => exact ih (crc8Bit_lt _ _)

theorem crc8Words_lt {c : Nat} (ws : List Nat) (h : c < 256) : crc8Words ws c < 256 := by
  induction ws generalizing c with
  | nil => exact h
  | cons w ws ih => exact ih (crc8Bits_lt 32 w h)

/-- Twelve words and a thirteenth that closes them with its CRC make a good frame. -/
theorem frameOk_closed {ws : List Nat} (h : ws.length = 12) (v : Nat) :
    frameOk (ws ++ [v * 256 + crc8Bits 24 v (crc8Words ws 0)]) = true := by
  have hc := crc8Bits_lt 24 v (crc8Words_lt ws (c := 0) (by decide))
  have hat : at0 (ws ++ [v * 256 + crc8Bits 24 v (crc8Words ws 0)]) 12 = v * 256 + crc8Bits 24 v (crc8Words ws 0) := by
    simp [at0, h]
  have htake : (ws ++ [v * 256 + crc8Bits 24 v (crc8Words ws 0)]).take 12 = ws := by
    rw [List.take_append_of_le_length h.ge, List.take_of_length_le h.le]
  have hdiv : (v * 256 + crc8Bits 24 v (crc8Words ws 0)) / 256 = v := by omega
  have hmod : (v * 256 + crc8Bits 24 v (crc8Words ws 0)) % 256 = crc8Bits 24 v (crc8Words ws 0) := by omega
  simp [frameOk, hat, htake, hdiv, hmod, h]

/-- A bus that gets no bit wrong delivers the words that were sent. -/
theorem busErrors_nil (ws : List Nat) : busErrors ws [] = ws := by
  induction ws with
  | nil => rfl
  | cons w ws ih => exact congrArg₂ List.cons (Nat.xor_zero w) ih

theorem cellFrame_ok (s : State) (n : Nat) (act : List Nat) : frameOk (s.cellFrame n act) = true :=
  frameOk_closed (by simp [packActivity]) _

theorem execSpokeFrame_good {act ws : List Nat} {err : Option (List Nat)} (hp : s.sentinelPresent n = true)
    (hr : s.received n act err = some ws) (ho : frameOk ws = true) :
    exec (.spokeFrame n { act := act, err := err }) s = .next ((s.quiet.goodFrame n ws).frameResults n (at0 ws 12)) := by
  have hp' : s.quiet.sentinelPresent n = true := hp
  have hr' : s.quiet.received n act err = some ws := hr
  change execSpokeFrame n { act := act, err := err } s = _
  simp only [execSpokeFrame, hp', hr', ho, if_true]

theorem execSpokeFrame_bad {act : List Nat} {err : Option (List Nat)} (hp : s.sentinelPresent n = true)
    (hr : ∀ ws, s.received n act err = some ws → frameOk ws = false) :
    exec (.spokeFrame n { act := act, err := err }) s = .next (s.quiet.badFrame n) := by
  have hp' : s.quiet.sentinelPresent n = true := hp
  have hr' : s.quiet.received n act err = s.received n act err := rfl
  change execSpokeFrame n { act := act, err := err } s = _
  simp only [execSpokeFrame, hp', hr', if_true]
  cases h : s.received n act err with
  | none => rfl
  | some ws => simp only [hr ws h, Bool.false_eq_true, if_false]

/-! ### What the hub keeps of a frame -/

/-- The part of a cell's record that a frame sets: the run of failures, whether this tick's frame was good, whether the activity
is unknown, the activity and its deltas. -/
def Sent.frameRec (x : Sent) : Nat × Bool × Bool × List Nat × List Nat :=
  (x.miss, x.good, x.unknown, x.act, x.delta)

/-- The record of cell `n` holds `r` of a frame. -/
def HasFrame (n : Nat) (r : Nat × Bool × Bool × List Nat × List Nat) (s : State) : Prop :=
  (s.sent n).frameRec = r

variable {r : Nat × Bool × Bool × List Nat × List Nat}

theorem HasFrame.of_spk {t : State} (h : HasFrame n r s) (ht : t.spk = s.spk) : HasFrame n r t := by
  rw [HasFrame, sent_congr ht]
  exact h

theorem HasFrame.ite {t : State} {c : Prop} [Decidable c] (h : HasFrame n r s) (k : HasFrame n r t) :
    HasFrame n r (if c then s else t) := by
  split
  · exact h
  · exact k

theorem HasFrame.wr (h : HasFrame n r s) (F : Fld) (i v : Nat) : HasFrame n r (s.wr F i v) :=
  h.of_spk (wr_spk ..)

theorem HasFrame.raise (h : HasFrame n r s) (e : Evt) (a b : Nat) : HasFrame n r (s.raise e a b) :=
  h.of_spk (raise_spk ..)

theorem HasFrame.raiseLog (h : HasFrame n r s) (e : Evt) (a b : Nat) : HasFrame n r (s.raiseLog e a b) :=
  h.of_spk (raiseLog_spk ..)

theorem HasFrame.setSent (h : HasFrame n r s) {f : Sent → Sent} (hf : ∀ x, (f x).frameRec = x.frameRec) :
    HasFrame n r (s.setSent n f) := by
  rw [HasFrame, sent_setSent, hf]
  exact h

theorem HasFrame.setSpk (h : HasFrame n r s) {f : Spk → Spk} (hf : ∀ k, (f k).sents = k.sents) :
    HasFrame n r (s.setSpk f) := by
  rw [HasFrame, sent_setSpk_flags s f (hf _)]
  exact h

theorem HasFrame.treeCheck (h : HasFrame n r s) (a b c : Bool) : HasFrame n r (s.treeCheck n a b c) := by
  unfold State.treeCheck
  extract_lets o run x dA dB dC t
  have ht : HasFrame n r t := h.setSent fun _ => rfl
  clear_value t dA dB dC run o
  cases o with
  | none => exact ht
  | some i => exact (ht.raiseLog ..).ite ht
theorem HasFrame.wrBit (h : HasFrame n r s) (F : Fld) (i b : Nat) (v : Bool) : HasFrame n r (s.wrBit F i b v) :=
  h.of_spk (wrBit_spk ..)

theorem HasFrame.injection (h : HasFrame n r s) (k : Nat) (failed : Bool) : HasFrame n r (s.injection n k failed) := by
  have hp : ∀ {t : State} (v : Nat), HasFrame n r t → HasFrame n r (t.setSent n fun x => { x with pass := x.pass.set k v }) :=
    fun _ ht => ht.setSent fun _ => rfl
  have hd : HasFrame n r (s.inc SNT_CNT.INJ_DONE n) := h.wr ..
  unfold State.injection
  dsimp only
  split
  · exact (hp 0 ((hd.wr ..).wrBit ..)).raiseLog ..
  · split
    · exact (hp _ hd).wrBit ..
    · exact hp _ hd

theorem HasFrame.injections (h : HasFrame n r s) (p f : Nat) : HasFrame n r (s.injections n p f) := by
  refine upTo_keeps (HasFrame n r) h fun k t ht => ?_
  exact (ht.injection ..).ite ht

theorem HasFrame.monitorResult (h : HasFrame n r s) (w : Nat) : HasFrame n r (s.monitorResult n w) := by
  unfold State.monitorResult
  dsimp only
  split
  · exact (((((h.wr ..).wr ..).wr ..).wr ..).wr ..).wr ..
  · exact h

theorem frameResults_spk (s : State) (n w : Nat) : (s.frameResults n w).spk = s.spk := by
  have h : Kept ⟨s.pending, s.tick, (· = s.locks), s, (· ≠ .spk), fun _ => True⟩ (s.frameResults n w) := by
    refine kept_frameResults (Kept.self s _ _) Region.noConfusion
      ⟨Region.noConfusion, Region.noConfusion, fun _ _ => trivial⟩ ?_ ?_ ?_ ?_ ?_ ?_ ?_ <;> trivial
  exact h.part .spk fun k => k rfl

/-- The deltas that a good frame forms (R71). -/
def State.frameDelta (s : State) (n : Nat) (ws : List Nat) : List Nat :=
  if (bits 15 8 (at0 ws 0) == dON || bits 15 8 (at0 ws 0) == dDRAIN) && (s.sent n).seenFrame && !(s.sent n).unknown then
    activityDelta (s.sent n).act (frameActivity ws) (s.sent n).stand
  else []

theorem goodFrame_hasFrame (s : State) (n : Nat) (ws : List Nat) :
    HasFrame n (0, true, false, frameActivity ws, s.frameDelta n ws) (s.goodFrame n ws) := by
  unfold State.goodFrame
  extract_lets w0 w11 fl new x counts delta was s₀ s₁ s₂ s₃ s₄ s₅ s₆ s₇ s₈ s₉
  generalize hR : (0, true, false, frameActivity ws, s.frameDelta n ws) = r
  have h₀ : HasFrame n r s₀ := by
    rw [HasFrame, sent_setSent, ← hR]
    rfl
  clear_value s₀
  have h₁ : HasFrame n r s₁ := (h₀.wr _ _ _).wr _ _ _
  have h₂ : HasFrame n r s₂ := (h₁.wr _ _ _).wr _ _ _
  have h₅ : HasFrame n r s₅ := ((h₂.wr _ _ _).wr _ _ _).wr _ _ _
  clear_value s₅
  have h₆ : HasFrame n r s₆ := h₅.treeCheck _ _ _
  have h₇ : HasFrame n r s₇ := h₆.injections _ _
  have h₈ : HasFrame n r s₈ := h₇.monitorResult _
  clear_value s₈
  have h₉ : HasFrame n r s₉ := by
    refine HasFrame.ite (HasFrame.raise (HasFrame.setSpk h₈ ?_) _ _ _) h₈
    exact fun _ => rfl
  clear_value s₉
  refine HasFrame.ite (HasFrame.raise (HasFrame.setSpk h₉ ?_) _ _ _) h₉
  exact fun _ => rfl

theorem at0_range_map {k m : Nat} (f : Nat → Nat) (h : k < m) : at0 ((List.range m).map f) k = f k := by
  simp [at0, h]

theorem at0_nil (k : Nat) : at0 [] k = 0 := rfl

theorem activityDelta_at {old new : List Nat} {k : Nat} (h : k < 16) :
    at0 (activityDelta old new []) k = (at0 new k + 2 ^ 20 - at0 old k) % 2 ^ 20 := by
  rw [activityDelta, at0_range_map _ h, at0_nil, Nat.sub_zero]

/-- The activity of cell `n` becomes unknown (R72, R128). -/
def State.loseFrames (s : State) (n : Nat) : State :=
  let s := s.setSent n (fun x => { x with unknown := true, seenFrame := false, delta := [], stand := [] })
  (s.raise .SPK_SPOKE_FAULT (arg0 n 0)).raise .EM_UNKNOWN (arg0 n 0)

theorem execSpokeFault_loses (hn : n < 192) (hm : 3 ≤ (s.sent n).miss) (hu : (s.sent n).unknown = false) :
    exec (.spokeFault n) s = .next (s.quiet.loseFrames n) := by
  change execSpokeFault n s = _
  simp [execSpokeFault, not_le.2 hn, hm, hu, State.loseFrames]

theorem loseFrames_unknown (s : State) (n : Nat) : ((s.loseFrames n).sent n).unknown = true := by
  simp [State.loseFrames]

theorem loseFrames_events (s : State) (n : Nat) :
    (s.loseFrames n).rd SPK_EVT.SPOKE_FAULT = 1 ∧ (s.loseFrames n).rd EM_EVT.UNKNOWN = 1 := by
  refine ⟨?_, rd_raise_st _ .EM_UNKNOWN _ _ (by decide)⟩
  rw [State.loseFrames, rd_raise _ _ _ _ _ _ (by decide) (by decide)]
  exact rd_raise_st _ .SPK_SPOKE_FAULT _ _ (by decide)

end Sys2Proof.Machine

namespace Sys2Proof

open Sys2Proof.Machine

/-- Settles O17: the frame's CRC (`cellFrame_ok`), what a good frame leaves in the cell's record (`goodFrame_hasFrame`), and the
count of bad ones. -/
theorem spokeFrames : Obligations.SpokeFrames := by
  refine ⟨fun n act s => ⟨_, rfl, ?_⟩, fun n act ws err s hp hr ho => ⟨_, execSpokeFrame_good hp hr ho, ?_⟩,
    fun n act err s hp hr => ⟨_, execSpokeFrame_bad hp hr, ?_⟩,
    fun n s hn hm hu => ⟨_, execSpokeFault_loses hn hm hu, loseFrames_unknown _ n, loseFrames_events _ n⟩⟩
  · rw [busErrors_nil]
    exact cellFrame_ok s n act
  · have h := (goodFrame_hasFrame s.quiet n ws).of_spk (frameResults_spk _ n (at0 ws 12))
    simp only [HasFrame, Sent.frameRec, Prod.mk.injEq] at h
    obtain ⟨hm, hg, hu, ha, hd⟩ := h
    refine ⟨hm, hg, hu, ha, fun hc hs hk h0 k hlt => ?_⟩
    have hcount : (bits 15 8 (at0 ws 0) == dON || bits 15 8 (at0 ws 0) == dDRAIN) = true := by
      simpa only [Bool.or_eq_true, beq_iff_eq] using hc
    have hdelta : s.quiet.frameDelta n ws = activityDelta (s.sent n).act (frameActivity ws) [] := by
      simp only [State.frameDelta, hcount, sent_quiet, hs, hk, h0, Bool.and_true, Bool.not_false, if_true]
    rw [hd, hdelta, activityDelta_at hlt]
  · simp [State.badFrame]

end Sys2Proof
end

section
/-! PROOF. The switched domains on their way up and down (R87 to R90, Table 3.3): each command of the sequencer in the one
branch that the conditions name, and what the domain's record and its fields hold after it. -/

namespace Sys2Proof.Machine

variable {s : State} {n m : Nat}

/-! ### The record of a domain -/

theorem dom_congr {t : State} (h : t.rim = s.rim) (n : Nat) : t.dom n = s.dom n := by
  rw [State.dom, State.dom, h]

@[simp] theorem dom_quiet (s : State) (n : Nat) : s.quiet.dom n = s.dom n := rfl

@[simp] theorem dom_wr (s : State) (F : Fld) (i v n : Nat) : (s.wr F i v).dom n = s.dom n :=
  dom_congr (wr_rim ..) n

@[simp] theorem dom_inc (s : State) (F : Fld) (i n : Nat) : (s.inc F i).dom n = s.dom n :=
  dom_wr ..

@[simp] theorem dom_setCmd (s : State) (f : Cmd → Cmd) (n : Nat) : (s.setCmd f).dom n = s.dom n := rfl

@[simp] theorem dom_drive (s : State) (e : Emission) (n : Nat) : (s.drive e).dom n = s.dom n := rfl

@[simp] theorem dom_raise (s : State) (e : Evt) (a b n : Nat) : (s.raise e a b).dom n = s.dom n :=
  dom_congr (raise_rim ..) n

@[simp] theorem dom_raiseLog (s : State) (e : Evt) (a b n : Nat) : (s.raiseLog e a b).dom n = s.dom n :=
  dom_congr (raiseLog_rim ..) n

@[simp] theorem dom_setDom (s : State) (n : Nat) (f : Dom → Dom) : (s.setDom n f).dom n = f (s.dom n) :=
  Table.get_upd_same ..

theorem dom_setDom_ne (s : State) (f : Dom → Dom) (h : n ≠ m) : (s.setDom n f).dom m = s.dom m :=
  Table.get_upd_ne _ _ _ h

@[simp] theorem setDom_rd (s : State) (n : Nat) (f : Dom → Dom) (F : Fld) (i : Nat) :
    (s.setDom n f).rd F i = s.rd F i := rfl

@[simp] theorem setDom_cad (s : State) (n : Nat) (f : Dom → Dom) : (s.setDom n f).cad = s.cad := rfl

@[simp] theorem setDom_tick (s : State) (n : Nat) (f : Dom → Dom) : (s.setDom n f).tick = s.tick := rfl

@[simp] theorem setDom_emit (s : State) (n : Nat) (f : Dom → Dom) : (s.setDom n f).emit = s.emit := rfl

/-! ### Moves of the sequencer -/

/-- A domain enters a state at this sub-tick. -/
theorem enter_dstate (s : State) (n : Nat) {st : Nat} (h : st < 8) : (s.enter n st).dstate n = st :=
  (rd_wr_same _ _ _ _).trans (Nat.mod_eq_of_lt h)

theorem enter_dom (s : State) (n st : Nat) : (s.enter n st).dom n = { s.dom n with since := s.rim.now } := by
  simp [State.enter]

theorem enter_rd {F : Fld} {i : Nat} (h : F.off SWD_STAT.STATE = true) (st : Nat) : (s.enter n st).rd F i = s.rd F i :=
  rd_wr_off h _

theorem takeSlot_dom (s : State) (n : Nat) : ((s.takeSlot n).dom n).slot = true := by
  simp [State.takeSlot]

theorem freeSlot_dom (s : State) (n : Nat) : ((s.freeSlot n).dom n).slot = false := by
  unfold State.freeSlot
  split
  · simp
  · next h => exact Bool.eq_false_iff.2 h

/-- The domain waits for a slot. -/
theorem waitSlot_waits (s : State) (n : Nat) : (s.waitSlot n).rd SWD_STAT.WAIT_SLOT n = 1 := by
  unfold State.waitSlot
  split
  · next h => exact on_iff.1 h
  · simp +decide (disch := decide) [rd_raise_all]

theorem waitSlot_rd {F : Fld} {i : Nat} (h : F.off SWD_STAT.WAIT_SLOT = true)
    (hl : (RIM_EVT.SLOT_WAIT :: logFields).all F.off = true) : (s.waitSlot n).rd F i = s.rd F i := by
  unfold State.waitSlot
  split
  · rfl
  · rw [rd_raise_all hl, rd_wr_off h]

theorem takeToken_rd (F : Fld) (i : Nat) : (s.takeToken n).rd F i = s.rd F i := by
  unfold State.takeToken
  split
  · rfl
  · rfl

theorem takeToken_now (s : State) (n : Nat) : (s.takeToken n).rim.now = s.rim.now := by
  unfold State.takeToken
  split
  · rfl
  · rfl

theorem present_lt (h : s.present n = true) : n < 248 := by
  simp only [State.present, Bool.and_eq_true, decide_eq_true_eq] at h
  exact h.1

theorem takeToken_quiet (s : State) (n : Nat) : s.quiet.takeToken n = (s.takeToken n).quiet := by
  unfold State.takeToken
  by_cases h : (s.dom n).token.isSome = true
  · rw [if_pos h, if_pos (show (s.quiet.dom n).token.isSome = true from h)]
  · rw [if_neg h, if_neg (show ¬ (s.quiet.dom n).token.isSome = true from h)]
    rfl

/-- The work of a domain that was forced off (Table 3.3), where it was on its way up, ON or in DRAIN. -/
def State.forceDown (s : State) (n : Nat) : State :=
  let s := (s.freeSlot n).endRequest n
  let s := ((s.wr SWD_STAT.PEND n 0).wr SWD_STAT.FORCED n 1).wr SWD_STAT.WAIT_SLOT n 0
  let s := s.setDom n (fun d => { d with gated := true, wave := false, idleOff := false })
  (s.setRim (fun r => { r with forcing := r.forcing ++ [n] })).raise .RIM_FORCED_OFF (arg0 n 0)

theorem forceDown_FORCED (s : State) (n : Nat) : (s.forceDown n).rd SWD_STAT.FORCED n = 1 := by
  simp +decide (disch := decide) [State.forceDown, rd_raise_all, rd_wr_off]

theorem forceDown_forcing (s : State) (n : Nat) : n ∈ (s.forceDown n).rim.forcing := by
  simp [State.forceDown]

theorem dropWake_rim (s : State) (n : Nat) : (s.dropWake n).rim = s.rim := by
  unfold State.dropWake
  dsimp only
  split
  · exact wrBit_rim ..
  · rfl

theorem dropWake_rd {F : Fld} {i : Nat} (h : F.off REST_MASK.WAKE = true) : (s.dropWake n).rd F i = s.rd F i := by
  unfold State.dropWake
  dsimp only
  split
  · exact rd_wrBit_off h _ _
  · rfl

theorem seqState_dropWake (s : State) (n m : Nat) : (s.dropWake n).seqState m = s.seqState m := by
  rw [State.seqState, State.seqState, State.dstate, dropWake_rd (by decide), dropWake_rim]
  rfl

theorem seqState_of_not_forcing (h : n ∉ s.rim.forcing) : s.seqState n = s.dstate n := by
  simp [State.seqState, h]

/-- A forced off of a domain in SETTLE fails its request and takes it down. -/
theorem forceOff_settle (h : s.seqState n = dSETTLE) :
    s.forceOff n = ((s.dropWake n).failRequest n stCONFLICT).forceDown n := by
  have hq : (s.dropWake n).seqState n = dSETTLE := (seqState_dropWake s n n).trans h
  unfold State.forceOff
  simp only [hq]
  rfl

/-! ### The ramp event -/

/-- The first event due leaves the queue, counted if it is late (R27). -/
def State.unqueue (s : State) (e : QEvent) : State :=
  let s := s.setCad (fun c => { c with queue := removeEvent e c.queue })
  if e.late then (s.inc CAD_DEFER_CNT.LATE).raise .CAD_LATE else s

theorem takeEvent_of_firstDue {e : QEvent} {p : EvAct → Bool} (h : firstDue s.cad.queue = some e)
    (hp : p e.act = true) : s.takeEvent p = some (e.act, s.unqueue e) := by
  simp only [State.takeEvent, h, hp, if_true, State.unqueue]

variable {e : QEvent}

@[simp] theorem unqueue_rim (s : State) (e : QEvent) : (s.unqueue e).rim = s.rim := by
  unfold State.unqueue
  dsimp only
  split
  · simp
  · rfl

@[simp] theorem unqueue_locks (s : State) (e : QEvent) : (s.unqueue e).locks = s.locks := by
  unfold State.unqueue
  dsimp only
  split
  · simp
  · rfl

@[simp] theorem unqueue_tick (s : State) (e : QEvent) : (s.unqueue e).tick = s.tick := by
  unfold State.unqueue
  dsimp only
  split
  · simp
  · rfl

@[simp] theorem unqueue_queue (s : State) (e : QEvent) : (s.unqueue e).cad.queue = removeEvent e s.cad.queue := by
  unfold State.unqueue
  dsimp only
  split
  · exact (raise_cad_part _ .CAD_LATE _ _ Cad.queue fun _ _ => rfl).trans (by simp)
  · rfl

theorem unqueue_rd {F : Fld} {i : Nat} (h : (CAD_DEFER_CNT.LATE :: CAD_EVT.LATE :: logFields).all F.off = true) :
    (s.unqueue e).rd F i = s.rd F i := by
  rw [List.all_cons, Bool.and_eq_true] at h
  unfold State.unqueue
  dsimp only
  split
  · rw [rd_raise_all h.2, rd_inc_off h.1]
    rfl
  · rfl

theorem unqueue_dom (s : State) (e : QEvent) (n : Nat) : (s.unqueue e).dom n = s.dom n :=
  dom_congr (unqueue_rim ..) n

theorem unqueue_on {F : Fld} {i : Nat} (h : (CAD_DEFER_CNT.LATE :: CAD_EVT.LATE :: logFields).all F.off = true) :
    (s.unqueue e).on F i = s.on F i := by
  rw [State.on, unqueue_rd h, State.on]

theorem unqueue_onRefusal (s : State) (e : QEvent) (n : Nat) : (s.unqueue e).onRefusal n = s.onRefusal n := by
  simp (disch := decide) only [State.onRefusal, unqueue_on, unqueue_rd, unqueue_locks, unqueue_rim]

theorem unqueue_present (s : State) (e : QEvent) (n : Nat) : (s.unqueue e).present n = s.present n := by
  simp (disch := decide) only [State.present, unqueue_on]

theorem unqueue_seqState (s : State) (e : QEvent) (n : Nat) : (s.unqueue e).seqState n = s.seqState n := by
  simp (disch := decide) only [State.seqState, State.dstate, unqueue_rd, unqueue_rim]

/-- The command of an event that asks one domain on waits for it from here. -/
def Cmd.awaitOn (q : Cmd) (id : Option Nat) (n : Nat) : Cmd :=
  { q with out := q.out.map (fun o =>
    if some o.id == id then { o with wait := .domains n 1 true false, reached := [] } else o) }

/-- The class-1 event of one domain's on, which no rule refuses, requests it at this boundary (R87). -/
theorem execDomainRampEvent_requests {id : Option Nat} (hq : firstDue s.cad.queue = some e)
    (he : e.act = .domains n 1 true id) (hp : s.present n = true) (hr : s.onRefusal n = none) (hd : s.dstate n = dOFF) :
    exec .domainRampEvent s = .next ((((s.quiet.unqueue e).setCmd (·.awaitOn id n)).requestOn n).setDom n
      fun d => { d with bound := (((s.quiet.unqueue e).setCmd (·.awaitOn id n))).tick }) := by
  have hp' : (s.quiet.unqueue e).present n = true := (unqueue_present ..).trans hp
  have hr' : (s.quiet.unqueue e).onRefusal n = none := (unqueue_onRefusal ..).trans hr
  have hd' : (s.quiet.unqueue e).dstate n = dOFF := (unqueue_rd (by decide)).trans hd
  have hl : ((List.range 1).map (· + n)).filter (s.quiet.unqueue e).present = [n] := by simp [hp']
  change execDomainRampEvent s = _
  unfold execDomainRampEvent
  extract_lets q
  rw [takeEvent_of_firstDue (s := q) hq (by rw [he]), he]
  simp only [q, hl]
  simp [hr', hd', Cmd.awaitOn]

/-- An on request of a domain that is OFF, or was forced off in this sub-tick, is pending. -/
theorem requestOn_PEND (s : State) (n : Nat) (h : s.seqState n = dOFF ∨ s.seqState n = dDOWN)
    (h0 : s.rd SWD_STAT.PEND n = 0) (hb : (s.dom n).backoff = none) : (s.requestOn n).rd SWD_STAT.PEND n = 1 := by
  obtain h | h := h
  · simp +decide [State.requestOn, h, h0, hb]
  · simp +decide [State.requestOn, h]

theorem requestOn_queue (s : State) (n : Nat) : (s.requestOn n).cad.queue = s.cad.queue := by
  have h : Kept (.guard s [.cad] []) (s.requestOn n) := kept_requestOn (kept_guard s _ _) rfl rfl rfl
  exact h.cad_spared rfl Cad.queue fun _ => rfl

/-- The conditions of a ramp up (R88 to R90). -/
structure RampsUp (s : State) (n : Nat) : Prop where
  boundary : s.atBoundary = true
  present : s.present n = true
  off : s.dstate n = dOFF
  pend : s.rd SWD_STAT.PEND n = 1
  elapsed : s.offElapsed n = true
  bound : (s.dom n).bound ≤ s.tick
  backoff : (s.dom n).backoff = none
  allowed : (isCluster n && s.inhibited) = false
  token : s.tokenFree n = true

theorem execRampUpStart_ramps (h : RampsUp s n) : exec (.rampUpStart n) s = .next
    (if (s.quiet.takeToken n).slotFree n then
      ((((s.quiet.takeToken n).takeSlot n).wr SWD_STAT.PEND n 0).wr SWD_STAT.MINOFF n 0).enter n dUP
    else (s.quiet.takeToken n).waitSlot n) := by
  obtain ⟨h1, h2, h3, h4, h5, h6, h7, h8, h9⟩ := h
  change execRampUpStart n s = _
  simp [execRampUpStart, not_le.2 (present_lt h2), h1, h2, h3, h4, h5, h6, h7, h8, h9]

theorem spent_of {k : Nat} (h : (s.dom n).since + k ≤ s.rim.now) (hf : n ∉ s.rim.forcing) : s.spent n k = true := by
  simp [State.spent, h, hf]

theorem execRampUpEnd_settles (hn : n < 248) (hd : s.dstate n = dUP) (hs : s.spent n 20 = true) :
    exec (.rampUpEnd n) s = .next ((s.quiet.freeSlot n).enter n dSETTLE) := by
  change execRampUpEnd n s = _
  simp [execRampUpEnd, not_le.2 hn, hd, hs]

theorem freeSlot_now (s : State) (n : Nat) : (s.freeSlot n).rim.now = s.rim.now := by
  unfold State.freeSlot
  split
  · show (s.wr RG_STAT.RAMPS _ _).rim.now = s.rim.now
    rw [wr_rim]
  · rfl

/-- A domain with power good is ON (R90). -/
def State.powerGood (s : State) (n : Nat) : State :=
  let held := (s.dom n).wave && s.rd RIM_STAT.REST_STATE == 3
  let s := (s.enter n dON).setDom n (fun d => { d with gated := held, wave := held })
  let s := ((s.wr SWD_STAT.FORCED n 0).inc SWD_STAT.ONS n).endRequest n
  let s := if isCluster n then s.wr SNT_STAT.ARMED n 1 else s
  s.reach n true

theorem execSettleEnd_on (hn : n < 248) (hd : s.dstate n = dSETTLE) (hs : s.spent n 5 = true) :
    exec (.settleEnd n true) s = .next (s.quiet.powerGood n) := by
  change execSettleEnd n true s = _
  simp [execSettleEnd, not_le.2 hn, hd, hs, State.powerGood]

theorem execSettleEnd_fault (hn : n < 248) (hd : s.dstate n = dSETTLE) (hs : s.spent n 5 = true) :
    exec (.settleEnd n false) s = .next ((s.quiet.forceOff n).raiseLog .RIM_RAMP_FAULT (arg0 n 0)) := by
  change execSettleEnd n false s = _
  simp [execSettleEnd, not_le.2 hn, hd, hs]

/-- What the arming of a cluster's comparators leaves alone. -/
theorem powerGood_rd {F : Fld} {i : Nat} (h : F.off SNT_STAT.ARMED = true) : (s.powerGood n).rd F i =
    (((s.enter n dON).wr SWD_STAT.FORCED n 0).inc SWD_STAT.ONS n).rd F i := by
  unfold State.powerGood
  extract_lets held s₁ s₂ s₃
  show s₃.rd F i = s₂.rd F i
  unfold s₃
  split
  · exact rd_wr_off h _
  · rfl

end Sys2Proof.Machine

namespace Sys2Proof

open Sys2Proof.Machine

/-- Settles O20, with the result of each command of the sequencer (`execRampUpStart_ramps` and the lemmas around it). -/
theorem domainRampsUp : Obligations.DomainRampsUp := by
  refine ⟨fun e n id s hq he hp hr hd h0 hb => ⟨_, execDomainRampEvent_requests hq he hp hr hd, ?_⟩,
    fun n s h1 h2 h3 h4 h5 h6 h7 h8 h9 hs => ⟨_, execRampUpStart_ramps ⟨h1, h2, h3, h4, h5, h6, h7, h8, h9⟩, ?_⟩,
    fun n s h1 h2 h3 h4 h5 h6 h7 h8 h9 hs => ⟨_, execRampUpStart_ramps ⟨h1, h2, h3, h4, h5, h6, h7, h8, h9⟩, ?_⟩,
    fun n s hn hd ht hf => ⟨_, execRampUpEnd_settles hn hd (spent_of ht hf), ?_⟩,
    fun n s hn hd ht hf => ⟨_, execSettleEnd_on hn hd (spent_of ht hf), ?_⟩,
    fun n s hn hd ht hf => ⟨_, execSettleEnd_fault hn hd (spent_of ht hf), ?_⟩⟩
  · refine ⟨requestOn_PEND _ n ?_ ?_ ?_, by rw [dom_setDom]; exact unqueue_tick .., ?_⟩
    · have hq : s.seqState n = dOFF ∨ s.seqState n = dDOWN := by
        unfold State.seqState
        split
        · exact .inr rfl
        · exact .inl hd
      rw [show ((s.quiet.unqueue e).setCmd (·.awaitOn id n)).seqState n = s.seqState n from unqueue_seqState s.quiet e n]
      exact hq
    · exact (unqueue_rd (by decide)).trans h0
    · exact (congrArg Dom.backoff (unqueue_dom ..)).trans hb
    · rw [setDom_cad, requestOn_queue]
      exact unqueue_queue ..
  · have hs' : (s.quiet.takeToken n).slotFree n = true := by rw [takeToken_quiet]; exact hs
    rw [if_pos hs']
    refine ⟨enter_dstate _ _ (by decide), ?_, ?_, ?_⟩
    · rw [enter_rd (by decide), rd_wr_off (by decide), rd_wr_same]
      rfl
    · rw [enter_dom, dom_wr, dom_wr]
      exact takeSlot_dom _ n
    · rw [enter_dom, wr_rim, wr_rim]
      exact takeToken_now _ n
  · have hs' : (s.quiet.takeToken n).slotFree n = false := by rw [takeToken_quiet]; exact hs
    rw [hs', if_neg Bool.false_ne_true]
    refine ⟨?_, ?_, waitSlot_waits _ n⟩
    · rw [State.dstate, waitSlot_rd (by decide) (by decide), takeToken_rd]
      exact h3
    · rw [waitSlot_rd (by decide) (by decide), takeToken_rd]
      exact h4
  · refine ⟨enter_dstate _ _ (by decide), ?_, ?_⟩
    · rw [enter_dom]
      exact freeSlot_dom ..
    · rw [enter_dom]
      exact freeSlot_now ..
  · refine ⟨?_, ?_, ?_⟩
    · rw [State.dstate, powerGood_rd (by decide), rd_inc_off (by decide), rd_wr_off (by decide)]
      exact enter_dstate _ _ (by decide)
    · rw [powerGood_rd (by decide), rd_inc_off (by decide), rd_wr_same]
      rfl
    · rw [powerGood_rd (by decide), rd_inc_same, rd_wr_off (by decide), enter_rd (by decide)]
      rfl
  · have hq : s.quiet.seqState n = dSETTLE := (seqState_of_not_forcing hf).trans hd
    rw [forceOff_settle hq]
    refine ⟨?_, ?_, rd_raiseLog_st _ .RIM_RAMP_FAULT _ _ (by decide)⟩
    · rw [rd_raiseLog_all (by decide)]
      exact forceDown_FORCED ..
    · rw [raiseLog_rim]
      exact forceDown_forcing ..

end Sys2Proof
end

section
/-! PROOF. The switched domains on their way down (R89, R90): the quiescing and the gate of DRAIN, the slot of RAMP_DOWN, and OFF,
which the end of a die step that this may be (`State.allOff`) leaves alone. -/

namespace Sys2Proof.Machine

variable {s : State} {n : Nat}

/-! ### RAMP_DOWN -/

@[simp] theorem enter_tick (s : State) (n st : Nat) : (s.enter n st).tick = s.tick := by
  simp [State.enter]

theorem disarm_rim (s : State) (n : Nat) : (s.disarm n).rim = s.rim := by
  unfold State.disarm
  split
  · exact wr_rim ..
  · rfl

theorem disarm_rd {F : Fld} {i : Nat} (h : F.off SNT_STAT.ARMED = true) : (s.disarm n).rd F i = s.rd F i := by
  unfold State.disarm
  split
  · exact (setSpk_rd ..).trans (rd_wr_off h _)
  · rfl

theorem dropSelfRefresh_dom (s : State) (j n : Nat) : (s.dropSelfRefresh j).dom n = s.dom n := by
  unfold State.dropSelfRefresh
  split
  · rfl
  · rfl

theorem dropSelfRefresh_rd (s : State) (j : Nat) (F : Fld) (i : Nat) : (s.dropSelfRefresh j).rd F i = s.rd F i := by
  unfold State.dropSelfRefresh
  split
  · rfl
  · rfl

/-- The self-refresh request of a stack that ramps down leaves a domain's record and its fields alone. -/
theorem enterDown_cases {P : State → Prop} (s : State) (n : Nat)
    (h : ∀ j t, P t → P (t.dropSelfRefresh j))
    (k : P (((s.disarm n).setDom n fun d => { d with stages := (s.disarm n).switchStages n }).enter n dDOWN)) :
    P (s.enterDown n) := by
  unfold State.enterDown
  dsimp only
  split
  · exact h _ _ k
  · exact k

theorem enterDown_dstate (s : State) (n : Nat) : (s.enterDown n).dstate n = dDOWN := by
  refine enterDown_cases (P := fun t => t.dstate n = dDOWN) s n (fun j t ht => ?_) (enter_dstate _ _ (by decide))
  exact (dropSelfRefresh_rd t j _ _).trans ht

theorem enterDown_rd {F : Fld} {i : Nat} (hs : F.off SWD_STAT.STATE = true) (ha : F.off SNT_STAT.ARMED = true) :
    (s.enterDown n).rd F i = s.rd F i := by
  refine enterDown_cases (P := fun t => t.rd F i = s.rd F i) s n (fun j t ht => ?_) ?_
  · exact (dropSelfRefresh_rd t j _ _).trans ht
  · rw [enter_rd hs, setDom_rd, disarm_rd ha]

theorem enterDown_slot (s : State) (n : Nat) : ((s.enterDown n).dom n).slot = (s.dom n).slot := by
  refine enterDown_cases (P := fun t => (t.dom n).slot = (s.dom n).slot) s n (fun j t ht => ?_) ?_
  · rw [dropSelfRefresh_dom, ht]
  · rw [enter_dom, dom_setDom, dom_congr (disarm_rim s n)]

/-! ### The commands -/

theorem execDrainStart_drains (hn : n < 248) (hb : s.atBoundary = true) (hd : s.dstate n = dON)
    (hp : s.rd SWD_STAT.PEND n = 2) (ht : (s.dom n).bound ≤ s.tick) : exec (.drainStart n) s = .next
      ((((s.quiet.wr SWD_STAT.PEND n 0).setDom n fun d => { d with wave := false }).enter n dDRAIN).drive (.quiesce n)) := by
  change execDrainStart n s = _
  simp [execDrainStart, not_le.2 hn, hb, hd, hp, ht]

theorem execDrainEnd_gates (hn : n < 248) (hd : s.dstate n = dDRAIN) (hs : s.spent n 10 = true)
    (hg : (s.dom n).gated = false) :
    exec (.drainEnd n) s = .next (s.quiet.setDom n fun d => { d with gated := true }) := by
  change execDrainEnd n s = _
  simp [execDrainEnd, not_le.2 hn, hd, hs, hg]

theorem execRampDownStart_ramps (hn : n < 248) (hd : s.dstate n = dDRAIN) (hg : (s.dom n).gated = true)
    (hw : (s.dom n).wave = false) (hs : s.spent n 10 = true) : exec (.rampDownStart n) s = .next
      (if s.slotFree n then (s.quiet.takeSlot n).enterDown n else s.quiet.waitSlot n) := by
  change execRampDownStart n s = _
  simp [execRampDownStart, not_le.2 hn, hd, hg, hw, hs]
  rfl

/-- OFF (R89, R90): the slot is released and the off timer started. -/
def State.enterOff (s : State) (n : Nat) : State :=
  let s := ((s.freeSlot n).enter n dOFF).wr SWD_STAT.MINOFF n 1
  (s.setDom n (fun d => { d with wave := false, reqTick := d.nextReq })).reach n false

theorem rampDownEnd_off (hn : n < 248) (hd : s.dstate n = dDOWN) (hs : s.spent n 20 = true) :
    s.rampDownEnd n = s.enterOff n := by
  simp [State.rampDownEnd, not_le.2 hn, hd, hs, State.enterOff]

theorem enterOff_dstate (s : State) (n : Nat) : (s.enterOff n).dstate n = dOFF := by
  have h : ((s.freeSlot n).enter n dOFF).rd SWD_STAT.STATE n = dOFF := enter_dstate _ _ (by decide)
  simp (disch := decide) [State.enterOff, State.reach, State.dstate, rd_wr_off, h]

theorem enterOff_MINOFF (s : State) (n : Nat) : (s.enterOff n).rd SWD_STAT.MINOFF n = 1 := by
  simp +decide [State.enterOff, State.reach]

/-! ### The end of a die step -/

/-- The part of a domain's record that only its own ramps write: its slot and when it entered its state. -/
def Dom.ramp (d : Dom) : Bool × Nat :=
  (d.slot, d.since)

/-- Domain `n` has the ramp record `r`. -/
def HasRamp (n : Nat) (r : Bool × Nat) (s : State) : Prop :=
  (s.dom n).ramp = r

variable {r : Bool × Nat}

theorem HasRamp.of_rim {t : State} (h : HasRamp n r s) (ht : t.rim = s.rim) : HasRamp n r t := by
  rw [HasRamp, dom_congr ht]
  exact h

theorem HasRamp.setDom (h : HasRamp n r s) (m : Nat) {f : Dom → Dom} (hf : ∀ d, (f d).ramp = d.ramp) :
    HasRamp n r (s.setDom m f) := by
  by_cases e : m = n
  · subst e
    rw [HasRamp, dom_setDom, hf]
    exact h
  · rw [HasRamp, dom_setDom_ne s f e]
    exact h

theorem HasRamp.wr (h : HasRamp n r s) (F : Fld) (i v : Nat) : HasRamp n r (s.wr F i v) :=
  h.of_rim (wr_rim ..)

theorem HasRamp.wrBit (h : HasRamp n r s) (F : Fld) (i b : Nat) (v : Bool) : HasRamp n r (s.wrBit F i b v) :=
  h.of_rim (wrBit_rim ..)

theorem HasRamp.ite {t : State} {c : Prop} [Decidable c] (h : HasRamp n r s) (k : HasRamp n r t) :
    HasRamp n r (if c then s else t) := by
  split
  · exact h
  · exact k

theorem HasRamp.failRequest (h : HasRamp n r s) (m st : Nat) (on : Bool) : HasRamp n r (s.failRequest m st on) :=
  h

theorem HasRamp.endRequest (h : HasRamp n r s) (m : Nat) : HasRamp n r (s.endRequest m) :=
  h.setDom m fun _ => rfl

theorem HasRamp.requestOff (h : HasRamp n r s) (m : Nat) : HasRamp n r (s.requestOff m) := by
  have hf : HasRamp n r (if s.rd SWD_STAT.PEND m = 1 then s.failRequest m stCONFLICT else s) :=
    (h.failRequest ..).ite h
  unfold State.requestOff
  split
  case h_4 => exact ((hf.wr ..).wr ..).endRequest m |>.setDom m fun _ => rfl
  case h_5 => exact (hf.wr ..).endRequest m
  all_goals exact (h.wr ..).setDom m fun _ => rfl

theorem record_rim (s : State) (order core : Nat) (clr : Bool) : (s.record order core clr).rim = s.rim := by
  have h : Kept (.guard s [.rim] []) (s.record order core clr) := by
    refine kept_record (kept_guard s _ _) rfl (logs_guard rfl rfl rfl) ?_ ?_ ?_ ?_ ?_ ?_ ?_ <;> rfl
  exact h.spared .rim rfl

theorem HasRamp.retireCluster (h : HasRamp n r s) (c : Nat) : HasRamp n r (s.retireCluster c) := by
  unfold State.retireCluster
  extract_lets t u
  have h₁ : HasRamp n r ((s.wr MG_CL.STATE c cRETIRED).markChanged c) := (h.wr ..).of_rim rfl
  have h₂ : HasRamp n r t := HasRamp.requestOff ((h₁.wr ..).wr ..) c
  clear_value t
  have h₃ : HasRamp n r u := h₂.wrBit ..
  clear_value u
  have h₄ : HasRamp n r (u.raise .MG_CL_RETIRED (arg0 c 0)) := h₃.of_rim (raise_rim ..)
  exact h.ite (h₄.of_rim (record_rim ..))

theorem HasRamp.gateRetired (h : HasRamp n r s) (x : Retired) : HasRamp n r (s.gateRetired x) :=
  HasRamp.ite (((h.wrBit ..).wr ..).retireCluster _) ((h.wrBit ..).wr ..)

theorem HasRamp.reassertRetired (h : HasRamp n r s) : HasRamp n r s.reassertRetired := by
  unfold State.reassertRetired
  extract_lets l t u v
  have ht : HasRamp n r t := foldl_keeps (HasRamp n r) h fun t x ht => ht.wrBit ..
  have hu : HasRamp n r u := ht.of_rim rfl
  have hv : HasRamp n r v := foldl_keeps (HasRamp n r) hu fun t x ht => HasRamp.ite (ht.wrBit ..) (ht.gateRetired x)
  clear_value v
  have hw : HasRamp n r (v.setMg fun m => { m with postRetired := true }) := hv.of_rim rfl
  exact (hw.wr ..).wr ..

theorem HasRamp.dieCleared (h : HasRamp n r s) (x : Step) : HasRamp n r (s.dieCleared x) := by
  unfold State.dieCleared
  extract_lets t u v
  have ht : HasRamp n r t := foldl_keeps (HasRamp n r) h fun t c ht => ht.wr ..
  have hu : HasRamp n r u := ht.reassertRetired
  clear_value u
  have hv : HasRamp n r v := HasRamp.ite (hu.wr ..) hu
  clear_value v
  exact hv.of_rim rfl

theorem HasRamp.allOff (h : HasRamp n r s) : HasRamp n r s.allOff := by
  unfold State.allOff
  split
  · exact h
  · exact HasRamp.ite (h.dieCleared _) h

theorem allOff_rd {G : Fld} (hG : G = SWD_STAT.STATE ∨ G = SWD_STAT.MINOFF) (i : Nat) : s.allOff.rd G i = s.rd G i := by
  have h : Kept (.guard s [] [SWD_STAT.STATE, SWD_STAT.MINOFF]) s.allOff := by
    apply kept_allOff (kept_guard s _ _)
    case _ : Logs _ => exact logs_guard rfl rfl rfl
    all_goals rfl
  obtain rfl | rfl := hG
  · exact h.guarded (by simp) i
  · exact h.guarded (by simp) i

theorem enterOff_hasRamp (s : State) (n : Nat) : HasRamp n (false, s.rim.now) (s.enterOff n) := by
  have h : HasRamp n (false, s.rim.now) ((s.freeSlot n).enter n dOFF) := by
    rw [HasRamp, enter_dom, Dom.ramp, freeSlot_dom, freeSlot_now]
  exact (h.wr ..).setDom n fun _ => rfl

end Sys2Proof.Machine

namespace Sys2Proof

open Sys2Proof.Machine

/-- Settles O21, with the result of each command and what the end of a die step leaves of it. -/
theorem domainRampsDown : Obligations.DomainRampsDown := by
  refine ⟨fun n s hn hb hd hp ht => ⟨_, execDrainStart_drains hn hb hd hp ht, ?_⟩,
    fun n s hn hd ht hf hg => ⟨_, execDrainEnd_gates hn hd (spent_of ht hf) hg, ?_⟩,
    fun n s hn hd hg hw ht hf hs => ⟨_, execRampDownStart_ramps hn hd hg hw (spent_of ht hf), ?_⟩,
    fun n s hn hd hg hw ht hf hs => ⟨_, execRampDownStart_ramps hn hd hg hw (spent_of ht hf), ?_⟩,
    fun n s hn hd ht hf => ⟨_, rfl, ?_⟩⟩
  · refine ⟨?_, ?_, by simp [State.enter]⟩
    · exact enter_dstate _ _ (st := dDRAIN) (by decide)
    rw [drive_rd, enter_rd (by decide), setDom_rd, rd_wr_same]
    rfl
  · exact ⟨by rw [dom_setDom], hd⟩
  · rw [if_pos hs]
    refine ⟨enterDown_dstate .., by rw [enterDown_slot, takeSlot_dom], ?_⟩
    rw [enterDown_rd (by decide) (by decide), State.takeSlot, setDom_rd, rd_wr_same]
    rfl
  · rw [hs, if_neg Bool.false_ne_true]
    exact ⟨(waitSlot_rd (by decide) (by decide)).trans hd, waitSlot_waits ..⟩
  · rw [rampDownEnd_off (s := s.quiet) hn hd (spent_of ht hf)]
    have hr := (enterOff_hasRamp s.quiet n).allOff
    simp only [HasRamp, Dom.ramp, Prod.mk.injEq] at hr
    refine ⟨?_, ?_, hr.1, hr.2⟩
    · rw [State.dstate, allOff_rd (.inl rfl)]
      exact enterOff_dstate ..
    · rw [allOff_rd (.inr rfl)]
      exact enterOff_MINOFF ..

end Sys2Proof
end

section
/-! PROOF. Sub-ticks (R436): the code stored for each group, the clock of the rim and the coolant sample, through the windows
and drives of every group (`HasSample`); ceilings and the validity of the current inputs (R80, R85). -/

namespace Sys2Proof.Machine

variable {s : State} {g : Nat}

/-! ### The rim's clock and a group's code -/

/-- What only the end of a sub-tick moves: the count of sub-ticks and the run of low coolant samples. -/
def Rim.clock (r : Rim) : Nat × Nat :=
  (r.now, r.lowRun)

/-- Group `g` has the code `v`, and the rim's clock stands at `k`. -/
structure HasSample (g v : Nat) (k : Nat × Nat) (s : State) : Prop where
  code : s.rd RG_STAT.IMON_CODE g = v
  clock : s.rim.clock = k

variable {v : Nat} {k : Nat × Nat}

theorem HasSample.wr (h : HasSample g v k s) {F : Fld} (i x : Nat) (hF : RG_STAT.IMON_CODE.off F = true) :
    HasSample g v k (s.wr F i x) :=
  ⟨(rd_wr_off hF x).trans h.code, by rw [wr_rim]; exact h.clock⟩

theorem HasSample.wrBit (h : HasSample g v k s) {F : Fld} (i b : Nat) (x : Bool)
    (hF : RG_STAT.IMON_CODE.off F = true) : HasSample g v k (s.wrBit F i b x) :=
  ⟨(rd_wrBit_off hF b x).trans h.code, by rw [wrBit_rim]; exact h.clock⟩

theorem HasSample.raise (h : HasSample g v k s) {e : Evt} (a b : Nat)
    (he : (e.st :: logFields).all RG_STAT.IMON_CODE.off = true) : HasSample g v k (s.raise e a b) :=
  ⟨(rd_raise_all he a b).trans h.code, by rw [raise_rim]; exact h.clock⟩

theorem HasSample.setGrp (h : HasSample g v k s) (i : Nat) (f : Grp → Grp) : HasSample g v k (s.setGrp i f) :=
  ⟨h.code, h.clock⟩

theorem HasSample.ite {t : State} {c : Prop} [Decidable c] (h : HasSample g v k s) (h' : HasSample g v k t) :
    HasSample g v k (if c then s else t) := by
  split
  · exact h
  · exact h'

theorem HasSample.overFlag (h : HasSample g v k s) {F C : Fld} (i : Nat) (o : Bool)
    (hF : RG_STAT.IMON_CODE.off F = true) (hC : RG_STAT.IMON_CODE.off C = true) :
    HasSample g v k (s.overFlag F C i o) := by
  unfold State.overFlag
  extract_lets t
  have ht : HasSample g v k t := ((h.wr _ _ hC).raise _ _ (by decide)).ite h
  exact ht.wr _ _ hF

theorem HasSample.window (h : HasSample g v k s) (x : Option Nat) (i : Nat) (f : Nat → Grp → Grp) :
    HasSample g v k (match x with | some y => s.setGrp i (f y) | none => s) := by
  cases x with
  | none => exact h
  | some y => exact h.setGrp i (f y)

/-- A group's windows, drive and rise count follow the store of its code. -/
theorem groupSubtick_hasSample (last first : Bool) (i c : Nat) (h : HasSample g v k (s.wr RG_STAT.IMON_CODE i c)) :
    HasSample g v k (s.groupSubtick last first i c) := by
  unfold State.groupSubtick
  extract_lets s₀ s₁ x s₂ w ls lm ll overS overM overL s₃ s₄ s₅ tooHigh s₆ s₇ s₈ s₉ free low drive sB sC sD r sE
  have h₁ : HasSample g v k s₁ := h.setGrp _ _
  have h₂ : HasSample g v k s₂ := h₁.window x i (advance last)
  have h₃ : HasSample g v k s₃ := h₂.overFlag _ _ (by decide) (by decide)
  have h₄ : HasSample g v k s₄ := h₃.overFlag _ _ (by decide) (by decide)
  have h₅ : HasSample g v k s₅ := h₄.overFlag _ _ (by decide) (by decide)
  clear_value s₅
  have h₆ : HasSample g v k s₆ := h₅.wrBit _ _ _ (by decide)
  have h₇ : HasSample g v k s₇ := h₆.wr _ _ (by decide)
  have h₈ : HasSample g v k s₈ := h₇.wr _ _ (by decide)
  have h₉ : HasSample g v k s₉ := h₈.wr _ _ (by decide)
  clear_value s₉
  have hl : HasSample g v k low := HasSample.ite ((h₉.wr _ _ (by decide)).setGrp _ _) h₉
  clear_value low
  have hB : HasSample g v k sB := HasSample.ite (hl.wr _ _ (by decide)) hl
  have hC : HasSample g v k sC := hB.setGrp _ _
  have hD : HasSample g v k sD := hl.wr _ _ (by decide)
  have hE : HasSample g v k sE :=
    HasSample.ite
      (HasSample.ite (hC.wr _ _ (by decide))
        (HasSample.ite hC ((hC.wr _ _ (by decide)).raise _ _ (by decide))))
      (HasSample.ite (HasSample.ite (hD.setGrp _ _) (hD.setGrp _ _)) hD)
  clear_value sE
  exact h₉.ite (HasSample.ite (hE.wr _ _ (by decide)) hE)

/-- The work of another group. -/
theorem HasSample.groupSubtick (h : HasSample g v k s) (last first : Bool) {i : Nat} (hi : g ≠ i) (c : Nat) :
    HasSample g v k (s.groupSubtick last first i c) :=
  groupSubtick_hasSample _ _ _ _ ⟨(rd_wr_other (by decide) hi _).trans h.code, by rw [wr_rim]; exact h.clock⟩

/-- The work of every group below `n` in turn. -/
theorem upTo_groups_hasSample (last first : Bool) (f : Nat → Nat) (hk : s.rim.clock = k) (n : Nat) :
    (upTo n (fun i s => s.groupSubtick last first i (f i)) s).rim.clock = k ∧
      ∀ j < n, HasSample j (f j % 2 ^ 10) k (upTo n (fun i s => s.groupSubtick last first i (f i)) s) := by
  induction n with
  | zero => exact ⟨hk, fun j hj => absurd hj (Nat.not_lt_zero j)⟩
  | succ n ih =>
    obtain ⟨hc, hs⟩ := ih
    rw [upTo_succ]
    have hn : HasSample n (f n % 2 ^ 10) k
        (State.groupSubtick (upTo n (fun i s => s.groupSubtick last first i (f i)) s) last first n (f n)) :=
      groupSubtick_hasSample _ _ _ _ ⟨rd_wr_same .., by rw [wr_rim]; exact hc⟩
    refine ⟨hn.clock, fun j hj => ?_⟩
    obtain rfl | hlt := Nat.eq_or_lt_of_le (Nat.le_of_lt_succ hj)
    · exact hn
    · exact (hs j hlt).groupSubtick _ _ hlt.ne _

theorem enter_clock (s : State) (n st : Nat) : (s.enter n st).rim.clock = s.rim.clock := by
  simp [State.enter, State.setDom, Rim.clock]

theorem forcedDown_clock (s : State) : s.forcedDown.rim.clock = s.rim.clock := by
  refine foldl_keeps (fun t : State => t.rim.clock = s.rim.clock) rfl fun t n ht => ?_
  refine enterDown_cases (P := fun t => t.rim.clock = s.rim.clock) t n (fun j u hu => ?_) ?_
  · unfold State.dropSelfRefresh
    split
    · exact hu
    · exact hu
  · rw [← ht, ← disarm_rim t n]
    exact enter_clock ..

/-- The coolant input is known low at the second low sample in a row (R92). -/
theorem coolSample_COOL_FAULT (s : State) (low : Bool) :
    (s.coolSample low).rd RIM_STAT.COOL_FAULT = if low = true ∧ 1 ≤ s.rim.lowRun then 1 else 0 := by
  unfold State.coolSample
  extract_lets run t known u
  have hu : u.rd RIM_STAT.COOL_FAULT = b2n known := (rd_wr_same ..).trans (by cases known <;> rfl)
  have hk : b2n known = if low = true ∧ 1 ≤ s.rim.lowRun then 1 else 0 := by
    cases low
    · rfl
    · simp [known, run, b2n]
  clear_value u
  rw [← hk, ← hu]
  split
  · rw [rd_wr_off (by decide), rd_wr_off (by decide)]
  · rfl

theorem coolSample_now (s : State) (low : Bool) : (s.coolSample low).rim.now = s.rim.now := by
  unfold State.coolSample
  extract_lets run t known u
  have hu : u.rim.now = s.rim.now := (congrArg Rim.now (wr_rim t ..)).trans rfl
  clear_value u
  split
  · rw [wr_rim, wr_rim, hu]
  · exact hu

theorem coolSample_code (s : State) (low : Bool) (g : Nat) :
    (s.coolSample low).rd RG_STAT.IMON_CODE g = s.rd RG_STAT.IMON_CODE g := by
  have h : Kept (.guard s [] [RG_STAT.IMON_CODE]) (s.coolSample low) := kept_coolSample (kept_guard s _ _) rfl rfl rfl rfl
  exact h.guarded (by simp) g

/-- A sub-tick (R436). -/
theorem runSubtick_samples (s : State) (codes src : List Nat) (low : Bool) :
    (s.runSubtick codes low src).rim.sub = s.rim.sub + 1 ∧ (s.runSubtick codes low src).rim.now = s.rim.now + 1 ∧
      (∀ g < 12, (s.runSubtick codes low src).rd RG_STAT.IMON_CODE g = at0 codes g % 1024) ∧
      (s.runSubtick codes low src).rd RIM_STAT.COOL_FAULT = if low = true ∧ 1 ≤ s.rim.lowRun then 1 else 0 := by
  unfold State.runSubtick
  extract_lets k t u w
  have ht : t.rim.clock = s.rim.clock := forcedDown_clock _
  clear_value t
  obtain ⟨hc, hg⟩ := upTo_groups_hasSample (s := t) (k == 9) (k == 0) (fun g => at0 codes g % 1024) ht 12
  have hn : u.rim.now = s.rim.now := congrArg Prod.fst hc
  have hl : u.rim.lowRun = s.rim.lowRun := congrArg Prod.snd hc
  refine ⟨rfl, ?_, fun g hlt => ?_, ?_⟩
  · show w.rim.now + 1 = s.rim.now + 1
    rw [coolSample_now, hn]
  · have h := (hg g hlt).code
    rw [show 2 ^ 10 = 1024 from rfl, Nat.mod_mod] at h
    exact (coolSample_code u low g).trans h
  · rw [← hl]
    exact coolSample_COOL_FAULT u low

/-! ### Ceilings and the inputs' validity -/

@[simp] theorem setGrp_rd (s : State) (g : Nat) (f : Grp → Grp) (F : Fld) (i : Nat) : (s.setGrp g f).rd F i = s.rd F i :=
  rfl

theorem grp_congr {t : State} (h : t.rim = s.rim) (g : Nat) : t.grp g = s.grp g := by
  rw [State.grp, State.grp, h]

@[simp] theorem grp_quiet (s : State) (g : Nat) : s.quiet.grp g = s.grp g := rfl

@[simp] theorem grp_setGrp (s : State) (g : Nat) (f : Grp → Grp) : (s.setGrp g f).grp g = f (s.grp g) :=
  Table.get_upd_same ..

@[simp] theorem grp_wr (s : State) (F : Fld) (i v g : Nat) : (s.wr F i v).grp g = s.grp g :=
  grp_congr (wr_rim ..) g

@[simp] theorem grp_raise (s : State) (e : Evt) (a b g : Nat) : (s.raise e a b).grp g = s.grp g :=
  grp_congr (raise_rim ..) g

theorem imonOk_riseDue (x : Grp) (b : Bool) : Grp.imonOk { x with riseDue := b } = x.imonOk := rfl

/-- The rise that is due (R85) leaves the group's samples alone. -/
theorem sample_riseDue (s : State) (g c : Nat) (b : Bool) :
    (s.setGrp g fun y => { y with riseDue := b }).sample g c = s.sample g c := by
  simp only [State.sample, grp_setGrp, imonOk_riseDue]
  rfl

/-- A rise that is due, of a group with a sample (R85). -/
theorem execCeilRise_rises (hg : g < 12) (hd : (s.grp g).riseDue = true) (hc : s.rd RG_STAT.CEIL g < 255)
    (ho : s.bit RIM_STAT.OVER g = false) (hs : (s.sample g (s.rd RG_STAT.IMON_CODE g)).isSome = true) :
    exec (.ceilRise g) s = .next ((s.quiet.setGrp g fun y => { y with riseDue := false }).wr RG_STAT.CEIL g
      (if s.hubRequest g < s.rd RG_STAT.CEIL g + 1 then 255 else s.rd RG_STAT.CEIL g + 1)) := by
  have hn : ((s.quiet.setGrp g fun y => { y with riseDue := false }).sample g (s.rd RG_STAT.IMON_CODE g)).isNone = false := by
    rw [sample_riseDue]
    exact Option.isNone_eq_false_iff.2 hs
  change execCeilRise g s = _
  simp [execCeilRise, not_le.2 hg, hd, hc.ne, ho, hn]
  rfl

theorem execImonFault_faults (hg : g < 12) (hv : (s.grp g).valid = true)
    (hr : 10 ≤ (s.grp g).low ∨ 10 ≤ (s.grp g).high) : exec (.imonFault g) s = .next
      (((s.quiet.setGrp g fun y => { y with valid := false }).wr RG_STAT.IMON_FAULT g 1).raise .RIM_IMON_FAULT (arg0 g 0)) := by
  have hb : ((s.grp g).valid && (decide (10 ≤ (s.grp g).low) || decide (10 ≤ (s.grp g).high))) = true := by
    simpa [hv] using hr
  exact congrArg Host.Outcome.next ((if_neg (not_le.2 hg)).trans (if_pos hb))

end Sys2Proof.Machine

namespace Sys2Proof

open Sys2Proof.Machine

/-- Settles O18: a sub-tick of the first ten (`runSubtick_samples`). -/
theorem subtickSamples : Obligations.SubtickSamples := by
  refine ⟨fun codes src low s h => ⟨_, rfl, ?_⟩, fun codes src low s h => ⟨_, rfl, ?_⟩⟩
  · rw [quiet_rim, if_pos h]
    exact runSubtick_samples s.quiet codes src low
  · rw [quiet_rim, if_neg (not_lt.2 h)]

/-- Settles O19, by the one branch of each command. -/
theorem ceilingsAndInputs : Obligations.CeilingsAndInputs := by
  refine ⟨fun g s hg hd hc ho hs => ⟨_, execCeilRise_rises hg hd hc ho hs, ?_⟩,
    fun g s hg hv hr => ⟨_, execImonFault_faults hg hv hr, ?_⟩, fun g s hg hv hr => ⟨_, rfl, ?_⟩⟩
  · refine ⟨by simp, (rd_wr_same ..).trans (Nat.mod_eq_of_lt (b := 256) ?_)⟩
    split
    · decide
    · omega
  · refine ⟨by simp, ?_, rd_raise_st _ .RIM_IMON_FAULT _ _ (by decide)⟩
    rw [rd_raise_all (by decide), rd_wr_same]
    rfl
  · simp [not_le.2 hg, hv, hr]

end Sys2Proof
end

section
/-! PROOF. The coolant stop and its end (R92, R93, R98, R417): what forcing a domain off leaves alone (`ForceSteps`), and the
forced offs of every powered cluster and link in turn. -/

namespace Sys2Proof.Machine

variable {s : State} {n : Nat}

/-! ### Folds -/

/-- A fold over a list with `x` in it: the turn of `x` brings `P` where `I` holds, and every turn keeps both. -/
theorem foldl_meets {α β : Type} {I P : α → Prop} {f : α → β → α} {x : β} (hI : ∀ a y, I a → I (f a y))
    (hx : ∀ a, I a → P (f a x)) (hP : ∀ a y, P a → P (f a y)) {l : List β} (hl : x ∈ l) {a : α} (ha : I a) :
    P (l.foldl f a) := by
  induction l generalizing a with
  | nil => exact absurd hl List.not_mem_nil
  | cons y l ih =>
    obtain rfl | hl := List.mem_cons.1 hl
    · show P (l.foldl f (f a x))
      exact foldl_keeps P (hx a ha) hP
    · exact ih hl (hI a y ha)

/-! ### What a forced off is made of -/

/-- `P` survives each operation that a forced off of domain `n` is made of. -/
structure ForceSteps (P : State → Prop) (n : Nat) : Prop where
  wake : ∀ t, P t → P (t.dropWake n)
  cmd : ∀ t (f : Cmd → Cmd), P t → P (t.setCmd f)
  dom : ∀ t (f : Dom → Dom), P t → P (t.setDom n f)
  ramps : ∀ t i v, P t → P (t.wr RG_STAT.RAMPS i v)
  pend : ∀ t, P t → P (t.wr SWD_STAT.PEND n 0)
  wait : ∀ t, P t → P (t.wr SWD_STAT.WAIT_SLOT n 0)
  forced : ∀ t, P t → P (t.wr SWD_STAT.FORCED n 1)
  list : ∀ t, P t → P (t.setRim fun r => { r with forcing := r.forcing ++ [n] })
  event : ∀ t, P t → P (t.raise .RIM_FORCED_OFF (arg0 n 0))

variable {P : State → Prop}

theorem ForceSteps.fail (h : ForceSteps P n) {t : State} (ht : P t) {c : Prop} [Decidable c] :
    P (if c then t.failRequest n stCONFLICT else t) := by
  split
  · exact h.cmd _ _ ht
  · exact ht

theorem ForceSteps.freeSlot (h : ForceSteps P n) {t : State} (ht : P t) : P (t.freeSlot n) := by
  unfold State.freeSlot
  split
  · exact h.dom _ _ (h.ramps _ _ _ ht)
  · exact ht

theorem ForceSteps.forceDown (h : ForceSteps P n) {t : State} (ht : P t) : P (t.forceDown n) := by
  unfold State.forceDown
  extract_lets u v w
  have hu : P u := h.dom _ _ (h.freeSlot ht)
  have hv : P v := h.wait _ (h.forced _ (h.pend _ hu))
  have hw : P w := h.dom _ _ hv
  exact h.event _ (h.list _ hw)

/-- What the operations keep, a forced off keeps. -/
theorem ForceSteps.forceOff (h : ForceSteps P n) {t : State} (ht : P t) : P (t.forceOff n) := by
  unfold State.forceOff
  extract_lets u
  have hu : P u := h.wake _ ht
  clear_value u
  split
  · exact h.dom _ _ (h.wait _ (h.pend _ (h.fail hu)))
  · exact h.event _ (h.dom _ _ (h.forced _ (h.pend _ (h.cmd _ _ hu))))
  · exact h.forceDown (t := if u.seqState n = dON then u else u.failRequest n stCONFLICT) (by
      split
      · exact hu
      · exact h.cmd _ _ hu)

/-- A field apart from those that a forced off writes. -/
theorem forceSteps_rd {F : Fld} {i v : Nat} (hW : ∀ t : State, t.rd F i = v → (t.dropWake n).rd F i = v)
    (hF : [RG_STAT.RAMPS, SWD_STAT.PEND, SWD_STAT.WAIT_SLOT, SWD_STAT.FORCED].all F.off = true)
    (hE : (RIM_EVT.FORCED_OFF :: logFields).all F.off = true) : ForceSteps (fun t => t.rd F i = v) n := by
  simp only [List.all_cons, List.all_nil, Bool.and_true, Bool.and_eq_true] at hF
  obtain ⟨hR, hP, hS, hO⟩ := hF
  exact {
    wake := hW
    cmd := fun _ _ h => h
    dom := fun _ _ h => h
    ramps := fun _ _ _ h => (rd_wr_off hR _).trans h
    pend := fun _ h => (rd_wr_off hP _).trans h
    wait := fun _ h => (rd_wr_off hS _).trans h
    forced := fun _ h => (rd_wr_off hO _).trans h
    list := fun _ h => h
    event := fun _ h => (rd_raise_all hE _ _).trans h }

/-- The forced off of another domain, or of the domain again, leaves the mark of a forced off. -/
theorem forceSteps_FORCED (n m : Nat) : ForceSteps (fun t => t.rd SWD_STAT.FORCED m = 1) n where
  wake := fun _ h => (dropWake_rd (by decide)).trans h
  cmd := fun _ _ h => h
  dom := fun _ _ h => h
  ramps := fun _ _ _ h => (rd_wr_off (by decide) _).trans h
  pend := fun _ h => (rd_wr_off (by decide) _).trans h
  wait := fun _ h => (rd_wr_off (by decide) _).trans h
  forced := fun _ h => by
    by_cases e : m = n
    · subst e
      exact rd_wr_same ..
    · exact (rd_wr_other (by decide) e _).trans h
  list := fun _ h => h
  event := fun _ h => (rd_raise_all (by decide) _ _).trans h

theorem forceSteps_hbm (n : Nat) (x : Table Stk) : ForceSteps (fun t => t.rim.hbm = x) n where
  wake := fun t h => (congrArg Rim.hbm (dropWake_rim t n)).trans h
  cmd := fun _ _ h => h
  dom := fun _ _ h => h
  ramps := fun _ _ _ h => (congrArg Rim.hbm (wr_rim ..)).trans h
  pend := fun _ h => (congrArg Rim.hbm (wr_rim ..)).trans h
  wait := fun _ h => (congrArg Rim.hbm (wr_rim ..)).trans h
  forced := fun _ h => (congrArg Rim.hbm (wr_rim ..)).trans h
  list := fun _ h => h
  event := fun _ h => (congrArg Rim.hbm (raise_rim ..)).trans h

/-- A domain that was ON is forced off, or was in this sub-tick. -/
theorem forceOff_FORCED {t : State} (h : t.dstate n = dON) : (t.forceOff n).rd SWD_STAT.FORCED n = 1 := by
  have hq : (t.dropWake n).seqState n = dDOWN ∨ (t.dropWake n).seqState n = dON := by
    rw [seqState_dropWake, State.seqState]
    split
    · exact .inl rfl
    · exact .inr h
  unfold State.forceOff
  extract_lets u
  obtain hq | hq := hq
  · simp only [u, hq]
    rw [rd_raise_all (by decide)]
    show (State.wr _ SWD_STAT.FORCED n 1).rd SWD_STAT.FORCED n = 1
    exact rd_wr_same ..
  · simp only [u, hq, if_true]
    exact forceDown_FORCED ..

/-! ### The coolant stop -/

/-- The coolant stop is latched, counted and raised (R92). -/
def State.latchStop (s : State) : State :=
  ((((s.wr RIM_STAT.COOL_STOP 0 1).inc COOL_CNT.STOPS).raise .RIM_COOL_STOP).traceEvent 5).errRecord 0x02000000

theorem cancelInhibited_rd {F : Fld} (i : Nat)
    (hF : (SWD_STAT.PEND :: SWD_STAT.WAIT_SLOT :: RIM_EVT.CANCELLED :: logFields).all F.off = true) :
    s.cancelInhibited.rd F i = s.rd F i := by
  simp only [List.all_cons, Bool.and_eq_true] at hF
  obtain ⟨hP, hW, hE, hL⟩ := hF
  have all {G : Fld} (h : F.off G = true) : ([F].all fun K => K.off G) = true := by simp [h]
  have h : Kept (.guard s [] [F]) s.cancelInhibited :=
    kept_cancelInhibited (kept_guard s _ _) rfl rfl
      (logs_guard rfl rfl (List.all_eq_true.2 fun G hG => all (List.all_eq_true.1 hL G hG))) (all hE) (all hP) (all hW)
  exact h.guarded (List.mem_singleton_self F) i

theorem askSelfRefresh_rd (cool : Bool) (k : Nat) (F : Fld) (i : Nat) : (s.askSelfRefresh cool k).rd F i = s.rd F i := by
  have h : Kept ⟨s.pending, s.tick, (· = s.locks), s, fun _ => True, fun _ => False⟩ (s.askSelfRefresh cool k) :=
    kept_askSelfRefresh (Kept.self s _ _) trivial trivial
  exact h.reg F i fun _ hF => hF.elim

/-- The domains that a coolant stop forces off: present clusters and links (R92). -/
def State.stopList (s : State) : List Nat :=
  idx 232 (fun n => s.present n && (isCluster n || isLink n))

/-- The gates close and the requests that the inhibit meets are cancelled, before any domain is forced off. -/
def State.stopGates (s : State) : State :=
  (s.clusters.foldl (fun s n => s.setDom n (fun d => { d with gated := true })) s).cancelInhibited

/-- The stop forces its domains off and asks the stacks to refresh themselves. -/
def State.stopPower (s : State) : State :=
  (s.stopGates.forceOffAll s.stopGates.stopList).askSelfRefresh true 48

/-- What a coolant stop does to the domains, the stacks and Rest, once it is latched (R92, R98). -/
def State.stopDomains (s : State) : State :=
  ((s.stopPower.restFail true).restFail false).setRim (fun r => { r with
    restHeld := none, coolRest := s.stopPower.rd RIM_STAT.REST_STATE != 0 })

@[simp] theorem restFail_rd (s : State) (b : Bool) (F : Fld) (i : Nat) : (s.restFail b).rd F i = s.rd F i := rfl

theorem stopDomains_rd_eq (s : State) (F : Fld) (i : Nat) : s.stopDomains.rd F i = s.stopPower.rd F i := by
  rw [State.stopDomains, setRim_rd, restFail_rd, restFail_rd]

theorem execCoolStop_stops (hl : 2 ≤ s.rim.lowRun) (hc : s.rd RIM_STAT.COOL_STOP ≠ 1) :
    exec .coolStop s = .next s.quiet.latchStop.stopDomains := by
  have h : (decide (2 ≤ s.quiet.rim.lowRun) && !s.quiet.on RIM_STAT.COOL_STOP) = true := by
    simp [hl, on_false_iff.2 hc]
  exact congrArg Host.Outcome.next (if_pos h)

theorem stopGates_rd {F : Fld} (i : Nat)
    (hF : (SWD_STAT.PEND :: SWD_STAT.WAIT_SLOT :: RIM_EVT.CANCELLED :: logFields).all F.off = true) :
    s.stopGates.rd F i = s.rd F i :=
  (cancelInhibited_rd i hF).trans
    (foldl_keeps (fun t : State => t.rd F i = s.rd F i) rfl fun _ _ h => h)

theorem stopDomains_rd {F : Fld} {i v : Nat} (hS : ∀ n, ForceSteps (fun t => t.rd F i = v) n)
    (hF : (SWD_STAT.PEND :: SWD_STAT.WAIT_SLOT :: RIM_EVT.CANCELLED :: logFields).all F.off = true)
    (h : s.rd F i = v) : s.stopDomains.rd F i = v := by
  rw [stopDomains_rd_eq, State.stopPower, askSelfRefresh_rd]
  exact foldl_keeps (fun t : State => t.rd F i = v) ((stopGates_rd i hF).trans h) fun t n ht => (hS n).forceOff ht

/-- A coolant stop forces off every cluster and link that is ON. -/
theorem stopDomains_FORCED (hn : n ∈ s.stopGates.stopList) (hd : s.dstate n = dON) :
    s.stopDomains.rd SWD_STAT.FORCED n = 1 := by
  rw [stopDomains_rd_eq, State.stopPower, askSelfRefresh_rd]
  refine foldl_meets (I := fun t : State => t.dstate n = dON) (P := fun t : State => t.rd SWD_STAT.FORCED n = 1)
    (fun t m ht => ?_) (fun t ht => forceOff_FORCED ht) (fun t m ht => (forceSteps_FORCED m n).forceOff ht) hn
    ((stopGates_rd n (by decide)).trans hd)
  exact (forceSteps_rd (F := SWD_STAT.STATE) (fun u hu => (dropWake_rd (by decide)).trans hu) (by decide)
    (by decide)).forceOff ht

theorem stopGates_stopList (s : State) : s.stopGates.stopList = s.stopList := by
  have hp : s.stopGates.present = s.present := by
    funext n
    rw [State.present, State.on, stopGates_rd n (by decide)]
    rfl
  rw [State.stopList, hp, State.stopList]

/-- The count of stops lies apart from the words of the wake mask. -/
theorem dropWake_STOPS (s : State) (n : Nat) : (s.dropWake n).rd COOL_CNT.STOPS = s.rd COOL_CNT.STOPS := by
  unfold State.dropWake
  extract_lets r
  split
  · next h =>
    have hn : n < 192 := of_decide_eq_true (Bool.and_eq_true _ _ ▸ h).1
    exact rd_wrBit_apart 1 6 (by decide) Nat.one_pos (by omega) _ _
  · rfl

theorem latchStop_COOL_STOP (s : State) : s.latchStop.rd RIM_STAT.COOL_STOP = 1 := by
  simp +decide (disch := decide) [State.latchStop, rd_errRecord_all, rd_raise_all, rd_inc_off]

theorem latchStop_EVT (s : State) : s.latchStop.rd RIM_EVT.COOL_STOP = 1 := by
  rw [State.latchStop, rd_errRecord_all (by decide), traceEvent_rd]
  exact rd_raise_st _ .RIM_COOL_STOP _ _ (by decide)

theorem latchStop_STOPS (s : State) :
    s.latchStop.rd COOL_CNT.STOPS = (s.rd COOL_CNT.STOPS + 1) % 2 ^ COOL_CNT.STOPS.width := by
  simp (disch := decide) [State.latchStop, rd_errRecord_all, rd_raise_all, rd_wr_off]

theorem latchStop_rd {F : Fld} (i : Nat) (hE : (RIM_EVT.COOL_STOP :: logFields).all F.off = true)
    (hC : F.off COOL_CNT.STOPS = true) (hS : F.off RIM_STAT.COOL_STOP = true) : s.latchStop.rd F i = s.rd F i := by
  rw [List.all_cons, Bool.and_eq_true] at hE
  have hr : (Evt.st .RIM_COOL_STOP :: logFields).all F.off = true := by rw [List.all_cons, hE.2, Bool.and_true]; exact hE.1
  rw [State.latchStop, rd_errRecord_all hE.2, traceEvent_rd, rd_raise_all hr, rd_inc_off hC, rd_wr_off hS]

/-! ### Self-refresh -/

theorem stk_setStk (s : State) (j : Nat) (f : Stk → Stk) : (s.setStk j f).stk j = f (s.stk j) :=
  Table.get_upd_same ..

theorem stk_of_hbm {t : State} (h : t.rim.hbm = s.rim.hbm) (j : Nat) : t.stk j = s.stk j := by
  rw [State.stk, State.stk, h]

theorem execSelfRefreshAck_confirms {j : Nat} (hj : j < 8) (ha : (s.stk j).asked = true) :
    exec (.selfRefreshAck j) s = .next (s.quiet.setStk j fun x => { x with confirmed := true }) :=
  congrArg Host.Outcome.next ((if_neg (not_le.2 hj)).trans (if_pos ha))

/-- A stack has missed its deadline (R92, R94). -/
def State.missRefresh (s : State) (j : Nat) : State :=
  (s.setStk j (fun x => { x with deadline := none })).raise .RIM_SR_FAULT (arg0 (192 + j) 0)

theorem execSrFault_misses {j d : Nat} (hj : j < 8) (ha : (s.stk j).asked = true) (hc : (s.stk j).confirmed = false)
    (hd : (s.stk j).deadline = some d) (ht : d ≤ s.rim.now) : exec (.srFault j) s = .next
      (if (s.stk j).cool then (s.quiet.missRefresh j).forceOff (192 + j) else s.quiet.missRefresh j) := by
  have h : ((s.stk j).asked && !(s.stk j).confirmed && (match (s.stk j).deadline with
      | some d => decide (d ≤ s.rim.now)
      | none => false)) = true := by
    simp [ha, hc, hd, ht]
  exact congrArg Host.Outcome.next ((if_neg (not_le.2 hj)).trans (if_pos h))

theorem missRefresh_stk (s : State) (j : Nat) : ((s.missRefresh j).stk j).deadline = none := by
  rw [State.missRefresh, stk_of_hbm (congrArg Rim.hbm (raise_rim ..)), stk_setStk]

theorem missRefresh_EVT (s : State) (j : Nat) : (s.missRefresh j).rd RIM_EVT.SR_FAULT = 1 :=
  rd_raise_st _ .RIM_SR_FAULT _ _ (by decide)

end Sys2Proof.Machine

namespace Sys2Proof

open Sys2Proof.Machine

/-- Settles O22: the latch (`State.latchStop`), what the stop does to the domains (`State.stopDomains`), and the judgement of a
stack. -/
theorem coolantStop : Obligations.CoolantStop := by
  refine ⟨fun s hl hc => ⟨_, execCoolStop_stops hl hc, ?_⟩, fun j s hj ha => ⟨_, execSelfRefreshAck_confirms hj ha, ?_⟩,
    fun j d s hj ha hc hd ht => ⟨_, execSrFault_misses hj ha hc hd ht, ?_⟩, fun s ht hf => ⟨_, rfl, ?_⟩⟩
  · have hp (n : Nat) : s.quiet.latchStop.present n = s.present n := by
      rw [State.present, State.on, latchStop_rd n (by decide) (by decide) (by decide)]
      rfl
    refine ⟨?_, ?_, rfl, ?_, fun n hn hpn hk hd => ?_⟩
    · exact stopDomains_rd (fun n => forceSteps_rd (fun t ht => (dropWake_rd (by decide)).trans ht) (by decide) (by decide))
        (by decide) (latchStop_COOL_STOP _)
    · exact stopDomains_rd (fun n => forceSteps_rd (fun t ht => (dropWake_rd (by decide)).trans ht) (by decide) (by decide))
        (by decide) (latchStop_EVT _)
    · exact stopDomains_rd (fun n => forceSteps_rd (fun t ht => (dropWake_STOPS t n).trans ht) (by decide) (by decide))
        (by decide) (latchStop_STOPS _)
    · refine stopDomains_FORCED ?_ ((latchStop_rd n (by decide) (by decide) (by decide)).trans hd)
      rw [stopGates_stopList]
      exact List.mem_filter.2 ⟨List.mem_range.2 hn, by rw [hp, hpn, hk]; rfl⟩
  · exact congrArg Stk.confirmed (stk_setStk ..)
  · split
    · exact ⟨by rw [stk_of_hbm ((forceSteps_hbm _ _).forceOff rfl), missRefresh_stk],
        (forceSteps_rd (fun t ht => (dropWake_rd (by decide)).trans ht) (by decide) (by decide)).forceOff
          (missRefresh_EVT _ j)⟩
    · exact ⟨missRefresh_stk _ j, missRefresh_EVT _ j⟩
  · simp +decide [ht, on_false_iff.2 hf]

end Sys2Proof
end

section
/-! PROOF. The waves of Rest (R94 to R96): the marks of the wake set, the ramps of each wave, and the register of Rest, which no
ramp of a wave writes. -/

namespace Sys2Proof.Machine

variable {s : State} {n : Nat}

/-! ### Single bits of a field -/

/-- Adding a power of two sets one clear bit. -/
theorem testBit_add_two_pow {x b : Nat} (h : x.testBit b = false) (c : Nat) :
    (x + 2 ^ b).testBit c = (x.testBit c || c == b) := by
  induction b generalizing x c with
  | zero =>
    have hx : x % 2 = 0 := by simpa [Nat.testBit_zero] using h
    cases c with
    | zero =>
      have : (x + 1) % 2 = 1 := by omega
      simp [Nat.testBit_zero, this]
    | succ c =>
      have : (x + 1) / 2 = x / 2 := by omega
      simp [Nat.testBit_succ, this]
  | succ b ih =>
    have hp : x + 2 ^ (b + 1) = x + 2 * 2 ^ b := by rw [Nat.pow_succ, Nat.mul_comm]
    cases c with
    | zero =>
      have : (x + 2 * 2 ^ b) % 2 = x % 2 := by omega
      simp [hp, Nat.testBit_zero, this]
    | succ c =>
      have hd : (x + 2 * 2 ^ b) / 2 = x / 2 + 2 ^ b := by omega
      rw [Nat.testBit_succ] at h
      rw [hp, Nat.testBit_succ, hd, ih h, Nat.testBit_succ]
      simp

/-- The bits of a field after one of them is set. -/
theorem bit_wrBit_true (s : State) (F : Fld) (i : Nat) {b c : Nat} (hc : c < F.width) :
    (s.wrBit F i b true).bit F c i = (s.bit F c i || c == b) := by
  unfold State.wrBit State.bit
  by_cases h : (s.rd F i).testBit b = true
  · by_cases e : c = b
    · simp [h, e]
    · simp [h, e]
  · have h' : (s.rd F i).testBit b = false := Bool.eq_false_iff.2 h
    simp [h', Nat.testBit_mod_two_pow, hc, testBit_add_two_pow h']

/-! ### The wake set -/

theorem inWakeSet_mark {m : Nat} : (s.wrBit REST_MASK.WAKE (m / 32) (m % 32) true).inWakeSet n = (s.inWakeSet n || n == m) := by
  unfold State.inWakeSet
  by_cases e : n / 32 = m / 32
  · rw [e, bit_wrBit_true _ _ _ (show n % 32 < 32 from Nat.mod_lt _ (by decide))]
    congr 1
    rw [Bool.eq_iff_iff, beq_iff_eq, beq_iff_eq]
    omega
  · have hne : n ≠ m := fun h => e (by rw [h])
    rw [State.bit, rd_wrBit_ne _ _ _ _ _ _ _ fun k => e (Nat.eq_of_mul_eq_mul_left (show 0 < 32 by decide)
      (Nat.add_left_cancel k))]
    simp [State.bit, hne]

/-! ### What the ramps of a wave leave -/

/-- What the rim keeps of Rest: the command that waits, when Rest began, the next wave, and the wake's order and deferrals. -/
def Rim.rest (r : Rim) : Option Bool × Nat × Nat × Nat × List Nat :=
  (r.restHeld, r.restAt, r.nextWave, r.shift, r.wakeList)

@[simp] theorem setDom_rest (s : State) (n : Nat) (f : Dom → Dom) : (s.setDom n f).rim.rest = s.rim.rest := rfl

@[simp] theorem wr_rest (s : State) (F : Fld) (i v : Nat) : (s.wr F i v).rim.rest = s.rim.rest :=
  congrArg Rim.rest (wr_rim ..)

@[simp] theorem enter_rest (s : State) (n st : Nat) : (s.enter n st).rim.rest = s.rim.rest := by
  simp [State.enter]

theorem enterDown_rest (s : State) (n : Nat) : (s.enterDown n).rim.rest = s.rim.rest := by
  refine enterDown_cases (P := fun t => t.rim.rest = s.rim.rest) s n (fun j u hu => ?_) ?_
  · unfold State.dropSelfRefresh
    split
    · exact hu
    · exact hu
  · rw [enter_rest, setDom_rest, disarm_rim]

/-- Another domain's entry into a state. -/
theorem enter_dstate_ne {m : Nat} (h : n ≠ m) (st : Nat) : (s.enter m st).dstate n = s.dstate n :=
  rd_wr_other (by decide) h st

theorem enterDown_dstate_ne {m : Nat} (h : n ≠ m) : (s.enterDown m).dstate n = s.dstate n := by
  refine enterDown_cases (P := fun t => t.dstate n = s.dstate n) s m (fun j t ht => ?_) ?_
  · exact (dropSelfRefresh_rd t j _ _).trans ht
  · rw [enter_dstate_ne h]
    exact disarm_rd (by decide)

theorem askSelfRefresh_rest (cool : Bool) (k : Nat) : (s.askSelfRefresh cool k).rim.rest = s.rim.rest :=
  foldl_keeps (fun t : State => t.rim.rest = s.rim.rest) rfl fun _ _ h => h

/-! ### Rest entry -/

theorem clusters_of_present {t : State} (h : ∀ n, t.rd SWD_CFG.PRESENT n = s.rd SWD_CFG.PRESENT n) :
    t.clusters = s.clusters := by
  have hp : t.present = s.present := by
    funext n
    rw [State.present, State.on, h, State.present, State.on]
  rw [State.clusters, hp, State.clusters]

theorem mem_clusters_lt (h : n ∈ s.clusters) : n < 192 :=
  List.mem_range.1 (List.mem_filter.1 h).1

/-- The requests of cluster `n` end as Rest entry begins. -/
def State.dropRequests (s : State) (n : Nat) : State :=
  ((s.failRequest n stCONFLICT false).wr SWD_STAT.PEND n 0).endRequest n

/-- Rest entry before any cluster drains: no request stands and the wake set is empty (R94). -/
def State.restClear (s : State) : State :=
  let s := ((s.wr RIM_STAT.REST_STATE 0 1).wr RIM_STAT.REST_TICK 0 0).cancelInhibited
  let s := s.clusters.foldl State.dropRequests s
  upTo 6 (fun k s => s.wr REST_MASK.WAKE k 0) s

/-- A cluster drains for Rest and joins the wake set. -/
def State.restDrain (s : State) (n : Nat) : State :=
  let s := (s.wrBit REST_MASK.WAKE (n / 32) (n % 32) true).enter n dDRAIN
  (s.setDom n (fun d => { d with wave := true })).drive (.quiesce n)

/-- The links that are ON are told to idle, and the waves begin. -/
def State.beginEntry (s : State) : State :=
  let l := s.linksOn
  let s := l.foldl (fun s n => s.drive (.laneIdle n true)) s
  s.setRim (fun r => { r with laneIdle := l, restHeld := none, restAt := s.tick, nextWave := 1, shift := 0 })

theorem execRestEntryStart_enters (hb : s.atBoundary = true) (hh : s.rim.restHeld = some true)
    (hr : s.rd RIM_STAT.REST_STATE = 0) (hf : s.rim.forcing = [])
    (hc : ∀ n ∈ s.clusters, s.dstate n = dON ∨ s.dstate n = dOFF) : exec .restEntryStart s = .next
      (((s.quiet.restClear.clusters.filter (fun n => s.quiet.restClear.dstate n == dON)).foldl State.restDrain
        s.quiet.restClear).beginEntry) := by
  have hall : (s.clusters.all fun n => s.dstate n == dON || s.dstate n == dOFF) = true := by
    simpa only [List.all_eq_true, Bool.or_eq_true, beq_iff_eq] using hc
  have h : (s.atBoundary && s.rim.restHeld == some true && s.rd RIM_STAT.REST_STATE == 0 && s.rim.forcing.isEmpty
      && s.clusters.all fun n => s.dstate n == dON || s.dstate n == dOFF) = true := by
    rw [hb, hh, hr, hf, hall]
    rfl
  exact congrArg Host.Outcome.next (if_pos h)

theorem dropRequests_rd (s : State) (n : Nat) (F : Fld) (i : Nat) :
    (s.dropRequests n).rd F i = (s.wr SWD_STAT.PEND n 0).rd F i := rfl

theorem restDrain_rd (s : State) (n : Nat) (F : Fld) (i : Nat) :
    (s.restDrain n).rd F i = ((s.wrBit REST_MASK.WAKE (n / 32) (n % 32) true).enter n dDRAIN).rd F i := rfl

theorem restDrain_tick (s : State) (n : Nat) : (s.restDrain n).tick = s.tick :=
  (enter_tick (s.wrBit REST_MASK.WAKE (n / 32) (n % 32) true) n dDRAIN).trans (wrBit_tick ..)

theorem restClear_rd {F : Fld} (i : Nat)
    (hF : (REST_MASK.WAKE :: SWD_STAT.PEND :: SWD_STAT.WAIT_SLOT :: RIM_EVT.CANCELLED :: logFields).all F.off = true) :
    s.restClear.rd F i = ((s.wr RIM_STAT.REST_STATE 0 1).wr RIM_STAT.REST_TICK 0 0).rd F i := by
  rw [List.all_cons, Bool.and_eq_true] at hF
  have hP : F.off SWD_STAT.PEND = true := by
    have h := hF.2
    rw [List.all_cons, Bool.and_eq_true] at h
    exact h.1
  unfold State.restClear
  extract_lets t u
  have ht : t.rd F i = ((s.wr RIM_STAT.REST_STATE 0 1).wr RIM_STAT.REST_TICK 0 0).rd F i := cancelInhibited_rd i hF.2
  rw [← ht]
  have hu : u.rd F i = t.rd F i :=
    foldl_keeps (fun v : State => v.rd F i = t.rd F i) rfl fun v n hv => by
      rw [dropRequests_rd, rd_wr_off hP, hv]
  exact upTo_keeps (fun v : State => v.rd F i = t.rd F i) hu fun k v hv => (rd_wr_off hF.1 _).trans hv

theorem restClear_dstate (s : State) (n : Nat) : s.restClear.dstate n = s.dstate n := by
  rw [State.dstate, restClear_rd n (by decide), rd_wr_off (by decide), rd_wr_off (by decide)]
  rfl

theorem restClear_clusters (s : State) : s.restClear.clusters = s.clusters :=
  clusters_of_present fun n => by
    rw [restClear_rd n (by decide), rd_wr_off (by decide), rd_wr_off (by decide)]

theorem restClear_REST_STATE (s : State) : s.restClear.rd RIM_STAT.REST_STATE = 1 := by
  rw [restClear_rd 0 (by decide), rd_wr_off (by decide), rd_wr_same]
  rfl

theorem restClear_tick (s : State) : s.restClear.tick = s.tick := by
  have h : Kept (.guard ((s.wr RIM_STAT.REST_STATE 0 1).wr RIM_STAT.REST_TICK 0 0) [] [])
      ((s.wr RIM_STAT.REST_STATE 0 1).wr RIM_STAT.REST_TICK 0 0).cancelInhibited :=
    kept_cancelInhibited (kept_guard _ _ _) rfl rfl (logs_guard rfl rfl rfl) rfl rfl rfl
  refine upTo_keeps (fun t : State => t.tick = s.tick) ?_ fun k t ht => (wr_tick ..).trans ht
  refine foldl_keeps (fun t : State => t.tick = s.tick) ?_ fun t n ht => (wr_tick ..).trans ht
  exact h.tick.trans ((wr_tick ..).trans (wr_tick ..))

/-- Cluster `n` drains for Rest, in the wake set. -/
def DrainsForRest (n : Nat) (t : State) : Prop :=
  t.dstate n = dDRAIN ∧ t.inWakeSet n = true

theorem inWakeSet_restDrain (m : Nat) : (s.restDrain m).inWakeSet n = (s.inWakeSet n || n == m) := by
  have h : (s.restDrain m).inWakeSet n = (s.wrBit REST_MASK.WAKE (m / 32) (m % 32) true).inWakeSet n := by
    unfold State.inWakeSet State.bit
    rw [restDrain_rd, enter_rd (by decide)]
  rw [h, inWakeSet_mark]

theorem restDrain_drains (s : State) (n : Nat) : DrainsForRest n (s.restDrain n) :=
  ⟨(restDrain_rd ..).trans (enter_dstate _ n (st := dDRAIN) (by decide)), by rw [inWakeSet_restDrain, beq_self_eq_true, Bool.or_true]⟩

theorem DrainsForRest.restDrain (h : DrainsForRest n s) (m : Nat) : DrainsForRest n (s.restDrain m) := by
  obtain ⟨hd, hw⟩ := h
  by_cases e : n = m
  · subst e
    exact restDrain_drains s n
  · refine ⟨?_, by rw [inWakeSet_restDrain, hw, Bool.true_or]⟩
    have h' : (s.restDrain m).dstate n = _ := (restDrain_rd ..).trans (enter_dstate_ne e dDRAIN)
    rw [h', State.dstate, rd_wrBit_off (by decide)]
    exact hd

theorem drives_keep {α : Type} (f : State → α) (hf : ∀ t e, f (State.drive t e) = f t) (e : Nat → Emission) (l : List Nat) :
    f (l.foldl (fun s n => s.drive (e n)) s) = f s :=
  foldl_keeps (fun t : State => f t = f s) rfl fun t _ ht => (hf t _).trans ht

theorem beginEntry_rd (s : State) (F : Fld) (i : Nat) : s.beginEntry.rd F i = s.rd F i := by
  rw [State.beginEntry, setRim_rd]
  exact drives_keep (fun t : State => t.rd F i) (fun _ _ => rfl) _ _

theorem beginEntry_rest (s : State) : s.beginEntry.rim.restHeld = none ∧ s.beginEntry.rim.restAt = s.tick ∧
    s.beginEntry.rim.nextWave = 1 :=
  ⟨rfl, drives_keep (fun t : State => t.tick) (fun _ _ => rfl) _ _, rfl⟩

/-! ### Waves -/

/-- A cluster of an entry wave ramps down, its clock gated. -/
def State.waveDown (s : State) (n : Nat) : State :=
  (s.setDom n (fun d => { d with gated := true })).enterDown n

theorem waveDown_rest (s : State) (n : Nat) : (s.waveDown n).rim.rest = s.rim.rest :=
  (enterDown_rest ..).trans rfl

theorem execRestEntryWave_runs {k : Nat} (h1 : s.rd RIM_STAT.REST_STATE = 1) (h2 : k = s.rim.nextWave) (h3 : 1 ≤ k)
    (h4 : k ≤ 5) (h5 : s.rim.restAt + 2 * k - 1 ≤ s.tick) : exec (.restEntryWave k) s = .next
      (if k = 5 then (s.quiet.setRim fun r => { r with nextWave := k + 1 }).askSelfRefresh false 20
      else ((s.entryWave k).filter (fun n => s.dstate n == dDRAIN && (s.dom n).wave)).foldl State.waveDown
        (s.quiet.setRim fun r => { r with nextWave := k + 1 })) := by
  have h : (s.rd RIM_STAT.REST_STATE == 1 && k == s.rim.nextWave && decide (1 ≤ k) && decide (k ≤ 5)
      && decide (s.rim.restAt + 2 * k - 1 ≤ s.tick)) = true := by
    simp [h1, ← h2, h3, h4, h5]
  exact congrArg Host.Outcome.next (if_pos h)

/-- A cluster of a wake wave ramps up in it. -/
def State.waveUp (s : State) (n : Nat) : State :=
  ((((s.setDom n (fun d => { d with wave := true })).wr SWD_STAT.PEND n 0).wr SWD_STAT.MINOFF n 0).enter n dUP)

theorem waveUp_rest (s : State) (n : Nat) : (s.waveUp n).rim.rest = s.rim.rest := by
  rw [State.waveUp, enter_rest, wr_rest, wr_rest, setDom_rest]

theorem waveUp_REST_STATE (s : State) (n : Nat) : (s.waveUp n).rd RIM_STAT.REST_STATE = s.rd RIM_STAT.REST_STATE := by
  rw [State.waveUp, enter_rd (by decide), rd_wr_off (by decide), rd_wr_off (by decide), setDom_rd]

theorem waveUp_dstate_ne {m : Nat} (h : n ≠ m) : (s.waveUp m).dstate n = s.dstate n := by
  rw [State.waveUp, enter_dstate_ne h, State.dstate, rd_wr_off (by decide), rd_wr_off (by decide)]
  rfl

theorem startWave_eq (s : State) (k : Nat) : s.startWave k =
    ((waveMembers s.rim.wakeList k).filter (fun n => s.inWakeSet n && s.dstate n == dOFF)).foldl State.waveUp s := rfl

theorem startWave_rest (s : State) (k : Nat) : (s.startWave k).rim.rest = s.rim.rest :=
  foldl_keeps (fun t : State => t.rim.rest = s.rim.rest) rfl fun t n ht => (waveUp_rest t n).trans ht

theorem startWave_REST_STATE (s : State) (k : Nat) :
    (s.startWave k).rd RIM_STAT.REST_STATE = s.rd RIM_STAT.REST_STATE :=
  foldl_keeps (fun t : State => t.rd RIM_STAT.REST_STATE = s.rd RIM_STAT.REST_STATE) rfl fun t n ht =>
    (waveUp_REST_STATE t n).trans ht

/-- A ramp of a wave leaves the domains that are in state `st` there. -/
theorem wave_meets {f : State → Nat → State} {st : Nat} (hs : ∀ t m, (f t m).dstate m = st)
    (hn : ∀ t m, n ≠ m → (f t m).dstate n = t.dstate n) {l : List Nat} (hl : n ∈ l) (s : State) :
    (l.foldl f s).dstate n = st :=
  foldl_meets (I := fun _ => True) (P := fun t : State => t.dstate n = st) (fun _ _ _ => trivial) (fun t _ => hs t n)
    (fun t m ht => by
      by_cases e : n = m
      · subst e
        exact hs t n
      · exact (hn t m e).trans ht) hl trivial

theorem execRestWakeWave_runs {k : Nat} (h1 : s.rd RIM_STAT.REST_STATE = 3) (h2 : k = s.rim.nextWave) (h3 : k ≤ 17)
    (h4 : s.rim.restAt + 2 * k + s.rim.shift ≤ s.tick) : exec (.restWakeWave k) s = .next
      ((s.quiet.setRim fun r => { r with nextWave := k + 1, waveDeferred := false }).startWave k) := by
  have h : (s.rd RIM_STAT.REST_STATE == 3 && k == s.rim.nextWave && decide (k ≤ 17)
      && decide (s.rim.restAt + 2 * k + s.rim.shift ≤ s.tick)) = true := by
    simp [h1, ← h2, h3, h4]
  exact congrArg Host.Outcome.next (if_pos h)

theorem execRestEntered_enters (h1 : s.rd RIM_STAT.REST_STATE = 1) (h2 : s.rim.nextWave = 6)
    (h3 : s.rim.restAt + 12 ≤ s.tick) : exec .restEntered s = .next
      (((s.quiet.wr RIM_STAT.REST_STATE 0 2).restDone true).raise .RIM_REST_ENTERED) := by
  have h : (s.rd RIM_STAT.REST_STATE == 1 && s.rim.nextWave == 6 && decide (s.rim.restAt + 12 ≤ s.tick)) = true := by
    simp [h1, h2, h3]
  exact congrArg Host.Outcome.next (if_pos h)

/-- At the end of a wake the clock gates of its domains open (R96). -/
def State.openWake (s : State) : State :=
  (s.clusters.filter (fun n => s.dstate n == dON && (s.dom n).wave)).foldl (fun s n =>
    s.setDom n (fun d => { d with gated := false, wave := false })) s

theorem openWake_rd (s : State) (F : Fld) (i : Nat) : s.openWake.rd F i = s.rd F i :=
  foldl_keeps (fun t : State => t.rd F i = s.rd F i) rfl fun _ _ h => h

theorem execRestExited_exits (h1 : s.rd RIM_STAT.REST_STATE = 3) (h2 : 18 ≤ s.rim.nextWave)
    (h3 : s.rim.restAt + 40 + s.rim.shift ≤ s.tick) : exec .restExited s = .next
      (((s.quiet.wr RIM_STAT.REST_STATE 0 0).openWake.restDone false).raise .RIM_REST_EXITED) := by
  have h : (s.rd RIM_STAT.REST_STATE == 3 && decide (18 ≤ s.rim.nextWave)
      && decide (s.rim.restAt + 40 + s.rim.shift ≤ s.tick)) = true := by
    simp [h1, h2, h3]
  exact congrArg Host.Outcome.next (if_pos h)

@[simp] theorem restDone_rd (s : State) (b : Bool) (F : Fld) (i : Nat) : (s.restDone b).rd F i = s.rd F i := rfl

/-! ### Wake -/

/-- The wake begins (R95): its register, its order, and no wave begun. -/
def State.beginWake (s : State) : State :=
  let s := (s.wr RIM_STAT.REST_STATE 0 3).wr RIM_STAT.REST_TICK 0 0
  let s := s.endSelfRefresh
  let s := s.rim.laneIdle.foldl (fun s n => s.drive (.laneIdle n false)) s
  let l := s.wakeOrder
  s.setRim (fun r => { r with laneIdle := [], restHeld := none, restAt := s.tick, nextWave := 0, shift := 0,
                              waveDeferred := false, wakeList := l })

theorem execRestWakeStart_wakes (hb : s.atBoundary = true) (hr : s.rd RIM_STAT.REST_STATE = 2)
    (hh : s.rim.restHeld = some false) (hc : s.rim.coolRest = false)
    (hw : ∀ n ∈ s.clusters, s.inWakeSet n = true → s.dstate n = dOFF ∧ s.offElapsed n = true) :
    exec .restWakeStart s = .next (if s.quiet.beginWake.waveLate then s.quiet.beginWake.deferWave
      else (s.quiet.beginWake.setRim fun r => { r with nextWave := 1 }).startWave 0).wakeOffsets := by
  have hall : ((s.clusters.filter s.inWakeSet).all fun n => s.dstate n == dOFF && s.offElapsed n) = true := by
    simpa only [List.all_eq_true, List.mem_filter, Bool.and_eq_true, beq_iff_eq, and_imp] using hw
  have h : (s.atBoundary && s.rd RIM_STAT.REST_STATE == 2 && s.rim.restHeld == some false && !s.rim.coolRest
      && (s.clusters.filter s.inWakeSet).all fun n => s.dstate n == dOFF && s.offElapsed n) = true := by
    rw [hb, hr, hh, hc, hall]
    rfl
  exact congrArg Host.Outcome.next (if_pos h)

theorem dropSelfRefresh_tick (s : State) (j : Nat) : (s.dropSelfRefresh j).tick = s.tick := by
  unfold State.dropSelfRefresh
  split
  · rfl
  · rfl

/-- What wakes the stacks and the lanes leaves every register field and the tick alone. -/
theorem beginWake_rd (s : State) (F : Fld) (i : Nat) :
    s.beginWake.rd F i = ((s.wr RIM_STAT.REST_STATE 0 3).wr RIM_STAT.REST_TICK 0 0).rd F i := by
  unfold State.beginWake
  extract_lets t u v l
  have hu : u.rd F i = t.rd F i :=
    foldl_keeps (fun w : State => w.rd F i = t.rd F i) rfl fun w j hw => (dropSelfRefresh_rd w j F i).trans hw
  have hv : v.rd F i = u.rd F i := drives_keep (fun w : State => w.rd F i) (fun _ _ => rfl) _ _
  rw [setRim_rd, hv, hu]

theorem wakeOrder_congr {t : State} (hP : ∀ n, t.rd SWD_CFG.PRESENT n = s.rd SWD_CFG.PRESENT n)
    (hR : ∀ n, t.rd SWD_CFG.RG n = s.rd SWD_CFG.RG n) (hW : ∀ k, t.rd REST_MASK.WAKE k = s.rd REST_MASK.WAKE k) :
    t.wakeOrder = s.wakeOrder := by
  have hc : t.sectorClusters = s.sectorClusters := by
    funext g
    simp only [State.sectorClusters, clusters_of_present hP, hR]
  have hw : t.inWakeSet = s.inWakeSet := by
    funext n
    rw [State.inWakeSet, State.bit, hW, State.inWakeSet, State.bit]
  rw [State.wakeOrder, hc, hw, State.wakeOrder]

/-- The registers of Rest lie apart from a field. -/
theorem beginWake_rd_off {F : Fld} (i : Nat) (hS : F.off RIM_STAT.REST_STATE = true) (hT : F.off RIM_STAT.REST_TICK = true) :
    s.beginWake.rd F i = s.rd F i := by
  rw [beginWake_rd, rd_wr_off hT, rd_wr_off hS]

theorem beginWake_REST_STATE (s : State) : s.beginWake.rd RIM_STAT.REST_STATE = 3 := by
  rw [beginWake_rd, rd_wr_off (by decide), rd_wr_same]
  rfl

/-- What the wake starts from (R95, R96). -/
theorem beginWake_rim (s : State) : s.beginWake.tick = s.tick ∧
    s.beginWake.rim.rest = (none, s.tick, 0, 0, s.wakeOrder) ∧ s.beginWake.rim.waveDeferred = false := by
  unfold State.beginWake
  extract_lets t u v l
  have hu : ∀ F i, u.rd F i = t.rd F i := fun F i =>
    foldl_keeps (fun w : State => w.rd F i = t.rd F i) rfl fun w j hw => (dropSelfRefresh_rd w j F i).trans hw
  have hv : ∀ F i, v.rd F i = u.rd F i := fun F i => drives_keep (fun w : State => w.rd F i) (fun _ _ => rfl) _ _
  have hut : u.tick = t.tick :=
    foldl_keeps (fun w : State => w.tick = t.tick) rfl fun w j hw => (dropSelfRefresh_tick w j).trans hw
  have hvt : v.tick = u.tick := drives_keep (fun w : State => w.tick) (fun _ _ => rfl) _ _
  have htick : v.tick = s.tick := hvt.trans (hut.trans ((wr_tick ..).trans (wr_tick ..)))
  have hl : l = s.wakeOrder := wakeOrder_congr
    (fun n => by rw [hv, hu, rd_wr_off (by decide), rd_wr_off (by decide)])
    (fun n => by rw [hv, hu, rd_wr_off (by decide), rd_wr_off (by decide)])
    (fun k => by rw [hv, hu, rd_wr_off (by decide), rd_wr_off (by decide)])
  clear_value v l
  exact ⟨htick, by rw [setRim_rim, Rim.rest, hl, htick], rfl⟩

/-- The first wave of a wake is late exactly where the tick is synthesised. -/
theorem beginWake_waveLate (s : State) : s.beginWake.waveLate = s.on CAD_STAT.LAST_SYNTH := by
  obtain ⟨ht, hr, hd⟩ := beginWake_rim s
  simp only [Rim.rest, Prod.mk.injEq] at hr
  obtain ⟨-, ha, hn, hs, -⟩ := hr
  have hl : s.beginWake.on CAD_STAT.LAST_SYNTH = s.on CAD_STAT.LAST_SYNTH := by
    rw [State.on, beginWake_rd_off 0 (by decide) (by decide), State.on]
  simp [State.waveLate, beginWake_REST_STATE, hn, hd, hl, ht, ha, hs]

/-- Asking the groups for the offsets of a wake leaves Rest alone. -/
theorem wakeOffsets_rest (s : State) : s.wakeOffsets.rim.rest = s.rim.rest ∧
    s.wakeOffsets.rd RIM_STAT.REST_STATE = s.rd RIM_STAT.REST_STATE := by
  have h : Kept (.guard s [.rim] [RIM_STAT.REST_STATE]) s.wakeOffsets :=
    kept_wakeOffsets (kept_guard s _ _) rfl rfl rfl rfl rfl rfl
  exact ⟨congrArg Rim.rest (h.spared .rim rfl), h.guarded (List.mem_singleton_self _) 0⟩

/-- The deferral of a late wave (R28, R96). -/
theorem deferWave_late (h : s.waveLate = true) : s.deferWave.rim.rest =
    (s.rim.restHeld, s.rim.restAt, s.rim.nextWave, s.rim.shift + 1, s.rim.wakeList) ∧
      s.deferWave.rd RIM_STAT.REST_STATE = s.rd RIM_STAT.REST_STATE := by
  rw [State.deferWave, if_pos h]
  refine ⟨?_, ?_⟩
  · rw [raiseLog_rim, inc_rim]
    rfl
  · rw [rd_raiseLog_all (by decide), rd_inc_off (by decide), setRim_rd]

end Sys2Proof.Machine

namespace Sys2Proof

open Sys2Proof.Machine

/-- Settles O23, by the start of Rest entry (`State.beginEntry`) and of the wake (`State.beginWake`), and the ramps of a wave
(`wave_meets`). -/
theorem restWaves : Obligations.RestWaves := by
  refine ⟨fun s h1 h2 h3 h4 h5 => ⟨_, execRestEntryStart_enters h1 h2 h3 h4 h5, ?_⟩,
    fun k s h1 h2 h3 h4 h5 => ⟨_, execRestEntryWave_runs h1 h2 h3 h4 h5, ?_⟩,
    fun s h1 h2 h3 => ⟨_, execRestEntered_enters h1 h2 h3, ?_⟩,
    fun s h1 h2 h3 h4 h5 h6 => ⟨_, execRestWakeStart_wakes h1 h2 h3 h4 h6, ?_⟩,
    fun s h1 h2 h3 h4 h5 h6 => ⟨_, execRestWakeStart_wakes h1 h2 h3 h4 h6, ?_⟩,
    fun k s h1 h2 h3 h4 => ⟨_, execRestWakeWave_runs h1 h2 h3 h4, ?_⟩,
    fun s h1 h2 h3 => ⟨_, execRestExited_exits h1 h2 h3, ?_⟩⟩
  · obtain ⟨hh, ha, hw⟩ := beginEntry_rest ((s.quiet.restClear.clusters.filter
      (fun n => s.quiet.restClear.dstate n == dON)).foldl State.restDrain s.quiet.restClear)
    refine ⟨?_, hh, ?_, hw, fun n hn hd => ?_⟩
    · rw [beginEntry_rd]
      exact foldl_keeps (fun t : State => t.rd RIM_STAT.REST_STATE = 1) (restClear_REST_STATE _) fun t n ht => by
        rw [restDrain_rd, enter_rd (by decide), rd_wrBit_off (by decide), ht]
    · rw [ha]
      exact foldl_keeps (fun t : State => t.tick = s.tick) (restClear_tick _) fun t n ht =>
        (restDrain_tick t n).trans ht
    · have hm : n ∈ s.quiet.restClear.clusters.filter (fun n => s.quiet.restClear.dstate n == dON) := by
        refine List.mem_filter.2 ⟨by rw [restClear_clusters]; exact hn, ?_⟩
        rw [restClear_dstate, beq_iff_eq]
        exact hd
      have hq := foldl_meets (I := fun _ => True) (P := DrainsForRest n) (fun _ _ _ => trivial)
        (fun t _ => restDrain_drains t n) (fun t m ht => ht.restDrain m) hm (a := s.quiet.restClear) trivial
      exact ⟨(beginEntry_rd ..).trans hq.1, by
        rw [← hq.2]
        unfold State.inWakeSet State.bit
        rw [beginEntry_rd]⟩
  · have hf : ∀ l : List Nat, (l.foldl State.waveDown (s.quiet.setRim fun r => { r with nextWave := k + 1 })).rim.rest =
        (s.quiet.setRim fun r => { r with nextWave := k + 1 }).rim.rest := fun l =>
      foldl_keeps (fun t : State => t.rim.rest = _) rfl fun t n ht => (waveDown_rest t n).trans ht
    split
    · next h5 =>
      exact ⟨congrArg (·.2.2.1) (askSelfRefresh_rest ..), fun n _ h => absurd h5 h⟩
    · refine ⟨congrArg (·.2.2.1) (hf _), fun n hn _ hd hw => ?_⟩
      have hm : n ∈ (s.entryWave k).filter (fun n => s.dstate n == dDRAIN && (s.dom n).wave) :=
        List.mem_filter.2 ⟨hn, by rw [hd, hw]; rfl⟩
      exact wave_meets (f := State.waveDown) (fun t m => enterDown_dstate ..) (fun t m h => enterDown_dstate_ne h) hm _
  · refine ⟨?_, rd_raise_st _ .RIM_REST_ENTERED _ _ (by decide)⟩
    rw [rd_raise_all (by decide), restDone_rd, rd_wr_same]
    rfl
  · obtain ⟨-, hr, -⟩ := beginWake_rim s.quiet
    have hl : s.quiet.beginWake.waveLate = false := (beginWake_waveLate _).trans (on_of_zero h5)
    rw [hl, if_neg Bool.false_ne_true]
    obtain ⟨ho, hS⟩ := wakeOffsets_rest ((s.quiet.beginWake.setRim fun r => { r with nextWave := 1 }).startWave 0)
    rw [startWave_rest] at ho
    rw [startWave_REST_STATE, setRim_rd, beginWake_REST_STATE] at hS
    simp only [Rim.rest, Prod.mk.injEq, setRim_rim] at ho hr
    obtain ⟨hh, ha, hn, -, hw⟩ := ho
    exact ⟨hS, hh.trans hr.1, ha.trans hr.2.1, hn, hw.trans hr.2.2.2.2⟩
  · obtain ⟨-, hr, -⟩ := beginWake_rim s.quiet
    have hl : s.quiet.beginWake.waveLate = true := (beginWake_waveLate _).trans (on_of_one h5)
    rw [hl, if_pos rfl]
    obtain ⟨ho, hS⟩ := wakeOffsets_rest s.quiet.beginWake.deferWave
    obtain ⟨hd, hdS⟩ := deferWave_late hl
    rw [hd] at ho
    rw [hdS, beginWake_REST_STATE] at hS
    simp only [Rim.rest, Prod.mk.injEq] at ho hr
    obtain ⟨hh, ha, hn, hs, hw⟩ := ho
    exact ⟨hS, hh.trans hr.1, ha.trans hr.2.1, hn.trans hr.2.2.1, hs.trans (by rw [hr.2.2.2.1]), hw.trans hr.2.2.2.2⟩
  · refine ⟨congrArg (·.2.2.1) (startWave_rest ..), fun n hn hm hw hd => ?_⟩
    rw [startWave_eq]
    refine wave_meets (fun t m => enter_dstate _ _ (by decide)) (fun t m h => waveUp_dstate_ne h) ?_ _
    exact List.mem_filter.2 ⟨hm, Bool.and_eq_true_iff.2 ⟨hw, beq_iff_eq.2 hd⟩⟩
  · refine ⟨?_, rd_raise_st _ .RIM_REST_EXITED _ _ (by decide)⟩
    rw [rd_raise_all (by decide), restDone_rd, openWake_rd, rd_wr_same]
    rfl

end Sys2Proof
end

section
/-! PROOF. The Gleub regulator link (R102 to R124): each command of the link layer in the one branch that the conditions
name, what the sends of a transition leave alone (`Sends`), and a link's entry into FAULT. -/

namespace Sys2Proof.Machine

variable {s t u : State} {n m g : Nat} {F : Fld} {i : Nat}

/-! ### The records of a link and of a rail group -/

theorem lnk_congr (h : t.gl = s.gl) (n : Nat) : t.lnk n = s.lnk n := by
  rw [State.lnk, State.lnk, h]

@[simp] theorem lnk_quiet (s : State) (n : Nat) : s.quiet.lnk n = s.lnk n := rfl

@[simp] theorem lnk_wr (s : State) (F : Fld) (i v n : Nat) : (s.wr F i v).lnk n = s.lnk n :=
  lnk_congr (wr_gl ..) n

@[simp] theorem lnk_inc (s : State) (F : Fld) (i n : Nat) : (s.inc F i).lnk n = s.lnk n :=
  lnk_wr ..

@[simp] theorem lnk_wrBit (s : State) (F : Fld) (i b : Nat) (v : Bool) (n : Nat) : (s.wrBit F i b v).lnk n = s.lnk n := by
  obtain h | ⟨x, h⟩ := wrBit_cases s F i b v
  · rw [h]
  · rw [h, lnk_wr]

@[simp] theorem lnk_raise (s : State) (e : Evt) (a b n : Nat) : (s.raise e a b).lnk n = s.lnk n :=
  lnk_congr (raise_gl ..) n

@[simp] theorem lnk_raiseLog (s : State) (e : Evt) (a b n : Nat) : (s.raiseLog e a b).lnk n = s.lnk n :=
  lnk_congr (raiseLog_gl ..) n

@[simp] theorem lnk_send (s : State) (m w n : Nat) : (s.send m w).lnk n = s.lnk n := rfl

@[simp] theorem lnk_setVgrp (s : State) (g : Nat) (f : VGrp → VGrp) (n : Nat) : (s.setVgrp g f).lnk n = s.lnk n := rfl

@[simp] theorem lnk_setLnk (s : State) (n : Nat) (f : Lnk → Lnk) : (s.setLnk n f).lnk n = f (s.lnk n) :=
  Table.get_upd_same ..

theorem lnk_setLnk_ne (s : State) (f : Lnk → Lnk) (h : n ≠ m) : (s.setLnk n f).lnk m = s.lnk m :=
  Table.get_upd_ne _ _ _ h

/-- A part of the record that an update leaves alone, at every link. -/
theorem lnk_setLnk_part {α : Type} (s : State) (n : Nat) {f : Lnk → Lnk} (p : Lnk → α) (h : ∀ l, p (f l) = p l) (m : Nat) :
    p ((s.setLnk n f).lnk m) = p (s.lnk m) := by
  by_cases e : n = m
  · subst e
    rw [lnk_setLnk, h]
  · rw [lnk_setLnk_ne _ _ e]

@[simp] theorem setLnk_rd (s : State) (n : Nat) (f : Lnk → Lnk) (F : Fld) (i : Nat) :
    (s.setLnk n f).rd F i = s.rd F i := rfl

@[simp] theorem setLnk_emit (s : State) (n : Nat) (f : Lnk → Lnk) : (s.setLnk n f).emit = s.emit := rfl

@[simp] theorem setLnk_tick (s : State) (n : Nat) (f : Lnk → Lnk) : (s.setLnk n f).tick = s.tick := rfl

@[simp] theorem setVgrp_rd (s : State) (g : Nat) (f : VGrp → VGrp) (F : Fld) (i : Nat) :
    (s.setVgrp g f).rd F i = s.rd F i := rfl

@[simp] theorem send_rd (s : State) (n w : Nat) (F : Fld) (i : Nat) : (s.send n w).rd F i = s.rd F i := rfl

@[simp] theorem goodSlot_rd (s : State) (n : Nat) (F : Fld) (i : Nat) : (s.goodSlot n).rd F i = s.rd F i := rfl

@[simp] theorem goodSlot_lnk (s : State) (n : Nat) :
    (s.goodSlot n).lnk n = { s.lnk n with bad := 0, good := (s.lnk n).good + 1 } :=
  lnk_setLnk ..

@[simp] theorem goodSlot_tick (s : State) (n : Nat) : (s.goodSlot n).tick = s.tick := rfl

@[simp] theorem goodSlot_emit (s : State) (n : Nat) : (s.goodSlot n).emit = s.emit := rfl

@[simp] theorem sendQuery_rd (s : State) (n q : Nat) (F : Fld) (i : Nat) : (s.sendQuery n q).rd F i = s.rd F i := rfl

@[simp] theorem sendQuery_lnk (s : State) (n q : Nat) :
    (s.sendQuery n q).lnk n = { s.lnk n with query := (s.lnk n).query ++ [q] } :=
  lnk_setLnk ..

theorem vgrp_congr (h : t.gl = s.gl) (g : Nat) : t.vgrp g = s.vgrp g := by
  rw [State.vgrp, State.vgrp, h]

@[simp] theorem vgrp_setLnk (s : State) (n : Nat) (f : Lnk → Lnk) (g : Nat) : (s.setLnk n f).vgrp g = s.vgrp g := rfl

@[simp] theorem vgrp_goodSlot (s : State) (n g : Nat) : (s.goodSlot n).vgrp g = s.vgrp g := rfl

@[simp] theorem vgrp_quiet (s : State) (g : Nat) : s.quiet.vgrp g = s.vgrp g := rfl

/-! ### Frames that are sent -/

theorem mem_putFrame (n w : Nat) (es : List Emission) : Emission.frame n w ∈ putFrame n w es := by
  induction es with
  | nil => exact List.mem_singleton.2 rfl
  | cons e es ih =>
    cases e with
    | frame m v =>
      rw [putFrame]
      split
      · exact List.mem_cons_self
      · exact List.mem_cons_of_mem _ ih
    | _ => exact List.mem_cons_of_mem _ ih

theorem mem_putFrame_of_mem (n w : Nat) {e : Emission} {es : List Emission} (h : e ∈ es) : e ∈ putFrame n w es := by
  induction es with
  | nil => exact absurd h List.not_mem_nil
  | cons a es ih =>
    have step : e ∈ a :: putFrame n w es := by
      obtain rfl | h := List.mem_cons.1 h
      · exact List.mem_cons_self
      · exact List.mem_cons_of_mem _ (ih h)
    cases a with
    | frame m v =>
      rw [putFrame]
      split
      · exact List.mem_cons_of_mem _ h
      · exact step
    | _ => exact step

/-- The fields that the sends of SETV and SSC frames write. -/
def sendFields : List Fld :=
  [GL_STAT.VREQ, GL_STAT.SEQ, GL_STAT.OUTSTANDING, GL_CTRL.SSC_APPLY]

theorem of_mem_putFrame {n w : Nat} {e : Emission} {es : List Emission} (h : e ∈ putFrame n w es) :
    e = .frame n w ∨ e ∈ es := by
  induction es with
  | nil => exact .inl (List.mem_singleton.1 h)
  | cons a es ih =>
    have step : e ∈ a :: putFrame n w es → e = .frame n w ∨ e ∈ a :: es := fun h => by
      obtain rfl | h := List.mem_cons.1 h
      · exact .inr List.mem_cons_self
      · exact (ih h).imp id (List.mem_cons_of_mem _)
    cases a with
    | frame m v =>
      rw [putFrame] at h
      split at h
      · exact List.mem_cons.1 h
      · exact step h
    | _ => exact step h

/-- `t` comes from `s` by sends of SETV and SSC frames: frames alone are added, the runs of bad slots stand, and so does every
field apart from those of `sendFields`. -/
structure Sends (s t : State) : Prop where
  emit : ∀ e ∈ s.emit, e ∈ t.emit
  added : ∀ e ∈ t.emit, e ∈ s.emit ∨ ∃ n w, e = .frame n w
  bad : ∀ n, (t.lnk n).bad = (s.lnk n).bad
  rd : ∀ F i, sendFields.all F.off = true → t.rd F i = s.rd F i

namespace Sends

theorem refl (s : State) : Sends s s :=
  ⟨fun _ h => h, fun _ h => .inl h, fun _ => rfl, fun _ _ _ => rfl⟩

theorem wr (h : Sends s t) {G : Fld} (hG : G ∈ sendFields) (j v : Nat) : Sends s (t.wr G j v) where
  emit := by simpa using h.emit
  added := by simpa using h.added
  bad n := by rw [lnk_wr, h.bad]
  rd F i hF := (rd_wr_off (List.all_eq_true.1 hF G hG) v).trans (h.rd F i hF)

theorem setLnk (h : Sends s t) (n : Nat) {f : Lnk → Lnk} (hf : ∀ l, (f l).bad = l.bad := by intro _; rfl) : Sends s (t.setLnk n f) where
  emit := h.emit
  added := h.added
  bad m := (lnk_setLnk_part t n Lnk.bad hf m).trans (h.bad m)
  rd := h.rd

theorem setGl (h : Sends s t) {f : Gl → Gl} (hf : ∀ x, (f x).links = x.links := by intro _; rfl) : Sends s (t.setGl f) where
  emit := h.emit
  added := h.added
  bad m := by
    have e : (t.setGl f).lnk m = t.lnk m := by simp [State.lnk, hf]
    rw [e, h.bad]
  rd := h.rd

theorem setVgrp (h : Sends s t) (g : Nat) (f : VGrp → VGrp) : Sends s (t.setVgrp g f) :=
  h.setGl fun _ => rfl

theorem send (h : Sends s t) (n w : Nat) : Sends s (t.send n w) where
  emit e he := mem_putFrame_of_mem n w (h.emit e he)
  added e he := (of_mem_putFrame he).elim (fun k => .inr ⟨n, w, k⟩) (h.added e)
  bad := h.bad
  rd := h.rd

theorem ite {c : Prop} [Decidable c] (ht : Sends s t) (hu : Sends s u) : Sends s (if c then t else u) := by
  split
  · exact ht
  · exact hu

theorem foldl (h : Sends s t) {α : Type} {f : State → α → State} (hf : ∀ u x, Sends s u → Sends s (f u x)) (l : List α) :
    Sends s (l.foldl f t) :=
  foldl_keeps (Sends s) h hf

theorem setvTo (h : Sends s t) (g n : Nat) : Sends s (t.setvTo g n) := by
  unfold State.setvTo
  extract_lets v w go a b
  have ha : Sends s a := ((h.wr (by simp [sendFields]) _ _).wr (by simp [sendFields]) _ _).wr (by simp [sendFields]) _ _
  have hb : Sends s b := ha.setLnk _
  clear_value b
  exact (hb.send _ _).ite hb

theorem sendTarget (h : Sends s t) (g c sl p : Nat) : Sends s (t.sendTarget g c sl p) := by
  unfold State.sendTarget
  extract_lets a b c d e
  have he : Sends s e := h.setVgrp _ _
  clear_value e
  exact he.foldl (fun _ _ hu => hu.setvTo _ _) _

theorem requestVoltage (h : Sends s t) (g c sl p : Nat) : Sends s (t.requestVoltage g c sl p) := by
  unfold State.requestVoltage
  extract_lets ls
  exact h.ite ((h.setVgrp _ _).ite ((h.sendTarget _ _ _ _).ite ((h.setVgrp _ _).ite h)))

theorem sendHeld (h : Sends s t) (g : Nat) : Sends s (t.sendHeld g) := by
  unfold State.sendHeld
  split
  · exact h.ite ((h.setVgrp _ _).requestVoltage _ _ _ _)
  · exact h

theorem checkEnd (h : Sends s t) (g : Nat) : Sends s (t.checkEnd g) := by
  unfold State.checkEnd
  extract_lets ls met all a b
  have ha : Sends s a := h.foldl (fun _ _ hu => hu.wr (by simp [sendFields]) _ _) _
  have hb : Sends s b := ha.setVgrp _ _
  clear_value b
  exact (hb.sendHeld _).ite h

theorem sscHead (h : Sends s t) (n : Nat) : Sends s (t.sscHead n) := by
  unfold State.sscHead
  split
  · exact h
  · exact ((h.setLnk _).send _ _).ite (h.setLnk _)

theorem sscCommit (h : Sends s t) : Sends s t.sscCommit := by
  unfold State.sscCommit
  extract_lets ms a
  have ha : Sends s a := h.foldl (fun _ _ hu => (hu.setLnk _).sscHead _) _
  clear_value a
  exact ((ha.wr (by simp [sendFields]) _ _).setGl).ite h

theorem sscIfDue (h : Sends s t) (n : Nat) : Sends s (t.sscIfDue n) := by
  unfold State.sscIfDue
  exact ((h.setLnk _).sscHead _).ite h

theorem resendSetv (h : Sends s t) (n : Nat) : Sends s (t.resendSetv n) := by
  unfold State.resendSetv
  split
  · exact ((h.setLnk _).send _ _).ite (h.setLnk _)
  · exact h

theorem resendSsc (h : Sends s t) (n : Nat) : Sends s (t.resendSsc n) := by
  unfold State.resendSsc
  split
  · exact ((h.setLnk _).send _ _).ite (h.setLnk _)
  · exact h

theorem resumeLink (h : Sends s t) (n : Nat) : Sends s (t.resumeLink n) := by
  unfold State.resumeLink
  extract_lets a
  have ha : Sends s a := (h.resendSetv _).ite h
  clear_value a
  exact (ha.resendSsc _).ite ha

theorem openReturn (h : Sends s t) (g : Nat) : Sends s (t.openReturn g) := by
  unfold State.openReturn
  extract_lets v ls acc d a b
  have ha : Sends s a := h.setVgrp _ _
  have hb : Sends s b := ha.foldl (fun _ _ hu => (hu.setLnk _).ite hu) _
  clear_value b
  exact h.ite (h.ite (hb.foldl (fun _ _ hu => hu.setvTo _ _) _))

end Sends

/-! ### A link's entry into FAULT -/

theorem linkFault_LSTATE (s : State) (n : Nat) : (s.linkFault n).rd GL_STAT.LSTATE n = 4 := by
  unfold State.linkFault
  extract_lets g a b c d
  have ha : a.rd GL_STAT.LSTATE n = 4 := (rd_wrBit_off (by decide) _ _).trans ((rd_wr_same ..).trans (by decide))
  have hb : b.rd GL_STAT.LSTATE n = 4 := (rd_wr_off (by decide) _).trans ((rd_inc_off (by decide)).trans ha)
  have hc : c.rd GL_STAT.LSTATE n = 4 := hb
  clear_value c
  have hd : d.rd GL_STAT.LSTATE n = 4 := by
    unfold d
    split
    · exact hc
    · exact hc
  clear_value d
  have h := ((Sends.refl ((d.raiseLog .GL_LINK_FAULT (arg0 n 0)).traceEvent 4)).checkEnd g).sscCommit
  rw [h.rd _ _ (by decide), traceEvent_rd, rd_raiseLog_all (by decide), hd]

theorem linkFault_event (s : State) (n : Nat) : (s.linkFault n).rd GL_EVT.LINK_FAULT = 1 := by
  unfold State.linkFault
  extract_lets g a b c d
  clear_value d
  have h := ((Sends.refl ((d.raiseLog .GL_LINK_FAULT (arg0 n 0)).traceEvent 4)).checkEnd g).sscCommit
  rw [h.rd _ _ (by decide), traceEvent_rd]
  exact rd_raiseLog_st _ .GL_LINK_FAULT _ _ (by decide)

/-- A field apart from those that a link's entry into FAULT writes. -/
theorem linkFault_rd (h : ([GL_STAT.LSTATE, GL_FAULT.FAULT, GL_FAULT_CNT.FAULTS] ++ sendFields).all F.off = true)
    (he : (GL_EVT.LINK_FAULT :: logFields).all F.off = true) : (s.linkFault n).rd F i = s.rd F i := by
  obtain ⟨h1, h2⟩ := Bool.and_eq_true_iff.1 ((List.all_append ..).symm.trans h)
  simp only [List.all_cons, List.all_nil, Bool.and_true, Bool.and_eq_true] at h1
  obtain ⟨hL, hF, hC⟩ := h1
  unfold State.linkFault
  extract_lets g a b c d
  have ha : a.rd F i = s.rd F i := (rd_wrBit_off hF _ _).trans (rd_wr_off hL _)
  have hb : b.rd F i = s.rd F i :=
    (rd_wr_off (List.all_eq_true.1 h2 GL_STAT.OUTSTANDING (by simp [sendFields])) _).trans ((rd_inc_off hC).trans ha)
  have hc : c.rd F i = s.rd F i := hb
  clear_value c
  have hd : d.rd F i = s.rd F i := by
    unfold d
    split
    · exact hc
    · exact hc
  clear_value d
  have h := ((Sends.refl ((d.raiseLog .GL_LINK_FAULT (arg0 n 0)).traceEvent 4)).checkEnd g).sscCommit
  rw [h.rd _ _ h2, traceEvent_rd, rd_raiseLog_all he, hd]

theorem linkFault_emit {e : Emission} (h : e ∈ s.emit) : e ∈ (s.linkFault n).emit := by
  unfold State.linkFault
  extract_lets g a b c d
  have hc : e ∈ c.emit := by simpa [c, b, a, State.inc] using h
  clear_value c
  have hd : e ∈ d.emit := by
    unfold d
    split
    · exact hc
    · exact hc
  clear_value d
  have h := ((Sends.refl ((d.raiseLog .GL_LINK_FAULT (arg0 n 0)).traceEvent 4)).checkEnd g).sscCommit
  exact h.emit e (by simpa using hd)

/-- RETRAIN is all that the end of a training writes. -/
theorem trainEnd_rd (h : F.off GL_CTRL.RETRAIN = true) : s.trainEnd.rd F i = s.rd F i := by
  unfold State.trainEnd
  split
  · exact rd_wr_off h _
  · rfl


/-! ### Acknowledgements (R110 to R112) -/

theorem heard_spec {w ty : Nat} (h : s.heard n w ty = true) : n < 24 := by
  simp only [State.heard, Bool.and_eq_true, decide_eq_true_eq] at h
  exact h.1.1.1

/-- The link after its SETV is acknowledged. -/
def State.acknowledged (s : State) (n : Nat) : State :=
  (s.quiet.goodSlot n).setLnk n (fun l => { l with setv := none, acked := true, waits := false })

theorem acknowledged_lnk (s : State) (n : Nat) :
    ((s.acknowledged n).lnk n).setv = none ∧ ((s.acknowledged n).lnk n).acked = true := by
  simp [State.acknowledged]

theorem execAck_does {w : Nat} (h : s.heard n w 8 = true) (hk : bits 27 24 w = 1) (hv : (s.lnk n).setv.isSome = true)
    (hq : bits 23 22 w = s.rd GL_STAT.SEQ n) :
    exec (.ack n w) s = .next (if (s.lnk n).giveBack then (s.acknowledged n).setvTo (s.rd GL_CFG.RG n) n
      else (s.acknowledged n).openReturn (s.rd GL_CFG.RG n)) := by
  have hw : ((s.quiet.goodSlot n).lnk n).setv.isSome && bits 23 22 w = (s.quiet.goodSlot n).rd GL_STAT.SEQ n := by
    simp [hv, hq]
  have hb : ((s.quiet.goodSlot n).lnk n).giveBack = (s.lnk n).giveBack := by simp
  refine (congrArg Host.Outcome.next (((if_neg (not_le.2 (heard_spec h))).trans (if_pos h)).trans
    ((if_pos hk).trans (if_pos hw)))).trans ?_
  rw [hb]
  rfl

theorem openReturn_of_done (h : (s.vgrp g).rejected = false ∨ (s.vgrp g).back = true) : s.openReturn g = s := by
  unfold State.openReturn
  exact if_pos (by rcases h with h | h <;> simp [h])

theorem setvTo_lnk (s : State) (g n : Nat) :
    ((s.setvTo g n).lnk n).setv.isSome = true ∧ ((s.setvTo g n).lnk n).acked = false := by
  unfold State.setvTo
  extract_lets v w go a b
  have hb : (b.lnk n).setv.isSome = true ∧ (b.lnk n).acked = false := by simp [b]
  clear_value b
  split
  · exact hb
  · exact hb

theorem setvTo_VREQ (s : State) (g n : Nat) :
    (s.setvTo g n).rd GL_STAT.VREQ n = (s.vgrp g).target % 2 ^ GL_STAT.VREQ.width := by
  unfold State.setvTo
  extract_lets v w go a b
  have ha : a.rd GL_STAT.VREQ n = v.target % 2 ^ GL_STAT.VREQ.width :=
    (rd_wr_off (by decide) _).trans ((rd_wr_off (by decide) _).trans (rd_wr_same ..))
  have hb : b.rd GL_STAT.VREQ n = v.target % 2 ^ GL_STAT.VREQ.width := ha
  clear_value b
  split
  · exact hb
  · exact hb

/-! ### Attempts that fail -/

theorem execAckTimeout_setv {a : Await} (hn : n < 24) (hv : (s.lnk n).setv = some a) (hw : (s.lnk n).waits = false) :
    exec (.ackTimeout { link := n }) s = .next (s.quiet.attemptFailed n false) := by
  have h : s.quiet.awaits n false = true := by simp [State.awaits, hv, hw]
  exact congrArg Host.Outcome.next ((if_neg (not_le.2 hn)).trans (if_pos h))

theorem execAckTimeout_ssc (hn : n < 24) (hv : (s.lnk n).ssc ≠ []) (hw : (s.lnk n).sscWaits = false) :
    exec (.ackTimeout { link := n, ssc := true }) s = .next (s.quiet.attemptFailed n true) := by
  have h : s.quiet.awaits n true = true := by simp [State.awaits, hv, hw]
  exact congrArg Host.Outcome.next ((if_neg (not_le.2 hn)).trans (if_pos h))

theorem resendSetv_does {a : Await} (hv : (s.lnk n).setv = some a) (hup : s.up n = true)
    (hh : 0 < a.tries ∨ s.holdover = false) :
    s.resendSetv n =
      (s.setLnk n (fun l => { l with setv := some { a with tries := a.tries + 1 }, waits := false })).send n a.frame := by
  unfold State.resendSetv
  rw [hv]
  exact if_pos (by rcases hh with h | h <;> simp [hup, h])

theorem resendSsc_does {f : Nat} {q : List Nat} (hv : (s.lnk n).ssc = f :: q) (hm : s.maySend n = true) :
    s.resendSsc n = (s.setLnk n (fun l => { l with sscTries := l.sscTries + 1, sscWaits := false })).send n f := by
  unfold State.resendSsc
  rw [hv]
  exact if_pos hm

theorem attemptFailed_setv {a : Await} (hv : (s.lnk n).setv = some a) :
    s.attemptFailed n false = if 3 ≤ a.tries then (s.inc GL_ERR.NOACK n).linkFault n
      else (s.inc GL_ERR.NOACK n).resendSetv n := by
  have h : ((s.inc GL_ERR.NOACK n).lnk n).setv = some a := by simp [hv]
  unfold State.attemptFailed
  extract_lets t
  rw [h]
  rfl

theorem attemptFailed_ssc :
    s.attemptFailed n true = if 3 ≤ (s.lnk n).sscTries then (s.inc GL_ERR.NOACK n).linkFault n
      else (s.inc GL_ERR.NOACK n).resendSsc n := by
  have h : ((s.inc GL_ERR.NOACK n).lnk n).sscTries = (s.lnk n).sscTries := by simp
  unfold State.attemptFailed
  extract_lets t
  rw [← h]
  rfl

theorem up_inc_NOACK (s : State) (n : Nat) : (s.inc GL_ERR.NOACK n).up n = s.up n := by
  rw [State.up, State.up, rd_inc_off (by decide)]

theorem holdover_inc (h : RC_STAT.HOLDOVER.off F = true) : (s.inc F i).holdover = s.holdover := by
  rw [State.holdover, State.holdover, State.on, State.on, rd_inc_off h, State.inc, wr_fw]

/-- A SETV that is resent within its three attempts. -/
theorem attemptFailed_resends {a : Await} (hv : (s.lnk n).setv = some a) (ht : a.tries < 3) (hup : s.up n = true)
    (hh : 0 < a.tries ∨ s.holdover = false) :
    s.attemptFailed n false = ((s.inc GL_ERR.NOACK n).setLnk n
      (fun l => { l with setv := some { a with tries := a.tries + 1 }, waits := false })).send n a.frame := by
  rw [attemptFailed_setv hv, if_neg (not_le.2 ht)]
  refine resendSetv_does ((congrArg Lnk.setv (lnk_inc ..)).trans hv) ((up_inc_NOACK s n).trans hup) ?_
  exact hh.imp_right (holdover_inc (by decide)).trans

theorem attemptFailed_resends_ssc {f : Nat} {q : List Nat} (hv : (s.lnk n).ssc = f :: q) (ht : (s.lnk n).sscTries < 3)
    (hm : s.maySend n = true) :
    s.attemptFailed n true = ((s.inc GL_ERR.NOACK n).setLnk n
      (fun l => { l with sscTries := l.sscTries + 1, sscWaits := false })).send n f := by
  rw [attemptFailed_ssc, if_neg (not_le.2 ht)]
  refine resendSsc_does ((congrArg Lnk.ssc (lnk_inc ..)).trans hv) ?_
  rw [State.maySend, up_inc_NOACK, holdover_inc (by decide)]
  exact hm

/-! ### NAK -/

/-- A NAK of a SETV as it is counted. -/
def State.nakCounted (s : State) (n : Nat) : State :=
  (s.quiet.goodSlot n).inc GL_ERR.NAK n

theorem nakCounted_setv (s : State) (n : Nat) : ((s.nakCounted n).lnk n).setv = (s.lnk n).setv := by
  simp [State.nakCounted]

theorem nakCounted_rd (h : F.off GL_ERR.NAK = true) : (s.nakCounted n).rd F i = s.rd F i :=
  rd_inc_off h

theorem nakCounted_holdover (s : State) (n : Nat) : (s.nakCounted n).holdover = s.holdover :=
  holdover_inc (by decide)

theorem nakCounted_NAK (s : State) (n : Nat) :
    (s.nakCounted n).rd GL_ERR.NAK n = (s.rd GL_ERR.NAK n + 1) % 2 ^ GL_ERR.NAK.width :=
  rd_inc_same ..

/-- The NAK answers the SETV that awaits its acknowledgement. -/
theorem execNak_matches {w : Nat} (hk : bits 27 24 w = 1) (hv : (s.lnk n).setv.isSome = true)
    (hq : bits 23 22 w = s.rd GL_STAT.SEQ n) :
    ¬ (bits 27 24 w == 1 && !(((s.nakCounted n).lnk n).setv.isSome &&
      bits 23 22 w == (s.nakCounted n).rd GL_STAT.SEQ n)) = true := by
  have e : (s.nakCounted n).rd GL_STAT.SEQ n = s.rd GL_STAT.SEQ n := nakCounted_rd (by decide)
  simp [hk, nakCounted_setv, hv, e, hq]

theorem execNak_fails {w : Nat} (h : s.heard n w 0xC = true) (hk : bits 27 24 w = 1)
    (hv : (s.lnk n).setv.isSome = true) (hq : bits 23 22 w = s.rd GL_STAT.SEQ n) (h0 : bits 21 18 w = 0)
    (hw : (s.nakCounted n).awaits n false = true) :
    exec (.nak n w) s = .next ((s.nakCounted n).attemptFailed n false) := by
  have hb : (!(bits 27 24 w == 1)) = false := by simp [hk]
  have hw' : (s.nakCounted n).awaits n (!(bits 27 24 w == 1)) = true := by rw [hb, hw]
  refine (congrArg Host.Outcome.next (((if_neg (not_le.2 (heard_spec h))).trans (if_pos h)).trans
    ((if_neg (execNak_matches hk hv hq)).trans ((if_pos h0).trans (if_pos hw'))))).trans ?_
  exact congrArg (fun b => Host.Outcome.next ((s.nakCounted n).attemptFailed n b)) hb

theorem execNak_rejects {w : Nat} (h : s.heard n w 0xC = true) (hk : bits 27 24 w = 1)
    (hv : (s.lnk n).setv.isSome = true) (hq : bits 23 22 w = s.rd GL_STAT.SEQ n) (h0 : bits 21 18 w ≠ 0) :
    exec (.nak n w) s = .next ((s.nakCounted n).setvRejected n (bits 21 18 w)) := by
  have hb : (bits 27 24 w == 1) = true := by simp [hk]
  exact congrArg Host.Outcome.next (((if_neg (not_le.2 (heard_spec h))).trans (if_pos h)).trans
    ((if_neg (execNak_matches hk hv hq)).trans ((if_neg h0).trans (if_pos hb))))

theorem awaits_setv {a : Await} (hv : (s.lnk n).setv = some a) (hw : (s.lnk n).waits = false) :
    s.awaits n false = true := by
  simp [State.awaits, hv, hw]

/-- A rejection writes the event and what the sends write. -/
theorem setvRejected_rd {r : Nat} (h : sendFields.all F.off = true) (he : (GL_EVT.NAK :: logFields).all F.off = true) :
    (s.setvRejected n r).rd F i = s.rd F i := by
  unfold State.setvRejected
  extract_lets g a b v c
  have ha : a.rd F i = s.rd F i := rd_raiseLog_all he _ _
  have hb : b.rd F i = s.rd F i := (rd_wr_off (List.all_eq_true.1 h GL_STAT.OUTSTANDING (by simp [sendFields])) _).trans ha
  have hc : c.rd F i = s.rd F i := by
    unfold c
    split
    · exact hb
    · exact hb
  clear_value c
  rw [(((Sends.refl c).openReturn g).checkEnd g).rd F i h, hc]

theorem setvRejected_event (s : State) (n r : Nat) : (s.setvRejected n r).rd GL_EVT.NAK = 1 := by
  unfold State.setvRejected
  extract_lets g a b v c
  have ha : a.rd GL_EVT.NAK = 1 := rd_raiseLog_st _ .GL_NAK _ _ (by decide)
  have hb : b.rd GL_EVT.NAK = 1 := (rd_wr_off (by decide) _).trans ha
  have hc : c.rd GL_EVT.NAK = 1 := by
    unfold c
    split
    · exact hb
    · exact hb
  clear_value c
  rw [(((Sends.refl c).openReturn g).checkEnd g).rd _ _ (by decide), hc]

/-! ### DONE and its deadline -/

/-- The link after the DONE of its last SETV. -/
def State.confirmedBy (s : State) (n w : Nat) : State :=
  ((s.quiet.goodSlot n).wr GL_STAT.VDONE n (bits 25 15 w)).setLnk n
    (fun l => { l with done := true, lateRun := if l.late then l.lateRun else 0 })

theorem confirmedBy_bad (s : State) (n w : Nat) : ((s.confirmedBy n w).lnk n).bad = 0 := by
  simp [State.confirmedBy]

theorem confirmedBy_VDONE (s : State) (n w : Nat) : (s.confirmedBy n w).rd GL_STAT.VDONE n = bits 25 15 w :=
  (rd_wr_same ..).trans (Nat.mod_eq_of_lt (Nat.mod_lt _ (by decide)))

theorem execDone_sends {w : Nat} (h : s.heard n w 9 = true) (hq : bits 27 26 w = s.rd GL_STAT.SEQ n) :
    ∃ t, exec (.done n w) s = .next t ∧ Sends (s.confirmedBy n w) t := by
  refine ⟨_, congrArg Host.Outcome.next (((if_neg (not_le.2 (heard_spec h))).trans (if_pos h)).trans (if_pos hq)), ?_⟩
  have hr := Sends.refl (s.confirmedBy n w)
  exact (hr.checkEnd _).ite ((hr.setVgrp _ _).ite hr)

/-- The link as it is found late: counted, and asked for its target. -/
def State.foundLate (s : State) (n : Nat) : State :=
  (((s.quiet.inc GL_ERR.DONE_LATE n).raise .GL_DONE_LATE (arg0 n 0)).setLnk n
    (fun l => { l with late := true, lateRun := l.lateRun + 1, setv := none, waits := false })).sendQuery n 3

theorem foundLate_emit (s : State) (n : Nat) : Emission.frame n (queryFrame 3) ∈ (s.foundLate n).emit :=
  mem_putFrame ..

theorem foundLate_event (s : State) (n : Nat) : (s.foundLate n).rd GL_EVT.DONE_LATE = 1 := by
  rw [State.foundLate, sendQuery_rd, setLnk_rd]
  exact rd_raise_st _ .GL_DONE_LATE _ _ (by decide)

theorem foundLate_count (s : State) (n : Nat) :
    (s.foundLate n).rd GL_ERR.DONE_LATE n = (s.rd GL_ERR.DONE_LATE n + 1) % 2 ^ GL_ERR.DONE_LATE.width := by
  rw [State.foundLate, sendQuery_rd, setLnk_rd, rd_raise_all (by decide)]
  exact rd_inc_same ..

theorem execDoneDeadline_does (hn : n < 24) (ho : (s.vgrp (s.rd GL_CFG.RG n)).out = true)
    (h1 : s.rd GL_STAT.OUTSTANDING n = 1) (hd : (s.lnk n).done = false) (hl : (s.lnk n).late = false)
    (ht : (s.vgrp (s.rd GL_CFG.RG n)).deadline ≤ s.tick) :
    exec (.doneDeadline n) s = .next (if 3 ≤ ((s.foundLate n).lnk n).lateRun
      then ((s.foundLate n).linkFault n).setLnk n (fun l => { l with query := [3] })
      else (s.foundLate n).checkEnd (s.rd GL_CFG.RG n)) := by
  have h : ((s.vgrp (s.rd GL_CFG.RG n)).out && s.on GL_STAT.OUTSTANDING n && !(s.lnk n).done && !(s.lnk n).late &&
      decide ((s.vgrp (s.rd GL_CFG.RG n)).deadline ≤ s.tick)) = true := by
    simp [ho, hd, hl, ht, on_of_one h1]
  exact congrArg Host.Outcome.next ((if_neg (not_le.2 hn)).trans (if_pos h))

end Sys2Proof.Machine

namespace Sys2Proof
open Sys2Proof.Machine

/-- Settles O24, clause by clause: the branch of each acknowledgement, and what the sends that follow leave of it. -/
theorem voltageAcknowledgements : Obligations.VoltageAcknowledgements := by
  unfold Obligations.VoltageAcknowledgements
  refine ⟨?_, ?_, ?_, ?_, ?_, ?_, ?_, ?_, ?_, ?_⟩
  · intro n w s _ h hk hv hq hb hr
    refine ⟨_, execAck_does h hk hv hq, ?_⟩
    rw [hb, if_neg Bool.false_ne_true, openReturn_of_done (s := s.acknowledged n) hr]
    exact acknowledged_lnk s n
  · intro n w s _ h hk hv hq hb
    refine ⟨_, execAck_does h hk hv hq, ?_⟩
    rw [hb, if_pos rfl]
    exact ⟨(setvTo_lnk ..).1, (setvTo_lnk ..).2, setvTo_VREQ ..⟩
  · intro n a s hn hv hw ht hup hh
    refine ⟨_, execAckTimeout_setv hn hv hw, ?_⟩
    rw [attemptFailed_resends (s := s.quiet) hv ht hup hh]
    refine ⟨?_, rfl, rd_inc_same ..⟩
    rw [lnk_send, lnk_setLnk]
  · intro n f q s hn hv hw ht hm
    refine ⟨_, execAckTimeout_ssc hn (by simp [hv]) hw, ?_⟩
    rw [attemptFailed_resends_ssc (s := s.quiet) hv ht hm]
    refine ⟨?_, ?_, rfl, rd_inc_same ..⟩
    · rw [lnk_send, lnk_setLnk]
      exact (congrArg Lnk.ssc (lnk_inc ..)).trans hv
    · rw [lnk_send, lnk_setLnk]
      exact congrArg (Lnk.sscTries · + 1) (lnk_inc ..)
  · intro n a s hn hv hw ht
    refine ⟨_, execAckTimeout_setv hn hv hw, ?_⟩
    rw [attemptFailed_setv (s := s.quiet) hv, if_pos ht]
    exact ⟨linkFault_LSTATE .., linkFault_event ..⟩
  · intro n s hn hv hw ht
    refine ⟨_, execAckTimeout_ssc hn hv hw, ?_⟩
    rw [attemptFailed_ssc, if_pos (by exact ht)]
    exact ⟨linkFault_LSTATE .., linkFault_event ..⟩
  · intro n w a s _ h hk h0 hq hv hw ht hup hh
    have hc : ((s.nakCounted n).lnk n).setv = some a := (nakCounted_setv s n).trans hv
    have ha : (s.nakCounted n).awaits n false = true := awaits_setv hc (by simpa [State.nakCounted] using hw)
    refine ⟨_, execNak_fails h hk (by simp [hv]) hq h0 ha, ?_⟩
    rw [attemptFailed_resends hc ht (by rw [State.up, nakCounted_rd (by decide)]; exact hup) (hh.imp_right (nakCounted_holdover s n).trans)]
    refine ⟨?_, ?_, ?_⟩
    · rw [lnk_send, lnk_setLnk]
    · rw [send_rd, setLnk_rd, rd_inc_off (by decide), nakCounted_NAK]
    · rw [send_rd, setLnk_rd, rd_inc_same, nakCounted_rd (by decide)]
  · intro n w s _ h hk h0 hq hv
    refine ⟨_, execNak_rejects h hk hv hq h0, ?_⟩
    refine ⟨setvRejected_event .., ?_, ?_⟩
    · rw [setvRejected_rd (by decide) (by decide), nakCounted_NAK]
    · rw [setvRejected_rd (by decide) (by decide), nakCounted_rd (by decide)]
  · intro n w s _ h hq
    obtain ⟨t, ht, hs⟩ := execDone_sends h hq
    refine ⟨t, ht, ?_, ?_⟩
    · rw [hs.rd _ _ (by decide), confirmedBy_VDONE]
    · rw [hs.bad, confirmedBy_bad]
  · intro n s hn ho h1 hd hl ht
    refine ⟨_, execDoneDeadline_does hn ho h1 hd hl ht, ?_⟩
    split
    · refine ⟨?_, ?_, ?_⟩
      · rw [setLnk_rd, linkFault_rd (by decide) (by decide), foundLate_event]
      · rw [setLnk_emit]
        exact linkFault_emit (foundLate_emit s n)
      · rw [setLnk_rd, linkFault_rd (by decide) (by decide), foundLate_count]
    · have hs := (Sends.refl (s.foundLate n)).checkEnd (s.rd GL_CFG.RG n)
      refine ⟨?_, hs.emit _ (foundLate_emit s n), ?_⟩
      · rw [hs.rd _ _ (by decide), foundLate_event]
      · rw [hs.rd _ _ (by decide), foundLate_count]

end Sys2Proof
end

section
/-! PROOF. The Gleub link's telemetry, warnings and alert (R117, R121 to R124) and its states (R102, R114). -/

namespace Sys2Proof.Machine

variable {s : State} {n w : Nat} {F : Fld} {i : Nat}

/-! ### Telemetry and warnings -/

theorem execTelem_current {late : Bool} (h : s.heard n w 0xA = true) (hs : bits 27 25 w = 0) :
    exec (.telem n w late) s = .next (
      let t := (s.quiet.goodSlot n).wr GL_TEL0.I_SUM n (min (bits 24 8 w) 0xFFFF)
      let missed := decide (4 ≤ (t.lnk n).iAge)
      let t := t.setLnk n (fun l => { l with heardI := true, stale := late || missed, iAge := 0 })
      if late && !missed then (t.inc GL_ERR.RXERR n).raise .GL_RXERR (arg0 n 0) else t) := by
  refine (congrArg Host.Outcome.next ((if_neg (not_le.2 (heard_spec h))).trans (if_pos h))).trans ?_
  rw [hs]
  rfl

theorem execTelem_temp {late : Bool} (h : s.heard n w 0xA = true) (hs : bits 27 25 w = 1) :
    exec (.telem n w late) s = .next ((s.quiet.goodSlot n).wr GL_TEL0.TEMP n (bits 23 8 w)) := by
  refine (congrArg Host.Outcome.next ((if_neg (not_le.2 (heard_spec h))).trans (if_pos h))).trans ?_
  rw [hs]
  rfl

theorem execTelem_vin {late : Bool} (h : s.heard n w 0xA = true) (hs : bits 27 25 w = 2) :
    exec (.telem n w late) s = .next ((s.quiet.goodSlot n).wr GL_TEL1.VIN n (bits 24 8 w)) := by
  refine (congrArg Host.Outcome.next ((if_neg (not_le.2 (heard_spec h))).trans (if_pos h))).trans ?_
  rw [hs]
  rfl

/-- The link's warning as it is raised. -/
def State.warned (s : State) (n w : Nat) : State :=
  let s := (((s.quiet.goodSlot n).wr GL_STAT.WARN n 1).wrBit GL_WARN.WARN 0 n true).inc GL_FAULT_CNT.WARNS n
  let s := s.setLnk n (fun l => { l with warnT := some (toSigned 16 (bits 23 8 w)) })
  (s.wr GL_TEL0.TEMP n (bits 23 8 w)).raise .GL_WARN (arg0 n 0)

theorem warned_rd (s : State) (n w : Nat) : (s.warned n w).rd GL_STAT.WARN n = 1 ∧ (s.warned n w).rd GL_EVT.WARN = 1 ∧
    (s.warned n w).rd GL_TEL0.TEMP n = bits 23 8 w := by
  unfold State.warned
  extract_lets a b
  have ha : a.rd GL_STAT.WARN n = 1 :=
    (rd_inc_off (by decide)).trans ((rd_wrBit_off (by decide) _ _).trans ((rd_wr_same ..).trans (by decide)))
  have hb : b.rd GL_STAT.WARN n = 1 := ha
  clear_value b
  refine ⟨?_, rd_raise_st _ .GL_WARN _ _ (by decide), ?_⟩
  · rw [rd_raise_all (by decide), rd_wr_off (by decide), hb]
  · rw [rd_raise_all (by decide), rd_wr_same]
    exact Nat.mod_eq_of_lt (Nat.mod_lt _ (by decide))

@[simp] theorem setVrw_rd (s : State) (g : Nat) (v : Option Vrw) (F : Fld) (i : Nat) :
    (s.setVrw g v).rd F i = s.rd F i := rfl

/-- A warning raised: the group's step of R206 writes no field but its event. -/
theorem execWarn_raises (h : s.heard n w 0xB = true) (hs : bits 27 26 w = 1) :
    ∃ t, exec (.warn n w) s = .next t ∧
      ∀ F i, (TH_EVT.VRWARN_ACT :: logFields).all F.off = true → t.rd F i = (s.warned n w).rd F i := by
  refine ⟨_, congrArg Host.Outcome.next (((if_neg (not_le.2 (heard_spec h))).trans (if_pos h)).trans (if_pos hs)), ?_⟩
  intro F i hF
  dsimp only
  split
  · exact rd_raise_all hF _ _
  · split
    · rfl
    · rfl

theorem execWarn_clears (h : s.heard n w 0xB = true) (hs : bits 27 26 w = 0) :
    Answers (.warn n w) s (fun t => t.rd GL_STAT.WARN n = 0) := by
  have h1 : bits 27 26 w ≠ 1 := by simp [hs]
  refine ⟨_, congrArg Host.Outcome.next (((if_neg (not_le.2 (heard_spec h))).trans (if_pos h)).trans
    ((if_neg h1).trans (if_pos hs))), ?_⟩
  have hr : ((s.quiet.goodSlot n).wr GL_STAT.WARN n 0).rd GL_STAT.WARN n = 0 := (rd_wr_same ..).trans (Nat.zero_mod _)
  have hw : (((s.quiet.goodSlot n).wr GL_STAT.WARN n 0).wrBit GL_WARN.WARN 0 n false).rd GL_STAT.WARN n = 0 :=
    (rd_wrBit_off (by decide) _ _).trans hr
  dsimp only
  split
  · split
    · exact hw
    · exact hw
  · exact hw

/-- A bad frame is counted. -/
theorem execReceiveError_bad (hn : n < 24) (hp : s.rd GL_CFG.PRESENT n = 1) (hb : frameGood w = false) :
    exec (.receiveError n w) s = .next (((s.quiet.inc GL_ERR.RXERR n).raise .GL_RXERR (arg0 n 0)).setLnk n
      (fun l => { l with bad := l.bad + 1, good := 0 })) := by
  have h1 : ¬ (!s.quiet.on GL_CFG.PRESENT n || decide (24 ≤ n)) = true := by
    simp [State.on, hp, hn]
  have h2 : (!frameGood w) = true := by simp [hb]
  have h3 : (!frameGood w || !(([0, 8, 9, 0xA, 0xB, 0xC] : List Nat).contains (frameType w))) = true := by simp [hb]
  exact congrArg Host.Outcome.next ((if_neg h1).trans ((if_pos h3).trans (if_pos h2)))

/-! ### The alert -/

theorem execAlertSourceTimeout_does (ha : s.gl.alert.active = true) (hs : s.gl.alert.sources = [])
    (hu : s.gl.alert.unknown = false) (ht : s.gl.alert.asked + 10 ≤ s.tick) (hr : s.spk.respond = false) :
    exec .alertSourceTimeout s = .next ((s.quiet.setGl
      (fun x => { x with alert := { x.alert with unknown := true } })).raise .GL_ALERT_UNKNOWN) := by
  have h : (s.gl.alert.active && s.gl.alert.sources.isEmpty && !s.gl.alert.unknown && s.past s.gl.alert.asked 10 &&
      !s.spk.respond) = true := by
    simp [ha, hs, hu, hr, State.past, ht]
  exact congrArg Host.Outcome.next (if_pos h)

theorem execAlertHoldExpiry_does {r : Nat} (hr : s.gl.alert.released = some r) (ha : s.gl.alert.active = true)
    (ht : r + 1000 * s.inf GL_CTRL.ALERT_HOLD ≤ s.tick) (hb : s.rd SPK_STAT.BRK_DIV ≠ 3) :
    exec .alertHoldExpiry s = .next (s.quiet.setGl (fun x => { x with
      alert := { x.alert with active := false, sources := [], unknown := false, released := none } })) := by
  have h : (s.gl.alert.active && s.past r (1000 * s.inf GL_CTRL.ALERT_HOLD) && !s.braked) = true := by
    simp [ha, State.past, ht, State.braked, hb]
  change execAlertHoldExpiry s = _
  unfold execAlertHoldExpiry
  extract_lets q
  have hq : q.gl.alert.released = some r := hr
  rw [hq]
  exact congrArg Host.Outcome.next (if_pos h)

theorem alertOn_of_inactive (h : s.gl.alert.active = false) (k : Nat) : s.alertOn k = false := by
  unfold State.alertOn
  simp [h]

/-! ### Link states -/

theorem execTrainDone_runs {pass : List Bool} (hn : n < 24) (h1 : s.rd GL_STAT.LSTATE n = 1)
    (ht : (s.lnk n).training = true) :
    exec (.trainDone n pass) s = .next (
      let r := longestRun (pass.take 16) 0 (0, 0) (0, 0)
      let u := s.quiet.setLnk n (fun l => { l with training := false })
      if r.2 < 4 then (u.linkFault n).trainEnd else (u.wr GL_CFG.SMP_PH n (r.1 + (r.2 - 1) / 2)).sendQuery n 0) := by
  have h : (s.rd GL_STAT.LSTATE n == 1 && (s.lnk n).training) = true := by simp [h1, ht]
  exact congrArg Host.Outcome.next ((if_neg (not_le.2 hn)).trans (if_pos h))

/-- A link in FAULT whose training ends. -/
theorem trainEnd_linkFault (s : State) (n : Nat) :
    (s.linkFault n).trainEnd.rd GL_STAT.LSTATE n = 4 ∧ (s.linkFault n).trainEnd.rd GL_EVT.LINK_FAULT = 1 := by
  rw [trainEnd_rd (by decide), trainEnd_rd (by decide)]
  exact ⟨linkFault_LSTATE .., linkFault_event ..⟩

theorem execQueryTimeout_does (hn : n < 24) (h1 : s.rd GL_STAT.LSTATE n = 1) (hq : (s.lnk n).query ≠ []) :
    exec (.queryTimeout n) s = .next (s.quiet.linkFault n).trainEnd := by
  have h : (s.rd GL_STAT.LSTATE n == 1 && !(s.lnk n).query.isEmpty) = true := by simp [h1, hq]
  exact congrArg Host.Outcome.next ((if_neg (not_le.2 hn)).trans (if_pos h))

theorem execLinkSuspect_does (hn : n < 24) (h2 : s.rd GL_STAT.LSTATE n = 2) (hb : 2 ≤ (s.lnk n).bad) :
    exec (.linkSuspect n) s = .next ((s.quiet.wr GL_STAT.LSTATE n 3).setLnk n
      (fun l => { l with bad := 0, good := 0 })) := by
  have h : (s.up n && decide (2 ≤ (s.lnk n).bad)) = true := by simp [State.up, h2, hb]
  exact congrArg Host.Outcome.next ((if_neg (not_le.2 hn)).trans (if_pos h))

/-- The link as it enters UP from SUSPECT. -/
def State.recovered (s : State) (n : Nat) : State :=
  (s.quiet.wr GL_STAT.LSTATE n 2).setLnk n (fun l => { l with bad := 0 })

theorem execLinkRecover_sends (hn : n < 24) (h3 : s.rd GL_STAT.LSTATE n = 3) (hg : 8 ≤ (s.lnk n).good) :
    ∃ t, exec (.linkRecover n) s = .next t ∧ Sends (s.recovered n) t := by
  have h : (s.rd GL_STAT.LSTATE n == 3 && decide (8 ≤ (s.lnk n).good)) = true := by simp [h3, hg]
  exact ⟨_, congrArg Host.Outcome.next ((if_neg (not_le.2 hn)).trans (if_pos h)),
    ((((Sends.refl (s.recovered n)).resumeLink n).sscIfDue n).sscCommit).sendHeld _⟩

theorem execLinkFault_does (hn : n < 24) (h3 : s.rd GL_STAT.LSTATE n = 3) (hb : 8 ≤ (s.lnk n).bad) :
    exec (.linkFault n) s = .next (s.quiet.linkFault n) := by
  have h : (s.rd GL_STAT.LSTATE n == 3 && decide (8 ≤ (s.lnk n).bad)) = true := by simp [h3, hb]
  exact congrArg Host.Outcome.next ((if_neg (not_le.2 hn)).trans (if_pos h))

theorem execFaultRetrain_does (hn : n < 24) (h4 : s.rd GL_STAT.LSTATE n = 4)
    (ht : (s.lnk n).faultAt + 100000 ≤ s.tick) : exec (.faultRetrain n) s = .next (s.quiet.enterTrain n) := by
  have h : (s.rd GL_STAT.LSTATE n == 4 && s.past (s.lnk n).faultAt 100000) = true := by simp [h4, State.past, ht]
  exact congrArg Host.Outcome.next ((if_neg (not_le.2 hn)).trans (if_pos h))

theorem enterTrain_trains (s : State) (n : Nat) :
    (s.enterTrain n).rd GL_STAT.LSTATE n = 1 ∧ ((s.enterTrain n).lnk n).training = true := by
  unfold State.enterTrain
  extract_lets a
  have ha : a.rd GL_STAT.LSTATE n = 1 := (rd_wrBit_off (by decide) _ _).trans ((rd_wr_same ..).trans (by decide))
  clear_value a
  refine ⟨ha, ?_⟩
  rw [lnk_send, lnk_setLnk]

end Sys2Proof.Machine

namespace Sys2Proof
open Sys2Proof.Machine

/-- Settles O25, clause by clause: what each telemetry frame, warning and alert time-out stores. -/
theorem telemetryAndAlert : Obligations.TelemetryAndAlert := by
  unfold Obligations.TelemetryAndAlert
  refine ⟨?_, ?_, ?_, ?_, ?_, ?_, ?_⟩
  · intro n w late s _ h hs
    refine ⟨_, execTelem_current h hs, ?_⟩
    extract_lets t missed u
    have hi : (t.lnk n).iAge = (s.lnk n).iAge := by simp [t]
    have hu : u.rd GL_TEL0.I_SUM n = min (bits 24 8 w) 0xFFFF ∧ ((u.lnk n).stale = true ↔ late = true ∨ 4 ≤ (s.lnk n).iAge) := by
      constructor
      · exact (rd_wr_same ..).trans (Nat.mod_eq_of_lt (Nat.lt_of_le_of_lt (Nat.min_le_right _ _) (by decide)))
      · simp [u, missed, hi]
    clear_value u
    split
    · beta_reduce
      rwa [rd_raise_all (by decide), rd_inc_off (by decide), lnk_raise, lnk_inc]
    · exact hu
  · intro n w late s _ h hs
    refine ⟨_, execTelem_temp h hs, (rd_wr_same ..).trans ?_⟩
    exact Nat.mod_eq_of_lt (Nat.mod_lt _ (by decide))
  · intro n w late s _ h hs
    exact ⟨_, execTelem_vin h hs, rd_wr_same ..⟩
  · intro s ha hs hu ht hr
    refine ⟨_, execAlertSourceTimeout_does ha hs hu ht hr, ?_, rd_raise_st _ .GL_ALERT_UNKNOWN _ _ (by decide)⟩
    rw [raise_gl]
    rfl
  · intro r s hr ha ht hb
    exact ⟨_, execAlertHoldExpiry_does hr ha ht hb, rfl, fun k => alertOn_of_inactive rfl k⟩
  · intro n w s _ h
    refine ⟨fun hs => ?_, execWarn_clears h⟩
    obtain ⟨t, ht, hf⟩ := execWarn_raises h hs
    refine ⟨t, ht, ?_⟩
    beta_reduce
    rw [hf _ _ (by decide), hf _ _ (by decide), hf _ _ (by decide)]
    exact warned_rd s n w
  · intro n w s hn hp hb
    refine ⟨_, execReceiveError_bad hn hp hb, ?_, ?_, ?_⟩
    · simp
    · exact rd_raise_st _ .GL_RXERR _ _ (by decide)
    · exact (rd_raise_all (by decide) _ _).trans (rd_inc_same ..)

/-- Settles O26, clause by clause: each command of the link's states in the branch that the state names; the sends that an
entry into UP or FAULT starts leave LSTATE alone. -/
theorem linkStates : Obligations.LinkStates := by
  unfold Obligations.LinkStates
  refine ⟨?_, ?_, ?_, ?_, ?_, ?_, ?_⟩
  · intro n pass s hn h1 ht hr
    refine ⟨_, execTrainDone_runs hn h1 ht, ?_⟩
    extract_lets r u
    rw [if_neg (not_lt.2 hr)]
    have hu : u.rd GL_STAT.LSTATE n = 1 ∧ (u.lnk n).training = false := ⟨h1, by simp [u]⟩
    clear_value u
    refine ⟨?_, ?_, ?_⟩
    · rw [sendQuery_lnk, lnk_wr, hu.2]
    · rw [sendQuery_rd, rd_wr_off (by decide), hu.1]
    · rw [sendQuery_rd, rd_wr_same]
  · intro n pass s hn h1 ht hr
    refine ⟨_, execTrainDone_runs hn h1 ht, ?_⟩
    extract_lets r u
    rw [if_pos hr]
    exact trainEnd_linkFault u n
  · intro n s hn h1 hq
    exact ⟨_, execQueryTimeout_does hn h1 hq, trainEnd_linkFault ..⟩
  · intro n s hn h2 hb
    refine ⟨_, execLinkSuspect_does hn h2 hb, ?_, ?_⟩
    · rw [setLnk_rd, rd_wr_same]
      rfl
    · rw [lnk_setLnk]
  · intro n s hn h3 hg
    obtain ⟨t, ht, hs⟩ := execLinkRecover_sends hn h3 hg
    refine ⟨t, ht, ?_, ?_⟩
    · rw [hs.rd _ _ (by decide)]
      rw [State.recovered, setLnk_rd, rd_wr_same]
      rfl
    · rw [hs.bad, State.recovered, lnk_setLnk]
  · intro n s hn h3 hb
    exact ⟨_, execLinkFault_does hn h3 hb, linkFault_LSTATE .., linkFault_event ..⟩
  · intro n s hn h4 ht
    exact ⟨_, execFaultRetrain_does hn h4 ht, enterTrain_trains ..⟩

end Sys2Proof
end

section
/-! PROOF. Temperature channels (R192 to R207): what a conversion stores, the drift check channel by channel, the forced offs
of the stop action, and the steps of a regulator warning. -/

namespace Sys2Proof.Machine

variable {s t u : State} {n m : Nat} {F G : Fld} {i j : Nat}

/-! ### A unit beside the one that is written -/

/-- The instances of `F` beside instance `j` lie apart from instance `j` of `G`: the fields are apart, or they are one. -/
def Fld.beside (F G : Fld) : Bool :=
  F.off G || (F.base == G.base && F.stride == G.stride && decide (0 < F.stride))

theorem Fld.key_ne_of_beside (h : F.beside G = true) (hij : i ≠ j) : F.key i ≠ G.key j := by
  simp only [Fld.beside, Bool.or_eq_true, Bool.and_eq_true, beq_iff_eq, decide_eq_true_eq] at h
  obtain h | ⟨⟨hb, hs⟩, hp⟩ := h
  · exact F.key_ne_of_off h i j
  · intro e
    rw [Fld.key, Fld.key, hb, ← hs] at e
    exact hij (Nat.eq_of_mul_eq_mul_left hp (Nat.add_left_cancel e))

theorem rd_wr_beside (h : F.beside G = true) (hij : i ≠ j) (v : Nat) : (s.wr G j v).rd F i = s.rd F i :=
  rd_wr_ne _ _ _ _ _ _ (Fld.key_ne_of_beside h hij)

/-- A fold over a list that holds `x` once: the turn of `x` brings `P` where `I` holds; the other turns keep both. -/
theorem foldl_meets_once {α β : Type} {I P : α → Prop} {f : α → β → α} {x : β} (hI : ∀ a y, y ≠ x → I a → I (f a y))
    (hx : ∀ a, I a → P (f a x)) (hP : ∀ a y, y ≠ x → P a → P (f a y)) {l : List β} (hd : l.Nodup) (hl : x ∈ l) {a : α}
    (ha : I a) : P (l.foldl f a) := by
  induction l generalizing a with
  | nil => exact absurd hl List.not_mem_nil
  | cons y l ih =>
    obtain ⟨hy, hd⟩ := List.nodup_cons.1 hd
    obtain rfl | hl := List.mem_cons.1 hl
    · exact List.foldlRecOn l f (hx a ha) fun b hb z hz => hP b z (fun e => hy (e ▸ hz)) hb
    · exact ih hd hl (hI a y (fun e => hy (e ▸ hl)) ha)

/-! ### The record of a channel -/

@[simp] theorem chan_setChan (s : State) (n : Nat) (f : Chan → Chan) : (s.setChan n f).chan n = f (s.chan n) :=
  Table.get_upd_same ..

theorem chan_setChan_ne (s : State) (f : Chan → Chan) (h : n ≠ m) : (s.setChan n f).chan m = s.chan m :=
  Table.get_upd_ne _ _ _ h

theorem chan_congr (h : t.th = s.th) (n : Nat) : t.chan n = s.chan n := by
  rw [State.chan, State.chan, h]

@[simp] theorem chan_wr (s : State) (F : Fld) (i v n : Nat) : (s.wr F i v).chan n = s.chan n :=
  chan_congr (wr_th ..) n

/-! ### Conversions -/

/-- After a conversion of channel `n`: its stored value, its series resistance, and the channels served last. -/
structure Converted (n v r a b : Nat) (t : State) : Prop where
  value : t.rd TH_VAL.VALUE n = v
  rs : t.rd TH_CHSTAT.RS n = r
  diode : t.th.diodeAt = a
  therm : t.th.thermAt = b

namespace Converted

variable {v r a b : Nat}

theorem wr (h : Converted n v r a b t) {G : Fld} (hG : [TH_VAL.VALUE, TH_CHSTAT.RS].all (·.off G) = true) (j x : Nat) :
    Converted n v r a b (t.wr G j x) where
  value := (rd_wr_off (List.all_eq_true.1 hG _ (by simp)) x).trans h.value
  rs := (rd_wr_off (List.all_eq_true.1 hG _ (by simp)) x).trans h.rs
  diode := (congrArg Th.diodeAt (wr_th ..)).trans h.diode
  therm := (congrArg Th.thermAt (wr_th ..)).trans h.therm

theorem raise (h : Converted n v r a b t) {e : Evt} (he : [TH_VAL.VALUE, TH_CHSTAT.RS].all
    (fun F => (e.st :: logFields).all F.off) = true) (x y : Nat) : Converted n v r a b (t.raise e x y) where
  value := (rd_raise_all (List.all_eq_true.1 he _ (by simp)) x y).trans h.value
  rs := (rd_raise_all (List.all_eq_true.1 he _ (by simp)) x y).trans h.rs
  diode := (congrArg Th.diodeAt (raise_th ..)).trans h.diode
  therm := (congrArg Th.thermAt (raise_th ..)).trans h.therm

theorem raiseLog (h : Converted n v r a b t) {e : Evt} (he : [TH_VAL.VALUE, TH_CHSTAT.RS].all
    (fun F => (e.st :: logFields).all F.off) = true) (x y : Nat) : Converted n v r a b (t.raiseLog e x y) where
  value := (rd_raiseLog_all (List.all_eq_true.1 he _ (by simp)) x y).trans h.value
  rs := (rd_raiseLog_all (List.all_eq_true.1 he _ (by simp)) x y).trans h.rs
  diode := (congrArg Th.diodeAt (raiseLog_th ..)).trans h.diode
  therm := (congrArg Th.thermAt (raiseLog_th ..)).trans h.therm

theorem setChan (h : Converted n v r a b t) (m : Nat) (f : Chan → Chan) : Converted n v r a b (t.setChan m f) :=
  ⟨h.value, h.rs, h.diode, h.therm⟩

theorem ite {c : Prop} [Decidable c] (ht : Converted n v r a b t) (hu : Converted n v r a b u) :
    Converted n v r a b (if c then t else u) := by
  split
  · exact ht
  · exact hu

theorem revalidate (h : Converted n v r a b t) (m : Nat) : Converted n v r a b (t.revalidate m) := by
  unfold State.revalidate
  exact ((h.wr (by decide) _ _).setChan _ _).ite h

theorem zones (h : Converted n v r a b t) (m : Nat) : Converted n v r a b (t.zones m) := by
  unfold State.zones
  refine h.ite ?_
  extract_lets x y w0 w1 w2 w4
  split
  extract_lets z0 z1 z2 z3 z4 c d e f g k
  have hc : Converted n v r a b c := ((h.wr (by decide) _ _).wr (by decide) _ _).wr (by decide) _ _
  have hd : Converted n v r a b d := (hc.wr (by decide) _ _).wr (by decide) _ _
  have he : Converted n v r a b e := (hd.raiseLog (by decide) _ _).ite hd
  have hf : Converted n v r a b f := (he.raise (by decide) _ _).ite he
  have hg : Converted n v r a b g := (hf.raiseLog (by decide) _ _).ite hf
  have hk : Converted n v r a b k := (hg.wr (by decide) _ _).setChan _ _
  exact (hk.raiseLog (by decide) _ _).ite hg

theorem cancelInhibited (h : Converted n v r a b t) : Converted n v r a b t.cancelInhibited := by
  have hk : Kept (.guard t [.th] [TH_VAL.VALUE, TH_CHSTAT.RS]) t.cancelInhibited :=
    kept_cancelInhibited (kept_guard t _ _) rfl rfl (logs_guard rfl rfl rfl) rfl rfl rfl
  have hth : t.cancelInhibited.th = t.th := hk.spared .th rfl
  exact ⟨(hk.guarded (by simp) n).trans h.value, (hk.guarded (by simp) n).trans h.rs, by rw [hth, h.diode],
    by rw [hth, h.therm]⟩

theorem thermalStatus (h : Converted n v r a b t) : Converted n v r a b t.thermalStatus := by
  unfold State.thermalStatus
  extract_lets ons noRef cold inh c d e x ok f
  have hc : Converted n v r a b c := (h.wr (by decide) _ _).wr (by decide) _ _
  have hd : Converted n v r a b d := hc.wr (by decide) _ _
  have he : Converted n v r a b e := hd.wr (by decide) _ _
  have hf : Converted n v r a b f :=
    ((he.wr (by decide) _ _).raise (by decide) _ _).ite ((he.wr (by decide) _ _).ite he)
  clear_value f
  exact hf.cancelInhibited

end Converted

/-- A conversion that finds the channel neither open nor short. -/
theorem conversion_good (s : State) (n : Nat) (raw : Int) :
    Converted n (valueAfter s n raw) (s.rd TH_CHSTAT.RS n) s.th.diodeAt s.th.thermAt (s.conversion n false false raw) := by
  unfold State.conversion
  extract_lets bad c l raws opens shorts clean u v w x y
  have hv : Converted n (valueAfter s n raw) (s.rd TH_CHSTAT.RS n) s.th.diodeAt s.th.thermAt v :=
    have e : v = u.wr TH_VAL.VALUE n (ofSigned TH_VAL.VALUE.width (meanRaw raws)) := rfl
    e ▸ ⟨rd_wr_same .., rd_wr_off (by decide) _, by rw [wr_th]; rfl, by rw [wr_th]; rfl⟩
  have h0 : opens = 0 := rfl
  have h1 : shorts = 0 := rfl
  have hw : w = v := if_neg (by simp [h0])
  have hx : x = w := if_neg (by simp [h1])
  have hy : Converted n (valueAfter s n raw) (s.rd TH_CHSTAT.RS n) s.th.diodeAt s.th.thermAt y := by
    unfold y
    rw [hx, hw]
    exact ((hv.wr (by decide) _ _).wr (by decide) _ _).ite hv
  clear_value y
  exact ((hy.revalidate n).zones n).thermalStatus

/-- A reading with the path's gain and offset stands where the gain is 1 and the offset 0. -/
theorem calibrated_eq {c : Chan} (hc : c.corr = 0) (hz : c.zero = 0) (v : Int) : c.calibrated v = v := by
  rw [Chan.calibrated, Chan.scaled, hc, hz]
  omega

theorem execDiodeConversion_good {d : DiodeIn} (hn : s.nextChannel diodeOrder s.th.diodeAt = some n)
    (hh : (s.chan n).calibrated d.vbeHi ≤ 950) (hl : 150 ≤ (s.chan n).calibrated d.vbeLo) :
    exec (.diodeConversion n d) s = .next (((s.quiet.setTh (fun t => { t with diodeAt := n })).wr TH_CHSTAT.RS n
      (diodeRs ((s.chan n).scaled d.dv1) ((s.chan n).scaled d.dv2))).conversion n false false
      (diodeRaw ((s.chan n).scaled d.dv1) ((s.chan n).scaled d.dv2) (s.inf TH_CAL.IDEAL n) + s.infS TH_CAL.OFFSET n)) := by
  have h : (s.quiet.nextChannel diodeOrder s.quiet.th.diodeAt == some n) = true := beq_iff_eq.2 hn
  refine (congrArg Host.Outcome.next (if_pos h)).trans ?_
  have e1 : decide (950 < (s.quiet.chan n).calibrated d.vbeHi) = false := decide_eq_false (not_lt.2 hh)
  have e2 : decide ((s.quiet.chan n).calibrated d.vbeLo < 150) = false := decide_eq_false (not_lt.2 hl)
  dsimp only
  rw [e1, e2]
  rfl

theorem satN_of_le {hi r : Nat} (h : r ≤ hi) : satN 0 hi r = r := by
  unfold satN clampI
  omega

theorem execThermistorConversion_good {q r : Nat} (hn : s.nextChannel thermOrder s.th.thermAt = some n)
    (hq : (s.chan n).calibrated q = r) (hl : 536 < r) (hh : r < 65000) :
    exec (.thermistorConversion n q) s = .next ((s.quiet.setTh (fun t => { t with thermAt := n })).conversion n false false
      (interpolate (Table.get [] s.th.tables n) r + s.infS TH_CAL.OFFSET n)) := by
  have h : (s.quiet.nextChannel thermOrder s.quiet.th.thermAt == some n) = true := beq_iff_eq.2 hn
  refine (congrArg Host.Outcome.next (if_pos h)).trans ?_
  have e : satN 0 65535 ((s.quiet.chan n).calibrated q) = r := (congrArg (satN 0 65535) hq).trans (satN_of_le (by omega))
  have e1 : decide (65000 ≤ r) = false := decide_eq_false (not_le.2 hh)
  have e2 : decide (r ≤ 536) = false := decide_eq_false (not_le.2 hl)
  dsimp only
  rw [e, e1, e2]
  rfl

/-! ### The drift check -/

/-- What the drift check of channel `n` reads. -/
def driftFields : List Fld :=
  [TH_CHSTAT.CALIB, TH_VAL.VALUE, TH_VAL.EST, TH_CHSTAT.DRIFT, TH_CHSTAT.VALID]

/-- Channel `n` has in `t` what the drift check of `s` reads of it. -/
structure SameDrift (n : Nat) (s t : State) : Prop where
  chan : t.chan n = s.chan n
  inForce : t.inForce = s.inForce
  mapped : t.mapped n = s.mapped n
  rd : ∀ F ∈ driftFields, t.rd F n = s.rd F n

namespace SameDrift

theorem refl (n : Nat) (s : State) : SameDrift n s s :=
  ⟨rfl, rfl, rfl, fun _ _ => rfl⟩

theorem mapped_of {s t : State} (he : t.eng = s.eng) (hb : t.rd ENG_STAT.BANK = s.rd ENG_STAT.BANK) (n : Nat) :
    t.mapped n = s.mapped n := by
  rw [State.mapped, State.mapped, State.bank, State.bank, State.bankOf, State.bankOf, he, hb]

theorem wr (h : SameDrift n s t) {G : Fld} (hG : (driftFields.all (·.beside G) && ENG_STAT.BANK.off G) = true) (hm : n ≠ m)
    (x : Nat) : SameDrift n s (t.wr G m x) := by
  obtain ⟨hG, hB⟩ := Bool.and_eq_true_iff.1 hG
  exact {
    chan := (chan_wr ..).trans h.chan
    inForce := (wr_inForce ..).trans h.inForce
    mapped := (mapped_of (wr_eng ..) (rd_wr_off hB _) n).trans h.mapped
    rd := fun F hF => (rd_wr_beside (List.all_eq_true.1 hG F hF) hm x).trans (h.rd F hF) }

theorem raiseLog (h : SameDrift n s t) {e : Evt}
    (he : (ENG_STAT.BANK :: driftFields).all (fun F => (e.st :: logFields).all F.off) = true) (x y : Nat) :
    SameDrift n s (t.raiseLog e x y) where
  chan := (chan_congr (raiseLog_th ..) n).trans h.chan
  inForce := (raiseLog_inForce ..).trans h.inForce
  mapped := (mapped_of (raiseLog_eng ..) (rd_raiseLog_all (List.all_eq_true.1 he _ (by simp)) x y) n).trans h.mapped
  rd F hF := (rd_raiseLog_all (List.all_eq_true.1 he F (List.mem_cons_of_mem _ hF)) x y).trans (h.rd F hF)

theorem setChan (h : SameDrift n s t) (hm : n ≠ m) (f : Chan → Chan) : SameDrift n s (t.setChan m f) :=
  ⟨(chan_setChan_ne t f hm.symm).trans h.chan, h.inForce, h.mapped, h.rd⟩

theorem ite {c : Prop} [Decidable c] (ht : SameDrift n s t) (hu : SameDrift n s u) :
    SameDrift n s (if c then t else u) := by
  split
  · exact ht
  · exact hu

theorem chanFault (h : SameDrift n s t) (hm : n ≠ m) : SameDrift n s (t.chanFault m TH_CHSTAT.DRIFT .TH_DRIFT) := by
  unfold State.chanFault
  extract_lets a
  have ha : SameDrift n s a := ((h.wr (by decide) hm _).wr (by decide) hm _).wr (by decide) hm _
  exact ha.raiseLog (by decide) _ _

theorem revalidate (h : SameDrift n s t) (hm : n ≠ m) : SameDrift n s (t.revalidate m) := by
  unfold State.revalidate
  exact ((h.wr (by decide) hm _).setChan hm _).ite h

/-- The drift check of another channel. -/
theorem driftOf (h : SameDrift n s t) (hm : n ≠ m) : SameDrift n s (t.driftOf m) := by
  unfold State.driftOf
  extract_lets d wide c above below a
  have ha : SameDrift n s a := h.setChan hm _
  clear_value a
  exact h.ite ((ha.chanFault hm).ite (((ha.wr (by decide) hm _).revalidate hm).ite ha))

end SameDrift

/-- Channel `n` differs from its estimate for the thousandth time in a row. -/
def State.drifts (s : State) (n : Nat) : Prop :=
  s.chanOn n = true ∧ s.mapped n = true ∧ s.rd TH_CHSTAT.CALIB n ≠ 1 ∧ (s.chan n).above = 999 ∧
    s.rd TH_CHSTAT.DRIFT n ≠ 1 ∧ 4 * s.inf TH_CTRL2.DRIFT_LIM < (s.rdS TH_VAL.VALUE n - s.rdS TH_VAL.EST n).natAbs

theorem SameDrift.drifts (h : SameDrift n s t) (hs : s.drifts n) : t.drifts n := by
  have hr : ∀ F ∈ driftFields, t.rd F n = s.rd F n := h.rd
  unfold State.drifts State.chanOn State.infOn State.inf State.rdS at *
  rwa [h.chan, h.inForce, h.mapped, hr TH_CHSTAT.CALIB (by simp [driftFields]), hr TH_CHSTAT.DRIFT (by simp [driftFields]),
    hr TH_VAL.VALUE (by simp [driftFields]), hr TH_VAL.EST (by simp [driftFields])]

/-- The channel is found invalid at its turn. -/
theorem driftOf_finds (h : s.drifts n) : (s.driftOf n).rd TH_CHSTAT.DRIFT n = 1 ∧ (s.driftOf n).rd TH_CHSTAT.VALID n = 0 := by
  obtain ⟨hon, hmap, hcal, habove, hdr, hlim⟩ := h
  unfold State.driftOf
  extract_lets d wide c above below a
  have hw : wide = true := decide_eq_true hlim
  have hab : above = 1000 := by simp [above, hw, c, habove]
  have hd : a.rd TH_CHSTAT.DRIFT n ≠ 1 := hdr
  have hc : ¬ (!s.chanOn n || !s.mapped n || s.on TH_CHSTAT.CALIB n) = true := by simp [hon, hmap, State.on, hcal]
  clear_value a
  rw [if_neg hc, if_pos (by simp [hab, State.on, hd])]
  unfold State.chanFault
  extract_lets b
  rw [rd_raiseLog_all (by decide), rd_raiseLog_all (by decide), rd_inc_off (by decide), rd_inc_off (by decide),
    rd_wr_off (by decide), rd_wr_same, rd_wr_same]
  exact ⟨rfl, rfl⟩

theorem execDriftCheck_does (ht : s.tick % 1000 = 0) (hc : s.th.checked ≠ some s.tick) (he : s.engineRuns = true) :
    exec .driftCheck s = .next ((List.range 25).foldl (fun s n => s.driftOf n)
      (s.quiet.setTh (fun t => { t with checked := some s.tick }))).thermalStatus := by
  have h : (s.tick % 1000 == 0 && s.th.checked != some s.tick && s.engineRuns) = true := by simp [ht, hc, he]
  exact congrArg Host.Outcome.next (if_pos h)

theorem chanFault_th (s : State) (n : Nat) (F : Fld) (e : Evt) : (s.chanFault n F e).th = s.th := by
  simp [State.chanFault, State.inc]

theorem setChan_checked (s : State) (n : Nat) (f : Chan → Chan) : (s.setChan n f).th.checked = s.th.checked := rfl

theorem revalidate_checked (s : State) (n : Nat) : (s.revalidate n).th.checked = s.th.checked := by
  unfold State.revalidate
  split
  · dsimp only
    rw [setChan_checked, wr_th]
  · rfl

theorem driftOf_checked (s : State) (n : Nat) : (s.driftOf n).th.checked = s.th.checked := by
  unfold State.driftOf
  extract_lets d wide c above below a
  have ha : a.th.checked = s.th.checked := rfl
  clear_value a
  split
  · rfl
  · split
    · rw [chanFault_th, ha]
    · split
      · rw [revalidate_checked, wr_th, ha]
      · exact ha

theorem thermalStatus_th (s : State) : s.thermalStatus.th = s.th := by
  have h : Kept (.guard s [.th] []) s.thermalStatus :=
    kept_thermalStatus (kept_guard s _ _) rfl rfl (logs_guard rfl rfl rfl) rfl rfl rfl rfl rfl rfl rfl rfl rfl
  exact h.spared .th rfl

theorem thermalStatus_rd {F : Fld} (i : Nat) (hF : F = TH_CHSTAT.DRIFT ∨ F = TH_CHSTAT.VALID) :
    s.thermalStatus.rd F i = s.rd F i := by
  have h : Kept (.guard s [] [TH_CHSTAT.DRIFT, TH_CHSTAT.VALID]) s.thermalStatus :=
    kept_thermalStatus (kept_guard s _ _) rfl rfl (logs_guard rfl rfl rfl) rfl rfl rfl rfl rfl rfl rfl rfl rfl
  exact h.guarded (by simpa using hF) i

end Sys2Proof.Machine

namespace Sys2Proof
open Sys2Proof.Machine

/-- Settles O27: a conversion's record past its faults, zones and inhibits (`Converted`), and the drift check as a fold over
the channels in which each channel has one turn (`SameDrift`). -/
theorem conversions : Obligations.Conversions := by
  unfold Obligations.Conversions
  refine ⟨?_, ?_, ?_, ?_, ?_⟩
  · intro n d s hn hh hl
    have h := conversion_good ((s.quiet.setTh (fun t => { t with diodeAt := n })).wr TH_CHSTAT.RS n
      (diodeRs ((s.chan n).scaled d.dv1) ((s.chan n).scaled d.dv2))) n
      (diodeRaw ((s.chan n).scaled d.dv1) ((s.chan n).scaled d.dv2) (s.inf TH_CAL.IDEAL n) + s.infS TH_CAL.OFFSET n)
    refine ⟨_, execDiodeConversion_good hn hh hl, h.rs.trans (rd_wr_same ..), h.value.trans ?_, h.diode.trans ?_⟩
    · rw [valueAfter, chan_wr]
      rfl
    · rw [wr_th]
      rfl
  · intro n q r s hn hq hl hh
    have h := conversion_good (s.quiet.setTh (fun t => { t with thermAt := n })) n
      (interpolate (Table.get [] s.th.tables n) r + s.infS TH_CAL.OFFSET n)
    exact ⟨_, execThermistorConversion_good hn hq hl hh, h.therm, h.value⟩
  · intro n q d s
    constructor
    · intro h
      have h' : ¬ (s.quiet.nextChannel diodeOrder s.quiet.th.diodeAt == some n) = true := fun k => h (beq_iff_eq.1 k)
      exact ⟨_, congrArg Host.Outcome.next (if_neg h'), rfl⟩
    · intro h
      have h' : ¬ (s.quiet.nextChannel thermOrder s.quiet.th.thermAt == some n) = true := fun k => h (beq_iff_eq.1 k)
      exact ⟨_, congrArg Host.Outcome.next (if_neg h'), rfl⟩
  · exact fun c v hc hz => calibrated_eq hc hz v
  · intro s ht hc he
    refine ⟨_, execDriftCheck_does ht hc he, ?_, ?_⟩
    · rw [thermalStatus_th]
      exact foldl_keeps (fun t : State => t.th.checked = some s.tick) rfl fun t n h => (driftOf_checked t n).trans h
    · intro n hn hon hmap hcal hab hdr hlim
      rw [thermalStatus_rd n (.inl rfl), thermalStatus_rd n (.inr rfl)]
      have hs : (s.quiet.setTh (fun t => { t with checked := some s.tick })).drifts n := ⟨hon, hmap, hcal, hab, hdr, hlim⟩
      refine foldl_meets_once (x := n) (I := (·.drifts n))
        (P := fun t : State => t.rd TH_CHSTAT.DRIFT n = 1 ∧ t.rd TH_CHSTAT.VALID n = 0) ?_ ?_ ?_ List.nodup_range
        (List.mem_range.2 hn) hs
      · exact fun t m hm => ((SameDrift.refl n t).driftOf (Ne.symm hm)).drifts
      · exact fun t h => driftOf_finds h
      · intro t m hm h
        have hk := ((SameDrift.refl n t).driftOf (Ne.symm hm)).rd
        rwa [hk _ (by simp [driftFields]), hk _ (by simp [driftFields])]

end Sys2Proof
end

section
/-! PROOF. The stop action (R204) on each cluster it reaches, and the steps of a regulator warning (R206). -/

namespace Sys2Proof.Machine

variable {s t : State} {n m g : Nat}

/-! ### A forced off, domain by domain -/

theorem setDom_gated {f : Dom → Dom} (hf : ∀ d, d.gated = true → (f d).gated = true) (h : (s.dom n).gated = true) :
    ((s.setDom m f).dom n).gated = true := by
  by_cases e : m = n
  · subst e
    rw [dom_setDom]
    exact hf _ h
  · rwa [dom_setDom_ne _ _ e]

theorem dom_dropWake (s : State) (m n : Nat) : (s.dropWake m).dom n = s.dom n :=
  dom_congr (dropWake_rim ..) n

theorem freeSlot_dom_ne (h : m ≠ n) (s : State) : (s.freeSlot m).dom n = s.dom n := by
  unfold State.freeSlot
  split
  · exact (dom_setDom_ne _ _ h).trans (dom_wr ..)
  · rfl

/-- What the stop of another domain leaves of domain `n`. -/
structure SameDom (n : Nat) (s t : State) : Prop where
  dom : t.dom n = s.dom n
  forcing : n ∈ t.rim.forcing ↔ n ∈ s.rim.forcing
  state : t.dstate n = s.dstate n
  forced : t.rd SWD_STAT.FORCED n = s.rd SWD_STAT.FORCED n

namespace SameDom

theorem refl (n : Nat) (s : State) : SameDom n s s :=
  ⟨rfl, Iff.rfl, rfl, rfl⟩

theorem wr (h : SameDom n s t) {G : Fld} (hG : [SWD_STAT.STATE, SWD_STAT.FORCED].all (·.beside G) = true) (hm : n ≠ m)
    (v : Nat) : SameDom n s (t.wr G m v) where
  dom := (dom_wr ..).trans h.dom
  forcing := by rw [wr_rim]; exact h.forcing
  state := (rd_wr_beside (List.all_eq_true.1 hG _ (by simp)) hm v).trans h.state
  forced := (rd_wr_beside (List.all_eq_true.1 hG _ (by simp)) hm v).trans h.forced

theorem ramps (h : SameDom n s t) (i v : Nat) : SameDom n s (t.wr RG_STAT.RAMPS i v) where
  dom := (dom_wr ..).trans h.dom
  forcing := by rw [wr_rim]; exact h.forcing
  state := (rd_wr_off (by decide) v).trans h.state
  forced := (rd_wr_off (by decide) v).trans h.forced

theorem setCmd (h : SameDom n s t) (f : Cmd → Cmd) : SameDom n s (t.setCmd f) :=
  ⟨h.dom, h.forcing, h.state, h.forced⟩

theorem setDom (h : SameDom n s t) (hm : n ≠ m) (f : Dom → Dom) : SameDom n s (t.setDom m f) :=
  ⟨(dom_setDom_ne _ _ hm.symm).trans h.dom, h.forcing, h.state, h.forced⟩

theorem raise (h : SameDom n s t) (x y : Nat) : SameDom n s (t.raise .RIM_FORCED_OFF x y) where
  dom := (dom_raise ..).trans h.dom
  forcing := by rw [raise_rim]; exact h.forcing
  state := (rd_raise_all (by decide) x y).trans h.state
  forced := (rd_raise_all (by decide) x y).trans h.forced

theorem freeSlot (h : SameDom n s t) (hm : n ≠ m) : SameDom n s (t.freeSlot m) := by
  unfold State.freeSlot
  split
  · exact (h.ramps _ _).setDom hm _
  · exact h

theorem list (h : SameDom n s t) (hm : n ≠ m) : SameDom n s (t.setRim fun r => { r with forcing := r.forcing ++ [m] }) where
  dom := h.dom
  forcing := by
    show n ∈ t.rim.forcing ++ [m] ↔ _
    rw [List.mem_append, List.mem_singleton, or_iff_left hm, h.forcing]
  state := h.state
  forced := h.forced

theorem dropWake (n m : Nat) (s : State) : SameDom n s (s.dropWake m) where
  dom := dom_dropWake ..
  forcing := by rw [dropWake_rim]
  state := dropWake_rd (by decide)
  forced := dropWake_rd (by decide)

theorem forceDown (h : SameDom n s t) (hm : n ≠ m) : SameDom n s (t.forceDown m) := by
  unfold State.forceDown
  extract_lets u v w
  have hu : SameDom n s u := (h.freeSlot hm).setDom hm _
  have hv : SameDom n s v := ((hu.wr (by decide) hm _).wr (by decide) hm _).wr (by decide) hm _
  have hw : SameDom n s w := hv.setDom hm _
  exact (hw.list hm).raise _ _

/-- The forced off of another domain. -/
theorem forceOff (hm : n ≠ m) (s : State) : SameDom n s (s.forceOff m) := by
  unfold State.forceOff
  extract_lets u v w
  have hu : SameDom n s u := dropWake n m s
  clear_value u
  split
  · have hv : SameDom n s v := by
      unfold v
      split
      · exact hu.setCmd _
      · exact hu
    exact ((hv.wr (by decide) hm _).wr (by decide) hm _).setDom hm _
  · exact ((((hu.setCmd _).wr (by decide) hm _).wr (by decide) hm _).setDom hm _).raise _ _
  · refine forceDown (t := if u.seqState m = dON then u else u.failRequest m stCONFLICT) ?_ hm
    split
    · exact hu
    · exact hu.setCmd _

end SameDom

theorem forceDown_gated (s : State) (n : Nat) : ((s.forceDown n).dom n).gated = true := by
  unfold State.forceDown
  extract_lets u v w
  have hw : (w.dom n).gated = true := by
    unfold w
    rw [dom_setDom]
  clear_value w
  rw [dom_raise]
  exact hw

/-- A domain ON is taken down at its forced off. -/
theorem forceOff_of_ON (h : s.dstate n = dON) (hf : n ∉ s.rim.forcing) : s.forceOff n = (s.dropWake n).forceDown n := by
  have hq : (s.dropWake n).seqState n = dON := by rw [seqState_dropWake, seqState_of_not_forcing hf, h]
  unfold State.forceOff
  extract_lets u
  simp only [u, hq, if_true]
  rfl

theorem forceDown_PEND (s : State) (n : Nat) : (s.forceDown n).rd SWD_STAT.PEND n = 0 := by
  simp (disch := decide) [State.forceDown, rd_raise_all, rd_wr_off]

/-- A forced off ends the domain's request. -/
theorem forceOff_PEND (s : State) (n : Nat) : (s.forceOff n).rd SWD_STAT.PEND n = 0 := by
  unfold State.forceOff
  extract_lets u v w
  clear_value u v w
  split
  · simp (disch := decide) [State.endRequest, rd_wr_off]
  · simp (disch := decide) [State.endRequest, rd_raise_all, rd_wr_off]
  · exact forceDown_PEND (if u.seqState n = dON then u else u.failRequest n stCONFLICT) n

/-- Another domain's forced off, or the domain's again, requests nothing. -/
theorem forceSteps_PEND (n m : Nat) : ForceSteps (fun t => t.rd SWD_STAT.PEND m = 0) n where
  wake := fun _ h => (dropWake_rd (by decide)).trans h
  cmd := fun _ _ h => h
  dom := fun _ _ h => h
  ramps := fun _ _ _ h => (rd_wr_off (by decide) _).trans h
  pend := fun _ h => by
    by_cases e : m = n
    · subst e
      exact (rd_wr_same ..).trans (Nat.zero_mod _)
    · exact (rd_wr_other (by decide) e _).trans h
  wait := fun _ h => (rd_wr_off (by decide) _).trans h
  forced := fun _ h => (rd_wr_off (by decide) _).trans h
  list := fun _ h => h
  event := fun _ h => (rd_raise_all (by decide) _ _).trans h

/-- Every domain of the list has no request. -/
theorem forceOffAll_PEND {l : List Nat} (h : n ∈ l) (s : State) : (s.forceOffAll l).rd SWD_STAT.PEND n = 0 :=
  foldl_meets (I := fun _ => True) (P := fun t : State => t.rd SWD_STAT.PEND n = 0) (fun _ _ _ => trivial)
    (fun t _ => forceOff_PEND t n) (fun _ m h => (forceSteps_PEND m n).forceOff h) h trivial

/-- A domain of the list that is ON is forced off, its clock gated. -/
theorem forceOffAll_ON {l : List Nat} (hl : l.Nodup) (h : n ∈ l) (hd : s.dstate n = dON) (hf : n ∉ s.rim.forcing) :
    (s.forceOffAll l).rd SWD_STAT.FORCED n = 1 ∧ ((s.forceOffAll l).dom n).gated = true := by
  refine foldl_meets_once (I := fun t : State => t.dstate n = dON ∧ n ∉ t.rim.forcing)
    (P := fun t : State => t.rd SWD_STAT.FORCED n = 1 ∧ (t.dom n).gated = true) ?_ ?_ ?_ hl h ⟨hd, hf⟩
  · rintro t m hm ⟨hd, hf⟩
    have k := SameDom.forceOff (Ne.symm hm) t
    exact ⟨k.state.trans hd, fun c => hf (k.forcing.1 c)⟩
  · rintro t ⟨hd, hf⟩
    rw [forceOff_of_ON hd hf]
    exact ⟨forceDown_FORCED .., forceDown_gated ..⟩
  · rintro t m hm ⟨hd, hg⟩
    have k := SameDom.forceOff (Ne.symm hm) t
    exact ⟨k.forced.trans hd, by rw [k.dom, hg]⟩

/-! ### The stop action -/

/-- The clusters that a first stop of channel `n` reaches (R204). -/
def State.stopHits (s : State) (n : Nat) : List Nat :=
  s.clusters.filter (fun d => s.chanSector n (s.rd SWD_CFG.RG d) &&
    ((!(s.chan n).stopped && (s.dstate d != dOFF || s.rd SWD_STAT.PEND d == 1)) ||
      (s.dstate d == dON && decide ((s.dom d).since + 10000 * s.inf TH_CTRL.STOP_MS ≤ s.rim.now))))

theorem stopHits_nodup (s : State) (n : Nat) : (s.stopHits n).Nodup :=
  (List.nodup_range.filter _).filter _

theorem mem_stopHits {d : Nat} (hd : d ∈ s.clusters) (hk : s.chanSector n (s.rd SWD_CFG.RG d) = true)
    (hs : (s.chan n).stopped = false) (h : s.dstate d ≠ dOFF ∨ s.rd SWD_STAT.PEND d = 1) : d ∈ s.stopHits n := by
  refine List.mem_filter.2 ⟨hd, ?_⟩
  rcases h with h | h <;> simp [hk, hs, h]

theorem execThermalStop_does (hn : n < 25) (hon : s.chanOn n = true) (hz : s.rd TH_CHSTAT.HIGH_STOP n = 1)
    (ha : s.inf TH_CFG.STOP_ACT n ≠ 0) (ht : (s.chan n).stopAt + 1000 * s.inf TH_CTRL.STOP_MS ≤ s.tick)
    (hh : s.holdover = false) :
    exec (.thermalStop n) s = .next ((s.quiet.forceOffAll (s.stopHits n)).setChan n (fun c => { c with stopped := true })) := by
  have h1 : ¬ (decide (25 ≤ n) || s.quiet.holdover) = true := by
    have : s.quiet.holdover = false := hh
    simp [this, hn]
  have h2 : (s.chanOn n && s.on TH_CHSTAT.HIGH_STOP n && s.inf TH_CFG.STOP_ACT n != 0 &&
      s.past (s.chan n).stopAt (1000 * s.inf TH_CTRL.STOP_MS)) = true := by
    simp [hon, on_of_one hz, ha, State.past, ht]
  exact congrArg Host.Outcome.next ((if_neg h1).trans (if_pos h2))

/-! ### Regulator warnings -/

theorem vrw_setVrw (s : State) (g : Nat) (v : Option Vrw) : (s.setVrw g v).vrw g = v :=
  Table.get_set_same ..

theorem execVrwDrop_does {v : Vrw} (hg : g < 12) (hv : s.vrw g = some v) (hc : v.clr = none) (ht : v.next ≤ s.tick) :
    exec (.vrwDrop g) s = .next (s.quiet.setVrw g
      (some { v with k := v.k + 1, next := v.next + 1000 * s.inf TH_CTRL2.VRW_MS })) := by
  have hv' : s.quiet.vrw g = some v := hv
  refine (congrArg Host.Outcome.next (if_neg (not_le.2 hg))).trans ?_
  rw [hv']
  exact congrArg Host.Outcome.next (if_pos (by simp [hc, ht]))

theorem execVrwRemove_does {v : Vrw} {c : Nat} (hg : g < 12) (hv : s.vrw g = some v) (hc : v.clr = some c)
    (ht : c + 100000 ≤ s.tick) : exec (.vrwRemove g) s = .next (s.quiet.setVrw g none) := by
  have hv' : s.quiet.vrw g = some v := hv
  refine (congrArg Host.Outcome.next (if_neg (not_le.2 hg))).trans ?_
  rw [hv']
  dsimp only
  rw [hc]
  exact congrArg Host.Outcome.next (if_pos (decide_eq_true ht))

end Sys2Proof.Machine

namespace Sys2Proof
open Sys2Proof.Machine

/-- Settles O28: each cluster of the stop's list has one turn in the fold of forced offs, and the steps of a warning. -/
theorem thermalActions : Obligations.ThermalActions := by
  unfold Obligations.ThermalActions
  refine ⟨?_, ?_, ?_⟩
  · intro n s hn hon hz ha ht hs hh
    refine ⟨_, execThermalStop_does hn hon hz ha ht hh, ?_, ?_⟩
    · rw [chan_setChan]
    · intro d hd hk hf
      constructor
      · intro hst
        exact forceOffAll_ON (s := s.quiet) (stopHits_nodup s n)
          (mem_stopHits hd hk hs (.inl (by rw [hst]; decide))) hst hf
      · intro _ hp
        exact forceOffAll_PEND (mem_stopHits hd hk hs (.inr hp)) s.quiet
  · intro g v s hg hv hc ht
    exact ⟨_, execVrwDrop_does hg hv hc ht, vrw_setVrw ..⟩
  · intro g c v s hg hv hc ht
    exact ⟨_, execVrwRemove_does hg hv hc ht, vrw_setVrw ..⟩

end Sys2Proof
end

section
/-! PROOF. Budget, hints and waits (chapter 8): the PWM input, a budget period's points and its drop of a class, the life of
a hint, and the waits of a request. -/

namespace Sys2Proof.Machine

variable {s t u : State} {n c e k : Nat}

/-! ### The PWM input (R211) -/

theorem execCapPwmEdge_rise {now r : Nat} (h : s.bg.pwmRise = some r) (hl : 10 * s.period ≤ 256 * (now - r))
    (hh : 256 * (now - r) ≤ 1000 * s.period) :
    Answers (.capPwmEdge true now) s (fun t => t.bg.pwmValid = true ∧ t.bg.pwmLast = (s.bg.pwmHigh, now - r) ∧
      t.bg.pwmRise = some now ∧ t.bg.pwmEdge = s.tick) := by
  have hg : (decide (10 * s.quiet.period ≤ 256 * (now - r)) && decide (256 * (now - r) ≤ 1000 * s.quiet.period)) = true := by
    have hp : s.quiet.period = s.period := rfl
    simp [hp, hl, hh]
  have h' : s.quiet.bg.pwmRise = some r := h
  refine ⟨_, congrArg Host.Outcome.next (if_pos rfl), ?_⟩
  beta_reduce
  rw [h']
  dsimp only
  rw [hg]
  exact ⟨rfl, rfl, rfl, rfl⟩

theorem execCapPwmEdge_fall {now r : Nat} (h : s.bg.pwmRise = some r) :
    exec (.capPwmEdge false now) s = .next (s.quiet.setBg (fun b => { b with pwmHigh := now - r, pwmEdge := s.tick })) := by
  have h' : s.quiet.bg.pwmRise = some r := h
  refine (congrArg Host.Outcome.next (if_neg Bool.false_ne_true)).trans ?_
  rw [h']
  rfl

/-! ### A budget period (R214, R224, R225) -/

/-- The fields that a budget period writes before its condition H. -/
def budgetFields : List Fld :=
  [BG_SECT.PT_D, BG_ALLOC_CM.COMP, BG_ALLOC_CM.MEM, BG_ALLOC_L.LINK, BG_LIMIT.BW, BG_LIMIT.LNK8, BG_LIMIT.LNK9,
   BG_STAT.CAP_BELOW_MIN]

/-- The first `N` instances of `F` lie apart from what a budget period writes before its condition H. -/
def Fld.offPeriod (F : Fld) (N : Nat) : Bool :=
  (budgetFields.all fun G => F.apart G N 6) && (F.offLog N && F.apart BG_EVT.CAP_BELOW_MIN N 1)

/-- `u` comes from `s` by the work of a budget period before its condition H. -/
structure InPeriod (s u : State) : Prop where
  bg : u.bg = { s.bg with periodAt := some s.tick }
  tick : u.tick = s.tick
  inForce : u.inForce = s.inForce
  rd : ∀ F N i, i < N → F.offPeriod N = true → u.rd F i = s.rd F i

namespace InPeriod

theorem wr (h : InPeriod s u) {G : Fld} (hG : G ∈ budgetFields) {j : Nat} (hj : j < 6) (v : Nat) :
    InPeriod s (u.wr G j v) where
  bg := (wr_bg ..).trans h.bg
  tick := (wr_tick ..).trans h.tick
  inForce := (wr_inForce ..).trans h.inForce
  rd F N i hi hF := by
    obtain ⟨hA, -⟩ := Bool.and_eq_true_iff.1 hF
    exact (rd_wr_apart N 6 (List.all_eq_true.1 hA G hG) hi hj v).trans (h.rd F N i hi hF)

theorem raise (h : InPeriod s u) (x y : Nat) : InPeriod s (u.raise .BG_CAP_BELOW_MIN x y) where
  bg := (raise_bg ..).trans h.bg
  tick := (raise_tick ..).trans h.tick
  inForce := (raise_inForce ..).trans h.inForce
  rd F N i hi hF := by
    obtain ⟨-, hL⟩ := Bool.and_eq_true_iff.1 hF
    obtain ⟨hL, hE⟩ := Bool.and_eq_true_iff.1 hL
    exact (rd_raise_off N hL hE hi x y).trans (h.rd F N i hi hF)

theorem classRatio (h : InPeriod s u) (k : Nat) : InPeriod s (u.classRatio k).2 := by
  unfold State.classRatio
  extract_lets m p f
  split
  · exact ⟨h.bg, h.tick, h.inForce, h.rd⟩
  · exact h

theorem setCar (h : InPeriod s u) (f : Car → Car) : InPeriod s (u.setCar f) :=
  ⟨h.bg, h.tick, h.inForce, h.rd⟩

end InPeriod

/-- The points of the demand, as a period takes them (R214). -/
def State.demandPoint (s : State) (k : Nat) : Nat :=
  min (s.rd ENG_OUT.SAFE k) (min (s.rd ENG_SLEWV.OUT 2) (s.rd BG_SECT.HINT k))

theorem InPeriod.demandPoint (h : InPeriod s u) {k : Nat} (hk : k < 6) : u.demandPoint k = s.demandPoint k := by
  rw [State.demandPoint, State.demandPoint, h.rd ENG_OUT.SAFE 6 k hk (by decide),
    h.rd ENG_SLEWV.OUT 3 2 (by decide) (by decide), h.rd BG_SECT.HINT 6 k hk (by decide)]

/-- `InPeriod` with the points of the demand written. -/
structure InPeriodPt (s u : State) : Prop extends InPeriod s u where
  pt : ∀ k < 6, u.rd BG_SECT.PT_D k = s.demandPoint k % 2 ^ BG_SECT.PT_D.width

namespace InPeriodPt

theorem wr (h : InPeriodPt s u) {G : Fld} (hG : G ∈ budgetFields) (hP : BG_SECT.PT_D.apart G 6 1 = true) (v : Nat) :
    InPeriodPt s (u.wr G 0 v) where
  toInPeriod := h.toInPeriod.wr hG (by decide) v
  pt k hk := (rd_wr_apart 6 1 hP hk Nat.one_pos v).trans (h.pt k hk)

theorem raise (h : InPeriodPt s u) (x y : Nat) : InPeriodPt s (u.raise .BG_CAP_BELOW_MIN x y) where
  toInPeriod := h.toInPeriod.raise x y
  pt k hk := (rd_raise_off 6 (by decide) (by decide) hk x y).trans (h.pt k hk)

theorem setCar (h : InPeriodPt s u) (f : Car → Car) : InPeriodPt s (u.setCar f) :=
  ⟨h.toInPeriod.setCar f, h.pt⟩

theorem ite {p : Prop} [Decidable p] (ht : InPeriodPt s t) (hu : InPeriodPt s u) : InPeriodPt s (if p then t else u) := by
  split
  · exact ht
  · exact hu

end InPeriodPt

/-- After writes of an instance each, every instance holds its value. -/
theorem rd_upTo_wr {F : Fld} (hs : 0 < F.stride) (v : Nat → Nat) (s : State) {n k : Nat} (hk : k < n) :
    (upTo n (fun k s => s.wr F k (v k)) s).rd F k = v k % 2 ^ F.width := by
  induction n with
  | zero => exact absurd hk (Nat.not_lt_zero k)
  | succ n ih =>
    show (State.wr _ F n (v n)).rd F k = _
    by_cases e : k = n
    · subst e
      exact rd_wr_same ..
    · rw [rd_wr_other hs e]
      exact ih (by omega)

theorem upTo_keeps_below {α : Type} (P : α → Prop) {n : Nat} {f : Nat → α → α} {a : α} (ha : P a)
    (hf : ∀ i < n, ∀ b, P b → P (f i b)) : P (upTo n f a) := by
  induction n with
  | zero => exact ha
  | succ n ih => exact hf n (Nat.lt_succ_self n) _ (ih fun i hi => hf i (Nat.lt_succ_of_lt hi))

theorem InPeriod.points (h : InPeriod s u) :
    InPeriodPt s (upTo 6 (fun k t => t.wr BG_SECT.PT_D k (u.demandPoint k)) u) where
  toInPeriod := upTo_keeps_below (InPeriod s) h fun _ hk _ ht => ht.wr (by simp [budgetFields]) hk _
  pt k hk := (rd_upTo_wr (by decide) _ u hk).trans (by rw [h.demandPoint hk])

theorem execBudgetPeriod_does (ht : s.tick % 10 = 0) (hp : s.bg.periodAt ≠ some s.tick) (hh : s.holdover = false) :
    ∃ u, exec .budgetPeriod s = .next u.evaluateH ∧ InPeriodPt s u := by
  have h : (s.tick % 10 == 0 && s.bg.periodAt != some s.tick && !s.quiet.holdover) = true := by
    have hq : s.quiet.holdover = false := hh
    simp [ht, hp, hq]
  suffices hs : ∃ t, exec .budgetPeriod s = .next t ∧ ∃ u, t = u.evaluateH ∧ InPeriodPt s u by
    obtain ⟨t, e, u, rfl, hu⟩ := hs
    exact ⟨u, e, hu⟩
  refine ⟨_, congrArg Host.Outcome.next (if_pos h), ?_⟩
  extract_lets a im
  have ha : InPeriod s a := ⟨rfl, rfl, rfl, fun _ _ _ _ _ => rfl⟩
  clear_value a im
  split
  next r0 b e0 =>
  have h0 : InPeriod s b := by simpa only [e0] using ha.classRatio 0
  split
  next r1 c e1 =>
  have h1 : InPeriod s c := by simpa only [e1] using h0.classRatio 1
  split
  next r2 d e2 =>
  have h2 : InPeriod s d := by simpa only [e2] using h1.classRatio 2
  have h3 := h2.points
  extract_lets ptd f lp dl memMin dem mn ao tot tmin tdem
  have hf : InPeriodPt s f := h3
  clear_value f
  split
  next al below _ =>
  extract_lets a g part i j k l m
  have hg : InPeriodPt s g :=
    ((hf.wr (by simp [budgetFields]) (by decide) _).wr (by simp [budgetFields]) (by decide) _).wr
      (by simp [budgetFields]) (by decide) _
  have hi : InPeriodPt s i := hg.wr (by simp [budgetFields]) (by decide) _
  have hj : InPeriodPt s j :=
    (hi.wr (by simp [budgetFields]) (by decide) _).wr (by simp [budgetFields]) (by decide) _
  have hk : InPeriodPt s k := hj.wr (by simp [budgetFields]) (by decide) _
  have hl : InPeriodPt s l := (hk.raise _ _).ite hk
  exact ⟨m, rfl, hl.setCar _⟩

/-- Condition H keeps the points of the demand and the tick of the period. -/
theorem evaluateH_PT_D (s : State) (k : Nat) : s.evaluateH.rd BG_SECT.PT_D k = s.rd BG_SECT.PT_D k := by
  have h : Kept (.guard s [] [BG_SECT.PT_D]) s.evaluateH :=
    kept_evaluateH (kept_guard s _ _) rfl (logs_guard rfl rfl rfl) rfl rfl rfl rfl rfl
  exact h.guarded (by simp) k

theorem classDrop_periodAt (s : State) : s.classDrop.bg.periodAt = s.bg.periodAt := by
  unfold State.classDrop
  split
  · rfl
  · split
    · rfl
    · extract_lets meter a b c
      rw [raiseLog_bg]
      have ha : a.bg.periodAt = s.bg.periodAt := congrArg Bg.periodAt (wrBit_bg ..)
      have hb : b.bg.periodAt = s.bg.periodAt := ha
      clear_value b
      unfold c
      split
      · rw [State.inc, wr_bg, hb]
      · split
        · rw [State.inc, wr_bg, hb]
        · rw [State.inc, wr_bg, hb]

theorem evaluateH_periodAt (s : State) : s.evaluateH.bg.periodAt = s.bg.periodAt := by
  unfold State.evaluateH
  split
  · exact classDrop_periodAt _
  · rfl

/-! ### The drop of a class (R224) -/

theorem classInForce_spec {c : Nat} (h : s.lowestClass = some c) : 1 ≤ c ∧ c ≤ 3 := by
  have hm : c ∈ [3, 2, 1] := List.mem_of_find?_eq_some h
  simp at hm
  omega

theorem classInForce_eq (s : State) (c : Nat) :
    s.classInForce c = (decide (1 ≤ c) && decide (c ≤ 3) && s.bit BG_STAT.IN_FORCE (3 - c)) := rfl

/-- The drop of class `c`. -/
def State.dropClass (s : State) (c : Nat) : State :=
  let meter := !s.overSafe
  let s := s.wrBit BG_STAT.IN_FORCE 0 (3 - c) false
  let s := s.setBg (fun b => { b with dropAt := some s.tick, meterDrop := b.meterDrop.set (c - 1) meter })
  let s := if c = 1 then s.inc BG_DROP_CNT.A else if c = 2 then s.inc BG_DROP_CNT.B else s.inc BG_DROP_CNT.C
  s.raiseLog .BG_DROP (arg0 c 0) (if meter then 2 else 1)

theorem classDrop_eq {c : Nat} (hc : s.lowestClass = some c) (hd : s.dropHold = false) : s.classDrop = s.dropClass c := by
  unfold State.classDrop
  rw [hc]
  exact if_neg (ne_true_of_eq_false hd)

theorem testBit_sub_two_pow {x b : Nat} (h : x.testBit b = true) : (x - 2 ^ b).testBit b = false := by
  rw [Nat.testBit_eq_decide_div_mod_eq, decide_eq_true_eq] at h
  rw [Nat.testBit_eq_decide_div_mod_eq, decide_eq_false_iff_not]
  have e : (x - 2 ^ b) / 2 ^ b = x / 2 ^ b - 1 := by simpa using Nat.sub_mul_div x (2 ^ b) 1
  omega

theorem bit_wrBit_false (s : State) (F : Fld) (i b : Nat) : (s.wrBit F i b false).bit F b i = false := by
  unfold State.wrBit State.bit
  by_cases h : (s.rd F i).testBit b = true
  · simp [h, Nat.testBit_mod_two_pow, testBit_sub_two_pow h]
  · simp [h]

theorem dropClass_drops (s : State) (c : Nat) :
    (s.dropClass c).bit BG_STAT.IN_FORCE (3 - c) = false ∧ (s.dropClass c).rd BG_EVT.DROP = 1 ∧
      (s.dropClass c).bg.dropAt = some s.tick := by
  unfold State.dropClass
  extract_lets meter a b d
  have ha : a.bit BG_STAT.IN_FORCE (3 - c) = false := bit_wrBit_false ..
  have hb : b.bit BG_STAT.IN_FORCE (3 - c) = false ∧ b.bg.dropAt = some s.tick :=
    ⟨ha, congrArg some (wrBit_tick ..)⟩
  clear_value b
  have hd : d.bit BG_STAT.IN_FORCE (3 - c) = false ∧ d.bg.dropAt = some s.tick := by
    unfold d State.inc
    split
    · rwa [State.bit, rd_wr_off (by decide), wr_bg]
    · split
      · rwa [State.bit, rd_wr_off (by decide), wr_bg]
      · rwa [State.bit, rd_wr_off (by decide), wr_bg]
  clear_value d
  refine ⟨?_, rd_raiseLog_st _ .BG_DROP _ _ (by decide), ?_⟩
  · rw [State.bit, rd_raiseLog_all (by decide)]
    exact hd.1
  · rw [raiseLog_bg, hd.2]

/-- Condition H holds by the die's power: the lowest class in force is dropped. -/
theorem evaluateH_drops {c : Nat} (ho : s.overSafe = true) (hc : s.lowestClass = some c) (hd : s.dropHold = false) :
    s.evaluateH.classInForce c = false ∧ s.evaluateH.rd BG_EVT.DROP = 1 ∧ s.evaluateH.bg.dropAt = some s.tick := by
  have e : s.evaluateH = (s.setBg (fun b => { b with quietAt := none })).dropClass c :=
    (if_pos (by simp [ho])).trans (classDrop_eq hc hd)
  obtain ⟨h1, h2, h3⟩ := dropClass_drops (s.setBg (fun b => { b with quietAt := none })) c
  rw [e, classInForce_eq, h1, Bool.and_false]
  exact ⟨rfl, h2, h3⟩

theorem InPeriod.overSafe (h : InPeriod s u) : u.overSafe = s.overSafe := by
  rw [State.overSafe, State.overSafe, State.inf, State.inf, h.inForce, h.rd _ 1 _ Nat.one_pos (by decide)]

theorem InPeriod.lowestClass (h : InPeriod s u) : u.lowestClass = s.lowestClass := by
  have e : u.classInForce = s.classInForce := by
    funext c
    rw [classInForce_eq, classInForce_eq, State.bit, State.bit, h.rd _ 1 _ Nat.one_pos (by decide)]
  rw [State.lowestClass, State.lowestClass, e]

theorem InPeriod.dropHold (h : InPeriod s u) : u.dropHold = s.dropHold := by
  unfold State.dropHold State.past State.inf
  rw [h.bg, h.tick, h.inForce]

theorem execClassRestore_does {q c : Nat} (hq : s.bg.quietAt = some q)
    (hc : ([1, 2, 3] : List Nat).find? (fun c => !s.classInForce c) = some c)
    (ht : q + 1000 * s.inf BG_CTRL.RESTORE_MS ≤ s.tick) (hh : s.holdover = false) :
    exec .classRestore s = .next (((s.quiet.wrBit BG_STAT.IN_FORCE 0 (3 - c) true).setBg (fun b => { b with
      quietAt := some (s.quiet.wrBit BG_STAT.IN_FORCE 0 (3 - c) true).tick })).raise .BG_RESTORE (arg0 c 0)) := by
  have hq' : s.quiet.bg.quietAt = some q := hq
  have hc' : ([1, 2, 3] : List Nat).find? (fun c => !s.quiet.classInForce c) = some c := hc
  have h : (s.past q (1000 * s.inf BG_CTRL.RESTORE_MS) && !s.quiet.holdover) = true := by
    have hh' : s.quiet.holdover = false := hh
    simp [State.past, ht, hh']
  change execClassRestore s = _
  unfold execClassRestore
  extract_lets a
  rw [show a.bg.quietAt = some q from hq', show List.find? (fun c => !a.classInForce c) [1, 2, 3] = some c from hc']
  exact congrArg Host.Outcome.next (if_pos h)

/-! ### Hints (R231, R233) -/

theorem hint_congr (h : t.bg = s.bg) (k : Nat) : t.hint k = s.hint k := by
  rw [State.hint, State.hint, h]

theorem hint_setHint (s : State) (k : Nat) (h : Option Hint) : (s.setHint k h).hint k = h :=
  Table.get_set_same ..

theorem showHints_bg (s : State) : s.showHints.bg = s.bg := by
  have h : Kept (.guard s [.bg] []) s.showHints := kept_showHints (kept_guard s _ _) rfl rfl rfl
  exact h.spared .bg rfl

theorem restageHints_bg (s : State) : s.restageHints.bg = s.bg := by
  have h : Kept (.guard s [.bg] []) s.restageHints := kept_restageHints (kept_guard s _ _) rfl
  exact h.spared .bg rfl

/-- A request for a voltage leaves the hints and the event queue alone. -/
theorem askVoltage_bg (s : State) (g c sl p : Nat) :
    (s.askVoltage g c sl p).bg = s.bg ∧ (s.askVoltage g c sl p).cad.queue = s.cad.queue := by
  have h : Kept (.guard s [.bg, .cad] []) (s.askVoltage g c sl p) := kept_askVoltage (kept_guard s _ _) rfl rfl rfl rfl rfl
  exact ⟨h.spared .bg rfl, h.cad_spared rfl Cad.queue fun _ => rfl⟩

theorem requestOn_bg (s : State) (n : Nat) : (s.requestOn n).bg = s.bg := by
  have h : Kept (.guard s [.bg] []) (s.requestOn n) := kept_requestOn (kept_guard s _ _) rfl rfl rfl
  exact h.spared .bg rfl

theorem unqueue_bg (s : State) (e : QEvent) : (s.unqueue e).bg = s.bg := by
  unfold State.unqueue
  dsimp only
  split
  · rw [raise_bg, State.inc, wr_bg]
    rfl
  · rfl

/-- A hint that is withdrawn is held no longer. -/
theorem withdraw_hint {h : Hint} (hh : s.hint e = some h) : (s.withdraw e).hint e = none := by
  unfold State.withdraw
  rw [hh]
  dsimp only
  refine upTo_keeps (fun t : State => t.hint e = none) ?_ fun k t ht => ?_
  · rw [hint_congr (restageHints_bg _), hint_congr (showHints_bg _)]
    exact hint_setHint s e none
  · split
    · exact ht
    · split
      · rwa [hint_congr (askVoltage_bg ..).1]
      · exact ht

theorem showHints_EXPIRED (s : State) : s.showHints.rd BG_HINT_CNT.EXPIRED = s.rd BG_HINT_CNT.EXPIRED := by
  unfold State.showHints
  extract_lets hs bitsOf a
  have ha : a.rd BG_HINT_CNT.EXPIRED = s.rd BG_HINT_CNT.EXPIRED :=
    (rd_wr_apart 1 1 (by decide) Nat.one_pos Nat.one_pos _).trans (rd_wr_apart 1 1 (by decide) Nat.one_pos Nat.one_pos _)
  exact upTo_keeps_below (fun t : State => t.rd BG_HINT_CNT.EXPIRED = s.rd BG_HINT_CNT.EXPIRED) ha fun k hk t ht =>
    (rd_wr_apart 1 6 (by decide) Nat.one_pos hk _).trans ht

theorem restageHints_EXPIRED (s : State) : s.restageHints.rd BG_HINT_CNT.EXPIRED = s.rd BG_HINT_CNT.EXPIRED := rfl

theorem askVoltage_EXPIRED (s : State) (g c sl p : Nat) :
    (s.askVoltage g c sl p).rd BG_HINT_CNT.EXPIRED = s.rd BG_HINT_CNT.EXPIRED := by
  have h : Kept (.guard s [] [BG_HINT_CNT.EXPIRED]) (s.askVoltage g c sl p) :=
    kept_askVoltage (kept_guard s _ _) rfl rfl rfl rfl rfl
  exact h.guarded (by simp) 0

theorem withdraw_EXPIRED (s : State) (e : Nat) :
    (s.withdraw e).rd BG_HINT_CNT.EXPIRED = s.rd BG_HINT_CNT.EXPIRED := by
  unfold State.withdraw
  split
  · rfl
  · extract_lets q a
    refine upTo_keeps (fun t : State => t.rd BG_HINT_CNT.EXPIRED = s.rd BG_HINT_CNT.EXPIRED) ?_ fun k t ht => ?_
    · exact (restageHints_EXPIRED _).trans (showHints_EXPIRED _)
    · split
      · exact ht
      · split
        · exact (askVoltage_EXPIRED ..).trans ht
        · exact ht

theorem execHintExpiry_does {h : Hint} (he : e < 8) (hh : s.hint e = some h) (ha : h.active = true) (hb : h.begun = false)
    (ht : h.start + 50 ≤ s.tick) (ho : s.holdover = false) :
    exec (.hintExpiry e) s = .next (((s.quiet.withdraw e).inc BG_HINT_CNT.EXPIRED).raise .BG_HINT_EXPIRED (arg0 e 0)) := by
  have hh' : s.quiet.hint e = some h := hh
  have hc : (h.active && !h.begun && decide (h.start + 50 ≤ s.quiet.tick) && !s.quiet.holdover) = true := by
    have ho' : s.quiet.holdover = false := ho
    simp [ha, hb, ho', ht]
  refine (congrArg Host.Outcome.next (if_neg (not_le.2 he))).trans ?_
  rw [hh']
  exact congrArg Host.Outcome.next (if_pos hc)

theorem execHintEnd_does {h : Hint} (he : e < 8) (hh : s.hint e = some h) (ht : h.start + h.duration ≤ s.tick)
    (ho : s.holdover = false) : exec (.hintEnd e) s = .next (s.quiet.withdraw e) := by
  have hh' : s.quiet.hint e = some h := hh
  have hc : (decide (h.start + h.duration ≤ s.quiet.tick) && !s.quiet.holdover) = true := by
    have ho' : s.quiet.holdover = false := ho
    simp [ho', ht]
  refine (congrArg Host.Outcome.next (if_neg (not_le.2 he))).trans ?_
  rw [hh']
  exact congrArg Host.Outcome.next (if_pos hc)

/-- The pre-stage of hint `e` (R231). -/
def State.prestage (s : State) (e : Nat) (h : Hint) : State :=
  let cs := s.hintClusters h
  let has := fun k => cs.any (fun c => s.rd SWD_CFG.RG c == k)
  let ceil := each 6 (fun k =>
    if has k then
      maxOf ((List.range 256).filter (fun p => decide (s.predicted h k p ≤ ((s.inf RG_LIM_SM.I_MID k : Int) : Rat))))
    else 255)
  let d := each 6 (fun k =>
    if has k then max 0 (s.predicted h k (s.pointInForce k) - ((s.rd RG_I_L.I_ACT k : Int) : Rat)) else 0)
  let pre := each 6 (fun k =>
    let v := s.vgrp k
    let code := s.clampCode k (v.target + s.preRaise k (ratAt d k))
    if has k && v.sent && s.mg.image.isSome then code - v.target else 0)
  let s := (s.setHint e (some { h with active := true, ceil := ceil, deltaI := d, vpre := pre })).showHints
  let s := (cs.filter (fun c => s.dstate c == dOFF && (s.dom c).idleOff && (s.onRefusal c).isNone)).foldl
    (fun s c => s.requestOn c) s
  upTo 6 (fun k s =>
    if at0 pre k = 0 then s
    else let v := s.vgrp k; s.askVoltage k (v.target + at0 pre k) 3 (v.pre + at0 pre k)) s

theorem showHints_queue (s : State) : s.showHints.cad.queue = s.cad.queue := by
  have h : Kept (.guard s [.cad] []) s.showHints := kept_showHints (kept_guard s _ _) rfl rfl rfl
  exact h.cad_spared rfl Cad.queue fun _ => rfl

/-- The hint is active, and the requests leave hints and queue alone. -/
theorem prestage_does (s : State) (e : Nat) (h : Hint) : (s.prestage e h).cad.queue = s.cad.queue ∧
    ∃ h', (s.prestage e h).hint e = some h' ∧ h'.active = true ∧ h'.start = h.start := by
  unfold State.prestage
  extract_lets cs has ceil d pre a b
  refine upTo_keeps (fun t : State => t.cad.queue = s.cad.queue ∧
    ∃ h', t.hint e = some h' ∧ h'.active = true ∧ h'.start = h.start) ?_ fun k t ht => ?_
  · refine foldl_keeps (fun t : State => t.cad.queue = s.cad.queue ∧
      ∃ h', t.hint e = some h' ∧ h'.active = true ∧ h'.start = h.start) ?_ fun t c ht => ?_
    · refine ⟨showHints_queue _, { h with active := true, ceil := ceil, deltaI := d, vpre := pre }, ?_, rfl, rfl⟩
      rw [hint_congr (showHints_bg _), hint_setHint]
    · rwa [requestOn_queue, hint_congr (requestOn_bg ..)]
  · split
    · exact ht
    · dsimp only
      rwa [(askVoltage_bg ..).2, hint_congr (askVoltage_bg ..).1]

theorem execHintPrestage_does {q : QEvent} {h : Hint} (hq : firstDue s.cad.queue = some q) (ha : q.act = .prestage k)
    (hh : s.hint k = some h) : exec .hintPrestage s = .next ((s.quiet.unqueue q).prestage k h) := by
  have hu : (s.quiet.unqueue q).hint k = some h := (hint_congr (unqueue_bg ..) k).trans hh
  change execHintPrestage s = _
  unfold execHintPrestage
  extract_lets a
  rw [takeEvent_of_firstDue (s := a) hq (by rw [ha]), ha]
  change Host.Outcome.next (match (s.quiet.unqueue q).hint k with | none => _ | some h => _) = _
  rw [hu]
  rfl

/-! ### Idle gating, waits and backoff (R218, R235) -/

theorem isCluster_of_lt (h : c < 192) : isCluster c = true := decide_eq_true h

theorem requestOff_of_ON (hs : s.seqState n = dON) : s.requestOff n = (s.wr SWD_STAT.PEND n 2).setDom n
    (fun d => { d with reqTick := s.tick, bound := s.tick + 1, idleOff := false }) := by
  unfold State.requestOff
  rw [hs]
  rfl

theorem execIdleGate_does {p : Nat} (hc : c < 192) (hp : s.present c = true) (ha : s.partOf c = some p)
    (hg : (s.part p).gate = true) (hm : 0 < s.inf BG_CTRL.IDLE_MS)
    (hi : 1000 * s.inf BG_CTRL.IDLE_MS ≤ Table.get 0 s.bg.idle c) (hd : s.dstate c = dON)
    (hq : s.rd SWD_STAT.PEND c ≠ 2) (hh : s.holdover = false) :
    exec (.idleGate c) s = .next ((s.quiet.requestOff c).setDom c (fun d => { d with idleOff := true })) := by
  have ha' : s.quiet.partOf c = some p := ha
  have h : (isCluster c && s.present c && (s.part p).gate && decide (0 < s.inf BG_CTRL.IDLE_MS) &&
      decide (1000 * s.inf BG_CTRL.IDLE_MS ≤ Table.get 0 s.bg.idle c) && s.dstate c == dON &&
      s.rd SWD_STAT.PEND c != 2 && !s.holdover) = true := by
    simp [isCluster_of_lt hc, hp, hg, hm, hi, hd, hq, hh]
  change execIdleGate c s = _
  unfold execIdleGate
  extract_lets a ms gate
  have hgate : gate = (s.part p).gate := by
    unfold gate
    rw [show a.partOf c = some p from ha']
    rfl
  rw [hgate, if_neg (not_le.2 hc)]
  exact congrArg Host.Outcome.next (if_pos h)

theorem waits_present (h : s.waits n = true) : s.present n = true := by
  simp only [State.waits, Bool.and_eq_true] at h
  exact h.1.1

theorem waits_PEND (h : s.waits n = true) : s.rd SWD_STAT.PEND n = 1 := by
  simp only [State.waits, Bool.and_eq_true, beq_iff_eq] at h
  exact h.2

/-- The wait of domain `n` has timed out. -/
def State.timedOut (s : State) (n : Nat) : State :=
  (s.quiet.inc BG_WAIT_CNT.TIMEOUTS).wr SWD_STAT.WAIT_SLOT n 0

theorem execWaitTimeout_does (hw : s.waits n = true) (hb : (s.dom n).backoff = none)
    (ht : (s.dom n).first + s.inf BG_WAIT.TIMEOUT ≤ s.tick) :
    exec (.waitTimeout n) s = .next (if (s.timedOut n).inf BG_WAIT.RETRIES ≤ (s.dom n).tries + 1 then
      (((((s.timedOut n).wr SWD_STAT.PEND n 0).failRequest n stTIMEOUT).endRequest n).inc BG_WAIT_CNT.FAILS).raise
        .BG_WAIT_FAIL (arg0 n 0)
      else (((s.timedOut n).setBg (fun b => { b with lfsr := lfsrNext (s.timedOut n).bg.lfsr })).setDom n (fun d => { d with
        token := none, tries := d.tries + 1,
        backoff := some ((s.timedOut n).tick + 1 + lfsrNext (s.timedOut n).bg.lfsr % 32) }))) := by
  have h : (s.waits n && (s.dom n).backoff.isNone && s.past (s.dom n).first (s.inf BG_WAIT.TIMEOUT)) = true := by
    simp [hw, hb, State.past, ht]
  exact congrArg Host.Outcome.next ((if_neg (not_le.2 (present_lt (waits_present hw)))).trans (if_pos h))

theorem timedOut_inf (s : State) (n : Nat) (F : Fld) (i : Nat) : (s.timedOut n).inf F i = s.inf F i := by
  simp [State.timedOut, State.inc]

theorem timedOut_tick (s : State) (n : Nat) : (s.timedOut n).tick = s.tick := by
  simp [State.timedOut, State.inc]

theorem timedOut_bg (s : State) (n : Nat) : (s.timedOut n).bg = s.bg := by
  simp [State.timedOut, State.inc]

theorem timedOut_dom (s : State) (n : Nat) : (s.timedOut n).dom n = s.dom n := by
  simp [State.timedOut]

theorem execBackoffRetry_does {a : Nat} (hw : s.waits n = true) (hb : (s.dom n).backoff = some a) (ht : a ≤ s.tick) :
    exec (.backoffRetry n) s = .next (s.quiet.setDom n (fun d => { d with backoff := none, first := s.tick })) := by
  have hb' : (s.quiet.dom n).backoff = some a := hb
  have h : (s.quiet.waits n && decide (a ≤ s.quiet.tick)) = true := by
    have hw' : s.quiet.waits n = true := hw
    simp [hw', ht]
  refine (congrArg Host.Outcome.next (if_neg (not_le.2 (present_lt (waits_present hw))))).trans ?_
  rw [hb']
  exact congrArg Host.Outcome.next (if_pos h)

end Sys2Proof.Machine

namespace Sys2Proof
open Sys2Proof.Machine

/-- Settles O30, one branch of the edge's timing after the other. -/
theorem pwmInput : Obligations.PwmInput := by
  unfold Obligations.PwmInput
  refine ⟨?_, ?_, ?_⟩
  · exact fun now r s h hl hh => execCapPwmEdge_rise h hl hh
  · exact fun now r s h => ⟨_, execCapPwmEdge_fall h, rfl, h⟩
  · exact fun s h => ⟨_, congrArg Host.Outcome.next (if_pos (decide_eq_true h)), rfl⟩

/-- Settles O31: the period's writes before condition H (`InPeriodPt`), then H on what they leave alone. -/
theorem budgetPeriods : Obligations.BudgetPeriods := by
  unfold Obligations.BudgetPeriods
  refine ⟨?_, ?_, ?_⟩
  · intro s ht hp hh
    obtain ⟨u, e, hu⟩ := execBudgetPeriod_does ht hp hh
    refine ⟨_, e, ?_, ?_⟩
    · rw [evaluateH_periodAt, hu.bg]
    · intro k hk
      rw [evaluateH_PT_D, hu.pt k hk]
      rfl
  · intro c s ht hp hh ho hc hd
    obtain ⟨u, e, hu⟩ := execBudgetPeriod_does ht hp hh
    have ho' : u.overSafe = true := hu.overSafe.trans (decide_eq_true ho)
    have h := evaluateH_drops ho' (hu.lowestClass.trans hc) (hu.dropHold.trans hd)
    rw [hu.tick] at h
    exact ⟨_, e, h⟩
  · intro q c s hq hc ht hh
    refine ⟨_, execClassRestore_does hq hc ht hh, ?_, rd_raise_st _ .BG_RESTORE _ _ (by decide), ?_⟩
    · have hm : c ∈ [1, 2, 3] := List.mem_of_find?_eq_some hc
      have hb : 1 ≤ c ∧ c ≤ 3 := by simp at hm; omega
      rw [classInForce_eq, State.bit, rd_raise_all (by decide)]
      refine Bool.and_eq_true_iff.2 ⟨by simp [hb], ?_⟩
      exact (bit_wrBit_true _ _ _ (show 3 - c < 3 by omega)).trans (by simp)
    · rw [raise_bg]
      exact congrArg some (wrBit_tick ..)

/-- Settles O32: the requests that a pre-stage and a withdrawal make leave the hints alone. -/
theorem hintLife : Obligations.HintLife := by
  unfold Obligations.HintLife
  refine ⟨?_, ?_, ?_⟩
  · intro q k h s hq ha hh
    have hp := prestage_does (s.quiet.unqueue q) k h
    rw [unqueue_queue] at hp
    exact ⟨_, execHintPrestage_does hq ha hh, hp⟩
  · intro e h s he hh ha hb ht ho
    refine ⟨_, execHintExpiry_does he hh ha hb ht ho, ?_, rd_raise_st _ .BG_HINT_EXPIRED _ _ (by decide), ?_⟩
    · rw [hint_congr (raise_bg ..), State.inc, hint_congr (wr_bg ..)]
      exact withdraw_hint (s := s.quiet) hh
    · rw [rd_raise_off 1 (by decide) (by decide) Nat.one_pos, rd_inc_same, withdraw_EXPIRED]
      rfl
  · intro e h s he hh ht ho
    exact ⟨_, execHintEnd_does he hh ht ho, withdraw_hint (s := s.quiet) hh⟩

/-- Settles O33, each command in the branch that its conditions name. -/
theorem idleAndBackoff : Obligations.IdleAndBackoff := by
  unfold Obligations.IdleAndBackoff
  refine ⟨?_, ?_, ?_, ?_⟩
  · intro c p s hc hp ha hg hm hi hd hf hq hh
    refine ⟨_, execIdleGate_does hc hp ha hg hm hi hd hq hh, ?_, ?_⟩
    · rw [setDom_rd, requestOff_of_ON (s := s.quiet) ((seqState_of_not_forcing (s := s.quiet) hf).trans hd), setDom_rd,
        rd_wr_same]
      rfl
    · rw [dom_setDom]
  · intro n s hw hb ht hr
    refine ⟨_, execWaitTimeout_does hw hb ht, ?_⟩
    rw [timedOut_inf, if_neg (not_le.2 hr)]
    refine ⟨?_, ?_, ?_, ?_⟩
    · rw [dom_setDom]
      exact congrArg (Dom.tries · + 1) (timedOut_dom s n)
    · rw [setDom_rd, setBg_rd, State.timedOut, rd_wr_off (by decide), rd_inc_apart 248 1 (by decide)
        (present_lt (waits_present hw)) Nat.one_pos]
      exact waits_PEND hw
    · rw [dom_setDom, timedOut_tick, timedOut_bg]
    · rw [dom_setDom]
  · intro n s hw hb ht hr
    refine ⟨_, execWaitTimeout_does hw hb ht, ?_⟩
    rw [timedOut_inf, if_pos hr]
    refine ⟨?_, rd_raise_st _ .BG_WAIT_FAIL _ _ (by decide)⟩
    have hn := present_lt (waits_present hw)
    rw [rd_raise_off 248 (by decide) (by decide) hn, rd_inc_apart 248 1 (by decide) hn Nat.one_pos]
    exact (rd_wr_same ..).trans (Nat.zero_mod _)
  · intro n a s hw hb ht
    refine ⟨_, execBackoffRetry_does hw hb ht, ?_, ?_⟩
    · rw [dom_setDom]
    · rw [dom_setDom]

end Sys2Proof
end

section
/-! PROOF. Deferred ageing records and offset steps (R208, R266). -/

namespace Sys2Proof.Machine

variable {s t : State} {c k : Nat}

theorem writeRecord_room (h : s.mg.otp.length < 2048) (o r : Nat) (b : Bool) :
    s.writeRecord o r b = ((s.setMg (fun m => { m with otp := m.otp ++ [s.ageingRecord o r b] })).wr MG_OTP.USED 0
      (s.mg.otp.length + 1)).wr MG_OTP.FREE 0 (2048 - (s.mg.otp.length + 1)) :=
  if_neg (not_le.2 h)

theorem writeRecord_mg (h : s.mg.otp.length < 2048) (o r : Nat) (b : Bool) :
    (s.writeRecord o r b).mg = { s.mg with otp := s.mg.otp ++ [s.ageingRecord o r b] } := by
  rw [writeRecord_room h, wr_mg, wr_mg, setMg_mg]

theorem execOtpDeferredWrite_writes {e : Nat × Option Bool} {q : Table (Option Bool)} (hw : s.rd TH_STAT.WR_OK = 1)
    (hm : s.mg.marks = e :: q) :
    exec .otpDeferredWrite s = .next (((s.quiet.writeRecord (e.1 / 16384) (e.1 % 16384) (e.2.getD false)).setMg
      (fun m => { m with marks := q })).wrB TH_STAT.OTP_PEND 0 (!q.isEmpty)) := by
  have hm' : s.quiet.mg.marks = e :: q := hm
  change execOtpDeferredWrite s = _
  unfold execOtpDeferredWrite
  extract_lets a
  rw [show a.mg.marks = e :: q from hm']
  exact congrArg Host.Outcome.next (if_pos (on_of_one hw))

theorem execOtpDeferredWrite_waits (hw : s.rd TH_STAT.WR_OK ≠ 1) : exec .otpDeferredWrite s = .next s.quiet := by
  have h : ¬ s.quiet.on TH_STAT.WR_OK = true := fun h => hw (on_iff.1 h)
  change execOtpDeferredWrite s = _
  unfold execOtpDeferredWrite
  extract_lets a
  split
  · rfl
  · exact congrArg Host.Outcome.next (if_neg h)

/-! ### Offset steps -/

theorem askVoltage_mg (s : State) (g c sl p : Nat) : (s.askVoltage g c sl p).mg = s.mg := by
  have h : Kept (.guard s [.mg] []) (s.askVoltage g c sl p) := kept_askVoltage (kept_guard s _ _) rfl rfl rfl rfl rfl
  exact h.spared .mg rfl

theorem mgSect_congr (h : t.mg = s.mg) (k : Nat) : t.mgSect k = s.mgSect k := by
  rw [State.mgSect, State.mgSect, h]

theorem mgSect_setMgSect (s : State) (k : Nat) (f : MgSect → MgSect) : (s.setMgSect k f).mgSect k = f (s.mgSect k) :=
  Table.get_upd_same ..

/-- The offsets that a sector has asked for, and the tick of a step. -/
theorem askOffsets_does (h : s.mg.image.isSome = true) (k sl : Nat) (l : List (Nat × Nat)) :
    ((s.askOffsets k sl l).mgSect k).pending = l ∧
      (sl = 0 → ((s.askOffsets k sl l).mgSect k).stepAt = some s.tick) := by
  obtain ⟨im, hi⟩ := Option.isSome_iff_exists.1 h
  unfold State.askOffsets
  rw [hi]
  dsimp only
  rw [mgSect_congr (askVoltage_mg ..), mgSect_setMgSect]
  exact ⟨rfl, fun e => if_pos e⟩

/-- What an offset step asks for: one step, or the whole rise. -/
def State.stepAsk (s : State) (c : Nat) : State :=
  let k := s.rd SWD_CFG.RG c
  let x := s.mgSect k
  if s.sectorOn k then
    if x.stepAt.isNone || s.past (x.stepAt.getD 0) 1000000 then s.askOffsets k 0 [(c, s.rd MG_CL.APPL c + 1)] else s
  else s.askOffsets k 3 [(c, s.offsetTarget c)]

theorem rises_lt (h : s.rises c = true) : c < 192 := by
  simp only [State.rises, Bool.and_eq_true, decide_eq_true_eq] at h
  exact h.1.1.1

theorem execApplStep_does (hr : s.rises c = true) (hk : s.rd SWD_CFG.RG c < 6)
    (hp : (s.mgSect (s.rd SWD_CFG.RG c)).pending = []) (ha : s.canAsk (s.rd SWD_CFG.RG c) = true) :
    exec (.applStep c) s = .next (s.quiet.stepAsk c) := by
  have h : (s.rises c && decide (s.rd SWD_CFG.RG c < 6) && (s.mgSect (s.rd SWD_CFG.RG c)).pending.isEmpty &&
      s.canAsk (s.rd SWD_CFG.RG c)) = true := by
    simp [hr, hk, hp, ha]
  exact congrArg Host.Outcome.next ((if_neg (not_le.2 (rises_lt hr))).trans (if_pos h))

theorem stepAsk_whole (h : s.sectorOn (s.rd SWD_CFG.RG c) = false) :
    s.stepAsk c = s.askOffsets (s.rd SWD_CFG.RG c) 3 [(c, s.offsetTarget c)] :=
  if_neg (ne_true_of_eq_false h)

theorem stepAsk_one (h : s.sectorOn (s.rd SWD_CFG.RG c) = true)
    (ht : (s.mgSect (s.rd SWD_CFG.RG c)).stepAt = none ∨
      ∃ a, (s.mgSect (s.rd SWD_CFG.RG c)).stepAt = some a ∧ a + 1000000 ≤ s.tick) :
    s.stepAsk c = s.askOffsets (s.rd SWD_CFG.RG c) 0 [(c, s.rd MG_CL.APPL c + 1)] := by
  refine (if_pos h).trans (if_pos ?_)
  obtain ht | ⟨a, ha, ht⟩ := ht
  · simp [ht]
  · simp [ha, State.past, ht]

end Sys2Proof.Machine

namespace Sys2Proof
open Sys2Proof.Machine

/-- Settles O29: the record of the first mark, and the offsets that a sector asks for. -/
theorem marginSteps : Obligations.MarginSteps := by
  unfold Obligations.MarginSteps
  refine ⟨?_, ?_, ?_, ?_⟩
  · intro e q s hw hm hl
    have hmg := writeRecord_mg (s := s.quiet) hl (e.1 / 16384) (e.1 % 16384) (e.2.getD false)
    refine ⟨_, execOtpDeferredWrite_writes hw hm, ?_, ?_, ?_⟩
    · rw [State.wrB, wr_mg]
      rfl
    · rw [State.wrB, rd_wr_same]
      cases q <;> rfl
    · rw [State.wrB, wr_mg, setMg_mg, hmg]
      rfl
  · exact fun s hw => ⟨_, execOtpDeferredWrite_waits hw, rfl⟩
  · intro c s hr hk hp ha hi ho
    refine ⟨_, execApplStep_does hr hk hp ha, ?_⟩
    rw [stepAsk_whole (s := s.quiet) ho]
    exact (askOffsets_does (s := s.quiet) hi _ _ _).1
  · intro c s hr hk hp ha hi ho ht
    refine ⟨_, execApplStep_does hr hk hp ha, ?_⟩
    rw [stepAsk_one (s := s.quiet) ho ht]
    have h := askOffsets_does (s := s.quiet) hi (s.rd SWD_CFG.RG c) 0 [(c, s.rd MG_CL.APPL c + 1)]
    exact ⟨h.1, h.2 rfl⟩

end Sys2Proof
end

section
/-! PROOF. The engine's instructions (R157 to R163, R171 to R173): a step at the program counter, what lane A's write buffers
hold after a run of writes, and the value each instruction puts there. -/

namespace Sys2Proof.Machine

variable {s : State} {x : Lane} {i : Ins} {d j m : Nat}

/-! ### One step of the program -/

theorem laneExec_quiet (s : State) (L : Nat) (i : Ins) (x : Lane) : s.quiet.laneExec L i x = s.laneExec L i x := rfl

/-- A lane's run of its instruction: the lane as the instruction leaves it, with its cycles; the program counter stands. -/
theorem runLane_A (s : State) (st : Nat) :
    (s.runLane 0 st).eng.pc = s.eng.pc ∧
      (s.runLane 0 st).eng.laneA = { (s.laneExec 0 (s.insAt 0 s.eng.pc) s.eng.laneA).1 with
        cycles := s.eng.laneA.cycles + (s.insAt 0 s.eng.pc).cycles + st,
        ended := ((s.insAt 0 s.eng.pc).op == 0x3F) &&
          decide (s.eng.laneA.cycles + (s.insAt 0 s.eng.pc).cycles + st ≤ 700) } := by
  unfold State.runLane
  extract_lets i r cyc y u
  have hu : u.eng.pc = s.eng.pc ∧ u.eng.laneA = { (s.laneExec 0 (s.insAt 0 s.eng.pc) s.eng.laneA).1 with
      cycles := s.eng.laneA.cycles + (s.insAt 0 s.eng.pc).cycles + st,
      ended := ((s.insAt 0 s.eng.pc).op == 0x3F) &&
        decide (s.eng.laneA.cycles + (s.insAt 0 s.eng.pc).cycles + st ≤ 700) } := ⟨rfl, rfl⟩
  clear_value u
  split
  · have he : (upTo r.2 (fun _ s => (s.inc ENG_CNT.SAT).raise .ENG_SAT) u).eng = u.eng :=
      upTo_keeps (fun t : State => t.eng = u.eng) rfl fun _ t ht => by rw [raise_eng, State.inc, wr_eng, ht]
    have hp : ∀ t : State, (t.traceEvent 7).eng.pc = t.eng.pc ∧ (t.traceEvent 7).eng.laneA = t.eng.laneA :=
      fun _ => ⟨rfl, rfl⟩
    rw [(hp _).1, (hp _).2, he]
    exact hu
  · exact hu

/-- The other lane's run leaves lane A and the program counter alone. -/
theorem runLane_B (s : State) (st : Nat) :
    (s.runLane 1 st).eng.pc = s.eng.pc ∧ (s.runLane 1 st).eng.laneA = s.eng.laneA := by
  unfold State.runLane
  extract_lets i r cyc y u
  rw [if_neg (by simp)]
  exact ⟨rfl, rfl⟩

/-- Lane A after an instruction of opcode `op` at the program counter. -/
theorem engineStep_A {op : Nat} (h : AtInstruction s op i) (e : EngErr) :
    (s.quiet.engineStep op e).eng.pc = s.eng.pc + 1 ∧
      (s.quiet.engineStep op e).eng.laneA = { (s.laneExec 0 i s.eng.laneA).1 with
        cycles := s.eng.laneA.cycles + i.cycles + e.stallA,
        ended := (i.op == 0x3F) && decide (s.eng.laneA.cycles + i.cycles + e.stallA ≤ 700) } := by
  obtain ⟨hr, hi, ho⟩ := h
  have hc : (s.quiet.eng.running && (s.quiet.insAt 0 s.quiet.eng.pc).op == op) = true := by
    change (s.eng.running && (s.insAt 0 s.eng.pc).op == op) = true
    simp [hr, hi, ho]
  unfold State.engineStep
  rw [if_pos hc]
  obtain ⟨hb1, hb2⟩ := runLane_B (s.quiet.runLane 0 e.stallA) e.stallB
  obtain ⟨ha1, ha2⟩ := runLane_A s.quiet e.stallA
  constructor
  · exact congrArg (· + 1) (hb1.trans ha1)
  · refine (hb2.trans ha2).trans ?_
    rw [show s.quiet.insAt 0 s.quiet.eng.pc = i from hi]
    rfl

/-! ### Runs of writes -/

theorem putA_below {vs : List Int} {k : Nat} (h : k < d) : (x.putA d vs).a k = x.a k := by
  induction vs generalizing x d with
  | nil => rfl
  | cons v vs ih =>
    rw [Lane.putA, ih (Nat.lt_succ_of_lt h)]
    exact Table.get_set_ne _ _ _ _ (Nat.ne_of_gt h)

/-- The accumulator at the `j`-th place of a run of writes. -/
theorem putA_a {vs : List Int} {v : Int} (h : vs[j]? = some v) : (x.putA d vs).a (d + j) = v := by
  induction vs generalizing x d j with
  | nil => simp at h
  | cons w vs ih =>
    cases j with
    | zero =>
      obtain rfl : w = v := by simpa using h
      show (Lane.putA _ (d + 1) vs).a d = w
      rw [putA_below d.lt_add_one]
      exact Table.get_set_same ..
    | succ j =>
      rw [Lane.putA, show d + (j + 1) = d + 1 + j by omega]
      exact ih (by simpa using h)

/-- One write of a data word. -/
def Lane.pokeD (held : Nat → Bool) (x : Lane) (d : Nat) (v : Int) : Lane :=
  let sig := sigRecord x.sig d 0 v
  let t := fun (t : Table (Option Nat)) => Table.set none t d (some (ofSigned 16 v))
  let x := if held d then { x with hdata := t x.hdata } else { x with wdata := t x.wdata }
  { x with sig := sig }

theorem putD_cons (held : Nat → Bool) (x : Lane) (d : Nat) (v : Int) (vs : List Int) :
    x.putD held d (v :: vs) = (x.pokeD held d v).putD held (d + 1) vs := rfl

theorem pokeD_same {held : Nat → Bool} {v : Int} (h : held d = false) :
    Table.get none (x.pokeD held d v).wdata d = some (ofSigned 16 v) := by
  simp [Lane.pokeD, h]

theorem pokeD_ne {held : Nat → Bool} {v : Int} {k : Nat} (h : d ≠ k) :
    Table.get none (x.pokeD held d v).wdata k = Table.get none x.wdata k := by
  unfold Lane.pokeD
  dsimp only
  split
  · rfl
  · exact Table.get_set_ne none none x.wdata (some (ofSigned 16 v)) h

theorem putD_below {held : Nat → Bool} {vs : List Int} {k : Nat} (h : k < d) :
    Table.get none (x.putD held d vs).wdata k = Table.get none x.wdata k := by
  induction vs generalizing x d with
  | nil => rfl
  | cons v vs ih => rw [putD_cons, ih (Nat.lt_succ_of_lt h), pokeD_ne (Nat.ne_of_gt h)]

theorem putD_wdata {held : Nat → Bool} {vs : List Int} {v : Int} (h : vs[j]? = some v) (hh : held (d + j) = false) :
    Table.get none (x.putD held d vs).wdata (d + j) = some (ofSigned 16 v) := by
  induction vs generalizing x d j with
  | nil => simp at h
  | cons w vs ih =>
    cases j with
    | zero =>
      obtain rfl : w = v := by simpa using h
      show Table.get none (x.putD held d (w :: vs)).wdata d = _
      rw [putD_cons, putD_below d.lt_add_one]
      exact pokeD_same hh
    | succ j =>
      have e : d + (j + 1) = d + 1 + j := by omega
      rw [e] at hh ⊢
      exact ih (by simpa using h) hh

/-- The data word at the `j`-th place of a run of writes, where no open set holds it. -/
theorem putD_d {held : Nat → Bool} {vs : List Int} {v : Int} (h : vs[j]? = some v) (hh : held (d + j) = false) :
    (x.putD held d vs).d 0 (d + j) = toSigned 16 (ofSigned 16 v) := by
  rw [Lane.d, putD_wdata h hh]

theorem putW_of_not_mem {l : List (Nat × Int)} {k : Nat} (h : ∀ p ∈ l, p.1 ≠ k) :
    Table.get none (x.putW l).winteg k = Table.get none x.winteg k := by
  induction l generalizing x with
  | nil => rfl
  | cons p l ih =>
    obtain ⟨a, v⟩ := p
    show Table.get none (Lane.putW _ l).winteg k = _
    rw [ih fun q hq => h q (List.mem_cons_of_mem _ hq)]
    exact Table.get_set_ne none none x.winteg (some (ofSigned 40 v)) (h (a, v) List.mem_cons_self)

/-- The integrator entry of one of the writes at distinct addresses. -/
theorem putW_w {l : List (Nat × Int)} {k : Nat} {v : Int} (hd : (l.map Prod.fst).Nodup) (h : (k, v) ∈ l) :
    (x.putW l).w 0 k = toSigned 40 (ofSigned 40 v) := by
  have hw : Table.get none (x.putW l).winteg k = some (ofSigned 40 v) := by
    induction l generalizing x with
    | nil => exact absurd h List.not_mem_nil
    | cons p l ih =>
      obtain ⟨a, w⟩ := p
      rw [List.map_cons, List.nodup_cons] at hd
      show Table.get none (Lane.putW _ l).winteg k = _
      obtain e | h := List.mem_cons.1 h
      · obtain ⟨rfl, rfl⟩ := Prod.mk.inj e
        rw [putW_of_not_mem fun q hq hk => hd.1 (List.mem_map.2 ⟨q, hq, hk⟩)]
        exact Table.get_set_same none x.winteg k (some (ofSigned 40 v))
      · exact ih hd.2 h
  rw [Lane.w, hw]

theorem each_get {α : Type} {f : Nat → α} (h : j < m) : (each m f)[j]? = some (f j) := by
  simp [each, h]

theorem each_map_get {α β : Type} {f : Nat → α} {g : α → β} (h : j < m) : ((each m f).map g)[j]? = some (g (f j)) := by
  simp [each, h]

theorem pairs_get {α : Type} {f g : Nat → α} (h : j < m) :
    ((List.range m).flatMap (fun u => [f u, g u]))[2 * j]? = some (f j) := by
  induction m with
  | zero => exact absurd h (Nat.not_lt_zero j)
  | succ m ih =>
    have hl : ((List.range m).flatMap (fun u => [f u, g u])).length = 2 * m := by
      simp [List.length_flatMap, Nat.mul_comm]
    rw [List.range_succ, List.flatMap_append]
    obtain h | rfl := Nat.lt_succ_iff_lt_or_eq.1 h
    · rw [List.getElem?_append_left (by omega)]
      exact ih h
    · rw [List.getElem?_append_right (by omega), hl, Nat.sub_self]
      rfl

/-- A value within the 16-bit range stands when it is stored and read. -/
theorem toSigned_ofSigned_clamp (v : Int) :
    toSigned 16 (ofSigned 16 (clampI (-32768) 32767 v)) = clampI (-32768) 32767 v := by
  have hl : -32768 ≤ clampI (-32768) 32767 v ∧ clampI (-32768) 32767 v ≤ 32767 := by
    unfold clampI
    omega
  generalize clampI (-32768) 32767 v = c at hl
  simp only [toSigned, ofSigned]
  norm_num
  omega

/-! ### What each instruction writes (Table 6.2) -/

variable {L : Nat}

theorem laneExec_nop (h : i.op = 0) : (s.laneExec L i x).1 = x := by
  unfold State.laneExec
  rw [h]
  rfl

theorem laneExec_lda (h : i.op = 1) :
    (s.laneExec L i x).1 = x.putA i.d (each i.m (fun j => x.d L (i.s + j) * 2 ^ 15)) := by
  unfold State.laneExec
  rw [h]
  rfl

theorem regionBase_of_not_rel (h : i.rel = false) : s.regionBase i = 0 :=
  if_neg (ne_true_of_eq_false h)

theorem laneExec_mvm (h : i.op = 2) (hm : i.mod = 0) (hr : i.rel = false) :
    (s.laneExec L i x).1 = x.putA i.d ((each i.m (fun j => sat40 (0 + s.dot L x (16 * i.c + i.n * j) i.s i.n))).map (·.1)) := by
  unfold State.laneExec
  rw [h, hm, regionBase_of_not_rel hr]
  rfl

theorem laneExec_vmul (h : i.op = 3) (hm : i.mod = 0) (hr : i.rel = false) :
    (s.laneExec L i x).1 = x.putA i.d
      ((each i.m (fun j => sat40 (0 + s.coef L (16 * i.c + j) * x.d L (i.s + j)))).map (·.1)) := by
  unfold State.laneExec
  rw [h, hm, regionBase_of_not_rel hr]
  rfl

theorem laneExec_addi (h : i.op = 4) :
    (s.laneExec L i x).1 = x.putA i.d ((each i.m (fun j => sat40 (x.a (i.d + j) + x.w L (i.s + j)))).map (·.1)) := by
  unfold State.laneExec
  rw [h]
  rfl

theorem laneExec_rnd (h : i.op = 5) :
    (s.laneExec L i x).1 = x.putD s.heldWord i.d ((each i.m (fun j => roundAcc (x.a (i.s + j)) i.sh)).map (·.1)) := by
  unfold State.laneExec
  rw [h]
  rfl

theorem laneExec_sub (h : i.op = 6) : (s.laneExec L i x).1 = x.putD s.heldWord i.d
    ((each i.m (fun j => sat16 (x.d L (i.s + j) - x.d L (i.c + j)))).map (·.1)) := by
  unfold State.laneExec
  rw [h]
  rfl

theorem laneExec_clmp (h : i.op = 7) (hr : i.rel = false) : (s.laneExec L i x).1 = x.putD s.heldWord i.d
    (each i.m (fun j =>
      min (max (x.d L (i.s + j)) (s.coef L (16 * i.c + 2 * j))) (s.coef L (16 * i.c + 2 * j + 1)))) := by
  unfold State.laneExec
  rw [h, regionBase_of_not_rel hr]
  rfl

/-- The write of integrator entry `i.d + j` (R172). -/
def State.intgWrite (s : State) (L : Nat) (i : Ins) (x : Lane) (j : Nat) : Nat × Int :=
  (i.d + j, clampI (s.coef L (16 * i.c + 3 * j + 1) * 2 ^ 15) (s.coef L (16 * i.c + 3 * j + 2) * 2 ^ 15)
    (x.w L (i.d + j) + s.coef L (16 * i.c + 3 * j) * x.d L (i.s + j)))

theorem laneExec_intg (h : i.op = 8) (hr : i.rel = false) : (s.laneExec L i x).1 =
    x.putW (((List.range i.m).filter (fun j => s.integrates x L (i.d + j))).map (s.intgWrite L i x)) := by
  unfold State.laneExec
  rw [h, regionBase_of_not_rel hr]
  rfl

theorem laneExec_cvt (h : i.op = 9) :
    (s.laneExec L i x).1 = x.putD s.heldWord i.d (each i.m (fun j => cvtLevel i.mod (x.d L (i.s + j)))) := by
  unfold State.laneExec
  rw [h]
  rfl

theorem laneExec_minsel (h : i.op = 0xA) (hm : i.mod = 0) : (s.laneExec L i x).1 = x.putD s.heldWord i.d
    ((List.range i.m).flatMap (fun u => [(s.sectorSel (x.d L) u).pt, ((s.sectorSel (x.d L) u).code : Int)])) := by
  unfold State.laneExec
  rw [h, hm]
  rfl

theorem laneExec_mov (h : i.op = 0xB) :
    (s.laneExec L i x).1 = x.putD s.heldWord i.d (each i.m (fun j => x.d L (i.s + j))) := by
  unfold State.laneExec
  rw [h]
  rfl

theorem intgWrite_nodup (s : State) (i : Ins) (x : Lane) (p : Nat → Bool) :
    ((((List.range m).filter p).map (s.intgWrite L i x)).map Prod.fst).Nodup := by
  rw [List.map_map]
  exact (List.nodup_range.filter _).map fun a b h => Nat.add_left_cancel h

/-- A step of the program whose effect on lane A is known. -/
theorem engineStep_reads {op : Nat} {y : Lane} (h : AtInstruction s op i) (e : EngErr)
    (hy : (s.laneExec 0 i s.eng.laneA).1 = y) :
    (s.quiet.engineStep op e).eng.pc = s.eng.pc + 1 ∧ (∀ k, (s.quiet.engineStep op e).eng.laneA.a k = y.a k) ∧
      (∀ k, (s.quiet.engineStep op e).eng.laneA.d 0 k = y.d 0 k) ∧
      ∀ k, (s.quiet.engineStep op e).eng.laneA.w 0 k = y.w 0 k := by
  obtain ⟨h1, h2⟩ := engineStep_A h e
  rw [hy] at h2
  rw [h2]
  exact ⟨h1, fun _ => rfl, fun _ => rfl, fun _ => rfl⟩

end Sys2Proof.Machine

namespace Sys2Proof
open Sys2Proof.Machine

/-- Settles O34: lane A after the step, accumulator by accumulator. -/
theorem accumulatorInstructions : Obligations.AccumulatorInstructions := by
  unfold Obligations.AccumulatorInstructions
  refine ⟨?_, ?_, ?_, ?_, ?_⟩
  · intro i e s h
    obtain ⟨h1, h2⟩ := engineStep_A h e
    refine ⟨_, rfl, h1, ?_⟩
    have hc : i.cycles = 1 := by
      rw [Ins.cycles, h.2.2]
      rfl
    rw [h2, laneExec_nop h.2.2, hc]
    exact ⟨rfl, rfl, rfl, rfl⟩
  · intro i e s h
    obtain ⟨h1, h2, -⟩ := engineStep_reads h e (laneExec_lda h.2.2)
    exact ⟨_, rfl, h1, fun j hj => (h2 _).trans (putA_a (each_get hj))⟩
  · intro i e s h hm hr
    obtain ⟨h1, h2, -⟩ := engineStep_reads h e (laneExec_mvm h.2.2 hm hr)
    refine ⟨_, rfl, h1, fun j hj => (h2 _).trans ((putA_a (each_map_get hj)).trans ?_)⟩
    rw [Int.zero_add]
    rfl
  · intro i e s h hm hr
    obtain ⟨h1, h2, -⟩ := engineStep_reads h e (laneExec_vmul h.2.2 hm hr)
    refine ⟨_, rfl, h1, fun j hj => (h2 _).trans ((putA_a (each_map_get hj)).trans ?_)⟩
    rw [Int.zero_add]
    rfl
  · intro i e s h
    obtain ⟨h1, h2, -⟩ := engineStep_reads h e (laneExec_addi h.2.2)
    exact ⟨_, rfl, h1, fun j hj => (h2 _).trans (putA_a (each_map_get hj))⟩

/-- Settles O35: lane A after the step, word by word and entry by entry. -/
theorem dataInstructions : Obligations.DataInstructions := by
  unfold Obligations.DataInstructions
  refine ⟨?_, ?_, ?_, ?_, ?_, ?_, ?_⟩
  · intro i e s h
    obtain ⟨h1, -, h2, -⟩ := engineStep_reads h e (laneExec_rnd h.2.2)
    refine ⟨_, rfl, h1, fun j hj hh => (h2 _).trans ((putD_d (each_map_get hj) hh).trans ?_)⟩
    exact (toSigned_ofSigned_clamp _).trans (by rw [Nat.sub_right_comm])
  · intro i e s h
    obtain ⟨h1, -, h2, -⟩ := engineStep_reads h e (laneExec_sub h.2.2)
    exact ⟨_, rfl, h1, fun j hj hh =>
      (h2 _).trans ((putD_d (each_map_get hj) hh).trans (toSigned_ofSigned_clamp _))⟩
  · intro i e s h hr
    obtain ⟨h1, -, h2, -⟩ := engineStep_reads h e (laneExec_clmp h.2.2 hr)
    exact ⟨_, rfl, h1, fun j hj hh => (h2 _).trans (putD_d (each_get hj) hh)⟩
  · intro i e s h hr
    obtain ⟨h1, -, -, h2⟩ := engineStep_reads h e (laneExec_intg h.2.2 hr)
    refine ⟨_, rfl, h1, fun j hj hi => (h2 _).trans (putW_w (intgWrite_nodup s i _ _) ?_)⟩
    exact List.mem_map.2 ⟨j, List.mem_filter.2 ⟨List.mem_range.2 hj, hi⟩, rfl⟩
  · intro i e s h
    obtain ⟨h1, -, h2, -⟩ := engineStep_reads h e (laneExec_cvt h.2.2)
    exact ⟨_, rfl, h1, fun j hj hh => (h2 _).trans (putD_d (each_get hj) hh)⟩
  · intro i e s h hm
    obtain ⟨h1, -, h2, -⟩ := engineStep_reads h e (laneExec_minsel h.2.2 hm)
    exact ⟨_, rfl, h1, fun j hj hh => (h2 _).trans (putD_d (pairs_get hj) hh)⟩
  · intro i e s h
    obtain ⟨h1, -, h2, -⟩ := engineStep_reads h e (laneExec_mov h.2.2)
    exact ⟨_, rfl, h1, fun j hj hh => (h2 _).trans (putD_d (each_get hj) hh)⟩

end Sys2Proof
end
section
/-! PROOF. Messages on the pace links and on the sideband: what sending and receiving one changes and what it drives; the
supervision of the pace lanes (O39). -/

namespace Sys2Proof.Machine

variable {s t u : State}

/-! ### Setting a bit of a field -/

theorem testBit_sub_two_pow_ne {x b c : Nat} (h : x.testBit b = true) (hc : c ≠ b) :
    (x - 2 ^ b).testBit c = x.testBit c := by
  have hx : x - 2 ^ b + 2 ^ b = x := by
    rw [Nat.testBit_eq_decide_div_mod_eq, decide_eq_true_eq] at h
    have : x / 2 ^ b ≠ 0 := fun e => by omega
    exact Nat.sub_add_cancel (Nat.le_of_not_lt fun k => this (Nat.div_eq_of_lt k))
  have e := testBit_add_two_pow (c := c) (testBit_sub_two_pow h)
  rw [hx] at e
  simpa [show (c == b) = false by simpa using hc] using e.symm

/-- The bits of a field after one of them is cleared. -/
theorem bit_wrBit_clear (s : State) (F : Fld) (i : Nat) {b c : Nat} (hc : c < F.width) :
    (s.wrBit F i b false).bit F c i = (s.bit F c i && c != b) := by
  by_cases e : c = b
  · subst e
    simp [bit_wrBit_false]
  · have hb : (c != b) = true := by simp [e]
    rw [hb, Bool.and_true]
    unfold State.wrBit State.bit
    by_cases h : (s.rd F i).testBit b = true
    · simp [h, Nat.testBit_mod_two_pow, hc, testBit_sub_two_pow_ne h e]
    · simp [h]

/-! ### What the link layer may change -/

/-- Work of the link layer: in the carrier's state the links, the sequence numbers kept and the next ones; of the register
fields those that some field of `fs` touches. -/
structure MsgWork (fs : List Fld) (s t : State) : Prop where
  tick : t.tick = s.tick
  inForce : t.inForce = s.inForce
  pel : t.pel = s.pel
  entered : t.fw.entered = s.fw.entered
  queue : t.cad.queue = s.cad.queue
  car : ∃ l k q, t.car = { s.car with links := l, keeps := k, seqOut := q }
  rd : ∀ F i, fs.all F.off = true → t.rd F i = s.rd F i

namespace MsgWork

variable {fs gs : List Fld}

theorem refl (s : State) : MsgWork fs s s := ⟨rfl, rfl, rfl, rfl, rfl, ⟨_, _, _, rfl⟩, fun _ _ _ => rfl⟩

theorem trans (h : MsgWork fs s t) (k : MsgWork fs t u) : MsgWork fs s u := by
  obtain ⟨a, b, c, e⟩ := h.car
  obtain ⟨a', b', c', e'⟩ := k.car
  exact ⟨k.tick.trans h.tick, k.inForce.trans h.inForce, k.pel.trans h.pel, k.entered.trans h.entered,
    k.queue.trans h.queue, ⟨a', b', c', by rw [e', e]⟩, fun F i hF => (k.rd F i hF).trans (h.rd F i hF)⟩

theorem mono (h : MsgWork fs s t) (hg : ∀ F ∈ fs, F ∈ gs) : MsgWork gs s t :=
  { h with rd := fun F i hF => h.rd F i (List.all_eq_true.2 fun G hG => List.all_eq_true.1 hF G (hg G hG)) }

theorem quiet (s : State) : MsgWork fs s s.quiet := ⟨rfl, rfl, rfl, rfl, rfl, ⟨_, _, _, rfl⟩, fun _ _ _ => rfl⟩

theorem takeFree (s : State) (w : Nat) : MsgWork fs s (s.takeFree w).2 :=
  ⟨rfl, rfl, rfl, rfl, rfl, ⟨_, _, _, rfl⟩, fun _ _ _ => rfl⟩

theorem newHeader (s : State) (ty hops : Nat) : MsgWork fs s (s.newHeader ty hops).2 :=
  ⟨rfl, rfl, rfl, rfl, rfl, ⟨_, _, _, rfl⟩, fun _ _ _ => rfl⟩

theorem setPace (s : State) (l : Nat) (f : Pace → Pace) : MsgWork fs s (s.setPace l f) :=
  ⟨rfl, rfl, rfl, rfl, rfl, ⟨_, _, _, rfl⟩, fun _ _ _ => rfl⟩

theorem setKeep (s : State) (h : Nat) (f : SeqKeep → SeqKeep) : MsgWork fs s (s.setKeep h f) :=
  ⟨rfl, rfl, rfl, rfl, rfl, ⟨_, _, _, rfl⟩, fun _ _ _ => rfl⟩

theorem drive (s : State) (e : Emission) : MsgWork fs s (s.drive e) :=
  ⟨rfl, rfl, rfl, rfl, rfl, ⟨_, _, _, rfl⟩, fun _ _ _ => rfl⟩

theorem putLane (s : State) (e : Emission) (l : Nat) : MsgWork fs s (s.putLane e l) :=
  (drive s e).trans (setPace _ _ _)

theorem putLanes (f : Nat → Emission) (ls : List Nat) (s : State) :
    MsgWork fs s (ls.foldl (fun s l => s.putLane (f l) l) s) :=
  foldl_keeps (MsgWork fs s) (refl s) fun _ _ h => h.trans (putLane _ _ _)

theorem wr (s : State) (F : Fld) (i v : Nat) : MsgWork (F :: fs) s (s.wr F i v) :=
  ⟨wr_tick .., wr_inForce .., wr_pel .., congrArg _ (wr_fw ..), congrArg _ (wr_cad ..), ⟨_, _, _, wr_car ..⟩,
    fun _ _ h => rd_wr_off (Bool.and_eq_true_iff.1 h).1 _⟩

theorem wrBit (s : State) (F : Fld) (i b : Nat) (v : Bool) : MsgWork (F :: fs) s (s.wrBit F i b v) :=
  ⟨wrBit_tick .., wrBit_inForce .., wrBit_pel .., congrArg _ (wrBit_fw ..), congrArg _ (wrBit_cad ..),
    ⟨_, _, _, wrBit_car ..⟩, fun _ _ h => rd_wrBit_off (Bool.and_eq_true_iff.1 h).1 _ _⟩

theorem inc (s : State) (F : Fld) (i : Nat) : MsgWork (F :: fs) s (s.inc F i) := wr s F i _

/-- Logging is work of the link layer's kind. -/
theorem of_log (h : LogOnly s t) : MsgWork logFields s t :=
  ⟨h.tick, h.inForce, h.pel, h.fw_part Fw.entered fun _ _ _ => rfl, h.cad_part Cad.queue fun _ _ => rfl,
    ⟨_, _, _, h.car⟩, fun F i hF => h.rd F i (Fld.not_logKeys hF i)⟩

end MsgWork

theorem msgRecord_logs (s : State) (a b : Bool) (h f : Nat) : LogOnly s (s.msgRecord a b h f) := by
  unfold State.msgRecord
  split
  · exact LogOnly.fwRec _ _
  · exact LogOnly.refl _

theorem msgRecord_emit (s : State) (a b : Bool) (h f : Nat) : (s.msgRecord a b h f).emit = s.emit :=
  (msgRecord_logs s a b h f).emit

theorem putLanes_emit (f : Nat → Emission) (ls : List Nat) (s : State) :
    (ls.foldl (fun s l => s.putLane (f l) l) s).emit = s.emit ++ ls.map f := by
  induction ls generalizing s with
  | nil => simp
  | cons l ls ih =>
    rw [List.foldl_cons, ih]
    simp [State.putLane, State.drive, State.setPace]

/-! ### Sending -/

theorem flood_header (s : State) (ty : Nat) (body : List Nat) (frac : Nat) :
    (s.flood ty body frac).1 = mkHeader ty 15 s.die s.carrier (Table.get 0 s.car.seqOut ty) := rfl

theorem flood_work (s : State) (ty : Nat) (body : List Nat) (frac : Nat) : MsgWork logFields s (s.flood ty body frac).2 :=
  (((MsgWork.newHeader s ty 15).trans (.putLanes _ _ _)).trans (.setKeep _ _ _)).trans (.of_log (msgRecord_logs _ _ _ _ _))

theorem flood_emit (s : State) (ty : Nat) (body : List Nat) (frac : Nat) :
    (s.flood ty body frac).2.emit =
      s.emit ++ ([0, 1, 2, 3].filter s.laneUp).map (fun l => .pace l (ownWords s ty 15 body)) :=
  (msgRecord_emit _ _ _ _ _).trans (putLanes_emit _ _ _)

theorem sideband_header (s : State) (ty : Nat) (body : List Nat) (dest frac : Nat) :
    (s.sideband ty body dest frac).1 = mkHeader ty 0 s.die s.carrier (Table.get 0 s.car.seqOut ty) := rfl

theorem sideband_work (s : State) (ty : Nat) (body : List Nat) (dest frac : Nat) :
    MsgWork logFields s (s.sideband ty body dest frac).2 :=
  (((MsgWork.newHeader s ty 0).trans (.drive _ _)).trans (.setKeep _ _ _)).trans (.of_log (msgRecord_logs _ _ _ _ _))

theorem sideband_emit (s : State) (ty : Nat) (body : List Nat) (dest frac : Nat) :
    (s.sideband ty body dest frac).2.emit = s.emit ++ [.sideband dest (ownWords s ty 0 body)] :=
  msgRecord_emit _ _ _ _ _

/-! ### Receiving -/

theorem forwardCopies_work {fs : List Fld} (s : State) (l : Nat) (ws : List Nat) (good : Bool) :
    MsgWork fs s (s.forwardCopies l ws good) := by
  unfold State.forwardCopies
  extract_lets h c a
  have ha : MsgWork fs s a := .putLanes (fun m => if good then .pace m c else .paceAborted m c) _ _
  clear_value a
  split
  · exact ha.trans (.setKeep _ _ _)
  · exact ha

theorem forwardCopies_emit (s : State) (l : Nat) (ws : List Nat) :
    (s.forwardCopies l ws true).emit = s.emit ++ (([0, 1, 2, 3].filter s.laneUp).filter (· != l)).map
      (fun m => .pace m (withHops (at0 ws 0) (hdrHops (at0 ws 0) - 1) :: ws.drop 1)) :=
  putLanes_emit _ _ _

theorem laneValid_work (s : State) (l : Nat) : MsgWork [CAR_STAT.LINK_UP] s (s.laneValid l) := by
  unfold State.laneValid
  extract_lets n a
  have ha : MsgWork [CAR_STAT.LINK_UP] s a := .setPace _ _ _
  clear_value a
  split
  · exact ha
  · exact ha.trans (.wrBit _ _ _ _ _)

theorem laneValid_emit (s : State) (l : Nat) : (s.laneValid l).emit = s.emit := by
  unfold State.laneValid
  extract_lets n a
  split
  · rfl
  · exact wrBit_emit _ _ _ _ _

theorem laneValid_car (s : State) (l : Nat) : (s.laneValid l).car = (s.setPace l fun p =>
    { p with heard := some s.tick, good := (s.pace l).good + 1 }).car := by
  unfold State.laneValid
  extract_lets n a
  split
  · rfl
  · exact wrBit_car _ _ _ _ _

theorem actOn_work (s : State) (side : Bool) (h frac : Nat) (free : Bool) :
    MsgWork (CAR_RXMSG.MSGS :: logFields) s (s.actOn side h frac free) :=
  ((MsgWork.setKeep s _ _).trans (.inc _ _ _)).trans ((MsgWork.of_log (msgRecord_logs _ _ _ _ _)).mono fun _ h => List.mem_cons_of_mem _ h)

theorem actOn_emit (s : State) (side : Bool) (h frac : Nat) (free : Bool) : (s.actOn side h frac free).emit = s.emit :=
  (msgRecord_emit _ _ _ _ _).trans (inc_emit _ _ _)

theorem actOn_counts (s : State) (side : Bool) (h frac : Nat) (free : Bool) : ActedOn s (s.actOn side h frac free) :=
  ((msgRecord_logs _ _ _ _ _).rd _ _ (by decide)).trans (rd_inc_same _ _ _)

/-- A good message on lane `l`: forwarded where its header says so, counted for its lane. -/
def State.laneTakes (s : State) (l : Nat) (ws : List Nat) : State :=
  (if s.forwards (at0 ws 0) then s.forwardCopies l ws true else s).laneValid l

/-- The same message acted on. -/
def State.paceTakes (s : State) (l : Nat) (ws : List Nat) (frac : Nat) : State :=
  (s.laneTakes l ws).actOn false (at0 ws 0) frac (s.seqFree (at0 ws 0))

/-- The fields that a message acted on writes, whatever its type. -/
def actFields : List Fld := CAR_STAT.LINK_UP :: CAR_RXMSG.MSGS :: logFields

theorem laneTakes_work (s : State) (l : Nat) (ws : List Nat) : MsgWork [CAR_STAT.LINK_UP] s (s.laneTakes l ws) := by
  unfold State.laneTakes
  split
  · exact (forwardCopies_work _ _ _ _).trans (laneValid_work _ _)
  · exact laneValid_work _ _

theorem paceTakes_work (s : State) (l : Nat) (ws : List Nat) (frac : Nat) :
    MsgWork actFields s (s.paceTakes l ws frac) :=
  ((laneTakes_work s l ws).mono (by simp [actFields])).trans ((actOn_work _ _ _ _ _).mono fun _ h => List.mem_cons_of_mem _ h)

theorem paceTakes_counts (s : State) (l : Nat) (ws : List Nat) (frac : Nat) : ActedOn s (s.paceTakes l ws frac) := by
  have h := actOn_counts (s.laneTakes l ws) false (at0 ws 0) frac (s.seqFree (at0 ws 0))
  rwa [ActedOn, (laneTakes_work s l ws).rd _ _ (by decide)] at h

theorem paceTakes_emit (s : State) (l : Nat) (ws : List Nat) (frac : Nat) :
    (s.paceTakes l ws frac).emit = s.emit ++ if s.forwards (at0 ws 0) = true then
      (([0, 1, 2, 3].filter s.laneUp).filter (· != l)).map
        (fun m => .pace m (withHops (at0 ws 0) (hdrHops (at0 ws 0) - 1) :: ws.drop 1)) else [] := by
  refine (actOn_emit _ _ _ _ _).trans ((laneValid_emit _ _).trans ?_)
  split
  · exact forwardCopies_emit _ _ _
  · simp

theorem shaped_type {ty : Nat} {ws : List Nat} (h : shaped ty ws = true) :
    (hdrType (at0 ws 0) != ty || (messageWords ty).isNone) = false := by
  unfold shaped at h
  obtain ⟨h1, h2⟩ := Bool.and_eq_true_iff.1 h
  rw [beq_iff_eq] at h1 h2
  simp [h1, h2]

theorem laneEnabled_lt {l : Nat} (h : s.laneEnabled l = true) : l < 4 := by
  simp only [State.laneEnabled, Bool.and_eq_true, decide_eq_true_eq] at h
  exact h.1

theorem paceIn_good {l ty : Nat} {ws : List Nat} (h : PaceGood s l ty ws) (frac : Nat) {can : State → Bool}
    (act : State → State) (hc : can (s.laneTakes l ws) = true) :
    s.paceIn l ty ws frac can act = act (s.paceTakes l ws frac) := by
  obtain ⟨he, hs, hm, hn⟩ := h
  unfold State.paceIn
  dsimp only
  rw [he, shaped_type hs, hm, hs, hn]
  exact if_pos hc

theorem paceIn_stale {l ty : Nat} {ws : List Nat} (he : s.laneEnabled l = true) (hs : shaped ty ws = true)
    (hm : messageOk ws = true) (hn : s.seqNew (at0 ws 0) = false) (frac : Nat) (can : State → Bool) (act : State → State) :
    s.paceIn l ty ws frac can act = (s.laneTakes l ws).inc CAR_ERR.STALE := by
  unfold State.paceIn
  dsimp only
  rw [he, shaped_type hs, hm, hs, hn]
  rfl

theorem sidebandIn_good {ty : Nat} {ws : List Nat} (h : SidebandGood s ty ws) (frac : Nat) {can : State → Bool}
    (act : State → State) (hc : can s = true) :
    s.sidebandIn ty ws frac can act = act (s.actOn true (at0 ws 0) frac true) := by
  obtain ⟨hs, hm, hn⟩ := h
  unfold State.sidebandIn
  dsimp only
  rw [hm, hs, hn]
  exact if_pos hc

theorem sidebandIn_refused {ty : Nat} {ws : List Nat} (h : SidebandGood s ty ws) (frac : Nat) {can : State → Bool}
    (act : State → State) (hc : can s = false) : s.sidebandIn ty ws frac can act = s := by
  obtain ⟨hs, hm, hn⟩ := h
  unfold State.sidebandIn
  dsimp only
  rw [hm, hs, hn]
  exact if_neg (ne_true_of_eq_false hc)

/-! ### Supervision of the lanes -/

theorem pace_setPace_same (s : State) (l : Nat) (f : Pace → Pace) : (s.setPace l f).pace l = f (s.pace l) :=
  Table.get_upd_same ..

theorem pace_setPace_ne (s : State) {l m : Nat} (f : Pace → Pace) (h : m ≠ l) : (s.setPace l f).pace m = s.pace m :=
  Table.get_upd_ne _ _ _ h.symm

theorem laneValid_pace (s : State) (l m : Nat) : (s.laneValid l).pace m =
    (s.setPace l fun p => { p with heard := some s.tick, good := (s.pace l).good + 1 }).pace m :=
  congrArg (fun c : Car => Table.get ({} : Pace) c.links m) (laneValid_car s l)

theorem laneValid_LINK_UP (s : State) {l m : Nat} (hl : l < 4) (hm : m < 4) :
    (s.laneValid l).bit CAR_STAT.LINK_UP (3 - m) =
      (s.bit CAR_STAT.LINK_UP (3 - m) || m == l && decide (4 ≤ (s.pace l).good + 1)) := by
  have e : (3 - m == 3 - l) = (m == l) := by
    rw [Bool.eq_iff_iff, beq_iff_eq, beq_iff_eq]
    omega
  unfold State.laneValid
  extract_lets n a
  split
  · next h =>
    change s.bit _ _ = _
    rcases Bool.or_eq_true_iff.1 h with h | h
    · by_cases k : m = l
      · subst k
        change s.bit _ _ = true at h
        rw [h, Bool.true_or]
      · simp [k]
    · have hn : ¬ 4 ≤ (s.pace l).good + 1 := Nat.not_le.2 (of_decide_eq_true h)
      simp [hn]
  · next h =>
    rw [Bool.or_eq_true, not_or, decide_eq_true_eq, Nat.not_lt] at h
    have hn : 4 ≤ (s.pace l).good + 1 := h.2
    rw [bit_wrBit_true _ _ _ (show 3 - m < 4 by omega), e, decide_eq_true hn, Bool.and_true]
    rfl

theorem exec_keepSend {l : Nat} (he : s.laneEnabled l = true) (hp : (s.pace l).sent + 10 ≤ s.tick)
    (hh : s.holdover = false) :
    exec (.keepSend l) s = .next (((s.quiet.takeFree 4).2.newHeader mKEEP (s.quiet.takeFree 4).1).2.putLane
      (.pace l (ownWords s mKEEP (s.quiet.takeFree 4).1 [])) l) := by
  have he' : s.quiet.laneEnabled l = true := he
  have hh' : s.quiet.holdover = false := hh
  have hp' : s.past (s.pace l).sent 10 = true := decide_eq_true hp
  exact congrArg Host.Outcome.next ((if_neg (Nat.not_le.2 (laneEnabled_lt he))).trans (if_pos (by simp [he', hh', hp'])))

theorem exec_paceLinkDown {l : Nat} (hl : l < 4) : exec (.paceLinkDown l) s = .next
    (if s.bit CAR_STAT.LINK_UP (3 - l) && s.past ((s.pace l).heard.getD 0) 30 then
      ((((s.quiet.wrBit CAR_STAT.LINK_UP 0 (3 - l) false).setPace l (fun p => { p with good := 0 })).inc
        CAR_ERR.LINKDOWN).raise .CAR_LINK_DOWN (arg0 l 0))
    else s.quiet) :=
  congrArg Host.Outcome.next (if_neg (Nat.not_le.2 hl))

theorem exec_keep {l : Nat} {ws : List Nat} (he : s.laneEnabled l = true) : exec (.keep l ws) s = .next
    (if shaped mKEEP ws && messageOk ws then s.quiet.laneValid l else s.quiet.badMessage) := by
  have he' : s.quiet.laneEnabled l = true := he
  refine congrArg Host.Outcome.next ((if_neg (Nat.not_le.2 (laneEnabled_lt he))).trans (if_neg ?_))
  simp [he']

theorem badMessage_counts (s : State) : CountedBad s s.quiet.badMessage ∧ s.quiet.badMessage.car = s.car ∧
    s.quiet.badMessage.emit = [] :=
  ⟨rd_inc_same _ _ _, inc_car _ _ _, inc_emit _ _ _⟩

end Sys2Proof.Machine

namespace Sys2Proof

open Sys2Proof.Machine

/-- Settles O39: a KEEP sent and a link taken down are what the command's equation says; a KEEP heard is `laneValid`
(`laneValid_pace`, `laneValid_LINK_UP`), and a bad message is only counted (`badMessage_counts`). -/
theorem paceLinks : Obligations.PaceLinks := by
  unfold Obligations.PaceLinks
  refine ⟨?_, ?_, ?_, ?_, ?_, ?_, ?_⟩
  · intro l s he hp hh
    refine ⟨_, exec_keepSend he hp hh, ?_, ?_, _, Nat.mod_lt _ (by decide), rfl⟩
    · exact congrArg Pace.sent (pace_setPace_same _ _ _)
    · exact Table.get_set_same ..
  · intro l s hl hb hp
    refine ⟨_, (exec_paceLinkDown hl).trans (congrArg _ (if_pos (by simpa [State.past, hb] using hp))), ?_, ?_, ?_, ?_⟩
    · rw [State.pace, raise_car, inc_car]
      exact congrArg Pace.good (pace_setPace_same _ _ _)
    · exact rd_raise_st _ .CAR_LINK_DOWN _ _ (by decide)
    · intro m hm
      have e : (3 - m != 3 - l) = (m != l) := by
        rw [Bool.eq_iff_iff, bne_iff_ne, bne_iff_ne]
        omega
      rw [State.bit, rd_raise_all (by decide), rd_inc_off (by decide)]
      exact (bit_wrBit_clear _ _ _ (show 3 - m < 4 by omega)).trans (by rw [e]; rfl)
    · rw [rd_raise_all (by decide), rd_inc_same]
      exact congrArg (fun v => (v + 1) % 2 ^ CAR_ERR.LINKDOWN.width) (rd_wrBit_off (by decide) _ _)
  · intro l s hp
    by_cases hl : l < 4
    · refine ⟨_, (exec_paceLinkDown hl).trans (congrArg _ (if_neg ?_)), rfl⟩
      simp [State.past, Nat.not_le.2 hp]
    · exact ⟨_, congrArg Host.Outcome.next (if_pos (Nat.le_of_not_lt hl)), rfl⟩
  · intro l ws s he hs hm
    refine ⟨_, (exec_keep he).trans (congrArg _ (if_pos (by simp [hs, hm]))), ?_, ?_, ?_, ?_, ?_⟩
    · rw [laneValid_pace, pace_setPace_same]
      rfl
    · rw [laneValid_pace, pace_setPace_same]
      rfl
    · exact laneValid_emit _ _
    · intro m _ hne
      rw [laneValid_pace, pace_setPace_ne _ _ hne]
      rfl
    · exact fun m hm => laneValid_LINK_UP s.quiet (laneEnabled_lt he) hm
  · intro l ws s he hb
    refine ⟨_, (exec_keep he).trans (congrArg _ (if_neg ?_)), badMessage_counts s⟩
    rcases hb with hb | hb <;> simp [hb]
  · exact fun s => ⟨_, rfl, badMessage_counts s⟩
  · exact fun l s he => ⟨_, congrArg Host.Outcome.next (if_pos he), badMessage_counts s⟩

end Sys2Proof
end
section
/-! PROOF. Reports and the live set of the carrier (O40). -/

namespace Sys2Proof.Machine

variable {s t u : State}

/-! ### The live set as shown -/

theorem showLive_LIVE (s : State) {d : Nat} (hd : d < 64) :
    s.showLive.bit CAR_LIVE.LIVE d = (s.bit CAR_LIVE.LIVE d || s.carrierOn && d == s.die) := by
  unfold State.showLive
  extract_lets a
  rw [State.bit, rd_wr_off (by decide), rd_wr_off (by decide)]
  change a.bit CAR_LIVE.LIVE d = _
  unfold a
  split
  · next h => rw [bit_wrBit_true _ _ _ (show d < 64 from hd), h, Bool.true_and]
  · next h => rw [Bool.eq_false_iff.2 h, Bool.false_and, Bool.or_false]

/-- The fields that show the live set. -/
def liveFields : List Fld := [CAR_LIVE.LIVE, CAR_STAT.LIVE, CAR_STAT.DESIGNATED]

theorem showLive_work (s : State) : MsgWork liveFields s s.showLive := by
  unfold State.showLive
  extract_lets a
  have ha : MsgWork liveFields s a := by
    unfold a
    split
    · exact .wrBit _ _ _ _ _
    · exact .refl _
  clear_value a
  exact (ha.trans ((MsgWork.wr (fs := []) _ _ _ _).mono (by simp [liveFields]))).trans
    ((MsgWork.wr (fs := []) _ _ _ _).mono (by simp [liveFields]))

theorem showLive_emit (s : State) : s.showLive.emit = s.emit := by
  unfold State.showLive
  rw [wr_emit, wr_emit]
  split
  · exact wrBit_emit _ _ _ _ _
  · rfl

theorem showLive_car (s : State) : s.showLive.car = s.car := by
  unfold State.showLive
  rw [wr_car, wr_car]
  split
  · exact wrBit_car _ _ _ _ _
  · rfl

/-! ### A REPORT acted on -/

theorem reportOf_storeReport (s : State) (d : Nat) (r : Rep) : (s.storeReport d r).reportOf d = some r := by
  unfold State.reportOf State.reportsOf State.storeReport
  rw [setCar_car, Table.get_upd_same]
  rfl

/-- The die that a message of words `ws` comes from. -/
abbrev senderOf (ws : List Nat) : Nat := hdrDie (at0 ws 0) % 64

/-- The report stored and its die live; whether the die joins is decided afterwards. -/
def State.noteReport (s : State) (ws : List Nat) : State :=
  (((s.storeReport (senderOf ws) (reportWords ws s.tick)).wrBit CAR_LIVE.LIVE 0 (senderOf ws) true).memberFlags
    (senderOf ws) (bits 6 4 (at0 ws 4))).showLive

theorem actReport_eq (s : State) (ws : List Nat) : s.actReport ws =
    if s.isLive (senderOf ws) = true then s.noteReport ws
    else (s.noteReport ws).raise .CAR_MEMBER_JOIN (arg0 (senderOf ws) 0) := rfl

theorem noteReport_LIVE (s : State) (ws : List Nat) : (s.noteReport ws).bit CAR_LIVE.LIVE (senderOf ws) = true := by
  have hd : senderOf ws < 64 := Nat.mod_lt _ (by decide)
  rw [State.noteReport, showLive_LIVE _ hd]
  refine Bool.or_eq_true_iff.2 (.inl ?_)
  exact (bit_wrBit_true _ _ _ (show senderOf ws < 64 from hd)).trans (by simp)

theorem noteReport_reportOf (s : State) (ws : List Nat) :
    (s.noteReport ws).reportOf (senderOf ws) = some (reportWords ws s.tick) := by
  rw [State.reportOf, State.reportsOf, State.noteReport, showLive_car, State.memberFlags, setPel_car, wrBit_car]
  exact reportOf_storeReport _ _ _

theorem noteReport_rd (s : State) (ws : List Nat) {F : Fld} {i : Nat} (h : liveFields.all F.off = true) :
    (s.noteReport ws).rd F i = s.rd F i :=
  ((showLive_work _).rd F i h).trans (rd_wrBit_off (Bool.and_eq_true_iff.1 h).1 _ _)

theorem noteReport_emit (s : State) (ws : List Nat) : (s.noteReport ws).emit = s.emit :=
  (showLive_emit _).trans (wrBit_emit _ _ _ _ _)

theorem isLive_congr {d : Nat} (h : t.rd CAR_LIVE.LIVE = s.rd CAR_LIVE.LIVE) (hd : t.die = s.die) :
    t.isLive d = s.isLive d := by
  rw [State.isLive, State.isLive, State.bit, h, hd]
  rfl

/-- A REPORT acted on: what its words say is kept, its die is live, and one that was not live has joined. -/
theorem actReport_spec (s : State) (ws : List Nat) :
    (s.actReport ws).bit CAR_LIVE.LIVE (senderOf ws) = true ∧
    (s.actReport ws).reportOf (senderOf ws) = some (reportWords ws s.tick) ∧
    (s.actReport ws).rd CAR_RXMSG.MSGS = s.rd CAR_RXMSG.MSGS ∧ (s.actReport ws).emit = s.emit ∧
    (s.isLive (senderOf ws) = false → (s.actReport ws).rd CAR_EVT.MEMBER_JOIN = 1) := by
  rw [actReport_eq]
  split
  · next h =>
    exact ⟨noteReport_LIVE s ws, noteReport_reportOf s ws, noteReport_rd s ws (by decide), noteReport_emit s ws,
      fun k => absurd h (ne_true_of_eq_false k)⟩
  · refine ⟨?_, ?_, ?_, ?_, fun _ => rd_raise_st _ .CAR_MEMBER_JOIN _ _ (by decide)⟩
    · rw [State.bit, rd_raise_all (by decide)]
      exact noteReport_LIVE s ws
    · rw [State.reportOf, State.reportsOf, raise_car]
      exact noteReport_reportOf s ws
    · rw [rd_raise_all (by decide), noteReport_rd s ws (by decide)]
    · rw [raise_emit, noteReport_emit]

theorem exec_report {l : Nat} {ws : List Nat} (h : PaceGood s l mREPORT ws) :
    exec (.report l ws) s = .next ((s.quiet.paceTakes l ws 0).actReport ws) :=
  congrArg Host.Outcome.next ((if_neg (Nat.not_le.2 (laneEnabled_lt h.1))).trans
    (paceIn_good (s := s.quiet) h 0 (State.actReport ws) rfl))

theorem exec_report_stale {l : Nat} {ws : List Nat} (he : s.laneEnabled l = true) (hs : shaped mREPORT ws = true)
    (hm : messageOk ws = true) (hn : s.seqNew (at0 ws 0) = false) :
    exec (.report l ws) s = .next ((s.quiet.laneTakes l ws).inc CAR_ERR.STALE) :=
  congrArg Host.Outcome.next ((if_neg (Nat.not_le.2 (laneEnabled_lt he))).trans
    (paceIn_stale (s := s.quiet) he hs hm hn 0 _ _))

/-! ### This governor's own report -/

/-- What a governor reports of itself, but for the SEQ. -/
def State.ownReport (s : State) : Rep :=
  { epoch := if s.carRole = rMEMBER then s.car.obeyEpoch.getD 0 else s.rd CAR_EPOCH_HELD.EPOCH,
    demand := sat16n s.car.demand, minimum := sat16n s.car.minimum, safe := sat16n (s.inf BG_HARD.P_SAFE),
    meas := sat16n (s.rd EM_PDIE.P_1MS), offer := s.rd PEL_STAT.OFFER, dragPt := s.pel.dragPt,
    rank := s.inf CAR_CFG.RANK, elig := s.infOn CAR_CFG.ELIG, role := s.carRole, flags := s.ownFlags, tick := s.tick }

/-- The report flooded; the report is in `s.car.reportAt`. -/
def State.floodReport (s : State) : Nat × State :=
  (s.setCar fun c => { c with reportAt := some s.tick }).flood mREPORT (reportBody s) 0

/-- The report flooded and kept as this die's own. -/
def State.sendReport (s : State) : State :=
  ((s.floodReport.2.storeReport s.floodReport.2.die { s.ownReport with seq := hdrSeq s.floodReport.1 }).memberFlags
    s.floodReport.2.die s.ownReport.flags).showLive

theorem exec_reportSend (ht : s.tick % 100 = 0) (hc : s.carrierOn = true) (hh : s.holdover = false)
    (ha : s.car.reportAt ≠ some s.tick) : exec .reportSend s = .next s.quiet.sendReport := by
  have hc' : s.quiet.carrierOn = true := hc
  have hh' : s.quiet.holdover = false := hh
  exact congrArg Host.Outcome.next (if_pos (by simp [ht, hc', hh', ha]))

theorem sendReport_car (s : State) :
    s.sendReport.car.reportAt = some s.tick ∧
    s.sendReport.reportOf s.die = some { s.ownReport with seq := hdrSeq s.floodReport.1 } := by
  have hw : MsgWork logFields (s.setCar fun c => { c with reportAt := some s.tick }) s.floodReport.2 := flood_work _ _ _ _
  have hd : s.floodReport.2.die = s.die := hw.rd _ _ (by decide)
  obtain ⟨a, b, c, hcar⟩ := hw.car
  constructor
  · rw [State.sendReport, showLive_car]
    exact congrArg Car.reportAt hcar
  · rw [State.reportOf, State.reportsOf, State.sendReport, showLive_car, hd]
    exact reportOf_storeReport _ _ _

theorem sendReport_emit (s : State) (h : s.emit = []) : Flooded s s.sendReport mREPORT (reportBody s) := by
  unfold Flooded State.sendReport
  rw [showLive_emit]
  exact (flood_emit _ _ _ _).trans (by rw [setCar_emit, h, List.nil_append]; rfl)

/-! ### A member lost -/

theorem exec_memberLost {d : Nat} (hd : d < 64) (hne : d ≠ s.die) (hb : s.bit CAR_LIVE.LIVE d = true)
    (hr : ∀ r, s.reportOf d = some r → r.tick + 300 ≤ s.tick) : exec (.memberLost d) s = .next
      (((((s.quiet.wrBit CAR_LIVE.LIVE 0 d false).setCar fun c => { c with reports := Table.set [] c.reports d [] }).setPel
        fun p => { p with memberDrag := Table.set false p.memberDrag d false,
                          memberCant := Table.set false p.memberCant d false }).showLive).raise .CAR_MEMBER_LOST (arg0 d 0)) := by
  have hne' : (d != s.quiet.die) = true := bne_iff_ne.2 hne
  have hb' : s.quiet.bit CAR_LIVE.LIVE d = true := hb
  have hr' : (match s.quiet.reportOf d with | some r => s.quiet.past r.tick 300 | none => true) = true := by
    change (match s.reportOf d with | some r => s.quiet.past r.tick 300 | none => true) = true
    cases hx : s.reportOf d with
    | none => rfl
    | some r => exact decide_eq_true (hr r hx)
  exact congrArg Host.Outcome.next (if_pos (Bool.and_eq_true_iff.2
    ⟨by rw [hne', hb', decide_eq_true hd]; rfl, hr'⟩))

end Sys2Proof.Machine

namespace Sys2Proof

open Sys2Proof.Machine

/-- Settles O40: a REPORT acted on is `actReport_spec` after the link layer's work (`paceTakes_counts`, `paceTakes_emit`); the
own report is `sendReport`; a die lost is the command's equation with `showLive_LIVE`. -/
theorem reportsAndLiveSet : Obligations.ReportsAndLiveSet := by
  unfold Obligations.ReportsAndLiveSet
  refine ⟨?_, ?_, ?_, ?_, ?_⟩
  · intro l ws s h
    have hw := paceTakes_work s.quiet l ws 0
    obtain ⟨hlive, hrep, hrx, -, hjoin⟩ := actReport_spec (s.quiet.paceTakes l ws 0) ws
    refine ⟨_, exec_report h, hlive, ?_, ?_, fun k => hjoin ?_⟩
    · exact hrx.trans (paceTakes_counts s.quiet l ws 0)
    · rw [hrep, hw.tick]
      rfl
    · rw [isLive_congr (hw.rd _ _ (by decide)) (hw.rd _ _ (by decide))]
      exact k
  · intro l ws s h hf
    obtain ⟨-, -, -, hemit, -⟩ := actReport_spec (s.quiet.paceTakes l ws 0) ws
    refine ⟨_, exec_report h, hemit.trans ((paceTakes_emit _ _ _ _).trans ?_)⟩
    exact (congrArg _ (if_pos hf)).trans (List.nil_append _)
  · intro l ws s he hs hm hn
    have hw := laneTakes_work s.quiet l ws
    refine ⟨_, exec_report_stale he hs hm hn, ?_, ?_, ?_⟩
    · rw [rd_inc_same, hw.rd _ _ (by decide)]
      rfl
    · obtain ⟨a, b, c, hc⟩ := hw.car
      rw [inc_car, hc]
      rfl
    · rw [rd_inc_off (by decide), hw.rd _ _ (by decide)]
      rfl
  · intro s ht hc hh ha
    obtain ⟨hat, hrep⟩ := sendReport_car s.quiet
    exact ⟨_, exec_reportSend ht hc hh ha, hat, sendReport_emit s.quiet rfl, _, hrep, rfl, rfl, rfl⟩
  · intro d s hd hne hb hr
    refine ⟨_, exec_memberLost hd hne hb hr, ?_, ?_, rd_raise_st _ .CAR_MEMBER_LOST _ _ (by decide)⟩
    · rw [State.bit, rd_raise_all (by decide)]
      refine (showLive_LIVE _ hd).trans (Bool.or_eq_false_iff.2 ⟨bit_wrBit_false s.quiet CAR_LIVE.LIVE 0 d, ?_⟩)
      rw [Bool.and_eq_false_iff]
      refine .inr (beq_eq_false_iff_ne.2 fun e => hne (e.trans ?_))
      exact rd_wrBit_off (by decide) _ _
    · rw [State.reportOf, State.reportsOf, raise_car, showLive_car, setPel_car, setCar_car, Table.get_set_same]
      rfl

end Sys2Proof
end
section
/-! PROOF. Drag and the paceline (O43). -/

namespace Sys2Proof.Machine

variable {s t u : State}

/-! ### What a DRAG message says -/

/-- The register fields that the points in force and the ON clusters are read from. -/
def pointFields : List Fld :=
  [SWD_STAT.STATE, SWD_CFG.PRESENT, SWD_CFG.RG, RG_STAT.CEIL, RG_CFG.TYPE, RC_STAT.HOLDOVER]

theorem pointInForce_congr (he : t.eng = s.eng) (hrc : t.rc = s.rc) (hi : t.inForce = s.inForce)
    (hf : ∀ F ∈ pointFields, ∀ n, t.rd F n = s.rd F n) (k : Nat) : t.pointInForce k = s.pointInForce k := by
  have hceil : ∀ g, t.ceil g = s.ceil g := fun g => by
    unfold State.ceil
    rw [hf RG_CFG.TYPE (by simp [pointFields]), hf RG_STAT.CEIL (by simp [pointFields])]
  unfold State.pointInForce State.rimCeil State.hubPoint State.infOn State.inf State.on
  rw [hceil, hceil, he, hrc, hi, hf RC_STAT.HOLDOVER (by simp [pointFields])]

theorem onSectors_congr (hf : ∀ F ∈ pointFields, ∀ n, t.rd F n = s.rd F n) : t.onSectors = s.onSectors := by
  have hp : t.present = s.present := funext fun n => by
    unfold State.present State.on
    rw [hf SWD_CFG.PRESENT (by simp [pointFields])]
  have hg : ∀ n, t.rd SWD_CFG.RG n = s.rd SWD_CFG.RG n := hf SWD_CFG.RG (by simp [pointFields])
  have hs : t.dstate = s.dstate := funext (hf SWD_STAT.STATE (by simp [pointFields]))
  simp only [State.onSectors, State.sectorClusters, State.clusters, hp, hg, hs]

theorem lowestPoint_congr (he : t.eng = s.eng) (hrc : t.rc = s.rc) (hi : t.inForce = s.inForce)
    (hf : ∀ F ∈ pointFields, ∀ n, t.rd F n = s.rd F n) : t.lowestPoint = s.lowestPoint := by
  unfold State.lowestPoint
  rw [onSectors_congr hf, funext (pointInForce_congr he hrc hi hf)]

theorem lowestPoint_wr {F : Fld} (v : Nat) (h : pointFields.all (Fld.off · F) = true) :
    (s.wr F 0 v).lowestPoint = s.lowestPoint :=
  lowestPoint_congr (wr_eng ..) (wr_rc ..) (wr_inForce ..) fun G hG _ => rd_wr_off (List.all_eq_true.1 h G hG) _

/-- The body of this governor's DRAG message. -/
def State.dragBody (s : State) : List Nat := [s.lowestPoint * 2 ^ 24 + s.ownFlags * 2 ^ 21]

theorem ownWords_congr (hc : t.car.seqOut = s.car.seqOut) (hd : t.die = s.die) (hk : t.carrier = s.carrier) (ty hops : Nat)
    (body : List Nat) : ownWords t ty hops body = ownWords s ty hops body := by
  unfold ownWords
  rw [hc, hd, hk]

theorem laneUp_congr (hi : t.inForce = s.inForce) (hu : t.rd CAR_STAT.LINK_UP = s.rd CAR_STAT.LINK_UP) (l : Nat) :
    t.laneUp l = s.laneUp l := by
  unfold State.laneUp State.laneEnabled State.inf State.bit
  rw [hi, hu]

theorem holdover_congr (h : t.rd RC_STAT.HOLDOVER = s.rd RC_STAT.HOLDOVER) (he : t.fw.entered = s.fw.entered) :
    t.holdover = s.holdover := by
  unfold State.holdover State.on
  rw [h, he]

theorem flooded_congr {ty : Nat} {body : List Nat} (hc : t.car.seqOut = s.car.seqOut) (hd : t.die = s.die) (hk : t.carrier = s.carrier)
    (hi : t.inForce = s.inForce) (hu : t.rd CAR_STAT.LINK_UP = s.rd CAR_STAT.LINK_UP) (h : Flooded t u ty body) :
    Flooded s u ty body := by
  unfold Flooded at h ⊢
  rw [h, ownWords_congr hc hd hk, funext (laneUp_congr hi hu)]

theorem sendDrag_floods (s : State) (h : s.emit = []) (hh : s.holdover = false) : Flooded s s.sendDrag mDRAG s.dragBody := by
  unfold State.sendDrag
  extract_lets a
  rw [if_neg (ne_true_of_eq_false (show a.holdover = false from hh))]
  exact (flood_emit _ _ _ _).trans (by rw [show a.emit = [] from h, List.nil_append]; rfl)

theorem sendDrag_rd (s : State) {F : Fld} {i : Nat} (h : logFields.all F.off = true) :
    s.sendDrag.rd F i = s.rd F i := by
  unfold State.sendDrag
  extract_lets a
  split
  · rfl
  · exact (flood_work _ _ _ _).rd F i h

/-- The fields that a message of this governor and its lanes are read from. -/
def floodFields : List Fld := [CAR_CFG.DIE, CAR_CFG.CARRIER, CAR_STAT.LINK_UP, RC_STAT.HOLDOVER]

theorem sendDrag_floods_of (hc : t.car = s.car) (hi : t.inForce = s.inForce) (he : t.emit = [])
    (hf : t.fw.entered = s.fw.entered)
    (hr : ∀ F ∈ floodFields, t.rd F = s.rd F)
    (hh : s.holdover = false) : Flooded s t.sendDrag mDRAG t.dragBody :=
  flooded_congr (congrArg Car.seqOut hc) (hr CAR_CFG.DIE (by simp [floodFields])) (hr CAR_CFG.CARRIER (by simp [floodFields])) hi (hr CAR_STAT.LINK_UP (by simp [floodFields]))
    (sendDrag_floods t he ((holdover_congr (hr RC_STAT.HOLDOVER (by simp [floodFields])) hf).trans hh))

theorem dragRise_floods (s : State) (h : s.emit = []) (hh : s.holdover = false) : Flooded s s.dragRise mDRAG
    [s.lowestPoint * 2 ^ 24 + (4 + 2 * s.rd PEL_STAT.CANT_FOLLOW + s.rd CAD_STAT.CADENCE_LOST) * 2 ^ 21] := by
  unfold State.dragRise
  extract_lets a
  have hf : floodFields.all (fun F => F.off PEL_STAT.DRAG && F.off PEL_CNT.DRAGS) = true := by decide
  have hr : ∀ F ∈ floodFields, a.rd F = s.rd F := fun F hF => by
    have := Bool.and_eq_true_iff.1 (List.all_eq_true.1 hf F hF)
    exact (rd_inc_off this.2).trans (rd_wr_off this.1 _)
  have hl : a.lowestPoint = s.lowestPoint := (lowestPoint_wr _ (by decide)).trans (lowestPoint_wr _ (by decide))
  have hd : a.rd PEL_STAT.DRAG = 1 := (rd_inc_off (by decide)).trans (rd_wr_same ..)
  have hc : a.rd PEL_STAT.CANT_FOLLOW = s.rd PEL_STAT.CANT_FOLLOW := (rd_inc_off (by decide)).trans (rd_wr_off (by decide) _)
  have hk : a.rd CAD_STAT.CADENCE_LOST = s.rd CAD_STAT.CADENCE_LOST :=
    (rd_inc_off (by decide)).trans (rd_wr_off (by decide) _)
  have hfl : Flooded s a.sendDrag mDRAG a.dragBody :=
    sendDrag_floods_of (by simp [a]) (by simp [a]) (by simp [a, h]) (by simp [a]) hr hh
  rw [State.dragBody, State.ownFlags, hl, hd, hc, hk] at hfl
  rw [Flooded, raise_emit]
  exact hfl

/-- DRAG and CANT_FOLLOW cleared. -/
def State.clearDrag (s : State) : State :=
  ((s.wr PEL_STAT.DRAG 0 0).wr PEL_STAT.CANT_FOLLOW 0 0).setPel fun p => { p with periods := 0 }

theorem clearDrag_rd (s : State) (F : Fld) (i : Nat) :
    s.clearDrag.rd F i = ((s.wr PEL_STAT.DRAG 0 0).wr PEL_STAT.CANT_FOLLOW 0 0).rd F i := rfl

theorem clearDrag_floods (s : State) (h : s.emit = []) (hh : s.holdover = false) : Flooded s s.clearDrag.sendDrag mDRAG
    [s.lowestPoint * 2 ^ 24 + s.rd CAD_STAT.CADENCE_LOST * 2 ^ 21] := by
  have hf : floodFields.all (fun F => F.off PEL_STAT.DRAG && F.off PEL_STAT.CANT_FOLLOW) = true := by decide
  have hr : ∀ F ∈ floodFields, s.clearDrag.rd F = s.rd F := fun F hF => by
    have := Bool.and_eq_true_iff.1 (List.all_eq_true.1 hf F hF)
    exact (clearDrag_rd s F 0).trans ((rd_wr_off this.2 _).trans (rd_wr_off this.1 _))
  have hl : s.clearDrag.lowestPoint = s.lowestPoint := (lowestPoint_wr _ (by decide)).trans (lowestPoint_wr _ (by decide))
  have hd : s.clearDrag.rd PEL_STAT.DRAG = 0 := (rd_wr_off (by decide) _).trans (rd_wr_same ..)
  have hc : s.clearDrag.rd PEL_STAT.CANT_FOLLOW = 0 := (clearDrag_rd ..).trans (rd_wr_same ..)
  have hk : s.clearDrag.rd CAD_STAT.CADENCE_LOST = s.rd CAD_STAT.CADENCE_LOST :=
    (rd_wr_off (by decide) _).trans (rd_wr_off (by decide) _)
  have hfl : Flooded s s.clearDrag.sendDrag mDRAG s.clearDrag.dragBody :=
    sendDrag_floods_of (by simp [State.clearDrag]) (by simp [State.clearDrag]) (by simp [State.clearDrag, h])
      (by simp [State.clearDrag]) hr hh
  rw [State.dragBody, State.ownFlags, hl, hd, hc, hk] at hfl
  simpa using hfl

/-! ### The commands -/

theorem exec_drag {l : Nat} {ws : List Nat} (h : PaceGood s l mDRAG ws) :
    exec (.drag l ws) s = .next ((s.quiet.paceTakes l ws 0).memberFlags (senderOf ws) (bits 23 21 (at0 ws 1))) :=
  congrArg Host.Outcome.next ((if_neg (Nat.not_le.2 (laneEnabled_lt h.1))).trans
    (paceIn_good (s := s.quiet) h 0 (State.actDrag ws) rfl))

theorem exec_dragRise (hj : s.joined = true) (hd : s.rd PEL_STAT.DRAG ≠ 1)
    (hr : s.dragTicks < s.pel.dragRun ∨ s.rd CAD_STAT.CADENCE_LOST = 1) :
    exec .dragRise s = .next s.quiet.dragRise := by
  have hj' : s.quiet.joined = true := hj
  have hd' : s.quiet.on PEL_STAT.DRAG = false := on_false_iff.2 hd
  have hr' : (decide (s.quiet.dragTicks < s.quiet.pel.dragRun) || s.quiet.on CAD_STAT.CADENCE_LOST) = true := by
    rw [Bool.or_eq_true, decide_eq_true_eq, on_iff]
    exact hr
  exact congrArg Host.Outcome.next (if_pos (by rw [hj', hd', hr']; rfl))

theorem exec_dragClear (hj : s.joined = true) (hd : s.rd PEL_STAT.DRAG = 1) (hr : s.dragTicks ≤ s.pel.cleanRun) :
    exec .dragClear s = .next (s.quiet.clearDrag.sendDrag.raise .PEL_DRAG_CLR) := by
  have hj' : s.quiet.joined = true := hj
  have hd' : s.quiet.on PEL_STAT.DRAG = true := on_iff.2 hd
  have hr' : decide (s.quiet.dragTicks ≤ s.quiet.pel.cleanRun) = true := decide_eq_true hr
  exact congrArg Host.Outcome.next (if_pos (by rw [hj', hd', hr']; rfl))

theorem exec_cantFollow (hj : s.joined = true) (hd : s.rd PEL_STAT.DRAG = 1) (hc : s.rd PEL_STAT.CANT_FOLLOW ≠ 1)
    (hn : s.noFollow ≤ s.pel.periods) : exec .cantFollow s = .next
      (((s.quiet.wr PEL_STAT.CANT_FOLLOW 0 1).sendDrag.raise .PEL_DRAG).raise .PEL_CANT_FOLLOW) := by
  have hj' : s.quiet.joined = true := hj
  have hd' : s.quiet.on PEL_STAT.DRAG = true := on_iff.2 hd
  have hc' : s.quiet.on PEL_STAT.CANT_FOLLOW = false := on_false_iff.2 hc
  have hn' : decide (s.quiet.noFollow ≤ s.quiet.pel.periods) = true := decide_eq_true hn
  exact congrArg Host.Outcome.next (if_pos (by rw [hj', hd', hc', hn']; rfl))

theorem exec_pacelineReturn (hr : s.isRoot = true) (hm : s.pel.rootMode = 2) (hp : s.pel.unrestAt + s.returnTicks ≤ s.tick)
    (hc : s.carrierCant = false) : exec .pacelineReturn s = .next
      ((s.quiet.setPel (fun p => { p with rootMode := 1 })).raise .PEL_RETURN).showRoot := by
  have hr' : s.quiet.isRoot = true := hr
  have hc' : s.quiet.carrierCant = false := hc
  have hp' : s.quiet.past s.quiet.pel.unrestAt s.quiet.returnTicks = true := decide_eq_true hp
  have hm' : (s.quiet.pel.rootMode == 2) = true := beq_iff_eq.2 hm
  exact congrArg Host.Outcome.next (if_pos (by rw [hr', hm', hp', hc']; rfl))

theorem exec_orphan (hj : s.joined = true) (ho : s.rd PEL_STAT.ORPHAN ≠ 1) (hp : s.pel.heardAt + 300 ≤ s.tick) :
    exec .orphan s = .next ((s.quiet.wr PEL_STAT.ORPHAN 0 1).raise .PEL_ORPHAN) := by
  have hj' : s.quiet.joined = true := hj
  have ho' : s.quiet.on PEL_STAT.ORPHAN = false := on_false_iff.2 ho
  have hp' : s.quiet.past s.quiet.pel.heardAt 300 = true := decide_eq_true hp
  exact congrArg Host.Outcome.next (if_pos (by rw [hj', ho', hp']; rfl))

theorem exec_abort {ws : List Nat} (h : SidebandGood s mABORT ws) (hp : at0 ws 1 / 2 ^ 16 = s.rd PEL_CTRL.PEL_ID)
    (hj : s.rd PEL_CTRL.JOIN = 1) (hm : (at0 ws 3 + at0 ws 4 * 2 ^ 32).testBit s.die = true)
    (ho : hdrCar (at0 ws 0) ≠ s.carrier ∨ hdrDie (at0 ws 0) ≠ s.die) : exec (.abort ws) s = .next
      (((s.quiet.takeFree 10).2.actOn true (at0 ws 0) (s.quiet.takeFree 10).1 true).actAbort ws) := by
  refine congrArg Host.Outcome.next (sidebandIn_good (s := (s.quiet.takeFree 10).2) h _ (State.actAbort ws) ?_)
  have hj' : s.on PEL_CTRL.JOIN = true := on_iff.2 hj
  have ho' : (hdrCar (at0 ws 0) == s.carrier && hdrDie (at0 ws 0) == s.die) = false := by
    rw [Bool.and_eq_false_iff, beq_eq_false_iff_ne, beq_eq_false_iff_ne]
    exact ho
  change (at0 ws 1 / 2 ^ 16 == s.rd PEL_CTRL.PEL_ID && s.on PEL_CTRL.JOIN &&
    (at0 ws 3 + at0 ws 4 * 2 ^ 32).testBit s.die && !(hdrCar (at0 ws 0) == s.carrier && hdrDie (at0 ws 0) == s.die)) = true
  rw [hj', hm, ho', beq_iff_eq.2 hp]
  rfl

/-- What showing the root leaves alone: all but the fields it shows. -/
theorem showRoot_kept (s : State) (ps : List Region) (Gs : List Fld)
    (h : ([PEL_LIVE.LIVE, PEL_ROOT.LIVE_CAR, PEL_ROOT.RETURN_LEFT, PEL_ROOT.RISES, PEL_STAT.ROOT].all fun F =>
      Gs.all fun G => G.off F) = true) : Kept (.guard s ps Gs) s.showRoot := by
  have h' := List.all_eq_true.1 h
  exact kept_showRoot (kept_guard _ _ _) (h' _ (by simp)) (h' _ (by simp)) (h' _ (by simp)) (h' _ (by simp)) (h' _ (by simp))

theorem showRoot_pel (s : State) : s.showRoot.pel = s.pel :=
  (showRoot_kept s [.pel] [] rfl).spared .pel rfl

theorem actAbort_spec (s : State) (ws : List Nat) :
    (s.actAbort ws).rd RC_PEER_ABORT.CODE = at0 ws 2 % 2 ^ RC_PEER_ABORT.CODE.width ∧
      (s.actAbort ws).rd RC_EVT.PEER_ABORT = 1 := by
  unfold State.actAbort
  extract_lets h code a b
  have hb : Kept (.guard a [] [RC_PEER_ABORT.CODE]) b := kept_post (kept_guard _ _ _) rfl rfl rfl
  refine ⟨?_, rd_raiseLog_st _ .RC_PEER_ABORT _ _ (by decide)⟩
  rw [rd_raiseLog_all (by decide), hb.guarded (by simp)]
  unfold a
  rw [rd_wr_off (by decide), rd_wr_off (by decide), rd_wr_same]

end Sys2Proof.Machine

namespace Sys2Proof

open Sys2Proof.Machine

/-- Settles O43: each command by its equation; the DRAG messages are `sendDrag_floods`. -/
theorem dragAndPaceline : Obligations.DragAndPaceline := by
  unfold Obligations.DragAndPaceline
  refine ⟨?_, ?_, ?_, ?_, ?_, ?_, ?_⟩
  · exact fun l ws s h => ⟨_, exec_drag h, Table.get_set_same .., Table.get_set_same ..⟩
  · intro s hj hd hr
    refine ⟨_, exec_dragRise hj hd hr, ?_, rd_raise_st _ .PEL_DRAG _ _ (by decide), ?_, ?_⟩
    · rw [State.dragRise, rd_raise_all (by decide), sendDrag_rd _ (by decide), rd_inc_off (by decide), rd_wr_same]
      rfl
    · rw [State.dragRise, rd_raise_all (by decide), sendDrag_rd _ (by decide), rd_inc_same, rd_wr_off (by decide)]
      rfl
    · exact fun hh => dragRise_floods s.quiet rfl hh
  · intro s hj hd hr
    refine ⟨_, exec_dragClear hj hd hr, ?_, ?_, rd_raise_st _ .PEL_DRAG_CLR _ _ (by decide), ?_⟩
    · rw [rd_raise_all (by decide), sendDrag_rd _ (by decide)]
      exact (rd_wr_off (by decide) _).trans (rd_wr_same ..)
    · rw [rd_raise_all (by decide), sendDrag_rd _ (by decide)]
      exact (clearDrag_rd ..).trans (rd_wr_same ..)
    · exact fun hh => (congrArg (· = _) (raise_emit ..)).mpr (clearDrag_floods s.quiet rfl hh)
  · intro s hj hd hc hn
    refine ⟨_, exec_cantFollow hj hd hc hn, ?_, rd_raise_st _ .PEL_CANT_FOLLOW _ _ (by decide)⟩
    rw [rd_raise_all (by decide), rd_raise_all (by decide), sendDrag_rd _ (by decide), rd_wr_same]
    rfl
  · intro s hr hm hp hc
    refine ⟨_, exec_pacelineReturn hr hm hp hc, ?_, ?_⟩
    · rw [showRoot_pel, raise_pel]
      rfl
    · exact ((showRoot_kept _ [] [PEL_EVT.RETURN] rfl).guarded (by simp) 0).trans (rd_raise_st _ .PEL_RETURN _ _ (by decide))
  · intro s hj ho hp
    refine ⟨_, exec_orphan hj ho hp, ?_, rd_raise_st _ .PEL_ORPHAN _ _ (by decide)⟩
    rw [rd_raise_all (by decide), rd_wr_same]
    rfl
  · exact fun ws s h hp hj hm ho => ⟨_, exec_abort h hp hj hm ho, actAbort_spec _ _⟩

end Sys2Proof
end
section
/-! PROOF. Offers and points of the peloton: what finding the root, keeping an offer and scheduling a point change. -/

namespace Sys2Proof.Machine

variable {s t u : State}

/-! ### The root -/

theorem findRoot_kept (s : State) (ps : List Region) (Gs : List Fld)
    (hp : ps.contains .pel = false) (ht : ps.contains .tasks = false) (hl : ps.contains .log = false)
    (h : ((logFields ++ [PEL_EVT.ROOT_CHANGE, PEL_LIVE.LIVE, PEL_ROOT.LIVE_CAR, PEL_ROOT.RETURN_LEFT, PEL_ROOT.RISES,
      PEL_STAT.OFS_VALID, PEL_STAT.ROOT, PEL_STAT.ROOT_CARRIER]).all fun F => Gs.all fun G => G.off F) = true) :
    Kept (.guard s ps Gs) s.findRoot := by
  have h' := List.all_eq_true.1 h
  exact kept_findRoot (kept_guard _ _ _) hp ⟨ht, hl, fun F hF => h' F (List.mem_append_left _ hF)⟩ (h' PEL_EVT.ROOT_CHANGE (by simp))
    (h' _ (by simp)) (h' _ (by simp)) (h' _ (by simp)) (h' _ (by simp)) (h' _ (by simp)) (h' _ (by simp)) (h' _ (by simp))

/-- What finding the root changes in the peloton's state. -/
theorem findRoot_pel (s : State) : s.findRoot.pel.root = some (s.liveCarriers.head?.getD s.carrier) ∧
    s.findRoot.pel.offers = s.pel.offers ∧ s.findRoot.pel.offerSent = s.pel.offerSent ∧
    s.findRoot.pel.memberRises = s.pel.memberRises := by
  unfold State.findRoot
  extract_lets r was a b
  split
  · next h => exact ⟨by rw [showRoot_pel]; exact h, by rw [showRoot_pel], by rw [showRoot_pel], by rw [showRoot_pel]⟩
  · have hb : b.pel = a.pel := by unfold b; simp
    rw [showRoot_pel]
    split
    · rw [raise_pel, hb]
      exact ⟨rfl, rfl, rfl, rfl⟩
    · rw [hb]
      exact ⟨rfl, rfl, rfl, rfl⟩

theorem findRoot_carrier (s : State) : s.findRoot.carrier = s.carrier :=
  (findRoot_kept s [] [CAR_CFG.CARRIER] rfl rfl rfl (by decide)).guarded (by simp) 0

theorem liveCarriers_congr (ho : t.pel.offers = s.pel.offers) (hc : t.carrier = s.carrier) :
    t.liveCarriers = s.liveCarriers := by
  unfold State.liveCarriers State.offerOf
  rw [ho, hc]

theorem findRoot_root (s : State) : s.findRoot.pel.root = some (s.findRoot.liveCarriers.head?.getD s.carrier) := by
  obtain ⟨hr, ho, -⟩ := findRoot_pel s
  rw [hr, liveCarriers_congr ho (findRoot_carrier s)]

theorem findRoot_emit (s : State) : s.findRoot.emit = s.emit :=
  (findRoot_kept s [.emit] [] rfl rfl rfl (by decide)).spared .emit rfl

theorem showRoot_rd (s : State) {F : Fld} {i : Nat}
    (h : [PEL_ROOT.LIVE_CAR, PEL_ROOT.RISES, PEL_ROOT.RETURN_LEFT, PEL_STAT.ROOT].all F.off = true)
    (hb : F.key i < PEL_LIVE.LIVE.base) : s.showRoot.rd F i = s.rd F i := by
  simp only [List.all_cons, List.all_nil, Bool.and_true, Bool.and_eq_true] at h
  obtain ⟨h1, h2, h3, h4⟩ := h
  unfold State.showRoot
  extract_lets l a b left
  have ha : a.rd F i = s.rd F i := upTo_keeps (fun t : State => t.rd F i = s.rd F i) rfl fun k t ht =>
    (rd_wr_ne _ _ _ _ _ _ (Nat.ne_of_lt (Nat.lt_of_lt_of_le hb (Fld.base_le_key _ k)))).trans ht
  rw [rd_wrB_off h4, rd_wr_off h3]
  exact (rd_wr_off h2 _).trans ((rd_wr_off h1 _).trans ha)

theorem findRoot_RXMSG (s : State) : s.findRoot.rd CAR_RXMSG.MSGS = s.rd CAR_RXMSG.MSGS := by
  unfold State.findRoot
  extract_lets r was a b
  have hb : b.rd CAR_RXMSG.MSGS = s.rd CAR_RXMSG.MSGS := (rd_wr_off (by decide) _).trans (rd_wr_off (by decide) _)
  split
  · exact showRoot_rd _ (by decide) (by decide)
  · refine (showRoot_rd _ (by decide) (by decide)).trans ?_
    split
    · rw [rd_raise_all (by decide), hb]
    · exact hb

/-! ### Offers -/

/-- The offer of words `ws`, heard at tick `k`. -/
def offerWords (ws : List Nat) (k : Nat) : OfferIn :=
  { offer := bits 15 8 (at0 ws 1), cant := bits 7 7 (at0 ws 1) == 1, tick := k }

/-- The offer kept, with its rises of DRAG. -/
def State.noteOffer (s : State) (ws : List Nat) : State :=
  s.setPel fun p => { p with
    offers := Table.set none p.offers (hdrCar (at0 ws 0)) (some (offerWords ws s.tick)),
    rises := ((s.tick, bits 6 0 (at0 ws 1)) :: p.rises).filter (fun r => decide (s.tick < r.1 + 10000) && r.2 != 0),
    unrestAt := if bits 6 0 (at0 ws 1) = 0 && !(bits 7 7 (at0 ws 1) == 1) then p.unrestAt else s.tick }

theorem actOffer_eq (s : State) (ws : List Nat) :
    s.actOffer ws = if s.steward = true then (s.noteOffer ws).findRoot else s.noteOffer ws := rfl

theorem actOffer_spec (s : State) (ws : List Nat) :
    (s.actOffer ws).offerOf (hdrCar (at0 ws 0)) = some (offerWords ws s.tick) ∧
    (s.actOffer ws).rd CAR_RXMSG.MSGS = s.rd CAR_RXMSG.MSGS ∧ (s.actOffer ws).emit = s.emit ∧
    (s.actOffer ws).pel.offerSent = s.pel.offerSent ∧ (s.actOffer ws).pel.memberRises = s.pel.memberRises ∧
    (s.steward = true → (s.actOffer ws).pel.root = some ((s.actOffer ws).liveCarriers.head?.getD s.carrier)) := by
  have hn : (s.noteOffer ws).offerOf (hdrCar (at0 ws 0)) = some (offerWords ws s.tick) :=
    Table.get_set_same none s.pel.offers (hdrCar (at0 ws 0)) (some (offerWords ws s.tick))
  rw [actOffer_eq]
  split
  · obtain ⟨-, ho, hsent, hrises⟩ := findRoot_pel (s.noteOffer ws)
    refine ⟨?_, findRoot_RXMSG _, findRoot_emit _, hsent, hrises, fun _ => findRoot_root _⟩
    rw [State.offerOf, ho]
    exact hn
  · next h => exact ⟨hn, rfl, rfl, rfl, rfl, fun k => absurd k h⟩

theorem takesOffer_of {ws : List Nat} (hj : s.joined = true) (hp : bits 31 16 (at0 ws 1) = s.rd PEL_CTRL.PEL_ID) :
    s.takesOffer ws = true := by
  unfold State.takesOffer State.inPeloton
  rw [hj, beq_iff_eq.2 hp]
  rfl

theorem takesOffer_false {ws : List Nat} (h : s.joined = false ∨ bits 31 16 (at0 ws 1) ≠ s.rd PEL_CTRL.PEL_ID) :
    s.takesOffer ws = false := by
  unfold State.takesOffer State.inPeloton
  rw [Bool.and_eq_false_iff, beq_eq_false_iff_ne]
  exact h

theorem exec_offer {ws : List Nat} (h : SidebandGood s mOFFER ws) (ht : s.takesOffer ws = true) :
    exec (.offer ws) s = .next
      (((s.quiet.takeFree 10).2.actOn true (at0 ws 0) (s.quiet.takeFree 10).1 true).actOffer ws) :=
  congrArg Host.Outcome.next (sidebandIn_good (s := (s.quiet.takeFree 10).2) h _ (State.actOffer ws) ht)

theorem exec_offer_refused {ws : List Nat} (h : SidebandGood s mOFFER ws) (ht : s.takesOffer ws = false) :
    exec (.offer ws) s = .next (s.quiet.takeFree 10).2 :=
  congrArg Host.Outcome.next (sidebandIn_refused (s := (s.quiet.takeFree 10).2) h _ (State.actOffer ws) ht)

/-- The second word of this steward's OFFER. -/
def State.offerWord (s : State) : Nat :=
  s.rd PEL_CTRL.PEL_ID * 2 ^ 16 + ((s.liveDies.filterMap s.reportOf).map (fun r => r.offer)).foldl min 255 * 2 ^ 8
    + b2n (s.liveDies.any (fun d => Table.get false s.pel.memberCant d)) * 2 ^ 7 + min 127 s.pel.memberRises

/-- The OFFER sent, its rises begun anew. -/
def State.putOffer (s : State) : Nat × State :=
  ((s.setPel fun p => { p with memberRises := 0, offerSent := some s.tick }).takeFree 10).2.sideband mOFFER
    [s.offerWord, s.liveDies.length] 256 (Config.freeValue s.free % 2 ^ 10)

theorem exec_offerSend (ht : s.tick % 100 = 0) (hs : s.steward = true) (hj : s.joined = true) (hh : s.holdover = false)
    (ho : s.pel.offerSent ≠ some s.tick) :
    exec .offerSend s = .next (s.quiet.putOffer.2.actOffer [s.quiet.putOffer.1, s.quiet.offerWord]) := by
  have hs' : s.quiet.steward = true := hs
  have hj' : s.quiet.joined = true := hj
  have hh' : s.quiet.holdover = false := hh
  exact congrArg Host.Outcome.next (if_pos (by simp [ht, hs', hj', hh', ho]))

theorem putOffer_pel (s : State) : s.putOffer.2.pel = { s.pel with memberRises := 0, offerSent := some s.tick } :=
  (sideband_work _ _ _ _ _).pel

theorem putOffer_emit (s : State) : s.putOffer.2.emit =
    s.emit ++ [.sideband 256 (ownWords s mOFFER 0 [s.offerWord, s.liveDies.length])] :=
  sideband_emit _ _ _ _ _

theorem exec_carrierLost {c : Nat} {o : OfferIn} (hc : c < 256) (ho : s.offerOf c = some o) (hs : s.steward = true)
    (hne : c ≠ s.carrier) (hp : o.tick + 300 ≤ s.tick) : exec (.carrierLost c) s = .next
      ((s.quiet.setPel fun p => { p with offers := Table.set none p.offers c none }).findRoot.raise .PEL_CARRIER_LOST
        (arg0 c 0)) := by
  have ho' : s.quiet.offerOf c = some o := ho
  have hs' : s.quiet.steward = true := hs
  have hne' : (c != s.quiet.carrier) = true := bne_iff_ne.2 hne
  have hp' : s.quiet.past o.tick 300 = true := decide_eq_true hp
  change Host.Outcome.next _ = _
  rw [if_neg (Nat.not_le.2 hc), ho']
  exact congrArg Host.Outcome.next (if_pos (by rw [hs', hne', hp']; rfl))

/-! ### Scheduling a point -/

/-- What scheduling a point and applying it may change: of the peloton's state the points known, the tick last heard and
whether the root has ceded; what is driven only grows. -/
structure PointWork (s t : State) : Prop where
  pel : ∃ k h c, t.pel = { s.pel with known := k, heardAt := h, ceded := c }
  emit : ∃ l, t.emit = s.emit ++ l
  fallback : t.rd PEL_EVT.FALLBACK = s.rd PEL_EVT.FALLBACK

theorem PointWork.refl (s : State) : PointWork s s := ⟨⟨_, _, _, rfl⟩, ⟨[], by simp⟩, rfl⟩

theorem PointWork.trans (h : PointWork s t) (k : PointWork t u) : PointWork s u := by
  obtain ⟨a, b, c, e⟩ := h.pel
  obtain ⟨a', b', c', e'⟩ := k.pel
  obtain ⟨l, el⟩ := h.emit
  obtain ⟨l', el'⟩ := k.emit
  exact ⟨⟨a', b', c', by rw [e', e]⟩, ⟨l ++ l', by rw [el', el, List.append_assoc]⟩, k.fallback.trans h.fallback⟩

theorem showNext_kept (s : State) (ps : List Region) (Gs : List Fld)
    (h : (Gs.all fun G => G.off PEL_NEXT.TICK) = true) : Kept (.guard s ps Gs) s.showNext :=
  kept_showNext (kept_guard _ _ _) h

theorem showNext_pel (s : State) : s.showNext.pel = s.pel := wr_pel ..
theorem showNext_cad (s : State) : s.showNext.cad = s.cad := wr_cad ..

theorem scheduleApply_kept (s : State) (root rseq p mode stamp : Nat) (ps : List Region) (Gs : List Fld)
    (hc : ps.contains .cad = false) (hp : ps.contains .pel = false) (ht : ps.contains .tasks = false)
    (h : (Gs.all fun G => G.off PEL_NEXT.TICK) = true) : Kept (.guard s ps Gs) (s.scheduleApply root rseq p mode stamp) :=
  kept_scheduleApply (kept_guard _ _ _) hc hp ht h

theorem extend_congr (h : t.tick = s.tick) (st : Nat) : t.extend st = s.extend st := by
  unfold State.extend
  rw [h]

theorem scheduleStatus_takes {g : Nat} (h : QueueTakes s g) : s.scheduleStatus g = stOK := by
  obtain ⟨hl, hf, hg⟩ := h
  unfold State.scheduleStatus
  rw [on_iff.2 hl, if_neg (by decide), if_neg (Nat.not_lt.2 hg), if_neg (Nat.not_le.2 hf)]

/-- The pending applications of every root but `c` cancelled. -/
def State.keepPoints (s : State) (c : Nat) : State :=
  s.setCad fun d => { d with queue := d.queue.filter fun e => match e.act with
    | .point r _ _ => r == c
    | _ => true }

/-- The root that the last point came from was another one. -/
def State.newRoot (s : State) (c : Nat) : Bool :=
  match s.pel.known with
  | [] => false
  | x :: _ => x.1 != c

/-- The points of another root are cancelled when a new one is first heard. -/
def State.forRoot (s : State) (c : Nat) : State :=
  if s.newRoot c then s.keepPoints c else s

/-- A point scheduled, and known if the queue took it. -/
def State.pointQueued (s : State) (root rseq p mode stamp : Nat) : State :=
  (if (s.schedule (s.extend stamp) (.point root p mode)).1 = stOK then
    (s.schedule (s.extend stamp) (.point root p mode)).2.setPel fun q => { q with known := ((root, rseq) :: q.known).take 8 }
  else (s.schedule (s.extend stamp) (.point root p mode)).2)

theorem scheduleApply_eq (s : State) (root rseq p mode stamp : Nat) : s.scheduleApply root rseq p mode stamp =
    if s.pel.known.contains (root, rseq) = true then s
    else ((s.forRoot root).pointQueued root rseq p mode stamp).showNext := rfl

theorem forRoot_pel (s : State) (c : Nat) : (s.forRoot c).pel = s.pel := by
  unfold State.forRoot
  split <;> rfl

theorem forRoot_tick (s : State) (c : Nat) : (s.forRoot c).tick = s.tick := by
  unfold State.forRoot
  split <;> rfl

theorem forRoot_takes {g c : Nat} (h : QueueTakes s g) : QueueTakes (s.forRoot c) g := by
  unfold State.forRoot
  split
  · refine ⟨h.1, lt_of_le_of_lt ?_ h.2.1, h.2.2⟩
    exact (List.filter_sublist.filter _).length_le
  · exact h

theorem pointQueued_pel (s : State) (root rseq p mode stamp : Nat) :
    ∃ k, (s.pointQueued root rseq p mode stamp).pel = { s.pel with known := k } := by
  have hs : (s.schedule (s.extend stamp) (.point root p mode)).2.pel = s.pel := by
    unfold State.schedule State.enqueueEvent
    dsimp only
    split <;> rfl
  unfold State.pointQueued
  split
  · exact ⟨_, by rw [setPel_pel, hs]⟩
  · exact ⟨_, hs⟩

theorem pointQueued_applies {root rseq p mode stamp : Nat} (h : QueueTakes s (s.extend stamp)) :
    AppliesAt s (s.pointQueued root rseq p mode stamp) (root, rseq) p mode (s.extend stamp) := by
  have hst := scheduleStatus_takes h
  unfold State.pointQueued State.schedule
  dsimp only
  rw [if_pos hst, if_pos hst]
  refine ⟨?_, ⟨s.extend stamp, if decide (s.extend stamp ≤ s.tick) then s.tick + 1 else s.extend stamp,
    .point root p mode, decide (s.extend stamp ≤ s.tick), false, false⟩, ?_, rfl, rfl, ?_⟩
  · exact List.mem_cons_self
  · exact List.mem_append_right _ (List.mem_singleton.2 rfl)
  · by_cases k : s.extend stamp ≤ s.tick <;> simp [k]

theorem scheduleApply_applies {root rseq p mode stamp : Nat} (hk : s.pel.known.contains (root, rseq) = false)
    (h : QueueTakes s (s.extend stamp)) :
    AppliesAt s (s.scheduleApply root rseq p mode stamp) (root, rseq) p mode (s.extend stamp) := by
  have he : (s.forRoot root).extend stamp = s.extend stamp := extend_congr (forRoot_tick s root) stamp
  have ha := pointQueued_applies (s := s.forRoot root) (root := root) (rseq := rseq) (p := p) (mode := mode)
    (he.symm ▸ forRoot_takes h)
  rw [he] at ha
  rw [scheduleApply_eq, if_neg (ne_true_of_eq_false hk), AppliesAt, showNext_pel, showNext_cad]
  rwa [AppliesAt, forRoot_tick] at ha

theorem scheduleApply_pel (s : State) (root rseq p mode stamp : Nat) :
    ∃ k, (s.scheduleApply root rseq p mode stamp).pel = { s.pel with known := k } := by
  rw [scheduleApply_eq]
  split
  · exact ⟨_, rfl⟩
  · obtain ⟨k, hk⟩ := pointQueued_pel (s.forRoot root) root rseq p mode stamp
    exact ⟨k, by rw [showNext_pel, hk, forRoot_pel]⟩

theorem PointWork.scheduleApply (s : State) (root rseq p mode stamp : Nat) :
    PointWork s (s.scheduleApply root rseq p mode stamp) := by
  obtain ⟨k, hk⟩ := scheduleApply_pel s root rseq p mode stamp
  have h := scheduleApply_kept s root rseq p mode stamp [.emit] [PEL_EVT.FALLBACK] rfl rfl rfl (by decide)
  exact ⟨⟨k, _, _, hk⟩, ⟨[], by rw [List.append_nil]; exact h.spared .emit rfl⟩, h.guarded (by simp) 0⟩

/-! ### A point heard -/

/-- A point scheduled by its sender, which was heard. -/
def State.heardPoint (s : State) (root rseq p mode stamp : Nat) : State :=
  ((s.scheduleApply root rseq p mode stamp).wr PEL_STAT.ORPHAN 0 0).setPel fun q =>
    { q with heardAt := (s.scheduleApply root rseq p mode stamp).tick }

theorem heardPoint_kept (s : State) (root rseq p mode stamp : Nat) (ps : List Region) (Gs : List Fld)
    (hc : ps.contains .cad = false) (hp : ps.contains .pel = false) (ht : ps.contains .tasks = false)
    (h : (Gs.all fun G => G.off PEL_NEXT.TICK) = true) (h' : (Gs.all fun G => G.off PEL_STAT.ORPHAN) = true) :
    Kept (.guard s ps Gs) (s.heardPoint root rseq p mode stamp) :=
  kept_setPel (kept_wr (scheduleApply_kept s root rseq p mode stamp ps Gs hc hp ht h) h') hp

theorem heardPoint_spec (s : State) (root rseq p mode stamp : Nat) :
    (s.heardPoint root rseq p mode stamp).pel.heardAt = s.tick ∧ (s.heardPoint root rseq p mode stamp).rd PEL_STAT.ORPHAN = 0 ∧
    (s.pel.known.contains (root, rseq) = false → QueueTakes s (s.extend stamp) →
      AppliesAt s (s.heardPoint root rseq p mode stamp) (root, rseq) p mode (s.extend stamp)) := by
  refine ⟨?_, rd_wr_same (s.scheduleApply root rseq p mode stamp) PEL_STAT.ORPHAN 0 0, fun hk hq => ?_⟩
  · exact (scheduleApply_kept s root rseq p mode stamp [] [] rfl rfl rfl rfl).tick
  · obtain ⟨hm, e, he, hrest⟩ := scheduleApply_applies (p := p) (mode := mode) hk hq
    refine ⟨?_, e, ?_, hrest⟩
    · rw [State.heardPoint, setPel_pel, wr_pel]
      exact hm
    · rw [State.heardPoint, setPel_cad, wr_cad]
      exact he

theorem PointWork.wr (s : State) {F : Fld} (v : Nat) (h : PEL_EVT.FALLBACK.off F = true) : PointWork s (s.wr F 0 v) :=
  ⟨⟨_, _, _, wr_pel ..⟩, ⟨[], by simp⟩, rd_wr_off h _⟩

theorem PointWork.setHeard (s : State) (k : Nat) : PointWork s (s.setPel fun q => { q with heardAt := k }) :=
  ⟨⟨_, _, _, rfl⟩, ⟨[], by simp⟩, rfl⟩

theorem PointWork.heardPoint (s : State) (root rseq p mode stamp : Nat) :
    PointWork s (s.heardPoint root rseq p mode stamp) :=
  ((PointWork.scheduleApply s root rseq p mode stamp).trans (.wr _ 0 (by decide))).trans (.setHeard _ _)

/-- The point flooded on to the carrier's members. -/
def State.relayPoint (s : State) (c p m q t : Nat) : State :=
  ((s.takeFree 10).2.flood mCPOINT ((c * 2 ^ 24 + p * 2 ^ 16 + m * 2 ^ 14 + q) :: stampWords t 0) (s.takeFree 10).1).2

theorem relayPoint_work (s : State) (c p m q t : Nat) : MsgWork logFields s (s.relayPoint c p m q t) :=
  (MsgWork.takeFree s 10).trans (flood_work _ _ _ _)

theorem relayPoint_emit (s : State) (c p m q t : Nat) : (s.relayPoint c p m q t).emit =
    s.emit ++ ([0, 1, 2, 3].filter s.laneUp).map
      (fun l => .pace l (ownWords s mCPOINT 15 ((c * 2 ^ 24 + p * 2 ^ 16 + m * 2 ^ 14 + q) :: stampWords t 0))) :=
  flood_emit _ _ _ _

theorem AppliesAt.after {a b : State} {k : Nat × Nat} {p m g : Nat} {fs : List Fld} (h : AppliesAt s a k p m g)
    (hw : MsgWork fs a b) : AppliesAt s b k p m g := by
  unfold AppliesAt
  rw [hw.pel, hw.queue]
  exact h

/-- The offset to the root of carrier `c`. -/
def State.pointOfs (s : State) (c : Nat) : Int :=
  if c = s.carrier then 0 else toSigned 64 (s.rd PEL_OFS.OFS)

/-- The tick at which a point of words `ws` applies here, by the offset `o`. -/
def pointTick (ws : List Nat) (o : Int) : Nat :=
  nearestTick ((stampOf (at0 ws 2) (at0 ws 3) : Nat) - o)

/-- The point of a POINT of words `ws` heard with offset `o`. -/
def State.takePoint (s : State) (ws : List Nat) (o : Int) : State :=
  s.heardPoint (hdrCar (at0 ws 0)) (hdrSeq (at0 ws 0)) (bits 15 8 (at0 ws 1)) (bits 7 6 (at0 ws 1)) (pointTick ws o)

theorem actPoint_eq (s : State) (ws : List Nat) : s.actPoint ws =
    if (!s.takesPoint ws) = true then s
    else if s.cedesTo ws = true then s.setPel fun p => { p with ceded := true }
    else if (s.takePoint ws (s.pointOfs (hdrCar (at0 ws 0)))).holdover = true then
      s.takePoint ws (s.pointOfs (hdrCar (at0 ws 0)))
    else (s.takePoint ws (s.pointOfs (hdrCar (at0 ws 0)))).relayPoint (hdrCar (at0 ws 0)) (bits 15 8 (at0 ws 1))
      (bits 7 6 (at0 ws 1)) (hdrSeq (at0 ws 0)) (pointTick ws (s.pointOfs (hdrCar (at0 ws 0)))) := rfl

theorem PointWork.actPoint (s : State) (ws : List Nat) : PointWork s (s.actPoint ws) := by
  rw [actPoint_eq]
  split
  · exact .refl _
  · split
    · exact ⟨⟨_, _, _, rfl⟩, ⟨[], by simp⟩, rfl⟩
    · split
      · exact .heardPoint ..
      · refine (PointWork.heardPoint ..).trans ⟨⟨_, _, _, (relayPoint_work ..).pel⟩, ⟨_, relayPoint_emit ..⟩, ?_⟩
        exact (relayPoint_work ..).rd _ _ (by decide)

theorem exec_pelPoint {ws : List Nat} (h : SidebandGood s mPOINT ws) (ht : s.takesPoint ws = true) :
    exec (.pelPoint ws) s = .next
      (((s.quiet.takeFree 10).2.actOn true (at0 ws 0) (s.quiet.takeFree 10).1 true).actPoint ws) :=
  congrArg Host.Outcome.next (sidebandIn_good (s := (s.quiet.takeFree 10).2) h _ (State.actPoint ws) ht)

theorem exec_cpoint {l : Nat} {ws : List Nat} {o : Int} (h : PaceGood s l mCPOINT ws) (hj : s.joined = true)
    (ho : Table.get none s.car.ofs (senderOf ws) = some o) :
    exec (.cpoint l ws) s = .next
      (((s.quiet.takeFree 10).2.paceTakes l ws (s.quiet.takeFree 10).1).actCpoint ws) := by
  refine congrArg Host.Outcome.next ((if_neg (Nat.not_le.2 (laneEnabled_lt h.1))).trans
    (paceIn_good (s := (s.quiet.takeFree 10).2) h _ (State.actCpoint ws) ?_))
  have hw := laneTakes_work (s.quiet.takeFree 10).2 l ws
  obtain ⟨a, b, c, hc⟩ := hw.car
  have hj' : State.joined ((s.quiet.takeFree 10).2.laneTakes l ws) = true := by
    unfold State.joined State.on at hj ⊢
    rw [hw.rd _ _ (by decide)]
    exact hj
  rw [hj', hc]
  exact congrArg Option.isSome ho

theorem actCpoint_eq {ws : List Nat} {o : Int} (h : Table.get none s.car.ofs (senderOf ws) = some o) :
    s.actCpoint ws = s.heardPoint (bits 31 24 (at0 ws 1)) (bits 7 0 (at0 ws 1)) (bits 23 16 (at0 ws 1))
      (bits 15 14 (at0 ws 1)) (pointTick ws o) := by
  unfold State.actCpoint
  rw [h]
  rfl

end Sys2Proof.Machine
end
section
/-! PROOF. Offers, points and the offset to the root (O42). -/

namespace Sys2Proof.Machine

variable {s t u : State}

theorem actOn_seqOut (s : State) (side : Bool) (h frac : Nat) (free : Bool) :
    (s.actOn side h frac free).car.seqOut = s.car.seqOut := by
  unfold State.actOn
  extract_lets a
  rw [(msgRecord_logs _ _ _ _ _).car, inc_car]
  rfl

/-! ### The root's own point -/

/-- The root falls back to the paceline. -/
def State.fallBack (s : State) : State :=
  if s.pel.rootMode == 1 && (decide (s.inf PEL_CFG.FALLBACK_N < s.risesNow) || s.carrierCant) then
    (s.setPel fun p => { p with rootMode := 2, unrestAt := s.tick }).raise .PEL_FALLBACK
  else s

theorem fallBack_of (hm : s.pel.rootMode = 1) (h : s.inf PEL_CFG.FALLBACK_N < s.risesNow ∨ s.carrierCant = true) :
    s.fallBack = (s.setPel fun p => { p with rootMode := 2, unrestAt := s.tick }).raise .PEL_FALLBACK := by
  refine if_pos ?_
  rw [hm, Bool.and_eq_true, Bool.or_eq_true, decide_eq_true_eq]
  exact ⟨rfl, h⟩

theorem fallBack_rests (h : s.risesNow ≤ s.inf PEL_CFG.FALLBACK_N) (hc : s.carrierCant = false) : s.fallBack = s := by
  refine if_neg ?_
  simp [hc, Nat.not_lt.2 h]

theorem fallBack_kept (s : State) : ∃ m k, s.fallBack.pel = { s.pel with rootMode := m, unrestAt := k } := by
  unfold State.fallBack
  split
  · exact ⟨_, _, raise_pel ..⟩
  · exact ⟨_, _, rfl⟩

theorem fallBack_rd (s : State) {F : Fld} {i : Nat} (h : ((Evt.PEL_FALLBACK).st :: logFields).all F.off = true) :
    s.fallBack.rd F i = s.rd F i := by
  unfold State.fallBack
  split
  · exact rd_raise_all h _ _
  · rfl

theorem fallBack_car (s : State) : s.fallBack.car = s.car := by
  unfold State.fallBack
  split
  · exact raise_car ..
  · rfl

/-- The second word of the root's POINT. -/
def State.pointWord (s : State) : Nat :=
  s.rd PEL_CTRL.PEL_ID * 2 ^ 16
    + (if s.pel.rootMode = 2 then 255 else (s.liveCarriers.filterMap s.offerOf).foldl (fun m o => min m o.offer) 255) * 2 ^ 8
    + s.pel.rootMode * 2 ^ 6

/-- The stamp at which the root's point is to be applied. -/
def State.leadStamp (s : State) : List Nat :=
  stampWords ((s.tick + max 400 (s.inf PEL_LEAD.LEAD)) % 2 ^ 40) 0

/-- The state of the root from which its POINT is sent. -/
def State.beforePoint (s : State) : State :=
  (s.setPel fun p => { p with pointSent := some s.tick }).fallBack

/-- The POINT sent. -/
def State.putPoint (s : State) : Nat × State :=
  (s.takeFree 10).2.sideband mPOINT (s.pointWord :: (s.leadStamp ++ [0])) 256 (s.takeFree 10).1

theorem exec_pointSend (ht : s.tick % 100 = 0) (hr : s.isRoot = true) (hc : s.pel.ceded = false) (hh : s.holdover = false)
    (hp : s.pel.pointSent ≠ some s.tick) : exec .pointSend s = .next
      ((s.quiet.beforePoint.putPoint.2.actPoint (s.quiet.beforePoint.putPoint.1 :: s.quiet.beforePoint.pointWord ::
        s.quiet.beforePoint.leadStamp)).showRoot) := by
  have hr' : s.quiet.isRoot = true := hr
  have hh' : s.quiet.holdover = false := hh
  exact congrArg Host.Outcome.next (if_pos (by simp [ht, hr', hc, hh', hp]))

theorem beforePoint_pel (s : State) : ∃ m k, s.beforePoint.pel =
    { s.pel with pointSent := some s.tick, rootMode := m, unrestAt := k } := by
  obtain ⟨m, k, h⟩ := fallBack_kept (s.setPel fun p => { p with pointSent := some s.tick })
  exact ⟨m, k, h⟩

theorem beforePoint_tick (s : State) : s.beforePoint.tick = s.tick := by
  unfold State.beforePoint State.fallBack
  split
  · exact raise_tick ..
  · rfl

theorem beforePoint_inf (s : State) (F : Fld) (i : Nat) : s.beforePoint.inf F i = s.inf F i := by
  unfold State.beforePoint State.fallBack
  split
  · exact raise_inf ..
  · rfl

theorem beforePoint_rd (s : State) {F : Fld} {i : Nat} (h : ((Evt.PEL_FALLBACK).st :: logFields).all F.off = true) :
    s.beforePoint.rd F i = s.rd F i :=
  fallBack_rd _ h

theorem beforePoint_emit (s : State) : s.beforePoint.emit = s.emit := by
  unfold State.beforePoint State.fallBack
  split
  · exact raise_emit ..
  · rfl

/-- The POINT that the root sends, by the mode `m` that it has then. -/
theorem beforePoint_words (s : State) {m : Nat} (hm : s.beforePoint.pel.rootMode = m) :
    ownWords s.beforePoint mPOINT 0 (s.beforePoint.pointWord :: (s.beforePoint.leadStamp ++ [0])) =
    ownWords s mPOINT 0 ((s.rd PEL_CTRL.PEL_ID * 2 ^ 16
      + (if m = 2 then 255 else (s.liveCarriers.filterMap s.offerOf).foldl (fun m o => min m o.offer) 255) * 2 ^ 8
      + m * 2 ^ 6) :: (stampWords ((s.tick + max 400 (s.inf PEL_LEAD.LEAD)) % 2 ^ 40) 0 ++ [0])) := by
  obtain ⟨m', k, hp⟩ := beforePoint_pel s
  have hcar : s.beforePoint.carrier = s.carrier := beforePoint_rd s (by decide)
  have ho : s.beforePoint.pel.offers = s.pel.offers := by rw [hp]
  have hof : s.beforePoint.offerOf = s.offerOf := by
    funext c
    rw [State.offerOf, State.offerOf, ho]
  have hcr : s.beforePoint.car = s.car := fallBack_car _
  rw [ownWords_congr (congrArg Car.seqOut hcr) (beforePoint_rd s (by decide)) hcar]
  rw [State.pointWord, State.leadStamp, hm, liveCarriers_congr ho hcar, hof, beforePoint_tick, beforePoint_inf,
    beforePoint_rd s (by decide)]

/-! ### The class-2 event -/

theorem giveTarget_TARGET (s : State) (k v : Nat) :
    (s.giveTarget k v).rd ENG_SLEWV.TARGET k = v % 2 ^ ENG_SLEWV.TARGET.width := by
  unfold State.giveTarget
  extract_lets a
  have ha : a.rd ENG_SLEWV.TARGET k = v % 2 ^ ENG_SLEWV.TARGET.width := rd_wr_same ..
  split
  · exact ha
  · exact (rd_wr_off (by decide) _).trans ha

theorem giveTarget_rd (s : State) {k : Nat} (v : Nat) {F : Fld} {i : Nat} (h : F.key i ≠ ENG_SLEWV.TARGET.key k)
    (h' : F.key i ≠ ENG_SLEWV.OUT.key k) : (s.giveTarget k v).rd F i = s.rd F i := by
  unfold State.giveTarget
  extract_lets a
  have ha : a.rd F i = s.rd F i := rd_wr_ne _ _ _ _ _ _ h
  split
  · exact ha
  · exact (rd_wr_ne _ _ _ _ _ _ h').trans ha

theorem giveTarget_cad (s : State) (k v : Nat) : (s.giveTarget k v).cad = s.cad := by
  unfold State.giveTarget
  extract_lets a
  have ha : a.cad = s.cad := wr_cad ..
  split
  · exact ha
  · exact (wr_cad ..).trans ha

theorem exec_pelotonApply {e : QEvent} {c p m : Nat} (h : firstDue s.cad.queue = some e) (ha : e.act = .point c p m)
    (hj : s.joined = true) : exec .pelotonApply s = .next
      (((((if e.late = true then (s.quiet.unqueue e).raise .PEL_LATE_APPLY (arg0 c 0) else s.quiet.unqueue e).wr
        PEL_STAT.POINT 0 p).wr PEL_STAT.MODE 0 (if m = 2 then 2 else 1)).giveTarget 2 p).showNext) := by
  have hq : firstDue s.quiet.cad.queue = some e := h
  have hjoin : (if e.late = true then (s.quiet.unqueue e).raise .PEL_LATE_APPLY (arg0 c 0) else s.quiet.unqueue e).joined
      = true := by
    have hu : (s.quiet.unqueue e).rd PEL_CTRL.JOIN = s.rd PEL_CTRL.JOIN := unqueue_rd (by decide)
    unfold State.joined State.on at hj ⊢
    split
    · rwa [rd_raise_all (by decide), hu]
    · rwa [hu]
  change execPelotonApply s = _
  unfold execPelotonApply
  dsimp only
  rw [hq, takeEvent_of_firstDue (s := s.quiet) hq (by rw [ha]), ha]
  exact congrArg (fun t => Host.Outcome.next (State.showNext t)) (if_pos hjoin)

/-! ### PSYNC -/

theorem exec_psyncReqSend {r frac : Nat} (hr : s.pel.root = some r) (ht : s.tick % 100 = 50) (hs : s.steward = true)
    (hj : s.joined = true) (hne : r ≠ s.carrier) (hh : s.holdover = false) (hp : s.pel.psyncSent ≠ some s.tick) :
    exec (.psyncReqSend frac) s = .next ((s.quiet.setPel fun p => { p with psyncSent := some s.tick }).sideband mPSYNCREQ
      ((s.rd PEL_CTRL.PEL_ID * 2 ^ 16) :: (stampWords s.stamp frac ++ [0])) r frac).2 := by
  have hr' : s.quiet.pel.root = some r := hr
  have hs' : s.quiet.steward = true := hs
  have hj' : s.quiet.joined = true := hj
  have hh' : s.quiet.holdover = false := hh
  change execPsyncReqSend frac s = _
  unfold execPsyncReqSend
  dsimp only
  rw [hr']
  exact congrArg Host.Outcome.next (if_pos (by simp [ht, hs', hj', hh', hp, show ¬ r = s.carrier from hne]))

theorem exec_psyncReq {ws : List Nat} {f2 f3 : Nat} (h : SidebandGood s mPSYNCREQ ws) (ht : s.takesPsyncReq ws = true) :
    exec (.psyncReq ws f2 f3) s = .next ((s.quiet.actOn true (at0 ws 0) f2 true).actPsyncReq ws f2 f3) :=
  congrArg Host.Outcome.next (sidebandIn_good (s := s.quiet) h _ (State.actPsyncReq ws f2 f3) ht)

theorem exec_psyncRsp {ws : List Nat} {frac : Nat} (h : SidebandGood s mPSYNCRSP ws) (ht : s.takesPsyncRsp ws = true) :
    exec (.psyncRsp ws frac) s = .next ((s.quiet.actOn true (at0 ws 0) frac true).actPsyncRsp ws frac) :=
  congrArg Host.Outcome.next (sidebandIn_good (s := s.quiet) h _ (State.actPsyncRsp ws frac) ht)

/-- The sample that a PSYNC_RSP gives at the local time `t4`: offset and delay. -/
def sampleOf (ws : List Nat) (t4 : Int) : Int × Int :=
  ((signed50 ((stampOf (at0 ws 4) (at0 ws 5) : Int) - (stampOf (at0 ws 2) (at0 ws 3) : Int))
      + signed50 ((stampOf (at0 ws 6) (at0 ws 7) : Int) - t4)) / 2,
    signed50 ((t4 - (stampOf (at0 ws 2) (at0 ws 3) : Int))
      - ((stampOf (at0 ws 6) (at0 ws 7) : Int) - (stampOf (at0 ws 4) (at0 ws 5) : Int))))

/-- The sample kept and the exchange counted. -/
def State.keepSample (s : State) (x : Int × Int) : State :=
  s.setPel fun p => { p with samples := (x :: p.samples).take 8, exchanges := p.exchanges + 1 }

/-- Offset and delay shown. -/
def State.showSample (s : State) (x : Int × Int) : State :=
  (s.wr PEL_OFS.OFS 0 (ofSigned 64 x.1)).wr PEL_DELAY.DELAY 0 (ofSigned 32 x.2)

theorem actPsyncRsp_eq (s : State) (ws : List Nat) (frac : Nat) {x : Int × Int}
    (h : bestSample (s.keepSample (sampleOf ws (s.now50 frac : Nat))).pel.samples = some x) :
    s.actPsyncRsp ws frac = if 4 ≤ ((s.keepSample (sampleOf ws (s.now50 frac : Nat))).showSample x).pel.exchanges then
      ((s.keepSample (sampleOf ws (s.now50 frac : Nat))).showSample x).wr PEL_STAT.OFS_VALID 0 1
    else (s.keepSample (sampleOf ws (s.now50 frac : Nat))).showSample x := by
  change (match bestSample (s.keepSample (sampleOf ws (s.now50 frac : Nat))).pel.samples with | some x => _ | none => _) = _
  rw [h]
  rfl

theorem bestSample_cons (x : Int × Int) (l : List (Int × Int)) : ∃ y, bestSample (x :: l) = some y := by
  rw [bestSample]
  cases bestSample l with
  | none => exact ⟨_, rfl⟩
  | some y =>
    dsimp only
    split <;> exact ⟨_, rfl⟩

theorem ofSigned_lt (w : Nat) (v : Int) : ofSigned w v < 2 ^ w := by
  have h : v % ((2 ^ w : Nat) : Int) < ((2 ^ w : Nat) : Int) := Int.emod_lt_of_pos _ (by exact_mod_cast Nat.two_pow_pos w)
  have h0 : 0 ≤ v % ((2 ^ w : Nat) : Int) := Int.emod_nonneg _ (by exact_mod_cast (Nat.two_pow_pos w).ne')
  exact (Int.toNat_lt h0).2 h

theorem actPsyncRsp_spec (s : State) (ws : List Nat) (frac : Nat) :
    (s.actPsyncRsp ws frac).rd CAR_RXMSG.MSGS = s.rd CAR_RXMSG.MSGS ∧
    (s.actPsyncRsp ws frac).pel.exchanges = s.pel.exchanges + 1 ∧
    (3 ≤ s.pel.exchanges → (s.actPsyncRsp ws frac).rd PEL_STAT.OFS_VALID = 1) ∧
    (s.actPsyncRsp ws frac).pel.samples = (sampleOf ws (s.now50 frac : Nat) :: s.pel.samples).take 8 ∧
    ∃ x, bestSample (s.actPsyncRsp ws frac).pel.samples = some x ∧
      (s.actPsyncRsp ws frac).rd PEL_OFS.OFS = ofSigned 64 x.1 ∧
      (s.actPsyncRsp ws frac).rd PEL_DELAY.DELAY = ofSigned 32 x.2 := by
  obtain ⟨x, hx⟩ := bestSample_cons (sampleOf ws (s.now50 frac : Nat)) (s.pel.samples.take 7)
  have hx' : bestSample (s.keepSample (sampleOf ws (s.now50 frac : Nat))).pel.samples = some x := hx
  have hpel : ((s.keepSample (sampleOf ws (s.now50 frac : Nat))).showSample x).pel =
      (s.keepSample (sampleOf ws (s.now50 frac : Nat))).pel := by
    rw [State.showSample, wr_pel, wr_pel]
  have hofs : ((s.keepSample (sampleOf ws (s.now50 frac : Nat))).showSample x).rd PEL_OFS.OFS = ofSigned 64 x.1 :=
    (rd_wr_off (by decide) _).trans ((rd_wr_same ..).trans (Nat.mod_eq_of_lt (ofSigned_lt 64 x.1)))
  have hdel : ((s.keepSample (sampleOf ws (s.now50 frac : Nat))).showSample x).rd PEL_DELAY.DELAY = ofSigned 32 x.2 :=
    (rd_wr_same ..).trans (Nat.mod_eq_of_lt (ofSigned_lt 32 x.2))
  have hrx : ((s.keepSample (sampleOf ws (s.now50 frac : Nat))).showSample x).rd CAR_RXMSG.MSGS = s.rd CAR_RXMSG.MSGS :=
    (rd_wr_off (by decide) _).trans (rd_wr_off (by decide) _)
  rw [actPsyncRsp_eq s ws frac hx']
  split
  · refine ⟨(rd_wr_off (by decide) _).trans hrx, ?_, fun _ => rd_wr_same .., ?_, x, ?_, (rd_wr_off (by decide) _).trans hofs,
      (rd_wr_off (by decide) _).trans hdel⟩
    · rw [wr_pel, hpel]
      rfl
    · rw [wr_pel, hpel]
      rfl
    · rw [wr_pel, hpel]
      exact hx'
  · next h =>
    refine ⟨hrx, by rw [hpel]; rfl, fun k => absurd (Nat.succ_le_succ k) ?_, by rw [hpel]; rfl, x, by rw [hpel]; exact hx',
      hofs, hdel⟩
    rwa [hpel] at h

theorem takesPsyncReq_of {ws : List Nat} (hr : s.isRoot = true) (hp : bits 31 16 (at0 ws 1) = s.rd PEL_CTRL.PEL_ID)
    (hh : s.holdover = false) : s.takesPsyncReq ws = true := by
  unfold State.takesPsyncReq State.inPeloton
  rw [hr, hh, beq_iff_eq.2 hp]
  rfl

theorem takesPsyncRsp_of {ws : List Nat} (hs : s.steward = true) (hj : s.joined = true)
    (hp : bits 31 16 (at0 ws 1) = s.rd PEL_CTRL.PEL_ID) (hr : s.pel.root = some (hdrCar (at0 ws 0))) :
    s.takesPsyncRsp ws = true := by
  unfold State.takesPsyncRsp State.inPeloton
  rw [hs, hj, hr, beq_iff_eq.2 hp, beq_iff_eq.2 rfl]
  rfl

/-! ### A POINT taken -/

/-- The fields that the decision to take a POINT reads. -/
def pointReads : List Fld := [CAR_STAT.ROLE, PEL_CTRL.JOIN, PEL_CTRL.PEL_ID, CAR_CFG.CARRIER, PEL_STAT.OFS_VALID, PEL_OFS.OFS]

theorem cedesTo_root {ws : List Nat} (hr : s.pel.root = some (hdrCar (at0 ws 0))) : s.cedesTo ws = false := by
  unfold State.cedesTo State.isRoot
  rw [hr, Bool.and_eq_false_iff]
  by_cases h : hdrCar (at0 ws 0) = s.carrier
  · exact .inr (by simp [h])
  · exact .inl (by simp [h])

theorem takesPoint_of {ws : List Nat} (hs : s.steward = true) (hj : s.joined = true)
    (hp : bits 31 16 (at0 ws 1) = s.rd PEL_CTRL.PEL_ID) (hr : s.pel.root = some (hdrCar (at0 ws 0)))
    (ho : hdrCar (at0 ws 0) = s.carrier ∨ s.rd PEL_STAT.OFS_VALID = 1) : s.takesPoint ws = true := by
  have ho' : (hdrCar (at0 ws 0) == s.carrier || s.on PEL_STAT.OFS_VALID) = true := by
    rw [Bool.or_eq_true, beq_iff_eq, on_iff]
    exact ho
  unfold State.takesPoint State.inPeloton
  dsimp only
  rw [hs, hj, hr, ho', beq_iff_eq.2 hp, beq_iff_eq.2 rfl]
  simp

theorem takesPoint_congr {ws : List Nat} (hp : t.pel = s.pel) (hr : ∀ F ∈ pointReads, t.rd F = s.rd F) :
    t.takesPoint ws = s.takesPoint ws := by
  have h1 := hr CAR_STAT.ROLE (by simp [pointReads])
  have h2 := hr PEL_CTRL.JOIN (by simp [pointReads])
  have h3 := hr PEL_CTRL.PEL_ID (by simp [pointReads])
  have h4 := hr CAR_CFG.CARRIER (by simp [pointReads])
  have h5 := hr PEL_STAT.OFS_VALID (by simp [pointReads])
  unfold State.takesPoint State.cedesTo State.isRoot State.steward State.carRole State.joined State.on State.inPeloton
    State.carrier
  rw [hp, h1, h2, h3, h4, h5]

/-- The state after a POINT with the offset `o`: heard, and flooded on but in holdover. -/
def State.pointTaken (s : State) (ws : List Nat) (o : Int) : State :=
  if (s.takePoint ws o).holdover = true then s.takePoint ws o
  else (s.takePoint ws o).relayPoint (hdrCar (at0 ws 0)) (bits 15 8 (at0 ws 1)) (bits 7 6 (at0 ws 1)) (hdrSeq (at0 ws 0))
    (pointTick ws o)

theorem actPoint_of_root {ws : List Nat} {o : Int} (ht : s.takesPoint ws = true)
    (hr : s.pel.root = some (hdrCar (at0 ws 0))) (ho : s.pointOfs (hdrCar (at0 ws 0)) = o) :
    s.actPoint ws = s.pointTaken ws o := by
  rw [actPoint_eq, ht, cedesTo_root hr, ho]
  exact (if_neg (by decide)).trans (if_neg (by decide))

theorem takePoint_kept (s : State) (ws : List Nat) (o : Int) (ps : List Region) (Gs : List Fld)
    (hc : ps.contains .cad = false) (hp : ps.contains .pel = false) (ht : ps.contains .tasks = false)
    (h : (Gs.all fun G => G.off PEL_NEXT.TICK) = true) (h' : (Gs.all fun G => G.off PEL_STAT.ORPHAN) = true) :
    Kept (.guard s ps Gs) (s.takePoint ws o) :=
  heardPoint_kept _ _ _ _ _ _ ps Gs hc hp ht h h'

theorem pointTaken_work (s : State) (ws : List Nat) (o : Int) : MsgWork logFields (s.takePoint ws o) (s.pointTaken ws o) := by
  unfold State.pointTaken
  split
  · exact .refl _
  · exact relayPoint_work ..

theorem pointTaken_spec (s : State) (ws : List Nat) (o : Int) :
    (s.pointTaken ws o).pel.heardAt = s.tick ∧ (s.pointTaken ws o).rd PEL_STAT.ORPHAN = 0 ∧
    (s.pointTaken ws o).rd CAR_RXMSG.MSGS = s.rd CAR_RXMSG.MSGS ∧
    (s.pel.known.contains (hdrCar (at0 ws 0), hdrSeq (at0 ws 0)) = false → QueueTakes s (s.extend (pointTick ws o)) →
      AppliesAt s (s.pointTaken ws o) (hdrCar (at0 ws 0), hdrSeq (at0 ws 0)) (bits 15 8 (at0 ws 1)) (bits 7 6 (at0 ws 1))
        (s.extend (pointTick ws o))) := by
  have hw := pointTaken_work s ws o
  have hk := takePoint_kept s ws o [] [CAR_RXMSG.MSGS] rfl rfl rfl (by decide) (by decide)
  obtain ⟨hat, horphan, happ⟩ := heardPoint_spec s (hdrCar (at0 ws 0)) (hdrSeq (at0 ws 0)) (bits 15 8 (at0 ws 1))
    (bits 7 6 (at0 ws 1)) (pointTick ws o)
  refine ⟨by rw [hw.pel]; exact hat, (hw.rd _ _ (by decide)).trans horphan,
    (hw.rd _ _ (by decide)).trans (hk.guarded (by simp) 0), fun hn hq => AppliesAt.after (happ hn hq) hw⟩

theorem queueTakes_of_work {fs : List Fld} {g : Nat} (h : QueueTakes s g) (hw : MsgWork fs s t)
    (hf : fs.all (Fld.off CAD_STAT.LOCKED) = true) : QueueTakes t g := by
  unfold QueueTakes
  rw [hw.rd _ _ hf, evqFill_congr hw.queue, hw.tick]
  exact h

theorem pointTaken_floods (s : State) (ws : List Nat) (o : Int) (hh : s.holdover = false) :
    (s.pointTaken ws o).emit = s.emit ++ ([0, 1, 2, 3].filter s.laneUp).map (fun l => .pace l (ownWords s mCPOINT 15
      ((hdrCar (at0 ws 0) * 2 ^ 24 + bits 15 8 (at0 ws 1) * 2 ^ 16 + bits 7 6 (at0 ws 1) * 2 ^ 14 + hdrSeq (at0 ws 0)) ::
        stampWords (pointTick ws o) 0))) := by
  have hk := takePoint_kept s ws o [.emit, .car, .fw, .inForce] [CAR_CFG.DIE, CAR_CFG.CARRIER, CAR_STAT.LINK_UP, RC_STAT.HOLDOVER]
    rfl rfl rfl (by decide) (by decide)
  have hi : (s.takePoint ws o).inForce = s.inForce := hk.spared .inForce rfl
  have hho : (s.takePoint ws o).holdover = false :=
    (holdover_congr (hk.guarded (by simp) 0) (hk.fw_spared rfl Fw.entered fun _ => rfl)).trans hh
  have hcar : (s.takePoint ws o).car = s.car := hk.spared .car rfl
  have hem : (s.takePoint ws o).emit = s.emit := hk.spared .emit rfl
  have hup : (s.takePoint ws o).laneUp = s.laneUp := funext (laneUp_congr hi (hk.guarded (by simp) 0))
  rw [State.pointTaken, if_neg (ne_true_of_eq_false hho), relayPoint_emit, hem, hup,
    ownWords_congr (congrArg Car.seqOut hcar) (hk.guarded (by simp) 0) (hk.guarded (by simp) 0)]

end Sys2Proof.Machine

namespace Sys2Proof

open Sys2Proof.Machine

/-- Settles O42: offers by `actOffer_spec` and `findRoot_root`, the root's POINT by `beforePoint_words`, points heard by
`pointTaken_spec` and `heardPoint_spec`, PSYNC by `actPsyncRsp_spec`. -/
theorem offersAndPoints : Obligations.OffersAndPoints := by
  unfold Obligations.OffersAndPoints
  refine ⟨?_, ?_, ?_, ?_, ?_, ?_, ?_, ?_, ?_, ?_, ?_⟩
  · intro s ht hs hj hh ho
    obtain ⟨-, -, hemit, hsent, hrises, -⟩ := actOffer_spec s.quiet.putOffer.2 [s.quiet.putOffer.1, s.quiet.offerWord]
    refine ⟨_, exec_offerSend ht hs hj hh ho, ?_, ?_, ?_⟩
    · rw [hsent, putOffer_pel]
      rfl
    · rw [hrises, putOffer_pel]
    · exact hemit.trans (putOffer_emit s.quiet)
  · intro ws s h hj hp
    have hw := actOn_work (s.quiet.takeFree 10).2 true (at0 ws 0) (s.quiet.takeFree 10).1 true
    obtain ⟨hof, hrx, -, -, -, hroot⟩ :=
      actOffer_spec ((s.quiet.takeFree 10).2.actOn true (at0 ws 0) (s.quiet.takeFree 10).1 true) ws
    refine ⟨_, exec_offer h (takesOffer_of hj hp), hrx.trans (actOn_counts _ _ _ _ _), ?_, fun hs => ?_⟩
    · rw [hof, hw.tick]
      rfl
    · refine (hroot ?_).trans (congrArg (fun c => some (Option.getD _ c)) (hw.rd _ _ (by decide)))
      exact (congrArg (· == rSTEWARD) (hw.rd CAR_STAT.ROLE 0 (by decide))).trans hs
  · exact fun ws s h hr => ⟨_, exec_offer_refused h (takesOffer_false hr), rfl, rfl, rfl⟩
  · intro c o s hc ho hs hne hp
    refine ⟨_, exec_carrierLost hc ho hs hne hp, ?_, rd_raise_st _ .PEL_CARRIER_LOST _ _ (by decide), ?_⟩
    · rw [State.offerOf, raise_pel, (findRoot_pel _).2.1]
      exact Table.get_set_same none s.pel.offers c none
    · rw [raise_pel, findRoot_root]
      refine congrArg (fun l : List Nat => some (l.head?.getD s.carrier)) ?_
      exact (liveCarriers_congr (congrArg Pel.offers (raise_pel ..)) (rd_raise_all (by decide) _ _)).symm
  · intro s ht hr hc hh hp
    have hpw := PointWork.actPoint s.quiet.beforePoint.putPoint.2
      (s.quiet.beforePoint.putPoint.1 :: s.quiet.beforePoint.pointWord :: s.quiet.beforePoint.leadStamp)
    obtain ⟨k, at', ced, hpel⟩ := hpw.pel
    obtain ⟨l, hl⟩ := hpw.emit
    have hput : s.quiet.beforePoint.putPoint.2.pel = s.quiet.beforePoint.pel := (sideband_work _ _ _ _ _).pel
    obtain ⟨m, un, hb⟩ := beforePoint_pel s.quiet
    refine ⟨_, exec_pointSend ht hr hc hh hp, ?_, fun hm hor => ?_, fun hle hcc => ?_, ?_⟩
    · rw [showRoot_pel, hpel, hput, hb]
      rfl
    · have hfb : s.quiet.beforePoint = _ := fallBack_of (s := s.quiet.setPel fun p => { p with pointSent := some s.tick }) hm hor
      refine ⟨?_, ?_⟩
      · rw [showRoot_pel, hpel, hput, hfb, raise_pel]
        rfl
      · rw [showRoot_rd _ (by decide) (by decide), hpw.fallback]
        refine ((sideband_work _ _ _ _ _).rd _ _ (by decide)).trans ?_
        change s.quiet.beforePoint.rd PEL_EVT.FALLBACK = 1
        rw [hfb]
        exact rd_raise_st _ .PEL_FALLBACK _ _ (by decide)
    · have hfb : s.quiet.beforePoint = _ := fallBack_rests (s := s.quiet.setPel fun p => { p with pointSent := some s.tick }) hle hcc
      rw [showRoot_pel, hpel, hput, hfb]
      rfl
    · have hm : (s.quiet.beforePoint.putPoint.2.actPoint (s.quiet.beforePoint.putPoint.1 ::
          s.quiet.beforePoint.pointWord :: s.quiet.beforePoint.leadStamp)).showRoot.pel.rootMode =
          s.quiet.beforePoint.pel.rootMode := by rw [showRoot_pel, hpel, hput]
      have hem : s.quiet.beforePoint.putPoint.2.emit = s.quiet.beforePoint.emit ++ _ := sideband_emit _ _ _ _ _
      have hsh : ∀ u : State, u.showRoot.emit = u.emit := fun u => (showRoot_kept u [.emit] [] rfl).spared .emit rfl
      rw [hm, hsh, hl, hem]
      refine List.mem_append_left _ (List.mem_append_right _ (List.mem_singleton.2 (congrArg (Emission.sideband 256) ?_)))
      exact (beforePoint_words s.quiet rfl).symm
  · intro ws o s h hs hj hp hr ho
    have hw := actOn_work (s.quiet.takeFree 10).2 true (at0 ws 0) (s.quiet.takeFree 10).1 true
    have hcount := actOn_counts (s.quiet.takeFree 10).2 true (at0 ws 0) (s.quiet.takeFree 10).1 true
    have hem := actOn_emit (s.quiet.takeFree 10).2 true (at0 ws 0) (s.quiet.takeFree 10).1 true
    have hsq := actOn_seqOut (s.quiet.takeFree 10).2 true (at0 ws 0) (s.quiet.takeFree 10).1 true
    have hex := exec_pelPoint h (takesPoint_of hs hj hp hr (ho.imp And.left fun k => k.2.1))
    generalize ha : (s.quiet.takeFree 10).2.actOn true (at0 ws 0) (s.quiet.takeFree 10).1 true = a at *
    have hr0 : ∀ F ∈ pointReads, a.rd F = s.rd F := fun F hF =>
      hw.rd F 0 (List.all_eq_true.1 (show (pointReads.all fun F => (CAR_RXMSG.MSGS :: logFields).all F.off) = true by decide) F hF)
    have hpel : a.pel = s.pel := hw.pel
    have hofs : a.pointOfs (hdrCar (at0 ws 0)) = o := by
      unfold State.pointOfs State.carrier
      rw [hr0 CAR_CFG.CARRIER (by simp [pointReads]), hr0 PEL_OFS.OFS (by simp [pointReads])]
      rcases ho with ⟨hc, rfl⟩ | ⟨hc, -, rfl⟩
      · exact if_pos hc
      · exact if_neg hc
    have hact := actPoint_of_root (s := a) ((takesPoint_congr hpel hr0).trans
      (takesPoint_of hs hj hp hr (ho.imp And.left fun k => k.2.1))) (by rw [hpel]; exact hr) hofs
    obtain ⟨hat, horphan, hrx, happ⟩ := pointTaken_spec a ws o
    have hext : a.extend (pointTick ws o) = applyTick s ws o := extend_congr hw.tick _
    refine ⟨_, hex, ?_⟩
    rw [hact]
    refine ⟨hat.trans hw.tick, horphan, hrx.trans hcount, fun hk hq => ?_, fun hh => ⟨0, by decide, ?_⟩⟩
    · have := happ (by rw [hpel]; exact hk) (by
        rw [hext]
        exact queueTakes_of_work (s := (s.quiet.takeFree 10).2) hq hw (by decide))
      rw [hext] at this
      rwa [AppliesAt, hw.tick] at this
    · rw [pointTaken_floods a ws o (Eq.trans (holdover_congr (hw.rd _ _ (by decide)) hw.entered) hh), hem,
        funext (laneUp_congr (t := a) (s := s) hw.inForce (hw.rd _ _ (by decide))),
        ownWords_congr (t := a) (s := s) hsq (hw.rd _ _ (by decide)) (hw.rd _ _ (by decide))]
      rfl
  · intro l ws o s h hj ho
    have hw := paceTakes_work (s.quiet.takeFree 10).2 l ws (s.quiet.takeFree 10).1
    have hcount := paceTakes_counts (s.quiet.takeFree 10).2 l ws (s.quiet.takeFree 10).1
    have hex := exec_cpoint h hj ho
    generalize (s.quiet.takeFree 10).2.paceTakes l ws (s.quiet.takeFree 10).1 = a at *
    obtain ⟨x, y, z, hcar⟩ := hw.car
    have hofs : Table.get none a.car.ofs (senderOf ws) = some o := by
      rw [hcar]
      exact ho
    obtain ⟨hat, horphan, happ⟩ := heardPoint_spec a (bits 31 24 (at0 ws 1)) (bits 7 0 (at0 ws 1)) (bits 23 16 (at0 ws 1))
      (bits 15 14 (at0 ws 1)) (pointTick ws o)
    have hk := heardPoint_kept a (bits 31 24 (at0 ws 1)) (bits 7 0 (at0 ws 1)) (bits 23 16 (at0 ws 1))
      (bits 15 14 (at0 ws 1)) (pointTick ws o) [] [CAR_RXMSG.MSGS] rfl rfl rfl (by decide) (by decide)
    have hpel : a.pel = s.pel := hw.pel
    have hext : a.extend (pointTick ws o) = applyTick s ws o := extend_congr hw.tick _
    refine ⟨_, hex, ?_⟩
    rw [actCpoint_eq hofs]
    refine ⟨hat.trans hw.tick, horphan, (hk.guarded (by simp) 0).trans hcount, fun hn hq => ?_⟩
    rw [hpel, hext] at happ
    have := happ hn (queueTakes_of_work (s := (s.quiet.takeFree 10).2) hq hw (by decide))
    rwa [AppliesAt, hw.tick] at this
  · intro e c p m s he ha hj
    refine ⟨_, exec_pelotonApply he ha hj, ?_, ?_, ?_, ?_, fun hl => ?_⟩
    · rw [State.showNext, rd_wr_off (by decide), giveTarget_rd _ _ (by decide) (by decide), rd_wr_off (by decide), rd_wr_same]
    · rw [State.showNext, rd_wr_off (by decide), giveTarget_rd _ _ (by decide) (by decide), rd_wr_same]
      split <;> rfl
    · rw [State.showNext, rd_wr_off (by decide), giveTarget_TARGET]
    · rw [showNext_cad, giveTarget_cad, wr_cad, wr_cad]
      split
      · rw [raise_cad_part _ _ _ _ Cad.queue fun _ _ => rfl, unqueue_queue]
        rfl
      · rw [unqueue_queue]
        rfl
    · rw [State.showNext, rd_wr_off (by decide), giveTarget_rd _ _ (by decide) (by decide), rd_wr_off (by decide), rd_wr_off (by decide),
        if_pos hl]
      exact rd_raise_st _ .PEL_LATE_APPLY _ _ (by decide)
  · intro r frac s hr ht hs hj hne hh hp
    refine ⟨_, exec_psyncReqSend hr ht hs hj hne hh hp, ?_, ?_⟩
    · rw [(sideband_work _ _ _ _ _).pel]
      rfl
    · exact sideband_emit _ _ _ _ _
  · intro ws f2 f3 s h hr hp hh
    have hw := actOn_work s.quiet true (at0 ws 0) f2 true
    refine ⟨_, exec_psyncReq h (takesPsyncReq_of hr hp hh), ?_, ?_⟩
    · exact ((sideband_work _ _ _ _ _).rd _ _ (by decide)).trans (actOn_counts _ _ _ _ _)
    · refine (sideband_emit _ _ _ _ _).trans ?_
      rw [actOn_emit, ownWords_congr (actOn_seqOut _ _ _ _ _) (hw.rd _ _ (by decide)) (hw.rd _ _ (by decide)),
        hw.rd PEL_CTRL.PEL_ID _ (by decide), State.stamp, hw.tick]
      rfl
  · intro ws frac s h hs hj hp hr
    have hw := actOn_work s.quiet true (at0 ws 0) frac true
    obtain ⟨hrx, hx, hv, hsamples, x, hbest, hofs, hdel⟩ :=
      actPsyncRsp_spec (s.quiet.actOn true (at0 ws 0) frac true) ws frac
    rw [hw.pel] at hx hv hsamples
    refine ⟨_, exec_psyncRsp h (takesPsyncRsp_of hs hj hp hr), hrx.trans (actOn_counts _ _ _ _ _), hx, hv,
      ⟨x, hbest, hofs, hdel⟩, hsamples.trans ?_⟩
    rw [State.now50, State.stamp, hw.tick]
    rfl

end Sys2Proof
end
section
/-! PROOF. Mailboxes to the agents and the fences of retired cores (O44). -/

namespace Sys2Proof.Machine

variable {s t u : State}

/-! ### A mailbox's record -/

theorem omb_congr (h : t.bus = s.bus) (k : Nat) : t.omb k = s.omb k := by
  unfold State.omb
  rw [h]

theorem omb_setOmb_same (s : State) (k : Nat) (f : Omb → Omb) : (s.setOmb k f).omb k = f (s.omb k) := by
  unfold State.setOmb State.omb
  rw [wr_bus]
  exact Table.get_upd_same ..

theorem setOmb_emit (s : State) (k : Nat) (f : Omb → Omb) : (s.setOmb k f).emit = s.emit := wr_emit ..
theorem setOmb_tick (s : State) (k : Nat) (f : Omb → Omb) : (s.setOmb k f).tick = s.tick := wr_tick ..
theorem setOmb_inForce (s : State) (k : Nat) (f : Omb → Omb) : (s.setOmb k f).inForce = s.inForce := wr_inForce ..
theorem setOmb_mg (s : State) (k : Nat) (f : Omb → Omb) : (s.setOmb k f).mg = s.mg := wr_mg ..

theorem setOmb_rd (s : State) (k : Nat) (f : Omb → Omb) {F : Fld} {i : Nat} (h : F.off OMB_STAT.QUEUED = true) :
    (s.setOmb k f).rd F i = s.rd F i :=
  rd_wr_off h _

theorem ombAddr_congr (h : t.inForce = s.inForce) (k : Nat) : t.ombAddr k = s.ombAddr k := by
  unfold State.ombAddr State.inf
  rw [h]

/-! ### Fences -/

/-- A retired core whose fence is asserted at tick `k`. -/
def Retired.fencedAt (k : Nat) (r : Retired) : Retired := { r with fenced := some k, oseq := none }

theorem showAwait_mg (s : State) : s.showAwait.mg = s.mg := by
  unfold State.showAwait
  rw [wrB_mg, wrB_mg]

theorem fence_retired (s : State) (p : Retired → Bool) : (s.fence p).mg.retired =
    s.mg.retired.map fun r => if (p r && r.fenced.isNone) = true then r.fencedAt s.tick else r := by
  unfold State.fence
  extract_lets l a
  have ha : a.mg = s.mg ∧ a.tick = s.tick := foldl_keeps (fun t : State => t.mg = s.mg ∧ t.tick = s.tick) ⟨rfl, rfl⟩
    fun _ _ h => ⟨(wrBit_mg ..).trans h.1, (wrBit_tick ..).trans h.2⟩
  rw [showAwait_mg, ← ha.1, ← ha.2]
  rfl

theorem fence_fences (s : State) {p : Retired → Bool} {r : Retired} (hr : r ∈ s.mg.retired) (hp : p r = true)
    (hf : r.fenced = none) : ∃ r' ∈ (s.fence p).mg.retired, r'.core = r.core ∧ r'.fenced = some s.tick := by
  refine ⟨r.fencedAt s.tick, ?_, rfl, rfl⟩
  rw [fence_retired, List.mem_map]
  exact ⟨r, hr, if_pos (by rw [hp, hf]; rfl)⟩

theorem fence_kept (s : State) (p : Retired → Bool) (ps : List Region) (Gs : List Fld) (hp : ps.contains .mg = false)
    (h : ([CORE_FENCE.FENCE, MG_STAT.FENCE_WAIT, OMB_STAT.AWAIT].all fun F => Gs.all fun G => G.off F) = true) :
    Kept (.guard s ps Gs) (s.fence p) := by
  have h' := List.all_eq_true.1 h
  exact kept_fence (kept_guard _ _ _) hp (h' _ (by simp)) (h' _ (by simp)) (h' _ (by simp))

/-! ### Posts -/

/-- The oldest message of mailbox `k` leaves its queue. -/
def State.dropPost (s : State) (k : Nat) : State :=
  s.setOmb k fun o => { o with queue := o.queue.drop 1 }

theorem failDomainOff_spec (s : State) {k : Nat} (hk : k < 8) (m : OmbMsg) :
    (s.failDomainOff k m).omb k = (s.dropPost k).omb k ∧
    (s.failDomainOff k m).rd OMB_STAT.DOMOFF k = (s.rd OMB_STAT.DOMOFF k + 1) % 2 ^ OMB_STAT.DOMOFF.width := by
  unfold State.failDomainOff
  extract_lets a b c
  have ha : a.bus = (s.dropPost k).bus ∧ a.rd OMB_STAT.DOMOFF k = (s.rd OMB_STAT.DOMOFF k + 1) % 2 ^ OMB_STAT.DOMOFF.width := by
    refine ⟨inc_bus .., (rd_inc_same ..).trans ?_⟩
    rw [setOmb_rd _ _ _ (by decide)]
  have hb := LogOnly.fwRec a { sev := 3, block := 12, event := 0x84, arg0 := arg0 k 0, arg1 := m.mtype * 2 ^ 24 + m.oseq }
  have hc : c.bus = (s.dropPost k).bus ∧ c.rd OMB_STAT.DOMOFF k = (s.rd OMB_STAT.DOMOFF k + 1) % 2 ^ OMB_STAT.DOMOFF.width := by
    refine ⟨(doorbell_bus ..).trans (hb.bus.trans ha.1), ?_⟩
    exact (rd_doorbell_off 8 (by decide) hk _).trans ((hb.rd _ _ (Fld.offLog_key (N := 8) (by decide) hk)).trans ha.2)
  clear_value c
  split
  · exact ⟨omb_congr hc.1 k, hc.2⟩
  · split
    · exact ⟨omb_congr hc.1 k, hc.2⟩
    · have hk := fence_kept c (fun r => m.words.contains r.core) [.bus] [OMB_STAT.DOMOFF] rfl (by decide)
      exact ⟨omb_congr ((hk.spared .bus rfl).trans hc.1) k, (hk.guarded (by simp) k).trans hc.2⟩

theorem posted_spec (s : State) (k : Nat) (m : OmbMsg) : (s.posted k m).omb k = (s.dropPost k).omb k ∧
    (s.posted k m).emit = s.emit ++ [.hostByte (s.ombAddr k + 63) 0x80] := by
  have h : (s.dropPost k).omb k = ((s.drive (.hostByte (s.ombAddr k + 63) 0x80)).dropPost k).omb k := by
    unfold State.dropPost
    rw [omb_setOmb_same, omb_setOmb_same]
    rfl
  unfold State.posted
  extract_lets a b
  have hb : b.emit = s.emit ++ [.hostByte (s.ombAddr k + 63) 0x80] := wr_emit ..
  split
  · refine ⟨(omb_congr ?_ k).trans h.symm, ?_⟩
    · unfold State.showAwait
      rw [wrB_bus, wrB_bus]
      rfl
    · unfold State.showAwait
      rw [wrB_emit, wrB_emit]
      exact hb
  · exact ⟨h.symm, hb⟩

/-- The attempt at mailbox `k` noted. -/
def State.tryPost (s : State) (k : Nat) : State :=
  s.setOmb k fun o => { o with tried := some s.tick }

/-- The domain of mailbox `k` is ON, or there is none. -/
abbrev BoxReached (s : State) (k : Nat) : Prop :=
  s.rd OMB_CFG.DOMAIN k = 255 ∨ s.dstate (s.rd OMB_CFG.DOMAIN k) = dON

theorem tryPost_reached {k : Nat} (h : BoxReached s k) : ((s.tryPost k).rd OMB_CFG.DOMAIN k != 255 &&
    (s.tryPost k).dstate ((s.tryPost k).rd OMB_CFG.DOMAIN k) != dON) = false := by
  unfold State.dstate State.tryPost
  rw [setOmb_rd _ _ _ (by decide), setOmb_rd _ _ _ (by decide)]
  rcases h with h | h
  · simp [h]
  · simp [show s.rd SWD_STAT.STATE (s.rd OMB_CFG.DOMAIN k) = dON from h]

theorem tryPost_omb (s : State) (k : Nat) : (s.tryPost k).omb k = { s.omb k with tried := some s.tick } :=
  omb_setOmb_same ..

theorem tryPost_inForce (s : State) (k : Nat) : (s.tryPost k).inForce = s.inForce := setOmb_inForce ..

theorem tryPost_emit (s : State) (k : Nat) : (s.tryPost k).emit = s.emit := setOmb_emit ..

/-- Word 15 of mailbox `k` read as `w`. -/
def State.readBox (s : State) (k w : Nat) : State :=
  ((s.tryPost k).readCtl k).setOmb k fun o => { o with full := w.testBit 31 }

theorem readBox_omb (s : State) (k w : Nat) :
    (s.readBox k w).omb k = { s.omb k with tried := some s.tick, full := w.testBit 31 } := by
  have h : ((s.tryPost k).readCtl k).omb k = { s.omb k with tried := some s.tick } := tryPost_omb s k
  rw [State.readBox, omb_setOmb_same, h]

theorem readBox_inForce (s : State) (k w : Nat) : (s.readBox k w).inForce = s.inForce :=
  (setOmb_inForce ((s.tryPost k).readCtl k) k _).trans (tryPost_inForce s k)

theorem readCtl_emit (s : State) (k : Nat) : ∃ ns, (s.readCtl k).emit = s.emit ++ [.hostRead (s.ombAddr k + 60) ns 4] :=
  ⟨_, rfl⟩

theorem writeMsg_emit (s : State) (k : Nat) (m : OmbMsg) : ∃ ns, (s.writeMsg k m).emit = s.emit ++
    [.hostWrite (s.ombAddr k) ns ((m.mtype * 2 ^ 24 + m.oseq * 16 + m.words.length) :: m.words)] :=
  ⟨_, rfl⟩

theorem readBox_emit (s : State) (k w : Nat) :
    ∃ ns, (s.readBox k w).emit = s.emit ++ [.hostRead (s.ombAddr k + 60) ns 4] := by
  obtain ⟨ns, h⟩ := readCtl_emit (s.tryPost k) k
  rw [tryPost_emit, ombAddr_congr (tryPost_inForce s k)] at h
  exact ⟨ns, (setOmb_emit ..).trans h⟩

theorem execOmbPost_eq {k : Nat} {ctl : Option Nat} {ok : Bool} {m : OmbMsg} {q : List OmbMsg} (hk : k < 8)
    (hq : (s.omb k).queue = m :: q) (ht : (s.omb k).tried ≠ some s.tick) : exec (.ombPost k ctl ok) s = .next
      (if ((s.quiet.tryPost k).rd OMB_CFG.DOMAIN k != 255 &&
          (s.quiet.tryPost k).dstate ((s.quiet.tryPost k).rd OMB_CFG.DOMAIN k) != dON) = true then
        (s.quiet.tryPost k).failDomainOff k m
      else match ctl with
        | none => ((s.quiet.tryPost k).readCtl k).failDomainOff k m
        | some w =>
          if w.testBit 31 = true then s.quiet.readBox k w
          else if ok = true then
            ((s.quiet.readBox k w).writeMsg k m).posted k m
          else ((s.quiet.readBox k w).writeMsg k m).failDomainOff k m) := by
  have hq' : (s.quiet.omb k).queue = m :: q := hq
  have ht' : ((s.quiet.omb k).tried == some s.quiet.tick) = false := beq_eq_false_iff_ne.2 ht
  change execOmbPost k ctl ok s = _
  unfold execOmbPost
  dsimp only
  rw [if_neg (Nat.not_le.2 hk), hq']
  dsimp only
  rw [ht']
  cases ctl <;> rfl

/-- Word 15 of mailbox 0 polled and read as `w`. -/
def State.pollBox (s : State) (w : Nat) : State :=
  ((s.setOmb 0 fun o => { o with polled := s.tick }).readCtl 0).setOmb 0 fun o => { o with full := w.testBit 31 }

theorem readCtl_mg (s : State) (k : Nat) : (s.readCtl k).mg = s.mg := rfl
theorem readCtl_tick (s : State) (k : Nat) : (s.readCtl k).tick = s.tick := rfl

theorem pollBox_mg (s : State) (w : Nat) : (s.pollBox w).mg = s.mg := by
  rw [State.pollBox, setOmb_mg, readCtl_mg, setOmb_mg]

theorem pollBox_tick (s : State) (w : Nat) : (s.pollBox w).tick = s.tick := by
  rw [State.pollBox, setOmb_tick, readCtl_tick, setOmb_tick]

theorem pollBox_polled (s : State) (w : Nat) : ((s.pollBox w).omb 0).polled = s.tick := by
  have h : ((s.setOmb 0 fun o => { o with polled := s.tick }).readCtl 0).omb 0 = { s.omb 0 with polled := s.tick } :=
    omb_setOmb_same s 0 _
  rw [State.pollBox, omb_setOmb_same, h]

theorem exec_fencePoll {w : Nat} (ha : s.mg.retired.any Retired.awaits = true) (hp : (s.omb 0).polled + 1000 ≤ s.tick)
    (hh : s.holdover = false) : exec (.fencePoll 0 (some w)) s = .next
      ((s.quiet.pollBox w).fence fun r => match r.oseq with
        | some q => decide ((bits 15 4 w + 4096 - q) % 4096 < 2048)
        | none => false) := by
  have ha' : s.quiet.mg.retired.any Retired.awaits = true := ha
  have hp' : s.quiet.past (s.quiet.omb 0).polled 1000 = true := decide_eq_true hp
  have hh' : s.quiet.holdover = false := hh
  exact congrArg Host.Outcome.next (if_pos (by rw [ha', hp', hh']; rfl))

theorem exec_fenceWaitExpiry (hh : s.holdover = false) : exec .fenceWaitExpiry s = .next
    (s.quiet.fence fun r => r.failed || match r.posted with
      | some t => s.quiet.past t (1000 * max 1 (s.quiet.inf MG_SUS_CFG.FENCE_WAIT))
      | none => false) :=
  congrArg Host.Outcome.next (if_neg (ne_true_of_eq_false hh))

end Sys2Proof.Machine

namespace Sys2Proof

open Sys2Proof.Machine

/-- Settles O44: the attempt at a mailbox by its equation (`execOmbPost_eq`), with `posted_spec` and `failDomainOff_spec`; the
fences by `fence_fences`. -/
theorem outboundPosts : Obligations.OutboundPosts := by
  unfold Obligations.OutboundPosts
  refine ⟨?_, ?_, ?_, ?_, ?_⟩
  · intro k w m q s hk hq ht hd hw
    have hex := execOmbPost_eq (ctl := some w) (ok := true) hk hq ht
    rw [if_neg (ne_true_of_eq_false (tryPost_reached (s := s.quiet) hd))] at hex
    dsimp only at hex
    rw [if_neg (ne_true_of_eq_false hw), if_pos rfl] at hex
    obtain ⟨homb, hem⟩ := posted_spec ((s.quiet.readBox k w).writeMsg k m) k m
    have hbox : ((s.quiet.readBox k w).writeMsg k m).omb k = _ := readBox_omb s.quiet k w
    obtain ⟨ns, hns⟩ := readBox_emit s.quiet k w
    obtain ⟨ns', hns'⟩ := writeMsg_emit (s.quiet.readBox k w) k m
    have ha : (s.quiet.readBox k w).ombAddr k = s.ombAddr k := ombAddr_congr (readBox_inForce ..) k
    have ha' : ((s.quiet.readBox k w).writeMsg k m).ombAddr k = s.ombAddr k := ha
    refine ⟨_, hex, ?_, ?_, ns, ns', ?_⟩
    · rw [homb, State.dropPost, omb_setOmb_same, hbox]
      exact congrArg (List.drop 1) hq
    · rw [homb, State.dropPost, omb_setOmb_same, hbox]
      rfl
    · rw [hem, hns', hns, ha, ha']
      rfl
  · intro k w ok m q s hk hq ht hd hw
    have hex := execOmbPost_eq (ctl := some w) (ok := ok) hk hq ht
    rw [if_neg (ne_true_of_eq_false (tryPost_reached (s := s.quiet) hd))] at hex
    dsimp only at hex
    rw [if_pos hw] at hex
    refine ⟨_, hex, ?_, ?_, readBox_emit s.quiet k w⟩
    · rw [readBox_omb]
      exact hq
    · rw [readBox_omb]
      exact hw
  · intro k ok m q s hk hq ht
    have hex := execOmbPost_eq (ctl := none) (ok := ok) hk hq ht
    have hfail : ∀ u : State, u.bus = (s.quiet.tryPost k).bus → u.rd OMB_STAT.DOMOFF k = s.rd OMB_STAT.DOMOFF k →
        ((u.failDomainOff k m).omb k).queue = q ∧ (u.failDomainOff k m).rd OMB_STAT.DOMOFF k =
          (s.rd OMB_STAT.DOMOFF k + 1) % 2 ^ OMB_STAT.DOMOFF.width := by
      intro u hu hr
      obtain ⟨homb, hd⟩ := failDomainOff_spec u hk m
      refine ⟨?_, by rw [hd, hr]⟩
      rw [homb, State.dropPost, omb_setOmb_same, omb_congr hu, tryPost_omb]
      exact congrArg (List.drop 1) hq
    have hr : (s.quiet.tryPost k).rd OMB_STAT.DOMOFF k = s.rd OMB_STAT.DOMOFF k := setOmb_rd _ _ _ (by decide)
    refine ⟨_, hex, ?_⟩
    split
    · exact hfail _ rfl hr
    · exact hfail _ rfl hr
  · intro w s ha hp hh
    refine ⟨_, exec_fencePoll ha hp hh, ?_, fun r hr q hq hf hle => ?_⟩
    · rw [omb_congr ((fence_kept _ _ [.bus] [] rfl rfl).spared .bus rfl)]
      exact pollBox_polled s.quiet w
    · have h := fence_fences (s.quiet.pollBox w) (p := fun r => match r.oseq with
        | some q => decide ((bits 15 4 w + 4096 - q) % 4096 < 2048)
        | none => false) (r := r) (by rw [pollBox_mg]; exact hr) (by rw [hq]; exact decide_eq_true hle) hf
      rwa [pollBox_tick] at h
  · intro s hh
    refine ⟨_, exec_fenceWaitExpiry hh, fun r hr a ha hf hle => fence_fences s.quiet hr ?_ hf⟩
    rw [ha, Bool.or_eq_true]
    exact .inr (decide_eq_true hle)

end Sys2Proof
end
section
/-! PROOF. Work that leaves given bit addresses alone; the escalation ladder (O45). -/

namespace Sys2Proof.Machine

variable {s t u : State}

/-! ### Bit addresses that no instance of a field lies at -/

/-- No instance of `F` lies at the bit address `a`. -/
def Fld.misses (F : Fld) (a : Nat) : Bool :=
  decide (a < F.base) || (a - F.base) % F.stride != 0

theorem Fld.ne_key_of_misses {F : Fld} {a : Nat} (h : F.misses a = true) (i : Nat) : a ≠ F.key i := by
  rintro rfl
  rw [Fld.misses, Bool.or_eq_true, decide_eq_true_eq, bne_iff_ne] at h
  rcases h with h | h
  · exact absurd (F.base_le_key i) (Nat.not_le.2 h)
  · exact h (by simp [Fld.key])

/-- Bounds around `s` that open every part but those of `ps`, and every field that misses each bit address of `ks`. -/
def Bounds.spare (s : State) (ps : List Region) (ks : List Nat) : Bounds :=
  ⟨s.pending, s.tick, fun _ => True, s, fun q => ps.contains q = false, fun F => ks.all F.misses = true⟩

theorem kept_spare (s : State) (ps : List Region) (ks : List Nat) : Kept (.spare s ps ks) s where
  pending := rfl
  tick := rfl
  locks := trivial
  inv := id
  part := fun q _ => Region.same_refl s q
  reg := fun _ _ _ => rfl

theorem logs_spare {ps : List Region} {ks : List Nat} (ht : ps.contains .tasks = false) (hl : ps.contains .log = false)
    (h : (logFields.all fun F => ks.all F.misses) = true) : Logs (.spare s ps ks) :=
  ⟨ht, hl, fun F hF => List.all_eq_true.1 h F hF⟩

theorem Kept.spared_key {ps : List Region} {ks : List Nat} (h : Kept (.spare s ps ks) t) {G : Fld} {j : Nat}
    (hG : G.key j ∈ ks) : t.rd G j = s.rd G j :=
  h.reg G j fun _ hF i => Fld.ne_key_of_misses (List.all_eq_true.1 hF _ hG) i

theorem Kept.spared_part {ps : List Region} {ks : List Nat} (h : Kept (.spare s ps ks) t) (q : Region)
    (hq : ps.contains q = true) : q.same s t :=
  h.part q fun k => Bool.false_ne_true (k.symm.trans hq)

/-! ### Error codes, snapshots and the power step -/

theorem spare_hangSnapshot {ps : List Region} {ks : List Nat} (h : Kept (.spare s ps ks) t) (code cause : Nat)
    (hps : (ps.contains .free || ps.contains .tasks || ps.contains .log) = false)
    (hks : ((logFields ++ [FW_EVT.HSNAP, HS_CTRL.FROZEN, HS_CTRL.MISSED, HS_W.WORD]).all fun F => ks.all F.misses) = true) :
    Kept (.spare s ps ks) (t.hangSnapshot code cause) := by
  rw [Bool.or_eq_false_iff, Bool.or_eq_false_iff] at hps
  have h' := List.all_eq_true.1 hks
  exact kept_hangSnapshot h hps.1.1 ⟨hps.1.2, hps.2, fun F hF => h' F (List.mem_append_left _ hF)⟩ (h' FW_EVT.HSNAP (by simp))
    (h' _ (by simp)) (h' _ (by simp)) (h' _ (by simp))

theorem spare_collectCode {ps : List Region} {ks : List Nat} (h : Kept (.spare s ps ks) t) (code : Nat)
    (hps : (ps.contains .rc || ps.contains .tasks || ps.contains .log) = false)
    (hks : ((logFields ++ [RC_ERRCODE.CODE, RC_ERRLAST.CODE, RC_ERR_TICK.TICK]).all fun F => ks.all F.misses) = true) :
    Kept (.spare s ps ks) (t.collectCode code) := by
  rw [Bool.or_eq_false_iff, Bool.or_eq_false_iff] at hps
  have h' := List.all_eq_true.1 hks
  exact kept_collectCode h hps.1.1 ⟨hps.1.2, hps.2, fun F hF => h' F (List.mem_append_left _ hF)⟩
    (h' _ (by simp)) (h' _ (by simp)) (h' _ (by simp))

/-- The code collected and the snapshot taken. -/
def State.captured (s : State) (code cause : Nat) : State :=
  (s.collectCode code).hangSnapshot code cause

/-- The fields of a capture. -/
def captureFields : List Fld :=
  logFields ++ [FW_EVT.HSNAP, HS_CTRL.FROZEN, HS_CTRL.MISSED, HS_W.WORD, RC_ERRCODE.CODE, RC_ERRLAST.CODE, RC_ERR_TICK.TICK]

theorem captured_rd (s : State) (code cause : Nat) {F : Fld} {i : Nat}
    (h : (captureFields.all fun G => G.misses (F.key i)) = true) : (s.captured code cause).rd F i = s.rd F i := by
  have h' := List.all_eq_true.1 h
  have hk : Kept (.spare s [] [F.key i]) (s.captured code cause) := by
    refine spare_hangSnapshot (spare_collectCode (kept_spare s _ _) code rfl ?_) code cause rfl ?_ <;>
      refine List.all_eq_true.2 fun G hG => ?_ <;>
      rw [List.all_cons, h' G (by simp only [captureFields, List.mem_append, List.mem_cons] at hG ⊢; tauto)] <;> rfl
  exact hk.spared_key (List.mem_singleton.2 rfl)

/-- The state in POWER, before the tray is asked. -/
def State.powered (s : State) (code : Nat) : State :=
  ((((s.captured code 4).inc RC_CNT.POWER).wr RC_STAT.LADDER 0 lPOWER).wr RC_STAT.STEP_PART 0 0).setRc
    fun r => { r with step := none }

theorem enterPower_eq (s : State) (code : Nat) : s.enterPower code =
    if ((s.powered code).infOn RC_CTRL.AUTO_PWR || false) = true then
      ((s.powered code).wr RC_STAT.TRAY_REQ 0 1).raise .RC_TRAY_REQ
    else (s.powered code).wr RC_STAT.PWR_HELD 0 1 := rfl

theorem powered_LADDER (s : State) (code : Nat) : (s.powered code).rd RC_STAT.LADDER = lPOWER := by
  rw [State.powered, setRc_rd, rd_wr_off (by decide), rd_wr_same]
  rfl

theorem powered_POWER (s : State) (code : Nat) :
    (s.powered code).rd RC_CNT.POWER = (s.rd RC_CNT.POWER + 1) % 2 ^ RC_CNT.POWER.width := by
  rw [State.powered, setRc_rd, rd_wr_off (by decide), rd_wr_off (by decide), rd_inc_same, captured_rd _ _ _ (by decide)]

theorem enterPower_spec (s : State) (code : Nat) : (s.enterPower code).ladder = lPOWER ∧
    (s.enterPower code).rd RC_CNT.POWER = (s.rd RC_CNT.POWER + 1) % 2 ^ RC_CNT.POWER.width := by
  rw [enterPower_eq, ← powered_LADDER s code, ← powered_POWER s code, State.ladder]
  split
  · rw [rd_raise_all (by decide), rd_wr_off (by decide), rd_raise_all (by decide), rd_wr_off (by decide)]
    exact ⟨rfl, rfl⟩
  · rw [rd_wr_off (by decide), rd_wr_off (by decide)]
    exact ⟨rfl, rfl⟩

/-! ### Heartbeats -/

/-- A heartbeat missed, the next one due from `due`. -/
def State.countMiss (s : State) (due : Nat) : State :=
  (((s.wr RC_STAT.MISSES 0 (min 3 (s.rd RC_STAT.MISSES + 1))).inc RC_HB_CNT.MISSES).setRc
    fun r => { r with missAt := due }).raise .RC_HB_MISS

/-- What the second miss in a row does. -/
def State.afterMiss (s : State) (first : Bool) : State :=
  if (first && s.ladder == lIDLE) = true then s.openNotice s.tick
  else if (first && s.ladder == lPARTITION) = true then s.setRc fun r => { r with missed := true }
  else s

theorem exec_hbMiss (ha : s.rd RC_STAT.HB_ARMED = 1) (hd : s.rc.missAt + 1000 * s.inf RC_CFG.HB_MS ≤ s.tick) :
    exec .hbMiss s = .next ((s.quiet.countMiss (s.rc.missAt + 1000 * s.inf RC_CFG.HB_MS)).afterMiss
      (decide (s.rd RC_STAT.MISSES = 1))) := by
  have ha' : s.quiet.on RC_STAT.HB_ARMED = true := on_iff.2 ha
  have hd' : decide (s.quiet.rc.missAt + 1000 * s.quiet.inf RC_CFG.HB_MS ≤ s.quiet.tick) = true := decide_eq_true hd
  exact congrArg Host.Outcome.next (if_pos (by rw [ha', hd']; rfl))

theorem countMiss_rd (s : State) (due : Nat) {F : Fld}
    (h : ([RC_STAT.MISSES, RC_HB_CNT.MISSES, RC_EVT.HB_MISS] ++ logFields).all F.off = true) :
    (s.countMiss due).rd F = s.rd F := by
  simp only [List.all_append, List.all_cons, List.all_nil, Bool.and_true, Bool.and_eq_true] at h
  obtain ⟨⟨h1, h2, h3⟩, h4⟩ := h
  rw [State.countMiss, rd_raise_all (List.all_eq_true.2 (by simpa using ⟨h3, List.all_eq_true.1 h4⟩)), setRc_rd, rd_inc_off h2,
    rd_wr_off h1]

theorem countMiss_spec (s : State) (due : Nat) :
    (s.countMiss due).rd RC_STAT.MISSES = min 3 (s.rd RC_STAT.MISSES + 1) % 2 ^ RC_STAT.MISSES.width ∧
    (s.countMiss due).rd RC_EVT.HB_MISS = 1 ∧ (s.countMiss due).rc.missAt = due ∧ (s.countMiss due).tick = s.tick := by
  refine ⟨?_, rd_raise_st _ .RC_HB_MISS _ _ (by decide), ?_, ?_⟩
  · rw [State.countMiss, rd_raise_all (by decide), setRc_rd, rd_inc_off (by decide), rd_wr_same]
  · rw [State.countMiss, raise_rc, setRc_rc]
  · rw [State.countMiss, raise_tick, setRc_tick, inc_tick, wr_tick]

/-- The ladder in NOTICE, from tick `k`. -/
def State.noticed (s : State) (k : Nat) : State :=
  (s.wr RC_STAT.LADDER 0 lNOTICE).setRc fun r => { r with noticeAt := k, missed := false }

theorem openNotice_eq (s : State) (k : Nat) : s.openNotice k = ((s.noticed k).post 0 oESCALATION
    [errCode 4 srcDMPHB (min ((k + 1000 * s.inf RC_CFG.NOTICE_MS - s.rc.hbAt.getD 0) / 1000) 0xFFFFF)]).raise
      .RC_LADDER_OPEN := rfl

theorem post_kept (s : State) (k ty : Nat) (ws : List Nat) (ps : List Region) (ks : List Nat)
    (hb : ps.contains .bus = false) (h : ([OMB_STAT.DROP, OMB_STAT.QUEUED].all fun F => ks.all F.misses) = true) :
    Kept (.spare s ps ks) (s.post k ty ws) := by
  have h' := List.all_eq_true.1 h
  exact kept_post (kept_spare s _ _) hb (h' _ (by simp)) (h' _ (by simp))

theorem post_rd (s : State) (k ty : Nat) (ws : List Nat) {F : Fld} {i : Nat}
    (h : ([OMB_STAT.DROP, OMB_STAT.QUEUED].all fun G => [F.key i].all G.misses) = true) :
    (s.post k ty ws).rd F i = s.rd F i :=
  (post_kept s k ty ws [] [F.key i] rfl h).spared_key (List.mem_singleton.2 rfl)

theorem post_rc (s : State) (k ty : Nat) (ws : List Nat) : (s.post k ty ws).rc = s.rc :=
  (post_kept s k ty ws [.rc] [] rfl rfl).spared_part .rc rfl

theorem openNotice_spec (s : State) (k : Nat) : (s.openNotice k).ladder = lNOTICE ∧ (s.openNotice k).rc.noticeAt = k ∧
    (s.openNotice k).rd RC_EVT.LADDER_OPEN = 1 ∧ (s.openNotice k).rc.missAt = s.rc.missAt ∧
    (s.openNotice k).rd RC_STAT.MISSES = s.rd RC_STAT.MISSES ∧ (s.openNotice k).rd RC_EVT.HB_MISS = s.rd RC_EVT.HB_MISS := by
  rw [openNotice_eq, State.ladder]
  refine ⟨?_, ?_, rd_raise_st _ .RC_LADDER_OPEN _ _ (by decide), ?_, ?_, ?_⟩
  · rw [rd_raise_all (by decide), post_rd _ _ _ _ (by decide), State.noticed, setRc_rd, rd_wr_same]
    rfl
  · rw [raise_rc, post_rc, State.noticed, setRc_rc]
  · rw [raise_rc, post_rc, State.noticed, setRc_rc, wr_rc]
  · rw [rd_raise_all (by decide), post_rd _ _ _ _ (by decide), State.noticed, setRc_rd, rd_wr_off (by decide)]
  · rw [rd_raise_all (by decide), post_rd _ _ _ _ (by decide), State.noticed, setRc_rd, rd_wr_off (by decide)]

theorem afterMiss_spec (s : State) (first : Bool) : (s.afterMiss first).rc.missAt = s.rc.missAt ∧
    (s.afterMiss first).rd RC_STAT.MISSES = s.rd RC_STAT.MISSES ∧ (s.afterMiss first).rd RC_EVT.HB_MISS = s.rd RC_EVT.HB_MISS := by
  unfold State.afterMiss
  split
  · obtain ⟨-, -, -, h⟩ := openNotice_spec s s.tick
    exact h
  · split
    · exact ⟨rfl, rfl, rfl⟩
    · exact ⟨rfl, rfl, rfl⟩

/-! ### The die step -/

/-- The die steps of the last ten minutes. -/
def State.recentDies (s : State) : List Nat := s.rc.dieAt.filter fun a => decide (s.tick < a + 600000000)

theorem dieStep_repeats (code : Nat) (h : s.inf RC_CFG2.DIE_MAX < s.recentDies.length + 1) :
    s.dieStep code = s.enterPower (errCode 5 srcDIEREPEAT (min s.recentDies.length 15 * 2 ^ 16)) :=
  if_pos h

/-- What a die step keeps to its end once it has set the ladder. -/
theorem dieStep_spec (code : Nat) (h : ¬ s.inf RC_CFG2.DIE_MAX < s.recentDies.length + 1) :
    (s.dieStep code).ladder = lDIE ∧ (s.dieStep code).rd RC_EVT.STEP_START = 1 ∧ (s.dieStep code).rd RC_STAT.HB_ARMED = 0 ∧
    (s.dieStep code).rd RC_CNT.DIE = (s.rd RC_CNT.DIE + 1) % 2 ^ RC_CNT.DIE.width := by
  unfold State.dieStep
  extract_lets recent a old set set' b c
  rw [if_neg (show ¬ s.inf RC_CFG2.DIE_MAX < recent.length + 1 from h)]
  have ha : a.rd RC_CNT.DIE = (s.rd RC_CNT.DIE + 1) % 2 ^ RC_CNT.DIE.width :=
    (rd_inc_same ..).trans (congrArg (fun v => (v + 1) % 2 ^ RC_CNT.DIE.width) (captured_rd s code 3 (by decide)))
  have hb : b.rd RC_CNT.DIE = a.rd RC_CNT.DIE := setRc_rd ..
  clear_value b
  have hc : c.rd RC_STAT.LADDER = lDIE ∧ c.rd RC_CNT.DIE = b.rd RC_CNT.DIE :=
    ⟨(rd_wr_off (by decide) _).trans (rd_wr_same ..), (rd_wr_off (by decide) _).trans ((rd_wr_off (by decide) _).trans
      (rd_wr_off (by decide) _))⟩
  clear_value c
  have hd : (c.disarmHb.raise .RC_STEP_START).rd RC_STAT.LADDER = lDIE ∧
      (c.disarmHb.raise .RC_STEP_START).rd RC_EVT.STEP_START = 1 ∧
      (c.disarmHb.raise .RC_STEP_START).rd RC_STAT.HB_ARMED = 0 ∧
      (c.disarmHb.raise .RC_STEP_START).rd RC_CNT.DIE = b.rd RC_CNT.DIE := by
    refine ⟨?_, rd_raise_st _ .RC_STEP_START _ _ (by decide), ?_, ?_⟩
    · rw [rd_raise_all (by decide), State.disarmHb, rd_wr_off (by decide), rd_wr_off (by decide), hc.1]
    · rw [rd_raise_all (by decide), State.disarmHb, rd_wr_off (by decide), rd_wr_same]
      rfl
    · rw [rd_raise_all (by decide), State.disarmHb, rd_wr_off (by decide), rd_wr_off (by decide), hc.2]
  generalize c.disarmHb.raise .RC_STEP_START = d at hd ⊢
  have hk : Kept (.spare d [] [RC_STAT.LADDER.key 0, RC_EVT.STEP_START.key 0, RC_STAT.HB_ARMED.key 0, RC_CNT.DIE.key 0])
      ((d.stepNotice code none).sendAborts code) :=
    kept_sendAborts (kept_stepNotice (kept_spare _ _ _) rfl rfl rfl) rfl rfl rfl (logs_spare rfl rfl rfl) rfl
  obtain ⟨h1, h2, h3, h4⟩ := hd
  refine ⟨(hk.spared_key (by simp)).trans h1, (hk.spared_key (by simp)).trans h2, (hk.spared_key (by simp)).trans h3,
    (hk.spared_key (by simp)).trans (h4.trans (hb.trans ha))⟩

/-! ### Steps end -/

/-- The ladder after a partition step: NOTICE where a heartbeat was missed within it. -/
def State.afterPartition (s : State) : State :=
  if s.rc.missed = true then
    (s.wr RC_STAT.LADDER 0 lNOTICE).setRc fun r => { r with noticeAt := s.tick, missed := false }
  else s.wr RC_STAT.LADDER 0 lIDLE

/-- No step is in progress. -/
def State.endStep (s : State) : State :=
  (s.setRc fun r => { r with step := none }).wr RC_STAT.STEP_PART 0 0

theorem exec_partitionStepDone {x : Step} (hx : s.rc.step = some x) (hp : x.part.isSome = true)
    (hr : x.restored s (fun _ => true) = true) :
    exec .partitionStepDone s = .next (s.quiet.endStep.afterPartition.raise .RC_STEP_DONE) := by
  have hx' : s.quiet.rc.step = some x := hx
  have hr' : x.restored s.quiet (fun _ => true) = true := hr
  change execPartitionStepDone s = _
  unfold execPartitionStepDone
  dsimp only
  rw [hx']
  exact congrArg Host.Outcome.next (if_pos (by rw [hp, hr']; rfl))

theorem afterPartition_spec (s : State) : s.afterPartition.rc.step = s.rc.step ∧
    s.afterPartition.rd RC_STAT.LADDER = if s.rc.missed = true then lNOTICE else lIDLE := by
  unfold State.afterPartition
  split
  · exact ⟨by rw [setRc_rc, wr_rc], by rw [setRc_rd, rd_wr_same]; rfl⟩
  · exact ⟨by rw [wr_rc], by rw [rd_wr_same]; rfl⟩

theorem endStep_rc (s : State) : s.endStep.rc = { s.rc with step := none } := wr_rc ..

/-- The boot that follows a die step. -/
def State.bootStarted (s : State) : State :=
  ((s.releaseResets s.clusters).wr RC_STAT.LADDER 0 lBOOT).setRc fun r =>
    { r with step := none, bootAt := (s.releaseResets s.clusters).tick }

theorem exec_dieStepDone {x : Step} (hx : s.rc.step = some x) (hp : x.part = none) (hc : x.cleared = true) (hk : x.kind = 4)
    (hr : (x.restore.filter isCluster).all s.onForTick = true) :
    exec .dieStepDone s = .next (s.quiet.bootStarted.raise .RC_STEP_DONE) := by
  have hx' : s.quiet.rc.step = some x := hx
  have hr' : (x.restore.filter isCluster).all s.quiet.onForTick = true := hr
  change execDieStepDone s = _
  unfold execDieStepDone
  dsimp only
  rw [hx']
  exact congrArg Host.Outcome.next (if_pos (by rw [hp, hc, hk, hr']; rfl))

theorem releaseResets_tick (s : State) (l : List Nat) : (s.releaseResets l).tick = s.tick :=
  (kept_releaseResets (kept_spare s [] []) rfl).tick

theorem bootStarted_spec (s : State) : s.bootStarted.rc.step = none ∧ s.bootStarted.rd RC_STAT.LADDER = lBOOT ∧
    s.bootStarted.rc.bootAt = s.tick := by
  unfold State.bootStarted
  rw [setRc_rc, setRc_rd, rd_wr_same]
  exact ⟨rfl, rfl, releaseResets_tick _ _⟩

end Sys2Proof.Machine

namespace Sys2Proof

open Sys2Proof.Machine

/-- Settles O45: misses by `countMiss_spec` and `openNotice_spec`, steps by `dieStep_spec` and `enterPower_spec`. -/
theorem escalationLadder : Obligations.EscalationLadder := by
  unfold Obligations.EscalationLadder
  refine ⟨?_, ?_, ?_, ?_, ?_, ?_, ?_⟩
  · intro s ha hd
    obtain ⟨hm, he, hat, -⟩ := countMiss_spec s.quiet (s.rc.missAt + 1000 * s.inf RC_CFG.HB_MS)
    obtain ⟨hat', hm', he'⟩ := afterMiss_spec (s.quiet.countMiss (s.rc.missAt + 1000 * s.inf RC_CFG.HB_MS))
      (decide (s.rd RC_STAT.MISSES = 1))
    exact ⟨_, exec_hbMiss ha hd, hm'.trans hm, he'.trans he, hat'.trans hat⟩
  · intro s ha hd h1 hl
    have hl' : (s.quiet.countMiss (s.rc.missAt + 1000 * s.inf RC_CFG.HB_MS)).ladder = lIDLE :=
      (countMiss_rd _ _ (by decide)).trans hl
    obtain ⟨-, -, -, htick⟩ := countMiss_spec s.quiet (s.rc.missAt + 1000 * s.inf RC_CFG.HB_MS)
    refine ⟨_, exec_hbMiss ha hd, ?_⟩
    rw [State.afterMiss, if_pos (by rw [decide_eq_true h1, hl']; rfl)]
    obtain ⟨hn, hat, hev, -⟩ := openNotice_spec (s.quiet.countMiss (s.rc.missAt + 1000 * s.inf RC_CFG.HB_MS))
      (s.quiet.countMiss (s.rc.missAt + 1000 * s.inf RC_CFG.HB_MS)).tick
    exact ⟨hn, hat.trans htick, hev⟩
  · intro s hl hn hd
    exact ⟨_, congrArg Host.Outcome.next (if_pos ⟨hl, hn⟩), dieStep_spec (s := s.quiet) _ (Nat.not_lt.2 hd)⟩
  · intro s hl hn hd
    refine ⟨_, congrArg Host.Outcome.next (if_pos ⟨hl, hn⟩), ?_⟩
    rw [dieStep_repeats (s := s.quiet) _ hd]
    exact (enterPower_spec _ _).1
  · intro x s hx hp hr
    obtain ⟨hs, hl⟩ := afterPartition_spec s.quiet.endStep
    rw [endStep_rc] at hs hl
    refine ⟨_, exec_partitionStepDone hx hp hr, ?_, rd_raise_st _ .RC_STEP_DONE _ _ (by decide), ?_⟩
    · rw [raise_rc, hs]
    · rw [State.ladder, rd_raise_all (by decide), hl]
      rfl
  · intro x s hx hp hc hk hr
    obtain ⟨hs, hl, hb⟩ := bootStarted_spec s.quiet
    refine ⟨_, exec_dieStepDone hx hp hc hk hr, ?_, ?_, ?_, rd_raise_st _ .RC_STEP_DONE _ _ (by decide)⟩
    · rw [raise_rc, hs]
    · rw [State.ladder, rd_raise_all (by decide), hl]
    · rw [raise_rc, hb]
      rfl
  · intro s hl hn
    exact ⟨_, congrArg Host.Outcome.next (if_pos ⟨hl, hn⟩), enterPower_spec _ _⟩

end Sys2Proof
end
section
/-! PROOF. The causes of a governor warm restart (O46). -/

namespace Sys2Proof.Machine

variable {s t u : State}

/-! ### What a restart clears -/

/-- The bit addresses of what a restart leaves (R300 to R302), but for the lease. -/
def restartKeys : List Nat :=
  [RC_STAT.HOLDOVER.key 0, GSTAT.READY.key 0, ENG_STAT.STATE.key 0, RC_CNT.WARM.key 0]

theorem dropLease_LEASE (s : State) : s.dropLease.rd CAR_STAT.LEASE_VALID = 0 := by
  rw [State.dropLease, setCar_rd, rd_wr_off (by decide), rd_wr_same]
  rfl

/-- A restart drops the lock bits, the role, the lease and the samples of the offset. -/
def State.clearCar (s : State) : State :=
  (((({ s with locks := {} } : State).setRole 0).dropLease.wr PEL_OFS.OFS 0 0).wr PEL_STAT.OFS_VALID 0 0).setPel
    fun p => { p with samples := [], exchanges := 0 }

/-- A restart drops the releases of the domestique tasks. -/
def State.clearRuns (s : State) : State :=
  upTo 10 (fun n s => ((s.wr DOM_AGE.AGE n 0).wr DOM_STAT.PENDING n 0).wr DOM_STAT.PROMOTED n 0) s

/-- A restart drops the overruns and the hints. -/
def State.clearTick (s : State) : State :=
  (((s.setCad fun c => { c with
    tasks := Table.mapAll {} (fun t => { pos := t.pos }) c.tasks, engOvr := [], fwOvr := [], hubFault := false, fwCyc := 0,
    fwDone := false, abandoned := false, slackUsed := 0 }).setBg fun b => { b with hints := [] }).showHints)

theorem clearForRestart_eq (s : State) : s.clearForRestart = s.clearCar.clearRuns.clearTick := rfl

/-- The bit addresses of what a restart leaves (R300 to R302). -/
def leftKeys : List Nat := CAR_STAT.LEASE_VALID.key 0 :: restartKeys

theorem clearCar_kept (s : State) : Kept (.spare s [.rc] restartKeys) s.clearCar :=
  kept_setPel (kept_wr (kept_wr (kept_dropLease (kept_setRole (kept_unlock (kept_spare _ _ _) trivial) (logs_spare rfl rfl rfl)
    rfl rfl rfl) rfl rfl rfl) rfl) rfl) rfl

theorem clearCar_LEASE (s : State) : s.clearCar.rd CAR_STAT.LEASE_VALID = 0 := by
  rw [State.clearCar, setPel_rd, rd_wr_off (by decide), rd_wr_off (by decide), dropLease_LEASE]

theorem clearRuns_rd (s : State) {F : Fld}
    (h : ([DOM_AGE.AGE, DOM_STAT.PENDING, DOM_STAT.PROMOTED].all fun G => F.apart G 1 10) = true) :
    s.clearRuns.rd F = s.rd F := by
  simp only [List.all_cons, List.all_nil, Bool.and_true, Bool.and_eq_true] at h
  obtain ⟨h1, h2, h3⟩ := h
  refine upTo_keeps_below (fun t : State => t.rd F = s.rd F) rfl fun n hn t ht => ?_
  rw [rd_wr_apart 1 10 h3 (by decide) hn, rd_wr_apart 1 10 h2 (by decide) hn, rd_wr_apart 1 10 h1 (by decide) hn, ht]

theorem clearRuns_rc (s : State) : s.clearRuns.rc = s.rc :=
  upTo_keeps (fun t : State => t.rc = s.rc) rfl fun _ _ h => by rw [wr_rc, wr_rc, wr_rc, h]

theorem clearTick_kept (s : State) : Kept (.spare s [.rc] leftKeys) s.clearTick :=
  kept_showHints (kept_setBg (kept_setCad (kept_spare s _ _) (fun _ => rfl) rfl rfl) rfl) rfl rfl rfl

/-- What a restart leaves once it has begun: the lease follows when the running state is cleared. -/
structure Restarting (w : Nat) (low : Bool) (s : State) : Prop where
  held : s.rd RC_STAT.HOLDOVER = 1
  notReady : s.rd GSTAT.READY = 0
  idle : s.rd ENG_STAT.STATE = 0
  counted : s.rd RC_CNT.WARM = w
  low : s.rc.rstLow = low

variable {w : Nat} {low : Bool}

theorem Restarting.of_kept {ks : List Nat} (h : Restarting w low s) (hk : Kept (.spare s [.rc] ks) t)
    (hks : ∀ a ∈ restartKeys, a ∈ ks) : Restarting w low t :=
  ⟨(hk.spared_key (hks _ (by simp [restartKeys]))).trans h.held, (hk.spared_key (hks _ (by simp [restartKeys]))).trans h.notReady,
    (hk.spared_key (hks _ (by simp [restartKeys]))).trans h.idle, (hk.spared_key (hks _ (by simp [restartKeys]))).trans h.counted,
    (congrArg Rc.rstLow (hk.spared_part .rc rfl)).trans h.low⟩

theorem Restarting.clear (h : Restarting w low s) :
    Restarting w low s.clearForRestart ∧ s.clearForRestart.rd CAR_STAT.LEASE_VALID = 0 := by
  rw [clearForRestart_eq]
  have h1 := h.of_kept (clearCar_kept s) fun _ h => h
  have h2 : Restarting w low s.clearCar.clearRuns := ⟨(clearRuns_rd _ (by decide)).trans h1.held,
    (clearRuns_rd _ (by decide)).trans h1.notReady, (clearRuns_rd _ (by decide)).trans h1.idle,
    (clearRuns_rd _ (by decide)).trans h1.counted, (congrArg Rc.rstLow (clearRuns_rc _)).trans h1.low⟩
  have hk := clearTick_kept s.clearCar.clearRuns
  refine ⟨h2.of_kept hk fun _ h => List.mem_cons_of_mem _ h, ?_⟩
  rw [hk.spared_key List.mem_cons_self, clearRuns_rd _ (by decide), clearCar_LEASE]

/-- What the restarted firmware finds once loads have ended, the running state is cleared and a slot is selected. -/
def State.restartEnd (s : State) : State := s.abortLoads.clearForRestart.cancelInhibited.selectSlot

theorem Restarting.ends (h : Restarting w low s) :
    Restarting w low s.restartEnd ∧ s.restartEnd.rd CAR_STAT.LEASE_VALID = 0 := by
  have ha : Kept (.spare s [.rc] restartKeys) s.abortLoads := kept_abortLoads (kept_spare s _ _) rfl rfl rfl rfl rfl rfl rfl
  obtain ⟨hc, hl⟩ := (h.of_kept ha fun _ h => h).clear
  have hk : Kept (.spare s.abortLoads.clearForRestart [.rc] leftKeys) s.restartEnd :=
    kept_selectSlot (kept_cancelInhibited (kept_spare _ _ _) rfl rfl (logs_spare rfl rfl rfl) rfl rfl rfl) rfl rfl rfl rfl
  exact ⟨hc.of_kept hk fun _ h => List.mem_cons_of_mem _ h, (hk.spared_key List.mem_cons_self).trans hl⟩

theorem collectCode_rstLow (s : State) (code : Nat) : (s.collectCode code).rc.rstLow = s.rc.rstLow := by
  unfold State.collectCode
  extract_lets a b
  have hb : b.rc = s.rc := by
    unfold b
    split
    · rw [wr_rc, wr_rc, wr_rc]
    · rw [wr_rc]
  split
  · rw [setRc_rc, hb]
  · rw [errRecord_rc, hb]

theorem hangSnapshot_rc (s : State) (code cause : Nat) : (s.hangSnapshot code cause).rc = s.rc :=
  (spare_hangSnapshot (kept_spare s [.rc] []) code cause rfl rfl).spared_part .rc rfl

theorem powered_rstLow (s : State) (code : Nat) : (s.powered code).rc.rstLow = s.rc.rstLow := by
  rw [State.powered, setRc_rc, wr_rc, wr_rc, inc_rc, State.captured, hangSnapshot_rc]
  exact collectCode_rstLow s code

theorem enterPower_kept (s : State) (code : Nat) : Kept (.spare s [] leftKeys) (s.enterPower code) :=
  kept_enterPower (kept_spare _ _ _) rfl rfl (logs_spare rfl rfl rfl) rfl rfl rfl rfl rfl rfl rfl rfl rfl rfl rfl rfl rfl

theorem Restarting.power (h : Restarting w low s) (code : Nat) : Restarting w low (s.enterPower code) := by
  have hk := enterPower_kept s code
  refine ⟨(hk.spared_key (by simp [leftKeys, restartKeys])).trans h.held, (hk.spared_key (by simp [leftKeys, restartKeys])).trans
    h.notReady, (hk.spared_key (by simp [leftKeys, restartKeys])).trans h.idle,
    (hk.spared_key (by simp [leftKeys, restartKeys])).trans h.counted, ?_⟩
  rw [← h.low, ← powered_rstLow s code, enterPower_eq]
  split
  · rw [raise_rc, wr_rc]
  · rw [wr_rc]

/-- A restart begun: the snapshot, holdover, the code, the count; `n` restarts stand in the last second. -/
def State.restartCounted (s : State) (code n : Nat) : State :=
  ((((s.hangSnapshot code 1).wr RC_STAT.HOLDOVER 0 1).collectCode code).inc RC_CNT.WARM).wr RC_STAT.WR_COUNT 0 n

theorem restartCounted_spec (s : State) (code n : Nat) : (s.restartCounted code n).rd RC_STAT.HOLDOVER = 1 ∧
    (s.restartCounted code n).rd RC_CNT.WARM = (s.rd RC_CNT.WARM + 1) % 2 ^ RC_CNT.WARM.width ∧
    (s.restartCounted code n).rc.rstLow = s.rc.rstLow := by
  have hs : Kept (.spare s [] [RC_CNT.WARM.key 0]) (s.hangSnapshot code 1) :=
    spare_hangSnapshot (kept_spare s _ _) code 1 rfl rfl
  have hc : ∀ u : State, Kept (.spare u [] [RC_STAT.HOLDOVER.key 0, RC_CNT.WARM.key 0]) (u.collectCode code) := fun u =>
    spare_collectCode (kept_spare u _ _) code rfl rfl
  unfold State.restartCounted
  refine ⟨?_, ?_, ?_⟩
  · rw [rd_wr_off (by decide), rd_inc_off (by decide), (hc _).spared_key (by simp), rd_wr_same]
    rfl
  · rw [rd_wr_off (by decide), rd_inc_same, (hc _).spared_key (by simp), rd_wr_off (by decide), hs.spared_key (by simp)]
  · rw [wr_rc, inc_rc, collectCode_rstLow, wr_rc, hangSnapshot_rc]

/-- READY falls and the engine is idle with the safe candidates. -/
def State.engineStopped (s : State) : State :=
  (((s.wr GSTAT.READY 0 0).wr GSTAT.HOLDOVER 0 1).wr ENG_STAT.STATE 0 0).safeCands

theorem engineStopped_spec (hh : s.rd RC_STAT.HOLDOVER = 1) (hw : s.rd RC_CNT.WARM = w) (hl : s.rc.rstLow = low) :
    Restarting w low s.engineStopped := by
  have hk : Kept (.spare (((s.wr GSTAT.READY 0 0).wr GSTAT.HOLDOVER 0 1).wr ENG_STAT.STATE 0 0) [.rc] restartKeys)
      s.engineStopped := kept_safeCands (kept_spare _ _ _) rfl rfl rfl rfl rfl rfl rfl rfl rfl
  refine Restarting.of_kept ⟨?_, ?_, rd_wr_same .., ?_, ?_⟩ hk fun _ h => h
  · rw [rd_wr_off (by decide), rd_wr_off (by decide), rd_wr_off (by decide), hh]
  · rw [rd_wr_off (by decide), rd_wr_off (by decide), rd_wr_same]
    rfl
  · rw [rd_wr_off (by decide), rd_wr_off (by decide), rd_wr_off (by decide), hw]
  · rw [wr_rc, wr_rc, wr_rc, hl]

/-- The engine, the ports and the firmware's publication stop. -/
def State.stopRun (s : State) : State :=
  ((s.setEng fun e => { e with running := false, staged := none }).setCmd fun c => { c with ports := [] }).setFw
    fun f => { f with published := false, readyOwed := false }

theorem Restarting.stop (h : Restarting w low s) : Restarting w low s.stopRun :=
  ⟨h.held, h.notReady, h.idle, h.counted, h.low⟩

theorem beginRestart_eq (s : State) (source detail : Nat) : ∃ (n code : Nat) (storm : Bool) (f : Rc → Rc),
    (∀ r, (f r).rstLow = r.rstLow) ∧ s.beginRestart source detail =
      if storm = true then
        ((((s.restartCounted (errCode 6 source detail) n).setRc f).engineStopped.stopRun).restartEnd).enterPower code
      else (((s.restartCounted (errCode 6 source detail) n).setRc f).engineStopped.stopRun).restartEnd := by
  unfold State.beginRestart
  extract_lets code ts a b c storm d e f g h i j
  exact ⟨min 15 ts.length, errCode 5 srcSTORM (min ts.length 15 * 2 ^ 16), storm && j.ladder != lPOWER,
    fun r => { r with warmAt := ts, storm := storm, wdog := false }, fun _ => rfl, rfl⟩

/-- Every restart leaves what R300 to R302 say, and the pin as it is. -/
theorem beginRestart_spec (s : State) (source detail : Nat) :
    Restarted s (s.beginRestart source detail) ∧ (s.beginRestart source detail).rc.rstLow = s.rc.rstLow := by
  have hlocks := beginRestart_locks s source detail
  suffices h : Restarting ((s.rd RC_CNT.WARM + 1) % 2 ^ RC_CNT.WARM.width) s.rc.rstLow (s.beginRestart source detail) ∧
      (s.beginRestart source detail).rd CAR_STAT.LEASE_VALID = 0 from
    ⟨⟨h.1.held, h.1.notReady, hlocks, h.1.idle, h.2, h.1.counted⟩, h.1.low⟩
  obtain ⟨n, code, storm, f, hf, heq⟩ := beginRestart_eq s source detail
  obtain ⟨hh, hw, hl⟩ := restartCounted_spec s (errCode 6 source detail) n
  obtain ⟨hj, hjl⟩ := (engineStopped_spec (s := (s.restartCounted (errCode 6 source detail) n).setRc f)
    ((setRc_rd ..).trans hh) ((setRc_rd ..).trans hw) ((hf _).trans hl)).stop.ends
  rw [heq]
  split
  · exact ⟨hj.power _, ((enterPower_kept _ _).spared_key List.mem_cons_self).trans hjl⟩
  · exact ⟨hj, hjl⟩

theorem beginRestart_kept (s : State) (source detail : Nat) :
    (s.beginRestart source detail).rd CAD_EVT.HUB_FAULT_ESC = s.rd CAD_EVT.HUB_FAULT_ESC := by
  have hk := kept_beginRestart (W := .spare s [] [CAD_EVT.HUB_FAULT_ESC.key 0]) (a2 := source) (a3 := detail)
    (kept_spare _ _ _) rfl rfl rfl rfl rfl rfl rfl rfl rfl rfl rfl rfl (logs_spare rfl rfl rfl) rfl rfl rfl rfl
    rfl rfl rfl rfl rfl rfl rfl rfl rfl rfl rfl rfl rfl rfl rfl rfl rfl rfl rfl rfl rfl rfl rfl rfl rfl rfl rfl rfl rfl rfl
    rfl rfl rfl rfl rfl rfl rfl rfl rfl rfl rfl rfl rfl rfl rfl rfl rfl rfl rfl trivial
  exact hk.spared_key List.mem_cons_self

end Sys2Proof.Machine

namespace Sys2Proof

open Sys2Proof.Machine

theorem Restarted.of_eq {s s' t : State} (h : Restarted s' t) (hw : s'.rd RC_CNT.WARM = s.rd RC_CNT.WARM) :
    Restarted s t := by
  unfold Restarted at h ⊢
  rwa [hw] at h

/-- The hub fault escalates: the event, and a restart. -/
theorem hubFault_restarts (s : State) (detail : Nat) :
    Restarted s (((s.quiet.raise .CAD_HUB_FAULT_ESC).beginRestart srcOVERRUN detail)) ∧
      ((s.quiet.raise .CAD_HUB_FAULT_ESC).beginRestart srcOVERRUN detail).rd CAD_EVT.HUB_FAULT_ESC = 1 :=
  ⟨(beginRestart_spec _ _ _).1.of_eq (rd_raise_all (by decide) _ _),
    (beginRestart_kept _ _ _).trans (rd_raise_st _ .CAD_HUB_FAULT_ESC _ _ (by decide))⟩

/-- Settles O46: every cause ends in `beginRestart`, and `beginRestart_spec` says what that leaves. -/
theorem warmRestartCauses : Obligations.WarmRestartCauses := by
  unfold Obligations.WarmRestartCauses
  refine ⟨?_, ?_, ?_, ?_, ?_, ?_, ?_⟩
  · intro s hh
    refine ⟨_, congrArg Host.Outcome.next (if_neg (ne_true_of_eq_false hh)), ?_, ?_, rd_wr_same ..⟩
    · rw [wr_rc]
      rfl
    · rw [wr_rc]
      rfl
  · intro s hw hk
    have hk' : s.quiet.past s.quiet.rc.kickAt 2000 = true := decide_eq_true hk
    exact ⟨_, congrArg Host.Outcome.next (if_pos (by rw [show s.quiet.rc.wdog = true from hw, hk']; rfl)),
      (beginRestart_spec s.quiet _ _).1.of_eq rfl⟩
  · intro s hs hf
    exact ⟨_, congrArg Host.Outcome.next (if_pos ⟨hs, decide_eq_true hf⟩), (beginRestart_spec s.quiet _ _).1.of_eq rfl⟩
  · intro s hm
    refine ⟨_, congrArg Host.Outcome.next (if_pos ?_), hubFault_restarts s _⟩
    rw [Bool.or_eq_true]
    exact .inr (decide_eq_true hm)
  · intro s hm
    refine ⟨_, congrArg Host.Outcome.next (if_pos ?_), hubFault_restarts s _⟩
    rw [Bool.or_eq_true]
    exact .inl (decide_eq_true hm)
  · intro s hl
    obtain ⟨hr, hlow⟩ := beginRestart_spec (s.quiet.setRc fun r => { r with rstLow := true }) srcPIN 0
    exact ⟨_, congrArg Host.Outcome.next (if_neg (ne_true_of_eq_false hl)), hr.of_eq rfl, hlow⟩
  · exact fun s => ⟨_, rfl, rfl⟩

end Sys2Proof
end
section
/-! PROOF. Firmware slots, loads, switches and first publications (O47). -/

namespace Sys2Proof.Machine

variable {s t u : State}

/-! ### The slots as shown -/

/-- The bit addresses that show the slots. -/
def slotKeys : List Nat := [FW_SLOT_A.STATE.key 0, FW_SLOT_A.GEN.key 0, FW_SLOT_B.STATE.key 0, FW_SLOT_B.GEN.key 0]

theorem slots_of_kept {ps : List Region} {ks : List Nat} (h : Kept (.spare s ps ks) t) (hks : ∀ a ∈ slotKeys, a ∈ ks) (k : Nat) :
    t.slotState k = s.slotState k ∧ t.slotGen k = s.slotGen k := by
  unfold State.slotState State.slotGen
  rw [h.spared_key (hks _ (by simp [slotKeys])), h.spared_key (hks _ (by simp [slotKeys])),
    h.spared_key (hks _ (by simp [slotKeys])), h.spared_key (hks _ (by simp [slotKeys]))]
  exact ⟨rfl, rfl⟩

theorem showSlot_shows (s : State) (k st gen : Nat) :
    (s.showSlot k st gen).slotState k = st % 4 ∧ (s.showSlot k st gen).slotGen k = gen % 65536 := by
  unfold State.showSlot State.slotState State.slotGen
  by_cases h : k = 0
  · simp only [h, if_true]
    rw [rd_wr_off (by decide), rd_wr_same, rd_wr_same]
    exact ⟨rfl, rfl⟩
  · simp only [h, if_false]
    rw [rd_wr_off (by decide), rd_wr_same, rd_wr_same]
    exact ⟨rfl, rfl⟩

theorem showSlot_kept (s : State) (k st gen : Nat) (ps : List Region) (ks : List Nat)
    (h : ([FW_SLOT_A.GEN, FW_SLOT_A.STATE, FW_SLOT_B.GEN, FW_SLOT_B.STATE].all fun F => ks.all F.misses) = true) :
    Kept (.spare s ps ks) (s.showSlot k st gen) := by
  have h' := List.all_eq_true.1 h
  exact kept_showSlot (kept_spare s _ _) (h' _ (by simp)) (h' _ (by simp)) (h' _ (by simp)) (h' _ (by simp))

theorem fillSlot_shows (s : State) (k : Nat) (bs : List Nat) :
    (s.fillSlot k bs).slotState k = 2 ∧ (s.fillSlot k bs).slotGen k = imageGen bs % 65536 :=
  showSlot_shows _ _ _ _

/-! ### What an answer leaves alone -/

/-- The fields an answer writes, with those of logging. -/
def replyFields : List Fld :=
  [CMD_LAST.OPCODE, CMD_LAST.SEQ, CMD_LAST.STATUS, CMD_LAST_SRC.CLASS, CMD_LAST_SRC.INSTANCE, CMD_REFUSED.BADOP,
   CMD_REFUSED.BADPARAM, CMD_REFUSED.NOPERM, CMD_REFUSED.VERSION, MB_CTL.OWED, MB_CTL.RQ, RING_STAT.OWED] ++ logFields

/-- Parts that an answer and logging leave alone. -/
def answerSpares (ps : List Region) : Bool :=
  [Region.bus, .cmd, .tasks, .log].all fun q => !ps.contains q

theorem spare_endOut {ps : List Region} {ks : List Nat} (h : Kept (.spare s ps ks) t) (o : Outstanding) (st : Nat)
    (ws : List Nat) (hps : answerSpares ps = true) (hks : (replyFields.all fun F => ks.all F.misses) = true) :
    Kept (.spare s ps ks) (t.endOut o st ws) := by
  have h' := List.all_eq_true.1 hks
  simp only [answerSpares, List.all_cons, List.all_nil, Bool.and_true, Bool.and_eq_true, Bool.not_eq_true'] at hps
  obtain ⟨hbus, hcmd, htasks, hlog⟩ := hps
  exact kept_endOut h hbus hcmd ⟨htasks, hlog, fun F hF => h' F (List.mem_append_right _ hF)⟩ (h' _ (by simp [replyFields]))
    (h' _ (by simp [replyFields])) (h' _ (by simp [replyFields])) (h' _ (by simp [replyFields])) (h' _ (by simp [replyFields]))
    (h' _ (by simp [replyFields])) (h' _ (by simp [replyFields])) (h' _ (by simp [replyFields])) (h' _ (by simp [replyFields]))
    (h' _ (by simp [replyFields])) (h' _ (by simp [replyFields])) (h' _ (by simp [replyFields]))

theorem spare_answerUndefined {ps : List Region} {ks : List Nat} (h : Kept (.spare s ps ks) t)
    (hps : answerSpares ps = true) (hks : (replyFields.all fun F => ks.all F.misses) = true) :
    Kept (.spare s ps ks) t.answerUndefined := by
  have h' := List.all_eq_true.1 hks
  simp only [answerSpares, List.all_cons, List.all_nil, Bool.and_true, Bool.and_eq_true, Bool.not_eq_true'] at hps
  obtain ⟨hbus, hcmd, htasks, hlog⟩ := hps
  exact kept_answerUndefined h hbus hcmd ⟨htasks, hlog, fun F hF => h' F (List.mem_append_right _ hF)⟩
    (h' _ (by simp [replyFields])) (h' _ (by simp [replyFields])) (h' _ (by simp [replyFields])) (h' _ (by simp [replyFields]))
    (h' _ (by simp [replyFields])) (h' _ (by simp [replyFields])) (h' _ (by simp [replyFields])) (h' _ (by simp [replyFields]))
    (h' _ (by simp [replyFields])) (h' _ (by simp [replyFields])) (h' _ (by simp [replyFields])) (h' _ (by simp [replyFields]))

/-! ### A firmware load ends -/

/-- The inactive slot takes the image `b`, and the boot ROM enters it if it waits. -/
def State.loadTaken (s : State) (b : List Nat) : State :=
  if (s.fillSlot s.inactiveSlot b).waitsForFw = true then (s.fillSlot s.inactiveSlot b).enterFirmware s.inactiveSlot
  else s.fillSlot s.inactiveSlot b

theorem loadTaken_shows (s : State) (b : List Nat) : (s.loadTaken b).slotState s.inactiveSlot = 2 ∧
    (s.loadTaken b).slotGen s.inactiveSlot = imageGen b % 65536 := by
  unfold State.loadTaken
  split
  · obtain ⟨h1, h2⟩ := slots_of_kept (kept_enterFirmware (a2 := s.inactiveSlot)
      (kept_spare (s.fillSlot s.inactiveSlot b) [] slotKeys) rfl rfl rfl rfl rfl) (fun _ h => h) s.inactiveSlot
    rw [h1, h2]
    exact fillSlot_shows _ _ _
  · exact fillSlot_shows _ _ _

theorem exec_fwLoadDone {o : Outstanding} {src : Nat} {f : Option (List Nat)} (hl : s.fwLoadOut = some (o, src))
    (hh : s.holdover = false ∨ s.waitsForFw = true) : exec (.fwLoadDone f) s = .next
      (match loadedBytes s o src f with
      | some b =>
        if s.loadStatus o.inst (loadedBytes s o src f) = stOK then
          ((s.quiet.loadTaken b).endOut o stOK [imageGen b]).answerUndefined
        else
          ((((if s.quiet.imageOk b = true then s.quiet else s.quiet.raise .FW_LOAD_REJ (arg0 s.inactiveSlot 0)).showSlot
            s.inactiveSlot 0 0).endOut o (s.loadStatus o.inst (loadedBytes s o src f)))).answerUndefined
      | none => ((s.quiet.showSlot s.inactiveSlot 0 0).endOut o (s.loadStatus o.inst (loadedBytes s o src f))).answerUndefined) := by
  have hl' : s.quiet.fwLoadOut = some (o, src) := hl
  have hh' : (s.quiet.holdover && !s.quiet.waitsForFw) = false := by
    rw [Bool.and_eq_false_iff, Bool.not_eq_false']
    exact hh
  change execFwLoadDone f s = _
  unfold execFwLoadDone
  dsimp only
  rw [hl']
  dsimp only
  rw [hh', if_neg (by decide)]
  have hb : (if src = 1 then some ((s.quiet.slot s.quiet.inactiveSlot).first (min o.loadBytes 262144))
    else f.map (List.take o.loadBytes)) = loadedBytes s o src f := rfl
  rw [hb]
  cases loadedBytes s o src f <;> rfl

theorem endOut_shows (s : State) (o : Outstanding) (st : Nat) (ws : List Nat) (k : Nat) :
    (s.endOut o st ws).answerUndefined.slotState k = s.slotState k ∧
      (s.endOut o st ws).answerUndefined.slotGen k = s.slotGen k :=
  slots_of_kept (spare_answerUndefined (spare_endOut (kept_spare s [] slotKeys) o st ws rfl rfl) rfl rfl) (fun _ h => h) k

theorem fwLoad_refused_shows (s : State) (o : Outstanding) (st k : Nat) :
    ((s.showSlot k 0 0).endOut o st).answerUndefined.slotState k = 0 :=
  (endOut_shows _ o st [] k).1.trans (showSlot_shows s k 0 0).1

/-! ### Switches -/

/-- Slot `k` is tentatively active. -/
def State.tried (s : State) (k : Nat) : State := (s.wr FW_STAT.ACTIVE 0 k).wr FW_STAT.TENTATIVE 0 1

/-- The switch to slot `k` has been made, and the engine's staged publication is dropped. -/
def State.switchTo (s : State) (k : Nat) : State :=
  ((s.tried k).setFw fun f => { f with switchAt := (s.tried k).tick }).setEng fun x => { x with staged := none }

theorem exec_fwSwitchover {e : QEvent} (he : firstDue s.cad.queue = some e) (ha : e.act = .switch)
    (hst : s.slotState s.inactiveSlot = 2) : exec .fwSwitchover s = .next
      (((s.quiet.unqueue e).wr FW_STAT.SW_PEND 0 0).switchTo s.inactiveSlot) := by
  have he' : firstDue s.quiet.cad.queue = some e := he
  have hk : (s.quiet.unqueue e).inactiveSlot = s.inactiveSlot := congrArg (1 - ·) (unqueue_rd (s := s.quiet) (by decide))
  have hst' : ((s.quiet.unqueue e).wr FW_STAT.SW_PEND 0 0).slotState s.inactiveSlot = 2 := by
    rw [← hst]
    unfold State.slotState
    rw [rd_wr_off (by decide), rd_wr_off (by decide), unqueue_rd (by decide), unqueue_rd (by decide)]
    rfl
  change execFwSwitchover s = _
  unfold execFwSwitchover
  dsimp only
  rw [takeEvent_of_firstDue (s := s.quiet) he' (by rw [ha])]
  dsimp only
  rw [hk, hst']
  rfl

theorem unqueue_eng (s : State) (e : QEvent) : (s.unqueue e).eng = s.eng := by
  unfold State.unqueue
  dsimp only
  split
  · rw [raise_eng, inc_eng]
    rfl
  · rfl

/-- The tentative slot has failed. -/
def State.slotFailed (s : State) : State :=
  (s.raise .FW_SW_FAIL (arg0 (s.rd FW_STAT.ACTIVE) 0)).showSlot (s.rd FW_STAT.ACTIVE) 0 0

/-- A switch that failed undone. -/
def State.switchBack (s : State) : State :=
  ((s.slotFailed.wr FW_STAT.TENTATIVE 0 0).wr FW_STAT.ACTIVE 0 (1 - s.rd FW_STAT.ACTIVE)).wr FW_STAT.GEN 0
    (s.slotFailed.slotGen (1 - s.rd FW_STAT.ACTIVE))

theorem exec_swFail (ht : s.rd FW_STAT.TENTATIVE = 1) (hp : s.fw.switchAt + max 16 (s.inf FW_CTRL.SW_MAX) ≤ s.tick) :
    exec .swFail s = .next (s.quiet.switchBack.beginRestart srcSVC 0) := by
  have ht' : s.quiet.on FW_STAT.TENTATIVE = true := on_iff.2 ht
  have hp' : s.quiet.past s.quiet.fw.switchAt (max 16 (s.quiet.inf FW_CTRL.SW_MAX)) = true := decide_eq_true hp
  exact congrArg Host.Outcome.next (if_pos (by rw [ht', hp']; rfl))

theorem switchBack_rd (s : State) {F : Fld} (h : ([FW_STAT.TENTATIVE, FW_STAT.ACTIVE, FW_STAT.GEN, FW_SLOT_A.GEN,
    FW_SLOT_A.STATE, FW_SLOT_B.GEN, FW_SLOT_B.STATE].all fun G => [F.key 0].all G.misses) = true)
    (h' : [FW_STAT.TENTATIVE, FW_STAT.ACTIVE, FW_STAT.GEN].all F.off = true) :
    s.switchBack.rd F = (s.raise .FW_SW_FAIL (arg0 (s.rd FW_STAT.ACTIVE) 0)).rd F := by
  simp only [List.all_cons, List.all_nil, Bool.and_true, Bool.and_eq_true] at h'
  obtain ⟨h1, h2, h3⟩ := h'
  have hs := showSlot_kept (s.raise .FW_SW_FAIL (arg0 (s.rd FW_STAT.ACTIVE) 0)) (s.rd FW_STAT.ACTIVE) 0 0 [] [F.key 0]
    (List.all_eq_true.2 fun G hG => List.all_eq_true.1 h G (by simp at hG ⊢; tauto))
  rw [State.switchBack, rd_wr_off h3, rd_wr_off h2, rd_wr_off h1]
  exact hs.spared_key List.mem_cons_self

theorem beginRestart_SW_FAIL (s : State) (source detail : Nat) :
    (s.beginRestart source detail).rd FW_EVT.SW_FAIL = s.rd FW_EVT.SW_FAIL := by
  have hk := kept_beginRestart (W := .spare s [] [FW_EVT.SW_FAIL.key 0]) (a2 := source) (a3 := detail)
    (kept_spare _ _ _) rfl rfl rfl rfl rfl rfl rfl rfl rfl rfl rfl rfl (logs_spare rfl rfl rfl) rfl rfl rfl rfl
    rfl rfl rfl rfl rfl rfl rfl rfl rfl rfl rfl rfl rfl rfl rfl rfl rfl rfl rfl rfl rfl rfl rfl rfl rfl rfl rfl rfl rfl rfl
    rfl rfl rfl rfl rfl rfl rfl rfl rfl rfl rfl rfl rfl rfl rfl rfl rfl rfl rfl trivial
  exact hk.spared_key List.mem_cons_self

end Sys2Proof.Machine
end
section
/-! PROOF. Image loads (O47). -/

namespace Sys2Proof.Machine

variable {s t : State}

/-- The image `f` with the bytes that the load `o` reads. -/
def readImage (s : State) (o : Outstanding) (src : Nat) (f : ImageFile) : ImageFile :=
  { f with bytes := if src = 1 then (s.slot (1 - s.rd FW_STAT.ACTIVE)).first (min o.loadBytes 262144)
                    else f.bytes.take o.loadBytes }

/-- What an image load begins with: a slot it is read from holds no image afterwards. -/
def State.imgStart (s : State) (src : Nat) : State :=
  if src = 1 then s.quiet.showSlot s.inactiveSlot 0 0 else s.quiet

theorem imgStart_kept (s : State) (src : Nat) (ps : List Region) (ks : List Nat)
    (h : ([FW_SLOT_A.GEN, FW_SLOT_A.STATE, FW_SLOT_B.GEN, FW_SLOT_B.STATE].all fun F => ks.all F.misses) = true) :
    Kept (.spare s.quiet ps ks) (s.imgStart src) := by
  unfold State.imgStart
  split
  · exact showSlot_kept s.quiet _ 0 0 ps ks h
  · exact kept_spare _ _ _

theorem imgStart_rd (s : State) (src : Nat) {F : Fld} {i : Nat}
    (h : ([FW_SLOT_A.GEN, FW_SLOT_A.STATE, FW_SLOT_B.GEN, FW_SLOT_B.STATE].all fun G => [F.key i].all G.misses) = true) :
    (s.imgStart src).rd F i = s.rd F i :=
  (imgStart_kept s src [] [F.key i] h).spared_key List.mem_cons_self

theorem imgStart_locks (s : State) (src : Nat) : (s.imgStart src).locks = s.locks := by
  unfold State.imgStart State.showSlot
  split
  · split <;> rfl
  · rfl

theorem imgStart_part (s : State) (src : Nat) (q : Region) : q.same s.quiet (s.imgStart src) :=
  (imgStart_kept s src [q] [] rfl).spared_part q (by simp)

theorem imgStart_imgRefusal (s : State) (src kind set : Nat) :
    (s.imgStart src).imgRefusal kind set src = s.imgRefusal kind set src := by
  unfold State.imgRefusal State.isOpen State.bit State.on
  rw [imgStart_locks, imgStart_rd s src (by decide), imgStart_rd s src (by decide), imgStart_rd s src (by decide)]

theorem imgStart_tableOk (s : State) (src kind set : Nat) (f : ImageFile) :
    (s.imgStart src).tableOk kind set f = s.tableOk kind set f := by
  have hd : (s.imgStart src).fw.otpDigest = s.fw.otpDigest := by
    unfold State.imgStart State.showSlot
    split
    · split <;> rfl
    · rfl
  unfold State.tableOk State.signedOk State.on
  rw [imgStart_rd s src (by decide), hd]

variable {o : Outstanding} {kind set src : Nat} {f : ImageFile}

/-- An accepted image takes its place, and its load is answered. -/
theorem exec_imgLoadDone (h : ImageEnds s o kind set src f true) : exec (.imgLoadDone (some f)) s =
    .next (((s.imgStart src).takeImage f.readBack f.body).2.endOut o ((s.imgStart src).takeImage f.readBack f.body).1
      [imageIdOf f.body]) := by
  obtain ⟨hl, hh, hr, hok⟩ := h
  have hl' : s.quiet.imgLoadOut = some (o, kind, set, src) := hl
  have hh' : ¬ s.quiet.holdover = true := ne_true_of_eq_false hh
  have hr' := (imgStart_imgRefusal s src kind set).trans hr
  have hok' : (s.imgStart src).tableOk kind set (readImage s o src f) = true := (imgStart_tableOk ..).trans hok
  change execImgLoadDone (some f) s = _
  unfold execImgLoadDone
  dsimp only
  rw [hl']
  dsimp only
  rw [if_neg hh']
  change Host.Outcome.next (match (s.imgStart src).imgRefusal kind set src, Option.some (readImage s o src f) with
    | some st, _ => _ | none, none => _ | none, some f => _) = _
  rw [hr']
  dsimp only
  exact congrArg Host.Outcome.next (if_neg (show ¬ (!(s.imgStart src).tableOk kind set (readImage s o src f)) = true by
    rw [hok']; decide))

/-- An image that its checks refuse is reported. -/
theorem exec_imgLoadDone_refused (h : ImageEnds s o kind set src f false) : exec (.imgLoadDone (some f)) s =
    .next (((s.imgStart src).raise .FW_LOAD_REJ).endOut o stBADPARAM) := by
  obtain ⟨hl, hh, hr, hok⟩ := h
  have hl' : s.quiet.imgLoadOut = some (o, kind, set, src) := hl
  have hh' : ¬ s.quiet.holdover = true := ne_true_of_eq_false hh
  have hr' := (imgStart_imgRefusal s src kind set).trans hr
  have hok' : (s.imgStart src).tableOk kind set (readImage s o src f) = false := (imgStart_tableOk ..).trans hok
  change execImgLoadDone (some f) s = _
  unfold execImgLoadDone
  dsimp only
  rw [hl']
  dsimp only
  rw [if_neg hh']
  change Host.Outcome.next (match (s.imgStart src).imgRefusal kind set src, Option.some (readImage s o src f) with
    | some st, _ => _ | none, none => _ | none, some f => _) = _
  rw [hr']
  dsimp only
  exact congrArg Host.Outcome.next (if_pos (show (!(s.imgStart src).tableOk kind set (readImage s o src f)) = true by
    rw [hok']; decide))

theorem endOut_part (s : State) (o : Outstanding) (st : Nat) (ws : List Nat) (q : Region)
    (hq : answerSpares [q] = true) : q.same s (s.endOut o st ws) :=
  (spare_endOut (kept_spare s [q] []) o st ws hq rfl).spared_part q (by simp)

theorem endOut_rd (s : State) (o : Outstanding) (st : Nat) (ws : List Nat) {F : Fld} {i : Nat}
    (h : (replyFields.all fun G => [F.key i].all G.misses) = true) : (s.endOut o st ws).rd F i = s.rd F i :=
  (spare_endOut (kept_spare s [] [F.key i]) o st ws rfl h).spared_key List.mem_cons_self

theorem endOut_queue (s : State) (o : Outstanding) (st : Nat) (ws : List Nat) :
    (s.endOut o st ws).cad.queue = s.cad.queue := by
  have e : ({ (s.endOut o st ws).cad with tasks := [] } : Cad) = { s.cad with tasks := [] } :=
    endOut_part s o st ws .cad rfl
  have h := congrArg Cad.queue e
  exact h

theorem imageRegs_part (s : State) (l : List (Nat × Nat)) (q : Region) : q.same s (s.imageRegs l) :=
  (kept_imageRegs (kept_spare s [q] []) fun _ => rfl).spared_part q (by simp)

theorem imgStart_evqFill (s : State) (src : Nat) : (s.imgStart src).evqFill = s.evqFill := by
  unfold State.imgStart State.showSlot
  split
  · split <;> rfl
  · rfl

theorem imgStart_tick (s : State) (src : Nat) : (s.imgStart src).tick = s.tick := by
  unfold State.imgStart State.showSlot
  split
  · split <;> rfl
  · rfl

/-- A model image accepted by the queue waits for its event at the next tick. -/
theorem takeImage_model (m : ModelImage) (b : Bool) (hl : s.rd CAD_STAT.LOCKED = 1) (hq : s.evqFill < 64) :
    (s.takeImage b (.model m)).2.em = { s.em with next := some m } ∧
      ∃ e ∈ (s.takeImage b (.model m)).2.cad.queue, e.act = .model ∧ e.target = s.tick + 1 := by
  have hst : s.scheduleStatus (s.tick + 1) = stOK := scheduleStatus_takes ⟨hl, hq, by omega⟩
  have he : s.takeImage b (.model m) = (stOK, (s.enqueueEvent (s.tick + 1) .model).setEm fun e => { e with next := some m }) := by
    unfold State.takeImage State.schedule
    dsimp only
    rw [hst, if_pos rfl, if_pos rfl]
  rw [he]
  exact ⟨rfl, _, List.mem_append_right _ List.mem_cons_self, rfl, rfl⟩

theorem bankOf_setBank_same (s : State) (b : Nat) (g : Bank → Bank) : (s.setBank b g).bankOf b = g (s.bankOf b) := by
  unfold State.bankOf State.setBank State.setEng
  by_cases h : b = 0
  · simp [h]
  · simp [h]

theorem bankOf_congr (h : t.eng = s.eng) (b : Nat) : t.bankOf b = s.bankOf b := by
  unfold State.bankOf
  rw [h]

/-- An engine image that is good and read back so is in the inactive bank. -/
theorem loadEngine_good (s : State) {e : EngImage} {cyc : Nat} (h : engCheck e = some cyc) :
    s.loadEngine e true = (true, (s.setBank (1 - s.rd ENG_STAT.BANK) fun _ => engBank e cyc).wr ENG_STAT.INACT_VALID 0 1) := by
  unfold State.loadEngine
  dsimp only
  rw [h]

/-- Any other leaves the inactive bank without a program, and is reported. -/
theorem loadEngine_bad (s : State) {e : EngImage} {b : Bool} (h : engCheck e = none ∨ b = false) :
    s.loadEngine e b = (false, ((s.setBank (1 - s.rd ENG_STAT.BANK) fun _ => {}).wr ENG_STAT.INACT_VALID 0 0).raise .ENG_IMG_REJ) := by
  unfold State.loadEngine
  dsimp only
  rcases h with h | h
  · rw [h]
  · rw [h]
    cases engCheck e <;> rfl

end Sys2Proof.Machine
end
section
/-! PROOF. First publications, and the settled statement O47. -/

namespace Sys2Proof.Machine

variable {s t : State}

theorem sends_resumeLinks (s : State) : Sends s s.resumeLinks := by
  unfold State.resumeLinks
  have h := (Sends.refl s).foldl (f := State.resumeLink) (fun _ n h => h.resumeLink n) (List.range 24)
  exact (h.foldl (f := State.sendHeld) (fun _ g h => h.sendHeld g) (List.range 12)).sscCommit

/-! ### The first publication of a restarted firmware -/

/-- Holdover ends. -/
def State.holdoverEnds (s : State) : State :=
  (s.startAllRamps.keepHeld.wr RC_STAT.HOLDOVER 0 0).wr GSTAT.HOLDOVER 0 0

/-- What the restarted firmware does first: its records, the links' attempts, the windows. -/
def State.resumed (s : State) : State := (s.firstRecords.resumeLinks).discardWindows false

/-- The engine runs on if its bank and the memories allow it. -/
def State.engineResumed (s : State) : State :=
  if ((s.bankOf (s.rd ENG_STAT.BANK)).valid && !s.fw.sramFail) = true then
    (s.wr ENG_STAT.STATE 0 1).wr ENG_STAT.LD_RUN 0 0 else s

/-- The outputs are published and the restart is reported. -/
def State.reported (s : State) : State :=
  (s.publishOutputs.setFw fun f => { f with published := true }).raise .RC_WARM_RESTART

/-- The state of a first publication, but for READY. -/
def State.republished (s : State) : State := s.quiet.holdoverEnds.resumed.engineResumed.reported

theorem exec_firstPublication_restarted (he : s.fw.entered = true) (hh : s.rd RC_STAT.HOLDOVER = 1)
    (hl : s.rc.rstLow = false) (hs : s.rc.storm = false) (hn : s.rd FW_STAT.NO_FW ≠ 1) : exec .firstPublication s = .next
      (if s.republished.on CAD_STAT.LOCKED = true then (s.republished.wr GSTAT.READY 0 1).drive .ready
        else s.republished.setFw fun f => { f with readyOwed := true }) := by
  have he' : s.quiet.fw.entered = true := he
  have hh' : s.quiet.on RC_STAT.HOLDOVER = true := on_iff.2 hh
  have hl' : s.quiet.rc.rstLow = false := hl
  have hs' : s.quiet.rc.storm = false := hs
  have hn' : s.quiet.on FW_STAT.NO_FW = false := Bool.eq_false_iff.2 fun h => hn (on_iff.1 h)
  change execFirstPublication s = _
  unfold execFirstPublication
  extract_lets a b c d e f
  have hf : f = s.republished := by
    have hb : b = s.quiet.holdoverEnds := rfl
    have hc : c = b.resumed := rfl
    have hd : d = c.engineResumed := rfl
    have he : f = d.reported := rfl
    rw [he, hd, hc, hb, State.republished]
  clear_value f
  rw [he', hh', hl', hs', hn', if_pos (show (true && true) = true from rfl),
    if_neg (show ¬ (false || false || false) = true by decide), hf]

/-- What the first publication reads of the state it began with. -/
def readyKeys : List Nat := [RC_STAT.HOLDOVER.key 0, CAD_STAT.LOCKED.key 0, GSTAT.READY.key 0]

theorem resumed_kept (s : State) : Kept (.spare s [] readyKeys) s.resumed :=
  kept_discardWindows (kept_resumeLinks (kept_firstRecords (kept_spare s _ _) rfl rfl rfl (logs_spare rfl rfl rfl))
    rfl rfl rfl rfl rfl rfl) rfl

theorem engineResumed_kept (s : State) (ps : List Region) : Kept (.spare s ps readyKeys) s.engineResumed := by
  unfold State.engineResumed
  split
  · exact kept_wr (kept_wr (kept_spare s _ _) rfl) rfl
  · exact kept_spare s _ _

theorem reported_kept (s : State) : Kept (.spare s [.emit] readyKeys) s.reported :=
  kept_raise (kept_setFw (kept_publishOutputs (kept_spare s [.emit] readyKeys) rfl) (fun _ => rfl) rfl rfl)
    (logs_spare rfl rfl rfl) rfl

theorem holdoverEnds_kept (s : State) : Kept (.spare s [.emit] [CAD_STAT.LOCKED.key 0, GSTAT.READY.key 0]) s.holdoverEnds :=
  kept_wr (kept_wr (kept_keepHeld (kept_startAllRamps (kept_spare s _ _) rfl) rfl) rfl) rfl

theorem holdoverEnds_HOLDOVER (s : State) : s.holdoverEnds.rd RC_STAT.HOLDOVER = 0 := by
  rw [State.holdoverEnds, rd_wr_off (by decide), rd_wr_same]
  rfl

theorem republished_key (s : State) {F : Fld} (h : F.key 0 ∈ readyKeys) :
    s.republished.rd F = s.quiet.holdoverEnds.rd F :=
  ((reported_kept _).spared_key h).trans (((engineResumed_kept _ []).spared_key h).trans ((resumed_kept _).spared_key h))

theorem republished_HOLDOVER (s : State) : s.republished.rd RC_STAT.HOLDOVER = 0 :=
  (republished_key s (by simp [readyKeys])).trans (holdoverEnds_HOLDOVER _)

theorem republished_LOCKED (s : State) : s.republished.rd CAD_STAT.LOCKED = s.rd CAD_STAT.LOCKED :=
  (republished_key s (by simp [readyKeys])).trans ((holdoverEnds_kept s.quiet).spared_key (by simp))

theorem republished_READY (s : State) : s.republished.rd GSTAT.READY = s.rd GSTAT.READY :=
  (republished_key s (by simp [readyKeys])).trans ((holdoverEnds_kept s.quiet).spared_key (by simp))

theorem republished_WARM_RESTART (s : State) : s.republished.rd RC_EVT.WARM_RESTART = 1 := by
  unfold State.republished State.reported
  exact rd_raise_st _ .RC_WARM_RESTART _ _ (by decide)

theorem republished_published (s : State) : s.republished.fw.published = true := by
  unfold State.republished State.reported
  exact raise_fw_part _ .RC_WARM_RESTART _ _ Fw.published fun _ _ _ => rfl

theorem resumed_emit (s : State) : ∀ e ∈ s.resumed.emit, e ∈ s.emit ∨ ∃ n w, e = .frame n w := by
  have h1 : s.firstRecords.emit = s.emit :=
    (kept_firstRecords (kept_spare s [.emit] []) rfl rfl rfl (logs_spare rfl rfl rfl)).spared_part .emit rfl
  have h2 : s.resumed.emit = s.firstRecords.resumeLinks.emit :=
    (kept_discardWindows (kept_spare _ [.emit] []) rfl).spared_part .emit rfl
  rw [h2, ← h1]
  exact (sends_resumeLinks _).added

/-- Only frames of the links leave before READY. -/
theorem ready_notMem_republished (s : State) : Emission.ready ∉ s.republished.emit := by
  have h1 : s.republished.emit = s.quiet.holdoverEnds.resumed.emit :=
    ((reported_kept _).spared_part .emit rfl).trans ((engineResumed_kept _ [.emit]).spared_part .emit rfl)
  have h2 : s.quiet.holdoverEnds.emit = [] := (holdoverEnds_kept s.quiet).spared_part .emit rfl
  rw [h1]
  intro h
  rcases resumed_emit _ _ h with h | ⟨n, w, h⟩
  · rw [h2] at h
    exact absurd h List.not_mem_nil
  · cases h

/-- READY is driven if the cadence is locked, and owed otherwise. -/
def State.readyOrOwed (s : State) : State :=
  if s.on CAD_STAT.LOCKED = true then (s.wr GSTAT.READY 0 1).drive .ready else s.setFw fun f => { f with readyOwed := true }

theorem readyOrOwed_rd (s : State) {F : Fld} (h : F.off GSTAT.READY = true) : s.readyOrOwed.rd F = s.rd F := by
  unfold State.readyOrOwed
  split
  · rw [drive_rd, rd_wr_off h]
  · rw [setFw_rd]

theorem readyOrOwed_published (s : State) : s.readyOrOwed.fw.published = s.fw.published := by
  unfold State.readyOrOwed
  split <;> rfl

theorem readyOrOwed_locked (h : s.rd CAD_STAT.LOCKED = 1) :
    s.readyOrOwed.rd GSTAT.READY = 1 ∧ Emission.ready ∈ s.readyOrOwed.emit := by
  rw [State.readyOrOwed, if_pos (on_iff.2 h), drive_rd, rd_wr_same]
  exact ⟨rfl, List.mem_append_right _ List.mem_cons_self⟩

theorem readyOrOwed_unlocked (h : s.rd CAD_STAT.LOCKED ≠ 1) : s.readyOrOwed.rd GSTAT.READY = s.rd GSTAT.READY ∧
    s.readyOrOwed.fw.readyOwed = true ∧ s.readyOrOwed.emit = s.emit := by
  rw [State.readyOrOwed, if_neg fun k => h (on_iff.1 k)]
  exact ⟨rfl, rfl, rfl⟩

/-! ### The first publication of firmware switched to -/

/-- The tentative firmware has published: the switch is done. -/
def State.switchKept (s : State) : State :=
  (((s.wr FW_STAT.TENTATIVE 0 0).wr FW_STAT.GEN 0 (s.slotGen (s.rd FW_STAT.ACTIVE))).firstRecords.publishOutputs).raise
    .FW_SW_DONE (arg0 (s.rd FW_STAT.ACTIVE) 0)

theorem exec_firstPublication_switched (he : s.fw.entered = true) (hh : s.rd RC_STAT.HOLDOVER ≠ 1)
    (ht : s.rd FW_STAT.TENTATIVE = 1) : exec .firstPublication s = .next s.quiet.switchKept := by
  have he' : s.quiet.fw.entered = true := he
  have hh' : s.quiet.on RC_STAT.HOLDOVER = false := Bool.eq_false_iff.2 fun h => hh (on_iff.1 h)
  have ht' : s.quiet.on FW_STAT.TENTATIVE = true := on_iff.2 ht
  exact congrArg Host.Outcome.next ((if_neg (by rw [he', hh']; decide)).trans (if_pos (by rw [he', ht']; rfl)))

theorem switchKept_spec (s : State) : s.switchKept.rd FW_STAT.TENTATIVE = 0 ∧ s.switchKept.rd FW_EVT.SW_DONE = 1 ∧
    s.switchKept.rd FW_STAT.ACTIVE = s.rd FW_STAT.ACTIVE := by
  have hk : Kept (.spare ((s.wr FW_STAT.TENTATIVE 0 0).wr FW_STAT.GEN 0 (s.slotGen (s.rd FW_STAT.ACTIVE))) []
      [FW_STAT.TENTATIVE.key 0, FW_STAT.ACTIVE.key 0]) s.switchKept :=
    kept_raise (kept_publishOutputs (kept_firstRecords (kept_spare _ _ _) rfl rfl rfl (logs_spare rfl rfl rfl)) rfl)
      (logs_spare rfl rfl rfl) rfl
  refine ⟨?_, rd_raise_st _ .FW_SW_DONE _ _ (by decide), ?_⟩
  · rw [hk.spared_key (by simp), rd_wr_off (by decide), rd_wr_same]
    rfl
  · rw [hk.spared_key (by simp), rd_wr_off (by decide), rd_wr_off (by decide)]

end Sys2Proof.Machine

namespace Sys2Proof

open Sys2Proof.Machine

theorem takeImage_engine (s : State) (b : Bool) (e : EngImage) : s.takeImage b (.engine e) =
    (if (s.loadEngine e b).1 = true then stOK else stBADPARAM, (s.loadEngine e b).2) := rfl

/-- Settles O47: a clause for each way a load, a switch or a first publication ends. -/
theorem firmwareSlots : Obligations.FirmwareSlots := by
  unfold Obligations.FirmwareSlots
  refine ⟨?_, ?_, ?_, ?_, ?_, ?_, ?_, ?_, ?_, ?_, ?_, ?_, ?_⟩
  · intro s he hh hl hs hn
    refine ⟨_, exec_firstPublication_restarted he hh hl hs hn, ?_⟩
    rw [← State.readyOrOwed]
    dsimp only
    rw [readyOrOwed_rd _ (F := RC_STAT.HOLDOVER) (by decide), readyOrOwed_rd _ (F := RC_EVT.WARM_RESTART) (by decide),
      readyOrOwed_published]
    refine ⟨republished_HOLDOVER s, republished_WARM_RESTART s, republished_published s, fun hk => ?_, fun hk => ?_⟩
    · exact readyOrOwed_locked ((republished_LOCKED s).trans hk)
    · obtain ⟨hr, ho, hemit⟩ := readyOrOwed_unlocked (s := s.republished) fun k => hk ((republished_LOCKED s).symm.trans k)
      rw [hemit]
      exact ⟨hr.trans (republished_READY s), ho, ready_notMem_republished s⟩
  · intro s he hh ht
    exact ⟨_, exec_firstPublication_switched he hh ht, switchKept_spec s.quiet⟩
  · intro e s he ha hst
    refine ⟨_, exec_fwSwitchover he ha hst, ?_⟩
    have hA : ((s.quiet.unqueue e).wr FW_STAT.SW_PEND 0 0 |>.switchTo s.inactiveSlot).rd FW_STAT.ACTIVE =
        s.inactiveSlot % 2 ^ FW_STAT.ACTIVE.width := by
      rw [State.switchTo, setEng_rd, setFw_rd, State.tried, rd_wr_off (by decide), rd_wr_same]
    refine ⟨?_, ?_, ?_, rfl, ?_, ?_⟩
    · rw [hA, State.inactiveSlot]
      exact Nat.mod_eq_of_lt (by have : FW_STAT.ACTIVE.width = 1 := rfl; rw [this]; omega)
    · rw [State.switchTo, setEng_rd, setFw_rd, State.tried, rd_wr_same]
      rfl
    · rw [State.switchTo, setEng_rd, setFw_rd, State.tried, rd_wr_off (by decide), rd_wr_off (by decide), rd_wr_same]
      rfl
    · have h := congrArg Eng.pub (unqueue_eng s.quiet e)
      exact h
    · exact unqueue_tick s.quiet e
  · intro s ht hp
    refine ⟨_, exec_swFail ht hp, (beginRestart_spec _ _ _).1.of_eq ?_, ?_⟩
    · exact (switchBack_rd s.quiet (by decide) (by decide)).trans (rd_raise_all (by decide) _ _)
    · rw [beginRestart_SW_FAIL, switchBack_rd _ (by decide) (by decide)]
      exact rd_raise_st _ .FW_SW_FAIL _ _ (by decide)
  · intro o src f b s hl hh hb hst
    refine ⟨_, exec_fwLoadDone hl hh, ?_⟩
    rw [hb]
    dsimp only
    rw [if_pos hst]
    obtain ⟨h1, h2⟩ := endOut_shows (s.quiet.loadTaken b) o stOK [imageGen b] (1 - s.rd FW_STAT.ACTIVE)
    obtain ⟨h3, h4⟩ := loadTaken_shows s.quiet b
    exact ⟨h1.trans h3, h2.trans h4⟩
  · intro o src f s hl hh hst
    refine ⟨_, exec_fwLoadDone hl hh, ?_⟩
    cases hb : loadedBytes s o src f with
    | none => exact fwLoad_refused_shows _ _ _ _
    | some b =>
      rw [hb] at hst
      dsimp only
      rw [if_neg hst]
      exact fwLoad_refused_shows _ _ _ _
  · intro o kind set src f m s h hf
    refine ⟨_, exec_imgLoadDone h, ?_⟩
    rw [hf]
    exact congrArg Mg.image (endOut_part _ o _ _ .mg rfl)
  · intro o kind set src f b s h hf
    refine ⟨_, exec_imgLoadDone h, ?_⟩
    rw [hf]
    exact congrArg Bg.image (endOut_part _ o _ _ .bg rfl)
  · intro o kind set src id f l ts s h hf
    refine ⟨_, exec_imgLoadDone h, ?_⟩
    rw [hf]
    exact congrArg Th.imageId (endOut_part _ o _ _ .th rfl)
  · intro o kind set src f m s h hf hl hq
    refine ⟨_, exec_imgLoadDone h, ?_⟩
    rw [hf]
    obtain ⟨hem, e, he, hact, htgt⟩ := takeImage_model (s := s.imgStart src) m f.readBack
      ((imgStart_rd s src (by decide)).trans hl) ((imgStart_evqFill s src).trans_lt hq)
    have hem' := (endOut_part ((s.imgStart src).takeImage f.readBack (.model m)).2 o
      ((s.imgStart src).takeImage f.readBack (.model m)).1 [imageIdOf (.model m)] .em rfl).trans hem
    have h0 : (s.imgStart src).em = s.em := imgStart_part s src .em
    have h0i : (s.imgStart src).em.image = s.em.image := congrArg Em.image h0
    refine ⟨congrArg Em.next hem', (congrArg Em.image hem').trans ?_, e, ?_, hact, ?_⟩
    · exact h0i
    · rw [endOut_queue]
      exact he
    · rw [htgt, imgStart_tick]
  · intro o kind set src cyc f e s h hf hc hr
    refine ⟨_, exec_imgLoadDone h, ?_⟩
    rw [hf, hr]
    have hb : (s.imgStart src).rd ENG_STAT.BANK = s.rd ENG_STAT.BANK := imgStart_rd s src (by decide)
    rw [takeImage_engine, loadEngine_good (s.imgStart src) hc, hb]
    refine ⟨(endOut_rd _ _ _ _ (by decide)).trans (rd_wr_same ..), ?_⟩
    rw [bankOf_congr (endOut_part _ o _ _ .eng rfl), bankOf_congr (wr_eng ..), bankOf_setBank_same]
  · intro o kind set src f e s h hf hc
    refine ⟨_, exec_imgLoadDone h, ?_⟩
    rw [hf]
    rw [takeImage_engine, loadEngine_bad (s.imgStart src) hc]
    refine ⟨?_, ?_⟩
    · rw [endOut_rd _ _ _ _ (by decide), rd_raise_all (by decide), rd_wr_same]
      rfl
    · exact (endOut_rd _ _ _ _ (by decide)).trans (rd_raise_st _ .ENG_IMG_REJ _ _ (by decide))
  · intro o kind set src f s h
    refine ⟨_, exec_imgLoadDone_refused h, ?_, ?_, ?_, ?_, ?_⟩
    · exact (endOut_rd _ _ _ _ (by decide)).trans (rd_raise_st _ .FW_LOAD_REJ _ _ (by decide))
    · rw [show _ = _ from endOut_part _ o _ _ .mg rfl, raise_mg]
      exact congrArg Mg.image (imgStart_part s src .mg)
    · rw [show _ = _ from endOut_part _ o _ _ .bg rfl, raise_bg]
      exact congrArg Bg.image (imgStart_part s src .bg)
    · rw [show _ = _ from endOut_part _ o _ _ .em rfl, raise_em]
      exact congrArg Em.next (imgStart_part s src .em)
    · rw [endOut_rd _ _ _ _ (by decide), rd_raise_all (by decide)]
      exact imgStart_rd s src (by decide)

end Sys2Proof
end
section
/-! PROOF. What the meter measures, and what it writes into its journal (O48, O49). -/

namespace Sys2Proof.Machine

variable {s t : State} {m : Mtr}

/-! ### A step of the meter -/

theorem drives_mtr {α : Type} (f : α → List Emission) (l : List α) (s : State) :
    ((l.flatMap f).foldl State.drive s).mtr = s.mtr :=
  foldl_keeps (fun t : State => t.mtr = s.mtr) rfl fun _ _ h => h

/-- A step of the meter changes the meter as the step says, whatever its writes drive. -/
theorem meter_mtr (s : State) (f : Mtr → Mtr) : (s.meter f).mtr = f { s.mtr with writes := [] } :=
  drives_mtr _ _ _

/-- A step that writes no record drives nothing. -/
theorem meter_of_no_writes (s : State) (f : Mtr → Mtr) (h : (f { s.mtr with writes := [] }).writes = []) :
    s.meter f = s.setMtr fun m => f { m with writes := [] } := by
  unfold State.meter
  change ((f { s.mtr with writes := [] }).writes.flatMap _).foldl _ _ = _
  rw [h]
  rfl

/-! ### The journal -/

theorem Journal.bytes_put_same (j : Journal) (r : Nat) (bs : List Nat) : (j.put r bs).bytes r = bs :=
  Table.get_set_same ..

theorem Journal.bytes_put_ne (j : Journal) {r q : Nat} (bs : List Nat) (h : r ≠ q) : (j.put r bs).bytes q = j.bytes q :=
  Table.get_set_ne _ _ _ _ h

/-- Writing records changes the journal and the list of writes alone. -/
def Mtr.wrote (m : Mtr) (j : Journal) (w : List (Nat × List Nat × List Nat)) : Mtr := { m with journal := j, writes := w }

theorem wrote_put (m : Mtr) (j : Journal) (w : List (Nat × List Nat × List Nat)) (r : Nat) (bs : List Nat) :
    (m.wrote j w).put r bs = m.wrote (j.put r bs) ((m.wrote j w).put r bs).writes := rfl

theorem foldl_put_wrote (m : Mtr) (l : List Nat) (bs : List Nat) : ∃ j w, l.foldl (fun m r => m.put r bs) m = m.wrote j w :=
  foldl_keeps (fun x : Mtr => ∃ j w, x = m.wrote j w) ⟨_, _, rfl⟩ fun x r => by
    rintro ⟨j, w, rfl⟩
    exact ⟨_, _, rfl⟩

/-- `n` records written in a row at `b`: each holds what was written, and every other record is as it was. -/
theorem upTo_put_wrote (m : Mtr) (n b : Nat) (f : Nat → List Nat) : ∃ j w, upTo n (fun q m => m.put (b + q) (f q)) m = m.wrote j w ∧
    (∀ q < n, j.bytes (b + q) = f q) ∧ ∀ r, (r < b ∨ b + n ≤ r) → j.bytes r = m.journal.bytes r := by
  induction n with
  | zero => exact ⟨m.journal, m.writes, rfl, fun q hq => absurd hq (Nat.not_lt_zero q), fun _ _ => rfl⟩
  | succ n ih =>
    obtain ⟨j, w, he, hin, hout⟩ := ih
    refine ⟨j.put (b + n) (f n), _, by rw [upTo_succ, he]; rfl, fun q hq => ?_, fun r hr => ?_⟩
    · by_cases h : n = q
      · rw [h, Journal.bytes_put_same]
      · rw [Journal.bytes_put_ne _ _ (by omega), hin q (by omega)]
    · rw [Journal.bytes_put_ne _ _ (by omega), hout r (by omega)]

/-- A journaled event changes the journal and what waits for it alone. -/
theorem event_eq (m : Mtr) (ty d0 d1 d2 : Nat) : ∃ j w r q,
    m.event ty d0 d1 d2 = { m with journal := j, writes := w, ringNext := r, waiting := q } := by
  unfold Mtr.event
  dsimp only
  split
  · exact ⟨_, _, _, m.waiting, rfl⟩
  · exact ⟨m.journal, m.writes, m.ringNext, _, rfl⟩

/-- A slot written: its 17 records, and none besides. -/
theorem writeSlot_eq (m : Mtr) (c : Ckpt) : ∃ j w, m.writeSlot c = { m with journal := j, writes := w, ckLast := 1 - m.ckLast } ∧
    j.bytes (slotBase (1 - m.ckLast) + 16) = sealRecord c.dieBytes ∧
    (∀ q < 16, j.bytes (slotBase (1 - m.ckLast) + q) = sealRecord (c.partBytes q)) ∧
    ∀ r, (r < slotBase (1 - m.ckLast) ∨ slotBase (1 - m.ckLast) + 16 < r) → j.bytes r = m.journal.bytes r := by
  obtain ⟨j, w, he, hin, hout⟩ := upTo_put_wrote m 16 (slotBase (1 - m.ckLast)) fun q => sealRecord (c.partBytes q)
  refine ⟨j.put (slotBase (1 - m.ckLast) + 16) (sealRecord c.dieBytes),
    ((m.wrote j w).put (slotBase (1 - m.ckLast) + 16) (sealRecord c.dieBytes)).writes, ?_, Journal.bytes_put_same .., ?_, ?_⟩
  · unfold Mtr.writeSlot
    dsimp only
    rw [he, wrote_put]
    generalize ((m.wrote j w).put _ _).writes = w'
    rfl
  · intro q hq
    rw [Journal.bytes_put_ne _ _ (by omega), hin q hq]
  · intro r hr
    rw [Journal.bytes_put_ne _ _ (by omega), hout r (by omega)]

/-- A checkpoint, written or captured, leaves the measurement alone. -/
theorem checkpoint_eq (m : Mtr) (pfw : Bool) : ∃ j w k c, m.checkpoint pfw = { m with
    cseq := (m.cseq + 1) % 2 ^ 32, ckP := 0, ckN := 0, journal := j, writes := w, ckLast := k, captured := c } := by
  unfold Mtr.checkpoint
  dsimp only
  split
  · obtain ⟨j, w, he, -⟩ := writeSlot_eq { m with cseq := (m.cseq + 1) % 2 ^ 32, ckP := 0, ckN := 0 }
      (m.record ((m.cseq + 1) % 2 ^ 32) pfw)
    rw [he]
    exact ⟨j, w, _, _, rfl⟩
  · exact ⟨m.journal, m.writes, m.ckLast, _, rfl⟩

theorem tail_eq (m : Mtr) : ∃ j w k, m.tail = { m with journal := j, writes := w, tailNext := k } := by
  unfold Mtr.tail
  split
  · exact ⟨m.journal, m.writes, m.tailNext, rfl⟩
  · exact ⟨_, _, _, rfl⟩

theorem initJournal_eq (m : Mtr) (n : Nat) : ∃ j w, m.initJournal n = { m with journal := j, writes := w, initDue := none } := by
  obtain ⟨j, w, he⟩ := foldl_put_wrote (m.put 0 (sealRecord (bytesLE 4 m.serial ++ bytesLE 4 1 ++ bytesLE 8 n)))
    [24, 40, 56, 57] blankRecord
  refine ⟨j, w, ?_⟩
  unfold Mtr.initJournal
  dsimp only
  rw [he]
  rfl

theorem initOnce_eq (m : Mtr) (n : Nat) : ∃ j w q, m.initOnce n = { m with journal := j, writes := w, initDue := q } := by
  unfold Mtr.initOnce
  split
  · obtain ⟨j, w, he⟩ := initJournal_eq m n
    exact ⟨j, w, none, he⟩
  · exact ⟨m.journal, m.writes, _, rfl⟩

theorem writeEvents_eq (m : Mtr) (l : List JEvent) : ∃ j w r, l.foldl Mtr.writeEvent m =
    { m with journal := j, writes := w, ringNext := r } :=
  foldl_keeps (fun x : Mtr => ∃ j w r, x = { m with journal := j, writes := w, ringNext := r })
    ⟨m.journal, m.writes, m.ringNext, rfl⟩ fun x e => by
      rintro ⟨j, w, r, rfl⟩
      exact ⟨_, _, _, rfl⟩

theorem writeCal_eq (m : Mtr) (c : Cal) : ∃ j w, m.writeCal c = { m with journal := j, writes := w, calDue := false } := by
  have h : ∃ j w, upTo 4 (fun r m => m.put (1 + r) (sealRecord (c.bytes m.calGen (r % 2)))) m = m.wrote j w :=
    upTo_keeps (fun x : Mtr => ∃ j w, x = m.wrote j w) ⟨m.journal, m.writes, rfl⟩ fun r x => by
      rintro ⟨j, w, rfl⟩
      exact ⟨_, _, rfl⟩
  obtain ⟨j, w, he⟩ := h
  refine ⟨j, w, ?_⟩
  unfold Mtr.writeCal
  dsimp only
  rw [he]
  rfl

/-! ### Samples and windows -/

theorem sample_spec (m : Mtr) (v0 i0 v1 i1 temp : Int) : (m.sample v0 i0 v1 i1 temp).samples = m.samples + 1 ∧
    (m.sample v0 i0 v1 i1 temp).temp = temp ∧ (m.sample v0 i0 v1 i1 temp).acc = m.acc + (v0 * i0 + v1 * i1) := by
  unfold Mtr.sample
  extract_lets p x
  have hx : x.samples = m.samples + 1 ∧ x.temp = temp ∧ x.acc = m.acc + (v0 * i0 + v1 * i1) := ⟨rfl, rfl, rfl⟩
  clear_value x
  split
  · exact hx
  · split
    · obtain ⟨j, w, k, he⟩ := tail_eq x
      rw [he]
      exact hx
    · obtain ⟨j, w, k, c, he⟩ := checkpoint_eq x true
      change (x.checkpoint true).samples = _ ∧ (x.checkpoint true).temp = _ ∧ (x.checkpoint true).acc = _
      rw [he]
      exact hx

/-- The pairs have been compared over a window, in which they disagreed or not. -/
def Mtr.judged (m : Mtr) (bad : Bool) : Mtr :=
  if bad = true then
    if m.st = mRUN then { m with agree := 0, st := mFAULT }.event eFAULT else { m with agree := 0 }
  else if m.st = mFAULT ∧ 10 ≤ m.agree + 1 then { m with agree := m.agree + 1, st := mRUN }.event eFAULTCLEAR
  else { m with agree := m.agree + 1 }

/-- The state of the meter after the pairs are compared. -/
def Mtr.compared (m : Mtr) (bad : Bool) : Nat :=
  if bad = true then (if m.st = mRUN then mFAULT else m.st)
  else if m.st = mFAULT ∧ 10 ≤ m.agree + 1 then mRUN else m.st

theorem judged_spec (m : Mtr) (bad : Bool) : (m.judged bad).winN = m.winN ∧ (m.judged bad).e0 = m.e0 ∧
    (m.judged bad).e1 = m.e1 ∧ (m.judged bad).romCrc = m.romCrc ∧ (m.judged bad).faulted = m.faulted ∧
    (m.judged bad).st = m.compared bad := by
  unfold Mtr.judged Mtr.compared
  split
  · split
    · obtain ⟨j, w, r, q, he⟩ := event_eq { m with agree := 0, st := mFAULT } eFAULT 0 0 0
      rw [he]
      exact ⟨rfl, rfl, rfl, rfl, rfl, rfl⟩
    · exact ⟨rfl, rfl, rfl, rfl, rfl, rfl⟩
  · split
    · obtain ⟨j, w, r, q, he⟩ := event_eq { m with agree := m.agree + 1, st := mRUN } eFAULTCLEAR 0 0 0
      rw [he]
      exact ⟨rfl, rfl, rfl, rfl, rfl, rfl⟩
    · exact ⟨rfl, rfl, rfl, rfl, rfl, rfl⟩

/-- A ROM that fails its check is a fault for good. -/
def Mtr.romChecked (m : Mtr) (crc : Nat) : Mtr :=
  if crc ≠ romCrc710 ∧ m.st ≠ mROMFAULT then { m with st := mROMFAULT }.event eROMFAULT else m

theorem romChecked_spec (m : Mtr) (crc : Nat) : (m.romChecked crc).winN = m.winN ∧ (m.romChecked crc).e0 = m.e0 ∧
    (m.romChecked crc).e1 = m.e1 ∧ (m.romChecked crc).romCrc = m.romCrc ∧ (m.romChecked crc).faulted = m.faulted ∧
    (m.romChecked crc).st = if crc ≠ romCrc710 then mROMFAULT else m.st := by
  unfold Mtr.romChecked
  by_cases hc : crc = romCrc710
  · rw [if_neg (fun h => h.1 hc), if_neg (not_not.2 hc)]
    exact ⟨rfl, rfl, rfl, rfl, rfl, rfl⟩
  · rw [if_pos hc]
    by_cases hs : m.st = mROMFAULT
    · rw [if_neg (fun h => h.2 hs)]
      exact ⟨rfl, rfl, rfl, rfl, rfl, hs⟩
    · rw [if_pos ⟨hc, hs⟩]
      obtain ⟨j, w, r, q, he⟩ := event_eq { m with st := mROMFAULT } eROMFAULT 0 0 0
      rw [he]
      exact ⟨rfl, rfl, rfl, rfl, rfl, rfl⟩

/-- A window begins. -/
def Mtr.windowEnds (m : Mtr) (crc : Nat) : Mtr := { m with e0 := 0, e1 := 0, winN := 0, faulted := m.disagrees, romCrc := crc }

theorem windowState_eq (m : Mtr) (crc : Nat) :
    m.windowState crc = ((m.windowEnds crc).judged m.disagrees).romChecked crc := rfl

theorem windowState_spec (m : Mtr) (crc : Nat) : (m.windowState crc).winN = 0 ∧ (m.windowState crc).e0 = 0 ∧
    (m.windowState crc).e1 = 0 ∧ (m.windowState crc).romCrc = crc ∧ (m.windowState crc).faulted = m.disagrees ∧
    (m.windowState crc).st = if crc ≠ romCrc710 then mROMFAULT else m.compared m.disagrees := by
  obtain ⟨h1, h2, h3, h4, h5, h6⟩ := judged_spec (m.windowEnds crc) m.disagrees
  obtain ⟨k1, k2, k3, k4, k5, k6⟩ := romChecked_spec ((m.windowEnds crc).judged m.disagrees) crc
  rw [windowState_eq, k1, k2, k3, k4, k5, k6, h1, h2, h3, h4, h5, h6]
  exact ⟨rfl, rfl, rfl, rfl, rfl, rfl⟩

/-- A commit leaves the window's results alone, and changes the state of an uncalibrated meter only. -/
theorem applyCommit_spec (m : Mtr) : m.applyCommit.winN = m.winN ∧ m.applyCommit.e0 = m.e0 ∧ m.applyCommit.e1 = m.e1 ∧
    m.applyCommit.romCrc = m.romCrc ∧ m.applyCommit.faulted = m.faulted ∧ (m.st ≠ mUNCAL → m.applyCommit.st = m.st) := by
  unfold Mtr.applyCommit
  split
  · exact ⟨rfl, rfl, rfl, rfl, rfl, fun _ => rfl⟩
  · dsimp only
    split
    · obtain ⟨j, w, q, he⟩ := initOnce_eq { m with
        cal := _, commit := none, agree := 0, st := mRUN, acc := 0, mtime := 0, unatt := 0, accts := [], eRef := 0,
        pseqRef := m.pseq, held := [(m.pseq, 0)], ckP := 0, ckN := 0, captured := none } m.mtime
      rw [he]
      exact ⟨rfl, rfl, rfl, rfl, rfl, fun h => absurd ‹_› h⟩
    · exact ⟨rfl, rfl, rfl, rfl, rfl, fun _ => rfl⟩

end Sys2Proof.Machine
end
section
/-! PROOF. The meter's samples, windows, publications and checkpoints: the settled statement O48. -/

namespace Sys2Proof.Machine

variable {s t : State}

theorem meterAmps_mtr (s : State) (pair : Nat) (code : Int) : (s.meterAmps pair code).2.mtr = s.mtr := by
  unfold State.meterAmps
  split <;> rfl

theorem meterAmps_amps (h : s.mtr.cal.item 8 ≠ 0) (pair : Nat) (code : Int) :
    s.meterAmps pair code = (s.mtr.cal.amps pair code, s) := if_neg h

theorem meterMean_mtr (s : State) (sum : Int) (n unit w : Nat) : (s.meterMean sum n unit w).2.mtr = s.mtr := by
  unfold State.meterMean
  dsimp only
  split <;> rfl

theorem meterMean_emit (s : State) (sum : Int) (n unit w : Nat) : (s.meterMean sum n unit w).2.emit = s.emit := by
  unfold State.meterMean
  dsimp only
  split <;> rfl

/-- The state in which the currents of a sample have been formed. -/
def State.sampled (s : State) (m : MeterIn) : State := ((s.meterAmps 0 m.i0).2.meterAmps 1 m.i1).2

theorem sampled_mtr (s : State) (m : MeterIn) : (s.sampled m).mtr = s.mtr :=
  (meterAmps_mtr _ _ _).trans (meterAmps_mtr _ _ _)

theorem exec_meterSample (m : MeterIn) (h : s.mtr.alive = true) : exec (.meterSample m) s = .next
    ((s.quiet.sampled m).meter fun x => x.sample (s.mtr.cal.volts 0 m.v0) (s.quiet.meterAmps 0 m.i0).1
      (s.mtr.cal.volts 1 m.v1) ((s.quiet.meterAmps 0 m.i0).2.meterAmps 1 m.i1).1 m.temp) :=
  congrArg Host.Outcome.next (if_pos h)

theorem exec_meterWindow (crc : Nat) (h : s.mtr.alive = true) (hw : 4000 ≤ s.mtr.winN) : exec (.meterWindow crc) s = .next
    (s.quiet.meter fun m => (m.windowState crc).applyCommit) := by
  have h' : s.quiet.mtr.alive = true := h
  have hw' : decide (4000 ≤ s.quiet.mtr.winN) = true := decide_eq_true hw
  exact congrArg Host.Outcome.next (if_pos (by rw [h', hw']; rfl))

/-- What a window leaves. -/
theorem window_spec (s : State) (crc : Nat) :
    let t := s.meter fun m => (m.windowState crc).applyCommit
    t.mtr.winN = 0 ∧ t.mtr.e0 = 0 ∧ t.mtr.e1 = 0 ∧ t.mtr.romCrc = crc ∧ t.mtr.faulted = s.mtr.disagrees ∧
      ((if crc ≠ romCrc710 then mROMFAULT else s.mtr.compared s.mtr.disagrees) ≠ mUNCAL →
        t.mtr.st = if crc ≠ romCrc710 then mROMFAULT else s.mtr.compared s.mtr.disagrees) := by
  dsimp only
  rw [meter_mtr]
  obtain ⟨h1, h2, h3, h4, h5, h6⟩ := windowState_spec { s.mtr with writes := [] } crc
  obtain ⟨k1, k2, k3, k4, k5, k6⟩ := applyCommit_spec (({ s.mtr with writes := [] } : Mtr).windowState crc)
  rw [k1, k2, k3, k4, k5, h1, h2, h3, h4, h5]
  refine ⟨rfl, rfl, rfl, rfl, rfl, fun h => ?_⟩
  rw [h6] at k6
  exact k6 h

/-! ### Publications -/

/-- The state in which the means of a publication have been formed. -/
def State.meant (s : State) : State :=
  (((s.meterMean s.mtr.sumI s.mtr.msN 125000 16).2.meterMean s.mtr.sumP s.mtr.msN 250000000000 16).2.meterMean s.mtr.sumV
    s.mtr.msN 1000 32).2

theorem meant_mtr (s : State) : s.meant.mtr = s.mtr := by
  unfold State.meant
  rw [meterMean_mtr, meterMean_mtr, meterMean_mtr]

theorem meant_emit (s : State) : s.meant.emit = s.emit := by
  unfold State.meant
  rw [meterMean_emit, meterMean_emit, meterMean_emit]

/-- The ten words of the publication are driven. -/
def State.publishes (s : State) : State :=
  (s.drive (.publish (s.mtr.words ++ [crc32 (wordsLE s.mtr.words)]))).setMtr fun m => { m with gapLeft := m.gapLeft - 1 }

theorem exec_meterPublish (h : s.mtr.alive = true) (hn : 4 ≤ s.mtr.msN) : ∃ i p v, exec .meterPublish s = .next
    (s.quiet.meant.meter fun m =>
      { m with meanI := i, meanP := p, meanV := v, sumI := 0, sumP := 0, sumV := 0, msN := 0, mtime := m.mtime + 1,
               pseq := (s.mtr.pseq + 1) % 2 ^ 32, held := (((s.mtr.pseq + 1) % 2 ^ 32, m.eIn) :: m.held).take 256 }).publishes := by
  have h' : s.quiet.mtr.alive = true := h
  have hn' : decide (4 ≤ s.quiet.mtr.msN) = true := decide_eq_true hn
  exact ⟨(s.quiet.meterMean s.mtr.sumI s.mtr.msN 125000 16).1,
    ((s.quiet.meterMean s.mtr.sumI s.mtr.msN 125000 16).2.meterMean s.mtr.sumP s.mtr.msN 250000000000 16).1,
    (((s.quiet.meterMean s.mtr.sumI s.mtr.msN 125000 16).2.meterMean s.mtr.sumP s.mtr.msN 250000000000 16).2.meterMean
      s.mtr.sumV s.mtr.msN 1000 32).1, congrArg Host.Outcome.next (if_pos (by rw [h', hn']; rfl))⟩

/-! ### Checkpoints -/

theorem exec_meterCheckpoint (h : s.mtr.alive = true) (hp : s.mtr.pfw = false) (hs : s.mtr.samples % 400 = 0)
    (hn : s.mtr.ckN ≠ 0) : exec .meterCheckpoint s = .next (s.quiet.meter fun m => m.checkpoint false) := by
  have h' : s.quiet.mtr.alive = true := h
  have hp' : s.quiet.mtr.pfw = false := hp
  have hs' : (s.quiet.mtr.samples % 400 == 0) = true := beq_iff_eq.2 hs
  have hn' : (s.quiet.mtr.ckN != 0) = true := bne_iff_ne.2 hn
  exact congrArg Host.Outcome.next (if_pos (by rw [h', hp', hs', hn']; rfl))

/-- A checkpoint captured inside the window is written at once. -/
theorem checkpoint_open {m : Mtr} (h : m.window = true) (pfw : Bool) : ∃ j w,
    m.checkpoint pfw = { m with cseq := (m.cseq + 1) % 2 ^ 32, ckP := 0, ckN := 0, journal := j, writes := w,
                                ckLast := 1 - m.ckLast, captured := none } ∧
      j.bytes (slotBase (1 - m.ckLast) + 16) = sealRecord (m.record ((m.cseq + 1) % 2 ^ 32) pfw).dieBytes ∧
      (∀ q < 16, j.bytes (slotBase (1 - m.ckLast) + q) = sealRecord ((m.record ((m.cseq + 1) % 2 ^ 32) pfw).partBytes q)) ∧
      ∀ r, (r < slotBase (1 - m.ckLast) ∨ slotBase (1 - m.ckLast) + 16 < r) → j.bytes r = m.journal.bytes r := by
  obtain ⟨j, w, he, hdie, hpart, hrest⟩ := writeSlot_eq { m with cseq := (m.cseq + 1) % 2 ^ 32, ckP := 0, ckN := 0 }
    (m.record ((m.cseq + 1) % 2 ^ 32) pfw)
  refine ⟨j, w, ?_, hdie, hpart, hrest⟩
  unfold Mtr.checkpoint
  dsimp only
  rw [if_pos h, he]

/-- One captured outside the window waits. -/
theorem checkpoint_shut {m : Mtr} (h : m.window = false) (pfw : Bool) : m.checkpoint pfw =
    { m with cseq := (m.cseq + 1) % 2 ^ 32, ckP := 0, ckN := 0, captured := some (m.record ((m.cseq + 1) % 2 ^ 32) pfw) } :=
  if_neg (ne_true_of_eq_false h)

end Sys2Proof.Machine

namespace Sys2Proof

open Sys2Proof.Machine

/-- Settles O48, command by command. -/
theorem meterMeasures : Obligations.MeterMeasures := by
  unfold Obligations.MeterMeasures
  refine ⟨?_, ?_, ?_, ?_, ?_, ?_, ?_⟩
  · intro m s ha
    refine ⟨_, exec_meterSample m ha, ?_⟩
    dsimp only
    rw [meter_mtr, sampled_mtr]
    obtain ⟨h1, h2, h3⟩ := sample_spec { s.quiet.mtr with writes := [] } (s.mtr.cal.volts 0 m.v0) (s.quiet.meterAmps 0 m.i0).1
      (s.mtr.cal.volts 1 m.v1) ((s.quiet.meterAmps 0 m.i0).2.meterAmps 1 m.i1).1 m.temp
    refine ⟨h1, h2, fun h8 => ?_⟩
    rw [h3, meterAmps_amps (s := s.quiet) h8, meterAmps_amps (s := s.quiet) h8]
    rfl
  · intro crc s ha hw
    obtain ⟨h1, h2, h3, h4, h5, h6⟩ := window_spec s.quiet crc
    refine ⟨_, exec_meterWindow crc ha hw, h1, h2, h3, h4, ?_, fun hc => ?_⟩
    · rw [h5]
      exact decide_eq_true_iff
    · rw [if_pos hc] at h6
      exact h6 (by decide)
  · intro crc s hst hw hd hc
    have ha : s.mtr.alive = true := by rw [Mtr.alive, hst]; rfl
    obtain ⟨-, -, -, -, -, h6⟩ := window_spec s.quiet crc
    have hk : s.quiet.mtr.compared s.quiet.mtr.disagrees = mFAULT := (if_pos hd).trans (if_pos hst)
    rw [if_neg (not_not.2 hc), hk] at h6
    exact ⟨_, exec_meterWindow crc ha hw, h6 (by decide)⟩
  · intro crc s hst hw hd hg hc
    have ha : s.mtr.alive = true := by rw [Mtr.alive, hst]; rfl
    obtain ⟨-, -, -, -, -, h6⟩ := window_spec s.quiet crc
    have hk : s.quiet.mtr.compared s.quiet.mtr.disagrees = mRUN :=
      (if_neg (ne_true_of_eq_false hd)).trans (if_pos ⟨hst, Nat.succ_le_succ hg⟩)
    rw [if_neg (not_not.2 hc), hk] at h6
    exact ⟨_, exec_meterWindow crc ha hw, h6 (by decide)⟩
  · intro s ha hn
    obtain ⟨i, p, v, he⟩ := exec_meterPublish ha hn
    refine ⟨_, he, ?_⟩
    rw [meter_of_no_writes _ _ rfl]
    have hm : s.quiet.meant.mtr = s.mtr := meant_mtr _
    have hemit : s.quiet.meant.emit = [] := meant_emit _
    refine ⟨rfl, ?_, rfl, _, (congrArg (· ++ _) hemit), rfl, rfl, ?_, ?_, rfl⟩
    · change s.quiet.meant.mtr.mtime + 1 = _
      rw [hm]
    · change s.quiet.meant.mtr.eIn % 2 ^ 32 + s.quiet.meant.mtr.eIn / 2 ^ 32 * 2 ^ 32 = _
      rw [hm, Nat.mod_add_div']
    · change s.quiet.meant.mtr.serial = _
      rw [hm]
  · intro s ha hp hs hn hw
    refine ⟨_, exec_meterCheckpoint ha hp hs hn, ?_⟩
    dsimp only
    rw [meter_mtr]
    obtain ⟨j, w, he, hdie, hpart, hrest⟩ := checkpoint_open (m := { s.quiet.mtr with writes := [] }) hw false
    rw [he]
    exact ⟨rfl, rfl, rfl, hrest, _, rfl, rfl, rfl, rfl, hdie, hpart⟩
  · intro s ha hp hs hn hw
    refine ⟨_, exec_meterCheckpoint ha hp hs hn, ?_⟩
    dsimp only
    rw [meter_mtr, checkpoint_shut (m := { s.quiet.mtr with writes := [] }) hw]
    exact ⟨rfl, rfl⟩

end Sys2Proof
end
section
/-! PROOF. Power and seal of the meter (O49). -/

namespace Sys2Proof.Machine

variable {s t : State}

/-! ### Power-up -/

/-- What the meter that is `m` when its power rises finds in its journal. -/
def Mtr.wakes (m : Mtr) (ty : Nat) : Mtr :=
  match m.journal.header with
  | none => m
  | some h =>
    if h ≠ m.serial then { m with breaks := min (m.breaks + 1) 0xFFFFFFFF }
    else match m.journal.restore with
      | none => m.event ty
      | some (c, tail) =>
        if m.journal.cal.isSome = true then { (m.restored c).gap c tail with st := mRUN } else (m.restored c).gap c tail

/-- A ROM that fails its check at power-up is a fault. -/
def Mtr.romAtStart (m : Mtr) (crc : Nat) : Mtr :=
  if crc = romCrc710 then m else { m with st := mROMFAULT }.event eROMFAULT

theorem exec_meterPowerUp (crc : Nat) (h : s.mtr.alive = false) : ∃ (pseq ty : Nat) (u : State), u.mtr = s.mtr ∧
    exec (.meterPowerUp crc none) s = .next
      (u.meter fun _ => ((Mtr.started s.mtr.journal s.mtr.serial pseq crc).wakes ty).romAtStart crc) := by
  have h' : ¬ s.quiet.mtr.alive = true := ne_true_of_eq_false h
  exact ⟨(s.quiet.takeFree 32).1, ((s.quiet.takeFree 32).2.takeFree 32).1, ((s.quiet.takeFree 32).2.takeFree 32).2, rfl,
    congrArg Host.Outcome.next (if_neg h')⟩

theorem romAtStart_good (m : Mtr) : m.romAtStart 0x3C7A1E95 = m := rfl

theorem romAtStart_spec (m : Mtr) (crc : Nat) : (m.romAtStart crc).romCrc = m.romCrc ∧
    (m.romAtStart crc).st = if crc = 0x3C7A1E95 then m.st else mROMFAULT := by
  unfold Mtr.romAtStart
  split
  · exact ⟨rfl, rfl⟩
  · obtain ⟨j, w, r, q, he⟩ := event_eq { m with st := mROMFAULT } eROMFAULT 0 0 0
    rw [he]
    exact ⟨rfl, rfl⟩

theorem wakes_without_header {m : Mtr} (h : m.journal.header = none) (ty : Nat) : m.wakes ty = m := by
  rw [Mtr.wakes, h]

theorem wakes_elsewhere {m : Mtr} {k : Nat} (h : m.journal.header = some k) (hk : k ≠ m.serial) (ty : Nat) :
    m.wakes ty = { m with breaks := min (m.breaks + 1) 0xFFFFFFFF } := by
  rw [Mtr.wakes, h]
  exact if_pos hk

theorem wakes_restored {m : Mtr} {c : Ckpt} {tail : Bool} (h : m.journal.header = some m.serial)
    (hr : m.journal.restore = some (c, tail)) (hc : m.journal.cal.isSome = true) (ty : Nat) :
    m.wakes ty = { (m.restored c).gap c tail with st := mRUN } := by
  rw [Mtr.wakes, h, hr]
  exact (if_neg (not_not.2 rfl)).trans (if_pos hc)

/-- The gap before a restored state is journaled unless the state was complete. -/
theorem gap_spec (m : Mtr) (c : Ckpt) (tail : Bool) (hg : m.gapLeft = 0) : (m.gap c tail).acc = m.acc ∧
    (m.gap c tail).mtime = m.mtime ∧ (m.gap c tail).cseq = m.cseq ∧ (m.gap c tail).unatt = m.unatt ∧
    ((m.gap c tail).gapLeft ≠ 0 ↔ c.pfw = false ∧ tail = false) := by
  unfold Mtr.gap
  by_cases h : (c.pfw || tail) = true
  · rw [if_pos h]
    refine ⟨rfl, rfl, rfl, rfl, fun k => absurd hg k, fun ⟨k1, k2⟩ => ?_⟩
    rw [k1, k2] at h
    cases h
  · rw [if_neg h]
    obtain ⟨j, w, r, q, he⟩ := event_eq m eGAP 400000000 (25000 * c.pMean) (b2n m.journal.inhibited)
    rw [he]
    rw [Bool.not_eq_true, Bool.or_eq_false_iff] at h
    exact ⟨rfl, rfl, rfl, rfl, fun _ => h, fun _ => Nat.succ_ne_zero 999⟩

/-! ### Seal and window -/

/-- An event inside the window is written at once. -/
theorem event_open {m : Mtr} (h : m.window = true) (ty d0 d1 d2 : Nat) : m.event ty d0 d1 d2 = m.writeEvent
    { type := ty, mtime := m.mtime, cseq := m.cseq, data0 := d0, data1 := d1, data2 := d2 } := if_pos h

theorem exec_inhibitEntry (h : s.mtr.alive = true) (hw : s.mtr.window = true) (ht : s.mtr.temp < 16 ∨ 1344 < s.mtr.temp) :
    exec .inhibitEntry s = .next (s.quiet.meter fun m => { m.event eINHENTRY with window := false }) := by
  have h' : s.quiet.mtr.alive = true := h
  have hw' : s.quiet.mtr.window = true := hw
  have ht' : (decide (s.quiet.mtr.temp < 16) || decide (1344 < s.quiet.mtr.temp)) = true := by
    rw [Bool.or_eq_true, decide_eq_true_iff, decide_eq_true_iff]
    exact ht
  exact congrArg Host.Outcome.next (if_pos (by rw [h', hw', ht']; rfl))

/-- The window opens: the event, then what waited for it. -/
def Mtr.opens (m : Mtr) : Mtr :=
  let m := { m with window := true }.event eINHEXIT
  let m := match m.initDue with
    | some t => m.initJournal t
    | none => m
  let m := match m.captured with
    | some c => { m.writeSlot c with captured := none }
    | none => m
  let m := { m.waiting.foldl Mtr.writeEvent m with waiting := [] }
  if m.calDue then m.writeCal (m.commit.getD m.cal) else m

theorem exec_inhibitExit (h : s.mtr.alive = true) (hw : s.mtr.window = false) (hl : 32 ≤ s.mtr.temp)
    (hu : s.mtr.temp ≤ 1328) : exec .inhibitExit s = .next (s.quiet.meter Mtr.opens) := by
  have h' : s.quiet.mtr.alive = true := h
  have hw' : s.quiet.mtr.window = false := hw
  have hl' : decide (32 ≤ s.quiet.mtr.temp) = true := decide_eq_true hl
  have hu' : decide (s.quiet.mtr.temp ≤ 1328) = true := decide_eq_true hu
  exact congrArg Host.Outcome.next (if_pos (by rw [h', hw', hl', hu']; rfl))

theorem opens_spec (m : Mtr) : m.opens.window = true ∧ m.opens.waiting = [] ∧ m.opens.captured = none := by
  unfold Mtr.opens
  extract_lets a b c src d
  have ha : a.window = true := by
    obtain ⟨j, w, r, q, he⟩ := event_eq { m with window := true } eINHEXIT 0 0 0
    exact congrArg Mtr.window he
  have hb : b.window = true := by
    unfold b
    split
    · obtain ⟨j, w, he⟩ := initJournal_eq a ‹_›
      rw [he]
      exact ha
    · exact ha
  have hc : c.window = true ∧ c.captured = none := by
    unfold c
    split
    · obtain ⟨j, w, he, -⟩ := writeSlot_eq b ‹_›
      rw [he]
      exact ⟨hb, rfl⟩
    · exact ⟨hb, ‹_›⟩
  have hd : d.window = true ∧ d.waiting = [] ∧ d.captured = none := by
    obtain ⟨j, w, r, he⟩ := writeEvents_eq c c.waiting
    exact ⟨(congrArg Mtr.window he).trans hc.1, rfl, (congrArg Mtr.captured he).trans hc.2⟩
  split
  · obtain ⟨j, w, he⟩ := writeCal_eq d (d.commit.getD d.cal)
    rw [he]
    exact hd
  · exact hd

end Sys2Proof.Machine

namespace Sys2Proof

open Sys2Proof.Machine

/-- Settles O49, command by command. -/
theorem meterPowerAndSeal : Obligations.MeterPowerAndSeal := by
  unfold Obligations.MeterPowerAndSeal
  refine ⟨?_, ?_, ?_, ?_, ?_, ?_, ?_, ?_, ?_, ?_, ?_⟩
  · intro s ha hp
    have ha' : s.quiet.mtr.alive = true := ha
    have hp' : s.quiet.mtr.pfw = false := hp
    refine ⟨_, congrArg Host.Outcome.next (if_pos (by rw [ha', hp']; rfl)), ?_⟩
    dsimp only
    rw [meter_mtr]
    exact ⟨rfl, rfl⟩
  · intro s
    refine ⟨_, rfl, ?_⟩
    dsimp only
    rw [meter_mtr]
    exact ⟨rfl, rfl⟩
  · intro s ha
    exact ⟨_, congrArg Host.Outcome.next (if_pos ha), rfl, rfl, rfl⟩
  · intro k n r old new s ha hw hk
    subst hk
    refine ⟨_, congrArg Host.Outcome.next (if_pos ha), rfl, rfl, ?_⟩
    have ht : s.mtr.torn 0 n = (s.mtr.journal.put r old).put r (new.take n ++ old.drop n) := by
      unfold Mtr.torn
      rw [hw]
      rfl
    change (s.mtr.torn 0 n).bytes r = _ ∧ ∀ q, q ≠ r → (s.mtr.torn 0 n).bytes q = _
    rw [ht]
    refine ⟨Journal.bytes_put_same .., fun q hq => ?_⟩
    rw [Journal.bytes_put_ne _ _ (Ne.symm hq), Journal.bytes_put_ne _ _ (Ne.symm hq)]
  · intro crc s ha hh
    obtain ⟨pseq, ty, u, -, he⟩ := exec_meterPowerUp crc ha
    refine ⟨_, he, ?_⟩
    dsimp only
    rw [meter_mtr, wakes_without_header (m := Mtr.started s.mtr.journal s.mtr.serial pseq crc) hh ty]
    exact romAtStart_spec _ crc
  · intro h s ha hh hs
    obtain ⟨pseq, ty, u, -, he⟩ := exec_meterPowerUp 0x3C7A1E95 ha
    refine ⟨_, he, ?_⟩
    dsimp only
    rw [meter_mtr, romAtStart_good,
      wakes_elsewhere (m := Mtr.started s.mtr.journal s.mtr.serial pseq 0x3C7A1E95) hh hs ty]
    exact ⟨rfl, rfl⟩
  · intro c tail s ha hh hr hc
    obtain ⟨pseq, ty, u, -, he⟩ := exec_meterPowerUp 0x3C7A1E95 ha
    refine ⟨_, he, ?_⟩
    dsimp only
    rw [meter_mtr, romAtStart_good,
      wakes_restored (m := Mtr.started s.mtr.journal s.mtr.serial pseq 0x3C7A1E95) hh hr hc ty]
    exact ⟨rfl, gap_spec ((Mtr.started s.mtr.journal s.mtr.serial pseq 0x3C7A1E95).restored c) c tail rfl⟩
  · intro s ha ho
    have ha' : s.quiet.mtr.alive = true := ha
    have ho' : s.quiet.mtr.sealOpen = false := ho
    refine ⟨_, congrArg Host.Outcome.next (if_pos (by rw [ha', ho']; rfl)), ?_⟩
    dsimp only
    rw [meter_mtr]
    obtain ⟨j, w, r, q, he⟩ := event_eq { s.mtr with
      writes := [], breaks := min (s.mtr.breaks + 1) 0xFFFFFFFF, sealOpen := true } eSEALBREAK 0 0 0
    exact ⟨congrArg Mtr.sealOpen he, congrArg Mtr.breaks he⟩
  · intro s
    refine ⟨_, rfl, ?_⟩
    dsimp only
    rw [meter_mtr]
    exact ⟨rfl, rfl⟩
  · intro s ha hw ht
    refine ⟨_, exec_inhibitEntry ha hw ht, ?_⟩
    dsimp only
    rw [meter_mtr, event_open (m := { s.quiet.mtr with writes := [] }) hw]
    refine ⟨rfl, rfl, { type := 7, mtime := s.mtr.mtime, cseq := s.mtr.cseq, seq := s.mtr.ringNext }, rfl, rfl, rfl, ?_⟩
    exact Journal.bytes_put_same ..
  · intro s ha hw hl hu
    refine ⟨_, exec_inhibitExit ha hw hl hu, ?_⟩
    dsimp only
    rw [meter_mtr]
    exact opens_spec _

end Sys2Proof
end
section
/-! PROOF. Share records and the meter mirror (O50). -/

namespace Sys2Proof.Machine

variable {s t : State}

/-! ### The class-3 event -/

/-- The share record formed in a state whose mirror knows the boot `boot`, before its CRC. -/
def State.shareBody (s : State) (boot : Nat) : ShareRec :=
    { boot := boot, ckseq := s.mir.ckseq, tick := s.tick, pseqLast := s.rd MTR_PSEQ.PSEQ,
      dDie := (s.rd EM_EDIE.EDIE + 2 ^ 64 - s.mir.eDie) % 2 ^ 64, dIn := (s.rd EM_EIN.EIN + 2 ^ 64 - s.mir.eIn) % 2 ^ 64,
      dUnatt := (s.rd EM_UNATT.UNATT + 2 ^ 64 - s.mir.eUnatt) % 2 ^ 64,
      dPart := (List.range 32).map fun p => (s.rd EM_PART_E.ENERGY p + 2 ^ 64 - Table.get 0 s.mir.ePart p) % 2 ^ 64,
      breach := (List.range 32).map fun p => Table.get {} s.bg.breach p }

/-- The share record formed in a state whose mirror knows the boot `boot`. -/
def State.shareRec (s : State) (boot : Nat) : ShareRec := (s.shareBody boot).sealed

/-- A record given a CRC is as it was else, and what the CRC is formed of does not change. -/
theorem crc_fields (r : ShareRec) (c : Nat) : ({ r with crc := c } : ShareRec).boot = r.boot ∧
    ({ r with crc := c } : ShareRec).ckseq = r.ckseq ∧ ({ r with crc := c } : ShareRec).tick = r.tick ∧
    ({ r with crc := c } : ShareRec).crc = c ∧ ({ r with crc := c } : ShareRec).crcOf = r.crcOf ∧
    ({ r with crc := c } : ShareRec).dDie = r.dDie := ⟨rfl, rfl, rfl, rfl, rfl, rfl⟩

theorem sealed_spec (r : ShareRec) : r.sealed.boot = r.boot ∧ r.sealed.ckseq = r.ckseq ∧ r.sealed.tick = r.tick ∧
    r.sealed.crc = r.sealed.crcOf ∧ r.sealed.dDie = r.dDie := by
  have h : r.sealed.boot = r.boot ∧ r.sealed.ckseq = r.ckseq ∧ r.sealed.tick = r.tick ∧ r.sealed.crc = r.crcOf ∧
    r.sealed.crcOf = r.crcOf ∧ r.sealed.dDie = r.dDie := crc_fields r r.crcOf
  obtain ⟨h1, h2, h3, h4, h5, h6⟩ := h
  exact ⟨h1, h2, h3, h4.trans h5.symm, h6⟩

theorem shareRec_spec (s : State) (b : Nat) : (s.shareRec b).boot = b ∧ (s.shareRec b).ckseq = s.mir.ckseq ∧
    (s.shareRec b).tick = s.tick ∧ (s.shareRec b).crc = (s.shareRec b).crcOf ∧
    (s.shareRec b).dDie = (s.rd EM_EDIE.EDIE + 2 ^ 64 - s.mir.eDie) % 2 ^ 64 := by
  obtain ⟨h1, h2, h3, h4, h5⟩ := sealed_spec (s.shareBody b)
  unfold State.shareRec
  rw [h1, h2, h3, h5]
  exact ⟨rfl, rfl, rfl, h4, rfl⟩

/-- The buffer keeps the newest four records. -/
def pushRec (l : List ShareRec) (r : ShareRec) : List ShareRec := (l ++ [r]).drop (l.length + 1 - 4)

theorem pushRec_length (l : List ShareRec) (r : ShareRec) : (pushRec l r).length ≤ 4 := by
  rw [pushRec, List.length_drop, List.length_append, List.length_singleton]
  omega

theorem pushRec_getLast (l : List ShareRec) (r : ShareRec) : (pushRec l r).getLast? = some r := by
  rw [pushRec, List.drop_append_of_le_length (by omega), List.getLast?_append, List.getLast?_singleton]
  rfl

/-- The record is buffered and the counters of the next one begin. -/
def State.shareTaken (s : State) (boot : Nat) : State :=
  (s.setMir fun m => { m with
    ckseq := (m.ckseq + 1) % 2 ^ 16, buffer := pushRec m.buffer (s.shareRec boot),
    eDie := s.rd EM_EDIE.EDIE, eIn := s.rd EM_EIN.EIN, eUnatt := s.rd EM_UNATT.UNATT,
    ePart := ((List.range 32).map fun p => (p, s.rd EM_PART_E.ENERGY p)).foldl (fun t e => Table.set 0 t e.1 e.2) [] }).setBg
    fun b => { b with breach := [] }

theorem unqueue_mir (s : State) (e : QEvent) : (s.unqueue e).mir = s.mir := by
  unfold State.unqueue
  dsimp only
  split
  · rw [raise_mir, inc_mir]
    rfl
  · rfl

theorem exec_shareCheckpoint {e : QEvent} {b : Nat} (he : firstDue s.cad.queue = some e) (ha : e.act = .share)
    (hs : s.mir.shown = true) (hb : s.mir.boot = some b) :
    exec .shareCheckpoint s = .next ((s.quiet.unqueue e).shareTaken b) := by
  have he' : firstDue s.quiet.cad.queue = some e := he
  have hm : (s.quiet.unqueue e).mir = s.mir := unqueue_mir s.quiet e
  change execShareCheckpoint s = _
  unfold execShareCheckpoint
  dsimp only
  rw [takeEvent_of_firstDue (s := s.quiet) he' (by rw [ha])]
  dsimp only
  rw [hm, hs, if_pos rfl, hb, ← hm]
  rfl

/-! ### The meter's side -/

/-- The record `r` has been handled: it is the last one, and its result is journaled. -/
def Mtr.closes (m : Mtr) (r : ShareRec) : Mtr :=
  let m := { m with ckseqLast := r.ckseq, bootLast := r.boot }
  if m.shrRes = 2 then m.event eSHARETOL r.ckseq else if m.shrRes = 3 then m.event eSHAREUNATT r.ckseq else m

theorem handle_eq (m : Mtr) (r : ShareRec) : ∃ x : Mtr, m.handle r = x.closes r := ⟨_, rfl⟩

theorem closes_spec (m : Mtr) (r : ShareRec) : (m.closes r).ckseqLast = r.ckseq ∧ (m.closes r).bootLast = r.boot := by
  unfold Mtr.closes
  dsimp only
  split
  · obtain ⟨j, w, k, q, he⟩ := event_eq { m with ckseqLast := r.ckseq, bootLast := r.boot } eSHARETOL r.ckseq 0 0
    rw [he]
    exact ⟨rfl, rfl⟩
  · split
    · obtain ⟨j, w, k, q, he⟩ := event_eq { m with ckseqLast := r.ckseq, bootLast := r.boot } eSHAREUNATT r.ckseq 0 0
      rw [he]
      exact ⟨rfl, rfl⟩
    · exact ⟨rfl, rfl⟩

theorem exec_shareRecord {r : ShareRec} (ha : s.mtr.alive = true) (hf : s.mir.buffer.find? s.mtr.newRecord = some r)
    (hc : r.crc = r.crcOf) : exec .shareRecord s = .next (s.quiet.meter fun m => m.handle r) := by
  have hf' : s.quiet.mir.buffer.find? s.quiet.mtr.newRecord = some r := hf
  have ha' : s.quiet.mtr.alive = true := ha
  change execShareRecord s = _
  unfold execShareRecord
  dsimp only
  rw [ha', if_pos rfl, hf']
  dsimp only
  rw [if_pos hc]

/-! ### The mirror -/

/-- `n` publications have gone since the last one: those between are missing. -/
def State.skips (s : State) (n : Nat) : State :=
  if 1 < n then s.wr MTR_MISS.MISSING 0 (s.rd MTR_MISS.MISSING + (n - 1)) else s

theorem skips_tick (s : State) (n : Nat) : (s.skips n).tick = s.tick := by
  unfold State.skips
  split <;> rfl

/-- A good publication is kept for the next boundary. -/
theorem exec_publication_good {ws : List Nat} (hl : ws.length = 10) (hc : at0 ws 9 = crc32 (wordsLE (ws.take 9))) :
    ∃ n, exec (.publication ws) s = .next ((s.quiet.skips n).setMir fun m => { m with
      next := some ws, lastGood := some (s.quiet.skips n).tick, missed := 0, lost := m.lost || decide (1 < n),
      boot := some (m.boot.getD (at0 ws 0)) }) :=
  ⟨_, congrArg Host.Outcome.next (if_pos ⟨hl, hc⟩)⟩

end Sys2Proof.Machine

namespace Sys2Proof

open Sys2Proof.Machine

/-- Settles O50, command by command. -/
theorem sharesAndMirror : Obligations.SharesAndMirror := by
  unfold Obligations.SharesAndMirror
  refine ⟨?_, ?_, ?_, ?_, ?_, ?_⟩
  · intro e b s he ha hs hb
    have hm : (s.quiet.unqueue e).mir = s.mir := unqueue_mir s.quiet e
    have htick : (s.quiet.unqueue e).tick = s.tick := unqueue_tick s.quiet e
    have hrd : (s.quiet.unqueue e).rd EM_EDIE.EDIE = s.rd EM_EDIE.EDIE := unqueue_rd (s := s.quiet) (by decide)
    obtain ⟨h1, h2, h3, h4, h5⟩ := shareRec_spec (s.quiet.unqueue e) b
    rw [hm] at h2
    rw [htick] at h3
    rw [hm, hrd] at h5
    refine ⟨_, exec_shareCheckpoint he ha hs hb, ?_, pushRec_length _ _, rfl, _, pushRec_getLast _ _, h1, h2, h3, h4, h5⟩
    change ((s.quiet.unqueue e).mir.ckseq + 1) % 2 ^ 16 = _
    rw [hm]
  · intro r s ha hf hc
    refine ⟨_, exec_shareRecord ha hf hc, ?_⟩
    dsimp only
    rw [meter_mtr]
    obtain ⟨x, hx⟩ := handle_eq { s.quiet.mtr with writes := [] } r
    rw [hx]
    exact closes_spec x r
  · intro r s hf hc
    have hf' : s.quiet.mir.buffer.find? s.quiet.mtr.newRecord = some r := hf
    refine ⟨s.quiet, congrArg Host.Outcome.next ?_, rfl⟩
    rw [hf']
    dsimp only
    rw [if_neg hc, ite_self]
  · intro ws s hl hc
    obtain ⟨n, he⟩ := exec_publication_good (s := s) hl hc
    exact ⟨_, he, rfl, congrArg some (skips_tick s.quiet n), rfl⟩
  · intro ws s h
    refine ⟨_, congrArg Host.Outcome.next (if_neg fun k => ?_), inc_mir .., rd_inc_same ..⟩
    rcases h with h | h
    · exact h k.1
    · exact h k.2
  · intro s h
    refine ⟨_, congrArg Host.Outcome.next (if_pos h), ?_, rd_raise_st _ .MTR_MISSING _ _ (by decide), ?_⟩
    · rw [rd_raise_all (by decide), setMir_rd, rd_wr_same]
      rfl
    · rw [rd_raise_all (by decide), setMir_rd, rd_wr_off (by decide), rd_inc_same]
      rfl

end Sys2Proof
end
section
/-! PROOF. The meter port: a counterexample to O51. -/

namespace Sys2Proof.Machine

/-- The header of a CAL_WRITE packet of two parameters. -/
def calHdr : Nat := 0xA8 * 2 ^ 24 + 3 * 2 ^ 20 + 2 * 2 ^ 16

/-- CAL_WRITE of item 0, the voltage gain of pair 0, with a gain of exactly 1. -/
def unitGainBytes : List Nat := meterFrame [calHdr, 0, 2 ^ 30]

/-- A meter that runs with its seal open. -/
def openMeter : State := State.reset.setMtr fun m => { m with st := 2, sealOpen := true }

theorem unitGain_packet : PortPacket openMeter unitGainBytes 0xA8 calHdr [0, 2 ^ 30] := by decide +kernel

/-- A gain of 1 is what an unwritten item holds, so the table of items does not list it. -/
theorem unitGain_unlisted : (match exec (.calWrite (some unitGainBytes)) openMeter with
    | .next t => Table.get 0 t.mtr.staged.items 0
    | _ => 1) = 0 := by decide +kernel

end Sys2Proof.Machine

namespace Sys2Proof

open Sys2Proof.Machine

/-- Refutes O51: CAL_WRITE of a gain of 1 (2^30, the value an unwritten gain item holds) leaves the item out of the sparse
table, where the statement's reading with 0 for an unlisted item finds 0 and not the value written. -/
theorem not_meterPort : ¬ Obligations.MeterPort := by
  unfold Obligations.MeterPort
  intro h
  obtain ⟨-, -, -, -, -, -, -, hcal, -⟩ := h
  obtain ⟨t, he, -, hget, -⟩ := hcal unitGainBytes [0, 2 ^ 30] calHdr openMeter unitGain_packet (by decide +kernel) (by decide)
  have hzero := unitGain_unlisted
  rw [he] at hzero
  exact absurd (hzero.symm.trans hget) (by decide)

end Sys2Proof
end
section
/-! PROOF. Writes at the configuration port: which register an offset names, what Table 15.1 lets through, and what a read in
the same hub cycle leaves alone. -/

namespace Sys2Proof.Machine

variable {s t : State}

/-! ### The register at an offset -/

theorem findIn_eq {off r : Nat} {hi : Bool} {d : RegDesc} (l : List RegDesc) (k : Nat) (hk : l[k]? = some d)
    (hpre : ((l.take k).all fun e => (e.hit off).isNone) = true) (hd : d.hit off = some (r, hi)) :
    findIn off l = some (d, r, hi) := by
  induction l generalizing k with
  | nil => simp at hk
  | cons e l ih =>
    cases k with
    | zero =>
      obtain rfl : e = d := by simpa using hk
      rw [findIn, hd]
    | succ k =>
      rw [List.take_succ_cons, List.all_cons, Bool.and_eq_true, Option.isNone_iff_eq_none] at hpre
      rw [findIn, hpre.1]
      exact ih k (by simpa using hk) hpre.2

/-- The register at place `k` of the map is found where none before it is. -/
theorem findReg_eq {off r : Nat} {hi : Bool} {d : RegDesc} (k : Nat) (hk : regMap[k]? = some d)
    (hpre : ((regMap.take k).all fun e => (e.hit off).isNone) = true) (hd : d.hit off = some (r, hi)) :
    findReg off = some (d, r, hi) := findIn_eq regMap k hk hpre hd

theorem findIn_mem {off r : Nat} {hi : Bool} {d : RegDesc} {l : List RegDesc} (h : findIn off l = some (d, r, hi)) :
    d ∈ l ∧ d.hit off = some (r, hi) := by
  induction l with
  | nil => simp [findIn] at h
  | cons e l ih =>
    rw [findIn] at h
    cases he : e.hit off with
    | none =>
      rw [he] at h
      obtain ⟨hm, hh⟩ := ih h
      exact ⟨List.mem_cons_of_mem _ hm, hh⟩
    | some q =>
      rw [he] at h
      obtain ⟨rfl, rfl⟩ : e = d ∧ q = (r, hi) := by simpa using h
      exact ⟨List.mem_cons_self, he⟩

/-- What every register of the map meets, the register found meets. -/
theorem findReg_all {off r : Nat} {hi : Bool} {d : RegDesc} (h : findReg off = some (d, r, hi)) {p : RegDesc → Bool}
    (hp : regMap.all p = true) : p d = true :=
  List.all_eq_true.1 hp d (findIn_mem h).1

/-! ### Accesses that are let through -/

/-- A secure access with full strobes to a register outside the windows is let through. -/
theorem accessCause_secure {a : Access} {w : Bool} {off r : Nat} {hi : Bool} {d : RegDesc} (ha : Secure a)
    (hf : findReg off = some (d, r, hi)) (ho : (off % 4 = 0 ∧ off < 0x30000))
    (hw : d.sec ≠ .window ∨ s.bit PWIN_EN.EN (windowOf off) = true) : s.accessCause (accOf a) w off = none := by
  obtain ⟨hns, hst⟩ := ha
  obtain ⟨h4, hlt⟩ := ho
  have h1 : ¬ (off % 4 != 0) = true := by simp [h4]
  have h2 : ¬ inAperture off = true := by
    unfold inAperture
    rw [decide_eq_true_iff]
    omega
  have h3 : ¬ (decide (d.sec = .window) && !s.bit PWIN_EN.EN (windowOf off)) = true := by
    rcases hw with h | h
    · simp [h]
    · simp [h]
  have h4 : ¬ (a.ns && s.secured d r off) = true := by simp [hns]
  have h5 : ¬ (w && a.strb != 0 && a.strb != 15 && d.off != 0x1000) = true := by simp [hst]
  unfold State.accessCause
  rw [if_neg h1, if_neg h2, hf]
  exact (if_neg h3).trans ((if_neg h4).trans (if_neg h5))

/-- A read in the hub cycle of a write; `held` says that ACCESS_ERR stood before the write. -/
def State.readToo (s : State) (a : Access) (held : Bool) : State :=
  match a.also with
  | some o => s.sameCycleRead a held o
  | none => s

theorem readToo_none {a : Access} (h : a.also = none) (held : Bool) : s.readToo a held = s := by
  rw [State.readToo, h]

/-- A write that is let through and strobes a byte. -/
theorem axiWrite_passed {a : Access} {off : Nat} (v : Nat) (hc : s.accessCause (accOf a) true off = none) (hs : a.strb ≠ 0) :
    s.axiWrite a off v = ((s.writeWord (accOf a) off (v % 2 ^ 32)).drive (.busWrite true)).readToo a (s.on GSTAT.ACCESS_ERR) := by
  unfold State.axiWrite State.busWrite State.readToo
  rw [hc]
  dsimp only
  rw [if_neg (show ¬ (accOf a).strb = 0 from hs)] <;> rfl

/-- One that is refused. -/
theorem axiWrite_refused {a : Access} {off c : Nat} (v : Nat) (hc : s.accessCause (accOf a) true off = some c) :
    s.axiWrite a off v = ((s.accessError (accOf a) true off c).drive (.busWrite false)).readToo a (s.on GSTAT.ACCESS_ERR) := by
  unfold State.axiWrite State.busWrite State.readToo
  rw [hc] <;> rfl

/-- One without a strobe writes nothing. -/
theorem axiWrite_unstrobed {a : Access} {off : Nat} (v : Nat) (hc : s.accessCause (accOf a) true off = none) (hs : a.strb = 0) :
    s.axiWrite a off v = (s.drive (.busWrite true)).readToo a (s.on GSTAT.ACCESS_ERR) := by
  unfold State.axiWrite State.busWrite State.readToo
  rw [hc]
  dsimp only
  rw [if_pos (show (accOf a).strb = 0 from hs)] <;> rfl

/-- A secure write with full strobes of a register outside the windows. -/
theorem axiWrite_secure {a : Access} {off r : Nat} {hi : Bool} {d : RegDesc} (v : Nat) (ha : Secure a)
    (hf : findReg off = some (d, r, hi)) (ho : off % 4 = 0 ∧ off < 0x30000)
    (hw : d.sec ≠ .window ∨ s.bit PWIN_EN.EN (windowOf off) = true) : s.axiWrite a off v =
      ((s.writeWord (accOf a) off (v % 2 ^ 32)).drive (.busWrite true)).readToo a (s.on GSTAT.ACCESS_ERR) :=
  axiWrite_passed v (accessCause_secure ha hf ho hw) (by rw [ha.2]; decide)

/-! ### What a read in the same hub cycle leaves -/

/-- The fields that a read at the port writes. -/
def busReadFields : List Fld := [GSTAT.SNAP_STALE, SNT_IDX.IDX] ++ refusalFields

theorem kept_readToo {W : Bounds} {u : State} (h : Kept W u) {a : Access} (held : Bool) (hb : W.part .bus) (he : W.part .emit)
    (hF : ∀ F ∈ busReadFields, W.fld F) : Kept W (u.readToo a held) := by
  unfold State.readToo
  split
  · exact kept_sameCycleRead h hb he (hF _ (by simp [busReadFields, refusalFields]))
      (hF _ (by simp [busReadFields, refusalFields])) (hF _ (by simp [busReadFields, refusalFields]))
      (hF _ (by simp [busReadFields, refusalFields])) (hF _ (by simp [busReadFields, refusalFields]))
      (hF _ (by simp [busReadFields, refusalFields])) (hF _ (by simp [busReadFields, refusalFields]))
      (hF _ (by simp [busReadFields, refusalFields])) (hF _ (by simp [busReadFields])) (hF _ (by simp [busReadFields]))
  · exact h

theorem readToo_guard (s : State) (a : Access) (held : Bool) (ps : List Region) (Gs : List Fld)
    (hps : (ps.contains .bus || ps.contains .emit) = false)
    (hGs : (busReadFields.all fun F => Gs.all fun G => G.off F) = true) : Kept (.guard s ps Gs) (s.readToo a held) := by
  rw [Bool.or_eq_false_iff] at hps
  exact kept_readToo (kept_guard s ps Gs) held hps.1 hps.2 fun F hF => List.all_eq_true.1 hGs F hF

@[simp] theorem readToo_locks (s : State) (a : Access) (held : Bool) : (s.readToo a held).locks = s.locks :=
  (readToo_guard s a held [] [] rfl rfl).locks

@[simp] theorem readToo_tick (s : State) (a : Access) (held : Bool) : (s.readToo a held).tick = s.tick :=
  (readToo_guard s a held [] [] rfl rfl).tick

theorem readToo_rd (s : State) (a : Access) (held : Bool) {F : Fld} (h : busReadFields.all F.off = true) (i : Nat) :
    (s.readToo a held).rd F i = s.rd F i :=
  (readToo_guard s a held [] [F] rfl (by
    rw [List.all_eq_true] at h ⊢
    exact fun G hG => by simpa using h G hG)).guarded (by simp) i

theorem readToo_part (s : State) (a : Access) (held : Bool) (q : Region)
    (h : ([q].contains .bus || [q].contains .emit) = false) : q.same s (s.readToo a held) :=
  (readToo_guard s a held [q] [] h rfl).spared q (by simp)

end Sys2Proof.Machine
end
section
/-! PROOF. The registers that have commands of their own: where they lie, and what a write of each does. -/

namespace Sys2Proof.Machine

/- Every `decide +kernel` waits for the kernel; elaborated one after another, the proofs hold less memory while they wait. -/
set_option Elab.async false

variable {s t : State}

/-! ### Where they lie -/

/-- No offset from `lo` to `hi` names an instance of the register. -/
def RegDesc.clear (d : RegDesc) (lo hi : Nat) : Bool :=
  decide (hi < d.off) || decide (d.off + max 8 (d.stride * d.count) ≤ lo)

theorem hit_of_clear {d : RegDesc} {lo hi off : Nat} (h : d.clear lo hi = true) (hl : lo ≤ off) (hu : off ≤ hi) :
    d.hit off = none := by
  rw [RegDesc.clear, Bool.or_eq_true, decide_eq_true_iff, decide_eq_true_iff] at h
  unfold RegDesc.hit
  dsimp only
  by_cases hlt : off < d.off
  · rw [if_pos hlt]
  · rw [if_neg hlt]
    have hge : d.off + max 8 (d.stride * d.count) ≤ off := by omega
    by_cases h0 : d.stride = 0
    · rw [if_pos h0, h0, Nat.zero_mul, Nat.sub_zero]
      refine if_neg fun hc => ?_
      rw [Bool.and_eq_true, decide_eq_true_iff, decide_eq_true_iff] at hc
      obtain ⟨-, hc⟩ := hc
      split at hc <;> omega
    · rw [if_neg h0]
      refine if_neg fun hc => ?_
      rw [Bool.and_eq_true, decide_eq_true_iff, decide_eq_true_iff, Nat.div_lt_iff_lt_mul (Nat.pos_of_ne_zero h0)] at hc
      have hm : d.count * d.stride = d.stride * d.count := Nat.mul_comm ..
      omega

theorem all_isNone_of_clear {l : List RegDesc} {lo hi off : Nat} (h : (l.all fun d => d.clear lo hi) = true)
    (hl : lo ≤ off) (hu : off ≤ hi) : (l.all fun e => (e.hit off).isNone) = true := by
  rw [List.all_eq_true] at h ⊢
  intro d hd
  rw [hit_of_clear (h d hd) hl hu]
  rfl

/-- A register of the map by its place: what its writes need to know of it. -/
theorem findReg_mbCtl {n : Nat} (hn : n < 16) : ∃ d, findReg (0x103C + 64 * n) = some (d, n, false) ∧ d.off = 0x103C ∧
    d.sec = .mailbox := by
  have h : ∀ n < 16, ((regMap.take 242).all fun e => (e.hit (0x103C + 64 * n)).isNone) = true := by decide +kernel
  have hd : ∀ n < 16, RegDesc.hit ⟨0x103C, 64, 16, .mailbox, .word, []⟩ (0x103C + 64 * n) = some (n, false) := by
    decide +kernel
  exact ⟨_, findReg_eq 242 rfl (h n hn) (hd n hn), rfl, rfl⟩

theorem findReg_perm {n : Nat} (hn : n < 256) : ∃ d, findReg (0xD000 + 4 * n) = some (d, n, false) ∧ d.off = 0xD000 ∧
    d.sec = .open := by
  have h : ((regMap.take 218).all fun e => e.clear 0xD000 0xD3FF) = true := by decide +kernel
  have hd : ∀ n < 256, RegDesc.hit ⟨0xD000, 4, 256, .open, .word, []⟩ (0xD000 + 4 * n) = some (n, false) := by
    decide +kernel
  exact ⟨_, findReg_eq 218 rfl (all_isNone_of_clear h (by omega) (by omega)) (hd n hn), rfl, rfl⟩

theorem findReg_ringCfg {r : Nat} (hr : r < 15) : ∃ d, findReg (0x1800 + 64 * r) = some (d, r, false) ∧ d.off = 0x1800 ∧
    d.sec = .sec := by
  have h : ∀ r < 15, ((regMap.take 235).all fun e => (e.hit (0x1800 + 64 * r)).isNone) = true := by decide +kernel
  have hd : ∀ r < 15, RegDesc.hit ⟨0x1800, 64, 15, .sec, .word, []⟩ (0x1800 + 64 * r) = some (r, false) := by decide +kernel
  exact ⟨_, findReg_eq 235 rfl (h r hr) (hd r hr), rfl, rfl⟩

theorem findReg_ringSq {r : Nat} (hr : r < 15) : ∃ d, findReg (0x1814 + 64 * r) = some (d, r, false) ∧ d.off = 0x1814 ∧
    d.sec = .ring := by
  have h : ∀ r < 15, ((regMap.take 238).all fun e => (e.hit (0x1814 + 64 * r)).isNone) = true := by decide +kernel
  have hd : ∀ r < 15, RegDesc.hit ⟨0x1814, 64, 15, .ring, .word, []⟩ (0x1814 + 64 * r) = some (r, false) := by decide +kernel
  exact ⟨_, findReg_eq 238 rfl (h r hr) (hd r hr), rfl, rfl⟩

theorem findReg_ringCq {r : Nat} (hr : r < 15) : ∃ d, findReg (0x1818 + 64 * r) = some (d, r, false) ∧ d.off = 0x1818 ∧
    d.sec = .ring := by
  have h : ∀ r < 15, ((regMap.take 239).all fun e => (e.hit (0x1818 + 64 * r)).isNone) = true := by decide +kernel
  have hd : ∀ r < 15, RegDesc.hit ⟨0x1818, 64, 15, .ring, .word, []⟩ (0x1818 + 64 * r) = some (r, false) := by decide +kernel
  exact ⟨_, findReg_eq 239 rfl (h r hr) (hd r hr), rfl, rfl⟩

theorem findReg_pwCtrl {p : Nat} (hp : p < 32) : ∃ d, findReg (0x10004 + 0x1000 * p) = some (d, p, false) ∧ d.off = 0x10004 ∧
    d.sec = .window := by
  have h : ∀ p < 32, ((regMap.take 245).all fun e => (e.hit (0x10004 + 0x1000 * p)).isNone) = true := by decide +kernel
  have hd : ∀ p < 32, RegDesc.hit ⟨0x10004, 4096, 32, .window, .word, []⟩ (0x10004 + 0x1000 * p) = some (p, false) := by
    decide +kernel
  exact ⟨_, findReg_eq 245 rfl (h p hp) (hd p hp), rfl, rfl⟩

theorem findReg_LOCK0 : ∃ d, findReg 0x110 = some (d, 0, false) ∧ d.off = 0x110 ∧ d.sec = .sec :=
  ⟨_, findReg_eq 216 rfl (by decide +kernel) rfl, rfl, rfl⟩

theorem findReg_LOCK1 : ∃ d, findReg 0x114 = some (d, 0, false) ∧ d.off = 0x114 ∧ d.sec = .sec :=
  ⟨_, findReg_eq 217 rfl (by decide +kernel) rfl, rfl, rfl⟩

theorem findReg_TRANSPORT : ∃ d, findReg 0x118 = some (d, 0, false) ∧ d.off = 0x118 ∧ d.sec = .sec :=
  ⟨_, findReg_eq 225 rfl (by decide +kernel) rfl, rfl, rfl⟩

theorem findReg_RC_HB : ∃ d, findReg 0xB018 = some (d, 0, false) ∧ d.off = 0xB018 ∧ d.sec = .open :=
  ⟨_, findReg_eq 193 rfl (by decide +kernel) rfl, rfl, rfl⟩

theorem findReg_HS_CTRL : ∃ d, findReg 0xC100 = some (d, 0, false) ∧ d.off = 0xC100 ∧ d.sec = .sec :=
  ⟨_, findReg_eq 280 rfl (by decide +kernel) rfl, rfl, rfl⟩

/-! ### What a write of each does -/

theorem writeWord_mbCtl {n : Nat} (hn : n < 16) (b : BusAcc) (v : Nat) :
    s.writeWord b (0x103C + 64 * n) v = s.mbCtlWrite n v := by
  obtain ⟨d, hf, ho, -⟩ := findReg_mbCtl hn
  simp only [State.writeWord, hf, ho, if_true]

theorem writeWord_ringCfg {r : Nat} (hr : r < 15) (b : BusAcc) (v : Nat) :
    s.writeWord b (0x1800 + 64 * r) v = s.ringCfgWrite r v := by
  obtain ⟨d, hf, ho, -⟩ := findReg_ringCfg hr
  simp [State.writeWord, hf, ho]

theorem writeWord_ringSq {r : Nat} (hr : r < 15) (b : BusAcc) (v : Nat) :
    s.writeWord b (0x1814 + 64 * r) v = s.sqTailWrite r (bits 31 16 v) := by
  obtain ⟨d, hf, ho, -⟩ := findReg_ringSq hr
  simp [State.writeWord, hf, ho]

theorem writeWord_ringCq {r : Nat} (hr : r < 15) (b : BusAcc) (v : Nat) :
    s.writeWord b (0x1818 + 64 * r) v = s.cqHeadWrite r (bits 31 16 v) := by
  obtain ⟨d, hf, ho, -⟩ := findReg_ringCq hr
  simp [State.writeWord, hf, ho]

theorem writeWord_LOCK0 (b : BusAcc) (v : Nat) : s.writeWord b 0x110 v = s.setLocks { cfg := v.testBit 0 } := by
  obtain ⟨d, hf, ho, -⟩ := findReg_LOCK0
  simp [State.writeWord, hf, ho]

theorem writeWord_LOCK1 (b : BusAcc) (v : Nat) : s.writeWord b 0x114 v = s.setLocks (lock1Of v) := by
  obtain ⟨d, hf, ho, -⟩ := findReg_LOCK1
  simp [State.writeWord, hf, ho]

theorem writeWord_TRANSPORT (b : BusAcc) (v : Nat) : s.writeWord b 0x118 v =
    if s.locks.transport = true then s.wr GSTAT.LOCK_IGN 0 1
    else if v % 4 = 1 ∨ v % 4 = 2 then s.wr TRANSPORT.MODE 0 v else s := by
  obtain ⟨d, hf, ho, -⟩ := findReg_TRANSPORT
  simp [State.writeWord, hf, ho]

theorem writeWord_perm {n : Nat} (hn : n < 256) (b : BusAcc) (v : Nat) :
    s.writeWord b (0xD000 + 4 * n) v = s.permWrite b.ns n v := by
  obtain ⟨d, hf, ho, -⟩ := findReg_perm hn
  simp [State.writeWord, hf, ho]

theorem writeWord_RC_HB (b : BusAcc) (v : Nat) :
    s.writeWord b 0xB018 v = s.heartbeat (v / 2 ^ 16 % 2 ^ RC_HB.COUNT.width) := by
  obtain ⟨d, hf, ho, -⟩ := findReg_RC_HB
  simp [State.writeWord, hf, ho]

theorem writeWord_HS_CTRL (b : BusAcc) (v : Nat) : s.writeWord b 0xC100 v = s.hsCtrl v := by
  obtain ⟨d, hf, ho, -⟩ := findReg_HS_CTRL
  simp [State.writeWord, hf, ho]

theorem writeWord_pwCtrl {p : Nat} (hp : p < 32) (b : BusAcc) (v : Nat) : s.writeWord b (0x10004 + 0x1000 * p) v =
    if (!v.testBit 31) = true then s
    else if s.on PW_STAT.PEND p = true then s.wr GSTAT.GO_BUSY 0 1
    else (s.wr PW_CTRL.SNAP p 1).wr PW_STAT.PEND p 1 := by
  obtain ⟨d, hf, ho, -⟩ := findReg_pwCtrl hp
  simp [State.writeWord, hf, ho]

end Sys2Proof.Machine
end
section
/-! PROOF. Mailboxes, rings and the transport mode written through the port (O52). -/

namespace Sys2Proof.Machine

/- Every `decide +kernel` waits for the kernel; elaborated one after another, the proofs hold less memory while they wait. -/
set_option Elab.async false

variable {s t u : State} {a : Access}

/-! ### The parts of the bus that reads leave alone -/

/-- Only the shadows of read pairs differ. -/
def ShadowsOnly (s t : State) : Prop := ∃ x, t.bus = { s.bus with shadows := x }

theorem ShadowsOnly.refl (s : State) : ShadowsOnly s s := ⟨_, rfl⟩

theorem ShadowsOnly.of_bus (h : t.bus = s.bus) : ShadowsOnly s t := ⟨s.bus.shadows, h⟩

theorem ShadowsOnly.trans (h : ShadowsOnly s t) (k : ShadowsOnly t u) : ShadowsOnly s u := by
  obtain ⟨x, hx⟩ := h
  obtain ⟨y, hy⟩ := k
  exact ⟨y, by rw [hy, hx]⟩

theorem snapRead_bus (s : State) (key id : Nat) (hi : Bool) (v : Nat) : ShadowsOnly s (s.snapRead key id hi v).2 := by
  unfold State.snapRead
  dsimp only
  split
  · split
    · exact ⟨_, rfl⟩
    · exact .of_bus (wr_bus ..)
  · exact ⟨_, rfl⟩

theorem sntAdvance_bus (s : State) (n : Nat) : (s.sntAdvance n).bus = s.bus := by
  unfold State.sntAdvance
  split
  · rw [wr_bus]
  · rfl

theorem readWord_bus (s : State) (a : BusAcc) (off : Nat) : ShadowsOnly s (s.readWord a off).2 := by
  unfold State.readWord
  split
  · split
    · exact .refl s
    · split
      · exact .refl s
      · dsimp only
        split
        · exact .refl s
        · exact .refl s
        · exact snapRead_bus ..
        · exact snapRead_bus ..
  · split
    · exact .refl s
    · split
      · exact .of_bus (sntAdvance_bus ..)
      · dsimp only
        split
        · exact snapRead_bus ..
        · exact .refl s

theorem accessError_bus (s : State) (a : BusAcc) (w : Bool) (off c : Nat) : (s.accessError a w off c).bus = s.bus :=
  (kept_accessError (kept_guard s [.bus] []) rfl rfl rfl rfl rfl rfl rfl rfl).spared .bus rfl

theorem busRead_bus (s : State) (a : BusAcc) (off : Nat) : ShadowsOnly s (s.busRead a off).2.2 := by
  unfold State.busRead
  split
  · exact .of_bus (accessError_bus ..)
  · exact readWord_bus ..

theorem axiRead_eq (s : State) (a : Access) (off : Nat) : s.axiRead a off =
    (s.busRead (accOf a) off).2.2.drive (.busRead (s.busRead (accOf a) off).1 (s.busRead (accOf a) off).2.1) := rfl

theorem axiRead_bus (s : State) (a : Access) (off : Nat) : ShadowsOnly s (s.axiRead a off) := by
  rw [axiRead_eq]
  exact busRead_bus s (accOf a) off

theorem readToo_bus (s : State) (a : Access) (held : Bool) : ShadowsOnly s (s.readToo a held) := by
  unfold State.readToo
  split
  · unfold State.sameCycleRead
    dsimp only
    split
    · exact (ShadowsOnly.of_bus (wr_bus ..)).trans (axiRead_bus ..)
    · exact axiRead_bus ..
  · exact .refl s

/-! ### A command of one write -/

/-- What a command of one write leaves, seen through its answer and a read in the same hub cycle. -/
def State.written (s u : State) (a : Access) : State := (u.drive (.busWrite true)).readToo a (s.on GSTAT.ACCESS_ERR)

theorem written_rd (s u : State) (a : Access) {F : Fld} (h : busReadFields.all F.off = true) (i : Nat) :
    (s.written u a).rd F i = u.rd F i := (readToo_rd _ a _ h i).trans (drive_rd ..)

/-- The exact form of `written_rd`: the bit address itself lies outside what a read writes. -/
theorem written_rd_key (s u : State) (a : Access) {F : Fld} {i : Nat}
    (h : (busReadFields.all fun G => G.misses (F.key i)) = true) : (s.written u a).rd F i = u.rd F i :=
  ((kept_readToo (W := .spare (u.drive (.busWrite true)) [] [F.key i]) (kept_spare _ _ _) _ rfl rfl fun G hG => by
    have hG' := List.all_eq_true.1 h G hG
    exact List.all_eq_true.2 fun a ha => by rwa [List.mem_singleton.1 ha]).spared_key List.mem_cons_self).trans (drive_rd ..)

theorem cqTail_misses : ∀ r < 15, (busReadFields.all fun G => G.misses (RING_CQ.TAIL.key r)) = true := by decide +kernel

theorem mbData_misses : ∀ j < 256, (busReadFields.all fun G => G.misses (MB_D.DATA.key j)) = true := by decide +kernel

theorem written_locks (s u : State) (a : Access) : (s.written u a).locks = u.locks := readToo_locks ..

theorem written_emit (s u : State) (ha : a.also = none) (hu : u.emit = []) : (s.written u a).emit = [.busWrite true] := by
  rw [State.written, readToo_none ha]
  exact congrArg (· ++ _) hu

theorem written_none (s u : State) (ha : a.also = none) : s.written u a = u.drive (.busWrite true) := readToo_none ha _

theorem written_bus (s u : State) (a : Access) : ShadowsOnly u (s.written u a) :=
  ShadowsOnly.trans (t := u.drive (.busWrite true)) (.of_bus rfl) (readToo_bus _ a _)

theorem written_mbReplies (s u : State) (a : Access) (n : Nat) : (s.written u a).mbReplies n = u.mbReplies n := by
  obtain ⟨x, hx⟩ := written_bus s u a
  unfold State.mbReplies
  rw [hx]

theorem written_ringOut (s u : State) (a : Access) (n : Nat) : (s.written u a).ringOut n = u.ringOut n := by
  obtain ⟨x, hx⟩ := written_bus s u a
  unfold State.ringOut
  rw [hx]

theorem axiWrite_written {off r : Nat} {hi : Bool} {d : RegDesc} (v : Nat) (ha : Secure a)
    (hf : findReg off = some (d, r, hi)) (ho : off % 4 = 0 ∧ off < 0x30000) (hw : d.sec ≠ .window) :
    s.axiWrite a off v = s.written (s.writeWord (accOf a) off (v % 2 ^ 32)) a :=
  axiWrite_secure v ha hf ho (.inl hw)

theorem exec_go {n : Nat} (hn : n < 16) (ha : Secure a) :
    exec (.go n a) s = .next (s.quiet.written (s.quiet.mbCtlWrite n (2 ^ 31)) a) := by
  obtain ⟨d, hf, -, hs⟩ := findReg_mbCtl hn
  refine congrArg Host.Outcome.next ((if_neg (by omega)).trans ?_)
  rw [axiWrite_written _ ha hf (by omega) (by rw [hs]; decide), writeWord_mbCtl hn]
  rfl

theorem exec_fetch {n : Nat} (hn : n < 16) (ha : Secure a) :
    exec (.fetch n a) s = .next (s.quiet.written (s.quiet.mbCtlWrite n (2 ^ 30)) a) := by
  obtain ⟨d, hf, -, hs⟩ := findReg_mbCtl hn
  refine congrArg Host.Outcome.next ((if_neg (by omega)).trans ?_)
  rw [axiWrite_written _ ha hf (by omega) (by rw [hs]; decide), writeWord_mbCtl hn]
  rfl

theorem exec_sqTailWrite {r v : Nat} (hr : r < 15) (ha : Secure a) :
    exec (.sqTailWrite r v a) s = .next (s.quiet.written (s.quiet.sqTailWrite r (v % 65536)) a) := by
  obtain ⟨d, hf, -, hs⟩ := findReg_ringSq hr
  refine congrArg Host.Outcome.next ((if_neg (by omega)).trans ?_)
  have hv : bits 31 16 (v % 65536 * 65536 % 2 ^ 32) = v % 65536 := by
    unfold bits
    omega
  rw [axiWrite_written _ ha hf (by omega) (by rw [hs]; decide), writeWord_ringSq hr, hv]

theorem exec_cqHeadWrite {r v : Nat} (hr : r < 15) (ha : Secure a) :
    exec (.cqHeadWrite r v a) s = .next (s.quiet.written (s.quiet.cqHeadWrite r (v % 65536)) a) := by
  obtain ⟨d, hf, -, hs⟩ := findReg_ringCq hr
  refine congrArg Host.Outcome.next ((if_neg (by omega)).trans ?_)
  have hv : bits 31 16 (v % 65536 * 65536 % 2 ^ 32) = v % 65536 := by
    unfold bits
    omega
  rw [axiWrite_written _ ha hf (by omega) (by rw [hs]; decide), writeWord_ringCq hr, hv]

theorem exec_ringEnable {r v : Nat} (hr : r < 15) (ha : Secure a) : exec (.ringEnable r v a) s =
    .next (s.quiet.written (s.quiet.ringCfgWrite r (v % 2 ^ 31 + 2 ^ 31)) a) := by
  obtain ⟨d, hf, -, hs⟩ := findReg_ringCfg hr
  refine congrArg Host.Outcome.next ((if_neg (by omega)).trans ?_)
  rw [axiWrite_written _ ha hf (by omega) (by rw [hs]; decide), writeWord_ringCfg hr,
    Nat.mod_eq_of_lt (show v % 2 ^ 31 + 2 ^ 31 < 2 ^ 32 by omega)]

theorem exec_ringDisable {r v : Nat} (hr : r < 15) (ha : Secure a) : exec (.ringDisable r v a) s =
    .next (s.quiet.written (s.quiet.ringCfgWrite r (v % 2 ^ 31)) a) := by
  obtain ⟨d, hf, -, hs⟩ := findReg_ringCfg hr
  refine congrArg Host.Outcome.next ((if_neg (by omega)).trans ?_)
  rw [axiWrite_written _ ha hf (by omega) (by rw [hs]; decide), writeWord_ringCfg hr,
    Nat.mod_eq_of_lt (show v % 2 ^ 31 < 2 ^ 32 by omega)]

theorem exec_transportMode (v : Nat) (ha : Secure a) : exec (.transportMode v a) s =
    .next (s.quiet.written (if s.locks.transport = true then s.quiet.wr GSTAT.LOCK_IGN 0 1
      else if v % 4 = 1 ∨ v % 4 = 2 then s.quiet.wr TRANSPORT.MODE 0 (v % 2 ^ 32) else s.quiet) a) := by
  obtain ⟨d, hf, -, hs⟩ := findReg_TRANSPORT
  refine congrArg Host.Outcome.next ?_
  rw [axiWrite_written _ ha hf (by decide) (by rw [hs]; decide), writeWord_TRANSPORT]
  have hv : v % 2 ^ 32 % 4 = v % 4 := by omega
  rw [hv]
  rfl

/-! ### Mailboxes -/

theorem mbCtlWrite_go_inactive {n : Nat} (h : s.rd MB_CTL.ACTIVE n ≠ 1) :
    s.mbCtlWrite n (2 ^ 31) = s.wr MB_CTL.WIGN n 1 := by
  have ha : s.on MB_CTL.ACTIVE n = false := Bool.eq_false_iff.2 fun k => h (on_iff.1 k)
  have ha' : (s.wr MB_CTL.WIGN n 1).on MB_CTL.ACTIVE n = false := by
    rw [← ha]
    unfold State.on
    rw [rd_wr_off (by decide)]
  have h31 : (2 ^ 31).testBit 31 = true := by decide
  have h30 : (2 ^ 31).testBit 30 = false := by decide
  have h28 : (2 ^ 31).testBit 28 = false := by decide
  have h27 : (2 ^ 31).testBit 27 = false := by decide
  unfold State.mbCtlWrite
  simp only [h31, h30, h28, h27, ha, ha', Bool.not_false, Bool.and_false, Bool.or_false, Bool.and_true, Bool.false_eq_true,
    if_true, if_false, Bool.not_true, ite_self]

theorem mbCtlWrite_go {n : Nat} (h : s.rd MB_CTL.ACTIVE n = 1) : s.mbCtlWrite n (2 ^ 31) =
    if (s.on MB_CTL.GO n || s.on MB_CTL.FETCH n) = true then s.wr MB_CTL.BUSY n 1
    else (s.wr MB_CTL.GO n 1).wr MB_CTL.RDY n 0 := by
  have ha : s.on MB_CTL.ACTIVE n = true := on_iff.2 h
  have h31 : (2 ^ 31).testBit 31 = true := by decide
  have h30 : (2 ^ 31).testBit 30 = false := by decide
  have h28 : (2 ^ 31).testBit 28 = false := by decide
  have h27 : (2 ^ 31).testBit 27 = false := by decide
  unfold State.mbCtlWrite
  simp only [h31, h30, h28, h27, ha, Bool.not_true, Bool.and_false, Bool.true_and, Bool.or_false, Bool.false_and,
    Bool.false_eq_true, if_true, if_false]

theorem mbCtlWrite_fetch (s : State) (n : Nat) : s.mbCtlWrite n (2 ^ 30) =
    if (s.on MB_CTL.GO n || s.on MB_CTL.FETCH n) = true then s.wr MB_CTL.BUSY n 1 else s.mbFetch n := by
  have h31 : (2 ^ 30).testBit 31 = false := by decide
  have h30 : (2 ^ 30).testBit 30 = true := by decide
  have h28 : (2 ^ 30).testBit 28 = false := by decide
  have h27 : (2 ^ 30).testBit 27 = false := by decide
  unfold State.mbCtlWrite
  simp only [h31, h30, h28, h27, Bool.not_true, Bool.and_false, Bool.or_true, Bool.false_and, Bool.false_eq_true, if_true,
    if_false]

/-- A request stands at the mailbox. -/
theorem mb_busy {n : Nat} (h : s.rd MB_CTL.GO n = 1 ∨ s.rd MB_CTL.FETCH n = 1) :
    (s.on MB_CTL.GO n || s.on MB_CTL.FETCH n) = true := by
  rw [Bool.or_eq_true, on_iff, on_iff]
  exact h

theorem mb_free {n : Nat} (h : s.rd MB_CTL.GO n ≠ 1) (k : s.rd MB_CTL.FETCH n ≠ 1) :
    ¬ (s.on MB_CTL.GO n || s.on MB_CTL.FETCH n) = true := by
  rw [Bool.or_eq_true, on_iff, on_iff]
  exact fun hk => hk.elim h k

/-- After writes of `n` instances from `b` on, each of them holds its value. -/
theorem rd_upTo_wr_from {F : Fld} (hs : 0 < F.stride) (b : Nat) (v : Nat → Nat) (s : State) {n k : Nat} (hk : k < n) :
    (upTo n (fun k s => s.wr F (b + k) (v k)) s).rd F (b + k) = v k % 2 ^ F.width := by
  induction n with
  | zero => exact absurd hk (Nat.not_lt_zero k)
  | succ n ih =>
    show (State.wr _ F (b + n) (v n)).rd F (b + k) = _
    by_cases e : k = n
    · subst e
      exact rd_wr_same ..
    · rw [rd_wr_other hs (by omega)]
      exact ih (by omega)

/-- The words of a reply are in the data registers. -/
def State.mbData (s : State) (n : Nat) (ws : List Nat) : State :=
  upTo 15 (fun i s => s.wr MB_D.DATA (16 * n + i) (at0 ws i)) s

theorem mbData_rd (s : State) (n : Nat) (ws : List Nat) {i : Nat} (hi : i < 15) :
    (s.mbData n ws).rd MB_D.DATA (16 * n + i) = at0 ws i % 2 ^ 32 := by
  unfold State.mbData
  exact rd_upTo_wr_from (by decide) (16 * n) (at0 ws) s hi

theorem mbFetch_cons {n : Nat} {r : Reply} {q : List Reply} (h : s.mbReplies n = r :: q) : s.mbFetch n =
    (((s.wr MB_CTL.RDY n 0).mbData n (r.hdr :: r.words)).setMbReplies n q).wr MB_CTL.RDY n 1 := by
  unfold State.mbFetch
  have h' : (s.wr MB_CTL.RDY n 0).mbReplies n = r :: q := (congrArg (fun b : Bus => Table.get [] b.mbReplies n) (wr_bus ..)).trans h
  dsimp only
  rw [h']
  rfl

theorem mbFetch_nil {n : Nat} (h : s.mbReplies n = []) : s.mbFetch n = s.wr MB_CTL.RDY n 0 := by
  unfold State.mbFetch
  have h' : (s.wr MB_CTL.RDY n 0).mbReplies n = [] := (congrArg (fun b : Bus => Table.get [] b.mbReplies n) (wr_bus ..)).trans h
  dsimp only
  rw [h']

/-! ### Rings -/

/-- The pair's configuration as written. -/
def State.ringSet (s : State) (r w : Nat) : State :=
  (((s.wrB RING_CFG.SEC r (w.testBit 30)).wrB RING_CFG.TELEM r (w.testBit 29)).wr RING_CFG.DB r (bits 22 20 w)).wr
    RING_CFG.LOG2SZ r (max 3 (min 12 (bits 19 16 w)))

/-- The pair starts empty. -/
def State.ringCleared (s : State) (r : Nat) : State :=
  (((((s.wr RING_SQ.TAIL r 0).wr RING_SQ.HEAD r 0).wr RING_CQ.HEAD r 0).wr RING_CQ.TAIL r 0).wr RING_STAT.OWED r 0).wr
    RING_CFG.EN r 1

theorem ringCfgWrite_enable {r w : Nat} (h : s.rd RING_CFG.EN r ≠ 1) (hw : w.testBit 31 = true) :
    s.ringCfgWrite r w = ((s.ringSet r w).ringCleared r).setPort (ringInst r) fun _ => {} :=
  (if_neg fun k => h (on_iff.1 k)).trans (if_pos hw)

theorem ringCfgWrite_disable {r w : Nat} (h : s.rd RING_CFG.EN r = 1) (hw : w.testBit 31 = false) :
    s.ringCfgWrite r w = (s.wr RING_STAT.CFG_ERR r 1).ringStop r :=
  (if_pos (on_iff.2 h)).trans (if_neg (ne_true_of_eq_false hw))

theorem ringSet_LOG2SZ (s : State) (r w : Nat) : (s.ringSet r w).rd RING_CFG.LOG2SZ r = max 3 (min 12 (bits 19 16 w)) := by
  rw [State.ringSet, rd_wr_same]
  exact Nat.mod_eq_of_lt (by change _ < 16; omega)

theorem ringSet_SEC (s : State) (r w : Nat) : (s.ringSet r w).rd RING_CFG.SEC r = w / 2 ^ 30 % 2 := by
  rw [State.ringSet, rd_wr_off (by decide), rd_wr_off (by decide), State.wrB, rd_wr_off (by decide), State.wrB, rd_wr_same,
    Nat.testBit_eq_decide_div_mod_eq]
  have h2 : w / 2 ^ 30 % 2 < 2 := Nat.mod_lt _ (by decide)
  generalize w / 2 ^ 30 % 2 = b at h2
  interval_cases b <;> rfl

theorem ringCleared_spec (s : State) (r : Nat) : (s.ringCleared r).rd RING_CFG.EN r = 1 ∧
    (s.ringCleared r).rd RING_SQ.TAIL r = 0 ∧ (s.ringCleared r).rd RING_SQ.HEAD r = 0 ∧ (s.ringCleared r).rd RING_CQ.TAIL r = 0 ∧
    (s.ringCleared r).rd RING_CQ.HEAD r = 0 ∧ (s.ringCleared r).rd RING_STAT.OWED r = 0 := by
  unfold State.ringCleared
  refine ⟨rd_wr_same .., ?_, ?_, ?_, ?_, ?_⟩
  · rw [rd_wr_off (by decide), rd_wr_off (by decide), rd_wr_off (by decide), rd_wr_off (by decide), rd_wr_off (by decide),
      rd_wr_same, Nat.zero_mod]
  · rw [rd_wr_off (by decide), rd_wr_off (by decide), rd_wr_off (by decide), rd_wr_off (by decide), rd_wr_same, Nat.zero_mod]
  · rw [rd_wr_off (by decide), rd_wr_off (by decide), rd_wr_same, Nat.zero_mod]
  · rw [rd_wr_off (by decide), rd_wr_off (by decide), rd_wr_off (by decide), rd_wr_same, Nat.zero_mod]
  · rw [rd_wr_off (by decide), rd_wr_same, Nat.zero_mod]

theorem ringCleared_rd (s : State) (r : Nat) {F : Fld} (h : ([RING_SQ.TAIL, RING_SQ.HEAD, RING_CQ.HEAD, RING_CQ.TAIL,
    RING_STAT.OWED, RING_CFG.EN].all F.off) = true) : (s.ringCleared r).rd F r = s.rd F r := by
  simp only [List.all_cons, List.all_nil, Bool.and_true, Bool.and_eq_true] at h
  obtain ⟨h1, h2, h3, h4, h5, h6⟩ := h
  rw [State.ringCleared, rd_wr_off h6, rd_wr_off h5, rd_wr_off h4, rd_wr_off h3, rd_wr_off h2, rd_wr_off h1]

/-- A stopped pair: its replies owed are counted as lost. -/
theorem ringStop_spec (s : State) (r : Nat) : (s.ringStop r).rd RING_CFG.EN r = 0 ∧ (s.ringStop r).rd RING_STAT.OWED r = 0 ∧
    (s.ringStop r).ringOut r = [] ∧
    (s.ringStop r).rd RING_CNT.LOST r = (s.rd RING_CNT.LOST r + s.rd RING_STAT.OWED r) % 2 ^ RING_CNT.LOST.width := by
  unfold State.ringStop
  dsimp only
  refine ⟨?_, ?_, ?_, ?_⟩
  · rw [setCmd_rd, State.setRingOut, setBus_rd, rd_wr_off (by decide), rd_wr_off (by decide), rd_wr_same, Nat.zero_mod]
  · rw [setCmd_rd, State.setRingOut, setBus_rd, rd_wr_same, Nat.zero_mod]
  · exact Table.get_set_same (α := List CEntry) [] _ r []
  · rw [setCmd_rd, State.setRingOut, setBus_rd, rd_wr_off (by decide), rd_wr_same]

end Sys2Proof.Machine

namespace Sys2Proof

open Sys2Proof.Machine

/-- Settles O52, by what each register's write does. -/
theorem mailboxAndRingRegisters : Obligations.MailboxAndRingRegisters := by
  unfold Obligations.MailboxAndRingRegisters
  refine ⟨?_, ?_, ?_, ?_, ?_, ?_, ?_, ?_, ?_, ?_, ?_, ?_, ?_, ?_⟩
  · intro n a s hn ha hact hgo hf
    refine ⟨_, exec_go hn ha, ?_⟩
    rw [mbCtlWrite_go (s := s.quiet) hact, if_neg (mb_free (s := s.quiet) hgo hf)]
    refine ⟨?_, ?_, fun hal => written_emit _ _ hal rfl⟩
    · rw [written_rd _ _ _ (by decide), rd_wr_off (by decide), rd_wr_same]
      rfl
    · rw [written_rd _ _ _ (by decide), rd_wr_same]
      rfl
  · intro n a s hn ha hact hb
    refine ⟨_, exec_go hn ha, ?_⟩
    rw [mbCtlWrite_go (s := s.quiet) hact, if_pos (mb_busy (s := s.quiet) hb)]
    refine ⟨?_, ?_⟩
    · rw [written_rd _ _ _ (by decide), rd_wr_off (by decide)]
      rfl
    · rw [written_rd _ _ _ (by decide), rd_wr_same]
      rfl
  · intro n a s hn ha hb
    refine ⟨_, exec_fetch hn ha, ?_⟩
    rw [mbCtlWrite_fetch, if_pos (mb_busy (s := s.quiet) hb)]
    refine ⟨?_, ?_⟩
    · rw [written_mbReplies]
      exact congrArg (fun b => Table.get [] b.mbReplies n) (wr_bus ..)
    · rw [written_rd _ _ _ (by decide), rd_wr_same]
      rfl
  · intro n a s hn ha hact
    refine ⟨_, exec_go hn ha, ?_⟩
    rw [mbCtlWrite_go_inactive (s := s.quiet) hact]
    refine ⟨?_, ?_⟩
    · rw [written_rd _ _ _ (by decide), rd_wr_same]
      rfl
    · rw [written_rd _ _ _ (by decide), rd_wr_off (by decide)]
      rfl
  · intro n r q a s hn ha hgo hf hr
    refine ⟨_, exec_fetch hn ha, ?_⟩
    rw [mbCtlWrite_fetch, if_neg (mb_free (s := s.quiet) hgo hf), mbFetch_cons (s := s.quiet) hr]
    refine ⟨?_, ?_, ?_, fun i hi => ?_⟩
    · rw [written_rd _ _ _ (by decide), rd_wr_same]
      rfl
    · rw [written_mbReplies, State.mbReplies, wr_bus, State.setMbReplies, wr_bus]
      exact Table.get_set_same ..
    · rw [written_rd _ _ _ (by decide), rd_wr_off (by decide), State.setMbReplies, rd_wr_same]
    · rw [written_rd_key _ _ _ (mbData_misses _ (by omega)), rd_wr_off (by decide), State.setMbReplies, rd_wr_off (by decide),
        setBus_rd, mbData_rd _ _ _ hi]
  · intro n a s hn ha hgo hf hr
    refine ⟨_, exec_fetch hn ha, ?_⟩
    rw [mbCtlWrite_fetch, if_neg (mb_free (s := s.quiet) hgo hf), mbFetch_nil (s := s.quiet) hr]
    dsimp only
    rw [written_rd _ _ _ (by decide), rd_wr_same]
    rfl
  · intro r v a s hr ha hv
    have hv' : (v % 65536 + 65536 - s.quiet.rd RING_SQ.TAIL r) % 65536 ≤ s.quiet.ringSize r - s.quiet.sqFill r := hv
    refine ⟨_, exec_sqTailWrite hr ha, ?_⟩
    dsimp only
    rw [State.sqTailWrite, if_pos hv', written_rd _ _ _ (by decide), rd_wr_same]
    exact Nat.mod_mod ..
  · intro r v a s hr ha hv
    have hv' : ¬ (v % 65536 + 65536 - s.quiet.rd RING_SQ.TAIL r) % 65536 ≤ s.quiet.ringSize r - s.quiet.sqFill r :=
      Nat.not_le.2 hv
    refine ⟨_, exec_sqTailWrite hr ha, ?_⟩
    dsimp only
    rw [State.sqTailWrite, if_neg hv', written_rd _ _ _ (by decide), written_rd _ _ _ (by decide), rd_wr_off (by decide),
      rd_wr_same]
    exact ⟨rfl, rfl⟩
  · intro r v a s hr ha hv
    have hv' : (v % 65536 + 65536 - s.quiet.rd RING_CQ.HEAD r) % 65536 ≤ s.quiet.cqFill r := hv
    refine ⟨_, exec_cqHeadWrite hr ha, ?_⟩
    dsimp only
    rw [State.cqHeadWrite, if_pos hv', written_rd _ _ _ (by decide), rd_wr_same]
    exact Nat.mod_mod ..
  · intro r v a s hr ha hv
    have hv' : ¬ (v % 65536 + 65536 - s.quiet.rd RING_CQ.HEAD r) % 65536 ≤ s.quiet.cqFill r := Nat.not_le.2 hv
    refine ⟨_, exec_cqHeadWrite hr ha, ?_⟩
    dsimp only
    rw [State.cqHeadWrite, if_neg hv', written_rd _ _ _ (by decide), written_rd _ _ _ (by decide), rd_wr_off (by decide),
      rd_wr_same]
    exact ⟨rfl, rfl⟩
  · intro r v a s hr ha hen
    have h31 : (v % 2 ^ 31 + 2 ^ 31).testBit 31 = true := by
      rw [Nat.testBit_eq_decide_div_mod_eq, decide_eq_true_iff]
      omega
    refine ⟨_, exec_ringEnable hr ha, ?_⟩
    rw [ringCfgWrite_enable (s := s.quiet) hen h31]
    obtain ⟨h1, h2, h3, h4, h5, h6⟩ := ringCleared_spec (s.quiet.ringSet r (v % 2 ^ 31 + 2 ^ 31)) r
    refine ⟨?_, ?_, ?_, ?_, ?_, ?_, ?_, ?_⟩
    · rw [written_rd _ _ _ (by decide), State.setPort, setCmd_rd, h1]
    · rw [written_rd _ _ _ (by decide), State.setPort, setCmd_rd, h2]
    · rw [written_rd _ _ _ (by decide), State.setPort, setCmd_rd, h3]
    · rw [written_rd_key _ _ _ (cqTail_misses r hr), State.setPort, setCmd_rd, h4]
    · rw [written_rd _ _ _ (by decide), State.setPort, setCmd_rd, h5]
    · rw [written_rd _ _ _ (by decide), State.setPort, setCmd_rd, h6]
    · rw [written_rd _ _ _ (by decide), State.setPort, setCmd_rd, ringCleared_rd _ _ (by decide), ringSet_LOG2SZ]
      have hb : bits 19 16 (v % 2 ^ 31 + 2 ^ 31) = bits 19 16 v := by
        unfold bits
        omega
      rw [hb]
    · rw [written_rd _ _ _ (by decide), State.setPort, setCmd_rd, ringCleared_rd _ _ (by decide), ringSet_SEC]
      omega
  · intro r v a s hr ha hen
    have h31 : (v % 2 ^ 31).testBit 31 = false := Nat.testBit_lt_two_pow (Nat.mod_lt _ (by decide))
    refine ⟨_, exec_ringDisable hr ha, ?_⟩
    rw [ringCfgWrite_disable (s := s.quiet) hen h31]
    obtain ⟨h1, h2, h3, h4⟩ := ringStop_spec (s.quiet.wr RING_STAT.CFG_ERR r 1) r
    rw [rd_wr_off (by decide), rd_wr_off (by decide)] at h4
    rw [written_rd _ _ _ (by decide), written_rd _ _ _ (by decide), written_ringOut, written_rd _ _ _ (by decide)]
    exact ⟨h1, h2, h3, h4⟩
  · intro v a s ha hl hv
    refine ⟨_, exec_transportMode v ha, ?_⟩
    rw [if_neg (ne_true_of_eq_false hl), if_pos hv]
    refine ⟨?_, ?_⟩
    · rw [written_rd_key _ _ _ (by decide), rd_wr_same]
      change v % 2 ^ 32 % 2 ^ 2 = _
      omega
    · rw [written_rd _ _ _ (by decide), rd_wr_off (by decide)]
      rfl
  · intro v a s ha hl
    refine ⟨_, exec_transportMode v ha, ?_⟩
    rw [if_pos hl]
    refine ⟨?_, ?_⟩
    · rw [written_rd_key _ _ _ (by decide), rd_wr_off (by decide)]
      rfl
    · rw [written_rd _ _ _ (by decide), rd_wr_same]
      rfl

end Sys2Proof
end
section
/-! PROOF. Exactly which bits a read at the port writes: SNT_IDX only within the 192 sentinels. -/

namespace Sys2Proof.Machine

/- Every `decide +kernel` waits for the kernel; elaborated one after another, the proofs hold less memory while they wait. -/
set_option Elab.async false

variable {s t u : State}

/-- The register found holds the instance. -/
theorem findReg_lt {off r : Nat} {hi : Bool} {d : RegDesc} (h : findReg off = some (d, r, hi)) : r < d.count := by
  have hh := (findIn_mem h).2
  unfold RegDesc.hit at hh
  dsimp only at hh
  generalize (if d.stride = 0 then 0 else (off - d.off) / d.stride) = q at hh
  generalize (if d.pair = .word then 4 else 8) = w at hh
  split at hh
  · simp at hh
  · split at hh
    · rename_i hc
      rw [Bool.and_eq_true, decide_eq_true_iff] at hc
      obtain ⟨rfl, -⟩ := Prod.mk.inj (Option.some.inj hh)
      exact hc.1
    · simp at hh

theorem sntData_lt {off r : Nat} {hi : Bool} {d : RegDesc} (h : findReg off = some (d, r, hi)) (ho : d.off = 0x240C) : r < 192 := by
  have hc := findReg_all h (p := fun d => d.off != 0x240C || d.count == 192) (by decide +kernel)
  rw [ho] at hc
  have hc' : d.count = 192 := by simpa using hc
  exact hc' ▸ findReg_lt h

/-- A bit address that no read at the port writes. -/
structure ReadSafe (a : Nat) : Prop where
  plain : ((GSTAT.SNAP_STALE :: refusalFields).all fun G => G.misses a) = true
  idx : ∀ r < 192, a ≠ SNT_IDX.IDX.key r

theorem ReadSafe.stale {a : Nat} (h : ReadSafe a) : a ≠ GSTAT.SNAP_STALE.key 0 :=
  Fld.ne_key_of_misses (List.all_eq_true.1 h.plain _ List.mem_cons_self) 0

theorem ReadSafe.refusal {a : Nat} (h : ReadSafe a) : (refusalFields.all fun G => G.misses a) = true :=
  List.all_eq_true.2 fun G hG => List.all_eq_true.1 h.plain G (List.mem_cons_of_mem _ hG)

theorem ReadSafe.held {a : Nat} (h : ReadSafe a) : a ≠ GSTAT.ACCESS_ERR.key 0 :=
  Fld.ne_key_of_misses (List.all_eq_true.1 h.refusal _ (by simp [refusalFields])) 0

theorem accessError_rd (s : State) (a : BusAcc) (w : Bool) (off c : Nat) {F : Fld} {i : Nat}
    (h : (refusalFields.all fun G => G.misses (F.key i)) = true) : (s.accessError a w off c).rd F i = s.rd F i := by
  have h' : ∀ G ∈ refusalFields, (Bounds.spare s [] [F.key i]).fld G := fun G hG => by
    refine List.all_eq_true.2 fun a ha => ?_
    rw [List.mem_singleton.1 ha]
    exact List.all_eq_true.1 h G hG
  exact (kept_accessError (kept_spare s [] [F.key i]) (h' _ (by simp [refusalFields])) (h' _ (by simp [refusalFields]))
    (h' _ (by simp [refusalFields])) (h' _ (by simp [refusalFields])) (h' _ (by simp [refusalFields]))
    (h' _ (by simp [refusalFields])) (h' _ (by simp [refusalFields])) (h' _ (by simp [refusalFields]))).spared_key (by simp)

theorem snapRead_rd (s : State) (key id : Nat) (hi : Bool) (v : Nat) {F : Fld} {i : Nat} (h : F.key i ≠ GSTAT.SNAP_STALE.key 0) :
    (s.snapRead key id hi v).2.rd F i = s.rd F i := by
  unfold State.snapRead
  dsimp only
  split
  · split
    · rfl
    · exact rd_wr_ne _ _ _ _ _ _ h
  · rfl

theorem sntAdvance_rd (s : State) {n : Nat} {F : Fld} {i : Nat} (h : F.key i ≠ SNT_IDX.IDX.key n) :
    (s.sntAdvance n).rd F i = s.rd F i := by
  unfold State.sntAdvance
  split
  · exact rd_wr_ne _ _ _ _ _ _ h
  · rfl

theorem readWord_rd (s : State) (a : BusAcc) (off : Nat) {F : Fld} {i : Nat} (h : ReadSafe (F.key i)) :
    (s.readWord a off).2.rd F i = s.rd F i := by
  unfold State.readWord
  split
  · split
    · rfl
    · split
      · rfl
      · dsimp only
        split
        · rfl
        · rfl
        · exact snapRead_rd _ _ _ _ _ h.stale
        · exact snapRead_rd _ _ _ _ _ h.stale
  · split
    · rfl
    · split
      · exact sntAdvance_rd s (h.idx _ (sntData_lt ‹_› ‹_›))
      · dsimp only
        split
        · exact snapRead_rd _ _ _ _ _ h.stale
        · rfl

theorem busRead_rd (s : State) (a : BusAcc) (off : Nat) {F : Fld} {i : Nat} (h : ReadSafe (F.key i)) :
    (s.busRead a off).2.2.rd F i = s.rd F i := by
  unfold State.busRead
  split
  · exact accessError_rd _ _ _ _ _ h.refusal
  · exact readWord_rd _ _ _ h

theorem sameCycleRead_rd (s : State) (a : Access) (held : Bool) (o : Nat) {F : Fld} {i : Nat} (h : ReadSafe (F.key i)) :
    (s.sameCycleRead a held o).rd F i = s.rd F i := by
  unfold State.sameCycleRead
  dsimp only
  rw [axiRead_eq, drive_rd, busRead_rd _ _ _ h]
  split
  · exact rd_wr_ne _ _ _ _ _ _ h.held
  · rfl

theorem readToo_rd_safe (s : State) (a : Access) (held : Bool) {F : Fld} {i : Nat} (h : ReadSafe (F.key i)) :
    (s.readToo a held).rd F i = s.rd F i := by
  unfold State.readToo
  split
  · exact sameCycleRead_rd _ _ _ _ h
  · rfl

theorem written_rd_safe (s u : State) (a : Access) {F : Fld} {i : Nat} (h : ReadSafe (F.key i)) :
    (s.written u a).rd F i = u.rd F i := (readToo_rd_safe _ a _ h).trans (drive_rd ..)

end Sys2Proof.Machine
end
section
/-! PROOF. Registers whose write is one of their fields, and what else such a write begins. -/

namespace Sys2Proof.Machine

/- Every `decide +kernel` waits for the kernel; elaborated one after another, the proofs hold less memory while they wait. -/
set_option Elab.async false

variable {s t u : State}

/-- The registers whose write does not go through their fields. -/
def ownOffs : List Nat :=
  [0x103C, 0x1000, 0x1800, 0x1804, 0x180C, 0x1814, 0x1818, 0x110, 0x114, 0x118, 0xD000, 0xB018, 0xC100, 0x240C, 0x10004]

/-- RETRAIN newly set in `t` begins its work; `s` is the state before the write. -/
def State.retrains (s t : State) : State :=
  if (!s.on GL_CTRL.RETRAIN && t.on GL_CTRL.RETRAIN) = true then t.retrain else t

/-- So does SSC_APPLY, outside holdover. -/
def State.applies (s t : State) : State :=
  if (!s.on GL_CTRL.SSC_APPLY && t.on GL_CTRL.SSC_APPLY && !t.holdover) = true then t.sscApply else t

/-- What a write of the fields of `d` begins, beside the fields: `s` is the state before the write, `t` the one after. -/
def State.beginsFrom (s t : State) (d : RegDesc) : State :=
  if (d.off = 0x603C && !s.on EM_ATT_CTRL.CLR && t.on EM_ATT_CTRL.CLR) = true then
    t.askClear (t.on EM_ATT_CTRL.CLR_ALL) (t.rd EM_ATT_CTRL.CLR_PART)
  else if d.off = 0x3600 then s.applies (s.retrains t)
  else if (d.off = 0xC020 && !s.on LOG_CTRL.FLUSH && t.on LOG_CTRL.FLUSH) = true then t.trigger 6
  else if (d.off = 0xB000 && !t.on RC_CTRL.HB_EN) = true then t.disarmHb
  else t

/-- A write through the fields of a register. -/
theorem writeWord_fields {off r : Nat} {hi : Bool} {d : RegDesc} (hf : findReg off = some (d, r, hi)) (ho : d.off ∉ ownOffs)
    (hp : d.pair ≠ .wpair) (b : BusAcc) (v : Nat) :
    s.writeWord b off v = s.beginsFrom ((s.writeFields b.ns d r v).crossClamp d.off r) d := by
  simp only [ownOffs, List.mem_cons, List.not_mem_nil, or_false, not_or] at ho
  obtain ⟨h1, h2, h3, h4, h5, h6, h7, h8, h9, h10, h11, h12, h13, h14, h15⟩ := ho
  unfold State.writeWord State.beginsFrom State.applies State.retrains
  rw [hf]
  simp only [h1, h2, h3, h4, h5, h6, h7, h8, h9, h10, h11, h12, h13, h14, h15, hp, if_false, decide_false, Bool.or_self,
    Bool.false_and, Bool.false_eq_true]

/-- A register whose write begins nothing and clamps nothing. -/
theorem writeWord_only {off r : Nat} {hi : Bool} {d : RegDesc} (hf : findReg off = some (d, r, hi)) (ho : d.off ∉ ownOffs)
    (hs : d.off ∉ [0x2400, 0x3004, 0x603C, 0x3600, 0xC020, 0xB000]) (hp : d.pair ≠ .wpair) (b : BusAcc) (v : Nat) :
    s.writeWord b off v = s.writeFields b.ns d r v := by
  rw [writeWord_fields hf ho hp]
  simp only [List.mem_cons, List.not_mem_nil, or_false, not_or] at hs
  obtain ⟨h1, h2, h3, h4, h5, h6⟩ := hs
  unfold State.beginsFrom State.crossClamp
  simp only [h1, h2, h3, h4, h5, h6, if_false, decide_false, Bool.false_and, Bool.false_eq_true]

/-! ### The fields of a register that has one instance -/

theorem findReg_CAD_CTRL : ∃ d, findReg 0x400 = some (d, 0, false) ∧ d.off = 0x400 ∧ d.stride = 0 ∧ d.sec = .open ∧ d.pair = .word ∧
    d.fields = [⟨CAD_CTRL.PEAK_CLR, .go, .none, id⟩] :=
  ⟨_, findReg_eq 0 rfl (by decide +kernel) rfl, rfl, rfl, rfl, rfl, rfl⟩

theorem findReg_EM_ATT_CTRL : ∃ d, findReg 0x603C = some (d, 0, false) ∧ d.off = 0x603C ∧ d.stride = 0 ∧ d.sec = .sec ∧
    d.pair = .word ∧ d.fields = [⟨EM_ATT_CTRL.CLR, .go, .none, id⟩, ⟨EM_ATT_CTRL.CLR_ALL, .rw, .none, id⟩,
      ⟨EM_ATT_CTRL.CLR_PART, .rw, .none, id⟩, ⟨EM_ATT_CTRL.PAGE, .rw, .none, id⟩] :=
  ⟨_, findReg_eq 70 rfl (by decide +kernel) rfl, rfl, rfl, rfl, rfl, rfl⟩

theorem findReg_ENG_TR_CTRL : ∃ d, findReg 0x5200 = some (d, 0, false) ∧ d.off = 0x5200 ∧ d.stride = 0 ∧ d.sec = .open ∧
    d.pair = .word ∧ d.fields = [⟨ENG_TR_CTRL.ARM, .go, .none, id⟩, ⟨ENG_TR_CTRL.PAGE, .rw, .none, id⟩] :=
  ⟨_, findReg_eq 98 rfl (by decide +kernel) rfl, rfl, rfl, rfl, rfl, rfl⟩

theorem findReg_RC_CLR : ∃ d, findReg 0xB034 = some (d, 0, false) ∧ d.off = 0xB034 ∧ d.stride = 0 ∧ d.sec = .sec ∧
    d.pair = .word ∧ d.fields = [⟨RC_CLR.ERR, .w1s, .none, id⟩] :=
  ⟨_, findReg_eq 199 rfl (by decide +kernel) rfl, rfl, rfl, rfl, rfl, rfl⟩

theorem findReg_LOG_CTRL : ∃ d, findReg 0xC020 = some (d, 0, false) ∧ d.off = 0xC020 ∧ d.stride = 0 ∧ d.sec = .sec ∧
    d.pair = .word ∧ d.fields = [⟨LOG_CTRL.STOP, .rw, .none, id⟩, ⟨LOG_CTRL.MSG_REC, .rw, .none, id⟩,
      ⟨LOG_CTRL.MIN_SEV, .rw, .none, id⟩, ⟨LOG_CTRL.FLUSH, .go, .none, id⟩, ⟨LOG_CTRL.PAGE, .rw, .none, id⟩,
      ⟨LOG_CTRL.WM, .rw, .none, fun v => max 1 (min 4096 v)⟩] :=
  ⟨_, findReg_eq 272 rfl (by decide +kernel) rfl, rfl, rfl, rfl, rfl, rfl⟩

theorem findReg_GL_CTRL : ∃ d, findReg 0x3600 = some (d, 0, false) ∧ d.off = 0x3600 ∧ d.stride = 0 ∧ d.sec = .open ∧
    d.pair = .word ∧ d.fields = [⟨GL_CTRL.ALERT_PT, .rw, .cfg, id⟩, ⟨GL_CTRL.ALERT_HOLD, .rw, .cfg, max 1⟩,
      ⟨GL_CTRL.DONE_MARGIN, .rw, .cfg, max 1⟩, ⟨GL_CTRL.SSC_APPLY, .go, .none, id⟩, ⟨GL_CTRL.RETRAIN, .go, .none, id⟩] :=
  ⟨_, findReg_eq 53 rfl (by decide +kernel) rfl, rfl, rfl, rfl, rfl, rfl⟩

/-- A write of one field of a register at `off` that has one instance. -/
def State.wrField (s : State) (ns : Bool) (f : FieldDesc) (off v : Nat) : State :=
  s.writeField ns f 0 (v / 2 ^ (f.fld.key 0 - 8 * off))

/-- A register of one instance is written field by field. -/
theorem writeFields_single {d : RegDesc} (hd : d.stride = 0) (hf : (d.fields.all fun f => f.fld.stride == 0) = true) (ns : Bool)
    (v : Nat) : s.writeFields ns d 0 v = d.fields.foldl (fun s f => s.wrField ns f d.off v) s := by
  unfold State.writeFields
  generalize d.fields = l at hf
  induction l generalizing s with
  | nil => rfl
  | cons f l ih =>
    rw [List.all_cons, Bool.and_eq_true, beq_iff_eq] at hf
    rw [List.foldl_cons, List.foldl_cons, ih hf.2, State.wrField]
    unfold FieldDesc.insts FieldDesc.lsb
    rw [if_pos hf.1, hd, Nat.zero_mul, Nat.add_zero]
    rfl

end Sys2Proof.Machine
end
section
/-! PROOF. What a write of a field does, and the requests written through the port (O53). -/

namespace Sys2Proof.Machine

variable {s t u : State} {a : Access}

/-! ### One field -/

/-- A write of a field reaches that field, and the two flags of ignored writes. -/
theorem writeField_rd_apart (s : State) (ns : Bool) (f : FieldDesc) (i v : Nat) {G : Fld} {j : Nat}
    (h : ∀ k, G.key j ≠ f.fld.key k) (hb : ∀ k, G.key j ≠ GSTAT.GO_BUSY.key k) (hl : ∀ k, G.key j ≠ GSTAT.LOCK_IGN.key k) :
    (s.writeField ns f i v).rd G j = s.rd G j := by
  have hw : ∀ (x : State) (w : Nat), (x.wr f.fld i w).rd G j = x.rd G j := fun x w => rd_wr_ne _ _ _ _ _ _ (h i)
  unfold State.writeField
  dsimp only
  split
  · rfl
  · rfl
  · rfl
  · exact hw ..
  · exact hw ..
  · exact hw ..
  · split
    · unfold State.goSet
      split
      · exact rd_wr_ne _ _ _ _ _ _ (hb 0)
      · exact hw ..
    · rfl
  · split
    · rfl
    · split
      · exact rd_wr_ne _ _ _ _ _ _ (hl 0)
      · exact hw ..

theorem writeField_rd (s : State) (ns : Bool) (f : FieldDesc) (i v : Nat) {G : Fld} {j : Nat}
    (h : ∀ k, G.key j ≠ f.fld.key k) (hb : G.off GSTAT.GO_BUSY = true) (hl : G.off GSTAT.LOCK_IGN = true) :
    (s.writeField ns f i v).rd G j = s.rd G j :=
  writeField_rd_apart s ns f i v h (G.key_ne_of_off hb j) (G.key_ne_of_off hl j)

/-- A GO bit written 0 stays. -/
theorem wrField_go_zero {f : FieldDesc} {off v : Nat} (b : Nat) (ns : Bool) (hf : f.acc = .go)
    (hb : f.fld.key 0 - 8 * off = b) (hw : f.fld.width = 1) (hv : v / 2 ^ b % 2 = 0) : s.wrField ns f off v = s := by
  unfold State.wrField State.writeField
  dsimp only
  rw [hf, hb, hw, Nat.pow_one, hv]
  exact if_neg (by decide)

/-- A GO bit written 1 is a request. -/
theorem wrField_go_one {f : FieldDesc} {off v : Nat} (b : Nat) (ns : Bool) (hf : f.acc = .go)
    (hb : f.fld.key 0 - 8 * off = b) (hw : f.fld.width = 1) (hv : v / 2 ^ b % 2 = 1) :
    s.wrField ns f off v = s.goSet f.fld 0 := by
  unfold State.wrField State.writeField
  dsimp only
  rw [hf, hb, hw, Nat.pow_one, hv]
  exact if_pos rfl

/-- A field that no lock freezes takes what is written, in its range. -/
theorem wrField_rw {f : FieldDesc} {off v : Nat} (b : Nat) (hf : f.acc = .rw) (hl : f.lock = .none)
    (hr : roInst f.fld 0 = false) (hb : f.fld.key 0 - 8 * off = b) :
    s.wrField false f off v = s.wr f.fld 0 (f.clamp (v / 2 ^ b % 2 ^ f.fld.width)) := by
  unfold State.wrField State.writeField
  dsimp only
  rw [hf, hl, hr, hb]
  exact (if_neg (by simp)).trans (if_neg Bool.false_ne_true)

theorem wrField_rd (s : State) (ns : Bool) (f : FieldDesc) (off v : Nat) {G : Fld} (hg : G.off f.fld = true)
    (hb : G.off GSTAT.GO_BUSY = true) (hl : G.off GSTAT.LOCK_IGN = true) (j : Nat) :
    (s.wrField ns f off v).rd G j = s.rd G j :=
  writeField_rd s ns f 0 _ (fun k => G.key_ne_of_off hg j k) hb hl

theorem goSet_on (s : State) (F : Fld) (hw : F.width = 1) (hF : F.off GSTAT.GO_BUSY = true) : (s.goSet F 0).rd F = 1 := by
  unfold State.goSet
  split
  · rw [rd_wr_off hF]
    exact on_iff.1 ‹_›
  · rw [rd_wr_same, hw]
    rfl

theorem goSet_new {F : Fld} (h : s.rd F ≠ 1) : s.goSet F 0 = s.wr F 0 1 := if_neg fun k => h (on_iff.1 k)

theorem goSet_again {F : Fld} (h : s.rd F = 1) : s.goSet F 0 = s.wr GSTAT.GO_BUSY 0 1 := if_pos (on_iff.2 h)

theorem goSet_rd (s : State) (F : Fld) {G : Fld} (hF : G.off F = true) (hb : G.off GSTAT.GO_BUSY = true) (j : Nat) :
    (s.goSet F 0).rd G j = s.rd G j := by
  unfold State.goSet
  split
  · rw [rd_wr_off hb]
  · rw [rd_wr_off hF]

/-- A write of fields changes fields alone. -/
theorem writeFields_part (s : State) (ns : Bool) (d : RegDesc) (r v : Nat) (q : Region) : q.same s (s.writeFields ns d r v) :=
  (kept_writeFields (kept_guard s [q] []) fun _ => rfl).spared q (by simp)

/-! ### Requests -/

theorem exec_peakClr (ha : Secure a) : exec (.peakClr a) s = .next (s.quiet.written (s.quiet.goSet CAD_CTRL.PEAK_CLR 0) a) := by
  obtain ⟨d, hf, ho, hst, hs, hp, hfs⟩ := findReg_CAD_CTRL
  refine congrArg Host.Outcome.next ?_
  rw [axiWrite_written 1 ha hf (by decide) (by rw [hs]; decide),
    writeWord_only hf (by rw [ho]; decide) (by rw [ho]; decide) (by rw [hp]; decide), writeFields_single hst (by rw [hfs]; rfl),
    hfs, List.foldl_cons, List.foldl_nil, ho]
  exact congrArg (fun u => s.quiet.written u a) (wrField_go_one 0 _ rfl (by decide) rfl rfl)

/-- The trace control as ARM writes it. -/
theorem exec_arm (v : Nat) (ha : Secure a) : exec (.arm v a) s = .next (s.quiet.written
    ((s.quiet.goSet ENG_TR_CTRL.ARM 0).wrField false ⟨ENG_TR_CTRL.PAGE, .rw, .none, id⟩ 0x5200 (v % 2 ^ 31 + 2 ^ 31)) a) := by
  obtain ⟨d, hf, ho, hst, hs, hp, hfs⟩ := findReg_ENG_TR_CTRL
  refine congrArg Host.Outcome.next ?_
  rw [axiWrite_written _ ha hf (by decide) (by rw [hs]; decide),
    writeWord_only hf (by rw [ho]; decide) (by rw [ho]; decide) (by rw [hp]; decide), writeFields_single hst (by rw [hfs]; rfl),
    hfs, List.foldl_cons, List.foldl_cons, List.foldl_nil, ho, Nat.mod_eq_of_lt (show v % 2 ^ 31 + 2 ^ 31 < 2 ^ 32 by omega),
    wrField_go_one (f := ⟨ENG_TR_CTRL.ARM, .go, .none, id⟩) 31 _ rfl (by decide) rfl (by omega),
    show (accOf a).ns = false from ha.1]

theorem exec_rcClrErr (ha : Secure a) : exec (.rcClrErr a) s =
    .next (s.quiet.written (s.quiet.wr RC_CLR.ERR 0 (Nat.lor (s.rd RC_CLR.ERR) 1)) a) := by
  obtain ⟨d, hf, ho, hst, hs, hp, hfs⟩ := findReg_RC_CLR
  refine congrArg Host.Outcome.next ?_
  rw [axiWrite_written 1 ha hf (by decide) (by rw [hs]; decide),
    writeWord_only hf (by rw [ho]; decide) (by rw [ho]; decide) (by rw [hp]; decide), writeFields_single hst (by rw [hfs]; rfl),
    hfs, List.foldl_cons, List.foldl_nil, ho]
  rfl

/-- The fields of EM_ATT_CTRL as EM_ATT_CLR writes them. -/
def State.attWritten (s : State) (w : Nat) : State :=
  (((s.goSet EM_ATT_CTRL.CLR 0).wr EM_ATT_CTRL.CLR_ALL 0 (w / 2 ^ 30 % 2)).wr EM_ATT_CTRL.CLR_PART 0 (w / 2 ^ 24 % 32)).wr
    EM_ATT_CTRL.PAGE 0 (w / 2 ^ 0 % 4)

theorem writeFields_EM_ATT_CTRL {d : RegDesc} (hst : d.stride = 0) (ho : d.off = 0x603C) (hfs : d.fields =
    [⟨EM_ATT_CTRL.CLR, .go, .none, id⟩, ⟨EM_ATT_CTRL.CLR_ALL, .rw, .none, id⟩, ⟨EM_ATT_CTRL.CLR_PART, .rw, .none, id⟩,
      ⟨EM_ATT_CTRL.PAGE, .rw, .none, id⟩]) {w : Nat} (hw : w / 2 ^ 31 % 2 = 1) :
    s.writeFields false d 0 w = s.attWritten w := by
  rw [writeFields_single hst (by rw [hfs]; rfl), hfs, List.foldl_cons, List.foldl_cons, List.foldl_cons, List.foldl_cons,
    List.foldl_nil, ho, wrField_go_one (f := ⟨EM_ATT_CTRL.CLR, .go, .none, id⟩) 31 _ rfl (by decide) rfl hw,
    wrField_rw 0 rfl rfl rfl (by decide), wrField_rw 24 rfl rfl rfl (by decide), wrField_rw 30 rfl rfl rfl (by decide)]
  rfl

theorem attWritten_CLR (s : State) (w : Nat) : (s.attWritten w).rd EM_ATT_CTRL.CLR = 1 := by
  rw [State.attWritten, rd_wr_off (by decide), rd_wr_off (by decide), rd_wr_off (by decide), goSet_on _ _ rfl (by decide)]

theorem exec_emAttClr (v : Nat) (ha : Secure a) (hc : s.rd EM_ATT_CTRL.CLR ≠ 1) : exec (.emAttClr v a) s = .next
    (s.quiet.written ((s.quiet.attWritten (v % 2 ^ 31 + 2 ^ 31)).askClear
      ((s.quiet.attWritten (v % 2 ^ 31 + 2 ^ 31)).on EM_ATT_CTRL.CLR_ALL)
      ((s.quiet.attWritten (v % 2 ^ 31 + 2 ^ 31)).rd EM_ATT_CTRL.CLR_PART)) a) := by
  obtain ⟨d, hf, ho, hst, hs, hp, hfs⟩ := findReg_EM_ATT_CTRL
  have hns : (accOf a).ns = false := ha.1
  have hc' : s.quiet.on EM_ATT_CTRL.CLR = false := Bool.eq_false_iff.2 fun k => hc (on_iff.1 k)
  refine congrArg Host.Outcome.next ?_
  rw [axiWrite_written _ ha hf (by decide) (by rw [hs]; decide),
    writeWord_fields hf (by rw [ho]; decide) (by rw [hp]; decide), hns,
    Nat.mod_eq_of_lt (show v % 2 ^ 31 + 2 ^ 31 < 2 ^ 32 by omega), writeFields_EM_ATT_CTRL hst ho hfs (by omega)]
  have ht : (s.quiet.attWritten (v % 2 ^ 31 + 2 ^ 31)).on EM_ATT_CTRL.CLR = true := on_iff.2 (attWritten_CLR ..)
  generalize s.quiet.attWritten (v % 2 ^ 31 + 2 ^ 31) = t at ht
  have hcl : t.crossClamp d.off 0 = t := by
    rw [ho]
    exact (if_neg (by decide)).trans (if_neg (by decide))
  rw [hcl]
  refine congrArg (fun u => s.quiet.written u a) (if_pos ?_)
  rw [hc', ht, ho]
  rfl

/-- The log's control as FLUSH writes it. -/
def State.logCtrlWritten (s : State) (w : Nat) : State :=
  (((((s.wrField false ⟨LOG_CTRL.STOP, .rw, .none, id⟩ 0xC020 w).wrField false ⟨LOG_CTRL.MSG_REC, .rw, .none, id⟩ 0xC020 w).wrField
    false ⟨LOG_CTRL.MIN_SEV, .rw, .none, id⟩ 0xC020 w).goSet LOG_CTRL.FLUSH 0).wrField false ⟨LOG_CTRL.PAGE, .rw, .none, id⟩
    0xC020 w).wrField false ⟨LOG_CTRL.WM, .rw, .none, fun v => max 1 (min 4096 v)⟩ 0xC020 w

theorem exec_flush (v : Nat) (ha : Secure a) : ∃ w, exec (.flush v a) s = .next (s.quiet.written
    (if (!s.on LOG_CTRL.FLUSH && (s.quiet.logCtrlWritten w).on LOG_CTRL.FLUSH) = true then (s.quiet.logCtrlWritten w).trigger 6
      else s.quiet.logCtrlWritten w) a) := by
  obtain ⟨d, hf, ho, hst, hs, hp, hfs⟩ := findReg_LOG_CTRL
  have hns : (accOf a).ns = false := ha.1
  have hbit : Nat.lor v (2 ^ 26) % 2 ^ 32 / 2 ^ 26 % 2 = 1 := by
    have h : ((v ||| 2 ^ 26) % 2 ^ 32).testBit 26 = true := by
      rw [Nat.testBit_mod_two_pow, Nat.testBit_or, Nat.testBit_two_pow_self, Bool.or_true]
      rfl
    rwa [Nat.testBit_eq_decide_div_mod_eq, decide_eq_true_iff] at h
  refine ⟨Nat.lor v (2 ^ 26) % 2 ^ 32, congrArg Host.Outcome.next ?_⟩
  have hw : s.quiet.writeFields false d 0 (Nat.lor v (2 ^ 26) % 2 ^ 32) = s.quiet.logCtrlWritten (Nat.lor v (2 ^ 26) % 2 ^ 32) := by
    rw [writeFields_single hst (by rw [hfs]; rfl), hfs, List.foldl_cons, List.foldl_cons, List.foldl_cons, List.foldl_cons,
      List.foldl_cons, List.foldl_cons, List.foldl_nil, ho, 
      wrField_go_one (f := ⟨LOG_CTRL.FLUSH, .go, .none, id⟩) 26 _ rfl (by decide) rfl hbit]
    rfl
  rw [axiWrite_written _ ha hf (by decide) (by rw [hs]; decide),
    writeWord_fields hf (by rw [ho]; decide) (by rw [hp]; decide), hns, hw]
  generalize s.quiet.logCtrlWritten (Nat.lor v (2 ^ 26) % 2 ^ 32) = t
  have hcl : t.crossClamp d.off 0 = t := by
    rw [ho]
    exact (if_neg (by decide)).trans (if_neg (by decide))
  rw [hcl, State.beginsFrom, ho, if_neg (by simp), if_neg (by decide)]
  have hon : s.quiet.on LOG_CTRL.FLUSH = s.on LOG_CTRL.FLUSH := rfl
  rw [hon]
  by_cases h : (!s.on LOG_CTRL.FLUSH && t.on LOG_CTRL.FLUSH) = true
  · rw [if_pos h, if_pos (by simpa using h)]
  · rw [if_neg h, if_neg (by simpa using h), if_neg (by simp)]

end Sys2Proof.Machine
end
section
/-! PROOF. The locks, permissions and requests of O53. -/

namespace Sys2Proof.Machine

variable {s t u : State} {a : Access}

/-! ### Locks and permissions -/

theorem exec_lockCfg (ha : Secure a) : exec (.lockCfg a) s = .next (s.quiet.written (s.quiet.setLocks { cfg := true }) a) := by
  obtain ⟨d, hf, -, hs⟩ := findReg_LOCK0
  refine congrArg Host.Outcome.next ?_
  rw [axiWrite_written 1 ha hf (by decide) (by rw [hs]; decide), writeWord_LOCK0]
  rfl

theorem axiWrite_LOCK1 (w : Nat) (ha : Secure a) :
    s.quiet.axiWrite a 0x114 w = s.quiet.written (s.quiet.setLocks (lock1Of (w % 2 ^ 32))) a := by
  obtain ⟨d, hf, -, hs⟩ := findReg_LOCK1
  rw [axiWrite_written w ha hf (by decide) (by rw [hs]; decide), writeWord_LOCK1]

/-- What a command that sets one lock bit leaves. -/
theorem setLocks_spec (s : State) (a : Access) (l k : Locks) (h : s.locks.join l = k) :
    (s.quiet.written (s.quiet.setLocks l) a).locks = k ∧ (a.also = none → s.quiet.written (s.quiet.setLocks l) a =
      { s with emit := [.busWrite true], locks := (s.quiet.written (s.quiet.setLocks l) a).locks }) := by
  refine ⟨(written_locks ..).trans h, fun ha => ?_⟩
  rw [written_none _ _ ha]
  rfl

theorem join_cfg (l : Locks) : l.join { cfg := true } = { l with cfg := true } := by
  simp [Locks.join]

theorem join_perm (l : Locks) : l.join (lock1Of (1 % 2 ^ 32)) = { l with perm := true } := by
  have h : lock1Of (1 % 2 ^ 32) = { perm := true } := by decide
  rw [h]
  simp [Locks.join]

theorem join_transport (l : Locks) : l.join (lock1Of (2 % 2 ^ 32)) = { l with transport := true } := by
  have h : lock1Of (2 % 2 ^ 32) = { transport := true } := by decide
  rw [h]
  simp [Locks.join]

theorem join_fw (l : Locks) : l.join (lock1Of (4 % 2 ^ 32)) = { l with fw := true } := by
  have h : lock1Of (4 % 2 ^ 32) = { fw := true } := by decide
  rw [h]
  simp [Locks.join]

theorem join_diag (l : Locks) : l.join (lock1Of (8 % 2 ^ 32)) = { l with diag := true } := by
  have h : lock1Of (8 % 2 ^ 32) = { diag := true } := by decide
  rw [h]
  simp [Locks.join]

theorem exec_permEffWrite {n : Nat} (v : Nat) (hn : n < 256) (ha : Secure a) : exec (.permEffWrite n v a) s =
    .next (s.quiet.written (s.quiet.permWrite false n (v % 2 ^ 32)) a) := by
  obtain ⟨d, hf, -, hs⟩ := findReg_perm hn
  refine congrArg Host.Outcome.next ((if_neg (by omega)).trans ?_)
  rw [axiWrite_written v ha hf (by omega) (by rw [hs]; decide), writeWord_perm hn, show (accOf a).ns = false from ha.1]

/-! ### Hang snapshots, heartbeats and windows -/

theorem exec_take (v : Nat) (ha : Secure a) : exec (.take v a) s =
    .next (s.quiet.written (s.quiet.hsCtrl (v % 2 ^ 31 + 2 ^ 31)) a) := by
  obtain ⟨d, hf, -, hs⟩ := findReg_HS_CTRL
  refine congrArg Host.Outcome.next ?_
  rw [axiWrite_written _ ha hf (by decide) (by rw [hs]; decide), writeWord_HS_CTRL,
    Nat.mod_eq_of_lt (show v % 2 ^ 31 + 2 ^ 31 < 2 ^ 32 by omega)]

theorem exec_rearm (v : Nat) (ha : Secure a) : exec (.rearm v a) s =
    .next (s.quiet.written (s.quiet.hsCtrl ((v ||| 2 ^ 30) % 2 ^ 32)) a) := by
  obtain ⟨d, hf, -, hs⟩ := findReg_HS_CTRL
  refine congrArg Host.Outcome.next ?_
  rw [axiWrite_written _ ha hf (by decide) (by rw [hs]; decide), writeWord_HS_CTRL]
  rfl

theorem hangSnapshot_takes (s : State) (code cause : Nat) (h : s.rd HS_CTRL.FROZEN ≠ 1) :
    (s.hangSnapshot code cause).rd HS_CTRL.FROZEN = 1 ∧ (s.hangSnapshot code cause).rd FW_EVT.HSNAP = 1 := by
  have h' : ¬ s.on HS_CTRL.FROZEN = true := fun k => h (on_iff.1 k)
  unfold State.hangSnapshot
  rw [if_neg h']
  refine ⟨?_, rd_raise_st _ .FW_HSNAP _ _ (by decide)⟩
  rw [rd_raise_all (by decide), rd_wr_same]
  rfl

theorem exec_rcHb (v : Nat) (ha : Secure a) : exec (.rcHb v a) s =
    .next (s.quiet.written (s.quiet.heartbeat (v / 2 ^ 16 % 2 ^ RC_HB.COUNT.width)) a) := by
  obtain ⟨d, hf, -, hs⟩ := findReg_RC_HB
  refine congrArg Host.Outcome.next ?_
  have hv : v % 2 ^ 32 / 2 ^ 16 % 2 ^ RC_HB.COUNT.width = v / 2 ^ 16 % 2 ^ RC_HB.COUNT.width := by
    change v % 2 ^ 32 / 2 ^ 16 % 2 ^ 16 = v / 2 ^ 16 % 2 ^ 16
    omega
  rw [axiWrite_written v ha hf (by decide) (by rw [hs]; decide), writeWord_RC_HB, hv]

/-- The new count is kept, and supervision starts afresh. -/
def State.beats (s : State) (c : Nat) : State :=
  ((s.setRc fun r => { r with hbCount := some c, hbAt := some s.tick, missAt := s.tick, missed := false }).wr
    RC_STAT.MISSES 0 0).wr RC_STAT.HB_AGE 0 0

/-- A heartbeat arms the supervision while it is enabled. -/
def State.armsHb (s : State) (l : Nat) : State :=
  if (s.on RC_CTRL.HB_EN && l != lDIE) = true then s.wr RC_STAT.HB_ARMED 0 1 else s

/-- It closes the ladder's NOTICE and its wait for a boot. -/
def State.closesLadder (s : State) (l : Nat) : State :=
  if l = lNOTICE then (s.wr RC_STAT.LADDER 0 lIDLE).raise .RC_HB_RESUMED
  else if l = lBOOT then s.wr RC_STAT.LADDER 0 lIDLE else s

/-- The retired cores are posted at the first heartbeat that finds the die running. -/
def State.postsRetired (s : State) (l : Nat) : State :=
  if (s.mg.postRetired && l != lDIE) = true then s.postRetired else s

theorem heartbeat_new {c : Nat} (h : s.rc.hbCount ≠ some c) : s.heartbeat c =
    (((s.beats c).armsHb (s.beats c).ladder).closesLadder (s.beats c).ladder).postsRetired (s.beats c).ladder := if_neg h

theorem postRetired_rd (s : State) {F : Fld} (h : ([OMB_STAT.DROP, OMB_STAT.QUEUED].all fun G => [F.key 0].all G.misses) = true) :
    s.postRetired.rd F = s.rd F := by
  unfold State.postRetired
  dsimp only
  rw [setMg_rd]
  exact foldl_keeps (fun t : State => t.rd F = s.rd F) rfl fun t m ht => (post_rd t 0 oRETIRED m h).trans ht

theorem postRetired_rc (s : State) : s.postRetired.rc = s.rc := by
  unfold State.postRetired
  dsimp only
  rw [setMg_rc]
  exact foldl_keeps (fun t : State => t.rc = s.rc) rfl fun t m ht => (post_rc t 0 oRETIRED m).trans ht

theorem heartbeat_spec {c : Nat} (h : s.rc.hbCount ≠ some c) : (s.heartbeat c).rc.hbCount = some c ∧
    (s.heartbeat c).rc.hbAt = some s.tick ∧ (s.heartbeat c).rc.missAt = s.tick ∧ (s.heartbeat c).rd RC_STAT.MISSES = 0 ∧
    (s.ladder = lNOTICE → (s.heartbeat c).ladder = lIDLE) := by
  have hl : (s.beats c).ladder = s.ladder := by
    unfold State.ladder State.beats
    rw [rd_wr_off (by decide), rd_wr_off (by decide), setRc_rd]
  have h0 : (s.beats c).rc.hbCount = some c ∧ (s.beats c).rc.hbAt = some s.tick ∧ (s.beats c).rc.missAt = s.tick := ⟨rfl, rfl, rfl⟩
  have hm : (s.beats c).rd RC_STAT.MISSES = 0 := by
    rw [State.beats, rd_wr_off (by decide), rd_wr_same]
    rfl
  rw [heartbeat_new h, hl]
  generalize s.beats c = b at h0 hm hl
  have h1 : (b.armsHb s.ladder).rc = b.rc ∧ (b.armsHb s.ladder).rd RC_STAT.MISSES = b.rd RC_STAT.MISSES := by
    unfold State.armsHb
    split
    · exact ⟨wr_rc .., rd_wr_off (by decide) _⟩
    · exact ⟨rfl, rfl⟩
  generalize b.armsHb s.ladder = d at h1
  have h2 : (d.closesLadder s.ladder).rc = d.rc ∧ (d.closesLadder s.ladder).rd RC_STAT.MISSES = d.rd RC_STAT.MISSES ∧
      (s.ladder = lNOTICE → (d.closesLadder s.ladder).ladder = lIDLE) := by
    unfold State.closesLadder
    split
    · refine ⟨by rw [raise_rc, wr_rc], by rw [rd_raise_all (by decide), rd_wr_off (by decide)], fun _ => ?_⟩
      rw [State.ladder, rd_raise_all (by decide), rd_wr_same]
      rfl
    · split
      · exact ⟨wr_rc .., rd_wr_off (by decide) _, fun k => absurd k ‹_›⟩
      · exact ⟨rfl, rfl, fun k => absurd k ‹_›⟩
  generalize d.closesLadder s.ladder = e at h2
  have h3 : (e.postsRetired s.ladder).rc = e.rc ∧ (e.postsRetired s.ladder).rd RC_STAT.MISSES = e.rd RC_STAT.MISSES ∧
      (e.postsRetired s.ladder).ladder = e.ladder := by
    unfold State.postsRetired State.ladder
    split
    · exact ⟨postRetired_rc e, postRetired_rd e (by decide), postRetired_rd e (by decide)⟩
    · exact ⟨rfl, rfl, rfl⟩
  rw [h3.1, h3.2.1, h3.2.2, h2.1, h2.2.1, h1.1, h1.2]
  exact ⟨h0.1, h0.2.1, h0.2.2, hm, h2.2.2⟩

theorem exec_pwSnap {p : Nat} (hp : p < 32) (ha : Secure a) (he : s.bit PWIN_EN.EN p = true) (hq : s.rd PW_STAT.PEND p ≠ 1) :
    exec (.pwSnap p a) s = .next (s.quiet.written ((s.quiet.wr PW_CTRL.SNAP p 1).wr PW_STAT.PEND p 1) a) := by
  obtain ⟨d, hf, -, hs⟩ := findReg_pwCtrl hp
  have hw : windowOf (0x10004 + 0x1000 * p) = p := by
    unfold windowOf
    omega
  have hq' : ¬ s.quiet.on PW_STAT.PEND p = true := fun k => hq (on_iff.1 k)
  refine congrArg Host.Outcome.next ((if_neg (by omega)).trans ?_)
  rw [axiWrite_secure _ ha hf (by omega) (.inr (by rw [hw]; exact he)), writeWord_pwCtrl hp, if_neg (by decide), if_neg hq']
  rfl

end Sys2Proof.Machine
end
section
/-! PROOF. SSC_APPLY and RETRAIN through the port, and the settled statement O53. -/

namespace Sys2Proof.Machine

variable {s t u : State} {a : Access}

/-! ### The write of GL_CTRL -/

/-- The limits of GL_CTRL written from the bits of `w`. -/
def State.limitsWritten (s : State) (w : Nat) : State :=
  ((s.wrField false ⟨GL_CTRL.ALERT_PT, .rw, .cfg, id⟩ 0x3600 w).wrField false ⟨GL_CTRL.ALERT_HOLD, .rw, .cfg, max 1⟩ 0x3600
    w).wrField false ⟨GL_CTRL.DONE_MARGIN, .rw, .cfg, max 1⟩ 0x3600 w

/-- The fields that the limits' write can reach. -/
def limitFields : List Fld := [GL_CTRL.ALERT_PT, GL_CTRL.ALERT_HOLD, GL_CTRL.DONE_MARGIN, GSTAT.GO_BUSY, GSTAT.LOCK_IGN]

/-- Instance `j` of `G` is none of these fields. -/
def Fld.Outside (G : Fld) (j : Nat) (l : List Fld) : Prop := ∀ F ∈ l, ∀ k, G.key j ≠ F.key k

theorem Fld.outside_of_off {G : Fld} {l : List Fld} (h : l.all G.off = true) (j : Nat) : G.Outside j l := fun F hF =>
  G.key_ne_of_off (List.all_eq_true.1 h F hF) j

theorem limitsWritten_rd (s : State) (w : Nat) {G : Fld} {j : Nat} (h : G.Outside j limitFields) :
    (s.limitsWritten w).rd G j = s.rd G j := by
  have h' : ∀ (s : State) (f : FieldDesc), f.fld ∈ limitFields → (s.wrField false f 0x3600 w).rd G j = s.rd G j :=
    fun s f hf => writeField_rd_apart s false f 0 _ (h _ hf) (h _ (by simp [limitFields])) (h _ (by simp [limitFields]))
  unfold State.limitsWritten
  rw [h' _ _ (by simp [limitFields]), h' _ _ (by simp [limitFields]), h' _ _ (by simp [limitFields])]

theorem wrField_gl (s : State) (f : FieldDesc) (off w : Nat) : (s.wrField false f off w).gl = s.gl :=
  (kept_writeField (kept_guard s [.gl] []) fun _ => rfl).spared .gl rfl

theorem limitsWritten_gl (s : State) (w : Nat) : (s.limitsWritten w).gl = s.gl := by
  unfold State.limitsWritten
  rw [wrField_gl, wrField_gl, wrField_gl]

theorem limitsWritten_entered (s : State) (w : Nat) : (s.limitsWritten w).fw.entered = s.fw.entered := by
  have h : ∀ (s : State) (f : FieldDesc), (s.wrField false f 0x3600 w).fw.entered = s.fw.entered := fun s f =>
    (kept_writeField (kept_guard s [.fw] []) fun _ => rfl).fw_spared rfl Fw.entered fun _ => rfl
  unfold State.limitsWritten
  rw [h, h, h]

theorem crossClamp_GL_CTRL (t : State) {d : RegDesc} (ho : d.off = 0x3600) : t.crossClamp d.off 0 = t := by
  rw [ho]
  exact (if_neg (by decide)).trans (if_neg (by decide))

theorem beginsFrom_GL_CTRL (s t : State) {d : RegDesc} (ho : d.off = 0x3600) : s.beginsFrom t d = s.applies (s.retrains t) := by
  unfold State.beginsFrom
  rw [ho, if_neg (by simp), if_pos rfl]

theorem enterTrain_rd (s : State) (n : Nat) {F : Fld} (h : F.off GL_STAT.LSTATE = true) (k : F.off GL_FAULT.FAULT = true)
    (j : Nat) : (s.enterTrain n).rd F j = s.rd F j := by
  unfold State.enterTrain
  dsimp only
  rw [send_rd, setLnk_rd, rd_wrBit_off k, rd_wr_off h]

theorem retrain_rd (s : State) {F : Fld} (h : ([GL_STAT.LSTATE, GL_FAULT.FAULT, GL_CTRL.RETRAIN].all F.off) = true) (j : Nat) :
    s.retrain.rd F j = s.rd F j := by
  simp only [List.all_cons, List.all_nil, Bool.and_true, Bool.and_eq_true] at h
  obtain ⟨h1, h2, h3⟩ := h
  unfold State.retrain
  rw [trainEnd_rd h3]
  exact foldl_keeps (fun t : State => t.rd F j = s.rd F j) rfl fun t n ht => (enterTrain_rd t n h1 h2 j).trans ht

/-- A write of GL_CTRL with one GO bit, through the port. -/
theorem axiWrite_GL_CTRL (go : Nat) (ha : Secure a) : s.quiet.axiWrite a 0x3600 (s.quiet.glCtrlWord go) = s.quiet.written
    (s.quiet.applies (s.quiet.retrains (((s.quiet.limitsWritten (s.quiet.glCtrlWord go % 2 ^ 32)).wrField false
      ⟨GL_CTRL.SSC_APPLY, .go, .none, id⟩ 0x3600 (s.quiet.glCtrlWord go % 2 ^ 32)).wrField false
      ⟨GL_CTRL.RETRAIN, .go, .none, id⟩ 0x3600 (s.quiet.glCtrlWord go % 2 ^ 32)))) a := by
  obtain ⟨d, hf, ho, hst, hs, hp, hfs⟩ := findReg_GL_CTRL
  rw [axiWrite_written _ ha hf (by decide) (by rw [hs]; decide),
    writeWord_fields hf (by rw [ho]; decide) (by rw [hp]; decide), show (accOf a).ns = false from ha.1,
    writeFields_single hst (by rw [hfs]; rfl), hfs, List.foldl_cons, List.foldl_cons, List.foldl_cons, List.foldl_cons,
    List.foldl_cons, List.foldl_nil, crossClamp_GL_CTRL _ ho, beginsFrom_GL_CTRL _ _ ho, ho]
  rfl

theorem glCtrlWord_bits (s : State) {go : Nat} (h : go < 4) : s.glCtrlWord go % 2 ^ 32 / 2 ^ 1 % 2 = go / 2 ∧
    s.glCtrlWord go % 2 ^ 32 / 2 ^ 0 % 2 = go % 2 := by
  unfold State.glCtrlWord
  constructor <;> omega

theorem exec_sscApply (ha : Secure a) (hn : s.rd GL_CTRL.SSC_APPLY ≠ 1) (hh : s.holdover = false) : ∃ u : State, u.gl = s.gl ∧
    (∀ (G : Fld) (j : Nat), G.Outside j (GL_CTRL.SSC_APPLY :: limitFields) → u.rd G j = s.rd G j) ∧
    exec (.sscApply a) s = .next (s.quiet.written u.sscApply a) := by
  obtain ⟨h1, h0⟩ := glCtrlWord_bits s.quiet (show 2 < 4 by decide)
  have hrd : ∀ (G : Fld) (j : Nat), G.Outside j limitFields → (s.quiet.limitsWritten (s.quiet.glCtrlWord 2 % 2 ^ 32)).rd G j = s.quiet.rd G j :=
    fun G j h => limitsWritten_rd _ _ h
  have hgl := limitsWritten_gl s.quiet (s.quiet.glCtrlWord 2 % 2 ^ 32)
  have hfw := limitsWritten_entered s.quiet (s.quiet.glCtrlWord 2 % 2 ^ 32)
  have he := axiWrite_GL_CTRL (s := s) (a := a) 2 ha
  rw [wrField_go_one (f := ⟨GL_CTRL.SSC_APPLY, .go, .none, id⟩) 1 _ rfl (by decide) rfl h1,
    wrField_go_zero (f := ⟨GL_CTRL.RETRAIN, .go, .none, id⟩) 0 _ rfl (by decide) rfl h0] at he
  generalize s.quiet.limitsWritten (s.quiet.glCtrlWord 2 % 2 ^ 32) = t at he hrd hgl hfw
  have hn' : s.quiet.on GL_CTRL.SSC_APPLY = false := Bool.eq_false_iff.2 fun k => hn (on_iff.1 k)
  have ht : t.rd GL_CTRL.SSC_APPLY ≠ 1 := by
    rw [hrd _ _ (Fld.outside_of_off (by decide) _)]
    exact hn
  rw [goSet_new ht] at he
  refine ⟨t.wr GL_CTRL.SSC_APPLY 0 1, ?_, fun G j hG => ?_, ?_⟩
  · rw [wr_gl, hgl]
    rfl
  · rw [rd_wr_ne _ _ _ _ _ _ (hG _ List.mem_cons_self 0), hrd G j fun F hF => hG F (List.mem_cons_of_mem _ hF)]
    rfl
  · refine congrArg Host.Outcome.next (he.trans ?_)
    have hr : s.quiet.retrains (t.wr GL_CTRL.SSC_APPLY 0 1) = t.wr GL_CTRL.SSC_APPLY 0 1 := by
      refine if_neg ?_
      have hk : (t.wr GL_CTRL.SSC_APPLY 0 1).on GL_CTRL.RETRAIN = s.quiet.on GL_CTRL.RETRAIN := by
        unfold State.on
        rw [rd_wr_off (by decide), hrd _ _ (Fld.outside_of_off (by decide) _)]
      rw [hk]
      simp
    have hhold : (t.wr GL_CTRL.SSC_APPLY 0 1).holdover = s.holdover := by
      unfold State.holdover State.on
      rw [rd_wr_off (by decide), hrd _ _ (Fld.outside_of_off (by decide) _), wr_fw, hfw]
      rfl
    have hon : (t.wr GL_CTRL.SSC_APPLY 0 1).on GL_CTRL.SSC_APPLY = true := on_iff.2 (rd_wr_same ..)
    rw [hr, State.applies, if_pos (by rw [hn', hon, hhold, hh]; rfl)]

theorem exec_retrain (ha : Secure a) (hn : s.rd GL_CTRL.RETRAIN ≠ 1) : ∃ u : State, u.gl = s.gl ∧
    (∀ (G : Fld) (j : Nat), G.Outside j (GL_CTRL.RETRAIN :: limitFields) → u.rd G j = s.rd G j) ∧
    exec (.retrain a) s = .next (s.quiet.written u.retrain a) := by
  obtain ⟨h1, h0⟩ := glCtrlWord_bits s.quiet (show 1 < 4 by decide)
  have hrd : ∀ (G : Fld) (j : Nat), G.Outside j limitFields → (s.quiet.limitsWritten (s.quiet.glCtrlWord 1 % 2 ^ 32)).rd G j = s.quiet.rd G j :=
    fun G j h => limitsWritten_rd _ _ h
  have hgl := limitsWritten_gl s.quiet (s.quiet.glCtrlWord 1 % 2 ^ 32)
  have he := axiWrite_GL_CTRL (s := s) (a := a) 1 ha
  rw [wrField_go_zero (f := ⟨GL_CTRL.SSC_APPLY, .go, .none, id⟩) 1 _ rfl (by decide) rfl h1,
    wrField_go_one (f := ⟨GL_CTRL.RETRAIN, .go, .none, id⟩) 0 _ rfl (by decide) rfl h0] at he
  generalize s.quiet.limitsWritten (s.quiet.glCtrlWord 1 % 2 ^ 32) = t at he hrd hgl
  have hn' : s.quiet.on GL_CTRL.RETRAIN = false := Bool.eq_false_iff.2 fun k => hn (on_iff.1 k)
  have ht : t.rd GL_CTRL.RETRAIN ≠ 1 := by
    rw [hrd _ _ (Fld.outside_of_off (by decide) _)]
    exact hn
  rw [goSet_new ht] at he
  refine ⟨t.wr GL_CTRL.RETRAIN 0 1, ?_, fun G j hG => ?_, ?_⟩
  · rw [wr_gl, hgl]
    rfl
  · rw [rd_wr_ne _ _ _ _ _ _ (hG _ List.mem_cons_self 0), hrd G j fun F hF => hG F (List.mem_cons_of_mem _ hF)]
    rfl
  · refine congrArg Host.Outcome.next (he.trans ?_)
    have hon : (t.wr GL_CTRL.RETRAIN 0 1).on GL_CTRL.RETRAIN = true := on_iff.2 (rd_wr_same ..)
    have hr : s.quiet.retrains (t.wr GL_CTRL.RETRAIN 0 1) = (t.wr GL_CTRL.RETRAIN 0 1).retrain :=
      if_pos (by rw [hn', hon]; rfl)
    have hssc : (t.wr GL_CTRL.RETRAIN 0 1).retrain.on GL_CTRL.SSC_APPLY = s.quiet.on GL_CTRL.SSC_APPLY := by
      unfold State.on
      rw [retrain_rd _ (by decide), rd_wr_off (by decide), hrd _ _ (Fld.outside_of_off (by decide) _)]
    rw [hr, State.applies, hssc, if_neg (by simp)]

/-! ### What SSC_APPLY and RETRAIN do to a link -/

/-- A member whose profile waits for its acknowledgements keeps the commit back. -/
theorem sscCommit_waits {n : Nat} (hn : n < 24) (hm : (s.lnk n).sscMember = true) (hs : (s.lnk n).ssc ≠ []) :
    s.sscCommit = s := by
  unfold State.sscCommit
  dsimp only
  refine if_neg fun h => ?_
  rw [Bool.and_eq_true, List.all_eq_true] at h
  have hn' := h.2 n (by simp [idx, hn, hm])
  rw [Bool.and_eq_true, List.isEmpty_iff] at hn'
  exact hs hn'.1

theorem sscHead_part (s : State) (n : Nat) {α : Type} (p : Lnk → α)
    (hp : ∀ (l : Lnk) (k : Nat) (b : Bool), p { l with sscTries := k, sscWaits := b } = p l) (m : Nat) :
    p ((s.sscHead n).lnk m) = p (s.lnk m) := by
  unfold State.sscHead
  split
  · rfl
  · split
    · rw [lnk_send]
      exact lnk_setLnk_part s n p (fun l => hp l _ _) m
    · exact lnk_setLnk_part s n p (fun l => hp l _ _) m

/-- The turn of one link in SSC_APPLY. -/
def State.sscGive (s : State) (n : Nat) : State :=
  if s.up n then s.setLnk n (fun l => { l with ssc := s.sscProfile n, sscMember := true, sscDue := false })
  else s.setLnk n (fun l => { l with sscDue := true })

/-- What SSC_APPLY brings to link `n` of the state `s`. -/
def SscGiven (s t : State) (n : Nat) : Prop :=
  (s.up n = true → (t.lnk n).sscMember = true ∧ (t.lnk n).ssc = s.sscProfile n) ∧ (s.up n = false → (t.lnk n).sscDue = true)

/-- The registers are those of `s`. -/
def SameRegs (s t : State) : Prop := ∀ F i, t.rd F i = s.rd F i

theorem SameRegs.up (h : SameRegs s t) (n : Nat) : t.up n = s.up n := by
  unfold State.up
  rw [h]

theorem SameRegs.sscProfile (h : SameRegs s t) (n : Nat) : t.sscProfile n = s.sscProfile n := by
  unfold State.sscProfile
  simp only [h _ _]

theorem sscGive_regs (s : State) (n : Nat) : SameRegs s (s.sscGive n) := by
  unfold State.sscGive
  split <;> exact fun _ _ => rfl

theorem sscGive_same (h : SameRegs s t) (n : Nat) : SscGiven s (t.sscGive n) n := by
  unfold State.sscGive
  rw [h.up]
  constructor
  · intro hu
    rw [if_pos hu, lnk_setLnk]
    exact ⟨rfl, h.sscProfile n⟩
  · intro hu
    rw [if_neg (ne_true_of_eq_false hu), lnk_setLnk]

theorem sscGive_ne {n m : Nat} (h : n ≠ m) (t : State) : (t.sscGive n).lnk m = t.lnk m := by
  unfold State.sscGive
  split
  · exact lnk_setLnk_ne _ _ h
  · exact lnk_setLnk_ne _ _ h

theorem SscGiven.of_lnk {n : Nat} (h : SscGiven s t n) (k : u.lnk n = t.lnk n) : SscGiven s u n := by
  unfold SscGiven
  rw [k]
  exact h

theorem SscGiven.sscHead {n : Nat} (h : SscGiven s t n) (m : Nat) : SscGiven s (t.sscHead m) n := by
  unfold SscGiven
  rw [sscHead_part t m Lnk.sscMember (fun _ _ _ => rfl) n, sscHead_part t m Lnk.ssc (fun _ _ _ => rfl) n,
    sscHead_part t m Lnk.sscDue (fun _ _ _ => rfl) n]
  exact h

theorem sscProfile_ne_nil (s : State) (n : Nat) : s.sscProfile n ≠ [] := by
  unfold State.sscProfile
  simp

theorem SscGiven.sscCommit {n : Nat} (hn : n < 24) (h : SscGiven s t n) : SscGiven s t.sscCommit n := by
  cases hu : s.up n with
  | true =>
    obtain ⟨hm, hs⟩ := h.1 hu
    rwa [sscCommit_waits hn hm (hs ▸ sscProfile_ne_nil s n)]
  | false =>
    refine ⟨fun k => absurd k (by rw [hu]; decide), fun _ => ?_⟩
    have hd := h.2 hu
    unfold State.sscCommit
    dsimp only
    split
    · change (State.lnk _ n).sscDue = true
      refine foldl_keeps (fun x : State => (x.lnk n).sscDue = true) hd fun x m hx => ?_
      rw [sscHead_part _ m Lnk.sscDue (fun _ _ _ => rfl) n]
      refine (lnk_setLnk_part x m Lnk.sscDue (f := fun l => { l with sscMember := false, ssc := [sscFrame 3 0] }) (fun _ => rfl) n).trans hx
    · exact hd

theorem SscGiven.sscNext {n : Nat} (hn : n < 24) (h : SscGiven s t n) (m : Nat) : SscGiven s (t.sscNext m) n := by
  unfold State.sscNext
  split
  · exact h.sscCommit hn
  · exact h.sscHead m

/-- Every present link has its profile, or is to have it. -/
theorem sscApply_gives (s : State) {n : Nat} (hn : n < 24) (hp : s.rd GL_CFG.PRESENT n = 1) : SscGiven s s.sscApply n := by
  have hmem : n ∈ idx 24 fun n => s.on GL_CFG.PRESENT n := by simp [idx, hn, on_iff.2 hp]
  have h1 : SscGiven s ((idx 24 fun n => s.on GL_CFG.PRESENT n).foldl State.sscGive (s.setGl fun x => { x with sscRun := true })) n :=
    foldl_meets_once (f := State.sscGive) (P := fun t : State => SscGiven s t n) (I := fun t : State => SameRegs s t) (fun t m _ ht F i => (sscGive_regs t m F i).trans (ht F i))
      (fun t ht => sscGive_same ht n) (fun t m hm ht => ht.of_lnk (sscGive_ne hm t))
      (List.nodup_range.filter _) hmem fun _ _ => rfl
  unfold State.sscApply
  dsimp only
  refine SscGiven.sscCommit hn (foldl_keeps (fun t : State => SscGiven s t n) h1 fun t m ht => ht.sscNext hn m)

/-- A link in TRAIN with its clock running. -/
def Trains (t : State) (n : Nat) : Prop := t.rd GL_STAT.LSTATE n = 1 ∧ (t.lnk n).training = true

theorem Trains.enterTrain {n : Nat} (h : Trains t n) (m : Nat) : Trains (t.enterTrain m) n := by
  by_cases e : m = n
  · rw [e]
    exact enterTrain_trains t n
  · unfold State.enterTrain Trains
    dsimp only
    rw [send_rd, setLnk_rd, rd_wrBit_off (by decide), rd_wr_other (by decide) (Ne.symm e), lnk_send, lnk_setLnk_ne _ _ e,
      lnk_wrBit, lnk_wr]
    exact h

theorem retrain_trains (s : State) {n : Nat} (hn : n < 24) (hp : s.rd GL_CFG.PRESENT n = 1) (hf : s.rd GL_STAT.LSTATE n = 4) :
    Trains s.retrain n := by
  have hmem : n ∈ idx 24 fun n => s.on GL_CFG.PRESENT n && s.rd GL_STAT.LSTATE n == 4 := by
    simp [idx, hn, on_iff.2 hp, hf]
  have h : Trains ((idx 24 fun n => s.on GL_CFG.PRESENT n && s.rd GL_STAT.LSTATE n == 4).foldl State.enterTrain s) n :=
    foldl_meets (f := State.enterTrain) (P := fun t : State => Trains t n) (I := fun _ => True) (fun _ _ _ => trivial) (fun t _ => enterTrain_trains t n) (fun t m ht => ht.enterTrain m)
      hmem trivial
  unfold State.retrain
  refine ⟨(trainEnd_rd (by decide)).trans h.1, ?_⟩
  unfold State.trainEnd
  split
  · rw [lnk_wr]
    exact h.2
  · exact h.2

end Sys2Proof.Machine
end
section
/-! PROOF. What the requests of O53 leave, and the settled statement. -/

namespace Sys2Proof.Machine

/- Every `decide +kernel` waits for the kernel; elaborated one after another, the proofs hold less memory while they wait. -/
set_option Elab.async false

variable {s t u : State} {a : Access}

theorem land_fixedMask_lt (n v : Nat) : Nat.land (fixedMask n) (Nat.lor (v % 32) (8 + if sFixed n then 4 else 0)) < 2 ^ 5 := by
  refine lt_of_le_of_lt Nat.and_le_right (Nat.or_lt_two_pow (by omega) ?_)
  split <;> decide

theorem permEff_safe {n : Nat} (hn : n < 256) : ReadSafe (PERM.EFF.key n) where
  plain := by
    have h : ∀ n < 256, ((GSTAT.SNAP_STALE :: refusalFields).all fun G => G.misses (PERM.EFF.key n)) = true := by decide +kernel
    exact h n hn
  idx r hr := by
    simp only [Fld.key, PERM.EFF, SNT_IDX.IDX, fld]
    omega

theorem permEff_lockIgn (s : State) (n : Nat) : (s.wr GSTAT.LOCK_IGN 0 1).rd PERM.EFF n = s.rd PERM.EFF n :=
  rd_wr_off (by decide) _

theorem permWrite_open {n v : Nat} (h : s.locks.perm = false) : (s.permWrite false n v).rd PERM.EFF n =
    Nat.land (fixedMask n) (Nat.lor (v % 32) (8 + if sFixed n then 4 else 0)) := by
  unfold State.permWrite
  rw [if_neg Bool.false_ne_true, h, if_neg Bool.false_ne_true, rd_wr_same]
  exact Nat.mod_eq_of_lt (land_fixedMask_lt n v)

theorem permWrite_locked {n v : Nat} (h : s.locks.perm = true) : s.permWrite false n v = s.wr GSTAT.LOCK_IGN 0 1 := by
  unfold State.permWrite
  rw [if_neg Bool.false_ne_true, h, if_pos rfl]

theorem logCtrlWritten_FLUSH (s : State) (w : Nat) : (s.logCtrlWritten w).rd LOG_CTRL.FLUSH = 1 := by
  unfold State.logCtrlWritten
  rw [wrField_rd _ _ _ _ _ (by decide) (by decide) (by decide), wrField_rd _ _ _ _ _ (by decide) (by decide) (by decide)]
  exact goSet_on _ _ rfl (by decide)

theorem rearmed_testBit (v : Nat) : ((v ||| 2 ^ 30) % 2 ^ 32).testBit 30 = true := by
  rw [Nat.testBit_mod_two_pow, Nat.testBit_or, Nat.testBit_two_pow_self, Bool.or_true]
  rfl

theorem rearmed_testBit_take {v : Nat} (h : v.testBit 31 = false) : ((v ||| 2 ^ 30) % 2 ^ 32).testBit 31 = false := by
  rw [Nat.testBit_mod_two_pow, Nat.testBit_or, h, Nat.testBit_two_pow]
  rfl

theorem taken_testBit (v : Nat) : (v % 2 ^ 31 + 2 ^ 31).testBit 31 = true := by
  rw [Nat.testBit_eq_decide_div_mod_eq, decide_eq_true_iff]
  omega

/-- REARM without TAKE. -/
theorem hsCtrl_rearms {v : Nat} (h30 : v.testBit 30 = true) (h31 : v.testBit 31 = false) :
    s.hsCtrl v = (s.wr HS_CTRL.FROZEN 0 0).wr HS_CTRL.MISSED 0 0 := by
  unfold State.hsCtrl
  rw [h30, h31]
  rfl

/-- TAKE, after REARM or not. -/
theorem hsCtrl_takes {v : Nat} (h31 : v.testBit 31 = true) (h : s.rd HS_CTRL.FROZEN ≠ 1) :
    (s.hsCtrl v).rd HS_CTRL.FROZEN = 1 ∧ (s.hsCtrl v).rd FW_EVT.HSNAP = 1 := by
  unfold State.hsCtrl
  dsimp only
  rw [h31, if_pos rfl]
  split
  · refine hangSnapshot_takes _ 0 0 ?_
    rw [rd_wr_off (by decide), rd_wr_same]
    decide
  · exact hangSnapshot_takes _ 0 0 h

theorem attWritten_part (s : State) (w : Nat) : (s.attWritten w).em = s.em ∧
    (s.attWritten w).rd EM_ATT_CTRL.CLR_ALL = w / 2 ^ 30 % 2 ∧ (s.attWritten w).rd EM_ATT_CTRL.CLR_PART = w / 2 ^ 24 % 32 := by
  unfold State.attWritten
  refine ⟨?_, ?_, ?_⟩
  · rw [wr_em, wr_em, wr_em]
    exact (kept_goSet (kept_guard s [.em] []) rfl rfl).spared .em rfl
  · rw [rd_wr_off (by decide), rd_wr_off (by decide), rd_wr_same]
    exact Nat.mod_eq_of_lt (Nat.mod_lt _ (by decide))
  · rw [rd_wr_off (by decide), rd_wr_same]
    exact Nat.mod_eq_of_lt (Nat.mod_lt _ (by decide))

theorem bits_28_24 (v : Nat) : (v % 2 ^ 31 + 2 ^ 31) / 2 ^ 24 % 32 = bits 28 24 v := by
  unfold bits
  omega

theorem testBit_30 (v : Nat) : v.testBit 30 = decide ((v % 2 ^ 31 + 2 ^ 31) / 2 ^ 30 % 2 = 1) := by
  rw [Nat.testBit_eq_decide_div_mod_eq]
  exact decide_eq_decide.2 (by omega)

/-- The clears asked for, with the one of the word `v`. -/
def Em.clearsAsked (e : Em) (v : Nat) : Em :=
  { e with clrAll := e.clrAll || v.testBit 30, clrParts := if v.testBit 30 then e.clrParts else bits 28 24 v :: e.clrParts }

/-- The clear that CLR asks for is taken down with what the word says. -/
theorem attWritten_clears (s : State) (v : Nat) :
    ((s.attWritten (v % 2 ^ 31 + 2 ^ 31)).askClear ((s.attWritten (v % 2 ^ 31 + 2 ^ 31)).on EM_ATT_CTRL.CLR_ALL)
      ((s.attWritten (v % 2 ^ 31 + 2 ^ 31)).rd EM_ATT_CTRL.CLR_PART)).em =
    s.em.clearsAsked v := by
  obtain ⟨he, ha, hp⟩ := attWritten_part s (v % 2 ^ 31 + 2 ^ 31)
  have hon : (s.attWritten (v % 2 ^ 31 + 2 ^ 31)).on EM_ATT_CTRL.CLR_ALL = v.testBit 30 := by
    rw [testBit_30, Bool.eq_iff_iff, on_iff, ha, decide_eq_true_iff]
  rw [hon, hp, bits_28_24]
  generalize s.attWritten (v % 2 ^ 31 + 2 ^ 31) = t at he
  unfold State.askClear
  rw [setEm_em, he]
  rfl

theorem lor_one (x : Nat) : Nat.lor x 1 % 2 = 1 := Nat.or_mod_two_eq_one.2 (.inr rfl)

theorem written_em (s u : State) (a : Access) : (s.written u a).em = u.em :=
  (readToo_part _ a _ .em rfl).trans (drive_em ..)

theorem written_lnk (s u : State) (a : Access) (n : Nat) : (s.written u a).lnk n = u.lnk n := by
  have h : (s.written u a).gl = u.gl := (readToo_part _ a _ .gl rfl).trans (drive_gl ..)
  unfold State.lnk
  rw [h]

/-- SSC_APPLY through the port. -/
theorem sscApply_answers (ha : Secure a) (hn : s.rd GL_CTRL.SSC_APPLY ≠ 1) (hh : s.holdover = false) :
    Answers (.sscApply a) s fun t => ∀ n < 24, s.rd GL_CFG.PRESENT n = 1 → SscGiven s t n := by
  obtain ⟨u, hgl, hrd, he⟩ := exec_sscApply ha hn hh
  refine ⟨_, he, fun n hn hp => ?_⟩
  have hg := sscApply_gives u hn ((hrd _ _ (Fld.outside_of_off (by decide) n)).trans hp)
  have hup : u.up n = s.up n := by
    unfold State.up
    rw [hrd _ _ (Fld.outside_of_off (by decide) _)]
  have hph : GL_CFG.PHASES.Outside n (GL_CTRL.SSC_APPLY :: limitFields) := by
    have h : ∀ n < 24, ((GL_CTRL.SSC_APPLY :: limitFields).all fun F => F.misses (GL_CFG.PHASES.key n)) = true := by decide
    exact fun F hF => Fld.ne_key_of_misses (List.all_eq_true.1 (h n hn) F hF)
  have hk : ∀ G : Fld, (GL_CTRL.SSC_APPLY :: limitFields).all G.off = true → u.rd G n = s.rd G n := fun G hG =>
    hrd G n (Fld.outside_of_off hG n)
  have hpr : u.sscProfile n = s.sscProfile n := by
    unfold State.sscProfile
    simp only [hk GL_SSC_A.FC (by decide), hk GL_SSC_A.SPREAD (by decide), hk GL_SSC_A.RATE (by decide),
      hk GL_SSC_B.BASE (by decide), hk GL_SSC_B.PSTEP (by decide), hrd GL_CFG.PHASES n hph]
  have hl : (s.quiet.written u.sscApply a).lnk n = u.sscApply.lnk n := written_lnk ..
  unfold SscGiven at hg ⊢
  rwa [hl, ← hup, ← hpr]

theorem askClear_rd (s : State) (all : Bool) (p : Nat) (F : Fld) (i : Nat) : (s.askClear all p).rd F i = s.rd F i := by
  unfold State.askClear
  exact setEm_rd ..

theorem emAttClr_asks (v : Nat) (ha : Secure a) (hc : s.rd EM_ATT_CTRL.CLR ≠ 1) : ∃ u : State,
    exec (.emAttClr v a) s = .next (s.quiet.written u a) ∧ u.em = s.em.clearsAsked v ∧ u.rd EM_ATT_CTRL.CLR = 1 :=
   by
  have he := exec_emAttClr v ha hc
  have hx := attWritten_clears s.quiet v
  have hk := attWritten_CLR s.quiet (v % 2 ^ 31 + 2 ^ 31)
  generalize s.quiet.attWritten (v % 2 ^ 31 + 2 ^ 31) = w at he hx hk
  exact ⟨_, he, hx, (askClear_rd ..).trans hk⟩

theorem emAttClr_answers (v : Nat) (ha : Secure a) (hc : s.rd EM_ATT_CTRL.CLR ≠ 1) : Answers (.emAttClr v a) s fun t =>
    t.rd EM_ATT_CTRL.CLR = 1 ∧ t.em.clrAll = (s.em.clrAll || v.testBit 30) ∧
      (v.testBit 30 = false → t.em.clrParts = bits 28 24 v :: s.em.clrParts) := by
  obtain ⟨u, hx, hu, hk⟩ := emAttClr_asks v ha hc
  have he := (written_em s.quiet u a).trans hu
  refine ⟨_, hx, (written_rd _ _ _ (by decide) 0).trans hk, congrArg Em.clrAll he, fun hb => (congrArg Em.clrParts he).trans ?_⟩
  rw [Em.clearsAsked, hb]
  rfl

theorem take_answers (v : Nat) (ha : Secure a) (hf : s.rd HS_CTRL.FROZEN ≠ 1) : Answers (.take v a) s fun t =>
    t.rd HS_CTRL.FROZEN = 1 ∧ t.rd FW_EVT.HSNAP = 1 := by
  obtain ⟨h1, h2⟩ := hsCtrl_takes (s := s.quiet) (taken_testBit v) hf
  exact ⟨_, exec_take v ha, (written_rd _ _ _ (by decide) 0).trans h1, (written_rd _ _ _ (by decide) 0).trans h2⟩

theorem rearm_answers {v : Nat} (ha : Secure a) (hb : v.testBit 31 = false) : Answers (.rearm v a) s fun t =>
    t.rd HS_CTRL.FROZEN = 0 ∧ t.rd HS_CTRL.MISSED = 0 := by
  refine ⟨_, exec_rearm v ha, ?_⟩
  rw [hsCtrl_rearms (rearmed_testBit v) (rearmed_testBit_take hb)]
  refine ⟨?_, ?_⟩
  · rw [written_rd _ _ _ (by decide), rd_wr_off (by decide), rd_wr_same]
    rfl
  · rw [written_rd _ _ _ (by decide), rd_wr_same]
    rfl

/-- RETRAIN through the port. -/
theorem retrain_answers (ha : Secure a) (hn : s.rd GL_CTRL.RETRAIN ≠ 1) :
    Answers (.retrain a) s fun t => ∀ n < 24, s.rd GL_CFG.PRESENT n = 1 → s.rd GL_STAT.LSTATE n = 4 → Trains t n := by
  obtain ⟨u, hgl, hrd, he⟩ := exec_retrain ha hn
  refine ⟨_, he, fun n hn hp hf => ?_⟩
  obtain ⟨h1, h2⟩ := retrain_trains u hn ((hrd _ _ (Fld.outside_of_off (by decide) n)).trans hp) ((hrd _ _ (Fld.outside_of_off (by decide) n)).trans hf)
  refine ⟨(written_rd _ _ _ (by decide) n).trans h1, ?_⟩
  have hl : (s.quiet.written u.retrain a).lnk n = u.retrain.lnk n := written_lnk ..
  rw [hl, h2]

end Sys2Proof.Machine

namespace Sys2Proof
open Sys2Proof.Machine

/-- Settles O53: each write is the work of its register, after which only a read of the same cycle may follow. -/
theorem locksAndRequests : Obligations.LocksAndRequests := by
  unfold Obligations.LocksAndRequests
  refine ⟨?_, ?_, ?_, ?_, ?_, ?_, ?_, ?_, ?_, ?_, ?_, ?_, ?_, ?_, ?_, ?_⟩
  · intro a s ha
    exact ⟨⟨_, exec_lockCfg ha, setLocks_spec s a _ _ (join_cfg _)⟩,
      ⟨_, congrArg Host.Outcome.next (axiWrite_LOCK1 1 ha), setLocks_spec s a _ _ (join_perm _)⟩,
      ⟨_, congrArg Host.Outcome.next (axiWrite_LOCK1 2 ha), setLocks_spec s a _ _ (join_transport _)⟩,
      ⟨_, congrArg Host.Outcome.next (axiWrite_LOCK1 4 ha), setLocks_spec s a _ _ (join_fw _)⟩,
      ⟨_, congrArg Host.Outcome.next (axiWrite_LOCK1 8 ha), setLocks_spec s a _ _ (join_diag _)⟩⟩
  · intro n v a s hn ha hl
    refine ⟨_, exec_permEffWrite v hn ha, ?_⟩
    refine (written_rd_safe _ _ a (permEff_safe hn)).trans ?_
    rw [permWrite_open (s := s.quiet) hl, show v % 2 ^ 32 % 32 = v % 32 by omega]
  · intro n v a s hn ha hl
    refine ⟨_, exec_permEffWrite v hn ha, ?_⟩
    rw [permWrite_locked (s := s.quiet) hl]
    exact ⟨(written_rd_safe _ _ a (permEff_safe hn)).trans (permEff_lockIgn ..),
      (written_rd _ _ _ (by decide) 0).trans (rd_wr_same ..)⟩
  · intro a s ha hn
    refine ⟨_, exec_peakClr ha, (written_rd _ _ _ (by decide) 0).trans (goSet_on _ _ rfl (by decide)), ?_⟩
    rw [goSet_new (s := s.quiet) hn]
    exact (written_rd _ _ _ (by decide) 0).trans (rd_wr_off (by decide) _)
  · intro a s ha hn
    refine ⟨_, exec_peakClr ha, (written_rd _ _ _ (by decide) 0).trans (goSet_on _ _ rfl (by decide)), ?_⟩
    rw [goSet_again (s := s.quiet) hn]
    exact (written_rd _ _ _ (by decide) 0).trans (rd_wr_same ..)
  · exact fun v a s ha hc => emAttClr_answers v ha hc
  · intro v a s ha
    refine ⟨_, exec_arm v ha, (written_rd _ _ _ (by decide) 0).trans ?_⟩
    rw [wrField_rd _ _ _ _ _ (by decide) (by decide) (by decide)]
    exact goSet_on _ _ rfl (by decide)
  · intro a s ha
    refine ⟨_, exec_rcClrErr ha, ?_, (written_rd _ _ _ (by decide) 0).trans (rd_wr_off (by decide) _)⟩
    rw [written_rd _ _ _ (by decide), rd_wr_same]
    exact lor_one _
  · intro p a s hp ha he hq
    refine ⟨_, exec_pwSnap hp ha he hq, ?_, ?_⟩
    · rw [written_rd _ _ _ (by decide), rd_wr_off (by decide), rd_wr_same]
      rfl
    · rw [written_rd _ _ _ (by decide), rd_wr_same]
      rfl
  · intro v a s ha
    obtain ⟨w, he⟩ := exec_flush (s := s) v ha
    refine ⟨_, he, (written_rd _ _ _ (by decide) 0).trans ?_⟩
    split
    · exact logCtrlWritten_FLUSH ..
    · exact logCtrlWritten_FLUSH ..
  · exact fun v a s ha hf => take_answers v ha hf
  · exact fun v a s ha hb => rearm_answers ha hb
  · intro v a s ha hn
    obtain ⟨h1, h2, h3, h4, h5⟩ := heartbeat_spec (s := s.quiet) hn
    have hr := readToo_part ((s.quiet.heartbeat (v / 2 ^ 16 % 2 ^ RC_HB.COUNT.width)).drive (.busWrite true)) a
      (s.quiet.on GSTAT.ACCESS_ERR) .rc rfl
    refine ⟨_, exec_rcHb v ha, (congrArg Rc.hbCount hr).trans h1, (congrArg Rc.hbAt hr).trans h2, (congrArg Rc.missAt hr).trans h3,
      (written_rd _ _ _ (by decide) 0).trans h4, fun hl => (written_rd _ _ _ (by decide) 0).trans (h5 hl)⟩
  · intro v a s ha hc
    refine ⟨_, exec_rcHb v ha, ?_⟩
    have hh : s.quiet.heartbeat (v / 2 ^ 16 % 2 ^ RC_HB.COUNT.width) = s.quiet.inc RC_HB_CNT.REPEAT := if_pos hc
    rw [hh]
    refine ⟨(readToo_part _ a _ .rc rfl).trans (inc_rc ..), ?_⟩
    rw [written_rd _ _ _ (by decide), rd_inc_same]
    rfl
  · exact fun a s ha hn hh => sscApply_answers ha hn hh
  · exact fun a s ha hn => retrain_answers ha hn

end Sys2Proof
end
section
/-! PROOF. A command of one unit leaves the other units alone (O36). -/

namespace Sys2Proof.Machine

/- Every `decide +kernel` waits for the kernel; elaborated one after another, the proofs hold less memory while they wait. -/
set_option Elab.async false

variable {s t u : State} {n m : Nat} {fs : List Fld} {F G : Fld}

/-! ### The bits of the other units -/

/-- The bit addresses of the fields `fs` of every unit below `m`. -/
def unitBits (m : Nat) (fs : List Fld) : List Nat :=
  fs.flatMap fun F => (List.range m).map F.key

/-- Those of every unit but `n`. -/
def otherBits (n m : Nat) (fs : List Fld) : List Nat :=
  fs.flatMap fun F => ((List.range m).filter (· != n)).map F.key

theorem mem_otherBits {a : Nat} : a ∈ otherBits n m fs ↔ ∃ F ∈ fs, ∃ j < m, j ≠ n ∧ F.key j = a := by
  simp only [otherBits, List.mem_flatMap, List.mem_map, List.mem_filter, List.mem_range, bne_iff_ne, and_assoc]

theorem unitBits_of_otherBits {a : Nat} (h : a ∈ otherBits n m fs) : a ∈ unitBits m fs := by
  obtain ⟨F, hF, j, hj, -, rfl⟩ := mem_otherBits.1 h
  exact List.mem_flatMap.2 ⟨F, hF, List.mem_map.2 ⟨j, List.mem_range.2 hj, rfl⟩⟩

/-- The other units' bits are as in `s`. -/
abbrev Bounds.others (s : State) (n m : Nat) (fs : List Fld) : Bounds := .spare s [] (otherBits n m fs)

/-- A field that lies apart from every unit may be written. -/
theorem others_fld (h : (unitBits m fs).all G.misses = true) : (Bounds.others s n m fs).fld G :=
  List.all_eq_true.2 fun _ ha => List.all_eq_true.1 h _ (unitBits_of_otherBits ha)

theorem others_logs (h : (logFields.all fun G => (unitBits m fs).all G.misses) = true) : Logs (.others s n m fs) :=
  ⟨rfl, rfl, fun _ hG => others_fld (List.all_eq_true.1 h _ hG)⟩

/-- Instance `n` of a field, as a field of one instance. -/
def Fld.only (F : Fld) (n : Nat) : Fld := { F with base := F.key n, stride := 0, reset := fun _ => F.reset n }

theorem Fld.only_misses {a : Nat} (h : a ≠ F.key n) : (F.only n).misses a = true := by
  unfold Fld.misses Fld.only
  rw [Nat.mod_zero, Bool.or_eq_true, decide_eq_true_iff, bne_iff_ne]
  change a < F.key n ∨ a - F.key n ≠ 0
  omega

theorem wr_only (s : State) (F : Fld) (n v : Nat) : s.wr F n v = s.wr (F.only n) 0 v := by
  have hk : (F.only n).key 0 = F.key n := by simp [Fld.key, Fld.only]
  unfold State.wr
  rw [hk]
  rfl

/-- The unit's own fields may be written. -/
theorem others_wr (h : Kept (.others s n m fs) t) (hG : (fs.all fun F => F.beside G) = true) (v : Nat) :
    Kept (.others s n m fs) (t.wr G n v) := by
  rw [wr_only]
  refine kept_wr h (List.all_eq_true.2 fun a ha => ?_)
  obtain ⟨F, hF, j, -, hj, rfl⟩ := mem_otherBits.1 ha
  exact Fld.only_misses (Fld.key_ne_of_beside (List.all_eq_true.1 hG F hF) hj)

theorem others_inc (h : Kept (.others s n m fs) t) (hG : (fs.all fun F => F.beside G) = true) :
    Kept (.others s n m fs) (t.inc G n) := others_wr h hG _

theorem others_rd (h : Kept (.others s n m fs) t) : ∀ F ∈ fs, ∀ j < m, j ≠ n → t.rd F j = s.rd F j := fun F hF j hj hn =>
  h.spared_key (mem_otherBits.2 ⟨F, hF, j, hj, hn, rfl⟩)

theorem others_start (s : State) (n m : Nat) (fs : List Fld) : Kept (.others s n m fs) s.quiet :=
  kept_quiet (kept_spare ..) rfl

/-! ### Tasks, cells and rail groups -/

/-- The command leaves the other units alone. -/
def KeepsOthers (c : Instr) (s : State) (n m : Nat) (fs : List Fld) : Prop :=
  ∃ t, exec c s = .next t ∧ Kept (.others s n m fs) t

theorem domPromote_apart (n : Nat) : KeepsOthers (.domPromote n) s n 10 [DOM_STAT.PROMOTED] := by
  have h := others_start s n 10 [DOM_STAT.PROMOTED]
  exact ⟨_, rfl, kept_ite (others_wr h (by decide) _) h⟩

theorem domOverdue_apart (n : Nat) : KeepsOthers (.domOverdue n) s n 10 [DOM_STAT.OVERDUE] := by
  have h := others_start s n 10 [DOM_STAT.OVERDUE]
  exact ⟨_, rfl, kept_ite (kept_raiseLog (others_inc (kept_setTask h rfl) (by decide)) (others_logs (by decide +kernel))
    (others_fld (by decide +kernel))) h⟩

theorem featherTrigger_apart (n k lvl cyc : Nat) : KeepsOthers (.featherTrigger n k lvl cyc) s n 192 [SNT_CNT.FTH_EVT] := by
  have h := others_start s n 192 [SNT_CNT.FTH_EVT]
  refine ⟨_, rfl, kept_ite h (kept_ite (kept_setSent h rfl) (kept_ite ?_ h))⟩
  have h1 := others_inc (G := SNT_CNT.FTH_EVT) h (by decide)
  exact kept_ite (kept_setSent h1 rfl) (kept_setSent h1 rfl)

theorem ceilRise_apart (n : Nat) : KeepsOthers (.ceilRise n) s n 12 [RG_STAT.CEIL] := by
  have h := others_start s n 12 [RG_STAT.CEIL]
  exact ⟨_, rfl, kept_ite h (kept_ite (others_wr (kept_setGrp h rfl) (by decide) _) h)⟩

theorem imonFault_apart (n : Nat) : KeepsOthers (.imonFault n) s n 12 [RG_STAT.IMON_FAULT] := by
  have h := others_start s n 12 [RG_STAT.IMON_FAULT]
  exact ⟨_, rfl, kept_ite h (kept_ite (kept_raise (others_wr (kept_setGrp h rfl) (by decide) _) (others_logs (by decide +kernel))
    (others_fld (by decide +kernel))) h)⟩

theorem imonValid_apart (n : Nat) : KeepsOthers (.imonValid n) s n 12 [RG_STAT.IMON_FAULT] := by
  have h := others_start s n 12 [RG_STAT.IMON_FAULT]
  exact ⟨_, rfl, kept_ite h (kept_ite (others_wr (kept_setGrp h rfl) (by decide) _) h)⟩

/-! ### Domains -/

theorem others_enter (h : Kept (.others s n m fs) t) (hF : (fs.all fun F => F.beside SWD_STAT.STATE) = true) (st : Nat) :
    Kept (.others s n m fs) (t.enter n st) := kept_setDom (others_wr h hF st) rfl

theorem rampUpEnd_apart (n : Nat) : KeepsOthers (.rampUpEnd n) s n 248 [SWD_STAT.STATE] := by
  have h := others_start s n 248 [SWD_STAT.STATE]
  exact ⟨_, rfl, kept_ite h (kept_ite (others_enter (kept_freeSlot h rfl (others_fld (by decide +kernel))) (by decide) _) h)⟩

theorem drainStart_apart (n : Nat) : KeepsOthers (.drainStart n) s n 248 [SWD_STAT.STATE, SWD_STAT.PEND] := by
  have h := others_start s n 248 [SWD_STAT.STATE, SWD_STAT.PEND]
  exact ⟨_, rfl, kept_ite h (kept_ite (kept_drive (others_enter (kept_setDom (others_wr (G := SWD_STAT.PEND) h (by decide) 0) rfl)
    (by decide) _) rfl) h)⟩

theorem rampDownEnd_others (h : Kept (.others s n 248 [SWD_STAT.STATE]) t) :
    Kept (.others s n 248 [SWD_STAT.STATE]) (t.rampDownEnd n) := by
  unfold State.rampDownEnd
  refine kept_ite h (kept_ite (kept_reach (kept_setDom (kept_wr ?_ ?_) rfl) rfl) h)
  · exact others_enter (kept_freeSlot h rfl (others_fld (by decide +kernel))) (by decide) _
  · exact others_fld (by decide +kernel)

theorem requestOff_others (h : Kept (.others s n 248 [SWD_STAT.PEND]) t) :
    Kept (.others s n 248 [SWD_STAT.PEND]) (t.requestOff n) := by
  have hf : Kept (.others s n 248 [SWD_STAT.PEND]) (if t.rd SWD_STAT.PEND n = 1 then t.failRequest n stCONFLICT else t) :=
    kept_ite (kept_failRequest h rfl) h
  unfold State.requestOff
  split
  · exact kept_setDom (others_wr h (by decide) _) rfl
  · exact kept_setDom (others_wr h (by decide) _) rfl
  · exact kept_setDom (others_wr h (by decide) _) rfl
  · exact kept_setDom (kept_endRequest (kept_wr (others_wr hf (by decide) _) (others_fld (by decide +kernel))) rfl) rfl
  · exact kept_endRequest (others_wr hf (by decide) _) rfl

theorem idleGate_apart (n : Nat) : KeepsOthers (.idleGate n) s n 248 [SWD_STAT.PEND] := by
  have h := others_start s n 248 [SWD_STAT.PEND]
  exact ⟨_, rfl, kept_ite h (kept_ite (kept_setDom (requestOff_others h) rfl) h)⟩

theorem waitTimeout_apart (n : Nat) : KeepsOthers (.waitTimeout n) s n 248 [SWD_STAT.PEND, SWD_STAT.WAIT_SLOT] := by
  have h := others_start s n 248 [SWD_STAT.PEND, SWD_STAT.WAIT_SLOT]
  have h1 := others_wr (G := SWD_STAT.WAIT_SLOT) (kept_inc (F := BG_WAIT_CNT.TIMEOUTS) (i := 0) h (others_fld (by decide +kernel)))
    (by decide) 0
  refine ⟨_, rfl, kept_ite h (kept_ite (kept_ite ?_ (kept_setDom (kept_setBg h1 rfl) rfl)) h)⟩
  exact kept_raise (kept_inc (kept_endRequest (kept_failRequest (others_wr h1 (by decide) 0) rfl) rfl)
    (others_fld (by decide +kernel))) (others_logs (by decide +kernel)) (others_fld (by decide +kernel))

/-! ### Regulator links and loop sets -/

theorem linkSuspect_apart (n : Nat) : KeepsOthers (.linkSuspect n) s n 24 [GL_STAT.LSTATE] := by
  have h := others_start s n 24 [GL_STAT.LSTATE]
  exact ⟨_, rfl, kept_ite h (kept_ite (kept_setLnk (others_wr h (by decide) _) rfl) h)⟩

theorem faultRetrain_apart (n : Nat) : KeepsOthers (.faultRetrain n) s n 24 [GL_STAT.LSTATE] := by
  have h := others_start s n 24 [GL_STAT.LSTATE]
  exact ⟨_, rfl, kept_ite h (kept_ite (kept_send (kept_setLnk (kept_wrBit (others_wr h (by decide) _)
    (others_fld (by decide +kernel))) rfl) rfl) h)⟩

theorem receiveError_apart (n w : Nat) : KeepsOthers (.receiveError n w) s n 24 [GL_ERR.RXERR] := by
  have h := others_start s n 24 [GL_ERR.RXERR]
  have h1 := kept_raise (e := .GL_RXERR) (a := arg0 n 0) (b := 0) (others_inc (G := GL_ERR.RXERR) h (by decide))
    (others_logs (by decide +kernel)) (others_fld (by decide +kernel))
  exact ⟨_, rfl, kept_ite h (kept_ite (kept_ite (kept_setLnk h1 rfl) (kept_goodSlot h1 rfl)) (kept_ite (kept_goodSlot h rfl) h))⟩

/-- The registers of a warning, taken down. -/
theorem warned_others (h : Kept (.others s n 24 [GL_STAT.WARN, GL_TEL0.TEMP, GL_FAULT_CNT.WARNS]) t) (v : Nat) (b : Bool) :
    Kept (.others s n 24 [GL_STAT.WARN, GL_TEL0.TEMP, GL_FAULT_CNT.WARNS]) ((t.wr GL_STAT.WARN n v).wrBit GL_WARN.WARN 0 n b) :=
  kept_wrBit (others_wr h (by decide) v) (others_fld (by decide +kernel))

theorem warn_apart (n w : Nat) : KeepsOthers (.warn n w) s n 24 [GL_STAT.WARN, GL_TEL0.TEMP, GL_FAULT_CNT.WARNS] := by
  have h := others_start s n 24 [GL_STAT.WARN, GL_TEL0.TEMP, GL_FAULT_CNT.WARNS]
  have hl : Logs (.others s n 24 [GL_STAT.WARN, GL_TEL0.TEMP, GL_FAULT_CNT.WARNS]) := others_logs (by decide +kernel)
  have hg := kept_goodSlot (a2 := n) h rfl
  have h1 := kept_raise (e := .GL_WARN) (a := arg0 n 0) (b := 0) (others_wr (G := GL_TEL0.TEMP) (kept_setLnk (a2 := n)
    (a3 := fun l => { l with warnT := some (toSigned 16 (bits 23 8 w)) }) (others_inc (G := GL_FAULT_CNT.WARNS)
      (warned_others hg 1 true) (by decide)) rfl) (by decide) (bits 23 8 w)) hl (others_fld (by decide +kernel))
  have h0 := kept_setLnk (a2 := n) (a3 := fun l => { l with warnT := none }) (warned_others hg 0 false) rfl
  refine ⟨_, rfl, kept_ite h (kept_ite (kept_ite ?_ (kept_ite ?_ hg)) h)⟩
  · dsimp only
    split
    · exact kept_raise (kept_setVrw h1 rfl) hl (others_fld (by decide +kernel))
    · exact kept_ite (kept_setVrw h1 rfl) h1
  · dsimp only
    split
    · exact kept_ite h0 (kept_setVrw h0 rfl)
    · exact h0

theorem openTimeout_apart (n : Nat) : KeepsOthers (.openTimeout n) s n 4 [ENG_SETST.OPEN_MS] := by
  have h := others_start s n 4 [ENG_SETST.OPEN_MS]
  refine ⟨_, rfl, kept_ite (kept_raiseLog ?_ (others_logs (by decide +kernel)) (others_fld (by decide +kernel))) h⟩
  exact kept_ite (kept_startRamp (others_wr (kept_wrBit h (others_fld (by decide +kernel))) (by decide) 0) rfl) h

/-! ### Mailboxes -/

theorem mailboxTake_apart (n : Nat) : KeepsOthers (.mailboxTake n) s n 16 [MB_CTL.GO] := by
  have h := others_start s n 16 [MB_CTL.GO]
  have hf : ∀ G ∈ [CMD_CNT.DUP, CMD_CNT.STALE] ++ replyFields, (Bounds.others s n 16 [MB_CTL.GO]).fld G := by
    have hd : (([CMD_CNT.DUP, CMD_CNT.STALE] ++ replyFields).all fun G => (unitBits 16 [MB_CTL.GO]).all G.misses) = true := by
      decide +kernel
    exact fun G hG => others_fld (List.all_eq_true.1 hd G hG)
  have hl : Logs (.others s n 16 [MB_CTL.GO]) := ⟨rfl, rfl, fun G hG => hf G (by simp [replyFields, hG])⟩
  have h1 := kept_owe (a2 := n) (others_wr (G := MB_CTL.GO) h (by decide) 0) (hf _ (by simp [replyFields])) (hf _ (by simp [replyFields]))
  refine ⟨_, rfl, kept_ite (kept_answerUndefined (kept_arrive h1 rfl rfl hl ?_ ?_ ?_ ?_ ?_ ?_ ?_ ?_ ?_ ?_ ?_ ?_ ?_ ?_) rfl rfl hl
    ?_ ?_ ?_ ?_ ?_ ?_ ?_ ?_ ?_ ?_ ?_ ?_) h⟩
  all_goals exact hf _ (by simp [replyFields])

/-! ### Writes at the port -/

/-- The bits of the fields `fs` of every unit below `m` that no read at the port writes. -/
theorem readSafe_units (h : ((GSTAT.SNAP_STALE :: refusalFields).all fun G => (unitBits m fs).all G.misses) = true)
    (hi : ∀ F ∈ fs, ∀ j < m, ∀ r < 192, F.key j ≠ SNT_IDX.IDX.key r) : ∀ F ∈ fs, ∀ j < m, ReadSafe (F.key j) := fun F hF j hj =>
  ⟨List.all_eq_true.2 fun G hG => List.all_eq_true.1 (List.all_eq_true.1 h G hG) _
    (List.mem_flatMap.2 ⟨F, hF, List.mem_map.2 ⟨j, List.mem_range.2 hj, rfl⟩⟩), hi F hF j hj⟩

/-- A write at the port changes what the register's write changes, and what a read or a refusal writes. -/
theorem axiWrite_rd (a : Access) (off v : Nat) {i : Nat} (h : ReadSafe (F.key i))
    (hw : (s.writeWord (accOf a) off (v % 2 ^ 32)).rd F i = s.rd F i) : (s.axiWrite a off v).rd F i = s.rd F i := by
  cases hc : s.accessCause (accOf a) true off with
  | some c => rw [axiWrite_refused v hc, readToo_rd_safe _ _ _ h, drive_rd, accessError_rd _ _ _ _ _ h.refusal]
  | none =>
    by_cases hs : a.strb = 0
    · rw [axiWrite_unstrobed v hc hs, readToo_rd_safe _ _ _ h, drive_rd]
    · rw [axiWrite_passed v hc hs, readToo_rd_safe _ _ _ h, drive_rd, hw]

/-- A command that writes the register of one unit leaves the other units alone. -/
theorem write_apart {c : Instr} {k off v : Nat} {a : Access} (hx : exec c s = .next (if k ≤ n then s.quiet else s.quiet.axiWrite a off v))
    (hr : ∀ F ∈ fs, ∀ j < m, ReadSafe (F.key j)) (hw : n < k → Kept (.others s n m fs) (s.quiet.writeWord (accOf a) off (v % 2 ^ 32))) :
    Answers c s (fun t => ∀ F ∈ fs, ∀ j < m, j ≠ n → t.rd F j = s.rd F j) := by
  refine ⟨_, hx, fun F hF j hj hn => ?_⟩
  split
  · rfl
  · exact axiWrite_rd a off v (hr F hF j hj) (others_rd (hw (Nat.lt_of_not_le ‹_›)) F hF j hj hn)

/-- The control fields of a mailbox. -/
def mbCtlFields : List Fld := [MB_CTL.GO, MB_CTL.RDY, MB_CTL.BUSY, MB_CTL.WIGN, MB_CTL.RQ]

section
variable (hf : ∀ G ∈ mbCtlFields, (fs.all fun F => F.beside G) = true) (hd : (unitBits m fs).all MB_D.DATA.misses = true)
include hf hd

theorem mbFetch_others (h : Kept (.others s n m fs) t) : Kept (.others s n m fs) (t.mbFetch n) := by
  have h1 := others_wr (G := MB_CTL.RDY) h (hf _ (by simp [mbCtlFields])) 0
  unfold State.mbFetch
  dsimp only
  split
  · exact h1
  · exact others_wr (others_wr (kept_setBus (kept_upTo h1 fun i u hu => kept_wr hu (others_fld hd)) rfl)
      (hf _ (by simp [mbCtlFields])) _) (hf _ (by simp [mbCtlFields])) 1

theorem mbCtlWrite_others (h : Kept (.others s n m fs) t) (v : Nat) : Kept (.others s n m fs) (t.mbCtlWrite n v) := by
  have hw : ∀ (G : Fld) (v : Nat) (u : State), G ∈ mbCtlFields → Kept (.others s n m fs) u → Kept (.others s n m fs) (u.wr G n v) :=
    fun G v u hG hu => others_wr hu (hf G hG) v
  have h1 := kept_ite (c := v.testBit 28 = true) (hw MB_CTL.BUSY 0 _ (by simp [mbCtlFields]) h) h
  have h2 := kept_ite (c := v.testBit 27 = true) (hw MB_CTL.WIGN 0 _ (by simp [mbCtlFields]) h1) h1
  unfold State.mbCtlWrite
  extract_lets u1 u2 go fetch u3 take u4
  have h3 : Kept (.others s n m fs) u3 := kept_ite (hw MB_CTL.WIGN 1 _ (by simp [mbCtlFields]) h2) h2
  have h4 : Kept (.others s n m fs) u4 :=
    kept_ite (hw MB_CTL.RDY 0 _ (by simp [mbCtlFields]) (hw MB_CTL.GO 1 _ (by simp [mbCtlFields]) h3)) h3
  exact kept_ite h3 (kept_ite (kept_ite (hw MB_CTL.BUSY 1 _ (by simp [mbCtlFields]) h3) h3)
    (kept_ite (kept_ite (hw MB_CTL.BUSY 1 _ (by simp [mbCtlFields]) h4) h4) (mbFetch_others hf hd h3)))

end

variable {a : Access}

theorem go_apart (n : Nat) : Answers (.go n a) s fun t => ∀ F ∈ [MB_CTL.GO], ∀ j < 16, j ≠ n → t.rd F j = s.rd F j :=
  write_apart (k := 16) rfl (readSafe_units (by decide +kernel) (by decide +kernel)) fun hn => by
    rw [writeWord_mbCtl hn]
    exact mbCtlWrite_others (by decide) (by decide +kernel) (others_start ..) _

theorem fetch_apart (n : Nat) : Answers (.fetch n a) s fun t => ∀ F ∈ [MB_CTL.RDY], ∀ j < 16, j ≠ n → t.rd F j = s.rd F j :=
  write_apart (k := 16) rfl (readSafe_units (by decide +kernel) (by decide +kernel)) fun hn => by
    rw [writeWord_mbCtl hn]
    exact mbCtlWrite_others (by decide) (by decide +kernel) (others_start ..) _

theorem sqTailWrite_apart (r v : Nat) : Answers (.sqTailWrite r v a) s fun t => ∀ F ∈ [RING_SQ.TAIL], ∀ j < 15, j ≠ r →
    t.rd F j = s.rd F j :=
  write_apart (k := 15) rfl (readSafe_units (by decide +kernel) (by decide +kernel)) fun hr => by
    rw [writeWord_ringSq hr]
    exact kept_ite (others_wr (others_start ..) (by decide) _) (others_wr (others_start ..) (by decide) _)

theorem cqHeadWrite_apart (r v : Nat) : Answers (.cqHeadWrite r v a) s fun t => ∀ F ∈ [RING_CQ.HEAD], ∀ j < 15, j ≠ r →
    t.rd F j = s.rd F j :=
  write_apart (k := 15) rfl (readSafe_units (by decide +kernel) (by decide +kernel)) fun hr => by
    rw [writeWord_ringCq hr]
    exact kept_ite (others_wr (others_start ..) (by decide) _) (others_wr (others_start ..) (by decide) _)

theorem permEffWrite_apart (n v : Nat) : Answers (.permEffWrite n v a) s fun t => ∀ F ∈ [PERM.EFF], ∀ j < 256, j ≠ n →
    t.rd F j = s.rd F j := by
  refine write_apart (k := 256) rfl (fun F hF j hj => ?_) fun hn => ?_
  · rw [List.mem_singleton.1 hF]
    exact permEff_safe hj
  · rw [writeWord_perm hn]
    have h := others_start s n 256 [PERM.EFF]
    exact kept_ite h (kept_ite (kept_wr h (others_fld (by decide +kernel))) (others_wr h (by decide) _))

theorem pwSnap_apart (p : Nat) : Answers (.pwSnap p a) s fun t => ∀ F ∈ [PW_STAT.PEND], ∀ j < 32, j ≠ p → t.rd F j = s.rd F j :=
  write_apart (k := 32) rfl (readSafe_units (by decide +kernel) (by decide +kernel)) fun hp => by
    rw [writeWord_pwCtrl hp]
    have h := others_start s p 32 [PW_STAT.PEND]
    exact kept_ite h (kept_ite (kept_wr h (others_fld (by decide +kernel))) (others_wr (others_wr h (by decide) _) (by decide) _))

/-! ### The settled statement -/

theorem rampDownEnd_apart (n : Nat) : Answers (.rampDownEnd n) s fun t => ∀ F ∈ [SWD_STAT.STATE], ∀ j < 248, j ≠ n →
    t.rd F j = s.rd F j := by
  refine ⟨_, rfl, fun F hF j hj hn => ?_⟩
  rw [List.mem_singleton.1 hF, allOff_rd (.inl rfl)]
  exact others_rd (rampDownEnd_others (others_start ..)) _ List.mem_cons_self j hj hn

theorem KeepsOthers.answers {c : Instr} (h : KeepsOthers c s n m fs) :
    Answers c s fun t => ∀ F ∈ fs, ∀ j < m, j ≠ n → t.rd F j = s.rd F j := by
  obtain ⟨t, hx, hk⟩ := h
  exact ⟨t, hx, others_rd hk⟩

end Sys2Proof.Machine

namespace Sys2Proof
open Sys2Proof.Machine

/-- Settles O36: every write of such a command goes to its own unit's instance, or lies apart from these fields. -/
theorem unitsKeptApart : Obligations.UnitsKeptApart := by
  unfold Obligations.UnitsKeptApart
  intro c n m fs s h
  cases c
  case domPromote => cases h; exact (domPromote_apart _).answers
  case domOverdue => cases h; exact (domOverdue_apart _).answers
  case featherTrigger => cases h; exact (featherTrigger_apart ..).answers
  case ceilRise => cases h; exact (ceilRise_apart _).answers
  case imonFault => cases h; exact (imonFault_apart _).answers
  case imonValid => cases h; exact (imonValid_apart _).answers
  case rampUpEnd => cases h; exact (rampUpEnd_apart _).answers
  case drainStart => cases h; exact (drainStart_apart _).answers
  case rampDownEnd => cases h; exact rampDownEnd_apart _
  case idleGate => cases h; exact (idleGate_apart _).answers
  case waitTimeout => cases h; exact (waitTimeout_apart _).answers
  case linkSuspect => cases h; exact (linkSuspect_apart _).answers
  case faultRetrain => cases h; exact (faultRetrain_apart _).answers
  case receiveError => cases h; exact (receiveError_apart ..).answers
  case warn => cases h; exact (warn_apart ..).answers
  case openTimeout => cases h; exact (openTimeout_apart _).answers
  case mailboxTake => cases h; exact (mailboxTake_apart _).answers
  case go => cases h; exact go_apart _
  case fetch => cases h; exact fetch_apart _
  case sqTailWrite => cases h; exact sqTailWrite_apart ..
  case cqHeadWrite => cases h; exact cqHeadWrite_apart ..
  case permEffWrite => cases h; exact permEffWrite_apart ..
  case pwSnap => cases h; exact pwSnap_apart _
  all_goals exact absurd h (by simp [unitFields])

end Sys2Proof
end
section
/-! PROOF. Accesses at the configuration port (O54): refusals, the read in the hub cycle of a write, plain fields, event bits and
pairs. -/

namespace Sys2Proof.Machine

/- Every `decide +kernel` waits for the kernel; elaborated one after another, the proofs hold less memory while they wait. -/
set_option Elab.async false

variable {s t u : State} {a : Access} {F : Fld} {i : Nat}

/-! ### Access errors -/

theorem incSat_rd (s : State) (F : Fld) (k : Nat) : (s.incSat F 0 k).rd F = min (s.rd F + k) (2 ^ F.width - 1) := by
  unfold State.incSat
  rw [rd_wr_same]
  exact Nat.mod_eq_of_lt (lt_of_le_of_lt (min_le_right ..) (Nat.sub_lt (Nat.two_pow_pos _) Nat.one_pos))

/-- What an access error leaves. -/
theorem accessError_spec (s : State) (b : BusAcc) (w : Bool) (off c : Nat) :
    (s.accessError b w off c).rd GSTAT.ACCESS_ERR = 1 ∧
    (s.accessError b w off c).rd ACC_ERR_INFO.COUNT = min (s.rd ACC_ERR_INFO.COUNT + 1) (2 ^ ACC_ERR_INFO.COUNT.width - 1) ∧
    (s.rd GSTAT.ACCESS_ERR ≠ 1 → (s.accessError b w off c).rd ACC_ERR_INFO.CAUSE = c % 2 ^ ACC_ERR_INFO.CAUSE.width ∧
      (s.accessError b w off c).rd ACC_ERR_ADDR.ADDR = off % 2 ^ ACC_ERR_ADDR.ADDR.width) := by
  have hc := incSat_rd s ACC_ERR_INFO.COUNT 1
  unfold State.accessError
  dsimp only
  by_cases h : s.rd GSTAT.ACCESS_ERR = 1
  · rw [if_pos (on_iff.2 h)]
    refine ⟨?_, hc, fun k => absurd h k⟩
    rw [State.incSat, rd_wr_off (by decide), h]
  · rw [if_neg fun k => h (on_iff.1 k)]
    generalize s.incSat ACC_ERR_INFO.COUNT 0 1 = t at hc
    unfold State.wrB
    refine ⟨?_, ?_, fun _ => ⟨?_, ?_⟩⟩
    · rw [rd_wr_same]
      rfl
    · rw [rd_wr_off (by decide), rd_wr_off (by decide), rd_wr_off (by decide), rd_wr_off (by decide), rd_wr_off (by decide),
        rd_wr_off (by decide), rd_wr_off (by decide), hc]
    · rw [rd_wr_off (by decide), rd_wr_same]
    · rw [rd_wr_off (by decide), rd_wr_off (by decide), rd_wr_off (by decide), rd_wr_off (by decide), rd_wr_off (by decide),
        rd_wr_off (by decide), rd_wr_same]

/-- While a capture is held, a further error is only counted. -/
theorem accessError_held (h : s.rd GSTAT.ACCESS_ERR = 1) (b : BusAcc) (w : Bool) (off c : Nat)
    (hF : F.off ACC_ERR_INFO.COUNT = true) : (s.accessError b w off c).rd F i = s.rd F i := by
  unfold State.accessError
  dsimp only
  rw [if_pos (on_iff.2 h), State.incSat, rd_wr_off hF]

theorem accessError_emit (s : State) (b : BusAcc) (w : Bool) (off c : Nat) : (s.accessError b w off c).emit = s.emit :=
  (kept_accessError (kept_guard s [.emit] []) rfl rfl rfl rfl rfl rfl rfl rfl).spared .emit rfl

/-! ### Reads -/

theorem snapRead_emit (s : State) (key id : Nat) (hi : Bool) (v : Nat) : (s.snapRead key id hi v).2.emit = s.emit := by
  unfold State.snapRead
  dsimp only
  split
  · split
    · rfl
    · exact wr_emit ..
  · rfl

/-- A word read through Table 15.1 drives nothing of its own and writes SNAP_STALE or SNT_IDX at most. -/
theorem readWord_keeps (s : State) (b : BusAcc) (off : Nat) : (s.readWord b off).2.emit = s.emit ∧
    ∀ (F : Fld) (i : Nat), F.key i ≠ GSTAT.SNAP_STALE.key 0 → (∀ r < 192, F.key i ≠ SNT_IDX.IDX.key r) →
      (s.readWord b off).2.rd F i = s.rd F i := by
  have hs : ∀ key id hi v, (s.snapRead key id hi v).2.emit = s.emit ∧ ∀ (F : Fld) (i : Nat), F.key i ≠ GSTAT.SNAP_STALE.key 0 →
      (∀ r < 192, F.key i ≠ SNT_IDX.IDX.key r) → (s.snapRead key id hi v).2.rd F i = s.rd F i :=
    fun _ _ _ _ => ⟨snapRead_emit .., fun F i h _ => snapRead_rd _ _ _ _ _ h⟩
  have h0 : s.emit = s.emit ∧ ∀ (F : Fld) (i : Nat), F.key i ≠ GSTAT.SNAP_STALE.key 0 →
      (∀ r < 192, F.key i ≠ SNT_IDX.IDX.key r) → s.rd F i = s.rd F i := ⟨rfl, fun _ _ _ _ => rfl⟩
  unfold State.readWord
  split
  · split
    · exact h0
    · split
      · exact h0
      · dsimp only
        split
        · exact h0
        · exact h0
        · exact hs ..
        · exact hs ..
  · split
    · exact h0
    · split
      · rename_i hf ho
        refine ⟨?_, fun F i _ hi => sntAdvance_rd s (hi _ (sntData_lt hf ho))⟩
        unfold State.sntAdvance
        split
        · exact wr_emit ..
        · rfl
      · dsimp only
        split
        · exact hs ..
        · exact h0

theorem accErr_safe : GSTAT.ACCESS_ERR.key 0 ≠ GSTAT.SNAP_STALE.key 0 ∧ ∀ r < 192, GSTAT.ACCESS_ERR.key 0 ≠ SNT_IDX.IDX.key r := by
  decide +kernel

/-- A read that is let through. -/
theorem axiRead_passed {off : Nat} (h : s.accessCause (accOf a) false off = none) :
    s.axiRead a off = (s.readWord (accOf a) off).2.drive (.busRead (s.readWord (accOf a) off).1 true) := by
  rw [axiRead_eq, State.busRead, h]

/-- One that is refused. -/
theorem axiRead_refused {off c : Nat} (h : s.accessCause (accOf a) false off = some c) :
    s.axiRead a off = (s.accessError (accOf a) false off c).drive (.busRead 0 false) := by
  rw [axiRead_eq, State.busRead, h]

/-- A field of the capture stays while the capture is held. -/
theorem axiRead_held (h : s.rd GSTAT.ACCESS_ERR = 1) (off : Nat) (hF : F.off ACC_ERR_INFO.COUNT = true)
    (hs : F.key i ≠ GSTAT.SNAP_STALE.key 0) (hi : ∀ r < 192, F.key i ≠ SNT_IDX.IDX.key r) : (s.axiRead a off).rd F i = s.rd F i := by
  cases hc : s.accessCause (accOf a) false off with
  | none => rw [axiRead_passed hc, drive_rd, (readWord_keeps s (accOf a) off).2 F i hs hi]
  | some c => rw [axiRead_refused hc, drive_rd, accessError_held h _ _ _ _ hF]

theorem readToo_held (h : s.rd GSTAT.ACCESS_ERR = 1) (held : Bool) (hF : F.off ACC_ERR_INFO.COUNT = true)
    (hs : F.key i ≠ GSTAT.SNAP_STALE.key 0) (hi : ∀ r < 192, F.key i ≠ SNT_IDX.IDX.key r) : (s.readToo a held).rd F i = s.rd F i := by
  unfold State.readToo
  split
  · unfold State.sameCycleRead
    dsimp only
    rw [if_neg (by simp [on_iff.2 h]), axiRead_held h _ hF hs hi]
  · rfl

theorem capture_safe : ∀ F ∈ [GSTAT.ACCESS_ERR, ACC_ERR_INFO.CAUSE, ACC_ERR_ADDR.ADDR], F.off ACC_ERR_INFO.COUNT = true ∧
    F.key 0 ≠ GSTAT.SNAP_STALE.key 0 ∧ ∀ r < 192, F.key 0 ≠ SNT_IDX.IDX.key r := by
  decide +kernel

theorem readToo_capture (h : s.rd GSTAT.ACCESS_ERR = 1) (held : Bool)
    (hF : F ∈ [GSTAT.ACCESS_ERR, ACC_ERR_INFO.CAUSE, ACC_ERR_ADDR.ADDR]) : (s.readToo a held).rd F = s.rd F := by
  obtain ⟨h1, h2, h3⟩ := capture_safe F hF
  exact readToo_held h held h1 h2 h3

/-- A refused write. -/
theorem axiWrite_errs {off c : Nat} (v : Nat) (hc : s.quiet.accessCause (accOf a) true off = some c) :
    (s.quiet.axiWrite a off v).rd GSTAT.ACCESS_ERR = 1 ∧
      (a.also = none → (s.quiet.axiWrite a off v).emit = [.busWrite false] ∧
        (s.quiet.axiWrite a off v).rd ACC_ERR_INFO.COUNT = min (s.rd ACC_ERR_INFO.COUNT + 1) (2 ^ ACC_ERR_INFO.COUNT.width - 1)) ∧
      (s.rd GSTAT.ACCESS_ERR ≠ 1 → (s.quiet.axiWrite a off v).rd ACC_ERR_INFO.CAUSE = c % 2 ^ ACC_ERR_INFO.CAUSE.width ∧
        (s.quiet.axiWrite a off v).rd ACC_ERR_ADDR.ADDR = off % 2 ^ ACC_ERR_ADDR.ADDR.width) := by
  obtain ⟨h1, h2, h3⟩ := accessError_spec s.quiet (accOf a) true off c
  have he := accessError_emit s.quiet (accOf a) true off c
  rw [axiWrite_refused v hc]
  generalize s.quiet.accessError (accOf a) true off c = t at h1 h2 h3 he
  have hd : (t.drive (.busWrite false)).rd GSTAT.ACCESS_ERR = 1 := (drive_rd ..).trans h1
  refine ⟨(readToo_capture hd _ (by simp)).trans hd, fun ha => ?_, fun hn => ⟨?_, ?_⟩⟩
  · rw [readToo_none ha]
    refine ⟨?_, (drive_rd ..).trans h2⟩
    exact congrArg (· ++ [Emission.busWrite false]) he
  · exact (readToo_capture hd _ (by simp)).trans ((drive_rd ..).trans (h3 hn).1)
  · exact (readToo_capture hd _ (by simp)).trans ((drive_rd ..).trans (h3 hn).2)

/-- Which accesses are let through does not turn on ACCESS_ERR. -/
theorem accessCause_accErr (s : State) (v : Nat) (b : BusAcc) (w : Bool) (off : Nat) :
    (s.wr GSTAT.ACCESS_ERR 0 v).accessCause b w off = s.accessCause b w off := by
  have hb : ∀ F : Fld, F.off GSTAT.ACCESS_ERR = true → ∀ n, (s.wr GSTAT.ACCESS_ERR 0 v).bit F n = s.bit F n := fun F hF n => by
    unfold State.bit
    rw [rd_wr_off hF]
  have hs : ∀ d r, (s.wr GSTAT.ACCESS_ERR 0 v).secured d r off = s.secured d r off := fun d r => by
    unfold State.secured State.on
    rw [rd_wr_off (by decide), hb _ (by decide)]
  unfold State.accessCause
  simp only [hb PWIN_EN.EN (by decide), hs]

/-- A read of the same hub cycle: let through, or refused with the earlier capture kept. -/
theorem sameCycleRead_spec (s u : State) (a : Access) (o : Nat) :
    (u.accessCause (accOf a) false o = none →
      (u.sameCycleRead a (s.on GSTAT.ACCESS_ERR) o).rd GSTAT.ACCESS_ERR = u.rd GSTAT.ACCESS_ERR ∧
      (u.sameCycleRead a (s.on GSTAT.ACCESS_ERR) o).emit = u.emit ++ [.busRead (u.readWord (accOf a) o).1 true]) ∧
    (u.accessCause (accOf a) false o ≠ none →
      (u.sameCycleRead a (s.on GSTAT.ACCESS_ERR) o).rd GSTAT.ACCESS_ERR = 1 ∧
      (u.sameCycleRead a (s.on GSTAT.ACCESS_ERR) o).emit = u.emit ++ [.busRead 0 false] ∧
      (s.rd GSTAT.ACCESS_ERR = 1 → (u.sameCycleRead a (s.on GSTAT.ACCESS_ERR) o).rd ACC_ERR_ADDR.ADDR = u.rd ACC_ERR_ADDR.ADDR)) := by
  constructor
  · intro hc
    have hx : u.sameCycleRead a (s.on GSTAT.ACCESS_ERR) o = u.axiRead a o := by
      unfold State.sameCycleRead
      dsimp only
      rw [hc, if_neg (by simp)]
    obtain ⟨he, hr⟩ := readWord_keeps u (accOf a) o
    rw [hx, axiRead_passed hc]
    exact ⟨(drive_rd ..).trans (hr _ _ accErr_safe.1 accErr_safe.2), congrArg (· ++ _) he⟩
  · intro hc
    obtain ⟨c, hc⟩ := Option.ne_none_iff_exists'.1 hc
    obtain ⟨x, hx, hcx, hex, hax, hon⟩ : ∃ x : State, u.sameCycleRead a (s.on GSTAT.ACCESS_ERR) o = x.axiRead a o ∧
        x.accessCause (accOf a) false o = some c ∧ x.emit = u.emit ∧ x.rd ACC_ERR_ADDR.ADDR = u.rd ACC_ERR_ADDR.ADDR ∧
        (s.rd GSTAT.ACCESS_ERR = 1 → x.rd GSTAT.ACCESS_ERR = 1) := by
      refine ⟨_, rfl, ?_⟩
      rw [hc]
      split
      · exact ⟨(accessCause_accErr ..).trans hc, wr_emit .., rd_wr_off (by decide) _, fun _ => rd_wr_same ..⟩
      · rename_i hw
        refine ⟨hc, rfl, rfl, fun hs => ?_⟩
        rw [on_iff.2 hs] at hw
        exact on_iff.1 (by simpa using hw)
    obtain ⟨h1, -, -⟩ := accessError_spec x (accOf a) false o c
    rw [hx, axiRead_refused hcx]
    refine ⟨(drive_rd ..).trans h1, ?_, fun hs => ?_⟩
    · exact congrArg (· ++ _) ((accessError_emit ..).trans hex)
    · rw [drive_rd, accessError_held (hon hs) _ _ _ _ (by decide), hax]

end Sys2Proof.Machine
end
section
/-! PROOF. Plain fields, event bits and 64-bit pairs at the port, and the settled statement O54. -/

namespace Sys2Proof.Machine

/- Every `decide +kernel` waits for the kernel; elaborated one after another, the proofs hold less memory while they wait. -/
set_option Elab.async false

variable {s t u : State} {a : Access} {F : Fld} {i off r : Nat} {d : RegDesc} {f : FieldDesc} {hi : Bool}

/-! ### Registers that no read at the port writes -/

/-- A bit address that no read at the port writes, decided. -/
def readSafe (a : Nat) : Bool :=
  ((GSTAT.SNAP_STALE :: refusalFields).all fun G => G.misses a) &&
    (decide (a < SNT_IDX.IDX.key 0) || decide (SNT_IDX.IDX.key 191 < a) || a % 128 != SNT_IDX.IDX.base % 128)

theorem ReadSafe.of_readSafe {a : Nat} (h : readSafe a = true) : ReadSafe a := by
  rw [readSafe, Bool.and_eq_true, Bool.or_eq_true, Bool.or_eq_true, decide_eq_true_iff, decide_eq_true_iff, bne_iff_ne] at h
  refine ⟨h.1, fun r hr => ?_⟩
  have h2 := h.2
  simp only [Fld.key, SNT_IDX.IDX, fld] at h2 ⊢
  omega

/-- So are all instances of the fields `l` of a register. -/
def RegDesc.readSafe (d : RegDesc) (l : List FieldDesc) : Bool :=
  l.all fun f => (List.range d.count).all fun r => (f.insts r).all fun i => Machine.readSafe (f.fld.key i)

theorem RegDesc.readSafe_key {l : List FieldDesc} (h : d.readSafe l = true) (hf : f ∈ l) (hr : r < d.count) (hi : i ∈ f.insts r) :
    ReadSafe (f.fld.key i) :=
  .of_readSafe (List.all_eq_true.1 (List.all_eq_true.1 (List.all_eq_true.1 h f hf) r (List.mem_range.2 hr)) i hi)

/-- A register with one plain field, written as Table 15.1 gives it, is one that no read writes. -/
theorem plainField_safe (hf : findReg off = some (d, r, hi)) (ho : d.off ∉ specialOffs) (hp : d.pair ≠ .wpair)
    (hfs : d.fields = [f]) (hacc : f.acc = .rw) (hin : f.insts r = [i]) : ReadSafe (f.fld.key i) := by
  have h := findReg_all hf (p := fun d => specialOffs.contains d.off || d.pair == .wpair ||
    (match d.fields with | [f] => f.acc != .rw || d.readSafe [f] | _ => true)) (by decide +kernel)
  have h' : d.readSafe [f] = true := by simpa [hfs, ho, hp, hacc] using h
  exact RegDesc.readSafe_key h' List.mem_cons_self (findReg_lt hf) (hin ▸ List.mem_cons_self)

/-! ### Plain fields -/

theorem writeField_rw (b : Bool) (v : Nat) (hf : f.acc = .rw) (hl : s.lockedBy f.lock = false) (hn : b = false ∨ f.secOnly = false)
    (hr : roInst f.fld i = false) : s.writeField b f i v = s.wr f.fld i (f.clamp (v % 2 ^ f.fld.width)) := by
  have h : ¬ (b && f.secOnly || roInst f.fld i) = true := by
    rcases hn with h | h <;> simp [h, hr]
  unfold State.writeField
  dsimp only
  rw [hf]
  exact (if_neg h).trans (if_neg (by simp [hl]))

/-- A field that a lock freezes keeps its value. -/
theorem writeField_locked (b : Bool) (v : Nat) (hf : f.acc = .rw) (hl : s.lockedBy f.lock = true)
    (hn : f.secOnly = false) (hr : roInst f.fld i = false) : s.writeField b f i v = s.wr GSTAT.LOCK_IGN 0 1 := by
  unfold State.writeField
  dsimp only
  rw [hf]
  exact (if_neg (by simp [hn, hr])).trans (if_pos hl)

theorem writeWord_plainField (b : BusAcc) (v : Nat) (hf : findReg off = some (d, r, hi)) (ho : d.off ∉ specialOffs)
    (hp : d.pair ≠ .wpair) (hfs : d.fields = [f]) (hacc : f.acc = .rw) (hin : f.insts r = [i]) (hl : s.lockedBy f.lock = false)
    (hn : b.ns = false ∨ f.secOnly = false) (hr : roInst f.fld i = false) :
    s.writeWord b off v = s.wr f.fld i (f.clamp (v / 2 ^ f.lsb d r i % 2 ^ f.fld.width)) := by
  have h1 : d.off ∉ ownOffs := fun h => ho (by
    have hs : ∀ x ∈ ownOffs, x ∈ specialOffs := by decide
    exact hs _ h)
  have h2 : d.off ∉ [0x2400, 0x3004, 0x603C, 0x3600, 0xC020, 0xB000] := fun h => ho (by
    have hs : ∀ x ∈ [0x2400, 0x3004, 0x603C, 0x3600, 0xC020, 0xB000], x ∈ specialOffs := by decide
    exact hs _ h)
  rw [writeWord_only hf h1 h2 hp, State.writeFields, hfs, List.foldl_cons, List.foldl_nil, hin, List.foldl_cons, List.foldl_nil,
    writeField_rw b.ns _ hacc hl hn hr]

/-! ### A register that everyone may write -/

theorem accessCause_open (hf : findReg off = some (d, r, hi)) (ho : off % 4 = 0 ∧ off < 0x30000) (hd : d.sec = .open)
    (hs : a.strb = 15) (w : Bool) : s.accessCause (accOf a) w off = none := by
  obtain ⟨h4, hlt⟩ := ho
  have h1 : ¬ (off % 4 != 0) = true := by simp [h4]
  have h2 : ¬ inAperture off = true := by
    unfold inAperture
    rw [decide_eq_true_iff]
    omega
  have h3 : ¬ (decide (d.sec = .window) && !s.bit PWIN_EN.EN (windowOf off)) = true := by simp [hd]
  have h4 : ¬ ((accOf a).ns && s.secured d r off) = true := by simp [State.secured, hd]
  have h5 : ¬ (w && (accOf a).strb != 0 && (accOf a).strb != 15 && d.off != 0x1000) = true := by
    simp [show (accOf a).strb = 15 from hs]
  unfold State.accessCause
  rw [if_neg h1, if_neg h2, hf]
  exact (if_neg h3).trans ((if_neg h4).trans (if_neg h5))

theorem findReg_DOM_CTRL : ∃ d, findReg 0x440 = some (d, 0, false) ∧ d.off = 0x440 ∧ d.stride = 0 ∧ d.sec = .open ∧ d.pair = .word ∧
    d.fields = [⟨DOM_CTRL.SELFTEST_EN, .rw, .cfg, id⟩, ⟨DOM_CTRL.TELEM_MS, .rw, .none, fun v => max 1 (min 100 v)⟩] :=
  ⟨_, findReg_eq 13 rfl (by decide +kernel) rfl, rfl, rfl, rfl, rfl, rfl⟩

/-- Event bits, each cleared by a 1. -/
def evtFields (l : List Fld) : List FieldDesc := l.map fun F => ⟨F, .w1c, .none, id⟩

theorem findReg_CAD_EVT : ∃ d, findReg 0x408 = some (d, 0, false) ∧ d.off = 0x408 ∧ d.stride = 0 ∧ d.sec = .open ∧ d.pair = .word ∧
    d.fields = evtFields [CAD_EVT.HUB_FAULT_ESC, CAD_EVT.OVERDUE, CAD_EVT.FW_OVR, CAD_EVT.ENG_OVR, CAD_EVT.LATE, CAD_EVT.DEFER,
      CAD_EVT.RELOCK] ++ ⟨CAD_EVT.LOST, .w1c, .none, id⟩ :: evtFields [CAD_EVT.NOISE, CAD_EVT.SYNTH] :=
  ⟨_, findReg_eq 2 rfl (by decide +kernel) rfl, rfl, rfl, rfl, rfl, rfl⟩

/-- A write of a register of one instance that everyone may write, and whose write begins nothing. -/
theorem axiWrite_fields (v : Nat) (hf : findReg off = some (d, 0, hi)) (ho : off % 4 = 0 ∧ off < 0x30000) (hd : d.sec = .open)
    (hst : d.stride = 0) (hown : d.off ∉ ownOffs ++ [0x2400, 0x3004, 0x603C, 0x3600, 0xC020, 0xB000]) (hp : d.pair = .word)
    (hfs : (d.fields.all fun f => f.fld.stride == 0) = true) (hs : a.strb = 15) : s.quiet.axiWrite a off v =
      s.quiet.written (d.fields.foldl (fun s f => s.wrField a.ns f d.off (v % 2 ^ 32)) s.quiet) a := by
  rw [axiWrite_passed v (accessCause_open hf ho hd hs true) (by rw [hs]; decide),
    writeWord_only hf (fun h => hown (List.mem_append_left _ h)) (fun h => hown (List.mem_append_right _ h)) (by rw [hp]; decide),
    writeFields_single hst hfs]
  rfl

theorem domCtrl_written (s : State) (ns : Bool) (v : Nat) :
    ((s.wrField ns ⟨DOM_CTRL.SELFTEST_EN, .rw, .cfg, id⟩ 0x440 v).wrField ns
      ⟨DOM_CTRL.TELEM_MS, .rw, .none, fun v => max 1 (min 100 v)⟩ 0x440 v) =
      (if s.locks.cfg = true then s.wr GSTAT.LOCK_IGN 0 1 else s.wr DOM_CTRL.SELFTEST_EN 0 (v / 2 ^ 15 % 2)).wr DOM_CTRL.TELEM_MS 0
        (max 1 (min 100 (v / 2 ^ 0 % 2 ^ 7))) := by
  have h1 : s.wrField ns ⟨DOM_CTRL.SELFTEST_EN, .rw, .cfg, id⟩ 0x440 v =
      if s.locks.cfg = true then s.wr GSTAT.LOCK_IGN 0 1 else s.wr DOM_CTRL.SELFTEST_EN 0 (v / 2 ^ 15 % 2) := by
    unfold State.wrField
    by_cases hl : s.locks.cfg = true
    · rw [if_pos hl]
      exact writeField_locked ns _ rfl hl rfl rfl
    · rw [if_neg hl, writeField_rw (f := ⟨DOM_CTRL.SELFTEST_EN, .rw, .cfg, id⟩) ns _ rfl (Bool.eq_false_iff.2 hl) (.inr rfl) rfl]
      rfl
  rw [h1]
  exact writeField_rw (f := ⟨DOM_CTRL.TELEM_MS, .rw, .none, fun v => max 1 (min 100 v)⟩) ns _ rfl rfl (.inr rfl) rfl

theorem domCtrl_answers (v : Nat) (hs : a.strb = 15) : Answers (.registerWrite 0x440 v a) s fun t =>
    t.rd DOM_CTRL.TELEM_MS = max 1 (min 100 (v % 128)) ∧ (s.locks.cfg = false → t.rd DOM_CTRL.SELFTEST_EN = v / 2 ^ 15 % 2) ∧
      (s.locks.cfg = true → t.rd DOM_CTRL.SELFTEST_EN = s.rd DOM_CTRL.SELFTEST_EN ∧ t.rd GSTAT.LOCK_IGN = 1) := by
  obtain ⟨d, hf, ho, hst, hd, hp, hfs⟩ := findReg_DOM_CTRL
  have hx := axiWrite_fields (s := s) v hf (by decide) hd hst (by rw [ho]; decide) hp (by rw [hfs]; rfl) hs
  rw [hfs, List.foldl_cons, List.foldl_cons, List.foldl_nil, ho, domCtrl_written, show v % 2 ^ 32 / 2 ^ 15 % 2 = v / 2 ^ 15 % 2 by omega,
    show v % 2 ^ 32 / 2 ^ 0 % 2 ^ 7 = v % 128 by omega] at hx
  refine ⟨_, congrArg Host.Outcome.next hx, ?_, fun hl => ?_, fun hl => ⟨?_, ?_⟩⟩
  · rw [written_rd _ _ _ (by decide), rd_wr_same]
    exact Nat.mod_eq_of_lt (lt_of_le_of_lt (max_le (by decide) (min_le_left 100 _)) (by decide))
  · rw [written_rd _ _ _ (by decide), rd_wr_off (by decide), if_neg (show ¬ s.quiet.locks.cfg = true by simp [hl]), rd_wr_same]
    exact Nat.mod_eq_of_lt (Nat.mod_lt _ (by decide))
  · rw [written_rd _ _ _ (by decide), rd_wr_off (by decide), if_pos (show s.quiet.locks.cfg = true from hl), rd_wr_off (by decide)]
    rfl
  · rw [written_rd _ _ _ (by decide), rd_wr_off (by decide), if_pos (show s.quiet.locks.cfg = true from hl), rd_wr_same]
    rfl

/-! ### Event bits -/

theorem foldl_wrField_rd (l : List FieldDesc) (ns : Bool) (off v : Nat) (hl : (l.all fun f => F.off f.fld) = true)
    (hb : F.off GSTAT.GO_BUSY = true) (hk : F.off GSTAT.LOCK_IGN = true) :
    (l.foldl (fun s f => s.wrField ns f off v) s).rd F = s.rd F := by
  induction l generalizing s with
  | nil => rfl
  | cons f l ih =>
    rw [List.all_cons, Bool.and_eq_true] at hl
    rw [List.foldl_cons, ih hl.2, wrField_rd _ _ _ _ _ hl.1 hb hk]

theorem wrField_w1c (ns : Bool) (F : Fld) (lk : LockBy) (c : Nat → Nat) (off v : Nat) : (s.wrField ns ⟨F, .w1c, lk, c⟩ off v).rd F =
    (s.rd F - Nat.land (s.rd F) (v / 2 ^ (F.key 0 - 8 * off) % 2 ^ F.width)) % 2 ^ F.width := rd_wr_same ..

theorem cadEvt_answers (v : Nat) (hs : a.strb = 15) : Answers (.registerWrite 0x408 v a) s fun t =>
    s.rd CAD_EVT.LOST = 1 → t.rd CAD_EVT.LOST = 1 - v / 4 % 2 := by
  obtain ⟨d, hf, ho, hst, hd, hp, hfs⟩ := findReg_CAD_EVT
  have hx := axiWrite_fields (s := s) v hf (by decide) hd hst (by rw [ho]; decide) hp (by rw [hfs]; rfl) hs
  rw [hfs, ho, List.foldl_append, List.foldl_cons] at hx
  refine ⟨_, congrArg Host.Outcome.next hx, fun hl => ?_⟩
  rw [written_rd _ _ _ (by decide), foldl_wrField_rd _ _ _ _ (by decide) (by decide) (by decide), wrField_w1c,
    foldl_wrField_rd _ _ _ _ (by decide) (by decide) (by decide), show s.quiet.rd CAD_EVT.LOST = 1 from hl]
  rw [show CAD_EVT.LOST.key 0 - 8 * 0x408 = 2 by decide, show CAD_EVT.LOST.width = 1 from rfl,
    show v % 2 ^ 32 / 2 ^ 2 % 2 ^ 1 = v / 4 % 2 by omega]
  rcases Nat.mod_two_eq_zero_or_one (v / 4) with h | h <;> rw [h] <;> rfl

/-! ### Pairs -/

theorem writeWord_pair (b : BusAcc) (v : Nat) (hf : findReg off = some (d, r, hi)) (hp : d.pair = .wpair)
    (hen : d.off = 0x1804 ∨ d.off = 0x180C → s.rd RING_CFG.EN r ≠ 1) : s.writeWord b off v = s.pairWrite d r hi v := by
  have h := findReg_all hf (p := fun d => d.pair != .wpair || !([0x103C, 0x1000, 0x1800, 0x1814, 0x1818, 0x110, 0x114, 0x118, 0xD000,
    0xB018, 0xC100, 0x240C, 0x10004].contains d.off)) (by decide +kernel)
  simp only [hp, bne_self_eq_false, Bool.false_or, Bool.not_eq_true', List.contains_eq_mem, decide_eq_false_iff_not, List.mem_cons,
    List.not_mem_nil, or_false, not_or] at h
  obtain ⟨h1, h2, h3, h4, h5, h6, h7, h8, h9, h10, h11, h12, h13⟩ := h
  have he : ¬ ((decide (d.off = 0x1804) || decide (d.off = 0x180C)) && s.on RING_CFG.EN r) = true := fun k => by
    rw [Bool.and_eq_true, Bool.or_eq_true, decide_eq_true_iff, decide_eq_true_iff] at k
    exact hen k.1 (on_iff.1 k.2)
  unfold State.writeWord
  rw [hf]
  dsimp only
  rw [if_neg h1, if_neg h2, if_neg h3, if_neg he, if_neg h4, if_neg h5, if_neg h6, if_neg h7, if_neg h8, if_neg h9, if_neg h10,
    if_neg h11, if_neg h12, if_neg h13, if_pos hp]

theorem pair_safe {fs : List FieldDesc} (hf : findReg off = some (d, r, hi)) (hp : d.pair = .wpair) (hfs : d.fields = f :: fs) :
    ReadSafe (f.fld.key r) := by
  have h := findReg_all hf (p := fun d => d.pair != .wpair ||
    d.fields.all fun f => (List.range d.count).all fun r => readSafe (f.fld.key r)) (by decide +kernel)
  simp only [hp, bne_self_eq_false, Bool.false_or, hfs, List.all_cons, Bool.and_eq_true] at h
  exact .of_readSafe (List.all_eq_true.1 h.1 r (List.mem_range.2 (findReg_lt hf)))

/-- What the port has staged for pairs. -/
theorem written_staged (s u : State) (a : Access) : (s.written u a).bus.staged = u.bus.staged := by
  obtain ⟨x, hx⟩ := written_bus s u a
  rw [hx]

theorem pairLo_stages {fs : List FieldDesc} (v : Nat) (hfs : d.fields = f :: fs) (hl : s.lockedBy f.lock = false) :
    s.pairWrite d r false v =
      s.setBus fun b => { b with staged := Table.set none b.staged (d.off + d.stride * r) (some (v % 2 ^ 32)) } := by
  unfold State.pairWrite
  rw [hfs]
  exact (if_neg (by simp [hl])).trans (if_pos rfl)

/-- The pair's new value: the staged low word, or the one that stands, under the high word written. -/
def State.pairValue (s : State) (f : FieldDesc) (key r v : Nat) : Nat :=
  (Table.get none s.bus.staged key).getD (s.rd f.fld r % 2 ^ 32) + v % 2 ^ 32 * 2 ^ 32

theorem pairHi_writes {fs : List FieldDesc} (v : Nat) (hfs : d.fields = f :: fs) (hl : s.lockedBy f.lock = false) :
    s.pairWrite d r true v = (s.setBus fun b => { b with staged := Table.set none b.staged (d.off + d.stride * r) none }).wr f.fld r
      (s.pairValue f (d.off + d.stride * r) r v) := by
  unfold State.pairWrite
  rw [hfs]
  exact (if_neg (by simp [hl])).trans (if_neg (by simp))

/-- A write of a half of a pair that Table 15.1 lets through. -/
theorem axiWrite_pair (v : Nat) (hf : findReg off = some (d, r, hi)) (hp : d.pair = .wpair)
    (hen : d.off = 0x1804 ∨ d.off = 0x180C → s.rd RING_CFG.EN r ≠ 1) (hc : s.accessCause (accOf a) true off = none)
    (hs : a.strb ≠ 0) : s.quiet.axiWrite a off v = s.quiet.written (s.quiet.pairWrite d r hi (v % 2 ^ 32)) a := by
  rw [axiWrite_passed (s := s.quiet) v hc hs, writeWord_pair (s := s.quiet) _ _ hf hp hen]
  rfl

theorem pairLo_answers {fs : List FieldDesc} (v : Nat) (hf : findReg off = some (d, r, false)) (hp : d.pair = .wpair)
    (hfs : d.fields = f :: fs) (hl : s.lockedBy f.lock = false) (hen : d.off = 0x1804 ∨ d.off = 0x180C → s.rd RING_CFG.EN r ≠ 1)
    (hc : s.accessCause (accOf a) true off = none) (hs : a.strb ≠ 0) : Answers (.pairLoWrite off v a) s fun t =>
      Table.get none t.bus.staged (d.off + d.stride * r) = some (v % 2 ^ 32) ∧ t.rd f.fld r = s.rd f.fld r := by
  refine ⟨_, congrArg Host.Outcome.next (axiWrite_pair v hf hp hen hc hs), ?_⟩
  rw [pairLo_stages (s := s.quiet) _ hfs hl]
  constructor
  · rw [written_staged, setBus_bus, Table.get_set_same, Nat.mod_mod]
  · rw [written_rd_safe _ _ _ (pair_safe hf hp hfs), setBus_rd]
    rfl

theorem pairHi_answers {fs : List FieldDesc} (v : Nat) (hf : findReg off = some (d, r, true)) (hp : d.pair = .wpair)
    (hfs : d.fields = f :: fs) (hl : s.lockedBy f.lock = false) (hen : d.off = 0x1804 ∨ d.off = 0x180C → s.rd RING_CFG.EN r ≠ 1)
    (hc : s.accessCause (accOf a) true off = none) (hs : a.strb ≠ 0) : Answers (.pairHiWrite off v a) s fun t =>
      Table.get none t.bus.staged (d.off + d.stride * r) = none ∧
      t.rd f.fld r = ((Table.get none s.bus.staged (d.off + d.stride * r)).getD (s.rd f.fld r % 2 ^ 32) +
        v % 2 ^ 32 * 2 ^ 32) % 2 ^ f.fld.width := by
  refine ⟨_, congrArg Host.Outcome.next (axiWrite_pair v hf hp hen hc hs), ?_⟩
  rw [pairHi_writes (s := s.quiet) _ hfs hl]
  constructor
  · rw [written_staged, wr_bus, setBus_bus, Table.get_set_same]
  · rw [written_rd_safe _ _ _ (pair_safe hf hp hfs), rd_wr_same, State.pairValue, Nat.mod_mod]
    rfl

/-- A read of a half of a SNAP pair. -/
theorem readWord_snap (b : BusAcc) (hf : findReg off = some (d, r, hi)) (hp : d.pair = .snap) (ha : inAperture off = false) :
    s.readWord b off = s.snapRead (d.off + d.stride * r) b.id hi (s.regValue d r b.ns) := by
  have h := findReg_all hf (p := fun d => d.pair != .snap || d.off != 0x240C) (by decide +kernel)
  have ho : d.off ≠ 0x240C := by simpa [hp] using h
  unfold State.readWord
  rw [ha, hf]
  exact (if_neg Bool.false_ne_true).trans ((if_neg ho).trans (if_pos hp))

theorem snapLo_answers (hf : findReg off = some (d, r, false)) (hp : d.pair = .snap) (ha : inAperture off = false)
    (hc : s.accessCause (accOf a) false off = none) : Answers (.snapLoRead off a) s fun t =>
      t.emit = [.busRead (s.quiet.regValue d r a.ns % 2 ^ 32) true] ∧ Table.get {} t.bus.shadows (d.off + d.stride * r) =
        { hi := s.quiet.regValue d r a.ns / 2 ^ 32 % 2 ^ 32, armed := some a.id } := by
  refine ⟨_, congrArg Host.Outcome.next (axiRead_passed (s := s.quiet) hc), ?_⟩
  rw [readWord_snap _ hf hp ha]
  exact ⟨rfl, Table.get_set_same ..⟩

theorem snapHi_answers (hf : findReg off = some (d, r, true)) (hp : d.pair = .snap) (ha : inAperture off = false)
    (hc : s.accessCause (accOf a) false off = none) : Answers (.snapHiRead off a) s fun t =>
      t.emit = [.busRead (Table.get {} s.bus.shadows (d.off + d.stride * r)).hi true] ∧
      ((Table.get {} s.bus.shadows (d.off + d.stride * r)).armed = some a.id →
        (Table.get {} t.bus.shadows (d.off + d.stride * r)).armed = none) ∧
      ((Table.get {} s.bus.shadows (d.off + d.stride * r)).armed ≠ some a.id → t.rd GSTAT.SNAP_STALE = 1) := by
  refine ⟨_, congrArg Host.Outcome.next (axiRead_passed (s := s.quiet) hc), ?_⟩
  rw [readWord_snap _ hf hp ha]
  generalize s.quiet.regValue d r (accOf a).ns = v
  unfold State.snapRead
  dsimp only
  rw [if_pos rfl]
  by_cases h : (Table.get {} s.bus.shadows (d.off + d.stride * r)).armed = some a.id
  · rw [if_pos (show (Table.get {} s.quiet.bus.shadows (d.off + d.stride * r)).armed = some (accOf a).id from h)]
    refine ⟨rfl, fun _ => ?_, fun k => absurd h k⟩
    exact congrArg Shadow.armed (Table.get_set_same ..)
  · rw [if_neg (show ¬ (Table.get {} s.quiet.bus.shadows (d.off + d.stride * r)).armed = some (accOf a).id from h)]
    refine ⟨?_, fun k => absurd k h, fun _ => ?_⟩
    · exact congrArg (· ++ _) (wr_emit ..)
    · exact (drive_rd ..).trans (rd_wr_same ..)

/-! ### The read in the hub cycle of a write -/

theorem axiWrite_also (s : State) (a : Access) (off v o : Nat) : s.axiWrite { a with also := some o } off v =
    (s.axiWrite { a with also := none } off v).sameCycleRead { a with also := some o } (s.on GSTAT.ACCESS_ERR) o := rfl

theorem plainField_answers (v : Nat) (hf : findReg off = some (d, r, hi)) (ho : d.off ∉ specialOffs) (hp : d.pair ≠ .wpair)
    (hfs : d.fields = [f]) (hacc : f.acc = .rw) (hin : f.insts r = [i]) (hl : s.lockedBy f.lock = false)
    (hn : a.ns = false ∨ f.secOnly = false) (hc : s.accessCause (accOf a) true off = none) (hs : a.strb ≠ 0)
    (hr : roInst f.fld i = false) : Answers (.registerWrite off v a) s fun t => (a.also = none → t.emit = [.busWrite true]) ∧
      t.rd f.fld i = f.clamp (v % 2 ^ 32 / 2 ^ f.lsb d r i % 2 ^ f.fld.width) % 2 ^ f.fld.width := by
  have hx : s.quiet.axiWrite a off v = s.quiet.written (s.quiet.wr f.fld i
      (f.clamp (v % 2 ^ 32 / 2 ^ f.lsb d r i % 2 ^ f.fld.width))) a := by
    rw [axiWrite_passed (s := s.quiet) v hc hs, writeWord_plainField (s := s.quiet) _ _ hf ho hp hfs hacc hin hl hn hr]
    rfl
  refine ⟨_, congrArg Host.Outcome.next hx, fun ha => written_emit _ _ ha (wr_emit ..), ?_⟩
  rw [written_rd_safe _ _ _ (plainField_safe hf ho hp hfs hacc hin), rd_wr_same]

end Sys2Proof.Machine

namespace Sys2Proof
open Sys2Proof.Machine

/-- Settles O54: a refusal is counted and captured once, and every other access is the work of the one register found. -/
theorem portAccesses : Obligations.PortAccesses := by
  unfold Obligations.PortAccesses
  refine ⟨?_, ?_, ?_, ?_, ?_, ?_, ?_, ?_, ?_, ?_⟩
  · exact fun off v c a s hc => ⟨_, rfl, axiWrite_errs v hc⟩
  · intro off v o a s u hu
    have hu' : s.quiet.axiWrite { a with also := none } off v = u := Host.Outcome.next.inj hu
    refine ⟨_, congrArg Host.Outcome.next ((axiWrite_also ..).trans (congrArg (fun t : State => t.sameCycleRead _ _ o) hu')), ?_⟩
    exact sameCycleRead_spec s u { a with also := some o } o
  · exact fun off v r i hi d f a s hf ho hp hfs hacc hin hl hn hc hs hr => plainField_answers v hf ho hp hfs hacc hin hl hn hc hs hr
  · exact fun v a s hs => domCtrl_answers v hs
  · exact fun v a s hs => cadEvt_answers v hs
  · intro off v a s hc hs
    refine ⟨_, congrArg Host.Outcome.next (axiWrite_unstrobed (s := s.quiet) v hc hs), fun ha => ?_⟩
    rw [readToo_none ha]
    rfl
  · exact fun off v r d f fs a s hf hp hfs hl hen hc hs => pairLo_answers v hf hp hfs hl hen hc hs
  · exact fun off v r d f fs a s hf hp hfs hl hen hc hs => pairHi_answers v hf hp hfs hl hen hc hs
  · exact fun off r d a s hf hp ha hc => snapLo_answers hf hp ha hc
  · exact fun off r d a s hf hp ha hc => snapHi_answers hf hp ha hc

end Sys2Proof
end
section
/-! PROOF. Bounds of a write at the port: the register's own work, a refusal, and a read in the same hub cycle (O60). -/

namespace Sys2Proof.Machine

variable {W : Bounds} {s t u : State} {a : Access} {d : RegDesc} {off r : Nat} {hi : Bool}

/-! ### The port -/

/-- The bounds allow what the port writes beside the register: the record of a refusal, and what a read with it writes. -/
structure PortOpen (W : Bounds) (a : Access) : Prop where
  emit : W.part .emit
  refusal : ∀ F ∈ refusalFields, W.fld F
  also : a.also.isSome = true → W.part .bus ∧ W.fld GSTAT.SNAP_STALE ∧ W.fld SNT_IDX.IDX

theorem kept_refusal (h : Kept W s) (o : ∀ F ∈ refusalFields, W.fld F) (b : BusAcc) (w : Bool) (off c : Nat) :
    Kept W (s.accessError b w off c) :=
  kept_accessError h (o _ (by simp [refusalFields])) (o _ (by simp [refusalFields])) (o _ (by simp [refusalFields]))
    (o _ (by simp [refusalFields])) (o _ (by simp [refusalFields])) (o _ (by simp [refusalFields])) (o _ (by simp [refusalFields]))
    (o _ (by simp [refusalFields]))

theorem kept_readToo_open (h : Kept W s) (o : PortOpen W a) (held : Bool) : Kept W (s.readToo a held) := by
  cases ha : a.also with
  | none => rwa [readToo_none ha]
  | some x =>
    obtain ⟨hb, hs, hi⟩ := o.also (by rw [ha]; rfl)
    refine kept_readToo h held hb o.emit fun F hF => ?_
    rw [busReadFields, List.mem_append, List.mem_cons, List.mem_singleton] at hF
    obtain (rfl | rfl) | hF := hF
    · exact hs
    · exact hi
    · exact o.refusal F hF

/-- A write at the port stays within bounds that its register's write stays within. -/
theorem kept_axiWrite_open (h : Kept W s) (o : PortOpen W a) (off v : Nat)
    (hw : Kept W (s.writeWord (accOf a) off (v % 2 ^ 32))) : Kept W (s.axiWrite a off v) := by
  cases hc : s.accessCause (accOf a) true off with
  | some c =>
    rw [axiWrite_refused v hc]
    exact kept_readToo_open (kept_drive (kept_refusal h o.refusal ..) o.emit) o _
  | none =>
    by_cases hs : a.strb = 0
    · rw [axiWrite_unstrobed v hc hs]
      exact kept_readToo_open (kept_drive h o.emit) o _
    · rw [axiWrite_passed v hc hs]
      exact kept_readToo_open (kept_drive hw o.emit) o _

/-! ### The fields of a register -/

/-- The bounds allow a write of the field: the field itself, and the flags of writes that are ignored. -/
structure FieldOpen (W : Bounds) (f : FieldDesc) : Prop where
  own : W.fld f.fld
  busy : f.acc = .go → W.fld GSTAT.GO_BUSY
  ignored : f.lock ≠ .none → W.fld GSTAT.LOCK_IGN

theorem kept_writeField_open {f : FieldDesc} (h : Kept W s) (o : FieldOpen W f) (ns : Bool) (i v : Nat) :
    Kept W (s.writeField ns f i v) := by
  unfold State.writeField
  dsimp only
  split
  · exact h
  · exact h
  · exact h
  · exact kept_wr h o.own
  · exact kept_wr h o.own
  · exact kept_wr h o.own
  · exact kept_ite (kept_goSet h o.own (o.busy ‹_›)) h
  · refine kept_ite h ?_
    split
    · rename_i hl
      refine kept_wr h (o.ignored fun k => ?_)
      rw [k] at hl
      exact Bool.false_ne_true hl
    · exact kept_wr h o.own

theorem kept_writeFields_open (h : Kept W s) (o : ∀ f ∈ d.fields, FieldOpen W f) (ns : Bool) (r v : Nat) :
    Kept W (s.writeFields ns d r v) := by
  unfold State.writeFields
  have hl : ∀ (l : List FieldDesc) (t : State), Kept W t → (∀ f ∈ l, FieldOpen W f) → Kept W
      (l.foldl (fun s f => (f.insts r).foldl (fun s i => s.writeField ns f i (v / 2 ^ f.lsb d r i)) s) t) := by
    intro l
    induction l with
    | nil => exact fun t ht _ => ht
    | cons f l ih =>
      intro t ht hf
      exact ih _ (kept_foldl ht fun t i ht => kept_writeField_open ht (hf f List.mem_cons_self) ..) fun f h =>
        hf f (List.mem_cons_of_mem _ h)
  exact hl _ _ h o

/-- A register with no work of its own. -/
theorem kept_writeWord_fields (h : Kept W s) (hf : findReg off = some (d, r, hi)) (ho : d.off ∉ ownOffs)
    (hs : d.off ∉ [0x2400, 0x3004, 0x603C, 0x3600, 0xC020, 0xB000]) (hp : d.pair ≠ .wpair) (o : ∀ f ∈ d.fields, FieldOpen W f)
    (b : BusAcc) (v : Nat) : Kept W (s.writeWord b off v) := by
  rw [writeWord_only hf ho hs hp]
  exact kept_writeFields_open h o ..

theorem kept_pairWrite_open (h : Kept W s) (hb : W.part .bus) (hl : W.fld GSTAT.LOCK_IGN) (o : ∀ f ∈ d.fields, W.fld f.fld)
    (r : Nat) (hi : Bool) (v : Nat) : Kept W (s.pairWrite d r hi v) := by
  unfold State.pairWrite
  dsimp only
  split
  · exact h
  · rename_i f l hfs
    exact kept_ite (kept_wr h hl) (kept_ite (kept_setBus h hb) (kept_wr (kept_setBus h hb) (o f (by rw [hfs]; exact List.mem_cons_self))))

/-- A register that has no command of its own. -/
theorem kept_writeWord_plain (h : Kept W s) (hf : findReg off = some (d, r, hi)) (ho : d.off ∉ specialOffs ∨ d.pair = .wpair)
    (hb : W.part .bus) (o : ∀ f ∈ d.fields, W.fld f.fld) (hg : ∀ F ∈ [GSTAT.GO_BUSY, GSTAT.LOCK_IGN, RING_STAT.CFG_ERR], W.fld F)
    (b : BusAcc) (v : Nat) : Kept W (s.writeWord b off v) := by
  by_cases hp : d.pair = .wpair
  · by_cases he : (d.off = 0x1804 ∨ d.off = 0x180C) ∧ s.rd RING_CFG.EN r = 1
    · have hx : s.writeWord b off v = s.wr RING_STAT.CFG_ERR r 1 := by
        have h1 : d.off ≠ 0x103C ∧ d.off ≠ 0x1000 ∧ d.off ≠ 0x1800 := by omega
        have h2 : ((decide (d.off = 0x1804) || decide (d.off = 0x180C)) && s.on RING_CFG.EN r) = true := by
          rw [Bool.and_eq_true, Bool.or_eq_true, decide_eq_true_iff, decide_eq_true_iff, on_iff]
          exact he
        unfold State.writeWord
        rw [hf]
        dsimp only
        rw [if_neg h1.1, if_neg h1.2.1, if_neg h1.2.2, if_pos h2]
      rw [hx]
      exact kept_wr h (hg _ (by simp))
    · rw [writeWord_pair b v hf hp fun k e => he ⟨k, e⟩]
      exact kept_pairWrite_open h hb (hg _ (by simp)) o ..
  · have ho' : d.off ∉ specialOffs := ho.resolve_right hp
    refine kept_writeWord_fields h hf (fun k => ho' ?_) (fun k => ho' ?_) hp (fun f hf => ⟨o f hf, fun _ => hg _ (by simp),
      fun _ => hg _ (by simp)⟩) b v
    · have hs : ∀ x ∈ ownOffs, x ∈ specialOffs := by decide
      exact hs _ k
    · have hs : ∀ x ∈ [0x2400, 0x3004, 0x603C, 0x3600, 0xC020, 0xB000], x ∈ specialOffs := by decide
      exact hs _ k

/-! ### Ring pairs -/

/-- The fields that RING_CFG writes. -/
def ringCfgFields : List Fld := [RING_CFG.DB, RING_CFG.LOG2SZ, RING_CFG.SEC, RING_CFG.TELEM]

theorem kept_ringCfg_on (h : Kept W s) {w : Nat} (hw : w.testBit 31 = true) (hc : W.part .cmd) (ho : ∀ F ∈ ringCfgFields ++
    [RING_CFG.EN, RING_CQ.HEAD, RING_CQ.TAIL, RING_SQ.HEAD, RING_SQ.TAIL, RING_STAT.CFG_ERR, RING_STAT.OWED], W.fld F) (r : Nat) :
    Kept W (s.ringCfgWrite r w) := by
  have k : ∀ {F : Fld} {v : Nat} {t : State}, Kept W t → F ∈ ringCfgFields ++
      [RING_CFG.EN, RING_CQ.HEAD, RING_CQ.TAIL, RING_SQ.HEAD, RING_SQ.TAIL, RING_STAT.CFG_ERR, RING_STAT.OWED] → Kept W (t.wr F r v) :=
    fun ht hF => kept_wr ht (ho _ hF)
  have hset := k (F := RING_CFG.LOG2SZ) (v := max 3 (min 12 (bits 19 16 w))) (k (F := RING_CFG.DB) (v := bits 22 20 w) (k (F := RING_CFG.TELEM)
    (v := b2n (w.testBit 29)) (k (F := RING_CFG.SEC) (v := b2n (w.testBit 30)) h (by simp [ringCfgFields])) (by simp [ringCfgFields]))
      (by simp [ringCfgFields])) (by simp [ringCfgFields])
  unfold State.ringCfgWrite
  dsimp only
  refine kept_ite ?_ ?_
  · rw [if_pos hw]
    exact k h (by simp)
  · rw [if_pos hw]
    exact kept_setPort (k (k (k (k (k (k hset (by simp)) (by simp)) (by simp)) (by simp)) (by simp)) (by simp)) hc

theorem kept_ringCfg_off (h : Kept W s) {w : Nat} (hw : w.testBit 31 = false) (hb : W.part .bus) (hc : W.part .cmd)
    (ho : ∀ F ∈ ringCfgFields ++ [RING_CFG.EN, RING_CNT.LOST, RING_STAT.CFG_ERR, RING_STAT.OWED], W.fld F) (r : Nat) :
    Kept W (s.ringCfgWrite r w) := by
  have hn : ¬ w.testBit 31 = true := by simp [hw]
  have k : ∀ {F : Fld} {v : Nat} {t : State}, Kept W t → F ∈ ringCfgFields ++
      [RING_CFG.EN, RING_CNT.LOST, RING_STAT.CFG_ERR, RING_STAT.OWED] → Kept W (t.wr F r v) := fun ht hF => kept_wr ht (ho _ hF)
  have hset := k (F := RING_CFG.LOG2SZ) (v := max 3 (min 12 (bits 19 16 w))) (k (F := RING_CFG.DB) (v := bits 22 20 w) (k (F := RING_CFG.TELEM)
    (v := b2n (w.testBit 29)) (k (F := RING_CFG.SEC) (v := b2n (w.testBit 30)) h (by simp [ringCfgFields])) (by simp [ringCfgFields]))
      (by simp [ringCfgFields])) (by simp [ringCfgFields])
  unfold State.ringCfgWrite
  dsimp only
  refine kept_ite ?_ ?_
  · rw [if_neg hn]
    exact kept_ringStop (k h (by simp)) hb hc (ho _ (by simp)) (ho _ (by simp)) (ho _ (by simp))
  · rw [if_neg hn]
    exact hset

/-! ### GL_CTRL -/

theorem wrField_ns {f : FieldDesc} (h : f.secOnly = false) (ns : Bool) (off v : Nat) : s.wrField ns f off v = s.wrField false f off v := by
  unfold State.wrField State.writeField
  rw [h, Bool.and_false, Bool.and_false]

theorem kept_limitsWritten (h : Kept W s) (ho : ∀ F ∈ [GL_CTRL.ALERT_PT, GL_CTRL.ALERT_HOLD, GL_CTRL.DONE_MARGIN, GSTAT.LOCK_IGN], W.fld F)
    (w : Nat) : Kept W (s.limitsWritten w) := by
  have k : ∀ (t : State) (f : FieldDesc), Kept W t → f.acc = .rw → W.fld f.fld → Kept W (t.wrField false f 0x3600 w) := fun t f ht ha hf =>
    kept_writeField_open ht ⟨hf, fun e => absurd (ha.symm.trans e) (by decide), fun _ => ho _ (by simp)⟩ ..
  exact k _ _ (k _ _ (k _ _ h rfl (ho _ (by simp))) rfl (ho _ (by simp))) rfl (ho _ (by simp))

/-- A write of GL_CTRL. -/
theorem writeWord_GL_CTRL (b : BusAcc) (w : Nat) : s.writeWord b 0x3600 w =
    s.applies (s.retrains (((s.limitsWritten w).wrField false ⟨GL_CTRL.SSC_APPLY, .go, .none, id⟩ 0x3600 w).wrField false
      ⟨GL_CTRL.RETRAIN, .go, .none, id⟩ 0x3600 w)) := by
  obtain ⟨d, hf, ho, hst, -, hp, hfs⟩ := findReg_GL_CTRL
  rw [writeWord_fields hf (by rw [ho]; decide) (by rw [hp]; decide), writeFields_single hst (by rw [hfs]; rfl), hfs, List.foldl_cons,
    List.foldl_cons, List.foldl_cons, List.foldl_cons, List.foldl_cons, List.foldl_nil, crossClamp_GL_CTRL _ ho,
    beginsFrom_GL_CTRL _ _ ho, ho]
  cases b.ns with
  | false => rfl
  | true =>
    rw [wrField_ns (ns := true) rfl, wrField_ns (ns := true) rfl, wrField_ns (ns := true) rfl, wrField_ns (ns := true) rfl,
      wrField_ns (ns := true) rfl]
    rfl

theorem on_wrField_go {F : Fld} (t : State) (G : Fld) (w : Nat) (hF : F.off G = true) (hb : F.off GSTAT.GO_BUSY = true)
    (hl : F.off GSTAT.LOCK_IGN = true) : (t.wrField false ⟨G, .go, .none, id⟩ 0x3600 w).on F = t.on F := by
  unfold State.on
  rw [wrField_rd _ _ _ _ _ hF hb hl]

theorem limitsWritten_on (s : State) (w : Nat) {F : Fld} (h : limitFields.all F.off = true) : (s.limitsWritten w).on F = s.on F := by
  unfold State.on
  rw [limitsWritten_rd _ _ (Fld.outside_of_off h 0)]

theorem retrains_same (h : t.on GL_CTRL.RETRAIN = s.on GL_CTRL.RETRAIN) : s.retrains t = t := by
  rw [State.retrains, h, if_neg (by simp)]

theorem applies_same (h : t.on GL_CTRL.SSC_APPLY = s.on GL_CTRL.SSC_APPLY) : s.applies t = t := by
  rw [State.applies, h, if_neg (by simp)]

theorem kept_writeWord_sscApply (h : Kept W s) {w : Nat} (hw : w / 2 ^ 0 % 2 = 0) (he : W.part .emit) (hg : W.part .gl)
    (ho : ∀ F ∈ [GL_CTRL.ALERT_PT, GL_CTRL.ALERT_HOLD, GL_CTRL.DONE_MARGIN, GL_CTRL.SSC_APPLY, GSTAT.GO_BUSY, GSTAT.LOCK_IGN], W.fld F)
    (b : BusAcc) : Kept W (s.writeWord b 0x3600 w) := by
  have h1 := kept_limitsWritten h (fun F hF => ho F (by simp only [List.mem_cons, List.not_mem_nil, or_false] at hF ⊢; tauto)) w
  have h2 := kept_writeField_open (f := ⟨GL_CTRL.SSC_APPLY, .go, .none, id⟩) h1 ⟨ho _ (by simp), fun _ => ho _ (by simp), fun e => absurd rfl e⟩
    false 0 (w / 2 ^ (GL_CTRL.SSC_APPLY.key 0 - 8 * 0x3600))
  rw [writeWord_GL_CTRL, wrField_go_zero (f := ⟨GL_CTRL.RETRAIN, .go, .none, id⟩) 0 _ rfl (by decide) rfl hw, retrains_same]
  · exact kept_ite (kept_sscApply h2 he hg (ho _ (by simp))) h2
  · rw [on_wrField_go _ _ _ (by decide) (by decide) (by decide), limitsWritten_on _ _ (by decide)]

theorem kept_writeWord_retrain (h : Kept W s) {w : Nat} (hw : w / 2 ^ 1 % 2 = 0) (he : W.part .emit) (hg : W.part .gl)
    (ho : ∀ F ∈ [GL_CTRL.ALERT_PT, GL_CTRL.ALERT_HOLD, GL_CTRL.DONE_MARGIN, GL_CTRL.RETRAIN, GL_FAULT.FAULT, GL_STAT.LSTATE,
      GSTAT.GO_BUSY, GSTAT.LOCK_IGN], W.fld F) (b : BusAcc) : Kept W (s.writeWord b 0x3600 w) := by
  have h1 := kept_limitsWritten h (fun F hF => ho F (by simp only [List.mem_cons, List.not_mem_nil, or_false] at hF ⊢; tauto)) w
  have h2 := kept_writeField_open (f := ⟨GL_CTRL.RETRAIN, .go, .none, id⟩) h1 ⟨ho _ (by simp), fun _ => ho _ (by simp), fun e => absurd rfl e⟩
    false 0 (w / 2 ^ (GL_CTRL.RETRAIN.key 0 - 8 * 0x3600))
  have h3 : ((s.limitsWritten w).wrField false ⟨GL_CTRL.RETRAIN, .go, .none, id⟩ 0x3600 w).on GL_CTRL.SSC_APPLY = s.on GL_CTRL.SSC_APPLY := by
    rw [on_wrField_go _ _ _ (by decide) (by decide) (by decide), limitsWritten_on _ _ (by decide)]
  rw [writeWord_GL_CTRL, wrField_go_zero (f := ⟨GL_CTRL.SSC_APPLY, .go, .none, id⟩) 1 _ rfl (by decide) rfl hw]
  rw [applies_same]
  · exact kept_ite (kept_retrain h2 he hg (ho _ (by simp)) (ho _ (by simp)) (ho _ (by simp))) h2
  · unfold State.retrains
    split
    · unfold State.on at h3 ⊢
      rw [retrain_rd _ (by decide)]
      exact h3
    · exact h3

end Sys2Proof.Machine
end
section
/-! PROOF. Frames of the register writes, and the settled statement O60. -/

namespace Sys2Proof.Machine

/- Every `decide +kernel` waits for the kernel; elaborated one after another, the proofs hold less memory while they wait. -/
set_option Elab.async false

variable {s t : State} {c : Instr} {a : Access} {ps : List Region} {fs : List Fld} {n off r v : Nat} {hi : Bool} {d : RegDesc}

/-! ### Commands that write their own register -/

/-- The bounds of a command of its own register: its footprint, a refusal, and a read in the same hub cycle. -/
def rowBounds (s : State) (c : Instr) (ps : List Region) (fs : List Fld) : Bounds :=
  ⟨s.pending, s.tick, (· = s.locks), s, (· ∈ ps ++ readParts c), (· ∈ fs ++ refusalFields ++ readFields c)⟩

theorem row_part {q : Region} (h : q ∈ ps) : (rowBounds s c ps fs).part q := List.mem_append_left _ h

theorem row_fld {F : Fld} (h : F ∈ fs) : (rowBounds s c ps fs).fld F := List.mem_append_left _ (List.mem_append_left _ h)

theorem row_logs (ht : Region.tasks ∈ ps) (hl : Region.log ∈ ps) : Logs (rowBounds s c ps (fs ++ logFields)) :=
  ⟨row_part ht, row_part hl, fun _ hF => row_fld (List.mem_append_right _ hF)⟩

theorem readsToo_of_also (hc : accessOf c = some a) (h : a.also.isSome = true) : readsToo c = true := by
  rw [readsToo, hc]
  exact h

theorem row_port (hc : accessOf c = some a) (he : Region.emit ∈ ps) : PortOpen (rowBounds s c ps fs) a where
  emit := row_part he
  refusal F hF := List.mem_append_left _ (List.mem_append_right _ hF)
  also h := by
    have hr := readsToo_of_also hc h
    refine ⟨List.mem_append_right _ ?_, List.mem_append_right _ ?_, List.mem_append_right _ ?_⟩
    · rw [readParts, if_pos hr]
      exact List.mem_cons_self
    · rw [readFields, if_pos hr]
      exact List.mem_cons_self
    · rw [readFields, if_pos hr]
      exact List.mem_cons_of_mem _ List.mem_cons_self

/-- A command that writes one register, of a unit `n` below `k`, stays within its row when the register's write does. -/
theorem row_leaves {k : Nat} {w : State → Nat} (hx : ∀ s, exec c s = .next (if k ≤ n then s.quiet else s.quiet.axiWrite a off (w s)))
    (hc : accessOf c = some a) (he : Region.emit ∈ ps)
    (hw : n < k → ∀ s t, Kept (rowBounds s c ps fs) t → Kept (rowBounds s c ps fs) (t.writeWord (accOf a) off (w s % 2 ^ 32))) :
    Leaves c (ps ++ readParts c) (fs ++ refusalFields ++ readFields c) := by
  intro s
  have hq : Kept (rowBounds s c ps fs) s.quiet := kept_quiet (Kept.self s _ _) (row_part he)
  refine ⟨_, hx s, Kept.frame ?_⟩
  split
  · exact hq
  · exact kept_axiWrite_open hq (row_port hc he) _ _ (hw (Nat.lt_of_not_le ‹_›) s _ hq)

/-- A register that has one instance. -/
theorem row_leaves_single {w : State → Nat} (hx : ∀ s, exec c s = .next (s.quiet.axiWrite a off (w s)))
    (hc : accessOf c = some a) (he : Region.emit ∈ ps)
    (hw : ∀ s t, Kept (rowBounds s c ps fs) t → Kept (rowBounds s c ps fs) (t.writeWord (accOf a) off (w s % 2 ^ 32))) :
    Leaves c (ps ++ readParts c) (fs ++ refusalFields ++ readFields c) :=
  row_leaves (n := 0) (k := 1) hx hc he fun _ => hw

/-- So for a register whose fields all take what is written. -/
theorem row_leaves_fields {w : State → Nat} (hx : ∀ s, exec c s = .next (s.quiet.axiWrite a off (w s)))
    (hc : accessOf c = some a) (he : Region.emit ∈ ps) (hf : findReg off = some (d, r, hi)) (ho : d.off ∉ ownOffs)
    (hs : d.off ∉ [0x2400, 0x3004, 0x603C, 0x3600, 0xC020, 0xB000]) (hp : d.pair = .word)
    (hfs : ∀ f ∈ d.fields, f.fld ∈ fs ∧ (f.acc = .go → GSTAT.GO_BUSY ∈ fs) ∧ f.lock = .none) :
    Leaves c (ps ++ readParts c) (fs ++ refusalFields ++ readFields c) :=
  row_leaves_single hx hc he fun s t ht => kept_writeWord_fields ht hf ho hs (by rw [hp]; decide) (fun f h => by
    obtain ⟨h1, h2, h3⟩ := hfs f h
    exact ⟨row_fld h1, fun k => row_fld (h2 k), fun k => absurd h3 k⟩) _ _

theorem go_leaves (n : Nat) (a : Access) (hf : rowFootprint (.go n a) = some (ps, fs)) :
    Leaves (.go n a) (ps ++ readParts (.go n a)) (fs ++ refusalFields ++ readFields (.go n a)) := by
  cases hf
  refine row_leaves (k := 16) (fun _ => rfl) rfl (by simp) fun hn s t ht => ?_
  rw [writeWord_mbCtl hn]
  exact kept_mbCtlWrite ht (row_part (by simp)) (row_fld (by simp)) (row_fld (by simp)) (row_fld (by simp)) (row_fld (by simp))
    (row_fld (by simp)) (row_fld (by simp))

theorem fetch_leaves (n : Nat) (a : Access) (hf : rowFootprint (.fetch n a) = some (ps, fs)) :
    Leaves (.fetch n a) (ps ++ readParts (.fetch n a)) (fs ++ refusalFields ++ readFields (.fetch n a)) := by
  cases hf
  refine row_leaves (k := 16) (fun _ => rfl) rfl (by simp) fun hn s t ht => ?_
  rw [writeWord_mbCtl hn]
  exact kept_mbCtlWrite ht (row_part (by simp)) (row_fld (by simp)) (row_fld (by simp)) (row_fld (by simp)) (row_fld (by simp))
    (row_fld (by simp)) (row_fld (by simp))

theorem sqTailWrite_leaves (r v : Nat) (a : Access) (hf : rowFootprint (.sqTailWrite r v a) = some (ps, fs)) :
    Leaves (.sqTailWrite r v a) (ps ++ readParts (.sqTailWrite r v a)) (fs ++ refusalFields ++ readFields (.sqTailWrite r v a)) := by
  cases hf
  refine row_leaves (k := 15) (fun _ => rfl) rfl (by simp) fun hr s t ht => ?_
  rw [writeWord_ringSq hr]
  exact kept_sqTailWrite ht (row_fld (by simp)) (row_fld (by simp))

theorem cqHeadWrite_leaves (r v : Nat) (a : Access) (hf : rowFootprint (.cqHeadWrite r v a) = some (ps, fs)) :
    Leaves (.cqHeadWrite r v a) (ps ++ readParts (.cqHeadWrite r v a)) (fs ++ refusalFields ++ readFields (.cqHeadWrite r v a)) := by
  cases hf
  refine row_leaves (k := 15) (fun _ => rfl) rfl (by simp) fun hr s t ht => ?_
  rw [writeWord_ringCq hr]
  exact kept_cqHeadWrite ht (row_fld (by simp)) (row_fld (by simp))

theorem ringEnable_leaves (r v : Nat) (a : Access) (hf : rowFootprint (.ringEnable r v a) = some (ps, fs)) :
    Leaves (.ringEnable r v a) (ps ++ readParts (.ringEnable r v a)) (fs ++ refusalFields ++ readFields (.ringEnable r v a)) := by
  cases hf
  refine row_leaves (k := 15) (w := fun _ => v % 2 ^ 31 + 2 ^ 31) (fun _ => rfl) rfl (by simp) fun hr s t ht => ?_
  rw [writeWord_ringCfg hr, Nat.mod_eq_of_lt (show v % 2 ^ 31 + 2 ^ 31 < 2 ^ 32 by omega)]
  refine kept_ringCfg_on ht (taken_testBit v) (row_part (by simp)) (fun F hF => row_fld ?_) r
  simp only [ringCfgFields, List.cons_append, List.nil_append, List.mem_cons, List.not_mem_nil, or_false] at hF ⊢
  tauto

theorem ringDisable_leaves (r v : Nat) (a : Access) (hf : rowFootprint (.ringDisable r v a) = some (ps, fs)) :
    Leaves (.ringDisable r v a) (ps ++ readParts (.ringDisable r v a)) (fs ++ refusalFields ++ readFields (.ringDisable r v a)) := by
  cases hf
  refine row_leaves (k := 15) (w := fun _ => v % 2 ^ 31) (fun _ => rfl) rfl (by simp) fun hr s t ht => ?_
  rw [writeWord_ringCfg hr, Nat.mod_eq_of_lt (show v % 2 ^ 31 < 2 ^ 32 by omega)]
  refine kept_ringCfg_off ht (Nat.testBit_lt_two_pow (Nat.mod_lt _ (Nat.two_pow_pos 31))) (row_part (by simp)) (row_part (by simp))
    (fun F hF => row_fld ?_) r
  simp only [ringCfgFields, List.cons_append, List.nil_append, List.mem_cons, List.not_mem_nil, or_false] at hF ⊢
  tauto

theorem transportMode_leaves (v : Nat) (a : Access) (hf : rowFootprint (.transportMode v a) = some (ps, fs)) :
    Leaves (.transportMode v a) (ps ++ readParts (.transportMode v a)) (fs ++ refusalFields ++ readFields (.transportMode v a)) := by
  cases hf
  refine row_leaves_single (w := fun _ => v) (fun _ => rfl) rfl (by simp) fun s t ht => ?_
  rw [writeWord_TRANSPORT]
  exact kept_ite (kept_wr ht (row_fld (by simp))) (kept_ite (kept_wr ht (row_fld (by simp))) ht)

theorem permEffWrite_leaves (n v : Nat) (a : Access) (hf : rowFootprint (.permEffWrite n v a) = some (ps, fs)) :
    Leaves (.permEffWrite n v a) (ps ++ readParts (.permEffWrite n v a)) (fs ++ refusalFields ++ readFields (.permEffWrite n v a)) := by
  cases hf
  refine row_leaves (k := 256) (w := fun _ => v) (fun _ => rfl) rfl (by simp) fun hn s t ht => ?_
  rw [writeWord_perm hn]
  exact kept_permWrite ht (row_fld (by simp)) (row_fld (by simp))

theorem peakClr_leaves (a : Access) (hf : rowFootprint (.peakClr a) = some (ps, fs)) :
    Leaves (.peakClr a) (ps ++ readParts (.peakClr a)) (fs ++ refusalFields ++ readFields (.peakClr a)) := by
  cases hf
  obtain ⟨d, hr, ho, -, -, hp, hfs⟩ := findReg_CAD_CTRL
  exact row_leaves_fields (w := fun _ => 1) (fun _ => rfl) rfl (by simp) hr (by rw [ho]; decide) (by rw [ho]; decide) hp
    (by rw [hfs]; simp)

theorem armWrite_leaves (v : Nat) (a : Access) (hf : rowFootprint (.arm v a) = some (ps, fs)) :
    Leaves (.arm v a) (ps ++ readParts (.arm v a)) (fs ++ refusalFields ++ readFields (.arm v a)) := by
  cases hf
  obtain ⟨d, hr, ho, -, -, hp, hfs⟩ := findReg_ENG_TR_CTRL
  exact row_leaves_fields (w := fun _ => v % 2 ^ 31 + 2 ^ 31) (fun _ => rfl) rfl (by simp) hr (by rw [ho]; decide) (by rw [ho]; decide) hp
    (by rw [hfs]; simp)

theorem rcClrErr_leaves (a : Access) (hf : rowFootprint (.rcClrErr a) = some (ps, fs)) :
    Leaves (.rcClrErr a) (ps ++ readParts (.rcClrErr a)) (fs ++ refusalFields ++ readFields (.rcClrErr a)) := by
  cases hf
  obtain ⟨d, hr, ho, -, -, hp, hfs⟩ := findReg_RC_CLR
  exact row_leaves_fields (w := fun _ => 1) (fun _ => rfl) rfl (by simp) hr (by rw [ho]; decide) (by rw [ho]; decide) hp
    (by rw [hfs]; simp)

theorem emAttClr_leaves (v : Nat) (a : Access) (hf : rowFootprint (.emAttClr v a) = some (ps, fs)) :
    Leaves (.emAttClr v a) (ps ++ readParts (.emAttClr v a)) (fs ++ refusalFields ++ readFields (.emAttClr v a)) := by
  cases hf
  obtain ⟨d, hr, ho, -, -, hp, hfs⟩ := findReg_EM_ATT_CTRL
  refine row_leaves_single (w := fun _ => v % 2 ^ 31 + 2 ^ 31) (fun _ => rfl) rfl (by simp) fun s t ht => ?_
  rw [writeWord_fields hr (by rw [ho]; decide) (by rw [hp]; decide), State.crossClamp, ho, if_neg (by decide), if_neg (by decide)]
  have h1 : ∀ (b : Bool) (w : Nat), Kept (rowBounds s (.emAttClr v a) _ _) (t.writeFields b d 0 w) := fun b w =>
    kept_writeFields_open ht (fun f hf => by
      rw [hfs] at hf
      simp only [List.mem_cons, List.not_mem_nil, or_false] at hf
      obtain rfl | rfl | rfl | rfl := hf
      all_goals exact ⟨row_fld (by simp), fun _ => row_fld (by simp), fun k => absurd rfl k⟩) _ _ _
  unfold State.beginsFrom
  rw [ho]
  refine kept_ite (kept_askClear (h1 _ _) (row_part (by simp))) ?_
  rw [if_neg (by decide), if_neg (by simp), if_neg (by simp)]
  exact h1 _ _

theorem flush_leaves (v : Nat) (a : Access) (hf : rowFootprint (.flush v a) = some (ps, fs)) :
    Leaves (.flush v a) (ps ++ readParts (.flush v a)) (fs ++ refusalFields ++ readFields (.flush v a)) := by
  cases hf
  obtain ⟨d, hr, ho, -, -, hp, hfs⟩ := findReg_LOG_CTRL
  refine row_leaves_single (w := fun _ => Nat.lor v (2 ^ 26)) (fun _ => rfl) rfl (by simp) fun s t ht => ?_
  rw [writeWord_fields hr (by rw [ho]; decide) (by rw [hp]; decide), State.crossClamp, ho, if_neg (by decide), if_neg (by decide)]
  have h1 : ∀ (b : Bool) (w : Nat), Kept (rowBounds s (.flush v a) _ _) (t.writeFields b d 0 w) := fun b w =>
    kept_writeFields_open ht (fun f hf => by
      rw [hfs] at hf
      simp only [List.mem_cons, List.not_mem_nil, or_false] at hf
      obtain rfl | rfl | rfl | rfl | rfl | rfl := hf
      all_goals exact ⟨row_fld (by simp), fun _ => row_fld (by simp), fun k => absurd rfl k⟩) _ _ _
  unfold State.beginsFrom
  rw [ho, if_neg (by simp), if_neg (by decide)]
  refine kept_ite (kept_trigger (h1 _ _) (row_part (by simp))) ?_
  rw [if_neg (by simp)]
  exact h1 _ _

theorem pwSnap_leaves (p : Nat) (a : Access) (hf : rowFootprint (.pwSnap p a) = some (ps, fs)) :
    Leaves (.pwSnap p a) (ps ++ readParts (.pwSnap p a)) (fs ++ refusalFields ++ readFields (.pwSnap p a)) := by
  cases hf
  refine row_leaves (k := 32) (fun _ => rfl) rfl (by simp) fun hp s t ht => ?_
  rw [writeWord_pwCtrl hp]
  exact kept_ite ht (kept_ite (kept_wr ht (row_fld (by simp))) (kept_wr (kept_wr ht (row_fld (by simp))) (row_fld (by simp))))

theorem hsCtrl_row (ht : Kept (rowBounds s c [.free, .tasks, .log, .emit] ([Evt.st .FW_HSNAP, HS_CTRL.FROZEN, HS_CTRL.MISSED, HS_W.WORD] ++
    logFields)) t) (w : Nat) : Kept (rowBounds s c [.free, .tasks, .log, .emit] ([Evt.st .FW_HSNAP, HS_CTRL.FROZEN, HS_CTRL.MISSED,
      HS_W.WORD] ++ logFields)) (t.hsCtrl w) :=
  kept_hsCtrl ht (row_part (by simp)) (row_logs (by simp) (by simp)) (row_fld (by simp)) (row_fld (by simp)) (row_fld (by simp))
    (row_fld (by simp))

theorem take_leaves (v : Nat) (a : Access) (hf : rowFootprint (.take v a) = some (ps, fs)) :
    Leaves (.take v a) (ps ++ readParts (.take v a)) (fs ++ refusalFields ++ readFields (.take v a)) := by
  cases hf
  refine row_leaves_single (w := fun _ => v % 2 ^ 31 + 2 ^ 31) (fun _ => rfl) rfl (by simp) fun s t ht => ?_
  rw [writeWord_HS_CTRL]
  exact hsCtrl_row ht _

theorem rearm_leaves (v : Nat) (a : Access) (hf : rowFootprint (.rearm v a) = some (ps, fs)) :
    Leaves (.rearm v a) (ps ++ readParts (.rearm v a)) (fs ++ refusalFields ++ readFields (.rearm v a)) := by
  cases hf
  refine row_leaves_single (w := fun _ => Nat.lor v (2 ^ 30)) (fun _ => rfl) rfl (by simp) fun s t ht => ?_
  rw [writeWord_HS_CTRL]
  exact hsCtrl_row ht _

theorem rcHb_leaves (v : Nat) (a : Access) (hf : rowFootprint (.rcHb v a) = some (ps, fs)) :
    Leaves (.rcHb v a) (ps ++ readParts (.rcHb v a)) (fs ++ refusalFields ++ readFields (.rcHb v a)) := by
  cases hf
  refine row_leaves_single (w := fun _ => v) (fun _ => rfl) rfl (by simp) fun s t ht => ?_
  rw [writeWord_RC_HB]
  exact kept_heartbeat ht (row_part (by simp)) (row_part (by simp)) (row_part (by simp)) (row_logs (by simp) (by simp))
    (row_fld (by simp)) (row_fld (by simp)) (row_fld (by simp)) (row_fld (by simp)) (row_fld (by simp)) (row_fld (by simp))
    (row_fld (by simp)) (row_fld (by simp))

theorem sscApply_leaves (a : Access) (hf : rowFootprint (.sscApply a) = some (ps, fs)) :
    Leaves (.sscApply a) (ps ++ readParts (.sscApply a)) (fs ++ refusalFields ++ readFields (.sscApply a)) := by
  cases hf
  exact row_leaves_single (w := fun s => s.glCtrlWord 2) (fun _ => rfl) rfl (by simp) fun s t ht =>
    kept_writeWord_sscApply ht (glCtrlWord_bits s (by decide)).2 (row_part (by simp)) (row_part (by simp)) (fun F hF => row_fld hF) _

theorem retrain_leaves (a : Access) (hf : rowFootprint (.retrain a) = some (ps, fs)) :
    Leaves (.retrain a) (ps ++ readParts (.retrain a)) (fs ++ refusalFields ++ readFields (.retrain a)) := by
  cases hf
  exact row_leaves_single (w := fun s => s.glCtrlWord 1) (fun _ => rfl) rfl (by simp) fun s t ht =>
    kept_writeWord_retrain ht (glCtrlWord_bits s (by decide)).1 (row_part (by simp)) (row_part (by simp)) (fun F hF => row_fld hF) _

theorem rowFootprint_leaves (hf : rowFootprint c = some (ps, fs)) : Leaves c (ps ++ readParts c) (fs ++ refusalFields ++ readFields c) := by
  cases c
  case go => exact go_leaves _ _ hf
  case fetch => exact fetch_leaves _ _ hf
  case sqTailWrite => exact sqTailWrite_leaves _ _ _ hf
  case cqHeadWrite => exact cqHeadWrite_leaves _ _ _ hf
  case ringEnable => exact ringEnable_leaves _ _ _ hf
  case ringDisable => exact ringDisable_leaves _ _ _ hf
  case transportMode => exact transportMode_leaves _ _ hf
  case permEffWrite => exact permEffWrite_leaves _ _ _ hf
  case peakClr => exact peakClr_leaves _ hf
  case emAttClr => exact emAttClr_leaves _ _ hf
  case arm => exact armWrite_leaves _ _ hf
  case rcClrErr => exact rcClrErr_leaves _ hf
  case pwSnap => exact pwSnap_leaves _ _ hf
  case flush => exact flush_leaves _ _ hf
  case take => exact take_leaves _ _ hf
  case rearm => exact rearm_leaves _ _ hf
  case rcHb => exact rcHb_leaves _ _ hf
  case sscApply => exact sscApply_leaves _ hf
  case retrain => exact retrain_leaves _ hf
  all_goals exact absurd hf (by simp [rowFootprint])

end Sys2Proof.Machine
end
section
/-! PROOF. Lock bits, registers without a command of their own, and REG_WRITE: the rest of O60, and the settled statement. -/

namespace Sys2Proof.Machine

variable {W : Bounds} {s t : State} {c : Instr} {a : Access} {off r : Nat} {hi : Bool} {d : RegDesc}

/-! ### Bounds that name the parts and fields outright -/

theorem readFields_open (hc : accessOf c = some a) (h : a.also.isSome = true) :
    Region.bus ∈ readParts c ∧ GSTAT.SNAP_STALE ∈ readFields c ∧ SNT_IDX.IDX ∈ readFields c := by
  rw [readParts, readFields, if_pos (readsToo_of_also hc h), if_pos (readsToo_of_also hc h)]
  simp

/-- A command that sets a lock bit. -/
theorem lock_frame (hx : ∀ s, ∃ l, exec c s = .next (s.quiet.axiWrite a off l) ∧
      ∀ t : State, ∃ k, t.writeWord (accOf a) off (l % 2 ^ 32) = t.setLocks k) (hc : accessOf c = some a) (s : State) :
    Answers c s (fun t => Frame (· ∈ Region.emit :: readParts c) (· ∈ refusalFields ++ readFields c) { s with locks := t.locks } t) := by
  obtain ⟨l, hx, hw⟩ := hx s
  have hq : Kept (.freeLocks s (· ∈ Region.emit :: readParts c) (· ∈ refusalFields ++ readFields c)) s.quiet :=
    kept_quiet (kept_freeLocks ..) List.mem_cons_self
  have o : PortOpen (.freeLocks s (· ∈ Region.emit :: readParts c) (· ∈ refusalFields ++ readFields c)) a := by
    refine ⟨List.mem_cons_self, fun F hF => List.mem_append_left _ hF, fun h => ?_⟩
    obtain ⟨h1, h2, h3⟩ := readFields_open hc h
    exact ⟨List.mem_cons_of_mem _ h1, List.mem_append_right _ h2, List.mem_append_right _ h3⟩
  obtain ⟨k, hk⟩ := hw s.quiet
  refine ⟨_, hx, (kept_axiWrite_open hq o _ _ ?_).frame_freeLocks⟩
  rw [hk]
  exact kept_setLocks hq fun _ _ _ => trivial

theorem setsLock_frame (hc : SetsLock c) (s : State) : Answers c s (fun t => Frame (· ∈ Region.emit :: readParts c)
    (· ∈ refusalFields ++ readFields c) { s with locks := t.locks } t) := by
  cases c
  case lockCfg a => exact lock_frame (fun s => ⟨_, rfl, fun t => ⟨_, writeWord_LOCK0 ..⟩⟩) rfl s
  case lockPerm a => exact lock_frame (fun s => ⟨_, rfl, fun t => ⟨_, writeWord_LOCK1 ..⟩⟩) rfl s
  case lockTransport a => exact lock_frame (fun s => ⟨_, rfl, fun t => ⟨_, writeWord_LOCK1 ..⟩⟩) rfl s
  case lockFw a => exact lock_frame (fun s => ⟨_, rfl, fun t => ⟨_, writeWord_LOCK1 ..⟩⟩) rfl s
  case lockDiag a => exact lock_frame (fun s => ⟨_, rfl, fun t => ⟨_, writeWord_LOCK1 ..⟩⟩) rfl s
  all_goals exact absurd hc (by simp [SetsLock])

/-! ### Registers without a command of their own -/

theorem writesWord_exec (h : WritesWord c off) : ∃ v a, accessOf c = some a ∧ ∀ s, exec c s = .next (s.quiet.axiWrite a off v) := by
  obtain ⟨v, a, rfl | rfl | rfl⟩ := h
  · exact ⟨v, a, rfl, fun _ => rfl⟩
  · exact ⟨v, a, rfl, fun _ => rfl⟩
  · exact ⟨v, a, rfl, fun _ => rfl⟩

theorem word_frame (h : WritesWord c off) (hf : findReg off = some (d, r, hi)) (ho : d.off ∉ specialOffs ∨ d.pair = .wpair) (s : State) :
    Answers c s (fun t => Frame (fun q => q = .bus ∨ q = .emit) (fun F => (∃ f ∈ d.fields, f.fld = F) ∨
      F ∈ [GSTAT.GO_BUSY, GSTAT.LOCK_IGN, RING_STAT.CFG_ERR] ++ refusalFields ++ readFields c) s t) := by
  obtain ⟨v, a, hc, hx⟩ := writesWord_exec h
  have hq := kept_quiet (Kept.self s (fun q => q = .bus ∨ q = .emit) (fun F => (∃ f ∈ d.fields, f.fld = F) ∨
    F ∈ [GSTAT.GO_BUSY, GSTAT.LOCK_IGN, RING_STAT.CFG_ERR] ++ refusalFields ++ readFields c)) (.inr rfl)
  refine ⟨_, hx s, (kept_axiWrite_open hq ⟨.inr rfl, fun F hF => .inr ?_, fun k => ?_⟩ _ _ ?_).frame⟩
  · exact List.mem_append_left _ (List.mem_append_right _ hF)
  · obtain ⟨-, h2, h3⟩ := readFields_open hc k
    exact ⟨.inl rfl, .inr (List.mem_append_right _ h2), .inr (List.mem_append_right _ h3)⟩
  · exact kept_writeWord_plain hq hf ho (.inl rfl) (fun f hf => .inl ⟨f, hf, rfl⟩)
      (fun F hF => .inr (List.mem_append_left _ (List.mem_append_left _ hF))) _ _

/-- An offset that names no register is refused. -/
theorem accessCause_unnamed (hf : findReg off = none) (b : BusAcc) : s.accessCause b true off ≠ none := by
  unfold State.accessCause
  rw [hf]
  split
  · simp
  · split
    · split <;> simp
    · simp

theorem unnamed_frame (h : WritesWord c off) (hf : findReg off = none) (s : State) :
    Answers c s (fun t => Frame (· ∈ Region.emit :: readParts c) (· ∈ refusalFields ++ readFields c) s t) := by
  obtain ⟨v, a, hc, hx⟩ := writesWord_exec h
  have hq := kept_quiet (Kept.self s (· ∈ Region.emit :: readParts c) (· ∈ refusalFields ++ readFields c)) List.mem_cons_self
  obtain ⟨k, hk⟩ := Option.ne_none_iff_exists'.1 (accessCause_unnamed (s := s.quiet) hf (accOf a))
  have o : PortOpen ⟨s.pending, s.tick, (· = s.locks), s, (· ∈ Region.emit :: readParts c), (· ∈ refusalFields ++ readFields c)⟩ a := by
    refine ⟨List.mem_cons_self, fun F hF => List.mem_append_left _ hF, fun h => ?_⟩
    obtain ⟨h1, h2, h3⟩ := readFields_open hc h
    exact ⟨List.mem_cons_of_mem _ h1, List.mem_append_right _ h2, List.mem_append_right _ h3⟩
  refine ⟨_, hx s, Kept.frame ?_⟩
  rw [axiWrite_refused v hk]
  exact kept_readToo_open (kept_drive (kept_refusal hq o.refusal ..) o.emit) o _

/-! ### REG_WRITE -/

theorem kept_busWrite_open (h : Kept W s) (o : ∀ F ∈ refusalFields, W.fld F) (b : BusAcc) (off v : Nat)
    (hw : Kept W (s.writeWord b off (v % 2 ^ 32))) : Kept W (s.busWrite b off v).2 := by
  unfold State.busWrite
  split
  · exact kept_refusal h o ..
  · exact kept_ite h hw

/-- The handler's work on a packet whose execution stays within the bounds. -/
theorem kept_runOp_packet {op n : Nat} {p : Packet} {act : State → Nat → Packet → Result × State} (h : Kept W s)
    (hn : s.nextPacket = some (n, p)) (hact : ∀ t, Kept W t → Kept W (act t n p).2) (hop : op ≠ 0x30) (hb : W.part .bus)
    (hc : W.part .cmd) (hl : Logs W) (o : ∀ F ∈ answerFields, W.fld F) : Kept W (s.runOp op act) := by
  have ha : ∀ (t : State) (st : Nat) (ws : List Nat), Kept W t → Kept W (t.answer n p st ws).answerUndefined := fun t st ws ht => by
    refine kept_answerUndefined (kept_answer ht hb hc hl ?_ ?_ ?_ ?_ ?_ ?_ ?_ ?_ ?_ ?_ ?_ ?_) hb hc hl ?_ ?_ ?_ ?_ ?_ ?_ ?_ ?_ ?_ ?_ ?_ ?_
    all_goals exact o _ (by simp [answerFields])
  have hu : ∀ t : State, Kept W t → Kept W t.answerUndefined := fun t ht => by
    refine kept_answerUndefined ht hb hc hl ?_ ?_ ?_ ?_ ?_ ?_ ?_ ?_ ?_ ?_ ?_ ?_
    all_goals exact o _ (by simp [answerFields])
  have hp := kept_popPacket (a2 := (n, p)) h hc
  unfold State.runOp
  rw [hn]
  dsimp only
  refine kept_ite h ?_
  split
  · exact ha _ _ _ (kept_hintRefused hp fun k => absurd k hop)
  · have h1 := hact _ hp
    have h2 := kept_ite (c := executed (act (s.popPacket (n, p)) n p).1 = true) (kept_inc (F := CMD_CNT.EXEC) (i := 0) h1
      (o _ (by simp [answerFields]))) h1
    split
    · exact ha _ _ _ h2
    · exact hu _ h2

theorem leastOf_quiet (s : State) (l : List (Nat × Packet)) : s.quiet.leastOf l = s.leastOf l := by
  induction l with
  | nil => rfl
  | cons e l ih =>
    rw [State.leastOf, State.leastOf, ih]
    rfl

/-- The next packet does not turn on what the step before has driven. -/
theorem nextPacket_quiet (s : State) : s.quiet.nextPacket = s.nextPacket := by
  unfold State.nextPacket
  simp only [leastOf_quiet]
  rfl

theorem regWrite_frame {n off v r : Nat} {hi : Bool} {p : Packet} {d : RegDesc} (hn : s.nextPacket = some (n, p))
    (hp : p.params = [off, v]) (hf : findReg off = some (d, r, hi)) (ho : d.off ∉ specialOffs ∨ d.pair = .wpair) :
    Answers .regWrite s (fun t => Frame (· ∈ [Region.bus, Region.cmd, Region.emit, Region.tasks, Region.log])
      (fun F => (∃ f ∈ d.fields, f.fld = F) ∨
        F ∈ [GSTAT.GO_BUSY, GSTAT.LOCK_IGN, RING_STAT.CFG_ERR] ++ refusalFields ++ answerFields ++ logFields) s t) := by
  have hq := kept_quiet (Kept.self s (· ∈ [Region.bus, Region.cmd, Region.emit, Region.tasks, Region.log])
    (fun F => (∃ f ∈ d.fields, f.fld = F) ∨
      F ∈ [GSTAT.GO_BUSY, GSTAT.LOCK_IGN, RING_STAT.CFG_ERR] ++ refusalFields ++ answerFields ++ logFields)) (by simp)
  refine ⟨_, rfl, (kept_runOp_packet (n := n) (p := p) hq ((nextPacket_quiet s).trans hn) (fun t ht => ?_) (by decide) (by simp) (by simp)
    ⟨by simp, by simp, fun F hF => .inr (List.mem_append_right _ hF)⟩ fun F hF => .inr ?_).frame⟩
  · have hx : (t.writeAll p.params).2 = (t.busWrite svcAcc off v).2 := by
      rw [hp]
      rfl
    change Kept _ (t.writeAll p.params).2
    rw [hx]
    refine kept_busWrite_open ht (fun F hF => .inr ?_) _ _ _ (kept_writeWord_plain ht hf ho (by simp) (fun f hf => .inl ⟨f, hf, rfl⟩)
      (fun F hF => .inr ?_) _ _)
    · exact List.mem_append_left _ (List.mem_append_left _ (List.mem_append_right _ hF))
    · exact List.mem_append_left _ (List.mem_append_left _ (List.mem_append_left _ hF))
  · exact List.mem_append_left _ (List.mem_append_right _ hF)

end Sys2Proof.Machine

namespace Sys2Proof
open Sys2Proof.Machine

/-- Settles O60: the port adds a refusal's record and a read's writes to what each register's write stays within. -/
theorem registerFootprintsHold : Obligations.RegisterFootprintsHold := by
  unfold Obligations.RegisterFootprintsHold
  exact ⟨fun c ps fs => rowFootprint_leaves, fun c s h => setsLock_frame h s, fun c off r hi d s h hf ho => word_frame h hf ho s,
    fun c off s h hf => unnamed_frame h hf s, fun n off v r hi p d s hn hp hf ho => regWrite_frame hn hp hf ho⟩

end Sys2Proof
end

section
/-! PROOF. What the answer to a packet leaves alone, and where its reply is kept. -/

namespace Sys2Proof.Machine

variable {s t u : State} {n : Nat} {p : Packet}

/-! ### What an answer writes -/

/-- The fields that the answers to packets write, with the number of instances each is written at. -/
def answerWrites : List (Fld × Nat) :=
  [(CMD_LAST.OPCODE, 1), (CMD_LAST.SEQ, 1), (CMD_LAST.STATUS, 1), (CMD_LAST_SRC.CLASS, 1), (CMD_LAST_SRC.INSTANCE, 1),
   (CMD_REFUSED.BADOP, 1), (CMD_REFUSED.BADPARAM, 1), (CMD_REFUSED.NOPERM, 1), (CMD_REFUSED.VERSION, 1), (MB_CTL.OWED, 16),
   (MB_CTL.RQ, 16), (RING_STAT.OWED, 15), (DB_STAT_NS.STAT, 1), (DB_STAT_S.STAT, 1)]

/-- No answer to a packet writes instance `i` of `F`. -/
def Fld.unanswered (F : Fld) (i : Nat) : Prop :=
  ∀ e ∈ answerWrites, ∀ j < e.2, F.key i ≠ e.1.key j

/-- No answer writes any of the first `N` instances of `F`: a test on the fields alone. -/
def Fld.offAnswers (F : Fld) (N : Nat) : Bool :=
  answerWrites.all fun e => F.apart e.1 N e.2

/-- No answer writes any instance of `F`: a test on the fields alone. -/
def Fld.clearOfAnswers (F : Fld) : Bool :=
  answerWrites.all fun e => F.off e.1

theorem Fld.unanswered_below {F : Fld} {N i : Nat} (h : F.offAnswers N = true) (hi : i < N) : F.unanswered i :=
  fun e he _ hj => F.key_ne_of_apart (List.all_eq_true.1 h e he) hi hj

theorem Fld.unanswered_all {F : Fld} (h : F.clearOfAnswers = true) (i : Nat) : F.unanswered i :=
  fun e he j _ => F.key_ne_of_off (List.all_eq_true.1 h e he) i j

/-- `t` is `s` after answers to packets: only the replies, what is owed and the counters of refusals differ. -/
structure Answered (s t : State) : Prop where
  rest : { t with fields := s.fields, rwl := s.rwl, bus := s.bus, cmd := s.cmd } = s
  rd : ∀ F i, F.unanswered i → t.rd F i = s.rd F i
  out : t.cmd.out = s.cmd.out
  shadows : t.bus.shadows = s.bus.shadows

theorem Answered.refl (s : State) : Answered s s :=
  ⟨rfl, fun _ _ _ => rfl, rfl, rfl⟩

theorem Answered.trans (h : Answered s t) (k : Answered t u) : Answered s u where
  rest := (congrArg (fun x : State => { x with fields := s.fields, rwl := s.rwl, bus := s.bus, cmd := s.cmd }) k.rest).trans h.rest
  rd F i hF := (k.rd F i hF).trans (h.rd F i hF)
  out := k.out.trans h.out
  shadows := k.shadows.trans h.shadows

theorem Answered.wr (s : State) {F : Fld} {N i : Nat} (h : (F, N) ∈ answerWrites) (hi : i < N) (v : Nat) :
    Answered s (s.wr F i v) where
  rest := by
    unfold State.wr
    split <;> rfl
  rd G j hG := rd_wr_ne _ _ _ _ _ _ (hG _ h _ hi)
  out := congrArg Cmd.out (wr_cmd s F i v)
  shadows := congrArg Bus.shadows (wr_bus s F i v)

theorem Answered.inc (s : State) {F : Fld} (h : (F, 1) ∈ answerWrites) : Answered s (s.inc F) :=
  .wr s h Nat.one_pos _

theorem Answered.setCmd (s : State) {f : Cmd → Cmd} (h : (f s.cmd).out = s.cmd.out) : Answered s (s.setCmd f) :=
  ⟨rfl, fun _ _ _ => rfl, h, rfl⟩

theorem Answered.setBus (s : State) {f : Bus → Bus} (h : (f s.bus).shadows = s.bus.shadows) : Answered s (s.setBus f) :=
  ⟨rfl, fun _ _ _ => rfl, rfl, h⟩

theorem Answered.ite {c : Prop} [Decidable c] (ht : Answered s t) (hu : Answered s u) : Answered s (if c then t else u) := by
  split
  · exact ht
  · exact hu

theorem answered_wrBit (s : State) {F : Fld} (h : (F, 1) ∈ answerWrites) (b : Nat) (v : Bool) :
    Answered s (s.wrBit F 0 b v) :=
  .ite (.refl s) (.wr s h Nat.one_pos _)

theorem answered_doorbell (s : State) (b : Nat) : Answered s (s.doorbell b) :=
  .ite (answered_wrBit s (by simp [answerWrites]) _ _) (answered_wrBit s (by simp [answerWrites]) _ _)

theorem answered_settle (s : State) (n : Nat) : Answered s (s.settle n) := by
  unfold State.settle
  split
  · exact .wr s (N := 16) (by simp [answerWrites]) ‹_› _
  split
  · exact .wr s (N := 15) (by simp [answerWrites]) (by have h : iSVC = 31 := rfl; omega) _
  · exact .refl s

theorem answered_owe (s : State) (n : Nat) : Answered s (s.owe n) := by
  unfold State.owe
  split
  · exact .wr s (N := 16) (by simp [answerWrites]) ‹_› _
  split
  · exact .wr s (N := 15) (by simp [answerWrites]) (by have h : iSVC = 31 := rfl; omega) _
  · exact .refl s

theorem answered_deliver (s : State) (n : Nat) (r : Reply) : Answered s (s.deliver n r) := by
  unfold State.deliver
  split
  case isTrue h =>
    have h1 := (Answered.setBus s rfl).trans (.wr (N := 16) (s.setBus fun b => { b with
      mbReplies := Table.set [] b.mbReplies n (s.mbReplies n ++ [r]) }) (F := MB_CTL.RQ) (by simp [answerWrites]) h
      (s.mbReplies n ++ [r]).length)
    exact (h1.trans (answered_settle _ n)).trans (answered_doorbell _ _)
  split
  · exact .setBus s rfl
  split
  · refine .setCmd s ?_
    split <;> rfl
  · exact .refl s

theorem answered_countRefusal (s : State) (st : Nat) : Answered s (s.countRefusal st) := by
  unfold State.countRefusal
  refine .ite (.inc s ?_) (.ite (.inc s ?_) (.ite (.inc s ?_) (.ite (.inc s ?_) (.refl s)))) <;> simp [answerWrites]

theorem answered_noteLast (s : State) (n : Nat) (p : Packet) (st : Nat) : Answered s (s.noteLast n p st) := by
  have h : ∀ (t : State) (F : Fld) (v : Nat), (F, 1) ∈ answerWrites → Answered s t → Answered s (t.wr F 0 v) :=
    fun t F v hF ht => ht.trans (.wr t hF Nat.one_pos v)
  unfold State.noteLast
  refine .ite (.refl s) (h _ _ _ ?_ (h _ _ _ ?_ (h _ _ _ ?_ (h _ _ _ ?_ (h _ _ _ ?_ (.refl s)))))) <;> simp [answerWrites]

theorem answered_setPort (s : State) (n : Nat) (f : PortState → PortState) : Answered s (s.setPort n f) :=
  .setCmd s rfl

/-- An answer writes nothing but the fields, the replies and the counters of answers. -/
theorem answered_answer (s : State) (n : Nat) (p : Packet) (st : Nat) (ws : List Nat) : Answered s (s.answer n p st ws) := by
  unfold State.answer
  dsimp only
  have h := fun f => (answered_countRefusal s st).trans (answered_setPort _ n f)
  exact .ite ((h _).trans ((answered_noteLast _ n p st).trans (answered_deliver _ n _))) ((h _).trans (answered_settle _ n))

/-! ### Ports, waiting packets and the service port's replies -/

theorem setPort_port (s : State) (n m : Nat) (f : PortState → PortState) :
    (s.setPort n f).port m = if m = n then f (s.port n) else s.port m := by
  unfold State.setPort State.port State.setCmd
  dsimp only
  rw [Table.get_upd]
  split
  · simp_all
  · simp_all [eq_comm]

theorem settle_cmd (s : State) (n : Nat) : (s.settle n).cmd = s.cmd := by
  unfold State.settle
  split
  · simp
  split <;> simp

theorem owe_cmd (s : State) (n : Nat) : (s.owe n).cmd = s.cmd := by
  unfold State.owe
  split
  · simp
  split <;> simp

/-- `t` has the ports and the waiting packets of `s`, and its replies on the service port, perhaps with more behind them. -/
structure Delivers (s t : State) : Prop where
  ports : t.cmd.ports = s.cmd.ports
  queue : t.cmd.queue = s.cmd.queue
  svc : s.cmd.svcReplies <+: t.cmd.svcReplies

theorem Delivers.of_cmd (h : t.cmd = s.cmd) : Delivers s t :=
  ⟨congrArg _ h, congrArg _ h, h ▸ List.prefix_rfl⟩

theorem Delivers.trans (h : Delivers s t) (k : Delivers t u) : Delivers s u :=
  ⟨k.ports.trans h.ports, k.queue.trans h.queue, h.svc.trans k.svc⟩

theorem delivers_deliver (s : State) (n : Nat) (r : Reply) : Delivers s (s.deliver n r) := by
  unfold State.deliver
  split
  · exact .of_cmd (by rw [doorbell_cmd, settle_cmd, State.setMbReplies, wr_cmd]; rfl)
  split
  · exact .of_cmd rfl
  split
  · by_cases h : s.cmd.svcReplies.length < 4 <;> constructor <;> simp [State.setCmd, h]
  · exact .of_cmd rfl

theorem countRefusal_cmd (s : State) (st : Nat) : (s.countRefusal st).cmd = s.cmd := by
  unfold State.countRefusal State.inc
  repeat' split
  all_goals simp

theorem noteLast_cmd (s : State) (n : Nat) (p : Packet) (st : Nat) : (s.noteLast n p st).cmd = s.cmd := by
  unfold State.noteLast
  split
  · rfl
  · simp

/-- The reply that an answer forms. -/
def replyOf (p : Packet) (st : Nat) (ws : List Nat) : Reply :=
  { hdr := replyHdr p.hdr st (if p.ver = 3 then replyWords p.op st ws else []).length
    words := if p.ver = 3 then replyWords p.op st ws else [] }

/-- An answer keeps its reply with the packet, if that is still the last of its port, and changes no other port. -/
theorem answer_delivers (s : State) (n : Nat) (p : Packet) (st : Nat) (ws : List Nat) :
    Delivers (s.setPort n fun q => if q.seen && q.cache == p then { q with reply := some (replyOf p st ws) } else q)
      (s.answer n p st ws) := by
  have h : Delivers (s.setPort n fun q => if q.seen && q.cache == p then { q with reply := some (replyOf p st ws) } else q)
      ((s.countRefusal st).setPort n fun q => if q.seen && q.cache == p then { q with reply := some (replyOf p st ws) } else q) := by
    refine .of_cmd ?_
    simp only [State.setPort, State.setCmd, countRefusal_cmd]
  unfold State.answer
  dsimp only
  split
  · exact (h.trans (.of_cmd (noteLast_cmd ..))).trans (delivers_deliver ..)
  · exact h.trans (.of_cmd (settle_cmd ..))

theorem port_of_ports (h : t.cmd.ports = s.cmd.ports) (m : Nat) : t.port m = s.port m :=
  congrArg (fun x : Table PortState => Table.get ({} : PortState) x m) h

theorem answer_port (s : State) (n m : Nat) (p : Packet) (st : Nat) (ws : List Nat) :
    (s.answer n p st ws).port m = if m = n ∧ (s.port n).seen = true ∧ (s.port n).cache = p then
      { s.port n with reply := some (replyOf p st ws) } else s.port m := by
  rw [port_of_ports (answer_delivers s n p st ws).ports, setPort_port]
  by_cases hm : m = n
  · simp [hm]
  · simp [hm]

theorem answer_queue (s : State) (n : Nat) (p : Packet) (st : Nat) (ws : List Nat) :
    (s.answer n p st ws).cmd.queue = s.cmd.queue :=
  (answer_delivers s n p st ws).queue

theorem answer_svc (s : State) (n : Nat) (p : Packet) (st : Nat) (ws : List Nat) :
    s.cmd.svcReplies <+: (s.answer n p st ws).cmd.svcReplies :=
  (answer_delivers s n p st ws).svc

/-- The answer to the last packet of its port stands there for a repetition. -/
theorem answer_replied {ws : List Nat} (hv : p.ver = 3) (hs : (s.port n).seen = true) (hc : (s.port n).cache = p) (st : Nat) :
    ((s.answer n p st ws).port n).reply =
      some { hdr := replyHdr p.hdr st (replyWords p.op st ws).length, words := replyWords p.op st ws } := by
  rw [answer_port, if_pos ⟨rfl, hs, hc⟩]
  simp [replyOf, hv]

/-! ### Packets of no command -/

/-- `t` is `s` after packets of undefined opcodes have been answered: what concerns other packets stands. -/
structure Undisturbed (s t : State) : Prop where
  answered : Answered s t
  port : ∀ m, opDefined (s.port m).cache.op = true → t.port m = s.port m
  queue : ∀ e ∈ s.cmd.queue, opDefined e.2.op = true → e ∈ t.cmd.queue
  svc : s.cmd.svcReplies <+: t.cmd.svcReplies

theorem Undisturbed.refl (s : State) : Undisturbed s s :=
  ⟨.refl s, fun _ _ => rfl, fun _ h _ => h, List.prefix_rfl⟩

theorem Undisturbed.trans (h : Undisturbed s t) (k : Undisturbed t u) : Undisturbed s u where
  answered := h.answered.trans k.answered
  port m hm := by rw [k.port m (by rwa [h.port m hm]), h.port m hm]
  queue e he hd := k.queue e (h.queue e he hd) hd
  svc := h.svc.trans k.svc

theorem mem_dropFirst {e f : Nat × Packet} {l : List (Nat × Packet)} (h : e ∈ l) (hne : e ≠ f) : e ∈ dropFirst f l := by
  induction l with
  | nil => exact h
  | cons x l ih =>
    unfold dropFirst
    split
    case isTrue hx => exact (List.mem_cons.1 h).resolve_left (hx ▸ hne)
    case isFalse => exact List.mem_cons.2 ((List.mem_cons.1 h).imp_right ih)

theorem popPacket_answered (s : State) (e : Nat × Packet) : Answered s (s.popPacket e) :=
  .setCmd s rfl

theorem undisturbed_pop_answer (s : State) {n : Nat} {p : Packet} (h : opDefined p.op = false) (st : Nat) :
    Undisturbed s ((s.popPacket (n, p)).answer n p st) where
  answered := (popPacket_answered s _).trans (answered_answer ..)
  port m hm := by
    have hne : ¬ (m = n ∧ ((s.popPacket (n, p)).port n).seen = true ∧ ((s.popPacket (n, p)).port n).cache = p) := by
      rintro ⟨rfl, -, hc⟩
      have hc' : (s.port m).cache = p := hc
      rw [hc', h] at hm
      exact Bool.false_ne_true hm
    rw [answer_port, if_neg hne]
    rfl
  queue e he hd := by
    rw [answer_queue]
    refine mem_dropFirst he ?_
    rintro rfl
    exact Bool.false_ne_true (h.symm.trans hd)
  svc := answer_svc (s.popPacket (n, p)) n p st []

theorem undisturbed_answerUndefined (s : State) : Undisturbed s s.answerUndefined := by
  refine upTo_keeps (Undisturbed s) (.refl s) fun _ t ht => ?_
  split
  · split
    case isTrue => exact ht
    case isFalse n p _ hd => exact ht.trans (undisturbed_pop_answer t (Bool.eq_false_iff.2 hd) _)
  · exact ht

/-! ### A packet in the handler -/

theorem replied_of_answer (hd : opDefined p.op = true) (hp : u.cmd.ports = s.cmd.ports) (st : Nat) (ws : List Nat) :
    Replied s (u.answer n p st ws).answerUndefined n p st (replyWords p.op st ws) := by
  intro hv hs hc
  have hu := port_of_ports hp n
  rw [(undisturbed_answerUndefined _).port n ?_, answer_replied hv (hu ▸ hs) (hu ▸ hc)]
  rw [answer_port]
  split
  · exact (congrArg (fun q : PortState => opDefined q.cache.op) hu).trans (hc ▸ hd)
  · exact (congrArg (fun q : PortState => opDefined q.cache.op) hu).trans (hc ▸ hd)

theorem answered_end (u : State) (n : Nat) (p : Packet) (st : Nat) (ws : List Nat) :
    Answered u (u.answer n p st ws).answerUndefined :=
  (answered_answer u n p st ws).trans (undisturbed_answerUndefined _).answered

theorem precheck_taking (s : State) (n : Nat) (p : Packet) : (s.quiet.popPacket (n, p)).precheck n p = s.precheck n p := rfl

/-- A packet that a check refuses is only answered. -/
theorem runOp_refused {op st : Nat} {act : Act} (hn : s.nextPacket = some (n, p)) (ho : p.op = op)
    (hc : s.precheck n p = some st) :
    s.quiet.runOp op act = (((Sys2Proof.taking s n p).hintRefused op st).answer n p st).answerUndefined := by
  unfold State.runOp
  simp only [nextPacket_quiet, hn]
  rw [if_neg (by simp [ho])]
  simp only [precheck_taking, hc]
  rfl

theorem runOp_other {op : Nat} {act : Act} (hn : s.nextPacket = some (n, p)) (ho : p.op ≠ op) :
    s.quiet.runOp op act = s.quiet := by
  unfold State.runOp
  simp only [nextPacket_quiet, hn]
  rw [if_pos (by simp [ho])]

theorem runOp_taken {op : Nat} {act : Act} (h : Taken s n p op) :
    s.quiet.runOp op act =
      (match (act (Sys2Proof.taking s n p) n p).1 with
        | some (st, ws) => ((if executed (act (Sys2Proof.taking s n p) n p).1 then (act (Sys2Proof.taking s n p) n p).2.inc CMD_CNT.EXEC
            else (act (Sys2Proof.taking s n p) n p).2).answer n p st ws).answerUndefined
        | none => (if executed (act (Sys2Proof.taking s n p) n p).1 then (act (Sys2Proof.taking s n p) n p).2.inc CMD_CNT.EXEC
            else (act (Sys2Proof.taking s n p) n p).2).answerUndefined) := by
  obtain ⟨hn, ho, hc⟩ := h
  unfold State.runOp
  simp only [nextPacket_quiet, hn]
  rw [if_neg (by simp [ho])]
  simp only [precheck_taking, hc]
  rfl

/-- A command that is executed and replies. -/
theorem answers_executed {c : Instr} {op st : Nat} {ws : List Nat} {act : Act} {P : State → Prop}
    (hx : exec c s = .next (s.quiet.runOp op act)) (h : Taken s n p op) (ha : act (Sys2Proof.taking s n p) n p = (some (st, ws), u))
    (he : executed (some (st, ws)) = true) (hd : opDefined op = true)
    (hp : u.cmd.ports = (Sys2Proof.taking s n p).cmd.ports) (hr : u.rd CMD_CNT.EXEC = (Sys2Proof.taking s n p).rd CMD_CNT.EXEC)
    (hP : ∀ t, Answered (u.inc CMD_CNT.EXEC) t → Executed s t → Replied s t n p st (replyWords op st ws) → P t) :
    Answers c s P := by
  refine ⟨_, hx, ?_⟩
  rw [runOp_taken h, ha]
  dsimp only
  rw [if_pos he]
  have hk := answered_end (u.inc CMD_CNT.EXEC) n p st ws
  refine hP _ hk ?_ ?_
  · rw [Executed, hk.rd CMD_CNT.EXEC 0 (Fld.unanswered_all (by decide) 0), rd_inc_same, hr]
    rfl
  · have ho := h.2.1
    subst ho
    exact replied_of_answer hd ((congrArg Cmd.ports (wr_cmd ..)).trans hp) st ws

/-- A command that is refused by its own checks. -/
theorem answers_refused {c : Instr} {op st : Nat} {ws : List Nat} {act : Act} {P : State → Prop}
    (hx : exec c s = .next (s.quiet.runOp op act)) (h : Taken s n p op) (ha : act (Sys2Proof.taking s n p) n p = (some (st, ws), u))
    (he : executed (some (st, ws)) = false) (hd : opDefined op = true) (hp : u.cmd.ports = (Sys2Proof.taking s n p).cmd.ports)
    (hP : ∀ t, Answered u t → Replied s t n p st (replyWords op st ws) → P t) : Answers c s P := by
  refine ⟨_, hx, ?_⟩
  rw [runOp_taken h, ha]
  dsimp only
  rw [if_neg (by simp [he])]
  refine hP _ (answered_end u n p st ws) ?_
  have ho := h.2.1
  subst ho
  exact replied_of_answer hd hp st ws

/-- A command that is executed and does not reply, or not yet. -/
theorem answers_begun {c : Instr} {op : Nat} {act : Act} {P : State → Prop}
    (hx : exec c s = .next (s.quiet.runOp op act)) (h : Taken s n p op) (ha : act (Sys2Proof.taking s n p) n p = (none, u))
    (hP : ∀ t, Answered (u.inc CMD_CNT.EXEC) t → P t) : Answers c s P := by
  refine ⟨_, hx, ?_⟩
  rw [runOp_taken h, ha]
  exact hP _ (undisturbed_answerUndefined (u.inc CMD_CNT.EXEC)).answered

/-- A command that stays outstanding. -/
theorem answers_outstanding {c : Instr} {op : Nat} {act : Act} {P : State → Prop}
    (hx : exec c s = .next (s.quiet.runOp op act)) (h : Taken s n p op) (ha : act (Sys2Proof.taking s n p) n p = (none, u))
    (hr : u.rd CMD_CNT.EXEC = (Sys2Proof.taking s n p).rd CMD_CNT.EXEC)
    (hP : ∀ t, Answered (u.inc CMD_CNT.EXEC) t → Executed s t → P t) :
    Answers c s P := by
  refine answers_begun hx h ha fun t hk => hP t hk ?_
  rw [Executed, hk.rd CMD_CNT.EXEC 0 (Fld.unanswered_all (by decide) 0), rd_inc_same, hr]
  rfl

/-! ### The commands of Table 13.5 -/

theorem opcodeOf_defined {c : Instr} {op : Nat} (h : opcodeOf c = some op) : opDefined op = true := by
  unfold opcodeOf at h
  split at h
  case h_55 => cases h
  all_goals
    cases h
    decide

/-- A command of Table 13.5 is the handler's work on a packet of its opcode. -/
theorem exec_opcode {c : Instr} {op : Nat} (h : opcodeOf c = some op) :
    ∃ act : Act, ∀ s, exec c s = .next (s.quiet.runOp op act) := by
  unfold opcodeOf at h
  split at h
  case h_55 => cases h
  case h_44 =>
    cases h
    exact ⟨actMirrorIdent, fun _ => rfl⟩
  case h_45 =>
    cases h
    exact ⟨actMirrorRead, fun _ => rfl⟩
  case h_46 | h_47 | h_48 | h_49 | h_50 | h_51 =>
    cases h
    exact ⟨actMeterOnly, fun _ => rfl⟩
  all_goals
    cases h
    exact ⟨_, fun _ => rfl⟩

theorem hintRefused_cmd (s : State) (op st : Nat) : (s.hintRefused op st).cmd = s.cmd := by
  unfold State.hintRefused
  split
  · exact wr_cmd ..
  · rfl

/-- `t` with the registers, the commands and the buses of `s`. -/
def bare (s t : State) : State :=
  { t with fields := s.fields, rwl := s.rwl, bus := s.bus, cmd := s.cmd, emit := s.emit }

theorem hintRefused_bare (s u : State) (op st : Nat) : bare s (u.hintRefused op st) = bare s u := by
  unfold State.hintRefused State.inc State.wr
  repeat' split
  all_goals rfl

theorem hintRefused_rd {F : Fld} (h : F.off BG_HINT_CNT.REJECTED = true) (i : Nat) (s : State) (op st : Nat) :
    (s.hintRefused op st).rd F i = s.rd F i := by
  unfold State.hintRefused
  split
  · exact rd_inc_off h
  · rfl

end Sys2Proof.Machine

namespace Sys2Proof
open Sys2Proof.Machine

/-- Settles O56: a refused packet is only answered (`Answered`), and its reply stays with its port. -/
theorem checksRefuse : Obligations.ChecksRefuse := by
  unfold Obligations.ChecksRefuse
  constructor
  · intro c op n st p s hc hn ho hp
    obtain ⟨act, hx⟩ := exec_opcode hc
    refine ⟨_, hx s, ?_⟩
    rw [runOp_refused hn ho hp]
    have hk := answered_end ((taking s n p).hintRefused op st) n p st []
    have hw : replyWords p.op st [] = if op = 0x20 ∨ op = 0x21 then [0xFF] else [] := by
      rw [ho]
      simp [replyWords]
    have hr := (congrArg (bare s) hk.rest).trans (hintRefused_bare s (taking s n p) op st)
    refine ⟨?_, (congrArg State.eng hr :), (congrArg State.rim hr :), (congrArg State.bg hr :), (congrArg State.car hr :),
      (congrArg State.pel hr :), (congrArg State.mg hr :), (congrArg State.rc hr :), (congrArg State.fw hr :),
      (congrArg State.em hr :), (congrArg State.locks hr :), hk.out.trans (congrArg Cmd.out (hintRefused_cmd (taking s n p) op st) :), ?_⟩
    · exact (hk.rd CMD_CNT.EXEC 0 (Fld.unanswered_all (by decide) 0)).trans (hintRefused_rd (by decide) 0 _ op st)
    · have hu : ((taking s n p).hintRefused op st).cmd.ports = s.cmd.ports :=
        (congrArg Cmd.ports (hintRefused_cmd (taking s n p) op st) :)
      have h := replied_of_answer (n := n) (p := p) (ho ▸ opcodeOf_defined hc) hu st []
      rwa [hw] at h
  · intro c op n p s hc hn ho
    obtain ⟨act, hx⟩ := exec_opcode hc
    exact ⟨_, hx s, runOp_other hn ho⟩

end Sys2Proof
end

section
/-! PROOF. The commands of identification, power and energy (O57). -/

namespace Sys2Proof.Machine

variable {s t u : State} {n e i N : Nat} {p : Packet} {F : Fld}

/-! ### What the end of a packet leaves alone -/

/-- Neither an answer nor the count of an execution writes any of the first `N` instances of `F`. -/
def Fld.offCommands (F : Fld) (N : Nat) : Bool :=
  F.offAnswers N && F.apart CMD_CNT.EXEC N 1

/-- Neither an answer nor the count of an execution writes any instance of `F`. -/
def Fld.clearOfCommands (F : Fld) : Bool :=
  F.clearOfAnswers && F.off CMD_CNT.EXEC

theorem Answered.rd_below (h : Answered (u.inc CMD_CNT.EXEC) t) (hF : F.offCommands N = true) (hi : i < N) :
    t.rd F i = u.rd F i := by
  obtain ⟨h1, h2⟩ := Bool.and_eq_true_iff.1 hF
  exact (h.rd F i (Fld.unanswered_below h1 hi)).trans (rd_wr_apart N 1 h2 hi Nat.one_pos _)

theorem Answered.rd_all (h : Answered (u.inc CMD_CNT.EXEC) t) (hF : F.clearOfCommands = true) (i : Nat) : t.rd F i = u.rd F i := by
  obtain ⟨h1, h2⟩ := Bool.and_eq_true_iff.1 hF
  exact (h.rd F i (Fld.unanswered_all h1 i)).trans (rd_inc_off h2)

theorem Answered.bare_same (h : Answered u t) : bare u t = u :=
  (congrArg (bare u) h.rest :)

theorem Answered.bare_inc (h : Answered (u.inc CMD_CNT.EXEC) t) : bare u t = u := by
  refine (congrArg (bare u) h.rest).trans ?_
  unfold State.inc State.wr
  split <;> rfl

theorem Answered.bg_inc (h : Answered (u.inc CMD_CNT.EXEC) t) : t.bg = u.bg :=
  (congrArg State.bg h.bare_inc :)

theorem replyWords_nil {op st : Nat} (h : op ≠ 0x20) (h' : op ≠ 0x21) : replyWords op st [] = [] := by
  unfold replyWords
  rw [if_neg (by simp [h, h'])]
  split <;> rfl

theorem Answered.outstands (h : Answered (u.inc CMD_CNT.EXEC) t) {o : Outstanding} (ho : o ∈ u.cmd.out) (hi : o.inst = n)
    (hp : o.pkt = p) : Outstands t n p := by
  refine ⟨o, ?_, hi, hp⟩
  rw [h.out, State.inc, wr_cmd]
  exact ho

/-- A command put in the list of those outstanding stands there. -/
theorem Answered.putOut {s : State} {w : Waiting} {r : List Nat} (h : Answered ((s.putOut n p w r).inc CMD_CNT.EXEC) t) :
    Outstands t n p :=
  h.outstands (List.mem_append_right _ (List.mem_singleton_self _)) rfl rfl

/-! ### Budget -/

theorem giveTarget_cmd (s : State) (k v : Nat) : (s.giveTarget k v).cmd = s.cmd := by
  unfold State.giveTarget
  extract_lets a
  split
  · exact wr_cmd ..
  · exact (wr_cmd ..).trans (wr_cmd ..)

/-- One cluster of an ASSIGN. -/
def State.assign1 (v q : Nat) (s : State) (c : Nat) : State :=
  (s.wr BG_CLPART.VALID c v).wr BG_CLPART.PART c q

theorem assign1_shows (v q : Nat) (s : State) (c d : Nat) :
    (State.assign1 v q s c).rd BG_CLPART.VALID d = (if d = c then v % 2 else s.rd BG_CLPART.VALID d) ∧
      (State.assign1 v q s c).rd BG_CLPART.PART d = if d = c then q % 32 else s.rd BG_CLPART.PART d := by
  unfold State.assign1
  rw [rd_wr_off (by decide)]
  by_cases h : d = c
  · subst h
    rw [if_pos rfl, if_pos rfl, rd_wr_same, rd_wr_same]
    exact ⟨rfl, rfl⟩
  · rw [if_neg h, if_neg h, rd_wr_other (by decide) h, rd_wr_other (by decide) h, rd_wr_off (by decide)]
    exact ⟨rfl, rfl⟩

/-- The clusters of an ASSIGN hold its partition; the others keep theirs. -/
theorem assign_shows (v q : Nat) {l : List Nat} {c : Nat} (hc : c ∈ l) :
    (l.foldl (State.assign1 v q) s).rd BG_CLPART.VALID c = v % 2 ∧
      (l.foldl (State.assign1 v q) s).rd BG_CLPART.PART c = q % 32 := by
  refine foldl_meets (I := fun _ => True) (P := fun t : State => t.rd BG_CLPART.VALID c = v % 2 ∧ t.rd BG_CLPART.PART c = q % 32)
    (fun _ _ _ => trivial) (fun t _ => ?_) (fun t d ht => ?_) hc trivial
  · simpa using assign1_shows v q t c c
  · obtain ⟨h1, h2⟩ := assign1_shows v q t d c
    rw [h1, h2]
    split
    · exact ⟨rfl, rfl⟩
    · exact ht

theorem assign_keeps (v q : Nat) (s : State) {l : List Nat} (hl : ∀ c ∈ l, c < 192) :
    (l.foldl (State.assign1 v q) s).cmd = s.cmd ∧
      (l.foldl (State.assign1 v q) s).rd CMD_CNT.EXEC = s.rd CMD_CNT.EXEC := by
  refine List.foldlRecOn l (State.assign1 v q) (motive := fun t : State => t.cmd = s.cmd ∧ t.rd CMD_CNT.EXEC = s.rd CMD_CNT.EXEC)
    ⟨rfl, rfl⟩ fun t ⟨h1, h2⟩ c hc => ⟨?_, ?_⟩
  · exact (wr_cmd ..).trans ((wr_cmd ..).trans h1)
  · exact (rd_wr_apart 1 192 (by decide) Nat.one_pos (hl c hc) _).trans
      ((rd_wr_apart 1 192 (by decide) Nat.one_pos (hl c hc) _).trans h2)

theorem isCluster_lt {c : Nat} (h : isCluster c = true) : c < 192 := by
  simpa [isCluster] using h

theorem mem_span {c a k : Nat} : c ∈ span a k ↔ a ≤ c ∧ c < a + k := by
  simp only [span, List.mem_map, List.mem_range]
  constructor
  · rintro ⟨x, hx, rfl⟩
    omega
  · rintro ⟨h1, h2⟩
    exact ⟨c - a, by omega, by omega⟩

/-- The registers of partition `q` as a SET_PART leaves them. -/
def State.setPart (s : State) (q w : Nat) : State :=
  ((s.wr BG_PART.CLASS q (bits 31 30 w)).wr BG_PART.IDLE_GATE q (bits 29 29 w)).wr BG_PART.FLOOR q (bits 7 0 w)

theorem setPart_cmd (s : State) (q w : Nat) : (s.setPart q w).cmd = s.cmd :=
  (wr_cmd ..).trans ((wr_cmd ..).trans (wr_cmd ..))

theorem setPart_EXEC (s : State) (q w : Nat) : (s.setPart q w).rd CMD_CNT.EXEC = s.rd CMD_CNT.EXEC :=
  (rd_wr_off (by decide) _).trans ((rd_wr_off (by decide) _).trans (rd_wr_off (by decide) _))

theorem setPart_shows (s : State) (q w : Nat) :
    (s.setPart q w).rd BG_PART.CLASS q = bits 31 30 w ∧ (s.setPart q w).rd BG_PART.IDLE_GATE q = bits 29 29 w ∧
      (s.setPart q w).rd BG_PART.FLOOR q = bits 7 0 w := by
  have h : ∀ a b v k : Nat, a + 1 - b = k → bits a b v % 2 ^ k = bits a b v := fun a b v k e =>
    Nat.mod_eq_of_lt (e ▸ Nat.mod_lt _ (Nat.two_pow_pos _))
  refine ⟨?_, ?_, ?_⟩
  · exact (rd_wr_off (by decide) _).trans ((rd_wr_off (by decide) _).trans ((rd_wr_same ..).trans (h 31 30 w 2 rfl)))
  · exact (rd_wr_off (by decide) _).trans ((rd_wr_same ..).trans (h 29 29 w 1 rfl))
  · exact (rd_wr_same ..).trans (h 7 0 w 8 rfl)

/-! ### Domains and Rest -/

theorem requestOn_ports (s : State) (d : Nat) : (s.requestOn d).cmd.ports = s.cmd.ports := by
  unfold State.requestOn
  repeat' split
  all_goals simp [State.setDom, State.failRequest]

theorem requestOff_ports (s : State) (d : Nat) : (s.requestOff d).cmd.ports = s.cmd.ports := by
  unfold State.requestOff
  repeat' split
  all_goals simp [State.setDom, State.failRequest, State.endRequest]

/-- The request of a domain command. -/
def State.request (on : Bool) (s : State) (d : Nat) : State :=
  if on then s.requestOn d else s.requestOff d

theorem request_ports (on : Bool) (s : State) (l : List Nat) : (l.foldl (State.request on) s).cmd.ports = s.cmd.ports := by
  refine foldl_keeps (fun t : State => t.cmd.ports = s.cmd.ports) rfl fun t d ht => ?_
  cases on
  · exact (requestOff_ports t d).trans ht
  · exact (requestOn_ports t d).trans ht

theorem request_EXEC (on : Bool) (s : State) (l : List Nat) :
    (l.foldl (State.request on) s).rd CMD_CNT.EXEC = s.rd CMD_CNT.EXEC := by
  have h : Kept (.guard s [] [CMD_CNT.EXEC]) (l.foldl (State.request on) s) :=
    kept_foldl (kept_guard s _ _) fun t d ht => kept_ite (kept_requestOn ht rfl rfl rfl) (kept_requestOff ht rfl rfl rfl rfl)
  exact h.guarded (by simp) 0

/-- No domain of the range is refused. -/
def State.requestable (s : State) (on : Bool) (l : List Nat) : Prop :=
  ∀ d ∈ l, s.present d = true ∧ (if on then s.onRefusal d else s.offRefusal d) = none

/-- The domains of the range that stand in the requested state. -/
def State.met (s : State) (on : Bool) (l : List Nat) : List Nat :=
  l.filter (fun d => s.dstate d == if on then dON else dOFF)

theorem met_length {on : Bool} {l : List Nat} :
    (s.met on l).length = l.length ↔ ∀ d ∈ l, s.dstate d = if on then dON else dOFF := by
  simp [State.met, List.length_filter_eq_length_iff]

theorem actDomains_requests {on : Bool} (hp : p.pcnt = 1) (hc : bits 15 8 (p.par 0) ≠ 0)
    (h : s.requestable on (span (bits 7 0 (p.par 0)) (bits 15 8 (p.par 0)))) :
    actDomains on s n p =
      if (s.met on (span (bits 7 0 (p.par 0)) (bits 15 8 (p.par 0)))).length = bits 15 8 (p.par 0) then
        replied stOK ((span (bits 7 0 (p.par 0)) (bits 15 8 (p.par 0))).foldl (State.request on) s)
          [domainWord (bits 15 8 (p.par 0)) 0xFF]
      else (none, ((span (bits 7 0 (p.par 0)) (bits 15 8 (p.par 0))).foldl (State.request on) s).putOut n p
        (.domains (bits 7 0 (p.par 0)) (bits 15 8 (p.par 0)) on false)
        (s.met on (span (bits 7 0 (p.par 0)) (bits 15 8 (p.par 0))))) := by
  have hall : (span (bits 7 0 (p.par 0)) (bits 15 8 (p.par 0))).all s.present = true := List.all_eq_true.2 fun d hd => (h d hd).1
  have hnone : (span (bits 7 0 (p.par 0)) (bits 15 8 (p.par 0))).find?
      (fun d => (if on then s.onRefusal d else s.offRefusal d).isSome) = none :=
    List.find?_eq_none.2 fun d hd => by rw [(h d hd).2]; decide
  unfold actDomains
  dsimp only
  rw [hall, if_neg (by simp [hc]), if_neg (by omega), hnone]
  rfl

theorem answers_domains {on : Bool} {c : Instr} {op : Nat} (hx : ∀ s, exec c s = .next (s.quiet.runOp op (actDomains on)))
    (ho : op = 0x20 ∨ op = 0x21) (ht : Taken s n p op) (hp : p.pcnt = 1) (hc : bits 15 8 (p.par 0) ≠ 0)
    (h : s.requestable on (span (bits 7 0 (p.par 0)) (bits 15 8 (p.par 0)))) :
    Answers c s (fun t => Executed s t ∧
      ((∀ d ∈ span (bits 7 0 (p.par 0)) (bits 15 8 (p.par 0)), s.dstate d = if on then dON else dOFF) →
        Replied s t n p stOK [bits 15 8 (p.par 0) * 256 + 0xFF]) ∧
      ((∃ d ∈ span (bits 7 0 (p.par 0)) (bits 15 8 (p.par 0)), s.dstate d ≠ if on then dON else dOFF) → Outstands t n p)) := by
  have ha : actDomains on (Sys2Proof.taking s n p) n p = _ := actDomains_requests hp hc h
  have hm' : ((Sys2Proof.taking s n p).met on (span (bits 7 0 (p.par 0)) (bits 15 8 (p.par 0)))).length =
      (span (bits 7 0 (p.par 0)) (bits 15 8 (p.par 0))).length ↔ _ := met_length (s := s)
  have hl : (span (bits 7 0 (p.par 0)) (bits 15 8 (p.par 0))).length = bits 15 8 (p.par 0) := by simp [span]
  have hw : domainWord (bits 15 8 (p.par 0)) 0xFF = bits 15 8 (p.par 0) * 256 + 0xFF := by
    have : bits 15 8 (p.par 0) < 256 := Nat.mod_lt _ (by decide)
    unfold domainWord
    omega
  rw [hl] at hm'
  by_cases hm : ∀ d ∈ span (bits 7 0 (p.par 0)) (bits 15 8 (p.par 0)), s.dstate d = if on then dON else dOFF
  · rw [if_pos (hm'.2 hm)] at ha
    refine answers_executed (hx s) ht ha rfl ?_ (request_ports ..) (request_EXEC ..) fun t _ hx hr =>
      ⟨hx, fun _ => ?_, fun ⟨d, hd, hne⟩ => absurd (hm d hd) hne⟩
    · obtain rfl | rfl := ho <;> decide
    · rw [← hw]
      obtain rfl | rfl := ho <;> exact hr
  · rw [if_neg (mt hm'.1 hm)] at ha
    exact answers_outstanding (hx s) ht ha (request_EXEC ..) fun t he hx => ⟨hx, fun h => absurd h hm, fun _ => he.putOut⟩

/-! ### Rest -/

theorem actRestEnter_run (h : s.rd RIM_STAT.REST_STATE = 0) :
    actRestEnter s n p = (none, (s.holdRest (some true)).putOut n p .restEnter) := by
  simp only [actRestEnter, h]

theorem actRestEnter_rest (h : s.rd RIM_STAT.REST_STATE = 2) : actRestEnter s n p = replied stOK s := by
  simp only [actRestEnter, h]

theorem actRestEnter_moving (h0 : s.rd RIM_STAT.REST_STATE ≠ 0) (h2 : s.rd RIM_STAT.REST_STATE ≠ 2) :
    ∃ u : State, actRestEnter s n p = (none, u) ∧ u.rd CMD_CNT.EXEC = s.rd CMD_CNT.EXEC := by
  unfold actRestEnter
  split
  case h_1 h => exact absurd h h0
  case h_2 => exact ⟨_, rfl, rfl⟩
  case h_3 h => exact absurd h h2
  case h_4 => exact ⟨_, rfl, rfl⟩

theorem actRestExit_stopped (h : s.rd RIM_STAT.COOL_STOP = 1) : actRestExit s n p = replied stCONFLICT s := by
  rw [actRestExit, if_pos (on_iff.2 h)]

theorem actRestExit_run (hc : s.rd RIM_STAT.COOL_STOP ≠ 1) (h : s.rd RIM_STAT.REST_STATE = 0) :
    actRestExit s n p = replied stOK s := by
  simp only [actRestExit, if_neg (mt on_iff.1 hc), h]

theorem actRestExit_rest (hc : s.rd RIM_STAT.COOL_STOP ≠ 1) (h : s.rd RIM_STAT.REST_STATE = 2) :
    actRestExit s n p = (none, (s.holdRest (some false)).putOut n p .restExit) := by
  simp only [actRestExit, if_neg (mt on_iff.1 hc), h]

theorem actRestExit_moving (hc : s.rd RIM_STAT.COOL_STOP ≠ 1) (h0 : s.rd RIM_STAT.REST_STATE ≠ 0)
    (h2 : s.rd RIM_STAT.REST_STATE ≠ 2) :
    ∃ u : State, actRestExit s n p = (none, u) ∧ u.rd CMD_CNT.EXEC = s.rd CMD_CNT.EXEC := by
  unfold actRestExit
  rw [if_neg (mt on_iff.1 hc)]
  split
  case h_1 h => exact absurd h h0
  case h_2 => exact ⟨_, rfl, rfl⟩
  case h_3 h => exact absurd h h2
  case h_4 => exact ⟨_, rfl, rfl⟩

/-! ### Hints -/

/-- Hint `h` in entry `e`, shown and counted as accepted, its event queued for `g`. -/
def State.acceptHint (s : State) (e g : Nat) (h : Hint) : State :=
  (((s.enqueueEvent g (.prestage e)).setHint e (some h)).showHints).inc BG_HINT_CNT.ACCEPTED

theorem showHints_cmd (s : State) : s.showHints.cmd = s.cmd := by
  have h : Kept (.guard s [.cmd] []) s.showHints := kept_showHints (kept_guard s _ _) rfl rfl rfl
  exact h.spared .cmd rfl

theorem showHints_rd (h : F.apart BG_HINT_STAT.HELD 1 1 = true) (h' : F.apart BG_HINT_STAT.ACTIVE 1 1 = true)
    (hk : F.apart BG_SECT.HINT 1 6 = true) (s : State) : s.showHints.rd F = s.rd F := by
  unfold State.showHints
  extract_lets hs bitsOf a
  have ha : a.rd F = s.rd F := (rd_wr_apart 1 1 h' Nat.one_pos Nat.one_pos _).trans (rd_wr_apart 1 1 h Nat.one_pos Nat.one_pos _)
  exact upTo_keeps_below (fun t : State => t.rd F = s.rd F) ha fun k hl t ht => (rd_wr_apart 1 6 hk Nat.one_pos hl _).trans ht

theorem askVoltage_cmd (s : State) (g c sl p : Nat) :
    (s.askVoltage g c sl p).cmd = s.cmd ∧ (s.askVoltage g c sl p).rd CMD_CNT.EXEC = s.rd CMD_CNT.EXEC := by
  have h : Kept (.guard s [.cmd] [CMD_CNT.EXEC]) (s.askVoltage g c sl p) := kept_askVoltage (kept_guard s _ _) rfl rfl rfl rfl rfl
  exact ⟨h.spared .cmd rfl, h.guarded (by simp) 0⟩

theorem restageHints_cmd (s : State) : s.restageHints.cmd = s.cmd := rfl

theorem restageHints_EXEC (s : State) : s.restageHints.rd CMD_CNT.EXEC = s.rd CMD_CNT.EXEC := rfl

/-- Withdrawing a hint touches no port and counts no command. -/
theorem withdraw_cmd (s : State) (e : Nat) :
    (s.withdraw e).cmd = s.cmd ∧ (s.withdraw e).rd CMD_CNT.EXEC = s.rd CMD_CNT.EXEC := by
  unfold State.withdraw
  split
  · exact ⟨rfl, rfl⟩
  · extract_lets q a
    refine upTo_keeps (fun t : State => t.cmd = s.cmd ∧ t.rd CMD_CNT.EXEC = s.rd CMD_CNT.EXEC) ⟨?_, ?_⟩ fun k t ht => ?_
    · exact (restageHints_cmd _).trans (showHints_cmd _)
    · exact (restageHints_EXEC _).trans (showHints_rd (by decide) (by decide) (by decide) _)
    · split
      · exact ht
      · split
        · exact ⟨(askVoltage_cmd ..).1.trans ht.1, (askVoltage_cmd ..).2.trans ht.2⟩
        · exact ht

theorem acceptHint_ports (s : State) (e g : Nat) (h : Hint) : (s.acceptHint e g h).cmd.ports = s.cmd.ports :=
  congrArg Cmd.ports ((wr_cmd ..).trans (showHints_cmd _))

theorem acceptHint_EXEC (s : State) (e g : Nat) (h : Hint) : (s.acceptHint e g h).rd CMD_CNT.EXEC = s.rd CMD_CNT.EXEC :=
  (rd_inc_off (by decide)).trans (showHints_rd (by decide) (by decide) (by decide) _)

theorem acceptHint_hint (s : State) (e g : Nat) (h : Hint) : (s.acceptHint e g h).hint e = some h :=
  (hint_congr ((wr_bg ..).trans (showHints_bg _)) e).trans (hint_setHint _ e _)

theorem acceptHint_ACCEPTED (s : State) (e g : Nat) (h : Hint) :
    (s.acceptHint e g h).rd BG_HINT_CNT.ACCEPTED = (s.rd BG_HINT_CNT.ACCEPTED + 1) % 2 ^ BG_HINT_CNT.ACCEPTED.width := by
  rw [State.acceptHint, rd_inc_same, showHints_rd (by decide) (by decide) (by decide)]
  rfl

theorem actHintPhase_refuses (h : s.hintOk p (s.hintOf p) = false) :
    actHintPhase s n p = replied stBADPARAM (s.inc BG_HINT_CNT.REJECTED) := by
  simp only [actHintPhase, h]
  rfl

theorem actHintPhase_accepts (h : s.hintOk p (s.hintOf p) = true) (hn : s.hintEntry (s.hintOf p).id = none)
    (hf : (List.range 8).find? (fun e => (s.hint e).isNone) = some e)
    (hs : s.scheduleStatus ((s.hintOf p).start - s.inf BG_HINT_CFG.LEAD) = stOK) :
    actHintPhase s n p =
      replied stOK (s.acceptHint e ((s.hintOf p).start - s.inf BG_HINT_CFG.LEAD) (s.hintOf p)) [e] := by
  simp only [actHintPhase, h, hn, hf, State.schedule, hs]
  rfl

theorem hintEntry_hint {i : Nat} (h : s.hintEntry i = some e) : ∃ x, s.hint e = some x := by
  have hi := List.find?_some h
  split at hi
  · exact ⟨_, ‹_›⟩
  · cases hi

/-- What a HINT_CANCEL does. -/
def actHintCancel : Act := fun s _ p =>
  match s.hintEntry (p.par 0) with
  | some e => replied stOK (s.withdraw e)
  | none => replied stBADPARAM s

theorem execHintCancel_act (s : State) : exec .hintCancel s = .next (s.quiet.runOp 0x31 actHintCancel) := rfl

end Sys2Proof.Machine

namespace Sys2Proof
open Sys2Proof.Machine

/-- Settles O57: each command by what its act leaves (`answers_executed`, `answers_outstanding`, `answers_refused`). -/
theorem powerCommands : Obligations.PowerCommands := by
  unfold Obligations.PowerCommands
  refine ⟨?_, ?_, ?_, ?_, ?_, ?_, ?_, ?_, ?_, ?_, ?_, ?_, ?_, ?_, ?_, ?_, ?_, ?_, ?_, ?_, ?_, ?_, ?_, ?_, ?_⟩
  · intro n p s h
    exact answers_executed rfl h rfl rfl rfl rfl rfl fun _ _ hx hr => ⟨hx, hr⟩
  · intro n p s h
    exact answers_executed rfl h rfl rfl rfl rfl rfl fun _ _ hx hr => ⟨hx, hr⟩
  · intro n p s h
    exact answers_executed rfl h rfl rfl rfl rfl rfl fun _ _ hx hr => ⟨hx, hr⟩
  · intro n p s h
    exact answers_executed rfl h rfl rfl rfl rfl rfl fun _ _ hx hr => ⟨hx, hr⟩
  · intro n p s h
    refine answers_executed (u := (taking s n p).giveTarget 1 (p.par 0)) rfl h rfl rfl rfl ?_ ?_ fun t he hx hr => ⟨hx, hr, ?_⟩
    · exact congrArg Cmd.ports (giveTarget_cmd ..)
    · exact giveTarget_rd _ _ (by decide) (by decide)
    · exact (he.rd_below (N := 2) (by decide) (by decide)).trans (giveTarget_TARGET ..)
  · intro n p s h
    have hq : bits 28 24 (p.par 0) < 32 := Nat.mod_lt _ (by decide)
    obtain ⟨h1, h2, h3⟩ := setPart_shows (taking s n p) (bits 28 24 (p.par 0)) (p.par 0)
    have ha : actSetPart (taking s n p) n p = (some (if s.breaching (bits 28 24 (p.par 0)) then stFLOOR else stOK, []),
      (taking s n p).setPart (bits 28 24 (p.par 0)) (p.par 0)) := rfl
    refine answers_executed rfl h ha ?_ rfl (congrArg Cmd.ports (setPart_cmd ..)) (setPart_EXEC ..) fun t he hx hr =>
      ⟨hx, ?_, (he.rd_all (by decide) _).trans h1, (he.rd_all (by decide) _).trans h2,
        (he.rd_below (N := 32) (by decide) hq).trans h3⟩
    · split <;> rfl
    · rwa [replyWords_nil (by decide) (by decide)] at hr
  · intro n p s h hr
    have hlt : ∀ c ∈ span (bits 7 0 (p.par 0)) (bits 23 16 (p.par 0)), c < 192 := fun c hc =>
      isCluster_lt (Bool.and_eq_true_iff.1 (List.all_eq_true.1 (Bool.and_eq_true_iff.1 hr).2 c hc)).1
    obtain ⟨hcmd, hex⟩ := assign_keeps (bits 31 31 (p.par 0)) (bits 28 24 (p.par 0)) (taking s n p) hlt
    have ha : actAssign (taking s n p) n p = (some (stOK, []), (span (bits 7 0 (p.par 0)) (bits 23 16 (p.par 0))).foldl
        (State.assign1 (bits 31 31 (p.par 0)) (bits 28 24 (p.par 0))) (taking s n p)) :=
      if_neg (by rw [show (taking s n p).clusterRange _ _ = true from hr]; decide)
    refine answers_executed rfl h ha rfl rfl (congrArg Cmd.ports hcmd) hex fun t he hx hr => ⟨hx, hr, fun c h1 h2 => ?_⟩
    have hc := mem_span.2 ⟨h1, h2⟩
    obtain ⟨hv, hq⟩ := assign_shows (s := taking s n p) (bits 31 31 (p.par 0)) (bits 28 24 (p.par 0)) hc
    have hlt := hlt c hc
    refine ⟨((he.rd_below (N := 192) (by decide) hlt).trans hv).trans (Nat.mod_eq_of_lt (Nat.mod_lt _ (by decide))),
      ((he.rd_below (N := 192) (by decide) hlt).trans hq).trans (Nat.mod_eq_of_lt (Nat.mod_lt _ (by decide)))⟩
  · intro n p s h hr
    have hr' : (taking s n p).clusterRange (bits 7 0 (p.par 0)) (bits 23 16 (p.par 0)) = false := hr
    refine answers_refused rfl h (if_pos (by simp [hr'])) rfl rfl rfl fun t he hr => ⟨hr, fun c hc => ?_⟩
    exact he.rd _ _ (Fld.unanswered_below (N := 192) (by decide) hc)
  · intro n p s h
    exact answers_executed rfl h rfl rfl rfl rfl rfl fun _ _ hx hr => ⟨hx, hr⟩
  · intro n p s h
    have e1 : 0x4200 + 16 * p.par 0 + 4 = 0x4204 + 16 * p.par 0 := by omega
    have e2 : 0x4200 + 16 * p.par 0 + 8 = 0x4208 + 16 * p.par 0 := by omega
    refine answers_executed rfl h rfl rfl rfl rfl rfl fun t _ hx hr => ⟨hx, ?_⟩
    rwa [e1, e2] at hr
  · exact fun n p s h hp hc hr => answers_domains (on := true) (fun _ => rfl) (.inl rfl) h hp hc hr
  · exact fun n p s h hp hc hr => answers_domains (on := false) (fun _ => rfl) (.inr rfl) h hp hc hr
  · intro n p s h
    by_cases h0 : s.rd RIM_STAT.REST_STATE = 0
    · refine answers_outstanding rfl h (actRestEnter_run h0) rfl fun t he hx =>
        ⟨hx, fun _ => ⟨(congrArg (fun x => x.rim.restHeld) he.bare_inc :), he.putOut⟩, fun h2 => ?_⟩
      exact absurd (h0.symm.trans h2) (by decide)
    by_cases h2 : s.rd RIM_STAT.REST_STATE = 2
    · exact answers_executed rfl h (actRestEnter_rest h2) rfl rfl rfl rfl fun t he hx hr => ⟨hx, fun k => absurd k h0, fun _ => hr⟩
    · obtain ⟨u, hu, hr⟩ := actRestEnter_moving (s := taking s n p) (n := n) (p := p) h0 h2
      exact answers_outstanding rfl h hu hr fun t he hx => ⟨hx, fun k => absurd k h0, fun k => absurd k h2⟩
  · intro n p s h hc
    by_cases h0 : s.rd RIM_STAT.REST_STATE = 0
    · exact answers_executed rfl h (actRestExit_run hc h0) rfl rfl rfl rfl fun t he hx hr =>
        ⟨hx, fun k => absurd (h0.symm.trans k) (by decide), fun _ => hr⟩
    by_cases h2 : s.rd RIM_STAT.REST_STATE = 2
    · exact answers_outstanding rfl h (actRestExit_rest hc h2) rfl fun t he hx =>
        ⟨hx, fun _ => ⟨(congrArg (fun x => x.rim.restHeld) he.bare_inc :), he.putOut⟩, fun k => absurd k h0⟩
    · obtain ⟨u, hu, hr⟩ := actRestExit_moving (s := taking s n p) (n := n) (p := p) hc h0 h2
      exact answers_outstanding rfl h hu hr fun t he hx => ⟨hx, fun k => absurd k h2, fun k => absurd k h0⟩
  · intro n p s h hc
    exact answers_refused rfl h (actRestExit_stopped hc) rfl rfl rfl fun _ he hr => ⟨hr, (congrArg State.rim he.bare_same :)⟩
  · intro n p s h hd
    exact answers_executed rfl h (if_pos hd) rfl rfl rfl rfl fun _ _ hx hr => ⟨hx, hr⟩
  · intro n e p s h ho hn hf hs
    have hq : s.hintOf p = (taking s n p).hintOf p := rfl
    have ha : actHintPhase (taking s n p) n p = _ := actHintPhase_accepts (s := taking s n p) ho hn hf hs
    refine answers_executed rfl h ha rfl rfl (acceptHint_ports ..) (acceptHint_EXEC ..) fun t he hx hr => ⟨hx, hr, ?_, ?_⟩
    · rw [hq, hint_congr he.bg_inc, acceptHint_hint]
    · rw [he.rd_all (by decide), acceptHint_ACCEPTED]
      rfl
  · intro n p s h ho
    have ha : actHintPhase (taking s n p) n p = _ := actHintPhase_refuses (s := taking s n p) ho
    refine answers_refused rfl h ha rfl rfl (congrArg Cmd.ports (wr_cmd ..)) fun t he hr => ⟨hr, ?_, ?_⟩
    · exact (congrArg State.bg he.bare_same :).trans (wr_bg (taking s n p) ..)
    · rw [he.rd _ _ (Fld.unanswered_all (by decide) _), rd_inc_same]
      rfl
  · intro n e p s h hh
    have hh' : (taking s n p).hintEntry (p.par 0) = some e := hh
    obtain ⟨x, hx⟩ := hintEntry_hint hh'
    obtain ⟨hc, hr⟩ := withdraw_cmd (taking s n p) e
    have ha : actHintCancel (taking s n p) n p = replied stOK ((taking s n p).withdraw e) := by rw [actHintCancel, hh']
    refine answers_executed rfl h ha rfl rfl (congrArg Cmd.ports hc) hr fun t he hx' hr => ⟨hx', hr, ?_⟩
    rw [hint_congr he.bg_inc, withdraw_hint hx]
  · intro n p s h hh
    have hh' : (taking s n p).hintEntry (p.par 0) = none := hh
    have ha : actHintCancel (taking s n p) n p = replied stBADPARAM (taking s n p) := by rw [actHintCancel, hh']
    exact answers_refused rfl h ha rfl rfl rfl fun _ he hr => ⟨hr, (congrArg State.bg he.bare_same :)⟩
  · intro n p s h
    refine answers_executed rfl h rfl rfl rfl ?_ ?_ fun t he hx hr => ⟨hx, (he.rd_all (by decide) _).trans ?_, hr⟩
    · exact congrArg Cmd.ports (wr_cmd ..)
    · exact rd_wr_off (by decide) _
    · exact rd_wr_same ..
  · intro n p s h
    refine answers_executed rfl h rfl rfl rfl rfl rfl fun t he hx hr => ⟨hx, hr, fun ha => ?_, fun ha => ?_⟩
    · refine (congrArg (fun x => x.em.clrAll) he.bare_inc :).trans ?_
      simp [State.askClear, ha]
    · refine (congrArg (fun x => x.em.clrParts) he.bare_inc :).trans ?_
      simp [State.askClear, ha]
      rfl
  · intro n p s h hp
    exact answers_executed rfl h (if_pos hp) rfl rfl rfl rfl fun _ _ hx hr => ⟨hx, hr⟩
  · intro n p s h hp
    exact answers_executed rfl h ((if_neg (by omega)).trans ((if_neg (by omega)).trans (if_pos hp))) rfl rfl rfl rfl
      fun _ _ hx hr => ⟨hx, hr⟩
  · intro n p s h hp
    exact answers_refused rfl h ((if_neg (by omega)).trans ((if_neg (by omega)).trans ((if_neg (by omega)).trans (if_neg (by omega)))))
      rfl rfl rfl fun t _ hr => hr

end Sys2Proof
end

section
/-! PROOF. Packets in and replies out on mailboxes, rings and the service port (O55). -/

namespace Sys2Proof.Machine

variable {s t u : State} {n r : Nat} {p : Packet}

/-! ### Arrival -/

theorem accepts_congr (h : Accepts s n p) (hp : t.port n = s.port n) : Accepts t n p := by
  obtain ⟨hv, hd, hq⟩ := h
  exact ⟨hv, hd, by rwa [hp]⟩

/-- The port's last packet is `p`, which waits for the handler. -/
def State.takeIn (s : State) (n : Nat) (p : Packet) : State :=
  (s.setPort n (fun _ => { seen := true, last := p.seq, cache := p, reply := none })).setCmd
    (fun c => { c with queue := c.queue ++ [(n, p)] })

theorem arrive_accepted (h : Accepts s n p) : s.arrive n p = s.takeIn n p := by
  obtain ⟨hv, -, hq⟩ := h
  unfold State.arrive
  dsimp only
  rw [if_neg (by simp [hv])]
  obtain hq | ⟨h1, h2⟩ := hq
  · rw [if_neg (by simp [hq]), if_neg (by simp [hq])]
    rfl
  · rw [if_neg (by simp; omega), if_neg (by simp; omega)]
    rfl

theorem answered_takeIn (s : State) (n : Nat) (p : Packet) : Answered s (s.takeIn n p) :=
  (answered_setPort s n _).trans (.setCmd _ rfl)

theorem takeIn_port (s : State) (n : Nat) (p : Packet) :
    (s.takeIn n p).port n = { seen := true, last := p.seq, cache := p, reply := none } :=
  (setPort_port s n n fun _ => { seen := true, last := p.seq, cache := p, reply := none }).trans (if_pos rfl)

/-- An accepted packet waits, whatever packets of no command are answered meanwhile. -/
theorem waits_takeIn (s : State) (hd : opDefined p.op = true) : Waits (s.takeIn n p).answerUndefined n p := by
  have h := undisturbed_answerUndefined (s.takeIn n p)
  have hp := takeIn_port s n p
  have hq : (n, p) ∈ (s.takeIn n p).cmd.queue := List.mem_append_right _ (List.mem_singleton_self _)
  rw [Waits, h.port n (by rwa [hp]), hp]
  exact ⟨h.queue _ hq hd, rfl, rfl, rfl⟩

/-- What an accepted packet's arrival leaves. -/
theorem arrive_waits (h : Accepts s n p) :
    Answered s (s.arrive n p).answerUndefined ∧ Waits (s.arrive n p).answerUndefined n p := by
  rw [arrive_accepted h]
  exact ⟨(answered_takeIn s n p).trans (undisturbed_answerUndefined _).answered, waits_takeIn s h.2.1⟩

theorem arrive_version (h : p.ver ≠ 3) : s.arrive n p = s.answer n p stVERSION :=
  if_pos (by simp [h])

theorem arrive_duplicate (hv : p.ver = 3) (hs : (s.port n).seen = true) (hc : (s.port n).cache = p) (hl : (s.port n).last = p.seq) :
    Answered (s.inc CMD_CNT.DUP) (s.arrive n p) := by
  unfold State.arrive
  dsimp only
  rw [if_neg (by simp [hv]), if_pos (by simp [hs, hl]), if_pos (by simp [hc])]
  split
  · exact .ite (answered_deliver _ _ _) (answered_settle _ _)
  · exact answered_settle _ _

theorem arrive_stale (hv : p.ver = 3) (hs : (s.port n).seen = true) (hd : 2048 ≤ (p.seq + 4096 - (s.port n).last) % 4096) :
    Answered (s.inc CMD_CNT.STALE) (s.arrive n p) := by
  unfold State.arrive
  dsimp only
  rw [if_neg (by simp [hv]), if_neg (by simp; omega), if_pos (by simp [hs, hd])]
  exact answered_answer ..

/-! ### The count of refused versions -/

theorem settle_VERSION (s : State) (n : Nat) : (s.settle n).rd CMD_REFUSED.VERSION = s.rd CMD_REFUSED.VERSION := by
  have h : Kept (.guard s [] [CMD_REFUSED.VERSION]) (s.settle n) := kept_settle (kept_guard s _ _) rfl rfl
  exact h.guarded (by simp) 0

theorem deliver_VERSION (s : State) (n : Nat) (x : Reply) : (s.deliver n x).rd CMD_REFUSED.VERSION = s.rd CMD_REFUSED.VERSION := by
  have h : Kept (.guard s [] [CMD_REFUSED.VERSION]) (s.deliver n x) :=
    kept_deliver (kept_guard s _ _) rfl rfl (logs_guard rfl rfl rfl) rfl rfl rfl
  exact h.guarded (by simp) 0

theorem noteLast_VERSION (s : State) (n : Nat) (p : Packet) (st : Nat) :
    (s.noteLast n p st).rd CMD_REFUSED.VERSION = s.rd CMD_REFUSED.VERSION := by
  unfold State.noteLast
  split
  · rfl
  · simp only [rd_wr_off (show CMD_REFUSED.VERSION.off CMD_LAST.OPCODE = true by decide),
      rd_wr_off (show CMD_REFUSED.VERSION.off CMD_LAST.STATUS = true by decide),
      rd_wr_off (show CMD_REFUSED.VERSION.off CMD_LAST.SEQ = true by decide),
      rd_wr_off (show CMD_REFUSED.VERSION.off CMD_LAST_SRC.CLASS = true by decide),
      rd_wr_off (show CMD_REFUSED.VERSION.off CMD_LAST_SRC.INSTANCE = true by decide)]

theorem answer_VERSION (s : State) (n : Nat) (p : Packet) (st : Nat) (ws : List Nat) :
    (s.answer n p st ws).rd CMD_REFUSED.VERSION = (s.countRefusal st).rd CMD_REFUSED.VERSION := by
  unfold State.answer
  dsimp only
  split
  · exact (deliver_VERSION ..).trans (noteLast_VERSION ..)
  · exact settle_VERSION ..

theorem answerUndefined_VERSION (s : State) : s.answerUndefined.rd CMD_REFUSED.VERSION = s.rd CMD_REFUSED.VERSION := by
  refine upTo_keeps (fun t : State => t.rd CMD_REFUSED.VERSION = s.rd CMD_REFUSED.VERSION) rfl fun _ t ht => ?_
  split
  · split
    · exact ht
    · refine (answer_VERSION ..).trans (Eq.trans ?_ ht)
      split
      · rfl
      · exact rd_inc_off (F := CMD_REFUSED.VERSION) (G := CMD_REFUSED.BADOP) (by decide)
  · exact ht

/-! ### Mailboxes -/

theorem comesFirst_quiet (s : State) (k : Nat) : s.quiet.comesFirst k = s.comesFirst k := rfl

/-- Mailbox `n` as the handler takes its packet. -/
def State.mailboxTaken (s : State) (n : Nat) : State :=
  (s.wr MB_CTL.GO n 0).owe n

theorem mailboxTaken_port (s : State) (n : Nat) : (s.mailboxTaken n).port n = s.port n :=
  congrArg (fun c : Cmd => Table.get ({} : PortState) c.ports n) ((owe_cmd ..).trans (wr_cmd ..))

theorem answered_mailboxTaken (s : State) (n : Nat) : Answered (s.wr MB_CTL.GO n 0) (s.mailboxTaken n) :=
  answered_owe ..

theorem exec_mailboxTake (h : MailboxDue s n) :
    exec (.mailboxTake n) s = .next ((s.quiet.mailboxTaken n).arrive n (packetOf (s.mbWords n))).answerUndefined := by
  obtain ⟨hn, hg, ha, hs, ho, hq, hf⟩ := h
  have hr : s.mbReady n = true := by
    simp [State.mbReady, on_iff.2 hg, on_iff.2 ha, hs, ho]
  have hc : (decide (n < 16) && s.quiet.mbReady n && s.quiet.noneTaken &&
      s.quiet.comesFirst (s.quiet.rankOf n (packetOf (s.quiet.mbWords n)).urgent)) = true := by
    simp only [Bool.and_eq_true, decide_eq_true_eq]
    exact ⟨⟨⟨hn, hr⟩, hq⟩, hf⟩
  exact congrArg Host.Outcome.next (if_pos hc)

theorem mailboxTaken_rd {F : Fld} (h : F.clearOfAnswers = true) (i : Nat) :
    (s.mailboxTaken n).rd F i = (s.wr MB_CTL.GO n 0).rd F i :=
  (answered_mailboxTaken s n).rd F i (Fld.unanswered_all h i)

theorem mailboxTaken_GO (s : State) (n : Nat) : (s.mailboxTaken n).rd MB_CTL.GO n = 0 := by
  rw [mailboxTaken_rd (by decide), rd_wr_same]
  rfl

theorem mailboxTaken_VERSION (s : State) (n : Nat) :
    (s.mailboxTaken n).rd CMD_REFUSED.VERSION = s.rd CMD_REFUSED.VERSION := by
  have h : Kept (.guard s [] [CMD_REFUSED.VERSION]) (s.mailboxTaken n) := kept_owe (kept_wr (kept_guard s _ _) rfl) rfl rfl
  exact h.guarded (by simp) 0

/-! ### Rings -/

/-- Ring pair `r` as its entry is read and taken. -/
def State.entryTaken (s : State) (r : Nat) : State :=
  ((s.quiet.drive (entryRead s r)).wr RING_SQ.HEAD r (s.rd RING_SQ.HEAD r + 1)).owe (ringInst r)

theorem exec_submissionEntry (h : RingDue s r) (e : Option (List Nat)) :
    exec (.submissionEntry r e) s = .next (match e with
      | none => (((s.quiet.drive (entryRead s r)).wr RING_STAT.RD_ERR r 1).ringStop r).doorbell 30
      | some ws =>
        if crc32 (wordsLE ((List.range 15).map (at0 ws))) != at0 ws 15 then
          ((s.entryTaken r).inc RING_CNT.CRC r).deliver (ringInst r)
            { hdr := 0xFF * 2 ^ 24 + stBADPARAM * 2 ^ 16 + s.rd RING_SQ.HEAD r % 4096 * 16 }
        else ((s.entryTaken r).arrive (ringInst r) (packetOf ws)).answerUndefined) := by
  obtain ⟨hr, hm, he, hh, ho, ht, hq, hf⟩ := h
  have hrd : s.ringReady r = true := by
    simp [State.ringReady, hm, on_iff.2 he, hh, ht, lt_min_iff.1 ho]
  have hc : (decide (r < 15) && s.quiet.ringReady r && s.quiet.noneTaken &&
      s.quiet.comesFirst (s.quiet.rankOf (ringInst r) false)) = true := by
    simp only [Bool.and_eq_true, decide_eq_true_eq]
    exact ⟨⟨⟨hr, hrd⟩, hq⟩, hf⟩
  refine (congrArg Host.Outcome.next (if_pos hc)).trans ?_
  cases e <;> rfl

theorem entryTaken_port (s : State) (r k : Nat) : (s.entryTaken r).port k = s.port k :=
  congrArg (fun c : Cmd => Table.get ({} : PortState) c.ports k) ((owe_cmd ..).trans (wr_cmd ..))

theorem entryTaken_HEAD (h : Answered (s.entryTaken r) t) : t.rd RING_SQ.HEAD r = (s.rd RING_SQ.HEAD r + 1) % 65536 := by
  rw [((answered_owe _ _).trans h).rd _ _ (Fld.unanswered_all (by decide) r), rd_wr_same]
  rfl

theorem entryTaken_CRC (s : State) (r : Nat) : (s.entryTaken r).rd RING_CNT.CRC r = s.rd RING_CNT.CRC r :=
  ((answered_owe _ _).rd _ _ (Fld.unanswered_all (by decide) r)).trans (rd_wr_off (by decide) _)

theorem entryTaken_emit (h : Answered (s.entryTaken r) t) : t.emit = [entryRead s r] :=
  (congrArg State.emit ((answered_owe _ _).trans h).rest :).trans (wr_emit ..)

theorem entryTaken_ringOut (s : State) (r k : Nat) : (s.entryTaken r).ringOut k = s.ringOut k := by
  have h : (s.entryTaken r).bus = s.bus := by
    unfold State.entryTaken State.owe
    split
    · simp [State.drive, State.quiet]
    split <;> simp [State.drive, State.quiet]
  exact congrArg (fun b : Bus => Table.get ([] : List CEntry) b.ringOut k) h

theorem deliver_ring (hr : r < 15) (s : State) (x : Reply) :
    s.deliver (ringInst r) x = s.setRingOut r (s.ringOut r ++ [{ reply := x }]) := by
  have h1 : ¬ ringInst r < 16 := by unfold ringInst; omega
  have h2 : ringInst r < iSVC := by unfold ringInst; have : iSVC = 31 := rfl; omega
  have h3 : ringInst r - 16 = r := by unfold ringInst; omega
  rw [State.deliver, if_neg h1, if_pos h2, h3]

theorem settle_bus (s : State) (n : Nat) : (s.settle n).bus = s.bus := by
  unfold State.settle
  split
  · simp
  split <;> simp

theorem ringOut_setRingOut (s : State) (r : Nat) (l : List CEntry) : (s.setRingOut r l).ringOut r = l :=
  Table.get_set_same ..

/-- What stopping a ring pair leaves: the bus counters of the pair apart, every register. -/
theorem ringStop_rd {F : Fld} {i : Nat} (h1 : F.off RING_CFG.EN = true) (h2 : F.off RING_CNT.LOST = true)
    (h3 : F.off RING_STAT.OWED = true) (s : State) (r : Nat) : (s.ringStop r).rd F i = s.rd F i := by
  unfold State.ringStop
  dsimp only
  rw [setCmd_rd, State.setRingOut, setBus_rd, rd_wr_off h3, rd_wr_off h2, rd_wr_off h1]

theorem ringStop_emit (s : State) (r : Nat) : (s.ringStop r).emit = s.emit := by
  unfold State.ringStop
  dsimp only
  exact (wr_emit ..).trans ((wr_emit ..).trans (wr_emit ..))

/-- Ring pair `r` as its completion entry is written. -/
def State.entryWritten (s : State) (r : Nat) (e : CEntry) : State :=
  s.quiet.drive (.hostWrite (s.rd RING_CQ_BASE.ADDR r / 64 * 64 + 64 * (s.rd RING_CQ.TAIL r % s.ringSize r))
    (!s.on RING_CFG.SEC r) (entryWords e.reply))

/-- The pair's state once the entry's write has been accepted. -/
def State.entryKept (s : State) (r : Nat) (e : CEntry) (q : List CEntry) : State :=
  ((s.entryWritten r e).setRingOut r q).wr RING_CQ.TAIL r (s.rd RING_CQ.TAIL r + 1)

theorem exec_completionEntry_ok {e : CEntry} {q : List CEntry} (hr : r < 15) (he : s.rd RING_CFG.EN r = 1)
    (hq : s.ringOut r = e :: q) :
    ∃ b, exec (.completionEntry r true) s = .next (if e.tel then (s.entryKept r e q).doorbell b
      else ((s.entryKept r e q).doorbell b).settle (ringInst r)) := by
  have hq' : s.quiet.ringOut r = e :: q := hq
  have he' : (!s.quiet.on RING_CFG.EN r) = false := by rw [show s.quiet.on RING_CFG.EN r = true from on_iff.2 he]; rfl
  refine ⟨(s.entryKept r e q).rd RING_CFG.DB r + if s.on RING_CFG.SEC r then 16 else 0,
    congrArg Host.Outcome.next ((if_neg (by omega)).trans ?_)⟩
  rw [hq']
  exact (if_neg (by rw [he']; decide)).trans (if_pos rfl)

theorem exec_completionEntry_error {e : CEntry} {q : List CEntry} (hr : r < 15) (he : s.rd RING_CFG.EN r = 1)
    (hq : s.ringOut r = e :: q) :
    exec (.completionEntry r false) s = .next ((((s.entryWritten r e).wr RING_STAT.WR_ERR r 1).ringStop r).doorbell 30) := by
  have hq' : s.quiet.ringOut r = e :: q := hq
  have he' : (!s.quiet.on RING_CFG.EN r) = false := by rw [show s.quiet.on RING_CFG.EN r = true from on_iff.2 he]; rfl
  refine congrArg Host.Outcome.next ((if_neg (by omega)).trans ?_)
  rw [hq']
  exact (if_neg (by rw [he']; decide)).trans (if_neg (by decide))

/-! ### The service port -/

theorem toWordsLE_wordsLE {ws : List Nat} (h : ∀ w ∈ ws, w < 2 ^ 32) : toWordsLE (wordsLE ws) = ws := by
  induction ws with
  | nil => rfl
  | cons w ws ih =>
    obtain ⟨hw, hws⟩ := List.forall_mem_cons.1 h
    have e : wordsLE (w :: ws) = w % 256 :: w / 256 % 256 :: w / 256 / 256 % 256 :: w / 256 / 256 / 256 % 256 :: wordsLE ws := rfl
    rw [e, toWordsLE, ih hws]
    congr 1
    simp only [ofBytesLE]
    omega

theorem wordsLE_length (ws : List Nat) : (wordsLE ws).length = 4 * ws.length := by
  induction ws with
  | nil => rfl
  | cons w ws ih =>
    have e : (wordsLE (w :: ws)).length = (wordsLE ws).length + 4 := by simp [wordsLE, bytesLE]
    rw [e, ih, List.length_cons]
    omega

theorem svcFrame_length (ws : List Nat) : (svcFrame ws).length = 4 * ws.length + 5 := by
  simp only [svcFrame, List.length_append, List.length_cons, wordsLE_length, bytesLE, List.length_nil]

/-- The words of a frame are read back from its bytes. -/
theorem svcFrame_words {ws : List Nat} (h : ∀ w ∈ ws, w < 2 ^ 32) :
    toWordsLE (((svcFrame ws).drop 1).take (4 * ws.length)) = ws := by
  have e : (svcFrame ws).drop 1 = wordsLE ws ++ bytesLE 4 (crc32 (ws.length :: wordsLE ws)) := rfl
  rw [e, ← wordsLE_length, List.take_left, toWordsLE_wordsLE h]

/-- The frame of a PUT is broken: its CRC fails or its length is not that of its packet. -/
def putBroken (bs : List Nat) : Bool :=
  let l := at0 bs 0
  let ws := toWordsLE ((bs.drop 1).take (4 * l))
  bs.take (4 * l + 5) != svcFrame ws || l != bits 19 16 (at0 ws 0) + 1 || decide (l < 1) || decide (15 < l)

theorem putBroken_svcFrame {ws : List Nat} (hl : ws.length = bits 19 16 (at0 ws 0) + 1) (h15 : ws.length ≤ 15)
    (h : ∀ w ∈ ws, w < 2 ^ 32) : putBroken (svcFrame ws) = false := by
  have e : at0 (svcFrame ws) 0 = ws.length := rfl
  unfold putBroken
  dsimp only
  rw [e, svcFrame_words h, ← svcFrame_length, List.take_length, ← hl]
  rw [bne_self_eq_false, bne_self_eq_false, decide_eq_false (by omega), decide_eq_false (by omega)]
  rfl

theorem exec_put_short {bs : List Nat} (h : bs.length < 4 * at0 bs 0 + 5) : exec (.put bs) s = .next s.quiet :=
  congrArg Host.Outcome.next (if_pos h)

theorem exec_put_broken {bs : List Nat} (h : 4 * at0 bs 0 + 5 ≤ bs.length) (hb : putBroken bs = true) :
    exec (.put bs) s = .next (s.quiet.inc SVC_CNT.CRC).putRejected :=
  congrArg Host.Outcome.next ((if_neg (Nat.not_lt.2 h)).trans (if_pos hb))

theorem svcFrame_complete (ws : List Nat) : ¬ (svcFrame ws).length < 4 * at0 (svcFrame ws) 0 + 5 := by
  have e : at0 (svcFrame ws) 0 = ws.length := rfl
  rw [e, svcFrame_length]
  omega

theorem exec_put_full {ws : List Nat} (hb : putBroken (svcFrame ws) = false) (hq : 4 ≤ s.svcQueued) :
    exec (.put (svcFrame ws)) s = .next (s.quiet.inc SVC_CNT.OVERFLOW).putRejected :=
  congrArg Host.Outcome.next ((if_neg (svcFrame_complete ws)).trans ((if_neg (Bool.eq_false_iff.1 hb)).trans (if_pos hq)))

theorem exec_put_taken {ws : List Nat} (hb : putBroken (svcFrame ws) = false) (h : ∀ w ∈ ws, w < 2 ^ 32) (hq : s.svcQueued < 4) :
    exec (.put (svcFrame ws)) s =
      .next ((s.quiet.inc SVC_CNT.PKTS).arrive iSVC (packetOf ws)).answerUndefined := by
  have e : toWordsLE (((svcFrame ws).drop 1).take (4 * at0 (svcFrame ws) 0)) = ws := svcFrame_words h
  refine congrArg Host.Outcome.next ((if_neg (svcFrame_complete ws)).trans ((if_neg (Bool.eq_false_iff.1 hb)).trans
    ((if_neg (Nat.not_le.2 hq)).trans ?_)))
  rw [e]

theorem exec_get_clean {x : Reply} {q : List Reply} (h : s.cmd.svcReplies = x :: q) :
    exec (.get true) s = .next ((s.quiet.drive (.service (0 :: svcFrame (x.hdr :: x.words)))).setCmd (fun c => { c with
      svcReplies := q ++ c.svcHeld.take 1, svcHeld := c.svcHeld.drop 1 })).answerUndefined := by
  refine congrArg Host.Outcome.next ?_
  rw [show s.quiet.cmd.svcReplies = x :: q from h]
  rfl

theorem exec_get_cut {x : Reply} {q : List Reply} (h : s.cmd.svcReplies = x :: q) :
    exec (.get false) s = .next (s.quiet.drive (.service (0 :: svcFrame (x.hdr :: x.words)))) := by
  refine congrArg Host.Outcome.next ?_
  rw [show s.quiet.cmd.svcReplies = x :: q from h]
  rfl

theorem exec_get_empty (h : s.cmd.svcReplies = []) (b : Bool) :
    exec (.get b) s = .next (s.quiet.drive (.service [0, 0])) := by
  refine congrArg Host.Outcome.next ?_
  rw [show s.quiet.cmd.svcReplies = [] from h]

end Sys2Proof.Machine

namespace Sys2Proof
open Sys2Proof.Machine

/-- Settles O55: what arrives, by `arrive_waits` and the cases of `State.arrive`; what leaves, by what each transport writes. -/
theorem transportsCarry : Obligations.TransportsCarry := by
  unfold Obligations.TransportsCarry
  refine ⟨?_, ?_, ?_, ?_, ?_, ?_, ?_, ?_, ?_, ?_, ?_, ?_, ?_, ?_, ?_, ?_⟩
  · intro n s h ha
    obtain ⟨hk, hw⟩ := arrive_waits (accepts_congr ha (mailboxTaken_port s.quiet n))
    exact ⟨_, exec_mailboxTake h, (hk.rd _ _ (Fld.unanswered_all (by decide) n)).trans (mailboxTaken_GO ..), hw⟩
  · intro n s h hv
    refine ⟨_, exec_mailboxTake h, ?_⟩
    rw [arrive_version hv]
    refine ⟨((answered_end ..).rd _ _ (Fld.unanswered_all (by decide) n)).trans (mailboxTaken_GO ..), ?_⟩
    rw [answerUndefined_VERSION, answer_VERSION]
    refine (rd_inc_same ..).trans ?_
    rw [mailboxTaken_VERSION]
    rfl
  · intro n s h hv hs hc hl
    have hp := mailboxTaken_port s.quiet n
    have hk := (arrive_duplicate (s := s.quiet.mailboxTaken n) hv (hp ▸ hs) (hp ▸ hc) (hp ▸ hl)).trans
      (undisturbed_answerUndefined _).answered
    refine ⟨_, exec_mailboxTake h, ?_, ?_⟩
    · rw [hk.rd _ _ (Fld.unanswered_all (by decide) n), rd_inc_off (by decide), mailboxTaken_GO]
    · rw [hk.rd _ _ (Fld.unanswered_all (by decide) _), rd_inc_same, mailboxTaken_rd (by decide), rd_wr_off (by decide)]
      rfl
  · intro n s h hv hs hd
    have hp := mailboxTaken_port s.quiet n
    have hk := (arrive_stale (s := s.quiet.mailboxTaken n) hv (hp ▸ hs) (hp ▸ hd)).trans
      (undisturbed_answerUndefined _).answered
    refine ⟨_, exec_mailboxTake h, ?_, ?_⟩
    · rw [hk.rd _ _ (Fld.unanswered_all (by decide) n), rd_inc_off (by decide), mailboxTaken_GO]
    · rw [hk.rd _ _ (Fld.unanswered_all (by decide) _), rd_inc_same, mailboxTaken_rd (by decide), rd_wr_off (by decide)]
      rfl
  · intro r ws s h hc ha
    have hk := arrive_waits (accepts_congr ha (entryTaken_port s r (16 + r)))
    refine ⟨_, (exec_submissionEntry h (some ws)).trans (congrArg Host.Outcome.next (if_neg (by simp [hc]))), ?_, hk.2, ?_⟩
    · exact entryTaken_HEAD hk.1
    · exact (entryTaken_emit hk.1).symm ▸ List.mem_singleton_self _
  · intro r ws s h hc
    refine ⟨_, (exec_submissionEntry h (some ws)).trans (congrArg Host.Outcome.next (if_pos (by simp [hc]))), ?_⟩
    have hro : ((s.entryTaken r).inc RING_CNT.CRC r).ringOut r = s.ringOut r :=
      (congrArg (fun b : Bus => Table.get ([] : List CEntry) b.ringOut r) (wr_bus ..)).trans (entryTaken_ringOut s r r)
    rw [deliver_ring h.1, hro]
    refine ⟨?_, ?_, ?_, _, ringOut_setRingOut .., ?_, ?_⟩
    · exact (rd_inc_off (by decide)).trans (entryTaken_HEAD (.refl _))
    · rw [State.setRingOut, setBus_rd, rd_inc_same, entryTaken_CRC]
    · exact (wr_emit ..).trans (entryTaken_emit (.refl _))
    · have hb : stBADPARAM < 256 := by decide
      dsimp only
      omega
    · have hb : stBADPARAM < 256 := by decide
      simp only [Reply.status, bits]
      omega
  · intro r s h
    obtain ⟨hen, -⟩ := ringStop_spec ((s.quiet.drive (entryRead s r)).wr RING_STAT.RD_ERR r 1) r
    refine ⟨_, exec_submissionEntry h none, ?_, ?_, ?_⟩
    · rw [(answered_doorbell _ _).rd _ _ (Fld.unanswered_all (by decide) r), ringStop_rd (by decide) (by decide) (by decide), rd_wr_same]
      rfl
    · rw [(answered_doorbell _ _).rd _ _ (Fld.unanswered_all (by decide) r), hen]
    · rw [doorbell_emit, ringStop_emit, wr_emit]
      rfl
  · intro r e q s hr he hq
    obtain ⟨b, hx⟩ := exec_completionEntry_ok hr he hq
    have hk : Answered (s.entryKept r e q) (if e.tel then (s.entryKept r e q).doorbell b
        else ((s.entryKept r e q).doorbell b).settle (ringInst r)) :=
      .ite (answered_doorbell _ _) ((answered_doorbell _ _).trans (answered_settle _ _))
    refine ⟨_, hx, ?_, ?_, ?_⟩
    · rw [hk.rd _ _ (Fld.unanswered_all (by decide) r), State.entryKept, rd_wr_same]
      rfl
    · have hb : (if e.tel then (s.entryKept r e q).doorbell b else ((s.entryKept r e q).doorbell b).settle (ringInst r)).bus =
          (s.entryKept r e q).bus := by
        split
        · exact doorbell_bus ..
        · exact (settle_bus ..).trans (doorbell_bus ..)
      refine (congrArg (fun b : Bus => Table.get ([] : List CEntry) b.ringOut r) (hb.trans (wr_bus ..))).trans ?_
      exact ringOut_setRingOut ..
    · refine (congrArg State.emit hk.rest :).trans ((wr_emit ..).trans ?_)
      rfl
  · intro r e q s hr he hq
    obtain ⟨hen, -⟩ := ringStop_spec ((s.entryWritten r e).wr RING_STAT.WR_ERR r 1) r
    refine ⟨_, exec_completionEntry_error hr he hq, ?_, ?_, ?_⟩
    · rw [(answered_doorbell _ _).rd _ _ (Fld.unanswered_all (by decide) r), ringStop_rd (by decide) (by decide) (by decide), rd_wr_same]
      rfl
    · rw [(answered_doorbell _ _).rd _ _ (Fld.unanswered_all (by decide) r), hen]
    · rw [(answered_doorbell _ _).rd _ _ (Fld.unanswered_all (by decide) r), ringStop_rd (by decide) (by decide) (by decide),
        rd_wr_off (by decide)]
      rfl
  · intro ws s hl h15 hw hq ha
    obtain ⟨hk, hwt⟩ := arrive_waits (s := s.quiet.inc SVC_CNT.PKTS) (n := iSVC) (accepts_congr ha (port_of_ports (congrArg Cmd.ports (wr_cmd ..)) _))
    refine ⟨_, exec_put_taken (putBroken_svcFrame hl h15 hw) hw hq, ?_, hwt⟩
    rw [hk.rd _ _ (Fld.unanswered_all (by decide) _), rd_inc_same]
    rfl
  · intro ws s hl h15 hw hq
    exact ⟨_, exec_put_full (putBroken_svcFrame hl h15 hw) hq, rfl, (congrArg Cmd.queue (wr_cmd s.quiet SVC_CNT.OVERFLOW 0 _) :), rd_inc_same ..⟩
  · intro bs s hl hb
    have hb' : putBroken bs = true := by
      unfold putBroken
      dsimp only
      rw [bne_iff_ne.2 hb]
      rfl
    exact ⟨_, exec_put_broken hl hb', rfl, (congrArg Cmd.queue (wr_cmd s.quiet SVC_CNT.CRC 0 _) :), rd_inc_same ..⟩
  · exact fun bs s h => ⟨_, exec_put_short h, rfl⟩
  · exact fun b s h => ⟨_, exec_get_empty h b, rfl⟩
  · intro x q s h
    refine ⟨⟨_, exec_get_cut h, rfl, h⟩, ⟨_, exec_get_clean h, ?_⟩⟩
    have hk := undisturbed_answerUndefined ((s.quiet.drive (.service (0 :: svcFrame (x.hdr :: x.words)))).setCmd (fun c => { c with
      svcReplies := q ++ c.svcHeld.take 1, svcHeld := c.svcHeld.drop 1 }))
    exact ⟨(congrArg State.emit hk.answered.rest :), hk.svc⟩
  · exact fun s => ⟨_, rfl, rfl, rfl⟩

end Sys2Proof
end

section
/-! PROOF. The commands of the engine, the carrier and the peloton (O58). -/

namespace Sys2Proof.Machine

variable {s t u : State} {n k e g : Nat} {p : Packet}

/-! ### Commands that leave the ports and the count of executions alone -/

/-- Bounds that open all but the commands and the count of executions. -/
abbrev Bounds.handler (s : State) : Bounds :=
  .spare s [.cmd] [CMD_CNT.EXEC.key 0]

theorem kept_handler (s : State) : Kept (.handler s) s :=
  kept_spare s _ _

theorem Kept.handler_ports (h : Kept (.handler s) u) : u.cmd.ports = s.cmd.ports :=
  congrArg Cmd.ports (h.spared_part .cmd rfl)

theorem Kept.handler_EXEC (h : Kept (.handler s) u) : u.rd CMD_CNT.EXEC = s.rd CMD_CNT.EXEC :=
  h.spared_key (List.mem_singleton_self _)

/-- A write of a field elsewhere leaves the commands alone. -/
theorem Kept.handler_wr (h : Kept (.handler s) u) {F : Fld} (hF : F.misses (CMD_CNT.EXEC.key 0) = true) (i v : Nat) :
    Kept (.handler s) (u.wr F i v) :=
  kept_wr h (by simp [Bounds.spare, hF])

theorem handler_schedule {s : State} (h : Kept (.handler s) u) (hs : u.scheduleStatus g = stOK) (a : EvAct) :
    Kept (.handler s) (u.enqueueEvent g a) := by
  have hk := (kept_schedule (target := g) (a := a) h rfl rfl).kept
  unfold State.schedule at hk
  dsimp only at hk
  rwa [if_pos hs] at hk

/-! ### Loop sets and banks -/

/-- Loop set `k` is to be opened at the next boundary. -/
def State.openLoop (s : State) (k : Nat) : State :=
  s.setEng (fun e => { e with closeReq := e.closeReq.filter (· != k), openReq := e.openReq.filter (· != k) ++ [k] })

/-- Loop set `k` is to be closed at the next boundary. -/
def State.closeLoop (s : State) (k : Nat) : State :=
  s.setEng (fun e => { e with openReq := e.openReq.filter (· != k), closeReq := e.closeReq.filter (· != k) ++ [k] })

theorem openLoop_eng (s : State) (k : Nat) : k ∈ (s.openLoop k).eng.openReq ∧ k ∉ (s.openLoop k).eng.closeReq := by
  simp [State.openLoop]

theorem closeLoop_eng (s : State) (k : Nat) : k ∈ (s.closeLoop k).eng.closeReq ∧ k ∉ (s.closeLoop k).eng.openReq := by
  simp [State.closeLoop]

theorem actLoopOpen_opens (hp : s.rd ENG_STAT.SWITCH_PEND ≠ 1) (hm : s.inf ENG_SET.MODE (p.par 0) = 1) :
    actLoopOpen s n p = replied stOK (s.openLoop (p.par 0)) := by
  have hm' : s.infOn ENG_SET.MODE (p.par 0) = true := beq_iff_eq.2 hm
  exact if_neg (by simp [hm', on_false_iff.2 hp])

theorem actLoopOpen_conflict (h : s.rd ENG_STAT.SWITCH_PEND = 1 ∨ s.inf ENG_SET.MODE (p.par 0) ≠ 1) :
    actLoopOpen s n p = replied stCONFLICT s := by
  refine if_pos ?_
  obtain h | h := h
  · simp [on_iff.2 h]
  · simp [State.infOn, h]

theorem actBankSwitch_open (h : s.rd ENG_STAT.OPEN ≠ 0) : actBankSwitch s n p = replied stCONFLICT s :=
  if_pos (by simp [h])

theorem actBankSwitch_switches (ho : s.rd ENG_STAT.OPEN = 0) (hr : s.eng.openReq = []) (hp : s.rd ENG_STAT.SWITCH_PEND ≠ 1)
    (hv : (s.bankOf (1 - s.rd ENG_STAT.BANK)).valid = true) (hs : s.scheduleStatus (s.targetOf p) = stOK) :
    actBankSwitch s n p = replied stOK ((s.enqueueEvent (s.targetOf p) .bank).wr ENG_STAT.SWITCH_PEND 0 1) := by
  simp only [actBankSwitch, ho, hr, on_false_iff.2 hp, hv, State.schedule, hs]
  rfl

/-- NODE_DUMP accepted: its event is queued and its registers are set. -/
def State.dumpAsked (s : State) (g src node : Nat) : State :=
  (((s.enqueueEvent g (.dump src node)).wr ENG_DUMP_CFG.SRC 0 src).wr ENG_DUMP_CFG.NODE 0 node).wr ENG_DUMP_STAT.DONE 0 0

/-- What NODE_DUMP does. -/
def actNodeDump : Act := fun s _ p =>
  let src := if bits 31 30 (p.par 0) = 1 then 1 else 0
  let node := bits 27 16 (p.par 0)
  let q := s.schedule (s.extend (p.stamp 1)) (.dump src node)
  if q.1 = stOK then
    replied stOK (((q.2.wr ENG_DUMP_CFG.SRC 0 src).wr ENG_DUMP_CFG.NODE 0 node).wr ENG_DUMP_STAT.DONE 0 0)
  else replied q.1 s

theorem execNodeDump_act (s : State) : exec .nodeDump s = .next (s.quiet.runOp 0xF0 actNodeDump) := rfl

theorem actNodeDump_asks (hs : s.scheduleStatus (s.extend (p.stamp 1)) = stOK) :
    actNodeDump s n p = replied stOK (s.dumpAsked (s.extend (p.stamp 1)) (if bits 31 30 (p.par 0) = 1 then 1 else 0)
      (bits 27 16 (p.par 0))) := by
  simp only [actNodeDump, State.schedule, hs]
  rfl

theorem handler_dumpAsked (hs : s.scheduleStatus g = stOK) (src node : Nat) : Kept (.handler s) (s.dumpAsked g src node) :=
  (((handler_schedule (kept_handler s) hs _).handler_wr (by decide) 0 _).handler_wr (by decide) 0 _).handler_wr (by decide) 0 _

theorem dumpAsked_shows (s : State) (g src node : Nat) :
    (s.dumpAsked g src node).rd ENG_DUMP_STAT.DONE = 0 ∧
      (s.dumpAsked g src node).rd ENG_DUMP_CFG.SRC = src % 2 ^ ENG_DUMP_CFG.SRC.width ∧
      (s.dumpAsked g src node).rd ENG_DUMP_CFG.NODE = node % 2 ^ ENG_DUMP_CFG.NODE.width := by
  unfold State.dumpAsked
  refine ⟨(rd_wr_same ..).trans (Nat.zero_mod _), ?_, ?_⟩
  · rw [rd_wr_off (by decide), rd_wr_off (by decide), rd_wr_same]
  · rw [rd_wr_off (by decide), rd_wr_same]

/-! ### Leases -/

theorem setRole_ROLE (s : State) {r : Nat} (hr : r < 4) : (s.setRole r).rd CAR_STAT.ROLE = r := by
  unfold State.setRole
  split
  case isTrue h => exact h
  case isFalse =>
    rw [rd_raise_all (by decide), rd_wr_same]
    exact Nat.mod_eq_of_lt hr

/-- The lease is withdrawn (R247). -/
def State.leaseWithdrawn (s : State) : State :=
  ((s.setRole rMEMBER).dropLease.wr CAR_LEASE.REQ 0 0).wr CAR_LEASE.TAKEOVER 0 0

theorem leaseWithdrawn_shows (s : State) :
    s.leaseWithdrawn.rd CAR_STAT.ROLE = 0 ∧ s.leaseWithdrawn.car.leaseEnd = none ∧ s.leaseWithdrawn.rd CAR_LEASE.REQ = 0 := by
  unfold State.leaseWithdrawn State.dropLease
  refine ⟨?_, ?_, ?_⟩
  · rw [rd_wr_off (by decide), rd_wr_off (by decide), setCar_rd, rd_wr_off (by decide), rd_wr_off (by decide)]
    exact setRole_ROLE s (by decide)
  · rw [wr_car, wr_car, setCar_car]
  · rw [rd_wr_off (by decide), rd_wr_same]
    rfl

theorem takeLease_shows (s : State) {r : Nat} (hr : r < 4) (e : Nat) :
    (s.takeLease r e).rd CAR_STAT.ROLE = r ∧ (s.takeLease r e).rd CAR_STAT.LEASE_VALID = 1 := by
  have hs : (((s.setRole r).seeEpoch e).wr CAR_EPOCH_HELD.EPOCH 0 e).rd CAR_STAT.ROLE = r := by
    refine (rd_wr_off (by decide) _).trans (Eq.trans ?_ (setRole_ROLE s hr))
    unfold State.seeEpoch
    split
    · exact rd_wr_off (by decide) _
    · rfl
  unfold State.takeLease
  extract_lets a b
  refine ⟨?_, ?_⟩
  · rw [setCar_rd, rd_wr_off (by decide), rd_wr_off (by decide), rd_wr_off (by decide), rd_wr_off (by decide)]
    exact hs
  · rw [setCar_rd, rd_wr_off (by decide), rd_wr_off (by decide), rd_wr_off (by decide), rd_wr_same]
    rfl

theorem leaseCommand_withdraws (h : s.carrierOn = true) (e : Nat) : s.leaseCommand 3 e = (stOK, s.leaseWithdrawn) := by
  simp only [State.leaseCommand, h]
  rfl

theorem leaseCommand_steward (h : s.carrierOn = true) (hn : serialNewer 32 e (s.rd CAR_EPOCH_SEEN.EPOCH) = true) :
    s.leaseCommand 1 e = (stOK, s.takeLease rSTEWARD e) := by
  simp only [State.leaseCommand, h, hn]
  rfl

theorem leaseCommand_alone (h : s.carrierOn = false) (r e : Nat) : s.leaseCommand r e = (stCONFLICT, s) := by
  simp only [State.leaseCommand, h]
  rfl

theorem handler_leaseCommand (s : State) (r e : Nat) : Kept (.handler s) (s.leaseCommand r e).2 :=
  (kept_leaseCommand (kept_handler s) rfl (logs_spare rfl rfl rfl) rfl rfl rfl rfl rfl rfl rfl rfl rfl rfl).kept

/-- What LEASE does. -/
def actLease : Act := fun s _ p =>
  if p.par 0 = 0 then replied stBADPARAM s
  else replied (s.leaseCommand (p.par 0) (p.par 1)).1 (s.leaseCommand (p.par 0) (p.par 1)).2
    [(s.leaseCommand (p.par 0) (p.par 1)).2.regWord 0xA010]

theorem execLease_act (s : State) : exec .lease s = .next (s.quiet.runOp 0x50 actLease) := rfl

theorem actLease_of {st : Nat} (h0 : p.par 0 ≠ 0) (hq : s.leaseCommand (p.par 0) (p.par 1) = (st, u)) :
    actLease s n p = (some (st, [u.regWord 0xA010]), u) := by
  unfold actLease
  rw [if_neg h0, hq]
  rfl

/-! ### The peloton -/

/-- The peloton's registers as PEL_SET leaves them. -/
def State.pelSet (s : State) (p : Packet) : State :=
  upTo 8 (fun k s => s.wr PEL_MASK.MASK k (p.par (k + 1)))
    ((s.wr PEL_CTRL.PEL_ID 0 (bits 31 16 (p.par 0))).wr PEL_CTRL.JOIN 0 (p.par 0))

theorem pelSet_rd {F : Fld} (h : F.apart PEL_MASK.MASK 1 8 = true) (s : State) (p : Packet) : (s.pelSet p).rd F =
    ((s.wr PEL_CTRL.PEL_ID 0 (bits 31 16 (p.par 0))).wr PEL_CTRL.JOIN 0 (p.par 0)).rd F :=
  upTo_keeps_below (fun t : State => t.rd F = _) rfl fun _ hk _ ht => (rd_wr_apart 1 8 h Nat.one_pos hk _).trans ht

theorem pelSet_cmd (s : State) (p : Packet) : (s.pelSet p).cmd = s.cmd :=
  upTo_keeps (fun t : State => t.cmd = s.cmd) ((wr_cmd ..).trans (wr_cmd ..)) fun _ _ ht => (wr_cmd ..).trans ht

theorem pelSet_shows (s : State) (p : Packet) : (s.pelSet p).rd CMD_CNT.EXEC = s.rd CMD_CNT.EXEC ∧
    (s.pelSet p).rd PEL_CTRL.PEL_ID = bits 31 16 (p.par 0) ∧ (s.pelSet p).rd PEL_CTRL.JOIN = p.par 0 % 2 ∧
      ∀ k < 8, (s.pelSet p).rd PEL_MASK.MASK k = p.par (k + 1) % 2 ^ 32 := by
  refine ⟨?_, ?_, ?_, fun k hk => rd_upTo_wr (by decide) _ _ hk⟩
  · rw [pelSet_rd (by decide), rd_wr_off (by decide), rd_wr_off (by decide)]
  · rw [pelSet_rd (by decide), rd_wr_off (by decide), rd_wr_same]
    exact Nat.mod_eq_of_lt (Nat.mod_lt _ (by decide))
  · rw [pelSet_rd (by decide), rd_wr_same]
    rfl

end Sys2Proof.Machine
end

section
/-! PROOF. The commands of recovery, the suspects and the cores (O58). -/

namespace Sys2Proof.Machine

variable {s t u : State} {n c : Nat} {p : Packet}

/-! ### Recovery -/

theorem collectCode_ERRLAST (s : State) (code : Nat) :
    (s.collectCode code).rd RC_ERRLAST.CODE = code % 2 ^ RC_ERRLAST.CODE.width := by
  unfold State.collectCode
  extract_lets a b
  have ha : a.rd RC_ERRLAST.CODE = code % 2 ^ RC_ERRLAST.CODE.width := rd_wr_same ..
  have hb : b.rd RC_ERRLAST.CODE = a.rd RC_ERRLAST.CODE := by
    unfold b
    split
    · rw [rd_wr_off (by decide), rd_wr_off (by decide)]
    · rfl
  rw [← ha, ← hb]
  split
  · rfl
  · have h : Kept (.guard b [] [RC_ERRLAST.CODE]) (b.errRecord code) :=
      kept_errRecord (kept_guard b _ _) (logs_guard rfl rfl rfl)
    exact h.guarded (by simp) 0

/-- What a good report leaves. -/
def State.accelReported (s : State) (code : Nat) : State :=
  (s.collectCode code).raise .RC_ACCEL_STEP 0 code

theorem accelReported_shows (s : State) (code : Nat) :
    (s.accelReported code).rd RC_EVT.ACCEL_STEP = 1 ∧ (s.accelReported code).rd RC_ERRLAST.CODE = code % 2 ^ 32 :=
  ⟨rd_raise_st _ .RC_ACCEL_STEP _ _ (by decide), (rd_raise_all (by decide) ..).trans (collectCode_ERRLAST s code)⟩

theorem handler_accelReported (s : State) (code : Nat) : Kept (.handler s) (s.accelReported code) :=
  kept_raise (kept_collectCode (kept_handler s) rfl (logs_spare rfl rfl rfl) rfl rfl rfl) (logs_spare rfl rfl rfl) rfl

theorem enterPower_ladder (s : State) (code : Nat) (svc : Bool) : (s.enterPower code svc).ladder = lPOWER := by
  have he : s.enterPower code svc = if ((s.powered code).infOn RC_CTRL.AUTO_PWR || svc) = true then
      ((s.powered code).wr RC_STAT.TRAY_REQ 0 1).raise .RC_TRAY_REQ
    else (s.powered code).wr RC_STAT.PWR_HELD 0 1 := rfl
  rw [he, ← powered_LADDER s code, State.ladder]
  split
  · rw [rd_raise_all (by decide), rd_wr_off (by decide)]
  · rw [rd_wr_off (by decide)]

theorem handler_enterPower (s : State) (code : Nat) (svc : Bool) : Kept (.handler s) (s.enterPower code svc) :=
  kept_enterPower (kept_handler s) rfl rfl (logs_spare rfl rfl rfl) rfl rfl rfl rfl rfl rfl rfl rfl rfl rfl rfl rfl rfl

theorem handler_dieStep (s : State) (code : Nat) : Kept (.handler s) (s.dieStep code) :=
  kept_dieStep (kept_handler s) rfl rfl rfl rfl rfl (logs_spare rfl rfl rfl) rfl rfl rfl rfl rfl rfl rfl rfl rfl rfl rfl rfl
    rfl rfl rfl rfl rfl rfl rfl rfl rfl

theorem requestStep_power (h : s.ladder = lPOWER) (level code : Nat) (svc : Bool) :
    s.requestStep level code svc = (stCONFLICT, s) :=
  if_pos h

theorem requestStep_enters (h : s.ladder ≠ lPOWER) (code : Nat) (svc : Bool) :
    s.requestStep 5 code svc = (stOK, s.enterPower code svc) :=
  (if_neg h).trans (if_pos rfl)

theorem requestStep_die (h : s.ladder ≠ lPOWER) (hd : s.ladder ≠ lDIE) (code : Nat) (svc : Bool) :
    s.requestStep 4 code svc = (stOK, s.dieStep code) :=
  (if_neg h).trans ((if_neg (by decide)).trans ((if_pos rfl).trans (if_neg hd)))

theorem actRecoveryStep_of {l st : Nat} (hl : bits 31 28 (p.par 0) = l) (h3 : 3 ≤ l) (h5 : l ≤ 5)
    (ha : accelSource (p.par 0) = true) (hq : s.requestStep l (p.par 0) (s.instClass n == 2) = (st, u)) :
    actRecoveryStep s n p = (some (st, []), u) := by
  subst hl
  unfold actRecoveryStep
  dsimp only
  rw [if_neg (by simp; omega), if_pos (by simp [ha]), if_pos ha, hq]
  rfl

/-! ### Suspects -/

/-- A suspect report logged and counted in `F`. -/
def State.suspectNoted (s : State) (r : LogRec) (F : Fld) : State :=
  (((({ s with free := s.free + 1 } : State).fwRec r).inc F).setMg (fun m => { m with deferred := false }))

/-- The handling of a report by its verdict. -/
def State.suspectHandled (s : State) (verdict core ctx : Nat) : State :=
  if !s.infOn MG_CTRL.SUS_EN then s else if verdict = 1 then s.transient core ctx else s.retireCore core ctx

theorem suspectCommand_handled {w0 w1 v : Nat} (hv : bits 31 30 w0 = v) (h : v = 1 ∨ v = 2)
    (hp : s.present (bits 13 0 w0 / 64) = true) (hc : isCluster (bits 13 0 w0 / 64) = true) :
    ∃ r : LogRec, s.suspectCommand w0 w1 =
      (if ((s.suspectNoted r (if v = 1 then MG_CNT.TRANS else MG_CNT.PERM)).suspectHandled v (bits 13 0 w0)
          (bits 31 16 w1)).mg.deferred then stDEFERRED else stOK,
        (s.suspectNoted r (if v = 1 then MG_CNT.TRANS else MG_CNT.PERM)).suspectHandled v (bits 13 0 w0) (bits 31 16 w1)) := by
  subst hv
  unfold State.suspectCommand
  dsimp only
  obtain h | h := h
  · rw [if_neg (by simp [h, hp, hc]), h]
    exact ⟨_, rfl⟩
  · rw [if_neg (by simp [h, hp, hc]), h]
    exact ⟨_, rfl⟩

theorem suspectCommand_refuses {w0 : Nat} (h : bits 31 30 w0 = 0) (w1 : Nat) : s.suspectCommand w0 w1 = (stBADPARAM, s) := by
  unfold State.suspectCommand
  dsimp only
  rw [if_pos (by simp [h])]

/-- What SUSPECT_REPORT does. -/
def actSuspectReport : Act := fun s _ p =>
  replied (s.suspectCommand (p.par 0) (p.par 1)).1 (s.suspectCommand (p.par 0) (p.par 1)).2

theorem execSuspectReport_act (s : State) : exec .suspectReport s = .next (s.quiet.runOp 0x80 actSuspectReport) := rfl

theorem actSuspectReport_of {st : Nat} (hq : s.suspectCommand (p.par 0) (p.par 1) = (st, u)) :
    actSuspectReport s n p = (some (st, []), u) := by
  unfold actSuspectReport
  rw [hq]
  rfl

theorem suspectHandled_counts {F : Fld} (hF : F = MG_CNT.TRANS ∨ F = MG_CNT.PERM) (s : State) (v core ctx : Nat) :
    (s.suspectHandled v core ctx).rd F = s.rd F := by
  have h : Kept (.guard s [] [MG_CNT.TRANS, MG_CNT.PERM]) (s.suspectHandled v core ctx) := by
    have h0 := kept_guard s [] [MG_CNT.TRANS, MG_CNT.PERM]
    refine kept_ite h0 (kept_ite ?_ ?_)
    · exact kept_transient h0 rfl rfl (logs_guard rfl rfl rfl) rfl rfl rfl rfl rfl rfl rfl rfl rfl rfl rfl rfl
        rfl rfl rfl rfl rfl rfl
    · exact kept_retireCore h0 rfl rfl (logs_guard rfl rfl rfl) rfl rfl rfl rfl rfl rfl rfl rfl rfl rfl rfl
  exact h.guarded (by simpa using hF) 0

theorem fwRec_kept (s : State) (r : LogRec) : Kept (.guard s [.inForce] [MG_CNT.TRANS, MG_CNT.PERM]) (s.fwRec r) :=
  kept_fwRec (kept_guard s _ _) (logs_guard rfl rfl rfl)

theorem suspectNoted_counts {F : Fld} (hF : F = MG_CNT.TRANS ∨ F = MG_CNT.PERM) (s : State) (r : LogRec) :
    (s.suspectNoted r F).rd F = (s.rd F + 1) % 2 ^ F.width := by
  unfold State.suspectNoted
  rw [setMg_rd, rd_inc_same, (fwRec_kept _ r).guarded (by simpa using hF)]
  rfl

theorem suspectHandled_off {r : LogRec} {F : Fld} {v core ctx : Nat} (h : s.infOn MG_CTRL.SUS_EN = false) :
    ((s.suspectNoted r F).suspectHandled v core ctx).mg.deferred = false := by
  have hi : (s.suspectNoted r F).inForce = s.inForce := by
    refine Eq.trans ?_ ((fwRec_kept { s with free := s.free + 1 } r).spared .inForce rfl)
    simp [State.suspectNoted]
  have he : (s.suspectNoted r F).infOn MG_CTRL.SUS_EN = false := by
    unfold State.infOn State.inf at h ⊢
    rwa [hi]
  unfold State.suspectHandled
  rw [he]
  rfl

theorem handler_suspectCommand (s : State) (w0 w1 : Nat) : Kept (.handler s) (s.suspectCommand w0 w1).2 :=
  (kept_suspectCommand (kept_handler s) rfl rfl rfl (logs_spare rfl rfl rfl) rfl rfl rfl rfl rfl rfl rfl rfl rfl rfl rfl rfl
    rfl rfl rfl rfl rfl rfl rfl rfl).kept

theorem suspectClear_SUS (s : State) (c : Nat) : (s.suspectClear c).2.rd MG_CL.SUS c = 0 := by
  unfold State.suspectClear
  extract_lets cores a b d
  have hd : d.rd MG_CL.SUS c = 0 := by
    unfold d State.fallOffset
    split
    · exact (rd_wr_off (by decide) _).trans ((rd_wr_same ..).trans rfl)
    · exact (rd_wr_same ..).trans rfl
  have h : Kept2 (.guard d [] [MG_CL.SUS]) (d.recordDue 3 (64 * c) true) :=
    kept_recordDue (kept_guard d _ _) rfl (logs_guard rfl rfl rfl) rfl rfl rfl rfl rfl rfl rfl
  exact (h.kept.guarded (by simp) c).trans hd

/-- OK and DEFERRED are answers to a command that was executed. -/
theorem deferredStatus_executed (d : Bool) : executed (some (if d = true then stDEFERRED else stOK, [])) = true := by
  cases d <;> rfl

theorem suspectClear_executed (s : State) (c : Nat) : executed (some ((s.suspectClear c).1, [])) = true := by
  unfold State.suspectClear
  exact deferredStatus_executed _

theorem handler_suspectClear (s : State) (c : Nat) : Kept (.handler s) (s.suspectClear c).2 :=
  (kept_suspectClear (kept_handler s) rfl (logs_spare rfl rfl rfl) rfl rfl rfl rfl rfl rfl rfl rfl rfl rfl).kept

/-! ### Cores -/

/-- The divider, the gate, the reset line and the fence of a core as CORE_CTRL writes them. -/
def State.coreDiv (s : State) (core w : Nat) : State :=
  if w.testBit 31 then s.wr CORE_DIV.DIV core (w % 4) else s

def State.coreGate (s : State) (c k w : Nat) : State :=
  if w.testBit 30 then s.wrBit CORE_GATE.GATE c k (w.testBit 9) else s

def State.coreReset (s : State) (c k w : Nat) : State :=
  if w.testBit 29 then (if w.testBit 10 then s.assertReset c (2 ^ k) else s.wrBit CORE_RST.RST c k false) else s

def State.coreFence (s : State) (c k w : Nat) : State :=
  if w.testBit 28 then s.wrBit CORE_FENCE.FENCE c k true else s

/-- A core as CORE_CTRL leaves it. -/
def State.coreCtrl (s : State) (core w : Nat) : State :=
  (((s.coreDiv core w).coreGate (core / 64) (core % 64) w).coreReset (core / 64) (core % 64) w).coreFence (core / 64)
    (core % 64) w

theorem actCoreCtrl_controls (hc : isCluster (p.par 0 / 64) = true) (hp : s.present (p.par 0 / 64) = true)
    (h : ¬ ((p.par 1).testBit 30 = true ∧ (p.par 1).testBit 9 = false)) :
    actCoreCtrl s n p = replied stOK (s.coreCtrl (p.par 0) (p.par 1)) := by
  unfold actCoreCtrl
  dsimp only
  rw [if_neg (by simp [hc, hp]), if_neg (by simp; tauto)]
  rfl

/-- Writes of the core lines of clusters leave a field that lies apart from them. -/
theorem coreLines_rd {F : Fld} {N i : Nat} (hi : i < N) (hc : c < 192) (hr : F.apart CORE_RST.RST N 192 = true)
    (hf : F.apart CORE_FENCE.FENCE N 192 = true) (s : State) (k w : Nat) :
    ((s.coreReset c k w).coreFence c k w).rd F i = s.rd F i := by
  have h : ((s.coreReset c k w).coreFence c k w).rd F i = (s.coreReset c k w).rd F i := by
    unfold State.coreFence
    split
    · exact rd_wrBit_apart N 192 hf hi hc _ _
    · rfl
  rw [h]
  unfold State.coreReset
  split
  · split
    · unfold State.assertReset
      dsimp only
      split
      · exact rd_wr_apart N 192 hr hi hc _
      · exact rd_wr_apart N 192 hr hi hc _
    · exact rd_wrBit_apart N 192 hr hi hc _ _
  · rfl

theorem coreGate_rd {F : Fld} {N i : Nat} (hi : i < N) (hc : c < 192) (hg : F.apart CORE_GATE.GATE N 192 = true)
    (s : State) (k w : Nat) : (s.coreGate c k w).rd F i = s.rd F i := by
  unfold State.coreGate
  split
  · exact rd_wrBit_apart N 192 hg hi hc _ _
  · rfl

theorem coreDiv_rd {F : Fld} {N i core : Nat} (hi : i < N) (hc : core < 12288) (hd : F.apart CORE_DIV.DIV N 12288 = true)
    (s : State) (w : Nat) : (s.coreDiv core w).rd F i = s.rd F i := by
  unfold State.coreDiv
  split
  · exact rd_wr_apart N 12288 hd hi hc _
  · rfl

theorem coreCtrl_EXEC {core : Nat} (hc : core / 64 < 192) (s : State) (w : Nat) :
    (s.coreCtrl core w).rd CMD_CNT.EXEC = s.rd CMD_CNT.EXEC := by
  unfold State.coreCtrl
  rw [coreLines_rd Nat.one_pos hc (by decide) (by decide), coreGate_rd Nat.one_pos hc (by decide),
    coreDiv_rd Nat.one_pos (by omega) (by decide)]

theorem coreDiv_cmd (s : State) (core w : Nat) : (s.coreDiv core w).cmd = s.cmd := by
  unfold State.coreDiv
  split
  · exact wr_cmd ..
  · rfl

theorem coreGate_cmd (s : State) (c k w : Nat) : (s.coreGate c k w).cmd = s.cmd := by
  unfold State.coreGate
  split
  · exact wrBit_cmd ..
  · rfl

theorem assertReset_cmd (s : State) (c m : Nat) : (s.assertReset c m).cmd = s.cmd := by
  have h : Kept (.guard s [.cmd] []) (s.assertReset c m) := kept_assertReset (kept_guard s _ _) rfl rfl rfl
  exact h.spared .cmd rfl

theorem coreReset_cmd (s : State) (c k w : Nat) : (s.coreReset c k w).cmd = s.cmd := by
  unfold State.coreReset
  split
  · split
    · exact assertReset_cmd ..
    · exact wrBit_cmd ..
  · rfl

theorem coreFence_cmd (s : State) (c k w : Nat) : (s.coreFence c k w).cmd = s.cmd := by
  unfold State.coreFence
  split
  · exact wrBit_cmd ..
  · rfl

theorem coreCtrl_cmd (s : State) (core w : Nat) : (s.coreCtrl core w).cmd = s.cmd :=
  (coreFence_cmd ..).trans ((coreReset_cmd ..).trans ((coreGate_cmd ..).trans (coreDiv_cmd ..)))

theorem coreCtrl_DIV {core w : Nat} (hc : core / 64 < 192) (h : w.testBit 31 = true) (hg : w.testBit 30 = false) (s : State) :
    (s.coreCtrl core w).rd CORE_DIV.DIV core = w % 4 := by
  have hl : core < 12288 := by omega
  unfold State.coreCtrl
  rw [coreLines_rd hl hc (by decide) (by decide)]
  unfold State.coreGate State.coreDiv
  rw [hg, h]
  exact (rd_wr_same ..).trans (Nat.mod_eq_of_lt (Nat.mod_lt _ (by decide)))

theorem coreCtrl_GATE {core w : Nat} (hc : core / 64 < 192) (hg : w.testBit 30 = true) (h : w.testBit 9 = true) (s : State) :
    (s.coreCtrl core w).bit CORE_GATE.GATE (core % 64) (core / 64) = true := by
  unfold State.coreCtrl State.bit
  rw [coreLines_rd hc hc (by decide) (by decide)]
  unfold State.coreGate
  rw [hg, h]
  refine (bit_wrBit_true _ CORE_GATE.GATE (core / 64) (c := core % 64) (Nat.mod_lt _ (by decide))).trans ?_
  simp

/-- The end of the answer keeps what a restart left. -/
theorem Answered.restarted {s t u : State} (h : Answered (u.inc CMD_CNT.EXEC) t) (hr : Restarted s u) : Restarted s t := by
  obtain ⟨hheld, hready, hlocks, heng, hlease, hwarm⟩ := hr
  exact ⟨(h.rd_all (by decide) 0).trans hheld, (h.rd_all (by decide) 0).trans hready,
    (congrArg State.locks h.bare_inc :).trans hlocks, (h.rd_all (by decide) 0).trans heng,
    (h.rd_all (by decide) 0).trans hlease, (h.rd_all (by decide) 0).trans hwarm⟩

end Sys2Proof.Machine
end

section
/-! PROOF. The commands of firmware, locks, registers and the meter's mirror, and O58. -/

namespace Sys2Proof.Machine

/- Every `decide +kernel` waits for the kernel; elaborated one after another, the proofs hold less memory while they wait. -/
set_option Elab.async false

variable {s t u : State} {n k : Nat} {p : Packet}

/-! ### Firmware -/

theorem handler_showSlot (s : State) (k st gen : Nat) : Kept (.handler s) (s.showSlot k st gen) :=
  showSlot_kept s k st gen [.cmd] [CMD_CNT.EXEC.key 0] (by decide)

/-- An answer leaves the slots' states. -/
theorem Answered.slotState (h : Answered (u.inc CMD_CNT.EXEC) t) (k : Nat) : t.slotState k = u.slotState k := by
  unfold State.slotState
  rw [h.rd_all (F := FW_SLOT_A.STATE) (by decide), h.rd_all (F := FW_SLOT_B.STATE) (by decide)]

theorem actFwLoad_loads (hp : s.rd FW_STAT.SW_PEND ≠ 1) (hl : s.slotState (1 - s.rd FW_STAT.ACTIVE) ≠ 1) :
    actFwLoad s n p = (none, (s.showSlot (1 - s.rd FW_STAT.ACTIVE) 1 0).putOut n p
      (.fwLoad (bits 8 8 (p.par 0)) (p.par 1 + p.par 2 * 2 ^ 32) (p.par 3))) := by
  unfold actFwLoad
  dsimp only
  rw [if_neg (mt on_iff.1 hp)]
  exact if_neg hl

theorem slotState_putOut (s : State) (n : Nat) (p : Packet) (w : Waiting) (k : Nat) :
    (s.putOut n p w).slotState k = s.slotState k := rfl

theorem actFwSwitch_empty (h : s.slotState (1 - s.rd FW_STAT.ACTIVE) = 0) : actFwSwitch s n p = replied stBADPARAM s :=
  if_pos h

theorem actFwSwitch_switches (h : s.slotState (1 - s.rd FW_STAT.ACTIVE) = 2) (hp : s.rd FW_STAT.SW_PEND ≠ 1)
    (hr : s.carRole = rMEMBER) (hs : s.scheduleStatus (s.targetOf p) = stOK) :
    actFwSwitch s n p = replied stOK ((s.enqueueEvent (s.targetOf p) .switch).wr FW_STAT.SW_PEND 0 1) := by
  have h' : s.slotState s.inactiveSlot = 2 := h
  simp only [actFwSwitch, h', hr, on_false_iff.2 hp, State.schedule, hs]
  rfl

theorem actImgLoad_loads (h : s.imgRefusal (bits 3 0 (p.par 0)) (bits 5 4 (p.par 0)) (bits 8 8 (p.par 0)) = none) :
    actImgLoad s n p = (none, s.putOut n p
      (.imgLoad (bits 3 0 (p.par 0)) (bits 5 4 (p.par 0)) (bits 8 8 (p.par 0)) (p.par 1 + p.par 2 * 2 ^ 32) (p.par 3))) := by
  unfold actImgLoad
  dsimp only
  rw [h]

/-! ### Staging -/

/-- Bytes put one after another into a memory are read back, each at its place. -/
theorem get_foldl_set (f : Nat → Nat) (off : Nat) (m : Table Nat) {i N : Nat} (hi : i < N) :
    Table.get 0 ((List.range N).foldl (fun t j => Table.set 0 t (off + j) (f j)) m) (off + i) = f i := by
  induction N with
  | zero => exact absurd hi (Nat.not_lt_zero i)
  | succ N ih =>
    rw [List.range_succ, List.foldl_append, List.foldl_cons, List.foldl_nil]
    by_cases h : i = N
    · subst h
      exact Table.get_set_same ..
    · rw [Table.get_set_ne _ _ _ _ (by omega)]
      exact ih (by omega)

theorem at0_wordsLE (ws : List Nat) {i : Nat} (hi : i < 4 * ws.length) :
    at0 (wordsLE ws) i = at0 ws (i / 4) / 256 ^ (i % 4) % 256 := by
  induction ws generalizing i with
  | nil => exact absurd hi (Nat.not_lt_zero i)
  | cons w ws ih =>
    have e : wordsLE (w :: ws) = w % 256 :: w / 256 % 256 :: w / 256 / 256 % 256 :: w / 256 / 256 / 256 % 256 :: wordsLE ws := rfl
    rw [List.length_cons] at hi
    match i, hi with
    | 0, _ => simp [e, at0]
    | 1, _ => simp [e, at0]
    | 2, _ => simp [e, at0, Nat.div_div_eq_div_mul]
    | 3, _ => simp [e, at0, Nat.div_div_eq_div_mul]
    | i + 4, hi =>
      have h := ih (i := i) (by omega)
      have h1 : (i + 4) / 4 = i / 4 + 1 := by omega
      have h2 : (i + 4) % 4 = i % 4 := by omega
      rw [h1, h2]
      exact h

theorem store_mem (x : Slot) (off : Nat) (ws : List Nat) {i : Nat} (hi : i < 4 * ws.length) :
    Table.get 0 (x.store off (wordsLE ws)).mem (off + i) = at0 ws (i / 4) / 256 ^ (i % 4) % 256 := by
  have h := get_foldl_set (fun j => at0 (wordsLE ws) j % 256) off x.mem (i := i)
    (N := (wordsLE ws).length) (by rwa [wordsLE_length])
  refine h.trans ?_
  rw [at0_wordsLE ws hi, Nat.mod_mod]

/-- The inactive slot as STAGE_WRITE leaves it: no longer VALID, with the words stored. -/
def State.staged (s : State) (off : Nat) (ws : List Nat) : State :=
  (if s.slotState s.inactiveSlot = 2 then s.showSlot s.inactiveSlot 0 0 else s).setSlot s.inactiveSlot
    (fun x => x.store off (wordsLE ws))

theorem actStageWrite_stages (h4 : p.par 0 % 4 = 0) (hl : p.par 0 + 4 * (p.params.drop 1).length ≤ 262144)
    (hp : s.rd FW_STAT.SW_PEND ≠ 1) : actStageWrite s n p = replied stOK (s.staged (p.par 0) (p.params.drop 1)) := by
  unfold actStageWrite
  dsimp only
  rw [if_neg (by simp [h4]; simpa using hl), if_neg (mt on_iff.1 hp)]
  rfl

theorem slot_setSlot (s : State) (k : Nat) (f : Slot → Slot) : (s.setSlot k f).slot k = f (s.slot k) := by
  unfold State.setSlot State.slot State.setFw
  split <;> rfl

theorem slot_congr (h : t.fw = s.fw) (k : Nat) : t.slot k = s.slot k := by
  unfold State.slot
  rw [h]

theorem staged_slotState (s : State) (off : Nat) (ws : List Nat) : (s.staged off ws).slotState s.inactiveSlot ≠ 2 := by
  have h : (s.staged off ws).slotState s.inactiveSlot =
      (if s.slotState s.inactiveSlot = 2 then s.showSlot s.inactiveSlot 0 0 else s).slotState s.inactiveSlot := rfl
  rw [h]
  split
  case isTrue => rw [(showSlot_shows ..).1]; decide
  case isFalse h => exact h

theorem staged_mem (s : State) (off : Nat) (ws : List Nat) {i : Nat} (hi : i < 4 * ws.length) :
    Table.get 0 ((s.staged off ws).slot s.inactiveSlot).mem (off + i) = at0 ws (i / 4) / 256 ^ (i % 4) % 256 := by
  unfold State.staged
  rw [slot_setSlot]
  exact store_mem _ off ws hi

theorem handler_staged (s : State) (off : Nat) (ws : List Nat) : Kept (.handler s) (s.staged off ws) :=
  kept_setSlot (kept_ite (handler_showSlot ..) (kept_handler s)) rfl rfl

/-! ### Locks -/

/-- The lock bits that a LOCK_SET with word `w` sets. -/
def lockWord (w : Nat) : Locks :=
  { lock1Of (w / 256) with cfg := w.testBit 0 }

theorem lockWord_bits (w : Nat) : lockWord w = ⟨w.testBit 0, w.testBit 8, w.testBit 9, w.testBit 10, w.testBit 11⟩ := by
  have h : ∀ i, (w / 256).testBit i = w.testBit (i + 8) := fun i => Nat.testBit_div_two_pow w (n := 8) ..
  simp only [lockWord, lock1Of, h]

/-! ### Registers -/

/-- What REG_READ does. -/
def actRegRead : Act := fun s _ p =>
  replied (if (s.readAll p.params).2.1 then stOK else stBADPARAM) (s.readAll p.params).2.2 (s.readAll p.params).1

theorem execRegRead_act (s : State) : exec .regRead s = .next (s.quiet.runOp 0xF1 actRegRead) := rfl

theorem actRegRead_of {vs : List Nat} {ok : Bool} (h : s.readAll p.params = (vs, ok, u)) :
    actRegRead s n p = (some (if ok then stOK else stBADPARAM, vs), u) := by
  unfold actRegRead
  rw [h]
  rfl

theorem readAll_passed {off : Nat} (h : s.accessCause svcAcc false off = none) :
    s.readAll [off] = ([(s.readWord svcAcc off).1], true, (s.readWord svcAcc off).2) := by
  simp only [State.readAll, State.busRead, h]
  rfl

theorem readAll_refused {off c : Nat} (h : s.accessCause svcAcc false off = some c) :
    s.readAll [off] = ([0], false, s.accessError svcAcc false off c) := by
  simp only [State.readAll, State.busRead, h]
  rfl

theorem handler_readWord (s : State) (off : Nat) : Kept (.handler s) (s.readWord svcAcc off).2 :=
  (kept_readWord (kept_handler s) rfl rfl rfl).kept

theorem handler_accessError (s : State) (w : Bool) (off c : Nat) : Kept (.handler s) (s.accessError svcAcc w off c) :=
  kept_accessError (kept_handler s) rfl rfl rfl rfl rfl rfl rfl rfl

theorem accessCause_DOM_CTRL (s : State) (w : Bool) : s.accessCause svcAcc w 0x440 = none := by
  obtain ⟨d, hf, -, -, hd, -⟩ := findReg_DOM_CTRL
  unfold State.accessCause
  rw [if_neg (by decide), if_neg (by decide), hf]
  refine (if_neg (by simp [hd])).trans ((if_neg (by simp [svcAcc])).trans (if_neg (by simp [svcAcc])))

/-- DOM_CTRL after a write of `v`. -/
def State.domCtrlSet (s : State) (v : Nat) : State :=
  (if s.locks.cfg = true then s.wr GSTAT.LOCK_IGN 0 1 else s.wr DOM_CTRL.SELFTEST_EN 0 (v / 2 ^ 15 % 2)).wr DOM_CTRL.TELEM_MS 0
    (max 1 (min 100 (v / 2 ^ 0 % 2 ^ 7)))

theorem busWrite_DOM_CTRL (s : State) (v : Nat) : s.busWrite svcAcc 0x440 v = (true, s.domCtrlSet (v % 2 ^ 32)) := by
  obtain ⟨d, hf, ho, hst, hd, hp, hfs⟩ := findReg_DOM_CTRL
  unfold State.busWrite
  rw [accessCause_DOM_CTRL]
  dsimp only
  rw [if_neg (by decide), writeWord_only hf (by rw [ho]; decide) (by rw [ho]; decide) (by rw [hp]; decide),
    writeFields_single hst (by rw [hfs]; rfl), hfs, ho]
  exact congrArg (Prod.mk true) (domCtrl_written s svcAcc.ns (v % 2 ^ 32))

theorem domCtrlSet_cmd (s : State) (v : Nat) : (s.domCtrlSet v).cmd = s.cmd := by
  unfold State.domCtrlSet
  split
  · exact (wr_cmd ..).trans (wr_cmd ..)
  · exact (wr_cmd ..).trans (wr_cmd ..)

theorem domCtrlSet_EXEC (s : State) (v : Nat) : (s.domCtrlSet v).rd CMD_CNT.EXEC = s.rd CMD_CNT.EXEC := by
  unfold State.domCtrlSet
  split
  · exact (rd_wr_off (by decide) _).trans (rd_wr_off (by decide) _)
  · exact (rd_wr_off (by decide) _).trans (rd_wr_off (by decide) _)

theorem domCtrlSet_TELEM (s : State) (v : Nat) :
    (s.domCtrlSet (v % 2 ^ 32)).rd DOM_CTRL.TELEM_MS = max 1 (min 100 (v % 128)) := by
  have h : v % 2 ^ 32 / 2 ^ 0 % 2 ^ 7 = v % 128 := by omega
  rw [State.domCtrlSet, rd_wr_same, h]
  exact Nat.mod_eq_of_lt (lt_of_le_of_lt (max_le (by decide) (min_le_left 100 _)) (by decide))

/-- What REG_WRITE does. -/
def actRegWrite : Act := fun s _ p =>
  replied (if (s.writeAll p.params).1 then stOK else stBADPARAM) (s.writeAll p.params).2

theorem execRegWrite_act (s : State) : exec .regWrite s = .next (s.quiet.runOp 0xF2 actRegWrite) := rfl

theorem actRegWrite_of {ok : Bool} (h : s.writeAll p.params = (ok, u)) :
    actRegWrite s n p = (some (if ok then stOK else stBADPARAM, []), u) := by
  unfold actRegWrite
  rw [h]
  rfl

theorem writeAll_DOM_CTRL (s : State) (v : Nat) : s.writeAll [0x440, v] = (true, s.domCtrlSet (v % 2 ^ 32)) := by
  simp only [State.writeAll, busWrite_DOM_CTRL]
  rfl

end Sys2Proof.Machine
end

namespace Sys2Proof
open Sys2Proof.Machine

section
variable {n : Nat} {p : Packet} {s : State}

theorem loopOpen_opens (h : Taken s n p 0x40) (hp : s.rd ENG_STAT.SWITCH_PEND ≠ 1) (hm : s.inf ENG_SET.MODE (p.par 0) = 1) :
    Answers .loopOpen s (fun t => Executed s t ∧ Replied s t n p stOK [] ∧ p.par 0 ∈ t.eng.openReq ∧
      p.par 0 ∉ t.eng.closeReq) := by
  obtain ⟨ho, hc⟩ := openLoop_eng (taking s n p) (p.par 0)
  refine answers_executed rfl h (actLoopOpen_opens hp hm) rfl rfl rfl rfl fun t he hx hr => ?_
  have ht : t.eng = ((taking s n p).openLoop (p.par 0)).eng := (congrArg State.eng he.bare_inc :)
  exact ⟨hx, hr, ht ▸ ho, ht ▸ hc⟩

theorem loopOpen_conflict (h : Taken s n p 0x40) (hc : s.rd ENG_STAT.SWITCH_PEND = 1 ∨ s.inf ENG_SET.MODE (p.par 0) ≠ 1) :
    Answers .loopOpen s (fun t => Replied s t n p stCONFLICT [] ∧ t.eng = s.eng) :=
  answers_refused rfl h (actLoopOpen_conflict hc) rfl rfl rfl fun _ he hr => ⟨hr, (congrArg State.eng he.bare_same :)⟩

theorem loopClose_closes (h : Taken s n p 0x41) :
    Answers .loopClose s (fun t => Executed s t ∧ Replied s t n p stOK [] ∧ p.par 0 ∈ t.eng.closeReq ∧
      p.par 0 ∉ t.eng.openReq) := by
  obtain ⟨hc, ho⟩ := closeLoop_eng (taking s n p) (p.par 0)
  refine answers_executed (u := (taking s n p).closeLoop (p.par 0)) rfl h rfl rfl rfl rfl rfl fun t he hx hr => ?_
  have ht : t.eng = ((taking s n p).closeLoop (p.par 0)).eng := (congrArg State.eng he.bare_inc :)
  exact ⟨hx, hr, ht ▸ hc, ht ▸ ho⟩

theorem bankSwitch_switches (h : Taken s n p 0x42) (ho : s.rd ENG_STAT.OPEN = 0) (hr : s.eng.openReq = [])
    (hp : s.rd ENG_STAT.SWITCH_PEND ≠ 1) (hv : (s.bankOf (1 - s.rd ENG_STAT.BANK)).valid = true)
    (hs : s.scheduleStatus (s.targetOf p) = stOK) :
    Answers .bankSwitch s (fun t => Executed s t ∧ Replied s t n p stOK [] ∧ t.rd ENG_STAT.SWITCH_PEND = 1 ∧
      t.rd ENG_STAT.BANK = s.rd ENG_STAT.BANK) := by
  have ha := actBankSwitch_switches (s := taking s n p) (n := n) ho hr hp hv hs
  have hk := (handler_schedule (kept_handler (taking s n p)) hs .bank).handler_wr (F := ENG_STAT.SWITCH_PEND) (by decide) 0 1
  refine answers_executed rfl h ha rfl rfl hk.handler_ports hk.handler_EXEC fun t he hx hr => ⟨hx, hr, ?_, ?_⟩
  · rw [he.rd_all (by decide), rd_wr_same]
    rfl
  · rw [he.rd_all (by decide), rd_wr_off (by decide)]
    rfl

theorem bankSwitch_conflict (h : Taken s n p 0x42) (ho : s.rd ENG_STAT.OPEN ≠ 0) :
    Answers .bankSwitch s (fun t => Replied s t n p stCONFLICT [] ∧ t.cad = s.cad) :=
  answers_refused rfl h (actBankSwitch_open ho) rfl rfl rfl fun _ he hr => ⟨hr, (congrArg State.cad he.bare_same :)⟩

theorem traceArm_arms (h : Taken s n p 0x43) :
    Answers .traceArm s (fun t => Executed s t ∧ Replied s t n p stOK [] ∧ t.rd ENG_TR_CTRL.ARM = 1) := by
  have hk := (kept_handler (taking s n p)).handler_wr (F := ENG_TR_CTRL.ARM) (by decide) 0 1
  refine answers_executed rfl h rfl rfl rfl hk.handler_ports hk.handler_EXEC fun t he hx hr => ⟨hx, hr, ?_⟩
  rw [he.rd_all (by decide), rd_wr_same]
  rfl

theorem engRead_replies (h : Taken s n p 0x44) (hp : p.par 0 < 6) :
    Answers .engRead s (fun t => Executed s t ∧ Replied s t n p stOK
      ([0x5100 + 8 * p.par 0, 0x5104 + 8 * p.par 0, 0x501C].map (taking s n p).regWord)) :=
  answers_executed rfl h (if_pos hp) rfl rfl rfl rfl fun _ _ hx hr => ⟨hx, hr⟩

theorem nodeDump_asks (h : Taken s n p 0xF0) (hs : s.scheduleStatus (s.extend (p.stamp 1)) = stOK) :
    Answers .nodeDump s (fun t => Executed s t ∧ Replied s t n p stOK [] ∧ t.rd ENG_DUMP_STAT.DONE = 0 ∧
      t.rd ENG_DUMP_CFG.SRC = (if bits 31 30 (p.par 0) = 1 then 1 else 0) ∧
      t.rd ENG_DUMP_CFG.NODE = bits 27 16 (p.par 0) % 2 ^ ENG_DUMP_CFG.NODE.width) := by
  have hk := handler_dumpAsked (s := taking s n p) hs (if bits 31 30 (p.par 0) = 1 then 1 else 0) (bits 27 16 (p.par 0))
  obtain ⟨hd, hsrc, hn⟩ := dumpAsked_shows (taking s n p) (s.extend (p.stamp 1)) (if bits 31 30 (p.par 0) = 1 then 1 else 0)
    (bits 27 16 (p.par 0))
  have ha : actNodeDump (taking s n p) n p = replied stOK ((taking s n p).dumpAsked (s.extend (p.stamp 1))
      (if bits 31 30 (p.par 0) = 1 then 1 else 0) (bits 27 16 (p.par 0))) := actNodeDump_asks hs
  refine answers_executed (execNodeDump_act s) h ha rfl rfl hk.handler_ports hk.handler_EXEC
    fun t he hx hr => ⟨hx, hr, ?_, ?_, ?_⟩
  · rw [he.rd_all (by decide), hd]
  · rw [he.rd_all (by decide), hsrc]
    split <;> rfl
  · rw [he.rd_all (by decide), hn]

theorem lease_withdraws (h : Taken s n p 0x50) (hc : s.carrierOn = true) (hp : p.par 0 = 3) :
    Answers .lease s (fun t => Executed s t ∧ t.rd CAR_STAT.ROLE = 0 ∧ t.car.leaseEnd = none ∧ t.rd CAR_LEASE.REQ = 0) := by
  have hk := handler_leaseCommand (taking s n p) (p.par 0) (p.par 1)
  have hq : (taking s n p).leaseCommand (p.par 0) (p.par 1) = (stOK, (taking s n p).leaseWithdrawn) := by
    rw [hp]
    exact leaseCommand_withdraws (s := taking s n p) hc _
  obtain ⟨hr, hl, hq'⟩ := leaseWithdrawn_shows (taking s n p)
  rw [hq] at hk
  refine answers_executed (execLease_act s) h (actLease_of (by omega) hq) rfl rfl hk.handler_ports hk.handler_EXEC
    fun t he hx _ => ⟨hx, ?_, ?_, ?_⟩
  · rw [he.rd_all (by decide), hr]
  · exact (congrArg (fun x => x.car.leaseEnd) he.bare_inc :).trans hl
  · rw [he.rd_all (by decide), hq']

theorem lease_steward (h : Taken s n p 0x50) (hc : s.carrierOn = true) (hp : p.par 0 = 1)
    (hn : serialNewer 32 (p.par 1) (s.rd CAR_EPOCH_SEEN.EPOCH) = true) :
    Answers .lease s (fun t => Executed s t ∧ t.rd CAR_STAT.ROLE = 2 ∧ t.rd CAR_STAT.LEASE_VALID = 1) := by
  have hk := handler_leaseCommand (taking s n p) (p.par 0) (p.par 1)
  have hq : (taking s n p).leaseCommand (p.par 0) (p.par 1) = (stOK, (taking s n p).takeLease rSTEWARD (p.par 1)) := by
    rw [hp]
    exact leaseCommand_steward (s := taking s n p) hc hn
  obtain ⟨hr, hv⟩ := takeLease_shows (taking s n p) (r := rSTEWARD) (by decide) (p.par 1)
  rw [hq] at hk
  refine answers_executed (execLease_act s) h (actLease_of (by omega) hq) rfl rfl hk.handler_ports hk.handler_EXEC
    fun t he hx _ => ⟨hx, ?_, ?_⟩
  · rw [he.rd_all (by decide), hr]
  · rw [he.rd_all (by decide), hv]

theorem lease_alone (h : Taken s n p 0x50) (hc : s.carrierOn = false) :
    Answers .lease s (fun t => t.car = s.car) := by
  by_cases h0 : p.par 0 = 0
  · exact answers_refused (execLease_act s) h (if_pos h0) rfl rfl rfl fun _ he _ => (congrArg State.car he.bare_same :)
  · exact answers_refused (execLease_act s) h (actLease_of h0 (leaseCommand_alone (s := taking s n p) hc _ _)) rfl rfl rfl
      fun _ he _ => (congrArg State.car he.bare_same :)

theorem carrierCap_sets (h : Taken s n p 0x51) :
    Answers .carrierCap s (fun t => Executed s t ∧ Replied s t n p stOK [] ∧
      t.rd CAR_CAP.CAP = p.par 0 % 2 ^ CAR_CAP.CAP.width ∧ t.rd CAR_RSV.RESERVE = p.par 1 % 2 ^ CAR_RSV.RESERVE.width) := by
  have hk := ((kept_handler (taking s n p)).handler_wr (F := CAR_CAP.CAP) (by decide) 0 (p.par 0)).handler_wr
    (F := CAR_RSV.RESERVE) (by decide) 0 (p.par 1)
  refine answers_executed rfl h rfl rfl rfl hk.handler_ports hk.handler_EXEC fun t he hx hr => ⟨hx, hr, ?_, ?_⟩
  · rw [he.rd_all (by decide), rd_wr_off (by decide), rd_wr_same]
  · rw [he.rd_all (by decide), rd_wr_same]

theorem pelSet_sets (h : Taken s n p 0x52) :
    Answers .pelSet s (fun t => Executed s t ∧ Replied s t n p stOK [] ∧ t.rd PEL_CTRL.PEL_ID = bits 31 16 (p.par 0) ∧
      t.rd PEL_CTRL.JOIN = p.par 0 % 2 ∧ ∀ k < 8, t.rd PEL_MASK.MASK k = p.par (k + 1) % 2 ^ 32) := by
  obtain ⟨hx', hid, hj, hm⟩ := pelSet_shows (taking s n p) p
  refine answers_executed (u := (taking s n p).pelSet p) rfl h rfl rfl rfl (congrArg Cmd.ports (pelSet_cmd ..)) hx'
    fun t he hx hr => ⟨hx, hr, ?_, ?_, fun k hk => ?_⟩
  · rw [he.rd_all (by decide), hid]
  · rw [he.rd_all (by decide), hj]
  · rw [he.rd_below (N := 8) (by decide) hk, hm k hk]

theorem pelRead_replies (h : Taken s n p 0x53) :
    Answers .pelRead s (fun t => Executed s t ∧ Replied s t n p stOK
      ([0xA10C, 0xA11C, 0xA028].map (taking s n p).regWord)) :=
  answers_executed rfl h rfl rfl rfl rfl rfl fun _ _ hx hr => ⟨hx, hr⟩

theorem recoveryReport_reports (h : Taken s n p 0x70) (hl : bits 31 28 (p.par 0) = 1 ∨ bits 31 28 (p.par 0) = 2)
    (ha : accelSource (p.par 0) = true) :
    Answers .recoveryReport s (fun t => Executed s t ∧ Replied s t n p stOK [] ∧ t.rd RC_EVT.ACCEL_STEP = 1 ∧
      t.rd RC_ERRLAST.CODE = p.par 0 % 2 ^ 32) := by
  have hk := handler_accelReported (taking s n p) (p.par 0)
  obtain ⟨hs, he'⟩ := accelReported_shows (taking s n p) (p.par 0)
  have hc : ((decide (bits 31 28 (p.par 0) = 1) || decide (bits 31 28 (p.par 0) = 2)) && accelSource (p.par 0)) = true := by
    simpa [ha] using hl
  refine answers_executed rfl h (if_pos hc) rfl rfl hk.handler_ports hk.handler_EXEC fun t he hx hr => ⟨hx, hr, ?_, ?_⟩
  · rw [he.rd_all (by decide)]
    exact hs
  · rw [he.rd_all (by decide)]
    exact he'

theorem recoveryStep_die (h : Taken s n p 0x71) (hl : bits 31 28 (p.par 0) = 4) (ha : accelSource (p.par 0) = true)
    (hp : s.ladder ≠ lPOWER) (hd : s.ladder ≠ lDIE)
    (hm : (s.rc.dieAt.filter (fun a => decide (s.tick < a + 600000000))).length + 1 ≤ s.inf RC_CFG2.DIE_MAX) :
    Answers .recoveryStep s (fun t => Executed s t ∧ Replied s t n p stOK [] ∧ t.ladder = lDIE) := by
  have hk := handler_dieStep (taking s n p) (p.par 0)
  obtain ⟨hs, -⟩ := dieStep_spec (s := taking s n p) (p.par 0) (Nat.not_lt.2 hm)
  have hact := actRecoveryStep_of (s := taking s n p) (n := n) hl (by decide) (by decide) ha
    (requestStep_die (s := taking s n p) hp hd _ _)
  refine answers_executed rfl h hact rfl rfl hk.handler_ports hk.handler_EXEC fun t he hx hr => ⟨hx, hr, ?_⟩
  exact (he.rd_all (by decide) _).trans hs

theorem recoveryStep_power (h : Taken s n p 0x71) (hl : bits 31 28 (p.par 0) = 5) (ha : accelSource (p.par 0) = true)
    (hp : s.ladder ≠ lPOWER) :
    Answers .recoveryStep s (fun t => Executed s t ∧ Replied s t n p stOK [] ∧ t.ladder = lPOWER) := by
  have hk := handler_enterPower (taking s n p) (p.par 0) ((taking s n p).instClass n == 2)
  have hs := enterPower_ladder (taking s n p) (p.par 0) ((taking s n p).instClass n == 2)
  have hact := actRecoveryStep_of (s := taking s n p) (n := n) hl (by decide) (by decide) ha
    (requestStep_enters (s := taking s n p) hp _ _)
  refine answers_executed rfl h hact rfl rfl hk.handler_ports hk.handler_EXEC fun t he hx hr => ⟨hx, hr, ?_⟩
  exact (he.rd_all (by decide) _).trans hs

theorem recoveryStep_conflict (h : Taken s n p 0x71) (hp : s.ladder = lPOWER) (h3 : 3 ≤ bits 31 28 (p.par 0))
    (h5 : bits 31 28 (p.par 0) ≤ 5) (ha : accelSource (p.par 0) = true) :
    Answers .recoveryStep s (fun t => Replied s t n p stCONFLICT [] ∧ t.rc = s.rc) := by
  have hact := actRecoveryStep_of (s := taking s n p) (n := n) rfl h3 h5 ha (requestStep_power (s := taking s n p) hp _ _ _)
  exact answers_refused rfl h hact rfl rfl rfl fun _ he hr => ⟨hr, (congrArg State.rc he.bare_same :)⟩

theorem warmRestart_restarts (h : Taken s n p 0x72) :
    Answers .warmRestart s (fun t => Restarted s t) :=
  answers_begun rfl h rfl fun _ hk => hk.restarted (beginRestart_spec (taking s n p) srcSVC 0).1

theorem errRead_replies (h : Taken s n p 0x73) :
    Answers .errRead s (fun t => Executed s t ∧ Replied s t n p stOK
      [s.rd RC_ERRCODE.CODE, s.rd RC_ERRLAST.CODE, s.rd RC_ERR_TICK.TICK % 2 ^ 32, s.rd RC_ERR_TICK.TICK / 2 ^ 32 % 2 ^ 32]) :=
  answers_executed rfl h rfl rfl rfl rfl rfl fun _ _ hx hr => ⟨hx, hr⟩

theorem errClear_clears (h : Taken s n p 0x74) :
    Answers .errClear s (fun t => Executed s t ∧ Replied s t n p stOK [] ∧ t.rd RC_CLR.ERR = 1) := by
  have hk := (kept_handler (taking s n p)).handler_wr (F := RC_CLR.ERR) (by decide) 0 1
  refine answers_executed rfl h rfl rfl rfl hk.handler_ports hk.handler_EXEC fun t he hx hr => ⟨hx, hr, ?_⟩
  rw [he.rd_all (by decide), rd_wr_same]
  rfl

theorem suspectReport_transient (h : Taken s n p 0x80) (hv : bits 31 30 (p.par 0) = 1)
    (hp : s.present (bits 13 0 (p.par 0) / 64) = true) (hc : isCluster (bits 13 0 (p.par 0) / 64) = true) :
    Answers .suspectReport s (fun t => Executed s t ∧
      Replied s t n p (if t.mg.deferred = true then stDEFERRED else stOK) [] ∧
      (s.infOn MG_CTRL.SUS_EN = false → t.mg.deferred = false) ∧
      t.rd MG_CNT.TRANS = (s.rd MG_CNT.TRANS + 1) % 2 ^ MG_CNT.TRANS.width) := by
  have hk := handler_suspectCommand (taking s n p) (p.par 0) (p.par 1)
  obtain ⟨r, hq⟩ := suspectCommand_handled (s := taking s n p) (w1 := p.par 1) hv (.inl rfl) hp hc
  rw [hq] at hk
  refine answers_executed (execSuspectReport_act s) h (actSuspectReport_of hq) (deferredStatus_executed _) rfl hk.handler_ports
    hk.handler_EXEC fun t he hx hr => ?_
  have hm : t.mg = _ := (congrArg State.mg he.bare_inc :)
  refine ⟨hx, ?_, fun ho => ?_, ?_⟩
  · rw [hm]
    rwa [replyWords_nil (by decide) (by decide)] at hr
  · rw [hm]
    exact suspectHandled_off (s := taking s n p) ho
  · rw [he.rd_all (by decide), suspectHandled_counts (.inl rfl)]
    exact suspectNoted_counts (.inl rfl) (taking s n p) r

theorem suspectReport_permanent (h : Taken s n p 0x80) (hv : bits 31 30 (p.par 0) = 2)
    (hp : s.present (bits 13 0 (p.par 0) / 64) = true) (hc : isCluster (bits 13 0 (p.par 0) / 64) = true) :
    Answers .suspectReport s (fun t => Executed s t ∧
      Replied s t n p (if t.mg.deferred = true then stDEFERRED else stOK) [] ∧
      t.rd MG_CNT.PERM = (s.rd MG_CNT.PERM + 1) % 2 ^ MG_CNT.PERM.width) := by
  have hk := handler_suspectCommand (taking s n p) (p.par 0) (p.par 1)
  obtain ⟨r, hq⟩ := suspectCommand_handled (s := taking s n p) (w1 := p.par 1) hv (.inr rfl) hp hc
  rw [hq] at hk
  refine answers_executed (execSuspectReport_act s) h (actSuspectReport_of hq) (deferredStatus_executed _) rfl hk.handler_ports
    hk.handler_EXEC fun t he hx hr => ?_
  have hm : t.mg = _ := (congrArg State.mg he.bare_inc :)
  refine ⟨hx, ?_, ?_⟩
  · rw [hm]
    rwa [replyWords_nil (by decide) (by decide)] at hr
  · rw [he.rd_all (by decide), suspectHandled_counts (.inr rfl)]
    exact suspectNoted_counts (.inr rfl) (taking s n p) r

theorem suspectReport_refuses (h : Taken s n p 0x80) (hv : bits 31 30 (p.par 0) = 0) :
    Answers .suspectReport s (fun t => Replied s t n p stBADPARAM [] ∧ t.mg = s.mg) :=
  answers_refused (execSuspectReport_act s) h (actSuspectReport_of (suspectCommand_refuses hv _)) rfl rfl rfl
    fun _ he hr => ⟨hr, (congrArg State.mg he.bare_same :)⟩

theorem suspectClear_clears (h : Taken s n p 0x81) (hc : isCluster (p.par 0) = true) (hp : s.present (p.par 0) = true) :
    Answers .suspectClear s (fun t => Executed s t ∧ t.rd MG_CL.SUS (p.par 0) = 0) := by
  have hk := handler_suspectClear (taking s n p) (p.par 0)
  have hcp : (isCluster (p.par 0) && (taking s n p).present (p.par 0)) = true := Bool.and_eq_true_iff.2 ⟨hc, hp⟩
  refine answers_executed rfl h (if_pos hcp) (suspectClear_executed ..) rfl hk.handler_ports hk.handler_EXEC
    fun t he hx _ => ⟨hx, ?_⟩
  exact (he.rd_all (by decide) _).trans (suspectClear_SUS ..)

theorem coreCtrl_divides (h : Taken s n p 0x82) (hc : isCluster (p.par 0 / 64) = true)
    (hp : s.present (p.par 0 / 64) = true) (hd : (p.par 1).testBit 31 = true) (hg : (p.par 1).testBit 30 = false) :
    Answers .coreCtrl s (fun t => Executed s t ∧ Replied s t n p stOK [] ∧ t.rd CORE_DIV.DIV (p.par 0) = p.par 1 % 4) := by
  have hlt := isCluster_lt hc
  refine answers_executed rfl h (actCoreCtrl_controls hc hp (by simp [hg])) rfl rfl (congrArg Cmd.ports (coreCtrl_cmd ..))
    (coreCtrl_EXEC hlt ..) fun t he hx hr => ⟨hx, hr, ?_⟩
  exact (he.rd_below (N := 12288) (by decide) (by omega)).trans (coreCtrl_DIV hlt hd hg _)

theorem coreCtrl_gates (h : Taken s n p 0x82) (hc : isCluster (p.par 0 / 64) = true) (hp : s.present (p.par 0 / 64) = true)
    (hg : (p.par 1).testBit 30 = true) (hv : (p.par 1).testBit 9 = true) :
    Answers .coreCtrl s (fun t => Executed s t ∧ t.bit CORE_GATE.GATE (p.par 0 % 64) (p.par 0 / 64) = true) := by
  have hlt := isCluster_lt hc
  refine answers_executed rfl h (actCoreCtrl_controls hc hp (by simp [hv])) rfl rfl (congrArg Cmd.ports (coreCtrl_cmd ..))
    (coreCtrl_EXEC hlt ..) fun t he hx hr => ⟨hx, ?_⟩
  rw [State.bit, he.rd_below (N := 192) (by decide) hlt]
  exact coreCtrl_GATE hlt hg hv _

theorem marginRead_replies (h : Taken s n p 0x83) (hc : isCluster (p.par 0) = true) (hp : s.present (p.par 0) = true) :
    Answers .marginRead s (fun t => Executed s t ∧ Replied s t n p stOK
      ([0x7200 + 8 * p.par 0, 0x7204 + 8 * p.par 0].map (taking s n p).regWord)) := by
  have hcp : (isCluster (p.par 0) && (taking s n p).present (p.par 0)) = true := Bool.and_eq_true_iff.2 ⟨hc, hp⟩
  exact answers_executed rfl h (if_pos hcp) rfl rfl rfl rfl fun _ _ hx hr => ⟨hx, hr⟩

theorem fwLoad_loads (h : Taken s n p 0x90) (hp : s.rd FW_STAT.SW_PEND ≠ 1) (hl : s.slotState (1 - s.rd FW_STAT.ACTIVE) ≠ 1) :
    Answers .fwLoad s (fun t => Executed s t ∧ Outstands t n p ∧ t.slotState (1 - s.rd FW_STAT.ACTIVE) = 1) := by
  have hk := handler_showSlot (taking s n p) (1 - s.rd FW_STAT.ACTIVE) 1 0
  refine answers_outstanding rfl h (actFwLoad_loads hp hl) hk.handler_EXEC fun t he hx => ⟨hx, he.putOut, ?_⟩
  rw [he.slotState, slotState_putOut]
  exact (showSlot_shows ..).1

theorem fwSwitch_switches (h : Taken s n p 0x91) (hv : s.slotState (1 - s.rd FW_STAT.ACTIVE) = 2)
    (hp : s.rd FW_STAT.SW_PEND ≠ 1) (hr : s.carRole = rMEMBER) (hs : s.scheduleStatus (s.targetOf p) = stOK) :
    Answers .fwSwitch s (fun t => Executed s t ∧ Replied s t n p stOK [] ∧ t.rd FW_STAT.SW_PEND = 1 ∧
      t.rd FW_STAT.ACTIVE = s.rd FW_STAT.ACTIVE) := by
  have hk := (handler_schedule (kept_handler (taking s n p)) hs .switch).handler_wr (F := FW_STAT.SW_PEND) (by decide) 0 1
  refine answers_executed rfl h (actFwSwitch_switches hv hp hr hs) rfl rfl hk.handler_ports hk.handler_EXEC fun t he hx hr =>
    ⟨hx, hr, ?_, ?_⟩
  · rw [he.rd_all (by decide), rd_wr_same]
    rfl
  · rw [he.rd_all (by decide), rd_wr_off (by decide)]
    rfl

theorem fwSwitch_empty (h : Taken s n p 0x91) (hv : s.slotState (1 - s.rd FW_STAT.ACTIVE) = 0) :
    Answers .fwSwitch s (fun t => Replied s t n p stBADPARAM [] ∧ t.rd FW_STAT.SW_PEND = s.rd FW_STAT.SW_PEND) := by
  refine answers_refused rfl h (actFwSwitch_empty hv) rfl rfl rfl fun t he hr => ⟨hr, ?_⟩
  exact he.rd _ _ (Fld.unanswered_all (by decide) _)

theorem imgLoad_loads (h : Taken s n p 0x92)
    (hi : s.imgRefusal (bits 3 0 (p.par 0)) (bits 5 4 (p.par 0)) (bits 8 8 (p.par 0)) = none) :
    Answers .imgLoad s (fun t => Executed s t ∧ Outstands t n p) :=
  answers_outstanding rfl h (actImgLoad_loads hi) rfl fun _ he hx => ⟨hx, he.putOut⟩

theorem stageWrite_stages (h : Taken s n p 0x93) (h4 : p.par 0 % 4 = 0)
    (hl : p.par 0 + 4 * (p.params.drop 1).length ≤ 262144) (hp : s.rd FW_STAT.SW_PEND ≠ 1) :
    Answers .stageWrite s (fun t => Executed s t ∧ Replied s t n p stOK [] ∧
      t.slotState (1 - s.rd FW_STAT.ACTIVE) ≠ 2 ∧
      ∀ i < 4 * (p.params.drop 1).length, Table.get 0 (t.slot (1 - s.rd FW_STAT.ACTIVE)).mem (p.par 0 + i) =
        at0 (p.params.drop 1) (i / 4) / 256 ^ (i % 4) % 256) := by
  have hk := handler_staged (taking s n p) (p.par 0) (p.params.drop 1)
  refine answers_executed rfl h (actStageWrite_stages h4 hl hp) rfl rfl hk.handler_ports hk.handler_EXEC fun t he hx hr =>
    ⟨hx, hr, ?_, fun i hi => ?_⟩
  · rw [he.slotState]
    exact staged_slotState (taking s n p) _ _
  · have ht : t.fw = ((taking s n p).staged (p.par 0) (p.params.drop 1)).fw := (congrArg State.fw he.bare_inc :)
    rw [show t.slot (1 - s.rd FW_STAT.ACTIVE) = _ from slot_congr ht _]
    exact staged_mem (taking s n p) _ _ hi

theorem lockSet_sets (h : Taken s n p 0x94) :
    Answers .lockSet s (fun t => Executed s t ∧ LocksKept s.locks t.locks ∧
      (t.locks.cfg = (s.locks.cfg || (p.par 0).testBit 0)) ∧ (t.locks.perm = (s.locks.perm || (p.par 0).testBit 8)) ∧
      (t.locks.transport = (s.locks.transport || (p.par 0).testBit 9)) ∧ (t.locks.fw = (s.locks.fw || (p.par 0).testBit 10)) ∧
      (t.locks.diag = (s.locks.diag || (p.par 0).testBit 11))) := by
  have hl := lockWord_bits (p.par 0)
  refine answers_executed (u := (taking s n p).setLocks (lockWord (p.par 0))) rfl h rfl rfl rfl rfl rfl fun t he hx _ => ?_
  have ht : t.locks = s.locks.join (lockWord (p.par 0)) := (congrArg State.locks he.bare_inc :)
  rw [ht, hl]
  exact ⟨hx, (LocksKept.refl _).join _, rfl, rfl, rfl, rfl, rfl⟩

theorem lockRead_replies (h : Taken s n p 0x95) :
    Answers .lockRead s (fun t => Executed s t ∧ t.locks = s.locks ∧ Replied s t n p stOK s.lockWords) :=
  answers_executed rfl h rfl rfl rfl rfl rfl fun _ he hx hr => ⟨hx, (congrArg State.locks he.bare_inc :), hr⟩

theorem regRead_reads {off : Nat} (h : Taken s n p 0xF1) (hp : p.params = [off])
    (hc : s.accessCause svcAcc false off = none) :
    Answers .regRead s (fun t => Executed s t ∧ Replied s t n p stOK [((taking s n p).readWord svcAcc off).1]) := by
  have hk := handler_readWord (taking s n p) off
  have ha := readAll_passed (s := taking s n p) hc
  rw [← hp] at ha
  refine answers_executed (execRegRead_act s) h (actRegRead_of ha) rfl rfl hk.handler_ports hk.handler_EXEC
    fun _ _ hx hr => ⟨hx, hr⟩

theorem regRead_refuses {off c : Nat} (h : Taken s n p 0xF1) (hp : p.params = [off])
    (hc : s.accessCause svcAcc false off = some c) :
    Answers .regRead s (fun t => Replied s t n p stBADPARAM [] ∧ t.rd GSTAT.ACCESS_ERR = 1) := by
  have hk := handler_accessError (taking s n p) false off c
  have ha := readAll_refused (s := taking s n p) hc
  rw [← hp] at ha
  refine answers_refused (execRegRead_act s) h (actRegRead_of ha) rfl rfl hk.handler_ports fun t he hr => ⟨hr, ?_⟩
  exact (he.rd _ _ (Fld.unanswered_all (by decide) _)).trans (accessError_spec ..).1

theorem regWrite_writes {v : Nat} (h : Taken s n p 0xF2) (hp : p.params = [0x440, v]) :
    Answers .regWrite s (fun t => Executed s t ∧ Replied s t n p stOK [] ∧
      t.rd DOM_CTRL.TELEM_MS = max 1 (min 100 (v % 128))) := by
  have ha := writeAll_DOM_CTRL (taking s n p) v
  rw [← hp] at ha
  refine answers_executed (execRegWrite_act s) h (actRegWrite_of ha) rfl rfl (congrArg Cmd.ports (domCtrlSet_cmd ..))
    (domCtrlSet_EXEC ..) fun t he hx hr => ⟨hx, hr, ?_⟩
  exact (he.rd_all (by decide) _).trans (domCtrlSet_TELEM ..)

theorem meterIdent_replies (h : Taken s n p 0xA0) :
    Answers (.meterIdent none) s (fun t => Executed s t ∧ Replied s t n p stOK
      [s.rd MTR_SERIAL.SERIAL, s.rd MTR_ROMCRC.ROMCRC, s.rd MTR_SEAL.BREAKS * 65536 + s.rd MTR_SEAL.CAL_GEN,
       s.mirrorState]) :=
  answers_executed (act := actMirrorIdent) rfl h rfl rfl rfl rfl rfl fun _ _ hx hr => ⟨hx, hr⟩

theorem meterRead_replies (h : Taken s n p 0xA1) :
    Answers (.meterRead none) s (fun t => Executed s t ∧ ∃ ws, Replied s t n p stOK ws ∧ ws.length = 7 ∧
      at0 ws 2 = s.rd MTR_E.E_IN % 2 ^ 32 ∧ at0 ws 3 = s.rd MTR_E.E_IN / 2 ^ 32 % 2 ^ 32) :=
  answers_executed (act := actMirrorRead) rfl h rfl rfl rfl rfl rfl fun _ _ hx hr => ⟨hx, _, hr, rfl, rfl, rfl⟩

end

/-- Settles O58: a lemma for each command and outcome, by what its act leaves (`answers_executed`, `answers_outstanding`,
`answers_refused`). -/
theorem controlCommands : Obligations.ControlCommands := by
  unfold Obligations.ControlCommands
  exact ⟨fun _ _ _ => loopOpen_opens, fun _ _ _ => loopOpen_conflict, fun _ _ _ => loopClose_closes,
    fun _ _ _ => bankSwitch_switches, fun _ _ _ => bankSwitch_conflict, fun _ _ _ => traceArm_arms,
    fun _ _ _ => engRead_replies, fun _ _ _ => nodeDump_asks, fun _ _ _ => lease_withdraws, fun _ _ _ => lease_steward,
    fun _ _ _ => lease_alone, fun _ _ _ => carrierCap_sets, fun _ _ _ => pelSet_sets, fun _ _ _ => pelRead_replies,
    fun _ _ _ => recoveryReport_reports, fun _ _ _ => recoveryStep_die, fun _ _ _ => recoveryStep_power,
    fun _ _ _ => recoveryStep_conflict, fun _ _ _ => warmRestart_restarts, fun _ _ _ => errRead_replies,
    fun _ _ _ => errClear_clears, fun _ _ _ => suspectReport_transient, fun _ _ _ => suspectReport_permanent,
    fun _ _ _ => suspectReport_refuses, fun _ _ _ => suspectClear_clears, fun _ _ _ => coreCtrl_divides,
    fun _ _ _ => coreCtrl_gates, fun _ _ _ => marginRead_replies, fun _ _ _ => fwLoad_loads,
    fun _ _ _ => fwSwitch_switches, fun _ _ _ => fwSwitch_empty, fun _ _ _ => imgLoad_loads,
    fun _ _ _ => stageWrite_stages, fun _ _ _ => lockSet_sets, fun _ _ _ => lockRead_replies, fun _ _ _ _ => regRead_reads,
    fun _ _ _ _ _ => regRead_refuses, fun _ _ _ _ => regWrite_writes, fun _ _ _ => meterIdent_replies,
    fun _ _ _ => meterRead_replies⟩

end Sys2Proof
